-- ==== Sys2Proof/Word.lean ====
section
/-!
DEFINITION. Word.lean: the register word, the byte and the plainest arithmetic on them.
-/

namespace Sys2Proof

/-- One register word: every access is one 32-bit word (R609). -/
abbrev Word := BitVec 32

/-- One byte. -/
abbrev Byte := BitVec 8

end Sys2Proof
end

