-- ==== Sys2Proof/Data.lean ====
section
/-!
DEFINITION. Data.lean: the plain data types of the model: what a command carries from outside, and the pieces of the state.
-/

namespace Sys2Proof

/-! ### Architecture and benches (01) -/

/-- The two virtual channels of a lane (01, Handshake channels). -/
inductive Vc where
  | request | response
deriving DecidableEq, Repr

/-- What a flit is addressed to: a bench, or a role of a replicated class (R27). -/
inductive FlitDest where
  | bench (b : Nat)
  | role (cls r : Nat)
deriving DecidableEq, Repr

/-- One lane in one direction: the two benches at its ends and its number within the bundle of Table ARC-2. -/
structure Lane where
  src : Nat
  dst : Nat
  num : Nat
deriving DecidableEq, Repr

/-- A flit (01, Handshake channels): the header's destination, channel, role sequence number and type, 64 bytes of
payload, and whether its CRC-32C holds. -/
structure Flit where
  vc : Vc
  dest : FlitDest
  chan : Nat
  seq : Nat
  typ : Nat
  payload : Nat
  crcOk : Bool
deriving DecidableEq, Repr

/-- A detected failure: the row of Table ARC-5 that names the object (from 1), whether its recovery source had it,
for an XPT or CMD state bank entry, the connection or the command slot it held (R23), and for an entry of the cache directory,
the line it named (R22). -/
structure Repair where
  row : Nat
  recovered : Bool
  conn : Option Nat
  slot : Option Nat
  line : Option (Nat × Nat)
deriving DecidableEq, Repr

/-! ### Time (02) -/

/-- What the default best master clock algorithm compares (R41): priority 1, clock class, accuracy and variance, priority 2,
the clock's identity, and the steps removed. -/
structure ClockDs where
  prio1 : Nat
  cls : Nat
  accuracy : Nat
  variance : Nat
  prio2 : Nat
  identity : Nat
  steps : Nat
deriving DecidableEq, Repr

/-- What the image gives PTP (R41): the domain, the MAC of the PTP port of each Ethernet port, and the clock's quality. -/
structure PtpCfg where
  domain : Nat
  macs : List Nat
  clock : ClockDs
deriving DecidableEq, Repr

/-- The transports of PTP (R41): UDP over IPv4, UDP over IPv6, IEEE 802.3. -/
inductive PtpTransport where
  | udp4 | udp6 | ieee8023
deriving DecidableEq, Repr

/-- A PTP message that the CTL cores process (R41): an Announce with its data set and currentUtcOffset; a one-step Sync with the
offset measured; a two-step Sync, and the Follow_Up that carries its offset; a delay request; a peer delay request; a kind that
R41 excludes. -/
inductive PtpBody where
  | announce (ds : ClockDs) (utcOffset : Int)
  | sync (offset : Int)
  | syncTwoStep (seqId : Nat)
  | followUp (seqId : Nat) (offset : Int)
  | delayReq
  | pdelayReq
  | unsupported
deriving DecidableEq, Repr

/-- A PTP message received at a MAC. -/
structure PtpMsg where
  mac : Nat
  transport : PtpTransport
  domain : Nat
  body : PtpBody
deriving DecidableEq, Repr

/-! ### Fabric transport (03) -/

/-- Extension header of a DATA packet (Table XPT-4). -/
inductive NrtExt where
  | none
  | keyed (key addr totalLen : Nat)
  | readResp (req : Nat)
  | atomic (key op addr operand1 operand2 : Nat)
  | atomicResp (req original : Nat)
deriving DecidableEq, Repr

/-- The NRT header (Table XPT-2); `rsvd` holds the reserved bits of bytes 1, 2 and 7 as one number of 15 bits. -/
structure NrtHdr where
  ver : Nat
  typ : Nat
  last : Bool
  ord : Bool
  ackreq : Bool
  ackv : Bool
  renege : Bool
  path : Nat
  kind : Nat
  dcid : Nat
  rsvd : Nat
  psn : Nat
  msgId : Nat
  msgOfs : Nat
  ackPsn : Nat
  msgLimit : Nat
  payLen : Nat
  echoPath : Nat
  echoCe : Nat
deriving DecidableEq, Repr

/-- An NRT packet as it arrives (R71): its header, where it came from and its destination port, whether the network marked it, its
extension header, its payload with the first byte in the low bits, its CRC-32C, and the content of the host buffer that a command
capsule in it names, for a command other than a block command. -/
structure NrtPkt extends NrtHdr where
  udpPort : Nat
  srcAddr : Nat
  srcPort : Nat
  ceMarked : Bool
  ext : NrtExt
  payload : Nat
  crc : Nat
  buf : Nat
deriving DecidableEq, Repr

/-- The payload of a CONNECT, an ACCEPT or a REFUSE (Table XPT-5); NPATHS is the byte 18, and `zero` the bytes 29 to 31. -/
structure ConnectReq where
  srcCid : Nat
  initPsn : Nat
  initMsgId : Nat
  msgLimit : Nat
  sportBase : Nat
  npaths : Nat
  payload : Nat
  nonce : Nat
  reason : Nat
  zero : Nat
deriving DecidableEq, Repr

/-- The InfiniBand services (Table XPT-8). -/
inductive IbService where
  | rc | uc | ud | xrc
deriving DecidableEq, Repr

/-- A compatible-mode packet: its queue pair, its service, whether it carries immediate data or asks for an invalidation (Table
XPT-8), its PSN and place in its message, whether its CRC holds, and whether a CE mark came with it. -/
structure RocePkt where
  qp : Nat
  service : IbService
  imm : Bool
  inv : Bool
  psn : Nat
  crcOk : Bool
  ceMarked : Bool
  first : Bool
  last : Bool
  ackReq : Bool
  key : Nat
  addr : Nat
  len : Nat
  operand1 : Nat
  operand2 : Nat
  payload : Nat
  payLen : Nat
  buf : Nat
deriving DecidableEq, Repr

/-- An Acknowledge: its AETH as an acknowledgment with the code of its credit field, an RNR NAK with its delay in units, or a PSN
sequence or access error NAK. -/
inductive Aeth where
  | ack (credit : Nat)
  | rnr (delay : Nat)
  | nakSeq
  | nakError
deriving DecidableEq, Repr

/-- A CM REQ (R93): the peer, its queue pair, first PSN, path MTU, ACK timeout exponent and identity. -/
structure CmReq where
  srcAddr : Nat
  srcQp : Nat
  initPsn : Nat
  mtu : Nat
  ackExp : Nat
  valid : Bool
deriving DecidableEq, Repr

/-! ### Commands (05) -/

/-- A keyed SGL data block (R128, R139): the host's key, the address and the length. -/
structure KeyedBlk where
  key : Nat
  addr : Nat
  len : Nat
deriving DecidableEq, Repr

/-- The data description of a command (R139, R482): one keyed SGL data block, in-capsule data at an offset, a last segment
with an in-capsule list of keyed blocks, a PRP list of an endpoint command with whether its offsets are valid, nothing,
or a descriptor type that is not accepted. -/
inductive Sgl where
  | keyed (b : KeyedBlk)
  | inCapsule (len : Nat)
  | segment (bs : List KeyedBlk)
  | prp (offsetOk : Bool)
  | none
  | bad
deriving DecidableEq, Repr

/-- An NVMe command capsule (R135 to R139): the controller index and queue it came on, its place in the queue's order of
receipt on an NRT queue (the MSG_ID of its capsule) with its ORD flag, its fields, its data description, and the content of its
in-capsule data or, for a command other than a block command, of its host buffer, little-endian. -/
structure NvmeCmd where
  ctl : Nat
  qid : Nat
  cid : Nat
  opc : Nat
  fuse : Nat
  psdt : Nat
  nsid : Nat
  cdw2 : Nat
  cdw3 : Nat
  cdw10 : Nat
  cdw11 : Nat
  cdw12 : Nat
  cdw13 : Nat
  cdw14 : Nat
  cdw15 : Nat
  sgl : Sgl
  data : Nat
  dataLen : Nat
  fctype : Nat
  ord : Bool
  msg : Option Nat
deriving DecidableEq, Repr

/-! ### Cipher engine (12) -/

/-- A request descriptor (Table CIP-4): its fields, the requesting bench, the stores of its three addresses with their
offsets, and whether a reserved field is nonzero. -/
structure CipReq where
  src : Nat
  op : Nat
  gchk : Bool
  gout : Bool
  nodst : Bool
  rsvd : Bool
  count : Nat
  slot : Nat
  kgen : Nat
  rtag : Nat
  lba : Nat
  iv : Nat
  len : Nat
  srcAddr : Nat
  dstAddr : Nat
  aux : Nat
  aadLen : Nat
deriving DecidableEq, Repr

/-- What an instance finds when it executes a request (R357, R358): whether the source, AUX and AAD bytes hold their detection code,
whether the check datapath agrees, the bytes at SRC (for GCM_OPEN with the tag after them), and those at AUX. -/
structure CipFound where
  srcOk : Bool
  checkOk : Bool
  src : Nat
  aux : Nat
deriving DecidableEq, Repr

/-- A DH-HMAC-CHAP message from the host (R179): a negotiation with its transaction, its SC_C, and the hash functions and DH groups
it offers, in the host's order; a reply with its response and the host's public value; the success or failure that ends a
bidirectional exchange. -/
inductive AuthMsg where
  | negotiate (tid scc : Nat) (hashes groups : List Nat)
  | reply (response pub : Nat)
  | success2
  | failure2
deriving DecidableEq, Repr

/-! ### Attached memory (13) -/

/-- What one read of a burst brings from the DIMM (R372): the 64 ciphertext bytes and the 16 check bytes, as little-endian numbers. -/
structure BurstRead where
  cipher : Nat
  check : Nat
deriving DecidableEq, Repr

/-- A burst of attached memory that MEM reads (R373): its address, what the first and the second read bring, the cache line it
belongs to, and the numbers of what it holds otherwise (windows, commands, connections, counter sets, or messages by connection
and number). -/
structure BurstFail where
  pa : Nat
  first : BurstRead
  second : BurstRead
  line : Option (Nat × Nat)
  what : List (Nat × Nat)
deriving DecidableEq, Repr

/-- A DIMM as its SPD gives it (R365, R366): serial number, capacity in GiB, logical ranks, x8 devices, whether it is an RDIMM, its
highest speed as a MAX_SPEED code (2 for 6400 MT/s or more), and whether its channel trains. -/
structure Dimm where
  serial : Nat
  gib : Nat
  ranks : Nat
  x8 : Bool
  rdimm : Bool
  speed : Nat
  trains : Bool
deriving DecidableEq, Repr

/-! ### Members (14) -/

/-- A tag of a member command (R405): slot, queue of Table DRP-3 (0 for admin) and CID. -/
structure MTag where
  slot : Nat
  queue : Nat
  cid : Nat
deriving DecidableEq, Repr
/-- A member record a drive was found to hold (Table SVY-7), with its member's capacity in blocks. -/
structure DriveRec where
  valid : Bool
  slot : Nat
  group : Nat
  epoch : Nat
  lastFseq : Nat
  capacity : Nat
  /-- MSEQ, MEMBERS, ROWS and PAIR_GEN of the member record (Table SVY-7). -/
  mseq : Nat
  members : Nat
  rows : Nat
  pairGen : Nat
deriving DecidableEq, Repr


/-- What DRV finds at an enumeration (Table DRP-2, R398): the class code, CAP.CSS and CAP.TO in seconds, CMIC bit 0, NMIC
bit 0, whether namespace 1, the queues and MDTS, and the write cache are as R399 gives, the trained rate as a MAX_GEN code
(none below 16 GT/s), x1, and the member record the drive holds. -/
structure DriveFound where
  classCode : Nat
  css : Bool
  capTo : Nat
  cmic : Bool
  nmic : Bool
  formatOk : Bool
  queuesOk : Bool
  vwcOk : Bool
  gen : Option Nat
  x1 : Bool
  record : DriveRec
deriving DecidableEq, Repr

/-- A finding of patrol at a block (Table REB-6): kind 1 to 4 of its rows, 5 a block that fails its guard with no
reconstruction or copy that passes. -/
structure PatrolFind where
  slab : Nat
  blk : Nat
  kind : Nat
deriving DecidableEq, Repr

/-! ### Ethernet frames (15, 16) -/

/-- The IP header of a frame and the ports of its UDP or TCP header; addresses as 16 bytes, IPv4 mapped (R455); its length
field; whether it is an IPv4 fragment other than the first; whether it carries neighbour discovery. -/
structure IpHdr where
  v6 : Bool
  dscp : Nat
  ecn : Nat
  src : Nat
  dst : Nat
  proto : Nat
  sport : Nat
  dport : Nat
  len : Nat
  later : Bool
  nd : Bool
deriving DecidableEq, Repr

/-- A frame as it arrives at a MAC (R432): its length with the FCS, its codewords corrected and not correctable, its FCS,
an S-tag, its 802.1Q tag (VID and PCP), a second one, its addresses, Ethertype and IP header, the destination identifier
of its transport header (DCID or queue pair), its length up to the end of the transport headers, its first 128 bytes in
wire order (the first byte in the low bits), and whether its cells pass their CRC-32C (R469). -/
structure EthFrame where
  len : Nat
  corr : Nat
  uncorr : Nat
  fcsOk : Bool
  stag : Bool
  tag : Option (Nat × Nat)
  tag2 : Bool
  dst : Nat
  src : Nat
  etype : Nat
  ip : Option IpHdr
  key : Nat
  hdr : Nat
  head : Nat
  cellOk : Bool
deriving DecidableEq, Repr

/-- A PTP event message to be transmitted (R444): whether it is two-step, whether it goes over IPv6 and then has the two
bytes after its payload, and its sequenceId. -/
structure PtpTx where
  twoStep : Bool
  v6 : Bool
  pad : Bool
  seqId : Nat
deriving DecidableEq, Repr

/-- A frame that a bench originates (R453): its switch port (32 to 35 storage, 37 control), for a storage port the
connection and the UDP source port of its path, its length, its length up to the end of the transport headers, and the PTP
event message it carries, and its first bytes, little-endian. -/
structure OwnFrame where
  port : Nat
  key : Nat
  sport : Nat
  len : Nat
  hdr : Nat
  head : Nat
  ptp : Option PtpTx
deriving DecidableEq, Repr

/-! ### Endpoint (17) -/

/-- A submission entry fetched: its 64 bytes, whether its PRP entries have no forbidden offset, and the content of the host
buffer that an admin command or a range list names (log entry 42). -/
structure EpEntry where
  entry : Nat
  prpOk : Bool
  buf : Nat
deriving DecidableEq, Repr

end Sys2Proof

namespace Sys2Proof.Machine

/-! ### Benches, lanes and rotation (01) -/

/-- Bench states with the codes of R26. -/
inductive BenchState where
  | off | active | spare | reloading | selftest | faulted
deriving DecidableEq, Repr

/-- An event record (Table TEV-3). -/
structure EvRec where
  time : Nat
  source : Nat
  severity : Nat
  code : Nat
  data : Nat
deriving DecidableEq, Repr

/-- A snapshot area: what the last latch left at each offset of the window (R66, Tables TEV-8 and TEV-9). -/
structure Snap where
  seq : Nat
  latch : Nat
  target : Nat
  info : Nat
  evt : Nat
  counters : List (Nat × Word)
deriving DecidableEq, Repr

/-- A bench: its state (R26) and role (R27), when it became ACTIVE (R29), its faults and retest (R26), its repaired
failures of the last second (R24), its local time (R37, R38: whether it is in lock, the deviation found at the marker of a
time, and the local time that its count never falls below), its event buffer and watermark (R49, R50), its snapshot area. -/
structure Bench where
  state : BenchState
  role : Option Nat
  activeSince : Nat
  lastFault : Option Nat
  prevFault : Option Nat
  repairs : List Nat
  overLimit : Bool
  timeLock : Bool
  deviation : Int
  foundAt : Nat
  localMin : Nat
  stamps : List (Nat × Nat)
  evBuf : List EvRec
  evStalled : List EvRec
  watermark : Nat
  emitted : Nat
  snap : Snap
deriving DecidableEq, Repr

/-- One lane (R14 to R17): whether it is out of service, the two receiving FIFOs, and the flits sent on it that have not yet
entered one, in the order sent: a flit that failed its CRC-32C holds its place until it is resent (R14), and a full FIFO
stalls the sender. -/
structure LaneState where
  lane : Lane
  outOfService : Bool
  request : List Flit
  response : List Flit
  waiting : List Flit
deriving DecidableEq, Repr

/-- What a receiver keeps of a channel (R28): the sending bench or role, the channel, the receiving bench or role, the role
sequence number after the highest accepted, and the numbers behind it not yet accepted. -/
structure ChanEnd where
  src : FlitDest
  chan : Nat
  dest : FlitDest
  next : Nat
  missing : List Nat
deriving DecidableEq, Repr

/-- A flit that its sender retains until it is acknowledged (R16); a role's are the outbound log of its state bank (R27). -/
structure Unacked where
  sender : FlitDest
  lane : Lane
  flit : Flit
  resends : Nat
deriving DecidableEq, Repr

/-- Rotation and takeover of one class (R29, R30, R673): the completion of the last rotation or takeover (none before
the class first has a spare), a period that ended while the class could not rotate, the rotation in progress as
outgoing instance, spare and role, a rebinding deferred by a shot (R62), and the flits the class switch holds. -/
structure Rotation where
  lastDone : Option Nat
  owed : Bool
  busy : Option (Nat × Nat × Nat)
  deferred : Bool
  live : Bool
  held : List (Lane × Flit)
deriving DecidableEq, Repr

/-! ### Time base, events and shots (02) -/

/-- Servo states of Table TEV-2. -/
inductive Servo where
  | freerun | locking | locked | holdover
deriving DecidableEq, Repr

/-- An accepted shot that has not fired: its shot time, cause bits and first trigger (R55, R57). -/
structure Shot where
  time : Nat
  causes : Nat
  trigger : Nat
deriving DecidableEq, Repr

/-- States of a PTP port (R41). -/
inductive PtpState where
  | master | slave | passive
deriving DecidableEq, Repr

/-- A PTP port (R41): its state, the last Announce data set received on it, and the two-step Sync that awaits its Follow_Up. -/
structure PtpPort where
  port : Nat
  state : PtpState
  foreign : Option ClockDs
  pendingSync : Option Nat
deriving DecidableEq, Repr

/-- TIM (02): the master count and its fraction (R34, R36), the time marker (R37), the servo (R42), the PPS pins with the time
from which an absence of PPS_IN or a second of PPS_OUT counts (R43, R44), the accepted shots, the shot times fired, the shot pins
(R55 to R65), the PTP ports (R41) and the whole seconds PTP finds the count off by (Table TEV-1, SRC 2). -/
structure Tim where
  count : BitVec 64
  frac : Nat
  lastMarker : Option Nat
  lockRun : Nat
  lastUpdate : Option Nat
  firstUpdatePending : Bool
  ppsInLast : Option Nat
  ppsInFrom : Nat
  ppsMissRaised : Bool
  ppsOut : Bool
  ppsOutRise : Option Nat
  ppsOutFrom : Nat
  shots : List Shot
  fired : List Nat
  shotOut : Bool
  shotOutRise : Nat
  ptp : List PtpPort
  ptpSecs : Int
deriving DecidableEq, Repr

/-- The event logs at CTL (R50 to R53): records delivered and not entered, the newest 4,096 records entered (newest
first), the count entered and copied, the attached-memory log, drops since the last marker record, whether a marker is owed. -/
structure EvLog where
  delivered : List EvRec
  onChip : List EvRec
  copied : Nat
  memLog : List EvRec
  sinceMarker : Nat
  markerOwed : Bool
deriving DecidableEq, Repr

/-! ### Fabric transport (03) -/

/-- The two transports (R68). -/
inductive ConnMode where
  | nrt | roce
deriving DecidableEq, Repr

/-- NRT connection states of Table XPT-7 and queue-pair states of Table XPT-8. CLOSED and RESET are the absence of an
allocated connection. -/
inductive ConnState where
  | halfOpen | established | draining | resync | error | init | rtr | rts
deriving DecidableEq, Repr

/-- One path (R89, R90): window, marked share, what was acknowledged and marked in the present round trip, the send
order that ends it, whether the window was cut in it, consecutive timeouts, suspicion, when the next PROBE is
due and whether one awaits its ACK, CE marks to echo. -/
structure Path where
  cwnd : Rat
  alpha : Rat
  roundEnd : Nat
  roundMarked : Bool
  cutThisRound : Bool
  timeouts : Nat
  suspect : Bool
  probeAt : Nat
  probeOut : Bool
  ceToEcho : Nat
deriving DecidableEq, Repr

/-- What an outbound message carries (03, NRT packets; R103). A fetch and the read data name the host's key and address (R128). -/
inductive OutBody where
  /-- A response capsule of a command: CID, completion dword 0, status code type and code, do-not-retry. -/
  | response (cmd dw0 sct sc dnr : Nat)
  /-- A fetch of write data for a command, at an offset of its data. -/
  | fetch (cmd ofs : Nat) (at_ : KeyedBlk)
  /-- Read data placed in a host buffer for a command. -/
  | readData (cmd : Nat) (at_ : KeyedBlk) (data : Nat)
  /-- Data of a window READ_REQ. -/
  | windowData (req len data : Nat)
  /-- The result of a window ATOMIC. -/
  | atomicResp (req original : Nat)
deriving DecidableEq, Repr

/-- The payload of an NRT packet that the controller sends (Table XPT-3): none, a selective-acknowledgment bitmap by the numbers of
its bits, a set-up payload, a SYNC's epoch, or the bytes of a message at MSG_OFS. -/
inductive NrtBody where
  | none
  | bitmap (bits : List Nat)
  | setup (r : ConnectReq)
  | sync (epoch : Nat)
  | message (b : OutBody)
deriving DecidableEq, Repr

/-- An outbound message not yet sent in full (R76, R91): its MSG_ID (in compatible mode its first PSN), the offset of its next
packet, what it carries, and whether it may leave (R100). -/
structure OutMsg where
  msg : Nat
  ofs : Nat
  body : OutBody
  ready : Bool
deriving DecidableEq, Repr

/-- What the controller as responder returns for a request in compatible mode (R93, R94). -/
inductive RoceAns where
  | ack
  | read (len data : Nat)
  | atomic (original : Nat)
  | nakSeq
  | rnr
deriving DecidableEq, Repr

/-- A request of a queue pair that its responder has accepted and not answered (R94, R96): first PSN, last PSN and, once known, the answer.
Answers leave in the order of the requests. -/
structure RoceReq where
  first : Nat
  psn : Nat
  ans : Option RoceAns
deriving DecidableEq, Repr

/-- What the controller sends on a queue pair (R93 to R96): an acknowledgment with the code of its credit field (R94), a NAK (0 PSN
sequence error, 1 remote access error, 2 remote invalid request, 3 remote operational error), an RNR NAK with its timer code, a
READ response and an Atomic Acknowledge with their credit codes, a CNP, an outbound message. -/
inductive RoceOut where
  | ack (psn credit : Nat)
  | nak (psn kind : Nat)
  | rnrNak (psn timer : Nat)
  | readResp (psn len data credit : Nat)
  | atomicAck (psn original credit : Nat)
  | cnp
  | message (psn : Nat) (b : OutBody)
deriving DecidableEq, Repr

/-- What arrives on a queue pair (R98): a request or read response by kind, an Acknowledge, an Atomic Acknowledge, a CNP, an RTU. -/
inductive RoceIn where
  | pkt (kind : Nat) (p : RocePkt)
  | ack (psn : Nat) (a : Aeth) (ce : Bool)
  | atomicAck (psn original : Nat) (ce : Bool)
  | cnp
  | rtu
deriving DecidableEq, Repr

/-- A packet sent and not acknowledged cumulatively (R83, R87): its place in the order of sending, how often it was sent
again, whether it is acknowledged selectively, and how many later packets of its path have been acknowledged. -/
structure TxPkt where
  psn : Nat
  msgId : Nat
  ofs : Nat
  last : Bool
  path : Nat
  order : Nat
  sentAt : Nat
  retx : Nat
  acked : Bool
  laterAcked : Nat
  body : OutBody
deriving DecidableEq, Repr

/-- A reassembly entry (R79): the packets received with their payloads, the length when known, the first arrival. -/
structure Reasm where
  msgId : Nat
  kind : Nat
  ord : Bool
  ext : NrtExt
  pieces : List (Nat × Nat)
  length : Option Nat
  firstAt : Nat
deriving DecidableEq, Repr

/-- A connection context (R97). -/
structure Conn where
  index : Nat
  /-- The XPT role that owns the connection (R98). -/
  role : Nat
  gen : Nat
  mode : ConnMode
  state : ConnState
  since : Nat
  peerAddr : Nat
  peerCid : Nat
  peerSport : Nat
  /-- The controller's own SPORT_BASE, in compatible mode its UDP source port (R89, Table XPT-8). -/
  sport : Nat
  npaths : Nat
  payload : Nat
  nonce : Nat
  /-- The NVMe controller and queue the connection is bound to, once connected. -/
  queue : Option (Nat × Nat)
  lastRx : Nat
  closeSent : Nat
  closeAt : Nat
  /-- Receive stream: the cumulative point, received PSNs above it with their messages, the delivered low mark and the
  messages delivered above it, those of them whose mirror holds, the credit granted, open and complete messages. -/
  rcvPsn : Nat
  received : List (Nat × Nat)
  lowMark : Nat
  delivered : List Nat
  settled : List Nat
  granted : Nat
  reasm : List Reasm
  unacked : Nat
  ackDue : Option Nat
  ackPath : Nat
  renege : Bool
  /-- Send stream: next PSN and message, packets unacknowledged, messages not sent in full, those the partner holds a record of
  (R100, R103), credit from the peer, send ceiling. -/
  sndPsn : Nat
  sndMsg : Nat
  order : Nat
  una : List TxPkt
  waiting : List OutMsg
  committed : List (Nat × OutBody)
  /-- Fetches asked for and not answered: number of the request message (or its first PSN), the command, the place in its data. -/
  asked : List (Nat × Nat × Nat)
  peerLimit : Nat
  ceiling : Nat
  srtt : Option Rat
  rttvar : Rat
  /-- Expiries of the retransmission timeout since an ACK last advanced ACK_PSN (R88). -/
  backoff : Nat
  creditProbeAt : Nat
  nextPath : Nat
  paths : List Path
  epoch : Nat
  syncPending : Option Nat
  syncPsn : Nat
  /-- Stored atomic results (R96, R127): number of the request, value, and in NRT the MSG_ID of its response. -/
  atomics : List (Nat × Nat × Nat)
  /-- Compatible mode (R93 to R96): requests not yet answered, rates in Mb/s and when the next message may leave, marked share,
  recovery steps, CNP times, the peer's credit, retries, RNR and ACK timers. -/
  resp : List RoceReq
  nextTxAt : Nat
  rate : Rat
  target : Rat
  rAlpha : Rat
  recSteps : Nat
  cnpRxAt : Nat
  cnpTxAt : Option Nat
  hostCredit : Option Nat
  retries : Nat
  rnrRetries : Nat
  rnrAt : Option Nat
  ackExp : Nat
  nakSent : Bool
  /-- Spill (R97, R98): whether the context is in attached memory, its last use, the packets held for it. -/
  spilled : Bool
  lastUse : Nat
  held : List NrtPkt
  heldRoce : List RoceIn
  fetchQueued : Bool
deriving DecidableEq, Repr

/-- A freed index (R70): its next generation and when it was freed. -/
structure FreedIndex where
  index : Nat
  gen : Nat
  freedAt : Nat
deriving DecidableEq, Repr

/-! ### Hosts, controllers and namespaces (05 to 07) -/

/-- A host identity (Table NSA-1). Secrets are kept wrapped (R596): here as one number each. -/
structure Ident where
  index : Nat
  nqn : Nat
  hostId : Nat
  tenant : Nat
  priv : Nat
  auth : Nat
  hostSecret : Nat
  ctrlSecret : Nat
  func : Nat
  failTimes : List Nat
  refuseUntil : Nat
deriving DecidableEq, Repr

/-- A QoS profile (Table QOS-1). -/
structure Profile where
  maxKbps : Nat
  maxWkbps : Nat
  maxIops : Nat
  minKbps : Nat
  weight : Nat
  lclass : Nat
  burst : Nat
deriving DecidableEq, Repr

/-- The theoretical times of the three ceilings, in 1/65,536 of a unit (R205). -/
structure Tats where
  bytes : Nat
  wbytes : Nat
  ops : Nat
deriving DecidableEq, Repr

/-- A metering counter set (Table QOS-7) with the exact sum of costs in 1/232,792,560 of a cost unit (R216). -/
structure Meter where
  rdCmds : Nat
  wrCmds : Nat
  rdBytes : Nat
  wrBytes : Nat
  winOps : Nat
  winRd : Nat
  winWr : Nat
  wdCmds : Nat
  wdBytes : Nat
  cost : Nat
  held : Nat
  short : Nat
deriving DecidableEq, Repr

/-- A range of page C0h (Table NSA-9) with the blocks of it that are still lost. -/
structure LostRange where
  slba : Nat
  nlb : Nat
  remain : List Nat
  cause : Nat
  time : Nat
deriving DecidableEq, Repr

/-- Reservation state of a namespace (R189 to R191): type 0 none, 1 to 6; the holder's identity; registrants with keys. -/
structure Resv where
  rtype : Nat
  holder : Option Nat
  regs : List (Nat × Nat)
  gen : Nat
  ptpl : Bool
deriving DecidableEq, Repr

/-- A namespace (06) with its access state, profile, tags, counters, lost ranges and marks. -/
structure Namespace where
  nsid : Nat
  fixed : Bool
  group : Nat
  nsze : Nat
  ncap : Nat
  lbaf : Nat
  pit : Nat
  nmic : Nat
  tenant : Nat
  gen : Nat
  ready : Bool
  deleting : Bool
  attached : List Nat
  mapped : Nat
  /-- Runs of fixed rows, first row and count (R285). -/
  rows : List (Nat × Nat)
  /-- Regions whose background zero fill has not yet run (R186). -/
  unfilled : List Nat
  profile : Profile
  tats : Tats
  minTag : Rat
  startTag : Rat
  meter : Meter
  gap : Bool
  lastSat : Option Nat
  resv : Resv
  lostSeq : Nat
  overflow : Bool
  lost : List LostRange
  /-- Identities owing Deferred Write Error (R163), and for each identity how far lost ranges were reported (R195). -/
  marks : List Nat
  reported : List (Nat × Nat)
  /-- Group a namespace move takes the namespace to (R336). -/
  moveTo : Option Nat
deriving DecidableEq, Repr

/-- A freed namespace identifier and when its deletion completed (R182). -/
structure FreedNsid where
  nsid : Nat
  at_ : Nat
  gen : Nat
deriving DecidableEq, Repr

/-- The retired counter set of a tenant, when its last namespace left, and whether it is held (R218). -/
structure Tenant where
  id : Nat
  retired : Meter
  emptySince : Option Nat
  gap : Bool
deriving DecidableEq, Repr

/-- The metering snapshot of the latest shot whose copy is complete (R219). -/
structure MeterSnap where
  time : Nat
  seq : Nat
  ns : List (Nat × Nat × Meter × Bool)
  tenants : List (Nat × Meter × Nat × Bool)
deriving DecidableEq, Repr

/-- The queue modes of feature C1h (Table CMD-5). -/
inductive QMode where
  | free | orderedWrites | strict
deriving DecidableEq, Repr

/-- A queue of a controller (R132): its number, size, connection (CID) or none for an endpoint queue, ordering mode,
connection profile and ceilings, and its authentication. -/
structure Queue where
  qid : Nat
  size : Nat
  conn : Option Nat
  mode : QMode
  profile : Profile
  tats : Tats
  authReq : Bool
  authed : Bool
  /-- A DH-HMAC-CHAP exchange (R179): its progress, the challenge, its transaction, the hash function and DH group chosen, the
  controller's public value, and the explanation of the failure owed. -/
  authStep : Nat
  authNonce : Nat
  authTid : Nat
  authHash : Nat
  authGroup : Nat
  authPub : Nat
  authFail : Nat
  /-- Endpoint submission queue: base, completion queue; completion queue: base, vector, interrupts. -/
  sqBase : Nat
  cqid : Nat
  isCq : Bool
  vector : Nat
  ien : Bool
  head : Nat
  tail : Nat
  phase : Bool
deriving DecidableEq, Repr

/-- Registers and features of one NVMe controller (R131, R155 to R159, R192, R197). -/
structure Ctrl where
  index : Nat
  ident : Option Nat
  /-- Endpoint function of a static controller (R132). -/
  func : Option Nat
  cc : Nat
  csts : Nat
  kato : Nat
  lastCmd : Nat
  maxIoq : Nat
  queues : List Queue
  aers : List Nat
  /-- Waiting notices and notices sent whose page has not been read with RAE 0: type, information, page. -/
  notices : List (Nat × Nat × Nat)
  unread : List (Nat × Nat × Nat)
  /-- Features by identifier (0Bh, 0Fh, 04h, 07h, 0Ah, 82h, ...) as last set. -/
  features : List (Nat × Nat)
  /-- Namespaces whose attachment or format changed since page 04h was last read with RAE 0; the reservation notifications not yet read
  from page 80h, oldest first (type, NSID), and how many were ever logged (R191, R197). -/
  changed : List Nat
  resvLog : List (Nat × Nat)
  resvCount : Nat
  shutdown : Bool
  mem : Nat
deriving DecidableEq, Repr

/-! ### Data path (05, 08 to 11, 13) -/

/-- A block's content: 4,096 bytes as a little-endian number, its protection information, and the internal guard it was given when it
entered the controller (R169). -/
structure Blk where
  data : Nat
  pi : Nat
  guard : Nat
deriving DecidableEq, Repr

/-- A place in a stripe of a layout group. -/
structure Place where
  group : Nat
  stripe : Nat
  slab : Nat
  blk : Nat
deriving DecidableEq, Repr

/-- A survey entry with VALID 1 (Table SVY-1): written with zeroes, or at a place with its BGEN. -/
inductive Entry where
  | zero
  | at (p : Place) (bgen : Nat)
deriving DecidableEq, Repr

/-- The survey entry of one block; a block not listed is deallocated (R258). -/
structure Mapping where
  nsid : Nat
  lba : Nat
  entry : Entry
deriving DecidableEq, Repr

/-- A pending entry of a delta queue (R272): the command it belongs to and the new entry, none for a deallocation. -/
structure Pending where
  cmd : Nat
  nsid : Nat
  lba : Nat
  run : Nat
  new : Option Entry
deriving DecidableEq, Repr

/-- The three streams of a working face (R236). -/
inductive Stream where
  | host | reclaim | rebuild
deriving DecidableEq, Repr

/-- What a place of a stripe is for: a block of a host command, a window write-back, a moved block with the place it
comes from and the KIND of its record, a void block, or a block of a relocated slab. -/
inductive Owner where
  | cmd (id idx : Nat)
  | line (nsid lba : Nat)
  | move (old : Place) (kind : Nat)
  | void
  | reloc (stripe slab : Nat)
deriving DecidableEq, Repr

/-- One block of a stripe with the member metadata that is not computed from its place (Table LOG-3). DESIGN CHOICE (log
entry 21): the content is kept here as the plaintext it decrypts to; none while the data are not yet staged. -/
structure SBlock where
  slab : Nat
  blk : Nat
  owner : Owner
  nsid : Nat
  lba : Nat
  gen : Nat
  birth : Nat
  order : Nat
  content : Option Blk
deriving DecidableEq, Repr

/-- Stripe states of Table LOG-2 (FREE is the absence of an entry). -/
inductive StripeState where
  | opened | closed | sealed | live | freeing | lost
deriving DecidableEq, Repr

/-- A relocation record (R248): the slab it names, its new place, and whether its SEAL record is durable. -/
structure Reloc where
  slab : Nat
  newStripe : Nat
  newSlab : Nat
  effective : Bool
deriving DecidableEq, Repr

/-- A stripe (Tables LOG-2 and LOG-4) with its blocks. -/
structure Stripe where
  group : Nat
  num : Nat
  state : StripeState
  stream : Stream
  row : Nat
  /-- Slots in the order R242 chose them; from the seal on, MEMBERS in ascending order. -/
  members : List Nat
  keff : Nat
  m : Nat
  geom : Nat
  kp : Nat
  lastb : Nat
  fseq : Nat
  firstAt : Option Nat
  closedAt : Nat
  blocks : List SBlock
  acked : List Nat
  /-- MAP_DELTA records built at the seal and not yet applied or dropped. -/
  owed : Nat
  live : Nat
  relocs : List Reloc
  freeSent : Bool
  freeDurable : Bool
  lostMap : List (Nat × Nat)
  lostAt : Nat
  swept : Bool
deriving DecidableEq, Repr

/-- Where a slab lies: in a log stripe, or in a fixed stripe by group, row and number within the row. -/
inductive SRef where
  | log (group stripe : Nat)
  | fix (group row t : Nat)
deriving DecidableEq, Repr

/-- One block of a slab, as a member holds it. -/
structure BRef where
  stripe : SRef
  slab : Nat
  blk : Nat
deriving DecidableEq, Repr

/-- What a member command is for. -/
inductive MWork where
  /-- A read of one block for a read job. -/
  | read (b : BRef) (job : Nat)
  | slabWrite (group stripe slab : Nat)
  | fixWrite (upd : Nat) (b : BRef)
  | fixRead (upd : Nat) (b : BRef)
  | repair (b : BRef) (kind : Nat)
  | trim (positions : List (Nat × Nat))
  | health
deriving DecidableEq, Repr

/-- What the independent datapath finds of a PAR result (Table ARC-5, R232, Table MGT-8): it agrees, the replay agrees, or the replay
failed as well, and whether the bank header of the role passes its check. -/
inductive ParCheck where
  | ok
  | replayed (hdrOk : Bool)
  | failed
deriving DecidableEq, Repr

/-- A member command as DRV forms it (Table DRP-4, R402 to R404): opcode, first member LBA, blocks, the bus addresses of data (PRP)
and metadata (MPTR), the ranges of a Dataset Management, and for a write each block's stored bytes and member metadata. -/
structure MForm where
  opcode : Nat
  lba : Nat
  blocks : Nat
  prp : Nat
  mptr : Nat
  ranges : List (Nat × Nat)
  content : List (Nat × Nat)
deriving DecidableEq, Repr

/-- An outstanding or quarantined member command (Table DRP-5). -/
structure MCmd where
  tag : MTag
  work : MWork
  issued : Nat
  quarantined : Bool
deriving DecidableEq, Repr

/-- A member command that waits for room on its queue (R405), or for the fence window (R411). -/
structure MWait where
  slot : Nat
  queue : Nat
  work : MWork
deriving DecidableEq, Repr

/-- A block being read for a command (R311 to R313): block index, the block wanted, member reads awaited, blocks found
unreadable for it, and whether reconstruction reads were issued by tail cutting. -/
structure ReadJob where
  id : Nat
  cmd : Nat
  idx : Nat
  target : BRef
  awaiting : List BRef
  have_ : List BRef
  bad : List BRef
  issued : Nat
  cut : Bool
deriving DecidableEq, Repr

/-- A slot (R306 to R309, R322): its state, group, read errors of the last 24 h, when it became SUSPECT by its reference
instant, its absence entry, dirty regions (namespace and region), join order, and the drive it holds. -/
structure Slot where
  state : Nat
  group : Nat
  errs : List Nat
  ref : Nat
  absent : Option (Nat × Nat × Nat)
  /-- Whether a drain or join order for the slot is running (Table REB-7, reason 2). -/
  order : Bool
  allDirty : Bool
  dirty : List (Nat × Nat)
  drive : Option DriveRec
deriving DecidableEq, Repr

/-- A layout group (08 to 11). -/
structure Group where
  configured : Bool
  mounted : Bool
  rows : Nat
  cursor : Nat
  lastSlot : Nat
  fseq : Nat
  mapped : Nat
  fixedRows : Nat
  freeFixed : List Nat
  epoch : Nat
  holdSince : Option Nat
  holdEntered : Option Nat
  placedInPeriod : Nat
  demand : Rat
  /-- Rebuild work: stripes entered, whether each is still to do; whether rebuild waits for free positions. -/
  work : List (Nat × Nat)
  waiting : Bool
  indexSwept : Bool
  scan : Bool
  patrolAt : Nat
  patrolStart : Nat
  lostTotal : Nat
  fixNotice : Option Nat
  c2state : Nat
  priority : Bool
  objLost : Bool
  /-- Fixed stripes that the running priority patrol has visited: row and number in the row (R303). -/
  patrolled : List (Nat × Nat)
deriving DecidableEq, Repr

/-- A reshape in progress (R333 to R337). -/
structure Reshape where
  mode : Nat
  group : Nat
  geom : Nat
  k : Nat
  members : List Nat
  target : Nat
  nsid : Nat
  fseqStart : Nat
  phase : Nat
  total : Nat
deriving DecidableEq, Repr

/-- An object of a group's survey area (R265, R266): its kind of Table SVY-6, owner, index and NSGEN, the slot it occupies with
its copies present, the sequence it reflects, and what SVY holds of it. -/
structure SvyObj where
  group : Nat
  kind : Nat
  owner : Nat
  index : Nat
  gen : Nat
  slot : Option Nat
  copies : List Nat
  applied : Nat
  dirty : Bool
  oldest : Nat
  cached : Bool
  loading : Bool
  /-- Level in its tree (R262), extent form (R261), whether the role's bank holds a copy (R269), an eviction that waits for its write-back
  (R271), and at a standby the records indexed for it since it was last held (R278). Objects stand in the order of their last use. -/
  level : Nat
  ext : Bool
  inBank : Bool
  evicting : Bool
  indexed : Nat
deriving DecidableEq, Repr

/-- A delta-log block (R275): sequence, sequence of its last record, whether acknowledged. -/
structure DlogBlk where
  seq : Nat
  lastRec : Nat
  acked : Bool
  /-- Entries of the records that end in it, in the delta index until they are reflected (R277, Table MEM-3). -/
  entries : Nat
deriving DecidableEq, Repr

/-- Survey area of a group (R264 to R268): write sequence, member-record sequence, delta log, last write of a record. -/
structure SvyGroup where
  wseq : Nat
  mseq : Nat
  recAt : Nat
  head : Nat
  tail : Nat
  blocks : List DlogBlk
  copiedTo : Nat
  dlogNotice : Option Nat
  /-- Object slots given up since the last member record, not yet free (R265). -/
  old : List Nat
  /-- The member set whose arrangement of R264 is in force while a group reshape has laid the area out again; none, the group's own (R335). -/
  members : Option (List Nat)
deriving DecidableEq, Repr

/-! ### The tally (10) -/

/-- One run of a MAP_DELTA record (Table TLY-4). -/
structure MapRun where
  nsid : Nat
  lba : Nat
  run : Nat
  old : Option Entry
  new : Option Entry
deriving DecidableEq, Repr

/-- An item of a SEAL record (Table TLY-5). -/
inductive SealItem where
  | live (stripe fseq : Nat)
  | free (stripe : Nat)
  | lost (stripe : Nat)
  | relocAdd (stripe slab newStripe newSlab : Nat)
  | relocDel (stripe slab : Nat)
deriving DecidableEq, Repr

/-- Record bodies (Table TLY-3). -/
inductive RecBody where
  | mapDelta (cmd : Option Nat) (kind : Nat) (runs : List MapRun) (stripes : List Nat)
  | fixIntent (nsid gen slba nlb : Nat) (chk zero : Bool) (nchk region : Nat) (absent : List Nat)
  | fixDone (intent : Nat) (missed : Bool)
  | seal (items : List SealItem)
  | checkpoint (upto : Nat)
deriving DecidableEq, Repr

/-- A tally record (Table TLY-2): its place in the ring once written, and its progress (R294, R296). -/
structure Rec where
  seq : Nat
  wseq : Nat
  group : Nat
  moved : Bool
  len : Nat
  body : RecBody
  time : Nat
  offset : Option Nat
  acked : Bool
  durable : Bool
  released : Bool
deriving DecidableEq, Repr

/-- A fixed-layout update (R289): its record, the command or cache line it serves, its blocks, the member reads and
writes it awaits, and how far it is. -/
structure FixUpd where
  id : Nat
  seq : Nat
  cmd : Option Nat
  line : Bool
  nsid : Nat
  slba : Nat
  blocks : List Blk
  zero : Bool
  durable : Bool
  reads : List BRef
  writes : List BRef
  writesLeft : List BRef
  issued : Bool
  missed : Bool
  doneSent : Bool
  /-- Whether it is redone from its record (R301, R302). -/
  redo : Bool
deriving DecidableEq, Repr

/-- The content of one fixed-layout block, with the record that last wrote it; one not listed is zero filled (R287). -/
structure FixBlk where
  nsid : Nat
  lba : Nat
  content : Blk
  birth : Nat
deriving DecidableEq, Repr

/-- The tally store (R292, R294, R297 to R299): records not yet released in ring order, control block, stall, rate. -/
structure Tally where
  recs : List Rec
  seq : Nat
  wseq : Nat
  wcount : Nat
  cbTail : Nat
  cbAt : Nat
  ringGen : Nat
  stallSince : Option Nat
  stallNotice : Option Nat
  fillNotice : Option Nat
  rateAt : Nat
deriving DecidableEq, Repr

/-! ### Commands in flight (05) -/

/-- A content of a cache line that something waits to be durable (R113, R121, R122, R125): the line and its version, or the visible
WRITE whose bytes have not been merged into the line yet. -/
structure Need where
  nsid : Nat
  lba : Nat
  ver : Nat
  op : Option Nat
deriving DecidableEq, Repr

/-- How far a command is (R140, R146). -/
inductive Phase where
  | delivered | admitted | dispatched | met | mirrored
deriving DecidableEq, Repr

/-- A command in flight (R134, R140 to R146). Its number gives the order of delivery. -/
structure Cmd where
  id : Nat
  nv : NvmeCmd
  ident : Option Nat
  at_ : Nat
  readyAt : Nat
  ordered : Bool
  phase : Phase
  /-- Bytes of write data still to be fetched from host buffers, and the blocks received. -/
  toFetch : Nat
  /-- Pieces of its write data that have arrived: place, length, content. -/
  pieces : List (Nat × Nat × Nat)
  blocks : List Blk
  /-- Blocks that still need a place in a stripe (R238). -/
  unplaced : List Nat
  stripes : List Nat
  dirtyWait : List Need
  got : List (Nat × Blk)
  placing : Bool
  /-- Its lookups wait for survey objects that are being read (R270). -/
  paging : Bool
  waited : Bool
  bytes : Nat
  result : Option (Nat × Nat × Nat × Nat)
  /-- MSG_ID reserved for its response (R100). -/
  respMsg : Option Nat
  flushFor : List Nat
  recsLeft : List Nat
  /-- At a standby, the number the next mirrored window message had when the command's admission was mirrored. -/
  opMark : Nat
deriving DecidableEq, Repr

/-! ### Windows and cache (04, 13) -/

/-- A window table entry (R108, Table KEY-2). -/
structure Window where
  index : Nat
  tag : Nat
  valid : Bool
  nsid : Nat
  slba : Nat
  len : Nat
  base : Nat
  host : Nat
  rights : Nat
  dur : Nat
  excl : Bool
  publisher : Nat
  /-- The revocation in progress: the commands that asked for it. -/
  revoking : Option (List Nat)
  freedAt : Option Nat
deriving DecidableEq, Repr

/-- A cache line (R379) with its bytes when valid, and its state bits. -/
structure Line where
  nsid : Nat
  lba : Nat
  valid : Bool
  data : Nat
  dirty : Bool
  dirtyAt : Nat
  dur : Nat
  filling : Bool
  /-- The version of its content: a number that rises with every change of a line. -/
  ver : Nat
  /-- The write-back copy in progress: taken at this content and version; whether a merge became visible since. -/
  wb : Option Nat
  wbVer : Nat
  redirtied : Bool
  wbMet : Bool
  wbq : Bool
deriving DecidableEq, Repr

/-- A sector of the directory (Table MEM-4): age and eviction. -/
structure Sector where
  nsid : Nat
  sector : Nat
  age : Nat
  evict : Bool
deriving DecidableEq, Repr

/-- A window operation delivered and not finished (R116 to R121). -/
inductive WinKind where
  | read
  | write (data mask : Nat)
  | cas (cmp new : Nat)
  | fadd (add : Nat)
  | commit (blocks : List (Nat × Nat))
deriving DecidableEq, Repr

/-- A window message: connection, message number (MSG_ID or PSN), window, place in the namespace, and its progress. -/
structure WinOp where
  id : Nat
  cid : Nat
  msg : Nat
  key : Nat
  nsid : Nat
  dur : Nat
  byte : Nat
  len : Nat
  kind : WinKind
  /-- Whether it keeps the order of its connection (R81, R118). -/
  ord : Bool
  /-- Ceiling time before which it is not answered (R206). -/
  readyAt : Nat
  /-- Whether the partner's mirror was sent what it needs (R118), and whether it holds it. -/
  sent : Bool
  mirrored : Bool
  visible : Bool
  needs : List Need
  original : Nat
  /-- MSG_ID reserved for its response (R100). -/
  respMsg : Option Nat
  failed : Bool
  /-- Whether the message is settled or answered. -/
  acked : Bool
  /-- Blocks whose line it had filled (R381): the others of a read or atomic are hits (Table MEM-10, log entry 146). -/
  filled : List (Nat × Nat)
deriving DecidableEq, Repr

/-- A pending copy (R381): the message whose bytes it holds, its line, its bytes and byte mask. -/
structure PendCopy where
  cid : Nat
  msg : Nat
  nsid : Nat
  lba : Nat
  data : Nat
  mask : Nat
deriving DecidableEq, Repr

/-- The maintenance engine (R392, R393): operation, range, lines still to process. -/
structure Maint where
  op : Nat
  all : Bool
  nsid : Nat
  slba : Nat
  nlb : Nat
  left : List Need
deriving DecidableEq, Repr

/-- Where the response to a vendor request goes (R621, R623, R628): whether the partner forwarded it, the path it came on, the
requester's EID or, on path 3, the unit that relayed it with its relay tag. -/
structure ReplyTo where
  partner : Bool
  path : Nat
  eid : Nat
  relay : Nat
deriving DecidableEq, Repr

/-- What waits for the partner's mirror and goes on at its acknowledgment (R84, R100, R109, R118, R146, R174): a completion, an
admin response that no command holds, the settling of a delivered message, the visibility or the answer of a window message, a
publication or revocation, a send ceiling, a compatible-mode message, a tally record, the response to a vendor request. -/
inductive MirrorWhat where
  | completion (cmd : Nat)
  | response (cid msg : Nat) (b : OutBody)
  | settle (cid msg : Nat)
  | visible (op : Nat)
  | answer (op : Nat)
  | window (index : Nat) (cmd : Option Nat) (revoke : Bool)
  | ceiling (cid value : Nat)
  | range (cid psn : Nat)
  | tally (seq : Nat)
  | vendor (dest : ReplyTo) (tag command cc detail : Nat)
  | note
deriving DecidableEq, Repr

/-- An item sent to the partner's mirror and not acknowledged (R545, R546). -/
structure MirrorItem where
  seq : Nat
  what : MirrorWhat
deriving DecidableEq, Repr

/-! ### Keys and the cipher class (12) -/

/-- A key-table entry (Table CIP-3): slot, generation, kind (1 XTS, 2 GCM, 3 CTR), and the key as a free value. -/
structure KeyEntry where
  slot : Nat
  kgen : Nat
  kind : Nat
  key : Nat
deriving DecidableEq, Repr

/-- A key-cache entry of a role: the working key (R350), its last use, its seal counter and whether that counter is lost (R346, R347). -/
structure KeyCache where
  slot : Nat
  kgen : Nat
  key : Nat
  used : Nat
  counter : Nat
  ivLost : Bool
deriving DecidableEq, Repr

/-- A queued descriptor with whether it is a replay (R358) and the status its key lookup gave it, if it failed (R352). -/
structure CipWait where
  req : CipReq
  replay : Bool
  failed : Option Nat
deriving DecidableEq, Repr

/-- The state bank of a CIP role: key cache, descriptors queued in arrival order, loads in progress (slot, whether the
integrity value failed once, whether the entry was re-read for its KGEN), and the bytes carried below a KiB. -/
structure CipRole where
  cache : List KeyCache
  queue : List CipWait
  /-- Requests of benches that stall while the queue is full, oldest first (R14, R354). -/
  held : List CipWait
  loads : List (Nat × Bool × Bool)
  carried : Nat
deriving DecidableEq, Repr

/-! ### Commands of CTL that wait (06, 18) -/

/-- The kinds of command that take effect one at a time in the order of receipt (R174). -/
inductive NsOp where
  | create | delete | attach | detach | format | reservation
deriving DecidableEq, Repr

/-- What an admin command in flight still waits for (R174, R185, R188, R190, R285); `turn` is for a command received before it to
take effect. -/
inductive AdminWait where
  | turn (cmd : Nat) (op : NsOp)
  | create (cmd nsid : Nat)
  | delete (cmd : Nat) (nss : List Nat)
  | detach (cmd nsid : Nat) (idents : List Nat)
  | preempt (cmd nsid : Nat) (idents : List Nat)
  | format (cmd nsid lbaf pit : Nat)
  | zeroise (cmd slot : Nat)
deriving DecidableEq, Repr

/-! ### Drive ports (14) -/

/-- A drive port (R405 to R423), beside its DRV_PSTAT: the slot's inputs as accepted and as last captured, with the first
frame of each new value; when PWR_EN was set; when PERST_N is to be released; when it was released to a link not yet
trained; when the recovery of R413 is due; the containments of the last hour; the critical warning last read and when; an
inserted drive that waits for POWER_ON; when PWR_EN was last set (R518). -/
structure Port where
  accepted : Nat
  captured : Nat
  since : List Nat
  perstAt : Option Nat
  trainFrom : Option Nat
  recoverAt : Option Nat
  contains : List Nat
  crit : Nat
  polledAt : Nat
  waitPower : Bool
  pwrAt : Nat
deriving DecidableEq, Repr

/-! ### Ethernet ports and the switch (15, 16) -/

/-- A class stopped by received pause (R437): the class (8 for all, in mode 1), since when without a break, until when. -/
structure PauseStop where
  cls : Nat
  since : Nat
  until_ : Nat
deriving DecidableEq, Repr

/-- A class for which the port sends pause (R438): the class (8 for the MAC), since when, when a frame was last sent, and
whether TX_MAX_MS ended the sending. -/
structure PauseAsk where
  cls : Nat
  since : Nat
  sentAt : Nat
  capped : Bool
deriving DecidableEq, Repr

/-- A MAC (R436 to R441): received pause, the classes whose pause the watchdog ignores and until when, the classes SWC
asks to pause, what the port sends pause for, since when the transmit queue is empty, since when it is in transmit LPI,
the transmit wake time in force, the one agreed when it differs, and until when the link wakes from LPI (R440). -/
structure Mac where
  stops : List PauseStop
  ignore : List (Nat × Nat)
  asked : List Nat
  asks : List PauseAsk
  idleSince : Nat
  lpi : Option Nat
  tw : Option Nat
  twNext : Option Nat
  wake : Nat
deriving DecidableEq, Repr

/-- A port beside its MACs (R430, R444): the mode in force, the stamp queue (MAC index, sequenceId, stamp) and when its
overflow was last reported. -/
structure EthPort where
  mode : Nat
  stamps : List (Nat × Nat × Nat)
  stampNotice : Option Nat
deriving DecidableEq, Repr

/-- From where in the buffer a frame's cells were admitted (R461). -/
inductive Pool where
  | reserve | headroom | shared
deriving DecidableEq, Repr

/-- A frame in the packet buffer: its handle, input and output switch port, class, cells, pool, length, colour, CE mark set here, its
first bytes, when it arrived, a PTP event message it carries, and the destination and VID with which it leaves (R449, R453, R461). -/
structure SwFrame where
  handle : Nat
  dst : Nat
  vid : Nat
  input : Nat
  output : Nat
  cls : Nat
  cells : Nat
  pool : Pool
  len : Nat
  colour : Nat
  ce : Bool
  head : Nat
  time : Nat
  ptp : Option PtpTx
deriving DecidableEq, Repr

/-- A sample record (Table SWC-5). -/
structure Sample where
  time : Nat
  port : Nat
  flags : Nat
  fate : Nat
  out : Nat
  len : Nat
  caplen : Nat
  data : Nat
deriving DecidableEq, Repr

/-- Where the packets of a path last arrived (R453): the connection and its UDP source port; the MAC (32 + m for the
partner's MAC m), VID, class and source address. -/
structure Arrival where
  key : Nat
  sport : Nat
  mac : Nat
  vid : Nat
  cls : Nat
  src : Nat
deriving DecidableEq, Repr

/-! ### The endpoint (17) -/

/-- What a read of EPT fetches: n entries of a submission queue from an index on, or a piece of a command's write data. -/
inductive EpWhat where
  | sqe (ctl qid first n : Nat)
  | data (cmd ofs len : Nat)
deriving DecidableEq, Repr

/-- A tag of an EPT read (R489, R490): outstanding, or quarantined since a time, then by a timeout or by a reset; whether it
is the second attempt. -/
structure EpRead where
  tag : Nat
  func : Nat
  what : EpWhat
  issued : Nat
  second : Bool
  quarAt : Option Nat
  byReset : Bool
deriving DecidableEq, Repr

/-- A fetch of a command's write data: its length, the pieces received (place, length, content) and the pieces still to be
asked for, with whether each is a second attempt. -/
structure EpFetch where
  cmd : Nat
  func : Nat
  len : Nat
  got : List (Nat × Nat × Nat)
  left : List (Nat × Nat × Bool)
deriving DecidableEq, Repr

/-! ### The image, the fuses and the start (18, 21) -/

/-- A signature block (R504): KIND, KEY_INDEX, EXPONENT, the SHA-512 of its bytes 8 to 527, and what its SIGNATURE signs under its
key, header and entries as one buffer each (DESIGN CHOICE, log entry 132: a signature is the message it is of). -/
structure SigBlock where
  kind : Nat
  index : Nat
  exponent : Nat
  keyHash : Nat
  signed : List Nat
deriving DecidableEq, Repr

/-- Bytes 0 to 63 of a bank's header (Table BOOT-5). -/
structure BankHdr where
  magic : Nat
  format : Nat
  nsec : Nat
  crc : Nat
  fwSvn : Nat
  ownSvn : Nat
  version : List Nat
  ownVersion : Nat
  fwSigOfs : Nat
  ownSigOfs : Nat
  built : Nat
  rest : Nat
deriving DecidableEq, Repr

/-- A section of a bank: its entry (Table BOOT-6), the SHA-512 of its bytes as they are read, and its compatibility word (R567). -/
structure ImgSection where
  type : Nat
  domain : Nat
  flags : Nat
  offset : Nat
  length : Nat
  target : Nat
  digest : Nat
  found : Nat
  compat : Nat
deriving DecidableEq, Repr

/-- A setting entry (Table BOOT-11). -/
structure SetEntry where
  addr : Nat
  unit : Nat
  mask : Nat
  value : Nat
deriving DecidableEq, Repr

/-- What a bank holds (R501 to R505, R510, R511, R515, R585): its header, signature blocks, sections, the root key and validity of
its certificate chain, identity, setting list, initial identities with whether each entry's secrets unwrap under KOD, and what it
gives PTP. -/
structure BankImg where
  hdr : BankHdr
  fwSig : SigBlock
  ownSig : Option SigBlock
  sections : List ImgSection
  chainRoot : Nat
  chainOk : Bool
  ssvid : Nat
  ssid : Nat
  sn : Nat
  subnqn : Nat
  settings : List SetEntry
  idents : List (Ident × Bool)
  ptp : PtpCfg
deriving DecidableEq, Repr

/-- The boot flash (R499, R500): its usable size in MiB, the two descriptor copies (COUNT and PREFERRED of a valid one), and
the banks GOLDEN, A and B. -/
structure Flash where
  size : Nat
  desc : List (Option (Nat × Nat))
  banks : List BankImg
deriving DecidableEq, Repr

/-- The fuses (Table TRU-1); FW_SVN and OWN_SVN as the number of bits set. -/
structure Fuses where
  fkh : List Nat
  frevoke : Nat
  life : Nat
  fwSvn : Nat
  ownSvn : Nat
  dsn : Nat
  mfgDate : Nat
  vcore : Nat
  ownerKey : Nat
  ownerSeed : Nat
  dus : Nat
  certSig : Nat
deriving DecidableEq, Repr

/-- The start (R496, R517): what holds the unit in reset (0 PWRGOOD, 1 RESET_N, 2 FENCE_IN_N, 3 supplies, 4 tamper, 5 thermal),
whether a start is stopped (R509), its reference, the steps of Table BOOT-12 that have ended, the booted bank and its number,
when steps 4 and 6 ended, the highest PAIR_GEN of the member records (R552), and whether attached memory keeps the unit from service
(1 population or training, R367; 2 layout, R377). -/
structure Boot where
  held : Option Nat
  stopped : Bool
  startAt : Nat
  ended : List Nat
  img : Option BankImg
  bank : Nat
  step4At : Nat
  step6At : Nat
  genSeen : Nat
  memBad : Nat
deriving DecidableEq, Repr

/-- An X.509 certificate that TRU issues or rebuilds (R591, R592): serial number, issuer and subject as the bytes of their names, validity,
key, basicConstraints, the bits of keyUsage, the digest in the Fornor extension, signature. -/
structure Cert where
  serial : Nat
  issuer : List Nat
  notBefore : Nat
  notAfter : Nat
  subject : List Nat
  key : Nat
  ca : Bool
  pathLen : Option Nat
  usage : List Nat
  ext : Option Nat
  sig : Nat
deriving DecidableEq, Repr

/-- TRU (21): the nonce and whether one further evaluation keeps it (R589), the token area, whether keys were zeroised and
derivations blocked (R601), the THERMTRIP latch (R650), whether KSR is held and who has a wrap in the envelope (R596), KCW, the
memory key and the AK (Table TRU-7), the SPDM state of each path, when the signatures asked for end (R584, R593), whether
EXTEST or INTEST is loaded (R600), the nonce of a pairing message sent and not answered (R598), and the AK's certificate (R592). -/
structure Tru where
  nonce : Option Nat
  level2 : Bool
  token : Nat
  blocked : Bool
  trip : Bool
  ksr : Bool
  wraps : List (Option Nat)
  kcw : Option Nat
  memKey : Option Nat
  ak : Option Nat
  spdm : List (Nat × Nat)
  sigs : List Nat
  jtag : Bool
  pairNonce : Option Nat
  akCert : Option Cert
deriving DecidableEq, Repr

/-! ### Unit chain and pairing (19) -/

/-- The unit chain (R532 to R539): MAXCOUNT and UNITS of the last ADDR_ACK from downstream, when ADDR was last sent
downstream and not acknowledged, whether ADDR_ACK went upstream, since when ADDR is awaited, the TREQ outstanding (ESEQ and
t1), the last ESEQ and TREQ time, whether the count was stepped at a first TRESP, whether the downstream pair is driven, and
whether the upstream pair is lost. -/
structure Chain where
  downAck : Option (Nat × Nat)
  sentAt : Option Nat
  acked : Bool
  waitFrom : Option Nat
  treq : Option (Nat × Nat)
  eseq : Nat
  treqAt : Nat
  stepped : Bool
  dnDriven : Bool
  upLost : Bool
deriving DecidableEq, Repr

/-- A heartbeat path (R548): the last BSEQ accepted, the last expected instant, misses in a row, whether it is declared faulty. -/
structure BeatPath where
  bseq : Option Nat
  expected : Option Nat
  misses : Nat
  faulty : Bool
deriving DecidableEq, Repr

/-- A sequenced haul frame kept until it is acknowledged (R543): sequence, channel, resends, when last sent. -/
structure HaulKept where
  seq : Nat
  chan : Nat
  resends : Nat
  sentAt : Nat
deriving DecidableEq, Repr

/-- A half of the haul link (R543, R544, R574): sequences sent and accepted, frames kept, when it was last retrained, when a
failed authentication was last reported. -/
structure Half where
  txSeq : Nat
  rxSeq : Nat
  kept : List HaulKept
  recalAt : Nat
  authNotice : Option Nat
deriving DecidableEq, Repr

/-- A planned handover (R557): phase 1 drain, 2 gap; since when; whether a live activation ordered it. -/
structure Handover where
  phase : Nat
  since : Nat
  live : Bool
deriving DecidableEq, Repr

/-- A resynchronisation of the partner (R559): m0, copies still to be sent, copies in all. -/
structure Resync where
  m0 : Nat
  left : Nat
  total : Nat
deriving DecidableEq, Repr

/-- What the members hold, as a unit that returns reads it from them beside the copy of the tally store (R278, log entry 131): stripes,
survey entries, fixed-layout blocks. -/
structure Medium where
  stripes : List Stripe
  survey : List Mapping
  fixblks : List FixBlk
deriving DecidableEq, Repr

/-- The body of a mirror item or of a resynchronisation copy (Table PAIR-5): a connection context with the controller and queue it
is bound to, or its end (KIND 1), a command slot with the connection's marks as they are once it is settled, or its end (2), an
admission with the namespace's ceilings, tags and metering set (3), a completion commit (4), a tally record with the stripes and
fixed-layout update it names as the members hold them (5), the bytes of dirty lines with their durability mode and the message they
come from (6), a window table entry (7), a namespace with its key and the command, if one, whose whole effect this is with its dword 0 (R174), an identity, the cache
enable state and their ends, and the end of a controller (8), a slot, running orders and PWR_EN (9), and, as a copy alone, the tally store with what the members
hold. -/
inductive MirrorBody where
  | context (c : Conn) (k : Option Ctrl)
  | contextGone (cid : Nat)
  | slot (c : Cmd) (conn : Option Conn)
  | slotGone (id : Nat)
  | admission (c : Cmd) (nsid : Nat) (tats : Tats) (minTag startTag : Rat) (meter : Meter)
  | commit (c : Cmd)
  | record (r : Rec) (stripes : List Stripe) (fix : Option FixUpd)
  | lines (l : List PendCopy) (dur cid msg : Nat)
  | window (w : Window)
  | ns (n : Namespace) (key : Option KeyEntry) (done : Option (Nat × Nat))
  | nsGone (nsid : Nat) (done : Option (Nat × Nat))
  | ident (i : Ident)
  | identGone (index : Nat)
  | ctrlGone (index : Nat)
  | cache (en : Bool)
  | member (n : Nat) (x : Slot) (power : Bool)
  | store (t : Tally) (m : Medium)
deriving DecidableEq, Repr

/-- What a sequenced haul frame carries that has no row of its own (Table PAIR-4): a PWR_EN value (R418), a submission entry
relayed to the active, write data it asked for, the fetch of such data by the active, and read data and completions it returns
(R477), an ADMIN request forwarded and its response (R628), a piece of a firmware image with its offset and length (R564); anything else
acts in its own row. -/
inductive HaulBody where
  | other
  | power (slot : Nat) (on : Bool)
  | entry (ctl qid : Nat) (e : EpEntry)
  | writeData (cmd data : Nat)
  | fetch (func cmd len : Nat)
  | readData (ctl qid cid len data : Nat)
  | completion (ctl qid cid dw0 sct sc dnr : Nat)
  | admin (dest : ReplyTo) (tag command : Nat) (unwraps : Bool) (body : List Nat)
  | adminDone (dest : ReplyTo) (tag command cc detail : Nat) (body : List Nat)
  | piece (ofs len : Nat)
deriving DecidableEq, Repr

/-- A HELLO (R551): SLOT_B, role, generation, whether its mirror format is this unit's, and the digest of its owner manifest. -/
structure Hello where
  slotB : Nat
  role : Nat
  gen : Nat
  formatOk : Bool
  digest : Nat
deriving DecidableEq, Repr

/-- Pairing (R547 to R559): heartbeats sent, the two paths, the halves, the partner's generation, the 20 µs wait, the fence
(since when, when last released), the delay of controller B's fence at a start, whether the unit goes on without a partner at
a start, the pairing exchange and HELLO, the highest mirror item applied, items received above the next, whether mirror
reception is closed, the resynchronisation, at a RESYNC unit the highest MSEQ or tag that reached each object, the handover,
the hold of R570 as bench and time (at the standby and at the active alike), and whether this unit is retired (R577). -/
structure Pair where
  bseq : Nat
  beatAt : Nat
  wire : BeatPath
  haul : BeatPath
  halves : List Half
  peerGen : Nat
  actWait : Option Nat
  fenceAt : Option Nat
  released : Option Nat
  startDelay : Option Nat
  alone : Bool
  exchanged : Bool
  hello : Option Hello
  mack : Option Nat
  early : List (Nat × MirrorBody)
  closed : Bool
  resync : Option Resync
  copies : List ((Nat × Nat) × Nat)
  handover : Option Handover
  hold : Option (Nat × Nat)
  retired : Bool
deriving DecidableEq, Repr
/-! ### Live service and management (20, 22) -/

/-- A Firmware Commit in progress (R564, R569): its command, CA and bank, the image, and what is still awaited: bank writes,
descriptor writes or reads into the activation buffer. -/
structure FwCommit where
  cmd : Nat
  ca : Nat
  bank : Nat
  img : BankImg
  writes : Nat
  descs : Nat
  reads : Nat
deriving DecidableEq, Repr

/-- An access that waits for the end of a reload in place (R612): a register access of a path (a read, or a write of bits), a DWORD
of a BAR2 request, or a vendor request by its command. -/
inductive RegAccess where
  | read (path addr : Nat)
  | write (addr v mask : Nat)
  | bar2 (write : Bool) (addr v : Nat) (all : Bool)
  | vendor (d : ReplyTo) (tag command : Nat) (unwraps : Bool) (body : List Nat)
deriving DecidableEq, Repr

/-- Live service (20): pieces in the download buffer (offset and length), the commit, the benches still to be reloaded at
this unit, the bench whose reload runs with since when and whether an activation ordered it, benches that run the new bank,
when the last reload ended, the last step up of the core supply and its last notice, the last retraining of each memory
channel and rank, and the last ZQ, drift and alignment times. -/
structure Live where
  pieces : List (Nat × Nat)
  commit : Option FwCommit
  plan : List Nat
  busy : List (Nat × Nat × Bool)
  fresh : List Nat
  lastEnd : Nat
  stepUpAt : Option Nat
  maxNotice : Option Nat
  avsAt : Nat
  rankAt : List (Nat × Nat × Nat)
  zqAt : Nat
  alignAt : Nat
  ucode : List (Nat × Nat)
  /-- Accesses that wait for the end of a reload in place (R612), in order of arrival. -/
  waits : List RegAccess
  /-- Digest of the SerDes section that each bench's lanes run (R568). -/
  serdes : List (Nat × Nat)
  /-- Haul halves still to be retrained for a changed SerDes section (R568). -/
  halves : List Nat
deriving DecidableEq, Repr

/-- A request relayed over the chain and not answered (R623): its relay tag, the unit, when it was sent, and what its response
names: path, EID, TAG and command. -/
structure Relay where
  tag : Nat
  unit : Nat
  sentAt : Nat
  path : Nat
  eid : Nat
  reqTag : Nat
  command : Nat
deriving DecidableEq, Repr

/-- Management (22): the _HI latches by path (5 the control cores) and home key, the EID of each path, the relays and the
next relay tag, the requests outstanding on each path but those relayed, and the SMBus frequency of each port as Configuration
Set gave it, 0 before (R630). -/
structure Mgt where
  latches : List (Nat × Nat × Nat)
  eids : List Nat
  relays : List Relay
  relayTag : Nat
  busy : List Nat
  freq : List Nat
deriving DecidableEq, Repr

/-! ### Management (22) -/

/-- An event subscriber (R624, R625): its path and EID, its least severity, its queue (oldest first), the records dropped
since the last EV_NOTIFY, when an EV_NOTIFY without a response was sent, how many in a row had none, and when its drop
event was last raised. -/
structure Subscriber where
  path : Nat
  eid : Nat
  minSev : Nat
  queue : List EvRec
  lost : Nat
  sentAt : Option Nat
  missed : Nat
  dropRaised : Option Nat
deriving DecidableEq, Repr

end Sys2Proof.Machine

namespace Sys2Proof

open Sys2Proof.Machine

/-! ### Start-up (18) -/

/-- What a mount finds on the members of groups whose contents this unit has not held before (R277, R515): namespaces,
identities, tenants, stripes, survey entries, fixed-layout blocks and whether the key envelope opens (R597). -/
structure Mount where
  nss : List Namespace
  idents : List Ident
  tenants : List Tenant
  stripes : List Stripe
  survey : List Mapping
  fixblks : List FixBlk
deriving DecidableEq, Repr

/-- A step of Table BOOT-12 that ends, with what was found in it: 2 whether the ROM and fuses compare and the TRNG passes; 3;
4 the benches that failed self-test; 5 whether the upstream and downstream pairs are driven; 6; 7; 8; 9; 10; 11; 12 the
highest PAIR_GEN of the member records; 13 whether a valid control block was found and the groups whose tally is lost (R303);
14 whether the key envelope opens (R597) and what the members hold; and the
steps 7 and 8 of Table TRU-2. -/
inductive BootEnd where
  | rom (romOk fusesOk trngOk : Bool)
  | bank
  | settings (failed : List Nat)
  | chain (upDriven dnDriven : Bool)
  | time
  | memory (channels : List (List Dimm))
  | paired
  | drives
  | perst
  | regions
  | members (gen : Nat)
  | replay (valid : Bool) (lost : List Nat)
  | mount (envelope : Bool) (found : Option Mount)
  | dik (certOk : Bool)
  | ak
deriving DecidableEq, Repr

/-! ### Live service (20) -/

/-- What a Firmware Commit meets (R565, R567): the image in the download buffer, and at the partner the bank booted, whether
the bank passes R506 and its versions are at or above those running there, whether its digests equal this unit's, and whether
it can be activated live there. -/
structure CommitInfo where
  img : BankImg
  peerBooted : Nat
  peerPasses : Bool
  peerSvnOk : Bool
  peerSame : Bool
  peerLive : Bool
deriving DecidableEq, Repr

/-- What the flash finished (R564, R569): a bank written and read back, a descriptor written, or a bank read into the
activation buffer; at this unit or at the partner, and whether it went well. -/
inductive FlashEnd where
  | bank (partner ok : Bool)
  | descriptor (partner : Bool)
  | read (partner ok : Bool) (bank : Nat)
deriving DecidableEq, Repr

/-! ### Trust (21) -/

/-- A message of the pairing exchange (R598): SLOT_B, DSN, nonce, public value, OWNER_KEY, whether chain, certificates and
signature hold, and whether the peer holds KSR. -/
structure PairMsg where
  slotB : Nat
  dsn : Nat
  nonce : Nat
  pub : Nat
  ownerKey : Nat
  certsOk : Bool
  ksr : Bool
deriving DecidableEq, Repr

/-- An instruction of the JTAG port (R600): the mandatory ones of IEEE 1149.1 and 1149.6, INTEST, and any other code, which
acts as BYPASS. -/
inductive JtagIns where
  | bypass | sample | preload | extest | intest | extestPulse | extestTrain | other
deriving DecidableEq, Repr

/-! ### Management (22) -/

/-- A Fornor vendor request (Table MGT-2): whether its packets carry a right PEC (R619), the requester's EID, TAG, UNIT, whether CC and
DETAIL are 0, and its body as bytes. -/
structure VendorReq where
  pec : Bool
  eid : Nat
  tag : Nat
  unit : Nat
  zero : Bool
  body : List Nat
deriving DecidableEq, Repr

/-- What the health values of R631 read from outside: the highest die temperature in °C, whether a member reports a temperature
warning, and the highest Percentage Used of the members in service. -/
structure Sensors where
  die : Int
  memberWarn : Bool
  used : Nat
deriving DecidableEq, Repr

end Sys2Proof
end

