-- ==== Sys2Proof/Syntax.lean ====
section
/-!
DEFINITION. Syntax.lean: the commands the block takes, one constructor for each row of spec/opcode_table.json, with the
data from outside that each carries.
-/

namespace Sys2Proof

open Machine


/-! ### The commands -/

/-- The commands of spec/opcode_table.json, in the table's order. -/
inductive Instr where
  /-- FLIT_RECEIVE (R14). -/
  | flitReceive (l : Lane) (taken : Nat) (f : Flit)
  /-- FLIT_NAK (R16). -/
  | flitNak (l : Lane) (chan seq : Nat) (hdrOk : Bool)
  /-- DETECTION_REPAIR_DONE (R22). -/
  | detectionRepairDone (bench : Nat) (o : Repair) (hdrOk : Bool)
  /-- LIVENESS_TIMEOUT (R31). -/
  | livenessTimeout (bench : Nat) (hdrOk : Bool)
  /-- SELFTEST_COMPLETE (R26). -/
  | selftestComplete (bench : Nat) (pass : Bool)
  /-- FAULTED_RETEST_TIMER (R26). -/
  | faultedRetestTimer (bench : Nat)
  /-- ROTATION_PERIOD_EXPIRY (R29). -/
  | rotationPeriodExpiry (cls : Nat)
  /-- CTL_ROT_NOW (R29). -/
  | ctlRotNow (v : Word)
  /-- CTL_ROT_CFG_WRITE (R29). -/
  | ctlRotCfgWrite (v : Word)
  /-- ROTATION_DRAINED (R30). -/
  | rotationDrained (cls : Nat)
  /-- TIME_MARKER (R37). -/
  | timeMarker (dev : List (Nat × Int))
  /-- SERVO_UPDATE (R42). -/
  | servoUpdate (src : Nat) (offset : Int)
  /-- SERVO_UPDATE_TIMEOUT (R42). -/
  | servoUpdateTimeout
  /-- HOLDOVER_EXPIRY (R42). -/
  | holdoverExpiry
  /-- TIM_SRC_CFG_WRITE (R42). -/
  | timSrcCfgWrite (v : Word)
  /-- TIM_SET_STEP (R35). -/
  | timSetStep (v : Word)
  /-- PPS_IN_EDGE (R43). -/
  | ppsInEdge
  /-- PPS_IN_MISSING (R43). -/
  | ppsInMissing
  /-- PPS_OUT_SECOND (R44). -/
  | ppsOutSecond
  /-- PPS_OUT_WIDTH_END (R44). -/
  | ppsOutWidthEnd
  /-- SHOT_IN_EDGE (R55). -/
  | shotInEdge
  /-- SHOT_FIRE (R55). -/
  | shotFire
  /-- SHOT_SCHED (R55). -/
  | shotSched
  /-- SHOT_CHAIN_ISSUE (R65). -/
  | shotChainIssue
  /-- SHOT_CANCEL (R59). -/
  | shotCancel
  /-- SHOT_RELEASE (R58). -/
  | shotRelease
  /-- SHOT_TIME_REACHED (R60). -/
  | shotTimeReached
  /-- EVENT_RECORD_DELIVERY (R49). -/
  | eventRecordDelivery (bench : Nat)
  /-- EVENT_LOG_ENTRY (R50). -/
  | eventLogEntry
  /-- EVLOG_COPY (R52). -/
  | evlogCopy
  /-- NRT_DATA_PACKET (R78). -/
  | nrtDataPacket (p : NrtPkt)
  /-- NRT_ACK (R83). -/
  | nrtAck (p : NrtPkt)
  /-- NRT_CONNECT (R73). -/
  | nrtConnect (p : NrtPkt)
  /-- NRT_CLOSE (R75). -/
  | nrtClose (p : NrtPkt)
  /-- NRT_CLOSED (R75). -/
  | nrtClosed (p : NrtPkt)
  /-- NRT_PROBE (R85). -/
  | nrtProbe (p : NrtPkt)
  /-- REASSEMBLY_TIMEOUT (R82). -/
  | reassemblyTimeout (cid msgId : Nat)
  /-- ACK_DELAY_EXPIRY (R85). -/
  | ackDelayExpiry (cid : Nat)
  /-- RTO_EXPIRY (R88). -/
  | rtoExpiry (cid : Nat)
  /-- PATH_PROBE_TIMER (R90). -/
  | pathProbeTimer (cid path : Nat)
  /-- CREDIT_PROBE_TIMER (R91). -/
  | creditProbeTimer (cid : Nat)
  /-- HALF_OPEN_TIMEOUT (R75). -/
  | halfOpenTimeout (cid : Nat)
  /-- ERROR_HOLD_EXPIRY (R75). -/
  | errorHoldExpiry (cid : Nat)
  /-- CLOSE_RETRY_EXPIRY (R75). -/
  | closeRetryExpiry (cid : Nat)
  /-- SYNC_DEADLINE (R101). -/
  | syncDeadline (cid : Nat)
  /-- CONTEXT_FETCH_DONE (R98). -/
  | contextFetchDone (cid : Nat)
  /-- ROCE_SEND (R94). -/
  | roceSend (p : RocePkt)
  /-- ROCE_RDMA_WRITE (R96). -/
  | roceRdmaWrite (p : RocePkt)
  /-- ROCE_RDMA_READ_REQUEST (R96). -/
  | roceRdmaReadRequest (p : RocePkt)
  /-- ROCE_READ_RESPONSE (R93). -/
  | roceReadResponse (p : RocePkt)
  /-- ROCE_ACKNOWLEDGE (R93). -/
  | roceAcknowledge (qp psn : Nat) (a : Aeth) (ce : Bool)
  /-- ROCE_ATOMIC_ACKNOWLEDGE (R93). -/
  | roceAtomicAcknowledge (qp psn original : Nat) (ce : Bool)
  /-- ROCE_COMPARE_SWAP (R116). -/
  | roceCompareSwap (p : RocePkt)
  /-- ROCE_FETCH_ADD (R116). -/
  | roceFetchAdd (p : RocePkt)
  /-- ROCE_CNP (R95). -/
  | roceCnp (qp : Nat)
  /-- ROCE_ACK_TIMEOUT (R93). -/
  | roceAckTimeout (qp : Nat)
  /-- ROCE_RNR_TIMER (R94). -/
  | roceRnrTimer (qp : Nat)
  /-- ROCE_RATE_TIMER (R95). -/
  | roceRateTimer (qp : Nat)
  /-- CM_REQ (R93). -/
  | cmReq (r : CmReq)
  /-- CM_RTU (R93). -/
  | cmRtu (qp : Nat)
  /-- CM_DREQ (R93). -/
  | cmDreq (qp : Nat)
  /-- CM_DREP (R93). -/
  | cmDrep (qp : Nat)
  /-- CM_REJ (R93). -/
  | cmRej (qp : Nat)
  /-- WINDOW_COMMIT_DONE (R121). -/
  | windowCommitDone (op : Nat)
  /-- WINDOW_WRITEBACK_TIMER (R120). -/
  | windowWritebackTimer (nsid lba : Nat)
  /-- SET_FEATURES_WINDOW_PUBLISH (R110). -/
  | setFeaturesWindowPublish (v : NvmeCmd)
  /-- SET_FEATURES_WINDOW_REVOKE (R113). -/
  | setFeaturesWindowRevoke (v : NvmeCmd)
  /-- GET_FEATURES_WINDOW (R110). -/
  | getFeaturesWindow (v : NvmeCmd)
  /-- WINDOW_REVOKE_COMPLETE (R113). -/
  | windowRevokeComplete (index : Nat)
  /-- NVME_FLUSH (R154). -/
  | nvmeFlush (v : NvmeCmd)
  /-- NVME_WRITE (R140). -/
  | nvmeWrite (v : NvmeCmd)
  /-- NVME_READ (R153). -/
  | nvmeRead (v : NvmeCmd)
  /-- NVME_COMPARE (R135). -/
  | nvmeCompare (v : NvmeCmd)
  /-- NVME_WRITE_ZEROES (R135). -/
  | nvmeWriteZeroes (v : NvmeCmd)
  /-- NVME_DATASET_MANAGEMENT (R135). -/
  | nvmeDatasetManagement (v : NvmeCmd)
  /-- NVME_VERIFY (R135). -/
  | nvmeVerify (v : NvmeCmd)
  /-- UNSUPPORTED_OPCODE (R135). -/
  | unsupportedOpcode (v : NvmeCmd)
  /-- RESERVATION_REGISTER (R189). -/
  | reservationRegister (v : NvmeCmd)
  /-- RESERVATION_REPORT (R189). -/
  | reservationReport (v : NvmeCmd)
  /-- RESERVATION_ACQUIRE (R190). -/
  | reservationAcquire (v : NvmeCmd)
  /-- RESERVATION_RELEASE (R189). -/
  | reservationRelease (v : NvmeCmd)
  /-- COMMAND_ADMISSION (R140). -/
  | commandAdmission (role : Nat)
  /-- COMMAND_DISPATCH (R140). -/
  | commandDispatch (id : Nat) (dataOk : Bool)
  /-- COMMAND_COMPLETION (R146). -/
  | commandCompletion (id : Nat)
  /-- GET_LOG_PAGE (R137). -/
  | getLogPage (v : NvmeCmd)
  /-- LOG_PAGE_LOST_RANGES (R193). -/
  | logPageLostRanges (v : NvmeCmd)
  /-- LOG_PAGE_METERING (R221). -/
  | logPageMetering (v : NvmeCmd)
  /-- LOG_PAGE_LAYOUT_HEALTH (R193). -/
  | logPageLayoutHealth (v : NvmeCmd)
  /-- LOG_PAGE_EVENT_EXCERPT (R196). -/
  | logPageEventExcerpt (v : NvmeCmd)
  /-- IDENTIFY (R192). -/
  | identify (v : NvmeCmd)
  /-- ABORT (R160). -/
  | abort (v : NvmeCmd)
  /-- SET_FEATURES (R137). -/
  | setFeatures (v : NvmeCmd)
  /-- GET_FEATURES (R137). -/
  | getFeatures (v : NvmeCmd)
  /-- SET_FEATURES_QOS_PROFILE (R201). -/
  | setFeaturesQosProfile (v : NvmeCmd)
  /-- GET_FEATURES_QOS_PROFILE (R201). -/
  | getFeaturesQosProfile (v : NvmeCmd)
  /-- SET_FEATURES_QUEUE_ORDERING (R144). -/
  | setFeaturesQueueOrdering (v : NvmeCmd)
  /-- GET_FEATURES_QUEUE_ORDERING (R144). -/
  | getFeaturesQueueOrdering (v : NvmeCmd)
  /-- ASYNC_EVENT_REQUEST (R197). -/
  | asyncEventRequest (v : NvmeCmd)
  /-- NAMESPACE_CREATE (R182). -/
  | namespaceCreate (v : NvmeCmd)
  /-- NAMESPACE_DELETE (R185). -/
  | namespaceDelete (v : NvmeCmd)
  /-- NAMESPACE_SWEEP (R185). -/
  | namespaceSweep (nsid gen : Nat)
  /-- NAMESPACE_ATTACH (R187). -/
  | namespaceAttach (v : NvmeCmd)
  /-- NAMESPACE_DETACH (R188). -/
  | namespaceDetach (v : NvmeCmd)
  /-- DETACH_COMPLETE (R188). -/
  | detachComplete (cmd : Nat)
  /-- FORMAT_NVM (R186). -/
  | formatNvm (v : NvmeCmd)
  /-- FIRMWARE_IMAGE_DOWNLOAD (R564). -/
  | firmwareImageDownload (v : NvmeCmd)
  /-- FIRMWARE_COMMIT_WRITE (R564). -/
  | firmwareCommitWrite (v : NvmeCmd) (x : CommitInfo)
  /-- FIRMWARE_COMMIT_WRITE_PREFER (R564). -/
  | firmwareCommitWritePrefer (v : NvmeCmd) (x : CommitInfo)
  /-- FIRMWARE_COMMIT_PREFER (R564). -/
  | firmwareCommitPrefer (v : NvmeCmd) (x : CommitInfo)
  /-- FIRMWARE_COMMIT_ACTIVATE (R569). -/
  | firmwareCommitActivate (v : NvmeCmd) (x : CommitInfo)
  /-- KEEP_ALIVE (R157). -/
  | keepAlive (v : NvmeCmd)
  /-- CREATE_IO_SQ (R482). -/
  | createIoSq (v : NvmeCmd)
  /-- CREATE_IO_CQ (R482). -/
  | createIoCq (v : NvmeCmd)
  /-- DELETE_IO_SQ (R482). -/
  | deleteIoSq (v : NvmeCmd)
  /-- DELETE_IO_CQ (R482). -/
  | deleteIoCq (v : NvmeCmd)
  /-- FABRICS_CONNECT (R131). -/
  | fabricsConnect (cid : Nat) (v : NvmeCmd)
  /-- PROPERTY_GET (R138). -/
  | propertyGet (v : NvmeCmd)
  /-- PROPERTY_SET (R138). -/
  | propertySet (v : NvmeCmd)
  /-- PROPERTY_SET_CC_EN_CLEAR (R155). -/
  | propertySetCcEnClear (v : NvmeCmd)
  /-- PROPERTY_SET_CC_SHN (R158). -/
  | propertySetCcShn (v : NvmeCmd)
  /-- PROPERTY_SET_NSSR (R159). -/
  | propertySetNssr (v : NvmeCmd)
  /-- AUTHENTICATION_SEND (R180). -/
  | authenticationSend (v : NvmeCmd) (m : AuthMsg)
  /-- AUTHENTICATION_RECEIVE (R180). -/
  | authenticationReceive (v : NvmeCmd)
  /-- KEEP_ALIVE_EXPIRY (R157). -/
  | keepAliveExpiry (ctl : Nat)
  /-- SHUTDOWN_COMPLETE (R158). -/
  | shutdownComplete (ctl : Nat)
  /-- MEMBER_WAIT_NOTICE (R149). -/
  | memberWaitNotice (id : Nat)
  /-- AUTH_LOCKOUT_EXPIRY (R181). -/
  | authLockoutExpiry (ident : Nat)
  /-- GRANT_PERIOD (R208). -/
  | grantPeriod
  /-- CMD_QOS_CFG_WRITE (R205). -/
  | cmdQosCfgWrite (v : Word)
  /-- CMD_QOS_GCAP_WRITE (R211). -/
  | cmdQosGcapWrite (g : Fin 8) (v : Word)
  /-- METER_SAVE_TIMER (R220). -/
  | meterSaveTimer
  /-- SEAL_TIME_EXPIRY (R239). -/
  | sealTimeExpiry (group stripe : Nat)
  /-- STRIPE_SEAL (R239). -/
  | stripeSeal (group stripe : Nat) (bad : List Nat) (check : ParCheck)
  /-- SEAL_WAIT_EXPIRY (R239). -/
  | sealWaitExpiry (group stripe : Nat)
  /-- STRIPE_RELEASE (R249). -/
  | stripeRelease (group stripe : Nat)
  /-- SPOIL_RECLAIM_VICTIM (R250). -/
  | spoilReclaimVictim (group : Nat) (bad : List (Nat × Nat))
  /-- TALLY_RECORD_WRITTEN (R294). -/
  | tallyRecordWritten
  /-- TALLY_RECORD_DURABLE (R294). -/
  | tallyRecordDurable (seq : Nat)
  /-- TALLY_CONTROL_BLOCK_TIMER (R296). -/
  | tallyControlBlockTimer
  /-- SURVEY_OBJECT_LOADED (R270). -/
  | surveyObjectLoaded (group kind level owner index : Nat) (bad : List Nat)
  /-- SURVEY_WRITEBACK_DONE (R276). -/
  | surveyWritebackDone (group : Nat)
  /-- DELTA_LOG_BLOCK_ACKED (R275). -/
  | deltaLogBlockAcked (group : Nat)
  /-- MEMBER_RECORD_TIMER (R268). -/
  | memberRecordTimer (group : Nat)
  /-- SURVEY_REBUILD_SCAN (R280). -/
  | surveyRebuildScan (group : Nat) (freed : List Nat) (found : List (Nat × Nat × Nat × Nat × Nat))
  /-- OBJECT_REHOME (R265). -/
  | objectRehome (group : Nat)
  /-- MEMBER_COMMAND_AGE (R307). -/
  | memberCommandAge (slot : Nat)
  /-- MEMBER_FAIL_TIMER (R307). -/
  | memberFailTimer (slot : Nat)
  /-- MEMBER_RETURN_EXPIRY (R307). -/
  | memberReturnExpiry (slot : Nat)
  /-- DRIVE_OFFER (R309). -/
  | driveOffer (slot : Nat) (r : DriveRec)
  /-- LAY_MCMD_DRAIN (R307). -/
  | layMcmdDrain (slot : Nat)
  /-- LAY_MCMD_FAIL (R307). -/
  | layMcmdFail (slot : Nat)
  /-- LAY_MCMD_JOIN (R307). -/
  | layMcmdJoin (slot : Nat)
  /-- LAY_MCMD_FORGET (R307). -/
  | layMcmdForget (slot : Nat)
  /-- RECONCILIATION_DONE (R330). -/
  | reconciliationDone (slot : Nat)
  /-- JOIN_RECORD_WRITTEN (R307). -/
  | joinRecordWritten (slot : Nat)
  /-- REBUILD_INDEX_SWEEP (R316). -/
  | rebuildIndexSweep (group : Nat)
  /-- REBUILD_STRIPE (R317). -/
  | rebuildStripe (group : Nat) (bad : List (Nat × Nat))
  /-- TAIL_CUT_DEADLINE (R313). -/
  | tailCutDeadline (job : Nat)
  /-- REGION_RESYNC (R323). -/
  | regionResync (slot : Nat) (bad : List (Nat × Nat × Nat × Nat))
  /-- PATROL_VISIT (R332). -/
  | patrolVisit (group : Nat) (finds : List PatrolFind)
  /-- RESHAPE_START (R333). -/
  | reshapeStart (v : Word)
  /-- RESHAPE_SWITCHOVER (R337). -/
  | reshapeSwitchover
  /-- CIP_XTS_ENC (R344). -/
  | cipXtsEnc (r : CipReq)
  /-- CIP_XTS_DEC (R344). -/
  | cipXtsDec (r : CipReq)
  /-- CIP_XTS_ZERO (R341). -/
  | cipXtsZero (r : CipReq)
  /-- CIP_GCM_SEAL (R346). -/
  | cipGcmSeal (r : CipReq)
  /-- CIP_GCM_OPEN (R345). -/
  | cipGcmOpen (r : CipReq)
  /-- CIP_CTR (R348). -/
  | cipCtr (r : CipReq)
  /-- CIP_KEY_ZERO (R353). -/
  | cipKeyZero (r : CipReq)
  /-- CIP_RESULT (R356). -/
  | cipResult (role : Nat) (f : CipFound) (hdrOk : Bool)
  /-- KEY_LOAD_DONE (R352). -/
  | keyLoadDone (role slot : Nat) (intact : Bool)
  /-- MEM_REGION_READY (R368). -/
  | memRegionReady (r : Nat)
  /-- DIMM_TEMP_CHANGE (R369). -/
  | dimmTempChange (channel celsius : Nat)
  /-- LINE_FILL_DONE (R381). -/
  | lineFillDone (nsid lba : Nat) (fails : List BurstFail)
  /-- LINE_WRITEBACK_DONE (R383). -/
  | lineWritebackDone (nsid lba : Nat)
  /-- CACHE_SET_EN (R389). -/
  | cacheSetEn
  /-- CACHE_CLR_EN (R390). -/
  | cacheClrEn
  /-- CACHE_DISABLE_COMPLETE (R390). -/
  | cacheDisableComplete
  /-- MNT_CLEAN (R393). -/
  | mntClean (all : Bool)
  /-- MNT_INVALIDATE (R393). -/
  | mntInvalidate (all : Bool)
  /-- MNT_COMPLETE (R393). -/
  | mntComplete
  /-- MEMBER_COMPLETION (R405). -/
  | memberCompletion (tag : MTag) (cq : Nat) (ok : Bool) (got : Option (Nat × Nat)) (warn : Nat)
  /-- MEMBER_DMA_REQUEST (R404). -/
  | memberDmaRequest (slot : Nat) (write : Bool) (addr len : Nat)
  /-- MEMBER_ERROR_MESSAGE (R412). -/
  | memberErrorMessage (slot kind : Nat)
  /-- DRIVE_LINK_DOWN (R412). -/
  | driveLinkDown (slot : Nat)
  /-- DRV_NONPOSTED_TIMEOUT (R412). -/
  | drvNonpostedTimeout (slot : Nat)
  /-- CONTAINMENT_RECOVERY (R413). -/
  | containmentRecovery (slot : Nat)
  /-- DRIVE_ENUMERATED (R400). -/
  | driveEnumerated (slot : Nat) (f : DriveFound)
  /-- HEALTH_POLL (R408). -/
  | healthPoll (slot : Nat)
  /-- TRIM_GATHER_EXPIRY (R409). -/
  | trimGatherExpiry (slot : Nat)
  /-- SBC_FRAME (R415). -/
  | sbcFrame (inputs : Nat)
  /-- DRV_POWER_ON (R421). -/
  | drvPowerOn (slot : Nat)
  /-- DRV_POWER_OFF (R423). -/
  | drvPowerOff (slot : Nat)
  /-- DRIVE_STAGE_TIMER (R420). -/
  | driveStageTimer
  /-- PERST_RELEASE_TIMER (R420). -/
  | perstReleaseTimer (slot : Nat)
  /-- FENCE_WRITE_WINDOW_END (R411). -/
  | fenceWriteWindowEnd
  /-- MAC_LINK_UP (R429). -/
  | macLinkUp (mac : Nat) (common eee : Bool)
  /-- MAC_LINK_DOWN (R431). -/
  | macLinkDown (mac atPort : Nat)
  /-- ETH_FRAME_RECEIVE (R432). -/
  | ethFrameReceive (mac : Nat) (f : EthFrame)
  /-- ETH_FRAME_TRANSMIT (R453). -/
  | ethFrameTransmit (mac cls : Nat) (own : Option OwnFrame)
  /-- PAUSE_FRAME (R437). -/
  | pauseFrame (mac quanta : Nat)
  /-- PFC_FRAME (R437). -/
  | pfcFrame (mac : Nat) (quanta : List (Nat × Nat))
  /-- PAUSE_TIME_EXPIRY (R437). -/
  | pauseTimeExpiry (mac cls : Nat)
  /-- PAUSE_REPEAT_TIMER (R438). -/
  | pauseRepeatTimer (mac cls : Nat)
  /-- PAUSE_SEND_CAP (R438). -/
  | pauseSendCap (mac cls : Nat)
  /-- PFC_WATCHDOG_DETECT (R439). -/
  | pfcWatchdogDetect (mac cls atPort : Nat)
  /-- PFC_WATCHDOG_RESTORE (R439). -/
  | pfcWatchdogRestore (mac cls : Nat)
  /-- LPI_IDLE_EXPIRY (R440). -/
  | lpiIdleExpiry (mac : Nat)
  /-- LLDP_EEE_TLV (R441). -/
  | lldpEeeTlv (mac rxTw : Nat)
  /-- PTP_MESSAGE (R41). -/
  | ptpMessage (m : PtpMsg)
  /-- PRT_STAT_READ (R445). -/
  | prtStatRead (path port sub idx : Nat) (hi : Bool)
  /-- HAUL_FORWARD_FRAME (R457). -/
  | haulForwardFrame (fromMac cls : Nat) (toMac : Option Nat) (f : EthFrame)
  /-- EP_LINK_UP (R491). -/
  | epLinkUp (speed width : Nat)
  /-- EP_LINK_RESET (R491). -/
  | epLinkReset (kind : Nat)
  /-- EP_FLR (R488). -/
  | epFlr (f : Nat)
  /-- EP_BME_WRITE (R487). -/
  | epBmeWrite (f : Nat) (on : Bool)
  /-- EP_POWER_STATE (R485). -/
  | epPowerState (f : Nat) (d3 : Bool)
  /-- EP_VF_ENABLE (R473). -/
  | epVfEnable (num : Nat)
  /-- EP_DOORBELL (R483). -/
  | epDoorbell (f qid : Nat) (cq : Bool) (val : Nat)
  /-- EP_CC_ENABLE (R481). -/
  | epCcEnable (f cc aqa : Nat)
  /-- EP_SQE_FETCHED (R483). -/
  | epSqeFetched (tag : Nat) (es : List EpEntry)
  /-- EP_READ_COMPLETION (R489). -/
  | epReadCompletion (tag status data : Nat)
  /-- EP_COMPLETION_TIMEOUT (R490). -/
  | epCompletionTimeout (tag ctoUs : Nat)
  /-- EP_QUARANTINE_EXPIRY (R490). -/
  | epQuarantineExpiry (tag ctoUs : Nat)
  /-- EP_L1_IDLE (R486). -/
  | epL1Idle (aspm : Bool)
  /-- EP_LTR_IDLE (R486). -/
  | epLtrIdle
  /-- EP_MSIX_UNMASK (R484). -/
  | epMsixUnmask (f vector : Nat)
  /-- CONTROLLER_START (R496). -/
  | controllerStart (bootSel : Nat) (slotB : Bool) (flash : Option Flash)
  /-- RESET_ASSERT (R496). -/
  | resetAssert (kind : Nat)
  /-- BOOT_STEP_END (R517). -/
  | bootStepEnd (e : BootEnd)
  /-- MEMBER_WAIT_EXPIRY (R518). -/
  | memberWaitExpiry (slot : Nat)
  /-- TIME_WAIT_EXPIRY (R523). -/
  | timeWaitExpiry
  /-- SERVICE_START (R524). -/
  | serviceStart
  /-- STANDBY_SERVICE_START (R522). -/
  | standbyServiceStart
  /-- CHAIN_ADDR (R533). crcOk: whether the frame's CRC-32C holds and its TYPE is defined (R530). -/
  | chainAddr (crcOk : Bool) (a : Nat)
  /-- CHAIN_ADDR_ACK (R533). -/
  | chainAddrAck (crcOk : Bool) (maxCount units : Nat)
  /-- ADDR_REPEAT_TIMER (R533). -/
  | addrRepeatTimer
  /-- HEAD_WAIT_EXPIRY (R532). -/
  | headWaitExpiry
  /-- TREQ_TIMER (R536). -/
  | treqTimer
  /-- CHAIN_TREQ (R536). -/
  | chainTreq (crcOk : Bool) (eseq : Nat)
  /-- CHAIN_TRESP (R536). -/
  | chainTresp (crcOk : Bool) (eseq t2 t3 : Nat)
  /-- CHAIN_SHOT (R540). -/
  | chainShot (crcOk : Bool) (t issuer : Nat) (fromUp : Bool)
  /-- CHAIN_RESET (R535). -/
  | chainReset (crcOk : Bool) (src : Nat) (fromUp : Bool)
  /-- CHN_CHAIN_RESET_CMD (R535). -/
  | chnChainResetCmd
  /-- CHAIN_MGMT (R623). -/
  | chainMgmt (crcOk : Bool) (dst kind relay src command cc detail : Nat) (r : VendorReq) (fromUp : Bool)
  /-- CHAIN_UPSTREAM_LOST (R539). -/
  | chainUpstreamLost
  /-- CHAIN_UPSTREAM_RESTORED (R539). -/
  | chainUpstreamRestored
  /-- HAUL_FRAME_RECEIVE (R543). -/
  | haulFrameReceive (half chan seq : Nat) (ack : Option Nat) (nak tagOk : Bool) (body : HaulBody)
  /-- HAUL_RESEND_TIMER (R543). -/
  | haulResendTimer (half : Nat)
  /-- HAUL_HALF_DOWN (R544). -/
  | haulHalfDown (half : Nat)
  /-- HAUL_HALF_UP (R541). -/
  | haulHalfUp (half : Nat)
  /-- HEARTBEAT_TIMER (R547). -/
  | heartbeatTimer
  /-- HEARTBEAT_BEAT (R547). -/
  | heartbeatBeat (haul : Bool) (bseq role gen : Nat)
  /-- GOODBYE (R549). -/
  | goodbye
  /-- HEARTBEAT_MISS (R548). -/
  | heartbeatMiss (haul : Bool)
  /-- ACTIVE_FENCE_WAIT (R551). -/
  | activeFenceWait
  /-- FENCE_HOLD_EXPIRY (R553). -/
  | fenceHoldExpiry
  /-- PAIR_WAIT_EXPIRY (R551). -/
  | pairWaitExpiry
  /-- MIRROR_ITEM (R546). -/
  | mirrorItem (mseq : Nat) (body : MirrorBody)
  /-- MIRROR_MACK (R546). -/
  | mirrorMack (mseq : Nat)
  /-- HELLO (R551). -/
  | hello (h : Hello)
  /-- RESYNC_COPY (R559). -/
  | resyncCopy (tag : Nat) (body : MirrorBody)
  /-- HAL_HANDOVER_CMD (R557). -/
  | halHandoverCmd
  /-- HAL_UNFENCE_CMD (R553). -/
  | halUnfenceCmd
  /-- HANDOVER_DRAIN_END (R557). -/
  | handoverDrainEnd
  /-- HANDOVER_ITEM (R557). -/
  | handoverItem (mseq : Nat)
  /-- HANDOVER_TIMEOUT (R558). -/
  | handoverTimeout
  /-- BENCH_RELOAD_DONE (R568). -/
  | benchReloadDone (partner : Bool) (bench : Nat) (ok last : Bool)
  /-- HOLD_MESSAGE (R570). -/
  | holdMessage (bench : Nat)
  /-- HOLD_TIMEOUT (R570). -/
  | holdTimeout
  /-- CTL_LIVE_RELOAD (R573). -/
  | ctlLiveReload (bench : Nat)
  /-- CTL_LIVE_RETIRE (R577). -/
  | ctlLiveRetire
  /-- RETIRE_MESSAGE (R577). -/
  | retireMessage
  /-- AVS_TIMER (R575). -/
  | avsTimer (low above answers : Bool)
  /-- HAUL_RECAL_TIMER (R574). -/
  | haulRecalTimer (half : Nat)
  /-- MEM_RETRAIN_TIMER (R574). -/
  | memRetrainTimer (channel rank : Nat) (drift : Bool)
  /-- MEM_ZQ_TIMER (R574). -/
  | memZqTimer (channel rank : Nat)
  /-- TIME_ALIGN_TIMER (R574). -/
  | timeAlignTimer (dev : List (Nat × Int))
  /-- TRU_SVN_COMMIT (R587). -/
  | truSvnCommit
  /-- TOKEN_REVOKE (R588). -/
  | tokenRevoke (area : Nat)
  /-- TOKEN_DEBUG_UNLOCK (R589). -/
  | tokenDebugUnlock (area : Nat)
  /-- TOKEN_OWNER_SEED (R589). -/
  | tokenOwnerSeed (area : Nat)
  /-- TOKEN_DEBUG_DISABLE (R589). -/
  | tokenDebugDisable (area : Nat)
  /-- TRU_NONCE_READ (R590). -/
  | truNonceRead
  /-- TAMPER_TRIP (R603). -/
  | tamperTrip (cause : Nat)
  /-- TRNG_HEALTH_FAIL (R586). -/
  | trngHealthFail
  /-- THERMTRIP (R650). -/
  | thermtrip
  /-- PAIRING_MESSAGE (R598). -/
  | pairingMessage (m : PairMsg)
  /-- SPDM_GET_VERSION (R593). -/
  | spdmGetVersion (path : Nat)
  /-- SPDM_GET_CAPABILITIES (R593). -/
  | spdmGetCapabilities (path : Nat)
  /-- SPDM_NEGOTIATE_ALGORITHMS (R593). -/
  | spdmNegotiateAlgorithms (path : Nat) (offered : Bool)
  /-- SPDM_GET_DIGESTS (R593). -/
  | spdmGetDigests (path : Nat)
  /-- SPDM_GET_CERTIFICATE (R593). -/
  | spdmGetCertificate (path slot ofs len : Nat)
  /-- SPDM_CHALLENGE (R593). -/
  | spdmChallenge (path slot nonce : Nat)
  /-- SPDM_GET_MEASUREMENTS (R594). -/
  | spdmGetMeasurements (path index nonce : Nat) (sign : Bool)
  /-- MGT_REG_READ (R609). -/
  | mgtRegRead (path : Nat) (r : VendorReq)
  /-- MGT_REG_WRITE (R622). -/
  | mgtRegWrite (path : Nat) (r : VendorReq)
  /-- MGT_REG_MODIFY (R622). -/
  | mgtRegModify (path : Nat) (r : VendorReq)
  /-- MGT_EV_SUBSCRIBE (R624). -/
  | mgtEvSubscribe (path : Nat) (r : VendorReq)
  /-- MGT_LOG_READ (R196). -/
  | mgtLogRead (path : Nat) (r : VendorReq)
  /-- MGT_IDENT_SET (R626). -/
  | mgtIdentSet (path : Nat) (r : VendorReq) (unwraps : Bool)
  /-- MGT_IDENT_DEREG (R178). -/
  | mgtIdentDereg (path : Nat) (r : VendorReq)
  /-- MGT_IDENT_GET (R626). -/
  | mgtIdentGet (path : Nat) (r : VendorReq)
  /-- MGT_QOS_SET (R627). -/
  | mgtQosSet (path : Nat) (r : VendorReq)
  /-- MGT_QOS_GET (R627). -/
  | mgtQosGet (path : Nat) (r : VendorReq)
  /-- EV_NOTIFY_RESPONSE (R625). -/
  | evNotifyResponse (path eid : Nat)
  /-- EV_NOTIFY_TIMER (R625). -/
  | evNotifyTimer (path eid : Nat)
  /-- RELAY_TIMEOUT (R623). -/
  | relayTimeout (tag : Nat)
  /-- MCTP_SET_ENDPOINT_ID (R618). -/
  | mctpSetEndpointId (path op eid : Nat)
  /-- MCTP_GET_ENDPOINT_ID (R617). -/
  | mctpGetEndpointId (path : Nat)
  /-- MCTP_GET_ENDPOINT_UUID (R618). -/
  | mctpGetEndpointUuid (path : Nat)
  /-- MCTP_GET_VERSION_SUPPORT (R617). -/
  | mctpGetVersionSupport (path typ : Nat)
  /-- MCTP_GET_MESSAGE_TYPE_SUPPORT (R617). -/
  | mctpGetMessageTypeSupport (path : Nat)
  /-- MCTP_GET_VENDOR_SUPPORT (R617). -/
  | mctpGetVendorSupport (path selector : Nat)
  /-- NVME_MI_BASIC_MANAGEMENT (R631). -/
  | nvmeMiBasicManagement (port : Nat) (x : Sensors)
  /-- NVME_MI_READ_DATA_STRUCTURE (R630). -/
  | nvmeMiReadDataStructure (path typ port ctl : Nat)
  /-- NVME_MI_SUBSYSTEM_HEALTH_POLL (R631). -/
  | nvmeMiSubsystemHealthPoll (path : Nat) (x : Sensors)
  /-- NVME_MI_CONTROLLER_HEALTH_POLL (R630). -/
  | nvmeMiControllerHealthPoll (path first : Nat) (x : Sensors)
  /-- NVME_MI_CONFIGURATION_GET (R630). -/
  | nvmeMiConfigurationGet (path id port : Nat)
  /-- NVME_MI_CONFIGURATION_SET (R630). -/
  | nvmeMiConfigurationSet (path id port val : Nat)
  /-- BAR2_ACCESS (R632). -/
  | bar2Access (write : Bool) (addr : Nat) (words : List (Nat × Bool))
  /-- SMBUS_TIMEOUT (R619). -/
  | smbusTimeout (port : Nat)
  /-- BENCH_LOCK_SET (R615). -/
  | benchLockSet (bench : Nat)
  /-- HALF_LATCH_READ (R609). -/
  | halfLatchRead (path addr : Nat)
  /-- REGISTER_WRITE (R9). -/
  | registerWrite (path addr : Nat) (v : Word)
  /-- CHAIN_DOWNSTREAM_UNDRIVEN (R533). -/
  | chainDownstreamUndriven
  /-- WINDOW_CEILING_ELIGIBLE (R206). -/
  | windowCeilingEligible (op : Nat)
  /-- FENCE_START_DELAY_EXPIRY (R553). -/
  | fenceStartDelayExpiry
  /-- RESHAPE_RELAYOUT_DONE (R335). -/
  | reshapeRelayoutDone
  /-- EP_CC_EN_CLEAR (R476). -/
  | epCcEnClear (f : Nat)
  /-- EP_CC_SHN_WRITE (R476). -/
  | epCcShnWrite (f shn : Nat)
  /-- EP_NSSR_WRITE (R476). -/
  | epNssrWrite (f val : Nat)
  /-- FLASH_WRITE_DONE (R564). -/
  | flashWriteDone (e : FlashEnd)
  /-- JTAG_INSTRUCTION_LOAD (R600). -/
  | jtagInstructionLoad (ins : JtagIns)
  /-- REGION_ZERO_FILL (R186). -/
  | regionZeroFill (nsid region : Nat)
  /-- DRIVE_LINK_TRAINING_TIMEOUT (R400). -/
  | driveLinkTrainingTimeout (slot : Nat)
  /-- SHOT_OUT_PULSE_END (R64). -/
  | shotOutPulseEnd
deriving DecidableEq, Repr

end Sys2Proof
end

