-- ==== Sys2Proof/Config.lean ====
section
/-!
DEFINITION. Config.lean: the two parts, the shape of a register description, and the free values.
-/

namespace Sys2Proof

/-- The two parts (R4, R5, R669). -/
inductive Variant where
  | zs | zl
deriving DecidableEq, Repr

/-- The kinds of value the spec leaves open. A fresh one is drawn with a counter of State (log entry 5). -/
inductive FreeKind where
  | latchPhase | servoRate | random | nonce | digest | signature | cipherText | keyMaterial | uuid | certificate
  | timeDeviation | drive | parity | order | progress | measurement | reading | unstated
deriving DecidableEq, Repr

/-- DESIGN CHOICE (log entry 5): the free values. Nothing is known of any of them; State counts the draws.
Safe: a statement that holds with this opaque holds for every value. -/
opaque Config.freeValue : FreeKind → Nat → Nat

/-- The result of a cryptographic or check function of the given data (a digest, a tag, a signature, a syndrome):
a function of its operands that nothing constrains (log entry 5). -/
opaque Config.keyed : FreeKind → List Nat → Nat

/-- Access type of a register field (R9). -/
inductive FieldType where
  | ro | rw | rc | w1c | w1s | wo | rwl
deriving DecidableEq, Repr

/-- Which written values a field takes; every other value is ignored (the field's description in its table). -/
inductive FieldCheck where
  | any
  | rng (lo hi : Nat)
deriving DecidableEq, Repr

/-- One field of a register table: high bit, low bit, type, cold value (one for all copies, or one for each), check. -/
structure FieldDef where
  hi : Nat
  lo : Nat
  type : FieldType
  cold : List Nat
  check : FieldCheck
deriving DecidableEq, Repr

/-- Where the one copy of a register lives: in each bench, once for the class, or once for each role (R105). -/
inductive Home where
  | inst | cls | role
deriving DecidableEq, Repr

/-- One line of the register tables: the first and last bench whose window holds it, its offset, two strides and counts,
its home and its fields. -/
structure RegDef where
  firstBench : Nat
  lastBench : Nat
  off : Nat
  stride : Nat
  count : Nat
  stride2 : Nat
  count2 : Nat
  home : Home
  fields : List FieldDef
deriving DecidableEq, Repr

/-- A named field of a register: the home key of its word, its high bit and its low bit. -/
structure Fld where
  key : Nat
  hi : Nat
  lo : Nat
deriving DecidableEq, Repr

end Sys2Proof
end

