-- ==== Sys2Proof/Machine/RegMap.lean ====
section
/-!
DEFINITION. Machine/RegMap.lean: the register tables of the spec (R9, R608, R636 and the table named at each line) as data.
Each line gives the first and last bench ID whose windows hold the register, the offset in the window, two strides
and counts (for registers repeated by group, slot, port or class), where its one copy lives (R105), and its fields.
-/

namespace Sys2Proof.Machine

/-- The BENCH registers of the spec, part 1. -/
def regsBENCHA : List RegDef := [
  /- BENCH_VER MGT-1 -/ ⟨0, 56, 0x4, 0, 1, 0, 1, .inst, [⟨31, 16, .ro, [0], .any⟩, ⟨7, 0, .ro, [1], .any⟩]⟩,
  /- BENCH_CTL MGT-1 -/ ⟨0, 56, 0xc, 0, 1, 0, 1, .inst, [⟨0, 0, .w1s, [0], .any⟩]⟩,
  /- BENCH_EV_EN MGT-1 -/ ⟨0, 56, 0x10, 0, 1, 0, 1, .inst, [⟨15, 0, .rw, [0xffff], .any⟩]⟩,
  /- BENCH_EV_STAT MGT-1 -/ ⟨0, 56, 0x14, 0, 1, 0, 1, .inst, [⟨15, 0, .w1c, [0], .any⟩]⟩,
  /- BENCH_EV_MASK MGT-1 -/ ⟨0, 56, 0x18, 0, 1, 0, 1, .inst, [⟨15, 0, .rw, [0], .any⟩]⟩,
  /- BENCH_EV_OVF MGT-1 -/ ⟨0, 56, 0x1c, 0, 1, 0, 1, .inst, [⟨31, 0, .ro, [0], .any⟩]⟩,
  /- BENCH_ERR_DET MGT-1 -/ ⟨0, 56, 0x20, 0, 1, 0, 1, .inst, [⟨31, 0, .ro, [0], .any⟩]⟩,
  /- BENCH_ERR_UNREC MGT-1 -/ ⟨0, 56, 0x24, 0, 1, 0, 1, .inst, [⟨31, 0, .ro, [0], .any⟩]⟩,
  /- BENCH_ERR_CHAN MGT-1 -/ ⟨0, 56, 0x28, 0, 1, 0, 1, .inst, [⟨31, 0, .ro, [0], .any⟩]⟩,
  /- BENCH_LOCK_IGN MGT-1 -/ ⟨0, 56, 0x2c, 0, 1, 0, 1, .inst, [⟨31, 0, .ro, [0], .any⟩]⟩]

/-- The CTL registers of the spec, part 1. -/
def regsCTLA : List RegDef := [
  /- CTL_ROT_CFG ARC-9 -/ ⟨0, 0, 0x2000, 0, 1, 0, 1, .inst, [⟨0, 0, .rw, [1], .any⟩, ⟨18, 8, .rw, [0xa], (.rng 1 1440)⟩, ⟨29, 24, .rw, [0], .any⟩]⟩,
  /- CTL_ROT_NOW ARC-10 -/ ⟨0, 0, 0x2004, 0, 1, 0, 1, .inst, [⟨5, 0, .wo, [0], .any⟩]⟩,
  /- CTL_SPARE_MAP ARC-11 -/ ⟨0, 0, 0x2008, 0, 1, 0, 1, .inst, [⟨23, 0, .ro, [0x882244], .any⟩]⟩,
  /- CTL_ROT_STAT ARC-12 -/ ⟨0, 0, 0x200c, 0, 1, 0, 1, .inst, [⟨5, 0, .ro, [0], .any⟩, ⟨13, 8, .ro, [0], .any⟩, ⟨31, 16, .ro, [0], .any⟩]⟩,
  /- CTL_EVLOG_TOTAL_LO TEV-5 -/ ⟨0, 0, 0x3000, 0, 1, 0, 1, .inst, [⟨31, 0, .ro, [0], .any⟩]⟩,
  /- CTL_EVLOG_TOTAL_HI TEV-5 -/ ⟨0, 0, 0x3004, 0, 1, 0, 1, .inst, [⟨31, 0, .ro, [0], .any⟩]⟩,
  /- CTL_EVLOG_DROP TEV-5 -/ ⟨0, 0, 0x3008, 0, 1, 0, 1, .inst, [⟨31, 0, .ro, [0], .any⟩]⟩,
  /- CTL_EVLOG_STAT TEV-5 -/ ⟨0, 0, 0x300c, 0, 1, 0, 1, .inst, [⟨31, 0, .ro, [0], .any⟩]⟩,
  /- CTL_BOOT_STAT BOOT-14 -/ ⟨0, 0, 0x4000, 0, 1, 0, 1, .inst, [⟨3, 0, .ro, [0], .any⟩, ⟨5, 4, .ro, [0], .any⟩, ⟨7, 6, .ro, [0], .any⟩, ⟨8, 8, .ro, [0], .any⟩, ⟨10, 9, .ro, [0], .any⟩, ⟨12, 12, .ro, [0], .any⟩, ⟨31, 16, .ro, [0], .any⟩]⟩,
  /- CTL_BOOT_REJ BOOT-15 -/ ⟨0, 0, 0x4004, 0, 1, 0, 1, .inst, [⟨3, 0, .ro, [0], .any⟩, ⟨7, 4, .ro, [0], .any⟩, ⟨11, 8, .ro, [0], .any⟩]⟩,
  /- CTL_BOOT_CFG BOOT-15 -/ ⟨0, 0, 0x4008, 0, 1, 0, 1, .inst, [⟨7, 0, .rwl, [0x14], (.rng 1 255)⟩, ⟨15, 8, .rwl, [0x14], (.rng 1 120)⟩, ⟨23, 16, .rwl, [0x1e], .any⟩, ⟨24, 24, .rwl, [0], .any⟩]⟩,
  /- CTL_IMG_VER_LO BOOT-16 -/ ⟨0, 0, 0x400c, 0, 1, 0, 1, .inst, [⟨31, 0, .ro, [0], .any⟩]⟩,
  /- CTL_IMG_VER_HI BOOT-16 -/ ⟨0, 0, 0x4010, 0, 1, 0, 1, .inst, [⟨31, 0, .ro, [0], .any⟩]⟩,
  /- CTL_IMG_SVN BOOT-16 -/ ⟨0, 0, 0x4014, 0, 1, 0, 1, .inst, [⟨31, 0, .ro, [0], .any⟩]⟩,
  /- CTL_IMG_OWNVER BOOT-16 -/ ⟨0, 0, 0x4018, 0, 1, 0, 1, .inst, [⟨31, 0, .ro, [0], .any⟩]⟩,
  /- CTL_BOOT_STEPTn BOOT-16 -/ ⟨0, 0, 0x4040, 4, 15, 0, 1, .inst, [⟨31, 0, .ro, [0], .any⟩]⟩,
  /- CTL_LIVE_STAT LIVE-7 -/ ⟨0, 0, 0x5000, 0, 1, 0, 1, .inst, [⟨2, 0, .ro, [0], .any⟩, ⟨9, 4, .ro, [0x3f], .any⟩, ⟨10, 10, .ro, [0], .any⟩, ⟨11, 11, .w1c, [0], .any⟩, ⟨15, 12, .ro, [0], .any⟩]⟩,
  /- CTL_LIVE_CFG LIVE-8 -/ ⟨0, 0, 0x5004, 0, 1, 0, 1, .inst, [⟨0, 0, .rw, [1], .any⟩, ⟨15, 8, .rw, [0x18], (.rng 0 168)⟩, ⟨23, 16, .rw, [0x3c], .any⟩]⟩,
  /- CTL_LIVE_CMD LIVE-9 -/ ⟨0, 0, 0x5008, 0, 1, 0, 1, .inst, [⟨5, 0, .wo, [0], .any⟩, ⟨8, 8, .wo, [0], .any⟩, ⟨16, 16, .wo, [0], .any⟩]⟩,
  /- CTL_AVS_STAT LIVE-10 -/ ⟨0, 0, 0x500c, 0, 1, 0, 1, .inst, [⟨9, 0, .ro, [0x2ee], .any⟩, ⟨10, 10, .ro, [0], .any⟩, ⟨11, 11, .ro, [0], .any⟩, ⟨12, 12, .ro, [0], .any⟩]⟩]

/-- The CTL registers of the spec, part 2. -/
def regsCTLB : List RegDef := [
  /- CTL_MGT_PATHp MGT-5 -/ ⟨0, 0, 0x6000, 4, 5, 0, 1, .inst, [⟨0, 0, .rwl, [1, 1, 1, 1, 1], .any⟩, ⟨1, 1, .rwl, [1, 1, 0, 1, 1], .any⟩, ⟨2, 2, .rwl, [1, 1, 0, 1, 0], .any⟩, ⟨3, 3, .rwl, [1, 1, 0, 1, 0], .any⟩, ⟨4, 4, .rwl, [1, 1, 0, 0, 0], .any⟩, ⟨5, 5, .rwl, [1, 1, 1, 0, 0], .any⟩, ⟨6, 6, .rwl, [1, 1, 1, 0, 0], .any⟩, ⟨15, 8, .rwl, [0, 0, 0, 0, 0], .any⟩]⟩,
  /- CTL_MGT_IGN MGT-9 -/ ⟨0, 0, 0x6018, 0, 1, 0, 1, .inst, [⟨31, 0, .ro, [0], .any⟩]⟩,
  /- CTL_SAMP_TOTAL_LO MGT-9 -/ ⟨0, 0, 0x6020, 0, 1, 0, 1, .inst, [⟨31, 0, .ro, [0], .any⟩]⟩,
  /- CTL_SAMP_TOTAL_HI MGT-9 -/ ⟨0, 0, 0x6024, 0, 1, 0, 1, .inst, [⟨31, 0, .ro, [0], .any⟩]⟩,
  /- CTL_ROLE_MAPc R33 -/ ⟨0, 0, 0x2010, 4, 6, 0, 1, .inst, [⟨3, 0, .ro, [0, 0, 0, 0, 0, 0], .any⟩, ⟨7, 4, .ro, [1, 1, 1, 1, 1, 1], .any⟩, ⟨11, 8, .ro, [2, 2, 0xf, 0xf, 2, 2], .any⟩, ⟨15, 12, .ro, [3, 3, 0xf, 0xf, 3, 3], .any⟩, ⟨19, 16, .ro, [0xf, 0xf, 0xf, 0xf, 4, 4], .any⟩, ⟨23, 20, .ro, [0xf, 0xf, 0xf, 0xf, 5, 5], .any⟩, ⟨27, 24, .ro, [0xf, 0xf, 0xf, 0xf, 6, 6], .any⟩, ⟨31, 28, .ro, [0xf, 0xf, 0xf, 0xf, 7, 7], .any⟩]⟩]

/-- The TIM registers of the spec, part 1. -/
def regsTIMA : List RegDef := [
  /- TIM_NOW_LO TEV-10 -/ ⟨2, 2, 0x1000, 0, 1, 0, 1, .inst, [⟨31, 0, .ro, [0], .any⟩]⟩,
  /- TIM_NOW_HI TEV-10 -/ ⟨2, 2, 0x1004, 0, 1, 0, 1, .inst, [⟨31, 0, .ro, [0], .any⟩]⟩,
  /- TIM_OFFSET TEV-10 -/ ⟨2, 2, 0x1010, 0, 1, 0, 1, .inst, [⟨31, 0, .ro, [0], .any⟩]⟩,
  /- TIM_RATE TEV-10 -/ ⟨2, 2, 0x1014, 0, 1, 0, 1, .inst, [⟨31, 0, .ro, [0], .any⟩]⟩,
  /- TIM_SET_LO TEV-10 -/ ⟨2, 2, 0x1018, 0, 1, 0, 1, .inst, [⟨31, 0, .rw, [0], .any⟩]⟩,
  /- TIM_SET_HI TEV-10 -/ ⟨2, 2, 0x101c, 0, 1, 0, 1, .inst, [⟨31, 0, .rw, [0], .any⟩]⟩,
  /- TIM_PPS_OFS TEV-10 -/ ⟨2, 2, 0x1024, 0, 1, 0, 1, .inst, [⟨31, 0, .rw, [0], .any⟩]⟩,
  /- TIM_UTC_OFS TEV-10 -/ ⟨2, 2, 0x1028, 0, 1, 0, 1, .inst, [⟨31, 0, .rw, [0], .any⟩]⟩,
  /- TIM_SHOT_AT_LO TEV-10 -/ ⟨2, 2, 0x1040, 0, 1, 0, 1, .inst, [⟨31, 0, .rw, [0], .any⟩]⟩,
  /- TIM_SHOT_AT_HI TEV-10 -/ ⟨2, 2, 0x1044, 0, 1, 0, 1, .inst, [⟨31, 0, .rw, [0], .any⟩]⟩,
  /- TIM_SHOT_TRIG_LO TEV-10 -/ ⟨2, 2, 0x1048, 0, 1, 0, 1, .inst, [⟨31, 0, .ro, [0], .any⟩]⟩,
  /- TIM_SHOT_TRIG_HI TEV-10 -/ ⟨2, 2, 0x104c, 0, 1, 0, 1, .inst, [⟨31, 0, .ro, [0], .any⟩]⟩,
  /- TIM_SHOT_SEQ TEV-10 -/ ⟨2, 2, 0x1050, 0, 1, 0, 1, .inst, [⟨31, 0, .ro, [0], .any⟩]⟩,
  /- TIM_SRC_CFG TEV-11 -/ ⟨2, 2, 0x1008, 0, 1, 0, 1, .inst, [⟨1, 0, .rw, [0], .any⟩, ⟨31, 31, .wo, [0], .any⟩]⟩,
  /- TIM_STAT TEV-12 -/ ⟨2, 2, 0x100c, 0, 1, 0, 1, .inst, [⟨1, 0, .ro, [0], .any⟩, ⟨2, 2, .ro, [0], .any⟩, ⟨3, 3, .ro, [0], .any⟩, ⟨15, 8, .ro, [0], .any⟩]⟩,
  /- TIM_PPS_CFG TEV-13 -/ ⟨2, 2, 0x1020, 0, 1, 0, 1, .inst, [⟨9, 0, .rw, [0x64], (.rng 1 1000)⟩, ⟨14, 14, .rw, [0], .any⟩, ⟨15, 15, .rw, [0], .any⟩, ⟨31, 16, .rw, [0], .any⟩]⟩,
  /- TIM_SHOT_CFG TEV-14 -/ ⟨2, 2, 0x1030, 0, 1, 0, 1, .inst, [⟨0, 0, .rw, [0], .any⟩, ⟨1, 1, .rw, [1], .any⟩, ⟨2, 2, .rw, [0], .any⟩, ⟨14, 8, .rw, [0xa], (.rng 10 100)⟩]⟩,
  /- TIM_SHOT_CMD TEV-15 -/ ⟨2, 2, 0x1034, 0, 1, 0, 1, .inst, [⟨0, 0, .wo, [0], .any⟩, ⟨1, 1, .wo, [0], .any⟩, ⟨2, 2, .wo, [0], .any⟩, ⟨3, 3, .wo, [0], .any⟩, ⟨4, 4, .wo, [0], .any⟩]⟩,
  /- TIM_SHOT_STAT TEV-16 -/ ⟨2, 2, 0x1038, 0, 1, 0, 1, .inst, [⟨3, 0, .ro, [0], .any⟩, ⟨4, 4, .ro, [0], .any⟩, ⟨15, 8, .ro, [0], .any⟩]⟩,
  /- TIM_SHOT_MATCH TEV-16 -/ ⟨2, 2, 0x103c, 0, 1, 0, 1, .inst, [⟨9, 0, .rw, [0], .any⟩, ⟨10, 10, .rw, [0], .any⟩, ⟨11, 11, .rw, [0], .any⟩, ⟨31, 16, .rw, [0], .any⟩]⟩]

/-- The XPT registers of the spec, part 1. -/
def regsXPTA : List RegDef := [
  /- XPT_CTX_CFG XPT-9 -/ ⟨17, 21, 0x1000, 0, 1, 0, 1, .cls, [⟨0, 0, .rw, [1], .any⟩, ⟨1, 1, .rwl, [0], .any⟩, ⟨2, 2, .rwl, [1], .any⟩, ⟨7, 4, .rw, [0xf], .any⟩, ⟨11, 8, .rw, [7], (.rng 1 15)⟩, ⟨15, 12, .rw, [2], (.rng 1 8)⟩, ⟨22, 16, .rw, [0x40], (.rng 1 64)⟩, ⟨27, 24, .rw, [8], (.rng 1 15)⟩]⟩,
  /- XPT_NRT_PORT XPT-10 -/ ⟨17, 21, 0x1004, 0, 1, 0, 1, .cls, [⟨15, 0, .rwl, [0xc030], .any⟩]⟩,
  /- XPT_TIMER_CFG XPT-11 -/ ⟨17, 21, 0x1008, 0, 1, 0, 1, .cls, [⟨7, 0, .rw, [0x19], (.rng 1 255)⟩, ⟨15, 8, .rw, [0x28], (.rng 1 255)⟩, ⟨23, 16, .rw, [0x14], (.rng 1 200)⟩, ⟨31, 24, .rw, [0x14], (.rng 1 100)⟩]⟩,
  /- XPT_CNP_CFG XPT-12 -/ ⟨17, 21, 0x100c, 0, 1, 0, 1, .cls, [⟨7, 0, .rw, [0x32], (.rng 1 255)⟩, ⟨8, 8, .rw, [1], .any⟩]⟩,
  /- XPT_CTX_STAT XPT-12 -/ ⟨17, 21, 0x1010, 0, 1, 0, 1, .role, [⟨11, 0, .ro, [0], .any⟩, ⟨29, 16, .ro, [0], .any⟩]⟩,
  /- XPT_RX_PKT XPT-13 -/ ⟨17, 21, 0x1100, 0, 1, 0, 1, .role, [⟨31, 0, .ro, [0], .any⟩]⟩,
  /- XPT_TX_PKT XPT-13 -/ ⟨17, 21, 0x1104, 0, 1, 0, 1, .role, [⟨31, 0, .ro, [0], .any⟩]⟩,
  /- XPT_DROP_CRC XPT-13 -/ ⟨17, 21, 0x1108, 0, 1, 0, 1, .role, [⟨31, 0, .ro, [0], .any⟩]⟩,
  /- XPT_DROP_FMT XPT-13 -/ ⟨17, 21, 0x110c, 0, 1, 0, 1, .role, [⟨31, 0, .ro, [0], .any⟩]⟩,
  /- XPT_DROP_CID XPT-13 -/ ⟨17, 21, 0x1110, 0, 1, 0, 1, .role, [⟨31, 0, .ro, [0], .any⟩]⟩,
  /- XPT_DROP_CREDIT XPT-13 -/ ⟨17, 21, 0x1114, 0, 1, 0, 1, .role, [⟨31, 0, .ro, [0], .any⟩]⟩,
  /- XPT_DUP XPT-13 -/ ⟨17, 21, 0x1118, 0, 1, 0, 1, .role, [⟨31, 0, .ro, [0], .any⟩]⟩,
  /- XPT_OLD XPT-13 -/ ⟨17, 21, 0x111c, 0, 1, 0, 1, .role, [⟨31, 0, .ro, [0], .any⟩]⟩,
  /- XPT_REASM_FULL XPT-13 -/ ⟨17, 21, 0x1120, 0, 1, 0, 1, .role, [⟨31, 0, .ro, [0], .any⟩]⟩,
  /- XPT_REASM_DISCARD XPT-13 -/ ⟨17, 21, 0x1124, 0, 1, 0, 1, .role, [⟨31, 0, .ro, [0], .any⟩]⟩,
  /- XPT_RETX XPT-13 -/ ⟨17, 21, 0x1128, 0, 1, 0, 1, .role, [⟨31, 0, .ro, [0], .any⟩]⟩,
  /- XPT_RTO XPT-13 -/ ⟨17, 21, 0x112c, 0, 1, 0, 1, .role, [⟨31, 0, .ro, [0], .any⟩]⟩,
  /- XPT_SPILL_DROP XPT-13 -/ ⟨17, 21, 0x1130, 0, 1, 0, 1, .role, [⟨31, 0, .ro, [0], .any⟩]⟩,
  /- XPT_HOLD_DROP XPT-13 -/ ⟨17, 21, 0x1134, 0, 1, 0, 1, .role, [⟨31, 0, .ro, [0], .any⟩]⟩,
  /- XPT_CNP_TX XPT-13 -/ ⟨17, 21, 0x1138, 0, 1, 0, 1, .role, [⟨31, 0, .ro, [0], .any⟩]⟩]

/-- The XPT registers of the spec, part 2. -/
def regsXPTB : List RegDef := [
  /- XPT_CNP_RX XPT-13 -/ ⟨17, 21, 0x113c, 0, 1, 0, 1, .role, [⟨31, 0, .ro, [0], .any⟩]⟩,
  /- XPT_KEY_INVALID KEY-9 -/ ⟨17, 21, 0x1140, 0, 1, 0, 1, .role, [⟨31, 0, .ro, [0], .any⟩]⟩,
  /- XPT_KEY_TAG KEY-9 -/ ⟨17, 21, 0x1144, 0, 1, 0, 1, .role, [⟨31, 0, .ro, [0], .any⟩]⟩,
  /- XPT_KEY_HOST KEY-9 -/ ⟨17, 21, 0x1148, 0, 1, 0, 1, .role, [⟨31, 0, .ro, [0], .any⟩]⟩,
  /- XPT_KEY_RIGHTS KEY-9 -/ ⟨17, 21, 0x114c, 0, 1, 0, 1, .role, [⟨31, 0, .ro, [0], .any⟩]⟩,
  /- XPT_KEY_BOUNDS KEY-9 -/ ⟨17, 21, 0x1150, 0, 1, 0, 1, .role, [⟨31, 0, .ro, [0], .any⟩]⟩,
  /- XPT_KEY_SERVICE KEY-9 -/ ⟨17, 21, 0x1154, 0, 1, 0, 1, .role, [⟨31, 0, .ro, [0], .any⟩]⟩,
  /- XPT_KEY_LAST_KEY KEY-9 -/ ⟨17, 21, 0x1158, 0, 1, 0, 1, .role, [⟨31, 0, .ro, [0], .any⟩]⟩,
  /- XPT_KEY_LAST_INFO KEY-10 -/ ⟨17, 21, 0x115c, 0, 1, 0, 1, .role, [⟨23, 0, .ro, [0], .any⟩, ⟨26, 24, .ro, [0], .any⟩, ⟨27, 27, .ro, [0], .any⟩]⟩]

/-- The CMD registers of the spec, part 1. -/
def regsCMDA : List RegDef := [
  /- CMD_CFG CMD-10 -/ ⟨22, 26, 0x1000, 0, 1, 0, 1, .cls, [⟨0, 0, .rwl, [0], .any⟩, ⟨6, 4, .rw, [3], .any⟩, ⟨14, 8, .rw, [0x40], (.rng 1 64)⟩, ⟨26, 16, .rwl, [0x400], (.rng 16 1024)⟩]⟩,
  /- CMD_STAT CMD-11 -/ ⟨22, 26, 0x1004, 0, 1, 0, 1, .role, [⟨14, 0, .ro, [0], .any⟩, ⟨16, 16, .ro, [0], .any⟩]⟩,
  /- CMD_INFLIGHT CMD-11 -/ ⟨22, 26, 0x1008, 0, 1, 0, 1, .cls, [⟨20, 0, .ro, [0], .any⟩]⟩,
  /- CMD_RX CMD-12 -/ ⟨22, 26, 0x1100, 0, 1, 0, 1, .role, [⟨31, 0, .ro, [0], .any⟩]⟩,
  /- CMD_DONE CMD-12 -/ ⟨22, 26, 0x1104, 0, 1, 0, 1, .role, [⟨31, 0, .ro, [0], .any⟩]⟩,
  /- CMD_ABORTED CMD-12 -/ ⟨22, 26, 0x1108, 0, 1, 0, 1, .role, [⟨31, 0, .ro, [0], .any⟩]⟩,
  /- CMD_DISCARDED CMD-12 -/ ⟨22, 26, 0x110c, 0, 1, 0, 1, .role, [⟨31, 0, .ro, [0], .any⟩]⟩,
  /- CMD_ORD_WAIT CMD-12 -/ ⟨22, 26, 0x1110, 0, 1, 0, 1, .role, [⟨31, 0, .ro, [0], .any⟩]⟩,
  /- CMD_PI_ERR CMD-12 -/ ⟨22, 26, 0x1114, 0, 1, 0, 1, .role, [⟨31, 0, .ro, [0], .any⟩]⟩,
  /- CMD_DEFERRED CMD-12 -/ ⟨22, 26, 0x1118, 0, 1, 0, 1, .role, [⟨31, 0, .ro, [0], .any⟩]⟩,
  /- CMD_CONFLICT CMD-12 -/ ⟨22, 26, 0x111c, 0, 1, 0, 1, .role, [⟨31, 0, .ro, [0], .any⟩]⟩,
  /- CMD_STALL CMD-12 -/ ⟨22, 26, 0x1120, 0, 1, 0, 1, .role, [⟨31, 0, .ro, [0], .any⟩]⟩,
  /- CMD_XFER_ERR CMD-12 -/ ⟨22, 26, 0x1124, 0, 1, 0, 1, .role, [⟨31, 0, .ro, [0], .any⟩]⟩,
  /- CMD_QOS_CFG QOS-9 -/ ⟨22, 26, 0x1200, 0, 1, 0, 1, .cls, [⟨0, 0, .rw, [1], .any⟩, ⟨7, 4, .rw, [3], (.rng 1 15)⟩]⟩,
  /- CMD_QOS_GCAPg QOS-10 -/ ⟨22, 26, 0x1210, 4, 8, 0, 1, .cls, [⟨31, 0, .rw, [0], .any⟩]⟩,
  /- CMD_QOS_BGAg QOS-11 -/ ⟨22, 26, 0x1230, 8, 8, 0, 1, .cls, [⟨7, 0, .rw, [0xa], .any⟩, ⟨15, 8, .rw, [0x3c], .any⟩, ⟨23, 16, .rw, [5], .any⟩, ⟨31, 24, .rw, [0x1e], .any⟩]⟩,
  /- CMD_QOS_BGBg QOS-11 -/ ⟨22, 26, 0x1234, 8, 8, 0, 1, .cls, [⟨7, 0, .rw, [1], .any⟩, ⟨15, 8, .rw, [5], .any⟩]⟩,
  /- CMD_QOS_GSTATg QOS-12 -/ ⟨22, 26, 0x1270, 4, 8, 0, 1, .cls, [⟨7, 0, .ro, [0], .any⟩, ⟨31, 16, .ro, [0], .any⟩]⟩]

/-- The LAY registers of the spec, part 1. -/
def regsLAYA : List RegDef := [
  /- LAY_GCFGg LOG-5 -/ ⟨30, 32, 0x1000, 32, 8, 0, 1, .cls, [⟨2, 0, .rwl, [0], .any⟩, ⟨8, 4, .rwl, [0], .any⟩, ⟨9, 9, .rwl, [0], .any⟩, ⟨10, 10, .rwl, [0], .any⟩, ⟨21, 16, .rwl, [0xa], (.rng 0 50)⟩, ⟨23, 22, .rwl, [1], (.rng 0 2)⟩]⟩,
  /- LAY_GMEM_LOg LOG-6 -/ ⟨30, 32, 0x1004, 32, 8, 0, 1, .cls, [⟨31, 0, .rwl, [0], .any⟩]⟩,
  /- LAY_GMEM_HIg LOG-6 -/ ⟨30, 32, 0x1008, 32, 8, 0, 1, .cls, [⟨15, 0, .rwl, [0], .any⟩]⟩,
  /- LAY_GSEALg LOG-7 -/ ⟨30, 32, 0x100c, 32, 8, 0, 1, .cls, [⟨6, 0, .rw, [6], (.rng 1 100)⟩, ⟨10, 8, .rw, [4], (.rng 1 6)⟩, ⟨23, 16, .rw, [0x14], (.rng 1 255)⟩]⟩,
  /- LAY_GFREEg LOG-8 -/ ⟨30, 32, 0x1010, 32, 8, 0, 1, .cls, [⟨7, 0, .rw, [8], .any⟩, ⟨15, 8, .rw, [4], .any⟩, ⟨23, 16, .rw, [1], .any⟩]⟩,
  /- LAY_GSTATg LOG-9 -/ ⟨30, 32, 0x1014, 32, 8, 0, 1, .cls, [⟨6, 0, .ro, [0], .any⟩, ⟨7, 7, .ro, [0], .any⟩, ⟨8, 8, .ro, [0], .any⟩, ⟨15, 12, .ro, [0], .any⟩, ⟨21, 16, .ro, [0], .any⟩]⟩,
  /- LAY_GFSEQ_LOg LOG-10 -/ ⟨30, 32, 0x1018, 32, 8, 0, 1, .cls, [⟨31, 0, .ro, [0], .any⟩]⟩,
  /- LAY_GFSEQ_HIg LOG-10 -/ ⟨30, 32, 0x101c, 32, 8, 0, 1, .cls, [⟨31, 0, .ro, [0], .any⟩]⟩,
  /- LAY_SEAL_FULLg LOG-11 -/ ⟨30, 32, 0x1200, 32, 8, 0, 1, .cls, [⟨31, 0, .ro, [0], .any⟩]⟩,
  /- LAY_SEAL_EARLYg LOG-11 -/ ⟨30, 32, 0x1204, 32, 8, 0, 1, .cls, [⟨31, 0, .ro, [0], .any⟩]⟩,
  /- LAY_VOIDg LOG-11 -/ ⟨30, 32, 0x1208, 32, 8, 0, 1, .cls, [⟨31, 0, .ro, [0], .any⟩]⟩,
  /- LAY_RECL_MOVEDg LOG-11 -/ ⟨30, 32, 0x120c, 32, 8, 0, 1, .cls, [⟨31, 0, .ro, [0], .any⟩]⟩,
  /- LAY_HOLD_USg LOG-11 -/ ⟨30, 32, 0x1210, 32, 8, 0, 1, .cls, [⟨31, 0, .ro, [0], .any⟩]⟩,
  /- LAY_GREB_DONEg REB-8 -/ ⟨30, 32, 0x1300, 8, 8, 0, 1, .cls, [⟨31, 0, .ro, [0], .any⟩]⟩,
  /- LAY_GREB_TOTALg REB-8 -/ ⟨30, 32, 0x1304, 8, 8, 0, 1, .cls, [⟨31, 0, .ro, [0], .any⟩]⟩,
  /- LAY_REB_CFG REB-9 -/ ⟨30, 32, 0x1400, 0, 1, 0, 1, .cls, [⟨11, 0, .rw, [0x7d0], (.rng 100 4000)⟩, ⟨22, 16, .rw, [0xa], (.rng 1 100)⟩, ⟨23, 23, .rw, [0], .any⟩, ⟨31, 24, .rw, [0x1e], (.rng 1 240)⟩]⟩,
  /- LAY_TCUT_CFG REB-10 -/ ⟨30, 32, 0x1404, 0, 1, 0, 1, .cls, [⟨7, 0, .rw, [0xf], .any⟩, ⟨15, 8, .rw, [0x1e], .any⟩, ⟨23, 16, .rw, [0x64], .any⟩, ⟨31, 24, .rw, [0xff], .any⟩]⟩,
  /- LAY_PAT_CFG REB-11 -/ ⟨30, 32, 0x1408, 0, 1, 0, 1, .cls, [⟨7, 0, .rw, [0xa], (.rng 1 50)⟩, ⟨15, 8, .rw, [0x10], (.rng 1 255)⟩, ⟨23, 16, .rw, [0xe], (.rng 1 90)⟩, ⟨24, 24, .rw, [1], .any⟩]⟩,
  /- LAY_MSTATn REB-12 -/ ⟨30, 32, 0x1500, 4, 48, 0, 1, .cls, [⟨2, 0, .ro, [7], .any⟩, ⟨6, 4, .ro, [0], .any⟩, ⟨7, 7, .ro, [0], .any⟩, ⟨15, 8, .ro, [0], .any⟩]⟩,
  /- LAY_MCMD REB-13 -/ ⟨30, 32, 0x1600, 0, 1, 0, 1, .cls, [⟨5, 0, .wo, [0], .any⟩, ⟨10, 8, .wo, [0], .any⟩]⟩]

/-- The LAY registers of the spec, part 2. -/
def regsLAYB : List RegDef := [
  /- LAY_ORDER_STAT REB-13 -/ ⟨30, 32, 0x1620, 0, 1, 0, 1, .cls, [⟨2, 0, .ro, [0], .any⟩, ⟨11, 8, .ro, [0], .any⟩, ⟨22, 16, .ro, [0], .any⟩]⟩,
  /- LAY_RSHP_CFG REB-14 -/ ⟨30, 32, 0x1610, 0, 1, 0, 1, .cls, [⟨2, 0, .rw, [0], .any⟩, ⟨5, 4, .rw, [0], .any⟩, ⟨10, 8, .rw, [0], .any⟩, ⟨16, 12, .rw, [0], .any⟩, ⟨19, 17, .rw, [0], .any⟩, ⟨31, 31, .wo, [0], .any⟩]⟩,
  /- LAY_RSHP_MEM_LO REB-14 -/ ⟨30, 32, 0x1614, 0, 1, 0, 1, .cls, [⟨31, 0, .rw, [0], .any⟩]⟩,
  /- LAY_RSHP_MEM_HI REB-14 -/ ⟨30, 32, 0x1618, 0, 1, 0, 1, .cls, [⟨15, 0, .rw, [0], .any⟩]⟩,
  /- LAY_RSHP_NSID REB-14 -/ ⟨30, 32, 0x161c, 0, 1, 0, 1, .cls, [⟨31, 0, .rw, [0], .any⟩]⟩,
  /- LAY_TCUTg REB-15 -/ ⟨30, 32, 0x1214, 32, 8, 0, 1, .cls, [⟨31, 0, .ro, [0], .any⟩]⟩,
  /- LAY_REB_SLABSg REB-15 -/ ⟨30, 32, 0x1218, 32, 8, 0, 1, .cls, [⟨31, 0, .ro, [0], .any⟩]⟩,
  /- LAY_PAT_FIXg REB-15 -/ ⟨30, 32, 0x121c, 32, 8, 0, 1, .cls, [⟨31, 0, .ro, [0], .any⟩]⟩]

/-- The SVY registers of the spec, part 1. -/
def regsSVYA : List RegDef := [
  /- SVY_CFG SVY-9 -/ ⟨27, 29, 0x1000, 0, 1, 0, 1, .cls, [⟨7, 0, .rwl, [2], (.rng 1 10)⟩, ⟨15, 8, .rw, [0x4b], (.rng 10 95)⟩, ⟨23, 16, .rw, [1], (.rng 1 10)⟩]⟩,
  /- SVY_CACHE_CFG SVY-10 -/ ⟨27, 29, 0x1004, 0, 1, 0, 1, .cls, [⟨10, 0, .rwl, [0], .any⟩]⟩,
  /- SVY_GSTATg SVY-11 -/ ⟨27, 29, 0x1010, 4, 8, 0, 1, .cls, [⟨7, 0, .ro, [0], .any⟩, ⟨15, 8, .ro, [0], .any⟩, ⟨16, 16, .ro, [0], .any⟩, ⟨17, 17, .ro, [0], .any⟩]⟩,
  /- SVY_LOOKUP SVY-12 -/ ⟨27, 29, 0x1100, 0, 1, 0, 1, .role, [⟨31, 0, .ro, [0], .any⟩]⟩,
  /- SVY_BANK_MISS SVY-12 -/ ⟨27, 29, 0x1104, 0, 1, 0, 1, .role, [⟨31, 0, .ro, [0], .any⟩]⟩,
  /- SVY_MISS_CNT SVY-12 -/ ⟨27, 29, 0x1108, 0, 1, 0, 1, .role, [⟨31, 0, .ro, [0], .any⟩]⟩,
  /- SVY_WB SVY-12 -/ ⟨27, 29, 0x110c, 0, 1, 0, 1, .role, [⟨31, 0, .ro, [0], .any⟩]⟩,
  /- SVY_DLOG_BLK SVY-12 -/ ⟨27, 29, 0x1110, 0, 1, 0, 1, .role, [⟨31, 0, .ro, [0], .any⟩]⟩,
  /- SVY_DQ_FULL SVY-12 -/ ⟨27, 29, 0x1114, 0, 1, 0, 1, .role, [⟨31, 0, .ro, [0], .any⟩]⟩,
  /- SVY_MOVE_DROP SVY-12 -/ ⟨27, 29, 0x1118, 0, 1, 0, 1, .role, [⟨31, 0, .ro, [0], .any⟩]⟩,
  /- SVY_COPY_ERR SVY-12 -/ ⟨27, 29, 0x111c, 0, 1, 0, 1, .role, [⟨31, 0, .ro, [0], .any⟩]⟩]

/-- The JNL registers of the spec, part 1. -/
def regsJNLA : List RegDef := [
  /- JNL_CFG TLY-8 -/ ⟨5, 5, 0x1000, 0, 1, 0, 1, .inst, [⟨5, 0, .rw, [0x19], (.rng 1 40)⟩, ⟨14, 8, .rw, [0x4b], (.rng 50 95)⟩]⟩,
  /- JNL_STAT TLY-8 -/ ⟨5, 5, 0x1004, 0, 1, 0, 1, .inst, [⟨6, 0, .ro, [0], .any⟩, ⟨7, 7, .ro, [0], .any⟩, ⟨8, 8, .ro, [0], .any⟩, ⟨9, 9, .ro, [0], .any⟩]⟩,
  /- JNL_HEAD TLY-9 -/ ⟨5, 5, 0x1008, 0, 1, 0, 1, .inst, [⟨31, 0, .ro, [0x1000], .any⟩]⟩,
  /- JNL_TAIL TLY-9 -/ ⟨5, 5, 0x100c, 0, 1, 0, 1, .inst, [⟨31, 0, .ro, [0x1000], .any⟩]⟩,
  /- JNL_SEQ_LO TLY-9 -/ ⟨5, 5, 0x1010, 0, 1, 0, 1, .inst, [⟨31, 0, .ro, [0], .any⟩]⟩,
  /- JNL_SEQ_HI TLY-9 -/ ⟨5, 5, 0x1014, 0, 1, 0, 1, .inst, [⟨31, 0, .ro, [0], .any⟩]⟩,
  /- JNL_DUR_LO TLY-9 -/ ⟨5, 5, 0x1018, 0, 1, 0, 1, .inst, [⟨31, 0, .ro, [0], .any⟩]⟩,
  /- JNL_DUR_HI TLY-9 -/ ⟨5, 5, 0x101c, 0, 1, 0, 1, .inst, [⟨31, 0, .ro, [0], .any⟩]⟩,
  /- JNL_REC TLY-10 -/ ⟨5, 5, 0x1100, 0, 1, 0, 1, .inst, [⟨31, 0, .ro, [0], .any⟩]⟩,
  /- JNL_UNITS TLY-10 -/ ⟨5, 5, 0x1104, 0, 1, 0, 1, .inst, [⟨31, 0, .ro, [0], .any⟩]⟩,
  /- JNL_FIX TLY-10 -/ ⟨5, 5, 0x1108, 0, 1, 0, 1, .inst, [⟨31, 0, .ro, [0], .any⟩]⟩,
  /- JNL_MOVED TLY-10 -/ ⟨5, 5, 0x110c, 0, 1, 0, 1, .inst, [⟨31, 0, .ro, [0], .any⟩]⟩,
  /- JNL_STALL_US TLY-10 -/ ⟨5, 5, 0x1110, 0, 1, 0, 1, .inst, [⟨31, 0, .ro, [0], .any⟩]⟩,
  /- JNL_FIX_REDO TLY-10 -/ ⟨5, 5, 0x1114, 0, 1, 0, 1, .inst, [⟨31, 0, .ro, [0], .any⟩]⟩,
  /- JNL_FIX_MISMATCH TLY-10 -/ ⟨5, 5, 0x1118, 0, 1, 0, 1, .inst, [⟨31, 0, .ro, [0], .any⟩]⟩]

/-- The CIP registers of the spec, part 1. -/
def regsCIPA : List RegDef := [
  /- CIP_CFG CIP-7 -/ ⟨42, 50, 0x1000, 0, 1, 0, 1, .cls, [⟨9, 0, .rw, [0x100], (.rng 16 1023)⟩, ⟨16, 16, .rw, [1], .any⟩]⟩,
  /- CIP_STAT CIP-8 -/ ⟨42, 50, 0x1004, 0, 1, 0, 1, .role, [⟨7, 0, .ro, [0], .any⟩, ⟨15, 8, .ro, [0], .any⟩, ⟨26, 16, .ro, [0], .any⟩, ⟨27, 27, .ro, [0], .any⟩]⟩,
  /- CIP_REQ CIP-9 -/ ⟨42, 50, 0x1100, 0, 1, 0, 1, .role, [⟨31, 0, .ro, [0], .any⟩]⟩,
  /- CIP_XTS_BLK CIP-9 -/ ⟨42, 50, 0x1104, 0, 1, 0, 1, .role, [⟨31, 0, .ro, [0], .any⟩]⟩,
  /- CIP_GCM_KIB CIP-9 -/ ⟨42, 50, 0x1108, 0, 1, 0, 1, .role, [⟨31, 0, .ro, [0], .any⟩]⟩,
  /- CIP_KC_HIT CIP-9 -/ ⟨42, 50, 0x110c, 0, 1, 0, 1, .role, [⟨31, 0, .ro, [0], .any⟩]⟩,
  /- CIP_KC_MISS CIP-9 -/ ⟨42, 50, 0x1110, 0, 1, 0, 1, .role, [⟨31, 0, .ro, [0], .any⟩]⟩,
  /- CIP_KC_WAIT CIP-9 -/ ⟨42, 50, 0x1114, 0, 1, 0, 1, .role, [⟨31, 0, .ro, [0], .any⟩]⟩,
  /- CIP_GUARD_ERR CIP-9 -/ ⟨42, 50, 0x1118, 0, 1, 0, 1, .role, [⟨31, 0, .ro, [0], .any⟩]⟩,
  /- CIP_AUTH_FAIL CIP-9 -/ ⟨42, 50, 0x111c, 0, 1, 0, 1, .role, [⟨31, 0, .ro, [0], .any⟩]⟩,
  /- CIP_REPLAY CIP-9 -/ ⟨42, 50, 0x1120, 0, 1, 0, 1, .role, [⟨31, 0, .ro, [0], .any⟩]⟩,
  /- CIP_CHECK_FAIL CIP-9 -/ ⟨42, 50, 0x1124, 0, 1, 0, 1, .role, [⟨31, 0, .ro, [0], .any⟩]⟩,
  /- CIP_STALE CIP-9 -/ ⟨42, 50, 0x1128, 0, 1, 0, 1, .role, [⟨31, 0, .ro, [0], .any⟩]⟩]

/-- The MEM registers of the spec, part 1. -/
def regsMEMA : List RegDef := [
  /- MEM_CFG MEM-5 -/ ⟨4, 4, 0x1000, 0, 1, 0, 1, .inst, [⟨1, 0, .rwl, [2], (.rng 0 2)⟩, ⟨15, 8, .rw, [0x5f], (.rng 85 100)⟩]⟩,
  /- MEM_STAT MEM-5 -/ ⟨4, 4, 0x1004, 0, 1, 0, 1, .inst, [⟨14, 0, .ro, [0], .any⟩, ⟨17, 16, .ro, [0], .any⟩]⟩,
  /- MEM_CHSTATn MEM-6 -/ ⟨4, 4, 0x1010, 4, 8, 0, 1, .inst, [⟨0, 0, .ro, [0], .any⟩, ⟨1, 1, .ro, [0], .any⟩, ⟨2, 2, .ro, [0], .any⟩, ⟨3, 3, .ro, [0], .any⟩, ⟨16, 8, .ro, [0], .any⟩, ⟨19, 17, .ro, [0], .any⟩, ⟨31, 24, .ro, [0], .any⟩]⟩,
  /- MEM_RGN_CFGA MEM-7 -/ ⟨4, 4, 0x1040, 0, 1, 0, 1, .inst, [⟨10, 0, .rwl, [0], .any⟩, ⟨20, 11, .rwl, [4], (.rng 1 1023)⟩, ⟨30, 21, .rwl, [4], (.rng 1 1023)⟩]⟩,
  /- MEM_RGN_CFGB MEM-7 -/ ⟨4, 4, 0x1044, 0, 1, 0, 1, .inst, [⟨4, 0, .rwl, [0x10], (.rng 1 16)⟩, ⟨14, 8, .rwl, [0], (.rng 0 64)⟩, ⟨21, 16, .rwl, [0x10], (.rng 1 32)⟩]⟩,
  /- MEM_CACHE_CTL MEM-8 -/ ⟨4, 4, 0x1050, 0, 1, 0, 1, .inst, [⟨0, 0, .ro, [0], .any⟩, ⟨1, 1, .ro, [0], .any⟩, ⟨2, 2, .ro, [0], .any⟩, ⟨3, 3, .w1c, [0], .any⟩, ⟨4, 4, .wo, [0], .any⟩, ⟨5, 5, .wo, [0], .any⟩]⟩,
  /- MEM_CACHE_STAT MEM-8 -/ ⟨4, 4, 0x1054, 0, 1, 0, 1, .inst, [⟨7, 0, .ro, [0], .any⟩, ⟨8, 8, .ro, [0], .any⟩, ⟨23, 16, .ro, [0], .any⟩]⟩,
  /- MEM_MNT_CMD MEM-9 -/ ⟨4, 4, 0x1060, 0, 1, 0, 1, .inst, [⟨1, 0, .wo, [0], .any⟩, ⟨2, 2, .wo, [0], .any⟩, ⟨3, 3, .wo, [0], .any⟩, ⟨16, 16, .ro, [0], .any⟩, ⟨17, 17, .w1c, [0], .any⟩]⟩,
  /- MEM_MNT_NSID MEM-9 -/ ⟨4, 4, 0x1064, 0, 1, 0, 1, .inst, [⟨31, 0, .rw, [0], .any⟩]⟩,
  /- MEM_MNT_SLBA_LO MEM-9 -/ ⟨4, 4, 0x1068, 0, 1, 0, 1, .inst, [⟨31, 0, .rw, [0], .any⟩]⟩,
  /- MEM_MNT_SLBA_HI MEM-9 -/ ⟨4, 4, 0x106c, 0, 1, 0, 1, .inst, [⟨31, 0, .rw, [0], .any⟩]⟩,
  /- MEM_MNT_NLB MEM-9 -/ ⟨4, 4, 0x1070, 0, 1, 0, 1, .inst, [⟨31, 0, .rw, [0], .any⟩]⟩,
  /- MEM_DET_DRAM MEM-10 -/ ⟨4, 4, 0x1100, 0, 1, 0, 1, .inst, [⟨31, 0, .ro, [0], .any⟩]⟩,
  /- MEM_DET_PATH MEM-10 -/ ⟨4, 4, 0x1104, 0, 1, 0, 1, .inst, [⟨31, 0, .ro, [0], .any⟩]⟩,
  /- MEM_REREAD_OK MEM-10 -/ ⟨4, 4, 0x1108, 0, 1, 0, 1, .inst, [⟨31, 0, .ro, [0], .any⟩]⟩,
  /- MEM_RECOVERED MEM-10 -/ ⟨4, 4, 0x110c, 0, 1, 0, 1, .inst, [⟨31, 0, .ro, [0], .any⟩]⟩,
  /- MEM_RETIRED MEM-10 -/ ⟨4, 4, 0x1110, 0, 1, 0, 1, .inst, [⟨31, 0, .ro, [0], .any⟩]⟩,
  /- MEM_HIT MEM-10 -/ ⟨4, 4, 0x1114, 0, 1, 0, 1, .inst, [⟨31, 0, .ro, [0], .any⟩]⟩,
  /- MEM_MISS MEM-10 -/ ⟨4, 4, 0x1118, 0, 1, 0, 1, .inst, [⟨31, 0, .ro, [0], .any⟩]⟩,
  /- MEM_EVICT MEM-10 -/ ⟨4, 4, 0x111c, 0, 1, 0, 1, .inst, [⟨31, 0, .ro, [0], .any⟩]⟩]

/-- The MEM registers of the spec, part 2. -/
def regsMEMB : List RegDef := [
  /- MEM_EVICT_WAIT MEM-10 -/ ⟨4, 4, 0x1120, 0, 1, 0, 1, .inst, [⟨31, 0, .ro, [0], .any⟩]⟩,
  /- MEM_PEND_FULL MEM-10 -/ ⟨4, 4, 0x1124, 0, 1, 0, 1, .inst, [⟨31, 0, .ro, [0], .any⟩]⟩,
  /- MEM_WB MEM-10 -/ ⟨4, 4, 0x1128, 0, 1, 0, 1, .inst, [⟨31, 0, .ro, [0], .any⟩]⟩,
  /- MEM_RGN_BASEr MEM-7 -/ ⟨4, 4, 0x1200, 8, 15, 0, 1, .inst, [⟨31, 0, .ro, [0], .any⟩]⟩,
  /- MEM_RGN_SIZEr MEM-7 -/ ⟨4, 4, 0x1204, 8, 15, 0, 1, .inst, [⟨31, 0, .ro, [0], .any⟩]⟩]

/-- The DRV registers of the spec, part 1. -/
def regsDRVA : List RegDef := [
  /- DRV_CFG DRP-8 -/ ⟨51, 56, 0x1000, 0, 1, 0, 1, .cls, [⟨1, 0, .rwl, [2], (.rng 0 2)⟩, ⟨2, 2, .rw, [1], .any⟩, ⟨3, 3, .rw, [1], .any⟩, ⟨11, 4, .rwl, [0xa], (.rng 1 255)⟩, ⟨17, 12, .rw, [1], (.rng 1 60)⟩, ⟨23, 20, .rw, [3], (.rng 1 15)⟩]⟩,
  /- DRV_PSTATp DRP-9 -/ ⟨51, 56, 0x1400, 128, 8, 0, 1, .inst, [⟨0, 0, .ro, [0], .any⟩, ⟨1, 1, .ro, [0], .any⟩, ⟨2, 2, .ro, [0], .any⟩, ⟨4, 3, .ro, [0], .any⟩, ⟨5, 5, .ro, [0], .any⟩, ⟨6, 6, .ro, [0], .any⟩, ⟨7, 7, .ro, [0], .any⟩, ⟨8, 8, .ro, [0], .any⟩, ⟨12, 9, .ro, [0], .any⟩, ⟨26, 16, .ro, [0], .any⟩]⟩,
  /- DRV_PCTLp DRP-9 -/ ⟨51, 56, 0x1404, 128, 8, 0, 1, .inst, [⟨0, 0, .rw, [0], .any⟩, ⟨1, 1, .wo, [0], .any⟩, ⟨2, 2, .wo, [0], .any⟩, ⟨3, 3, .w1c, [0], .any⟩]⟩,
  /- DRV_CMDp DRP-10 -/ ⟨51, 56, 0x1440, 128, 8, 0, 1, .inst, [⟨31, 0, .ro, [0], .any⟩]⟩,
  /- DRV_ERR_CQEp DRP-10 -/ ⟨51, 56, 0x1444, 128, 8, 0, 1, .inst, [⟨31, 0, .ro, [0], .any⟩]⟩,
  /- DRV_LATEp DRP-10 -/ ⟨51, 56, 0x1448, 128, 8, 0, 1, .inst, [⟨31, 0, .ro, [0], .any⟩]⟩,
  /- DRV_LATE_DMAp DRP-10 -/ ⟨51, 56, 0x144c, 128, 8, 0, 1, .inst, [⟨31, 0, .ro, [0], .any⟩]⟩,
  /- DRV_DMA_REJp DRP-10 -/ ⟨51, 56, 0x1450, 128, 8, 0, 1, .inst, [⟨31, 0, .ro, [0], .any⟩]⟩,
  /- DRV_CONTAINp DRP-10 -/ ⟨51, 56, 0x1454, 128, 8, 0, 1, .inst, [⟨31, 0, .ro, [0], .any⟩]⟩,
  /- DRV_RETRAINp DRP-10 -/ ⟨51, 56, 0x1458, 128, 8, 0, 1, .inst, [⟨31, 0, .ro, [0], .any⟩]⟩,
  /- DRV_AER_CORp DRP-10 -/ ⟨51, 56, 0x145c, 128, 8, 0, 1, .inst, [⟨31, 0, .ro, [0], .any⟩]⟩]

/-- The CHN registers of the spec, part 1. -/
def regsCHNA : List RegDef := [
  /- CHN_SBC_CFG DRP-12 -/ ⟨3, 3, 0x3000, 0, 1, 0, 1, .inst, [⟨15, 0, .rwl, [0x30d4], (.rng 1000 25000)⟩, ⟨23, 16, .rwl, [0x14], .any⟩, ⟨31, 24, .rw, [0xa], (.rng 1 100)⟩]⟩,
  /- CHN_SBC_INi DRP-12 -/ ⟨3, 3, 0x3010, 4, 6, 0, 1, .inst, [⟨31, 0, .ro, [0], .any⟩]⟩,
  /- CHN_SBC_OUTi DRP-12 -/ ⟨3, 3, 0x3030, 4, 6, 0, 1, .inst, [⟨31, 0, .ro, [0xcccccccc], .any⟩]⟩,
  /- CHN_CHAIN_CFG PAIR-11 -/ ⟨3, 3, 0x1000, 0, 1, 0, 1, .inst, [⟨7, 0, .rwl, [0xa], (.rng 1 60)⟩, ⟨8, 8, .rw, [1], .any⟩]⟩,
  /- CHN_CHAIN_STAT PAIR-12 -/ ⟨3, 3, 0x1004, 0, 1, 0, 1, .inst, [⟨5, 0, .ro, [0], .any⟩, ⟨6, 6, .ro, [0], .any⟩, ⟨7, 7, .ro, [0], .any⟩, ⟨8, 8, .ro, [0], .any⟩, ⟨9, 9, .ro, [0], .any⟩, ⟨10, 10, .ro, [0], .any⟩, ⟨22, 16, .ro, [0], .any⟩]⟩,
  /- CHN_CHAIN_CMD PAIR-12 -/ ⟨3, 3, 0x1008, 0, 1, 0, 1, .inst, [⟨0, 0, .wo, [0], .any⟩]⟩,
  /- CHN_HOP_DELAY PAIR-12 -/ ⟨3, 3, 0x100c, 0, 1, 0, 1, .inst, [⟨31, 0, .ro, [0], .any⟩]⟩,
  /- CHN_TX_FRM PAIR-13 -/ ⟨3, 3, 0x1100, 0, 1, 0, 1, .inst, [⟨31, 0, .ro, [0], .any⟩]⟩,
  /- CHN_RX_FRM PAIR-13 -/ ⟨3, 3, 0x1104, 0, 1, 0, 1, .inst, [⟨31, 0, .ro, [0], .any⟩]⟩,
  /- CHN_CRC_ERR PAIR-13 -/ ⟨3, 3, 0x1108, 0, 1, 0, 1, .inst, [⟨31, 0, .ro, [0], .any⟩]⟩,
  /- CHN_MGMT_DROP PAIR-13 -/ ⟨3, 3, 0x110c, 0, 1, 0, 1, .inst, [⟨31, 0, .ro, [0], .any⟩]⟩,
  /- CHN_HB_MISS PAIR-13 -/ ⟨3, 3, 0x1110, 0, 1, 0, 1, .inst, [⟨31, 0, .ro, [0], .any⟩]⟩,
  /- CHN_SMB_CFGp MGT-9 -/ ⟨3, 3, 0x4000, 4, 2, 0, 1, .inst, [⟨6, 0, .rwl, [0x1d], .any⟩, ⟨7, 7, .rwl, [1], .any⟩, ⟨14, 8, .rwl, [0x6a], .any⟩, ⟨17, 16, .rwl, [0], (.rng 0 2)⟩]⟩,
  /- CHN_SMB_PECp MGT-9 -/ ⟨3, 3, 0x4010, 8, 2, 0, 1, .inst, [⟨31, 0, .ro, [0], .any⟩]⟩,
  /- CHN_SMB_TOp MGT-9 -/ ⟨3, 3, 0x4014, 8, 2, 0, 1, .inst, [⟨31, 0, .ro, [0], .any⟩]⟩]

/-- The PRT registers of the spec, part 1. -/
def regsPRTA : List RegDef := [
  /- PRT_RX_OCTETS ETH-3 -/ ⟨8, 15, 0x1400, 256, 4, 4, 2, .inst, [⟨31, 0, .rc, [0], .any⟩]⟩,
  /- PRT_RX_FRAMES ETH-3 -/ ⟨8, 15, 0x1408, 256, 4, 4, 2, .inst, [⟨31, 0, .rc, [0], .any⟩]⟩,
  /- PRT_RX_FCS_ERR ETH-3 -/ ⟨8, 15, 0x1410, 256, 4, 4, 2, .inst, [⟨31, 0, .rc, [0], .any⟩]⟩,
  /- PRT_RX_LEN_ERR ETH-3 -/ ⟨8, 15, 0x1418, 256, 4, 4, 2, .inst, [⟨31, 0, .rc, [0], .any⟩]⟩,
  /- PRT_RX_VLAN_DROP ETH-3 -/ ⟨8, 15, 0x1420, 256, 4, 4, 2, .inst, [⟨31, 0, .rc, [0], .any⟩]⟩,
  /- PRT_RX_GROUP_DROP ETH-3 -/ ⟨8, 15, 0x1428, 256, 4, 4, 2, .inst, [⟨31, 0, .rc, [0], .any⟩]⟩,
  /- PRT_RX_PAUSE ETH-3 -/ ⟨8, 15, 0x1430, 256, 4, 4, 2, .inst, [⟨31, 0, .rc, [0], .any⟩]⟩,
  /- PRT_TX_OCTETS ETH-3 -/ ⟨8, 15, 0x1438, 256, 4, 4, 2, .inst, [⟨31, 0, .rc, [0], .any⟩]⟩,
  /- PRT_TX_FRAMES ETH-3 -/ ⟨8, 15, 0x1440, 256, 4, 4, 2, .inst, [⟨31, 0, .rc, [0], .any⟩]⟩,
  /- PRT_TX_PAUSE ETH-3 -/ ⟨8, 15, 0x1448, 256, 4, 4, 2, .inst, [⟨31, 0, .rc, [0], .any⟩]⟩,
  /- PRT_FEC_CORR ETH-3 -/ ⟨8, 15, 0x1450, 256, 4, 4, 2, .inst, [⟨31, 0, .rc, [0], .any⟩]⟩,
  /- PRT_FEC_UNCORR ETH-3 -/ ⟨8, 15, 0x1458, 256, 4, 4, 2, .inst, [⟨31, 0, .rc, [0], .any⟩]⟩,
  /- PRT_WD_DROP ETH-3 -/ ⟨8, 15, 0x1460, 256, 4, 4, 2, .inst, [⟨31, 0, .rc, [0], .any⟩]⟩,
  /- PRT_LINK_DOWN ETH-3 -/ ⟨8, 15, 0x1468, 256, 4, 4, 2, .inst, [⟨31, 0, .rc, [0], .any⟩]⟩,
  /- PRT_LPI_US ETH-3 -/ ⟨8, 15, 0x1470, 256, 4, 4, 2, .inst, [⟨31, 0, .rc, [0], .any⟩]⟩,
  /- PRT_LINK_DISCARD ETH-3 -/ ⟨8, 15, 0x1478, 256, 4, 4, 2, .inst, [⟨31, 0, .rc, [0], .any⟩]⟩,
  /- PRT_MODE ETH-4 -/ ⟨8, 15, 0x1000, 0, 1, 0, 1, .inst, [⟨2, 0, .rwl, [0], .any⟩, ⟨5, 4, .rwl, [0], .any⟩, ⟨6, 6, .rwl, [1], .any⟩, ⟨11, 8, .rwl, [0], .any⟩, ⟨15, 12, .rwl, [0], .any⟩]⟩,
  /- PRT_STAT ETH-5 -/ ⟨8, 15, 0x1004, 0, 1, 0, 1, .inst, [⟨3, 0, .ro, [0], .any⟩, ⟨7, 4, .ro, [0], .any⟩, ⟨8, 8, .ro, [0], .any⟩, ⟨9, 9, .ro, [0], .any⟩, ⟨10, 10, .ro, [0], .any⟩]⟩,
  /- PRT_MACCFG ETH-6 -/ ⟨8, 15, 0x1100, 64, 4, 0, 1, .inst, [⟨13, 0, .rw, [0x2400], (.rng 1518 9600)⟩, ⟨15, 14, .rw, [0], (.rng 0 2)⟩, ⟨23, 16, .rw, [0], .any⟩, ⟨24, 24, .rw, [0], .any⟩, ⟨27, 25, .rw, [0], .any⟩]⟩,
  /- PRT_PVID ETH-6 -/ ⟨8, 15, 0x1104, 64, 4, 0, 1, .inst, [⟨11, 0, .rw, [1], .any⟩]⟩]

/-- The PRT registers of the spec, part 2. -/
def regsPRTB : List RegDef := [
  /- PRT_FCTX ETH-6 -/ ⟨8, 15, 0x1108, 64, 4, 0, 1, .inst, [⟨15, 0, .rw, [0xffff], (.rng 1 65535)⟩, ⟨23, 16, .rw, [0x64], (.rng 1 255)⟩]⟩,
  /- PRT_GHASHj ETH-6 -/ ⟨8, 15, 0x1110, 64, 4, 4, 8, .inst, [⟨31, 0, .rw, [0], .any⟩]⟩,
  /- PRT_DSCP_MAPj ETH-7 -/ ⟨8, 15, 0x1300, 4, 8, 0, 1, .inst, [⟨2, 0, .rw, [0], .any⟩, ⟨6, 4, .rw, [0], .any⟩, ⟨10, 8, .rw, [0], .any⟩, ⟨14, 12, .rw, [0], .any⟩, ⟨18, 16, .rw, [0], .any⟩, ⟨22, 20, .rw, [0], .any⟩, ⟨26, 24, .rw, [0], .any⟩, ⟨30, 28, .rw, [0], .any⟩]⟩,
  /- PRT_PCP_MAP ETH-7 -/ ⟨8, 15, 0x1320, 0, 1, 0, 1, .inst, [⟨2, 0, .rw, [0], .any⟩, ⟨6, 4, .rw, [1], .any⟩, ⟨10, 8, .rw, [2], .any⟩, ⟨14, 12, .rw, [3], .any⟩, ⟨18, 16, .rw, [4], .any⟩, ⟨22, 20, .rw, [5], .any⟩, ⟨26, 24, .rw, [6], .any⟩, ⟨30, 28, .rw, [7], .any⟩]⟩,
  /- PRT_VIDj ETH-7 -/ ⟨8, 15, 0x1340, 4, 16, 0, 1, .inst, [⟨11, 0, .rw, [0], .any⟩, ⟨15, 15, .rw, [0], .any⟩, ⟨19, 16, .rw, [0], .any⟩]⟩,
  /- PRT_PFC_WD ETH-8 -/ ⟨8, 15, 0x1380, 0, 1, 0, 1, .inst, [⟨0, 0, .rw, [1], .any⟩, ⟨17, 8, .rw, [0x64], (.rng 10 1000)⟩, ⟨27, 18, .rw, [0xc8], (.rng 10 1000)⟩]⟩,
  /- PRT_TS_ADJ ETH-8 -/ ⟨8, 15, 0x1384, 0, 1, 0, 1, .inst, [⟨15, 0, .rw, [0], .any⟩, ⟨31, 16, .rw, [0], .any⟩]⟩,
  /- PRT_LPI ETH-9 -/ ⟨8, 15, 0x1388, 0, 1, 0, 1, .inst, [⟨0, 0, .rw, [0], .any⟩, ⟨15, 8, .rw, [0x14], (.rng 1 255)⟩, ⟨31, 16, .rw, [0], .any⟩]⟩]

/-- The SWC registers of the spec, part 1. -/
def regsSWCA : List RegDef := [
  /- SWC_CFG SWC-6 -/ ⟨16, 16, 0x1000, 0, 1, 0, 1, .inst, [⟨0, 0, .rw, [1], .any⟩, ⟨1, 1, .rwl, [1], .any⟩, ⟨31, 16, .rwl, [0], .any⟩]⟩,
  /- SWC_STATION_LO SWC-6 -/ ⟨16, 16, 0x1008, 0, 1, 0, 1, .inst, [⟨31, 0, .rwl, [0], .any⟩]⟩,
  /- SWC_STATION_HI SWC-6 -/ ⟨16, 16, 0x100c, 0, 1, 0, 1, .inst, [⟨15, 0, .rwl, [0], .any⟩]⟩,
  /- SWC_TCW SWC-6 -/ ⟨16, 16, 0x1010, 0, 1, 0, 1, .inst, [⟨3, 0, .rw, [1], .any⟩, ⟨7, 4, .rw, [1], .any⟩, ⟨11, 8, .rw, [1], .any⟩, ⟨15, 12, .rw, [1], .any⟩, ⟨19, 16, .rw, [1], .any⟩, ⟨23, 20, .rw, [1], .any⟩, ⟨27, 24, .rw, [1], .any⟩, ⟨31, 28, .rw, [0], .any⟩]⟩,
  /- SWC_CPOLq SWC-6 -/ ⟨16, 16, 0x1020, 4, 4, 0, 1, .inst, [⟨19, 0, .rw, [0x14, 0x32, 0x14, 0x14], .any⟩]⟩,
  /- SWC_BPROFj_A SWC-6 -/ ⟨16, 16, 0x1200, 8, 8, 0, 1, .inst, [⟨7, 0, .rw, [4], .any⟩, ⟨19, 8, .rw, [0x400], .any⟩, ⟨21, 20, .rw, [0], .any⟩]⟩,
  /- SWC_BPROFj_B SWC-6 -/ ⟨16, 16, 0x1204, 8, 8, 0, 1, .inst, [⟨9, 0, .rw, [0x40], .any⟩, ⟨19, 10, .rw, [0x30], .any⟩, ⟨29, 20, .rw, [0x20], .any⟩]⟩,
  /- SWC_REDk_c SWC-6 -/ ⟨16, 16, 0x1240, 16, 4, 4, 3, .inst, [⟨7, 0, .rw, [0], .any⟩, ⟨15, 8, .rw, [0], .any⟩, ⟨22, 16, .rw, [0], (.rng 0 100)⟩, ⟨24, 24, .rw, [0], .any⟩]⟩,
  /- SWC_POLj_A SWC-6 -/ ⟨16, 16, 0x1280, 8, 16, 0, 1, .inst, [⟨19, 0, .rw, [0], .any⟩, ⟨31, 20, .rw, [0x40], .any⟩]⟩,
  /- SWC_POLj_B SWC-6 -/ ⟨16, 16, 0x1284, 8, 16, 0, 1, .inst, [⟨19, 0, .rw, [0], .any⟩, ⟨31, 20, .rw, [0x40], .any⟩]⟩,
  /- SWC_GRPj_LO SWC-6 -/ ⟨16, 16, 0x1300, 8, 16, 0, 1, .inst, [⟨31, 0, .rw, [0], .any⟩]⟩,
  /- SWC_GRPj_HI SWC-6 -/ ⟨16, 16, 0x1304, 8, 16, 0, 1, .inst, [⟨31, 0, .rw, [0], .any⟩]⟩,
  /- SWC_SAMPp SWC-6 -/ ⟨16, 16, 0x1380, 4, 38, 0, 1, .inst, [⟨15, 0, .rw, [0], .any⟩, ⟨31, 16, .rw, [0], .any⟩]⟩,
  /- SWC_PCLSp_LO SWC-6 -/ ⟨16, 16, 0x1500, 8, 38, 0, 1, .inst, [⟨2, 0, .rw, [0], .any⟩, ⟨10, 8, .rw, [0], .any⟩, ⟨18, 16, .rw, [0], .any⟩, ⟨26, 24, .rw, [0], .any⟩, ⟨7, 3, .rw, [0], (.rng 0 16)⟩, ⟨15, 11, .rw, [0], (.rng 0 16)⟩, ⟨23, 19, .rw, [0], (.rng 0 16)⟩, ⟨31, 27, .rw, [0], (.rng 0 16)⟩]⟩,
  /- SWC_PCLSp_HI SWC-6 -/ ⟨16, 16, 0x1504, 8, 38, 0, 1, .inst, [⟨2, 0, .rw, [0], .any⟩, ⟨7, 3, .rw, [0], (.rng 0 16)⟩, ⟨10, 8, .rw, [0], .any⟩, ⟨15, 11, .rw, [0], (.rng 0 16)⟩, ⟨18, 16, .rw, [0], .any⟩, ⟨23, 19, .rw, [0], (.rng 0 16)⟩, ⟨26, 24, .rw, [0], .any⟩, ⟨31, 27, .rw, [0], (.rng 0 16)⟩]⟩,
  /- SWC_STAT SWC-7 -/ ⟨16, 16, 0x1004, 0, 1, 0, 1, .inst, [⟨17, 0, .ro, [0], .any⟩, ⟨18, 18, .ro, [0], .any⟩, ⟨19, 19, .ro, [0], .any⟩]⟩,
  /- SWC_FWD SWC-8 -/ ⟨16, 16, 0x1100, 0, 1, 0, 1, .inst, [⟨31, 0, .ro, [0], .any⟩]⟩,
  /- SWC_FWD_MISS SWC-8 -/ ⟨16, 16, 0x1104, 0, 1, 0, 1, .inst, [⟨31, 0, .ro, [0], .any⟩]⟩,
  /- SWC_DROP_LIMIT SWC-8 -/ ⟨16, 16, 0x1108, 0, 1, 0, 1, .inst, [⟨31, 0, .ro, [0], .any⟩]⟩,
  /- SWC_DROP_HDRM SWC-8 -/ ⟨16, 16, 0x110c, 0, 1, 0, 1, .inst, [⟨31, 0, .ro, [0], .any⟩]⟩]

/-- The SWC registers of the spec, part 2. -/
def regsSWCB : List RegDef := [
  /- SWC_DROP_FULL SWC-8 -/ ⟨16, 16, 0x1110, 0, 1, 0, 1, .inst, [⟨31, 0, .ro, [0], .any⟩]⟩,
  /- SWC_DROP_RED SWC-8 -/ ⟨16, 16, 0x1114, 0, 1, 0, 1, .inst, [⟨31, 0, .ro, [0], .any⟩]⟩,
  /- SWC_ECN_MARK SWC-8 -/ ⟨16, 16, 0x1118, 0, 1, 0, 1, .inst, [⟨31, 0, .ro, [0], .any⟩]⟩,
  /- SWC_CTL_DROP SWC-8 -/ ⟨16, 16, 0x111c, 0, 1, 0, 1, .inst, [⟨31, 0, .ro, [0], .any⟩]⟩,
  /- SWC_HAUL_FWD SWC-8 -/ ⟨16, 16, 0x1120, 0, 1, 0, 1, .inst, [⟨31, 0, .ro, [0], .any⟩]⟩,
  /- SWC_HAUL_DROP SWC-8 -/ ⟨16, 16, 0x1124, 0, 1, 0, 1, .inst, [⟨31, 0, .ro, [0], .any⟩]⟩,
  /- SWC_LINK_DROP SWC-8 -/ ⟨16, 16, 0x1128, 0, 1, 0, 1, .inst, [⟨31, 0, .ro, [0], .any⟩]⟩,
  /- SWC_SAMPLES SWC-8 -/ ⟨16, 16, 0x112c, 0, 1, 0, 1, .inst, [⟨31, 0, .ro, [0], .any⟩]⟩,
  /- SWC_SAMP_DROP SWC-8 -/ ⟨16, 16, 0x1130, 0, 1, 0, 1, .inst, [⟨31, 0, .ro, [0], .any⟩]⟩,
  /- SWC_CELL_CRC SWC-8 -/ ⟨16, 16, 0x1134, 0, 1, 0, 1, .inst, [⟨31, 0, .ro, [0], .any⟩]⟩,
  /- own-address table, addresses SWC-4 -/ ⟨16, 16, 0x8000, 32, 64, 4, 4, .inst, [⟨31, 0, .rw, [0], .any⟩]⟩,
  /- own-address table, MAC, FLAGS and VID SWC-4 -/ ⟨16, 16, 0x8010, 32, 64, 0, 1, .inst, [⟨4, 0, .rw, [0], .any⟩, ⟨8, 8, .rw, [0], .any⟩, ⟨27, 16, .rw, [0], .any⟩]⟩,
  /- forwarding table, DMAC SWC-3 -/ ⟨16, 16, 0x10000, 16, 4096, 0, 1, .inst, [⟨31, 0, .rw, [0], .any⟩]⟩,
  /- forwarding table, DMAC, VID and VALID SWC-3 -/ ⟨16, 16, 0x10004, 16, 4096, 0, 1, .inst, [⟨15, 0, .rw, [0], .any⟩, ⟨27, 16, .rw, [0], .any⟩, ⟨28, 28, .rw, [0], .any⟩]⟩,
  /- forwarding table, TARGET SWC-3 -/ ⟨16, 16, 0x10008, 16, 4096, 0, 1, .inst, [⟨6, 0, .rw, [0], .any⟩]⟩]

/-- The EPT registers of the spec, part 1. -/
def regsEPTA : List RegDef := [
  /- EPT_CFG EPT-5 -/ ⟨6, 6, 0x1000, 0, 1, 0, 1, .inst, [⟨0, 0, .rwl, [0], .any⟩, ⟨1, 1, .rwl, [0], .any⟩, ⟨2, 2, .rwl, [0], .any⟩, ⟨4, 3, .rwl, [3], .any⟩, ⟨11, 6, .rwl, [0x3f], .any⟩]⟩,
  /- EPT_PM_CFG EPT-6 -/ ⟨6, 6, 0x1004, 0, 1, 0, 1, .inst, [⟨7, 0, .rw, [0xa], (.rng 1 255)⟩, ⟨15, 8, .rw, [0xa], .any⟩, ⟨23, 16, .rw, [0x64], .any⟩]⟩,
  /- EPT_STAT EPT-7 -/ ⟨6, 6, 0x1008, 0, 1, 0, 1, .inst, [⟨0, 0, .ro, [0], .any⟩, ⟨3, 1, .ro, [0], .any⟩, ⟨8, 4, .ro, [0], .any⟩, ⟨9, 9, .ro, [0], .any⟩, ⟨10, 10, .ro, [0], .any⟩, ⟨16, 11, .ro, [0], .any⟩, ⟨26, 17, .ro, [0], .any⟩]⟩,
  /- EPT_SQE_FETCH EPT-8 -/ ⟨6, 6, 0x1100, 0, 1, 0, 1, .inst, [⟨31, 0, .ro, [0], .any⟩]⟩,
  /- EPT_CQE_POST EPT-8 -/ ⟨6, 6, 0x1104, 0, 1, 0, 1, .inst, [⟨31, 0, .ro, [0], .any⟩]⟩,
  /- EPT_RD_REQ EPT-8 -/ ⟨6, 6, 0x1108, 0, 1, 0, 1, .inst, [⟨31, 0, .ro, [0], .any⟩]⟩,
  /- EPT_WR_REQ EPT-8 -/ ⟨6, 6, 0x110c, 0, 1, 0, 1, .inst, [⟨31, 0, .ro, [0], .any⟩]⟩,
  /- EPT_BME_DISC EPT-8 -/ ⟨6, 6, 0x1110, 0, 1, 0, 1, .inst, [⟨31, 0, .ro, [0], .any⟩]⟩,
  /- EPT_LATE_CPL EPT-8 -/ ⟨6, 6, 0x1114, 0, 1, 0, 1, .inst, [⟨31, 0, .ro, [0], .any⟩]⟩,
  /- EPT_CPL_TO EPT-8 -/ ⟨6, 6, 0x1118, 0, 1, 0, 1, .inst, [⟨31, 0, .ro, [0], .any⟩]⟩,
  /- EPT_POISON EPT-8 -/ ⟨6, 6, 0x111c, 0, 1, 0, 1, .inst, [⟨31, 0, .ro, [0], .any⟩]⟩,
  /- EPT_FLR EPT-8 -/ ⟨6, 6, 0x1120, 0, 1, 0, 1, .inst, [⟨31, 0, .ro, [0], .any⟩]⟩,
  /- EPT_LINK_RESET EPT-8 -/ ⟨6, 6, 0x1124, 0, 1, 0, 1, .inst, [⟨31, 0, .ro, [0], .any⟩]⟩,
  /- EPT_L1_ENTRY EPT-8 -/ ⟨6, 6, 0x1128, 0, 1, 0, 1, .inst, [⟨31, 0, .ro, [0], .any⟩]⟩,
  /- EPT_RELAY_CMD EPT-8 -/ ⟨6, 6, 0x112c, 0, 1, 0, 1, .inst, [⟨31, 0, .ro, [0], .any⟩]⟩]

/-- The HAL registers of the spec, part 1. -/
def regsHALA : List RegDef := [
  /- HAL_PAIR_CFG PAIR-14 -/ ⟨7, 7, 0x1000, 0, 1, 0, 1, .inst, [⟨3, 0, .rw, [2], (.rng 1 10)⟩, ⟨4, 4, .rwl, [0], .any⟩, ⟨5, 5, .rwl, [0], .any⟩, ⟨15, 8, .rwl, [0xa], (.rng 1 120)⟩, ⟨23, 16, .rw, [0x64], (.rng 10 255)⟩]⟩,
  /- HAL_CFG PAIR-15 -/ ⟨7, 7, 0x1004, 0, 1, 0, 1, .inst, [⟨6, 0, .rw, [0x3c], (.rng 10 90)⟩, ⟨14, 8, .rw, [0x32], (.rng 10 90)⟩, ⟨16, 16, .rw, [1], .any⟩, ⟨17, 17, .rw, [1], .any⟩]⟩,
  /- HAL_PAIR_CMD PAIR-16 -/ ⟨7, 7, 0x1008, 0, 1, 0, 1, .inst, [⟨0, 0, .wo, [0], .any⟩, ⟨1, 1, .wo, [0], .any⟩]⟩,
  /- HAL_PAIR_STAT PAIR-16 -/ ⟨7, 7, 0x100c, 0, 1, 0, 1, .inst, [⟨2, 0, .ro, [0], .any⟩, ⟨3, 3, .ro, [0], .any⟩, ⟨4, 4, .ro, [0], .any⟩, ⟨5, 5, .ro, [0], .any⟩, ⟨6, 6, .ro, [0], .any⟩, ⟨7, 7, .ro, [0], .any⟩, ⟨8, 8, .ro, [0], .any⟩, ⟨9, 9, .ro, [0], .any⟩, ⟨22, 16, .ro, [0], .any⟩, ⟨26, 24, .ro, [7], .any⟩]⟩,
  /- HAL_PAIR_GEN_LO PAIR-17 -/ ⟨7, 7, 0x1010, 0, 1, 0, 1, .inst, [⟨31, 0, .ro, [0], .any⟩]⟩,
  /- HAL_PAIR_GEN_HI PAIR-17 -/ ⟨7, 7, 0x1014, 0, 1, 0, 1, .inst, [⟨31, 0, .ro, [0], .any⟩]⟩,
  /- HAL_TX_FRM PAIR-18 -/ ⟨7, 7, 0x1100, 0, 1, 0, 1, .inst, [⟨31, 0, .ro, [0], .any⟩]⟩,
  /- HAL_RX_FRM PAIR-18 -/ ⟨7, 7, 0x1104, 0, 1, 0, 1, .inst, [⟨31, 0, .ro, [0], .any⟩]⟩,
  /- HAL_RESEND PAIR-18 -/ ⟨7, 7, 0x1108, 0, 1, 0, 1, .inst, [⟨31, 0, .ro, [0], .any⟩]⟩,
  /- HAL_AUTH_FAIL PAIR-18 -/ ⟨7, 7, 0x110c, 0, 1, 0, 1, .inst, [⟨31, 0, .ro, [0], .any⟩]⟩,
  /- HAL_SEQ_DROP PAIR-18 -/ ⟨7, 7, 0x1110, 0, 1, 0, 1, .inst, [⟨31, 0, .ro, [0], .any⟩]⟩,
  /- HAL_HB_MISS PAIR-18 -/ ⟨7, 7, 0x1114, 0, 1, 0, 1, .inst, [⟨31, 0, .ro, [0], .any⟩]⟩,
  /- HAL_MIRROR_ITEMS PAIR-18 -/ ⟨7, 7, 0x1118, 0, 1, 0, 1, .inst, [⟨31, 0, .ro, [0], .any⟩]⟩,
  /- HAL_TAKEOVER PAIR-18 -/ ⟨7, 7, 0x111c, 0, 1, 0, 1, .inst, [⟨31, 0, .ro, [0], .any⟩]⟩,
  /- HAL_HANDOVER PAIR-18 -/ ⟨7, 7, 0x1120, 0, 1, 0, 1, .inst, [⟨31, 0, .ro, [0], .any⟩]⟩]

/-- The TRU registers of the spec, part 1. -/
def regsTRUA : List RegDef := [
  /- TRU_STAT TRU-10 -/ ⟨1, 1, 0x1000, 0, 1, 0, 1, .inst, [⟨3, 0, .ro, [0], .any⟩, ⟨5, 4, .ro, [0], .any⟩, ⟨6, 6, .ro, [0], .any⟩, ⟨7, 7, .ro, [0], .any⟩, ⟨10, 8, .ro, [0], .any⟩, ⟨11, 11, .w1c, [0], .any⟩, ⟨15, 12, .ro, [0], .any⟩, ⟨17, 16, .ro, [0], .any⟩]⟩,
  /- TRU_CTL TRU-11 -/ ⟨1, 1, 0x1004, 0, 1, 0, 1, .inst, [⟨0, 0, .wo, [0], .any⟩]⟩,
  /- TRU_TOKEN_CMD TRU-11 -/ ⟨1, 1, 0x1040, 0, 1, 0, 1, .inst, [⟨0, 0, .wo, [0], .any⟩, ⟨1, 1, .ro, [0], .any⟩, ⟨10, 8, .ro, [0], .any⟩]⟩]

/-- The PAR registers of the spec, part 1. -/
def regsPARA : List RegDef := [
  /- PAR_STRIPES MGT-8 -/ ⟨33, 41, 0x1100, 0, 1, 0, 1, .role, [⟨31, 0, .ro, [0], .any⟩]⟩,
  /- PAR_RMW MGT-8 -/ ⟨33, 41, 0x1104, 0, 1, 0, 1, .role, [⟨31, 0, .ro, [0], .any⟩]⟩,
  /- PAR_RECON MGT-8 -/ ⟨33, 41, 0x1108, 0, 1, 0, 1, .role, [⟨31, 0, .ro, [0], .any⟩]⟩,
  /- PAR_REPLAY MGT-8 -/ ⟨33, 41, 0x110c, 0, 1, 0, 1, .role, [⟨31, 0, .ro, [0], .any⟩]⟩,
  /- PAR_CHECK_FAIL MGT-8 -/ ⟨33, 41, 0x1110, 0, 1, 0, 1, .role, [⟨31, 0, .ro, [0], .any⟩]⟩]

/-- The register lines from offset 0x1000 on in the window of a bench (Tables of each bench's own registers). -/
def benchTable (b : Nat) : List RegDef :=
  if b = 0 then regsCTLA ++ regsCTLB
  else if b = 1 then regsTRUA
  else if b = 2 then regsTIMA
  else if b = 3 then regsCHNA
  else if b = 4 then regsMEMA ++ regsMEMB
  else if b = 5 then regsJNLA
  else if b = 6 then regsEPTA
  else if b = 7 then regsHALA
  else if b < 16 then regsPRTA ++ regsPRTB
  else if b = 16 then regsSWCA ++ regsSWCB
  else if b < 22 then regsXPTA ++ regsXPTB
  else if b < 27 then regsCMDA
  else if b < 30 then regsSVYA
  else if b < 33 then regsLAYA ++ regsLAYB
  else if b < 42 then regsPARA
  else if b < 51 then regsCIPA
  else if b < 57 then regsDRVA
  else []

/-- The register lines that can lie at an offset of a bench's window: the common block's below 0x1000. -/
def regTable (b off : Nat) : List RegDef := if off < 0x1000 then regsBENCHA else benchTable b

end Sys2Proof.Machine
end

