-- ==== Sys2Proof/Machine/RegFile.lean ====
section
/-!
DEFINITION. Machine/RegFile.lean: where each register's one copy is kept (its home key), its cold value, and the sparse
register file: the words that differ from their cold value, in rising order of home key.
-/

namespace Sys2Proof.Machine

/-- Home key of a class-common register of class c (R105); class 6 stands for the six DRV benches (R424). -/
def clsKey (c off : Nat) : Nat := 0x4000000 + c * 0x100000 + off

/-- Home key of a register that belongs to role r of class c (R105). -/
def roleKey (c r off : Nat) : Nat := 0x5000000 + c * 0x1000000 + r * 0x100000 + off

/-- Number of the first bench of each class of Table ARC-1, and of DRV. -/
def classFirst : List Nat := [17, 22, 27, 30, 33, 42, 51]

/-- The class of a bench ID by Table ARC-1; 6 for DRV, none for a singleton of another kind. -/
def classOf (b : Nat) : Option Nat :=
  if b < 17 then none else if b < 22 then some 0 else if b < 27 then some 1 else if b < 30 then some 2
  else if b < 33 then some 3 else if b < 42 then some 4 else if b < 51 then some 5
  else if b < 57 then some 6 else none

/-- The copy index of a register line that an offset selects, if it selects one. -/
def regIndex (d : RegDef) (off : Nat) : Option Nat :=
  let r := off - d.off
  let i := if d.stride = 0 then 0 else r / d.stride
  let j := if d.stride2 = 0 then 0 else (r - i * d.stride) / d.stride2
  if off = d.off + d.stride * i + d.stride2 * j ∧ i < d.count ∧ j < d.count2 then some (i * d.count2 + j) else none

/-- Whether an offset can lie in a register line at all: a quick bound before the search. -/
def regSpans (d : RegDef) (off : Nat) : Bool :=
  d.off ≤ off && off ≤ d.off + d.stride * (d.count - 1) + d.stride2 * (d.count2 - 1)

/-- The register line of a bench window's offset, with the copy index. -/
def findReg (bench off : Nat) : Option (RegDef × Nat) :=
  (regTable bench off).findSome? fun d =>
    if d.firstBench ≤ bench && bench ≤ d.lastBench && regSpans d off then
      (regIndex d off).map fun k => (d, k)
    else none

/-- The bench and the offset that a home key stands for when its line is looked up. -/
def homeWindow (key : Nat) : Nat × Nat :=
  if key < 0x4000000 then (key / 0x100000, key % 0x100000)
  else if key < 0x5000000 then (classFirst.getD ((key - 0x4000000) / 0x100000) 63, key % 0x100000)
  else (classFirst.getD ((key - 0x5000000) / 0x1000000) 63, key % 0x100000)

/-- The word a register line holds after a cold power-on, copy k. -/
def regColdWord (d : RegDef) (k : Nat) : Word :=
  BitVec.ofNat 32 <| d.fields.foldl (fun acc f => acc + f.cold.getD k (f.cold.getD 0 0) * 2 ^ f.lo) 0

/-- The cold value of the word at a home key; 0 where no table gives a register (R10). -/
def coldWord (key : Nat) : Word :=
  match findReg (homeWindow key).1 (homeWindow key).2 with
  | some (d, k) => regColdWord d k
  | none => 0

/-- The register file: home key and word, keys strictly rising, no word equal to its cold value. -/
abbrev RegFile := List (Nat × Word)

/-- The word listed for a key, if one is. -/
def RegFile.find (l : RegFile) (k : Nat) : Option Word :=
  match l with
  | [] => none
  | (a, v) :: r => if a = k then some v else RegFile.find r k

/-- The word at a home key. -/
def RegFile.get (l : RegFile) (k : Nat) : Word :=
  (RegFile.find l k).getD (coldWord k)

/-- List a word, keeping the keys in rising order. -/
def RegFile.insert (l : RegFile) (k : Nat) (v : Word) : RegFile :=
  match l with
  | [] => [(k, v)]
  | (a, w) :: r => if k < a then (k, v) :: (a, w) :: r else if k = a then (k, v) :: r else (a, w) :: RegFile.insert r k v

/-- Drop a key. -/
def RegFile.erase (l : RegFile) (k : Nat) : RegFile := l.filter (fun c => c.1 != k)

/-- Write a word; a word equal to its cold value is not listed. -/
def RegFile.set (l : RegFile) (k : Nat) (v : Word) : RegFile :=
  if v = coldWord k then RegFile.erase l k else RegFile.insert l k v

/-- The canonical form: keys strictly rising and no word equal to its cold value. -/
def RegFile.wf (l : RegFile) : Bool :=
  (l.map (·.1)).Pairwise (· < ·) && l.all (fun c => c.2 != coldWord c.1)

end Sys2Proof.Machine
end

