-- ==== Sys2Proof/Machine/Fields.lean ====
section
/-!
DEFINITION. Machine/Fields.lean: a name for each register field of the spec's tables: where its one copy lives (the home key of R105), its high and its low bit.
-/

namespace Sys2Proof.Machine

def F.BENCH_VER_UCODE_BUILD (b : Nat) : Fld := ⟨b * 0x100000 + 0x4, 31, 16⟩
def F.BENCH_VER_HW_REV (b : Nat) : Fld := ⟨b * 0x100000 + 0x4, 7, 0⟩
def F.BENCH_CTL_LOCK (b : Nat) : Fld := ⟨b * 0x100000 + 0xc, 0, 0⟩
def F.BENCH_EV_EN (b : Nat) : Fld := ⟨b * 0x100000 + 0x10, 15, 0⟩
def F.BENCH_EV_STAT (b : Nat) : Fld := ⟨b * 0x100000 + 0x14, 15, 0⟩
def F.BENCH_EV_MASK (b : Nat) : Fld := ⟨b * 0x100000 + 0x18, 15, 0⟩
def F.BENCH_EV_OVF (b : Nat) : Fld := ⟨b * 0x100000 + 0x1c, 31, 0⟩
def F.BENCH_ERR_DET (b : Nat) : Fld := ⟨b * 0x100000 + 0x20, 31, 0⟩
def F.BENCH_ERR_UNREC (b : Nat) : Fld := ⟨b * 0x100000 + 0x24, 31, 0⟩
def F.BENCH_ERR_CHAN (b : Nat) : Fld := ⟨b * 0x100000 + 0x28, 31, 0⟩
def F.BENCH_LOCK_IGN (b : Nat) : Fld := ⟨b * 0x100000 + 0x2c, 31, 0⟩
def F.CTL_ROT_CFG_ROT_EN : Fld := ⟨0x2000, 0, 0⟩
def F.CTL_ROT_CFG_PERIOD_MIN : Fld := ⟨0x2000, 18, 8⟩
def F.CTL_ROT_CFG_CLASS_DIS : Fld := ⟨0x2000, 29, 24⟩
def F.CTL_ROT_NOW_ROTATE : Fld := ⟨0x2004, 5, 0⟩
def F.CTL_SPARE_MAP_SPARE : Fld := ⟨0x2008, 23, 0⟩
def F.CTL_ROT_STAT_BUSY : Fld := ⟨0x200c, 5, 0⟩
def F.CTL_ROT_STAT_NOSPARE : Fld := ⟨0x200c, 13, 8⟩
def F.CTL_ROT_STAT_ROT_COUNT : Fld := ⟨0x200c, 31, 16⟩
def F.CTL_EVLOG_TOTAL_LO : Fld := ⟨0x3000, 31, 0⟩
def F.CTL_EVLOG_TOTAL_HI : Fld := ⟨0x3004, 31, 0⟩
def F.CTL_EVLOG_DROP : Fld := ⟨0x3008, 31, 0⟩
def F.CTL_EVLOG_STAT : Fld := ⟨0x300c, 31, 0⟩
def F.TIM_NOW_LO : Fld := ⟨0x201000, 31, 0⟩
def F.TIM_NOW_HI : Fld := ⟨0x201004, 31, 0⟩
def F.TIM_OFFSET : Fld := ⟨0x201010, 31, 0⟩
def F.TIM_RATE : Fld := ⟨0x201014, 31, 0⟩
def F.TIM_SET_LO : Fld := ⟨0x201018, 31, 0⟩
def F.TIM_SET_HI : Fld := ⟨0x20101c, 31, 0⟩
def F.TIM_PPS_OFS : Fld := ⟨0x201024, 31, 0⟩
def F.TIM_UTC_OFS : Fld := ⟨0x201028, 31, 0⟩
def F.TIM_SHOT_AT_LO : Fld := ⟨0x201040, 31, 0⟩
def F.TIM_SHOT_AT_HI : Fld := ⟨0x201044, 31, 0⟩
def F.TIM_SHOT_TRIG_LO : Fld := ⟨0x201048, 31, 0⟩
def F.TIM_SHOT_TRIG_HI : Fld := ⟨0x20104c, 31, 0⟩
def F.TIM_SHOT_SEQ : Fld := ⟨0x201050, 31, 0⟩
def F.TIM_SRC_CFG_SRC : Fld := ⟨0x201008, 1, 0⟩
def F.TIM_SRC_CFG_SET : Fld := ⟨0x201008, 31, 31⟩
def F.TIM_STAT_STATE : Fld := ⟨0x20100c, 1, 0⟩
def F.TIM_STAT_SERVING : Fld := ⟨0x20100c, 2, 2⟩
def F.TIM_STAT_PPS_SEEN : Fld := ⟨0x20100c, 3, 3⟩
def F.TIM_STAT_SET_IGN : Fld := ⟨0x20100c, 15, 8⟩
def F.TIM_PPS_CFG_WIDTH_US : Fld := ⟨0x201020, 9, 0⟩
def F.TIM_PPS_CFG_IN_EN : Fld := ⟨0x201020, 14, 14⟩
def F.TIM_PPS_CFG_OUT_EN : Fld := ⟨0x201020, 15, 15⟩
def F.TIM_PPS_CFG_IN_OFS : Fld := ⟨0x201020, 31, 16⟩
def F.TIM_SHOT_CFG_PIN_EN : Fld := ⟨0x201030, 0, 0⟩
def F.TIM_SHOT_CFG_CHAIN_EN : Fld := ⟨0x201030, 1, 1⟩
def F.TIM_SHOT_CFG_HOLD : Fld := ⟨0x201030, 2, 2⟩
def F.TIM_SHOT_CFG_LEAD : Fld := ⟨0x201030, 14, 8⟩
def F.TIM_SHOT_CMD_FIRE : Fld := ⟨0x201034, 0, 0⟩
def F.TIM_SHOT_CMD_SCHED : Fld := ⟨0x201034, 1, 1⟩
def F.TIM_SHOT_CMD_CHAIN : Fld := ⟨0x201034, 2, 2⟩
def F.TIM_SHOT_CMD_CANCEL : Fld := ⟨0x201034, 3, 3⟩
def F.TIM_SHOT_CMD_RELEASE : Fld := ⟨0x201034, 4, 4⟩
def F.TIM_SHOT_STAT_PENDING : Fld := ⟨0x201038, 3, 0⟩
def F.TIM_SHOT_STAT_HELD : Fld := ⟨0x201038, 4, 4⟩
def F.TIM_SHOT_STAT_REFUSED : Fld := ⟨0x201038, 15, 8⟩
def F.TIM_SHOT_MATCH_SRC : Fld := ⟨0x20103c, 9, 0⟩
def F.TIM_SHOT_MATCH_ANY_CODE : Fld := ⟨0x20103c, 10, 10⟩
def F.TIM_SHOT_MATCH_ARM : Fld := ⟨0x20103c, 11, 11⟩
def F.TIM_SHOT_MATCH_CODE : Fld := ⟨0x20103c, 31, 16⟩
def F.XPT_CTX_CFG_SPILL_EN : Fld := ⟨0x4001000, 0, 0⟩
def F.XPT_CTX_CFG_ROCE_EN : Fld := ⟨0x4001000, 1, 1⟩
def F.XPT_CTX_CFG_NRT_EN : Fld := ⟨0x4001000, 2, 2⟩
def F.XPT_CTX_CFG_NPATH_MAX : Fld := ⟨0x4001000, 7, 4⟩
def F.XPT_CTX_CFG_RETRY_MAX : Fld := ⟨0x4001000, 11, 8⟩
def F.XPT_CTX_CFG_LOSS_THRESH : Fld := ⟨0x4001000, 15, 12⟩
def F.XPT_CTX_CFG_CREDIT_MAX : Fld := ⟨0x4001000, 22, 16⟩
def F.XPT_CTX_CFG_CREDIT_INIT : Fld := ⟨0x4001000, 27, 24⟩
def F.XPT_NRT_PORT_UDP_PORT : Fld := ⟨0x4001004, 15, 0⟩
def F.XPT_TIMER_CFG_RTO_MIN : Fld := ⟨0x4001008, 7, 0⟩
def F.XPT_TIMER_CFG_RTO_MAX : Fld := ⟨0x4001008, 15, 8⟩
def F.XPT_TIMER_CFG_REASM : Fld := ⟨0x4001008, 23, 16⟩
def F.XPT_TIMER_CFG_ACK_DELAY : Fld := ⟨0x4001008, 31, 24⟩
def F.XPT_CNP_CFG_GAP_US : Fld := ⟨0x400100c, 7, 0⟩
def F.XPT_CNP_CFG_CNP_EN : Fld := ⟨0x400100c, 8, 8⟩
def F.XPT_CTX_STAT_ONCHIP (r : Nat) : Fld := ⟨roleKey 0 r 0x1010, 11, 0⟩
def F.XPT_CTX_STAT_REASM_USED (r : Nat) : Fld := ⟨roleKey 0 r 0x1010, 29, 16⟩
def F.XPT_RX_PKT (r : Nat) : Fld := ⟨roleKey 0 r 0x1100, 31, 0⟩
def F.XPT_TX_PKT (r : Nat) : Fld := ⟨roleKey 0 r 0x1104, 31, 0⟩
def F.XPT_DROP_CRC (r : Nat) : Fld := ⟨roleKey 0 r 0x1108, 31, 0⟩
def F.XPT_DROP_FMT (r : Nat) : Fld := ⟨roleKey 0 r 0x110c, 31, 0⟩
def F.XPT_DROP_CID (r : Nat) : Fld := ⟨roleKey 0 r 0x1110, 31, 0⟩
def F.XPT_DROP_CREDIT (r : Nat) : Fld := ⟨roleKey 0 r 0x1114, 31, 0⟩
def F.XPT_DUP (r : Nat) : Fld := ⟨roleKey 0 r 0x1118, 31, 0⟩
def F.XPT_OLD (r : Nat) : Fld := ⟨roleKey 0 r 0x111c, 31, 0⟩
def F.XPT_REASM_FULL (r : Nat) : Fld := ⟨roleKey 0 r 0x1120, 31, 0⟩
def F.XPT_REASM_DISCARD (r : Nat) : Fld := ⟨roleKey 0 r 0x1124, 31, 0⟩
def F.XPT_RETX (r : Nat) : Fld := ⟨roleKey 0 r 0x1128, 31, 0⟩
def F.XPT_RTO (r : Nat) : Fld := ⟨roleKey 0 r 0x112c, 31, 0⟩
def F.XPT_SPILL_DROP (r : Nat) : Fld := ⟨roleKey 0 r 0x1130, 31, 0⟩
def F.XPT_HOLD_DROP (r : Nat) : Fld := ⟨roleKey 0 r 0x1134, 31, 0⟩
def F.XPT_CNP_TX (r : Nat) : Fld := ⟨roleKey 0 r 0x1138, 31, 0⟩
def F.XPT_CNP_RX (r : Nat) : Fld := ⟨roleKey 0 r 0x113c, 31, 0⟩
def F.XPT_KEY_INVALID (r : Nat) : Fld := ⟨roleKey 0 r 0x1140, 31, 0⟩
def F.XPT_KEY_TAG (r : Nat) : Fld := ⟨roleKey 0 r 0x1144, 31, 0⟩
def F.XPT_KEY_HOST (r : Nat) : Fld := ⟨roleKey 0 r 0x1148, 31, 0⟩
def F.XPT_KEY_RIGHTS (r : Nat) : Fld := ⟨roleKey 0 r 0x114c, 31, 0⟩
def F.XPT_KEY_BOUNDS (r : Nat) : Fld := ⟨roleKey 0 r 0x1150, 31, 0⟩
def F.XPT_KEY_SERVICE (r : Nat) : Fld := ⟨roleKey 0 r 0x1154, 31, 0⟩
def F.XPT_KEY_LAST_KEY (r : Nat) : Fld := ⟨roleKey 0 r 0x1158, 31, 0⟩
def F.XPT_KEY_LAST_INFO_CID (r : Nat) : Fld := ⟨roleKey 0 r 0x115c, 23, 0⟩
def F.XPT_KEY_LAST_INFO_CHECK (r : Nat) : Fld := ⟨roleKey 0 r 0x115c, 26, 24⟩
def F.XPT_KEY_LAST_INFO_MODE (r : Nat) : Fld := ⟨roleKey 0 r 0x115c, 27, 27⟩
def F.CMD_CFG_NSSR_EN : Fld := ⟨0x4101000, 0, 0⟩
def F.CMD_CFG_ACL : Fld := ⟨0x4101000, 6, 4⟩
def F.CMD_CFG_MAX_IOQ : Fld := ⟨0x4101000, 14, 8⟩
def F.CMD_CFG_IOQ_DEPTH : Fld := ⟨0x4101000, 26, 16⟩
def F.CMD_STAT_SLOTS_USED (r : Nat) : Fld := ⟨roleKey 1 r 0x1004, 14, 0⟩
def F.CMD_STAT_PAIRED (r : Nat) : Fld := ⟨roleKey 1 r 0x1004, 16, 16⟩
def F.CMD_INFLIGHT_TOTAL : Fld := ⟨0x4101008, 20, 0⟩
def F.CMD_RX (r : Nat) : Fld := ⟨roleKey 1 r 0x1100, 31, 0⟩
def F.CMD_DONE (r : Nat) : Fld := ⟨roleKey 1 r 0x1104, 31, 0⟩
def F.CMD_ABORTED (r : Nat) : Fld := ⟨roleKey 1 r 0x1108, 31, 0⟩
def F.CMD_DISCARDED (r : Nat) : Fld := ⟨roleKey 1 r 0x110c, 31, 0⟩
def F.CMD_ORD_WAIT (r : Nat) : Fld := ⟨roleKey 1 r 0x1110, 31, 0⟩
def F.CMD_PI_ERR (r : Nat) : Fld := ⟨roleKey 1 r 0x1114, 31, 0⟩
def F.CMD_DEFERRED (r : Nat) : Fld := ⟨roleKey 1 r 0x1118, 31, 0⟩
def F.CMD_CONFLICT (r : Nat) : Fld := ⟨roleKey 1 r 0x111c, 31, 0⟩
def F.CMD_STALL (r : Nat) : Fld := ⟨roleKey 1 r 0x1120, 31, 0⟩
def F.CMD_XFER_ERR (r : Nat) : Fld := ⟨roleKey 1 r 0x1124, 31, 0⟩
def F.CMD_QOS_CFG_EN : Fld := ⟨0x4101200, 0, 0⟩
def F.CMD_QOS_CFG_WCOST : Fld := ⟨0x4101200, 7, 4⟩
def F.CMD_QOS_GCAP_CAP (i : Nat) : Fld := ⟨0x4101210 + 4 * i, 31, 0⟩
def F.CMD_QOS_BGA_REB_MIN (i : Nat) : Fld := ⟨0x4101230 + 8 * i, 7, 0⟩
def F.CMD_QOS_BGA_REB_MAX (i : Nat) : Fld := ⟨0x4101230 + 8 * i, 15, 8⟩
def F.CMD_QOS_BGA_RECL_MIN (i : Nat) : Fld := ⟨0x4101230 + 8 * i, 23, 16⟩
def F.CMD_QOS_BGA_RECL_MAX (i : Nat) : Fld := ⟨0x4101230 + 8 * i, 31, 24⟩
def F.CMD_QOS_BGB_PAT_MIN (i : Nat) : Fld := ⟨0x4101234 + 8 * i, 7, 0⟩
def F.CMD_QOS_BGB_PAT_MAX (i : Nat) : Fld := ⟨0x4101234 + 8 * i, 15, 8⟩
def F.CMD_QOS_GSTAT_COMMIT_PCT (i : Nat) : Fld := ⟨0x4101270 + 4 * i, 7, 0⟩
def F.CMD_QOS_GSTAT_MISS (i : Nat) : Fld := ⟨0x4101270 + 4 * i, 31, 16⟩
def F.LAY_GCFG_GEOM (i : Nat) : Fld := ⟨0x4301000 + 32 * i, 2, 0⟩
def F.LAY_GCFG_K (i : Nat) : Fld := ⟨0x4301000 + 32 * i, 8, 4⟩
def F.LAY_GCFG_ADMIT_LOG (i : Nat) : Fld := ⟨0x4301000 + 32 * i, 9, 9⟩
def F.LAY_GCFG_ADMIT_FIX (i : Nat) : Fld := ⟨0x4301000 + 32 * i, 10, 10⟩
def F.LAY_GCFG_OP (i : Nat) : Fld := ⟨0x4301000 + 32 * i, 21, 16⟩
def F.LAY_GCFG_RSV (i : Nat) : Fld := ⟨0x4301000 + 32 * i, 23, 22⟩
def F.LAY_GMEM_LO_SLOTS (i : Nat) : Fld := ⟨0x4301004 + 32 * i, 31, 0⟩
def F.LAY_GMEM_HI_SLOTS (i : Nat) : Fld := ⟨0x4301008 + 32 * i, 15, 0⟩
def F.LAY_GSEAL_SEAL_US (i : Nat) : Fld := ⟨0x430100c + 32 * i, 6, 0⟩
def F.LAY_GSEAL_HOST_OPEN (i : Nat) : Fld := ⟨0x430100c + 32 * i, 10, 8⟩
def F.LAY_GSEAL_SEAL_WAIT_US (i : Nat) : Fld := ⟨0x430100c + 32 * i, 23, 16⟩
def F.LAY_GFREE_FREE_HI (i : Nat) : Fld := ⟨0x4301010 + 32 * i, 7, 0⟩
def F.LAY_GFREE_FREE_LO (i : Nat) : Fld := ⟨0x4301010 + 32 * i, 15, 8⟩
def F.LAY_GFREE_FREE_CRIT (i : Nat) : Fld := ⟨0x4301010 + 32 * i, 23, 16⟩
def F.LAY_GSTAT_FREE_PCT (i : Nat) : Fld := ⟨0x4301014 + 32 * i, 6, 0⟩
def F.LAY_GSTAT_SPACE_HOLD (i : Nat) : Fld := ⟨0x4301014 + 32 * i, 7, 7⟩
def F.LAY_GSTAT_ENTRY_HOLD (i : Nat) : Fld := ⟨0x4301014 + 32 * i, 8, 8⟩
def F.LAY_GSTAT_OPEN (i : Nat) : Fld := ⟨0x4301014 + 32 * i, 15, 12⟩
def F.LAY_GSTAT_SERVICE (i : Nat) : Fld := ⟨0x4301014 + 32 * i, 21, 16⟩
def F.LAY_GFSEQ_LO (i : Nat) : Fld := ⟨0x4301018 + 32 * i, 31, 0⟩
def F.LAY_GFSEQ_HI (i : Nat) : Fld := ⟨0x430101c + 32 * i, 31, 0⟩
def F.LAY_SEAL_FULL (i : Nat) : Fld := ⟨0x4301200 + 32 * i, 31, 0⟩
def F.LAY_SEAL_EARLY (i : Nat) : Fld := ⟨0x4301204 + 32 * i, 31, 0⟩
def F.LAY_VOID (i : Nat) : Fld := ⟨0x4301208 + 32 * i, 31, 0⟩
def F.LAY_RECL_MOVED (i : Nat) : Fld := ⟨0x430120c + 32 * i, 31, 0⟩
def F.LAY_HOLD_US (i : Nat) : Fld := ⟨0x4301210 + 32 * i, 31, 0⟩
def F.SVY_CFG_DLOG_PCT : Fld := ⟨0x4201000, 7, 0⟩
def F.SVY_CFG_DLOG_HI : Fld := ⟨0x4201000, 15, 8⟩
def F.SVY_CFG_SLOT_RSV : Fld := ⟨0x4201000, 23, 16⟩
def F.SVY_CACHE_CFG_GIB : Fld := ⟨0x4201004, 10, 0⟩
def F.SVY_GSTAT_DLOG_USED (i : Nat) : Fld := ⟨0x4201010 + 4 * i, 7, 0⟩
def F.SVY_GSTAT_SLOT_USED (i : Nat) : Fld := ⟨0x4201010 + 4 * i, 15, 8⟩
def F.SVY_GSTAT_SCAN (i : Nat) : Fld := ⟨0x4201010 + 4 * i, 16, 16⟩
def F.SVY_GSTAT_TWO_COPY (i : Nat) : Fld := ⟨0x4201010 + 4 * i, 17, 17⟩
def F.SVY_LOOKUP (r : Nat) : Fld := ⟨roleKey 2 r 0x1100, 31, 0⟩
def F.SVY_BANK_MISS (r : Nat) : Fld := ⟨roleKey 2 r 0x1104, 31, 0⟩
def F.SVY_MISS_CNT (r : Nat) : Fld := ⟨roleKey 2 r 0x1108, 31, 0⟩
def F.SVY_WB (r : Nat) : Fld := ⟨roleKey 2 r 0x110c, 31, 0⟩
def F.SVY_DLOG_BLK (r : Nat) : Fld := ⟨roleKey 2 r 0x1110, 31, 0⟩
def F.SVY_DQ_FULL (r : Nat) : Fld := ⟨roleKey 2 r 0x1114, 31, 0⟩
def F.SVY_MOVE_DROP (r : Nat) : Fld := ⟨roleKey 2 r 0x1118, 31, 0⟩
def F.SVY_COPY_ERR (r : Nat) : Fld := ⟨roleKey 2 r 0x111c, 31, 0⟩
def F.JNL_CFG_FIX_RATE : Fld := ⟨0x501000, 5, 0⟩
def F.JNL_CFG_FILL_HI : Fld := ⟨0x501000, 14, 8⟩
def F.JNL_STAT_FILL : Fld := ⟨0x501004, 6, 0⟩
def F.JNL_STAT_STALL : Fld := ⟨0x501004, 7, 7⟩
def F.JNL_STAT_MIRROR : Fld := ⟨0x501004, 8, 8⟩
def F.JNL_STAT_LOST : Fld := ⟨0x501004, 9, 9⟩
def F.JNL_HEAD : Fld := ⟨0x501008, 31, 0⟩
def F.JNL_TAIL : Fld := ⟨0x50100c, 31, 0⟩
def F.JNL_SEQ_LO : Fld := ⟨0x501010, 31, 0⟩
def F.JNL_SEQ_HI : Fld := ⟨0x501014, 31, 0⟩
def F.JNL_DUR_LO : Fld := ⟨0x501018, 31, 0⟩
def F.JNL_DUR_HI : Fld := ⟨0x50101c, 31, 0⟩
def F.JNL_REC : Fld := ⟨0x501100, 31, 0⟩
def F.JNL_UNITS : Fld := ⟨0x501104, 31, 0⟩
def F.JNL_FIX : Fld := ⟨0x501108, 31, 0⟩
def F.JNL_MOVED : Fld := ⟨0x50110c, 31, 0⟩
def F.JNL_STALL_US : Fld := ⟨0x501110, 31, 0⟩
def F.JNL_FIX_REDO : Fld := ⟨0x501114, 31, 0⟩
def F.JNL_FIX_MISMATCH : Fld := ⟨0x501118, 31, 0⟩
def F.LAY_GREB_DONE_DONE (i : Nat) : Fld := ⟨0x4301300 + 8 * i, 31, 0⟩
def F.LAY_GREB_TOTAL_TOTAL (i : Nat) : Fld := ⟨0x4301304 + 8 * i, 31, 0⟩
def F.LAY_REB_CFG_FAIL_MS : Fld := ⟨0x4301400, 11, 0⟩
def F.LAY_REB_CFG_SUSPECT_MS : Fld := ⟨0x4301400, 22, 16⟩
def F.LAY_REB_CFG_AUTO_JOIN : Fld := ⟨0x4301400, 23, 23⟩
def F.LAY_REB_CFG_RETURN_MIN : Fld := ⟨0x4301400, 31, 24⟩
def F.LAY_TCUT_CFG_DL0 : Fld := ⟨0x4301404, 7, 0⟩
def F.LAY_TCUT_CFG_DL1 : Fld := ⟨0x4301404, 15, 8⟩
def F.LAY_TCUT_CFG_DL2 : Fld := ⟨0x4301404, 23, 16⟩
def F.LAY_TCUT_CFG_DL3 : Fld := ⟨0x4301404, 31, 24⟩
def F.LAY_PAT_CFG_TCUT_PCT : Fld := ⟨0x4301408, 7, 0⟩
def F.LAY_PAT_CFG_ERR_MAX : Fld := ⟨0x4301408, 15, 8⟩
def F.LAY_PAT_CFG_PAT_DAYS : Fld := ⟨0x4301408, 23, 16⟩
def F.LAY_PAT_CFG_PAT_EN : Fld := ⟨0x4301408, 24, 24⟩
def F.LAY_MSTAT_STATE (i : Nat) : Fld := ⟨0x4301500 + 4 * i, 2, 0⟩
def F.LAY_MSTAT_GROUP (i : Nat) : Fld := ⟨0x4301500 + 4 * i, 6, 4⟩
def F.LAY_MSTAT_DIRTY (i : Nat) : Fld := ⟨0x4301500 + 4 * i, 7, 7⟩
def F.LAY_MSTAT_RD_ERR (i : Nat) : Fld := ⟨0x4301500 + 4 * i, 15, 8⟩
def F.LAY_MCMD_SLOT : Fld := ⟨0x4301600, 5, 0⟩
def F.LAY_MCMD_ACTION : Fld := ⟨0x4301600, 10, 8⟩
def F.LAY_ORDER_STAT_PHASE : Fld := ⟨0x4301620, 2, 0⟩
def F.LAY_ORDER_STAT_REASON : Fld := ⟨0x4301620, 11, 8⟩
def F.LAY_ORDER_STAT_PCT : Fld := ⟨0x4301620, 22, 16⟩
def F.LAY_RSHP_CFG_GROUP : Fld := ⟨0x4301610, 2, 0⟩
def F.LAY_RSHP_CFG_MODE : Fld := ⟨0x4301610, 5, 4⟩
def F.LAY_RSHP_CFG_GEOM : Fld := ⟨0x4301610, 10, 8⟩
def F.LAY_RSHP_CFG_K : Fld := ⟨0x4301610, 16, 12⟩
def F.LAY_RSHP_CFG_TARGET : Fld := ⟨0x4301610, 19, 17⟩
def F.LAY_RSHP_CFG_START : Fld := ⟨0x4301610, 31, 31⟩
def F.LAY_RSHP_MEM_LO_SLOTS : Fld := ⟨0x4301614, 31, 0⟩
def F.LAY_RSHP_MEM_HI_SLOTS : Fld := ⟨0x4301618, 15, 0⟩
def F.LAY_RSHP_NSID_NSID : Fld := ⟨0x430161c, 31, 0⟩
def F.LAY_TCUT (i : Nat) : Fld := ⟨0x4301214 + 32 * i, 31, 0⟩
def F.LAY_REB_SLABS (i : Nat) : Fld := ⟨0x4301218 + 32 * i, 31, 0⟩
def F.LAY_PAT_FIX (i : Nat) : Fld := ⟨0x430121c + 32 * i, 31, 0⟩
def F.CIP_CFG_SPREAD_KIB : Fld := ⟨0x4501000, 9, 0⟩
def F.CIP_CFG_PRI_EN : Fld := ⟨0x4501000, 16, 16⟩
def F.CIP_STAT_KC_USED (r : Nat) : Fld := ⟨roleKey 5 r 0x1004, 7, 0⟩
def F.CIP_STAT_KC_PINNED (r : Nat) : Fld := ⟨roleKey 5 r 0x1004, 15, 8⟩
def F.CIP_STAT_QDEPTH (r : Nat) : Fld := ⟨roleKey 5 r 0x1004, 26, 16⟩
def F.CIP_STAT_IV_LOST (r : Nat) : Fld := ⟨roleKey 5 r 0x1004, 27, 27⟩
def F.CIP_REQ (r : Nat) : Fld := ⟨roleKey 5 r 0x1100, 31, 0⟩
def F.CIP_XTS_BLK (r : Nat) : Fld := ⟨roleKey 5 r 0x1104, 31, 0⟩
def F.CIP_GCM_KIB (r : Nat) : Fld := ⟨roleKey 5 r 0x1108, 31, 0⟩
def F.CIP_KC_HIT (r : Nat) : Fld := ⟨roleKey 5 r 0x110c, 31, 0⟩
def F.CIP_KC_MISS (r : Nat) : Fld := ⟨roleKey 5 r 0x1110, 31, 0⟩
def F.CIP_KC_WAIT (r : Nat) : Fld := ⟨roleKey 5 r 0x1114, 31, 0⟩
def F.CIP_GUARD_ERR (r : Nat) : Fld := ⟨roleKey 5 r 0x1118, 31, 0⟩
def F.CIP_AUTH_FAIL (r : Nat) : Fld := ⟨roleKey 5 r 0x111c, 31, 0⟩
def F.CIP_REPLAY (r : Nat) : Fld := ⟨roleKey 5 r 0x1120, 31, 0⟩
def F.CIP_CHECK_FAIL (r : Nat) : Fld := ⟨roleKey 5 r 0x1124, 31, 0⟩
def F.CIP_STALE (r : Nat) : Fld := ⟨roleKey 5 r 0x1128, 31, 0⟩
def F.MEM_CFG_MAX_SPEED : Fld := ⟨0x401000, 1, 0⟩
def F.MEM_CFG_THROTTLE_C : Fld := ⟨0x401000, 15, 8⟩
def F.MEM_STAT_READY : Fld := ⟨0x401004, 14, 0⟩
def F.MEM_STAT_SPEED : Fld := ⟨0x401004, 17, 16⟩
def F.MEM_CHSTAT_PRESENT (i : Nat) : Fld := ⟨0x401010 + 4 * i, 0, 0⟩
def F.MEM_CHSTAT_TRAINED (i : Nat) : Fld := ⟨0x401010 + 4 * i, 1, 1⟩
def F.MEM_CHSTAT_HOT (i : Nat) : Fld := ⟨0x401010 + 4 * i, 2, 2⟩
def F.MEM_CHSTAT_THROTTLED (i : Nat) : Fld := ⟨0x401010 + 4 * i, 3, 3⟩
def F.MEM_CHSTAT_GIB (i : Nat) : Fld := ⟨0x401010 + 4 * i, 16, 8⟩
def F.MEM_CHSTAT_RANKS (i : Nat) : Fld := ⟨0x401010 + 4 * i, 19, 17⟩
def F.MEM_CHSTAT_TEMP (i : Nat) : Fld := ⟨0x401010 + 4 * i, 31, 24⟩
def F.MEM_RGN_CFGA_STT_GIB : Fld := ⟨0x401040, 10, 0⟩
def F.MEM_RGN_CFGA_DIDX_GIB : Fld := ⟨0x401040, 20, 11⟩
def F.MEM_RGN_CFGA_RIDX_GIB : Fld := ⟨0x401040, 30, 21⟩
def F.MEM_RGN_CFGB_OVF_GIB : Fld := ⟨0x401044, 4, 0⟩
def F.MEM_RGN_CFGB_CACHE_GIB : Fld := ⟨0x401044, 14, 8⟩
def F.MEM_RGN_CFGB_DIRTY_GIB : Fld := ⟨0x401044, 21, 16⟩
def F.MEM_CACHE_CTL_EN : Fld := ⟨0x401050, 0, 0⟩
def F.MEM_CACHE_CTL_DIS_PENDING : Fld := ⟨0x401050, 1, 1⟩
def F.MEM_CACHE_CTL_INV_DONE : Fld := ⟨0x401050, 2, 2⟩
def F.MEM_CACHE_CTL_EN_REFUSED : Fld := ⟨0x401050, 3, 3⟩
def F.MEM_CACHE_CTL_SET_EN : Fld := ⟨0x401050, 4, 4⟩
def F.MEM_CACHE_CTL_CLR_EN : Fld := ⟨0x401050, 5, 5⟩
def F.MEM_CACHE_STAT_DIRTY_PCT : Fld := ⟨0x401054, 7, 0⟩
def F.MEM_CACHE_STAT_AT_LIMIT : Fld := ⟨0x401054, 8, 8⟩
def F.MEM_CACHE_STAT_PEND_PCT : Fld := ⟨0x401054, 23, 16⟩
def F.MEM_MNT_CMD_OP : Fld := ⟨0x401060, 1, 0⟩
def F.MEM_MNT_CMD_ALL : Fld := ⟨0x401060, 2, 2⟩
def F.MEM_MNT_CMD_GO : Fld := ⟨0x401060, 3, 3⟩
def F.MEM_MNT_CMD_BUSY : Fld := ⟨0x401060, 16, 16⟩
def F.MEM_MNT_CMD_REFUSED : Fld := ⟨0x401060, 17, 17⟩
def F.MEM_MNT_NSID_NSID : Fld := ⟨0x401064, 31, 0⟩
def F.MEM_MNT_SLBA_LO_SLBA : Fld := ⟨0x401068, 31, 0⟩
def F.MEM_MNT_SLBA_HI_SLBA : Fld := ⟨0x40106c, 31, 0⟩
def F.MEM_MNT_NLB_NLB : Fld := ⟨0x401070, 31, 0⟩
def F.MEM_DET_DRAM : Fld := ⟨0x401100, 31, 0⟩
def F.MEM_DET_PATH : Fld := ⟨0x401104, 31, 0⟩
def F.MEM_REREAD_OK : Fld := ⟨0x401108, 31, 0⟩
def F.MEM_RECOVERED : Fld := ⟨0x40110c, 31, 0⟩
def F.MEM_RETIRED : Fld := ⟨0x401110, 31, 0⟩
def F.MEM_HIT : Fld := ⟨0x401114, 31, 0⟩
def F.MEM_MISS : Fld := ⟨0x401118, 31, 0⟩
def F.MEM_EVICT : Fld := ⟨0x40111c, 31, 0⟩
def F.MEM_EVICT_WAIT : Fld := ⟨0x401120, 31, 0⟩
def F.MEM_PEND_FULL : Fld := ⟨0x401124, 31, 0⟩
def F.MEM_WB : Fld := ⟨0x401128, 31, 0⟩
def F.DRV_CFG_MAX_GEN : Fld := ⟨0x4601000, 1, 0⟩
def F.DRV_CFG_TRIM_EN : Fld := ⟨0x4601000, 2, 2⟩
def F.DRV_CFG_AUTO_POWER : Fld := ⟨0x4601000, 3, 3⟩
def F.DRV_CFG_STAGE : Fld := ⟨0x4601000, 11, 4⟩
def F.DRV_CFG_HEALTH_S : Fld := ⟨0x4601000, 17, 12⟩
def F.DRV_CFG_CONT_MAX : Fld := ⟨0x4601000, 23, 20⟩
def F.DRV_PSTAT_PRSNT (b i : Nat) : Fld := ⟨b * 0x100000 + 0x1400 + 128 * i, 0, 0⟩
def F.DRV_PSTAT_POWERED (b i : Nat) : Fld := ⟨b * 0x100000 + 0x1400 + 128 * i, 1, 1⟩
def F.DRV_PSTAT_LINK_UP (b i : Nat) : Fld := ⟨b * 0x100000 + 0x1400 + 128 * i, 2, 2⟩
def F.DRV_PSTAT_GEN (b i : Nat) : Fld := ⟨b * 0x100000 + 0x1400 + 128 * i, 4, 3⟩
def F.DRV_PSTAT_X1 (b i : Nat) : Fld := ⟨b * 0x100000 + 0x1400 + 128 * i, 5, 5⟩
def F.DRV_PSTAT_CONTAINED (b i : Nat) : Fld := ⟨b * 0x100000 + 0x1400 + 128 * i, 6, 6⟩
def F.DRV_PSTAT_HELD (b i : Nat) : Fld := ⟨b * 0x100000 + 0x1400 + 128 * i, 7, 7⟩
def F.DRV_PSTAT_READY (b i : Nat) : Fld := ⟨b * 0x100000 + 0x1400 + 128 * i, 8, 8⟩
def F.DRV_PSTAT_REJECT (b i : Nat) : Fld := ⟨b * 0x100000 + 0x1400 + 128 * i, 12, 9⟩
def F.DRV_PSTAT_QUAR (b i : Nat) : Fld := ⟨b * 0x100000 + 0x1400 + 128 * i, 26, 16⟩
def F.DRV_PCTL_LOCATE (b i : Nat) : Fld := ⟨b * 0x100000 + 0x1404 + 128 * i, 0, 0⟩
def F.DRV_PCTL_POWER_ON (b i : Nat) : Fld := ⟨b * 0x100000 + 0x1404 + 128 * i, 1, 1⟩
def F.DRV_PCTL_POWER_OFF (b i : Nat) : Fld := ⟨b * 0x100000 + 0x1404 + 128 * i, 2, 2⟩
def F.DRV_PCTL_REFUSED (b i : Nat) : Fld := ⟨b * 0x100000 + 0x1404 + 128 * i, 3, 3⟩
def F.DRV_CMD (b i : Nat) : Fld := ⟨b * 0x100000 + 0x1440 + 128 * i, 31, 0⟩
def F.DRV_ERR_CQE (b i : Nat) : Fld := ⟨b * 0x100000 + 0x1444 + 128 * i, 31, 0⟩
def F.DRV_LATE (b i : Nat) : Fld := ⟨b * 0x100000 + 0x1448 + 128 * i, 31, 0⟩
def F.DRV_LATE_DMA (b i : Nat) : Fld := ⟨b * 0x100000 + 0x144c + 128 * i, 31, 0⟩
def F.DRV_DMA_REJ (b i : Nat) : Fld := ⟨b * 0x100000 + 0x1450 + 128 * i, 31, 0⟩
def F.DRV_CONTAIN (b i : Nat) : Fld := ⟨b * 0x100000 + 0x1454 + 128 * i, 31, 0⟩
def F.DRV_RETRAIN (b i : Nat) : Fld := ⟨b * 0x100000 + 0x1458 + 128 * i, 31, 0⟩
def F.DRV_AER_COR (b i : Nat) : Fld := ⟨b * 0x100000 + 0x145c + 128 * i, 31, 0⟩
def F.CHN_SBC_CFG_KHZ : Fld := ⟨0x303000, 15, 0⟩
def F.CHN_SBC_CFG_PERIOD_US : Fld := ⟨0x303000, 23, 16⟩
def F.CHN_SBC_CFG_DEBOUNCE : Fld := ⟨0x303000, 31, 24⟩
def F.CHN_SBC_IN_IN (i : Nat) : Fld := ⟨0x303010 + 4 * i, 31, 0⟩
def F.CHN_SBC_OUT_OUT (i : Nat) : Fld := ⟨0x303030 + 4 * i, 31, 0⟩
def F.PRT_RX_OCTETS (b i j : Nat) : Fld := ⟨b * 0x100000 + 0x1400 + 256 * i + 4 * j, 31, 0⟩
def F.PRT_RX_FRAMES (b i j : Nat) : Fld := ⟨b * 0x100000 + 0x1408 + 256 * i + 4 * j, 31, 0⟩
def F.PRT_RX_FCS_ERR (b i j : Nat) : Fld := ⟨b * 0x100000 + 0x1410 + 256 * i + 4 * j, 31, 0⟩
def F.PRT_RX_LEN_ERR (b i j : Nat) : Fld := ⟨b * 0x100000 + 0x1418 + 256 * i + 4 * j, 31, 0⟩
def F.PRT_RX_VLAN_DROP (b i j : Nat) : Fld := ⟨b * 0x100000 + 0x1420 + 256 * i + 4 * j, 31, 0⟩
def F.PRT_RX_GROUP_DROP (b i j : Nat) : Fld := ⟨b * 0x100000 + 0x1428 + 256 * i + 4 * j, 31, 0⟩
def F.PRT_RX_PAUSE (b i j : Nat) : Fld := ⟨b * 0x100000 + 0x1430 + 256 * i + 4 * j, 31, 0⟩
def F.PRT_TX_OCTETS (b i j : Nat) : Fld := ⟨b * 0x100000 + 0x1438 + 256 * i + 4 * j, 31, 0⟩
def F.PRT_TX_FRAMES (b i j : Nat) : Fld := ⟨b * 0x100000 + 0x1440 + 256 * i + 4 * j, 31, 0⟩
def F.PRT_TX_PAUSE (b i j : Nat) : Fld := ⟨b * 0x100000 + 0x1448 + 256 * i + 4 * j, 31, 0⟩
def F.PRT_FEC_CORR (b i j : Nat) : Fld := ⟨b * 0x100000 + 0x1450 + 256 * i + 4 * j, 31, 0⟩
def F.PRT_FEC_UNCORR (b i j : Nat) : Fld := ⟨b * 0x100000 + 0x1458 + 256 * i + 4 * j, 31, 0⟩
def F.PRT_WD_DROP (b i j : Nat) : Fld := ⟨b * 0x100000 + 0x1460 + 256 * i + 4 * j, 31, 0⟩
def F.PRT_LINK_DOWN (b i j : Nat) : Fld := ⟨b * 0x100000 + 0x1468 + 256 * i + 4 * j, 31, 0⟩
def F.PRT_LPI_US (b i j : Nat) : Fld := ⟨b * 0x100000 + 0x1470 + 256 * i + 4 * j, 31, 0⟩
def F.PRT_LINK_DISCARD (b i j : Nat) : Fld := ⟨b * 0x100000 + 0x1478 + 256 * i + 4 * j, 31, 0⟩
def F.PRT_MODE_MODE (b : Nat) : Fld := ⟨b * 0x100000 + 0x1000, 2, 0⟩
def F.PRT_MODE_MEDIA (b : Nat) : Fld := ⟨b * 0x100000 + 0x1000, 5, 4⟩
def F.PRT_MODE_FEC_NRZ (b : Nat) : Fld := ⟨b * 0x100000 + 0x1000, 6, 6⟩
def F.PRT_MODE_RX_POL (b : Nat) : Fld := ⟨b * 0x100000 + 0x1000, 11, 8⟩
def F.PRT_MODE_TX_POL (b : Nat) : Fld := ⟨b * 0x100000 + 0x1000, 15, 12⟩
def F.PRT_STAT_LINK (b : Nat) : Fld := ⟨b * 0x100000 + 0x1004, 3, 0⟩
def F.PRT_STAT_FEC_LOCK (b : Nat) : Fld := ⟨b * 0x100000 + 0x1004, 7, 4⟩
def F.PRT_STAT_LPI_TX (b : Nat) : Fld := ⟨b * 0x100000 + 0x1004, 8, 8⟩
def F.PRT_STAT_LPI_RX (b : Nat) : Fld := ⟨b * 0x100000 + 0x1004, 9, 9⟩
def F.PRT_STAT_EEE_AN (b : Nat) : Fld := ⟨b * 0x100000 + 0x1004, 10, 10⟩
def F.PRT_MACCFG_MAX_FRAME (b i : Nat) : Fld := ⟨b * 0x100000 + 0x1100 + 64 * i, 13, 0⟩
def F.PRT_MACCFG_FC_MODE (b i : Nat) : Fld := ⟨b * 0x100000 + 0x1100 + 64 * i, 15, 14⟩
def F.PRT_MACCFG_PFC_EN (b i : Nat) : Fld := ⟨b * 0x100000 + 0x1100 + 64 * i, 23, 16⟩
def F.PRT_MACCFG_TRUST (b i : Nat) : Fld := ⟨b * 0x100000 + 0x1100 + 64 * i, 24, 24⟩
def F.PRT_MACCFG_DEF_TC (b i : Nat) : Fld := ⟨b * 0x100000 + 0x1100 + 64 * i, 27, 25⟩
def F.PRT_PVID_PVID (b i : Nat) : Fld := ⟨b * 0x100000 + 0x1104 + 64 * i, 11, 0⟩
def F.PRT_FCTX_TX_QUANTA (b i : Nat) : Fld := ⟨b * 0x100000 + 0x1108 + 64 * i, 15, 0⟩
def F.PRT_FCTX_TX_MAX_MS (b i : Nat) : Fld := ⟨b * 0x100000 + 0x1108 + 64 * i, 23, 16⟩
def F.PRT_GHASH (b i j : Nat) : Fld := ⟨b * 0x100000 + 0x1110 + 64 * i + 4 * j, 31, 0⟩
def F.PRT_DSCP_MAP_TC0 (b i : Nat) : Fld := ⟨b * 0x100000 + 0x1300 + 4 * i, 2, 0⟩
def F.PRT_DSCP_MAP_TC1 (b i : Nat) : Fld := ⟨b * 0x100000 + 0x1300 + 4 * i, 6, 4⟩
def F.PRT_DSCP_MAP_TC2 (b i : Nat) : Fld := ⟨b * 0x100000 + 0x1300 + 4 * i, 10, 8⟩
def F.PRT_DSCP_MAP_TC3 (b i : Nat) : Fld := ⟨b * 0x100000 + 0x1300 + 4 * i, 14, 12⟩
def F.PRT_DSCP_MAP_TC4 (b i : Nat) : Fld := ⟨b * 0x100000 + 0x1300 + 4 * i, 18, 16⟩
def F.PRT_DSCP_MAP_TC5 (b i : Nat) : Fld := ⟨b * 0x100000 + 0x1300 + 4 * i, 22, 20⟩
def F.PRT_DSCP_MAP_TC6 (b i : Nat) : Fld := ⟨b * 0x100000 + 0x1300 + 4 * i, 26, 24⟩
def F.PRT_DSCP_MAP_TC7 (b i : Nat) : Fld := ⟨b * 0x100000 + 0x1300 + 4 * i, 30, 28⟩
def F.PRT_PCP_MAP_TC0 (b : Nat) : Fld := ⟨b * 0x100000 + 0x1320, 2, 0⟩
def F.PRT_PCP_MAP_TC1 (b : Nat) : Fld := ⟨b * 0x100000 + 0x1320, 6, 4⟩
def F.PRT_PCP_MAP_TC2 (b : Nat) : Fld := ⟨b * 0x100000 + 0x1320, 10, 8⟩
def F.PRT_PCP_MAP_TC3 (b : Nat) : Fld := ⟨b * 0x100000 + 0x1320, 14, 12⟩
def F.PRT_PCP_MAP_TC4 (b : Nat) : Fld := ⟨b * 0x100000 + 0x1320, 18, 16⟩
def F.PRT_PCP_MAP_TC5 (b : Nat) : Fld := ⟨b * 0x100000 + 0x1320, 22, 20⟩
def F.PRT_PCP_MAP_TC6 (b : Nat) : Fld := ⟨b * 0x100000 + 0x1320, 26, 24⟩
def F.PRT_PCP_MAP_TC7 (b : Nat) : Fld := ⟨b * 0x100000 + 0x1320, 30, 28⟩
def F.PRT_VID_VID (b i : Nat) : Fld := ⟨b * 0x100000 + 0x1340 + 4 * i, 11, 0⟩
def F.PRT_VID_VALID (b i : Nat) : Fld := ⟨b * 0x100000 + 0x1340 + 4 * i, 15, 15⟩
def F.PRT_VID_SUB (b i : Nat) : Fld := ⟨b * 0x100000 + 0x1340 + 4 * i, 19, 16⟩
def F.PRT_PFC_WD_WD_EN (b : Nat) : Fld := ⟨b * 0x100000 + 0x1380, 0, 0⟩
def F.PRT_PFC_WD_WD_DETECT_MS (b : Nat) : Fld := ⟨b * 0x100000 + 0x1380, 17, 8⟩
def F.PRT_PFC_WD_WD_RESTORE_MS (b : Nat) : Fld := ⟨b * 0x100000 + 0x1380, 27, 18⟩
def F.PRT_TS_ADJ_RX_ADJ (b : Nat) : Fld := ⟨b * 0x100000 + 0x1384, 15, 0⟩
def F.PRT_TS_ADJ_TX_ADJ (b : Nat) : Fld := ⟨b * 0x100000 + 0x1384, 31, 16⟩
def F.PRT_LPI_LPI_EN (b : Nat) : Fld := ⟨b * 0x100000 + 0x1388, 0, 0⟩
def F.PRT_LPI_LPI_IDLE_US (b : Nat) : Fld := ⟨b * 0x100000 + 0x1388, 15, 8⟩
def F.PRT_LPI_LPI_RX_TW (b : Nat) : Fld := ⟨b * 0x100000 + 0x1388, 31, 16⟩
def F.SWC_CFG_CUT_EN : Fld := ⟨0x1001000, 0, 0⟩
def F.SWC_CFG_FWD_EN : Fld := ⟨0x1001000, 1, 1⟩
def F.SWC_CFG_SEED : Fld := ⟨0x1001000, 31, 16⟩
def F.SWC_STATION_LO_ADDR : Fld := ⟨0x1001008, 31, 0⟩
def F.SWC_STATION_HI_ADDR : Fld := ⟨0x100100c, 15, 0⟩
def F.SWC_TCW_W0 : Fld := ⟨0x1001010, 3, 0⟩
def F.SWC_TCW_W1 : Fld := ⟨0x1001010, 7, 4⟩
def F.SWC_TCW_W2 : Fld := ⟨0x1001010, 11, 8⟩
def F.SWC_TCW_W3 : Fld := ⟨0x1001010, 15, 12⟩
def F.SWC_TCW_W4 : Fld := ⟨0x1001010, 19, 16⟩
def F.SWC_TCW_W5 : Fld := ⟨0x1001010, 23, 20⟩
def F.SWC_TCW_W6 : Fld := ⟨0x1001010, 27, 24⟩
def F.SWC_TCW_W7 : Fld := ⟨0x1001010, 31, 28⟩
def F.SWC_CPOL_KFPS (i : Nat) : Fld := ⟨0x1001020 + 4 * i, 19, 0⟩
def F.SWC_BPROF_A_RSV (i : Nat) : Fld := ⟨0x1001200 + 8 * i, 7, 0⟩
def F.SWC_BPROF_A_MAX (i : Nat) : Fld := ⟨0x1001200 + 8 * i, 19, 8⟩
def F.SWC_BPROF_A_RED (i : Nat) : Fld := ⟨0x1001200 + 8 * i, 21, 20⟩
def F.SWC_BPROF_B_XOFF (i : Nat) : Fld := ⟨0x1001204 + 8 * i, 9, 0⟩
def F.SWC_BPROF_B_XON (i : Nat) : Fld := ⟨0x1001204 + 8 * i, 19, 10⟩
def F.SWC_BPROF_B_HDRM (i : Nat) : Fld := ⟨0x1001204 + 8 * i, 29, 20⟩
def F.SWC_RED_MIN (i j : Nat) : Fld := ⟨0x1001240 + 16 * i + 4 * j, 7, 0⟩
def F.SWC_RED_MAX (i j : Nat) : Fld := ⟨0x1001240 + 16 * i + 4 * j, 15, 8⟩
def F.SWC_RED_PMAX (i j : Nat) : Fld := ⟨0x1001240 + 16 * i + 4 * j, 22, 16⟩
def F.SWC_RED_ECN (i j : Nat) : Fld := ⟨0x1001240 + 16 * i + 4 * j, 24, 24⟩
def F.SWC_POL_A_CIR (i : Nat) : Fld := ⟨0x1001280 + 8 * i, 19, 0⟩
def F.SWC_POL_A_CBS (i : Nat) : Fld := ⟨0x1001280 + 8 * i, 31, 20⟩
def F.SWC_POL_B_PIR (i : Nat) : Fld := ⟨0x1001284 + 8 * i, 19, 0⟩
def F.SWC_POL_B_PBS (i : Nat) : Fld := ⟨0x1001284 + 8 * i, 31, 20⟩
def F.SWC_GRP_LO_LOCAL (i : Nat) : Fld := ⟨0x1001300 + 8 * i, 31, 0⟩
def F.SWC_GRP_HI_PARTNER (i : Nat) : Fld := ⟨0x1001304 + 8 * i, 31, 0⟩
def F.SWC_SAMP_RX_N (i : Nat) : Fld := ⟨0x1001380 + 4 * i, 15, 0⟩
def F.SWC_SAMP_TX_N (i : Nat) : Fld := ⟨0x1001380 + 4 * i, 31, 16⟩
def F.SWC_PCLS_LO_PROF0 (i : Nat) : Fld := ⟨0x1001500 + 8 * i, 2, 0⟩
def F.SWC_PCLS_LO_PROF1 (i : Nat) : Fld := ⟨0x1001500 + 8 * i, 10, 8⟩
def F.SWC_PCLS_LO_PROF2 (i : Nat) : Fld := ⟨0x1001500 + 8 * i, 18, 16⟩
def F.SWC_PCLS_LO_PROF3 (i : Nat) : Fld := ⟨0x1001500 + 8 * i, 26, 24⟩
def F.SWC_PCLS_LO_POL0 (i : Nat) : Fld := ⟨0x1001500 + 8 * i, 7, 3⟩
def F.SWC_PCLS_LO_POL1 (i : Nat) : Fld := ⟨0x1001500 + 8 * i, 15, 11⟩
def F.SWC_PCLS_LO_POL2 (i : Nat) : Fld := ⟨0x1001500 + 8 * i, 23, 19⟩
def F.SWC_PCLS_LO_POL3 (i : Nat) : Fld := ⟨0x1001500 + 8 * i, 31, 27⟩
def F.SWC_PCLS_HI_PROF0 (i : Nat) : Fld := ⟨0x1001504 + 8 * i, 2, 0⟩
def F.SWC_PCLS_HI_POL0 (i : Nat) : Fld := ⟨0x1001504 + 8 * i, 7, 3⟩
def F.SWC_PCLS_HI_PROF1 (i : Nat) : Fld := ⟨0x1001504 + 8 * i, 10, 8⟩
def F.SWC_PCLS_HI_POL1 (i : Nat) : Fld := ⟨0x1001504 + 8 * i, 15, 11⟩
def F.SWC_PCLS_HI_PROF2 (i : Nat) : Fld := ⟨0x1001504 + 8 * i, 18, 16⟩
def F.SWC_PCLS_HI_POL2 (i : Nat) : Fld := ⟨0x1001504 + 8 * i, 23, 19⟩
def F.SWC_PCLS_HI_PROF3 (i : Nat) : Fld := ⟨0x1001504 + 8 * i, 26, 24⟩
def F.SWC_PCLS_HI_POL3 (i : Nat) : Fld := ⟨0x1001504 + 8 * i, 31, 27⟩
def F.SWC_STAT_CELLS_USED : Fld := ⟨0x1001004, 17, 0⟩
def F.SWC_STAT_FORWARDING : Fld := ⟨0x1001004, 18, 18⟩
def F.SWC_STAT_HAUL_UP : Fld := ⟨0x1001004, 19, 19⟩
def F.SWC_FWD : Fld := ⟨0x1001100, 31, 0⟩
def F.SWC_FWD_MISS : Fld := ⟨0x1001104, 31, 0⟩
def F.SWC_DROP_LIMIT : Fld := ⟨0x1001108, 31, 0⟩
def F.SWC_DROP_HDRM : Fld := ⟨0x100110c, 31, 0⟩
def F.SWC_DROP_FULL : Fld := ⟨0x1001110, 31, 0⟩
def F.SWC_DROP_RED : Fld := ⟨0x1001114, 31, 0⟩
def F.SWC_ECN_MARK : Fld := ⟨0x1001118, 31, 0⟩
def F.SWC_CTL_DROP : Fld := ⟨0x100111c, 31, 0⟩
def F.SWC_HAUL_FWD : Fld := ⟨0x1001120, 31, 0⟩
def F.SWC_HAUL_DROP : Fld := ⟨0x1001124, 31, 0⟩
def F.SWC_LINK_DROP : Fld := ⟨0x1001128, 31, 0⟩
def F.SWC_SAMPLES : Fld := ⟨0x100112c, 31, 0⟩
def F.SWC_SAMP_DROP : Fld := ⟨0x1001130, 31, 0⟩
def F.SWC_CELL_CRC : Fld := ⟨0x1001134, 31, 0⟩
def F.EPT_CFG_EN : Fld := ⟨0x601000, 0, 0⟩
def F.EPT_CFG_BAR2_EN : Fld := ⟨0x601000, 1, 1⟩
def F.EPT_CFG_SRIS : Fld := ⟨0x601000, 2, 2⟩
def F.EPT_CFG_MAX_GEN : Fld := ⟨0x601000, 4, 3⟩
def F.EPT_CFG_TOTAL_VF : Fld := ⟨0x601000, 11, 6⟩
def F.EPT_PM_CFG_L1_IDLE_US : Fld := ⟨0x601004, 7, 0⟩
def F.EPT_PM_CFG_LTR_ACT_US : Fld := ⟨0x601004, 15, 8⟩
def F.EPT_PM_CFG_LTR_IDLE : Fld := ⟨0x601004, 23, 16⟩
def F.EPT_STAT_LINK_UP : Fld := ⟨0x601008, 0, 0⟩
def F.EPT_STAT_SPEED : Fld := ⟨0x601008, 3, 1⟩
def F.EPT_STAT_WIDTH : Fld := ⟨0x601008, 8, 4⟩
def F.EPT_STAT_FROZEN : Fld := ⟨0x601008, 9, 9⟩
def F.EPT_STAT_RELAY : Fld := ⟨0x601008, 10, 10⟩
def F.EPT_STAT_NUM_VF : Fld := ⟨0x601008, 16, 11⟩
def F.EPT_STAT_QUAR : Fld := ⟨0x601008, 26, 17⟩
def F.EPT_SQE_FETCH : Fld := ⟨0x601100, 31, 0⟩
def F.EPT_CQE_POST : Fld := ⟨0x601104, 31, 0⟩
def F.EPT_RD_REQ : Fld := ⟨0x601108, 31, 0⟩
def F.EPT_WR_REQ : Fld := ⟨0x60110c, 31, 0⟩
def F.EPT_BME_DISC : Fld := ⟨0x601110, 31, 0⟩
def F.EPT_LATE_CPL : Fld := ⟨0x601114, 31, 0⟩
def F.EPT_CPL_TO : Fld := ⟨0x601118, 31, 0⟩
def F.EPT_POISON : Fld := ⟨0x60111c, 31, 0⟩
def F.EPT_FLR : Fld := ⟨0x601120, 31, 0⟩
def F.EPT_LINK_RESET : Fld := ⟨0x601124, 31, 0⟩
def F.EPT_L1_ENTRY : Fld := ⟨0x601128, 31, 0⟩
def F.EPT_RELAY_CMD : Fld := ⟨0x60112c, 31, 0⟩
def F.CTL_BOOT_STAT_STEP : Fld := ⟨0x4000, 3, 0⟩
def F.CTL_BOOT_STAT_BANK : Fld := ⟨0x4000, 5, 4⟩
def F.CTL_BOOT_STAT_BOOT_SEL : Fld := ⟨0x4000, 7, 6⟩
def F.CTL_BOOT_STAT_SLOT_B : Fld := ⟨0x4000, 8, 8⟩
def F.CTL_BOOT_STAT_OWNER : Fld := ⟨0x4000, 10, 9⟩
def F.CTL_BOOT_STAT_BLANK : Fld := ⟨0x4000, 12, 12⟩
def F.CTL_BOOT_STAT_SET_IGN : Fld := ⟨0x4000, 31, 16⟩
def F.CTL_BOOT_REJ_GOLDEN : Fld := ⟨0x4004, 3, 0⟩
def F.CTL_BOOT_REJ_A : Fld := ⟨0x4004, 7, 4⟩
def F.CTL_BOOT_REJ_B : Fld := ⟨0x4004, 11, 8⟩
def F.CTL_BOOT_CFG_TIME_WAIT_S : Fld := ⟨0x4008, 7, 0⟩
def F.CTL_BOOT_CFG_MEMBER_WAIT_S : Fld := ⟨0x4008, 15, 8⟩
def F.CTL_BOOT_CFG_STAGGER : Fld := ⟨0x4008, 23, 16⟩
def F.CTL_BOOT_CFG_INIT_BLANK : Fld := ⟨0x4008, 24, 24⟩
def F.CTL_IMG_VER_LO : Fld := ⟨0x400c, 31, 0⟩
def F.CTL_IMG_VER_HI : Fld := ⟨0x4010, 31, 0⟩
def F.CTL_IMG_SVN : Fld := ⟨0x4014, 31, 0⟩
def F.CTL_IMG_OWNVER : Fld := ⟨0x4018, 31, 0⟩
def F.CTL_BOOT_STEPT (i : Nat) : Fld := ⟨0x4040 + 4 * i, 31, 0⟩
def F.CHN_CHAIN_CFG_HEAD_WAIT_S : Fld := ⟨0x301000, 7, 0⟩
def F.CHN_CHAIN_CFG_MGMT_EN : Fld := ⟨0x301000, 8, 8⟩
def F.CHN_CHAIN_STAT_ADDR : Fld := ⟨0x301004, 5, 0⟩
def F.CHN_CHAIN_STAT_ADDRESSED : Fld := ⟨0x301004, 6, 6⟩
def F.CHN_CHAIN_STAT_HEAD : Fld := ⟨0x301004, 7, 7⟩
def F.CHN_CHAIN_STAT_UP_DRIVEN : Fld := ⟨0x301004, 8, 8⟩
def F.CHN_CHAIN_STAT_UP_LINK : Fld := ⟨0x301004, 9, 9⟩
def F.CHN_CHAIN_STAT_DN_LINK : Fld := ⟨0x301004, 10, 10⟩
def F.CHN_CHAIN_STAT_UNITS : Fld := ⟨0x301004, 22, 16⟩
def F.CHN_CHAIN_CMD_RESET : Fld := ⟨0x301008, 0, 0⟩
def F.CHN_HOP_DELAY_DELAY : Fld := ⟨0x30100c, 31, 0⟩
def F.CHN_TX_FRM : Fld := ⟨0x301100, 31, 0⟩
def F.CHN_RX_FRM : Fld := ⟨0x301104, 31, 0⟩
def F.CHN_CRC_ERR : Fld := ⟨0x301108, 31, 0⟩
def F.CHN_MGMT_DROP : Fld := ⟨0x30110c, 31, 0⟩
def F.CHN_HB_MISS : Fld := ⟨0x301110, 31, 0⟩
def F.HAL_PAIR_CFG_HB_PERIOD : Fld := ⟨0x701000, 3, 0⟩
def F.HAL_PAIR_CFG_PREFER_B : Fld := ⟨0x701000, 4, 4⟩
def F.HAL_PAIR_CFG_SINGLE : Fld := ⟨0x701000, 5, 5⟩
def F.HAL_PAIR_CFG_PAIR_WAIT_S : Fld := ⟨0x701000, 15, 8⟩
def F.HAL_PAIR_CFG_FENCE_MS : Fld := ⟨0x701000, 23, 16⟩
def F.HAL_CFG_FWD_PCT : Fld := ⟨0x701004, 6, 0⟩
def F.HAL_CFG_RESYNC_PCT : Fld := ⟨0x701004, 14, 8⟩
def F.HAL_CFG_H0_EN : Fld := ⟨0x701004, 16, 16⟩
def F.HAL_CFG_H1_EN : Fld := ⟨0x701004, 17, 17⟩
def F.HAL_PAIR_CMD_HANDOVER : Fld := ⟨0x701008, 0, 0⟩
def F.HAL_PAIR_CMD_UNFENCE : Fld := ⟨0x701008, 1, 1⟩
def F.HAL_PAIR_STAT_ROLE : Fld := ⟨0x70100c, 2, 0⟩
def F.HAL_PAIR_STAT_PAIRED : Fld := ⟨0x70100c, 3, 3⟩
def F.HAL_PAIR_STAT_FENCING : Fld := ⟨0x70100c, 4, 4⟩
def F.HAL_PAIR_STAT_FENCE_HELD : Fld := ⟨0x70100c, 5, 5⟩
def F.HAL_PAIR_STAT_H0_UP : Fld := ⟨0x70100c, 6, 6⟩
def F.HAL_PAIR_STAT_H1_UP : Fld := ⟨0x70100c, 7, 7⟩
def F.HAL_PAIR_STAT_HBP_OK : Fld := ⟨0x70100c, 8, 8⟩
def F.HAL_PAIR_STAT_HAUL_HB_OK : Fld := ⟨0x70100c, 9, 9⟩
def F.HAL_PAIR_STAT_RSYNC_PROG : Fld := ⟨0x70100c, 22, 16⟩
def F.HAL_PAIR_STAT_PEER_ROLE : Fld := ⟨0x70100c, 26, 24⟩
def F.HAL_PAIR_GEN_LO : Fld := ⟨0x701010, 31, 0⟩
def F.HAL_PAIR_GEN_HI : Fld := ⟨0x701014, 31, 0⟩
def F.HAL_TX_FRM : Fld := ⟨0x701100, 31, 0⟩
def F.HAL_RX_FRM : Fld := ⟨0x701104, 31, 0⟩
def F.HAL_RESEND : Fld := ⟨0x701108, 31, 0⟩
def F.HAL_AUTH_FAIL : Fld := ⟨0x70110c, 31, 0⟩
def F.HAL_SEQ_DROP : Fld := ⟨0x701110, 31, 0⟩
def F.HAL_HB_MISS : Fld := ⟨0x701114, 31, 0⟩
def F.HAL_MIRROR_ITEMS : Fld := ⟨0x701118, 31, 0⟩
def F.HAL_TAKEOVER : Fld := ⟨0x70111c, 31, 0⟩
def F.HAL_HANDOVER : Fld := ⟨0x701120, 31, 0⟩
def F.CTL_LIVE_STAT_PHASE : Fld := ⟨0x5000, 2, 0⟩
def F.CTL_LIVE_STAT_BENCH : Fld := ⟨0x5000, 9, 4⟩
def F.CTL_LIVE_STAT_HOLD : Fld := ⟨0x5000, 10, 10⟩
def F.CTL_LIVE_STAT_REFUSED : Fld := ⟨0x5000, 11, 11⟩
def F.CTL_LIVE_STAT_ABANDON : Fld := ⟨0x5000, 15, 12⟩
def F.CTL_LIVE_CFG_AVS_EN : Fld := ⟨0x5004, 0, 0⟩
def F.CTL_LIVE_CFG_HAUL_RECAL_H : Fld := ⟨0x5004, 15, 8⟩
def F.CTL_LIVE_CFG_MEM_RETRAIN_MIN : Fld := ⟨0x5004, 23, 16⟩
def F.CTL_LIVE_CMD_BENCH : Fld := ⟨0x5008, 5, 0⟩
def F.CTL_LIVE_CMD_RELOAD : Fld := ⟨0x5008, 8, 8⟩
def F.CTL_LIVE_CMD_RETIRE : Fld := ⟨0x5008, 16, 16⟩
def F.CTL_AVS_STAT_MV : Fld := ⟨0x500c, 9, 0⟩
def F.CTL_AVS_STAT_LOW_MARGIN : Fld := ⟨0x500c, 10, 10⟩
def F.CTL_AVS_STAT_AT_MAX : Fld := ⟨0x500c, 11, 11⟩
def F.CTL_AVS_STAT_AVS_FAIL : Fld := ⟨0x500c, 12, 12⟩
def F.TRU_STAT_STEP : Fld := ⟨0x101000, 3, 0⟩
def F.TRU_STAT_DEBUG : Fld := ⟨0x101000, 5, 4⟩
def F.TRU_STAT_DIK_OK : Fld := ⟨0x101000, 6, 6⟩
def F.TRU_STAT_AK_OK : Fld := ⟨0x101000, 7, 7⟩
def F.TRU_STAT_STOP : Fld := ⟨0x101000, 10, 8⟩
def F.TRU_STAT_CMD_REFUSED : Fld := ⟨0x101000, 11, 11⟩
def F.TRU_STAT_TAMPER_CAUSE : Fld := ⟨0x101000, 15, 12⟩
def F.TRU_STAT_TAMPER_CNT : Fld := ⟨0x101000, 17, 16⟩
def F.TRU_CTL_SVN_COMMIT : Fld := ⟨0x101004, 0, 0⟩
def F.TRU_TOKEN_CMD_GO : Fld := ⟨0x101040, 0, 0⟩
def F.TRU_TOKEN_CMD_BUSY : Fld := ⟨0x101040, 1, 1⟩
def F.TRU_TOKEN_CMD_RESULT : Fld := ⟨0x101040, 10, 8⟩
def F.CTL_MGT_PATH_REG_READ (i : Nat) : Fld := ⟨0x6000 + 4 * i, 0, 0⟩
def F.CTL_MGT_PATH_REG_WRITE (i : Nat) : Fld := ⟨0x6000 + 4 * i, 1, 1⟩
def F.CTL_MGT_PATH_EVENTS (i : Nat) : Fld := ⟨0x6000 + 4 * i, 2, 2⟩
def F.CTL_MGT_PATH_ADMIN (i : Nat) : Fld := ⟨0x6000 + 4 * i, 3, 3⟩
def F.CTL_MGT_PATH_RELAY (i : Nat) : Fld := ⟨0x6000 + 4 * i, 4, 4⟩
def F.CTL_MGT_PATH_NVME_MI (i : Nat) : Fld := ⟨0x6000 + 4 * i, 5, 5⟩
def F.CTL_MGT_PATH_SPDM (i : Nat) : Fld := ⟨0x6000 + 4 * i, 6, 6⟩
def F.CTL_MGT_PATH_STATIC_EID (i : Nat) : Fld := ⟨0x6000 + 4 * i, 15, 8⟩
def F.PAR_STRIPES (r : Nat) : Fld := ⟨roleKey 4 r 0x1100, 31, 0⟩
def F.PAR_RMW (r : Nat) : Fld := ⟨roleKey 4 r 0x1104, 31, 0⟩
def F.PAR_RECON (r : Nat) : Fld := ⟨roleKey 4 r 0x1108, 31, 0⟩
def F.PAR_REPLAY (r : Nat) : Fld := ⟨roleKey 4 r 0x110c, 31, 0⟩
def F.PAR_CHECK_FAIL (r : Nat) : Fld := ⟨roleKey 4 r 0x1110, 31, 0⟩
def F.CTL_MGT_IGN : Fld := ⟨0x6018, 31, 0⟩
def F.CTL_SAMP_TOTAL_LO : Fld := ⟨0x6020, 31, 0⟩
def F.CTL_SAMP_TOTAL_HI : Fld := ⟨0x6024, 31, 0⟩
def F.CHN_SMB_CFG_ADDR (i : Nat) : Fld := ⟨0x304000 + 4 * i, 6, 0⟩
def F.CHN_SMB_CFG_EN (i : Nat) : Fld := ⟨0x304000 + 4 * i, 7, 7⟩
def F.CHN_SMB_CFG_BM_ADDR (i : Nat) : Fld := ⟨0x304000 + 4 * i, 14, 8⟩
def F.CHN_SMB_CFG_SPEED (i : Nat) : Fld := ⟨0x304000 + 4 * i, 17, 16⟩
def F.CHN_SMB_PEC (i : Nat) : Fld := ⟨0x304010 + 8 * i, 31, 0⟩
def F.CHN_SMB_TO (i : Nat) : Fld := ⟨0x304014 + 8 * i, 31, 0⟩
def F.CTL_ROLE_MAP_N0 (i : Nat) : Fld := ⟨0x2010 + 4 * i, 3, 0⟩
def F.CTL_ROLE_MAP_N1 (i : Nat) : Fld := ⟨0x2010 + 4 * i, 7, 4⟩
def F.CTL_ROLE_MAP_N2 (i : Nat) : Fld := ⟨0x2010 + 4 * i, 11, 8⟩
def F.CTL_ROLE_MAP_N3 (i : Nat) : Fld := ⟨0x2010 + 4 * i, 15, 12⟩
def F.CTL_ROLE_MAP_N4 (i : Nat) : Fld := ⟨0x2010 + 4 * i, 19, 16⟩
def F.CTL_ROLE_MAP_N5 (i : Nat) : Fld := ⟨0x2010 + 4 * i, 23, 20⟩
def F.CTL_ROLE_MAP_N6 (i : Nat) : Fld := ⟨0x2010 + 4 * i, 27, 24⟩
def F.CTL_ROLE_MAP_N7 (i : Nat) : Fld := ⟨0x2010 + 4 * i, 31, 28⟩
def F.MEM_RGN_BASEr_MIB (i : Nat) : Fld := ⟨0x401200 + 8 * i, 31, 0⟩
def F.MEM_RGN_SIZEr_MIB (i : Nat) : Fld := ⟨0x401204 + 8 * i, 31, 0⟩

end Sys2Proof.Machine
end

