-- ==== Sys2Proof/Machine/State.lean ====
section
/-!
DEFINITION. Machine/State.lean: the state of the block as plain data, its value after a cold power-on, and the reasons a step can stop.
-/

namespace Sys2Proof.Machine

/-- MODEL: what the block sends to the outside: frames, packets, completions, member commands, responses and notices.
It is an observation, no state of the spec (log entry 8); nothing reads it. -/
inductive Out where
  /-- A GOODBYE heartbeat on both heartbeat paths (R549). -/
  | goodbye
  /-- A negative acknowledgment of a flit (R16). -/
  | flitNak (l : Lane) (chan seq : Nat)
  /-- A flit resent from the sender's retained copy (R16). -/
  | flitResent (l : Lane) (f : Flit)
  /-- A SHOT frame of a chain shot issued here (R65, R540), with the issuer's address. -/
  | chainShot (time issuer : Nat)
  /-- A Delay_Resp, or a Pdelay_Resp for a peer delay request, on a MAC over the transport of the request (R41). -/
  | ptpResponse (mac : Nat) (transport : PtpTransport) (peer : Bool)
  /-- An NRT packet (R71, R89): peer address, UDP source and destination ports, header, extension header, payload. -/
  | nrt (addr sport dport : Nat) (h : NrtHdr) (ext : NrtExt) (body : NrtBody)
  /-- What leaves a queue pair (R93 to R96): peer address and queue pair, UDP source port, the packet or message. -/
  | roce (addr qp sport : Nat) (m : RoceOut)
  /-- A CM message on queue pair 1: REP, DREP or REJ (R93). -/
  | cmRep (qp : Nat)
  | cmDrep (qp : Nat)
  | cmRej (addr : Nat)
  /-- A completion queue entry of an endpoint queue (R484): controller, queue, CID, dword 0, SCT, SC, DNR. -/
  | epCompletion (ctl qid cid dw0 sct sc dnr : Nat)
  /-- The content a command returns to its host buffer, little-endian. -/
  | hostData (ctl qid cid len data : Nat)
  /-- A member command issued, with what it is for (R402 to R405). -/
  | member (t : MTag) (w : MWork) (f : MForm)
  /-- An item sent to the partner's mirror (R546). -/
  | mirror (seq : Nat) (b : MirrorBody)
  /-- A CM DREQ (R93). -/
  | cmDreq (qp : Nat)
  /-- A fetch of the data of an endpoint command by its PRP list (R482). -/
  | epFetch (cmd len : Nat)
  /-- DRV completes a member's non-posted request outside every granted range with Unsupported Request (R404). -/
  | memberUr (slot addr len : Nat)
  /-- The response of a CIP request (R356): requester, RTAG, STATUS, executing role, bytes 4 to 15. -/
  | cipResponse (dst rtag status role tail : Nat)
  /-- What a CIP request writes at its destination (R341): the result of the cipher over key and operands. -/
  | cipData (dst len data : Nat)
  /-- A pause or PFC frame sent by a MAC: the class (8 for a pause frame) and its quanta (R438). -/
  | pause (mac cls quanta : Nat)
  /-- A frame transmitted on a MAC (R453), with its destination and VID. -/
  | frame (mac cls len dst vid : Nat) (ce : Bool)
  /-- A frame handed to XPT role r, with its class, arrival MAC (32 + m at the partner), CE mark and handle (R449). -/
  | toRole (r cls mac : Nat) (ce : Bool) (handle : Nat)
  /-- A frame handed to a queue of the control port (R459). -/
  | toControl (q cls mac : Nat)
  /-- A frame sent over the haul port (R457), with its arrival MAC and class, or with the partner's MAC it is for. -/
  | toHaul (mac cls : Nat) (target : Option Nat)
  /-- The receive stamp of a PTP event message, passed to CTL with the frame (R444). -/
  | ptpStamp (mac : Nat) (time : Int)
  /-- A transmit stamp that CTL read from a port's stamp queue (R444), with its MAC and sequenceId. -/
  | ptpTxStamp (mac seqId time : Nat)
  /-- The transmit time written into a one-step message (R444). -/
  | ptpOneStep (mac : Nat) (time : Int)
  /-- The receive wake time advertised in the LLDP EEE TLV, in µs (R441). -/
  | lldpWake (mac tw : Nat)
  /-- A value a register read returns. -/
  | value (v : Nat)
  /-- A read request of EPT with its tag (R483). -/
  | epRead (f tag : Nat) (w : EpWhat)
  /-- An MSI-X message of a function (R484). -/
  | msix (f vector : Nat)
  /-- A submission entry relayed to the active (R477). -/
  | epRelay (ctl qid entry : Nat)
  /-- An LTR message (R486). -/
  | ltr (us : Nat)
  /-- A BEAT on both heartbeat paths (R547): role, flags, BSEQ, generation. -/
  | beat (role flags bseq gen : Nat)
  /-- A sequenced haul frame (R542, R543), first sent or sent again. -/
  | haulFrame (half chan seq : Nat) (again : Bool)
  /-- An acknowledgment or NAK of a half: the highest SEQ accepted in order (R543). -/
  | haulAck (half : Nat) (nak : Bool) (seq : Nat)
  /-- A KIND 0 item (R546). -/
  | mack (mseq : Nat)
  /-- A HELLO (R551). -/
  | hello (role gen : Nat)
  /-- The HANDOVER item with the final MSEQ (R557). -/
  | handoverItem (mseq : Nat)
  /-- A resynchronisation copy with its tag (R559). -/
  | copy (tag : Nat) (b : MirrorBody)
  /-- A signed pairing message, or KSR sealed under the new keys (R598). -/
  | pairingMessage (nonce : Nat)
  | ksr
  /-- HOLD, its acknowledgment, and the report of the reload's end (R570). -/
  | hold (bench : Nat)
  | holdAck (bench : Nat)
  | holdEnd (bench : Nat)
  /-- RETIRE and its acknowledgment (R577). -/
  | retire
  | retireAck
  /-- The active's report of its step 15 (R522). -/
  | serving
  /-- Chain frames (Table PAIR-2); those of both directions say whether they go upstream. -/
  | chainAddr (a : Nat)
  | chainAddrAck (maxCount units : Nat)
  | chainTreq (eseq : Nat)
  | chainTresp (eseq t2 t3 : Nat)
  | chainShotRelay (t issuer : Nat) (up : Bool)
  | chainReset (src : Nat) (up : Bool)
  | chainMgmt (dst kind tag src command : Nat) (body : List Nat) (up : Bool)
  /-- A program of the boot flash (R564): a bank, or a descriptor copy with COUNT and PREFERRED. -/
  | flashBank (bank : Nat)
  | flashDescriptor (copy count preferred : Nat)
  /-- A download piece copied to the partner (R564). -/
  | imagePiece (ofs len : Nat)
  /-- A target written over AVSBus, in mV (R497, R575). -/
  | avs (mv : Nat)
  /-- The response to a vendor request (Table MGT-2): path, EID, TAG, command, CC, DETAIL, body. -/
  | vendor (path eid tag command cc detail : Nat) (body : List Nat)
  /-- An ADMIN request forwarded to the active (R628). -/
  | forwardAdmin (dest : ReplyTo) (tag command : Nat) (body : List Nat)
  /-- The response to an ADMIN request that the partner forwarded (R628). -/
  | adminReply (dest : ReplyTo) (tag command cc detail : Nat) (body : List Nat)
  /-- An EV_NOTIFY (R625): path, EID, LOST and its records. -/
  | evNotify (path eid lost : Nat) (recs : List EvRec)
  /-- A response of MCTP control, NVMe-MI or SPDM: path, command, completion code and data. -/
  | mctp (path command cc : Nat) (data : List Nat)
  | nvmeMi (path opcode status : Nat) (data : List Nat)
  | spdm (path code : Nat) (data : List Nat)
deriving DecidableEq, Repr

/-- A function of the endpoint (R473, R484, R485, R487): Bus Master Enable, D3hot, the vectors not masked, the pending bits,
what waits to be written to the host, in order, and the uncorrectable errors AER logged (sticky). -/
structure EpFunc where
  bme : Bool
  d3 : Bool
  unmasked : List Nat
  pba : List Nat
  held : List Out
  aer : Nat
deriving DecidableEq, Repr

/-- The state of the controller. -/
structure State where
  /-- The commands that wait, first in first out (the block's queue). -/
  pending : List Instr
  /-- The part, ZT4880-S or ZT4880-L, which no command changes (R4, R5; ZT4880-S at State.reset is a DESIGN CHOICE, log entry 2). -/
  part : Variant
  /-- Every register word that differs from its cold value. -/
  regs : RegFile
  /-- Benches 0 to 56 of Table ARC-1. -/
  bench : List Bench
  /-- The lanes that have carried a flit; a lane not listed is empty and in service (R14). -/
  lanes : List LaneState
  /-- The role sequence numbers accepted on each channel (R28). -/
  chans : List ChanEnd
  /-- The flits their senders retain, the outbound logs of the state banks among them (R16, R27). -/
  unacked : List Unacked
  /-- Rotation of classes 0 to 5 (R29). -/
  rot : List Rotation
  /-- A controller fault is declared (R13). -/
  faultDeclared : Bool
  /-- The time base (02). -/
  tim : Tim
  /-- The event logs (R50 to R53). -/
  evlog : EvLog
  /-- MODEL: what the block has sent to the outside, newest first (log entry 8). -/
  out : List Out
  /-- MODEL: how many free values have been drawn (log entry 5). -/
  freeCount : Nat
  /-- The event subscribers, at most 4 (R624). -/
  subs : List Subscriber
  /-- Allocated connections and queue pairs (R69, R97). -/
  conns : List Conn
  /-- Indexes freed before, with their next generation (R70). -/
  freed : List FreedIndex
  /-- The host identity table (R175). -/
  idents : List Ident
  /-- The namespaces (06). -/
  nss : List Namespace
  /-- Freed namespace identifiers (R182). -/
  freedNsids : List FreedNsid
  /-- Tenants that hold a retired counter set (R218). -/
  tenants : List Tenant
  /-- The metering snapshot region (R219). -/
  msnap : Option MeterSnap
  /-- Counter sets last saved into the member records, by namespace (R220). -/
  msaved : List (Nat × Meter)
  /-- Retired tenant sets last saved (R220). -/
  tsaved : List (Nat × Meter)
  /-- When the counter sets were last saved (R220). -/
  msaveAt : Nat
  /-- NVMe controllers (R131, R132). -/
  ctrls : List Ctrl
  /-- Controller indexes freed, with the time their deletion completed (R132). -/
  freedCtrls : List (Nat × Nat)
  /-- The subsystem NQN the image sets (Table CMD-1). -/
  subnqn : Nat
  /-- Commands in flight, in order of delivery (R134). -/
  cmds : List Cmd
  /-- Whether the commands in flight are at the limit of R134. -/
  stalled : Bool
  /-- Shelf outputs as DRV has written them, laid out as CHN_SBC_OUTi (R415). -/
  sbcWant : List Nat
  /-- Shelf outputs as the last frame shifted them into the shelf (R415). -/
  sbcShift : List Nat
  /-- MODEL: number of the next command delivered. -/
  nextCmd : Nat
  /-- Scheduler time v of each CMD role (R209). -/
  roleV : List Rat
  /-- Grants: CMD role, group, cost units left, which can be negative (R209). -/
  grants : List (Nat × Nat × Rat)
  /-- Background grants: group, task (0 rebuild, 1 spoil reclaim, 2 patrol), cost units (R208). -/
  taskGrants : List (Nat × Nat × Rat)
  /-- End of the last grant period (R208). -/
  periodAt : Nat
  /-- When rebuild may reconstruct again, in fifths of a unit (R320). -/
  rebAt : Nat
  /-- Layout groups G0 to G7 (R223). -/
  groups : List Group
  /-- Stripe tables: entries not FREE (R241, R247). -/
  stripes : List Stripe
  /-- Groups in which R243 holds. -/
  entryNotice : List Nat
  /-- The survey: entries with VALID 1 (R257). -/
  survey : List Mapping
  /-- Pending entries of the delta queues, oldest first (R272). -/
  pendings : List Pending
  /-- Objects of the survey areas (R265). -/
  objs : List SvyObj
  /-- Survey areas of the groups (R264 to R268). -/
  svy : List SvyGroup
  /-- Survey trees to sweep: namespace, generation, places left (R185). -/
  sweeps : List (Nat × Nat × List Place)
  /-- The tally store (R292). -/
  tally : Tally
  /-- Fixed-layout updates not done (R289). -/
  fixupds : List FixUpd
  /-- Contents of fixed-layout blocks (R287). -/
  fixblks : List FixBlk
  /-- The member slots (R306). -/
  slots : List Slot
  /-- Blocks whose member read failed and that have not been rewritten (R311). -/
  badBlks : List BRef
  /-- Member commands outstanding or quarantined (R405). -/
  mcmds : List MCmd
  /-- Member commands that wait for room on their queue (R405). -/
  mwaits : List MWait
  /-- Block reads of commands in progress (R311). -/
  jobs : List ReadJob
  /-- MODEL: number of the next read job. -/
  nextJob : Nat
  /-- Tail-cut reads of the current grant period by group (R313). -/
  tcutSpent : List (Nat × Nat)
  /-- The rebuild index: namespace, block, place (R316). -/
  rindex : List (Nat × Nat × Place)
  /-- The reshape in progress (R333). -/
  reshape : Option Reshape
  /-- The window table: entries ever published (R108). -/
  windows : List Window
  /-- Window messages delivered and not finished (R116). -/
  winops : List WinOp
  /-- MODEL: number of the next window message. -/
  nextOp : Nat
  /-- MODEL: the version that the next content of a cache line receives. -/
  nextVer : Nat
  /-- Pending copies (R381). -/
  pends : List PendCopy
  /-- Lines of the attached-memory cache (R379). -/
  lines : List Line
  /-- Directory entries in use (Table MEM-4). -/
  sectors : List Sector
  /-- The maintenance operation running (R392). -/
  maint : Option Maint
  /-- MODEL: when each event that is raised at most once in a time was last raised, by bench and local index. -/
  notices : List (Nat × Nat)
  /-- Retired frames with their channel (R374). -/
  frames : List (Nat × Nat)
  /-- The serial number of each channel's DIMM as the retirement list records it (R375). -/
  serials : List (Nat × Nat)
  /-- The DIMMs the memory start-up step found, by channel (R365, R368). -/
  dimms : List (Nat × Dimm)
  /-- Frame failures of the last 24 h: frame and time (R374, R376). -/
  frameFails : List (Nat × Nat)
  /-- Mirror items not acknowledged by the partner (R546). -/
  mirrorOut : List MirrorItem
  /-- Sequence of the last mirror item sent (R546). -/
  mseq : Nat
  /-- After a takeover, until when the fenced partner can still have writes land (R411). -/
  fenceEnd : Option Nat
  /-- Slab positions gathered for deallocation: slot, row, when freed (R409). -/
  trimGather : List (Nat × Nat × Nat)
  /-- Sets of the metering snapshot lost with a burst: scope (0 namespace, 1 tenant) and number (Table MEM-3). -/
  msnapBad : List (Nat × Nat)
  /-- The image in the download buffer is damaged (Table MEM-3). -/
  imgDamaged : Bool
  /-- The key table: entries with a KIND other than 0 (Table CIP-3). -/
  keyTab : List KeyEntry
  /-- The state banks of the CIP roles (R361). -/
  cips : List CipRole
  /-- Admin commands that wait for an end (R185, R188, R190, R285). -/
  adminWaits : List AdminWait
  /-- An NVM subsystem reset has happened (R159). -/
  nssro : Bool
  /-- The drive ports (14). -/
  ports : List Port
  /-- The drive-power step: next group of 8 slots and its time (R420). -/
  stage : Option (Nat × Nat)
  /-- The drive-power step has ended, so that an inserted drive is handled by R421. -/
  drvPowered : Bool
  /-- The MACs (R428, R436 to R441). -/
  macs : List Mac
  /-- The Ethernet ports (15). -/
  eports : List EthPort
  /-- Statistics of the MACs that are not 0, by 16 × MAC + i, each modulo 2^64 (R445). -/
  prtStat : List (Nat × Nat)
  /-- Frames in the packet buffer, in order of admission (R449, R461). -/
  swq : List SwFrame
  /-- Two-rate markers: what each bucket lacks, in 1/32,000 byte, and when (R463). -/
  markers : List (Nat × Nat × Nat)
  /-- Frames of the control queues of the last 1 ms: queue and time (R459). -/
  policed : List (Nat × Nat)
  /-- SWC events limited to one per 1 ms: local index and last time (Table SWC-9). -/
  swcNotices : List (Nat × Nat)
  /-- Samples delivered to control queue 3, newest first (R467). -/
  samples : List Sample
  /-- Where the packets of each path last arrived (R453). -/
  arrivals : List Arrival
  /-- The functions of the endpoint (17). -/
  epfs : List EpFunc
  /-- Tags of EPT reads, outstanding or quarantined (R489, R490). -/
  epReads : List EpRead
  /-- Fetches of write data in progress (R483, R487). -/
  epFetches : List EpFetch
  /-- When the last TLP was sent or received (R486). -/
  epTlpAt : Nat
  /-- The endpoint link is in L1 (R486). -/
  epL1 : Bool
  /-- When a function last had a command in flight (R486). -/
  epCmdAt : Nat
  /-- The last LTR message was the active one (R486). -/
  epLtrActive : Bool
  /-- More than 256 quarantined tags were reported (R490). -/
  epQuarNotice : Bool
  /-- The fuse array (Table TRU-1). -/
  fuses : Fuses
  /-- The boot flash (R499). -/
  flash : Flash
  /-- The start (18). -/
  boot : Boot
  /-- TRU (21). -/
  tru : Tru
  /-- The unit chain (19). -/
  chain : Chain
  /-- Pairing and fail-over (19). -/
  pair : Pair
  /-- Live service (20). -/
  live : Live
  /-- Management (22). -/
  mgt : Mgt
deriving DecidableEq, Repr

/-- A snapshot area before the first latch (Table TEV-8). -/
def Snap.cold : Snap := { seq := 0, latch := 0, target := 0, info := 0, evt := 0, counters := [] }

/-- A bench at a cold power-on: OFF, no role, out of lock (Table MGT-1). -/
def Bench.cold : Bench :=
  { state := .off, role := none, activeSince := 0, lastFault := none, prevFault := none, repairs := [], overLimit := false,
    timeLock := false, deviation := 0, foundAt := 0, localMin := 0, stamps := [], evBuf := [], evStalled := [], watermark := 0, emitted := 0,
    snap := Snap.cold }

/-- A class before any rotation. -/
def Rotation.cold : Rotation := { lastDone := none, owed := false, busy := none, deferred := false, live := false, held := [] }

/-- TIM at a cold power-on; the cold value of the master count is DESIGN CHOICE 0 (log entry 1). -/
def Tim.cold : Tim :=
  { count := 0, frac := 0, lastMarker := none, lockRun := 0, lastUpdate := none, firstUpdatePending := false, ppsInLast := none,
    ppsInFrom := 0, ppsMissRaised := false, ppsOut := false, ppsOutRise := none, ppsOutFrom := 0, shots := [], fired := [], shotOut := false,
    shotOutRise := 0, ptp := [], ptpSecs := 0 }

/-- Empty event logs. -/
def EvLog.cold : EvLog := { delivered := [], onChip := [], copied := 0, memLog := [], sinceMarker := 0, markerOwed := false }

/-- An empty meter. -/
def Meter.zero : Meter :=
  { rdCmds := 0, wrCmds := 0, rdBytes := 0, wrBytes := 0, winOps := 0, winRd := 0, winWr := 0, wdCmds := 0, wdBytes := 0,
    cost := 0, held := 0, short := 0 }

/-- Ceilings never charged. -/
def Tats.zero : Tats := { bytes := 0, wbytes := 0, ops := 0 }

/-- The connection profile of a new queue (R199). -/
def Profile.zero : Profile := { maxKbps := 0, maxWkbps := 0, maxIops := 0, minKbps := 0, weight := 0, lclass := 0, burst := 0 }

/-- A slot at a cold power-on: UNCONFIGURED (Table REB-12). -/
def Slot.cold : Slot :=
  { state := 7, group := 0, errs := [], ref := 0, absent := none, order := false, allDirty := false, dirty := [], drive := none }

/-- A group at a cold power-on: not configured. -/
def Group.cold : Group :=
  { configured := false, mounted := false, rows := 0, cursor := 0, lastSlot := 47, fseq := 0, mapped := 0, fixedRows := 0,
    freeFixed := [], epoch := 0, holdSince := none, holdEntered := none, placedInPeriod := 0, demand := 0,
    work := [], waiting := false, indexSwept := false, scan := false, patrolAt := 0, patrolStart := 0, lostTotal := 0,
    fixNotice := none, c2state := 0, priority := false, objLost := false, patrolled := [] }

/-- The survey area of a group before any mount. -/
def SvyGroup.cold : SvyGroup :=
  { wseq := 0, mseq := 0, recAt := 0, head := 0, tail := 0, blocks := [], copiedTo := 0, dlogNotice := none, old := [], members := none }

/-- The tally before any record: SEQ 0, ring empty (Table TLY-9). -/
def Tally.cold : Tally :=
  { recs := [], seq := 0, wseq := 0, wcount := 0, cbTail := 4096, cbAt := 0, ringGen := 0, stallSince := none,
    stallNotice := none, fillNotice := none, rateAt := 0 }

/-- An empty CIP state bank. -/
def CipRole.cold : CipRole := { cache := [], queue := [], held := [], loads := [], carried := 0 }

/-- A port at a cold power-on: the slot's inputs read as those of an empty slot (R417). -/
def Port.cold : Port :=
  { accepted := 15, captured := 15, since := [0, 0, 0, 0], perstAt := none, trainFrom := none, recoverAt := none,
    contains := [], crit := 0, polledAt := 0, waitPower := false, pwrAt := 0 }

/-- A MAC at a cold power-on. -/
def Mac.cold : Mac :=
  { stops := [], ignore := [], asked := [], asks := [], idleSince := 0, lpi := none, tw := none, twNext := none, wake := 0 }

/-- A port at a cold power-on: disabled (Table ETH-1). -/
def EthPort.cold : EthPort := { mode := 0, stamps := [], stampNotice := none }

/-- A function of the endpoint at its cold values: no bus mastering, D0, every vector masked. -/
def EpFunc.cold : EpFunc := { bme := false, d3 := false, unmasked := [], pba := [], held := [], aer := 0 }

/-- The fuses as a part leaves Fornor (R670): what is fused at manufacture is a constant of the part that nothing constrains
but its range (log entry 60); the rest is blank. -/
def Fuses.made : Fuses :=
  { fkh := (List.range 4).map fun j => Config.keyed .keyMaterial [670, j], frevoke := 0, life := 1, fwSvn := 0, ownSvn := 0,
    dsn := Config.keyed .keyMaterial [670, 4] % 2 ^ 64, mfgDate := Config.keyed .keyMaterial [670, 5] % 2 ^ 64,
    vcore := 680 + Config.keyed .keyMaterial [670, 6] % 141, ownerKey := 0, ownerSeed := 0,
    dus := Config.keyed .keyMaterial [670, 7], certSig := Config.keyed .signature [670, 8] }

/-- A part without a flash content known: no bank, no descriptor (R670). -/
def Flash.blank : Flash := { size := 0, desc := [none, none], banks := [] }

/-- In reset, the supplies just valid: no start has begun. -/
def Boot.cold : Boot :=
  { held := some 3, stopped := false, startAt := 0, ended := [], img := none, bank := 0, step4At := 0, step6At := 0,
    genSeen := 0, memBad := 0 }

/-- TRU before a start. -/
def Tru.cold : Tru :=
  { nonce := none, level2 := false, token := 0, blocked := false, trip := false, ksr := false, wraps := [none, none], kcw := none,
    memKey := none, ak := none, spdm := [], sigs := [],
    jtag := false, pairNonce := none, akCert := none }

/-- The chain before step 5. -/
def Chain.cold : Chain :=
  { downAck := none, sentAt := none, acked := false, waitFrom := none, treq := none, eseq := 0, treqAt := 0, stepped := false,
    dnDriven := false, upLost := false }

/-- A heartbeat path before any heartbeat. -/
def BeatPath.cold : BeatPath := { bseq := none, expected := none, misses := 0, faulty := false }

/-- A haul half before training. -/
def Half.cold : Half := { txSeq := 0, rxSeq := 0, kept := [], recalAt := 0, authNotice := none }

/-- Pairing before a start. -/
def Pair.cold : Pair :=
  { bseq := 0, beatAt := 0, wire := BeatPath.cold, haul := BeatPath.cold, halves := [Half.cold, Half.cold], peerGen := 0,
    actWait := none, fenceAt := none, released := none, startDelay := none, alone := false, exchanged := false, hello := none,
    mack := some 0, early := [], closed := false, resync := none, copies := [], handover := none, hold := none, retired := false }

/-- Live service at a start. -/
def Live.cold : Live :=
  { pieces := [], commit := none, plan := [], busy := [], fresh := [], lastEnd := 0, stepUpAt := none, maxNotice := none,
    avsAt := 0, rankAt := [], zqAt := 0, alignAt := 0, ucode := [], waits := [], serdes := [], halves := [] }

/-- Management at a start. -/
def Mgt.cold : Mgt := { latches := [], eids := [0, 0, 0, 0, 0], relays := [], relayTag := 0, busy := [0, 0, 0, 0, 0], freq := [0, 0] }

/-- The machine right after a cold power-on: every register at its cold value, every bench OFF, every table and queue
empty, the command queue empty. -/
def State.reset : State where
  pending := []
  part := .zs
  regs := []
  bench := List.replicate 57 Bench.cold
  lanes := []
  chans := []
  unacked := []
  rot := List.replicate 6 Rotation.cold
  faultDeclared := false
  tim := Tim.cold
  evlog := EvLog.cold
  out := []
  freeCount := 0
  subs := []
  conns := []
  freed := []
  idents := []
  nss := []
  freedNsids := []
  tenants := []
  msnap := none
  msaved := []
  tsaved := []
  msaveAt := 0
  ctrls := []
  freedCtrls := []
  subnqn := 0
  cmds := []
  stalled := false
  sbcWant := List.replicate 6 0xCCCCCCCC
  sbcShift := List.replicate 6 0xCCCCCCCC
  nextCmd := 0
  roleV := [0, 0, 0, 0]
  grants := []
  taskGrants := []
  periodAt := 0
  rebAt := 0
  groups := List.replicate 8 Group.cold
  stripes := []
  entryNotice := []
  survey := []
  pendings := []
  objs := []
  svy := List.replicate 8 SvyGroup.cold
  sweeps := []
  tally := Tally.cold
  fixupds := []
  fixblks := []
  slots := List.replicate 48 Slot.cold
  badBlks := []
  mcmds := []
  mwaits := []
  jobs := []
  nextJob := 0
  tcutSpent := []
  rindex := []
  reshape := none
  windows := []
  winops := []
  nextOp := 0
  nextVer := 0
  pends := []
  lines := []
  sectors := []
  maint := none
  notices := []
  frames := []
  serials := []
  dimms := []
  frameFails := []
  mirrorOut := []
  mseq := 0
  fenceEnd := none
  trimGather := []
  msnapBad := []
  imgDamaged := false
  keyTab := []
  cips := List.replicate 8 CipRole.cold
  adminWaits := []
  nssro := false
  ports := List.replicate 48 Port.cold
  stage := none
  drvPowered := false
  macs := List.replicate 32 Mac.cold
  eports := List.replicate 8 EthPort.cold
  prtStat := []
  swq := []
  markers := List.replicate 16 (0, 0, 0)
  policed := []
  swcNotices := []
  samples := []
  arrivals := []
  epfs := List.replicate 64 EpFunc.cold
  epReads := []
  epFetches := []
  epTlpAt := 0
  epL1 := false
  epCmdAt := 0
  epLtrActive := false
  epQuarNotice := false
  fuses := Fuses.made
  flash := Flash.blank
  boot := Boot.cold
  tru := Tru.cold
  chain := Chain.cold
  pair := Pair.cold
  live := Live.cold
  mgt := Mgt.cold

/-- No command of this block stops with a fault: the spec gives every one an effect. Safe. -/
inductive Fault where
deriving DecidableEq, Repr

/-- Reasons a step refuses a command. -/
inductive Refusal where
  /-- Raised only by a dispatch arm of a command that has no meaning in the model yet. Safe. -/
  | notModelled (mnemonic : String)
deriving DecidableEq, Repr

end Sys2Proof.Machine
end

