-- ==== Sys2Proof/Machine/Ops.lean ====
section
/-!
DEFINITION. Machine/Ops.lean: the operations every family shares: register fields, counters, benches, free values, what is
sent outside, raising an event (R45 to R49) and declaring a controller fault (R13).
-/

namespace Sys2Proof.Machine

/-! ### Time in units of 0.25 ns (R34) -/

/-- Nanoseconds in units. -/
def nsU (n : Nat) : Nat := 4 * n
/-- Microseconds in units. -/
def usU (n : Nat) : Nat := 4000 * n
/-- Milliseconds in units. -/
def msU (n : Nat) : Nat := 4000000 * n
/-- Seconds in units. -/
def secU (n : Nat) : Nat := 4000000000 * n
/-- Minutes in units. -/
def minU (n : Nat) : Nat := secU (60 * n)
/-- Hours in units. -/
def hourU (n : Nat) : Nat := secU (3600 * n)

/-- The master count. -/
def State.now (s : State) : Nat := s.tim.count.toNat

/-- Whether a time has come. -/
def State.due (s : State) (t : Nat) : Bool := t ≤ s.now

/-- Whether an optional deadline is set and has come. -/
def State.dueOpt (s : State) (t : Option Nat) : Bool :=
  match t with
  | some d => s.due d
  | none => false

/-! ### Lists -/

/-- Change every element that passes a test. -/
def mapIf {α : Type} (p : α → Bool) (f : α → α) (l : List α) : List α := l.map fun a => if p a then f a else a

/-- Insert an element before the first that it does not come after. -/
def insertBy {α : Type} (le : α → α → Bool) (x : α) : List α → List α
  | [] => [x]
  | y :: t => if le x y then x :: y :: t else y :: insertBy le x t

/-- A list in ascending order, equal elements in the order they had. -/
def sortBy {α : Type} (le : α → α → Bool) (l : List α) : List α := l.foldr (insertBy le) []

/-- Numbers in ascending order. -/
def sortNat (l : List Nat) : List Nat := sortBy (fun a b => decide (a ≤ b)) l

/-- The element before the first that fails, or the default. -/
def at0 {α : Type} (d : α) (l : List α) (i : Nat) : α := l.getD i d

/-- Drop the last element that passes a test. -/
def eraseLast {α : Type} (p : α → Bool) (l : List α) : List α := (l.reverse.eraseP p).reverse

/-- The least of a list of numbers. -/
def listMin (l : List Nat) : Option Nat := l.foldl (fun m x => match m with | none => some x | some y => some (min x y)) none

/-- The greatest of a list of numbers, 0 for none. -/
def listMax (l : List Nat) : Nat := l.foldl max 0

/-- The signed value of the low bits of a number. -/
def signedOf (bits v : Nat) : Int := if v % 2 ^ bits < 2 ^ (bits - 1) then (v % 2 ^ bits : Nat) else ((v % 2 ^ bits : Nat) : Int) - 2 ^ bits

/-- A signed number saturated to 32 bits and laid out in two's complement. -/
def sat32 (i : Int) : Nat :=
  let c := max (-2147483648) (min 2147483647 i)
  (c % 4294967296).toNat

/-- Nat 1 or 0. -/
def bit (b : Bool) : Nat := if b then 1 else 0

/-- Whether bit i of a number is 1. -/
def hasBit (n i : Nat) : Bool := n / 2 ^ i % 2 == 1

/-! ### Register fields -/

/-- Bits hi to lo of a word. -/
def fieldGet (w : Word) (hi lo : Nat) : Nat := w.toNat / 2 ^ lo % 2 ^ (hi + 1 - lo)

/-- A word with bits hi to lo replaced. -/
def fieldPut (w : Word) (hi lo v : Nat) : Word :=
  BitVec.ofNat 32 (w.toNat - fieldGet w hi lo * 2 ^ lo + v % 2 ^ (hi + 1 - lo) * 2 ^ lo)

/-- The register word at a home key. -/
def State.word (s : State) (k : Nat) : Word := RegFile.get s.regs k

/-- Write the register word at a home key. -/
def State.setWord (s : State) (k : Nat) (v : Word) : State := { s with regs := RegFile.set s.regs k v }

/-- Read a register field. -/
def State.rd (s : State) (f : Fld) : Nat := fieldGet (s.word f.key) f.hi f.lo

/-- Write a register field, whatever its access type: what the block itself does. -/
def State.wr (s : State) (f : Fld) (v : Nat) : State := s.setWord f.key (fieldPut (s.word f.key) f.hi f.lo v)

/-- Add to a counter field; it wraps at its width. -/
def State.bumpBy (s : State) (f : Fld) (n : Nat) : State := s.wr f (s.rd f + n)

/-- Count one in a counter field; it wraps at its width. -/
def State.bump (s : State) (f : Fld) : State := s.bumpBy f 1

/-- Write one bit field. -/
def State.wrB (s : State) (f : Fld) (b : Bool) : State := s.wr f (bit b)

/-- Whether a one-bit field reads 1. -/
def State.isSet (s : State) (f : Fld) : Bool := s.rd f == 1

/-- Set bit i within a field. -/
def State.setBit (s : State) (f : Fld) (i : Nat) (b : Bool) : State :=
  s.wr f (s.rd f - bit (hasBit (s.rd f) i) * 2 ^ i + bit b * 2 ^ i)

/-- A register word in full. -/
def fullWord (k : Nat) : Fld := ⟨k, 31, 0⟩

/-- Write a 64-bit pair of _LO and _HI words. -/
def State.wr64 (s : State) (lo hi : Fld) (v : Nat) : State := (s.wr lo (v % 2 ^ 32)).wr hi (v / 2 ^ 32)

/-- Read a 64-bit pair of _LO and _HI words. -/
def State.rd64 (s : State) (lo hi : Fld) : Nat := s.rd lo + 2 ^ 32 * s.rd hi

/-! ### What leaves the block, and free values -/

/-- Record what is sent outside. -/
def State.send (s : State) (o : Out) : State := { s with out := o :: s.out }

/-- Record several things sent outside, in order. -/
def State.sendAll (s : State) (os : List Out) : State := { s with out := os.reverse ++ s.out }

/-- Draw a fresh free value below a bound (below 1 for bound 0). -/
def State.draw (s : State) (k : FreeKind) (bound : Nat) : Nat × State :=
  (Config.freeValue k s.freeCount % max 1 bound, { s with freeCount := s.freeCount + 1 })

/-! ### Benches -/

/-- A bench; a reserved ID behaves as an OFF bench (Table ARC-1). -/
def State.benchAt (s : State) (b : Nat) : Bench := s.bench.getD b Bench.cold

/-- Change one bench. -/
def State.updBench (s : State) (b : Nat) (f : Bench → Bench) : State := { s with bench := s.bench.modify b f }

/-- State code of R26. -/
def BenchState.code : BenchState → Nat
  | .off => 0 | .active => 1 | .spare => 2 | .reloading => 3 | .selftest => 4 | .faulted => 5

/-- Roles of each class in a part (Table ARC-1, R5). -/
def partRoles (p : Variant) (c : Nat) : Nat :=
  match c with
  | 0 => if p = .zs then 4 else 2
  | 1 => 4 | 2 => 2 | 3 => 2 | 4 => 8 | 5 => 8 | _ => 0

/-- Instances of each class in a part, spare included. -/
def partInsts (p : Variant) (c : Nat) : Nat := if c < 6 then partRoles p c + 1 else 0

/-- Roles of each class in this unit. -/
def State.roleCount (s : State) (c : Nat) : Nat := partRoles s.part c

/-- Instances of each class in this unit, spare included. -/
def State.instCount (s : State) (c : Nat) : Nat := partInsts s.part c

/-- Bench ID of an instance of a class. -/
def instBench (c i : Nat) : Nat := classFirst.getD c 63 + i

/-- Class and instance index of a bench of the six replicated classes. -/
def classInst (b : Nat) : Option (Nat × Nat) :=
  match classOf b with
  | some c => if c < 6 then some (c, b - classFirst.getD c 63) else none
  | none => none

/-- Whether a bench is a singleton. -/
def isSingleton (b : Nat) : Bool := (classInst b).isNone && b < 57

/-- The bench bound to a role of a class. -/
def State.boundBench (s : State) (c r : Nat) : Option Nat :=
  ((List.range (s.instCount c)).map (instBench c)).find? fun b =>
    (s.benchAt b).role == some r && (s.benchAt b).state == .active

/-- Whether a bench is in service: neither OFF nor FAULTED. -/
def Bench.inService (b : Bench) : Bool := b.state != .off && b.state != .faulted

/-! ### Controller fault (R13) -/

/-- Declare a controller fault: GOODBYE goes out on both heartbeat paths before anything else (R549), and FAULT_N
goes low until the next start (R649). -/
def State.controllerFault (s : State) : State :=
  if s.faultDeclared then s else { s.send .goodbye with faultDeclared := true }

/-! ### Raising an event (R45 to R49) -/

/-- Offer a record to a bench's buffer of 64 (R49): an INFO record that finds it full is dropped and counted; another
replaces the newest INFO record, which is counted; with no INFO record in the buffer the raising logic stalls with it. -/
def Bench.offer (b : Bench) (r : EvRec) : Bench × Nat :=
  if b.evBuf.length < 64 ∧ b.evStalled = [] then ({ b with evBuf := b.evBuf ++ [r] }, 0)
  else if r.severity = 0 then (b, 1)
  else if b.evBuf.any (fun e => e.severity == 0) then
    ({ b with evBuf := eraseLast (fun e => e.severity == 0) b.evBuf ++ [r] }, 1)
  else ({ b with evStalled := b.evStalled ++ [r] }, 0)

/-- The local time of a bench (R37, R38): the master count in lock; out of lock the deviation found at the last marker, for
at most the 10 µs of the slew; never below what it was (R35). Within the errors of R37 and R38 the value is the model's
(DESIGN CHOICE, log entry 103). -/
def State.localTime (s : State) (b : Nat) : Nat :=
  let x := s.benchAt b
  let d := if x.timeLock || s.due (x.foundAt + usU 10) then 0 else x.deviation
  max x.localMin ((s.now : Int) + d).toNat

/-- Whether a bench's local time is in lock (R38): at the last marker, or 10 µs after one that found it out of lock. -/
def State.inLock (s : State) (b : Nat) : Bool :=
  let x := s.benchAt b
  x.timeLock || (x.deviation != 0 && s.due (x.foundAt + usU 10))

/-- The stamp of an occurrence: the bench's local time, later than every earlier stamp of its source (R39). -/
def Bench.stamp (b : Bench) (loc t : Nat) : Nat :=
  match b.stamps.find? (fun p => p.1 == loc) with
  | some p => max t (p.2 + 1)
  | none => t

/-- Record the occurrence of an event source: the status bit and the common counters always (R48), a FATAL condition's
controller fault always (R47), and a record where the source is enabled. A bench in state OFF emits nothing (R45). A record that
finds the buffer full and is dropped counts as emitted (BENCH_SNAP_EVT; DESIGN CHOICE, log entry 104). -/
def State.raise (s : State) (b loc sev code data : Nat) : State :=
  if (s.benchAt b).state = .off then s else
  let s := s.setBit (F.BENCH_EV_STAT b) loc true
  let s := if loc = 2 then s.bump (F.BENCH_ERR_DET b) else if loc = 3 then s.bump (F.BENCH_ERR_UNREC b) else s
  let s := if sev = 3 then s.controllerFault else s
  if hasBit (s.rd (F.BENCH_EV_EN b)) loc then
    let bn := s.benchAt b
    let t := bn.stamp loc (s.localTime b)
    let (bn, lost) := bn.offer { time := t, source := b * 16 + loc, severity := sev, code := code, data := data }
    let bn := { bn with stamps := (loc, t) :: bn.stamps.filter (fun p => p.1 != loc), emitted := bn.emitted + 1 }
    (s.updBench b fun _ => bn).bumpBy (F.BENCH_EV_OVF b) lost
  else s

/-- Severities of Table TEV-3. -/
def INFO : Nat := 0
def NOTICE : Nat := 1
def ERROR : Nat := 2
def FATAL : Nat := 3

end Sys2Proof.Machine
end

