-- ==== Sys2Proof/Machine/Access.lean ====
section
/-!
DEFINITION. Machine/Access.lean: what a write does to the fields of one register word, by their types and the lock
(R9, R10, R615, R622), before any effect the register has.
-/

namespace Sys2Proof.Machine

/-- Whether a value is one the field takes. -/
def checkOk (c : FieldCheck) (v : Nat) : Bool :=
  match c with
  | .any => true
  | .rng lo hi => lo ≤ v && v ≤ hi

/-- Home key of a bench window's offset. The role-owned lines take the role bound to the instance; none when unbound. -/
def State.homeKey (s : State) (bench off : Nat) (h : Home) : Option Nat :=
  match h with
  | .inst => some (bench * 0x100000 + off)
  | .cls => (classOf bench).map fun c => clsKey c off
  | .role => match classInst bench, (s.benchAt bench).role with
    | some (c, _), some r => some (roleKey c r off)
    | _, _ => none

/-- Checks between fields of one word, or of a pair, that the tables state beside the single fields: the word that
would result is given; the answer is the bits the write must leave alone. -/
def crossCheck (part : Variant) (bench off : Nat) (w : Word) : Nat :=
  let g := fun hi lo => fieldGet w hi lo
  if bench = 16 then
    if 0x1200 ≤ off && off < 0x1240 && (off - 0x1200) % 8 = 0 && g 7 0 > g 19 8 then 0xFFFFFFFF
    else if 0x1200 ≤ off && off < 0x1240 && (off - 0x1200) % 8 = 4 && g 19 10 ≥ g 9 0 then 0xFFFFFFFF
    else if 0x1240 ≤ off && off < 0x1280 && g 15 8 != 0 && g 7 0 ≥ g 15 8 then 0xFFFFFFFF
    else 0
  else if bench = 7 && off = 0x1004 && g 16 16 = 0 && g 17 17 = 0 then 0xFFFFFFFF
  else if bench = 3 && off = 0x3000 && 193 * 1000 > g 23 16 * g 15 0 then 0x00FFFFFF
  else if bench = 0 && (off = 0x600C || off = 0x6010) then 0x0000FF70
  else if (classOf bench) = some 3 && off / 0x20 * 0x20 + 8 = off && 0x1000 ≤ off && off < 0x1100 && part = .zl then 0xFFFF
  else if (classOf bench) = some 3 && off % 0x20 = 0x10 && 0x1000 ≤ off && off < 0x1100 &&
      !(g 7 0 > g 15 8 && g 15 8 > g 23 16 && 1 ≤ g 23 16) then 0x00FFFFFF
  else 0

/-- What one field holds after a word v is written with a mask, given what it held and whether RWL fields are locked. -/
def fieldAfter (f : FieldDef) (locked : Bool) (old v mask : Nat) : Nat :=
  let m := mask / 2 ^ f.lo % 2 ^ (f.hi + 1 - f.lo)
  let x := v / 2 ^ f.lo % 2 ^ (f.hi + 1 - f.lo)
  let merged := (old &&& (2 ^ (f.hi + 1 - f.lo) - 1 - m)) ||| (x &&& m)
  match f.type with
  | .ro | .rc | .wo => old
  | .rw => if checkOk f.check merged then merged else old
  | .rwl => if locked then old else if checkOk f.check merged then merged else old
  | .w1c => old - (old &&& (x &&& m))
  | .w1s => old ||| (x &&& m)

/-- The word after a write of v under a mask. -/
def wordAfter (d : RegDef) (locked : Bool) (old v mask : Nat) : Word :=
  d.fields.foldl (fun w f => fieldPut w f.hi f.lo (fieldAfter f locked (fieldGet (BitVec.ofNat 32 old) f.hi f.lo) v mask))
    (BitVec.ofNat 32 old)

/-- Whether a write would change a bit of an RWL field (what R615 counts). -/
def wouldChangeLocked (d : RegDef) (old v mask : Nat) : Bool :=
  d.fields.any fun f => f.type == .rwl &&
    ((old ^^^ v) &&& mask) / 2 ^ f.lo % 2 ^ (f.hi + 1 - f.lo) != 0

/-! ### Checks that name other registers -/

/-- PRT bench and sub-port of a MAC. -/
def prtOf (m : Nat) : Nat := 8 + m / 4
def subOf (m : Nat) : Nat := m % 4

/-- The flow-control mode of a MAC. -/
def State.fcMode (s : State) (m : Nat) : Nat := s.rd (F.PRT_MACCFG_FC_MODE (prtOf m) (subOf m))

/-- Whether a class is lossless at a switch port (R461). -/
def State.lossless (s : State) (p c : Nat) : Bool :=
  p < 32 && (s.fcMode p == 1 || (s.fcMode p == 2 && hasBit (s.rd (F.PRT_MACCFG_PFC_EN (prtOf p) (subOf p))) c))

/-- Buffer profile and marker of a switch port and class (SWC_PCLS). -/
def State.profOf (s : State) (p c : Nat) : Nat :=
  fieldGet (s.word (16 * 0x100000 + 0x1500 + 8 * p + 4 * (c / 4))) (8 * (c % 4) + 2) (8 * (c % 4))
def State.polOf (s : State) (p c : Nat) : Nat :=
  fieldGet (s.word (16 * 0x100000 + 0x1500 + 8 * p + 4 * (c / 4))) (8 * (c % 4) + 7) (8 * (c % 4) + 3)

/-- Reserve of all ports and classes, and headroom of the lossless classes of MAC ports, in cells. -/
def State.reservedCells (s : State) : Nat :=
  ((List.range 38).map fun p => ((List.range 8).map fun c =>
    16 * s.rd (F.SWC_BPROF_A_RSV (s.profOf p c)) +
      (if s.lossless p c then 16 * s.rd (F.SWC_BPROF_B_HDRM (s.profOf p c)) else 0)).sum).sum

/-- Whether the state a write would leave is one the tables allow: the shares of a group's background work (Table QOS-11), and the
sum of reserve and headroom (R461). -/
def State.writeAllowed (s s' : State) (bench off : Nat) : Bool :=
  if classOf bench = some 1 && 0x1230 ≤ off && off < 0x1270 then
    let g := (off - 0x1230) / 8
    let floors := [s'.rd (F.CMD_QOS_BGA_REB_MIN g), s'.rd (F.CMD_QOS_BGA_RECL_MIN g), s'.rd (F.CMD_QOS_BGB_PAT_MIN g)]
    let ceils := [s'.rd (F.CMD_QOS_BGA_REB_MAX g), s'.rd (F.CMD_QOS_BGA_RECL_MAX g), s'.rd (F.CMD_QOS_BGB_PAT_MAX g)]
    (floors.zip ceils).all (fun p => p.1 ≤ p.2 && p.2 ≤ 100) && floors.getD 0 0 + ceils.getD 1 0 + floors.getD 2 0 ≤ 100
  else if bench = 16 && ((0x1200 ≤ off && off < 0x1240) || (0x1500 ≤ off && off < 0x1630)) then
    s'.reservedCells ≤ 98304 || s'.reservedCells ≤ s.reservedCells
  else true

/-- Write a word of a register line at a home key: the fields by their types, the cross checks, the lock of the bench,
and the count of R615. Answers whether the word was counted. -/
def State.writeWord (s : State) (bench off : Nat) (d : RegDef) (key : Nat) (v mask : Nat) : State × Bool :=
  let old := (s.word key).toNat
  let locked := s.isSet (F.BENCH_CTL_LOCK bench)
  let w := (wordAfter d locked old v mask).toNat
  let keep := crossCheck s.part bench off (BitVec.ofNat 32 w)
  let w' := (w &&& (0xFFFFFFFF - keep)) ||| (old &&& keep)
  let s' := s.setWord key (BitVec.ofNat 32 w')
  let s : State := if s.writeAllowed s' bench off then s' else s
  if locked && wouldChangeLocked d old v mask then (s.bump (F.BENCH_LOCK_IGN bench), true) else (s, false)

/-- Write the fields of the register at a bench window's offset; nothing where no register is, or where its role's bank
is not bound to the instance. -/
def State.writeReg (s : State) (bench off : Nat) (v mask : Nat) : State × Bool :=
  match findReg bench off with
  | some (d, _) =>
    match s.homeKey bench off d.home with
    | some k => s.writeWord bench off d k v mask
    | none => (s, false)
  | none => (s, false)

/-! ### Latches of _HI halves (R609) -/

/-- Latch the _HI half at a key for a path. -/
def State.latch (s : State) (path key v : Nat) : State :=
  { s with mgt := { s.mgt with latches := (path, key, v) :: s.mgt.latches.filter fun x => !(x.1 == path && x.2.1 == key) } }

/-- The half latched at a key for a path; 0 before the path read the _LO register. -/
def State.latched (s : State) (path key : Nat) : Nat :=
  ((s.mgt.latches.find? fun x => x.1 == path && x.2.1 == key).map fun (x : Nat × Nat × Nat) => x.2.2).getD 0

/-! ### Accesses to a window whose bench reloads in place (R612) -/

/-- Whether a singleton reloads in place. -/
def State.reloading (s : State) (b : Nat) : Bool := (classInst b).isNone && s.live.busy.any fun x => x.1 == b

/-- Keep an access until the reload ends. -/
def State.holdAccess (s : State) (a : RegAccess) : State := { s with live := { s.live with waits := s.live.waits ++ [a] } }

/-- A command given by a register write: the bits of `mask` take `v`; it waits while the bench reloads (R612). -/
def State.atWindow (s : State) (b off v mask : Nat) (f : State → State) : State :=
  if s.reloading b then s.holdAccess (.write (b * 0x100000 + off) v mask) else f s

/-- A whole-word write, its count left aside. -/
def State.writeRegW (s : State) (bench off : Nat) (v : Word) : State := (s.writeReg bench off v.toNat 0xFFFFFFFF).1

end Sys2Proof.Machine
end

