-- ==== Sys2Proof/Machine/Operands.lean ====
section
/-!
DEFINITION. Machine/Operands.lean: pieces of a little-endian buffer, and the check functions the spec names (CRC-32C,
CRC-64/NVME, the 16-bit guard); their polynomials are the standards' (PRESUMED, log entry 22).
-/

namespace Sys2Proof.Machine

/-- n bytes of a little-endian buffer from byte o on. -/
def bytesAt (buf o n : Nat) : Nat := buf / 2 ^ (8 * o) % 2 ^ (8 * n)

/-- Bits hi to lo of a number. -/
def bits (x hi lo : Nat) : Nat := x / 2 ^ lo % 2 ^ (hi + 1 - lo)

/-- Place n bytes of a value at byte o of a buffer that holds zero there. -/
def putAt (o n v : Nat) : Nat := v % 2 ^ (8 * n) * 2 ^ (8 * o)

/-- Replace n bytes at byte o of a buffer. -/
def spliceAt (buf o n v : Nat) : Nat := buf - bytesAt buf o n * 2 ^ (8 * o) + putAt o n v

/-- The bytes of a number, least significant first. -/
def toBytes (v : Nat) : Nat → List Nat
  | 0 => []
  | n + 1 => v % 256 :: toBytes (v / 256) n

/-- One bit of a reflected CRC: the polynomial comes in where the bit shifted out is 1. -/
def crcBit (poly c : Nat) : Nat := c / 2 ^^^ poly * (c % 2)

/-- Eight bits of a reflected CRC after a byte. -/
def crcByte (poly c b : Nat) : Nat := (List.range 8).foldl (fun c _ => crcBit poly c) (c ^^^ b)

/-- A reflected CRC register taken over bytes; matching on it has the kernel evaluate it byte by byte. -/
def crcOver (poly : Nat) : List Nat → Nat → Nat
  | [], c => c
  | b :: bs, 0 => crcOver poly bs (crcByte poly 0 b)
  | b :: bs, c + 1 => crcOver poly bs (crcByte poly (c + 1) b)

/-- A reflected CRC with all-ones start and final inversion. -/
def crcRefl (width poly : Nat) (bs : List Nat) : Nat := crcOver poly bs (2 ^ width - 1) ^^^ (2 ^ width - 1)

/-- CRC-32C (R379, Table TLY-2, Table LOG-3). -/
def crc32c (bs : List Nat) : Nat := crcRefl 32 0x82F63B78 bs

/-- CRC-64/NVME (R169). -/
def crc64 (bs : List Nat) : Nat := crcRefl 64 0x9A6C9329AC4BC9B5 bs

/-- One bit of the 16-bit guard. -/
def crc16Bit (c : Nat) : Nat := c * 2 % 65536 ^^^ 0x8BB7 * (c / 0x8000)

/-- The 16-bit guard of LBAF1 (R167). -/
def crc16 (bs : List Nat) : Nat :=
  bs.foldl (fun c b => (List.range 8).foldl (fun c _ => crc16Bit c) (c ^^^ (b * 256))) 0

/-- Rounded-up quotient; 0 for divisor 0. -/
def ceilDiv (a b : Nat) : Nat := if b = 0 then 0 else (a + b - 1) / b

/-- Bytes of protection information of a format (R167). -/
def piBytes (lbaf : Nat) : Nat := if lbaf = 1 then 8 else if lbaf = 2 then 16 else 0

/-- Reverse the bytes of an n-byte number: PI fields are big-endian on the wire. -/
def swapBytes (v n : Nat) : Nat := (toBytes v n).foldl (fun a b => a * 256 + b) 0

/-- Guard of a format over 4,096 bytes. -/
def piGuard (lbaf data : Nat) : Nat := if lbaf = 1 then crc16 (toBytes data 4096) else crc64 (toBytes data 4096)

/-- Guard, application tag and reference tag of stored protection information (R167): big-endian, guard first, then a
16-bit application tag, then the reference tag of 32 or 48 bits. -/
def piParts (lbaf pi : Nat) : Nat × Nat × Nat :=
  if lbaf = 1 then (swapBytes (bytesAt pi 0 2) 2, swapBytes (bytesAt pi 2 2) 2, swapBytes (bytesAt pi 4 4) 4)
  else (swapBytes (bytesAt pi 0 8) 8, swapBytes (bytesAt pi 8 2) 2, swapBytes (bytesAt pi 10 6) 6)

/-- Lay out protection information. -/
def piMake (lbaf guard app ref : Nat) : Nat :=
  if lbaf = 1 then putAt 0 2 (swapBytes guard 2) + putAt 2 2 (swapBytes app 2) + putAt 4 4 (swapBytes ref 4)
  else if lbaf = 2 then putAt 0 8 (swapBytes guard 8) + putAt 8 2 (swapBytes app 2) + putAt 10 6 (swapBytes ref 6)
  else 0

/-- Bits of a format's reference tag. -/
def refBits (lbaf : Nat) : Nat := if lbaf = 1 then 32 else 48

/-- The reference tag of an LBA: type 1 its low bits, type 3 all ones (R168, Table REB-4). -/
def refTag (lbaf pit lba : Nat) : Nat := if pit = 1 then lba % 2 ^ refBits lbaf else 2 ^ refBits lbaf - 1

/-- Protection information of a block the controller generates: its guard, an application tag, the tag of its LBA. -/
def piGen (lbaf pit data app lba : Nat) : Nat :=
  if lbaf = 0 then 0 else piMake lbaf (piGuard lbaf data) app (refTag lbaf pit lba)

/-- Protection information of a deallocated block (R170). -/
def piDealloc (lbaf : Nat) : Nat :=
  if lbaf = 0 then 0 else piMake lbaf (piGuard lbaf 0) 0xFFFF (2 ^ refBits lbaf - 1)

/-- A check failure of protection information: guard, application tag, reference tag. -/
inductive PiFail where
  | guard | app | ref
deriving DecidableEq, Repr

/-- Check protection information under PRCHK (R168). The escape values, an application tag of all ones (type 1) with a
reference tag of all ones as well (type 3), disable checking. -/
def piCheck (lbaf pit prchk lbat lbatm expRef : Nat) (b : Blk) : Option PiFail :=
  let (g, a, r) := piParts lbaf b.pi
  if lbaf = 0 || pit = 0 then none
  else if a = 0xFFFF && (pit == 1 || r == 2 ^ refBits lbaf - 1) then none
  else if hasBit prchk 2 && g != piGuard lbaf b.data then some .guard
  else if hasBit prchk 1 && (a &&& lbatm) != (lbat &&& lbatm) then some .app
  else if hasBit prchk 0 && pit == 1 && r != expRef % 2 ^ refBits lbaf then some .ref
  else none

/-- A block as it enters the controller, with its internal guard over its 4,096 bytes (R169). -/
def Blk.enter (data pi : Nat) : Blk := { data := data, pi := pi, guard := crc64 (toBytes data 4096) }

/-- Whether a block's internal guard holds (R169). -/
def Blk.sound (b : Blk) : Bool := b.guard == crc64 (toBytes b.data 4096)

/-- Split a buffer into n blocks of 4,096 bytes, each followed by its protection information when it carries it. -/
def splitBlocks (data n pib : Nat) : List Blk :=
  (List.range n).map fun i => .enter (bytesAt data (i * (4096 + pib)) 4096) (bytesAt data (i * (4096 + pib) + 4096) pib)

/-- Join blocks into one buffer, with or without their protection information. -/
def joinBlocks (l : List Blk) (pib : Nat) : Nat :=
  l.zipIdx.foldl (fun a p => a + putAt (p.2 * (4096 + pib)) 4096 p.1.data + putAt (p.2 * (4096 + pib) + 4096) pib p.1.pi) 0

/-! ### Bytes in wire order -/

/-- A big-endian number of bytes. -/
def beNat (l : List Nat) : Nat := l.foldl (fun a b => 256 * a + b % 256) 0

/-- A little-endian number of bytes. -/
def leNat (l : List Nat) : Nat := beNat l.reverse

/-- Bytes of a frame that is given as a little-endian number of its first bytes, as a number in wire order. -/
def wireField (head ofs n : Nat) : Nat := beNat (toBytes (head / 2 ^ (8 * ofs)) n)

/-- VID that the first bytes of a frame carry; 0 without an 802.1Q tag. -/
def wireVid (head : Nat) : Nat := if wireField head 12 2 = 0x8100 then wireField head 14 2 % 4096 else 0

end Sys2Proof.Machine
end

