-- ==== Sys2Proof/Machine/Aes.lean ====
section
/-!
DEFINITION. Machine/Aes.lean: AES-256 and its uses that the spec names: XTS (R342, R371), the counter mode and GCM (R345, R348), and key
wrap (R350, R595). The functions are those of FIPS 197, IEEE 1619-2018, NIST SP 800-38D and RFC 3394 (PRESUMED, log entry 142). A buffer
is a number whose byte 0 is the least significant.
-/

namespace Sys2Proof.Machine

/-! ### The block cipher (FIPS 197) -/

/-- The substitution of a byte and its inverse, as buffers of 256 bytes. -/
def aesSbox : Nat := 0x16bb54b00f2d99416842e6bf0d89a18cdf2855cee9871e9b948ed9691198f8e19e1dc186b95735610ef6034866b53e708a8bbd4b1f74dde8c6b4a61c2e2578ba08ae7a65eaf4566ca94ed58d6d37c8e779e4959162acd3c25c2406490a3a32e0db0b5ede14b8ee4688902a22dc4f816073195d643d7ea7c41744975fec130ccdd2f3ff1021dab6bcf5389d928f40a351a89f3c507f02f94585334d43fbaaefd0cf584c4a39becb6a5bb1fc20ed00d153842fe329b3d63b52a05a6e1b1a2c830975b227ebe28012079a059618c323c7041531d871f1e5a534ccf73f362693fdb7c072a49cafa2d4adf04759fa7dc982ca76abd7fe2b670130c56f6bf27b777c63
def aesInvSbox : Nat := 0x7d0c2155631469e126d677ba7e042b17619953833cbbebc8b0f52aae4d3be0a0ef9cc9939f7ae52d0d4ab519a97f51605fec8027591012b131c7078833a8dd1ff45acd78fec0db9a2079d2c64b3e56fc1bbe18aa0e62b76f89c5291d711af1476edf751ce837f9e28535ade72274ac9673e6b4f0cecff297eadc674f4111913a6b8a130103bdafc1020f3fca8f1e2cd00645b3b80558e4f70ad3bc8c00abd890849d8da75746155edab9edfd5048706c92b6655dcc5ca4d41698688664f6f87225d18b6d49a25b76b224d92866a12e084ec3fa420b954cee3d23c2a632947b54cbe9dec444438e3487ff2f9b8239e37cfbd7f3819ea340bf38a53630d56a0952

/-- A buffer's bytes substituted one by one. -/
def subBytes (box : Nat) (l : List Nat) : List Nat := l.map fun b => bytesAt box b 1

/-- Bytes as a buffer. -/
def fromBytes (l : List Nat) : Nat := l.foldr (fun b a => b + 256 * a) 0

/-- Exclusive or of two lists of bytes. -/
def xorBytes (a b : List Nat) : List Nat := a.zipWith (· ^^^ ·) b

/-- Multiply by x in GF(2^8) with 0x11B. -/
def xtime (b : Nat) : Nat := if b < 128 then 2 * b else (2 * b - 256) ^^^ 0x1B

/-- One column mixed. -/
def mixCol : List Nat → List Nat
  | [a, b, c, d] => [xtime a ^^^ (xtime b ^^^ b) ^^^ c ^^^ d, a ^^^ xtime b ^^^ (xtime c ^^^ c) ^^^ d,
                     a ^^^ b ^^^ xtime c ^^^ (xtime d ^^^ d), (xtime a ^^^ a) ^^^ b ^^^ c ^^^ xtime d]
  | l => l

/-- The four columns of a block, each through a function. -/
def eachCol (f : List Nat → List Nat) (l : List Nat) : List Nat :=
  f (l.take 4) ++ f ((l.drop 4).take 4) ++ f ((l.drop 8).take 4) ++ f ((l.drop 12).take 4)

/-- Byte i of a block comes from byte (5 i) mod 16 when rows are shifted, from byte (13 i) mod 16 when they are shifted back. -/
def shiftBy (k : Nat) (l : List Nat) : List Nat := (List.range 16).map fun i => l.getD (k * i % 16) 0

/-- The inverse of a column's mixing: the mixing itself after a first step. -/
def unmixCol : List Nat → List Nat
  | [a, b, c, d] =>
    let u := xtime (xtime (a ^^^ c))
    let v := xtime (xtime (b ^^^ d))
    mixCol [a ^^^ u, b ^^^ v, c ^^^ u, d ^^^ v]
  | l => l

/-- The next eight words of the key schedule. -/
def keyStep (rc : Nat) (k : List Nat) : List Nat :=
  let w := fun i => (k.drop (4 * i)).take 4
  let sub := subBytes aesSbox
  let t := sub ((w 7).drop 1 ++ (w 7).take 1)
  let w0 := xorBytes (xorBytes (w 0) t) [rc, 0, 0, 0]
  let w1 := xorBytes (w 1) w0
  let w2 := xorBytes (w 2) w1
  let w3 := xorBytes (w 3) w2
  let w4 := xorBytes (w 4) (sub w3)
  let w5 := xorBytes (w 5) w4
  let w6 := xorBytes (w 6) w5
  w0 ++ w1 ++ w2 ++ w3 ++ w4 ++ w5 ++ w6 ++ xorBytes (w 7) w6

/-- The key schedule from a step on, two round keys each. -/
def keyRounds : Nat → Nat → List Nat → List (List Nat)
  | 0, _, k => [k.take 16]
  | n + 1, rc, k => k.take 16 :: k.drop 16 :: keyRounds n (xtime rc) (keyStep rc k)

/-- The 15 round keys of a 256-bit key. -/
def roundKeys (key : Nat) : List (List Nat) := keyRounds 7 1 (toBytes key 32)

/-- The rounds after the first key. -/
def aesRounds : List (List Nat) → List Nat → List Nat
  | [], l => l
  | [k], l => xorBytes k (shiftBy 5 (subBytes aesSbox l))
  | k :: rest, l => aesRounds rest (xorBytes k (eachCol mixCol (shiftBy 5 (subBytes aesSbox l))))

/-- Encrypt a block under round keys. -/
def aesWith (ks : List (List Nat)) (b : Nat) : Nat :=
  match ks with
  | k :: rest => fromBytes (aesRounds rest (xorBytes k (toBytes b 16)))
  | [] => b

/-- The rounds of decryption, last round key first. -/
def unRounds : List (List Nat) → List Nat → List Nat
  | [], l => l
  | [k], l => xorBytes k l
  | k :: rest, l => unRounds rest (subBytes aesInvSbox (shiftBy 13 (eachCol unmixCol (xorBytes k l))))

/-- Decrypt a block under round keys. -/
def unaesWith (ks : List (List Nat)) (b : Nat) : Nat :=
  match ks.reverse with
  | k :: rest => fromBytes (unRounds rest (subBytes aesInvSbox (shiftBy 13 (xorBytes k (toBytes b 16)))))
  | [] => b

/-- AES-256 of one block. -/
def aesEnc (key b : Nat) : Nat := aesWith (roundKeys key) b

/-! ### XTS (R342, R371) -/

/-- The next tweak of a data unit: multiplied by x in GF(2^128). -/
def xtsDouble (t : Nat) : Nat := if t < 2 ^ 127 then 2 * t else (2 * t - 2 ^ 128) ^^^ 0x87

/-- Blocks of a data unit from a tweak on, through a cipher. -/
def xtsBlocks (f : Nat → Nat) : Nat → Nat → Nat → Nat
  | 0, _, _ => 0
  | n + 1, t, d => (f (d % 2 ^ 128 ^^^ t) ^^^ t) + 2 ^ 128 * xtsBlocks f n (xtsDouble t) (d / 2 ^ 128)

/-- Encrypt a data unit of n 16-byte blocks: Key1 is the low half of the key, Key2 the high half. -/
def xtsEnc (key tweak n data : Nat) : Nat := xtsBlocks (aesWith (roundKeys (bytesAt key 0 32))) n (aesEnc (bytesAt key 32 32) tweak) data

/-- Decrypt a data unit. -/
def xtsDec (key tweak n data : Nat) : Nat := xtsBlocks (unaesWith (roundKeys (bytesAt key 0 32))) n (aesEnc (bytesAt key 32 32) tweak) data

/-- The tweak of a block of a namespace (R342): LBA, NSID and NSGEN. -/
def xtsTweak (nsid gen lba : Nat) : Nat := putAt 0 8 (lba % 2 ^ 48) + putAt 8 4 nsid + putAt 12 2 gen

/-! ### Counter mode and GCM (R345, R348) -/

/-- A keystream over counter blocks that a function numbers. -/
def ctrStream (ks : List (List Nat)) (ctr : Nat → Nat) (len : Nat) : Nat :=
  ((List.range (ceilDiv len 16)).foldl (fun a u => a + putAt (16 * u) 16 (aesWith ks (ctr u))) 0) % 2 ^ (8 * len)

/-- The counter block of body unit u of a tally record, big-endian (R348). -/
def tallyCtr (wseq u : Nat) : Nat := putAt 0 8 (swapBytes wseq 8) + putAt 12 4 (swapBytes u 4)

/-- The body of a tally record under the tally key: the same operation encrypts and decrypts. -/
def ctrBody (key wseq len data : Nat) : Nat := data % 2 ^ (8 * len) ^^^ ctrStream (roundKeys key) (tallyCtr wseq) len

/-- The counter block i of GCM under an IV of 12 bytes: block 1 is J0. -/
def gcmCtr (iv i : Nat) : Nat := putAt 0 12 iv + putAt 12 4 (swapBytes i 4)

/-- The sum in GCM's field of v times the lower n bits of x, most significant first, and z. -/
def ghashBits (x : Nat) : Nat → Nat → Nat → Nat
  | 0, z, _ => z
  | n + 1, z, v => ghashBits x n (z ^^^ v * (x / 2 ^ n % 2)) (v / 2 ^^^ 0xE1 * 2 ^ 120 * (v % 2))

/-- A product in GCM's field: bit 0 of an element is its most significant bit. -/
def ghashMul (x h : Nat) : Nat := ghashBits x 128 0 h

/-- Take the 16-byte units of a buffer into GHASH. -/
def ghashOver (h y len data : Nat) : Nat :=
  (List.range (ceilDiv len 16)).foldl (fun y u => ghashMul (y ^^^ swapBytes (bytesAt data (16 * u) 16) 16) h) y

/-- The tag of a ciphertext with its associated data. -/
def gcmTag (key iv aadLen aad len ct : Nat) : Nat :=
  let ks := roundKeys key
  let h := swapBytes (aesWith ks 0) 16
  let y := ghashOver h (ghashOver h 0 aadLen aad) len ct
  aesWith ks (gcmCtr iv 1) ^^^ swapBytes (ghashMul (y ^^^ (8 * aadLen * 2 ^ 64 + 8 * len)) h) 16

/-- The text of a GCM operation: encryption and decryption are the same. -/
def gcmText (key iv len data : Nat) : Nat := data % 2 ^ (8 * len) ^^^ ctrStream (roundKeys key) (fun u => gcmCtr iv (u + 2)) len

/-! ### Key wrap (R350, R595) -/

/-- One step of RFC 3394 over the register A and the n words R. -/
def wrapStep (ks : List (List Nat)) (n : Nat) (p : Nat × List Nat) (t : Nat) : Nat × List Nat :=
  let i := (t - 1) % n
  let b := aesWith ks (p.1 + 2 ^ 64 * p.2.getD i 0)
  (b % 2 ^ 64 ^^^ swapBytes t 8, p.2.set i (b / 2 ^ 64))

/-- The wrap of a key of n 8-byte words, 8 bytes longer than the key. -/
def keyWrap (kek n key : Nat) : Nat :=
  let ks := roundKeys kek
  let (a, r) := ((List.range (6 * n)).map (· + 1)).foldl (wrapStep ks n) (0xA6A6A6A6A6A6A6A6, (List.range n).map fun i => bytesAt key (8 * i) 8)
  (a :: r).zipIdx.foldl (fun s p => s + putAt (8 * p.2) 8 p.1) 0

/-- One step back. -/
def unwrapStep (ks : List (List Nat)) (n : Nat) (p : Nat × List Nat) (t : Nat) : Nat × List Nat :=
  let i := (t - 1) % n
  let b := unaesWith ks ((p.1 ^^^ swapBytes t 8) + 2 ^ 64 * p.2.getD i 0)
  (b % 2 ^ 64, p.2.set i (b / 2 ^ 64))

/-- The key of a wrap of n words, none when the integrity value fails. -/
def keyUnwrap (kek n wrap : Nat) : Option Nat :=
  let ks := roundKeys kek
  let (a, r) := (((List.range (6 * n)).map (· + 1)).reverse).foldl (unwrapStep ks n) (bytesAt wrap 0 8, (List.range n).map fun i => bytesAt wrap (8 + 8 * i) 8)
  if a = 0xA6A6A6A6A6A6A6A6 then some (r.zipIdx.foldl (fun s p => s + putAt (8 * p.2) 8 p.1) 0) else none

end Sys2Proof.Machine
end

