-- ==== Sys2Proof/Machine/Ether.lean ====
section
/-!
DEFINITION. Machine/Ether.lean: the Ethernet ports: modes and MACs (R428 to R430), statistics (R445), received and sent pause
(R436 to R439), Low Power Idle (R440, R441) and timestamps (R443, R444).
-/

namespace Sys2Proof.Machine

/-! ### MACs -/

/-- Mode in force at the port of a MAC (R430). -/
def State.modeOf (s : State) (m : Nat) : Nat := (s.eports.getD (m / 4) EthPort.cold).mode

/-- Whether a mode uses a sub-port (Table ETH-1). -/
def modeHas (mode sub : Nat) : Bool :=
  match mode with
  | 1 => sub == 0 | 2 => sub < 2 | 3 => sub < 4 | 4 => sub == 0 | _ => false

/-- Whether a MAC exists: its port's mode uses the sub-port and its bench is in service. -/
def State.hasMac (s : State) (m : Nat) : Bool :=
  m < 32 && modeHas (s.modeOf m) (subOf m) && (s.benchAt (prtOf m)).inService

/-- Rate of a MAC in Gb/s. -/
def State.macRate (s : State) (m : Nat) : Nat :=
  match s.modeOf m with | 1 => 400 | 2 => 200 | _ => 100

/-- Whether a MAC's link is up. -/
def State.linkUp (s : State) (m : Nat) : Bool := m < 32 && hasBit (s.rd (F.PRT_STAT_LINK (prtOf m))) (subOf m)

def State.mac (s : State) (m : Nat) : Mac := s.macs.getD m Mac.cold
def State.updMac (s : State) (m : Nat) (f : Mac → Mac) : State := { s with macs := s.macs.modify m f }
def State.updEth (s : State) (n : Nat) (f : EthPort → EthPort) : State := { s with eports := s.eports.modify n f }

/-- Take up the configured mode of a port at a load of its bench (R428, R430): an undefined one counts as 0 and is reported. -/
def State.loadMode (s : State) (b : Nat) : State :=
  let v := s.rd (F.PRT_MODE_MODE b)
  let s := s.updEth (b - 8) fun e => { e with mode := if v < 5 then v else 0 }
  if v < 5 then s else s.raise b 4 ERROR 1 v

/-- Lanes of a MAC in a mode, and their signalling rate in units of 3.125 Mb/s (Table ETH-1). -/
def modeLanes (mode sub : Nat) : List Nat :=
  match mode with
  | 1 => [0, 1, 2, 3] | 2 => [2 * sub, 2 * sub + 1] | 3 => [sub] | 4 => [0, 1, 2, 3] | _ => []
def modeLaneRate (mode : Nat) : Nat := if mode = 4 then 8250 else if mode = 0 || 4 < mode then 0 else 34000

/-- Data and total symbols of the FEC codewords of a MAC: RS(544,514), RS(528,514) in mode 4 while FEC_NRZ is 1, none while it is 0. -/
def State.macFec (s : State) (m : Nat) : Option (Nat × Nat) :=
  match s.modeOf m with
  | 4 => if s.isSet (F.PRT_MODE_FEC_NRZ (prtOf m)) then some (528, 514) else none
  | 0 => none
  | _ => some (544, 514)

/-- A medium of Table ETH-1. -/
inductive Medium802 where
  | cr | kr | c2m
deriving DecidableEq, Repr

/-- Medium of a MAC, by MEDIA; mode 4 has no C2M in Table ETH-1 (log entry 155). -/
def State.macMedium (s : State) (m : Nat) : Medium802 :=
  match s.rd (F.PRT_MODE_MEDIA (prtOf m)) with | 0 => .cr | 1 => .kr | _ => .c2m

/-- The technology a MAC runs, which is the only one it advertises (R429): rate in Gb/s, medium, lanes; none where the mode has none. -/
def State.technology (s : State) (m : Nat) : Option (Nat × Medium802 × Nat) :=
  if s.hasMac m then some (s.macRate m, s.macMedium m, (modeLanes (s.modeOf m) (subOf m)).length) else none

/-! ### Statistics (R445) -/

/-- A statistic of a MAC. -/
def State.stat (s : State) (m i : Nat) : Nat :=
  match s.prtStat.find? fun p => p.1 == 16 * m + i with
  | some p => p.2
  | none => 0

/-- Set a statistic; a count of 0 is not listed. -/
def State.setStat (s : State) (m i v : Nat) : State :=
  let rest := s.prtStat.filter fun p => p.1 != 16 * m + i
  { s with prtStat := if v % 2 ^ 64 = 0 then rest else (16 * m + i, v % 2 ^ 64) :: rest }

/-- Count in a statistic of a MAC. -/
def State.addStat (s : State) (m i n : Nat) : State := s.setStat m i (s.stat m i + n)

/-- Add the whole microseconds of transmit LPI so far (Table ETH-3, i = 14); the rest stays to be counted. -/
def State.lpiAccrue (s : State) (m : Nat) : State :=
  match (s.mac m).lpi with
  | none => s
  | some t =>
    let us := (s.now - t) / usU 1
    (s.addStat m 14 us).updMac m fun x => { x with lpi := some (t + usU us) }

/-- A read of a statistic on a path (R445, R609): a read of _LO returns the low half, latches the high half for the path and
clears the count for every path; a read of _HI returns the latched half. A sub-port without a MAC reads 0. -/
def State.statRead (s : State) (path m i : Nat) (hi : Bool) : State × Nat :=
  let key := (prtOf m) * 0x100000 + 0x1404 + 0x100 * subOf m + 8 * i
  if !s.hasMac m then (s, 0)
  else if hi then (s, s.latched path key)
  else
    let s := s.lpiAccrue m
    let v := s.stat m i
    ((s.latch path key (v / 2 ^ 32)).setStat m i 0, v % 2 ^ 32)

/-- PRT_STAT_READ (R445). -/
def execPrtStatRead (path port sub i : Nat) (hi : Bool) (s : State) : Host.Outcome State Fault Refusal :=
  .next <|
    if !(port < 8 && sub < 4 && i < 16) then s
    else if s.reloading (8 + port) then s.holdAccess (.read path ((8 + port) * 0x100000 + 0x1400 + 0x100 * sub + 8 * i + 4 * bit hi))
    else let (s, v) := s.statRead path (4 * port + sub) i hi; s.send (.value v)

/-! ### Received pause (R436, R437, R439) -/

/-- The pause class of a frame's class: 8 in mode 1, where all classes are one. -/
def State.flowClass (s : State) (m c : Nat) : Nat := if s.fcMode m = 1 then 8 else c

/-- Quanta as a time in units: 512 bit times each at the MAC's rate. -/
def State.quantaTime (s : State) (m q : Nat) : Nat := q * 2048 / s.macRate m

/-- Whether received pause stops a class. -/
def State.stopped (s : State) (m c : Nat) : Bool :=
  (s.mac m).stops.any fun p => p.cls == s.flowClass m c && s.now < p.until_

/-- A received pause of a class: quanta 0 releases it, others replace the remaining time; ignored under the watchdog. -/
def State.takePause (s : State) (m c q : Nat) : State :=
  if (s.mac m).ignore.any fun p => p.1 == c then s else
  let old := (s.mac m).stops.find? fun p => p.cls == c && s.now < p.until_
  s.updMac m fun x =>
    let rest := x.stops.filter fun p => p.cls != c
    if q % 65536 = 0 then { x with stops := rest }
    else
      let p : PauseStop := {
        cls := c, since := (old.map fun o => o.since).getD s.now, until_ := s.now + s.quantaTime m (q % 65536) }
      { x with stops := p :: rest }

/-- PAUSE_FRAME (R436, R437). -/
def execPauseFrame (mac quanta : Nat) (s : State) : Host.Outcome State Fault Refusal :=
  .next <|
    if !s.linkUp mac then s else
    let s := s.addStat mac 6 1
    if s.fcMode mac = 1 then s.takePause mac 8 quanta else s

/-- PFC_FRAME (R436, R437): the classes whose enable bit the frame carries, each with its quanta. -/
def execPfcFrame (mac : Nat) (quanta : List (Nat × Nat)) (s : State) : Host.Outcome State Fault Refusal :=
  .next <|
    if !s.linkUp mac then s else
    let s := s.addStat mac 6 1
    if s.fcMode mac = 2 then
      quanta.foldl (fun s q =>
        if q.1 < 8 && hasBit (s.rd (F.PRT_MACCFG_PFC_EN (prtOf mac) (subOf mac))) q.1 then s.takePause mac q.1 q.2 else s) s
    else s

/-- PAUSE_TIME_EXPIRY (R437). -/
def execPauseTimeExpiry (mac cls : Nat) (s : State) : Host.Outcome State Fault Refusal :=
  .next (s.updMac mac fun x => { x with stops := x.stops.filter fun p => !(p.cls == cls && s.due p.until_) })

/-- Since when a class has been stopped long enough to be stuck (R439). -/
def State.stuck (s : State) (m c : Nat) : Bool :=
  s.isSet (F.PRT_PFC_WD_WD_EN (prtOf m)) &&
    (s.mac m).stops.any fun p =>
      p.cls == c && p.since + msU (s.rd (F.PRT_PFC_WD_WD_DETECT_MS (prtOf m))) ≤ min s.now p.until_

/-- Event data of a MAC and class (Table ETH-10, local 7). -/
def macClass (m c : Nat) : Nat := m + (if c < 8 then c else 0) * 256

/-- PFC_WATCHDOG_RESTORE (R439). -/
def execPfcWatchdogRestore (mac cls : Nat) (s : State) : Host.Outcome State Fault Refusal :=
  .next <|
    if (s.mac mac).ignore.any fun p => p.1 == cls && s.due p.2 then
      (s.updMac mac fun x => { x with ignore := x.ignore.filter fun p => p.1 != cls }).raise (prtOf mac) 8 INFO 5 (macClass mac cls)
    else s

/-! ### Low Power Idle (R440, R441) -/

/-- Transmit wake time in force: the 802.3 default of the PHY until an exchange completes (R441). -/
def State.twTx (s : State) (m : Nat) : Nat := (s.mac m).tw.getD (Config.keyed .unstated [441, 0])

/-- Leave transmit LPI, for a frame to be sent; a wake time agreed meanwhile takes effect, and the frame goes after it (R440, R441). -/
def State.leaveLpi (s : State) (m : Nat) : State :=
  match (s.mac m).lpi with
  | none => s
  | some _ =>
    let s := s.lpiAccrue m
    let s := s.updMac m fun x => { x with lpi := none, tw := if x.twNext.isSome then x.twNext else x.tw, twNext := none }
    let s := s.updMac m fun x => { x with wake := s.now + usU (s.twTx m) }
    s.wr (F.PRT_STAT_LPI_TX (prtOf m)) 0

/-- LLDP_EEE_TLV (R441): Tw_tx becomes the larger of the partner's receive wake time and the 802.3 minimum. -/
def execLldpEeeTlv (mac rxTw : Nat) (s : State) : Host.Outcome State Fault Refusal :=
  .next <|
    if !s.linkUp mac then s else
    let s := s.send (.lldpWake mac (s.rd (F.PRT_LPI_LPI_RX_TW (prtOf mac))))
    let tw := max rxTw (Config.keyed .unstated [441, 1])
    let cur := (s.mac mac).twNext.getD (s.twTx mac)
    if tw = cur then s.updMac mac fun x => if x.twNext.isNone then { x with tw := some tw } else x
    else (s.updMac mac fun x => { x with twNext := some tw }).raise (prtOf mac) 10 INFO 7 (mac + 65536 * (tw % 65536))

/-! ### Sending pause (R438) -/

/-- Send a pause or PFC frame; it wakes the link like any other (R440), and its wake time is left out (log entry 156). -/
def State.sendPause (s : State) (m c q : Nat) : State :=
  if !s.linkUp m then s else
  (((s.leaveLpi m).updMac m fun x => { x with idleSince := s.now }).addStat m 9 1).send (.pause m c q)

def State.txQuanta (s : State) (m : Nat) : Nat := s.rd (F.PRT_FCTX_TX_QUANTA (prtOf m) (subOf m))

/-- Bring what the port sends in line with the classes SWC asks to pause (R438, R462): a new one is sent at once, one no
longer asked for is released with quanta 0. -/
def State.syncAsks (s : State) (m : Nat) : State :=
  let want : List Nat := if (s.mac m).asked = [] then [] else if s.fcMode m = 1 then [8] else (s.mac m).asked
  let old := (s.mac m).asks
  let s := s.updMac m fun x => { x with asks := x.asks.filter fun a => want.contains a.cls }
  let s := (old.filter fun a => !want.contains a.cls).foldl (fun (s : State) a => s.sendPause m a.cls 0) s
  (want.filter fun c => !old.any fun a => a.cls == c).foldl (fun (s : State) c =>
    (s.updMac m fun x =>
      { x with asks := PauseAsk.mk c s.now s.now false :: x.asks }).sendPause m c (s.txQuanta m)) s

/-- PAUSE_REPEAT_TIMER (R438). -/
def execPauseRepeatTimer (mac cls : Nat) (s : State) : Host.Outcome State Fault Refusal :=
  .next <|
    if (s.mac mac).asks.any fun a => a.cls == cls && !a.capped && s.due (a.sentAt + s.quantaTime mac (s.txQuanta mac) / 2) then
      (s.updMac mac fun x =>
        { x with asks := mapIf (fun a => a.cls == cls) (fun a => { a with sentAt := s.now }) x.asks }).sendPause mac cls (s.txQuanta mac)
    else s

/-- PAUSE_SEND_CAP (R438). -/
def execPauseSendCap (mac cls : Nat) (s : State) : Host.Outcome State Fault Refusal :=
  .next <|
    let cap := msU (s.rd (F.PRT_FCTX_TX_MAX_MS (prtOf mac) (subOf mac)))
    if (s.mac mac).asks.any fun a => a.cls == cls && !a.capped && s.due (a.since + cap) then
      (s.updMac mac fun x =>
        { x with asks := mapIf (fun a => a.cls == cls) (fun a => { a with capped := true }) x.asks }).raise
          (prtOf mac) 9 NOTICE 6 (macClass mac cls)
    else s

/-! ### Timestamps (R443, R444) -/

/-- Local time of a MAC's bench (R37) with a signed adjustment in units. -/
def State.stampAt (s : State) (m adj : Nat) : Int := s.localTime (prtOf m) + signedOf 16 adj

/-- Whether a frame carries a PTP event message (R443). -/
def isPtpEvent (etype : Nat) (ip : Option IpHdr) : Bool :=
  etype == 0x88F7 || (match ip with | some h => h.proto == 17 && h.dport == 319 && !h.later | none => false)

/-- Stamp a transmitted event message (R444): a two-step stamp enters the queue of 64 or is dropped; a one-step message
has the time written in. A one-step message over IPv6 without its two bytes is sent two-step. -/
def State.stampTx (s : State) (m : Nat) (p : PtpTx) : State :=
  let t := s.stampAt m (s.rd (F.PRT_TS_ADJ_TX_ADJ (prtOf m)))
  if p.twoStep || (p.v6 && !p.pad) then
    let e := s.eports.getD (m / 4) EthPort.cold
    if e.stamps.length < 64 then s.updEth (m / 4) fun e => { e with stamps := e.stamps ++ [(m, p.seqId, t.toNat)] }
    else if (match e.stampNotice with | some n => s.due (n + msU 1) | none => true) then
      (s.updEth (m / 4) fun e => { e with stampNotice := some s.now }).raise (prtOf m) 11 NOTICE 8 m
    else s
  else s.send (.ptpOneStep m t)

end Sys2Proof.Machine
end

