-- ==== Sys2Proof/Machine/Buffer.lean ====
section
/-!
DEFINITION. Machine/Buffer.lean: the packet buffer of the switch core: its cells and what SWC asks of the MACs (R461, R462), the control
port's policers (R459), and sampling (R466, R467).
-/

namespace Sys2Proof.Machine

/-! ### Occupancy (R461, R462) -/

/-- Cells of the frames that pass a test. -/
def State.cellsOf (s : State) (p : SwFrame → Bool) : Nat := ((s.swq.filter p).map fun f => f.cells).sum
def State.egress (s : State) (o c : Nat) : Nat := s.cellsOf fun f => f.output == o && f.cls == c
def State.ingress (s : State) (i c : Nat) : Nat := s.cellsOf fun f => f.input == i && f.cls == c

/-- Shared cells that are free (R461). -/
def State.sharedFree (s : State) : Nat := 196608 - s.reservedCells - s.cellsOf fun f => f.pool == .shared

/-- Bring SWC_STAT.CELLS_USED in line with the buffer. -/
def State.syncCells (s : State) : State := s.wr F.SWC_STAT_CELLS_USED (s.cellsOf fun _ => true)

/-- Bring what SWC asks of a MAC in line with its ingress (R462). -/
def State.syncXoff (s : State) (m : Nat) : State :=
  if 32 ≤ m then s else
  let asked := (List.range 8).filter fun c =>
    let p := s.profOf m c
    let q := s.ingress m c
    s.lossless m c && (16 * s.rd (F.SWC_BPROF_B_XOFF p) ≤ q ||
      ((s.mac m).asked.contains c && 16 * s.rd (F.SWC_BPROF_B_XON p) < q))
  if asked == (s.mac m).asked then s else (s.updMac m fun x => { x with asked := asked }).syncAsks m

/-- Take frames out of the buffer; their cells are free and pauses are released (R462). -/
def State.freeFrames (s : State) (p : SwFrame → Bool) : State :=
  let inputs := ((s.swq.filter p).map fun f => f.input).dedup
  let s : State := { s with swq := s.swq.filter fun f => !p f }
  inputs.foldl State.syncXoff s.syncCells

/-! ### Sampling and the control port (R459, R466, R467) -/

/-- Whether a control queue has room for a frame in its rate: KFPS frames in each 1 ms (log entry 52). -/
def State.police (s : State) (q : Nat) : Bool × State :=
  let l := s.policed.filter fun p => !s.due (p.2 + msU 1)
  let n := (l.filter fun p => p.1 == q).length
  if n < s.rd (F.SWC_CPOL_KFPS q) then (true, { s with policed := (q, s.now) :: l }) else (false, { s with policed := l })

/-- Sample a frame at a switch port with probability 1/n once its fate is known. -/
def State.sampleAt (s : State) (n : Nat) (r : Sample) : State :=
  if n = 0 then s else
  let (x, s) := s.draw .random n
  if x != 0 then s else
  let (ok, s) := s.police 3
  if ok then
    let s := s.wr64 F.CTL_SAMP_TOTAL_LO F.CTL_SAMP_TOTAL_HI ((s.rd64 F.CTL_SAMP_TOTAL_LO F.CTL_SAMP_TOTAL_HI + 1) % 2 ^ 64)
    ({ s with samples := (r :: s.samples).take 1024 }).bump F.SWC_SAMPLES
  else s.bump F.SWC_SAMP_DROP

/-- Sample record of a frame with its fate (Table SWC-5). -/
def sampleOf (port : Nat) (tx : Bool) (time cls col : Nat) (ce : Bool) (fate out len head : Nat) : Sample :=
  { time := time, port := port, flags := bit tx + 2 * cls + 16 * col + 64 * bit ce, fate := fate, out := out, len := len,
    caplen := min len 128, data := head % 2 ^ (8 * min len 128) }

/-- A frame leaves the buffer at a switch port: a sample of what the port transmits (R466). -/
def State.sampleSent (s : State) (f : SwFrame) : State :=
  s.sampleAt (s.rd (F.SWC_SAMP_TX_N f.output)) (sampleOf f.output true f.time f.cls f.colour f.ce 0 f.output f.len f.head)

end Sys2Proof.Machine
end

