-- ==== Sys2Proof/Machine/Bench.lean ====
section
/-!
DEFINITION. Machine/Bench.lean: flits (R14 to R17, R27, R28), detection failures (R22 to R24), bench states (R26),
rotation and fault takeover (R29 to R33, R673).
-/

namespace Sys2Proof.Machine

/-! ### Bench states and maps -/

/-- Change a bench's state and raise its common source 0 (Table ARC-6). -/
def State.setBenchState (s : State) (b : Nat) (st : BenchState) : State :=
  let old := (s.benchAt b).state.code
  (s.updBench b fun x => { x with state := st }).raise b 0 INFO 1 (old + 256 * st.code)

/-- The instances of a class in a state. -/
def State.instIn (s : State) (c : Nat) (st : BenchState) : List Nat :=
  (List.range (s.instCount c)).filter fun i => (s.benchAt (instBench c i)).state == st

/-- The SPARE instance of a class with the lowest index. -/
def State.spareOf (s : State) (c : Nat) : Option Nat := (s.instIn c .spare).head?

/-- Nibble of CTL_ROLE_MAPc for role r. -/
def roleMapFld (c r : Nat) : Fld := ⟨0x2010 + 4 * c, 4 * r + 3, 4 * r⟩

/-- Nibble of CTL_SPARE_MAP for class c. -/
def spareMapFld (c : Nat) : Fld := ⟨0x2008, 4 * c + 3, 4 * c⟩

/-- Bring CTL_ROLE_MAPc, CTL_SPARE_MAP and CTL_ROT_STAT.NOSPARE in line with the instances of a class (R32, R33). A role
that no instance is bound to reads 0xF (DESIGN CHOICE, log entry 105). -/
def State.refreshMaps (s : State) (c : Nat) : State :=
  let s := (List.range 8).foldl (fun (s : State) r =>
    s.wr (roleMapFld c r) (match if r < s.roleCount c then s.boundBench c r else none with | some b => b - classFirst.getD c 63 | none => 0xF)) s
  let s := s.wr (spareMapFld c) ((s.spareOf c).getD 0xF)
  s.setBit F.CTL_ROT_STAT_NOSPARE c (s.spareOf c).isNone

/-- Change the rotation record of a class. -/
def State.updRot (s : State) (c : Nat) (f : Rotation → Rotation) : State := { s with rot := s.rot.modify c f }

/-- The rotation record of a class. -/
def State.rotAt (s : State) (c : Nat) : Rotation := s.rot.getD c Rotation.cold

/-! ### Lanes and flits -/

/-- Lanes per direction between two benches, by the first row of Table ARC-2 that names the pair; 0 where no channel runs. -/
def bundleOf (a b : Nat) : Nat :=
  let cls := fun x => (classInst x).map (·.1)
  let one := fun x y =>
    if 8 ≤ x && x < 16 && y = 16 then 1
    else if y = 16 && cls x = some 0 then 2
    else if y = 16 && (cls x = some 4 || cls x = some 5 || (51 ≤ x && x < 57)) then 2
    else if y = 16 && x = 6 then 2
    else if y = 16 && x = 7 then 3
    else if y = 16 && x = 4 then 6
    else if cls x = some 0 && cls y = some 1 then 1
    else if (cls x = some 1 && cls y = some 2) || (cls x = some 2 && cls y = some 3) || (cls x = some 3 && cls y = some 4) then 1
    else if x = 5 && (cls y = some 1 || cls y = some 2 || y = 7) then 1
    else if x < 57 && y = 0 && x != 0 then 1
    else 0
  max (one a b) (one b a)

/-- Whether a lane is one of Table ARC-2. -/
def laneListed (l : Lane) : Bool := l.num < bundleOf l.src l.dst

/-- A lane's state; one that has carried nothing is empty and in service. -/
def State.laneAt (s : State) (l : Lane) : LaneState :=
  (s.lanes.find? fun x => x.lane == l).getD
    { lane := l, outOfService := false, request := [], response := [], waiting := [] }

/-- Put back a lane's state. -/
def State.setLane (s : State) (x : LaneState) : State :=
  { s with lanes := x :: s.lanes.filter fun y => y.lane != x.lane }

/-- The FIFO of a virtual channel. -/
def LaneState.fifo (x : LaneState) (v : Vc) : List Flit := match v with | .request => x.request | .response => x.response

/-- Replace the FIFO of a virtual channel. -/
def LaneState.setFifo (x : LaneState) (v : Vc) (l : List Flit) : LaneState :=
  match v with | .request => { x with request := l } | .response => { x with response := l }

/-- Whether two flits are copies of one: the same channel, destination and role sequence number. -/
def sameFlit (f g : Flit) : Bool := f.chan == g.chan && f.dest == g.dest && f.seq == g.seq

/-- What a bench sends as (R27): the role it is bound to, else itself. -/
def State.senderOf (s : State) (b : Nat) : FlitDest :=
  match classInst b, (s.benchAt b).role with
  | some (c, _), some r => .role c r
  | _, _ => .bench b

/-- A receiver's record of a channel; none before its first flit. -/
def State.chanEnd (s : State) (src : FlitDest) (f : Flit) : Option ChanEnd :=
  s.chans.find? fun e => e.src == src && e.chan == f.chan && e.dest == f.dest

/-- Whether a role sequence number was accepted before: behind the next one modulo 2^16 and not among those missing. DEDUCED
(log entry 9). -/
def ChanEnd.accepted (e : ChanEnd) (seq : Nat) : Bool :=
  let d := (e.next + 65536 - seq % 65536) % 65536
  d != 0 && d ≤ 32768 && !e.missing.contains (seq % 65536)

/-- Whether the receiver accepted a flit's number on its channel before (R28). -/
def State.repeated (s : State) (src : FlitDest) (f : Flit) : Bool := (s.chanEnd src f).any fun e => e.accepted f.seq

/-- Accept a role sequence number on a channel (R28): the numbers it leaves out stay to be accepted, as the lanes of a channel
are not ordered among themselves. -/
def State.acceptNumber (s : State) (src : FlitDest) (f : Flit) : State :=
  let q := f.seq % 65536
  let e := (s.chanEnd src f).getD { src := src, chan := f.chan, dest := f.dest, next := q, missing := [] }
  let ahead := (q + 65536 - e.next) % 65536
  let e := if ahead < 32768 then
      { e with next := (q + 1) % 65536, missing := e.missing ++ (List.range ahead).map fun i => (e.next + i) % 65536 }
    else { e with missing := e.missing.erase q }
  { s with chans := e :: s.chans.filter fun x => !(x.src == src && x.chan == f.chan && x.dest == f.dest) }

/-- The sender's copy of a flit is acknowledged (R16). -/
def State.ackFlit (s : State) (src : FlitDest) (f : Flit) : State :=
  { s with unacked := s.unacked.filter fun u => !(u.sender == src && sameFlit u.flit f) }

/-- The sender retains a flit until it is acknowledged; a role's are its outbound log (R16, R27). -/
def State.retain (s : State) (src : FlitDest) (l : Lane) (f : Flit) : State :=
  if s.unacked.any fun u => u.sender == src && sameFlit u.flit f then s
  else { s with unacked := s.unacked ++ [{ sender := src, lane := l, flit := { f with crcOk := true }, resends := 0 }] }

/-- The flits that wait on a lane for a virtual channel enter its FIFO in the order sent (R14), up to the first that failed its
check or that finds the FIFO of 32 full; each is accepted and acknowledged as it enters. -/
def State.fillFifo (s : State) (l : Lane) (v : Vc) : State :=
  (((s.laneAt l).waiting.filter fun f => f.vc == v).foldl (fun (p : State × Bool) f =>
    let x := p.1.laneAt l
    if p.2 || !f.crcOk || 32 ≤ (x.fifo v).length then (p.1, true)
    else
      let src := p.1.senderOf l.src
      let s := p.1.setLane { x.setFifo v (x.fifo v ++ [f]) with waiting := x.waiting.erase f }
      ((s.acceptNumber src f).ackFlit src f, false)) (s, false)).1

/-- A flit takes its place on a lane: that of its copy which failed before, else behind every flit sent earlier. -/
def LaneState.place (x : LaneState) (f : Flit) : LaneState :=
  if x.waiting.any (sameFlit f) then { x with waiting := mapIf (sameFlit f) (fun g => if f.crcOk then f else g) x.waiting }
  else { x with waiting := x.waiting ++ [f] }

/-- An intact flit reaches the receiver of a lane (R14, R28): a repeated number is acknowledged and not acted on. -/
def State.deliverFlit (s : State) (l : Lane) (f : Flit) : State :=
  let src := s.senderOf l.src
  if s.repeated src f then s.ackFlit src f
  else ((s.retain src l f).setLane ((s.laneAt l).place f)).fillFifo l f.vc

/-- The receiver takes flits out of a FIFO; flits that wait enter it. -/
def State.takeFlits (s : State) (l : Lane) (v : Vc) (n : Nat) : State :=
  let x := s.laneAt l
  (s.setLane (x.setFifo v ((x.fifo v).drop n))).fillFifo l v

/-- The lane to the instance that receives a flit (R27): the class switch delivers a flit for a role to the instance bound
to it; none while no instance is. -/
def State.routeFlit (s : State) (l : Lane) (d : FlitDest) : Option Lane :=
  match d with
  | .bench _ => some l
  | .role c r => (s.boundBench c r).map fun b => { l with dst := b }

/-- Whether a flit's role is being rotated or taken over, so that the class switch holds it (R30 step 1). -/
def State.holdsRole (s : State) (d : FlitDest) : Bool :=
  match d with
  | .role c r => match (s.rotAt c).busy with
    | some (_, _, r') => r == r'
    | none => false
  | .bench _ => false

/-- Whether a step of Table BOOT-12 has ended. -/
def State.stepDone (s : State) (n : Nat) : Bool := s.boot.ended.contains n

/-- Whether this unit is in the gap of a planned handover (Table PAIR-10). -/
def State.inGap (s : State) : Bool := s.pair.handover.any fun h => h.phase == 2

/-- The switch core releases the frames it holds for an XPT role that was re-bound (R452); in the gap of a handover it goes on holding
them (R557). -/
def State.releaseFrames (s : State) (r : Nat) : State :=
  if s.inGap then s else
  let held := s.swq.filter fun f => f.output == 32 + r
  let s := held.foldl State.sampleSent (s.freeFrames fun f => f.output == 32 + r)
  s.sendAll (held.map fun f => .toRole r f.cls f.input f.ce f.handle)

/-- The class switch releases the flits it holds to the instance bound to each one's role (R30 step 4, Table ARC-8 step 6). -/
def State.releaseHeld (s : State) (c : Nat) : State :=
  let held := (s.rotAt c).held
  held.foldl (fun s p => match s.routeFlit p.1 p.2.dest with
    | some l => s.deliverFlit l p.2
    | none => s.updRot c fun r => { r with held := r.held ++ [p] }) (s.updRot c fun r => { r with held := [] })

/-- Flits for a role follow it to the instance now bound to it: those accepted and not yet taken, and those that wait. -/
def State.moveInbound (s : State) (c r old new : Nat) : State :=
  (s.lanes.filter fun x => x.lane.dst == old).foldl (fun (s : State) x =>
    let mine := fun (f : Flit) => f.dest == .role c r
    let y := s.laneAt { x.lane with dst := new }
    (s.setLane { x with request := x.request.filter fun f => !mine f, response := x.response.filter fun f => !mine f,
                        waiting := x.waiting.filter fun f => !mine f }).setLane
      { y with request := y.request ++ x.request.filter mine, response := y.response ++ x.response.filter mine,
               waiting := y.waiting ++ x.waiting.filter mine }) s

/-- The outbound log of a role goes with its bank (R27); at a takeover the new instance sends its flits again (Table ARC-8
step 5), and R28 drops those that were accepted. -/
def State.moveOutbound (s : State) (c r old new : Nat) (again : Bool) : State :=
  let mine := s.unacked.filter fun u => u.sender == .role c r
  let s : State := { s with
    unacked := mapIf (fun u => u.sender == .role c r) (fun u => { u with lane := { u.lane with src := new }, resends := 0 }) s.unacked
    lanes := s.lanes.map fun x => if x.lane.src == old then { x with waiting := x.waiting.filter fun f => !mine.any fun u => sameFlit u.flit f } else x }
  if again then s.sendAll (mine.map fun u => .flitResent { u.lane with src := new } u.flit) else s

/-! ### Rotation and takeover -/

/-- Whether an accepted shot's time has come and the shot has not been latched: a rebinding now would span it (R62). -/
def State.shotPendingNow (s : State) : Bool := s.tim.shots.any fun x => s.due x.time

/-- Bind a role to the spare (R30 step 3, Table ARC-8 step 4): the outgoing instance gives the bank up and, unless it is
FAULTED, enters SELFTEST; the rotation or takeover is complete. -/
def State.rebind (s : State) (c out spare r : Nat) : State :=
  let bo := instBench c out
  let bs := instBench c spare
  let fault := (s.benchAt bo).state != .active
  let s := s.updBench bo fun b => { b with role := none }
  let s := if fault then s else s.setBenchState bo .selftest
  let s := s.updBench bs fun b => { b with role := some r, activeSince := s.now }
  let s := s.setBenchState bs .active
  let s := s.updRot c fun x => { x with lastDone := some s.now, owed := false, busy := none, deferred := false }
  let s := s.bump F.CTL_ROT_STAT_ROT_COUNT
  let s := s.setBit F.CTL_ROT_STAT_BUSY c false
  let s := (s.moveInbound c r bo bs).moveOutbound c r bo bs fault
  let s := if c = 0 then s.releaseFrames r else s
  (s.refreshMaps c).releaseHeld c

/-- Rebind now, or mark the rebinding deferred until the latch of a shot whose time has come (R62). -/
def State.rebindOrDefer (s : State) (c out spare r : Nat) : State :=
  if s.shotPendingNow then
    (s.updRot c fun x => { x with busy := some (out, spare, r), deferred := true }).setBit F.CTL_ROT_STAT_BUSY c true
  else s.rebind c out spare r

/-- After a latch, carry out the rebindings it deferred (R62). -/
def State.runDeferred (s : State) : State :=
  (List.range 6).foldl (fun s c =>
    match (s.rotAt c).deferred, (s.rotAt c).busy with
    | true, some (o, sp, r) => s.rebind c o sp r
    | _, _ => s) s

/-- Abandon a rotation: the outgoing instance keeps the role and the held flits go to it (Table ARC-13). -/
def State.abandonRotation (s : State) (c : Nat) : State :=
  let s : State := match c, (s.rotAt c).busy with
    | 0, some (_, _, r) => if (s.boundBench 0 r).isSome then s.releaseFrames r else s
    | _, _ => s
  ((s.updRot c fun x => { x with busy := none, deferred := false }).setBit F.CTL_ROT_STAT_BUSY c false).releaseHeld c

/-- Whether a class can rotate by R29. -/
def State.canRotate (s : State) (c : Nat) : Bool :=
  s.isSet F.CTL_ROT_CFG_ROT_EN && !hasBit (s.rd F.CTL_ROT_CFG_CLASS_DIS) c && (s.spareOf c).isSome
    && (s.instIn c .faulted).isEmpty && (s.rotAt c).busy.isNone && !(s.rotAt c).live

/-- The instance that has been ACTIVE longest, ties to the lower index (R29), with its role. -/
def State.longestActive (s : State) (c : Nat) : Option (Nat × Nat) :=
  (s.instIn c .active).foldl (fun m i =>
    match (s.benchAt (instBench c i)).role with
    | none => m
    | some r => match m with
      | none => some (i, r)
      | some (j, _) => if (s.benchAt (instBench c i)).activeSince < (s.benchAt (instBench c j)).activeSince then some (i, r) else m) none

/-- Start a rotation of a class: choose the role and hold its new flits (R30 step 1). A rotation that is owed stays owed until
one completes. -/
def State.beginRotation (s : State) (c : Nat) : State :=
  match s.spareOf c, s.longestActive c with
  | some sp, some (o, r) =>
    (s.updRot c fun x => { x with busy := some (o, sp, r) }).setBit F.CTL_ROT_STAT_BUSY c true
  | _, _ => s

/-- Rotate a class that owes a rotation and now can. -/
def State.payOwed (s : State) (c : Nat) : State :=
  if (s.rotAt c).owed && s.canRotate c then s.beginRotation c else s

/-- Rotate once the class can: at once, or owed (R29). -/
def State.rotateOrOwe (s : State) (c : Nat) : State :=
  (s.updRot c fun x => { x with owed := true }).payOwed c

/-- Whether a class's rotation period has elapsed. -/
def State.periodElapsed (s : State) (c : Nat) : Bool :=
  match (s.rotAt c).lastDone with
  | some t => t + minU (s.rd F.CTL_ROT_CFG_PERIOD_MIN) ≤ s.now
  | none => false

/-! ### Reloads of a live activation (R568, R569, R571) -/

/-- Change live service. -/
def State.updLive (s : State) (f : Live → Live) : State := { s with live := f s.live }

/-- Begin the reload of a bench: a replicated instance enters RELOADING; a singleton stays ACTIVE (R568). -/
def State.startReload (s : State) (b : Nat) (act : Bool) : State :=
  let s : State := match classInst b with
    | some (c, _) => (s.setBenchState b .reloading).refreshMaps c
    | none => s
  (s.updLive fun l => { l with busy := l.busy ++ [(b, s.now, act)] }).wr F.CTL_LIVE_STAT_BENCH b

/-- The next reload of a class in a live activation: its SPARE while that is still to be reloaded (without one, a FAULTED
instance), else a rotation that makes another such instance the SPARE; the class is done when none is left (R569 step 2), and a
rotation it owes is taken then (R29). A rotation that runs is ended first. -/
def State.liveClass (s : State) (c : Nat) : State :=
  if !(s.rotAt c).live then s else
  if !(s.live.plan.any fun b => (classInst b).any fun p => p.1 == c) then (s.updRot c fun x => { x with live := false }).payOwed c
  else if (s.rotAt c).busy.isSome then s
  else match s.spareOf c with
    | some i =>
      let b := instBench c i
      if s.live.plan.contains b then (if s.live.busy.any fun x => x.1 == b then s else s.startReload b true)
      else s.beginRotation c
    | none => match (s.instIn c .faulted).find? fun i => s.live.plan.contains (instBench c i) && !(s.live.busy.any fun x => x.1 == instBench c i) with
      | some i => s.startReload (instBench c i) true
      | none => s

/-! ### Faults -/

/-- Fault takeover of a role by a SPARE whose bank passes its header check, or a controller fault (R13, R31, R673): the SPARE of
the rotation that was taking this role over from the faulted instance, else a SPARE that no takeover has chosen; a rotation of
another role is abandoned for it. -/
def State.takeover (s : State) (c out r : Nat) (hdrOk : Bool) : State :=
  let bind := fun (s : State) (sp : Nat) => if hdrOk then s.rebindOrDefer c out sp r else s.controllerFault
  match (s.rotAt c).busy with
  | some (o, sp, _) =>
    if o = out then bind s sp
    else if (s.benchAt (instBench c o)).state == .faulted then
      match (s.instIn c .spare).find? fun i => i != sp with
      | some i => bind s i
      | none => s.controllerFault
    else
      let s := s.abandonRotation c
      match s.spareOf c with
      | some i => bind s i
      | none => s.controllerFault
  | none => match s.spareOf c with
    | some i => bind s i
    | none => s.controllerFault

/-- The SPARE that a rotation or a takeover has chosen faults before the role is bound to it (Table ARC-13): the rotation is
abandoned; a takeover goes to another SPARE, or the controller declares a controller fault. -/
def State.spareLost (s : State) (c i : Nat) (hdrOk : Bool) : State :=
  match (s.rotAt c).busy with
  | some (o, sp, r) =>
    if sp != i then s
    else if (s.benchAt (instBench c o)).state == .faulted then
      (((s.updRot c fun x => { x with busy := none, deferred := false }).setBit F.CTL_ROT_STAT_BUSY c false)).takeover c o r hdrOk
    else s.abandonRotation c
  | none => s

/-- Take a bench out as faulted, whatever its state (R13, R24, R26, R31, R673). -/
def State.faultBench (s : State) (b : Nat) (hdrOk : Bool) : State :=
  let st := (s.benchAt b).state
  if st == .off || st == .faulted then s else
  let s := s.updBench b fun x => { x with prevFault := x.lastFault, lastFault := some s.now }
  match classInst b with
  | none => (s.setBenchState b .faulted).controllerFault
  | some (c, i) =>
    let s := s.setBenchState b .faulted
    match st, (s.benchAt b).role with
    | .active, some r => (s.takeover c i r hdrOk).refreshMaps c
    | _, _ => ((s.spareLost c i hdrOk).refreshMaps c).liveClass c

/-- The bench a lane's failure is attributed to (R16); none for two singletons. -/
def attributedBench (l : Lane) : Option Nat :=
  match isSingleton l.src, isSingleton l.dst with
  | true, true => none
  | true, false => some l.dst
  | false, _ => some l.src

/-! ### The commands -/

/-- FLIT_RECEIVE (R14, R16, R17, R27, R28): `taken` flits of the virtual channel have left the FIFO since the last one. The class
switch holds a flit for a role that is being rotated, or that no instance is bound to. -/
def execFlitReceive (l : Lane) (taken : Nat) (f : Flit) (s : State) : Host.Outcome State Fault Refusal :=
  let src := s.senderOf l.src
  let route := s.routeFlit l f.dest
  let dest := route.getD l
  .next <|
    if !laneListed l || (s.laneAt l).outOfService || !(s.benchAt l.src).inService || (route.isSome && !(s.benchAt dest.dst).inService) then s
    else
      let s := if route.isSome then s.takeFlits dest f.vc taken else s
      if !f.crcOk then
        let s := if s.repeated src f || route.isNone then s else (s.retain src dest f).setLane ((s.laneAt dest).place f)
        s.send (.flitNak l f.chan f.seq)
      else match f.dest, s.holdsRole f.dest || route.isNone with
        | .role c _, true =>
          if s.repeated src f then s.ackFlit src f
          else (s.retain src dest f).updRot c fun r => { r with held := r.held ++ [(l, f)] }
        | _, _ => s.deliverFlit dest f

/-- FLIT_NAK (R16): the sender resends from its retained copy; the negative acknowledgment of a third resend takes the
lane out of service and attributes a fault. -/
def execFlitNak (l : Lane) (chan seq : Nat) (hdrOk : Bool) (s : State) : Host.Outcome State Fault Refusal :=
  let x := s.laneAt l
  let src := s.senderOf l.src
  let data := l.dst % 64 + 256 * (l.num % 16)
  .next <|
    match x.outOfService, s.unacked.find? fun u => u.sender == src && u.flit.chan == chan && u.flit.seq == seq with
    | false, some u =>
      if u.resends < 3 then
        let s : State := { s with unacked := mapIf (fun y => y.sender == src && sameFlit y.flit u.flit) (fun y => { y with resends := y.resends + 1 }) s.unacked }
        ((s.send (.flitResent l u.flit)).raise l.src 1 NOTICE 1 data).bump (F.BENCH_ERR_CHAN l.src)
      else
        let s := (s.setLane { x with outOfService := true }).raise l.src 1 NOTICE 2 data
        if !(s.benchAt l.src).inService || !(s.benchAt l.dst).inService then s
        else match attributedBench l with
          | none => s.controllerFault
          | some b => s.faultBench b hdrOk
    | _, _ => s

/-- LIVENESS_TIMEOUT (R31, R13): the supervisor missed 4 liveness tokens of the instance. -/
def execLivenessTimeout (bench : Nat) (hdrOk : Bool) (s : State) : Host.Outcome State Fault Refusal :=
  .next (s.faultBench bench hdrOk)

/-- A self-test ends (R26, R29): a passing instance takes the role of its own index while that is unbound, else the
lowest unbound role whose own instance is not still to be tested; else it is SPARE (DEDUCED, log entry 10). A failure's
local 3 record carries data 0, and a SPARE bound to a role that a failure left unbound counts in ROT_COUNT (DESIGN CHOICE, log
entry 106). -/
def State.selftestEnd (s : State) (bench : Nat) (pass : Bool) : State :=
  if (s.benchAt bench).state != .selftest then s
  else if !pass then
    let s := (s.raise bench 3 ERROR 1 0).updBench bench fun x => { x with prevFault := x.lastFault, lastFault := some s.now }
    let s := s.setBenchState bench .faulted
    match classInst bench with
    | none => s.controllerFault
    | some (c, i) =>
      match s.spareOf c, (s.boundBench c i).isNone && i < s.roleCount c with
      | some sp, true => s.rebind c i sp i
      | _, _ => s.refreshMaps c
  else match classInst bench with
    | none =>
      (s.updBench bench fun x => { x with role := some 0, activeSince := s.now }).setBenchState bench .active
    | some (c, i) =>
      let unbound := (List.range (s.roleCount c)).filter fun r => (s.boundBench c r).isNone
      let free := unbound.filter fun r => r == i ||
        !((s.benchAt (instBench c r)).state == .off || (s.benchAt (instBench c r)).state == .selftest)
      let pick := if unbound.contains i then some i else free.head?
      match pick with
      | some r =>
        ((s.updBench bench fun x => { x with role := some r, activeSince := s.now }).setBenchState bench .active).refreshMaps c
      | none =>
        let s := (s.setBenchState bench .spare).refreshMaps c
        let s := s.updRot c fun x => { x with lastDone := some (x.lastDone.getD s.now) }
        (s.liveClass c).payOwed c

/-- SELFTEST_COMPLETE (R26, R29). -/
def execSelftestComplete (bench : Nat) (pass : Bool) (s : State) : Host.Outcome State Fault Refusal :=
  .next (s.selftestEnd bench pass)

/-- FAULTED_RETEST_TIMER (R26): 1 s after a first fault in 24 h. -/
def execFaultedRetestTimer (bench : Nat) (s : State) : Host.Outcome State Fault Refusal :=
  let x := s.benchAt bench
  .next <|
    match x.state, x.lastFault with
    | .faulted, some t =>
      let first := match x.prevFault with | some p => p + hourU 24 ≤ t | none => true
      if first && s.due (t + secU 1) then s.setBenchState bench .selftest else s
    | _, _ => s

/-- ROTATION_PERIOD_EXPIRY (R29). -/
def execRotationPeriodExpiry (cls : Nat) (s : State) : Host.Outcome State Fault Refusal :=
  .next (if cls < 6 && s.periodElapsed cls then s.rotateOrOwe cls else s)

/-- The effect of a write of CTL_ROT_NOW. -/
def State.rotNow (s : State) (v : Nat) : State :=
  (List.range 6).foldl (fun s c => if hasBit v c && s.canRotate c then s.beginRotation c else s) s

/-- CTL_ROT_NOW (R29): each class named rotates at once when it can. -/
def execCtlRotNow (v : Word) (s : State) : Host.Outcome State Fault Refusal :=
  .next (s.atWindow 0 0x2004 v.toNat 0xFFFFFFFF fun s => s.rotNow v.toNat)

/-- What follows a change of CTL_ROT_CFG: a class whose period has now elapsed, or that owes a rotation, rotates when it can. -/
def State.rotCfgChanged (s : State) : State :=
  (List.range 6).foldl (fun s c => if s.periodElapsed c then s.rotateOrOwe c else s.payOwed c) s

/-- CTL_ROT_CFG_WRITE (R29). -/
def execCtlRotCfgWrite (v : Word) (s : State) : Host.Outcome State Fault Refusal :=
  .next (s.atWindow 0 0x2000 v.toNat 0xFFFFFFFF fun s => (s.writeRegW 0 0x2000 v).rotCfgChanged)

/-- ROTATION_DRAINED (R30, R62): the outgoing instance has finished its message and its outbound flits are acknowledged. -/
def execRotationDrained (cls : Nat) (s : State) : Host.Outcome State Fault Refusal :=
  .next <|
    match (s.rotAt cls).busy with
    | some (o, sp, r) => if (s.benchAt (instBench cls o)).state == .faulted then s else s.rebindOrDefer cls o sp r
    | none => s

end Sys2Proof.Machine
end

