-- ==== Sys2Proof/Machine/Time.lean ====
section
/-!
DEFINITION. Machine/Time.lean: the time base: markers (R37, R38), the servo (R35, R42), PPS (R43, R44) and PTP (R41).
-/

namespace Sys2Proof.Machine

/-- Change TIM. -/
def State.updTim (s : State) (f : Tim → Tim) : State := { s with tim := f s.tim }

/-- The servo state, from TIM_STAT.STATE. -/
def State.servo (s : State) : Nat := s.rd F.TIM_STAT_STATE

/-- The largest rate adjustment: 200 ppm of 2 units, in units of 2^-32 unit (R35, R36). -/
def maxRate : Nat := 1717986

/-- Slew: the servo sets a new rate within ±200 ppm; its law is not given, so the rate is a free value (log entry 11). -/
def State.slew (s : State) : State :=
  let (v, s) := s.draw .servoRate (2 * maxRate + 1)
  s.wr F.TIM_RATE (sat32 ((v : Int) - maxRate))

/-- Whether a forward step is allowed: the controller has not begun serving since the count began again (R35). -/
def State.stepAllowed (s : State) : Bool := !s.isSet F.TIM_STAT_SERVING

/-- Step the count forward and raise event local 12. The durations that run over the step, of TIM and of the class supervisor,
are durations and not counts: they go on as they were (DEDUCED, log entry 107). -/
def State.stepForward (s : State) (n : Nat) : State :=
  let s := s.updTim fun t => { t with
    count := t.count + BitVec.ofNat 64 n, lastUpdate := t.lastUpdate.map (· + n), lastMarker := t.lastMarker.map (· + n),
    ppsInLast := t.ppsInLast.map (· + n), ppsInFrom := t.ppsInFrom + n, ppsOutFrom := t.ppsOutFrom + n }
  let s : State := { s with
    rot := s.rot.map fun r => { r with lastDone := r.lastDone.map (· + n) }
    bench := s.bench.map fun b => { b with activeSince := b.activeSince + n, lastFault := b.lastFault.map (· + n),
                                           prevFault := b.prevFault.map (· + n), repairs := b.repairs.map (· + n) } }
  s.raise 2 12 INFO 9 (n % 2 ^ 32)

/-- A valid update reaches the servo (Table TEV-2): `offset` is the source's time less the count, in units, as in R536. -/
def State.servoUpdate (s : State) (offset : Int) : State :=
  let s := (s.wr F.TIM_OFFSET (sat32 offset)).updTim fun t => { t with lastUpdate := some s.now }
  match s.servo with
  | 0 =>
    let s := if s.stepAllowed && 0 < offset then s.stepForward offset.natAbs else s.slew
    (s.wr F.TIM_STAT_STATE 1).updTim fun t => { t with lockRun := 0 }
  | 1 =>
    let run := if offset.natAbs < nsU 50 then s.tim.lockRun + 1 else 0
    let s := s.slew
    if run ≥ 16 then
      ((s.raise 2 5 INFO 2 (sat32 offset)).wr F.TIM_STAT_STATE 2).updTim fun t => { t with lockRun := 0 }
    else s.updTim fun t => { t with lockRun := run }
  | 2 =>
    let s := s.slew
    if offset.natAbs > usU 1 then
      ((s.raise 2 11 NOTICE 8 (sat32 offset)).wr F.TIM_STAT_STATE 1).updTim fun t => { t with lockRun := 0 }
    else s
  | _ => (s.slew.wr F.TIM_STAT_STATE 1).updTim fun t => { t with lockRun := 0 }

/-- Enter HOLDOVER: keep the last rate and raise event local 4 with the source. -/
def State.enterHoldover (s : State) : State :=
  (s.raise 2 4 NOTICE 1 (s.rd F.TIM_SRC_CFG_SRC)).wr F.TIM_STAT_STATE 3

/-- What follows a write of TIM_SRC_CFG.SRC: SRC 0 enters FREERUN at the last rate. -/
def State.srcChanged (s : State) : State :=
  if s.rd F.TIM_SRC_CFG_SRC = 0 then s.wr F.TIM_STAT_STATE 0 else s

/-- TIM_SRC_CFG.SET: a forward step to TIM_SET where R35 allows it, else the write counts as ignored. -/
def State.setStep (s : State) : State :=
  let t := s.rd64 F.TIM_SET_LO F.TIM_SET_HI
  if s.stepAllowed && s.now < t then s.stepForward (t - s.now) else s.bump F.TIM_STAT_SET_IGN

/-- The effect of a write of TIM_SRC_CFG. -/
def State.writeSrcCfg (s : State) (v : Word) : State :=
  let s := (s.writeRegW 2 0x1008 v).srcChanged
  if hasBit v.toNat 31 then s.setStep else s

/-- The deviation of a bench at a marker, within the ±4 ns of R38. -/
def clampDev (d : Int) : Int := max (-16) (min 16 d)

/-- TIME_MARKER (R37, R38, R50): every 4,096 units each bench corrects its local time; `dev` gives the deviations found, in
units, 0 for a bench it does not name. The watermark of a bench advances to its local time, or to its earliest undelivered
record. -/
def execTimeMarker (dev : List (Nat × Int)) (s : State) : Host.Outcome State Fault Refusal :=
  .next <|
    if s.tim.lastMarker.any fun t => s.now < t + 4096 then s else
    let s := s.updTim fun t => { t with lastMarker := some (match t.lastMarker with | some m => m + (s.now - m) / 4096 * 4096 | none => s.now) }
    (List.range 57).foldl (fun s b =>
      if (s.benchAt b).state = .off then s else
      let d := clampDev (((dev.find? fun p => p.1 == b).map (·.2)).getD 0)
      let ok := d.natAbs ≤ nsU 1
      let s := if ok then s else s.raise 2 6 NOTICE 3 b
      let t := s.localTime b
      s.updBench b fun x =>
        let lim := ((listMin ((x.evBuf ++ x.evStalled).map (·.time))).getD t)
        { x with timeLock := ok, deviation := if ok then 0 else d, foundAt := s.now, localMin := t,
                 watermark := max x.watermark (min t lim) }) s

/-- SERVO_UPDATE (R40, R42): an update of the source selected. -/
def execServoUpdate (src : Nat) (offset : Int) (s : State) : Host.Outcome State Fault Refusal :=
  .next (if src != 0 && s.rd F.TIM_SRC_CFG_SRC = src then s.servoUpdate offset else s)

/-- SERVO_UPDATE_TIMEOUT (R42): 3 s without a valid update in LOCKED or LOCKING. -/
def execServoUpdateTimeout (s : State) : Host.Outcome State Fault Refusal :=
  .next <|
    if (s.servo == 1 || s.servo == 2) && s.due (s.tim.lastUpdate.getD 0 + secU 3) then s.enterHoldover else s

/-- HOLDOVER_EXPIRY (R42): 24 h without a valid update in HOLDOVER. -/
def execHoldoverExpiry (s : State) : Host.Outcome State Fault Refusal :=
  .next <|
    if s.servo == 3 && s.due (s.tim.lastUpdate.getD 0 + hourU 24) then
      (s.raise 2 7 ERROR 4 0).wr F.TIM_STAT_STATE 0
    else s

/-- TIM_SRC_CFG_WRITE (R42). -/
def execTimSrcCfgWrite (v : Word) (s : State) : Host.Outcome State Fault Refusal :=
  .next (s.atWindow 2 0x1008 v.toNat 0xFFFFFFFF fun s => s.writeSrcCfg v)

/-- TIM_SET_STEP (R35): a write of TIM_SRC_CFG with SET. -/
def execTimSetStep (v : Word) (s : State) : Host.Outcome State Fault Refusal :=
  .next (s.atWindow 2 0x1008 (v ||| 0x80000000#32).toNat 0xFFFFFFFF fun s => s.writeSrcCfg (v ||| 0x80000000#32))

/-- The signed value of a field. -/
def State.rdSigned (s : State) (f : Fld) : Int := signedOf (f.hi + 1 - f.lo) (s.rd f)

/-- The nearest whole second to a time. -/
def nearestSecond (t : Int) : Int := (t + 2000000000) / 4000000000 * 4000000000

/-- What follows a write of TIM_PPS_CFG or TIM_PPS_OFS: an absence of PPS_IN counts from its enabling (R43), and PPS_OUT rises for
seconds that come after the change (R44). -/
def State.ppsCfgChanged (s : State) (inWas outWas : Bool) (ofsWas : Nat) : State :=
  let s := if !inWas && s.isSet F.TIM_PPS_CFG_IN_EN then s.updTim fun t => { t with ppsInFrom := s.now, ppsMissRaised := false } else s
  if (!outWas && s.isSet F.TIM_PPS_CFG_OUT_EN) || s.rd F.TIM_PPS_OFS != ofsWas then s.updTim fun t => { t with ppsOutFrom := s.now } else s

/-- The distance of a PPS_IN edge from its whole second, IN_OFS applied (R43; the sign is DEDUCED, log entry 12). -/
def State.ppsOffset (s : State) : Int :=
  let edge := (s.now : Int) - s.rdSigned F.TIM_PPS_CFG_IN_OFS
  nearestSecond edge - edge

/-- Whether a PTP port is in the slave state (R41). -/
def State.ptpSlave (s : State) : Bool := s.tim.ptp.any fun p => p.state == .slave

/-- PPS_IN_EDGE (R43): stamped while PPS_IN is enabled; an event where it is out of window, whatever SRC (DESIGN CHOICE, log
entry 108); a servo update in SRC 2, whose seconds come from PTP while a PTP port is in the slave state (Table TEV-1). -/
def execPpsInEdge (s : State) : Host.Outcome State Fault Refusal :=
  .next <|
    if !s.isSet F.TIM_PPS_CFG_IN_EN then s else
    let off := s.ppsOffset
    let s' := s.updTim fun t => { t with ppsInLast := some s.now, ppsInFrom := s.now, ppsMissRaised := false }
    let s' := if s'.servo == 2 && off.natAbs > usU 1 then s'.raise 2 10 NOTICE 7 0 else s'
    let secs := if s.ptpSlave then s.tim.ptpSecs else 0
    if s'.rd F.TIM_SRC_CFG_SRC != 2 then s'
    else
      let t := s'.servoUpdate (off + 4000000000 * secs)
      if s'.servo == 0 && s'.stepAllowed then t.updTim fun x => { x with ptpSecs := 0 } else t

/-- PPS_IN_MISSING (R43): no edge for 1.1 s while PPS_IN is enabled; raised once for each such gap of 1.1 s. -/
def execPpsInMissing (s : State) : Host.Outcome State Fault Refusal :=
  .next <|
    if s.isSet F.TIM_PPS_CFG_IN_EN && s.due (s.tim.ppsInFrom + msU 1100) && !s.tim.ppsMissRaised then
      (s.raise 2 10 NOTICE 7 0).updTim fun t => { t with ppsMissRaised := true }
    else s

/-- The last whole second plus TIM_PPS_OFS that the count has reached. -/
def State.lastPpsOut (s : State) : Int :=
  let o := s.rdSigned F.TIM_PPS_OFS
  ((s.now : Int) - o) / 4000000000 * 4000000000 + o

/-- PPS_OUT_SECOND (R44). -/
def execPpsOutSecond (s : State) : Host.Outcome State Fault Refusal :=
  .next <|
    let t := s.lastPpsOut
    if s.isSet F.TIM_PPS_CFG_OUT_EN && t > 0 && (s.tim.ppsOutFrom : Int) ≤ t && (s.tim.ppsOutRise.getD 0 : Int) < t then
      s.updTim fun x => { x with ppsOut := true, ppsOutRise := some t.toNat }
    else s

/-- PPS_OUT_WIDTH_END (R44): PPS_OUT falls WIDTH_US microseconds after it rose. -/
def execPpsOutWidthEnd (s : State) : Host.Outcome State Fault Refusal :=
  .next <|
    match s.tim.ppsOut, s.tim.ppsOutRise with
    | true, some t => if s.due (t + usU (s.rd F.TIM_PPS_CFG_WIDTH_US)) then s.updTim fun x => { x with ppsOut := false } else s
    | _, _ => s

/-! ### PTP (R41) -/

/-- What the image gives PTP; without an image, domain 0 on sub-port 0 of each port with the quality of a default clock
(DESIGN CHOICE, log entry 109). -/
def State.ptpCfg (s : State) : PtpCfg :=
  match s.boot.img with
  | some b => b.ptp
  | none => { domain := 0, macs := (List.range 8).map (4 * ·), clock := ⟨128, 248, 0xFE, 0xFFFF, 128, 0, 0⟩ }

/-- Whether one data set is better than another by the default algorithm of IEEE 1588-2019 (PRESUMED, log entry 109). -/
def betterClock (a b : ClockDs) : Bool :=
  let key := fun (x : ClockDs) => [x.prio1, x.cls, x.accuracy, x.variance, x.prio2, x.identity, x.steps]
  match ((key a).zip (key b)).find? fun p => p.1 != p.2 with
  | some (x, y) => x < y
  | none => false

/-- The best Announce data set of the ports, with its port. -/
def bestForeign (l : List PtpPort) : Option (ClockDs × Nat) :=
  l.foldl (fun m p => match p.foreign, m with
    | some d, some (x, _) => if betterClock d x then some (d, p.port) else m
    | some d, none => some (d, p.port)
    | none, _ => m) none

/-- The state decision of every PTP port (R41; PRESUMED, log entry 109): without a better foreign clock every port is master; else
the port of the best one is slave and the others are master; a clock of class 127 or below is never slave. -/
def decidePtp (own : ClockDs) (l : List PtpPort) : List PtpPort :=
  match bestForeign l with
  | none => l.map fun p => { p with state := .master }
  | some (d, q) => l.map fun p =>
    if own.cls ≤ 127 then { p with state := if p.foreign.any fun f => betterClock f own then .passive else .master }
    else if betterClock own d then { p with state := .master }
    else { p with state := if p.port = q then .slave else .master }

/-- A PTP port of the image's choice: the Ethernet port whose chosen MAC this is. -/
def ptpPortOf (c : PtpCfg) (mac : Nat) : Option Nat := if mac < 32 && c.macs.getD (mac / 4) 99 = mac then some (mac / 4) else none

/-- A Sync measured on a slave port: a servo update in SRC 1; in SRC 2 the whole seconds the count is off by (Table TEV-1). -/
def State.ptpOffset (s : State) (offset : Int) : State :=
  if s.rd F.TIM_SRC_CFG_SRC = 1 then s.servoUpdate offset
  else if s.rd F.TIM_SRC_CFG_SRC = 2 then s.updTim fun t => { t with ptpSecs := (offset + 2000000000) / 4000000000 }
  else s

/-- PTP_MESSAGE (R41): a message on the MAC of a PTP port, in the image's domain. An Announce takes part in the best-master
decision, and one of a slave port gives the UTC offset; a Sync of a slave port, one-step or with its Follow_Up, updates the servo; a
master port answers a delay request, and every port a peer delay request; what R41 excludes is ignored. -/
def execPtpMessage (m : PtpMsg) (s : State) : Host.Outcome State Fault Refusal :=
  .next <|
    match ptpPortOf s.ptpCfg m.mac with
    | none => s
    | some port =>
      if m.domain != s.ptpCfg.domain || m.domain > 127 then s else
      let p := (s.tim.ptp.find? fun p => p.port == port).getD { port := port, state := .master, foreign := none, pendingSync := none }
      let put := fun (s : State) (p : PtpPort) => s.updTim fun t => { t with ptp := p :: t.ptp.filter fun x => x.port != port }
      let slave := p.state == .slave
      match m.body with
      | .announce ds utc =>
        let s := put s { p with foreign := some ds }
        let s := s.updTim fun t => { t with ptp := decidePtp s.ptpCfg.clock t.ptp }
        if s.tim.ptp.any fun x => x.port == port && x.state == .slave then s.wr F.TIM_UTC_OFS (sat32 utc) else s
      | .sync offset => if slave then s.ptpOffset offset else s
      | .syncTwoStep q => put s { p with pendingSync := some q }
      | .followUp q offset =>
        if p.pendingSync = some q then
          let s := put s { p with pendingSync := none }
          if slave then s.ptpOffset offset else s
        else s
      | .delayReq => if p.state == .master then s.send (.ptpResponse m.mac m.transport false) else s
      | .pdelayReq => s.send (.ptpResponse m.mac m.transport true)
      | .unsupported => s

end Sys2Proof.Machine
end

