-- ==== Sys2Proof/Machine/Shots.lean ====
section
/-!
DEFINITION. Machine/Shots.lean: shot requests, refusals and merges (R55 to R59, R65) and the shot pins (R64).
-/

namespace Sys2Proof.Machine

/-- Whether a shot counts as a pending scheduled shot: cause bit 1 or 4 (R59). -/
def Shot.scheduled (x : Shot) : Bool := hasBit x.causes 1 || hasBit x.causes 4

/-- How many scheduled shots are pending. -/
def State.pendingShots (s : State) : Nat := (s.tim.shots.filter Shot.scheduled).length

/-- The shot lead (R55). -/
def State.lead (s : State) : Nat := nsU 100 * s.rd F.TIM_SHOT_CFG_LEAD

/-- Bring TIM_SHOT_STAT.PENDING in line with the pending shots. -/
def State.syncPending (s : State) : State := s.wr F.TIM_SHOT_STAT_PENDING s.pendingShots

/-- Refuse a shot request (R56). -/
def State.refuseShot (s : State) (reason : Nat) : State :=
  (s.bump F.TIM_SHOT_STAT_REFUSED).raise 2 9 NOTICE 6 reason

/-- Whether two shot times lie less than 10 µs apart and differ (reason 2). -/
def tooClose (a b : Nat) : Bool := a != b && a < b + usU 10 && b < a + usU 10

/-- Put a shot request through the tests of R56 in their order: the state after it, and whether it was accepted.
`earliest` is the bound of reason 1 for a scheduled request. -/
def State.shotRequest (s : State) (cause time trigger earliest : Nat) : State × Bool :=
  let sched := cause == 1 || cause == 4
  if s.isSet F.TIM_SHOT_STAT_HELD then (s.refuseShot 3, false)
  else if cause == 4 && time < s.now + usU 1 then (s.refuseShot 5, false)
  else if cause == 1 && time < earliest then (s.refuseShot 1, false)
  else match s.tim.shots.find? fun x => x.time == time with
    | some x =>
      if sched && !x.scheduled && s.pendingShots ≥ 8 then (s.refuseShot 4, false)
      else
        let join := fun (y : Shot) => if y.time = time then { y with causes := y.causes ||| 2 ^ cause } else y
        ((s.updTim fun t => { t with shots := t.shots.map join }).syncPending, true)
    | none =>
      if s.tim.shots.any (fun x => tooClose x.time time) || s.tim.fired.any (fun f => tooClose f time) then (s.refuseShot 2, false)
      else if sched && s.pendingShots ≥ 8 then (s.refuseShot 4, false)
      else ((s.updTim fun t => { t with shots := t.shots ++ [⟨time, 2 ^ cause, trigger⟩] }).syncPending, true)

/-- The shot time named in TIM_SHOT_AT. -/
def State.shotAt (s : State) : Nat := s.rd64 F.TIM_SHOT_AT_LO F.TIM_SHOT_AT_HI

/-- TIM_SHOT_CMD.FIRE. -/
def State.shotFire (s : State) : State := (s.shotRequest 3 (s.now + s.lead) s.now 0).1

/-- TIM_SHOT_CMD.SCHED without CHAIN. -/
def State.shotSched (s : State) : State := (s.shotRequest 1 s.shotAt s.now (s.now + s.lead)).1

/-- TIM_SHOT_CMD.SCHED with CHAIN (R65): broadcast only when this unit accepts the request itself. -/
def State.shotChainIssue (s : State) : State :=
  let (s', ok) := s.shotRequest 1 s.shotAt s.now (s.now + usU 100)
  if ok then (s'.send (.chainShot s.shotAt (s.rd F.CHN_CHAIN_STAT_ADDR))).bump F.CHN_TX_FRM else s'

/-- TIM_SHOT_CMD.CANCEL (R59). -/
def State.shotCancel (s : State) : State :=
  (s.updTim fun t => { t with shots := (t.shots.map fun x => { x with
      causes := x.causes - bit (hasBit x.causes 1) * 2 - bit (hasBit x.causes 4) * 16 }).filter fun x => x.causes != 0 }).syncPending

/-- TIM_SHOT_CMD.RELEASE (R58). -/
def State.shotRelease (s : State) : State := s.wr F.TIM_SHOT_STAT_HELD 0

/-- The effect of a write of TIM_SHOT_CMD: several bits act in the order CANCEL, RELEASE, FIRE, SCHED (Table TEV-15). -/
def State.shotCmd (s : State) (v : Nat) : State :=
  let s := if hasBit v 3 then s.shotCancel else s
  let s := if hasBit v 4 then s.shotRelease else s
  let s := if hasBit v 0 then s.shotFire else s
  if hasBit v 1 then (if hasBit v 2 then s.shotChainIssue else s.shotSched) else s

/-- A record that TIM_SHOT_MATCH matches requests a shot one lead after its delivery; ARM clears when it is accepted (R55). -/
def State.matchShot (s : State) (r : EvRec) : State :=
  if s.isSet F.TIM_SHOT_MATCH_ARM && s.rd F.TIM_SHOT_MATCH_SRC = r.source &&
      (s.isSet F.TIM_SHOT_MATCH_ANY_CODE || s.rd F.TIM_SHOT_MATCH_CODE = r.code) then
    let (s, ok) := s.shotRequest 2 (s.now + s.lead) s.now 0
    if ok then s.wr F.TIM_SHOT_MATCH_ARM 0 else s
  else s

/-- SHOT_IN_EDGE (R55, R64): sampled while PIN_EN is 1. -/
def execShotInEdge (s : State) : Host.Outcome State Fault Refusal :=
  .next (if s.isSet F.TIM_SHOT_CFG_PIN_EN then (s.shotRequest 0 (s.now + s.lead) s.now 0).1 else s)

/-- SHOT_FIRE (R55). -/
def execShotFire (s : State) : Host.Outcome State Fault Refusal := .next (s.atWindow 2 0x1034 1 1 fun s => s.shotFire)

/-- SHOT_SCHED (R55). -/
def execShotSched (s : State) : Host.Outcome State Fault Refusal := .next (s.atWindow 2 0x1034 2 2 fun s => s.shotSched)

/-- SHOT_CHAIN_ISSUE (R65). -/
def execShotChainIssue (s : State) : Host.Outcome State Fault Refusal := .next (s.atWindow 2 0x1034 6 6 fun s => s.shotChainIssue)

/-- SHOT_CANCEL (R59). -/
def execShotCancel (s : State) : Host.Outcome State Fault Refusal := .next (s.atWindow 2 0x1034 8 8 fun s => s.shotCancel)

/-- SHOT_RELEASE (R58). -/
def execShotRelease (s : State) : Host.Outcome State Fault Refusal := .next (s.atWindow 2 0x1034 16 16 fun s => s.shotRelease)

/-- SHOT_OUT_PULSE_END (R64): SHOT_OUT falls 100 ns after the shot time. -/
def execShotOutPulseEnd (s : State) : Host.Outcome State Fault Refusal :=
  .next <|
    if s.tim.shotOut && s.due (s.tim.shotOutRise + nsU 100) then s.updTim fun t => { t with shotOut := false } else s

/-! ### Snapshot areas (R66) -/

/-- The counters a bench latches: offset in the snapshot area and offset of the register (R106, R129, R172, R255, R282,
R304, R363, R395, R425, R444, R469, R493, R562, R633, R634). -/
def snapSources (b : Nat) : List (Nat × Nat) :=
  let run := fun (dst src n : Nat) => (List.range n).map fun i => (dst + 4 * i, src + 4 * i)
  if b = 3 then run 0x840 0x1100 5 ++ [(0x854, 0x4010), (0x858, 0x4014), (0x85C, 0x4018), (0x860, 0x401C)]
  else if b = 4 then run 0x840 0x1100 11
  else if b = 5 then run 0x840 0x1100 7
  else if b = 6 then run 0x840 0x1100 12
  else if b = 7 then run 0x840 0x1100 9
  else if 8 ≤ b && b < 16 then (List.range 4).flatMap fun x => run (0x840 + 0x80 * x) (0x1400 + 0x100 * x) 32
  else if b = 16 then run 0x840 0x1100 14
  else match classOf b with
    | some 0 => run 0x840 0x1100 16 ++ run 0x880 0x1140 6
    | some 1 => run 0x840 0x1100 10
    | some 2 => run 0x840 0x1100 8
    | some 3 => run 0x840 0x1200 64
    | some 4 => run 0x840 0x1100 5
    | some 5 => run 0x840 0x1100 11
    | some 6 => (List.range 8).flatMap fun p => run (0x840 + 0x40 * p) (0x1440 + 0x80 * p) 8
    | _ => []

/-- A word of a MAC statistics area of a PRT bench (R445): the low word at the lower offset. -/
def State.prtWord (s : State) (b off : Nat) : Word :=
  let k := off - 0x1400
  let v := match s.prtStat.find? fun p => p.1 == 16 * (4 * (b - 8) + k / 256) + k % 256 / 8 with
    | some p => p.2
    | none => 0
  if k % 8 < 4 then BitVec.ofNat 32 v else BitVec.ofNat 32 (v / 2 ^ 32)

/-- The word a bench's window shows for a counter: 0 for a role's counter at an instance with no bound role, and for a
group's LAY counter at an instance bound to the other role (R105, R255). -/
def State.counterAt (s : State) (b off : Nat) : Word :=
  if 8 ≤ b && b < 16 && 0x1400 ≤ off && off < 0x1800 then s.prtWord b off
  else match findReg b off with
  | none => 0
  | some (d, k) =>
    if classOf b = some 3 && 0x1200 ≤ off && off < 0x1300 && (s.benchAt b).role != some (k % 2) then 0
    else match s.homeKey b off d.home with
      | some key => s.word key
      | none => 0

/-- Whole units within the period of each bench's clock (Table ARC-1, R60): 10 at 400 MHz, 8 at 500 MHz, 5 at 800 MHz, 4 at 1.0 GHz,
2 from 1.5 to 2.0 GHz. -/
def clockPeriod (b : Nat) : Nat :=
  if b = 1 then 10 else if b = 3 then 8 else if b = 5 then 5 else if b = 6 || 51 ≤ b then 4 else 2

/-- One bench latches its snapshot area at a shot (R60): the latch time lies within one clock period of T; where in it
is a free value (log entry 14). -/
def State.latchBench (s : State) (b seq time causes : Nat) : State :=
  let x := s.benchAt b
  if !x.inService then s else
  let (ph, s) := s.draw .latchPhase (clockPeriod b + 1)
  let role := if isSingleton b then 0 else x.role.getD 0xF
  s.updBench b fun x => { x with snap :=
    { seq := seq, latch := time + ph, target := time, evt := x.emitted % 2 ^ 32,
      info := x.state.code + 16 * role + 256 * (causes % 32) + 65536 * bit (s.inLock b),
      counters := (snapSources b).map fun p => (p.1, s.counterAt b p.2) } }

end Sys2Proof.Machine
end

