-- ==== Sys2Proof/Machine/Events.lean ====
section
/-!
DEFINITION. Machine/Events.lean: delivery of event records to CTL (R49), their entry into the logs (R50 to R53) and into
the subscribers' queues (R625), and the copy into attached memory (R52).
-/

namespace Sys2Proof.Machine

/-- Raise an event at most once in a time, by bench and local index. -/
def State.raiseOnce (s : State) (period b loc sev code data : Nat) : State :=
  let key := 16 * b + loc
  let quiet := match s.notices.find? fun p => p.1 == key with | some p => !s.due (p.2 + period) | none => false
  if quiet then s else
    ({ s with notices := (key, s.now) :: s.notices.filter fun p => p.1 != key }).raise b loc sev code data

/-- Records entered since cold power-on. -/
def State.evTotal (s : State) : Nat := s.rd64 F.CTL_EVLOG_TOTAL_LO F.CTL_EVLOG_TOTAL_HI

/-- Whether the attached-memory log is available (R52). -/
def State.evMemOk (s : State) : Bool := hasBit (s.rd F.MEM_STAT_READY) 0

/-- Change the event logs. -/
def State.updEv (s : State) (f : EvLog → EvLog) : State := { s with evlog := f s.evlog }

/-- Queue a record for one subscriber (R625): a full queue of 256 drops its oldest INFO record, or its oldest record. -/
def Subscriber.offer (u : Subscriber) (r : EvRec) : Subscriber × Bool :=
  if u.queue.length < 256 then ({ u with queue := u.queue ++ [r] }, false)
  else
    let q := if u.queue.any (fun e => e.severity == 0) then u.queue.eraseP (fun e => e.severity == 0) else u.queue.drop 1
    ({ u with queue := q ++ [r], lost := min 65535 (u.lost + 1) }, true)

/-- Queue an entered record for every subscriber that takes it; CTL event local 9 once per second while one drops. -/
def State.notifySubs (s : State) (r : EvRec) : State :=
  if hasBit (s.rd (F.BENCH_EV_MASK (r.source / 16))) (r.source % 16) then s else
  s.subs.foldl (fun s u =>
    if r.severity < u.minSev then s else
    let (u', dropped) := u.offer r
    let say := dropped && (match u.dropRaised with | some t => s.due (t + secU 1) | none => true)
    let u' := if say then { u' with dropRaised := some s.now } else u'
    let s := { s with subs := mapIf (fun x => x.path == u.path && x.eid == u.eid) (fun _ => u') s.subs }
    if say then s.raise 0 9 NOTICE 0x30 (u.eid + 256 * u.path) else s) s

/-- Enter one record at the end of the on-chip log (R51). -/
def State.enterRecord (s : State) (r : EvRec) : State :=
  let s := s.wr64 F.CTL_EVLOG_TOTAL_LO F.CTL_EVLOG_TOTAL_HI ((s.evTotal + 1) % 2 ^ 64)
  (s.updEv fun e => { e with onChip := (r :: e.onChip).take 4096 }).notifySubs r

/-- Replace the oldest uncopied INFO record of the log (newest first), `n` being uncopied. -/
def overwriteOldestInfo (l : List EvRec) (n : Nat) (r : EvRec) : List EvRec :=
  let unc := (l.take n).reverse
  let i := unc.findIdx fun e => e.severity == 0
  (unc.set i r).reverse ++ l.drop n

/-- Count a dropped record (R53). -/
def State.countDrop (s : State) : State :=
  (s.bump F.CTL_EVLOG_DROP).updEv fun e => { e with sinceMarker := e.sinceMarker + 1, markerOwed := true }

/-- The marker that CTL enters first when entry becomes possible again (R53), an occurrence of its source 4 (R48): stamped at its entry
(DESIGN CHOICE, log entry 110), and counted among the records CTL emitted. -/
def State.logMarker (s : State) : State :=
  if !s.evlog.markerOwed then s else
  let s := (s.setBit (F.BENCH_EV_STAT 0) 4 true).updEv fun e => { e with markerOwed := false }
  if hasBit (s.rd (F.BENCH_EV_EN 0)) 4 then
    let m : EvRec := { time := s.localTime 0, source := 4, severity := NOTICE, code := 1, data := s.evlog.sinceMarker % 2 ^ 32 }
    (((s.updEv fun e => { e with sinceMarker := 0 }).updBench 0 fun b => { b with emitted := b.emitted + 1 })).enterRecord m
  else s

/-- Whether the logs can take a record of any severity (R53): attached memory is available, or fewer than 4,096 records are
uncopied. -/
def State.logOpen (s : State) : Bool := s.evMemOk || s.evTotal - s.evlog.copied < 4096

/-- Enter a record into the logs, under R53 while they are not open. -/
def State.logRecord (s : State) (r : EvRec) : State :=
  if s.logOpen then s.logMarker.enterRecord r
  else if r.severity = 0 then s.countDrop
  else if s.evlog.onChip.any (fun e => e.severity == 0) then
    ((s.updEv fun e => { e with onChip := overwriteOldestInfo e.onChip 4096 r }).countDrop).notifySubs r
  else s.countDrop

/-- Event order: timestamp first, then source number (R50). -/
def EvRec.before (a b : EvRec) : Bool := a.time < b.time || (a.time == b.time && a.source < b.source)

/-- The first record in event order. -/
def earliest (l : List EvRec) : Option EvRec :=
  l.foldl (fun m r => match m with | none => some r | some x => if r.before x then some r else some x) none

/-- Whether the watermark of every bench in service exceeds a time; a record not yet delivered holds its bench's
watermark at or below its timestamp (R49, R50). -/
def State.watermarksPass (s : State) (t : Nat) : Bool :=
  s.bench.all fun b => !b.inService || (t < b.watermark && (b.evBuf ++ b.evStalled).all fun r => t < r.time)

/-- EVENT_RECORD_DELIVERY (R49, R55): the oldest buffered record of a bench reaches CTL; a stalled record enters the buffer. -/
def execEventRecordDelivery (bench : Nat) (s : State) : Host.Outcome State Fault Refusal :=
  .next <|
    match (s.benchAt bench).evBuf with
    | [] => s
    | r :: rest =>
      let s := s.updBench bench fun b => { b with evBuf := rest ++ b.evStalled.take 1, evStalled := b.evStalled.drop 1 }
      (s.updEv fun e => { e with delivered := e.delivered ++ [r] }).matchShot r

/-- EVENT_LOG_ENTRY (R50, R53). -/
def execEventLogEntry (s : State) : Host.Outcome State Fault Refusal :=
  .next <|
    match earliest s.evlog.delivered with
    | none => s
    | some r =>
      if s.watermarksPass r.time then
        (s.updEv fun e => { e with delivered := e.delivered.erase r }).logRecord r
      else s

/-- Copy every uncopied record of the on-chip log to attached memory, in order (R52). -/
def State.evCopy (s : State) : State :=
  if s.evMemOk then
    let n := min 4096 (s.evTotal - s.evlog.copied)
    s.updEv fun e => { e with memLog := (e.onChip.take n ++ e.memLog).take 1048576, copied := s.evTotal }
  else s

/-- EVLOG_COPY (R52). -/
def execEvlogCopy (s : State) : Host.Outcome State Fault Refusal := .next s.evCopy

/-- Count a repaired failure of a bench (R24): beyond 16 in 1 s an instance of a replicated class is faulted; of a singleton
CTL tells, once for each time the count comes to exceed 16. -/
def State.countRepair (s : State) (b row : Nat) (hdrOk : Bool) : State :=
  let s := s.raise b 2 NOTICE 1 row
  let old := (s.benchAt b).repairs.filter fun t => !s.due (t + secU 1)
  let s := s.updBench b fun x => { x with repairs := s.now :: old, overLimit := decide (16 ≤ old.length) }
  if old.length < 16 then s
  else if (classInst b).isSome then s.faultBench b hdrOk
  else if old.length = 16 then s.raise 0 14 NOTICE 0x40 b else s

end Sys2Proof.Machine
end

