-- ==== Sys2Proof/Machine/Wire.lean ====
section
/-!
DEFINITION. Machine/Wire.lean: the bytes of an NRT packet (R71, Tables XPT-2 to XPT-5): every field big-endian, then the CRC-32C.
-/

namespace Sys2Proof.Machine

/-- n bytes of a number, the most significant first. -/
def beBytes (v n : Nat) : List Nat := (toBytes v n).reverse

/-- A big-endian field of n bytes at byte o of a payload whose first byte is in the low bits. -/
def beAt (buf o n : Nat) : Nat := swapBytes (bytesAt buf o n) n

/-- The 32 bytes of the NRT header (Table XPT-2). -/
def nrtHdrBytes (h : NrtHdr) : List Nat :=
  [16 * (h.ver % 16) + h.typ % 16,
   128 * bit h.last + 64 * bit h.ord + 32 * bit h.ackreq + 16 * bit h.ackv + 8 * bit h.renege + h.rsvd / 4096 % 8,
   16 * (h.path % 16) + h.rsvd / 256 % 16, h.kind % 256] ++
  beBytes h.dcid 3 ++ [h.rsvd % 256] ++ beBytes h.psn 4 ++ beBytes h.msgId 4 ++ beBytes h.msgOfs 4 ++ beBytes h.ackPsn 4 ++
  beBytes h.msgLimit 4 ++ beBytes h.payLen 2 ++ beBytes (4096 * (h.echoPath % 16) + h.echoCe % 4096) 2

/-- The extension header of a message kind (Table XPT-4). -/
def nrtExtBytes (e : NrtExt) : List Nat :=
  match e with
  | .none => []
  | .keyed key addr total => beBytes key 4 ++ beBytes addr 8 ++ beBytes total 4
  | .readResp req => beBytes req 4 ++ beBytes 0 4
  | .atomic key op addr o1 o2 => beBytes key 4 ++ [op % 256] ++ beBytes 0 3 ++ beBytes addr 8 ++ beBytes o1 8 ++ beBytes o2 8
  | .atomicResp req original => beBytes req 4 ++ beBytes 0 4 ++ beBytes original 8

/-- The CRC-32C over header, extension header and payload (R71). -/
def nrtCrc (h : NrtHdr) (e : NrtExt) (payload : Nat) : Nat := crc32c (nrtHdrBytes h ++ nrtExtBytes e ++ toBytes payload h.payLen)

/-- The PSNs, from ACK_PSN on, that a bitmap of n bytes acknowledges: bit 0 is bit 7 of the first byte (R83). -/
def bitmapBits (payload n : Nat) : List Nat := (List.range (8 * n)).filter fun i => hasBit payload (8 * (i / 8) + 7 - i % 8)

/-- Bytes of the bitmap that holds some bits: a multiple of 8, at most 512 (Table XPT-3). -/
def bitmapLen (bits : List Nat) : Nat := if bits.isEmpty then 0 else min 512 (8 * (listMax bits / 64 + 1))

/-- The bitmap of some bits, its first byte in the low bits. -/
def bitmapOf (bits : List Nat) : Nat := bits.foldl (fun a i => a ||| 2 ^ (8 * (i / 8) + 7 - i % 8)) 0

/-- The 32 bytes of a set-up payload (Table XPT-5). -/
def setupBytes (r : ConnectReq) : List Nat :=
  beBytes r.srcCid 4 ++ beBytes r.initPsn 4 ++ beBytes r.initMsgId 4 ++ beBytes r.msgLimit 4 ++ beBytes r.sportBase 2 ++
  [r.npaths % 256, r.payload % 256] ++ beBytes r.nonce 8 ++ [r.reason % 256] ++ beBytes r.zero 3

/-- A set-up payload read. -/
def parseSetup (p : Nat) : ConnectReq :=
  { srcCid := beAt p 0 4, initPsn := beAt p 4 4, initMsgId := beAt p 8 4, msgLimit := beAt p 12 4, sportBase := beAt p 16 2,
    npaths := beAt p 18 1, payload := beAt p 19 1, nonce := beAt p 20 8, reason := beAt p 28 1, zero := beAt p 29 3 }

/-- The content of an outbound message, its first byte in the low bits; a response capsule is the completion queue entry of NVM
Express with SQHD and SQID 0 (PRESUMED, log entry 42). -/
def OutBody.data : OutBody → Nat
  | .response cid dw0 sct sc dnr => putAt 0 4 dw0 + putAt 12 2 cid + putAt 14 2 (2 * sc + 512 * sct + 32768 * dnr)
  | .readData _ _ data => data
  | .windowData _ _ data => data
  | .fetch .. | .atomicResp .. => 0

/-- Bytes of an outbound message. -/
def OutBody.bytes : OutBody → Nat
  | .response .. => 16
  | .readData _ b _ => b.len
  | .windowData _ len _ => len
  | .fetch .. | .atomicResp .. => 0

/-- Message kind of an outbound message (Table XPT-4). -/
def OutBody.kind : OutBody → Nat
  | .response .. => 1
  | .readData .. => 2
  | .fetch .. => 3
  | .windowData .. => 4
  | .atomicResp .. => 6

/-- Extension header of an outbound message (Table XPT-4). -/
def OutBody.ext : OutBody → NrtExt
  | .response .. => .none
  | .readData _ b _ => .keyed b.key b.addr b.len
  | .fetch _ _ b => .keyed b.key b.addr b.len
  | .windowData req _ _ => .readResp req
  | .atomicResp req v => .atomicResp req v

/-- Bytes of a packet's payload (Table XPT-3). -/
def NrtBody.len (b : NrtBody) (h : NrtHdr) : Nat :=
  match b with
  | .none => 0
  | .bitmap l => bitmapLen l
  | .setup _ => 32
  | .sync _ => 8
  | .message _ => h.payLen

/-- The payload of a packet the controller sends. -/
def nrtBodyBytes (h : NrtHdr) (b : NrtBody) : List Nat :=
  match b with
  | .none => []
  | .bitmap l => toBytes (bitmapOf l) (bitmapLen l)
  | .setup r => setupBytes r
  | .sync e => beBytes e 4 ++ beBytes 0 4
  | .message m => toBytes (bytesAt m.data h.msgOfs h.payLen) h.payLen

/-- The UDP payload of a packet the controller sends (R71). -/
def nrtWire (h : NrtHdr) (e : NrtExt) (b : NrtBody) : List Nat :=
  let front := nrtHdrBytes h ++ nrtExtBytes e ++ nrtBodyBytes h b
  front ++ beBytes (crc32c front) 4

end Sys2Proof.Machine
end

