-- ==== Sys2Proof/Machine/Xport.lean ====
section
/-!
DEFINITION. Machine/Xport.lean: connection contexts and their indexes (R69, R70, R97), the receive stream of NRT
(R79 to R86), the send stream (R83, R87 to R91, R100) and its paths (R89, R90).
-/

namespace Sys2Proof.Machine

/-! ### Serial arithmetic (R76) -/

/-- The next number modulo 2^32. -/
def next32 (n : Nat) : Nat := (n + 1) % 2 ^ 32

/-- How far a lies above b modulo 2^32. -/
def dist32 (a b : Nat) : Nat := (a + 2 ^ 32 - b % 2 ^ 32) % 2 ^ 32

/-- a < b in serial arithmetic over a half range of 2^31. -/
def serialLt (a b : Nat) : Bool := a != b && dist32 b a < 2 ^ 31

/-- Whether the controller is paired (R145). -/
def State.paired (s : State) : Bool := s.isSet F.HAL_PAIR_STAT_PAIRED && s.rd F.HAL_PAIR_STAT_ROLE == 1

/-! ### The haul and the mirror (R543, R545, R546) -/

/-- The haul half that carries the next frame: the lowest-numbered half in service (log entry 61). -/
def State.haulHalf (s : State) : Option Nat :=
  if s.isSet F.HAL_PAIR_STAT_H0_UP then some 0 else if s.isSet F.HAL_PAIR_STAT_H1_UP then some 1 else none

/-- Change the pairing state. -/
def State.updPair (s : State) (f : Pair → Pair) : State := { s with pair := f s.pair }

/-- Change one half of the haul. -/
def State.updHalf (s : State) (h : Nat) (f : Half → Half) : State := s.updPair fun p => { p with halves := p.halves.modify h f }

/-- Send a sequenced frame on a channel of the haul; the sender keeps it (R543). -/
def State.haulSend (s : State) (chan : Nat) : State :=
  match s.haulHalf with
  | none => s
  | some h =>
    let x := s.pair.halves.getD h Half.cold
    let k : HaulKept := { seq := x.txSeq + 1, chan := chan, resends := 0, sentAt := s.now }
    ((s.send (.haulFrame h chan k.seq false)).bump F.HAL_TX_FRM).updHalf h fun y => { y with txSeq := k.seq, kept := y.kept ++ [k] }

/-- Send a chain frame (R530). -/
def State.chainSend (s : State) (o : Out) : State := (s.send o).bump F.CHN_TX_FRM

/-- The address held. -/
def State.addr (s : State) : Nat := s.rd F.CHN_CHAIN_STAT_ADDR

/-- Whether an address is held. -/
def State.addressed (s : State) : Bool := s.isSet F.CHN_CHAIN_STAT_ADDRESSED

/-- Send this unit's message of the pairing exchange, signed under its AK (R598), once for each exchange. -/
def State.sendPairing (s : State) : State :=
  if s.rd F.TRU_STAT_STEP != 8 || s.haulHalf.isNone || s.tru.pairNonce.isSome then s else
  let (n, s) := s.draw .nonce (2 ^ 256)
  let s : State := { s with tru := { s.tru with pairNonce := some n } }
  (s.haulSend 3).send (.pairingMessage n)

/-- Send an item to the partner's mirror (R545, R546); what awaits it goes on at the partner's acknowledgment. -/
def State.mirror (s : State) (w : MirrorWhat) (b : MirrorBody) : State :=
  let n := s.mseq + 1
  State.haulSend { s.send (.mirror n b) with mseq := n, mirrorOut := s.mirrorOut ++ [⟨n, w⟩] } 1

/-- Send an item for which nothing waits: while a partner in RESYNC is resynchronised (R545, R559). -/
def State.mirrorAlso (s : State) (b : MirrorBody) : State := if s.pair.resync.isSome then s.mirror .note b else s

/-- Send an item for which nothing waits, while there is a partner that mirrors. -/
def State.mirrorNote (s : State) (b : MirrorBody) : State :=
  if s.paired || s.pair.resync.isSome then s.mirror .note b else s

/-- The context of a connection with the controller it is bound to, as a mirror item (Table PAIR-5, KIND 1; log entry 129). -/
def State.ctxBody (s : State) (c : Conn) : MirrorBody :=
  .context c (c.queue.bind fun q => s.ctrls.find? fun k => k.index == q.1)

/-- While paired, the active sends a PWR_EN value on the FORWARD channel (R418). -/
def State.haulNote (s : State) : State := if s.paired then s.haulSend 2 else s

/-! ### Contexts -/

/-- CID of a connection (Table XPT-1). -/
def Conn.cid (c : Conn) : Nat := c.gen * 2 ^ 18 + c.index

/-- XPT role of an index (R70). -/
def State.xptRole (s : State) (index : Nat) : Nat := index % s.roleCount 0

/-- Bench that raises a role's events: the instance bound to the role. -/
def State.roleBench (s : State) (c r : Nat) : Nat := (s.boundBench c r).getD (instBench c r)

/-- The connection a CID names: allocated, of that generation, GEN not 0. -/
def State.conn? (s : State) (cid : Nat) : Option Conn :=
  s.conns.find? fun c => c.cid == cid && c.gen != 0

/-- Put back a connection. -/
def State.setConn (s : State) (c : Conn) : State :=
  { s with conns := s.conns.map fun x => if x.index = c.index then c else x }

/-- Count in a role counter of the connection's XPT role. -/
def State.bumpX (s : State) (f : Nat → Fld) (c : Conn) : State := s.bump (f c.role)

/-- Raise an XPT event at the connection's role. -/
def State.raiseX (s : State) (c : Conn) (loc sev code data : Nat) : State :=
  s.raise (s.roleBench 0 c.role) loc sev code data

/-- Reassembly entries in use at a role (R80). -/
def State.reasmUsed (s : State) (r : Nat) : Nat := ((s.conns.filter fun c => c.role == r).map fun c => c.reasm.length).sum

/-- Whether an index is free for assignment: not allocated, and not freed less than 10 ms ago (R70). -/
def State.indexFree (s : State) (i : Nat) : Bool :=
  !(s.conns.any fun c => c.index == i) && !(s.freed.any fun f => f.index == i && s.now < f.freedAt + msU 10)

/-- The lowest free index below 262,144. -/
def State.freeIndex? (s : State) : Option Nat :=
  (List.range (min 262144 (s.conns.length + s.freed.length + 1))).find? s.indexFree

/-- Generation the next connection of an index receives (R69, R70). -/
def State.nextGen (s : State) (i : Nat) : Nat :=
  match s.freed.find? fun f => f.index == i with
  | some f => f.gen
  | none => 1

/-- Whether a context may be spilled: no message in reassembly, no unacknowledged packet, not in RESYNC (R98). -/
def Conn.spillable (c : Conn) : Bool := c.reasm.isEmpty && c.una.isEmpty && c.state != .resync && !c.spilled

/-- The least recently used context of a role that may be spilled. -/
def State.spillVictim (s : State) (r : Nat) : Option Conn :=
  (s.conns.filter fun c => c.role == r && c.spillable).foldl (fun m c =>
    match m with | none => some c | some x => if c.lastUse < x.lastUse then some c else some x) none

/-- Contexts in a role's bank. -/
def State.onChip (s : State) (r : Nat) : Nat := (s.conns.filter fun c => c.role == r && !c.spilled).length

/-- Make room for one more context in a role's bank of 2,048 (R97, R98): none when no context may be spilled. -/
def State.makeRoom (s : State) (r : Nat) : Option State :=
  if s.onChip r < 2048 then some s
  else if !s.isSet F.XPT_CTX_CFG_SPILL_EN then none
  else (s.spillVictim r).map fun v => s.setConn { v with spilled := true }

/-- Send the context of a connection. -/
def State.mirrorConn (s : State) (cid : Nat) : State :=
  match s.conn? cid with
  | some c => s.mirrorNote (s.ctxBody c)
  | none => s

/-- Release an index: its generation rises, skipping 0, and it rests 10 ms (R70). -/
def State.freeConn (s : State) (c : Conn) : State :=
  { s.mirrorNote (.contextGone c.cid) with
    conns := s.conns.filter fun x => x.index != c.index
    freed := ⟨c.index, c.gen % 63 + 1, s.now⟩ :: s.freed.filter fun f => f.index != c.index }

/-- A new path (R90); its marked share starts at 0 (PRESUMED, log entry 116). -/
def Path.fresh : Path :=
  { cwnd := 16, alpha := 0, roundEnd := 0, roundMarked := false, cutThisRound := false, timeouts := 0, suspect := false,
    probeAt := 0, probeOut := false, ceToEcho := 0 }

/-- Line rate a queue pair starts from, in Mb/s: 400 Gb/s, the rate of a port (DESIGN CHOICE, log entry 18). -/
def lineRate : Rat := 400000

/-- A new context. -/
def Conn.fresh (index gen : Nat) (mode : ConnMode) (st : ConnState) (now : Nat) : Conn :=
  { index := index, role := index % 4, gen := gen, mode := mode, state := st, since := now, peerAddr := 0, peerCid := 0, peerSport := 0,
    sport := 0, npaths := 1, payload := 1024, nonce := 0, queue := none, lastRx := now, closeSent := 0, closeAt := 0, rcvPsn := 0,
    received := [], lowMark := 0, delivered := [], settled := [], granted := 0, reasm := [], unacked := 0, ackDue := none,
    ackPath := 0, renege := false, sndPsn := 0, sndMsg := 0, order := 0, una := [], waiting := [], committed := [], asked := [],
    peerLimit := 0, ceiling := 0, srtt := none, rttvar := 0, backoff := 0, creditProbeAt := 0, nextPath := 0, paths := [Path.fresh],
    epoch := 0, syncPending := none, syncPsn := 0, atomics := [], resp := [], nextTxAt := 0, rate := lineRate, target := lineRate,
    rAlpha := 1, recSteps := 0, cnpRxAt := now, cnpTxAt := none, hostCredit := none, retries := 0, rnrRetries := 0, rnrAt := none,
    ackExp := 3, nakSent := false, spilled := false, lastUse := now, held := [], heldRoce := [], fetchQueued := false }

/-- A path's state. -/
def Conn.pathAt (c : Conn) (p : Nat) : Path := c.paths.getD p Path.fresh

/-- Change one path of a connection. -/
def Conn.updPath (c : Conn) (p : Nat) (f : Path → Path) : Conn := { c with paths := c.paths.modify p f }

/-- Where the context of a spilled connection stands in the connection spill region (R97). -/
def Conn.spillOffset (c : Conn) : Nat := c.index * 1024

/-! ### Sending a packet (R71, R83, R89) -/

/-- The header of a packet that the controller sends on a path. Only DATA takes a PSN; every other packet carries the next one
(DEDUCED, log entry 112), and every packet carries ACK_PSN, the credit granted and the CE marks of its path (DESIGN CHOICE, log
entry 113). -/
def Conn.header (c : Conn) (typ path : Nat) : NrtHdr :=
  { ver := 1, typ := typ, last := false, ord := false, ackreq := false, ackv := true, renege := false, path := path, kind := 0,
    dcid := c.peerCid, rsvd := 0, psn := c.sndPsn, msgId := 0, msgOfs := 0, ackPsn := c.rcvPsn, msgLimit := c.granted, payLen := 0,
    echoPath := path, echoCe := min 4095 (c.pathAt path).ceToEcho }

/-- Send a packet on the path its header names; its echo is spent. -/
def State.nrtOut (s : State) (c : Conn) (h : NrtHdr) (e : NrtExt) (b : NrtBody) : State × Conn :=
  let h := { h with payLen := b.len h }
  ((s.send (.nrt c.peerAddr (c.sport + h.path) (s.rd F.XPT_NRT_PORT_UDP_PORT) h e b)).bumpX F.XPT_TX_PKT c,
   c.updPath h.path fun q => { q with ceToEcho := 0 })

/-- Paths in rotation order from the next one. -/
def Conn.rotation (c : Conn) : List Nat := (List.range c.npaths).map fun i => (c.nextPath + i) % max 1 c.npaths

/-- The path of a retransmission: the next in rotation that is not suspect, or with every path suspect the next (R87, R90). -/
def Conn.resendPath (c : Conn) : Nat :=
  ((c.rotation.find? fun p => !(c.pathAt p).suspect).getD (c.nextPath % max 1 c.npaths))

/-- The SYNC that a connection in RESYNC owes (R101). -/
def State.sendSync (s : State) (c : Conn) : State × Conn :=
  match c.syncPending with
  | none => (s, c)
  | some _ =>
    let e := c.epoch + 1
    let (s, c) := s.nrtOut c { c.header 9 c.resendPath with psn := c.syncPsn, renege := true } .none (.sync e)
    (s, { c with epoch := e, syncPending := none })

/-- Send a packet; a SYNC owed goes first (R101). -/
def State.nrtSend (s : State) (c : Conn) (h : NrtHdr) (e : NrtExt) (b : NrtBody) : State × Conn :=
  let (s, c) := s.sendSync c
  s.nrtOut c h e b

/-- Send a packet without payload on the next path: a CLOSE or a CLOSED (Table XPT-7). -/
def State.nrtBare (s : State) (c : Conn) (typ : Nat) : State := (s.nrtSend c (c.header typ c.resendPath) .none .none).1

/-! ### Receive stream -/

/-- Whether a message has been delivered (R81): below the low mark, or above it and delivered. -/
def Conn.isDelivered (c : Conn) (m : Nat) : Bool := serialLt m c.lowMark || c.delivered.contains m

/-- Advance the delivered low mark over delivered messages. -/
def Conn.advanceLow (c : Conn) : Nat → Conn
  | 0 => c
  | n + 1 => if c.delivered.contains c.lowMark then
      Conn.advanceLow { c with delivered := c.delivered.erase c.lowMark, lowMark := next32 c.lowMark } n
    else c

/-- Mark a message delivered. -/
def Conn.markDelivered (c : Conn) (m : Nat) : Conn :=
  let c := { c with delivered := m :: c.delivered, reasm := c.reasm.filter fun r => r.msgId != m }
  c.advanceLow c.delivered.length

/-- Advance the cumulative point over received PSNs whose message is delivered and settled (R84). -/
def Conn.advanceAck (c : Conn) : Nat → Conn
  | 0 => c
  | n + 1 =>
    match c.received.find? fun p => p.1 == c.rcvPsn with
    | some (p, m) =>
      if c.settled.contains m then
        let rest := c.received.filter fun q => q.1 != p
        let c := { c with received := rest, rcvPsn := next32 p }
        let c := if rest.any fun q => q.2 == m then c else { c with settled := c.settled.erase m }
        Conn.advanceAck c n
      else c
    | none => c

/-- A delivered message is settled: in paired operation the partner's mirror holds what it delivered (R84). -/
def Conn.settle (c : Conn) (m : Nat) : Conn :=
  if c.received.any fun p => p.2 == m then
    let c := { c with settled := m :: c.settled.filter (· != m) }
    c.advanceAck c.received.length
  else c

/-- Settle a message (R84): in paired operation once the partner holds the context with it settled (Table PAIR-5, KIND 1). -/
def State.settleMsg (s : State) (cid m : Nat) : State :=
  match s.conn? cid with
  | none => s
  | some c => if s.paired then s.mirror (.settle cid m) (s.ctxBody (c.settle m)) else s.setConn (c.settle m)

/-- The selective acknowledgments of an ACK: the received PSNs at and above the cumulative point (R83). -/
def Conn.sackBits (c : Conn) : List Nat := (c.received.map fun p => dist32 p.1 c.rcvPsn).filter fun d => d < 4096

/-- Send an ACK on a path (R83, R85); the pending ACK timer and count end, and RENEGE is spent. -/
def State.sendAck (s : State) (c : Conn) (path : Nat) : State :=
  let (s, c) := s.nrtSend c { c.header 2 path with renege := c.renege } .none (.bitmap c.sackBits)
  s.setConn { c with unacked := 0, ackDue := none, renege := false }

/-- Bytes of region CMDOVF that commands awaiting admission take: 64 and their in-capsule data rounded up to 4 KiB each (Table MEM-3). -/
def State.ovfUsed (s : State) : Nat := ((s.cmds.filter fun c => c.phase == .delivered).map fun c => 64 + ceilDiv c.bytes 4096 * 4096).sum

/-- Whether the controller may take no further command (R134): 1,048,576 are in flight, or CMDOVF has no room for one with 16 KiB in its
capsule (Table MEM-3; how full is full is a DESIGN CHOICE, log entry 147). -/
def State.limitReached (s : State) : Bool := 1048576 ≤ s.cmds.length || s.rd F.MEM_RGN_CFGB_OVF_GIB * 1073741824 < s.ovfUsed + 16448

/-- Whether the limit holds. -/
def State.inflightFull (s : State) : Bool := s.stalled

/-- Credits granted to a connection and not used: neither begun nor delivered. -/
def Conn.unusedCredit (c : Conn) : Nat :=
  let used := dist32 c.granted c.lowMark
  used - min used (c.reasm.length + c.delivered.length)

/-- Credits above the first outstanding at a role. -/
def State.extraCredits (s : State) (r : Nat) : Nat := ((s.conns.filter fun x => x.role == r).map fun x => x.unusedCredit - 1).sum

/-- Credit to an established connection (R92): one unused credit at least for a connection with no message in reassembly; above
the first while the role's entries and extra credits stay below 8,192, up to CREDIT_INIT and never above CREDIT_MAX (DESIGN
CHOICE, log entry 114); none while R134 holds. -/
def State.grantCredit (s : State) (c : Conn) : Conn :=
  let unused := c.unusedCredit
  if s.inflightFull then c
  else if unused = 0 && c.reasm.isEmpty then { c with granted := next32 c.granted }
  else if unused < min (s.rd F.XPT_CTX_CFG_CREDIT_MAX) (s.rd F.XPT_CTX_CFG_CREDIT_INIT) && s.reasmUsed c.role + s.extraCredits c.role < 8192 then
    { c with granted := next32 c.granted }
  else c

/-- The minimum grant of every connection that lacks it, when the commands in flight fall below the limit (R92). -/
def State.restoreCredits (s : State) : State :=
  (s.conns.filter fun c => c.mode == .nrt && (c.state == .established || c.state == .resync) && c.reasm.isEmpty && c.unusedCredit == 0).foldl
    (fun s c => s.sendAck { c with granted := next32 c.granted } c.ackPath) s

/-! ### Send stream -/

/-- The retransmission timeout (R88): from the smoothed samples, 100 µs before the first, doubled by each expiry up to RTO_MAX. -/
def State.rtoOf (s : State) (c : Conn) : Nat :=
  let lo := usU (s.rd F.XPT_TIMER_CFG_RTO_MIN)
  let hi := usU 100 * s.rd F.XPT_TIMER_CFG_RTO_MAX
  let computed := match c.srtt with
    | none => usU 100
    | some r => min hi (max lo (r + 4 * c.rttvar).ceil.toNat)
  min hi (computed * 2 ^ c.backoff)

/-- Smooth one round-trip sample with gains of 1/8 and 1/4; the first sets srtt to itself and rttvar to half of it (R88; PRESUMED,
log entry 115). -/
def Conn.sample (c : Conn) (rtt : Nat) : Conn :=
  let x : Rat := (rtt : Nat)
  match c.srtt with
  | none => { c with srtt := some x, rttvar := x / 2 }
  | some r => { c with srtt := some (r + (x - r) / 8), rttvar := c.rttvar + (|x - r| - c.rttvar) / 4 }

/-- Packets in flight on a path. -/
def Conn.inFlight (c : Conn) (p : Nat) : Nat := (c.una.filter fun x => x.path == p && !x.acked).length

/-- The path of a new packet: the next in rotation that is not suspect and whose window has room (R89, R90). -/
def Conn.newPath (c : Conn) : Option Nat :=
  c.rotation.find? fun p => !(c.pathAt p).suspect && (c.inFlight p : Rat) < (c.pathAt p).cwnd

/-- Packets of an outbound message. -/
def Conn.pieces (c : Conn) (b : OutBody) : Nat := max 1 ((b.bytes + c.payload - 1) / max 1 c.payload)

/-- Send the DATA packet of a record of it (R76, R87). -/
def State.sendData (s : State) (c : Conn) (p : TxPkt) : State × Conn :=
  s.nrtSend c { c.header 1 p.path with
    last := p.last, kind := p.body.kind, psn := p.psn, msgId := p.msgId, msgOfs := p.ofs, payLen := min c.payload (p.body.bytes - p.ofs) }
    p.body.ext (.message p.body)

/-- Send the next packet of an outbound message; after its last packet the message waits no longer. -/
def State.sendNext (s : State) (c : Conn) (m : OutMsg) : State × Conn :=
  let path := (c.newPath).getD c.resendPath
  let last := m.body.bytes ≤ m.ofs + c.payload
  let pkt : TxPkt := {
    psn := c.sndPsn, msgId := m.msg, ofs := m.ofs, last := last, path := path, order := c.order, sentAt := s.now,
    retx := 0, acked := false, laterAcked := 0, body := m.body }
  let (s, c) := s.sendData c pkt
  (s, { c with
    sndPsn := next32 c.sndPsn, order := c.order + 1, una := c.una ++ [pkt], nextPath := (path + 1) % max 1 c.npaths
    waiting := if last then c.waiting.filter (· != m)
      else mapIf (· == m) (fun x => { x with ofs := m.ofs + c.payload }) c.waiting })

/-- Whether a connection may send the next packet of a message now: it may leave, credit from the peer (R91), a path with room
(R90), the PSN window (R86), and in paired operation the send ceiling the partner has acknowledged (R100). -/
def State.maySend (s : State) (c : Conn) (m : OutMsg) : Bool :=
  let base := match c.una with | [] => c.sndPsn | p :: _ => p.psn
  m.ready && !s.inGap && (c.state == .established || c.state == .resync) && serialLt m.msg c.peerLimit && c.newPath.isSome
    && dist32 c.sndPsn base < 4096 && (!s.paired || serialLt c.sndPsn c.ceiling)

/-- Send packets of the messages that wait while the connection may. -/
def State.pumpN (s : State) (c : Conn) : Nat → State × Conn
  | 0 => (s, c)
  | n + 1 =>
    match c.waiting.find? (s.maySend c) with
    | none => (s, c)
    | some m =>
      let (s, c) := s.sendNext c m
      State.pumpN s c n

/-- Send what the connection may. -/
def State.pump (s : State) (c : Conn) : State × Conn := s.pumpN c (c.waiting.map fun m => c.pieces m.body).sum

/-! ### Compatible mode: what leaves a queue pair (R93 to R95) -/

/-- The values of the codes 0 to 30 of the credit field of an AETH (the InfiniBand Architecture's encoding; PRESUMED, log entry
117); code 31 is the invalid-credit code. -/
def creditValues : List Nat :=
  [0, 1, 2, 3, 4, 6, 8, 12, 16, 24, 32, 48, 64, 96, 128, 192, 256, 384, 512, 768, 1024, 1536, 2048, 3072, 4096, 6144, 8192, 12288,
   16384, 24576, 32768]

/-- The code of a number of free slots: the greatest whose value is not above it. -/
def creditCode (n : Nat) : Nat := (creditValues.filter fun v => v ≤ n).length - 1

/-- The credits that a code advertises; none for the invalid-credit code. -/
def creditOf (code : Nat) : Option Nat := creditValues[code]?

/-- Free capsule slots of a queue pair (R94). -/
def State.capsuleSlots (s : State) (c : Conn) : Nat :=
  64 - min 64 (s.cmds.filter fun x => some (x.nv.ctl, x.nv.qid) == c.queue).length

/-- Send n packets on a queue pair. -/
def State.roceSend (s : State) (c : Conn) (m : RoceOut) (n : Nat) : State :=
  (s.send (.roce c.peerAddr c.peerCid c.sport m)).bumpBy (F.XPT_TX_PKT c.role) n

/-- Send the answer to a request whose last PSN is given, with the credit of the queue pair (R94). -/
def State.roceAnsOut (s : State) (c : Conn) (psn : Nat) (a : RoceAns) : State :=
  let credit := creditCode (s.capsuleSlots c)
  match a with
  | .ack => s.roceSend c (.ack psn credit) 1
  | .read len data => s.roceSend c (.readResp psn len data credit) (max 1 ((len + c.payload - 1) / max 1 c.payload))
  | .atomic v => s.roceSend c (.atomicAck psn v credit) 1
  | .nakSeq => s.roceSend c (.nak psn 0) 1
  | .rnr => s.roceSend c (.rnrNak psn 1) 1

/-- Send the answers known, in the order of the requests, up to the first that is not. -/
def State.roceFlush (s : State) (c : Conn) : List RoceReq → State
  | [] => s.setConn { c with resp := [] }
  | r :: rest =>
    match r.ans with
    | none => s.setConn { c with resp := r :: rest }
    | some a => (s.roceAnsOut c r.psn a).roceFlush c rest

/-- The answer to a request of a queue pair is known (R84, R96, R120). -/
def State.roceAnswer (s : State) (cid psn : Nat) (a : RoceAns) : State :=
  match s.conn? cid with
  | none => s
  | some c =>
    let set := fun (p : List RoceReq × Bool) (r : RoceReq) =>
      if !p.2 && r.psn == psn && r.ans.isNone then (p.1 ++ [{ r with ans := some a }], true) else (p.1 ++ [r], p.2)
    s.roceFlush c (c.resp.foldl set ([], false)).1

/-- PSNs that an outbound message takes: one for each MTU of data, a fetch as many as its response has packets. -/
def Conn.psnsOf (c : Conn) (b : OutBody) : Nat :=
  match b with
  | .fetch _ _ k => max 1 ((k.len + c.payload - 1) / max 1 c.payload)
  | _ => c.pieces b

/-- Send an outbound compatible-mode message at its PSNs (R93); below the line rate the next may leave when the bytes of this one
have gone out at the rate (R95; DESIGN CHOICE, log entry 18). -/
def State.roceMessage (s : State) (c : Conn) (m : OutMsg) : State :=
  let n := c.pieces m.body
  let pkts := (List.range n).map fun i => ({
    psn := (m.msg + i) % 2 ^ 24, msgId := m.msg, ofs := i * c.payload, last := i + 1 == n,
    path := 0, order := c.order + i, sentAt := s.now, retx := 0, acked := false, laterAcked := 0, body := m.body } : TxPkt)
  (s.roceSend c (.message m.msg m.body) n).setConn { c with
    waiting := c.waiting.filter (· != m), order := c.order + n, una := c.una ++ pkts
    nextTxAt := s.now + ((8 * m.body.bytes * 4000 : Nat) / c.rate).ceil.toNat
    hostCredit := match m.body, c.hostCredit with | .response .., some k => some (k - 1) | _, h => h }

/-- Whether a compatible-mode requester may send a message: it may leave (R100), the queue pair is ready and not in an RNR wait, a
SEND is within the host's credit (R94), fewer than 16 READs are outstanding (Table XPT-8), and its rate permits it (R95). -/
def State.roceMay (s : State) (c : Conn) (m : OutMsg) : Bool :=
  m.ready && !s.inGap && c.state == .rts && c.rnrAt.isNone && (lineRate ≤ c.rate || s.due c.nextTxAt) &&
    (match m.body, c.hostCredit with
      | .response .., some k => 0 < k
      | .fetch .., _ => (c.una.filter fun q => match q.body with | .fetch .. => true | _ => false).length < 16
      | _, _ => true)

/-- Send waiting compatible-mode messages in order while the queue pair may. -/
def State.rocePumpN (s : State) (index : Nat) : Nat → State
  | 0 => s
  | n + 1 =>
    match s.conns.find? fun x => x.index == index with
    | some c => match c.waiting with
      | m :: _ => if s.roceMay c m then State.rocePumpN (s.roceMessage c m) index n else s
      | [] => s
    | none => s

/-- Send what a queue pair may. -/
def State.rocePump (s : State) (c : Conn) : State := s.rocePumpN c.index c.waiting.length

/-! ### Messages handed to a connection (R76, R91, R100) -/

/-- The next send ceiling, in steps of 4,096 above the next PSN (R100). -/
def Conn.nextCeiling (c : Conn) : Nat :=
  if serialLt c.sndPsn c.ceiling then (c.ceiling + 4096) % 2 ^ 32
  else (c.ceiling + 4096 * (dist32 c.sndPsn c.ceiling / 4096 + 1)) % 2 ^ 32

/-- Ask the partner for a higher send ceiling when at most 4,096 PSNs are left below it (R100). -/
def State.raiseCeiling (s : State) (c : Conn) : State :=
  let asked := s.mirrorOut.any fun m => match m.what with | .ceiling cid _ => cid == c.cid | _ => false
  if s.paired && c.mode == .nrt && !asked && !(serialLt c.sndPsn c.ceiling && 4096 < dist32 c.ceiling c.sndPsn) then
    s.mirror (.ceiling c.cid c.nextCeiling) (s.ctxBody { c with ceiling := c.nextCeiling })
  else s

/-- Send what a connection may, in its mode. -/
def State.goOn (s : State) (c : Conn) : State :=
  match c.mode with
  | .nrt => let (s, c) := s.pump c; (s.setConn c).raiseCeiling c
  | .roce => (s.setConn c).rocePump c

/-- Hand a message to the send stream of a connection under a MSG_ID reserved for it. -/
def State.transmitAs (s : State) (cid msg : Nat) (b : OutBody) : State :=
  match s.conn? cid with
  | none => s
  | some c => s.goOn { c with waiting := c.waiting ++ [{ msg := msg, ofs := 0, body := b, ready := true }], lastUse := s.now }

/-- Reserve the next MSG_ID for a message that the partner is to hold a record of before it leaves (R100). -/
def State.commitMsg (s : State) (cid : Nat) (b : OutBody) : Nat × State :=
  match s.conn? cid with
  | none => (0, s)
  | some c =>
    let s := s.setConn { c with sndMsg := next32 c.sndMsg, committed := c.committed ++ [(c.sndMsg, b)] }
    (c.sndMsg, s.mirrorConn cid)

/-- Hand a message to a connection's send stream: in NRT under its next MSG_ID, a fetch with one credit more for its response
(R91); in compatible mode at the next PSNs, in paired operation once the partner holds a record of them (R100). -/
def State.transmit (s : State) (cid : Nat) (b : OutBody) : State :=
  match s.conn? cid with
  | none => s
  | some c =>
    let c := { c with lastUse := s.now }
    match c.mode with
    | .nrt =>
      let c := { c with sndMsg := next32 c.sndMsg, waiting := c.waiting ++ [{ msg := c.sndMsg, ofs := 0, body := b, ready := true }] }
      s.goOn (match b with
        | .fetch cmd ofs _ => { c with granted := next32 c.granted, asked := c.asked ++ [((c.sndMsg + 2 ^ 32 - 1) % 2 ^ 32, cmd, ofs)] }
        | _ => c)
    | .roce =>
      let psn := c.sndPsn
      let c := { c with sndPsn := (psn + c.psnsOf b) % 2 ^ 24, sndMsg := c.sndMsg + 1
                        waiting := c.waiting ++ [{ msg := psn, ofs := 0, body := b, ready := !s.paired }] }
      let c := match b with | .fetch cmd ofs _ => { c with asked := c.asked ++ [(psn, cmd, ofs)] } | _ => c
      if s.paired then (s.setConn c).mirror (.range cid psn) (s.ctxBody c) else (s.mirrorAlso (s.ctxBody c)).goOn c

/-- Send a packet again with the same PSN and content (R87), counting it. -/
def State.resend (s : State) (c : Conn) (order : Nat) : State × Conn :=
  match c.una.find? fun p => p.order == order with
  | none => (s, c)
  | some p =>
    let path := c.resendPath
    let q := { p with path := path, order := c.order, sentAt := s.now, retx := p.retx + 1, laterAcked := 0 }
    let (s, c) := s.sendData c q
    (s.bumpX F.XPT_RETX c, { c with
      una := mapIf (fun x => x.order == order) (fun _ => q) c.una, order := c.order + 1, nextPath := (path + 1) % max 1 c.npaths })

/-- Resend several packets. -/
def State.resendAll (s : State) (c : Conn) (orders : List Nat) : State × Conn :=
  orders.foldl (fun p o => p.1.resend p.2 o) (s, c)

/-- Whether one of the packets has been resent RETRY_MAX times already, so that its loss puts the connection in ERROR (R88). -/
def State.retriesSpent (s : State) (c : Conn) (orders : List Nat) : Bool :=
  c.una.any fun p => orders.contains p.order && p.retx ≥ s.rd F.XPT_CTX_CFG_RETRY_MAX

/-- Window growth and cut of a path on an ACK (R90): `marked` CE marks echoed against the packets newly acknowledged on it. -/
def Conn.ackPathWindow (c : Conn) (p acked topOrder marked : Nat) : Conn :=
  c.updPath p fun x =>
    let x := if marked > 0 then
        let frac : Rat := min 1 ((marked : Rat) / (max marked (max 1 acked) : Nat))
        let a := (1 - 1 / 16) * x.alpha + 1 / 16 * frac
        let x := { x with alpha := a, roundMarked := true }
        if x.cutThisRound then x else { x with cwnd := max 2 (x.cwnd * (1 - a / 2)), cutThisRound := true }
      else x
    let x := if acked > 0 then { x with timeouts := 0 } else x
    if acked > 0 && topOrder ≥ x.roundEnd then
      { x with cwnd := if x.roundMarked then x.cwnd else min 256 (x.cwnd + 1), roundMarked := false, cutThisRound := false,
               roundEnd := c.order }
    else x

/-- Apply a cumulative point and selective acknowledgments to the packets unacknowledged (R83, R87, R88): the context after
it, and the orders of the packets declared lost by later packets of their paths. -/
def State.applyAck (s : State) (c : Conn) (ackPsn : Nat) (bits : List Nat) (renege : Bool) (echo : Nat × Nat) : Conn × List Nat :=
  let isAcked := fun (p : TxPkt) => serialLt p.psn ackPsn || bits.contains (dist32 p.psn ackPsn) && dist32 p.psn ackPsn < 2 ^ 31
  let newly := c.una.filter fun p => isAcked p && !p.acked
  let advanced := c.una.any fun p => serialLt p.psn ackPsn
  let una := (c.una.filter fun p => !serialLt p.psn ackPsn).map fun p =>
    let p := if renege then { p with acked := isAcked p } else { p with acked := p.acked || isAcked p }
    { p with laterAcked := p.laterAcked + (newly.filter fun q => q.path == p.path && q.order > p.order).length }
  let open_ := fun (m : Nat) => (una.any fun p => p.msgId == m) || c.waiting.any fun w => w.msg == m
  let gone := (c.una.map (·.msgId)).filter fun m => !open_ m
  let c := { c with una := una, committed := c.committed.filter fun m => !gone.contains m.1 }
  let c := (newly.filter fun p => p.retx == 0).foldl (fun (c : Conn) p => c.sample (s.now - p.sentAt)) c
  let c := if advanced then { c with backoff := 0 } else c
  let c := (List.range c.npaths).foldl (fun c p =>
    let mine := newly.filter fun q => q.path == p
    c.ackPathWindow p mine.length (listMax (mine.map (·.order))) (if p = echo.1 then echo.2 else 0)) c
  (c, (una.filter fun p => !p.acked && p.laterAcked ≥ s.rd F.XPT_CTX_CFG_LOSS_THRESH).map (·.order))

/-- The requests whose responses an acknowledgment has covered in full (R84, log entry 118). -/
def Conn.readsDone (before after : Conn) : List Nat :=
  (before.una.filterMap fun p => match p.body with | .windowData req .. => some req | _ => none).dedup.filter fun req =>
    let mine := fun (b : OutBody) => match b with | .windowData r .. => r == req | _ => false
    !(after.una.any fun p => mine p.body) && !after.waiting.any fun m => mine m.body

/-- A path on which the ACK to a PROBE arrives is restored (R90, event local 10). -/
def State.restorePath (s : State) (c : Conn) (p : Nat) : State × Conn :=
  if (c.pathAt p).suspect && (c.pathAt p).probeOut then
    (s.raiseX c 10 INFO 7 (c.cid + 2 ^ 24 * p), c.updPath p fun x => { x with suspect := false, timeouts := 0, probeOut := false })
  else (s, c)

end Sys2Proof.Machine
end

