-- ==== Sys2Proof/Machine/Hosts.lean ====
section
/-!
DEFINITION. Machine/Hosts.lean: identities, controllers, queues, namespaces and commands as tables; completions (R142, R146,
R100), notices (R197), lost ranges and marks (R163, R194).
-/

namespace Sys2Proof.Machine

/-! ### Status values (Tables CMD-8 and CMD-14) -/

/-- A completion status: SCT, SC, do-not-retry. -/
structure Status where
  sct : Nat
  sc : Nat
  dnr : Nat
deriving DecidableEq, Repr

def St.ok : Status := ⟨0, 0, 0⟩
def St.opcode : Status := ⟨0, 0x01, 1⟩
def St.field : Status := ⟨0, 0x02, 1⟩
def St.transfer : Status := ⟨0, 0x04, 0⟩
def St.internal : Status := ⟨0, 0x06, 0⟩
def St.nsInvalid : Status := ⟨0, 0x0B, 1⟩
def St.sequence : Status := ⟨0, 0x0C, 1⟩
def St.sglLength : Status := ⟨0, 0x0F, 1⟩
def St.sglType : Status := ⟨0, 0x11, 1⟩
def St.prpOffset : Status := ⟨0, 0x13, 1⟩
def St.denied : Status := ⟨0, 0x15, 1⟩
def St.preempted : Status := ⟨0, 0x1B, 0⟩
def St.lbaRange : Status := ⟨0, 0x80, 1⟩
def St.capacity : Status := ⟨0, 0x81, 0⟩
def St.nsNotReady : Status := ⟨0, 0x82, 0⟩
def St.conflict : Status := ⟨0, 0x83, 1⟩
def St.cqInvalid : Status := ⟨1, 0x00, 1⟩
def St.badDelete : Status := ⟨1, 0x0C, 0⟩
def St.aerLimit : Status := ⟨1, 0x05, 0⟩
def St.badQid : Status := ⟨1, 0x01, 1⟩
def St.badQsize : Status := ⟨1, 0x02, 1⟩
def St.abortLimit : Status := ⟨1, 0x03, 1⟩
def St.fwSlot : Status := ⟨1, 0x06, 1⟩
def St.fwImage : Status := ⟨1, 0x07, 1⟩
def St.badVector : Status := ⟨1, 0x08, 1⟩
def St.badFormat : Status := ⟨1, 0x0A, 1⟩
def St.fwReset : Status := ⟨1, 0x0B, 1⟩
def St.notSaveable : Status := ⟨1, 0x0D, 1⟩
def St.fwProhibited : Status := ⟨1, 0x13, 0⟩
def St.noCapacity : Status := ⟨1, 0x15, 0⟩
def St.noNsid : Status := ⟨1, 0x16, 0⟩
def St.attached : Status := ⟨1, 0x18, 1⟩
def St.nsPrivate : Status := ⟨1, 0x19, 1⟩
def St.notAttached : Status := ⟨1, 0x1A, 1⟩
def St.ctrlList : Status := ⟨1, 0x1C, 1⟩
def St.connBusy : Status := ⟨1, 0x81, 0⟩
def St.connParam : Status := ⟨1, 0x82, 1⟩
def St.connHost : Status := ⟨1, 0x84, 1⟩
def St.authRequired : Status := ⟨1, 0x91, 0⟩
def St.writeFault : Status := ⟨2, 0x80, 0⟩
def St.unrecovered : Status := ⟨2, 0x81, 1⟩
def St.guard : Status := ⟨2, 0x82, 1⟩
def St.appTag : Status := ⟨2, 0x83, 1⟩
def St.refTag : Status := ⟨2, 0x84, 1⟩
def St.compare : Status := ⟨2, 0x85, 1⟩
def St.deferred : Status := ⟨7, 0x80, 0⟩
def St.lostNotice : Status := ⟨7, 0x81, 0⟩
def St.window : Status := ⟨7, 0x82, 0⟩

/-! ### Tables -/

def State.ident? (s : State) (i : Nat) : Option Ident := s.idents.find? fun x => x.index == i
def State.updIdent (s : State) (i : Nat) (f : Ident → Ident) : State := { s with idents := mapIf (fun x => x.index == i) f s.idents }
def State.ctrl? (s : State) (i : Nat) : Option Ctrl := s.ctrls.find? fun x => x.index == i
def State.updCtrl (s : State) (i : Nat) (f : Ctrl → Ctrl) : State := { s with ctrls := mapIf (fun x => x.index == i) f s.ctrls }
def State.ns? (s : State) (n : Nat) : Option Namespace := s.nss.find? fun x => x.nsid == n
def State.updNs (s : State) (n : Nat) (f : Namespace → Namespace) : State := { s with nss := mapIf (fun x => x.nsid == n) f s.nss }
def State.cmd? (s : State) (id : Nat) : Option Cmd := s.cmds.find? fun x => x.id == id
def State.updCmd (s : State) (id : Nat) (f : Cmd → Cmd) : State := { s with cmds := mapIf (fun x => x.id == id) f s.cmds }

/-- A submission queue of a controller. -/
def Ctrl.queue? (c : Ctrl) (q : Nat) : Option Queue := c.queues.find? fun x => x.qid == q && !x.isCq

/-- Change a submission queue of a controller. -/
def State.updQueue (s : State) (ctl q : Nat) (f : Queue → Queue) : State :=
  s.updCtrl ctl fun c => { c with queues := mapIf (fun x => x.qid == q && !x.isCq) f c.queues }

/-- The queue a command came on. -/
def State.queueOf (s : State) (n : NvmeCmd) : Option Queue := (s.ctrl? n.ctl).bind fun c => c.queue? n.qid

/-- The identity a controller serves. -/
def State.identOf (s : State) (ctl : Nat) : Option Ident := ((s.ctrl? ctl).bind (·.ident)).bind s.ident?

/-- Whether an identity holds a privilege of Table NSA-2. -/
def State.hasPriv (s : State) (ctl bitNo : Nat) : Bool :=
  match s.identOf ctl with
  | some i => hasBit i.priv bitNo
  | none => false

/-- Whether a namespace is attached to a controller, through its identity (R187). -/
def State.nsAttached (s : State) (ctl nsid : Nat) : Bool :=
  match s.ns? nsid, (s.ctrl? ctl).bind (·.ident) with
  | some n, some i => n.attached.contains i && !n.deleting
  | _, _ => false

/-- CMD role of a command other than a Flush of every namespace (R130): admin and Fabrics commands go by the controller index. -/
def cmdRole (n : NvmeCmd) : Nat := if n.qid = 0 || n.opc = 0x7F then n.ctl % 4 else n.nsid % 4

/-- Namespaces a command covers: a Flush of all covers what is attached to its controller (R154). -/
def State.cmdNss (s : State) (v : NvmeCmd) : List Nat :=
  if v.opc = 0x00 && v.qid != 0 && v.nsid = 0xFFFFFFFF then (s.nss.filter fun n => s.nsAttached v.ctl n.nsid).map (·.nsid) else [v.nsid]

/-- Every CMD role of a command: a Flush of all goes to each role that serves a namespace it covers (R130); one that covers none to
the role of its NSID (log entry 126). -/
def State.cmdRoles (s : State) (v : NvmeCmd) : List Nat :=
  if v.opc = 0x00 && v.qid != 0 && v.nsid = 0xFFFFFFFF && !(s.cmdNss v).isEmpty then ((s.cmdNss v).map (· % 4)).dedup else [cmdRole v]

/-- Count a command in a counter of each of its roles. -/
def State.bumpCmd (s : State) (f : Nat → Fld) (v : NvmeCmd) : State := (s.cmdRoles v).foldl (fun s r => s.bump (f r)) s

/-- LAY role (and SVY role) of a group (R225, R269). -/
def layRole (g : Nat) : Nat := g % 2

/-- Raise an event at the CMD role of a number. -/
def State.raiseCmd (s : State) (r loc sev code data : Nat) : State := s.raise (s.roleBench 1 r) loc sev code data
/-- Raise an event at the LAY role of a group. -/
def State.raiseLay (s : State) (g loc sev code data : Nat) : State := s.raise (s.roleBench 3 (layRole g)) loc sev code data
/-- Raise an event at the SVY role of a group. -/
def State.raiseSvy (s : State) (g loc sev code data : Nat) : State := s.raise (s.roleBench 2 (layRole g)) loc sev code data

/-! ### Roles and the endpoint's fetches (R457, R477, R483) -/

/-- Whether the haul port can carry frames. -/
def State.haulUp (s : State) : Bool := s.isSet F.HAL_PAIR_STAT_H0_UP || s.isSet F.HAL_PAIR_STAT_H1_UP

/-- Whether this controller is the active one (Table PAIR-7). -/
def State.isActive (s : State) : Bool := s.rd F.HAL_PAIR_STAT_ROLE == 1 || s.rd F.HAL_PAIR_STAT_ROLE == 3

/-- Whether the partner is active. -/
def State.partnerActive (s : State) : Bool := s.rd F.HAL_PAIR_STAT_PEER_ROLE == 1 || s.rd F.HAL_PAIR_STAT_PEER_ROLE == 3

/-- Whether this unit, as the standby, relays to the active (R477). -/
def State.relays (s : State) : Bool := s.rd F.HAL_PAIR_STAT_ROLE == 2 && s.haulUp && s.partnerActive

/-- Controller index of a function of this unit, or of the unit with the other SLOT_B (R475). -/
def epIndex (slotB f : Nat) : Nat := 16383 - 64 * slotB - f

/-- The function of this unit's endpoint that a controller is. -/
def State.epFuncOf (s : State) (ctl : Nat) : Option Nat :=
  let top := epIndex (s.rd F.CTL_BOOT_STAT_SLOT_B) 0
  if ctl ≤ top && top < ctl + 64 && ((s.ctrl? ctl).bind (·.func)).isSome then some (top - ctl) else none

def State.epf (s : State) (f : Nat) : EpFunc := s.epfs.getD f EpFunc.cold
def State.updEpf (s : State) (f : Nat) (g : EpFunc → EpFunc) : State := { s with epfs := s.epfs.modify f g }

/-- A TLP is sent or received; the link leaves L1 for it. -/
def State.epTlp (s : State) : State := { s with epTlpAt := s.now, epL1 := false }

/-- Whether a function may issue requests: bus mastering, D0, link in service (R485, R487, R491). -/
def State.epMayIssue (s : State) (f : Nat) : Bool :=
  (s.epf f).bme && !(s.epf f).d3 && s.isSet F.EPT_STAT_LINK_UP && !s.isSet F.EPT_STAT_FROZEN

/-- Controller index of an own function. -/
def State.epIdx (s : State) (f : Nat) : Nat := epIndex (s.rd F.CTL_BOOT_STAT_SLOT_B) f

/-- Issue a read of EPT under the lowest free tag; none of the 768 free leaves it unissued. -/
def State.epRead (s : State) (f : Nat) (w : EpWhat) (second : Bool) : Option State :=
  match (List.range 768).find? fun t => !s.epReads.any fun r => r.tag == t with
  | none => none
  | some t =>
    let r : EpRead := { tag := t, func := f, what := w, issued := s.now, second := second, quarAt := none, byReset := false }
    some ((((State.send { s with epReads := s.epReads ++ [r] } (.epRead f t w)).bump F.EPT_RD_REQ)).epTlp)

/-- Whether entries of a queue may be fetched now: none while the limit of R134 holds. -/
def State.epMayFetch (s : State) (f : Nat) (k : Ctrl) : Bool :=
  s.epMayIssue f && bits k.csts 1 0 == 1 && hasBit k.cc 0 && !s.stalled && (s.isActive || s.relays)

/-- Ask for the next entries of a submission queue, up to 8 in one read, one read of a queue at a time. -/
def State.epFetchSq (s : State) (f qid : Nat) : State :=
  let idx := s.epIdx f
  match s.ctrl? idx with
  | none => s
  | some k => match k.queue? qid with
    | none => s
    | some q =>
      let busy := s.epReads.any fun r => r.func == f && r.quarAt.isNone && (match r.what with | .sqe c i _ _ => c == idx && i == qid | _ => false)
      let avail := if q.head ≤ q.tail then q.tail - q.head else q.size - q.head
      if busy || avail = 0 || !s.epMayFetch f k then s
      else match s.epRead f (.sqe idx qid q.head (min 8 avail)) false with
        | some (t : State) => t
        | none => s

/-- Ask for entries of every submission queue of a function. -/
def State.epFetchAll (s : State) (f : Nat) : State :=
  match s.ctrl? (s.epIdx f) with
  | none => s
  | some k => ((k.queues.filter fun q => !q.isCq).map (·.qid)).foldl (fun (s : State) q => s.epFetchSq f q) s

/-- CSTS.RDY rises at an enabled function once every write that an earlier reset left running has ended (R481). -/
def State.syncReady (s : State) : State :=
  { s with
    ctrls := s.ctrls.map fun k =>
      if k.func.isSome && hasBit k.cc 0 && bits k.csts 1 0 == 0 && !s.cmds.any (fun c => c.nv.ctl == 4294967296 + k.index)
      then { k with csts := k.csts + 1 } else k }

/-- Command slots in use at a role: its commands admitted (R134). -/
def State.slotsUsed (s : State) (r : Nat) : Nat :=
  (s.cmds.filter fun c => c.phase != .delivered && (s.cmdRoles c.nv).contains r).length

/-- Bring CMD_INFLIGHT in line with the commands in flight (R171); when the count falls below the limit every connection has its
minimum grant again (R92, R134) and the endpoint fetches entries again (R483). -/
def State.syncCmds (s : State) : State :=
  let s := s.syncReady
  let full := s.stalled
  let s : State := { s.wr F.CMD_INFLIGHT_TOTAL (min 1048576 s.cmds.length) with stalled := s.limitReached }
  if full && !s.stalled then (List.range (s.rd F.EPT_STAT_NUM_VF + 1)).foldl (fun (s : State) f => s.epFetchAll f) s.restoreCredits else s

/-! ### Completions -/

/-- Whether one command of a queue was received before another (R142): by MSG_ID on an NRT queue; elsewhere commands are delivered
in the order of the queue. -/
def Cmd.receivedBefore (x c : Cmd) : Bool :=
  match x.nv.msg, c.nv.msg with
  | some a, some b => serialLt a b
  | _, _ => x.id < c.id

/-- Commands of the same queue received before a command and not ended. -/
def State.before (s : State) (c : Cmd) : List Cmd :=
  s.cmds.filter fun x => x.id != c.id && x.nv.ctl == c.nv.ctl && x.nv.qid == c.nv.qid && x.receivedBefore c

/-- Whether every message of an NRT queue before a command's capsule has been delivered (R142; DEDUCED, log entry 127). -/
def State.earlierHere (s : State) (c : Cmd) : Bool :=
  match c.nv.msg, (s.queueOf c.nv).bind (·.conn) with
  | some m, some cid => (s.conn? cid).all fun k => serialLt m k.lowMark
  | _, _ => true

/-! ### What the endpoint writes and reads at the host (R477, R483, R484, R487) -/

/-- The completion queue of a submission queue of a controller. -/
def Ctrl.cqOf (k : Ctrl) (qid : Nat) : Option Queue :=
  (k.queue? qid).bind fun q => k.queues.find? fun x => x.isCq && x.qid == q.cqid

/-- Send or hold back the message of a vector (R484). -/
def State.epInterrupt (s : State) (f vector : Nat) : State :=
  if (s.epf f).unmasked.contains vector then s.send (.msix f vector)
  else s.updEpf f fun x => { x with pba := (vector :: x.pba).dedup }

/-- Write one completion queue entry, when its queue has room; none when it has not. -/
def State.epEntry (s : State) (f ctl qid : Nat) (o : Out) : Option State :=
  match (s.ctrl? ctl).bind (·.cqOf qid) with
  | none => some s
  | some c =>
    if (c.tail + 1) % max 1 c.size = c.head then none else
    let s := s.updCtrl ctl fun k => { k with
      queues := mapIf (fun x => x.isCq && x.qid == c.qid) (fun x => { x with
        tail := (x.tail + 1) % max 1 x.size, phase := if (x.tail + 1) % max 1 x.size = 0 then !x.phase else x.phase }) k.queues }
    let s := (((s.send o).bump F.EPT_CQE_POST).bump F.EPT_WR_REQ).epTlp
    some (if c.ien then s.epInterrupt f c.vector else s)

/-- Write to the host what waits for a function, in order, while the function may issue; an entry whose completion queue is
full waits, and what follows with it. -/
def State.epFlush (s : State) (f : Nat) : State :=
  let l := (s.epf f).held
  if !s.epMayIssue f || l.isEmpty then s else
  l.foldl (fun s o =>
    if !((s.epf f).held.isEmpty) then s.updEpf f fun x => { x with held := x.held ++ [o] } else
    match o with
    | .epCompletion ctl qid _ _ _ _ _ => match s.epEntry f ctl qid o with
      | some t => t
      | none => s.updEpf f fun x => { x with held := [o] }
    | _ => ((s.send o).bump F.EPT_WR_REQ).epTlp) ({ s.updEpf f fun x => { x with held := [] } with epCmdAt := s.now })

/-- Data or a completion for the host of a controller: to the endpoint function that it is, else to the outside. -/
def State.toHost (s : State) (ctl : Nat) (o : Out) : State :=
  match s.epFuncOf ctl with
  | some f => (s.updEpf f fun x => { x with held := x.held ++ [o] }).epFlush f
  | none => s.send o

/-- Reads of EPT that are quarantined, saturating in EPT_STAT.QUAR, with the notice of R490. -/
def State.syncEpQuar (s : State) : State :=
  let n := (s.epReads.filter fun r => r.quarAt.isSome).length
  let s := s.wr F.EPT_STAT_QUAR (min 768 n)
  if 256 < n then (if s.epQuarNotice then s else { s.raise 6 13 NOTICE 0x0A n with epQuarNotice := true })
  else { s with epQuarNotice := false }

/-- Issue what a function's data fetches still need, while it may issue and its controller is not in fatal status. -/
def State.epIssue (s : State) (f : Nat) : State :=
  let fatal := (s.ctrl? (epIndex (s.rd F.CTL_BOOT_STAT_SLOT_B) f)).any fun k => hasBit k.csts 1
  if !s.epMayIssue f || fatal then s else
  (s.epFetches.filter fun x => x.func == f).foldl (fun (s : State) x =>
    x.left.foldl (fun (s : State) p =>
      match s.epRead f (.data x.cmd p.1 p.2.1) p.2.2 with
      | some (t : State) => { t with
          epFetches := mapIf (fun (y : EpFetch) => y.cmd == x.cmd) (fun y => { y with left := y.left.filter fun q => q.1 != p.1 }) t.epFetches }
      | none => s) s) s

/-- Fetch the write data of an endpoint command in reads of at most 4,096 bytes (R483); of a function of the partner's
endpoint, over the haul (R477). -/
def State.epStartFetch (s : State) (ctl cmd len : Nat) : State :=
  match s.epFuncOf ctl with
  | some f =>
    let x : EpFetch := {
      cmd := cmd, func := f, len := len, got := [],
      left := (List.range (ceilDiv len 4096)).map fun i => (4096 * i, min 4096 (len - 4096 * i), false) }
    State.epIssue { s with epFetches := s.epFetches.filter (fun y => y.cmd != cmd) ++ [x] } f
  | none => s.send (.epFetch cmd len)

/-- A command is gone: its fetch ends; reads outstanding for it stay until their completions arrive. -/
def State.epDropFetch (s : State) (cmd : Nat) : State := { s with epFetches := s.epFetches.filter fun y => y.cmd != cmd }

/-- Send a completion on the queue the command came on, under the MSG_ID reserved for it if one was; a response that already waits
under it is sent once (R103). -/
def State.respond (s : State) (n : NvmeCmd) (dw0 : Nat) (st : Status) (msg : Option Nat) : State :=
  let body : OutBody := .response n.cid dw0 st.sct st.sc st.dnr
  match s.queueOf n with
  | none => s
  | some q => match q.conn, msg with
    | some cid, some m => if (s.conn? cid).any fun c => c.waiting.any fun w => w.msg == m then s else s.transmitAs cid m body
    | some cid, none => s.transmit cid body
    | none, _ => s.toHost n.ctl (.epCompletion n.ctl n.qid n.cid dw0 st.sct st.sc st.dnr)

/-- The namespace as it now is, or its end, as a mirror item (Table PAIR-5, KIND 8). -/
def State.nsBody (s : State) (nsid : Nat) (done : Option (Nat × Nat)) : MirrorBody :=
  match s.ns? nsid with
  | some n => .ns n (s.keyTab.find? fun e => e.slot == nsid - 1) done
  | none => .nsGone nsid done

/-- Send the namespace as it now is to the partner's mirror. -/
def State.mirrorNs (s : State) (nsid : Nat) : State := s.mirrorNote (s.nsBody nsid none)

/-- Send the namespace as a command leaves it, with the dword 0 of the command: its effect has reached the copy (R174, R555). -/
def State.mirrorEffect (s : State) (nsid cmd dw0 : Nat) : State := s.mirrorNote (s.nsBody nsid (some (cmd, dw0)))

/-- Send an identity as it now is to the partner's mirror, or its end (Table PAIR-5, KIND 8). -/
def State.mirrorIdent (s : State) (i : Nat) : State :=
  s.mirrorNote (match s.ident? i with | some x => .ident x | none => .identGone i)

/-- A profile as its 64 bytes give it (Table QOS-1). -/
def parseProfile (d : Nat) : Profile :=
  { maxKbps := bytesAt d 0 4, maxWkbps := bytesAt d 4 4, maxIops := bytesAt d 8 4, minKbps := bytesAt d 12 4, weight := bytesAt d 16 2,
    lclass := bytesAt d 18 1, burst := bytesAt d 19 1 }

/-- What a Set Features changes when it completes: C1h the ordering mode of its queue (R144, Table CMD-5), C0h a profile (R202). -/
def State.setAtPost (s : State) (v : NvmeCmd) : State :=
  let m : QMode := match bits v.cdw11 17 16 with | 0 => .free | 1 => .orderedWrites | _ => .strict
  let onQueue := fun (q : Nat) (f : Queue → Queue) =>
    let s := s.updQueue v.ctl q f
    match ((s.ctrl? v.ctl).bind fun k => k.queue? q).bind (·.conn) with
    | some cid => s.mirrorConn cid
    | none => s
  if !(v.qid = 0 && v.opc = 0x09) then s
  else if v.cdw10 % 256 = 0xC1 then onQueue (bits v.cdw11 15 0) fun q => { q with mode := m }
  else if v.cdw10 % 256 != 0xC0 then s
  else if v.cdw11 % 4 = 0 then s.updNs v.nsid fun n => { n with profile := parseProfile v.data }
  else onQueue (bits v.cdw11 31 16) fun q => { q with profile := parseProfile v.data }

/-- Post a completion: the command leaves the commands in flight (R134). -/
def State.post (s : State) (c : Cmd) : State :=
  match c.result with
  | none => s
  | some (dw0, sct, sc, dnr) =>
    let s : State := { s with cmds := s.cmds.filter fun x => x.id != c.id }
    let s : State := if sct = 0 && sc = 0 then s.setAtPost c.nv else s
    let s : State := if (s.queueOf c.nv).isSome then (s.bumpCmd F.CMD_DONE c.nv).respond c.nv dw0 ⟨sct, sc, dnr⟩ c.respMsg else s
    (s.mirrorNote (.slotGone c.id)).syncCmds

/-- Whether a command's completion may be posted or sent to the mirror: its result is known, and for an ordered command
every command its queue received before it has completed (R142). -/
def State.mayPost (s : State) (c : Cmd) : Bool := c.result.isSome && (!c.ordered || (s.before c).isEmpty)

/-- In paired operation the record of a completion names the MSG_ID of its response (R100). -/
def State.reserveResponse (s : State) (c : Cmd) : State :=
  match (s.queueOf c.nv).bind (·.conn), c.result with
  | some cid, some (dw0, sct, sc, dnr) =>
    if (s.conn? cid).any fun k => k.mode == .nrt then
      let (m, s) := s.commitMsg cid (.response c.nv.cid dw0 sct sc dnr)
      s.updCmd c.id fun x => { x with respMsg := some m }
    else s
  | _, _ => s

/-- Post a completion whose conditions hold, or in paired operation send its record to the partner first (R100, R146). -/
def State.tryPost (s : State) (id : Nat) : State :=
  match s.cmd? id with
  | none => s
  | some c =>
    if !s.mayPost c || c.phase == .mirrored then s
    else if s.paired then
      let s := (s.reserveResponse c).updCmd id fun x => { x with phase := .mirrored }
      match s.cmd? id with
      | some x => s.mirror (.completion id) (.commit x)
      | none => s
    else s.post c

/-- A command has met its completion conditions, with its result (R146). -/
def State.setMet (s : State) (id dw0 : Nat) (st : Status) : State :=
  s.updCmd id fun c => { c with phase := .met, result := some (dw0, st.sct, st.sc, st.dnr) }

/-- End a command whose conditions hold at once: an admin command, or one that is not executed. -/
def State.finish (s : State) (id dw0 : Nat) (st : Status) : State := (s.setMet id dw0 st).tryPost id

/-- Whether a planned handover drains this unit: nothing is dispatched, no stripe opens and background work pauses (R557). -/
def State.draining (s : State) : Bool := s.pair.handover.isSome

/-! ### Asynchronous notices (R197) -/

/-- Bit of feature 0Bh that enables a notice: the standard's bits 8 and 9, Fornor's 16 and 17; none for notices that are
always enabled. -/
def noticeBit (typ info : Nat) : Option Nat :=
  if typ = 2 then some (8 + info) else if typ = 7 then some (if info = 0xC0 then 16 else 17) else none

/-- A feature's value at a controller; 0 before any Set Features (log entry 23). -/
def Ctrl.feature (c : Ctrl) (fid : Nat) : Nat := ((c.features.find? fun p => p.1 == fid).map (·.2)).getD 0

/-- Send waiting notices while requests are outstanding. -/
def State.sendNotices (s : State) (ctl : Nat) : Nat → State
  | 0 => s
  | n + 1 =>
    match s.ctrl? ctl with
    | none => s
    | some c => match c.aers, c.notices with
      | id :: rest, (t, i, p) :: more =>
        let s := s.updCtrl ctl fun x => { x with aers := rest, notices := more, unread := (t, i, p) :: x.unread }
        State.sendNotices (s.finish id (t + 256 * i + 65536 * p) St.ok) ctl n
      | _, _ => s

/-- Give a notice to a controller: not while one of its type is waiting or not yet read (R197). -/
def State.notice (s : State) (ctl typ info page : Nat) : State :=
  match s.ctrl? ctl with
  | none => s
  | some c =>
    let enabled := match noticeBit typ info with
      | some b => hasBit (c.feature 0x0B) b
      | none => true
    if !enabled || c.notices.contains (typ, info, page) || c.unread.contains (typ, info, page) then s
    else (s.updCtrl ctl fun x => { x with notices := x.notices ++ [(typ, info, page)] }).sendNotices ctl 1

/-- Give a notice to every controller of the identities that pass a test. -/
def State.noticeAll (s : State) (p : Nat → Bool) (typ info page : Nat) : State :=
  s.ctrls.foldl (fun s c => match c.ident with
    | some i => if p i then s.notice c.index typ info page else s
    | none => s) s

/-- A namespace's attachment or format changes for identities: their controllers' Changed Namespace List holds it, and they are told
(Table NSA-12). -/
def State.nsChanged (s : State) (nsid : Nat) (p : Nat → Bool) : State :=
  State.noticeAll { s with
    ctrls := mapIf (fun (k : Ctrl) => k.ident.any p) (fun k => { k with changed := (nsid :: k.changed).dedup }) s.ctrls } p 2 0 4

/-- Whether feature 82h of a controller masks a type of reservation notification for a namespace. -/
def Ctrl.masksResv (k : Ctrl) (nsid typ : Nat) : Bool := hasBit (k.feature (0x82 + 256 * nsid)) typ

/-- Log a reservation notification at the controllers of identities that do not mask it, and tell them: type 1 registration preempted,
2 reservation released, 3 reservation preempted (R191; NVM Express Base 2.0: PRESUMED, log entry 139). -/
def State.resvNotice (s : State) (nsid typ : Nat) (p : Nat → Bool) : State :=
  (s.ctrls.filter fun k => k.ident.any p && !k.masksResv nsid typ).foldl (fun (s : State) k =>
    (s.updCtrl k.index fun x => { x with
      resvLog := x.resvLog ++ [(typ, nsid)], resvCount := if x.resvCount + 1 < 2 ^ 64 then x.resvCount + 1 else 1 }).notice k.index 6 0 0x80) s

/-! ### Lost ranges (R163, R194) -/

/-- Record a lost range of a namespace: LOST_SEQ, the entry of page C0h (merged into the last while 4,096 are held), the
marks of the identities attached, the event, and the notices. -/
def State.recordLost (s : State) (nsid slba nlb cause : Nat) : State :=
  match s.ns? nsid with
  | none => s
  | some n =>
    let blocks := (List.range nlb).map (slba + ·)
    let full := n.lost.length ≥ 4096
    let lost := if full then
        n.lost.dropLast ++ (n.lost.getLast?.toList.map fun e => { e with nlb := e.nlb + nlb, remain := e.remain ++ blocks })
      else n.lost ++ [⟨slba, nlb, blocks, cause, s.now⟩]
    let s := s.updNs nsid fun x => { x with
      lostSeq := x.lostSeq + 1, lost := lost, overflow := x.overflow || full, marks := (x.marks ++ x.attached).dedup }
    let s := s.raiseCmd (nsid % 4) 4 NOTICE 1 nsid
    (s.noticeAll (fun i => n.attached.contains i) 7 0xC0 0xC0).mirrorNs nsid

/-- Whether a block lies in a lost range and is still lost. -/
def Namespace.isLost (n : Namespace) (lba : Nat) : Bool := n.lost.any fun r => r.remain.contains lba

/-- A block is no longer lost (R194). -/
def State.clearLost (s : State) (nsid lba : Nat) : State :=
  s.updNs nsid fun n => { n with lost := (n.lost.map fun r => { r with remain := r.remain.erase lba }).filter fun r => !r.remain.isEmpty }

/-- Mark every identity attached to a namespace without an entry of page C0h (R281, Table TLY-7). -/
def State.markAttached (s : State) (nsid : Nat) : State :=
  (s.updNs nsid fun n => { n with marks := (n.marks ++ n.attached).dedup }).mirrorNs nsid

/-! ### Serving state -/

/-- Role of this controller of Table HAL roles, from HAL_PAIR_STAT.ROLE. -/
def State.halRole (s : State) : Nat := s.rd F.HAL_PAIR_STAT_ROLE

/-- Bytes of a block as a host moves it: with protection information unless PRACT strips or generates it (R135). -/
def moveBytes (lbaf : Nat) (pract : Bool) : Nat := 4096 + if pract then 0 else piBytes lbaf

end Sys2Proof.Machine
end

