-- ==== Sys2Proof/Machine/Groups.lean ====
section
/-!
DEFINITION. Machine/Groups.lean: layout groups (R223 to R229), members in service, rows and free positions (R242), the
figures of LAY_GSTAT, space hold (R253) and entry scarcity (R243), the sizes of the survey area (R263, R264).
-/

namespace Sys2Proof.Machine

def State.group (s : State) (g : Nat) : Group := s.groups.getD g Group.cold
def State.updGroup (s : State) (g : Nat) (f : Group → Group) : State := { s with groups := s.groups.modify g f }
def State.slot (s : State) (n : Nat) : Slot := s.slots.getD n Slot.cold
def State.updSlot (s : State) (n : Nat) (f : Slot → Slot) : State := { s with slots := s.slots.modify n f }

/-- Whether an output of a slot is written 1 (Table DRP-7): 0 PERST_N, 1 PWR_EN, 2 LED_FAULT_N, 3 LED_LOCATE_N. -/
def State.outSet (s : State) (n bitNo : Nat) : Bool := hasBit (s.sbcWant.getD (n / 8) 0) (4 * (n % 8) + bitNo)

/-- Write an output of a slot; the slot takes it at the second SBC_LOAD from then (R415). -/
def State.setOut (s : State) (n bitNo : Nat) (v : Bool) : State :=
  { s with sbcWant := s.sbcWant.modify (n / 8) fun w => let b := 4 * (n % 8) + bitNo; w - bit (hasBit w b) * 2 ^ b + bit v * 2 ^ b }

/-- Send a slot's state, absence entry, order and PWR_EN to the partner's mirror (Table PAIR-5, KIND 9). -/
def State.mirrorSlot (s : State) (n : Nat) : State := s.mirrorNote (.member n (s.slot n) (s.outSet n 1))

/-- Change the state of a slot with what else of it changes; an order for it has ended. -/
def State.changeSlot (s : State) (n st : Nat) (f : Slot → Slot) : State :=
  ((s.updSlot n fun x => f { x with state := st, order := false }).wr (F.LAY_MSTAT_STATE n) st).mirrorSlot n

/-- Check slabs of a geometry code (Table LOG-1). -/
def geomM (geom : Nat) : Nat := if geom = 1 || geom = 3 then 1 else 2
/-- Whether a geometry code is a mirror layout. -/
def geomMirror (geom : Nat) : Bool := geom == 3 || geom == 4

/-- Settings of a group: GEOM, k, m, members in ascending slot order (R223). -/
structure Geo where
  geom : Nat
  k : Nat
  m : Nat
  members : List Nat
deriving DecidableEq, Repr

/-- Slots whose bits are set in a pair of member registers. -/
def slotsOf (lo hi : Nat) : List Nat := (List.range 48).filter fun n => if n < 32 then hasBit lo n else hasBit hi (n - 32)

/-- A group's settings in LAY_GCFGg and LAY_GMEMg. -/
def State.geo (s : State) (g : Nat) : Geo :=
  let geom := s.rd (F.LAY_GCFG_GEOM g)
  { geom := geom, k := s.rd (F.LAY_GCFG_K g), m := geomM geom,
    members := slotsOf (s.rd (F.LAY_GMEM_LO_SLOTS g)) (s.rd (F.LAY_GMEM_HI_SLOTS g)) }

/-- Whether settings are those of Table LOG-1 with enough members (R223, R224). -/
def Geo.valid (p : Variant) (x : Geo) : Bool :=
  let kOk := if x.geom = 1 || x.geom = 2 then 2 ≤ x.k && x.k ≤ 22 else if x.geom = 3 || x.geom = 4 then x.k == 1 else false
  kOk && 4 ≤ x.members.length && x.k + x.m ≤ x.members.length &&
    (p == .zs || x.members.all fun n => n < 24)

/-- The settings new stripes of a group use: the target of a running group reshape, else the group's own (R334). -/
def State.placeGeo (s : State) (g : Nat) : Geo :=
  match s.reshape with
  | some r => if r.mode = 1 ∧ r.group = g then { geom := r.geom, k := r.k, m := geomM r.geom, members := r.members } else s.geo g
  | none => s.geo g

/-- Whether a slot is in service (R306). -/
def State.inService (s : State) (n : Nat) : Bool := (s.slot n).state == 1

/-- Members of a list in service. -/
def State.serving (s : State) (l : List Nat) : List Nat := l.filter s.inService

/-- Members of a group in service, S (R229). -/
def State.svcCount (s : State) (g : Nat) : Nat := (s.serving (s.geo g).members).length

/-- k_eff of settings (R229): min(k, S − m). -/
def State.keff (s : State) (x : Geo) : Nat := min x.k ((s.serving x.members).length - x.m)

/-- Log rows of a group, P_log (R284). -/
def Group.plog (g : Group) : Nat := g.rows - g.fixedRows

/-- The formula of R228. -/
def usable (plog n k m op : Nat) : Nat := plog * n * 16 * k * (100 - op) / ((k + m) * 100)

/-- Usable capacity U of a group under settings (R228). -/
def State.capU (s : State) (g : Nat) (x : Geo) : Nat :=
  usable (s.group g).plog (x.members.length - s.rd (F.LAY_GCFG_RSV g)) x.k x.m (s.rd (F.LAY_GCFG_OP g))

/-- U of a group: during a group reshape the smaller of the current and the target values (R334). -/
def State.capTotal (s : State) (g : Nat) : Nat := min (s.capU g (s.geo g)) (s.capU g (s.placeGeo g))

/-- Current usable capacity U_cur under settings (R229). -/
def State.capCurOf (s : State) (g : Nat) (x : Geo) : Nat :=
  let sv := (s.serving x.members).length
  let ke := s.keff x
  if ke = 0 then 0
  else usable (s.group g).plog (min (x.members.length - s.rd (F.LAY_GCFG_RSV g)) sv) ke x.m (s.rd (F.LAY_GCFG_OP g))

/-- U_cur of a group. -/
def State.capCur (s : State) (g : Nat) : Nat := min (s.capCurOf g (s.geo g)) (s.capCurOf g (s.placeGeo g))

/-- NCAP of the log-layout namespaces of a group, a move's target counting as well (R228, R336). -/
def State.ncapOf (s : State) (g : Nat) : Nat :=
  ((s.nss.filter fun n => !n.fixed && (n.group == g || n.moveTo == some g)).map (·.ncap)).sum

/-- Stripe table entries E_g under settings (R247). -/
def State.entriesOf (s : State) (g : Nat) (x : Geo) : Nat :=
  ceilDiv ((s.group g).rows * x.members.length) (if geomMirror x.geom then x.m + 1 else x.m + 2)

/-- E_g of a group: the larger of the two during a reshape. -/
def State.entries (s : State) (g : Nat) : Nat := max (s.entriesOf g (s.geo g)) (s.entriesOf g (s.placeGeo g))

/-! ### Stripes and positions -/

def State.stripe? (s : State) (g n : Nat) : Option Stripe := s.stripes.find? fun x => x.group == g && x.num == n
def State.updStripe (s : State) (g n : Nat) (f : Stripe → Stripe) : State :=
  { s with stripes := mapIf (fun x => x.group == g && x.num == n) f s.stripes }

/-- Stripes of a group. -/
def State.stripesOf (s : State) (g : Nat) : List Stripe := s.stripes.filter fun x => x.group == g

/-- Positions on which a deallocate is gathered or outstanding (R409): slot and row. -/
def State.trimming (s : State) : List (Nat × Nat) :=
  (s.mcmds.flatMap fun c => match c.work with | .trim l => l | _ => []) ++
  (s.mwaits.flatMap fun c => match c.work with | .trim l => l | _ => [])

/-- The member of a stripe that holds a slab in place (R230). -/
def Stripe.slotAt (x : Stripe) (slab : Nat) : Option Nat :=
  let w := x.members.length
  if w = 0 then none else x.members[(slab + x.fseq % 2 ^ 24 % w) % w]?

/-- Slots whose positions a stripe occupies: those of slabs that a relocation in force names are given back (R330). -/
def Stripe.holds (x : Stripe) : List Nat :=
  let gone := (x.relocs.filter (·.effective)).filterMap fun r => x.slotAt r.slab
  x.members.filter fun n => !gone.contains n

/-- Slots of a row that stripes occupy. -/
def State.usedIn (s : State) (g row : Nat) : List Nat :=
  (s.stripesOf g).flatMap fun x => if x.row = row then x.holds else []

/-- Members in service with a free position in a row. -/
def State.freeIn (s : State) (g : Nat) (x : Geo) (row : Nat) : List Nat :=
  let used := s.usedIn g row
  let trim := s.trimming ++ s.trimGather.map fun p => (p.1, p.2.1)
  (s.serving x.members).filter fun n => !used.contains n && !trim.contains (n, row)

/-- The row R242 takes: the lowest log row at or after the cursor, wrapping, with at least w free positions. -/
def State.rowFor (s : State) (g : Nat) (x : Geo) (w : Nat) : Option Nat :=
  let gr := s.group g
  let touched := (s.stripesOf g).length + s.trimming.length + s.trimGather.length
  if gr.plog = 0 then none
  else ((List.range (min gr.plog (touched + 1))).map fun i => (gr.cursor + i) % gr.plog).find? fun r => w ≤ (s.freeIn g x r).length

/-- Ascending slots rotated to start after a slot. -/
def after (l : List Nat) (last : Nat) : List Nat := l.filter (fun n => last < n) ++ l.filter (fun n => n ≤ last)

/-- Positions in use on members in service. -/
def State.usedPositions (s : State) (g : Nat) : Nat :=
  ((s.stripesOf g).map fun x => (x.holds.filter s.inService).length).sum

/-- F, the free positions on members in service as a fraction of the log rows times S (R250). -/
def State.freeFrac (s : State) (g : Nat) : Rat :=
  let total := (s.group g).plog * s.svcCount g
  if total = 0 then 0 else ((total - s.usedPositions g : Nat) : Rat) / (total : Nat)

/-- FREE_PCT: F in percent, rounded down. -/
def State.freePct (s : State) (g : Nat) : Nat := (s.freeFrac g * 100).floor.toNat

/-- Whether the group admits writes again or no more: entry to space hold below FREE_CRIT, exit at FREE_LO (R253), with the
microseconds spent in it (Table LOG-11). -/
def State.syncHold (s : State) (g : Nat) : State :=
  let f := s.freeFrac g * 100
  match (s.group g).holdSince with
  | none =>
    if f < (s.rd (F.LAY_GFREE_FREE_CRIT g) : Rat) then
      let s := s.updGroup g fun x => { x with holdSince := some s.now }
      (s.wr (F.LAY_GSTAT_SPACE_HOLD g) 1).raiseLay g 5 NOTICE 2 (g + 256 * s.freePct g)
    else s
  | some t =>
    let us := (s.now - t) / 4000
    let s := (s.bumpBy (F.LAY_HOLD_US g) us).updGroup g fun x => { x with holdSince := some (t + 4000 * us) }
    if (s.rd (F.LAY_GFREE_FREE_LO g) : Rat) ≤ f then
      let s := s.updGroup g fun x => { x with holdSince := none }
      (s.wr (F.LAY_GSTAT_SPACE_HOLD g) 0).raiseLay g 6 INFO 3 g
    else s

/-- Entry scarcity (R243): below 1 % of E_g free until above 2 %. -/
def State.syncEntries (s : State) (g : Nat) : State :=
  let e := s.entries g
  let free := e - (s.stripesOf g).length
  if s.entryNotice.contains g then
    if free * 100 > 2 * e then { s.wr (F.LAY_GSTAT_ENTRY_HOLD g) 0 with entryNotice := s.entryNotice.erase g } else s
  else if free * 100 < e then
    { (s.wr (F.LAY_GSTAT_ENTRY_HOLD g) 1).raiseLay g 7 NOTICE 4 g with entryNotice := g :: s.entryNotice }
  else s

/-- Bring the figures of a configured group in line with its stripes and members. -/
def State.syncGroup (s : State) (g : Nat) : State :=
  if !(s.group g).configured then s else
  let s := s.wr (F.LAY_GSTAT_OPEN g) ((s.stripesOf g).filter fun x => x.state == .opened).length
  let s := s.wr (F.LAY_GSTAT_SERVICE g) (s.svcCount g)
  let s := s.wr (F.LAY_GSTAT_FREE_PCT g) (s.freePct g)
  if (s.group g).mounted then (s.syncHold g).syncEntries g else s

/-- Whether a group is in space hold. -/
def State.spaceHold (s : State) (g : Nat) : Bool := (s.group g).holdSince.isSome

/-! ### Member areas (R227, R263, R264) -/

/-- DSTART of a member of a capacity in blocks. -/
def dstart (cap : Nat) : Nat := 16 * ceilDiv (ceilDiv cap 200) 16

/-- Slab positions of a member's data area. -/
def positions (cap : Nat) : Nat := (cap - dstart cap) / 16

/-- DSTART of the member in a slot. -/
def State.slotDstart (s : State) (n : Nat) : Nat := dstart (((s.slot n).drive.map (·.capacity)).getD 0)

/-- The member set of a group's survey area: the group's, or the target's of a reshape that has laid it out again (R264, R335). -/
def State.svyMembers (s : State) (g : Nat) : List Nat := (s.svy.getD g SvyGroup.cold).members.getD (s.geo g).members

/-- Object and delta-log slots of a group: Q and DL (R264), with Z the smallest of the members present. -/
def State.svySlots (s : State) (g : Nat) : Nat × Nat :=
  let mem := s.svyMembers g
  let z := ((listMin ((mem.filter fun n => (s.slot n).drive.isSome).map s.slotDstart)).getD 0) - 16
  let q := mem.length * z / 3
  (q, q * s.rd F.SVY_CFG_DLOG_PCT / 100)

/-! ### Fixed layout (R284 to R286) -/

/-- Fixed stripes in a row, spr. -/
def Geo.spr (x : Geo) : Nat := if x.k + x.m = 0 then 0 else x.members.length / (x.k + x.m)

/-- Row number i of a namespace's runs. -/
def rowAt : List (Nat × Nat) → Nat → Nat
  | [], _ => 0
  | (r, n) :: rest, i => if i < n then r + i else rowAt rest (i - n)

/-- The place of a fixed-layout block (R286): its fixed stripe, slab index and block in slab. -/
def State.fixPlace (s : State) (n : Namespace) (lba : Nat) : BRef :=
  let x := s.geo n.group
  let sl := lba / 16
  let j := sl / max 1 x.k
  let row := rowAt n.rows (j / max 1 x.spr)
  { stripe := .fix n.group row (j % max 1 x.spr), slab := sl % max 1 x.k, blk := lba % 16 }

/-- The member that holds a slab (R230, R286). -/
def State.slabSlot (s : State) (b : SRef) (slab : Nat) : Option Nat :=
  match b with
  | .log g n => (s.stripe? g n).bind fun x => x.slotAt slab
  | .fix g row t =>
      let x := s.geo g
      let w := x.k + x.m
      if w = 0 then none else x.members[t * w + (slab + row % w) % w]?

/-- Data slabs, check slabs and whether it is a mirror, of a stripe. -/
def State.shape (s : State) (b : SRef) : Nat × Nat × Bool :=
  match b with
  | .log g n => match s.stripe? g n with
    | some x => (x.kp, x.m, geomMirror x.geom)
    | none => (0, 0, false)
  | .fix g _ _ => let x := s.geo g; (x.k, x.m, geomMirror x.geom)

/-- Group of a stripe. -/
def SRef.group : SRef → Nat
  | .log g _ => g
  | .fix g _ _ => g

end Sys2Proof.Machine
end

