-- ==== Sys2Proof/Machine/Stored.lean ====
section
/-!
DEFINITION. Machine/Stored.lean: what members hold: encrypted blocks (R20, R344), check blocks (R232, R287), member metadata (R233,
R244, Tables LOG-3 and TLY-1), the checks of a block that is read (R245, R258), and member bus addresses (R403, R404).
-/

namespace Sys2Proof.Machine

/-! ### The field of R232 -/

/-- One byte value in each of the 4,096 bytes of a block. -/
def everyByte (b : Nat) : Nat := b * ((2 ^ 32768 - 1) / 255)

/-- Multiply every byte of a block by g = 0x02 in GF(2^8) with 0x11D. -/
def gfDouble (a : Nat) : Nat := (2 * (a &&& everyByte 0x7F)) ^^^ (0x1D * (a / 128 &&& everyByte 1))

/-- P of the data blocks at one offset. -/
def parityP (l : List Nat) : Nat := l.foldl (· ^^^ ·) 0

/-- Q of the data blocks at one offset, slab 0 first: each takes its power of g (R232). -/
def parityQ (l : List Nat) : Nat := l.foldr (fun d q => gfDouble q ^^^ d) 0

/-- The check block of index j at one offset: P, Q, or in a mirror layout the copy of the one data slab. -/
def checkBlock (mirror : Bool) (j : Nat) (l : List Nat) : Nat :=
  if mirror then l.headD 0 else if j = 0 then parityP l else parityQ l

/-- PAR role that computes a stripe or an update of a face sequence (R232; for a FIX_INTENT's SEQ DEDUCED from R287, log entry 133). -/
def parRole (fseq : Nat) : Nat := fseq % 8

/-- P and Q after a block of slab i changes from d to d' (R288): the same as computing them from every data block. -/
def rmwP (p d d' : Nat) : Nat := p ^^^ (d ^^^ d')
def rmwQ (q i d d' : Nat) : Nat := q ^^^ (List.range i).foldl (fun a _ => gfDouble a) (d ^^^ d')

/-! ### Encryption (R20, R342, R343) -/

/-- A namespace's key in the key table, by slot and generation. -/
def State.nsKey (s : State) (nsid gen : Nat) : Nat := ((s.keyTab.find? fun e => e.slot + 1 == nsid && e.kgen == gen).map (·.key)).getD 0

/-- The 4,096 stored bytes of a block of a namespace: XTS under its key, the tweak naming LBA, NSID and NSGEN and no place (R20, R342). -/
def State.cipherBlock (s : State) (nsid gen lba data : Nat) : Nat := xtsEnc (s.nsKey nsid gen) (xtsTweak nsid gen lba) 256 data

/-! ### Contents -/

/-- The content a log stripe's block holds. -/
def State.stripeBlk (s : State) (p : Place) : Option SBlock :=
  (s.stripe? p.group p.stripe).bind fun x => x.blocks.find? fun b => b.slab == p.slab && b.blk == p.blk

/-- The content of a fixed-layout block; a block nothing has written reads as deallocated (R186). -/
def State.fixContent (s : State) (n : Namespace) (lba : Nat) : Blk :=
  match s.fixblks.find? fun f => f.nsid == n.nsid && f.lba == lba with
  | some f => f.content
  | none => .enter 0 (piDealloc n.lbaf)

/-- The content of a fixed-layout block with the updates whose writes are under way (R290), and the SEQ it carries. -/
def State.fixNewest (s : State) (n : Namespace) (lba : Nat) : Blk × Nat :=
  let old := ((s.fixblks.find? fun f => f.nsid == n.nsid && f.lba == lba).map (·.birth)).getD 0
  s.fixupds.foldl (fun (a : Blk × Nat) u =>
    if u.issued && u.nsid == n.nsid && u.slba ≤ lba && lba < u.slba + u.blocks.length && a.2 ≤ u.seq then
      ((u.blocks[lba - u.slba]?).getD a.1, u.seq)
    else a) (s.fixContent n lba, old)

/-- Rows of a fixed-layout namespace in order. -/
def Namespace.rowList (n : Namespace) : List Nat := n.rows.flatMap fun r => (List.range r.2).map (r.1 + ·)

/-- The namespace whose fixed stripe lies at a place, with its fixed stripe number j, inverting R286. -/
def State.fixStripeOf (s : State) (g row t : Nat) : Option (Namespace × Nat) :=
  let x := s.geo g
  s.nss.findSome? fun n =>
    if !n.fixed || n.group != g then none else
    (n.rowList.findIdx? fun r => r == row).map fun i => (n, i * max 1 x.spr + t)

/-- The namespace and LBA of a fixed-layout block, inverting R286. -/
def State.fixOwner (s : State) (b : BRef) : Option (Namespace × Nat) :=
  match b.stripe with
  | .log .. => none
  | .fix g row t => (s.fixStripeOf g row t).bind fun p =>
    let k := (s.geo g).k
    let lba := 16 * (p.2 * k + b.slab) + b.blk
    if lba < p.1.nsze && b.slab < k then some (p.1, lba) else none

/-! ### Stored bytes -/

/-- The stored bytes of a data block of a log stripe: ciphertext, zero in a void block and beyond the last one, and those of the slab
it was relocated from (R20, R239, R318). -/
def State.storedData (s : State) : Nat → Nat → Nat → Nat → Nat → Nat
  | 0, _, _, _, _ => 0
  | fuel + 1, g, n, slab, blk =>
    match s.stripeBlk ⟨g, n, slab, blk⟩ with
    | none => 0
    | some b => match b.owner with
      | .void => 0
      | .reloc st sl => match s.stripe? g st with
        | none => s.cipherBlock b.nsid b.gen b.lba ((b.content.map (·.data)).getD 0)
        | some x =>
          if sl < x.kp then State.storedData s fuel g st sl blk
          else checkBlock (geomMirror x.geom) (sl - x.kp) ((List.range x.kp).map fun i => State.storedData s fuel g st i blk)
      | _ => s.cipherBlock b.nsid b.gen b.lba ((b.content.map (·.data)).getD 0)

/-- The stored bytes of a data block of a fixed stripe. -/
def State.storedFix (s : State) (n : Namespace) (lba : Nat) : Nat := s.cipherBlock n.nsid n.gen lba (s.fixNewest n lba).1.data

/-- The stored bytes of the data blocks of a stripe at a block offset. -/
def State.storedRow (s : State) (sr : SRef) (blk : Nat) : List Nat :=
  let k := (s.shape sr).1
  match sr with
  | .log g n => (List.range k).map fun i => s.storedData 6 g n i blk
  | .fix g row t => match s.fixStripeOf g row t with
    | some (n, j) => (List.range k).map fun i => s.storedFix n (16 * (j * k + i) + blk)
    | none => (List.range k).map fun _ => 0

/-- The stored bytes of a member block: of a data slab, or of a check slab computed from them (R232, R287). -/
def State.storedAt (s : State) (b : BRef) : Nat :=
  let (k, _, mirror) := s.shape b.stripe
  let row := s.storedRow b.stripe b.blk
  if b.slab < k then row.getD b.slab 0 else checkBlock mirror (b.slab - k) row

/-! ### Member metadata (Table LOG-3) -/

/-- The fields of Table LOG-3 but IGUARD's place and the CRC. -/
structure MMeta where
  nsid : Nat
  lba : Nat
  nsgen : Nat
  fseq : Nat
  birth : Nat
  type : Nat
  group : Nat
  copy : Nat
  slab : Nat
  geom : Nat
  blk : Nat
  lastb : Nat
  kp : Nat
  order : Nat
  lbaf : Nat
  pit : Nat
  pi : Nat
  iguard : Nat
deriving DecidableEq, Repr

/-- Bytes 0 to 59, little-endian. -/
def MMeta.body (m : MMeta) : Nat :=
  putAt 0 4 m.nsid + putAt 4 6 m.lba + putAt 10 2 m.nsgen + putAt 12 8 m.fseq + putAt 20 8 m.birth +
  putAt 28 1 (m.type % 8 + 8 * (m.group % 8) + 64 * (m.copy % 4)) + putAt 29 1 (m.slab % 32 + 32 * (m.geom % 8)) +
  putAt 30 1 (m.blk % 16 + 16 * (m.lastb % 16)) + putAt 31 1 (m.kp % 32) + putAt 32 2 m.order + putAt 34 1 (m.lbaf % 4 + 4 * (m.pit % 4)) +
  putAt 36 16 m.pi + putAt 52 8 m.iguard

/-- The CRC of bytes 60 to 63: over bytes 0 to 59 and the stored bytes. -/
def metaCrc (md stored : Nat) : Nat := crc32c (toBytes md 60 ++ toBytes stored 4096)

/-- The 64 bytes beside a stored block. -/
def MMeta.bytes (m : MMeta) (stored : Nat) : Nat := m.body + putAt 60 4 (metaCrc m.body stored)

/-- PIT as the metadata code it: 0 none, 1 type 1, 2 type 3. -/
def pitCode (pit : Nat) : Nat := if pit = 3 then 2 else pit

/-- The metadata of a block of a log stripe: data, copy, P, Q or void (Table LOG-3), and of a relocated slab (R318). -/
def State.metaLog (s : State) (x : Stripe) (slab blk : Nat) : MMeta :=
  let mirror := geomMirror x.geom
  let src := if mirror then 0 else slab
  let base : MMeta := {
    nsid := 0, lba := 0, nsgen := 0, fseq := x.fseq, birth := x.fseq, type := 4, group := x.group, copy := 0, slab := slab, geom := x.geom
    blk := blk, lastb := x.lastb, kp := x.kp, order := 16 * slab + blk, lbaf := 0, pit := 0, pi := 0, iguard := crc64 (toBytes 0 4096) }
  if x.kp ≤ slab && !mirror then
    { base with lba := x.num, type := 1 + (slab - x.kp), order := blk
                iguard := crc64 (toBytes (s.storedAt ⟨.log x.group x.num, slab, blk⟩) 4096) }
  else match s.stripeBlk ⟨x.group, x.num, src, blk⟩ with
    | none => base
    | some b =>
      let n := s.ns? b.nsid
      let data : MMeta := { base with
        nsid := b.nsid, lba := b.lba, nsgen := b.gen, birth := b.birth, type := if x.kp ≤ slab then 3 else 0
        copy := if mirror then slab else 0, order := b.order, lbaf := (n.map (·.lbaf)).getD 0, pit := pitCode ((n.map (·.pit)).getD 0)
        pi := (b.content.map (·.pi)).getD 0, iguard := (b.content.map (·.guard)).getD 0 }
      match b.owner with
      | .void => base
      | .reloc st sl =>
        let kp := ((s.stripe? x.group st).map (·.kp)).getD 0
        if kp ≤ sl then { base with lba := st, type := 1 + (sl - kp)
                                    iguard := crc64 (toBytes (s.storedAt ⟨.log x.group x.num, slab, blk⟩) 4096) }
        else if b.nsid = 0 then base else data
      | _ => data

/-- The metadata of a fixed-layout block (Table TLY-1). -/
def State.metaFix (s : State) (b : BRef) (g row t : Nat) : MMeta :=
  let x := s.geo g
  let mirror := geomMirror x.geom
  let src := if mirror then { b with slab := 0 } else b
  let (n, j) : Option Namespace × Nat := match s.fixStripeOf g row t with
    | some (n, j) => (some n, j)
    | none => (none, 0)
  let base : MMeta := {
    nsid := (n.map (·.nsid)).getD 0, lba := j, nsgen := (n.map (·.gen)).getD 0, fseq := 0, birth := 0, type := 5, group := g, copy := 0
    slab := b.slab, geom := x.geom, blk := b.blk, lastb := 15, kp := x.k, order := 16 * b.slab + b.blk, lbaf := 0, pit := 0, pi := 0, iguard := 0 }
  match s.fixOwner src, n with
  | some (n, lba), _ =>
    let (c, q) := s.fixNewest n lba
    { base with lba := lba, fseq := q, birth := q, copy := if mirror then b.slab else 0, lbaf := n.lbaf, pit := pitCode n.pit, pi := c.pi, iguard := c.guard }
  | none, some n =>
    let q := listMax ((List.range x.k).map fun i => (s.fixNewest n (16 * (j * x.k + i) + b.blk)).2)
    { base with fseq := q, birth := q, iguard := crc64 (toBytes (s.storedAt b) 4096) }
  | none, none => base

/-- The metadata of a member block. -/
def State.metaAt (s : State) (b : BRef) : MMeta :=
  match b.stripe with
  | .log g n => match s.stripe? g n with
    | some x => s.metaLog x b.slab b.blk
    | none => s.metaFix b 0 0 0
  | .fix g row t => s.metaFix b g row t

/-- Whether what a member returned for a block passes R245, and R258 for a data block of a log stripe. -/
def State.returnOk (s : State) (b : BRef) (stored md : Nat) : Bool :=
  let m := s.metaAt b
  let log := match b.stripe with | .log .. => true | .fix .. => false
  let data := b.slab < (s.shape b.stripe).1
  let typ := bytesAt md 28 1 % 8
  bytesAt md 60 4 == metaCrc (bytesAt md 0 60) stored &&
  bytesAt md 28 1 / 8 % 8 == m.group % 8 && bytesAt md 29 1 % 32 == m.slab % 32 && bytesAt md 30 1 == m.blk % 16 + 16 * (m.lastb % 16) &&
  bytesAt md 31 1 % 32 == m.kp % 32 && (!log || bytesAt md 12 3 == m.fseq % 2 ^ 24) &&
  (if log then (!data || ((typ == 0 || typ == 3) && bytesAt md 20 8 % 4096 == m.birth % 4096)) else typ == 5) &&
  (!(data || !log) || (bytesAt md 0 4 == m.nsid && bytesAt md 10 2 == m.nsgen && bytesAt md 4 6 == m.lba))

/-! ### Member commands (Table DRP-4) and bus addresses (R403) -/

/-- The store of a member bus address and its byte offset. -/
def busStore (a : Nat) : Nat := a / 2 ^ 60 % 16
def busOfs (a : Nat) : Nat := a % 2 ^ 60

/-- The number of a tag among all tags; each has a place of its own in a store (DESIGN CHOICE, log entry 134). -/
def tagNumber (t : MTag) : Nat := (t.slot * 5 + t.queue) * 256 + t.cid

/-- Data and metadata of a command in the staging store: 64 KiB and 1 KiB at places of its tag (log entry 134). -/
def tagData (t : MTag) : Nat := 65536 * tagNumber t
def tagMeta (t : MTag) : Nat := 2 ^ 40 + 1024 * tagNumber t

/-- Queue memory and MSI-X targets of a port in store 2: 1 MiB each (log entry 134). -/
def queueMemAt (slot : Nat) : Nat := 2 * 2 ^ 60 + 2 ^ 20 * slot

/-- Whether n bytes at an address lie within a range. -/
def within (a n base len : Nat) : Bool := base ≤ a && a + n ≤ base + len

/-- Member LBA of a member block (R234, R286). -/
def State.memberLba (s : State) (b : BRef) : Nat :=
  let row := match b.stripe with
    | .log g n => ((s.stripe? g n).map (·.row)).getD 0
    | .fix _ row _ => row
  s.slotDstart ((s.slabSlot b.stripe b.slab).getD 0) + 16 * row + b.blk

/-- Blocks of a slab that are written (R230). -/
def State.slabLen (s : State) (g n slab : Nat) : Nat :=
  match s.stripe? g n with
  | some x => if slab + 1 = x.kp || (x.kp = 1 && x.kp ≤ slab) then x.lastb + 1 else 16
  | none => 0

/-- One block as it is written: stored bytes and metadata. -/
def State.writeImage (s : State) (b : BRef) : Nat × Nat := let d := s.storedAt b; (d, (s.metaAt b).bytes d)

/-- Adjacent rows joined into ranges of member LBAs (R409). -/
def joinRows (d : Nat) (rows : List Nat) : List (Nat × Nat) :=
  rows.foldl (fun (l : List (Nat × Nat)) r => match l.getLast? with
    | some (a, n) => if a + n = d + 16 * r then l.dropLast ++ [(a, n + 16)] else l ++ [(d + 16 * r, 16)]
    | none => [(d + 16 * r, 16)]) []

/-- A member command as DRV forms it (Table DRP-4): a data command names its tag's places, the others queue memory. -/
def State.mform (s : State) (t : MTag) (w : MWork) : MForm :=
  let io : MForm := { opcode := 2, lba := 0, blocks := 1, prp := tagData t, mptr := tagMeta t, ranges := [], content := [] }
  match w with
  | .read b _ | .fixRead _ b => { io with lba := s.memberLba b }
  | .slabWrite g n slab =>
    let len := s.slabLen g n slab
    { io with opcode := 1, lba := s.memberLba ⟨.log g n, slab, 0⟩, blocks := len
              content := (List.range len).map fun i => s.writeImage ⟨.log g n, slab, i⟩ }
  | .fixWrite _ b | .repair b _ => { io with opcode := 1, lba := s.memberLba b, content := [s.writeImage b] }
  | .trim l => { io with opcode := 9, blocks := 0, prp := queueMemAt t.slot, mptr := 0, ranges := joinRows (s.slotDstart t.slot) (l.map (·.2)) }
  | .health => { io with opcode := 2, blocks := 0, prp := queueMemAt t.slot, mptr := 0 }

/-- Whether a member's access lies within a tag's data or metadata (R404). -/
def tagCovers (t : MTag) (blocks addr len : Nat) : Bool := within addr len (tagData t) (4096 * blocks) || within addr len (tagMeta t) (64 * blocks)

end Sys2Proof.Machine
end

