-- ==== Sys2Proof/Machine/SvyArea.lean ====
section
/-!
DEFINITION. Machine/SvyArea.lean: the bytes of the survey area: survey entries and pages (R257, R260, R261), stripe-table entries and
relocation records (R247, R248), pointers and trees (R262), object slots (R264), their metadata (R266), member records and the group
root (R267).
-/

namespace Sys2Proof.Machine

/-! ### Entries (Tables SVY-1 and LOG-4, R248) -/

/-- The 64 bits of a survey entry of a namespace whose home group is g (Table SVY-1, R259). -/
def entryBits (g : Nat) : Option Entry → Nat
  | none => 0
  | some .zero => 2 ^ 63 + g % 8 * 2 ^ 60 + 2 ^ 14
  | some (.at p b) =>
    2 ^ 63 + p.group % 8 * 2 ^ 60 + p.stripe % 2 ^ 36 * 2 ^ 24 + p.slab % 32 * 2 ^ 19 + p.blk % 16 * 2 ^ 15 + b % 4096

/-- STATE of a stripe (Table LOG-2). -/
def StripeState.code : StripeState → Nat
  | .opened => 1 | .closed => 2 | .sealed => 3 | .live => 4 | .freeing => 5 | .lost => 6

/-- The 16 bytes of a stripe-table entry (Table LOG-4). -/
def Stripe.entryBits (x : Stripe) : Nat :=
  (x.members.map fun n => 2 ^ n).sum % 2 ^ 48 + x.row % 2 ^ 31 * 2 ^ 48 + x.kp % 32 * 2 ^ 79 + x.geom % 8 * 2 ^ 84 +
    x.lastb % 16 * 2 ^ 87 + x.state.code * 2 ^ 91 + x.live % 512 * 2 ^ 94 + bit (!x.relocs.isEmpty) * 2 ^ 103 + x.fseq % 2 ^ 24 * 2 ^ 104

/-- The 16 bytes of a relocation record of a stripe (R248). -/
def Reloc.bits (r : Reloc) (g n : Nat) : Nat :=
  n % 2 ^ 36 + r.slab % 32 * 2 ^ 36 + g % 8 * 2 ^ 41 + r.newStripe % 2 ^ 36 * 2 ^ 44 + r.newSlab % 32 * 2 ^ 80

/-! ### Survey pages (R260, R261) -/

/-- The entries of a page with VALID 1, by offset. -/
def State.pageEntries (s : State) (nsid page : Nat) : List (Nat × Entry) :=
  sortBy (fun (a b : Nat × Entry) => a.1 ≤ b.1)
    ((s.survey.filter fun m => m.nsid == nsid && m.lba / 512 == page).map fun m => (m.lba % 512, m.entry))

/-- The entry t blocks after the first of a run (R260). -/
def Entry.shift : Entry → Nat → Entry
  | .zero, _ => .zero
  | .at p b, t => let q := 16 * p.slab + p.blk + t; .at { p with slab := q / 16, blk := q % 16 } b

/-- Runs of entries: first offset, length, first entry (Table SVY-4). -/
def extentsOf (l : List (Nat × Entry)) : List (Nat × Nat × Entry) :=
  l.foldl (fun (a : List (Nat × Nat × Entry)) e => match a.getLast? with
    | some (o, n, base) => if o + n = e.1 && base.shift n == e.2 then a.dropLast ++ [(o, n + 1, base)] else a ++ [(e.1, 1, e.2)]
    | none => [(e.1, 1, e.2)]) []

/-- How many extents a page's entries need. -/
def State.extentCount (s : State) (nsid page : Nat) : Nat := (extentsOf (s.pageEntries nsid page)).length

/-- A page in dense form. -/
def State.densePage (s : State) (g nsid page : Nat) : Nat :=
  (s.pageEntries nsid page).foldl (fun (a : Nat) e => a + putAt (8 * e.1) 8 (entryBits g (some e.2))) 0

/-- A page in extent form: the header of Table SVY-3 and its extents. -/
def State.extentPage (s : State) (g nsid page : Nat) : Nat :=
  let l := extentsOf (s.pageEntries nsid page)
  l.zipIdx.foldl (fun (a : Nat) p => let o := 64 + 16 * p.2
    a + putAt o 2 p.1.1 + putAt (o + 2) 2 p.1.2.1 + putAt (o + 8) 8 (entryBits g (some p.1.2.2))) (putAt 0 2 l.length)

/-- Cells of the survey cache region that an object takes (R269): pages and pointer pages of survey trees. -/
def State.objCells (s : State) (o : SvyObj) : Nat :=
  if o.kind = 1 || (o.kind = 0 && !o.ext) then 16
  else if o.kind = 0 then ceilDiv (64 + 16 * s.extentCount o.owner o.index) 256 else 0

/-! ### Trees (R262) -/

/-- Height of a tree of 16 top pointers over a number of level-0 objects: the smallest H with 16 × 512^H at least that many. -/
def treeHeight (units : Nat) : Nat := ((List.range 6).find? fun h => units ≤ 16 * 512 ^ h).getD 6

/-- Level-0 objects of a tree: the pages of a namespace (kinds 0 and 1) or the segments of a group's stripe table (2 and 5). -/
def State.treeUnits (s : State) (g kind owner : Nat) : Nat :=
  if kind ≤ 1 then ceilDiv (((s.ns? owner).map (·.nsze)).getD 0) 512 else ceilDiv (s.entries g) 256

/-- Kind of the pointer pages above level-0 objects of a kind: 1 of a survey tree, 5 of the stripe table (KIND 1 on the medium). -/
def ptrKind (kind : Nat) : Nat := if kind ≤ 1 then 1 else 5

/-- The bits of a pointer (Table SVY-5). -/
def ptrBits (o : Option SvyObj) : Nat :=
  match o.bind fun x => x.slot.map fun q => (x, q) with
  | some (x, q) => 2 ^ 63 + bit (x.kind == 0 && x.ext) * 2 ^ 62 + q % 2 ^ 36
  | none => 0

/-- The object of a tree at a level: level 0 of kind 0 or 2, above it the pointer pages. -/
def State.treeObj (s : State) (g kind owner level index : Nat) : Option SvyObj :=
  let k := if level = 0 then (if kind ≤ 1 then 0 else 2) else ptrKind kind
  s.objs.find? fun o => o.group == g && o.kind == k && o.owner == owner && o.level == level && o.index == index

/-- The 16 top pointers of a tree. -/
def State.topPtrs (s : State) (g kind owner : Nat) : Nat :=
  let h := treeHeight (s.treeUnits g kind owner)
  (List.range 16).foldl (fun (a : Nat) t => a + putAt (8 * t) 8 (ptrBits (s.treeObj g kind owner h t))) 0

/-! ### Objects on the medium (R264, R266, R267) -/

/-- The three positions of a slot in the arrangement of a member set, each a member and a member LBA (R264). -/
def slotPositions (mem : List Nat) (q : Nat) : List (Nat × Nat) :=
  (List.range 3).filterMap fun i => (mem[(3 * q + i) % max 1 mem.length]?).map fun n => (n, 16 + (3 * q + i) / max 1 mem.length)

/-- The members of an object slot (R264). -/
def State.slotMembers (s : State) (g q : Nat) : List Nat := ((slotPositions (s.svyMembers g) q).map (·.1)).dedup

/-- Object slots of a group that are taken: by objects, or given up since the last member record (R265). -/
def State.takenSlots (s : State) (g : Nat) : List Nat :=
  (s.svy.getD g SvyGroup.cold).old ++ (s.objs.filter fun o => o.group == g).filterMap (·.slot)

/-- A free object slot whose three members are in service (R265). -/
def State.freeObjSlot (s : State) (g : Nat) : Option Nat :=
  let (q, dl) := s.svySlots g
  let used := s.takenSlots g
  ((List.range (min (q - dl) ((used.length + 1) * (1 + (s.svyMembers g).length)))).map (dl + ·)).find? fun k =>
    !used.contains k && (s.slotMembers g k).length == 3 && (s.slotMembers g k).all s.inService

/-- Whether free object slots are at or below SLOT_RSV percent of the object slots (R265). -/
def State.slotsShort (s : State) (g : Nat) : Bool :=
  let (q, dl) := s.svySlots g
  (q - dl - (s.takenSlots g).length) * 100 ≤ s.rd F.SVY_CFG_SLOT_RSV * (q - dl)

/-- Member LBA of a copy of an object slot (R264). -/
def State.objLba (s : State) (g q copy : Nat) : Nat := 16 + (3 * q + copy) / max 1 (s.svyMembers g).length

/-- FSEQ of a group root (R276): the face sequence up to which every seal is reflected in a segment written back. -/
def State.rootFseq (s : State) (g : Nat) : Nat :=
  let dirty := fun (n : Nat) => s.objs.any fun o => o.group == g && o.kind == 2 && o.index == n / 256 && o.dirty
  match listMin (((s.stripesOf g).filter fun x => 0 < x.fseq && (x.state == .sealed || dirty x.num)).map (·.fseq)) with
  | some q => q - 1
  | none => (s.group g).fseq

/-- The group root (Table SVY-8); the tree of system records holds the one object of them. -/
def State.rootBytes (s : State) (g : Nat) : Nat :=
  s.topPtrs g 2 g + putAt 128 8 (ptrBits (s.objs.find? fun o => o.group == g && o.kind == 4)) + putAt 256 8 (s.rootFseq g)

/-- A segment of the stripe table: 256 entries (R262). -/
def State.segmentBytes (s : State) (g index : Nat) : Nat :=
  ((s.stripesOf g).filter fun x => x.num / 256 == index).foldl (fun (a : Nat) x => a + putAt (16 * (x.num % 256)) 16 x.entryBits) 0

/-- The bytes of an object: a page in its form, a pointer page, a segment, or the group root; those of the system records are no rule's
(free values, log entry 141). -/
def State.objBytes (s : State) (o : SvyObj) : Nat :=
  let g := o.group
  match o.kind with
  | 0 => if o.ext then s.extentPage g o.owner o.index else s.densePage g o.owner o.index
  | 1 | 5 => (List.range 512).foldl (fun (a : Nat) u => a + putAt (8 * u) 8 (ptrBits (s.treeObj g o.kind o.owner (o.level - 1) (512 * o.index + u)))) 0
  | 2 => s.segmentBytes g o.index
  | 3 => s.rootBytes g
  | _ => Config.keyed .unstated [265, g, o.applied] % 2 ^ 32768

/-- KIND of an object on the medium (Table SVY-6). -/
def SvyObj.kindOf (o : SvyObj) : Nat := if o.kind = 5 then 1 else o.kind

/-- The metadata of a copy of an object under a write sequence (Table SVY-6). -/
def State.svyMeta (s : State) (o : SvyObj) (copy wseq : Nat) : MMeta :=
  { nsid := 0, lba := o.kindOf * 2 ^ 44 + o.owner % 2 ^ 15 * 2 ^ 29 + o.index % 2 ^ 29, nsgen := o.gen, fseq := wseq, birth := o.applied
    type := 0, group := o.group, copy := copy, slab := 0, geom := 0, blk := 0, lastb := 0, kp := 0
    order := o.level % 4 + 4 * bit (o.kind == 0 && o.ext), lbaf := 0, pit := 0, pi := 0, iguard := crc64 (toBytes (s.objBytes o) 4096) }

/-- Whether a copy read for an object is valid (R266): CRC and IGUARD, and KIND, OWNER, INDEX, level and COPY of the place. -/
def State.copyOk (s : State) (o : SvyObj) (copy stored md : Nat) : Bool :=
  let m := s.svyMeta o copy 0
  bytesAt md 60 4 == metaCrc (bytesAt md 0 60) stored && bytesAt md 52 8 == crc64 (toBytes stored 4096) &&
  bytesAt md 4 6 == m.lba && bytesAt md 32 2 % 4 == o.level % 4 && bytesAt md 28 1 / 64 == copy

/-- MEMBERS of a group as a bitmap (Table SVY-7). -/
def State.memberBits (s : State) (g : Nat) : Nat := ((s.svyMembers g).map fun n => 2 ^ n).sum

/-- A member record of a slot, ROOT the pointer to the group root (Table SVY-7). -/
def State.memberRecord (s : State) (g n : Nat) : Nat :=
  let x := s.svy.getD g SvyGroup.cold
  putAt 0 4 1 + putAt 4 1 n + putAt 5 1 g + putAt 8 8 (s.group g).epoch + putAt 16 8 (s.group g).fseq + putAt 24 8 x.tail + putAt 32 8 x.head +
    putAt 40 8 (ptrBits (s.objs.find? fun o => o.group == g && o.kind == 3)) + putAt 48 8 x.mseq + putAt 56 8 (s.rd64 F.HAL_PAIR_GEN_LO F.HAL_PAIR_GEN_HI) +
    putAt 64 6 (s.memberBits g) + putAt 72 8 (s.group g).rows

/-! ### System records of a group whose bytes a rule gives (R265) -/

/-- The member history record (Table REB-3, 1,600 bytes): the group epoch and the absence entry of each slot. -/
def State.historyRecord (s : State) (g : Nat) : Nat :=
  (List.range 48).foldl (fun (a : Nat) n =>
    let x := s.slot n
    let mine := x.state != 7 && x.group == g
    let o := 64 + 32 * n
    match x.absent with
    | some (e, q, t) => if mine then a + putAt o 1 (1 + 2 * bit x.allDirty) + putAt (o + 8) 8 e + putAt (o + 16) 8 q + putAt (o + 24) 8 t else a
    | none => a + putAt o 1 (2 * bit (mine && x.allDirty))) (putAt 0 8 (s.group g).epoch)

/-- The lost map entry of a LOST stripe (Table REB-5, 64 bytes). -/
def Stripe.lostEntry (x : Stripe) : Nat :=
  putAt 0 8 (x.num % 2 ^ 36 + x.group % 8 * 2 ^ 36) + putAt 8 44 ((x.lostMap.map fun p => 2 ^ (16 * p.1 + p.2)).sum) +
    putAt 52 1 (bit x.swept) + putAt 56 8 x.lostAt

/-- Member LBA that a member record of a sequence takes (R268). -/
def recordLba (mseq : Nat) : Nat := mseq % 2

end Sys2Proof.Machine
end

