-- ==== Sys2Proof/Machine/Mio.lean ====
section
/-!
DEFINITION. Machine/Mio.lean: member commands and their tags (R402, R405, Table DRP-5), and tally records as they are issued (R292 to R294).
-/

namespace Sys2Proof.Machine

/-- DRV bench number and local port of a slot. -/
def drvOf (slot : Nat) : Nat := 51 + slot / 8

/-- OUTSTANDING and QUARANTINED commands of a member, on every queue (R311). -/
def State.memberLoad (s : State) (slot : Nat) : Nat := (s.mcmds.filter fun c => c.tag.slot == slot).length

/-- Commands held on one queue of a member (R405). -/
def State.queueLoad (s : State) (slot q : Nat) : Nat := (s.mcmds.filter fun c => c.tag.slot == slot && c.tag.queue == q).length

/-- The lowest CID free on a queue. -/
def State.freeCid (s : State) (slot q : Nat) : Nat :=
  ((List.range 256).find? fun i => !s.mcmds.any fun c => c.tag == MTag.mk slot q i).getD 0

/-- QUARANTINED tags of a port, saturating in DRV_PSTATp.QUAR. -/
def State.syncQuar (s : State) (slot : Nat) : State :=
  s.wr (F.DRV_PSTAT_QUAR (drvOf slot) (slot % 8))
    (min 2047 (s.mcmds.filter fun c => c.tag.slot == slot && c.quarantined).length)

/-- Whether a FIX_INTENT that a takeover redoes names a block, or touches its offset (R302). -/
def State.redoNames (s : State) (b : BRef) : Bool :=
  s.fixupds.any fun u => u.redo && (s.ns? u.nsid).any fun n => (List.range u.blocks.length).any fun i =>
    let p := s.fixPlace n (u.slba + i)
    p.stripe == b.stripe && p.blk == b.blk

/-- Whether the fence window holds a member command: a write to a fixed-layout block that a FIX_INTENT without a durable
FIX_DONE names, but for a redo write itself (R411). -/
def State.fenceHolds (s : State) (w : MWork) : Bool :=
  match s.fenceEnd, w with
  | some t, .fixWrite id b => !s.due t && s.redoNames b && !(s.fixupds.any fun u => u.id == id && u.redo)
  | _, _ => false

/-- Commands that a member's queue can hold: one less than its entries (Table DRP-3, R405). -/
def queueRoom (q : Nat) : Nat := if q = 0 then 31 else 255

/-- Issue a member command, or let it wait for room on its queue. -/
def State.issueM (s : State) (slot q : Nat) (w : MWork) : State :=
  if s.queueLoad slot q < queueRoom q && !s.fenceHolds w then
    let tag : MTag := ⟨slot, q, s.freeCid slot q⟩
    (({ s with mcmds := s.mcmds ++ [MCmd.mk tag w s.now false] }).send (.member tag w (s.mform tag w))).bump (F.DRV_CMD (drvOf slot) (slot % 8))
  else { s with mwaits := s.mwaits ++ [MWait.mk slot q w] }

/-- Issue what waits for a queue that has room. -/
def State.issueWaiting (s : State) : State :=
  let l := s.mwaits
  l.foldl (fun s w => s.issueM w.slot w.queue w.work) { s with mwaits := [] }

/-- Abandon member commands whose work passes a test: quarantined when outstanding, forgotten when still waiting (R405). -/
def State.abandonM (s : State) (p : MWork → Bool) : State :=
  let slots := ((s.mcmds.filter fun c => p c.work).map (·.tag.slot)).dedup
  slots.foldl (fun s n => s.syncQuar n)
    { s with
      mcmds := mapIf (fun c => p c.work) (fun c => { c with quarantined := true }) s.mcmds
      mwaits := s.mwaits.filter fun w => !p w.work }

/-- Count one member command at each of the members of a list: background reads and writes that the model does in one step (log entry 45). -/
def State.bgIo (s : State) (l : List Nat) : State := l.foldl (fun s n => s.bump (F.DRV_CMD (drvOf n) (n % 8))) s

/-! ### Tally records -/

/-- Length of a record in 64-byte units (Tables TLY-2, TLY-3): its header and body. -/
def RecBody.units : RecBody → Nat
  | .mapDelta _ _ runs _ => 1 + ceilDiv (32 * runs.length) 64
  | .fixIntent _ _ _ nlb _ zero nchk _ _ => 1 + (if zero then 0 else nlb * 65) + ceilDiv (8 * nchk) 64 + nchk * 65
  | .fixDone _ _ => 1
  | .seal items => 1 + ceilDiv (32 * items.length) 64
  | .checkpoint _ => 1

/-- Entries that a record has in the delta index. -/
def Rec.entries (r : Rec) : Nat := match r.body with | .mapDelta _ _ runs _ => runs.length | .seal items => items.length | _ => 0

/-- Issue a record: the next SEQ; JNL writes it to the ring later (R293, R294). The answer's number is its SEQ. -/
def State.issueRec (s : State) (g : Nat) (b : RecBody) : Nat × State :=
  let q := s.tally.seq + 1
  let r : Rec := {
    seq := q, wseq := 0, group := g, moved := false, len := b.units, body := b, time := s.now, offset := none,
    acked := false, durable := false, released := false }
  let s := { s with tally := { s.tally with seq := q, recs := s.tally.recs ++ [r] } }
  (q, s.wr64 F.JNL_SEQ_LO F.JNL_SEQ_HI q)

/-- Issue a record whose number is not needed. -/
def State.emitRec (s : State) (g : Nat) (b : RecBody) : State := (s.issueRec g b).2

/-- Change a record. -/
def State.updRec (s : State) (q : Nat) (f : Rec → Rec) : State :=
  { s with tally := { s.tally with recs := mapIf (fun r => r.seq == q) f s.tally.recs } }

def State.rec? (s : State) (q : Nat) : Option Rec := s.tally.recs.find? fun r => r.seq == q

end Sys2Proof.Machine
end

