-- ==== Sys2Proof/Machine/Lay.lean ====
section
/-!
DEFINITION. Machine/Lay.lean: the working face: opening stripes, placing blocks, closing, sealing (R230 to R243).
-/

namespace Sys2Proof.Machine

/-! ### Staging store (R237) -/

/-- Staging slabs a stripe holds: its data slabs reached, and its check slabs once it is closed, until every slab written
from it is acknowledged (R19). -/
def Stripe.staged (x : Stripe) : Nat :=
  match x.state with
  | .opened => ceilDiv x.blocks.length 16
  | .closed => ceilDiv x.blocks.length 16 + x.m
  | .sealed => x.kp + x.m - x.acked.length
  | _ => 0

/-- Staging slabs a group holds. -/
def State.stagedOf (s : State) (g : Nat) : Nat := ((s.stripesOf g).map Stripe.staged).sum

/-- Whether a group can take one more staging slab: its reserve of k + m, or the slabs shared (R237). -/
def State.slabFree (s : State) (g : Nat) : Bool :=
  let conf := (List.range 8).filter fun i => (s.group i).configured
  let res := fun i => let x := s.geo i; x.k + x.m
  let shared := 1024 - (conf.map res).sum
  let excess := (conf.map fun i => s.stagedOf i - res i).sum
  s.stagedOf g < res g || excess < shared

/-! ### Opening, placing and closing -/

/-- Close an open stripe: no further places (R239). -/
def State.closeStripe (s : State) (g n : Nat) : State := s.updStripe g n fun x => { x with state := .closed, closedAt := s.now }

/-- Open a stripe of a stream in a group (R242): entry, row and members; none where there is no entry or no row. -/
def State.openStripe (s : State) (g : Nat) (st : Stream) : Option (Nat × State) :=
  if s.draining then none else
  let x := s.placeGeo g
  let ke := s.keff x
  let w := ke + x.m
  let num? := (List.range ((s.stripesOf g).length + 1)).find? fun n => (s.stripe? g n).isNone
  match num?, s.rowFor g x w with
  | some num, some row =>
    if ke = 0 || s.entries g ≤ num || 8 ≤ ((s.stripesOf g).filter fun y => y.state == .opened).length
        || 64 ≤ (s.stripes.filter fun y => y.state == .opened).length then none
    else
      let mem := (after (s.freeIn g x row) (s.group g).lastSlot).take w
      let y : Stripe := {
        group := g, num := num, state := .opened, stream := st, row := row, members := mem, keff := ke, m := x.m,
        geom := x.geom, kp := 0, lastb := 0, fseq := 0, firstAt := none, closedAt := 0, blocks := [], acked := [], owed := 0,
        live := 0, relocs := [], freeSent := false, freeDurable := false, lostMap := [], lostAt := 0, swept := false }
      let s := { s with stripes := s.stripes ++ [y] }
      let s := s.updGroup g fun gr => { gr with cursor := row, lastSlot := mem.getLast?.getD gr.lastSlot }
      some (num, s.syncGroup g)
  | _, _ => none

/-- Open stripes of a stream in a group, oldest first. -/
def State.openOf (s : State) (g : Nat) (st : Stream) : List Stripe :=
  (s.stripesOf g).filter fun x => x.state == .opened && x.stream == st

/-- How many stripes of a stream may be open (R236). -/
def State.openMax (s : State) (g : Nat) (st : Stream) : Nat := match st with | .host => s.rd (F.LAY_GSEAL_HOST_OPEN g) | _ => 1

/-- The stripe that takes the next block of a stream: the oldest open one with an unassigned place, or a new one (R238). -/
def State.stripeFor (s : State) (g : Nat) (st : Stream) : Option (Nat × State) :=
  match (s.openOf g st).find? fun x => x.blocks.length < 16 * x.keff with
  | some x => some (x.num, s)
  | none => if (s.openOf g st).length < s.openMax g st then s.openStripe g st else none

/-- Put a block at the next place of a stripe in fill order (R231). A stripe whose every place is assigned closes (R239). -/
def State.placeIn (s : State) (g n : Nat) (b : SBlock) : State :=
  match s.stripe? g n with
  | none => s
  | some x =>
    let i := x.blocks.length
    let keep : Bool := match b.owner with | .move .. => decide (b.order < 65536) | _ => false
    let b := { b with slab := i / 16, blk := i % 16, order := if keep then b.order else i }
    let s := s.updStripe g n fun y => { y with blocks := y.blocks ++ [b], firstAt := some (y.firstAt.getD s.now) }
    if i + 1 = 16 * x.keff then s.closeStripe g n else s

/-- Place one block of a stream, with the stripe it went to; none where no place can be given now. When no staging slab is
free to the group, its oldest open stripe closes and the block waits (R237). -/
def State.place (s : State) (g : Nat) (st : Stream) (b : SBlock) : State × Option Nat :=
  match s.stripeFor g st with
  | none => (s, none)
  | some (n, s') =>
    let starts := match s'.stripe? g n with | some x => x.blocks.length % 16 == 0 | none => false
    if starts && !s'.slabFree g then
      match (s.stripesOf g).find? fun x => x.state == .opened with
      | some old => (s.closeStripe g old.num, none)
      | none => (s, none)
    else
      let s := s'.placeIn g n b
      (if st == .host then s.updGroup g fun x => { x with placedInPeriod := x.placedInPeriod + 1 } else s, some n)

/-- A block to place, its place not yet known. -/
def newBlock (o : Owner) (nsid lba gen birth order : Nat) (c : Option Blk) : SBlock :=
  { slab := 0, blk := 0, owner := o, nsid := nsid, lba := lba, gen := gen, birth := birth, order := order, content := c }

/-! ### Write data in host buffers (R128, R139) -/

/-- The keyed blocks of a data description, each with the place of its bytes in the data. -/
def sglPlaces (d : Sgl) : List (Nat × KeyedBlk) :=
  match d with
  | .keyed b => [(0, b)]
  | .segment bs => (bs.foldl (fun (p : Nat × List (Nat × KeyedBlk)) b => (p.1 + b.len, p.2 ++ [(p.1, b)])) (0, [])).2
  | _ => []

/-- Ask for the write data of a command that are not in its capsule: one fetch for each keyed block, with its key and address as
the host gave them at every attempt (R128), or the reads of a PRP list. -/
def State.startFetch (s : State) (c : Cmd) (len : Nat) : State :=
  let s := s.updCmd c.id fun x => { x with toFetch := len, pieces := [], bytes := len }
  match (s.queueOf c.nv).bind (·.conn) with
  | some cid => (sglPlaces c.nv.sgl).foldl (fun s p => s.transmit cid (.fetch c.id p.1 p.2)) s
  | none => s.epStartFetch c.nv.ctl c.id len

/-- Place the blocks of a command that have no place yet, in LBA order (R238), once the dirty lines in its range are written back
(R125); what cannot be placed waits. -/
def State.placeCmd (s : State) (id : Nat) : State :=
  match s.cmd? id with
  | none => s
  | some c => match s.ns? c.nv.nsid with
    | none => s
    | some n =>
      let slba := c.nv.cdw10 + 2 ^ 32 * c.nv.cdw11
      if !c.dirtyWait.isEmpty then s else
      c.unplaced.foldl (fun s i =>
        match s.cmd? id with
        | some c' =>
          if c'.unplaced.head? != some i then s else
          match s.place (n.moveTo.getD n.group) .host (newBlock (.cmd id i) n.nsid (slba + i) n.gen 0 0 (c.blocks[i]?)) with
          | (s, some k) => s.updCmd id fun y => { y with unplaced := y.unplaced.drop 1, stripes := (y.stripes ++ [k]).dedup }
          | (s, none) => s
        | none => s) s

/-- Give every waiting command of a group its places, oldest first. -/
def State.placeWaiting (s : State) (g : Nat) : State :=
  (s.cmds.filter fun c => !c.unplaced.isEmpty && (s.ns? c.nv.nsid).any fun n => n.moveTo.getD n.group == g).foldl
    (fun s c => s.placeCmd c.id) s

/-! ### Contents and voids -/

/-- Put data that have arrived into the places of a command. -/
def State.stageCmd (s : State) (id : Nat) : State :=
  match s.cmd? id with
  | none => s
  | some c => { s with
      stripes := s.stripes.map fun x => { x with
      blocks := x.blocks.map fun b =>
      match b.owner with
      | .cmd i k => if i = id && b.content.isNone then { b with content := c.blocks[k]? } else b
      | _ => b } }

/-- A void block at a place (Table LOG-3). -/
def SBlock.toVoid (b : SBlock) : SBlock := { b with owner := .void, nsid := 0, lba := 0, gen := 0, content := some (.enter 0 0) }

/-- Make the places of a command in stripes not yet sealed void: its blocks are not applied. -/
def State.voidCmd (s : State) (id : Nat) : State :=
  { s with
      stripes := s.stripes.map fun x =>
      let mine := fun (b : SBlock) => match b.owner with | .cmd i _ => i == id | _ => false
      match x.state with
      | .opened | .closed => { x with blocks := mapIf mine SBlock.toVoid x.blocks }
      | _ => if x.blocks.any mine then { x with blocks := mapIf mine SBlock.toVoid x.blocks, owed := x.owed - 1 } else x }

/-! ### Seal (R239, R240, R242, R272) -/

/-- Whether every assigned place holds its data. -/
def Stripe.full (x : Stripe) : Bool := x.blocks.all fun b => b.content.isSome

/-- Commands with blocks in a stripe. -/
def Stripe.cmds (x : Stripe) : List Nat := (x.blocks.filterMap fun b => match b.owner with | .cmd i _ => some i | _ => none).dedup

/-- MAP_DELTA records a sealed stripe gives rise to: one for each command, one for window write-backs, one for moves. -/
def Stripe.deltas (x : Stripe) : Nat :=
  x.cmds.length + bit (x.blocks.any fun b => match b.owner with | .line .. => true | _ => false)
    + bit (x.blocks.any fun b => match b.owner with | .move .. => true | _ => false)

/-- Pending entries in the delta queue of a group's role (R272). -/
def State.dqUsed (s : State) (g : Nat) : Nat :=
  (s.pendings.filter fun p => (s.ns? p.nsid).any fun n => layRole n.group == layRole g).length

/-- Entries that a stripe's blocks would make pending. -/
def State.newPendings (s : State) (g n : Nat) : List Pending :=
  match s.stripe? g n with
  | none => []
  | some x =>
    let entryOf := fun (y : Stripe) (b : SBlock) => some (Entry.at ⟨g, y.num, b.slab, b.blk⟩ (y.fseq % 4096))
    let ready := x.cmds.filter fun i => match s.cmd? i with
      | some c => c.unplaced.isEmpty && c.stripes.all fun k => match s.stripe? g k with
        | some y => !(y.state == .opened || y.state == .closed)
        | none => true
      | none => false
    let ofCmd := ready.flatMap fun i => (s.stripesOf g).flatMap fun y => y.blocks.filterMap fun b => match b.owner with
      | .cmd j _ => if i = j then some (Pending.mk i b.nsid b.lba 1 (entryOf y b)) else none
      | _ => none
    let ofLines := x.blocks.filterMap fun b => match b.owner with
      | .line ns l => some (Pending.mk 0 ns l 1 (entryOf x b))
      | _ => none
    ofCmd ++ ofLines

/-- Report a full delta queue, at most once per 1 ms (Table SVY-13 local 10). -/
def State.dqFull (s : State) (g : Nat) : State :=
  (s.bump (F.SVY_DQ_FULL (layRole g))).raiseOnce (msU 1) (s.roleBench 2 (layRole g)) 10 NOTICE 7 0

/-- Seal a closed stripe: its face sequence, k′ and LASTB, MEMBERS in ascending order, the positions it gives back, the
BIRTH_SEQ of new blocks, the pending entries, and one slab write to each member (R233, R234, R240). -/
def State.sealStripe (s : State) (g n : Nat) : State :=
  match s.stripe? g n with
  | none => s
  | some x =>
    let q := (s.group g).fseq + 1
    let len := x.blocks.length
    let kp := max 1 (ceilDiv len 16)
    let voids := (x.blocks.filter fun b => b.owner == .void).length
    let s := s.updGroup g fun y => { y with fseq := q }
    let s := s.wr64 (F.LAY_GFSEQ_LO g) (F.LAY_GFSEQ_HI g) q
    let s := s.bump (if kp = x.keff then F.LAY_SEAL_FULL g else F.LAY_SEAL_EARLY g)
    let s := s.bumpBy (F.LAY_VOID g) voids
    let s := s.updStripe g n fun y => { y with
      state := .sealed, fseq := q, kp := kp, lastb := (len + 15) % 16,
      members := sortNat (y.members.take (kp + y.m)),
      blocks := y.blocks.map fun b => if b.birth = 0 then { b with birth := q } else b, owed := y.deltas }
    let add := (s.newPendings g n).filter fun p => !s.pendings.contains p
    let s := { s with pendings := s.pendings ++ add }
    let s := (List.range (kp + x.m)).foldl (fun s i =>
      match s.slabSlot (.log g n) i with
      | some slot => s.issueM slot (match x.stream with | .host => 2 | _ => 4) (.slabWrite g n i)
      | none => s) s
    s.syncGroup g

/-- Whether every command whose blocks all have their places is dispatched (R140, log entry 125): the moment of its dispatch comes
before the seal of its stripes. -/
def State.stripeDispatched (s : State) (x : Stripe) : Bool :=
  x.cmds.all fun i => (s.cmd? i).all fun c => !(c.phase == .admitted && c.unplaced.isEmpty)

/-- Seal a closed stripe when every place holds its data, its commands are dispatched and the delta queue has room (R140, R239,
R272). -/
def State.trySeal (s : State) (g n : Nat) : State :=
  match s.stripe? g n with
  | some x =>
    if x.state != .closed || !x.full || !s.stripeDispatched x then s
    else if 65536 < s.dqUsed g + (s.newPendings g n).length then s.dqFull g
    else s.sealStripe g n
  | none => s

/-- Seal time of a group's stripes: SEAL_US, or 100 µs for host stripes while entries are scarce (R239, R243). -/
def State.sealTime (s : State) (x : Stripe) : Nat :=
  if x.stream == .host && s.entryNotice.contains x.group then usU 100 else usU (s.rd (F.LAY_GSEAL_SEAL_US x.group))

/-- SEAL_TIME_EXPIRY (R239): SEAL_US after its first place was assigned, an open stripe closes. -/
def execSealTimeExpiry (group stripe : Nat) (s : State) : Host.Outcome State Fault Refusal :=
  .next <|
    match s.stripe? group stripe with
    | some x => match x.state, x.firstAt with
      | .opened, some t => if s.due (t + s.sealTime x) then (s.closeStripe group stripe).syncGroup group else s
      | _, _ => s
    | none => s

/-- SEAL_WAIT_EXPIRY (R239): SEAL_WAIT_US after the close, places without data become void; the commands that owned them
have their blocks placed again, to be fetched in full again. -/
def execSealWaitExpiry (group stripe : Nat) (s : State) : Host.Outcome State Fault Refusal :=
  .next <|
    match s.stripe? group stripe with
    | some x =>
      if x.state == .closed && !x.full && s.due (x.closedAt + usU (s.rd (F.LAY_GSEAL_SEAL_WAIT_US group))) then
        let late := (x.blocks.filter fun b => b.content.isNone).filterMap fun b => match b.owner with
          | .cmd i k => some (i, k)
          | _ => none
        let s := s.updStripe group stripe fun y => { y with blocks := mapIf (fun b => b.content.isNone) SBlock.toVoid y.blocks }
        let ids := (late.map (·.1)).dedup
        ids.foldl (fun s i =>
          let mine := (late.filter fun p => p.1 == i).map (·.2)
          let other := fun (s : State) => s.stripes.any fun y => y.group == group && y.num == stripe && y.cmds.contains i
          let s := s.updCmd i fun c => { c with
            unplaced := mine ++ c.unplaced, blocks := [], stripes := if other s then c.stripes else c.stripes.filter (· != stripe) }
          let s := match s.cmd? i with
            | some c => s.startFetch c c.bytes
            | none => s
          s.placeCmd i) s
      else s
    | none => s

end Sys2Proof.Machine
end

