-- ==== Sys2Proof/Machine/Svy.lean ====
section
/-!
DEFINITION. Machine/Svy.lean: the survey as a map (R257 to R259, R272 to R274), stripes acknowledged and freed (Table LOG-2),
relocations (R248, R317, R319), and the state of a group that page C2h reports (R321).
-/

namespace Sys2Proof.Machine

/-! ### Lookup and change -/

/-- The newest pending entry that covers a block, if one does (R272). -/
def State.pendingFor (s : State) (nsid lba : Nat) : Option Pending :=
  s.pendings.reverse.find? fun p => p.nsid == nsid && p.lba ≤ lba && lba < p.lba + p.run

/-- The survey entry of a block in the pages alone; none is VALID 0. -/
def State.paged (s : State) (nsid lba : Nat) : Option Entry :=
  (s.survey.find? fun m => m.nsid == nsid && m.lba == lba).map (·.entry)

/-- The entry a lookup finds: a pending entry before any page (R269, R272). -/
def State.resolve (s : State) (nsid lba : Nat) : Option Entry :=
  match s.pendingFor nsid lba with
  | some p => p.new
  | none => s.paged nsid lba

/-- Write an entry into its page. -/
def State.setEntry (s : State) (nsid lba : Nat) (e : Option Entry) : State :=
  { s with survey := (s.survey.filter fun m => !(m.nsid == nsid && m.lba == lba)) ++ (e.toList.map fun x => ⟨nsid, lba, x⟩) }

/-- The place an entry names, if it names one. -/
def Entry.place? : Option Entry → Option Place
  | some (.at p _) => some p
  | _ => none

/-! ### Objects and the cache (R262, R269 to R271, R278) -/

/-- NSGEN of an object: its owner's for a survey tree, 0 otherwise (Table SVY-6). -/
def State.objGen (s : State) (kind owner : Nat) : Nat := if kind ≤ 1 then ((s.ns? owner).map (·.gen)).getD 0 else 0

/-- Whether an object is the one a group now has under a kind, owner, level and index. -/
def State.isObj (s : State) (g kind owner level index : Nat) (o : SvyObj) : Bool :=
  o.group == g && o.kind == kind && o.owner == owner && o.level == level && o.index == index && o.gen == s.objGen kind owner

/-- The objects that lead to a level-0 object, itself first: kind, level and index (R262). -/
def State.pathOf (s : State) (g kind owner index : Nat) : List (Nat × Nat × Nat) :=
  (List.range (treeHeight (s.treeUnits g kind owner) + 1)).map fun l => (if l = 0 then kind else ptrKind kind, l, index / 512 ^ l)

/-- Whether an object leads to a level-0 object, or is it. -/
def State.onPath (s : State) (g kind owner index : Nat) (o : SvyObj) : Bool :=
  (s.pathOf g kind owner index).any fun p => s.isObj g p.1 owner p.2.1 p.2.2 o

/-- Change the objects that pass a test. -/
def State.updObjs (s : State) (p : SvyObj → Bool) (f : SvyObj → SvyObj) : State := { s with objs := mapIf p f s.objs }

/-- An object that exists in the survey area and is not cached. -/
def SvyObj.away (o : SvyObj) : Bool := !o.cached && o.slot.isSome

/-- A new object, cached and not yet written. -/
def State.freshObj (s : State) (g kind owner level index : Nat) : SvyObj :=
  { group := g, kind := kind, owner := owner, index := index, gen := s.objGen kind owner, slot := none, copies := [], applied := 0, dirty := false
    oldest := 0, cached := true, loading := false, level := level, ext := kind = 0, inBank := false, evicting := false, indexed := 0 }

/-- Cells the region of a role has (R269); with GIB 0 the bank's 1,536 pages are all there is (log entry 50). -/
def State.cacheRoom (s : State) : Nat :=
  let gib := s.rd F.SVY_CACHE_CFG_GIB
  if gib = 0 then 1536 * 16 else gib * 4194304

/-- Whether an object has a cached child. -/
def State.hasChild (s : State) (o : SvyObj) : Bool :=
  s.objs.any fun x => x.cached && x.group == o.group && x.owner == o.owner && x.gen == o.gen && ptrKind x.kind == o.kind && x.level + 1 == o.level &&
    x.index / 512 == o.index

/-- A role whose region is full gives up the least recently used clean object that has no cached child; with none clean a dirty one is to
be written back first (R271). -/
def State.evictObj (s : State) (r : Nat) : State :=
  (List.range s.objs.length).foldl (fun (s : State) _ =>
    let mine := s.objs.filter fun o => o.kind ≤ 1 && layRole o.group == r && o.cached
    if (mine.map s.objCells).sum ≤ s.cacheRoom then s else
    let free := mine.filter fun o => !s.hasChild o && !o.loading
    match free.find? fun o => !o.dirty with
    | some o => s.updObjs (· == o) fun x => { x with cached := false, inBank := false }
    | none => match free.find? fun o => !o.evicting with
      | some o => s.updObjs (· == o) fun x => { x with evicting := true }
      | none => s) s

/-- Objects are used: they are the most recent, pages come into the role's bank, which gives up its least recently used one, and an
eviction under way is cancelled (R269, R271). -/
def State.useObjs (s : State) (r : Nat) (p : SvyObj → Bool) : State :=
  let s : State := { s with
    objs := (s.objs.filter fun o => !p o) ++ (s.objs.filter p).map fun o => { o with inBank := o.cached && o.kind == 0, evicting := false } }
  let bank := s.objs.filter fun o => o.inBank && layRole o.group == r
  match bank.head? with
  | some o => if 1536 < bank.length then s.updObjs (· == o) fun x => { x with inBank := false } else s
  | none => s

/-- Mark the object of level 0 that a record changes dirty (R274, R276). The active reads what of its path misses; a standby reads a page
once its index holds 64 records for it (R278). -/
def State.touch (s : State) (g kind owner index seq : Nat) : State :=
  let hit := s.isObj g kind owner 0 index
  let r := layRole g
  if s.objs.any hit then
    let miss := s.objs.filter fun o => s.onPath g kind owner index o && o.away
    let wait := (s.halRole == 2 || s.halRole == 4) && miss.any hit && miss.all fun o => !hit o || o.indexed + 1 < 64
    let s : State := if wait then s.updObjs hit fun o => { o with indexed := o.indexed + 1 } else
      let s := (s.bumpBy (F.SVY_MISS_CNT r) miss.length).bgIo (miss.filterMap fun o => o.copies.find? s.inService)
      (s.updObjs (s.onPath g kind owner index) fun o => { o with cached := true, loading := false, indexed := 0 }).useObjs r hit
    (s.updObjs hit fun o => { o with
      dirty := true, evicting := false, applied := max o.applied seq, oldest := if o.dirty then o.oldest else seq
      ext := o.ext && (kind != 0 || s.extentCount owner index ≤ 252) }).evictObj r
  else
    ({ s with objs := s.objs ++ [{ s.freshObj g kind owner 0 index with dirty := true, applied := seq, oldest := seq }] }.useObjs r hit).evictObj r

/-- What must be read before the entries of blocks of a namespace can be resolved: objects on the way to a page that holds one without a
pending entry (R270). -/
def State.missing (s : State) (n : Namespace) (lbas : List Nat) : List SvyObj :=
  let pages := ((lbas.filter fun l => (s.pendingFor n.nsid l).isNone).map (· / 512)).dedup
  if n.fixed then [] else s.objs.filter fun o => o.away && pages.any fun p => s.onPath n.group 0 n.nsid p o

/-- Objects are being read (R270). -/
def State.loadObjs (s : State) (l : List SvyObj) : State := s.updObjs l.contains fun o => { o with loading := true }

/-- Lookups of blocks of a log-layout namespace whose pages are at hand: counted, those the bank does not hold served from the region
(R269, Table SVY-12). -/
def State.lookups (s : State) (n : Namespace) (lbas : List Nat) : State :=
  if n.fixed then s else
  let r := layRole n.group
  let pages := ((lbas.filter fun l => (s.pendingFor n.nsid l).isNone).map (· / 512)).dedup
  pages.foldl (fun (s : State) p =>
    let s := if 0 < s.rd F.SVY_CACHE_CFG_GIB && s.objs.any fun o => s.isObj n.group 0 n.nsid 0 p o && o.cached && !o.inBank then
      s.bump (F.SVY_BANK_MISS r) else s
    s.useObjs r (s.onPath n.group 0 n.nsid p)) (s.bumpBy (F.SVY_LOOKUP r) lbas.length)

/-- Add to LIVE of a stripe, and mark its segment dirty. -/
def State.liveBy (s : State) (p : Place) (up : Bool) (seq : Nat) : State :=
  (s.updStripe p.group p.stripe fun x => { x with live := if up then x.live + 1 else x.live - 1 }).touch p.group 2 p.group
    (p.stripe / 256) seq

/-- Add to the mapped counts of a namespace and its group. -/
def State.mappedBy (s : State) (nsid g : Nat) (up : Bool) : State :=
  let f := fun (n : Nat) => if up then n + 1 else n - 1
  (s.updNs nsid fun n => { n with mapped := f n.mapped }).updGroup g fun x => { x with mapped := f x.mapped }

/-- Apply the new entry of one block (R274 steps 1, 3, 4, 5); a block written or deallocated is no longer lost (R194). -/
def State.applyEntry (s : State) (nsid lba seq : Nat) (new : Option Entry) : State :=
  let old := Entry.place? (s.paged nsid lba)
  let s := s.setEntry nsid lba new
  let s := match old with
    | some p => (s.liveBy p false seq).mappedBy nsid p.group false
    | none => s
  let s := match Entry.place? new with
    | some p => (s.liveBy p true seq).mappedBy nsid p.group true
    | none => s
  let home := ((s.ns? nsid).map (·.group)).getD 0
  s.touch home 0 nsid (lba / 512) seq

/-- Apply one run of a MAP_DELTA record. A move is applied only when the entry still names the move's old place and the
block has no pending entry; otherwise it is dropped (R251, R274). -/
def State.applyRun (s : State) (kind seq : Nat) (r : MapRun) : State :=
  (List.range r.run).foldl (fun s i =>
    let lba := r.lba + i
    if kind = 0 then (s.applyEntry r.nsid lba seq r.new).clearLost r.nsid lba
    else if s.paged r.nsid lba == r.old && (s.pendingFor r.nsid lba).isNone then
      let s := s.applyEntry r.nsid lba seq r.new
      match Entry.place? r.old with
      | some p => if kind = 1 then s.bump (F.LAY_RECL_MOVED p.group) else s
      | none => s
    else s.bump (F.SVY_MOVE_DROP (layRole (((s.ns? r.nsid).map (·.group)).getD 0)))) s

/-! ### Rebuild work and the health of a group (R315, R321) -/

/-- A stripe leaves the rebuild work for a slot, by whatever means, and counts in REBUILD_DONE (R315). -/
def State.leaveWork (s : State) (g : Nat) (p : Nat × Nat → Bool) : State :=
  let n := ((s.group g).work.filter p).length
  (s.updGroup g fun x => { x with work := x.work.filter fun w => !p w }).bumpBy (F.LAY_GREB_DONE_DONE g) n

/-- Whether the slab of a stripe lies on a member that serves reads. -/
def State.readable (s : State) (slot : Nat) : Bool := (s.slot slot).state == 1 || (s.slot slot).state == 3

/-- Slabs of a log stripe unavailable: on a member that does not serve reads and not relocated (R311). -/
def State.slabsOut (s : State) (x : Stripe) : Nat :=
  ((List.range x.members.length).filter fun i =>
    !(x.relocs.any fun r => r.slab == i && r.effective) &&
    match s.slabSlot (.log x.group x.num) i with | some n => !s.readable n | none => false).length

/-- Whether a member of a group's fixed rows holds no current fixed data: out of service, or with dirty regions. -/
def State.fixOut (s : State) (n : Nat) : Bool := !s.readable n || (s.slot n).allDirty || !(s.slot n).dirty.isEmpty

/-- Most slabs unavailable in one fixed stripe of a group. -/
def State.fixSlabsOut (s : State) (g : Nat) : Nat :=
  if (s.group g).fixedRows = 0 then 0 else
  let x := s.geo g
  let w := x.k + x.m
  listMax ((List.range x.spr).map fun t => (((x.members.drop (t * w)).take w).filter s.fixOut).length)

/-- Whether a group has resynchronisation work (R323). -/
def State.resyncWork (s : State) (g : Nat) : Bool :=
  (s.geo g).members.any fun n => s.inService n &&
    (((s.slot n).allDirty && s.nss.any fun x => x.fixed && x.group == g) || !(s.slot n).dirty.isEmpty)

/-- STATE of page C2h by R321. -/
def State.c2Of (s : State) (g : Nat) : Nat :=
  if s.fixSlabsOut g ≥ 2 || (s.stripesOf g).any (fun x => (x.state == .live || x.state == .lost) && s.slabsOut x ≥ 2) then 2
  else if !(s.group g).work.isEmpty || s.resyncWork g then 3
  else if (s.geo g).members.any fun n => !s.inService n then 1
  else if s.reshape.any fun r => r.group == g then 4 else 0

/-- DRAINING members whose every log slab has been copied, in a group without fixed rows, are ABSENT (Table REB-2). -/
def State.drainEnd (s : State) (g : Nat) : State :=
  if 0 < (s.group g).fixedRows then s else
  ((List.range 48).filter fun n => (s.slot n).state == 3 && (s.slot n).group == g &&
      !(s.stripesOf g).any fun x => x.state != .freeing && x.holds.contains n).foldl (fun s n =>
    (s.changeSlot n 0 fun x => { x with absent := none }).raiseLay g 11 INFO 9
      (n + 256 * g)) s

/-- Bring a group's reported state in line: controllers of identities with DIAG hear of a change (R197), and the end of
rebuild and resynchronisation work is an event (Table REB-16). -/
def State.syncHealth (s : State) (g : Nat) : State :=
  if !(s.group g).configured then s else
  let s := s.drainEnd g
  let st := s.c2Of g
  let old := (s.group g).c2state
  let s := s.syncGroup g
  if st = old then s else
  let s := s.updGroup g fun x => { x with c2state := st }
  let s := if (old = 3 || old = 2) && (s.group g).work.isEmpty && !s.resyncWork g && st < 2 then s.raiseLay g 15 INFO 0x10 g else s
  s.noticeAll (fun i => (s.ident? i).any fun d => hasBit d.priv 3) 7 0xC2 0xC2

/-! ### Stripes acknowledged, freed, and given back (Table LOG-2, R249) -/

/-- A LIVE or LOST stripe whose LIVE is 0 and whose MAP_DELTA records are all applied or dropped enters FREEING; its freeing
goes into a SEAL record, with the removal of its relocation records (R249, R319). A standby writes no record. -/
def State.freeIfEmpty (s : State) (g n : Nat) : State :=
  match s.stripe? g n with
  | some x =>
    if (x.state == .live || x.state == .lost) && x.live = 0 && x.owed = 0 && !(s.halRole == 2 || s.halRole == 4) then
      let s := s.updStripe g n fun y => { y with state := .freeing, freeSent := true }
      let s := s.emitRec g (.seal (.free n :: x.relocs.map fun r => .relocDel n r.slab))
      (s.leaveWork g fun w => w.1 == n).syncHealth g
    else s
  | none => s

/-- A stripe discarded before every member acknowledged it enters FREEING without having been LIVE. -/
def State.discardToFree (s : State) (g n : Nat) : State :=
  (s.updStripe g n fun y => { y with state := .freeing, freeSent := true }).emitRec g (.seal [.free n])

/-- The runs of a command's MAP_DELTA: the blocks it placed, with the entries in force (R274, Table TLY-4). -/
def State.runsOf (s : State) (g : Nat) (mine : SBlock → Bool) (l : List Stripe) : List MapRun :=
  l.flatMap fun y => (y.blocks.filter mine).map fun b =>
    { nsid := b.nsid, lba := b.lba, run := 1, old := s.paged b.nsid b.lba,
      new := some (.at ⟨g, y.num, b.slab, b.blk⟩ (b.birth % 4096)) }

/-- Whether a stripe has been acknowledged. -/
def Stripe.done (x : Stripe) : Bool := x.state == .live || x.state == .freeing || x.state == .lost

/-- Issue a MAP_DELTA for a command whose every stripe is acknowledged. -/
def State.emitCmdDelta (s : State) (g id : Nat) : State :=
  match s.cmd? id with
  | none => s
  | some c =>
    let mineStripes := c.stripes.filterMap fun k => s.stripe? g k
    if c.unplaced.isEmpty && mineStripes.all Stripe.done then
      let runs := s.runsOf g (fun b => match b.owner with | .cmd i _ => i == id | _ => false) mineStripes
      let (q, s) := s.issueRec g (.mapDelta (some id) 0 runs c.stripes)
      s.updCmd id fun x => { x with recsLeft := [q] }
    else s

/-- STRIPE_ACKNOWLEDGED: every slab write of a sealed stripe is acknowledged. The stripe is LIVE; MAP_DELTA and SEAL records
are issued (Table LOG-2), relocations of a stripe still LIVE or LOST with them (R317). -/
def State.ackStripe (s : State) (g n : Nat) : State :=
  match s.stripe? g n with
  | none => s
  | some x =>
    let s := s.updStripe g n fun y => { y with state := .live }
    let s := x.cmds.foldl (fun s i => s.emitCmdDelta g i) s
    let line := s.runsOf g (fun b => match b.owner with | .line .. => true | _ => false) [x]
    let s : State := if line.isEmpty then s else s.emitRec g (.mapDelta none 0 line [n])
    let moves : List (Nat × MapRun) := x.blocks.filterMap fun b => match b.owner with
      | .move old kind => some (kind, MapRun.mk b.nsid b.lba 1 (some (.at old (b.birth % 4096)))
          (some (.at ⟨g, n, b.slab, b.blk⟩ (b.birth % 4096))))
      | _ => none
    let s : State := match moves with
      | [] => s
      | (k, _) :: _ => s.emitRec g (.mapDelta none k (moves.map Prod.snd) [n])
    let rel : List (Nat × Nat × Nat) := (x.blocks.filterMap fun b => match b.owner with | .reloc st sl => some (st, sl, b.slab) | _ => none).dedup
    let keep := rel.filter fun r => (s.stripe? g r.1).any fun (y : Stripe) => y.state == .live || y.state == .lost
    let s := (rel.filter fun r => !keep.contains r).foldl (fun s r => s.leaveWork g fun w => w.1 == r.1) s
    let s := s.emitRec g (.seal (.live n x.fseq :: keep.map fun r => .relocAdd r.1 r.2.1 n r.2.2))
    (s.freeIfEmpty g n).syncGroup g

/-- Reads still in progress that reach into a stripe (R249). -/
def State.readsIn (s : State) (g n : Nat) : Bool :=
  s.jobs.any fun j => j.target.stripe == .log g n || j.awaiting.any fun b => b.stripe == .log g n

/-- STRIPE_RELEASE (R249): FREEING to FREE when its freeing is durable, no read reaches into it and no relocation record
names it; its positions are gathered for deallocation (R409). -/
def execStripeRelease (group stripe : Nat) (s : State) : Host.Outcome State Fault Refusal :=
  .next <|
    match s.stripe? group stripe with
    | some x =>
      let named := (s.stripesOf group).any fun y => y.relocs.any fun r => r.newStripe == stripe
      let held := match s.fenceEnd with | some t => !s.due t | none => false
      if x.state == .freeing && x.freeDurable && !s.readsIn group stripe && !named && !held then
        let s := { s with stripes := s.stripes.filter fun y => !(y.group == group && y.num == stripe),
                          trimGather := s.trimGather ++ (if s.isSet F.DRV_CFG_TRIM_EN then
                            x.members.map fun m => (m, x.row, s.now) else []) }
        ((s.syncGroup group).placeWaiting group).syncHealth group
      else s
    | none => s

/-! ### Applying records (R274, R317, R319) -/

/-- Apply a durable MAP_DELTA: entries, pending entries removed, LIVE and mapped counts, as one step (R274). -/
def State.applyDelta (s : State) (g seq kind : Nat) (cmd : Option Nat) (runs : List MapRun) (stripes : List Nat) : State :=
  let s := runs.foldl (fun s r => s.applyRun kind seq r) s
  let s := { s with
    pendings := match cmd with
    | some id => s.pendings.filter fun p => p.cmd != id
    | none => if kind = 0 then s.pendings.filter fun p => !(p.cmd == 0 && runs.any fun r => r.nsid == p.nsid && r.lba == p.lba)
      else s.pendings }
  let s := stripes.foldl (fun s n => s.updStripe g n fun x => { x with owed := x.owed - 1 }) s
  let touched := (s.stripes.filter fun x => x.live = 0 && x.owed = 0 && (x.state == .live || x.state == .lost)).map
    fun x => (x.group, x.num)
  touched.foldl (fun s p => s.freeIfEmpty p.1 p.2) s

/-- Apply one item of a durable SEAL record. -/
def State.applySeal (s : State) (g seq : Nat) (i : SealItem) : State :=
  match i with
  | .live n _ => s.touch g 2 g (n / 256) seq
  | .free n => (s.updStripe g n fun x => { x with freeDurable := true }).touch g 2 g (n / 256) seq
  | .lost n => s.touch g 2 g (n / 256) seq
  | .relocAdd n slab ns nslab =>
    match s.stripe? g n with
    | some x =>
      if x.state == .live || x.state == .lost then
        let slot := s.slabSlot (.log g n) slab
        let s := s.updStripe g n fun y => { y with relocs := ⟨slab, ns, nslab, true⟩ :: y.relocs.filter fun r => r.slab != slab }
        let s := s.bump (F.LAY_REB_SLABS g)
        (s.leaveWork g fun w => w.1 == n && some w.2 == slot).syncHealth g
      else s
    | none => s
  | .relocDel n slab => s.updStripe g n fun y => { y with relocs := y.relocs.filter fun r => r.slab != slab }

/-! ### Commands whose blocks are not applied (R140, R150, R151, R155, R160) -/

/-- Make every place of a command void; stripes that hold nothing else any more are freed. -/
def State.voidFree (s : State) (id : Nat) : State :=
  let hit := (s.stripes.filter fun x => x.cmds.contains id).map fun x => (x.group, x.num)
  hit.foldl (fun s p => s.freeIfEmpty p.1 p.2) (s.voidCmd id)

/-- End a write that fails before its stripes are sealed: nothing of it is applied. -/
def State.failWrite (s : State) (id : Nat) (st : Status) : State :=
  ((s.voidFree id).updCmd id fun x => { x with unplaced := [], stripes := [] }).setMet id 0 st

/-- Make a command's staged data in stripes not yet sealed absent again. -/
def State.unstage (s : State) (id : Nat) : State :=
  let mine := fun (b : SBlock) => match b.owner with | .cmd i _ => i == id | _ => false
  { s with
      stripes := mapIf (fun (x : Stripe) => x.state == .opened || x.state == .closed)
        (fun x => { x with blocks := mapIf mine (fun b => { b with content := none }) x.blocks }) s.stripes }

/-- The staged data of a command fail their check before the check slabs exist (Table ARC-5, R150): in-capsule data come from the
partner's mirror, or unpaired the command ends with Data Transfer Error and nothing of it is applied; data from host buffers are
fetched again. -/
def State.stageFails (s : State) (id : Nat) : State :=
  match s.cmd? id with
  | none => s
  | some c =>
    if c.result.isSome then s else
    match c.nv.sgl with
    | .inCapsule _ => if s.paired then s else
        ((s.bump (F.CMD_XFER_ERR (cmdRole c.nv))).raiseCmd (cmdRole c.nv) 10 ERROR 7 c.nv.nsid).failWrite id St.transfer
    | _ => ((s.unstage id).updCmd id fun x => { x with blocks := [] }).startFetch c c.bytes

/-- Whether a closed stripe can seal now (trySeal's conditions). -/
def State.canSeal (s : State) (g n : Nat) : Bool :=
  (s.stripe? g n).any fun x =>
    x.state == .closed && x.full && s.stripeDispatched x && s.dqUsed g + (s.newPendings g n).length ≤ 65536

/-- The role of a stripe computes its check slabs and the independent datapath checks them (R22, R232, Table MGT-8): a result that fails
is replayed on another instance; where the replay fails too the stripe stays closed (DESIGN CHOICE, log entry 136). -/
def State.sealChecked (s : State) (g n : Nat) (check : ParCheck) : State :=
  if !s.canSeal g n then s.trySeal g n else
  let r := parRole ((s.group g).fseq + 1)
  match check with
  | .ok => (s.trySeal g n).bump (F.PAR_STRIPES r)
  | .replayed hdrOk => (((s.trySeal g n).bump (F.PAR_STRIPES r)).bump (F.PAR_REPLAY r)).countRepair (s.roleBench 4 r) 11 hdrOk
  | .failed => ((s.bump (F.PAR_REPLAY r)).bump (F.PAR_CHECK_FAIL r)).raise (s.roleBench 4 r) 3 ERROR 1 11

/-- STRIPE_SEAL (R150, R232, R239, R240, R272). bad: the commands whose staged data fail their check as the check slabs are built;
check: what the independent datapath finds. -/
def execStripeSeal (group stripe : Nat) (bad : List Nat) (check : ParCheck) (s : State) : Host.Outcome State Fault Refusal :=
  .next <|
    let mine : List Nat := match s.stripe? group stripe with
      | some x => if x.state == .closed && x.full then x.cmds.filter fun i => bad.contains i else []
      | none => []
    ((mine.foldl (fun (s : State) i => s.stageFails i) s).sealChecked group stripe check).placeWaiting group

end Sys2Proof.Machine
end

