-- ==== Sys2Proof/Machine/Read.lean ====
section
/-!
DEFINITION. Machine/Read.lean: reading blocks for commands: availability and reconstruction (R311, R312), tail cutting (R313),
repair (R314), loss (R324 to R326), and the end of a Read, Compare or Verify (R146, R168).
-/

namespace Sys2Proof.Machine

/-! ### Fields of a block command (Table CMD-3) -/

def NvmeFields.slba (n : NvmeCmd) : Nat := n.cdw10 % 2 ^ 32 + 2 ^ 32 * (n.cdw11 % 2 ^ 32)
def NvmeFields.nlb (n : NvmeCmd) : Nat := n.cdw12 % 65536 + 1
def NvmeFields.pract (n : NvmeCmd) : Bool := hasBit n.cdw12 29
def NvmeFields.prchk (n : NvmeCmd) : Nat := bits n.cdw12 28 26
def NvmeFields.lbat (n : NvmeCmd) : Nat := n.cdw15 % 65536
def NvmeFields.lbatm (n : NvmeCmd) : Nat := bits n.cdw15 31 16
/-- ILBRT: CDW14, with the upper 16 bits of a 48-bit tag in CDW3 (PRESUMED, log entry 24). -/
def NvmeFields.ilbrt (lbaf : Nat) (n : NvmeCmd) : Nat := n.cdw14 % 2 ^ 32 + if lbaf = 2 then 2 ^ 32 * (n.cdw3 % 65536) else 0

open NvmeFields

/-- Whether a command reads blocks: Read, Compare, Verify. -/
def readOpc (o : Nat) : Bool := o == 0x02 || o == 0x05 || o == 0x0C

/-! ### Availability (R311) -/

/-- The place of a slab's block, through the relocation records of its stripe (R248, R319). -/
def State.locate (s : State) : Nat → BRef → BRef
  | 0, b => b
  | n + 1, b => match b.stripe with
    | .log g k => match (s.stripe? g k).bind fun x => x.relocs.find? fun r => r.slab == b.slab && r.effective with
      | some r => State.locate s n { b with stripe := .log g r.newStripe, slab := r.newSlab }
      | none => b
    | .fix .. => b

/-- Slot whose member holds a block. -/
def State.slotOf (s : State) (b : BRef) : Option Nat := let b := s.locate 4 b; s.slabSlot b.stripe b.slab

/-- Whether a block lies in a dirty region of its slot (R311, R322): a data block in the region of its LBA, a check block in one that its
stripe's blocks lie in. -/
def State.inDirty (s : State) (slot : Nat) (b : BRef) : Bool :=
  match b.stripe with
  | .log .. => false
  | .fix g row t =>
    (s.slot slot).allDirty || (!(s.slot slot).dirty.isEmpty && match s.fixStripeOf g row t with
      | none => false
      | some (n, j) =>
        let k := (s.geo g).k
        let at_ := if b.slab < k then [16 * (j * k + b.slab) + b.blk] else [16 * j * k, 16 * (j * k + k) - 1]
        at_.any fun lba => (s.slot slot).dirty.contains (n.nsid, lba / 16384))

/-- Whether a block is available (R311), with blocks a read job already found unreadable. -/
def State.avail (s : State) (bad : List BRef) (b : BRef) : Bool :=
  match s.slotOf b with
  | some n => s.readable n && !s.inDirty n b && !s.badBlks.contains b && !bad.contains b
  | none => false

/-- The blocks of a stripe at a block offset that hold data or check bytes (R230, R232). -/
def State.peers (s : State) (b : BRef) : List BRef :=
  let (k, m, _) := s.shape b.stripe
  let lastb := match b.stripe with | .log g n => ((s.stripe? g n).map (·.lastb)).getD 15 | _ => 15
  ((List.range (k + m)).filter fun i => if i + 1 = k || (k = 1) then b.blk ≤ lastb else true).map fun i => { b with slab := i }

/-- Fewest available blocks that determine a block without reading it: reconstruction, or another copy in a mirror layout
on the member with the fewest outstanding commands (R311). None when the block is lost. -/
def State.recon (s : State) (bad : List BRef) (b : BRef) : Option (List BRef) :=
  let (k, _, mirror) := s.shape b.stripe
  let others := (s.peers b).filter fun x => x.slab != b.slab
  let ok := others.filter (s.avail bad)
  if mirror then
    (ok.foldl (fun m x =>
      let load := s.memberLoad ((s.slotOf x).getD 0)
      match m with
      | some (_, l) => if load < l then some (x, load) else m
      | none => some (x, load)) none).map fun p => [p.1]
  else
    let dataOut := (others.filter fun x => x.slab < k && !ok.contains x).length + bit (b.slab < k)
    let data := ok.filter fun x => x.slab < k
    let check := ok.filter fun x => x.slab ≥ k
    if b.slab < k then (if dataOut ≤ check.length then some (data ++ check.take dataOut) else none)
    else if dataOut ≤ check.length then some (data ++ check.take dataOut) else none

/-- What to read for a block: the block itself, in a mirror layout the copy on the least loaded member, or what
reconstructs it. -/
def State.planRead (s : State) (bad : List BRef) (b : BRef) : Option (List BRef) :=
  if s.avail bad b then
    let (_, _, mirror) := s.shape b.stripe
    if mirror then
      match s.recon bad b with
      | some [c] => if s.memberLoad ((s.slotOf c).getD 0) < s.memberLoad ((s.slotOf b).getD 0) then some [c] else some [b]
      | _ => some [b]
    else some [b]
  else s.recon bad b

/-! ### Contents -/

/-- Where the content of a block comes from. -/
inductive Source where
  | now (b : Blk)
  | lost
  | member (b : BRef)
deriving DecidableEq, Repr

/-- Where the medium holds a block: zero, a slab still staged, a member, or nowhere (R170, R21, R258, R311). -/
def State.medium (s : State) (n : Namespace) (lba : Nat) : Source :=
  if n.isLost lba then .lost
  else if n.fixed then
    if n.unfilled.contains (lba / 16384) then .now (.enter 0 (piDealloc n.lbaf)) else .member (s.fixPlace n lba)
  else match s.resolve n.nsid lba with
    | none => .now (.enter 0 (piDealloc n.lbaf))
    | some .zero => .now (.enter 0 (piGen n.lbaf n.pit 0 0 lba))
    | some (.at p _) =>
      match s.stripe? p.group p.stripe with
      | none => .lost
      | some x =>
        if x.lostMap.contains (p.slab, p.blk) then .lost
        else if x.state == .sealed && !x.acked.contains p.slab then
          match (s.stripeBlk p).bind (·.content) with | some b => .now b | none => .lost
        else .member ⟨.log p.group p.stripe, p.slab, p.blk⟩

/-- The block of a log stripe as it is held: at its new place where its slab is relocated (R248). -/
def State.heldBlk (s : State) (b : BRef) : Option SBlock :=
  match s.locate 4 b with
  | ⟨.log g k, slab, blk⟩ => s.stripeBlk ⟨g, k, slab, blk⟩
  | _ => none

/-- The content that a read of a member block gives for a namespace's block. -/
def State.memberContent (s : State) (n : Namespace) (lba : Nat) (b : BRef) : Blk :=
  match b.stripe with
  | .log .. => match (s.heldBlk b).bind (·.content) with | some c => c | none => .enter 0 (piDealloc n.lbaf)
  | .fix .. => s.fixContent n lba

/-! ### Reconstructed blocks of a parity layout (R312, Table REB-4) -/

/-- The content of a reconstructed block: its guard computed, the application tag that disables checks, the reference tag of its LBA. -/
def regenContent (n : Namespace) (lba data : Nat) : Blk := .enter data (piGen n.lbaf n.pit data 0xFFFF lba)

/-- BIRTH_SEQ of a reconstructed log block: the largest value not above the stripe's face sequence with the bits [11:0] of BGEN. -/
def regenBirth (fseq bgen : Nat) : Nat := fseq - (fseq + 4096 - bgen % 4096) % 4096

/-- An ORDER that was not recovered: the block takes that of the place it is written to. -/
def noOrder : Nat := 65536

/-- A data block of a log stripe of a parity layout with the metadata of Table REB-4; void blocks have none. -/
def State.regenBlk (s : State) (fseq : Nat) (b : SBlock) : SBlock :=
  match s.ns? b.nsid, b.content with
  | some n, some c => { b with content := some (regenContent n b.lba c.data), birth := regenBirth fseq b.birth, order := noOrder }
  | _, _ => b

/-- FACE_SEQ of the check blocks at an offset of a fixed stripe (Table TLY-1): the newest of its data blocks'. -/
def State.fixCheckSeq (s : State) (n : Namespace) (lba : Nat) : Nat :=
  let k := (s.geo n.group).k
  listMax ((List.range k).map fun i => (s.fixNewest n (16 * (lba / 16 / max 1 k * k + i) + lba % 16)).2)

/-- What a read of a block delivers: what the member holds, or the reconstruction of a block of a parity layout. -/
def State.readContent (s : State) (n : Namespace) (lba : Nat) (b : BRef) (own : Bool) : Blk :=
  let c := s.memberContent n lba b
  if own || (s.shape b.stripe).2.2 then c else regenContent n lba c.data

/-- A reconstructed block is written back over its own place with its new metadata (R314, R323). -/
def State.regenInPlace (s : State) (b : BRef) : State :=
  if (s.shape b.stripe).2.2 then s else
  match b.stripe with
  | .log g k => s.updStripe g k fun x => { x with
      blocks := mapIf (fun y => y.slab == b.slab && y.blk == b.blk) (fun y => { s.regenBlk x.fseq y with order := 16 * y.slab + y.blk }) x.blocks }
  | .fix .. => match s.fixOwner b with
    | none => s
    | some (n, lba) => { s with
        fixblks := mapIf (fun f => f.nsid == n.nsid && f.lba == lba)
          (fun f => { f with content := regenContent n lba f.content.data, birth := s.fixCheckSeq n lba }) s.fixblks }

/-- The protection information that the medium holds for a block. -/
def State.storedPi (s : State) (n : Namespace) (lba : Nat) : Nat :=
  match s.medium n lba with
  | .now b => b.pi
  | .member b => (s.memberContent n lba b).pi
  | .lost => piGen n.lbaf n.pit 0 0 lba

/-- Resolve a block for a read (R124, R170, R380): the cache line when valid, a clean one with the protection information of the
medium and a dirty one with what its write-back will give it; else the medium. -/
def State.source (s : State) (n : Namespace) (lba : Nat) : Source :=
  match s.lines.find? fun l => l.nsid == n.nsid && l.lba == lba && l.valid with
  | some l => .now (.enter l.data (if l.dirty then piGen n.lbaf n.pit l.data 0 lba else s.storedPi n lba))
  | none => s.medium n lba

/-! ### The end of a reading command (R146, R168) -/

/-- The check that fails first over the blocks of a command, by block and then guard, application, reference (R168). -/
def piFirst (n : Namespace) (v : NvmeCmd) (checks : Nat) (l : List Blk) : Option PiFail :=
  l.zipIdx.findSome? fun p => piCheck n.lbaf n.pit checks (lbat v) (lbatm v) (ilbrt n.lbaf v + p.2) p.1

/-- Status of a protection information failure. -/
def PiFail.status : PiFail → Status
  | .guard => St.guard
  | .app => St.appTag
  | .ref => St.refTag

/-- The blocks obtained for a command in LBA order. -/
def Cmd.obtained (c : Cmd) : List Blk :=
  (List.range (nlb c.nv)).map fun i => ((c.got.find? fun p => p.1 == i).map (·.2)).getD (.enter 0 0)

/-- Reads whose data have all been placed meet their conditions (Table CMD-6): in NRT once they are acknowledged, in compatible
mode once they are sent. -/
def State.readsAcked (s : State) (cid : Nat) : State :=
  match s.conn? cid with
  | none => s
  | some k =>
    let open_ := k.waiting.map (·.body) ++ (if k.mode == .nrt then k.una.map (·.body) else [])
    let busy := fun (id : Nat) => open_.any fun b => match b with | .readData i .. => i == id | _ => false
    (s.cmds.filter fun c => c.placing && c.result.isNone && ((s.queueOf c.nv).bind (·.conn)) == some cid && !busy c.id).foldl
      (fun s c => s.setMet c.id 0 St.ok) s

/-- Place a Read's data in the host buffer: on a fabric queue one WRITE for each keyed block (R128), whose placing the completion
waits for. -/
def State.placeRead (s : State) (c : Cmd) (n : Namespace) : State :=
  let pib := if pract c.nv then 0 else piBytes n.lbaf
  let data := joinBlocks c.obtained pib
  match (s.queueOf c.nv).bind (·.conn) with
  | some cid =>
    let s := s.updCmd c.id fun x => { x with placing := true }
    ((sglPlaces c.nv.sgl).foldl (fun s p => s.transmit cid (.readData c.id p.2 (bytesAt data p.1 p.2.len))) s).readsAcked cid
  | none =>
    (s.toHost c.nv.ctl (.hostData c.nv.ctl c.nv.qid c.nv.cid (nlb c.nv * (4096 + pib)) data)).setMet c.id 0 St.ok

/-- End a Read, Compare or Verify whose every block is obtained. -/
def State.readEnd (s : State) (id : Nat) : State :=
  match s.cmd? id with
  | none => s
  | some c => match s.ns? c.nv.nsid with
    | none => s
    | some n =>
      if c.got.length < nlb c.nv || c.result.isSome || c.placing || 0 < c.toFetch then s else
      match piFirst n c.nv (prchk c.nv) c.obtained with
      | some f => (s.bump (F.CMD_PI_ERR (cmdRole c.nv))).setMet id 0 f.status
      | none =>
        if c.nv.opc = 0x02 then s.placeRead c n
        else if c.nv.opc = 0x05 then
          let same := (c.obtained.zip c.blocks).all fun p => p.1.data == p.2.data && (pract c.nv || n.lbaf == 0 || p.1.pi == p.2.pi)
          s.setMet id 0 (if same then St.ok else St.compare)
        else s.setMet id 0 St.ok

/-- A block of a command has been obtained. -/
def State.gotBlock (s : State) (id i : Nat) (b : Blk) : State :=
  (s.updCmd id fun c => { c with got := (i, b) :: c.got }).readEnd id

/-! ### Loss (R324 to R326) -/

/-- A stripe of a group is lost: the event at most once per 1 ms (Table REB-16 local 13). -/
def State.lostEvent (s : State) (g slot : Nat) : State :=
  s.raiseOnce (msU 1) (s.roleBench 3 (layRole g)) 13 ERROR 0x0D (slot + 256 * g)

/-- A data block of a log stripe is lost: its bit in the lost map; a stripe that first holds one is LOST by a SEAL item
(R325). -/
def State.loseBlock (s : State) (g n slab blk : Nat) : State :=
  match s.stripe? g n with
  | none => s
  | some x =>
    if x.lostMap.contains (slab, blk) then s else
    let first := x.lostMap.isEmpty
    let slot := (s.slabSlot (.log g n) slab).getD 0
    let s := s.updStripe g n fun y => { y with lostMap := (slab, blk) :: y.lostMap, state := if y.state == .live then .lost else y.state,
                                               lostAt := if first then s.now else y.lostAt }
    if first && x.state == .live then
      ((s.updGroup g fun y => { y with lostTotal := y.lostTotal + 1 }).emitRec g (.seal [.lost n])).lostEvent g slot
    else s

/-- Record that a read met a lost block, at once (R326), and end the command with Unrecovered Read Error. -/
def State.meetLost (s : State) (id nsid lba : Nat) (b : Option BRef) : State :=
  let s := match b with
    | some ⟨.log g n, slab, blk⟩ => s.loseBlock g n slab blk
    | some ⟨.fix g _ _, _, _⟩ => s.lostEvent g (((b.bind s.slotOf)).getD 0)
    | none => s
  let s := match s.ns? nsid with
    | some n => if n.isLost lba then s else s.recordLost nsid lba 1 1
    | none => s
  match s.cmd? id with
  | some c => if c.result.isNone then s.setMet id 0 St.unrecovered else s
  | none => s

/-! ### Read jobs -/

def State.updJob (s : State) (id : Nat) (f : ReadJob → ReadJob) : State := { s with jobs := mapIf (fun j => j.id == id) f s.jobs }

/-- Whether what a job has read determines its block. -/
def State.jobDone (s : State) (j : ReadJob) : Bool :=
  j.have_.contains j.target ||
  let (_, _, mirror) := s.shape j.target.stripe
  if mirror then !j.have_.isEmpty
  else match s.recon j.bad j.target with
    | some l => !l.isEmpty && l.all j.have_.contains
    | none => false

/-- The PAR role that computes a block's stripe: by its face sequence, in the fixed layout by the newest SEQ of its blocks (R232, R287). -/
def State.parOf (s : State) (sr : SRef) : Nat :=
  match sr with
  | .log g n => parRole (((s.stripe? g n).map (·.fseq)).getD 0)
  | .fix g row t => match s.fixStripeOf g row t with
    | some (n, j) => parRole (listMax ((List.range (16 * (s.geo g).k)).map fun i => (s.fixNewest n (16 * j * (s.geo g).k + i)).2))
    | none => 0

/-- PAR reconstructs blocks of a stripe (Table MGT-8); a mirror layout's copies are not reconstructed (R311). -/
def State.countRecon (s : State) (sr : SRef) (n : Nat) : State :=
  if (s.shape sr).2.2 then s else s.bumpBy (F.PAR_RECON (s.parOf sr)) n

/-- Whether a block found unreadable is written back (R314): its stripe is LIVE and the slab not relocated, its member in service or
DRAINING, and the block can be reconstructed. -/
def State.repairable (s : State) (bad : List BRef) (b : BRef) : Bool :=
  (match b.stripe with
    | .log g n => (s.stripe? g n).any fun x => x.state == .live && !x.relocs.any fun r => r.slab == b.slab
    | .fix .. => true) &&
  (s.slotOf b).any (fun n => s.inService n || (s.slot n).state == 3) && (s.recon bad b).isSome

/-- Write a reconstructed block over one found unreadable, when it can be (R314). -/
def State.rewriteBlk (s : State) (bad : List BRef) (b : BRef) (kind : Nat) : State :=
  match s.slotOf b with
  | some n => if s.repairable bad b then ((s.countRecon b.stripe 1).regenInPlace b).issueM n 4 (.repair b kind) else s
  | none => s

/-- Write reconstructed blocks back over those a job found unreadable (R314). -/
def State.repairs (s : State) (j : ReadJob) (kind : Nat) : State := j.bad.foldl (fun s b => s.rewriteBlk [b] b kind) s

/-- A job ends: reads it still awaits are abandoned (R313, R405), unreadable blocks repaired, the block delivered. -/
def State.endJob (s : State) (j : ReadJob) : State :=
  let s : State := { s with jobs := s.jobs.filter fun x => x.id != j.id }
  let s : State := if j.have_.contains j.target || (j.bad.contains j.target && s.repairable [j.target] j.target) then s
    else s.countRecon j.target.stripe 1
  let s := (s.abandonM fun w => match w with | .read _ i => i == j.id | _ => false).repairs j 5
  match s.cmd? j.cmd with
  | none => s
  | some c => match s.ns? c.nv.nsid with
    | some n => s.gotBlock c.id j.idx (s.readContent n (slba c.nv + j.idx) j.target (j.have_.contains j.target))
    | none => s

/-- Whether a block may still come back: one of its stripe lies on a member that is SUSPECT or RETURNING. A command waits for
such a member until it is declared failed (R149). -/
def State.mayReturn (s : State) (b : BRef) : Bool :=
  (s.peers b).any fun x => match s.slotOf x with | some n => (s.slot n).state == 2 || (s.slot n).state == 5 | none => false

/-- Whether the priority patrol that follows tally loss has still to visit the stripe of a block: a read that needs its reconstruction
waits for that visit (R303). -/
def State.patrolFirst (s : State) (b : BRef) : Bool :=
  match b.stripe with
  | .fix g row t => (s.group g).priority && !(s.group g).patrolled.contains (row, t)
  | .log .. => false

/-- What a job must read: after a tail cut the blocks that reconstruct its own, others in place of those found unreadable (R313, R314). -/
def State.planJob (s : State) (j : ReadJob) : Option (List BRef) :=
  (if j.cut then s.recon (j.target :: j.bad) j.target else none) <|> s.planRead j.bad j.target

/-- Plan again what a job must read, issue what it lacks, or end it (R311, R324). -/
def State.pursue (s : State) (id : Nat) : State :=
  match s.jobs.find? fun j => j.id == id with
  | none => s
  | some j =>
    if s.jobDone j then s.endJob j else
    if !s.avail j.bad j.target && s.patrolFirst j.target then s else
    match s.planJob j with
    | some l =>
      let more := l.filter fun b => !j.have_.contains b && !j.awaiting.contains b
      let s := s.updJob id fun x => { x with awaiting := x.awaiting ++ more }
      more.foldl (fun s b => match s.slotOf b with
        | some slot => s.issueM slot (if b = j.target then 1 else 3) (.read b id)
        | none => s) s
    | none =>
      if !j.awaiting.isEmpty || s.mayReturn j.target then s else
      let s := { s with jobs := s.jobs.filter fun x => x.id != id }
      match s.cmd? j.cmd with
      | some c => s.meetLost c.id c.nv.nsid (slba c.nv + j.idx) (some j.target)
      | none => s

/-- Start reading one block of a command. -/
def State.startRead (s : State) (id i : Nat) (b : BRef) : State :=
  let j := s.nextJob
  let job : ReadJob := {
    id := j, cmd := id, idx := i, target := b, awaiting := [], have_ := [], bad := [], issued := s.now, cut := false }
  ({ s with jobs := s.jobs ++ [job], nextJob := j + 1 }).pursue j

/-- Start reading every block of a Read, Compare or Verify; its entries are resolved as one step (R153), once the survey objects that
miss are read (R270). -/
def State.startReads (s : State) (id : Nat) : State :=
  match s.cmd? id with
  | none => s
  | some c => match s.ns? c.nv.nsid with
    | none => s
    | some n =>
      let lbas := (List.range (nlb c.nv)).map (slba c.nv + ·)
      let miss := s.missing n lbas
      if !miss.isEmpty then (s.loadObjs miss).updCmd id fun x => { x with paging := true } else
      let s := (s.updCmd id fun x => { x with paging := false }).lookups n lbas
      let s := s.bumpBy F.MEM_HIT (lbas.filter fun l => s.lines.any fun x => x.nsid == n.nsid && x.lba == l && x.valid).length
      let src := (List.range (nlb c.nv)).map fun i => (i, s.source n (slba c.nv + i))
      src.foldl (fun s p => match p.2 with
        | .now b => s.gotBlock id p.1 b
        | .lost => s.meetLost id n.nsid (slba c.nv + p.1) none
        | .member b => s.startRead id p.1 b) s

/-- Whether the internal guard of the block that a member returned holds (R169). -/
def State.soundAt (s : State) (b : BRef) : Bool :=
  match b.stripe with
  | .log .. => ((s.heldBlk b).bind (·.content)).all Blk.sound
  | .fix .. => s.fixblks.all fun f => (s.ns? f.nsid).all fun n => !(n.fixed && s.fixPlace n f.lba == b) || f.content.sound

/-- A read job learns of the end of one of its reads; a block whose guard fails counts as unreadable (R169). -/
def State.readReturned (s : State) (id : Nat) (b : BRef) (good : Bool) : State :=
  let good := good && s.soundAt b
  let s := s.updJob id fun j => { j with
    awaiting := j.awaiting.filter fun x => x != b, have_ := if good then b :: j.have_ else j.have_,
    bad := if good then j.bad else b :: j.bad }
  s.pursue id

/-- A member stops serving: jobs that await reads of it plan again (R310). -/
def State.rereadFrom (s : State) (slot : Nat) : State :=
  let hit := s.jobs.filter fun j => j.awaiting.any fun b => s.slotOf b == some slot
  let s := hit.foldl (fun s j => s.updJob j.id fun x => { x with awaiting := x.awaiting.filter fun b => s.slotOf b != some slot }) s
  s.jobs.foldl (fun s j => if j.awaiting.isEmpty then s.pursue j.id else s) s

/-- Tail-cut deadline of a command's latency class, in units; 0 disables (R313). -/
def State.tcut (s : State) (n : Namespace) : Nat :=
  usU 10 * s.rd (match n.profile.lclass with
    | 0 => F.LAY_TCUT_CFG_DL0 | 1 => F.LAY_TCUT_CFG_DL1 | 2 => F.LAY_TCUT_CFG_DL2 | _ => F.LAY_TCUT_CFG_DL3)

/-- Capacity of a group in cost units for one grant period (R208, R211): CAP × 1,000 per second, reduced by the members out
of service. -/
def State.periodCap (s : State) (g : Nat) : Rat :=
  let mem := (s.geo g).members.length
  (s.rd (F.CMD_QOS_GCAP_CAP g) : Rat) / 100 * (if mem = 0 then 1 else (s.svcCount g : Rat) / (mem : Nat))

/-- TAIL_CUT_DEADLINE (R313): a read of a block that has taken its class's deadline is reconstructed as well, within the
group's share of tail-cut reads. -/
def execTailCutDeadline (job : Nat) (s : State) : Host.Outcome State Fault Refusal :=
  .next <|
    match s.jobs.find? fun j => j.id == job with
    | none => s
    | some j => match (s.cmd? j.cmd).bind fun c => s.ns? c.nv.nsid with
      | none => s
      | some n =>
        let g := n.group
        let spent : Nat := ((s.tcutSpent.find? fun p => p.1 == g).map (·.2)).getD 0
        let room : Bool := s.rd (F.CMD_QOS_GCAP_CAP g) == 0 || decide ((spent : Rat) < s.periodCap g * (s.rd F.LAY_PAT_CFG_TCUT_PCT : Rat) / 100)
        let late := s.tcut n != 0 && s.due (j.issued + s.tcut n)
        match s.recon (j.target :: j.bad) j.target with
        | some l =>
          if late && room && !j.cut && !s.patrolFirst j.target && j.awaiting.contains j.target then
            let s := { s with tcutSpent := (g, spent + l.length) :: s.tcutSpent.filter fun p => p.1 != g }
            let s := (s.bump (F.LAY_TCUT g)).updJob job fun x => { x with cut := true, awaiting := x.awaiting ++ l }
            l.foldl (fun s b => match s.slotOf b with | some slot => s.issueM slot 3 (.read b job) | none => s) s
          else s
        | none => s

end Sys2Proof.Machine
end

