-- ==== Sys2Proof/Machine/Fix.lean ====
section
/-!
DEFINITION. Machine/Fix.lean: fixed-layout updates (R288 to R291, R327) and the tally ring (R292 to R299).
-/

namespace Sys2Proof.Machine

open NvmeFields

/-! ### The ring (R292, R296 to R298) -/

/-- Bytes of the ring: offsets 4,096 to 536,870,911. -/
def ringSize : Nat := 536866816

/-- Records written to the ring and not released, in ring order. -/
def State.ring (s : State) : List Rec := s.tally.recs.filter fun r => r.offset.isSome

/-- TAIL: the ring offset of the oldest unreleased record, or the head. -/
def State.ringTail (s : State) : Nat :=
  match s.ring.find? fun r => !r.released with
  | some r => r.offset.getD 4096
  | none => s.rd F.JNL_HEAD

/-- Bytes between TAIL and the head. -/
def State.ringUsed (s : State) : Nat :=
  if (s.ring.filter fun r => !r.released).isEmpty then 0
  else let d := (s.rd F.JNL_HEAD + ringSize - s.ringTail) % ringSize; if d = 0 then ringSize else d

/-- Bring FILL and TAIL in line, with the event above FILL_HI at most once per 1 ms (Tables TLY-8, TLY-11). -/
def State.syncRing (s : State) : State :=
  let s : State := { s with tally := { s.tally with recs := s.tally.recs.dropWhile fun r => r.released && r.offset.isSome } }
  let fill := s.ringUsed * 100 / ringSize
  let s := (s.wr F.JNL_STAT_FILL fill).wr F.JNL_TAIL s.ringTail
  let say := match s.tally.fillNotice with | some t => s.due (t + msU 1) | none => true
  if s.rd F.JNL_CFG_FILL_HI < fill && say then
    { s.raise 5 4 NOTICE 1 fill with tally := { s.tally with fillNotice := some s.now } }
  else s

/-- Whether a record fits between the head and TAIL, without straddling the end of the ring (R292, R298): where it goes. -/
def State.ringPlace (s : State) (len : Nat) : Option Nat :=
  let head := s.rd F.JNL_HEAD
  let free := ringSize - s.ringUsed
  let n := 64 * len
  if head + n ≤ 536870912 then (if n ≤ free then some head else none)
  else if 536870912 - head + n ≤ free then some 4096 else none

/-- Put a record at the head of the ring. -/
def State.putRec (s : State) (r : Rec) (ofs : Nat) : State :=
  let w := s.tally.wseq + 1
  let r' := { r with offset := some ofs, wseq := w }
  let others := s.tally.recs.filter fun x => !(x.seq == r.seq)
  let (written, waiting) := others.partition fun x => x.offset.isSome
  let s : State := { s with tally := { s.tally with wseq := w, recs := written ++ [r'] ++ waiting } }
  let h := ofs + 64 * r.len
  let s := s.wr F.JNL_HEAD (if h ≥ 536870912 then 4096 else h)
  (s.bump F.JNL_REC).bumpBy F.JNL_UNITS r.len

/-- The microseconds of a stall so far count; the stall ends when space is there (R298). -/
def State.endStall (s : State) : State :=
  match s.tally.stallSince with
  | some t => ({ s.wr F.JNL_STAT_STALL 0 with tally := { s.tally with stallSince := none } }).bumpBy F.JNL_STALL_US ((s.now - t) / 4000)
  | none => s

/-- A record does not fit: every issuing bench stalls until space is released (R298). -/
def State.stall (s : State) : State :=
  let say := match s.tally.stallNotice with | some t => s.due (t + msU 1) | none => true
  let s : State := { s.wr F.JNL_STAT_STALL 1 with tally := { s.tally with stallSince := some (s.tally.stallSince.getD s.now) } }
  if say then { s.raise 5 5 ERROR 2 0 with tally := { s.tally with stallNotice := some s.now } } else s

/-- Release conditions of Table TLY-6. -/
def State.releasable (s : State) (r : Rec) : Bool :=
  r.durable && match r.body with
  | .mapDelta .. | .seal .. => s.tally.recs.any fun x => x.durable && x.group == r.group && match x.body with
      | .checkpoint u => r.seq ≤ u
      | _ => false
  | .fixIntent .. => s.tally.recs.any fun x => x.durable && match x.body with | .fixDone i _ => i == r.seq | _ => false
  | .fixDone i _ => !(s.tally.recs.any fun x => x.seq == i && !x.released)
  | .checkpoint _ => s.tally.recs.any fun x => x.durable && x.group == r.group && r.seq < x.seq && match x.body with
      | .checkpoint _ => true
      | _ => false

/-- Release every record whose condition holds, FIX_INTENT records before their FIX_DONE (R296). -/
def State.releaseRecs (s : State) : State :=
  let pass := fun (s : State) => { s with tally := { s.tally with recs := s.tally.recs.map fun r => { r with released := r.released || s.releasable r } } }
  (pass (pass s)).syncRing

/-- Whether a record is the latest CHECKPOINT of its group. -/
def State.latestCheckpoint (s : State) (r : Rec) : Bool :=
  (match r.body with | .checkpoint _ => true | _ => false) &&
  !(s.tally.recs.any fun x => x.group == r.group && r.seq < x.seq && x.durable && match x.body with | .checkpoint _ => true | _ => false)

/-- R297: while the ring is more than half full, the record at TAIL, when it is an unreleased FIX_INTENT or the latest
CHECKPOINT of its group, is written again at the head with MOVED set. -/
def State.moveTail (s : State) : State :=
  match s.ring.find? fun r => !r.released with
  | some r =>
    let may := (match r.body with | .fixIntent .. => true | _ => false) || s.latestCheckpoint r
    if ringSize < 2 * s.ringUsed && may then
      match s.ringPlace r.len with
      | some ofs =>
        let s := ((s.putRec { r with moved := true } ofs).bump F.JNL_MOVED).syncRing
        match s.rec? r.seq with
        | some x => s.mirrorNote (.record x [] none)
        | none => s
      | none => s
    else s
  | none => s

/-! ### Updates -/

def State.fix? (s : State) (id : Nat) : Option FixUpd := s.fixupds.find? fun x => x.id == id
def State.updFix (s : State) (id : Nat) (f : FixUpd → FixUpd) : State := { s with fixupds := mapIf (fun x => x.id == id) f s.fixupds }

/-- Whether a member takes fixed-layout writes: in service or DRAINING (Table REB-1). -/
def State.writable (s : State) (b : BRef) : Bool := match s.slabSlot b.stripe b.slab with | some n => s.readable n | none => false

/-- Data blocks an update writes, grouped by fixed stripe. -/
def State.fixTargets (s : State) (n : Namespace) (slba nlb : Nat) : List BRef := (List.range nlb).map fun i => s.fixPlace n (slba + i)

/-- Whether a touched fixed stripe is updated by read-modify-write (R288): no member out, and the written blocks with the check blocks of
the touched offsets no more than the unwritten data blocks there. -/
def State.fixRmw (s : State) (sr : SRef) (mine : List BRef) : Bool :=
  let (k, m, mirror) := s.shape sr
  let offs := (mine.map (·.blk)).dedup
  let out := (List.range (k + m)).any fun i => !s.writable { stripe := sr, slab := i, blk := 0 }
  !mirror && !out && mine.length < k * offs.length && mine.length + m * offs.length ≤ k * offs.length - mine.length

/-- The member reads of R288 for one touched fixed stripe. -/
def State.fixReads (s : State) (sr : SRef) (mine : List BRef) : List BRef :=
  let (k, m, mirror) := s.shape sr
  let offs := (mine.map (·.blk)).dedup
  let out := (List.range (k + m)).any fun i => !s.writable { stripe := sr, slab := i, blk := 0 }
  let all := offs.flatMap fun o => (List.range (k + m)).map fun i => BRef.mk sr i o
  let data := all.filter fun b => b.slab < k
  let full := data.all mine.contains
  if mirror || full then []
  else if out then all.filter fun b => s.avail [] b && !mine.contains b
  else if s.fixRmw sr mine then mine ++ all.filter fun b => b.slab ≥ k
  else data.filter fun b => !mine.contains b

/-- Every block an update writes to members: its data blocks, and the check blocks or copies at the touched offsets (R286). -/
def State.fixWrites (s : State) (sr : SRef) (mine : List BRef) : List BRef :=
  let (k, m, mirror) := s.shape sr
  let offs := (mine.map (·.blk)).dedup
  let tooMany := m < ((List.range (k + m)).filter fun i => !s.writable { stripe := sr, slab := i, blk := 0 }).length
  let checks := offs.flatMap fun o => (List.range m).map fun i => BRef.mk sr (k + i) o
  mine ++ if tooMany && !mirror then [] else checks

/-- The touched fixed stripes of a list of blocks. -/
def stripesIn (l : List BRef) : List SRef := (l.map (·.stripe)).dedup

/-- Whether a fixed-layout write meets a stripe with more unavailable slabs than m and would write a block whose member is
not in service: it completes with Write Fault and applies nothing (R327). -/
def State.writeFault (s : State) (n : Namespace) (slba nlb : Nat) : Bool :=
  let t := s.fixTargets n slba nlb
  t.any fun b =>
    let (k, m, _) := s.shape b.stripe
    m < ((List.range (k + m)).filter fun i => !s.writable { b with slab := i }).length && !s.writable b

/-- Add a region to the dirty-region set of a slot (R310, R322). -/
def State.addDirty (s : State) (slot nsid region : Nat) : State :=
  let s := s.updSlot slot fun x => { x with dirty := if x.dirty.contains (nsid, region) then x.dirty else x.dirty ++ [(nsid, region)] }
  s.wr (F.LAY_MSTAT_DIRTY slot) 1

/-- Send the member write of one block of an update. -/
def State.sendFixWrite (s : State) (id : Nat) (b : BRef) : State :=
  match s.slabSlot b.stripe b.slab with
  | some slot => s.issueM slot 2 (.fixWrite id b)
  | none => s

/-- Whether a member write of a block is outstanding for some update (R290). -/
def State.fixBusy (s : State) (b : BRef) : Bool :=
  (s.mcmds.any fun c => match c.work with | .fixWrite _ x => x == b && !c.quarantined | _ => false) ||
  (s.mwaits.any fun c => match c.work with | .fixWrite _ x => x == b | _ => false)

/-- Content of an update's blocks becomes that of the medium (R287), and they are no longer lost (R194). -/
def State.applyFix (s : State) (u : FixUpd) : State :=
  u.blocks.zipIdx.foldl (fun s p =>
    let lba := u.slba + p.2
    ({ s with fixblks := ⟨u.nsid, lba, p.1, u.seq⟩ :: s.fixblks.filter fun f => !(f.nsid == u.nsid && f.lba == lba) }).clearLost
      u.nsid lba) s

/-- Every member write of a record has completed, or its member has failed: FIX_DONE is issued; the command's condition (e)
holds (R289 step 7, R290). -/
def State.fixDoneIf (s : State) (id : Nat) : State :=
  match s.fix? id with
  | none => s
  | some u =>
    if !(u.durable && u.issued && u.writes.isEmpty && u.writesLeft.isEmpty && !u.doneSent) then s else
    let s := (s.applyFix u).updFix id fun x => { x with doneSent := true }
    let s := s.emitRec (((s.ns? u.nsid).map (·.group)).getD 0) (.fixDone u.seq u.missed)
    match u.cmd with
    | some c =>
      let s := s.updCmd c fun x => { x with recsLeft := x.recsLeft.erase id }
      match s.cmd? c with
      | some x => if x.recsLeft.isEmpty && x.result.isNone && x.phase == .dispatched then s.setMet c 0 St.ok else s
      | none => s
    | none => { s with lines := mapIf (fun l => l.nsid == u.nsid && u.slba ≤ l.lba && l.lba < u.slba + u.blocks.length && l.wb.isSome)
                        (fun l => { l with wbMet := true }) s.lines }

/-- Send the member writes of an update once its record is durable and its reads have ended; a write to a member out of
service is skipped and its region becomes dirty (R289 steps 5 and 6, R291, R322). -/
def State.fixGo (s : State) (id : Nat) : State :=
  match s.fix? id with
  | none => s
  | some u =>
    if !u.durable || !u.reads.isEmpty || u.issued then s else
    let all := u.writes
    let skip := all.filter fun b => !s.writable b
    let go := all.filter fun b => s.writable b && !s.fixBusy b
    let wait := all.filter fun b => s.writable b && s.fixBusy b
    let s := skip.foldl (fun s b => match s.slabSlot b.stripe b.slab with
      | some n => s.addDirty n u.nsid (u.slba / 16384)
      | none => s) s
    let s := s.updFix id fun x => { x with issued := true, writes := go, writesLeft := wait, missed := !skip.isEmpty }
    (go.foldl (fun s b => s.sendFixWrite id b) s).fixDoneIf id

/-- Redo a FIX_INTENT without FIX_DONE (R301): its blocks are written again; without check images the check blocks are computed from all
the data blocks of each touched stripe at the touched offsets, which are read first. -/
def State.redoFix (s : State) (id : Nat) : State :=
  match s.fix? id with
  | none => s
  | some u => match s.ns? u.nsid with
    | none => s
    | some n =>
      let t := s.fixTargets n u.slba u.blocks.length
      let w := (stripesIn t).flatMap fun sr => s.fixWrites sr (t.filter fun b => b.stripe == sr)
      let chk := (s.rec? u.seq).any fun r => match r.body with | .fixIntent _ _ _ _ c _ _ _ _ => c | _ => false
      let reads := if chk then [] else (stripesIn t).flatMap fun sr =>
        let (k, _, mirror) := s.shape sr
        let mine := t.filter fun b => b.stripe == sr
        if mirror then [] else (((mine.map (·.blk)).dedup).flatMap fun o => (List.range k).map fun i => BRef.mk sr i o).filter fun b =>
          !mine.contains b && s.avail [] b
      let s := (s.updFix id fun x => { x with writes := w, reads := reads }).bump F.JNL_FIX_REDO
      (reads.foldl (fun s b => match s.slotOf b with | some slot => s.issueM slot 2 (.fixRead id b) | none => s) s).fixGo id

/-- Redo every update that is to be, in the order of its records (R301). -/
def State.redoInOrder (s : State) : State :=
  ((sortBy (fun (a b : FixUpd) => a.seq ≤ b.seq) s.fixupds).map (·.id)).foldl (fun (s : State) i => s.redoFix i) s

/-- Issue the FIX_INTENT record of an update (FIX_INTENT_ISSUE, R289 step 3): a command is dispatched with the first of its own
(R140). -/
def State.issueIntent (s : State) (id : Nat) : State :=
  match s.fix? id with
  | none => s
  | some u => match s.ns? u.nsid with
    | none => s
    | some n =>
      let t := s.fixTargets n u.slba u.blocks.length
      let absent := ((u.writes.filter fun b => !s.writable b).filterMap fun b => s.slabSlot b.stripe b.slab).dedup
      let deg := (stripesIn t).filter fun sr => let (k, m, _) := s.shape sr
        (List.range (k + m)).any fun i => !s.writable { stripe := sr, slab := i, blk := 0 }
      let nchk := (u.writes.filter fun b => deg.contains b.stripe && (s.shape b.stripe).1 ≤ b.slab).length
      let (q, s) := s.issueRec n.group (.fixIntent n.nsid n.gen u.slba u.blocks.length (!deg.isEmpty) u.zero nchk (u.slba / 16384) absent)
      let s : State := match u.cmd with
        | some c => s.updCmd c fun x => if x.phase == .admitted then { x with phase := .dispatched } else x
        | none => s
      let rmw := (stripesIn t).filter fun sr => s.fixRmw sr (t.filter fun b => b.stripe == sr)
      ((s.updFix id fun x => { x with seq := q }).bump F.JNL_FIX).bumpBy (F.PAR_RMW (parRole q)) rmw.length

/-- Begin an update of at most one 256 KiB-aligned part: its member reads; its record at once, or after those reads where
the record carries check blocks (R289 step 4). -/
def State.beginFix (s : State) (cmd : Option Nat) (n : Namespace) (slba : Nat) (blocks : List Blk) (zero : Bool) : State :=
  let id := s.nextJob
  let t := s.fixTargets n slba blocks.length
  let srs := stripesIn t
  let mineOf := fun (sr : SRef) => t.filter fun b => b.stripe == sr
  let reads := srs.flatMap fun sr => s.fixReads sr (mineOf sr)
  let writes := srs.flatMap fun sr => s.fixWrites sr (mineOf sr)
  let deg := srs.any fun sr => let (k, m, _) := s.shape sr
    (List.range (k + m)).any fun i => !s.writable { stripe := sr, slab := i, blk := 0 }
  let u : FixUpd := {
    id := id, seq := 0, cmd := cmd, line := cmd.isNone, nsid := n.nsid, slba := slba, blocks := blocks, zero := zero,
    durable := false, reads := reads, writes := writes, writesLeft := [], issued := false, missed := false, doneSent := false, redo := false }
  let s : State := { s with fixupds := s.fixupds ++ [u], nextJob := id + 1 }
  let s : State := match cmd with
    | some c => s.updCmd c fun x => { x with recsLeft := x.recsLeft ++ [id] }
    | none => s
  let s := reads.foldl (fun s b => match s.slotOf b with | some slot => s.issueM slot 2 (.fixRead id b) | none => s) s
  if deg && !reads.isEmpty then s else s.issueIntent id

/-- A member read of an update has ended; a failed one is replaced by what reconstructs its block (R288, R311). -/
def State.fixReadEnd (s : State) (id : Nat) (b : BRef) (good : Bool) : State :=
  match s.fix? id with
  | none => s
  | some u =>
    let more := if good then [] else ((s.recon [b] b).getD []).filter fun x => !u.reads.contains x
    let s : State := if more.isEmpty then s else s.countRecon b.stripe 1
    let s := s.updFix id fun x => { x with reads := (x.reads.filter fun y => y != b) ++ more }
    let s := more.foldl (fun s x => match s.slotOf x with | some slot => s.issueM slot 3 (.fixRead id x) | none => s) s
    match s.fix? id with
    | some v => if v.reads.isEmpty && v.seq = 0 then s.issueIntent id else s.fixGo id
    | none => s

/-- A member write of a block has ended: every update that waited for a value now written is served, and the newest value
superseding it goes out (R290). -/
def State.fixWriteEnd (s : State) (id : Nat) (b : BRef) : State :=
  let seq := ((s.fix? id).map (·.seq)).getD 0
  let s : State := { s with fixupds := mapIf (fun u => u.seq ≤ seq) (fun u => { u with writes := u.writes.filter fun x => x != b }) s.fixupds }
  let waiting := s.fixupds.filter fun u => u.writesLeft.contains b
  let s : State := match waiting.getLast? with
    | some w =>
      let take := fun (u : FixUpd) => { u with writesLeft := u.writesLeft.filter fun x => x != b, writes := b :: u.writes }
      let s : State := { s with fixupds := mapIf (fun u => u.writesLeft.contains b) take s.fixupds }
      s.sendFixWrite w.id b
    | none => s
  (s.fixupds.map (·.id)).foldl (fun s i => s.fixDoneIf i) s

/-- A member write that will not complete counts as done, its region becomes dirty and FIX_DONE carries MISSED (R310). -/
def State.fixWriteMissed (s : State) (id slot : Nat) (b : BRef) : State :=
  match s.fix? id with
  | some u => ((s.addDirty slot u.nsid (u.slba / 16384)).updFix id fun x => { x with missed := true }).fixWriteEnd id b
  | none => s

/-- The parts of a range, aligned at 64 blocks: first block and length. -/
def parts64 (slba nlb : Nat) : List (Nat × Nat) :=
  (List.range ((slba + nlb - 1) / 64 + 1 - slba / 64)).map fun i =>
    let lo := max slba ((slba / 64 + i) * 64)
    (lo, min (slba + nlb) ((slba / 64 + i + 1) * 64) - lo)

/-- Whether the FIX_INTENT rate admits a record now (R299). -/
def State.fixRateOk (s : State) : Bool := s.tally.rateAt ≤ s.now

/-- Charge the FIX_INTENT rate: 4,096 bytes for each block at FIX_RATE × 100 MB/s (R299). -/
def State.chargeFixRate (s : State) (nlb : Nat) : State :=
  { s with tally := { s.tally with rateAt := max s.now s.tally.rateAt + nlb * 4096 * 40 / max 1 (s.rd F.JNL_CFG_FIX_RATE) } }

/-! ### Durable records (R294) -/

/-- JNL_DUR: the highest SEQ at and below which every record is durable. -/
def State.syncDur (s : State) : State :=
  let open_ := (s.tally.recs.filter fun r => !r.durable).map (·.seq)
  s.wr64 F.JNL_DUR_LO F.JNL_DUR_HI (match listMin open_ with | some q => q - 1 | none => s.tally.seq)

/-- What follows when a record is durable: SVY applies MAP_DELTA (R274) and the command's conditions can hold (Table CMD-6);
SEAL items take effect (R317); a FIX_INTENT lets its member writes go (R289). -/
def State.recDurable (s : State) (r : Rec) : State :=
  let s := s.updRec r.seq fun x => { x with durable := true, acked := true }
  let s : State := match r.body with
    | .mapDelta cmd kind runs stripes =>
      let s := s.applyDelta r.group r.seq kind cmd runs stripes
      let s : State := if cmd.isNone && kind = 0 then
          { s with
            lines := mapIf (fun l => l.wb.isSome && runs.any fun x => x.nsid == l.nsid && x.lba == l.lba)
              (fun l => { l with wbMet := true }) s.lines }
        else s
      match cmd with
      | some c =>
        let s := s.updCmd c fun x => { x with recsLeft := x.recsLeft.erase r.seq }
        match s.cmd? c with
        | some x => if x.recsLeft.isEmpty && x.result.isNone then s.setMet c 0 St.ok else s
        | none => s
      | none => s
    | .fixIntent .. =>
      let ids := (s.fixupds.filter fun u => u.seq == r.seq).map (·.id)
      ids.foldl (fun s i => (s.updFix i fun u => { u with durable := true }).fixGo i) s
    | .fixDone i _ => { s with fixupds := s.fixupds.filter fun u => !(u.seq == i && u.doneSent) }
    | .seal items => items.foldl (fun s i => s.applySeal r.group r.seq i) s
    | .checkpoint _ => s
  (s.releaseRecs).syncDur

/-- Stripe that an item of a SEAL record names. -/
def SealItem.stripe (i : SealItem) : Nat :=
  match i with
  | .live n _ | .free n | .lost n | .relocAdd n .. | .relocDel n _ => n

/-- A record for the partner's copy of the tally (Table PAIR-5, KIND 5), with the stripes and the fixed-layout update it names. -/
def State.recordBody (s : State) (r : Rec) : MirrorBody :=
  let named : List Nat := match r.body with
    | .mapDelta _ _ _ l => l
    | .seal items => items.map SealItem.stripe
    | _ => []
  .record r ((s.stripesOf r.group).filter fun x => named.contains x.num) (s.fixupds.find? fun u => u.seq == r.seq)

/-- TALLY_RECORD_WRITTEN (R292, R294, R297, R298): JNL has written the oldest record issued at the head of the ring. A record
that does not fit stalls every issuing bench. Unpaired, the record is durable. -/
def execTallyRecordWritten (s : State) : Host.Outcome State Fault Refusal :=
  .next <|
    let s := s.moveTail
    match s.tally.recs.find? fun r => r.offset.isNone with
    | none => s
    | some r => match s.ringPlace r.len with
      | none => s.stall
      | some ofs =>
        let s := ((s.endStall).putRec r ofs).syncRing
        match s.rec? r.seq with
        | some r =>
          let body := s.recordBody r
          if s.paired then s.mirror (.tally r.seq) body else (s.recDurable r).mirrorAlso body
        | none => s

/-- TALLY_RECORD_DURABLE (R294, R296): the partner's acknowledgment of a record, which is written locally. -/
def execTallyRecordDurable (seq : Nat) (s : State) : Host.Outcome State Fault Refusal :=
  .next <|
    match s.rec? seq with
    | some r => if r.offset.isSome && !r.durable then
        s.recDurable r else s
    | none => s

/-- TALLY_CONTROL_BLOCK_TIMER (R292, R296): while TAIL moves, a control block at least every 1 ms. -/
def execTallyControlBlockTimer (s : State) : Host.Outcome State Fault Refusal :=
  .next <|
    if s.ringTail != s.tally.cbTail && s.due (s.tally.cbAt + msU 1) then
      { s with tally := { s.tally with wcount := s.tally.wcount + 1, cbTail := s.ringTail, cbAt := s.now } }
    else s

/-! ### What patrol visits (R331) -/

/-- The fixed stripes of a group's namespaces. -/
def State.fixStripes (s : State) (g : Nat) : List SRef :=
  let x := s.geo g
  ((s.nss.filter fun n => n.fixed && n.group == g).flatMap fun n => n.rows.flatMap fun r =>
    (List.range r.2).flatMap fun i => (List.range x.spr).map fun t => SRef.fix g (r.1 + i) t).dedup

/-- What a patrol pass visits, in order: LIVE and LOST stripes by number, then fixed stripes by row. -/
def State.patrolList (s : State) (g : Nat) : List SRef :=
  (sortNat (((s.stripesOf g).filter fun x => x.state == .live || x.state == .lost).map (·.num))).map (SRef.log g) ++
    sortBy (fun (a b : SRef) => match a, b with
      | .fix _ r t, .fix _ q u => r < q || (r == q && t ≤ u)
      | _, _ => true) (s.fixStripes g)

/-- The objects of a group's survey area whose copies a patrol pass reads after the stripes, by slot. -/
def State.patrolObjs (s : State) (g : Nat) : List SvyObj :=
  sortBy (fun (a b : SvyObj) => (a.slot.getD 0) ≤ b.slot.getD 0) (s.objs.filter fun o => o.group == g && o.slot.isSome)

/-- Blocks that remain of a group's patrol pass. -/
def State.patrolLeft (s : State) (g : Nat) : Nat :=
  let l := s.patrolList g
  let at_ := (s.group g).patrolAt
  (((l.drop at_).map fun sr => let (k, m, _) := s.shape sr; 16 * (k + m)).sum) + (((s.patrolObjs g).drop (at_ - l.length)).map fun o => o.copies.length).sum

end Sys2Proof.Machine
end

