-- ==== Sys2Proof/Machine/Qos.lean ====
section
/-!
DEFINITION. Machine/Qos.lean: charges and costs (R203, R204, R216), ceilings and tags (R205, R206, R209), grants (R208 to R212, R252, R331),
metering (R217, R218, R220).
-/

namespace Sys2Proof.Machine

open NvmeFields

/-! ### Charges (Tables QOS-4 and QOS-5) -/

/-- What a piece of work is charged: bytes, write bytes, operations, and cost in 1/232,792,560 of a cost unit. -/
structure Charge where
  bytes : Nat
  wbytes : Nat
  ops : Nat
  cost : Nat
deriving DecidableEq, Repr

/-- The exact cost unit divides every k of Table LOG-1 (R216). -/
def costUnit : Nat := 232792560

/-- Cost of a log-layout write of b blocks (Table QOS-5). -/
def State.logWriteCost (s : State) (g b : Nat) : Nat :=
  let x := s.geo g
  let wc := s.rd F.CMD_QOS_CFG_WCOST
  if geomMirror x.geom then b * wc * (x.m + 1) * costUnit else b * wc * (x.k + x.m) * (costUnit / max 1 x.k)

/-- Cost of a fixed-layout write of b blocks. -/
def State.fixWriteCost (s : State) (g b : Nat) : Nat := b * (1 + (s.geo g).m) * (1 + s.rd F.CMD_QOS_CFG_WCOST) * costUnit

/-- What a block command is charged at its admission (R203, R204). -/
def State.chargeOf (s : State) (n : Namespace) (v : NvmeCmd) : Charge :=
  let b := nlb v
  if readOpc v.opc then ⟨4096 * b, 0, 1, b * costUnit⟩
  else if v.opc = 0x01 then ⟨4096 * b, 4096 * b, 1, if n.fixed then s.fixWriteCost n.group b else s.logWriteCost n.group b⟩
  else if v.opc = 0x08 then (if n.fixed then ⟨4096 * b, 4096 * b, 1, s.fixWriteCost n.group b⟩ else ⟨0, 0, 1, 0⟩)
  else if v.opc = 0x09 then ⟨0, 0, 1, 0⟩
  else ⟨0, 0, 0, 0⟩

/-! ### Ceilings (R205) -/

/-- Effective tolerance τ in units. -/
def Profile.tau (p : Profile) : Nat := max (usU 10 * p.burst) (usU 2)

/-- The ceilings of a profile under which a charge is nonzero: theoretical time and how far the charge moves it, in
1/65,536 of a unit. -/
def ceilings (p : Profile) (t : Tats) (c : Charge) : List (Nat × Nat) :=
  (if 0 < p.maxKbps && 0 < c.bytes then [(t.bytes, c.bytes * 4000000 * 65536 / p.maxKbps)] else []) ++
  (if 0 < p.maxWkbps && 0 < c.wbytes then [(t.wbytes, c.wbytes * 4000000 * 65536 / p.maxWkbps)] else []) ++
  (if 0 < p.maxIops && 0 < c.ops then [(t.ops, c.ops * 4000000000 * 65536 / p.maxIops)] else [])

/-- The earliest time at which every ceiling permits a charge. -/
def eligibleAt (p : Profile) (t : Tats) (c : Charge) : Nat :=
  listMax ((ceilings p t c).map fun x => ceilDiv x.1 65536 - p.tau)

/-- Push the theoretical times of the ceilings charged (R205). -/
def Tats.push (t : Tats) (p : Profile) (c : Charge) (now : Nat) : Tats :=
  let f := fun (old rate amount scale : Nat) => if 0 < rate && 0 < amount then max old (now * 65536) + amount * scale * 65536 / rate else old
  { bytes := f t.bytes p.maxKbps c.bytes 4000000, wbytes := f t.wbytes p.maxWkbps c.wbytes 4000000,
    ops := f t.ops p.maxIops c.ops 4000000000 }

/-- Whether ceilings, minimums and grants act (CMD_QOS_CFG.EN). -/
def State.qosOn (s : State) : Bool := s.isSet F.CMD_QOS_CFG_EN

/-- Charge the connection ceilings of a queue, answering the earliest time they permit the work (R206). -/
def State.chargeConn (s : State) (ctl qid : Nat) (c : Charge) : Nat × State :=
  match (s.ctrl? ctl).bind fun k => k.queue? qid with
  | some q =>
    if !s.qosOn || q.conn.isNone then (0, s)
    else (eligibleAt q.profile q.tats c, s.updQueue ctl qid fun x => { x with tats := x.tats.push x.profile c s.now })
  | none => (0, s)

/-! ### Metering (R216, R217) -/

/-- Count an admitted block command. -/
def Meter.admitted (m : Meter) (v : NvmeCmd) (c : Charge) : Meter :=
  let r := readOpc v.opc
  let w := v.opc == 0x01 || v.opc == 0x08 || v.opc == 0x09
  { m with rdCmds := m.rdCmds + bit r, wrCmds := m.wrCmds + bit w, rdBytes := m.rdBytes + (if r then c.bytes else 0),
           wrBytes := m.wrBytes + c.wbytes, cost := m.cost + c.cost }

/-- Count a window message. -/
def Meter.window (m : Meter) (write : Bool) (c : Charge) : Meter :=
  { m with winOps := m.winOps + 1, winRd := m.winRd + (if write then 0 else c.bytes), winWr := m.winWr + c.wbytes,
           cost := m.cost + c.cost }

/-- Count the withdrawal of an admitted command. -/
def Meter.withdraw (m : Meter) (bytes : Nat) : Meter := { m with wdCmds := m.wdCmds + 1, wdBytes := m.wdBytes + bytes }

/-- Field-by-field sum of counter sets (R218). -/
def Meter.add (a b : Meter) : Meter :=
  { rdCmds := a.rdCmds + b.rdCmds, wrCmds := a.wrCmds + b.wrCmds, rdBytes := a.rdBytes + b.rdBytes, wrBytes := a.wrBytes + b.wrBytes,
    winOps := a.winOps + b.winOps, winRd := a.winRd + b.winRd, winWr := a.winWr + b.winWr, wdCmds := a.wdCmds + b.wdCmds,
    wdBytes := a.wdBytes + b.wdBytes, cost := a.cost + b.cost, held := a.held + b.held, short := a.short + b.short }

/-- The 128 bytes of a counter set (Table QOS-7): COST in whole units. -/
def Meter.bytes (m : Meter) : Nat :=
  [m.rdCmds, m.wrCmds, m.rdBytes, m.wrBytes, m.winOps, m.winRd, m.winWr, m.wdCmds, m.wdBytes, m.cost / costUnit, m.held, m.short].zipIdx.foldl
    (fun a p => a + putAt (8 * p.2) 8 p.1) 0

/-- Tenants that hold a counter set: those with a namespace or a retired set (R218). -/
def State.tenantIds (s : State) : List Nat := ((s.nss.map (·.tenant)) ++ s.tenants.map (·.id)).dedup

/-- Live sum of a tenant's counter sets. -/
def State.tenantMeter (s : State) (t : Nat) : Meter :=
  let ret := ((s.tenants.find? fun x => x.id == t).map (·.retired)).getD Meter.zero
  (s.nss.filter fun n => n.tenant == t).foldl (fun m n => m.add n.meter) ret

/-- A namespace leaves its tenant: its final set joins the retired set (R218). -/
def State.retire (s : State) (n : Namespace) : State :=
  let more := s.nss.any fun x => x.tenant == n.tenant && x.nsid != n.nsid
  let old := (s.tenants.find? fun x => x.id == n.tenant).getD ⟨n.tenant, Meter.zero, none, false⟩
  { s with
    tenants := { old with retired := old.retired.add n.meter, emptySince := if more then none else some s.now } ::
      s.tenants.filter fun x => x.id != n.tenant }

/-! ### Admission by the scheduler (R209) -/

/-- Scheduler time of a CMD role. -/
def State.roleTime (s : State) (r : Nat) : Rat := s.roleV.getD r 0

/-- Grant of a CMD role for a group; a group without capacity, or with arbitration off, is not limited (Table QOS-10). -/
def State.hasGrant (s : State) (r g : Nat) : Bool :=
  !s.qosOn || s.rd (F.CMD_QOS_GCAP_CAP g) = 0 ||
  match s.grants.find? fun x => x.1 == r && x.2.1 == g with
  | some x => 0 < x.2.2
  | none => false

/-- Take a cost from a role's grant; it can fall below 0 (R209). -/
def State.takeGrant (s : State) (r g : Nat) (cost : Rat) : State :=
  { s with grants := mapIf (fun x => x.1 == r && x.2.1 == g) (fun x => (x.1, x.2.1, x.2.2 - cost)) s.grants }

/-- Charge the namespace at an admission: ceilings, tags, role time, grant and meter (R205, R209, R217). -/
def State.chargeNs (s : State) (n : Namespace) (r : Nat) (c : Charge) (f : Meter → Meter) : State :=
  let cost : Rat := (c.cost : Rat) / (costUnit : Nat)
  let g := n.moveTo.getD n.group
  let s := s.updNs n.nsid fun x => { x with meter := f x.meter }
  if !s.qosOn then s else
  let now : Rat := (s.now : Nat)
  let s := s.updNs n.nsid fun x => { x with
    tats := x.tats.push x.profile c s.now,
    minTag := if 0 < x.profile.minKbps then max x.minTag now + (c.bytes : Rat) * 4000000 / (x.profile.minKbps : Nat) else x.minTag,
    startTag := max x.startTag (s.roleTime r) + cost / (max 1 x.profile.weight : Nat) }
  ({ s with roleV := s.roleV.set r n.startTag }).takeGrant r g cost

/-! ### Grant periods (R208, R211, R212) -/

/-- Committed cost of a namespace (R210): its minimum in 1,000 bytes/s times the cost of writing one block, so 4,096 × costUnit of it are
1,000 cost units per second. -/
def State.committed (s : State) (n : Namespace) (minKbps : Nat) : Nat :=
  minKbps * (if n.fixed then s.fixWriteCost n.group 1 else s.logWriteCost n.group 1)

/-- Sum of committed costs in a group, one namespace's minimum replaced. -/
def State.committedSum (s : State) (g : Nat) (repl : Nat) (minKbps : Nat) : Nat :=
  ((s.nss.filter fun n => n.group == g).map fun n => s.committed n (if n.nsid = repl then minKbps else n.profile.minKbps)).sum

/-- Whether a sum of committed costs lies above the commit capacity of a group (R210); a group whose CAP is 0 commits nothing, and no
minimum is refused there (DEDUCED, log entry 130). -/
def State.overCommitted (s : State) (g sum : Nat) : Bool :=
  let cap := s.rd (F.CMD_QOS_GCAP_CAP g)
  let share := 100 - s.rd (F.CMD_QOS_BGA_REB_MIN g) - s.rd (F.CMD_QOS_BGA_RECL_MAX g) - s.rd (F.CMD_QOS_BGB_PAT_MIN g)
  0 < cap && cap * share * 4096 * costUnit < 100 * sum

/-- COMMIT_PCT of a group (Table QOS-12). -/
def State.commitPct (s : State) (g : Nat) : Nat :=
  let cap := s.rd (F.CMD_QOS_GCAP_CAP g) * 4096 * costUnit
  if cap = 0 then 0 else min 255 (s.committedSum g 0 0 * 100 / cap)

/-- UTIL of a stripe under the group's full geometry (R250). -/
def State.util (s : State) (x : Stripe) : Rat :=
  let g := s.geo x.group
  (x.live : Rat) * (g.k + g.m : Nat) / (max 1 (16 * g.k * (x.kp + x.m)) : Nat)

/-- Victims of spoil reclaim (R250): LIVE stripes with UTIL below 1, no relocation, not named by one. -/
def State.reclaimable (s : State) (g : Nat) : List Stripe :=
  (s.stripesOf g).filter fun x => x.state == .live && s.util x < 1 && x.relocs.isEmpty && x.owed = 0 &&
    !((s.stripesOf g).any fun y => y.relocs.any fun r => r.newStripe == x.num)

/-- The victim with the lowest UTIL, the older face sequence on ties. Stripes in rows that a fixed-layout create takes come
ahead of every other (R285). -/
def State.victim (s : State) (g : Nat) : Option Stripe :=
  let inRow := fun (x : Stripe) => decide ((s.group g).plog ≤ x.row)
  (s.reclaimable g).foldl (fun m x =>
    match m with
    | none => some x
    | some y =>
      if inRow x != inRow y then (if inRow x then some x else some y)
      else if s.util x < s.util y || (s.util x == s.util y && x.fseq < y.fseq) then some x else some y) none

/-- Whether spoil reclaim of a group has work (R250). -/
def State.reclaimWork (s : State) (g : Nat) : Bool :=
  (s.freeFrac g * 100 < (s.rd (F.LAY_GFREE_FREE_HI g) : Rat) && !(s.reclaimable g).isEmpty) ||
  (s.reclaimable g).any fun x => (s.group g).plog ≤ x.row

/-- The reclaim pacing demand of a group (R252). -/
def State.pacing (s : State) (g : Nat) : Rat :=
  let x := s.geo g
  let f := s.freeFrac g * 100
  let hi : Rat := (s.rd (F.LAY_GFREE_FREE_HI g) : Nat)
  let lo : Rat := (s.rd (F.LAY_GFREE_FREE_LO g) : Nat)
  let l : Rat := min (95 / 100) (match s.victim g with | some v => s.util v | none => 0)
  let wc : Rat := (s.rd F.CMD_QOS_CFG_WCOST : Nat)
  let cm : Rat := if geomMirror x.geom then 1 + wc * (x.m + 1 : Nat) else 1 + wc * (x.k + x.m : Nat) / (max 1 x.k : Nat)
  let d := ((s.group g).placedInPeriod : Rat) * l / (1 - l) * cm
  if hi ≤ f then 0 else if f ≤ lo then 2 * d else 2 * d * (hi - f) / (hi - lo)

/-- Backlog of a CMD role in a group (R208): cost held below minimum, other cost, summed weight. -/
def State.backlog (s : State) (r g : Nat) : Rat × Rat × Nat :=
  let mine := s.cmds.filter fun c => c.phase == .delivered && cmdRole c.nv == r && c.nv.qid != 0
  let nss := s.nss.filter fun n => n.moveTo.getD n.group == g && mine.any fun c => c.nv.nsid == n.nsid
  nss.foldl (fun a n =>
    let cost : Rat := (((mine.filter fun c => c.nv.nsid == n.nsid).map fun c => (s.chargeOf n c.nv).cost).sum : Rat) / (costUnit : Nat)
    if 0 < n.profile.minKbps && n.minTag ≤ (s.now : Rat) then (a.1 + cost, a.2.1, a.2.2 + n.profile.weight)
    else (a.1, a.2.1 + cost, a.2.2 + n.profile.weight)) (0, 0, 0)

/-- A party that a period's capacity is shared among by weight: what it wants and what it has got. -/
structure Share where
  id : Nat
  weight : Nat
  want : Rat
  got : Rat

/-- Share a capacity by weight, each party up to what it wants (R208): what a satisfied party leaves is shared among the others. -/
def shareOut : Nat → Rat → List Share → List Share
  | 0, _, l => l
  | n + 1, left, l =>
    let w : Nat := (l.map fun x => if x.got < x.want then x.weight else 0).sum
    if w = 0 || left ≤ 0 then l else
    let l' := l.map fun x => if x.got < x.want then { x with got := min x.want (x.got + left * (x.weight : Rat) / (w : Rat)) } else x
    shareOut n (left - ((l'.map (·.got)).sum - (l.map (·.got)).sum)) l'

/-- Dirty objects of a group's survey area, whose write-back is spoil reclaim's work (R276). -/
def State.dirtyObjs (s : State) (g : Nat) : Nat := (s.objs.filter fun o => o.group == g && o.dirty).length

/-- Entries of the delta index of a group: of its delta log, and of the tally beyond it (R277). -/
def State.indexed (s : State) (g : Nat) : Nat :=
  let x := s.svy.getD g SvyGroup.cold
  (x.blocks.map (·.entries)).sum + ((s.tally.recs.filter fun r => r.group == g && x.copiedTo < r.seq).map Rec.entries).sum

/-- Whether region DIDX is 90 % full, at 40 bytes an entry (Table MEM-3). -/
def State.indexHigh (s : State) : Bool :=
  90 * s.rd F.MEM_RGN_CFGA_DIDX_GIB * 1073741824 ≤ 100 * 40 * ((List.range 8).map s.indexed).sum

/-- Whether the delta log of a group is filled above DLOG_HI (R276). -/
def State.dlogOver (s : State) (g : Nat) : Bool := s.rd F.SVY_CFG_DLOG_HI < s.rd (F.SVY_GSTAT_DLOG_USED g)

/-- Whether write-back is urgent: the delta log above DLOG_HI, or region DIDX 90 % full (R276, Table MEM-3). -/
def State.dlogHigh (s : State) (g : Nat) : Bool := s.dlogOver g || s.indexHigh

/-- Patrol's demand of a period: the remaining cost of its pass over the grant periods left until it is due (R331). -/
def State.patrolDemand (s : State) (g : Nat) : Rat :=
  let due_ := (s.group g).patrolStart + hourU (24 * s.rd F.LAY_PAT_CFG_PAT_DAYS)
  (s.patrolLeft g : Rat) / (max 1 ((due_ - s.now) / usU 10) : Nat)

/-- Pending cost of a background task of a group: 0 rebuild, 1 spoil reclaim, 2 patrol; none where its work has no end in sight (a
resynchronisation, a reshape, a zero fill) (R204, R208). -/
def State.taskDemand (s : State) (g t : Nat) : Option Rat :=
  let x := s.geo g
  let wc := s.rd F.CMD_QOS_CFG_WCOST
  match t with
  | 0 => if s.resyncWork g || s.reshape.any (fun r => r.group == g) then none
    else some ((16 * (x.k + wc) * (s.group g).work.length : Nat) : Rat)
  | 1 => if s.dlogHigh g then none else some (((3 * wc * (s.dirtyObjs g) : Nat) : Rat) + (((s.reclaimable g).map fun v => v.live).sum : Nat) + ((s.logWriteCost g (((s.reclaimable g).map fun v => v.live).sum) : Nat) : Rat) / (costUnit : Nat))
  | _ => if s.nss.any fun n => n.group == g && !n.unfilled.isEmpty then none else some (s.patrolDemand g)

/-- Give what remains of a period to tasks in turn, each up to its ceiling (R208; the order of the tasks is a DESIGN CHOICE, log entry
140). -/
def giveTasks : Rat → List (Nat × Rat × Rat) → List (Nat × Rat)
  | _, [] => []
  | left, (t, got, top) :: rest =>
    let more := max 0 (min left (top - got))
    (t, got + more) :: giveTasks (left - more) rest

/-- Grant one group's capacity for the next period (R208, R211, R212). -/
def State.grantGroup (s : State) (g : Nat) : State :=
  let cap := s.periodCap g
  let pct := fun (f : Fld) => (s.rd f : Rat) / 100 * cap
  let reb : Bool := !(s.group g).work.isEmpty || s.resyncWork g || s.reshape.any fun r => r.group == g
  let recl := s.reclaimWork g || 0 < s.dirtyObjs g
  let pat := s.isSet F.LAY_PAT_CFG_PAT_EN || s.nss.any fun n => n.group == g && !n.unfilled.isEmpty
  let paced := if s.dlogHigh g then pct (F.CMD_QOS_BGA_RECL_MAX g) else
    min (pct (F.CMD_QOS_BGA_RECL_MAX g)) (max (pct (F.CMD_QOS_BGA_RECL_MIN g)) (s.pacing g))
  let floors : List (Nat × Bool × Rat × Rat) := [
    (0, reb, pct (F.CMD_QOS_BGA_REB_MIN g), pct (F.CMD_QOS_BGA_REB_MAX g)), (1, recl, paced, pct (F.CMD_QOS_BGA_RECL_MAX g)),
    (2, pat, pct (F.CMD_QOS_BGB_PAT_MIN g), pct (F.CMD_QOS_BGB_PAT_MAX g))]
  let floorOf := fun (t : Nat × Bool × Rat × Rat) =>
    if t.2.1 then (match s.taskDemand g t.1 with | some (d : Rat) => min d t.2.2.1 | none => t.2.2.1) else (0 : Rat)
  let given := (floors.map floorOf).sum
  let left := cap - given
  let bl := (List.range 4).map fun r => (r, s.backlog r g)
  let want := (bl.map fun b => b.2.1).sum
  let miss : Bool := left < want && 0 < cap
  let mins := bl.map fun b => (b.1, if miss then b.2.1 * left / want else b.2.1)
  let rest := left - (mins.map fun m => m.2).sum
  let shares := (shareOut 4 rest (bl.map fun b => ⟨b.1, b.2.2.2, b.2.2.1, 0⟩)).map fun x => (x.id, x.got)
  let spare := rest - (shares.map fun m => m.2).sum
  let deficit := fun r => min 0 (((s.grants.find? fun x => x.1 == r && x.2.1 == g).map fun x => x.2.2).getD 0)
  let gs := (List.range 4).map fun r => (r, g, deficit r + ((mins.find? fun m => m.1 == r).map (·.2)).getD 0
    + ((shares.find? fun m => m.1 == r).map (·.2)).getD 0)
  let ts := (giveTasks spare (floors.map fun t => (t.1, floorOf t, if t.2.1 then t.2.2.2 else (0 : Rat)))).map fun p => (g, p.1, p.2)
  let s : State := { s with
    grants := gs ++ s.grants.filter (fun x => x.2.1 != g), taskGrants := ts ++ s.taskGrants.filter (fun x => x.1 != g),
    tcutSpent := s.tcutSpent.filter fun x => x.1 != g }
  let s : State := if miss then s.bump (F.CMD_QOS_GSTAT_MISS g) else s
  s.updGroup g fun x => { x with placedInPeriod := 0 }

/-- Whether a background task of a group has its grant: 0 rebuild, 1 spoil reclaim, 2 patrol. Without arbitration or capacity
it is not limited (Table QOS-10). -/
def State.taskOk (s : State) (g t : Nat) : Bool :=
  !s.draining && (!s.qosOn || s.rd (F.CMD_QOS_GCAP_CAP g) = 0 ||
  match s.taskGrants.find? fun x => x.1 == g && x.2.1 == t with
  | some x => 0 < x.2.2
  | none => false)

/-- Charge a background task. -/
def State.chargeTask (s : State) (g t : Nat) (cost : Nat) : State :=
  { s with taskGrants := mapIf (fun x => x.1 == g && x.2.1 == t) (fun x => (x.1, x.2.1, x.2.2 - (cost : Rat) / (costUnit : Nat))) s.taskGrants }

/-- Time a namespace spends held by its ceilings alone, or by grants while below its minimum, since the last period (Table
QOS-7; sampled at the grant period, log entry 26). -/
def State.meterHeld (s : State) (dt : Nat) : State :=
  { s with
    nss := s.nss.map fun n =>
      let mine := s.cmds.filter fun c => c.phase == .delivered && c.nv.nsid == n.nsid && c.nv.qid != 0 && c.readyAt ≤ s.now
      let held := mine.any fun c => s.now < eligibleAt n.profile n.tats (s.chargeOf n c.nv) && s.hasGrant (n.nsid % 4) n.group
      let short := !mine.isEmpty && !s.hasGrant (n.nsid % 4) n.group && 0 < n.profile.minKbps && n.minTag ≤ (s.now : Rat)
      { n with meter := { n.meter with held := n.meter.held + (if held then dt else 0), short := n.meter.short + (if short then dt else 0) } } }

/-- GRANT_PERIOD (R208): every 10 µs each LAY role grants its groups' capacity for the next period. -/
def execGrantPeriod (s : State) : Host.Outcome State Fault Refusal :=
  .next <|
    if !s.due (s.periodAt + usU 10) then s else
    let s := s.meterHeld (s.now - s.periodAt)
    let s : State := { s with periodAt := s.now }
    ((List.range 8).filter fun g => (s.group g).configured).foldl (fun s g => (s.grantGroup g).syncGroup g) s

/-- Every counter set is saved into the member records (R220). -/
def State.saveMeters (s : State) : State :=
  { s with msaved := s.nss.map fun n => (n.nsid, n.meter), tsaved := s.tenants.map fun t => (t.id, t.retired) }

/-- METER_SAVE_TIMER (R220): every 60 s every counter set is saved into the member records. -/
def execMeterSaveTimer (s : State) : Host.Outcome State Fault Refusal :=
  .next <|
    if s.due (s.msaveAt + secU 60) then
      { s.saveMeters with msaveAt := s.now }
    else s

/-- CMD_QOS_CFG.EN written from 0 to 1: every ceiling and minimum restarts at the time of the write (R205). -/
def State.qosRestart (s : State) : State :=
  let t := s.now * 65536
  let tats : Tats := ⟨t, t, t⟩
  { s with nss := s.nss.map (fun n => { n with tats := tats, minTag := (s.now : Rat), startTag := s.roleTime (n.nsid % 4) }),
           ctrls := s.ctrls.map fun c => { c with queues := c.queues.map fun q => { q with tats := tats } } }

/-- The effect of a write of CMD_QOS_CFG. -/
def State.writeQosCfg (s : State) (bench : Nat) (v : Word) : State :=
  let was := s.qosOn
  let s := s.writeRegW bench 0x1200 v
  if !was && s.qosOn then s.qosRestart else s

/-- CMD_QOS_CFG_WRITE (R205). -/
def execCmdQosCfgWrite (v : Word) (s : State) : Host.Outcome State Fault Refusal := .next (s.writeQosCfg 22 v)

/-- CMD_QOS_GCAP_WRITE (R210, R211). -/
def execCmdQosGcapWrite (g : Fin 8) (v : Word) (s : State) : Host.Outcome State Fault Refusal :=
  .next (s.writeRegW 22 (0x1210 + 4 * g.val) v)

end Sys2Proof.Machine
end

