-- ==== Sys2Proof/Machine/Cache.lean ====
section
/-!
DEFINITION. Machine/Cache.lean: the attached-memory cache: lines, sectors, write-back, the dirty limit (R379 to R388), and the progress
of window messages (R116 to R121).
-/

namespace Sys2Proof.Machine

open NvmeFields

/-! ### Ranges and locks of block commands (R140) -/

/-- Ranges of a Dataset Management command: first block and blocks of each (log entry 29). -/
def dsmRanges (v : NvmeCmd) : List (Nat × Nat) :=
  (List.range (v.cdw10 % 256 + 1)).map fun i => (bytesAt v.data (16 * i + 8) 8, bytesAt v.data (16 * i + 4) 4)

/-- Whether an opcode is a Write, Write Zeroes or Dataset Management. -/
def writeOpc (o : Nat) : Bool := o == 0x01 || o == 0x08 || o == 0x09

/-- The block ranges of an I/O command. -/
def cmdRanges (v : NvmeCmd) : List (Nat × Nat) :=
  if v.opc = 0x09 then dsmRanges v else if writeOpc v.opc || readOpc v.opc then [(slba v, nlb v)] else []

/-- Whether ranges hold a block. -/
def inRanges (rs : List (Nat × Nat)) (lba : Nat) : Bool := rs.any fun r => r.1 ≤ lba && lba < r.1 + r.2

/-- Whether two lists of ranges overlap. -/
def rangesMeet (a b : List (Nat × Nat)) : Bool := a.any fun x => b.any fun y => x.1 < y.1 + y.2 && y.1 < x.1 + x.2

/-- Whether a command holds a lock: an I/O command, admitted, its completion conditions not yet met. -/
def Cmd.locks (c : Cmd) : Bool := c.nv.qid != 0 && (c.phase == .admitted || c.phase == .dispatched) && c.result.isNone

/-- Whether a block write holds the lock of a block (Table KEY-8). -/
def State.blockLocked (s : State) (nsid lba : Nat) : Bool :=
  s.cmds.any fun c => c.locks && writeOpc c.nv.opc && c.nv.nsid == nsid && inRanges (cmdRanges c.nv) lba

/-! ### Lines and sectors (R379) -/

def State.line? (s : State) (nsid lba : Nat) : Option Line := s.lines.find? fun l => l.nsid == nsid && l.lba == lba
def State.updLine (s : State) (nsid lba : Nat) (f : Line → Line) : State :=
  { s with lines := mapIf (fun l => l.nsid == nsid && l.lba == lba) f s.lines }
def State.sector? (s : State) (nsid sec : Nat) : Option Sector := s.sectors.find? fun x => x.nsid == nsid && x.sector == sec

/-- Whether a line is BUSY: a fill or a write-back copy in progress. -/
def Line.busy (l : Line) : Bool := l.filling || l.wb.isSome

/-- Lines of a sector, by their index in it. -/
def State.linesAt (s : State) (x : Sector) (p : Line → Bool) : Nat :=
  ((List.range 16).map fun i => if s.lines.any fun l => l.nsid == x.nsid && l.lba == 16 * x.sector + i && p l then 2 ^ i else 0).sum

/-- The 16 bytes of a sector's directory entry (Table MEM-4). -/
def State.dirEntry (s : State) (x : Sector) : Nat :=
  (x.nsid - 1) % 2 ^ 14 + x.sector % 2 ^ 34 * 2 ^ 14 + s.linesAt x (·.valid) * 2 ^ 48 + s.linesAt x (·.dirty) * 2 ^ 64 +
    s.linesAt x Line.busy * 2 ^ 80 + s.linesAt x (·.wbq) * 2 ^ 96 + x.age % 16 * 2 ^ 112 + 2 ^ 116 + bit x.evict * 2 ^ 117

/-- Lines of a sector. -/
def State.sectorLines (s : State) (x : Sector) : List Line := s.lines.filter fun l => l.nsid == x.nsid && l.lba / 16 == x.sector

/-- Set of a sector (R379). -/
def State.setOf (s : State) (nsid sec : Nat) : Nat :=
  crc32c (toBytes ((nsid - 1) * 2 ^ 34 + sec) 8) % max 1 (s.rd F.MEM_RGN_CFGB_CACHE_GIB * 1024)

/-- Dirty limit in lines (R384). -/
def State.dirtyLimit (s : State) : Nat := min (s.rd F.MEM_RGN_CFGB_DIRTY_GIB) (s.rd F.MEM_RGN_CFGB_CACHE_GIB) * 262144

/-- Dirty lines held. -/
def State.dirtyCount (s : State) : Nat := (s.lines.filter (·.dirty)).length

/-- Raise a MEM event at most once per 1 ms. -/
def State.memNotice (s : State) (loc sev code data : Nat) : State := s.raiseOnce (msU 1) 4 loc sev code data

/-- Bring MEM_CACHE_STAT in line. -/
def State.syncCache (s : State) : State :=
  let lim := s.dirtyLimit
  let s := s.wr F.MEM_CACHE_STAT_DIRTY_PCT (if lim = 0 then 0 else min 255 (s.dirtyCount * 100 / lim))
  let s := s.wr F.MEM_CACHE_STAT_PEND_PCT (s.pends.length * 100 / 262144)
  if s.dirtyCount < lim then s.wr F.MEM_CACHE_STAT_AT_LIMIT 0 else s

/-- A line dropped from the cache; its sector's entry is freed with its last line. -/
def State.dropLine (s : State) (nsid lba : Nat) : State :=
  let s : State := { s with lines := s.lines.filter fun l => !(l.nsid == nsid && l.lba == lba) }
  if s.lines.any fun l => l.nsid == nsid && l.lba / 16 == lba / 16 then s
  else { s with sectors := s.sectors.filter fun x => !(x.nsid == nsid && x.sector == lba / 16) }

/-! ### Write-back (R383) -/

/-- Whether a need is for a line. -/
def Need.isOf (n : Need) (nsid lba : Nat) : Bool := n.nsid == nsid && n.lba == lba

/-- Whether the completion of a commit, Flush, block write or revocation waits for a line. -/
def State.lineWanted (s : State) (nsid lba : Nat) : Bool :=
  s.winops.any (fun o => o.needs.any fun x => x.isOf nsid lba) || s.cmds.any (fun c => c.dirtyWait.any fun x => x.isOf nsid lba) ||
    s.maint.any fun m => m.left.any fun x => x.isOf nsid lba

/-- Change every list of needs. -/
def State.mapNeeds (s : State) (f : List Need → List Need) : State :=
  { s with
    winops := s.winops.map fun o => { o with needs := f o.needs }
    cmds := s.cmds.map fun c => { c with dirtyWait := f c.dirtyWait }
    maint := s.maint.map fun m => { m with left := f m.left } }

/-- The content of a line up to a version is durable: what needed it needs it no longer. -/
def State.needsMet (s : State) (nsid lba ver : Nat) : State :=
  s.mapNeeds fun l => l.filter fun x => !(x.isOf nsid lba && x.op.isNone && x.ver ≤ ver)

/-- The bytes of a visible WRITE have been merged into a line, which is now at a version. -/
def State.needsMerged (s : State) (nsid lba op ver : Nat) : State :=
  s.mapNeeds fun l => mapIf (fun x => x.isOf nsid lba && x.op == some op) (fun x => { x with ver := ver, op := none }) l

/-- A dirty line is lost: a lost range with CAUSE 4 and the line invalid; what waited for it fails (R121, R387). -/
def State.loseLine (s : State) (nsid lba : Nat) : State :=
  let mine := fun (x : Need) => x.isOf nsid lba && x.op.isNone
  let s := (s.recordLost nsid lba 1 4).dropLine nsid lba
  let s : State := { s with winops := mapIf (fun o => o.needs.any mine) (fun o => { o with failed := true }) s.winops }
  s.mapNeeds fun l => l.filter fun x => !mine x

/-- Start the write-back of a dirty line, or queue it (R119, R238, R253, R289, R299, R383). -/
def State.writeBack (s : State) (nsid lba : Nat) : State :=
  match s.line? nsid lba, s.ns? nsid with
  | some l, some n =>
    if !l.valid || !l.dirty || l.wb.isSome then s else
    let b : Blk := .enter l.data (piGen n.lbaf n.pit l.data 0 lba)
    let took := fun (s : State) => (s.bump F.MEM_WB).updLine nsid lba fun x =>
      { x with wb := some x.data, wbVer := x.ver, redirtied := false, wbMet := false, wbq := false }
    let queue := fun (s : State) => s.updLine nsid lba fun x => { x with wbq := true }
    if n.fixed then
      if s.writeFault n lba 1 then s.loseLine nsid lba
      else if s.fixRateOk then took ((s.chargeFixRate 1).beginFix none n lba [b] false) else queue s
    else
      let g := n.moveTo.getD n.group
      if s.spaceHold g then queue s else
      match s.place g .host (newBlock (.line nsid lba) nsid lba n.gen 0 0 (some b)) with
      | (s, some _) => took s
      | (s, none) => queue s
  | _, _ => s

/-- Dirty lines, oldest first dirtied first. -/
def State.oldestDirty (s : State) : List Line := sortBy (fun (a b : Line) => a.dirtyAt ≤ b.dirtyAt) (s.lines.filter fun l => l.dirty && l.wb.isNone)

/-- At 90 % of the dirty limit, dirty lines are written back, oldest first (R384). -/
def State.drainDirty (s : State) : State :=
  let over90 := s.dirtyCount - s.dirtyLimit * 9 / 10
  if s.dirtyLimit * 9 / 10 ≤ s.dirtyCount && 0 < s.dirtyLimit then
    (s.oldestDirty.take (over90 + 1)).foldl (fun s l => s.writeBack l.nsid l.lba) s else s

/-! ### Allocation and eviction (R385, R386) -/

/-- DESIGN CHOICE (log entry 28): an access makes its sector's age 0 and ages the others of the set by one, up to 15. -/
def State.ageSet (s : State) (nsid sec : Nat) : State :=
  let k := s.setOf nsid sec
  { s with
    sectors := s.sectors.map fun x =>
      if x.nsid == nsid && x.sector == sec then { x with age := 0 }
      else if s.setOf x.nsid x.sector == k then { x with age := min 15 (x.age + 1) } else x }

/-- Highest AGE of a list of sectors. -/
def oldestSector (l : List Sector) : Option Sector :=
  l.foldl (fun m x => match m with | some y => if y.age < x.age then some x else m | none => some x) none

/-- Free the entries of evicted sectors whose write-backs have all met their conditions. -/
def State.freeEvicted (s : State) : State :=
  (s.sectors.filter (·.evict)).foldl (fun s x =>
    if (s.sectorLines x).all fun l => !l.dirty && !l.busy then
      { s with
        lines := s.lines.filter fun l => !(l.nsid == x.nsid && l.lba / 16 == x.sector)
        sectors := s.sectors.filter fun y => !(y.nsid == x.nsid && y.sector == x.sector) }
    else s) s

/-- Give a line a way (R385); false while it must wait. -/
def State.allocLine (s : State) (nsid lba : Nat) : State × Bool :=
  let sec := lba / 16
  let fresh : Line := {
    nsid := nsid, lba := lba, valid := false, data := 0, dirty := false, dirtyAt := 0, dur := 0, filling := false, ver := 0,
    wb := none, wbVer := 0, redirtied := false, wbMet := false, wbq := false }
  let addLine := fun (s : State) => if (s.line? nsid lba).isSome then s else { s with lines := s.lines ++ [fresh] }
  let addSec := fun (s : State) => addLine { s with sectors := s.sectors ++ [⟨nsid, sec, 0, false⟩] }
  match s.sector? nsid sec with
  | some x => if x.evict then (s, false) else ((addLine s).ageSet nsid sec, true)
  | none =>
    let k := s.setOf nsid sec
    let inSet := s.sectors.filter fun x => s.setOf x.nsid x.sector == k
    if inSet.length < 16 then ((addSec s).ageSet nsid sec, true)
    else
      let clean := fun (x : Sector) => (s.sectorLines x).all fun l => !l.dirty && !l.busy
      match oldestSector (inSet.filter fun x => clean x && !x.evict) with
      | some v =>
        let s : State := { s with
          lines := s.lines.filter fun l => !(l.nsid == v.nsid && l.lba / 16 == v.sector)
          sectors := s.sectors.filter fun y => !(y.nsid == v.nsid && y.sector == v.sector) }
        ((addSec (s.bump F.MEM_EVICT)).ageSet nsid sec, true)
      | none => match oldestSector (inSet.filter fun x => !x.evict) with
        | some v =>
          let s : State := { s.bump F.MEM_EVICT with
            sectors := mapIf (fun (y : Sector) => y.nsid == v.nsid && y.sector == v.sector) (fun y => { y with evict := true }) s.sectors
            lines := s.lines.filter fun l => !(l.nsid == v.nsid && l.lba / 16 == v.sector) || l.dirty || l.busy }
          let dirty := (s.sectorLines v).filter (·.dirty)
          ((dirty.foldl (fun s l => s.writeBack l.nsid l.lba) s).freeEvicted, false)
        | none => (s, false)

/-- Whether a block lies in a sector being evicted (R386). -/
def State.evicting (s : State) (nsid lba : Nat) : Bool := (s.sector? nsid (lba / 16)).any (·.evict)

/-- Start the fill of a line that is not valid; nothing while no way is free or a fill runs. -/
def State.startFill (s : State) (nsid lba : Nat) : State :=
  match s.line? nsid lba with
  | some l => if l.valid || l.filling then s else
      (s.bump F.MEM_MISS).updLine nsid lba fun x => { x with filling := true }
  | none => match s.allocLine nsid lba with
    | (s, true) => (s.bump F.MEM_MISS).updLine nsid lba fun x => { x with filling := true }
    | (s, false) => s

/-! ### Window messages (R116 to R121) -/

def State.op? (s : State) (id : Nat) : Option WinOp := s.winops.find? fun o => o.id == id
def State.updOp (s : State) (id : Nat) (f : WinOp → WinOp) : State := { s with winops := mapIf (fun o => o.id == id) f s.winops }

/-- Blocks a window message covers. -/
def WinOp.blocks (o : WinOp) : List (Nat × Nat) :=
  if o.len = 0 then [] else
  (List.range ((o.byte + o.len - 1) / 4096 + 1 - o.byte / 4096)).map fun i => (o.nsid, o.byte / 4096 + i)

/-- Pending copies of a message. -/
def State.pendsOf (s : State) (o : WinOp) : List PendCopy := s.pends.filter fun p => p.cid == o.cid && p.msg == o.msg

/-- Whether a visible WRITE has bytes for a line not yet merged into it. -/
def State.mergeWaits (s : State) (nsid lba : Nat) : Bool :=
  s.winops.any fun o => o.visible && (s.pendsOf o).any fun p => p.nsid == nsid && p.lba == lba

/-- A mask with every one of the 4,096 bytes. -/
def fullMask : Nat := 2 ^ 4096 - 1

/-- Merge bytes into a block under a byte mask. -/
def mergeBytes (old new mask : Nat) : Nat :=
  (List.range 4096).foldl (fun a i => if hasBit mask i then spliceAt a i 1 (bytesAt new i 1) else a) old

/-- A line takes new content: it is DIRTY, at a new version; a write-back already taken does not cover it; MIRROR and MEDIUM lines,
every line while unpaired, and lines that something waits for are queued for write-back (R120, R383). -/
def State.dirtyLine (s : State) (nsid lba data dur : Nat) : State :=
  let now_ := dur != 2 || !s.paired || s.lineWanted nsid lba
  let v := s.nextVer
  let s : State := { s with nextVer := v + 1 }
  let s := s.updLine nsid lba fun l => { l with
    valid := true, filling := false, data := data, dirtyAt := if l.dirty && !l.redirtied then l.dirtyAt else s.now,
    dirty := true, dur := dur, ver := v, redirtied := l.wb.isSome, wbq := l.wbq || now_ }
  let s := s.syncCache.drainDirty
  if now_ then s.writeBack nsid lba else s

/-- What must become durable for the present visible content of lines to be (R113, R121, R122): their dirty content, and the bytes
of visible WRITEs not yet merged into them. -/
def State.needsFor (s : State) (bs : List (Nat × Nat)) : List Need :=
  bs.flatMap fun b =>
    (((s.line? b.1 b.2).filter (·.dirty)).toList.map fun l => { nsid := b.1, lba := b.2, ver := l.ver, op := none }) ++
    ((s.winops.filter fun o => o.visible && (s.pendsOf o).any fun p => p.nsid == b.1 && p.lba == b.2).map fun o =>
      { nsid := b.1, lba := b.2, ver := 0, op := some o.id })

/-- Lines of a namespace's ranges that hold visible content not yet durable: dirty, or with bytes still to be merged (R125). -/
def State.dirtyIn (s : State) (nsid : Nat) (rs : List (Nat × Nat)) : List (Nat × Nat) :=
  let merging := (s.winops.filter (·.visible)).flatMap fun o => (s.pendsOf o).map fun p => (p.nsid, p.lba)
  (((s.lines.filter (·.dirty)).map fun l => (l.nsid, l.lba)) ++ merging).dedup.filter fun p => p.1 == nsid && inRanges rs p.2

/-- Take the next MSG_ID of a connection (R76). -/
def State.takeMsg (s : State) (cid : Nat) : Nat × State :=
  match s.conn? cid with
  | some c => (c.sndMsg, s.setConn { c with sndMsg := next32 c.sndMsg })
  | none => (0, s)

/-- Store the result of an atomic with its connection (R96, R127): the last 16. -/
def State.storeAtomic (s : State) (cid msg v resp : Nat) : State :=
  match s.conn? cid with
  | some c => s.setConn { c with atomics := ((msg, v, resp) :: c.atomics.filter fun a => a.1 != msg).take 16 }
  | none => s

/-- Send the result of an atomic or commit: ATOMIC_RESP, or an Atomic Acknowledge whose result is stored (R96, R121). -/
def State.replyAtomic (s : State) (id : Nat) : State :=
  match s.op? id with
  | none => s
  | some o => match s.conn? o.cid with
    | none => s
    | some c =>
      let v := match o.kind with | .commit _ => bit o.failed | _ => o.original
      match c.mode with
      | .nrt =>
        let (m, s) := match o.respMsg with | some m => (m, s) | none => s.takeMsg o.cid
        let s := (s.storeAtomic o.cid o.msg v m).transmitAs o.cid m (.atomicResp o.msg v)
        match o.kind with
        | .commit _ => s.settleMsg o.cid o.msg
        | _ => s
      | .roce => (s.storeAtomic o.cid o.msg v 0).roceAnswer o.cid o.msg (.atomic v)

/-- The result of a commit; in paired operation it leaves only once the partner holds it (R100, commit before send). -/
def State.commitReply (s : State) (o : WinOp) : State :=
  if s.paired then
    let (m, s) := s.commitMsg o.cid (.atomicResp o.msg (bit o.failed))
    let s := (s.storeAtomic o.cid o.msg (bit o.failed) m).updOp o.id fun x => { x with respMsg := some m }
    match s.conn? o.cid with
    | some c => s.mirror (.answer o.id) (s.ctxBody c)
    | none => s
  else s.replyAtomic o.id

/-- Settle or answer a window message with its transport (R84, R96, R116). -/
def State.answerOp (s : State) (o : WinOp) (data : Nat) : State :=
  let s := s.updOp o.id fun x => { x with acked := true }
  match s.conn? o.cid with
  | none => s
  | some c =>
    match o.kind, c.mode with
    | .read, .nrt => s.transmit o.cid (.windowData o.msg o.len data)
    | .read, .roce => s.roceAnswer o.cid o.msg (.read o.len data)
    | .write .., .nrt => s.settleMsg o.cid o.msg
    | .write .., .roce => s.roceAnswer o.cid o.msg .ack
    | .commit _, _ => s.commitReply o
    | _, .nrt => s.settleMsg o.cid o.msg
    | _, .roce => s.replyAtomic o.id

/-- Whether the acknowledgment of a visible WRITE or ATOMIC is due (Table KEY-7, R206). -/
def State.ackDueOp (s : State) (o : WinOp) : Bool :=
  o.visible && !o.acked && !o.failed && s.due o.readyAt && ((s.paired && o.dur != 1) || (o.needs.isEmpty && (s.pendsOf o).isEmpty))

/-- A message whose work is all done leaves the table. -/
def State.retireOp (s : State) (id : Nat) : State :=
  match s.op? id with
  | some o =>
    let waits := s.mirrorOut.any fun m => m.what == .answer id
    if o.acked && (s.pendsOf o).isEmpty && !waits then { s with winops := s.winops.filter fun x => x.id != id } else s
  | none => s

/-- Acknowledge a message when due. -/
def State.tryAckOp (s : State) (id : Nat) : State :=
  match s.op? id with
  | some o => (if s.ackDueOp o then s.answerOp o 0 else s).retireOp id
  | none => s

/-- Merge the pending copies of a visible WRITE, each when its line is free and no earlier one waits (R118, R381). What became
visible before a block command locked its range is merged in spite of the lock (Table KEY-8). -/
def State.mergeOp (s : State) (id : Nat) : State :=
  match s.op? id with
  | none => s
  | some o => (s.pendsOf o).foldl (fun s p =>
      let earlier := (s.pends.takeWhile fun q => q != p).any fun q => q.nsid == p.nsid && q.lba == p.lba &&
        s.winops.any fun x => x.visible && x.cid == q.cid && x.msg == q.msg
      if earlier || s.evicting p.nsid p.lba then s else
      let full := p.mask == fullMask
      let ready := match s.line? p.nsid p.lba with | some l => l.valid && !l.filling | none => false
      let sr : State × Bool := if ready then (s, true) else
        if full then (match s.line? p.nsid p.lba with
          | some l => (s, !l.filling)
          | none => s.allocLine p.nsid p.lba)
        else (s.startFill p.nsid p.lba, false)
      let s := sr.1
      if !sr.2 then s else
      let old := ((s.line? p.nsid p.lba).map (·.data)).getD 0
      let s : State := { s with pends := s.pends.erase p }
      let v := s.nextVer
      let s := (s.needsMerged p.nsid p.lba id v).updOp id fun x => { x with
        needs := x.needs ++ [{ nsid := p.nsid, lba := p.lba, ver := v, op := none }] }
      s.dirtyLine p.nsid p.lba (if full then p.data else mergeBytes old p.data p.mask) o.dur) s

/-- Whether the dirty limit leaves room for a message's lines; AT_LIMIT and its event where it does not (R384). -/
def State.dirtyRoom (s : State) (bs : List (Nat × Nat)) : State × Bool :=
  let new := (bs.filter fun b => !((s.line? b.1 b.2).any (·.dirty))).length
  if s.dirtyCount + new ≤ s.dirtyLimit then (s, true)
  else ((s.wr F.MEM_CACHE_STAT_AT_LIMIT 1).memNotice 11 NOTICE 0x0A (s.rd F.MEM_CACHE_STAT_DIRTY_PCT), false)

/-- The value an atomic leaves (Table KEY-6). -/
def atomicNew (k : WinKind) (old : Nat) : Nat :=
  match k with
  | .cas cmp new => if old = cmp then new else old
  | .fadd a => (old + a) % 2 ^ 64
  | _ => old

/-- Whether a message changes what it covers. -/
def WinKind.changes (k : WinKind) : Bool := match k with | .write .. | .cas .. | .fadd _ => true | _ => false

/-- Whether an earlier message that overlaps one goes first: a change on the same connection where either keeps the order (R118),
and a change already sent to the partner's mirror, so that both controllers apply changes in one order. -/
def State.goesAfter (s : State) (o : WinOp) : Bool :=
  s.winops.any fun x => x.id != o.id && !x.visible && x.kind.changes && (x.blocks.any o.blocks.contains) &&
    ((x.id < o.id && x.cid == o.cid && (x.ord || o.ord)) ||
      (x.sent && (!o.sent || match x.kind with | .write .. => x.id < o.id | _ => true)))

/-- The value an atomic takes at its block, and the line's content. -/
def WinOp.oldOf (o : WinOp) (l : Line) : Nat := bytesAt l.data (o.byte % 4096) 8

/-- Apply an atomic to its line: it is visible; its result is sent or its acknowledgment follows (Tables KEY-6, KEY-7). -/
def State.applyAtomic (s : State) (o : WinOp) (l : Line) : State :=
  let old := o.oldOf l
  let new := atomicNew o.kind old
  let s := (s.bumpBy F.MEM_HIT (bit o.filled.isEmpty)).updOp o.id fun x => { x with visible := true, original := old }
  let s : State := if new = old then s else
    let s := s.updOp o.id fun x => { x with needs := x.needs ++ [{ nsid := l.nsid, lba := l.lba, ver := s.nextVer, op := none }] }
    s.dirtyLine l.nsid l.lba (spliceAt l.data (o.byte % 4096) 8 new) o.dur
  let s : State := match s.conn? o.cid with
    | some c => if c.mode == .nrt then s.replyAtomic o.id else s
    | none => s
  s.tryAckOp o.id

/-- Send what an atomic will do to the partner's mirror: its result with the connection's context, and the bytes it changes (R100,
R118). -/
def State.claimAtomic (s : State) (o : WinOp) (l : Line) : State :=
  let old := o.oldOf l
  let new := atomicNew o.kind old
  let ofs := o.byte % 4096
  let nrt := (s.conn? o.cid).any fun c => c.mode == .nrt
  let (m, s) := if nrt then s.takeMsg o.cid else (0, s)
  let s := s.storeAtomic o.cid o.msg old m
  let s := match s.conn? o.cid with
    | some c => s.setConn { c with committed := if nrt then c.committed ++ [(m, OutBody.atomicResp o.msg old)] else c.committed }
    | none => s
  let s := (s.mirrorConn o.cid).updOp o.id fun x => { x with sent := true, respMsg := if nrt then some m else none }
  let p : PendCopy := { cid := o.cid, msg := o.msg, nsid := l.nsid, lba := l.lba, data := putAt ofs 8 new, mask := 255 * 2 ^ ofs }
  s.mirror (.visible o.id) (.lines (if new = old then [] else [p]) o.dur o.cid o.msg)

/-- Advance a WRITE. -/
def State.stepWrite (s : State) (o : WinOp) : State :=
  if o.visible then (s.mergeOp o.id).tryAckOp o.id
  else if !o.mirrored || (o.blocks.any fun b => s.blockLocked b.1 b.2) || s.goesAfter o then s else
  match s.dirtyRoom o.blocks with
  | (s, false) => s
  | (s, true) =>
    let mine := s.pendsOf o
    let s : State := { s with pends := (s.pends.filter fun p => !mine.contains p) ++ mine }
    ((s.updOp o.id fun x => { x with visible := true }).mergeOp o.id).tryAckOp o.id

/-- Advance a READ_REQ or an RDMA READ. -/
def State.stepRead (s : State) (o : WinOp) : State :=
  let bs := o.blocks
  if o.acked || (bs.any fun b => s.blockLocked b.1 b.2 || s.evicting b.1 b.2 || s.mergeWaits b.1 b.2) ||
      (s.winops.any fun x => x.id < o.id && x.cid == o.cid && !x.visible && x.kind.changes && (x.ord || o.ord) && x.blocks.any bs.contains) then s
  else
    let miss := bs.filter fun b => !((s.line? b.1 b.2).any (·.valid))
    if !miss.isEmpty then (miss.foldl (fun (s : State) b => s.startFill b.1 b.2) s).updOp o.id fun x => { x with filled := (miss ++ x.filled).dedup }
    else if !s.due o.readyAt then s
    else
      let all := bs.zipIdx.foldl (fun a p => a + putAt (4096 * p.2) 4096 (((s.line? p.1.1 p.1.2).map (·.data)).getD 0)) 0
      let data := bytesAt all (o.byte % 4096) o.len
      ((s.bumpBy F.MEM_HIT (bs.filter fun b => !o.filled.contains b).length).answerOp o data).retireOp o.id

/-- Advance a Compare and Swap or Fetch and Add. -/
def State.stepAtomic (s : State) (o : WinOp) : State :=
  if o.visible then s.tryAckOp o.id
  else match o.blocks with
  | [] => s
  | b :: _ =>
    let waits := s.blockLocked b.1 b.2 || s.evicting b.1 b.2 || s.mergeWaits b.1 b.2 || s.goesAfter o
    if (o.sent && !o.mirrored) || (!o.sent && waits) then s else
    match (s.line? b.1 b.2).filter (·.valid) with
    | none => (s.startFill b.1 b.2).updOp o.id fun x => { x with filled := [b] }
    | some l =>
      if o.sent then s.applyAtomic o l
      else match s.dirtyRoom [b] with
      | (s, false) => s
      | (s, true) => if s.paired then s.claimAtomic o l else s.applyAtomic o l

/-- Advance one window message as far as it can go. -/
def State.stepOp (s : State) (id : Nat) : State :=
  match s.op? id with
  | none => s
  | some o => match o.kind with
    | .commit _ => s
    | .write .. => s.stepWrite o
    | .read => s.stepRead o
    | .cas .. | .fadd _ => s.stepAtomic o

/-- Advance every window message, oldest first. -/
def State.winProgress (s : State) : State := (s.winops.map (·.id)).foldl (fun s id => s.stepOp id) s.syncCache

end Sys2Proof.Machine
end

