-- ==== Sys2Proof/Machine/Command.lean ====
section
/-!
DEFINITION. Machine/Command.lean: delivery of commands, their checks in the order of Table CMD-8, admission, dispatch and completion
(R130 to R154), Table CMD-7, Abort, resets, shutdown and the keep-alive timer (R155 to R162).
-/

namespace Sys2Proof.Machine

open NvmeFields

/-! ### Delivery (R133, R134, R157) -/

/-- Whether a command is ordered (R141). -/
def orderedCmd (q : Queue) (v : NvmeCmd) : Bool :=
  v.qid != 0 && (v.ord || q.mode == .strict || (q.mode == .orderedWrites && (writeOpc v.opc || v.opc == 0x00)))

/-- Whether an ordered command may be admitted (R142): every command received before it has met its completion conditions or is gone,
and none before it is still to be delivered. -/
def State.orderMet (s : State) (c : Cmd) : Bool := !c.ordered || (s.earlierHere c && (s.before c).all fun x => x.result.isSome)

/-- Report the in-flight limit when it is reached (R134). -/
def State.inflightCheck (s : State) (v : NvmeCmd) (was : Bool) : State :=
  if s.stalled && !was then
    (s.bumpCmd F.CMD_STALL v).raiseOnce (msU 1) (s.roleBench 1 (cmdRole v)) 8 NOTICE 5 0
  else s

/-- A command capsule reaches its CMD role: counted, in flight, its keep-alive timer restarted; with its number, or none
when its queue is gone or shut down (R157, R158). -/
def State.accept (s : State) (v : NvmeCmd) : Option Nat × State :=
  match s.ctrl? v.ctl, s.queueOf v with
  | some k, some q =>
    let s := (s.bumpCmd F.CMD_RX v).updCtrl v.ctl fun x => { x with lastCmd := s.now }
    if k.shutdown then (none, s.bumpCmd F.CMD_DISCARDED v) else
    let id := s.nextCmd
    let inCap := match v.sgl with | .inCapsule _ => true | _ => false
    let c : Cmd := {
      id := id, nv := v, ident := k.ident, at_ := s.now, readyAt := 0, ordered := orderedCmd q v, phase := .delivered, toFetch := 0,
      pieces := [], blocks := [], unplaced := [], stripes := [], dirtyWait := [], got := [], placing := false, paging := false, waited := false,
      bytes := if inCap then v.dataLen else 0, result := none, respMsg := none, flushFor := [], recsLeft := [], opMark := 0 }
    let s : State := { s with cmds := s.cmds ++ [c], nextCmd := id + 1 }
    let was := s.stalled
    let s := s.syncCmds.inflightCheck v was
    let s : State := if c.ordered && !s.orderMet c then s.bumpCmd F.CMD_ORD_WAIT v else s
    (some id, s)
  | _, _ => (none, s)

/-- Outstanding commands of a queue. -/
def State.outstanding (s : State) (v : NvmeCmd) : Nat := (s.cmds.filter fun x => x.nv.ctl == v.ctl && x.nv.qid == v.qid).length

/-- Whether a command is over its queue's size (R133). -/
def State.overQueue (s : State) (v : NvmeCmd) : Bool :=
  match s.queueOf v with | some q => q.conn.isSome && q.size ≤ s.outstanding v | none => false

/-- Whether a queue still waits for authentication (R180). -/
def State.needsAuth (s : State) (v : NvmeCmd) : Bool :=
  match s.queueOf v with | some q => q.authReq && !q.authed | none => false

/-- The stamp of XPT: when the connection's ceilings permit a delivered capsule (R206). -/
def State.stampCmd (s : State) (id : Nat) : State :=
  match s.cmd? id with
  | none => s
  | some c => match s.ns? c.nv.nsid with
    | none => s
    | some n =>
      let (t, s) := s.chargeConn c.nv.ctl c.nv.qid (s.chargeOf n c.nv)
      s.updCmd id fun x => { x with readyAt := t }

/-- Whether an opcode is one of Table CMD-2. -/
def ioOpcode (o : Nat) : Bool := [0x00, 0x01, 0x02, 0x05, 0x08, 0x09, 0x0C, 0x0D, 0x0E, 0x11, 0x15].contains o

/-! ### Field checks (R136, R139) -/

/-- Whether the queue of a command belongs to an endpoint function. -/
def State.onEndpoint (s : State) (v : NvmeCmd) : Bool := ((s.ctrl? v.ctl).bind (·.func)).isSome

/-- Length the keyed blocks of a list give. -/
def keyedSum (bs : List KeyedBlk) : Nat := (bs.map (·.len)).sum

/-- Bytes of host data an I/O command moves. -/
def ioLength (n : Option Namespace) (v : NvmeCmd) : Nat :=
  let lbaf := (n.map (·.lbaf)).getD 0
  if [0x01, 0x02, 0x05].contains v.opc then nlb v * moveBytes lbaf (pract v || lbaf == 0)
  else if v.opc = 0x09 then (v.cdw10 % 256 + 1) * 16
  else 0

/-- Whether a command's data go to the host: the transfer direction of its opcode or fctype (PRESUMED: NVM Express, log entry 24). -/
def toHostCmd (v : NvmeCmd) : Bool := (if v.opc = 0x7F then v.fctype else v.opc) % 4 == 2

/-- Checks of the data description: SGL Descriptor Type Invalid, Invalid PRP Offset, Data SGL Length Invalid (R139, R482). Data for
the host cannot lie in its capsule (DESIGN CHOICE, log entry 123). -/
def sglCheck (ep toHost : Bool) (need : Nat) (d : Sgl) : Option Status :=
  let fits := fun (l : Nat) => if 0 < need && l ≠ need then some St.sglLength else none
  match d with
  | .bad => some St.sglType
  | .prp ok => if ep then (if ok then none else some St.prpOffset) else some St.sglType
  | .none => if need = 0 then none else some St.sglType
  | .segment bs => if ep || bs.isEmpty || 16 < bs.length then some St.sglType else fits (keyedSum bs)
  | .inCapsule l => if ep || toHost then some St.sglType else if 16384 < l then some St.sglLength else fits l
  | .keyed b => if ep then some St.sglType else fits b.len

/-- FUSE and PSDT (Table CMD-3). -/
def State.commonField (s : State) (v : NvmeCmd) : Bool := v.fuse != 0 || v.psdt != (if s.onEndpoint v then 0 else 2)

/-- Whether a field of an I/O command is rejected (Table CMD-3, R135, R168); the places of DTYPE, DSPEC, STC, CETYPE and CEV
are those of the NVM command set (log entry 24). -/
def State.ioField (s : State) (n : Option Namespace) (v : NvmeCmd) : Bool :=
  let rw := [0x01, 0x02, 0x05, 0x08, 0x0C].contains v.opc
  let lbaf := (n.map (·.lbaf)).getD 0
  let pit := (n.map (·.pit)).getD 0
  let big := [0x01, 0x02, 0x05].contains v.opc && 1048576 < ioLength n v
  let ilb := rw && v.opc != 0x08 && lbaf != 0 && pit == 1 && ilbrt lbaf v != slba v % 2 ^ refBits lbaf
  s.commonField v || (rw && (bits v.cdw12 23 20 != 0 || hasBit v.cdw12 24 || bits v.cdw12 19 16 != 0 || bits v.cdw13 31 16 != 0))
    || big || (v.opc == 0x0C && 256 < nlb v) || ilb

/-! ### Access checks (R163 to R165, R189) -/

/-- Whether a reservation permits an identity's access (R189; the access table is the standard's, log entry 30). -/
def resvAllows (r : Resv) (ident : Nat) (write : Bool) : Bool :=
  let registered := r.regs.any fun p => p.1 == ident
  let holder := r.holder == some ident
  match r.rtype with
  | 0 => true
  | 1 => holder || !write
  | 2 => holder
  | 3 | 5 => registered || !write
  | _ => registered

/-- Lost ranges of a namespace not yet reported to an identity: it reported fewer than were recorded. -/
def Namespace.owesNotice (n : Namespace) (i : Nat) : Bool :=
  !n.lost.isEmpty && (((n.reported.find? fun p => p.1 == i).map (·.2)).getD 0) < n.lostSeq

/-- Deferred Write Error or Lost Range Notice owed by a namespace to an identity. -/
def Namespace.owed (n : Namespace) (i : Nat) : Option Status :=
  if n.marks.contains i then some St.deferred else if n.owesNotice i then some St.lostNotice else none

/-- The report of a namespace's losses to an identity: its mark cleared, its ranges counted as reported (R163, R195). -/
def State.reportLost (s : State) (nsid i : Nat) : State :=
  (s.updNs nsid fun n => { n with
    marks := n.marks.filter (· != i), reported := (i, n.lostSeq) :: n.reported.filter fun p => p.1 != i }).mirrorNs nsid

/-- Windows that overlap ranges of a namespace. -/
def State.windowsOn (s : State) (nsid : Nat) (rs : List (Nat × Nat)) : List Window :=
  s.windows.filter fun w => w.valid && w.nsid == nsid && rangesMeet rs [(w.slba, w.len / 4096)]

/-- Blocks of a Write that are not yet mapped. -/
def State.newlyMapped (s : State) (n : Namespace) (v : NvmeCmd) : Nat :=
  ((List.range (nlb v)).filter fun i => (Entry.place? (s.resolve n.nsid (slba v + i))).isNone).length

/-- Whether a log-layout Write finds no capacity (R229). -/
def State.noCapacity (s : State) (n : Namespace) (v : NvmeCmd) : Bool :=
  let g := n.moveTo.getD n.group
  let k := s.newlyMapped n v
  v.opc == 0x01 && !n.fixed && 0 < k && (s.capCur g < (s.group g).mapped + k || n.ncap < n.mapped + k)

/-- Whether a log-layout Write needs a new survey page while object slots are short (R265). -/
def State.noPage (s : State) (n : Namespace) (v : NvmeCmd) : Bool :=
  v.opc == 0x01 && !n.fixed && s.slotsShort n.group &&
    (((List.range (nlb v)).map fun i => (slba v + i) / 512).dedup.any fun p => !s.objs.any (s.isObj n.group 0 n.nsid 0 p))

/-- Whether the controller serves: past step 15 and in a role that admits commands (R524, R551). -/
def State.serving_ (s : State) : Bool := s.isSet F.TIM_STAT_SERVING && (s.halRole == 1 || s.halRole == 3) && !s.inGap

/-- Whether a namespace is in service. -/
def State.nsServes (s : State) (n : Namespace) : Bool := n.ready && (s.group n.group).mounted && !(s.group n.group).scan && s.isSet F.TIM_STAT_SERVING

/-- The first failing check of an I/O command down to Window Conflict, in the order of Table CMD-8 (R166). -/
def State.ioCheckFirst (s : State) (c : Cmd) : Option Status :=
  let v := c.nv
  let ns := s.ns? v.nsid
  let all := v.opc == 0x00 && v.nsid == 0xFFFFFFFF
  let i := c.ident.getD 16384
  if c.ident.isNone then some St.denied
  else if s.ioField ns v then some St.field
  else match sglCheck (s.onEndpoint v) (toHostCmd v) (ioLength ns v) v.sgl with
  | some st => some st
  | none =>
    if !all && !s.nsAttached v.ctl v.nsid then some St.nsInvalid
    else match (sortNat (s.cmdNss v)).findSome? fun k => (s.ns? k).bind fun n => n.owed i with
    | some st => some st
    | none =>
      if (s.cmdNss v).any fun k => (s.ns? k).any fun n => !s.nsServes n then some St.nsNotReady
      else match ns with
      | none => none
      | some n =>
        let w := writeOpc v.opc
        let rs := cmdRanges v
        if !resvAllows n.resv i w && (w || readOpc v.opc || v.opc == 0x00) then some St.conflict
        else if rs.any fun r => n.nsze < r.1 + r.2 then some St.lbaRange
        else if w && (v.opc != 0x09 || hasBit v.cdw11 2) && (s.windowsOn v.nsid rs).any fun x => x.excl && (x.rights &&& 6) != 0
          then some St.window
        else none

/-- The first failing check of an I/O command (R166): Capacity Exceeded after the others. -/
def State.ioCheck (s : State) (c : Cmd) : Option Status :=
  match s.ioCheckFirst c with
  | some st => some st
  | none => if (s.ns? c.nv.nsid).any fun n => s.noCapacity n c.nv || s.noPage n c.nv then some St.capacity else none

/-- Complete a command that its checks refuse, with the counters and reports of its status. -/
def State.refuseIo (s : State) (c : Cmd) (st : Status) : State :=
  let i := c.ident.getD 16384
  let s : State := if st = St.deferred || st = St.lostNotice then
      ((s.cmdNss c.nv).foldl (fun s k => s.reportLost k i) s).bumpCmd F.CMD_DEFERRED c.nv
    else if st = St.window then s.bumpCmd F.CMD_CONFLICT c.nv
    else if st = St.capacity then
      match s.ns? c.nv.nsid with
      | some n => if s.noCapacity n c.nv then s.raiseOnce (msU 1) (s.roleBench 3 (layRole n.group)) 8 NOTICE 5 n.nsid else s
      | none => s
    else s
  s.finish c.id 0 st

/-- Deliver an I/O command: it waits for its checks and admission, but for an opcode that is not executed, a queue that awaits
authentication, and a command above its queue's size, which completes with the first matching row of Table CMD-8 (R133, R166). -/
def State.deliverIo (s : State) (v : NvmeCmd) : State :=
  let full := s.overQueue v
  match s.accept v with
  | (none, s) => s
  | (some id, s) =>
    if !ioOpcode v.opc then s.finish id 0 St.opcode
    else if s.needsAuth v then s.finish id 0 St.authRequired
    else if full then
      match s.cmd? id with
      | some c => s.refuseIo c ((s.ioCheckFirst c).getD St.sequence)
      | none => s
    else s.stampCmd id

/-! ### Admission (R140, R152, R209) -/

/-- Whether a held lock keeps a command from admission: a block write meets any overlapping lock of a block write; in the
fixed layout every overlapping command's (R140, R152). -/
def State.lockWait (s : State) (n : Namespace) (c : Cmd) : Bool :=
  let rs := cmdRanges c.nv
  s.cmds.any fun x => x.id != c.id && x.locks && x.nv.nsid == c.nv.nsid && rangesMeet rs (cmdRanges x.nv) &&
    ((writeOpc c.nv.opc && writeOpc x.nv.opc) || n.fixed)

/-- Whether a region of a fixed-layout namespace that a write covers still waits for its zero fill (R186). -/
def fillWait (n : Namespace) (v : NvmeCmd) : Bool :=
  n.fixed && writeOpc v.opc && (cmdRanges v).any fun r => n.unfilled.any fun u => u * 16384 < r.1 + r.2 && r.1 < (u + 1) * 16384

/-- Whether FIX_INTENT records of a namespace still wait for their redo (R301, R302). -/
def State.redoWait (s : State) (n : Namespace) : Bool := n.fixed && s.fixupds.any fun u => u.nsid == n.nsid && u.redo

/-- Whether an atomic already sent to the partner's mirror still has to take effect in a block write's range (R118, R125): it comes
first. -/
def State.claimedIn (s : State) (v : NvmeCmd) : Bool :=
  writeOpc v.opc && s.winops.any fun o => o.sent && !o.visible && (match o.kind with | .cas .. | .fadd _ => true | _ => false) &&
    o.blocks.any fun b => b.1 == v.nsid && inRanges (cmdRanges v) b.2

/-- The role whose scheduler admits a command: the first of its roles. -/
def State.homeRole (s : State) (v : NvmeCmd) : Nat := (s.cmdRoles v).headD (cmdRole v)

/-- Whether a delivered command, its checks passed, can be admitted now. -/
def State.admissible (s : State) (c : Cmd) : Bool :=
  c.phase == .delivered && c.result.isNone && s.orderMet c && s.due c.readyAt &&
  ((s.cmdRoles c.nv).all fun r => s.slotsUsed r < 16384) &&
  match s.ns? c.nv.nsid with
  | none => c.nv.opc == 0x00
  | some n =>
    let ch := s.chargeOf n c.nv
    (!s.qosOn || s.due (eligibleAt n.profile n.tats ch)) && s.hasGrant (cmdRole c.nv) (n.moveTo.getD n.group) &&
    !s.lockWait n c && !s.claimedIn c.nv && !fillWait n c.nv && !s.redoWait n &&
    !(c.nv.opc == 0x01 && !n.fixed && s.spaceHold (n.moveTo.getD n.group))

/-- Rank of a command under R209: tier, latency class, tag. -/
def State.rank (s : State) (c : Cmd) : Nat × Nat × Rat :=
  match s.ns? c.nv.nsid with
  | none => (0, 0, 0)
  | some n => if 0 < n.profile.minKbps && n.minTag ≤ (s.now : Nat) then (0, n.profile.lclass, n.minTag) else (1, n.profile.lclass, n.startTag)

/-- Whether one rank precedes another. -/
def rankLt (a b : Nat × Nat × Rat) : Bool :=
  a.1 < b.1 || (a.1 == b.1 && (a.2.1 < b.2.1 || (a.2.1 == b.2.1 && decide (a.2.2 < b.2.2))))

/-- The command the scheduler takes. -/
def State.pick (s : State) (role : Nat) : Option Cmd :=
  (s.cmds.filter fun c => c.nv.qid != 0 && s.homeRole c.nv == role && s.admissible c).foldl
    (fun m c => match m with | some x => if rankLt (s.rank c) (s.rank x) then some c else m | none => some c) none

/-- The protection information failure of a write's received data (Table CMD-9): under PRCHK, and the guard of LBAF2 always, since it is
the internal guard (R169). -/
def Cmd.piBad (c : Cmd) (n : Namespace) (blks : List Blk) : Option PiFail :=
  if pract c.nv then none else piFirst n c.nv (prchk c.nv ||| (if n.lbaf = 2 then 4 else 0)) blks

/-- Data of a command have arrived: its blocks, whose protection information is checked on receipt; those of a write go to the places
that the stripes have for them. -/
def State.dataArrived (s : State) (id data : Nat) : State :=
  match s.cmd? id with
  | none => s
  | some c => match s.ns? c.nv.nsid with
    | none => s
    | some n =>
      let pib := if pract c.nv then 0 else piBytes n.lbaf
      let raw := splitBlocks data (nlb c.nv) pib
      let gen := fun (p : Blk × Nat) => { p.1 with pi := piGen n.lbaf n.pit p.1.data (lbat c.nv) (slba c.nv + p.2) }
      let blks := if pract c.nv then raw.zipIdx.map gen else raw
      let s := s.updCmd id fun x => { x with blocks := blks, toFetch := 0, pieces := [] }
      if c.nv.opc != 0x01 then s.readEnd id else
      match c.piBad n blks with
      | some f => ((s.bump (F.CMD_PI_ERR (cmdRole c.nv))).raiseCmd (cmdRole c.nv) 7 NOTICE 4 c.nv.nsid).failWrite id f.status
      | none => if n.fixed then s else s.stageCmd id

/-- A piece of a command's data has arrived (R128, R139): with the last of them the data are whole. -/
def State.pieceArrived (s : State) (id ofs len data : Nat) : State :=
  match s.cmd? id with
  | none => s
  | some c =>
    if c.toFetch = 0 then s else
    let pieces := (ofs, len, data) :: c.pieces.filter fun p => p.1 != ofs
    if (pieces.map fun p => p.2.1).sum < c.toFetch then s.updCmd id fun x => { x with pieces := pieces }
    else s.dataArrived id (pieces.foldl (fun a p => a + putAt p.1 p.2.1 p.2.2) 0)

/-- Lines, dirty or about to be, of namespaces. -/
def State.openLines (s : State) (nss : List Nat) : List (Nat × Nat) :=
  let merging := (s.winops.filter (·.visible)).flatMap fun o => (s.pendsOf o).map fun p => (p.nsid, p.lba)
  (((s.lines.filter (·.dirty)).map fun l => (l.nsid, l.lba)) ++ merging).dedup.filter fun p => nss.contains p.1

/-- Begin an admitted command: a Flush takes what it waits for; a write takes its places, the write-back of dirty lines in its
range and its data (R125, R140, R238). -/
def State.beginCmd (s : State) (c : Cmd) : State :=
  let v := c.nv
  let s := s.updCmd c.id fun x => { x with phase := .admitted }
  match s.ns? v.nsid with
  | none =>
    let nss := s.cmdNss v
    let mine := (s.cmds.filter fun x => x.id < c.id && writeOpc x.nv.opc && x.nv.qid != 0 && nss.contains x.nv.nsid && x.result.isNone).map (·.id)
    let ls := s.openLines nss
    let s := s.updCmd c.id fun x => { x with phase := .dispatched, flushFor := mine, dirtyWait := s.needsFor ls }
    (ls.foldl (fun s p => s.writeBack p.1 p.2) s).syncCmds
  | some n =>
    let s : State :=
      if v.opc = 0x00 then
        let mine := (s.cmds.filter fun x => x.id < c.id && writeOpc x.nv.opc && x.nv.qid != 0 && x.nv.nsid == v.nsid && x.result.isNone).map (·.id)
        let ls := s.openLines [v.nsid]
        let s := s.updCmd c.id fun x => { x with phase := .dispatched, flushFor := mine, dirtyWait := s.needsFor ls }
        ls.foldl (fun s p => s.writeBack p.1 p.2) s
      else if v.opc = 0x09 && n.fixed then s.setMet c.id 0 St.ok
      else if v.opc = 0x09 && !hasBit v.cdw11 2 then s.setMet c.id 0 St.ok
      else if writeOpc v.opc then
        let ls := s.dirtyIn v.nsid (cmdRanges v)
        let s := s.updCmd c.id fun x => { x with dirtyWait := s.needsFor ls }
        let s := ls.foldl (fun s p => s.writeBack p.1 p.2) s
        if v.opc = 0x01 then
          let s : State := if n.fixed then s else (s.updCmd c.id fun x => { x with unplaced := List.range (nlb v) }).placeCmd c.id
          match v.sgl with
          | .inCapsule _ => s.dataArrived c.id v.data
          | _ => s.startFetch c (ioLength (some n) v)
        else s
      else if v.opc = 0x05 then
        match v.sgl with
        | .inCapsule _ => s.dataArrived c.id v.data
        | _ => s.startFetch c (ioLength (some n) v)
      else s
    s.syncCmds

/-- Send the admission record of a command with its namespace's ceilings, tags and metering to the partner's mirror (Table PAIR-5,
KIND 3). -/
def State.mirrorAdmission (s : State) (id : Nat) : State :=
  match s.cmd? id with
  | none => s
  | some c => match s.ns? c.nv.nsid with
    | some n => s.mirrorNote (.admission c n.nsid n.tats n.minTag n.startTag n.meter)
    | none => s

/-- Admit a command: charged and counted, begun, its admission mirrored (R140, R203, R217). -/
def State.admitCmd (s : State) (c : Cmd) : State :=
  match s.ns? c.nv.nsid with
  | none => s.beginCmd c
  | some n =>
    let ch := s.chargeOf n c.nv
    ((s.chargeNs n (cmdRole c.nv) ch fun m => m.admitted c.nv ch).beginCmd c).mirrorAdmission c.id

/-! ### Dispatch (R140, R168, R289) -/

/-- Invalidate the lines of a block write's range before its dispatch (R380): the clean ones leave, and a fill in progress brings
nothing. -/
def State.invalidate (s : State) (nsid : Nat) (rs : List (Nat × Nat)) : State :=
  ((s.lines.filter fun l => l.nsid == nsid && inRanges rs l.lba && !l.dirty && l.wb.isNone).map fun l => l.lba).foldl (fun s a => s.dropLine nsid a) s

/-- Issue a survey update: MAP_DELTA with zero or deallocated entries, pending at once (Table CMD-2, R272). -/
def State.surveyUpdate (s : State) (c : Cmd) (n : Namespace) (e : Option Entry) : State :=
  let rs := cmdRanges c.nv
  let runs : List MapRun := rs.map fun r => { nsid := n.nsid, lba := r.1, run := r.2, old := none, new := e }
  let g := n.group
  let s : State := { s with pendings := s.pendings ++ rs.map fun r => ⟨c.id, n.nsid, r.1, r.2, e⟩ }
  let (q, s) := s.issueRec g (.mapDelta (some c.id) 0 runs [])
  s.updCmd c.id fun x => { x with phase := .dispatched, recsLeft := [q] }

/-- Dispatch a fixed-layout write: one update for each 256 KiB part (R289), or Write Fault (R327). -/
def State.dispatchFixed (s : State) (c : Cmd) (n : Namespace) (blks : List Blk) (zero : Bool) : State :=
  if s.fixupds.any fun u => u.cmd == some c.id then s
  else if s.writeFault n (slba c.nv) (nlb c.nv) then s.setMet c.id 0 St.writeFault
  else if !s.fixRateOk then s
  else
    let s := (s.chargeFixRate (nlb c.nv)).invalidate n.nsid (cmdRanges c.nv)
    (parts64 (slba c.nv) (nlb c.nv)).foldl (fun s p => s.beginFix (some c.id) n p.1 ((blks.drop (p.1 - slba c.nv)).take p.2) zero) s

/-- Whether a range reaches a sector being evicted (R386). -/
def State.evictWait (s : State) (v : NvmeCmd) : Bool :=
  (cmdRanges v).any fun r => s.sectors.any fun x => x.evict && x.nsid == v.nsid && x.sector * 16 < r.1 + r.2 && r.1 < (x.sector + 1) * 16

/-- Whether a visible WRITE has bytes still to be merged into a block of a range (R124). -/
def State.mergeIn (s : State) (v : NvmeCmd) : Bool :=
  s.winops.any fun o => o.visible && (s.pendsOf o).any fun p => p.nsid == v.nsid && inRanges (cmdRanges v) p.lba

/-- Dispatch an admitted log-layout Write once all its blocks have their places (R140, R238). -/
def State.dispatchLog (s : State) (c : Cmd) : State :=
  let s := s.placeCmd c.id
  if (s.cmd? c.id).any fun x => x.unplaced.isEmpty then
    ((s.invalidate c.nv.nsid (cmdRanges c.nv)).stageCmd c.id).updCmd c.id fun x => { x with phase := .dispatched }
  else s

/-- Dispatch an admitted command whose conditions hold (R140, R150). dataOk is the outcome of the check of staged data. -/
def State.dispatch (s : State) (c : Cmd) (n : Namespace) (dataOk : Bool) : State :=
  let v := c.nv
  let rs := cmdRanges v
  if c.phase != .admitted || c.result.isSome then s
  else if writeOpc v.opc && !c.dirtyWait.isEmpty then s
  else if v.opc = 0x01 then
    if 0 < c.toFetch || c.blocks.isEmpty then s
    else if !dataOk then s.stageFails c.id
    else if n.fixed then (if s.redoWait n then s else s.dispatchFixed c n c.blocks false)
    else s.dispatchLog c
  else if v.opc = 0x08 then
    if n.fixed then (if s.redoWait n then s else s.dispatchFixed c n ((List.range (nlb v)).map fun i => .enter 0 (piGen n.lbaf n.pit 0 0 (slba v + i))) true)
    else (s.invalidate v.nsid rs).surveyUpdate c n (some .zero)
  else if v.opc = 0x09 then (s.invalidate v.nsid rs).surveyUpdate c n none
  else if readOpc v.opc then
    if s.evictWait v then s.bump F.MEM_EVICT_WAIT
    else if s.mergeIn v then s
    else (s.updCmd c.id fun x => { x with phase := .dispatched }).startReads c.id
  else s

/-- COMMAND_DISPATCH (R140). -/
def execCommandDispatch (id : Nat) (dataOk : Bool) (s : State) : Host.Outcome State Fault Refusal :=
  .next <|
    match s.cmd? id with
    | none => s
    | some c => if s.draining then s else match s.ns? c.nv.nsid with
      | some n => s.dispatch c n dataOk
      | none => s

/-! ### Completion (R146, R154) -/

/-- A Flush meets its conditions when every earlier write and every covered line has ended (R122, R154). -/
def State.flushMet (s : State) (id : Nat) : State :=
  match s.cmd? id with
  | none => s
  | some c =>
    let open_ := c.flushFor.any fun i => (s.cmd? i).any fun x => x.result.isNone
    if c.nv.opc = 0x00 && c.nv.qid != 0 && c.phase == .dispatched && c.result.isNone && !open_ && c.dirtyWait.isEmpty
    then s.setMet id 0 St.ok else s

/-- Whether a member command was issued for a command in flight. -/
def State.worksFor (s : State) (c : Cmd) (w : MWork) : Bool :=
  let upd := fun (u : Nat) => s.fixupds.any fun x => x.id == u && x.cmd == some c.id
  match w with
  | .read _ j => s.jobs.any fun x => x.id == j && x.cmd == c.id
  | .slabWrite g k _ => (s.stripe? g k).any fun x => x.cmds.contains c.id
  | .fixWrite u _ | .fixRead u _ => upd u
  | _ => false

/-- Whether a command has waited on an unresponsive member beyond 100 ms (R149): a member command of its own is that old, or a read
of it that waits for a member to return. -/
def State.waitsLong (s : State) (c : Cmd) : Bool :=
  (s.mcmds.any fun m => !m.quarantined && s.due (m.issued + msU 100) && s.worksFor c m.work) ||
    s.jobs.any fun j => j.cmd == c.id && j.awaiting.isEmpty && s.due (j.issued + msU 100)

/-- MEMBER_WAIT_NOTICE (R149): a command waiting on a member beyond 100 ms, once. -/
def execMemberWaitNotice (id : Nat) (s : State) : Host.Outcome State Fault Refusal :=
  .next <|
    match s.cmd? id with
    | some c =>
      if c.phase == .dispatched && c.result.isNone && !c.waited && s.waitsLong c then
        (s.updCmd id fun x => { x with waited := true }).raiseCmd (cmdRole c.nv) 11 NOTICE 8 c.nv.nsid
      else s
    | none => s

/-! ### Removal: abort, discard, resets (R155, R156, R160) -/

/-- The command a wait belongs to. -/
def AdminWait.cmd : AdminWait → Nat
  | .turn c _ => c | .create c _ => c | .delete c _ => c | .detach c _ _ => c | .preempt c _ _ => c | .format c _ _ _ => c | .zeroise c _ => c

/-- Remove a command: its places become void, its reads are abandoned; an admitted one counts its withdrawal (R217). -/
def State.dropCmd (s : State) (c : Cmd) : State :=
  let admitted := c.phase != .delivered
  let bytes := match s.ns? c.nv.nsid with | some n => (s.chargeOf n c.nv).bytes | none => 0
  let s : State := if admitted && c.nv.qid != 0 then s.updNs c.nv.nsid fun n => { n with meter := n.meter.withdraw bytes } else s
  let jobs := (s.jobs.filter fun j => j.cmd == c.id).map (·.id)
  let upds := (s.fixupds.filter fun u => u.cmd == some c.id && u.seq == 0).map (·.id)
  let s : State := if (s.epFuncOf c.nv.ctl).isSome then { s with epCmdAt := s.now } else s
  let s := (((s.mirrorNote (.slotGone c.id)).voidFree c.id).epDropFetch c.id).abandonM fun w => match w with
    | .read _ i => jobs.contains i
    | .fixRead u _ => upds.contains u
    | _ => false
  ({ s with
      cmds := s.cmds.filter fun x => x.id != c.id
      fixupds := s.fixupds.filter fun u => !upds.contains u.id
      jobs := s.jobs.filter fun j => j.cmd != c.id
      adminWaits := s.adminWaits.filter fun w => w.cmd != c.id
      ctrls := mapIf (fun (k : Ctrl) => k.aers.contains c.id) (fun k => { k with aers := k.aers.filter (· != c.id) }) s.ctrls }).syncCmds

/-- Discard a command under Table CMD-7. -/
def State.discard (s : State) (c : Cmd) : State := (s.bumpCmd F.CMD_DISCARDED c.nv).dropCmd c

/-- Whether Table CMD-7 lets a command run to its end: a dispatched write, or an admin command under way. -/
def Cmd.runsOn (c : Cmd) : Bool :=
  (c.nv.qid == 0 && c.nv.opc != 0x0C) || (writeOpc c.nv.opc && (c.phase == .dispatched || c.result.isSome))

/-- A command that waits for its turn (R174) has not begun to execute. -/
def State.runsOn (s : State) (c : Cmd) : Bool :=
  c.runsOn && !s.adminWaits.any fun w => match w with | .turn i _ => i == c.id | _ => false

/-- Apply Table CMD-7 to commands; those that run on post no completion: they belong to no controller from now on. The
number of commands discarded comes with it. -/
def State.applyReset (s : State) (p : Cmd → Bool) : Nat × State :=
  let hit := s.cmds.filter p
  let gone := hit.filter fun c => !s.runsOn c
  let s := gone.foldl (fun s c => s.discard c) s
  (gone.length, { s with cmds := mapIf (fun c => p c && s.runsOn c) (fun c => { c with nv := { c.nv with ctl := 4294967296 + c.nv.ctl } }) s.cmds })

/-- Treat one command as a controller reset treats it (R23, Table MEM-3). -/
def State.loseCmd (s : State) (c : Cmd) : State := (s.applyReset fun x => x.id == c.id).2

/-- Window messages of a connection that is torn down: visible ones stand, others are dropped with their bytes (R118, R123). -/
def State.dropWindowOps (s : State) (cid : Nat) : State :=
  let keep := s.winops.filter fun o => o.cid != cid || o.visible
  { s with
    winops := keep
    pends := s.pends.filter fun p => p.cid != cid || keep.any fun o => o.cid == cid && o.msg == p.msg }

/-- Order a connection torn down: NRT sends CLOSE and drains; a queue pair enters ERROR and CM sends DREQ (Tables XPT-7, XPT-8). -/
def State.closeConn (s : State) (cid : Nat) : State :=
  match s.conn? cid with
  | none => s
  | some c =>
    let s := s.dropWindowOps cid
    let off := { c with since := s.now, queue := none, waiting := [], committed := [], asked := [], resp := [], syncPending := none }
    match c.mode with
    | .nrt =>
      if c.state == .error || c.state == .draining then s else
      (s.nrtBare c 6).setConn { off with state := .draining, closeSent := 1, closeAt := s.now }
    | .roce => (s.send (.cmDreq cid)).setConn { off with state := .error }

/-- Reset a fabric controller (R155): Table CMD-7, event local 5, the controller deleted, its connections torn down; a
function of the endpoint keeps its place with its registers cleared and its I/O queues deleted (R132, log entry 31). -/
def State.resetCtrl (s : State) (idx : Nat) : State :=
  match s.ctrl? idx with
  | none => s
  | some k =>
    let (n, s) := s.applyReset fun c => c.nv.ctl == idx
    let s := s.raiseCmd (idx % 4) 5 INFO 2 ((idx + 1) + 65536 * min 65535 n)
    let s := (k.queues.filterMap (·.conn)).foldl (fun s cid => s.closeConn cid) s
    if k.func.isSome then
      let s : State := match s.epFuncOf idx with
        | some f => s.updEpf f fun x => { x with held := [] }
        | none => s
      s.updCtrl idx fun x => { x with
        cc := 0, csts := 0, queues := x.queues.filter fun q => q.qid == 0, aers := [], notices := [], unread := [], features := [],
        changed := [], resvLog := [], resvCount := 0,
        shutdown := false }
    else { s.mirrorNote (.ctrlGone idx) with ctrls := s.ctrls.filter fun x => x.index != idx, freedCtrls := (idx, s.now) :: s.freedCtrls.filter fun p => p.1 != idx }

/-- The connection of a queue is gone (R75, R156): queue 0 resets the controller; an I/O queue's commands are treated as Table
CMD-7 gives and the queue ends. -/
def State.queueDown (s : State) (ctl qid : Nat) : State :=
  if qid = 0 then s.resetCtrl ctl else
  let (_, s) := s.applyReset fun c => c.nv.ctl == ctl && c.nv.qid == qid
  s.updCtrl ctl fun k => { k with queues := k.queues.filter fun q => q.qid != qid }

/-- The command path's part of a connection leaving service. -/
def State.connDown (s : State) (c : Conn) : State :=
  let s := s.dropWindowOps c.cid
  match c.queue with
  | some (k, q) => s.queueDown k q
  | none => s

/-- KEEP_ALIVE_EXPIRY (R157): the keep-alive timer of a controller, in units of 100 ms. -/
def execKeepAliveExpiry (ctl : Nat) (s : State) : Host.Outcome State Fault Refusal :=
  .next <|
    match s.ctrl? ctl with
    | some k => if 0 < k.kato && s.due (k.lastCmd + msU 100 * k.kato) then s.resetCtrl ctl else s
    | none => s

/-- SHUTDOWN_COMPLETE (R158): no command of a shut-down controller remains in flight. -/
def execShutdownComplete (ctl : Nat) (s : State) : Host.Outcome State Fault Refusal :=
  .next <|
    match s.ctrl? ctl with
    | some k =>
      if k.shutdown && bits k.csts 3 2 != 2 && !(s.cmds.any fun c => c.nv.ctl == ctl || c.nv.ctl == 4294967296 + ctl) then
        (s.updCtrl ctl fun x => { x with csts := x.csts - bits x.csts 3 2 * 4 + 8 }).raiseCmd (ctl % 4) 12 INFO 9 (ctl + 1)
      else s
    | none => s

/-! ### Rows that deliver an I/O command -/

/-- NVME_FLUSH (R154). -/
def execNvmeFlush (v : NvmeCmd) (s : State) : Host.Outcome State Fault Refusal := .next (s.deliverIo { v with opc := 0x00 })
/-- NVME_WRITE (R140). -/
def execNvmeWrite (v : NvmeCmd) (s : State) : Host.Outcome State Fault Refusal := .next (s.deliverIo { v with opc := 0x01 })
/-- NVME_READ (R153). -/
def execNvmeRead (v : NvmeCmd) (s : State) : Host.Outcome State Fault Refusal := .next (s.deliverIo { v with opc := 0x02 })
/-- NVME_COMPARE (R135). -/
def execNvmeCompare (v : NvmeCmd) (s : State) : Host.Outcome State Fault Refusal := .next (s.deliverIo { v with opc := 0x05 })
/-- NVME_WRITE_ZEROES (R135). -/
def execNvmeWriteZeroes (v : NvmeCmd) (s : State) : Host.Outcome State Fault Refusal := .next (s.deliverIo { v with opc := 0x08 })
/-- NVME_DATASET_MANAGEMENT (R135). -/
def execNvmeDatasetManagement (v : NvmeCmd) (s : State) : Host.Outcome State Fault Refusal := .next (s.deliverIo { v with opc := 0x09 })
/-- NVME_VERIFY (R135). -/
def execNvmeVerify (v : NvmeCmd) (s : State) : Host.Outcome State Fault Refusal := .next (s.deliverIo { v with opc := 0x0C })

end Sys2Proof.Machine
end

