-- ==== Sys2Proof/Machine/Window.lean ====
section
/-!
DEFINITION. Machine/Window.lean: memory keys and windows (04): key checks, publication and revocation, delivery of window messages; fills and
write-backs of cache lines; burst failures; enabling, disabling and maintenance of the cache (13).
-/

namespace Sys2Proof.Machine

open NvmeFields

/-! ### Admin commands -/

/-- Length in bytes that a Get Log Page asks for (log entry 24). -/
def logLen (v : NvmeCmd) : Nat := 4 * (bits v.cdw10 31 16 + 65536 * (v.cdw11 % 65536) + 1)

/-- Whether an admin command transfers more than MDTS: a Get Log Page or a Firmware Image Download of more than 1 MiB (R135). -/
def aboveMdts (v : NvmeCmd) : Bool :=
  v.qid == 0 && ((v.opc == 0x02 && 1048576 < logLen v) || (v.opc == 0x11 && 1048576 < 4 * (v.cdw10 % 2 ^ 32 + 1)))

/-- Deliver an admin or Fabrics command and execute it: an opcode that is not executed (R137, R138), authentication (R180), a function
without identity (R176), the common fields and the data description (R136, R139), and R133 first, as Table CMD-8 orders them. -/
def State.adminIf (s : State) (v : NvmeCmd) (known : Bool) (k : Cmd → State → State) : State :=
  let full := s.overQueue v
  match s.accept v with
  | (none, s) => s
  | (some id, s) =>
    match s.cmd? id with
    | none => s
    | some c =>
      if !known then s.finish id 0 St.opcode
      else if s.needsAuth v && !(v.opc == 0x7F && (v.fctype == 5 || v.fctype == 6)) then s.finish id 0 St.authRequired
      else if c.ident.isNone && v.opc != 0x06 then s.finish id 0 St.denied
      else if s.commonField v || aboveMdts v then s.finish id 0 St.field
      else match sglCheck (s.onEndpoint v) (toHostCmd v) 0 v.sgl with
        | some st => s.finish id 0 st
        | none => if full then s.finish id 0 St.sequence else k c s

/-- Deliver an admin or Fabrics command that the controller executes, and execute it. -/
def State.admin (s : State) (v : NvmeCmd) (k : Cmd → State → State) : State := s.adminIf v true k

/-- Return data to the host buffer of a command. -/
def State.hostBuf (s : State) (c : Cmd) (len data : Nat) : State := s.toHost c.nv.ctl (.hostData c.nv.ctl c.nv.qid c.nv.cid len data)

/-! ### Keys (R107, R115) -/

/-- The key of a window. -/
def Window.key (w : Window) : Nat := w.index * 256 + w.tag

/-- The window of an index. -/
def State.window? (s : State) (i : Nat) : Option Window := s.windows.find? fun w => w.index == i

def State.updWindow (s : State) (i : Nat) (f : Window → Window) : State := { s with windows := mapIf (fun w => w.index == i) f s.windows }

/-- Whether the attached-memory cache takes window accesses: enabled, no disable pending. -/
def State.cacheOpen (s : State) : Bool := s.isSet F.MEM_CACHE_CTL_EN && !s.isSet F.MEM_CACHE_CTL_DIS_PENDING

/-- The controller a connection is bound to. -/
def Conn.ctl (c : Conn) : Option Nat := c.queue.map (·.1)

/-- The first failing check of Table KEY-5 for an access: kind 0 read, 1 write, 2 atomic, 3 commit; none when all pass. -/
def State.keyCheck (s : State) (c : Conn) (kind key addr len : Nat) : Option Nat :=
  let ident := (c.ctl.bind s.ctrl?).bind (·.ident)
  match s.window? (key / 256) with
  | none => some 1
  | some w =>
    let n := s.ns? w.nsid
    let need := match kind with | 0 => 0 | 2 => 2 | _ => 1
    let small := if kind == 3 then 1 ≤ len && len ≤ 2 ^ 40 else 1 ≤ len && len ≤ 1048576
    let inside := w.base ≤ addr && addr + len ≤ w.base + w.len
    let allowed := match n, ident with
      | some n, some i => resvAllows n.resv i (kind != 0)
      | _, _ => false
    if !w.valid || 65536 ≤ w.index then some 1
    else if w.tag != key % 256 then some 2
    else if !(ident == some w.host || (w.host == 0xFFFF && c.ctl.any fun k => s.nsAttached k w.nsid)) then some 3
    else if !hasBit w.rights need then some 4
    else if !small || !inside || (kind == 2 && addr % 8 != 0) then some 5
    else if !(n.any s.nsServes) || !allowed || !s.cacheOpen then some 6
    else none

/-- Count a failed key check (Tables KEY-9 and KEY-10). -/
def State.keyFail (s : State) (c : Conn) (key check : Nat) : State :=
  let r := c.role
  let f := match check with
    | 1 => F.XPT_KEY_INVALID | 2 => F.XPT_KEY_TAG | 3 => F.XPT_KEY_HOST | 4 => F.XPT_KEY_RIGHTS | 5 => F.XPT_KEY_BOUNDS
    | _ => F.XPT_KEY_SERVICE
  ((((s.bump (f r)).wr (F.XPT_KEY_LAST_KEY r) key).wr (F.XPT_KEY_LAST_INFO_CID r) c.cid).wr (F.XPT_KEY_LAST_INFO_CHECK r) check).wr
    (F.XPT_KEY_LAST_INFO_MODE r) (bit (c.mode == .roce))

/-! ### Delivery of window messages (R116, R203, R206) -/

/-- What a window message is charged (Tables QOS-4 and QOS-5). -/
def State.winCharge (s : State) (n : Namespace) (k : WinKind) (byte len : Nat) : Charge :=
  let blocks := if len = 0 then 0 else (byte + len - 1) / 4096 + 1 - byte / 4096
  match k with
  | .read => ⟨len, 0, 1, blocks * costUnit⟩
  | .write .. => ⟨len, len, 1, s.logWriteCost n.group blocks⟩
  | .commit _ => ⟨0, 0, 1, 0⟩
  | _ => ⟨8, 8, 1, costUnit⟩

/-- A window message is delivered: charged and counted; a WRITE goes to the partner's mirror when paired; a COMMIT covers what is
visible now (R118, R121). -/
def State.deliverWindow (s : State) (c : Conn) (msg key addr len : Nat) (k : WinKind) (ord : Bool) : State :=
  match s.window? (key / 256) with
  | none => s
  | some w => match s.ns? w.nsid with
    | none => s
    | some n =>
      let byte := w.slba * 4096 + (addr - w.base)
      let ch := s.winCharge n k byte len
      let (tc, s) := match c.queue with | some (ctl, q) => s.chargeConn ctl q ch | none => (0, s)
      let tn := if s.qosOn then eligibleAt n.profile n.tats ch else 0
      let s := s.chargeNs n (n.nsid % 4) ch fun m => m.window (match k with | .read => false | _ => true) ch
      let id := s.nextOp
      let waits := match k with | .write .. => s.paired | _ => false
      let op : WinOp := {
        id := id, cid := c.cid, msg := msg, key := key, nsid := n.nsid, dur := w.dur, byte := byte, len := len, kind := k, ord := ord
        readyAt := max tc tn, sent := waits, mirrored := !waits, visible := false, needs := [], original := 0, respMsg := none
        failed := false, acked := false, filled := [] }
      let s : State := { s with winops := s.winops ++ [op], nextOp := id + 1 }
      let s : State := match k with
        | .write .. =>
          let body : MirrorBody := .lines (s.pendsOf op) op.dur op.cid op.msg
          if waits then s.mirror (.visible id) body else s.mirrorAlso body
        | _ => s
      let s : State := if op.blocks.any fun b => s.evicting b.1 b.2 then s.bump F.MEM_EVICT_WAIT else s
      match k with
      | .commit blocks =>
        let ls := (s.openLines [n.nsid]).filter blocks.contains
        let s := s.updOp id fun o => { o with needs := s.needsFor ls }
        ls.foldl (fun s p => s.writeBack p.1 p.2) s
      | _ => s.stepOp id

/-- WINDOW_CEILING_ELIGIBLE (R206): a message withheld until its ceilings permit it goes on. -/
def execWindowCeilingEligible (op : Nat) (s : State) : Host.Outcome State Fault Refusal :=
  .next <|
    match s.op? op with
    | some o => if s.due o.readyAt then s.stepOp op else s
    | none => s

/-- WINDOW_COMMIT_DONE (R121): every covered block is durable, or could not be made so: the ATOMIC_RESP is sent. -/
def execWindowCommitDone (op : Nat) (s : State) : Host.Outcome State Fault Refusal :=
  .next <|
    match s.op? op with
    | some o => match o.kind with
      | .commit _ => if o.needs.isEmpty && !o.acked && s.due o.readyAt then (s.answerOp o 0).retireOp op else s
      | _ => s
    | none => s

/-- WINDOW_WRITEBACK_TIMER (R120): within 50 µs of its first dirtying the write-back of a MIRROR-mode block starts. -/
def execWindowWritebackTimer (nsid lba : Nat) (s : State) : Host.Outcome State Fault Refusal :=
  .next <|
    match s.line? nsid lba with
    | some l => if l.dirty && l.wb.isNone && (l.wbq || l.dur == 0) then s.writeBack nsid lba else s
    | none => s

/-! ### Publication and revocation (R108 to R114) -/

/-- A window descriptor as the host sends it (Table KEY-2). -/
def parseWindow (data ident : Nat) : Window :=
  { index := 0, tag := 0, valid := false, nsid := bytesAt data 4 4, slba := bytesAt data 8 8, len := bytesAt data 16 8,
    base := bytesAt data 24 8, host := bytesAt data 32 2, rights := bytesAt data 34 1, dur := bits (bytesAt data 35 1) 1 0,
    excl := hasBit (bytesAt data 35 1) 2, publisher := ident, revoking := none, freedAt := none }

/-- The 64 bytes of a window's descriptor. -/
def Window.bytes (w : Window) : Nat :=
  putAt 0 4 w.key + putAt 4 4 w.nsid + putAt 8 8 w.slba + putAt 16 8 w.len + putAt 24 8 w.base + putAt 32 2 w.host +
    putAt 34 1 w.rights + putAt 35 1 (w.dur + 4 * bit w.excl)

/-- The lowest index that can be published: never used, or freed at least 10 ms ago (R108; which index, log entry 33). -/
def State.freeWindow? (s : State) : Option Nat :=
  (List.range (min 65536 (s.windows.length + 1))).find? fun i =>
    match s.window? i with
    | none => true
    | some w => !w.valid && w.revoking.isNone && match w.freedAt with | some t => s.due (t + msU 10) | none => false

/-- Refusal reason of a publication, in the order of Table KEY-4 with the index last (log entry 33). -/
def State.publishRefusal (s : State) (n : Namespace) (w : Window) (attr ident : Nat) : Option Nat :=
  if w.len % 4096 != 0 || w.len < 4096 || n.nsze * 4096 < w.slba * 4096 + w.len then some 2
  else if w.base % 4096 != 0 || 2 ^ 64 < w.base + w.len then some 3
  else if w.host != ident && w.host != 0xFFFF then some 4
  else if w.rights = 0 || 7 < w.rights || attr / 8 != 0 then some 5
  else if w.dur = 3 then some 6
  else if !s.cacheOpen then some 7
  else if (s.freeWindow?).isNone then some 1
  else none

/-- Forget an undelivered message: its packets return to unreceived and RENEGE is owed (R82, R83). -/
def Conn.forget (c : Conn) (m : Nat) : Conn :=
  let had := c.received.any fun p => p.2 == m
  { c with reasm := c.reasm.filter fun r => r.msgId != m, received := c.received.filter fun p => p.2 != m, renege := c.renege || had }

/-- Whether a reassembly entry is a window WRITE under a key. -/
def Reasm.keyed (r : Reasm) (key : Nat) : Bool := match r.ext with | .keyed k _ _ => r.kind == 2 && k == key | _ => false

/-- A window whose publication the partner does not hold yet (R109). -/
def Window.pending (w : Window) : Bool := !w.valid && w.revoking.isNone && w.freedAt.isNone

/-- A revocation takes effect (R113): the key fails from now on, incomplete WRITEs under it are discarded with their bytes, and
what is visible and not durable of a COMMIT region is written back. A second order for the window ends with the first. -/
def State.revokeNow (s : State) (i : Nat) (cmd : Option Nat) : State :=
  match s.window? i with
  | none => s
  | some w =>
    if !w.valid then
      match w.revoking, cmd with
      | some l, some id => s.updWindow i fun x => { x with revoking := some (l ++ [id]) }
      | some _, none => s
      | none, some id => s.finish id 0 St.ok
      | none, none => if w.pending then s.updWindow i fun x => { x with revoking := some [] } else s
    else
    let s := s.updWindow i fun x => { x with valid := false, revoking := some cmd.toList }
    let cut := s.conns.flatMap fun c => (c.reasm.filter fun r => r.keyed w.key).map fun r => (c.cid, r.msgId)
    let s : State := { s with
      conns := s.conns.map fun c => (c.reasm.filter fun r => r.keyed w.key).foldl (fun c r => c.forget r.msgId) c
      pends := s.pends.filter fun p => !cut.contains (p.cid, p.msg) }
    let commit := fun (p : Nat × Nat) => (s.line? p.1 p.2).any (fun l => l.dirty && l.dur == 2) ||
      s.winops.any fun o => o.visible && o.dur == 2 && (s.pendsOf o).any fun x => x.nsid == p.1 && x.lba == p.2
    let dirty := (s.dirtyIn w.nsid [(w.slba, w.len / 4096)]).filter commit
    let s : State := match cmd with
      | some id => s.updCmd id fun c => { c with dirtyWait := s.needsFor dirty }
      | none => s
    (dirty.foldl (fun s p => s.writeBack p.1 p.2) s).syncCache

/-- Revoke a window: at once, or in paired operation when the partner's copy holds the change (R109). -/
def State.revoke (s : State) (i : Nat) (cmd : Option Nat) : State :=
  match s.window? i with
  | none => s
  | some w =>
    let body : MirrorBody := .window { w with valid := false, freedAt := some s.now }
    if s.paired then s.mirror (.window i cmd true) body else (s.revokeNow i cmd).mirrorAlso body

/-- The controller's own revocations (R114). -/
def State.revokeWhere (s : State) (p : Window → Bool) : State :=
  (s.windows.filter fun w => (w.valid || w.pending) && p w).foldl (fun s w => s.revoke w.index none) s

/-- SET_FEATURES_WINDOW_PUBLISH (R110, R111). -/
def execSetFeaturesWindowPublish (v : NvmeCmd) (s : State) : Host.Outcome State Fault Refusal :=
  .next <| s.admin { v with opc := 0x09 } fun c s =>
    let i := c.ident.getD 0
    let w := parseWindow v.data i
    if hasBit v.cdw10 31 then s.finish c.id 0 St.notSaveable
    else match s.ns? w.nsid with
    | none => s.finish c.id 0 St.nsInvalid
    | some n =>
      let rest := bytesAt v.data 36 28
      if !s.nsAttached v.ctl w.nsid then s.finish c.id 0 St.nsInvalid
      else match s.publishRefusal n w (bytesAt v.data 35 1) i with
      | some r => s.finish c.id r St.field
      | none =>
        if rest != 0 then s.finish c.id 5 St.field else
        let x := (s.freeWindow?).getD 0
        let old := ((s.window? x).map (·.tag)).getD 0
        let tag := if old = 255 then 1 else old + 1
        let w := { w with index := x, tag := tag, valid := !s.paired }
        let s : State := { s with windows := w :: s.windows.filter fun y => y.index != x }
        let body : MirrorBody := .window { w with valid := true }
        if s.paired then s.mirror (.window x (some c.id) false) body else (s.finish c.id w.key St.ok).mirrorAlso body

/-- SET_FEATURES_WINDOW_REVOKE (R112, R113). -/
def execSetFeaturesWindowRevoke (v : NvmeCmd) (s : State) : Host.Outcome State Fault Refusal :=
  .next <| s.admin { v with opc := 0x09 } fun c s =>
    let key := bytesAt v.data 0 4
    if hasBit v.cdw10 31 then s.finish c.id 0 St.notSaveable
    else if v.cdw11 % 16 != 2 then s.finish c.id 9 St.field
    else match s.window? (key / 256) with
    | some w =>
      if w.valid && w.key == key && some w.publisher == c.ident then
        if s.nsAttached v.ctl w.nsid then s.revoke w.index (some c.id) else s.finish c.id 0 St.nsInvalid
      else s.finish c.id 8 St.field
    | none => s.finish c.id 8 St.field

/-- GET_FEATURES_WINDOW (R110, R112). -/
def execGetFeaturesWindow (v : NvmeCmd) (s : State) : Host.Outcome State Fault Refusal :=
  .next <| s.admin { v with opc := 0x0A } fun c s =>
    match s.window? (v.cdw11 / 256) with
    | some w =>
      if w.valid && w.key == v.cdw11 && some w.publisher == c.ident then (s.hostBuf c 64 w.bytes).finish c.id 0 St.ok
      else s.finish c.id 8 St.field
    | none => s.finish c.id 8 St.field

/-- WINDOW_REVOKE_COMPLETE (R108, R113): the reads accepted before are answered and the write-backs done. -/
def execWindowRevokeComplete (index : Nat) (s : State) : Host.Outcome State Fault Refusal :=
  .next <|
    match s.window? index with
    | none => s
    | some w => match w.revoking with
      | none => s
      | some cmds =>
        let reading := s.winops.any fun o => o.key == w.key && o.kind == .read && !o.acked
        let writing := cmds.any fun id => (s.cmd? id).any fun c => !c.dirtyWait.isEmpty
        if reading || writing then s else
        let s := s.updWindow index fun x => { x with revoking := none, freedAt := some s.now }
        cmds.foldl (fun s id => s.finish id 0 St.ok) s

/-! ### Fills and write-backs (R373, R381, R383, R387) -/

/-- A window read or atomic that covers a lost block gets no answer: NRT tears the connection down, compatible mode answers a
Remote Operational Error NAK and the queue pair enters ERROR (R387). -/
def State.failReads (s : State) (nsid lba : Nat) : State :=
  let hit := s.winops.filter fun o => !o.visible && o.blocks.contains (nsid, lba) &&
    match o.kind with | .read | .cas .. | .fadd _ => true | _ => false
  hit.foldl (fun s o =>
    match s.conn? o.cid with
    | none => s
    | some c =>
      let s : State := { s with winops := s.winops.filter fun x => x.id != o.id }
      match c.mode with
      | .nrt => match c.queue with
        | some (k, q) => (s.closeConn o.cid).queueDown k q
        | none => s.closeConn o.cid
      | .roce => ((s.roceSend c (.nak o.msg 3) 1).setConn { c with state := .error, since := s.now }).connDown c) s

/-- A dirty line is lost with no partner mirror (R387). -/
def State.lineLost (s : State) (nsid lba : Nat) : State :=
  if (s.line? nsid lba).any (·.dirty) then ((s.loseLine nsid lba).raise 4 7 ERROR 6 nsid).failReads nsid lba else s

/-- Number of populated channels. -/
def State.channels (s : State) : Nat := ((List.range 8).filter fun i => s.isSet (F.MEM_CHSTAT_TRAINED i)).length

/-- Channel of an attached-memory address (R370). -/
def State.channelOf (s : State) (pa : Nat) : Nat :=
  let n := max 1 s.channels
  let g := pa / 256
  (g % n) ^^^ (g / n % n)

/-- Offset within its channel of an attached-memory address (R370). -/
def State.channelOfs (s : State) (pa : Nat) : Nat := pa / 256 / max 1 s.channels * 256 + pa % 256

/-- Where an access to an address goes: a retired frame is redirected to its frame of the spare region (R374; the spare frames are taken in
order, DESIGN CHOICE, log entry 137). -/
def State.frameAt (s : State) (pa : Nat) : Nat :=
  match s.frames.findIdx? fun f => f.1 == pa / 4096 with
  | some i => s.rd (F.MEM_RGN_BASEr_MIB 13) * 1048576 + 4096 * i + pa % 4096
  | none => pa

/-- Region of an attached-memory address. -/
def State.regionOf (s : State) (pa : Nat) : Option Nat :=
  (List.range 15).find? fun r => let b := s.rd (F.MEM_RGN_BASEr_MIB r); let z := s.rd (F.MEM_RGN_SIZEr_MIB r)
    b * 1048576 ≤ pa && pa < (b + z) * 1048576

/-- Retire a frame that failed twice at once, or for the second time within 24 h (R374); a channel with more than 1,024 failing
frames in 1 s is a controller fault (R376). -/
def State.frameFail (s : State) (pa : Nat) (twice : Bool) : State :=
  let fr := pa / 4096
  let ch := s.channelOf pa
  let s : State := { s with frameFails := (fr, s.now) :: s.frameFails.filter fun p => !s.due (p.2 + hourU 24) }
  let again := 2 ≤ (s.frameFails.filter fun p => p.1 == fr).length
  let s : State :=
    if (twice || again) && !(s.frames.any fun p => p.1 == fr) then
      if s.frames.length < 4096 then
        ({ s with frames := s.frames ++ [(fr, ch)] }.bump F.MEM_RETIRED).raise 4 5 NOTICE 4 fr
      else s.memNotice 6 ERROR 5 ch
    else s
  let recent := (((s.frameFails.filter fun p => !s.due (p.2 + secU 1)).map (·.1)).dedup.filter fun f => s.channelOf (f * 4096) == ch).length
  if 1024 < recent then (s.raise 4 4 FATAL 2 ch).controllerFault else s

/-- Recover a burst by the rule of its region (Table MEM-3). -/
def State.recoverBurst (s : State) (b : BurstFail) : State :=
  match s.regionOf b.pa with
  | some 0 =>
    let first := (b.pa - s.rd (F.MEM_RGN_BASEr_MIB 0) * 1048576) / 16
    let zero := fun (p : EvRec × Nat) =>
      let i := (s.evlog.copied - 1 - p.2) % 1048576
      if first ≤ i && i < first + 4 then (⟨0, 0, 0, 0, 0⟩ : EvRec) else p.1
    ({ s with evlog := { s.evlog with memLog := s.evlog.memLog.zipIdx.map zero } }).bumpBy F.CTL_EVLOG_DROP 4
  | some 2 => if s.paired then s else b.what.foldl (fun s w => s.revoke w.1 none) s
  | some 3 => if s.paired then s else b.what.foldl (fun s w => match s.conn? w.1 with
      | some c => (s.closeConn w.1).connDown c
      | none => s) s
  | some 4 => if s.paired then s else b.what.foldl (fun s w => match s.cmd? w.1 with
      | some c => s.loseCmd c
      | none => s) s
  | some 5 => if s.paired then s else { s with msnapBad := (s.msnapBad ++ b.what).dedup }
  | some 10 => b.what.foldl (fun s w =>
      let s : State := { s with pends := s.pends.filter fun p => (p.cid, p.msg) != w, winops := s.winops.filter fun o => (o.cid, o.msg) != w }
      match s.conn? w.1 with
      | some c => s.setConn (c.forget w.2)
      | none => s) s
  | some 12 => match b.line with
    | none => s
    | some (nsid, lba) => match s.line? nsid lba with
      | none => s
      | some l =>
        if !l.dirty then (s.updLine nsid lba fun x => { x with valid := false, filling := false }).startFill nsid lba
        else if s.paired then s
        else s.lineLost nsid lba
  | some 14 => if b.pa < (s.rd (F.MEM_RGN_BASEr_MIB 14) + 64) * 1048576 then { s with imgDamaged := true } else s
  | _ => s

/-- The check bytes of a burst (Table MEM-2): PCRC over the plaintext and the address, CCRC over the ciphertext, 4 bytes of 0. -/
def burstCheck (plain cipher pa : Nat) : Nat :=
  putAt 0 8 (crc64 (toBytes plain 64 ++ toBytes pa 8)) + putAt 8 4 (crc32c (toBytes cipher 64))

/-- The plaintext of a burst: XTS under the memory key, the tweak its address div 64 (R371). -/
def State.burstPlain (s : State) (pa cipher : Nat) : Nat := xtsDec (s.tru.memKey.getD 0) (pa / 64) 4 cipher

/-- What MEM finds of one read of a burst (R373): 0 it passes, 1 a DRAM failure, 2 a path failure. -/
def State.burstFound (s : State) (pa : Nat) (r : BurstRead) : Nat :=
  if bytesAt r.check 8 4 != crc32c (toBytes r.cipher 64) || bytesAt r.check 12 4 != 0 then 1
  else if bytesAt r.check 0 8 != bytesAt (burstCheck (s.burstPlain pa r.cipher) r.cipher pa) 0 8 then 2 else 0

/-- A burst that MEM reads: one that fails its check is counted, read again, and recovered where the second read fails (R372 to
R374). -/
def State.burstFail (s : State) (b : BurstFail) : State :=
  match s.burstFound b.pa b.first with
  | 0 => s
  | k =>
    let s := s.bump (if k = 1 then F.MEM_DET_DRAM else F.MEM_DET_PATH)
    let again := s.burstFound b.pa b.second == 0
    let s : State := if again then s.bump F.MEM_REREAD_OK else (s.bump F.MEM_RECOVERED).recoverBurst b
    s.frameFail b.pa (!again)

/-- The content a fill brings, none when the block is lost. -/
def State.fillContent (s : State) (n : Namespace) (lba : Nat) : Option Blk :=
  match s.source n lba with
  | .now b => some b
  | .lost => none
  | .member b => if (s.planRead s.badBlks b).isSome then some (s.memberContent n lba b) else none

/-- LINE_FILL_DONE (R373, R381): a line has its block, found by a lookup whose misses are read first (R270); what waited for it goes on. -/
def execLineFillDone (nsid lba : Nat) (fails : List BurstFail) (s : State) : Host.Outcome State Fault Refusal :=
  .next <|
    let s := fails.foldl (fun s b => s.burstFail b) s
    match s.line? nsid lba, s.ns? nsid with
    | some l, some n =>
      if !l.filling then s else
      let miss := s.missing n [lba]
      if !miss.isEmpty then s.loadObjs miss else
      let s := s.lookups n [lba]
      match s.fillContent n lba with
      | some b => (s.updLine nsid lba fun x => { x with valid := true, filling := false, data := b.data }).winProgress
      | none => ((s.dropLine nsid lba).failReads nsid lba).winProgress
    | _, _ => s

/-- LINE_WRITEBACK_DONE (R383, R385, R386): the write-back has met its completion conditions: the line is clean unless a merge
became visible since; what waited for it goes on. -/
def execLineWritebackDone (nsid lba : Nat) (s : State) : Host.Outcome State Fault Refusal :=
  .next <|
    match s.line? nsid lba with
    | none => s
    | some l =>
      if !(l.wb.isSome && l.wbMet) then s else
      let s := s.updLine nsid lba fun x => { x with wb := none, wbMet := false, dirty := x.redirtied, redirtied := false }
      let s := s.needsMet nsid lba l.wbVer
      let again := s.lines.filter fun x => x.dirty && x.wb.isNone && (x.wbq || s.lineWanted x.nsid x.lba || s.evicting x.nsid x.lba)
      let s := again.foldl (fun s x => s.writeBack x.nsid x.lba) s
      s.freeEvicted.winProgress

/-! ### Enable, disable and maintenance (R389 to R393) -/

/-- Refuse an enable. -/
def State.refuseEnable (s : State) : State := (s.wr F.MEM_CACHE_CTL_EN_REFUSED 1).raise 4 9 NOTICE 8 0

/-- Whether this unit's role lets the cache be switched (R391). -/
def State.cacheRole (s : State) : Bool := s.halRole == 1 || s.halRole == 3

/-- A write of SET_EN. -/
def State.cacheSetEn (s : State) : State :=
  if !s.cacheRole || s.isSet F.MEM_CACHE_CTL_DIS_PENDING then s.refuseEnable
  else if s.isSet F.MEM_CACHE_CTL_EN then s
  else if s.isSet F.MEM_CACHE_CTL_INV_DONE then
    let s := s.wr F.MEM_CACHE_CTL_EN 1
    s.mirrorNote (.cache true)
  else s.refuseEnable

/-- Write every dirty line back (R390 step 3, R387). -/
def State.flushAll (s : State) : State := s.oldestDirty.foldl (fun s l => s.writeBack l.nsid l.lba) s

/-- A write of CLR_EN. -/
def State.cacheClrEn (s : State) : State :=
  if !s.cacheRole then s.refuseEnable
  else
    let s := s.wr F.MEM_CACHE_CTL_INV_DONE 0
    if s.isSet F.MEM_CACHE_CTL_EN && !s.isSet F.MEM_CACHE_CTL_DIS_PENDING then
      let s := s.wr F.MEM_CACHE_CTL_DIS_PENDING 1
      if s.maint.isNone then s.flushAll else s
    else s

/-- CACHE_SET_EN (R389, R391). -/
def execCacheSetEn (s : State) : Host.Outcome State Fault Refusal := .next (s.atWindow 4 0x1050 16 16 fun s => s.cacheSetEn)

/-- CACHE_CLR_EN (R390, R391). -/
def execCacheClrEn (s : State) : Host.Outcome State Fault Refusal := .next (s.atWindow 4 0x1050 32 32 fun s => s.cacheClrEn)

/-- CACHE_DISABLE_COMPLETE (R390): every write-back has met its conditions. -/
def execCacheDisableComplete (s : State) : Host.Outcome State Fault Refusal :=
  .next <|
    let busy := s.lines.any (fun l => l.dirty || l.busy) || s.winops.any fun o => o.visible && !(s.pendsOf o).isEmpty
    if s.isSet F.MEM_CACHE_CTL_DIS_PENDING && s.maint.isNone && !busy then
      let s : State := { s with lines := [], sectors := [] }
      let s := (((s.wr F.MEM_CACHE_CTL_EN 0).wr F.MEM_CACHE_CTL_DIS_PENDING 0).raise 4 8 INFO 7 0).syncCache
      s.mirrorNote (.cache false)
    else s

/-- The range of a maintenance operation, and whether it holds a line. -/
def Maint.covers (m : Maint) (nsid lba : Nat) : Bool :=
  m.all || (nsid == m.nsid && m.slba ≤ lba && (m.nlb == 0 || lba < m.slba + m.nlb))

/-- Start a maintenance operation (R392, R393). -/
def State.maintStart (s : State) (op : Nat) (all : Bool) : State :=
  if s.isSet F.MEM_MNT_CMD_BUSY || s.isSet F.MEM_CACHE_CTL_DIS_PENDING || op = 0 || op = 3 then s.wr F.MEM_MNT_CMD_REFUSED 1
  else
    let m : Maint := {
      op := op, all := all, nsid := s.rd F.MEM_MNT_NSID_NSID,
      slba := s.rd64 F.MEM_MNT_SLBA_LO_SLBA F.MEM_MNT_SLBA_HI_SLBA, nlb := s.rd F.MEM_MNT_NLB_NLB, left := [] }
    let dirty := (s.lines.filter fun l => l.dirty && m.covers l.nsid l.lba).map fun l => (l.nsid, l.lba)
    let s : State := { s.wr F.MEM_MNT_CMD_BUSY 1 with maint := some { m with left := s.needsFor dirty } }
    dirty.foldl (fun s p => s.writeBack p.1 p.2) s

/-- MNT_CLEAN (R393). -/
def execMntClean (all : Bool) (s : State) : Host.Outcome State Fault Refusal := 
  .next (s.atWindow 4 0x1060 (9 + 4 * bit all) 15 fun s => s.maintStart 1 all)

/-- MNT_INVALIDATE (R393). -/
def execMntInvalidate (all : Bool) (s : State) : Host.Outcome State Fault Refusal := 
  .next (s.atWindow 4 0x1060 (10 + 4 * bit all) 15 fun s => s.maintStart 2 all)

/-- MNT_COMPLETE (R389, R393): every line of the range has been processed. -/
def execMntComplete (s : State) : Host.Outcome State Fault Refusal :=
  .next <|
    match s.maint with
    | none => s
    | some m =>
      if !m.left.isEmpty then s else
      let en := s.isSet F.MEM_CACHE_CTL_EN
      let s : State := { s with maint := none }
      let s : State := if m.op = 2 then
          (s.lines.filter fun l => m.covers l.nsid l.lba && (!en || (!l.dirty && !l.busy))).foldl (fun s l => s.dropLine l.nsid l.lba) s
        else s
      let s : State := if m.op = 2 && m.all && !en then s.wr F.MEM_CACHE_CTL_INV_DONE 1 else s
      let s := ((s.wr F.MEM_MNT_CMD_BUSY 0).raise 4 13 INFO 0x0C m.op).syncCache
      if s.isSet F.MEM_CACHE_CTL_DIS_PENDING then s.flushAll else s

/-- MEM_REGION_READY (R52, R368): a region is initialised, in index order. -/
def execMemRegionReady (r : Nat) (s : State) : Host.Outcome State Fault Refusal :=
  .next <|
    if r < 15 && s.boot.memBad = 0 && (List.range r).all fun i => hasBit (s.rd F.MEM_STAT_READY) i then
      let s := s.setBit F.MEM_STAT_READY r true
      if r = 0 then s.logMarker.evCopy else s
    else s

/-- DIMM_TEMP_CHANGE (R369). -/
def execDimmTempChange (channel celsius : Nat) (s : State) : Host.Outcome State Fault Refusal :=
  .next <|
    if (match s.part with | .zs => 8 | .zl => 4) ≤ channel then s else
    let lim := s.rd F.MEM_CFG_THROTTLE_C
    let was := s.isSet (F.MEM_CHSTAT_THROTTLED channel)
    let s := ((s.wr (F.MEM_CHSTAT_TEMP channel) (min 255 celsius)).wrB (F.MEM_CHSTAT_HOT channel) (85 < celsius)).wrB
      (F.MEM_CHSTAT_THROTTLED channel) (lim < celsius)
    if lim < celsius && !was then s.raise 4 10 NOTICE 9 (channel + 256 * min 255 celsius) else s

end Sys2Proof.Machine
end

