-- ==== Sys2Proof/Machine/Admin.lean ====
section
/-!
DEFINITION. Machine/Admin.lean: Fabrics and admin commands: Connect, properties, authentication, Abort, features, asynchronous events, log
pages and Identify (05, 06, 07).
-/

namespace Sys2Proof.Machine

open NvmeFields

/-! ### Connect (R131, R176, R181, Table CMD-1) -/

/-- Answer a Connect on its connection, counted at the role of the controller it created or names, role 0 where there is none (log entry
128); in paired operation the response leaves once the partner holds its record with the connection's context (R100, R146). -/
def State.connectAnswer (s : State) (cid role : Nat) (v : NvmeCmd) (dw0 : Nat) (st : Status) : State :=
  let s := (s.bump (F.CMD_RX (role % 4))).bump (F.CMD_DONE (role % 4))
  let body : OutBody := .response v.cid dw0 st.sct st.sc st.dnr
  if s.paired && (s.conn? cid).any fun c => c.mode == .nrt then
    let (m, s) := s.commitMsg cid body
    match s.conn? cid with
    | some c => s.mirror (.response cid m body) (s.ctxBody c)
    | none => s
  else s.transmit cid body

/-- The identity of a Connect: registered under the host NQN with the Host Identifier given, and not locked out. -/
def State.connectIdent (s : State) (v : NvmeCmd) : Option Ident :=
  s.idents.find? fun i => i.nqn == bytesAt v.data 512 256 && i.hostId == bytesAt v.data 0 16 && s.due i.refuseUntil

/-- Whether an index is reserved for a function of either unit's endpoint (R475). -/
def State.epReserved (s : State) (i : Nat) : Bool :=
  let vf := s.rd F.EPT_CFG_TOTAL_VF
  (epIndex 0 0 ≤ i + vf && i ≤ epIndex 0 0) || (epIndex 1 0 ≤ i + vf && i ≤ epIndex 1 0)

/-- The lowest controller index that is free, not reserved, and was not freed within 10 ms (R131, R132, R475). -/
def State.freeCtrl? (s : State) : Option Nat :=
  (List.range (min 16384 (s.ctrls.length + s.freedCtrls.length + 1))).find? fun i => !s.epReserved i &&
    (s.ctrl? i).isNone && !(s.freedCtrls.any fun p => p.1 == i && !s.due (p.2 + msU 10))

/-- A queue of a controller as Connect or Create I/O Queue makes it (R144, R199). -/
def Queue.fresh (qid size : Nat) (conn : Option Nat) (auth : Bool) : Queue :=
  { qid := qid, size := size, conn := conn, mode := .free, profile := Profile.zero, tats := Tats.zero, authReq := auth, authed := !auth,
    authStep := 0, authNonce := 0, authTid := 0, authHash := 0, authGroup := 0, authPub := 0, authFail := 0, sqBase := 0, cqid := 0, isCq := false, vector := 0, ien := false, head := 0, tail := 0, phase := true }

/-- Connect of queue 0: a dynamic controller (R131). -/
def State.connectAdmin (s : State) (cid : Nat) (v : NvmeCmd) (i : Ident) : State :=
  match s.freeCtrl? with
  | none => s.connectAnswer cid 0 v 0 St.connBusy
  | some x =>
    let auth := i.auth != 0
    let k : Ctrl := {
      index := x, ident := some i.index, func := none, cc := 0, csts := if s.nssro then 16 else 0,
      kato := ceilDiv (v.cdw12 % 2 ^ 32) 100, lastCmd := s.now, maxIoq := s.rd F.CMD_CFG_MAX_IOQ,
      queues := [Queue.fresh 0 (bits v.cdw11 15 0 + 1) (some cid) auth], aers := [], notices := [], unread := [], features := [],
      changed := [], resvLog := [], resvCount := 0,
      shutdown := false, mem := 0 }
    let s : State := { s with ctrls := s.ctrls ++ [k] }
    let s : State := { s with conns := mapIf (fun c => c.cid == cid) (fun c => { c with queue := some (x, 0) }) s.conns }
    s.connectAnswer cid x v ((x + 1) + 65536 * (if auth then 2 else 0)) St.ok

/-- Connect of an I/O queue. -/
def State.connectIo (s : State) (cid : Nat) (v : NvmeCmd) (i : Ident) : State :=
  let qid := bits v.cdw10 31 16
  let size := bits v.cdw11 15 0
  let cntl := bytesAt v.data 16 2
  match if cntl = 0 then none else s.ctrl? (cntl - 1) with
  | none => s.connectAnswer cid 0 v 0 St.connParam
  | some k =>
    if k.ident != some i.index || k.func.isSome || s.rd F.CMD_CFG_IOQ_DEPTH - 1 < size || k.maxIoq < qid || (k.queue? qid).isSome
    then s.connectAnswer cid k.index v 0 St.connParam
    else
      let auth := i.auth != 0
      let s := s.updCtrl k.index fun x => { x with queues := x.queues ++ [Queue.fresh qid (size + 1) (some cid) auth], lastCmd := s.now }
      let s : State := { s with conns := mapIf (fun c => c.cid == cid) (fun c => { c with queue := some (k.index, qid) }) s.conns }
      s.connectAnswer cid k.index v (cntl + 65536 * (if auth then 2 else 0)) St.ok

/-- What refuses a Connect before its queue is looked at: its fields and data description (R136, R139), a connection already bound, and
what Table CMD-1 asks of every Connect. -/
def State.connectRefusal (s : State) (c : Conn) (v : NvmeCmd) : Option Status :=
  let qid := bits v.cdw10 31 16
  if v.fuse != 0 || v.psdt != 2 then some St.field
  else match sglCheck false false 1024 v.sgl with
  | some st => some st
  | none =>
    if c.queue.isSome then some St.sequence
    else if bytesAt v.data 256 256 != s.subnqn || (qid = 0 && bytesAt v.data 16 2 != 0xFFFF) || (qid = 0 && 31 < bits v.cdw11 15 0)
    then some St.connParam
    else none

/-- A Connect capsule on a connection that is bound to no queue yet. -/
def State.connect (s : State) (cid : Nat) (v : NvmeCmd) : State :=
  match s.conn? cid with
  | none => s
  | some c =>
    match s.connectRefusal c v with
    | some st => s.connectAnswer cid ((c.queue.map (·.1)).getD 0) v 0 st
    | none => match s.connectIdent v with
      | none => s.connectAnswer cid 0 v 0 St.connHost
      | some i => if bits v.cdw10 31 16 = 0 then s.connectAdmin cid v i else s.connectIo cid v i

/-- FABRICS_CONNECT (R131, R176, R181). -/
def execFabricsConnect (cid : Nat) (v : NvmeCmd) (s : State) : Host.Outcome State Fault Refusal := .next (s.connect cid v)

/-! ### Properties (R138, R155, R158, R159) -/

/-- The value of a property; CAP holds MQES, CQR, CSS for the NVM command set and NSSRS; NSSR, CMBLOC, CMBSZ and PMRCAP read 0
(log entry 37). -/
def State.property (s : State) (k : Ctrl) (ofs : Nat) : Option Nat :=
  if ofs = 0 then some (s.rd F.CMD_CFG_IOQ_DEPTH - 1 + 2 ^ 16 + 2 ^ 36 * s.rd F.CMD_CFG_NSSR_EN + 2 ^ 37)
  else if ofs = 8 then some 0x00020000
  else if ofs = 0x14 then some k.cc
  else if ofs = 0x1C then some k.csts
  else if ofs = 0x20 || ofs = 0x38 || ofs = 0x3C || ofs = 0xE00 then some 0
  else none

/-- PROPERTY_GET (R138). -/
def execPropertyGet (v : NvmeCmd) (s : State) : Host.Outcome State Fault Refusal :=
  .next <| s.admin { v with opc := 0x7F, fctype := 4 } fun c s =>
    match (s.ctrl? v.ctl).bind fun k => s.property k v.cdw11 with
    | some x => s.finish c.id (if v.cdw10 % 8 = 1 then x % 2 ^ 64 else x % 2 ^ 32) St.ok
    | none => s.finish c.id 0 St.field

/-- A write of CC: enabling sets CSTS.RDY; NSSRO is cleared by writing one (log entry 37). -/
def State.writeProperty (s : State) (c : Cmd) (ofs val : Nat) : State :=
  if ofs = 0x14 then
    let s := s.updCtrl c.nv.ctl fun k => { k with
      cc := val % 2 ^ 32, csts := if hasBit val 0 && !hasBit k.csts 0 then k.csts + 1 else k.csts }
    s.finish c.id 0 St.ok
  else if ofs = 0x1C then
    (s.updCtrl c.nv.ctl fun k => { k with csts := if hasBit val 4 && hasBit k.csts 4 then k.csts - 16 else k.csts }).finish c.id 0 St.ok
  else s.finish c.id 0 St.field

/-- PROPERTY_SET (R138): a property written without a reset effect. -/
def execPropertySet (v : NvmeCmd) (s : State) : Host.Outcome State Fault Refusal :=
  .next <| s.admin { v with opc := 0x7F, fctype := 0 } fun c s => s.writeProperty c v.cdw11 (v.cdw12 + 2 ^ 32 * v.cdw13)

/-- PROPERTY_SET_CC_EN_CLEAR (R155): the controller is reset; the Property Set itself ends without a completion. -/
def execPropertySetCcEnClear (v : NvmeCmd) (s : State) : Host.Outcome State Fault Refusal :=
  .next <| s.admin { v with opc := 0x7F, fctype := 0 } fun c s => (s.resetCtrl c.nv.ctl).finish c.id 0 St.ok

/-- A write of CC.SHN at a controller (R158): Table CMD-7 applies to every command of it but the one that writes it. -/
def State.shutdownCtrl (s : State) (ctl shn : Nat) (self : Option Nat) : State :=
  let s := s.updCtrl ctl fun k => { k with
    shutdown := true, cc := k.cc - bits k.cc 15 14 * 2 ^ 14 + shn * 2 ^ 14, csts := k.csts - bits k.csts 3 2 * 4 + 4 }
  if shn = 2 then (s.applyReset fun c => c.nv.ctl == ctl && some c.id != self).2 else s

/-- PROPERTY_SET_CC_SHN (R158). -/
def execPropertySetCcShn (v : NvmeCmd) (s : State) : Host.Outcome State Fault Refusal :=
  .next <| s.admin { v with opc := 0x7F, fctype := 0 } fun c s =>
    let shn := bits v.cdw12 15 14
    if shn = 1 || shn = 2 then (s.shutdownCtrl c.nv.ctl shn (some c.id)).finish c.id 0 St.ok else s.writeProperty c 0x14 v.cdw12

/-- The NVM subsystem reset (R159). -/
def State.nssReset (s : State) (ident : Nat) (role : Nat) : State :=
  let s := (s.raiseCmd role 9 NOTICE 6 ident)
  let s := (s.ctrls.map (·.index)).foldl (fun s i => s.resetCtrl i) s
  { s with nssro := true, ctrls := s.ctrls.map fun k => { k with csts := k.csts - bit (hasBit k.csts 4) * 16 + 16 } }

/-- PROPERTY_SET_NSSR (R159, R177). -/
def execPropertySetNssr (v : NvmeCmd) (s : State) : Host.Outcome State Fault Refusal :=
  .next <| s.admin { v with opc := 0x7F, fctype := 0 } fun c s =>
    if !s.isSet F.CMD_CFG_NSSR_EN || v.cdw12 % 2 ^ 32 != 0x4E564D65 then s.finish c.id 0 St.field
    else if !s.hasPriv v.ctl 1 then s.finish c.id 0 St.denied
    else (s.nssReset (c.ident.getD 0) (cmdRole v)).finish c.id 0 St.ok

/-! ### Authentication (R179 to R181) -/

/-- Steps of an exchange: 0 none, 1 challenge owed, 2 reply awaited, 3 success owed, 4 the host's success awaited, 5 failure owed. -/
def State.setAuth (s : State) (v : NvmeCmd) (f : Queue → Queue) : State := s.updQueue v.ctl v.qid f

/-- The hash functions supported, by the standard's numbers: SHA-256, SHA-384, SHA-512 (R179). -/
def authHashes : List Nat := [1, 2, 3]

/-- The DH groups supported, by the standard's numbers: NULL, ffdhe3072, ffdhe4096, ffdhe6144, ffdhe8192 (R179). -/
def authGroups : List Nat := [0, 2, 3, 4, 5]

/-- Bytes of a hash function's value. -/
def hashLen (h : Nat) : Nat := 16 * (h + 1)

/-- Bytes of a DH group's public value; none for the NULL group. -/
def groupLen (g : Nat) : Nat := match g with | 0 => 0 | 2 => 384 | 3 => 512 | 4 => 768 | _ => 1024

/-- The response a host must give to a challenge: a function of its secret, the exchange and both public values (log entry 5). -/
def authResponse (i : Ident) (q : Queue) (pub : Nat) : Nat :=
  Config.keyed .digest [i.hostSecret, q.authHash, q.authGroup, q.authTid, q.authNonce, q.authPub, pub]

/-- The controller's own proof in a bidirectional exchange. -/
def authProof (i : Ident) (q : Queue) : Nat :=
  Config.keyed .digest [i.ctrlSecret, q.authHash, q.authGroup, q.authTid, q.authNonce, q.authPub]

/-- A DH-HMAC-CHAP_Challenge (NVM Express Base 2.0; PRESUMED, log entry 124). -/
def Queue.challenge (q : Queue) : Nat :=
  putAt 0 1 1 + putAt 1 1 1 + putAt 4 2 q.authTid + putAt 6 1 (hashLen q.authHash) + putAt 8 1 q.authHash + putAt 9 1 q.authGroup +
    putAt 10 2 (groupLen q.authGroup) + putAt 16 (hashLen q.authHash) q.authNonce +
    putAt (16 + hashLen q.authHash) (groupLen q.authGroup) q.authPub

/-- A DH-HMAC-CHAP_Success1, with the controller's proof in a bidirectional exchange. -/
def Queue.success1 (q : Queue) (proof : Option Nat) : Nat :=
  putAt 0 1 1 + putAt 1 1 3 + putAt 4 2 q.authTid + putAt 6 1 (hashLen q.authHash) + putAt 8 1 (bit proof.isSome) +
    putAt 16 (hashLen q.authHash) (proof.getD 0)

/-- An AUTH_Failure1: reason code 1, Authentication failure, with its explanation (R179, R180). -/
def Queue.failure1 (q : Queue) : Nat := putAt 1 1 0xF1 + putAt 4 2 q.authTid + putAt 6 1 1 + putAt 7 1 q.authFail

/-- An identity fails authentication: 8 times within 60 s refuse its Connects for 60 s (R181). -/
def State.authFailed (s : State) (i : Nat) : State :=
  s.updIdent i fun x =>
    let times := s.now :: x.failTimes.filter fun t => !s.due (t + secU 60)
    if 8 ≤ times.length then { x with failTimes := [], refuseUntil := s.now + secU 60 } else { x with failTimes := times }

/-- A transaction fails with an explanation: 1 authentication failed, 3 concatenation mismatch, 4 no usable hash function, 5 no usable DH
group, 7 a message out of place (R179; the numbers are the standard's, log entry 124). -/
def State.authEnds (s : State) (c : Cmd) (i why : Nat) : State :=
  ((s.setAuth c.nv fun x => { x with authStep := 5, authFail := why }).authFailed i).finish c.id 0 St.ok

/-- The teardown that ends a failed transaction (R180, Table XPT-7). -/
def State.authTeardown (s : State) (v : NvmeCmd) : State :=
  match (s.queueOf v).bind (·.conn) with
  | some cid => (s.closeConn cid).queueDown v.ctl v.qid
  | none => s

/-- AUTH_Negotiate (R179): the first hash function and DH group in the host's order that the controller supports (DESIGN CHOICE, log
entry 124). -/
def State.authNegotiate (s : State) (c : Cmd) (i tid scc : Nat) (hashes groups : List Nat) : State :=
  let s := s.setAuth c.nv fun x => { x with authTid := tid }
  if scc != 0 then s.authEnds c i 3
  else match hashes.find? authHashes.contains, groups.find? authGroups.contains with
  | none, _ => s.authEnds c i 4
  | _, none => s.authEnds c i 5
  | some h, some g => (s.setAuth c.nv fun x => { x with authStep := 1, authHash := h, authGroup := g }).finish c.id 0 St.ok

/-- AUTHENTICATION_SEND (R179, R180). -/
def execAuthenticationSend (v : NvmeCmd) (m : AuthMsg) (s : State) : Host.Outcome State Fault Refusal :=
  .next <| s.admin { v with opc := 0x7F, fctype := 5 } fun c s =>
    match s.queueOf v, c.ident.bind s.ident? with
    | some q, some i =>
      match m with
      | .negotiate tid scc hashes groups => s.authNegotiate c i.index tid scc hashes groups
      | .reply r pub =>
        if q.authStep = 2 && r = authResponse i q pub then (s.setAuth v fun x => { x with authStep := 3 }).finish c.id 0 St.ok
        else s.authEnds c i.index (if q.authStep = 2 then 1 else 7)
      | .success2 =>
        if q.authStep = 4 then (s.setAuth v fun x => { x with authStep := 0, authed := true }).finish c.id 0 St.ok
        else s.authEnds c i.index 7
      | .failure2 => (s.finish c.id 0 St.ok).authTeardown v
    | _, _ => s.finish c.id 0 St.field

/-- AUTHENTICATION_RECEIVE (R179, R180): the controller's message; a failure is followed by the connection's teardown. -/
def execAuthenticationReceive (v : NvmeCmd) (s : State) : Host.Outcome State Fault Refusal :=
  .next <| s.admin { v with opc := 0x7F, fctype := 6 } fun c s =>
    match s.queueOf v, c.ident.bind s.ident? with
    | some q, some i =>
      if q.authStep = 1 then
        let (n, s) := s.draw .nonce (2 ^ (8 * hashLen q.authHash))
        let (p, s) := s.draw .nonce (2 ^ (8 * groupLen q.authGroup))
        let q := { q with authStep := 2, authNonce := n, authPub := p }
        ((s.setAuth v fun _ => q).hostBuf c (16 + hashLen q.authHash + groupLen q.authGroup) q.challenge).finish c.id 0 St.ok
      else if q.authStep = 3 then
        let two := i.auth == 2
        let msg := q.success1 (if two then some (authProof i q) else none)
        ((s.setAuth v fun x => { x with authStep := if two then 4 else 0, authed := x.authed || !two }).hostBuf c
          (16 + hashLen q.authHash) msg).finish c.id 0 St.ok
      else if q.authStep = 5 then
        (((s.setAuth v fun x => { x with authStep := 0 }).hostBuf c 8 q.failure1).finish c.id 0 St.ok).authTeardown v
      else s.finish c.id 0 St.field
    | _, _ => s.finish c.id 0 St.field

/-- AUTH_LOCKOUT_EXPIRY (R181): the 60 s of refusal end. -/
def execAuthLockoutExpiry (ident : Nat) (s : State) : Host.Outcome State Fault Refusal :=
  .next <| s.updIdent ident fun x => if 0 < x.refuseUntil && s.due x.refuseUntil then { x with refuseUntil := 0 } else x

/-! ### Keep alive, Abort, unsupported opcodes -/

/-- KEEP_ALIVE (R157). -/
def execKeepAlive (v : NvmeCmd) (s : State) : Host.Outcome State Fault Refusal :=
  .next <| s.admin { v with opc := 0x18 } fun c s => s.finish c.id 0 St.ok

/-- UNSUPPORTED_OPCODE (R135, R137, R138). -/
def execUnsupportedOpcode (v : NvmeCmd) (s : State) : Host.Outcome State Fault Refusal :=
  .next <|
    s.adminIf v false fun c s => s.finish c.id 0 St.opcode

/-- ABORT (R160 to R162). -/
def execAbort (v : NvmeCmd) (s : State) : Host.Outcome State Fault Refusal :=
  .next <| s.admin { v with opc := 0x08 } fun c s =>
    let sqid := bits v.cdw10 15 0
    let cid := bits v.cdw10 31 16
    let aborts := (s.cmds.filter fun x => x.nv.ctl == v.ctl && x.nv.qid == 0 && x.nv.opc == 0x08).length
    if s.rd F.CMD_CFG_ACL + 1 < aborts then s.finish c.id 0 St.abortLimit
    else match s.cmds.find? fun x => x.nv.ctl == v.ctl && x.nv.qid == sqid && x.nv.cid == cid && x.id != c.id with
      | some x =>
        if (x.phase == .delivered || x.phase == .admitted) && x.result.isNone && x.nv.qid != 0 then
          let s := ((s.bump (F.CMD_ABORTED (cmdRole x.nv))).raiseCmd (cmdRole x.nv) 6 INFO 3 ((v.ctl + 1) + 65536 * cid)).dropCmd x
          s.finish c.id 0 St.ok
        else s.finish c.id 1 St.ok
      | none => s.finish c.id 1 St.ok

/-! ### Asynchronous events (R197) -/

/-- ASYNC_EVENT_REQUEST (R197): at most 8 outstanding (Table CMD-4; the status beyond, log entry 38). -/
def execAsyncEventRequest (v : NvmeCmd) (s : State) : Host.Outcome State Fault Refusal :=
  .next <| s.admin { v with opc := 0x0C } fun c s =>
    match s.ctrl? v.ctl with
    | some k =>
      if 8 ≤ k.aers.length then s.finish c.id 0 St.aerLimit
      else (s.updCtrl v.ctl fun x => { x with aers := x.aers ++ [c.id] }).sendNotices v.ctl 1
    | none => s

/-! ### Features (R137, R144, R191, R197) -/

/-- Set a feature's value at a controller. -/
def State.setFeature (s : State) (ctl fid val : Nat) : State :=
  s.updCtrl ctl fun k => { k with features := (fid, val) :: k.features.filter fun p => p.1 != fid }

/-- SET_FEATURES (R137, R191, R197). -/
def execSetFeatures (v : NvmeCmd) (s : State) : Host.Outcome State Fault Refusal :=
  .next <| s.admin { v with opc := 0x09 } fun c s =>
    let fid := v.cdw10 % 256
    let ok := fun (s : State) => s.finish c.id 0 St.ok
    if fid = 0x0B then
      if bits v.cdw11 23 18 != 0 then s.finish c.id 0 St.field else (ok (s.setFeature v.ctl fid v.cdw11)).sendNotices v.ctl 1
    else if fid = 0x0F then ok ((s.updCtrl v.ctl fun k => { k with kato := ceilDiv v.cdw11 100 }).setFeature v.ctl fid v.cdw11)
    else if fid = 0x07 then
      let n := ((s.ctrl? v.ctl).map (·.maxIoq)).getD 1 - 1
      (s.setFeature v.ctl fid (n + 65536 * n)).finish c.id (n + 65536 * n) St.ok
    else if fid = 0x81 then
      let own := (s.identOf v.ctl).any fun i => i.hostId == bytesAt v.data 0 16
      if s.onEndpoint v && own then ok s else s.finish c.id 0 St.field
    else if fid = 0x83 then
      if s.nsAttached v.ctl v.nsid then ok (s.updNs v.nsid fun n => { n with resv := { n.resv with ptpl := hasBit v.cdw11 0 } })
      else s.finish c.id 0 St.nsInvalid
    else if fid = 0x82 then
      if v.nsid = 0xFFFFFFFF then
        ok ((s.nss.filter fun n => s.nsAttached v.ctl n.nsid).foldl (fun s n => s.setFeature v.ctl (fid + 256 * n.nsid) v.cdw11) s)
      else if s.nsAttached v.ctl v.nsid then ok (s.setFeature v.ctl (fid + 256 * v.nsid) v.cdw11)
      else s.finish c.id 0 St.nsInvalid
    else if fid = 0x04 || fid = 0x0A then ok (s.setFeature v.ctl fid v.cdw11)
    else s.finish c.id (if fid = 0xC2 then 9 else 0) St.field

/-- GET_FEATURES (R137). -/
def execGetFeatures (v : NvmeCmd) (s : State) : Host.Outcome State Fault Refusal :=
  .next <| s.admin { v with opc := 0x0A } fun c s =>
    let fid := v.cdw10 % 256
    match s.ctrl? v.ctl with
    | none => s
    | some k =>
      if fid = 0x81 then
        let h := ((s.identOf v.ctl).map (·.hostId)).getD 0
        (s.hostBuf c 16 h).finish c.id 0 St.ok
      else if fid = 0x83 then
        if s.nsAttached v.ctl v.nsid then s.finish c.id (bit ((s.ns? v.nsid).any (·.resv.ptpl))) St.ok else s.finish c.id 0 St.nsInvalid
      else if fid = 0x07 then s.finish c.id ((k.maxIoq - 1) + 65536 * (k.maxIoq - 1)) St.ok
      else if fid = 0x82 then
        if s.nsAttached v.ctl v.nsid then s.finish c.id (k.feature (fid + 256 * v.nsid)) St.ok else s.finish c.id 0 St.nsInvalid
      else if [0x04, 0x0A, 0x0B, 0x0F].contains fid then s.finish c.id (k.feature fid) St.ok
      else s.finish c.id 0 St.field

/-- The I/O queue that a feature C1h names, unless Table CMD-5 refuses it. -/
def State.orderQueue (s : State) (v : NvmeCmd) : Option Nat :=
  let qid := bits v.cdw11 15 0
  if qid = 0 || bits v.cdw11 17 16 = 3 || bits v.cdw11 31 18 != 0 || ((s.ctrl? v.ctl).bind fun k => k.queue? qid).isNone then none
  else some qid

/-- SET_FEATURES_QUEUE_ORDERING (R144): the mode is set when the command completes. -/
def execSetFeaturesQueueOrdering (v : NvmeCmd) (s : State) : Host.Outcome State Fault Refusal :=
  .next <| s.admin { v with opc := 0x09 } fun c s =>
    if hasBit v.cdw10 31 then s.finish c.id 0 St.notSaveable
    else s.finish c.id 0 (if (s.orderQueue v).isSome then St.ok else St.field)

/-- GET_FEATURES_QUEUE_ORDERING (R144). -/
def execGetFeaturesQueueOrdering (v : NvmeCmd) (s : State) : Host.Outcome State Fault Refusal :=
  .next <| s.admin { v with opc := 0x0A } fun c s =>
    match s.orderQueue v with
    | none => s.finish c.id 0 St.field
    | some q =>
      let m : Option QMode := ((s.ctrl? v.ctl).bind fun k => k.queue? q).map (·.mode)
      s.finish c.id (match m with | some .orderedWrites => 1 | some .strict => 2 | _ => 0) St.ok

/-! ### QoS profiles (R198 to R202) -/

/-- The bytes of a profile. -/
def Profile.bytes (p : Profile) : Nat :=
  putAt 0 4 p.maxKbps + putAt 4 4 p.maxWkbps + putAt 8 4 p.maxIops + putAt 12 4 p.minKbps + putAt 16 2 p.weight + putAt 18 1 p.lclass +
    putAt 19 1 p.burst

/-- Reasons 2, 3 and 4 of Table QOS-3 for a profile of a scope, in the order of R201. -/
def State.profileReason (s : State) (scope : Nat) (n : Option Namespace) (p : Profile) : Option Nat :=
  if (scope = 0 && p.weight = 0) || 3 < p.lclass || 100 < p.burst then some 2
  else if (p.maxKbps != 0 && p.maxKbps < p.minKbps) || (p.maxWkbps != 0 && p.maxWkbps < p.minKbps) then some 3
  else match n with
    | some n => if scope = 0 && 0 < p.minKbps && s.overCommitted n.group (s.committedSum n.group n.nsid p.minKbps) then some 4 else none
    | none => none

/-- The fabric I/O queue that SCOPE 1 names. -/
def State.scopeQueue (s : State) (v : NvmeCmd) : Option Queue :=
  let q := bits v.cdw11 31 16
  if q = 0 then none else ((s.ctrl? v.ctl).bind fun k => k.queue? q).bind fun x => if x.conn.isSome then some x else none

/-- Whether CDW11 or the profile breaks a reserved field (reason 1). -/
def profileReserved (v : NvmeCmd) (data : Nat) : Bool :=
  let scope := v.cdw11 % 4
  1 < scope || bits v.cdw11 15 2 != 0 || (scope = 0 && bits v.cdw11 31 16 != 0) || bytesAt data 20 44 != 0

/-- SET_FEATURES_QOS_PROFILE (R200 to R202): the tests in R201's order; the profile is in force once the command completes. -/
def execSetFeaturesQosProfile (v : NvmeCmd) (s : State) : Host.Outcome State Fault Refusal :=
  .next <| s.admin { v with opc := 0x09 } fun c s =>
    let scope := v.cdw11 % 4
    let p := parseProfile v.data
    let n := s.ns? v.nsid
    if profileReserved v v.data then s.finish c.id 1 St.field
    else if scope = 0 && !s.hasPriv v.ctl 0 then s.finish c.id 0 St.denied
    else if scope = 0 && v.nsid = 0xFFFFFFFF then s.finish c.id 7 St.field
    else if scope = 0 && !s.nsAttached v.ctl v.nsid then s.finish c.id 0 St.nsInvalid
    else if scope = 1 && (s.scopeQueue v).isNone then s.finish c.id 6 St.field
    else if scope = 1 && bytesAt v.data 12 7 != 0 then s.finish c.id 5 St.field
    else match s.profileReason scope n p with
      | some r => s.finish c.id r St.field
      | none =>
        let s : State := match scope, n with
          | 0, some x => s.mirrorNote (.ns { x with profile := p } (s.keyTab.find? fun e => e.slot == x.nsid - 1) none)
          | _, _ => s
        s.finish c.id 0 St.ok

/-- GET_FEATURES_QOS_PROFILE (R200, R201). -/
def execGetFeaturesQosProfile (v : NvmeCmd) (s : State) : Host.Outcome State Fault Refusal :=
  .next <| s.admin { v with opc := 0x0A } fun c s =>
    let scope := v.cdw11 % 4
    if profileReserved v 0 then s.finish c.id 1 St.field
    else if scope = 0 && v.nsid = 0xFFFFFFFF then s.finish c.id 7 St.field
    else if scope = 0 && !s.nsAttached v.ctl v.nsid then s.finish c.id 0 St.nsInvalid
    else
      let p := if scope = 0 then (s.ns? v.nsid).map (·.profile) else (s.scopeQueue v).map (·.profile)
      match p with
      | some p => (s.hostBuf c 64 p.bytes).finish c.id 0 St.ok
      | none => s.finish c.id 6 St.field

/-! ### Log pages (R193 to R196, R221) -/

/-- Offset, and RAE of a Get Log Page (log entry 24). -/
def logOfs (v : NvmeCmd) : Nat := v.cdw12 + 2 ^ 32 * v.cdw13
def logRae (v : NvmeCmd) : Bool := hasBit v.cdw10 15
def logLsp (v : NvmeCmd) : Nat := bits v.cdw10 14 8

/-- A notice's page is read with RAE 0: its type may be sent again (R197). -/
def State.pageRead (s : State) (v : NvmeCmd) (page : Nat) : State :=
  if logRae v then s else s.updCtrl v.ctl fun k => { k with unread := k.unread.filter fun n => n.2.2 != page }

/-- Return a log page from an offset on; beyond its end the bytes are zero. -/
def State.returnPage (s : State) (c : Cmd) (page data : Nat) : State :=
  ((s.hostBuf c (logLen c.nv) (bytesAt data (logOfs c.nv) (logLen c.nv))).pageRead c.nv page).finish c.id 0 St.ok

/-- The bank and the order of a descriptor: the valid copy with the higher COUNT (R500), as copy, COUNT and PREFERRED. -/
def Flash.current (x : Flash) : Option (Nat × Nat × Nat) :=
  match x.desc.getD 0 none, x.desc.getD 1 none with
  | some (c, p), some (d, q) => if c < d then some (1, d, q) else some (0, c, p)
  | some (c, p), none => some (0, c, p)
  | none, some (d, q) => some (1, d, q)
  | none, none => none

/-- The preferred bank; A without a valid descriptor (R500). -/
def Flash.preferred (x : Flash) : Nat := match x.current with | some (_, _, p) => p | none => 1

/-- FW_VERSION as 8 ASCII digits: major, minor, patch and build, each as two decimal digits of its value modulo 100. -/
def frsDigits (version : List Nat) : Nat :=
  ((List.range 4).flatMap fun i => let x := version.getD i 0 % 100; [x / 10, x % 10]).zipIdx.foldl (fun a p => a + putAt p.2 1 (0x30 + p.1)) 0

/-- Page 03h, Firmware Slot Information: AFI with the slot booted and the PREFERRED slot when it differs, and FRS1 to FRS3. -/
def State.slotPage (s : State) : Nat :=
  let booted := s.boot.bank + 1
  let next := s.flash.preferred + 1
  s.flash.banks.zipIdx.foldl (fun a p => a + putAt (8 + 8 * p.2) 8 (frsDigits p.1.hdr.version))
    (booted + 16 * if next = booted then 0 else next)

/-- Page 04h, the Changed Namespace List: at most 1,024 NSIDs in ascending order, FFFFFFFFh alone when there are more. -/
def Ctrl.changedPage (k : Ctrl) : Nat :=
  if 1024 < k.changed.length then 0xFFFFFFFF
  else (sortNat k.changed).zipIdx.foldl (fun (a : Nat) (p : Nat × Nat) => a + putAt (4 * p.2) 4 p.1) 0

/-- Page 80h, Reservation Notification: the oldest notification not yet read, its number, and how many follow it (log entry 139). -/
def Ctrl.resvPage (k : Ctrl) : Nat :=
  match k.resvLog with
  | (typ, nsid) :: rest => putAt 0 8 (k.resvCount - rest.length) + putAt 8 1 typ + putAt 9 1 (min 255 rest.length) + putAt 12 4 nsid
  | [] => 0

/-- GET_LOG_PAGE (R137, R191, R197): pages 03h, 04h and 80h; the content of 01h, 02h and 05h is NVM Express's (free values, log entry 39).
A read with RAE 0 empties the Changed Namespace List and takes the oldest reservation notification. -/
def execGetLogPage (v : NvmeCmd) (s : State) : Host.Outcome State Fault Refusal :=
  .next <| s.admin { v with opc := 0x02 } fun c s =>
    let page := v.cdw10 % 256
    let mine := s.ctrl? v.ctl
    let read := fun (s : State) (f : Ctrl → Ctrl) => if logRae v then s else s.updCtrl v.ctl f
    if page = 0x03 then s.returnPage c page s.slotPage
    else if page = 0x04 then
      (read s fun k => { k with changed := [] }).returnPage c page ((mine.map fun (k : Ctrl) => k.changedPage).getD 0)
    else if page = 0x80 then
      (read s fun k => { k with resvLog := k.resvLog.tail }).returnPage c page ((mine.map fun (k : Ctrl) => k.resvPage).getD 0)
    else if page = 0x01 || page = 0x02 || page = 0x05 then
      let (d, s) := s.draw .unstated (2 ^ (8 * logLen v))
      ((s.hostBuf c (logLen v) d).pageRead v page).finish c.id 0 St.ok
    else s.finish c.id 0 St.field

/-- The bytes of page C0h of a namespace (Tables NSA-8 and NSA-9). -/
def Namespace.lostPage (n : Namespace) : Nat :=
  let head := putAt 0 8 n.lostSeq + putAt 8 4 n.lost.length + putAt 12 1 (bit n.overflow)
  n.lost.zipIdx.foldl (fun a p =>
    let o := 64 + 32 * p.2
    a + putAt o 8 p.1.slba + putAt (o + 8) 4 p.1.nlb + putAt (o + 12) 4 p.1.remain.length + putAt (o + 16) 1 p.1.cause +
      putAt (o + 24) 8 p.1.time) head

/-- LOG_PAGE_LOST_RANGES (R193 to R195): a full read counts the ranges as reported. -/
def execLogPageLostRanges (v : NvmeCmd) (s : State) : Host.Outcome State Fault Refusal :=
  .next <| s.admin { v with opc := 0x02 } fun c s =>
    match s.ns? v.nsid, c.ident with
    | some n, some i =>
      if !n.attached.contains i then s.finish c.id 0 St.denied else
      let full := logOfs v = 0 && 64 + 32 * n.lost.length ≤ logLen v
      let s : State := if full then s.updNs v.nsid fun x => { x with reported := (i, x.lostSeq) :: x.reported.filter fun p => p.1 != i } else s
      s.returnPage c 0xC0 n.lostPage
    | _, _ => s.finish c.id 0 St.denied

/-- Bytes of page C1h (Tables QOS-7 and QOS-8). -/
def meterPage (time seq scope flags nsid tenant count : Nat) (m : Meter) : Nat :=
  putAt 0 8 time + putAt 8 4 seq + putAt 12 1 scope + putAt 13 1 flags + putAt 16 4 nsid + putAt 20 4 tenant + putAt 24 4 count +
    putAt 64 128 m.bytes

/-- LOG_PAGE_METERING (R221). -/
def execLogPageMetering (v : NvmeCmd) (s : State) : Host.Outcome State Fault Refusal :=
  .next <| s.admin { v with opc := 0x02 } fun c s =>
    let lsp := logLsp v
    let snap := hasBit lsp 1
    let ten := hasBit lsp 0
    if bits lsp 6 2 != 0 then s.finish c.id 0 St.field
    else if ten then
      if v.nsid != 0xFFFFFFFF then s.finish c.id 0 St.field else
      let t := ((s.identOf v.ctl).map (·.tenant)).getD 0
      if snap then
        if s.msnapBad.contains (1, t) then s.finish c.id 0 St.internal else
        let (time, seq) := match s.msnap with | some x => (x.time, x.seq) | none => (0, 0)
        let row := s.msnap.bind fun x => x.tenants.find? fun p => p.1 == t
        let (m, k, gap) : Meter × Nat × Bool := match row with | some p => (p.2.1, p.2.2.1, p.2.2.2) | none => (Meter.zero, 0, false)
        s.returnPage c 0xC1 (meterPage time seq 1 (1 + 2 * bit gap) 0 t k m)
      else
        let k := (s.nss.filter fun n => n.tenant == t).length
        let gap := (s.nss.any fun n => n.tenant == t && n.gap) || s.tenants.any fun x => x.id == t && x.gap
        s.returnPage c 0xC1 (meterPage s.now 0 1 (2 * bit gap) 0 t k (s.tenantMeter t))
    else if v.nsid = 0 || v.nsid = 0xFFFFFFFF then s.finish c.id 0 St.field
    else match s.ns? v.nsid with
      | none => s.finish c.id 0 St.denied
      | some n =>
        if !s.nsAttached v.ctl v.nsid then s.finish c.id 0 St.denied
        else if snap then
          if s.msnapBad.contains (0, v.nsid) then s.finish c.id 0 St.internal else
          let (time, seq) := match s.msnap with | some x => (x.time, x.seq) | none => (0, 0)
          let row := s.msnap.bind fun x => x.ns.find? fun p => p.1 == v.nsid
          let (t, m, gap) : Nat × Meter × Bool := match row with | some p => p.2 | none => (n.tenant, Meter.zero, false)
          s.returnPage c 0xC1 (meterPage time seq 0 (1 + 2 * bit gap) v.nsid t 1 m)
        else s.returnPage c 0xC1 (meterPage s.now 0 0 (2 * bit n.gap) v.nsid n.tenant 1 n.meter)

/-- Bytes of page C2h (Table NSA-10). -/
def State.healthPage (s : State) : Nat :=
  let gs := (List.range 8).filter fun g => (s.group g).configured
  gs.zipIdx.foldl (fun a p =>
    let g := p.1
    let o := 64 + 64 * p.2
    let x := s.geo g
    let failed := (x.members.filter fun n => (s.slot n).state == 4).foldl (fun a n => a + 2 ^ n) 0
    let free := s.capCur g - (s.group g).mapped
    a + putAt o 1 g + putAt (o + 1) 1 (s.group g).c2state + putAt (o + 2) 1 x.geom + putAt (o + 3) 1 (s.svcCount g) +
      putAt (o + 4) 6 failed + putAt (o + 16) 8 free + putAt (o + 24) 8 (s.group g).lostTotal +
      putAt (o + 32) 4 (s.rd (F.LAY_GREB_DONE_DONE g)) + putAt (o + 36) 4 (s.rd (F.LAY_GREB_TOTAL_TOTAL g))) (putAt 0 4 gs.length)

/-- LOG_PAGE_LAYOUT_HEALTH (R193). -/
def execLogPageLayoutHealth (v : NvmeCmd) (s : State) : Host.Outcome State Fault Refusal :=
  .next <| s.admin { v with opc := 0x02 } fun c s =>
    if !s.hasPriv v.ctl 3 then s.finish c.id 0 St.denied
    else if v.nsid != 0xFFFFFFFF then s.finish c.id 0 St.field
    else s.returnPage c 0xC2 s.healthPage

/-- The 16 bytes of an event record (Table TEV-3). -/
def EvRec.bytes (r : EvRec) : Nat := r.time % 2 ^ 64 + 2 ^ 64 * (r.source % 1024) + 2 ^ 74 * (r.severity % 4) + 2 ^ 80 * (r.code % 65536) + 2 ^ 96 * (r.data % 2 ^ 32)

/-- Entered records from an index on, in log order, with the index of the first: the attached-memory log with what is not yet
copied, or the on-chip log while the former is unavailable (R196). -/
def State.recordsFrom (s : State) (want : Nat) : Nat × List EvRec :=
  let total := s.evTotal
  let all : List EvRec := if s.evMemOk then ((s.evlog.onChip.take (total - s.evlog.copied)) ++ s.evlog.memLog).take 1048576 else s.evlog.onChip
  let first := max want (total - all.length)
  (first, (all.take (total - first)).reverse)

/-- Bytes of page C3h for a read of a length (Table NSA-11). -/
def State.excerpt (s : State) (want len : Nat) : Nat :=
  let (first, recs) := s.recordsFrom want
  let recs := recs.take ((len - 64) / 16)
  recs.zipIdx.foldl (fun a p => a + putAt (64 + 16 * p.2) 16 p.1.bytes) (putAt 0 8 s.evTotal + putAt 8 8 first + putAt 16 4 recs.length)

/-- LOG_PAGE_EVENT_EXCERPT (R193, R196). -/
def execLogPageEventExcerpt (v : NvmeCmd) (s : State) : Host.Outcome State Fault Refusal :=
  .next <| s.admin { v with opc := 0x02 } fun c s =>
    if !s.hasPriv v.ctl 3 then s.finish c.id 0 St.denied
    else if v.nsid != 0xFFFFFFFF then s.finish c.id 0 St.field
    else ((s.hostBuf c (logLen v) (s.excerpt (logOfs v / 16) (logLen v))).pageRead v 0xC3).finish c.id 0 St.ok

/-! ### Identify (R192) -/

/-- ASCII "ZT-4880" in the 40 bytes of MN, padded with spaces. -/
def modelName : Nat := (([0x5A, 0x54, 0x2D, 0x34, 0x38, 0x38, 0x30] ++ List.replicate 33 0x20).zipIdx).foldl (fun (a : Nat) (p : Nat × Nat) => a + p.1 * 2 ^ (8 * p.2)) 0

/-- The Identify Controller structure: the values of Table NSA-6 at the standard's offsets (log entry 37). -/
def State.identCtrl (s : State) (k : Ctrl) : Nat :=
  let (ssvid, sn) := match s.boot.img with | some x => (x.ssvid, x.sn) | none => (0, 0)
  putAt 0 2 0x1F6B + putAt 2 2 ssvid + putAt 4 20 sn + putAt 24 40 modelName + putAt 76 1 2 + putAt 77 1 8 + putAt 78 2 (k.index + 1) +
    putAt 80 4 0x00020000 + putAt 111 1 1 + putAt 256 2 0x0E + putAt 258 1 (s.rd F.CMD_CFG_ACL) + putAt 259 1 7 + putAt 260 1 0x17 +
    putAt 320 2 1 + putAt 512 1 0x66 + putAt 513 1 0x44 + putAt 516 4 16384 + putAt 520 2 0xAD + putAt 525 1 0 + putAt 526 2 255 +
    putAt 528 2 255 + putAt 536 4 0x00100005 + putAt 540 4 16384 + putAt 768 256 s.subnqn + putAt 1792 4 1028 + putAt 1796 4 1 +
    putAt 1803 1 16

/-- The Identify Namespace structure (Table NSA-6). -/
def Namespace.identify (n : Namespace) : Nat :=
  let flbas := n.lbaf + if n.lbaf = 0 then 0 else 16
  let fmt := fun (ms : Nat) => ms + 12 * 65536
  let nawun := if n.fixed then 63 else 255
  let nuse := if n.fixed then n.ncap else n.mapped
  putAt 0 8 n.nsze + putAt 8 8 n.ncap + putAt 16 8 nuse + putAt 24 1 (2 + if n.fixed then 0 else 8) + putAt 25 1 2 + putAt 26 1 flbas +
    putAt 27 1 1 + putAt 28 1 0x15 + putAt 29 1 n.pit + putAt 30 1 n.nmic + putAt 31 1 0x7F + putAt 34 2 nawun + putAt 36 2 nawun +
    putAt 64 2 15 + putAt 66 2 15 + putAt 128 4 (fmt 0) + putAt 132 4 (fmt 8) + putAt 136 4 (fmt 16)

/-- A list of identifiers above one, 1,024 entries of four bytes. -/
def idList (l : List Nat) (from_ : Nat) : Nat :=
  ((sortNat (l.filter fun n => from_ < n)).take 1024).zipIdx.foldl (fun (a : Nat) (p : Nat × Nat) => a + putAt (4 * p.2) 4 p.1) 0

/-- IDENTIFY (R176, R192). -/
def execIdentify (v : NvmeCmd) (s : State) : Host.Outcome State Fault Refusal :=
  .next <| s.admin { v with opc := 0x06 } fun c s =>
    let cns := v.cdw10 % 256
    let give := fun (d : Nat) => (s.hostBuf c 4096 d).finish c.id 0 St.ok
    match s.ctrl? v.ctl with
    | none => s
    | some k =>
      match cns with
      | 0x00 => if s.nsAttached v.ctl v.nsid then
            (match s.ns? v.nsid with | some n => give (n.identify) | none => s.finish c.id 0 St.nsInvalid)
          else s.finish c.id 0 St.nsInvalid
      | 0x01 => give (s.identCtrl k)
      | 0x02 => give (idList ((s.nss.filter fun n => s.nsAttached v.ctl n.nsid).map (·.nsid)) v.nsid)
      | 0x05 => if s.nsAttached v.ctl v.nsid then give (putAt 20 4 (2 * 128)) else s.finish c.id 0 St.nsInvalid
      | 0x10 => give (idList (s.nss.map (·.nsid)) v.nsid)
      | 0x11 => match s.ns? v.nsid with
        | some n => give (n.identify)
        | none => s.finish c.id 0 St.nsInvalid
      | 0x12 | 0x13 =>
        let l := (s.ctrls.filter fun x => cns == 0x13 || s.nsAttached x.index v.nsid).map fun x => x.index + 1
        let l := (sortNat (l.filter fun n => bits v.cdw10 31 16 ≤ n)).take 2047
        give (l.zipIdx.foldl (fun a p => a + putAt (2 + 2 * p.2) 2 p.1) (putAt 0 2 l.length))
      | _ => s.finish c.id 0 St.field

end Sys2Proof.Machine
end

