-- ==== Sys2Proof/Machine/Repair.lean ====
section
/-!
DEFINITION. Machine/Repair.lean: the count of repaired detection failures (R22 to R24, Table ARC-5) and DETECTION_REPAIR_DONE.
-/

namespace Sys2Proof.Machine

/-- Change the state bank of a CIP role. -/
def State.updCip (s : State) (r : Nat) (f : CipRole → CipRole) : State := { s with cips := s.cips.modify r f }

/-- The state bank of a CIP role. -/
def State.cip (s : State) (r : Nat) : CipRole := s.cips.getD r CipRole.cold

/-- Role bound to an instance of a class. -/
def State.roleOf (s : State) (b : Nat) : Option Nat := (s.benchAt b).role

/-- What the loss of a CIP bank entry does: a key is reloaded (R361); a seal counter stays lost until rekeying (R347). -/
def State.cipEntryLost (s : State) (b slot : Nat) (recovered : Bool) : State :=
  match s.roleOf b with
  | none => s
  | some r =>
    if recovered then s.updCip r fun x => { x with cache := x.cache.filter fun k => k.slot != slot }
    else ((s.updCip r fun x => { x with cache := mapIf (fun (k : KeyCache) => k.slot == slot) (fun k => { k with ivLost := true }) x.cache }).wr
      (F.CIP_STAT_IV_LOST r) 1).raise b 6 NOTICE 3 slot

/-- The only copy of an entry is lost (R23): a connection context ends its connection; a command slot its command. -/
def State.entryLost (s : State) (o : Repair) : State :=
  let s : State := match o.conn.bind s.conn? with
    | some c => (s.connDown c).closeConn c.cid
    | none => s
  match o.slot.bind s.cmd? with
  | some c => s.loseCmd c
  | none => s

/-- A cache directory entry that failed and had its recovery source (Table ARC-5 row 7): a clean line is invalidated, a dirty one comes
back from the partner's mirror. -/
def State.cleanEntryFails (s : State) (nsid lba : Nat) : State :=
  if (s.line? nsid lba).any fun l => !l.dirty && l.wb.isNone then s.dropLine nsid lba else s

/-- DETECTION_REPAIR_DONE (R22 to R24): an object that failed its detection code was repaired from its recovery source, or no
source had it. -/
def execDetectionRepairDone (bench : Nat) (o : Repair) (hdrOk : Bool) (s : State) : Host.Outcome State Fault Refusal :=
  .next <|
    if !(s.benchAt bench).inService then s else
    let cip := (classInst bench).any fun p => p.1 == 5
    if o.recovered then
      let s : State := match o.row, cip, o.slot with
        | 6, true, some sl => s.cipEntryLost bench sl true
        | 7, _, _ => match o.line with | some (nsid, lba) => s.cleanEntryFails nsid lba | none => s
        | _, _, _ => s
      s.countRepair bench o.row hdrOk
    else
      let s := s.raise bench 3 ERROR 1 o.row
      match o.row, cip, o.slot with
      | 6, true, some sl => s.cipEntryLost bench sl false
      | 5, _, _ => s.entryLost o
      | 7, _, _ => match o.line with | some (nsid, lba) => s.lineLost nsid lba | none => s
      | _, _, _ => s

end Sys2Proof.Machine
end

