-- ==== Sys2Proof/Machine/Member.lean ====
section
/-!
DEFINITION. Machine/Member.lean: member states (R306 to R310, R329, R330), orders (Table REB-7), rebuild work (R147, R315 to R320), and
the drive-port outputs a member's failure drives (R414 to R416).
-/

namespace Sys2Proof.Machine

/-! ### Drive ports and the sideband outputs (R405, R415, R416) -/

/-- A drive port. -/
def State.port (s : State) (n : Nat) : Port := s.ports.getD n Port.cold

/-- Change a drive port. -/
def State.updPort (s : State) (n : Nat) (f : Port → Port) : State := { s with ports := s.ports.modify n f }

/-- A field of DRV_PSTATp of a slot. -/
def State.wrStat (s : State) (f : Nat → Nat → Fld) (n v : Nat) : State := s.wr (f (drvOf n) (n % 8)) v

/-- Read a field of DRV_PSTATp of a slot. -/
def State.rdStat (s : State) (f : Nat → Nat → Fld) (n : Nat) : Nat := s.rd (f (drvOf n) (n % 8))

/-- Raise an event of the DRV bench of a slot. -/
def State.raiseDrv (s : State) (n loc sev code extra : Nat) : State := s.raise (drvOf n) loc sev code (n + extra)

/-- Whether this unit is the standby of a pair (R418). -/
def State.pairStandby (s : State) : Bool := s.halRole == 2

/-- LED_FAULT is lit while the slot is FAILED or its drive rejected, LED_LOCATE while LOCATE is 1 (R400, R414, Table DRP-9); a standby
drives both at 1 (R418). -/
def State.syncLed (s : State) (n : Nat) : State :=
  let fault := (s.slot n).state == 4 || s.rdStat F.DRV_PSTAT_REJECT n != 0
  let locate := s.rd (F.DRV_PCTL_LOCATE (drvOf n) (n % 8)) == 1
  (s.setOut n 2 (s.pairStandby || !fault)).setOut n 3 (s.pairStandby || !locate)

/-- The link of a port goes down: PERST_N asserted, containment, or link loss (R405). GEN and X1 describe the trained link and read 0
without one (DEDUCED, log entry 162). -/
def State.linkOff (s : State) (n : Nat) : State :=
  (((s.wrStat F.DRV_PSTAT_LINK_UP n 0).wrStat F.DRV_PSTAT_READY n 0).wrStat F.DRV_PSTAT_GEN n 0).wrStat F.DRV_PSTAT_X1 n 0

/-- Assert PERST_N. -/
def State.holdPerst (s : State) (n : Nat) : State :=
  ((s.setOut n 0 false).linkOff n).updPort n fun p => { p with perstAt := none, trainFrom := none }

/-! ### Slot states (R306 to R308) -/

/-- Slot and group as event data (Table REB-16). -/
def State.slotData (s : State) (n : Nat) : Nat := n + 256 * (s.slot n).group

/-- Change the state of a slot; an order for it has ended. -/
def State.putSlot (s : State) (n st : Nat) : State := s.changeSlot n st id

/-- Bring LAY_MSTAT.DIRTY in line with the dirty-region set (Table REB-12). -/
def State.syncDirty (s : State) (n : Nat) : State := s.wrB (F.LAY_MSTAT_DIRTY n) ((s.slot n).allDirty || !(s.slot n).dirty.isEmpty)

/-- Change the survey area of a group. -/
def State.updSvy (s : State) (g : Nat) (f : SvyGroup → SvyGroup) : State := { s with svy := s.svy.modify g f }

/-- SVY writes a member record with the current epoch to every member in service (R268, R308), with an MSEQ above every one it has read
(R278); the object slots given up before it are free (R265). A standby writes none (R278). -/
def State.writeMember (s : State) (g : Nat) : State :=
  if s.halRole == 2 || s.halRole == 4 then s else
  let mem := (s.svyMembers g).filter s.inService
  let gr := s.group g
  let w := 1 + max (s.svy.getD g SvyGroup.cold).mseq (listMax (mem.map fun n => ((s.slot n).drive.map (·.mseq)).getD 0))
  let s := s.updSvy g fun x => { x with mseq := w, wseq := x.wseq + mem.length, recAt := s.now, old := [] }
  let bits := s.memberBits g
  let gen := s.rd64 F.HAL_PAIR_GEN_LO F.HAL_PAIR_GEN_HI
  (mem.foldl (fun s n => s.updSlot n fun x => { x with
    drive := x.drive.map fun d => { d with
      valid := true, slot := n, group := g, epoch := gr.epoch, lastFseq := gr.fseq, mseq := w, members := bits, rows := gr.rows, pairGen := gen } }) s).bgIo mem

/-- Leave service if not yet left: the epoch rises and the absence entry opens (R308). -/
def State.leaveService (s : State) (n : Nat) : State :=
  if (s.slot n).absent.isSome then s else
  let g := (s.slot n).group
  let gr := s.group g
  ((s.updSlot n fun x => { x with absent := some (gr.epoch, gr.fseq, s.now) }).updGroup g fun x => { x with epoch := x.epoch + 1 }).mirrorSlot n

/-- Whether a slot belongs to a configured group. -/
def State.grouped (s : State) (n : Nat) : Bool := (s.slot n).state != 7

/-- Bring what depends on a slot's state in line: its group's figures and health, waiting commands, its indicator. -/
def State.settle (s : State) (n : Nat) : State :=
  let g := (s.slot n).group
  let s := (s.syncDirty n).syncLed n
  if s.grouped n then ((s.syncGroup g).syncHealth g).placeWaiting g else s

/-! ### Stripes written again (R147, R273) -/

/-- Discard a stripe not yet acknowledged and give its blocks places in a new one: those of commands at once or when places are
free, moves and relocated slabs anew from their old places. -/
def State.rewriteStripe (s : State) (g n : Nat) : State :=
  match s.stripe? g n with
  | none => s
  | some x =>
    if x.done then s else
    let hit := fun (e : Option Entry) => match Entry.place? e with | some p => p.group == g && p.stripe == n | none => false
    let s : State := { s with pendings := s.pendings.filter fun p => !hit p.new }
    let s := (s.discardToFree g n).abandonM fun w => match w with | .slabWrite a b _ => a == g && b == n | _ => false
    let idx := fun (i : Nat) => x.blocks.filterMap fun b => match b.owner with | .cmd j k => if i = j then some k else none | _ => none
    let s := x.cmds.foldl (fun s i => s.updCmd i fun c => { c with
      stripes := c.stripes.erase n, unplaced := sortNat (idx i ++ c.unplaced) }) s
    let s := x.blocks.foldl (fun s b =>
      match b.owner with
      | .line ns l =>
        match s.place g .host (newBlock (.line ns l) ns l b.gen 0 0 b.content) with
        | (s, some _) => s
        | (s, none) => { s with lines := mapIf (fun y => y.nsid == ns && y.lba == l) (fun y => { y with wb := none, wbq := true }) s.lines }
      | .move .. => (s.place g x.stream b).1
      | _ => s) s
    s.placeWaiting g

/-! ### Commands ended by a port reset (R310, R405, R407) -/

/-- End one outstanding member command as failed. -/
def State.endMWork (s : State) (slot : Nat) (w : MWork) : State :=
  match w with
  | .slabWrite g n _ => s.rewriteStripe g n
  | .fixWrite u b => s.fixWriteMissed u slot b
  | .fixRead u b => s.fixReadEnd u b false
  | _ => s

/-- A port reset: every OUTSTANDING command ends as failed, every tag is FREE. -/
def State.endCommands (s : State) (n : Nat) : State :=
  let mine := (s.mcmds.filter fun c => c.tag.slot == n && !c.quarantined).map (·.work)
  let wait := (s.mwaits.filter fun c => c.slot == n).map (·.work)
  let s : State := { s with mcmds := s.mcmds.filter fun c => c.tag.slot != n, mwaits := s.mwaits.filter fun c => c.slot != n }
  let s := (mine ++ wait).foldl (fun s w => s.endMWork n w) s
  ((s.rereadFrom n).syncQuar n).issueWaiting

/-! ### Loss by members out (R324 to R326) -/

/-- Whether a block is lost now, no member that may return holding one of its stripe. -/
def State.lostNow (s : State) (bad : List BRef) (b : BRef) : Bool :=
  !s.avail bad b && (s.recon bad b).isNone && !s.mayReturn b

/-- Lose the data blocks of a stripe that are lost now, at the given block offsets. -/
def State.loseAt (s : State) (bad : List BRef) (sr : SRef) (offs : List Nat) : State :=
  let (k, _, _) := s.shape sr
  (offs.flatMap fun o => (List.range k).map fun i => BRef.mk sr i o).foldl (fun s b =>
    if !s.lostNow bad b then s else
    match sr with
    | .log g n => s.loseBlock g n b.slab b.blk
    | .fix g _ _ => match s.fixOwner b with
      | some (n, lba) => if n.isLost lba then s else (s.recordLost n.nsid lba 1 1).lostEvent g ((s.slotOf b).getD 0)
      | none => s) s

/-- When a member fails, stripes with more slabs out than their layout's m lose the blocks that cannot come back. -/
def State.lossScan (s : State) (g : Nat) : State :=
  let offs := List.range 16
  let logs := (s.stripesOf g).filter fun x => (x.state == .live || x.state == .lost) && x.m < s.slabsOut x
  let s := logs.foldl (fun s x => s.loseAt [] (.log g x.num) offs) s
  if (s.geo g).m < s.fixSlabsOut g then (s.fixStripes g).foldl (fun s r => s.loseAt [] r offs) s else s

/-! ### Rebuild work (R315) -/

/-- Every LIVE or LOST stripe on a slot enters the group's rebuild work; stripes not yet acknowledged are written again. -/
def State.enterWork (s : State) (g n : Nat) : State :=
  let s := ((s.stripesOf g).filter fun x => !x.done && x.members.contains n).foldl (fun s x => s.rewriteStripe g x.num) s
  let old := (s.group g).work
  let new := ((s.stripesOf g).filter fun x => (x.state == .live || x.state == .lost) && x.holds.contains n && !old.contains (x.num, n)).map
    fun x => (x.num, n)
  if new.isEmpty then s else
  let s : State := if old.isEmpty then (s.wr (F.LAY_GREB_DONE_DONE g) 0).wr (F.LAY_GREB_TOTAL_TOTAL g) 0 else s
  (s.updGroup g fun x => { x with work := x.work ++ new, indexSwept := false }).bumpBy (F.LAY_GREB_TOTAL_TOTAL g) new.length

/-! ### Transitions (Table REB-2) -/

/-- A slot becomes FAILED for a cause of Table REB-16: its commands end, its stripes enter rebuild, its port is reset (R310,
R315, R414). -/
def State.failSlot (s : State) (n cause : Nat) : State :=
  let g := (s.slot n).group
  let s := ((s.leaveService n).putSlot n 4).writeMember g
  let s := s.raiseLay g 11 ERROR 8 (s.slotData n + 65536 * cause)
  let s := ((s.endCommands n).enterWork g n).lossScan g
  let s : State := if s.rdStat F.DRV_PSTAT_PRSNT n = 1 && s.rdStat F.DRV_PSTAT_REJECT n = 0 && s.rdStat F.DRV_PSTAT_HELD n = 0 then
    (s.holdPerst n).updPort n fun p => { p with recoverAt := some (s.now + msU 100) } else s
  s.settle n

/-- A slot in service becomes SUSPECT: cause 1 command age, 2 link or containment; `ref` is its reference instant. -/
def State.suspectSlot (s : State) (n cause ref : Nat) : State :=
  let g := (s.slot n).group
  let s := ((s.leaveService n).putSlot n 2).writeMember g
  let s := (s.updSlot n fun x => { x with ref := ref }).raiseLay g 10 NOTICE 7 (s.slotData n + 65536 * cause)
  (s.rereadFrom n).settle n

/-- Issue time of the oldest command outstanding or quarantined at a member (R406). -/
def State.oldestCmd (s : State) (n : Nat) : Option Nat := listMin ((s.mcmds.filter fun c => c.tag.slot == n).map (·.issued))

/-- Whether a command of a member has been outstanding for SUSPECT_MS × 10 ms. -/
def State.aged (s : State) (n : Nat) : Bool :=
  s.dueOpt ((s.oldestCmd n).map fun t => t + msU (10 * s.rd F.LAY_REB_CFG_SUSPECT_MS))

/-- A member is drained: it leaves service and its log slabs are copied (Table REB-2). -/
def State.drainSlot (s : State) (n : Nat) : State :=
  let g := (s.slot n).group
  let s := ((s.leaveService n).putSlot n 3).writeMember g
  (s.enterWork g n).settle n

/-- The link of a member is gone, or its command has aged, or its port is contained (Table REB-2). -/
def State.memberStalled (s : State) (n cause ref : Nat) : State :=
  let st := (s.slot n).state
  if st = 3 || st = 5 || st = 6 then s.failSlot n 6
  else if st = 1 then s.suspectSlot n cause ref else s

/-- Presence is lost or a member write failed (Table REB-2). -/
def State.memberGone (s : State) (n cause : Nat) : State :=
  let st := (s.slot n).state
  if st = 1 || st = 2 || st = 3 || st = 5 || st = 6 then s.failSlot n cause else s

/-- A read error of a member: it counts in the last 24 h; above ERR_MAX a member in service is drained; a read of a DRAINING
member that completes with an error fails it (Table REB-2). -/
def State.readError (s : State) (n : Nat) (status : Bool) : State :=
  let s := s.updSlot n fun x => { x with errs := s.now :: x.errs.filter fun t => s.now < t + hourU 24 }
  let k := (s.slot n).errs.length
  let s := s.wr (F.LAY_MSTAT_RD_ERR n) (min 255 k)
  if (s.slot n).state = 1 && s.rd F.LAY_PAT_CFG_ERR_MAX < k then s.drainSlot n
  else if (s.slot n).state = 3 && status then s.failSlot n 5 else s

/-- MEMBER_COMMAND_AGE (R307, R406). -/
def execMemberCommandAge (slot : Nat) (s : State) : Host.Outcome State Fault Refusal :=
  .next (if s.aged slot then s.memberStalled slot 1 ((s.oldestCmd slot).getD s.now) else s)

/-- MEMBER_FAIL_TIMER (R307): FAIL_MS after its reference instant a SUSPECT slot is FAILED. -/
def execMemberFailTimer (slot : Nat) (s : State) : Host.Outcome State Fault Refusal :=
  .next <|
    if (s.slot slot).state = 2 && s.due ((s.slot slot).ref + msU (s.rd F.LAY_REB_CFG_FAIL_MS)) then s.failSlot slot 1 else s

/-- A FAILED slot is given up: its absence entry closes and every region of it is dirty (Table REB-2, R322). -/
def State.forgetSlot (s : State) (n : Nat) : State :=
  (s.changeSlot n 0 fun x => { x with absent := none, allDirty := true, dirty := [] }).settle n

/-- MEMBER_RETURN_EXPIRY (R307): RETURN_MIN minutes after leaving service a FAILED slot is ABSENT. -/
def execMemberReturnExpiry (slot : Nat) (s : State) : Host.Outcome State Fault Refusal :=
  .next <|
    match (s.slot slot).state, (s.slot slot).absent with
    | 4, some (_, _, t) => if s.due (t + minU (s.rd F.LAY_REB_CFG_RETURN_MIN)) then s.forgetSlot slot else s
    | _, _ => s

/-! ### Offers and joining (R227, R309) -/

/-- The return test of R309. -/
def State.returnTest (s : State) (n : Nat) : Bool :=
  match (s.slot n).drive, (s.slot n).absent with
  | some d, some (e, q, t) =>
    d.valid && d.slot == n && d.group == (s.slot n).group && d.epoch == e && d.lastFseq ≤ q &&
      s.now ≤ t + minU (s.rd F.LAY_REB_CFG_RETURN_MIN)
  | _, _ => false

/-- Whether the drive of a slot holds the rows of the slot's group (R227). -/
def State.fitsGroup (s : State) (n : Nat) : Bool :=
  match (s.slot n).drive with
  | some d => (s.group (s.slot n).group).rows ≤ positions d.capacity
  | none => false

/-- A member that passes the return test is reconciled: RETURNING; rebuild work for the slot stops (R329). -/
def State.returnSlot (s : State) (n : Nat) : State := (s.putSlot n 5).settle n

/-- A drive joins as new: absence entry closed, ALLDIRTY, survey area cleared (Table REB-2). -/
def State.joinSlot (s : State) (n : Nat) (order : Bool) : State :=
  let s := s.changeSlot n 6 fun x => { x with
    absent := none, allDirty := true, dirty := [], order := order, drive := x.drive.map fun d => { d with valid := false } }
  s.settle n

/-- A SUSPECT member returns once its link is up, no command is old, and it passes the return test (Table REB-2). -/
def State.suspectReturns (s : State) (n : Nat) : State :=
  if (s.slot n).state = 2 && s.rdStat F.DRV_PSTAT_LINK_UP n = 1 && !s.aged n && s.returnTest n then s.returnSlot n else s

/-- DRV offers a drive to LAY (R307, R309, R413, R421). -/
def State.offer (s : State) (n : Nat) (r : DriveRec) : State :=
  let s := s.updSlot n fun x => { x with drive := some r }
  let st := (s.slot n).state
  if !(s.group (s.slot n).group).mounted then s
  else if st = 2 then s.suspectReturns n
  else if st = 4 && s.returnTest n then s.returnSlot n
  else if st = 4 || st = 0 then
    if s.isSet F.LAY_REB_CFG_AUTO_JOIN && s.fitsGroup n then s.joinSlot n false
    else s.raiseLay (s.slot n).group 12 NOTICE 0xC (s.slotData n)
  else s

/-- DRIVE_OFFER (R307, R309). -/
def execDriveOffer (slot : Nat) (r : DriveRec) (s : State) : Host.Outcome State Fault Refusal := .next (s.offer slot r)

/-- A member enters service: the epoch rises and its record is written (R308). -/
def State.enterService (s : State) (n code : Nat) : State :=
  let g := (s.slot n).group
  let s := ((s.putSlot n 1).updGroup g fun x => { x with epoch := x.epoch + 1 }).writeMember g
  (s.raiseLay g 12 INFO code (s.slotData n)).settle n

/-- JOIN_RECORD_WRITTEN (R307): the member record of a JOINING member is written with the current epoch. -/
def execJoinRecordWritten (slot : Nat) (s : State) : Host.Outcome State Fault Refusal :=
  .next (if (s.slot slot).state = 6 then s.enterService slot 0xB else s)

/-- The namespace and LBA of a log block from the survey. -/
def State.mappedAt (s : State) (p : Place) : Option (Nat × Nat) :=
  (s.survey.find? fun m => match m.entry with | .at q _ => q == p | .zero => false).map fun m => (m.nsid, m.lba)

/-- Lost blocks of a group that are available again leave the lost map and their ranges (R194, R328). -/
def State.regained (s : State) (g : Nat) : State :=
  let s := (s.stripesOf g).foldl (fun s x =>
    (x.lostMap.filter fun p => let b := BRef.mk (.log g x.num) p.1 p.2; s.avail [] b || (s.recon [] b).isSome).foldl (fun s p =>
      let s := s.updStripe g x.num fun y => { y with lostMap := y.lostMap.erase p }
      match s.mappedAt ⟨g, x.num, p.1, p.2⟩ with
      | some (ns, lba) => s.clearLost ns lba
      | none => s) s) s
  (s.nss.filter fun n => n.fixed && n.group == g).foldl (fun s n =>
    (n.lost.flatMap fun r => if r.cause = 1 then r.remain else []).foldl (fun s lba =>
      let b := s.fixPlace n lba
      if s.avail [] b || (s.recon [] b).isSome then s.clearLost n.nsid lba else s) s) s

/-- RECONCILIATION_DONE (R329, R330): the walk of the stripe table ends. Slabs not relocated are valid again and leave the work;
positions of relocated slabs are free; the absence entry closes. -/
def execReconciliationDone (slot : Nat) (s : State) : Host.Outcome State Fault Refusal :=
  .next <|
    if (s.slot slot).state != 5 then s else
    let g := (s.slot slot).group
    let s := s.leaveWork g fun w => w.2 == slot
    let s := (s.updSlot slot fun x => { x with absent := none }).mirrorSlot slot
    let s := s.enterService slot 0xA
    s.regained g

/-! ### Orders (Tables REB-7 and REB-13) -/

/-- An order is refused (R333). -/
def State.refuseOrder (s : State) (g : Option Nat) (reason : Nat) : State :=
  (s.wr F.LAY_ORDER_STAT_REASON reason).raise (s.roleBench 3 (match g with | some g => layRole g | none => 0)) 15 NOTICE 0x12 reason

/-- Whether a drain or fail of a slot would leave k_eff below 1. -/
def State.wouldStarve (s : State) (n : Nat) : Bool :=
  let x := s.geo (s.slot n).group
  s.inService n && min x.k ((s.serving x.members).length - 1 - x.m) < 1

/-- The reasons that hold for every order of LAY_MCMD. -/
def State.orderRefusal (s : State) (n : Nat) : Option Nat :=
  if 48 ≤ n || !s.grouped n || !(s.group (s.slot n).group).configured then some 1
  else if s.reshape.isSome || (s.slot n).order then some 2 else none

/-- Carry out an order for a slot unless a reason of Table REB-7 refuses it. -/
def State.mcmd (s : State) (n : Nat) (own : Option Nat) (f : State → State) : State :=
  match s.orderRefusal n <|> own with
  | some r => s.refuseOrder (if n < 48 && s.grouped n then some (s.slot n).group else none) r
  | none => f s

/-- An order to drain a slot (R307). -/
def State.orderDrain (s : State) (slot : Nat) : State :=
  s.mcmd slot
    (if 0 < (s.group (s.slot slot).group).fixedRows then some 5 else if s.wouldStarve slot then some 8
     else if (s.slot slot).state != 1 then some 9 else none)
    fun s => ((s.drainSlot slot).updSlot slot fun x => { x with order := x.state == 3 }).mirrorSlot slot

/-- An order to fail a slot (R307). -/
def State.orderFail (s : State) (slot : Nat) : State :=
  s.mcmd slot (if s.wouldStarve slot then some 8 else none) fun s => s.memberGone slot 4

/-- An order to join a slot (R307). -/
def State.orderJoin (s : State) (slot : Nat) : State :=
  s.mcmd slot
    (if !((s.slot slot).state == 0 || (s.slot slot).state == 4) || !s.fitsGroup slot then some 9 else none)
    fun s => s.joinSlot slot true

/-- An order to forget a slot (R307). -/
def State.orderForget (s : State) (slot : Nat) : State :=
  s.mcmd slot (if (s.slot slot).state != 4 then some 9 else none) fun s => s.forgetSlot slot

/-- LAY_MCMD_DRAIN (R307). -/
def execLayMcmdDrain (slot : Nat) (s : State) : Host.Outcome State Fault Refusal := .next (s.orderDrain slot)

/-- LAY_MCMD_FAIL (R307). -/
def execLayMcmdFail (slot : Nat) (s : State) : Host.Outcome State Fault Refusal := .next (s.orderFail slot)

/-- LAY_MCMD_JOIN (R307). -/
def execLayMcmdJoin (slot : Nat) (s : State) : Host.Outcome State Fault Refusal := .next (s.orderJoin slot)

/-- LAY_MCMD_FORGET (R307). -/
def execLayMcmdForget (slot : Nat) (s : State) : Host.Outcome State Fault Refusal := .next (s.orderForget slot)

end Sys2Proof.Machine
end

