-- ==== Sys2Proof/Machine/Drive.lean ====
section
/-!
DEFINITION. Machine/Drive.lean: drive ports (14): member completions and tags (R404 to R409), containment and recovery (R412 to R414),
enumeration (R398 to R401), the sideband chain and slot power (R415 to R423).
-/

namespace Sys2Proof.Machine

/-! ### Containment (R412, R413) -/

/-- A port enters containment on a trigger of Table DRP-6: the link is down, the slot leaves service, commands end as failed; more
than CONT_MAX times in 1 h the port is held. -/
def State.contain (s : State) (n code : Nat) : State :=
  if s.rdStat F.DRV_PSTAT_CONTAINED n = 1 then s else
  let s := ((s.wrStat F.DRV_PSTAT_CONTAINED n 1).bump (F.DRV_CONTAIN (drvOf n) (n % 8))).raiseDrv n 6 ERROR 3 (256 * code)
  let s := (s.linkOff n).updPort n fun p => { p with contains := s.now :: p.contains.filter fun t => s.now < t + hourU 1, perstAt := none, trainFrom := none }
  let s : State := if s.rd F.DRV_CFG_CONT_MAX < (s.port n).contains.length then
      ((s.wrStat F.DRV_PSTAT_HELD n 1).updPort n fun p => { p with recoverAt := none }).raiseDrv n 7 ERROR 4 0
    else s.updPort n fun p => { p with recoverAt := some (s.now + msU 100) }
  ((s.memberStalled n 2 (min s.now ((s.oldestCmd n).getD s.now))).endCommands n).settle n

/-- Whether a port is in service: its link is up and it is not contained. -/
def State.portUp (s : State) (n : Nat) : Bool := s.rdStat F.DRV_PSTAT_LINK_UP n == 1 && s.rdStat F.DRV_PSTAT_CONTAINED n == 0

/-- MEMBER_ERROR_MESSAGE (R412, Table DRP-6): kind 1 an ERR_FATAL or ERR_NONFATAL message, 2 an uncorrectable error at the port;
any other kind is correctable and only counted. -/
def execMemberErrorMessage (slot kind : Nat) (s : State) : Host.Outcome State Fault Refusal :=
  .next <|
    if kind = 1 || kind = 2 then (if s.portUp slot then s.contain slot kind else s)
    else s.bump (F.DRV_AER_COR (drvOf slot) (slot % 8))

/-- DRIVE_LINK_DOWN (R412): a surprise link down while the port is in service. -/
def execDriveLinkDown (slot : Nat) (s : State) : Host.Outcome State Fault Refusal :=
  .next (if s.portUp slot then (s.raiseDrv slot 4 NOTICE 1 0).contain slot 3 else s)

/-- DRV_NONPOSTED_TIMEOUT (R412): a non-posted request to the member is not completed within 50 ms. -/
def execDrvNonpostedTimeout (slot : Nat) (s : State) : Host.Outcome State Fault Refusal :=
  .next (if s.portUp slot then s.contain slot 6 else s)

/-- CONTAINMENT_RECOVERY (R413, R414): after 100 ms the trigger is cleared and PERST_N asserted for 1 ms; release, training and
enumeration follow. -/
def execContainmentRecovery (slot : Nat) (s : State) : Host.Outcome State Fault Refusal :=
  .next <|
    if s.dueOpt (s.port slot).recoverAt then
      let s := ((s.wrStat F.DRV_PSTAT_CONTAINED slot 0).holdPerst slot).bump (F.DRV_RETRAIN (drvOf slot) (slot % 8))
      s.updPort slot fun p => { p with recoverAt := none, perstAt := some (s.now + msU 1) }
    else s

/-- PERST_RELEASE_TIMER (R413, R420, R421): PERST_N is released and the link trains. -/
def execPerstReleaseTimer (slot : Nat) (s : State) : Host.Outcome State Fault Refusal :=
  .next <|
    if s.dueOpt (s.port slot).perstAt then (s.setOut slot 0 true).updPort slot fun p => { p with perstAt := none, trainFrom := some s.now }
    else s

/-! ### Enumeration (R398 to R401) -/

/-- Reject a drive (R400). -/
def State.rejectDrive (s : State) (n reason : Nat) : State :=
  let s := ((s.wrStat F.DRV_PSTAT_REJECT n reason).raiseDrv n 8 NOTICE 5 (256 * reason)).holdPerst n
  (s.updSlot n fun x => { x with drive := none }).syncLed n

/-- The first failing check of Table DRP-2. -/
def State.driveRefusal (s : State) (n : Nat) (f : DriveFound) : Option Nat :=
  if hasBit (s.port n).accepted 1 then some 1
  else if f.classCode != 0x010802 then some 2
  else if !f.css || 60 < f.capTo then some 3
  else if !f.cmic || !f.nmic then some 4
  else if !f.formatOk then some 5
  else if !f.queuesOk then some 6
  else if !f.vwcOk then some 7
  else if f.gen.isNone then some 8 else none

/-- DRIVE_ENUMERATED (R398, R400, R401): a trained drive is checked, its queues are created and it is offered, or it is rejected. -/
def execDriveEnumerated (slot : Nat) (f : DriveFound) (s : State) : Host.Outcome State Fault Refusal :=
  .next <|
    if (s.port slot).trainFrom.isNone then s else
    match s.driveRefusal slot f with
    | some r => s.rejectDrive slot r
    | none =>
      let g := f.gen.getD 0
      let s := s.updPort slot fun p => { p with trainFrom := none }
      let s := (((s.wrStat F.DRV_PSTAT_GEN slot g).wrStat F.DRV_PSTAT_X1 slot (bit f.x1)).wrStat F.DRV_PSTAT_LINK_UP slot 1).wrStat F.DRV_PSTAT_READY slot 1
      let s : State := if f.x1 || g < s.rd F.DRV_CFG_MAX_GEN then s.raiseDrv slot 5 NOTICE 2 (256 * g + 1024 * bit f.x1) else s
      (s.offer slot f.record).issueWaiting

/-- DRIVE_LINK_TRAINING_TIMEOUT (R400, Table DRP-2): no link within 100 ms of PERST_N release. -/
def execDriveLinkTrainingTimeout (slot : Nat) (s : State) : Host.Outcome State Fault Refusal :=
  .next <|
    match (s.port slot).trainFrom with
    | some t => if s.due (t + msU 100) then s.rejectDrive slot 8 else s
    | none => s

/-! ### Member commands (R402 to R409) -/

/-- Whether a member command moves data to the controller: the member writes its ranges. -/
def MWork.reads : MWork → Bool
  | .read .. | .fixRead .. | .health => true
  | _ => false

/-- Whether a member command is a write whose error fails the member (Table REB-2). -/
def MWork.writes : MWork → Bool
  | .slabWrite .. | .fixWrite .. | .repair .. => true
  | _ => false

/-- The block a member read names. -/
def MWork.block? : MWork → Option BRef
  | .read b _ | .fixRead _ b => some b
  | _ => none

/-- A slab of a sealed stripe is acknowledged; with the last one the stripe is LIVE (Table LOG-2). -/
def State.slabAcked (s : State) (g n slab : Nat) : State :=
  match s.stripe? g n with
  | some x =>
    if x.state != .sealed then s else
    let s := s.updStripe g n fun y => { y with acked := (slab :: y.acked).dedup }
    if (List.range (x.kp + x.m)).all fun i => i = slab || x.acked.contains i then (s.ackStripe g n).placeWaiting g else s
  | none => s

/-- Critical warnings of a member's health log: bits 2 and 3 drain it (R408, Table REB-2). -/
def State.healthRead (s : State) (n warn : Nat) : State :=
  let new := (List.range 8).any fun i => i != 5 && hasBit warn i && !hasBit (s.port n).crit i
  let s := s.updPort n fun p => { p with crit := warn % 256 }
  let s : State := if new then s.raiseDrv n 12 NOTICE 9 (256 * (warn % 256)) else s
  if (s.slot n).state = 1 && (hasBit warn 2 || hasBit warn 3) then s.drainSlot n else s

/-- What the end of an outstanding member command does: `ok` its status, `sound` whether its block passes R245 and R258. -/
def State.memberDone (s : State) (n : Nat) (w : MWork) (ok sound : Bool) (warn : Nat) : State :=
  let s : State := if ok then s else s.bump (F.DRV_ERR_CQE (drvOf n) (n % 8))
  let s : State := if ok && !sound && w.block?.isSome then s.raiseLay (s.slot n).group 9 NOTICE 6 (s.slotData n) else s
  let s : State := if w.block?.isSome && !(ok && sound) then s.readError n !ok else s
  let s : State := if w.writes && !ok then s.memberGone n 3 else s
  match w with
  | .read b j => s.readReturned j b (ok && sound)
  | .fixRead u b => s.fixReadEnd u b (ok && sound)
  | .slabWrite g k i => if ok then s.slabAcked g k i else s.rewriteStripe g k
  | .fixWrite u b => if ok then s.fixWriteEnd u b else s.fixWriteMissed u n b
  | .repair b kind =>
    if ok then
      ({ s with badBlks := s.badBlks.filter fun x => x != b }).raiseOnce (msU 1) (s.roleBench 3 (layRole (s.slot n).group)) 14 NOTICE 0xE
        (s.slotData n + 65536 * kind)
    else s
  | .trim _ => s.placeWaiting (s.slot n).group
  | .health => if ok then s.healthRead n warn else s

/-- The late completion of a quarantined tag (Table DRP-5): dropped and counted; an error of a read counts, and its block is
repaired; an error of a write fails the member. -/
def State.lateDone (s : State) (n : Nat) (w : MWork) (ok : Bool) : State :=
  let s := (s.bump (F.DRV_LATE (drvOf n) (n % 8))).raiseOnce (msU 1) (drvOf n) 11 NOTICE 8 n
  if ok then s else
  let s := s.bump (F.DRV_ERR_CQE (drvOf n) (n % 8))
  match w.block? with
  | some b =>
    (s.readError n true).rewriteBlk [b] b 5
  | none => if w.writes then s.memberGone n 3 else s

/-- MEMBER_COMPLETION (R245, R405, R408): a completion arrives on a completion queue; got is the stored bytes and metadata that a read
returns, none where the member returns the block as it was written. -/
def execMemberCompletion (tag : MTag) (cq : Nat) (ok : Bool) (got : Option (Nat × Nat)) (warn : Nat) (s : State) : Host.Outcome State Fault Refusal :=
  .next <|
    match s.mcmds.find? fun c => c.tag == tag with
    | none => if s.portUp tag.slot then s.contain tag.slot 5 else s
    | some c =>
      if cq != tag.queue then s.contain tag.slot 5 else
      let sound := match c.work.block?, got with
        | some b, some (d, m) => s.returnOk b d m
        | _, _ => true
      let s : State := { s with mcmds := s.mcmds.filter fun x => x.tag != tag }
      let s : State := if c.quarantined then s.lateDone tag.slot c.work ok else s.memberDone tag.slot c.work ok sound warn
      ((s.syncQuar tag.slot).suspectReturns tag.slot).issueWaiting

/-- Blocks of a member command's data range: 16 for a slab, 1 for a block, none where it has no data range (R404). -/
def dataBlocks : MWork → Nat
  | .slabWrite .. => 16
  | .trim _ | .health => 0
  | _ => 1

/-- MEMBER_DMA_REQUEST (R403 to R405): a memory request of the member of `len` bytes at a bus address: within queue memory, within the
ranges of a command of its port in the direction of the command, or outside every granted range. -/
def execMemberDmaRequest (slot : Nat) (write : Bool) (addr len : Nat) (s : State) : Host.Outcome State Fault Refusal :=
  .next <|
    let s' := if write then s else s.send (.memberUr slot addr len)
    let reject := (s'.bump (F.DRV_DMA_REJ (drvOf slot) (slot % 8))).contain slot 4
    if busStore addr = 2 && within addr len (queueMemAt slot) (2 ^ 20) then s else
    match s.mcmds.find? fun c => c.tag.slot == slot && tagCovers c.tag (dataBlocks c.work) addr len with
    | none => reject
    | some c =>
      if c.quarantined then (if write then s.bump (F.DRV_LATE_DMA (drvOf slot) (slot % 8)) else reject)
      else if c.work.reads == write then s else reject

/-- HEALTH_POLL (R408): every HEALTH_S seconds DRV reads a member's health log. -/
def execHealthPoll (slot : Nat) (s : State) : Host.Outcome State Fault Refusal :=
  .next <|
    if s.rdStat F.DRV_PSTAT_READY slot = 1 && s.due ((s.port slot).polledAt + secU (s.rd F.DRV_CFG_HEALTH_S)) then
      (s.updPort slot fun p => { p with polledAt := s.now }).issueM slot 0 .health
    else s

/-- The positions of the first 256 ranges of rising rows. -/
def firstRanges (rows : List Nat) : List Nat :=
  (rows.foldl (fun (a : List Nat × Nat) r =>
    let n := if a.1.getLast? == some (r - 1) && 0 < r then a.2 else a.2 + 1
    if n ≤ 256 then (a.1 ++ [r], n) else (a.1, n)) (([] : List Nat), 0)).1

/-- TRIM_GATHER_EXPIRY (R409): 1 ms after the first of them, the positions gathered for a member go out as one Dataset Management. -/
def execTrimGatherExpiry (slot : Nat) (s : State) : Host.Outcome State Fault Refusal :=
  .next <|
    let mine := s.trimGather.filter fun p => p.1 == slot
    match listMin (mine.map fun p => p.2.2) with
    | none => s
    | some t =>
      if !s.due (t + msU 1) then s else
      let rows := firstRanges (sortNat (mine.map fun p => p.2.1)).dedup
      let s : State := { s with trimGather := s.trimGather.filter fun p => p.1 != slot || !rows.contains p.2.1 }
      if s.readable slot then s.issueM slot 4 (.trim (rows.map fun r => (slot, r))) else s.placeWaiting (s.slot slot).group

/-- FENCE_WRITE_WINDOW_END (R411): 10 ms after the fence, what was held against the fenced partner is free. -/
def execFenceWriteWindowEnd (s : State) : Host.Outcome State Fault Refusal :=
  .next <|
    if s.dueOpt s.fenceEnd then
      let s : State := { s with fenceEnd := none }
      (List.range 8).foldl (fun s g => s.placeWaiting g) s.issueWaiting
    else s

/-! ### Slot power (R420 to R423) -/

/-- Set PWR_EN of a slot; when it rises the time is noted (R518). -/
def State.setEn (s : State) (n : Nat) (on : Bool) : State :=
  let s : State := if on && !s.outSet n 1 then s.updPort n fun p => { p with pwrAt := s.now } else s
  s.setOut n 1 on

/-- Drive PWR_EN of a slot (R418): a standby follows the active. -/
def State.setPower (s : State) (n : Nat) (on : Bool) : State :=
  if s.pairStandby then s else ((s.setEn n on).mirrorSlot n).haulNote

/-- A slot has power: PERST_N is released 100 ms later. -/
def State.poweredUp (s : State) (n : Nat) : State :=
  let s := (s.wrStat F.DRV_PSTAT_POWERED n 1).wrStat F.DRV_PSTAT_REJECT n 0
  (s.updPort n fun p => { p with perstAt := some (s.now + msU 100), waitPower := false }).syncLed n

/-- Power a slot: PWR_EN at once, PERST_N 100 ms later; at a standby once the active drives PWR_EN (R418, R420, R421). -/
def State.powerOn (s : State) (n : Nat) : State :=
  let s := s.setPower n true
  if s.outSet n 1 then s.poweredUp n else s

/-- Power an NVMe drive, or reject another kind (Table DRP-2, reason 1). -/
def State.powerNvme (s : State) (n : Nat) : State := if hasBit (s.port n).accepted 1 then s.rejectDrive n 1 else s.powerOn n

/-- Remove power: PWR_EN cleared, PERST_N asserted, the port reset. -/
def State.powerOff (s : State) (n : Nat) : State :=
  let s := s.setPower n false
  let s := ((s.wrStat F.DRV_PSTAT_POWERED n (bit (s.outSet n 1))).wrStat F.DRV_PSTAT_CONTAINED n 0).wrStat F.DRV_PSTAT_HELD n 0
  ((s.holdPerst n).updPort n fun p => { p with recoverAt := none, waitPower := false }).endCommands n

/-- A standby drives PWR_EN of a slot as the active does (R418): its own port starts or stops with the slot's power. -/
def State.followPower (s : State) (n : Nat) (on : Bool) : State :=
  if 48 ≤ n || s.outSet n 1 == on then s else
  let s := s.setEn n on
  if on then (if (s.port n).accepted % 4 = 0 then s.poweredUp n else s.wrStat F.DRV_PSTAT_POWERED n 1) else s.powerOff n

/-- A drive is gone or its power failed (R422): presence is lost to LAY. -/
def State.driveLost (s : State) (n : Nat) : State :=
  let s := s.memberGone n 2
  ((s.powerOff n).updSlot n fun x => { x with drive := none }).settle n

/-- POWER_ON (R421): an inserted drive is powered when AUTO_POWER is 0. -/
def State.powerOnOrder (s : State) (n : Nat) : State :=
  if !s.isSet F.DRV_CFG_AUTO_POWER && s.rdStat F.DRV_PSTAT_PRSNT n = 1 && s.rdStat F.DRV_PSTAT_POWERED n = 0 then s.powerNvme n else s

/-- POWER_OFF (R423). -/
def State.powerOffOrder (s : State) (n : Nat) : State :=
  let st := (s.slot n).state
  if st = 0 || st = 4 || st = 7 || s.rdStat F.DRV_PSTAT_REJECT n != 0 then (s.powerOff n).settle n
  else s.wr (F.DRV_PCTL_REFUSED (drvOf n) (n % 8)) 1

/-- DRV_POWER_ON (R421). -/
def execDrvPowerOn (slot : Nat) (s : State) : Host.Outcome State Fault Refusal := 
  .next (s.atWindow (drvOf slot) (0x1404 + 0x80 * (slot % 8)) 2 2 fun s => s.powerOnOrder slot)

/-- DRV_POWER_OFF (R423). -/
def execDrvPowerOff (slot : Nat) (s : State) : Host.Outcome State Fault Refusal := 
  .next (s.atWindow (drvOf slot) (0x1404 + 0x80 * (slot % 8)) 4 4 fun s => s.powerOffOrder slot)

/-- Slots of this variant. -/
def State.slotCount (s : State) : Nat := if s.part = .zs then 48 else 24

/-- DRIVE_STAGE_TIMER (R420): the next group of 8 slots is powered, STAGE × 10 ms after the one before. -/
def execDriveStageTimer (s : State) : Host.Outcome State Fault Refusal :=
  .next <|
    match s.stage with
    | some (i, t) =>
      if !s.due t then s else
      let go := ((List.range 8).map fun j => 8 * i + j).filter fun n => n < s.slotCount && (s.port n).accepted % 4 = 0
      let s := go.foldl (fun s n => s.powerOn n) s
      if s.slotCount ≤ 8 * (i + 1) then { s with stage := none, drvPowered := true }
      else { s with stage := some (i + 1, s.now + msU (10 * s.rd F.DRV_CFG_STAGE)) }
    | none => s

/-! ### The sideband chain (R415, R419) -/

/-- Presence of a drive is accepted (R421): in service it is powered, rejected, or waits for POWER_ON. -/
def State.driveSeen (s : State) (n : Nat) : State :=
  let s := (s.wrStat F.DRV_PSTAT_PRSNT n 1).raiseDrv n 9 INFO 6 256
  if !s.drvPowered then s
  else if s.isSet F.DRV_CFG_AUTO_POWER then s.powerNvme n
  else s.updPort n fun p => { p with waitPower := true }

/-- Absence of a drive is accepted (R422). -/
def State.driveRemoved (s : State) (n : Nat) : State :=
  let s := (s.wrStat F.DRV_PSTAT_PRSNT n 0).driveLost n
  ((s.wrStat F.DRV_PSTAT_REJECT n 0).syncLed n).raiseDrv n 9 INFO 6 0

/-- What a change of an accepted input does: 0 PRSNT_N, 2 PWRFLT_N, 3 ATTN_N. -/
def State.inputAccepted (s : State) (n i : Nat) (v : Bool) : State :=
  if i = 0 then (if v then s.driveRemoved n else s.driveSeen n)
  else if i = 2 && !v then (s.driveLost n).raiseDrv n 10 ERROR 7 0
  else if i = 3 && !v then s.raiseDrv n 13 INFO 0xA 0 else s

/-- One input of a slot in a frame: a change is accepted when it has held for DEBOUNCE × 10 ms, that of PWRFLT_N at once. -/
def State.sampleInput (s : State) (n i : Nat) (v : Bool) : State :=
  let p := s.port n
  if hasBit p.accepted i == v then s else
  let since := if hasBit p.captured i == v then p.since.getD i s.now else s.now
  let s := s.updPort n fun x => { x with since := x.since.set i since }
  if i = 2 || s.due (since + msU (10 * s.rd F.CHN_SBC_CFG_DEBOUNCE)) then
    (s.updPort n fun x => { x with accepted := x.accepted - bit (hasBit x.accepted i) * 2 ^ i + bit v * 2 ^ i }).inputAccepted n i v
  else s

/-- The bits that a frame shifts out on SBC_DO, first to last: slot 47 first, bit 3 first within each slot (R415). -/
def State.sbcBits (s : State) : List Bool :=
  (List.range 192).map fun i => let p := 191 - i; hasBit (s.sbcWant.getD (p / 32) 0) (p % 32)

/-- SBC_LOAD: the shelf takes the outputs shifted in the frame before, and this frame shifts those written since (R415). -/
def State.sbcLoad (s : State) : State :=
  let s := (List.range 6).foldl (fun (s : State) i => s.wr (F.CHN_SBC_OUT_OUT i) (s.sbcShift.getD i 0)) s
  { s with sbcShift := s.sbcWant }

/-- SBC_FRAME (R415, R419): a frame starts; the outputs written before the one before it take effect, and it brings the inputs of all
slots, 4 bits each, slot 47's bit 3 the most significant. IFDET_N is taken ahead of PRSNT_N. -/
def execSbcFrame (inputs : Nat) (s : State) : Host.Outcome State Fault Refusal :=
  .next <|
    let s := s.sbcLoad
    let s := (List.range 6).foldl (fun s i => s.wr (F.CHN_SBC_IN_IN i) (inputs / 2 ^ (32 * i))) s
    (List.range s.slotCount).foldl (fun s n =>
      let nib := inputs / 16 ^ n % 16
      let s := [1, 0, 2, 3].foldl (fun s i => s.sampleInput n i (hasBit nib i)) s
      s.updPort n fun p => { p with captured := nib }) s

end Sys2Proof.Machine
end

