-- ==== Sys2Proof/Machine/Cipher.lean ====
section
/-!
DEFINITION. Machine/Cipher.lean: the cipher class (12): requests, key cache and loads, checks before release, responses and
the zeroisation of a key slot. AES, its modes and key wrap stand in Machine/Aes.lean (log entry 142).
-/

namespace Sys2Proof.Machine

/-- Kind of a key slot (Table CIP-2): 1 XTS, 2 GCM, 3 CTR, 0 none. -/
def slotKind (slot : Nat) : Nat := if slot < 16384 then 1 else if slot = 16384 then 3 else if slot ≤ 16388 then 2 else 0

/-- Whether a slot takes an operation at this controller (Table CIP-2): controller A is the one with SLOT_B 0. -/
def State.slotTakes (s : State) (slot op : Nat) : Bool :=
  if op = 7 then slot < 16640
  else match slotKind slot with
  | 1 => op == 1 || op == 2 || op == 3
  | 3 => op == 6
  | 2 =>
    let byA := slot % 2 == 1
    let here := s.isSet F.CTL_BOOT_STAT_SLOT_B != byA
    if here then op == 4 else op == 5
  | _ => false

/-- Data bytes of a request. -/
def cipBytes (r : CipReq) : Nat := if r.op ≤ 3 then 4096 * r.count else if r.op ≤ 6 then r.len else 0

/-- Size of the store that an address selects (R355); none for store 3. -/
def State.storeSize (s : State) (a : Nat) : Option Nat :=
  match bits a 63 62 with
  | 0 => some (64 * 1048576)
  | 1 => some (48 * 1048576)
  | 2 => some (listMax ((List.range 15).map fun r => (s.rd (F.MEM_RGN_BASEr_MIB r) + s.rd (F.MEM_RGN_SIZEr_MIB r)) * 1048576))
  | _ => none

/-- Whether a range lies wholly within its store. -/
def State.inStore (s : State) (a len : Nat) : Bool :=
  match s.storeSize a with
  | some z => a % 2 ^ 62 + len ≤ z
  | none => false

/-- Alignment of an XTS address (R355). -/
def xtsAligned (a : Nat) : Bool := a % (if bits a 63 62 = 1 then 256 else 4096) == 0

/-- The ranges of a request: source, destination, and the third address. -/
def cipRanges (r : CipReq) : List (Nat × Nat) :=
  let src := if r.op = 3 || r.op = 7 then [] else [(r.srcAddr, cipBytes r + if r.op = 5 then 16 else 0)]
  let dst := if r.op = 7 || (r.op = 2 && r.nodst) then [] else [(r.dstAddr, cipBytes r + if r.op = 4 then 16 else 0)]
  let aux := if r.op ≤ 3 then [(r.aux, 64 * r.count)] else if (r.op = 4 || r.op = 5) && 0 < r.aadLen then [(r.aux, r.aadLen)] else []
  src ++ dst ++ aux

/-- Whether the source and destination ranges overlap without being equal (R355). -/
def cipCrossed (r : CipReq) : Bool :=
  !(r.op = 3 || r.op = 7 || (r.op = 2 && r.nodst)) && r.srcAddr != r.dstAddr && r.srcAddr < r.dstAddr + cipBytes r && r.dstAddr < r.srcAddr + cipBytes r

/-- The statuses a descriptor has of itself, 1 to 5, the first that matches (Table CIP-5). -/
def State.cipRefusal (s : State) (r : CipReq) : Option Nat :=
  let xts := 1 ≤ r.op && r.op ≤ 3
  let gcm := r.op = 4 || r.op = 5
  let flags := (r.gchk || r.gout || r.nodst) && r.op != 2
  let rsvd := r.rsvd || (!xts && r.op != 6 && r.lba != 0) || (r.op != 5 && r.iv != 0) || ((r.op = 6 || r.op = 7) && r.aux != 0) || (xts && r.lba ≥ 2 ^ 48)
  let len := if xts then r.count = 0 || 16 < r.count || r.len != 0 || r.aadLen != 0
    else if gcm then r.count != 0 || r.len = 0 || 65536 < r.len || 512 < r.aadLen
    else if r.op = 6 then r.count != 0 || r.len = 0 || 65536 < r.len || r.aadLen != 0
    else r.count != 0 || r.len != 0 || r.aadLen != 0
  let align := xts && ((r.op != 3 && !xtsAligned r.srcAddr) || (!r.nodst && !xtsAligned r.dstAddr) || r.aux % 64 != 0)
  if r.op = 0 || 7 < r.op || flags || rsvd || (r.op = 7 && r.src != 0) then some 1
  else if len then some 2
  else if align then some 3
  else if ((cipRanges r).any fun p => !s.inStore p.1 p.2) || cipCrossed r then some 4
  else if 16640 ≤ r.slot || !s.slotTakes r.slot r.op then some 5
  else none

/-- The cache entry of a slot and generation. -/
def CipRole.key? (x : CipRole) (slot kgen : Nat) : Option KeyCache := x.cache.find? fun k => k.slot == slot && k.kgen == kgen

/-- Whether a cache entry is pinned: a system slot, or a namespace slot that a queued request names (R351). -/
def CipRole.pinned (x : CipRole) (slot : Nat) : Bool := 16384 ≤ slot || x.queue.any fun w => w.req.slot == slot && w.req.op != 7

/-- Bytes queued at a role. -/
def CipRole.load (x : CipRole) : Nat := (x.queue.map fun w => cipBytes w.req).sum

/-- Bring CIP_STAT of a role in line with its bank. -/
def State.syncCip (s : State) (r : Nat) : State :=
  let x := s.cip r
  (((s.wr (F.CIP_STAT_KC_USED r) x.cache.length).wr (F.CIP_STAT_KC_PINNED r) (x.cache.filter fun k => x.pinned k.slot).length).wr
    (F.CIP_STAT_QDEPTH r) x.queue.length).wrB (F.CIP_STAT_IV_LOST r) (x.cache.any (·.ivLost))

/-- The role with the fewest queued bytes among some. -/
def State.lightest (s : State) (l : List Nat) : Option Nat :=
  l.foldl (fun m r => match m with
    | none => some r
    | some q => if (s.cip r).load < (s.cip q).load then some r else some q) none

/-- The role the class switch sends a request to (R351); a seal goes to a role whose counter is not lost, where one holds the slot
(R347). -/
def State.cipRoute (s : State) (slot op : Nat) : Nat :=
  let all := (List.range 8).filter fun r => (s.cip r).cache.any fun k => k.slot == slot
  let sound := all.filter fun r => !((s.cip r).cache.any fun k => k.slot == slot && k.ivLost)
  let holders := if op = 4 && !sound.isEmpty then sound else all
  match s.lightest holders with
  | some r => if (s.cip r).load ≤ 1024 * s.rd F.CIP_CFG_SPREAD_KIB then r else (s.lightest (List.range 8)).getD 0
  | none => (s.lightest (List.range 8)).getD 0

/-- Whether an entry can be given to a key: one of 128 unused, or one that is not pinned. -/
def CipRole.room (x : CipRole) : Bool := x.cache.length < 128 || x.cache.any fun k => !x.pinned k.slot

/-- Whether a key can be loaded: a namespace key only once attached memory is trained (R352). -/
def State.keyAtHand (s : State) (slot : Nat) : Bool := 16384 ≤ slot || 0 < s.channels

/-- Start the loads that queued requests need: at most 8 at a time, in arrival order; none while every entry is pinned. -/
def State.cipLoads (s : State) (r : Nat) : State :=
  (s.cip r).queue.foldl (fun s w =>
    let x := s.cip r
    let q := w.req
    if q.op = 7 || w.failed.isSome || (x.key? q.slot q.kgen).isSome || (x.loads.any fun l => l.1 == q.slot) || 8 ≤ x.loads.length || !x.room || !s.keyAtHand q.slot
    then s else (s.bump (F.CIP_KC_MISS r)).updCip r fun x => { x with loads := x.loads ++ [(q.slot, false, false)] }) s

/-- Put a request into a role's queue. -/
def State.cipEnqueue (s : State) (r : Nat) (w : CipWait) : State :=
  let x := s.cip r
  let hit := (x.key? w.req.slot w.req.kgen).isSome
  let keyed := w.req.op != 7 && w.failed.isNone
  let s : State := if keyed && hit then s.bump (F.CIP_KC_HIT r) else s
  let s : State := if keyed && !hit && !x.room then (s.bump (F.CIP_KC_WAIT r)).raiseOnce (msU 1) (s.roleBench 5 r) 7 NOTICE 4 0 else s
  ((s.updCip r fun x => { x with queue := x.queue ++ [w] }).cipLoads r).syncCip r

/-- A descriptor arrives at a role: its queue of 1,024 takes it, or the requester stalls until there is room (R354). -/
def State.cipArrive (s : State) (r : Nat) (w : CipWait) : State :=
  let x := s.cip r
  if x.held.isEmpty && x.queue.length < 1024 then s.cipEnqueue r w else s.updCip r fun x => { x with held := x.held ++ [w] }

/-- The queue has room again: the oldest stalled request enters it. -/
def State.cipRefill (s : State) (r : Nat) : State :=
  let x := s.cip r
  match x.held with
  | w :: rest => if x.queue.length < 1024 then (s.updCip r fun x => { x with held := rest }).cipEnqueue r w else s
  | [] => s

/-- A request arrives at the role the class switch chooses. -/
def State.cipRequest (s : State) (q : CipReq) : State := s.cipArrive (s.cipRoute q.slot q.op) { req := q, replay := false, failed := s.cipRefusal q }

/-- Whether a queued KEY_ZERO may go: no request of its slot is ahead of it (R353). -/
def zeroReady (ahead : List CipWait) (w : CipWait) : Bool :=
  w.req.op == 7 && !(ahead.any fun a => a.req.slot == w.req.slot && a.req.op != 7)

/-- The request a role serves next, by its place in the queue (R359). -/
def State.cipNext (s : State) (r : Nat) : Option (Nat × CipWait) :=
  let q := (s.cip r).queue
  let idx := q.zipIdx.map fun p => (p.2, p.1)
  match idx.find? fun p => zeroReady (q.take p.1) p.2 with
  | some p => some p
  | none =>
    let rest := idx.filter fun p => p.2.req.op != 7
    match (if s.isSet F.CIP_CFG_PRI_EN then rest.find? fun p => 4 ≤ p.2.req.op else none) with
    | some p => some p
    | none => rest.head?

/-- Send a response and take the request out of the queue. -/
def State.cipAnswer (s : State) (r i : Nat) (q : CipReq) (status tail : Nat) : State :=
  let s : State := { (s.updCip r fun x => { x with queue := x.queue.eraseIdx i }) with out := .cipResponse q.src q.rtag status r tail :: s.out }
  let s := s.bump (F.CIP_REQ r)
  let s : State := match status with
    | 6 | 7 => s.bump (F.CIP_STALE r)
    | 11 => s.bump (F.CIP_GUARD_ERR r)
    | 12 => (s.bump (F.CIP_AUTH_FAIL r)).raiseOnce (msU 1) (s.roleBench 5 r) 4 NOTICE 1 q.slot
    | 13 => (s.bump (F.CIP_CHECK_FAIL r)).raise (s.roleBench 5 r) 3 ERROR 1 11
    | _ => s
  ((s.cipLoads r).cipRefill r).syncCip r

/-- Count the work of a released request (Table CIP-9). -/
def State.cipCount (s : State) (r : Nat) (q : CipReq) : State :=
  if q.op ≤ 3 then s.bumpBy (F.CIP_XTS_BLK r) q.count else
  let n := (s.cip r).carried + q.len + q.aadLen
  (s.bumpBy (F.CIP_GCM_KIB r) (n / 1024)).updCip r fun x => { x with carried := n % 1024 }

/-- The IV of a seal: the role's number and its counter for the slot, big-endian (R346), as it lies in bytes 4 to 15. -/
def sealIv (r counter : Nat) : Nat := swapBytes r 4 + 2 ^ 32 * swapBytes counter 8

/-- The pairing exchange runs again when a seal counter of a haul slot reaches 2^48 or is lost (R598). -/
def State.rekeyHaul (s : State) (q : CipReq) (k : KeyCache) : State :=
  if q.op = 4 && 16385 ≤ q.slot && q.slot ≤ 16388 && s.pair.exchanged && (k.ivLost || 2 ^ 48 ≤ k.counter + 1) then s.sendPairing else s

/-- Metadata of a block as XTS_ENC leaves it: with NSID, LBA and NSGEN, the other fields as the requester placed them (R344). -/
def cipMeta (q : CipReq) (lba md : Nat) : Nat := spliceAt (spliceAt (spliceAt md 0 4 (q.slot + 1)) 4 6 lba) 10 2 q.kgen

/-- One block of an XTS request: whether it is a BADMAP block, and what it writes at DST and at AUX (R342, R344, Table CIP-5). -/
def cipBlock (key : Nat) (q : CipReq) (f : CipFound) (i : Nat) : Bool × List (Nat × Nat × Nat) :=
  let d := if q.op = 3 then 0 else bytesAt f.src (4096 * i) 4096
  let md := bytesAt f.aux (64 * i) 64
  let tweak := xtsTweak (q.slot + 1) q.kgen (q.lba + i)
  let res := if q.op = 2 then xtsDec key tweak 256 d else xtsEnc key tweak 256 d
  let guard := crc64 (toBytes (if q.op = 2 then res else d) 4096)
  if (q.op = 1 || q.gchk) && guard != bytesAt md 52 8 then (true, [])
  else (false, (if q.nodst then [] else [(q.dstAddr + 4096 * i, 4096, res)]) ++
    if q.op = 1 then [(q.aux + 64 * i, 64, cipMeta q (q.lba + i) md)] else if q.gout then [(q.aux + 64 * i, 64, spliceAt md 52 8 guard)] else [])

/-- What a request gives (R341 to R348): its BADMAP, whether a tag verifies, and the bytes written: address, length, value. -/
def cipWork (key iv : Nat) (q : CipReq) (f : CipFound) : Nat × Bool × List (Nat × Nat × Nat) :=
  if q.op ≤ 3 then
    let l := (List.range q.count).map (cipBlock key q f)
    ((l.zipIdx.map fun p => if p.1.1 then 2 ^ p.2 else 0).sum, true, l.flatMap (·.2))
  else if q.op = 4 then
    let ct := gcmText key iv q.len f.src
    (0, true, [(q.dstAddr, q.len, ct), (q.dstAddr + q.len, 16, gcmTag key iv q.aadLen f.aux q.len ct)])
  else if q.op = 5 then
    let ct := bytesAt f.src 0 q.len
    (0, gcmTag key iv q.aadLen f.aux q.len ct == bytesAt f.src q.len 16, [(q.dstAddr, q.len, gcmText key iv q.len ct)])
  else (0, true, [(q.dstAddr, q.len, ctrBody key q.lba q.len f.src)])

/-- CIP_RESULT (R341 to R348, R356 to R358): the request a role serves next ends. -/
def execCipResult (role : Nat) (f : CipFound) (hdrOk : Bool) (s : State) : Host.Outcome State Fault Refusal :=
  .next <|
    match s.cipNext role with
    | none => s
    | some (i, w) =>
      let q := w.req
      match w.failed with
      | some st => s.cipAnswer role i q st 0
      | none =>
        if q.op = 7 then
          let s := s.updCip role fun x => { x with
            cache := x.cache.filter fun k => k.slot != q.slot
            loads := x.loads.filter fun l => l.1 != q.slot }
          (s.cipAnswer role i q 0 0).raise (s.roleBench 5 role) 8 INFO 5 q.slot
        else match (s.cip role).key? q.slot q.kgen with
        | none => (s.cipLoads role).syncCip role
        | some k =>
          let s := s.updCip role fun x => { x with
            cache := mapIf (fun (e : KeyCache) => e.slot == q.slot) (fun e => { e with
            used := s.now, counter := if q.op = 4 then e.counter + 1 else e.counter }) x.cache }
          let s := s.rekeyHaul q k
          let iv := if q.op = 4 then sealIv role k.counter else q.iv
          let work := cipWork k.key iv q f
          if q.op = 4 && k.ivLost then s.cipAnswer role i q 9 0
          else if !f.srcOk && q.op != 3 then s.cipAnswer role i q 10 0
          else if !work.2.1 then s.cipAnswer role i q 12 0
          else if !f.checkOk then
            let s := s.countRepair (s.roleBench 5 role) 11 hdrOk
            if w.replay then s.cipAnswer role i q 13 0
            else match s.lightest ((List.range 8).filter (· != role)) with
              | none => s
              | some o =>
                let s := ((s.updCip role fun x => { x with queue := x.queue.eraseIdx i }).cipRefill role).syncCip role
                (s.bump (F.CIP_REPLAY role)).cipArrive o { w with replay := true }
          else
            let s := work.2.2.foldl (fun (s : State) p => s.send (.cipData p.1 p.2.1 p.2.2)) (s.cipCount role q)
            s.cipAnswer role i q (if work.1 = 0 then 0 else 11) (if q.op = 4 then iv else work.1)

/-- CIP_XTS_ENC (R341, R344, R351, R354). -/
def execCipXtsEnc (r : CipReq) (s : State) : Host.Outcome State Fault Refusal := .next (s.cipRequest { r with op := 1 })
/-- CIP_XTS_DEC (R341, R344, R351, R354). -/
def execCipXtsDec (r : CipReq) (s : State) : Host.Outcome State Fault Refusal := .next (s.cipRequest { r with op := 2 })
/-- CIP_XTS_ZERO (R341, R351, R354). -/
def execCipXtsZero (r : CipReq) (s : State) : Host.Outcome State Fault Refusal := .next (s.cipRequest { r with op := 3 })
/-- CIP_GCM_SEAL (R345, R346, R351, R354). -/
def execCipGcmSeal (r : CipReq) (s : State) : Host.Outcome State Fault Refusal := .next (s.cipRequest { r with op := 4 })
/-- CIP_GCM_OPEN (R345, R351, R354). -/
def execCipGcmOpen (r : CipReq) (s : State) : Host.Outcome State Fault Refusal := .next (s.cipRequest { r with op := 5 })
/-- CIP_CTR (R348, R351, R354). -/
def execCipCtr (r : CipReq) (s : State) : Host.Outcome State Fault Refusal := .next (s.cipRequest { r with op := 6 })

/-! ### Layouts (Tables CIP-3 and CIP-4, R356) -/

/-- The 64 bytes of a request's descriptor; `rsvd` stands for a reserved field that is not 0 and has no value of its own. -/
def CipReq.bytes (r : CipReq) : Nat :=
  putAt 0 1 (r.op % 16 + 16 * bit r.gchk + 32 * bit r.gout + 64 * bit r.nodst) + putAt 1 1 r.count + putAt 2 2 (r.slot % 2 ^ 15) + putAt 4 2 r.kgen +
  putAt 6 2 r.rtag + putAt 8 8 r.lba + putAt 16 12 r.iv + putAt 28 4 r.len + putAt 32 8 r.srcAddr + putAt 40 8 r.dstAddr + putAt 48 8 r.aux + putAt 56 2 r.aadLen

/-- The 16 bytes of a response: the bytes from 4 on are the IV of a seal, or BADMAP. -/
def cipResponseBytes (rtag status role tail : Nat) : Nat := putAt 0 2 rtag + putAt 2 1 status + putAt 3 1 role + putAt 4 12 tail

/-- The 128 bytes of a key-table entry, at slot × 128 of the key-table region: the key wrapped under KCW (R350). -/
def State.keyEntryBytes (s : State) (e : KeyEntry) : Nat :=
  let n := if e.slot < 16384 then 8 else 4
  putAt 0 72 (keyWrap (s.tru.kcw.getD 0) n e.key) + putAt 72 2 e.kgen + putAt 74 1 e.kind
def keyEntryAt (slot : Nat) : Nat := 128 * slot

/-- The request of CTL that zeroises a slot. -/
def zeroReq (slot kgen : Nat) : CipReq :=
  { src := 0, op := 7, gchk := false, gout := false, nodst := false, rsvd := false, count := 0, slot := slot, kgen := kgen, rtag := 0,
    lba := 0, iv := 0, len := 0, srcAddr := 0, dstAddr := 0, aux := 0, aadLen := 0 }

/-- Send KEY_ZERO for a slot to every role (R353 step 2). -/
def State.zeroAll (s : State) (q : CipReq) : State :=
  (List.range 8).foldl (fun s r => s.cipArrive r { req := q, replay := false, failed := none }) s

/-- CTL zeroises a slot (R353): the key-table entry first, gone or replaced, then KEY_ZERO to every role. -/
def State.zeroise (s : State) (slot kgen : Nat) (new : Option KeyEntry) : State :=
  let s : State := { s with keyTab := new.toList ++ s.keyTab.filter fun e => e.slot != slot }
  s.zeroAll (zeroReq slot kgen)

/-- A new key of a haul slot replaces the old one (R353, R598). -/
def State.setHaulKey (s : State) (slot kgen key : Nat) : State :=
  let old := ((s.keyTab.find? fun x => x.slot == slot).map (·.kgen)).getD 0
  s.zeroise slot old (some ⟨slot, kgen, 2, key⟩)

/-- Until an exchange completes the haul slots hold an all-zero key with KGEN 0 (R598). -/
def State.haulZero (s : State) : State := (List.range 4).foldl (fun (s : State) i => s.setHaulKey (16385 + i) 0 0) s

/-- Whether every role has acknowledged the zeroisation of a slot. -/
def State.zeroised (s : State) (slot : Nat) : Bool :=
  (List.range 8).all fun r => !(((s.cip r).queue ++ (s.cip r).held).any fun w => w.req.op == 7 && w.req.slot == slot)

/-- CIP_KEY_ZERO (R353): from CTL, the slot's entry of that generation leaves the key table and every role receives the
KEY_ZERO; from any other bench the request is refused with BAD_OP. -/
def execCipKeyZero (r : CipReq) (s : State) : Host.Outcome State Fault Refusal :=
  .next <|
    let q : CipReq := { r with op := 7 }
    if (s.cipRefusal q).isSome then s.cipRequest q
    else ({ s with keyTab := s.keyTab.filter fun e => !(e.slot == q.slot && e.kgen == q.kgen) }).zeroAll q

/-- Give queued requests of a slot a failed status. -/
def CipRole.failKey (x : CipRole) (p : CipReq → Bool) (st : Nat) : CipRole :=
  { x with queue := x.queue.map fun w => if w.req.op != 7 && w.failed.isNone && p w.req then { w with failed := some st } else w }

/-- The least recently used entry that is not pinned. -/
def CipRole.lru (x : CipRole) : Option KeyCache :=
  (x.cache.filter fun k => !x.pinned k.slot).foldl (fun m k => match m with
    | none => some k
    | some y => if k.used < y.used then some k else some y) none

/-- Enter a key into a role's cache; a new seal counter starts at 1 (R346, R351). -/
def CipRole.enter (x : CipRole) (e : KeyEntry) (now : Nat) : CipRole :=
  let cache := x.cache.filter fun k => k.slot != e.slot
  let cache := if cache.length < 128 then cache else match x.lru with | some v => cache.filter fun k => k.slot != v.slot | none => cache
  { x with cache := ⟨e.slot, e.kgen, e.key, now, 1, false⟩ :: cache }

/-- KEY_LOAD_DONE (R352): a load of a key-table entry has ended; `intact` is the outcome of the RFC 3394 integrity value,
which fails once KCW is zeroised (R601). -/
def execKeyLoadDone (role slot : Nat) (intact : Bool) (s : State) : Host.Outcome State Fault Refusal :=
  .next <|
    match (s.cip role).loads.find? fun l => l.1 == slot with
    | none => s
    | some (_, bad, again) =>
      if !s.keyAtHand slot then s else
      let drop := fun (x : CipRole) => { x with loads := x.loads.filter fun l => l.1 != slot }
      let reload := fun (b a : Bool) (x : CipRole) => { x with loads := (x.loads.filter fun l => l.1 != slot) ++ [(slot, b, a)] }
      let s : State := match s.keyTab.find? fun e => e.slot == slot with
        | none => s.updCip role fun x => (drop x).failKey (fun q => q.slot == slot) 6
        | some e =>
          if !intact || s.tru.blocked then
            if bad then (s.updCip role fun x => (drop x).failKey (fun q => q.slot == slot) 8).raise (s.roleBench 5 role) 5 ERROR 2 slot
            else (s.bump (F.CIP_KC_MISS role)).updCip role (reload true again)
          else
            let stale := (s.cip role).queue.any fun w => w.req.op != 7 && w.failed.isNone && w.req.slot == slot && w.req.kgen != e.kgen
            if stale && !again then (s.bump (F.CIP_KC_MISS role)).updCip role (reload bad true)
            else s.updCip role fun x => ((drop x).failKey (fun q => q.slot == slot && q.kgen != e.kgen) 7).enter e s.now
      (s.cipLoads role).syncCip role

end Sys2Proof.Machine
end

