-- ==== Sys2Proof/Machine/Namespace.lean ====
section
/-!
DEFINITION. Machine/Namespace.lean: reservations (R189 to R191), Namespace Management (R182 to R185), Namespace Attachment (R187,
R188), Format NVM (R186), and the admission and completion rows that also serve them.
-/

namespace Sys2Proof.Machine

/-! ### Reservations (R189 to R191; log entry 30) -/

/-- Change the reservation of a namespace. -/
def State.updResv (s : State) (nsid : Nat) (f : Resv → Resv) : State := s.updNs nsid fun n => { n with resv := f n.resv }

/-- Key of a registrant. -/
def Resv.key? (r : Resv) (i : Nat) : Option Nat := (r.regs.find? fun p => p.1 == i).map (·.2)

/-- Whether a type is one that every registrant holds. -/
def Resv.shared (r : Resv) : Bool := r.rtype == 5 || r.rtype == 6

/-- Whether an identity holds the reservation. -/
def Resv.holds (r : Resv) (i : Nat) : Bool := r.rtype != 0 && (r.holder == some i || (r.shared && (r.key? i).isSome))

/-- Drop registrants; a reservation whose holder leaves, or that loses its last registrant, is released. -/
def Resv.drop (r : Resv) (gone : Nat → Bool) : Resv :=
  let regs := r.regs.filter fun p => !gone p.1
  let free := if r.shared then regs.isEmpty else match r.holder with | some h => gone h | none => false
  { r with regs := regs, rtype := if free then 0 else r.rtype, holder := if free then none else r.holder }

/-- A registrant unregisters: the other registrants hear of a reservation of types 3 to 6 that this releases. -/
def State.resvLeave (s : State) (n : Namespace) (i : Nat) (f : Resv → Resv) : State :=
  let left := n.resv.drop (· == i)
  let s : State := if left.rtype = 0 && 3 ≤ n.resv.rtype then s.resvNotice n.nsid 2 fun j => j != i && (n.resv.key? j).isSome else s
  s.updResv n.nsid fun r => f { r.drop (· == i) with gen := (r.gen + 1) % 2 ^ 32 }

/-- The registration of an identity is dropped as an unregister drops it (R178). -/
def State.unregister (s : State) (nsid i : Nat) : State :=
  match s.ns? nsid with
  | some n => if (n.resv.key? i).isSome then (s.resvLeave n i id).mirrorNs nsid else s
  | none => s

/-- End a reservation command with the state after it: in paired operation the partner's copy holds its effect before it completes
(R174). -/
def State.resvEnd (s : State) (c : Cmd) (n : Namespace) : State := (s.mirrorEffect n.nsid c.id 0).finish c.id 0 St.ok

/-- Reservation Register. -/
def State.resvRegister (s : State) (c : Cmd) (n : Namespace) (i : Nat) : State :=
  let v := c.nv
  let crkey := bytesAt v.data 0 8
  let nrkey := bytesAt v.data 8 8
  let iekey := hasBit v.cdw10 3
  let cptpl := bits v.cdw10 31 30
  let mine := n.resv.key? i
  let ptpl := fun (r : Resv) => { r with ptpl := if cptpl = 2 then false else if cptpl = 3 then true else r.ptpl }
  let keep := fun (r : Resv) => ptpl { r with gen := (r.gen + 1) % 2 ^ 32 }
  if cptpl = 1 || 2 < bits v.cdw10 2 0 then s.finish c.id 0 St.field
  else match bits v.cdw10 2 0, mine with
  | 0, some k => if k = nrkey then s.finish c.id 0 St.ok else s.finish c.id 0 St.conflict
  | 0, none =>
    if 64 ≤ n.resv.regs.length then s.finish c.id 0 St.noCapacity
    else (s.updResv n.nsid fun r => keep { r with regs := r.regs ++ [(i, nrkey)] }).resvEnd c n
  | 1, some k =>
    if k != crkey && !iekey then s.finish c.id 0 St.conflict
    else (s.resvLeave n i ptpl).resvEnd c n
  | _, some k =>
    if k != crkey && !iekey then s.finish c.id 0 St.conflict
    else (s.updResv n.nsid fun r => keep { r with regs := mapIf (fun p => p.1 == i) (fun p => (p.1, nrkey)) r.regs }).resvEnd c n
  | _, none => s.finish c.id 0 St.conflict

/-- Commands of identities to a namespace that have not ended. -/
def State.cmdsTo (s : State) (nsid : Nat) (p : Nat → Bool) : List Cmd :=
  s.cmds.filter fun c => c.nv.qid != 0 && (s.cmdNss c.nv).contains nsid && c.ident.any p

/-- Whether a command has been dispatched or has its result. -/
def Cmd.under (c : Cmd) : Bool := c.phase == .dispatched || c.result.isSome

/-- Preempt the registrants that pass a test; with abort, their commands not yet dispatched complete with Command Aborted due
to Preempt and Abort and the Acquire waits for the dispatched ones (R190). -/
def State.preempt (s : State) (c : Cmd) (n : Namespace) (i rtype : Nat) (gone : Nat → Bool) (abort take : Bool) : State :=
  let out := (n.resv.regs.filter fun p => gone p.1).map (·.1)
  let s := s.updResv n.nsid fun r =>
    let r := { r with regs := r.regs.filter fun p => !gone p.1, gen := (r.gen + 1) % 2 ^ 32 }
    if take then { r with rtype := rtype, holder := if rtype = 5 || rtype = 6 then none else some i } else r
  let s := (s.resvNotice n.nsid 1 out.contains).mirrorEffect n.nsid c.id 0
  if !abort then s.finish c.id 0 St.ok else
  let hit := (s.cmdsTo n.nsid out.contains).filter fun x => x.id != c.id
  let s := (hit.filter fun x => !x.under).foldl (fun s x => (s.voidFree x.id).finish x.id 0 St.preempted) s
  if (hit.filter (·.under)).isEmpty then s.finish c.id 0 St.ok
  else { s with adminWaits := s.adminWaits ++ [.preempt c.id n.nsid out] }

/-- Reservation Acquire. -/
def State.resvAcquire (s : State) (c : Cmd) (n : Namespace) (i : Nat) : State :=
  let v := c.nv
  let prkey := bytesAt v.data 8 8
  let rtype := bits v.cdw10 15 8
  let act := bits v.cdw10 2 0
  let r := n.resv
  if hasBit v.cdw10 3 || 2 < act || rtype = 0 || 6 < rtype then s.finish c.id 0 St.field
  else if r.key? i != some (bytesAt v.data 0 8) then s.finish c.id 0 St.conflict
  else if act = 0 then
    if r.rtype = 0 then
      (s.updResv n.nsid fun r => { r with rtype := rtype, holder := if rtype = 5 || rtype = 6 then none else some i }).resvEnd c n
    else s.finish c.id 0 (if r.holds i && r.rtype == rtype then St.ok else St.conflict)
  else
    let abort := act == 2
    let keyed := fun j => j != i && r.key? j == some prkey
    if r.shared && prkey = 0 then s.preempt c n i rtype (· != i) abort true
    else if r.rtype != 0 && !r.shared && (r.holder.bind r.key?) == some prkey then s.preempt c n i rtype keyed abort true
    else if prkey = 0 then s.finish c.id 0 St.field
    else if r.regs.any fun p => keyed p.1 then s.preempt c n i rtype keyed abort false
    else s.finish c.id 0 St.conflict

/-- Reservation Release. -/
def State.resvRelease (s : State) (c : Cmd) (n : Namespace) (i : Nat) : State :=
  let v := c.nv
  let act := bits v.cdw10 2 0
  let r := n.resv
  if hasBit v.cdw10 3 || 1 < act then s.finish c.id 0 St.field
  else if r.key? i != some (bytesAt v.data 0 8) then s.finish c.id 0 St.conflict
  else if act = 1 then
    ((s.updResv n.nsid fun r => { r with rtype := 0, holder := none, regs := [], gen := (r.gen + 1) % 2 ^ 32 }).resvNotice n.nsid 3
      fun j => j != i && (r.key? j).isSome).resvEnd c n
  else if !r.holds i then s.finish c.id 0 St.ok
  else if r.rtype != bits v.cdw10 15 8 then s.finish c.id 0 St.field
  else
    let s := s.updResv n.nsid fun r => { r with rtype := 0, holder := none }
    (if 3 ≤ r.rtype then s.resvNotice n.nsid 2 fun j => j != i && (r.key? j).isSome else s).resvEnd c n

/-- Reservation Report: the extended structure of 64-byte entries, one for each controller of a registrant, or one for a
registrant with none. -/
def State.resvReport (s : State) (c : Cmd) (n : Namespace) : State :=
  let v := c.nv
  let r := n.resv
  let entry := fun (i cntlid : Nat) =>
    putAt 0 2 cntlid + putAt 2 1 (bit (r.holds i)) + putAt 8 8 ((r.key? i).getD 0) + putAt 16 16 (((s.ident? i).map (·.hostId)).getD 0)
  let rows : List Nat := r.regs.flatMap fun p =>
    let ks := (s.ctrls.filter fun k => k.ident == some p.1).map fun k => k.index + 1
    (if ks.isEmpty then [0xFFFF] else ks).map fun k => entry p.1 k
  let head := putAt 0 4 r.gen + putAt 4 1 r.rtype + putAt 5 2 rows.length + putAt 9 1 (bit r.ptpl)
  let all := rows.zipIdx.foldl (fun (a : Nat) (p : Nat × Nat) => a + putAt (64 + 64 * p.2) 64 p.1) head
  if !hasBit v.cdw11 0 then s.finish c.id 0 ⟨0, 0x18, 1⟩
  else
    let len := 4 * (v.cdw10 + 1)
    (s.hostBuf c len (all % 2 ^ (8 * len))).finish c.id 0 St.ok

/-- Whether an opcode is a reservation command. -/
def resvOpcode (o : Nat) : Bool := o == 0x0D || o == 0x0E || o == 0x11 || o == 0x15

/-- Run a reservation command whose checks pass. -/
def State.resvRun (s : State) (c : Cmd) : State :=
  match s.ns? c.nv.nsid, c.ident with
  | some n, some i =>
    if c.nv.opc = 0x0D then s.resvRegister c n i
    else if c.nv.opc = 0x0E then s.resvReport c n
    else if c.nv.opc = 0x11 then s.resvAcquire c n i
    else s.resvRelease c n i
  | _, _ => s

/-- Whether a Namespace Management, Namespace Attachment, Format NVM or reservation command has to wait for one received before it to take
effect (R174): a deletion or a format under way, or another that waits. -/
def State.mustWait (s : State) : Bool :=
  s.adminWaits.any fun w => match w with | .turn .. | .delete .. | .format .. => true | _ => false

/-- Let a command take effect in its turn (R174). -/
def State.inTurn (s : State) (c : Cmd) (op : NsOp) (k : State → State) : State :=
  if s.mustWait then { s with adminWaits := s.adminWaits ++ [.turn c.id op] } else k s

/-- Run a reservation command in its turn; a report changes nothing and has none. -/
def State.resvTurn (s : State) (c : Cmd) : State :=
  if c.nv.opc = 0x0E then s.resvRun c else s.inTurn c .reservation fun s => s.resvRun c

/-- A reservation command arrives: delivered, and run at once when its order is met and its checks pass; else it waits, as
every I/O command does, for COMMAND_ADMISSION. -/
def State.resvCmd (s : State) (v : NvmeCmd) : State :=
  let id := s.nextCmd
  let s := s.deliverIo v
  match s.cmd? id with
  | none => s
  | some c =>
    if c.result.isSome || !s.orderMet c || !s.due c.readyAt then s
    else match s.ioCheck c with
    | some st => s.refuseIo c st
    | none => if s.serving_ then s.resvTurn c else s

/-- RESERVATION_REGISTER (R189). -/
def execReservationRegister (v : NvmeCmd) (s : State) : Host.Outcome State Fault Refusal := .next (s.resvCmd { v with opc := 0x0D })
/-- RESERVATION_REPORT (R189). -/
def execReservationReport (v : NvmeCmd) (s : State) : Host.Outcome State Fault Refusal := .next (s.resvCmd { v with opc := 0x0E })
/-- RESERVATION_ACQUIRE (R190). -/
def execReservationAcquire (v : NvmeCmd) (s : State) : Host.Outcome State Fault Refusal := .next (s.resvCmd { v with opc := 0x11 })
/-- RESERVATION_RELEASE (R189). -/
def execReservationRelease (v : NvmeCmd) (s : State) : Host.Outcome State Fault Refusal := .next (s.resvCmd { v with opc := 0x15 })

/-- COMMAND_ADMISSION (R140, R166, R209): a role takes the next of its delivered commands: one whose order is met and whose
checks fail completes with its status; a reservation command runs; otherwise the scheduler's pick is admitted. -/
def execCommandAdmission (role : Nat) (s : State) : Host.Outcome State Fault Refusal :=
  .next <|
    if s.halRole == 2 || s.halRole == 4 then s else
    let waiting := fun (c : Cmd) => s.adminWaits.any fun w => match w with | .preempt i _ _ | .turn i _ => i == c.id | _ => false
    let mine := s.cmds.filter fun c =>
      c.nv.qid != 0 && s.homeRole c.nv == role && c.phase == .delivered && c.result.isNone && s.orderMet c && !waiting c
    match mine.findSome? fun c => (s.ioCheck c).map fun st => (c, st) with
    | some (c, st) => s.refuseIo c st
    | none => if !s.serving_ then s else
      match mine.find? fun c => resvOpcode c.nv.opc && s.due c.readyAt with
      | some c => s.resvTurn c
      | none => match s.pick role with
        | some c => s.admitCmd c
        | none => s

/-! ### Create (R182 to R184, R285) -/

/-- The lowest free NSID, none freed less than 10 ms ago. -/
def State.freeNsid? (s : State) : Option Nat :=
  ((List.range 16384).map (· + 1)).find? fun n =>
    !(s.nss.any fun x => x.nsid == n) && !(s.freedNsids.any fun f => f.nsid == n && !s.due (f.at_ + msU 10))

/-- Runs of consecutive rows of an ascending list. -/
def rowRuns : List Nat → List (Nat × Nat)
  | [] => []
  | r :: rest => match rowRuns rest with
    | (a, n) :: t => if a = r + 1 then (r, n + 1) :: t else (r, 1) :: (a, n) :: t
    | [] => [(r, 1)]

/-- Rows a fixed-layout create takes, with the rows by which F_g rises (R285; their order in the list, log entry 41). -/
def State.rowsFor (s : State) (g nsze : Nat) : List (Nat × Nat) × Nat :=
  let x := s.geo g
  let need := ceilDiv (ceilDiv nsze (16 * x.k)) x.spr
  let free := (sortNat (s.group g).freeFixed).take need
  let more := need - free.length
  let top := (s.group g).plog
  (rowRuns (sortNat ((List.range more).map (fun i => top - more + i) ++ free)), more)

/-- Whether a group can reserve or allocate a new namespace (reason 7 of Table NSA-4, R228, R285). -/
def State.canHold (s : State) (g : Nat) (fixed : Bool) (nsze ncap : Nat) : Bool :=
  if fixed then
    let (runs, more) := s.rowsFor g nsze
    let s' := s.updGroup g fun x => { x with fixedRows := x.fixedRows + more }
    (s.geo g).spr != 0 && runs.length ≤ 16 && more ≤ (s.group g).plog && s.ncapOf g ≤ s'.capTotal g
  else s.ncapOf g + ncap ≤ s.capTotal g

/-- Whether a group is configured and its policy admits a class (R224, R226). -/
def State.admitsClass (s : State) (g : Nat) (fixed : Bool) : Bool :=
  (s.group g).configured && s.isSet (if fixed then F.LAY_GCFG_ADMIT_FIX g else F.LAY_GCFG_ADMIT_LOG g)

/-- The group GROUP names, or the one with the most free capacity (Table NSA-3). -/
def State.chooseGroup (s : State) (g : Nat) (fixed : Bool) : Option Nat :=
  if g = 0xFF then
    ((List.range 8).filter fun g => s.admitsClass g fixed).foldl (fun m g => match m with
      | none => some g
      | some h => if s.capTotal h - s.ncapOf h < s.capTotal g - s.ncapOf g then some g else some h) none
  else if g < 8 && s.admitsClass g fixed then some g else none

/-- Whether a format and protection type are refused, with the reason (Table NSA-4). -/
def formatRefusal (lbaf : Nat) (ext : Bool) (pit : Nat) : Option Nat :=
  if 2 < lbaf || (lbaf != 0 && !ext) then some 1
  else if pit = 2 || 3 < pit || (pit != 0 && lbaf = 0) then some 2 else none

/-- Whether the rows of a namespace hold no stripe (R285 step 3). -/
def State.rowsClear (s : State) (g : Nat) (rows : List (Nat × Nat)) : Bool :=
  !((s.stripesOf g).any fun x => rows.any fun r => r.1 ≤ x.row && x.row < r.1 + r.2)

/-- The default profile of a namespace (R199). -/
def Profile.default : Profile := { Profile.zero with weight := 100, lclass := 1, burst := 10 }

/-- Regions of a fixed-layout namespace. -/
def regionsOf (nsze : Nat) : List Nat := List.range (ceilDiv nsze 16384)

/-- Draw a namespace's key into its slot (R184, R350). -/
def State.drawKey (s : State) (nsid gen : Nat) : KeyEntry × State :=
  let (k, s) := s.draw .keyMaterial (2 ^ 512)
  (⟨nsid - 1, gen, 1, k⟩, s)

/-- Create a namespace (R182 to R184, R199, R218, R285). -/
def State.nsCreate (s : State) (c : Cmd) : State :=
  let v := c.nv
  let d := v.data
  let nsze := bytesAt d 0 8
  let ncap := bytesAt d 8 8
  let flbas := bytesAt d 26 1
  let pit := bytesAt d 29 1 % 8
  let cls := bytesAt d 3840 1
  let fixed := cls == 1
  let unit := if fixed then 16384 else 512
  let tenant := if bytesAt d 3844 4 != 0 then bytesAt d 3844 4 else ((c.ident.bind s.ident?).map (·.tenant)).getD 0
  let g? := s.chooseGroup (bytesAt d 3841 1) fixed
  let g := g?.getD 0
  if !s.hasPriv v.ctl 0 then s.finish c.id 0 St.denied
  else match formatRefusal (flbas % 16) (hasBit flbas 4) pit with
  | some r => s.finish c.id r St.badFormat
  | none =>
    if nsze = 0 || nsze % unit != 0 || 2 ^ 38 < nsze || (if fixed then ncap != nsze else nsze < ncap) then s.finish c.id 3 St.field
    else if 1 < cls || g?.isNone || bytesAt d 3842 2 != 0 then s.finish c.id 4 St.field
    else match s.freeNsid? with
    | none => s.finish c.id 5 St.noNsid
    | some nsid =>
      if fixed && 64 ≤ (s.nss.filter (·.fixed)).length then s.finish c.id 6 St.noNsid
      else if !s.canHold g fixed nsze ncap then s.finish c.id 7 St.noCapacity
      else if !s.tenantIds.contains tenant && 16384 ≤ s.tenantIds.length then s.finish c.id 8 St.noNsid
      else
        let gen := ((s.freedNsids.find? fun f => f.nsid == nsid).map fun f => (f.gen + 1) % 65536).getD 0
        let (key, s) := s.drawKey nsid gen
        let (rows, more) := if fixed then s.rowsFor g nsze else ([], 0)
        let n : Namespace := {
          nsid := nsid, fixed := fixed, group := g, nsze := nsze, ncap := ncap, lbaf := flbas % 16, pit := pit, nmic := bytesAt d 30 1,
          tenant := tenant, gen := gen, ready := true, deleting := false, attached := [], mapped := 0, rows := rows,
          unfilled := if fixed then regionsOf nsze else [], profile := Profile.default, tats := Tats.zero,
          minTag := s.roleTime (nsid % 4), startTag := s.roleTime (nsid % 4), meter := Meter.zero, gap := false, lastSat := none,
          resv := { rtype := 0, holder := none, regs := [], gen := 0, ptpl := false }, lostSeq := 0, overflow := false, lost := [],
          marks := [], reported := [], moveTo := none }
        let inRun := fun (r : Nat) => rows.any fun p => p.1 ≤ r && r < p.1 + p.2
        let s : State := { s with
          nss := s.nss ++ [n]
          keyTab := key :: s.keyTab.filter fun e => e.slot != nsid - 1
          tenants := mapIf (fun (t : Tenant) => t.id == tenant) (fun t => { t with emptySince := none }) s.tenants }
        let s := s.updGroup g fun x => { x with
          fixedRows := x.fixedRows + more, freeFixed := x.freeFixed.filter fun r => !inRun r }
        let s := (s.syncGroup g).mirrorEffect nsid c.id nsid
        if s.rowsClear g rows then s.finish c.id nsid St.ok
        else { s with adminWaits := s.adminWaits ++ [.create c.id nsid] }

/-! ### Delete, detach, format (R185 to R188) -/

/-- The survey tree of a namespace is left to the sweep: its places, for the generation they belong to (R185, R186). -/
def State.abandonTree (s : State) (n : Namespace) : State :=
  let places := (s.survey.filter fun m => m.nsid == n.nsid).filterMap fun m => Entry.place? (some m.entry)
  let s : State := { s with
    survey := s.survey.filter fun m => m.nsid != n.nsid
    pendings := s.pendings.filter fun p => p.nsid != n.nsid
    objs := mapIf (fun (o : SvyObj) => o.kind ≤ 1 && o.owner == n.nsid && o.gen == n.gen) (fun o => { o with dirty := false, cached := false }) s.objs
    sweeps := if n.fixed then s.sweeps else s.sweeps ++ [(n.nsid, n.gen, places)] }
  (s.updGroup n.group fun g => { g with mapped := g.mapped - n.mapped }).updNs n.nsid fun x => { x with mapped := 0 }

/-- What the cache and the fixed layout hold of a namespace goes. -/
def State.dropContents (s : State) (nsid : Nat) : State :=
  let s := ((s.lines.filter fun l => l.nsid == nsid).map (·.lba)).foldl (fun s b => s.dropLine nsid b) s
  { s with
    fixblks := s.fixblks.filter fun b => b.nsid != nsid
    fixupds := s.fixupds.filter fun u => u.nsid != nsid }

/-- Free fixed rows of a group return to the log while row P - F is free (R285). -/
def State.lowerFixed (s : State) (g : Nat) : Nat → State
  | 0 => s
  | fuel + 1 =>
    let x := s.group g
    if 0 < x.fixedRows && x.freeFixed.contains x.plog then
      (s.updGroup g fun y => { y with fixedRows := y.fixedRows - 1, freeFixed := y.freeFixed.erase x.plog }).lowerFixed g fuel
    else s

/-- Rows of runs. -/
def runRows (runs : List (Nat × Nat)) : List Nat := runs.flatMap fun p => (List.range p.2).map (p.1 + ·)

/-- Step 5 of a deletion: the namespace and its reservation of capacity are gone; `done`, the command this completes. -/
def State.nsGone (s : State) (nsid : Nat) (done : Option (Nat × Nat)) : State :=
  match s.ns? nsid with
  | none => s
  | some n =>
    let s := ((s.retire n).abandonTree n).dropContents nsid
    let s : State := { s with
      nss := s.nss.filter fun x => x.nsid != nsid
      msaved := s.msaved.filter fun p => p.1 != nsid
      freedNsids := ⟨nsid, s.now, n.gen⟩ :: s.freedNsids.filter fun f => f.nsid != nsid }
    let s : State := if n.fixed then
        let rows := runRows n.rows
        (s.updGroup n.group fun g => { g with freeFixed := g.freeFixed ++ rows }).lowerFixed n.group
          ((s.group n.group).freeFixed.length + rows.length)
      else s
    (s.syncGroup n.group).mirrorNote (.nsGone nsid done)

/-- Whether nothing of a namespace is still under way: commands, window revocations, write-backs. -/
def State.nsQuiet (s : State) (nsid : Nat) : Bool :=
  !(s.cmds.any fun c => c.nv.qid != 0 && c.nv.nsid == nsid && c.result.isNone) &&
  !(s.windows.any fun w => w.nsid == nsid && (w.valid || w.revoking.isSome)) &&
  !(s.lines.any fun l => l.nsid == nsid && l.wb.isSome)

/-- Detach a namespace from identities: notices, and the windows of R114. -/
def State.detach (s : State) (nsid : Nat) (out : List Nat) : State :=
  let s := s.updNs nsid fun n => { n with attached := n.attached.filter fun i => !out.contains i }
  let s := s.nsChanged nsid out.contains
  s.revokeWhere fun w => w.nsid == nsid && (out.contains w.host || (w.host == 0xFFFF && out.contains w.publisher))

/-- Delete namespaces (R185): steps 1 to 3 at once; the rest when what is under way has ended. -/
def State.nsDelete (s : State) (c : Cmd) : State :=
  let v := c.nv
  let nss := (s.nss.filter fun n => !n.deleting && (v.nsid == 0xFFFFFFFF || n.nsid == v.nsid)).map (·.nsid)
  if !s.hasPriv v.ctl 0 then s.finish c.id 0 St.denied
  else if nss.isEmpty && v.nsid != 0xFFFFFFFF then s.finish c.id 0 St.nsInvalid
  else
    let s := nss.foldl (fun s k =>
      let who := ((s.ns? k).map (·.attached)).getD []
      let s := s.updNs k fun n => { n with deleting := true }
      let s := (s.cmds.filter fun x => x.nv.qid != 0 && x.nv.nsid == k && !x.under).foldl (fun s x => s.discard x) s
      ((s.revokeWhere fun w => w.nsid == k).detach k who).mirrorNs k) s
    { s with adminWaits := s.adminWaits ++ [.delete c.id nss] }

/-- The identities a Controller List names (R187): CNTLIDs, or identity indices; none when the list is refused. -/
def State.ctrlList (s : State) (v : NvmeCmd) : Option (List Nat) :=
  let n := bytesAt v.data 0 2
  let es := (List.range (min n 2047)).map fun i => bytesAt v.data (2 + 2 * i) 2
  let ids := es.map fun e =>
    if hasBit v.cdw11 0 then (s.ident? e).map (·.index) else if e = 0 then none else (s.ctrl? (e - 1)).bind (·.ident)
  if n = 0 || 2047 < n || 1 < v.cdw11 || ids.any (·.isNone) then none
  else
    let l := ids.filterMap id
    if l.dedup.length = l.length then some l else none

/-- Attach a namespace to identities (R187). -/
def State.nsAttach (s : State) (c : Cmd) : State :=
  let v := c.nv
  if !s.hasPriv v.ctl 0 then s.finish c.id 0 St.denied
  else match s.ns? v.nsid with
  | none => s.finish c.id 0 St.nsInvalid
  | some n =>
    if n.deleting then s.finish c.id 0 St.nsInvalid
    else match s.ctrlList v with
    | none => s.finish c.id 0 St.ctrlList
    | some l =>
      if l.any n.attached.contains then s.finish c.id 0 St.attached
      else if !hasBit n.nmic 0 && 1 < n.attached.length + l.length then s.finish c.id 0 St.nsPrivate
      else
        let s := (s.updNs v.nsid fun n => { n with attached := n.attached ++ l }).nsChanged v.nsid l.contains
        (s.mirrorEffect v.nsid c.id 0).finish c.id 0 St.ok

/-- Detach a namespace from identities (R188). -/
def State.nsDetach (s : State) (c : Cmd) : State :=
  let v := c.nv
  if !s.hasPriv v.ctl 0 then s.finish c.id 0 St.denied
  else match s.ns? v.nsid with
  | none => s.finish c.id 0 St.nsInvalid
  | some n =>
    if n.deleting then s.finish c.id 0 St.nsInvalid
    else match s.ctrlList v with
    | none => s.finish c.id 0 St.ctrlList
    | some l =>
      if !l.all n.attached.contains then s.finish c.id 0 St.notAttached
      else
        let s := (s.detach v.nsid l).mirrorEffect v.nsid c.id 0
        { s with adminWaits := s.adminWaits ++ [.detach c.id v.nsid l] }

/-- Apply a format (R186): the next generation, the new format, and no data, losses or marks. -/
def State.applyFormat (s : State) (n : Namespace) (cmd lbaf pit : Nat) : State :=
  let (key, s) := s.drawKey n.nsid ((n.gen + 1) % 65536)
  let s := ((s.abandonTree n).dropContents n.nsid).updNs n.nsid fun x => { x with
    gen := (n.gen + 1) % 65536, lbaf := lbaf, pit := pit, lost := [], lostSeq := 0, overflow := false, marks := [], reported := [],
    unfilled := if n.fixed then regionsOf n.nsze else [] }
  let s := s.zeroise (n.nsid - 1) n.gen (some key)
  ((s.nsChanged n.nsid n.attached.contains).syncGroup n.group).mirrorEffect n.nsid cmd 0

/-- Format a namespace (R186, R177, Table CMD-4; the fields of its CDW10, log entry 37). -/
def State.nsFormat (s : State) (c : Cmd) : State :=
  let v := c.nv
  if !s.hasPriv v.ctl 0 then s.finish c.id 0 St.denied
  else match s.ns? v.nsid with
  | none => s.finish c.id 0 St.nsInvalid
  | some n =>
    let lbaf := bits v.cdw10 3 0
    let pit := bits v.cdw10 7 5
    let others := s.ctrls.any fun k => k.index != v.ctl && s.nsAttached k.index v.nsid
    let busy := s.cmds.any fun x => x.id != c.id && x.nv.qid != 0 && x.nv.nsid == v.nsid
    if n.deleting then s.finish c.id 0 St.nsInvalid
    else if 2 < bits v.cdw10 11 9 then s.finish c.id 0 St.field
    else if (formatRefusal lbaf (hasBit v.cdw10 4) pit).isSome then s.finish c.id 0 St.badFormat
    else if others || busy || (s.windows.any fun w => w.nsid == v.nsid && w.valid) then s.finish c.id 0 St.sequence
    else if s.nsQuiet v.nsid then
      let s := s.applyFormat n c.id lbaf pit
      { s with adminWaits := s.adminWaits ++ [.zeroise c.id (v.nsid - 1)] }
    else { s with adminWaits := s.adminWaits ++ [.format c.id v.nsid lbaf pit] }

/-- End or replace a wait. -/
def State.setWait (s : State) (id : Nat) (w : Option AdminWait) : State :=
  { s with adminWaits := (s.adminWaits.filter fun x => x.cmd != id) ++ w.toList }

/-- Whether it is a waiting command's turn: it is the first of those that wait for one, and no deletion or format goes on. -/
def State.turnOf (s : State) (id : Nat) : Bool :=
  ((s.adminWaits.find? fun w => match w with | .turn .. => true | _ => false).map AdminWait.cmd) == some id &&
  !s.adminWaits.any fun w => match w with | .delete .. | .format .. => true | _ => false

/-- Let a command that waited for its turn take effect (R174). -/
def State.runOp (s : State) (c : Cmd) : NsOp → State
  | .create => s.nsCreate c
  | .delete => s.nsDelete c
  | .attach => s.nsAttach c
  | .detach => s.nsDetach c
  | .format => s.nsFormat c
  | .reservation => match s.ioCheck c with
    | some st => s.refuseIo c st
    | none => s.resvRun c

/-- Carry on a command that waits, when what it waits for has ended. -/
def State.adminGo (s : State) (id : Nat) : State :=
  match s.adminWaits.find? fun w => w.cmd == id with
  | none => s
  | some (.turn _ op) =>
    match s.cmd? id with
    | some c => if s.turnOf id then (s.setWait id none).runOp c op else s
    | none => s.setWait id none
  | some (.create _ nsid) =>
    match s.ns? nsid with
    | some n => if s.rowsClear n.group n.rows then (s.setWait id none).finish id nsid St.ok else s
    | none => s.setWait id none
  | some (.delete _ nss) =>
    if !nss.all s.nsQuiet then s
    else if s.keyTab.any fun e => nss.contains (e.slot + 1) && e.kind == 1 then
      nss.foldl (fun s k => s.zeroise (k - 1) (((s.ns? k).map (·.gen)).getD 0) none) s
    else if nss.all fun k => s.zeroised (k - 1) then ((nss.foldl (fun s k => s.nsGone k (if nss.getLast? = some k then some (id, 0) else none)) s).setWait id none).finish id 0 St.ok
    else s
  | some (.detach _ nsid out) =>
    let mine := fun (w : Window) => w.nsid == nsid && (out.contains w.host || (w.host == 0xFFFF && out.contains w.publisher))
    if (s.cmdsTo nsid out.contains).any (fun c => c.result.isNone) || (s.windows.any fun w => mine w && (w.valid || w.revoking.isSome)) then s
    else (s.setWait id none).finish id 0 St.ok
  | some (.preempt _ nsid out) =>
    if (s.cmdsTo nsid out.contains).any fun c => c.id != id && c.result.isNone then s else (s.setWait id none).finish id 0 St.ok
  | some (.format _ nsid lbaf pit) =>
    match s.ns? nsid with
    | some n => if s.nsQuiet nsid then (s.applyFormat n id lbaf pit).setWait id (some (.zeroise id (nsid - 1))) else s
    | none => s.setWait id none
  | some (.zeroise _ slot) => if s.zeroised slot then (s.setWait id none).finish id 0 St.ok else s

/-- NAMESPACE_CREATE (R174, R182 to R184, R199, R218, R285). -/
def execNamespaceCreate (v : NvmeCmd) (s : State) : Host.Outcome State Fault Refusal :=
  .next <| s.admin { v with opc := 0x0D } fun c s => s.inTurn c .create fun s => s.nsCreate c

/-- NAMESPACE_DELETE (R174, R185). -/
def execNamespaceDelete (v : NvmeCmd) (s : State) : Host.Outcome State Fault Refusal :=
  .next <| s.admin { v with opc := 0x0D } fun c s => s.inTurn c .delete fun s => s.nsDelete c

/-- NAMESPACE_ATTACH (R174, R187). -/
def execNamespaceAttach (v : NvmeCmd) (s : State) : Host.Outcome State Fault Refusal :=
  .next <| s.admin { v with opc := 0x15 } fun c s => s.inTurn c .attach fun s => s.nsAttach c

/-- NAMESPACE_DETACH (R174, R188). -/
def execNamespaceDetach (v : NvmeCmd) (s : State) : Host.Outcome State Fault Refusal :=
  .next <| s.admin { v with opc := 0x15 } fun c s => s.inTurn c .detach fun s => s.nsDetach c

/-- FORMAT_NVM (R174, R186). -/
def execFormatNvm (v : NvmeCmd) (s : State) : Host.Outcome State Fault Refusal :=
  .next <| s.admin { v with opc := 0x80 } fun c s => s.inTurn c .format fun s => s.nsFormat c

/-- DETACH_COMPLETE (R188): the detached identities' commands have ended and the windows are revoked. -/
def execDetachComplete (cmd : Nat) (s : State) : Host.Outcome State Fault Refusal := .next (s.adminGo cmd)

/-- COMMAND_COMPLETION (R142, R146, R148, R190): a command whose conditions hold posts its completion, or in paired operation
sends its record first; window accesses that waited for its lock go on (Table KEY-8). -/
def execCommandCompletion (id : Nat) (s : State) : Host.Outcome State Fault Refusal :=
  .next (if s.halRole == 2 || s.halRole == 4 then s else (((s.flushMet id).adminGo id).tryPost id).winProgress)

/-- NAMESPACE_SWEEP (R185, R186): the old tree is swept: LIVE of each entry's stripe falls, and a stripe whose LIVE reaches 0
enters FREEING; then the tree's object slots are free. The model sweeps a tree in one step. -/
def execNamespaceSweep (nsid gen : Nat) (s : State) : Host.Outcome State Fault Refusal :=
  .next <|
    match s.sweeps.find? fun w => w.1 == nsid && w.2.1 == gen with
    | none => s
    | some w =>
      let s : State := { s with
        sweeps := s.sweeps.erase w
        objs := s.objs.filter fun o => !(o.kind ≤ 1 && o.owner == nsid && o.gen == gen) }
      w.2.2.foldl (fun s p => (s.liveBy p false s.tally.seq).freeIfEmpty p.group p.stripe) s

/-- REGION_ZERO_FILL (R186, R204): a region's fill has run within the patrol budget; the writes that waited for it can be admitted. -/
def execRegionZeroFill (nsid region : Nat) (s : State) : Host.Outcome State Fault Refusal :=
  .next <|
    match s.ns? nsid with
    | none => s
    | some n =>
      if n.unfilled.contains region && s.rowsClear n.group n.rows && s.taskOk n.group 2 then
        let s := s.chargeTask n.group 2 (16384 * (1 + (s.geo n.group).m) * s.rd F.CMD_QOS_CFG_WCOST * costUnit)
        let s := s.updNs nsid fun x => { x with unfilled := x.unfilled.erase region }
        { s with fixblks := s.fixblks.filter fun b => !(b.nsid == nsid && b.lba / 16384 == region) }
      else s

end Sys2Proof.Machine
end

