-- ==== Sys2Proof/Machine/Capsule.lean ====
section
/-!
DEFINITION. Machine/Capsule.lean: a command capsule a transport delivers, read as an NVMe command (the layout of NVM Express Base
2.0 and NVMe over Fabrics, log entry 42) and handed to the meaning of its opcode; Firmware Image Download (R564); the placing of window bytes.
-/

namespace Sys2Proof.Machine

/-- The state after a meaning. -/
def after_ (s : State) (o : Host.Outcome State Fault Refusal) : State := match o with | .next t => t | _ => s

/-- The keyed SGL data block at a byte of a capsule (R139, Table CMD-4). -/
def parseKeyed (cap o : Nat) : KeyedBlk := ⟨bytesAt cap (o + 11) 4, bytesAt cap o 8, bytesAt cap (o + 8) 3⟩

/-- The data description of a capsule (R139). -/
def parseSgl (cap len : Nat) : Sgl :=
  let typ := bytesAt cap 39 1
  let size := bytesAt cap 32 4
  if typ = 0x40 then .keyed (parseKeyed cap 24)
  else if typ = 0x01 then .inCapsule size
  else if typ = 0x31 then
    let ofs := 64 + bytesAt cap 24 8
    if size % 16 != 0 || len < ofs + size then .bad
    else
      let at_ := (List.range (size / 16)).map fun i => ofs + 16 * i
      if at_.all fun o => bytesAt cap (o + 15) 1 == 0x40 then .segment (at_.map (parseKeyed cap)) else .bad
  else if typ = 0 && size = 0 then .none
  else .bad

/-- A capsule of len bytes received on a queue, as the message of a number where it came on an NRT queue; `buf` is the host buffer it
names. -/
def parseCapsule (ctl qid : Nat) (ord : Bool) (msg : Option Nat) (cap len buf : Nat) : NvmeCmd :=
  let d := parseSgl cap len
  let inCap := match d with | .inCapsule _ => true | _ => false
  let ofs := 64 + bytesAt cap 24 8
  { ctl := ctl, qid := qid, cid := bytesAt cap 2 2, opc := bytesAt cap 0 1, fuse := bits (bytesAt cap 1 1) 1 0,
    psdt := bits (bytesAt cap 1 1) 7 6, nsid := bytesAt cap 4 4, cdw2 := bytesAt cap 8 4, cdw3 := bytesAt cap 12 4,
    cdw10 := bytesAt cap 40 4, cdw11 := bytesAt cap 44 4, cdw12 := bytesAt cap 48 4, cdw13 := bytesAt cap 52 4,
    cdw14 := bytesAt cap 56 4, cdw15 := bytesAt cap 60 4, sgl := d,
    data := if inCap then bytesAt cap ofs (len - ofs) else buf, dataLen := if inCap then len - ofs else 0,
    fctype := bytesAt cap 4 1, ord := ord, msg := msg }

/-- A DH-HMAC-CHAP message in an Authentication Send (log entries 42, 124). -/
def parseAuth (d : Nat) : AuthMsg :=
  let ids := fun (o n : Nat) => (List.range n).map fun i => bytesAt d (o + i) 1
  let hl := bytesAt d 6 1
  match bytesAt d 0 1, bytesAt d 1 1 with
  | 0, 0 =>
    let known := bytesAt d 8 1 == 1
    .negotiate (bytesAt d 4 2) hl (if known then ids 12 (bytesAt d 10 1) else []) (if known then ids 42 (bytesAt d 11 1) else [])
  | 1, 2 => .reply (bytesAt d 16 hl) (bytesAt d (16 + 2 * hl) (bytesAt d 10 2))
  | 1, 4 => .success2
  | _, _ => .failure2

/-- Property Set: the effect its offset and value ask for (R155, R158, R159). -/
def State.propertySetRun (s : State) (v : NvmeCmd) : State :=
  let cc := ((s.ctrl? v.ctl).map (·.cc)).getD 0
  if v.cdw11 = 0x20 then after_ s (execPropertySetNssr v s)
  else if v.cdw11 = 0x14 && hasBit cc 0 && !hasBit v.cdw12 0 then after_ s (execPropertySetCcEnClear v s)
  else if v.cdw11 = 0x14 && bits v.cdw12 15 14 != 0 && bits v.cdw12 15 14 != bits cc 15 14 then after_ s (execPropertySetCcShn v s)
  else after_ s (execPropertySet v s)

/-- Set Features and Get Features by their Feature ID (Table CMD-4). -/
def State.featureRun (s : State) (v : NvmeCmd) : State :=
  match v.opc, v.cdw10 % 256 with
  | 0x09, 0xC0 => after_ s (execSetFeaturesQosProfile v s)
  | 0x09, 0xC1 => after_ s (execSetFeaturesQueueOrdering v s)
  | 0x09, 0xC2 => if v.cdw11 % 16 = 1 then after_ s (execSetFeaturesWindowPublish v s) else after_ s (execSetFeaturesWindowRevoke v s)
  | 0x09, _ => after_ s (execSetFeatures v s)
  | _, 0xC0 => after_ s (execGetFeaturesQosProfile v s)
  | _, 0xC1 => after_ s (execGetFeaturesQueueOrdering v s)
  | _, 0xC2 => after_ s (execGetFeaturesWindow v s)
  | _, _ => after_ s (execGetFeatures v s)

/-- Get Log Page by its identifier (R137, R193). -/
def State.logPageRun (s : State) (v : NvmeCmd) : State :=
  match v.cdw10 % 256 with
  | 0xC0 => after_ s (execLogPageLostRanges v s)
  | 0xC1 => after_ s (execLogPageMetering v s)
  | 0xC2 => after_ s (execLogPageLayoutHealth v s)
  | 0xC3 => after_ s (execLogPageEventExcerpt v s)
  | _ => after_ s (execGetLogPage v s)

/-- A Fabrics command by its type (R138). -/
def State.fabricsRun (s : State) (cid : Nat) (v : NvmeCmd) : State :=
  match v.fctype with
  | 0 => s.propertySetRun v
  | 1 => s.connect cid v
  | 4 => after_ s (execPropertyGet v s)
  | 5 => after_ s (execAuthenticationSend v (parseAuth v.data) s)
  | 6 => after_ s (execAuthenticationReceive v s)
  | _ => after_ s (execUnsupportedOpcode v s)

/-- Bytes of a bank. -/
def Flash.bankSize (x : Flash) : Nat := x.size / 4 * 2 ^ 20

/-- FIRMWARE_IMAGE_DOWNLOAD (R564, Table CMD-4): a piece goes into the download buffer, and to the partner's. -/
def execFirmwareImageDownload (v : NvmeCmd) (s : State) : Host.Outcome State Fault Refusal :=
  .next <| s.admin { v with opc := 0x11 } fun c s =>
    let len := (v.cdw10 + 1) * 4
    let ofs := v.cdw11 * 4
    if !s.hasPriv v.ctl 2 then s.finish c.id 0 St.denied
    else if len % 4096 != 0 || ofs % 4096 != 0 || s.flash.bankSize < ofs + len then s.finish c.id 0 St.field
    else
      let s := s.updLive fun l => { l with pieces := (ofs, len) :: l.pieces.filter fun p => p.1 != ofs }
      let s : State := if ofs = 0 then { s with imgDamaged := false } else s
      let s : State := if s.paired then (s.haulSend 3).send (.imagePiece ofs len) else s
      s.finish c.id 0 St.ok

/-- A Firmware Commit that came in a capsule (R565): a CA above 011b is refused; else it waits in flight for the row of its CA,
which carries what the flash and the partner hold (log entry 68). -/
def State.commitArrives (s : State) (v : NvmeCmd) : State :=
  s.admin v fun c s => if !s.hasPriv v.ctl 2 then s.finish c.id 0 St.denied else if 3 < bits v.cdw10 5 3 then s.finish c.id 0 St.field else s

/-- Namespace Management or Attachment with a SEL above 1: Operation Denied without NSMGMT (R177), else Invalid Field in Command. -/
def State.badSel (s : State) (v : NvmeCmd) : State :=
  s.admin v fun c s => s.finish c.id 0 (if s.hasPriv v.ctl 0 then St.field else St.denied)

/-- An admin command by its opcode (Table CMD-4). -/
def State.adminRun (s : State) (v : NvmeCmd) : State :=
  let sel := bits v.cdw10 3 0
  match v.opc with
  | 0x02 => s.logPageRun v
  | 0x06 => after_ s (execIdentify v s)
  | 0x08 => after_ s (execAbort v s)
  | 0x09 | 0x0A => s.featureRun v
  | 0x0C => after_ s (execAsyncEventRequest v s)
  | 0x0D => if sel = 0 then after_ s (execNamespaceCreate v s)
      else if sel = 1 then after_ s (execNamespaceDelete v s) else s.badSel v
  | 0x10 => s.commitArrives v
  | 0x11 => after_ s (execFirmwareImageDownload v s)
  | 0x15 => if sel = 0 then after_ s (execNamespaceAttach v s)
      else if sel = 1 then after_ s (execNamespaceDetach v s) else s.badSel v
  | 0x18 => after_ s (execKeepAlive v s)
  | 0x80 => after_ s (execFormatNvm v s)
  | _ => after_ s (execUnsupportedOpcode v s)

/-- Hand a command received on a queue to the meaning of its opcode. -/
def State.commandRun (s : State) (cid : Nat) (v : NvmeCmd) : State :=
  if v.opc = 0x7F then s.fabricsRun cid v
  else if v.qid = 0 then s.adminRun v
  else if resvOpcode v.opc then s.resvCmd v
  else s.deliverIo v

/-- A capsule delivered on a connection, as the message of a number: on one bound to no queue yet only a Connect has a meaning. -/
def State.capsule (s : State) (c : Conn) (ord : Bool) (msg cap len buf : Nat) : State :=
  let at_ := if c.mode == .nrt then some msg else none
  match c.queue with
  | some (ctl, qid) => s.commandRun c.cid (parseCapsule ctl qid ord at_ cap len buf)
  | none =>
    let v := parseCapsule 0 0 ord at_ cap len buf
    if v.opc = 0x7F && v.fctype = 1 then s.connect c.cid v else s.connectAnswer c.cid 0 v 0 St.sequence

/-! ### Placing window bytes (R78, R381, R382) -/

/-- Blocks that n bytes from a byte of a namespace touch, with the byte within the block, how many, and where in the bytes. -/
def lineSpans (byte n : Nat) : List (Nat × Nat × Nat × Nat) :=
  if n = 0 then [] else
  (List.range ((byte + n - 1) / 4096 + 1 - byte / 4096)).map fun i =>
    let lba := byte / 4096 + i
    let a := max byte (lba * 4096)
    let b := min (byte + n) ((lba + 1) * 4096)
    (lba, a - lba * 4096, b - a, a - byte)

/-- Place the bytes of a WRITE packet into pending copies; none free drops the packet. -/
def State.placeBytes (s : State) (cid msg key addr n v : Nat) : State × Bool :=
  match s.window? (key / 256) with
  | none => (s, true)
  | some w =>
    let spans := lineSpans (w.slba * 4096 + (addr - w.base)) n
    let has := fun (lba : Nat) (p : PendCopy) => p.cid == cid && p.msg == msg && p.nsid == w.nsid && p.lba == lba
    let fresh := (spans.filter fun x => !s.pends.any (has x.1)).length
    if 262144 < s.pends.length + fresh then ((s.bump F.MEM_PEND_FULL).memNotice 12 NOTICE 0x0B 0, false)
    else
      let put := fun (l : List PendCopy) (x : Nat × Nat × Nat × Nat) =>
        let (lba, o, k, at_) := x
        let old := (l.find? (has lba)).getD { cid := cid, msg := msg, nsid := w.nsid, lba := lba, data := 0, mask := 0 }
        { old with data := spliceAt old.data o k (bytesAt v at_ k), mask := old.mask ||| ((2 ^ k - 1) * 2 ^ o) } :: l.filter fun p => !has lba p
      ({ s with pends := spans.foldl put s.pends }, true)

/-- Bytes of the pieces of a message, in place. -/
def joinPieces (l : List (Nat × Nat)) : Nat := l.foldl (fun a p => a + p.2 * 2 ^ (8 * p.1)) 0

end Sys2Proof.Machine
end

