-- ==== Sys2Proof/Machine/Switch.lean ====
section
/-!
DEFINITION. Machine/Switch.lean: the switch core: classification (R451 to R455), forwarding to the active (R457, R458),
buffer sharing (R461), markers and early drop (R463, R464),
and the commands of the Ethernet ports that move frames.
-/

namespace Sys2Proof.Machine

/-! ### Tables and addresses -/

/-- A word of the SWC window. -/
def State.swcWord (s : State) (off : Nat) : Nat := (s.word (16 * 0x100000 + off)).toNat

/-- n words of the SWC window as one little-endian number. -/
def State.swcWords (s : State) (off n : Nat) : Nat :=
  (List.range n).foldl (fun a i => a + s.swcWord (off + 4 * i) * 2 ^ (32 * i)) 0

/-- Whether an address is an own address of a MAC and VID (Table SWC-4). -/
def State.ownAddr (s : State) (m vid addr : Nat) : Bool :=
  (List.range 64).any fun e =>
    let w := s.swcWord (0x8000 + 32 * e + 16)
    bits w 8 8 == 1 && bits w 4 0 == m && bits w 27 16 == vid && swapBytes (s.swcWords (0x8000 + 32 * e) 4) 16 == addr

/-- Station address of a MAC (R451). -/
def State.station (s : State) (m : Nat) : Nat :=
  (s.rd F.SWC_STATION_LO_ADDR + 2 ^ 32 * s.rd F.SWC_STATION_HI_ADDR + 64 * s.rd F.CTL_BOOT_STAT_SLOT_B + m) % 2 ^ 48

/-- Whether a MAC address is a group address. -/
def isGroup (dst : Nat) : Bool := hasBit dst 40

/-- The usable entry of the forwarding table that a destination and VID match: its TARGET (Table SWC-3). -/
def State.fwdTarget (s : State) (dst vid : Nat) : Option Nat :=
  ((List.range 4096).map fun e => s.swcWords (0x10000 + 16 * e) 3).findSome? fun x =>
    if bits x 60 60 == 1 && bits x 47 0 == dst && bits x 59 48 == vid && bits x 70 64 < 80 then some (bits x 70 64) else none

/-- The flow hash (R455). -/
def State.flowHash (s : State) (f : EthFrame) (vid : Nat) : Nat :=
  crc32c <| toBytes (s.rd F.SWC_CFG_SEED) 4 ++
    match f.ip with
    | some h =>
      let ports := if (h.proto == 17 || h.proto == 6) && !h.later then (h.sport, h.dport) else (0, 0)
      (toBytes h.src 16).reverse ++ (toBytes h.dst 16).reverse ++ [h.proto % 256] ++
        (toBytes ports.1 2).reverse ++ (toBytes ports.2 2).reverse
    | none => (toBytes f.src 6).reverse ++ (toBytes f.dst 6).reverse ++ (toBytes vid 2).reverse

/-! ### Haul and pairing -/

/-- Whether storage frames go to the partner (R457). -/
def State.forwards (s : State) : Bool := !s.isActive && s.haulUp && s.partnerActive && s.isSet F.SWC_CFG_FWD_EN

/-- Bring SWC_STAT in line with R457, with event local 6 when forwarding starts or stops. -/
def State.syncFwd (s : State) : State :=
  let old := s.isSet F.SWC_STAT_FORWARDING
  let on := s.forwards
  let s := (s.wrB F.SWC_STAT_HAUL_UP s.haulUp).wrB F.SWC_STAT_FORWARDING on
  if old == on then s else s.raise 16 6 INFO 3 (bit on)

/-! ### Groups (R455) -/

/-- Whether a target is up: a local MAC's link, or the haul for a MAC of the partner (log entry 53). -/
def State.targetUp (s : State) (t : Nat) : Bool := if t < 32 then s.linkUp t else s.haulUp

/-- Members of a group as targets: local MACs, then the partner's. -/
def State.grpMembers (s : State) (j : Nat) : List Nat :=
  ((List.range 32).filter fun m => hasBit (s.rd (F.SWC_GRP_LO_LOCAL j)) m) ++
  ((List.range 32).filter fun m => hasBit (s.rd (F.SWC_GRP_HI_PARTNER j)) m).map (32 + ·)

/-- The member a bucket names, with the buckets of members that are down given to the remaining members in turn. -/
def State.bucketMember (s : State) (j b : Nat) : Option Nat :=
  let ms := s.grpMembers j
  let live := ms.filter s.targetUp
  match ms[b % max 1 ms.length]? with
  | none => none
  | some t =>
    if s.targetUp t then some t else
    let k := ((List.range b).filter fun x => ms[x % max 1 ms.length]? == some t).length
    live[k % max 1 live.length]?

/-- Report a target that went down to the groups it is a member of (Table SWC-9, local 7). -/
def State.groupDown (s : State) (t : Nat) : State :=
  (List.range 16).foldl (fun s j => if (s.grpMembers j).contains t then s.raise 16 7 NOTICE 4 (j + 256 * t) else s) s

/-! ### Notices -/

/-- Raise an SWC event at most once per 1 ms. -/
def State.swcNotice (s : State) (loc code data : Nat) : State :=
  let recent := s.swcNotices.any fun p => p.1 == loc && !s.due (p.2 + msU 1)
  if recent then s else
  let s : State := { s with swcNotices := (loc, s.now) :: s.swcNotices.filter fun p => p.1 != loc }
  s.raise 16 loc NOTICE code data

/-! ### Markers and early drop (R463, R464) -/

/-- Colour a frame by the marker of its input port and class (RFC 2698, colour-blind): 0 green, 1 yellow, 2 red. Frames that XPT and CTL
originate are green. -/
def State.colour (s : State) (p c len : Nat) : Nat × State :=
  let j := s.polOf p c
  let pir := s.rd (F.SWC_POL_B_PIR (j - 1))
  if j = 0 || 16 < j || (32 ≤ p && p != 36) || pir = 0 then (0, s) else
  let (tc, tp, t) := s.markers.getD (j - 1) (0, 0, 0)
  let dt := s.now - t
  let tc := tc - s.rd (F.SWC_POL_A_CIR (j - 1)) * dt
  let tp := tp - pir * dt
  let b := 32000 * len
  let cbs := 32000 * 1024 * s.rd (F.SWC_POL_A_CBS (j - 1))
  let pbs := 32000 * 1024 * s.rd (F.SWC_POL_B_PBS (j - 1))
  let (col, tc, tp) : Nat × Nat × Nat :=
    if pbs < tp + b then (2, tc, tp) else if cbs < tc + b then (1, tc, tp + b) else (0, tc + b, tp + b)
  (col, { s with markers := s.markers.set (j - 1) (tc, tp, s.now) })

/-- Whether early drop marks a frame of a colour that finds q cells at its egress. -/
def State.redMarks (s : State) (o c col q : Nat) : Bool × State :=
  let k := s.rd (F.SWC_BPROF_A_RED (s.profOf o c))
  let mn := 64 * s.rd (F.SWC_RED_MIN k col)
  let mx := 64 * s.rd (F.SWC_RED_MAX k col)
  if mx = 0 || q < mn then (false, s)
  else if mx ≤ q then (true, s)
  else
    let (x, s) := s.draw .random (100 * (mx - mn))
    (decide (x < s.rd (F.SWC_RED_PMAX k col) * (q - mn)), s)

/-! ### Admission (R461, R464) -/

/-- Cells a frame takes (R449): a storage frame starts at offset 256 behind its headers. -/
def frameCells (storage : Bool) (len hdr : Nat) : Nat :=
  if storage then 1 + ceilDiv (len - hdr) 256 else max 1 (ceilDiv len 256)

/-- Cells reserved at a frame's first cell: from the length in its IP header, else from MAX_FRAME (R461). -/
def State.reserveCells (s : State) (i : Nat) (ip : Option IpHdr) (len : Nat) : Nat :=
  match ip with
  | some h => max 1 (ceilDiv (h.len + 22) 256)
  | none => if i < 32 then max 1 (ceilDiv (s.rd (F.PRT_MACCFG_MAX_FRAME (prtOf i) (subOf i)) + 4) 256) else max 1 (ceilDiv len 256)

/-- Admission of a frame from input i in class c to output o: the pool its cells come from, or its fate (R461). -/
def State.admitFrame (s : State) (i c o need : Nat) : Except Nat Pool × State :=
  let pe := s.profOf o c
  let pi := s.profOf i c
  let q := s.egress o c
  if !s.lossless i c && 16 * s.rd (F.SWC_BPROF_A_MAX pe) ≤ q then (.error 1, s.bump F.SWC_DROP_LIMIT)
  else if q < 16 * s.rd (F.SWC_BPROF_A_RSV pe) then (.ok .reserve, s)
  else if s.lossless i c && 16 * s.rd (F.SWC_BPROF_B_XOFF pi) ≤ s.ingress i c then
    if (s.cellsOf fun f => f.input == i && f.cls == c && f.pool == .headroom) < 16 * s.rd (F.SWC_BPROF_B_HDRM pi) then
      (.ok .headroom, s)
    else (.error 2, s.bump F.SWC_DROP_HDRM)
  else if need ≤ s.sharedFree then (.ok .shared, s)
  else (.error 3, (s.bump F.SWC_DROP_FULL).swcNotice 4 1 (o + 256 * c))

/-- What becomes of a frame: dropped with its fate (Table SWC-5), or admitted to an output with its CE mark. -/
inductive Fate where
  | drop (fate : Nat)
  | out (o : Nat) (ce : Bool)
deriving DecidableEq, Repr

/-- Number of a frame's fate in a sample, and its output port. -/
def Fate.code : Fate → Nat × Nat
  | .drop f => (f, 255)
  | .out o _ => (0, o)

/-- The lowest index of a cell at which no frame in the buffer begins (R449; DESIGN CHOICE, log entry 150). -/
def State.freeHandle (s : State) : Nat :=
  ((List.range (s.swq.length + 1)).find? fun h => !s.swq.any fun f => f.handle == h).getD 0

/-- Bits 61:0 of the logical address of a byte of a frame (R355, R449); what follows the transport headers begins at offset 256. -/
def frameAddr (handle ofs : Nat) : Nat := handle * 16384 + ofs
def payloadAddr (handle : Nat) : Nat := frameAddr handle 256

/-- Where the first byte of a frame lies: its headers are right-aligned below offset 256 when it carries NRT or RoCEv2 (R449). -/
def frameStart (storage : Bool) (hdr : Nat) : Nat := if storage then 256 - min 256 hdr else 0

/-- The CE mark set on a frame that is not dropped. -/
def Fate.ce : Fate → Bool
  | .drop _ => false
  | .out _ ce => ce

/-- Put a frame into the buffer for an output: admission, early drop, a cell that fails its CRC-32C, and the frame's place
in the queue. A MAC in transmit LPI leaves it (R440). -/
def State.enqueue (s : State) (i c o col dst vid : Nat) (ip : Option IpHdr) (storage : Bool) (len hdr head : Nat) (cellOk : Bool)
    (ptp : Option PtpTx) : Fate × State :=
  let q := s.egress o c
  match s.admitFrame i c o (s.reserveCells i ip len) with
  | (.error f, s) => (.drop f, s)
  | (.ok pool, s) =>
    let (mark, s) := s.redMarks o c col q
    let ecn := (match ip with | some h => h.ecn % 4 == 1 || h.ecn % 4 == 2 | none => false) &&
      s.isSet (F.SWC_RED_ECN (s.rd (F.SWC_BPROF_A_RED (s.profOf o c))) col)
    if mark && !ecn && !s.lossless i c then (.drop 4, s.bump F.SWC_DROP_RED)
    else if !cellOk then (.drop 0, (s.bump F.SWC_CELL_CRC).countRepair 16 2 true)
    else
      let ce := mark && ecn
      let s : State := if ce then s.bump F.SWC_ECN_MARK else s
      let f : SwFrame := {
        handle := s.freeHandle, dst := dst, vid := vid, input := i, output := o, cls := c, cells := frameCells storage len hdr, pool := pool, len := len, colour := col,
        ce := ce, head := head, time := s.now, ptp := ptp }
      let s : State := { s with swq := s.swq ++ [f] }
      (.out o ce, (s.syncCells.syncXoff i).leaveLpi o)

/-! ### Classification (R451) -/

/-- Where a frame goes (Table SWC-2). -/
inductive Target where
  | port (o : Nat)
  | control (q : Nat)
  | drop (fate : Nat)
deriving DecidableEq, Repr

/-- Control queue of a frame (R459). -/
def ctlQueue (f : EthFrame) (qp1 : Bool) : Nat :=
  let udp := match f.ip with | some h => h.proto == 17 && !h.later && (h.dport == 319 || h.dport == 320) | none => false
  let nd := match f.ip with | some h => h.nd | none => false
  if f.etype = 0x88F7 || f.etype = 0x88CC || udp then 0 else if qp1 || f.etype = 0x0806 || nd then 1 else 2

/-- UDP destination port of a frame, if it shows one. -/
def udpDst (f : EthFrame) : Option Nat :=
  match f.ip with
  | some h => if h.proto = 17 && !h.later then some h.dport else none
  | none => none

/-- Target of a storage frame by rows 3 and 4 of Table SWC-2, own addresses left aside. -/
def State.storageTarget (s : State) (f : EthFrame) (vid : Nat) : Option Target :=
  if udpDst f == some (s.rd F.XPT_NRT_PORT_UDP_PORT) && s.isSet F.XPT_CTX_CFG_NRT_EN then
    some (.port (32 + (if f.key = 0 then s.flowHash f vid % s.roleCount 0 else s.xptRole (f.key % 2 ^ 18))))
  else if udpDst f == some 4791 && s.isSet F.XPT_CTX_CFG_ROCE_EN then
    some (if f.key = 1 then .control 1 else .port (32 + s.xptRole (f.key % 2 ^ 18)))
  else none

/-- Target of a forwarding-table hit or a group's bucket (R454, R455). -/
def State.transitTarget (s : State) (f : EthFrame) (vid : Nat) : Target × State :=
  match s.fwdTarget f.dst vid with
  | none => (.drop 5, s.bump F.SWC_FWD_MISS)
  | some t =>
    let dest := if t < 64 then some t else s.bucketMember (t - 64) (s.flowHash f vid % 256)
    match dest with
    | some d => if s.targetUp d then (.port (if d < 32 then d else 36), s) else (.drop 8, s.bump F.SWC_LINK_DROP)
    | none => (.drop 8, s.bump F.SWC_LINK_DROP)

/-- The partner's MAC of a transit frame that goes over the haul. -/
def State.haulMac (s : State) (f : EthFrame) (vid : Nat) : Option Nat :=
  match s.fwdTarget f.dst vid with
  | some t => (if t < 64 then some t else s.bucketMember (t - 64) (s.flowHash f vid % 256)).map (· - 32)
  | none => none

/-- Whether a frame of a MAC is a transit frame (row 1), and whether it is a storage frame (rows 3 and 4). -/
def State.isTransit (s : State) (m : Nat) (f : EthFrame) : Bool := !isGroup f.dst && f.dst != s.station m
def State.isStorage (s : State) (m vid : Nat) (f : EthFrame) : Bool :=
  !s.isTransit m f && !isGroup f.dst && (match f.ip with | some h => s.ownAddr m vid h.dst | none => false) &&
    (s.storageTarget f vid).isSome

/-- Target of a frame received from a MAC (Table SWC-2, R457, R458). -/
def State.classify (s : State) (m vid : Nat) (f : EthFrame) : Target × State :=
  if s.isTransit m f then s.transitTarget f vid
  else if s.isStorage m vid f then
    if s.isActive then ((s.storageTarget f vid).getD (.control 2), s)
    else if s.forwards then (.port 36, s)
    else (.drop 7, (s.bump F.SWC_HAUL_DROP).swcNotice 5 2 0)
  else (.control (ctlQueue f false), s)

/-! ### Delivery -/

/-- Whether a storage port holds its frames: its role is being re-bound (R452), or the gap of a handover runs (R557). -/
def State.storageHeld (s : State) (r : Nat) : Bool := s.inGap || (s.boundBench 0 r).isNone || (s.rotAt 0).busy.any fun b => b.2.2 == r

/-- Whether a frame for a role finds 1 MiB of frames held for it while the role is re-bound (R99). -/
def State.holdFull (s : State) (r len : Nat) : Bool :=
  s.storageHeld r && !s.inGap && 1048576 < ((s.swq.filter fun f => f.output == 32 + r).map (·.len)).sum + len

/-- Record where a path's packets last arrived (R453). -/
def State.noteArrival (s : State) (f : EthFrame) (mac vid cls : Nat) : State :=
  let sport := match f.ip with | some h => h.sport | none => 0
  { s with
    arrivals := { key := f.key, sport := sport, mac := mac, vid := vid, cls := cls, src := f.src } ::
      s.arrivals.filter fun a => !(a.key == f.key && a.sport == sport) }

/-- Hand a frame that was classified to its target: into the buffer, and out of it at once where the target takes it
(log entry 54). mac is the arrival MAC, 32 + m at the partner. A frame beyond the 1 MiB held for a role is dropped (R99; its sample shows
no drop, log entry 154). -/
def State.dispatchFrame (s : State) (t : Target) (i c col mac vid : Nat) (storage : Bool) (haulTo : Option Nat)
    (f : EthFrame) : Fate × State :=
  let go := fun (s : State) (o : Nat) => s.enqueue i c o col f.dst vid f.ip storage f.len f.hdr f.head f.cellOk none
  match t with
  | .drop d => (.drop d, s)
  | .control q =>
    match go s 37 with
    | (.drop d, s) => (.drop d, s)
    | (.out _ ce, s) =>
      let w := s.swq.getLast?
      let s : State := { s with swq := s.swq.dropLast }
      let s := s.syncCells.syncXoff i
      let (ok, s) := s.police q
      if ok then (.out 37 ce, (w.elim s s.sampleSent).send (.toControl q c mac))
      else (.drop 6, (s.bump F.SWC_CTL_DROP).swcNotice 8 5 q)
  | .port o =>
    if 32 ≤ o && o < 36 && s.holdFull (o - 32) f.len then (.drop 0, s.bump (F.XPT_HOLD_DROP (o - 32))) else
    match go s o with
    | (.drop d, s) => (.drop d, s)
    | (.out _ ce, s) =>
      let w := s.swq.getLast?
      let handle := (w.map (·.handle)).getD 0
      let leave := fun (s : State) => let s := (State.syncCells { s with swq := s.swq.dropLast }).syncXoff i; w.elim s s.sampleSent
      if o < 32 then (.out o ce, s)
      else if o = 36 then
        let s := leave s
        let s : State := if storage then s.bump F.SWC_HAUL_FWD else s
        (.out o ce, (s.haulSend 2).send (.toHaul mac c haulTo))
      else
        let s := s.noteArrival f mac vid c
        if s.storageHeld (o - 32) then (.out o ce, s) else (.out o ce, (leave s).send (.toRole (o - 32) c mac ce handle))

/-! ### The commands of the ports -/

/-- Class of a received frame (R435). -/
def State.rxClass (s : State) (m : Nat) (f : EthFrame) : Nat :=
  let b := prtOf m
  let byTag := match f.tag with
    | some (_, pcp) => fieldGet (s.word (F.PRT_PCP_MAP_TC0 b).key) (4 * pcp + 2) (4 * pcp)
    | none => s.rd (F.PRT_MACCFG_DEF_TC b (subOf m))
  match f.ip with
  | some h =>
    if s.rd (F.PRT_MACCFG_TRUST b (subOf m)) = 1 && !h.later then
      fieldGet (s.word (F.PRT_DSCP_MAP_TC0 b (h.dscp / 8)).key) (4 * (h.dscp % 8) + 2) (4 * (h.dscp % 8))
    else byTag
  | none => byTag

/-- The CRC-32 that IEEE 802.3 uses for the FCS (R433). -/
def crc32 (bs : List Nat) : Nat := crcRefl 32 0xEDB88320 bs

/-- Whether a MAC accepts a group address (R433). -/
def State.groupOk (s : State) (m dst : Nat) : Bool :=
  let h := crc32 (toBytes dst 6).reverse % 256
  dst == 0xFFFFFFFFFFFF || dst == 0x0180C200000E || dst == 0x011B19000000 ||
    hasBit (s.rd (F.PRT_GHASH (prtOf m) (subOf m) (h / 32))) (h % 32)

/-- Whether a port's VID table accepts a VID for a sub-port (R434). -/
def State.vidOk (s : State) (m vid : Nat) : Bool :=
  let b := prtOf m
  (List.range 16).any fun j =>
    s.isSet (F.PRT_VID_VALID b j) && s.rd (F.PRT_VID_VID b j) == vid && hasBit (s.rd (F.PRT_VID_SUB b j)) (subOf m)

/-- The first check of Table ETH-2 that a frame fails, as the statistic that counts it. -/
def State.rxCheck (s : State) (m : Nat) (f : EthFrame) : Option Nat :=
  let max := s.rd (F.PRT_MACCFG_MAX_FRAME (prtOf m) (subOf m)) + (if f.tag.isSome then 4 else 0)
  let vidOk := match f.tag with | some (v, _) => v == 0 || s.vidOk m v | none => true
  if f.uncorr != 0 || !f.fcsOk then some 2
  else if f.len < 64 || max < f.len then some 3
  else if f.stag || f.tag2 || !vidOk then some 4
  else if isGroup f.dst && !s.groupOk m f.dst then some 5
  else none

/-- ETH_FRAME_RECEIVE (R432 to R435, R443, R451 to R467). -/
def execEthFrameReceive (mac : Nat) (f : EthFrame) (s : State) : Host.Outcome State Fault Refusal :=
  .next <|
    if !s.hasMac mac || !s.linkUp mac then s else
    let s := (s.addStat mac 10 f.corr).addStat mac 11 f.uncorr
    match s.rxCheck mac f with
    | some i => s.addStat mac i 1
    | none =>
      let vid := match f.tag with
        | some (v, _) => if v = 0 then s.rd (F.PRT_PVID_PVID (prtOf mac) (subOf mac)) else v
        | none => s.rd (F.PRT_PVID_PVID (prtOf mac) (subOf mac))
      let c := s.rxClass mac f
      let s := (s.addStat mac 0 f.len).addStat mac 1 1
      let s : State := if isPtpEvent f.etype f.ip then s.send (.ptpStamp mac (s.stampAt mac (s.rd (F.PRT_TS_ADJ_RX_ADJ (prtOf mac))))) else s
      let transit := s.isTransit mac f
      let storage := s.isStorage mac vid f
      let haulTo := if transit then s.haulMac f vid else none
      let (col, s) := s.colour mac c f.len
      let (t, s) := s.classify mac vid f
      let (fate, s) := s.dispatchFrame t mac c col mac vid storage haulTo f
      let s : State := match transit, fate with
        | true, .out _ _ => s.bump F.SWC_FWD
        | _, _ => s
      s.sampleAt (s.rd (F.SWC_SAMP_RX_N mac))
        (sampleOf mac false s.now c col fate.ce fate.code.1 fate.code.2 f.len f.head)

/-- A frame that comes over the haul port: coloured, handed to its target and sampled. -/
def State.haulFrame (s : State) (t : Target) (fromMac cls vid : Nat) (storage : Bool) (f : EthFrame) : State :=
  let (col, s) := s.colour 36 cls f.len
  let (fate, s) := s.dispatchFrame t 36 cls col (32 + fromMac) vid storage none f
  s.sampleAt (s.rd (F.SWC_SAMP_RX_N 36)) (sampleOf 36 false s.now cls col fate.ce fate.code.1 fate.code.2 f.len f.head)

/-- HAUL_FORWARD_FRAME (R457, R458): a frame for an own MAC goes out on it unchanged; a storage frame is steered at the
active by rows 3 and 4, and is lost at a controller that is not active. -/
def execHaulForwardFrame (fromMac cls : Nat) (toMac : Option Nat) (f : EthFrame) (s : State) : Host.Outcome State Fault Refusal :=
  .next <|
    if !s.haulUp then s else
    let vid := match f.tag with | some (v, _) => v | none => 0
    match toMac with
    | some m =>
      let t : Target := if s.linkUp m then .port m else .drop 8
      let s : State := if s.linkUp m then s else s.bump F.SWC_LINK_DROP
      s.haulFrame t fromMac cls vid false f
    | none =>
      if !s.isActive then s else
      match s.storageTarget f vid with
      | none => s
      | some t => s.haulFrame t fromMac cls vid true f

/-- A frame leaves on a MAC (R453, R443, R466), padded to 64 bytes (R432): its cells are freed. -/
def State.sendFrame (s : State) (m : Nat) (f : SwFrame) : State :=
  let s : State := { s with swq := s.swq.erase f }
  let s := s.syncCells.syncXoff f.input
  let s := (s.addStat m 7 (max 64 f.len)).addStat m 8 1
  let s := s.updMac m fun x => { x with idleSince := s.now }
  let s : State := match f.ptp with | some p => s.stampTx m p | none => s
  let s := s.send (.frame m f.cls (max 64 f.len) f.dst f.vid f.ce)
  s.sampleSent f

/-- The oldest frame queued for a MAC in a class leaves, unless received pause stops the class or the link still wakes from LPI (R440). -/
def State.transmitNext (s : State) (m c : Nat) : State :=
  if !s.linkUp m || s.stopped m c || s.now < (s.mac m).wake then s else
  match s.swq.find? fun f => f.output == m && f.cls == c with
  | some f => s.sendFrame m f
  | none => s

/-- A frame that a bench originates for a MAC in a class (R453): queued there, at once over the haul for a MAC of the partner, or dropped
where the link is down; sampled at the port of the bench (R466). -/
def State.originate (s : State) (w : OwnFrame) (m c dst vid : Nat) : State :=
  let up : Bool := if m < 32 then s.linkUp m else s.haulUp
  let (fate, s) : Fate × State :=
    if !up then (.drop 8, s.bump F.SWC_LINK_DROP)
    else s.enqueue w.port c (if m < 32 then m else 36) 0 dst vid none (w.port != 37) w.len w.hdr w.head true w.ptp
  let s : State := match fate, s.swq.getLast? with
    | .out 36 _, some f =>
      let s : State := { s with swq := s.swq.dropLast }
      ((s.syncCells.sampleSent f).haulSend 2).send (.toHaul (m - 32) c (some (m - 32)))
    | _, _ => s
  s.sampleAt (s.rd (F.SWC_SAMP_RX_N w.port)) (sampleOf w.port false s.now c 0 fate.ce fate.code.1 fate.code.2 w.len w.head)

/-- ETH_FRAME_TRANSMIT (R453): a frame that a bench originates is first queued, for the MAC and class on which its path's
packets last arrived, or for those CTL names, with that arrival's source as its destination and its VID, or with its own; then the oldest
frame of that queue leaves. -/
def execEthFrameTransmit (mac cls : Nat) (own : Option OwnFrame) (s : State) : Host.Outcome State Fault Refusal :=
  .next <|
    match own with
    | none => s.transmitNext mac cls
    | some w =>
      let at_ := if w.port = 37 then none else s.arrivals.find? fun a => a.key == w.key && a.sport == w.sport
      let m := match at_ with | some a => a.mac | none => mac
      let c := match at_ with | some a => a.cls | none => cls
      let dst := match at_ with | some a => a.src | none => wireField w.head 0 6
      let vid := match at_ with | some a => a.vid | none => wireVid w.head
      let s := s.originate w m c dst vid
      if m < 32 then s.transmitNext m c else s

/-- MAC_LINK_UP (R429): up only after a common technology is found, unless the medium is C2M; EEE ability only in mode 4
after auto-negotiation (R440). -/
def execMacLinkUp (mac : Nat) (common eee : Bool) (s : State) : Host.Outcome State Fault Refusal :=
  .next <|
    let b := prtOf mac
    let c2m := 2 ≤ s.rd (F.PRT_MODE_MEDIA b)
    if !s.hasMac mac || s.linkUp mac || !(c2m || common) then s else
    let s := (s.setBit (F.PRT_STAT_LINK b) (subOf mac) true).setBit (F.PRT_STAT_FEC_LOCK b) (subOf mac)
      (s.modeOf mac != 4 || s.isSet (F.PRT_MODE_FEC_NRZ b))
    let s := s.updMac mac fun _ => { Mac.cold with idleSince := s.now }
    let s : State := if s.modeOf mac = 4 then s.wrB (F.PRT_STAT_EEE_AN b) (eee && !c2m) else s
    s.raise b 6 INFO 3 mac

/-- A MAC's link goes down (R431, R455, R456): of the frames queued for it the first atPort are at the port. -/
def State.linkDown (s : State) (mac atPort : Nat) : State :=
  if !s.linkUp mac then s else
  let b := prtOf mac
  let n := (s.swq.filter fun f => f.output == mac).length
  let s := (s.addStat mac 13 1).addStat mac 15 (min atPort n)
  let s := s.bumpBy F.SWC_LINK_DROP (n - min atPort n)
  let s := (s.setBit (F.PRT_STAT_LINK b) (subOf mac) false).setBit (F.PRT_STAT_FEC_LOCK b) (subOf mac) false
  let s := s.lpiAccrue mac
  let s : State := if s.modeOf mac = 4 then ((s.wr (F.PRT_STAT_LPI_TX b) 0).wr (F.PRT_STAT_EEE_AN b) 0) else s
  let s := s.updMac mac fun _ => { Mac.cold with idleSince := s.now, asked := (s.mac mac).asked }
  ((s.freeFrames fun f => f.output == mac).raise b 5 NOTICE 2 mac).groupDown mac

/-- MAC_LINK_DOWN (R431). -/
def execMacLinkDown (mac atPort : Nat) (s : State) : Host.Outcome State Fault Refusal := .next (s.linkDown mac atPort)

/-- PFC_WATCHDOG_DETECT (R439): the frames of the class queued at the port are discarded, and received pause is ignored. -/
def execPfcWatchdogDetect (mac cls atPort : Nat) (s : State) : Host.Outcome State Fault Refusal :=
  .next <|
    if !s.stuck mac cls then s else
    let there := ((s.swq.filter fun f => f.output == mac && (cls == 8 || f.cls == cls)).take atPort)
    let s := s.addStat mac 12 there.length
    let s := there.foldl (fun (s : State) f => (State.syncCells { s with swq := s.swq.erase f }).syncXoff f.input) s
    let until_ := s.now + msU (s.rd (F.PRT_PFC_WD_WD_RESTORE_MS (prtOf mac)))
    let s := s.updMac mac fun x =>
      { x with stops := x.stops.filter fun p => p.cls != cls, ignore := (cls, until_) :: x.ignore }
    s.raise (prtOf mac) 7 NOTICE 4 (macClass mac cls)

/-- LPI_IDLE_EXPIRY (R440). -/
def execLpiIdleExpiry (mac : Nat) (s : State) : Host.Outcome State Fault Refusal :=
  .next <|
    let b := prtOf mac
    let idle := !s.swq.any fun f => f.output == mac
    if s.linkUp mac && s.modeOf mac == 4 && s.isSet (F.PRT_LPI_LPI_EN b) && s.isSet (F.PRT_STAT_EEE_AN b) && idle &&
        (s.mac mac).lpi.isNone && s.due ((s.mac mac).idleSince + usU (s.rd (F.PRT_LPI_LPI_IDLE_US b))) then
      (s.updMac mac fun x => { x with lpi := some s.now }).wr (F.PRT_STAT_LPI_TX b) 1
    else s

end Sys2Proof.Machine
end

