-- ==== Sys2Proof/Machine/Endpoint.lean ====
section
/-!
DEFINITION. Machine/Endpoint.lean: the local endpoint (17): its functions and their controllers (R473 to R476, R481), queues and
entry fetches (R482, R483), interrupts (R484), power (R485, R486), Bus Master Enable, FLR and link resets (R487 to R491).
-/

namespace Sys2Proof.Machine

/-! ### Functions and controllers -/

/-- Whether a function exists: the PF, or a VF while VF Enable is set (R473). -/
def State.epExists (s : State) (f : Nat) : Bool := f < 64 && f ≤ s.rd F.EPT_STAT_NUM_VF && s.isSet F.EPT_CFG_EN

/-- The static controller of a function of either unit, made when it first appears; it serves the identity whose FUNC names
the function (R132, R176, R475). -/
def State.epEnsure (s : State) (idx f : Nat) : State :=
  if (s.ctrl? idx).isSome then s else
  let k : Ctrl := {
    index := idx, ident := (s.idents.find? fun i => i.func == f).map (·.index), func := some f, cc := 0, csts := 0, kato := 0,
    lastCmd := s.now, maxIoq := s.rd F.CMD_CFG_MAX_IOQ, queues := [], aers := [], notices := [], unread := [], features := [],
    changed := [], resvLog := [], resvCount := 0,
    shutdown := false, mem := 0 }
  { s with ctrls := s.ctrls ++ [k] }

/-- Drop the controller of a function; its index stays reserved (R475). -/
def State.epRemove (s : State) (f : Nat) : State := { s with ctrls := s.ctrls.filter fun k => k.index != s.epIdx f }

/-- Bring EPT_STAT.RELAY in line. -/
def State.syncRelay (s : State) : State := s.wrB F.EPT_STAT_RELAY (s.relays && s.isSet F.EPT_STAT_LINK_UP)

/-! ### Configuration space and NVMe registers (R473, R474, R480) -/

/-- The Subsystem ID and Subsystem Vendor ID word, of the image. -/
def State.epSubsystem (s : State) : Nat := (s.boot.img.map fun (b : BankImg) => b.ssvid + 2 ^ 16 * b.ssid).getD 0

/-- A capability header of the first 256 bytes, and one of the extended space: ID, version, offset of the next. -/
def capHdr (id next : Nat) : Nat := id + 2 ^ 8 * next
def extHdr (id ver next : Nat) : Nat := id + 2 ^ 16 * ver + 2 ^ 20 * next

/-- The words of configuration space that Table EPT-2 gives to every function but the identity words: class and revision, header type,
subsystem, interrupt pin, MSI-X (65 vectors, Table EPT-3) and the Device Capabilities; and the AER status of the function. -/
def State.epCommon (s : State) (f : Nat) : List (Nat × Nat) :=
  [(0x04, 2 ^ 20 + 4 * bit (s.epf f).bme), (0x08, 0x01080201), (0x0C, 0), (0x2C, s.epSubsystem), (0x3C, 0),
   (0x50, capHdr 0x11 0x70 + 2 ^ 16 * 64), (0x54, 0x2000), (0x58, 0x3000),
   (0x70, capHdr 0x10 0 + 2 ^ 16 * 2), (0x74, 2 + 2 ^ 5 + 2 ^ 15 + 2 ^ 28), (0x104, (s.epf f).aer)]

/-- The words of the PF alone: its IDs, PM (No_Soft_Reset, no PME), Link Capabilities, the extended capabilities in order, SR-IOV
(R473), the DSN of the fuses, and L1 PM Substates. -/
def State.epPf (s : State) : List (Nat × Nat) :=
  [(0x00, 0x48801F6B), (0x34, 0x40), (0x40, capHdr 0x01 0x50 + 2 ^ 16 * 3), (0x44, 8 + 3 * bit (s.epf 0).d3),
   (0x7C, 6 + 2 ^ 4 * 16 + 2 ^ 10 * 2 + 2 ^ 15 * 4),
   (0x100, extHdr 0x01 2 0x148),
   (0x148, extHdr 0x10 1 0x188), (0x150, bit (s.rd F.EPT_STAT_NUM_VF != 0)),
   (0x154, s.rd F.EPT_CFG_TOTAL_VF + 2 ^ 16 * s.rd F.EPT_CFG_TOTAL_VF), (0x158, s.rd F.EPT_STAT_NUM_VF),
   (0x15C, 1 + 2 ^ 16), (0x160, 2 ^ 16 * 0x4881), (0x164, 1),
   (0x188, extHdr 0x03 1 0x198), (0x18C, s.fuses.dsn % 2 ^ 32), (0x190, s.fuses.dsn / 2 ^ 32 % 2 ^ 32),
   (0x198, extHdr 0x18 1 0x1A0), (0x1A0, extHdr 0x1E 1 0x1B0), (0x1A4, 31 + 2 ^ 8 * 10 + 2 ^ 16 + 2 ^ 19 * 5),
   (0x1B0, extHdr 0x19 1 0x1E0), (0x1E0, extHdr 0x25 1 0x1F0), (0x1F0, extHdr 0x26 1 0x220), (0x220, extHdr 0x2A 1 0x250),
   (0x250, extHdr 0x31 1 0)]

/-- The words of a VF alone. -/
def epVf : List (Nat × Nat) := [(0x00, 0xFFFFFFFF), (0x34, 0x50), (0x100, extHdr 0x01 2 0)]

/-- A word of a function's configuration space as Table EPT-2 gives it; none for a register that the table omits and for a function
that does not exist (the places of fields within a capability are those of PCIe 6.0: PRESUMED, log entry 138). -/
def State.epConfig (s : State) (f ofs : Nat) : Option Nat :=
  if !s.epExists f then none
  else (((if f = 0 then s.epPf else epVf) ++ s.epCommon f).find? fun p => p.1 == ofs).map (·.2)

/-- Size of a BAR of a function (Table EPT-3): BAR0/1 16 KiB, BAR2/3 64 MiB at the PF while BAR2_EN is 1; every BAR is 64-bit and
non-prefetchable. None where no BAR is. -/
def State.epBarSize (s : State) (f bar : Nat) : Option Nat :=
  if !s.epExists f then none
  else if bar = 0 then some 16384
  else if bar = 2 && f = 0 && s.isSet F.EPT_CFG_BAR2_EN then some 67108864
  else none

/-- What a byte offset of BAR0 names (Table EPT-3): an NVMe register, the doorbell of a queue (submission tail or completion head), a word
of the MSI-X table with its vector, the PBA. -/
inductive Bar0Place where
  | register (ofs : Nat)
  | doorbell (qid : Nat) (cq : Bool)
  | msixEntry (vector word : Nat)
  | pending (word : Nat)
deriving DecidableEq, Repr

/-- BAR0 of a function. -/
def bar0Place (ofs : Nat) : Option Bar0Place :=
  if ofs < 0x1000 then some (.register ofs)
  else if ofs < 0x1000 + 8 * 65 then some (.doorbell ((ofs - 0x1000) / 8) ((ofs - 0x1000) % 8 / 4 == 1))
  else if 0x2000 ≤ ofs && ofs < 0x2000 + 16 * 65 then some (.msixEntry ((ofs - 0x2000) / 16) ((ofs - 0x2000) % 16 / 4))
  else if 0x3000 ≤ ofs && ofs < 0x3010 then some (.pending ((ofs - 0x3000) / 4))
  else none

/-- A word of a function's PBA: a bit for each vector that waits (R484). -/
def State.epPbaWord (s : State) (f w : Nat) : Nat := ((List.range 32).filter fun i => (s.epf f).pba.contains (32 * w + i)).foldl (fun a i => a + 2 ^ i) 0

/-- An NVMe register of a function (Table EPT-4): CAP with MQES, CQR, TO, NSSRS and CSS, VS, and the controller's CC and CSTS. -/
def State.epNvmeReg (s : State) (k : Ctrl) (ofs : Nat) : Option Nat :=
  if ofs = 0 then (s.property k 0).map (· + 2 ^ 24 * 20) else s.property k ofs

/-! ### Doorbells (R483) -/

/-- Ask for entries of every queue of a function, and for the data its fetches need. -/
def State.epResume (s : State) (f : Nat) : State :=
  let s := s.epFlush f
  (s.epIssue f).epFetchAll f

/-- Tags that were freed let reads that wait go on (R490). -/
def State.epResumeAll (s : State) : State := (List.range (s.rd F.EPT_STAT_NUM_VF + 1)).foldl (fun (s : State) f => s.epResume f) s.syncEpQuar

/-- EP_DOORBELL (R479, R483): a submission tail or a completion head; a value outside the queue is ignored. -/
def execEpDoorbell (f qid : Nat) (cq : Bool) (val : Nat) (s : State) : Host.Outcome State Fault Refusal :=
  .next <|
    let idx := s.epIdx f
    if !s.epExists f || (s.epf f).d3 || !s.isSet F.EPT_STAT_LINK_UP then s else
    let s := s.epTlp
    match (s.ctrl? idx).bind fun k => k.queues.find? fun q => q.qid == qid && q.isCq == cq with
    | none => s
    | some q =>
      if q.size ≤ val then s
      else if cq then
        (s.updCtrl idx fun k => { k with queues := mapIf (fun x => x.qid == qid && x.isCq) (fun x => { x with head := val }) k.queues }).epFlush f
      else (s.updQueue idx qid fun x => { x with tail := val }).epFetchSq f qid

/-! ### Queues (R482) -/

/-- The status of a Create or Delete I/O queue command and its effect on the controller's queues. -/
def State.epQueueOp (s : State) (v : NvmeCmd) : Status × State :=
  let qid := bits v.cdw10 15 0
  let size := bits v.cdw10 31 16
  match s.ctrl? v.ctl with
  | none => (St.field, s)
  | some k =>
    let has := fun (cq : Bool) (q : Nat) => k.queues.any fun x => x.qid == q && x.isCq == cq
    let badId := qid = 0 || s.rd F.CMD_CFG_MAX_IOQ < qid
    let badSize := size = 0 || s.rd F.CMD_CFG_IOQ_DEPTH - 1 < size
    let new := Queue.fresh qid (size + 1) none false
    match v.opc with
    | 0x05 =>
      if badId || has true qid then (St.badQid, s)
      else if badSize then (St.badQsize, s)
      else if !hasBit v.cdw11 0 then (St.field, s)
      else if 64 < bits v.cdw11 31 16 then (St.badVector, s)
      else
        let q : Queue := { new with isCq := true, vector := bits v.cdw11 31 16, ien := hasBit v.cdw11 1 }
        (St.ok, s.updCtrl v.ctl fun x => { x with queues := x.queues ++ [q] })
    | 0x01 =>
      if badId || has false qid then (St.badQid, s)
      else if badSize then (St.badQsize, s)
      else if !hasBit v.cdw11 0 then (St.field, s)
      else if bits v.cdw11 31 16 = 0 || !has true (bits v.cdw11 31 16) then (St.cqInvalid, s)
      else
        let q : Queue := { new with cqid := bits v.cdw11 31 16 }
        (St.ok, s.updCtrl v.ctl fun x => { x with queues := x.queues ++ [q] })
    | 0x00 =>
      if badId || !has false qid then (St.badQid, s)
      else
        let (_, s) := s.applyReset fun c => c.nv.ctl == v.ctl && c.nv.qid == qid
        (St.ok, s.updCtrl v.ctl fun x => { x with queues := x.queues.filter fun y => y.qid != qid || y.isCq })
    | _ =>
      if badId || !has true qid then (St.badQid, s)
      else if k.queues.any fun x => !x.isCq && x.cqid == qid then (St.badDelete, s)
      else (St.ok, s.updCtrl v.ctl fun x => { x with queues := x.queues.filter fun y => y.qid != qid || !y.isCq })

/-- A queue command: of endpoint functions only; on fabrics an invalid opcode (Table CMD-4). -/
def State.queueCmd (s : State) (v : NvmeCmd) : State :=
  s.admin v fun c s =>
    if !s.onEndpoint v then s.finish c.id 0 St.opcode
    else
      let (st, s) := s.epQueueOp v
      s.finish c.id 0 st

/-- CREATE_IO_SQ (R482). -/
def execCreateIoSq (v : NvmeCmd) (s : State) : Host.Outcome State Fault Refusal := .next (s.queueCmd { v with opc := 0x01 })
/-- CREATE_IO_CQ (R482). -/
def execCreateIoCq (v : NvmeCmd) (s : State) : Host.Outcome State Fault Refusal := .next (s.queueCmd { v with opc := 0x05 })
/-- DELETE_IO_SQ (R482). -/
def execDeleteIoSq (v : NvmeCmd) (s : State) : Host.Outcome State Fault Refusal := .next (s.queueCmd { v with opc := 0x00 })
/-- DELETE_IO_CQ (R482). -/
def execDeleteIoCq (v : NvmeCmd) (s : State) : Host.Outcome State Fault Refusal := .next (s.queueCmd { v with opc := 0x04 })

/-- A submission entry as a command: PRP data, read by its opcode. -/
def epCommand (ctl qid : Nat) (e : EpEntry) : NvmeCmd :=
  { parseCapsule ctl qid false none (e.entry % 2 ^ 512) 64 e.buf with sgl := .prp e.prpOk, data := e.buf, dataLen := 0 }

/-- An endpoint command enters CMD (R476, R483), its slot goes to the partner's mirror (Table PAIR-5, KIND 2): queue commands have their
own meaning, Fabrics commands none. -/
def State.epRun (s : State) (v : NvmeCmd) : State :=
  let s : State := { s with epCmdAt := s.now }
  let s : State := if s.epLtrActive then s else State.send { s with epLtrActive := true } (.ltr (s.rd F.EPT_PM_CFG_LTR_ACT_US))
  let id := s.nextCmd
  let s : State :=
    if v.qid = 0 && (v.opc = 0x00 || v.opc = 0x01 || v.opc = 0x04 || v.opc = 0x05) then s.queueCmd v
    else if v.opc = 0x7F then s.admin v fun c s => s.finish c.id 0 St.opcode
    else s.commandRun 0 v
  match s.cmd? id with
  | some c => s.mirrorNote (.slot c none)
  | none => s

/-- An entry at the standby goes to the active over the haul (R477); the queues it makes or deletes are made here too. -/
def State.epRelayOne (s : State) (v : NvmeCmd) (entry : Nat) : State :=
  let s := ((s.haulSend 2).send (.epRelay v.ctl v.qid entry)).bump F.EPT_RELAY_CMD
  if v.qid = 0 && (v.opc = 0x00 || v.opc = 0x01 || v.opc = 0x04 || v.opc = 0x05) then (s.epQueueOp v).2 else s

/-- The tag of an outstanding read, its completion arrived: it is free. -/
def State.epFree (s : State) (tag : Nat) : State := { s with epReads := s.epReads.filter fun r => r.tag != tag }

/-- Data of a read that arrived while the function may not take them are discarded and fetched again later (R487). -/
def State.epDiscard (s : State) (r : EpRead) : State :=
  let s := (s.epFree r.tag).bump F.EPT_BME_DISC
  match r.what with
  | .sqe .. => s
  | .data cmd ofs len =>
    { s with epFetches := mapIf (fun x => x.cmd == cmd) (fun x => { x with left := (ofs, len, false) :: x.left }) s.epFetches }

/-- Raise an EPT event at most once in 1 ms. -/
def State.epNotice (s : State) (loc code f : Nat) : State := s.raiseOnce (msU 1) 6 loc NOTICE code f

/-- Whether a function takes the data of reads it issued (R485, R487). -/
def State.epTakes (s : State) (f : Nat) : Bool := (s.epf f).bme && !(s.epf f).d3

/-- A completion for a quarantined tag: dropped and counted, the tag is free (R489). -/
def State.epLate (s : State) (r : EpRead) : State := (((s.epFree r.tag).bump F.EPT_LATE_CPL).epNotice 9 6 r.func).epResumeAll

/-- EP_SQE_FETCHED (R483, R477). -/
def execEpSqeFetched (tag : Nat) (es : List EpEntry) (s : State) : Host.Outcome State Fault Refusal :=
  .next <|
    match s.epReads.find? fun r => r.tag == tag with
    | none => s
    | some r =>
      let s := s.epTlp
      if r.quarAt.isSome then s.epLate r else
      match r.what with
      | .data .. => s
      | .sqe ctl qid first n =>
        if !s.epTakes r.func then s.epDiscard r else
        let s := (s.epFree tag).bumpBy F.EPT_SQE_FETCH (min n es.length)
        let s := s.updQueue ctl qid fun q => { q with head := (first + min n es.length) % max 1 q.size }
        let s := (es.take n).foldl (fun (s : State) e =>
          let v := epCommand ctl qid e
          if s.isActive then s.epRun v else s.epRelayOne v e.entry) s
        s.epFetchSq r.func qid

/-- A function's controller sets CSTS.CFS and stops fetching (R490). -/
def State.epFatal (s : State) (f cause : Nat) : State :=
  let s := s.updCtrl (s.epIdx f) fun k => if hasBit k.csts 1 then k else { k with csts := k.csts + 2 }
  s.raise 6 10 ERROR 7 (f + 256 * cause)

/-- EP_READ_COMPLETION (R487, R489, R490): status 0 data, 1 poisoned, 2 Completer Abort or Unsupported Request. -/
def execEpReadCompletion (tag status data : Nat) (s : State) : Host.Outcome State Fault Refusal :=
  .next <|
    match s.epReads.find? fun r => r.tag == tag with
    | none => s
    | some r =>
      let s := s.epTlp
      let s : State := if status = 1 then (s.bump F.EPT_POISON).raise 6 11 NOTICE 8 r.func else s
      if r.quarAt.isSome then s.epLate r
      else if !s.epTakes r.func then (s.epDiscard r).epResumeAll
      else if status != 0 then
        let bitNo := if status = 1 then 12 else 15
        ((s.epFree tag).updEpf r.func fun x => { x with aer := x.aer ||| 2 ^ bitNo }).epFatal r.func (if status = 1 then 2 else 3)
      else match r.what with
        | .sqe .. => s
        | .data cmd ofs len =>
          let s := s.epFree tag
          match s.epFetches.find? fun x => x.cmd == cmd with
          | none => s.epResumeAll
          | some x =>
            let got := (ofs, len, data % 2 ^ (8 * len)) :: x.got.filter fun p => p.1 != ofs
            if x.len ≤ (got.map fun p => p.2.1).sum then
              ((s.epDropFetch cmd).dataArrived cmd (got.foldl (fun a p => a + p.2.2 * 2 ^ (8 * p.1)) 0)).epResumeAll
            else State.epResumeAll { s with epFetches := mapIf (fun (y : EpFetch) => y.cmd == cmd) (fun y => { y with got := got }) s.epFetches }

/-- EP_COMPLETION_TIMEOUT (R490): the completion timeout of the function is given in µs. -/
def execEpCompletionTimeout (tag ctoUs : Nat) (s : State) : Host.Outcome State Fault Refusal :=
  .next <|
    match s.epReads.find? fun r => r.tag == tag with
    | none => s
    | some r =>
      if r.quarAt.isSome || !s.due (r.issued + usU ctoUs) then s else
      let s := (s.bump F.EPT_CPL_TO).epNotice 8 5 r.func
      let s := s.updEpf r.func fun x => { x with aer := x.aer ||| 2 ^ 14 }
      let s : State := { s with epReads := mapIf (fun x => x.tag == tag) (fun x => { x with quarAt := some s.now }) s.epReads }
      let s := s.syncEpQuar
      if r.second then s.epFatal r.func 1
      else if !s.epMayIssue r.func then
        match r.what with
        | .sqe .. => s
        | .data cmd ofs len =>
          { s with epFetches := mapIf (fun x => x.cmd == cmd) (fun x => { x with left := (ofs, len, true) :: x.left }) s.epFetches }
      else match s.epRead r.func r.what true with
        | some (t : State) => t
        | none => match r.what with
          | .sqe .. => s
          | .data cmd ofs len =>
            { s with epFetches := mapIf (fun x => x.cmd == cmd) (fun x => { x with left := (ofs, len, true) :: x.left }) s.epFetches }

/-- EP_QUARANTINE_EXPIRY (R489, R490): after 16 × the timeout, or for a tag that a reset quarantined after the timeout. -/
def execEpQuarantineExpiry (tag ctoUs : Nat) (s : State) : Host.Outcome State Fault Refusal :=
  .next <|
    let free := s.epReads.any fun r => r.tag == tag && (match r.quarAt with
      | some t => if r.byReset then s.due (r.issued + usU ctoUs) else s.due (t + 16 * usU ctoUs)
      | none => false)
    if free then (s.epFree tag).epResumeAll else s

/-! ### Bus mastering, power and interrupts (R484 to R487) -/

/-- EP_BME_WRITE (R487). -/
def execEpBmeWrite (f : Nat) (on : Bool) (s : State) : Host.Outcome State Fault Refusal :=
  .next <|
    if !s.epExists f then s else
    let s := (s.epTlp.updEpf f fun x => { x with bme := on })
    if on then s.epResume f else s

/-- EP_POWER_STATE (R485): nothing is issued in D3hot; on return to D0 the function resumes. -/
def execEpPowerState (f : Nat) (d3 : Bool) (s : State) : Host.Outcome State Fault Refusal :=
  .next <|
    if !s.epExists f then s else
    let s := (s.epTlp.updEpf f fun x => { x with d3 := d3 })
    if d3 then s else s.epResume f

/-- EP_MSIX_UNMASK (R484): the pending message of the vector is sent. -/
def execEpMsixUnmask (f vector : Nat) (s : State) : Host.Outcome State Fault Refusal :=
  .next <|
    if !s.epExists f || 64 < vector || (s.epf f).d3 then s else
    let s := s.epTlp
    let pending := (s.epf f).pba.contains vector
    let s := s.updEpf f fun x => { x with unmasked := (vector :: x.unmasked).dedup, pba := x.pba.filter (· != vector) }
    if pending then s.send (.msix f vector) else s

/-- EP_L1_IDLE (R486): `aspm` is whether ASPM L1 is enabled. -/
def execEpL1Idle (aspm : Bool) (s : State) : Host.Outcome State Fault Refusal :=
  .next <|
    let outstanding := s.epReads.any fun r => r.quarAt.isNone
    let waits := s.epfs.any fun x => !x.held.isEmpty
    if aspm && s.isSet F.EPT_STAT_LINK_UP && !s.isSet F.EPT_STAT_FROZEN && !s.epL1 && !outstanding && !waits &&
        s.due (s.epTlpAt + usU (s.rd F.EPT_PM_CFG_L1_IDLE_US)) then
      { s.bump F.EPT_L1_ENTRY with epL1 := true }
    else s

/-- Whether a function of this endpoint has a command in flight. -/
def State.epBusy (s : State) : Bool := s.cmds.any fun c => (s.epFuncOf c.nv.ctl).isSome

/-- EP_LTR_IDLE (R486). -/
def execEpLtrIdle (s : State) : Host.Outcome State Fault Refusal :=
  .next <|
    if s.epLtrActive && !s.epBusy && s.due (s.epCmdAt + msU 1) then
      State.send { s with epLtrActive := false } (.ltr (10 * s.rd F.EPT_PM_CFG_LTR_IDLE))
    else s

/-! ### Controller registers (R476, R481) -/

/-- EP_CC_ENABLE (R481): CC written with EN 1, and AQA. RDY waits for the writes an earlier reset left running. -/
def execEpCcEnable (f cc aqa : Nat) (s : State) : Host.Outcome State Fault Refusal :=
  .next <|
    if !s.epExists f || (s.epf f).d3 || !s.isSet F.EPT_STAT_LINK_UP || !hasBit cc 0 then s else
    let idx := s.epIdx f
    let s := (s.epEnsure idx f).epTlp
    match s.ctrl? idx with
    | none => s
    | some k =>
      if hasBit k.cc 0 || hasBit k.csts 0 then s else
      let asq := bits aqa 11 0 + 1
      let acq := bits aqa 27 16 + 1
      let okay := bits cc 10 7 == 0 && bits cc 13 11 == 0 && bits cc 19 16 == 6 && bits cc 23 20 == 4 &&
        2 ≤ asq && asq ≤ 32 && 2 ≤ acq && acq ≤ 32
      if !okay then s.updCtrl idx fun x => { x with cc := cc, csts := x.csts ||| 2 }
      else
        let sq := Queue.fresh 0 asq none false
        let cq : Queue := { Queue.fresh 0 acq none false with isCq := true, ien := true }
        State.syncReady (s.updCtrl idx fun x => { x with cc := cc, queues := [sq, cq], shutdown := false, lastCmd := s.now })

/-- EP_CC_EN_CLEAR (R476): the reset of R155. -/
def execEpCcEnClear (f : Nat) (s : State) : Host.Outcome State Fault Refusal :=
  .next (if s.epExists f && !(s.epf f).d3 && (s.ctrl? (s.epIdx f)).any (fun k => hasBit k.cc 0) then s.epTlp.resetCtrl (s.epIdx f) else s)

/-- EP_CC_SHN_WRITE (R476): the shutdown of R158. -/
def execEpCcShnWrite (f shn : Nat) (s : State) : Host.Outcome State Fault Refusal :=
  .next <|
    if s.epExists f && !(s.epf f).d3 && (shn = 1 || shn = 2) && (s.ctrl? (s.epIdx f)).isSome then s.epTlp.shutdownCtrl (s.epIdx f) shn none else s

/-- EP_NSSR_WRITE (R476): the subsystem reset of R159, when permitted. -/
def execEpNssrWrite (f val : Nat) (s : State) : Host.Outcome State Fault Refusal :=
  .next <|
    let idx := s.epIdx f
    if s.epExists f && !(s.epf f).d3 && s.isSet F.CMD_CFG_NSSR_EN && val % 2 ^ 32 == 0x4E564D65 && s.hasPriv idx 1 then
      s.epTlp.nssReset (((s.identOf idx).map (·.index)).getD 0) (idx % 4)
    else s

/-! ### Resets of functions and of the link (R488, R489, R491) -/

/-- Steps 1 to 3 of R488 for one function: requests stop, its controller is reset and its queues deleted, everything but
sticky AER fields is at its cold value. Outstanding tags are quarantined, or free when the link is down. -/
def State.epReset (s : State) (f : Nat) (link : Bool) : State :=
  let s := s.resetCtrl (s.epIdx f)
  let s := s.updCtrl (s.epIdx f) fun k => { k with queues := [], cc := 0, csts := 0, kato := 0 }
  let s := s.updEpf f fun x => { EpFunc.cold with aer := x.aer }
  let s : State := { s with
    epFetches := s.epFetches.filter fun x => x.func != f
    epReads := if link then s.epReads.filter fun r => r.func != f
      else mapIf (fun r => r.func == f && r.quarAt.isNone) (fun r => { r with quarAt := some s.now, byReset := true }) s.epReads }
  s.syncEpQuar

/-- VF Enable is written: VFs appear with their controllers, or every VF is reset (R473, R488). -/
def State.epSetVf (s : State) (num : Nat) (link : Bool) : State :=
  let old := s.rd F.EPT_STAT_NUM_VF
  if num = old then s else
  let s := ((List.range old).map (· + 1)).foldl (fun (s : State) f => (s.epReset f link).epRemove f) s
  let s := s.wr F.EPT_STAT_NUM_VF num
  let s := ((List.range num).map (· + 1)).foldl (fun (s : State) f => s.epEnsure (s.epIdx f) f) s
  s.raise 6 12 INFO 9 num

/-- EP_VF_ENABLE (R473): NumVFs while VF Enable is set, 0 when it is cleared. -/
def execEpVfEnable (num : Nat) (s : State) : Host.Outcome State Fault Refusal :=
  .next <|
    if !s.epExists 0 || !s.isSet F.EPT_STAT_LINK_UP then s
    else s.epTlp.epSetVf (min num (s.rd F.EPT_CFG_TOTAL_VF)) false

/-- EP_FLR (R488). -/
def execEpFlr (f : Nat) (s : State) : Host.Outcome State Fault Refusal :=
  .next <|
    if !s.epExists f || !s.isSet F.EPT_STAT_LINK_UP then s else
    let s := (s.epTlp.bump F.EPT_FLR).raise 6 7 INFO 4 f
    let s := s.epReset f false
    if f = 0 then s.epSetVf 0 false else s

/-- Reset every function and freeze the endpoint (R491). -/
def State.epLinkReset (s : State) : State :=
  let s := (s.epReset 0 true).epSetVf 0 true
  let s : State := { s with epReads := [], epFetches := [], epL1 := false }
  let s := (((s.wr F.EPT_STAT_LINK_UP 0).wr F.EPT_STAT_FROZEN 1).wr F.EPT_STAT_SPEED 0).wr F.EPT_STAT_WIDTH 0
  ((s.syncEpQuar.syncRelay).bump F.EPT_LINK_RESET).raise 6 6 NOTICE 3 0

/-- EP_LINK_RESET (R491): kind 0 hot reset, 1 link down, 2 PERST#; each has the same effect. -/
def execEpLinkReset (kind : Nat) (s : State) : Host.Outcome State Fault Refusal :=
  .next (if s.isSet F.EPT_CFG_EN && (s.isSet F.EPT_STAT_LINK_UP || kind = 2) then s.epLinkReset else s)

/-- EP_LINK_UP (R471, R472, R491): speed code of EPT_STAT, at most that of MAX_GEN, and trained lanes. -/
def execEpLinkUp (speed width : Nat) (s : State) : Host.Outcome State Fault Refusal :=
  .next <|
    if !s.isSet F.EPT_CFG_EN || s.isSet F.EPT_STAT_LINK_UP then s else
    let best := s.rd F.EPT_CFG_MAX_GEN + 2
    let sp := min speed best
    let w := min width 16
    let s := (((s.wr F.EPT_STAT_LINK_UP 1).wr F.EPT_STAT_FROZEN 0).wr F.EPT_STAT_SPEED sp).wr F.EPT_STAT_WIDTH w
    let s := ((s.epEnsure (s.epIdx 0) 0).epTlp.syncRelay).raise 6 4 INFO 1 (sp + 256 * w)
    if w < 16 || sp < best then s.raise 6 5 NOTICE 2 (sp + 256 * w) else s

end Sys2Proof.Machine
end

