-- ==== Sys2Proof/Machine/Reload.lean ====
section
/-!
DEFINITION. Machine/Reload.lean: bench reloads with microcode and settings (R568, R570), the order of a live activation at one
unit (R569) and its abandonment (R571); sections and settings of an image (R502, R503, R511, R513).
-/

namespace Sys2Proof.Machine

/-! ### Benches of the part and what an image holds for them -/

/-- Benches of a part that are not OFF for ever (Table ARC-1, R5): a ZT4880-L has no PRT4 to PRT7, XPT3, XPT4, DRV3 to DRV5. -/
def partBenches (p : Variant) : List Nat := (List.range 57).filter fun b =>
  match classInst b with
  | some (c, i) => i < partInsts p c
  | none => p = .zs || b < 12 || (16 ≤ b && b < 54)

/-- The benches of this unit. -/
def State.partBenches (s : State) : List Nat := Machine.partBenches s.part

/-! ### The header and the manifests of a bank (R501, R502, R505) -/

def BankImg.fwSvn (b : BankImg) : Nat := b.hdr.fwSvn
def BankImg.ownSvn (b : BankImg) : Nat := b.hdr.ownSvn
def BankImg.version (b : BankImg) : List Nat := b.hdr.version
def BankImg.ownVersion (b : BankImg) : Nat := b.hdr.ownVersion

/-- The 64 bytes of Table BOOT-5, little-endian, as one buffer. -/
def hdrBuf (h : BankHdr) : Nat :=
  putAt 0 8 h.magic + putAt 8 2 h.format + putAt 10 2 h.nsec + putAt 12 4 h.crc + putAt 16 2 h.fwSvn + putAt 18 2 h.ownSvn +
  ((List.range 4).map fun i => putAt (20 + 2 * i) 2 (h.version.getD i 0)).sum + putAt 28 4 h.ownVersion + putAt 32 4 h.fwSigOfs +
  putAt 36 4 h.ownSigOfs + putAt 40 8 h.built + putAt 48 16 h.rest

/-- The 128 bytes of a section entry (Table BOOT-6) as one buffer; the compatibility word is not part of it. -/
def sectionBuf (x : ImgSection) : Nat :=
  putAt 0 2 x.type + putAt 2 1 x.domain + putAt 3 1 x.flags + putAt 4 4 x.offset + putAt 8 4 x.length + putAt 12 2 x.target + putAt 64 64 x.digest

/-- The entries of a domain in table order. -/
def domainEntries (b : BankImg) (d : Nat) : List Nat := (b.sections.filter fun x => x.domain == d).map sectionBuf

/-- The firmware manifest (R505): bytes 0 to 63 with HDR_CRC, OWN_SVN, OWN_VERSION and OWNSIG_OFS taken as 0, then DOMAIN 0. -/
def fwManifest (b : BankImg) : List Nat := hdrBuf { b.hdr with crc := 0, ownSvn := 0, ownVersion := 0, ownSigOfs := 0 } :: domainEntries b 0

/-- The owner manifest (R505): bytes 0 to 7, 18 to 19 and 28 to 31 (14 bytes), then DOMAIN 1. -/
def ownManifest (b : BankImg) : List Nat := (putAt 0 8 b.hdr.magic + putAt 8 2 b.hdr.ownSvn + putAt 10 4 b.hdr.ownVersion) :: domainEntries b 1

/-- SHA-512 of the manifests, a free value of their bytes. -/
def BankImg.fwDigest (b : BankImg) : Nat := Config.keyed .digest (505 :: fwManifest b)
def BankImg.ownDigest (b : BankImg) : Nat := Config.keyed .digest (505 :: ownManifest b)

/-- The owner signature block of a bank with an owner domain (Table BOOT-5). -/
def BankImg.owner? (b : BankImg) : Option SigBlock := if b.hdr.ownSigOfs = 0 then none else b.ownSig

/-- HDR_CRC: over the header's 4,096 bytes with the field itself 0. -/
def hdrCrc (b : BankImg) : Nat :=
  crc32c (toBytes (hdrBuf { b.hdr with crc := 0 }) 64 ++ (b.sections.flatMap fun x => toBytes (sectionBuf x) 128) ++
    List.replicate (4032 - 128 * b.sections.length) 0)

/-- What the sections and signature blocks of a bank occupy: offset and length. -/
def extents (b : BankImg) : List (Nat × Nat) :=
  (b.sections.map fun x => (x.offset, x.length)) ++ (b.hdr.fwSigOfs, 1536) :: (if b.hdr.ownSigOfs = 0 then [] else [(b.hdr.ownSigOfs, 1536)])

/-- Check 1 of Table BOOT-8 for a bank of `size` bytes (R501, R502). -/
def hdrOk (size : Nat) (b : BankImg) : Bool :=
  let apart := fun (l : List (Nat × Nat)) => l.zipIdx.all fun p => (l.drop (p.2 + 1)).all fun q => p.1.1 + p.1.2 ≤ q.1 || q.1 + q.2 ≤ p.1.1
  b.hdr.magic == 0x504F444E4F4D41 && b.hdr.format == 1 && b.hdr.crc == hdrCrc b && 1 ≤ b.hdr.nsec && b.hdr.nsec ≤ 31 &&
  b.sections.length == b.hdr.nsec &&
  (b.sections.all fun x => x.offset % 4096 == 0 && 4096 ≤ x.offset && 1 ≤ x.length && x.offset + x.length ≤ size) && apart (extents b)

/-- TARGET of the microcode section of a bench (Table BOOT-7). -/
def benchTarget (b : Nat) : Nat := match classInst b with | some (c, _) => c | none => 0x100 + b

/-- Sections of a type and target. -/
def BankImg.ofType (b : BankImg) (t target : Nat) : List ImgSection := b.sections.filter fun x => x.type == t && x.target == target

/-- DIGEST of the microcode section of a bench. -/
def BankImg.ucodeOf (b : BankImg) (bench : Nat) : Nat := ((b.ofType 2 (benchTarget bench)).head?.map (·.digest)).getD 0

/-- Build number of a bank's firmware (BENCH_VER.UCODE_BUILD). -/
def BankImg.build (b : BankImg) : Nat := b.version.getD 3 0

/-- Entries of a setting list that act at this unit, with their indexes (R511, R512). -/
def State.ownSettings (s : State) (l : List SetEntry) : List (SetEntry × Nat) :=
  l.zipIdx.filter fun e => e.1.unit != 2 - s.rd F.CTL_BOOT_STAT_SLOT_B && s.partBenches.contains (e.1.addr / 0x100000)

/-- Home key of the register a setting entry names. -/
def State.settingKey (s : State) (e : SetEntry) : Option Nat :=
  (findReg (e.addr / 0x100000) (e.addr % 0x100000)).bind fun d => s.homeKey (e.addr / 0x100000) (e.addr % 0x100000) d.1.home

/-- Apply a setting entry under its MASK (R513): the state, and whether a value was ignored. -/
def State.putSetting (s : State) (e : SetEntry) : State × Bool :=
  match findReg (e.addr / 0x100000) (e.addr % 0x100000), s.settingKey e with
  | some (d, _), some k =>
    let (inWas, outWas, ofsWas) := (s.isSet F.TIM_PPS_CFG_IN_EN, s.isSet F.TIM_PPS_CFG_OUT_EN, s.rd F.TIM_PPS_OFS)
    let s := ((s.writeWord (e.addr / 0x100000) (e.addr % 0x100000) d k e.value e.mask).1).ppsCfgChanged inWas outWas ofsWas
    (s, ((s.word k).toNat ^^^ e.value) &&& e.mask != 0)
  | _, _ => (s, false)

/-- Apply a bank's entries for a bench's own window, whatever their type, and set its LOCK again (R568). -/
def State.windowSettings (s : State) (b : Nat) (img : BankImg) : State :=
  let s := s.wr (F.BENCH_CTL_LOCK b) 0
  let s := ((s.ownSettings img.settings).filter fun e => e.1.addr / 0x100000 == b).foldl (fun (s : State) e => (s.putSetting e.1).1) s
  s.wr (F.BENCH_CTL_LOCK b) 1

/-! ### Halves of the haul and a changed SerDes section (R541, R544, R568) -/

/-- The status bit of a half. -/
def halfUpFld (h : Nat) : Fld := if h = 0 then F.HAL_PAIR_STAT_H0_UP else F.HAL_PAIR_STAT_H1_UP

/-- Whether a half is in service. -/
def State.halfUp (s : State) (h : Nat) : Bool := h < 2 && s.isSet (halfUpFld h)

/-- The half's state. -/
def State.half (s : State) (h : Nat) : Half := s.pair.halves.getD h Half.cold

/-- A half is out of service: what it has not had acknowledged goes out on the other half, under its sequence; with no other half, it
waits for this one (R544). -/
def State.halfOut (s : State) (h : Nat) : State :=
  let kept := (s.half h).kept
  let s := s.wr (halfUpFld h) 0
  let s : State := if s.halfUp (1 - h) then
      kept.foldl (fun (s : State) k => (s.bump F.HAL_RESEND).haulSend k.chan) (s.updHalf h fun x => { x with kept := [] })
    else s
  s.syncFwd.syncRelay

/-- Take the next half that a changed SerDes section has still to retrain out of service; one that is not in service trains anyway. -/
def State.retrainHalves (s : State) : State :=
  match s.live.halves.filter s.halfUp with
  | [] => s.updLive fun l => { l with halves := [] }
  | h :: rest => (s.updLive fun l => { l with halves := rest }).halfOut h

/-- Digest of a bank's SerDes section (Table BOOT-7). -/
def BankImg.serdes (b : BankImg) : Nat := ((b.ofType 3 0).head?.map (·.digest)).getD 0

/-- A reloaded bench's lanes take a SerDes section that differs from the one they run (R568): DRV retrains each port, HAL its halves one
at a time; PRT retrains at every reload; EPT keeps its own until the next start. -/
def State.loadSerdes (s : State) (b : Nat) (img : BankImg) : State :=
  let runs := (s.live.serdes.find? fun p => p.1 == b).map (·.2)
  if b = 6 || runs == some img.serdes then s else
  let s := s.updLive fun l => { l with serdes := (b, img.serdes) :: l.serdes.filter fun p => p.1 != b }
  if b = 7 then (s.updLive fun l => { l with halves := [0, 1] }).retrainHalves
  else if 51 ≤ b then
    ((List.range 8).map fun i => 8 * (b - 51) + i).foldl (fun (s : State) n =>
      if s.rdStat F.DRV_PSTAT_LINK_UP n = 1 then ((s.linkOff n).updPort n fun p => { p with trainFrom := some s.now }).endCommands n else s) s
  else s

/-- Give a bench the microcode and settings of a bank. -/
def State.loadBench (s : State) (b : Nat) (img : BankImg) : State :=
  let s := s.windowSettings b img
  let s := s.wr ⟨b * 0x100000 + 4, 31, 16⟩ img.build
  let s := s.updLive fun l => { l with ucode := (b, img.ucodeOf b) :: l.ucode.filter fun p => p.1 != b }
  let s := s.loadSerdes b img
  if 8 ≤ b && b < 16 then ([0, 1, 2, 3].foldl (fun (s : State) i => s.linkDown (4 * (b - 8) + i) 0) s).loadMode b else s

/-- Benches to reload for a bank: those whose microcode or settings differ from the running ones; never TRU (R568, R569). -/
def State.livePlan (s : State) (img : BankImg) : List Nat :=
  let mine := fun (l : List SetEntry) (b : Nat) => ((s.ownSettings l).map (·.1)).filter fun e => e.addr / 0x100000 == b
  let old := (s.boot.img.map (·.settings)).getD []
  s.partBenches.filter fun b => b != 1 &&
    ((s.live.ucode.find? fun p => p.1 == b).map (·.2) != some (img.ucodeOf b) || mine img.settings b != mine old b)

/-! ### Reloads under way -/

/-- The live activation's phase. -/
def State.phase (s : State) : Nat := s.rd F.CTL_LIVE_STAT_PHASE

/-- Reload a singleton in place, under a hold while there is a partner (R570). -/
def State.reloadSingleton (s : State) (b : Nat) (act : Bool) : State :=
  let s : State := if s.isSet F.HAL_PAIR_STAT_PAIRED then
      ((s.updPair fun p => { p with hold := some (b, s.now) }).wr F.CTL_LIVE_STAT_HOLD 1).haulSend 3 |>.send (.hold b)
    else s
  s.startReload b act

/-- Go on with the reloads ordered at this unit: each class on its own, then the singletons one at a time, PRT last (R569). With
none left, a reversion ends, or the unit has done its part. -/
def State.liveNext (s : State) : State :=
  let here := (s.halRole == 2 && (s.phase = 2 || s.phase = 4)) || s.phase = 6
  if !here || !s.live.busy.isEmpty then s else
  match s.live.plan.find? fun b => (classInst b).isSome with
  | some _ => s
  | none =>
    let (prt, other) := s.live.plan.partition fun b => 8 ≤ b && b < 16
    match other ++ prt with
    | b :: _ => s.reloadSingleton b true
    | [] =>
      if s.phase = 6 then s.wr F.CTL_LIVE_STAT_PHASE 0
      else if s.phase = 2 then (s.wr F.CTL_LIVE_STAT_PHASE 3).haulSend 3
      else match s.live.commit with
        | some c => ((s.wr F.CTL_LIVE_STAT_PHASE 5).haulSend 3).send (.flashDescriptor (match s.flash.current with | some (i, _, _) => 1 - i | none => 0)
            (match s.flash.current with | some (_, n, _) => n + 1 | none => 1) c.bank)
        | none => s

/-- Begin the reloads of a bank at this unit (R569 step 2). -/
def State.liveStart (s : State) : State :=
  match s.live.commit with
  | none => s
  | some c =>
    let plan := s.livePlan c.img
    let s := s.updLive fun l => { l with plan := plan, fresh := [] }
    let s := (List.range 6).foldl (fun (s : State) k =>
      if plan.any fun b => (classInst b).any fun p => p.1 == k then (s.updRot k fun x => { x with live := true }).liveClass k else s) s
    s.liveNext

/-- Abandon a live activation (R571): the reason, event local 7 and the commit's completion; the replicated instances that run
the new bank are to be reloaded back. -/
def State.abandonLive (s : State) (reason : Nat) : State :=
  if s.phase = 0 || s.phase = 6 then s else
  let back := s.live.fresh.filter fun b => (classInst b).isSome
  let cmd := s.live.commit
  let s := (s.wr F.CTL_LIVE_STAT_ABANDON reason).raise 0 7 ERROR 0x22 reason
  let s := s.updLive fun l => { l with commit := none, plan := back, fresh := [], busy := l.busy.filter fun b => (classInst b.1).isSome }
  let s := s.wr F.CTL_LIVE_STAT_PHASE (if back.isEmpty then 0 else 6)
  let s := (List.range 6).foldl (fun (s : State) c => (s.updRot c fun x => { x with live := back.any fun b => (classInst b).any fun p => p.1 == c }).liveClass c |>.payOwed c) s
  match cmd with
  | some c => if (s.cmd? c.cmd).isSome && (s.isActive || reason = 2) then s.finish c.cmd 0 St.fwProhibited else s
  | none => s

/-- The image a reload loads: that of the activation, of the descriptor's PREFERRED bank while it is reverted, or the booted one. -/
def State.reloadImage (s : State) (act : Bool) : Option BankImg :=
  if !act then s.boot.img
  else if s.phase = 6 then s.flash.banks[s.flash.preferred]?
  else match s.live.commit with
    | some c => some c.img
    | none => s.boot.img

/-- The reload of a bench of this unit ends (R568, R571): a replicated instance through its self-test; a singleton in place. -/
def State.reloadEnd (s : State) (b : Nat) (ok : Bool) : State :=
  match s.live.busy.find? fun x => x.1 == b with
  | none => s
  | some (_, _, act) =>
    let img := s.reloadImage act
    let keep := act && ok && s.phase != 6
    let s := s.updLive fun l => { l with
      busy := l.busy.filter fun x => x.1 != b, plan := l.plan.filter fun x => x != b, lastEnd := s.now
      fresh := if keep then b :: l.fresh.filter fun x => x != b else l.fresh.filter fun x => x != b }
    let s := s.wr F.CTL_LIVE_STAT_BENCH ((s.live.busy.head?.map (·.1)).getD 63)
    let s : State := match ok, img with
      | true, some i => (s.loadBench b i).raise 0 7 INFO 0x23 b
      | _, _ => s
    let s : State := match classInst b with
      | some _ => (if (s.benchAt b).state == .reloading then s.setBenchState b .selftest else s).selftestEnd b ok
      | none =>
        let s := ((s.updPair fun p => { p with hold := none }).wr F.CTL_LIVE_STAT_HOLD 0).haulSend 3 |>.send (.holdEnd b)
        if ok then s else s.faultBench b true
    if act && !ok && s.phase != 6 then s.abandonLive 1 else s.liveNext

end Sys2Proof.Machine
end

