-- ==== Sys2Proof/Machine/Operator.lean ====
section
/-!
DEFINITION. Machine/Operator.lean: the operator's changes to host identities and QoS profiles (R178, R515, R626 to R628), and the
answers to vendor requests (R620, R621, R623).
-/

namespace Sys2Proof.Machine

/-! ### Answers -/

/-- Answer a vendor request: to the partner that forwarded it, over the chain to the unit that relayed it, or on its path. -/
def State.answer (s : State) (d : ReplyTo) (tag command cc detail : Nat) (body : List Nat) : State :=
  if d.partner then (s.haulSend 3).send (.adminReply { d with partner := false } tag command cc detail body)
  else if d.path = 3 then
    s.chainSend (.chainMgmt d.eid 2 d.relay s.addr (command + 0x80) (tag :: s.addr :: cc :: detail :: body) (decide (d.eid < s.addr)))
  else s.send (.vendor d.path d.eid tag (command + 0x80) cc detail body)

/-- A request of a path waits for its response (R621). -/
def State.oweReply (s : State) (d : ReplyTo) : State :=
  if d.partner then s else { s with mgt := { s.mgt with busy := s.mgt.busy.modify d.path (· + 1) } }

/-- Answer a request that waited. -/
def State.answerOwed (s : State) (d : ReplyTo) (tag command cc detail : Nat) (body : List Nat) : State :=
  let s : State := if d.partner then s else { s with mgt := { s.mgt with busy := s.mgt.busy.modify d.path (· - 1) } }
  s.answer d tag command cc detail body

/-! ### Identities (R175, R178, R515, R626) -/

/-- An identity entry (R515, Table NSA-1), each field packed from byte 0; a wrapped secret takes 72 bytes (log entry 73). -/
def parseIdent (index e : Nat) : Ident :=
  { index := index, nqn := bytesAt e 0 223, hostId := bytesAt e 223 16, tenant := bytesAt e 239 4, priv := bytesAt e 243 1, auth := bytesAt e 244 1 % 4,
    hostSecret := bytesAt e 245 72, ctrlSecret := bytesAt e 317 72, func := bytesAt e 389 1 % 128, failTimes := [], refuseUntil := 0 }

/-- The bytes of an entry, its secrets zero. -/
def identBytes (i : Ident) : Nat :=
  putAt 0 223 i.nqn + putAt 223 16 i.hostId + putAt 239 4 i.tenant + putAt 243 1 i.priv + putAt 244 1 i.auth + putAt 389 1 i.func

/-- Whether a reserved bit or byte of an entry is nonzero. -/
def identReserved (e : Nat) : Bool :=
  16 ≤ bytesAt e 243 1 || 4 ≤ bytesAt e 244 1 || 128 ≤ bytesAt e 389 1 || bytesAt e 390 122 != 0

/-- Why IDENT_SET is refused: the first reason of R626 that holds. -/
def State.identRefusal (s : State) (index e : Nat) (unwraps : Bool) : Option Nat :=
  let i := parseIdent index e
  let others := s.idents.filter fun (x : Ident) => x.index != index
  if 16383 < index then some 1
  else if s.idents.any fun (x : Ident) => x.index == index && (x.nqn != i.nqn || x.hostId != i.hostId) then some 2
  else if others.any fun x => x.nqn == i.nqn || x.hostId == i.hostId then some 3
  else if !hasBit s.fuses.life 3 || !unwraps || s.tru.blocked then some 4
  else if (63 < i.func && i.func != 127) || (i.func != 127 && others.any fun x => x.func == i.func) then some 5
  else if i.auth = 3 || identReserved e then some 6
  else none

/-- Each endpoint function serves the identity whose FUNC names it (R176). -/
def State.bindFunctions (s : State) : State :=
  { s with
    ctrls := s.ctrls.map fun (k : Ctrl) => match k.func with
      | some f => { k with ident := (s.idents.find? fun (i : Ident) => i.func == f).map fun (i : Ident) => i.index }
      | none => k }

/-- An identity is registered or changed; a changed one keeps its record of failed authentications. -/
def State.putIdent (s : State) (i : Ident) : State :=
  let old := s.idents.find? fun (x : Ident) => x.index == i.index
  let i : Ident := match old with
    | some o => { i with failTimes := o.failTimes, refuseUntil := o.refuseUntil }
    | none => i
  ({ s with idents := s.idents.filter (fun (x : Ident) => x.index != i.index) ++ [i] }).bindFunctions.raise 0 11 INFO 0x32 i.index

/-- Deregister an identity (R178): its controllers are reset, it is detached everywhere, its registrations dropped and its windows
revoked. -/
def State.deregister (s : State) (i : Nat) : State :=
  let s := ((s.ctrls.filter fun k => k.ident == some i).map fun (k : Ctrl) => k.index).foldl (fun (s : State) x => s.resetCtrl x) s
  let s := (s.nss.map fun (n : Namespace) => n.nsid).foldl (fun (s : State) n =>
    (s.updNs n fun x => { x with attached := x.attached.filter fun a => a != i }).unregister n i) s
  let s := s.revokeWhere fun w => w.publisher == i
  ({ s with idents := s.idents.filter fun (x : Ident) => x.index != i }).bindFunctions.raise 0 11 INFO 0x32 i

/-! ### The ADMIN commands (Table MGT-3, R626, R627) -/

/-- The queue whose connection has a CID, when the connection is an established one of a fabric I/O queue. -/
def State.queueOfCid (s : State) (cid : Nat) : Option (Nat × Queue) :=
  if !((s.conn? cid).any fun c => c.state == .established) then none
  else s.ctrls.findSome? fun k => (k.queues.find? fun q => q.conn == some cid && q.qid != 0).map fun q => (k.index, q)

/-- The refusal of QOS_SET or QOS_GET by R627's order. -/
def State.qosRefusal (s : State) (set : Bool) (scope id d : Nat) : Option Nat :=
  let n := s.ns? id
  if 1 < scope || (set && bytesAt d 20 44 != 0) then some 1
  else if scope = 0 && id = 0xFFFFFFFF then some 7
  else if scope = 0 && n.isNone then some 8
  else if scope = 1 && (s.queueOfCid id).isNone then some 6
  else if !set then none
  else if scope = 1 && bytesAt d 12 7 != 0 then some 5
  else s.profileReason scope n (parseProfile d)

/-- Set the profile that SCOPE and ID name (R202). -/
def State.qosSet (s : State) (scope id d : Nat) : State :=
  if scope = 0 then s.updNs id fun n => { n with profile := parseProfile d }
  else match s.queueOfCid id with
    | some (k, q) => s.updQueue k q.qid fun x => { x with profile := parseProfile d }
    | none => s

/-- The profile that SCOPE and ID name. -/
def State.qosGet (s : State) (scope id : Nat) : Nat :=
  if scope = 0 then ((s.ns? id).map fun (n : Namespace) => n.profile.bytes).getD 0
  else ((s.queueOfCid id).map fun (q : Nat × Queue) => q.2.profile.bytes).getD 0

/-- What an ADMIN request does at the active: the state, CC, DETAIL and response body. -/
def State.adminResult (s : State) (command : Nat) (unwraps : Bool) (b : List Nat) : State × Nat × Nat × List Nat :=
  let refuse := fun (r : Nat) => (s, 0x0B, r, ([] : List Nat))
  let index := beNat (b.take 2)
  let scope := b.getD 0 0
  let id := beNat ((b.drop 4).take 4)
  let d := leNat (b.drop 8)
  if command < 0x28 && !s.stepDone 14 then (s, 7, 0, [])
  else match command with
  | 0x20 =>
    let e := leNat (b.drop 4)
    match s.identRefusal index e unwraps with
    | some r => refuse r
    | none => (s.putIdent (parseIdent index e), 0, 0, [])
  | 0x21 =>
    if 16383 < index then refuse 1
    else if s.idents.any fun (x : Ident) => x.index == index then (s.deregister index, 0, 0, []) else refuse 7
  | 0x22 =>
    if 16383 < index then refuse 1
    else (s, 0, 0, toBytes (((s.idents.find? fun (x : Ident) => x.index == index).map identBytes).getD 0) 512)
  | 0x28 =>
    match s.qosRefusal true scope id d with
    | some r => refuse r
    | none => (s.qosSet scope id d, 0, 0, [])
  | _ =>
    match s.qosRefusal false scope id 0 with
    | some r => refuse r
    | none => (s, 0, 0, toBytes (s.qosGet scope id) 64)

/-- What a change leaves for the partner's copy (Table PAIR-5): the identity, the namespace, or the connection whose queue has the profile. -/
def State.changeBody (s : State) (command : Nat) (b : List Nat) : MirrorBody :=
  let index := beNat (b.take 2)
  let id := beNat ((b.drop 4).take 4)
  if command = 0x28 then
    if b.getD 0 0 = 0 then s.nsBody id none
    else match s.conn? id with
      | some c => s.ctxBody c
      | none => .contextGone id
  else match s.ident? index with
    | some i => .ident i
    | none => .identGone index

/-- An ADMIN request at the active: in paired operation a change is answered when the partner's copy holds it (R626). -/
def State.adminRequest (s : State) (d : ReplyTo) (tag command : Nat) (unwraps : Bool) (body : List Nat) : State :=
  let (s, cc, detail, out) := s.adminResult command unwraps body
  let change := command = 0x20 || command = 0x21 || command = 0x28
  if cc = 0 && change && s.paired then (s.mirror (.vendor d tag command 0 0) (s.changeBody command body)).oweReply d
  else if cc = 0 && change then (s.mirrorAlso (s.changeBody command body)).answer d tag command cc detail out
  else s.answer d tag command cc detail out

/-- An ADMIN request as this unit's role takes it (R628): the active executes it, a STANDBY or RESYNC unit forwards it, any other
answers NOT_ACTIVE. -/
def State.adminByRole (s : State) (d : ReplyTo) (tag command : Nat) (unwraps : Bool) (body : List Nat) : State :=
  let r := s.rd F.HAL_PAIR_STAT_ROLE
  if s.isActive then s.adminRequest d tag command unwraps body
  else if (r = 2 || r = 4) && s.haulUp then ((s.haulSend 3).send (.forwardAdmin d tag command body)).oweReply d
  else s.answer d tag command 8 0 []

end Sys2Proof.Machine
end

