-- ==== Sys2Proof/Machine/Nrt.lean ====
section
/-!
DEFINITION. Machine/Nrt.lean: the native transport (03): receive checks, reassembly and delivery, acknowledgment, connection
set-up and its timers.
-/

namespace Sys2Proof.Machine

/-- A connection enters ERROR (R88): CLOSE once, and the command path treats it as torn down. -/
def State.nrtError (s : State) (c : Conn) : State :=
  let c := { c with state := .error, since := s.now, waiting := [], committed := [] }
  let s := ((s.setConn c).nrtBare c 6).raiseX c 4 NOTICE 1 c.cid
  (s.connDown c).setConn { c with queue := none }

/-- What an acknowledgment in a packet does (R83, R84, R87, R88, R90, R91): packets declared lost are sent again or end the
connection; what waits is sent; a connection in RESYNC whose SYNC is acknowledged is ESTABLISHED again (Table XPT-7). -/
def State.nrtAcked (s : State) (c : Conn) (p : NrtPkt) (bm : List Nat) : State :=
  let (d, lost) := if p.ackv then s.applyAck c p.ackPsn bm (p.renege && (p.typ == 2 || p.typ == 9)) (p.echoPath, p.echoCe) else (c, [])
  let d := { d with peerLimit := if serialLt d.peerLimit p.msgLimit then p.msgLimit else d.peerLimit }
  let d := if d.state == .resync && p.ackv && d.syncPending.isNone && serialLt d.syncPsn p.ackPsn then
    { d with state := .established, since := s.now } else d
  if s.retriesSpent d lost then s.nrtError d
  else
    let (s, d) := s.resendAll d lost
    let s := (c.readsDone d).foldl (fun (s : State) req => s.settleMsg c.cid req) (s.goOn d)
    (s.readsAcked c.cid).winProgress

/-- Whether a message of a reassembly entry is complete (R79): its length is known and every packet up to it has arrived. -/
def Reasm.complete (r : Reasm) (payload : Nat) : Bool :=
  match r.length with
  | some n => (List.range (ceilDiv (max 1 n) (max 1 payload))).all fun i => r.pieces.any fun p => p.1 == i * payload
  | none => false

/-- The blocks that a COMMIT of n bytes under a key covers (R121). -/
def State.commitBlocks (s : State) (key addr n : Nat) : List (Nat × Nat) :=
  match s.window? (key / 256) with
  | some w => (lineSpans (w.slba * 4096 + (addr - w.base)) n).map fun x => (w.nsid, x.1)
  | none => []

/-- Deliver one complete message (R78, R81, R84). In paired operation a SEND is settled by its mirror, and a READ_REQ and a COMMIT
once their response is acknowledged or recorded (DEDUCED, log entry 118). -/
def State.deliverMsg (s : State) (cid : Nat) (r : Reasm) (buf : Nat) : State :=
  match s.conn? cid with
  | none => s
  | some c =>
    let len := r.length.getD 0
    let data := joinPieces r.pieces
    let c := c.markDelivered r.msgId
    let settled := if s.paired then c else c.settle r.msgId
    match r.kind, r.ext with
    | 1, _ =>
      let id := s.nextCmd
      let s := (s.setConn settled).capsule settled r.ord r.msgId data len buf
      let body : MirrorBody := match s.cmd? id, (s.conn? cid).map fun x => x.settle r.msgId with
        | some x, k => .slot x k
        | none, some k => s.ctxBody k
        | none, none => .contextGone cid
      if s.paired then s.mirror (.settle cid r.msgId) body else s.mirrorAlso body
    | 2, .keyed key addr total => (s.setConn c).deliverWindow c r.msgId key addr total (.write data (2 ^ len - 1)) r.ord
    | 3, .keyed key addr total => (s.setConn settled).deliverWindow settled r.msgId key addr total .read r.ord
    | 4, .readResp req =>
      match c.asked.find? fun a => a.1 == req with
      | some (_, cmd, ofs) =>
        (s.setConn ({ c with asked := c.asked.filter fun a => a.1 != req }.settle r.msgId)).pieceArrived cmd ofs len data
      | none => s.setConn (c.settle r.msgId)
    | 5, .atomic key op addr o1 o2 =>
      if op = 0x10 then
        (s.setConn settled).deliverWindow settled r.msgId key addr o1 (.commit (s.commitBlocks key addr o1)) r.ord
      else (s.setConn c).deliverWindow c r.msgId key addr 8 (if op = 1 then .cas o1 o2 else .fadd o1) r.ord
    | _, _ => s.setConn (c.settle r.msgId)

/-- Deliver every message that can be: complete, and with ORD set every lower message delivered (R81). -/
def State.deliverReady (s : State) (cid buf : Nat) : Nat → State
  | 0 => s
  | fuel + 1 =>
    match s.conn? cid with
    | none => s
    | some c =>
      match c.reasm.find? fun r => r.complete c.payload && !c.isDelivered r.msgId && (!r.ord || r.msgId == c.lowMark) with
      | some r => (s.deliverMsg cid r buf).deliverReady cid buf fuel
      | none => s

/-- Acknowledge by R85: at once, or counted toward 16 packets or the ACK delay. -/
def State.ackPolicy (s : State) (cid path : Nat) (now_ : Bool) : State :=
  match s.conn? cid with
  | none => s
  | some c =>
    let c := { c with unacked := c.unacked + 1, ackPath := path, ackDue := some (c.ackDue.getD (s.now + nsU 100 * s.rd F.XPT_TIMER_CFG_ACK_DELAY)) }
    if now_ || 16 ≤ c.unacked then s.sendAck c path else s.setConn c

/-- Length of a key-checked access and its kind (Table KEY-5). -/
def keyAccess (p : NrtPkt) : Option (Nat × Nat × Nat × Nat) :=
  match p.kind, p.ext with
  | 2, .keyed k a n => some (1, k, a, n)
  | 3, .keyed k a n => some (0, k, a, n)
  | 5, .atomic k op a o1 _ => some (if op = 0x10 then (3, k, a, o1) else (2, k, a, 8))
  | _, _ => none

/-- Check 8 of Table XPT-6, with the bound of a SEND (R77); messages whose kind carries no payload have none (log entry 43), and a
WRITE stays within its TOTAL_LEN (DEDUCED, log entry 119). -/
def nrtSizeOk (c : Conn) (p : NrtPkt) : Bool :=
  let bare := p.kind == 3 || p.kind == 5 || p.kind == 6
  let end_ := p.msgOfs + p.payLen
  let fit := if bare then p.msgOfs = 0 && p.payLen = 0 && p.last
    else p.msgOfs % max 1 c.payload = 0 && (if p.last then 1 ≤ p.payLen && p.payLen ≤ c.payload else p.payLen = c.payload)
  let bound := match p.kind, p.ext with
    | 1, _ => 64 + 16384
    | 2, .keyed _ _ n => min n 1048576
    | _, _ => 1048576
  let same := match (c.reasm.find? fun r => r.msgId == p.msgId).bind (·.length) with
    | some n => if p.last then n = end_ else end_ < n
    | none => true
  fit && end_ ≤ bound && same

/-- The verdict of checks 6 to 9 of Table XPT-6 on a DATA packet: it passes; it is a duplicate, or older than the window (R86); a
resend of a message that was delivered before a takeover (R123; DEDUCED, log entry 111); check 7, check 8 or check 9 fails, the
last with the key and the failing check of Table KEY-5. -/
inductive NrtVerdict where
  | pass | dup | old | again | credit | fmt
  | key (k check : Nat)
deriving DecidableEq, Repr

/-- Checks 6 to 9 of Table XPT-6 in their order. -/
def State.nrtCheck (s : State) (c : Conn) (p : NrtPkt) : NrtVerdict :=
  let d := dist32 p.psn c.rcvPsn
  if (d < 4096 && c.received.any fun q => q.1 == p.psn) || (d != 0 && dist32 c.rcvPsn p.psn ≤ 4096) then .dup
  else if 4096 ≤ d then .old
  else if (0 < c.epoch || c.syncPending.isSome) && c.isDelivered p.msgId then .again
  else if serialLt p.msgId c.lowMark || !serialLt p.msgId c.granted then .credit
  else if !nrtSizeOk c p then .fmt
  else match (keyAccess p).bind fun (kind, k, a, n) => (s.keyCheck c kind k a n).map fun x => (k, x) with
  | some (k, x) => .key k x
  | none => .pass

/-- Record the PSN of a message already delivered: it is settled unless a window message of its number is still to be (R120). -/
def State.settleAgain (s : State) (c : Conn) (p : NrtPkt) : State :=
  let c := { c with received := (p.psn, p.msgId) :: c.received }
  if s.winops.any fun o => o.cid == c.cid && o.msg == p.msgId && !o.acked then s.setConn c else (s.setConn c).settleMsg c.cid p.msgId

/-- A DATA packet that passed its checks, on a connection that takes messages (R78 to R81, R85). -/
def State.nrtTake (s : State) (c : Conn) (p : NrtPkt) : State :=
  let old := c.reasm.find? fun r => r.msgId == p.msgId
  if c.isDelivered p.msgId then (s.settleAgain c p).ackPolicy c.cid p.path true
  else if old.isNone && 8192 ≤ s.reasmUsed c.role then
    (s.bumpX F.XPT_REASM_FULL c).raiseOnce (msU 1) (s.roleBench 0 c.role) 8 NOTICE 5 0
  else
    let (s, ok) := match p.kind, p.ext with
      | 2, .keyed k a _ => s.placeBytes c.cid p.msgId k (a + p.msgOfs) p.payLen p.payload
      | _, _ => (s, true)
    if !ok then s else
    let r : Reasm := old.getD { msgId := p.msgId, kind := p.kind, ord := p.ord, ext := p.ext, pieces := [], length := none, firstAt := s.now }
    let r := { r with
      pieces := if r.pieces.any fun x => x.1 == p.msgOfs then r.pieces else (p.msgOfs, if p.kind = 2 then 0 else p.payload) :: r.pieces
      length := if p.last then some (p.msgOfs + p.payLen) else r.length }
    let c := { c with received := (p.psn, p.msgId) :: c.received, reasm := (c.reasm.filter fun x => x.msgId != p.msgId) ++ [r] }
    let s := (s.setConn c).deliverReady c.cid p.buf c.reasm.length
    let s : State := match s.conn? c.cid with
      | some c => s.setConn (s.grantCredit c)
      | none => s
    s.ackPolicy c.cid p.path (p.ackreq || r.complete c.payload)

/-- What a message already delivered is answered again with (R127): a READ_REQ with the current content, an ATOMIC from its stored
result, unless the answer is still on its way; a COMMIT without a stored result covers what is visible now. -/
def State.answerAgain (s : State) (c : Conn) (p : NrtPkt) : State :=
  if !c.isDelivered p.msgId || s.winops.any fun o => o.cid == c.cid && o.msg == p.msgId then s else
  match p.kind, p.ext with
  | 3, .keyed k a n => if (s.keyCheck c 0 k a n).isNone then s.deliverWindow c p.msgId k a n .read p.ord else s
  | 5, .atomic k op a n _ =>
    match c.atomics.find? fun x => x.1 == p.msgId with
    | some (_, v, m) =>
      if c.una.any (fun q => q.msgId == m) || c.waiting.any (fun w => w.msg == m) then s
      else s.transmitAs c.cid m (.atomicResp p.msgId v)
    | none =>
      if op = 0x10 && (s.keyCheck c 3 k a n).isNone then s.deliverWindow c p.msgId k a n (.commit (s.commitBlocks k a n)) p.ord else s
  | _, _ => s

/-- A duplicate DATA packet (R86, R127): acknowledged, and answered again. -/
def State.nrtDup (s : State) (c : Conn) (p : NrtPkt) : State := ((s.bumpX F.XPT_DUP c).sendAck c p.path).answerAgain c p

/-- The connection a packet names, by checks 4 and 5 of Table XPT-6. -/
def State.nrtConn? (s : State) (p : NrtPkt) : Option Conn :=
  (s.conn? p.dcid).bind fun c =>
    if c.mode == .nrt && p.srcAddr == c.peerAddr && c.peerSport ≤ p.srcPort && p.srcPort < c.peerSport + c.npaths &&
      p.path == p.srcPort - c.peerSport then some c else none

/-- Whether TYPE and KIND are defined (check 3). -/
def nrtDefined (p : NrtPkt) : Bool :=
  let op := match p.ext with | .atomic _ op _ _ _ => op == 1 || op == 2 || op == 0x10 | _ => true
  let fits := match p.kind, p.ext with
    | 1, .none | 2, .keyed .. | 3, .keyed .. | 4, .readResp _ | 5, .atomic .. | 6, .atomicResp .. => true
    | _, _ => false
  p.ver == 1 && 1 ≤ p.typ && p.typ ≤ 9 && (p.typ != 1 || (fits && op))

/-- Note a packet on its path: its congestion mark, and the last use of the connection. -/
def Conn.heard (c : Conn) (p : NrtPkt) (now : Nat) : Conn :=
  let c := { c with lastRx := now, lastUse := now }
  if p.ceMarked then { c with paths := c.paths.modify p.path fun q => { q with ceToEcho := q.ceToEcho + 1 } } else c

/-- What every packet that passed R72 does: it is counted and heard, a SYNC owed is sent (R101), and it establishes a connection in
HALF_OPEN if it is a DATA, ACK or PROBE (Table XPT-7). -/
def State.nrtNoted (s : State) (c : Conn) (p : NrtPkt) : State × Conn :=
  let s := s.bumpX F.XPT_RX_PKT c
  let (s, c) := s.sendSync (c.heard p s.now)
  let (s, c) := if c.state == .halfOpen && (p.typ == 1 || p.typ == 2 || p.typ == 8) then
      (s.raiseX c 5 INFO 2 c.cid, { c with state := .established, since := s.now }) else (s, c)
  (s.setConn c, c)

/-- Whether a connection carries messages. -/
def Conn.live (c : Conn) : Bool := c.state == .established || c.state == .resync

/-- Apply the acknowledgment that a packet carries to the connection as it now is. -/
def State.nrtAckedNow (s : State) (cid : Nat) (p : NrtPkt) (bm : List Nat) : State :=
  match s.conn? cid with
  | some c => if c.live then s.nrtAcked c p bm else s
  | none => s

/-- Answer a packet with an ACK at once (R85). -/
def State.ackNow (s : State) (cid path : Nat) : State :=
  match s.conn? cid with
  | some c => if c.live then s.sendAck (s.grantCredit c) path else s
  | none => s

/-- A DATA packet that passed checks 1 to 5. -/
def State.nrtData (s : State) (c : Conn) (p : NrtPkt) : State :=
  match s.nrtCheck c p with
  | .dup => s.nrtDup c p
  | .old =>
    let (s, c) := (s.bumpX F.XPT_OLD c).nrtSend c (c.header 2 p.path) .none .none
    s.setConn c
  | .again => (((s.bumpX F.XPT_DUP c).settleAgain c p).ackNow c.cid p.path).answerAgain c p
  | .credit => s.bumpX F.XPT_DROP_CREDIT c
  | .fmt => s.bumpX F.XPT_DROP_FMT c
  | .key k x => s.keyFail c k x
  | .pass =>
    let (s, c) := s.nrtNoted c p
    if c.live then
      let s := s.nrtTake c p
      if p.ackv then s.nrtAckedNow c.cid p [] else s
    else s

/-- A packet of a connection whose context is in the bank (R72, R75, R83, R85, R90). -/
def State.nrtOn (s : State) (c : Conn) (p : NrtPkt) : State :=
  if p.typ = 1 then s.nrtData c p else
  let (s, c) := s.nrtNoted c p
  if p.typ = 6 then
    if c.live || c.state == .halfOpen then ((s.connDown c).nrtBare c 7).freeConn c else s
  else if p.typ = 7 then
    if c.state == .draining then (s.raiseX c 6 INFO 3 c.cid).freeConn c else s
  else
    let (s, c) := if p.typ = 2 then s.restorePath c p.path else (s, c)
    let s := s.setConn c
    let s : State := if p.typ = 2 then s.nrtAckedNow c.cid p (bitmapBits p.payload (min 512 p.payLen))
      else if p.typ = 8 && p.ackv then s.nrtAckedNow c.cid p [] else s
    if p.typ = 8 || p.ackreq then s.ackNow c.cid p.path else s

/-- Packets that a role holds for spilled connections (R98). -/
def State.heldPackets (s : State) (r : Nat) : Nat :=
  ((s.conns.filter fun x => x.role == r).map fun x => x.held.length + x.heldRoce.length).sum

/-- An NRT packet other than CONNECT (R68, R72, R98): the checks in their order; a packet of a spilled connection is held while
its context is fetched. -/
def State.nrtPacket (s : State) (p : NrtPkt) : State :=
  let r := s.xptRole (p.dcid % 2 ^ 18)
  if p.udpPort != s.rd F.XPT_NRT_PORT_UDP_PORT || !s.isSet F.XPT_CTX_CFG_NRT_EN then s
  else if p.crc != nrtCrc p.toNrtHdr p.ext p.payload then s.bump (F.XPT_DROP_CRC r)
  else if !nrtDefined p then s.bump (F.XPT_DROP_FMT r)
  else match s.nrtConn? p with
  | none => s.bump (F.XPT_DROP_CID r)
  | some c =>
    if c.spilled then
      if 512 ≤ s.heldPackets r then s.bump (F.XPT_SPILL_DROP r) else s.setConn { c with held := c.held ++ [p], fetchQueued := true }
    else s.nrtOn c p

/-- A packet of the type a row names, unless its type is one not defined. -/
def asType (p : NrtPkt) (t : Nat) : NrtPkt := if 1 ≤ p.typ && p.typ ≤ 9 then { p with typ := t } else p

/-- NRT_DATA_PACKET (R72, R78 to R86). -/
def execNrtDataPacket (p : NrtPkt) (s : State) : Host.Outcome State Fault Refusal := .next (s.nrtPacket (asType p 1))
/-- NRT_ACK (R83, R87, R88, R90, R91). -/
def execNrtAck (p : NrtPkt) (s : State) : Host.Outcome State Fault Refusal := .next (s.nrtPacket (asType p 2))
/-- NRT_CLOSE (R75). -/
def execNrtClose (p : NrtPkt) (s : State) : Host.Outcome State Fault Refusal := .next (s.nrtPacket (asType p 6))
/-- NRT_CLOSED (R75). -/
def execNrtClosed (p : NrtPkt) (s : State) : Host.Outcome State Fault Refusal := .next (s.nrtPacket (asType p 7))
/-- NRT_PROBE (R85, R91). -/
def execNrtProbe (p : NrtPkt) (s : State) : Host.Outcome State Fault Refusal := .next (s.nrtPacket (asType p 8))

/-- The ACCEPT of a connection (R73, R74), from its first UDP source port; it carries no acknowledgment and PSN 0 (log entry 120). -/
def State.sendAccept (s : State) (c : Conn) (srcPort : Nat) : State :=
  let r : ConnectReq := {
    srcCid := c.cid, initPsn := c.sndPsn, initMsgId := c.sndMsg, msgLimit := c.granted, sportBase := c.sport, npaths := c.npaths - 1,
    payload := if c.payload = 1024 then 0 else if c.payload = 2048 then 1 else 2, nonce := c.nonce, reason := 0, zero := 0 }
  (s.send (.nrt c.peerAddr c.sport srcPort { c.header 4 0 with ackv := false, psn := 0, payLen := 32 } .none (.setup r))).bumpX F.XPT_TX_PKT c

/-- A REFUSE to the source of a CONNECT with a reason of Table XPT-5; role 0 sends it from the NRT port (log entry 120). -/
def State.sendRefuse (s : State) (p : NrtPkt) (r : ConnectReq) (why : Nat) : State :=
  let h : NrtHdr := {
    ver := 1, typ := 5, last := false, ord := false, ackreq := false, ackv := false, renege := false, path := 0, kind := 0,
    dcid := r.srcCid % 2 ^ 24, rsvd := 0, psn := 0, msgId := 0, msgOfs := 0, ackPsn := 0, msgLimit := 0, payLen := 32, echoPath := 0,
    echoCe := 0 }
  let x : ConnectReq := {
    srcCid := 0, initPsn := 0, initMsgId := 0, msgLimit := 0, sportBase := 0, npaths := 0, payload := 0, nonce := r.nonce, reason := why,
    zero := 0 }
  (s.send (.nrt p.srcAddr p.udpPort p.srcPort h .none (.setup x))).bump (F.XPT_TX_PKT 0)

/-- Whether a CONNECT is one of Table XPT-5: PSN 0, 32 bytes, the ranges of its fields (log entry 121). -/
def connectOk (p : NrtPkt) (r : ConnectReq) : Bool :=
  p.psn == 0 && p.payLen == 32 && r.srcCid < 2 ^ 24 && r.sportBase % 16 == 0 && r.npaths ≤ 15 && r.payload ≤ 2 && r.zero == 0

/-- NRT_CONNECT (R72 to R75, R97). Until it has a connection it is counted at role 0, whose INDEX 0 it names (R70). -/
def execNrtConnect (p : NrtPkt) (s : State) : Host.Outcome State Fault Refusal :=
  .next <|
    let r := parseSetup p.payload
    let mine := s.conns.filter fun c => c.mode == .nrt && c.state == .halfOpen && c.peerAddr == p.srcAddr
    if p.dcid != 0 then s.nrtPacket (asType p 3)
    else if p.udpPort != s.rd F.XPT_NRT_PORT_UDP_PORT then s
    else if p.crc != nrtCrc p.toNrtHdr p.ext p.payload then s.bump (F.XPT_DROP_CRC 0)
    else if p.ver != 1 then s.bump (F.XPT_DROP_FMT 0)
    else if !s.isSet F.XPT_CTX_CFG_NRT_EN then s.sendRefuse p r 4
    else
      let s := s.bump (F.XPT_RX_PKT 0)
      match mine.find? fun c => c.nonce == r.nonce with
      | some c => s.sendAccept c p.srcPort
      | none =>
        if !connectOk p r then s.sendRefuse p r 3
        else if 64 ≤ mine.length then (s.sendRefuse p r 2).raiseOnce (msU 1) (s.roleBench 0 0) 11 NOTICE 8 0
        else match s.freeIndex? with
        | none => s.sendRefuse p r 1
        | some i => match s.makeRoom (s.xptRole i) with
          | none => s.sendRefuse p r 1
          | some s =>
            let (psn, s) := s.draw .unstated (2 ^ 32)
            let (msg, s) := s.draw .unstated (2 ^ 32)
            let (sport, s) := s.draw .unstated 4096
            let n := min r.npaths (s.rd F.XPT_CTX_CFG_NPATH_MAX) + 1
            let c : Conn := { Conn.fresh i (s.nextGen i) .nrt .halfOpen s.now with
              role := s.xptRole i, peerAddr := p.srcAddr, peerCid := r.srcCid, peerSport := r.sportBase, sport := 16 * sport, npaths := n
              paths := List.replicate n Path.fresh, payload := 1024 * 2 ^ r.payload, nonce := r.nonce, rcvPsn := r.initPsn
              lowMark := r.initMsgId, granted := (r.initMsgId + s.rd F.XPT_CTX_CFG_CREDIT_INIT) % 2 ^ 32, peerLimit := r.msgLimit
              sndPsn := psn, sndMsg := msg, ceiling := psn }
            let s : State := { s with conns := s.conns ++ [c] }
            (s.sendAccept c p.srcPort).raiseCeiling c

/-! ### Timers -/

/-- A connection in the bank: one that is spilled has no running timers (R98). -/
def State.running (s : State) (cid : Nat) : Option Conn := (s.conn? cid).bind fun c => if c.spilled then none else some c

/-- REASSEMBLY_TIMEOUT (R82). -/
def execReassemblyTimeout (cid msgId : Nat) (s : State) : Host.Outcome State Fault Refusal :=
  .next <|
    match s.running cid with
    | none => s
    | some c => match c.reasm.find? fun r => r.msgId == msgId with
      | none => s
      | some r =>
        if c.mode != .nrt || r.complete c.payload || !s.due (r.firstAt + usU 100 * s.rd F.XPT_TIMER_CFG_REASM) then s else
        let c := { c.forget msgId with renege := true }
        let s : State := { s with pends := s.pends.filter fun p => !(p.cid == cid && p.msg == msgId) }
        let s := ((s.setConn c).bumpX F.XPT_REASM_DISCARD c).raiseX c 7 NOTICE 4 cid
        s.sendAck c c.ackPath

/-- ACK_DELAY_EXPIRY (R85): the timed ACK leaves on the path of the newest packet. -/
def execAckDelayExpiry (cid : Nat) (s : State) : Host.Outcome State Fault Refusal :=
  .next <|
    match s.running cid with
    | some c => if s.dueOpt c.ackDue then s.sendAck c c.ackPath else s
    | none => s

/-- A timeout on a path (R90): the second in a row makes it suspect. -/
def State.pathTimeout (s : State) (c : Conn) (p : Nat) : State × Conn :=
  let x := c.pathAt p
  if !x.suspect && 2 ≤ x.timeouts + 1 then
    (s.raiseX c 9 NOTICE 6 (c.cid + 2 ^ 24 * p), c.updPath p fun x => { x with timeouts := x.timeouts + 1, suspect := true, probeAt := s.now })
  else (s, c.updPath p fun x => { x with timeouts := x.timeouts + 1 })

/-- RTO_EXPIRY (R87, R88, R90). -/
def execRtoExpiry (cid : Nat) (s : State) : Host.Outcome State Fault Refusal :=
  .next <|
    match s.running cid with
    | none => s
    | some c =>
      let old := c.una.filter fun p => !p.acked && s.due (p.sentAt + s.rtoOf c)
      let orders := old.map (·.order)
      if c.mode != .nrt || old.isEmpty || !(c.state == .established || c.state == .resync) then s
      else
        let s := s.bumpX F.XPT_RTO c
        if s.retriesSpent c orders then s.nrtError c
        else
          let (s, c) := ((old.map (·.path)).dedup).foldl (fun (x : State × Conn) p => x.1.pathTimeout x.2 p) (s, c)
          let c := { c with backoff := min 32 (c.backoff + 1) }
          let (s, c) := s.resendAll c orders
          s.setConn c

/-- PATH_PROBE_TIMER (R90): a suspect path is probed every 1 ms. -/
def execPathProbeTimer (cid path : Nat) (s : State) : Host.Outcome State Fault Refusal :=
  .next <|
    match s.running cid with
    | some c =>
      if path < c.npaths && (c.pathAt path).suspect && s.due (c.pathAt path).probeAt then
        let (s, c) := s.nrtSend c (c.header 8 path) .none .none
        s.setConn (c.updPath path fun x => { x with probeAt := s.now + msU 1, probeOut := true })
      else s
    | none => s

/-- CREDIT_PROBE_TIMER (R91): a sender with no unused credit probes once per RTO. -/
def execCreditProbeTimer (cid : Nat) (s : State) : Host.Outcome State Fault Refusal :=
  .next <|
    match s.running cid with
    | some c =>
      if c.mode == .nrt && c.live && !serialLt c.sndMsg c.peerLimit && s.due c.creditProbeAt then
        let (s, c) := s.nrtSend c (c.header 8 c.resendPath) .none .none
        s.setConn { c with creditProbeAt := s.now + s.rtoOf c }
      else s
    | none => s

/-- HALF_OPEN_TIMEOUT (R75): 10 ms without a packet of the host. -/
def execHalfOpenTimeout (cid : Nat) (s : State) : Host.Outcome State Fault Refusal :=
  .next <|
    match s.running cid with
    | some c => if c.mode == .nrt && c.state == .halfOpen && s.due (c.since + msU 10) then s.freeConn c else s
    | none => s

/-- ERROR_HOLD_EXPIRY (R75): 1 ms in ERROR. -/
def execErrorHoldExpiry (cid : Nat) (s : State) : Host.Outcome State Fault Refusal :=
  .next <|
    match s.running cid with
    | some c => if c.mode == .nrt && c.state == .error && s.due (c.since + msU 1) then s.freeConn c else s
    | none => s

/-- CLOSE_RETRY_EXPIRY (R75): 3 CLOSE at intervals of RTO_MAX, then the index is freed. -/
def execCloseRetryExpiry (cid : Nat) (s : State) : Host.Outcome State Fault Refusal :=
  .next <|
    match s.running cid with
    | some c =>
      if c.mode == .nrt && c.state == .draining && s.due (c.closeAt + usU 100 * s.rd F.XPT_TIMER_CFG_RTO_MAX) then
        if 3 ≤ c.closeSent then (s.raiseX c 6 INFO 3 cid).freeConn c
        else (s.nrtBare c 6).setConn { c with closeSent := c.closeSent + 1, closeAt := s.now }
      else s
    | none => s

/-- SYNC_DEADLINE (R101): within 2 ms of the takeover; a spilled context is fetched for it, and its SYNC goes out then (R98). -/
def execSyncDeadline (cid : Nat) (s : State) : Host.Outcome State Fault Refusal :=
  .next <|
    match s.conn? cid with
    | some c =>
      if !s.dueOpt c.syncPending then s
      else if c.spilled then s.setConn { c with fetchQueued := true }
      else
        let (s, c) := s.sendSync c
        s.setConn c
    | none => s

end Sys2Proof.Machine
end

