-- ==== Sys2Proof/Machine/Roce.lean ====
section
/-!
DEFINITION. Machine/Roce.lean: compatible mode (R93 to R96), connection management, and the fetch of a spilled context (R98).
-/

namespace Sys2Proof.Machine

/-- How far a 24-bit PSN lies above another. -/
def dist24 (a b : Nat) : Nat := (a + 2 ^ 24 - b % 2 ^ 24) % 2 ^ 24

/-- A queue pair enters ERROR: the command path treats it as torn down and CM sends DREQ (Table XPT-8). -/
def State.roceError (s : State) (c : Conn) : State :=
  ((s.raiseX c 4 NOTICE 1 c.cid).connDown c).closeConn c.cid

/-- Answer a congestion mark with a CNP, at most one per GAP_US (R95). -/
def State.cnpFor (s : State) (c : Conn) (marked : Bool) : State × Conn :=
  let quiet := match c.cnpTxAt with | some t => !s.due (t + usU (s.rd F.XPT_CNP_CFG_GAP_US)) | none => false
  if marked && s.isSet F.XPT_CNP_CFG_CNP_EN && !quiet then
    ((s.roceSend c .cnp 1).bumpX F.XPT_CNP_TX c, { c with cnpTxAt := some s.now })
  else (s, c)

/-- A NAK after which the queue pair enters ERROR (Table KEY-5; a request out of place, log entry 117). -/
def State.roceReject (s : State) (c : Conn) (psn kind : Nat) : State := (s.roceSend c (.nak psn kind) 1).roceError c

/-- A negative acknowledgment for a failed key check (Table KEY-5), after which the queue pair enters ERROR (R115). -/
def State.roceKeyNak (s : State) (c : Conn) (psn key check kind addr len : Nat) : State :=
  let invalid := check = 5 && ((kind = 2 && addr % 8 != 0) || 1048576 < len)
  (s.keyFail c key check).roceReject c psn (if invalid then 2 else 1)

/-- The message of a request stream that has begun and not ended: its entry. -/
def Conn.openMsg (c : Conn) : Option Reasm := c.reasm.find? fun r => r.kind == 1 || r.kind == 2

/-- The highest PSN that R84 lets the queue pair acknowledge again: below the first request not answered, and below a message that
has begun (R96). -/
def Conn.ackPoint (c : Conn) : Nat :=
  match c.resp, c.openMsg with
  | r :: _, _ => dist24 r.first 1
  | [], some m => dist24 m.msgId 1
  | [], none => dist24 c.rcvPsn 1

/-- Whether a request packet stands where its message allows: First and Only where none has begun, Middle and Last in a message of
its kind; all but the last carry one MTU (the InfiniBand Architecture's rule; PRESUMED, log entry 117). -/
def rocePlaceOk (c : Conn) (kind : Nat) (p : RocePkt) : Bool :=
  let seq := if kind ≤ 1 then (match c.openMsg with | none => p.first | some r => !p.first && r.kind == kind + 1) else c.openMsg.isNone
  seq && (1 < kind || (if p.last then p.payLen ≤ c.payload else p.payLen == c.payload))

/-- PSNs that a request takes up: a read as many as its response has packets. -/
def rocePsns (c : Conn) (kind : Nat) (p : RocePkt) : Nat := if kind = 2 then max 1 (ceilDiv p.len (max 1 c.payload)) else 1

/-- READ and atomic requests of a queue pair not yet answered. -/
def State.roceOpen (s : State) (c : Conn) : Nat :=
  (s.winops.filter fun o => o.cid == c.cid && !o.acked && (match o.kind with | .write .. => false | _ => true)).length

/-- A SEND packet in its place (R77, R84, R94). -/
def State.roceTakeSend (s : State) (c : Conn) (p : RocePkt) : State :=
  let adv := fun (c : Conn) => { c with rcvPsn := (p.psn + 1) % 2 ^ 24, nakSent := false }
  let r : Reasm := (c.openMsg).getD
    { msgId := p.psn, kind := 1, ord := false, ext := .none, pieces := [], length := none, firstAt := s.now }
  let ofs := r.pieces.length * c.payload
  if p.first && (s.capsuleSlots c = 0 || s.inflightFull) then
    s.roceFlush c (c.resp ++ [{ first := p.psn, psn := p.psn, ans := some .rnr }])
  else if 64 + 16384 < ofs + p.payLen then s.roceReject c p.psn 2
  else
    let s := s.bumpX F.XPT_RX_PKT c
    let r : Reasm := { r with pieces := r.pieces ++ [(ofs, p.payload)] }
    let rest := c.reasm.filter fun x => x.kind != 1
    if p.last then
      let c := adv { c with reasm := rest, resp := c.resp ++ [{ first := r.msgId, psn := p.psn, ans := none }] }
      let s := s.setConn c
      let s : State := if s.paired then s else s.roceAnswer c.cid p.psn .ack
      let id := s.nextCmd
      let s := s.capsule c false p.psn (joinPieces r.pieces) (ofs + p.payLen) p.buf
      let body : MirrorBody := match s.cmd? id with | some x => .slot x (s.conn? c.cid) | none => s.ctxBody c
      if s.paired then s.mirror (.settle c.cid p.psn) body else s.mirrorAlso body
    else s.setConn (adv { c with reasm := rest ++ [r] })

/-- An RDMA WRITE packet in its place (R78, R84, R115). -/
def State.roceTakeWrite (s : State) (c : Conn) (p : RocePkt) : State :=
  let adv := fun (c : Conn) => { c with rcvPsn := (p.psn + 1) % 2 ^ 24, nakSent := false }
  let (first, key, addr, len) := match c.openMsg with
    | some r => match r.ext with
      | .keyed k a n => (r.msgId, k, a, n)
      | _ => (p.psn, p.key, p.addr, p.len)
    | none => (p.psn, p.key, p.addr, p.len)
  match (if len = 0 then none else s.keyCheck c 1 key addr len) with
  | some x => s.roceKeyNak c p.psn key x 1 addr len
  | none =>
    let ofs := dist24 p.psn first * c.payload
    let msg := (first + max 1 (ceilDiv len (max 1 c.payload)) - 1) % 2 ^ 24
    if (if p.last then ofs + p.payLen != len else len ≤ ofs + p.payLen) then s.roceReject c p.psn 2 else
    let (s, ok) := if len = 0 then (s, true) else s.placeBytes c.cid msg key (addr + ofs) p.payLen p.payload
    if !ok then s else
    let s := s.bumpX F.XPT_RX_PKT c
    let rest := c.reasm.filter fun x => x.kind != 2
    if p.last then
      let c := adv { c with reasm := rest, resp := c.resp ++ [{ first := first, psn := msg, ans := none }] }
      let s := s.setConn c
      if len = 0 then s.roceAnswer c.cid msg .ack else s.deliverWindow c msg key addr len (.write 0 0) true
    else
      let r : Reasm := { msgId := first, kind := 2, ord := false, ext := .keyed key addr len, pieces := [], length := some len, firstAt := s.now }
      s.setConn (adv { c with reasm := rest ++ [r] })

/-- A READ or atomic request goes to its window; a READ of length 0 accesses nothing (R115). -/
def State.roceWindow (s : State) (c : Conn) (kind : Nat) (p : RocePkt) : State :=
  if kind = 2 then
    if p.len = 0 then s.roceAnswer c.cid p.psn (.read 0 0) else s.deliverWindow c p.psn p.key p.addr p.len .read true
  else s.deliverWindow c p.psn p.key p.addr 8 (if kind = 3 then .cas p.operand1 p.operand2 else .fadd p.operand1) true

/-- A READ or atomic request: at most 16 not answered (Table XPT-8). -/
def State.roceTakeRead (s : State) (c : Conn) (kind : Nat) (p : RocePkt) : State :=
  let k := if kind = 2 then 0 else 2
  let len := if kind = 2 then p.len else 8
  if 16 ≤ s.roceOpen c then s.roceReject c p.psn 2
  else match (if kind = 2 && len = 0 then none else s.keyCheck c k p.key p.addr len) with
  | some x => s.roceKeyNak c p.psn p.key x k p.addr len
  | none =>
    let c := { c with rcvPsn := (p.psn + rocePsns c kind p) % 2 ^ 24, nakSent := false
                      resp := c.resp ++ [{ first := p.psn, psn := p.psn, ans := none }] }
    ((s.bumpX F.XPT_RX_PKT c).setConn c).roceWindow c kind p

/-- Accept a request packet at the expected PSN (R93). Kinds: 0 SEND, 1 RDMA WRITE, 2 READ, 3 and 4 atomics. -/
def State.roceTake (s : State) (c : Conn) (kind : Nat) (p : RocePkt) : State :=
  if !rocePlaceOk c kind p then s.roceReject c p.psn 2
  else match kind with
  | 0 => s.roceTakeSend c p
  | 1 => s.roceTakeWrite c p
  | _ => s.roceTakeRead c kind p

/-- Acknowledge again what may be (R96). -/
def State.roceAckAgain (s : State) (c : Conn) : State := s.roceSend c (.ack c.ackPoint (creditCode (s.capsuleSlots c))) 1

/-- A duplicate request (R96, R127); one still on its way to its answer is left to it. -/
def State.roceDup (s : State) (c : Conn) (kind : Nat) (p : RocePkt) : State :=
  let s := s.bumpX F.XPT_DUP c
  if kind ≤ 1 then s.roceAckAgain c
  else if c.resp.any fun r => r.psn == p.psn then s
  else if kind = 2 then
    match (if p.len = 0 then none else s.keyCheck c 0 p.key p.addr p.len) with
    | some x => s.roceKeyNak c p.psn p.key x 0 p.addr p.len
    | none =>
      let c := { c with resp := c.resp ++ [{ first := p.psn, psn := p.psn, ans := none }] }
      (s.setConn c).roceWindow c 2 p
  else match c.atomics.find? fun a => a.1 == p.psn with
    | some a => s.roceFlush c (c.resp ++ [{ first := p.psn, psn := p.psn, ans := some (.atomic a.2.1) }])
    | none => s

/-- A response packet to a fetch (R93): the next in order is placed, and the last brings the data. -/
def State.roceResponse (s : State) (c : Conn) (p : RocePkt) : State :=
  let s := s.bumpX F.XPT_RX_PKT c
  match c.asked.find? fun a => dist24 p.psn a.1 < 4096 with
  | none => s
  | some (a, cmd, place) =>
    let r : Reasm := (c.reasm.find? fun r => r.kind == 4 && r.msgId == a).getD
      { msgId := a, kind := 4, ord := false, ext := .none, pieces := [], length := none, firstAt := s.now }
    if dist24 p.psn a != r.pieces.length then s else
    let ofs := r.pieces.length * c.payload
    let r := { r with pieces := r.pieces ++ [(ofs, p.payload)] }
    let rest := c.reasm.filter fun x => !(x.kind == 4 && x.msgId == a)
    let una := c.una.filter fun q => !(dist24 p.psn q.psn < 2 ^ 23 && (p.last || dist24 p.psn q.psn != 0) && dist24 q.psn a != 0)
    if p.last then
      let c := { c with reasm := rest, asked := c.asked.filter fun x => x.1 != a, una := una.filter fun q => q.psn != a, retries := 0 }
      ((s.setConn c).pieceArrived cmd place (ofs + p.payLen) (joinPieces r.pieces)).rocePump c
    else s.setConn { c with reasm := rest ++ [r], una := una, retries := 0 }

/-- A request or read response on a queue pair whose context is in the bank (R93, R96). Kind 5 is a read response. -/
def State.roceOn (s : State) (c : Conn) (kind : Nat) (p : RocePkt) : State :=
  if kind = 5 then s.roceResponse c p
  else
    let d := dist24 p.psn c.rcvPsn
    if d = 0 then s.roceTake c kind p
    else if d < 2 ^ 23 then
      if c.nakSent then s
      else s.roceFlush { c with nakSent := true } (c.resp ++ [{ first := c.rcvPsn, psn := c.rcvPsn, ans := some .nakSeq }])
    else if dist24 c.rcvPsn p.psn ≤ 4096 then s.roceDup c kind p
    else (s.bumpX F.XPT_OLD c).roceAckAgain c

/-- Send every unacknowledged packet from a PSN on again: go-back-N (R93). -/
def State.goBack (s : State) (c : Conn) (psn : Nat) : State :=
  let again := c.una.filter fun q => dist24 q.psn psn < 2 ^ 23
  let s := again.foldl (fun s q => s.roceSend c (.message q.psn q.body) 1) s
  (s.bumpBy (F.XPT_RETX c.role) again.length).setConn { c with
    una := mapIf (fun q => dist24 q.psn psn < 2 ^ 23) (fun q => { q with sentAt := s.now, retx := q.retx + 1 }) c.una }

/-- SENDs of a queue pair that are not acknowledged. -/
def Conn.sendsOut (c : Conn) : Nat := (c.una.filter fun q => match q.body with | .response .. => true | _ => false).length

/-- Packets up to a PSN are acknowledged, with the host's credit where the acknowledgment carries one: what waited for them goes
on (R94). -/
def State.roceAcked (s : State) (c : Conn) (psn : Nat) (credit : Option Nat) : State :=
  let c := { c with una := c.una.filter fun q => !(dist24 psn q.psn < 2 ^ 23) || c.asked.any (fun a => a.1 == q.psn), retries := 0, rnrRetries := 0 }
  let c := match credit with
    | some code => { c with hostCredit := (creditOf code).map fun n => n - c.sendsOut }
    | none => c
  ((((s.bumpX F.XPT_RX_PKT c).setConn c).rocePump c).readsAcked c.cid).winProgress

/-- An Acknowledge (R93, R94): an acknowledgment with its credit, an RNR NAK, a sequence NAK or an error NAK. -/
def State.roceAck (s : State) (c : Conn) (psn : Nat) (a : Aeth) : State :=
  match a with
  | .ack credit => s.roceAcked c psn (some credit)
  | .rnr delay => if 7 ≤ c.rnrRetries then s.roceError c
      else s.setConn { c with rnrRetries := c.rnrRetries + 1, rnrAt := some (s.now + delay) }
  | .nakSeq => if 7 ≤ c.retries then s.roceError c else s.goBack { c with retries := c.retries + 1 } psn
  | .nakError => s.roceError c

/-- A CNP (R95): the target becomes the rate, and the rate is cut by the marked share. -/
def State.roceCut (s : State) (c : Conn) : State :=
  let a := (1 - 1 / 256) * c.rAlpha + 1 / 256
  ((s.bumpX F.XPT_CNP_RX c).bumpX F.XPT_RX_PKT c).setConn { c with
    rAlpha := a, target := c.rate, rate := max 100 (c.rate * (1 - a / 2)), recSteps := 0, cnpRxAt := s.now }

/-- What arrives on a queue pair whose context is in the bank; every packet with a CE mark is answered with a CNP (R95). -/
def State.roceDo (s : State) (c : Conn) (x : RoceIn) : State :=
  let marked := match x with | .pkt _ p => p.ceMarked | .ack _ _ ce | .atomicAck _ _ ce => ce | _ => false
  let (s, c) := s.cnpFor { c with lastRx := s.now, lastUse := s.now } marked
  let s := s.setConn c
  if !(c.state == .rtr || c.state == .rts) then s
  else match x with
  | .pkt kind p => s.roceOn c kind p
  | .ack psn a _ => s.roceAck c psn a
  | .atomicAck psn _ _ => s.roceAcked c psn none
  | .cnp => s.roceCut c
  | .rtu => if c.state == .rtr then
      let c := { c with state := .rts, since := s.now }
      ((s.raiseX c 5 INFO 2 c.cid).setConn c).rocePump c
    else s

/-- What arrives for a queue pair (R68, R98): a packet of a spilled connection is held while its context is fetched. -/
def State.roceIn (s : State) (qp : Nat) (x : RoceIn) : State :=
  let r := s.xptRole (qp % 2 ^ 18)
  if !s.isSet F.XPT_CTX_CFG_ROCE_EN then s
  else match (s.conn? qp).bind fun c => if c.mode == .roce then some c else none with
  | none => s.bump (F.XPT_DROP_CID r)
  | some c =>
    if c.spilled then
      if 512 ≤ s.heldPackets r then s.bump (F.XPT_SPILL_DROP r) else s.setConn { c with heldRoce := c.heldRoce ++ [x], fetchQueued := true }
    else s.roceDo c x

/-- A request or read response (R68, R72, R93): its CRC and its service first. -/
def State.roceRx (s : State) (kind : Nat) (p : RocePkt) : State :=
  let r := s.xptRole (p.qp % 2 ^ 18)
  if !s.isSet F.XPT_CTX_CFG_ROCE_EN then s
  else if !p.crcOk then s.bump (F.XPT_DROP_CRC r)
  else if p.service != .rc || p.imm || p.inv then s.bump (F.XPT_DROP_FMT r)
  else s.roceIn p.qp (.pkt kind p)

/-- ROCE_SEND (R94, R96). -/
def execRoceSend (p : RocePkt) (s : State) : Host.Outcome State Fault Refusal := .next (s.roceRx 0 p)
/-- ROCE_RDMA_WRITE (R96, R115). -/
def execRoceRdmaWrite (p : RocePkt) (s : State) : Host.Outcome State Fault Refusal := .next (s.roceRx 1 p)
/-- ROCE_RDMA_READ_REQUEST (R96, R115, R116). -/
def execRoceRdmaReadRequest (p : RocePkt) (s : State) : Host.Outcome State Fault Refusal := .next (s.roceRx 2 p)
/-- ROCE_COMPARE_SWAP (R115, R116). -/
def execRoceCompareSwap (p : RocePkt) (s : State) : Host.Outcome State Fault Refusal := .next (s.roceRx 3 p)
/-- ROCE_FETCH_ADD (R115, R116). -/
def execRoceFetchAdd (p : RocePkt) (s : State) : Host.Outcome State Fault Refusal := .next (s.roceRx 4 p)
/-- ROCE_READ_RESPONSE (R93). -/
def execRoceReadResponse (p : RocePkt) (s : State) : Host.Outcome State Fault Refusal := .next (s.roceRx 5 p)

/-- A queue pair in the bank that is ready to receive: its timers run (R98). -/
def State.qp? (s : State) (qp : Nat) : Option Conn :=
  (s.conn? qp).bind fun c => if c.mode == .roce && !c.spilled && (c.state == .rtr || c.state == .rts) then some c else none

/-- ROCE_ACKNOWLEDGE (R93, R94). -/
def execRoceAcknowledge (qp psn : Nat) (a : Aeth) (ce : Bool) (s : State) : Host.Outcome State Fault Refusal :=
  .next (s.roceIn qp (.ack psn a ce))

/-- ROCE_ATOMIC_ACKNOWLEDGE (R93): the controller issues no atomic, so it acknowledges a PSN and no more. -/
def execRoceAtomicAcknowledge (qp psn original : Nat) (ce : Bool) (s : State) : Host.Outcome State Fault Refusal :=
  .next (s.roceIn qp (.atomicAck psn original ce))

/-- ROCE_CNP (R95). -/
def execRoceCnp (qp : Nat) (s : State) : Host.Outcome State Fault Refusal := .next (s.roceIn qp .cnp)

/-- ROCE_RATE_TIMER (R95): 55 µs without a CNP; what the rate held back may leave. -/
def execRoceRateTimer (qp : Nat) (s : State) : Host.Outcome State Fault Refusal :=
  .next <| match s.qp? qp with
    | none => s
    | some c =>
      if !s.due (c.cnpRxAt + usU 55) then s.rocePump c else
      let c := { c with rAlpha := (1 - 1 / 256) * c.rAlpha, cnpRxAt := s.now }
      let c := if c.recSteps < 5 then { c with rate := (c.rate + c.target) / 2, recSteps := c.recSteps + 1 }
        else { c with rate := min lineRate (c.rate + 40) }
      (s.setConn c).rocePump c

/-- ROCE_ACK_TIMEOUT (R93): 4.096 µs × 2^n without an acknowledgment; retry count 7. -/
def execRoceAckTimeout (qp : Nat) (s : State) : Host.Outcome State Fault Refusal :=
  .next <| match s.qp? qp with
    | none => s
    | some c => match c.una.head? with
      | none => s
      | some q =>
        if !s.due (q.sentAt + 16384 * 2 ^ max 3 c.ackExp) || c.rnrAt.isSome then s
        else
          let s := s.bumpX F.XPT_RTO c
          if 7 ≤ c.retries then s.roceError c else s.goBack { c with retries := c.retries + 1 } q.psn

/-- ROCE_RNR_TIMER (R94): the RNR delay has passed. -/
def execRoceRnrTimer (qp : Nat) (s : State) : Host.Outcome State Fault Refusal :=
  .next <| match s.qp? qp with
    | none => s
    | some c =>
      if !s.dueOpt c.rnrAt then s else
      let c := { c with rnrAt := none }
      let s : State := match c.una.head? with | some q => s.goBack c q.psn | none => s.setConn c
      s.rocePump c

/-! ### Connection management (R93) -/

/-- CM_REQ (R68, R93, R97): a queue pair is created, or the request refused. -/
def execCmReq (r : CmReq) (s : State) : Host.Outcome State Fault Refusal :=
  .next <|
    if !s.isSet F.XPT_CTX_CFG_ROCE_EN then s
    else if !r.valid || !(r.mtu == 1024 || r.mtu == 2048 || r.mtu == 4096) then s.send (.cmRej r.srcAddr)
    else match s.freeIndex? with
    | none => s.send (.cmRej r.srcAddr)
    | some i => match s.makeRoom (s.xptRole i) with
      | none => s.send (.cmRej r.srcAddr)
      | some s =>
        let (psn, s) := s.draw .unstated (2 ^ 24)
        let c : Conn := { Conn.fresh i (s.nextGen i) .roce .rtr s.now with
          role := s.xptRole i,
          peerAddr := r.srcAddr, peerCid := r.srcQp, payload := r.mtu, rcvPsn := r.initPsn % 2 ^ 24, sndPsn := psn, ackExp := max 3 r.ackExp }
        let c := { c with sport := Config.keyed .unstated [c.cid] % 65536 }
        ({ s with conns := s.conns ++ [c] } : State).send (.cmRep c.cid)

/-- CM_RTU (R93): the queue pair is ready to send. -/
def execCmRtu (qp : Nat) (s : State) : Host.Outcome State Fault Refusal := .next (s.roceIn qp .rtu)

/-- A connection in compatible mode that a CM message names, while that mode is accepted (R68). -/
def State.cmConn (s : State) (qp : Nat) : Option Conn :=
  if s.isSet F.XPT_CTX_CFG_ROCE_EN then (s.conn? qp).bind fun c => if c.mode == .roce then some c else none else none

/-- CM_DREQ (R93): the host ends the connection. -/
def execCmDreq (qp : Nat) (s : State) : Host.Outcome State Fault Refusal :=
  .next <| match s.cmConn qp with
    | some c => (((s.connDown c).send (.cmDrep qp)).raiseX c 6 INFO 3 qp).freeConn c
    | none => s

/-- CM_DREP (R93): the host has answered the controller's DREQ. -/
def execCmDrep (qp : Nat) (s : State) : Host.Outcome State Fault Refusal :=
  .next <| match s.cmConn qp with
    | some c => if c.state == .error then (s.raiseX c 6 INFO 3 qp).freeConn c else s
    | none => s

/-- CM_REJ (R93): the host refuses the connection before it is in use. -/
def execCmRej (qp : Nat) (s : State) : Host.Outcome State Fault Refusal :=
  .next <| match s.cmConn qp with
    | some c => if c.state == .init || c.state == .rtr then s.freeConn c else s
    | none => s

/-- CONTEXT_FETCH_DONE (R98): the context is in the bank; the packets held for it go on in order. Without a context that may
be spilled, the fetch waits. -/
def execContextFetchDone (cid : Nat) (s : State) : Host.Outcome State Fault Refusal :=
  .next <| match s.conn? cid with
    | none => s
    | some c =>
      if !(c.spilled && c.fetchQueued) then s
      else match s.makeRoom c.role with
      | none => s
      | some s =>
        let d := { c with spilled := false, fetchQueued := false, held := [], heldRoce := [], lastUse := s.now }
        let (s, d) := if s.dueOpt d.syncPending then s.sendSync d else (s, d)
        let s := c.held.foldl (fun s p => s.nrtPacket p) (s.setConn d)
        c.heldRoce.foldl (fun s x => s.roceIn cid x) s

end Sys2Proof.Machine
end

