-- ==== Sys2Proof/Machine/Pair.lean ====
section
/-!
DEFINITION. Machine/Pair.lean: the haul link (R541 to R544), mirroring (R545, R546), heartbeats, roles, fencing and takeover
(R547 to R556), planned handover (R557, R558) and resynchronisation (R559).
-/

namespace Sys2Proof.Machine

open NvmeFields

/-! ### Start-up steps and the live activation, as the roles need them -/

/-- A step of Table BOOT-12 has ended: CTL_BOOT_STAT.STEP and CTL_BOOT_STEPTn (Tables BOOT-14, BOOT-16). -/
def State.noteStep (s : State) (n : Nat) : State :=
  let us := min (2 ^ 32 - 1) ((s.now - s.boot.startAt) / 4000)
  let s : State := { s with boot := { s.boot with ended := n :: s.boot.ended } }
  let s := s.wr (F.CTL_BOOT_STEPT (n - 1)) us
  if 3 ≤ n && s.rd F.CTL_BOOT_STAT_STEP < n then s.wr F.CTL_BOOT_STAT_STEP n else s

/-- Step 15 (R522, R524): SERVING, and the record of local 6; the active reports it to its standby. -/
def State.takeStep15 (s : State) : State :=
  let s := (s.wr F.TIM_STAT_SERVING 1).noteStep 15
  let s := s.raise 0 6 INFO 0x16 ((s.now - s.boot.startAt) / 4000000)
  let s : State := if s.isActive then s.send .serving else s
  s.syncReady

/-! ### The pair generation and the role -/

/-- The pair generation of this unit. -/
def State.gen (s : State) : Nat := s.rd64 F.HAL_PAIR_GEN_LO F.HAL_PAIR_GEN_HI

/-- A new generation: written to a tally control block before anything is done under the new role (R550). -/
def State.setGen (s : State) (g : Nat) : State :=
  let s := s.wr64 F.HAL_PAIR_GEN_LO F.HAL_PAIR_GEN_HI (g % 2 ^ 64)
  { s with tally := { s.tally with wcount := s.tally.wcount + 1, cbAt := s.now } }

/-- The role of Table PAIR-7. -/
def State.role (s : State) : Nat := s.rd F.HAL_PAIR_STAT_ROLE

/-- Enter a role: what follows from it at the switch and the endpoint is brought in line. -/
def State.setRole (s : State) (r : Nat) : State :=
  let was := s.pairStandby
  let s := ((s.wr F.HAL_PAIR_STAT_ROLE r).syncFwd).syncRelay
  if s.pairStandby == was then s else (List.range 48).foldl (fun (s : State) n => s.syncLed n) s

/-- Send HELLO with the role and generation (R551). -/
def State.sendHello (s : State) : State := (s.haulSend 3).send (.hello s.role s.gen)

/-- Whether this unit is the preferred one: controller A, or B while PREFER_B is 1. -/
def State.preferred (s : State) : Bool :=
  (s.rd F.CTL_BOOT_STAT_SLOT_B == 1) == s.isSet F.HAL_PAIR_CFG_PREFER_B

/-- Enter ACTIVE or STANDBY with a partner (Table PAIR-20 local 4). -/
def State.enterPaired (s : State) (r : Nat) : State :=
  ((s.setRole r).wr F.HAL_PAIR_STAT_PAIRED 1).raise 7 4 INFO 1 (s.gen % 2 ^ 32)

/-- Enter HELD (Table PAIR-20 local 13); the reason 0 stands for a partner lost in RESYNC, which has no code (log entry 62). -/
def State.enterHeld (s : State) (reason : Nat) : State :=
  ((s.setRole 5).wr F.HAL_PAIR_STAT_PAIRED 0).raise 7 13 ERROR 10 reason

/-! ### Acknowledgments of the partner (R546) -/

/-- What waited for an item goes on (R84, R100, R109, R118, R146, R174, R294). -/
def State.mirrored (s : State) (w : MirrorWhat) : State :=
  match w with
  | .completion id => match s.cmd? id with
    | some c => if c.result.isSome then s.post c else s
    | none => s
  | .response cid m b => s.transmitAs cid m b
  | .settle cid msg => match s.conn? cid with
    | some c => match c.mode with
      | .nrt => s.setConn (c.settle msg)
      | .roce => s.roceAnswer cid msg .ack
    | none => s
  | .visible op => ((s.updOp op fun o => { o with mirrored := true }).stepOp op).winProgress
  | .answer op => (s.replyAtomic op).retireOp op
  | .window i cmd revoke =>
    if revoke then s.revokeNow i cmd else
    match s.window? i with
    | some w =>
      let s := s.updWindow i fun x => if x.pending then { x with valid := true } else x
      match cmd with
      | some id => s.finish id w.key St.ok
      | none => s
    | none => s
  | .ceiling cid v => match s.conn? cid with
    | some c => s.goOn { c with ceiling := v }
    | none => s
  | .range cid psn => match s.conn? cid with
    | some c => s.goOn { c with waiting := mapIf (fun (m : OutMsg) => m.msg == psn) (fun m => { m with ready := true }) c.waiting }
    | none => s
  | .tally q => match s.rec? q with
    | some r => if r.durable then s else s.recDurable r
    | none => s
  | .vendor d tag cmd cc det => s.answerOwed d tag cmd cc det []
  | .note => s

/-- Every item up to a sequence is acknowledged. -/
def State.mackUpTo (s : State) (m : Nat) : State :=
  let done := s.mirrorOut.filter fun i => i.seq ≤ m
  let s : State := { s with mirrorOut := s.mirrorOut.filter fun i => m < i.seq }
  (done.foldl (fun (s : State) i => s.mirrored i.what) s).syncCmds

/-- Frames held in the gap of a handover go to the roles that are not being re-bound. -/
def State.gapFrames (s : State) : State :=
  (List.range 4).foldl (fun (s : State) r => if s.storageHeld r then s else s.releaseFrames r) s

/-- Unpaired mode is declared: what lacked only the partner's acknowledgment goes on, and every dirty line is queued for
write-back (R148, R387, R560). -/
def State.unpair (s : State) : State :=
  let s := s.wr F.HAL_PAIR_STAT_PAIRED 0
  let s := s.mackUpTo s.mseq
  let s := (s.updPair fun p => { p with resync := none, handover := none }).gapFrames
  (s.flushAll).syncCache

/-- Enter LONE (R551): the generation rises by 1; entries from ACTIVE and STANDBY count in HAL_TAKEOVER. -/
def State.enterLone (s : State) (cause : Nat) : State :=
  let old := s.role
  let s := (s.setGen (s.gen + 1)).setRole 3
  let s : State := if old == 1 || old == 2 then s.bump F.HAL_TAKEOVER else s
  (s.raise 7 10 NOTICE 7 cause).unpair

/-! ### The fence (R553) -/

/-- The fenced unit's endpoint link goes down: commands of its functions that this unit holds are treated as at a controller reset (Table
CMD-7), and the functions have no queues (R478, R556). -/
def State.dropPeerEndpoint (s : State) : State :=
  let top := epIndex (1 - s.rd F.CTL_BOOT_STAT_SLOT_B) 0
  (s.ctrls.filter fun k => k.func.isSome && k.index ≤ top && top < k.index + 64).foldl (fun (s : State) k =>
    (s.applyReset fun c => c.nv.ctl == k.index).2.updCtrl k.index fun x => { x with
      cc := 0, csts := 0, queues := [], aers := [], notices := [], unread := [], features := [], changed := [], resvLog := [], resvCount := 0
      shutdown := false }) s

/-- Drive FENCE_OUT_N low; held when the same partner is declared failed again within 10 minutes of a release. -/
def State.fence (s : State) (failed : Bool) : State :=
  if s.isSet F.HAL_PAIR_STAT_FENCING then s else
  let held := failed && s.pair.released.any fun t => s.now < t + minU 10
  let s := (s.wr F.HAL_PAIR_STAT_FENCING 1).wrB F.HAL_PAIR_STAT_FENCE_HELD held
  (s.updPair fun p => { p with fenceAt := some s.now }).raise 3 12 NOTICE 9 (bit held)

/-- Release the fence. -/
def State.releaseFence (s : State) : State :=
  let s := (s.wr F.HAL_PAIR_STAT_FENCING 0).wr F.HAL_PAIR_STAT_FENCE_HELD 0
  (s.updPair fun p => { p with fenceAt := none, released := some s.now }).raise 3 13 INFO 10 0

/-- FENCE_HOLD_EXPIRY (R553): FENCE_MS after the fence, unless it is held. -/
def execFenceHoldExpiry (s : State) : Host.Outcome State Fault Refusal :=
  .next <|
    match s.pair.fenceAt with
    | some t =>
      if s.isSet F.HAL_PAIR_STAT_FENCING && !s.isSet F.HAL_PAIR_STAT_FENCE_HELD && s.due (t + msU 1 * s.rd F.HAL_PAIR_CFG_FENCE_MS)
      then s.releaseFence else s
    | none => s

/-- A write of HAL_PAIR_CMD.UNFENCE. -/
def State.unfence (s : State) : State := if s.isSet F.HAL_PAIR_STAT_FENCE_HELD then s.releaseFence else s

/-- HAL_UNFENCE_CMD (R553). -/
def execHalUnfenceCmd (s : State) : Host.Outcome State Fault Refusal := .next (s.atWindow 7 0x1008 2 2 fun s => s.unfence)

/-- Go on without a partner at a start: controller A fences at once and controller B 1 s later (R553); LONE or HELD follows
when the member records have been read (R552). -/
def State.goAlone (s : State) (atOnce : Bool) : State :=
  let s := s.updPair fun p => { p with alone := true }
  if atOnce || s.rd F.CTL_BOOT_STAT_SLOT_B = 0 then s.fence false
  else s.updPair fun p => { p with startDelay := some (s.now + secU 1) }

/-- FENCE_START_DELAY_EXPIRY (R553): controller B's fence at a start without a partner. -/
def execFenceStartDelayExpiry (s : State) : Host.Outcome State Fault Refusal :=
  .next <|
    if s.pair.alone && s.dueOpt s.pair.startDelay then (s.updPair fun p => { p with startDelay := none }).fence false else s

/-- Whether heartbeats of the partner arrive on the heartbeat pair. -/
def State.beatsOnWire (s : State) : Bool := s.pair.wire.expected.isSome

/-- PAIR_WAIT_EXPIRY (R551, Table PAIR-7): PAIR_WAIT_S after step 4 with no partner, or with one that starts too and a haul that
has not come up. -/
def execPairWaitExpiry (s : State) : Host.Outcome State Fault Refusal :=
  .next <|
    let due := s.stepDone 4 && s.due (s.boot.step4At + secU 1 * s.rd F.HAL_PAIR_CFG_PAIR_WAIT_S)
    if s.role != 0 || s.pair.alone || !due || s.boot.memBad = 1 then s
    else if !s.beatsOnWire && s.pair.haul.expected.isNone then s.goAlone false
    else if s.beatsOnWire && s.rd F.HAL_PAIR_STAT_PEER_ROLE = 0 && s.pair.peerGen = s.gen && !s.haulUp && s.preferred then s.goAlone true
    else s

/-! ### Takeover (R554 to R556) -/

/-- Messages the partner holds a record of, to be sent again under their MSG_IDs. -/
def Conn.recorded (c : Conn) : List OutMsg := c.committed.map fun m => { msg := m.1, ofs := 0, body := m.2, ready := true }

/-- The connections at a takeover (R101 to R104): an established NRT connection enters RESYNC at its send ceiling, with the messages
of which a record is held to be sent again under their MSG_IDs; a queue pair sends again from its lowest unacknowledged PSN, and its
host sends again what was not answered. -/
def State.resyncConn (s : State) (c : Conn) : State :=
  match c.mode with
  | .nrt =>
    if c.state != .established && c.state != .resync then s else
    s.setConn { c with
      state := .resync, since := s.now, syncPsn := c.ceiling, sndPsn := next32 c.ceiling, una := [], waiting := c.recorded, asked := []
      received := [], settled := [], reasm := [], renege := false, unacked := 0, ackDue := none, backoff := 0
      syncPending := some (s.now + msU 2), held := [] }
  | .roce =>
    let c := { c with
      waiting := c.waiting.map fun (m : OutMsg) => { m with ready := true }
      rcvPsn := match c.openMsg with | some r => r.msgId | none => c.rcvPsn
      resp := [], asked := [], reasm := [], heldRoce := [] }
    match c.una with
    | p :: _ => s.goBack c p.psn
    | [] => s.setConn c

/-- Whether a message that completes a command waits or is on its way on a queue pair, so that it is not sent again. -/
def State.answered (s : State) (c : Cmd) : Bool :=
  let done := fun (b : OutBody) => match b with | .response cid .. => cid == c.nv.cid | _ => false
  (((s.queueOf c.nv).bind (·.conn)).bind s.conn?).any fun k => k.mode == .roce && (k.waiting.any (fun m => done m.body) || k.una.any fun p => done p.body)

/-- Execute an admin command again (R555): delivered again on the queue it came on. -/
def State.runAgain (s : State) (c : Cmd) : State :=
  let s : State := { s with cmds := s.cmds.filter fun x => x.id != c.id }
  let s := s.updCtrl c.nv.ctl fun k => { k with aers := k.aers.filter (· != c.id) }
  if s.onEndpoint c.nv then s.epRun c.nv
  else match (s.queueOf c.nv).bind (·.conn) with
    | some cid => s.commandRun cid c.nv
    | none => s

/-- A mirrored command at a takeover, by the first matching row of Table PAIR-9. Commands executed again are not charged again
(R217). -/
def State.recover (s : State) (id : Nat) : State :=
  match s.cmd? id with
  | none => s
  | some c =>
    let redo := s.fixupds.filter fun u => u.cmd == some id
    if c.result.isSome then
      if s.answered c then { s with cmds := s.cmds.filter fun x => x.id != id }
      else if c.phase == .mirrored then s.post c else s.tryPost id
    else if c.nv.qid = 0 || c.nv.opc = 0x7F then s.runAgain c
    else if c.phase == .delivered then s
    else if !redo.isEmpty && (redo.map fun u => u.blocks.length).sum = nlb c.nv then
      s.updCmd id fun x => { x with phase := .dispatched, recsLeft := redo.map (·.id) }
    else
      let s : State := { s with fixupds := mapIf (fun (u : FixUpd) => u.cmd == some id) (fun u => { u with cmd := none }) s.fixupds }
      let c := { c with
        blocks := [], pieces := [], unplaced := [], stripes := [], got := [], toFetch := 0, recsLeft := [], dirtyWait := [], flushFor := []
        placing := false, paging := false, waited := false }
      (s.updCmd id fun _ => c).beginCmd c

/-- What a unit that becomes active goes on with (Table PAIR-8 steps 7 to 10, R557): the mirrored commands in their order of receipt,
stripes that nothing maps any more, window messages, and what the connections may send. -/
def State.serveMirrored (s : State) : State :=
  let s : State := { s with nextVer := max s.nextVer s.nextOp, nss := s.nss.map fun n => { n with deleting := false } }
  let s := (s.cmds.map (·.id)).foldl (fun (s : State) i => s.recover i) s
  let s := (s.stripes.map fun x => (x.group, x.num)).foldl (fun (s : State) p => s.freeIfEmpty p.1 p.2) s
  let s := s.winProgress
  let s := (s.conns.map (·.cid)).foldl (fun (s : State) i => match s.conn? i with | some c => s.goOn c | none => s) s
  s.syncReady.syncCmds

/-- The redo of R302: the updates whose FIX_INTENT is in this unit's copy of the ring. -/
def State.redoAll (s : State) : State :=
  let s : State := { s with fixupds := s.fixupds.map fun u => { u with redo := true, durable := true, issued := false, reads := [], doneSent := false } }
  s.redoInOrder

/-- The standby takes over (Table PAIR-8): fence, generation and LONE, mirror reception closed, forwarding stopped, connections
resynchronised, the redo of R302 and the mirrored commands. -/
def State.failOver (s : State) : State :=
  let s := ((s.fence true).enterLone 1).dropPeerEndpoint
  let s := s.updPair fun p => { p with closed := true, early := [] }
  let s : State := { s with fenceEnd := some (s.now + msU 10) }
  let s := s.conns.foldl (fun (s : State) c => s.resyncConn c) s
  s.redoAll.serveMirrored

/-- What a unit in RESYNC has taken over so far of the volatile mirrored state is discarded (log entry 153). -/
def State.dropMirrored (s : State) : State :=
  { s with conns := [], cmds := [], windows := [], lines := [], sectors := [], pends := [], winops := [] }

/-- The partner is declared failed (R548, R549): cause 1 misses, 2 GOODBYE. -/
def State.partnerFailed (s : State) (cause : Nat) : State :=
  let s := (s.raise 7 5 ERROR 2 cause).wr F.HAL_PAIR_STAT_PEER_ROLE 7
  let s := ((s.wr F.HAL_PAIR_STAT_HBP_OK 0).wr F.HAL_PAIR_STAT_HAUL_HB_OK 0).updPair fun p =>
    { p with wire := BeatPath.cold, haul := BeatPath.cold, hello := none, exchanged := false, hold := none, mack := some 0 }
  let s : State := { (s.wr F.CTL_LIVE_STAT_HOLD 0).haulZero with tru := { s.tru with pairNonce := none } }
  let s := (s.abandonLive 2).syncFwd
  let r := s.role
  if r = 1 then
    if cause = 2 then ((s.fence true).enterLone 2).dropPeerEndpoint else s.updPair fun p => { p with actWait := some (s.now + usU 20) }
  else if r = 2 then s.failOver
  else if r = 3 then (s.updPair fun p => { p with resync := none }).wr F.HAL_PAIR_STAT_RSYNC_PROG 0
  else if r = 4 then (s.dropMirrored.updPair fun p => { p with copies := [], early := [] }).enterHeld 0
  else s

/-- ACTIVE_FENCE_WAIT (R551): 20 µs after the declaration, when this unit is still out of reset. -/
def execActiveFenceWait (s : State) : Host.Outcome State Fault Refusal :=
  .next <|
    if s.role = 1 && s.boot.held.isNone && s.dueOpt s.pair.actWait then
      (((s.updPair fun p => { p with actWait := none }).fence true).enterLone 2).dropPeerEndpoint
    else s

/-- GOODBYE (R549): failure at the first one received. -/
def execGoodbye (s : State) : Host.Outcome State Fault Refusal := .next (s.partnerFailed 2)

/-! ### Heartbeats (R547, R548) -/

/-- HEARTBEAT_TIMER (R547): one heartbeat on both paths every HB_PERIOD, once CHN drives its pairs (R529). -/
def execHeartbeatTimer (s : State) : Host.Outcome State Fault Refusal :=
  .next <|
    if s.pair.retired || !s.stepDone 3 || !s.due (s.pair.beatAt + usU (s.rd F.HAL_PAIR_CFG_HB_PERIOD)) then s else
    let n := (s.pair.bseq + 1) % 2 ^ 32
    let flags := s.rd F.CTL_BOOT_STAT_SLOT_B + 2 * bit s.haulUp
    (s.updPair fun p => { p with bseq := n, beatAt := s.now }).send (.beat s.role flags n s.gen)

/-- One of the two heartbeat paths. -/
def Pair.path (p : Pair) (haul : Bool) : BeatPath := if haul then p.haul else p.wire

/-- Change one of the two heartbeat paths. -/
def State.updPath (s : State) (haul : Bool) (f : BeatPath → BeatPath) : State :=
  s.updPair fun p => if haul then { p with haul := f p.haul } else { p with wire := f p.wire }

/-- A path delivers, or has stopped: its status bit and its event (R548). -/
def State.pathState (s : State) (haul ok : Bool) : State :=
  if haul then (s.wrB F.HAL_PAIR_STAT_HAUL_HB_OK ok).raise 7 15 NOTICE 12 (bit !ok)
  else if ok then (s.wr F.HAL_PAIR_STAT_HBP_OK 1).raise 3 11 INFO 8 0
  else (s.wr F.HAL_PAIR_STAT_HBP_OK 0).raise 3 10 NOTICE 7 0

/-- HEARTBEAT_BEAT (R543, R547, R548): accepted when its BSEQ is above the last one of the path; it can decide the role of a
starting unit whose haul is down (Table PAIR-7, log entry 63). -/
def execHeartbeatBeat (haul : Bool) (bseq role gen : Nat) (s : State) : Host.Outcome State Fault Refusal :=
  .next <|
    let x := s.pair.path haul
    if x.bseq.any (fun b => bseq ≤ b) || (haul && !s.haulUp) then s else
    let s : State := if x.faulty then s.pathState haul true
      else if haul then s.wr F.HAL_PAIR_STAT_HAUL_HB_OK 1 else s.wr F.HAL_PAIR_STAT_HBP_OK 1
    let s := s.updPath haul fun _ => { bseq := some bseq, expected := some s.now, misses := 0, faulty := false }
    let s := (s.updPair fun p => { p with peerGen := gen }).wr F.HAL_PAIR_STAT_PEER_ROLE role
    let s := s.syncFwd.syncRelay
    if s.role = 0 && !s.haulUp && !s.pair.alone then
      if s.gen < gen && (role = 1 || role = 3) then s.enterHeld 0
      else if gen < s.gen then s.enterLone 4 else s
    else s

/-- HEARTBEAT_MISS (R548): HB_PERIOD + 0.2 µs after the previous expected instant; 3 in a row on both paths declare the
partner failed; not counted on the path that a bench reloading under a hold carries, so that at the standby the other one alone decides
(R570). -/
def execHeartbeatMiss (haul : Bool) (s : State) : Host.Outcome State Fault Refusal :=
  .next <|
    let x := s.pair.path haul
    let held := s.pair.hold.any fun h => h.1 == (if haul then 7 else 3)
    match x.expected with
    | none => s
    | some e =>
      let period := usU (s.rd F.HAL_PAIR_CFG_HB_PERIOD)
      if held || !s.due (e + period + nsU 200) then s else
      let n := x.misses + 1
      let s := (s.updPath haul fun y => { y with expected := some (e + period), misses := n }).bump (if haul then F.HAL_HB_MISS else F.CHN_HB_MISS)
      let y := s.pair.path (!haul)
      let alone := s.role = 2 && s.pair.hold.any fun h => h.1 == (if haul then 3 else 7)
      if n < 3 then s
      else if alone || 3 ≤ y.misses || y.expected.isNone then s.partnerFailed 1
      else if x.faulty then s
      else (s.updPath haul fun z => { z with faulty := true }).pathState haul false

/-! ### HELLO and the roles (Table PAIR-7) -/

/-- What a LONE unit copies to a partner in RESYNC (R559): the tally store, connections, commands, dirty lines with the bytes still to
be merged, windows, and the state of KINDs 8 and 9. -/
def State.resyncCopies (s : State) : List MirrorBody :=
  let line := fun (l : Line) => MirrorBody.lines [⟨0, l.nsid * 2 ^ 64 + l.lba, l.nsid, l.lba, l.data, fullMask⟩] l.dur 0 (l.nsid * 2 ^ 64 + l.lba)
  let merging := s.winops.filter fun o => o.visible && !(s.pendsOf o).isEmpty
  [.store s.tally ⟨s.stripes, s.survey, s.fixblks⟩] ++ s.conns.map s.ctxBody ++ s.cmds.map (fun c => .slot c none) ++
    (s.lines.filter (·.dirty)).map line ++ merging.map (fun o => .lines (s.pendsOf o) o.dur o.cid o.msg) ++ s.windows.map .window ++
    s.nss.map (fun n => s.nsBody n.nsid none) ++ s.idents.map .ident ++ [.cache (s.isSet F.MEM_CACHE_CTL_EN)] ++
    (List.range 48).map fun n => .member n (s.slot n) (s.outSet n 1)

/-- Begin to resynchronise the partner (R559 steps 1 and 2): every copy carries the MSEQ current now as its tag. -/
def State.startResync (s : State) : State :=
  let l := s.resyncCopies
  let s := s.updPair fun p => { p with resync := some { m0 := s.mseq + 1, left := l.length, total := l.length } }
  let s := l.foldl (fun (s : State) b => (s.haulSend 3).send (.copy s.mseq b)) s
  (s.wr F.HAL_PAIR_STAT_RSYNC_PROG 0).raise 7 11 INFO 8 0

/-- Progress of the resynchronisation, and its end when every copy and every item is acknowledged: a new generation, ACTIVE,
and HELLO tells the partner (R559 step 4). -/
def State.resyncGo (s : State) : State :=
  match s.pair.resync with
  | none => s
  | some x =>
    let s := s.wr F.HAL_PAIR_STAT_RSYNC_PROG (if x.total = 0 then 100 else 100 * (x.total - x.left) / x.total)
    if x.left = 0 && s.mirrorOut.isEmpty && s.role = 3 then
      let s := (s.updPair fun p => { p with resync := none }).setGen (s.gen + 1)
      ((s.raise 7 12 INFO 9 0).enterPaired 1).sendHello
    else s

/-- Proceed as without a partner, or be held, when the partner's configuration differs (Table PAIR-7, first row). -/
def State.digestDiffers (s : State) (h : Hello) (reason : Nat) : State :=
  if h.gen < s.gen || (h.gen = s.gen && s.preferred) then s.goAlone false else s.enterHeld reason

/-- Enter RESYNC: the stream of items begins anew. -/
def State.enterResync (s : State) : State :=
  (s.dropMirrored.updPair fun p => { p with mack := none, early := [], copies := [], closed := false }).setRole 4

/-- Namespaces and identities that no copy and no item has reached are gone at the LONE unit (R559; log entry 153). -/
def State.dropUncopied (s : State) : State :=
  let reached := fun (k : Nat) => s.pair.copies.any fun c => c.1 == (8, k)
  let s := ((s.nss.map fun n => (n.nsid, n.gen)).filter fun n => !reached n.1).foldl (fun (s : State) n =>
    (s.zeroise (n.1 - 1) n.2 none).nsGone n.1 none) s
  ({ s with idents := s.idents.filter fun (x : Ident) => reached (2 ^ 32 + x.index) }).bindFunctions

/-- HELLO (R551): the first matching row of Table PAIR-7 for this unit's role. -/
def execHello (h : Hello) (s : State) : Host.Outcome State Fault Refusal :=
  .next <|
    if !s.haulUp || !s.pair.exchanged then s else
    let s := (s.updPair fun p => { p with hello := some h, peerGen := h.gen }).wr F.HAL_PAIR_STAT_PEER_ROLE h.role
    let s := s.syncFwd.syncRelay
    let same := s.boot.img.any fun i => i.ownDigest == h.digest
    let r := s.role
    if r = 0 then
      if s.pair.alone || s.boot.memBad = 1 then s
      else if !same then s.digestDiffers h 1
      else if !h.formatOk then s.digestDiffers h 2
      else if h.gen = s.gen then s.enterPaired (if s.preferred then 1 else 2)
      else if s.gen < h.gen && h.role = 3 then s.enterResync
      else if h.gen < s.gen then s.enterLone 4
      else s
    else if r = 3 then
      if h.gen < s.gen && same && h.formatOk && s.pair.resync.isNone then s.startResync else s
    else if r = 4 then
      if h.role = 1 && s.gen < h.gen then
        let s := (((s.dropUncopied).setGen h.gen).updPair fun p => { p with copies := [] }).enterPaired 2
        if s.stepDone 14 && !s.stepDone 15 then s.takeStep15 else s
      else s
    else if r = 5 then
      if (h.role = 3 || h.role = 1) && s.gen < h.gen && same then
        s.enterResync
      else s
    else s

/-! ### Dirty lines at the standby (R118, R123, R388; DEDUCED, log entry 131) -/

/-- Window messages of which nothing is left to keep leave the standby's table. -/
def State.standbyRetire (s : State) : State :=
  { s with winops := s.winops.filter fun o => !(o.visible && o.needs.isEmpty && (s.pendsOf o).isEmpty) }

/-- Enter the bytes of a mirrored message into their line, which is DIRTY at the version that the message's number is. -/
def State.standbyMerge (s : State) (o : WinOp) (p : PendCopy) : State :=
  let l := s.line? p.nsid p.lba
  let data := if p.mask = fullMask then p.data else mergeBytes ((l.map (·.data)).getD 0) p.data p.mask
  let fresh : Line := {
    nsid := p.nsid, lba := p.lba, valid := true, data := data, dirty := true, dirtyAt := s.now, dur := o.dur, filling := false, ver := o.id,
    wb := none, wbVer := 0, redirtied := false, wbMet := false, wbq := false }
  let s : State := { s with
    lines := if l.isSome then mapIf (fun x => x.nsid == p.nsid && x.lba == p.lba) (fun x => { fresh with dirtyAt := if x.dirty then x.dirtyAt else s.now }) s.lines
      else s.lines ++ [fresh]
    sectors := if (s.sector? p.nsid (p.lba / 16)).isSome then s.sectors else s.sectors ++ [⟨p.nsid, p.lba / 16, 0, false⟩]
    pends := s.pends.filter (· != p) }
  s.updOp o.id fun x => { x with needs := x.needs ++ [{ nsid := p.nsid, lba := p.lba, ver := o.id, op := none }] }

/-- Bytes of a mirrored message enter their lines in the order of the items: a whole line, or bytes of a line that is held; the rest, and
what comes under the lock of a block write, is kept until the unit takes over (Table KEY-8). -/
def State.standbyLines (s : State) (l : List PendCopy) (dur cid msg : Nat) : State :=
  match l with
  | [] => s
  | p :: _ =>
    let o : WinOp := {
      id := s.nextOp, cid := cid, msg := msg, key := 0, nsid := p.nsid, dur := dur, byte := (listMin (l.map (·.lba))).getD 0 * 4096
      len := 4096 * l.length, kind := .write 0 0, ord := true, readyAt := 0, sent := true, mirrored := true, visible := false, needs := []
      original := 0, respMsg := none, failed := false, acked := false, filled := [] }
    let s : State := { s with nextOp := o.id + 1, winops := s.winops ++ [o], pends := s.pends.filter (fun q => !(q.cid == cid && q.msg == msg)) ++ l }
    if l.any fun p => s.blockLocked p.nsid p.lba then s else
    let s := s.updOp o.id fun x => { x with visible := true }
    (l.foldl (fun (s : State) p =>
      let earlier := (s.pends.takeWhile (· != p)).any fun q => q.nsid == p.nsid && q.lba == p.lba
      if !earlier && (p.mask = fullMask || (s.line? p.nsid p.lba).isSome) then s.standbyMerge o p else s) s).syncCache

/-- A line's write-back has content: what the standby keeps of the line is clean when that content has it. -/
def State.standbyWritten (s : State) (nsid lba content : Nat) : State :=
  let held := s.line? nsid lba
  if held.any fun l => l.data != content then s else
  let s : State := match held with
    | some l => (s.needsMet nsid lba l.ver).dropLine nsid lba
    | none => s
  let gone := (s.pends.filter fun p => p.nsid == nsid && p.lba == lba).takeWhile fun p => mergeBytes content p.data p.mask == content
  { s with pends := s.pends.filter fun p => !gone.contains p }

/-- A block command has written or deallocated a range: what the standby keeps of it from messages before the command's admission is
superseded. -/
def State.standbyOver (s : State) (nsid slba n mark : Nat) : State :=
  let hit := fun (k b : Nat) => k == nsid && slba ≤ b && b < slba + n
  let old := fun (p : PendCopy) => hit p.nsid p.lba && s.winops.any fun o => o.cid == p.cid && o.msg == p.msg && o.id < mark
  let s : State := { s with pends := s.pends.filter fun p => !old p }
  (s.lines.filter fun l => hit l.nsid l.lba && l.ver < mark).foldl (fun (s : State) l => (s.needsMet nsid l.lba l.ver).dropLine nsid l.lba) s

/-- Number of the next mirrored window message when a command's admission was mirrored. -/
def State.opMark (s : State) (cmd : Option Nat) : Nat := ((cmd.bind s.cmd?).map (·.opMark)).getD s.nextOp

/-- What a mirrored record does to the dirty lines the standby keeps. -/
def State.standbyRecord (s : State) (r : Rec) (fix : Option FixUpd) : State :=
  let s : State := match r.body, fix with
    | .mapDelta (some c) 0 runs _, _ => runs.foldl (fun (s : State) x => s.standbyOver x.nsid x.lba x.run (s.opMark (some c))) s
    | .mapDelta none 0 runs _, _ => runs.foldl (fun (s : State) x =>
        match (Entry.place? x.new).bind fun p => (s.stripe? p.group p.stripe).bind fun y => y.blocks.find? fun b => b.slab == p.slab && b.blk == p.blk with
        | some b => s.standbyWritten x.nsid x.lba ((b.content.map (·.data)).getD 0)
        | none => s) s
    | .fixIntent .., some u =>
      if u.line then u.blocks.zipIdx.foldl (fun (s : State) p => s.standbyWritten u.nsid (u.slba + p.2) p.1.data) s
      else s.standbyOver u.nsid u.slba u.blocks.length (s.opMark u.cmd)
    | _, _ => s
  s.standbyRetire.syncCache

/-! ### Tally records at the standby (R278, R291, R294) -/

/-- A stripe as a record names it, with this unit's own count of LIVE and the records still to be applied to it. -/
def State.ownStripe (s : State) (r : Rec) (x : Stripe) : Stripe :=
  let live := match s.stripe? x.group x.num with | some y => if y.fseq = x.fseq then y.live else 0 | none => 0
  { x with live := live, owed := match r.body with | .mapDelta _ _ _ l => bit (l.contains x.num) | _ => 0 }

/-- What a mirrored record does once it is in the ring: SVY enters it, its updates wait for a takeover (R302). -/
def State.enterRec (s : State) (r : Rec) (fix : Option FixUpd) : State :=
  let missed := fun (s : State) (u : FixUpd) => (u.writes.filter fun b => !s.writable b).foldl (fun (s : State) b =>
    match s.slabSlot b.stripe b.slab with | some n => s.addDirty n u.nsid (u.slba / 16384) | none => s) s
  match r.body with
  | .fixIntent nsid _ _ _ _ _ _ region absent =>
    let s := absent.foldl (fun (s : State) n => s.addDirty n nsid region) s
    let s := (s.updRec r.seq fun x => { x with durable := true, acked := true }).releaseRecs.syncDur
    match fix with
    | some u => { s with
        fixupds := s.fixupds.filter (fun x => x.id != u.id) ++ [{ u with durable := true, issued := false }]
        nextJob := max s.nextJob (u.id + 1) }
    | none => s
  | .fixDone i miss =>
    let mine := s.fixupds.filter fun u => u.seq == i
    let s := mine.foldl (fun (s : State) u => (if miss then missed s u else s).applyFix u) s
    let s := mine.foldl (fun (s : State) u => match u.cmd with
      | some c => s.updCmd c fun x => { x with recsLeft := x.recsLeft.erase u.id }
      | none => s) s
    ({ s with fixupds := s.fixupds.filter fun u => u.seq != i }).recDurable r
  | _ => s.recDurable r

/-- A tally record at the same place of this unit's store (R294), with what the members hold of the stripes and the update it names. -/
def State.putMirrorRec (s : State) (r : Rec) (stripes : List Stripe) (fix : Option FixUpd) : State :=
  let named := fun (x : Stripe) => stripes.any fun y => y.group == x.group && y.num == x.num
  let s : State := { s with stripes := s.stripes.filter (fun x => !named x) ++ stripes.map (s.ownStripe r) }
  let s := (s.putRec r (r.offset.getD 4096)).updRec r.seq fun x => { x with wseq := r.wseq, durable := false }
  let q := max s.tally.seq r.seq
  let s : State := { s with tally := { s.tally with seq := q, wseq := r.wseq } }
  let s := s.wr64 F.JNL_SEQ_LO F.JNL_SEQ_HI q
  let s := stripes.foldl (fun (s : State) x =>
    let f := max (s.group x.group).fseq x.fseq
    (s.updGroup x.group fun g => { g with fseq := f }).wr64 (F.LAY_GFSEQ_LO x.group) (F.LAY_GFSEQ_HI x.group) f) s
  (s.standbyRecord r fix).enterRec r fix

/-- Blocks of a namespace, or of a group, that the survey maps. -/
def State.mappedOf (s : State) (p : Mapping → Place → Bool) : Nat :=
  (s.survey.filter fun m => (Entry.place? (some m.entry)).any (p m)).length

/-- The copy of the tally store, with what the members hold as of its tag; the records that came after it are entered again. -/
def State.takeStore (s : State) (t : Tally) (m : Medium) : State :=
  let later := s.tally.recs.filter fun r => t.seq < r.seq
  let isNew := fun (x : Stripe) => !(m.stripes.any fun y => y.group == x.group && y.num == x.num && y.fseq == x.fseq)
  let mine := (s.stripes.filter isNew).map fun x => { x with live := 0 }
  let keep := m.stripes.filter fun x => !(mine.any fun y => y.group == x.group && y.num == x.num)
  let s : State := { s with
    tally := { t with recs := t.recs ++ later, seq := max t.seq s.tally.seq, wseq := max t.wseq s.tally.wseq }
    stripes := keep ++ mine, survey := m.survey
    fixblks := m.fixblks.filter (fun b => !(s.fixblks.any fun f => f.nsid == b.nsid && f.lba == b.lba && t.seq < f.birth)) ++
      s.fixblks.filter fun f => t.seq < f.birth }
  let s : State := { s with
    nss := s.nss.map fun n => { n with mapped := s.mappedOf fun x _ => x.nsid == n.nsid }
    groups := s.groups.zipIdx.map fun g => { g.1 with mapped := s.mappedOf fun _ p => p.group == g.2 } }
  (later.foldl (fun (s : State) r => s.enterRec r none) s).releaseRecs

/-! ### Mirror items at the standby (R545, R546, R559) -/

/-- The object a mirror item or copy concerns, by kind and number. -/
def MirrorBody.key : MirrorBody → Nat × Nat
  | .context c _ => (1, c.cid)
  | .contextGone cid => (1, cid)
  | .slot c _ => (2, c.id)
  | .slotGone id => (2, id)
  | .admission c .. => (2, c.id)
  | .commit c => (2, c.id)
  | .record .. => (5, 0)
  | .lines _ _ cid msg => (6, cid * 2 ^ 32 + msg)
  | .window w => (7, w.index)
  | .ns n .. => (8, n.nsid)
  | .nsGone n _ => (8, n)
  | .ident i => (8, 2 ^ 32 + i.index)
  | .identGone i => (8, 2 ^ 32 + i)
  | .cache _ => (8, 2 ^ 33)
  | .ctrlGone i => (8, 2 ^ 34 + i)
  | .member n _ _ => (9, n)
  | .store .. => (5, 0)

/-- The object that a line is. -/
def PendCopy.key (p : PendCopy) : Nat × Nat := (6, p.nsid * 2 ^ 64 + p.lba)

/-- Every object an item or copy concerns. -/
def MirrorBody.keys (b : MirrorBody) : List (Nat × Nat) :=
  match b with
  | .slot c (some k) => [(2, c.id), (1, k.cid)]
  | .lines l .. => l.map PendCopy.key
  | _ => [b.key]

/-- What of an item or copy concerns objects that pass a test. -/
def MirrorBody.part (b : MirrorBody) (fresh : Nat × Nat → Bool) : Option MirrorBody :=
  match b with
  | .slot c (some k) =>
    if fresh (2, c.id) then some (.slot c (if fresh (1, k.cid) then some k else none))
    else if fresh (1, k.cid) then some (.context k none) else none
  | .lines l dur cid msg => some (.lines (l.filter fun p => fresh p.key) dur cid msg)
  | _ => if fresh b.key then some b else none

/-- A command slot as mirrored. -/
def State.putCmd (s : State) (c : Cmd) : State :=
  { s with
    cmds := (s.cmds.filter fun x => x.id != c.id && x.id < c.id) ++ [c] ++ (s.cmds.filter fun x => c.id < x.id)
    nextCmd := max s.nextCmd (c.id + 1) }

/-- A connection context as mirrored. -/
def State.putConn (s : State) (c : Conn) : State :=
  { s with conns := s.conns.filter (fun x => x.index != c.index) ++ [{ c with held := [], heldRoce := [], fetchQueued := false }] }

/-- The rows of a new fixed namespace are taken: of the free ones, or the fixed area grows to hold them (R285). -/
def State.takeRows (s : State) (n : Namespace) : State :=
  let rows := runRows n.rows
  s.updGroup n.group fun g =>
    let need := g.rows - (listMin rows).getD g.rows
    let more := (List.range (need - g.fixedRows)).map fun i => g.rows - need + i
    { g with fixedRows := max g.fixedRows need, freeFixed := (g.freeFixed ++ more).filter fun r => !rows.contains r }

/-- A namespace as mirrored with its key: new, changed, or formatted (R182, R186). -/
def State.putNs (s : State) (n : Namespace) (key : Option KeyEntry) : State :=
  let s : State := match s.ns? n.nsid with
    | some o =>
      if o.gen = n.gen then s.updNs n.nsid fun x => { n with mapped := x.mapped }
      else (((s.abandonTree o).dropContents n.nsid).updNs n.nsid fun _ => { n with mapped := 0 }).zeroise (n.nsid - 1) o.gen none
    | none =>
      let s : State := { s with
        nss := s.nss ++ [{ n with mapped := s.mappedOf fun x _ => x.nsid == n.nsid }]
        tenants := mapIf (fun (t : Tenant) => t.id == n.tenant) (fun t => { t with emptySince := none }) s.tenants }
      if n.fixed then s.takeRows n else s
  let s : State := { s with keyTab := key.toList ++ s.keyTab.filter fun e => e.slot != n.nsid - 1 }
  s.syncGroup n.group

/-- The command whose whole effect has reached the copy has its result (Table PAIR-9). -/
def State.effectDone (s : State) (done : Option (Nat × Nat)) : State :=
  match done with
  | some (id, dw0) => s.updCmd id fun x => { x with phase := .met, result := some (dw0, 0, 0, 0) }
  | none => s

/-- A slot as mirrored; the drive is the one this unit sees. The group's epoch follows members that leave and enter service (R308). -/
def State.putMember (s : State) (n : Nat) (x : Slot) (power : Bool) : State :=
  let o := s.slot n
  let moved := (o.state == 1) != (x.state == 1)
  let s := (s.updSlot n fun y => { x with drive := y.drive }).updGroup x.group fun g => { g with
    epoch := max (g.epoch + bit moved) (match x.absent with | some (e, _, _) => e + 1 | none => 0) }
  let s := ((s.wr (F.LAY_MSTAT_STATE n) x.state).wr (F.LAY_MSTAT_GROUP n) x.group).wrB (F.LAY_MSTAT_DIRTY n) (!x.dirty.isEmpty)
  s.followPower n power

/-- Apply a mirror item, or a copy, to what this unit holds (Table PAIR-5). -/
def State.applyMirror (s : State) (b : MirrorBody) : State :=
  match b with
  | .context c k =>
    let s := s.putConn c
    match k with
    | some k => { s with ctrls := s.ctrls.filter (fun (x : Ctrl) => x.index != k.index) ++ [k] }
    | none => s
  | .contextGone cid => match s.conn? cid with | some c => s.freeConn c | none => s
  | .slot c k => match k with | some k => (s.putCmd c).putConn k | none => s.putCmd c
  | .slotGone id => { s with cmds := s.cmds.filter fun x => x.id != id }
  | .admission c nsid t a b m =>
    (s.putCmd { c with opMark := s.nextOp }).updNs nsid fun n => { n with tats := t, minTag := a, startTag := b, meter := m }
  | .commit c => s.putCmd c
  | .record r st fix => s.putMirrorRec r st fix
  | .lines l dur cid msg =>
    let s : State := match s.conn? cid with
      | some c => if c.isDelivered msg then s else s.setConn (c.markDelivered msg)
      | none => s
    s.standbyLines l dur cid msg
  | .window w => { s with windows := w :: s.windows.filter fun x => x.index != w.index }
  | .ns n key done => (s.putNs n key).effectDone done
  | .nsGone n done =>
    let gen := ((s.ns? n).map (·.gen)).getD 0
    (((s.zeroise (n - 1) gen none).nsGone n none)).effectDone done
  | .ident i => ({ s with idents := s.idents.filter (fun (x : Ident) => x.index != i.index) ++ [i] }).bindFunctions
  | .identGone i => ({ s with idents := s.idents.filter fun (x : Ident) => x.index != i }).bindFunctions
  | .ctrlGone i => { s with ctrls := s.ctrls.filter fun (x : Ctrl) => x.index != i }
  | .cache en =>
    let s : State := if en then s else { s with lines := [], sectors := [], pends := [], winops := [] }
    (s.wrB F.MEM_CACHE_CTL_EN en).syncCache
  | .member n x power => s.putMember n x power
  | .store t m => s.takeStore t m

/-- The objects that nothing above a sequence has reached. -/
def State.freshAt (s : State) (q : Nat) (above : Nat → Nat → Bool) (k : Nat × Nat) : Bool :=
  !(s.pair.copies.any fun c => c.1 == k && above q c.2)

/-- Note the sequence, or the tag, that reached objects. -/
def Pair.reached (p : Pair) (keys : List (Nat × Nat)) (q : Nat) : List ((Nat × Nat) × Nat) :=
  keys.map (fun k => (k, q)) ++ p.copies.filter fun c => !(keys.contains c.1 && c.2 ≤ q)

/-- Apply the items that follow in MSEQ order; to a copied object only above the copy's tag (R559). -/
def State.applyEarly (s : State) : Nat → State
  | 0 => s
  | fuel + 1 =>
    match s.pair.mack with
    | none => s
    | some m => match s.pair.early.find? fun e => e.1 == m + 1 with
      | none => s
      | some (q, b) =>
        let s : State := match b.part (s.freshAt q fun q c => q ≤ c) with
          | some b => s.applyMirror b
          | none => s
        let s := s.updPair fun p => { p with
          mack := some q, early := p.early.filter fun e => q < e.1
          copies := if s.role = 4 then p.reached b.keys q else p.copies }
        State.applyEarly (s.bump F.HAL_MIRROR_ITEMS) fuel

/-- MIRROR_ITEM (R546): applied in MSEQ order, each once, and answered with the highest MSEQ applied. A unit in RESYNC takes the
first item it receives as m0 (log entry 64). -/
def execMirrorItem (mseq : Nat) (body : MirrorBody) (s : State) : Host.Outcome State Fault Refusal :=
  .next <|
    if !(s.role = 2 || s.role = 4) || s.pair.closed then s else
    let s := s.updPair fun p => { p with
      mack := some (p.mack.getD (mseq - 1))
      early := if mseq ≤ p.mack.getD (mseq - 1) || p.early.any (fun e => e.1 == mseq) then p.early else (mseq, body) :: p.early }
    let s := s.applyEarly s.pair.early.length
    (s.haulSend 1).send (.mack (s.pair.mack.getD 0))

/-- RESYNC_COPY (R559 steps 2 and 3): an item above its tag that has reached an object keeps it; the tally store is joined with the
records that came after it. -/
def execResyncCopy (tag : Nat) (body : MirrorBody) (s : State) : Host.Outcome State Fault Refusal :=
  .next <|
    if s.role != 4 then s else
    let fresh := fun (k : Nat × Nat) => (k.1 = 5 : Bool) || s.freshAt tag (fun q c => q < c) k
    let s : State := match body.part fresh with
      | some b => s.applyMirror b
      | none => s
    s.updPair fun p => { p with copies := p.reached body.keys tag }

/-! ### Planned handover (R557, R558) -/

/-- Whether the drain has ended: no dispatched command is incomplete, one whose completion can be posted or awaits its record among them, no
stripe is OPEN, CLOSED or SEALED, no member command is outstanding and no member write is quarantined. A Flush waits beyond the handover (log entry 65). -/
def State.drained (s : State) : Bool :=
  !(s.cmds.any fun c => (c.phase == .dispatched && c.result.isNone && c.nv.qid != 0 && c.nv.opc != 0x00) || c.phase == .mirrored ||
    (c.phase == .met && s.mayPost c)) &&
  !(s.stripes.any fun x => x.state == .opened || x.state == .closed || x.state == .sealed) &&
  !(s.mcmds.any fun m => !m.quarantined || m.work.writes) && s.mwaits.isEmpty

/-- The new standby forwards the storage frames it held (Table PAIR-10 step 4, R457), or drops them (R458). -/
def State.forwardHeld (s : State) : State :=
  let held := s.swq.filter fun f => 32 ≤ f.output && f.output < 36
  let s := s.freeFrames fun f => 32 ≤ f.output && f.output < 36
  held.foldl (fun (s : State) f =>
    if s.forwards then ((((s.bump F.SWC_HAUL_FWD).sampleSent { f with output := 36 }).haulSend 2).send (.toHaul f.input f.cls none))
    else (s.bump F.SWC_HAUL_DROP).swcNotice 5 2 0) s

/-- Steps 2 to 5 of Table PAIR-10 at the former active, once every mirror item is acknowledged. -/
def State.gapGo (s : State) : State :=
  if !s.inGap || !s.mirrorOut.isEmpty then s else
  let live := s.pair.handover.any (·.live)
  let s := (s.haulSend 1).send (.handoverItem s.mseq)
  let s := (s.setGen (s.gen + 1)).bump F.HAL_HANDOVER
  let s := s.updPair fun p => { p with handover := none, early := [], closed := false }
  let s := ((s.wr F.HAL_PAIR_STAT_PEER_ROLE 1).enterPaired 2).forwardHeld
  let s : State := { s.raise 7 6 INFO 3 2 with winops := s.winops.filter fun o => o.kind.changes && o.visible, jobs := [] }
  if live then (s.wr F.CTL_LIVE_STAT_PHASE 4).liveStart else s

/-- At instant D the partner is sent every context and command slot as they now are; a message of which it holds no record is made
again there. -/
def State.leaveMirrored (s : State) : State :=
  let s := s.conns.foldl (fun (s : State) c => s.mirrorNote (s.ctxBody c)) s
  s.cmds.foldl (fun (s : State) c => s.mirrorNote (.slot c none)) s

/-- Order a handover: ignored in any role but ACTIVE, and while one runs. -/
def State.startHandover (s : State) (live : Bool) : State :=
  if s.role != 1 || s.pair.handover.isSome then s else
  let s := (s.stripes.filter fun x => x.state == .opened).foldl (fun (s : State) x => s.closeStripe x.group x.num) s
  s.updPair fun p => { p with handover := some { phase := 1, since := s.now, live := live } }

/-- HAL_HANDOVER_CMD (R557). -/
def execHalHandoverCmd (s : State) : Host.Outcome State Fault Refusal := 
  .next (s.atWindow 7 0x1008 1 1 fun s => s.startHandover false)

/-- HANDOVER_DRAIN_END (R557): instant D. -/
def execHandoverDrainEnd (s : State) : Host.Outcome State Fault Refusal :=
  .next <|
    match s.pair.handover with
    | some h =>
      if h.phase = 1 && s.drained then (s.updPair fun p => { p with handover := some { h with phase := 2, since := s.now } }).leaveMirrored.gapGo
      else s
    | none => s

/-- HANDOVER_TIMEOUT (R558): 10 ms after the order the drain has not ended. -/
def execHandoverTimeout (s : State) : Host.Outcome State Fault Refusal :=
  .next <|
    match s.pair.handover with
    | some h =>
      if h.phase = 1 && s.due (h.since + msU 10) then
        let s := (s.updPair fun p => { p with handover := none }).raise 7 7 NOTICE 4 0
        let s : State := if h.live then s.abandonLive 3 else s
        (List.range 8).foldl (fun (s : State) g => s.placeWaiting g) s
      else s
    | none => s

/-- HANDOVER_ITEM (R557): with every item up to the final MSEQ applied, the standby takes the active role; it goes on with the
mirrored sequence numbers. -/
def execHandoverItem (mseq : Nat) (s : State) : Host.Outcome State Fault Refusal :=
  .next <|
    if s.role != 2 || (s.pair.mack.getD 0) < mseq then s else
    let s := (s.setGen (s.gen + 1)).bump F.HAL_HANDOVER
    let s := (s.wr F.HAL_PAIR_STAT_PEER_ROLE 2).enterPaired 1
    let s := s.raise 7 6 INFO 3 1
    let s : State := if s.rd F.CTL_LIVE_STAT_PHASE = 0 then s else s.wr F.CTL_LIVE_STAT_PHASE 4
    let s : State := { s with conns := s.conns.map fun c => if c.mode == .roce then { c with resp := [] } else c }
    s.serveMirrored

/-- MIRROR_MACK (R546): every acknowledgment that awaited it proceeds; it can end a handover's gap or a resynchronisation. -/
def execMirrorMack (mseq : Nat) (s : State) : Host.Outcome State Fault Refusal :=
  .next ((s.mackUpTo mseq).gapGo.resyncGo)

/-! ### The haul link (R541 to R544) -/

/-- Whether a half is enabled (Table PAIR-15). -/
def State.halfEnabled (s : State) (h : Nat) : Bool := s.isSet (if h = 0 then F.HAL_CFG_H0_EN else F.HAL_CFG_H1_EN)

/-- A half fails and leaves service (R544). -/
def State.halfDown (s : State) (h : Nat) : State :=
  if !s.halfUp h then s else (s.raise 7 8 NOTICE 5 h).halfOut h

/-- Send every frame of a half that is not acknowledged again (R543); one that has been resent 3 times takes the half out. -/
def State.resendHalf (s : State) (h : Nat) : State :=
  let x := s.half h
  if x.kept.any (fun k => 3 ≤ k.resends) && s.pair.hold.isNone then s.halfDown h else
  let s := x.kept.foldl (fun (s : State) k => ((s.bump F.HAL_RESEND).bump F.HAL_TX_FRM).send (.haulFrame h k.chan k.seq true)) s
  s.updHalf h fun y => { y with kept := y.kept.map fun k => { k with resends := k.resends + 1, sentAt := s.now } }

/-- Frames up to a sequence are acknowledged; progress restarts the 2 µs of R543. -/
def State.haulAcked (s : State) (h a : Nat) : State :=
  let done := (s.half h).kept.filter fun k => k.seq ≤ a
  if done.isEmpty then s else
  let copies := (done.filter fun k => k.chan == 3).length
  let s := s.updHalf h fun y => { y with kept := (y.kept.filter fun k => a < k.seq).map fun k => { k with sentAt := s.now } }
  (s.updPair fun p => { p with resync := p.resync.map fun r => { r with left := r.left - copies } }).resyncGo

/-- What a frame carries that has no row of its own (R418, R477, R564, R628). -/
def State.haulBody (s : State) (b : HaulBody) : State :=
  match b with
  | .other => s
  | .power n on => if s.pairStandby then s.followPower n on else s
  | .entry ctl qid e => if s.isActive then s.epRun (epCommand ctl qid e) else s
  | .writeData cmd d => if s.isActive then s.dataArrived cmd d else s
  | .fetch f cmd len => if s.isActive then s else s.epStartFetch (s.epIdx f) cmd len
  | .readData ctl qid cid len d => if s.isActive then s else s.toHost ctl (.hostData ctl qid cid len d)
  | .completion ctl qid cid dw0 sct sc dnr => if s.isActive then s else s.toHost ctl (.epCompletion ctl qid cid dw0 sct sc dnr)
  | .admin d tag cmd uw body =>
    let d : ReplyTo := { d with partner := true }
    if s.isActive then s.adminRequest d tag cmd uw body else s.answer d tag cmd 8 0 []
  | .adminDone d tag cmd cc det body => s.answerOwed d tag cmd cc det body
  | .piece ofs len => if s.role = 2 then s.updLive fun l => { l with pieces := (ofs, len) :: l.pieces.filter fun p => p.1 != ofs } else s

/-- HAUL_FRAME_RECEIVE (R542, R543): authenticated, then accepted in sequence, or dropped and answered. -/
def execHaulFrameReceive (half chan seq : Nat) (ack : Option Nat) (nak tagOk : Bool) (body : HaulBody) (s : State) :
    Host.Outcome State Fault Refusal :=
  .next <|
    let x := s.half half
    if !s.halfUp half then s
    else if !tagOk then
      let s := (s.bump F.HAL_AUTH_FAIL).send (.haulAck half true x.rxSeq)
      if x.authNotice.any fun t => s.now < t + msU 1 then s
      else (s.raise 7 14 NOTICE 11 half).updHalf half fun y => { y with authNotice := some s.now }
    else
      let s : State := match ack with
        | some a => s.haulAcked half a
        | none => s
      let s : State := if nak then s.resendHalf half else s
      if chan = 0 then s.bump F.HAL_RX_FRM
      else if seq ≤ x.rxSeq then (s.bump F.HAL_SEQ_DROP).send (.haulAck half false x.rxSeq)
      else if seq != x.rxSeq + 1 then s.send (.haulAck half true x.rxSeq)
      else (((s.bump F.HAL_RX_FRM).updHalf half fun y => { y with rxSeq := seq }).send (.haulAck half false seq)).haulBody body

/-- HAUL_RESEND_TIMER (R543): 2 µs without progress; suspended under a hold (R570). -/
def execHaulResendTimer (half : Nat) (s : State) : Host.Outcome State Fault Refusal :=
  .next <|
    let x := s.half half
    if s.halfUp half && s.pair.hold.isNone && (x.kept.head?.any fun k => s.due (k.sentAt + usU 2)) then s.resendHalf half else s

/-- HAUL_HALF_DOWN (R544): a half loses FEC alignment; not counted as a failure under a hold (R570). -/
def execHaulHalfDown (half : Nat) (s : State) : Host.Outcome State Fault Refusal :=
  .next (if s.pair.hold.isSome then s else s.halfDown half)

/-- HAUL_HALF_UP (R541): an enabled half completes training; what it kept goes out, and a changed SerDes section has the other half retrain
next (R568). -/
def execHaulHalfUp (half : Nat) (s : State) : Host.Outcome State Fault Refusal :=
  .next <|
    if 2 ≤ half || s.halfUp half || !s.halfEnabled half || !s.stepDone 4 then s else
    let s := ((s.wr (halfUpFld half) 1).raise 7 9 INFO 6 half).updHalf half fun x => { x with recalAt := s.now }
    let s : State := if (s.half half).kept.isEmpty then s else
      (s.updHalf half fun x => { x with kept := x.kept.map fun k => { k with resends := 0 } }).resendHalf half
    let s : State := if s.pair.exchanged then s else s.sendPairing
    s.syncFwd.syncRelay.retrainHalves

/-! ### Holds and retirement as the active sees them (R570, R577) -/

/-- End a hold: the frames ACK_SEQ does not cover go out again. -/
def State.endHold (s : State) : State :=
  if s.pair.hold.isNone then s else
  let s := (s.updPair fun p => { p with hold := none }).wr F.CTL_LIVE_STAT_HOLD 0
  [0, 1].foldl (fun (s : State) h => if s.halfUp h && !(s.half h).kept.isEmpty then
    (s.updHalf h fun x => { x with kept := x.kept.map fun k => { k with resends := 0 } }).resendHalf h else s) s

/-- HOLD_MESSAGE (R570): the active acknowledges and suspends resends, half failures and the misses of the bench's path. -/
def execHoldMessage (bench : Nat) (s : State) : Host.Outcome State Fault Refusal :=
  .next <|
    if s.role != 1 then s else
    let s := (s.updPair fun p => { p with hold := some (bench, s.now) }).wr F.CTL_LIVE_STAT_HOLD 1
    (s.haulSend 3).send (.holdAck bench)

/-- HOLD_TIMEOUT (R570): 250 µs after the acknowledgment. -/
def execHoldTimeout (s : State) : Host.Outcome State Fault Refusal :=
  .next (if s.pair.hold.any fun h => s.due (h.2 + usU 250) then s.endHold else s)

/-- RETIRE_MESSAGE (R577): the active enters LONE as on a partner loss, without fencing, and acknowledges. -/
def execRetireMessage (s : State) : Host.Outcome State Fault Refusal :=
  .next <|
    if s.role != 1 then s else
    let s := ((s.haulSend 3).send .retireAck).abandonLive 2
    let s := (s.wr F.HAL_PAIR_STAT_PEER_ROLE 7).updPair fun p => { p with
      wire := BeatPath.cold, haul := BeatPath.cold, hello := none, exchanged := false, actWait := none, mack := some 0 }
    let s : State := { s.haulZero with tru := { s.tru with pairNonce := none } }
    s.enterLone 2

end Sys2Proof.Machine
end

