-- ==== Sys2Proof/Machine/Chain.lean ====
section
/-!
DEFINITION. Machine/Chain.lean: the unit chain: addresses (R532 to R535), time (R536, R538, R539) and chain shots (R540).
-/

namespace Sys2Proof.Machine

/-- Change the chain's state. -/
def State.updChain (s : State) (f : Chain → Chain) : State := { s with chain := f s.chain }

/-- A chain frame arrives (R530): one whose CRC fails, or whose TYPE is undefined, is dropped and counted. -/
def State.chainRx (s : State) (crcOk : Bool) (f : State → State) : State :=
  if crcOk then f (s.bump F.CHN_RX_FRM) else s.bump F.CHN_CRC_ERR

/-- Whether this is a head unit. -/
def State.isHead (s : State) : Bool := s.isSet F.CHN_CHAIN_STAT_HEAD

/-- Send ADDR_ACK upstream (R533 step 3): the larger count, and 1 plus the units below. -/
def State.ackUp (s : State) : State :=
  if s.isHead then s else
  let (m, u) := s.chain.downAck.getD (0, 0)
  (s.chainSend (.chainAddrAck (max s.now m) (1 + u))).updChain fun c => { c with acked := true }

/-- Offer the next address downstream, or acknowledge upstream at once where the downstream pair is undriven (R533). -/
def State.offerDown (s : State) : State :=
  if s.chain.dnDriven then
    (s.chainSend (.chainAddr (s.addr + 1))).updChain fun c => { c with sentAt := some s.now, downAck := none, acked := false }
  else (s.updChain fun c => { c with sentAt := none, downAck := none }).ackUp

/-- Become a head unit (R532): cause 1 upstream undriven, 2 HEAD_WAIT_S expired. -/
def State.becomeHead (s : State) (cause : Nat) : State :=
  let s := ((s.wr F.CHN_CHAIN_STAT_ADDR 0).wr F.CHN_CHAIN_STAT_ADDRESSED 1).wr F.CHN_CHAIN_STAT_HEAD 1
  let s := (s.updChain fun c => { c with waitFrom := none }).raise 3 5 NOTICE 2 cause
  s.offerDown

/-- Step 5 of Table BOOT-12 at this unit (R532). -/
def State.chainStart (s : State) (up dn : Bool) : State :=
  let s := ((s.wrB F.CHN_CHAIN_STAT_UP_DRIVEN up).wrB F.CHN_CHAIN_STAT_UP_LINK up).wrB F.CHN_CHAIN_STAT_DN_LINK dn
  let s := s.updChain fun c => { c with dnDriven := dn }
  if up then s.updChain fun c => { c with waitFrom := some s.now } else s.becomeHead 1

/-- HEAD_WAIT_EXPIRY (R532). -/
def execHeadWaitExpiry (s : State) : Host.Outcome State Fault Refusal :=
  .next <|
    match s.chain.waitFrom with
    | some t => if !s.addressed && s.due (t + secU 1 * s.rd F.CHN_CHAIN_CFG_HEAD_WAIT_S) then s.becomeHead 2 else s
    | none => s

/-- Take an address (R533 step 1, R514). -/
def State.takeAddress (s : State) (a : Nat) : State :=
  let s := ((s.wr F.CHN_CHAIN_STAT_ADDR a).wr F.CHN_CHAIN_STAT_ADDRESSED 1).wr F.CHN_CHAIN_STAT_HEAD 0
  let s := s.wr F.CHN_CHAIN_STAT_UNITS 0
  let s := ((s.wr F.TIM_SRC_CFG_SRC 3).updChain fun c => { c with waitFrom := none }).raise 3 4 INFO 1 a
  s.offerDown

/-- CHAIN_ADDR (R533, R534). -/
def execChainAddr (crcOk : Bool) (a : Nat) (s : State) : Host.Outcome State Fault Refusal :=
  .next <| s.chainRx crcOk fun s =>
    if !s.stepDone 5 then s
    else if 64 ≤ a then s.raise 3 6 ERROR 3 (a % 256)
    else if !s.addressed then s.takeAddress a
    else if s.addr = a && !s.isHead then (if s.chain.acked then s.ackUp else s)
    else if s.isSet F.TIM_STAT_SERVING then s.raise 3 6 ERROR 3 a
    else s.takeAddress a

/-- CHAIN_ADDR_ACK (R533). -/
def execChainAddrAck (crcOk : Bool) (maxCount units : Nat) (s : State) : Host.Outcome State Fault Refusal :=
  .next <| s.chainRx crcOk fun s =>
    if !s.addressed then s else
    let s := s.updChain fun c => { c with downAck := some (maxCount, units), sentAt := none }
    if s.isHead then s.wr F.CHN_CHAIN_STAT_UNITS units else s.ackUp

/-- ADDR_REPEAT_TIMER (R533): every 1 ms until the ADDR_ACK or an undriven downstream pair. -/
def execAddrRepeatTimer (s : State) : Host.Outcome State Fault Refusal :=
  .next <|
    match s.chain.sentAt with
    | some t => if s.addressed && s.chain.dnDriven && s.due (t + msU 1) then s.offerDown else s
    | none => s

/-- CHAIN_DOWNSTREAM_UNDRIVEN (R533): repetition stops and ADDR_ACK goes upstream. -/
def execChainDownstreamUndriven (s : State) : Host.Outcome State Fault Refusal :=
  .next <|
    let waiting := s.chain.sentAt.isSome
    let s := (s.wr F.CHN_CHAIN_STAT_DN_LINK 0).updChain fun c => { c with dnDriven := false, sentAt := none, downAck := none }
    if waiting && s.addressed then s.ackUp else s

/-! ### Chain reset (R535) -/

/-- A unit acts on RESET: event local 9, its address dropped, time in holdover; the head passes it on and addresses again. -/
def State.chainReset (s : State) (src : Nat) : State :=
  let head := s.isHead
  let s := s.raise 3 9 INFO 6 src
  let s := (s.wr F.CHN_CHAIN_STAT_ADDR 0).wrB F.CHN_CHAIN_STAT_ADDRESSED head
  let s := s.updChain fun c => { c with sentAt := none, downAck := none, acked := false, treq := none, waitFrom := if head then none else some s.now }
  let s : State := if s.chain.dnDriven then s.chainSend (.chainReset src false) else s
  let s : State := if s.servo == 1 || s.servo == 2 then s.enterHoldover else s
  if head then s.offerDown else s

/-- CHAIN_RESET (R535): upstream to the head unit, then downstream to every unit. -/
def execChainReset (crcOk : Bool) (src : Nat) (fromUp : Bool) (s : State) : Host.Outcome State Fault Refusal :=
  .next <| s.chainRx crcOk fun s =>
    if fromUp || s.isHead then s.chainReset src
    else if s.addressed then s.chainSend (.chainReset src true) else s

/-- A write of CHN_CHAIN_CMD.RESET. -/
def State.orderChainReset (s : State) : State :=
  if s.isHead then s.chainReset s.addr
  else s.chainSend (.chainReset (if s.addressed then s.addr else 0xFF) true)

/-- CHN_CHAIN_RESET_CMD (R535). -/
def execChnChainResetCmd (s : State) : Host.Outcome State Fault Refusal := 
  .next (s.atWindow 3 0x1008 1 1 fun s => s.orderChainReset)

/-! ### Time over the chain (R536, R538, R539) -/

/-- TREQ_TIMER (R536): every 1 ms, an addressed unit other than the head. -/
def execTreqTimer (s : State) : Host.Outcome State Fault Refusal :=
  .next <|
    if s.addressed && !s.isHead && s.isSet F.CHN_CHAIN_STAT_UP_LINK && s.due (s.chain.treqAt + msU 1) then
      let e := (s.chain.eseq + 1) % 2 ^ 32
      (s.chainSend (.chainTreq e)).updChain fun c => { c with eseq := e, treqAt := s.now, treq := some (e, s.now) }
    else s

/-- CHAIN_TREQ (R536): answered with the count at its comma and at the comma of the answer, the same instant here. -/
def execChainTreq (crcOk : Bool) (eseq : Nat) (s : State) : Host.Outcome State Fault Refusal :=
  .next <| s.chainRx crcOk fun s =>
    if s.stepDone 5 then s.chainSend (.chainTresp eseq s.now s.now) else s

/-- CHAIN_TRESP (R536, R538): offset and delay; before serving, the first one that shows the unit behind steps the count. -/
def execChainTresp (crcOk : Bool) (eseq t2 t3 : Nat) (s : State) : Host.Outcome State Fault Refusal :=
  .next <| s.chainRx crcOk fun s =>
    match s.chain.treq with
    | none => s
    | some (e, t1) =>
      if e != eseq then s else
      let t4 : Int := s.now
      let offset : Int := (((t2 : Int) - t1) - (t4 - t3)) / 2
      let delay : Int := ((t4 - t1) - ((t3 : Int) - t2)) / 2
      let first := !s.chain.stepped
      let s := (s.wr F.CHN_HOP_DELAY_DELAY delay.toNat).updChain fun c => { c with treq := none, stepped := true }
      let s : State := if first && s.stepAllowed && 0 < offset then s.stepForward offset.natAbs else s
      if s.rd F.TIM_SRC_CFG_SRC != 3 then s else s.servoUpdate (if first && s.stepAllowed && 0 < offset then 0 else offset)

/-- CHAIN_UPSTREAM_LOST (R539): the address is kept; the servo enters HOLDOVER. -/
def execChainUpstreamLost (s : State) : Host.Outcome State Fault Refusal :=
  .next <|
    if s.chain.upLost then s else
    let s := ((s.wr F.CHN_CHAIN_STAT_UP_LINK 0).updChain fun c => { c with upLost := true, treq := none }).raise 3 7 NOTICE 4 0
    if s.rd F.TIM_SRC_CFG_SRC = 3 && (s.servo == 1 || s.servo == 2) then s.enterHoldover else s

/-- CHAIN_UPSTREAM_RESTORED (R539). -/
def execChainUpstreamRestored (s : State) : Host.Outcome State Fault Refusal :=
  .next <|
    if !s.chain.upLost then s else
    ((((s.wr F.CHN_CHAIN_STAT_UP_DRIVEN 1).wr F.CHN_CHAIN_STAT_UP_LINK 1).updChain fun c => { c with upLost := false }).raise 3 8 INFO 5 0)

/-- CHAIN_SHOT (R540, R531): relayed away from its arrival, and judged here as a chain shot request. -/
def execChainShot (crcOk : Bool) (t issuer : Nat) (fromUp : Bool) (s : State) : Host.Outcome State Fault Refusal :=
  .next <| s.chainRx crcOk fun s =>
    let s : State := if s.addressed then s.chainSend (.chainShotRelay t issuer (!fromUp)) else s
    if s.isSet F.TIM_SHOT_CFG_CHAIN_EN then (s.shotRequest 4 t s.now 0).1 else s

end Sys2Proof.Machine
end

