-- ==== Sys2Proof/Machine/Rebuild.lean ====
section
/-!
DEFINITION. Machine/Rebuild.lean: the background work of LAY, each step a whole one (log entry 45): spoil reclaim (R250, R251), the rebuild
index and rebuild (R316 to R320), resynchronisation (R323), reshape (R333 to R337).
-/

namespace Sys2Proof.Machine

/-! ### Budget and member commands of background work (R208, R212) -/

/-- Blocks of a stripe that background work found unreadable: counted and repaired where they can be reconstructed, lost where
not (R314, R324). -/
def State.foundBad (s : State) (sr : SRef) (bad : List (Nat × Nat)) : State :=
  let bs := bad.map fun p => BRef.mk sr p.1 p.2
  let s := bs.foldl (fun s b =>
    match s.slotOf b with
    | none => s
    | some n =>
      let s := s.readError n false
      s.rewriteBlk bs b 5) s
  s.loseAt bs sr (bs.map (·.blk)).dedup

/-! ### Moves (R250, R251, R317) -/

/-- Places of a stripe whose block a move not yet applied or dropped already carries. -/
def State.moving (s : State) (g n : Nat) : List Place :=
  s.stripes.flatMap fun y =>
    if y.state == .opened || y.state == .closed || y.state == .sealed || 0 < y.owed then
      y.blocks.filterMap fun b => match b.owner with
        | .move p _ => if p.group = g && p.stripe = n then some p else none
        | _ => none
    else []

/-- The live blocks of a stripe: mapped places with namespace and LBA. -/
def State.liveIn (s : State) (g n : Nat) : List (Place × Nat × Nat) :=
  s.survey.filterMap fun m => match m.entry with
    | .at p _ => if p.group = g && p.stripe = n then some (p, m.nsid, m.lba) else none
    | .zero => none

/-- A block of a log stripe as a move carries it: BIRTH_SEQ and ORDER kept; regenerated where a parity layout must reconstruct it
(R312, R317). -/
def State.carried (s : State) (g n : Nat) (b : SBlock) : SBlock :=
  let r := BRef.mk (.log g n) b.slab b.blk
  let h := (s.heldBlk r).getD b
  let b := { b with birth := h.birth, order := h.order, content := h.content }
  if s.avail [] r || (s.shape r.stripe).2.2 then b else s.regenBlk (((s.stripe? g n).map (·.fseq)).getD 0) b

/-- Blocks of a list that must be reconstructed. -/
def State.toRebuild (s : State) (g n : Nat) (l : List Place) : Nat :=
  if (s.shape (.log g n)).2.2 then 0 else (l.filter fun p => !s.avail [] ⟨.log g n, p.slab, p.blk⟩).length

/-- Blocks reconstructed by rebuild take their time at 40 GB/s in all groups together, 20 GB/s in a ZT4880-L (R320): 2,048 fifths of a unit
for 4,096 bytes at 40 GB/s. -/
def State.rebuildRate (s : State) (blocks : Nat) : State :=
  { s with rebAt := max (5 * s.now) s.rebAt + blocks * (if s.part == .zs then 2048 else 4096) }

/-- Whether rebuild may reconstruct now (R320). -/
def State.rebuildPace (s : State) : Bool := s.rebAt ≤ 5 * s.now

/-- Move the live blocks of a stripe into a stream of a group, with BIRTH_SEQ and ORDER kept. Lost blocks stay. Answers whether
every block that can move has its place. -/
def State.moveBlocks (s : State) (g n to_ : Nat) (st : Stream) (kind : Nat) : State × Bool :=
  match s.stripe? g n with
  | none => (s, true)
  | some x =>
    let busy := s.moving g n
    let want := (s.liveIn g n).filter fun e => !busy.contains e.1 && !x.lostMap.contains (e.1.slab, e.1.blk)
    let s := s.bgIo ((want.map fun e => e.1.slab).dedup.filterMap fun i => s.slabSlot (.log g n) i)
    let lost := s.toRebuild g n (want.map (·.1))
    let s := (s.countRecon (.log g n) lost).rebuildRate lost
    want.foldl (fun (a : State × Bool) (e : Place × Nat × Nat) =>
      match x.blocks.find? fun b => b.slab == e.1.slab && b.blk == e.1.blk with
      | none => a
      | some b =>
        let c := s.carried g n b
        match a.1.place to_ st (newBlock (.move e.1 kind) e.2.1 e.2.2 c.gen c.birth c.order c.content) with
        | (s, some _) => (s, a.2)
        | (s, none) => (s, false)) (s, true)

/-- Cost of moving blocks: a read and a write of each (Table QOS-5). -/
def State.moveCost (s : State) (g n : Nat) : Nat := n * costUnit + s.logWriteCost g n

/-- SPOIL_RECLAIM_VICTIM (R250, R252, R285): the victim's live blocks go into the reclaim stream as moves. -/
def execSpoilReclaimVictim (group : Nat) (bad : List (Nat × Nat)) (s : State) : Host.Outcome State Fault Refusal :=
  .next <|
    if !(s.group group).mounted || (s.group group).scan || !s.reclaimWork group || !s.taskOk group 1 then s else
    match s.victim group with
    | none => s
    | some x =>
      let s := s.foundBad (.log group x.num) bad
      let s := s.chargeTask group 1 (s.moveCost group x.live)
      ((s.moveBlocks group x.num group .reclaim 1).1.syncGroup group).freeIfEmpty group x.num

/-! ### The rebuild index (R316, R326) -/

/-- The lost range of a mapped block on a lost place of a LOST stripe. -/
def State.sweepLost (s : State) (g : Nat) : State :=
  (s.stripesOf g).foldl (fun s x =>
    if x.state != .lost || x.swept then s else
    let s := (s.liveIn g x.num).foldl (fun s e =>
      if x.lostMap.contains (e.1.slab, e.1.blk) && !((s.ns? e.2.1).any fun n => n.isLost e.2.2) then s.recordLost e.2.1 e.2.2 1 1 else s) s
    s.updStripe g x.num fun y => { y with swept := true }) s

/-- REBUILD_INDEX_SWEEP (R316, R326): the block at every place on a FAILED slot of the group enters the index; lost ranges are
recorded; pages not cached are read within the rebuild task. -/
def execRebuildIndexSweep (group : Nat) (s : State) : Host.Outcome State Fault Refusal :=
  .next <|
    if (s.group group).scan then s else
    let out := fun (p : Place) => match s.slabSlot (.log group p.stripe) p.slab with | some n => (s.slot n).state == 4 | none => false
    let found := s.survey.filterMap fun m => match m.entry with
      | .at p _ => if p.group = group && out p then some (m.nsid, m.lba, p) else none
      | .zero => none
    let s : State := { s with rindex := (s.rindex.filter fun e => e.2.2.group != group) ++ found }
    let away := s.objs.filter fun o => o.group == group && o.kind ≤ 1 && o.away
    let s := (s.chargeTask group 0 (away.length * costUnit)).bgIo (away.filterMap fun o => o.copies.find? s.inService)
    (s.updGroup group fun x => { x with indexSwept := true }).sweepLost group

/-! ### Rebuild (R315, R317 to R320) -/

/-- Links of the relocation chain that ends at a slab: the slab it was relocated from, and so on (R319). -/
def State.chainTo (s : State) : Nat → Nat → Nat → Nat → List (Nat × Nat)
  | 0, _, _, _ => []
  | fuel + 1, g, n, slab =>
    match (s.stripe? g n).bind fun x => x.blocks.findSome? fun b =>
        if b.slab = slab then (match b.owner with | .reloc st sl => some (st, sl) | _ => none) else none with
    | some (st, sl) => (st, sl) :: State.chainTo s fuel g st sl
    | none => []

/-- Whether a stripe's slab is being relocated or its blocks moved. -/
def State.underWay (s : State) (g n slab : Nat) : Bool :=
  ((s.stripesOf g).any fun y => (y.state == .opened || y.state == .closed || y.state == .sealed) &&
    y.blocks.any fun b => match b.owner with | .reloc st sl => st == n && sl == slab | _ => false) ||
  (s.tally.recs.any fun r => r.group == g && !r.durable && match r.body with
    | .seal items => items.any fun i => match i with | .relocAdd st sl _ _ => st == n && sl == slab | _ => false
    | _ => false) ||
  !(s.moving g n).isEmpty

/-- The slab of a stripe on a slot. -/
def Stripe.slabOn (x : Stripe) (slot : Nat) : Option Nat := (List.range x.members.length).find? fun i => x.slotAt i == some slot

/-- The work to take next: fewest available slabs first, then lowest stripe number (R315); data slabs of a FAILED slot wait for
the sweep (R316). -/
def State.nextWork (s : State) (g : Nat) : Option (Stripe × Nat × Nat) :=
  let l := (s.group g).work.filterMap fun w =>
    match s.stripe? g w.1 with
    | none => none
    | some x => match x.slabOn w.2 with
      | none => none
      | some i =>
        let waits := (s.slot w.2).state == 4 && i < x.kp && !(s.group g).indexSwept
        if waits || s.underWay g x.num i then none else some (x, w.2, i)
  let avail := fun (x : Stripe) => x.members.length - s.slabsOut x
  l.foldl (fun m e => match m with
    | none => some e
    | some b => if avail e.1 < avail b.1 || (avail e.1 == avail b.1 && e.1.num < b.1.num) then some e else m) none

/-- Rebuild finds no free position: the event once for each wait (R320). -/
def State.rebuildWaits (s : State) (g : Nat) : State :=
  if (s.group g).waiting then s else (s.updGroup g fun x => { x with waiting := true }).raiseLay g 15 NOTICE 0x13 g

/-- Evacuate a stripe in the rebuild stream (R317). -/
def State.evacuate (s : State) (g n : Nat) : State :=
  let live := ((s.stripe? g n).map (·.live)).getD 0
  let (t, all) := (s.chargeTask g 0 (s.moveCost g live)).moveBlocks g n g .rebuild 2
  if all then ((t.bump (F.LAY_REB_SLABS g)).updGroup g fun x => { x with waiting := false }).freeIfEmpty g n else t.rebuildWaits g

/-- Blocks of a slab as they are written at their new place (R318): those the index holds have the metadata of R312, or their own where
the slab is copied from a DRAINING member (DEDUCED, log entry 144), others are spoil, check blocks name the old stripe, and a short slab
is filled with void blocks. -/
def State.relocBlocks (s : State) (x : Stripe) (slab : Nat) (copy : Bool) : List SBlock :=
  (List.range 16).map fun o =>
    match x.blocks.find? fun b => b.slab == slab && b.blk == o with
    | some b =>
      let b := if copy || geomMirror x.geom then (s.heldBlk ⟨.log x.group x.num, slab, o⟩).getD b else s.regenBlk x.fseq b
      let idx := s.mappedAt ⟨x.group, x.num, slab, o⟩
      newBlock (.reloc x.num slab) ((idx.map Prod.fst).getD 0) ((idx.map Prod.snd).getD 0) b.gen b.birth b.order (some (b.content.getD (.enter 0 0)))
    | none =>
      if x.kp ≤ slab then newBlock (.reloc x.num slab) 0 x.num 0 x.fseq 0 (some (.enter 0 0))
      else newBlock (.reloc x.num slab) 0 0 0 x.fseq 0 (some (.enter 0 0))

/-- Place a list of blocks of the rebuild stream; stops where no place is free. -/
def State.placeAll (s : State) (g : Nat) (l : List SBlock) : State × Bool :=
  l.foldl (fun (a : State × Bool) (b : SBlock) =>
    if !a.2 then a else match a.1.place g .rebuild b with | (s, some _) => (s, true) | (s, none) => (s, false)) (s, true)

/-- Relocate a slab into a whole data slab of the rebuild stream: void blocks fill the slab its fill has reached (R317). -/
def State.relocate (s : State) (g : Nat) (x : Stripe) (slab : Nat) : State :=
  let used := match (s.openOf g .rebuild).head? with | some y => y.blocks.length % 16 | none => 0
  let pad := List.replicate ((16 - used) % 16) (newBlock .void 0 0 0 0 0 (some (.enter 0 0)))
  let src := (s.recon [⟨.log g x.num, slab, 0⟩] ⟨.log g x.num, slab, 0⟩).getD []
  let copy := match s.slabSlot (.log g x.num) slab with | some n => (s.slot n).state == 3 | none => false
  let slots := if copy then (s.slabSlot (.log g x.num) slab).toList else src.filterMap s.slotOf
  let reads := if copy then 1 else src.length
  let here := ((List.range 16).filter fun o => (s.peers ⟨.log g x.num, slab, o⟩).any fun b => b.slab == slab).length
  match s.placeAll g (pad ++ s.relocBlocks x slab copy) with
  | (t, true) => ((((t.countRecon (.log g x.num) (if copy then 0 else here)).rebuildRate (if copy || geomMirror x.geom then 0 else here)).bgIo slots).chargeTask g 0 (16 * reads * costUnit + s.logWriteCost g 16)).updGroup g fun y => { y with waiting := false }
  | (t, false) => t.rebuildWaits g

/-- Rebuild one slab of a stripe: evacuation when LIVE is at most 16, when the stripe is LOST, or when a fifth link would be made;
relocation otherwise (R317, R319, R325). -/
def State.rebuildOne (s : State) (g : Nat) (x : Stripe) (slab : Nat) : State :=
  let chain := s.chainTo 5 g x.num slab
  if x.live ≤ 16 || x.state == .lost then s.evacuate g x.num
  else if 4 ≤ chain.length then
    let s := s.evacuate g x.num
    match chain.getLast? with
    | some (n, _) => s.evacuate g n
    | none => s
  else s.relocate g x slab

/-! ### Reshape: what remains to move (R334, R336) -/

/-- Old stripes of a group reshape: a face sequence at or below FSEQ_START, on a slot being removed or of another geometry. -/
def State.oldStripes (s : State) (r : Reshape) : List Stripe :=
  (s.stripesOf r.group).filter fun x => (x.state == .live || x.state == .lost || x.state == .sealed) && x.fseq ≤ r.fseqStart &&
    (x.members.any (fun n => !r.members.contains n) || x.geom != r.geom || x.m != geomM r.geom || x.keff > r.k ||
      (x.kp != r.k && (s.geo r.group).k != r.k))

/-- Blocks of a moving namespace whose entry still names its home group. -/
def State.leftBehind (s : State) (r : Reshape) : List (Place × Nat × Nat) :=
  s.survey.filterMap fun m => match m.entry with
    | .at p _ => if m.nsid = r.nsid && p.group = r.group then some (p, m.nsid, m.lba) else none
    | .zero => none

/-- What a reshape still has to do. -/
def State.reshapeLeft (s : State) (r : Reshape) : Nat := if r.mode = 1 then (s.oldStripes r).length else (s.leftBehind r).length

/-- PHASE and PCT of LAY_ORDER_STAT. -/
def State.syncReshape (s : State) : State :=
  match s.reshape with
  | none => (s.wr F.LAY_ORDER_STAT_PHASE 0).wr F.LAY_ORDER_STAT_PCT 0
  | some r =>
    let left := s.reshapeLeft r
    (s.wr F.LAY_ORDER_STAT_PHASE r.phase).wr F.LAY_ORDER_STAT_PCT (if r.total = 0 then 100 else (r.total - min left r.total) * 100 / r.total)

/-- One step of a reshape's evacuation: an old stripe, lowest UTIL first, or a stripe with blocks of the moving namespace. -/
def State.reshapeStep (s : State) (r : Reshape) : State :=
  if r.phase != 2 then s else
  if r.mode = 1 then
    match (s.oldStripes r).foldl (fun m x =>
        if x.state == .live && (s.moving r.group x.num).isEmpty then
          (match m with | none => some x | some y => if s.util x < s.util y then some x else m) else m) (none : Option Stripe) with
    | some x => ((s.chargeTask r.group 0 (s.moveCost r.group x.live)).moveBlocks r.group x.num r.group .reclaim 1).1.freeIfEmpty r.group x.num
    | none => s
  else
    match (s.leftBehind r).find? fun e => !(s.moving r.group e.1.stripe).contains e.1 with
    | none => s
    | some e =>
      match s.stripeBlk e.1 with
      | none => s
      | some b =>
        let b := s.carried r.group e.1.stripe b
        let lost := s.toRebuild r.group e.1.stripe [e.1]
        let s := (s.countRecon (.log r.group e.1.stripe) lost).rebuildRate lost
        (((s.chargeTask r.group 0 (s.moveCost r.group 1)).bgIo (s.slotOf ⟨.log e.1.group e.1.stripe, e.1.slab, e.1.blk⟩).toList).place r.target
          .reclaim (newBlock (.move e.1 1) e.2.1 e.2.2 b.gen b.birth b.order b.content)).1

/-- Objects of a group with a copy on a member that left service come first (R265, R315). -/
def State.rehomeWork (s : State) (g : Nat) : Bool := s.objs.any fun o => o.group == g && o.copies.any fun n => !s.inService n

/-- REBUILD_STRIPE (R315, R317 to R320, R334, R336): the next piece of a group's rebuild task. With its work empty, stripes with
relocation records are evacuated, or a reshape goes on. -/
def execRebuildStripe (group : Nat) (bad : List (Nat × Nat)) (s : State) : Host.Outcome State Fault Refusal :=
  .next <|
    if (s.group group).scan || !s.taskOk group 0 || !s.rebuildPace || s.rehomeWork group || (s.group group).priority then s else
    let s : State := match s.nextWork group with
      | some (x, _, i) =>
        let s := s.foundBad (.log group x.num) bad
        match s.stripe? group x.num with
        | some y => if y.state == .live || y.state == .lost then s.rebuildOne group y i else s
        | none => s
      | none =>
        if !(s.group group).work.isEmpty then s else
        match s.reshape.filter fun r => r.group == group with
        | some r => s.reshapeStep r
        | none =>
          match (s.stripesOf group).foldl (fun m x =>
              if x.state == .live && !x.relocs.isEmpty && (s.moving group x.num).isEmpty then
                (match m with | none => some x | some y => if s.util x < s.util y then some x else m) else m) (none : Option Stripe) with
          | some x => ((s.chargeTask group 0 (s.moveCost group x.live)).moveBlocks group x.num group .rebuild 2).1.freeIfEmpty group x.num
          | none => s
    ((s.syncReshape).syncGroup group).syncHealth group

/-! ### Resynchronisation (R323) -/

/-- Dirty regions of a slot, in NSID order and then region order. -/
def State.dirtyList (s : State) (n : Nat) : List (Nat × Nat) :=
  let g := (s.slot n).group
  let all := (s.nss.filter fun x => x.fixed && x.group == g).flatMap fun x => (regionsOf x.nsze).map fun r => (x.nsid, r)
  sortBy (fun (a b : Nat × Nat) => a.1 < b.1 || (a.1 == b.1 && a.2 ≤ b.2)) (if (s.slot n).allDirty then all else (s.slot n).dirty)

/-- REGION_RESYNC (R311, R323): the first dirty region of a member in service is written from the other members, under the range
lock and with the metadata of R312; its blocks that cannot be reconstructed are lost. -/
def execRegionResync (slot : Nat) (bad : List (Nat × Nat × Nat × Nat)) (s : State) : Host.Outcome State Fault Refusal :=
  .next <|
    let g := (s.slot slot).group
    if !s.inService slot || !s.taskOk g 0 || !s.rebuildPace then s else
    match s.dirtyList slot with
    | [] => ((s.updSlot slot fun x => { x with allDirty := false, dirty := [] }).syncDirty slot).syncHealth g
    | (ns, r) :: rest => match s.ns? ns with
      | none => (s.updSlot slot fun x => { x with allDirty := false, dirty := rest }).syncDirty slot
      | some n =>
        let held := s.cmds.any fun c => c.locks && c.nv.nsid == ns && rangesMeet (cmdRanges c.nv) [(r * 16384, 16384)]
        if held then s else
        let lbas := (List.range (min 16384 (n.nsze - r * 16384))).map (r * 16384 + ·)
        let srs := ((lbas.filter fun l => l % 16 == 0).map fun l => (s.fixPlace n l).stripe).dedup
        let bs := bad.map fun p => BRef.mk (.fix g p.1 p.2.1) p.2.2.1 p.2.2.2
        let (k, m, _) := s.shape (.fix g 0 0)
        let s := srs.foldl (fun s sr =>
          let mine := (List.range (k + m)).filter fun i => s.slabSlot sr i == some slot
          let s := ((s.loseAt bs sr (List.range 16)).countRecon sr (16 * mine.length)).rebuildRate (if geomMirror (s.geo g).geom then 0 else 16 * mine.length)
          let s := (mine.filter fun i => i < k).foldl (fun (s : State) i => (List.range 16).foldl (fun (s : State) o =>
            if (s.fixOwner ⟨sr, i, o⟩).any fun p => p.1.isLost p.2 then s else s.regenInPlace ⟨sr, i, o⟩) s) s
          s.bgIo ((List.range (k + m)).filterMap fun i => s.slabSlot sr i)) s
        let s := s.chargeTask g 0 (srs.length * (s.fixWriteCost g 16))
        let s := s.updSlot slot fun x => { x with allDirty := false, dirty := rest }
        (s.syncDirty slot).syncHealth g

/-! ### Reshape (R333 to R337) -/

/-- The target settings of a group reshape in LAY_RSHP_CFG and LAY_RSHP_MEM. -/
def State.reshapeGeo (s : State) : Geo :=
  let geom := s.rd F.LAY_RSHP_CFG_GEOM
  { geom := geom, k := s.rd F.LAY_RSHP_CFG_K, m := geomM geom,
    members := slotsOf (s.rd F.LAY_RSHP_MEM_LO_SLOTS) (s.rd F.LAY_RSHP_MEM_HI_SLOTS) }

/-- Entries that the stripe-table region holds: 16 bytes of each entry (R247). -/
def State.sttRoom (s : State) : Nat := s.rd F.MEM_RGN_CFGA_STT_GIB * 1073741824 / 16

/-- Why a reshape order is refused, if it is (Table REB-7). -/
def State.reshapeRefusal (s : State) : Option Nat :=
  let g := s.rd F.LAY_RSHP_CFG_GROUP
  let mode := s.rd F.LAY_RSHP_CFG_MODE
  let tgt := s.rd F.LAY_RSHP_CFG_TARGET
  let x := s.reshapeGeo
  let added := x.members.filter fun n => !(s.geo g).members.contains n
  let replaces := mode == 1 && s.reshape.any fun r => r.mode == 1 && r.group == g && 2 ≤ r.phase
  let badSlot := added.any fun n => (s.slot n).state != 7 && (s.slot n).group != g || ((s.slot n).drive.isNone) ||
    !((s.slot n).drive.any fun d => (s.group g).rows ≤ positions d.capacity)
  let ns := s.ns? (s.rd F.LAY_RSHP_NSID_NSID)
  if !(s.group g).configured || (mode = 2 && (!(s.group tgt).configured || !ns.any fun n => n.group == g)) then some 1
  else if s.reshape.isSome && !replaces then some 2
  else if mode = 0 || mode = 3 || (mode = 1 && (!x.valid s.part || badSlot)) then some 3
  else if mode = 1 && min (s.capU g (s.geo g)) (s.capU g x) < s.ncapOf g then some 4
  else if mode = 2 && !(ns.any fun n => n.fixed || s.ncapOf tgt + n.ncap ≤ s.capTotal tgt) then some 4
  else if (mode = 1 && 0 < (s.group g).fixedRows) || (mode = 2 && ns.any fun n => n.fixed) then some 5
  else if mode = 1 && s.sttRoom < ((List.range 8).map fun i =>
      if i = g then max (s.entriesOf g (s.geo g)) (s.entriesOf g x) else if (s.group i).configured then s.entries i else 0).sum then some 6
  else if mode = 1 && x.members != (s.geo g).members && 50 < s.rd (F.SVY_GSTAT_SLOT_USED g) then some 7
  else none

/-- Start the reshape that the registers describe. -/
def State.startReshape (s : State) : State :=
  let g := s.rd F.LAY_RSHP_CFG_GROUP
  let x := s.reshapeGeo
  if s.rd F.LAY_RSHP_CFG_MODE = 1 then
    let moved := x.members != (s.geo g).members
    let phase := if moved && !(s.reshape.any fun r => r.members == x.members) then 1 else 2
    let r : Reshape := {
      mode := 1, group := g, geom := x.geom, k := x.k, members := x.members, target := 0, nsid := 0,
      fseqStart := (s.group g).fseq, phase := phase, total := 0 }
    let added := x.members.filter fun n => !(s.geo g).members.contains n && (s.slot n).state == 7
    let s : State := { s with reshape := some { r with total := (s.oldStripes r).length } }
    let s := added.foldl (fun s n =>
      ((s.changeSlot n 6 fun y => { y with group := g, allDirty := true, dirty := [], absent := none }).wr (F.LAY_MSTAT_GROUP n) g).syncDirty n) s
    (s.syncReshape).syncGroup g
  else
    let tgt := s.rd F.LAY_RSHP_CFG_TARGET
    let ns := s.rd F.LAY_RSHP_NSID_NSID
    let r : Reshape := { mode := 2, group := g, geom := 0, k := 0, members := [], target := tgt, nsid := ns, fseqStart := 0, phase := 2, total := 0 }
    let s : State := { s with reshape := some { r with total := (s.leftBehind r).length } }
    (s.updNs ns fun n => { n with moveTo := some tgt }).syncReshape

/-- The effect of START (R333). -/
def State.reshapeOrder (s : State) : State :=
  let g := s.rd F.LAY_RSHP_CFG_GROUP
  match s.reshapeRefusal with
  | some r => s.refuseOrder (if (s.group g).configured then some g else none) r
  | none => s.startReshape

/-- RESHAPE_START (R333): a write of LAY_RSHP_CFG. -/
def execReshapeStart (v : Word) (s : State) : Host.Outcome State Fault Refusal :=
  .next <|
    let s := s.writeRegW 30 0x1610 v
    if hasBit v.toNat 31 then s.reshapeOrder else s

/-- RESHAPE_SWITCHOVER (R337): no old stripe remains, or no entry names the home group. -/
def execReshapeSwitchover (s : State) : Host.Outcome State Fault Refusal :=
  .next <|
    match s.reshape with
    | none => s
    | some r =>
      let g := r.group
      let ready := r.phase = 2 && s.reshapeLeft r = 0 && (r.mode = 1 || !s.pendings.any fun p => p.nsid == r.nsid &&
        match Entry.place? p.new with | some q => q.group == g | none => false)
      if !ready then s else
      let s : State := { s with reshape := none }
      let s : State := if r.mode = 1 then
          let gone := (s.geo g).members.filter fun n => !r.members.contains n
          let lo := ((r.members.filter fun n => n < 32).map fun n => 2 ^ n).sum
          let hi := ((r.members.filter fun n => 32 ≤ n).map fun n => 2 ^ (n - 32)).sum
          let s := (s.wr (F.LAY_GCFG_GEOM g) r.geom).wr (F.LAY_GCFG_K g) r.k
          let s := (s.wr (F.LAY_GMEM_LO_SLOTS g) lo).wr (F.LAY_GMEM_HI_SLOTS g) hi
          gone.foldl (fun s n => ((s.changeSlot n 7 fun x => { x with group := 0, absent := none, allDirty := false, dirty := [] }).wr
            (F.LAY_MSTAT_GROUP n) 0).syncDirty n) s
        else
          let mine := fun (o : SvyObj) => o.group == g && o.kind ≤ 1 && o.owner == r.nsid
          let s := s.updSvy g fun x => { x with old := (s.objs.filter mine).filterMap (·.slot) ++ x.old }
          let s : State := { s with
            objs := mapIf mine
              (fun o => { o with group := r.target, dirty := true, slot := none, copies := [] }) s.objs }
          s.updNs r.nsid fun n => { n with group := r.target, moveTo := none }
      let s := ((s.updSvy g fun x => { x with members := none }).updGroup g fun x => { x with epoch := x.epoch + 1 }).writeMember g
      let s := ((s.syncReshape).raiseLay g 15 INFO 0x11 g).syncGroup g
      let s : State := if r.mode = 2 then s.syncGroup r.target else s
      s.syncHealth g

end Sys2Proof.Machine
end

