-- ==== Sys2Proof/Machine/Survey.lean ====
section
/-!
DEFINITION. Machine/Survey.lean: the survey area (R263 to R268): objects written back, loaded and re-homed (R265, R270, R271, R276), the
delta log (R275), member records (R268), the survey rebuild scan (R279 to R281).
-/

namespace Sys2Proof.Machine

/-- The survey area of a group. -/
def State.svyOf (s : State) (g : Nat) : SvyGroup := s.svy.getD g SvyGroup.cold

/-- SVY_GSTAT of a group (Table SVY-11). -/
def State.syncSvy (s : State) (g : Nat) : State :=
  let (q, dl) := s.svySlots g
  let x := s.svyOf g
  let mine := s.objs.filter fun o => o.group == g && o.slot.isSome
  let s := s.wr (F.SVY_GSTAT_DLOG_USED g) (if dl = 0 then 0 else (x.head - x.tail) * 100 / dl)
  let s := s.wr (F.SVY_GSTAT_SLOT_USED g) (if q - dl = 0 then 0 else mine.length * 100 / (q - dl))
  (s.wrB (F.SVY_GSTAT_TWO_COPY g) (mine.any fun o => o.copies.length < 3)).wrB (F.SVY_GSTAT_SCAN g) (s.group g).scan

/-- Write an object to a free slot, copy-on-write; without one it keeps what copies it has and the event tells so (R265). A page takes
the form its entries ask for (R261), and an eviction that waited for the write ends (R271). -/
def State.writeObj (s : State) (g : Nat) (o : SvyObj) : State :=
  let hit := fun (x : SvyObj) => x.group == g && x.kind == o.kind && x.owner == o.owner && x.level == o.level && x.index == o.index && x.gen == o.gen
  match s.freeObjSlot g with
  | some q =>
    let m := s.slotMembers g q
    let s := s.updSvy g fun x => { x with wseq := x.wseq + 3, old := o.slot.toList ++ x.old }
    let s := (s.updObjs hit fun x => { x with
      slot := some q, copies := m, dirty := false, ext := x.kind == 0 && s.extentCount x.owner x.index ≤ 128, cached := x.cached && !x.evicting
      inBank := x.inBank && !x.evicting, evicting := false }).bgIo m
    s.bump (F.SVY_WB (layRole g))
  | none => (s.updObjs hit fun x => { x with copies := x.copies.filter s.inService }).raiseSvy g 8 NOTICE 5 g

/-- Write the object of a place in a tree, made where it does not exist. -/
def State.writeAt (s : State) (g kind owner level index : Nat) : State :=
  match s.objs.find? (s.isObj g kind owner level index) with
  | some o => s.writeObj g o
  | none =>
    let o := s.freshObj g kind owner level index
    ({ s with objs := s.objs ++ [o] } : State).writeObj g o

/-- Write what leads to an object of a level (R276): the pointer pages above it from below, for a survey tree the namespace record with its
top pointers, then the group root. `index` is that of a level-0 object below it. -/
def State.writeAbove (s : State) (g kind owner index level : Nat) : State :=
  let s := if kind = 0 || kind = 2 then ((s.pathOf g kind owner index).drop (level + 1)).foldl (fun (s : State) p => s.writeAt g p.1 owner p.2.1 p.2.2) s else s
  let s := if kind = 0 then s.writeAt g 4 g 0 0 else s
  s.writeAt g 3 g 0 0

/-- Write an object of a tree and what leads to it. -/
def State.writeTree (s : State) (g : Nat) (o : SvyObj) : State :=
  let s := s.writeObj g o
  if o.kind = 3 then s
  else s.writeAbove g (if o.level = 0 then o.kind else if o.kind = 1 then 0 else 2) o.owner (o.index * 512 ^ o.level) o.level

/-- DLOG_TAIL passes the blocks whose records every object reflects (R276). -/
def State.advanceTail (s : State) (g : Nat) : State :=
  let open_ := listMin ((s.objs.filter fun o => o.group == g && o.dirty).map (·.oldest))
  let x := s.svyOf g
  let gone := x.blocks.takeWhile fun b => b.acked && match open_ with | some q => b.lastRec < q | none => true
  s.updSvy g fun y => { y with tail := y.tail + gone.length, blocks := y.blocks.drop gone.length }

/-- Whether this unit writes the survey area: a standby does not (R275, R278). -/
def State.svyWrites (s : State) : Bool := !(s.halRole == 2 || s.halRole == 4)

/-- The object to write back next: one whose eviction waits for it (log entry 50), else the one with the oldest unreflected record
(R271, R276). -/
def State.nextDirty (s : State) (g : Nat) : Option SvyObj :=
  let dirty := s.objs.filter fun o => o.group == g && o.dirty && o.cached
  match dirty.find? (·.evicting) with
  | some o => some o
  | none => dirty.foldl (fun (m : Option SvyObj) o => match m with | none => some o | some x => if o.oldest < x.oldest then some o else some x) none

/-- SURVEY_WRITEBACK_DONE (R261, R265, R268, R271, R276): the next dirty object is written, or a page without entries given up, with what
leads to it, the root and a member record, within the spoil reclaim task; DLOG_TAIL advances. -/
def execSurveyWritebackDone (group : Nat) (s : State) : Host.Outcome State Fault Refusal :=
  .next <|
    if !s.svyWrites || !(s.draining || s.taskOk group 1) then s else
    match s.nextDirty group with
    | none => s
    | some o =>
      let was := (s.svyOf group).wseq
      let empty := o.kind = 0 && !(s.survey.any fun m => m.nsid == o.owner && m.lba / 512 == o.index)
      let s : State := if empty then
          (({ s with objs := s.objs.filter fun x => x != o } : State).updSvy group fun x => { x with old := o.slot.toList ++ x.old }).writeAbove group 0 o.owner o.index 0
        else s.writeTree group o
      let s := s.chargeTask group 1 (((s.svyOf group).wseq - was) * s.rd F.CMD_QOS_CFG_WCOST * costUnit)
      ((s.advanceTail group).writeMember group).syncSvy group

/-- A survey rebuild scan starts (R279). -/
def State.startScan (s : State) (g : Nat) : State :=
  if (s.group g).scan then s else
  ((s.updGroup g fun x => { x with scan := true }).raiseSvy g 6 NOTICE 3 g).syncSvy g

/-- Commands whose lookups waited go on when nothing of theirs misses any more (R270). -/
def State.pageReads (s : State) : State := ((s.cmds.filter (·.paging)).map (·.id)).foldl (fun (s : State) i => s.startReads i) s

/-- SURVEY_OBJECT_LOADED (R266, R270, R271, R279): an object that a lookup misses is read, after those above it, first the copy of the
member in service with the fewest commands; `bad` are the slots whose copies fail R266. After use it is written to a new slot where one
failed; with no copy good it is lost and the group is scanned. -/
def execSurveyObjectLoaded (group kind level owner index : Nat) (bad : List Nat) (s : State) : Host.Outcome State Fault Refusal :=
  .next <|
    let hit := s.isObj group kind owner level index
    let above := fun (o : SvyObj) => s.objs.any fun x => x.group == group && x.owner == owner && x.gen == o.gen && x.kind == ptrKind kind && level < x.level &&
      x.index == index / 512 ^ (x.level - level) && x.away
    match s.objs.find? hit with
    | none => s
    | some o =>
      if !o.loading || above o then s else
      let copies := sortBy (fun a b => s.memberLoad a ≤ s.memberLoad b) (o.copies.filter s.inService)
      let failed := copies.takeWhile bad.contains
      let s := (s.bump (F.SVY_MISS_CNT (layRole group))).bgIo (copies.take (failed.length + 1))
      let s := failed.foldl (fun s n => (s.bump (F.SVY_COPY_ERR (layRole group))).raiseSvy group 4 NOTICE 1 (n + 256 * group)) s
      if failed.length = copies.length then
        let s := (s.updGroup group fun x => { x with objLost := true }).raiseSvy group 5 ERROR 2 group
        s.startScan group
      else
        let s := ((s.updObjs hit fun x => { x with cached := true, loading := false, indexed := 0 }).useObjs (layRole group) hit).pageReads
        let s : State := if failed.isEmpty || !s.svyWrites then s else (s.writeTree group o).writeMember group
        (s.evictObj (layRole group)).syncSvy group

/-- Units of delta-log blocks: records are packed whole into blocks of 64 units; a longer one takes as many as it needs. -/
def packBlocks (l : List (Nat × Nat)) : List Nat :=
  (l.foldl (fun (a : List Nat × Nat) (r : Nat × Nat) =>
    if a.2 + r.2 ≤ 64 && !a.1.isEmpty then (a.1.dropLast ++ [r.1], a.2 + r.2)
    else (a.1 ++ List.replicate (max 1 (ceilDiv r.2 64)) r.1, min 64 r.2)) (([] : List Nat), 0)).1

/-- DELTA_LOG_BLOCK_ACKED (R275, R276): the durable records of a group, in sequence, are in the delta log; a CHECKPOINT names the last. -/
def execDeltaLogBlockAcked (group : Nat) (s : State) : Host.Outcome State Fault Refusal :=
  .next <|
    if !s.svyWrites then s else
    let x := s.svyOf group
    let mine := sortBy (fun (a b : Rec) => a.seq ≤ b.seq) (s.tally.recs.filter fun r => r.group == group && x.copiedTo < r.seq && match r.body with
      | .mapDelta .. | .seal .. => true
      | _ => false)
    let ready := mine.takeWhile (·.durable)
    let (_, dl) := s.svySlots group
    let blocks := packBlocks (ready.map fun r => (r.seq, r.len))
    if ready.isEmpty || dl < x.head - x.tail + blocks.length then s else
    let last := (ready.getLast?.map (·.seq)).getD 0
    let new := blocks.zipIdx.map fun p =>
      let prev := if p.2 = 0 then x.copiedTo else blocks.getD (p.2 - 1) 0
      DlogBlk.mk (x.head + p.2) p.1 true ((ready.filter fun r => prev < r.seq && r.seq ≤ p.1).map Rec.entries).sum
    let s := s.updSvy group fun y => { y with
      head := y.head + new.length, blocks := y.blocks ++ new, copiedTo := last, wseq := y.wseq + 3 * new.length }
    let s := (s.bumpBy (F.SVY_DLOG_BLK (layRole group)) new.length).emitRec group (.checkpoint last)
    let s := (s.advanceTail group).syncSvy group
    let full := s.dlogOver group
    let say := match (s.svyOf group).dlogNotice with | some t => s.due (t + msU 1) | none => true
    if full && say then (s.updSvy group fun y => { y with dlogNotice := some s.now }).raiseSvy group 9 NOTICE 6 group else s

/-- MEMBER_RECORD_TIMER (R268): at least once every 1 s a new member record is written to every member in service. -/
def execMemberRecordTimer (group : Nat) (s : State) : Host.Outcome State Fault Refusal :=
  .next (if (s.group group).mounted && s.due ((s.svyOf group).recAt + secU 1) then s.writeMember group else s)

/-- OBJECT_REHOME (R265): each object with a copy on a member that left service is written to a new slot. -/
def execObjectRehome (group : Nat) (s : State) : Host.Outcome State Fault Refusal :=
  .next <|
    let lost := s.objs.filter fun o => o.group == group && o.copies.any fun n => !s.inService n
    if lost.isEmpty || !s.svyWrites || !s.taskOk group 0 then s else
    ((lost.foldl (fun s o => s.writeTree group o) s).writeMember group).syncSvy group

/-- Whether a scanned block replaces the mounted entry of its LBA (R280 step 4). -/
def State.scanWins (s : State) (nsid lba birth : Nat) : Bool :=
  match s.paged nsid lba with
  | some (.at p _) => match s.stripe? p.group p.stripe, s.stripeBlk p with
    | some x, some b => x.state == .freeing || b.birth < birth
    | _, _ => true
  | _ => true

/-- Count LIVE and the mapped counts of a group again from the survey (R280 step 5). -/
def State.recount (s : State) (g : Nat) : State :=
  let at_ := fun (n : Nat) => (s.liveIn g n).length
  let total := (s.survey.filter fun m => match m.entry with | .at p _ => p.group == g | .zero => false)
  let s : State := { s with
    stripes := mapIf (fun x => x.group == g) (fun x => { x with live := at_ x.num }) s.stripes
    nss := mapIf (fun n => !n.fixed && n.group == g) (fun n => { n with mapped := (total.filter fun m => m.nsid == n.nsid).length }) s.nss }
  s.updGroup g fun x => { x with mapped := total.length }

/-- SURVEY_REBUILD_SCAN (R279 to R281): the scan of a group ends; `freed` are the stripes of the table whose positions hold another face
sequence, `found` scanned blocks by NSID, LBA, stripe, slab and block. -/
def execSurveyRebuildScan (group : Nat) (freed : List Nat) (found : List (Nat × Nat × Nat × Nat × Nat)) (s : State) : Host.Outcome State Fault Refusal :=
  .next <|
    if !(s.group group).scan then s else
    let s : State := { s with stripes := s.stripes.filter fun x => !(x.group == group && freed.contains x.num) }
    let s := found.foldl (fun s f =>
      let p : Place := ⟨group, f.2.2.1, f.2.2.2.1, f.2.2.2.2⟩
      match s.ns? f.1, s.stripeBlk p with
      | some n, some b =>
        if !n.fixed && n.group == group && b.gen == n.gen && b.nsid == f.1 && b.lba == f.2.1 && s.scanWins f.1 f.2.1 b.birth then
          s.setEntry f.1 f.2.1 (some (.at p (b.birth % 4096)))
        else s
      | _, _ => s) s
    let s := s.recount group
    let s := s.updObjs (fun o => o.group == group) fun o => { o with cached := true, loading := false }
    let s : State := if s.svyWrites then ((s.objs.filter fun o => o.group == group && o.kind != 3).foldl (fun s o => s.writeObj group o) s).writeAt group 3 group 0 0 else s
    let s := s.writeMember group
    let s := (s.nss.filter fun n => !n.fixed && n.group == group).foldl (fun s n => s.markAttached n.nsid) s
    let s := s.updGroup group fun x => { x with scan := false, objLost := false }
    let s := s.pageReads.evictObj (layRole group)
    (((s.raiseSvy group 11 ERROR 8 group).raiseSvy group 7 INFO 4 group).syncSvy group).syncGroup group

end Sys2Proof.Machine
end

