-- ==== Sys2Proof/Machine/Boot.lean ====
section
/-!
DEFINITION. Machine/Boot.lean: reset and start (R496, R525, R579, R580), choosing a bank (R506 to R509), the setting list (R511
to R513), the steps of Table BOOT-12 (R517 to R524) and of Table TRU-2 (R586), mount and blank initialisation (R518, R519).
-/

namespace Sys2Proof.Machine

/-! ### Checks of a bank -/

/-- Domain of a section type of Table BOOT-7. -/
def sectionDomain (t : Nat) : Option Nat :=
  if 1 ≤ t && t ≤ 5 then some 0 else if 0x100 ≤ t && t ≤ 0x102 then some 1 else none

/-- Whether a Fornor fuse slot holds a key hash and is not revoked. -/
def Fuses.fornorKey (f : Fuses) (j hash : Nat) : Bool := j < 4 && !hasBit f.frevoke j && f.fkh.getD j 0 == hash

/-- Whether a setting entry is valid (R512). -/
def SetEntry.valid (p : Variant) (e : SetEntry) : Bool :=
  e.unit != 3 && e.addr % 4 == 0 &&
    (!(partBenches p).contains (e.addr / 0x100000) ||
      match findReg (e.addr / 0x100000) (e.addr % 0x100000) with
      | none => false
      | some (d, _) =>
        let free := (d.fields.filter fun f => f.type == .rw || f.type == .rwl).foldl (fun a f => a ||| (2 ^ (f.hi + 1) - 2 ^ f.lo)) 0
        e.mask &&& free == e.mask)

/-- Targets whose microcode section check 6 asks for: one for every bench of the part (Table BOOT-7). The 29 targets of a ZT4880-S do not fit
the 31 entries of a header (R501) beside the other required sections: there, one for each replicated class (DESIGN CHOICE, log entry 160). -/
def neededUcode (p : Variant) : List Nat :=
  let l := ((partBenches p).map benchTarget).dedup
  if l.length + 6 ≤ 31 then l else l.filter (· < 6)

/-- Checks 1 to 9 of Table BOOT-8 with R585 for a bank of `size` bytes: 0 where it passes, else the reason. -/
def bankReject (p : Variant) (f : Fuses) (size : Nat) (b : BankImg) : Nat :=
  let owned := f.ownerKey != 0
  let chain := b.chainOk && (List.range 4).any fun j => f.fornorKey j b.chainRoot
  let fwTypes := ([1, 3, 4, 5].all fun t => (b.ofType t 0).length == 1) &&
    ((neededUcode p).all fun n => (b.ofType 2 n).length == 1) && (partBenches p).all fun n => (b.ofType 2 (benchTarget n)).length ≤ 1
  let known := b.sections.all fun x => match sectionDomain x.type with | some d => x.domain == d | none => !hasBit x.flags 0
  let ownTypes := (b.ofType 0x100 0).length == 1 && (b.ofType 0x101 0).length == 1 && (b.ofType 0x102 0).length ≤ 1
  if !hdrOk size b then 1
  else if b.fwSig.kind != 1 || !f.fornorKey b.fwSig.index b.fwSig.keyHash then 2
  else if b.fwSig.signed != fwManifest b then 3
  else if b.fwSvn < f.fwSvn then 4
  else if !(b.sections.all fun x => x.found == x.digest) then 5
  else if !fwTypes || !known || !chain then 6
  else match b.owner?, owned with
    | some g, true =>
      if g.kind != 2 || g.keyHash != f.ownerKey || g.signed != ownManifest b then 7
      else if b.ownSvn < f.ownSvn then 8
      else if !ownTypes || !(b.settings.all (SetEntry.valid p)) then 9 else 0
    | _, _ => 0

/-- The order in which banks are tried (R507). -/
def Flash.order (x : Flash) (bootSel : Nat) : List Nat :=
  if bootSel = 1 then [0] else
  let p := x.preferred
  p :: ([1, 2].filter fun b => b != p) ++ (if p = 0 then [] else [0])

/-- Try banks in order: those rejected with their reasons, and the first that passes. -/
def tryBanks (p : Variant) (f : Fuses) (size : Nat) (banks : List BankImg) : List Nat → List (Nat × Nat) × Option (Nat × BankImg)
  | [] => ([], none)
  | n :: r =>
    match banks[n]? with
    | none => let (l, x) := tryBanks p f size banks r; ((n, 1) :: l, x)
    | some b =>
      let j := bankReject p f size b
      if j = 0 then ([], some (n, b)) else let (l, x) := tryBanks p f size banks r; ((n, j) :: l, x)

/-! ### Reset (R496, Tables LIVE-5 and LIVE-6) -/

/-- A namespace as its records hold it: ceilings and tags cold, its set as last saved with GAP, reservations with PTPL alone. -/
def State.durNs (s : State) (n : Namespace) : Namespace :=
  { n with
    deleting := false, tats := Tats.zero, minTag := 0, startTag := 0, lastSat := none, marks := [], reported := [], moveTo := none
    meter := ((s.msaved.find? fun p => p.1 == n.nsid).map (·.2)).getD Meter.zero, gap := true
    resv := if n.resv.ptpl then n.resv else { n.resv with rtype := 0, holder := none, regs := [] } }

/-- Records of the tally that are written to the ring and not released. -/
def State.durRecs (s : State) : List Rec := s.tally.recs.filter fun r => r.offset.isSome && !r.released

/-- A stripe as members and tally hold it: one not acknowledged by every member is gone. -/
def State.durStripes (s : State) : List Stripe :=
  (s.stripes.filter fun x => x.state == .live || x.state == .freeing || x.state == .lost).map fun x =>
    { x with
      owed := (s.durRecs.filter fun r => !r.durable && r.group == x.group && match r.body with
        | .mapDelta _ _ _ l => l.contains x.num
        | _ => false).length }

/-- Fixed-layout updates whose FIX_INTENT is in the ring without its FIX_DONE (R301). -/
def State.durFix (s : State) : List FixUpd :=
  (s.fixupds.filter fun u => (s.durRecs.any fun r => r.seq == u.seq) && !(s.durRecs.any fun r => match r.body with
      | .fixDone i _ => i == u.seq
      | _ => false)).map fun u =>
    { u with cmd := none, line := false, durable := true, reads := [], writes := [], writesLeft := [], issued := false, missed := false,
             doneSent := false, redo := true }

/-- What a reset leaves: the cold state with what Table LIVE-6 keeps or mounts again. Kind 0 PWRGOOD, 1 RESET_N, 2 FENCE_IN_N
(as RESET_N, log entry 66), 3 cold power-on. -/
def State.afterReset (s : State) (kind : Nat) : State :=
  let recs := s.durRecs
  let t : State := { State.reset with
    pending := s.pending, out := s.out, freeCount := s.freeCount, fuses := s.fuses, flash := s.flash
    nss := s.nss.map s.durNs, idents := s.idents.map fun i => { i with failTimes := [], refuseUntil := 0 }
    freedNsids := s.freedNsids, msaved := s.msaved, tsaved := s.tsaved
    tenants := s.tenants.map fun x => { x with
      retired := ((s.tsaved.find? fun p => p.1 == x.id).map (·.2)).getD Meter.zero, gap := true }
    nextCmd := s.nextCmd, nextJob := s.nextJob, nextOp := s.nextOp
    groups := s.groups.map fun g => { Group.cold with
      rows := g.rows, cursor := g.cursor, lastSlot := g.lastSlot, fseq := g.fseq, mapped := g.mapped, fixedRows := g.fixedRows
      freeFixed := g.freeFixed, epoch := g.epoch, lostTotal := g.lostTotal, priority := g.priority, objLost := g.objLost || g.scan }
    stripes := s.durStripes, survey := s.survey
    objs := s.objs.map fun o => { o with cached := false, loading := false, inBank := false, evicting := false, indexed := 0 }
    svy := s.svy.map fun x => { x with dlogNotice := none, old := [] }
    sweeps := s.sweeps
    tally := { Tally.cold with
      recs := recs, wcount := s.tally.wcount, wseq := s.tally.wseq, cbTail := s.tally.cbTail, ringGen := s.tally.ringGen
      seq := if recs.isEmpty then s.tally.seq else listMax (recs.map (·.seq)) }
    fixupds := s.durFix, fixblks := s.fixblks
    slots := s.slots.map fun x => { x with errs := [], order := false, drive := none }
    frames := s.frames, serials := s.serials, keyTab := s.keyTab.filter fun k => k.slot ≤ 16384
    tru := { Tru.cold with
             trip := s.tru.trip && (kind = 1 || kind = 2), wraps := s.tru.wraps, jtag := s.tru.jtag && kind != 3
             blocked := s.tru.blocked && kind = 2 }
    evlog := if kind = 1 || kind = 2 then { EvLog.cold with
               onChip := s.evlog.onChip, copied := s.evlog.copied, sinceMarker := s.evlog.sinceMarker, markerOwed := s.evlog.markerOwed }
             else EvLog.cold }
  let t := t.wr64 F.HAL_PAIR_GEN_LO F.HAL_PAIR_GEN_HI (s.rd64 F.HAL_PAIR_GEN_LO F.HAL_PAIR_GEN_HI)
  let t : State := if kind = 3 then t else
    (t.wr F.TRU_STAT_TAMPER_CAUSE (s.rd F.TRU_STAT_TAMPER_CAUSE)).wr F.TRU_STAT_TAMPER_CNT (s.rd F.TRU_STAT_TAMPER_CNT)
  if kind = 1 || kind = 2 then
    (t.wr64 F.CTL_EVLOG_TOTAL_LO F.CTL_EVLOG_TOTAL_HI (s.rd64 F.CTL_EVLOG_TOTAL_LO F.CTL_EVLOG_TOTAL_HI)).wr F.CTL_EVLOG_DROP (s.rd F.CTL_EVLOG_DROP)
  else t

/-- Hold the unit in reset; a tamper hold outlasts FENCE_IN_N (R603), a thermal one all but PWRGOOD and the supplies (R650). -/
def State.holdReset (s : State) (kind : Nat) : State :=
  let h := match s.boot.held with
    | some 5 => if kind = 0 || kind = 3 then kind else 5
    | some 4 => if kind = 2 then 4 else kind
    | _ => kind
  let s := s.afterReset (if kind ≤ 3 then kind else 2)
  let s : State := if h = 5 then { s with tru := { s.tru with trip := true } } else s
  let s : State := if h = 4 then s.wr F.TRU_STAT_STOP 4 else s
  { s with boot := { s.boot with held := some h } }

/-- RESET_ASSERT (R496, R525). -/
def execResetAssert (kind : Nat) (s : State) : Host.Outcome State Fault Refusal :=
  .next (if kind ≤ 3 then s.holdReset kind else s)

/-- Change the start. -/
def State.updBoot (s : State) (f : Boot → Boot) : State := { s with boot := f s.boot }

/-- CONTROLLER_START (R496, R498, R603): a start begins; not while a tamper or thermal hold or an EXTEST or INTEST holds the
unit, nor with three trips on record. -/
def execControllerStart (bootSel : Nat) (slotB : Bool) (flash : Option Flash) (s : State) : Host.Outcome State Fault Refusal :=
  .next <|
    match s.boot.held with
    | none => s
    | some h =>
      if 3 < h || s.tru.jtag || s.rd F.TRU_STAT_TAMPER_CNT = 3 then s else
      let s := s.updBoot fun _ => { Boot.cold with held := none, startAt := s.now }
      let s : State := match flash with
        | some f => { s with flash := f }
        | none => s
      let s := (s.wr F.CTL_BOOT_STAT_BOOT_SEL bootSel).wrB F.CTL_BOOT_STAT_SLOT_B slotB
      ((s.setBenchState 1 .selftest).noteStep 1).wr F.TRU_STAT_STEP 1

/-! ### Steps 2 and 3: TRU -/

/-- Stop the start (R509). -/
def State.stopStart (s : State) (why : Nat) : State := (s.wr F.TRU_STAT_STOP why).updBoot fun b => { b with stopped := true }

/-- Step 2: the ROM and the fuses compare, the TRNG passes its tests; KCW and the memory key are drawn (Table TRU-2). -/
def State.stepRom (s : State) (romOk fusesOk trngOk : Bool) : State :=
  if !romOk || !fusesOk then s.stopStart 2
  else if !trngOk then s.stopStart 3
  else
    let (k, s) := s.draw .keyMaterial (2 ^ 256)
    let (m, s) := s.draw .keyMaterial (2 ^ 512)
    let s : State := { s with
      tru := { s.tru with kcw := some k, memKey := some m }
      keyTab := ((List.range 4).map fun i => ⟨16385 + i, 0, 2, 0⟩) ++ s.keyTab }
    let s := (s.updBench 1 fun x => { x with role := some 0, activeSince := s.now }).setBenchState 1 .active
    (s.wr F.TRU_STAT_STEP 5).noteStep 2

/-- The owner domain of a booted bank (R508). -/
def State.ownerOf (s : State) (b : BankImg) : Nat :=
  match b.owner? with
  | none => 2
  | some g => if s.fuses.ownerKey != 0 then 0 else if s.rd F.CTL_BOOT_STAT_BOOT_SEL = 2 && g.signed == ownManifest b then 1 else 2

/-- The bank a unit runs (R527, R572): its number, versions and image. -/
def State.nameBank (s : State) (n : Nat) (b : BankImg) : State :=
  let s := (s.wr F.CTL_BOOT_STAT_BANK n).updBoot fun x => { x with img := some b, bank := n }
  let v := fun i => b.version.getD i 0
  let s := (s.wr F.CTL_IMG_VER_LO (v 0 * 65536 + v 1)).wr F.CTL_IMG_VER_HI (v 2 * 65536 + v 3)
  (s.wr F.CTL_IMG_SVN (b.fwSvn + 65536 * b.ownSvn)).wr F.CTL_IMG_OWNVER b.ownVersion

/-- Load the firmware and microcode of a bank (R586 step 6, R613). -/
def State.loadBank (s : State) (n : Nat) (b : BankImg) : State :=
  let s := (s.nameBank n b).updLive fun l => { l with
    ucode := s.partBenches.map fun x => (x, b.ucodeOf x), serdes := s.partBenches.map fun x => (x, b.serdes) }
  s.partBenches.foldl (fun (s : State) x => s.wr ⟨x * 0x100000 + 4, 31, 16⟩ b.build) s

/-- Step 3: the first bank that passes is booted (R507), the owner domain judged (R508), the benches begin their self-tests. -/
def State.stepBank (s : State) : State :=
  let f := s.flash
  let (rej, pick) := if f.size < 64 then ([], none) else tryBanks s.part s.fuses f.bankSize f.banks (f.order (s.rd F.CTL_BOOT_STAT_BOOT_SEL))
  let s := rej.foldl (fun (s : State) r => s.wr ⟨F.CTL_BOOT_REJ_GOLDEN.key, 4 * r.1 + 3, 4 * r.1⟩ r.2) s
  match pick with
  | none => s.stopStart 1
  | some (n, b) =>
    let s := (s.partBenches.filter fun x => x != 1).foldl (fun (s : State) x => s.setBenchState x .selftest) s
    let s := rej.foldl (fun (s : State) r => s.raise 0 5 NOTICE 0x10 (r.1 + 256 * r.2)) s
    let s : State := if s.rd F.CTL_BOOT_STAT_BOOT_SEL = 3 then s.raise 0 5 NOTICE 0x12 0 else s
    let o := s.ownerOf b
    let s := s.wr F.CTL_BOOT_STAT_OWNER o
    let s : State := if o = 1 then
        ({ s with fuses := { s.fuses with ownerKey := (b.ownSig.map fun (g : SigBlock) => g.keyHash).getD 0 } }).raise 0 5 INFO 0x13 0
      else s
    ((s.loadBank n b).wr F.TRU_STAT_STEP 6).noteStep 3

/-! ### Step 4: self-tests and settings -/

/-- Apply the setting list and set LOCK in every bench (R513). -/
def State.applySettings (s : State) (l : List SetEntry) : State :=
  let s := (s.ownSettings l).foldl (fun (s : State) e =>
    let (s, ign) := s.putSetting e.1
    if ign then
      (s.wr F.CTL_BOOT_STAT_SET_IGN (min 65535 (s.rd F.CTL_BOOT_STAT_SET_IGN + 1))).raise 0 5 NOTICE 0x11 e.2
    else s) s
  s.partBenches.foldl (fun (s : State) b => s.wr (F.BENCH_CTL_LOCK b) 1) s

/-- Groups configured by R223 and R224, G0 first; slots of a group show it and their state. -/
def State.configureGroups (s : State) : State :=
  (List.range 8).foldl (fun (s : State) g =>
    if s.rd (F.LAY_GCFG_GEOM g) = 0 then s else
    let x := s.geo g
    let taken := (List.range g).any fun h => (s.group h).configured && (s.geo h).members.any fun n => x.members.contains n
    if x.valid s.part && !taken then
      x.members.foldl (fun (s : State) n =>
        ((s.updSlot n fun y => { y with group := g }).wr (F.LAY_MSTAT_GROUP n) g).wr (F.LAY_MSTAT_STATE n) (s.slot n).state)
        (s.updGroup g fun y => { y with configured := true })
    else s.raiseLay g 4 ERROR 1 g) s

/-- Assign an EID to a path (R618, R635 local 12). -/
def State.assignEid (s : State) (p eid : Nat) : State :=
  ({ s with mgt := { s.mgt with eids := s.mgt.eids.set p eid } }).raise 0 12 INFO 0x33 (p + 256 * eid)

/-- Step 4 (R497, R508, R513): self-tests end, the setting list applies, LOCK is set, VDD_CORE is set; with OWNER 2 no list
applies and the start goes no further. -/
def State.stepSettings (s : State) (failed : List Nat) : State :=
  let s := s.partBenches.foldl (fun (s : State) b => s.selftestEnd b (!failed.contains b)) s
  let s := (s.wr F.CTL_AVS_STAT_MV s.fuses.vcore).send (.avs s.fuses.vcore)
  let s := s.updBoot fun b => { b with step4At := s.now }
  if s.rd F.CTL_BOOT_STAT_OWNER = 2 then ((s.noteStep 4).raise 0 6 ERROR 0x17 0) else
  match s.boot.img with
  | none => s
  | some b =>
    let s := s.applySettings b.settings
    let s := (List.range 8).foldl (fun (s : State) p => s.loadMode (8 + p)) s
    let s := (List.range 3).foldl (fun (s : State) p =>
      let e := s.rd (F.CTL_MGT_PATH_STATIC_EID p)
      if e = 0 then s else s.assignEid p e) s
    ({ s with subnqn := b.subnqn }).configureGroups.noteStep 4

/-! ### Steps 5 to 12 -/

/-- The head unit steps its count to 1 ms beyond MAXCOUNT (R538). -/
def State.headStep (s : State) : State :=
  match s.chain.downAck with
  | some (m, _) => if s.isHead && s.stepAllowed && s.now < m + msU 1 then s.stepForward (m + msU 1 - s.now) else s
  | none => s

/-- Step 6: at the head unit a first update of the time source is still awaited (R523). -/
def State.stepTime (s : State) : State :=
  let s := s.headStep
  let s := s.updTim fun t => { t with firstUpdatePending := s.isHead && t.lastUpdate.isNone }
  (s.updBoot fun b => { b with step6At := s.now }).noteStep 6

/-- Channels of a part (R5, Table MEM-1). -/
def State.memChannels (s : State) : Nat := match s.part with | .zs => 8 | .zl => 4

/-- Whether a DIMM is one of Table MEM-1. -/
def dimmOk (d : Dimm) : Bool := d.rdimm && [32, 64, 128, 256].contains d.gib && 1 ≤ d.ranks && d.ranks ≤ 4

/-- Required channels that lack their one DIMM of Table MEM-1, hold one unlike that of the lowest channel with a DIMM, or fail training
(R367; which of two unlike channels fails is a DESIGN CHOICE, log entry 135). -/
def State.badChannels (s : State) (ch : List (List Dimm)) : List Nat :=
  let req := (List.range s.memChannels).map fun i => ch.getD i []
  let first := req.findSome? fun l => l.head?
  (List.range s.memChannels).filter fun i => match req.getD i [] with
    | [d] => !(dimmOk d && d.trains && first.any fun f => d.gib == f.gib && d.ranks == f.ranks && d.x8 == f.x8)
    | _ => true

/-- Sizes of the regions in MiB, each a multiple of 2 (R377, Table MEM-3). -/
def State.regionSizes (s : State) : List Nat :=
  let gib := fun (f : Fld) => 1024 * s.rd f
  [16, 4, 8, 256, gib F.MEM_RGN_CFGB_OVF_GIB, 8, gib F.MEM_RGN_CFGA_STT_GIB, gib F.SVY_CACHE_CFG_GIB, gib F.MEM_RGN_CFGA_DIDX_GIB,
   gib F.MEM_RGN_CFGA_RIDX_GIB, 1152, gib F.MEM_RGN_CFGB_DIRTY_GIB + gib F.MEM_RGN_CFGB_OVF_GIB + 1024, gib F.MEM_RGN_CFGB_CACHE_GIB, 16, 128]

/-- Lay the regions out in index order from address 0 (R377). -/
def State.layRegions (s : State) : State :=
  let z := s.regionSizes
  (List.range 15).foldl (fun (s : State) r => (s.wr (F.MEM_RGN_BASEr_MIB r) (z.take r).sum).wr (F.MEM_RGN_SIZEr_MIB r) (z.getD r 0)) s

/-- The retirement list at a start: entries of a channel whose DIMM has changed are dropped (R375). -/
def State.applyRetired (s : State) (l : List (Nat × Dimm)) : State :=
  let same := fun (c : Nat) => l.any fun d => d.1 == c && s.serials.any fun x => x == (c, d.2.serial)
  { s with frames := s.frames.filter fun f => same f.2, serials := l.map fun d => (d.1, d.2.serial), dimms := l }

/-- Step 7: every SPD is read and every channel trained, at the lowest of the DIMMs' speeds and MAX_SPEED (R365 to R368); regions that
exceed the memory, or a population that breaks Table MEM-1, keep the unit from service, the latter from any role too. -/
def State.stepMemory (s : State) (ch : List (List Dimm)) : State :=
  let l := (List.range s.memChannels).filterMap fun i => ((ch.getD i []).head?).map fun (d : Dimm) => (i, d)
  let bad := s.badChannels ch
  let s := l.foldl (fun (s : State) d =>
    (((s.wr (F.MEM_CHSTAT_PRESENT d.1) 1).wrB (F.MEM_CHSTAT_TRAINED d.1) (d.2.trains && !bad.contains d.1)).wr
      (F.MEM_CHSTAT_GIB d.1) d.2.gib).wr (F.MEM_CHSTAT_RANKS d.1) d.2.ranks) s
  let s := s.applyRetired l
  if !bad.isEmpty then
    let s : State := if s.role = 1 || s.role = 2 then (s.setRole 0).wr F.HAL_PAIR_STAT_PAIRED 0 else s
    (s.updBoot fun b => { b with memBad := 1 }).raise 4 4 FATAL 1 (bad.map fun c => 2 ^ c).sum
  else
    let s := (s.wr F.MEM_STAT_SPEED ((l.map fun d => d.2.speed).foldl min (s.rd F.MEM_CFG_MAX_SPEED))).layRegions
    let total := 1024 * (l.map fun d => d.2.gib).sum
    let s : State := if total < s.regionSizes.sum then (s.updBoot fun b => { b with memBad := 2 }).raise 4 4 FATAL 3 0 else s
    s.noteStep 7

/-- Step 8: paired, or going on alone; drive power begins STAGGER × 10 ms for each shelf before this one (R526, log entry 67). -/
def State.stepPaired (s : State) : State :=
  let s : State := if s.role = 0 && !s.pair.alone && s.isSet F.HAL_PAIR_CFG_SINGLE && s.boot.memBad != 1 then s.goAlone false else s
  if s.role = 0 && !s.pair.alone then s else
  let s := s.noteStep 8
  { s with stage := some (0, s.now + msU (10 * s.rd F.CTL_BOOT_CFG_STAGGER * (s.addr / 2))) }

/-- Step 12: the member records are read; a unit that starts without a partner is LONE, or HELD behind them (R552). -/
def State.stepMembers (s : State) (gen : Nat) : State :=
  let s := (s.updBoot fun b => { b with genSeen := gen }).noteStep 12
  if s.role = 0 && s.pair.alone && s.boot.memBad != 1 then (if s.gen < gen then s.enterHeld 3 else s.enterLone 3) else s

/-! ### Step 13: tally replay (R300 to R303, R520) -/

/-- Members of a group whose drive is enumerated. -/
def State.present (s : State) (g : Nat) : List Nat := (s.geo g).members.filter fun n => (s.slot n).drive.isSome

/-- Members of a group whose drive holds a valid member record of it. -/
def State.recorded (s : State) (g : Nat) : List Nat := (s.geo g).members.filter fun n =>
  (s.slot n).drive.any fun d => d.valid && d.slot == n && d.group == g

/-- Whether a configured group is blank: no drive of it holds a valid member record of any group (R519). -/
def State.blankGroup (s : State) (g : Nat) : Bool :=
  !(s.present g).isEmpty && !((s.present g).any fun n => (s.slot n).drive.any (·.valid))

/-- Groups configured. -/
def State.configuredGroups (s : State) : List Nat := (List.range 8).filter fun g => (s.group g).configured

/-- The tally is lost for groups (R303): event local 7; log-layout groups are scanned, fixed-layout namespaces patrolled. -/
def State.tallyLost (s : State) (l : List Nat) : State :=
  if l.isEmpty then s else
  let s := (s.wr F.JNL_STAT_LOST 1).raise 5 7 ERROR 4 ((l.map fun g => 2 ^ g).sum)
  l.foldl (fun (s : State) g =>
    let s : State := if s.nss.any fun n => n.group == g && n.fixed then s.updGroup g fun x => { x with priority := true, patrolled := [] } else s
    if s.nss.any fun n => n.group == g && !n.fixed then s.startScan g else s) s

/-- Without a valid control block in either copy no record of the ring is found (R303). -/
def State.dropTally (s : State) : State :=
  { s with
    tally := { s.tally with recs := [], cbTail := 4096 }, fixupds := []
    stripes := s.stripes.map fun x => { x with owed := 0, freeSent := x.freeSent && x.freeDurable } }

/-- Step 13 at the active. With every configured group blank and no valid control block JNL initialises the ring under a new
tally key (R520). -/
def State.stepReplay (s : State) (valid : Bool) (lost : List Nat) : State :=
  let cfg := s.configuredGroups
  let s : State := if !valid && cfg.all s.blankGroup then
      let (k, s) := s.draw .keyMaterial (2 ^ 256)
      let kgen := ((s.keyTab.find? fun x => x.slot == 16384).map (·.kgen + 1)).getD 1
      { s with
        tally := { Tally.cold with ringGen := s.tally.ringGen + 1 }
        keyTab := ⟨16384, kgen, 3, k⟩ :: s.keyTab.filter fun x => x.slot != 16384 }
    else if valid then s.tallyLost (lost.filter cfg.contains) else (s.dropTally).tallyLost cfg
  let todo := s.tally.recs.filter fun r => !r.durable
  let s := todo.foldl (fun (s : State) r => match r.body with
    | .fixIntent .. => s.updRec r.seq fun x => { x with durable := true, acked := true }
    | _ => s.recDurable r) s
  let s := s.redoInOrder
  (s.raise 5 6 INFO 3 (min (2 ^ 32 - 1) todo.length)).noteStep 13

/-! ### Step 14: mount (R277, R391, R515, R518, R519, R596, R597) -/

/-- A member of a group that mounts takes the state Table REB-2 and R518 give it: a configured slot without a drive leaves service as of
the time of the start. -/
def State.mountSlot (s : State) (g n : Nat) : State :=
  let x := s.slot n
  let gone := x.state == 0 || x.state == 4
  let away := fun (s : State) => if gone then s.enterWork g n else
    (s.failSlot n 2).updSlot n fun y => { y with absent := y.absent.map fun a => (a.1, a.2.1, if x.absent.isSome then a.2.2 else s.boot.startAt) }
  match x.drive with
  | none => if x.state = 2 && s.rdStat F.DRV_PSTAT_PRSNT n = 1 && s.rdStat F.DRV_PSTAT_REJECT n = 0 then s.settle n else away s
  | some d =>
    if d.valid && d.slot == n && d.group == g then
      if x.state = 7 || x.state = 1 then (s.putSlot n 1).settle n
      else if x.state = 3 then (s.enterWork g n).settle n
      else s.offer n d
    else
      let s : State := if gone then s else (((s.leaveService n).putSlot n 0).enterWork g n).lossScan g
      (s.settle n).offer n d

/-- The current member record of a group: the valid one with the highest MSEQ among those that carry its MEMBERS (R268). -/
def State.currentRecord (s : State) (g : Nat) : Option DriveRec :=
  (((s.present g).filterMap fun n => (s.slot n).drive).filter fun d => d.valid && d.group == g && d.members == s.memberBits g).foldl
    (fun (m : Option DriveRec) d => match m with | none => some d | some x => if x.mseq < d.mseq then some d else some x) none

/-- What a group takes from its member records at a first mount: rows from the current one, epoch and face sequence (R227, R268); a blank
group takes the rows of its smallest member. -/
def State.adoptGroup (s : State) (g : Nat) (blank : Bool) : State :=
  let ds := (s.present g).filterMap fun n => (s.slot n).drive
  let mine := ds.filter fun d => d.valid && d.group == g
  let small := (listMin (ds.map fun d => positions d.capacity)).getD 0
  let s := s.updSvy g fun x => { x with mseq := if blank then 0 else max x.mseq (listMax (mine.map (·.mseq))) }
  s.updGroup g fun x => { x with
    mounted := true
    rows := if blank then small else if x.rows = 0 then (match s.currentRecord g with | some d => d.rows | none => small) else x.rows
    epoch := if blank then 1 else max x.epoch (listMax (mine.map (·.epoch)))
    fseq := if blank then 0 else max x.fseq (listMax (mine.map (·.lastFseq))) }

/-- TRU draws KSR and wraps it for its own unit (R596). -/
def State.drawKsr (s : State) : State :=
  { s with tru := { s.tru with ksr := true, wraps := s.tru.wraps.set (s.rd F.CTL_BOOT_STAT_SLOT_B) (some s.fuses.dsn) } }

/-- A blank group is initialised (R519). -/
def State.initBlank (s : State) (g : Nat) : State :=
  let s := s.adoptGroup g true
  let s := (s.present g).foldl (fun (s : State) n => s.putSlot n 1) s
  let s := ((s.geo g).members.filter fun n => (s.slot n).drive.isNone).foldl (fun (s : State) n => s.failSlot n 2) s
  let s : State := if s.svyWrites then (s.writeAt g 4 g 0 0).writeAt g 3 g 0 0 else s
  let s := s.writeMember g
  let s : State := if s.isActive then ((s.wr F.CTL_BOOT_STAT_BLANK 1).raise 0 6 NOTICE 0x18 g) else s
  let s : State := if s.tru.ksr then s else s.drawKsr
  ((s.syncGroup g).syncHealth g).syncSvy g

/-- A group that holds records mounts: its root, the stripe-table tree and the system records are read, survey pages when they are needed (R277). -/
def State.mountGroup (s : State) (g : Nat) : State :=
  let s := s.adoptGroup g false
  let s := s.updObjs (fun o => o.group == g && 2 ≤ o.kind) fun o => { o with cached := true }
  let s := (s.geo g).members.foldl (fun (s : State) n => s.mountSlot g n) s
  let s : State := if (s.group g).objLost then s.startScan g else s
  ((s.syncGroup g).syncHealth g).syncSvy g

/-- Mount a configured group, or hold it out of service (R518, R519, R597). -/
def State.tryMount (s : State) (g : Nat) : State :=
  let x := s.geo g
  let lacking := fun (l : List Nat) => x.members.length - l.length
  let held := fun (s : State) => s.raise 0 6 NOTICE 0x14 g
  if (s.group g).mounted then s
  else if s.blankGroup g then
    if s.isSet F.CTL_BOOT_CFG_INIT_BLANK && lacking (s.present g) ≤ x.m then s.initBlank g else held s
  else if x.m < lacking (s.recorded g) then held s
  else if s.tru.ksr then s.mountGroup g else s

/-- What the members hold of groups this unit has not held (R277). -/
def State.adoptFound (s : State) (m : Mount) : State :=
  let s : State := { s with
    nss := m.nss, idents := m.idents, tenants := m.tenants, stripes := m.stripes, survey := m.survey, fixblks := m.fixblks
    keyTab := (m.nss.map fun n => ⟨n.nsid - 1, n.gen, 1, Config.keyed .keyMaterial [350, n.nsid, n.gen]⟩) ++ s.keyTab.filter fun k => k.slot = 16384 }
  (List.range 8).foldl (fun (s : State) g =>
    let s := s.recount g
    let used := ((s.nss.filter fun n => n.fixed && n.group == g).flatMap fun n => runRows n.rows).dedup
    match listMin used with
    | none => s
    | some lo => s.updGroup g fun x => { x with
        fixedRows := x.rows - lo, freeFixed := (List.range (x.rows - lo)).map (lo + ·) |>.filter fun r => !used.contains r }) s

/-- Whether step 14 waits for a slot (R518): a member of a configured group with a drive present, not rejected and not yet enumerated. -/
def State.mountWaits (s : State) (n : Nat) : Bool :=
  let x := s.slot n
  (s.group x.group).configured && (s.geo x.group).members.contains n && x.drive.isNone && s.rdStat F.DRV_PSTAT_PRSNT n == 1 &&
    s.rdStat F.DRV_PSTAT_REJECT n == 0 && !(x.state == 0 || x.state == 2 || x.state == 4)

/-- Load the initial identities at a shelf without an identity table (R515, R599). -/
def State.firstIdents (s : State) : State :=
  match s.boot.img with
  | none => s
  | some b =>
    if b.idents.isEmpty then s
    else if hasBit s.fuses.life 3 && !s.tru.blocked && b.idents.all (·.2) then { s with idents := b.idents.map (·.1) }
    else s.raise 1 11 NOTICE 8 0

/-- CTL enables the cache when it has room (R391). -/
def State.startCache (s : State) : State :=
  if s.rd F.MEM_RGN_CFGB_CACHE_GIB = 0 || s.isSet F.MEM_CACHE_CTL_EN then s else
  let s : State := { s with lines := [], sectors := [] }
  ((s.raise 4 13 INFO 0x0C 2).wr F.MEM_CACHE_CTL_INV_DONE 1).wr F.MEM_CACHE_CTL_EN 1

/-! ### Certificates (R591, R592) -/

/-- ASCII bytes of a text, and of a 64-bit number as 16 uppercase hexadecimal digits. -/
def ascii (t : String) : List Nat := t.toList.map Char.toNat
def hex64 (n : Nat) : List Nat := (List.range 16).map fun i => let d := n / 16 ^ (15 - i) % 16; if d < 10 then 48 + d else 55 + d

/-- The DIK: derived from DUS, the same at every start (R591). -/
def State.dik (s : State) : Nat := Config.keyed .keyMaterial [591, s.fuses.dus]

/-- Name that the last certificate of the chain section gives its subject; the section's content is not held (log entry 157). -/
def State.chainSubject (s : State) : List Nat :=
  [Config.keyed .certificate [585, ((s.boot.img.map fun (b : BankImg) => b.chainRoot).getD 0)]]

/-- The DIK certificate, rebuilt from its template (R591): notAfter is 99991231235959Z, keyUsage keyEncipherment (2) and keyCertSign (5). -/
def State.dikCert (s : State) : Cert :=
  { serial := s.fuses.dsn, issuer := s.chainSubject, notBefore := s.fuses.mfgDate, notAfter := 99991231235959
    subject := ascii "ZT-4880 " ++ hex64 s.fuses.dsn, key := s.dik, ca := true, pathLen := some 0, usage := [2, 5], ext := none, sig := s.fuses.certSig }

/-- The bytes that a certificate's signature covers, as the fields they code. -/
def Cert.fields (c : Cert) : List Nat :=
  [c.serial, c.issuer.length] ++ c.issuer ++ [c.notBefore, c.notAfter, c.subject.length] ++ c.subject ++
    [c.key, bit c.ca, (c.pathLen.map (· + 1)).getD 0, c.usage.length] ++ c.usage ++ [(c.ext.map (· + 1)).getD 0]

/-- The readable fuse fields of Table TRU-1. -/
def Fuses.readable (f : Fuses) : List Nat := f.fkh ++ [f.frevoke, f.life, f.fwSvn, f.ownSvn, f.dsn, f.mfgDate, f.vcore, f.ownerKey, f.certSig]

/-- Measurements 1 to 6 (Table TRU-6); raw ones as little-endian bytes. -/
def State.measurement (s : State) (i : Nat) : Option Nat :=
  match i with
  | 1 => some (Config.keyed .measurement [1])
  | 2 => some (Config.keyed .digest s.fuses.readable)
  | 3 => some (s.rd F.CTL_BOOT_STAT_BANK + 256 * s.rd F.CTL_BOOT_STAT_BOOT_SEL + 65536 * s.rd F.CTL_BOOT_STAT_OWNER +
      2 ^ 24 * s.rd F.TRU_STAT_DEBUG + 2 ^ 32 * s.fuses.life + 2 ^ 40 * bit (s.phase != 0) + 2 ^ 48 * s.rd F.TRU_STAT_TAMPER_CNT)
  | 4 => s.boot.img.map fun (b : BankImg) => b.fwDigest
  | 5 => s.boot.img.map fun (b : BankImg) => b.ownDigest
  | 6 => s.boot.img.map fun (b : BankImg) => b.fwSvn + 65536 * b.ownSvn + 2 ^ 32 * s.fuses.fwSvn + 2 ^ 48 * s.fuses.ownSvn
  | _ =>
    if 16 ≤ i && (s.benchAt (i - 16)).state != .off then (s.live.ucode.find? fun u => u.1 == i - 16).map (·.2) else none

/-- The AK is drawn and its certificate issued under the DIK (R592): 16 TRNG bytes as serial, the DIK subject followed by " AK",
digitalSignature (0), and the SHA-512 of measurements 1 to 6. What the spec does not give of the validity is a free value. -/
def State.issueAk (s : State) (k : Nat) : State :=
  let (serial, s) := s.draw .nonce (2 ^ 128)
  let d := Config.keyed .digest (592 :: (List.range 6).map fun i => (s.measurement (i + 1)).getD 0)
  let c : Cert := {
    serial := serial, issuer := s.dikCert.subject, notBefore := Config.keyed .unstated [592, 0], notAfter := Config.keyed .unstated [592, 1]
    subject := s.dikCert.subject ++ ascii " AK", key := k, ca := false, pathLen := none, usage := [0], ext := some d, sig := 0 }
  { s with tru := { s.tru with ak := some k, akCert := some { c with sig := Config.keyed .signature (s.dik :: c.fields) } } }

/-- Step 14, repeated for groups held out of service. -/
def State.stepMount (s : State) (envelope : Bool) (found : Option Mount) : State :=
  let s : State := match found with
    | some m => (s.configuredGroups.foldl (fun (s : State) g => if (s.group g).rows = 0 then
        (s.adoptGroup g false).updGroup g fun x => { x with mounted := false } else s) s).adoptFound m
    | none => s
  let fresh := s.configuredGroups.all s.blankGroup && s.idents.isEmpty && !s.configuredGroups.isEmpty
  let s : State := if envelope && !s.tru.blocked then { s with tru := { s.tru with ksr := true } } else s
  let s : State := if !s.tru.ksr && !(s.configuredGroups.all s.blankGroup) then s.raise 1 9 ERROR 6 0 else s
  let s := s.configuredGroups.foldl (fun (s : State) g => s.tryMount g) s
  if s.stepDone 14 then s else
  let s : State := if fresh && s.isActive then s.firstIdents else s
  s.startCache.noteStep 14

/-! ### The commands -/

/-- BOOT_STEP_END (R517, Tables BOOT-12 and TRU-2): a step ends when the steps it depends on have; with OWNER 2 none after 4. -/
def execBootStepEnd (e : BootEnd) (s : State) : Host.Outcome State Fault Refusal :=
  .next <|
    if s.boot.held.isSome || s.boot.stopped || !s.stepDone 1 then s else
    let first := fun (n : Nat) (pre : List Nat) => !s.stepDone n && pre.all s.stepDone && (n ≤ 4 || s.rd F.CTL_BOOT_STAT_OWNER != 2)
    match e with
    | .rom r f t => if first 2 [] then s.stepRom r f t else s
    | .bank => if first 3 [2] then s.stepBank else s
    | .settings l => if first 4 [3] then s.stepSettings l else s
    | .chain up dn => if first 5 [4] then (s.noteStep 5).chainStart up dn else s
    | .time => if first 6 [5] && s.addressed then s.stepTime else s
    | .memory ch => if first 7 [4] && s.boot.memBad = 0 then s.stepMemory ch else s
    | .paired => if first 8 [4] then s.stepPaired else s
    | .drives => if first 9 [8] && s.drvPowered then s.noteStep 9 else s
    | .perst => if first 10 [9] && s.ports.all fun p => p.perstAt.isNone then s.noteStep 10 else s
    | .regions => if first 11 [7] && s.rd F.MEM_STAT_READY = 0x7FFF then s.noteStep 11 else s
    | .members g => if first 12 [10] then s.stepMembers g else s
    | .replay v l => if first 13 [11, 12] && s.isActive then s.stepReplay v l else s
    | .mount env found =>
      let ready := if s.isActive then s.stepDone 13 else (s.role = 2 || s.role = 4) && s.stepDone 11 && s.stepDone 12
      if ready && (s.stepDone 14 || !(List.range 48).any s.mountWaits) then s.stepMount env found else s
    | .dik ok =>
      if s.stepDone 3 && s.rd F.TRU_STAT_STEP = 6 then
        let s := (s.wr F.TRU_STAT_STEP 7).wrB F.TRU_STAT_DIK_OK ok
        if ok then s else s.raise 1 8 ERROR 5 0
      else s
    | .ak =>
      if s.rd F.TRU_STAT_STEP = 7 then
        let (k, s) := s.draw .keyMaterial (2 ^ 4096)
        let s := s.issueAk k
        ((s.wr F.TRU_STAT_STEP 8).wr F.TRU_STAT_AK_OK 1).sendPairing
      else s

/-- MEMBER_WAIT_EXPIRY (R518): a member whose PWR_EN was set MEMBER_WAIT_S seconds ago is still not ready; step 14 goes on without it. -/
def execMemberWaitExpiry (slot : Nat) (s : State) : Host.Outcome State Fault Refusal :=
  .next <|
    if s.stepDone 9 && !s.stepDone 14 && s.mountWaits slot && s.due ((s.port slot).pwrAt + secU 1 * s.rd F.CTL_BOOT_CFG_MEMBER_WAIT_S) then
      s.suspectSlot slot 2 s.now
    else s

/-- TIME_WAIT_EXPIRY (R523). -/
def execTimeWaitExpiry (s : State) : Host.Outcome State Fault Refusal :=
  .next <|
    if s.tim.firstUpdatePending && s.tim.lastUpdate.isNone && !s.stepDone 15 && s.due (s.boot.step6At + secU 1 * s.rd F.CTL_BOOT_CFG_TIME_WAIT_S) then
      (s.raise 0 6 NOTICE 0x15 (s.rd F.TIM_SRC_CFG_SRC)).updTim fun t => { t with firstUpdatePending := false }
    else s

/-- SERVICE_START (R517, R523, R524): step 15 at the active. -/
def execServiceStart (s : State) : Host.Outcome State Fault Refusal :=
  .next <|
    if s.isActive && s.stepDone 14 && s.stepDone 6 && !s.stepDone 15 && (!s.tim.firstUpdatePending || s.tim.lastUpdate.isSome) then
      s.headStep.takeStep15
    else s

/-- STANDBY_SERVICE_START (R522): the active has reported its step 15. -/
def execStandbyServiceStart (s : State) : Host.Outcome State Fault Refusal :=
  .next (if s.role = 2 && s.stepDone 12 && s.stepDone 14 && !s.stepDone 15 then s.takeStep15 else s)

end Sys2Proof.Machine
end

