-- ==== Sys2Proof/Machine/Live.lean ====
section
/-!
DEFINITION. Machine/Live.lean: firmware download and commit (R564 to R566), live activation (R567 to R572), operator reloads
(R573), recalibration in service (R574, R575) and retirement (R577).
-/

namespace Sys2Proof.Machine

/-! ### Firmware Image Download and Firmware Commit (R564, R565) -/

/-- Bank of a firmware slot (R564). -/
def slotBank (slot : Nat) : Nat := slot - 1

/-- The bank a commit names: slot 0 with CA 000b or 001b is whichever of A and B is booted at neither unit. -/
def State.commitBank (s : State) (ca slot peerBooted : Nat) : Option Nat :=
  let booted := fun (b : Nat) => b == s.boot.bank || (s.paired && b == peerBooted)
  if 3 < slot then none
  else if ca ≤ 1 then
    if slot = 0 then [1, 2].find? fun b => !booted b
    else if slot = 1 || booted (slotBank slot) then none else some (slotBank slot)
  else if slot = 0 then none else some (slotBank slot)

/-- The fields of Table LIVE-3: home key and mask. -/
def fixedFields : List (Nat × Nat) :=
  let all := 2 ^ 32 - 1
  let fld := fun (f : Fld) => (f.key, 2 ^ (f.hi + 1) - 2 ^ f.lo)
  ((List.range 8).flatMap fun g => [((F.LAY_GCFG_GEOM g).key, all), ((F.LAY_GMEM_LO_SLOTS g).key, all), ((F.LAY_GMEM_HI_SLOTS g).key, all)]) ++
  [fld F.MEM_CFG_MAX_SPEED, (F.MEM_RGN_CFGA_STT_GIB.key, all), (F.MEM_RGN_CFGB_OVF_GIB.key, all), (F.SVY_CACHE_CFG_GIB.key, all),
   fld F.SVY_CFG_DLOG_PCT, (F.XPT_NRT_PORT_UDP_PORT.key, all), (F.SWC_STATION_LO_ADDR.key, all), (F.SWC_STATION_HI_ADDR.key, all),
   fld F.CMD_CFG_IOQ_DEPTH, (F.EPT_CFG_EN.key, all), (F.CTL_BOOT_CFG_STAGGER.key, all), fld F.HAL_PAIR_CFG_PREFER_B,
   fld F.HAL_PAIR_CFG_SINGLE]

/-- Whether a bank can be activated live at this unit (R567). -/
def State.liveOk (s : State) (img : BankImg) : Bool :=
  match s.boot.img with
  | none => false
  | some run =>
    (img.sections.all fun x => x.domain != 0 ||
      run.sections.any fun y => y.domain == 0 && y.type == x.type && y.target == x.target && y.compat == x.compat) &&
    (img.ssvid, img.ssid, img.sn, img.subnqn) == (run.ssvid, run.ssid, run.sn, run.subnqn) &&
    (s.ownSettings img.settings).all fun e => match s.settingKey e.1 with
      | some k => fixedFields.all fun f => f.1 != k || ((s.word k).toNat ^^^ e.1.value) &&& (e.1.mask &&& f.2) == 0
      | none => true

/-- The refusal of a commit, by the first matching row of Table LIVE-2; else the bank and the image it takes. -/
def State.commitCheck (s : State) (v : NvmeCmd) (ca : Nat) (x : CommitInfo) : Except Status (Nat × BankImg) :=
  match s.hasPriv v.ctl 2, s.commitBank ca (v.cdw10 % 8) x.peerBooted with
  | false, _ => .error St.denied
  | true, none => .error St.fwSlot
  | true, some b =>
    let img? := if ca ≤ 1 then (if s.live.pieces.isEmpty || s.imgDamaged then none else some x.img) else s.flash.banks[b]?
    match img? with
    | none => .error St.fwImage
    | some img =>
      let below := ca != 2 && ((s.boot.img.any fun r => img.fwSvn < r.fwSvn || img.ownSvn < r.ownSvn) || (s.paired && !x.peerSvnOk))
      if bankReject s.part s.fuses s.flash.bankSize img != 0 || (s.paired && !x.peerPasses) || below || (2 ≤ ca && s.paired && !x.peerSame) then .error St.fwImage
      else if ca = 3 && (!s.paired || !s.liveOk img || !x.peerLive) then .error St.fwReset
      else if s.live.commit.isSome || s.phase != 0 || s.draining || s.pair.resync.isSome then .error St.fwProhibited
      else .ok (b, img)

/-- The descriptor write that makes a bank PREFERRED goes to the copy that is not current, COUNT one above (R500). -/
def State.writeDesc (s : State) (bank : Nat) : State :=
  match s.flash.current with
  | some (i, c, _) => s.send (.flashDescriptor (1 - i) (c + 1) bank)
  | none => s.send (.flashDescriptor 0 1 bank)

/-- What a Firmware Commit does once its command is there (Table LIVE-1, R572). -/
def State.commitGo (s : State) (id : Nat) (v : NvmeCmd) (ca : Nat) (x : CommitInfo) : State :=
  match s.commitCheck v ca x with
  | .error st => s.finish id 0 st
  | .ok (b, img) =>
    let n := if s.paired then 2 else 1
    let s := s.updLive fun l => { l with
      commit := some {
      cmd := id, ca := ca, bank := b, img := img, writes := if ca ≤ 1 then n else 0, descs := if ca = 0 then 0 else n,
      reads := if ca = 3 then n else 0 } }
    if ca ≤ 1 then s.send (.flashBank b)
    else if ca = 2 then s.writeDesc b
    else ((s.wr F.CTL_LIVE_STAT_PHASE 1).noticeAll (fun _ => true) 2 1 3).raise 0 7 INFO 0x20 (b + 1)

/-- A Firmware Commit with its CA; one that came in a capsule already waits in flight (log entry 68). -/
def State.commitCmd (s : State) (v : NvmeCmd) (ca : Nat) (x : CommitInfo) : State :=
  let v := { v with opc := 0x10, cdw10 := v.cdw10 % 8 + 8 * ca }
  match s.cmds.find? fun c => c.nv.ctl == v.ctl && c.nv.qid == 0 && c.nv.cid == v.cid && c.nv.opc == 0x10 && c.result.isNone with
  | some c => if s.live.commit.any fun k => k.cmd == c.id then s else s.commitGo c.id v ca x
  | none => s.admin v fun c s => s.commitGo c.id v ca x

/-- FIRMWARE_COMMIT_WRITE (R564). -/
def execFirmwareCommitWrite (v : NvmeCmd) (x : CommitInfo) (s : State) : Host.Outcome State Fault Refusal := .next (s.commitCmd v 0 x)

/-- FIRMWARE_COMMIT_WRITE_PREFER (R564). -/
def execFirmwareCommitWritePrefer (v : NvmeCmd) (x : CommitInfo) (s : State) : Host.Outcome State Fault Refusal := .next (s.commitCmd v 1 x)

/-- FIRMWARE_COMMIT_PREFER (R564). -/
def execFirmwareCommitPrefer (v : NvmeCmd) (x : CommitInfo) (s : State) : Host.Outcome State Fault Refusal := .next (s.commitCmd v 2 x)

/-- FIRMWARE_COMMIT_ACTIVATE (R569, R572). -/
def execFirmwareCommitActivate (v : NvmeCmd) (x : CommitInfo) (s : State) : Host.Outcome State Fault Refusal := .next (s.commitCmd v 3 x)

/-! ### The flash (R564, R569) -/

/-- Change the commit in progress. -/
def State.updCommit (s : State) (f : FwCommit → FwCommit) : State := s.updLive fun l => { l with commit := l.commit.map f }

/-- The commit ends with a status. -/
def State.commitEnd (s : State) (st : Status) : State :=
  match s.live.commit with
  | none => s
  | some c =>
    let s := s.updLive fun l => { l with commit := none, pieces := if c.ca ≤ 1 then [] else l.pieces }
    if (s.cmd? c.cmd).isSome && s.isActive then s.finish c.cmd 0 st else s

/-- A live activation is complete at this unit (R569 step 6, R572): the unit that is active posts the completion. -/
def State.liveEnd (s : State) (c : FwCommit) : State :=
  let s := (s.nameBank c.bank c.img).wr F.CTL_LIVE_STAT_PHASE 0
  let s := s.updLive fun l => { l with fresh := [], plan := [] }
  let s : State := if s.isActive then s.raise 0 7 INFO 0x21 (c.bank + 1) else s
  s.commitEnd St.ok

/-- A bank is written and read back; a bank that does not read back ends the commit. -/
def State.bankWritten (s : State) (partner ok : Bool) : State :=
  match s.live.commit with
  | none => s
  | some c =>
    if c.writes = 0 then s
    else if !ok then s.commitEnd St.internal
    else
      let s : State := if partner then s else { s with flash := { s.flash with banks := s.flash.banks.set c.bank c.img } }
      let s := s.updCommit fun c => { c with writes := c.writes - 1 }
      if 1 < c.writes then s else if c.descs = 0 then s.commitEnd St.ok else s.writeDesc c.bank

/-- This unit's descriptor is written: the copy that was not current holds the bank. -/
def State.putDesc (s : State) (bank : Nat) : State :=
  let (i, n) := match s.flash.current with
    | some (i, n, _) => (1 - i, n + 1)
    | none => (0, 1)
  { s with flash := { s.flash with desc := s.flash.desc.set i (some (n, bank)) } }

/-- A descriptor is written at this unit or at the partner. -/
def State.descWritten (s : State) (partner : Bool) : State :=
  match s.live.commit with
  | none => s
  | some c =>
    if c.descs = 0 || 0 < c.writes || (c.ca = 3 && s.phase != 5) then s else
    let s : State := if partner then s else s.putDesc c.bank
    let s := s.updCommit fun c => { c with descs := c.descs - 1 }
    if c.ca = 3 then (if s.isActive && 1 < c.descs || !s.isActive && partner then s else s.liveEnd c)
    else if 1 < c.descs then s else s.commitEnd St.ok

/-- A bank is read into the activation buffer (R569 step 1): at the unit that took the commit, both reads begin the reloads at its
standby; at the standby they begin. -/
def State.bankRead (s : State) (partner ok : Bool) (bank : Nat) : State :=
  match s.live.commit with
  | some c =>
    if s.phase != 1 || c.reads = 0 then s
    else if !ok then s.abandonLive 1
    else
      let s := s.updCommit fun c => { c with reads := c.reads - 1 }
      if c.reads = 1 then s.wr F.CTL_LIVE_STAT_PHASE 2 else s
  | none =>
    if partner || !ok || s.halRole != 2 || s.phase != 0 then s else
    match s.flash.banks[bank]? with
    | none => s
    | some img =>
      let id := ((s.cmds.find? fun c => c.nv.qid == 0 && c.nv.opc == 0x10).map (·.id)).getD s.nextCmd
      let s := s.updLive fun l => { l with commit := some { cmd := id, ca := 3, bank := bank, img := img, writes := 0, descs := 2, reads := 0 } }
      (s.wr F.CTL_LIVE_STAT_PHASE 2).liveStart

/-- FLASH_WRITE_DONE (R564, R569). -/
def execFlashWriteDone (e : FlashEnd) (s : State) : Host.Outcome State Fault Refusal :=
  .next <|
    match e with
    | .bank p ok => s.bankWritten p ok
    | .descriptor p => s.descWritten p
    | .read p ok b => s.bankRead p ok b

/-! ### Reloads (R568 to R573) -/

/-- The partner reports the end of a reload, which ends a hold, and with its last reload moves the activation on to the handover or to
the descriptors (R569, R570). -/
def State.partnerReloaded (s : State) (ok last : Bool) : State :=
  let s := s.endHold
  if s.phase = 0 || s.phase = 6 || !s.isActive then s
  else if !ok then s.abandonLive 1
  else if !last then s
  else if s.phase = 2 then (s.wr F.CTL_LIVE_STAT_PHASE 3).startHandover true
  else if s.phase = 4 then
    match s.live.commit with
    | some c => (s.wr F.CTL_LIVE_STAT_PHASE 5).writeDesc c.bank
    | none => s
  else s

/-- Whether a RELOAD order is carried out (R573). -/
def State.reloadOk (s : State) (b : Nat) : Bool :=
  s.phase = 0 && s.partBenches.contains b && !(s.live.busy.any fun x => x.1 == b) &&
    match classInst b with
    | some _ => (s.benchAt b).state == .faulted || (s.benchAt b).state == .spare
    | none => b != 1 && s.halRole = 2

/-- An order is refused. -/
def State.refuseLive (s : State) : State := s.wr F.CTL_LIVE_STAT_REFUSED 1

/-- A write of CTL_LIVE_CMD.RELOAD. A rotation onto the spare to be reloaded is given up. -/
def State.reloadOrder (s : State) (b : Nat) : State :=
  if !s.reloadOk b then s.refuseLive else
  match classInst b with
  | some (c, i) =>
    let s : State := if (s.rotAt c).busy.any fun x => x.2.1 == i then s.abandonRotation c else s
    s.startReload b false
  | none => s.reloadSingleton b false

/-- CTL_LIVE_RELOAD (R573). -/
def execCtlLiveReload (bench : Nat) (s : State) : Host.Outcome State Fault Refusal := 
  .next (s.atWindow 0 0x5008 (256 + bench) 0x13F fun s => s.reloadOrder bench)

/-- A write of CTL_LIVE_CMD.RETIRE (R577), the active's acknowledgment included (log entry 69): heartbeats stop, the slots' outputs
and the endpoint return to their reset state. -/
def State.retireOrder (s : State) : State :=
  if s.halRole != 2 then s.refuseLive else
  let s := (s.haulSend 3).send .retire
  let s := s.updPair fun p => { p with retired := true, hello := none }
  let s := (List.range s.slotCount).foldl (fun (s : State) n => (s.holdPerst n).setOut n 1 false) s
  (s.epLinkReset.wr F.EPT_STAT_LINK_UP 0).raise 0 8 NOTICE 0x27 0

/-- CTL_LIVE_RETIRE (R577). -/
def execCtlLiveRetire (s : State) : Host.Outcome State Fault Refusal := 
  .next (s.atWindow 0 0x5008 0x10000 0x10000 fun s => s.retireOrder)

/-! ### Recalibration (R574, R575) -/

/-- Set the core supply's target over AVSBus. -/
def State.setAvs (s : State) (mv : Nat) : State := (s.wr F.CTL_AVS_STAT_MV mv).send (.avs mv)

/-- AVS_TIMER (R575): whether a monitor shows less than its margin, whether every one exceeds it by the hysteresis, and whether
AVSBus answers. -/
def execAvsTimer (low above answers : Bool) (s : State) : Host.Outcome State Fault Refusal :=
  .next <|
    if !s.isSet F.CTL_LIVE_CFG_AVS_EN || !s.stepDone 4 || !s.due (s.live.avsAt + msU 100) then s else
    let mv := s.rd F.CTL_AVS_STAT_MV
    let s := (s.updLive fun l => { l with avsAt := s.now }).wrB F.CTL_AVS_STAT_LOW_MARGIN low
    if !answers then (s.wr F.CTL_AVS_STAT_AVS_FAIL 1).raise 0 8 ERROR 0x28 mv
    else
      let s := (s.wr F.CTL_AVS_STAT_AVS_FAIL 0).wrB F.CTL_AVS_STAT_AT_MAX (low && 820 ≤ mv)
      if low && 820 ≤ mv then
        if s.live.maxNotice.any fun t => s.now < t + minU 1 then s
        else (s.raise 0 8 NOTICE 0x24 mv).updLive fun l => { l with maxNotice := some s.now }
      else if low then (s.setAvs (min 820 (mv + 5))).updLive fun l => { l with stepUpAt := some s.now }
      else if above && !(s.live.stepUpAt.any fun t => s.now < t + secU 1) && 680 < mv then s.setAvs (max 680 (mv - 5))
      else s

/-- HAUL_RECAL_TIMER (R574): a half is retrained while the other carries its traffic; it returns by HAUL_HALF_UP. -/
def execHaulRecalTimer (half : Nat) (s : State) : Host.Outcome State Fault Refusal :=
  .next <|
    let h := s.rd F.CTL_LIVE_CFG_HAUL_RECAL_H
    if half < 2 && h != 0 && s.halfUp half && s.halfUp (1 - half) && s.phase = 0 && !s.draining && s.pair.resync.isNone && s.halRole != 4
        && s.due ((s.half half).recalAt + hourU h) then
      ((s.updHalf half fun x => { x with recalAt := s.now }).halfOut half).raise 0 8 INFO 0x26 half
    else s

/-- MEM_RETRAIN_TIMER (R574): a rank is retrained when its period has passed, or its tracking drift exceeds 1/8 UI. -/
def execMemRetrainTimer (channel rank : Nat) (drift : Bool) (s : State) : Host.Outcome State Fault Refusal :=
  .next <|
    let m := s.rd F.CTL_LIVE_CFG_MEM_RETRAIN_MIN
    let last := ((s.live.rankAt.find? fun x => x.1 == channel && x.2.1 == rank).map (·.2.2)).getD 0
    if s.stepDone 7 && channel < s.memChannels && rank < 4 && (drift || (m != 0 && s.due (last + minU m))) then
      (s.updLive fun l => { l with rankAt := (channel, rank, s.now) :: l.rankAt.filter fun x => !(x.1 == channel && x.2.1 == rank) }).raise
        0 8 INFO 0x25 (channel + 16 * rank)
    else s

/-- MEM_ZQ_TIMER (R574): ZQ calibration and DQS tracking of a rank, within refresh: no effect on service but time. -/
def execMemZqTimer (channel rank : Nat) (s : State) : Host.Outcome State Fault Refusal :=
  .next (if s.stepDone 7 && channel < s.memChannels && rank < 4 then s.updLive fun l => { l with zqAt := s.now } else s)

/-- TIME_ALIGN_TIMER (R38, R574): every 1 s the marker paths are measured; what is found of a bench out of lock is taken up by
slewing from then on, without a step. -/
def execTimeAlignTimer (dev : List (Nat × Int)) (s : State) : Host.Outcome State Fault Refusal :=
  .next <|
    if !s.due (s.live.alignAt + secU 1) then s else
    dev.foldl (fun (s : State) d =>
      if s.inLock d.1 then s else
      let t := s.localTime d.1
      s.updBench d.1 fun x => { x with deviation := clampDev d.2, foundAt := s.now, localMin := t })
      (s.updLive fun l => { l with alignAt := s.now })

end Sys2Proof.Machine
end

