-- ==== Sys2Proof/Machine/Latch.lean ====
section
/-!
DEFINITION. Machine/Latch.lean: the shot time (R58, R60 to R64) and what follows a shot: the metering copy (R219), the save of the
counter sets (R220) and the release of empty tenants (R218).
-/

namespace Sys2Proof.Machine

/-- The copy of every counter set into the metering snapshot region (R219), when the region is available. -/
def State.meterCopy (s : State) (time seq : Nat) : State :=
  if !hasBit (s.rd F.MEM_STAT_READY) 5 then s else
  { s with
    msnapBad := []
    msnap := some {
      time := time, seq := seq
      ns := s.nss.map fun n => (n.nsid, n.tenant, n.meter, n.gap)
      tenants := s.tenantIds.map fun t => (t, s.tenantMeter t, (s.nss.filter fun n => n.tenant == t).length,
        (s.nss.any fun n => n.tenant == t && n.gap) || s.tenants.any fun x => x.id == t && x.gap) } }

/-- A tenant without a namespace keeps its retired set until a shot at least 24 h later (R218). -/
def State.releaseTenants (s : State) (time : Nat) : State :=
  { s with tenants := s.tenants.filter fun t => !(t.emptySince.any fun e => e + hourU 24 ≤ time) }

/-- A shot fires (R60, R63, R64): LPI time so far is counted (R445), every bench in service latches, in order of bench ID; the shot is held while HOLD is 1 (R58). -/
def State.fireShot (s : State) (x : Shot) : State :=
  let old := s.rd F.TIM_SHOT_SEQ
  let seq := if old = 2 ^ 32 - 1 then 1 else old + 1
  let s := (List.range 32).foldl (fun (s : State) m => s.lpiAccrue m) s
  let s := (List.range 57).foldl (fun (s : State) b => s.latchBench b seq x.time x.causes) s
  let s := (s.wr F.TIM_SHOT_SEQ seq).wr64 F.TIM_SHOT_TRIG_LO F.TIM_SHOT_TRIG_HI (if x.scheduled then x.time else x.trigger)
  let s := s.updTim fun t => { t with
    fired := x.time :: t.fired.filter fun f => s.now < f + usU 10
    shotOut := true, shotOutRise := x.time }
  let s : State := if s.isSet F.TIM_SHOT_CFG_HOLD then s.wr F.TIM_SHOT_STAT_HELD 1 else s
  let s := s.raise 2 8 INFO 5 seq
  ((s.meterCopy x.time seq).saveMeters).releaseTenants x.time

/-- SHOT_TIME_REACHED (R58, R60, R62): the accepted shot whose time has come, the earliest first; it is removed unlatched while a
shot is held; then the rebindings it deferred take place. -/
def execShotTimeReached (s : State) : Host.Outcome State Fault Refusal :=
  .next <|
    match listMin ((s.tim.shots.filter fun x => s.due x.time).map (·.time)) with
    | none => s
    | some t => match s.tim.shots.find? fun x => x.time == t with
      | none => s
      | some x =>
        let s := (s.updTim fun y => { y with shots := y.shots.filter fun z => z.time != t }).syncPending
        (if s.isSet F.TIM_SHOT_STAT_HELD then s.refuseShot 3 else s.fireShot x).runDeferred

end Sys2Proof.Machine
end

