-- ==== Sys2Proof/Machine/Trust.lean ====
section
/-!
DEFINITION. Machine/Trust.lean: TRU (21): security versions (R587), tokens (R588 to R590), the pairing exchange (R596 to R598),
tamper, TRNG and thermal holds (R586, R603, R650), the JTAG port (R600) and SPDM (R593, R594).
-/

namespace Sys2Proof.Machine

/-- Change TRU. -/
def State.updTru (s : State) (f : Tru → Tru) : State := { s with tru := f s.tru }

/-- Whether TRU takes commands: out of reset, the start not stopped, the fuses read (Table TRU-2). -/
def State.truRuns (s : State) : Bool := s.boot.held.isNone && !s.boot.stopped && s.stepDone 2

/-! ### Security versions (R587) -/

/-- A write of TRU_CTL.SVN_COMMIT. -/
def State.svnCommit (s : State) : State :=
  if !s.truRuns then s else
  match s.boot.img with
  | none => s.wr F.TRU_STAT_CMD_REFUSED 1
  | some b =>
    if !s.stepDone 15 || s.boot.bank != s.flash.preferred || s.phase != 0 || s.rd F.CTL_BOOT_STAT_OWNER = 2 then s.wr F.TRU_STAT_CMD_REFUSED 1
    else
      let fw := max s.fuses.fwSvn (min 64 b.fwSvn)
      let own := max s.fuses.ownSvn (min 64 b.ownSvn)
      ({ s with fuses := { s.fuses with fwSvn := fw, ownSvn := own } }).raise 1 6 NOTICE 3 (fw + 65536 * own)

/-- TRU_SVN_COMMIT (R587). -/
def execTruSvnCommit (s : State) : Host.Outcome State Fault Refusal := .next s.svnCommit

/-! ### Tokens (R588 to R590) -/

/-- TRU zeroises every key of Table TRU-7 but DUS. The entries of the key table lose KCW, under which they are wrapped; members keep
their keys wrapped under KSR (R595). -/
def State.zeroiseKeys (s : State) : State :=
  { s with
    keyTab := s.keyTab.filter fun k => k.slot ≤ 16384
    cips := s.cips.map fun x => { x with cache := [], loads := [] }
    tru := { s.tru with ksr := false, kcw := none, memKey := none, ak := none, akCert := none, pairNonce := none } }

/-- A debug level is entered (R600, R601): before level 2 every key is zeroised, a controller fault declared and derivations blocked. -/
def State.enterDebug (s : State) (level : Nat) : State :=
  let s : State := if level = 2 then (s.zeroiseKeys.controllerFault).updTru fun t => { t with blocked := true } else s
  (s.wr F.TRU_STAT_DEBUG (max level (s.rd F.TRU_STAT_DEBUG))).raise 1 12 NOTICE 9 level

/-- Code 1 of Table TRU-4: MAGIC, KIND, PARAM or a zero field wrong (Table TRU-3, R504). -/
def tokenLayoutOk (a : Nat) : Bool :=
  let kind := bytesAt a 4 1
  let param := bytesAt a 5 1
  let paramOk := if kind = 1 then param < 4 else if kind = 2 then param == 1 || param == 2 else if kind = 3 then param == 0
    else kind == 4 && param &&& 6 == param
  bytesAt a 0 4 == 0x4B54545A && paramOk && bytesAt a 6 2 == 0 && (kind == 2 || kind == 3 || bytesAt a 16 32 == 0) &&
    (kind == 3 || bytesAt a 48 512 == 0) && bytesAt a 560 464 == 0 && bytesAt a 1036 4 == 0 && bytesAt a 2064 496 == 0

/-- Code 2: the signer's kind for the KIND, its key matching an unrevoked fuse (R504). A level 2 token is the owner's first, then
Fornor's. -/
def State.tokenSigner (s : State) (a : Nat) : Bool :=
  let hash := Config.keyed .digest [bytesAt a 1032 520]
  let fornor := bytesAt a 4 1 = 1 || (bytesAt a 4 1 = 2 && bytesAt a 5 1 = 2 && s.tru.level2)
  if fornor then bytesAt a 1024 4 == 1 && s.fuses.fornorKey (bytesAt a 1028 4) hash
  else bytesAt a 1024 4 == 2 && s.fuses.ownerKey != 0 && s.fuses.ownerKey == hash

/-- Code 3: the signature under R584, over bytes 0 to 1,023, by a key of exactly 4,096 bits and exponent 65,537. -/
def tokenSigned (a : Nat) : Bool :=
  bytesAt a 1032 4 == 65537 && 128 ≤ bytesAt a 1040 1 &&
    Config.keyed .signature [584, bytesAt a 1040 512, bytesAt a 0 1024, bytesAt a 1552 512] % 2 == 1

/-- Code 6: what a token of its KIND may not do. -/
def State.tokenForbidden (s : State) (a : Nat) : Bool :=
  let j := bytesAt a 5 1
  match bytesAt a 4 1 with
  | 1 => bytesAt a 1028 4 == j || (List.range 4).all fun i => i == j || hasBit s.fuses.frevoke i
  | 2 => hasBit s.fuses.life (if j = 1 then 2 else 1)
  | 3 => hasBit s.fuses.life 3
  | _ => false

/-- The seed a KIND 3 token carries, when it decrypts under the DIK: a function of the payload and DUS that nothing constrains. -/
def State.tokenSeed (s : State) (a : Nat) : Option Nat :=
  let x := [8017, s.fuses.dus, bytesAt a 48 512]
  if Config.keyed .keyMaterial x % 2 = 1 then some (Config.keyed .random x % 2 ^ 256) else none

/-- The result of a token (Table TRU-4): the first failing code, 0 on acceptance. -/
def State.tokenResult (s : State) (a : Nat) : Nat :=
  let kind := bytesAt a 4 1
  let dsn := bytesAt a 8 8
  if !tokenLayoutOk a then 1
  else if !s.tokenSigner a then 2
  else if !tokenSigned a then 3
  else if dsn != s.fuses.dsn && !(kind == 1 && dsn == 0) then 4
  else if (kind == 2 || kind == 3) && s.tru.nonce != some (bytesAt a 16 32) then 5
  else if s.tokenForbidden a then 6
  else if kind == 3 && (s.tokenSeed a).isNone then 7
  else 0

/-- What an accepted token does (Table TRU-4). -/
def State.tokenDo (s : State) (a : Nat) : State :=
  let p := bytesAt a 5 1
  let burn := fun (bits : Nat) => { s.fuses with life := s.fuses.life ||| bits }
  match bytesAt a 4 1 with
  | 1 => { s with fuses := { s.fuses with frevoke := s.fuses.frevoke ||| 2 ^ p } }
  | 2 => if p = 1 then s.enterDebug 1 else if s.tru.level2 then s.enterDebug 2 else s
  | 3 => { s with fuses := { burn 8 with ownerSeed := (s.tokenSeed a).getD 0 } }
  | 4 => { s with fuses := burn p }
  | _ => s

/-- A write of TRU_TOKEN_CMD.GO (R589): the token area is evaluated; the nonce is consumed but for an accepted owner token of
level 2, which leaves it current for one further evaluation. -/
def State.tokenGo (s : State) : State :=
  if !s.truRuns then s else
  let a := s.tru.token
  let r := s.tokenResult a
  let first := r = 0 && bytesAt a 4 1 = 2 && bytesAt a 5 1 = 2 && !s.tru.level2
  let s : State := if r = 0 then s.tokenDo a else s
  let s := s.updTru fun t => if first then { t with level2 := true } else { t with level2 := false, nonce := none }
  (s.wr F.TRU_TOKEN_CMD_RESULT r).raise 1 7 NOTICE 4 (bytesAt a 4 1 + 256 * r)

/-- A token of a KIND placed in the token area and evaluated. -/
def State.tokenOf (s : State) (kind area : Nat) : State := (s.updTru fun t => { t with token := spliceAt area 4 1 kind }).tokenGo

/-- TOKEN_REVOKE (R588). -/
def execTokenRevoke (area : Nat) (s : State) : Host.Outcome State Fault Refusal := .next (s.tokenOf 1 area)

/-- TOKEN_DEBUG_UNLOCK (R589, R600, R601). -/
def execTokenDebugUnlock (area : Nat) (s : State) : Host.Outcome State Fault Refusal := .next (s.tokenOf 2 area)

/-- TOKEN_OWNER_SEED (R589). -/
def execTokenOwnerSeed (area : Nat) (s : State) : Host.Outcome State Fault Refusal := .next (s.tokenOf 3 area)

/-- TOKEN_DEBUG_DISABLE (R589). -/
def execTokenDebugDisable (area : Nat) (s : State) : Host.Outcome State Fault Refusal := .next (s.tokenOf 4 area)

/-- A read of TRU_NONCE0: a nonce is drawn when none is current (R590). -/
def State.nonceDraw (s : State) : State :=
  if !s.truRuns || s.tru.nonce.isSome then s else
  let (n, s) := s.draw .nonce (2 ^ 256)
  s.updTru fun t => { t with nonce := some n }

/-- TRU_NONCE_READ (R590): word 0 is returned. -/
def execTruNonceRead (s : State) : Host.Outcome State Fault Refusal :=
  .next (let s := s.nonceDraw; s.send (.value (s.tru.nonce.getD 0 % 2 ^ 32)))

/-! ### Tamper, TRNG and thermal holds -/

/-- What TRU has buffered enters the log before a hold (log entry 70). -/
def State.flushTruEvents (s : State) : State :=
  let b := s.benchAt 1
  (b.evBuf ++ b.evStalled).foldl (fun (s : State) r => s.logRecord r) (s.updBench 1 fun x => { x with evBuf := [], evStalled := [] })

/-- GOODBYE goes out on both heartbeat paths, and a controller fault stands declared (R549). -/
def State.goodbyeNow (s : State) : State := if s.faultDeclared then s.send .goodbye else s.controllerFault

/-- TAMPER_TRIP (R602, R603): GOODBYE, keys zeroised, the FATAL record, the hold in reset. -/
def execTamperTrip (cause : Nat) (s : State) : Host.Outcome State Fault Refusal :=
  .next <|
    if cause < 1 || 5 < cause then s else
    let s := s.goodbyeNow.zeroiseKeys.raise 1 4 FATAL 1 cause
    let s := (s.wr F.TRU_STAT_TAMPER_CAUSE cause).wr F.TRU_STAT_TAMPER_CNT (min 3 (s.rd F.TRU_STAT_TAMPER_CNT + 1))
    s.flushTruEvents.holdReset 4

/-- TRNG_HEALTH_FAIL (R586): before the benches run it stops the start; after that the controller is faulted. -/
def execTrngHealthFail (s : State) : Host.Outcome State Fault Refusal :=
  .next <|
    if s.boot.held.isSome || !s.stepDone 1 then s
    else if !s.stepDone 3 then s.stopStart 3
    else (s.wr F.TRU_STAT_STOP 3).raise 1 5 FATAL 2 0

/-- THERMTRIP (R650): THERMTRIP_N low, GOODBYE, the hold in reset until PWRGOOD goes low. -/
def execThermtrip (s : State) : Host.Outcome State Fault Refusal :=
  .next ((s.updTru fun t => { t with trip := true }).goodbyeNow.holdReset 5)

/-- JTAG_INSTRUCTION_LOAD (R600): EXTEST and INTEST act as RESET_N low while loaded; the others touch no state of the block. -/
def execJtagInstructionLoad (i : JtagIns) (s : State) : Host.Outcome State Fault Refusal :=
  .next <|
    if i = .extest || i = .intest then ((s.updTru fun t => { t with jtag := true }).holdReset 1)
    else s.updTru fun t => { t with jtag := false }

/-! ### The pairing exchange (R596, R598, R648) -/

/-- The haul keys of an exchange: 128 bytes of HKDF over both nonces, A's first, and the shared secret, which nothing constrains. -/
def haulKeys (nonceA nonceB secret : Nat) : List Nat := (List.range 4).map fun i => Config.keyed .keyMaterial [598, nonceA, nonceB, secret, i] % 2 ^ 256

/-- A checked message completes the exchange at this unit. -/
def State.pairingDone (s : State) (m : PairMsg) : State :=
  let s := s.sendPairing
  let own := s.tru.pairNonce.getD 0
  let isB := s.rd F.CTL_BOOT_STAT_SLOT_B = 1
  let keys := if isB then haulKeys m.nonce own m.pub else haulKeys own m.nonce m.pub
  let s := keys.zipIdx.foldl (fun (s : State) k =>
    let kgen := ((s.keyTab.find? fun x => x.slot == 16385 + k.2).map (·.kgen + 1)).getD 1
    s.setHaulKey (16385 + k.2) kgen k.1) s
  let again := s.pair.exchanged
  let s := (s.updPair fun p => { p with exchanged := true }).updTru fun t => { t with pairNonce := none }
  let s : State := if s.tru.ksr && !m.ksr then
      ((s.haulSend 3).send .ksr).updTru fun t => { t with wraps := t.wraps.set m.slotB (some m.dsn) }
    else if !s.tru.ksr && m.ksr && !s.tru.blocked then
      s.updTru fun t => { t with ksr := true, wraps := t.wraps.set (if isB then 1 else 0) (some s.fuses.dsn) }
    else s
  if again then s else s.sendHello

/-- PAIRING_MESSAGE (R598): the peer's message is checked; the same SLOT_B as this unit's holds both units (R648), any other failure
counts as a HELLO with a different digest. -/
def execPairingMessage (m : PairMsg) (s : State) : Host.Outcome State Fault Refusal :=
  .next <|
    if s.rd F.TRU_STAT_STEP != 8 then s
    else if m.slotB == s.rd F.CTL_BOOT_STAT_SLOT_B then (s.raise 1 10 ERROR 7 m.slotB).enterHeld 0
    else if !m.certsOk || m.ownerKey != s.fuses.ownerKey then
      let s := s.raise 1 10 ERROR 7 m.slotB
      if s.role = 0 && !s.pair.alone then
        s.digestDiffers { slotB := m.slotB, role := s.rd F.HAL_PAIR_STAT_PEER_ROLE, gen := s.pair.peerGen, formatOk := true, digest := 0 } 1
      else s
    else s.pairingDone m

/-! ### SPDM (R593, R594); its message codes are those of DSP0274 (log entry 71) -/

/-- Whether MCTP path p carries messages (Table MGT-4). -/
def State.pathUp (s : State) (p : Nat) : Bool :=
  s.boot.held.isNone && !s.boot.stopped &&
    match p with
    | 0 => s.stepDone 3 && s.isSet (F.CHN_SMB_CFG_EN 0)
    | 1 => s.stepDone 4 && s.isSet (F.CHN_SMB_CFG_EN 1)
    | 2 => s.isSet F.EPT_STAT_LINK_UP
    | _ => false

/-- EID of a path. -/
def State.eid (s : State) (p : Nat) : Nat := s.mgt.eids.getD p 0

/-- Answer an SPDM request; an ERROR carries its code. -/
def State.spdmSay (s : State) (p code : Nat) (data : List Nat) : State := s.send (.spdm p code data)

/-- SPDM ERROR. -/
def State.spdmError (s : State) (p code : Nat) : State := s.spdmSay p 0x7F [code]

/-- How far a path's SPDM negotiation has come: 1 version, 2 capabilities, 3 algorithms. -/
def State.spdmAt (s : State) (p : Nat) : Nat := ((s.tru.spdm.find? fun x => x.1 == p).map (·.2)).getD 0

/-- Set a path's negotiation state. -/
def State.spdmTo (s : State) (p n : Nat) : State := s.updTru fun t => { t with spdm := (p, n) :: t.spdm.filter fun x => x.1 != p }

/-- Answer a request on a path: denied, not ready before step 8 of Table TRU-2, out of order, or as f gives. -/
def State.spdmAsk (s : State) (p least : Nat) (f : State → State) : State :=
  if !s.pathUp p || s.eid p = 0 then s
  else if !s.isSet (F.CTL_MGT_PATH_SPDM p) then s.spdmError p 4
  else if s.rd F.TRU_STAT_STEP != 8 then s.spdmError p 0x42
  else if s.spdmAt p < least then s.spdmError p 4
  else f s

/-- TRU signs one response under the AK, at most 4 queued at a time, 45 ms each (R584, R593). -/
def State.spdmSign (s : State) (p code : Nat) (data : List Nat) : State :=
  let q := s.tru.sigs.filter fun t => s.now < t
  if 4 ≤ q.length then s.spdmError p 3 else
  let t := max s.now (listMax q) + msU 45
  (s.updTru fun x => { x with sigs := q ++ [t] }).spdmSay p code (data ++ [Config.keyed .signature (s.tru.ak.getD 0 :: data)])

/-- SPDM_GET_VERSION: 1.2. -/
def execSpdmGetVersion (path : Nat) (s : State) : Host.Outcome State Fault Refusal :=
  .next (s.spdmAsk path 0 fun s => (s.spdmTo path 1).spdmSay path 0x04 [0x12])

/-- SPDM_GET_CAPABILITIES: CERT_CAP, CHAL_CAP, MEAS_CAP 10b, MEAS_FRESH_CAP (Table TRU-5). -/
def execSpdmGetCapabilities (path : Nat) (s : State) : Host.Outcome State Fault Refusal :=
  .next (s.spdmAsk path 1 fun s => (s.spdmTo path 2).spdmSay path 0x61 [0x36])

/-- SPDM_NEGOTIATE_ALGORITHMS: RSASSA-PSS 4096, SHA-512 and the DMTF measurement specification, when they are offered. -/
def execSpdmNegotiateAlgorithms (path : Nat) (offered : Bool) (s : State) : Host.Outcome State Fault Refusal :=
  .next (s.spdmAsk path 2 fun s => if offered then (s.spdmTo path 3).spdmSay path 0x63 [0x40, 4, 8, 1] else s.spdmError path 1)

/-- The certificate chain of slot 0: chain section, DIK and AK certificates (R591, R592); none when the DIK certificate failed. -/
def State.certChain (s : State) : Option (Nat × Nat) :=
  if s.isSet F.TRU_STAT_DIK_OK then
    let x := 591 :: ((s.boot.img.map fun (b : BankImg) => b.chainRoot).getD 0) :: (s.dikCert.sig :: s.dikCert.fields) ++
      (match s.tru.akCert with | some c => c.sig :: c.fields | none => [])
    some (Config.keyed .certificate (0 :: x) % 65536, Config.keyed .certificate (1 :: x))
  else none

/-- SPDM_GET_DIGESTS: the slots that hold a chain, and the digest of slot 0's. -/
def execSpdmGetDigests (path : Nat) (s : State) : Host.Outcome State Fault Refusal :=
  .next (s.spdmAsk path 3 fun s => match s.certChain with
    | some (_, c) => s.spdmSay path 0x01 [1, Config.keyed .digest [c]]
    | none => s.spdmSay path 0x01 [0])

/-- SPDM_GET_CERTIFICATE: a portion of the chain of slot 0, and how much remains. -/
def execSpdmGetCertificate (path slot ofs len : Nat) (s : State) : Host.Outcome State Fault Refusal :=
  .next (s.spdmAsk path 3 fun s => match s.certChain with
    | some (n, c) =>
      if slot != 0 || n ≤ ofs then s.spdmError path 1
      else s.spdmSay path 0x02 [min len (n - ofs), n - ofs - min len (n - ofs), bytesAt c ofs (min len (n - ofs))]
    | none => s.spdmError path 1)

/-! ### Measurements (R594) -/

/-- Every measurement: index and value. -/
def State.measurements (s : State) : List (Nat × Nat) :=
  ((List.range 73).drop 1).filterMap fun i => (s.measurement i).map fun v => (i, v)

/-- SPDM_CHALLENGE: the digest of the chain, the summary of all measurements, the requester's nonce, signed. -/
def execSpdmChallenge (path slot nonce : Nat) (s : State) : Host.Outcome State Fault Refusal :=
  .next (s.spdmAsk path 3 fun s => match s.certChain with
    | some (_, c) =>
      if slot != 0 then s.spdmError path 1
      else s.spdmSign path 0x03 [Config.keyed .digest [c], Config.keyed .digest (s.measurements.map (·.2)), nonce]
    | none => s.spdmError path 1)

/-- SPDM_GET_MEASUREMENTS: index 0 asks for their number, 255 for all; an absent index is an error. -/
def execSpdmGetMeasurements (path index nonce : Nat) (sign : Bool) (s : State) : Host.Outcome State Fault Refusal :=
  .next (s.spdmAsk path 3 fun s =>
    let all := s.measurements
    let data? : Option (List Nat) := if index = 0 then some [all.length]
      else if index = 255 then some (all.flatMap fun m => [m.1, m.2])
      else (s.measurement index).map fun v => [index, v]
    match data? with
    | none => s.spdmError path 1
    | some d => if sign then s.spdmSign path 0x60 (d ++ [nonce]) else s.spdmSay path 0x60 d)

end Sys2Proof.Machine
end

