-- ==== Sys2Proof/Machine/Registers.lean ====
section
/-!
DEFINITION. Machine/Registers.lean: what a register read returns and what a register write does on any path (R608 to R615, R622,
R629), BAR2 (R632), and the requests that reach a register with no row of its own.
-/

namespace Sys2Proof.Machine

/-! ### Reads -/

/-- Whether the start is stopped or a tamper trip holds the unit, so that TRU alone answers (R604). -/
def State.truOnly (s : State) : Bool := s.boot.stopped || s.boot.held == some 4

/-- Whether a bench's window is that of an OFF bench (R610); TRU answers in a stopped start (R604). -/
def State.windowOff (s : State) (b : Nat) : Bool := 57 ≤ b || ((s.benchAt b).state == .off && !(b == 1 && s.truOnly))

/-- The fuse array as TRU_FUSE shows it (Table TRU-1): OWNER_SEED and DUS read 0. -/
def Fuses.window (f : Fuses) : Nat :=
  (f.fkh.zipIdx.foldl (fun a p => a + putAt (64 * p.2) 64 p.1) 0) + putAt 256 1 f.frevoke + putAt 257 1 f.life +
  putAt 264 8 (2 ^ f.fwSvn - 1) + putAt 272 8 (2 ^ f.ownSvn - 1) + putAt 280 8 f.dsn + putAt 288 8 f.mfgDate + putAt 296 2 f.vcore +
  putAt 320 64 f.ownerKey + putAt 448 512 f.certSig

/-- The bytes of a sample record (Table SWC-5). -/
def Sample.bytes (x : Sample) : Nat :=
  putAt 0 8 x.time + putAt 8 1 x.port + putAt 9 1 x.flags + putAt 10 1 x.fate + putAt 11 1 x.out + putAt 12 2 x.len + putAt 14 2 x.caplen +
  putAt 32 128 x.data

/-- The element of a ring of n slots that lies in a slot: the newest element first, `total` entered so far. -/
def ringAt {α : Type} (l : List α) (total n slot : Nat) : Option α :=
  let back := (total + n - 1 - slot) % n
  if back < total then l[back]? else none

/-- Words of the CTL window that no register file holds: MEM_OK, the on-chip event log (R51), the sample ring (R629). -/
def State.ctlWord (s : State) (off : Nat) : Option Nat :=
  if off = 0x300C then some (bit s.evMemOk)
  else if 0x10000 ≤ off && off < 0x20000 then
    some (((ringAt s.evlog.onChip s.evTotal 4096 ((off - 0x10000) / 16)).map fun (r : EvRec) => bytesAt r.bytes (off % 16) 4).getD 0)
  else if 0x20000 ≤ off && off < 0x48000 then
    let n := s.rd64 F.CTL_SAMP_TOTAL_LO F.CTL_SAMP_TOTAL_HI
    some (((ringAt s.samples n 1024 ((off - 0x20000) / 160)).map fun (x : Sample) => bytesAt x.bytes ((off - 0x20000) % 160) 4).getD 0)
  else none

/-- Words of the TRU window: the nonce (R590), the token area, the fuses. -/
def State.truWord (s : State) (off : Nat) : Option Nat :=
  if 0x1010 ≤ off && off < 0x1030 then some (bytesAt (s.tru.nonce.getD 0) (off - 0x1010) 4)
  else if 0x2000 ≤ off && off < 0x2A00 then some 0
  else if 0x3000 ≤ off && off < 0x3400 then some (bytesAt s.fuses.window (off - 0x3000) 4)
  else none

/-- Words of the TIM window: the count (R34) and PPS_SEEN (Table TEV-12). -/
def State.timWord (s : State) (off : Nat) : Option Nat :=
  if off = 0x1000 then some (s.now % 2 ^ 32)
  else if off = 0x1004 then some (s.now / 2 ^ 32 % 2 ^ 32)
  else if off = 0x100C then
    let seen := s.tim.ppsInLast.any fun t => s.now ≤ t + msU 1100
    some (fieldPut (s.counterAt 2 0x100C) 3 3 (bit seen)).toNat
  else none

/-- Words of a class's windows that follow what the class holds: the contexts and reassembly entries of an XPT role (R105), the slots of
a CMD role, the commands in flight (R171), and a group's committed share (Table QOS-12). -/
def State.classWord (s : State) (b off : Nat) : Option Nat :=
  let role := (s.benchAt b).role
  match classInst b with
  | some (0, _) => if off = 0x1010 then role.map fun r => s.onChip r + 65536 * s.reasmUsed r else none
  | some (1, _) =>
    if off = 0x1004 then role.map fun r => s.slotsUsed r + 65536 * bit s.paired
    else if off = 0x1008 then some (min 1048576 s.cmds.length)
    else if 0x1270 ≤ off && off < 0x1290 then some (fieldPut (s.counterAt b off) 7 0 (s.commitPct ((off - 0x1270) / 4))).toNat
    else none
  | _ => none

/-- MIRROR of JNL_STAT follows pairing (Table TLY-8). -/
def State.jnlWord (s : State) (off : Nat) : Option Nat :=
  if off = 0x1004 then some (fieldPut (s.counterAt 5 0x1004) 8 8 (bit s.paired)).toNat else none

/-- The common block's words that follow the bench (Table MGT-1) and the snapshot area (R66). -/
def State.commonWord (s : State) (b off : Nat) : Option Nat :=
  let x := s.benchAt b
  if off = 0 then some (match classInst b with
    | some (c, i) => b + 0x100 * c + 0x1000 * i
    | none => b + 0xF00)
  else if off = 8 then some (x.state.code + 16 * (if isSingleton b then 0 else x.role.getD 0xF) + 256 * bit (s.inLock b))
  else if off = 0x30 || off = 0x800 then some (x.snap.seq % 2 ^ 32)
  else if off = 0x34 || off = 0x804 then some (x.snap.latch % 2 ^ 32)
  else if off = 0x38 || off = 0x808 then some (x.snap.latch / 2 ^ 32 % 2 ^ 32)
  else if off = 0x80C then some (x.snap.target % 2 ^ 32)
  else if off = 0x810 then some (x.snap.target / 2 ^ 32 % 2 ^ 32)
  else if off = 0x814 then some x.snap.info
  else if off = 0x818 then some x.snap.evt
  else if 0x840 ≤ off && off < 0x1000 then some (((x.snap.counters.find? fun p => p.1 == off).map fun (p : Nat × Word) => p.2.toNat).getD 0)
  else none

/-- The word a bench's window shows at an offset now. -/
def State.regView (s : State) (b off : Nat) : Nat :=
  if s.windowOff b then (if off = 0 then b else if off = 8 then 0xF0 else 0)
  else
    let own := if b = 0 then s.ctlWord off else if b = 1 then s.truWord off else if b = 2 then s.timWord off else if b = 5 then s.jnlWord off else s.classWord b off
    match s.commonWord b off <|> own with
    | some v => v
    | none => (s.counterAt b off).toNat

/-- Whether an offset is a register suffixed _LO, whose partner lies 4 bytes above. -/
def isLo (b off : Nat) : Bool :=
  off == 0x34 || off == 0x804 || off == 0x80C ||
  (b == 0 && (off == 0x3000 || off == 0x400C || off == 0x6020)) ||
  (b == 2 && (off == 0x1000 || off == 0x1018 || off == 0x1040 || off == 0x1048)) ||
  (b == 4 && off == 0x1068) || (b == 5 && (off == 0x1010 || off == 0x1018)) || (b == 7 && off == 0x1010) ||
  (b == 16 && off % 8 == 0 && (off == 0x1008 || (0x1300 ≤ off && off < 0x1380) || (0x1500 ≤ off && off < 0x1630))) ||
  (classOf b == some 3 && (off == 0x1614 || (0x1000 ≤ off && off < 0x1100 && (off % 32 == 4 || off % 32 == 0x18))))

/-- The key of a latch: the register's one copy (R105, R609). -/
def State.latchKey (s : State) (b off : Nat) : Nat :=
  match findReg b off with
  | some (d, _) => (s.homeKey b off d.home).getD (b * 0x100000 + off)
  | none => b * 0x100000 + off

/-- Read one word on a path (R609): a _LO read latches, a _HI read returns what the path latched, an RC field clears, and a read of
TRU_NONCE0 draws a nonce. -/
def State.regRead (s : State) (path addr : Nat) : State × Nat :=
  let b := addr / 0x100000
  let off := addr % 0x100000
  if s.windowOff b then (s, s.regView b off)
  else if 8 ≤ b && b < 16 && 0x1400 ≤ off && off < 0x1800 then
    s.statRead path (4 * (b - 8) + (off - 0x1400) / 0x100) (off % 0x100 / 8) (off % 8 == 4)
  else if 4 ≤ off && isLo b (off - 4) then (s, s.latched path (s.latchKey b off))
  else
    let s : State := if b = 1 && off = 0x1010 then s.nonceDraw else s
    let v := s.regView b off
    (if isLo b off then s.latch path (s.latchKey b (off + 4)) (s.regView b (off + 4)) else s, v)

/-! ### Writes -/

/-- A counted ignored write (R610, R611, R632). -/
def State.ignWrite (s : State) : State := s.bump F.CTL_MGT_IGN

/-- Whether a register is a class-common setting: one copy in its class (R105) with a field that a write sets (DEDUCED, log entry 165). -/
def classSetting (d : RegDef) : Bool := d.home == .cls && d.fields.any fun f => f.type == .rw || f.type == .rwl

/-- Whether a bench belongs to a replicated class and is FAULTED, and the offset is no class-common setting (R611). -/
def State.faultedWindow (s : State) (b off : Nat) : Bool :=
  (classInst b).isSome && (s.benchAt b).state == .faulted && 0x1000 ≤ off &&
    !((findReg b off).any fun d => classSetting d.1)

/-- Commands that CTL, TRU, TIM, CHN, MEM and HAL take by a register: the bits written (R622), after the fields. -/
def State.singletonCmd (s : State) (b off m : Nat) : State :=
  match b, off with
  | 0, 0x2000 => s.rotCfgChanged
  | 0, 0x2004 => s.rotNow m
  | 0, 0x5008 =>
    let s : State := if hasBit m 8 then s.reloadOrder (m % 64) else s
    if hasBit m 16 then s.retireOrder else s
  | 1, 0x1004 => if hasBit m 0 then s.svnCommit else s
  | 1, 0x1040 => if hasBit m 0 then s.tokenGo else s
  | 2, 0x1008 => let s := s.srcChanged; if hasBit m 31 then s.setStep else s
  | 2, 0x1034 => s.shotCmd m
  | 3, 0x1008 => if hasBit m 0 then s.orderChainReset else s
  | 4, 0x1050 =>
    let s : State := if hasBit m 4 then s.cacheSetEn else s
    if hasBit m 5 then s.cacheClrEn else s
  | 4, 0x1060 => if hasBit m 3 then s.maintStart (m % 4) (hasBit m 2) else s
  | 7, 0x1004 => [0, 1].foldl (fun (s : State) h => if s.rd ⟨0x701004, 16 + h, 16 + h⟩ = 0 then s.halfDown h else s) s
  | 7, 0x1008 =>
    let s : State := if hasBit m 0 then s.startHandover false else s
    if hasBit m 1 then s.unfence else s
  | 16, 0x1000 => s.syncFwd
  | _, _ => s

/-- An order of LAY_MCMD (Table REB-13). -/
def State.memberOrder (s : State) (m : Nat) : State :=
  let slot := m % 64
  match m / 256 % 8 with
  | 1 => s.orderDrain slot
  | 2 => s.orderFail slot
  | 3 => s.orderJoin slot
  | 4 => s.orderForget slot
  | _ => s

/-- Commands of the classes' registers, and what follows a change of their settings. -/
def State.classCmd (s : State) (c b off m : Nat) : State :=
  if c = 3 then
    if off = 0x1600 then s.memberOrder m
    else if off = 0x1610 && hasBit m 31 then s.reshapeOrder
    else s
  else if c = 6 then
    if 0x1400 ≤ off && off < 0x1800 && off % 0x80 = 4 then
      let n := 8 * (b - 51) + (off - 0x1400) / 0x80
      let s := s.syncLed n
      let s : State := if hasBit m 1 then s.powerOnOrder n else s
      if hasBit m 2 then s.powerOffOrder n else s
    else s
  else s

/-- Write bits of one word where the bench takes writes: the fields by their types, then what the register does. Answers whether
the word was counted under R615. -/
def State.writeBits (s : State) (b off v mask : Nat) : State × Bool :=
  let m := v &&& mask
  if b = 1 && 0x2000 ≤ off && off < 0x2A00 then
    let o := off - 0x2000
    let old := bytesAt s.tru.token o 4
    (s.updTru fun t => { t with token := spliceAt t.token o 4 (old - (old &&& mask) + m) }, false)
  else
    let was := s.qosOn
    let (inWas, outWas, ofsWas) := (s.isSet F.TIM_PPS_CFG_IN_EN, s.isSet F.TIM_PPS_CFG_OUT_EN, s.rd F.TIM_PPS_OFS)
    let (s, counted) := s.writeReg b off v mask
    let s := s.ppsCfgChanged inWas outWas ofsWas
    let s : State := if !was && s.qosOn then s.qosRestart else s
    (match classOf b with
      | some c => s.classCmd c b off m
      | none => s.singletonCmd b off m, counted)

/-- Write bits of one word at an address: the state, and 0, 5 (LOCKED) or 6 (BENCH_FAULTED). -/
def State.regWrite (s : State) (addr v mask : Nat) : State × Nat :=
  let b := addr / 0x100000
  let off := addr % 0x100000
  if s.windowOff b then (s.ignWrite, 0)
  else if s.faultedWindow b off then (s.ignWrite, 6)
  else
    let (s, counted) := s.writeBits b off v mask
    (s, if counted then 5 else 0)

/-! ### Paths (R616) -/

/-- Whether a path permits a kind of Table MGT-5, by its bit; the control cores (5) bypass the masks. -/
def State.permits (s : State) (path kind : Nat) : Bool := path == 5 || (path < 5 && hasBit (s.word (0x6000 + 4 * path)).toNat kind)

/-- Whether an address names a word of the register space. -/
def wordAddr (addr : Nat) : Bool := addr % 4 == 0 && addr < 0x4000000

/-- A read of one word that answers on its path; it waits while the bench reloads in place (R612). -/
def State.readAccess (s : State) (path addr : Nat) : State :=
  if s.reloading (addr / 0x100000) then s.holdAccess (.read path addr)
  else let (s, v) := s.regRead path addr; s.send (.value v)

/-- A write of one word or of bits of it; it waits while the bench reloads in place (R612). -/
def State.writeAccess (s : State) (addr v mask : Nat) : State :=
  if s.reloading (addr / 0x100000) then s.holdAccess (.write addr v mask) else (s.regWrite addr v mask).1

/-- HALF_LATCH_READ (R609, R612): a read of a register on a path. -/
def execHalfLatchRead (path addr : Nat) (s : State) : Host.Outcome State Fault Refusal :=
  .next (if s.permits path 0 && wordAddr addr then s.readAccess path addr else s)

/-- REGISTER_WRITE (R9, R612, R615): a write of a register on a path. -/
def execRegisterWrite (path addr : Nat) (v : Word) (s : State) : Host.Outcome State Fault Refusal :=
  .next (if s.permits path 1 && wordAddr addr then s.writeAccess addr v.toNat 0xFFFFFFFF else s)

/-- BENCH_LOCK_SET (R615): a write of 1 to BENCH_CTL.LOCK. -/
def execBenchLockSet (bench : Nat) (s : State) : Host.Outcome State Fault Refusal :=
  .next (if bench < 64 then s.writeAccess (bench * 0x100000 + 0xC) 1 0xFFFFFFFF else s)

/-- One DWORD of a BAR2 request (R632); it waits while the bench reloads in place, and behind one that waits (R609, R612). -/
def State.bar2Word (s : State) (write : Bool) (addr v : Nat) (all : Bool) : State :=
  let behind := s.live.waits.any fun a => match a with | .bar2 .. => true | _ => false
  if !wordAddr addr then s
  else if behind || s.reloading (addr / 0x100000) then s.holdAccess (.bar2 write addr v all)
  else if write then (if all then (s.regWrite addr v 0xFFFFFFFF).1 else s.ignWrite)
  else let (s, x) := s.regRead 4 addr; s.send (.value x)

/-- BAR2_ACCESS (R632): a request's DWORDs in ascending address order, each with the value written and whether all its byte enables
are set. -/
def execBar2Access (write : Bool) (addr : Nat) (words : List (Nat × Bool)) (s : State) : Host.Outcome State Fault Refusal :=
  .next <|
    if !(s.isSet F.EPT_CFG_BAR2_EN && s.isSet F.EPT_STAT_LINK_UP) then s
    else if !s.permits 4 (bit write) then
      let s := s.ignWrite
      if write then s else s.sendAll (words.map fun _ => .value 0)
    else words.zipIdx.foldl (fun (s : State) w => s.bar2Word write (addr + 4 * w.2) w.1.1 w.1.2) s

end Sys2Proof.Machine
end

