-- ==== Sys2Proof/Machine/Mgt.lean ====
section
/-!
DEFINITION. Machine/Mgt.lean: management (22): vendor requests (R620 to R622), their relay over the chain (R623), subscribers (R624,
R625), ADMIN requests (R626 to R628), MCTP control (R617, R618), NVMe-MI (R630, R631) and SMBus (R619).
-/

namespace Sys2Proof.Machine

/-- Change management's state. -/
def State.updMgt (s : State) (f : Mgt → Mgt) : State := { s with mgt := f s.mgt }

/-! ### Requests on registers (R609, R622) -/

/-- Read `n` words from an address on a path, in ascending order. -/
def State.readWords (s : State) (path addr n : Nat) : State × List Nat :=
  (List.range n).foldl (fun (p : State × List Nat) i =>
    let (s, v) := p.1.regRead path (addr + 4 * i)
    (s, p.2 ++ [v])) (s, [])

/-- Write words from an address, in ascending order: the state, and the code of the message: LOCKED when a word was counted, else
BENCH_FAULTED when one was refused (log entry 75). -/
def State.writeWords (s : State) (addr : Nat) (vs : List Nat) : State × Nat :=
  vs.zipIdx.foldl (fun (p : State × Nat) v =>
    let (s, c) := p.1.regWrite (addr + 4 * v.2) v.1 0xFFFFFFFF
    (s, if p.2 = 5 || c = 5 then 5 else max p.2 c)) (s, 0)

/-- Big-endian words of a body. -/
def beWords (l : List Nat) : Nat → List Nat
  | 0 => []
  | n + 1 => beNat (l.take 4) :: beWords (l.drop 4) n

/-- A field of a request's body. -/
def reqField (b : List Nat) (o n : Nat) : Nat := beNat ((b.drop o).take n)

/-- Length of a request's body (Table MGT-3), by COMMAND. -/
def bodyLen (command : Nat) (b : List Nat) : Nat :=
  match command with
  | 0x01 => 8
  | 0x02 => 8 + 4 * reqField b 4 1
  | 0x03 => 12
  | 0x10 => 4
  | 0x12 => 12
  | 0x20 => 516
  | 0x21 => 4
  | 0x22 => 4
  | 0x28 => 72
  | _ => 8

/-- Whether a byte of the body that must be 0 is not, by COMMAND. -/
def bodyReserved (command : Nat) (b : List Nat) : Bool :=
  (match command with
  | 0x01 => reqField b 5 3
  | 0x02 => reqField b 5 3
  | 0x03 => 0
  | 0x10 => reqField b 2 2
  | 0x12 => reqField b 9 3
  | 0x20 => reqField b 2 2
  | 0x21 => reqField b 2 2
  | 0x22 => reqField b 2 2
  | _ => reqField b 1 3) != 0

/-- Whether COUNT lies outside Table MGT-3. -/
def badCount (command : Nat) (b : List Nat) : Bool :=
  let out := fun (n hi : Nat) => n = 0 || hi < n
  match command with
  | 0x01 => out (reqField b 4 1) 32
  | 0x02 => out (reqField b 4 1) 32
  | 0x12 => out (reqField b 8 1) 8
  | _ => false

/-- Whether ADDR is not a multiple of 4 or a word lies beyond the register space. -/
def badAddr (command : Nat) (b : List Nat) : Bool :=
  let a := reqField b 0 4
  let n := if command = 3 then 1 else reqField b 4 1
  command ≤ 3 && (a % 4 != 0 || 0x4000000 < a + 4 * n)

/-- The code of a malformed request, in the order of log entry 74; 0 for none. -/
def bodyCode (command : Nat) (b : List Nat) : Nat :=
  if bodyReserved command b then 1
  else if b.length != bodyLen command b || badCount command b then 2
  else if badAddr command b then 3
  else if command = 0x10 && (3 < reqField b 0 1 || 1 < reqField b 1 1) then
    1 + Config.keyed .unstated [624, reqField b 0 1, reqField b 1 1] % 2
  else 0

/-- Kind of a COMMAND: its bit in Table MGT-5. -/
def kindOf (command : Nat) : Nat := match command with | 0x01 => 0 | 0x02 => 1 | 0x03 => 1 | 0x10 => 2 | 0x12 => 2 | _ => 3

/-- Whether a COMMAND is relayed (Table MGT-3). -/
def relayed (command : Nat) : Bool := [0x01, 0x02, 0x03, 0x12, 0x28, 0x29].contains command

/-! ### Events (R624, R625) -/

/-- Data of CTL event locals 9 and 10. -/
def subData (path eid : Nat) : Nat := eid + 256 * path

/-- Whether a subscriber is that of a path and EID. -/
def Subscriber.is (x : Subscriber) (path eid : Nat) : Bool := x.path == path && x.eid == eid

/-- EV_SUBSCRIBE: a subscription made, changed or removed; a fifth is refused with DETAIL 1. -/
def State.subscribe (s : State) (path eid minSev : Nat) (on : Bool) : State × Nat × Nat :=
  let held := s.subs.any fun x => x.is path eid
  if !on then ({ s with subs := s.subs.filter fun x => !x.is path eid }, 0, 0)
  else if held then ({ s with subs := mapIf (fun (x : Subscriber) => x.is path eid) (fun (x : Subscriber) => { x with minSev := minSev }) s.subs }, 0, 0)
  else if 4 ≤ s.subs.length then (s, 0x0B, 1)
  else
    let u : Subscriber := {
      path := path, eid := eid, minSev := minSev, queue := [], lost := 0, sentAt := none, missed := 0, dropRaised := none }
    ({ s with subs := s.subs ++ [u] }, 0, 0)

/-- The body of a LOG_READ response (R196, Table NSA-11). -/
def State.logBody (s : State) (want n : Nat) : List Nat :=
  let (first, recs) := s.recordsFrom want
  beBytes s.evTotal 8 ++ beBytes first 8 ++ (recs.take n).flatMap fun (r : EvRec) => toBytes r.bytes 16

/-! ### Carrying out a request -/

/-- The register requests (R622). -/
def State.regRequest (s : State) (path command : Nat) (b : List Nat) : State × Nat × Nat × List Nat :=
  let a := reqField b 0 4
  match command with
  | 0x01 =>
    let (s, vs) := s.readWords path a (reqField b 4 1)
    (s, 0, 0, vs.flatMap fun (v : Nat) => beBytes v 4)
  | 0x02 =>
    let (s, c) := s.writeWords a (beWords (b.drop 8) (reqField b 4 1))
    (s, c, 0, [])
  | _ =>
    let (s, v) := s.regRead path a
    let (s, c) := s.regWrite a (reqField b 8 4) (reqField b 4 4)
    (s, c, 0, beBytes v 4)

/-- Carry out a well-formed request that its path permits, and answer it. -/
def State.runRequest (s : State) (d : ReplyTo) (tag command : Nat) (unwraps : Bool) (b : List Nat) : State :=
  if command ≤ 3 then
    let (s, cc, det, out) := s.regRequest d.path command b
    s.answer d tag command cc det out
  else if command = 0x10 then
    let (s, cc, det) := s.subscribe d.path d.eid (reqField b 0 1) (reqField b 1 1 == 1)
    s.answer d tag command cc det []
  else if command = 0x12 then s.answer d tag command 0 0 (s.logBody (reqField b 0 8) (reqField b 8 1))
  else s.adminByRole d tag command unwraps b

/-- Vendor requests of a path that wait for the end of a reload (R612). -/
def State.waitingOn (s : State) (path : Nat) : Nat :=
  (s.live.waits.filter fun a => match a with | .vendor d .. => d.path == path | _ => false).length

/-- Whether a request waits: one of its words lies in the window of a bench that reloads in place (R612), or an earlier request of its
path waits (R621). -/
def State.requestWaits (s : State) (d : ReplyTo) (command : Nat) (b : List Nat) : Bool :=
  let n := if command = 3 then 1 else reqField b 4 1
  0 < s.waitingOn d.path || (command ≤ 3 && (List.range n).any fun i => s.reloading ((reqField b 0 4 + 4 * i) / 0x100000))

/-- Carry out a request, or keep it until it can be. -/
def State.doRequest (s : State) (d : ReplyTo) (tag command : Nat) (unwraps : Bool) (b : List Nat) : State :=
  if s.requestWaits d command b then s.holdAccess (.vendor d tag command unwraps b) else s.runRequest d tag command unwraps b

/-- What waited for the end of a reload goes on, in order of arrival (R609, R612, R621). -/
def State.runWaits (s : State) : State :=
  s.live.waits.foldl (fun (s : State) a => match a with
    | .read path addr => s.readAccess path addr
    | .write addr v mask => s.writeAccess addr v mask
    | .bar2 w addr v all => s.bar2Word w addr v all
    | .vendor d tag command unwraps b => s.doRequest d tag command unwraps b) (s.updLive fun l => { l with waits := [] })

/-- BENCH_RELOAD_DONE (R568 to R571, R612): at this unit; or as the partner reports it. -/
def execBenchReloadDone (partner : Bool) (bench : Nat) (ok last : Bool) (s : State) : Host.Outcome State Fault Refusal :=
  .next (if partner then s.partnerReloaded ok last else (s.reloadEnd bench ok).runWaits)

/-- A request for this unit: malformed, denied (R616), or carried out. -/
def State.ownRequest (s : State) (d : ReplyTo) (tag command : Nat) (unwraps : Bool) (b : List Nat) : State :=
  let code := bodyCode command b
  if code != 0 then s.answer d tag command code 0 []
  else if !s.permits d.path (kindOf command) then s.answer d tag command 4 0 []
  else s.doRequest d tag command unwraps b

/-- Requests of a path that are not answered (R621). -/
def State.unanswered (s : State) (path : Nat) : Nat :=
  s.mgt.busy.getD path 0 + s.waitingOn path + (s.mgt.relays.filter fun r => r.path == path).length

/-- The next relay tag that is not in use. -/
def State.relayTag (s : State) : Nat :=
  (((List.range 256).map fun i => (s.mgt.relayTag + 1 + i) % 256).find? fun t => s.mgt.relays.all fun r => r.tag != t).getD 0

/-- Relay a request to another unit (R623). -/
def State.relayOut (s : State) (path command : Nat) (r : VendorReq) : State :=
  let t := s.relayTag
  let s := s.chainSend (.chainMgmt r.unit 1 t s.addr command (r.tag :: r.unit :: 0 :: 0 :: r.body) (decide (r.unit < s.addr)))
  s.updMgt fun m => { m with
    relayTag := t, relays := m.relays ++
      [{ tag := t, unit := r.unit, sentAt := s.now, path := path, eid := r.eid, reqTag := r.tag, command := command }] }

/-- Whether an MCTP path takes messages other than control messages (R618). -/
def State.mctpOpen (s : State) (path : Nat) : Bool := s.pathUp path && s.eid path != 0

/-- In a stopped start or a tamper hold, TRU answers register reads of its window on SMBus port 0 only (R604). -/
def truRead (path command : Nat) (r : VendorReq) : Bool :=
  let a := reqField r.body 0 4
  path == 0 && command == 1 && r.unit == 0xFF && bodyCode 1 r.body == 0 && r.zero && 0x100000 ≤ a && a + 4 * reqField r.body 4 1 ≤ 0x200000

/-- A vendor request on paths 0 to 2 (R616, R620, R621, R623): a packet with a wrong PEC is discarded and counted (R619), a message of more
than 1,024 bytes with its header of 8 is discarded (R617, Table MGT-2). -/
def State.vendor (s : State) (path command : Nat) (r : VendorReq) (unwraps : Bool) : State :=
  let d : ReplyTo := { partner := false, path := path, eid := r.eid, relay := 0 }
  if path < 2 && !r.pec then (if s.isSet (F.CHN_SMB_CFG_EN path) then s.bump (F.CHN_SMB_PEC path) else s)
  else if 1016 < r.body.length then s
  else if s.truOnly then
    if truRead path command r then
      let (s, cc, det, out) := s.regRequest 0 1 r.body
      s.answer d r.tag 1 cc det out
    else s
  else if !s.mctpOpen path then s
  else if 4 ≤ s.unanswered path then s.answer d r.tag command 0x0C 0 []
  else if !r.zero then s.answer d r.tag command 1 0 []
  else if r.unit = 0xFF || (s.addressed && r.unit = s.addr) then s.ownRequest d r.tag command unwraps r.body
  else if 63 < r.unit || !relayed command then s.answer d r.tag command 1 0 []
  else if !s.permits path (kindOf command) || !s.permits path 4 then s.answer d r.tag command 4 0 []
  else if !s.addressed then s.answer d r.tag command 7 0 []
  else s.relayOut path command r

/-- MGT_REG_READ (R609, R620). -/
def execMgtRegRead (path : Nat) (r : VendorReq) (s : State) : Host.Outcome State Fault Refusal := .next (s.vendor path 0x01 r false)

/-- MGT_REG_WRITE (R622). -/
def execMgtRegWrite (path : Nat) (r : VendorReq) (s : State) : Host.Outcome State Fault Refusal := .next (s.vendor path 0x02 r false)

/-- MGT_REG_MODIFY (R622). -/
def execMgtRegModify (path : Nat) (r : VendorReq) (s : State) : Host.Outcome State Fault Refusal := .next (s.vendor path 0x03 r false)

/-- MGT_EV_SUBSCRIBE (R624). -/
def execMgtEvSubscribe (path : Nat) (r : VendorReq) (s : State) : Host.Outcome State Fault Refusal := .next (s.vendor path 0x10 r false)

/-- MGT_LOG_READ (R196, R620). -/
def execMgtLogRead (path : Nat) (r : VendorReq) (s : State) : Host.Outcome State Fault Refusal := .next (s.vendor path 0x12 r false)

/-- MGT_IDENT_SET (R626): its operand says whether the secrets unwrap under KOD. -/
def execMgtIdentSet (path : Nat) (r : VendorReq) (unwraps : Bool) (s : State) : Host.Outcome State Fault Refusal :=
  .next (s.vendor path 0x20 r unwraps)

/-- MGT_IDENT_DEREG (R178, R626). -/
def execMgtIdentDereg (path : Nat) (r : VendorReq) (s : State) : Host.Outcome State Fault Refusal := .next (s.vendor path 0x21 r false)

/-- MGT_IDENT_GET (R626). -/
def execMgtIdentGet (path : Nat) (r : VendorReq) (s : State) : Host.Outcome State Fault Refusal := .next (s.vendor path 0x22 r false)

/-- MGT_QOS_SET (R627). -/
def execMgtQosSet (path : Nat) (r : VendorReq) (s : State) : Host.Outcome State Fault Refusal := .next (s.vendor path 0x28 r false)

/-- MGT_QOS_GET (R627). -/
def execMgtQosGet (path : Nat) (r : VendorReq) (s : State) : Host.Outcome State Fault Refusal := .next (s.vendor path 0x29 r false)

/-! ### The relay (R531, R623) -/

/-- A relayed request reaches this unit: it acts under path 3. -/
def State.relayIn (s : State) (src relay command : Nat) (r : VendorReq) : State :=
  let d : ReplyTo := { partner := false, path := 3, eid := src, relay := relay }
  if 4 ≤ s.unanswered 3 then s.answer d r.tag command 0x0C 0 []
  else if !r.zero || !relayed command then s.answer d r.tag command 1 0 []
  else s.ownRequest d r.tag command false r.body

/-- The response to a relayed request: the requester is answered with its TAG; one that comes too late is discarded. -/
def State.relayBack (s : State) (src relay cc detail : Nat) (body : List Nat) : State :=
  match s.mgt.relays.find? fun r => r.tag == relay && r.unit == src with
  | none => s
  | some x =>
    (s.updMgt fun m => { m with relays := m.relays.filter fun r => r.tag != relay }).send
      (.vendor x.path x.eid x.reqTag (x.command + 0x80) cc detail body)

/-- Relay a MGMT frame (R531): while MGMT_EN is 1. Whether buffer space is found is a free value (log entry 79): without space the
frame is dropped and counted. -/
def State.relayMgmt (s : State) (o : Out) : State :=
  if !s.isSet F.CHN_CHAIN_CFG_MGMT_EN then s else
  let (space, s) := s.draw .progress 2
  if space = 0 then s.bump F.CHN_MGMT_DROP else s.chainSend o

/-- CHAIN_MGMT (R531, R623): KIND 1 a request, 2 a response; one for another unit is relayed. -/
def execChainMgmt (crcOk : Bool) (dst kind relay src command cc detail : Nat) (r : VendorReq) (fromUp : Bool) (s : State) :
    Host.Outcome State Fault Refusal :=
  .next <| s.chainRx crcOk fun s =>
    if !s.addressed then s else
    let up := if dst = 0xFF then !fromUp else decide (dst < s.addr)
    let s : State := if dst != s.addr then
        s.relayMgmt (.chainMgmt dst kind relay src command (r.tag :: r.unit :: cc :: detail :: r.body) up)
      else s
    if dst != s.addr && dst != 0xFF then s
    else if kind = 1 then s.relayIn src relay command r
    else if kind = 2 then s.relayBack src relay cc detail r.body
    else s

/-- RELAY_TIMEOUT (R623): 20 ms without a response. -/
def execRelayTimeout (tag : Nat) (s : State) : Host.Outcome State Fault Refusal :=
  .next <|
    match s.mgt.relays.find? fun r => r.tag == tag with
    | none => s
    | some x =>
      if s.due (x.sentAt + msU 20) then
        (s.updMgt fun m => { m with relays := m.relays.filter fun r => r.tag != tag }).send
          (.vendor x.path x.eid x.reqTag (x.command + 0x80) 9 0 [])
      else s

/-! ### Delivery to subscribers (R625) -/

/-- EV_NOTIFY_RESPONSE (R625). -/
def execEvNotifyResponse (path eid : Nat) (s : State) : Host.Outcome State Fault Refusal :=
  .next { s with subs := mapIf (fun (x : Subscriber) => x.is path eid) (fun (x : Subscriber) => { x with sentAt := none, missed := 0 }) s.subs }

/-- Send a subscriber its next EV_NOTIFY of up to 8 records. -/
def State.notify (s : State) (u : Subscriber) : State :=
  if u.queue.isEmpty || !s.mctpOpen u.path then s else
  let s := s.send (.evNotify u.path u.eid u.lost (u.queue.take 8))
  { s with
    subs := mapIf (fun (x : Subscriber) => x.is u.path u.eid)
      (fun (x : Subscriber) => { x with queue := x.queue.drop 8, lost := 0, sentAt := some s.now }) s.subs }

/-- EV_NOTIFY_TIMER (R625): an EV_NOTIFY goes out when none awaits its response; 10 ms without one count it missed, and the third in
a row removes the subscriber. -/
def execEvNotifyTimer (path eid : Nat) (s : State) : Host.Outcome State Fault Refusal :=
  .next <|
    match s.subs.find? fun x => x.is path eid with
    | none => s
    | some u =>
      match u.sentAt with
      | none => s.notify u
      | some t =>
        if !s.due (t + msU 10) then s
        else if 2 ≤ u.missed then
          ({ s with subs := s.subs.filter fun x => !x.is path eid }).raise 0 10 NOTICE 0x31 (subData path eid)
        else
          let s : State := { s with
            subs := mapIf (fun (x : Subscriber) => x.is path eid)
              (fun (x : Subscriber) => { x with sentAt := none, missed := x.missed + 1 }) s.subs }
          s.notify u

/-! ### MCTP control (R617, R618); its codes are those of DSP0236 (log entry 71) -/

/-- Answer a control message, whatever the path's EID. -/
def State.control (s : State) (path command cc : Nat) (data : List Nat) : State :=
  if s.pathUp path then s.send (.mctp path command cc data) else s

/-- MCTP_SET_ENDPOINT_ID (R618): operation 0 set, 1 force, 2 reset to STATIC_EID, 3 set discovered. -/
def execMctpSetEndpointId (path op eid : Nat) (s : State) : Host.Outcome State Fault Refusal :=
  .next <|
    if !s.pathUp path then s
    else if op ≤ 1 then
      if eid = 0 || 255 ≤ eid then s.control path 1 2 [] else (s.assignEid path eid).control path 1 0 [0, eid, 0]
    else if op = 2 then
      let e := s.rd (F.CTL_MGT_PATH_STATIC_EID path)
      if e = 0 then s.control path 1 2 [] else (s.assignEid path e).control path 1 0 [0, e, 0]
    else if op = 3 && path = 2 then s.control path 1 0 [0, s.eid path, 0]
    else s.control path 1 2 []

/-- MCTP_GET_ENDPOINT_ID (R617). -/
def execMctpGetEndpointId (path : Nat) (s : State) : Host.Outcome State Fault Refusal :=
  .next <|
    let e := s.rd (F.CTL_MGT_PATH_STATIC_EID path)
    s.control path 2 0 [s.eid path, if e = 0 then 0 else if e = s.eid path then 2 else 3, 0]

/-- The UUID (R618): the first 16 bytes of the SHA-512 of DSN and SLOT_B, version 5, variant 10b. -/
def State.uuid (s : State) : List Nat :=
  let h := toBytes (Config.keyed .digest [618, s.fuses.dsn, s.rd F.CTL_BOOT_STAT_SLOT_B]) 16
  (h.set 6 (0x50 + h.getD 6 0 % 16)).set 8 (0x80 + h.getD 8 0 % 64)

/-- MCTP_GET_ENDPOINT_UUID (R618). -/
def execMctpGetEndpointUuid (path : Nat) (s : State) : Host.Outcome State Fault Refusal := .next (s.control path 3 0 s.uuid)

/-- MCTP_GET_VERSION_SUPPORT (R617): 1.3 for the base and the control messages; the spec gives the others' binding versions no value. -/
def execMctpGetVersionSupport (path typ : Nat) (s : State) : Host.Outcome State Fault Refusal :=
  .next <|
    if typ = 0xFF || typ = 0 then s.control path 4 0 [1, 0xF1, 0xF3, 0xFF, 0]
    else if [4, 5, 0x7E].contains typ then s.control path 4 0 (1 :: toBytes (Config.keyed .unstated [617, typ]) 4)
    else s.control path 4 0x80 []

/-- MCTP_GET_MESSAGE_TYPE_SUPPORT (R617). -/
def execMctpGetMessageTypeSupport (path : Nat) (s : State) : Host.Outcome State Fault Refusal := .next (s.control path 5 0 [3, 0x04, 0x05, 0x7E])

/-- MCTP_GET_VENDOR_SUPPORT (R617): one vendor ID, 0x1F6B, command set version 1. -/
def execMctpGetVendorSupport (path selector : Nat) (s : State) : Host.Outcome State Fault Refusal :=
  .next (if selector = 0 then s.control path 6 0 [0xFF, 0, 0x1F, 0x6B, 0, 1] else s.control path 6 2 [])

/-! ### NVMe-MI (R630, R631); its layouts are those of NVMe-MI 1.2 (log entry 71) -/

/-- SMART warnings of R631: bits 0 spare, 1 temperature, 2 reliability, 3 read only, 4 volatile memory backup; 0 while the condition
holds, bits 7:5 always 1. -/
def State.smartWarnings (s : State) (x : Sensors) : Nat :=
  let gs := (List.range 8).filter fun g => (s.group g).mounted
  let spare := gs.any fun g => s.freePct g < s.rd (F.LAY_GFREE_FREE_LO g)
  let warn := 100 ≤ x.die || x.memberWarn
  let rel := gs.any fun g => (s.group g).c2state != 0
  let ro := gs.any fun g => s.isSet (F.LAY_GSTAT_SPACE_HOLD g)
  0xE0 + bit (!spare) + 2 * bit (!warn) + 4 * bit (!rel) + 8 * bit (!ro) + 16 * bit s.paired

/-- Composite Temperature as NVMe-MI encodes it. -/
def tempByte (t : Int) : Nat :=
  if 127 ≤ t then 0x7F else if t ≤ -60 then 0xC4 else (t % 256).toNat

/-- Percentage Drive Life Used. -/
def lifeByte (x : Sensors) : Nat := min 255 x.used

/-- Bits 5 to 3 of the status: Drive Functional, Reset Not Required, PCIe Link Active. -/
def State.healthBits (s : State) : Nat := 32 * bit (!s.faultDeclared) + 16 + 8 * bit (s.isSet F.EPT_STAT_LINK_UP)

/-- NVME_MI_BASIC_MANAGEMENT (R619, R631): data structure offset 0. -/
def execNvmeMiBasicManagement (port : Nat) (x : Sensors) (s : State) : Host.Outcome State Fault Refusal :=
  .next <|
    if port < 2 && s.pathUp port && s.isSet (F.CHN_SMB_CFG_EN port) && s.permits port 5 then
      s.send (.nvmeMi port 0 0 [6, 0x83 + 64 * bit (!s.stepDone 15) + s.healthBits, s.smartWarnings x, tempByte x.die, lifeByte x, 0, 0])
    else s

/-- Answer an NVMe-MI command on a path; one that the path does not permit completes with 04h (R616). -/
def State.mi (s : State) (path opcode : Nat) (f : State → State) : State :=
  if !s.mctpOpen path then s
  else if !s.permits path 5 then s.send (.nvmeMi path opcode 4 [])
  else f s

/-- A successful NVMe-MI response, and one with Invalid Parameter. -/
def State.miOk (s : State) (path opcode : Nat) (data : List Nat) : State := s.send (.nvmeMi path opcode 0 data)
def State.miBad (s : State) (path opcode : Nat) : State := s.send (.nvmeMi path opcode 4 [])

/-- The endpoint controllers from an index on, in ascending order (R475). -/
def State.epControllers (s : State) (first : Nat) : List Ctrl :=
  (List.range 64).reverse.filterMap fun f => s.ctrls.find? fun k => k.func == some f && first ≤ k.index

/-- Frequency of an SMBus port as NVMe-MI codes it: 1 100 kHz, 2 400 kHz, 3 1 MHz. -/
def State.smbFreq (s : State) (port : Nat) : Nat :=
  let f := s.mgt.freq.getD port 0
  if f = 0 then 1 + s.rd (F.CHN_SMB_CFG_SPEED port) else f

/-- Port Information: type, transmission unit, management endpoint buffer size, and what the port type adds. -/
def State.portInfo (s : State) (port : Nat) : List Nat :=
  if port < 2 then
    [2, 64, 0, 0, 0, (s.rd (F.CHN_SMB_CFG_ADDR port) + s.rd F.CTL_BOOT_STAT_SLOT_B) % 128, 3, 1]
  else [1, 64, 0, s.rd F.EPT_STAT_SPEED, s.rd F.EPT_STAT_WIDTH]

/-- NVME_MI_READ_DATA_STRUCTURE (R630): type 0 subsystem, 1 port, 2 controller list, 3 controller information. -/
def execNvmeMiReadDataStructure (path typ port ctl : Nat) (s : State) : Host.Outcome State Fault Refusal :=
  .next <| s.mi path 0 fun s =>
    if typ = 0 then s.miOk path 0 [2, 1, 2]
    else if typ = 1 && port < 3 then s.miOk path 0 (s.portInfo port)
    else if typ = 2 then
      let l := s.epControllers ctl
      s.miOk path 0 (l.length :: l.map fun (k : Ctrl) => k.index)
    else if typ = 3 then
      match s.ctrls.find? fun k => k.index == ctl && k.func.isSome with
      | some k =>
        let f := k.func.getD 0
        s.miOk path 0 [2, 1, f, 0x1F6B, if f = 0 then 0x4880 else 0x4881, s.epSubsystem % 2 ^ 16, s.epSubsystem / 2 ^ 16]
      | none => s.miBad path 0
    else s.miBad path 0

/-- NVME_MI_SUBSYSTEM_HEALTH_POLL (R631); the Composite Controller Status is a free value. -/
def execNvmeMiSubsystemHealthPoll (path : Nat) (x : Sensors) (s : State) : Host.Outcome State Fault Refusal :=
  .next <| s.mi path 1 fun s =>
    let (ccs, s) := s.draw .unstated 65536
    s.miOk path 1 [s.healthBits, s.smartWarnings x, tempByte x.die, lifeByte x, ccs]

/-- NVME_MI_CONTROLLER_HEALTH_POLL (R630): for each endpoint controller its index, CSTS, temperature, life used, spare (a free value)
and warnings. -/
def execNvmeMiControllerHealthPoll (path first : Nat) (x : Sensors) (s : State) : Host.Outcome State Fault Refusal :=
  .next <| s.mi path 2 fun s =>
    let (spare, s) := s.draw .unstated 256
    let l := s.epControllers first
    s.miOk path 2 (l.length :: l.flatMap fun (k : Ctrl) => [k.index, k.csts, tempByte x.die, lifeByte x, spare, 0xFF - s.smartWarnings x])

/-- NVME_MI_CONFIGURATION_GET (R630): identifier 1 SMBus frequency, 3 MCTP transmission unit. -/
def execNvmeMiConfigurationGet (path id port : Nat) (s : State) : Host.Outcome State Fault Refusal :=
  .next <| s.mi path 4 fun s =>
    if id = 1 && port < 2 then s.miOk path 4 [s.smbFreq port]
    else if id = 3 && port < 3 then s.miOk path 4 [64]
    else s.miBad path 4

/-- NVME_MI_CONFIGURATION_SET (R617, R630): a transmission unit of any size but 64 is refused. -/
def execNvmeMiConfigurationSet (path id port val : Nat) (s : State) : Host.Outcome State Fault Refusal :=
  .next <| s.mi path 3 fun s =>
    if id = 1 && port < 2 && 1 ≤ val && val ≤ 3 then (s.updMgt fun m => { m with freq := m.freq.set port val }).miOk path 3 []
    else if id = 3 && port < 3 && val = 64 then s.miOk path 3 []
    else s.miBad path 3

/-! ### SMBus (R619) -/

/-- SMBUS_TIMEOUT (R619): SCL low for 35 ms. -/
def execSmbusTimeout (port : Nat) (s : State) : Host.Outcome State Fault Refusal :=
  .next (if port < 2 && s.isSet (F.CHN_SMB_CFG_EN port) then (s.bump (F.CHN_SMB_TO port)).raise 0 13 NOTICE 0x34 port else s)

end Sys2Proof.Machine
end

