-- ==== Sys2Proof/Machine/Patrol.lean ====
section
/-!
DEFINITION. Machine/Patrol.lean: patrol of stripes and survey objects (R331, R332, Tables REB-6 and TLY-7), and the survey relayout of a group
reshape (R335).
-/

namespace Sys2Proof.Machine

/-! ### Patrol (R331, R332, Tables REB-6 and TLY-7) -/

/-- A block that patrol finds with neither guard nor reconstruction is lost with CAUSE 2. -/
def State.patrolLost (s : State) (b : BRef) : State :=
  let (k, _, _) := s.shape b.stripe
  if k ≤ b.slab then s else
  match b.stripe with
  | .log g n =>
    let s := s.loseBlock g n b.slab b.blk
    match s.mappedAt ⟨g, n, b.slab, b.blk⟩ with
    | some (ns, lba) => (s.recordLost ns lba 1 2).raiseLay g 14 ERROR 0xF ns
    | none => s
  | .fix g _ _ => match s.fixOwner b with
    | some (n, lba) => (s.recordLost n.nsid lba 1 2).raiseLay g 14 ERROR 0xF n.nsid
    | none => s

/-- One finding of patrol (Table REB-6). -/
def State.patrolFind (s : State) (g : Nat) (all : List BRef) (b : BRef) (kind : Nat) : State :=
  let s := s.bump (F.LAY_PAT_FIX g)
  if kind = 5 then s.patrolLost b else
  match s.slotOf b with
  | none => s
  | some n =>
    let s : State := if kind = 1 then s.readError n false else s
    if kind = 1 && (s.recon all b).isNone then s.loseAt all b.stripe [b.blk]
    else if kind = 1 then s.rewriteBlk all b kind
    else if s.inService n || (s.slot n).state == 3 then s.issueM n 4 (.repair b kind) else s

/-- One stripe under the priority patrol that follows tally loss (Table TLY-7): a check that differs is rewritten and hosts are
marked; where it cannot be compared, the blocks of the missing slabs are a lost range with CAUSE 3. -/
def State.patrolPriority (s : State) (sr : SRef) (differs : Bool) : State :=
  let (k, m, mirror) := s.shape sr
  let out := (List.range (k + m)).filter fun i => !s.writable ⟨sr, i, 0⟩
  let owner := s.fixOwner ⟨sr, 0, 0⟩
  let g := sr.group
  if out.isEmpty then
    if !differs then s else
    let s := ((s.bump F.JNL_FIX_MISMATCH).bump (F.LAY_PAT_FIX g))
    match owner with
    | some (n, _) => (s.markAttached n.nsid).raise 5 8 NOTICE 5 n.nsid
    | none => s
  else if out.length < m && !differs && !mirror then s
  else
    (out.filter fun i => i < k).foldl (fun s i => match s.fixOwner ⟨sr, i, 0⟩ with
      | some (n, lba) => (s.recordLost n.nsid lba (min 16 (n.nsze - lba)) 3).raise 5 9 ERROR 6 n.nsid
      | none => s) s

/-- The place of a fixed stripe: row and number in the row. -/
def fixAt : SRef → Nat × Nat
  | .fix _ r t => (r, t)
  | .log .. => (0, 0)

/-- The stripe that the priority patrol visits next: one that a read waits for, else the next of the pass (R303). -/
def State.nextPriority (s : State) (g : Nat) : Option SRef :=
  let left := (s.fixStripes g).filter fun sr => !(s.group g).patrolled.contains (fixAt sr)
  match left.find? fun sr => s.jobs.any fun j => j.target.stripe == sr && j.awaiting.isEmpty with
  | some sr => some sr
  | none => left.head?

/-- The priority patrol of a group ends: LOST ends with the last of them (Table TLY-8). -/
def State.endPriority (s : State) (g : Nat) : State :=
  let s := (s.updGroup g fun x => { x with priority := false, patrolled := [] }).raise 5 10 INFO 7 g
  if s.groups.any (·.priority) then s else s.wr F.JNL_STAT_LOST 0

/-- Whether a command holds a lock that overlaps the data blocks of a fixed stripe (R152, R332). -/
def State.fixLocked (s : State) (sr : SRef) : Bool :=
  match sr with
  | .log .. => false
  | .fix g row t => match s.fixStripeOf g row t with
    | none => false
    | some (n, j) => let k := (s.geo g).k
      s.cmds.any fun c => c.locks && c.nv.nsid == n.nsid && rangesMeet (cmdRanges c.nv) [(16 * j * k, 16 * k)]

/-- The visit of one stripe of a group under its range locks (R332, Table TLY-7). -/
def State.patrolStripe (s : State) (g : Nat) (sr : SRef) (prio : Bool) (finds : List PatrolFind) : State :=
  let (k, m, _) := s.shape sr
  let s := s.bgIo ((List.range (k + m)).filterMap fun i => s.slabSlot sr i)
  let s := s.chargeTask g (if prio then 0 else 2) (16 * (k + m) * costUnit)
  if prio then
    let s := (s.patrolPriority sr (!finds.isEmpty)).updGroup g fun x => { x with patrolled := fixAt sr :: x.patrolled }
    (s.jobs.filter fun j => j.awaiting.isEmpty && j.target.stripe == sr).foldl (fun (s : State) j => s.pursue j.id) s
  else
    let all := (finds.filter fun f => f.kind == 1).map fun f => BRef.mk sr f.slab f.blk
    finds.foldl (fun s f => if 1 ≤ f.kind && f.kind ≤ 5 then s.patrolFind g all ⟨sr, f.slab, f.blk⟩ f.kind else s) s

/-- The copies of a survey object are read; one that fails R266 is told of and rewritten, as R270 gives (R331). `bad` are the copies that
fail, by number. -/
def State.patrolObj (s : State) (g : Nat) (o : SvyObj) (bad : List Nat) : State :=
  let s := (s.chargeTask g 2 (o.copies.length * costUnit)).bgIo o.copies
  let failed := (o.copies.zipIdx.filter fun p => bad.contains p.2).map (·.1)
  if failed.isEmpty then s else
  let s := failed.foldl (fun s n => (s.bump (F.SVY_COPY_ERR (layRole g))).raiseSvy g 4 NOTICE 1 (n + 256 * g)) s
  if failed.length = o.copies.length && !o.cached then
    ((s.updGroup g fun x => { x with objLost := true }).raiseSvy g 5 ERROR 2 g).startScan g
  else if s.svyWrites then ((s.writeTree g o).writeMember g).syncSvy g else s

/-- PATROL_VISIT (R303, R331, R332): the next stripe of a pass, under its range locks, and after the stripes the next object of the survey
area, each finding naming the number of a copy; at the end of the pass the next begins. -/
def execPatrolVisit (group : Nat) (finds : List PatrolFind) (s : State) : Host.Outcome State Fault Refusal :=
  .next <|
    let gr := s.group group
    let prio := gr.priority
    if gr.scan || !gr.mounted || (!prio && !s.isSet F.LAY_PAT_CFG_PAT_EN) || !s.taskOk group (if prio then 0 else 2) then s else
    let onward := fun (s : State) => s.updGroup group fun x => { x with patrolAt := x.patrolAt + 1 }
    if prio then
      match s.nextPriority group with
      | none => s.endPriority group
      | some sr => if s.fixLocked sr then s else (s.patrolStripe group sr true finds).syncHealth group
    else
      let l := s.patrolList group
      match l[gr.patrolAt]? with
      | some sr => if s.fixLocked sr then s else (onward (s.patrolStripe group sr false finds)).syncHealth group
      | none => match (s.patrolObjs group)[gr.patrolAt - l.length]? with
        | some o => onward (s.patrolObj group o (finds.map (·.slab)))
        | none => s.updGroup group fun x => { x with patrolAt := 0, patrolStart := s.now }

/-! ### Survey relayout (R335) -/

/-- Positions that a group's objects and slots given up hold in the arrangement in force. -/
def State.heldPositions (s : State) (g : Nat) : List (Nat × Nat) := (s.takenSlots g).flatMap (slotPositions (s.svyMembers g))

/-- Slots of the arrangement of a target set for a number of objects, their members in service and their positions free in the one in force. -/
def State.relaySlots (s : State) (g : Nat) (mem : List Nat) (count : Nat) : List Nat :=
  let held := s.heldPositions g
  let t := s.updSvy g fun x => { x with members := some mem }
  let (q, dl) := t.svySlots g
  (((List.range (min (q - dl) ((count + held.length + 1) * (1 + mem.length)))).map (dl + ·)).filter fun k =>
    let p := slotPositions mem k
    (p.map (·.1)).dedup.length == 3 && p.all fun x => s.inService x.1 && !held.contains x).take count

/-- Write every object of a group into slots of the target set's arrangement, and the delta log from its tail. -/
def State.relayout (s : State) (g : Nat) (mem slots : List Nat) : State :=
  let objs := s.objs.filter fun o => o.group == g && o.slot.isSome
  let place := objs.zip slots
  let s : State := { s with
    objs := s.objs.map fun o => match place.find? fun p => p.1 == o with
      | some (_, q) => { o with slot := some q, copies := (slotPositions mem q).map (·.1), dirty := false }
      | none => o }
  (s.updSvy g fun x => { x with members := some mem, wseq := x.wseq + 3 * (objs.length + (x.head - x.tail)), old := [] }).bgIo
    (slots.flatMap fun q => (slotPositions mem q).map (·.1))

/-- RESHAPE_RELAYOUT_DONE (R335): the survey area lies in the arrangement of the target set, and member records name it. While too few of its
slots are free, the relayout waits and the event tells so (R265). -/
def execReshapeRelayoutDone (s : State) : Host.Outcome State Fault Refusal :=
  .next <|
    match s.reshape with
    | some r =>
      if r.mode = 1 && r.phase = 1 && s.svyWrites then
        let g := r.group
        let count := (s.objs.filter fun o => o.group == g && o.slot.isSome).length
        let slots := s.relaySlots g r.members count
        if slots.length < count then s.raiseSvy g 8 NOTICE 5 g else
        let s : State := { s.relayout g r.members slots with reshape := some { r with phase := 2 } }
        ((s.writeMember g).syncReshape).syncSvy g
      else s
    | none => s

end Sys2Proof.Machine
end

