-- ==== Sys2Proof/Machine/Dispatch.lean ====
section
/-! DEFINITION. Machine/Dispatch.lean: one arm for each constructor of Instr, each one call of that command's meaning. -/

namespace Sys2Proof.Machine

def exec (i : Instr) (s : State) : Host.Outcome State Fault Refusal :=
  match i with
  | .flitReceive l taken f => Sys2Proof.Machine.execFlitReceive l taken f s
  | .flitNak l chan seq hdrOk => Sys2Proof.Machine.execFlitNak l chan seq hdrOk s
  | .detectionRepairDone bench o hdrOk => Sys2Proof.Machine.execDetectionRepairDone bench o hdrOk s
  | .livenessTimeout bench hdrOk => Sys2Proof.Machine.execLivenessTimeout bench hdrOk s
  | .selftestComplete bench pass => Sys2Proof.Machine.execSelftestComplete bench pass s
  | .faultedRetestTimer bench => Sys2Proof.Machine.execFaultedRetestTimer bench s
  | .rotationPeriodExpiry cls => Sys2Proof.Machine.execRotationPeriodExpiry cls s
  | .ctlRotNow v => Sys2Proof.Machine.execCtlRotNow v s
  | .ctlRotCfgWrite v => Sys2Proof.Machine.execCtlRotCfgWrite v s
  | .rotationDrained cls => Sys2Proof.Machine.execRotationDrained cls s
  | .timeMarker dev => Sys2Proof.Machine.execTimeMarker dev s
  | .servoUpdate src offset => Sys2Proof.Machine.execServoUpdate src offset s
  | .servoUpdateTimeout => Sys2Proof.Machine.execServoUpdateTimeout s
  | .holdoverExpiry => Sys2Proof.Machine.execHoldoverExpiry s
  | .timSrcCfgWrite v => Sys2Proof.Machine.execTimSrcCfgWrite v s
  | .timSetStep v => Sys2Proof.Machine.execTimSetStep v s
  | .ppsInEdge => Sys2Proof.Machine.execPpsInEdge s
  | .ppsInMissing => Sys2Proof.Machine.execPpsInMissing s
  | .ppsOutSecond => Sys2Proof.Machine.execPpsOutSecond s
  | .ppsOutWidthEnd => Sys2Proof.Machine.execPpsOutWidthEnd s
  | .shotInEdge => Sys2Proof.Machine.execShotInEdge s
  | .shotFire => Sys2Proof.Machine.execShotFire s
  | .shotSched => Sys2Proof.Machine.execShotSched s
  | .shotChainIssue => Sys2Proof.Machine.execShotChainIssue s
  | .shotCancel => Sys2Proof.Machine.execShotCancel s
  | .shotRelease => Sys2Proof.Machine.execShotRelease s
  | .shotTimeReached => Sys2Proof.Machine.execShotTimeReached s
  | .eventRecordDelivery bench => Sys2Proof.Machine.execEventRecordDelivery bench s
  | .eventLogEntry => Sys2Proof.Machine.execEventLogEntry s
  | .evlogCopy => Sys2Proof.Machine.execEvlogCopy s
  | .nrtDataPacket p => Sys2Proof.Machine.execNrtDataPacket p s
  | .nrtAck p => Sys2Proof.Machine.execNrtAck p s
  | .nrtConnect p => Sys2Proof.Machine.execNrtConnect p s
  | .nrtClose p => Sys2Proof.Machine.execNrtClose p s
  | .nrtClosed p => Sys2Proof.Machine.execNrtClosed p s
  | .nrtProbe p => Sys2Proof.Machine.execNrtProbe p s
  | .reassemblyTimeout cid msgId => Sys2Proof.Machine.execReassemblyTimeout cid msgId s
  | .ackDelayExpiry cid => Sys2Proof.Machine.execAckDelayExpiry cid s
  | .rtoExpiry cid => Sys2Proof.Machine.execRtoExpiry cid s
  | .pathProbeTimer cid path => Sys2Proof.Machine.execPathProbeTimer cid path s
  | .creditProbeTimer cid => Sys2Proof.Machine.execCreditProbeTimer cid s
  | .halfOpenTimeout cid => Sys2Proof.Machine.execHalfOpenTimeout cid s
  | .errorHoldExpiry cid => Sys2Proof.Machine.execErrorHoldExpiry cid s
  | .closeRetryExpiry cid => Sys2Proof.Machine.execCloseRetryExpiry cid s
  | .syncDeadline cid => Sys2Proof.Machine.execSyncDeadline cid s
  | .contextFetchDone cid => Sys2Proof.Machine.execContextFetchDone cid s
  | .roceSend p => Sys2Proof.Machine.execRoceSend p s
  | .roceRdmaWrite p => Sys2Proof.Machine.execRoceRdmaWrite p s
  | .roceRdmaReadRequest p => Sys2Proof.Machine.execRoceRdmaReadRequest p s
  | .roceReadResponse p => Sys2Proof.Machine.execRoceReadResponse p s
  | .roceAcknowledge qp psn a ce => Sys2Proof.Machine.execRoceAcknowledge qp psn a ce s
  | .roceAtomicAcknowledge qp psn original ce => Sys2Proof.Machine.execRoceAtomicAcknowledge qp psn original ce s
  | .roceCompareSwap p => Sys2Proof.Machine.execRoceCompareSwap p s
  | .roceFetchAdd p => Sys2Proof.Machine.execRoceFetchAdd p s
  | .roceCnp qp => Sys2Proof.Machine.execRoceCnp qp s
  | .roceAckTimeout qp => Sys2Proof.Machine.execRoceAckTimeout qp s
  | .roceRnrTimer qp => Sys2Proof.Machine.execRoceRnrTimer qp s
  | .roceRateTimer qp => Sys2Proof.Machine.execRoceRateTimer qp s
  | .cmReq r => Sys2Proof.Machine.execCmReq r s
  | .cmRtu qp => Sys2Proof.Machine.execCmRtu qp s
  | .cmDreq qp => Sys2Proof.Machine.execCmDreq qp s
  | .cmDrep qp => Sys2Proof.Machine.execCmDrep qp s
  | .cmRej qp => Sys2Proof.Machine.execCmRej qp s
  | .windowCommitDone op => Sys2Proof.Machine.execWindowCommitDone op s
  | .windowWritebackTimer nsid lba => Sys2Proof.Machine.execWindowWritebackTimer nsid lba s
  | .setFeaturesWindowPublish v => Sys2Proof.Machine.execSetFeaturesWindowPublish v s
  | .setFeaturesWindowRevoke v => Sys2Proof.Machine.execSetFeaturesWindowRevoke v s
  | .getFeaturesWindow v => Sys2Proof.Machine.execGetFeaturesWindow v s
  | .windowRevokeComplete index => Sys2Proof.Machine.execWindowRevokeComplete index s
  | .nvmeFlush v => Sys2Proof.Machine.execNvmeFlush v s
  | .nvmeWrite v => Sys2Proof.Machine.execNvmeWrite v s
  | .nvmeRead v => Sys2Proof.Machine.execNvmeRead v s
  | .nvmeCompare v => Sys2Proof.Machine.execNvmeCompare v s
  | .nvmeWriteZeroes v => Sys2Proof.Machine.execNvmeWriteZeroes v s
  | .nvmeDatasetManagement v => Sys2Proof.Machine.execNvmeDatasetManagement v s
  | .nvmeVerify v => Sys2Proof.Machine.execNvmeVerify v s
  | .unsupportedOpcode v => Sys2Proof.Machine.execUnsupportedOpcode v s
  | .reservationRegister v => Sys2Proof.Machine.execReservationRegister v s
  | .reservationReport v => Sys2Proof.Machine.execReservationReport v s
  | .reservationAcquire v => Sys2Proof.Machine.execReservationAcquire v s
  | .reservationRelease v => Sys2Proof.Machine.execReservationRelease v s
  | .commandAdmission role => Sys2Proof.Machine.execCommandAdmission role s
  | .commandDispatch id dataOk => Sys2Proof.Machine.execCommandDispatch id dataOk s
  | .commandCompletion id => Sys2Proof.Machine.execCommandCompletion id s
  | .getLogPage v => Sys2Proof.Machine.execGetLogPage v s
  | .logPageLostRanges v => Sys2Proof.Machine.execLogPageLostRanges v s
  | .logPageMetering v => Sys2Proof.Machine.execLogPageMetering v s
  | .logPageLayoutHealth v => Sys2Proof.Machine.execLogPageLayoutHealth v s
  | .logPageEventExcerpt v => Sys2Proof.Machine.execLogPageEventExcerpt v s
  | .identify v => Sys2Proof.Machine.execIdentify v s
  | .abort v => Sys2Proof.Machine.execAbort v s
  | .setFeatures v => Sys2Proof.Machine.execSetFeatures v s
  | .getFeatures v => Sys2Proof.Machine.execGetFeatures v s
  | .setFeaturesQosProfile v => Sys2Proof.Machine.execSetFeaturesQosProfile v s
  | .getFeaturesQosProfile v => Sys2Proof.Machine.execGetFeaturesQosProfile v s
  | .setFeaturesQueueOrdering v => Sys2Proof.Machine.execSetFeaturesQueueOrdering v s
  | .getFeaturesQueueOrdering v => Sys2Proof.Machine.execGetFeaturesQueueOrdering v s
  | .asyncEventRequest v => Sys2Proof.Machine.execAsyncEventRequest v s
  | .namespaceCreate v => Sys2Proof.Machine.execNamespaceCreate v s
  | .namespaceDelete v => Sys2Proof.Machine.execNamespaceDelete v s
  | .namespaceSweep nsid gen => Sys2Proof.Machine.execNamespaceSweep nsid gen s
  | .namespaceAttach v => Sys2Proof.Machine.execNamespaceAttach v s
  | .namespaceDetach v => Sys2Proof.Machine.execNamespaceDetach v s
  | .detachComplete cmd => Sys2Proof.Machine.execDetachComplete cmd s
  | .formatNvm v => Sys2Proof.Machine.execFormatNvm v s
  | .firmwareImageDownload v => Sys2Proof.Machine.execFirmwareImageDownload v s
  | .firmwareCommitWrite v x => Sys2Proof.Machine.execFirmwareCommitWrite v x s
  | .firmwareCommitWritePrefer v x => Sys2Proof.Machine.execFirmwareCommitWritePrefer v x s
  | .firmwareCommitPrefer v x => Sys2Proof.Machine.execFirmwareCommitPrefer v x s
  | .firmwareCommitActivate v x => Sys2Proof.Machine.execFirmwareCommitActivate v x s
  | .keepAlive v => Sys2Proof.Machine.execKeepAlive v s
  | .createIoSq v => Sys2Proof.Machine.execCreateIoSq v s
  | .createIoCq v => Sys2Proof.Machine.execCreateIoCq v s
  | .deleteIoSq v => Sys2Proof.Machine.execDeleteIoSq v s
  | .deleteIoCq v => Sys2Proof.Machine.execDeleteIoCq v s
  | .fabricsConnect cid v => Sys2Proof.Machine.execFabricsConnect cid v s
  | .propertyGet v => Sys2Proof.Machine.execPropertyGet v s
  | .propertySet v => Sys2Proof.Machine.execPropertySet v s
  | .propertySetCcEnClear v => Sys2Proof.Machine.execPropertySetCcEnClear v s
  | .propertySetCcShn v => Sys2Proof.Machine.execPropertySetCcShn v s
  | .propertySetNssr v => Sys2Proof.Machine.execPropertySetNssr v s
  | .authenticationSend v m => Sys2Proof.Machine.execAuthenticationSend v m s
  | .authenticationReceive v => Sys2Proof.Machine.execAuthenticationReceive v s
  | .keepAliveExpiry ctl => Sys2Proof.Machine.execKeepAliveExpiry ctl s
  | .shutdownComplete ctl => Sys2Proof.Machine.execShutdownComplete ctl s
  | .memberWaitNotice id => Sys2Proof.Machine.execMemberWaitNotice id s
  | .authLockoutExpiry ident => Sys2Proof.Machine.execAuthLockoutExpiry ident s
  | .grantPeriod => Sys2Proof.Machine.execGrantPeriod s
  | .cmdQosCfgWrite v => Sys2Proof.Machine.execCmdQosCfgWrite v s
  | .cmdQosGcapWrite g v => Sys2Proof.Machine.execCmdQosGcapWrite g v s
  | .meterSaveTimer => Sys2Proof.Machine.execMeterSaveTimer s
  | .sealTimeExpiry group stripe => Sys2Proof.Machine.execSealTimeExpiry group stripe s
  | .stripeSeal group stripe bad check => Sys2Proof.Machine.execStripeSeal group stripe bad check s
  | .sealWaitExpiry group stripe => Sys2Proof.Machine.execSealWaitExpiry group stripe s
  | .stripeRelease group stripe => Sys2Proof.Machine.execStripeRelease group stripe s
  | .spoilReclaimVictim group bad => Sys2Proof.Machine.execSpoilReclaimVictim group bad s
  | .tallyRecordWritten => Sys2Proof.Machine.execTallyRecordWritten s
  | .tallyRecordDurable seq => Sys2Proof.Machine.execTallyRecordDurable seq s
  | .tallyControlBlockTimer => Sys2Proof.Machine.execTallyControlBlockTimer s
  | .surveyObjectLoaded group kind level owner index bad => Sys2Proof.Machine.execSurveyObjectLoaded group kind level owner index bad s
  | .surveyWritebackDone group => Sys2Proof.Machine.execSurveyWritebackDone group s
  | .deltaLogBlockAcked group => Sys2Proof.Machine.execDeltaLogBlockAcked group s
  | .memberRecordTimer group => Sys2Proof.Machine.execMemberRecordTimer group s
  | .surveyRebuildScan group freed found => Sys2Proof.Machine.execSurveyRebuildScan group freed found s
  | .objectRehome group => Sys2Proof.Machine.execObjectRehome group s
  | .memberCommandAge slot => Sys2Proof.Machine.execMemberCommandAge slot s
  | .memberFailTimer slot => Sys2Proof.Machine.execMemberFailTimer slot s
  | .memberReturnExpiry slot => Sys2Proof.Machine.execMemberReturnExpiry slot s
  | .driveOffer slot r => Sys2Proof.Machine.execDriveOffer slot r s
  | .layMcmdDrain slot => Sys2Proof.Machine.execLayMcmdDrain slot s
  | .layMcmdFail slot => Sys2Proof.Machine.execLayMcmdFail slot s
  | .layMcmdJoin slot => Sys2Proof.Machine.execLayMcmdJoin slot s
  | .layMcmdForget slot => Sys2Proof.Machine.execLayMcmdForget slot s
  | .reconciliationDone slot => Sys2Proof.Machine.execReconciliationDone slot s
  | .joinRecordWritten slot => Sys2Proof.Machine.execJoinRecordWritten slot s
  | .rebuildIndexSweep group => Sys2Proof.Machine.execRebuildIndexSweep group s
  | .rebuildStripe group bad => Sys2Proof.Machine.execRebuildStripe group bad s
  | .tailCutDeadline job => Sys2Proof.Machine.execTailCutDeadline job s
  | .regionResync slot bad => Sys2Proof.Machine.execRegionResync slot bad s
  | .patrolVisit group finds => Sys2Proof.Machine.execPatrolVisit group finds s
  | .reshapeStart v => Sys2Proof.Machine.execReshapeStart v s
  | .reshapeSwitchover => Sys2Proof.Machine.execReshapeSwitchover s
  | .cipXtsEnc r => Sys2Proof.Machine.execCipXtsEnc r s
  | .cipXtsDec r => Sys2Proof.Machine.execCipXtsDec r s
  | .cipXtsZero r => Sys2Proof.Machine.execCipXtsZero r s
  | .cipGcmSeal r => Sys2Proof.Machine.execCipGcmSeal r s
  | .cipGcmOpen r => Sys2Proof.Machine.execCipGcmOpen r s
  | .cipCtr r => Sys2Proof.Machine.execCipCtr r s
  | .cipKeyZero r => Sys2Proof.Machine.execCipKeyZero r s
  | .cipResult role f hdrOk => Sys2Proof.Machine.execCipResult role f hdrOk s
  | .keyLoadDone role slot intact => Sys2Proof.Machine.execKeyLoadDone role slot intact s
  | .memRegionReady r => Sys2Proof.Machine.execMemRegionReady r s
  | .dimmTempChange channel celsius => Sys2Proof.Machine.execDimmTempChange channel celsius s
  | .lineFillDone nsid lba fails => Sys2Proof.Machine.execLineFillDone nsid lba fails s
  | .lineWritebackDone nsid lba => Sys2Proof.Machine.execLineWritebackDone nsid lba s
  | .cacheSetEn => Sys2Proof.Machine.execCacheSetEn s
  | .cacheClrEn => Sys2Proof.Machine.execCacheClrEn s
  | .cacheDisableComplete => Sys2Proof.Machine.execCacheDisableComplete s
  | .mntClean all => Sys2Proof.Machine.execMntClean all s
  | .mntInvalidate all => Sys2Proof.Machine.execMntInvalidate all s
  | .mntComplete => Sys2Proof.Machine.execMntComplete s
  | .memberCompletion tag cq ok got warn => Sys2Proof.Machine.execMemberCompletion tag cq ok got warn s
  | .memberDmaRequest slot write addr len => Sys2Proof.Machine.execMemberDmaRequest slot write addr len s
  | .memberErrorMessage slot kind => Sys2Proof.Machine.execMemberErrorMessage slot kind s
  | .driveLinkDown slot => Sys2Proof.Machine.execDriveLinkDown slot s
  | .drvNonpostedTimeout slot => Sys2Proof.Machine.execDrvNonpostedTimeout slot s
  | .containmentRecovery slot => Sys2Proof.Machine.execContainmentRecovery slot s
  | .driveEnumerated slot f => Sys2Proof.Machine.execDriveEnumerated slot f s
  | .healthPoll slot => Sys2Proof.Machine.execHealthPoll slot s
  | .trimGatherExpiry slot => Sys2Proof.Machine.execTrimGatherExpiry slot s
  | .sbcFrame inputs => Sys2Proof.Machine.execSbcFrame inputs s
  | .drvPowerOn slot => Sys2Proof.Machine.execDrvPowerOn slot s
  | .drvPowerOff slot => Sys2Proof.Machine.execDrvPowerOff slot s
  | .driveStageTimer => Sys2Proof.Machine.execDriveStageTimer s
  | .perstReleaseTimer slot => Sys2Proof.Machine.execPerstReleaseTimer slot s
  | .fenceWriteWindowEnd => Sys2Proof.Machine.execFenceWriteWindowEnd s
  | .macLinkUp mac common eee => Sys2Proof.Machine.execMacLinkUp mac common eee s
  | .macLinkDown mac atPort => Sys2Proof.Machine.execMacLinkDown mac atPort s
  | .ethFrameReceive mac f => Sys2Proof.Machine.execEthFrameReceive mac f s
  | .ethFrameTransmit mac cls own => Sys2Proof.Machine.execEthFrameTransmit mac cls own s
  | .pauseFrame mac quanta => Sys2Proof.Machine.execPauseFrame mac quanta s
  | .pfcFrame mac quanta => Sys2Proof.Machine.execPfcFrame mac quanta s
  | .pauseTimeExpiry mac cls => Sys2Proof.Machine.execPauseTimeExpiry mac cls s
  | .pauseRepeatTimer mac cls => Sys2Proof.Machine.execPauseRepeatTimer mac cls s
  | .pauseSendCap mac cls => Sys2Proof.Machine.execPauseSendCap mac cls s
  | .pfcWatchdogDetect mac cls atPort => Sys2Proof.Machine.execPfcWatchdogDetect mac cls atPort s
  | .pfcWatchdogRestore mac cls => Sys2Proof.Machine.execPfcWatchdogRestore mac cls s
  | .lpiIdleExpiry mac => Sys2Proof.Machine.execLpiIdleExpiry mac s
  | .lldpEeeTlv mac rxTw => Sys2Proof.Machine.execLldpEeeTlv mac rxTw s
  | .ptpMessage m => Sys2Proof.Machine.execPtpMessage m s
  | .prtStatRead path port sub idx hi => Sys2Proof.Machine.execPrtStatRead path port sub idx hi s
  | .haulForwardFrame fromMac cls toMac f => Sys2Proof.Machine.execHaulForwardFrame fromMac cls toMac f s
  | .epLinkUp speed width => Sys2Proof.Machine.execEpLinkUp speed width s
  | .epLinkReset kind => Sys2Proof.Machine.execEpLinkReset kind s
  | .epFlr f => Sys2Proof.Machine.execEpFlr f s
  | .epBmeWrite f on => Sys2Proof.Machine.execEpBmeWrite f on s
  | .epPowerState f d3 => Sys2Proof.Machine.execEpPowerState f d3 s
  | .epVfEnable num => Sys2Proof.Machine.execEpVfEnable num s
  | .epDoorbell f qid cq val => Sys2Proof.Machine.execEpDoorbell f qid cq val s
  | .epCcEnable f cc aqa => Sys2Proof.Machine.execEpCcEnable f cc aqa s
  | .epSqeFetched tag es => Sys2Proof.Machine.execEpSqeFetched tag es s
  | .epReadCompletion tag status data => Sys2Proof.Machine.execEpReadCompletion tag status data s
  | .epCompletionTimeout tag ctoUs => Sys2Proof.Machine.execEpCompletionTimeout tag ctoUs s
  | .epQuarantineExpiry tag ctoUs => Sys2Proof.Machine.execEpQuarantineExpiry tag ctoUs s
  | .epL1Idle aspm => Sys2Proof.Machine.execEpL1Idle aspm s
  | .epLtrIdle => Sys2Proof.Machine.execEpLtrIdle s
  | .epMsixUnmask f vector => Sys2Proof.Machine.execEpMsixUnmask f vector s
  | .controllerStart bootSel slotB flash => Sys2Proof.Machine.execControllerStart bootSel slotB flash s
  | .resetAssert kind => Sys2Proof.Machine.execResetAssert kind s
  | .bootStepEnd e => Sys2Proof.Machine.execBootStepEnd e s
  | .memberWaitExpiry slot => Sys2Proof.Machine.execMemberWaitExpiry slot s
  | .timeWaitExpiry => Sys2Proof.Machine.execTimeWaitExpiry s
  | .serviceStart => Sys2Proof.Machine.execServiceStart s
  | .standbyServiceStart => Sys2Proof.Machine.execStandbyServiceStart s
  | .chainAddr crcOk a => Sys2Proof.Machine.execChainAddr crcOk a s
  | .chainAddrAck crcOk maxCount units => Sys2Proof.Machine.execChainAddrAck crcOk maxCount units s
  | .addrRepeatTimer => Sys2Proof.Machine.execAddrRepeatTimer s
  | .headWaitExpiry => Sys2Proof.Machine.execHeadWaitExpiry s
  | .treqTimer => Sys2Proof.Machine.execTreqTimer s
  | .chainTreq crcOk eseq => Sys2Proof.Machine.execChainTreq crcOk eseq s
  | .chainTresp crcOk eseq t2 t3 => Sys2Proof.Machine.execChainTresp crcOk eseq t2 t3 s
  | .chainShot crcOk t issuer fromUp => Sys2Proof.Machine.execChainShot crcOk t issuer fromUp s
  | .chainReset crcOk src fromUp => Sys2Proof.Machine.execChainReset crcOk src fromUp s
  | .chnChainResetCmd => Sys2Proof.Machine.execChnChainResetCmd s
  | .chainMgmt crcOk dst kind relay src command cc detail r fromUp => Sys2Proof.Machine.execChainMgmt crcOk dst kind relay src command cc detail r fromUp s
  | .chainUpstreamLost => Sys2Proof.Machine.execChainUpstreamLost s
  | .chainUpstreamRestored => Sys2Proof.Machine.execChainUpstreamRestored s
  | .haulFrameReceive half chan seq ack nak tagOk body => Sys2Proof.Machine.execHaulFrameReceive half chan seq ack nak tagOk body s
  | .haulResendTimer half => Sys2Proof.Machine.execHaulResendTimer half s
  | .haulHalfDown half => Sys2Proof.Machine.execHaulHalfDown half s
  | .haulHalfUp half => Sys2Proof.Machine.execHaulHalfUp half s
  | .heartbeatTimer => Sys2Proof.Machine.execHeartbeatTimer s
  | .heartbeatBeat haul bseq role gen => Sys2Proof.Machine.execHeartbeatBeat haul bseq role gen s
  | .goodbye => Sys2Proof.Machine.execGoodbye s
  | .heartbeatMiss haul => Sys2Proof.Machine.execHeartbeatMiss haul s
  | .activeFenceWait => Sys2Proof.Machine.execActiveFenceWait s
  | .fenceHoldExpiry => Sys2Proof.Machine.execFenceHoldExpiry s
  | .pairWaitExpiry => Sys2Proof.Machine.execPairWaitExpiry s
  | .mirrorItem mseq body => Sys2Proof.Machine.execMirrorItem mseq body s
  | .mirrorMack mseq => Sys2Proof.Machine.execMirrorMack mseq s
  | .hello h => Sys2Proof.Machine.execHello h s
  | .resyncCopy tag body => Sys2Proof.Machine.execResyncCopy tag body s
  | .halHandoverCmd => Sys2Proof.Machine.execHalHandoverCmd s
  | .halUnfenceCmd => Sys2Proof.Machine.execHalUnfenceCmd s
  | .handoverDrainEnd => Sys2Proof.Machine.execHandoverDrainEnd s
  | .handoverItem mseq => Sys2Proof.Machine.execHandoverItem mseq s
  | .handoverTimeout => Sys2Proof.Machine.execHandoverTimeout s
  | .benchReloadDone partner bench ok last => Sys2Proof.Machine.execBenchReloadDone partner bench ok last s
  | .holdMessage bench => Sys2Proof.Machine.execHoldMessage bench s
  | .holdTimeout => Sys2Proof.Machine.execHoldTimeout s
  | .ctlLiveReload bench => Sys2Proof.Machine.execCtlLiveReload bench s
  | .ctlLiveRetire => Sys2Proof.Machine.execCtlLiveRetire s
  | .retireMessage => Sys2Proof.Machine.execRetireMessage s
  | .avsTimer low above answers => Sys2Proof.Machine.execAvsTimer low above answers s
  | .haulRecalTimer half => Sys2Proof.Machine.execHaulRecalTimer half s
  | .memRetrainTimer channel rank drift => Sys2Proof.Machine.execMemRetrainTimer channel rank drift s
  | .memZqTimer channel rank => Sys2Proof.Machine.execMemZqTimer channel rank s
  | .timeAlignTimer dev => Sys2Proof.Machine.execTimeAlignTimer dev s
  | .truSvnCommit => Sys2Proof.Machine.execTruSvnCommit s
  | .tokenRevoke area => Sys2Proof.Machine.execTokenRevoke area s
  | .tokenDebugUnlock area => Sys2Proof.Machine.execTokenDebugUnlock area s
  | .tokenOwnerSeed area => Sys2Proof.Machine.execTokenOwnerSeed area s
  | .tokenDebugDisable area => Sys2Proof.Machine.execTokenDebugDisable area s
  | .truNonceRead => Sys2Proof.Machine.execTruNonceRead s
  | .tamperTrip cause => Sys2Proof.Machine.execTamperTrip cause s
  | .trngHealthFail => Sys2Proof.Machine.execTrngHealthFail s
  | .thermtrip => Sys2Proof.Machine.execThermtrip s
  | .pairingMessage m => Sys2Proof.Machine.execPairingMessage m s
  | .spdmGetVersion path => Sys2Proof.Machine.execSpdmGetVersion path s
  | .spdmGetCapabilities path => Sys2Proof.Machine.execSpdmGetCapabilities path s
  | .spdmNegotiateAlgorithms path offered => Sys2Proof.Machine.execSpdmNegotiateAlgorithms path offered s
  | .spdmGetDigests path => Sys2Proof.Machine.execSpdmGetDigests path s
  | .spdmGetCertificate path slot ofs len => Sys2Proof.Machine.execSpdmGetCertificate path slot ofs len s
  | .spdmChallenge path slot nonce => Sys2Proof.Machine.execSpdmChallenge path slot nonce s
  | .spdmGetMeasurements path index nonce sign => Sys2Proof.Machine.execSpdmGetMeasurements path index nonce sign s
  | .mgtRegRead path r => Sys2Proof.Machine.execMgtRegRead path r s
  | .mgtRegWrite path r => Sys2Proof.Machine.execMgtRegWrite path r s
  | .mgtRegModify path r => Sys2Proof.Machine.execMgtRegModify path r s
  | .mgtEvSubscribe path r => Sys2Proof.Machine.execMgtEvSubscribe path r s
  | .mgtLogRead path r => Sys2Proof.Machine.execMgtLogRead path r s
  | .mgtIdentSet path r unwraps => Sys2Proof.Machine.execMgtIdentSet path r unwraps s
  | .mgtIdentDereg path r => Sys2Proof.Machine.execMgtIdentDereg path r s
  | .mgtIdentGet path r => Sys2Proof.Machine.execMgtIdentGet path r s
  | .mgtQosSet path r => Sys2Proof.Machine.execMgtQosSet path r s
  | .mgtQosGet path r => Sys2Proof.Machine.execMgtQosGet path r s
  | .evNotifyResponse path eid => Sys2Proof.Machine.execEvNotifyResponse path eid s
  | .evNotifyTimer path eid => Sys2Proof.Machine.execEvNotifyTimer path eid s
  | .relayTimeout tag => Sys2Proof.Machine.execRelayTimeout tag s
  | .mctpSetEndpointId path op eid => Sys2Proof.Machine.execMctpSetEndpointId path op eid s
  | .mctpGetEndpointId path => Sys2Proof.Machine.execMctpGetEndpointId path s
  | .mctpGetEndpointUuid path => Sys2Proof.Machine.execMctpGetEndpointUuid path s
  | .mctpGetVersionSupport path typ => Sys2Proof.Machine.execMctpGetVersionSupport path typ s
  | .mctpGetMessageTypeSupport path => Sys2Proof.Machine.execMctpGetMessageTypeSupport path s
  | .mctpGetVendorSupport path selector => Sys2Proof.Machine.execMctpGetVendorSupport path selector s
  | .nvmeMiBasicManagement port x => Sys2Proof.Machine.execNvmeMiBasicManagement port x s
  | .nvmeMiReadDataStructure path typ port ctl => Sys2Proof.Machine.execNvmeMiReadDataStructure path typ port ctl s
  | .nvmeMiSubsystemHealthPoll path x => Sys2Proof.Machine.execNvmeMiSubsystemHealthPoll path x s
  | .nvmeMiControllerHealthPoll path first x => Sys2Proof.Machine.execNvmeMiControllerHealthPoll path first x s
  | .nvmeMiConfigurationGet path id port => Sys2Proof.Machine.execNvmeMiConfigurationGet path id port s
  | .nvmeMiConfigurationSet path id port val => Sys2Proof.Machine.execNvmeMiConfigurationSet path id port val s
  | .bar2Access write addr words => Sys2Proof.Machine.execBar2Access write addr words s
  | .smbusTimeout port => Sys2Proof.Machine.execSmbusTimeout port s
  | .benchLockSet bench => Sys2Proof.Machine.execBenchLockSet bench s
  | .halfLatchRead path addr => Sys2Proof.Machine.execHalfLatchRead path addr s
  | .registerWrite path addr v => Sys2Proof.Machine.execRegisterWrite path addr v s
  | .chainDownstreamUndriven => Sys2Proof.Machine.execChainDownstreamUndriven s
  | .windowCeilingEligible op => Sys2Proof.Machine.execWindowCeilingEligible op s
  | .fenceStartDelayExpiry => Sys2Proof.Machine.execFenceStartDelayExpiry s
  | .reshapeRelayoutDone => Sys2Proof.Machine.execReshapeRelayoutDone s
  | .epCcEnClear f => Sys2Proof.Machine.execEpCcEnClear f s
  | .epCcShnWrite f shn => Sys2Proof.Machine.execEpCcShnWrite f shn s
  | .epNssrWrite f val => Sys2Proof.Machine.execEpNssrWrite f val s
  | .flashWriteDone e => Sys2Proof.Machine.execFlashWriteDone e s
  | .jtagInstructionLoad ins => Sys2Proof.Machine.execJtagInstructionLoad ins s
  | .regionZeroFill nsid region => Sys2Proof.Machine.execRegionZeroFill nsid region s
  | .driveLinkTrainingTimeout slot => Sys2Proof.Machine.execDriveLinkTrainingTimeout slot s
  | .shotOutPulseEnd => Sys2Proof.Machine.execShotOutPulseEnd s

end Sys2Proof.Machine
end

