-- ==== Sys2Proof/Machine/Tick.lean ====
section
/-!
DEFINITION. Machine/Tick.lean: what one cycle of TIM's 2 GHz clock does to the master count (R34, R36), and CTL's reading of the
stamp queues (R444).
-/

namespace Sys2Proof.Machine

/-- The signed rate adjustment in units of 2^-32 unit for each cycle (TIM_RATE). -/
def State.rate (s : State) : Int := signedOf 32 (s.rd F.TIM_RATE)

/-- CTL reads the transmit stamps waiting in the ports' queues (R444), in port order. DESIGN CHOICE (log entry 166): it does so when no
command waits. -/
def State.readStamps (s : State) : State :=
  if s.eports.all fun e => e.stamps.isEmpty then s else
  { s with
    eports := s.eports.map fun e => { e with stamps := [] }
    out := ((s.eports.flatMap fun e => e.stamps).map fun p => Out.ptpTxStamp p.1 p.2.1 p.2.2).reverse ++ s.out }

/-- One cycle of TIM's clock: the count with its fraction advances by 2 units plus the rate adjustment (R34, R36), and CTL
reads the stamp queues. -/
def State.tick (s : State) : State :=
  let s := s.readStamps
  let total : Int := (s.tim.frac : Int) + 2 * 4294967296 + s.rate
  s.updTim fun t => { t with count := t.count + BitVec.ofInt 64 (total / 4294967296), frac := (total % 4294967296).toNat }

end Sys2Proof.Machine
end

