-- ==== Sys2Proof/Safety.lean ====
section
/-!
DEFINITION. Safety.lean: what the statements are said in: that a command completes, that a state is sound, and the words of the
register file that raising events can change.
-/

namespace Sys2Proof

open Machine

/-- The command answers a next state, and that state satisfies P. -/
def Completes (c : Instr) (s : State) (P : State → Prop) : Prop := ∃ t, exec c s = .next t ∧ P t

/-- The fuses hold what fuses can hold (Table TRU-1, R587): at most 64 bits of each version set, a life-cycle state and four
revocation bits. -/
def FusesSound (f : Fuses) : Prop := f.fwSvn ≤ 64 ∧ f.ownSvn ≤ 64 ∧ f.life < 16 ∧ f.frevoke < 16

/-- No fuse comes back: versions, revocations and life-cycle bits only grow (R587, R588). -/
def FusesGrow (a b : Fuses) : Prop :=
  a.fwSvn ≤ b.fwSvn ∧ a.ownSvn ≤ b.ownSvn ∧ a.frevoke ||| b.frevoke = b.frevoke ∧ a.life ||| b.life = b.life

/-- What holds of a state that a run can reach: the register file is canonical, the fuses are sound, and the benches are the 57 of
Table ARC-1. -/
def Sound (s : State) : Prop := RegFile.wf s.regs = true ∧ FusesSound s.fuses ∧ s.bench.length = 57

/-- The home keys that raising an event changes at a bench: BENCH_EV_STAT, BENCH_EV_OVF, BENCH_ERR_DET and BENCH_ERR_UNREC. -/
def eventKey (k : Nat) : Bool :=
  k < 64 * 0x100000 && (k % 0x100000 == 0x14 || k % 0x100000 == 0x1c || k % 0x100000 == 0x20 || k % 0x100000 == 0x24)

/-- Every register word is as before but for those of a test and those that raising an event changes. -/
def WordsKept (touched : Nat → Prop) (s t : State) : Prop :=
  ∀ k, eventKey k = false → ¬touched k → t.word k = s.word k

/-- The commands that can carry a write of a register, TRU_CTL among them. -/
def writesRegister (c : Instr) : Prop :=
  match c with
  | .registerWrite .. | .mgtRegWrite .. | .mgtRegModify .. | .bar2Access .. | .chainMgmt .. => True
  | _ => False

/-- The unit refuses a commit of its security versions (R587). -/
def refusesCommit (s : State) : Prop :=
  s.stepDone 15 = false ∨ s.boot.bank ≠ s.flash.preferred ∨ s.phase ≠ 0 ∨ s.rd F.CTL_BOOT_STAT_OWNER = 2

/-- What a command sent: the output that t holds beyond that of s, the newest first. -/
def newOut (s t : State) : List Out := t.out.take (t.out.length - s.out.length)

/-- An NRT packet of a type to the peer of a connection on a path, from the connection's source port of that path and with its
cumulative point (R71, R83, R89). -/
def isNrt (c : Conn) (typ path : Nat) (o : Out) : Bool :=
  match o with
  | .nrt a sp _ h _ _ => a == c.peerAddr && sp == c.sport + path && h.typ == typ && h.path == path && h.dcid == c.peerCid && h.ackPsn == c.rcvPsn
  | _ => false

/-- A REFUSE with a reason to the source of a CONNECT (R72, R73). -/
def isRefuse (p : NrtPkt) (why : Nat) (o : Out) : Bool :=
  match o with
  | .nrt a sp dp h _ (.setup x) =>
    a == p.srcAddr && sp == p.udpPort && dp == p.srcPort && h.typ == 5 && h.psn == 0 && x.nonce == (parseSetup p.payload).nonce && x.reason == why
  | _ => false

/-! ### What reaches a connection -/

/-- A packet that passes the checks of R72 (Table XPT-6) on a connection whose context is in the bank. -/
def nrtFrom (s : State) (p : NrtPkt) (c : Conn) : Bool :=
  p.udpPort == s.rd F.XPT_NRT_PORT_UDP_PORT && s.isSet F.XPT_CTX_CFG_NRT_EN && p.crc == nrtCrc p.toNrtHdr p.ext p.payload && nrtDefined p &&
    s.nrtConn? p == some c && !c.spilled

/-- A compatible-mode packet that passes the checks of R72 on a queue pair whose context is in the bank. -/
def roceFrom (s : State) (p : RocePkt) (c : Conn) : Bool :=
  s.isSet F.XPT_CTX_CFG_ROCE_EN && p.crcOk && p.service == .rc && !p.imm && !p.inv && s.conn? p.qp == some c && c.mode == .roce && !c.spilled

/-- A message is with a connection's send stream: it waits there, or a packet of it is unacknowledged. -/
def sentOrWaiting (t : State) (cid : Nat) (b : OutBody) : Bool :=
  (t.conn? cid).any fun c => c.waiting.any (fun m => m.body == b) || c.una.any fun p => p.body == b

/-- The completion of a command is with the connection of its queue. -/
def answered (s t : State) (v : NvmeCmd) (dw0 : Nat) (st : Status) : Bool :=
  match (s.queueOf v).bind (·.conn) with
  | some cid => sentOrWaiting t cid (.response v.cid dw0 st.sct st.sc st.dnr)
  | none => false

/-- A command capsule that its queue has room for (R133, R157): its controller is not shut down, its queue is bound to a
connection, and the number it will get is free. -/
def queueRoom (s : State) (v : NvmeCmd) : Bool :=
  (s.ctrl? v.ctl).any (fun k => !k.shutdown) && (s.queueOf v).any (fun q => q.conn.any fun c => (s.conn? c).isSome) &&
    !s.overQueue v && (s.cmd? s.nextCmd).isNone

/-- A command capsule that its queue takes: it has room, and it asks for no authentication first (R180). -/
def queueTakes (s : State) (v : NvmeCmd) : Bool := queueRoom s v && !s.needsAuth v

/-- An admin-queue command of an identified host that passes the common checks (R136, R139) at an unpaired unit. -/
def adminFits (s : State) (v : NvmeCmd) : Bool :=
  v.qid == 0 && queueRoom s v && (s.ctrl? v.ctl).any (fun k => k.ident.isSome) && !s.commonField v &&
    !aboveMdts v && (sglCheck (s.onEndpoint v) (toHostCmd v) 0 v.sgl).isNone && !s.paired

/-- The same where the queue asks for no authentication first. -/
def adminReady (s : State) (v : NvmeCmd) : Bool := adminFits s v && !s.needsAuth v

/-- An admin command on the admin queue of an endpoint function (R476, R482), at an unpaired unit. -/
def epReady (s : State) (v : NvmeCmd) : Bool :=
  v.qid == 0 && (s.ctrl? v.ctl).any (fun k => !k.shutdown && k.ident.isSome && k.func.isSome) && (s.queueOf v).any (fun q => q.conn.isNone) &&
    !s.needsAuth v && !s.commonField v && !aboveMdts v && (sglCheck true (toHostCmd v) 0 v.sgl).isNone && (s.cmd? s.nextCmd).isNone && !s.paired

/-- A reservation command that its queue takes, whose order is met, whose ceilings permit it and whose checks pass at a unit
that serves (R140, R166, R189). -/
def resvReady (s : State) (v : NvmeCmd) : Bool :=
  let u := s.deliverIo v
  v.qid != 0 && queueTakes s v && !s.paired && u.serving_ && (u.cmd? s.nextCmd).any fun c =>
    c.result.isNone && !c.ordered && u.orderMet c && u.due c.readyAt && (u.ioCheck c).isNone && c.ident.isSome

/-- A vendor request for this unit that its path permits and that need not wait (R612, R616, R617, R619 to R621): the start is not stopped,
the path is open with room for a request, and the request is whole and well formed. -/
def mgtTakes (s : State) (path command : Nat) (r : VendorReq) : Bool :=
  !s.truOnly && s.mctpOpen path && s.unanswered path < 4 && (2 ≤ path || r.pec) && r.body.length ≤ 1016 && r.zero && r.unit == 0xFF &&
    bodyCode command r.body == 0 && s.permits path (kindOf command) &&
    !s.requestWaits { partner := false, path := path, eid := r.eid, relay := 0 } command r.body

/-- An SPDM request that TRU answers (R593): the path is up, has an EID and permits SPDM, step 8 of Table TRU-2 has ended and the
negotiation has come as far as the request needs. -/
def spdmTakes (s : State) (path least : Nat) : Bool :=
  s.pathUp path && s.eid path != 0 && s.isSet (F.CTL_MGT_PATH_SPDM path) && s.rd F.TRU_STAT_STEP == 8 && least ≤ s.spdmAt path

end Sys2Proof
end

