-- ==== Sys2Proof/Certificates/Slice0/Obligations.lean ====
section
/-!
DEFINITION. Certificates/Slice0/Obligations.lean: the statements about the block, one proposition for each.
-/

open Sys2Proof Sys2Proof.Machine Sys2Proof.Machine.NvmeFields

/-- A step runs the command at the front of the queue on the state that holds the queue's rest. -/
def Obligations.StepRunsTheFront : Prop :=
  ∀ (c : Instr) (s : State), step { s with pending := c :: s.pending } = exec c s

/-- On an empty queue a step is one cycle of the 2 GHz clock (DESIGN CHOICE, log entry 3): 2 units at rate 0 (R36). -/
def Obligations.EmptyQueueTicks : Prop :=
  ∀ s : State, s.pending = [] → s.rd F.TIM_RATE = 0 → s.tim.frac < 4294967296 →
      step s = .next { s with tim := { s.tim with count := s.tim.count + 2 } }

/-- Every command answers a next state and leaves the queue alone -/
def Obligations.EveryCommandAnswers : Prop :=
  ∀ (c : Instr) (s : State), ∃ t, exec c s = .next t ∧ t.pending = s.pending

/-- The state after reset is sound -/
def Obligations.ResetIsSound : Prop :=
  Sound State.reset

/-- What a cold power-on leaves -/
def Obligations.ResetLeaves : Prop :=
  State.reset.tim.count = 0 ∧ State.reset.boot.held.isSome = true ∧ State.reset.boot.ended = [] ∧ State.reset.role = 0 ∧
      State.reset.isSet F.TIM_STAT_SERVING = false ∧ (∀ b, (State.reset.benchAt b).state = .off) ∧
      (∀ b, b < 57 → State.reset.rd (F.BENCH_EV_EN b) = 0xFFFF) ∧ State.reset.rd F.CTL_ROT_CFG_PERIOD_MIN = 10 ∧
      State.reset.rd F.CTL_LIVE_STAT_BENCH = 63 ∧ State.reset.rd F.CTL_AVS_STAT_MV = 750 ∧ State.reset.conns = [] ∧
      State.reset.cmds = [] ∧ State.reset.nss = [] ∧ (∀ n, (State.reset.slot n).drive = none)

/-- Every step keeps the state sound -/
def Obligations.SoundIsKept : Prop :=
  ∀ s t : State, Sound s → step s = .next t → Sound t

/-- R587 over every command of the block; the 50 ms of an accepted commit are timing. -/
def Obligations.SecurityVersions : Prop :=
  (∀ (c : Instr) (s t : State), exec c s = .next t → FusesGrow s.fuses t.fuses ∧
      ((t.fuses.fwSvn ≠ s.fuses.fwSvn ∨ t.fuses.ownSvn ≠ s.fuses.ownSvn) → c = .truSvnCommit ∨ writesRegister c)) ∧
      (∀ s : State, s.truRuns = true → refusesCommit s →
      Completes .truSvnCommit s (fun t => t = s.wr F.TRU_STAT_CMD_REFUSED 1 ∧ t.fuses = s.fuses)) ∧
      (∀ (s : State) (b : BankImg), s.truRuns = true → ¬refusesCommit s → s.boot.img = some b → (s.benchAt 1).state ≠ .off →
      Completes .truSvnCommit s (fun t =>
      t.fuses = { s.fuses with fwSvn := max s.fuses.fwSvn (min 64 b.fwSvn), ownSvn := max s.fuses.ownSvn (min 64 b.ownSvn) } ∧
      hasBit (t.rd (F.BENCH_EV_STAT 1)) 6 = true ∧ t.out = s.out))

/-- R35: TIM applies a step only before the controller first begins serving. The tick of an empty queue is no command. -/
def Obligations.CountSteppedBeforeServing : Prop :=
  ∀ (c : Instr) (s t : State), exec c s = .next t →
      match c with
      | .resetAssert _ | .tamperTrip _ | .thermtrip | .jtagInstructionLoad _ => t.tim.count = s.tim.count ∨ t.tim.count = 0
      | _ => s.isSet F.TIM_STAT_SERVING = true → t.tim.count = s.tim.count

/-- What the occurrence of an event source does -/
def Obligations.RaisedEvents : Prop :=
  ∀ (s t : State) (b loc sev code data : Nat), b < 57 → loc < 16 → t = s.raise b loc sev code data →
      ((s.benchAt b).state = .off → t = s) ∧
      ((s.benchAt b).state ≠ .off →
      hasBit (t.rd (F.BENCH_EV_STAT b)) loc = true ∧
      (∀ i, i < 16 → i ≠ loc → hasBit (t.rd (F.BENCH_EV_STAT b)) i = hasBit (s.rd (F.BENCH_EV_STAT b)) i) ∧
      t.rd (F.BENCH_ERR_DET b) = (s.rd (F.BENCH_ERR_DET b) + (if loc = 2 then 1 else 0)) % 2 ^ 32 ∧
      t.rd (F.BENCH_ERR_UNREC b) = (s.rd (F.BENCH_ERR_UNREC b) + (if loc = 3 then 1 else 0)) % 2 ^ 32 ∧
      t.faultDeclared = (s.faultDeclared || decide (sev = 3)) ∧
      (sev ≠ 3 → t.out = s.out) ∧
      (hasBit (s.rd (F.BENCH_EV_EN b)) loc = false → t.bench = s.bench) ∧
      (hasBit (s.rd (F.BENCH_EV_EN b)) loc = true → (t.benchAt b).emitted = (s.benchAt b).emitted + 1))

/-- The window of a bench that is OFF -/
def Obligations.OffWindow : Prop :=
  ∀ (s : State) (path b off : Nat), b < 64 → off % 4 = 0 → off < 0x100000 → (57 ≤ b ∨ (s.benchAt b).state = .off) →
      ¬(b = 1 ∧ s.truOnly = true) →
      (s.permits path 0 = true → Completes (.halfLatchRead path (b * 0x100000 + off)) s (fun t =>
      t = { s with out := .value (if off = 0 then b else if off = 8 then 0xF0 else 0) :: s.out })) ∧
      (∀ v : Word, s.permits path 1 = true → Completes (.registerWrite path (b * 0x100000 + off) v) s (fun t =>
      t = s.wr F.CTL_MGT_IGN (s.rd F.CTL_MGT_IGN + 1)))

/-- Flits, benches and rotation: what each command of the bench family leaves -/
def Obligations.FlitsAndBenches : Prop :=
  (∀ (s : State) (l : Lane) (taken : Nat) (f : Flit) (dl : Lane),
    (laneListed l = true) →
    (s.routeFlit l f.dest = some dl) →
    ((s.laneAt l).outOfService = false) →
    ((s.benchAt l.src).inService = true) →
    ((s.benchAt dl.dst).inService = true) →
    f.crcOk = true →
    (s.holdsRole f.dest = false) →
    (s.repeated (s.senderOf l.src) f = false) →
    ((s.laneAt dl).waiting = []) →
    (((s.laneAt dl).fifo f.vc).length < taken + 32) →
    Completes (.flitReceive l taken f) s (fun t =>
      ((t.laneAt dl).fifo f.vc = ((s.laneAt dl).fifo f.vc).drop taken ++ [f]) ∧
      (t.repeated (s.senderOf l.src) f = true) ∧
      (t.out = s.out))) ∧
  (∀ (s : State) (l : Lane) (taken : Nat) (f : Flit) (c : Nat) (r : Nat),
    (laneListed l = true) →
    (s.routeFlit l f.dest = none ∨ s.holdsRole f.dest = true) →
    ((s.laneAt l).outOfService = false) →
    ((s.benchAt l.src).inService = true) →
    (∀ dl, s.routeFlit l f.dest = some dl → (s.benchAt dl.dst).inService = true ∧ taken = 0 ∧ (s.laneAt dl).waiting = []) →
    (f.dest = .role c r) →
    (c < s.rot.length) →
    f.crcOk = true →
    (s.repeated (s.senderOf l.src) f = false) →
    Completes (.flitReceive l taken f) s (fun t =>
      ((t.rotAt c).held = (s.rotAt c).held ++ [(l, f)]) ∧
      (t.unacked.any (fun u => u.sender == s.senderOf l.src && sameFlit u.flit f) = true) ∧
      (t.out = s.out))) ∧
  (∀ (s : State) (l : Lane) (taken : Nat) (f : Flit) (dl : Lane),
    (laneListed l = true) →
    (s.routeFlit l f.dest = some dl) →
    ((s.laneAt l).outOfService = false) →
    ((s.benchAt l.src).inService = true) →
    ((s.benchAt dl.dst).inService = true) →
    (s.repeated (s.senderOf l.src) f = true) →
    ((s.laneAt dl).waiting = []) →
    (s.holdsRole f.dest = false) →
    f.crcOk = true →
    Completes (.flitReceive l taken f) s (fun t =>
      ((t.laneAt dl).fifo f.vc = ((s.laneAt dl).fifo f.vc).drop taken) ∧
      (t.unacked.any (fun u => u.sender == s.senderOf l.src && sameFlit u.flit f) = false) ∧
      (t.out = s.out))) ∧
  (∀ (s : State) (l : Lane) (taken : Nat) (f : Flit) (dl : Lane),
    (laneListed l = true) →
    (s.routeFlit l f.dest = some dl) →
    ((s.laneAt l).outOfService = false) →
    ((s.benchAt l.src).inService = true) →
    ((s.benchAt dl.dst).inService = true) →
    (s.repeated (s.senderOf l.src) f = false) →
    ((s.laneAt dl).waiting = []) →
    f.crcOk = false →
    Completes (.flitReceive l taken f) s (fun t =>
      (t.out = .flitNak l f.chan f.seq :: s.out) ∧
      ((t.laneAt dl).fifo f.vc = ((s.laneAt dl).fifo f.vc).drop taken) ∧
      ((t.laneAt dl).waiting.any (sameFlit f) = true) ∧
      (t.unacked.any (fun u => u.sender == s.senderOf l.src && sameFlit u.flit f) = true))) ∧
  (∀ (s : State) (l : Lane) (chan : Nat) (seq : Nat) (hdrOk : Bool) (u : Unacked),
    ((s.laneAt l).outOfService = false) →
    (s.unacked.find? (fun y => y.sender == s.senderOf l.src && y.flit.chan == chan && y.flit.seq == seq) = some u) →
    (u.resends < 3) →
    Completes (.flitNak l chan seq hdrOk) s (fun t =>
      (t.out = .flitResent l u.flit :: s.out) ∧
      ((t.unacked.any fun y => y.sender == s.senderOf l.src && sameFlit y.flit u.flit && y.resends == u.resends + 1) = true) ∧
      ((t.laneAt l).outOfService = false))) ∧
  (∀ (s : State) (l : Lane) (chan : Nat) (seq : Nat) (hdrOk : Bool) (u : Unacked),
    ((s.laneAt l).outOfService = false) →
    (s.unacked.find? (fun y => y.sender == s.senderOf l.src && y.flit.chan == chan && y.flit.seq == seq) = some u) →
    (3 ≤ u.resends) →
    (attributedBench l = none) →
    ((s.benchAt l.src).inService = true) →
    ((s.benchAt l.dst).inService = true) →
    Completes (.flitNak l chan seq hdrOk) s (fun t =>
      ((t.laneAt l).outOfService = true) ∧
      (t.faultDeclared = true))) ∧
  (∀ (s : State) (bench : Nat) (o : Repair) (hdrOk : Bool),
    ((s.benchAt bench).inService = true) →
    (bench < 64) →
    o.recovered = true →
    o.slot = none →
    (((s.benchAt bench).repairs.filter fun x => !s.due (x + secU 1)).length < 16) →
    Completes (.detectionRepairDone bench o hdrOk) s (fun t =>
      (t.rd (F.BENCH_ERR_DET bench) = (s.rd (F.BENCH_ERR_DET bench) + 1) % 2 ^ 32) ∧
      ((t.benchAt bench).repairs.head? = some s.now) ∧
      ((t.benchAt bench).state = (s.benchAt bench).state))) ∧
  (∀ (s : State) (bench : Nat) (hdrOk : Bool),
    (isSingleton bench = true) →
    ((s.benchAt bench).inService = true) →
    Completes (.livenessTimeout bench hdrOk) s (fun t =>
      ((t.benchAt bench).state = .faulted) ∧
      (t.faultDeclared = true))) ∧
  (∀ (s : State) (bench : Nat) (c : Nat) (i : Nat) (sp : Nat) (r : Nat),
    (classInst bench = some (c, i)) →
    ((s.benchAt bench).state = .active) →
    ((s.benchAt bench).role = some r) →
    (s.spareOf c = some sp) →
    ((s.rotAt c).busy = none) →
    s.shotPendingNow = false →
    Completes (.livenessTimeout bench true) s (fun t =>
      ((t.benchAt bench).state = .faulted) ∧
      ((t.benchAt (instBench c sp)).state = .active) ∧
      ((t.benchAt (instBench c sp)).role = some r))) ∧
  (∀ (s : State) (bench : Nat),
    (isSingleton bench = true) →
    ((s.benchAt bench).state = .selftest) →
    Completes (.selftestComplete bench true) s (fun t =>
      ((t.benchAt bench).state = .active) ∧
      ((t.benchAt bench).role = some 0))) ∧
  (∀ (s : State) (bench : Nat),
    (isSingleton bench = true) →
    ((s.benchAt bench).state = .selftest) →
    Completes (.selftestComplete bench false) s (fun t =>
      ((t.benchAt bench).state = .faulted) ∧
      ((t.benchAt bench).lastFault = some s.now) ∧
      (t.faultDeclared = true))) ∧
  (∀ (s : State) (bench : Nat) (f : Nat),
    ((s.benchAt bench).state = .faulted) →
    ((s.benchAt bench).lastFault = some f) →
    ((s.benchAt bench).prevFault = none) →
    (s.due (f + secU 1) = true) →
    Completes (.faultedRetestTimer bench) s (fun t =>
      ((t.benchAt bench).state = .selftest))) ∧
  (∀ (s : State) (cls : Nat) (sp : Nat) (o : Nat) (r : Nat),
    (cls < 6) →
    (cls < s.rot.length) →
    (s.periodElapsed cls = true) →
    (s.canRotate cls = true) →
    (s.spareOf cls = some sp) →
    (s.longestActive cls = some (o, r)) →
    Completes (.rotationPeriodExpiry cls) s (fun t =>
      ((t.rotAt cls).busy = some (o, sp, r)) ∧
      (hasBit (t.rd F.CTL_ROT_STAT_BUSY) cls = true))) ∧
  (∀ (s : State) (cls : Nat),
    (cls < 6) →
    (cls < s.rot.length) →
    (s.periodElapsed cls = true) →
    (s.canRotate cls = false) →
    Completes (.rotationPeriodExpiry cls) s (fun t =>
      ((t.rotAt cls).owed = true) ∧
      ((t.rotAt cls).busy = (s.rotAt cls).busy))) ∧
  (∀ (s : State) (v : Word) (c : Nat) (sp : Nat) (o : Nat) (r : Nat),
    (c < 6) →
    (c < s.rot.length) →
    (v.toNat = 2 ^ c) →
    (s.reloading 0 = false) →
    (s.canRotate c = true) →
    (s.spareOf c = some sp) →
    (s.longestActive c = some (o, r)) →
    Completes (.ctlRotNow v) s (fun t =>
      ((t.rotAt c).busy = some (o, sp, r)))) ∧
  (∀ (s : State) (v : Word),
    (s.reloading 0 = false) →
    (1 ≤ fieldGet v 18 8) →
    (fieldGet v 18 8 ≤ 1440) →
    Completes (.ctlRotCfgWrite v) s (fun t =>
      (t.rd F.CTL_ROT_CFG_PERIOD_MIN = fieldGet v 18 8) ∧
      (t.rd F.CTL_ROT_CFG_ROT_EN = fieldGet v 0 0) ∧
      (t.rd F.CTL_ROT_CFG_CLASS_DIS = fieldGet v 29 24))) ∧
  (∀ (s : State) (cls : Nat) (sp : Nat) (o : Nat) (r : Nat),
    (cls < 6) →
    ((s.rotAt cls).busy = some (o, sp, r)) →
    s.shotPendingNow = false →
    (o ≠ sp) →
    ((s.benchAt (instBench cls sp)).state = .spare) →
    ((s.benchAt (instBench cls o)).state = .active) →
    Completes (.rotationDrained cls) s (fun t =>
      ((t.benchAt (instBench cls sp)).role = some r) ∧
      ((t.benchAt (instBench cls sp)).state = .active) ∧
      ((t.benchAt (instBench cls o)).role = none) ∧
      ((t.benchAt (instBench cls o)).state = .selftest) ∧
      ((t.rotAt cls).busy = none)))

/-- The time base: markers, the servo, PPS and PTP -/
def Obligations.TimeBase : Prop :=
  (∀ (s : State) (dev : List (Nat × Int)) (b : Nat) (d : Int),
    (b < 57) →
    ((s.benchAt b).state ≠ .off) →
    (dev.find? (fun p => p.1 == b) = some (b, d)) →
    (∀ m, s.tim.lastMarker = some m → m + 4096 ≤ s.now) →
    Completes (.timeMarker dev) s (fun t =>
      ((t.benchAt b).timeLock = decide (d.natAbs ≤ 4)) ∧
      ((t.benchAt b).deviation = (if d.natAbs ≤ 4 then 0 else max (-16) (min 16 d))) ∧
      ((t.benchAt b).foundAt = s.now))) ∧
  (∀ (s : State) (src : Nat) (offset : Int),
    (src ≠ 0) →
    (s.rd F.TIM_SRC_CFG_SRC = src) →
    s.servo = 0 →
    (s.now + offset.natAbs < 2 ^ 64) →
    Completes (.servoUpdate src offset) s (fun t =>
      (t.rd F.TIM_OFFSET = sat32 offset) ∧
      (t.servo = 1) ∧
      (t.tim.lockRun = 0) ∧
      (t.tim.lastUpdate = some t.now))) ∧
  (∀ (s : State),
    (s.servo = 1 ∨ s.servo = 2) →
    (s.due (s.tim.lastUpdate.getD 0 + secU 3) = true) →
    Completes .servoUpdateTimeout s (fun t =>
      (t.servo = 3) ∧
      (t.rd F.TIM_RATE = s.rd F.TIM_RATE) ∧
      (t.tim = s.tim))) ∧
  (∀ (s : State),
    s.servo = 3 →
    (s.due (s.tim.lastUpdate.getD 0 + hourU 24) = true) →
    Completes .holdoverExpiry s (fun t =>
      (t.servo = 0) ∧
      (t.rd F.TIM_RATE = s.rd F.TIM_RATE))) ∧
  (∀ (s : State) (v : Word),
    (s.reloading 2 = false) →
    (hasBit v.toNat 31 = false) →
    Completes (.timSrcCfgWrite v) s (fun t =>
      (t.rd F.TIM_SRC_CFG_SRC = v.toNat % 4) ∧
      (t.servo = (if v.toNat % 4 = 0 then 0 else s.servo)) ∧
      (t.tim = s.tim))) ∧
  (∀ (s : State) (v : Word),
    (s.reloading 2 = false) →
    (s.isSet F.TIM_STAT_SERVING = false) →
    (s.now < s.rd64 F.TIM_SET_LO F.TIM_SET_HI) →
    Completes (.timSetStep v) s (fun t =>
      (t.tim.count.toNat = s.rd64 F.TIM_SET_LO F.TIM_SET_HI) ∧
      (t.rd F.TIM_STAT_SET_IGN = s.rd F.TIM_STAT_SET_IGN))) ∧
  (∀ (s : State) (v : Word),
    (s.reloading 2 = false) →
    (s.isSet F.TIM_STAT_SERVING = true) →
    Completes (.timSetStep v) s (fun t =>
      (t.tim = s.tim) ∧
      (t.rd F.TIM_STAT_SET_IGN = (s.rd F.TIM_STAT_SET_IGN + 1) % 256))) ∧
  (∀ (s : State),
    (s.isSet F.TIM_PPS_CFG_IN_EN = true) →
    (s.rd F.TIM_SRC_CFG_SRC ≠ 2) →
    Completes .ppsInEdge s (fun t =>
      (t.tim.ppsInLast = some s.now) ∧
      (t.tim.ppsInFrom = s.now) ∧
      (t.tim.ppsMissRaised = false) ∧
      (t.tim.count = s.tim.count))) ∧
  (∀ (s : State),
    (s.isSet F.TIM_PPS_CFG_IN_EN = true) →
    s.tim.ppsMissRaised = false →
    (s.due (s.tim.ppsInFrom + msU 1100) = true) →
    ((s.benchAt 2).state ≠ .off) →
    Completes .ppsInMissing s (fun t =>
      (t.tim.ppsMissRaised = true) ∧
      (hasBit (t.rd (F.BENCH_EV_STAT 2)) 10 = true))) ∧
  (∀ (s : State),
    (s.isSet F.TIM_PPS_CFG_OUT_EN = true) →
    (0 < s.lastPpsOut) →
    ((s.tim.ppsOutFrom : Int) ≤ s.lastPpsOut) →
    ((s.tim.ppsOutRise.getD 0 : Int) < s.lastPpsOut) →
    Completes .ppsOutSecond s (fun t =>
      (t.tim.ppsOut = true) ∧
      (t.tim.ppsOutRise = some s.lastPpsOut.toNat))) ∧
  (∀ (s : State) (r : Nat),
    s.tim.ppsOut = true →
    (s.tim.ppsOutRise = some r) →
    (s.due (r + usU (s.rd F.TIM_PPS_CFG_WIDTH_US)) = true) →
    Completes .ppsOutWidthEnd s (fun t =>
      (t = { s with tim := { s.tim with ppsOut := false } }))) ∧
  (∀ (s : State) (port : Nat) (mac : Nat) (tr : PtpTransport),
    (ptpPortOf s.ptpCfg mac = some port) →
    (s.ptpCfg.domain ≤ 127) →
    (∀ y, s.tim.ptp.find? (fun p => p.port == port) = some y → y.state = .master) →
    Completes (.ptpMessage (⟨mac, tr, s.ptpCfg.domain, .delayReq⟩)) s (fun t =>
      (t = { s with out := .ptpResponse mac tr false :: s.out }))) ∧
  (∀ (s : State) (port : Nat) (mac : Nat) (tr : PtpTransport),
    (ptpPortOf s.ptpCfg mac = some port) →
    (s.ptpCfg.domain ≤ 127) →
    Completes (.ptpMessage (⟨mac, tr, s.ptpCfg.domain, .pdelayReq⟩)) s (fun t =>
      (t = { s with out := .ptpResponse mac tr true :: s.out }))) ∧
  (∀ (s : State) (port : Nat) (mac : Nat) (tr : PtpTransport) (ds : ClockDs) (utc : Int),
    (ptpPortOf s.ptpCfg mac = some port) →
    (s.ptpCfg.domain ≤ 127) →
    (s.tim.ptp = []) →
    (127 < s.ptpCfg.clock.cls) →
    (betterClock ds s.ptpCfg.clock = true) →
    (betterClock s.ptpCfg.clock ds = false) →
    Completes (.ptpMessage (⟨mac, tr, s.ptpCfg.domain, .announce ds utc⟩)) s (fun t =>
      (t.rd F.TIM_UTC_OFS = sat32 utc) ∧
      (t.tim.ptp = [⟨port, .slave, some ds, none⟩]) ∧
      (t.tim.count = s.tim.count))) ∧
  (∀ (s : State) (m : PtpMsg),
    (ptpPortOf s.ptpCfg m.mac = none ∨ m.domain ≠ s.ptpCfg.domain ∨ m.body = .unsupported) →
    Completes (.ptpMessage m) s (fun t =>
      (t = s)))

/-- Shots: requests accepted, joined, cancelled and released, and the shot pins -/
def Obligations.Shots : Prop :=
  (∀ (s : State),
    (s.isSet F.TIM_SHOT_CFG_PIN_EN = true) →
    (s.isSet F.TIM_SHOT_STAT_HELD = false) →
    (∀ x ∈ s.tim.shots, x.time + usU 10 ≤ s.now + s.lead ∨ s.now + s.lead + usU 10 ≤ x.time) →
    (∀ f ∈ s.tim.fired, f + usU 10 ≤ s.now + s.lead ∨ s.now + s.lead + usU 10 ≤ f ∨ f = s.now + s.lead) →
    Completes .shotInEdge s (fun t =>
      (t.tim.shots = s.tim.shots ++ [⟨s.now + s.lead, 1, s.now⟩]) ∧
      (t.rd F.TIM_SHOT_STAT_PENDING = (s.tim.shots.filter Shot.scheduled).length % 16) ∧
      (t.rd F.TIM_SHOT_STAT_REFUSED = s.rd F.TIM_SHOT_STAT_REFUSED))) ∧
  (∀ (s : State),
    (s.isSet F.TIM_SHOT_CFG_PIN_EN = false) →
    Completes .shotInEdge s (fun t =>
      (t = s))) ∧
  (∀ (s : State),
    (s.reloading 2 = false) →
    (s.isSet F.TIM_SHOT_STAT_HELD = false) →
    (∀ x ∈ s.tim.shots, x.time + usU 10 ≤ s.now + s.lead ∨ s.now + s.lead + usU 10 ≤ x.time) →
    (∀ f ∈ s.tim.fired, f + usU 10 ≤ s.now + s.lead ∨ s.now + s.lead + usU 10 ≤ f ∨ f = s.now + s.lead) →
    Completes .shotFire s (fun t =>
      (t.tim.shots = s.tim.shots ++ [⟨s.now + s.lead, 8, s.now⟩]) ∧
      (t.rd F.TIM_SHOT_STAT_PENDING = (s.tim.shots.filter Shot.scheduled).length % 16))) ∧
  (∀ (s : State) (x : Shot),
    (s.reloading 2 = false) →
    (s.isSet F.TIM_SHOT_STAT_HELD = false) →
    (s.tim.shots = [x]) →
    (x.time = s.now + s.lead) →
    Completes .shotFire s (fun t =>
      (t.tim.shots = [{ x with causes := x.causes ||| 8 }]) ∧
      (t.tim.fired = s.tim.fired))) ∧
  (∀ (s : State),
    (s.reloading 2 = false) →
    (s.isSet F.TIM_SHOT_STAT_HELD = true) →
    Completes .shotFire s (fun t =>
      (t.tim = s.tim) ∧
      (t.rd F.TIM_SHOT_STAT_REFUSED = (s.rd F.TIM_SHOT_STAT_REFUSED + 1) % 256))) ∧
  (∀ (s : State),
    (s.reloading 2 = false) →
    (s.isSet F.TIM_SHOT_STAT_HELD = false) →
    (s.now + s.lead ≤ s.shotAt) →
    ((s.tim.shots.filter Shot.scheduled).length < 8) →
    (∀ x ∈ s.tim.shots, x.time + usU 10 ≤ s.shotAt ∨ s.shotAt + usU 10 ≤ x.time) →
    (∀ f ∈ s.tim.fired, f + usU 10 ≤ s.shotAt ∨ s.shotAt + usU 10 ≤ f ∨ f = s.shotAt) →
    Completes .shotSched s (fun t =>
      (t.tim.shots = s.tim.shots ++ [⟨s.shotAt, 2, s.now⟩]) ∧
      (t.rd F.TIM_SHOT_STAT_PENDING = ((s.tim.shots.filter Shot.scheduled).length + 1) % 16))) ∧
  (∀ (s : State),
    (s.reloading 2 = false) →
    (s.isSet F.TIM_SHOT_STAT_HELD = false) →
    (s.now + usU 100 ≤ s.shotAt) →
    ((s.tim.shots.filter Shot.scheduled).length < 8) →
    (∀ x ∈ s.tim.shots, x.time + usU 10 ≤ s.shotAt ∨ s.shotAt + usU 10 ≤ x.time) →
    (∀ f ∈ s.tim.fired, f + usU 10 ≤ s.shotAt ∨ s.shotAt + usU 10 ≤ f ∨ f = s.shotAt) →
    Completes .shotChainIssue s (fun t =>
      (t.tim.shots = s.tim.shots ++ [⟨s.shotAt, 2, s.now⟩]) ∧
      (t.out = .chainShot s.shotAt (s.rd F.CHN_CHAIN_STAT_ADDR) :: s.out) ∧
      (t.rd F.CHN_TX_FRM = (s.rd F.CHN_TX_FRM + 1) % 2 ^ 32))) ∧
  (∀ (s : State),
    (s.reloading 2 = false) →
    Completes .shotCancel s (fun t =>
      (t.tim.shots.all (fun x => !x.scheduled) = true) ∧
      (t.rd F.TIM_SHOT_STAT_PENDING = 0) ∧
      (t.tim.fired = s.tim.fired) ∧
      (∀ x ∈ s.tim.shots, x.scheduled = false → x.causes ≠ 0 → x ∈ t.tim.shots))) ∧
  (∀ (s : State),
    (s.reloading 2 = false) →
    Completes .shotRelease s (fun t =>
      (t.isSet F.TIM_SHOT_STAT_HELD = false) ∧
      (t.tim = s.tim))) ∧
  (∀ (s : State),
    s.tim.shotOut = true →
    (s.due (s.tim.shotOutRise + nsU 100) = true) →
    Completes .shotOutPulseEnd s (fun t =>
      (t = { s with tim := { s.tim with shotOut := false } }))) ∧
  (∀ (s : State) (x : Shot) (b : Nat),
    (s.tim.shots = [x]) →
    (s.due x.time = true) →
    (s.isSet F.TIM_SHOT_STAT_HELD = false) →
    (b < 57) →
    ((s.benchAt b).inService = true) →
    Completes .shotTimeReached s (fun t =>
      (t.tim.shots = []) ∧
      (t.tim.fired.head? = some x.time) ∧
      (t.tim.shotOut = true) ∧
      (t.tim.shotOutRise = x.time) ∧
      (t.rd F.TIM_SHOT_SEQ = (if s.rd F.TIM_SHOT_SEQ = 2 ^ 32 - 1 then 1 else s.rd F.TIM_SHOT_SEQ + 1)) ∧
      ((t.benchAt b).snap.seq = t.rd F.TIM_SHOT_SEQ) ∧
      ((t.benchAt b).snap.target = x.time))) ∧
  (∀ (s : State) (x : Shot),
    (s.tim.shots = [x]) →
    (s.due x.time = true) →
    (s.isSet F.TIM_SHOT_STAT_HELD = true) →
    Completes .shotTimeReached s (fun t =>
      (t.tim.shots = []) ∧
      (t.tim.fired = s.tim.fired) ∧
      (t.rd F.TIM_SHOT_SEQ = s.rd F.TIM_SHOT_SEQ)))

/-- Event records: delivery, entry into the logs and the copy into attached memory -/
def Obligations.EventLogs : Prop :=
  (∀ (s : State) (bench : Nat) (r : EvRec) (rest : List EvRec),
    ((s.benchAt bench).evBuf = r :: rest) →
    ((s.benchAt bench).evStalled = []) →
    (s.isSet F.TIM_SHOT_MATCH_ARM = false) →
    Completes (.eventRecordDelivery bench) s (fun t =>
      (t.evlog.delivered = s.evlog.delivered ++ [r]) ∧
      ((t.benchAt bench).evBuf = rest) ∧
      (t.tim = s.tim))) ∧
  (∀ (s : State) (r : EvRec),
    (earliest s.evlog.delivered = some r) →
    (s.watermarksPass r.time = true) →
    s.evMemOk = true →
    s.evlog.markerOwed = false →
    Completes .eventLogEntry s (fun t =>
      (t.evlog.delivered = s.evlog.delivered.erase r) ∧
      (t.evlog.onChip = (r :: s.evlog.onChip).take 4096) ∧
      (t.evlog.copied = s.evlog.copied))) ∧
  (∀ (s : State),
    s.evMemOk = true →
    Completes .evlogCopy s (fun t =>
      (t.evlog.copied = s.evTotal) ∧
      (t.evlog.memLog = (s.evlog.onChip.take (min 4096 (s.evTotal - s.evlog.copied)) ++ s.evlog.memLog).take 1048576) ∧
      (t.evlog.onChip = s.evlog.onChip)))

/-- The native transport: packets received, connections made and ended, and its timers -/
def Obligations.NativeTransport : Prop :=
  (∀ (s : State) (p : NrtPkt),
    (p.udpPort = s.rd F.XPT_NRT_PORT_UDP_PORT) →
    (s.isSet F.XPT_CTX_CFG_NRT_EN = true) →
    ((asType p 1).crc ≠ nrtCrc (asType p 1).toNrtHdr p.ext p.payload) →
    Completes (.nrtDataPacket p) s (fun t =>
      (t.rd (F.XPT_DROP_CRC (s.xptRole (p.dcid % 2 ^ 18))) = (s.rd (F.XPT_DROP_CRC (s.xptRole (p.dcid % 2 ^ 18))) + 1) % 2 ^ 32) ∧
      (t.conns = s.conns) ∧
      (t.out = s.out))) ∧
  (∀ (s : State) (p : NrtPkt) (c : Conn),
    (nrtFrom s (asType p 1) c = true) →
    (c.state = .established) →
    c.syncPending = none →
    c.epoch = 0 →
    (c.reasm = []) →
    (c.received = []) →
    (dist32 p.psn c.rcvPsn < 4096) →
    (serialLt p.msgId c.lowMark = false) →
    (serialLt p.msgId c.granted = true) →
    (c.delivered = []) →
    p.kind = 1 →
    (p.ext = .none) →
    p.last = false →
    p.ackv = false →
    p.ackreq = false →
    (c.unacked + 1 < 16) →
    (p.psn ≠ c.rcvPsn → 4096 < dist32 c.rcvPsn p.psn) →
    (nrtSizeOk c (asType p 1) = true) →
    (s.reasmUsed c.role < 8192) →
    Completes (.nrtDataPacket p) s (fun t =>
      ((t.conn? c.cid).any (fun x => x.received == [(p.psn, p.msgId)] && x.unacked == c.unacked + 1 && x.reasm.any (fun r => r.msgId == p.msgId && r.pieces == [(p.msgOfs, p.payload)])) = true) ∧
      (t.rd (F.XPT_RX_PKT c.role) = (s.rd (F.XPT_RX_PKT c.role) + 1) % 2 ^ 32) ∧
      (t.out = s.out))) ∧
  (∀ (s : State) (p : NrtPkt) (c : Conn),
    (nrtFrom s (asType p 1) c = true) →
    c.syncPending = none →
    (dist32 p.psn c.rcvPsn < 4096) →
    ((p.psn, p.msgId) ∈ c.received) →
    (c.isDelivered p.msgId = false) →
    Completes (.nrtDataPacket p) s (fun t =>
      (t.rd (F.XPT_DUP c.role) = (s.rd (F.XPT_DUP c.role) + 1) % 2 ^ 32) ∧
      (t.out.head?.any (isNrt c 2 p.path) = true) ∧
      ((t.conn? c.cid).any (fun x => x.received == c.received && x.reasm == c.reasm && x.delivered == c.delivered) = true))) ∧
  (∀ (s : State) (p : NrtPkt) (c : Conn),
    (nrtFrom s (asType p 1) c = true) →
    (c.received = []) →
    c.syncPending = none →
    c.epoch = 0 →
    (dist32 p.psn c.rcvPsn < 4096) →
    (p.psn ≠ c.rcvPsn → 4096 < dist32 c.rcvPsn p.psn) →
    (serialLt p.msgId c.lowMark = true ∨ serialLt p.msgId c.granted = false) →
    Completes (.nrtDataPacket p) s (fun t =>
      (t = s.bump (F.XPT_DROP_CREDIT c.role)))) ∧
  (∀ (s : State) (p : NrtPkt) (c : Conn) (q : TxPkt),
    (nrtFrom s (asType p 2) c = true) →
    (c.state = .established) →
    c.syncPending = none →
    ((c.pathAt p.path).suspect = false) →
    (c.waiting = []) →
    (c.una = [q]) →
    p.ackv = true →
    (serialLt q.psn p.ackPsn = true) →
    (s.cmds = []) →
    (s.winops = []) →
    Completes (.nrtAck p) s (fun t =>
      ((t.conn? c.cid).any (fun x => x.una.isEmpty && x.state == .established && x.backoff == 0) = true) ∧
      (t.rd (F.XPT_RX_PKT c.role) = (s.rd (F.XPT_RX_PKT c.role) + 1) % 2 ^ 32))) ∧
  (∀ (s : State) (p : NrtPkt) (i : Nat),
    (p.udpPort = s.rd F.XPT_NRT_PORT_UDP_PORT) →
    (p.crc = nrtCrc p.toNrtHdr p.ext p.payload) →
    p.ver = 1 →
    p.dcid = 0 →
    (s.isSet F.XPT_CTX_CFG_NRT_EN = true) →
    (s.conns.all (fun c => c.state != .halfOpen) = true) →
    (connectOk p (parseSetup p.payload) = true) →
    (s.freeIndex? = some i) →
    (s.onChip (s.xptRole i) < 2048) →
    Completes (.nrtConnect p) s (fun t =>
      (t.conns.length = s.conns.length + 1) ∧
      (t.conns.take s.conns.length = s.conns) ∧
      (t.conns.getLast?.any (fun c => c.index == i && c.gen == s.nextGen i && c.mode == .nrt && c.state == .halfOpen && c.peerAddr == p.srcAddr && c.peerCid == (parseSetup p.payload).srcCid && c.peerSport == (parseSetup p.payload).sportBase && c.rcvPsn == (parseSetup p.payload).initPsn && c.lowMark == (parseSetup p.payload).initMsgId && c.payload == 1024 * 2 ^ (parseSetup p.payload).payload && c.npaths == min (parseSetup p.payload).npaths (s.rd F.XPT_CTX_CFG_NPATH_MAX) + 1) = true) ∧
      (t.conns.getLast?.any (fun c => (newOut s t).any fun o => match o with | .nrt a sp dp h _ (.setup x) => a == p.srcAddr && sp == c.sport && dp == p.srcPort && h.typ == 4 && h.psn == 0 && h.dcid == c.peerCid && x.srcCid == c.cid && x.nonce == c.nonce && x.sportBase == c.sport && x.npaths == c.npaths - 1 && x.msgLimit == c.granted | _ => false) = true))) ∧
  (∀ (s : State) (p : NrtPkt),
    (p.udpPort = s.rd F.XPT_NRT_PORT_UDP_PORT) →
    (p.crc = nrtCrc p.toNrtHdr p.ext p.payload) →
    p.ver = 1 →
    p.dcid = 0 →
    (s.isSet F.XPT_CTX_CFG_NRT_EN = false) →
    Completes (.nrtConnect p) s (fun t =>
      (t.conns = s.conns) ∧
      (t.out.head?.any (isRefuse p 4) = true) ∧
      (t.out.length = s.out.length + 1))) ∧
  (∀ (s : State) (p : NrtPkt) (c : Conn),
    (nrtFrom s (asType p 6) c = true) →
    (c.state = .established) →
    c.syncPending = none →
    Completes (.nrtClose p) s (fun t =>
      (t.conns.all (fun x => x.index != c.index) = true) ∧
      (t.freed.head? = some ⟨c.index, c.gen % 63 + 1, s.now⟩) ∧
      ((newOut s t).any (isNrt c 7 c.resendPath) = true))) ∧
  (∀ (s : State) (p : NrtPkt) (c : Conn),
    (nrtFrom s (asType p 7) c = true) →
    (c.state = .draining) →
    c.syncPending = none →
    Completes (.nrtClosed p) s (fun t =>
      (t.conns.all (fun x => x.index != c.index) = true) ∧
      (t.freed.head? = some ⟨c.index, c.gen % 63 + 1, s.now⟩))) ∧
  (∀ (s : State) (p : NrtPkt) (c : Conn),
    (nrtFrom s (asType p 8) c = true) →
    (c.state = .established) →
    c.syncPending = none →
    p.ackv = false →
    Completes (.nrtProbe p) s (fun t =>
      (t.out.head?.any (isNrt c 2 p.path) = true))) ∧
  (∀ (s : State) (cid : Nat) (msgId : Nat) (c : Conn) (r : Reasm),
    (s.running cid = some c) →
    (c.mode = .nrt) →
    (c.reasm.find? (fun x => x.msgId == msgId) = some r) →
    (r.complete c.payload = false) →
    (s.due (r.firstAt + usU 100 * s.rd F.XPT_TIMER_CFG_REASM) = true) →
    Completes (.reassemblyTimeout cid msgId) s (fun t =>
      ((t.conn? cid).any (fun x => x.reasm.all (fun y => y.msgId != msgId) && x.received.all (fun y => y.2 != msgId)) = true) ∧
      (t.pends.all (fun y => !(y.cid == cid && y.msg == msgId)) = true) ∧
      (t.rd (F.XPT_REASM_DISCARD c.role) = (s.rd (F.XPT_REASM_DISCARD c.role) + 1) % 2 ^ 32) ∧
      ((newOut s t).any (fun o => isNrt c 2 c.ackPath o && match o with | .nrt _ _ _ h _ _ => h.renege | _ => false) = true))) ∧
  (∀ (s : State) (cid : Nat) (c : Conn),
    (s.running cid = some c) →
    (s.dueOpt c.ackDue = true) →
    Completes (.ackDelayExpiry cid) s (fun t =>
      (t.out.head?.any (isNrt c 2 c.ackPath) = true) ∧
      ((t.conn? cid).any (fun x => x.ackDue == none && x.unacked == 0) = true))) ∧
  (∀ (s : State) (cid : Nat) (c : Conn) (q : TxPkt),
    (s.running cid = some c) →
    (c.mode = .nrt) →
    (c.state = .established) →
    (c.una = [q]) →
    q.acked = false →
    (s.due (q.sentAt + s.rtoOf c) = true) →
    (q.retx < s.rd F.XPT_CTX_CFG_RETRY_MAX) →
    Completes (.rtoExpiry cid) s (fun t =>
      ((t.conn? cid).any (fun x => x.una.map (fun y => (y.psn, y.retx, y.sentAt)) == [(q.psn, q.retx + 1, s.now)] && x.backoff == min 32 (c.backoff + 1)) = true) ∧
      (t.rd (F.XPT_RTO c.role) = (s.rd (F.XPT_RTO c.role) + 1) % 2 ^ 32) ∧
      (t.rd (F.XPT_RETX c.role) = (s.rd (F.XPT_RETX c.role) + 1) % 2 ^ 32) ∧
      ((newOut s t).any (fun o => match o with | .nrt _ _ _ h _ b => h.typ == 1 && h.psn == q.psn && b == .message q.body | _ => false) = true))) ∧
  (∀ (s : State) (cid : Nat) (path : Nat) (c : Conn),
    (s.running cid = some c) →
    (path < c.npaths) →
    (path < c.paths.length) →
    ((c.pathAt path).suspect = true) →
    (s.due (c.pathAt path).probeAt = true) →
    Completes (.pathProbeTimer cid path) s (fun t =>
      (t.out.head?.any (isNrt c 8 path) = true) ∧
      ((t.conn? cid).any (fun x => (x.pathAt path).probeAt == s.now + msU 1) = true))) ∧
  (∀ (s : State) (cid : Nat) (c : Conn),
    (s.running cid = some c) →
    (c.mode = .nrt) →
    (c.state = .established ∨ c.state = .resync) →
    (serialLt c.sndMsg c.peerLimit = false) →
    (s.due c.creditProbeAt = true) →
    Completes (.creditProbeTimer cid) s (fun t =>
      (t.out.head?.any (isNrt c 8 c.resendPath) = true) ∧
      ((t.conn? cid).any (fun x => x.creditProbeAt == s.now + s.rtoOf c) = true))) ∧
  (∀ (s : State) (cid : Nat) (c : Conn),
    (s.running cid = some c) →
    (c.mode = .nrt) →
    (c.state = .halfOpen) →
    (s.due (c.since + msU 10) = true) →
    Completes (.halfOpenTimeout cid) s (fun t =>
      (t.conns = s.conns.filter (fun x => x.index != c.index)) ∧
      (t.freed.head? = some ⟨c.index, c.gen % 63 + 1, s.now⟩))) ∧
  (∀ (s : State) (cid : Nat) (c : Conn),
    (s.running cid = some c) →
    (c.mode = .nrt) →
    (c.state = .error) →
    (s.due (c.since + msU 1) = true) →
    Completes (.errorHoldExpiry cid) s (fun t =>
      (t.conns = s.conns.filter (fun x => x.index != c.index)) ∧
      (t.freed.head? = some ⟨c.index, c.gen % 63 + 1, s.now⟩))) ∧
  (∀ (s : State) (cid : Nat) (c : Conn),
    (s.running cid = some c) →
    (c.mode = .nrt) →
    (c.state = .draining) →
    (s.due (c.closeAt + usU 100 * s.rd F.XPT_TIMER_CFG_RTO_MAX) = true) →
    (c.closeSent < 3) →
    Completes (.closeRetryExpiry cid) s (fun t =>
      (t.out.head?.any (isNrt c 6 c.resendPath) = true) ∧
      ((t.conn? cid).any (fun x => x.closeSent == c.closeSent + 1 && x.closeAt == s.now) = true))) ∧
  (∀ (s : State) (cid : Nat) (c : Conn),
    (s.running cid = some c) →
    (c.mode = .nrt) →
    (c.state = .draining) →
    (s.due (c.closeAt + usU 100 * s.rd F.XPT_TIMER_CFG_RTO_MAX) = true) →
    (3 ≤ c.closeSent) →
    Completes (.closeRetryExpiry cid) s (fun t =>
      (t.conns = s.conns.filter (fun x => x.index != c.index)) ∧
      (t.freed.head? = some ⟨c.index, c.gen % 63 + 1, s.now⟩))) ∧
  (∀ (s : State) (cid : Nat) (c : Conn) (d : Nat),
    (s.running cid = some c) →
    (c.syncPending = some d) →
    (s.due d = true) →
    Completes (.syncDeadline cid) s (fun t =>
      (t.out.head?.any (fun o => isNrt c 9 c.resendPath o && match o with | .nrt _ _ _ h _ b => h.psn == c.syncPsn && h.renege && h.msgLimit == c.granted && b == .sync (c.epoch + 1) | _ => false) = true) ∧
      ((t.conn? cid).any (fun x => x.syncPending == none && x.epoch == c.epoch + 1) = true)))

/-- Compatible mode: requests and responses in order, acknowledgments, rates and connection management -/
def Obligations.CompatibleMode : Prop :=
  (∀ (s : State) (p : RocePkt) (c : Conn),
    (roceFrom s p c = true) →
    (c.state = .rts) →
    p.ceMarked = false →
    (p.psn = c.rcvPsn) →
    (p.psn < 2 ^ 24) →
    p.first = true →
    p.last = false →
    (c.reasm = []) →
    (p.payLen = c.payload) →
    (p.payLen ≤ 16448) →
    (s.capsuleSlots c ≠ 0) →
    s.inflightFull = false →
    Completes (.roceSend p) s (fun t =>
      ((t.conn? c.cid).any (fun x => x.rcvPsn == (p.psn + 1) % 2 ^ 24 && x.reasm.map (fun r => r.pieces) == [[(0, p.payload)]]) = true) ∧
      (t.rd (F.XPT_RX_PKT c.role) = (s.rd (F.XPT_RX_PKT c.role) + 1) % 2 ^ 32) ∧
      (t.out = s.out))) ∧
  (∀ (s : State) (p : RocePkt) (c : Conn),
    (roceFrom s p c = true) →
    (c.state = .rts) →
    p.ceMarked = false →
    (p.psn = c.rcvPsn) →
    (p.psn < 2 ^ 24) →
    p.first = true →
    (s.capsuleSlots c = 0) →
    (rocePlaceOk c 0 p = true) →
    (c.resp = []) →
    Completes (.roceSend p) s (fun t =>
      (t.out.head?.any (fun o => match o with | .roce a q _ (.rnrNak n _) => a == c.peerAddr && q == c.peerCid && n == p.psn | _ => false) = true) ∧
      ((t.conn? c.cid).any (fun x => x.rcvPsn == c.rcvPsn && x.reasm == c.reasm) = true))) ∧
  (∀ (s : State) (p : RocePkt) (c : Conn),
    (roceFrom s p c = true) →
    (c.state = .rts) →
    p.ceMarked = false →
    (p.psn = c.rcvPsn) →
    (rocePlaceOk c 0 p = false) →
    Completes (.roceSend p) s (fun t =>
      ((newOut s t).any (fun o => match o with | .roce a q _ (.nak n 2) => a == c.peerAddr && q == c.peerCid && n == p.psn | _ => false) = true) ∧
      (t.rd (F.XPT_RX_PKT c.role) = s.rd (F.XPT_RX_PKT c.role)))) ∧
  (∀ (s : State) (p : RocePkt) (c : Conn) (w : Window),
    (roceFrom s p c = true) →
    (c.state = .rts) →
    p.ceMarked = false →
    (p.psn = c.rcvPsn) →
    (p.psn < 2 ^ 24) →
    p.first = true →
    p.last = false →
    (p.len ≠ 0) →
    (p.payLen = c.payload) →
    (1 ≤ p.payLen) →
    (p.payLen < p.len) →
    (p.payLen ≤ 4096) →
    (s.window? (p.key / 256) = some w) →
    (s.keyCheck c 1 p.key p.addr p.len = none) →
    (s.pends = []) →
    (c.reasm = []) →
    Completes (.roceRdmaWrite p) s (fun t =>
      ((t.conn? c.cid).any (fun x => x.rcvPsn == (p.psn + 1) % 2 ^ 24 && x.reasm.map (fun r => (r.msgId, r.length)) == [(p.psn, some p.len)]) = true) ∧
      (t.pends.any (fun q => q.cid == c.cid && q.nsid == w.nsid && q.lba == (w.slba * 4096 + (p.addr - w.base)) / 4096) = true))) ∧
  (∀ (s : State) (p : RocePkt) (c : Conn),
    (roceFrom s p c = true) →
    (c.state = .rts) →
    p.ceMarked = false →
    (p.psn = c.rcvPsn) →
    (p.psn < 2 ^ 24) →
    p.len = 0 →
    (s.roceOpen c < 16) →
    c.openMsg = none →
    (c.resp = []) →
    Completes (.roceRdmaReadRequest p) s (fun t =>
      (t.out.head?.any (fun o => match o with | .roce a q _ (.readResp n 0 _ _) => a == c.peerAddr && q == c.peerCid && n == p.psn | _ => false) = true) ∧
      ((t.conn? c.cid).any (fun x => x.rcvPsn == (p.psn + 1) % 2 ^ 24) = true))) ∧
  (∀ (s : State) (p : RocePkt) (c : Conn) (w : Window) (n : Namespace),
    (roceFrom s p c = true) →
    (c.state = .rts) →
    p.ceMarked = false →
    (p.psn = c.rcvPsn) →
    (p.psn < 2 ^ 24) →
    (1 ≤ p.len) →
    (s.roceOpen c < 16) →
    c.openMsg = none →
    (s.keyCheck c 0 p.key p.addr p.len = none) →
    (s.window? (p.key / 256) = some w) →
    (s.ns? w.nsid = some n) →
    (s.winops.all (fun o => o.id < s.nextOp) = true) →
    (s.lines = []) →
    (s.sectors = []) →
    (s.cmds = []) →
    (s.pends = []) →
    Completes (.roceRdmaReadRequest p) s (fun t =>
      (t.nextOp = s.nextOp + 1) ∧
      (t.winops.any (fun o => o.id == s.nextOp && o.msg == p.psn && o.len == p.len && o.kind == .read && o.byte == w.slba * 4096 + (p.addr - w.base)) = true) ∧
      (t.lines.any (fun l => l.nsid == w.nsid && l.filling) = true))) ∧
  (∀ (s : State) (p : RocePkt) (c : Conn) (w : Window) (n : Namespace),
    (roceFrom s p c = true) →
    (c.state = .rts) →
    p.ceMarked = false →
    (p.psn = c.rcvPsn) →
    (p.psn < 2 ^ 24) →
    (s.roceOpen c < 16) →
    c.openMsg = none →
    (s.keyCheck c 2 p.key p.addr 8 = none) →
    (s.window? (p.key / 256) = some w) →
    (s.ns? w.nsid = some n) →
    (s.winops.all (fun o => o.id < s.nextOp) = true) →
    (s.lines = []) →
    Completes (.roceCompareSwap p) s (fun t =>
      (t.nextOp = s.nextOp + 1) ∧
      (t.winops.any (fun o => o.id == s.nextOp && o.msg == p.psn && o.len == 8 && o.kind == .cas p.operand1 p.operand2) = true))) ∧
  (∀ (s : State) (p : RocePkt) (c : Conn) (w : Window) (n : Namespace),
    (roceFrom s p c = true) →
    (c.state = .rts) →
    p.ceMarked = false →
    (p.psn = c.rcvPsn) →
    (p.psn < 2 ^ 24) →
    (s.roceOpen c < 16) →
    c.openMsg = none →
    (s.keyCheck c 2 p.key p.addr 8 = none) →
    (s.window? (p.key / 256) = some w) →
    (s.ns? w.nsid = some n) →
    (s.winops.all (fun o => o.id < s.nextOp) = true) →
    (s.lines = []) →
    Completes (.roceFetchAdd p) s (fun t =>
      (t.nextOp = s.nextOp + 1) ∧
      (t.winops.any (fun o => o.id == s.nextOp && o.msg == p.psn && o.len == 8 && o.kind == .fadd p.operand1) = true))) ∧
  (∀ (s : State) (p : RocePkt) (c : Conn) (k : Nat) (ofs : Nat),
    (roceFrom s p c = true) →
    (c.state = .rts) →
    p.ceMarked = false →
    (c.asked = [(p.psn, k, ofs)]) →
    (p.psn < 2 ^ 24) →
    p.last = false →
    (c.reasm = []) →
    Completes (.roceReadResponse p) s (fun t =>
      ((t.conn? c.cid).any (fun x => x.reasm.map (fun r => (r.msgId, r.pieces)) == [(p.psn, [(0, p.payload)])] && x.asked == [(p.psn, k, ofs)]) = true) ∧
      (t.rd (F.XPT_RX_PKT c.role) = (s.rd (F.XPT_RX_PKT c.role) + 1) % 2 ^ 32))) ∧
  (∀ (s : State) (qp : Nat) (psn : Nat) (c : Conn) (k : Nat),
    (s.isSet F.XPT_CTX_CFG_ROCE_EN = true) →
    (s.qp? qp = some c) →
    (c.waiting = []) →
    (c.asked = []) →
    (s.cmds = []) →
    (s.winops = []) →
    Completes (.roceAcknowledge qp psn (.ack k) false) s (fun t =>
      ((t.conn? qp).any (fun x => x.una == c.una.filter (fun q => !(dist24 psn q.psn < 2 ^ 23)) && x.hostCredit == (creditOf k).map (fun n => n - ({ c with una := c.una.filter fun q => !(dist24 psn q.psn < 2 ^ 23) } : Conn).sendsOut) && x.retries == 0) = true))) ∧
  (∀ (s : State) (qp : Nat) (psn : Nat) (c : Conn) (d : Nat),
    (s.isSet F.XPT_CTX_CFG_ROCE_EN = true) →
    (s.qp? qp = some c) →
    (c.rnrRetries < 7) →
    Completes (.roceAcknowledge qp psn (.rnr d) false) s (fun t =>
      ((t.conn? qp).any (fun x => x.rnrAt == some (s.now + d) && x.rnrRetries == c.rnrRetries + 1) = true))) ∧
  (∀ (s : State) (qp : Nat) (psn : Nat) (c : Conn),
    (s.isSet F.XPT_CTX_CFG_ROCE_EN = true) →
    (s.qp? qp = some c) →
    (c.retries < 7) →
    (c.una = []) →
    Completes (.roceAcknowledge qp psn .nakSeq false) s (fun t =>
      ((t.conn? qp).any (fun x => x.retries == c.retries + 1) = true))) ∧
  (∀ (s : State) (qp : Nat) (psn : Nat) (original : Nat) (c : Conn),
    (s.isSet F.XPT_CTX_CFG_ROCE_EN = true) →
    (s.qp? qp = some c) →
    (c.waiting = []) →
    (c.asked = []) →
    (s.cmds = []) →
    (s.winops = []) →
    Completes (.roceAtomicAcknowledge qp psn original false) s (fun t =>
      ((t.conn? qp).any (fun x => x.una == c.una.filter (fun q => !(dist24 psn q.psn < 2 ^ 23)) && x.rnrRetries == 0) = true))) ∧
  (∀ (s : State) (qp : Nat) (c : Conn),
    (s.isSet F.XPT_CTX_CFG_ROCE_EN = true) →
    (s.qp? qp = some c) →
    Completes (.roceCnp qp) s (fun t =>
      ((t.conn? qp).any (fun x => x.target == c.rate && x.rAlpha == (1 - 1 / 256) * c.rAlpha + 1 / 256 && x.rate == max 100 (c.rate * (1 - ((1 - 1 / 256) * c.rAlpha + 1 / 256) / 2)) && x.recSteps == 0) = true) ∧
      (t.rd (F.XPT_CNP_RX c.role) = (s.rd (F.XPT_CNP_RX c.role) + 1) % 2 ^ 32))) ∧
  (∀ (s : State) (qp : Nat) (c : Conn) (q : TxPkt),
    (s.qp? qp = some c) →
    (c.una = [q]) →
    c.rnrAt = none →
    (c.retries < 7) →
    (s.due (q.sentAt + 16384 * 2 ^ max 3 c.ackExp) = true) →
    Completes (.roceAckTimeout qp) s (fun t =>
      (t.out = .roce c.peerAddr c.peerCid c.sport (.message q.psn q.body) :: s.out) ∧
      ((t.conn? qp).any (fun x => x.retries == c.retries + 1 && x.una.map (fun y => (y.psn, y.retx, y.sentAt)) == [(q.psn, q.retx + 1, s.now)]) = true) ∧
      (t.rd (F.XPT_RTO c.role) = (s.rd (F.XPT_RTO c.role) + 1) % 2 ^ 32))) ∧
  (∀ (s : State) (qp : Nat) (c : Conn) (d : Nat),
    (s.qp? qp = some c) →
    (c.rnrAt = some d) →
    (s.due d = true) →
    (c.una = []) →
    (c.waiting = []) →
    Completes (.roceRnrTimer qp) s (fun t =>
      ((t.conn? qp).any (fun x => x.rnrAt == none) = true) ∧
      (t.out = s.out))) ∧
  (∀ (s : State) (qp : Nat) (c : Conn),
    (s.qp? qp = some c) →
    (s.due (c.cnpRxAt + usU 55) = true) →
    Completes (.roceRateTimer qp) s (fun t =>
      ((t.conn? qp).any (fun x => x.rAlpha == (1 - 1 / 256) * c.rAlpha && x.rate == (if c.recSteps < 5 then (c.rate + c.target) / 2 else min lineRate (c.rate + 40)) && x.recSteps == (if c.recSteps < 5 then c.recSteps + 1 else c.recSteps)) = true))) ∧
  (∀ (s : State) (r : CmReq) (i : Nat),
    (s.isSet F.XPT_CTX_CFG_ROCE_EN = true) →
    r.valid = true →
    (r.mtu = 1024 ∨ r.mtu = 2048 ∨ r.mtu = 4096) →
    (s.freeIndex? = some i) →
    (s.onChip (s.xptRole i) < 2048) →
    Completes (.cmReq r) s (fun t =>
      (t.conns.length = s.conns.length + 1) ∧
      (t.conns.getLast?.any (fun c => c.index == i && c.mode == .roce && c.state == .rtr && c.peerAddr == r.srcAddr && c.peerCid == r.srcQp && c.payload == r.mtu && c.rcvPsn == r.initPsn % 2 ^ 24) = true) ∧
      (t.out.head? = some (.cmRep (s.nextGen i * 2 ^ 18 + i))))) ∧
  (∀ (s : State) (qp : Nat) (c : Conn),
    (s.isSet F.XPT_CTX_CFG_ROCE_EN = true) →
    (s.qp? qp = some c) →
    (c.state = .rtr) →
    (c.waiting = []) →
    Completes (.cmRtu qp) s (fun t =>
      ((t.conn? qp).any (fun x => x.state == .rts && x.since == s.now) = true))) ∧
  (∀ (s : State) (qp : Nat) (c : Conn),
    (s.isSet F.XPT_CTX_CFG_ROCE_EN = true) →
    (s.conn? qp = some c) →
    (c.mode = .roce) →
    Completes (.cmDreq qp) s (fun t =>
      (t.conns.all (fun x => x.index != c.index) = true) ∧
      (t.freed.head? = some ⟨c.index, c.gen % 63 + 1, s.now⟩) ∧
      ((newOut s t).contains (.cmDrep qp) = true))) ∧
  (∀ (s : State) (qp : Nat) (c : Conn),
    (s.isSet F.XPT_CTX_CFG_ROCE_EN = true) →
    (s.conn? qp = some c) →
    (c.mode = .roce) →
    (c.state = .error) →
    Completes (.cmDrep qp) s (fun t =>
      (t.conns = s.conns.filter (fun x => x.index != c.index)) ∧
      (t.freed.head? = some ⟨c.index, c.gen % 63 + 1, s.now⟩))) ∧
  (∀ (s : State) (qp : Nat) (c : Conn),
    (s.isSet F.XPT_CTX_CFG_ROCE_EN = true) →
    (s.conn? qp = some c) →
    (c.mode = .roce) →
    (c.state = .rtr) →
    Completes (.cmRej qp) s (fun t =>
      (t.conns = s.conns.filter (fun x => x.index != c.index)) ∧
      (t.freed.head? = some ⟨c.index, c.gen % 63 + 1, s.now⟩))) ∧
  (∀ (s : State) (cid : Nat) (c : Conn),
    (s.conn? cid = some c) →
    c.spilled = true →
    c.fetchQueued = true →
    (s.conns.filter (fun x => x.index == c.index) = [c]) →
    (s.onChip c.role < 2048) →
    (c.held = []) →
    (c.heldRoce = []) →
    Completes (.contextFetchDone cid) s (fun t =>
      ((t.conn? cid).any (fun x => !x.spilled && !x.fetchQueued && x.lastUse == s.now) = true) ∧
      (t.onChip c.role = s.onChip c.role + 1)))

/-- Windows and the attached-memory cache: publication, revocation, window messages, fills, write-backs and maintenance -/
def Obligations.WindowsAndCache : Prop :=
  (∀ (s : State) (v : NvmeCmd) (i : Nat) (n : Namespace) (x : Nat) (w : Window),
    (adminReady s v = true) →
    ((s.ctrl? v.ctl).bind (·.ident) = some i) →
    (hasBit v.cdw10 31 = false) →
    (w = parseWindow v.data i) →
    (s.ns? w.nsid = some n) →
    (s.nsAttached v.ctl w.nsid = true) →
    (s.publishRefusal n w (bytesAt v.data 35 1) i = none) →
    (bytesAt v.data 36 28 = 0) →
    (s.freeWindow? = some x) →
    Completes (.setFeaturesWindowPublish v) s (fun t =>
      ((t.window? x).any (fun y => y.valid && y.nsid == w.nsid && y.slba == w.slba && y.len == w.len && y.base == w.base && y.rights == w.rights && y.publisher == i && y.tag == (if ((s.window? x).map (·.tag)).getD 0 = 255 then 1 else ((s.window? x).map (·.tag)).getD 0 + 1)) = true) ∧
      ((t.window? x).any (fun y => answered s t v y.key St.ok) = true) ∧
      (t.cmds = s.cmds))) ∧
  (∀ (s : State) (v : NvmeCmd) (w : Window),
    (adminReady s v = true) →
    (hasBit v.cdw10 31 = false) →
    (v.cdw11 % 16 = 2) →
    (s.window? (bytesAt v.data 0 4 / 256) = some w) →
    w.valid = true →
    (w.key = bytesAt v.data 0 4) →
    ((s.ctrl? v.ctl).bind (·.ident) = some w.publisher) →
    (s.nsAttached v.ctl w.nsid = true) →
    (s.lines = []) →
    Completes (.setFeaturesWindowRevoke v) s (fun t =>
      ((t.window? w.index).any (fun y => !y.valid && y.revoking == some [s.nextCmd]) = true) ∧
      ((t.cmd? s.nextCmd).any (fun c => c.nv.cid == v.cid && c.result.isNone) = true))) ∧
  (∀ (s : State) (v : NvmeCmd) (w : Window),
    (adminReady s v = true) →
    (s.epFuncOf v.ctl = none) →
    (s.window? (v.cdw11 / 256) = some w) →
    w.valid = true →
    (w.key = v.cdw11) →
    ((s.ctrl? v.ctl).bind (·.ident) = some w.publisher) →
    Completes (.getFeaturesWindow v) s (fun t =>
      (answered s t v 0 St.ok = true) ∧
      ((newOut s t).contains (.hostData v.ctl v.qid v.cid 64 w.bytes) = true))) ∧
  (∀ (s : State) (index : Nat) (w : Window),
    (s.window? index = some w) →
    (w.revoking = some []) →
    (s.winops = []) →
    Completes (.windowRevokeComplete index) s (fun t =>
      ((t.window? index).any (fun y => y.revoking == none && y.freedAt == some s.now) = true))) ∧
  (∀ (s : State) (op : Nat) (o : WinOp) (c : Conn) (bs : List (Nat × Nat)),
    (s.op? op = some o) →
    (o.kind = .commit bs) →
    (o.needs = []) →
    o.acked = false →
    (s.due o.readyAt = true) →
    s.paired = false →
    s.pair.resync = none →
    (s.mirrorOut = []) →
    (s.pends = []) →
    (s.conn? o.cid = some c) →
    (c.mode = .nrt) →
    Completes (.windowCommitDone op) s (fun t =>
      (t.winops.all (fun y => y.id != op) = true) ∧
      (sentOrWaiting t o.cid (.atomicResp o.msg (bit o.failed)) = true))) ∧
  (∀ (s : State) (nsid : Nat) (lba : Nat) (l : Line) (n : Namespace),
    (s.line? nsid lba = some l) →
    (s.ns? nsid = some n) →
    l.valid = true →
    l.dirty = true →
    l.wb = none →
    l.wbq = true →
    n.fixed = false →
    (s.spaceHold (n.moveTo.getD n.group) = false) →
    ((s.place (n.moveTo.getD n.group) .host (newBlock (.line nsid lba) nsid lba n.gen 0 0 (some (.enter l.data (piGen n.lbaf n.pit l.data 0 lba))))).2.isSome = true) →
    Completes (.windowWritebackTimer nsid lba) s (fun t =>
      ((t.line? nsid lba).any (fun x => x.wb == some l.data && x.wbVer == l.ver && !x.wbq) = true))) ∧
  (∀ (s : State) (op : Nat) (o : WinOp) (c : Conn) (l : Line) (b : Nat × Nat),
    (s.op? op = some o) →
    (s.winops = [o]) →
    (o.kind = .read) →
    o.visible = false →
    o.acked = false →
    (s.due o.readyAt = true) →
    (o.blocks = [b]) →
    (s.line? b.1 b.2 = some l) →
    l.valid = true →
    (s.cmds = []) →
    (s.sectors = []) →
    (s.conn? o.cid = some c) →
    (c.mode = .nrt) →
    Completes (.windowCeilingEligible op) s (fun t =>
      (sentOrWaiting t o.cid (.windowData o.msg o.len (bytesAt (putAt 0 4096 l.data) (o.byte % 4096) o.len)) = true) ∧
      (t.rd F.MEM_HIT = (s.rd F.MEM_HIT + 1) % 2 ^ 32))) ∧
  (∀ (s : State) (nsid : Nat) (lba : Nat) (l : Line) (n : Namespace) (b : Blk),
    (s.line? nsid lba = some l) →
    (s.ns? nsid = some n) →
    l.filling = true →
    (s.missing n [lba] = []) →
    ((s.lookups n [lba]).fillContent n lba = some b) →
    (s.winops = []) →
    Completes (.lineFillDone nsid lba ([])) s (fun t =>
      ((t.line? nsid lba).any (fun x => x.valid && !x.filling && x.data == b.data) = true))) ∧
  (∀ (s : State) (nsid : Nat) (lba : Nat) (l : Line),
    (s.lines = [l]) →
    l.nsid = nsid →
    l.lba = lba →
    l.wb.isSome = true →
    l.wbMet = true →
    l.redirtied = false →
    (s.sectors = []) →
    (s.winops = []) →
    Completes (.lineWritebackDone nsid lba) s (fun t =>
      (t.lines = [{ l with wb := none, wbMet := false, dirty := false, redirtied := false }]))) ∧
  (∀ (s : State),
    (s.reloading 4 = false) →
    s.cacheRole = true →
    (s.isSet F.MEM_CACHE_CTL_DIS_PENDING = false) →
    (s.isSet F.MEM_CACHE_CTL_EN = false) →
    (s.isSet F.MEM_CACHE_CTL_INV_DONE = true) →
    Completes .cacheSetEn s (fun t =>
      (t.isSet F.MEM_CACHE_CTL_EN = true) ∧
      (t.isSet F.MEM_CACHE_CTL_EN_REFUSED = s.isSet F.MEM_CACHE_CTL_EN_REFUSED))) ∧
  (∀ (s : State),
    (s.reloading 4 = false) →
    s.cacheRole = true →
    (s.isSet F.MEM_CACHE_CTL_DIS_PENDING = false) →
    (s.isSet F.MEM_CACHE_CTL_EN = false) →
    (s.isSet F.MEM_CACHE_CTL_INV_DONE = false) →
    Completes .cacheSetEn s (fun t =>
      (t.isSet F.MEM_CACHE_CTL_EN = false) ∧
      (t.isSet F.MEM_CACHE_CTL_EN_REFUSED = true))) ∧
  (∀ (s : State),
    (s.reloading 4 = false) →
    s.cacheRole = true →
    (s.isSet F.MEM_CACHE_CTL_EN = true) →
    (s.isSet F.MEM_CACHE_CTL_DIS_PENDING = false) →
    s.maint = none →
    (s.lines = []) →
    Completes .cacheClrEn s (fun t =>
      (t.isSet F.MEM_CACHE_CTL_DIS_PENDING = true) ∧
      (t.isSet F.MEM_CACHE_CTL_INV_DONE = false) ∧
      (t.isSet F.MEM_CACHE_CTL_EN = true))) ∧
  (∀ (s : State),
    (s.isSet F.MEM_CACHE_CTL_DIS_PENDING = true) →
    s.maint = none →
    (s.lines.all (fun l => !l.dirty && !l.busy) = true) →
    (s.winops = []) →
    Completes .cacheDisableComplete s (fun t =>
      (t.isSet F.MEM_CACHE_CTL_EN = false) ∧
      (t.isSet F.MEM_CACHE_CTL_DIS_PENDING = false) ∧
      (t.lines = []) ∧
      (t.sectors = []))) ∧
  (∀ (s : State) (all : Bool),
    (s.reloading 4 = false) →
    (s.isSet F.MEM_MNT_CMD_BUSY = false) →
    (s.isSet F.MEM_CACHE_CTL_DIS_PENDING = false) →
    (s.lines = []) →
    Completes (.mntClean all) s (fun t =>
      (t.isSet F.MEM_MNT_CMD_BUSY = true) ∧
      (t.maint.any (fun m => m.op == 1 && m.all == all && m.nsid == s.rd F.MEM_MNT_NSID_NSID && m.left.isEmpty) = true))) ∧
  (∀ (s : State) (all : Bool),
    (s.reloading 4 = false) →
    (s.isSet F.MEM_MNT_CMD_BUSY = false) →
    (s.isSet F.MEM_CACHE_CTL_DIS_PENDING = false) →
    (s.lines = []) →
    Completes (.mntInvalidate all) s (fun t =>
      (t.isSet F.MEM_MNT_CMD_BUSY = true) ∧
      (t.maint.any (fun m => m.op == 2 && m.all == all && m.nsid == s.rd F.MEM_MNT_NSID_NSID && m.left.isEmpty) = true))) ∧
  (∀ (s : State) (all : Bool),
    (s.reloading 4 = false) →
    (s.isSet F.MEM_MNT_CMD_BUSY = true) →
    Completes (.mntInvalidate all) s (fun t =>
      (t.maint = s.maint) ∧
      (t.lines = s.lines) ∧
      (t.isSet F.MEM_MNT_CMD_REFUSED = true))) ∧
  (∀ (s : State) (m : Maint),
    (s.maint = some m) →
    (m.left = []) →
    m.op = 2 →
    m.all = true →
    (s.isSet F.MEM_CACHE_CTL_EN = false) →
    (s.isSet F.MEM_CACHE_CTL_DIS_PENDING = false) →
    Completes .mntComplete s (fun t =>
      (t.maint = none) ∧
      (t.lines = []) ∧
      (t.isSet F.MEM_MNT_CMD_BUSY = false) ∧
      (t.isSet F.MEM_CACHE_CTL_INV_DONE = true))) ∧
  (∀ (s : State) (r : Nat),
    (r < 15) →
    s.boot.memBad = 0 →
    ((List.range r).all (fun i => hasBit (s.rd F.MEM_STAT_READY) i) = true) →
    Completes (.memRegionReady r) s (fun t =>
      (hasBit (t.rd F.MEM_STAT_READY) r = true))) ∧
  (∀ (s : State) (r : Nat),
    (r < 15) →
    s.boot.memBad = 0 →
    ((List.range r).all (fun i => hasBit (s.rd F.MEM_STAT_READY) i) = false) →
    Completes (.memRegionReady r) s (fun t =>
      (t = s))) ∧
  (∀ (s : State) (channel : Nat) (celsius : Nat),
    (channel < (match s.part with | .zs => 8 | .zl => 4)) →
    Completes (.dimmTempChange channel celsius) s (fun t =>
      (t.rd (F.MEM_CHSTAT_TEMP channel) = min 255 celsius) ∧
      (t.isSet (F.MEM_CHSTAT_HOT channel) = decide (85 < celsius)) ∧
      (t.isSet (F.MEM_CHSTAT_THROTTLED channel) = decide (s.rd F.MEM_CFG_THROTTLE_C < celsius))))

/-- I/O commands: delivery, admission, dispatch and completion -/
def Obligations.IoCommands : Prop :=
  (∀ (s : State) (v : NvmeCmd),
    (v.qid ≠ 0) →
    (queueTakes s v = true) →
    Completes (.nvmeFlush v) s (fun t =>
      ((t.cmd? s.nextCmd).any (fun c => c.nv == { v with opc := 0x00 } && c.phase == .delivered && c.result.isNone && c.at_ == s.now) = true) ∧
      (t.nextCmd = s.nextCmd + 1) ∧
      (t.cmds.length = s.cmds.length + 1))) ∧
  (∀ (s : State) (v : NvmeCmd),
    (v.qid ≠ 0) →
    (queueTakes s v = true) →
    Completes (.nvmeWrite v) s (fun t =>
      ((t.cmd? s.nextCmd).any (fun c => c.nv == { v with opc := 0x01 } && c.phase == .delivered && c.result.isNone && c.at_ == s.now) = true) ∧
      (t.nextCmd = s.nextCmd + 1) ∧
      (t.cmds.length = s.cmds.length + 1))) ∧
  (∀ (s : State) (v : NvmeCmd),
    (v.qid ≠ 0) →
    (queueTakes s v = true) →
    Completes (.nvmeRead v) s (fun t =>
      ((t.cmd? s.nextCmd).any (fun c => c.nv == { v with opc := 0x02 } && c.phase == .delivered && c.result.isNone && c.at_ == s.now) = true) ∧
      (t.nextCmd = s.nextCmd + 1) ∧
      (t.cmds.length = s.cmds.length + 1))) ∧
  (∀ (s : State) (v : NvmeCmd),
    (v.qid ≠ 0) →
    (queueTakes s v = true) →
    Completes (.nvmeCompare v) s (fun t =>
      ((t.cmd? s.nextCmd).any (fun c => c.nv == { v with opc := 0x05 } && c.phase == .delivered && c.result.isNone && c.at_ == s.now) = true) ∧
      (t.nextCmd = s.nextCmd + 1) ∧
      (t.cmds.length = s.cmds.length + 1))) ∧
  (∀ (s : State) (v : NvmeCmd),
    (v.qid ≠ 0) →
    (queueTakes s v = true) →
    Completes (.nvmeWriteZeroes v) s (fun t =>
      ((t.cmd? s.nextCmd).any (fun c => c.nv == { v with opc := 0x08 } && c.phase == .delivered && c.result.isNone && c.at_ == s.now) = true) ∧
      (t.nextCmd = s.nextCmd + 1) ∧
      (t.cmds.length = s.cmds.length + 1))) ∧
  (∀ (s : State) (v : NvmeCmd),
    (v.qid ≠ 0) →
    (queueTakes s v = true) →
    Completes (.nvmeDatasetManagement v) s (fun t =>
      ((t.cmd? s.nextCmd).any (fun c => c.nv == { v with opc := 0x09 } && c.phase == .delivered && c.result.isNone && c.at_ == s.now) = true) ∧
      (t.nextCmd = s.nextCmd + 1) ∧
      (t.cmds.length = s.cmds.length + 1))) ∧
  (∀ (s : State) (v : NvmeCmd),
    (v.qid ≠ 0) →
    (queueTakes s v = true) →
    Completes (.nvmeVerify v) s (fun t =>
      ((t.cmd? s.nextCmd).any (fun c => c.nv == { v with opc := 0x0C } && c.phase == .delivered && c.result.isNone && c.at_ == s.now) = true) ∧
      (t.nextCmd = s.nextCmd + 1) ∧
      (t.cmds.length = s.cmds.length + 1))) ∧
  (∀ (s : State) (role : Nat) (c : Cmd) (n : Namespace),
    (s.halRole ≠ 2) →
    (s.halRole ≠ 4) →
    s.serving_ = true →
    (s.cmds = [c]) →
    (c.nv.qid ≠ 0) →
    c.nv.opc = 0x02 →
    (s.homeRole c.nv = role) →
    (c.phase = .delivered) →
    c.result = none →
    (s.ioCheck c = none) →
    (s.pick role = some c) →
    (s.ns? c.nv.nsid = some n) →
    Completes (.commandAdmission role) s (fun t =>
      ((t.cmd? c.id).any (fun x => x.phase == .admitted && x.nv == c.nv) = true))) ∧
  (∀ (s : State) (role : Nat) (c : Cmd),
    (s.halRole ≠ 2) →
    (s.halRole ≠ 4) →
    s.paired = false →
    (s.cmds = [c]) →
    (c.nv.qid ≠ 0) →
    (s.homeRole c.nv = role) →
    (s.adminWaits = []) →
    (c.phase = .delivered) →
    c.result = none →
    c.ordered = false →
    (s.ioCheck c = some St.lbaRange) →
    ((s.queueOf c.nv).any (fun (q : Queue) => q.conn.any fun (k : Nat) => (s.conn? k).isSome) = true) →
    Completes (.commandAdmission role) s (fun t =>
      (answered s t c.nv 0 St.lbaRange = true) ∧
      (t.cmds = []))) ∧
  (∀ (s : State) (id : Nat) (dataOk : Bool) (c : Cmd) (n : Namespace),
    (s.cmd? id = some c) →
    s.draining = false →
    (s.ns? c.nv.nsid = some n) →
    n.fixed = false →
    (c.phase = .admitted) →
    c.result = none →
    c.nv.opc = 0x08 →
    (c.dirtyWait = []) →
    Completes (.commandDispatch id dataOk) s (fun t =>
      ((t.cmd? id).any (fun x => x.phase == .dispatched && x.recsLeft.length == 1) = true) ∧
      (t.pendings = s.pendings ++ [⟨c.id, n.nsid, slba c.nv, nlb c.nv, some .zero⟩]))) ∧
  (∀ (s : State) (id : Nat) (c : Cmd) (dw0 : Nat) (st : Status),
    (s.halRole ≠ 2) →
    (s.halRole ≠ 4) →
    s.paired = false →
    (s.cmd? id = some c) →
    (c.phase = .met) →
    (c.result = some (dw0, st.sct, st.sc, st.dnr)) →
    c.ordered = false →
    (s.adminWaits = []) →
    (s.winops = []) →
    ((s.queueOf c.nv).any (fun (q : Queue) => q.conn.any fun (k : Nat) => (s.conn? k).isSome) = true) →
    Completes (.commandCompletion id) s (fun t =>
      (answered s t c.nv dw0 st = true) ∧
      (t.cmds = s.cmds.filter (fun x => x.id != c.id)) ∧
      (t.rd (F.CMD_DONE (cmdRole c.nv)) = (s.rd (F.CMD_DONE (cmdRole c.nv)) + 1) % 2 ^ 32))) ∧
  (∀ (s : State) (id : Nat) (c : Cmd),
    (s.cmd? id = some c) →
    (c.phase = .dispatched) →
    c.result = none →
    (s.waitsLong c = true) →
    c.waited = false →
    Completes (.memberWaitNotice id) s (fun t =>
      ((t.cmd? id).any (·.waited) = true) ∧
      (t.jobs = s.jobs)))

/-- Reservation commands whose checks pass -/
def Obligations.Reservations : Prop :=
  (∀ (s : State) (v : NvmeCmd) (n : Namespace) (i : Nat),
    (resvReady s { v with opc := 0x0D } = true) →
    (s.ns? v.nsid = some n) →
    ((s.ctrl? v.ctl).bind (·.ident) = some i) →
    (bits v.cdw10 2 0 = 0) →
    (bits v.cdw10 31 30 ≠ 1) →
    (n.resv.key? i = none) →
    (n.resv.regs.length < 64) →
    Completes (.reservationRegister v) s (fun t =>
      ((t.ns? v.nsid).any (fun x => x.resv.regs == n.resv.regs ++ [(i, bytesAt v.data 8 8)] && x.resv.gen == (n.resv.gen + 1) % 2 ^ 32 && x.resv.rtype == n.resv.rtype) = true) ∧
      (answered s t v 0 St.ok = true))) ∧
  (∀ (s : State) (v : NvmeCmd) (n : Namespace),
    (resvReady s { v with opc := 0x0E } = true) →
    (s.ns? v.nsid = some n) →
    (hasBit v.cdw11 0 = true) →
    Completes (.reservationReport v) s (fun t =>
      ((t.ns? v.nsid).map (·.resv) = some n.resv) ∧
      (answered s t v 0 St.ok = true))) ∧
  (∀ (s : State) (v : NvmeCmd) (n : Namespace) (i : Nat),
    (resvReady s { v with opc := 0x11 } = true) →
    (s.ns? v.nsid = some n) →
    ((s.ctrl? v.ctl).bind (·.ident) = some i) →
    (bits v.cdw10 3 0 = 0) →
    (1 ≤ bits v.cdw10 15 8) →
    (bits v.cdw10 15 8 ≤ 6) →
    (n.resv.key? i = some (bytesAt v.data 0 8)) →
    n.resv.rtype = 0 →
    Completes (.reservationAcquire v) s (fun t =>
      ((t.ns? v.nsid).any (fun x => x.resv.rtype == bits v.cdw10 15 8 && x.resv.holds i && x.resv.regs == n.resv.regs) = true) ∧
      (answered s t v 0 St.ok = true))) ∧
  (∀ (s : State) (v : NvmeCmd) (n : Namespace) (i : Nat),
    (resvReady s { v with opc := 0x15 } = true) →
    (s.ns? v.nsid = some n) →
    ((s.ctrl? v.ctl).bind (·.ident) = some i) →
    (bits v.cdw10 3 0 = 0) →
    (n.resv.key? i = some (bytesAt v.data 0 8)) →
    (n.resv.holds i = true) →
    (n.resv.rtype = bits v.cdw10 15 8) →
    (n.resv.rtype < 3) →
    Completes (.reservationRelease v) s (fun t =>
      ((t.ns? v.nsid).any (fun x => x.resv.rtype == 0 && x.resv.holder == none && x.resv.regs == n.resv.regs) = true) ∧
      (answered s t v 0 St.ok = true)))

/-- Connect, properties and authentication -/
def Obligations.FabricsCommands : Prop :=
  (∀ (s : State) (cid : Nat) (v : NvmeCmd) (c : Conn) (i : Ident) (x : Nat),
    (s.conn? cid = some c) →
    (s.connectRefusal c v = none) →
    (bits v.cdw10 31 16 = 0) →
    s.paired = false →
    (s.connectIdent v = some i) →
    (s.freeCtrl? = some x) →
    Completes (.fabricsConnect cid v) s (fun t =>
      ((t.ctrl? x).any (fun (z : Ctrl) => z.ident == some i.index && z.func == none && z.cc == 0 && z.queues.map (fun (q : Queue) => (q.qid, q.conn, q.size)) == [(0, some cid, bits v.cdw11 15 0 + 1)]) = true) ∧
      ((t.conn? cid).any (fun (k : Conn) => k.queue == some (x, 0)) = true) ∧
      (sentOrWaiting t cid (.response v.cid ((x + 1) + 65536 * (if i.auth = 0 then 0 else 2)) 0 0 0) = true))) ∧
  (∀ (s : State) (v : NvmeCmd) (k : Ctrl),
    (adminReady s v = true) →
    (s.ctrl? v.ctl = some k) →
    v.cdw11 = 0x14 →
    (v.cdw10 % 8 ≠ 1) →
    Completes (.propertyGet v) s (fun t =>
      (answered s t v (k.cc % 2 ^ 32) St.ok = true))) ∧
  (∀ (s : State) (v : NvmeCmd),
    (adminReady s v = true) →
    v.cdw11 = 0x14 →
    (v.cdw12 % 2 = 1) →
    Completes (.propertySet v) s (fun t =>
      ((t.ctrl? v.ctl).any (fun (z : Ctrl) => z.cc == (v.cdw12 + 2 ^ 32 * v.cdw13) % 2 ^ 32 && hasBit z.csts 0) = true) ∧
      (answered s t v 0 St.ok = true))) ∧
  (∀ (s : State) (v : NvmeCmd),
    (adminReady s v = true) →
    ((s.ctrl? v.ctl).any (fun (z : Ctrl) => z.func.isNone) = true) →
    Completes (.propertySetCcEnClear v) s (fun t =>
      (t.ctrl? v.ctl = none) ∧
      (t.freedCtrls.head? = some (v.ctl, s.now)))) ∧
  (∀ (s : State) (v : NvmeCmd),
    (adminReady s v = true) →
    (bits v.cdw12 15 14 = 1) →
    Completes (.propertySetCcShn v) s (fun t =>
      ((t.ctrl? v.ctl).any (fun (z : Ctrl) => z.shutdown && bits z.csts 3 2 == 1) = true) ∧
      (answered s t v 0 St.ok = true))) ∧
  (∀ (s : State) (v : NvmeCmd),
    (adminReady s v = true) →
    (s.isSet F.CMD_CFG_NSSR_EN = true) →
    (v.cdw12 % 2 ^ 32 = 0x4E564D65) →
    (s.hasPriv v.ctl 1 = true) →
    ((s.ctrl? v.ctl).any (fun (z : Ctrl) => z.func.isNone) = true) →
    Completes (.propertySetNssr v) s (fun t =>
      (t.nssro = true) ∧
      (t.ctrl? v.ctl = none) ∧
      (t.ctrls.all (fun (z : Ctrl) => hasBit z.csts 4) = true))) ∧
  (∀ (s : State) (v : NvmeCmd) (tid : Nat) (hs : List Nat) (gs : List Nat) (x : Nat) (g : Nat),
    (adminFits s v = true) →
    (hs.find? authHashes.contains = some x) →
    (gs.find? authGroups.contains = some g) →
    ((s.identOf v.ctl).isSome = true) →
    Completes (.authenticationSend v (.negotiate tid 0 hs gs)) s (fun t =>
      ((t.queueOf v).any (fun (q : Queue) => q.authStep == 1 && q.authTid == tid && q.authHash == x && q.authGroup == g) = true) ∧
      (answered s t v 0 St.ok = true))) ∧
  (∀ (s : State) (v : NvmeCmd),
    (adminFits s v = true) →
    ((s.identOf v.ctl).isSome = true) →
    ((s.queueOf v).any (fun (q : Queue) => q.authStep == 1) = true) →
    Completes (.authenticationReceive v) s (fun t =>
      ((t.queueOf v).any (fun (q : Queue) => q.authStep == 2) = true) ∧
      (answered s t v 0 St.ok = true))) ∧
  (∀ (s : State) (ident : Nat) (x : Ident),
    (s.ident? ident = some x) →
    (0 < x.refuseUntil) →
    (s.due x.refuseUntil = true) →
    Completes (.authLockoutExpiry ident) s (fun t =>
      (t.ident? ident = some { x with refuseUntil := 0 })))

/-- Admin commands of the controller -/
def Obligations.AdminCommands : Prop :=
  (∀ (s : State) (v : NvmeCmd),
    (adminReady s v = true) →
    Completes (.keepAlive v) s (fun t =>
      ((t.ctrl? v.ctl).any (fun (z : Ctrl) => z.lastCmd == s.now) = true) ∧
      (answered s t v 0 St.ok = true))) ∧
  (∀ (s : State) (v : NvmeCmd),
    (adminReady s v = true) →
    Completes (.unsupportedOpcode v) s (fun t =>
      (answered s t v 0 St.opcode = true))) ∧
  (∀ (s : State) (v : NvmeCmd),
    (adminReady s v = true) →
    (s.cmds = []) →
    Completes (.abort v) s (fun t =>
      (answered s t v 1 St.ok = true))) ∧
  (∀ (s : State) (v : NvmeCmd) (x : Cmd),
    (adminReady s v = true) →
    (s.cmds = [x]) →
    (x.nv.ctl = v.ctl) →
    (x.nv.qid = bits v.cdw10 15 0) →
    (x.nv.cid = bits v.cdw10 31 16) →
    (x.nv.qid ≠ 0) →
    (x.phase = .delivered) →
    x.result = none →
    Completes (.abort v) s (fun t =>
      (t.cmds = []) ∧
      (answered s t v 0 St.ok = true))) ∧
  (∀ (s : State) (v : NvmeCmd) (k : Ctrl),
    (adminReady s v = true) →
    (s.ctrl? v.ctl = some k) →
    (k.aers.length < 8) →
    (k.notices = []) →
    Completes (.asyncEventRequest v) s (fun t =>
      ((t.ctrl? v.ctl).map (·.aers) = some (k.aers ++ [s.nextCmd])) ∧
      (t.cmds.length = s.cmds.length + 1))) ∧
  (∀ (s : State) (v : NvmeCmd),
    (adminReady s v = true) →
    (v.cdw10 % 256 = 4) →
    Completes (.setFeatures v) s (fun t =>
      ((t.ctrl? v.ctl).any (fun (z : Ctrl) => z.feature 4 == v.cdw11) = true) ∧
      (answered s t v 0 St.ok = true))) ∧
  (∀ (s : State) (v : NvmeCmd) (k : Ctrl),
    (adminReady s v = true) →
    (s.ctrl? v.ctl = some k) →
    (v.cdw10 % 256 = 4) →
    Completes (.getFeatures v) s (fun t =>
      (answered s t v (k.feature 4) St.ok = true))) ∧
  (∀ (s : State) (v : NvmeCmd) (q : Nat),
    (adminReady s v = true) →
    (hasBit v.cdw10 31 = false) →
    (v.cdw10 % 256 = 0xC1) →
    (s.orderQueue v = some q) →
    Completes (.setFeaturesQueueOrdering v) s (fun t =>
      (((t.ctrl? v.ctl).bind (fun (z : Ctrl) => z.queue? q)).any (fun (x : Queue) => x.mode == (if bits v.cdw11 17 16 = 0 then QMode.free else if bits v.cdw11 17 16 = 1 then QMode.orderedWrites else QMode.strict)) = true) ∧
      (answered s t v 0 St.ok = true))) ∧
  (∀ (s : State) (v : NvmeCmd) (q : Nat),
    (adminReady s v = true) →
    (s.orderQueue v = some q) →
    (((s.ctrl? v.ctl).bind (fun (z : Ctrl) => z.queue? q)).any (fun (x : Queue) => x.mode == QMode.strict) = true) →
    Completes (.getFeaturesQueueOrdering v) s (fun t =>
      (answered s t v 2 St.ok = true))) ∧
  (∀ (s : State) (v : NvmeCmd),
    (adminReady s v = true) →
    (s.hasPriv v.ctl 2 = true) →
    ((v.cdw10 + 1) * 4 % 4096 = 0) →
    (v.cdw11 * 4 % 4096 = 0) →
    (v.cdw11 * 4 + (v.cdw10 + 1) * 4 ≤ s.flash.bankSize) →
    Completes (.firmwareImageDownload v) s (fun t =>
      (t.live.pieces.head? = some (v.cdw11 * 4, (v.cdw10 + 1) * 4)) ∧
      (answered s t v 0 St.ok = true))) ∧
  (∀ (s : State) (ctl : Nat) (k : Ctrl),
    (s.ctrl? ctl = some k) →
    k.func = none →
    (0 < k.kato) →
    (s.due (k.lastCmd + msU 100 * k.kato) = true) →
    Completes (.keepAliveExpiry ctl) s (fun t =>
      (t.ctrl? ctl = none) ∧
      (t.freedCtrls.head? = some (ctl, s.now)))) ∧
  (∀ (s : State) (ctl : Nat) (k : Ctrl),
    (s.ctrl? ctl = some k) →
    k.shutdown = true →
    (bits k.csts 3 2 ≠ 2) →
    (s.cmds.any (fun (c : Cmd) => c.nv.ctl == ctl) = false) →
    Completes (.shutdownComplete ctl) s (fun t =>
      ((t.ctrl? ctl).any (fun (z : Ctrl) => bits z.csts 3 2 == 2) = true)))

/-- Log pages, Identify and QoS profiles -/
def Obligations.LogPagesAndIdentify : Prop :=
  (∀ (s : State) (v : NvmeCmd),
    (adminReady s v = true) →
    (v.cdw10 % 256 = 2) →
    Completes (.getLogPage v) s (fun t =>
      (answered s t v 0 St.ok = true))) ∧
  (∀ (s : State) (v : NvmeCmd) (n : Namespace),
    (adminReady s v = true) →
    ((s.ctrl? v.ctl).any (fun (z : Ctrl) => z.func.isNone) = true) →
    (s.ns? v.nsid = some n) →
    ((s.identOf v.ctl).any (fun (i : Ident) => n.attached.contains i.index) = true) →
    Completes (.logPageLostRanges v) s (fun t =>
      ((newOut s t).contains (.hostData v.ctl v.qid v.cid (logLen v) (bytesAt n.lostPage (logOfs v) (logLen v))) = true) ∧
      (answered s t v 0 St.ok = true))) ∧
  (∀ (s : State) (v : NvmeCmd) (n : Namespace),
    (adminReady s v = true) →
    ((s.ctrl? v.ctl).any (fun (z : Ctrl) => z.func.isNone) = true) →
    (logLsp v = 0) →
    (s.ns? v.nsid = some n) →
    (v.nsid ≠ 0) →
    (v.nsid ≠ 0xFFFFFFFF) →
    (s.nsAttached v.ctl v.nsid = true) →
    Completes (.logPageMetering v) s (fun t =>
      ((newOut s t).contains (.hostData v.ctl v.qid v.cid (logLen v) (bytesAt (meterPage s.now 0 0 (2 * bit n.gap) v.nsid n.tenant 1 n.meter) (logOfs v) (logLen v))) = true) ∧
      (answered s t v 0 St.ok = true))) ∧
  (∀ (s : State) (v : NvmeCmd),
    (adminReady s v = true) →
    ((s.ctrl? v.ctl).any (fun (z : Ctrl) => z.func.isNone) = true) →
    (s.hasPriv v.ctl 3 = true) →
    v.nsid = 0xFFFFFFFF →
    Completes (.logPageLayoutHealth v) s (fun t =>
      ((newOut s t).contains (.hostData v.ctl v.qid v.cid (logLen v) (bytesAt s.healthPage (logOfs v) (logLen v))) = true) ∧
      (answered s t v 0 St.ok = true))) ∧
  (∀ (s : State) (v : NvmeCmd),
    (adminReady s v = true) →
    ((s.ctrl? v.ctl).any (fun (z : Ctrl) => z.func.isNone) = true) →
    (s.hasPriv v.ctl 3 = true) →
    v.nsid = 0xFFFFFFFF →
    Completes (.logPageEventExcerpt v) s (fun t =>
      (answered s t v 0 St.ok = true))) ∧
  (∀ (s : State) (v : NvmeCmd) (k : Ctrl),
    (adminReady s v = true) →
    (s.ctrl? v.ctl = some k) →
    k.func = none →
    (v.cdw10 % 256 = 1) →
    Completes (.identify v) s (fun t =>
      ((newOut s t).contains (.hostData v.ctl v.qid v.cid 4096 (s.identCtrl k)) = true) ∧
      (answered s t v 0 St.ok = true))) ∧
  (∀ (s : State) (v : NvmeCmd),
    (adminReady s v = true) →
    (profileReserved v v.data = false) →
    (v.cdw10 % 256 = 0xC0) →
    (v.cdw11 % 4 = 1) →
    ((s.scopeQueue v).isSome = true) →
    (bytesAt v.data 12 7 = 0) →
    (s.profileReason 1 (s.ns? v.nsid) (parseProfile v.data) = none) →
    Completes (.setFeaturesQosProfile v) s (fun t =>
      (((t.ctrl? v.ctl).bind (fun (z : Ctrl) => z.queue? (bits v.cdw11 31 16))).any (fun (q : Queue) => q.profile == parseProfile v.data) = true) ∧
      (answered s t v 0 St.ok = true))) ∧
  (∀ (s : State) (v : NvmeCmd),
    (adminReady s v = true) →
    (profileReserved v v.data = false) →
    (v.cdw10 % 256 = 0xC0) →
    (v.cdw11 % 4 = 0) →
    (s.hasPriv v.ctl 0 = true) →
    (v.nsid ≠ 0xFFFFFFFF) →
    (s.nsAttached v.ctl v.nsid = true) →
    (s.profileReason 0 (s.ns? v.nsid) (parseProfile v.data) = none) →
    Completes (.setFeaturesQosProfile v) s (fun t =>
      ((t.ns? v.nsid).any (fun (n : Namespace) => n.profile == parseProfile v.data) = true) ∧
      (answered s t v 0 St.ok = true))) ∧
  (∀ (s : State) (v : NvmeCmd) (q : Queue),
    (adminReady s v = true) →
    ((s.ctrl? v.ctl).any (fun (z : Ctrl) => z.func.isNone) = true) →
    (profileReserved v 0 = false) →
    (v.cdw11 % 4 = 1) →
    (s.scopeQueue v = some q) →
    Completes (.getFeaturesQosProfile v) s (fun t =>
      ((newOut s t).contains (.hostData v.ctl v.qid v.cid 64 q.profile.bytes) = true) ∧
      (answered s t v 0 St.ok = true)))

/-- Namespace management, attachment and format -/
def Obligations.Namespaces : Prop :=
  (∀ (s : State) (v : NvmeCmd) (g nsid : Nat),
    (adminReady s v = true) →
    (s.adminWaits = []) →
    (s.hasPriv v.ctl 0 = true) →
    (formatRefusal (bytesAt v.data 26 1 % 16) (hasBit (bytesAt v.data 26 1) 4) (bytesAt v.data 29 1 % 8) = none) →
    (bytesAt v.data 0 8 ≠ 0) →
    (bytesAt v.data 0 8 % 512 = 0) →
    (bytesAt v.data 0 8 ≤ 2 ^ 38) →
    (bytesAt v.data 8 8 ≤ bytesAt v.data 0 8) →
    (bytesAt v.data 3840 1 = 0) →
    (bytesAt v.data 3842 2 = 0) →
    (s.chooseGroup (bytesAt v.data 3841 1) false = some g) →
    (s.freeNsid? = some nsid) →
    (s.canHold g false (bytesAt v.data 0 8) (bytesAt v.data 8 8) = true) →
    (bytesAt v.data 3844 4 ≠ 0) →
    (s.tenantIds.contains (bytesAt v.data 3844 4) = true) →
    Completes (.namespaceCreate v) s (fun t =>
      ((t.ns? nsid).any (fun (n : Namespace) => !n.fixed && n.group == g && n.nsze == bytesAt v.data 0 8 && n.ncap == bytesAt v.data 8 8 && n.lbaf == bytesAt v.data 26 1 % 16 && n.tenant == bytesAt v.data 3844 4 && n.attached == [] && n.profile == Profile.default) = true) ∧
      (t.keyTab.any (fun (k : KeyEntry) => k.slot == nsid - 1) = true) ∧
      (answered s t v nsid St.ok = true))) ∧
  (∀ (s : State) (v : NvmeCmd) (n : Namespace),
    (adminReady s v = true) →
    (s.adminWaits = []) →
    (s.hasPriv v.ctl 0 = true) →
    (s.nss = [n]) →
    (n.nsid = v.nsid) →
    n.deleting = false →
    (s.cmds = []) →
    (s.windows = []) →
    Completes (.namespaceDelete v) s (fun t =>
      ((t.ns? v.nsid).any (fun (z : Namespace) => z.deleting && z.attached == []) = true) ∧
      (t.adminWaits = s.adminWaits ++ [.delete s.nextCmd [v.nsid]]))) ∧
  (∀ (s : State) (v : NvmeCmd) (n : Namespace) (l : List Nat),
    (adminReady s v = true) →
    (s.adminWaits = []) →
    (s.hasPriv v.ctl 0 = true) →
    (s.ns? v.nsid = some n) →
    n.deleting = false →
    (s.ctrlList v = some l) →
    (l.any n.attached.contains = false) →
    (hasBit n.nmic 0 = true) →
    Completes (.namespaceAttach v) s (fun t =>
      ((t.ns? v.nsid).any (fun (x : Namespace) => x.attached == n.attached ++ l) = true) ∧
      (answered s t v 0 St.ok = true))) ∧
  (∀ (s : State) (v : NvmeCmd) (n : Namespace) (l : List Nat),
    (adminReady s v = true) →
    (s.adminWaits = []) →
    (s.hasPriv v.ctl 0 = true) →
    (s.ns? v.nsid = some n) →
    n.deleting = false →
    (s.ctrlList v = some l) →
    (l.all n.attached.contains = true) →
    Completes (.namespaceDetach v) s (fun t =>
      ((t.ns? v.nsid).any (fun (x : Namespace) => x.attached == n.attached.filter (fun (i : Nat) => !l.contains i)) = true) ∧
      (t.adminWaits.getLast? = some (.detach s.nextCmd v.nsid l)))) ∧
  (∀ (s : State) (cmd : Nat) (nsid : Nat) (c : Cmd) (l : List Nat),
    s.paired = false →
    (s.adminWaits = [.detach cmd nsid l]) →
    (s.cmds = [c]) →
    c.id = cmd →
    c.nv.qid = 0 →
    c.ordered = false →
    (c.phase = .delivered) →
    (s.windows = []) →
    ((s.queueOf c.nv).any (fun (q : Queue) => q.conn.any fun (k : Nat) => (s.conn? k).isSome) = true) →
    Completes (.detachComplete cmd) s (fun t =>
      (t.adminWaits = []) ∧
      (t.cmds = []) ∧
      (answered s t c.nv 0 St.ok = true))) ∧
  (∀ (s : State) (v : NvmeCmd) (n : Namespace),
    (adminReady s v = true) →
    (s.adminWaits = []) →
    (s.hasPriv v.ctl 0 = true) →
    (s.ns? v.nsid = some n) →
    n.deleting = false →
    (bits v.cdw10 11 9 ≤ 2) →
    (formatRefusal (bits v.cdw10 3 0) (hasBit v.cdw10 4) (bits v.cdw10 7 5) = none) →
    (s.ctrls.any (fun (z : Ctrl) => z.index != v.ctl && s.nsAttached z.index v.nsid) = false) →
    (s.cmds = []) →
    (s.windows = []) →
    (s.lines = []) →
    Completes (.formatNvm v) s (fun t =>
      ((t.ns? v.nsid).any (fun (x : Namespace) => x.gen == (n.gen + 1) % 65536 && x.lbaf == bits v.cdw10 3 0 && x.pit == bits v.cdw10 7 5 && x.lost == []) = true) ∧
      (t.adminWaits.getLast? = some (.zeroise s.nextCmd (v.nsid - 1))))) ∧
  (∀ (s : State) (nsid : Nat) (gen : Nat),
    (s.sweeps = [(nsid, gen, [])]) →
    Completes (.namespaceSweep nsid gen) s (fun t =>
      (t = { s with sweeps := [] }))) ∧
  (∀ (s : State) (nsid : Nat) (region : Nat) (n : Namespace),
    (s.ns? nsid = some n) →
    (n.unfilled.contains region = true) →
    (s.rowsClear n.group n.rows = true) →
    (s.taskOk n.group 2 = true) →
    Completes (.regionZeroFill nsid region) s (fun t =>
      ((t.ns? nsid).map (·.unfilled) = some (n.unfilled.erase region)) ∧
      (t.fixblks = s.fixblks.filter (fun (b : FixBlk) => !(b.nsid == nsid && b.lba / 16384 == region)))))

/-- Grants, metering saves and the QoS registers -/
def Obligations.SchedulerAndMeters : Prop :=
  (∀ (s : State),
    (s.due (s.periodAt + usU 10) = true) →
    Completes .grantPeriod s (fun t =>
      (t.periodAt = s.now) ∧
      ((List.range 8).all (fun (g : Nat) => !(s.group g).configured || (t.grants.filter fun (x : Nat × Nat × Rat) => x.2.1 == g).length == 4) = true))) ∧
  (∀ (s : State),
    (s.due (s.msaveAt + secU 60) = true) →
    Completes .meterSaveTimer s (fun t =>
      (t.msaved = s.nss.map (fun (n : Namespace) => (n.nsid, n.meter))) ∧
      (t.tsaved = s.tenants.map (fun (x : Tenant) => (x.id, x.retired))) ∧
      (t.msaveAt = s.now))) ∧
  (∀ (s : State) (v : Word),
    (s.isSet (F.BENCH_CTL_LOCK 22) = false) →
    (bits v.toNat 0 0 = 1) →
    (1 ≤ bits v.toNat 7 4) →
    s.qosOn = false →
    Completes (.cmdQosCfgWrite v) s (fun t =>
      (t.qosOn = true) ∧
      (t.rd F.CMD_QOS_CFG_WCOST = bits v.toNat 7 4) ∧
      (t.nss.all (fun (n : Namespace) => n.tats == ⟨s.now * 65536, s.now * 65536, s.now * 65536⟩) = true))) ∧
  (∀ (s : State) (g : Fin 8) (v : Word),
    (s.isSet (F.BENCH_CTL_LOCK 22) = false) →
    (v.toNat < 2 ^ 24) →
    Completes (.cmdQosGcapWrite g v) s (fun t =>
      (t.rd (F.CMD_QOS_GCAP_CAP g.val) = v.toNat)))

/-- The working face and stripes -/
def Obligations.WorkingFace : Prop :=
  (∀ (s : State) (group : Nat) (stripe : Nat) (x : Stripe) (t0 : Nat),
    (s.stripe? group stripe = some x) →
    (x.state = .opened) →
    (x.firstAt = some t0) →
    (s.due (t0 + s.sealTime x) = true) →
    Completes (.sealTimeExpiry group stripe) s (fun t =>
      ((t.stripe? group stripe).any (fun (z : Stripe) => z.state == .closed && z.closedAt == s.now && z.blocks == x.blocks) = true))) ∧
  (∀ (s : State) (group : Nat) (stripe : Nat) (check : ParCheck) (x : Stripe),
    (check ≠ .failed) →
    (s.stripe? group stripe = some x) →
    (x.state = .closed) →
    x.full = true →
    (s.dqUsed group + (s.newPendings group stripe).length ≤ 65536) →
    (s.cmds = []) →
    Completes (.stripeSeal group stripe ([]) check) s (fun t =>
      ((t.stripe? group stripe).any (fun (z : Stripe) => z.state == .sealed && z.fseq == (s.group group).fseq + 1 && z.kp == max 1 (ceilDiv x.blocks.length 16)) = true))) ∧
  (∀ (s : State) (group : Nat) (stripe : Nat) (x : Stripe),
    (s.stripe? group stripe = some x) →
    (x.state = .closed) →
    x.full = false →
    (s.due (x.closedAt + usU (s.rd (F.LAY_GSEAL_SEAL_WAIT_US group))) = true) →
    (s.cmds = []) →
    Completes (.sealWaitExpiry group stripe) s (fun t =>
      ((t.stripe? group stripe).any (fun (z : Stripe) => z.full && z.blocks.length == x.blocks.length) = true))) ∧
  (∀ (s : State) (group : Nat) (stripe : Nat) (x : Stripe),
    (s.stripe? group stripe = some x) →
    (x.state = .freeing) →
    x.freeDurable = true →
    (s.readsIn group stripe = false) →
    (s.stripes.all (fun (y : Stripe) => y.relocs.isEmpty) = true) →
    s.fenceEnd = none →
    (s.cmds = []) →
    Completes (.stripeRelease group stripe) s (fun t =>
      (t.stripe? group stripe = none)))

/-- The survey area -/
def Obligations.SurveyArea : Prop :=
  (∀ (s : State) (group : Nat) (o : SvyObj) (q : Nat),
    s.svyWrites = true →
    (s.draining = true ∨ s.taskOk group 1 = true) →
    (s.nextDirty group = some o) →
    (o.kind ≠ 0) →
    (s.freeObjSlot group = some q) →
    Completes (.surveyWritebackDone group) s (fun t =>
      (t.objs.any (fun (z : SvyObj) => z.group == group && z.kind == o.kind && z.owner == o.owner && z.level == o.level && z.index == o.index && z.gen == o.gen && z.slot == some q && !z.dirty && z.copies == s.slotMembers group q) = true))) ∧
  (∀ (s : State) (group : Nat) (kind : Nat) (level : Nat) (owner : Nat) (index : Nat) (o : SvyObj),
    (s.objs = [o]) →
    o.group = group →
    o.kind = kind →
    o.level = level →
    (o.gen = s.objGen kind owner) →
    o.loading = true →
    (o.copies.any s.inService = true) →
    o.owner = owner →
    o.index = index →
    Completes (.surveyObjectLoaded group kind level owner index ([])) s (fun t =>
      (t.objs = [{ o with cached := true, loading := false }]))) ∧
  (∀ (s : State) (group : Nat) (r : Rec) (items : List SealItem),
    s.svyWrites = true →
    (s.tally.recs = [r]) →
    r.group = group →
    (r.body = .seal items) →
    r.durable = true →
    ((s.svyOf group).copiedTo < r.seq) →
    (group < s.svy.length) →
    ((s.svyOf group).head - (s.svyOf group).tail + (packBlocks [(r.seq, r.len)]).length ≤ (s.svySlots group).2) →
    Completes (.deltaLogBlockAcked group) s (fun t =>
      ((t.svyOf group).copiedTo = r.seq) ∧
      ((t.svyOf group).head = (s.svyOf group).head + (packBlocks [(r.seq, r.len)]).length))) ∧
  (∀ (s : State) (group : Nat),
    s.svyWrites = true →
    ((s.group group).mounted = true) →
    (s.due ((s.svyOf group).recAt + secU 1) = true) →
    (group < s.svy.length) →
    Completes (.memberRecordTimer group) s (fun t =>
      ((t.svyOf group).recAt = s.now) ∧
      ((s.svyOf group).mseq < (t.svyOf group).mseq))) ∧
  (∀ (s : State) (group : Nat) (o : SvyObj) (q : Nat),
    s.svyWrites = true →
    (s.objs = [o]) →
    o.group = group →
    (o.copies.any (fun (n : Nat) => !s.inService n) = true) →
    (s.taskOk group 0 = true) →
    (s.freeObjSlot group = some q) →
    Completes (.objectRehome group) s (fun t =>
      (t.objs.any (fun (z : SvyObj) => z.group == group && z.kind == o.kind && z.owner == o.owner && z.level == o.level && z.index == o.index && z.gen == o.gen && z.slot == some q && z.copies == s.slotMembers group q) = true))) ∧
  (∀ (s : State) (group : Nat) (freed : List Nat) (found : List (Nat × Nat × Nat × Nat × Nat)),
    ((s.group group).scan = true) →
    Completes (.surveyRebuildScan group freed found) s (fun t =>
      ((t.group group).scan = false) ∧
      ((t.group group).objLost = false)))

/-- Member states -/
def Obligations.Members : Prop :=
  (∀ (s : State) (slot : Nat),
    (s.aged slot = true) →
    ((s.slot slot).state = 1) →
    Completes (.memberCommandAge slot) s (fun t =>
      ((t.slot slot).state = 2) ∧
      (some (t.slot slot).ref = s.oldestCmd slot))) ∧
  (∀ (s : State) (slot : Nat),
    ((s.slot slot).state = 2) →
    (s.due ((s.slot slot).ref + msU (s.rd F.LAY_REB_CFG_FAIL_MS)) = true) →
    Completes (.memberFailTimer slot) s (fun t =>
      ((t.slot slot).state = 4))) ∧
  (∀ (s : State) (slot : Nat) (e q at_ : Nat),
    ((s.slot slot).state = 4) →
    ((s.slot slot).absent = some (e, q, at_)) →
    (s.due (at_ + minU (s.rd F.LAY_REB_CFG_RETURN_MIN)) = true) →
    Completes (.memberReturnExpiry slot) s (fun t =>
      ((t.slot slot).state = 0) ∧
      ((t.slot slot).absent = none) ∧
      ((t.slot slot).allDirty = true))) ∧
  (∀ (s : State) (slot : Nat) (r : DriveRec),
    ((s.slot slot).state = 0) →
    ((s.group (s.slot slot).group).mounted = true) →
    (s.isSet F.LAY_REB_CFG_AUTO_JOIN = true) →
    ((s.group (s.slot slot).group).rows ≤ positions r.capacity) →
    Completes (.driveOffer slot r) s (fun t =>
      ((t.slot slot).state = 6) ∧
      ((t.slot slot).absent = none) ∧
      ((t.slot slot).allDirty = true))) ∧
  (∀ (s : State) (slot : Nat),
    ((s.slot slot).state = 6) →
    ((s.slot slot).group < s.groups.length) →
    Completes (.joinRecordWritten slot) s (fun t =>
      ((t.slot slot).state = 1) ∧
      ((t.group (s.slot slot).group).epoch = (s.group (s.slot slot).group).epoch + 1))) ∧
  (∀ (s : State) (slot : Nat),
    ((s.slot slot).state = 5) →
    Completes (.reconciliationDone slot) s (fun t =>
      ((t.slot slot).state = 1) ∧
      ((t.slot slot).absent = none))) ∧
  (∀ (s : State) (slot : Nat),
    (s.orderRefusal slot = none) →
    ((s.group (s.slot slot).group).fixedRows = 0) →
    (s.wouldStarve slot = false) →
    ((s.slot slot).state = 1) →
    Completes (.layMcmdDrain slot) s (fun t =>
      ((t.slot slot).state = 3 ∨ (t.slot slot).state = 0))) ∧
  (∀ (s : State) (slot : Nat),
    (s.orderRefusal slot = none) →
    (s.wouldStarve slot = false) →
    ((s.slot slot).state = 1) →
    Completes (.layMcmdFail slot) s (fun t =>
      ((t.slot slot).state = 4))) ∧
  (∀ (s : State) (slot : Nat),
    (s.orderRefusal slot = none) →
    ((s.slot slot).state = 4) →
    (s.fitsGroup slot = true) →
    Completes (.layMcmdJoin slot) s (fun t =>
      ((t.slot slot).state = 6) ∧
      ((t.slot slot).order = true))) ∧
  (∀ (s : State) (slot : Nat),
    (s.orderRefusal slot = none) →
    ((s.slot slot).state = 4) →
    Completes (.layMcmdForget slot) s (fun t =>
      ((t.slot slot).state = 0) ∧
      ((t.slot slot).absent = none)))

/-- Reclaim, rebuild, resynchronisation, patrol and reshape -/
def Obligations.BackgroundWork : Prop :=
  (∀ (s : State) (group : Nat) (x y : Stripe) (p : Place) (b : SBlock) (ns l : Nat),
    ((s.group group).mounted = true) →
    ((s.group group).scan = false) →
    (s.reclaimWork group = true) →
    (s.taskOk group 1 = true) →
    (s.victim group = some x) →
    (s.stripe? group x.num = some x) →
    (s.liveIn group x.num = [(p, ns, l)]) →
    x.live = 1 →
    (s.moving group x.num = []) →
    (x.lostMap = []) →
    ((x.blocks.find? fun (z : SBlock) => z.slab == p.slab && z.blk == p.blk) = some b) →
    ((s.openOf group .reclaim).find? (fun (z : Stripe) => z.blocks.length < 16 * z.keff) = some y) →
    (s.stripe? group y.num = some y) →
    (y.blocks.length % 16 ≠ 0) →
    Completes (.spoilReclaimVictim group ([])) s (fun t =>
      ((t.stripe? group y.num).any (fun (z : Stripe) => z.blocks.length == y.blocks.length + 1 && z.blocks.getLast?.any fun (u : SBlock) => u.owner == .move p 1 && u.content == b.content) = true))) ∧
  (∀ (s : State) (group : Nat),
    ((s.group group).scan = false) →
    (group < s.groups.length) →
    Completes (.rebuildIndexSweep group) s (fun t =>
      ((t.group group).indexSwept = true))) ∧
  (∀ (s : State) (group : Nat) (x y : Stripe) (p : Place) (b : SBlock) (sl i ns l : Nat),
    ((s.group group).scan = false) →
    ((s.group group).priority = false) →
    (s.taskOk group 0 = true) →
    s.rebuildPace = true →
    (s.rehomeWork group = false) →
    (s.nextWork group = some (x, sl, i)) →
    (s.stripe? group x.num = some x) →
    (x.state = .live) →
    (s.liveIn group x.num = [(p, ns, l)]) →
    x.live = 1 →
    (s.moving group x.num = []) →
    (x.lostMap = []) →
    ((x.blocks.find? fun (z : SBlock) => z.slab == p.slab && z.blk == p.blk) = some b) →
    ((s.openOf group .rebuild).find? (fun (z : Stripe) => z.blocks.length < 16 * z.keff) = some y) →
    (s.stripe? group y.num = some y) →
    (y.blocks.length % 16 ≠ 0) →
    Completes (.rebuildStripe group ([])) s (fun t =>
      ((t.stripe? group y.num).any (fun (z : Stripe) => z.blocks.length == y.blocks.length + 1 && z.blocks.getLast?.any fun (u : SBlock) => u.owner == .move p 2 && u.content == b.content) = true))) ∧
  (∀ (s : State) (slot : Nat) (ns r : Nat) (n : Namespace) (rest : List (Nat × Nat)),
    (s.inService slot = true) →
    s.rebuildPace = true →
    (s.taskOk (s.slot slot).group 0 = true) →
    (s.dirtyList slot = (ns, r) :: rest) →
    (s.ns? ns = some n) →
    (s.cmds = []) →
    Completes (.regionResync slot ([])) s (fun t =>
      ((t.slot slot).dirty = rest) ∧
      ((t.slot slot).allDirty = false))) ∧
  (∀ (s : State) (group : Nat) (sr : SRef),
    ((s.group group).priority = false) →
    ((s.group group).scan = false) →
    ((s.group group).mounted = true) →
    (s.isSet F.LAY_PAT_CFG_PAT_EN = true) →
    (s.taskOk group 2 = true) →
    ((s.patrolList group)[(s.group group).patrolAt]? = some sr) →
    Completes (.patrolVisit group ([])) s (fun t =>
      ((t.group group).patrolAt = (s.group group).patrolAt + 1))) ∧
  (∀ (s : State) (v : Word),
    (hasBit v.toNat 31 = true) →
    ((s.writeRegW 30 0x1610 v).reshapeRefusal = none) →
    Completes (.reshapeStart v) s (fun t =>
      (t.reshape.any (fun (r : Reshape) => r.group == (s.writeRegW 30 0x1610 v).rd F.LAY_RSHP_CFG_GROUP && r.mode == if (s.writeRegW 30 0x1610 v).rd F.LAY_RSHP_CFG_MODE = 1 then 1 else 2) = true))) ∧
  (∀ (s : State) (r : Reshape),
    (s.reshape = some r) →
    r.mode = 1 →
    r.phase = 1 →
    s.svyWrites = true →
    ((s.relaySlots r.group r.members (s.objs.filter fun (o : SvyObj) => o.group == r.group && o.slot.isSome).length).length = (s.objs.filter fun (o : SvyObj) => o.group == r.group && o.slot.isSome).length) →
    Completes .reshapeRelayoutDone s (fun t =>
      (t.reshape = some { r with phase := 2 }))) ∧
  (∀ (s : State) (r : Reshape),
    (s.reshape = some r) →
    r.mode = 2 →
    r.phase = 2 →
    (s.reshapeLeft r = 0) →
    (s.pendings = []) →
    ((s.ns? r.nsid).isSome = true) →
    Completes .reshapeSwitchover s (fun t =>
      (t.reshape = none) ∧
      ((t.ns? r.nsid).any (fun (z : Namespace) => z.group == r.target && z.moveTo.isNone) = true)))

/-- The tally and tail cutting -/
def Obligations.TallyStore : Prop :=
  (∀ (s : State) (r : Rec) (u ofs : Nat),
    (s.tally.recs = [r]) →
    r.offset = none →
    (r.body = .checkpoint u) →
    (s.ringPlace r.len = some ofs) →
    s.paired = false →
    Completes .tallyRecordWritten s (fun t =>
      (t.tally.recs.map (fun (z : Rec) => (z.seq, z.offset, z.durable)) = [(r.seq, some ofs, true)]) ∧
      (t.tally.wseq = s.tally.wseq + 1))) ∧
  (∀ (s : State) (seq : Nat) (r : Rec) (u : Nat),
    (s.tally.recs = [r]) →
    r.seq = seq →
    (r.body = .checkpoint u) →
    r.offset.isSome = true →
    r.durable = false →
    Completes (.tallyRecordDurable seq) s (fun t =>
      (t.tally.recs.map (fun (z : Rec) => (z.seq, z.durable)) = [(seq, true)]))) ∧
  (∀ (s : State),
    (s.ringTail ≠ s.tally.cbTail) →
    (s.due (s.tally.cbAt + msU 1) = true) →
    Completes .tallyControlBlockTimer s (fun t =>
      (t = { s with tally := { s.tally with wcount := s.tally.wcount + 1, cbTail := s.ringTail, cbAt := s.now } }))) ∧
  (∀ (s : State) (job : Nat) (j : ReadJob) (n : Namespace) (l : List BRef),
    (s.jobs = [j]) →
    j.id = job →
    ((s.cmd? j.cmd).bind (fun (c : Cmd) => s.ns? c.nv.nsid) = some n) →
    (s.tcut n ≠ 0) →
    (s.due (j.issued + s.tcut n) = true) →
    (s.rd (F.CMD_QOS_GCAP_CAP n.group) = 0) →
    j.cut = false →
    (j.awaiting.contains j.target = true) →
    (s.recon (j.target :: j.bad) j.target = some l) →
    Completes (.tailCutDeadline job) s (fun t =>
      (t.jobs.map (fun (z : ReadJob) => (z.cut, z.awaiting)) = [(true, j.awaiting ++ l)])))

/-- Completions, memory requests and polls of the member drives -/
def Obligations.MemberCommands : Prop :=
  (∀ (s : State) (tag : MTag) (cq : Nat) (ok : Bool) (got : Option (Nat × Nat)) (warn : Nat) (c : MCmd) (l : List (Nat × Nat)),
    ((s.mcmds.find? fun (z : MCmd) => z.tag == tag) = some c) →
    (c.work = .trim l) →
    c.quarantined = false →
    (cq = tag.queue) →
    ((s.slot tag.slot).state ≠ 2) →
    (s.mwaits = []) →
    Completes (.memberCompletion tag cq ok got warn) s (fun t =>
      (t.mcmds = s.mcmds.filter (fun (z : MCmd) => z.tag != tag)))) ∧
  (∀ (s : State) (tag : MTag) (cq : Nat) (got : Option (Nat × Nat)) (warn : Nat) (c : MCmd) (g n slab : Nat) (x : Stripe),
    ((s.mcmds.find? fun (z : MCmd) => z.tag == tag) = some c) →
    (c.work = .slabWrite g n slab) →
    c.quarantined = false →
    (cq = tag.queue) →
    (s.stripe? g n = some x) →
    (x.state = .sealed) →
    ((List.range (x.kp + x.m)).all (fun (i : Nat) => i == slab || x.acked.contains i) = true) →
    Completes (.memberCompletion tag cq true got warn) s (fun t =>
      ((t.stripe? g n).any Stripe.done = true))) ∧
  (∀ (s : State) (slot : Nat) (write : Bool) (addr : Nat) (len : Nat) (c : MCmd),
    ((s.mcmds.find? fun (z : MCmd) => z.tag.slot == slot && tagCovers z.tag (dataBlocks z.work) addr len) = some c) →
    c.quarantined = false →
    c.work.reads = write →
    Completes (.memberDmaRequest slot write addr len) s (fun t =>
      (t = s))) ∧
  (∀ (s : State) (slot : Nat) (write : Bool) (addr : Nat) (len : Nat),
    (busStore addr = 2) →
    (within addr len (queueMemAt slot) (2 ^ 20) = true) →
    Completes (.memberDmaRequest slot write addr len) s (fun t =>
      (t = s))) ∧
  (∀ (s : State) (slot : Nat) (write : Bool) (addr : Nat) (len : Nat),
    (slot < 48) →
    (¬(busStore addr = 2 ∧ within addr len (queueMemAt slot) (2 ^ 20) = true)) →
    ((s.mcmds.any fun (z : MCmd) => z.tag.slot == slot && tagCovers z.tag (dataBlocks z.work) addr len) = false) →
    Completes (.memberDmaRequest slot write addr len) s (fun t =>
      (t.rdStat F.DRV_PSTAT_CONTAINED slot = 1) ∧
      ((write || (newOut s t).contains (.memberUr slot addr len)) = true))) ∧
  (∀ (s : State) (slot : Nat),
    (slot < 48) →
    (s.portUp slot = true) →
    Completes (.memberErrorMessage slot 1) s (fun t =>
      (t.rdStat F.DRV_PSTAT_CONTAINED slot = 1) ∧
      (t.rdStat F.DRV_PSTAT_LINK_UP slot = 0))) ∧
  (∀ (s : State) (slot : Nat),
    (s.rdStat F.DRV_PSTAT_READY slot = 1) →
    (s.due ((s.port slot).polledAt + secU (s.rd F.DRV_CFG_HEALTH_S)) = true) →
    (slot < s.ports.length) →
    (s.queueLoad slot 0 < 255) →
    Completes (.healthPoll slot) s (fun t =>
      ((t.port slot).polledAt = s.now) ∧
      (t.mcmds = s.mcmds ++ [⟨⟨slot, 0, s.freeCid slot 0⟩, .health, s.now, false⟩]))) ∧
  (∀ (s : State) (slot : Nat) (r t0 : Nat),
    (s.trimGather = [(slot, r, t0)]) →
    (s.due (t0 + msU 1) = true) →
    (s.readable slot = true) →
    (s.queueLoad slot 4 < 255) →
    Completes (.trimGatherExpiry slot) s (fun t =>
      (t.trimGather = []) ∧
      (t.mcmds = s.mcmds ++ [⟨⟨slot, 4, s.freeCid slot 4⟩, .trim [(slot, r)], s.now, false⟩]))) ∧
  (∀ (s : State),
    (s.dueOpt s.fenceEnd = true) →
    Completes .fenceWriteWindowEnd s (fun t =>
      (t.fenceEnd = none)))

/-- Drive ports: containment, enumeration and power -/
def Obligations.DrivePorts : Prop :=
  (∀ (s : State) (slot : Nat),
    (slot < 48) →
    (s.portUp slot = true) →
    Completes (.driveLinkDown slot) s (fun t =>
      (t.rdStat F.DRV_PSTAT_CONTAINED slot = 1) ∧
      (t.rdStat F.DRV_PSTAT_LINK_UP slot = 0))) ∧
  (∀ (s : State) (slot : Nat),
    (slot < 48) →
    (s.portUp slot = true) →
    Completes (.drvNonpostedTimeout slot) s (fun t =>
      (t.rdStat F.DRV_PSTAT_CONTAINED slot = 1))) ∧
  (∀ (s : State) (slot : Nat),
    (slot < 48) →
    (s.dueOpt (s.port slot).recoverAt = true) →
    Completes (.containmentRecovery slot) s (fun t =>
      (t.rdStat F.DRV_PSTAT_CONTAINED slot = 0) ∧
      ((t.port slot).perstAt = some (s.now + msU 1)) ∧
      ((t.port slot).recoverAt = none))) ∧
  (∀ (s : State) (slot : Nat),
    (slot < 48) →
    s.sbcWant.length = 6 →
    (s.dueOpt (s.port slot).perstAt = true) →
    Completes (.perstReleaseTimer slot) s (fun t =>
      ((t.port slot).trainFrom = some s.now) ∧
      (t.outSet slot 0 = true))) ∧
  (∀ (s : State) (slot : Nat) (f : DriveFound),
    (slot < 48) →
    ((s.port slot).trainFrom.isSome = true) →
    (s.driveRefusal slot f = none) →
    Completes (.driveEnumerated slot f) s (fun t =>
      (t.rdStat F.DRV_PSTAT_LINK_UP slot = 1) ∧
      (t.rdStat F.DRV_PSTAT_READY slot = 1) ∧
      ((t.port slot).trainFrom = none))) ∧
  (∀ (s : State) (slot : Nat) (t0 : Nat),
    (slot < 48) →
    ((s.port slot).trainFrom = some t0) →
    (s.due (t0 + msU 100) = true) →
    Completes (.driveLinkTrainingTimeout slot) s (fun t =>
      (t.rdStat F.DRV_PSTAT_REJECT slot = 8) ∧
      ((t.slot slot).drive = none))) ∧
  (∀ (s : State) (slot : Nat),
    (slot < 48) →
    (slot < s.ports.length) →
    (s.reloading (drvOf slot) = false) →
    (s.halRole ≠ 2) →
    s.sbcWant.length = 6 →
    (s.isSet F.DRV_CFG_AUTO_POWER = false) →
    (s.rdStat F.DRV_PSTAT_PRSNT slot = 1) →
    (s.rdStat F.DRV_PSTAT_POWERED slot = 0) →
    (hasBit (s.port slot).accepted 1 = false) →
    Completes (.drvPowerOn slot) s (fun t =>
      (t.rdStat F.DRV_PSTAT_POWERED slot = 1) ∧
      ((t.port slot).perstAt = some (s.now + msU 100)))) ∧
  (∀ (s : State) (slot : Nat),
    (slot < 48) →
    (s.reloading (drvOf slot) = false) →
    (s.halRole ≠ 2) →
    s.sbcWant.length = 6 →
    ((s.slot slot).state = 4) →
    Completes (.drvPowerOff slot) s (fun t =>
      (t.rdStat F.DRV_PSTAT_POWERED slot = 0) ∧
      (t.outSet slot 1 = false))) ∧
  (∀ (s : State) (i t0 : Nat),
    (s.stage = some (i, t0)) →
    (s.due t0 = true) →
    (s.slotCount ≤ 8 * (i + 1)) →
    Completes .driveStageTimer s (fun t =>
      (t.stage = none) ∧
      (t.drvPowered = true))) ∧
  (∀ (s : State) (inputs : Nat),
    Completes (.sbcFrame inputs) s (fun t =>
      ((List.range (min s.slotCount s.ports.length)).all (fun (n : Nat) => (t.port n).captured == inputs / 16 ^ n % 16) = true)))

/-- The cipher class -/
def Obligations.CipherRequests : Prop :=
  (∀ (s : State) (r : CipReq),
    (s.cipRoute r.slot 1 < s.cips.length) →
    ((s.cip (s.cipRoute r.slot 1)).queue.length < 1024) →
    ((s.cip (s.cipRoute r.slot 1)).held = []) →
    Completes (.cipXtsEnc r) s (fun t =>
      ((t.cip (s.cipRoute r.slot 1)).queue = (s.cip (s.cipRoute r.slot 1)).queue ++ [⟨{ r with op := 1 }, false, s.cipRefusal { r with op := 1 }⟩]))) ∧
  (∀ (s : State) (r : CipReq),
    (s.cipRoute r.slot 2 < s.cips.length) →
    ((s.cip (s.cipRoute r.slot 2)).queue.length < 1024) →
    ((s.cip (s.cipRoute r.slot 2)).held = []) →
    Completes (.cipXtsDec r) s (fun t =>
      ((t.cip (s.cipRoute r.slot 2)).queue = (s.cip (s.cipRoute r.slot 2)).queue ++ [⟨{ r with op := 2 }, false, s.cipRefusal { r with op := 2 }⟩]))) ∧
  (∀ (s : State) (r : CipReq),
    (s.cipRoute r.slot 3 < s.cips.length) →
    ((s.cip (s.cipRoute r.slot 3)).queue.length < 1024) →
    ((s.cip (s.cipRoute r.slot 3)).held = []) →
    Completes (.cipXtsZero r) s (fun t =>
      ((t.cip (s.cipRoute r.slot 3)).queue = (s.cip (s.cipRoute r.slot 3)).queue ++ [⟨{ r with op := 3 }, false, s.cipRefusal { r with op := 3 }⟩]))) ∧
  (∀ (s : State) (r : CipReq),
    (s.cipRoute r.slot 4 < s.cips.length) →
    ((s.cip (s.cipRoute r.slot 4)).queue.length < 1024) →
    ((s.cip (s.cipRoute r.slot 4)).held = []) →
    Completes (.cipGcmSeal r) s (fun t =>
      ((t.cip (s.cipRoute r.slot 4)).queue = (s.cip (s.cipRoute r.slot 4)).queue ++ [⟨{ r with op := 4 }, false, s.cipRefusal { r with op := 4 }⟩]))) ∧
  (∀ (s : State) (r : CipReq),
    (s.cipRoute r.slot 5 < s.cips.length) →
    ((s.cip (s.cipRoute r.slot 5)).queue.length < 1024) →
    ((s.cip (s.cipRoute r.slot 5)).held = []) →
    Completes (.cipGcmOpen r) s (fun t =>
      ((t.cip (s.cipRoute r.slot 5)).queue = (s.cip (s.cipRoute r.slot 5)).queue ++ [⟨{ r with op := 5 }, false, s.cipRefusal { r with op := 5 }⟩]))) ∧
  (∀ (s : State) (r : CipReq),
    (s.cipRoute r.slot 6 < s.cips.length) →
    ((s.cip (s.cipRoute r.slot 6)).queue.length < 1024) →
    ((s.cip (s.cipRoute r.slot 6)).held = []) →
    Completes (.cipCtr r) s (fun t =>
      ((t.cip (s.cipRoute r.slot 6)).queue = (s.cip (s.cipRoute r.slot 6)).queue ++ [⟨{ r with op := 6 }, false, s.cipRefusal { r with op := 6 }⟩]))) ∧
  (∀ (s : State) (r : CipReq),
    (s.cipRefusal { r with op := 7 } = none) →
    s.cips.length = 8 →
    ((List.range 8).all (fun (i : Nat) => (s.cip i).held.isEmpty && decide ((s.cip i).queue.length < 1024)) = true) →
    Completes (.cipKeyZero r) s (fun t =>
      (t.keyTab = s.keyTab.filter (fun (z : KeyEntry) => !(z.slot == r.slot && z.kgen == r.kgen))) ∧
      ((List.range 8).all (fun (i : Nat) => (t.cip i).queue == (s.cip i).queue ++ [⟨{ r with op := 7 }, false, none⟩]) = true))) ∧
  (∀ (s : State) (role : Nat) (f : CipFound) (hdrOk : Bool) (i st : Nat) (z : CipWait),
    (s.cipNext role = some (i, z)) →
    (z.failed = some st) →
    ((s.cip role).held = []) →
    Completes (.cipResult role f hdrOk) s (fun t =>
      ((newOut s t).contains (.cipResponse z.req.src z.req.rtag st role 0) = true) ∧
      ((t.cip role).queue = (s.cip role).queue.eraseIdx i))) ∧
  (∀ (s : State) (role : Nat) (f : CipFound) (hdrOk : Bool) (i : Nat) (z : CipWait) (k : KeyCache),
    (s.cipNext role = some (i, z)) →
    z.failed = none →
    (z.req.op ≠ 7) →
    ((s.cip role).key? z.req.slot z.req.kgen = some k) →
    (z.req.op ≠ 4 ∨ (k.ivLost = false ∧ s.pair.exchanged = false)) →
    f.srcOk = true →
    f.checkOk = true →
    ((cipWork k.key (if z.req.op = 4 then sealIv role k.counter else z.req.iv) z.req f).1 = 0) →
    ((cipWork k.key (if z.req.op = 4 then sealIv role k.counter else z.req.iv) z.req f).2.1 = true) →
    ((s.cip role).held = []) →
    Completes (.cipResult role f hdrOk) s (fun t =>
      ((newOut s t).contains (.cipResponse z.req.src z.req.rtag 0 role (if z.req.op = 4 then sealIv role k.counter else 0)) = true) ∧
      ((cipWork k.key (if z.req.op = 4 then sealIv role k.counter else z.req.iv) z.req f).2.2.all (fun (p : Nat × Nat × Nat) => (newOut s t).contains (.cipData p.1 p.2.1 p.2.2)) = true) ∧
      ((t.cip role).queue = (s.cip role).queue.eraseIdx i))) ∧
  (∀ (s : State) (role : Nat) (slot : Nat) (intact : Bool) (e : KeyEntry) (bad again : Bool),
    (((s.cip role).loads.find? fun (l : Nat × Bool × Bool) => l.1 == slot) = some (slot, bad, again)) →
    ((s.keyTab.find? fun (z : KeyEntry) => z.slot == slot) = some e) →
    intact = true →
    (s.keyAtHand slot = true) →
    s.tru.blocked = false →
    ((s.cip role).queue = []) →
    Completes (.keyLoadDone role slot intact) s (fun t =>
      (((t.cip role).key? slot e.kgen).isSome = true) ∧
      ((t.cip role).loads.any (fun (l : Nat × Bool × Bool) => l.1 == slot) = false)))

/-- Links, pause, Low Power Idle and statistics of the MACs -/
def Obligations.MacsAndLinks : Prop :=
  (∀ (s : State) (mac : Nat) (eee : Bool),
    (s.hasMac mac = true) →
    (s.linkUp mac = false) →
    Completes (.macLinkUp mac true eee) s (fun t =>
      (t.linkUp mac = true))) ∧
  (∀ (s : State) (mac : Nat) (atPort : Nat),
    (s.linkUp mac = true) →
    Completes (.macLinkDown mac atPort) s (fun t =>
      (t.linkUp mac = false) ∧
      (t.stat mac 13 = (s.stat mac 13 + 1) % 2 ^ 64) ∧
      (t.swq = s.swq.filter (fun (f : SwFrame) => f.output != mac)))) ∧
  (∀ (s : State) (mac : Nat) (quanta : Nat),
    (s.linkUp mac = true) →
    (s.fcMode mac = 1) →
    (mac < s.macs.length) →
    ((s.mac mac).ignore = []) →
    (quanta % 65536 ≠ 0) →
    Completes (.pauseFrame mac quanta) s (fun t =>
      ((t.mac mac).stops.any (fun (p : PauseStop) => p.cls == 8 && p.until_ == s.now + s.quantaTime mac (quanta % 65536)) = true) ∧
      (t.stat mac 6 = (s.stat mac 6 + 1) % 2 ^ 64))) ∧
  (∀ (s : State) (mac : Nat) (quanta : List (Nat × Nat)) (c q : Nat),
    (quanta = [(c, q)]) →
    (s.linkUp mac = true) →
    (s.fcMode mac = 2) →
    (c < 8) →
    (hasBit (s.rd (F.PRT_MACCFG_PFC_EN (prtOf mac) (subOf mac))) c = true) →
    (mac < s.macs.length) →
    ((s.mac mac).ignore = []) →
    (q % 65536 ≠ 0) →
    Completes (.pfcFrame mac quanta) s (fun t =>
      ((t.mac mac).stops.any (fun (p : PauseStop) => p.cls == c && p.until_ == s.now + s.quantaTime mac (q % 65536)) = true))) ∧
  (∀ (s : State) (mac : Nat) (cls : Nat),
    Completes (.pauseTimeExpiry mac cls) s (fun t =>
      ((t.mac mac).stops = (s.mac mac).stops.filter (fun (p : PauseStop) => !(p.cls == cls && s.due p.until_))))) ∧
  (∀ (s : State) (mac : Nat) (cls : Nat) (atPort : Nat),
    (s.stuck mac cls = true) →
    Completes (.pfcWatchdogDetect mac cls atPort) s (fun t =>
      ((t.mac mac).ignore.head? = some (cls, s.now + msU (s.rd (F.PRT_PFC_WD_WD_RESTORE_MS (prtOf mac))))) ∧
      ((t.mac mac).stops.any (fun (p : PauseStop) => p.cls == cls) = false))) ∧
  (∀ (s : State) (mac : Nat) (cls : Nat),
    ((s.mac mac).ignore.any (fun (p : Nat × Nat) => p.1 == cls && s.due p.2) = true) →
    Completes (.pfcWatchdogRestore mac cls) s (fun t =>
      ((t.mac mac).ignore.any (fun (p : Nat × Nat) => p.1 == cls) = false))) ∧
  (∀ (s : State) (mac : Nat) (cls : Nat),
    (s.linkUp mac = true) →
    ((s.mac mac).asks.any (fun (z : PauseAsk) => z.cls == cls && !z.capped && s.due (z.sentAt + s.quantaTime mac (s.txQuanta mac) / 2)) = true) →
    Completes (.pauseRepeatTimer mac cls) s (fun t =>
      ((newOut s t).contains (.pause mac cls (s.txQuanta mac)) = true) ∧
      ((t.mac mac).asks.any (fun (z : PauseAsk) => z.cls == cls && z.sentAt == s.now) = true))) ∧
  (∀ (s : State) (mac : Nat) (cls : Nat),
    ((s.mac mac).asks.any (fun (z : PauseAsk) => z.cls == cls && !z.capped && s.due (z.since + msU (s.rd (F.PRT_FCTX_TX_MAX_MS (prtOf mac) (subOf mac))))) = true) →
    Completes (.pauseSendCap mac cls) s (fun t =>
      ((t.mac mac).asks.all (fun (z : PauseAsk) => z.cls != cls || z.capped) = true))) ∧
  (∀ (s : State) (mac : Nat) (rxTw : Nat),
    (s.linkUp mac = true) →
    Completes (.lldpEeeTlv mac rxTw) s (fun t =>
      ((newOut s t).contains (.lldpWake mac (s.rd (F.PRT_LPI_LPI_RX_TW (prtOf mac)))) = true))) ∧
  (∀ (s : State) (mac : Nat),
    (s.linkUp mac = true) →
    (s.modeOf mac = 4) →
    (s.isSet (F.PRT_LPI_LPI_EN (prtOf mac)) = true) →
    (s.isSet (F.PRT_STAT_EEE_AN (prtOf mac)) = true) →
    (s.swq.any (fun (f : SwFrame) => f.output == mac) = false) →
    ((s.mac mac).lpi = none) →
    (mac < s.macs.length) →
    (s.due ((s.mac mac).idleSince + usU (s.rd (F.PRT_LPI_LPI_IDLE_US (prtOf mac)))) = true) →
    Completes (.lpiIdleExpiry mac) s (fun t =>
      ((t.mac mac).lpi = some s.now) ∧
      (t.isSet (F.PRT_STAT_LPI_TX (prtOf mac)) = true))) ∧
  (∀ (s : State) (path : Nat) (port : Nat) (sub : Nat) (idx : Nat),
    (port < 8) →
    (sub < 4) →
    (idx < 16) →
    (s.reloading (8 + port) = false) →
    (s.hasMac (4 * port + sub) = true) →
    ((s.mac (4 * port + sub)).lpi = none) →
    Completes (.prtStatRead path port sub idx false) s (fun t =>
      ((newOut s t).contains (.value (s.stat (4 * port + sub) idx % 2 ^ 32)) = true) ∧
      (t.stat (4 * port + sub) idx = 0)))

/-- Frames through the switch core -/
def Obligations.SwitchFrames : Prop :=
  (∀ (s : State) (mac : Nat) (f : EthFrame),
    (s.hasMac mac = true) →
    (s.linkUp mac = true) →
    (s.rxCheck mac f = none) →
    Completes (.ethFrameReceive mac f) s (fun t =>
      (t.stat mac 0 = (s.stat mac 0 + f.len) % 2 ^ 64) ∧
      (t.stat mac 1 = (s.stat mac 1 + 1) % 2 ^ 64))) ∧
  (∀ (s : State) (mac : Nat) (cls : Nat) (f : SwFrame),
    (s.linkUp mac = true) →
    (s.stopped mac cls = false) →
    ((s.mac mac).wake ≤ s.now) →
    ((s.swq.find? fun (z : SwFrame) => z.output == mac && z.cls == cls) = some f) →
    Completes (.ethFrameTransmit mac cls none) s (fun t =>
      (t.swq = s.swq.erase f) ∧
      ((newOut s t).contains (.frame mac f.cls (max 64 f.len) f.dst f.vid f.ce) = true) ∧
      (t.stat mac 8 = (s.stat mac 8 + 1) % 2 ^ 64))) ∧
  (∀ (s : State) (fromMac : Nat) (cls : Nat) (toMac : Option Nat) (f : EthFrame) (m : Nat) (ce : Bool),
    (toMac = some m) →
    s.haulUp = true →
    (s.linkUp m = true) →
    f.tag = none →
    ((s.dispatchFrame (.port m) 36 cls 0 (32 + fromMac) 0 false none f).1 = .out m ce) →
    Completes (.haulForwardFrame fromMac cls toMac f) s (fun t =>
      (t.swq.getLast?.any (fun (z : SwFrame) => z.output == m && z.cls == cls && z.len == f.len && z.ce == ce) = true) ∧
      (t.swq.length = s.swq.length + 1)))

/-- Controller registers and queues of the endpoint -/
def Obligations.EndpointRegisters : Prop :=
  (∀ (s : State) (speed : Nat) (width : Nat),
    (s.isSet F.EPT_CFG_EN = true) →
    (s.isSet F.EPT_STAT_LINK_UP = false) →
    Completes (.epLinkUp speed width) s (fun t =>
      (t.isSet F.EPT_STAT_LINK_UP = true) ∧
      (t.isSet F.EPT_STAT_FROZEN = false) ∧
      ((t.ctrl? (s.epIdx 0)).isSome = true))) ∧
  (∀ (s : State) (kind : Nat),
    (s.isSet F.EPT_CFG_EN = true) →
    (s.isSet F.EPT_STAT_LINK_UP = true) →
    Completes (.epLinkReset kind) s (fun t =>
      (t.isSet F.EPT_STAT_LINK_UP = false) ∧
      (t.isSet F.EPT_STAT_FROZEN = true) ∧
      (t.epReads = []) ∧
      (t.rd F.EPT_STAT_NUM_VF = 0))) ∧
  (∀ (s : State) (f : Nat),
    (s.epExists f = true) →
    (s.isSet F.EPT_STAT_LINK_UP = true) →
    Completes (.epFlr f) s (fun t =>
      (t.epf f = { EpFunc.cold with aer := (s.epf f).aer }))) ∧
  (∀ (s : State) (num : Nat),
    (s.epExists 0 = true) →
    (s.isSet F.EPT_STAT_LINK_UP = true) →
    Completes (.epVfEnable num) s (fun t =>
      (t.rd F.EPT_STAT_NUM_VF = min num (s.rd F.EPT_CFG_TOTAL_VF)))) ∧
  (∀ (s : State) (f : Nat) (cc : Nat) (aqa : Nat) (k : Ctrl),
    (s.epExists f = true) →
    ((s.epf f).d3 = false) →
    (s.isSet F.EPT_STAT_LINK_UP = true) →
    (hasBit cc 0 = true) →
    (s.ctrl? (s.epIdx f) = some k) →
    k.func.isSome = true →
    k.cc = 0 →
    k.csts = 0 →
    (bits cc 10 7 = 0) →
    (bits cc 13 11 = 0) →
    (bits cc 19 16 = 6) →
    (bits cc 23 20 = 4) →
    (2 ≤ bits aqa 11 0 + 1) →
    (bits aqa 11 0 + 1 ≤ 32) →
    (2 ≤ bits aqa 27 16 + 1) →
    (bits aqa 27 16 + 1 ≤ 32) →
    (s.cmds = []) →
    Completes (.epCcEnable f cc aqa) s (fun t =>
      ((t.ctrl? (s.epIdx f)).any (fun (z : Ctrl) => z.cc == cc && hasBit z.csts 0 && z.queues.map (fun (q : Queue) => (q.qid, q.isCq, q.size)) == [(0, false, bits aqa 11 0 + 1), (0, true, bits aqa 27 16 + 1)]) = true))) ∧
  (∀ (s : State) (f : Nat) (k : Ctrl),
    (s.epExists f = true) →
    ((s.epf f).d3 = false) →
    (s.ctrl? (s.epIdx f) = some k) →
    k.func.isSome = true →
    (hasBit k.cc 0 = true) →
    Completes (.epCcEnClear f) s (fun t =>
      ((t.ctrl? (s.epIdx f)).any (fun (z : Ctrl) => z.cc == 0 && z.csts == 0 && z.queues == k.queues.filter (fun (q : Queue) => q.qid == 0)) = true))) ∧
  (∀ (s : State) (f : Nat),
    (s.epExists f = true) →
    ((s.epf f).d3 = false) →
    ((s.ctrl? (s.epIdx f)).isSome = true) →
    Completes (.epCcShnWrite f 1) s (fun t =>
      ((t.ctrl? (s.epIdx f)).any (fun (z : Ctrl) => z.shutdown && bits z.csts 3 2 == 1 && bits z.cc 15 14 == 1) = true))) ∧
  (∀ (s : State) (f : Nat) (val : Nat),
    (s.epExists f = true) →
    ((s.epf f).d3 = false) →
    (s.isSet F.CMD_CFG_NSSR_EN = true) →
    (val % 2 ^ 32 = 0x4E564D65) →
    (s.hasPriv (s.epIdx f) 1 = true) →
    Completes (.epNssrWrite f val) s (fun t =>
      (t.nssro = true) ∧
      (t.ctrls.all (fun (z : Ctrl) => hasBit z.csts 4) = true))) ∧
  (∀ (s : State) (f : Nat) (qid : Nat) (val : Nat) (q : Queue),
    (s.epExists f = true) →
    ((s.epf f).d3 = false) →
    (s.isSet F.EPT_STAT_LINK_UP = true) →
    ((s.ctrl? (s.epIdx f)).bind (fun (z : Ctrl) => z.queues.find? fun (y : Queue) => y.qid == qid && y.isCq == false) = some q) →
    (val < q.size) →
    Completes (.epDoorbell f qid false val) s (fun t =>
      (((t.ctrl? (s.epIdx f)).bind (fun (z : Ctrl) => z.queue? qid)).any (fun (y : Queue) => y.tail == val) = true))) ∧
  (∀ (s : State) (v : NvmeCmd),
    (epReady s { v with opc := 0x05 } = true) →
    ((s.epQueueOp { v with opc := 0x05 }).1 = St.ok) →
    Completes (.createIoCq v) s (fun t =>
      ((t.ctrl? v.ctl).any (fun (z : Ctrl) => z.queues.any fun (y : Queue) => y.qid == bits v.cdw10 15 0 && y.isCq && y.vector == bits v.cdw11 31 16) = true) ∧
      (t.cmds = s.cmds))) ∧
  (∀ (s : State) (v : NvmeCmd),
    (epReady s { v with opc := 0x01 } = true) →
    ((s.epQueueOp { v with opc := 0x01 }).1 = St.ok) →
    Completes (.createIoSq v) s (fun t =>
      ((t.ctrl? v.ctl).any (fun (z : Ctrl) => z.queues.any fun (y : Queue) => y.qid == bits v.cdw10 15 0 && !y.isCq && y.cqid == bits v.cdw11 31 16) = true) ∧
      (t.cmds = s.cmds))) ∧
  (∀ (s : State) (v : NvmeCmd),
    (epReady s { v with opc := 0x00 } = true) →
    ((s.epQueueOp { v with opc := 0x00 }).1 = St.ok) →
    Completes (.deleteIoSq v) s (fun t =>
      ((t.ctrl? v.ctl).any (fun (z : Ctrl) => !z.queues.any fun (y : Queue) => y.qid == bits v.cdw10 15 0 && !y.isCq) = true))) ∧
  (∀ (s : State) (v : NvmeCmd),
    (epReady s { v with opc := 0x04 } = true) →
    ((s.epQueueOp { v with opc := 0x04 }).1 = St.ok) →
    Completes (.deleteIoCq v) s (fun t =>
      ((t.ctrl? v.ctl).any (fun (z : Ctrl) => !z.queues.any fun (y : Queue) => y.qid == bits v.cdw10 15 0 && y.isCq) = true)))

/-- Entry fetches, completions, power and interrupts of the endpoint -/
def Obligations.EndpointRequests : Prop :=
  (∀ (s : State) (tag : Nat) (es : List EpEntry) (r : EpRead) (e : EpEntry) (ctl qid first n : Nat) (q : Queue),
    (es = [e]) →
    ((s.epReads.find? fun (z : EpRead) => z.tag == tag) = some r) →
    r.quarAt = none →
    (r.what = .sqe ctl qid first n) →
    (1 ≤ n) →
    ((s.epf r.func).bme = true) →
    ((s.epf r.func).d3 = false) →
    s.isActive = true →
    ((epCommand ctl qid e).opc = 0x02) →
    (qid ≠ 0) →
    ((s.ctrl? ctl).any (fun (z : Ctrl) => !z.shutdown) = true) →
    ((s.ctrl? ctl).bind (fun (z : Ctrl) => z.queue? qid) = some q) →
    q.conn = none →
    q.authReq = false →
    ((s.cmd? s.nextCmd).isNone = true) →
    Completes (.epSqeFetched tag es) s (fun t =>
      ((t.cmd? s.nextCmd).any (fun (c : Cmd) => c.nv == epCommand ctl qid e && c.phase == .delivered && c.result.isNone) = true) ∧
      (((t.ctrl? ctl).bind (fun (z : Ctrl) => z.queue? qid)).any (fun (y : Queue) => y.head == (first + 1) % max 1 q.size) = true))) ∧
  (∀ (s : State) (tag : Nat) (data : Nat) (r : EpRead) (x : EpFetch) (cmd ofs len : Nat),
    ((s.epReads.find? fun (z : EpRead) => z.tag == tag) = some r) →
    r.quarAt = none →
    (r.what = .data cmd ofs len) →
    ((s.epf r.func).bme = true) →
    ((s.epf r.func).d3 = false) →
    (s.epFetches = [x]) →
    x.cmd = cmd →
    (x.got = []) →
    (x.len ≤ len) →
    Completes (.epReadCompletion tag 0 data) s (fun t =>
      (t.epFetches = []))) ∧
  (∀ (s : State) (tag : Nat) (ctoUs : Nat) (r : EpRead),
    ((s.epReads.find? fun (z : EpRead) => z.tag == tag) = some r) →
    r.quarAt = none →
    r.second = true →
    (s.due (r.issued + usU ctoUs) = true) →
    Completes (.epCompletionTimeout tag ctoUs) s (fun t =>
      ((t.epReads.find? fun (z : EpRead) => z.tag == tag).any (fun (z : EpRead) => z.quarAt == some s.now) = true) ∧
      ((t.ctrl? (s.epIdx r.func)).all (fun (z : Ctrl) => hasBit z.csts 1) = true))) ∧
  (∀ (s : State) (tag : Nat) (ctoUs : Nat) (r : EpRead) (t0 : Nat),
    (s.epReads = [r]) →
    r.tag = tag →
    (r.quarAt = some t0) →
    r.byReset = false →
    (s.due (t0 + 16 * usU ctoUs) = true) →
    (s.epFetches = []) →
    (s.ctrls = []) →
    Completes (.epQuarantineExpiry tag ctoUs) s (fun t =>
      (t.epReads = []))) ∧
  (∀ (s : State) (f : Nat) (on : Bool),
    (s.epExists f = true) →
    (f < s.epfs.length) →
    Completes (.epBmeWrite f on) s (fun t =>
      ((t.epf f).bme = on))) ∧
  (∀ (s : State) (f : Nat) (d3 : Bool),
    (s.epExists f = true) →
    (f < s.epfs.length) →
    Completes (.epPowerState f d3) s (fun t =>
      ((t.epf f).d3 = d3))) ∧
  (∀ (s : State) (f : Nat) (vector : Nat),
    (s.epExists f = true) →
    (vector ≤ 64) →
    ((s.epf f).d3 = false) →
    ((s.epf f).pba.contains vector = true) →
    Completes (.epMsixUnmask f vector) s (fun t =>
      (t.out = .msix f vector :: s.out) ∧
      ((t.epf f).unmasked.contains vector = true) ∧
      ((t.epf f).pba.contains vector = false))) ∧
  (∀ (s : State),
    (s.isSet F.EPT_STAT_LINK_UP = true) →
    (s.isSet F.EPT_STAT_FROZEN = false) →
    s.epL1 = false →
    (s.epReads = []) →
    (s.epfs.any (fun (z : EpFunc) => !z.held.isEmpty) = false) →
    (s.due (s.epTlpAt + usU (s.rd F.EPT_PM_CFG_L1_IDLE_US)) = true) →
    Completes (.epL1Idle true) s (fun t =>
      (t.epL1 = true))) ∧
  (∀ (s : State),
    s.epLtrActive = true →
    s.epBusy = false →
    (s.due (s.epCmdAt + msU 1) = true) →
    Completes .epLtrIdle s (fun t =>
      (t.epLtrActive = false) ∧
      (t.out = .ltr (10 * s.rd F.EPT_PM_CFG_LTR_IDLE) :: s.out)))

/-- The images of a unit's banks and the outcome of each step are the command's operands; a rejected bank counts as in R507. -/
def Obligations.StartUp : Prop :=
  (∀ (s : State) (kind : Nat),
    (kind ≤ 3) →
    (s.boot.held ≠ some 4) →
    (s.boot.held ≠ some 5) →
    Completes (.resetAssert kind) s (fun t =>
      (t.boot.held = some kind) ∧
      (t.boot.ended = []) ∧
      (t.conns = []) ∧
      (t.cmds = []) ∧
      (t.lines = []) ∧
      (t.ctrls = []) ∧
      (t.fuses = s.fuses) ∧
      (t.flash = s.flash) ∧
      (t.tim.count = 0))) ∧
  (∀ (s : State) (bootSel : Nat) (slotB : Bool) (flash : Option Flash) (h0 : Nat),
    (s.boot.held = some h0) →
    (h0 ≤ 3) →
    s.tru.jtag = false →
    (s.rd F.TRU_STAT_TAMPER_CNT ≠ 3) →
    (bootSel < 4) →
    Completes (.controllerStart bootSel slotB flash) s (fun t =>
      (t.boot.held = none) ∧
      (t.boot.ended = [1]) ∧
      (t.boot.stopped = false) ∧
      (t.rd F.TRU_STAT_STEP = 1) ∧
      (t.rd F.CTL_BOOT_STAT_BOOT_SEL = bootSel) ∧
      (t.rd F.CTL_BOOT_STAT_SLOT_B = (if slotB = true then 1 else 0)) ∧
      (t.flash = flash.getD s.flash) ∧
      (t.fuses = s.fuses))) ∧
  (∀ (s : State) (romOk : Bool) (fusesOk : Bool) (trngOk : Bool),
    s.boot.held = none →
    s.boot.stopped = false →
    (s.stepDone 1 = true) →
    (s.stepDone 2 = false) →
    ((romOk && fusesOk) = false) →
    Completes (.bootStepEnd (.rom romOk fusesOk trngOk)) s (fun t =>
      (t.boot.stopped = true) ∧
      (t.rd F.TRU_STAT_STOP = 2) ∧
      (t.stepDone 2 = false) ∧
      (t.tru = s.tru))) ∧
  (∀ (s : State),
    s.boot.held = none →
    s.boot.stopped = false →
    (s.stepDone 1 = true) →
    (s.stepDone 2 = false) →
    Completes (.bootStepEnd (.rom true true false)) s (fun t =>
      (t.boot.stopped = true) ∧
      (t.rd F.TRU_STAT_STOP = 3) ∧
      (t.stepDone 2 = false))) ∧
  (∀ (s : State),
    s.boot.held = none →
    s.boot.stopped = false →
    (s.stepDone 1 = true) →
    (s.stepDone 2 = false) →
    Completes (.bootStepEnd (.rom true true true)) s (fun t =>
      (t.stepDone 2 = true) ∧
      (t.tru.kcw.isSome = true) ∧
      (t.tru.memKey.isSome = true) ∧
      (t.rd F.TRU_STAT_STEP = 5) ∧
      (t.boot.stopped = false))) ∧
  (∀ (s : State),
    s.boot.held = none →
    s.boot.stopped = false →
    (s.stepDone 1 = true) →
    (s.stepDone 2 = true) →
    (s.stepDone 3 = false) →
    (s.flash.size < 64) →
    Completes (.bootStepEnd .bank) s (fun t =>
      (t.boot.stopped = true) ∧
      (t.rd F.TRU_STAT_STOP = 1) ∧
      (t.stepDone 3 = false))) ∧
  (∀ (s : State) (n : Nat) (b : BankImg),
    s.boot.held = none →
    s.boot.stopped = false →
    (s.stepDone 1 = true) →
    (s.stepDone 2 = true) →
    (s.stepDone 3 = false) →
    (64 ≤ s.flash.size) →
    (tryBanks s.part s.fuses s.flash.bankSize s.flash.banks (s.flash.order (s.rd F.CTL_BOOT_STAT_BOOT_SEL)) = ([], some (n, b))) →
    (n < 4) →
    Completes (.bootStepEnd .bank) s (fun t =>
      (t.stepDone 3 = true) ∧
      (t.boot.img = some b) ∧
      (t.boot.bank = n) ∧
      (t.rd F.CTL_BOOT_STAT_BANK = n) ∧
      (t.rd F.TRU_STAT_STEP = 6) ∧
      (t.rd F.CTL_BOOT_STAT_OWNER = s.ownerOf b) ∧
      (t.rd F.CTL_IMG_SVN = (b.fwSvn + 65536 * b.ownSvn) % 2 ^ 32))) ∧
  (∀ (s : State),
    s.boot.held = none →
    s.boot.stopped = false →
    (s.stepDone 1 = true) →
    (s.stepDone 3 = true) →
    (s.stepDone 4 = false) →
    (s.rd F.CTL_BOOT_STAT_OWNER = 2) →
    (s.fuses.vcore < 1024) →
    Completes (.bootStepEnd (.settings [])) s (fun t =>
      (t.stepDone 4 = true) ∧
      (t.rd F.CTL_AVS_STAT_MV = s.fuses.vcore) ∧
      (t.boot.step4At = s.now) ∧
      (t.groups = s.groups))) ∧
  (∀ (s : State) (b : BankImg),
    s.boot.held = none →
    s.boot.stopped = false →
    (s.stepDone 1 = true) →
    (s.stepDone 3 = true) →
    (s.stepDone 4 = false) →
    (s.rd F.CTL_BOOT_STAT_OWNER ≠ 2) →
    (s.boot.img = some b) →
    Completes (.bootStepEnd (.settings [])) s (fun t =>
      (t.stepDone 4 = true) ∧
      (t.subnqn = b.subnqn) ∧
      (t.boot.step4At = s.now) ∧
      (t.isSet (F.BENCH_CTL_LOCK 0) = true))) ∧
  (∀ (s : State) (dn : Bool),
    s.boot.held = none →
    s.boot.stopped = false →
    (s.stepDone 1 = true) →
    (s.stepDone 4 = true) →
    (s.stepDone 5 = false) →
    (s.rd F.CTL_BOOT_STAT_OWNER ≠ 2) →
    Completes (.bootStepEnd (.chain false dn)) s (fun t =>
      (t.stepDone 5 = true) ∧
      (t.isHead = true) ∧
      (t.addressed = true) ∧
      (t.addr = 0) ∧
      (t.chain.dnDriven = dn))) ∧
  (∀ (s : State) (dn : Bool),
    s.boot.held = none →
    s.boot.stopped = false →
    (s.stepDone 1 = true) →
    (s.stepDone 4 = true) →
    (s.stepDone 5 = false) →
    (s.rd F.CTL_BOOT_STAT_OWNER ≠ 2) →
    Completes (.bootStepEnd (.chain true dn)) s (fun t =>
      (t.stepDone 5 = true) ∧
      (t.isHead = s.isHead) ∧
      (t.chain.waitFrom = some s.now))) ∧
  (∀ (s : State),
    s.boot.held = none →
    s.boot.stopped = false →
    (s.stepDone 1 = true) →
    (s.stepDone 5 = true) →
    (s.stepDone 6 = false) →
    (s.rd F.CTL_BOOT_STAT_OWNER ≠ 2) →
    s.addressed = true →
    Completes (.bootStepEnd .time) s (fun t =>
      (t.stepDone 6 = true) ∧
      (t.tim.firstUpdatePending = (s.isHead && s.tim.lastUpdate.isNone)))) ∧
  (∀ (s : State) (ch : List (List Dimm)),
    s.boot.held = none →
    s.boot.stopped = false →
    (s.stepDone 1 = true) →
    (s.stepDone 4 = true) →
    (s.stepDone 7 = false) →
    (s.rd F.CTL_BOOT_STAT_OWNER ≠ 2) →
    s.boot.memBad = 0 →
    (s.badChannels ch = []) →
    (1024 * (((List.range s.memChannels).filterMap fun i => (ch.getD i []).head?).map (·.gib)).sum < 2 ^ 22) →
    (s.regionSizes.sum ≤ 1024 * (((List.range s.memChannels).filterMap fun i => (ch.getD i []).head?).map (·.gib)).sum) →
    Completes (.bootStepEnd (.memory ch)) s (fun t =>
      (t.stepDone 7 = true) ∧
      (t.boot.memBad = 0) ∧
      ((List.range s.memChannels).all (fun (i : Nat) => t.rd (F.MEM_CHSTAT_PRESENT i) == 1 && t.rd (F.MEM_CHSTAT_TRAINED i) == 1) = true) ∧
      ((List.range 15).all (fun (r : Nat) => t.rd (F.MEM_RGN_SIZEr_MIB r) == s.regionSizes.getD r 0 && t.rd (F.MEM_RGN_BASEr_MIB r) == (s.regionSizes.take r).sum) = true) ∧
      (t.rd F.MEM_STAT_SPEED ≤ s.rd F.MEM_CFG_MAX_SPEED))) ∧
  (∀ (s : State) (ch : List (List Dimm)),
    s.boot.held = none →
    s.boot.stopped = false →
    (s.stepDone 1 = true) →
    (s.stepDone 4 = true) →
    (s.stepDone 7 = false) →
    (s.rd F.CTL_BOOT_STAT_OWNER ≠ 2) →
    s.boot.memBad = 0 →
    (s.badChannels ch ≠ []) →
    ((s.benchAt 4).state ≠ .off) →
    Completes (.bootStepEnd (.memory ch)) s (fun t =>
      (t.stepDone 7 = false) ∧
      (t.boot.memBad = 1) ∧
      (hasBit (t.rd (F.BENCH_EV_STAT 4)) 4 = true))) ∧
  (∀ (s : State),
    s.boot.held = none →
    s.boot.stopped = false →
    (s.stepDone 1 = true) →
    (s.stepDone 4 = true) →
    (s.stepDone 8 = false) →
    (s.rd F.CTL_BOOT_STAT_OWNER ≠ 2) →
    (s.role ≠ 0) →
    Completes (.bootStepEnd .paired) s (fun t =>
      (t.stepDone 8 = true) ∧
      (t.stage = some (0, s.now + msU (10 * s.rd F.CTL_BOOT_CFG_STAGGER * (s.addr / 2)))))) ∧
  (∀ (s : State),
    s.boot.held = none →
    s.boot.stopped = false →
    (s.stepDone 1 = true) →
    (s.stepDone 8 = true) →
    (s.stepDone 9 = false) →
    (s.rd F.CTL_BOOT_STAT_OWNER ≠ 2) →
    s.drvPowered = true →
    Completes (.bootStepEnd .drives) s (fun t =>
      (t = s.noteStep 9) ∧
      (t.stepDone 9 = true) ∧
      (t.rd F.CTL_BOOT_STAT_STEP = max 9 (s.rd F.CTL_BOOT_STAT_STEP)) ∧
      (t.rd (F.CTL_BOOT_STEPT 8) = min (2 ^ 32 - 1) ((s.now - s.boot.startAt) / 4000)))) ∧
  (∀ (s : State),
    s.boot.held = none →
    s.boot.stopped = false →
    (s.stepDone 1 = true) →
    (s.stepDone 9 = true) →
    (s.stepDone 10 = false) →
    (s.rd F.CTL_BOOT_STAT_OWNER ≠ 2) →
    (s.ports.all (fun (z : Port) => z.perstAt.isNone) = true) →
    Completes (.bootStepEnd .perst) s (fun t =>
      (t = s.noteStep 10))) ∧
  (∀ (s : State),
    s.boot.held = none →
    s.boot.stopped = false →
    (s.stepDone 1 = true) →
    (s.stepDone 7 = true) →
    (s.stepDone 11 = false) →
    (s.rd F.CTL_BOOT_STAT_OWNER ≠ 2) →
    (s.rd F.MEM_STAT_READY = 0x7FFF) →
    Completes (.bootStepEnd .regions) s (fun t =>
      (t = s.noteStep 11))) ∧
  (∀ (s : State) (gen : Nat),
    s.boot.held = none →
    s.boot.stopped = false →
    (s.stepDone 1 = true) →
    (s.stepDone 10 = true) →
    (s.stepDone 12 = false) →
    (s.rd F.CTL_BOOT_STAT_OWNER ≠ 2) →
    s.role = 0 →
    (s.boot.memBad ≠ 1) →
    s.pair.alone = true →
    (s.gen < gen) →
    Completes (.bootStepEnd (.members gen)) s (fun t =>
      (t.role = 5) ∧
      (t.boot.genSeen = gen) ∧
      (t.stepDone 12 = true))) ∧
  (∀ (s : State) (gen : Nat),
    s.boot.held = none →
    s.boot.stopped = false →
    (s.stepDone 1 = true) →
    (s.stepDone 10 = true) →
    (s.stepDone 12 = false) →
    (s.rd F.CTL_BOOT_STAT_OWNER ≠ 2) →
    s.role = 0 →
    (s.boot.memBad ≠ 1) →
    s.pair.alone = true →
    (gen ≤ s.gen) →
    (s.mirrorOut = []) →
    (s.cmds = []) →
    (s.lines = []) →
    Completes (.bootStepEnd (.members gen)) s (fun t =>
      (t.role = 3) ∧
      (t.gen = (s.gen + 1) % 2 ^ 64) ∧
      (t.stepDone 12 = true))) ∧
  (∀ (s : State),
    s.boot.held = none →
    s.boot.stopped = false →
    (s.stepDone 1 = true) →
    (s.stepDone 11 = true) →
    (s.stepDone 12 = true) →
    (s.stepDone 13 = false) →
    (s.rd F.CTL_BOOT_STAT_OWNER ≠ 2) →
    s.isActive = true →
    (s.tally.recs = []) →
    (s.fixupds = []) →
    ((s.benchAt 5).state ≠ .off) →
    Completes (.bootStepEnd (.replay true [])) s (fun t =>
      (t.stepDone 13 = true) ∧
      (t.tally = s.tally) ∧
      (hasBit (t.rd (F.BENCH_EV_STAT 5)) 6 = true))) ∧
  (∀ (s : State) (env : Bool),
    s.boot.held = none →
    s.boot.stopped = false →
    (s.stepDone 1 = true) →
    (s.stepDone 13 = true) →
    (s.stepDone 14 = false) →
    s.isActive = true →
    (s.configuredGroups = []) →
    ((List.range 48).any s.mountWaits = false) →
    Completes (.bootStepEnd (.mount env none)) s (fun t =>
      (t.stepDone 14 = true) ∧
      (t.tru.ksr = (s.tru.ksr || (env && !s.tru.blocked))) ∧
      (t.groups = s.groups))) ∧
  (∀ (s : State) (ok : Bool),
    s.boot.held = none →
    s.boot.stopped = false →
    (s.stepDone 1 = true) →
    (s.stepDone 3 = true) →
    (s.rd F.TRU_STAT_STEP = 6) →
    Completes (.bootStepEnd (.dik ok)) s (fun t =>
      (t.rd F.TRU_STAT_STEP = 7) ∧
      (t.isSet F.TRU_STAT_DIK_OK = ok) ∧
      (t.boot = s.boot))) ∧
  (∀ (s : State),
    s.boot.held = none →
    s.boot.stopped = false →
    (s.stepDone 1 = true) →
    (s.rd F.TRU_STAT_STEP = 7) →
    Completes (.bootStepEnd .ak) s (fun t =>
      (t.rd F.TRU_STAT_STEP = 8) ∧
      (t.isSet F.TRU_STAT_AK_OK = true) ∧
      (t.tru.ak.isSome = true))) ∧
  (∀ (s : State) (e : BootEnd),
    (s.boot.held ≠ none ∨ s.boot.stopped = true) →
    Completes (.bootStepEnd e) s (fun t =>
      (t = s))) ∧
  (∀ (s : State) (slot : Nat),
    (s.stepDone 9 = true) →
    (s.stepDone 14 = false) →
    (s.mountWaits slot = true) →
    (s.due ((s.port slot).pwrAt + secU 1 * s.rd F.CTL_BOOT_CFG_MEMBER_WAIT_S) = true) →
    (slot < s.slots.length) →
    (slot < 48) →
    (s.mcmds = []) →
    (s.mwaits = []) →
    (s.jobs = []) →
    Completes (.memberWaitExpiry slot) s (fun t =>
      ((t.slot slot).state = 2) ∧
      ((t.slot slot).ref = s.now))) ∧
  (∀ (s : State) (slot : Nat),
    (s.stepDone 14 = true) →
    Completes (.memberWaitExpiry slot) s (fun t =>
      (t = s))) ∧
  (∀ (s : State),
    s.tim.firstUpdatePending = true →
    s.tim.lastUpdate = none →
    (s.stepDone 15 = false) →
    (s.due (s.boot.step6At + secU 1 * s.rd F.CTL_BOOT_CFG_TIME_WAIT_S) = true) →
    ((s.benchAt 0).state ≠ .off) →
    Completes .timeWaitExpiry s (fun t =>
      (t.tim.firstUpdatePending = false) ∧
      (hasBit (t.rd (F.BENCH_EV_STAT 0)) 6 = true))) ∧
  (∀ (s : State),
    s.isActive = true →
    (s.stepDone 14 = true) →
    (s.stepDone 6 = true) →
    (s.stepDone 15 = false) →
    s.tim.firstUpdatePending = false →
    Completes .serviceStart s (fun t =>
      (t.rd F.TIM_STAT_SERVING = 1) ∧
      (t.stepDone 15 = true) ∧
      (t.rd F.CTL_BOOT_STAT_STEP = 15))) ∧
  (∀ (s : State),
    s.role = 2 →
    (s.stepDone 12 = true) →
    (s.stepDone 14 = true) →
    (s.stepDone 15 = false) →
    Completes .standbyServiceStart s (fun t =>
      (t.rd F.TIM_STAT_SERVING = 1) ∧
      (t.stepDone 15 = true) ∧
      (t.rd F.CTL_BOOT_STAT_STEP = 15)))

/-- Firmware commit, live activation, operator reloads and recalibration -/
def Obligations.LiveService : Prop :=
  (∀ (s : State) (v : NvmeCmd) (x : CommitInfo) (b : Nat) (img : BankImg),
    (adminReady s { v with opc := 0x10, cdw10 := v.cdw10 % 8 } = true) →
    (s.cmds = []) →
    ((s.commitCheck { v with opc := 0x10, cdw10 := v.cdw10 % 8 } 0 x).toOption = some (b, img)) →
    Completes (.firmwareCommitWrite v x) s (fun t =>
      (t.live.commit = some ⟨s.nextCmd, 0, b, img, 1, 0, 0⟩) ∧
      (t.out.head? = some (.flashBank b)) ∧
      (t.flash = s.flash))) ∧
  (∀ (s : State) (v : NvmeCmd) (x : CommitInfo) (st : Status),
    (adminReady s { v with opc := 0x10, cdw10 := v.cdw10 % 8 } = true) →
    (s.cmds = []) →
    ((match s.commitCheck { v with opc := 0x10, cdw10 := v.cdw10 % 8 } 0 x with | .error y => some y | .ok _ => none) = some st) →
    Completes (.firmwareCommitWrite v x) s (fun t =>
      (answered s t v 0 st = true) ∧
      (t.live = s.live))) ∧
  (∀ (s : State) (v : NvmeCmd) (x : CommitInfo) (b : Nat) (img : BankImg),
    (adminReady s { v with opc := 0x10, cdw10 := v.cdw10 % 8 + 8 } = true) →
    (s.cmds = []) →
    ((s.commitCheck { v with opc := 0x10, cdw10 := v.cdw10 % 8 + 8 } 1 x).toOption = some (b, img)) →
    Completes (.firmwareCommitWritePrefer v x) s (fun t =>
      (t.live.commit = some ⟨s.nextCmd, 1, b, img, 1, 1, 0⟩) ∧
      (t.out.head? = some (.flashBank b)))) ∧
  (∀ (s : State) (v : NvmeCmd) (x : CommitInfo) (b : Nat) (img : BankImg),
    (adminReady s { v with opc := 0x10, cdw10 := v.cdw10 % 8 + 16 } = true) →
    (s.cmds = []) →
    ((s.commitCheck { v with opc := 0x10, cdw10 := v.cdw10 % 8 + 16 } 2 x).toOption = some (b, img)) →
    s.flash.current = none →
    Completes (.firmwareCommitPrefer v x) s (fun t =>
      (t.live.commit = some ⟨s.nextCmd, 2, b, img, 0, 1, 0⟩) ∧
      (t.out.head? = some (.flashDescriptor 0 1 b)))) ∧
  (∀ (s : State) (v : NvmeCmd) (x : CommitInfo) (st : Status),
    (adminReady s { v with opc := 0x10, cdw10 := v.cdw10 % 8 + 24 } = true) →
    (s.cmds = []) →
    ((match s.commitCheck { v with opc := 0x10, cdw10 := v.cdw10 % 8 + 24 } 3 x with | .error y => some y | .ok _ => none) = some st) →
    Completes (.firmwareCommitActivate v x) s (fun t =>
      (answered s t v 0 st = true) ∧
      (t.live = s.live))) ∧
  (∀ (s : State) (v : NvmeCmd) (x : CommitInfo) (b : Nat) (img : BankImg) (c : Cmd),
    ((s.cmds.find? fun (z : Cmd) => z.nv.ctl == v.ctl && z.nv.qid == 0 && z.nv.cid == v.cid && z.nv.opc == 0x10 && z.result.isNone) = some c) →
    s.live.commit = none →
    ((s.commitCheck { v with opc := 0x10, cdw10 := v.cdw10 % 8 + 24 } 3 x).toOption = some (b, img)) →
    ((s.benchAt 0).state ≠ .off) →
    Completes (.firmwareCommitActivate v x) s (fun t =>
      (t.live.commit = some ⟨c.id, 3, b, img, 0, 2, 2⟩) ∧
      (t.rd F.CTL_LIVE_STAT_PHASE = 1) ∧
      (hasBit (t.rd (F.BENCH_EV_STAT 0)) 7 = true))) ∧
  (∀ (s : State) (partner : Bool) (c : FwCommit),
    (s.live.commit = some c) →
    (0 < c.writes) →
    (s.cmds = []) →
    Completes (.flashWriteDone (.bank partner false)) s (fun t =>
      (t.live.commit = none) ∧
      (t.flash = s.flash))) ∧
  (∀ (s : State) (c : FwCommit),
    (s.live.commit = some c) →
    c.writes = 1 →
    c.descs = 0 →
    (s.cmds = []) →
    Completes (.flashWriteDone (.bank false true)) s (fun t =>
      (t.live.commit = none) ∧
      (t.flash = { s.flash with banks := s.flash.banks.set c.bank c.img }))) ∧
  (∀ (s : State) (c : FwCommit),
    (s.live.commit = some c) →
    c.writes = 0 →
    c.descs = 1 →
    (c.ca ≠ 3) →
    (s.cmds = []) →
    s.flash.desc.length = 2 →
    Completes (.flashWriteDone (.descriptor false)) s (fun t =>
      (t.live.commit = none) ∧
      (t.flash.preferred = c.bank) ∧
      (t.flash.banks = s.flash.banks))) ∧
  (∀ (s : State) (bench : Nat) (ok : Bool) (last : Bool),
    (s.live.busy = [(bench, s.now, false)]) →
    (s.live.waits = []) →
    (classInst bench = none) →
    s.boot.img = none →
    (s.live.plan = []) →
    s.phase = 0 →
    s.haulHalf = none →
    Completes (.benchReloadDone false bench ok last) s (fun t =>
      (t.live.busy = []) ∧
      (t.rd F.CTL_LIVE_STAT_BENCH = 63) ∧
      (t.isSet F.CTL_LIVE_STAT_HOLD = false) ∧
      (t.pair.hold = none))) ∧
  (∀ (s : State) (bench : Nat) (ok : Bool) (last : Bool),
    (s.live.busy.any (fun (z : Nat × Nat × Bool) => z.1 == bench) = false) →
    (s.live.waits = []) →
    Completes (.benchReloadDone false bench ok last) s (fun t =>
      (t = s))) ∧
  (∀ (s : State) (bench : Nat),
    (s.reloading 0 = false) →
    (s.reloadOk bench = true) →
    (classInst bench = none) →
    (s.isSet F.HAL_PAIR_STAT_PAIRED = false) →
    Completes (.ctlLiveReload bench) s (fun t =>
      (t.live.busy = s.live.busy ++ [(bench, s.now, false)]) ∧
      (t.rd F.CTL_LIVE_STAT_BENCH = bench) ∧
      (t.pair = s.pair))) ∧
  (∀ (s : State) (bench : Nat),
    (s.reloading 0 = false) →
    (s.reloadOk bench = false) →
    Completes (.ctlLiveReload bench) s (fun t =>
      (t = s.wr F.CTL_LIVE_STAT_REFUSED 1))) ∧
  (∀ (s : State),
    (s.reloading 0 = false) →
    s.halRole = 2 →
    Completes .ctlLiveRetire s (fun t =>
      (t.pair.retired = true) ∧
      (t.pair.hello = none) ∧
      (t.isSet F.EPT_STAT_LINK_UP = false))) ∧
  (∀ (s : State),
    (s.reloading 0 = false) →
    (s.halRole ≠ 2) →
    Completes .ctlLiveRetire s (fun t =>
      (t = s.wr F.CTL_LIVE_STAT_REFUSED 1))) ∧
  (∀ (s : State) (above : Bool),
    (s.isSet F.CTL_LIVE_CFG_AVS_EN = true) →
    (s.stepDone 4 = true) →
    (s.due (s.live.avsAt + msU 100) = true) →
    (s.rd F.CTL_AVS_STAT_MV < 820) →
    Completes (.avsTimer true above true) s (fun t =>
      (t.rd F.CTL_AVS_STAT_MV = min 820 (s.rd F.CTL_AVS_STAT_MV + 5)) ∧
      (t.isSet F.CTL_AVS_STAT_LOW_MARGIN = true) ∧
      (t.isSet F.CTL_AVS_STAT_AVS_FAIL = false) ∧
      (t.live.avsAt = s.now) ∧
      (t.live.stepUpAt = some s.now) ∧
      (t.out = .avs (min 820 (s.rd F.CTL_AVS_STAT_MV + 5)) :: s.out))) ∧
  (∀ (s : State),
    (s.isSet F.CTL_LIVE_CFG_AVS_EN = true) →
    (s.stepDone 4 = true) →
    (s.due (s.live.avsAt + msU 100) = true) →
    s.live.stepUpAt = none →
    (680 < s.rd F.CTL_AVS_STAT_MV) →
    Completes (.avsTimer false true true) s (fun t =>
      (t.rd F.CTL_AVS_STAT_MV = max 680 (s.rd F.CTL_AVS_STAT_MV - 5)) ∧
      (t.isSet F.CTL_AVS_STAT_LOW_MARGIN = false))) ∧
  (∀ (s : State) (low : Bool) (above : Bool) (answers : Bool),
    (s.isSet F.CTL_LIVE_CFG_AVS_EN = false) →
    Completes (.avsTimer low above answers) s (fun t =>
      (t = s))) ∧
  (∀ (s : State) (half : Nat),
    (half < 2) →
    (half < s.pair.halves.length) →
    (s.rd F.CTL_LIVE_CFG_HAUL_RECAL_H ≠ 0) →
    (s.halfUp half = true) →
    (s.halfUp (1 - half) = true) →
    s.phase = 0 →
    s.draining = false →
    s.pair.resync = none →
    (s.halRole ≠ 4) →
    (s.due ((s.half half).recalAt + hourU (s.rd F.CTL_LIVE_CFG_HAUL_RECAL_H)) = true) →
    Completes (.haulRecalTimer half) s (fun t =>
      (t.halfUp half = false) ∧
      (t.halfUp (1 - half) = true) ∧
      ((t.half half).kept = []) ∧
      ((t.half half).recalAt = s.now))) ∧
  (∀ (s : State) (channel : Nat) (rank : Nat),
    (s.stepDone 7 = true) →
    (channel < s.memChannels) →
    (rank < 4) →
    ((s.benchAt 0).state ≠ .off) →
    Completes (.memRetrainTimer channel rank true) s (fun t =>
      (t.live.rankAt.head? = some (channel, rank, s.now)) ∧
      (hasBit (t.rd (F.BENCH_EV_STAT 0)) 8 = true))) ∧
  (∀ (s : State) (channel : Nat) (rank : Nat),
    (s.rd F.CTL_LIVE_CFG_MEM_RETRAIN_MIN = 0) →
    Completes (.memRetrainTimer channel rank false) s (fun t =>
      (t = s))) ∧
  (∀ (s : State) (channel : Nat) (rank : Nat),
    (s.stepDone 7 = true) →
    (channel < s.memChannels) →
    (rank < 4) →
    Completes (.memZqTimer channel rank) s (fun t =>
      (t = { s with live := { s.live with zqAt := s.now } }))) ∧
  (∀ (s : State) (dev : List (Nat × Int)) (b : Nat) (d : Int),
    (dev = [(b, d)]) →
    (b < s.bench.length) →
    (s.inLock b = false) →
    (s.due (s.live.alignAt + secU 1) = true) →
    Completes (.timeAlignTimer dev) s (fun t =>
      ((t.benchAt b).deviation = clampDev d) ∧
      ((t.benchAt b).foundAt = s.now) ∧
      ((t.benchAt b).localMin = s.localTime b) ∧
      ((t.benchAt b).timeLock = (s.benchAt b).timeLock) ∧
      (t.live.alignAt = s.now) ∧
      (t.tim = s.tim)))

/-- The unit chain: addresses, reset, time and shots -/
def Obligations.UnitChain : Prop :=
  (∀ (s : State) (a : Nat),
    (s.stepDone 5 = true) →
    (a < 64) →
    s.addressed = false →
    s.chain.dnDriven = true →
    Completes (.chainAddr true a) s (fun t =>
      (t.addr = a) ∧
      (t.addressed = true) ∧
      (t.isHead = false) ∧
      (t.rd F.TIM_SRC_CFG_SRC = 3) ∧
      ((newOut s t).contains (.chainAddr (a + 1)) = true) ∧
      (t.chain.sentAt = some s.now) ∧
      (t.chain.waitFrom = none))) ∧
  (∀ (s : State) (a : Nat),
    (s.stepDone 5 = true) →
    (a < 64) →
    s.addressed = false →
    s.chain.dnDriven = false →
    Completes (.chainAddr true a) s (fun t =>
      (t.addr = a) ∧
      (t.addressed = true) ∧
      ((newOut s t).contains (.chainAddrAck s.now 1) = true) ∧
      (t.chain.acked = true))) ∧
  (∀ (s : State) (a : Nat),
    (s.stepDone 5 = true) →
    (64 ≤ a) →
    ((s.benchAt 3).state ≠ .off) →
    Completes (.chainAddr true a) s (fun t =>
      (t.addr = s.addr) ∧
      (t.addressed = s.addressed) ∧
      (hasBit (t.rd (F.BENCH_EV_STAT 3)) 6 = true) ∧
      (t.out = s.out))) ∧
  (∀ (s : State) (a : Nat),
    Completes (.chainAddr false a) s (fun t =>
      (t = s.bump F.CHN_CRC_ERR))) ∧
  (∀ (s : State) (maxCount : Nat) (units : Nat),
    s.addressed = true →
    s.isHead = true →
    (units < 128) →
    Completes (.chainAddrAck true maxCount units) s (fun t =>
      (t.rd F.CHN_CHAIN_STAT_UNITS = units) ∧
      (t.chain.downAck = some (maxCount, units)) ∧
      (t.chain.sentAt = none) ∧
      (t.out = s.out))) ∧
  (∀ (s : State) (maxCount : Nat) (units : Nat),
    s.addressed = true →
    s.isHead = false →
    Completes (.chainAddrAck true maxCount units) s (fun t =>
      ((newOut s t).contains (.chainAddrAck (max s.now maxCount) (1 + units)) = true) ∧
      (t.chain.downAck = some (maxCount, units)) ∧
      (t.chain.acked = true))) ∧
  (∀ (s : State) (t0 : Nat),
    (s.chain.sentAt = some t0) →
    s.addressed = true →
    s.chain.dnDriven = true →
    (s.due (t0 + msU 1) = true) →
    Completes .addrRepeatTimer s (fun t =>
      ((newOut s t).contains (.chainAddr (s.addr + 1)) = true) ∧
      (t.chain.sentAt = some s.now))) ∧
  (∀ (s : State) (t0 : Nat),
    (s.chain.waitFrom = some t0) →
    s.addressed = false →
    (s.due (t0 + secU 1 * s.rd F.CHN_CHAIN_CFG_HEAD_WAIT_S) = true) →
    Completes .headWaitExpiry s (fun t =>
      (t.isHead = true) ∧
      (t.addressed = true) ∧
      (t.addr = 0) ∧
      (t.chain.waitFrom = none))) ∧
  (∀ (s : State),
    s.chain.waitFrom = none →
    Completes .headWaitExpiry s (fun t =>
      (t = s))) ∧
  (∀ (s : State),
    s.chain.sentAt.isSome = true →
    s.addressed = true →
    s.isHead = false →
    Completes .chainDownstreamUndriven s (fun t =>
      (t.chain.dnDriven = false) ∧
      (t.chain.sentAt = none) ∧
      (t.isSet F.CHN_CHAIN_STAT_DN_LINK = false) ∧
      ((newOut s t).contains (.chainAddrAck s.now 1) = true))) ∧
  (∀ (s : State) (src : Nat),
    s.isHead = false →
    s.chain.dnDriven = true →
    s.servo = 0 →
    ((s.benchAt 3).state ≠ .off) →
    Completes (.chainReset true src true) s (fun t =>
      (t.addressed = false) ∧
      (t.addr = 0) ∧
      (t.chain.sentAt = none) ∧
      (t.chain.waitFrom = some s.now) ∧
      (hasBit (t.rd (F.BENCH_EV_STAT 3)) 9 = true) ∧
      ((newOut s t).contains (.chainReset src false) = true))) ∧
  (∀ (s : State) (src : Nat) (fromUp : Bool),
    s.isHead = true →
    s.chain.dnDriven = false →
    s.servo = 0 →
    Completes (.chainReset true src fromUp) s (fun t =>
      (t.addressed = true) ∧
      (t.isHead = true) ∧
      (t.addr = 0) ∧
      (t.chain.downAck = none) ∧
      (t.out = s.out))) ∧
  (∀ (s : State) (src : Nat),
    s.isHead = false →
    s.addressed = true →
    Completes (.chainReset true src false) s (fun t =>
      ((newOut s t).contains (.chainReset src true) = true) ∧
      (t.addr = s.addr) ∧
      (t.addressed = true))) ∧
  (∀ (s : State),
    (s.reloading 3 = false) →
    s.isHead = false →
    s.addressed = true →
    Completes .chnChainResetCmd s (fun t =>
      ((newOut s t).contains (.chainReset s.addr true) = true) ∧
      (t.addressed = true) ∧
      (t.chain = s.chain))) ∧
  (∀ (s : State),
    (s.reloading 3 = false) →
    s.isHead = false →
    s.addressed = false →
    Completes .chnChainResetCmd s (fun t =>
      ((newOut s t).contains (.chainReset 0xFF true) = true) ∧
      (t.chain = s.chain))) ∧
  (∀ (s : State),
    s.addressed = true →
    s.isHead = false →
    (s.isSet F.CHN_CHAIN_STAT_UP_LINK = true) →
    (s.due (s.chain.treqAt + msU 1) = true) →
    Completes .treqTimer s (fun t =>
      ((newOut s t).contains (.chainTreq ((s.chain.eseq + 1) % 2 ^ 32)) = true) ∧
      (t.chain = { s.chain with eseq := (s.chain.eseq + 1) % 2 ^ 32, treqAt := s.now, treq := some ((s.chain.eseq + 1) % 2 ^ 32, s.now) }))) ∧
  (∀ (s : State) (eseq : Nat),
    (s.stepDone 5 = true) →
    Completes (.chainTreq true eseq) s (fun t =>
      ((newOut s t).contains (.chainTresp eseq s.now s.now) = true) ∧
      (t.chain = s.chain) ∧
      (t.rd F.CHN_RX_FRM = (s.rd F.CHN_RX_FRM + 1) % 2 ^ 32))) ∧
  (∀ (s : State) (eseq : Nat) (t2 : Nat) (t3 : Nat) (t1 : Nat),
    (s.chain.treq = some (eseq, t1)) →
    (s.rd F.TIM_SRC_CFG_SRC ≠ 3) →
    (s.isSet F.TIM_STAT_SERVING = true) →
    Completes (.chainTresp true eseq t2 t3) s (fun t =>
      (t.chain.treq = none) ∧
      (t.chain.stepped = true) ∧
      (t.rd F.CHN_HOP_DELAY_DELAY = ((((s.now : Int) - t1) - ((t3 : Int) - t2)) / 2).toNat % 2 ^ 32) ∧
      (t.tim = s.tim))) ∧
  (∀ (s : State) (eseq : Nat) (t2 : Nat) (t3 : Nat),
    ((s.chain.treq.any (fun (z : Nat × Nat) => z.1 == eseq)) = false) →
    Completes (.chainTresp true eseq t2 t3) s (fun t =>
      (t.chain = s.chain) ∧
      (t.tim = s.tim) ∧
      (t.rd F.CHN_HOP_DELAY_DELAY = s.rd F.CHN_HOP_DELAY_DELAY))) ∧
  (∀ (s : State) (issuer : Nat) (fromUp : Bool) (t0 : Nat),
    s.addressed = true →
    (s.isSet F.TIM_SHOT_CFG_CHAIN_EN = true) →
    (s.isSet F.TIM_SHOT_STAT_HELD = true) →
    Completes (.chainShot true t0 issuer fromUp) s (fun t =>
      ((newOut s t).contains (.chainShotRelay t0 issuer (!fromUp)) = true) ∧
      (t.tim = s.tim) ∧
      (t.rd F.TIM_SHOT_STAT_REFUSED = (s.rd F.TIM_SHOT_STAT_REFUSED + 1) % 256))) ∧
  (∀ (s : State) (issuer : Nat) (fromUp : Bool) (t0 : Nat),
    s.addressed = true →
    (s.isSet F.TIM_SHOT_CFG_CHAIN_EN = true) →
    (s.isSet F.TIM_SHOT_STAT_HELD = false) →
    (s.now + usU 1 ≤ t0) →
    (s.tim.shots = []) →
    (s.tim.fired = []) →
    Completes (.chainShot true t0 issuer fromUp) s (fun t =>
      ((newOut s t).contains (.chainShotRelay t0 issuer (!fromUp)) = true) ∧
      (t.tim.shots = [⟨t0, 16, s.now⟩]))) ∧
  (∀ (s : State) (issuer : Nat) (fromUp : Bool) (t0 : Nat),
    s.addressed = true →
    (s.isSet F.TIM_SHOT_CFG_CHAIN_EN = false) →
    Completes (.chainShot true t0 issuer fromUp) s (fun t =>
      ((newOut s t).contains (.chainShotRelay t0 issuer (!fromUp)) = true) ∧
      (t.tim = s.tim) ∧
      (t.rd F.TIM_SHOT_STAT_REFUSED = s.rd F.TIM_SHOT_STAT_REFUSED))) ∧
  (∀ (s : State),
    s.chain.upLost = false →
    s.servo = 0 →
    ((s.benchAt 3).state ≠ .off) →
    Completes .chainUpstreamLost s (fun t =>
      (t.chain.upLost = true) ∧
      (t.isSet F.CHN_CHAIN_STAT_UP_LINK = false) ∧
      (t.addr = s.addr) ∧
      (t.addressed = s.addressed) ∧
      (hasBit (t.rd (F.BENCH_EV_STAT 3)) 7 = true))) ∧
  (∀ (s : State),
    s.chain.upLost = false →
    (s.rd F.TIM_SRC_CFG_SRC = 3) →
    s.servo = 2 →
    Completes .chainUpstreamLost s (fun t =>
      (t.chain.upLost = true) ∧
      (t.servo = 3))) ∧
  (∀ (s : State),
    s.chain.upLost = true →
    Completes .chainUpstreamRestored s (fun t =>
      (t.chain.upLost = false) ∧
      (t.isSet F.CHN_CHAIN_STAT_UP_LINK = true) ∧
      (t.isSet F.CHN_CHAIN_STAT_UP_DRIVEN = true))) ∧
  (∀ (s : State) (dst : Nat) (kind : Nat) (relay : Nat) (src : Nat) (command : Nat) (cc : Nat) (detail : Nat) (r : VendorReq) (fromUp : Bool),
    s.addressed = true →
    (dst ≠ s.addr) →
    (dst ≠ 0xFF) →
    (s.isSet F.CHN_CHAIN_CFG_MGMT_EN = true) →
    Completes (.chainMgmt true dst kind relay src command cc detail r fromUp) s (fun t =>
      ((t.out = .chainMgmt dst kind relay src command (r.tag :: r.unit :: cc :: detail :: r.body) (decide (dst < s.addr)) :: s.out ∧ t.rd F.CHN_MGMT_DROP = s.rd F.CHN_MGMT_DROP) ∨ (t.out = s.out ∧ t.rd F.CHN_MGMT_DROP = (s.rd F.CHN_MGMT_DROP + 1) % 2 ^ 32)) ∧
      (t.mgt = s.mgt))) ∧
  (∀ (s : State) (dst : Nat) (relay : Nat) (src : Nat) (command : Nat) (cc : Nat) (detail : Nat) (r : VendorReq) (fromUp : Bool) (x : Relay),
    s.addressed = true →
    (dst = s.addr) →
    (s.mgt.relays = [x]) →
    x.tag = relay →
    x.unit = src →
    Completes (.chainMgmt true dst 2 relay src command cc detail r fromUp) s (fun t =>
      ((newOut s t).contains (.vendor x.path x.eid x.reqTag (x.command + 0x80) cc detail r.body) = true) ∧
      (t.mgt.relays = [])))

/-- The haul link and the heartbeats -/
def Obligations.HaulLink : Prop :=
  (∀ (s : State) (half : Nat),
    (half < 2) →
    (half < s.pair.halves.length) →
    (s.halfUp half = false) →
    (s.halfEnabled half = true) →
    (s.stepDone 4 = true) →
    ((s.half half).kept = []) →
    s.pair.exchanged = true →
    ((s.benchAt 7).state ≠ .off) →
    Completes (.haulHalfUp half) s (fun t =>
      (t.halfUp half = true) ∧
      ((t.half half).recalAt = s.now) ∧
      (hasBit (t.rd (F.BENCH_EV_STAT 7)) 9 = true))) ∧
  (∀ (s : State) (half : Nat),
    s.pair.hold = none →
    (s.halfUp half = true) →
    (s.halfUp (1 - half) = true) →
    ((s.benchAt 7).state ≠ .off) →
    Completes (.haulHalfDown half) s (fun t =>
      (t.halfUp half = false) ∧
      (t.halfUp (1 - half) = true) ∧
      ((t.half half).kept = []) ∧
      (t.rd F.HAL_RESEND = (s.rd F.HAL_RESEND + (s.half half).kept.length) % 2 ^ 32) ∧
      (hasBit (t.rd (F.BENCH_EV_STAT 7)) 8 = true))) ∧
  (∀ (s : State) (half : Nat),
    s.pair.hold = none →
    (s.halfUp half = true) →
    (s.halfUp (1 - half) = false) →
    Completes (.haulHalfDown half) s (fun t =>
      (t.halfUp half = false) ∧
      (t.pair.halves = s.pair.halves) ∧
      (t.haulUp = false))) ∧
  (∀ (s : State) (half : Nat),
    (s.pair.hold ≠ none) →
    Completes (.haulHalfDown half) s (fun t =>
      (t = s))) ∧
  (∀ (s : State) (half : Nat),
    (s.halfUp half = true) →
    s.pair.hold = none →
    (((s.half half).kept.head?.any fun (k : HaulKept) => s.due (k.sentAt + usU 2)) = true) →
    ((s.half half).kept.any (fun (k : HaulKept) => 3 ≤ k.resends) = false) →
    Completes (.haulResendTimer half) s (fun t =>
      ((t.half half).kept = (s.half half).kept.map fun (k : HaulKept) => { k with resends := k.resends + 1, sentAt := s.now }) ∧
      (t.out = ((s.half half).kept.map fun (k : HaulKept) => .haulFrame half k.chan k.seq true).reverse ++ s.out) ∧
      (t.halfUp half = true))) ∧
  (∀ (s : State) (half : Nat) (chan : Nat) (seq : Nat),
    (half < s.pair.halves.length) →
    (s.halfUp half = true) →
    (chan ≠ 0) →
    (seq = (s.half half).rxSeq + 1) →
    Completes (.haulFrameReceive half chan seq none false true .other) s (fun t =>
      ((t.half half).rxSeq = seq) ∧
      (t.out = .haulAck half false seq :: s.out) ∧
      (t.rd F.HAL_RX_FRM = (s.rd F.HAL_RX_FRM + 1) % 2 ^ 32) ∧
      ((t.half half).kept = (s.half half).kept))) ∧
  (∀ (s : State) (half : Nat) (chan : Nat) (seq : Nat) (body : HaulBody),
    (s.halfUp half = true) →
    (chan ≠ 0) →
    (seq ≤ (s.half half).rxSeq) →
    Completes (.haulFrameReceive half chan seq none false true body) s (fun t =>
      (t.pair = s.pair) ∧
      (t.out = .haulAck half false (s.half half).rxSeq :: s.out) ∧
      (t.rd F.HAL_SEQ_DROP = (s.rd F.HAL_SEQ_DROP + 1) % 2 ^ 32))) ∧
  (∀ (s : State) (half : Nat) (chan : Nat) (seq : Nat) (ack : Option Nat) (nak : Bool) (body : HaulBody),
    (s.halfUp half = true) →
    ((s.half half).authNotice = none) →
    (half < s.pair.halves.length) →
    Completes (.haulFrameReceive half chan seq ack nak false body) s (fun t =>
      (t.out = .haulAck half true (s.half half).rxSeq :: s.out) ∧
      (t.rd F.HAL_AUTH_FAIL = (s.rd F.HAL_AUTH_FAIL + 1) % 2 ^ 32) ∧
      ((t.half half).rxSeq = (s.half half).rxSeq) ∧
      ((t.half half).authNotice = some s.now))) ∧
  (∀ (s : State) (half : Nat) (seq : Nat) (body : HaulBody) (n : Nat),
    (s.halfUp half = true) →
    s.pair.resync = none →
    ((s.half half).kept.any (fun (k : HaulKept) => k.seq ≤ n) = true) →
    Completes (.haulFrameReceive half 0 seq (some n) false true body) s (fun t =>
      ((t.half half).kept = ((s.half half).kept.filter fun (k : HaulKept) => n < k.seq).map fun (k : HaulKept) => { k with sentAt := s.now }) ∧
      (t.out = s.out))) ∧
  (∀ (s : State) (half : Nat) (chan : Nat) (seq : Nat) (ack : Option Nat) (nak : Bool) (tagOk : Bool) (body : HaulBody),
    (s.halfUp half = false) →
    Completes (.haulFrameReceive half chan seq ack nak tagOk body) s (fun t =>
      (t = s))) ∧
  (∀ (s : State),
    s.pair.retired = false →
    (s.stepDone 3 = true) →
    (s.due (s.pair.beatAt + usU (s.rd F.HAL_PAIR_CFG_HB_PERIOD)) = true) →
    Completes .heartbeatTimer s (fun t =>
      (t.out = .beat s.role (s.rd F.CTL_BOOT_STAT_SLOT_B + 2 * bit s.haulUp) ((s.pair.bseq + 1) % 2 ^ 32) s.gen :: s.out) ∧
      (t.pair = { s.pair with bseq := (s.pair.bseq + 1) % 2 ^ 32, beatAt := s.now }) ∧
      (t.regs = s.regs))) ∧
  (∀ (s : State),
    s.pair.retired = true →
    Completes .heartbeatTimer s (fun t =>
      (t = s))) ∧
  (∀ (s : State) (bseq : Nat) (role : Nat) (gen : Nat),
    (s.role ≠ 0) →
    (s.pair.wire.bseq.any (fun (n : Nat) => bseq ≤ n) = false) →
    (role < 8) →
    Completes (.heartbeatBeat false bseq role gen) s (fun t =>
      (t.pair.wire = ⟨some bseq, some s.now, 0, false⟩) ∧
      (t.pair.haul = s.pair.haul) ∧
      (t.pair.peerGen = gen) ∧
      (t.rd F.HAL_PAIR_STAT_PEER_ROLE = role) ∧
      (t.role = s.role))) ∧
  (∀ (s : State) (bseq : Nat) (role : Nat) (gen : Nat),
    (s.pair.wire.bseq.any (fun (n : Nat) => bseq ≤ n) = true) →
    Completes (.heartbeatBeat false bseq role gen) s (fun t =>
      (t = s))) ∧
  (∀ (s : State) (x : Nat),
    (s.pair.wire.expected = some x) →
    (s.pair.wire.misses < 2) →
    s.pair.hold = none →
    (s.due (x + usU (s.rd F.HAL_PAIR_CFG_HB_PERIOD) + nsU 200) = true) →
    Completes (.heartbeatMiss false) s (fun t =>
      (t.pair.wire = { s.pair.wire with expected := some (x + usU (s.rd F.HAL_PAIR_CFG_HB_PERIOD)), misses := s.pair.wire.misses + 1 }) ∧
      (t.rd F.CHN_HB_MISS = (s.rd F.CHN_HB_MISS + 1) % 2 ^ 32) ∧
      (t.role = s.role))) ∧
  (∀ (s : State) (x : Nat),
    (s.pair.haul.expected = some x) →
    (s.pair.haul.misses < 2) →
    s.pair.hold = none →
    (s.due (x + usU (s.rd F.HAL_PAIR_CFG_HB_PERIOD) + nsU 200) = true) →
    Completes (.heartbeatMiss true) s (fun t =>
      (t.pair.haul = { s.pair.haul with expected := some (x + usU (s.rd F.HAL_PAIR_CFG_HB_PERIOD)), misses := s.pair.haul.misses + 1 }) ∧
      (t.rd F.HAL_HB_MISS = (s.rd F.HAL_HB_MISS + 1) % 2 ^ 32)))

/-- Roles of the pair: partner failure, fencing, HELLO, handover and holds -/
def Obligations.PairRoles : Prop :=
  (∀ (s : State),
    s.role = 2 →
    (s.isSet F.HAL_PAIR_STAT_FENCING = false) →
    (s.conns = []) →
    (s.cmds = []) →
    (s.fixupds = []) →
    (s.mirrorOut = []) →
    (s.lines = []) →
    s.phase = 0 →
    Completes .goodbye s (fun t =>
      (t.role = 3) ∧
      (t.isSet F.HAL_PAIR_STAT_PAIRED = false) ∧
      (t.isSet F.HAL_PAIR_STAT_FENCING = true) ∧
      (t.rd F.HAL_PAIR_STAT_PEER_ROLE = 7) ∧
      (t.gen = (s.gen + 1) % 2 ^ 64) ∧
      (t.pair.closed = true))) ∧
  (∀ (s : State),
    s.role = 1 →
    (s.isSet F.HAL_PAIR_STAT_FENCING = false) →
    (s.cmds = []) →
    (s.mirrorOut = []) →
    (s.lines = []) →
    s.phase = 0 →
    Completes .goodbye s (fun t =>
      (t.role = 3) ∧
      (t.isSet F.HAL_PAIR_STAT_FENCING = true) ∧
      (t.gen = (s.gen + 1) % 2 ^ 64))) ∧
  (∀ (s : State),
    s.role = 1 →
    s.boot.held = none →
    (s.dueOpt s.pair.actWait = true) →
    (s.isSet F.HAL_PAIR_STAT_FENCING = false) →
    (s.cmds = []) →
    (s.mirrorOut = []) →
    (s.lines = []) →
    Completes .activeFenceWait s (fun t =>
      (t.role = 3) ∧
      (t.isSet F.HAL_PAIR_STAT_FENCING = true) ∧
      (t.gen = (s.gen + 1) % 2 ^ 64) ∧
      (t.pair.actWait = none))) ∧
  (∀ (s : State) (x : Nat),
    (s.pair.fenceAt = some x) →
    (s.isSet F.HAL_PAIR_STAT_FENCING = true) →
    (s.isSet F.HAL_PAIR_STAT_FENCE_HELD = false) →
    (s.due (x + msU 1 * s.rd F.HAL_PAIR_CFG_FENCE_MS) = true) →
    Completes .fenceHoldExpiry s (fun t =>
      (t.isSet F.HAL_PAIR_STAT_FENCING = false) ∧
      (t.pair.fenceAt = none) ∧
      (t.pair.released = some s.now))) ∧
  (∀ (s : State),
    (s.isSet F.HAL_PAIR_STAT_FENCE_HELD = true) →
    Completes .fenceHoldExpiry s (fun t =>
      (t = s))) ∧
  (∀ (s : State),
    (s.reloading 7 = false) →
    (s.isSet F.HAL_PAIR_STAT_FENCE_HELD = true) →
    Completes .halUnfenceCmd s (fun t =>
      (t.isSet F.HAL_PAIR_STAT_FENCE_HELD = false) ∧
      (t.isSet F.HAL_PAIR_STAT_FENCING = false) ∧
      (t.pair.released = some s.now))) ∧
  (∀ (s : State),
    (s.reloading 7 = false) →
    (s.isSet F.HAL_PAIR_STAT_FENCE_HELD = false) →
    Completes .halUnfenceCmd s (fun t =>
      (t = s))) ∧
  (∀ (s : State),
    s.pair.alone = true →
    (s.dueOpt s.pair.startDelay = true) →
    (s.isSet F.HAL_PAIR_STAT_FENCING = false) →
    ((s.benchAt 3).state ≠ .off) →
    Completes .fenceStartDelayExpiry s (fun t =>
      (t.isSet F.HAL_PAIR_STAT_FENCING = true) ∧
      (t.isSet F.HAL_PAIR_STAT_FENCE_HELD = false) ∧
      (t.pair.startDelay = none) ∧
      (hasBit (t.rd (F.BENCH_EV_STAT 3)) 12 = true))) ∧
  (∀ (s : State),
    (s.stepDone 4 = true) →
    s.role = 0 →
    (s.boot.memBad ≠ 1) →
    s.pair.alone = false →
    (s.due (s.boot.step4At + secU 1 * s.rd F.HAL_PAIR_CFG_PAIR_WAIT_S) = true) →
    s.pair.wire.expected = none →
    s.pair.haul.expected = none →
    (s.rd F.CTL_BOOT_STAT_SLOT_B = 0) →
    Completes .pairWaitExpiry s (fun t =>
      (t.pair.alone = true) ∧
      (t.isSet F.HAL_PAIR_STAT_FENCING = true) ∧
      (t.role = 0))) ∧
  (∀ (s : State),
    (s.role ≠ 0) →
    Completes .pairWaitExpiry s (fun t =>
      (t = s))) ∧
  (∀ (s : State) (h : Hello),
    s.haulUp = true →
    s.pair.exchanged = true →
    s.role = 0 →
    (s.boot.memBad ≠ 1) →
    s.pair.alone = false →
    ((s.boot.img.any fun (i : BankImg) => i.ownDigest == h.digest) = true) →
    h.formatOk = true →
    (h.gen = s.gen) →
    (h.role < 8) →
    Completes (.hello h) s (fun t =>
      (t.role = (if s.preferred = true then 1 else 2)) ∧
      (t.isSet F.HAL_PAIR_STAT_PAIRED = true) ∧
      (t.pair.hello = some h) ∧
      (t.pair.peerGen = h.gen) ∧
      (t.gen = s.gen))) ∧
  (∀ (s : State) (h : Hello),
    s.haulUp = true →
    s.pair.exchanged = true →
    s.role = 3 →
    ((s.boot.img.any fun (i : BankImg) => i.ownDigest == h.digest) = true) →
    h.formatOk = true →
    (h.gen < s.gen) →
    s.pair.resync = none →
    Completes (.hello h) s (fun t =>
      (t.pair.resync.any (fun (r : Resync) => r.m0 == s.mseq + 1 && r.left == r.total && r.total == s.resyncCopies.length) = true) ∧
      (t.rd F.HAL_PAIR_STAT_RSYNC_PROG = 0) ∧
      (t.role = 3))) ∧
  (∀ (s : State) (h : Hello),
    s.haulUp = true →
    s.pair.exchanged = true →
    s.role = 5 →
    (h.role = 3 ∨ h.role = 1) →
    (s.gen < h.gen) →
    ((s.boot.img.any fun (i : BankImg) => i.ownDigest == h.digest) = true) →
    Completes (.hello h) s (fun t =>
      (t.role = 4) ∧
      (t.pair.mack = none) ∧
      (t.pair.closed = false) ∧
      (t.pair.copies = []))) ∧
  (∀ (s : State) (h : Hello),
    s.pair.exchanged = false →
    Completes (.hello h) s (fun t =>
      (t = s))) ∧
  (∀ (s : State),
    (s.reloading 7 = false) →
    s.role = 1 →
    s.pair.handover = none →
    (s.stripes.all (fun (z : Stripe) => z.state != .opened) = true) →
    Completes .halHandoverCmd s (fun t =>
      (t = { s with pair := { s.pair with handover := some ⟨1, s.now, false⟩ } }))) ∧
  (∀ (s : State),
    (s.reloading 7 = false) →
    (s.role ≠ 1) →
    Completes .halHandoverCmd s (fun t =>
      (t = s))) ∧
  (∀ (s : State) (x : Handover),
    (s.pair.handover = some x) →
    x.phase = 1 →
    s.drained = true →
    (s.mirrorOut ≠ []) →
    Completes .handoverDrainEnd s (fun t =>
      (t.pair.handover = some { x with phase := 2, since := s.now }) ∧
      (t.role = s.role))) ∧
  (∀ (s : State) (x : Handover),
    (s.pair.handover = some x) →
    x.phase = 1 →
    x.live = false →
    s.drained = true →
    (s.mirrorOut = []) →
    Completes .handoverDrainEnd s (fun t =>
      (t.pair.handover = none) ∧
      (t.role = 2) ∧
      (t.gen = (s.gen + 1) % 2 ^ 64) ∧
      (t.out.contains (.handoverItem s.mseq) = true) ∧
      (t.rd F.HAL_PAIR_STAT_PEER_ROLE = 1))) ∧
  (∀ (s : State) (mseq : Nat),
    s.role = 2 →
    (mseq ≤ s.pair.mack.getD 0) →
    (s.cmds = []) →
    (s.conns = []) →
    Completes (.handoverItem mseq) s (fun t =>
      (t.role = 1) ∧
      (t.gen = (s.gen + 1) % 2 ^ 64) ∧
      (t.rd F.HAL_PAIR_STAT_PEER_ROLE = 2) ∧
      (t.isSet F.HAL_PAIR_STAT_PAIRED = true))) ∧
  (∀ (s : State) (mseq : Nat),
    s.role = 2 →
    (s.pair.mack.getD 0 < mseq) →
    Completes (.handoverItem mseq) s (fun t =>
      (t = s))) ∧
  (∀ (s : State) (x : Handover),
    (s.pair.handover = some x) →
    x.phase = 1 →
    x.live = false →
    (s.due (x.since + msU 10) = true) →
    (s.cmds = []) →
    ((s.benchAt 7).state ≠ .off) →
    Completes .handoverTimeout s (fun t =>
      (t.pair.handover = none) ∧
      (t.role = s.role) ∧
      (hasBit (t.rd (F.BENCH_EV_STAT 7)) 7 = true))) ∧
  (∀ (s : State) (bench : Nat),
    s.role = 1 →
    Completes (.holdMessage bench) s (fun t =>
      (t.pair.hold = some (bench, s.now)) ∧
      (t.isSet F.CTL_LIVE_STAT_HOLD = true) ∧
      (t.out.head? = some (.holdAck bench)))) ∧
  (∀ (s : State) (bench : Nat),
    (s.role ≠ 1) →
    Completes (.holdMessage bench) s (fun t =>
      (t = s))) ∧
  (∀ (s : State) (b : Nat) (x : Nat),
    (s.pair.hold = some (b, x)) →
    (s.due (x + usU 250) = true) →
    Completes .holdTimeout s (fun t =>
      (t.pair.hold = none) ∧
      (t.isSet F.CTL_LIVE_STAT_HOLD = false) ∧
      (t.halfUp 0 = s.halfUp 0) ∧
      (t.halfUp 1 = s.halfUp 1))) ∧
  (∀ (s : State),
    s.role = 1 →
    (s.cmds = []) →
    (s.mirrorOut = []) →
    (s.lines = []) →
    s.phase = 0 →
    Completes .retireMessage s (fun t =>
      (t.role = 3) ∧
      (t.isSet F.HAL_PAIR_STAT_FENCING = s.isSet F.HAL_PAIR_STAT_FENCING) ∧
      (t.rd F.HAL_PAIR_STAT_PEER_ROLE = 7) ∧
      (t.gen = (s.gen + 1) % 2 ^ 64)))

/-- Mirror items, acknowledgments and resynchronisation copies -/
def Obligations.Mirror : Prop :=
  (∀ (s : State) (mseq : Nat) (x : Window) (m : Nat),
    s.role = 2 →
    s.pair.closed = false →
    (s.pair.mack = some m) →
    (mseq = m + 1) →
    (s.pair.early = []) →
    (s.pair.copies = []) →
    Completes (.mirrorItem mseq (.window x)) s (fun t =>
      (t.windows = x :: s.windows.filter fun (z : Window) => z.index != x.index) ∧
      (t.pair.mack = some mseq) ∧
      (t.pair.early = []) ∧
      (t.out.head? = some (.mack mseq)) ∧
      (t.rd F.HAL_MIRROR_ITEMS = (s.rd F.HAL_MIRROR_ITEMS + 1) % 2 ^ 32))) ∧
  (∀ (s : State) (mseq : Nat) (x : Ident) (m : Nat),
    s.role = 2 →
    s.pair.closed = false →
    (s.pair.mack = some m) →
    (mseq = m + 1) →
    (s.pair.early = []) →
    (s.pair.copies = []) →
    Completes (.mirrorItem mseq (.ident x)) s (fun t =>
      (t.idents = s.idents.filter (fun (z : Ident) => z.index != x.index) ++ [x]) ∧
      (t.pair.mack = some mseq) ∧
      (t.out.head? = some (.mack mseq)))) ∧
  (∀ (s : State) (mseq : Nat) (body : MirrorBody) (m : Nat),
    s.role = 2 →
    s.pair.closed = false →
    (s.pair.mack = some m) →
    (mseq ≤ m) →
    (s.pair.early = []) →
    Completes (.mirrorItem mseq body) s (fun t =>
      (t.pair.mack = some m) ∧
      (t.out.head? = some (.mack m)) ∧
      (t.windows = s.windows) ∧
      (t.conns = s.conns) ∧
      (t.cmds = s.cmds))) ∧
  (∀ (s : State) (mseq : Nat) (body : MirrorBody),
    (s.role ≠ 2) →
    (s.role ≠ 4) →
    Completes (.mirrorItem mseq body) s (fun t =>
      (t = s))) ∧
  (∀ (s : State) (mseq : Nat),
    s.pair.handover = none →
    s.pair.resync = none →
    (s.mirrorOut.all (fun (i : MirrorItem) => i.what matches .note) = true) →
    Completes (.mirrorMack mseq) s (fun t =>
      (t.mirrorOut = s.mirrorOut.filter fun (i : MirrorItem) => mseq < i.seq) ∧
      (t.mseq = s.mseq) ∧
      (t.conns = s.conns))) ∧
  (∀ (s : State) (tag : Nat) (x : Window),
    s.role = 4 →
    (s.pair.copies = []) →
    Completes (.resyncCopy tag (.window x)) s (fun t =>
      (t.windows = x :: s.windows.filter fun (z : Window) => z.index != x.index) ∧
      (t.pair.copies = [((7, x.index), tag)]))) ∧
  (∀ (s : State) (tag : Nat) (body : MirrorBody),
    s.role = 4 →
    (body.part (fun (k : Nat × Nat) => k.1 == 5 || s.freshAt tag (fun q c => q < c) k) = none) →
    Completes (.resyncCopy tag body) s (fun t =>
      ({ t with pair := s.pair } = s)))

/-- The result of a token depends on its signature, which is a free value of its contents; the clauses hold for every result. -/
def Obligations.Tokens : Prop :=
  (∀ (s : State) (b : BankImg),
    s.truRuns = true →
    (s.boot.img = some b) →
    (s.stepDone 15 = true) →
    (s.boot.bank = s.flash.preferred) →
    s.phase = 0 →
    (s.rd F.CTL_BOOT_STAT_OWNER ≠ 2) →
    ((s.benchAt 1).state ≠ .off) →
    Completes .truSvnCommit s (fun t =>
      (t.fuses = { s.fuses with fwSvn := max s.fuses.fwSvn (min 64 b.fwSvn), ownSvn := max s.fuses.ownSvn (min 64 b.ownSvn) }) ∧
      (hasBit (t.rd (F.BENCH_EV_STAT 1)) 6 = true) ∧
      (t.isSet F.TRU_STAT_CMD_REFUSED = s.isSet F.TRU_STAT_CMD_REFUSED))) ∧
  (∀ (s : State),
    s.truRuns = true →
    (s.boot.img = none ∨ s.stepDone 15 = false ∨ s.boot.bank ≠ s.flash.preferred ∨ s.phase ≠ 0 ∨ s.rd F.CTL_BOOT_STAT_OWNER = 2) →
    Completes .truSvnCommit s (fun t =>
      (t = s.wr F.TRU_STAT_CMD_REFUSED 1) ∧
      (t.fuses = s.fuses))) ∧
  (∀ (s : State) (area : Nat) (r : Nat),
    s.truRuns = true →
    (s.tokenResult (spliceAt area 4 1 1) = r) →
    Completes (.tokenRevoke area) s (fun t =>
      (t.rd F.TRU_TOKEN_CMD_RESULT = r) ∧
      (t.fuses = (if r = 0 then { s.fuses with frevoke := s.fuses.frevoke ||| 2 ^ bytesAt (spliceAt area 4 1 1) 5 1 } else s.fuses)) ∧
      (t.tru.nonce = none) ∧
      (t.rd F.TRU_STAT_DEBUG = s.rd F.TRU_STAT_DEBUG))) ∧
  (∀ (s : State) (area : Nat) (r : Nat),
    s.truRuns = true →
    (s.tokenResult (spliceAt area 4 1 2) = r) →
    Completes (.tokenDebugUnlock area) s (fun t =>
      (t.rd F.TRU_TOKEN_CMD_RESULT = r) ∧
      (t.fuses = s.fuses) ∧
      (t.rd F.TRU_STAT_DEBUG = (if r = 0 ∧ bytesAt (spliceAt area 4 1 2) 5 1 = 1 then max 1 (s.rd F.TRU_STAT_DEBUG) else if r = 0 ∧ s.tru.level2 = true then max 2 (s.rd F.TRU_STAT_DEBUG) else s.rd F.TRU_STAT_DEBUG)) ∧
      (t.tru.level2 = decide (r = 0 ∧ bytesAt (spliceAt area 4 1 2) 5 1 = 2 ∧ s.tru.level2 = false)))) ∧
  (∀ (s : State) (area : Nat) (r : Nat),
    s.truRuns = true →
    (s.tokenResult (spliceAt area 4 1 3) = r) →
    Completes (.tokenOwnerSeed area) s (fun t =>
      (t.rd F.TRU_TOKEN_CMD_RESULT = r) ∧
      (t.fuses.life = (if r = 0 then s.fuses.life ||| 8 else s.fuses.life)) ∧
      (t.fuses.fwSvn = s.fuses.fwSvn) ∧
      (t.fuses.frevoke = s.fuses.frevoke) ∧
      (t.tru.nonce = none))) ∧
  (∀ (s : State) (area : Nat) (r : Nat),
    s.truRuns = true →
    (s.tokenResult (spliceAt area 4 1 4) = r) →
    Completes (.tokenDebugDisable area) s (fun t =>
      (t.rd F.TRU_TOKEN_CMD_RESULT = r) ∧
      (t.fuses = (if r = 0 then { s.fuses with life := s.fuses.life ||| bytesAt (spliceAt area 4 1 4) 5 1 } else s.fuses)) ∧
      (t.tru.nonce = none))) ∧
  (∀ (s : State) (n : Nat),
    (s.tru.nonce = some n) →
    Completes .truNonceRead s (fun t =>
      (t = { s with out := .value (n % 2 ^ 32) :: s.out }))) ∧
  (∀ (s : State),
    s.tru.nonce = none →
    s.truRuns = true →
    Completes .truNonceRead s (fun t =>
      (t.tru.nonce.isSome = true) ∧
      (t.freeCount = s.freeCount + 1) ∧
      (t.out.length = s.out.length + 1) ∧
      (t.regs = s.regs)))

/-- Tamper, thermal and TRNG events and the JTAG port -/
def Obligations.TamperAndHolds : Prop :=
  (∀ (s : State) (cause : Nat),
    (1 ≤ cause) →
    (cause ≤ 5) →
    s.boot.held = none →
    s.faultDeclared = true →
    Completes (.tamperTrip cause) s (fun t =>
      (t.boot.held = some 4) ∧
      (t.tru.ksr = false) ∧
      (t.tru.kcw = none) ∧
      (t.tru.memKey = none) ∧
      (t.tru.ak = none) ∧
      (t.rd F.TRU_STAT_TAMPER_CAUSE = cause) ∧
      (t.rd F.TRU_STAT_TAMPER_CNT = min 3 (s.rd F.TRU_STAT_TAMPER_CNT + 1)) ∧
      (t.rd F.TRU_STAT_STOP = 4) ∧
      (t.fuses = s.fuses))) ∧
  (∀ (s : State),
    s.boot.held = none →
    (s.stepDone 1 = true) →
    (s.stepDone 3 = true) →
    ((s.benchAt 1).state ≠ .off) →
    Completes .trngHealthFail s (fun t =>
      (t.rd F.TRU_STAT_STOP = 3) ∧
      (hasBit (t.rd (F.BENCH_EV_STAT 1)) 5 = true) ∧
      (t.boot.stopped = s.boot.stopped) ∧
      (t.faultDeclared = true))) ∧
  (∀ (s : State),
    s.boot.held = none →
    (s.stepDone 1 = true) →
    (s.stepDone 3 = false) →
    Completes .trngHealthFail s (fun t =>
      (t.rd F.TRU_STAT_STOP = 3) ∧
      (t.boot.stopped = true) ∧
      (t.faultDeclared = s.faultDeclared))) ∧
  (∀ (s : State),
    s.faultDeclared = true →
    Completes .thermtrip s (fun t =>
      (t.boot.held = some 5) ∧
      (t.tru.trip = true) ∧
      (t.conns = []) ∧
      (t.fuses = s.fuses))) ∧
  (∀ (s : State),
    s.boot.held = none →
    Completes (.jtagInstructionLoad .extest) s (fun t =>
      (t.boot.held = some 1) ∧
      (t.tru.jtag = true) ∧
      (t.conns = []) ∧
      (t.fuses = s.fuses))) ∧
  (∀ (s : State),
    s.boot.held = none →
    Completes (.jtagInstructionLoad .intest) s (fun t =>
      (t.boot.held = some 1) ∧
      (t.tru.jtag = true))) ∧
  (∀ (s : State) (ins : JtagIns),
    (ins ≠ .extest) →
    (ins ≠ .intest) →
    Completes (.jtagInstructionLoad ins) s (fun t =>
      (t = { s with tru := { s.tru with jtag := false } })))

/-- The pairing exchange and SPDM -/
def Obligations.Attestation : Prop :=
  (∀ (s : State) (m : PairMsg),
    (s.rd F.TRU_STAT_STEP = 8) →
    (m.slotB = s.rd F.CTL_BOOT_STAT_SLOT_B) →
    ((s.benchAt 1).state ≠ .off) →
    Completes (.pairingMessage m) s (fun t =>
      (t.role = 5) ∧
      (t.isSet F.HAL_PAIR_STAT_PAIRED = false) ∧
      (hasBit (t.rd (F.BENCH_EV_STAT 1)) 10 = true) ∧
      (t.pair = s.pair))) ∧
  (∀ (s : State) (m : PairMsg),
    (s.rd F.TRU_STAT_STEP = 8) →
    (m.slotB ≠ s.rd F.CTL_BOOT_STAT_SLOT_B) →
    m.certsOk = true →
    (m.ownerKey = s.fuses.ownerKey) →
    s.haulHalf = none →
    Completes (.pairingMessage m) s (fun t =>
      (t.pair.exchanged = true) ∧
      (t.tru.pairNonce = none) ∧
      (t.tru.ksr = (s.tru.ksr || (m.ksr && !s.tru.blocked))))) ∧
  (∀ (s : State) (m : PairMsg),
    (s.rd F.TRU_STAT_STEP ≠ 8) →
    Completes (.pairingMessage m) s (fun t =>
      (t = s))) ∧
  (∀ (s : State) (path : Nat),
    (spdmTakes s path 0 = true) →
    Completes (.spdmGetVersion path) s (fun t =>
      (t.out = .spdm path 0x04 [0x12] :: s.out) ∧
      (t.spdmAt path = 1) ∧
      (t.regs = s.regs))) ∧
  (∀ (s : State) (path : Nat),
    (s.pathUp path = true) →
    (s.eid path ≠ 0) →
    (s.isSet (F.CTL_MGT_PATH_SPDM path) = true) →
    (s.rd F.TRU_STAT_STEP ≠ 8) →
    Completes (.spdmGetVersion path) s (fun t =>
      (t = { s with out := .spdm path 0x7F [0x42] :: s.out }))) ∧
  (∀ (s : State) (path : Nat),
    (spdmTakes s path 1 = true) →
    Completes (.spdmGetCapabilities path) s (fun t =>
      (t.out = .spdm path 0x61 [0x36] :: s.out) ∧
      (t.spdmAt path = 2))) ∧
  (∀ (s : State) (path : Nat) (offered : Bool),
    (spdmTakes s path 2 = true) →
    offered = true →
    Completes (.spdmNegotiateAlgorithms path offered) s (fun t =>
      (t.out = .spdm path 0x63 [0x40, 4, 8, 1] :: s.out) ∧
      (t.spdmAt path = 3))) ∧
  (∀ (s : State) (path : Nat),
    (spdmTakes s path 3 = true) →
    (s.isSet F.TRU_STAT_DIK_OK = false) →
    Completes (.spdmGetDigests path) s (fun t =>
      (t = { s with out := .spdm path 0x01 [0] :: s.out }))) ∧
  (∀ (s : State) (path : Nat),
    (spdmTakes s path 3 = true) →
    (s.isSet F.TRU_STAT_DIK_OK = true) →
    Completes (.spdmGetDigests path) s (fun t =>
      (t.out.length = s.out.length + 1) ∧
      (t.out.tail = s.out) ∧
      (s.certChain.any (fun (z : Nat × Nat) => t == { s with out := .spdm path 0x01 [1, Config.keyed .digest [z.2]] :: s.out }) = true))) ∧
  (∀ (s : State) (path : Nat) (slot : Nat) (ofs : Nat) (len : Nat),
    (spdmTakes s path 3 = true) →
    (s.isSet F.TRU_STAT_DIK_OK = false) →
    Completes (.spdmGetCertificate path slot ofs len) s (fun t =>
      (t = { s with out := .spdm path 0x7F [1] :: s.out }))) ∧
  (∀ (s : State) (path : Nat) (slot : Nat) (ofs : Nat) (len : Nat),
    (spdmTakes s path 3 = true) →
    (s.isSet F.TRU_STAT_DIK_OK = true) →
    Completes (.spdmGetCertificate path slot ofs len) s (fun t =>
      (t.out.tail = s.out) ∧
      (s.certChain.any (fun (z : Nat × Nat) => t == { s with out := (if slot ≠ 0 ∨ z.1 ≤ ofs then .spdm path 0x7F [1] else .spdm path 0x02 [min len (z.1 - ofs), z.1 - ofs - min len (z.1 - ofs), bytesAt z.2 ofs (min len (z.1 - ofs))]) :: s.out }) = true))) ∧
  (∀ (s : State) (path : Nat) (slot : Nat) (nonce : Nat),
    (spdmTakes s path 3 = true) →
    (s.isSet F.TRU_STAT_DIK_OK = true) →
    slot = 0 →
    (s.tru.sigs = []) →
    Completes (.spdmChallenge path slot nonce) s (fun t =>
      (t.tru.sigs = [s.now + msU 45]) ∧
      (t.out.tail = s.out) ∧
      (t.regs = s.regs))) ∧
  (∀ (s : State) (path : Nat) (nonce : Nat),
    (spdmTakes s path 3 = true) →
    Completes (.spdmGetMeasurements path 0 nonce false) s (fun t =>
      (t = { s with out := .spdm path 0x60 [s.measurements.length] :: s.out }))) ∧
  (∀ (s : State) (path : Nat) (nonce : Nat) (b : BankImg),
    (spdmTakes s path 3 = true) →
    (s.boot.img = some b) →
    Completes (.spdmGetMeasurements path 6 nonce false) s (fun t =>
      (t = { s with out := .spdm path 0x60 [6, b.fwSvn + 65536 * b.ownSvn + 2 ^ 32 * s.fuses.fwSvn + 2 ^ 48 * s.fuses.ownSvn] :: s.out }))) ∧
  (∀ (s : State) (path : Nat) (index : Nat) (nonce : Nat),
    (spdmTakes s path 3 = true) →
    ((s.measurement index).isSome = true) →
    (index ≠ 0) →
    (index ≠ 255) →
    (s.tru.sigs = [s.now + msU 45]) →
    Completes (.spdmGetMeasurements path index nonce true) s (fun t =>
      (t.tru.sigs = [s.now + msU 45, s.now + msU 90]) ∧
      (t.out.tail = s.out)))

/-- Management requests on registers, events, identities and QoS -/
def Obligations.VendorRequests : Prop :=
  (∀ (s : State) (path : Nat) (r : VendorReq),
    (mgtTakes s path 1 r = true) →
    (reqField r.body 4 1 = 1) →
    Completes (.mgtRegRead path r) s (fun t =>
      (t = (s.regRead path (reqField r.body 0 4)).1.send (.vendor path r.eid r.tag 0x81 0 0 (beBytes (s.regRead path (reqField r.body 0 4)).2 4))))) ∧
  (∀ (s : State) (path : Nat) (r : VendorReq),
    s.truOnly = false →
    (2 ≤ path ∨ r.pec = true) →
    (r.body.length ≤ 1016) →
    (s.mctpOpen path = true) →
    (s.unanswered path < 4) →
    r.zero = true →
    r.unit = 255 →
    (bodyCode 1 r.body = 0) →
    (s.permits path 0 = false) →
    Completes (.mgtRegRead path r) s (fun t =>
      (t = { s with out := .vendor path r.eid r.tag 0x81 4 0 [] :: s.out }))) ∧
  (∀ (s : State) (path : Nat) (r : VendorReq),
    s.truOnly = false →
    (2 ≤ path ∨ r.pec = true) →
    (r.body.length ≤ 1016) →
    (s.mctpOpen path = true) →
    (4 ≤ s.unanswered path) →
    Completes (.mgtRegRead path r) s (fun t =>
      (t = { s with out := .vendor path r.eid r.tag 0x81 0x0C 0 [] :: s.out }))) ∧
  (∀ (s : State) (path : Nat) (r : VendorReq),
    (mgtTakes s path 2 r = true) →
    (reqField r.body 4 1 = 1) →
    Completes (.mgtRegWrite path r) s (fun t =>
      (t = (s.regWrite (reqField r.body 0 4) (reqField r.body 8 4) 0xFFFFFFFF).1.send (.vendor path r.eid r.tag 0x82 (s.regWrite (reqField r.body 0 4) (reqField r.body 8 4) 0xFFFFFFFF).2 0 [])))) ∧
  (∀ (s : State) (path : Nat) (r : VendorReq),
    (mgtTakes s path 3 r = true) →
    Completes (.mgtRegModify path r) s (fun t =>
      (t = ((s.regRead path (reqField r.body 0 4)).1.regWrite (reqField r.body 0 4) (reqField r.body 8 4) (reqField r.body 4 4)).1.send (.vendor path r.eid r.tag 0x83 ((s.regRead path (reqField r.body 0 4)).1.regWrite (reqField r.body 0 4) (reqField r.body 8 4) (reqField r.body 4 4)).2 0 (beBytes (s.regRead path (reqField r.body 0 4)).2 4))))) ∧
  (∀ (s : State) (path : Nat) (r : VendorReq),
    (mgtTakes s path 16 r = true) →
    (reqField r.body 1 1 = 1) →
    (s.subs.length < 4) →
    (s.subs.any (fun (z : Subscriber) => z.is path r.eid) = false) →
    Completes (.mgtEvSubscribe path r) s (fun t =>
      (t.subs = s.subs ++ [⟨path, r.eid, reqField r.body 0 1, [], 0, none, 0, none⟩]) ∧
      (t.out = .vendor path r.eid r.tag 0x90 0 0 [] :: s.out) ∧
      (t.regs = s.regs))) ∧
  (∀ (s : State) (path : Nat) (r : VendorReq),
    (mgtTakes s path 16 r = true) →
    (reqField r.body 1 1 = 0) →
    Completes (.mgtEvSubscribe path r) s (fun t =>
      (t = { s with subs := s.subs.filter (fun (z : Subscriber) => !z.is path r.eid), out := .vendor path r.eid r.tag 0x90 0 0 [] :: s.out }))) ∧
  (∀ (s : State) (path : Nat) (r : VendorReq),
    (mgtTakes s path 18 r = true) →
    Completes (.mgtLogRead path r) s (fun t =>
      (t = { s with out := .vendor path r.eid r.tag 0x92 0 0 (s.logBody (reqField r.body 0 8) (reqField r.body 8 1)) :: s.out }))) ∧
  (∀ (s : State) (path : Nat) (r : VendorReq) (unwraps : Bool),
    (mgtTakes s path 32 r = true) →
    s.isActive = true →
    s.paired = false →
    s.pair.resync = none →
    (s.stepDone 14 = true) →
    (s.identRefusal (beNat (r.body.take 2)) (leNat (r.body.drop 4)) unwraps = none) →
    Completes (.mgtIdentSet path r unwraps) s (fun t =>
      ((t.idents.find? fun (z : Ident) => z.index == beNat (r.body.take 2)).any (fun (z : Ident) => z.nqn == bytesAt (leNat (r.body.drop 4)) 0 223 && z.tenant == bytesAt (leNat (r.body.drop 4)) 239 4) = true) ∧
      (t.out.head? = some (.vendor path r.eid r.tag 0xA0 0 0 [])))) ∧
  (∀ (s : State) (path : Nat) (r : VendorReq) (unwraps : Bool) (x : Nat),
    (mgtTakes s path 32 r = true) →
    s.isActive = true →
    (s.stepDone 14 = true) →
    (s.identRefusal (beNat (r.body.take 2)) (leNat (r.body.drop 4)) unwraps = some x) →
    Completes (.mgtIdentSet path r unwraps) s (fun t =>
      (t = { s with out := .vendor path r.eid r.tag 0xA0 0x0B x [] :: s.out }))) ∧
  (∀ (s : State) (path : Nat) (r : VendorReq),
    (mgtTakes s path 33 r = true) →
    s.isActive = true →
    s.paired = false →
    s.pair.resync = none →
    (s.stepDone 14 = true) →
    (beNat (r.body.take 2) ≤ 16383) →
    (s.idents.any (fun (z : Ident) => z.index == beNat (r.body.take 2)) = true) →
    (s.ctrls = []) →
    (s.nss = []) →
    (s.windows = []) →
    Completes (.mgtIdentDereg path r) s (fun t =>
      (t.idents = s.idents.filter fun (z : Ident) => z.index != beNat (r.body.take 2)) ∧
      (t.out.head? = some (.vendor path r.eid r.tag 0xA1 0 0 [])))) ∧
  (∀ (s : State) (path : Nat) (r : VendorReq),
    (mgtTakes s path 34 r = true) →
    s.isActive = true →
    (s.stepDone 14 = true) →
    (beNat (r.body.take 2) ≤ 16383) →
    Completes (.mgtIdentGet path r) s (fun t =>
      (t = { s with out := .vendor path r.eid r.tag 0xA2 0 0 (toBytes (((s.idents.find? fun (z : Ident) => z.index == beNat (r.body.take 2)).map identBytes).getD 0) 512) :: s.out }))) ∧
  (∀ (s : State) (path : Nat) (r : VendorReq),
    (mgtTakes s path 40 r = true) →
    (r.body.getD 0 0 = 0) →
    s.isActive = true →
    s.paired = false →
    s.pair.resync = none →
    (s.qosRefusal true 0 (beNat ((r.body.drop 4).take 4)) (leNat (r.body.drop 8)) = none) →
    Completes (.mgtQosSet path r) s (fun t =>
      ((t.ns? (beNat ((r.body.drop 4).take 4))).any (fun (z : Namespace) => z.profile == parseProfile (leNat (r.body.drop 8))) = true) ∧
      (t.out.head? = some (.vendor path r.eid r.tag 0xA8 0 0 [])))) ∧
  (∀ (s : State) (path : Nat) (r : VendorReq),
    (mgtTakes s path 41 r = true) →
    s.isActive = true →
    (s.qosRefusal false (r.body.getD 0 0) (beNat ((r.body.drop 4).take 4)) 0 = none) →
    Completes (.mgtQosGet path r) s (fun t =>
      (t = { s with out := .vendor path r.eid r.tag 0xA9 0 0 (toBytes (s.qosGet (r.body.getD 0 0) (beNat ((r.body.drop 4).take 4))) 64) :: s.out }))) ∧
  (∀ (s : State) (path : Nat) (eid : Nat) (x : Subscriber),
    (s.subs = [x]) →
    (x.is path eid = true) →
    Completes (.evNotifyResponse path eid) s (fun t =>
      (t = { s with subs := [{ x with sentAt := none, missed := 0 }] }))) ∧
  (∀ (s : State) (path : Nat) (eid : Nat) (x : Subscriber),
    (s.subs = [x]) →
    (x.is path eid = true) →
    x.sentAt = none →
    (x.queue ≠ []) →
    (s.mctpOpen path = true) →
    Completes (.evNotifyTimer path eid) s (fun t =>
      (t = { s with out := .evNotify path eid x.lost (x.queue.take 8) :: s.out, subs := [{ x with queue := x.queue.drop 8, lost := 0, sentAt := some s.now }] }))) ∧
  (∀ (s : State) (path : Nat) (eid : Nat) (x : Subscriber) (y : Nat),
    (s.subs = [x]) →
    (x.is path eid = true) →
    (x.sentAt = some y) →
    (2 ≤ x.missed) →
    (s.due (y + msU 10) = true) →
    ((s.benchAt 0).state ≠ .off) →
    Completes (.evNotifyTimer path eid) s (fun t =>
      (t.subs = []) ∧
      (t.out = s.out) ∧
      (hasBit (t.rd (F.BENCH_EV_STAT 0)) 10 = true))) ∧
  (∀ (s : State) (tag : Nat) (x : Relay),
    (s.mgt.relays = [x]) →
    x.tag = tag →
    (s.due (x.sentAt + msU 20) = true) →
    Completes (.relayTimeout tag) s (fun t =>
      (t = { s with mgt := { s.mgt with relays := [] }, out := .vendor x.path x.eid x.reqTag (x.command + 0x80) 9 0 [] :: s.out }))) ∧
  (∀ (s : State) (tag : Nat),
    (s.mgt.relays = []) →
    Completes (.relayTimeout tag) s (fun t =>
      (t = s)))

/-- MCTP control, NVMe-MI and SMBus -/
def Obligations.Mctp : Prop :=
  (∀ (s : State) (path : Nat) (op : Nat) (eid : Nat),
    (s.pathUp path = true) →
    (path < s.mgt.eids.length) →
    (op ≤ 1) →
    (0 < eid) →
    (eid < 255) →
    Completes (.mctpSetEndpointId path op eid) s (fun t =>
      (t.eid path = eid) ∧
      (t.out.head? = some (.mctp path 1 0 [0, eid, 0])))) ∧
  (∀ (s : State) (path : Nat) (op : Nat) (eid : Nat),
    (s.pathUp path = true) →
    (op ≤ 1) →
    (eid = 0 ∨ eid = 255) →
    Completes (.mctpSetEndpointId path op eid) s (fun t =>
      (t = { s with out := .mctp path 1 2 [] :: s.out }))) ∧
  (∀ (s : State) (path : Nat) (op : Nat) (eid : Nat),
    (s.pathUp path = false) →
    Completes (.mctpSetEndpointId path op eid) s (fun t =>
      (t = s))) ∧
  (∀ (s : State) (path : Nat),
    (s.pathUp path = true) →
    (s.rd (F.CTL_MGT_PATH_STATIC_EID path) = 0) →
    Completes (.mctpGetEndpointId path) s (fun t =>
      (t = { s with out := .mctp path 2 0 [s.eid path, 0, 0] :: s.out }))) ∧
  (∀ (s : State) (path : Nat),
    (s.pathUp path = true) →
    Completes (.mctpGetEndpointUuid path) s (fun t =>
      (t.regs = s.regs) ∧
      (t.out.tail = s.out) ∧
      (t.out = .mctp path 3 0 s.uuid :: s.out))) ∧
  (∀ (s : State) (path : Nat) (typ : Nat),
    (s.pathUp path = true) →
    (typ = 0 ∨ typ = 0xFF) →
    Completes (.mctpGetVersionSupport path typ) s (fun t =>
      (t = { s with out := .mctp path 4 0 [1, 0xF1, 0xF3, 0xFF, 0] :: s.out }))) ∧
  (∀ (s : State) (path : Nat),
    (s.pathUp path = true) →
    Completes (.mctpGetMessageTypeSupport path) s (fun t =>
      (t = { s with out := .mctp path 5 0 [3, 0x04, 0x05, 0x7E] :: s.out }))) ∧
  (∀ (s : State) (path : Nat) (selector : Nat),
    (s.pathUp path = true) →
    selector = 0 →
    Completes (.mctpGetVendorSupport path selector) s (fun t =>
      (t = { s with out := .mctp path 6 0 [0xFF, 0, 0x1F, 0x6B, 0, 1] :: s.out }))) ∧
  (∀ (s : State) (port : Nat) (x : Sensors),
    (port < 2) →
    (s.pathUp port = true) →
    (s.isSet (F.CHN_SMB_CFG_EN port) = true) →
    (s.permits port 5 = true) →
    Completes (.nvmeMiBasicManagement port x) s (fun t =>
      (t = { s with out := .nvmeMi port 0 0 [6, 0x83 + 64 * bit (!s.stepDone 15) + s.healthBits, s.smartWarnings x, tempByte x.die, lifeByte x, 0, 0] :: s.out }))) ∧
  (∀ (s : State) (path : Nat) (typ : Nat) (port : Nat) (ctl : Nat),
    (s.mctpOpen path = true) →
    (s.permits path 5 = true) →
    typ = 0 →
    Completes (.nvmeMiReadDataStructure path typ port ctl) s (fun t =>
      (t = { s with out := .nvmeMi path 0 0 [2, 1, 2] :: s.out }))) ∧
  (∀ (s : State) (path : Nat) (typ : Nat) (port : Nat) (ctl : Nat),
    (s.mctpOpen path = true) →
    (s.permits path 5 = true) →
    typ = 2 →
    Completes (.nvmeMiReadDataStructure path typ port ctl) s (fun t =>
      (t = { s with out := .nvmeMi path 0 0 ((s.epControllers ctl).length :: (s.epControllers ctl).map fun (k : Ctrl) => k.index) :: s.out }))) ∧
  (∀ (s : State) (path : Nat) (x : Sensors),
    (s.mctpOpen path = true) →
    (s.permits path 5 = true) →
    Completes (.nvmeMiSubsystemHealthPoll path x) s (fun t =>
      (t.freeCount = s.freeCount + 1) ∧
      (t.out.length = s.out.length + 1) ∧
      (t.regs = s.regs) ∧
      (∃ ccs, t.out = .nvmeMi path 1 0 [s.healthBits, s.smartWarnings x, tempByte x.die, lifeByte x, ccs] :: s.out))) ∧
  (∀ (s : State) (path : Nat) (first : Nat) (x : Sensors),
    (s.mctpOpen path = true) →
    (s.permits path 5 = true) →
    (s.epControllers first = []) →
    Completes (.nvmeMiControllerHealthPoll path first x) s (fun t =>
      (t.freeCount = s.freeCount + 1) ∧
      (t.out = .nvmeMi path 2 0 [0] :: s.out))) ∧
  (∀ (s : State) (path : Nat) (id : Nat) (port : Nat),
    (s.mctpOpen path = true) →
    (s.permits path 5 = true) →
    id = 3 →
    (port < 3) →
    Completes (.nvmeMiConfigurationGet path id port) s (fun t =>
      (t = { s with out := .nvmeMi path 4 0 [64] :: s.out }))) ∧
  (∀ (s : State) (path : Nat) (id : Nat) (port : Nat) (val : Nat),
    (s.mctpOpen path = true) →
    (s.permits path 5 = true) →
    id = 1 →
    (port < 2) →
    (port < s.mgt.freq.length) →
    (1 ≤ val) →
    (val ≤ 3) →
    Completes (.nvmeMiConfigurationSet path id port val) s (fun t =>
      (t.smbFreq port = val) ∧
      (t.out = .nvmeMi path 3 0 [] :: s.out))) ∧
  (∀ (s : State) (path : Nat) (id : Nat) (port : Nat) (val : Nat),
    (s.mctpOpen path = true) →
    (s.permits path 5 = true) →
    id = 3 →
    (val ≠ 64) →
    Completes (.nvmeMiConfigurationSet path id port val) s (fun t =>
      (t = { s with out := .nvmeMi path 3 4 [] :: s.out }))) ∧
  (∀ (s : State) (port : Nat),
    (port < 2) →
    (s.isSet (F.CHN_SMB_CFG_EN port) = true) →
    ((s.benchAt 0).state ≠ .off) →
    Completes (.smbusTimeout port) s (fun t =>
      (t.rd (F.CHN_SMB_TO port) = (s.rd (F.CHN_SMB_TO port) + 1) % 2 ^ 32) ∧
      (hasBit (t.rd (F.BENCH_EV_STAT 0)) 13 = true)))

/-- Register reads and writes on any path -/
def Obligations.RegisterAccess : Prop :=
  (∀ (s : State) (path : Nat) (addr : Nat),
    (s.reloading (addr / 0x100000) = false) →
    (s.permits path 0 = true) →
    (wordAddr addr = true) →
    (s.windowOff (addr / 0x100000) = true) →
    Completes (.halfLatchRead path addr) s (fun t =>
      (t = { s with out := .value (s.regView (addr / 0x100000) (addr % 0x100000)) :: s.out }))) ∧
  (∀ (s : State) (path : Nat) (addr : Nat),
    (s.reloading (addr / 0x100000) = false) →
    (s.permits path 0 = true) →
    addr = 0x201000 →
    (s.windowOff 2 = false) →
    Completes (.halfLatchRead path addr) s (fun t =>
      (t.out = .value (s.now % 2 ^ 32) :: s.out) ∧
      (t.latched path (s.latchKey 2 0x1004) = s.now / 2 ^ 32 % 2 ^ 32) ∧
      (t.regs = s.regs))) ∧
  (∀ (s : State) (path : Nat) (addr : Nat),
    (s.reloading (addr / 0x100000) = false) →
    (s.permits path 0 = true) →
    addr = 0x201004 →
    (s.windowOff 2 = false) →
    Completes (.halfLatchRead path addr) s (fun t =>
      (t = { s with out := .value (s.latched path (s.latchKey 2 0x1004)) :: s.out }))) ∧
  (∀ (s : State) (path : Nat) (addr : Nat),
    (s.permits path 0 = false) →
    Completes (.halfLatchRead path addr) s (fun t =>
      (t = s))) ∧
  (∀ (s : State) (path : Nat) (addr : Nat) (v : Word) (b : Nat),
    (s.reloading (addr / 0x100000) = false) →
    (s.permits path 1 = true) →
    (b < 57) →
    (addr = b * 0x100000 + 0x10) →
    (s.windowOff b = false) →
    Completes (.registerWrite path addr v) s (fun t =>
      (t.rd (F.BENCH_EV_EN b) = v.toNat % 65536) ∧
      (t.bench = s.bench))) ∧
  (∀ (s : State) (path : Nat) (addr : Nat) (v : Word) (b : Nat),
    (s.reloading (addr / 0x100000) = false) →
    (s.permits path 1 = true) →
    (b < 57) →
    (addr = b * 0x100000 + 0x14) →
    (s.windowOff b = false) →
    Completes (.registerWrite path addr v) s (fun t =>
      (t.rd (F.BENCH_EV_STAT b) = s.rd (F.BENCH_EV_STAT b) - (s.rd (F.BENCH_EV_STAT b) &&& v.toNat % 65536)) ∧
      (t.rd (F.BENCH_EV_EN b) = s.rd (F.BENCH_EV_EN b)))) ∧
  (∀ (s : State) (path : Nat) (addr : Nat) (v : Word) (b : Nat),
    (s.reloading (addr / 0x100000) = false) →
    (s.permits path 1 = true) →
    (b < 64) →
    (addr = b * 0x100000 + 0x10) →
    (s.windowOff b = true) →
    Completes (.registerWrite path addr v) s (fun t =>
      (t = s.wr F.CTL_MGT_IGN (s.rd F.CTL_MGT_IGN + 1)))) ∧
  (∀ (s : State) (path : Nat) (addr : Nat) (v : Word),
    (s.reloading (addr / 0x100000) = false) →
    (s.permits path 1 = true) →
    addr = 0x4008 →
    (s.windowOff 0 = false) →
    (s.isSet (F.BENCH_CTL_LOCK 0) = true) →
    (v.toNat % 2 ^ 25 ≠ (s.word 0x4008).toNat % 2 ^ 25) →
    Completes (.registerWrite path addr v) s (fun t =>
      (t.word 0x4008 = s.word 0x4008) ∧
      (t.rd (F.BENCH_LOCK_IGN 0) = (s.rd (F.BENCH_LOCK_IGN 0) + 1) % 2 ^ 32))) ∧
  (∀ (s : State) (path : Nat) (addr : Nat) (v : Word),
    (s.permits path 1 = false) →
    Completes (.registerWrite path addr v) s (fun t =>
      (t = s))) ∧
  (∀ (s : State) (path : Nat) (addr : Nat) (v : Word),
    (s.permits path 1 = true) →
    (wordAddr addr = true) →
    (s.reloading (addr / 0x100000) = true) →
    Completes (.registerWrite path addr v) s (fun t =>
      (t = s.holdAccess (.write addr v.toNat 0xFFFFFFFF)))) ∧
  (∀ (s : State) (path : Nat) (addr : Nat),
    (s.permits path 0 = true) →
    (wordAddr addr = true) →
    (s.reloading (addr / 0x100000) = true) →
    Completes (.halfLatchRead path addr) s (fun t =>
      (t = s.holdAccess (.read path addr)))) ∧
  (∀ (s : State) (bench : Nat),
    (s.reloading bench = false) →
    (bench < 57) →
    (s.windowOff bench = false) →
    Completes (.benchLockSet bench) s (fun t =>
      (t.isSet (F.BENCH_CTL_LOCK bench) = true) ∧
      (t.bench = s.bench) ∧
      (t.tim = s.tim))) ∧
  (∀ (s : State) (addr : Nat) (words : List (Nat × Bool)),
    (s.isSet F.EPT_CFG_BAR2_EN = true) →
    (s.isSet F.EPT_STAT_LINK_UP = true) →
    (s.permits 4 0 = true) →
    (wordAddr addr = true) →
    (s.live.waits = []) →
    (s.reloading (addr / 0x100000) = false) →
    words.length = 1 →
    Completes (.bar2Access false addr words) s (fun t =>
      (t = (s.regRead 4 addr).1.send (.value (s.regRead 4 addr).2)))) ∧
  (∀ (s : State) (addr : Nat) (words : List (Nat × Bool)) (x : Nat),
    (s.isSet F.EPT_CFG_BAR2_EN = true) →
    (s.isSet F.EPT_STAT_LINK_UP = true) →
    (s.permits 4 1 = true) →
    (wordAddr addr = true) →
    (s.live.waits = []) →
    (s.reloading (addr / 0x100000) = false) →
    (words = [(x, false)]) →
    Completes (.bar2Access true addr words) s (fun t =>
      (t = s.ignWrite))) ∧
  (∀ (s : State) (addr : Nat) (words : List (Nat × Bool)) (x : Nat),
    (s.isSet F.EPT_CFG_BAR2_EN = true) →
    (s.isSet F.EPT_STAT_LINK_UP = true) →
    (s.permits 4 1 = true) →
    (wordAddr addr = true) →
    (s.live.waits = []) →
    (s.reloading (addr / 0x100000) = false) →
    (words = [(x, true)]) →
    Completes (.bar2Access true addr words) s (fun t =>
      (t = (s.regWrite addr x 0xFFFFFFFF).1))) ∧
  (∀ (s : State) (write : Bool) (addr : Nat) (words : List (Nat × Bool)),
    (s.isSet F.EPT_CFG_BAR2_EN = false) →
    Completes (.bar2Access write addr words) s (fun t =>
      (t = s)))

/-- Each command of the benches, the time base, shots and the event logs completes, and everything but the pieces of state named for it stays as it was, every register word but those of the named fields included (raising events changes words of its own, Table MGT-1). -/
def Obligations.BenchAndTimeFrames : Prop :=
    (∀ (l : Lane) (taken : Nat) (f : Flit) (s : State), Completes (.flitReceive l taken f) s fun t => { s with
      lanes := t.lanes, chans := t.chans, unacked := t.unacked, rot := t.rot, out := t.out } = t) ∧
    (∀ (l : Lane) (chan : Nat) (seq : Nat) (hdrOk : Bool) (s : State), s.bench.length = 57 → Completes (.flitNak l chan seq hdrOk) s
      fun t => { s with
      regs := t.regs, bench := t.bench, lanes := t.lanes, chans := t.chans, unacked := t.unacked, rot := t.rot, faultDeclared := t.faultDeclared, out := t.out,
      swq := t.swq, live := t.live } = t ∧ WordsKept (fun k => (∃ i, k = (F.BENCH_ERR_CHAN i).key) ∨ k = F.CTL_LIVE_STAT_BENCH.key ∨ k =
      F.CTL_ROT_STAT_BUSY.key ∨ k = F.CTL_ROT_STAT_NOSPARE.key ∨ k = F.CTL_ROT_STAT_ROT_COUNT.key ∨ k = F.SWC_STAT_CELLS_USED.key ∨ (∃
      c, k = 0x2010 + 4 * c) ∨ k = 0x2008) s t) ∧
    (∀ (bench : Nat) (hdrOk : Bool) (s : State), s.bench.length = 57 → Completes (.livenessTimeout bench hdrOk) s fun t => { s with
      regs := t.regs, bench := t.bench, lanes := t.lanes, chans := t.chans, unacked := t.unacked, rot := t.rot, faultDeclared := t.faultDeclared, out := t.out,
      swq := t.swq, live := t.live } = t ∧ WordsKept (fun k => k = F.CTL_LIVE_STAT_BENCH.key ∨ k = F.CTL_ROT_STAT_BUSY.key ∨ k =
      F.CTL_ROT_STAT_NOSPARE.key ∨ k = F.CTL_ROT_STAT_ROT_COUNT.key ∨ k = F.SWC_STAT_CELLS_USED.key ∨ (∃ c, k = 0x2010 + 4 * c) ∨ k =
      0x2008) s t) ∧
    (∀ (bench : Nat) (pass : Bool) (s : State), s.bench.length = 57 → Completes (.selftestComplete bench pass) s fun t => { s with
      regs := t.regs, bench := t.bench, lanes := t.lanes, chans := t.chans, unacked := t.unacked, rot := t.rot, faultDeclared := t.faultDeclared, out := t.out,
      swq := t.swq, live := t.live } = t ∧ WordsKept (fun k => k = F.CTL_LIVE_STAT_BENCH.key ∨ k = F.CTL_ROT_STAT_BUSY.key ∨ k =
      F.CTL_ROT_STAT_NOSPARE.key ∨ k = F.CTL_ROT_STAT_ROT_COUNT.key ∨ k = F.SWC_STAT_CELLS_USED.key ∨ (∃ c, k = 0x2010 + 4 * c) ∨ k =
      0x2008) s t) ∧
    (∀ (bench : Nat) (s : State), s.bench.length = 57 → Completes (.faultedRetestTimer bench) s fun t => { s with
      regs := t.regs, bench := t.bench, faultDeclared := t.faultDeclared, out := t.out } = t ∧ WordsKept (fun _ => False) s t) ∧
    (∀ (cls : Nat) (s : State), Completes (.rotationPeriodExpiry cls) s fun t => { s with
      regs := t.regs, rot := t.rot } = t ∧ WordsKept (fun k => k = F.CTL_ROT_STAT_BUSY.key) s t) ∧
    (∀ (v : Word) (s : State), Completes (.ctlRotNow v) s fun t => { s with
      regs := t.regs, rot := t.rot, live := t.live } = t ∧ WordsKept (fun k => k = F.CTL_ROT_STAT_BUSY.key) s t) ∧
    (∀ (cls : Nat) (s : State), s.bench.length = 57 → Completes (.rotationDrained cls) s fun t => { s with
      regs := t.regs, bench := t.bench, lanes := t.lanes, chans := t.chans, unacked := t.unacked, rot := t.rot, faultDeclared := t.faultDeclared, out := t.out,
      swq := t.swq } = t ∧ WordsKept (fun k => k = F.CTL_ROT_STAT_BUSY.key ∨ k = F.CTL_ROT_STAT_NOSPARE.key ∨ k =
      F.CTL_ROT_STAT_ROT_COUNT.key ∨ k = F.SWC_STAT_CELLS_USED.key ∨ (∃ c, k = 0x2010 + 4 * c) ∨ k = 0x2008) s t) ∧
    (∀ (dev : List (Nat × Int)) (s : State), s.bench.length = 57 → Completes (.timeMarker dev) s fun t => { s with
      regs := t.regs, bench := t.bench, faultDeclared := t.faultDeclared, tim := t.tim, out := t.out } = t ∧ WordsKept (fun _ => False) s t) ∧
    (∀ (src : Nat) (offset : Int) (s : State), s.bench.length = 57 → Completes (.servoUpdate src offset) s fun t => { s with
      regs := t.regs, bench := t.bench, rot := t.rot, faultDeclared := t.faultDeclared, tim := t.tim, out := t.out, freeCount := t.freeCount } = t ∧
      WordsKept (fun k => k = F.TIM_OFFSET.key ∨ k = F.TIM_RATE.key ∨ k = F.TIM_STAT_STATE.key) s t) ∧
    (∀ (s : State), s.bench.length = 57 → Completes .servoUpdateTimeout s fun t => { s with
      regs := t.regs, bench := t.bench, faultDeclared := t.faultDeclared, out := t.out } = t ∧ WordsKept (fun k => k = F.TIM_STAT_STATE.key) s t) ∧
    (∀ (s : State), s.bench.length = 57 → Completes .holdoverExpiry s fun t => { s with
      regs := t.regs, bench := t.bench, faultDeclared := t.faultDeclared, out := t.out } = t ∧ WordsKept (fun k => k = F.TIM_STAT_STATE.key) s t) ∧
    (∀ (s : State), s.bench.length = 57 → Completes .ppsInEdge s fun t => { s with
      regs := t.regs, bench := t.bench, rot := t.rot, faultDeclared := t.faultDeclared, tim := t.tim, out := t.out, freeCount := t.freeCount } = t ∧
      WordsKept (fun k => k = F.TIM_OFFSET.key ∨ k = F.TIM_PPS_CFG_IN_OFS.key ∨ k = F.TIM_RATE.key ∨ k = F.TIM_STAT_STATE.key) s t) ∧
    (∀ (s : State), s.bench.length = 57 → Completes .ppsInMissing s fun t => { s with
      regs := t.regs, bench := t.bench, faultDeclared := t.faultDeclared, tim := t.tim, out := t.out } = t ∧ WordsKept (fun _ => False) s t) ∧
    (∀ (s : State), Completes .ppsOutSecond s fun t => { s with
      tim := t.tim } = t) ∧
    (∀ (s : State), Completes .ppsOutWidthEnd s fun t => { s with
      tim := t.tim } = t) ∧
    (∀ (m : PtpMsg) (s : State), s.bench.length = 57 → Completes (.ptpMessage m) s fun t => { s with
      regs := t.regs, bench := t.bench, rot := t.rot, faultDeclared := t.faultDeclared, tim := t.tim, out := t.out, freeCount := t.freeCount } = t ∧
      WordsKept (fun k => k = F.TIM_OFFSET.key ∨ k = F.TIM_RATE.key ∨ k = F.TIM_STAT_STATE.key ∨ k = F.TIM_UTC_OFS.key) s t) ∧
    (∀ (s : State), s.bench.length = 57 → Completes .shotInEdge s fun t => { s with
      regs := t.regs, bench := t.bench, faultDeclared := t.faultDeclared, tim := t.tim, out := t.out } = t ∧ WordsKept (fun k => k =
      F.TIM_SHOT_STAT_PENDING.key ∨ k = F.TIM_SHOT_STAT_REFUSED.key) s t) ∧
    (∀ (s : State), s.bench.length = 57 → Completes .shotFire s fun t => { s with
      regs := t.regs, bench := t.bench, faultDeclared := t.faultDeclared, tim := t.tim, out := t.out, live := t.live } = t ∧ WordsKept (fun k => k =
      F.TIM_SHOT_STAT_PENDING.key ∨ k = F.TIM_SHOT_STAT_REFUSED.key) s t) ∧
    (∀ (s : State), s.bench.length = 57 → Completes .shotSched s fun t => { s with
      regs := t.regs, bench := t.bench, faultDeclared := t.faultDeclared, tim := t.tim, out := t.out, live := t.live } = t ∧ WordsKept (fun k => k =
      F.TIM_SHOT_STAT_PENDING.key ∨ k = F.TIM_SHOT_STAT_REFUSED.key) s t) ∧
    (∀ (s : State), s.bench.length = 57 → Completes .shotChainIssue s fun t => { s with
      regs := t.regs, bench := t.bench, faultDeclared := t.faultDeclared, tim := t.tim, out := t.out, live := t.live } = t ∧ WordsKept (fun k => k =
      F.CHN_TX_FRM.key ∨ k = F.TIM_SHOT_STAT_PENDING.key ∨ k = F.TIM_SHOT_STAT_REFUSED.key) s t) ∧
    (∀ (s : State), Completes .shotCancel s fun t => { s with
      regs := t.regs, tim := t.tim, live := t.live } = t ∧ WordsKept (fun k => k = F.TIM_SHOT_STAT_PENDING.key) s t) ∧
    (∀ (s : State), Completes .shotRelease s fun t => { s with
      regs := t.regs, live := t.live } = t ∧ WordsKept (fun k => k = F.TIM_SHOT_STAT_HELD.key) s t) ∧
    (∀ (s : State), Completes .shotOutPulseEnd s fun t => { s with
      tim := t.tim } = t) ∧
    (∀ (bench : Nat) (s : State), s.bench.length = 57 → Completes (.eventRecordDelivery bench) s fun t => { s with
      regs := t.regs, bench := t.bench, faultDeclared := t.faultDeclared, tim := t.tim, evlog := t.evlog, out := t.out } = t ∧ WordsKept (fun k => k =
      F.TIM_SHOT_MATCH_ARM.key ∨ k = F.TIM_SHOT_STAT_PENDING.key ∨ k = F.TIM_SHOT_STAT_REFUSED.key) s t) ∧
    (∀ (s : State), s.bench.length = 57 → Completes .eventLogEntry s fun t => { s with
      regs := t.regs, bench := t.bench, faultDeclared := t.faultDeclared, evlog := t.evlog, out := t.out, subs := t.subs } = t ∧ WordsKept (fun k => k =
      F.CTL_EVLOG_DROP.key ∨ k = F.CTL_EVLOG_TOTAL_HI.key ∨ k = F.CTL_EVLOG_TOTAL_LO.key) s t) ∧
    (∀ (s : State), Completes .evlogCopy s fun t => { s with
      evlog := t.evlog } = t)

/-- Each command of the transports, windows and I/O commands completes, and everything but the pieces of state named for it stays as it was, every register word but those of the named fields included (raising events changes words of its own, Table MGT-1). -/
def Obligations.TransportFrames : Prop :=
    (∀ (cid : Nat) (msgId : Nat) (s : State), s.bench.length = 57 → Completes (.reassemblyTimeout cid msgId) s fun t => { s with
      regs := t.regs, bench := t.bench, faultDeclared := t.faultDeclared, out := t.out, conns := t.conns, pends := t.pends } = t ∧ WordsKept (fun k => (∃
      i, k = (F.XPT_REASM_DISCARD i).key) ∨ (∃ i, k = (F.XPT_TX_PKT i).key)) s t) ∧
    (∀ (cid : Nat) (s : State), Completes (.ackDelayExpiry cid) s fun t => { s with
      regs := t.regs, out := t.out, conns := t.conns } = t ∧ WordsKept (fun k => (∃ i, k = (F.XPT_TX_PKT i).key)) s t) ∧
    (∀ (cid : Nat) (path : Nat) (s : State), Completes (.pathProbeTimer cid path) s fun t => { s with
      regs := t.regs, out := t.out, conns := t.conns } = t ∧ WordsKept (fun k => (∃ i, k = (F.XPT_TX_PKT i).key)) s t) ∧
    (∀ (cid : Nat) (s : State), Completes (.creditProbeTimer cid) s fun t => { s with
      regs := t.regs, out := t.out, conns := t.conns } = t ∧ WordsKept (fun k => (∃ i, k = (F.XPT_TX_PKT i).key)) s t) ∧
    (∀ (cid : Nat) (s : State), Completes (.halfOpenTimeout cid) s fun t => { s with
      regs := t.regs, out := t.out, conns := t.conns, freed := t.freed, mirrorOut := t.mirrorOut, mseq := t.mseq, pair := t.pair } = t ∧ WordsKept (fun k =>
      k = F.HAL_TX_FRM.key) s t) ∧
    (∀ (cid : Nat) (s : State), Completes (.errorHoldExpiry cid) s fun t => { s with
      regs := t.regs, out := t.out, conns := t.conns, freed := t.freed, mirrorOut := t.mirrorOut, mseq := t.mseq, pair := t.pair } = t ∧ WordsKept (fun k =>
      k = F.HAL_TX_FRM.key) s t) ∧
    (∀ (cid : Nat) (s : State), s.bench.length = 57 → Completes (.closeRetryExpiry cid) s fun t => { s with
      regs := t.regs, bench := t.bench, faultDeclared := t.faultDeclared, out := t.out, conns := t.conns, freed := t.freed, mirrorOut := t.mirrorOut,
      mseq := t.mseq, pair := t.pair } = t ∧ WordsKept (fun k => k = F.HAL_TX_FRM.key ∨ (∃ i, k = (F.XPT_TX_PKT i).key)) s t) ∧
    (∀ (cid : Nat) (s : State), Completes (.syncDeadline cid) s fun t => { s with
      regs := t.regs, out := t.out, conns := t.conns } = t ∧ WordsKept (fun k => (∃ i, k = (F.XPT_TX_PKT i).key)) s t) ∧
    (∀ (qp : Nat) (s : State), Completes (.roceRnrTimer qp) s fun t => { s with
      regs := t.regs, out := t.out, conns := t.conns } = t ∧ WordsKept (fun k => (∃ i, k = (F.XPT_RETX i).key) ∨ (∃ i, k = (F.XPT_TX_PKT i).key))
      s t) ∧
    (∀ (qp : Nat) (s : State), Completes (.roceRateTimer qp) s fun t => { s with
      regs := t.regs, out := t.out, conns := t.conns } = t ∧ WordsKept (fun k => (∃ i, k = (F.XPT_TX_PKT i).key)) s t) ∧
    (∀ (r : CmReq) (s : State), Completes (.cmReq r) s fun t => { s with
      out := t.out, freeCount := t.freeCount, conns := t.conns } = t) ∧
    (∀ (qp : Nat) (s : State), s.bench.length = 57 → Completes (.cmDrep qp) s fun t => { s with
      regs := t.regs, bench := t.bench, faultDeclared := t.faultDeclared, out := t.out, conns := t.conns, freed := t.freed, mirrorOut := t.mirrorOut,
      mseq := t.mseq, pair := t.pair } = t ∧ WordsKept (fun k => k = F.HAL_TX_FRM.key) s t) ∧
    (∀ (qp : Nat) (s : State), Completes (.cmRej qp) s fun t => { s with
      regs := t.regs, out := t.out, conns := t.conns, freed := t.freed, mirrorOut := t.mirrorOut, mseq := t.mseq, pair := t.pair } = t ∧ WordsKept (fun k =>
      k = F.HAL_TX_FRM.key) s t) ∧
    (∀ (op : Nat) (s : State), Completes (.windowCommitDone op) s fun t => { s with
      regs := t.regs, out := t.out, conns := t.conns, winops := t.winops, mirrorOut := t.mirrorOut, mseq := t.mseq, pair := t.pair } = t ∧ WordsKept (fun k
      => k = F.HAL_TX_FRM.key ∨ (∃ i, k = (F.XPT_TX_PKT i).key)) s t) ∧
    (∀ (s : State), s.bench.length = 57 → Completes .cacheSetEn s fun t => { s with
      regs := t.regs, bench := t.bench, faultDeclared := t.faultDeclared, out := t.out, mirrorOut := t.mirrorOut, mseq := t.mseq, pair := t.pair, live := t.live
      } = t ∧ WordsKept (fun k => k = F.HAL_TX_FRM.key ∨ k = F.MEM_CACHE_CTL_EN.key ∨ k = F.MEM_CACHE_CTL_EN_REFUSED.key) s t) ∧
    (∀ (s : State), s.bench.length = 57 → Completes .cacheDisableComplete s fun t => { s with
      regs := t.regs, bench := t.bench, faultDeclared := t.faultDeclared, out := t.out, lines := t.lines, sectors := t.sectors, mirrorOut := t.mirrorOut,
      mseq := t.mseq, pair := t.pair } = t ∧ WordsKept (fun k => k = F.HAL_TX_FRM.key ∨ k = F.MEM_CACHE_CTL_DIS_PENDING.key ∨ k =
      F.MEM_CACHE_CTL_EN.key ∨ k = F.MEM_CACHE_STAT_AT_LIMIT.key ∨ k = F.MEM_CACHE_STAT_DIRTY_PCT.key ∨ k =
      F.MEM_CACHE_STAT_PEND_PCT.key) s t) ∧
    (∀ (r : Nat) (s : State), s.bench.length = 57 → Completes (.memRegionReady r) s fun t => { s with
      regs := t.regs, bench := t.bench, faultDeclared := t.faultDeclared, evlog := t.evlog, out := t.out, subs := t.subs } = t ∧ WordsKept (fun k => k =
      F.CTL_EVLOG_TOTAL_HI.key ∨ k = F.CTL_EVLOG_TOTAL_LO.key ∨ k = F.MEM_STAT_READY.key) s t) ∧
    (∀ (channel : Nat) (celsius : Nat) (s : State), s.bench.length = 57 → Completes (.dimmTempChange channel celsius) s fun t => { s with
      regs := t.regs, bench := t.bench, faultDeclared := t.faultDeclared, out := t.out } = t ∧ WordsKept (fun k => (∃ i, k = (F.MEM_CHSTAT_HOT
      i).key) ∨ (∃ i, k = (F.MEM_CHSTAT_TEMP i).key) ∨ (∃ i, k = (F.MEM_CHSTAT_THROTTLED i).key)) s t) ∧
    (∀ (id : Nat) (s : State), s.bench.length = 57 → Completes (.memberWaitNotice id) s fun t => { s with
      regs := t.regs, bench := t.bench, faultDeclared := t.faultDeclared, out := t.out, cmds := t.cmds } = t ∧ WordsKept (fun _ => False) s t)

/-- Each command of hosts, scheduling, storage work, members, drive ports and the cipher completes, and everything but the pieces of state named for it stays as it was, every register word but those of the named fields included (raising events changes words of its own, Table MGT-1). -/
def Obligations.StorageFrames : Prop :=
    (∀ (cid : Nat) (v : NvmeCmd) (s : State), Completes (.fabricsConnect cid v) s fun t => { s with
      regs := t.regs, out := t.out, conns := t.conns, ctrls := t.ctrls, mirrorOut := t.mirrorOut, mseq := t.mseq, pair := t.pair } = t ∧ WordsKept (fun k =>
      (∃ i, k = (F.CMD_DONE i).key) ∨ (∃ i, k = (F.CMD_RX i).key) ∨ k = F.HAL_TX_FRM.key ∨ (∃ i, k = (F.XPT_TX_PKT i).key)) s t) ∧
    (∀ (ident : Nat) (s : State), Completes (.authLockoutExpiry ident) s fun t => { s with
      idents := t.idents } = t) ∧
    (∀ (ctl : Nat) (s : State), s.bench.length = 57 → Completes (.shutdownComplete ctl) s fun t => { s with
      regs := t.regs, bench := t.bench, faultDeclared := t.faultDeclared, out := t.out, ctrls := t.ctrls } = t ∧ WordsKept (fun _ => False) s t) ∧
    (∀ (nsid : Nat) (region : Nat) (s : State), Completes (.regionZeroFill nsid region) s fun t => { s with
      nss := t.nss, taskGrants := t.taskGrants, fixblks := t.fixblks } = t) ∧
    (∀ (s : State), Completes .meterSaveTimer s fun t => { s with
      msaved := t.msaved, tsaved := t.tsaved, msaveAt := t.msaveAt } = t) ∧
    (∀ (group : Nat) (stripe : Nat) (s : State), s.bench.length = 57 → Completes (.sealTimeExpiry group stripe) s fun t => { s with
      regs := t.regs, bench := t.bench, faultDeclared := t.faultDeclared, out := t.out, groups := t.groups, stripes := t.stripes,
      entryNotice := t.entryNotice } = t ∧ WordsKept (fun k => (∃ i, k = (F.LAY_GSTAT_ENTRY_HOLD i).key) ∨ (∃ i, k = (F.LAY_GSTAT_FREE_PCT
      i).key) ∨ (∃ i, k = (F.LAY_GSTAT_OPEN i).key) ∨ (∃ i, k = (F.LAY_GSTAT_SERVICE i).key) ∨ (∃ i, k = (F.LAY_GSTAT_SPACE_HOLD i).key)
      ∨ (∃ i, k = (F.LAY_HOLD_US i).key)) s t) ∧
    (∀ (group : Nat) (s : State), s.bench.length = 57 → Completes (.surveyWritebackDone group) s fun t => { s with
      regs := t.regs, bench := t.bench, faultDeclared := t.faultDeclared, out := t.out, taskGrants := t.taskGrants, objs := t.objs, svy := t.svy,
      slots := t.slots } = t ∧ WordsKept (fun k => (∃ i j, k = (F.DRV_CMD i j).key) ∨ (∃ i, k = (F.SVY_GSTAT_DLOG_USED i).key) ∨ (∃ i, k =
      (F.SVY_GSTAT_SCAN i).key) ∨ (∃ i, k = (F.SVY_GSTAT_SLOT_USED i).key) ∨ (∃ i, k = (F.SVY_GSTAT_TWO_COPY i).key) ∨ (∃ i, k =
      (F.SVY_WB i).key)) s t) ∧
    (∀ (group : Nat) (s : State), s.bench.length = 57 → Completes (.deltaLogBlockAcked group) s fun t => { s with
      regs := t.regs, bench := t.bench, faultDeclared := t.faultDeclared, out := t.out, svy := t.svy, tally := t.tally } = t ∧ WordsKept (fun k => k =
      F.JNL_SEQ_HI.key ∨ k = F.JNL_SEQ_LO.key ∨ (∃ i, k = (F.SVY_DLOG_BLK i).key) ∨ (∃ i, k = (F.SVY_GSTAT_DLOG_USED i).key) ∨ (∃ i, k =
      (F.SVY_GSTAT_SCAN i).key) ∨ (∃ i, k = (F.SVY_GSTAT_SLOT_USED i).key) ∨ (∃ i, k = (F.SVY_GSTAT_TWO_COPY i).key)) s t) ∧
    (∀ (group : Nat) (s : State), Completes (.memberRecordTimer group) s fun t => { s with
      regs := t.regs, svy := t.svy, slots := t.slots } = t ∧ WordsKept (fun k => (∃ i j, k = (F.DRV_CMD i j).key)) s t) ∧
    (∀ (group : Nat) (s : State), s.bench.length = 57 → Completes (.objectRehome group) s fun t => { s with
      regs := t.regs, bench := t.bench, faultDeclared := t.faultDeclared, out := t.out, objs := t.objs, svy := t.svy, slots := t.slots } = t ∧ WordsKept (fun
      k => (∃ i j, k = (F.DRV_CMD i j).key) ∨ (∃ i, k = (F.SVY_GSTAT_DLOG_USED i).key) ∨ (∃ i, k = (F.SVY_GSTAT_SCAN i).key) ∨ (∃ i, k =
      (F.SVY_GSTAT_SLOT_USED i).key) ∨ (∃ i, k = (F.SVY_GSTAT_TWO_COPY i).key) ∨ (∃ i, k = (F.SVY_WB i).key)) s t) ∧
    (∀ (s : State), s.bench.length = 57 → Completes .reshapeRelayoutDone s fun t => { s with
      regs := t.regs, bench := t.bench, faultDeclared := t.faultDeclared, out := t.out, objs := t.objs, svy := t.svy, slots := t.slots, reshape := t.reshape } =
      t ∧ WordsKept (fun k => (∃ i j, k = (F.DRV_CMD i j).key) ∨ k = F.LAY_ORDER_STAT_PCT.key ∨ k = F.LAY_ORDER_STAT_PHASE.key ∨ (∃ i, k
      = (F.SVY_GSTAT_DLOG_USED i).key) ∨ (∃ i, k = (F.SVY_GSTAT_SCAN i).key) ∨ (∃ i, k = (F.SVY_GSTAT_SLOT_USED i).key) ∨ (∃ i, k =
      (F.SVY_GSTAT_TWO_COPY i).key)) s t) ∧
    (∀ (s : State), Completes .tallyControlBlockTimer s fun t => { s with
      tally := t.tally } = t) ∧
    (∀ (job : Nat) (s : State), Completes (.tailCutDeadline job) s fun t => { s with
      regs := t.regs, out := t.out, mcmds := t.mcmds, mwaits := t.mwaits, jobs := t.jobs, tcutSpent := t.tcutSpent } = t ∧ WordsKept (fun k => (∃ i j, k =
      (F.DRV_CMD i j).key) ∨ (∃ i, k = (F.LAY_TCUT i).key) ∨ k = F.LAY_TCUT_CFG_DL0.key ∨ k = F.LAY_TCUT_CFG_DL1.key ∨ k =
      F.LAY_TCUT_CFG_DL2.key ∨ k = F.LAY_TCUT_CFG_DL3.key) s t) ∧
    (∀ (slot : Nat) (s : State), Completes (.healthPoll slot) s fun t => { s with
      regs := t.regs, out := t.out, mcmds := t.mcmds, mwaits := t.mwaits, ports := t.ports } = t ∧ WordsKept (fun k => (∃ i j, k = (F.DRV_CMD i
      j).key)) s t) ∧
    (∀ (slot : Nat) (s : State), s.bench.length = 57 → Completes (.trimGatherExpiry slot) s fun t => { s with
      regs := t.regs, bench := t.bench, faultDeclared := t.faultDeclared, out := t.out, cmds := t.cmds, groups := t.groups, stripes := t.stripes,
      entryNotice := t.entryNotice, mcmds := t.mcmds, mwaits := t.mwaits, trimGather := t.trimGather } = t ∧ WordsKept (fun k => (∃ i j, k =
      (F.DRV_CMD i j).key) ∨ (∃ i, k = (F.LAY_GSTAT_ENTRY_HOLD i).key) ∨ (∃ i, k = (F.LAY_GSTAT_FREE_PCT i).key) ∨ (∃ i, k =
      (F.LAY_GSTAT_OPEN i).key) ∨ (∃ i, k = (F.LAY_GSTAT_SERVICE i).key) ∨ (∃ i, k = (F.LAY_GSTAT_SPACE_HOLD i).key) ∨ (∃ i, k =
      (F.LAY_HOLD_US i).key)) s t) ∧
    (∀ (s : State), s.bench.length = 57 → Completes .fenceWriteWindowEnd s fun t => { s with
      regs := t.regs, bench := t.bench, faultDeclared := t.faultDeclared, out := t.out, cmds := t.cmds, groups := t.groups, stripes := t.stripes,
      entryNotice := t.entryNotice, mcmds := t.mcmds, mwaits := t.mwaits, fenceEnd := t.fenceEnd } = t ∧ WordsKept (fun k => (∃ i j, k = (F.DRV_CMD
      i j).key) ∨ (∃ i, k = (F.LAY_GSTAT_ENTRY_HOLD i).key) ∨ (∃ i, k = (F.LAY_GSTAT_FREE_PCT i).key) ∨ (∃ i, k = (F.LAY_GSTAT_OPEN
      i).key) ∨ (∃ i, k = (F.LAY_GSTAT_SERVICE i).key) ∨ (∃ i, k = (F.LAY_GSTAT_SPACE_HOLD i).key) ∨ (∃ i, k = (F.LAY_HOLD_US i).key)) s
      t) ∧
    (∀ (slot : Nat) (s : State), Completes (.containmentRecovery slot) s fun t => { s with
      regs := t.regs, sbcWant := t.sbcWant, ports := t.ports } = t ∧ WordsKept (fun k => (∃ i j, k = (F.DRV_PSTAT_CONTAINED i j).key) ∨ (∃ i j, k
      = (F.DRV_PSTAT_LINK_UP i j).key) ∨ (∃ i j, k = (F.DRV_PSTAT_READY i j).key) ∨ (∃ i j, k = (F.DRV_RETRAIN i j).key)) s t) ∧
    (∀ (slot : Nat) (s : State), Completes (.perstReleaseTimer slot) s fun t => { s with
      sbcWant := t.sbcWant, ports := t.ports } = t) ∧
    (∀ (slot : Nat) (s : State), s.bench.length = 57 → Completes (.driveLinkTrainingTimeout slot) s fun t => { s with
      regs := t.regs, bench := t.bench, faultDeclared := t.faultDeclared, out := t.out, sbcWant := t.sbcWant, slots := t.slots, ports := t.ports } = t ∧
      WordsKept (fun k => (∃ i j, k = (F.DRV_PSTAT_LINK_UP i j).key) ∨ (∃ i j, k = (F.DRV_PSTAT_READY i j).key) ∨ (∃ i j, k =
      (F.DRV_PSTAT_REJECT i j).key)) s t) ∧
    (∀ (slot : Nat) (s : State), s.bench.length = 57 → Completes (.drvPowerOn slot) s fun t => { s with
      regs := t.regs, bench := t.bench, faultDeclared := t.faultDeclared, out := t.out, sbcWant := t.sbcWant, slots := t.slots, mirrorOut := t.mirrorOut,
      mseq := t.mseq, ports := t.ports, pair := t.pair, live := t.live } = t ∧ WordsKept (fun k => (∃ i j, k = (F.DRV_PSTAT_LINK_UP i j).key) ∨ (∃ i
      j, k = (F.DRV_PSTAT_POWERED i j).key) ∨ (∃ i j, k = (F.DRV_PSTAT_READY i j).key) ∨ (∃ i j, k = (F.DRV_PSTAT_REJECT i j).key) ∨ k =
      F.HAL_TX_FRM.key) s t) ∧
    (∀ (s : State), Completes .driveStageTimer s fun t => { s with
      regs := t.regs, out := t.out, sbcWant := t.sbcWant, mirrorOut := t.mirrorOut, mseq := t.mseq, ports := t.ports, stage := t.stage,
      drvPowered := t.drvPowered, pair := t.pair } = t ∧ WordsKept (fun k => (∃ i j, k = (F.DRV_PSTAT_POWERED i j).key) ∨ (∃ i j, k =
      (F.DRV_PSTAT_REJECT i j).key) ∨ k = F.HAL_TX_FRM.key) s t) ∧
    (∀ (r : CipReq) (s : State), s.bench.length = 57 → Completes (.cipXtsEnc r) s fun t => { s with
      regs := t.regs, bench := t.bench, faultDeclared := t.faultDeclared, out := t.out, notices := t.notices, cips := t.cips } = t ∧ WordsKept (fun k =>
      (∃ i, k = (F.CIP_KC_HIT i).key) ∨ (∃ i, k = (F.CIP_KC_MISS i).key) ∨ (∃ i, k = (F.CIP_KC_WAIT i).key) ∨ (∃ i, k =
      (F.CIP_STAT_IV_LOST i).key) ∨ (∃ i, k = (F.CIP_STAT_KC_PINNED i).key) ∨ (∃ i, k = (F.CIP_STAT_KC_USED i).key) ∨ (∃ i, k =
      (F.CIP_STAT_QDEPTH i).key)) s t) ∧
    (∀ (r : CipReq) (s : State), s.bench.length = 57 → Completes (.cipXtsDec r) s fun t => { s with
      regs := t.regs, bench := t.bench, faultDeclared := t.faultDeclared, out := t.out, notices := t.notices, cips := t.cips } = t ∧ WordsKept (fun k =>
      (∃ i, k = (F.CIP_KC_HIT i).key) ∨ (∃ i, k = (F.CIP_KC_MISS i).key) ∨ (∃ i, k = (F.CIP_KC_WAIT i).key) ∨ (∃ i, k =
      (F.CIP_STAT_IV_LOST i).key) ∨ (∃ i, k = (F.CIP_STAT_KC_PINNED i).key) ∨ (∃ i, k = (F.CIP_STAT_KC_USED i).key) ∨ (∃ i, k =
      (F.CIP_STAT_QDEPTH i).key)) s t) ∧
    (∀ (r : CipReq) (s : State), s.bench.length = 57 → Completes (.cipXtsZero r) s fun t => { s with
      regs := t.regs, bench := t.bench, faultDeclared := t.faultDeclared, out := t.out, notices := t.notices, cips := t.cips } = t ∧ WordsKept (fun k =>
      (∃ i, k = (F.CIP_KC_HIT i).key) ∨ (∃ i, k = (F.CIP_KC_MISS i).key) ∨ (∃ i, k = (F.CIP_KC_WAIT i).key) ∨ (∃ i, k =
      (F.CIP_STAT_IV_LOST i).key) ∨ (∃ i, k = (F.CIP_STAT_KC_PINNED i).key) ∨ (∃ i, k = (F.CIP_STAT_KC_USED i).key) ∨ (∃ i, k =
      (F.CIP_STAT_QDEPTH i).key)) s t) ∧
    (∀ (r : CipReq) (s : State), s.bench.length = 57 → Completes (.cipGcmSeal r) s fun t => { s with
      regs := t.regs, bench := t.bench, faultDeclared := t.faultDeclared, out := t.out, notices := t.notices, cips := t.cips } = t ∧ WordsKept (fun k =>
      (∃ i, k = (F.CIP_KC_HIT i).key) ∨ (∃ i, k = (F.CIP_KC_MISS i).key) ∨ (∃ i, k = (F.CIP_KC_WAIT i).key) ∨ (∃ i, k =
      (F.CIP_STAT_IV_LOST i).key) ∨ (∃ i, k = (F.CIP_STAT_KC_PINNED i).key) ∨ (∃ i, k = (F.CIP_STAT_KC_USED i).key) ∨ (∃ i, k =
      (F.CIP_STAT_QDEPTH i).key)) s t) ∧
    (∀ (r : CipReq) (s : State), s.bench.length = 57 → Completes (.cipGcmOpen r) s fun t => { s with
      regs := t.regs, bench := t.bench, faultDeclared := t.faultDeclared, out := t.out, notices := t.notices, cips := t.cips } = t ∧ WordsKept (fun k =>
      (∃ i, k = (F.CIP_KC_HIT i).key) ∨ (∃ i, k = (F.CIP_KC_MISS i).key) ∨ (∃ i, k = (F.CIP_KC_WAIT i).key) ∨ (∃ i, k =
      (F.CIP_STAT_IV_LOST i).key) ∨ (∃ i, k = (F.CIP_STAT_KC_PINNED i).key) ∨ (∃ i, k = (F.CIP_STAT_KC_USED i).key) ∨ (∃ i, k =
      (F.CIP_STAT_QDEPTH i).key)) s t) ∧
    (∀ (r : CipReq) (s : State), s.bench.length = 57 → Completes (.cipCtr r) s fun t => { s with
      regs := t.regs, bench := t.bench, faultDeclared := t.faultDeclared, out := t.out, notices := t.notices, cips := t.cips } = t ∧ WordsKept (fun k =>
      (∃ i, k = (F.CIP_KC_HIT i).key) ∨ (∃ i, k = (F.CIP_KC_MISS i).key) ∨ (∃ i, k = (F.CIP_KC_WAIT i).key) ∨ (∃ i, k =
      (F.CIP_STAT_IV_LOST i).key) ∨ (∃ i, k = (F.CIP_STAT_KC_PINNED i).key) ∨ (∃ i, k = (F.CIP_STAT_KC_USED i).key) ∨ (∃ i, k =
      (F.CIP_STAT_QDEPTH i).key)) s t) ∧
    (∀ (r : CipReq) (s : State), s.bench.length = 57 → Completes (.cipKeyZero r) s fun t => { s with
      regs := t.regs, bench := t.bench, faultDeclared := t.faultDeclared, out := t.out, notices := t.notices, keyTab := t.keyTab, cips := t.cips } = t ∧
      WordsKept (fun k => (∃ i, k = (F.CIP_KC_HIT i).key) ∨ (∃ i, k = (F.CIP_KC_MISS i).key) ∨ (∃ i, k = (F.CIP_KC_WAIT i).key) ∨ (∃ i,
      k = (F.CIP_STAT_IV_LOST i).key) ∨ (∃ i, k = (F.CIP_STAT_KC_PINNED i).key) ∨ (∃ i, k = (F.CIP_STAT_KC_USED i).key) ∨ (∃ i, k =
      (F.CIP_STAT_QDEPTH i).key)) s t) ∧
    (∀ (role : Nat) (slot : Nat) (intact : Bool) (s : State), s.bench.length = 57 → Completes (.keyLoadDone role slot intact) s fun t
      => { s with
      regs := t.regs, bench := t.bench, faultDeclared := t.faultDeclared, out := t.out, cips := t.cips } = t ∧ WordsKept (fun k => (∃ i, k =
      (F.CIP_KC_MISS i).key) ∨ (∃ i, k = (F.CIP_STAT_IV_LOST i).key) ∨ (∃ i, k = (F.CIP_STAT_KC_PINNED i).key) ∨ (∃ i, k =
      (F.CIP_STAT_KC_USED i).key) ∨ (∃ i, k = (F.CIP_STAT_QDEPTH i).key)) s t)

/-- Each command of the switch, the endpoint, the start and live service completes, and everything but the pieces of state named for it stays as it was, every register word but those of the named fields included (raising events changes words of its own, Table MGT-1). -/
def Obligations.EtherAndEndpointFrames : Prop :=
    (∀ (mac : Nat) (common : Bool) (eee : Bool) (s : State), s.bench.length = 57 → Completes (.macLinkUp mac common eee) s fun t => { s with
      regs := t.regs, bench := t.bench, faultDeclared := t.faultDeclared, out := t.out, macs := t.macs } = t ∧ WordsKept (fun k => (∃ i, k =
      (F.PRT_STAT_EEE_AN i).key) ∨ (∃ i, k = (F.PRT_STAT_FEC_LOCK i).key) ∨ (∃ i, k = (F.PRT_STAT_LINK i).key)) s t) ∧
    (∀ (mac : Nat) (atPort : Nat) (s : State), s.bench.length = 57 → Completes (.macLinkDown mac atPort) s fun t => { s with
      regs := t.regs, bench := t.bench, faultDeclared := t.faultDeclared, out := t.out, macs := t.macs, prtStat := t.prtStat, swq := t.swq } = t ∧ WordsKept
      (fun k => (∃ i, k = (F.PRT_STAT_EEE_AN i).key) ∨ (∃ i, k = (F.PRT_STAT_FEC_LOCK i).key) ∨ (∃ i, k = (F.PRT_STAT_LINK i).key) ∨ (∃
      i, k = (F.PRT_STAT_LPI_TX i).key) ∨ k = F.SWC_LINK_DROP.key ∨ k = F.SWC_STAT_CELLS_USED.key) s t) ∧
    (∀ (mac : Nat) (quanta : Nat) (s : State), Completes (.pauseFrame mac quanta) s fun t => { s with
      macs := t.macs, prtStat := t.prtStat } = t) ∧
    (∀ (mac : Nat) (quanta : List (Nat × Nat)) (s : State), Completes (.pfcFrame mac quanta) s fun t => { s with
      macs := t.macs, prtStat := t.prtStat } = t) ∧
    (∀ (mac : Nat) (cls : Nat) (s : State), Completes (.pauseTimeExpiry mac cls) s fun t => { s with
      macs := t.macs } = t) ∧
    (∀ (mac : Nat) (cls : Nat) (atPort : Nat) (s : State), s.bench.length = 57 → Completes (.pfcWatchdogDetect mac cls atPort) s fun t
      => { s with
      regs := t.regs, bench := t.bench, faultDeclared := t.faultDeclared, out := t.out, macs := t.macs, prtStat := t.prtStat, swq := t.swq } = t ∧ WordsKept
      (fun k => (∃ i, k = (F.PRT_STAT_LPI_TX i).key) ∨ k = F.SWC_STAT_CELLS_USED.key) s t) ∧
    (∀ (mac : Nat) (cls : Nat) (s : State), s.bench.length = 57 → Completes (.pfcWatchdogRestore mac cls) s fun t => { s with
      regs := t.regs, bench := t.bench, faultDeclared := t.faultDeclared, out := t.out, macs := t.macs } = t ∧ WordsKept (fun _ => False) s t) ∧
    (∀ (mac : Nat) (cls : Nat) (s : State), Completes (.pauseRepeatTimer mac cls) s fun t => { s with
      regs := t.regs, out := t.out, macs := t.macs, prtStat := t.prtStat } = t ∧ WordsKept (fun k => (∃ i, k = (F.PRT_STAT_LPI_TX i).key)) s t) ∧
    (∀ (mac : Nat) (cls : Nat) (s : State), s.bench.length = 57 → Completes (.pauseSendCap mac cls) s fun t => { s with
      regs := t.regs, bench := t.bench, faultDeclared := t.faultDeclared, out := t.out, macs := t.macs } = t ∧ WordsKept (fun _ => False) s t) ∧
    (∀ (mac : Nat) (rxTw : Nat) (s : State), s.bench.length = 57 → Completes (.lldpEeeTlv mac rxTw) s fun t => { s with
      regs := t.regs, bench := t.bench, faultDeclared := t.faultDeclared, out := t.out, macs := t.macs } = t ∧ WordsKept (fun _ => False) s t) ∧
    (∀ (mac : Nat) (s : State), Completes (.lpiIdleExpiry mac) s fun t => { s with
      regs := t.regs, macs := t.macs } = t ∧ WordsKept (fun k => (∃ i, k = (F.PRT_STAT_LPI_TX i).key)) s t) ∧
    (∀ (path : Nat) (port : Nat) (sub : Nat) (idx : Nat) (hi : Bool) (s : State), Completes (.prtStatRead path port sub idx hi) s fun
      t => { s with
      out := t.out, macs := t.macs, prtStat := t.prtStat, live := t.live, mgt := t.mgt } = t) ∧
    (∀ (speed : Nat) (width : Nat) (s : State), s.bench.length = 57 → Completes (.epLinkUp speed width) s fun t => { s with
      regs := t.regs, bench := t.bench, faultDeclared := t.faultDeclared, out := t.out, ctrls := t.ctrls, epTlpAt := t.epTlpAt, epL1 := t.epL1 } = t ∧
      WordsKept (fun k => k = F.EPT_STAT_FROZEN.key ∨ k = F.EPT_STAT_LINK_UP.key ∨ k = F.EPT_STAT_RELAY.key ∨ k = F.EPT_STAT_SPEED.key ∨
      k = F.EPT_STAT_WIDTH.key) s t) ∧
    (∀ (f : Nat) (cc : Nat) (aqa : Nat) (s : State), Completes (.epCcEnable f cc aqa) s fun t => { s with
      ctrls := t.ctrls, epTlpAt := t.epTlpAt, epL1 := t.epL1 } = t) ∧
    (∀ (f : Nat) (qid : Nat) (cq : Bool) (val : Nat) (s : State), Completes (.epDoorbell f qid cq val) s fun t => { s with
      regs := t.regs, out := t.out, ctrls := t.ctrls, epfs := t.epfs, epReads := t.epReads, epTlpAt := t.epTlpAt, epL1 := t.epL1, epCmdAt := t.epCmdAt } = t ∧
      WordsKept (fun k => k = F.EPT_CQE_POST.key ∨ k = F.EPT_RD_REQ.key ∨ k = F.EPT_WR_REQ.key) s t) ∧
    (∀ (tag : Nat) (ctoUs : Nat) (s : State), s.bench.length = 57 → Completes (.epCompletionTimeout tag ctoUs) s fun t => { s with
      regs := t.regs, bench := t.bench, faultDeclared := t.faultDeclared, out := t.out, ctrls := t.ctrls, notices := t.notices, epfs := t.epfs,
      epReads := t.epReads, epFetches := t.epFetches, epTlpAt := t.epTlpAt, epL1 := t.epL1, epQuarNotice := t.epQuarNotice } = t ∧ WordsKept (fun k =>
      k = F.EPT_CPL_TO.key ∨ k = F.EPT_RD_REQ.key ∨ k = F.EPT_STAT_QUAR.key) s t) ∧
    (∀ (tag : Nat) (ctoUs : Nat) (s : State), s.bench.length = 57 → Completes (.epQuarantineExpiry tag ctoUs) s fun t => { s with
      regs := t.regs, bench := t.bench, faultDeclared := t.faultDeclared, out := t.out, ctrls := t.ctrls, epfs := t.epfs, epReads := t.epReads,
      epFetches := t.epFetches, epTlpAt := t.epTlpAt, epL1 := t.epL1, epCmdAt := t.epCmdAt, epQuarNotice := t.epQuarNotice } = t ∧ WordsKept (fun k =>
      k = F.EPT_CQE_POST.key ∨ k = F.EPT_RD_REQ.key ∨ k = F.EPT_STAT_QUAR.key ∨ k = F.EPT_WR_REQ.key) s t) ∧
    (∀ (f : Nat) (on : Bool) (s : State), Completes (.epBmeWrite f on) s fun t => { s with
      regs := t.regs, out := t.out, ctrls := t.ctrls, epfs := t.epfs, epReads := t.epReads, epFetches := t.epFetches, epTlpAt := t.epTlpAt, epL1 := t.epL1,
      epCmdAt := t.epCmdAt } = t ∧ WordsKept (fun k => k = F.EPT_CQE_POST.key ∨ k = F.EPT_RD_REQ.key ∨ k = F.EPT_WR_REQ.key) s t) ∧
    (∀ (f : Nat) (d3 : Bool) (s : State), Completes (.epPowerState f d3) s fun t => { s with
      regs := t.regs, out := t.out, ctrls := t.ctrls, epfs := t.epfs, epReads := t.epReads, epFetches := t.epFetches, epTlpAt := t.epTlpAt, epL1 := t.epL1,
      epCmdAt := t.epCmdAt } = t ∧ WordsKept (fun k => k = F.EPT_CQE_POST.key ∨ k = F.EPT_RD_REQ.key ∨ k = F.EPT_WR_REQ.key) s t) ∧
    (∀ (f : Nat) (vector : Nat) (s : State), Completes (.epMsixUnmask f vector) s fun t => { s with
      out := t.out, epfs := t.epfs, epTlpAt := t.epTlpAt, epL1 := t.epL1 } = t) ∧
    (∀ (aspm : Bool) (s : State), Completes (.epL1Idle aspm) s fun t => { s with
      regs := t.regs, epL1 := t.epL1 } = t ∧ WordsKept (fun k => k = F.EPT_L1_ENTRY.key) s t) ∧
    (∀ (s : State), Completes .epLtrIdle s fun t => { s with
      out := t.out, epLtrActive := t.epLtrActive } = t) ∧
    (∀ (bootSel : Nat) (slotB : Bool) (flash : Option Flash) (s : State), s.bench.length = 57 → Completes (.controllerStart bootSel
      slotB flash) s fun t => { s with
      regs := t.regs, bench := t.bench, faultDeclared := t.faultDeclared, out := t.out, flash := t.flash, boot := t.boot } = t ∧ WordsKept (fun k => k =
      F.CTL_BOOT_STAT_BOOT_SEL.key ∨ k = F.CTL_BOOT_STAT_SLOT_B.key ∨ k = F.CTL_BOOT_STAT_STEP.key ∨ (∃ i, k = (F.CTL_BOOT_STEPT i).key)
      ∨ k = F.TRU_STAT_STEP.key) s t) ∧
    (∀ (s : State), s.bench.length = 57 → Completes .timeWaitExpiry s fun t => { s with
      regs := t.regs, bench := t.bench, faultDeclared := t.faultDeclared, tim := t.tim, out := t.out } = t ∧ WordsKept (fun _ => False) s t) ∧
    (∀ (s : State), s.bench.length = 57 → Completes .serviceStart s fun t => { s with
      regs := t.regs, bench := t.bench, rot := t.rot, faultDeclared := t.faultDeclared, tim := t.tim, out := t.out, ctrls := t.ctrls, boot := t.boot } = t ∧
      WordsKept (fun k => k = F.CTL_BOOT_STAT_STEP.key ∨ (∃ i, k = (F.CTL_BOOT_STEPT i).key) ∨ k = F.TIM_STAT_SERVING.key) s t) ∧
    (∀ (s : State), s.bench.length = 57 → Completes .standbyServiceStart s fun t => { s with
      regs := t.regs, bench := t.bench, faultDeclared := t.faultDeclared, out := t.out, ctrls := t.ctrls, boot := t.boot } = t ∧ WordsKept (fun k => k =
      F.CTL_BOOT_STAT_STEP.key ∨ (∃ i, k = (F.CTL_BOOT_STEPT i).key) ∨ k = F.TIM_STAT_SERVING.key) s t) ∧
    (∀ (bench : Nat) (s : State), s.bench.length = 57 → Completes (.ctlLiveReload bench) s fun t => { s with
      regs := t.regs, bench := t.bench, lanes := t.lanes, chans := t.chans, unacked := t.unacked, rot := t.rot, faultDeclared := t.faultDeclared, out := t.out,
      swq := t.swq, pair := t.pair, live := t.live } = t ∧ WordsKept (fun k => k = F.CTL_LIVE_STAT_BENCH.key ∨ k = F.CTL_LIVE_STAT_HOLD.key ∨ k =
      F.CTL_LIVE_STAT_REFUSED.key ∨ k = F.CTL_ROT_STAT_BUSY.key ∨ k = F.CTL_ROT_STAT_NOSPARE.key ∨ k = F.HAL_TX_FRM.key ∨ k =
      F.SWC_STAT_CELLS_USED.key ∨ (∃ c, k = 0x2010 + 4 * c) ∨ k = 0x2008) s t) ∧
    (∀ (low : Bool) (above : Bool) (answers : Bool) (s : State), s.bench.length = 57 → Completes (.avsTimer low above answers) s fun t
      => { s with
      regs := t.regs, bench := t.bench, faultDeclared := t.faultDeclared, out := t.out, live := t.live } = t ∧ WordsKept (fun k => k =
      F.CTL_AVS_STAT_AT_MAX.key ∨ k = F.CTL_AVS_STAT_AVS_FAIL.key ∨ k = F.CTL_AVS_STAT_LOW_MARGIN.key ∨ k = F.CTL_AVS_STAT_MV.key) s t) ∧
    (∀ (half : Nat) (s : State), s.bench.length = 57 → Completes (.haulRecalTimer half) s fun t => { s with
      regs := t.regs, bench := t.bench, faultDeclared := t.faultDeclared, out := t.out, pair := t.pair } = t ∧ WordsKept (fun k => k =
      F.EPT_STAT_RELAY.key ∨ k = F.HAL_PAIR_STAT_H0_UP.key ∨ k = F.HAL_PAIR_STAT_H1_UP.key ∨ k = F.HAL_RESEND.key ∨ k = F.HAL_TX_FRM.key
      ∨ k = F.SWC_STAT_FORWARDING.key ∨ k = F.SWC_STAT_HAUL_UP.key) s t) ∧
    (∀ (channel : Nat) (rank : Nat) (drift : Bool) (s : State), s.bench.length = 57 → Completes (.memRetrainTimer channel rank drift)
      s fun t => { s with
      regs := t.regs, bench := t.bench, faultDeclared := t.faultDeclared, out := t.out, live := t.live } = t ∧ WordsKept (fun _ => False) s t) ∧
    (∀ (channel : Nat) (rank : Nat) (s : State), Completes (.memZqTimer channel rank) s fun t => { s with
      live := t.live } = t) ∧
    (∀ (dev : List (Nat × Int)) (s : State), Completes (.timeAlignTimer dev) s fun t => { s with
      bench := t.bench, live := t.live } = t)

/-- Each command of the unit chain and the pair completes, and everything but the pieces of state named for it stays as it was, every register word but those of the named fields included (raising events changes words of its own, Table MGT-1). -/
def Obligations.ChainAndPairFrames : Prop :=
    (∀ (crcOk : Bool) (a : Nat) (s : State), s.bench.length = 57 → Completes (.chainAddr crcOk a) s fun t => { s with
      regs := t.regs, bench := t.bench, faultDeclared := t.faultDeclared, out := t.out, chain := t.chain } = t ∧ WordsKept (fun k => k =
      F.CHN_CHAIN_STAT_ADDR.key ∨ k = F.CHN_CHAIN_STAT_ADDRESSED.key ∨ k = F.CHN_CHAIN_STAT_HEAD.key ∨ k = F.CHN_CHAIN_STAT_UNITS.key ∨
      k = F.CHN_CRC_ERR.key ∨ k = F.CHN_RX_FRM.key ∨ k = F.CHN_TX_FRM.key ∨ k = F.TIM_SRC_CFG_SRC.key) s t) ∧
    (∀ (crcOk : Bool) (maxCount : Nat) (units : Nat) (s : State), Completes (.chainAddrAck crcOk maxCount units) s fun t => { s with
      regs := t.regs, out := t.out, chain := t.chain } = t ∧ WordsKept (fun k => k = F.CHN_CHAIN_STAT_UNITS.key ∨ k = F.CHN_CRC_ERR.key ∨ k =
      F.CHN_RX_FRM.key ∨ k = F.CHN_TX_FRM.key) s t) ∧
    (∀ (s : State), Completes .addrRepeatTimer s fun t => { s with
      regs := t.regs, out := t.out, chain := t.chain } = t ∧ WordsKept (fun k => k = F.CHN_TX_FRM.key) s t) ∧
    (∀ (s : State), s.bench.length = 57 → Completes .headWaitExpiry s fun t => { s with
      regs := t.regs, bench := t.bench, faultDeclared := t.faultDeclared, out := t.out, chain := t.chain } = t ∧ WordsKept (fun k => k =
      F.CHN_CHAIN_STAT_ADDR.key ∨ k = F.CHN_CHAIN_STAT_ADDRESSED.key ∨ k = F.CHN_CHAIN_STAT_HEAD.key ∨ k = F.CHN_TX_FRM.key) s t) ∧
    (∀ (s : State), Completes .chainDownstreamUndriven s fun t => { s with
      regs := t.regs, out := t.out, chain := t.chain } = t ∧ WordsKept (fun k => k = F.CHN_CHAIN_STAT_DN_LINK.key ∨ k = F.CHN_TX_FRM.key) s t) ∧
    (∀ (crcOk : Bool) (src : Nat) (fromUp : Bool) (s : State), s.bench.length = 57 → Completes (.chainReset crcOk src fromUp) s fun t
      => { s with
      regs := t.regs, bench := t.bench, faultDeclared := t.faultDeclared, out := t.out, chain := t.chain } = t ∧ WordsKept (fun k => k =
      F.CHN_CHAIN_STAT_ADDR.key ∨ k = F.CHN_CHAIN_STAT_ADDRESSED.key ∨ k = F.CHN_CRC_ERR.key ∨ k = F.CHN_RX_FRM.key ∨ k =
      F.CHN_TX_FRM.key ∨ k = F.TIM_STAT_STATE.key) s t) ∧
    (∀ (s : State), s.bench.length = 57 → Completes .chnChainResetCmd s fun t => { s with
      regs := t.regs, bench := t.bench, faultDeclared := t.faultDeclared, out := t.out, chain := t.chain, live := t.live } = t ∧ WordsKept (fun k => k =
      F.CHN_CHAIN_STAT_ADDR.key ∨ k = F.CHN_CHAIN_STAT_ADDRESSED.key ∨ k = F.CHN_TX_FRM.key ∨ k = F.TIM_STAT_STATE.key) s t) ∧
    (∀ (s : State), Completes .treqTimer s fun t => { s with
      regs := t.regs, out := t.out, chain := t.chain } = t ∧ WordsKept (fun k => k = F.CHN_TX_FRM.key) s t) ∧
    (∀ (crcOk : Bool) (eseq : Nat) (s : State), Completes (.chainTreq crcOk eseq) s fun t => { s with
      regs := t.regs, out := t.out } = t ∧ WordsKept (fun k => k = F.CHN_CRC_ERR.key ∨ k = F.CHN_RX_FRM.key ∨ k = F.CHN_TX_FRM.key) s t) ∧
    (∀ (crcOk : Bool) (eseq : Nat) (t2 : Nat) (t3 : Nat) (s : State), s.bench.length = 57 → Completes (.chainTresp crcOk eseq t2 t3) s
      fun t => { s with
      regs := t.regs, bench := t.bench, rot := t.rot, faultDeclared := t.faultDeclared, tim := t.tim, out := t.out, freeCount := t.freeCount, chain := t.chain }
      = t ∧ WordsKept (fun k => k = F.CHN_CRC_ERR.key ∨ k = F.CHN_HOP_DELAY_DELAY.key ∨ k = F.CHN_RX_FRM.key ∨ k = F.TIM_OFFSET.key ∨ k
      = F.TIM_RATE.key ∨ k = F.TIM_STAT_STATE.key) s t) ∧
    (∀ (crcOk : Bool) (t0 : Nat) (issuer : Nat) (fromUp : Bool) (s : State), s.bench.length = 57 → Completes (.chainShot crcOk t0
      issuer fromUp) s fun t => { s with
      regs := t.regs, bench := t.bench, faultDeclared := t.faultDeclared, tim := t.tim, out := t.out } = t ∧ WordsKept (fun k => k = F.CHN_CRC_ERR.key
      ∨ k = F.CHN_RX_FRM.key ∨ k = F.CHN_TX_FRM.key ∨ k = F.TIM_SHOT_STAT_PENDING.key ∨ k = F.TIM_SHOT_STAT_REFUSED.key) s t) ∧
    (∀ (s : State), s.bench.length = 57 → Completes .chainUpstreamLost s fun t => { s with
      regs := t.regs, bench := t.bench, faultDeclared := t.faultDeclared, out := t.out, chain := t.chain } = t ∧ WordsKept (fun k => k =
      F.CHN_CHAIN_STAT_UP_LINK.key ∨ k = F.TIM_STAT_STATE.key) s t) ∧
    (∀ (s : State), s.bench.length = 57 → Completes .chainUpstreamRestored s fun t => { s with
      regs := t.regs, bench := t.bench, faultDeclared := t.faultDeclared, out := t.out, chain := t.chain } = t ∧ WordsKept (fun k => k =
      F.CHN_CHAIN_STAT_UP_DRIVEN.key ∨ k = F.CHN_CHAIN_STAT_UP_LINK.key) s t) ∧
    (∀ (half : Nat) (s : State), s.bench.length = 57 → Completes (.haulHalfUp half) s fun t => { s with
      regs := t.regs, bench := t.bench, faultDeclared := t.faultDeclared, out := t.out, freeCount := t.freeCount, tru := t.tru, pair := t.pair, live := t.live }
      = t ∧ WordsKept (fun k => k = F.EPT_STAT_RELAY.key ∨ k = F.HAL_CFG_H0_EN.key ∨ k = F.HAL_CFG_H1_EN.key ∨ k =
      F.HAL_PAIR_STAT_H0_UP.key ∨ k = F.HAL_PAIR_STAT_H1_UP.key ∨ k = F.HAL_RESEND.key ∨ k = F.HAL_TX_FRM.key ∨ k =
      F.SWC_STAT_FORWARDING.key ∨ k = F.SWC_STAT_HAUL_UP.key) s t) ∧
    (∀ (half : Nat) (s : State), s.bench.length = 57 → Completes (.haulHalfDown half) s fun t => { s with
      regs := t.regs, bench := t.bench, faultDeclared := t.faultDeclared, out := t.out, pair := t.pair } = t ∧ WordsKept (fun k => k =
      F.EPT_STAT_RELAY.key ∨ k = F.HAL_PAIR_STAT_H0_UP.key ∨ k = F.HAL_PAIR_STAT_H1_UP.key ∨ k = F.HAL_RESEND.key ∨ k = F.HAL_TX_FRM.key
      ∨ k = F.SWC_STAT_FORWARDING.key ∨ k = F.SWC_STAT_HAUL_UP.key) s t) ∧
    (∀ (half : Nat) (s : State), s.bench.length = 57 → Completes (.haulResendTimer half) s fun t => { s with
      regs := t.regs, bench := t.bench, faultDeclared := t.faultDeclared, out := t.out, pair := t.pair } = t ∧ WordsKept (fun k => k =
      F.EPT_STAT_RELAY.key ∨ k = F.HAL_PAIR_STAT_H0_UP.key ∨ k = F.HAL_PAIR_STAT_H1_UP.key ∨ k = F.HAL_RESEND.key ∨ k = F.HAL_TX_FRM.key
      ∨ k = F.SWC_STAT_FORWARDING.key ∨ k = F.SWC_STAT_HAUL_UP.key) s t) ∧
    (∀ (s : State), Completes .heartbeatTimer s fun t => { s with
      out := t.out, pair := t.pair } = t) ∧
    (∀ (s : State), s.bench.length = 57 → Completes .fenceHoldExpiry s fun t => { s with
      regs := t.regs, bench := t.bench, faultDeclared := t.faultDeclared, out := t.out, pair := t.pair } = t ∧ WordsKept (fun k => k =
      F.HAL_PAIR_STAT_FENCE_HELD.key ∨ k = F.HAL_PAIR_STAT_FENCING.key) s t) ∧
    (∀ (s : State), s.bench.length = 57 → Completes .halUnfenceCmd s fun t => { s with
      regs := t.regs, bench := t.bench, faultDeclared := t.faultDeclared, out := t.out, pair := t.pair, live := t.live } = t ∧ WordsKept (fun k => k =
      F.HAL_PAIR_STAT_FENCE_HELD.key ∨ k = F.HAL_PAIR_STAT_FENCING.key) s t) ∧
    (∀ (s : State), s.bench.length = 57 → Completes .fenceStartDelayExpiry s fun t => { s with
      regs := t.regs, bench := t.bench, faultDeclared := t.faultDeclared, out := t.out, pair := t.pair } = t ∧ WordsKept (fun k => k =
      F.HAL_PAIR_STAT_FENCE_HELD.key ∨ k = F.HAL_PAIR_STAT_FENCING.key) s t) ∧
    (∀ (s : State), s.bench.length = 57 → Completes .pairWaitExpiry s fun t => { s with
      regs := t.regs, bench := t.bench, faultDeclared := t.faultDeclared, out := t.out, pair := t.pair } = t ∧ WordsKept (fun k => k =
      F.HAL_PAIR_STAT_FENCE_HELD.key ∨ k = F.HAL_PAIR_STAT_FENCING.key) s t) ∧
    (∀ (s : State), Completes .halHandoverCmd s fun t => { s with
      stripes := t.stripes, pair := t.pair, live := t.live } = t) ∧
    (∀ (bench : Nat) (s : State), Completes (.holdMessage bench) s fun t => { s with
      regs := t.regs, out := t.out, pair := t.pair } = t ∧ WordsKept (fun k => k = F.CTL_LIVE_STAT_HOLD.key ∨ k = F.HAL_TX_FRM.key) s t) ∧
    (∀ (s : State), s.bench.length = 57 → Completes .holdTimeout s fun t => { s with
      regs := t.regs, bench := t.bench, faultDeclared := t.faultDeclared, out := t.out, pair := t.pair } = t ∧ WordsKept (fun k => k =
      F.CTL_LIVE_STAT_HOLD.key ∨ k = F.EPT_STAT_RELAY.key ∨ k = F.HAL_PAIR_STAT_H0_UP.key ∨ k = F.HAL_PAIR_STAT_H1_UP.key ∨ k =
      F.HAL_RESEND.key ∨ k = F.HAL_TX_FRM.key ∨ k = F.SWC_STAT_FORWARDING.key ∨ k = F.SWC_STAT_HAUL_UP.key) s t)

/-- Each command of trust and management completes, and everything but the pieces of state named for it stays as it was, every register word but those of the named fields included (raising events changes words of its own, Table MGT-1). -/
def Obligations.TrustAndManagementFrames : Prop :=
    (∀ (s : State), s.bench.length = 57 → Completes .truSvnCommit s fun t => { s with
      regs := t.regs, bench := t.bench, faultDeclared := t.faultDeclared, out := t.out, fuses := t.fuses } = t ∧ WordsKept (fun k => k =
      F.TRU_STAT_CMD_REFUSED.key) s t) ∧
    (∀ (area : Nat) (s : State), s.bench.length = 57 → Completes (.tokenRevoke area) s fun t => { s with
      regs := t.regs, bench := t.bench, faultDeclared := t.faultDeclared, out := t.out, fuses := t.fuses, tru := t.tru } = t ∧ WordsKept (fun k => k =
      F.TRU_TOKEN_CMD_RESULT.key) s t) ∧
    (∀ (area : Nat) (s : State), s.bench.length = 57 → Completes (.tokenDebugUnlock area) s fun t => { s with
      regs := t.regs, bench := t.bench, faultDeclared := t.faultDeclared, out := t.out, keyTab := t.keyTab, cips := t.cips, fuses := t.fuses, tru := t.tru } = t
      ∧ WordsKept (fun k => k = F.TRU_STAT_DEBUG.key ∨ k = F.TRU_TOKEN_CMD_RESULT.key) s t) ∧
    (∀ (area : Nat) (s : State), s.bench.length = 57 → Completes (.tokenOwnerSeed area) s fun t => { s with
      regs := t.regs, bench := t.bench, faultDeclared := t.faultDeclared, out := t.out, fuses := t.fuses, tru := t.tru } = t ∧ WordsKept (fun k => k =
      F.TRU_TOKEN_CMD_RESULT.key) s t) ∧
    (∀ (area : Nat) (s : State), s.bench.length = 57 → Completes (.tokenDebugDisable area) s fun t => { s with
      regs := t.regs, bench := t.bench, faultDeclared := t.faultDeclared, out := t.out, fuses := t.fuses, tru := t.tru } = t ∧ WordsKept (fun k => k =
      F.TRU_TOKEN_CMD_RESULT.key) s t) ∧
    (∀ (s : State), Completes .truNonceRead s fun t => { s with
      out := t.out, freeCount := t.freeCount, tru := t.tru } = t) ∧
    (∀ (s : State), s.bench.length = 57 → Completes .trngHealthFail s fun t => { s with
      regs := t.regs, bench := t.bench, faultDeclared := t.faultDeclared, out := t.out, boot := t.boot } = t ∧ WordsKept (fun k => k =
      F.TRU_STAT_STOP.key) s t) ∧
    (∀ (path : Nat) (s : State), Completes (.spdmGetVersion path) s fun t => { s with
      out := t.out, tru := t.tru } = t) ∧
    (∀ (path : Nat) (s : State), Completes (.spdmGetCapabilities path) s fun t => { s with
      out := t.out, tru := t.tru } = t) ∧
    (∀ (path : Nat) (offered : Bool) (s : State), Completes (.spdmNegotiateAlgorithms path offered) s fun t => { s with
      out := t.out, tru := t.tru } = t) ∧
    (∀ (path : Nat) (s : State), Completes (.spdmGetDigests path) s fun t => { s with
      out := t.out } = t) ∧
    (∀ (path : Nat) (slot : Nat) (ofs : Nat) (len : Nat) (s : State), Completes (.spdmGetCertificate path slot ofs len) s fun t => { s with
      out := t.out } = t) ∧
    (∀ (path : Nat) (slot : Nat) (nonce : Nat) (s : State), Completes (.spdmChallenge path slot nonce) s fun t => { s with
      out := t.out, tru := t.tru } = t) ∧
    (∀ (path : Nat) (index : Nat) (nonce : Nat) (sign : Bool) (s : State), Completes (.spdmGetMeasurements path index nonce sign) s
      fun t => { s with
      out := t.out, tru := t.tru } = t) ∧
    (∀ (path : Nat) (r : VendorReq) (s : State), Completes (.mgtRegRead path r) s fun t => { s with
      regs := t.regs, out := t.out, freeCount := t.freeCount, macs := t.macs, prtStat := t.prtStat, tru := t.tru, pair := t.pair, live := t.live, mgt := t.mgt } =
      t ∧ WordsKept (fun k => (∃ i, k = (F.CHN_SMB_PEC i).key) ∨ k = F.CHN_TX_FRM.key ∨ k = F.HAL_TX_FRM.key) s t) ∧
    (∀ (path : Nat) (r : VendorReq) (s : State), Completes (.mgtEvSubscribe path r) s fun t => { s with
      regs := t.regs, out := t.out, subs := t.subs, pair := t.pair, live := t.live, mgt := t.mgt } = t ∧ WordsKept (fun k => (∃ i, k = (F.CHN_SMB_PEC
      i).key) ∨ k = F.CHN_TX_FRM.key ∨ k = F.HAL_TX_FRM.key) s t) ∧
    (∀ (path : Nat) (r : VendorReq) (s : State), Completes (.mgtLogRead path r) s fun t => { s with
      regs := t.regs, out := t.out, pair := t.pair, live := t.live, mgt := t.mgt } = t ∧ WordsKept (fun k => (∃ i, k = (F.CHN_SMB_PEC i).key) ∨ k =
      F.CHN_TX_FRM.key ∨ k = F.HAL_TX_FRM.key) s t) ∧
    (∀ (path : Nat) (r : VendorReq) (unwraps : Bool) (s : State), s.bench.length = 57 → Completes (.mgtIdentSet path r unwraps) s fun
      t => { s with
      regs := t.regs, bench := t.bench, faultDeclared := t.faultDeclared, out := t.out, idents := t.idents, ctrls := t.ctrls, mirrorOut := t.mirrorOut,
      mseq := t.mseq, pair := t.pair, live := t.live, mgt := t.mgt } = t ∧ WordsKept (fun k => (∃ i, k = (F.CHN_SMB_PEC i).key) ∨ k =
      F.CHN_TX_FRM.key ∨ k = F.HAL_TX_FRM.key) s t) ∧
    (∀ (path : Nat) (r : VendorReq) (s : State), Completes (.mgtIdentGet path r) s fun t => { s with
      regs := t.regs, out := t.out, pair := t.pair, live := t.live, mgt := t.mgt } = t ∧ WordsKept (fun k => (∃ i, k = (F.CHN_SMB_PEC i).key) ∨ k =
      F.CHN_TX_FRM.key ∨ k = F.HAL_TX_FRM.key) s t) ∧
    (∀ (path : Nat) (r : VendorReq) (s : State), Completes (.mgtQosSet path r) s fun t => { s with
      regs := t.regs, out := t.out, nss := t.nss, ctrls := t.ctrls, mirrorOut := t.mirrorOut, mseq := t.mseq, pair := t.pair, live := t.live, mgt := t.mgt } = t ∧
      WordsKept (fun k => (∃ i, k = (F.CHN_SMB_PEC i).key) ∨ k = F.CHN_TX_FRM.key ∨ k = F.HAL_TX_FRM.key) s t) ∧
    (∀ (path : Nat) (r : VendorReq) (s : State), Completes (.mgtQosGet path r) s fun t => { s with
      regs := t.regs, out := t.out, pair := t.pair, live := t.live, mgt := t.mgt } = t ∧ WordsKept (fun k => (∃ i, k = (F.CHN_SMB_PEC i).key) ∨ k =
      F.CHN_TX_FRM.key ∨ k = F.HAL_TX_FRM.key) s t) ∧
    (∀ (path : Nat) (eid : Nat) (s : State), Completes (.evNotifyResponse path eid) s fun t => { s with
      subs := t.subs } = t) ∧
    (∀ (path : Nat) (eid : Nat) (s : State), s.bench.length = 57 → Completes (.evNotifyTimer path eid) s fun t => { s with
      regs := t.regs, bench := t.bench, faultDeclared := t.faultDeclared, out := t.out, subs := t.subs } = t ∧ WordsKept (fun _ => False) s t) ∧
    (∀ (tag : Nat) (s : State), Completes (.relayTimeout tag) s fun t => { s with
      out := t.out, mgt := t.mgt } = t) ∧
    (∀ (path : Nat) (op : Nat) (eid : Nat) (s : State), s.bench.length = 57 → Completes (.mctpSetEndpointId path op eid) s fun t => { s with
      regs := t.regs, bench := t.bench, faultDeclared := t.faultDeclared, out := t.out, mgt := t.mgt } = t ∧ WordsKept (fun _ => False) s t) ∧
    (∀ (path : Nat) (s : State), Completes (.mctpGetEndpointId path) s fun t => { s with
      out := t.out } = t) ∧
    (∀ (path : Nat) (s : State), Completes (.mctpGetEndpointUuid path) s fun t => { s with
      out := t.out } = t) ∧
    (∀ (path : Nat) (typ : Nat) (s : State), Completes (.mctpGetVersionSupport path typ) s fun t => { s with
      out := t.out } = t) ∧
    (∀ (path : Nat) (s : State), Completes (.mctpGetMessageTypeSupport path) s fun t => { s with
      out := t.out } = t) ∧
    (∀ (path : Nat) (selector : Nat) (s : State), Completes (.mctpGetVendorSupport path selector) s fun t => { s with
      out := t.out } = t) ∧
    (∀ (port : Nat) (x : Sensors) (s : State), Completes (.nvmeMiBasicManagement port x) s fun t => { s with
      out := t.out } = t) ∧
    (∀ (path : Nat) (typ : Nat) (port : Nat) (ctl : Nat) (s : State), Completes (.nvmeMiReadDataStructure path typ port ctl) s fun t
      => { s with
      out := t.out } = t) ∧
    (∀ (path : Nat) (x : Sensors) (s : State), Completes (.nvmeMiSubsystemHealthPoll path x) s fun t => { s with
      out := t.out, freeCount := t.freeCount } = t) ∧
    (∀ (path : Nat) (first : Nat) (x : Sensors) (s : State), Completes (.nvmeMiControllerHealthPoll path first x) s fun t => { s with
      out := t.out, freeCount := t.freeCount } = t) ∧
    (∀ (path : Nat) (id : Nat) (port : Nat) (s : State), Completes (.nvmeMiConfigurationGet path id port) s fun t => { s with
      out := t.out } = t) ∧
    (∀ (path : Nat) (id : Nat) (port : Nat) (val : Nat) (s : State), Completes (.nvmeMiConfigurationSet path id port val) s fun t => { s with
      out := t.out, mgt := t.mgt } = t) ∧
    (∀ (port : Nat) (s : State), s.bench.length = 57 → Completes (.smbusTimeout port) s fun t => { s with
      regs := t.regs, bench := t.bench, faultDeclared := t.faultDeclared, out := t.out } = t ∧ WordsKept (fun k => (∃ i, k = (F.CHN_SMB_TO i).key))
      s t) ∧
    (∀ (path : Nat) (addr : Nat) (s : State), Completes (.halfLatchRead path addr) s fun t => { s with
      out := t.out, freeCount := t.freeCount, macs := t.macs, prtStat := t.prtStat, tru := t.tru, live := t.live, mgt := t.mgt } = t)

/-- Each command of the benches, the time base and the transports completes, and everything but the pieces of state named for it stays as it was. -/
def Obligations.BenchAndTransportFields : Prop :=
    (∀ (bench : Nat) (o : Repair) (hdrOk : Bool) (s : State), Completes (.detectionRepairDone bench o hdrOk) s fun t => { s with
      regs := t.regs, bench := t.bench, lanes := t.lanes, chans := t.chans, unacked := t.unacked, rot := t.rot, faultDeclared := t.faultDeclared, out := t.out,
      conns := t.conns, nss := t.nss, ctrls := t.ctrls, freedCtrls := t.freedCtrls, cmds := t.cmds, stalled := t.stalled, groups := t.groups,
      stripes := t.stripes, entryNotice := t.entryNotice, tally := t.tally, fixupds := t.fixupds, slots := t.slots, mcmds := t.mcmds, mwaits := t.mwaits,
      jobs := t.jobs, winops := t.winops, pends := t.pends, lines := t.lines, sectors := t.sectors, maint := t.maint, mirrorOut := t.mirrorOut, mseq := t.mseq,
      cips := t.cips, adminWaits := t.adminWaits, swq := t.swq, epfs := t.epfs, epReads := t.epReads, epFetches := t.epFetches, epTlpAt := t.epTlpAt,
      epL1 := t.epL1, epCmdAt := t.epCmdAt, pair := t.pair, live := t.live } = t) ∧
    (∀ (v : Word) (s : State), Completes (.ctlRotCfgWrite v) s fun t => { s with
      regs := t.regs, rot := t.rot, live := t.live } = t) ∧
    (∀ (v : Word) (s : State), Completes (.timSrcCfgWrite v) s fun t => { s with
      regs := t.regs, bench := t.bench, rot := t.rot, faultDeclared := t.faultDeclared, tim := t.tim, out := t.out, live := t.live } = t) ∧
    (∀ (v : Word) (s : State), Completes (.timSetStep v) s fun t => { s with
      regs := t.regs, bench := t.bench, rot := t.rot, faultDeclared := t.faultDeclared, tim := t.tim, out := t.out, live := t.live } = t) ∧
    (∀ (s : State), Completes .shotTimeReached s fun t => { s with
      regs := t.regs, bench := t.bench, lanes := t.lanes, chans := t.chans, unacked := t.unacked, rot := t.rot, faultDeclared := t.faultDeclared, tim := t.tim,
      out := t.out, freeCount := t.freeCount, tenants := t.tenants, msnap := t.msnap, msaved := t.msaved, tsaved := t.tsaved, msnapBad := t.msnapBad,
      macs := t.macs, prtStat := t.prtStat, swq := t.swq } = t) ∧
    (∀ (p : NrtPkt) (s : State), Completes (.nrtDataPacket p) s fun t => t.pending = s.pending ∧ t.part = s.part ∧ t.lanes = s.lanes ∧
      t.chans = s.chans ∧ t.unacked = s.unacked ∧ t.rot = s.rot ∧ t.tim = s.tim ∧ t.evlog = s.evlog ∧ t.subs = s.subs ∧ t.freedNsids =
      s.freedNsids ∧ t.msnap = s.msnap ∧ t.msaved = s.msaved ∧ t.tsaved = s.tsaved ∧ t.msaveAt = s.msaveAt ∧ t.subnqn = s.subnqn ∧
      t.sbcWant = s.sbcWant ∧ t.sbcShift = s.sbcShift ∧ t.taskGrants = s.taskGrants ∧ t.periodAt = s.periodAt ∧ t.rebAt = s.rebAt ∧
      t.svy = s.svy ∧ t.badBlks = s.badBlks ∧ t.tcutSpent = s.tcutSpent ∧ t.rindex = s.rindex ∧ t.reshape = s.reshape ∧ t.frames =
      s.frames ∧ t.serials = s.serials ∧ t.dimms = s.dimms ∧ t.frameFails = s.frameFails ∧ t.fenceEnd = s.fenceEnd ∧ t.trimGather =
      s.trimGather ∧ t.msnapBad = s.msnapBad ∧ t.ports = s.ports ∧ t.stage = s.stage ∧ t.drvPowered = s.drvPowered ∧ t.macs = s.macs ∧
      t.eports = s.eports ∧ t.prtStat = s.prtStat ∧ t.swq = s.swq ∧ t.markers = s.markers ∧ t.policed = s.policed ∧ t.swcNotices =
      s.swcNotices ∧ t.samples = s.samples ∧ t.arrivals = s.arrivals ∧ t.epLtrActive = s.epLtrActive ∧ t.epQuarNotice = s.epQuarNotice ∧
      t.fuses = s.fuses ∧ t.flash = s.flash ∧ t.boot = s.boot ∧ t.tru = s.tru ∧ t.chain = s.chain ∧ t.mgt = s.mgt) ∧
    (∀ (p : NrtPkt) (s : State), Completes (.nrtAck p) s fun t => t.pending = s.pending ∧ t.part = s.part ∧ t.lanes = s.lanes ∧
      t.chans = s.chans ∧ t.unacked = s.unacked ∧ t.rot = s.rot ∧ t.tim = s.tim ∧ t.evlog = s.evlog ∧ t.subs = s.subs ∧ t.freedNsids =
      s.freedNsids ∧ t.msnap = s.msnap ∧ t.msaved = s.msaved ∧ t.tsaved = s.tsaved ∧ t.msaveAt = s.msaveAt ∧ t.subnqn = s.subnqn ∧
      t.sbcWant = s.sbcWant ∧ t.sbcShift = s.sbcShift ∧ t.taskGrants = s.taskGrants ∧ t.periodAt = s.periodAt ∧ t.rebAt = s.rebAt ∧
      t.svy = s.svy ∧ t.badBlks = s.badBlks ∧ t.tcutSpent = s.tcutSpent ∧ t.rindex = s.rindex ∧ t.reshape = s.reshape ∧ t.frames =
      s.frames ∧ t.serials = s.serials ∧ t.dimms = s.dimms ∧ t.frameFails = s.frameFails ∧ t.fenceEnd = s.fenceEnd ∧ t.trimGather =
      s.trimGather ∧ t.msnapBad = s.msnapBad ∧ t.ports = s.ports ∧ t.stage = s.stage ∧ t.drvPowered = s.drvPowered ∧ t.macs = s.macs ∧
      t.eports = s.eports ∧ t.prtStat = s.prtStat ∧ t.swq = s.swq ∧ t.markers = s.markers ∧ t.policed = s.policed ∧ t.swcNotices =
      s.swcNotices ∧ t.samples = s.samples ∧ t.arrivals = s.arrivals ∧ t.epLtrActive = s.epLtrActive ∧ t.epQuarNotice = s.epQuarNotice ∧
      t.fuses = s.fuses ∧ t.flash = s.flash ∧ t.boot = s.boot ∧ t.tru = s.tru ∧ t.chain = s.chain ∧ t.mgt = s.mgt) ∧
    (∀ (p : NrtPkt) (s : State), Completes (.nrtConnect p) s fun t => t.pending = s.pending ∧ t.part = s.part ∧ t.lanes = s.lanes ∧
      t.chans = s.chans ∧ t.unacked = s.unacked ∧ t.rot = s.rot ∧ t.tim = s.tim ∧ t.evlog = s.evlog ∧ t.subs = s.subs ∧ t.freedNsids =
      s.freedNsids ∧ t.msnap = s.msnap ∧ t.msaved = s.msaved ∧ t.tsaved = s.tsaved ∧ t.msaveAt = s.msaveAt ∧ t.subnqn = s.subnqn ∧
      t.sbcWant = s.sbcWant ∧ t.sbcShift = s.sbcShift ∧ t.taskGrants = s.taskGrants ∧ t.periodAt = s.periodAt ∧ t.rebAt = s.rebAt ∧
      t.svy = s.svy ∧ t.badBlks = s.badBlks ∧ t.tcutSpent = s.tcutSpent ∧ t.rindex = s.rindex ∧ t.reshape = s.reshape ∧ t.frames =
      s.frames ∧ t.serials = s.serials ∧ t.dimms = s.dimms ∧ t.frameFails = s.frameFails ∧ t.fenceEnd = s.fenceEnd ∧ t.trimGather =
      s.trimGather ∧ t.msnapBad = s.msnapBad ∧ t.ports = s.ports ∧ t.stage = s.stage ∧ t.drvPowered = s.drvPowered ∧ t.macs = s.macs ∧
      t.eports = s.eports ∧ t.prtStat = s.prtStat ∧ t.swq = s.swq ∧ t.markers = s.markers ∧ t.policed = s.policed ∧ t.swcNotices =
      s.swcNotices ∧ t.samples = s.samples ∧ t.arrivals = s.arrivals ∧ t.epLtrActive = s.epLtrActive ∧ t.epQuarNotice = s.epQuarNotice ∧
      t.fuses = s.fuses ∧ t.flash = s.flash ∧ t.boot = s.boot ∧ t.tru = s.tru ∧ t.chain = s.chain ∧ t.mgt = s.mgt) ∧
    (∀ (p : NrtPkt) (s : State), Completes (.nrtClose p) s fun t => t.pending = s.pending ∧ t.part = s.part ∧ t.lanes = s.lanes ∧
      t.chans = s.chans ∧ t.unacked = s.unacked ∧ t.rot = s.rot ∧ t.tim = s.tim ∧ t.evlog = s.evlog ∧ t.subs = s.subs ∧ t.freedNsids =
      s.freedNsids ∧ t.msnap = s.msnap ∧ t.msaved = s.msaved ∧ t.tsaved = s.tsaved ∧ t.msaveAt = s.msaveAt ∧ t.subnqn = s.subnqn ∧
      t.sbcWant = s.sbcWant ∧ t.sbcShift = s.sbcShift ∧ t.taskGrants = s.taskGrants ∧ t.periodAt = s.periodAt ∧ t.rebAt = s.rebAt ∧
      t.svy = s.svy ∧ t.badBlks = s.badBlks ∧ t.tcutSpent = s.tcutSpent ∧ t.rindex = s.rindex ∧ t.reshape = s.reshape ∧ t.frames =
      s.frames ∧ t.serials = s.serials ∧ t.dimms = s.dimms ∧ t.frameFails = s.frameFails ∧ t.fenceEnd = s.fenceEnd ∧ t.trimGather =
      s.trimGather ∧ t.msnapBad = s.msnapBad ∧ t.ports = s.ports ∧ t.stage = s.stage ∧ t.drvPowered = s.drvPowered ∧ t.macs = s.macs ∧
      t.eports = s.eports ∧ t.prtStat = s.prtStat ∧ t.swq = s.swq ∧ t.markers = s.markers ∧ t.policed = s.policed ∧ t.swcNotices =
      s.swcNotices ∧ t.samples = s.samples ∧ t.arrivals = s.arrivals ∧ t.epLtrActive = s.epLtrActive ∧ t.epQuarNotice = s.epQuarNotice ∧
      t.fuses = s.fuses ∧ t.flash = s.flash ∧ t.boot = s.boot ∧ t.tru = s.tru ∧ t.chain = s.chain ∧ t.mgt = s.mgt) ∧
    (∀ (p : NrtPkt) (s : State), Completes (.nrtClosed p) s fun t => t.pending = s.pending ∧ t.part = s.part ∧ t.lanes = s.lanes ∧
      t.chans = s.chans ∧ t.unacked = s.unacked ∧ t.rot = s.rot ∧ t.tim = s.tim ∧ t.evlog = s.evlog ∧ t.subs = s.subs ∧ t.freedNsids =
      s.freedNsids ∧ t.msnap = s.msnap ∧ t.msaved = s.msaved ∧ t.tsaved = s.tsaved ∧ t.msaveAt = s.msaveAt ∧ t.subnqn = s.subnqn ∧
      t.sbcWant = s.sbcWant ∧ t.sbcShift = s.sbcShift ∧ t.taskGrants = s.taskGrants ∧ t.periodAt = s.periodAt ∧ t.rebAt = s.rebAt ∧
      t.svy = s.svy ∧ t.badBlks = s.badBlks ∧ t.tcutSpent = s.tcutSpent ∧ t.rindex = s.rindex ∧ t.reshape = s.reshape ∧ t.frames =
      s.frames ∧ t.serials = s.serials ∧ t.dimms = s.dimms ∧ t.frameFails = s.frameFails ∧ t.fenceEnd = s.fenceEnd ∧ t.trimGather =
      s.trimGather ∧ t.msnapBad = s.msnapBad ∧ t.ports = s.ports ∧ t.stage = s.stage ∧ t.drvPowered = s.drvPowered ∧ t.macs = s.macs ∧
      t.eports = s.eports ∧ t.prtStat = s.prtStat ∧ t.swq = s.swq ∧ t.markers = s.markers ∧ t.policed = s.policed ∧ t.swcNotices =
      s.swcNotices ∧ t.samples = s.samples ∧ t.arrivals = s.arrivals ∧ t.epLtrActive = s.epLtrActive ∧ t.epQuarNotice = s.epQuarNotice ∧
      t.fuses = s.fuses ∧ t.flash = s.flash ∧ t.boot = s.boot ∧ t.tru = s.tru ∧ t.chain = s.chain ∧ t.mgt = s.mgt) ∧
    (∀ (p : NrtPkt) (s : State), Completes (.nrtProbe p) s fun t => t.pending = s.pending ∧ t.part = s.part ∧ t.lanes = s.lanes ∧
      t.chans = s.chans ∧ t.unacked = s.unacked ∧ t.rot = s.rot ∧ t.tim = s.tim ∧ t.evlog = s.evlog ∧ t.subs = s.subs ∧ t.freedNsids =
      s.freedNsids ∧ t.msnap = s.msnap ∧ t.msaved = s.msaved ∧ t.tsaved = s.tsaved ∧ t.msaveAt = s.msaveAt ∧ t.subnqn = s.subnqn ∧
      t.sbcWant = s.sbcWant ∧ t.sbcShift = s.sbcShift ∧ t.taskGrants = s.taskGrants ∧ t.periodAt = s.periodAt ∧ t.rebAt = s.rebAt ∧
      t.svy = s.svy ∧ t.badBlks = s.badBlks ∧ t.tcutSpent = s.tcutSpent ∧ t.rindex = s.rindex ∧ t.reshape = s.reshape ∧ t.frames =
      s.frames ∧ t.serials = s.serials ∧ t.dimms = s.dimms ∧ t.frameFails = s.frameFails ∧ t.fenceEnd = s.fenceEnd ∧ t.trimGather =
      s.trimGather ∧ t.msnapBad = s.msnapBad ∧ t.ports = s.ports ∧ t.stage = s.stage ∧ t.drvPowered = s.drvPowered ∧ t.macs = s.macs ∧
      t.eports = s.eports ∧ t.prtStat = s.prtStat ∧ t.swq = s.swq ∧ t.markers = s.markers ∧ t.policed = s.policed ∧ t.swcNotices =
      s.swcNotices ∧ t.samples = s.samples ∧ t.arrivals = s.arrivals ∧ t.epLtrActive = s.epLtrActive ∧ t.epQuarNotice = s.epQuarNotice ∧
      t.fuses = s.fuses ∧ t.flash = s.flash ∧ t.boot = s.boot ∧ t.tru = s.tru ∧ t.chain = s.chain ∧ t.mgt = s.mgt) ∧
    (∀ (cid : Nat) (s : State), Completes (.rtoExpiry cid) s fun t => { s with
      regs := t.regs, bench := t.bench, faultDeclared := t.faultDeclared, out := t.out, conns := t.conns, nss := t.nss, ctrls := t.ctrls,
      freedCtrls := t.freedCtrls, cmds := t.cmds, stalled := t.stalled, groups := t.groups, stripes := t.stripes, entryNotice := t.entryNotice,
      tally := t.tally, fixupds := t.fixupds, slots := t.slots, mcmds := t.mcmds, mwaits := t.mwaits, jobs := t.jobs, winops := t.winops, pends := t.pends,
      mirrorOut := t.mirrorOut, mseq := t.mseq, adminWaits := t.adminWaits, epfs := t.epfs, epReads := t.epReads, epFetches := t.epFetches,
      epTlpAt := t.epTlpAt, epL1 := t.epL1, epCmdAt := t.epCmdAt, pair := t.pair } = t) ∧
    (∀ (p : RocePkt) (s : State), Completes (.roceSend p) s fun t => t.pending = s.pending ∧ t.part = s.part ∧ t.lanes = s.lanes ∧
      t.chans = s.chans ∧ t.unacked = s.unacked ∧ t.rot = s.rot ∧ t.tim = s.tim ∧ t.evlog = s.evlog ∧ t.subs = s.subs ∧ t.freed =
      s.freed ∧ t.freedNsids = s.freedNsids ∧ t.msnap = s.msnap ∧ t.msaved = s.msaved ∧ t.tsaved = s.tsaved ∧ t.msaveAt = s.msaveAt ∧
      t.subnqn = s.subnqn ∧ t.sbcWant = s.sbcWant ∧ t.sbcShift = s.sbcShift ∧ t.taskGrants = s.taskGrants ∧ t.periodAt = s.periodAt ∧
      t.rebAt = s.rebAt ∧ t.svy = s.svy ∧ t.badBlks = s.badBlks ∧ t.tcutSpent = s.tcutSpent ∧ t.rindex = s.rindex ∧ t.reshape =
      s.reshape ∧ t.frames = s.frames ∧ t.serials = s.serials ∧ t.dimms = s.dimms ∧ t.frameFails = s.frameFails ∧ t.fenceEnd =
      s.fenceEnd ∧ t.trimGather = s.trimGather ∧ t.msnapBad = s.msnapBad ∧ t.ports = s.ports ∧ t.stage = s.stage ∧ t.drvPowered =
      s.drvPowered ∧ t.macs = s.macs ∧ t.eports = s.eports ∧ t.prtStat = s.prtStat ∧ t.swq = s.swq ∧ t.markers = s.markers ∧ t.policed =
      s.policed ∧ t.swcNotices = s.swcNotices ∧ t.samples = s.samples ∧ t.arrivals = s.arrivals ∧ t.epLtrActive = s.epLtrActive ∧
      t.epQuarNotice = s.epQuarNotice ∧ t.fuses = s.fuses ∧ t.flash = s.flash ∧ t.boot = s.boot ∧ t.tru = s.tru ∧ t.chain = s.chain ∧
      t.mgt = s.mgt) ∧
    (∀ (p : RocePkt) (s : State), Completes (.roceRdmaWrite p) s fun t => t.pending = s.pending ∧ t.part = s.part ∧ t.lanes = s.lanes
      ∧ t.chans = s.chans ∧ t.unacked = s.unacked ∧ t.rot = s.rot ∧ t.tim = s.tim ∧ t.evlog = s.evlog ∧ t.subs = s.subs ∧ t.freed =
      s.freed ∧ t.freedNsids = s.freedNsids ∧ t.msnap = s.msnap ∧ t.msaved = s.msaved ∧ t.tsaved = s.tsaved ∧ t.msaveAt = s.msaveAt ∧
      t.subnqn = s.subnqn ∧ t.sbcWant = s.sbcWant ∧ t.sbcShift = s.sbcShift ∧ t.taskGrants = s.taskGrants ∧ t.periodAt = s.periodAt ∧
      t.rebAt = s.rebAt ∧ t.svy = s.svy ∧ t.badBlks = s.badBlks ∧ t.tcutSpent = s.tcutSpent ∧ t.rindex = s.rindex ∧ t.reshape =
      s.reshape ∧ t.frames = s.frames ∧ t.serials = s.serials ∧ t.dimms = s.dimms ∧ t.frameFails = s.frameFails ∧ t.fenceEnd =
      s.fenceEnd ∧ t.trimGather = s.trimGather ∧ t.msnapBad = s.msnapBad ∧ t.ports = s.ports ∧ t.stage = s.stage ∧ t.drvPowered =
      s.drvPowered ∧ t.macs = s.macs ∧ t.eports = s.eports ∧ t.prtStat = s.prtStat ∧ t.swq = s.swq ∧ t.markers = s.markers ∧ t.policed =
      s.policed ∧ t.swcNotices = s.swcNotices ∧ t.samples = s.samples ∧ t.arrivals = s.arrivals ∧ t.epLtrActive = s.epLtrActive ∧
      t.epQuarNotice = s.epQuarNotice ∧ t.fuses = s.fuses ∧ t.flash = s.flash ∧ t.boot = s.boot ∧ t.tru = s.tru ∧ t.chain = s.chain ∧
      t.mgt = s.mgt) ∧
    (∀ (p : RocePkt) (s : State), Completes (.roceRdmaReadRequest p) s fun t => t.pending = s.pending ∧ t.part = s.part ∧ t.lanes =
      s.lanes ∧ t.chans = s.chans ∧ t.unacked = s.unacked ∧ t.rot = s.rot ∧ t.tim = s.tim ∧ t.evlog = s.evlog ∧ t.subs = s.subs ∧
      t.freed = s.freed ∧ t.freedNsids = s.freedNsids ∧ t.msnap = s.msnap ∧ t.msaved = s.msaved ∧ t.tsaved = s.tsaved ∧ t.msaveAt =
      s.msaveAt ∧ t.subnqn = s.subnqn ∧ t.sbcWant = s.sbcWant ∧ t.sbcShift = s.sbcShift ∧ t.taskGrants = s.taskGrants ∧ t.periodAt =
      s.periodAt ∧ t.rebAt = s.rebAt ∧ t.svy = s.svy ∧ t.badBlks = s.badBlks ∧ t.tcutSpent = s.tcutSpent ∧ t.rindex = s.rindex ∧
      t.reshape = s.reshape ∧ t.frames = s.frames ∧ t.serials = s.serials ∧ t.dimms = s.dimms ∧ t.frameFails = s.frameFails ∧ t.fenceEnd
      = s.fenceEnd ∧ t.trimGather = s.trimGather ∧ t.msnapBad = s.msnapBad ∧ t.ports = s.ports ∧ t.stage = s.stage ∧ t.drvPowered =
      s.drvPowered ∧ t.macs = s.macs ∧ t.eports = s.eports ∧ t.prtStat = s.prtStat ∧ t.swq = s.swq ∧ t.markers = s.markers ∧ t.policed =
      s.policed ∧ t.swcNotices = s.swcNotices ∧ t.samples = s.samples ∧ t.arrivals = s.arrivals ∧ t.epLtrActive = s.epLtrActive ∧
      t.epQuarNotice = s.epQuarNotice ∧ t.fuses = s.fuses ∧ t.flash = s.flash ∧ t.boot = s.boot ∧ t.tru = s.tru ∧ t.chain = s.chain ∧
      t.mgt = s.mgt) ∧
    (∀ (p : RocePkt) (s : State), Completes (.roceCompareSwap p) s fun t => t.pending = s.pending ∧ t.part = s.part ∧ t.lanes =
      s.lanes ∧ t.chans = s.chans ∧ t.unacked = s.unacked ∧ t.rot = s.rot ∧ t.tim = s.tim ∧ t.evlog = s.evlog ∧ t.subs = s.subs ∧
      t.freed = s.freed ∧ t.freedNsids = s.freedNsids ∧ t.msnap = s.msnap ∧ t.msaved = s.msaved ∧ t.tsaved = s.tsaved ∧ t.msaveAt =
      s.msaveAt ∧ t.subnqn = s.subnqn ∧ t.sbcWant = s.sbcWant ∧ t.sbcShift = s.sbcShift ∧ t.taskGrants = s.taskGrants ∧ t.periodAt =
      s.periodAt ∧ t.rebAt = s.rebAt ∧ t.svy = s.svy ∧ t.badBlks = s.badBlks ∧ t.tcutSpent = s.tcutSpent ∧ t.rindex = s.rindex ∧
      t.reshape = s.reshape ∧ t.frames = s.frames ∧ t.serials = s.serials ∧ t.dimms = s.dimms ∧ t.frameFails = s.frameFails ∧ t.fenceEnd
      = s.fenceEnd ∧ t.trimGather = s.trimGather ∧ t.msnapBad = s.msnapBad ∧ t.ports = s.ports ∧ t.stage = s.stage ∧ t.drvPowered =
      s.drvPowered ∧ t.macs = s.macs ∧ t.eports = s.eports ∧ t.prtStat = s.prtStat ∧ t.swq = s.swq ∧ t.markers = s.markers ∧ t.policed =
      s.policed ∧ t.swcNotices = s.swcNotices ∧ t.samples = s.samples ∧ t.arrivals = s.arrivals ∧ t.epLtrActive = s.epLtrActive ∧
      t.epQuarNotice = s.epQuarNotice ∧ t.fuses = s.fuses ∧ t.flash = s.flash ∧ t.boot = s.boot ∧ t.tru = s.tru ∧ t.chain = s.chain ∧
      t.mgt = s.mgt) ∧
    (∀ (p : RocePkt) (s : State), Completes (.roceFetchAdd p) s fun t => t.pending = s.pending ∧ t.part = s.part ∧ t.lanes = s.lanes ∧
      t.chans = s.chans ∧ t.unacked = s.unacked ∧ t.rot = s.rot ∧ t.tim = s.tim ∧ t.evlog = s.evlog ∧ t.subs = s.subs ∧ t.freed =
      s.freed ∧ t.freedNsids = s.freedNsids ∧ t.msnap = s.msnap ∧ t.msaved = s.msaved ∧ t.tsaved = s.tsaved ∧ t.msaveAt = s.msaveAt ∧
      t.subnqn = s.subnqn ∧ t.sbcWant = s.sbcWant ∧ t.sbcShift = s.sbcShift ∧ t.taskGrants = s.taskGrants ∧ t.periodAt = s.periodAt ∧
      t.rebAt = s.rebAt ∧ t.svy = s.svy ∧ t.badBlks = s.badBlks ∧ t.tcutSpent = s.tcutSpent ∧ t.rindex = s.rindex ∧ t.reshape =
      s.reshape ∧ t.frames = s.frames ∧ t.serials = s.serials ∧ t.dimms = s.dimms ∧ t.frameFails = s.frameFails ∧ t.fenceEnd =
      s.fenceEnd ∧ t.trimGather = s.trimGather ∧ t.msnapBad = s.msnapBad ∧ t.ports = s.ports ∧ t.stage = s.stage ∧ t.drvPowered =
      s.drvPowered ∧ t.macs = s.macs ∧ t.eports = s.eports ∧ t.prtStat = s.prtStat ∧ t.swq = s.swq ∧ t.markers = s.markers ∧ t.policed =
      s.policed ∧ t.swcNotices = s.swcNotices ∧ t.samples = s.samples ∧ t.arrivals = s.arrivals ∧ t.epLtrActive = s.epLtrActive ∧
      t.epQuarNotice = s.epQuarNotice ∧ t.fuses = s.fuses ∧ t.flash = s.flash ∧ t.boot = s.boot ∧ t.tru = s.tru ∧ t.chain = s.chain ∧
      t.mgt = s.mgt) ∧
    (∀ (p : RocePkt) (s : State), Completes (.roceReadResponse p) s fun t => t.pending = s.pending ∧ t.part = s.part ∧ t.lanes =
      s.lanes ∧ t.chans = s.chans ∧ t.unacked = s.unacked ∧ t.rot = s.rot ∧ t.tim = s.tim ∧ t.evlog = s.evlog ∧ t.subs = s.subs ∧
      t.freed = s.freed ∧ t.freedNsids = s.freedNsids ∧ t.msnap = s.msnap ∧ t.msaved = s.msaved ∧ t.tsaved = s.tsaved ∧ t.msaveAt =
      s.msaveAt ∧ t.subnqn = s.subnqn ∧ t.sbcWant = s.sbcWant ∧ t.sbcShift = s.sbcShift ∧ t.taskGrants = s.taskGrants ∧ t.periodAt =
      s.periodAt ∧ t.rebAt = s.rebAt ∧ t.svy = s.svy ∧ t.badBlks = s.badBlks ∧ t.tcutSpent = s.tcutSpent ∧ t.rindex = s.rindex ∧
      t.reshape = s.reshape ∧ t.frames = s.frames ∧ t.serials = s.serials ∧ t.dimms = s.dimms ∧ t.frameFails = s.frameFails ∧ t.fenceEnd
      = s.fenceEnd ∧ t.trimGather = s.trimGather ∧ t.msnapBad = s.msnapBad ∧ t.ports = s.ports ∧ t.stage = s.stage ∧ t.drvPowered =
      s.drvPowered ∧ t.macs = s.macs ∧ t.eports = s.eports ∧ t.prtStat = s.prtStat ∧ t.swq = s.swq ∧ t.markers = s.markers ∧ t.policed =
      s.policed ∧ t.swcNotices = s.swcNotices ∧ t.samples = s.samples ∧ t.arrivals = s.arrivals ∧ t.epLtrActive = s.epLtrActive ∧
      t.epQuarNotice = s.epQuarNotice ∧ t.fuses = s.fuses ∧ t.flash = s.flash ∧ t.boot = s.boot ∧ t.tru = s.tru ∧ t.chain = s.chain ∧
      t.mgt = s.mgt) ∧
    (∀ (qp : Nat) (psn : Nat) (a : Aeth) (ce : Bool) (s : State), Completes (.roceAcknowledge qp psn a ce) s fun t => t.pending =
      s.pending ∧ t.part = s.part ∧ t.lanes = s.lanes ∧ t.chans = s.chans ∧ t.unacked = s.unacked ∧ t.rot = s.rot ∧ t.tim = s.tim ∧
      t.evlog = s.evlog ∧ t.subs = s.subs ∧ t.freed = s.freed ∧ t.freedNsids = s.freedNsids ∧ t.msnap = s.msnap ∧ t.msaved = s.msaved ∧
      t.tsaved = s.tsaved ∧ t.msaveAt = s.msaveAt ∧ t.subnqn = s.subnqn ∧ t.sbcWant = s.sbcWant ∧ t.sbcShift = s.sbcShift ∧ t.taskGrants
      = s.taskGrants ∧ t.periodAt = s.periodAt ∧ t.rebAt = s.rebAt ∧ t.svy = s.svy ∧ t.badBlks = s.badBlks ∧ t.tcutSpent = s.tcutSpent ∧
      t.rindex = s.rindex ∧ t.reshape = s.reshape ∧ t.frames = s.frames ∧ t.serials = s.serials ∧ t.dimms = s.dimms ∧ t.frameFails =
      s.frameFails ∧ t.fenceEnd = s.fenceEnd ∧ t.trimGather = s.trimGather ∧ t.msnapBad = s.msnapBad ∧ t.ports = s.ports ∧ t.stage =
      s.stage ∧ t.drvPowered = s.drvPowered ∧ t.macs = s.macs ∧ t.eports = s.eports ∧ t.prtStat = s.prtStat ∧ t.swq = s.swq ∧ t.markers
      = s.markers ∧ t.policed = s.policed ∧ t.swcNotices = s.swcNotices ∧ t.samples = s.samples ∧ t.arrivals = s.arrivals ∧
      t.epLtrActive = s.epLtrActive ∧ t.epQuarNotice = s.epQuarNotice ∧ t.fuses = s.fuses ∧ t.flash = s.flash ∧ t.boot = s.boot ∧ t.tru
      = s.tru ∧ t.chain = s.chain ∧ t.mgt = s.mgt) ∧
    (∀ (qp : Nat) (psn : Nat) (original : Nat) (ce : Bool) (s : State), Completes (.roceAtomicAcknowledge qp psn original ce) s fun t
      => t.pending = s.pending ∧ t.part = s.part ∧ t.lanes = s.lanes ∧ t.chans = s.chans ∧ t.unacked = s.unacked ∧ t.rot = s.rot ∧ t.tim
      = s.tim ∧ t.evlog = s.evlog ∧ t.subs = s.subs ∧ t.freed = s.freed ∧ t.freedNsids = s.freedNsids ∧ t.msnap = s.msnap ∧ t.msaved =
      s.msaved ∧ t.tsaved = s.tsaved ∧ t.msaveAt = s.msaveAt ∧ t.subnqn = s.subnqn ∧ t.sbcWant = s.sbcWant ∧ t.sbcShift = s.sbcShift ∧
      t.taskGrants = s.taskGrants ∧ t.periodAt = s.periodAt ∧ t.rebAt = s.rebAt ∧ t.svy = s.svy ∧ t.badBlks = s.badBlks ∧ t.tcutSpent =
      s.tcutSpent ∧ t.rindex = s.rindex ∧ t.reshape = s.reshape ∧ t.frames = s.frames ∧ t.serials = s.serials ∧ t.dimms = s.dimms ∧
      t.frameFails = s.frameFails ∧ t.fenceEnd = s.fenceEnd ∧ t.trimGather = s.trimGather ∧ t.msnapBad = s.msnapBad ∧ t.ports = s.ports
      ∧ t.stage = s.stage ∧ t.drvPowered = s.drvPowered ∧ t.macs = s.macs ∧ t.eports = s.eports ∧ t.prtStat = s.prtStat ∧ t.swq = s.swq
      ∧ t.markers = s.markers ∧ t.policed = s.policed ∧ t.swcNotices = s.swcNotices ∧ t.samples = s.samples ∧ t.arrivals = s.arrivals ∧
      t.epLtrActive = s.epLtrActive ∧ t.epQuarNotice = s.epQuarNotice ∧ t.fuses = s.fuses ∧ t.flash = s.flash ∧ t.boot = s.boot ∧ t.tru
      = s.tru ∧ t.chain = s.chain ∧ t.mgt = s.mgt) ∧
    (∀ (qp : Nat) (s : State), Completes (.roceCnp qp) s fun t => t.pending = s.pending ∧ t.part = s.part ∧ t.lanes = s.lanes ∧
      t.chans = s.chans ∧ t.unacked = s.unacked ∧ t.rot = s.rot ∧ t.tim = s.tim ∧ t.evlog = s.evlog ∧ t.subs = s.subs ∧ t.freed =
      s.freed ∧ t.freedNsids = s.freedNsids ∧ t.msnap = s.msnap ∧ t.msaved = s.msaved ∧ t.tsaved = s.tsaved ∧ t.msaveAt = s.msaveAt ∧
      t.subnqn = s.subnqn ∧ t.sbcWant = s.sbcWant ∧ t.sbcShift = s.sbcShift ∧ t.taskGrants = s.taskGrants ∧ t.periodAt = s.periodAt ∧
      t.rebAt = s.rebAt ∧ t.svy = s.svy ∧ t.badBlks = s.badBlks ∧ t.tcutSpent = s.tcutSpent ∧ t.rindex = s.rindex ∧ t.reshape =
      s.reshape ∧ t.frames = s.frames ∧ t.serials = s.serials ∧ t.dimms = s.dimms ∧ t.frameFails = s.frameFails ∧ t.fenceEnd =
      s.fenceEnd ∧ t.trimGather = s.trimGather ∧ t.msnapBad = s.msnapBad ∧ t.ports = s.ports ∧ t.stage = s.stage ∧ t.drvPowered =
      s.drvPowered ∧ t.macs = s.macs ∧ t.eports = s.eports ∧ t.prtStat = s.prtStat ∧ t.swq = s.swq ∧ t.markers = s.markers ∧ t.policed =
      s.policed ∧ t.swcNotices = s.swcNotices ∧ t.samples = s.samples ∧ t.arrivals = s.arrivals ∧ t.epLtrActive = s.epLtrActive ∧
      t.epQuarNotice = s.epQuarNotice ∧ t.fuses = s.fuses ∧ t.flash = s.flash ∧ t.boot = s.boot ∧ t.tru = s.tru ∧ t.chain = s.chain ∧
      t.mgt = s.mgt) ∧
    (∀ (qp : Nat) (s : State), Completes (.roceAckTimeout qp) s fun t => { s with
      regs := t.regs, bench := t.bench, faultDeclared := t.faultDeclared, out := t.out, conns := t.conns, nss := t.nss, ctrls := t.ctrls,
      freedCtrls := t.freedCtrls, cmds := t.cmds, stalled := t.stalled, groups := t.groups, stripes := t.stripes, entryNotice := t.entryNotice,
      tally := t.tally, fixupds := t.fixupds, slots := t.slots, mcmds := t.mcmds, mwaits := t.mwaits, jobs := t.jobs, winops := t.winops, pends := t.pends,
      mirrorOut := t.mirrorOut, mseq := t.mseq, adminWaits := t.adminWaits, epfs := t.epfs, epReads := t.epReads, epFetches := t.epFetches,
      epTlpAt := t.epTlpAt, epL1 := t.epL1, epCmdAt := t.epCmdAt, pair := t.pair } = t) ∧
    (∀ (qp : Nat) (s : State), Completes (.cmRtu qp) s fun t => t.pending = s.pending ∧ t.part = s.part ∧ t.lanes = s.lanes ∧ t.chans
      = s.chans ∧ t.unacked = s.unacked ∧ t.rot = s.rot ∧ t.tim = s.tim ∧ t.evlog = s.evlog ∧ t.subs = s.subs ∧ t.freed = s.freed ∧
      t.freedNsids = s.freedNsids ∧ t.msnap = s.msnap ∧ t.msaved = s.msaved ∧ t.tsaved = s.tsaved ∧ t.msaveAt = s.msaveAt ∧ t.subnqn =
      s.subnqn ∧ t.sbcWant = s.sbcWant ∧ t.sbcShift = s.sbcShift ∧ t.taskGrants = s.taskGrants ∧ t.periodAt = s.periodAt ∧ t.rebAt =
      s.rebAt ∧ t.svy = s.svy ∧ t.badBlks = s.badBlks ∧ t.tcutSpent = s.tcutSpent ∧ t.rindex = s.rindex ∧ t.reshape = s.reshape ∧
      t.frames = s.frames ∧ t.serials = s.serials ∧ t.dimms = s.dimms ∧ t.frameFails = s.frameFails ∧ t.fenceEnd = s.fenceEnd ∧
      t.trimGather = s.trimGather ∧ t.msnapBad = s.msnapBad ∧ t.ports = s.ports ∧ t.stage = s.stage ∧ t.drvPowered = s.drvPowered ∧
      t.macs = s.macs ∧ t.eports = s.eports ∧ t.prtStat = s.prtStat ∧ t.swq = s.swq ∧ t.markers = s.markers ∧ t.policed = s.policed ∧
      t.swcNotices = s.swcNotices ∧ t.samples = s.samples ∧ t.arrivals = s.arrivals ∧ t.epLtrActive = s.epLtrActive ∧ t.epQuarNotice =
      s.epQuarNotice ∧ t.fuses = s.fuses ∧ t.flash = s.flash ∧ t.boot = s.boot ∧ t.tru = s.tru ∧ t.chain = s.chain ∧ t.mgt = s.mgt) ∧
    (∀ (qp : Nat) (s : State), Completes (.cmDreq qp) s fun t => { s with
      regs := t.regs, bench := t.bench, faultDeclared := t.faultDeclared, out := t.out, conns := t.conns, freed := t.freed, nss := t.nss, ctrls := t.ctrls,
      freedCtrls := t.freedCtrls, cmds := t.cmds, stalled := t.stalled, groups := t.groups, stripes := t.stripes, entryNotice := t.entryNotice,
      tally := t.tally, fixupds := t.fixupds, slots := t.slots, mcmds := t.mcmds, mwaits := t.mwaits, jobs := t.jobs, winops := t.winops, pends := t.pends,
      mirrorOut := t.mirrorOut, mseq := t.mseq, adminWaits := t.adminWaits, epfs := t.epfs, epReads := t.epReads, epFetches := t.epFetches,
      epTlpAt := t.epTlpAt, epL1 := t.epL1, epCmdAt := t.epCmdAt, pair := t.pair } = t) ∧
    (∀ (cid : Nat) (s : State), Completes (.contextFetchDone cid) s fun t => t.pending = s.pending ∧ t.part = s.part ∧ t.lanes =
      s.lanes ∧ t.chans = s.chans ∧ t.unacked = s.unacked ∧ t.rot = s.rot ∧ t.tim = s.tim ∧ t.evlog = s.evlog ∧ t.subs = s.subs ∧
      t.freedNsids = s.freedNsids ∧ t.msnap = s.msnap ∧ t.msaved = s.msaved ∧ t.tsaved = s.tsaved ∧ t.msaveAt = s.msaveAt ∧ t.subnqn =
      s.subnqn ∧ t.sbcWant = s.sbcWant ∧ t.sbcShift = s.sbcShift ∧ t.taskGrants = s.taskGrants ∧ t.periodAt = s.periodAt ∧ t.rebAt =
      s.rebAt ∧ t.svy = s.svy ∧ t.badBlks = s.badBlks ∧ t.tcutSpent = s.tcutSpent ∧ t.rindex = s.rindex ∧ t.reshape = s.reshape ∧
      t.frames = s.frames ∧ t.serials = s.serials ∧ t.dimms = s.dimms ∧ t.frameFails = s.frameFails ∧ t.fenceEnd = s.fenceEnd ∧
      t.trimGather = s.trimGather ∧ t.msnapBad = s.msnapBad ∧ t.ports = s.ports ∧ t.stage = s.stage ∧ t.drvPowered = s.drvPowered ∧
      t.macs = s.macs ∧ t.eports = s.eports ∧ t.prtStat = s.prtStat ∧ t.swq = s.swq ∧ t.markers = s.markers ∧ t.policed = s.policed ∧
      t.swcNotices = s.swcNotices ∧ t.samples = s.samples ∧ t.arrivals = s.arrivals ∧ t.epLtrActive = s.epLtrActive ∧ t.epQuarNotice =
      s.epQuarNotice ∧ t.fuses = s.fuses ∧ t.flash = s.flash ∧ t.boot = s.boot ∧ t.tru = s.tru ∧ t.chain = s.chain ∧ t.mgt = s.mgt)

/-- Each command of windows, the cache, I/O commands and reservations completes, and everything but the pieces of state named for it stays as it was. -/
def Obligations.WindowAndIoFields : Prop :=
    (∀ (v : NvmeCmd) (s : State), Completes (.setFeaturesWindowPublish v) s fun t => { s with
      regs := t.regs, bench := t.bench, faultDeclared := t.faultDeclared, out := t.out, conns := t.conns, nss := t.nss, ctrls := t.ctrls, cmds := t.cmds,
      stalled := t.stalled, nextCmd := t.nextCmd, windows := t.windows, notices := t.notices, mirrorOut := t.mirrorOut, mseq := t.mseq, epfs := t.epfs,
      epReads := t.epReads, epTlpAt := t.epTlpAt, epL1 := t.epL1, epCmdAt := t.epCmdAt, pair := t.pair } = t) ∧
    (∀ (v : NvmeCmd) (s : State), Completes (.setFeaturesWindowRevoke v) s fun t => { s with
      regs := t.regs, bench := t.bench, faultDeclared := t.faultDeclared, out := t.out, conns := t.conns, nss := t.nss, ctrls := t.ctrls, cmds := t.cmds,
      stalled := t.stalled, nextCmd := t.nextCmd, groups := t.groups, stripes := t.stripes, entryNotice := t.entryNotice, tally := t.tally,
      fixupds := t.fixupds, mcmds := t.mcmds, mwaits := t.mwaits, nextJob := t.nextJob, windows := t.windows, winops := t.winops, pends := t.pends,
      lines := t.lines, sectors := t.sectors, maint := t.maint, notices := t.notices, mirrorOut := t.mirrorOut, mseq := t.mseq, epfs := t.epfs,
      epReads := t.epReads, epTlpAt := t.epTlpAt, epL1 := t.epL1, epCmdAt := t.epCmdAt, pair := t.pair } = t) ∧
    (∀ (v : NvmeCmd) (s : State), Completes (.getFeaturesWindow v) s fun t => { s with
      regs := t.regs, bench := t.bench, faultDeclared := t.faultDeclared, out := t.out, conns := t.conns, nss := t.nss, ctrls := t.ctrls, cmds := t.cmds,
      stalled := t.stalled, nextCmd := t.nextCmd, notices := t.notices, mirrorOut := t.mirrorOut, mseq := t.mseq, epfs := t.epfs, epReads := t.epReads,
      epTlpAt := t.epTlpAt, epL1 := t.epL1, epCmdAt := t.epCmdAt, pair := t.pair } = t) ∧
    (∀ (index : Nat) (s : State), Completes (.windowRevokeComplete index) s fun t => { s with
      regs := t.regs, out := t.out, conns := t.conns, nss := t.nss, ctrls := t.ctrls, cmds := t.cmds, stalled := t.stalled, windows := t.windows,
      mirrorOut := t.mirrorOut, mseq := t.mseq, epfs := t.epfs, epReads := t.epReads, epTlpAt := t.epTlpAt, epL1 := t.epL1, epCmdAt := t.epCmdAt, pair := t.pair
      } = t) ∧
    (∀ (nsid : Nat) (lba : Nat) (s : State), Completes (.windowWritebackTimer nsid lba) s fun t => { s with
      regs := t.regs, bench := t.bench, faultDeclared := t.faultDeclared, out := t.out, conns := t.conns, nss := t.nss, ctrls := t.ctrls, cmds := t.cmds,
      stalled := t.stalled, groups := t.groups, stripes := t.stripes, entryNotice := t.entryNotice, tally := t.tally, fixupds := t.fixupds, mcmds := t.mcmds,
      mwaits := t.mwaits, nextJob := t.nextJob, winops := t.winops, lines := t.lines, sectors := t.sectors, maint := t.maint, mirrorOut := t.mirrorOut,
      mseq := t.mseq, epfs := t.epfs, epReads := t.epReads, epTlpAt := t.epTlpAt, epL1 := t.epL1, epCmdAt := t.epCmdAt, pair := t.pair } = t) ∧
    (∀ (op : Nat) (s : State), Completes (.windowCeilingEligible op) s fun t => { s with
      regs := t.regs, bench := t.bench, faultDeclared := t.faultDeclared, out := t.out, conns := t.conns, nss := t.nss, ctrls := t.ctrls, cmds := t.cmds,
      stalled := t.stalled, groups := t.groups, stripes := t.stripes, entryNotice := t.entryNotice, tally := t.tally, fixupds := t.fixupds, mcmds := t.mcmds,
      mwaits := t.mwaits, nextJob := t.nextJob, winops := t.winops, nextVer := t.nextVer, pends := t.pends, lines := t.lines, sectors := t.sectors,
      maint := t.maint, notices := t.notices, mirrorOut := t.mirrorOut, mseq := t.mseq, epfs := t.epfs, epReads := t.epReads, epTlpAt := t.epTlpAt,
      epL1 := t.epL1, epCmdAt := t.epCmdAt, pair := t.pair } = t) ∧
    (∀ (nsid : Nat) (lba : Nat) (fails : List BurstFail) (s : State), Completes (.lineFillDone nsid lba fails) s fun t => { s with
      regs := t.regs, bench := t.bench, faultDeclared := t.faultDeclared, evlog := t.evlog, out := t.out, conns := t.conns, nss := t.nss, ctrls := t.ctrls,
      freedCtrls := t.freedCtrls, cmds := t.cmds, stalled := t.stalled, groups := t.groups, stripes := t.stripes, entryNotice := t.entryNotice,
      objs := t.objs, tally := t.tally, fixupds := t.fixupds, slots := t.slots, mcmds := t.mcmds, mwaits := t.mwaits, jobs := t.jobs, nextJob := t.nextJob,
      windows := t.windows, winops := t.winops, nextVer := t.nextVer, pends := t.pends, lines := t.lines, sectors := t.sectors, maint := t.maint,
      notices := t.notices, frames := t.frames, frameFails := t.frameFails, mirrorOut := t.mirrorOut, mseq := t.mseq, msnapBad := t.msnapBad,
      imgDamaged := t.imgDamaged, adminWaits := t.adminWaits, epfs := t.epfs, epReads := t.epReads, epFetches := t.epFetches, epTlpAt := t.epTlpAt,
      epL1 := t.epL1, epCmdAt := t.epCmdAt, pair := t.pair } = t) ∧
    (∀ (nsid : Nat) (lba : Nat) (s : State), Completes (.lineWritebackDone nsid lba) s fun t => { s with
      regs := t.regs, bench := t.bench, faultDeclared := t.faultDeclared, out := t.out, conns := t.conns, nss := t.nss, ctrls := t.ctrls, cmds := t.cmds,
      stalled := t.stalled, groups := t.groups, stripes := t.stripes, entryNotice := t.entryNotice, tally := t.tally, fixupds := t.fixupds, mcmds := t.mcmds,
      mwaits := t.mwaits, nextJob := t.nextJob, winops := t.winops, nextVer := t.nextVer, pends := t.pends, lines := t.lines, sectors := t.sectors,
      maint := t.maint, notices := t.notices, mirrorOut := t.mirrorOut, mseq := t.mseq, epfs := t.epfs, epReads := t.epReads, epTlpAt := t.epTlpAt,
      epL1 := t.epL1, epCmdAt := t.epCmdAt, pair := t.pair } = t) ∧
    (∀ (s : State), Completes .cacheClrEn s fun t => { s with
      regs := t.regs, bench := t.bench, faultDeclared := t.faultDeclared, out := t.out, conns := t.conns, nss := t.nss, ctrls := t.ctrls, cmds := t.cmds,
      stalled := t.stalled, groups := t.groups, stripes := t.stripes, entryNotice := t.entryNotice, tally := t.tally, fixupds := t.fixupds, mcmds := t.mcmds,
      mwaits := t.mwaits, nextJob := t.nextJob, winops := t.winops, lines := t.lines, sectors := t.sectors, maint := t.maint, mirrorOut := t.mirrorOut,
      mseq := t.mseq, epfs := t.epfs, epReads := t.epReads, epTlpAt := t.epTlpAt, epL1 := t.epL1, epCmdAt := t.epCmdAt, pair := t.pair, live := t.live } = t) ∧
    (∀ (all : Bool) (s : State), Completes (.mntClean all) s fun t => { s with
      regs := t.regs, bench := t.bench, faultDeclared := t.faultDeclared, out := t.out, conns := t.conns, nss := t.nss, ctrls := t.ctrls, cmds := t.cmds,
      stalled := t.stalled, groups := t.groups, stripes := t.stripes, entryNotice := t.entryNotice, tally := t.tally, fixupds := t.fixupds, mcmds := t.mcmds,
      mwaits := t.mwaits, nextJob := t.nextJob, winops := t.winops, lines := t.lines, sectors := t.sectors, maint := t.maint, mirrorOut := t.mirrorOut,
      mseq := t.mseq, epfs := t.epfs, epReads := t.epReads, epTlpAt := t.epTlpAt, epL1 := t.epL1, epCmdAt := t.epCmdAt, pair := t.pair, live := t.live } = t) ∧
    (∀ (all : Bool) (s : State), Completes (.mntInvalidate all) s fun t => { s with
      regs := t.regs, bench := t.bench, faultDeclared := t.faultDeclared, out := t.out, conns := t.conns, nss := t.nss, ctrls := t.ctrls, cmds := t.cmds,
      stalled := t.stalled, groups := t.groups, stripes := t.stripes, entryNotice := t.entryNotice, tally := t.tally, fixupds := t.fixupds, mcmds := t.mcmds,
      mwaits := t.mwaits, nextJob := t.nextJob, winops := t.winops, lines := t.lines, sectors := t.sectors, maint := t.maint, mirrorOut := t.mirrorOut,
      mseq := t.mseq, epfs := t.epfs, epReads := t.epReads, epTlpAt := t.epTlpAt, epL1 := t.epL1, epCmdAt := t.epCmdAt, pair := t.pair, live := t.live } = t) ∧
    (∀ (s : State), Completes .mntComplete s fun t => { s with
      regs := t.regs, bench := t.bench, faultDeclared := t.faultDeclared, out := t.out, conns := t.conns, nss := t.nss, ctrls := t.ctrls, cmds := t.cmds,
      stalled := t.stalled, groups := t.groups, stripes := t.stripes, entryNotice := t.entryNotice, tally := t.tally, fixupds := t.fixupds, mcmds := t.mcmds,
      mwaits := t.mwaits, nextJob := t.nextJob, winops := t.winops, lines := t.lines, sectors := t.sectors, maint := t.maint, mirrorOut := t.mirrorOut,
      mseq := t.mseq, epfs := t.epfs, epReads := t.epReads, epTlpAt := t.epTlpAt, epL1 := t.epL1, epCmdAt := t.epCmdAt, pair := t.pair } = t) ∧
    (∀ (v : NvmeCmd) (s : State), Completes (.nvmeFlush v) s fun t => { s with
      regs := t.regs, bench := t.bench, faultDeclared := t.faultDeclared, out := t.out, conns := t.conns, nss := t.nss, ctrls := t.ctrls, cmds := t.cmds,
      stalled := t.stalled, nextCmd := t.nextCmd, notices := t.notices, mirrorOut := t.mirrorOut, mseq := t.mseq, epfs := t.epfs, epReads := t.epReads,
      epTlpAt := t.epTlpAt, epL1 := t.epL1, epCmdAt := t.epCmdAt, pair := t.pair } = t) ∧
    (∀ (v : NvmeCmd) (s : State), Completes (.nvmeWrite v) s fun t => { s with
      regs := t.regs, bench := t.bench, faultDeclared := t.faultDeclared, out := t.out, conns := t.conns, nss := t.nss, ctrls := t.ctrls, cmds := t.cmds,
      stalled := t.stalled, nextCmd := t.nextCmd, notices := t.notices, mirrorOut := t.mirrorOut, mseq := t.mseq, epfs := t.epfs, epReads := t.epReads,
      epTlpAt := t.epTlpAt, epL1 := t.epL1, epCmdAt := t.epCmdAt, pair := t.pair } = t) ∧
    (∀ (v : NvmeCmd) (s : State), Completes (.nvmeRead v) s fun t => { s with
      regs := t.regs, bench := t.bench, faultDeclared := t.faultDeclared, out := t.out, conns := t.conns, nss := t.nss, ctrls := t.ctrls, cmds := t.cmds,
      stalled := t.stalled, nextCmd := t.nextCmd, notices := t.notices, mirrorOut := t.mirrorOut, mseq := t.mseq, epfs := t.epfs, epReads := t.epReads,
      epTlpAt := t.epTlpAt, epL1 := t.epL1, epCmdAt := t.epCmdAt, pair := t.pair } = t) ∧
    (∀ (v : NvmeCmd) (s : State), Completes (.nvmeCompare v) s fun t => { s with
      regs := t.regs, bench := t.bench, faultDeclared := t.faultDeclared, out := t.out, conns := t.conns, nss := t.nss, ctrls := t.ctrls, cmds := t.cmds,
      stalled := t.stalled, nextCmd := t.nextCmd, notices := t.notices, mirrorOut := t.mirrorOut, mseq := t.mseq, epfs := t.epfs, epReads := t.epReads,
      epTlpAt := t.epTlpAt, epL1 := t.epL1, epCmdAt := t.epCmdAt, pair := t.pair } = t) ∧
    (∀ (v : NvmeCmd) (s : State), Completes (.nvmeWriteZeroes v) s fun t => { s with
      regs := t.regs, bench := t.bench, faultDeclared := t.faultDeclared, out := t.out, conns := t.conns, nss := t.nss, ctrls := t.ctrls, cmds := t.cmds,
      stalled := t.stalled, nextCmd := t.nextCmd, notices := t.notices, mirrorOut := t.mirrorOut, mseq := t.mseq, epfs := t.epfs, epReads := t.epReads,
      epTlpAt := t.epTlpAt, epL1 := t.epL1, epCmdAt := t.epCmdAt, pair := t.pair } = t) ∧
    (∀ (v : NvmeCmd) (s : State), Completes (.nvmeDatasetManagement v) s fun t => { s with
      regs := t.regs, bench := t.bench, faultDeclared := t.faultDeclared, out := t.out, conns := t.conns, nss := t.nss, ctrls := t.ctrls, cmds := t.cmds,
      stalled := t.stalled, nextCmd := t.nextCmd, notices := t.notices, mirrorOut := t.mirrorOut, mseq := t.mseq, epfs := t.epfs, epReads := t.epReads,
      epTlpAt := t.epTlpAt, epL1 := t.epL1, epCmdAt := t.epCmdAt, pair := t.pair } = t) ∧
    (∀ (v : NvmeCmd) (s : State), Completes (.nvmeVerify v) s fun t => { s with
      regs := t.regs, bench := t.bench, faultDeclared := t.faultDeclared, out := t.out, conns := t.conns, nss := t.nss, ctrls := t.ctrls, cmds := t.cmds,
      stalled := t.stalled, nextCmd := t.nextCmd, notices := t.notices, mirrorOut := t.mirrorOut, mseq := t.mseq, epfs := t.epfs, epReads := t.epReads,
      epTlpAt := t.epTlpAt, epL1 := t.epL1, epCmdAt := t.epCmdAt, pair := t.pair } = t) ∧
    (∀ (role : Nat) (s : State), Completes (.commandAdmission role) s fun t => { s with
      regs := t.regs, bench := t.bench, faultDeclared := t.faultDeclared, out := t.out, conns := t.conns, nss := t.nss, ctrls := t.ctrls, cmds := t.cmds,
      stalled := t.stalled, roleV := t.roleV, grants := t.grants, groups := t.groups, stripes := t.stripes, entryNotice := t.entryNotice, tally := t.tally,
      fixupds := t.fixupds, slots := t.slots, mcmds := t.mcmds, mwaits := t.mwaits, nextJob := t.nextJob, winops := t.winops, lines := t.lines,
      sectors := t.sectors, maint := t.maint, notices := t.notices, mirrorOut := t.mirrorOut, mseq := t.mseq, adminWaits := t.adminWaits, epfs := t.epfs,
      epReads := t.epReads, epFetches := t.epFetches, epTlpAt := t.epTlpAt, epL1 := t.epL1, epCmdAt := t.epCmdAt, pair := t.pair } = t) ∧
    (∀ (id : Nat) (dataOk : Bool) (s : State), Completes (.commandDispatch id dataOk) s fun t => { s with
      regs := t.regs, bench := t.bench, faultDeclared := t.faultDeclared, out := t.out, conns := t.conns, nss := t.nss, ctrls := t.ctrls, cmds := t.cmds,
      stalled := t.stalled, groups := t.groups, stripes := t.stripes, entryNotice := t.entryNotice, pendings := t.pendings, objs := t.objs, tally := t.tally,
      fixupds := t.fixupds, fixblks := t.fixblks, slots := t.slots, mcmds := t.mcmds, mwaits := t.mwaits, jobs := t.jobs, nextJob := t.nextJob,
      lines := t.lines, sectors := t.sectors, notices := t.notices, mirrorOut := t.mirrorOut, mseq := t.mseq, epfs := t.epfs, epReads := t.epReads,
      epFetches := t.epFetches, epTlpAt := t.epTlpAt, epL1 := t.epL1, epCmdAt := t.epCmdAt, pair := t.pair } = t) ∧
    (∀ (id : Nat) (s : State), Completes (.commandCompletion id) s fun t => { s with
      regs := t.regs, bench := t.bench, faultDeclared := t.faultDeclared, out := t.out, freeCount := t.freeCount, conns := t.conns, nss := t.nss,
      freedNsids := t.freedNsids, tenants := t.tenants, msaved := t.msaved, ctrls := t.ctrls, cmds := t.cmds, stalled := t.stalled, groups := t.groups,
      stripes := t.stripes, entryNotice := t.entryNotice, survey := t.survey, pendings := t.pendings, objs := t.objs, sweeps := t.sweeps, tally := t.tally,
      fixupds := t.fixupds, fixblks := t.fixblks, slots := t.slots, mcmds := t.mcmds, mwaits := t.mwaits, jobs := t.jobs, nextJob := t.nextJob,
      windows := t.windows, winops := t.winops, nextVer := t.nextVer, pends := t.pends, lines := t.lines, sectors := t.sectors, maint := t.maint,
      notices := t.notices, mirrorOut := t.mirrorOut, mseq := t.mseq, keyTab := t.keyTab, cips := t.cips, adminWaits := t.adminWaits, epfs := t.epfs,
      epReads := t.epReads, epFetches := t.epFetches, epTlpAt := t.epTlpAt, epL1 := t.epL1, epCmdAt := t.epCmdAt, pair := t.pair } = t) ∧
    (∀ (v : NvmeCmd) (s : State), Completes (.reservationRegister v) s fun t => { s with
      regs := t.regs, bench := t.bench, faultDeclared := t.faultDeclared, out := t.out, conns := t.conns, nss := t.nss, ctrls := t.ctrls, cmds := t.cmds,
      stalled := t.stalled, nextCmd := t.nextCmd, groups := t.groups, stripes := t.stripes, entryNotice := t.entryNotice, tally := t.tally, slots := t.slots,
      notices := t.notices, mirrorOut := t.mirrorOut, mseq := t.mseq, adminWaits := t.adminWaits, epfs := t.epfs, epReads := t.epReads, epTlpAt := t.epTlpAt,
      epL1 := t.epL1, epCmdAt := t.epCmdAt, pair := t.pair } = t) ∧
    (∀ (v : NvmeCmd) (s : State), Completes (.reservationReport v) s fun t => { s with
      regs := t.regs, bench := t.bench, faultDeclared := t.faultDeclared, out := t.out, conns := t.conns, nss := t.nss, ctrls := t.ctrls, cmds := t.cmds,
      stalled := t.stalled, nextCmd := t.nextCmd, groups := t.groups, stripes := t.stripes, entryNotice := t.entryNotice, tally := t.tally, slots := t.slots,
      notices := t.notices, mirrorOut := t.mirrorOut, mseq := t.mseq, adminWaits := t.adminWaits, epfs := t.epfs, epReads := t.epReads, epTlpAt := t.epTlpAt,
      epL1 := t.epL1, epCmdAt := t.epCmdAt, pair := t.pair } = t) ∧
    (∀ (v : NvmeCmd) (s : State), Completes (.reservationAcquire v) s fun t => { s with
      regs := t.regs, bench := t.bench, faultDeclared := t.faultDeclared, out := t.out, conns := t.conns, nss := t.nss, ctrls := t.ctrls, cmds := t.cmds,
      stalled := t.stalled, nextCmd := t.nextCmd, groups := t.groups, stripes := t.stripes, entryNotice := t.entryNotice, tally := t.tally, slots := t.slots,
      notices := t.notices, mirrorOut := t.mirrorOut, mseq := t.mseq, adminWaits := t.adminWaits, epfs := t.epfs, epReads := t.epReads, epTlpAt := t.epTlpAt,
      epL1 := t.epL1, epCmdAt := t.epCmdAt, pair := t.pair } = t) ∧
    (∀ (v : NvmeCmd) (s : State), Completes (.reservationRelease v) s fun t => { s with
      regs := t.regs, bench := t.bench, faultDeclared := t.faultDeclared, out := t.out, conns := t.conns, nss := t.nss, ctrls := t.ctrls, cmds := t.cmds,
      stalled := t.stalled, nextCmd := t.nextCmd, groups := t.groups, stripes := t.stripes, entryNotice := t.entryNotice, tally := t.tally, slots := t.slots,
      notices := t.notices, mirrorOut := t.mirrorOut, mseq := t.mseq, adminWaits := t.adminWaits, epfs := t.epfs, epReads := t.epReads, epTlpAt := t.epTlpAt,
      epL1 := t.epL1, epCmdAt := t.epCmdAt, pair := t.pair } = t)

/-- Each command of the admin queue completes, and everything but the pieces of state named for it stays as it was. -/
def Obligations.AdminFields : Prop :=
    (∀ (v : NvmeCmd) (s : State), Completes (.propertyGet v) s fun t => { s with
      regs := t.regs, bench := t.bench, faultDeclared := t.faultDeclared, out := t.out, conns := t.conns, nss := t.nss, ctrls := t.ctrls, cmds := t.cmds,
      stalled := t.stalled, nextCmd := t.nextCmd, notices := t.notices, mirrorOut := t.mirrorOut, mseq := t.mseq, epfs := t.epfs, epReads := t.epReads,
      epTlpAt := t.epTlpAt, epL1 := t.epL1, epCmdAt := t.epCmdAt, pair := t.pair } = t) ∧
    (∀ (v : NvmeCmd) (s : State), Completes (.propertySet v) s fun t => { s with
      regs := t.regs, bench := t.bench, faultDeclared := t.faultDeclared, out := t.out, conns := t.conns, nss := t.nss, ctrls := t.ctrls, cmds := t.cmds,
      stalled := t.stalled, nextCmd := t.nextCmd, notices := t.notices, mirrorOut := t.mirrorOut, mseq := t.mseq, epfs := t.epfs, epReads := t.epReads,
      epTlpAt := t.epTlpAt, epL1 := t.epL1, epCmdAt := t.epCmdAt, pair := t.pair } = t) ∧
    (∀ (v : NvmeCmd) (s : State), Completes (.propertySetCcEnClear v) s fun t => { s with
      regs := t.regs, bench := t.bench, faultDeclared := t.faultDeclared, out := t.out, conns := t.conns, nss := t.nss, ctrls := t.ctrls,
      freedCtrls := t.freedCtrls, cmds := t.cmds, stalled := t.stalled, nextCmd := t.nextCmd, groups := t.groups, stripes := t.stripes,
      entryNotice := t.entryNotice, tally := t.tally, fixupds := t.fixupds, slots := t.slots, mcmds := t.mcmds, mwaits := t.mwaits, jobs := t.jobs,
      winops := t.winops, pends := t.pends, notices := t.notices, mirrorOut := t.mirrorOut, mseq := t.mseq, adminWaits := t.adminWaits, epfs := t.epfs,
      epReads := t.epReads, epFetches := t.epFetches, epTlpAt := t.epTlpAt, epL1 := t.epL1, epCmdAt := t.epCmdAt, pair := t.pair } = t) ∧
    (∀ (v : NvmeCmd) (s : State), Completes (.propertySetCcShn v) s fun t => { s with
      regs := t.regs, bench := t.bench, faultDeclared := t.faultDeclared, out := t.out, conns := t.conns, nss := t.nss, ctrls := t.ctrls, cmds := t.cmds,
      stalled := t.stalled, nextCmd := t.nextCmd, groups := t.groups, stripes := t.stripes, entryNotice := t.entryNotice, tally := t.tally,
      fixupds := t.fixupds, slots := t.slots, mcmds := t.mcmds, mwaits := t.mwaits, jobs := t.jobs, notices := t.notices, mirrorOut := t.mirrorOut,
      mseq := t.mseq, adminWaits := t.adminWaits, epfs := t.epfs, epReads := t.epReads, epFetches := t.epFetches, epTlpAt := t.epTlpAt, epL1 := t.epL1,
      epCmdAt := t.epCmdAt, pair := t.pair } = t) ∧
    (∀ (v : NvmeCmd) (s : State), Completes (.propertySetNssr v) s fun t => { s with
      regs := t.regs, bench := t.bench, faultDeclared := t.faultDeclared, out := t.out, conns := t.conns, nss := t.nss, ctrls := t.ctrls,
      freedCtrls := t.freedCtrls, cmds := t.cmds, stalled := t.stalled, nextCmd := t.nextCmd, groups := t.groups, stripes := t.stripes,
      entryNotice := t.entryNotice, tally := t.tally, fixupds := t.fixupds, slots := t.slots, mcmds := t.mcmds, mwaits := t.mwaits, jobs := t.jobs,
      winops := t.winops, pends := t.pends, notices := t.notices, mirrorOut := t.mirrorOut, mseq := t.mseq, adminWaits := t.adminWaits, nssro := t.nssro,
      epfs := t.epfs, epReads := t.epReads, epFetches := t.epFetches, epTlpAt := t.epTlpAt, epL1 := t.epL1, epCmdAt := t.epCmdAt, pair := t.pair } = t) ∧
    (∀ (v : NvmeCmd) (m : AuthMsg) (s : State), Completes (.authenticationSend v m) s fun t => { s with
      regs := t.regs, bench := t.bench, faultDeclared := t.faultDeclared, out := t.out, conns := t.conns, idents := t.idents, nss := t.nss, ctrls := t.ctrls,
      freedCtrls := t.freedCtrls, cmds := t.cmds, stalled := t.stalled, nextCmd := t.nextCmd, groups := t.groups, stripes := t.stripes,
      entryNotice := t.entryNotice, tally := t.tally, fixupds := t.fixupds, slots := t.slots, mcmds := t.mcmds, mwaits := t.mwaits, jobs := t.jobs,
      winops := t.winops, pends := t.pends, notices := t.notices, mirrorOut := t.mirrorOut, mseq := t.mseq, adminWaits := t.adminWaits, epfs := t.epfs,
      epReads := t.epReads, epFetches := t.epFetches, epTlpAt := t.epTlpAt, epL1 := t.epL1, epCmdAt := t.epCmdAt, pair := t.pair } = t) ∧
    (∀ (v : NvmeCmd) (s : State), Completes (.authenticationReceive v) s fun t => { s with
      regs := t.regs, bench := t.bench, faultDeclared := t.faultDeclared, out := t.out, freeCount := t.freeCount, conns := t.conns, nss := t.nss,
      ctrls := t.ctrls, freedCtrls := t.freedCtrls, cmds := t.cmds, stalled := t.stalled, nextCmd := t.nextCmd, groups := t.groups, stripes := t.stripes,
      entryNotice := t.entryNotice, tally := t.tally, fixupds := t.fixupds, slots := t.slots, mcmds := t.mcmds, mwaits := t.mwaits, jobs := t.jobs,
      winops := t.winops, pends := t.pends, notices := t.notices, mirrorOut := t.mirrorOut, mseq := t.mseq, adminWaits := t.adminWaits, epfs := t.epfs,
      epReads := t.epReads, epFetches := t.epFetches, epTlpAt := t.epTlpAt, epL1 := t.epL1, epCmdAt := t.epCmdAt, pair := t.pair } = t) ∧
    (∀ (v : NvmeCmd) (s : State), Completes (.keepAlive v) s fun t => { s with
      regs := t.regs, bench := t.bench, faultDeclared := t.faultDeclared, out := t.out, conns := t.conns, nss := t.nss, ctrls := t.ctrls, cmds := t.cmds,
      stalled := t.stalled, nextCmd := t.nextCmd, notices := t.notices, mirrorOut := t.mirrorOut, mseq := t.mseq, epfs := t.epfs, epReads := t.epReads,
      epTlpAt := t.epTlpAt, epL1 := t.epL1, epCmdAt := t.epCmdAt, pair := t.pair } = t) ∧
    (∀ (v : NvmeCmd) (s : State), Completes (.unsupportedOpcode v) s fun t => { s with
      regs := t.regs, bench := t.bench, faultDeclared := t.faultDeclared, out := t.out, conns := t.conns, nss := t.nss, ctrls := t.ctrls, cmds := t.cmds,
      stalled := t.stalled, nextCmd := t.nextCmd, notices := t.notices, mirrorOut := t.mirrorOut, mseq := t.mseq, epfs := t.epfs, epReads := t.epReads,
      epTlpAt := t.epTlpAt, epL1 := t.epL1, epCmdAt := t.epCmdAt, pair := t.pair } = t) ∧
    (∀ (v : NvmeCmd) (s : State), Completes (.abort v) s fun t => { s with
      regs := t.regs, bench := t.bench, faultDeclared := t.faultDeclared, out := t.out, conns := t.conns, nss := t.nss, ctrls := t.ctrls, cmds := t.cmds,
      stalled := t.stalled, nextCmd := t.nextCmd, groups := t.groups, stripes := t.stripes, entryNotice := t.entryNotice, tally := t.tally,
      fixupds := t.fixupds, slots := t.slots, mcmds := t.mcmds, mwaits := t.mwaits, jobs := t.jobs, notices := t.notices, mirrorOut := t.mirrorOut,
      mseq := t.mseq, adminWaits := t.adminWaits, epfs := t.epfs, epReads := t.epReads, epFetches := t.epFetches, epTlpAt := t.epTlpAt, epL1 := t.epL1,
      epCmdAt := t.epCmdAt, pair := t.pair } = t) ∧
    (∀ (v : NvmeCmd) (s : State), Completes (.asyncEventRequest v) s fun t => { s with
      regs := t.regs, bench := t.bench, faultDeclared := t.faultDeclared, out := t.out, conns := t.conns, nss := t.nss, ctrls := t.ctrls, cmds := t.cmds,
      stalled := t.stalled, nextCmd := t.nextCmd, notices := t.notices, mirrorOut := t.mirrorOut, mseq := t.mseq, epfs := t.epfs, epReads := t.epReads,
      epTlpAt := t.epTlpAt, epL1 := t.epL1, epCmdAt := t.epCmdAt, pair := t.pair } = t) ∧
    (∀ (v : NvmeCmd) (s : State), Completes (.setFeatures v) s fun t => { s with
      regs := t.regs, bench := t.bench, faultDeclared := t.faultDeclared, out := t.out, conns := t.conns, nss := t.nss, ctrls := t.ctrls, cmds := t.cmds,
      stalled := t.stalled, nextCmd := t.nextCmd, notices := t.notices, mirrorOut := t.mirrorOut, mseq := t.mseq, epfs := t.epfs, epReads := t.epReads,
      epTlpAt := t.epTlpAt, epL1 := t.epL1, epCmdAt := t.epCmdAt, pair := t.pair } = t) ∧
    (∀ (v : NvmeCmd) (s : State), Completes (.getFeatures v) s fun t => { s with
      regs := t.regs, bench := t.bench, faultDeclared := t.faultDeclared, out := t.out, conns := t.conns, nss := t.nss, ctrls := t.ctrls, cmds := t.cmds,
      stalled := t.stalled, nextCmd := t.nextCmd, notices := t.notices, mirrorOut := t.mirrorOut, mseq := t.mseq, epfs := t.epfs, epReads := t.epReads,
      epTlpAt := t.epTlpAt, epL1 := t.epL1, epCmdAt := t.epCmdAt, pair := t.pair } = t) ∧
    (∀ (v : NvmeCmd) (s : State), Completes (.setFeaturesQueueOrdering v) s fun t => { s with
      regs := t.regs, bench := t.bench, faultDeclared := t.faultDeclared, out := t.out, conns := t.conns, nss := t.nss, ctrls := t.ctrls, cmds := t.cmds,
      stalled := t.stalled, nextCmd := t.nextCmd, notices := t.notices, mirrorOut := t.mirrorOut, mseq := t.mseq, epfs := t.epfs, epReads := t.epReads,
      epTlpAt := t.epTlpAt, epL1 := t.epL1, epCmdAt := t.epCmdAt, pair := t.pair } = t) ∧
    (∀ (v : NvmeCmd) (s : State), Completes (.getFeaturesQueueOrdering v) s fun t => { s with
      regs := t.regs, bench := t.bench, faultDeclared := t.faultDeclared, out := t.out, conns := t.conns, nss := t.nss, ctrls := t.ctrls, cmds := t.cmds,
      stalled := t.stalled, nextCmd := t.nextCmd, notices := t.notices, mirrorOut := t.mirrorOut, mseq := t.mseq, epfs := t.epfs, epReads := t.epReads,
      epTlpAt := t.epTlpAt, epL1 := t.epL1, epCmdAt := t.epCmdAt, pair := t.pair } = t) ∧
    (∀ (v : NvmeCmd) (s : State), Completes (.firmwareImageDownload v) s fun t => { s with
      regs := t.regs, bench := t.bench, faultDeclared := t.faultDeclared, out := t.out, conns := t.conns, nss := t.nss, ctrls := t.ctrls, cmds := t.cmds,
      stalled := t.stalled, nextCmd := t.nextCmd, notices := t.notices, mirrorOut := t.mirrorOut, mseq := t.mseq, imgDamaged := t.imgDamaged, epfs := t.epfs,
      epReads := t.epReads, epTlpAt := t.epTlpAt, epL1 := t.epL1, epCmdAt := t.epCmdAt, pair := t.pair, live := t.live } = t) ∧
    (∀ (ctl : Nat) (s : State), Completes (.keepAliveExpiry ctl) s fun t => { s with
      regs := t.regs, bench := t.bench, faultDeclared := t.faultDeclared, out := t.out, conns := t.conns, nss := t.nss, ctrls := t.ctrls,
      freedCtrls := t.freedCtrls, cmds := t.cmds, stalled := t.stalled, groups := t.groups, stripes := t.stripes, entryNotice := t.entryNotice,
      tally := t.tally, fixupds := t.fixupds, slots := t.slots, mcmds := t.mcmds, mwaits := t.mwaits, jobs := t.jobs, winops := t.winops, pends := t.pends,
      mirrorOut := t.mirrorOut, mseq := t.mseq, adminWaits := t.adminWaits, epfs := t.epfs, epReads := t.epReads, epFetches := t.epFetches,
      epTlpAt := t.epTlpAt, epL1 := t.epL1, epCmdAt := t.epCmdAt, pair := t.pair } = t) ∧
    (∀ (v : NvmeCmd) (s : State), Completes (.getLogPage v) s fun t => { s with
      regs := t.regs, bench := t.bench, faultDeclared := t.faultDeclared, out := t.out, freeCount := t.freeCount, conns := t.conns, nss := t.nss,
      ctrls := t.ctrls, cmds := t.cmds, stalled := t.stalled, nextCmd := t.nextCmd, notices := t.notices, mirrorOut := t.mirrorOut, mseq := t.mseq,
      epfs := t.epfs, epReads := t.epReads, epTlpAt := t.epTlpAt, epL1 := t.epL1, epCmdAt := t.epCmdAt, pair := t.pair } = t) ∧
    (∀ (v : NvmeCmd) (s : State), Completes (.logPageLostRanges v) s fun t => { s with
      regs := t.regs, bench := t.bench, faultDeclared := t.faultDeclared, out := t.out, conns := t.conns, nss := t.nss, ctrls := t.ctrls, cmds := t.cmds,
      stalled := t.stalled, nextCmd := t.nextCmd, notices := t.notices, mirrorOut := t.mirrorOut, mseq := t.mseq, epfs := t.epfs, epReads := t.epReads,
      epTlpAt := t.epTlpAt, epL1 := t.epL1, epCmdAt := t.epCmdAt, pair := t.pair } = t) ∧
    (∀ (v : NvmeCmd) (s : State), Completes (.logPageMetering v) s fun t => { s with
      regs := t.regs, bench := t.bench, faultDeclared := t.faultDeclared, out := t.out, conns := t.conns, nss := t.nss, ctrls := t.ctrls, cmds := t.cmds,
      stalled := t.stalled, nextCmd := t.nextCmd, notices := t.notices, mirrorOut := t.mirrorOut, mseq := t.mseq, epfs := t.epfs, epReads := t.epReads,
      epTlpAt := t.epTlpAt, epL1 := t.epL1, epCmdAt := t.epCmdAt, pair := t.pair } = t) ∧
    (∀ (v : NvmeCmd) (s : State), Completes (.logPageLayoutHealth v) s fun t => { s with
      regs := t.regs, bench := t.bench, faultDeclared := t.faultDeclared, out := t.out, conns := t.conns, nss := t.nss, ctrls := t.ctrls, cmds := t.cmds,
      stalled := t.stalled, nextCmd := t.nextCmd, notices := t.notices, mirrorOut := t.mirrorOut, mseq := t.mseq, epfs := t.epfs, epReads := t.epReads,
      epTlpAt := t.epTlpAt, epL1 := t.epL1, epCmdAt := t.epCmdAt, pair := t.pair } = t) ∧
    (∀ (v : NvmeCmd) (s : State), Completes (.logPageEventExcerpt v) s fun t => { s with
      regs := t.regs, bench := t.bench, faultDeclared := t.faultDeclared, out := t.out, conns := t.conns, nss := t.nss, ctrls := t.ctrls, cmds := t.cmds,
      stalled := t.stalled, nextCmd := t.nextCmd, notices := t.notices, mirrorOut := t.mirrorOut, mseq := t.mseq, epfs := t.epfs, epReads := t.epReads,
      epTlpAt := t.epTlpAt, epL1 := t.epL1, epCmdAt := t.epCmdAt, pair := t.pair } = t) ∧
    (∀ (v : NvmeCmd) (s : State), Completes (.identify v) s fun t => { s with
      regs := t.regs, bench := t.bench, faultDeclared := t.faultDeclared, out := t.out, conns := t.conns, nss := t.nss, ctrls := t.ctrls, cmds := t.cmds,
      stalled := t.stalled, nextCmd := t.nextCmd, notices := t.notices, mirrorOut := t.mirrorOut, mseq := t.mseq, epfs := t.epfs, epReads := t.epReads,
      epTlpAt := t.epTlpAt, epL1 := t.epL1, epCmdAt := t.epCmdAt, pair := t.pair } = t) ∧
    (∀ (v : NvmeCmd) (s : State), Completes (.setFeaturesQosProfile v) s fun t => { s with
      regs := t.regs, bench := t.bench, faultDeclared := t.faultDeclared, out := t.out, conns := t.conns, nss := t.nss, ctrls := t.ctrls, cmds := t.cmds,
      stalled := t.stalled, nextCmd := t.nextCmd, notices := t.notices, mirrorOut := t.mirrorOut, mseq := t.mseq, epfs := t.epfs, epReads := t.epReads,
      epTlpAt := t.epTlpAt, epL1 := t.epL1, epCmdAt := t.epCmdAt, pair := t.pair } = t) ∧
    (∀ (v : NvmeCmd) (s : State), Completes (.getFeaturesQosProfile v) s fun t => { s with
      regs := t.regs, bench := t.bench, faultDeclared := t.faultDeclared, out := t.out, conns := t.conns, nss := t.nss, ctrls := t.ctrls, cmds := t.cmds,
      stalled := t.stalled, nextCmd := t.nextCmd, notices := t.notices, mirrorOut := t.mirrorOut, mseq := t.mseq, epfs := t.epfs, epReads := t.epReads,
      epTlpAt := t.epTlpAt, epL1 := t.epL1, epCmdAt := t.epCmdAt, pair := t.pair } = t) ∧
    (∀ (v : NvmeCmd) (s : State), Completes (.namespaceCreate v) s fun t => { s with
      regs := t.regs, bench := t.bench, faultDeclared := t.faultDeclared, out := t.out, freeCount := t.freeCount, conns := t.conns, nss := t.nss,
      tenants := t.tenants, ctrls := t.ctrls, cmds := t.cmds, stalled := t.stalled, nextCmd := t.nextCmd, groups := t.groups, entryNotice := t.entryNotice,
      notices := t.notices, mirrorOut := t.mirrorOut, mseq := t.mseq, keyTab := t.keyTab, adminWaits := t.adminWaits, epfs := t.epfs, epReads := t.epReads,
      epTlpAt := t.epTlpAt, epL1 := t.epL1, epCmdAt := t.epCmdAt, pair := t.pair } = t) ∧
    (∀ (v : NvmeCmd) (s : State), Completes (.namespaceDelete v) s fun t => { s with
      regs := t.regs, bench := t.bench, faultDeclared := t.faultDeclared, out := t.out, conns := t.conns, nss := t.nss, ctrls := t.ctrls, cmds := t.cmds,
      stalled := t.stalled, nextCmd := t.nextCmd, groups := t.groups, stripes := t.stripes, entryNotice := t.entryNotice, tally := t.tally,
      fixupds := t.fixupds, slots := t.slots, mcmds := t.mcmds, mwaits := t.mwaits, jobs := t.jobs, nextJob := t.nextJob, windows := t.windows,
      winops := t.winops, pends := t.pends, lines := t.lines, sectors := t.sectors, maint := t.maint, notices := t.notices, mirrorOut := t.mirrorOut,
      mseq := t.mseq, adminWaits := t.adminWaits, epfs := t.epfs, epReads := t.epReads, epFetches := t.epFetches, epTlpAt := t.epTlpAt, epL1 := t.epL1,
      epCmdAt := t.epCmdAt, pair := t.pair } = t) ∧
    (∀ (v : NvmeCmd) (s : State), Completes (.namespaceAttach v) s fun t => { s with
      regs := t.regs, bench := t.bench, faultDeclared := t.faultDeclared, out := t.out, conns := t.conns, nss := t.nss, ctrls := t.ctrls, cmds := t.cmds,
      stalled := t.stalled, nextCmd := t.nextCmd, notices := t.notices, mirrorOut := t.mirrorOut, mseq := t.mseq, adminWaits := t.adminWaits, epfs := t.epfs,
      epReads := t.epReads, epTlpAt := t.epTlpAt, epL1 := t.epL1, epCmdAt := t.epCmdAt, pair := t.pair } = t) ∧
    (∀ (v : NvmeCmd) (s : State), Completes (.namespaceDetach v) s fun t => { s with
      regs := t.regs, bench := t.bench, faultDeclared := t.faultDeclared, out := t.out, conns := t.conns, nss := t.nss, ctrls := t.ctrls, cmds := t.cmds,
      stalled := t.stalled, nextCmd := t.nextCmd, groups := t.groups, stripes := t.stripes, entryNotice := t.entryNotice, tally := t.tally,
      fixupds := t.fixupds, mcmds := t.mcmds, mwaits := t.mwaits, nextJob := t.nextJob, windows := t.windows, winops := t.winops, pends := t.pends,
      lines := t.lines, sectors := t.sectors, maint := t.maint, notices := t.notices, mirrorOut := t.mirrorOut, mseq := t.mseq, adminWaits := t.adminWaits,
      epfs := t.epfs, epReads := t.epReads, epTlpAt := t.epTlpAt, epL1 := t.epL1, epCmdAt := t.epCmdAt, pair := t.pair } = t) ∧
    (∀ (cmd : Nat) (s : State), Completes (.detachComplete cmd) s fun t => { s with
      regs := t.regs, bench := t.bench, faultDeclared := t.faultDeclared, out := t.out, freeCount := t.freeCount, conns := t.conns, nss := t.nss,
      freedNsids := t.freedNsids, tenants := t.tenants, msaved := t.msaved, ctrls := t.ctrls, cmds := t.cmds, stalled := t.stalled, groups := t.groups,
      stripes := t.stripes, entryNotice := t.entryNotice, survey := t.survey, pendings := t.pendings, objs := t.objs, sweeps := t.sweeps, tally := t.tally,
      fixupds := t.fixupds, fixblks := t.fixblks, slots := t.slots, mcmds := t.mcmds, mwaits := t.mwaits, jobs := t.jobs, nextJob := t.nextJob,
      windows := t.windows, winops := t.winops, pends := t.pends, lines := t.lines, sectors := t.sectors, maint := t.maint, notices := t.notices,
      mirrorOut := t.mirrorOut, mseq := t.mseq, keyTab := t.keyTab, cips := t.cips, adminWaits := t.adminWaits, epfs := t.epfs, epReads := t.epReads,
      epFetches := t.epFetches, epTlpAt := t.epTlpAt, epL1 := t.epL1, epCmdAt := t.epCmdAt, pair := t.pair } = t) ∧
    (∀ (v : NvmeCmd) (s : State), Completes (.formatNvm v) s fun t => { s with
      regs := t.regs, bench := t.bench, faultDeclared := t.faultDeclared, out := t.out, freeCount := t.freeCount, conns := t.conns, nss := t.nss,
      ctrls := t.ctrls, cmds := t.cmds, stalled := t.stalled, nextCmd := t.nextCmd, groups := t.groups, entryNotice := t.entryNotice, survey := t.survey,
      pendings := t.pendings, objs := t.objs, sweeps := t.sweeps, fixupds := t.fixupds, fixblks := t.fixblks, lines := t.lines, sectors := t.sectors,
      notices := t.notices, mirrorOut := t.mirrorOut, mseq := t.mseq, keyTab := t.keyTab, cips := t.cips, adminWaits := t.adminWaits, epfs := t.epfs,
      epReads := t.epReads, epTlpAt := t.epTlpAt, epL1 := t.epL1, epCmdAt := t.epCmdAt, pair := t.pair } = t) ∧
    (∀ (nsid : Nat) (gen : Nat) (s : State), Completes (.namespaceSweep nsid gen) s fun t => { s with
      regs := t.regs, bench := t.bench, faultDeclared := t.faultDeclared, out := t.out, conns := t.conns, nss := t.nss, ctrls := t.ctrls, cmds := t.cmds,
      stalled := t.stalled, groups := t.groups, stripes := t.stripes, entryNotice := t.entryNotice, objs := t.objs, sweeps := t.sweeps, tally := t.tally,
      slots := t.slots, mirrorOut := t.mirrorOut, mseq := t.mseq, epfs := t.epfs, epReads := t.epReads, epTlpAt := t.epTlpAt, epL1 := t.epL1,
      epCmdAt := t.epCmdAt, pair := t.pair } = t)

/-- Each command of scheduling, storage work, members and drive ports completes, and everything but the pieces of state named for it stays as it was. -/
def Obligations.StorageFields : Prop :=
    (∀ (s : State), Completes .grantPeriod s fun t => { s with
      regs := t.regs, bench := t.bench, faultDeclared := t.faultDeclared, out := t.out, nss := t.nss, grants := t.grants, taskGrants := t.taskGrants,
      periodAt := t.periodAt, groups := t.groups, entryNotice := t.entryNotice, tcutSpent := t.tcutSpent } = t) ∧
    (∀ (v : Word) (s : State), Completes (.cmdQosCfgWrite v) s fun t => { s with
      regs := t.regs, nss := t.nss, ctrls := t.ctrls } = t) ∧
    (∀ (g : Fin 8) (v : Word) (s : State), Completes (.cmdQosGcapWrite g v) s fun t => { s with
      regs := t.regs } = t) ∧
    (∀ (group : Nat) (stripe : Nat) (bad : List Nat) (check : ParCheck) (s : State), Completes (.stripeSeal group stripe bad check) s
      fun t => { s with
      regs := t.regs, bench := t.bench, lanes := t.lanes, chans := t.chans, unacked := t.unacked, rot := t.rot, faultDeclared := t.faultDeclared, out := t.out,
      conns := t.conns, nss := t.nss, ctrls := t.ctrls, cmds := t.cmds, stalled := t.stalled, groups := t.groups, stripes := t.stripes,
      entryNotice := t.entryNotice, pendings := t.pendings, tally := t.tally, slots := t.slots, mcmds := t.mcmds, mwaits := t.mwaits, notices := t.notices,
      mirrorOut := t.mirrorOut, mseq := t.mseq, swq := t.swq, epfs := t.epfs, epReads := t.epReads, epFetches := t.epFetches, epTlpAt := t.epTlpAt,
      epL1 := t.epL1, epCmdAt := t.epCmdAt, pair := t.pair, live := t.live } = t) ∧
    (∀ (group : Nat) (stripe : Nat) (s : State), Completes (.sealWaitExpiry group stripe) s fun t => { s with
      regs := t.regs, bench := t.bench, faultDeclared := t.faultDeclared, out := t.out, conns := t.conns, cmds := t.cmds, groups := t.groups,
      stripes := t.stripes, entryNotice := t.entryNotice, mirrorOut := t.mirrorOut, mseq := t.mseq, epReads := t.epReads, epFetches := t.epFetches,
      epTlpAt := t.epTlpAt, epL1 := t.epL1, pair := t.pair } = t) ∧
    (∀ (group : Nat) (stripe : Nat) (s : State), Completes (.stripeRelease group stripe) s fun t => { s with
      regs := t.regs, bench := t.bench, faultDeclared := t.faultDeclared, out := t.out, conns := t.conns, nss := t.nss, ctrls := t.ctrls, cmds := t.cmds,
      stalled := t.stalled, groups := t.groups, stripes := t.stripes, entryNotice := t.entryNotice, slots := t.slots, mirrorOut := t.mirrorOut,
      mseq := t.mseq, trimGather := t.trimGather, epfs := t.epfs, epReads := t.epReads, epTlpAt := t.epTlpAt, epL1 := t.epL1, epCmdAt := t.epCmdAt,
      pair := t.pair } = t) ∧
    (∀ (group : Nat) (kind : Nat) (level : Nat) (owner : Nat) (index : Nat) (bad : List Nat) (s : State), Completes
      (.surveyObjectLoaded group kind level owner index bad) s fun t => { s with
      regs := t.regs, bench := t.bench, faultDeclared := t.faultDeclared, out := t.out, conns := t.conns, nss := t.nss, ctrls := t.ctrls, cmds := t.cmds,
      stalled := t.stalled, groups := t.groups, stripes := t.stripes, objs := t.objs, svy := t.svy, tally := t.tally, fixblks := t.fixblks, slots := t.slots,
      mcmds := t.mcmds, mwaits := t.mwaits, jobs := t.jobs, nextJob := t.nextJob, notices := t.notices, mirrorOut := t.mirrorOut, mseq := t.mseq,
      epfs := t.epfs, epReads := t.epReads, epTlpAt := t.epTlpAt, epL1 := t.epL1, epCmdAt := t.epCmdAt, pair := t.pair } = t) ∧
    (∀ (group : Nat) (freed : List Nat) (found : List (Nat × Nat × Nat × Nat × Nat)) (s : State), Completes (.surveyRebuildScan group
      freed found) s fun t => { s with
      regs := t.regs, bench := t.bench, faultDeclared := t.faultDeclared, out := t.out, conns := t.conns, nss := t.nss, ctrls := t.ctrls, cmds := t.cmds,
      stalled := t.stalled, groups := t.groups, stripes := t.stripes, entryNotice := t.entryNotice, survey := t.survey, objs := t.objs, svy := t.svy,
      tally := t.tally, fixblks := t.fixblks, slots := t.slots, mcmds := t.mcmds, mwaits := t.mwaits, jobs := t.jobs, nextJob := t.nextJob,
      notices := t.notices, mirrorOut := t.mirrorOut, mseq := t.mseq, epfs := t.epfs, epReads := t.epReads, epTlpAt := t.epTlpAt, epL1 := t.epL1,
      epCmdAt := t.epCmdAt, pair := t.pair } = t) ∧
    (∀ (slot : Nat) (s : State), Completes (.memberCommandAge slot) s fun t => { s with
      regs := t.regs, bench := t.bench, faultDeclared := t.faultDeclared, out := t.out, conns := t.conns, nss := t.nss, ctrls := t.ctrls, cmds := t.cmds,
      stalled := t.stalled, sbcWant := t.sbcWant, groups := t.groups, stripes := t.stripes, entryNotice := t.entryNotice, pendings := t.pendings,
      svy := t.svy, tally := t.tally, fixupds := t.fixupds, fixblks := t.fixblks, slots := t.slots, mcmds := t.mcmds, mwaits := t.mwaits, jobs := t.jobs,
      lines := t.lines, notices := t.notices, mirrorOut := t.mirrorOut, mseq := t.mseq, ports := t.ports, epfs := t.epfs, epReads := t.epReads,
      epTlpAt := t.epTlpAt, epL1 := t.epL1, epCmdAt := t.epCmdAt, pair := t.pair } = t) ∧
    (∀ (slot : Nat) (s : State), Completes (.memberFailTimer slot) s fun t => { s with
      regs := t.regs, bench := t.bench, faultDeclared := t.faultDeclared, out := t.out, conns := t.conns, nss := t.nss, ctrls := t.ctrls, cmds := t.cmds,
      stalled := t.stalled, sbcWant := t.sbcWant, groups := t.groups, stripes := t.stripes, entryNotice := t.entryNotice, pendings := t.pendings,
      svy := t.svy, tally := t.tally, fixupds := t.fixupds, fixblks := t.fixblks, slots := t.slots, mcmds := t.mcmds, mwaits := t.mwaits, jobs := t.jobs,
      lines := t.lines, notices := t.notices, mirrorOut := t.mirrorOut, mseq := t.mseq, ports := t.ports, epfs := t.epfs, epReads := t.epReads,
      epTlpAt := t.epTlpAt, epL1 := t.epL1, epCmdAt := t.epCmdAt, pair := t.pair } = t) ∧
    (∀ (slot : Nat) (s : State), Completes (.memberReturnExpiry slot) s fun t => { s with
      regs := t.regs, bench := t.bench, faultDeclared := t.faultDeclared, out := t.out, conns := t.conns, nss := t.nss, ctrls := t.ctrls, cmds := t.cmds,
      stalled := t.stalled, sbcWant := t.sbcWant, groups := t.groups, stripes := t.stripes, entryNotice := t.entryNotice, slots := t.slots,
      mirrorOut := t.mirrorOut, mseq := t.mseq, epfs := t.epfs, epReads := t.epReads, epTlpAt := t.epTlpAt, epL1 := t.epL1, epCmdAt := t.epCmdAt, pair := t.pair
      } = t) ∧
    (∀ (slot : Nat) (r : DriveRec) (s : State), Completes (.driveOffer slot r) s fun t => { s with
      regs := t.regs, bench := t.bench, faultDeclared := t.faultDeclared, out := t.out, conns := t.conns, nss := t.nss, ctrls := t.ctrls, cmds := t.cmds,
      stalled := t.stalled, sbcWant := t.sbcWant, groups := t.groups, stripes := t.stripes, entryNotice := t.entryNotice, slots := t.slots,
      mirrorOut := t.mirrorOut, mseq := t.mseq, epfs := t.epfs, epReads := t.epReads, epTlpAt := t.epTlpAt, epL1 := t.epL1, epCmdAt := t.epCmdAt, pair := t.pair
      } = t) ∧
    (∀ (slot : Nat) (s : State), Completes (.joinRecordWritten slot) s fun t => { s with
      regs := t.regs, bench := t.bench, faultDeclared := t.faultDeclared, out := t.out, conns := t.conns, nss := t.nss, ctrls := t.ctrls, cmds := t.cmds,
      stalled := t.stalled, sbcWant := t.sbcWant, groups := t.groups, stripes := t.stripes, entryNotice := t.entryNotice, svy := t.svy, slots := t.slots,
      mirrorOut := t.mirrorOut, mseq := t.mseq, epfs := t.epfs, epReads := t.epReads, epTlpAt := t.epTlpAt, epL1 := t.epL1, epCmdAt := t.epCmdAt, pair := t.pair
      } = t) ∧
    (∀ (slot : Nat) (s : State), Completes (.reconciliationDone slot) s fun t => { s with
      regs := t.regs, bench := t.bench, faultDeclared := t.faultDeclared, out := t.out, conns := t.conns, nss := t.nss, ctrls := t.ctrls, cmds := t.cmds,
      stalled := t.stalled, sbcWant := t.sbcWant, groups := t.groups, stripes := t.stripes, entryNotice := t.entryNotice, svy := t.svy, slots := t.slots,
      mirrorOut := t.mirrorOut, mseq := t.mseq, epfs := t.epfs, epReads := t.epReads, epTlpAt := t.epTlpAt, epL1 := t.epL1, epCmdAt := t.epCmdAt, pair := t.pair
      } = t) ∧
    (∀ (slot : Nat) (s : State), Completes (.layMcmdDrain slot) s fun t => { s with
      regs := t.regs, bench := t.bench, faultDeclared := t.faultDeclared, out := t.out, conns := t.conns, nss := t.nss, ctrls := t.ctrls, cmds := t.cmds,
      stalled := t.stalled, sbcWant := t.sbcWant, groups := t.groups, stripes := t.stripes, entryNotice := t.entryNotice, pendings := t.pendings,
      svy := t.svy, tally := t.tally, slots := t.slots, mcmds := t.mcmds, mwaits := t.mwaits, lines := t.lines, mirrorOut := t.mirrorOut, mseq := t.mseq,
      epfs := t.epfs, epReads := t.epReads, epTlpAt := t.epTlpAt, epL1 := t.epL1, epCmdAt := t.epCmdAt, pair := t.pair } = t) ∧
    (∀ (slot : Nat) (s : State), Completes (.layMcmdFail slot) s fun t => { s with
      regs := t.regs, bench := t.bench, faultDeclared := t.faultDeclared, out := t.out, conns := t.conns, nss := t.nss, ctrls := t.ctrls, cmds := t.cmds,
      stalled := t.stalled, sbcWant := t.sbcWant, groups := t.groups, stripes := t.stripes, entryNotice := t.entryNotice, pendings := t.pendings,
      svy := t.svy, tally := t.tally, fixupds := t.fixupds, fixblks := t.fixblks, slots := t.slots, mcmds := t.mcmds, mwaits := t.mwaits, jobs := t.jobs,
      lines := t.lines, notices := t.notices, mirrorOut := t.mirrorOut, mseq := t.mseq, ports := t.ports, epfs := t.epfs, epReads := t.epReads,
      epTlpAt := t.epTlpAt, epL1 := t.epL1, epCmdAt := t.epCmdAt, pair := t.pair } = t) ∧
    (∀ (slot : Nat) (s : State), Completes (.layMcmdJoin slot) s fun t => { s with
      regs := t.regs, bench := t.bench, faultDeclared := t.faultDeclared, out := t.out, conns := t.conns, nss := t.nss, ctrls := t.ctrls, cmds := t.cmds,
      stalled := t.stalled, sbcWant := t.sbcWant, groups := t.groups, stripes := t.stripes, entryNotice := t.entryNotice, slots := t.slots,
      mirrorOut := t.mirrorOut, mseq := t.mseq, epfs := t.epfs, epReads := t.epReads, epTlpAt := t.epTlpAt, epL1 := t.epL1, epCmdAt := t.epCmdAt, pair := t.pair
      } = t) ∧
    (∀ (slot : Nat) (s : State), Completes (.layMcmdForget slot) s fun t => { s with
      regs := t.regs, bench := t.bench, faultDeclared := t.faultDeclared, out := t.out, conns := t.conns, nss := t.nss, ctrls := t.ctrls, cmds := t.cmds,
      stalled := t.stalled, sbcWant := t.sbcWant, groups := t.groups, stripes := t.stripes, entryNotice := t.entryNotice, slots := t.slots,
      mirrorOut := t.mirrorOut, mseq := t.mseq, epfs := t.epfs, epReads := t.epReads, epTlpAt := t.epTlpAt, epL1 := t.epL1, epCmdAt := t.epCmdAt, pair := t.pair
      } = t) ∧
    (∀ (group : Nat) (bad : List (Nat × Nat)) (s : State), Completes (.spoilReclaimVictim group bad) s fun t => { s with
      regs := t.regs, bench := t.bench, faultDeclared := t.faultDeclared, out := t.out, conns := t.conns, nss := t.nss, ctrls := t.ctrls, cmds := t.cmds,
      stalled := t.stalled, sbcWant := t.sbcWant, taskGrants := t.taskGrants, rebAt := t.rebAt, groups := t.groups, stripes := t.stripes,
      entryNotice := t.entryNotice, pendings := t.pendings, svy := t.svy, tally := t.tally, fixupds := t.fixupds, fixblks := t.fixblks, slots := t.slots,
      mcmds := t.mcmds, mwaits := t.mwaits, jobs := t.jobs, lines := t.lines, notices := t.notices, mirrorOut := t.mirrorOut, mseq := t.mseq, ports := t.ports,
      epfs := t.epfs, epReads := t.epReads, epTlpAt := t.epTlpAt, epL1 := t.epL1, epCmdAt := t.epCmdAt, pair := t.pair } = t) ∧
    (∀ (group : Nat) (s : State), Completes (.rebuildIndexSweep group) s fun t => { s with
      regs := t.regs, bench := t.bench, faultDeclared := t.faultDeclared, out := t.out, conns := t.conns, nss := t.nss, ctrls := t.ctrls, cmds := t.cmds,
      stalled := t.stalled, taskGrants := t.taskGrants, groups := t.groups, stripes := t.stripes, rindex := t.rindex, mirrorOut := t.mirrorOut,
      mseq := t.mseq, epfs := t.epfs, epReads := t.epReads, epTlpAt := t.epTlpAt, epL1 := t.epL1, epCmdAt := t.epCmdAt, pair := t.pair } = t) ∧
    (∀ (group : Nat) (bad : List (Nat × Nat)) (s : State), Completes (.rebuildStripe group bad) s fun t => { s with
      regs := t.regs, bench := t.bench, faultDeclared := t.faultDeclared, out := t.out, conns := t.conns, nss := t.nss, ctrls := t.ctrls, cmds := t.cmds,
      stalled := t.stalled, sbcWant := t.sbcWant, taskGrants := t.taskGrants, rebAt := t.rebAt, groups := t.groups, stripes := t.stripes,
      entryNotice := t.entryNotice, pendings := t.pendings, svy := t.svy, tally := t.tally, fixupds := t.fixupds, fixblks := t.fixblks, slots := t.slots,
      mcmds := t.mcmds, mwaits := t.mwaits, jobs := t.jobs, lines := t.lines, notices := t.notices, mirrorOut := t.mirrorOut, mseq := t.mseq, ports := t.ports,
      epfs := t.epfs, epReads := t.epReads, epTlpAt := t.epTlpAt, epL1 := t.epL1, epCmdAt := t.epCmdAt, pair := t.pair } = t) ∧
    (∀ (slot : Nat) (bad : List (Nat × Nat × Nat × Nat)) (s : State), Completes (.regionResync slot bad) s fun t => { s with
      regs := t.regs, bench := t.bench, faultDeclared := t.faultDeclared, out := t.out, conns := t.conns, nss := t.nss, ctrls := t.ctrls, cmds := t.cmds,
      stalled := t.stalled, taskGrants := t.taskGrants, rebAt := t.rebAt, groups := t.groups, stripes := t.stripes, entryNotice := t.entryNotice,
      tally := t.tally, fixblks := t.fixblks, slots := t.slots, notices := t.notices, mirrorOut := t.mirrorOut, mseq := t.mseq, epfs := t.epfs,
      epReads := t.epReads, epTlpAt := t.epTlpAt, epL1 := t.epL1, epCmdAt := t.epCmdAt, pair := t.pair } = t) ∧
    (∀ (group : Nat) (finds : List PatrolFind) (s : State), Completes (.patrolVisit group finds) s fun t => { s with
      regs := t.regs, bench := t.bench, faultDeclared := t.faultDeclared, out := t.out, conns := t.conns, nss := t.nss, ctrls := t.ctrls, cmds := t.cmds,
      stalled := t.stalled, sbcWant := t.sbcWant, taskGrants := t.taskGrants, groups := t.groups, stripes := t.stripes, entryNotice := t.entryNotice,
      pendings := t.pendings, objs := t.objs, svy := t.svy, tally := t.tally, fixupds := t.fixupds, fixblks := t.fixblks, slots := t.slots, mcmds := t.mcmds,
      mwaits := t.mwaits, jobs := t.jobs, lines := t.lines, notices := t.notices, mirrorOut := t.mirrorOut, mseq := t.mseq, ports := t.ports, epfs := t.epfs,
      epReads := t.epReads, epTlpAt := t.epTlpAt, epL1 := t.epL1, epCmdAt := t.epCmdAt, pair := t.pair } = t) ∧
    (∀ (v : Word) (s : State), Completes (.reshapeStart v) s fun t => { s with
      regs := t.regs, bench := t.bench, faultDeclared := t.faultDeclared, out := t.out, nss := t.nss, groups := t.groups, entryNotice := t.entryNotice,
      slots := t.slots, reshape := t.reshape, mirrorOut := t.mirrorOut, mseq := t.mseq, pair := t.pair } = t) ∧
    (∀ (s : State), Completes .reshapeSwitchover s fun t => { s with
      regs := t.regs, bench := t.bench, faultDeclared := t.faultDeclared, out := t.out, conns := t.conns, nss := t.nss, ctrls := t.ctrls, cmds := t.cmds,
      stalled := t.stalled, groups := t.groups, entryNotice := t.entryNotice, objs := t.objs, svy := t.svy, slots := t.slots, reshape := t.reshape,
      mirrorOut := t.mirrorOut, mseq := t.mseq, epfs := t.epfs, epReads := t.epReads, epTlpAt := t.epTlpAt, epL1 := t.epL1, epCmdAt := t.epCmdAt, pair := t.pair
      } = t) ∧
    (∀ (s : State), Completes .tallyRecordWritten s fun t => { s with
      regs := t.regs, bench := t.bench, faultDeclared := t.faultDeclared, out := t.out, conns := t.conns, nss := t.nss, ctrls := t.ctrls, cmds := t.cmds,
      stalled := t.stalled, groups := t.groups, stripes := t.stripes, entryNotice := t.entryNotice, survey := t.survey, pendings := t.pendings,
      objs := t.objs, tally := t.tally, fixupds := t.fixupds, fixblks := t.fixblks, slots := t.slots, mcmds := t.mcmds, mwaits := t.mwaits, lines := t.lines,
      mirrorOut := t.mirrorOut, mseq := t.mseq, epfs := t.epfs, epReads := t.epReads, epTlpAt := t.epTlpAt, epL1 := t.epL1, epCmdAt := t.epCmdAt, pair := t.pair
      } = t) ∧
    (∀ (seq : Nat) (s : State), Completes (.tallyRecordDurable seq) s fun t => { s with
      regs := t.regs, bench := t.bench, faultDeclared := t.faultDeclared, out := t.out, conns := t.conns, nss := t.nss, ctrls := t.ctrls, cmds := t.cmds,
      stalled := t.stalled, groups := t.groups, stripes := t.stripes, entryNotice := t.entryNotice, survey := t.survey, pendings := t.pendings,
      objs := t.objs, tally := t.tally, fixupds := t.fixupds, fixblks := t.fixblks, slots := t.slots, mcmds := t.mcmds, mwaits := t.mwaits, lines := t.lines,
      mirrorOut := t.mirrorOut, mseq := t.mseq, epfs := t.epfs, epReads := t.epReads, epTlpAt := t.epTlpAt, epL1 := t.epL1, epCmdAt := t.epCmdAt, pair := t.pair
      } = t) ∧
    (∀ (tag : MTag) (cq : Nat) (ok : Bool) (got : Option (Nat × Nat)) (warn : Nat) (s : State), Completes (.memberCompletion tag cq ok
      got warn) s fun t => { s with
      regs := t.regs, bench := t.bench, faultDeclared := t.faultDeclared, out := t.out, conns := t.conns, nss := t.nss, ctrls := t.ctrls, cmds := t.cmds,
      stalled := t.stalled, sbcWant := t.sbcWant, groups := t.groups, stripes := t.stripes, entryNotice := t.entryNotice, pendings := t.pendings,
      svy := t.svy, tally := t.tally, fixupds := t.fixupds, fixblks := t.fixblks, slots := t.slots, badBlks := t.badBlks, mcmds := t.mcmds, mwaits := t.mwaits,
      jobs := t.jobs, lines := t.lines, notices := t.notices, mirrorOut := t.mirrorOut, mseq := t.mseq, ports := t.ports, epfs := t.epfs, epReads := t.epReads,
      epTlpAt := t.epTlpAt, epL1 := t.epL1, epCmdAt := t.epCmdAt, pair := t.pair } = t) ∧
    (∀ (slot : Nat) (write : Bool) (addr : Nat) (len : Nat) (s : State), Completes (.memberDmaRequest slot write addr len) s fun t => { s with
      regs := t.regs, bench := t.bench, faultDeclared := t.faultDeclared, out := t.out, conns := t.conns, nss := t.nss, ctrls := t.ctrls, cmds := t.cmds,
      stalled := t.stalled, sbcWant := t.sbcWant, groups := t.groups, stripes := t.stripes, entryNotice := t.entryNotice, pendings := t.pendings,
      svy := t.svy, tally := t.tally, fixupds := t.fixupds, fixblks := t.fixblks, slots := t.slots, mcmds := t.mcmds, mwaits := t.mwaits, jobs := t.jobs,
      lines := t.lines, notices := t.notices, mirrorOut := t.mirrorOut, mseq := t.mseq, ports := t.ports, epfs := t.epfs, epReads := t.epReads,
      epTlpAt := t.epTlpAt, epL1 := t.epL1, epCmdAt := t.epCmdAt, pair := t.pair } = t) ∧
    (∀ (slot : Nat) (kind : Nat) (s : State), Completes (.memberErrorMessage slot kind) s fun t => { s with
      regs := t.regs, bench := t.bench, faultDeclared := t.faultDeclared, out := t.out, conns := t.conns, nss := t.nss, ctrls := t.ctrls, cmds := t.cmds,
      stalled := t.stalled, sbcWant := t.sbcWant, groups := t.groups, stripes := t.stripes, entryNotice := t.entryNotice, pendings := t.pendings,
      svy := t.svy, tally := t.tally, fixupds := t.fixupds, fixblks := t.fixblks, slots := t.slots, mcmds := t.mcmds, mwaits := t.mwaits, jobs := t.jobs,
      lines := t.lines, notices := t.notices, mirrorOut := t.mirrorOut, mseq := t.mseq, ports := t.ports, epfs := t.epfs, epReads := t.epReads,
      epTlpAt := t.epTlpAt, epL1 := t.epL1, epCmdAt := t.epCmdAt, pair := t.pair } = t) ∧
    (∀ (slot : Nat) (s : State), Completes (.driveLinkDown slot) s fun t => { s with
      regs := t.regs, bench := t.bench, faultDeclared := t.faultDeclared, out := t.out, conns := t.conns, nss := t.nss, ctrls := t.ctrls, cmds := t.cmds,
      stalled := t.stalled, sbcWant := t.sbcWant, groups := t.groups, stripes := t.stripes, entryNotice := t.entryNotice, pendings := t.pendings,
      svy := t.svy, tally := t.tally, fixupds := t.fixupds, fixblks := t.fixblks, slots := t.slots, mcmds := t.mcmds, mwaits := t.mwaits, jobs := t.jobs,
      lines := t.lines, notices := t.notices, mirrorOut := t.mirrorOut, mseq := t.mseq, ports := t.ports, epfs := t.epfs, epReads := t.epReads,
      epTlpAt := t.epTlpAt, epL1 := t.epL1, epCmdAt := t.epCmdAt, pair := t.pair } = t) ∧
    (∀ (slot : Nat) (s : State), Completes (.drvNonpostedTimeout slot) s fun t => { s with
      regs := t.regs, bench := t.bench, faultDeclared := t.faultDeclared, out := t.out, conns := t.conns, nss := t.nss, ctrls := t.ctrls, cmds := t.cmds,
      stalled := t.stalled, sbcWant := t.sbcWant, groups := t.groups, stripes := t.stripes, entryNotice := t.entryNotice, pendings := t.pendings,
      svy := t.svy, tally := t.tally, fixupds := t.fixupds, fixblks := t.fixblks, slots := t.slots, mcmds := t.mcmds, mwaits := t.mwaits, jobs := t.jobs,
      lines := t.lines, notices := t.notices, mirrorOut := t.mirrorOut, mseq := t.mseq, ports := t.ports, epfs := t.epfs, epReads := t.epReads,
      epTlpAt := t.epTlpAt, epL1 := t.epL1, epCmdAt := t.epCmdAt, pair := t.pair } = t) ∧
    (∀ (slot : Nat) (f : DriveFound) (s : State), Completes (.driveEnumerated slot f) s fun t => { s with
      regs := t.regs, bench := t.bench, faultDeclared := t.faultDeclared, out := t.out, conns := t.conns, nss := t.nss, ctrls := t.ctrls, cmds := t.cmds,
      stalled := t.stalled, sbcWant := t.sbcWant, groups := t.groups, stripes := t.stripes, entryNotice := t.entryNotice, slots := t.slots, mcmds := t.mcmds,
      mwaits := t.mwaits, mirrorOut := t.mirrorOut, mseq := t.mseq, ports := t.ports, epfs := t.epfs, epReads := t.epReads, epTlpAt := t.epTlpAt,
      epL1 := t.epL1, epCmdAt := t.epCmdAt, pair := t.pair } = t) ∧
    (∀ (slot : Nat) (s : State), Completes (.drvPowerOff slot) s fun t => { s with
      regs := t.regs, bench := t.bench, faultDeclared := t.faultDeclared, out := t.out, conns := t.conns, nss := t.nss, ctrls := t.ctrls, cmds := t.cmds,
      stalled := t.stalled, sbcWant := t.sbcWant, groups := t.groups, stripes := t.stripes, entryNotice := t.entryNotice, pendings := t.pendings,
      tally := t.tally, fixupds := t.fixupds, fixblks := t.fixblks, slots := t.slots, mcmds := t.mcmds, mwaits := t.mwaits, jobs := t.jobs, lines := t.lines,
      notices := t.notices, mirrorOut := t.mirrorOut, mseq := t.mseq, ports := t.ports, epfs := t.epfs, epReads := t.epReads, epTlpAt := t.epTlpAt,
      epL1 := t.epL1, epCmdAt := t.epCmdAt, pair := t.pair, live := t.live } = t) ∧
    (∀ (inputs : Nat) (s : State), Completes (.sbcFrame inputs) s fun t => { s with
      regs := t.regs, bench := t.bench, faultDeclared := t.faultDeclared, out := t.out, conns := t.conns, nss := t.nss, ctrls := t.ctrls, cmds := t.cmds,
      stalled := t.stalled, sbcWant := t.sbcWant, sbcShift := t.sbcShift, groups := t.groups, stripes := t.stripes, entryNotice := t.entryNotice,
      pendings := t.pendings, svy := t.svy, tally := t.tally, fixupds := t.fixupds, fixblks := t.fixblks, slots := t.slots, mcmds := t.mcmds,
      mwaits := t.mwaits, jobs := t.jobs, lines := t.lines, notices := t.notices, mirrorOut := t.mirrorOut, mseq := t.mseq, ports := t.ports, epfs := t.epfs,
      epReads := t.epReads, epTlpAt := t.epTlpAt, epL1 := t.epL1, epCmdAt := t.epCmdAt, pair := t.pair } = t) ∧
    (∀ (role : Nat) (f : CipFound) (hdrOk : Bool) (s : State), Completes (.cipResult role f hdrOk) s fun t => { s with
      regs := t.regs, bench := t.bench, lanes := t.lanes, chans := t.chans, unacked := t.unacked, rot := t.rot, faultDeclared := t.faultDeclared, out := t.out,
      freeCount := t.freeCount, notices := t.notices, cips := t.cips, swq := t.swq, tru := t.tru, pair := t.pair, live := t.live } = t)

/-- Each command of the switch, the endpoint, the start and live service completes, and everything but the pieces of state named for it stays as it was. -/
def Obligations.EtherAndStartFields : Prop :=
    (∀ (mac : Nat) (f : EthFrame) (s : State), Completes (.ethFrameReceive mac f) s fun t => { s with
      regs := t.regs, bench := t.bench, lanes := t.lanes, chans := t.chans, unacked := t.unacked, rot := t.rot, faultDeclared := t.faultDeclared, out := t.out,
      freeCount := t.freeCount, macs := t.macs, prtStat := t.prtStat, swq := t.swq, markers := t.markers, policed := t.policed, swcNotices := t.swcNotices,
      samples := t.samples, arrivals := t.arrivals, pair := t.pair, live := t.live } = t) ∧
    (∀ (mac : Nat) (cls : Nat) (own : Option OwnFrame) (s : State), Completes (.ethFrameTransmit mac cls own) s fun t => { s with
      regs := t.regs, bench := t.bench, lanes := t.lanes, chans := t.chans, unacked := t.unacked, rot := t.rot, faultDeclared := t.faultDeclared, out := t.out,
      freeCount := t.freeCount, macs := t.macs, eports := t.eports, prtStat := t.prtStat, swq := t.swq, policed := t.policed, swcNotices := t.swcNotices,
      samples := t.samples, pair := t.pair, live := t.live } = t) ∧
    (∀ (fromMac : Nat) (cls : Nat) (toMac : Option Nat) (f : EthFrame) (s : State), Completes (.haulForwardFrame fromMac cls toMac f)
      s fun t => { s with
      regs := t.regs, bench := t.bench, lanes := t.lanes, chans := t.chans, unacked := t.unacked, rot := t.rot, faultDeclared := t.faultDeclared, out := t.out,
      freeCount := t.freeCount, macs := t.macs, prtStat := t.prtStat, swq := t.swq, policed := t.policed, swcNotices := t.swcNotices, samples := t.samples,
      arrivals := t.arrivals, pair := t.pair, live := t.live } = t) ∧
    (∀ (kind : Nat) (s : State), Completes (.epLinkReset kind) s fun t => { s with
      regs := t.regs, bench := t.bench, faultDeclared := t.faultDeclared, out := t.out, conns := t.conns, nss := t.nss, ctrls := t.ctrls,
      freedCtrls := t.freedCtrls, cmds := t.cmds, stalled := t.stalled, groups := t.groups, stripes := t.stripes, entryNotice := t.entryNotice,
      tally := t.tally, fixupds := t.fixupds, slots := t.slots, mcmds := t.mcmds, mwaits := t.mwaits, jobs := t.jobs, winops := t.winops, pends := t.pends,
      mirrorOut := t.mirrorOut, mseq := t.mseq, adminWaits := t.adminWaits, epfs := t.epfs, epReads := t.epReads, epFetches := t.epFetches,
      epTlpAt := t.epTlpAt, epL1 := t.epL1, epCmdAt := t.epCmdAt, epQuarNotice := t.epQuarNotice, pair := t.pair } = t) ∧
    (∀ (f : Nat) (s : State), Completes (.epFlr f) s fun t => { s with
      regs := t.regs, bench := t.bench, faultDeclared := t.faultDeclared, out := t.out, conns := t.conns, nss := t.nss, ctrls := t.ctrls,
      freedCtrls := t.freedCtrls, cmds := t.cmds, stalled := t.stalled, groups := t.groups, stripes := t.stripes, entryNotice := t.entryNotice,
      tally := t.tally, fixupds := t.fixupds, slots := t.slots, mcmds := t.mcmds, mwaits := t.mwaits, jobs := t.jobs, winops := t.winops, pends := t.pends,
      mirrorOut := t.mirrorOut, mseq := t.mseq, adminWaits := t.adminWaits, epfs := t.epfs, epReads := t.epReads, epFetches := t.epFetches,
      epTlpAt := t.epTlpAt, epL1 := t.epL1, epCmdAt := t.epCmdAt, epQuarNotice := t.epQuarNotice, pair := t.pair } = t) ∧
    (∀ (num : Nat) (s : State), Completes (.epVfEnable num) s fun t => { s with
      regs := t.regs, bench := t.bench, faultDeclared := t.faultDeclared, out := t.out, conns := t.conns, nss := t.nss, ctrls := t.ctrls,
      freedCtrls := t.freedCtrls, cmds := t.cmds, stalled := t.stalled, groups := t.groups, stripes := t.stripes, entryNotice := t.entryNotice,
      tally := t.tally, fixupds := t.fixupds, slots := t.slots, mcmds := t.mcmds, mwaits := t.mwaits, jobs := t.jobs, winops := t.winops, pends := t.pends,
      mirrorOut := t.mirrorOut, mseq := t.mseq, adminWaits := t.adminWaits, epfs := t.epfs, epReads := t.epReads, epFetches := t.epFetches,
      epTlpAt := t.epTlpAt, epL1 := t.epL1, epCmdAt := t.epCmdAt, epQuarNotice := t.epQuarNotice, pair := t.pair } = t) ∧
    (∀ (f : Nat) (s : State), Completes (.epCcEnClear f) s fun t => { s with
      regs := t.regs, bench := t.bench, faultDeclared := t.faultDeclared, out := t.out, conns := t.conns, nss := t.nss, ctrls := t.ctrls,
      freedCtrls := t.freedCtrls, cmds := t.cmds, stalled := t.stalled, groups := t.groups, stripes := t.stripes, entryNotice := t.entryNotice,
      tally := t.tally, fixupds := t.fixupds, slots := t.slots, mcmds := t.mcmds, mwaits := t.mwaits, jobs := t.jobs, winops := t.winops, pends := t.pends,
      mirrorOut := t.mirrorOut, mseq := t.mseq, adminWaits := t.adminWaits, epfs := t.epfs, epReads := t.epReads, epFetches := t.epFetches,
      epTlpAt := t.epTlpAt, epL1 := t.epL1, epCmdAt := t.epCmdAt, pair := t.pair } = t) ∧
    (∀ (f : Nat) (shn : Nat) (s : State), Completes (.epCcShnWrite f shn) s fun t => { s with
      regs := t.regs, bench := t.bench, faultDeclared := t.faultDeclared, out := t.out, conns := t.conns, nss := t.nss, ctrls := t.ctrls, cmds := t.cmds,
      stalled := t.stalled, groups := t.groups, stripes := t.stripes, entryNotice := t.entryNotice, tally := t.tally, fixupds := t.fixupds, slots := t.slots,
      mcmds := t.mcmds, mwaits := t.mwaits, jobs := t.jobs, mirrorOut := t.mirrorOut, mseq := t.mseq, adminWaits := t.adminWaits, epfs := t.epfs,
      epReads := t.epReads, epFetches := t.epFetches, epTlpAt := t.epTlpAt, epL1 := t.epL1, epCmdAt := t.epCmdAt, pair := t.pair } = t) ∧
    (∀ (f : Nat) (val : Nat) (s : State), Completes (.epNssrWrite f val) s fun t => { s with
      regs := t.regs, bench := t.bench, faultDeclared := t.faultDeclared, out := t.out, conns := t.conns, nss := t.nss, ctrls := t.ctrls,
      freedCtrls := t.freedCtrls, cmds := t.cmds, stalled := t.stalled, groups := t.groups, stripes := t.stripes, entryNotice := t.entryNotice,
      tally := t.tally, fixupds := t.fixupds, slots := t.slots, mcmds := t.mcmds, mwaits := t.mwaits, jobs := t.jobs, winops := t.winops, pends := t.pends,
      mirrorOut := t.mirrorOut, mseq := t.mseq, adminWaits := t.adminWaits, nssro := t.nssro, epfs := t.epfs, epReads := t.epReads, epFetches := t.epFetches,
      epTlpAt := t.epTlpAt, epL1 := t.epL1, epCmdAt := t.epCmdAt, pair := t.pair } = t) ∧
    (∀ (v : NvmeCmd) (s : State), Completes (.createIoCq v) s fun t => { s with
      regs := t.regs, bench := t.bench, faultDeclared := t.faultDeclared, out := t.out, conns := t.conns, nss := t.nss, ctrls := t.ctrls, cmds := t.cmds,
      stalled := t.stalled, nextCmd := t.nextCmd, groups := t.groups, stripes := t.stripes, entryNotice := t.entryNotice, tally := t.tally,
      fixupds := t.fixupds, slots := t.slots, mcmds := t.mcmds, mwaits := t.mwaits, jobs := t.jobs, notices := t.notices, mirrorOut := t.mirrorOut,
      mseq := t.mseq, adminWaits := t.adminWaits, epfs := t.epfs, epReads := t.epReads, epFetches := t.epFetches, epTlpAt := t.epTlpAt, epL1 := t.epL1,
      epCmdAt := t.epCmdAt, pair := t.pair } = t) ∧
    (∀ (v : NvmeCmd) (s : State), Completes (.createIoSq v) s fun t => { s with
      regs := t.regs, bench := t.bench, faultDeclared := t.faultDeclared, out := t.out, conns := t.conns, nss := t.nss, ctrls := t.ctrls, cmds := t.cmds,
      stalled := t.stalled, nextCmd := t.nextCmd, groups := t.groups, stripes := t.stripes, entryNotice := t.entryNotice, tally := t.tally,
      fixupds := t.fixupds, slots := t.slots, mcmds := t.mcmds, mwaits := t.mwaits, jobs := t.jobs, notices := t.notices, mirrorOut := t.mirrorOut,
      mseq := t.mseq, adminWaits := t.adminWaits, epfs := t.epfs, epReads := t.epReads, epFetches := t.epFetches, epTlpAt := t.epTlpAt, epL1 := t.epL1,
      epCmdAt := t.epCmdAt, pair := t.pair } = t) ∧
    (∀ (v : NvmeCmd) (s : State), Completes (.deleteIoSq v) s fun t => { s with
      regs := t.regs, bench := t.bench, faultDeclared := t.faultDeclared, out := t.out, conns := t.conns, nss := t.nss, ctrls := t.ctrls, cmds := t.cmds,
      stalled := t.stalled, nextCmd := t.nextCmd, groups := t.groups, stripes := t.stripes, entryNotice := t.entryNotice, tally := t.tally,
      fixupds := t.fixupds, slots := t.slots, mcmds := t.mcmds, mwaits := t.mwaits, jobs := t.jobs, notices := t.notices, mirrorOut := t.mirrorOut,
      mseq := t.mseq, adminWaits := t.adminWaits, epfs := t.epfs, epReads := t.epReads, epFetches := t.epFetches, epTlpAt := t.epTlpAt, epL1 := t.epL1,
      epCmdAt := t.epCmdAt, pair := t.pair } = t) ∧
    (∀ (v : NvmeCmd) (s : State), Completes (.deleteIoCq v) s fun t => { s with
      regs := t.regs, bench := t.bench, faultDeclared := t.faultDeclared, out := t.out, conns := t.conns, nss := t.nss, ctrls := t.ctrls, cmds := t.cmds,
      stalled := t.stalled, nextCmd := t.nextCmd, groups := t.groups, stripes := t.stripes, entryNotice := t.entryNotice, tally := t.tally,
      fixupds := t.fixupds, slots := t.slots, mcmds := t.mcmds, mwaits := t.mwaits, jobs := t.jobs, notices := t.notices, mirrorOut := t.mirrorOut,
      mseq := t.mseq, adminWaits := t.adminWaits, epfs := t.epfs, epReads := t.epReads, epFetches := t.epFetches, epTlpAt := t.epTlpAt, epL1 := t.epL1,
      epCmdAt := t.epCmdAt, pair := t.pair } = t) ∧
    (∀ (tag : Nat) (es : List EpEntry) (s : State), Completes (.epSqeFetched tag es) s fun t => t.pending = s.pending ∧ t.part =
      s.part ∧ t.lanes = s.lanes ∧ t.chans = s.chans ∧ t.unacked = s.unacked ∧ t.rot = s.rot ∧ t.tim = s.tim ∧ t.evlog = s.evlog ∧
      t.subs = s.subs ∧ t.freed = s.freed ∧ t.freedNsids = s.freedNsids ∧ t.msnap = s.msnap ∧ t.msaved = s.msaved ∧ t.tsaved = s.tsaved
      ∧ t.msaveAt = s.msaveAt ∧ t.subnqn = s.subnqn ∧ t.sbcWant = s.sbcWant ∧ t.sbcShift = s.sbcShift ∧ t.roleV = s.roleV ∧ t.grants =
      s.grants ∧ t.taskGrants = s.taskGrants ∧ t.periodAt = s.periodAt ∧ t.rebAt = s.rebAt ∧ t.svy = s.svy ∧ t.badBlks = s.badBlks ∧
      t.tcutSpent = s.tcutSpent ∧ t.rindex = s.rindex ∧ t.reshape = s.reshape ∧ t.nextOp = s.nextOp ∧ t.nextVer = s.nextVer ∧ t.frames =
      s.frames ∧ t.serials = s.serials ∧ t.dimms = s.dimms ∧ t.frameFails = s.frameFails ∧ t.fenceEnd = s.fenceEnd ∧ t.trimGather =
      s.trimGather ∧ t.msnapBad = s.msnapBad ∧ t.ports = s.ports ∧ t.stage = s.stage ∧ t.drvPowered = s.drvPowered ∧ t.macs = s.macs ∧
      t.eports = s.eports ∧ t.prtStat = s.prtStat ∧ t.swq = s.swq ∧ t.markers = s.markers ∧ t.policed = s.policed ∧ t.swcNotices =
      s.swcNotices ∧ t.samples = s.samples ∧ t.arrivals = s.arrivals ∧ t.fuses = s.fuses ∧ t.flash = s.flash ∧ t.boot = s.boot ∧ t.tru =
      s.tru ∧ t.chain = s.chain ∧ t.mgt = s.mgt) ∧
    (∀ (tag : Nat) (status : Nat) (data : Nat) (s : State), Completes (.epReadCompletion tag status data) s fun t => { s with
      regs := t.regs, bench := t.bench, faultDeclared := t.faultDeclared, out := t.out, conns := t.conns, nss := t.nss, ctrls := t.ctrls, cmds := t.cmds,
      stalled := t.stalled, groups := t.groups, stripes := t.stripes, entryNotice := t.entryNotice, tally := t.tally, slots := t.slots, notices := t.notices,
      mirrorOut := t.mirrorOut, mseq := t.mseq, epfs := t.epfs, epReads := t.epReads, epFetches := t.epFetches, epTlpAt := t.epTlpAt, epL1 := t.epL1,
      epCmdAt := t.epCmdAt, epQuarNotice := t.epQuarNotice, pair := t.pair } = t) ∧
    (∀ (e : BootEnd) (s : State), Completes (.bootStepEnd e) s fun t => t.pending = s.pending ∧ t.part = s.part ∧ t.evlog = s.evlog ∧
      t.subs = s.subs ∧ t.freed = s.freed ∧ t.freedNsids = s.freedNsids ∧ t.msnap = s.msnap ∧ t.msaved = s.msaved ∧ t.tsaved = s.tsaved
      ∧ t.msaveAt = s.msaveAt ∧ t.freedCtrls = s.freedCtrls ∧ t.sbcShift = s.sbcShift ∧ t.nextCmd = s.nextCmd ∧ t.roleV = s.roleV ∧
      t.grants = s.grants ∧ t.taskGrants = s.taskGrants ∧ t.periodAt = s.periodAt ∧ t.rebAt = s.rebAt ∧ t.sweeps = s.sweeps ∧ t.badBlks
      = s.badBlks ∧ t.tcutSpent = s.tcutSpent ∧ t.rindex = s.rindex ∧ t.reshape = s.reshape ∧ t.nextOp = s.nextOp ∧ t.frameFails =
      s.frameFails ∧ t.fenceEnd = s.fenceEnd ∧ t.trimGather = s.trimGather ∧ t.msnapBad = s.msnapBad ∧ t.imgDamaged = s.imgDamaged ∧
      t.cips = s.cips ∧ t.adminWaits = s.adminWaits ∧ t.nssro = s.nssro ∧ t.drvPowered = s.drvPowered ∧ t.macs = s.macs ∧ t.prtStat =
      s.prtStat ∧ t.markers = s.markers ∧ t.policed = s.policed ∧ t.swcNotices = s.swcNotices ∧ t.samples = s.samples ∧ t.arrivals =
      s.arrivals ∧ t.epFetches = s.epFetches ∧ t.epLtrActive = s.epLtrActive ∧ t.epQuarNotice = s.epQuarNotice ∧ t.flash = s.flash) ∧
    (∀ (slot : Nat) (s : State), Completes (.memberWaitExpiry slot) s fun t => { s with
      regs := t.regs, bench := t.bench, faultDeclared := t.faultDeclared, out := t.out, conns := t.conns, nss := t.nss, ctrls := t.ctrls, cmds := t.cmds,
      stalled := t.stalled, sbcWant := t.sbcWant, groups := t.groups, stripes := t.stripes, entryNotice := t.entryNotice, svy := t.svy, tally := t.tally,
      fixblks := t.fixblks, slots := t.slots, mcmds := t.mcmds, mwaits := t.mwaits, jobs := t.jobs, notices := t.notices, mirrorOut := t.mirrorOut,
      mseq := t.mseq, epfs := t.epfs, epReads := t.epReads, epTlpAt := t.epTlpAt, epL1 := t.epL1, epCmdAt := t.epCmdAt, pair := t.pair } = t) ∧
    (∀ (v : NvmeCmd) (x : CommitInfo) (s : State), Completes (.firmwareCommitWrite v x) s fun t => { s with
      regs := t.regs, bench := t.bench, faultDeclared := t.faultDeclared, out := t.out, conns := t.conns, nss := t.nss, ctrls := t.ctrls, cmds := t.cmds,
      stalled := t.stalled, nextCmd := t.nextCmd, notices := t.notices, mirrorOut := t.mirrorOut, mseq := t.mseq, epfs := t.epfs, epReads := t.epReads,
      epTlpAt := t.epTlpAt, epL1 := t.epL1, epCmdAt := t.epCmdAt, pair := t.pair, live := t.live } = t) ∧
    (∀ (v : NvmeCmd) (x : CommitInfo) (s : State), Completes (.firmwareCommitWritePrefer v x) s fun t => { s with
      regs := t.regs, bench := t.bench, faultDeclared := t.faultDeclared, out := t.out, conns := t.conns, nss := t.nss, ctrls := t.ctrls, cmds := t.cmds,
      stalled := t.stalled, nextCmd := t.nextCmd, notices := t.notices, mirrorOut := t.mirrorOut, mseq := t.mseq, epfs := t.epfs, epReads := t.epReads,
      epTlpAt := t.epTlpAt, epL1 := t.epL1, epCmdAt := t.epCmdAt, pair := t.pair, live := t.live } = t) ∧
    (∀ (v : NvmeCmd) (x : CommitInfo) (s : State), Completes (.firmwareCommitPrefer v x) s fun t => { s with
      regs := t.regs, bench := t.bench, faultDeclared := t.faultDeclared, out := t.out, conns := t.conns, nss := t.nss, ctrls := t.ctrls, cmds := t.cmds,
      stalled := t.stalled, nextCmd := t.nextCmd, notices := t.notices, mirrorOut := t.mirrorOut, mseq := t.mseq, epfs := t.epfs, epReads := t.epReads,
      epTlpAt := t.epTlpAt, epL1 := t.epL1, epCmdAt := t.epCmdAt, pair := t.pair, live := t.live } = t) ∧
    (∀ (v : NvmeCmd) (x : CommitInfo) (s : State), Completes (.firmwareCommitActivate v x) s fun t => { s with
      regs := t.regs, bench := t.bench, faultDeclared := t.faultDeclared, out := t.out, conns := t.conns, nss := t.nss, ctrls := t.ctrls, cmds := t.cmds,
      stalled := t.stalled, nextCmd := t.nextCmd, notices := t.notices, mirrorOut := t.mirrorOut, mseq := t.mseq, epfs := t.epfs, epReads := t.epReads,
      epTlpAt := t.epTlpAt, epL1 := t.epL1, epCmdAt := t.epCmdAt, pair := t.pair, live := t.live } = t) ∧
    (∀ (e : FlashEnd) (s : State), Completes (.flashWriteDone e) s fun t => { s with
      regs := t.regs, bench := t.bench, rot := t.rot, faultDeclared := t.faultDeclared, out := t.out, conns := t.conns, nss := t.nss, ctrls := t.ctrls,
      cmds := t.cmds, stalled := t.stalled, mirrorOut := t.mirrorOut, mseq := t.mseq, epfs := t.epfs, epReads := t.epReads, epTlpAt := t.epTlpAt,
      epL1 := t.epL1, epCmdAt := t.epCmdAt, flash := t.flash, boot := t.boot, pair := t.pair, live := t.live } = t) ∧
    (∀ (partner : Bool) (bench : Nat) (ok : Bool) (last : Bool) (s : State), Completes (.benchReloadDone partner bench ok last) s fun
      t => t.pending = s.pending ∧ t.part = s.part ∧ t.evlog = s.evlog ∧ t.freed = s.freed ∧ t.freedNsids = s.freedNsids ∧ t.tenants =
      s.tenants ∧ t.msnap = s.msnap ∧ t.msaved = s.msaved ∧ t.tsaved = s.tsaved ∧ t.msaveAt = s.msaveAt ∧ t.subnqn = s.subnqn ∧
      t.sbcShift = s.sbcShift ∧ t.nextCmd = s.nextCmd ∧ t.roleV = s.roleV ∧ t.grants = s.grants ∧ t.taskGrants = s.taskGrants ∧
      t.periodAt = s.periodAt ∧ t.rebAt = s.rebAt ∧ t.survey = s.survey ∧ t.objs = s.objs ∧ t.sweeps = s.sweeps ∧ t.badBlks = s.badBlks
      ∧ t.tcutSpent = s.tcutSpent ∧ t.rindex = s.rindex ∧ t.nextOp = s.nextOp ∧ t.nextVer = s.nextVer ∧ t.frames = s.frames ∧ t.serials
      = s.serials ∧ t.dimms = s.dimms ∧ t.frameFails = s.frameFails ∧ t.fenceEnd = s.fenceEnd ∧ t.trimGather = s.trimGather ∧ t.msnapBad
      = s.msnapBad ∧ t.imgDamaged = s.imgDamaged ∧ t.nssro = s.nssro ∧ t.stage = s.stage ∧ t.drvPowered = s.drvPowered ∧ t.markers =
      s.markers ∧ t.policed = s.policed ∧ t.swcNotices = s.swcNotices ∧ t.samples = s.samples ∧ t.arrivals = s.arrivals ∧ t.epLtrActive
      = s.epLtrActive ∧ t.flash = s.flash ∧ t.boot = s.boot) ∧
    (∀ (s : State), Completes .ctlLiveRetire s fun t => { s with
      regs := t.regs, bench := t.bench, faultDeclared := t.faultDeclared, out := t.out, conns := t.conns, nss := t.nss, ctrls := t.ctrls,
      freedCtrls := t.freedCtrls, cmds := t.cmds, stalled := t.stalled, sbcWant := t.sbcWant, groups := t.groups, stripes := t.stripes,
      entryNotice := t.entryNotice, tally := t.tally, fixupds := t.fixupds, slots := t.slots, mcmds := t.mcmds, mwaits := t.mwaits, jobs := t.jobs,
      winops := t.winops, pends := t.pends, mirrorOut := t.mirrorOut, mseq := t.mseq, adminWaits := t.adminWaits, ports := t.ports, epfs := t.epfs,
      epReads := t.epReads, epFetches := t.epFetches, epTlpAt := t.epTlpAt, epL1 := t.epL1, epCmdAt := t.epCmdAt, epQuarNotice := t.epQuarNotice,
      pair := t.pair, live := t.live } = t)

/-- Each command of the chain, the pair, trust, management and the holds in reset completes, and everything but the pieces of state named for it stays as it was. -/
def Obligations.PairAndManagementFields : Prop :=
    (∀ (crcOk : Bool) (dst : Nat) (kind : Nat) (relay : Nat) (src : Nat) (command : Nat) (cc : Nat) (detail : Nat) (r : VendorReq)
      (fromUp : Bool) (s : State), Completes (.chainMgmt crcOk dst kind relay src command cc detail r fromUp) s fun t => t.pending =
      s.pending ∧ t.part = s.part ∧ t.evlog = s.evlog ∧ t.freed = s.freed ∧ t.freedNsids = s.freedNsids ∧ t.tenants = s.tenants ∧
      t.msnap = s.msnap ∧ t.msaved = s.msaved ∧ t.tsaved = s.tsaved ∧ t.msaveAt = s.msaveAt ∧ t.subnqn = s.subnqn ∧ t.sbcShift =
      s.sbcShift ∧ t.nextCmd = s.nextCmd ∧ t.roleV = s.roleV ∧ t.grants = s.grants ∧ t.taskGrants = s.taskGrants ∧ t.periodAt =
      s.periodAt ∧ t.rebAt = s.rebAt ∧ t.survey = s.survey ∧ t.objs = s.objs ∧ t.sweeps = s.sweeps ∧ t.badBlks = s.badBlks ∧ t.tcutSpent
      = s.tcutSpent ∧ t.rindex = s.rindex ∧ t.nextOp = s.nextOp ∧ t.nextVer = s.nextVer ∧ t.frames = s.frames ∧ t.serials = s.serials ∧
      t.dimms = s.dimms ∧ t.frameFails = s.frameFails ∧ t.fenceEnd = s.fenceEnd ∧ t.trimGather = s.trimGather ∧ t.msnapBad = s.msnapBad
      ∧ t.imgDamaged = s.imgDamaged ∧ t.nssro = s.nssro ∧ t.stage = s.stage ∧ t.drvPowered = s.drvPowered ∧ t.eports = s.eports ∧
      t.markers = s.markers ∧ t.policed = s.policed ∧ t.swcNotices = s.swcNotices ∧ t.samples = s.samples ∧ t.arrivals = s.arrivals ∧
      t.epLtrActive = s.epLtrActive ∧ t.flash = s.flash ∧ t.boot = s.boot) ∧
    (∀ (half : Nat) (chan : Nat) (seq : Nat) (ack : Option Nat) (nak : Bool) (tagOk : Bool) (body : HaulBody) (s : State), Completes
      (.haulFrameReceive half chan seq ack nak tagOk body) s fun t => t.pending = s.pending ∧ t.part = s.part ∧ t.lanes = s.lanes ∧
      t.chans = s.chans ∧ t.unacked = s.unacked ∧ t.rot = s.rot ∧ t.tim = s.tim ∧ t.evlog = s.evlog ∧ t.subs = s.subs ∧ t.freed =
      s.freed ∧ t.freedNsids = s.freedNsids ∧ t.msnap = s.msnap ∧ t.msaved = s.msaved ∧ t.tsaved = s.tsaved ∧ t.msaveAt = s.msaveAt ∧
      t.subnqn = s.subnqn ∧ t.sbcShift = s.sbcShift ∧ t.roleV = s.roleV ∧ t.grants = s.grants ∧ t.taskGrants = s.taskGrants ∧ t.periodAt
      = s.periodAt ∧ t.rebAt = s.rebAt ∧ t.svy = s.svy ∧ t.badBlks = s.badBlks ∧ t.tcutSpent = s.tcutSpent ∧ t.rindex = s.rindex ∧
      t.reshape = s.reshape ∧ t.nextOp = s.nextOp ∧ t.nextVer = s.nextVer ∧ t.frames = s.frames ∧ t.serials = s.serials ∧ t.dimms =
      s.dimms ∧ t.frameFails = s.frameFails ∧ t.fenceEnd = s.fenceEnd ∧ t.trimGather = s.trimGather ∧ t.msnapBad = s.msnapBad ∧ t.stage
      = s.stage ∧ t.drvPowered = s.drvPowered ∧ t.macs = s.macs ∧ t.eports = s.eports ∧ t.prtStat = s.prtStat ∧ t.swq = s.swq ∧
      t.markers = s.markers ∧ t.policed = s.policed ∧ t.swcNotices = s.swcNotices ∧ t.samples = s.samples ∧ t.arrivals = s.arrivals ∧
      t.epQuarNotice = s.epQuarNotice ∧ t.fuses = s.fuses ∧ t.flash = s.flash ∧ t.boot = s.boot ∧ t.tru = s.tru ∧ t.chain = s.chain) ∧
    (∀ (haul : Bool) (bseq : Nat) (role : Nat) (gen : Nat) (s : State), Completes (.heartbeatBeat haul bseq role gen) s fun t => { s with
      regs := t.regs, bench := t.bench, faultDeclared := t.faultDeclared, out := t.out, conns := t.conns, nss := t.nss, ctrls := t.ctrls, cmds := t.cmds,
      stalled := t.stalled, sbcWant := t.sbcWant, groups := t.groups, stripes := t.stripes, entryNotice := t.entryNotice, survey := t.survey,
      pendings := t.pendings, objs := t.objs, tally := t.tally, fixupds := t.fixupds, fixblks := t.fixblks, slots := t.slots, mcmds := t.mcmds,
      mwaits := t.mwaits, nextJob := t.nextJob, windows := t.windows, winops := t.winops, nextVer := t.nextVer, pends := t.pends, lines := t.lines,
      sectors := t.sectors, maint := t.maint, notices := t.notices, mirrorOut := t.mirrorOut, mseq := t.mseq, swq := t.swq, epfs := t.epfs,
      epReads := t.epReads, epTlpAt := t.epTlpAt, epL1 := t.epL1, epCmdAt := t.epCmdAt, pair := t.pair, mgt := t.mgt } = t) ∧
    (∀ (haul : Bool) (s : State), Completes (.heartbeatMiss haul) s fun t => t.pending = s.pending ∧ t.part = s.part ∧ t.lanes =
      s.lanes ∧ t.chans = s.chans ∧ t.unacked = s.unacked ∧ t.tim = s.tim ∧ t.evlog = s.evlog ∧ t.subs = s.subs ∧ t.freed = s.freed ∧
      t.freedNsids = s.freedNsids ∧ t.msnap = s.msnap ∧ t.msaved = s.msaved ∧ t.tsaved = s.tsaved ∧ t.msaveAt = s.msaveAt ∧ t.subnqn =
      s.subnqn ∧ t.sbcShift = s.sbcShift ∧ t.roleV = s.roleV ∧ t.grants = s.grants ∧ t.taskGrants = s.taskGrants ∧ t.periodAt =
      s.periodAt ∧ t.rebAt = s.rebAt ∧ t.svy = s.svy ∧ t.badBlks = s.badBlks ∧ t.tcutSpent = s.tcutSpent ∧ t.rindex = s.rindex ∧
      t.reshape = s.reshape ∧ t.nextOp = s.nextOp ∧ t.frames = s.frames ∧ t.serials = s.serials ∧ t.dimms = s.dimms ∧ t.frameFails =
      s.frameFails ∧ t.trimGather = s.trimGather ∧ t.msnapBad = s.msnapBad ∧ t.ports = s.ports ∧ t.stage = s.stage ∧ t.drvPowered =
      s.drvPowered ∧ t.macs = s.macs ∧ t.eports = s.eports ∧ t.prtStat = s.prtStat ∧ t.markers = s.markers ∧ t.policed = s.policed ∧
      t.swcNotices = s.swcNotices ∧ t.samples = s.samples ∧ t.arrivals = s.arrivals ∧ t.epQuarNotice = s.epQuarNotice ∧ t.fuses =
      s.fuses ∧ t.flash = s.flash ∧ t.boot = s.boot ∧ t.chain = s.chain) ∧
    (∀ (s : State), Completes .goodbye s fun t => t.pending = s.pending ∧ t.part = s.part ∧ t.lanes = s.lanes ∧ t.chans = s.chans ∧
      t.unacked = s.unacked ∧ t.tim = s.tim ∧ t.evlog = s.evlog ∧ t.subs = s.subs ∧ t.freed = s.freed ∧ t.freedNsids = s.freedNsids ∧
      t.msnap = s.msnap ∧ t.msaved = s.msaved ∧ t.tsaved = s.tsaved ∧ t.msaveAt = s.msaveAt ∧ t.subnqn = s.subnqn ∧ t.sbcShift =
      s.sbcShift ∧ t.roleV = s.roleV ∧ t.grants = s.grants ∧ t.taskGrants = s.taskGrants ∧ t.periodAt = s.periodAt ∧ t.rebAt = s.rebAt ∧
      t.svy = s.svy ∧ t.badBlks = s.badBlks ∧ t.tcutSpent = s.tcutSpent ∧ t.rindex = s.rindex ∧ t.reshape = s.reshape ∧ t.nextOp =
      s.nextOp ∧ t.frames = s.frames ∧ t.serials = s.serials ∧ t.dimms = s.dimms ∧ t.frameFails = s.frameFails ∧ t.trimGather =
      s.trimGather ∧ t.msnapBad = s.msnapBad ∧ t.ports = s.ports ∧ t.stage = s.stage ∧ t.drvPowered = s.drvPowered ∧ t.macs = s.macs ∧
      t.eports = s.eports ∧ t.prtStat = s.prtStat ∧ t.markers = s.markers ∧ t.policed = s.policed ∧ t.swcNotices = s.swcNotices ∧
      t.samples = s.samples ∧ t.arrivals = s.arrivals ∧ t.epQuarNotice = s.epQuarNotice ∧ t.fuses = s.fuses ∧ t.flash = s.flash ∧ t.boot
      = s.boot ∧ t.chain = s.chain) ∧
    (∀ (s : State), Completes .activeFenceWait s fun t => { s with
      regs := t.regs, bench := t.bench, faultDeclared := t.faultDeclared, out := t.out, conns := t.conns, nss := t.nss, ctrls := t.ctrls, cmds := t.cmds,
      stalled := t.stalled, sbcWant := t.sbcWant, groups := t.groups, stripes := t.stripes, entryNotice := t.entryNotice, survey := t.survey,
      pendings := t.pendings, objs := t.objs, tally := t.tally, fixupds := t.fixupds, fixblks := t.fixblks, slots := t.slots, mcmds := t.mcmds,
      mwaits := t.mwaits, jobs := t.jobs, nextJob := t.nextJob, windows := t.windows, winops := t.winops, nextVer := t.nextVer, pends := t.pends,
      lines := t.lines, sectors := t.sectors, maint := t.maint, notices := t.notices, mirrorOut := t.mirrorOut, mseq := t.mseq, adminWaits := t.adminWaits,
      swq := t.swq, epfs := t.epfs, epReads := t.epReads, epFetches := t.epFetches, epTlpAt := t.epTlpAt, epL1 := t.epL1, epCmdAt := t.epCmdAt, pair := t.pair,
      mgt := t.mgt } = t) ∧
    (∀ (h : Hello) (s : State), Completes (.hello h) s fun t => { s with
      regs := t.regs, bench := t.bench, faultDeclared := t.faultDeclared, out := t.out, conns := t.conns, idents := t.idents, nss := t.nss,
      freedNsids := t.freedNsids, tenants := t.tenants, msaved := t.msaved, ctrls := t.ctrls, cmds := t.cmds, stalled := t.stalled, sbcWant := t.sbcWant,
      groups := t.groups, stripes := t.stripes, entryNotice := t.entryNotice, survey := t.survey, pendings := t.pendings, objs := t.objs, sweeps := t.sweeps,
      tally := t.tally, fixupds := t.fixupds, fixblks := t.fixblks, slots := t.slots, mcmds := t.mcmds, mwaits := t.mwaits, nextJob := t.nextJob,
      windows := t.windows, winops := t.winops, nextVer := t.nextVer, pends := t.pends, lines := t.lines, sectors := t.sectors, maint := t.maint,
      notices := t.notices, mirrorOut := t.mirrorOut, mseq := t.mseq, keyTab := t.keyTab, cips := t.cips, swq := t.swq, epfs := t.epfs, epReads := t.epReads,
      epTlpAt := t.epTlpAt, epL1 := t.epL1, epCmdAt := t.epCmdAt, boot := t.boot, pair := t.pair, mgt := t.mgt } = t) ∧
    (∀ (s : State), Completes .handoverDrainEnd s fun t => { s with
      regs := t.regs, bench := t.bench, rot := t.rot, faultDeclared := t.faultDeclared, out := t.out, sbcWant := t.sbcWant, tally := t.tally, jobs := t.jobs,
      winops := t.winops, mirrorOut := t.mirrorOut, mseq := t.mseq, macs := t.macs, prtStat := t.prtStat, swq := t.swq, swcNotices := t.swcNotices,
      pair := t.pair, live := t.live } = t) ∧
    (∀ (mseq : Nat) (s : State), Completes (.handoverItem mseq) s fun t => t.pending = s.pending ∧ t.part = s.part ∧ t.lanes = s.lanes
      ∧ t.chans = s.chans ∧ t.unacked = s.unacked ∧ t.rot = s.rot ∧ t.tim = s.tim ∧ t.evlog = s.evlog ∧ t.subs = s.subs ∧ t.freed =
      s.freed ∧ t.freedNsids = s.freedNsids ∧ t.msnap = s.msnap ∧ t.msaved = s.msaved ∧ t.tsaved = s.tsaved ∧ t.msaveAt = s.msaveAt ∧
      t.subnqn = s.subnqn ∧ t.sbcShift = s.sbcShift ∧ t.roleV = s.roleV ∧ t.grants = s.grants ∧ t.taskGrants = s.taskGrants ∧ t.periodAt
      = s.periodAt ∧ t.rebAt = s.rebAt ∧ t.svy = s.svy ∧ t.badBlks = s.badBlks ∧ t.tcutSpent = s.tcutSpent ∧ t.rindex = s.rindex ∧
      t.reshape = s.reshape ∧ t.nextOp = s.nextOp ∧ t.frames = s.frames ∧ t.serials = s.serials ∧ t.dimms = s.dimms ∧ t.frameFails =
      s.frameFails ∧ t.fenceEnd = s.fenceEnd ∧ t.trimGather = s.trimGather ∧ t.msnapBad = s.msnapBad ∧ t.ports = s.ports ∧ t.stage =
      s.stage ∧ t.drvPowered = s.drvPowered ∧ t.macs = s.macs ∧ t.eports = s.eports ∧ t.prtStat = s.prtStat ∧ t.swq = s.swq ∧ t.markers
      = s.markers ∧ t.policed = s.policed ∧ t.swcNotices = s.swcNotices ∧ t.samples = s.samples ∧ t.arrivals = s.arrivals ∧
      t.epQuarNotice = s.epQuarNotice ∧ t.fuses = s.fuses ∧ t.flash = s.flash ∧ t.boot = s.boot ∧ t.tru = s.tru ∧ t.chain = s.chain ∧
      t.mgt = s.mgt) ∧
    (∀ (s : State), Completes .handoverTimeout s fun t => { s with
      regs := t.regs, bench := t.bench, rot := t.rot, faultDeclared := t.faultDeclared, out := t.out, conns := t.conns, nss := t.nss, ctrls := t.ctrls,
      cmds := t.cmds, stalled := t.stalled, groups := t.groups, stripes := t.stripes, entryNotice := t.entryNotice, mirrorOut := t.mirrorOut, mseq := t.mseq,
      epfs := t.epfs, epReads := t.epReads, epTlpAt := t.epTlpAt, epL1 := t.epL1, epCmdAt := t.epCmdAt, pair := t.pair, live := t.live } = t) ∧
    (∀ (s : State), Completes .retireMessage s fun t => { s with
      regs := t.regs, bench := t.bench, rot := t.rot, faultDeclared := t.faultDeclared, out := t.out, conns := t.conns, nss := t.nss, ctrls := t.ctrls,
      cmds := t.cmds, stalled := t.stalled, sbcWant := t.sbcWant, groups := t.groups, stripes := t.stripes, entryNotice := t.entryNotice, survey := t.survey,
      pendings := t.pendings, objs := t.objs, tally := t.tally, fixupds := t.fixupds, fixblks := t.fixblks, slots := t.slots, mcmds := t.mcmds,
      mwaits := t.mwaits, nextJob := t.nextJob, windows := t.windows, winops := t.winops, nextVer := t.nextVer, pends := t.pends, lines := t.lines,
      sectors := t.sectors, maint := t.maint, notices := t.notices, mirrorOut := t.mirrorOut, mseq := t.mseq, keyTab := t.keyTab, cips := t.cips, swq := t.swq,
      epfs := t.epfs, epReads := t.epReads, epTlpAt := t.epTlpAt, epL1 := t.epL1, epCmdAt := t.epCmdAt, tru := t.tru, pair := t.pair, live := t.live, mgt := t.mgt
      } = t) ∧
    (∀ (mseq : Nat) (body : MirrorBody) (s : State), Completes (.mirrorItem mseq body) s fun t => { s with
      regs := t.regs, bench := t.bench, faultDeclared := t.faultDeclared, out := t.out, conns := t.conns, freed := t.freed, idents := t.idents, nss := t.nss,
      freedNsids := t.freedNsids, tenants := t.tenants, msaved := t.msaved, ctrls := t.ctrls, cmds := t.cmds, stalled := t.stalled, sbcWant := t.sbcWant,
      nextCmd := t.nextCmd, groups := t.groups, stripes := t.stripes, entryNotice := t.entryNotice, survey := t.survey, pendings := t.pendings,
      objs := t.objs, sweeps := t.sweeps, tally := t.tally, fixupds := t.fixupds, fixblks := t.fixblks, slots := t.slots, mcmds := t.mcmds, mwaits := t.mwaits,
      jobs := t.jobs, nextJob := t.nextJob, windows := t.windows, winops := t.winops, nextOp := t.nextOp, pends := t.pends, lines := t.lines,
      sectors := t.sectors, maint := t.maint, notices := t.notices, mirrorOut := t.mirrorOut, mseq := t.mseq, keyTab := t.keyTab, cips := t.cips,
      ports := t.ports, epfs := t.epfs, epReads := t.epReads, epTlpAt := t.epTlpAt, epL1 := t.epL1, epCmdAt := t.epCmdAt, pair := t.pair } = t) ∧
    (∀ (mseq : Nat) (s : State), Completes (.mirrorMack mseq) s fun t => { s with
      regs := t.regs, bench := t.bench, rot := t.rot, faultDeclared := t.faultDeclared, out := t.out, conns := t.conns, nss := t.nss, ctrls := t.ctrls,
      cmds := t.cmds, stalled := t.stalled, sbcWant := t.sbcWant, groups := t.groups, stripes := t.stripes, entryNotice := t.entryNotice, survey := t.survey,
      pendings := t.pendings, objs := t.objs, tally := t.tally, fixupds := t.fixupds, fixblks := t.fixblks, slots := t.slots, mcmds := t.mcmds,
      mwaits := t.mwaits, jobs := t.jobs, nextJob := t.nextJob, windows := t.windows, winops := t.winops, nextVer := t.nextVer, pends := t.pends,
      lines := t.lines, sectors := t.sectors, maint := t.maint, notices := t.notices, mirrorOut := t.mirrorOut, mseq := t.mseq, macs := t.macs,
      prtStat := t.prtStat, swq := t.swq, swcNotices := t.swcNotices, epfs := t.epfs, epReads := t.epReads, epTlpAt := t.epTlpAt, epL1 := t.epL1,
      epCmdAt := t.epCmdAt, pair := t.pair, live := t.live, mgt := t.mgt } = t) ∧
    (∀ (tag : Nat) (body : MirrorBody) (s : State), Completes (.resyncCopy tag body) s fun t => { s with
      regs := t.regs, bench := t.bench, faultDeclared := t.faultDeclared, out := t.out, conns := t.conns, freed := t.freed, idents := t.idents, nss := t.nss,
      freedNsids := t.freedNsids, tenants := t.tenants, msaved := t.msaved, ctrls := t.ctrls, cmds := t.cmds, stalled := t.stalled, sbcWant := t.sbcWant,
      nextCmd := t.nextCmd, groups := t.groups, stripes := t.stripes, entryNotice := t.entryNotice, survey := t.survey, pendings := t.pendings,
      objs := t.objs, sweeps := t.sweeps, tally := t.tally, fixupds := t.fixupds, fixblks := t.fixblks, slots := t.slots, mcmds := t.mcmds, mwaits := t.mwaits,
      jobs := t.jobs, nextJob := t.nextJob, windows := t.windows, winops := t.winops, nextOp := t.nextOp, pends := t.pends, lines := t.lines,
      sectors := t.sectors, maint := t.maint, notices := t.notices, mirrorOut := t.mirrorOut, mseq := t.mseq, keyTab := t.keyTab, cips := t.cips,
      ports := t.ports, epfs := t.epfs, epReads := t.epReads, epTlpAt := t.epTlpAt, epL1 := t.epL1, epCmdAt := t.epCmdAt, pair := t.pair } = t) ∧
    (∀ (m : PairMsg) (s : State), Completes (.pairingMessage m) s fun t => { s with
      regs := t.regs, bench := t.bench, faultDeclared := t.faultDeclared, out := t.out, freeCount := t.freeCount, sbcWant := t.sbcWant, notices := t.notices,
      keyTab := t.keyTab, cips := t.cips, tru := t.tru, pair := t.pair } = t) ∧
    (∀ (path : Nat) (r : VendorReq) (s : State), Completes (.mgtRegWrite path r) s fun t => t.pending = s.pending ∧ t.part = s.part ∧
      t.evlog = s.evlog ∧ t.subs = s.subs ∧ t.freed = s.freed ∧ t.idents = s.idents ∧ t.freedNsids = s.freedNsids ∧ t.tenants =
      s.tenants ∧ t.msnap = s.msnap ∧ t.msaved = s.msaved ∧ t.tsaved = s.tsaved ∧ t.msaveAt = s.msaveAt ∧ t.subnqn = s.subnqn ∧
      t.sbcShift = s.sbcShift ∧ t.nextCmd = s.nextCmd ∧ t.roleV = s.roleV ∧ t.grants = s.grants ∧ t.taskGrants = s.taskGrants ∧
      t.periodAt = s.periodAt ∧ t.rebAt = s.rebAt ∧ t.survey = s.survey ∧ t.objs = s.objs ∧ t.sweeps = s.sweeps ∧ t.badBlks = s.badBlks
      ∧ t.tcutSpent = s.tcutSpent ∧ t.rindex = s.rindex ∧ t.windows = s.windows ∧ t.nextOp = s.nextOp ∧ t.nextVer = s.nextVer ∧ t.frames
      = s.frames ∧ t.serials = s.serials ∧ t.dimms = s.dimms ∧ t.frameFails = s.frameFails ∧ t.fenceEnd = s.fenceEnd ∧ t.trimGather =
      s.trimGather ∧ t.msnapBad = s.msnapBad ∧ t.imgDamaged = s.imgDamaged ∧ t.nssro = s.nssro ∧ t.stage = s.stage ∧ t.drvPowered =
      s.drvPowered ∧ t.eports = s.eports ∧ t.markers = s.markers ∧ t.policed = s.policed ∧ t.swcNotices = s.swcNotices ∧ t.samples =
      s.samples ∧ t.arrivals = s.arrivals ∧ t.epLtrActive = s.epLtrActive ∧ t.flash = s.flash ∧ t.boot = s.boot) ∧
    (∀ (path : Nat) (r : VendorReq) (s : State), Completes (.mgtRegModify path r) s fun t => t.pending = s.pending ∧ t.part = s.part ∧
      t.evlog = s.evlog ∧ t.subs = s.subs ∧ t.freed = s.freed ∧ t.idents = s.idents ∧ t.freedNsids = s.freedNsids ∧ t.tenants =
      s.tenants ∧ t.msnap = s.msnap ∧ t.msaved = s.msaved ∧ t.tsaved = s.tsaved ∧ t.msaveAt = s.msaveAt ∧ t.subnqn = s.subnqn ∧
      t.sbcShift = s.sbcShift ∧ t.nextCmd = s.nextCmd ∧ t.roleV = s.roleV ∧ t.grants = s.grants ∧ t.taskGrants = s.taskGrants ∧
      t.periodAt = s.periodAt ∧ t.rebAt = s.rebAt ∧ t.survey = s.survey ∧ t.objs = s.objs ∧ t.sweeps = s.sweeps ∧ t.badBlks = s.badBlks
      ∧ t.tcutSpent = s.tcutSpent ∧ t.rindex = s.rindex ∧ t.windows = s.windows ∧ t.nextOp = s.nextOp ∧ t.nextVer = s.nextVer ∧ t.frames
      = s.frames ∧ t.serials = s.serials ∧ t.dimms = s.dimms ∧ t.frameFails = s.frameFails ∧ t.fenceEnd = s.fenceEnd ∧ t.trimGather =
      s.trimGather ∧ t.msnapBad = s.msnapBad ∧ t.imgDamaged = s.imgDamaged ∧ t.nssro = s.nssro ∧ t.stage = s.stage ∧ t.drvPowered =
      s.drvPowered ∧ t.eports = s.eports ∧ t.markers = s.markers ∧ t.policed = s.policed ∧ t.swcNotices = s.swcNotices ∧ t.samples =
      s.samples ∧ t.arrivals = s.arrivals ∧ t.epLtrActive = s.epLtrActive ∧ t.flash = s.flash ∧ t.boot = s.boot) ∧
    (∀ (path : Nat) (r : VendorReq) (s : State), Completes (.mgtIdentDereg path r) s fun t => { s with
      regs := t.regs, bench := t.bench, faultDeclared := t.faultDeclared, out := t.out, conns := t.conns, idents := t.idents, nss := t.nss, ctrls := t.ctrls,
      freedCtrls := t.freedCtrls, cmds := t.cmds, stalled := t.stalled, groups := t.groups, stripes := t.stripes, entryNotice := t.entryNotice,
      tally := t.tally, fixupds := t.fixupds, slots := t.slots, mcmds := t.mcmds, mwaits := t.mwaits, jobs := t.jobs, nextJob := t.nextJob,
      windows := t.windows, winops := t.winops, pends := t.pends, lines := t.lines, sectors := t.sectors, maint := t.maint, mirrorOut := t.mirrorOut,
      mseq := t.mseq, adminWaits := t.adminWaits, epfs := t.epfs, epReads := t.epReads, epFetches := t.epFetches, epTlpAt := t.epTlpAt, epL1 := t.epL1,
      epCmdAt := t.epCmdAt, pair := t.pair, live := t.live, mgt := t.mgt } = t) ∧
    (∀ (path : Nat) (addr : Nat) (v : Word) (s : State), Completes (.registerWrite path addr v) s fun t => t.pending = s.pending ∧
      t.part = s.part ∧ t.evlog = s.evlog ∧ t.freeCount = s.freeCount ∧ t.subs = s.subs ∧ t.freed = s.freed ∧ t.idents = s.idents ∧
      t.freedNsids = s.freedNsids ∧ t.tenants = s.tenants ∧ t.msnap = s.msnap ∧ t.msaved = s.msaved ∧ t.tsaved = s.tsaved ∧ t.msaveAt =
      s.msaveAt ∧ t.subnqn = s.subnqn ∧ t.sbcShift = s.sbcShift ∧ t.nextCmd = s.nextCmd ∧ t.roleV = s.roleV ∧ t.grants = s.grants ∧
      t.taskGrants = s.taskGrants ∧ t.periodAt = s.periodAt ∧ t.rebAt = s.rebAt ∧ t.survey = s.survey ∧ t.objs = s.objs ∧ t.sweeps =
      s.sweeps ∧ t.badBlks = s.badBlks ∧ t.tcutSpent = s.tcutSpent ∧ t.rindex = s.rindex ∧ t.windows = s.windows ∧ t.nextOp = s.nextOp ∧
      t.nextVer = s.nextVer ∧ t.frames = s.frames ∧ t.serials = s.serials ∧ t.dimms = s.dimms ∧ t.frameFails = s.frameFails ∧ t.fenceEnd
      = s.fenceEnd ∧ t.trimGather = s.trimGather ∧ t.msnapBad = s.msnapBad ∧ t.imgDamaged = s.imgDamaged ∧ t.nssro = s.nssro ∧ t.stage =
      s.stage ∧ t.drvPowered = s.drvPowered ∧ t.macs = s.macs ∧ t.eports = s.eports ∧ t.prtStat = s.prtStat ∧ t.markers = s.markers ∧
      t.policed = s.policed ∧ t.swcNotices = s.swcNotices ∧ t.samples = s.samples ∧ t.arrivals = s.arrivals ∧ t.epLtrActive =
      s.epLtrActive ∧ t.flash = s.flash ∧ t.boot = s.boot ∧ t.mgt = s.mgt) ∧
    (∀ (bench : Nat) (s : State), Completes (.benchLockSet bench) s fun t => t.pending = s.pending ∧ t.part = s.part ∧ t.evlog =
      s.evlog ∧ t.freeCount = s.freeCount ∧ t.subs = s.subs ∧ t.freed = s.freed ∧ t.idents = s.idents ∧ t.freedNsids = s.freedNsids ∧
      t.tenants = s.tenants ∧ t.msnap = s.msnap ∧ t.msaved = s.msaved ∧ t.tsaved = s.tsaved ∧ t.msaveAt = s.msaveAt ∧ t.subnqn =
      s.subnqn ∧ t.sbcShift = s.sbcShift ∧ t.nextCmd = s.nextCmd ∧ t.roleV = s.roleV ∧ t.grants = s.grants ∧ t.taskGrants = s.taskGrants
      ∧ t.periodAt = s.periodAt ∧ t.rebAt = s.rebAt ∧ t.survey = s.survey ∧ t.objs = s.objs ∧ t.sweeps = s.sweeps ∧ t.badBlks =
      s.badBlks ∧ t.tcutSpent = s.tcutSpent ∧ t.rindex = s.rindex ∧ t.windows = s.windows ∧ t.nextOp = s.nextOp ∧ t.nextVer = s.nextVer
      ∧ t.frames = s.frames ∧ t.serials = s.serials ∧ t.dimms = s.dimms ∧ t.frameFails = s.frameFails ∧ t.fenceEnd = s.fenceEnd ∧
      t.trimGather = s.trimGather ∧ t.msnapBad = s.msnapBad ∧ t.imgDamaged = s.imgDamaged ∧ t.nssro = s.nssro ∧ t.stage = s.stage ∧
      t.drvPowered = s.drvPowered ∧ t.macs = s.macs ∧ t.eports = s.eports ∧ t.prtStat = s.prtStat ∧ t.markers = s.markers ∧ t.policed =
      s.policed ∧ t.swcNotices = s.swcNotices ∧ t.samples = s.samples ∧ t.arrivals = s.arrivals ∧ t.epLtrActive = s.epLtrActive ∧
      t.flash = s.flash ∧ t.boot = s.boot ∧ t.mgt = s.mgt) ∧
    (∀ (write : Bool) (addr : Nat) (words : List (Nat × Bool)) (s : State), Completes (.bar2Access write addr words) s fun t =>
      t.pending = s.pending ∧ t.part = s.part ∧ t.evlog = s.evlog ∧ t.subs = s.subs ∧ t.freed = s.freed ∧ t.idents = s.idents ∧
      t.freedNsids = s.freedNsids ∧ t.tenants = s.tenants ∧ t.msnap = s.msnap ∧ t.msaved = s.msaved ∧ t.tsaved = s.tsaved ∧ t.msaveAt =
      s.msaveAt ∧ t.subnqn = s.subnqn ∧ t.sbcShift = s.sbcShift ∧ t.nextCmd = s.nextCmd ∧ t.roleV = s.roleV ∧ t.grants = s.grants ∧
      t.taskGrants = s.taskGrants ∧ t.periodAt = s.periodAt ∧ t.rebAt = s.rebAt ∧ t.survey = s.survey ∧ t.objs = s.objs ∧ t.sweeps =
      s.sweeps ∧ t.badBlks = s.badBlks ∧ t.tcutSpent = s.tcutSpent ∧ t.rindex = s.rindex ∧ t.windows = s.windows ∧ t.nextOp = s.nextOp ∧
      t.nextVer = s.nextVer ∧ t.frames = s.frames ∧ t.serials = s.serials ∧ t.dimms = s.dimms ∧ t.frameFails = s.frameFails ∧ t.fenceEnd
      = s.fenceEnd ∧ t.trimGather = s.trimGather ∧ t.msnapBad = s.msnapBad ∧ t.imgDamaged = s.imgDamaged ∧ t.nssro = s.nssro ∧ t.stage =
      s.stage ∧ t.drvPowered = s.drvPowered ∧ t.eports = s.eports ∧ t.markers = s.markers ∧ t.policed = s.policed ∧ t.swcNotices =
      s.swcNotices ∧ t.samples = s.samples ∧ t.arrivals = s.arrivals ∧ t.epLtrActive = s.epLtrActive ∧ t.flash = s.flash ∧ t.boot =
      s.boot) ∧
    (∀ (kind : Nat) (s : State), Completes (.resetAssert kind) s fun t => t.fuses = s.fuses ∧ t.flash = s.flash ∧ t.pending =
      s.pending ∧ t.freeCount = s.freeCount ∧ t.survey = s.survey ∧ t.sweeps = s.sweeps ∧ t.fixblks = s.fixblks ∧ t.frames = s.frames ∧
      t.msaved = s.msaved ∧ t.tsaved = s.tsaved ∧ t.freedNsids = s.freedNsids) ∧
    (∀ (ins : JtagIns) (s : State), Completes (.jtagInstructionLoad ins) s fun t => t.fuses = s.fuses ∧ t.flash = s.flash ∧ t.pending
      = s.pending ∧ t.freeCount = s.freeCount ∧ t.survey = s.survey ∧ t.sweeps = s.sweeps ∧ t.fixblks = s.fixblks ∧ t.frames = s.frames
      ∧ t.msaved = s.msaved ∧ t.tsaved = s.tsaved ∧ t.freedNsids = s.freedNsids) ∧
    (∀ (s : State), Completes .thermtrip s fun t => t.fuses = s.fuses ∧ t.flash = s.flash ∧ t.pending = s.pending ∧ t.freeCount =
      s.freeCount ∧ t.survey = s.survey ∧ t.sweeps = s.sweeps ∧ t.fixblks = s.fixblks ∧ t.frames = s.frames ∧ t.msaved = s.msaved ∧
      t.tsaved = s.tsaved ∧ t.freedNsids = s.freedNsids) ∧
    (∀ (cause : Nat) (s : State), Completes (.tamperTrip cause) s fun t => t.fuses = s.fuses ∧ t.flash = s.flash ∧ t.pending =
      s.pending ∧ t.freeCount = s.freeCount ∧ t.survey = s.survey ∧ t.sweeps = s.sweeps ∧ t.fixblks = s.fixblks ∧ t.frames = s.frames ∧
      t.msaved = s.msaved ∧ t.tsaved = s.tsaved ∧ t.freedNsids = s.freedNsids)
end

