-- ==== Sys2Proof/Laws/State.lean ====
section
/-!
SUPPORT. Laws/State.lean: what the shared updates leave alone: one lemma for each field and update, true by rfl.
-/

namespace Sys2Proof.Machine

/-! ### setWord changes regs only -/

@[simp] theorem State.setWord_pending (s : State) (k : Nat) (v : Word) : (s.setWord k v).pending = s.pending := rfl
@[simp] theorem State.setWord_part (s : State) (k : Nat) (v : Word) : (s.setWord k v).part = s.part := rfl
@[simp] theorem State.setWord_bench (s : State) (k : Nat) (v : Word) : (s.setWord k v).bench = s.bench := rfl
@[simp] theorem State.setWord_lanes (s : State) (k : Nat) (v : Word) : (s.setWord k v).lanes = s.lanes := rfl
@[simp] theorem State.setWord_chans (s : State) (k : Nat) (v : Word) : (s.setWord k v).chans = s.chans := rfl
@[simp] theorem State.setWord_unacked (s : State) (k : Nat) (v : Word) : (s.setWord k v).unacked = s.unacked := rfl
@[simp] theorem State.setWord_rot (s : State) (k : Nat) (v : Word) : (s.setWord k v).rot = s.rot := rfl
@[simp] theorem State.setWord_faultDeclared (s : State) (k : Nat) (v : Word) : (s.setWord k v).faultDeclared = s.faultDeclared := rfl
@[simp] theorem State.setWord_tim (s : State) (k : Nat) (v : Word) : (s.setWord k v).tim = s.tim := rfl
@[simp] theorem State.setWord_evlog (s : State) (k : Nat) (v : Word) : (s.setWord k v).evlog = s.evlog := rfl
@[simp] theorem State.setWord_out (s : State) (k : Nat) (v : Word) : (s.setWord k v).out = s.out := rfl
@[simp] theorem State.setWord_freeCount (s : State) (k : Nat) (v : Word) : (s.setWord k v).freeCount = s.freeCount := rfl
@[simp] theorem State.setWord_subs (s : State) (k : Nat) (v : Word) : (s.setWord k v).subs = s.subs := rfl
@[simp] theorem State.setWord_conns (s : State) (k : Nat) (v : Word) : (s.setWord k v).conns = s.conns := rfl
@[simp] theorem State.setWord_freed (s : State) (k : Nat) (v : Word) : (s.setWord k v).freed = s.freed := rfl
@[simp] theorem State.setWord_idents (s : State) (k : Nat) (v : Word) : (s.setWord k v).idents = s.idents := rfl
@[simp] theorem State.setWord_nss (s : State) (k : Nat) (v : Word) : (s.setWord k v).nss = s.nss := rfl
@[simp] theorem State.setWord_freedNsids (s : State) (k : Nat) (v : Word) : (s.setWord k v).freedNsids = s.freedNsids := rfl
@[simp] theorem State.setWord_tenants (s : State) (k : Nat) (v : Word) : (s.setWord k v).tenants = s.tenants := rfl
@[simp] theorem State.setWord_msnap (s : State) (k : Nat) (v : Word) : (s.setWord k v).msnap = s.msnap := rfl
@[simp] theorem State.setWord_msaved (s : State) (k : Nat) (v : Word) : (s.setWord k v).msaved = s.msaved := rfl
@[simp] theorem State.setWord_tsaved (s : State) (k : Nat) (v : Word) : (s.setWord k v).tsaved = s.tsaved := rfl
@[simp] theorem State.setWord_msaveAt (s : State) (k : Nat) (v : Word) : (s.setWord k v).msaveAt = s.msaveAt := rfl
@[simp] theorem State.setWord_ctrls (s : State) (k : Nat) (v : Word) : (s.setWord k v).ctrls = s.ctrls := rfl
@[simp] theorem State.setWord_freedCtrls (s : State) (k : Nat) (v : Word) : (s.setWord k v).freedCtrls = s.freedCtrls := rfl
@[simp] theorem State.setWord_subnqn (s : State) (k : Nat) (v : Word) : (s.setWord k v).subnqn = s.subnqn := rfl
@[simp] theorem State.setWord_cmds (s : State) (k : Nat) (v : Word) : (s.setWord k v).cmds = s.cmds := rfl
@[simp] theorem State.setWord_stalled (s : State) (k : Nat) (v : Word) : (s.setWord k v).stalled = s.stalled := rfl
@[simp] theorem State.setWord_sbcWant (s : State) (k : Nat) (v : Word) : (s.setWord k v).sbcWant = s.sbcWant := rfl
@[simp] theorem State.setWord_sbcShift (s : State) (k : Nat) (v : Word) : (s.setWord k v).sbcShift = s.sbcShift := rfl
@[simp] theorem State.setWord_nextCmd (s : State) (k : Nat) (v : Word) : (s.setWord k v).nextCmd = s.nextCmd := rfl
@[simp] theorem State.setWord_roleV (s : State) (k : Nat) (v : Word) : (s.setWord k v).roleV = s.roleV := rfl
@[simp] theorem State.setWord_grants (s : State) (k : Nat) (v : Word) : (s.setWord k v).grants = s.grants := rfl
@[simp] theorem State.setWord_taskGrants (s : State) (k : Nat) (v : Word) : (s.setWord k v).taskGrants = s.taskGrants := rfl
@[simp] theorem State.setWord_periodAt (s : State) (k : Nat) (v : Word) : (s.setWord k v).periodAt = s.periodAt := rfl
@[simp] theorem State.setWord_rebAt (s : State) (k : Nat) (v : Word) : (s.setWord k v).rebAt = s.rebAt := rfl
@[simp] theorem State.setWord_groups (s : State) (k : Nat) (v : Word) : (s.setWord k v).groups = s.groups := rfl
@[simp] theorem State.setWord_stripes (s : State) (k : Nat) (v : Word) : (s.setWord k v).stripes = s.stripes := rfl
@[simp] theorem State.setWord_entryNotice (s : State) (k : Nat) (v : Word) : (s.setWord k v).entryNotice = s.entryNotice := rfl
@[simp] theorem State.setWord_survey (s : State) (k : Nat) (v : Word) : (s.setWord k v).survey = s.survey := rfl
@[simp] theorem State.setWord_pendings (s : State) (k : Nat) (v : Word) : (s.setWord k v).pendings = s.pendings := rfl
@[simp] theorem State.setWord_objs (s : State) (k : Nat) (v : Word) : (s.setWord k v).objs = s.objs := rfl
@[simp] theorem State.setWord_svy (s : State) (k : Nat) (v : Word) : (s.setWord k v).svy = s.svy := rfl
@[simp] theorem State.setWord_sweeps (s : State) (k : Nat) (v : Word) : (s.setWord k v).sweeps = s.sweeps := rfl
@[simp] theorem State.setWord_tally (s : State) (k : Nat) (v : Word) : (s.setWord k v).tally = s.tally := rfl
@[simp] theorem State.setWord_fixupds (s : State) (k : Nat) (v : Word) : (s.setWord k v).fixupds = s.fixupds := rfl
@[simp] theorem State.setWord_fixblks (s : State) (k : Nat) (v : Word) : (s.setWord k v).fixblks = s.fixblks := rfl
@[simp] theorem State.setWord_slots (s : State) (k : Nat) (v : Word) : (s.setWord k v).slots = s.slots := rfl
@[simp] theorem State.setWord_badBlks (s : State) (k : Nat) (v : Word) : (s.setWord k v).badBlks = s.badBlks := rfl
@[simp] theorem State.setWord_mcmds (s : State) (k : Nat) (v : Word) : (s.setWord k v).mcmds = s.mcmds := rfl
@[simp] theorem State.setWord_mwaits (s : State) (k : Nat) (v : Word) : (s.setWord k v).mwaits = s.mwaits := rfl
@[simp] theorem State.setWord_jobs (s : State) (k : Nat) (v : Word) : (s.setWord k v).jobs = s.jobs := rfl
@[simp] theorem State.setWord_nextJob (s : State) (k : Nat) (v : Word) : (s.setWord k v).nextJob = s.nextJob := rfl
@[simp] theorem State.setWord_tcutSpent (s : State) (k : Nat) (v : Word) : (s.setWord k v).tcutSpent = s.tcutSpent := rfl
@[simp] theorem State.setWord_rindex (s : State) (k : Nat) (v : Word) : (s.setWord k v).rindex = s.rindex := rfl
@[simp] theorem State.setWord_reshape (s : State) (k : Nat) (v : Word) : (s.setWord k v).reshape = s.reshape := rfl
@[simp] theorem State.setWord_windows (s : State) (k : Nat) (v : Word) : (s.setWord k v).windows = s.windows := rfl
@[simp] theorem State.setWord_winops (s : State) (k : Nat) (v : Word) : (s.setWord k v).winops = s.winops := rfl
@[simp] theorem State.setWord_nextOp (s : State) (k : Nat) (v : Word) : (s.setWord k v).nextOp = s.nextOp := rfl
@[simp] theorem State.setWord_nextVer (s : State) (k : Nat) (v : Word) : (s.setWord k v).nextVer = s.nextVer := rfl
@[simp] theorem State.setWord_pends (s : State) (k : Nat) (v : Word) : (s.setWord k v).pends = s.pends := rfl
@[simp] theorem State.setWord_lines (s : State) (k : Nat) (v : Word) : (s.setWord k v).lines = s.lines := rfl
@[simp] theorem State.setWord_sectors (s : State) (k : Nat) (v : Word) : (s.setWord k v).sectors = s.sectors := rfl
@[simp] theorem State.setWord_maint (s : State) (k : Nat) (v : Word) : (s.setWord k v).maint = s.maint := rfl
@[simp] theorem State.setWord_notices (s : State) (k : Nat) (v : Word) : (s.setWord k v).notices = s.notices := rfl
@[simp] theorem State.setWord_frames (s : State) (k : Nat) (v : Word) : (s.setWord k v).frames = s.frames := rfl
@[simp] theorem State.setWord_serials (s : State) (k : Nat) (v : Word) : (s.setWord k v).serials = s.serials := rfl
@[simp] theorem State.setWord_dimms (s : State) (k : Nat) (v : Word) : (s.setWord k v).dimms = s.dimms := rfl
@[simp] theorem State.setWord_frameFails (s : State) (k : Nat) (v : Word) : (s.setWord k v).frameFails = s.frameFails := rfl
@[simp] theorem State.setWord_mirrorOut (s : State) (k : Nat) (v : Word) : (s.setWord k v).mirrorOut = s.mirrorOut := rfl
@[simp] theorem State.setWord_mseq (s : State) (k : Nat) (v : Word) : (s.setWord k v).mseq = s.mseq := rfl
@[simp] theorem State.setWord_fenceEnd (s : State) (k : Nat) (v : Word) : (s.setWord k v).fenceEnd = s.fenceEnd := rfl
@[simp] theorem State.setWord_trimGather (s : State) (k : Nat) (v : Word) : (s.setWord k v).trimGather = s.trimGather := rfl
@[simp] theorem State.setWord_msnapBad (s : State) (k : Nat) (v : Word) : (s.setWord k v).msnapBad = s.msnapBad := rfl
@[simp] theorem State.setWord_imgDamaged (s : State) (k : Nat) (v : Word) : (s.setWord k v).imgDamaged = s.imgDamaged := rfl
@[simp] theorem State.setWord_keyTab (s : State) (k : Nat) (v : Word) : (s.setWord k v).keyTab = s.keyTab := rfl
@[simp] theorem State.setWord_cips (s : State) (k : Nat) (v : Word) : (s.setWord k v).cips = s.cips := rfl
@[simp] theorem State.setWord_adminWaits (s : State) (k : Nat) (v : Word) : (s.setWord k v).adminWaits = s.adminWaits := rfl
@[simp] theorem State.setWord_nssro (s : State) (k : Nat) (v : Word) : (s.setWord k v).nssro = s.nssro := rfl
@[simp] theorem State.setWord_ports (s : State) (k : Nat) (v : Word) : (s.setWord k v).ports = s.ports := rfl
@[simp] theorem State.setWord_stage (s : State) (k : Nat) (v : Word) : (s.setWord k v).stage = s.stage := rfl
@[simp] theorem State.setWord_drvPowered (s : State) (k : Nat) (v : Word) : (s.setWord k v).drvPowered = s.drvPowered := rfl
@[simp] theorem State.setWord_macs (s : State) (k : Nat) (v : Word) : (s.setWord k v).macs = s.macs := rfl
@[simp] theorem State.setWord_eports (s : State) (k : Nat) (v : Word) : (s.setWord k v).eports = s.eports := rfl
@[simp] theorem State.setWord_prtStat (s : State) (k : Nat) (v : Word) : (s.setWord k v).prtStat = s.prtStat := rfl
@[simp] theorem State.setWord_swq (s : State) (k : Nat) (v : Word) : (s.setWord k v).swq = s.swq := rfl
@[simp] theorem State.setWord_markers (s : State) (k : Nat) (v : Word) : (s.setWord k v).markers = s.markers := rfl
@[simp] theorem State.setWord_policed (s : State) (k : Nat) (v : Word) : (s.setWord k v).policed = s.policed := rfl
@[simp] theorem State.setWord_swcNotices (s : State) (k : Nat) (v : Word) : (s.setWord k v).swcNotices = s.swcNotices := rfl
@[simp] theorem State.setWord_samples (s : State) (k : Nat) (v : Word) : (s.setWord k v).samples = s.samples := rfl
@[simp] theorem State.setWord_arrivals (s : State) (k : Nat) (v : Word) : (s.setWord k v).arrivals = s.arrivals := rfl
@[simp] theorem State.setWord_epfs (s : State) (k : Nat) (v : Word) : (s.setWord k v).epfs = s.epfs := rfl
@[simp] theorem State.setWord_epReads (s : State) (k : Nat) (v : Word) : (s.setWord k v).epReads = s.epReads := rfl
@[simp] theorem State.setWord_epFetches (s : State) (k : Nat) (v : Word) : (s.setWord k v).epFetches = s.epFetches := rfl
@[simp] theorem State.setWord_epTlpAt (s : State) (k : Nat) (v : Word) : (s.setWord k v).epTlpAt = s.epTlpAt := rfl
@[simp] theorem State.setWord_epL1 (s : State) (k : Nat) (v : Word) : (s.setWord k v).epL1 = s.epL1 := rfl
@[simp] theorem State.setWord_epCmdAt (s : State) (k : Nat) (v : Word) : (s.setWord k v).epCmdAt = s.epCmdAt := rfl
@[simp] theorem State.setWord_epLtrActive (s : State) (k : Nat) (v : Word) : (s.setWord k v).epLtrActive = s.epLtrActive := rfl
@[simp] theorem State.setWord_epQuarNotice (s : State) (k : Nat) (v : Word) : (s.setWord k v).epQuarNotice = s.epQuarNotice := rfl
@[simp] theorem State.setWord_fuses (s : State) (k : Nat) (v : Word) : (s.setWord k v).fuses = s.fuses := rfl
@[simp] theorem State.setWord_flash (s : State) (k : Nat) (v : Word) : (s.setWord k v).flash = s.flash := rfl
@[simp] theorem State.setWord_boot (s : State) (k : Nat) (v : Word) : (s.setWord k v).boot = s.boot := rfl
@[simp] theorem State.setWord_tru (s : State) (k : Nat) (v : Word) : (s.setWord k v).tru = s.tru := rfl
@[simp] theorem State.setWord_chain (s : State) (k : Nat) (v : Word) : (s.setWord k v).chain = s.chain := rfl
@[simp] theorem State.setWord_pair (s : State) (k : Nat) (v : Word) : (s.setWord k v).pair = s.pair := rfl
@[simp] theorem State.setWord_live (s : State) (k : Nat) (v : Word) : (s.setWord k v).live = s.live := rfl
@[simp] theorem State.setWord_mgt (s : State) (k : Nat) (v : Word) : (s.setWord k v).mgt = s.mgt := rfl

/-! ### wr changes regs only -/

@[simp] theorem State.wr_pending (s : State) (f : Fld) (v : Nat) : (s.wr f v).pending = s.pending := rfl
@[simp] theorem State.wr_part (s : State) (f : Fld) (v : Nat) : (s.wr f v).part = s.part := rfl
@[simp] theorem State.wr_bench (s : State) (f : Fld) (v : Nat) : (s.wr f v).bench = s.bench := rfl
@[simp] theorem State.wr_lanes (s : State) (f : Fld) (v : Nat) : (s.wr f v).lanes = s.lanes := rfl
@[simp] theorem State.wr_chans (s : State) (f : Fld) (v : Nat) : (s.wr f v).chans = s.chans := rfl
@[simp] theorem State.wr_unacked (s : State) (f : Fld) (v : Nat) : (s.wr f v).unacked = s.unacked := rfl
@[simp] theorem State.wr_rot (s : State) (f : Fld) (v : Nat) : (s.wr f v).rot = s.rot := rfl
@[simp] theorem State.wr_faultDeclared (s : State) (f : Fld) (v : Nat) : (s.wr f v).faultDeclared = s.faultDeclared := rfl
@[simp] theorem State.wr_tim (s : State) (f : Fld) (v : Nat) : (s.wr f v).tim = s.tim := rfl
@[simp] theorem State.wr_evlog (s : State) (f : Fld) (v : Nat) : (s.wr f v).evlog = s.evlog := rfl
@[simp] theorem State.wr_out (s : State) (f : Fld) (v : Nat) : (s.wr f v).out = s.out := rfl
@[simp] theorem State.wr_freeCount (s : State) (f : Fld) (v : Nat) : (s.wr f v).freeCount = s.freeCount := rfl
@[simp] theorem State.wr_subs (s : State) (f : Fld) (v : Nat) : (s.wr f v).subs = s.subs := rfl
@[simp] theorem State.wr_conns (s : State) (f : Fld) (v : Nat) : (s.wr f v).conns = s.conns := rfl
@[simp] theorem State.wr_freed (s : State) (f : Fld) (v : Nat) : (s.wr f v).freed = s.freed := rfl
@[simp] theorem State.wr_idents (s : State) (f : Fld) (v : Nat) : (s.wr f v).idents = s.idents := rfl
@[simp] theorem State.wr_nss (s : State) (f : Fld) (v : Nat) : (s.wr f v).nss = s.nss := rfl
@[simp] theorem State.wr_freedNsids (s : State) (f : Fld) (v : Nat) : (s.wr f v).freedNsids = s.freedNsids := rfl
@[simp] theorem State.wr_tenants (s : State) (f : Fld) (v : Nat) : (s.wr f v).tenants = s.tenants := rfl
@[simp] theorem State.wr_msnap (s : State) (f : Fld) (v : Nat) : (s.wr f v).msnap = s.msnap := rfl
@[simp] theorem State.wr_msaved (s : State) (f : Fld) (v : Nat) : (s.wr f v).msaved = s.msaved := rfl
@[simp] theorem State.wr_tsaved (s : State) (f : Fld) (v : Nat) : (s.wr f v).tsaved = s.tsaved := rfl
@[simp] theorem State.wr_msaveAt (s : State) (f : Fld) (v : Nat) : (s.wr f v).msaveAt = s.msaveAt := rfl
@[simp] theorem State.wr_ctrls (s : State) (f : Fld) (v : Nat) : (s.wr f v).ctrls = s.ctrls := rfl
@[simp] theorem State.wr_freedCtrls (s : State) (f : Fld) (v : Nat) : (s.wr f v).freedCtrls = s.freedCtrls := rfl
@[simp] theorem State.wr_subnqn (s : State) (f : Fld) (v : Nat) : (s.wr f v).subnqn = s.subnqn := rfl
@[simp] theorem State.wr_cmds (s : State) (f : Fld) (v : Nat) : (s.wr f v).cmds = s.cmds := rfl
@[simp] theorem State.wr_stalled (s : State) (f : Fld) (v : Nat) : (s.wr f v).stalled = s.stalled := rfl
@[simp] theorem State.wr_sbcWant (s : State) (f : Fld) (v : Nat) : (s.wr f v).sbcWant = s.sbcWant := rfl
@[simp] theorem State.wr_sbcShift (s : State) (f : Fld) (v : Nat) : (s.wr f v).sbcShift = s.sbcShift := rfl
@[simp] theorem State.wr_nextCmd (s : State) (f : Fld) (v : Nat) : (s.wr f v).nextCmd = s.nextCmd := rfl
@[simp] theorem State.wr_roleV (s : State) (f : Fld) (v : Nat) : (s.wr f v).roleV = s.roleV := rfl
@[simp] theorem State.wr_grants (s : State) (f : Fld) (v : Nat) : (s.wr f v).grants = s.grants := rfl
@[simp] theorem State.wr_taskGrants (s : State) (f : Fld) (v : Nat) : (s.wr f v).taskGrants = s.taskGrants := rfl
@[simp] theorem State.wr_periodAt (s : State) (f : Fld) (v : Nat) : (s.wr f v).periodAt = s.periodAt := rfl
@[simp] theorem State.wr_rebAt (s : State) (f : Fld) (v : Nat) : (s.wr f v).rebAt = s.rebAt := rfl
@[simp] theorem State.wr_groups (s : State) (f : Fld) (v : Nat) : (s.wr f v).groups = s.groups := rfl
@[simp] theorem State.wr_stripes (s : State) (f : Fld) (v : Nat) : (s.wr f v).stripes = s.stripes := rfl
@[simp] theorem State.wr_entryNotice (s : State) (f : Fld) (v : Nat) : (s.wr f v).entryNotice = s.entryNotice := rfl
@[simp] theorem State.wr_survey (s : State) (f : Fld) (v : Nat) : (s.wr f v).survey = s.survey := rfl
@[simp] theorem State.wr_pendings (s : State) (f : Fld) (v : Nat) : (s.wr f v).pendings = s.pendings := rfl
@[simp] theorem State.wr_objs (s : State) (f : Fld) (v : Nat) : (s.wr f v).objs = s.objs := rfl
@[simp] theorem State.wr_svy (s : State) (f : Fld) (v : Nat) : (s.wr f v).svy = s.svy := rfl
@[simp] theorem State.wr_sweeps (s : State) (f : Fld) (v : Nat) : (s.wr f v).sweeps = s.sweeps := rfl
@[simp] theorem State.wr_tally (s : State) (f : Fld) (v : Nat) : (s.wr f v).tally = s.tally := rfl
@[simp] theorem State.wr_fixupds (s : State) (f : Fld) (v : Nat) : (s.wr f v).fixupds = s.fixupds := rfl
@[simp] theorem State.wr_fixblks (s : State) (f : Fld) (v : Nat) : (s.wr f v).fixblks = s.fixblks := rfl
@[simp] theorem State.wr_slots (s : State) (f : Fld) (v : Nat) : (s.wr f v).slots = s.slots := rfl
@[simp] theorem State.wr_badBlks (s : State) (f : Fld) (v : Nat) : (s.wr f v).badBlks = s.badBlks := rfl
@[simp] theorem State.wr_mcmds (s : State) (f : Fld) (v : Nat) : (s.wr f v).mcmds = s.mcmds := rfl
@[simp] theorem State.wr_mwaits (s : State) (f : Fld) (v : Nat) : (s.wr f v).mwaits = s.mwaits := rfl
@[simp] theorem State.wr_jobs (s : State) (f : Fld) (v : Nat) : (s.wr f v).jobs = s.jobs := rfl
@[simp] theorem State.wr_nextJob (s : State) (f : Fld) (v : Nat) : (s.wr f v).nextJob = s.nextJob := rfl
@[simp] theorem State.wr_tcutSpent (s : State) (f : Fld) (v : Nat) : (s.wr f v).tcutSpent = s.tcutSpent := rfl
@[simp] theorem State.wr_rindex (s : State) (f : Fld) (v : Nat) : (s.wr f v).rindex = s.rindex := rfl
@[simp] theorem State.wr_reshape (s : State) (f : Fld) (v : Nat) : (s.wr f v).reshape = s.reshape := rfl
@[simp] theorem State.wr_windows (s : State) (f : Fld) (v : Nat) : (s.wr f v).windows = s.windows := rfl
@[simp] theorem State.wr_winops (s : State) (f : Fld) (v : Nat) : (s.wr f v).winops = s.winops := rfl
@[simp] theorem State.wr_nextOp (s : State) (f : Fld) (v : Nat) : (s.wr f v).nextOp = s.nextOp := rfl
@[simp] theorem State.wr_nextVer (s : State) (f : Fld) (v : Nat) : (s.wr f v).nextVer = s.nextVer := rfl
@[simp] theorem State.wr_pends (s : State) (f : Fld) (v : Nat) : (s.wr f v).pends = s.pends := rfl
@[simp] theorem State.wr_lines (s : State) (f : Fld) (v : Nat) : (s.wr f v).lines = s.lines := rfl
@[simp] theorem State.wr_sectors (s : State) (f : Fld) (v : Nat) : (s.wr f v).sectors = s.sectors := rfl
@[simp] theorem State.wr_maint (s : State) (f : Fld) (v : Nat) : (s.wr f v).maint = s.maint := rfl
@[simp] theorem State.wr_notices (s : State) (f : Fld) (v : Nat) : (s.wr f v).notices = s.notices := rfl
@[simp] theorem State.wr_frames (s : State) (f : Fld) (v : Nat) : (s.wr f v).frames = s.frames := rfl
@[simp] theorem State.wr_serials (s : State) (f : Fld) (v : Nat) : (s.wr f v).serials = s.serials := rfl
@[simp] theorem State.wr_dimms (s : State) (f : Fld) (v : Nat) : (s.wr f v).dimms = s.dimms := rfl
@[simp] theorem State.wr_frameFails (s : State) (f : Fld) (v : Nat) : (s.wr f v).frameFails = s.frameFails := rfl
@[simp] theorem State.wr_mirrorOut (s : State) (f : Fld) (v : Nat) : (s.wr f v).mirrorOut = s.mirrorOut := rfl
@[simp] theorem State.wr_mseq (s : State) (f : Fld) (v : Nat) : (s.wr f v).mseq = s.mseq := rfl
@[simp] theorem State.wr_fenceEnd (s : State) (f : Fld) (v : Nat) : (s.wr f v).fenceEnd = s.fenceEnd := rfl
@[simp] theorem State.wr_trimGather (s : State) (f : Fld) (v : Nat) : (s.wr f v).trimGather = s.trimGather := rfl
@[simp] theorem State.wr_msnapBad (s : State) (f : Fld) (v : Nat) : (s.wr f v).msnapBad = s.msnapBad := rfl
@[simp] theorem State.wr_imgDamaged (s : State) (f : Fld) (v : Nat) : (s.wr f v).imgDamaged = s.imgDamaged := rfl
@[simp] theorem State.wr_keyTab (s : State) (f : Fld) (v : Nat) : (s.wr f v).keyTab = s.keyTab := rfl
@[simp] theorem State.wr_cips (s : State) (f : Fld) (v : Nat) : (s.wr f v).cips = s.cips := rfl
@[simp] theorem State.wr_adminWaits (s : State) (f : Fld) (v : Nat) : (s.wr f v).adminWaits = s.adminWaits := rfl
@[simp] theorem State.wr_nssro (s : State) (f : Fld) (v : Nat) : (s.wr f v).nssro = s.nssro := rfl
@[simp] theorem State.wr_ports (s : State) (f : Fld) (v : Nat) : (s.wr f v).ports = s.ports := rfl
@[simp] theorem State.wr_stage (s : State) (f : Fld) (v : Nat) : (s.wr f v).stage = s.stage := rfl
@[simp] theorem State.wr_drvPowered (s : State) (f : Fld) (v : Nat) : (s.wr f v).drvPowered = s.drvPowered := rfl
@[simp] theorem State.wr_macs (s : State) (f : Fld) (v : Nat) : (s.wr f v).macs = s.macs := rfl
@[simp] theorem State.wr_eports (s : State) (f : Fld) (v : Nat) : (s.wr f v).eports = s.eports := rfl
@[simp] theorem State.wr_prtStat (s : State) (f : Fld) (v : Nat) : (s.wr f v).prtStat = s.prtStat := rfl
@[simp] theorem State.wr_swq (s : State) (f : Fld) (v : Nat) : (s.wr f v).swq = s.swq := rfl
@[simp] theorem State.wr_markers (s : State) (f : Fld) (v : Nat) : (s.wr f v).markers = s.markers := rfl
@[simp] theorem State.wr_policed (s : State) (f : Fld) (v : Nat) : (s.wr f v).policed = s.policed := rfl
@[simp] theorem State.wr_swcNotices (s : State) (f : Fld) (v : Nat) : (s.wr f v).swcNotices = s.swcNotices := rfl
@[simp] theorem State.wr_samples (s : State) (f : Fld) (v : Nat) : (s.wr f v).samples = s.samples := rfl
@[simp] theorem State.wr_arrivals (s : State) (f : Fld) (v : Nat) : (s.wr f v).arrivals = s.arrivals := rfl
@[simp] theorem State.wr_epfs (s : State) (f : Fld) (v : Nat) : (s.wr f v).epfs = s.epfs := rfl
@[simp] theorem State.wr_epReads (s : State) (f : Fld) (v : Nat) : (s.wr f v).epReads = s.epReads := rfl
@[simp] theorem State.wr_epFetches (s : State) (f : Fld) (v : Nat) : (s.wr f v).epFetches = s.epFetches := rfl
@[simp] theorem State.wr_epTlpAt (s : State) (f : Fld) (v : Nat) : (s.wr f v).epTlpAt = s.epTlpAt := rfl
@[simp] theorem State.wr_epL1 (s : State) (f : Fld) (v : Nat) : (s.wr f v).epL1 = s.epL1 := rfl
@[simp] theorem State.wr_epCmdAt (s : State) (f : Fld) (v : Nat) : (s.wr f v).epCmdAt = s.epCmdAt := rfl
@[simp] theorem State.wr_epLtrActive (s : State) (f : Fld) (v : Nat) : (s.wr f v).epLtrActive = s.epLtrActive := rfl
@[simp] theorem State.wr_epQuarNotice (s : State) (f : Fld) (v : Nat) : (s.wr f v).epQuarNotice = s.epQuarNotice := rfl
@[simp] theorem State.wr_fuses (s : State) (f : Fld) (v : Nat) : (s.wr f v).fuses = s.fuses := rfl
@[simp] theorem State.wr_flash (s : State) (f : Fld) (v : Nat) : (s.wr f v).flash = s.flash := rfl
@[simp] theorem State.wr_boot (s : State) (f : Fld) (v : Nat) : (s.wr f v).boot = s.boot := rfl
@[simp] theorem State.wr_tru (s : State) (f : Fld) (v : Nat) : (s.wr f v).tru = s.tru := rfl
@[simp] theorem State.wr_chain (s : State) (f : Fld) (v : Nat) : (s.wr f v).chain = s.chain := rfl
@[simp] theorem State.wr_pair (s : State) (f : Fld) (v : Nat) : (s.wr f v).pair = s.pair := rfl
@[simp] theorem State.wr_live (s : State) (f : Fld) (v : Nat) : (s.wr f v).live = s.live := rfl
@[simp] theorem State.wr_mgt (s : State) (f : Fld) (v : Nat) : (s.wr f v).mgt = s.mgt := rfl

/-! ### send changes out only -/

@[simp] theorem State.send_pending (s : State) (o : Out) : (s.send o).pending = s.pending := rfl
@[simp] theorem State.send_part (s : State) (o : Out) : (s.send o).part = s.part := rfl
@[simp] theorem State.send_regs (s : State) (o : Out) : (s.send o).regs = s.regs := rfl
@[simp] theorem State.send_bench (s : State) (o : Out) : (s.send o).bench = s.bench := rfl
@[simp] theorem State.send_lanes (s : State) (o : Out) : (s.send o).lanes = s.lanes := rfl
@[simp] theorem State.send_chans (s : State) (o : Out) : (s.send o).chans = s.chans := rfl
@[simp] theorem State.send_unacked (s : State) (o : Out) : (s.send o).unacked = s.unacked := rfl
@[simp] theorem State.send_rot (s : State) (o : Out) : (s.send o).rot = s.rot := rfl
@[simp] theorem State.send_faultDeclared (s : State) (o : Out) : (s.send o).faultDeclared = s.faultDeclared := rfl
@[simp] theorem State.send_tim (s : State) (o : Out) : (s.send o).tim = s.tim := rfl
@[simp] theorem State.send_evlog (s : State) (o : Out) : (s.send o).evlog = s.evlog := rfl
@[simp] theorem State.send_freeCount (s : State) (o : Out) : (s.send o).freeCount = s.freeCount := rfl
@[simp] theorem State.send_subs (s : State) (o : Out) : (s.send o).subs = s.subs := rfl
@[simp] theorem State.send_conns (s : State) (o : Out) : (s.send o).conns = s.conns := rfl
@[simp] theorem State.send_freed (s : State) (o : Out) : (s.send o).freed = s.freed := rfl
@[simp] theorem State.send_idents (s : State) (o : Out) : (s.send o).idents = s.idents := rfl
@[simp] theorem State.send_nss (s : State) (o : Out) : (s.send o).nss = s.nss := rfl
@[simp] theorem State.send_freedNsids (s : State) (o : Out) : (s.send o).freedNsids = s.freedNsids := rfl
@[simp] theorem State.send_tenants (s : State) (o : Out) : (s.send o).tenants = s.tenants := rfl
@[simp] theorem State.send_msnap (s : State) (o : Out) : (s.send o).msnap = s.msnap := rfl
@[simp] theorem State.send_msaved (s : State) (o : Out) : (s.send o).msaved = s.msaved := rfl
@[simp] theorem State.send_tsaved (s : State) (o : Out) : (s.send o).tsaved = s.tsaved := rfl
@[simp] theorem State.send_msaveAt (s : State) (o : Out) : (s.send o).msaveAt = s.msaveAt := rfl
@[simp] theorem State.send_ctrls (s : State) (o : Out) : (s.send o).ctrls = s.ctrls := rfl
@[simp] theorem State.send_freedCtrls (s : State) (o : Out) : (s.send o).freedCtrls = s.freedCtrls := rfl
@[simp] theorem State.send_subnqn (s : State) (o : Out) : (s.send o).subnqn = s.subnqn := rfl
@[simp] theorem State.send_cmds (s : State) (o : Out) : (s.send o).cmds = s.cmds := rfl
@[simp] theorem State.send_stalled (s : State) (o : Out) : (s.send o).stalled = s.stalled := rfl
@[simp] theorem State.send_sbcWant (s : State) (o : Out) : (s.send o).sbcWant = s.sbcWant := rfl
@[simp] theorem State.send_sbcShift (s : State) (o : Out) : (s.send o).sbcShift = s.sbcShift := rfl
@[simp] theorem State.send_nextCmd (s : State) (o : Out) : (s.send o).nextCmd = s.nextCmd := rfl
@[simp] theorem State.send_roleV (s : State) (o : Out) : (s.send o).roleV = s.roleV := rfl
@[simp] theorem State.send_grants (s : State) (o : Out) : (s.send o).grants = s.grants := rfl
@[simp] theorem State.send_taskGrants (s : State) (o : Out) : (s.send o).taskGrants = s.taskGrants := rfl
@[simp] theorem State.send_periodAt (s : State) (o : Out) : (s.send o).periodAt = s.periodAt := rfl
@[simp] theorem State.send_rebAt (s : State) (o : Out) : (s.send o).rebAt = s.rebAt := rfl
@[simp] theorem State.send_groups (s : State) (o : Out) : (s.send o).groups = s.groups := rfl
@[simp] theorem State.send_stripes (s : State) (o : Out) : (s.send o).stripes = s.stripes := rfl
@[simp] theorem State.send_entryNotice (s : State) (o : Out) : (s.send o).entryNotice = s.entryNotice := rfl
@[simp] theorem State.send_survey (s : State) (o : Out) : (s.send o).survey = s.survey := rfl
@[simp] theorem State.send_pendings (s : State) (o : Out) : (s.send o).pendings = s.pendings := rfl
@[simp] theorem State.send_objs (s : State) (o : Out) : (s.send o).objs = s.objs := rfl
@[simp] theorem State.send_svy (s : State) (o : Out) : (s.send o).svy = s.svy := rfl
@[simp] theorem State.send_sweeps (s : State) (o : Out) : (s.send o).sweeps = s.sweeps := rfl
@[simp] theorem State.send_tally (s : State) (o : Out) : (s.send o).tally = s.tally := rfl
@[simp] theorem State.send_fixupds (s : State) (o : Out) : (s.send o).fixupds = s.fixupds := rfl
@[simp] theorem State.send_fixblks (s : State) (o : Out) : (s.send o).fixblks = s.fixblks := rfl
@[simp] theorem State.send_slots (s : State) (o : Out) : (s.send o).slots = s.slots := rfl
@[simp] theorem State.send_badBlks (s : State) (o : Out) : (s.send o).badBlks = s.badBlks := rfl
@[simp] theorem State.send_mcmds (s : State) (o : Out) : (s.send o).mcmds = s.mcmds := rfl
@[simp] theorem State.send_mwaits (s : State) (o : Out) : (s.send o).mwaits = s.mwaits := rfl
@[simp] theorem State.send_jobs (s : State) (o : Out) : (s.send o).jobs = s.jobs := rfl
@[simp] theorem State.send_nextJob (s : State) (o : Out) : (s.send o).nextJob = s.nextJob := rfl
@[simp] theorem State.send_tcutSpent (s : State) (o : Out) : (s.send o).tcutSpent = s.tcutSpent := rfl
@[simp] theorem State.send_rindex (s : State) (o : Out) : (s.send o).rindex = s.rindex := rfl
@[simp] theorem State.send_reshape (s : State) (o : Out) : (s.send o).reshape = s.reshape := rfl
@[simp] theorem State.send_windows (s : State) (o : Out) : (s.send o).windows = s.windows := rfl
@[simp] theorem State.send_winops (s : State) (o : Out) : (s.send o).winops = s.winops := rfl
@[simp] theorem State.send_nextOp (s : State) (o : Out) : (s.send o).nextOp = s.nextOp := rfl
@[simp] theorem State.send_nextVer (s : State) (o : Out) : (s.send o).nextVer = s.nextVer := rfl
@[simp] theorem State.send_pends (s : State) (o : Out) : (s.send o).pends = s.pends := rfl
@[simp] theorem State.send_lines (s : State) (o : Out) : (s.send o).lines = s.lines := rfl
@[simp] theorem State.send_sectors (s : State) (o : Out) : (s.send o).sectors = s.sectors := rfl
@[simp] theorem State.send_maint (s : State) (o : Out) : (s.send o).maint = s.maint := rfl
@[simp] theorem State.send_notices (s : State) (o : Out) : (s.send o).notices = s.notices := rfl
@[simp] theorem State.send_frames (s : State) (o : Out) : (s.send o).frames = s.frames := rfl
@[simp] theorem State.send_serials (s : State) (o : Out) : (s.send o).serials = s.serials := rfl
@[simp] theorem State.send_dimms (s : State) (o : Out) : (s.send o).dimms = s.dimms := rfl
@[simp] theorem State.send_frameFails (s : State) (o : Out) : (s.send o).frameFails = s.frameFails := rfl
@[simp] theorem State.send_mirrorOut (s : State) (o : Out) : (s.send o).mirrorOut = s.mirrorOut := rfl
@[simp] theorem State.send_mseq (s : State) (o : Out) : (s.send o).mseq = s.mseq := rfl
@[simp] theorem State.send_fenceEnd (s : State) (o : Out) : (s.send o).fenceEnd = s.fenceEnd := rfl
@[simp] theorem State.send_trimGather (s : State) (o : Out) : (s.send o).trimGather = s.trimGather := rfl
@[simp] theorem State.send_msnapBad (s : State) (o : Out) : (s.send o).msnapBad = s.msnapBad := rfl
@[simp] theorem State.send_imgDamaged (s : State) (o : Out) : (s.send o).imgDamaged = s.imgDamaged := rfl
@[simp] theorem State.send_keyTab (s : State) (o : Out) : (s.send o).keyTab = s.keyTab := rfl
@[simp] theorem State.send_cips (s : State) (o : Out) : (s.send o).cips = s.cips := rfl
@[simp] theorem State.send_adminWaits (s : State) (o : Out) : (s.send o).adminWaits = s.adminWaits := rfl
@[simp] theorem State.send_nssro (s : State) (o : Out) : (s.send o).nssro = s.nssro := rfl
@[simp] theorem State.send_ports (s : State) (o : Out) : (s.send o).ports = s.ports := rfl
@[simp] theorem State.send_stage (s : State) (o : Out) : (s.send o).stage = s.stage := rfl
@[simp] theorem State.send_drvPowered (s : State) (o : Out) : (s.send o).drvPowered = s.drvPowered := rfl
@[simp] theorem State.send_macs (s : State) (o : Out) : (s.send o).macs = s.macs := rfl
@[simp] theorem State.send_eports (s : State) (o : Out) : (s.send o).eports = s.eports := rfl
@[simp] theorem State.send_prtStat (s : State) (o : Out) : (s.send o).prtStat = s.prtStat := rfl
@[simp] theorem State.send_swq (s : State) (o : Out) : (s.send o).swq = s.swq := rfl
@[simp] theorem State.send_markers (s : State) (o : Out) : (s.send o).markers = s.markers := rfl
@[simp] theorem State.send_policed (s : State) (o : Out) : (s.send o).policed = s.policed := rfl
@[simp] theorem State.send_swcNotices (s : State) (o : Out) : (s.send o).swcNotices = s.swcNotices := rfl
@[simp] theorem State.send_samples (s : State) (o : Out) : (s.send o).samples = s.samples := rfl
@[simp] theorem State.send_arrivals (s : State) (o : Out) : (s.send o).arrivals = s.arrivals := rfl
@[simp] theorem State.send_epfs (s : State) (o : Out) : (s.send o).epfs = s.epfs := rfl
@[simp] theorem State.send_epReads (s : State) (o : Out) : (s.send o).epReads = s.epReads := rfl
@[simp] theorem State.send_epFetches (s : State) (o : Out) : (s.send o).epFetches = s.epFetches := rfl
@[simp] theorem State.send_epTlpAt (s : State) (o : Out) : (s.send o).epTlpAt = s.epTlpAt := rfl
@[simp] theorem State.send_epL1 (s : State) (o : Out) : (s.send o).epL1 = s.epL1 := rfl
@[simp] theorem State.send_epCmdAt (s : State) (o : Out) : (s.send o).epCmdAt = s.epCmdAt := rfl
@[simp] theorem State.send_epLtrActive (s : State) (o : Out) : (s.send o).epLtrActive = s.epLtrActive := rfl
@[simp] theorem State.send_epQuarNotice (s : State) (o : Out) : (s.send o).epQuarNotice = s.epQuarNotice := rfl
@[simp] theorem State.send_fuses (s : State) (o : Out) : (s.send o).fuses = s.fuses := rfl
@[simp] theorem State.send_flash (s : State) (o : Out) : (s.send o).flash = s.flash := rfl
@[simp] theorem State.send_boot (s : State) (o : Out) : (s.send o).boot = s.boot := rfl
@[simp] theorem State.send_tru (s : State) (o : Out) : (s.send o).tru = s.tru := rfl
@[simp] theorem State.send_chain (s : State) (o : Out) : (s.send o).chain = s.chain := rfl
@[simp] theorem State.send_pair (s : State) (o : Out) : (s.send o).pair = s.pair := rfl
@[simp] theorem State.send_live (s : State) (o : Out) : (s.send o).live = s.live := rfl
@[simp] theorem State.send_mgt (s : State) (o : Out) : (s.send o).mgt = s.mgt := rfl

/-! ### updBench changes bench only -/

@[simp] theorem State.updBench_pending (s : State) (b : Nat) (f : Bench → Bench) : (s.updBench b f).pending = s.pending := rfl
@[simp] theorem State.updBench_part (s : State) (b : Nat) (f : Bench → Bench) : (s.updBench b f).part = s.part := rfl
@[simp] theorem State.updBench_regs (s : State) (b : Nat) (f : Bench → Bench) : (s.updBench b f).regs = s.regs := rfl
@[simp] theorem State.updBench_lanes (s : State) (b : Nat) (f : Bench → Bench) : (s.updBench b f).lanes = s.lanes := rfl
@[simp] theorem State.updBench_chans (s : State) (b : Nat) (f : Bench → Bench) : (s.updBench b f).chans = s.chans := rfl
@[simp] theorem State.updBench_unacked (s : State) (b : Nat) (f : Bench → Bench) : (s.updBench b f).unacked = s.unacked := rfl
@[simp] theorem State.updBench_rot (s : State) (b : Nat) (f : Bench → Bench) : (s.updBench b f).rot = s.rot := rfl
@[simp] theorem State.updBench_faultDeclared (s : State) (b : Nat) (f : Bench → Bench) : (s.updBench b f).faultDeclared = s.faultDeclared := rfl
@[simp] theorem State.updBench_tim (s : State) (b : Nat) (f : Bench → Bench) : (s.updBench b f).tim = s.tim := rfl
@[simp] theorem State.updBench_evlog (s : State) (b : Nat) (f : Bench → Bench) : (s.updBench b f).evlog = s.evlog := rfl
@[simp] theorem State.updBench_out (s : State) (b : Nat) (f : Bench → Bench) : (s.updBench b f).out = s.out := rfl
@[simp] theorem State.updBench_freeCount (s : State) (b : Nat) (f : Bench → Bench) : (s.updBench b f).freeCount = s.freeCount := rfl
@[simp] theorem State.updBench_subs (s : State) (b : Nat) (f : Bench → Bench) : (s.updBench b f).subs = s.subs := rfl
@[simp] theorem State.updBench_conns (s : State) (b : Nat) (f : Bench → Bench) : (s.updBench b f).conns = s.conns := rfl
@[simp] theorem State.updBench_freed (s : State) (b : Nat) (f : Bench → Bench) : (s.updBench b f).freed = s.freed := rfl
@[simp] theorem State.updBench_idents (s : State) (b : Nat) (f : Bench → Bench) : (s.updBench b f).idents = s.idents := rfl
@[simp] theorem State.updBench_nss (s : State) (b : Nat) (f : Bench → Bench) : (s.updBench b f).nss = s.nss := rfl
@[simp] theorem State.updBench_freedNsids (s : State) (b : Nat) (f : Bench → Bench) : (s.updBench b f).freedNsids = s.freedNsids := rfl
@[simp] theorem State.updBench_tenants (s : State) (b : Nat) (f : Bench → Bench) : (s.updBench b f).tenants = s.tenants := rfl
@[simp] theorem State.updBench_msnap (s : State) (b : Nat) (f : Bench → Bench) : (s.updBench b f).msnap = s.msnap := rfl
@[simp] theorem State.updBench_msaved (s : State) (b : Nat) (f : Bench → Bench) : (s.updBench b f).msaved = s.msaved := rfl
@[simp] theorem State.updBench_tsaved (s : State) (b : Nat) (f : Bench → Bench) : (s.updBench b f).tsaved = s.tsaved := rfl
@[simp] theorem State.updBench_msaveAt (s : State) (b : Nat) (f : Bench → Bench) : (s.updBench b f).msaveAt = s.msaveAt := rfl
@[simp] theorem State.updBench_ctrls (s : State) (b : Nat) (f : Bench → Bench) : (s.updBench b f).ctrls = s.ctrls := rfl
@[simp] theorem State.updBench_freedCtrls (s : State) (b : Nat) (f : Bench → Bench) : (s.updBench b f).freedCtrls = s.freedCtrls := rfl
@[simp] theorem State.updBench_subnqn (s : State) (b : Nat) (f : Bench → Bench) : (s.updBench b f).subnqn = s.subnqn := rfl
@[simp] theorem State.updBench_cmds (s : State) (b : Nat) (f : Bench → Bench) : (s.updBench b f).cmds = s.cmds := rfl
@[simp] theorem State.updBench_stalled (s : State) (b : Nat) (f : Bench → Bench) : (s.updBench b f).stalled = s.stalled := rfl
@[simp] theorem State.updBench_sbcWant (s : State) (b : Nat) (f : Bench → Bench) : (s.updBench b f).sbcWant = s.sbcWant := rfl
@[simp] theorem State.updBench_sbcShift (s : State) (b : Nat) (f : Bench → Bench) : (s.updBench b f).sbcShift = s.sbcShift := rfl
@[simp] theorem State.updBench_nextCmd (s : State) (b : Nat) (f : Bench → Bench) : (s.updBench b f).nextCmd = s.nextCmd := rfl
@[simp] theorem State.updBench_roleV (s : State) (b : Nat) (f : Bench → Bench) : (s.updBench b f).roleV = s.roleV := rfl
@[simp] theorem State.updBench_grants (s : State) (b : Nat) (f : Bench → Bench) : (s.updBench b f).grants = s.grants := rfl
@[simp] theorem State.updBench_taskGrants (s : State) (b : Nat) (f : Bench → Bench) : (s.updBench b f).taskGrants = s.taskGrants := rfl
@[simp] theorem State.updBench_periodAt (s : State) (b : Nat) (f : Bench → Bench) : (s.updBench b f).periodAt = s.periodAt := rfl
@[simp] theorem State.updBench_rebAt (s : State) (b : Nat) (f : Bench → Bench) : (s.updBench b f).rebAt = s.rebAt := rfl
@[simp] theorem State.updBench_groups (s : State) (b : Nat) (f : Bench → Bench) : (s.updBench b f).groups = s.groups := rfl
@[simp] theorem State.updBench_stripes (s : State) (b : Nat) (f : Bench → Bench) : (s.updBench b f).stripes = s.stripes := rfl
@[simp] theorem State.updBench_entryNotice (s : State) (b : Nat) (f : Bench → Bench) : (s.updBench b f).entryNotice = s.entryNotice := rfl
@[simp] theorem State.updBench_survey (s : State) (b : Nat) (f : Bench → Bench) : (s.updBench b f).survey = s.survey := rfl
@[simp] theorem State.updBench_pendings (s : State) (b : Nat) (f : Bench → Bench) : (s.updBench b f).pendings = s.pendings := rfl
@[simp] theorem State.updBench_objs (s : State) (b : Nat) (f : Bench → Bench) : (s.updBench b f).objs = s.objs := rfl
@[simp] theorem State.updBench_svy (s : State) (b : Nat) (f : Bench → Bench) : (s.updBench b f).svy = s.svy := rfl
@[simp] theorem State.updBench_sweeps (s : State) (b : Nat) (f : Bench → Bench) : (s.updBench b f).sweeps = s.sweeps := rfl
@[simp] theorem State.updBench_tally (s : State) (b : Nat) (f : Bench → Bench) : (s.updBench b f).tally = s.tally := rfl
@[simp] theorem State.updBench_fixupds (s : State) (b : Nat) (f : Bench → Bench) : (s.updBench b f).fixupds = s.fixupds := rfl
@[simp] theorem State.updBench_fixblks (s : State) (b : Nat) (f : Bench → Bench) : (s.updBench b f).fixblks = s.fixblks := rfl
@[simp] theorem State.updBench_slots (s : State) (b : Nat) (f : Bench → Bench) : (s.updBench b f).slots = s.slots := rfl
@[simp] theorem State.updBench_badBlks (s : State) (b : Nat) (f : Bench → Bench) : (s.updBench b f).badBlks = s.badBlks := rfl
@[simp] theorem State.updBench_mcmds (s : State) (b : Nat) (f : Bench → Bench) : (s.updBench b f).mcmds = s.mcmds := rfl
@[simp] theorem State.updBench_mwaits (s : State) (b : Nat) (f : Bench → Bench) : (s.updBench b f).mwaits = s.mwaits := rfl
@[simp] theorem State.updBench_jobs (s : State) (b : Nat) (f : Bench → Bench) : (s.updBench b f).jobs = s.jobs := rfl
@[simp] theorem State.updBench_nextJob (s : State) (b : Nat) (f : Bench → Bench) : (s.updBench b f).nextJob = s.nextJob := rfl
@[simp] theorem State.updBench_tcutSpent (s : State) (b : Nat) (f : Bench → Bench) : (s.updBench b f).tcutSpent = s.tcutSpent := rfl
@[simp] theorem State.updBench_rindex (s : State) (b : Nat) (f : Bench → Bench) : (s.updBench b f).rindex = s.rindex := rfl
@[simp] theorem State.updBench_reshape (s : State) (b : Nat) (f : Bench → Bench) : (s.updBench b f).reshape = s.reshape := rfl
@[simp] theorem State.updBench_windows (s : State) (b : Nat) (f : Bench → Bench) : (s.updBench b f).windows = s.windows := rfl
@[simp] theorem State.updBench_winops (s : State) (b : Nat) (f : Bench → Bench) : (s.updBench b f).winops = s.winops := rfl
@[simp] theorem State.updBench_nextOp (s : State) (b : Nat) (f : Bench → Bench) : (s.updBench b f).nextOp = s.nextOp := rfl
@[simp] theorem State.updBench_nextVer (s : State) (b : Nat) (f : Bench → Bench) : (s.updBench b f).nextVer = s.nextVer := rfl
@[simp] theorem State.updBench_pends (s : State) (b : Nat) (f : Bench → Bench) : (s.updBench b f).pends = s.pends := rfl
@[simp] theorem State.updBench_lines (s : State) (b : Nat) (f : Bench → Bench) : (s.updBench b f).lines = s.lines := rfl
@[simp] theorem State.updBench_sectors (s : State) (b : Nat) (f : Bench → Bench) : (s.updBench b f).sectors = s.sectors := rfl
@[simp] theorem State.updBench_maint (s : State) (b : Nat) (f : Bench → Bench) : (s.updBench b f).maint = s.maint := rfl
@[simp] theorem State.updBench_notices (s : State) (b : Nat) (f : Bench → Bench) : (s.updBench b f).notices = s.notices := rfl
@[simp] theorem State.updBench_frames (s : State) (b : Nat) (f : Bench → Bench) : (s.updBench b f).frames = s.frames := rfl
@[simp] theorem State.updBench_serials (s : State) (b : Nat) (f : Bench → Bench) : (s.updBench b f).serials = s.serials := rfl
@[simp] theorem State.updBench_dimms (s : State) (b : Nat) (f : Bench → Bench) : (s.updBench b f).dimms = s.dimms := rfl
@[simp] theorem State.updBench_frameFails (s : State) (b : Nat) (f : Bench → Bench) : (s.updBench b f).frameFails = s.frameFails := rfl
@[simp] theorem State.updBench_mirrorOut (s : State) (b : Nat) (f : Bench → Bench) : (s.updBench b f).mirrorOut = s.mirrorOut := rfl
@[simp] theorem State.updBench_mseq (s : State) (b : Nat) (f : Bench → Bench) : (s.updBench b f).mseq = s.mseq := rfl
@[simp] theorem State.updBench_fenceEnd (s : State) (b : Nat) (f : Bench → Bench) : (s.updBench b f).fenceEnd = s.fenceEnd := rfl
@[simp] theorem State.updBench_trimGather (s : State) (b : Nat) (f : Bench → Bench) : (s.updBench b f).trimGather = s.trimGather := rfl
@[simp] theorem State.updBench_msnapBad (s : State) (b : Nat) (f : Bench → Bench) : (s.updBench b f).msnapBad = s.msnapBad := rfl
@[simp] theorem State.updBench_imgDamaged (s : State) (b : Nat) (f : Bench → Bench) : (s.updBench b f).imgDamaged = s.imgDamaged := rfl
@[simp] theorem State.updBench_keyTab (s : State) (b : Nat) (f : Bench → Bench) : (s.updBench b f).keyTab = s.keyTab := rfl
@[simp] theorem State.updBench_cips (s : State) (b : Nat) (f : Bench → Bench) : (s.updBench b f).cips = s.cips := rfl
@[simp] theorem State.updBench_adminWaits (s : State) (b : Nat) (f : Bench → Bench) : (s.updBench b f).adminWaits = s.adminWaits := rfl
@[simp] theorem State.updBench_nssro (s : State) (b : Nat) (f : Bench → Bench) : (s.updBench b f).nssro = s.nssro := rfl
@[simp] theorem State.updBench_ports (s : State) (b : Nat) (f : Bench → Bench) : (s.updBench b f).ports = s.ports := rfl
@[simp] theorem State.updBench_stage (s : State) (b : Nat) (f : Bench → Bench) : (s.updBench b f).stage = s.stage := rfl
@[simp] theorem State.updBench_drvPowered (s : State) (b : Nat) (f : Bench → Bench) : (s.updBench b f).drvPowered = s.drvPowered := rfl
@[simp] theorem State.updBench_macs (s : State) (b : Nat) (f : Bench → Bench) : (s.updBench b f).macs = s.macs := rfl
@[simp] theorem State.updBench_eports (s : State) (b : Nat) (f : Bench → Bench) : (s.updBench b f).eports = s.eports := rfl
@[simp] theorem State.updBench_prtStat (s : State) (b : Nat) (f : Bench → Bench) : (s.updBench b f).prtStat = s.prtStat := rfl
@[simp] theorem State.updBench_swq (s : State) (b : Nat) (f : Bench → Bench) : (s.updBench b f).swq = s.swq := rfl
@[simp] theorem State.updBench_markers (s : State) (b : Nat) (f : Bench → Bench) : (s.updBench b f).markers = s.markers := rfl
@[simp] theorem State.updBench_policed (s : State) (b : Nat) (f : Bench → Bench) : (s.updBench b f).policed = s.policed := rfl
@[simp] theorem State.updBench_swcNotices (s : State) (b : Nat) (f : Bench → Bench) : (s.updBench b f).swcNotices = s.swcNotices := rfl
@[simp] theorem State.updBench_samples (s : State) (b : Nat) (f : Bench → Bench) : (s.updBench b f).samples = s.samples := rfl
@[simp] theorem State.updBench_arrivals (s : State) (b : Nat) (f : Bench → Bench) : (s.updBench b f).arrivals = s.arrivals := rfl
@[simp] theorem State.updBench_epfs (s : State) (b : Nat) (f : Bench → Bench) : (s.updBench b f).epfs = s.epfs := rfl
@[simp] theorem State.updBench_epReads (s : State) (b : Nat) (f : Bench → Bench) : (s.updBench b f).epReads = s.epReads := rfl
@[simp] theorem State.updBench_epFetches (s : State) (b : Nat) (f : Bench → Bench) : (s.updBench b f).epFetches = s.epFetches := rfl
@[simp] theorem State.updBench_epTlpAt (s : State) (b : Nat) (f : Bench → Bench) : (s.updBench b f).epTlpAt = s.epTlpAt := rfl
@[simp] theorem State.updBench_epL1 (s : State) (b : Nat) (f : Bench → Bench) : (s.updBench b f).epL1 = s.epL1 := rfl
@[simp] theorem State.updBench_epCmdAt (s : State) (b : Nat) (f : Bench → Bench) : (s.updBench b f).epCmdAt = s.epCmdAt := rfl
@[simp] theorem State.updBench_epLtrActive (s : State) (b : Nat) (f : Bench → Bench) : (s.updBench b f).epLtrActive = s.epLtrActive := rfl
@[simp] theorem State.updBench_epQuarNotice (s : State) (b : Nat) (f : Bench → Bench) : (s.updBench b f).epQuarNotice = s.epQuarNotice := rfl
@[simp] theorem State.updBench_fuses (s : State) (b : Nat) (f : Bench → Bench) : (s.updBench b f).fuses = s.fuses := rfl
@[simp] theorem State.updBench_flash (s : State) (b : Nat) (f : Bench → Bench) : (s.updBench b f).flash = s.flash := rfl
@[simp] theorem State.updBench_boot (s : State) (b : Nat) (f : Bench → Bench) : (s.updBench b f).boot = s.boot := rfl
@[simp] theorem State.updBench_tru (s : State) (b : Nat) (f : Bench → Bench) : (s.updBench b f).tru = s.tru := rfl
@[simp] theorem State.updBench_chain (s : State) (b : Nat) (f : Bench → Bench) : (s.updBench b f).chain = s.chain := rfl
@[simp] theorem State.updBench_pair (s : State) (b : Nat) (f : Bench → Bench) : (s.updBench b f).pair = s.pair := rfl
@[simp] theorem State.updBench_live (s : State) (b : Nat) (f : Bench → Bench) : (s.updBench b f).live = s.live := rfl
@[simp] theorem State.updBench_mgt (s : State) (b : Nat) (f : Bench → Bench) : (s.updBench b f).mgt = s.mgt := rfl

end Sys2Proof.Machine
end

