-- ==== Sys2Proof/Laws/Ops.lean ====
section
/-!
SUPPORT. Laws/Ops.lean: what raising an event, declaring a controller fault and drawing a free value can do.
-/

namespace Sys2Proof.Machine

@[simp] theorem State.pending_bumpBy (s : State) (f : Fld) (n : Nat) : (s.bumpBy f n).pending = s.pending := rfl
@[simp] theorem State.bumpBy_out (s : State) (f : Fld) (n : Nat) : (s.bumpBy f n).out = s.out := rfl
@[simp] theorem State.bumpBy_bench (s : State) (f : Fld) (n : Nat) : (s.bumpBy f n).bench = s.bench := rfl
@[simp] theorem State.setBit_bench (s : State) (f : Fld) (i : Nat) (b : Bool) : (s.setBit f i b).bench = s.bench := rfl

/-- Drawing a free value counts the draw and does nothing else. -/
@[simp] theorem State.draw_snd (s : State) (k : FreeKind) (n : Nat) : (s.draw k n).2 = { s with freeCount := s.freeCount + 1 } := rfl

/-- A controller fault is declared, and at most a GOODBYE goes out. -/
theorem State.controllerFault_eq (s : State) :
    ∃ o, s.controllerFault = { s with faultDeclared := true, out := o } := by
  unfold State.controllerFault
  split
  · rename_i h
    exact ⟨s.out, by cases s; simp_all⟩
  · exact ⟨_, rfl⟩

/-- After the declaration the fault stands. -/
@[simp] theorem State.controllerFault_declared (s : State) : s.controllerFault.faultDeclared = true := by
  obtain ⟨o, h⟩ := s.controllerFault_eq; rw [h]

/-- A state but for its registers, benches, declared fault and outputs: all that raising an event can change. -/
def State.logged (s : State) (r : RegFile) (b : List Bench) (f : Bool) (o : List Out) : State :=
  { s with regs := r, bench := b, faultDeclared := f, out := o }

theorem State.setBit_logged (s : State) (f : Fld) (i : Nat) (b : Bool) :
    ∃ r, s.setBit f i b = s.logged r s.bench s.faultDeclared s.out := ⟨_, rfl⟩

theorem State.bump_logged (s : State) (f : Fld) : ∃ r, s.bump f = s.logged r s.bench s.faultDeclared s.out := ⟨_, rfl⟩

theorem State.controllerFault_logged (s : State) : ∃ o, s.controllerFault = s.logged s.regs s.bench true o := s.controllerFault_eq

theorem State.logged_self (s : State) : s.logged s.regs s.bench s.faultDeclared s.out = s := rfl

@[simp] theorem State.logged_logged (s : State) (r r' : RegFile) (b b' : List Bench) (f f' : Bool) (o o' : List Out) :
    (s.logged r b f o).logged r' b' f' o' = s.logged r' b' f' o' := rfl

/-- Everything that raising an event can change. -/
theorem State.raise_eq (s : State) (b loc sev code data : Nat) :
    ∃ r bn f o, s.raise b loc sev code data = s.logged r bn f o := by
  unfold State.raise
  split
  · exact ⟨_, _, _, _, s.logged_self.symm⟩
  · extract_lets s1 s2 s3
    have h1 : ∃ r, s1 = s.logged r s.bench s.faultDeclared s.out := s.setBit_logged _ _ _
    have h2 : ∃ r, s2 = s.logged r s.bench s.faultDeclared s.out := by
      obtain ⟨r, h⟩ := h1
      simp only [s2, h]
      split
      · exact ⟨_, rfl⟩
      · split
        · exact ⟨_, rfl⟩
        · exact ⟨_, rfl⟩
    have h3 : ∃ r f o, s3 = s.logged r s.bench f o := by
      obtain ⟨r, h⟩ := h2
      simp only [s3, h]
      split
      · obtain ⟨o, h⟩ := (s.logged r s.bench s.faultDeclared s.out).controllerFault_logged
        exact ⟨_, _, o, h⟩
      · exact ⟨_, _, _, rfl⟩
    obtain ⟨r, f, o, h⟩ := h3
    rw [h]
    split
    · exact ⟨_, _, _, _, rfl⟩
    · exact ⟨_, _, _, _, rfl⟩

/-! ### Raising an event leaves every other field alone -/

@[simp] theorem State.raise_pending (s : State) (b l v c d : Nat) : (s.raise b l v c d).pending = s.pending := by
  obtain ⟨_, _, _, _, h⟩ := s.raise_eq b l v c d; rw [h]; rfl
@[simp] theorem State.raise_part (s : State) (b l v c d : Nat) : (s.raise b l v c d).part = s.part := by
  obtain ⟨_, _, _, _, h⟩ := s.raise_eq b l v c d; rw [h]; rfl
@[simp] theorem State.raise_lanes (s : State) (b l v c d : Nat) : (s.raise b l v c d).lanes = s.lanes := by
  obtain ⟨_, _, _, _, h⟩ := s.raise_eq b l v c d; rw [h]; rfl
@[simp] theorem State.raise_chans (s : State) (b l v c d : Nat) : (s.raise b l v c d).chans = s.chans := by
  obtain ⟨_, _, _, _, h⟩ := s.raise_eq b l v c d; rw [h]; rfl
@[simp] theorem State.raise_unacked (s : State) (b l v c d : Nat) : (s.raise b l v c d).unacked = s.unacked := by
  obtain ⟨_, _, _, _, h⟩ := s.raise_eq b l v c d; rw [h]; rfl
@[simp] theorem State.raise_rot (s : State) (b l v c d : Nat) : (s.raise b l v c d).rot = s.rot := by
  obtain ⟨_, _, _, _, h⟩ := s.raise_eq b l v c d; rw [h]; rfl
@[simp] theorem State.raise_tim (s : State) (b l v c d : Nat) : (s.raise b l v c d).tim = s.tim := by
  obtain ⟨_, _, _, _, h⟩ := s.raise_eq b l v c d; rw [h]; rfl
@[simp] theorem State.raise_evlog (s : State) (b l v c d : Nat) : (s.raise b l v c d).evlog = s.evlog := by
  obtain ⟨_, _, _, _, h⟩ := s.raise_eq b l v c d; rw [h]; rfl
@[simp] theorem State.raise_freeCount (s : State) (b l v c d : Nat) : (s.raise b l v c d).freeCount = s.freeCount := by
  obtain ⟨_, _, _, _, h⟩ := s.raise_eq b l v c d; rw [h]; rfl
@[simp] theorem State.raise_subs (s : State) (b l v c d : Nat) : (s.raise b l v c d).subs = s.subs := by
  obtain ⟨_, _, _, _, h⟩ := s.raise_eq b l v c d; rw [h]; rfl
@[simp] theorem State.raise_conns (s : State) (b l v c d : Nat) : (s.raise b l v c d).conns = s.conns := by
  obtain ⟨_, _, _, _, h⟩ := s.raise_eq b l v c d; rw [h]; rfl
@[simp] theorem State.raise_freed (s : State) (b l v c d : Nat) : (s.raise b l v c d).freed = s.freed := by
  obtain ⟨_, _, _, _, h⟩ := s.raise_eq b l v c d; rw [h]; rfl
@[simp] theorem State.raise_idents (s : State) (b l v c d : Nat) : (s.raise b l v c d).idents = s.idents := by
  obtain ⟨_, _, _, _, h⟩ := s.raise_eq b l v c d; rw [h]; rfl
@[simp] theorem State.raise_nss (s : State) (b l v c d : Nat) : (s.raise b l v c d).nss = s.nss := by
  obtain ⟨_, _, _, _, h⟩ := s.raise_eq b l v c d; rw [h]; rfl
@[simp] theorem State.raise_freedNsids (s : State) (b l v c d : Nat) : (s.raise b l v c d).freedNsids = s.freedNsids := by
  obtain ⟨_, _, _, _, h⟩ := s.raise_eq b l v c d; rw [h]; rfl
@[simp] theorem State.raise_tenants (s : State) (b l v c d : Nat) : (s.raise b l v c d).tenants = s.tenants := by
  obtain ⟨_, _, _, _, h⟩ := s.raise_eq b l v c d; rw [h]; rfl
@[simp] theorem State.raise_msnap (s : State) (b l v c d : Nat) : (s.raise b l v c d).msnap = s.msnap := by
  obtain ⟨_, _, _, _, h⟩ := s.raise_eq b l v c d; rw [h]; rfl
@[simp] theorem State.raise_msaved (s : State) (b l v c d : Nat) : (s.raise b l v c d).msaved = s.msaved := by
  obtain ⟨_, _, _, _, h⟩ := s.raise_eq b l v c d; rw [h]; rfl
@[simp] theorem State.raise_tsaved (s : State) (b l v c d : Nat) : (s.raise b l v c d).tsaved = s.tsaved := by
  obtain ⟨_, _, _, _, h⟩ := s.raise_eq b l v c d; rw [h]; rfl
@[simp] theorem State.raise_msaveAt (s : State) (b l v c d : Nat) : (s.raise b l v c d).msaveAt = s.msaveAt := by
  obtain ⟨_, _, _, _, h⟩ := s.raise_eq b l v c d; rw [h]; rfl
@[simp] theorem State.raise_ctrls (s : State) (b l v c d : Nat) : (s.raise b l v c d).ctrls = s.ctrls := by
  obtain ⟨_, _, _, _, h⟩ := s.raise_eq b l v c d; rw [h]; rfl
@[simp] theorem State.raise_freedCtrls (s : State) (b l v c d : Nat) : (s.raise b l v c d).freedCtrls = s.freedCtrls := by
  obtain ⟨_, _, _, _, h⟩ := s.raise_eq b l v c d; rw [h]; rfl
@[simp] theorem State.raise_subnqn (s : State) (b l v c d : Nat) : (s.raise b l v c d).subnqn = s.subnqn := by
  obtain ⟨_, _, _, _, h⟩ := s.raise_eq b l v c d; rw [h]; rfl
@[simp] theorem State.raise_cmds (s : State) (b l v c d : Nat) : (s.raise b l v c d).cmds = s.cmds := by
  obtain ⟨_, _, _, _, h⟩ := s.raise_eq b l v c d; rw [h]; rfl
@[simp] theorem State.raise_stalled (s : State) (b l v c d : Nat) : (s.raise b l v c d).stalled = s.stalled := by
  obtain ⟨_, _, _, _, h⟩ := s.raise_eq b l v c d; rw [h]; rfl
@[simp] theorem State.raise_sbcWant (s : State) (b l v c d : Nat) : (s.raise b l v c d).sbcWant = s.sbcWant := by
  obtain ⟨_, _, _, _, h⟩ := s.raise_eq b l v c d; rw [h]; rfl
@[simp] theorem State.raise_sbcShift (s : State) (b l v c d : Nat) : (s.raise b l v c d).sbcShift = s.sbcShift := by
  obtain ⟨_, _, _, _, h⟩ := s.raise_eq b l v c d; rw [h]; rfl
@[simp] theorem State.raise_nextCmd (s : State) (b l v c d : Nat) : (s.raise b l v c d).nextCmd = s.nextCmd := by
  obtain ⟨_, _, _, _, h⟩ := s.raise_eq b l v c d; rw [h]; rfl
@[simp] theorem State.raise_roleV (s : State) (b l v c d : Nat) : (s.raise b l v c d).roleV = s.roleV := by
  obtain ⟨_, _, _, _, h⟩ := s.raise_eq b l v c d; rw [h]; rfl
@[simp] theorem State.raise_grants (s : State) (b l v c d : Nat) : (s.raise b l v c d).grants = s.grants := by
  obtain ⟨_, _, _, _, h⟩ := s.raise_eq b l v c d; rw [h]; rfl
@[simp] theorem State.raise_taskGrants (s : State) (b l v c d : Nat) : (s.raise b l v c d).taskGrants = s.taskGrants := by
  obtain ⟨_, _, _, _, h⟩ := s.raise_eq b l v c d; rw [h]; rfl
@[simp] theorem State.raise_periodAt (s : State) (b l v c d : Nat) : (s.raise b l v c d).periodAt = s.periodAt := by
  obtain ⟨_, _, _, _, h⟩ := s.raise_eq b l v c d; rw [h]; rfl
@[simp] theorem State.raise_rebAt (s : State) (b l v c d : Nat) : (s.raise b l v c d).rebAt = s.rebAt := by
  obtain ⟨_, _, _, _, h⟩ := s.raise_eq b l v c d; rw [h]; rfl
@[simp] theorem State.raise_groups (s : State) (b l v c d : Nat) : (s.raise b l v c d).groups = s.groups := by
  obtain ⟨_, _, _, _, h⟩ := s.raise_eq b l v c d; rw [h]; rfl
@[simp] theorem State.raise_stripes (s : State) (b l v c d : Nat) : (s.raise b l v c d).stripes = s.stripes := by
  obtain ⟨_, _, _, _, h⟩ := s.raise_eq b l v c d; rw [h]; rfl
@[simp] theorem State.raise_entryNotice (s : State) (b l v c d : Nat) : (s.raise b l v c d).entryNotice = s.entryNotice := by
  obtain ⟨_, _, _, _, h⟩ := s.raise_eq b l v c d; rw [h]; rfl
@[simp] theorem State.raise_survey (s : State) (b l v c d : Nat) : (s.raise b l v c d).survey = s.survey := by
  obtain ⟨_, _, _, _, h⟩ := s.raise_eq b l v c d; rw [h]; rfl
@[simp] theorem State.raise_pendings (s : State) (b l v c d : Nat) : (s.raise b l v c d).pendings = s.pendings := by
  obtain ⟨_, _, _, _, h⟩ := s.raise_eq b l v c d; rw [h]; rfl
@[simp] theorem State.raise_objs (s : State) (b l v c d : Nat) : (s.raise b l v c d).objs = s.objs := by
  obtain ⟨_, _, _, _, h⟩ := s.raise_eq b l v c d; rw [h]; rfl
@[simp] theorem State.raise_svy (s : State) (b l v c d : Nat) : (s.raise b l v c d).svy = s.svy := by
  obtain ⟨_, _, _, _, h⟩ := s.raise_eq b l v c d; rw [h]; rfl
@[simp] theorem State.raise_sweeps (s : State) (b l v c d : Nat) : (s.raise b l v c d).sweeps = s.sweeps := by
  obtain ⟨_, _, _, _, h⟩ := s.raise_eq b l v c d; rw [h]; rfl
@[simp] theorem State.raise_tally (s : State) (b l v c d : Nat) : (s.raise b l v c d).tally = s.tally := by
  obtain ⟨_, _, _, _, h⟩ := s.raise_eq b l v c d; rw [h]; rfl
@[simp] theorem State.raise_fixupds (s : State) (b l v c d : Nat) : (s.raise b l v c d).fixupds = s.fixupds := by
  obtain ⟨_, _, _, _, h⟩ := s.raise_eq b l v c d; rw [h]; rfl
@[simp] theorem State.raise_fixblks (s : State) (b l v c d : Nat) : (s.raise b l v c d).fixblks = s.fixblks := by
  obtain ⟨_, _, _, _, h⟩ := s.raise_eq b l v c d; rw [h]; rfl
@[simp] theorem State.raise_slots (s : State) (b l v c d : Nat) : (s.raise b l v c d).slots = s.slots := by
  obtain ⟨_, _, _, _, h⟩ := s.raise_eq b l v c d; rw [h]; rfl
@[simp] theorem State.raise_badBlks (s : State) (b l v c d : Nat) : (s.raise b l v c d).badBlks = s.badBlks := by
  obtain ⟨_, _, _, _, h⟩ := s.raise_eq b l v c d; rw [h]; rfl
@[simp] theorem State.raise_mcmds (s : State) (b l v c d : Nat) : (s.raise b l v c d).mcmds = s.mcmds := by
  obtain ⟨_, _, _, _, h⟩ := s.raise_eq b l v c d; rw [h]; rfl
@[simp] theorem State.raise_mwaits (s : State) (b l v c d : Nat) : (s.raise b l v c d).mwaits = s.mwaits := by
  obtain ⟨_, _, _, _, h⟩ := s.raise_eq b l v c d; rw [h]; rfl
@[simp] theorem State.raise_jobs (s : State) (b l v c d : Nat) : (s.raise b l v c d).jobs = s.jobs := by
  obtain ⟨_, _, _, _, h⟩ := s.raise_eq b l v c d; rw [h]; rfl
@[simp] theorem State.raise_nextJob (s : State) (b l v c d : Nat) : (s.raise b l v c d).nextJob = s.nextJob := by
  obtain ⟨_, _, _, _, h⟩ := s.raise_eq b l v c d; rw [h]; rfl
@[simp] theorem State.raise_tcutSpent (s : State) (b l v c d : Nat) : (s.raise b l v c d).tcutSpent = s.tcutSpent := by
  obtain ⟨_, _, _, _, h⟩ := s.raise_eq b l v c d; rw [h]; rfl
@[simp] theorem State.raise_rindex (s : State) (b l v c d : Nat) : (s.raise b l v c d).rindex = s.rindex := by
  obtain ⟨_, _, _, _, h⟩ := s.raise_eq b l v c d; rw [h]; rfl
@[simp] theorem State.raise_reshape (s : State) (b l v c d : Nat) : (s.raise b l v c d).reshape = s.reshape := by
  obtain ⟨_, _, _, _, h⟩ := s.raise_eq b l v c d; rw [h]; rfl
@[simp] theorem State.raise_windows (s : State) (b l v c d : Nat) : (s.raise b l v c d).windows = s.windows := by
  obtain ⟨_, _, _, _, h⟩ := s.raise_eq b l v c d; rw [h]; rfl
@[simp] theorem State.raise_winops (s : State) (b l v c d : Nat) : (s.raise b l v c d).winops = s.winops := by
  obtain ⟨_, _, _, _, h⟩ := s.raise_eq b l v c d; rw [h]; rfl
@[simp] theorem State.raise_nextOp (s : State) (b l v c d : Nat) : (s.raise b l v c d).nextOp = s.nextOp := by
  obtain ⟨_, _, _, _, h⟩ := s.raise_eq b l v c d; rw [h]; rfl
@[simp] theorem State.raise_nextVer (s : State) (b l v c d : Nat) : (s.raise b l v c d).nextVer = s.nextVer := by
  obtain ⟨_, _, _, _, h⟩ := s.raise_eq b l v c d; rw [h]; rfl
@[simp] theorem State.raise_pends (s : State) (b l v c d : Nat) : (s.raise b l v c d).pends = s.pends := by
  obtain ⟨_, _, _, _, h⟩ := s.raise_eq b l v c d; rw [h]; rfl
@[simp] theorem State.raise_lines (s : State) (b l v c d : Nat) : (s.raise b l v c d).lines = s.lines := by
  obtain ⟨_, _, _, _, h⟩ := s.raise_eq b l v c d; rw [h]; rfl
@[simp] theorem State.raise_sectors (s : State) (b l v c d : Nat) : (s.raise b l v c d).sectors = s.sectors := by
  obtain ⟨_, _, _, _, h⟩ := s.raise_eq b l v c d; rw [h]; rfl
@[simp] theorem State.raise_maint (s : State) (b l v c d : Nat) : (s.raise b l v c d).maint = s.maint := by
  obtain ⟨_, _, _, _, h⟩ := s.raise_eq b l v c d; rw [h]; rfl
@[simp] theorem State.raise_notices (s : State) (b l v c d : Nat) : (s.raise b l v c d).notices = s.notices := by
  obtain ⟨_, _, _, _, h⟩ := s.raise_eq b l v c d; rw [h]; rfl
@[simp] theorem State.raise_frames (s : State) (b l v c d : Nat) : (s.raise b l v c d).frames = s.frames := by
  obtain ⟨_, _, _, _, h⟩ := s.raise_eq b l v c d; rw [h]; rfl
@[simp] theorem State.raise_serials (s : State) (b l v c d : Nat) : (s.raise b l v c d).serials = s.serials := by
  obtain ⟨_, _, _, _, h⟩ := s.raise_eq b l v c d; rw [h]; rfl
@[simp] theorem State.raise_dimms (s : State) (b l v c d : Nat) : (s.raise b l v c d).dimms = s.dimms := by
  obtain ⟨_, _, _, _, h⟩ := s.raise_eq b l v c d; rw [h]; rfl
@[simp] theorem State.raise_frameFails (s : State) (b l v c d : Nat) : (s.raise b l v c d).frameFails = s.frameFails := by
  obtain ⟨_, _, _, _, h⟩ := s.raise_eq b l v c d; rw [h]; rfl
@[simp] theorem State.raise_mirrorOut (s : State) (b l v c d : Nat) : (s.raise b l v c d).mirrorOut = s.mirrorOut := by
  obtain ⟨_, _, _, _, h⟩ := s.raise_eq b l v c d; rw [h]; rfl
@[simp] theorem State.raise_mseq (s : State) (b l v c d : Nat) : (s.raise b l v c d).mseq = s.mseq := by
  obtain ⟨_, _, _, _, h⟩ := s.raise_eq b l v c d; rw [h]; rfl
@[simp] theorem State.raise_fenceEnd (s : State) (b l v c d : Nat) : (s.raise b l v c d).fenceEnd = s.fenceEnd := by
  obtain ⟨_, _, _, _, h⟩ := s.raise_eq b l v c d; rw [h]; rfl
@[simp] theorem State.raise_trimGather (s : State) (b l v c d : Nat) : (s.raise b l v c d).trimGather = s.trimGather := by
  obtain ⟨_, _, _, _, h⟩ := s.raise_eq b l v c d; rw [h]; rfl
@[simp] theorem State.raise_msnapBad (s : State) (b l v c d : Nat) : (s.raise b l v c d).msnapBad = s.msnapBad := by
  obtain ⟨_, _, _, _, h⟩ := s.raise_eq b l v c d; rw [h]; rfl
@[simp] theorem State.raise_imgDamaged (s : State) (b l v c d : Nat) : (s.raise b l v c d).imgDamaged = s.imgDamaged := by
  obtain ⟨_, _, _, _, h⟩ := s.raise_eq b l v c d; rw [h]; rfl
@[simp] theorem State.raise_keyTab (s : State) (b l v c d : Nat) : (s.raise b l v c d).keyTab = s.keyTab := by
  obtain ⟨_, _, _, _, h⟩ := s.raise_eq b l v c d; rw [h]; rfl
@[simp] theorem State.raise_cips (s : State) (b l v c d : Nat) : (s.raise b l v c d).cips = s.cips := by
  obtain ⟨_, _, _, _, h⟩ := s.raise_eq b l v c d; rw [h]; rfl
@[simp] theorem State.raise_adminWaits (s : State) (b l v c d : Nat) : (s.raise b l v c d).adminWaits = s.adminWaits := by
  obtain ⟨_, _, _, _, h⟩ := s.raise_eq b l v c d; rw [h]; rfl
@[simp] theorem State.raise_nssro (s : State) (b l v c d : Nat) : (s.raise b l v c d).nssro = s.nssro := by
  obtain ⟨_, _, _, _, h⟩ := s.raise_eq b l v c d; rw [h]; rfl
@[simp] theorem State.raise_ports (s : State) (b l v c d : Nat) : (s.raise b l v c d).ports = s.ports := by
  obtain ⟨_, _, _, _, h⟩ := s.raise_eq b l v c d; rw [h]; rfl
@[simp] theorem State.raise_stage (s : State) (b l v c d : Nat) : (s.raise b l v c d).stage = s.stage := by
  obtain ⟨_, _, _, _, h⟩ := s.raise_eq b l v c d; rw [h]; rfl
@[simp] theorem State.raise_drvPowered (s : State) (b l v c d : Nat) : (s.raise b l v c d).drvPowered = s.drvPowered := by
  obtain ⟨_, _, _, _, h⟩ := s.raise_eq b l v c d; rw [h]; rfl
@[simp] theorem State.raise_macs (s : State) (b l v c d : Nat) : (s.raise b l v c d).macs = s.macs := by
  obtain ⟨_, _, _, _, h⟩ := s.raise_eq b l v c d; rw [h]; rfl
@[simp] theorem State.raise_eports (s : State) (b l v c d : Nat) : (s.raise b l v c d).eports = s.eports := by
  obtain ⟨_, _, _, _, h⟩ := s.raise_eq b l v c d; rw [h]; rfl
@[simp] theorem State.raise_prtStat (s : State) (b l v c d : Nat) : (s.raise b l v c d).prtStat = s.prtStat := by
  obtain ⟨_, _, _, _, h⟩ := s.raise_eq b l v c d; rw [h]; rfl
@[simp] theorem State.raise_swq (s : State) (b l v c d : Nat) : (s.raise b l v c d).swq = s.swq := by
  obtain ⟨_, _, _, _, h⟩ := s.raise_eq b l v c d; rw [h]; rfl
@[simp] theorem State.raise_markers (s : State) (b l v c d : Nat) : (s.raise b l v c d).markers = s.markers := by
  obtain ⟨_, _, _, _, h⟩ := s.raise_eq b l v c d; rw [h]; rfl
@[simp] theorem State.raise_policed (s : State) (b l v c d : Nat) : (s.raise b l v c d).policed = s.policed := by
  obtain ⟨_, _, _, _, h⟩ := s.raise_eq b l v c d; rw [h]; rfl
@[simp] theorem State.raise_swcNotices (s : State) (b l v c d : Nat) : (s.raise b l v c d).swcNotices = s.swcNotices := by
  obtain ⟨_, _, _, _, h⟩ := s.raise_eq b l v c d; rw [h]; rfl
@[simp] theorem State.raise_samples (s : State) (b l v c d : Nat) : (s.raise b l v c d).samples = s.samples := by
  obtain ⟨_, _, _, _, h⟩ := s.raise_eq b l v c d; rw [h]; rfl
@[simp] theorem State.raise_arrivals (s : State) (b l v c d : Nat) : (s.raise b l v c d).arrivals = s.arrivals := by
  obtain ⟨_, _, _, _, h⟩ := s.raise_eq b l v c d; rw [h]; rfl
@[simp] theorem State.raise_epfs (s : State) (b l v c d : Nat) : (s.raise b l v c d).epfs = s.epfs := by
  obtain ⟨_, _, _, _, h⟩ := s.raise_eq b l v c d; rw [h]; rfl
@[simp] theorem State.raise_epReads (s : State) (b l v c d : Nat) : (s.raise b l v c d).epReads = s.epReads := by
  obtain ⟨_, _, _, _, h⟩ := s.raise_eq b l v c d; rw [h]; rfl
@[simp] theorem State.raise_epFetches (s : State) (b l v c d : Nat) : (s.raise b l v c d).epFetches = s.epFetches := by
  obtain ⟨_, _, _, _, h⟩ := s.raise_eq b l v c d; rw [h]; rfl
@[simp] theorem State.raise_epTlpAt (s : State) (b l v c d : Nat) : (s.raise b l v c d).epTlpAt = s.epTlpAt := by
  obtain ⟨_, _, _, _, h⟩ := s.raise_eq b l v c d; rw [h]; rfl
@[simp] theorem State.raise_epL1 (s : State) (b l v c d : Nat) : (s.raise b l v c d).epL1 = s.epL1 := by
  obtain ⟨_, _, _, _, h⟩ := s.raise_eq b l v c d; rw [h]; rfl
@[simp] theorem State.raise_epCmdAt (s : State) (b l v c d : Nat) : (s.raise b l v c d).epCmdAt = s.epCmdAt := by
  obtain ⟨_, _, _, _, h⟩ := s.raise_eq b l v c d; rw [h]; rfl
@[simp] theorem State.raise_epLtrActive (s : State) (b l v c d : Nat) : (s.raise b l v c d).epLtrActive = s.epLtrActive := by
  obtain ⟨_, _, _, _, h⟩ := s.raise_eq b l v c d; rw [h]; rfl
@[simp] theorem State.raise_epQuarNotice (s : State) (b l v c d : Nat) : (s.raise b l v c d).epQuarNotice = s.epQuarNotice := by
  obtain ⟨_, _, _, _, h⟩ := s.raise_eq b l v c d; rw [h]; rfl
@[simp] theorem State.raise_fuses (s : State) (b l v c d : Nat) : (s.raise b l v c d).fuses = s.fuses := by
  obtain ⟨_, _, _, _, h⟩ := s.raise_eq b l v c d; rw [h]; rfl
@[simp] theorem State.raise_flash (s : State) (b l v c d : Nat) : (s.raise b l v c d).flash = s.flash := by
  obtain ⟨_, _, _, _, h⟩ := s.raise_eq b l v c d; rw [h]; rfl
@[simp] theorem State.raise_boot (s : State) (b l v c d : Nat) : (s.raise b l v c d).boot = s.boot := by
  obtain ⟨_, _, _, _, h⟩ := s.raise_eq b l v c d; rw [h]; rfl
@[simp] theorem State.raise_tru (s : State) (b l v c d : Nat) : (s.raise b l v c d).tru = s.tru := by
  obtain ⟨_, _, _, _, h⟩ := s.raise_eq b l v c d; rw [h]; rfl
@[simp] theorem State.raise_chain (s : State) (b l v c d : Nat) : (s.raise b l v c d).chain = s.chain := by
  obtain ⟨_, _, _, _, h⟩ := s.raise_eq b l v c d; rw [h]; rfl
@[simp] theorem State.raise_pair (s : State) (b l v c d : Nat) : (s.raise b l v c d).pair = s.pair := by
  obtain ⟨_, _, _, _, h⟩ := s.raise_eq b l v c d; rw [h]; rfl
@[simp] theorem State.raise_live (s : State) (b l v c d : Nat) : (s.raise b l v c d).live = s.live := by
  obtain ⟨_, _, _, _, h⟩ := s.raise_eq b l v c d; rw [h]; rfl
@[simp] theorem State.raise_mgt (s : State) (b l v c d : Nat) : (s.raise b l v c d).mgt = s.mgt := by
  obtain ⟨_, _, _, _, h⟩ := s.raise_eq b l v c d; rw [h]; rfl

end Sys2Proof.Machine
end

