-- ==== Sys2Proof/Laws/RegFile.lean ====
section
/-!
SUPPORT. Laws/RegFile.lean: the register file reads back what was written, leaves every other word alone, and keeps its canonical
form; register fields of one word do likewise.
-/

namespace Sys2Proof.Machine

/-- The canonical form as a proposition. -/
theorem RegFile.wf_iff (l : RegFile) :
    RegFile.wf l = true ↔ (l.map (·.1)).Pairwise (· < ·) ∧ ∀ c ∈ l, c.2 ≠ coldWord c.1 := by
  simp [RegFile.wf]

/-- A key below every listed key is not listed. -/
theorem RegFile.find_none_of_lt (l : RegFile) (k : Nat) (h : ∀ c ∈ l, k < c.1) : RegFile.find l k = none := by
  induction l with
  | nil => rfl
  | cons a r ih =>
    have : a.1 ≠ k := by have := h a (by simp); omega
    simp only [RegFile.find, if_neg this]
    exact ih fun c hc => h c (by simp [hc])

theorem RegFile.find_insert_same (l : RegFile) (k : Nat) (v : Word) : RegFile.find (RegFile.insert l k v) k = some v := by
  induction l with
  | nil => simp [RegFile.insert, RegFile.find]
  | cons a r ih =>
    simp only [RegFile.insert]
    split
    · simp [RegFile.find]
    · split
      · simp [RegFile.find]
      · rename_i h1 h2
        simp only [RegFile.find, if_neg (Ne.symm h2), ih]

theorem RegFile.find_insert_other (l : RegFile) (k j : Nat) (v : Word) (h : j ≠ k) :
    RegFile.find (RegFile.insert l k v) j = RegFile.find l j := by
  induction l with
  | nil => simp [RegFile.insert, RegFile.find, Ne.symm h]
  | cons a r ih =>
    simp only [RegFile.insert]
    split
    · simp [RegFile.find, Ne.symm h]
    · split
      · rename_i h1 h2
        have : ¬ a.1 = j := by omega
        simp [RegFile.find, this, Ne.symm h]
      · simp only [RegFile.find, ih]

theorem RegFile.find_erase_same (l : RegFile) (k : Nat) : RegFile.find (RegFile.erase l k) k = none := by
  induction l with
  | nil => rfl
  | cons a r ih =>
    by_cases h : a.1 = k
    · simpa [RegFile.erase, h] using ih
    · simpa [RegFile.erase, h, RegFile.find] using ih

theorem RegFile.find_erase_other (l : RegFile) (k j : Nat) (h : j ≠ k) :
    RegFile.find (RegFile.erase l k) j = RegFile.find l j := by
  induction l with
  | nil => rfl
  | cons a r ih =>
    by_cases ha : a.1 = k
    · have : ¬ a.1 = j := by omega
      simpa [RegFile.erase, ha, RegFile.find, Ne.symm h] using ih
    · by_cases hj : a.1 = j
      · have : (a.1 != k) = true := by simpa using ha
        simp only [RegFile.erase, List.filter_cons, this, if_true, RegFile.find, if_pos hj]
      · simpa [RegFile.erase, ha, RegFile.find, hj] using ih

/-- A word written reads back. -/
@[simp] theorem RegFile.get_set_same (l : RegFile) (k : Nat) (v : Word) : RegFile.get (RegFile.set l k v) k = v := by
  simp only [RegFile.get, RegFile.set]
  split
  · rename_i h
    rw [RegFile.find_erase_same]; exact h.symm
  · rw [RegFile.find_insert_same]; rfl

/-- A write leaves every other word alone. -/
theorem RegFile.get_set_other (l : RegFile) (k j : Nat) (v : Word) (h : j ≠ k) :
    RegFile.get (RegFile.set l k v) j = RegFile.get l j := by
  simp only [RegFile.get, RegFile.set]
  split
  · rw [RegFile.find_erase_other _ _ _ h]
  · rw [RegFile.find_insert_other _ _ _ _ h]

/-- The keys of a file after an insertion are those before and the new one. -/
theorem RegFile.mem_insert (l : RegFile) (k : Nat) (v : Word) (c : Nat × Word) (h : c ∈ RegFile.insert l k v) :
    c = (k, v) ∨ c ∈ l := by
  induction l with
  | nil => simpa [RegFile.insert] using h
  | cons a r ih =>
    simp only [RegFile.insert] at h
    split at h
    · simpa using h
    · split at h
      · rcases List.mem_cons.1 h with h | h
        · exact .inl h
        · exact .inr (by simp [h])
      · rcases List.mem_cons.1 h with h | h
        · exact .inr (by simp [h])
        · rcases ih h with h | h
          · exact .inl h
          · exact .inr (by simp [h])

theorem RegFile.sorted_insert (l : RegFile) (k : Nat) (v : Word) (h : (l.map (·.1)).Pairwise (· < ·)) :
    ((RegFile.insert l k v).map (·.1)).Pairwise (· < ·) := by
  induction l with
  | nil => simp [RegFile.insert]
  | cons a r ih =>
    have hr := (List.pairwise_cons.1 h).2
    have ha := (List.pairwise_cons.1 h).1
    simp only [RegFile.insert]
    split
    · rename_i hk
      refine List.pairwise_cons.2 ⟨?_, h⟩
      intro x hx
      rcases List.mem_cons.1 hx with rfl | hx
      · exact hk
      · exact Nat.lt_trans hk (ha x hx)
    · split
      · rename_i hk
        refine List.pairwise_cons.2 ⟨?_, hr⟩
        intro x hx
        have := ha x hx
        simp only at *; omega
      · rename_i h1 h2
        refine List.pairwise_cons.2 ⟨?_, ih hr⟩
        intro x hx
        obtain ⟨c, hc, rfl⟩ := List.mem_map.1 hx
        rcases RegFile.mem_insert r k v c hc with rfl | hc
        · simp only; omega
        · exact ha _ (List.mem_map.2 ⟨c, hc, rfl⟩)

/-- A write keeps the canonical form. -/
theorem RegFile.wf_set (l : RegFile) (k : Nat) (v : Word) (h : RegFile.wf l = true) : RegFile.wf (RegFile.set l k v) = true := by
  rw [RegFile.wf_iff] at h ⊢
  obtain ⟨hs, hc⟩ := h
  simp only [RegFile.set]
  split
  · refine ⟨?_, fun c hm => hc c (List.mem_filter.1 hm).1⟩
    exact hs.sublist (List.Sublist.map _ (List.filter_sublist))
  · rename_i hv
    refine ⟨RegFile.sorted_insert l k v hs, fun c hm => ?_⟩
    rcases RegFile.mem_insert l k v c hm with rfl | hm
    · exact hv
    · exact hc c hm

/-! ### Words and fields of the state -/

/-- A word written reads back. -/
@[simp] theorem State.word_setWord_same (s : State) (k : Nat) (v : Word) : (s.setWord k v).word k = v := by
  simp [State.word, State.setWord]

/-- A write leaves every other word alone. -/
theorem State.word_setWord_other (s : State) (k j : Nat) (v : Word) (h : j ≠ k) : (s.setWord k v).word j = s.word j := by
  simp [State.word, State.setWord, RegFile.get_set_other _ _ _ _ h]

/-- A field written reads back modulo its width. -/
theorem fieldGet_fieldPut_same (w : Word) (hi lo v : Nat) (h : lo ≤ hi) (h32 : hi < 32) :
    fieldGet (fieldPut w hi lo v) hi lo = v % 2 ^ (hi + 1 - lo) := by
  have hw : w.toNat < 2 ^ 32 := w.isLt
  simp only [fieldGet, fieldPut, BitVec.toNat_ofNat]
  generalize w.toNat = n at hw
  have e : (2 : Nat) ^ 32 = 2 ^ lo * (2 ^ (hi + 1 - lo) * 2 ^ (31 - hi)) := by
    rw [← pow_add, ← pow_add]; congr 1; omega
  set a := 2 ^ lo
  set b := 2 ^ (hi + 1 - lo)
  set c := 2 ^ (31 - hi)
  have ha : 0 < a := by positivity
  have hb : 0 < b := by positivity
  have hc : 0 < c := by positivity
  set y := v % b
  have hy : y < b := Nat.mod_lt _ hb
  -- n = low + a * (mid + b * top)
  set low := n % a
  set q := n / a
  have hn : n = low + a * q := (Nat.mod_add_div n a).symm
  set mid := q % b
  set top := q / b
  have hq : q = mid + b * top := (Nat.mod_add_div q b).symm
  have htop : top < c := by
    have : q < b * c := by
      rw [Nat.div_lt_iff_lt_mul ha]
      calc n < 2 ^ 32 := hw
        _ = a * (b * c) := e
        _ = b * c * a := by ring
    exact (Nat.div_lt_iff_lt_mul hb).2 (by rw [Nat.mul_comm]; exact this)
  have hlow : low < a := Nat.mod_lt _ ha
  have hx : n - mid * a + y * a = low + a * (y + b * top) := by
    have h1 : n = low + a * mid + a * (b * top) := by rw [hn, hq]; ring
    have h2 : n - mid * a = low + a * (b * top) := by
      rw [h1, Nat.mul_comm mid a]; omega
    rw [h2]; ring
  rw [hx]
  have hlt : low + a * (y + b * top) < 2 ^ 32 := by
    have h3 : y + b * top < b * c := by
      calc y + b * top < b + b * top := by omega
        _ = b * (top + 1) := by ring
        _ ≤ b * c := Nat.mul_le_mul_left _ htop
    rw [e]
    calc low + a * (y + b * top) < a + a * (y + b * top) := by omega
      _ = a * (y + b * top + 1) := by ring
      _ ≤ a * (b * c) := Nat.mul_le_mul_left _ h3
  rw [Nat.mod_eq_of_lt hlt, Nat.add_mul_div_left _ _ ha, Nat.div_eq_of_lt hlow, Nat.zero_add, Nat.add_mul_mod_self_left,
    Nat.mod_eq_of_lt hy]

/-- What the block writes to a field reads back modulo the field's width. -/
theorem State.rd_wr_same (s : State) (f : Fld) (v : Nat) (h : f.lo ≤ f.hi) (h32 : f.hi < 32) :
    (s.wr f v).rd f = v % 2 ^ (f.hi + 1 - f.lo) := by
  simp only [State.rd, State.wr, State.word_setWord_same]
  exact fieldGet_fieldPut_same _ _ _ _ h h32

/-- A write to a field leaves the fields of every other word alone. -/
theorem State.rd_wr_other (s : State) (f g : Fld) (v : Nat) (h : g.key ≠ f.key) : (s.wr f v).rd g = s.rd g := by
  simp only [State.rd, State.wr]
  rw [State.word_setWord_other _ _ _ _ h]

end Sys2Proof.Machine
end

