-- ==== Sys2Proof/Machine/Pins.lean ====
section
/-!
DEFINITION. Machine/Pins.lean: the ball map (R637 to R644), what the alarm outputs and the taken pins show of the state (R645, R646,
R649, R650), and the marking of the lid that names the part (R669, R671).
-/

namespace Sys2Proof.Machine

/-! ### Nets (Tables PIN-2 to PIN-6) -/

/-- What a SerDes lane serves (Table PIN-3). -/
inductive LaneUse where
  | eth (port lane : Nat)
  | drive (slot lane : Nat)
  | haul (half lane : Nat)
  | ep (lane : Nat)
deriving DecidableEq, Repr

/-- A signal of a DDR5 subchannel or channel (Table PIN-5). -/
inductive DdrNet where
  | dq (i : Nat) | cb (i : Nat) | dqsP (q : Nat) | dqsN (q : Nat) | dca (q : Nat) | dpar | dcsN (i : Nat)
  | dckP | dckN | drstN | alertN | spdScl | spdSda | zq
deriving DecidableEq, Repr

/-- The net of a ball: a supply, a lane's signal (transmit or receive, P or N), a DDR5 signal of a channel (with its subchannel, B
or not), a signal of Table PIN-6, or no ball. -/
inductive Net where
  | noBall | vss | vddCore | vddSram | vddAon | vddIo | vddMram | vddaSd | vddhSd | vddqDdr
  | lane (l : Nat) (tx p : Bool)
  | ddr (ch : Nat) (subB : Bool) (n : DdrNet)
  | other (name : String)
deriving DecidableEq, Repr

/-- What lane L serves (R641). -/
def laneUse (l : Nat) : LaneUse :=
  if l < 32 then .eth (l / 4) (l % 4) else if l < 128 then .drive ((l - 32) / 2) (l % 2)
  else if l < 144 then .haul ((l - 128) / 8) (l % 8) else .ep (l - 144)

/-- Direction of a signal (R645). -/
inductive PinDir where
  | input | output | bidir | openDrain | openDrainBidir | analog | unconnected
deriving DecidableEq, Repr

/-- What a ball holds in reset (Tables PIN-6, PIN-7). -/
inductive ResetLevel where
  | diffZero | terminated | undrivenDetect | low | high | pullUp | pullDown | noPull | highZ | highZPullDown | released | latched
  | electricalIdle | unterminated | none
deriving DecidableEq, Repr

/-- A row of Table PIN-6: signal, direction, domain, reset state. -/
structure PinSig where
  name : String
  dir : PinDir
  domain : String
  level : ResetLevel
deriving DecidableEq, Repr

/-- Signals in the domain VDD_IO. -/
def pinsIo (d : PinDir) (l : ResetLevel) (ns : List String) : List PinSig := ns.map fun n => ⟨n, d, "VDD_IO", l⟩

/-- The signals of Table PIN-6 from ball 5.66, eight to a row. -/
def otherPins : List PinSig :=
  pinsIo .output .diffZero ["CHU_TX_P", "CHU_TX_N"] ++ pinsIo .input .undrivenDetect ["CHU_RX_P", "CHU_RX_N"] ++
  pinsIo .output .diffZero ["CHD_TX_P", "CHD_TX_N"] ++ pinsIo .input .undrivenDetect ["CHD_RX_P", "CHD_RX_N"] ++
  pinsIo .output .diffZero ["HB_TX_P", "HB_TX_N"] ++ pinsIo .input .undrivenDetect ["HB_RX_P", "HB_RX_N"] ++
  (["REFCLK156_P", "REFCLK156_N", "REFCLK100_P", "REFCLK100_N"].map fun n => ⟨n, .input, "VDDH_SD", .terminated⟩) ++
  pinsIo .output .low ["SPI_CLK"] ++ pinsIo .output .high ["SPI_CS_N"] ++ pinsIo .input .pullDown ["SPI_DQS"] ++
  pinsIo .output .low ["SPI_RESET_N"] ++
  pinsIo .bidir .highZPullDown ["SPI_DQ0", "SPI_DQ1", "SPI_DQ2", "SPI_DQ3", "SPI_DQ4", "SPI_DQ5", "SPI_DQ6", "SPI_DQ7"] ++
  pinsIo .openDrainBidir .released ["SMB0_SCL", "SMB0_SDA", "SMB1_SCL", "SMB1_SDA"] ++
  pinsIo .output .low ["SBC_CLK", "SBC_DO"] ++ pinsIo .input .pullUp ["SBC_DI"] ++ pinsIo .output .low ["SBC_LOAD"] ++
  pinsIo .input .pullDown ["PPS_IN"] ++ pinsIo .output .low ["PPS_OUT"] ++ pinsIo .input .pullDown ["SHOT_IN"] ++
  pinsIo .output .low ["SHOT_OUT"] ++
  pinsIo .input .pullDown ["TCK"] ++ pinsIo .input .pullUp ["TMS", "TDI"] ++ pinsIo .output .highZ ["TDO"] ++
  pinsIo .input .pullDown ["TRST_N"] ++
  pinsIo .output .low ["AVS_CLK"] ++ pinsIo .output .high ["AVS_MDATA"] ++ pinsIo .input .pullUp ["AVS_SDATA"] ++
  pinsIo .input .noPull ["PWRGOOD"] ++ pinsIo .input .pullUp ["RESET_N"] ++ pinsIo .openDrain .latched ["THERMTRIP_N"] ++
  pinsIo .openDrain .low ["FAULT_N"] ++ pinsIo .openDrain .released ["FENCE_OUT_N"] ++ pinsIo .input .pullUp ["FENCE_IN_N"] ++
  pinsIo .input .pullDown ["SLOT_B", "BOOT_SEL0", "BOOT_SEL1", "EP_PERST_N"] ++ pinsIo .openDrainBidir .released ["EP_CLKREQ_N"] ++
  (["TDIODE_P", "TDIODE_N", "VSENSE_CORE_P", "VSENSE_CORE_N"].map fun n => ⟨n, .analog, "", .none⟩) ++ [⟨"RSVD", .unconnected, "", .none⟩]

/-- Their names. -/
def otherSignals : List String := otherPins.map (·.name)

/-- Reset state of a net (Tables PIN-6 and PIN-7); none for supplies and positions without a ball. DCK_P rests low and DCK_N high. -/
def Net.resetLevel (n : Net) : ResetLevel :=
  match n with
  | .lane _ tx _ => if tx then .electricalIdle else .unterminated
  | .ddr _ _ x => match x with
    | .dq _ | .cb _ | .dqsP _ | .dqsN _ => .highZ
    | .dca _ | .dpar | .dckP | .drstN => .low
    | .dcsN _ | .dckN => .high
    | .alertN => .pullUp
    | .spdScl | .spdSda => .released
    | .zq => .none
  | .other s => ((otherPins.find? fun p => p.name == s).map (·.level)).getD .none
  | _ => .none

/-- Whether a position of the grid carries no ball (R638). -/
def emptyPosition (r c : Nat) : Bool :=
  r < 1 || 73 < r || c < 1 || 73 < c || min r (74 - r) + min c (74 - c) ≤ 4 || (32 ≤ r && r ≤ 42 && 32 ≤ c && c ≤ 42)

/-- Name of a lane's signal (R641, Table PIN-3). -/
def laneName (l : Nat) (tx p : Bool) : String :=
  let sig := fun (a : String) (i : Nat) => a ++ (if tx then "_TX_" else "_RX_") ++ (if p then "P[" else "N[") ++ toString i ++ "]"
  match laneUse l with
  | .eth n i => sig ("E" ++ toString n) i
  | .drive n i => sig ("D" ++ toString n) i
  | .haul h i => sig ("H" ++ toString h) i
  | .ep i => sig "EP" i

/-- A ball of the SerDes bands (R642, Table PIN-4). -/
def bandNet (r c : Nat) : Net :=
  let k := (c - 5) / 3
  let col := (c - 5) % 3
  let b := if r ≤ 16 then (r - 1) / 4 else (89 - r) / 4
  let row := if r ≤ 16 then (r - 1) % 4 else (89 - r) % 4
  match row, col with
  | 0, 0 => .lane (20 * b + k) true true
  | 0, 1 => .lane (20 * b + k) true false
  | 2, 0 => .lane (20 * b + k) false true
  | 2, 1 => .lane (20 * b + k) false false
  | 3, 0 => .vddaSd
  | 3, 1 => .vddhSd
  | _, _ => .vss

/-- A ball of the DDR5 blocks (R644, Table PIN-5). -/
def ddrNet (r c : Nat) : Net :=
  let n := (r - 17) / 10 + (if c ≤ 20 then 0 else 4)
  let i := (r - 17) % 10
  let j := if c ≤ 20 then c - 1 else 73 - c
  let q := j % 10
  let subB := 10 ≤ j
  if i ≤ 3 then .ddr n subB (if q < 8 then .dq (4 * q + i) else .cb (4 * (q - 8) + i))
  else if i = 4 then .ddr n subB (.dqsP q)
  else if i = 5 then .ddr n subB (.dqsN q)
  else if i = 7 then .ddr n subB (if q < 7 then .dca q else if q = 7 then .dpar else .dcsN (q - 8))
  else if i = 8 then .vddqDdr
  else if i = 9 && subB then
    match q with
    | 0 => .ddr n true .dckP | 1 => .ddr n true .dckN | 2 => .ddr n true .drstN | 3 => .ddr n true .alertN
    | 4 => .ddr n true .spdScl | 5 => .ddr n true .spdSda | 6 => .ddr n true .zq | _ => .vss
  else .vss

/-- The net of ball r.c: the first matching row of Table PIN-2 (R639). -/
def ballNet (r c : Nat) : Net :=
  let right := 66 ≤ c && c ≤ 73
  let band := r ≤ 16 || 58 ≤ r
  let side := c ≤ 20 || 54 ≤ c
  if emptyPosition r c then .noBall
  else if 5 ≤ r && r ≤ 12 && right then .other (otherSignals.getD (8 * (r - 5) + (c - 66)) "")
  else if r = 4 && right then .vddAon
  else if r = 13 && right then .vddIo
  else if 58 ≤ r && r ≤ 59 && right then .vddMram
  else if band && (c ≤ 4 || 65 ≤ c) then .vss
  else if band then bandNet r c
  else if r ≤ 56 && side then ddrNet r c
  else if r = 57 && side then .vss
  else if r ≤ 18 || 56 ≤ r then (if c % 2 = 1 then .vddSram else .vss)
  else if (r + c) % 2 = 1 then .vddCore else .vss

/-! ### Outputs -/

/-- FAULT_N is low (R649): until step 3, while a start is stopped, in a hold of R603, and from a controller fault on. -/
def State.faultLow (s : State) : Bool := !s.stepDone 3 || s.boot.stopped || s.boot.held == some 4 || s.faultDeclared

/-- FENCE_OUT_N is low (R553); released in reset (R646). -/
def State.fenceOutLow (s : State) : Bool := s.isSet F.HAL_PAIR_STAT_FENCING && s.boot.held.isNone

/-- THERMTRIP_N is low (R650). -/
def State.thermtripLow (s : State) : Bool := s.tru.trip

/-- SPI_RESET_N is released, and TRU drives the SPI pins: from step 1 of Table TRU-2 (R646). -/
def State.spiDriven (s : State) : Bool := s.stepDone 1 && s.boot.held.isNone

/-- CHN drives the chain and heartbeat transmitters: from step 3 (R529, R646), until a chosen retirement (R577) or reset. -/
def State.chainDriven (s : State) : Bool := s.stepDone 3 && s.boot.held.isNone

/-- MEM drives the DDR5 pins from step 4 (R646). -/
def State.ddrDriven (s : State) : Bool := s.stepDone 4 && s.boot.held.isNone

/-- Any other bench drives its pins once it has left SELFTEST (R646). -/
def State.pinsDriven (s : State) (b : Nat) : Bool :=
  s.boot.held.isNone && (s.benchAt b).state != .off && (s.benchAt b).state != .selftest

/-! ### The part -/

/-- The ordering code (R669, Table ELE-12). -/
def State.orderingCode (s : State) : String := if s.part = .zs then "ZT4880-S-FB-C-A-Y" else "ZT4880-L-FB-C-A-Y"

/-- A number as ASCII text of 16 uppercase hexadecimal digits. -/
def hexText (n : Nat) : String := String.ofList ((hex64 n).map Char.ofNat)

/-- What the lid carries (R671, Table ELE-13), for a date code and an assembly lot, which are no state of the part. -/
def State.lidMarking (s : State) (date lot : String) : List String :=
  ["FORNOR ZETELOR", s.orderingCode, date ++ " " ++ lot, hexText s.fuses.dsn]

/-- What its Data Matrix holds: ordering code, lot and DSN. -/
def State.lidMatrix (s : State) (lot : String) : List String := [s.orderingCode, lot, hexText s.fuses.dsn]

end Sys2Proof.Machine
end

