-- ==== Sys2Proof/Machine/Records.lean ====
section
/-!
DEFINITION. Machine/Records.lean: the bytes of what the controller sends to other units and keeps in the boot flash: chain frames (Tables
PAIR-1 and PAIR-2), haul frames (Table PAIR-3), mirror items (R546), heartbeats (Table PAIR-6), the descriptor and the places of the flash
(Tables BOOT-3 and BOOT-4), signature blocks (R504), the identity section and the setting list (Tables BOOT-10 and BOOT-11), the key
envelope (R596) and vendor messages (Table MGT-2). A record is a list of bytes in the order they lie or travel.
-/

namespace Sys2Proof.Machine

/-! ### Chain frames (R530, R540, R623) -/

/-- A chain frame (Table PAIR-1): TYPE, SRC, DST, LEN, the payload, and the CRC-32C over them, big-endian. -/
def chainFrame (typ src dst : Nat) (payload : List Nat) : List Nat :=
  let v := [typ, src, dst, payload.length] ++ payload
  v ++ beBytes (crc32c v) 4

/-- Whether the bytes of a chain frame hold their CRC and a defined TYPE (R530). -/
def chainFrameHolds (v : List Nat) : Bool :=
  let n := v.length - 4
  beNat (v.drop n) == crc32c (v.take n) && [1, 2, 3, 4, 5, 6, 0x10].contains (v.headD 0)

/-- SRC of a frame that this unit originates: 0xFF while it is unaddressed. -/
def State.chainSrc (s : State) : Nat := if s.addressed then s.addr else 0xFF

/-- The frame of what this unit sends on the chain (Table PAIR-2), none for what is no chain frame. What goes to the neighbour alone has DST
0xFE, RESET on its way up the head unit's address 0 (DEDUCED, log entry 158). -/
def State.chainBytes (s : State) (o : Out) : Option (List Nat) :=
  match o with
  | .chainAddr a => some (chainFrame 1 s.chainSrc 0xFE [a])
  | .chainAddrAck m u => some (chainFrame 2 s.chainSrc 0xFE (beBytes m 8 ++ [u]))
  | .chainTreq e => some (chainFrame 3 s.chainSrc 0xFE (beBytes e 4))
  | .chainTresp e t2 t3 => some (chainFrame 4 s.chainSrc 0xFE (beBytes e 4 ++ beBytes t2 8 ++ beBytes t3 8))
  | .chainShot t issuer | .chainShotRelay t issuer _ => some (chainFrame 5 issuer 0xFF (beBytes t 8 ++ [issuer]))
  | .chainReset src up => some (chainFrame 6 src (if up then 0 else 0xFF) [])
  | .chainMgmt dst kind tag src command body _ => some (chainFrame 0x10 src dst ([kind, tag, 0, 0, command] ++ body))
  | _ => none

/-! ### Haul frames, mirror items and heartbeats (R542, R546, R547) -/

/-- The header of a haul frame (Table PAIR-3): VER 1, the channel, ACKV and NAK, LEN, SEQ, ACK_SEQ, IV. -/
def haulHeader (chan : Nat) (ackv nak : Bool) (len seq ackSeq iv : Nat) : List Nat :=
  [16 + chan % 16, bit ackv + 2 * bit nak] ++ beBytes len 2 ++ beBytes seq 8 ++ beBytes ackSeq 8 ++ toBytes iv 12

/-- A haul frame as it leaves a half (R542): the header is the AAD, the payload is sealed under the half's key, the tag follows. -/
def haulFrame (key : Nat) (header payload : List Nat) : List Nat :=
  let iv := fromBytes (header.drop 20)
  let ct := gcmText key iv payload.length (fromBytes payload)
  header ++ toBytes ct payload.length ++ toBytes (gcmTag key iv 32 (fromBytes header) payload.length ct) 16

/-- The payload of a haul frame that arrives (R542, R543), none when its tag fails. -/
def haulOpen (key : Nat) (frame : List Nat) : Option (List Nat) :=
  let header := frame.take 32
  let len := frame.length - 48
  let iv := fromBytes (header.drop 20)
  let ct := fromBytes ((frame.drop 32).take len)
  if gcmTag key iv 32 (fromBytes header) len ct = fromBytes (frame.drop (32 + len)) then some (toBytes (gcmText key iv len ct) len) else none

/-- KIND of a mirror item (Table PAIR-5). -/
def MirrorBody.kind : MirrorBody → Nat
  | .context .. | .contextGone _ => 1
  | .slot .. | .slotGone _ => 2
  | .admission .. => 3
  | .commit _ => 4
  | .record .. | .store .. => 5
  | .lines .. => 6
  | .window _ => 7
  | .ns .. | .nsGone .. | .ident _ | .identGone _ | .ctrlGone _ | .cache _ => 8
  | .member .. => 9

/-- The 16-byte header of a mirror item: MSEQ, KIND, zeros, LEN (R546). -/
def mirrorHeader (mseq kind len : Nat) : List Nat := beBytes mseq 8 ++ [kind, 0, 0, 0] ++ beBytes len 4

/-- The KIND 0 item: its body is MACK (R546). -/
def mackItem (mseq mack : Nat) : List Nat := mirrorHeader mseq 0 8 ++ beBytes mack 8

/-- The 16 bytes of a heartbeat (Table PAIR-6): TYPE 1 BEAT, 2 GOODBYE. -/
def beatBytes (typ role flags bseq gen : Nat) : List Nat := [typ, role, flags, 0] ++ beBytes bseq 4 ++ beBytes gen 8

/-- A heartbeat on the heartbeat pair, followed by its CRC-32C (R547). -/
def beatFrame (v : List Nat) : List Nat := v ++ beBytes (crc32c v) 4

/-! ### The boot flash (R499 to R504, R510, R511) -/

/-- The usable size in MiB of a flash of some density: the largest of 64, 128 and 256 that it holds; 0 below 64, which holds no bank (R499). -/
def usableSize (density : Nat) : Nat := if 256 ≤ density then 256 else if 128 ≤ density then 128 else if 64 ≤ density then 64 else 0

/-- Flash offset of bank GOLDEN, A or B in a flash of a usable size (Table BOOT-3). -/
def bankOffset (size bank : Nat) : Nat := (bank + 1) * (size * 2 ^ 20 / 4)

/-- Flash offset of a descriptor copy (Table BOOT-3). -/
def descriptorOffset (copy : Nat) : Nat := 0x10000 * copy

/-- A descriptor copy of 4,096 bytes (Table BOOT-4). -/
def descriptorBytes (count preferred : Nat) : List Nat :=
  let v := "AMDPDESC".toList.map Char.toNat ++ toBytes count 4 ++ [preferred, 0, 0, 0]
  v ++ toBytes (crc32c v) 4 ++ List.replicate 4076 0xFF

/-- A descriptor copy read: COUNT and PREFERRED of a valid one (R500). -/
def parseDescriptor (v : List Nat) : Option (Nat × Nat) :=
  if v.take 8 = "AMDPDESC".toList.map Char.toNat && v.getD 12 3 < 3 && leNat ((v.drop 16).take 4) = crc32c (v.take 16) then
    some (leNat ((v.drop 8).take 4), v.getD 12 0)
  else none

/-- A signature block of 1,536 bytes (R504): bytes 0 to 15 little-endian, MODULUS and SIGNATURE big-endian. -/
def sigBlockBytes (kind index exponent modulus signature : Nat) : List Nat :=
  toBytes kind 4 ++ toBytes index 4 ++ toBytes exponent 4 ++ List.replicate 4 0 ++ beBytes modulus 512 ++ beBytes signature 512 ++ List.replicate 496 0

/-- The identity section of 4,096 bytes (Table BOOT-10). -/
def BankImg.identityBytes (b : BankImg) : List Nat :=
  toBytes b.ssvid 2 ++ toBytes b.ssid 2 ++ toBytes b.sn 20 ++ toBytes b.subnqn 256 ++ List.replicate 3816 0

/-- A setting entry of 16 bytes (Table BOOT-11). -/
def SetEntry.bytes (e : SetEntry) : List Nat :=
  toBytes (e.addr % 2 ^ 26 + 2 ^ 30 * (e.unit % 4)) 4 ++ toBytes e.mask 4 ++ toBytes e.value 4 ++ List.replicate 4 0

/-- A setting entry read from its 16 bytes. -/
def SetEntry.parse (v : List Nat) : SetEntry :=
  let w := leNat (v.take 4)
  { addr := w % 2 ^ 26, unit := w / 2 ^ 30, mask := leNat ((v.drop 4).take 4), value := leNat ((v.drop 8).take 4) }

/-- The setting list: a header of 16 bytes with COUNT, then the entries (R511). -/
def BankImg.settingBytes (b : BankImg) : List Nat :=
  toBytes b.settings.length 4 ++ List.replicate 12 0 ++ b.settings.flatMap fun e => e.bytes

/-! ### The key envelope and vendor messages (R596, R620, R625) -/

/-- The key envelope of 128 bytes: KSR wrapped under each controller's DSK, and the two DSNs (R596). -/
def envelopeBytes (wrapA wrapB dsnA dsnB : Nat) : List Nat :=
  toBytes wrapA 40 ++ toBytes wrapB 40 ++ toBytes dsnA 8 ++ toBytes dsnB 8 ++ List.replicate 32 0

/-- The header of a vendor message (Table MGT-2). -/
def vendorHeader (command tag unit cc detail : Nat) : List Nat := [0x7E, 0x1F, 0x6B, command, tag, unit, cc, detail]

/-- The bytes of a vendor message that this unit sends: a response, or an EV_NOTIFY with its LOST, COUNT and records (R620, R625). UNIT
names this unit; TAG of an EV_NOTIFY is 0 (DESIGN CHOICE, log entry 159). -/
def State.vendorBytes (s : State) (o : Out) : Option (List Nat) :=
  match o with
  | .vendor _ _ tag command cc detail body => some (vendorHeader command tag s.chainSrc cc detail ++ body)
  | .evNotify _ _ lost recs =>
    some (vendorHeader 0x11 0 s.chainSrc 0 0 ++ beBytes lost 2 ++ [recs.length, 0] ++ recs.flatMap fun r => toBytes r.bytes 16)
  | _ => none

end Sys2Proof.Machine
end

