-- ==== Sys2Proof/Machine/TallyBytes.lean ====
section
/-!
DEFINITION. Machine/TallyBytes.lean: the bytes of the tally store (R292, R293, R348, Tables TLY-2 to TLY-5 and TLY-12), little-endian.
-/

namespace Sys2Proof.Machine

/-- TYPE of a record (Table TLY-2). -/
def RecBody.code : RecBody → Nat
  | .mapDelta .. => 1 | .fixIntent .. => 2 | .fixDone .. => 3 | .seal _ => 4 | .checkpoint _ => 5

/-- A MAP_DELTA entry (Table TLY-4); OLD is 0 in a run of several blocks. -/
def mapRunBytes (g : Nat) (r : MapRun) : Nat :=
  putAt 0 4 r.nsid + putAt 4 6 r.lba + putAt 12 4 r.run + putAt 16 8 (if 1 < r.run then 0 else entryBits g r.old) + putAt 24 8 (entryBits g r.new)

/-- A SEAL item (Table TLY-5), its stripe-table entry from the table. -/
def State.sealItemBytes (s : State) (g : Nat) (i : SealItem) : Nat :=
  let entry := fun (n : Nat) => ((s.stripe? g n).map fun x => x.entryBits).getD 0
  match i with
  | .live n q => putAt 0 1 1 + putAt 2 5 n + putAt 8 8 q + putAt 16 16 (entry n)
  | .free n => putAt 0 1 2 + putAt 2 5 n
  | .lost n => putAt 0 1 3 + putAt 2 5 n + putAt 16 16 (entry n)
  | .relocAdd n sl ns nsl => putAt 0 1 4 + putAt 2 5 n + putAt 16 16 (Reloc.bits ⟨sl, ns, nsl, true⟩ g n)
  | .relocDel n sl => putAt 0 1 5 + putAt 2 5 n + putAt 16 16 (((s.stripe? g n).bind fun x => x.relocs.find? fun r => r.slab == sl).elim
      (Reloc.bits ⟨sl, 0, 0, false⟩ g n) fun r => Reloc.bits r g n)

/-- Pieces of a given length one after another. -/
def joinAt (len : Nat) (l : List Nat) : Nat := l.zipIdx.foldl (fun a p => a + putAt (len * p.2) len p.1) 0

/-- The image of one block: its stored bytes, then its metadata (Table TLY-3). -/
def blockImage (p : Nat × Nat) : Nat := putAt 0 4096 p.1 + putAt 4096 64 p.2

/-- The blocks a FIX_INTENT carries: its data blocks, and the check blocks of stripes with a member out of service (R289). -/
def State.intentBlocks (s : State) (u : FixUpd) : List BRef × List BRef :=
  match s.ns? u.nsid with
  | none => ([], [])
  | some n =>
    let t := s.fixTargets n u.slba u.blocks.length
    let deg := fun (sr : SRef) => let (k, m, _) := s.shape sr; (List.range (k + m)).any fun i => !s.writable { stripe := sr, slab := i, blk := 0 }
    (t, (stripesIn t).flatMap fun sr =>
      if deg sr then (s.fixWrites sr (t.filter fun b => b.stripe == sr)).filter fun b => (s.shape sr).1 ≤ b.slab else [])

/-- Fixed stripe number j of a block (R286). -/
def State.fixNumber (s : State) (b : BRef) : Nat :=
  match b.stripe with
  | .fix g row t => ((s.fixStripeOf g row t).map (·.2)).getD 0
  | .log .. => 0

/-- The body of a record from byte 32 on (Table TLY-3). -/
def State.recBody (s : State) (r : Rec) : Nat :=
  match r.body with
  | .mapDelta _ kind runs _ => putAt 0 4 runs.length + putAt 4 1 kind + joinAt 32 (runs.map (mapRunBytes r.group)) * 2 ^ 256
  | .fixIntent nsid gen slba nlb chk zero nchk region absent =>
    let head := putAt 0 4 nsid + putAt 4 2 gen + putAt 6 1 (bit chk + 2 * bit zero) + putAt 8 8 slba + putAt 16 2 nlb + putAt 18 2 nchk + putAt 20 3 region +
      putAt 24 6 ((absent.map fun n => 2 ^ n).sum)
    match s.fixupds.find? fun u => u.seq == r.seq with
    | none => head
    | some u =>
      let t : State := { s with fixupds := mapIf (fun x => x.seq == r.seq) (fun x => { x with issued := true }) s.fixupds }
      let (data, chks) := s.intentBlocks u
      let images := if zero then 0 else joinAt 4160 (data.map fun b => blockImage (t.writeImage b))
      let at1 := 32 + if zero then 0 else 4160 * nlb
      let desc := joinAt 8 (chks.map fun b => putAt 0 4 (s.fixNumber b) + putAt 4 1 b.slab + putAt 5 1 b.blk)
      let at2 := at1 + 64 * ceilDiv (8 * nchk) 64
      head + images * 2 ^ 256 + desc * 2 ^ (8 * at1) + joinAt 4160 (chks.map fun b => blockImage (t.writeImage b)) * 2 ^ (8 * at2)
  | .fixDone i missed => putAt 0 8 i + putAt 8 1 (bit missed)
  | .seal items => putAt 0 4 items.length + joinAt 32 (items.map (s.sealItemBytes r.group)) * 2 ^ 256
  | .checkpoint u => putAt 0 8 u

/-- The header of a record with its CRC field as given (Table TLY-2). -/
def Rec.header (r : Rec) (crc : Nat) : Nat :=
  putAt 0 1 r.body.code + putAt 1 1 (r.group % 8 + 8 * bit r.moved) + putAt 2 2 r.len + putAt 4 4 crc + putAt 8 8 r.seq + putAt 16 8 r.wseq + putAt 24 8 r.time

/-- A record in plaintext: its CRC-32C is over the whole record with the CRC taken as 0 (R293). -/
def State.recBytes (s : State) (r : Rec) : Nat :=
  let body := s.recBody r * 2 ^ 256
  r.header (crc32c (toBytes (r.header 0 + body) (64 * r.len))) + body

/-- Whether the bytes of a record hold their CRC (R293, R300). -/
def recordHolds (v len : Nat) : Bool := bytesAt v 4 4 == crc32c (toBytes (spliceAt v 4 4 0) (64 * len))

/-- The tally key. -/
def State.tallyKey (s : State) : Nat := ((s.keyTab.find? fun x => x.slot == 16384).map (·.key)).getD 0

/-- A record as the MRAM holds it: the header in plaintext, the body under the tally key (R292, R348). -/
def State.ringBytes (s : State) (r : Rec) : Nat :=
  let v := s.recBytes r
  let n := 64 * r.len - 32
  bytesAt v 0 32 + ctrBody s.tallyKey r.wseq n (bytesAt v 32 n) * 2 ^ 256

/-- Byte of the store where the control block of a write count lies: the two are written alternately (R292). -/
def controlBlockAt (wcount : Nat) : Nat := 2048 * (wcount % 2)

/-- The control block (Table TLY-12). The wrap of the tally key under KSR is a function of the key: KSR's value is not held (log entry 143). -/
def State.controlBlock (s : State) : Nat :=
  let tail := s.ringTail
  let v := fromBytes [0x5A, 0x54, 0x54, 0x41, 0x4C, 0x4C, 0x59, 0] + putAt 8 8 s.tally.wcount + putAt 16 8 tail +
    putAt 24 8 (((s.ring.find? fun r => !r.released).map (·.wseq)).getD (s.tally.wseq + 1)) + putAt 32 8 (s.rd64 F.HAL_PAIR_GEN_LO F.HAL_PAIR_GEN_HI) +
    putAt 40 8 s.tally.ringGen + putAt 48 40 (Config.keyed .cipherText [596, s.tallyKey])
  v + putAt 2044 4 (crc32c (toBytes v 2044))

/-- Whether a control block is valid: MAGIC and CRC-32C (R292). -/
def controlValid (v : Nat) : Bool :=
  bytesAt v 0 8 == fromBytes [0x5A, 0x54, 0x54, 0x41, 0x4C, 0x4C, 0x59, 0] && bytesAt v 2044 4 == crc32c (toBytes v 2044)

/-- The current one of two control blocks: the valid one with the higher write count (R292). -/
def currentControl (a b : Nat) : Option Nat :=
  match controlValid a, controlValid b with
  | true, true => some (if bytesAt a 8 8 < bytesAt b 8 8 then b else a)
  | true, false => some a
  | false, true => some b
  | false, false => none

/-- The records a reader finds in a ring from an offset and write sequence on (R300): it follows WSEQ while it rises by 1 and the CRC holds,
looks for the next record where the last one ended and else at offset 4,096, and stops when neither holds it. `at_` gives the plaintext of a
record that lies at an offset. -/
def readRing (at_ : Nat → Nat) : Nat → Nat → Nat → List Nat
  | 0, _, _ => []
  | fuel + 1, ofs, wseq =>
    let ok := fun o => let v := at_ o; let len := bytesAt v 2 2
      1 ≤ len && o + 64 * len ≤ 536870912 && bytesAt v 16 8 == wseq && recordHolds v len
    let o := if ok ofs then some ofs else if ok 4096 then some 4096 else none
    match o with
    | some o => at_ o :: readRing at_ fuel (o + 64 * bytesAt (at_ o) 2 2) (wseq + 1)
    | none => []

/-- The union of two lists of records by SEQ (R300). -/
def ringUnion (a b : List Nat) : List Nat := a ++ b.filter fun v => !(a.any fun x => bytesAt x 8 8 == bytesAt v 8 8)

end Sys2Proof.Machine
end

