-- ==== Sys2Proof/WellFormed.lean ====
section
/-!
DEFINITION. WellFormed.lean: the checks of a command's operands against what the spec gives the block: bench IDs, classes, slots,
ports, paths, functions and the widths of packet fields. The meanings are total: they need none of these.
-/

namespace Sys2Proof

/-- A bench ID (Table ARC-1). -/
def benchOk (b : Nat) : Bool := b < 64
/-- A replicated class (Table ARC-11). -/
def classOk (c : Nat) : Bool := c < 6
/-- A traffic class of a MAC, or 8 for the whole MAC (R437). -/
def macClassOk (c : Nat) : Bool := c ≤ 8
/-- A layout group (R223). -/
def groupOk (g : Nat) : Bool := g < 8
/-- A member slot (R306). -/
def slotOk (n : Nat) : Bool := n < 48
/-- A MAC (R428). -/
def macOk (m : Nat) : Bool := m < 32
/-- A role of a class (Table ARC-1). -/
def roleOk (r : Nat) : Bool := r < 8
/-- A half of the haul link (R541). -/
def halfOk (h : Nat) : Bool := h < 2
/-- A memory channel (R367). -/
def channelOk (c : Nat) : Bool := c < 8
/-- A path with MCTP (Table MGT-4). -/
def mctpPathOk (p : Nat) : Bool := p < 3
/-- An access path, 5 the control cores (R609). -/
def pathOk (p : Nat) : Bool := p < 6
/-- A path of a connection (R89). -/
def nrtPathOk (p : Nat) : Bool := p < 8
/-- An Ethernet port (R428). -/
def ethPortOk (p : Nat) : Bool := p < 8
/-- An SMBus port (R619). -/
def smbPortOk (p : Nat) : Bool := p < 2
/-- A function of the endpoint (R473). -/
def functionOk (f : Nat) : Bool := f < 64
/-- A word of the register space (R608, R609). -/
def wordAddrOk (a : Nat) : Bool := a % 4 == 0 && a < 0x4000000
/-- A byte. -/
def byteOk (n : Nat) : Bool := n < 256
/-- A cause of a reset: PWRGOOD, RESET_N, FENCE_IN_N, supplies (R496). -/
def resetOk (k : Nat) : Bool := k ≤ 3
/-- A cause of Table TRU-8. -/
def tamperOk (c : Nat) : Bool := 1 ≤ c && c ≤ 5
/-- The straps BOOT_SEL1 and BOOT_SEL0 (R647). -/
def bootSelOk (b : Nat) : Bool := b < 4

/-- A lane is one of Table ARC-2. -/
def Lane.wf (l : Lane) : Bool := Machine.laneListed l
/-- A flit's role sequence number has 16 bits, its payload 64 bytes (01, Handshake channels). -/
def Flit.wf (f : Flit) : Bool := f.seq < 65536 && f.payload < 2 ^ 512
/-- An object of Table ARC-5. -/
def Repair.wf (o : Repair) : Bool := 1 ≤ o.row && o.row ≤ 11
/-- Fields of a submission entry within their widths, and data within its length (R135 to R139). -/
def NvmeCmd.wf (v : NvmeCmd) : Bool :=
  v.opc < 256 && v.fuse < 4 && v.psdt < 4 && v.cid < 65536 && v.qid < 65536 &&
  [v.nsid, v.cdw2, v.cdw3, v.cdw10, v.cdw11, v.cdw12, v.cdw13, v.cdw14, v.cdw15].all (fun x => x < 2 ^ 32) && v.data < 2 ^ (8 * v.dataLen)
/-- The fields of a packet within their widths, its payload within its length (Table XPT-2). -/
def NrtPkt.wf (p : NrtPkt) : Bool :=
  [p.ver, p.typ, p.path, p.echoPath].all (fun x => x < 16) && p.kind < 256 && p.dcid < 2 ^ 24 && p.rsvd < 2 ^ 15 && p.echoCe < 4096 &&
  p.payLen < 65536 && [p.psn, p.msgId, p.msgOfs, p.ackPsn, p.msgLimit, p.crc].all (fun x => x < 2 ^ 32) && p.payload < 2 ^ (8 * p.payLen)
/-- A compatible-mode packet: its PSN has 24 bits, its payload its length (R92). -/
def RocePkt.wf (p : RocePkt) : Bool := p.psn < 2 ^ 24 && p.payload < 2 ^ (8 * p.payLen)
/-- A request descriptor comes from a bench (R341). -/
def CipReq.wf (r : CipReq) : Bool := benchOk r.src
/-- A tag of a member command names a slot (R405). -/
def MTag.wf (t : MTag) : Bool := slotOk t.slot
/-- The first bytes of a frame are at most 128 (Table SWC-5). -/
def EthFrame.wf (f : EthFrame) : Bool := f.head < 2 ^ 1024
/-- The bytes of a vendor request (Table MGT-2). -/
def VendorReq.wf (r : VendorReq) : Bool := byteOk r.eid && byteOk r.tag && byteOk r.unit && r.body.all byteOk
/-- SLOT_B of a pairing message is one bit (R598). -/
def PairMsg.wf (m : PairMsg) : Bool := m.slotB < 2
/-- A member record names a slot and a group (Table SVY-7). -/
def DriveRec.wf (r : DriveRec) : Bool := slotOk r.slot && groupOk r.group

/-- Whether the operands of a command are within what the spec gives. -/
def Instr.wf (i : Instr) : Bool :=
  match i with
  | .flitReceive l _ f => l.wf && f.wf
  | .flitNak l _ _ _ => l.wf
  | .detectionRepairDone bench o _ => benchOk bench && o.wf
  | .livenessTimeout bench _ => benchOk bench
  | .selftestComplete bench _ => benchOk bench
  | .faultedRetestTimer bench => benchOk bench
  | .rotationPeriodExpiry cls => classOk cls
  | .ctlRotNow _ => true
  | .ctlRotCfgWrite _ => true
  | .rotationDrained cls => classOk cls
  | .timeMarker _ => true
  | .servoUpdate _ _ => true
  | .servoUpdateTimeout => true
  | .holdoverExpiry => true
  | .timSrcCfgWrite _ => true
  | .timSetStep _ => true
  | .ppsInEdge => true
  | .ppsInMissing => true
  | .ppsOutSecond => true
  | .ppsOutWidthEnd => true
  | .shotInEdge => true
  | .shotFire => true
  | .shotSched => true
  | .shotChainIssue => true
  | .shotCancel => true
  | .shotRelease => true
  | .shotTimeReached => true
  | .eventRecordDelivery bench => benchOk bench
  | .eventLogEntry => true
  | .evlogCopy => true
  | .nrtDataPacket p => p.wf
  | .nrtAck p => p.wf
  | .nrtConnect p => p.wf
  | .nrtClose p => p.wf
  | .nrtClosed p => p.wf
  | .nrtProbe p => p.wf
  | .reassemblyTimeout _ _ => true
  | .ackDelayExpiry _ => true
  | .rtoExpiry _ => true
  | .pathProbeTimer _ path => nrtPathOk path
  | .creditProbeTimer _ => true
  | .halfOpenTimeout _ => true
  | .errorHoldExpiry _ => true
  | .closeRetryExpiry _ => true
  | .syncDeadline _ => true
  | .contextFetchDone _ => true
  | .roceSend p => p.wf
  | .roceRdmaWrite p => p.wf
  | .roceRdmaReadRequest p => p.wf
  | .roceReadResponse p => p.wf
  | .roceAcknowledge _ _ _ _ => true
  | .roceAtomicAcknowledge _ _ _ _ => true
  | .roceCompareSwap p => p.wf
  | .roceFetchAdd p => p.wf
  | .roceCnp _ => true
  | .roceAckTimeout _ => true
  | .roceRnrTimer _ => true
  | .roceRateTimer _ => true
  | .cmReq _ => true
  | .cmRtu _ => true
  | .cmDreq _ => true
  | .cmDrep _ => true
  | .cmRej _ => true
  | .windowCommitDone _ => true
  | .windowWritebackTimer _ _ => true
  | .setFeaturesWindowPublish v => v.wf
  | .setFeaturesWindowRevoke v => v.wf
  | .getFeaturesWindow v => v.wf
  | .windowRevokeComplete _ => true
  | .nvmeFlush v => v.wf
  | .nvmeWrite v => v.wf
  | .nvmeRead v => v.wf
  | .nvmeCompare v => v.wf
  | .nvmeWriteZeroes v => v.wf
  | .nvmeDatasetManagement v => v.wf
  | .nvmeVerify v => v.wf
  | .unsupportedOpcode v => v.wf
  | .reservationRegister v => v.wf
  | .reservationReport v => v.wf
  | .reservationAcquire v => v.wf
  | .reservationRelease v => v.wf
  | .commandAdmission role => roleOk role
  | .commandDispatch _ _ => true
  | .commandCompletion _ => true
  | .getLogPage v => v.wf
  | .logPageLostRanges v => v.wf
  | .logPageMetering v => v.wf
  | .logPageLayoutHealth v => v.wf
  | .logPageEventExcerpt v => v.wf
  | .identify v => v.wf
  | .abort v => v.wf
  | .setFeatures v => v.wf
  | .getFeatures v => v.wf
  | .setFeaturesQosProfile v => v.wf
  | .getFeaturesQosProfile v => v.wf
  | .setFeaturesQueueOrdering v => v.wf
  | .getFeaturesQueueOrdering v => v.wf
  | .asyncEventRequest v => v.wf
  | .namespaceCreate v => v.wf
  | .namespaceDelete v => v.wf
  | .namespaceSweep _ _ => true
  | .namespaceAttach v => v.wf
  | .namespaceDetach v => v.wf
  | .detachComplete _ => true
  | .formatNvm v => v.wf
  | .firmwareImageDownload v => v.wf
  | .firmwareCommitWrite v _ => v.wf
  | .firmwareCommitWritePrefer v _ => v.wf
  | .firmwareCommitPrefer v _ => v.wf
  | .firmwareCommitActivate v _ => v.wf
  | .keepAlive v => v.wf
  | .createIoSq v => v.wf
  | .createIoCq v => v.wf
  | .deleteIoSq v => v.wf
  | .deleteIoCq v => v.wf
  | .fabricsConnect _ v => v.wf
  | .propertyGet v => v.wf
  | .propertySet v => v.wf
  | .propertySetCcEnClear v => v.wf
  | .propertySetCcShn v => v.wf
  | .propertySetNssr v => v.wf
  | .authenticationSend v _ => v.wf
  | .authenticationReceive v => v.wf
  | .keepAliveExpiry _ => true
  | .shutdownComplete _ => true
  | .memberWaitNotice _ => true
  | .authLockoutExpiry _ => true
  | .grantPeriod => true
  | .cmdQosCfgWrite _ => true
  | .cmdQosGcapWrite _ _ => true
  | .meterSaveTimer => true
  | .sealTimeExpiry group _ => groupOk group
  | .stripeSeal group _ _ _ => groupOk group
  | .sealWaitExpiry group _ => groupOk group
  | .stripeRelease group _ => groupOk group
  | .spoilReclaimVictim group _ => groupOk group
  | .tallyRecordWritten => true
  | .tallyRecordDurable _ => true
  | .tallyControlBlockTimer => true
  | .surveyObjectLoaded group _ _ _ _ _ => groupOk group
  | .surveyWritebackDone group => groupOk group
  | .deltaLogBlockAcked group => groupOk group
  | .memberRecordTimer group => groupOk group
  | .surveyRebuildScan group _ _ => groupOk group
  | .objectRehome group => groupOk group
  | .memberCommandAge slot => slotOk slot
  | .memberFailTimer slot => slotOk slot
  | .memberReturnExpiry slot => slotOk slot
  | .driveOffer slot r => slotOk slot && r.wf
  | .layMcmdDrain slot => slotOk slot
  | .layMcmdFail slot => slotOk slot
  | .layMcmdJoin slot => slotOk slot
  | .layMcmdForget slot => slotOk slot
  | .reconciliationDone slot => slotOk slot
  | .joinRecordWritten slot => slotOk slot
  | .rebuildIndexSweep group => groupOk group
  | .rebuildStripe group _ => groupOk group
  | .tailCutDeadline _ => true
  | .regionResync slot _ => slotOk slot
  | .patrolVisit group _ => groupOk group
  | .reshapeStart _ => true
  | .reshapeSwitchover => true
  | .cipXtsEnc r => r.wf
  | .cipXtsDec r => r.wf
  | .cipXtsZero r => r.wf
  | .cipGcmSeal r => r.wf
  | .cipGcmOpen r => r.wf
  | .cipCtr r => r.wf
  | .cipKeyZero r => r.wf
  | .cipResult role _ _ => roleOk role
  | .keyLoadDone role _ _ => roleOk role
  | .memRegionReady _ => true
  | .dimmTempChange channel _ => channelOk channel
  | .lineFillDone _ _ _ => true
  | .lineWritebackDone _ _ => true
  | .cacheSetEn => true
  | .cacheClrEn => true
  | .cacheDisableComplete => true
  | .mntClean _ => true
  | .mntInvalidate _ => true
  | .mntComplete => true
  | .memberCompletion tag _ _ _ _ => tag.wf
  | .memberDmaRequest slot _ addr _ => slotOk slot && wordAddrOk addr
  | .memberErrorMessage slot _ => slotOk slot
  | .driveLinkDown slot => slotOk slot
  | .drvNonpostedTimeout slot => slotOk slot
  | .containmentRecovery slot => slotOk slot
  | .driveEnumerated slot _ => slotOk slot
  | .healthPoll slot => slotOk slot
  | .trimGatherExpiry slot => slotOk slot
  | .sbcFrame _ => true
  | .drvPowerOn slot => slotOk slot
  | .drvPowerOff slot => slotOk slot
  | .driveStageTimer => true
  | .perstReleaseTimer slot => slotOk slot
  | .fenceWriteWindowEnd => true
  | .macLinkUp mac _ _ => macOk mac
  | .macLinkDown mac _ => macOk mac
  | .ethFrameReceive mac f => macOk mac && f.wf
  | .ethFrameTransmit mac cls _ => macOk mac && macClassOk cls
  | .pauseFrame mac _ => macOk mac
  | .pfcFrame mac _ => macOk mac
  | .pauseTimeExpiry mac cls => macOk mac && macClassOk cls
  | .pauseRepeatTimer mac cls => macOk mac && macClassOk cls
  | .pauseSendCap mac cls => macOk mac && macClassOk cls
  | .pfcWatchdogDetect mac cls _ => macOk mac && macClassOk cls
  | .pfcWatchdogRestore mac cls => macOk mac && macClassOk cls
  | .lpiIdleExpiry mac => macOk mac
  | .lldpEeeTlv mac _ => macOk mac
  | .ptpMessage _ => true
  | .prtStatRead path port _ _ _ => pathOk path && ethPortOk port
  | .haulForwardFrame fromMac cls _ f => macOk fromMac && macClassOk cls && f.wf
  | .epLinkUp _ _ => true
  | .epLinkReset _ => true
  | .epFlr f => functionOk f
  | .epBmeWrite f _ => functionOk f
  | .epPowerState f _ => functionOk f
  | .epVfEnable _ => true
  | .epDoorbell f _ _ _ => functionOk f
  | .epCcEnable f _ _ => functionOk f
  | .epSqeFetched _ _ => true
  | .epReadCompletion _ _ _ => true
  | .epCompletionTimeout _ _ => true
  | .epQuarantineExpiry _ _ => true
  | .epL1Idle _ => true
  | .epLtrIdle => true
  | .epMsixUnmask f _ => functionOk f
  | .controllerStart bootSel _ _ => bootSelOk bootSel
  | .resetAssert kind => resetOk kind
  | .bootStepEnd _ => true
  | .memberWaitExpiry slot => slotOk slot
  | .timeWaitExpiry => true
  | .serviceStart => true
  | .standbyServiceStart => true
  | .chainAddr _ _ => true
  | .chainAddrAck _ _ _ => true
  | .addrRepeatTimer => true
  | .headWaitExpiry => true
  | .treqTimer => true
  | .chainTreq _ _ => true
  | .chainTresp _ _ _ _ => true
  | .chainShot _ _ _ _ => true
  | .chainReset _ _ _ => true
  | .chnChainResetCmd => true
  | .chainMgmt _ _ _ _ _ _ _ _ r _ => r.wf
  | .chainUpstreamLost => true
  | .chainUpstreamRestored => true
  | .haulFrameReceive half _ _ _ _ _ _ => halfOk half
  | .haulResendTimer half => halfOk half
  | .haulHalfDown half => halfOk half
  | .haulHalfUp half => halfOk half
  | .heartbeatTimer => true
  | .heartbeatBeat _ _ _ _ => true
  | .goodbye => true
  | .heartbeatMiss _ => true
  | .activeFenceWait => true
  | .fenceHoldExpiry => true
  | .pairWaitExpiry => true
  | .mirrorItem _ _ => true
  | .mirrorMack _ => true
  | .hello _ => true
  | .resyncCopy _ _ => true
  | .halHandoverCmd => true
  | .halUnfenceCmd => true
  | .handoverDrainEnd => true
  | .handoverItem _ => true
  | .handoverTimeout => true
  | .benchReloadDone _ bench _ _ => benchOk bench
  | .holdMessage bench => benchOk bench
  | .holdTimeout => true
  | .ctlLiveReload bench => benchOk bench
  | .ctlLiveRetire => true
  | .retireMessage => true
  | .avsTimer _ _ _ => true
  | .haulRecalTimer half => halfOk half
  | .memRetrainTimer channel _ _ => channelOk channel
  | .memZqTimer channel _ => channelOk channel
  | .timeAlignTimer _ => true
  | .truSvnCommit => true
  | .tokenRevoke _ => true
  | .tokenDebugUnlock _ => true
  | .tokenOwnerSeed _ => true
  | .tokenDebugDisable _ => true
  | .truNonceRead => true
  | .tamperTrip cause => tamperOk cause
  | .trngHealthFail => true
  | .thermtrip => true
  | .pairingMessage m => m.wf
  | .spdmGetVersion path => mctpPathOk path
  | .spdmGetCapabilities path => mctpPathOk path
  | .spdmNegotiateAlgorithms path _ => mctpPathOk path
  | .spdmGetDigests path => mctpPathOk path
  | .spdmGetCertificate path _ _ _ => mctpPathOk path
  | .spdmChallenge path _ _ => mctpPathOk path
  | .spdmGetMeasurements path _ _ _ => mctpPathOk path
  | .mgtRegRead path r => mctpPathOk path && r.wf
  | .mgtRegWrite path r => mctpPathOk path && r.wf
  | .mgtRegModify path r => mctpPathOk path && r.wf
  | .mgtEvSubscribe path r => mctpPathOk path && r.wf
  | .mgtLogRead path r => mctpPathOk path && r.wf
  | .mgtIdentSet path r _ => mctpPathOk path && r.wf
  | .mgtIdentDereg path r => mctpPathOk path && r.wf
  | .mgtIdentGet path r => mctpPathOk path && r.wf
  | .mgtQosSet path r => mctpPathOk path && r.wf
  | .mgtQosGet path r => mctpPathOk path && r.wf
  | .evNotifyResponse path eid => mctpPathOk path && byteOk eid
  | .evNotifyTimer path eid => mctpPathOk path && byteOk eid
  | .relayTimeout _ => true
  | .mctpSetEndpointId path _ eid => mctpPathOk path && byteOk eid
  | .mctpGetEndpointId path => mctpPathOk path
  | .mctpGetEndpointUuid path => mctpPathOk path
  | .mctpGetVersionSupport path _ => mctpPathOk path
  | .mctpGetMessageTypeSupport path => mctpPathOk path
  | .mctpGetVendorSupport path _ => mctpPathOk path
  | .nvmeMiBasicManagement port _ => smbPortOk port
  | .nvmeMiReadDataStructure path _ _ _ => mctpPathOk path
  | .nvmeMiSubsystemHealthPoll path _ => mctpPathOk path
  | .nvmeMiControllerHealthPoll path _ _ => mctpPathOk path
  | .nvmeMiConfigurationGet path _ _ => mctpPathOk path
  | .nvmeMiConfigurationSet path _ _ _ => mctpPathOk path
  | .bar2Access _ addr _ => wordAddrOk addr
  | .smbusTimeout port => smbPortOk port
  | .benchLockSet bench => benchOk bench
  | .halfLatchRead path addr => pathOk path && wordAddrOk addr
  | .registerWrite path addr _ => pathOk path && wordAddrOk addr
  | .chainDownstreamUndriven => true
  | .windowCeilingEligible _ => true
  | .fenceStartDelayExpiry => true
  | .reshapeRelayoutDone => true
  | .epCcEnClear f => functionOk f
  | .epCcShnWrite f _ => functionOk f
  | .epNssrWrite f _ => functionOk f
  | .flashWriteDone _ => true
  | .jtagInstructionLoad _ => true
  | .regionZeroFill _ _ => true
  | .driveLinkTrainingTimeout slot => slotOk slot
  | .shotOutPulseEnd => true

end Sys2Proof
end

