-- ==== Sys2Proof/Tests/Slice0.lean ====
section
/-!
SUPPORT. Tests/Slice0.lean: small states, the checks of ill-formed commands, balls of the package as the spec lists them, and
for every statement with hypotheses a state and operands that meet them all.
-/

namespace Sys2Proof.Tests

open Machine NvmeFields

set_option Elab.async false

def holds (o : Host.Outcome State Fault Refusal) (p : State → Bool) : Bool :=
  match o with
  | .next t => p t
  | _ => false

/-- A bench in service: every role bound to its own instance, the last instance of a replicated class SPARE. -/
def upBench (b : Nat) : Bench :=
  match classInst b with
  | some (c, i) => if i < partRoles .zs c then { Bench.cold with state := .active, role := some i } else { Bench.cold with state := .spare }
  | none => { Bench.cold with state := .active, role := some 0 }

/-- A unit in service: every step ended, LONE, serving, 1,000 s after the count began, with fuses of plain numbers. -/
def up : State :=
  let s : State := { State.reset with
    bench := (List.range 57).map upBench,
    tim := { Tim.cold with count := BitVec.ofNat 64 (secU 1000) },
    boot := { Boot.cold with held := none, ended := List.range 16 },
    fuses := { fkh := [1, 2, 3, 4], frevoke := 0, life := 2, fwSvn := 3, ownSvn := 1, dsn := 7, mfgDate := 0, vcore := 750,
               ownerKey := 9, ownerSeed := 5, dus := 0, certSig := 0 } }
  (s.wr F.HAL_PAIR_STAT_ROLE 3).wr F.TIM_STAT_SERVING 1

/-- An established connection of index 0 and generation 1 with credit on both sides. -/
def conn0 : Conn := { Conn.fresh 0 1 .nrt .established 0 with
  peerAddr := 11, peerCid := 5, peerSport := 0x8000, granted := 8, peerLimit := 100, queue := some (3, 0) }

/-- A packet of the peer of that connection. -/
def pkt0 : NrtPkt :=
  { udpPort := up.rd F.XPT_NRT_PORT_UDP_PORT, srcAddr := 11, srcPort := 0x8000, ver := 1, typ := 1, last := false,
    ord := false, ackreq := false, ackv := false, renege := false, path := 0, kind := 1, dcid := 262144, rsvd := 0, psn := 0, msgId := 0,
    msgOfs := 0, ackPsn := 0, msgLimit := 0, payLen := 0, echoPath := 0, echoCe := 0, ceMarked := false, ext := .none, payload := 0,
    crc := 0, buf := 0 }

/-- A packet with the CRC of its bytes. -/
def sealed (p : NrtPkt) : NrtPkt := { p with crc := nrtCrc p.toNrtHdr p.ext p.payload }

/-- A CONNECT's packet around its payload. -/
def connectPkt (r : ConnectReq) : NrtPkt := sealed { pkt0 with typ := 3, dcid := 0, kind := 0, payLen := 32, payload := fromBytes (setupBytes r) }

/-- A set-up payload of a host. -/
def setup0 : ConnectReq :=
  { srcCid := 9, initPsn := 100, initMsgId := 7, msgLimit := 3, sportBase := 0x4000, npaths := 15, payload := 2, nonce := 5, reason := 0, zero := 0 }

/-- A packet sent and not acknowledged. -/
def tx0 : TxPkt :=
  { psn := 5, msgId := 0, ofs := 0, last := true, path := 0, order := 0, sentAt := 0, retx := 0, acked := false, laterAcked := 0,
    body := .response 1 0 0 0 0 }

/-- A unit with that connection. -/
def nrtUp : State := { up.wr F.XPT_CTX_CFG_NRT_EN 1 with conns := [conn0] }

/-- A host identity with every privilege and no authentication. -/
def ident0 : Ident :=
  { index := 0, nqn := 21, hostId := 22, tenant := 1, priv := 255, auth := 0, hostSecret := 0, ctrlSecret := 0, func := 65535, failTimes := [], refuseUntil := 0 }

/-- A submission queue on a connection. -/
def queueOn (qid cid : Nat) : Queue :=
  { qid := qid, size := 64, conn := some cid, mode := .free, profile := Profile.zero, tats := Tats.zero, authReq := false,
    authed := false, authStep := 0, authNonce := 0, authTid := 0, authHash := 0, authGroup := 0, authPub := 0, authFail := 0, sqBase := 0, cqid := 0, isCq := false, vector := 0, ien := false, head := 0,
    tail := 0, phase := true }

/-- A fabric controller of index 3, enabled, with its admin queue on connection 0 and an I/O queue on connection 1. -/
def ctrl3 : Ctrl :=
  { index := 3, ident := some 0, func := none, cc := 0x460001, csts := 1, kato := 0, lastCmd := 0, maxIoq := 128,
    queues := [queueOn 0 262144, queueOn 1 262145], aers := [], notices := [], unread := [], features := [], changed := [], resvLog := [], resvCount := 0, shutdown := false, mem := 0 }

/-- A namespace of 1,000 blocks of 4,096 bytes in the log layout of group 0, attached to identity 0. -/
def ns1 : Namespace :=
  { nsid := 1, fixed := false, group := 0, nsze := 1000, ncap := 1000, lbaf := 0, pit := 0, nmic := 0, tenant := 1, gen := 1,
    ready := true, deleting := false, attached := [0], mapped := 0, rows := [], unfilled := [], profile := Profile.zero,
    tats := Tats.zero, minTag := 0, startTag := 0, meter := Meter.zero, gap := false, lastSat := none,
    resv := { rtype := 0, holder := none, regs := [], gen := 0, ptpl := false }, lostSeq := 0, overflow := false, lost := [],
    marks := [], reported := [], moveTo := none }

/-- A mounted group of 8 members with 4 rows. -/
def group0 : Group := { Group.cold with configured := true, mounted := true, rows := 4 }

/-- A window over blocks 0 to 9 of namespace 1, based at 0, for identity 0, with every right. -/
def win0 : Window :=
  { index := 0, tag := 1, valid := true, nsid := 1, slba := 0, len := 40960, base := 0, host := 0, rights := 7, dur := 0,
    excl := false, publisher := 0, revoking := none, freedAt := none }

/-- The cache line of block 3 of namespace 1, clean. -/
def line0 : Line :=
  { nsid := 1, lba := 3, valid := true, data := 7, dirty := false, dirtyAt := 0, dur := 0, filling := false, ver := 1, wb := none, wbVer := 0,
    redirtied := false, wbMet := false, wbq := false }

/-- A window read on connection 1 of 8 bytes of that block. -/
def op0 : WinOp :=
  { id := 4, cid := 262145, msg := 9, key := 1, nsid := 1, dur := 0, byte := 12288, len := 8, kind := .read, ord := false, readyAt := 0,
    sent := false, mirrored := true, visible := false, needs := [], original := 0, respMsg := none, failed := false, acked := false,
    filled := [] }

/-- An admin command on the controller's admin queue. -/
def adm (opc : Nat) : NvmeCmd :=
  { ctl := 3, qid := 0, cid := 17, opc := opc, fuse := 0, psdt := 2, nsid := 0, cdw2 := 0, cdw3 := 0, cdw10 := 0, cdw11 := 0,
    cdw12 := 0, cdw13 := 0, cdw14 := 0, cdw15 := 0, sgl := .none, data := 0, dataLen := 0, fctype := 0, ord := false, msg := none }

/-- An I/O command on the controller's I/O queue for block 0 of namespace 1. -/
def io (opc : Nat) : NvmeCmd := { adm opc with qid := 1, nsid := 1, sgl := .keyed ⟨1, 0, 4096⟩ }

/-- A unit in service with a host: two connections, a controller, a namespace, its group and its members. -/
def hostUp : State :=
  let s : State := { up with
    conns := [{ conn0 with queue := some (3, 0) }, { conn0 with index := 1, queue := some (3, 1) }]
    idents := [ident0], ctrls := [ctrl3], nss := [ns1], windows := [win0]
    groups := group0 :: List.replicate 7 Group.cold
    slots := (List.replicate 8 { Slot.cold with state := 1 }) ++ List.replicate 40 Slot.cold
    ports := List.replicate 48 { Port.cold with accepted := 6, captured := 6 } }
  ((((((s.wr F.XPT_CTX_CFG_NRT_EN 1).wr F.XPT_CTX_CFG_ROCE_EN 1).wr F.MEM_CACHE_CTL_EN 1).wr (F.LAY_GCFG_GEOM 0) 1).wr (F.LAY_GCFG_K 0) 4).wr
    (F.LAY_GMEM_LO_SLOTS 0) 255)

/-- A member record of the drive of a slot. -/
def driveOf (n : Nat) : DriveRec :=
  { valid := true, slot := n, group := 0, epoch := 0, lastFseq := 0, capacity := 100000, mseq := 1, members := 255, rows := 4, pairGen := 0 }

/-- A block of a stripe with its data: a place of a host command's block, or void. -/
def sblock (slab blk : Nat) (o : Owner) : SBlock :=
  { slab := slab, blk := blk, owner := o, nsid := 1, lba := blk, gen := 1, birth := 1, order := blk, content := some (.enter 7 0) }

/-- A stripe of group 0 on members 0 to 4 with one block. -/
def stripe0 : Stripe :=
  { group := 0, num := 0, state := .opened, stream := .host, row := 0, members := [0, 1, 2, 3, 4], keff := 4, m := 1, geom := 1, kp := 1,
    lastb := 0, fseq := 1, firstAt := some 0, closedAt := 0, blocks := [sblock 0 0 .void], acked := [], owed := 0, live := 0, relocs := [],
    freeSent := false, freeDurable := false, lostMap := [], lostAt := 0, swept := false }

/-- The unit with a host whose members hold drives. -/
def layUp : State :=
  { hostUp with slots := (List.range 8).map (fun n => { Slot.cold with state := 1, drive := some (driveOf n) }) ++ List.replicate 40 Slot.cold }

/-- The same with the slot 2 in a state. -/
def slotUp (st : Nat) : State := { layUp with slots := layUp.slots.modify 2 fun x => { x with state := st } }

/-- An object of the survey area of group 0. -/
def obj0 : SvyObj :=
  { group := 0, kind := 2, owner := 0, index := 0, gen := 0, slot := none, copies := [0, 1, 2], applied := 0, dirty := true, oldest := 1,
    cached := true, loading := false, level := 0, ext := false, inBank := false, evicting := false, indexed := 0 }

/-- A tally record of group 0. -/
def rec0 : Rec :=
  { seq := 1, wseq := 1, group := 0, moved := false, len := 2, body := .seal [.live 0 1], time := 0, offset := some 4096, acked := true,
    durable := true, released := false }

/-- A unit whose Ethernet port 0 runs in a mode with the link of MAC 0 up. -/
def ethUp (mode : Nat) : State := { up.wr (F.PRT_STAT_LINK 8) 1 with eports := up.eports.modify 0 fun e => { e with mode := mode } }

/-- The same with a change to MAC 0. -/
def macUp (f : Mac → Mac) : State := { ethUp 1 with macs := up.macs.modify 0 f }

/-- An LLDP frame. -/
def lldp : EthFrame :=
  { len := 100, corr := 0, uncorr := 0, fcsOk := true, stag := false, tag := none, tag2 := false, dst := 0x0180C200000E, src := 5,
    etype := 0x88CC, ip := none, key := 0, hdr := 14, head := 0, cellOk := true }

/-- A frame queued for MAC 0 in class 0. -/
def queued : SwFrame :=
  { handle := 0, dst := 0, vid := 0, input := 37, output := 0, cls := 0, cells := 1, pool := .shared, len := 100, colour := 0, ce := false, head := 0, time := 0, ptp := none }

/-- A queue of an endpoint controller. -/
def epQueue (qid : Nat) (cq : Bool) : Queue := { queueOn qid 0 with conn := none, isCq := cq, cqid := qid }

/-- The controller of function 0, enabled, with an admin pair and an I/O pair of queues. -/
def epCtrl : Ctrl :=
  { ctrl3 with index := 16383, func := some 0, queues := [epQueue 0 false, epQueue 0 true, epQueue 1 false, epQueue 1 true] }

/-- A unit whose endpoint's link is up, with that controller. -/
def epUp : State :=
  { ((up.wr F.EPT_CFG_EN 1).wr F.EPT_CFG_TOTAL_VF 4).wr F.EPT_STAT_LINK_UP 1 with
    idents := [ident0], ctrls := [epCtrl], nss := [ns1], epfs := up.epfs.modify 0 fun f => { f with bme := true } }

/-- A read of the endpoint under tag 7 for function 0. -/
def epRead0 (w : EpWhat) : EpRead := { tag := 7, func := 0, what := w, issued := 0, second := false, quarAt := none, byReset := false }

/-- An admin command of function 0. -/
def epAdm (opc : Nat) : NvmeCmd := { adm opc with ctl := 16383, psdt := 0, sgl := .prp true }

/-- A queue pair ready to send, bound to the I/O queue of controller 3. -/
def qp1 : Conn := { conn0 with index := 1, mode := .roce, state := .rts, queue := some (3, 1) }

/-- The same queue pair with an MTU of 4,096 bytes. -/
def qp1x : Conn := { qp1 with payload := 4096 }

/-- The same unit with the I/O queue in compatible mode. -/
def roceUp : State := { hostUp with conns := [{ conn0 with queue := some (3, 0) }, qp1x] }

/-- A compatible-mode packet to that queue pair. -/
def rpkt : RocePkt :=
  { qp := 262145, service := .rc, imm := false, inv := false, psn := 0, crcOk := true, ceMarked := false, first := true, last := false, ackReq := false,
    key := 1, addr := 0, len := 8, operand1 := 0, operand2 := 0, payload := 0, payLen := 0, buf := 0 }

/-- A section of an image with its entry. -/
def sec0 (typ domain target digest : Nat) : ImgSection :=
  { type := typ, domain := domain, flags := 0, offset := 4096, length := 1, target := target, digest := digest, found := digest, compat := 1 }

/-- An image of a bank but for its sections' places, its HDR_CRC and its signatures. -/
def imgBase : BankImg :=
  { hdr := { magic := fromBytes ("AMONDOP".toList.map Char.toNat ++ [0]), format := 1, nsec := 0, crc := 0, fwSvn := 5, ownSvn := 2,
             version := [1, 2, 3, 4], ownVersion := 6, fwSigOfs := 4096, ownSigOfs := 8192, built := 0, rest := 0 }
    fwSig := ⟨1, 0, 65537, 1, []⟩, ownSig := some ⟨2, 0, 65537, 9, []⟩
    sections := (([1, 3, 4, 5].map fun t => sec0 t 0 0 t) ++ ((((partBenches .zs).map benchTarget).dedup.filter fun n => n < 0x108 || 0x110 ≤ n).map fun n => sec0 2 0 n (100 + n)) ++
      [sec0 0x100 1 0 6, sec0 0x101 1 0 7]).zipIdx.map fun p => { p.1 with offset := 4096 * (p.2 + 3) }
    chainRoot := 1, chainOk := true, ssvid := 0x1F6B, ssid := 1, sn := 7, subnqn := 33, settings := [], idents := []
    ptp := { domain := 0, macs := [0, 4, 8, 12, 16, 20, 24, 28], clock := ⟨128, 248, 0xFE, 0xFFFF, 128, 0, 0⟩ } }

/-- An image of a bank that passes R506 with the fuses of `up`. -/
def img0 : BankImg :=
  let b := { imgBase with hdr := { imgBase.hdr with nsec := imgBase.sections.length } }
  let b := { b with hdr := { b.hdr with crc := 2278511511 } }
  { b with fwSig := { b.fwSig with signed := fwManifest b }, ownSig := b.ownSig.map fun g => { g with signed := ownManifest b } }

/-- A unit at a start whose steps so far are those of a list, with that image running in bank A. -/
def bootAt (l : List Nat) : State :=
  { up with
    boot := { Boot.cold with held := none, ended := l, img := some img0, bank := 1 }
    flash := ⟨64, [some (1, 1), none], [img0, img0, img0]⟩ }

/-- The unit in service with that image. -/
def imgUp : State := bootAt (List.range 16)

/-- A unit with half 0 of the haul in service, in a role. -/
def pairAt (r : Nat) : State :=
  let s := (imgUp.wr F.HAL_PAIR_STAT_ROLE r).wr F.HAL_PAIR_STAT_H0_UP 1
  { s with pair := { s.pair with exchanged := true } }

/-- A frame kept on a half. -/
def kept0 : HaulKept := { seq := 4, chan := 1, resends := 0, sentAt := 0 }

/-- Half 0 with frames. -/
def halfWith (l : List HaulKept) : Half := { txSeq := 4, rxSeq := 7, kept := l, recalAt := 0, authNotice := none }

/-- A unit with frames kept on half 0. -/
def keptUp : State := { pairAt 1 with pair := { (pairAt 1).pair with halves := [halfWith [kept0], Half.cold] } }

/-- A HELLO of a partner with that image. -/
def hello0 : Hello := { slotB := 1, role := 0, gen := 0, formatOk := true, digest := img0.ownDigest }

/-- A unit that holds chain address 5 below another and above none. -/
def chainUp : State := ((imgUp.wr F.CHN_CHAIN_STAT_ADDR 5).wr F.CHN_CHAIN_STAT_ADDRESSED 1).wr F.CHN_CHAIN_STAT_UP_LINK 1

/-- A head unit. -/
def headUp : State := (imgUp.wr F.CHN_CHAIN_STAT_ADDRESSED 1).wr F.CHN_CHAIN_STAT_HEAD 1

/-- A unit whose TRU has ended its steps, with an EID on each path. -/
def truUp : State :=
  let s := imgUp.wr F.TRU_STAT_STEP 8
  { s with tru := { s.tru with ksr := true, ak := some 3, nonce := some 77 }, mgt := { s.mgt with eids := [9, 10, 11, 0, 0] } }

/-- The same with the SPDM negotiation of path 0 done, and its DIK certificate failed. -/
def spdmUp (n : Nat) : State := { truUp with tru := { truUp.tru with spdm := [(0, n)] } }

/-- A Firmware Commit's command and what it meets. -/
def commitInfo : CommitInfo := { img := img0, peerBooted := 0, peerPasses := true, peerSvnOk := true, peerSame := true, peerLive := true }

/-- The host's unit with that image in service and a download buffer. -/
def commitUp : State :=
  { hostUp with boot := imgUp.boot, flash := imgUp.flash, live := { Live.cold with pieces := [(0, 4096)] } }

/-- A Firmware Commit in flight. -/
def fwCmd : Cmd :=
  { id := 1, nv := { adm 0x10 with cdw10 := 27 }, ident := some 0, at_ := 0, readyAt := 0, ordered := false, phase := .delivered, toFetch := 0,
    pieces := [], blocks := [], unplaced := [], stripes := [], dirtyWait := [], got := [], placing := false, paging := false, waited := false,
    bytes := 0, result := none, respMsg := none, flushFor := [], recsLeft := [], opMark := 0 }

/-- A commit in progress. -/
def commit0 : FwCommit := { cmd := 900, ca := 0, bank := 2, img := img0, writes := 1, descs := 0, reads := 0 }

/-- A vendor request of EID 8 with a body. -/
def req0 (b : List Nat) : VendorReq := { pec := true, eid := 8, tag := 66, unit := 255, zero := true, body := b }

/-- Sensors at 45 °C. -/
def sens0 : Sensors := { die := 45, memberWarn := false, used := 3 }


/-! ### Ill-formed commands (WellFormed.lean) -/

theorem test_wf_bench : Instr.wf (.livenessTimeout 64 true) = false ∧ Instr.wf (.livenessTimeout 63 true) = true := by decide
theorem test_wf_class : Instr.wf (.rotationDrained 6) = false ∧ Instr.wf (.rotationDrained 5) = true := by decide
theorem test_wf_macClass : Instr.wf (.pauseTimeExpiry 31 9) = false ∧ Instr.wf (.pauseTimeExpiry 31 8) = true := by decide
theorem test_wf_group : Instr.wf (.memberRecordTimer 8) = false ∧ Instr.wf (.memberRecordTimer 7) = true := by decide
theorem test_wf_slot : Instr.wf (.drvPowerOn 48) = false ∧ Instr.wf (.drvPowerOn 47) = true := by decide
theorem test_wf_mac : Instr.wf (.lpiIdleExpiry 32) = false ∧ Instr.wf (.lpiIdleExpiry 31) = true := by decide
theorem test_wf_role : Instr.wf (.commandAdmission 8) = false ∧ Instr.wf (.commandAdmission 7) = true := by decide
theorem test_wf_half : Instr.wf (.haulHalfUp 2) = false ∧ Instr.wf (.haulHalfUp 1) = true := by decide
theorem test_wf_channel : Instr.wf (.memZqTimer 8 0) = false ∧ Instr.wf (.memZqTimer 7 0) = true := by decide
theorem test_wf_mctpPath : Instr.wf (.mctpGetEndpointId 3) = false ∧ Instr.wf (.mctpGetEndpointId 2) = true := by decide
theorem test_wf_path : Instr.wf (.halfLatchRead 6 0) = false ∧ Instr.wf (.halfLatchRead 5 0) = true := by decide
theorem test_wf_wordAddr : Instr.wf (.halfLatchRead 0 6) = false ∧ Instr.wf (.halfLatchRead 0 0x4000000) = false ∧
    Instr.wf (.halfLatchRead 0 0x3FFFFFC) = true := by decide
theorem test_wf_nrtPath : Instr.wf (.pathProbeTimer 0 8) = false ∧ Instr.wf (.pathProbeTimer 0 7) = true := by decide
theorem test_wf_ethPort : Instr.wf (.prtStatRead 0 8 0 0 false) = false ∧ Instr.wf (.prtStatRead 0 7 0 0 false) = true := by decide
theorem test_wf_smbPort : Instr.wf (.smbusTimeout 2) = false ∧ Instr.wf (.smbusTimeout 1) = true := by decide
theorem test_wf_function : Instr.wf (.epFlr 64) = false ∧ Instr.wf (.epFlr 63) = true := by decide
theorem test_wf_byte : Instr.wf (.evNotifyTimer 0 256) = false ∧ Instr.wf (.evNotifyTimer 0 255) = true := by decide
theorem test_wf_reset : Instr.wf (.resetAssert 4) = false ∧ Instr.wf (.resetAssert 3) = true := by decide
theorem test_wf_tamper : Instr.wf (.tamperTrip 0) = false ∧ Instr.wf (.tamperTrip 6) = false ∧ Instr.wf (.tamperTrip 5) = true := by decide
theorem test_wf_bootSel : Instr.wf (.controllerStart 4 false none) = false ∧ Instr.wf (.controllerStart 3 false none) = true := by decide
theorem test_wf_lane : Lane.wf ⟨8, 16, 1⟩ = false ∧ Lane.wf ⟨8, 16, 0⟩ = true ∧ Lane.wf ⟨64, 0, 0⟩ = false := by decide
theorem test_wf_nvmeCmd : Instr.wf (.nvmeRead { io 2 with opc := 256 }) = false ∧ Instr.wf (.nvmeRead { io 2 with cdw10 := 2 ^ 32 }) = false ∧
    Instr.wf (.nvmeRead (io 2)) = true := by decide +kernel
theorem test_wf_nrtPkt : NrtPkt.wf { pkt0 with path := 16 } = false ∧ NrtPkt.wf { pkt0 with payload := 1 } = false ∧ NrtPkt.wf pkt0 = true := by
  decide +kernel
theorem test_wf_rocePkt : RocePkt.wf { rpkt with psn := 2 ^ 24 } = false ∧ RocePkt.wf rpkt = true := by decide +kernel
theorem test_wf_vendorReq : VendorReq.wf (req0 [256]) = false ∧ VendorReq.wf { req0 [] with unit := 256 } = false ∧ VendorReq.wf (req0 [255]) = true := by
  decide
theorem test_wf_pairMsg : PairMsg.wf ⟨2, 0, 0, 0, 0, true, true⟩ = false ∧ PairMsg.wf ⟨1, 0, 0, 0, 0, true, true⟩ = true := by decide
theorem test_wf_driveRec : DriveRec.wf (driveOf 48) = false ∧ DriveRec.wf { driveOf 0 with group := 8 } = false ∧ DriveRec.wf (driveOf 47) = true := by
  decide
theorem test_wf_mtag : MTag.wf ⟨48, 0, 0⟩ = false ∧ MTag.wf ⟨47, 0, 0⟩ = true := by decide
theorem test_wf_ethFrame : EthFrame.wf { lldp with head := 2 ^ 1024 } = false ∧ EthFrame.wf lldp = true := by decide +kernel

/-! ### Words and balls -/

/-- No row of the table has bits, so no word spells a command. -/
theorem test_no_word : decodeTableWord 32 0 = none ∧ State.reset.withFetchWord 32 0 = State.reset := ⟨rfl, rfl⟩

/-- Balls of Table PIN-4 and PIN-5 as the spec's examples name them. -/
theorem test_balls : ballNet 67 29 = .lane 108 false true ∧ ballNet 66 30 = .vddhSd ∧ ballNet 1 47 = .lane 14 true true ∧
    ballNet 4 47 = .vddaSd := by decide +kernel

/-! ### Published vectors of the ciphers and checksums -/

/-- FIPS 197, C.3: AES-256. -/
theorem test_aes256 : aesEnc (fromBytes (List.range 32)) (fromBytes ((List.range 16).map (17 * ·))) =
    swapBytes 0x8EA2B7CA516745BFEAFC49904B496089 16 := by decide +kernel

/-- IEEE 1619, vector 10, first block: XTS-AES-256. -/
theorem test_xts : xtsEnc (swapBytes 0x27182818284590452353602874713526624977572470936999595749669676273141592653589793238462643383279502884197169399375105820974944592 64)
      0xFF 1 (fromBytes (List.range 16)) = swapBytes 0x1C3B3A102F770386E4836C99E370CF9B 16 := by decide +kernel

/-- McGrew and Viega, GCM test case 14: one block of zeros under a key of zeros. -/
theorem test_gcm : gcmText 0 0 16 0 = swapBytes 0xCEA7403D4D606B6E074EC5D3BAF39D18 16 ∧
    gcmTag 0 0 0 0 16 (swapBytes 0xCEA7403D4D606B6E074EC5D3BAF39D18 16) = swapBytes 0xD0D1C8A799996BF0265B98B5D48AB919 16 := by decide +kernel

/-- RFC 3394, 4.6: a 256-bit key wrapped under a 256-bit key, and unwrapped again. -/
theorem test_wrap : keyWrap (fromBytes (List.range 32)) 4 (fromBytes (((List.range 16).map (17 * ·)) ++ List.range 16)) =
      swapBytes 0x28C9F404C4B810F4CBCCB35CFB87F8263F5786E2D80ED326CBC7F0E71A99F43BFB988B9B7A02DD21 40 ∧
    keyUnwrap (fromBytes (List.range 32)) 4 (swapBytes 0x28C9F404C4B810F4CBCCB35CFB87F8263F5786E2D80ED326CBC7F0E71A99F43BFB988B9B7A02DD21 40) =
      some (fromBytes (((List.range 16).map (17 * ·)) ++ List.range 16)) := by decide +kernel

/-- The check values of CRC-32C and CRC-64/NVME over the nine digits 1 to 9 in ASCII. -/
theorem test_crc : crc32c ((List.range 9).map (49 + ·)) = 0xE3069283 ∧ crc64 ((List.range 9).map (49 + ·)) = 0xAE8B14860A799888 := by decide +kernel

/-! ### The statements about the whole block -/

theorem witness_stepRunsTheFront : step { up with pending := [.ppsInEdge] } = exec .ppsInEdge up := rfl
theorem witness_emptyQueueTicks : up.pending = [] ∧ up.rd F.TIM_RATE = 0 ∧ up.tim.frac < 4294967296 := by decide +kernel
theorem witness_soundIsKept : RegFile.wf up.regs = true ∧ FusesSound up.fuses ∧ up.bench.length = 57 ∧
    (match step up with | .next _ => true | _ => false) = true := by
  refine ⟨by decide +kernel, ⟨by decide, by decide, by decide, by decide⟩, by decide +kernel, rfl⟩
theorem witness_securityVersions : imgUp.truRuns = true ∧ imgUp.boot.img = some img0 ∧ imgUp.stepDone 15 = true ∧
    imgUp.boot.bank = imgUp.flash.preferred ∧ imgUp.phase = 0 ∧ imgUp.rd F.CTL_BOOT_STAT_OWNER = 0 ∧
    (imgUp.benchAt 1).state ≠ .off ∧ holds (exec .truSvnCommit imgUp) (fun t => t.fuses.fwSvn == 5) = true := by decide +kernel
theorem witness_securityVersions_refused : (bootAt [1, 2]).truRuns = true ∧ (bootAt [1, 2]).stepDone 15 = false ∧
    holds (exec .truSvnCommit (bootAt [1, 2])) (fun t => t.fuses.fwSvn == 3) = true := by decide +kernel
theorem witness_countSteppedBeforeServing : up.isSet F.TIM_STAT_SERVING = true ∧
    holds (exec (.timSetStep 1) up) (fun t => t.tim.count == up.tim.count) = true := by decide +kernel
theorem witness_raisedEvents : (up.benchAt 56).state ≠ .off ∧ hasBit (up.rd (F.BENCH_EV_EN 56)) 15 = true ∧
    ((up.raise 56 15 3 1 0).benchAt 56).emitted = (up.benchAt 56).emitted + 1 ∧ (up.raise 56 15 3 1 0).faultDeclared = true := by
  decide +kernel
theorem witness_raisedEvents_disabled : hasBit ((up.wr (F.BENCH_EV_EN 0) 0).rd (F.BENCH_EV_EN 0)) 2 = false ∧
    ((up.wr (F.BENCH_EV_EN 0) 0).raise 0 2 1 1 0).rd (F.BENCH_ERR_DET 0) = 1 := by decide +kernel
theorem witness_raisedEvents_off : (State.reset.benchAt 56).state = .off := by decide
theorem witness_offWindow : truUp.permits 0 0 = true ∧ truUp.permits 0 1 = true ∧
    holds (exec (.halfLatchRead 0 0x3F00008) truUp) (fun t => t.out.head? == some (.value 0xF0)) = true := by decide +kernel
theorem witness_offWindow_off : ((State.reset.benchAt 5).state = .off) ∧ State.reset.truOnly = false ∧ State.reset.permits 0 0 = true ∧
    holds (exec (.halfLatchRead 0 0x500000) State.reset) (fun t => t.out.head? == some (.value 5)) = true := by decide +kernel


/-! ### Frames -/

theorem witness_benchAndTimeFrames : (up : State).bench.length = 57 ∧ holds (exec (.flitReceive (⟨8, 16, 0⟩ : Lane) (0 : Nat) (⟨.request, .bench 16, 1, 0, 0, 0, true⟩ : Flit)) up) (fun _ => true) = true := by decide +kernel

theorem witness_transportFrames : (({ nrtUp with conns := [{ conn0 with reasm := [⟨4, 1, false, .none, [], none, 0⟩], received := [(9, 4)] }] }) : State).bench.length = 57 ∧ holds (exec (.reassemblyTimeout (262144 : Nat) (4 : Nat)) ({ nrtUp with conns := [{ conn0 with reasm := [⟨4, 1, false, .none, [], none, 0⟩], received := [(9, 4)] }] })) (fun _ => true) = true := by decide +kernel

theorem witness_storageFrames : (({ hostUp with conns := [{ conn0 with queue := none }], ctrls := [] }) : State).bench.length = 57 ∧ holds (exec (.fabricsConnect (262144 : Nat) ({ adm 0x7F with sgl := .keyed ⟨1, 0, 1024⟩, data := 22 + 0xFFFF * 2 ^ 128 + 21 * 2 ^ 4096 } : NvmeCmd)) ({ hostUp with conns := [{ conn0 with queue := none }], ctrls := [] })) (fun _ => true) = true := by decide +kernel

theorem witness_etherAndEndpointFrames : (((ethUp 1).wr (F.PRT_STAT_LINK 8) 0) : State).bench.length = 57 ∧ holds (exec (.macLinkUp (0 : Nat) true (false : Bool)) ((ethUp 1).wr (F.PRT_STAT_LINK 8) 0)) (fun _ => true) = true := by decide +kernel

theorem witness_chainAndPairFrames : (({ imgUp with chain := { Chain.cold with dnDriven := true } }) : State).bench.length = 57 ∧ holds (exec (.chainAddr true (63 : Nat)) ({ imgUp with chain := { Chain.cold with dnDriven := true } })) (fun _ => true) = true := by decide +kernel

theorem witness_trustAndManagementFrames : (imgUp : State).bench.length = 57 ∧ holds (exec .truSvnCommit imgUp) (fun _ => true) = true := by decide +kernel

theorem witness_benchAndTransportFields : (up : State).bench.length = 57 ∧ holds (exec (.detectionRepairDone (17 : Nat) (⟨5, true, none, none, none⟩ : Repair) (true : Bool)) up) (fun _ => true) = true := by decide +kernel

theorem witness_windowAndIoFields : (hostUp : State).bench.length = 57 ∧ holds (exec (.setFeaturesWindowPublish ({ adm 9 with data := 1 * 2 ^ 32 + 4096 * 2 ^ 128 + 1 * 2 ^ 272 } : NvmeCmd)) hostUp) (fun _ => true) = true := by decide +kernel

theorem witness_adminFields : (hostUp : State).bench.length = 57 ∧ holds (exec (.propertyGet ({ adm 0x7F with cdw11 := 0x14 } : NvmeCmd)) hostUp) (fun _ => true) = true := by decide +kernel

theorem witness_storageFields : (hostUp : State).bench.length = 57 ∧ holds (exec .grantPeriod hostUp) (fun _ => true) = true := by decide +kernel

theorem witness_etherAndStartFields : ((ethUp 1) : State).bench.length = 57 ∧ holds (exec (.ethFrameReceive (0 : Nat) (lldp : EthFrame)) (ethUp 1)) (fun _ => true) = true := by decide +kernel

theorem witness_pairAndManagementFields : ((chainUp.wr F.CHN_CHAIN_CFG_MGMT_EN 1) : State).bench.length = 57 ∧ holds (exec (.chainMgmt true (9 : Nat) (1 : Nat) (3 : Nat) (0 : Nat) (1 : Nat) (0 : Nat) (0 : Nat) (req0 [] : VendorReq) (true : Bool)) (chainUp.wr F.CHN_CHAIN_CFG_MGMT_EN 1)) (fun _ => true) = true := by decide +kernel

/-! ### Clause by clause -/

theorem witness_flitsAndBenches_flitReceive :
    (laneListed (⟨8, 16, 0⟩ : Lane) = true) ∧
    (up.routeFlit (⟨8, 16, 0⟩ : Lane) (⟨.request, .bench 16, 1, 0, 0, 0, true⟩ : Flit).dest = some (⟨8, 16, 0⟩ : Lane)) ∧
    ((up.laneAt (⟨8, 16, 0⟩ : Lane)).outOfService = false) ∧
    ((up.benchAt (⟨8, 16, 0⟩ : Lane).src).inService = true) ∧
    ((up.benchAt (⟨8, 16, 0⟩ : Lane).dst).inService = true) ∧
    ((⟨.request, .bench 16, 1, 0, 0, 0, true⟩ : Flit).crcOk = true) ∧
    (up.holdsRole (⟨.request, .bench 16, 1, 0, 0, 0, true⟩ : Flit).dest = false) ∧
    (up.repeated (up.senderOf (⟨8, 16, 0⟩ : Lane).src) (⟨.request, .bench 16, 1, 0, 0, 0, true⟩ : Flit) = false) ∧
    ((up.laneAt (⟨8, 16, 0⟩ : Lane)).waiting = []) ∧
    (((up.laneAt (⟨8, 16, 0⟩ : Lane)).fifo (⟨.request, .bench 16, 1, 0, 0, 0, true⟩ : Flit).vc).length < (0 : Nat) + 32) ∧
    holds (exec (.flitReceive (⟨8, 16, 0⟩ : Lane) (0 : Nat) (⟨.request, .bench 16, 1, 0, 0, 0, true⟩ : Flit)) up) (fun t => decide (((t.laneAt (⟨8, 16, 0⟩ : Lane)).fifo (⟨.request, .bench 16, 1, 0, 0, 0, true⟩ : Flit).vc = ((up.laneAt (⟨8, 16, 0⟩ : Lane)).fifo (⟨.request, .bench 16, 1, 0, 0, 0, true⟩ : Flit).vc).drop (0 : Nat) ++ [(⟨.request, .bench 16, 1, 0, 0, 0, true⟩ : Flit)]) ∧ (t.repeated (up.senderOf (⟨8, 16, 0⟩ : Lane).src) (⟨.request, .bench 16, 1, 0, 0, 0, true⟩ : Flit) = true) ∧ (t.out = up.out))) = true := by decide +kernel

theorem witness_flitsAndBenches_flitReceive2 :
    (laneListed (⟨16, 17, 0⟩ : Lane) = true) ∧
    (((up.updBench 17 fun (b : Bench) => { b with role := none })).routeFlit (⟨16, 17, 0⟩ : Lane) (⟨.request, .role 0 0, 1, 0, 0, 0, true⟩ : Flit).dest = none ∨ ((up.updBench 17 fun (b : Bench) => { b with role := none })).holdsRole (⟨.request, .role 0 0, 1, 0, 0, 0, true⟩ : Flit).dest = true) ∧
    ((((up.updBench 17 fun (b : Bench) => { b with role := none })).laneAt (⟨16, 17, 0⟩ : Lane)).outOfService = false) ∧
    ((((up.updBench 17 fun (b : Bench) => { b with role := none })).benchAt (⟨16, 17, 0⟩ : Lane).src).inService = true) ∧
    (∀ dl, ((up.updBench 17 fun (b : Bench) => { b with role := none })).routeFlit (⟨16, 17, 0⟩ : Lane) (⟨.request, .role 0 0, 1, 0, 0, 0, true⟩ : Flit).dest = some dl → (((up.updBench 17 fun (b : Bench) => { b with role := none })).benchAt dl.dst).inService = true ∧ (0 : Nat) = 0 ∧ (((up.updBench 17 fun (b : Bench) => { b with role := none })).laneAt dl).waiting = []) ∧
    ((⟨.request, .role 0 0, 1, 0, 0, 0, true⟩ : Flit).dest = .role (0 : Nat) (0 : Nat)) ∧
    ((0 : Nat) < ((up.updBench 17 fun (b : Bench) => { b with role := none })).rot.length) ∧
    ((⟨.request, .role 0 0, 1, 0, 0, 0, true⟩ : Flit).crcOk = true) ∧
    (((up.updBench 17 fun (b : Bench) => { b with role := none })).repeated (((up.updBench 17 fun (b : Bench) => { b with role := none })).senderOf (⟨16, 17, 0⟩ : Lane).src) (⟨.request, .role 0 0, 1, 0, 0, 0, true⟩ : Flit) = false) ∧
    holds (exec (.flitReceive (⟨16, 17, 0⟩ : Lane) (0 : Nat) (⟨.request, .role 0 0, 1, 0, 0, 0, true⟩ : Flit)) ((up.updBench 17 fun (b : Bench) => { b with role := none }))) (fun t => decide (((t.rotAt (0 : Nat)).held = (((up.updBench 17 fun (b : Bench) => { b with role := none })).rotAt (0 : Nat)).held ++ [((⟨16, 17, 0⟩ : Lane), (⟨.request, .role 0 0, 1, 0, 0, 0, true⟩ : Flit))]) ∧ (t.unacked.any (fun u => u.sender == ((up.updBench 17 fun (b : Bench) => { b with role := none })).senderOf (⟨16, 17, 0⟩ : Lane).src && sameFlit u.flit (⟨.request, .role 0 0, 1, 0, 0, 0, true⟩ : Flit)) = true) ∧ (t.out = ((up.updBench 17 fun (b : Bench) => { b with role := none })).out))) = true := by decide +kernel

theorem witness_flitsAndBenches_flitReceive3 :
    (laneListed (⟨8, 16, 0⟩ : Lane) = true) ∧
    (({ up with chans := [⟨.bench 8, 1, .bench 16, 5, []⟩] }).routeFlit (⟨8, 16, 0⟩ : Lane) (⟨.request, .bench 16, 1, 4, 0, 0, true⟩ : Flit).dest = some (⟨8, 16, 0⟩ : Lane)) ∧
    ((({ up with chans := [⟨.bench 8, 1, .bench 16, 5, []⟩] }).laneAt (⟨8, 16, 0⟩ : Lane)).outOfService = false) ∧
    ((({ up with chans := [⟨.bench 8, 1, .bench 16, 5, []⟩] }).benchAt (⟨8, 16, 0⟩ : Lane).src).inService = true) ∧
    ((({ up with chans := [⟨.bench 8, 1, .bench 16, 5, []⟩] }).benchAt (⟨8, 16, 0⟩ : Lane).dst).inService = true) ∧
    (({ up with chans := [⟨.bench 8, 1, .bench 16, 5, []⟩] }).repeated (({ up with chans := [⟨.bench 8, 1, .bench 16, 5, []⟩] }).senderOf (⟨8, 16, 0⟩ : Lane).src) (⟨.request, .bench 16, 1, 4, 0, 0, true⟩ : Flit) = true) ∧
    ((({ up with chans := [⟨.bench 8, 1, .bench 16, 5, []⟩] }).laneAt (⟨8, 16, 0⟩ : Lane)).waiting = []) ∧
    (({ up with chans := [⟨.bench 8, 1, .bench 16, 5, []⟩] }).holdsRole (⟨.request, .bench 16, 1, 4, 0, 0, true⟩ : Flit).dest = false) ∧
    ((⟨.request, .bench 16, 1, 4, 0, 0, true⟩ : Flit).crcOk = true) ∧
    holds (exec (.flitReceive (⟨8, 16, 0⟩ : Lane) (0 : Nat) (⟨.request, .bench 16, 1, 4, 0, 0, true⟩ : Flit)) ({ up with chans := [⟨.bench 8, 1, .bench 16, 5, []⟩] })) (fun t => decide (((t.laneAt (⟨8, 16, 0⟩ : Lane)).fifo (⟨.request, .bench 16, 1, 4, 0, 0, true⟩ : Flit).vc = ((({ up with chans := [⟨.bench 8, 1, .bench 16, 5, []⟩] }).laneAt (⟨8, 16, 0⟩ : Lane)).fifo (⟨.request, .bench 16, 1, 4, 0, 0, true⟩ : Flit).vc).drop (0 : Nat)) ∧ (t.unacked.any (fun u => u.sender == ({ up with chans := [⟨.bench 8, 1, .bench 16, 5, []⟩] }).senderOf (⟨8, 16, 0⟩ : Lane).src && sameFlit u.flit (⟨.request, .bench 16, 1, 4, 0, 0, true⟩ : Flit)) = false) ∧ (t.out = ({ up with chans := [⟨.bench 8, 1, .bench 16, 5, []⟩] }).out))) = true := by decide +kernel

theorem witness_flitsAndBenches_flitReceive4 :
    (laneListed (⟨8, 16, 0⟩ : Lane) = true) ∧
    (up.routeFlit (⟨8, 16, 0⟩ : Lane) (⟨.request, .bench 16, 1, 0, 0, 0, false⟩ : Flit).dest = some (⟨8, 16, 0⟩ : Lane)) ∧
    ((up.laneAt (⟨8, 16, 0⟩ : Lane)).outOfService = false) ∧
    ((up.benchAt (⟨8, 16, 0⟩ : Lane).src).inService = true) ∧
    ((up.benchAt (⟨8, 16, 0⟩ : Lane).dst).inService = true) ∧
    (up.repeated (up.senderOf (⟨8, 16, 0⟩ : Lane).src) (⟨.request, .bench 16, 1, 0, 0, 0, false⟩ : Flit) = false) ∧
    ((up.laneAt (⟨8, 16, 0⟩ : Lane)).waiting = []) ∧
    ((⟨.request, .bench 16, 1, 0, 0, 0, false⟩ : Flit).crcOk = false) ∧
    holds (exec (.flitReceive (⟨8, 16, 0⟩ : Lane) (0 : Nat) (⟨.request, .bench 16, 1, 0, 0, 0, false⟩ : Flit)) up) (fun t => decide ((t.out = .flitNak (⟨8, 16, 0⟩ : Lane) (⟨.request, .bench 16, 1, 0, 0, 0, false⟩ : Flit).chan (⟨.request, .bench 16, 1, 0, 0, 0, false⟩ : Flit).seq :: up.out) ∧ ((t.laneAt (⟨8, 16, 0⟩ : Lane)).fifo (⟨.request, .bench 16, 1, 0, 0, 0, false⟩ : Flit).vc = ((up.laneAt (⟨8, 16, 0⟩ : Lane)).fifo (⟨.request, .bench 16, 1, 0, 0, 0, false⟩ : Flit).vc).drop (0 : Nat)) ∧ ((t.laneAt (⟨8, 16, 0⟩ : Lane)).waiting.any (sameFlit (⟨.request, .bench 16, 1, 0, 0, 0, false⟩ : Flit)) = true) ∧ (t.unacked.any (fun u => u.sender == up.senderOf (⟨8, 16, 0⟩ : Lane).src && sameFlit u.flit (⟨.request, .bench 16, 1, 0, 0, 0, false⟩ : Flit)) = true))) = true := by decide +kernel

theorem witness_flitsAndBenches_flitNak :
    ((({ up with unacked := [⟨.bench 8, ⟨8, 16, 0⟩, ⟨.request, .bench 16, 1, 5, 0, 0, true⟩, 2⟩] }).laneAt (⟨8, 16, 0⟩ : Lane)).outOfService = false) ∧
    (({ up with unacked := [⟨.bench 8, ⟨8, 16, 0⟩, ⟨.request, .bench 16, 1, 5, 0, 0, true⟩, 2⟩] }).unacked.find? (fun y => y.sender == ({ up with unacked := [⟨.bench 8, ⟨8, 16, 0⟩, ⟨.request, .bench 16, 1, 5, 0, 0, true⟩, 2⟩] }).senderOf (⟨8, 16, 0⟩ : Lane).src && y.flit.chan == (1 : Nat) && y.flit.seq == (5 : Nat)) = some (⟨.bench 8, ⟨8, 16, 0⟩, ⟨.request, .bench 16, 1, 5, 0, 0, true⟩, 2⟩ : Unacked)) ∧
    ((⟨.bench 8, ⟨8, 16, 0⟩, ⟨.request, .bench 16, 1, 5, 0, 0, true⟩, 2⟩ : Unacked).resends < 3) ∧
    holds (exec (.flitNak (⟨8, 16, 0⟩ : Lane) (1 : Nat) (5 : Nat) (true : Bool)) ({ up with unacked := [⟨.bench 8, ⟨8, 16, 0⟩, ⟨.request, .bench 16, 1, 5, 0, 0, true⟩, 2⟩] })) (fun t => decide ((t.out = .flitResent (⟨8, 16, 0⟩ : Lane) (⟨.bench 8, ⟨8, 16, 0⟩, ⟨.request, .bench 16, 1, 5, 0, 0, true⟩, 2⟩ : Unacked).flit :: ({ up with unacked := [⟨.bench 8, ⟨8, 16, 0⟩, ⟨.request, .bench 16, 1, 5, 0, 0, true⟩, 2⟩] }).out) ∧ ((t.unacked.any fun y => y.sender == ({ up with unacked := [⟨.bench 8, ⟨8, 16, 0⟩, ⟨.request, .bench 16, 1, 5, 0, 0, true⟩, 2⟩] }).senderOf (⟨8, 16, 0⟩ : Lane).src && sameFlit y.flit (⟨.bench 8, ⟨8, 16, 0⟩, ⟨.request, .bench 16, 1, 5, 0, 0, true⟩, 2⟩ : Unacked).flit && y.resends == (⟨.bench 8, ⟨8, 16, 0⟩, ⟨.request, .bench 16, 1, 5, 0, 0, true⟩, 2⟩ : Unacked).resends + 1) = true) ∧ ((t.laneAt (⟨8, 16, 0⟩ : Lane)).outOfService = false))) = true := by decide +kernel

theorem witness_flitsAndBenches_flitNak2 :
    ((({ up with unacked := [⟨.bench 8, ⟨8, 16, 0⟩, ⟨.request, .bench 16, 1, 5, 0, 0, true⟩, 3⟩] }).laneAt (⟨8, 16, 0⟩ : Lane)).outOfService = false) ∧
    (({ up with unacked := [⟨.bench 8, ⟨8, 16, 0⟩, ⟨.request, .bench 16, 1, 5, 0, 0, true⟩, 3⟩] }).unacked.find? (fun y => y.sender == ({ up with unacked := [⟨.bench 8, ⟨8, 16, 0⟩, ⟨.request, .bench 16, 1, 5, 0, 0, true⟩, 3⟩] }).senderOf (⟨8, 16, 0⟩ : Lane).src && y.flit.chan == (1 : Nat) && y.flit.seq == (5 : Nat)) = some (⟨.bench 8, ⟨8, 16, 0⟩, ⟨.request, .bench 16, 1, 5, 0, 0, true⟩, 3⟩ : Unacked)) ∧
    (3 ≤ (⟨.bench 8, ⟨8, 16, 0⟩, ⟨.request, .bench 16, 1, 5, 0, 0, true⟩, 3⟩ : Unacked).resends) ∧
    (attributedBench (⟨8, 16, 0⟩ : Lane) = none) ∧
    ((({ up with unacked := [⟨.bench 8, ⟨8, 16, 0⟩, ⟨.request, .bench 16, 1, 5, 0, 0, true⟩, 3⟩] }).benchAt (⟨8, 16, 0⟩ : Lane).src).inService = true) ∧
    ((({ up with unacked := [⟨.bench 8, ⟨8, 16, 0⟩, ⟨.request, .bench 16, 1, 5, 0, 0, true⟩, 3⟩] }).benchAt (⟨8, 16, 0⟩ : Lane).dst).inService = true) ∧
    holds (exec (.flitNak (⟨8, 16, 0⟩ : Lane) (1 : Nat) (5 : Nat) (true : Bool)) ({ up with unacked := [⟨.bench 8, ⟨8, 16, 0⟩, ⟨.request, .bench 16, 1, 5, 0, 0, true⟩, 3⟩] })) (fun t => decide (((t.laneAt (⟨8, 16, 0⟩ : Lane)).outOfService = true) ∧ (t.faultDeclared = true))) = true := by decide +kernel

theorem witness_flitsAndBenches_detectionRepairDone :
    ((up.benchAt (17 : Nat)).inService = true) ∧
    ((17 : Nat) < 64) ∧
    ((⟨5, true, none, none, none⟩ : Repair).recovered = true) ∧
    ((⟨5, true, none, none, none⟩ : Repair).slot = none) ∧
    (((up.benchAt (17 : Nat)).repairs.filter fun x => !up.due (x + secU 1)).length < 16) ∧
    holds (exec (.detectionRepairDone (17 : Nat) (⟨5, true, none, none, none⟩ : Repair) (true : Bool)) up) (fun t => decide ((t.rd (F.BENCH_ERR_DET (17 : Nat)) = (up.rd (F.BENCH_ERR_DET (17 : Nat)) + 1) % 2 ^ 32) ∧ ((t.benchAt (17 : Nat)).repairs.head? = some up.now) ∧ ((t.benchAt (17 : Nat)).state = (up.benchAt (17 : Nat)).state))) = true := by decide +kernel

theorem witness_flitsAndBenches_livenessTimeout :
    (isSingleton (4 : Nat) = true) ∧
    ((up.benchAt (4 : Nat)).inService = true) ∧
    holds (exec (.livenessTimeout (4 : Nat) (true : Bool)) up) (fun t => decide (((t.benchAt (4 : Nat)).state = .faulted) ∧ (t.faultDeclared = true))) = true := by decide +kernel

theorem witness_flitsAndBenches_livenessTimeout2 :
    (classInst (17 : Nat) = some ((0 : Nat), (0 : Nat))) ∧
    ((up.benchAt (17 : Nat)).state = .active) ∧
    ((up.benchAt (17 : Nat)).role = some (0 : Nat)) ∧
    (up.spareOf (0 : Nat) = some (4 : Nat)) ∧
    ((up.rotAt (0 : Nat)).busy = none) ∧
    (up.shotPendingNow = false) ∧
    holds (exec (.livenessTimeout (17 : Nat) true) up) (fun t => decide (((t.benchAt (17 : Nat)).state = .faulted) ∧ ((t.benchAt (instBench (0 : Nat) (4 : Nat))).state = .active) ∧ ((t.benchAt (instBench (0 : Nat) (4 : Nat))).role = some (0 : Nat)))) = true := by decide +kernel

theorem witness_flitsAndBenches_selftestComplete :
    (isSingleton (4 : Nat) = true) ∧
    (((up.updBench 4 fun (b : Bench) => { b with state := .selftest, role := none }).benchAt (4 : Nat)).state = .selftest) ∧
    holds (exec (.selftestComplete (4 : Nat) true) (up.updBench 4 fun (b : Bench) => { b with state := .selftest, role := none })) (fun t => decide (((t.benchAt (4 : Nat)).state = .active) ∧ ((t.benchAt (4 : Nat)).role = some 0))) = true := by decide +kernel

theorem witness_flitsAndBenches_selftestComplete2 :
    (isSingleton (4 : Nat) = true) ∧
    (((up.updBench 4 fun (b : Bench) => { b with state := .selftest, role := none }).benchAt (4 : Nat)).state = .selftest) ∧
    holds (exec (.selftestComplete (4 : Nat) false) (up.updBench 4 fun (b : Bench) => { b with state := .selftest, role := none })) (fun t => decide (((t.benchAt (4 : Nat)).state = .faulted) ∧ ((t.benchAt (4 : Nat)).lastFault = some (up.updBench 4 fun (b : Bench) => { b with state := .selftest, role := none }).now) ∧ (t.faultDeclared = true))) = true := by decide +kernel

theorem witness_flitsAndBenches_faultedRetestTimer :
    (((up.updBench 17 fun (b : Bench) => { b with state := .faulted, lastFault := some 5 }).benchAt (17 : Nat)).state = .faulted) ∧
    (((up.updBench 17 fun (b : Bench) => { b with state := .faulted, lastFault := some 5 }).benchAt (17 : Nat)).lastFault = some (5 : Nat)) ∧
    (((up.updBench 17 fun (b : Bench) => { b with state := .faulted, lastFault := some 5 }).benchAt (17 : Nat)).prevFault = none) ∧
    ((up.updBench 17 fun (b : Bench) => { b with state := .faulted, lastFault := some 5 }).due ((5 : Nat) + secU 1) = true) ∧
    holds (exec (.faultedRetestTimer (17 : Nat)) (up.updBench 17 fun (b : Bench) => { b with state := .faulted, lastFault := some 5 })) (fun t => decide (((t.benchAt (17 : Nat)).state = .selftest))) = true := by decide +kernel

theorem witness_flitsAndBenches_rotationPeriodExpiry :
    ((5 : Nat) < 6) ∧
    ((5 : Nat) < ({ up with rot := up.rot.map fun (r : Rotation) => { r with lastDone := some 0 } }).rot.length) ∧
    (({ up with rot := up.rot.map fun (r : Rotation) => { r with lastDone := some 0 } }).periodElapsed (5 : Nat) = true) ∧
    (({ up with rot := up.rot.map fun (r : Rotation) => { r with lastDone := some 0 } }).canRotate (5 : Nat) = true) ∧
    (({ up with rot := up.rot.map fun (r : Rotation) => { r with lastDone := some 0 } }).spareOf (5 : Nat) = some (8 : Nat)) ∧
    (({ up with rot := up.rot.map fun (r : Rotation) => { r with lastDone := some 0 } }).longestActive (5 : Nat) = some ((0 : Nat), (0 : Nat))) ∧
    holds (exec (.rotationPeriodExpiry (5 : Nat)) ({ up with rot := up.rot.map fun (r : Rotation) => { r with lastDone := some 0 } })) (fun t => decide (((t.rotAt (5 : Nat)).busy = some ((0 : Nat), (8 : Nat), (0 : Nat))) ∧ (hasBit (t.rd F.CTL_ROT_STAT_BUSY) (5 : Nat) = true))) = true := by decide +kernel

theorem witness_flitsAndBenches_rotationPeriodExpiry2 :
    ((0 : Nat) < 6) ∧
    ((0 : Nat) < (({ up with rot := up.rot.map fun (r : Rotation) => { r with lastDone := some 0 } }).wr F.CTL_ROT_CFG_ROT_EN 0).rot.length) ∧
    ((({ up with rot := up.rot.map fun (r : Rotation) => { r with lastDone := some 0 } }).wr F.CTL_ROT_CFG_ROT_EN 0).periodElapsed (0 : Nat) = true) ∧
    ((({ up with rot := up.rot.map fun (r : Rotation) => { r with lastDone := some 0 } }).wr F.CTL_ROT_CFG_ROT_EN 0).canRotate (0 : Nat) = false) ∧
    holds (exec (.rotationPeriodExpiry (0 : Nat)) (({ up with rot := up.rot.map fun (r : Rotation) => { r with lastDone := some 0 } }).wr F.CTL_ROT_CFG_ROT_EN 0)) (fun t => decide (((t.rotAt (0 : Nat)).owed = true) ∧ ((t.rotAt (0 : Nat)).busy = ((({ up with rot := up.rot.map fun (r : Rotation) => { r with lastDone := some 0 } }).wr F.CTL_ROT_CFG_ROT_EN 0).rotAt (0 : Nat)).busy))) = true := by decide +kernel

theorem witness_flitsAndBenches_ctlRotNow :
    ((5 : Nat) < 6) ∧
    ((5 : Nat) < up.rot.length) ∧
    ((0x20 : Word).toNat = 2 ^ (5 : Nat)) ∧
    (up.reloading 0 = false) ∧
    (up.canRotate (5 : Nat) = true) ∧
    (up.spareOf (5 : Nat) = some (8 : Nat)) ∧
    (up.longestActive (5 : Nat) = some ((0 : Nat), (0 : Nat))) ∧
    holds (exec (.ctlRotNow (0x20 : Word)) up) (fun t => decide (((t.rotAt (5 : Nat)).busy = some ((0 : Nat), (8 : Nat), (0 : Nat))))) = true := by decide +kernel

theorem witness_flitsAndBenches_ctlRotCfgWrite :
    (up.reloading 0 = false) ∧
    (1 ≤ fieldGet (0x00005A001 : Word) 18 8) ∧
    (fieldGet (0x00005A001 : Word) 18 8 ≤ 1440) ∧
    holds (exec (.ctlRotCfgWrite (0x00005A001 : Word)) up) (fun t => decide ((t.rd F.CTL_ROT_CFG_PERIOD_MIN = fieldGet (0x00005A001 : Word) 18 8) ∧ (t.rd F.CTL_ROT_CFG_ROT_EN = fieldGet (0x00005A001 : Word) 0 0) ∧ (t.rd F.CTL_ROT_CFG_CLASS_DIS = fieldGet (0x00005A001 : Word) 29 24))) = true := by decide +kernel

theorem witness_flitsAndBenches_rotationDrained :
    ((0 : Nat) < 6) ∧
    ((({ up with rot := up.rot.map fun (r : Rotation) => { r with busy := some (1, 4, 1) } }).rotAt (0 : Nat)).busy = some ((1 : Nat), (4 : Nat), (1 : Nat))) ∧
    (({ up with rot := up.rot.map fun (r : Rotation) => { r with busy := some (1, 4, 1) } }).shotPendingNow = false) ∧
    ((1 : Nat) ≠ (4 : Nat)) ∧
    ((({ up with rot := up.rot.map fun (r : Rotation) => { r with busy := some (1, 4, 1) } }).benchAt (instBench (0 : Nat) (4 : Nat))).state = .spare) ∧
    ((({ up with rot := up.rot.map fun (r : Rotation) => { r with busy := some (1, 4, 1) } }).benchAt (instBench (0 : Nat) (1 : Nat))).state = .active) ∧
    holds (exec (.rotationDrained (0 : Nat)) ({ up with rot := up.rot.map fun (r : Rotation) => { r with busy := some (1, 4, 1) } })) (fun t => decide (((t.benchAt (instBench (0 : Nat) (4 : Nat))).role = some (1 : Nat)) ∧ ((t.benchAt (instBench (0 : Nat) (4 : Nat))).state = .active) ∧ ((t.benchAt (instBench (0 : Nat) (1 : Nat))).role = none) ∧ ((t.benchAt (instBench (0 : Nat) (1 : Nat))).state = .selftest) ∧ ((t.rotAt (0 : Nat)).busy = none))) = true := by decide +kernel

theorem witness_timeBase_timeMarker :
    ((3 : Nat) < 57) ∧
    ((up.benchAt (3 : Nat)).state ≠ .off) ∧
    (([(3, 5), (4, -4)] : List (Nat × Int)).find? (fun p => p.1 == (3 : Nat)) = some ((3 : Nat), (5 : Int))) ∧
    (∀ m, up.tim.lastMarker = some m → m + 4096 ≤ up.now) ∧
    holds (exec (.timeMarker ([(3, 5), (4, -4)] : List (Nat × Int))) up) (fun t => decide (((t.benchAt (3 : Nat)).timeLock = decide ((5 : Int).natAbs ≤ 4)) ∧ ((t.benchAt (3 : Nat)).deviation = (if (5 : Int).natAbs ≤ 4 then 0 else max (-16) (min 16 (5 : Int)))) ∧ ((t.benchAt (3 : Nat)).foundAt = up.now))) = true := by decide +kernel

theorem witness_timeBase_servoUpdate :
    ((1 : Nat) ≠ 0) ∧
    (((up.wr F.TIM_SRC_CFG_SRC 1).wr F.TIM_STAT_SERVING 0).rd F.TIM_SRC_CFG_SRC = (1 : Nat)) ∧
    (((up.wr F.TIM_SRC_CFG_SRC 1).wr F.TIM_STAT_SERVING 0).servo = 0) ∧
    (((up.wr F.TIM_SRC_CFG_SRC 1).wr F.TIM_STAT_SERVING 0).now + (8 : Int).natAbs < 2 ^ 64) ∧
    holds (exec (.servoUpdate (1 : Nat) (8 : Int)) ((up.wr F.TIM_SRC_CFG_SRC 1).wr F.TIM_STAT_SERVING 0)) (fun t => decide ((t.rd F.TIM_OFFSET = sat32 (8 : Int)) ∧ (t.servo = 1) ∧ (t.tim.lockRun = 0) ∧ (t.tim.lastUpdate = some t.now))) = true := by decide +kernel

theorem witness_timeBase_servoUpdateTimeout :
    ((up.wr F.TIM_STAT_STATE 2).servo = 1 ∨ (up.wr F.TIM_STAT_STATE 2).servo = 2) ∧
    ((up.wr F.TIM_STAT_STATE 2).due ((up.wr F.TIM_STAT_STATE 2).tim.lastUpdate.getD 0 + secU 3) = true) ∧
    holds (exec .servoUpdateTimeout (up.wr F.TIM_STAT_STATE 2)) (fun t => decide ((t.servo = 3) ∧ (t.rd F.TIM_RATE = (up.wr F.TIM_STAT_STATE 2).rd F.TIM_RATE) ∧ (t.tim = (up.wr F.TIM_STAT_STATE 2).tim))) = true := by decide +kernel

theorem witness_timeBase_holdoverExpiry :
    (({ up.wr F.TIM_STAT_STATE 3 with tim := { Tim.cold with count := BitVec.ofNat 64 (hourU 25) } }).servo = 3) ∧
    (({ up.wr F.TIM_STAT_STATE 3 with tim := { Tim.cold with count := BitVec.ofNat 64 (hourU 25) } }).due (({ up.wr F.TIM_STAT_STATE 3 with tim := { Tim.cold with count := BitVec.ofNat 64 (hourU 25) } }).tim.lastUpdate.getD 0 + hourU 24) = true) ∧
    holds (exec .holdoverExpiry ({ up.wr F.TIM_STAT_STATE 3 with tim := { Tim.cold with count := BitVec.ofNat 64 (hourU 25) } })) (fun t => decide ((t.servo = 0) ∧ (t.rd F.TIM_RATE = ({ up.wr F.TIM_STAT_STATE 3 with tim := { Tim.cold with count := BitVec.ofNat 64 (hourU 25) } }).rd F.TIM_RATE))) = true := by decide +kernel

theorem witness_timeBase_timSrcCfgWrite :
    ((up.wr F.TIM_STAT_STATE 2).reloading 2 = false) ∧
    (hasBit (0 : Word).toNat 31 = false) ∧
    holds (exec (.timSrcCfgWrite (0 : Word)) (up.wr F.TIM_STAT_STATE 2)) (fun t => decide ((t.rd F.TIM_SRC_CFG_SRC = (0 : Word).toNat % 4) ∧ (t.servo = (if (0 : Word).toNat % 4 = 0 then 0 else (up.wr F.TIM_STAT_STATE 2).servo)) ∧ (t.tim = (up.wr F.TIM_STAT_STATE 2).tim))) = true := by decide +kernel

theorem witness_timeBase_timSetStep :
    (((up.wr F.TIM_STAT_SERVING 0).wr F.TIM_SET_HI 0x10000000).reloading 2 = false) ∧
    (((up.wr F.TIM_STAT_SERVING 0).wr F.TIM_SET_HI 0x10000000).isSet F.TIM_STAT_SERVING = false) ∧
    (((up.wr F.TIM_STAT_SERVING 0).wr F.TIM_SET_HI 0x10000000).now < ((up.wr F.TIM_STAT_SERVING 0).wr F.TIM_SET_HI 0x10000000).rd64 F.TIM_SET_LO F.TIM_SET_HI) ∧
    holds (exec (.timSetStep (1 : Word)) ((up.wr F.TIM_STAT_SERVING 0).wr F.TIM_SET_HI 0x10000000)) (fun t => decide ((t.tim.count.toNat = ((up.wr F.TIM_STAT_SERVING 0).wr F.TIM_SET_HI 0x10000000).rd64 F.TIM_SET_LO F.TIM_SET_HI) ∧ (t.rd F.TIM_STAT_SET_IGN = ((up.wr F.TIM_STAT_SERVING 0).wr F.TIM_SET_HI 0x10000000).rd F.TIM_STAT_SET_IGN))) = true := by decide +kernel

theorem witness_timeBase_timSetStep2 :
    (up.reloading 2 = false) ∧
    (up.isSet F.TIM_STAT_SERVING = true) ∧
    holds (exec (.timSetStep (1 : Word)) up) (fun t => decide ((t.tim = up.tim) ∧ (t.rd F.TIM_STAT_SET_IGN = (up.rd F.TIM_STAT_SET_IGN + 1) % 256))) = true := by decide +kernel

theorem witness_timeBase_ppsInEdge :
    ((up.wr F.TIM_PPS_CFG_IN_EN 1).isSet F.TIM_PPS_CFG_IN_EN = true) ∧
    ((up.wr F.TIM_PPS_CFG_IN_EN 1).rd F.TIM_SRC_CFG_SRC ≠ 2) ∧
    holds (exec .ppsInEdge (up.wr F.TIM_PPS_CFG_IN_EN 1)) (fun t => decide ((t.tim.ppsInLast = some (up.wr F.TIM_PPS_CFG_IN_EN 1).now) ∧ (t.tim.ppsInFrom = (up.wr F.TIM_PPS_CFG_IN_EN 1).now) ∧ (t.tim.ppsMissRaised = false) ∧ (t.tim.count = (up.wr F.TIM_PPS_CFG_IN_EN 1).tim.count))) = true := by decide +kernel

theorem witness_timeBase_ppsInMissing :
    ((up.wr F.TIM_PPS_CFG_IN_EN 1).isSet F.TIM_PPS_CFG_IN_EN = true) ∧
    ((up.wr F.TIM_PPS_CFG_IN_EN 1).tim.ppsMissRaised = false) ∧
    ((up.wr F.TIM_PPS_CFG_IN_EN 1).due ((up.wr F.TIM_PPS_CFG_IN_EN 1).tim.ppsInFrom + msU 1100) = true) ∧
    (((up.wr F.TIM_PPS_CFG_IN_EN 1).benchAt 2).state ≠ .off) ∧
    holds (exec .ppsInMissing (up.wr F.TIM_PPS_CFG_IN_EN 1)) (fun t => decide ((t.tim.ppsMissRaised = true) ∧ (hasBit (t.rd (F.BENCH_EV_STAT 2)) 10 = true))) = true := by decide +kernel

theorem witness_timeBase_ppsOutSecond :
    ((up.wr F.TIM_PPS_CFG_OUT_EN 1).isSet F.TIM_PPS_CFG_OUT_EN = true) ∧
    (0 < (up.wr F.TIM_PPS_CFG_OUT_EN 1).lastPpsOut) ∧
    (((up.wr F.TIM_PPS_CFG_OUT_EN 1).tim.ppsOutFrom : Int) ≤ (up.wr F.TIM_PPS_CFG_OUT_EN 1).lastPpsOut) ∧
    (((up.wr F.TIM_PPS_CFG_OUT_EN 1).tim.ppsOutRise.getD 0 : Int) < (up.wr F.TIM_PPS_CFG_OUT_EN 1).lastPpsOut) ∧
    holds (exec .ppsOutSecond (up.wr F.TIM_PPS_CFG_OUT_EN 1)) (fun t => decide ((t.tim.ppsOut = true) ∧ (t.tim.ppsOutRise = some (up.wr F.TIM_PPS_CFG_OUT_EN 1).lastPpsOut.toNat))) = true := by decide +kernel

theorem witness_timeBase_ppsOutWidthEnd :
    (({ up with tim := { up.tim with ppsOut := true, ppsOutRise := some 0 } }).tim.ppsOut = true) ∧
    (({ up with tim := { up.tim with ppsOut := true, ppsOutRise := some 0 } }).tim.ppsOutRise = some (0 : Nat)) ∧
    (({ up with tim := { up.tim with ppsOut := true, ppsOutRise := some 0 } }).due ((0 : Nat) + usU (({ up with tim := { up.tim with ppsOut := true, ppsOutRise := some 0 } }).rd F.TIM_PPS_CFG_WIDTH_US)) = true) ∧
    holds (exec .ppsOutWidthEnd ({ up with tim := { up.tim with ppsOut := true, ppsOutRise := some 0 } })) (fun t => decide ((t = { ({ up with tim := { up.tim with ppsOut := true, ppsOutRise := some 0 } }) with tim := { ({ up with tim := { up.tim with ppsOut := true, ppsOutRise := some 0 } }).tim with ppsOut := false } }))) = true := by decide +kernel

theorem witness_timeBase_ptpMessage :
    (ptpPortOf up.ptpCfg (28 : Nat) = some (7 : Nat)) ∧
    (up.ptpCfg.domain ≤ 127) ∧
    (∀ y, up.tim.ptp.find? (fun p => p.port == (7 : Nat)) = some y → y.state = .master) ∧
    holds (exec (.ptpMessage (⟨(28 : Nat), (.udp6 : PtpTransport), up.ptpCfg.domain, .delayReq⟩)) up) (fun t => decide ((t = { up with out := .ptpResponse (28 : Nat) (.udp6 : PtpTransport) false :: up.out }))) = true := by decide +kernel

theorem witness_timeBase_ptpMessage2 :
    (ptpPortOf up.ptpCfg (28 : Nat) = some (7 : Nat)) ∧
    (up.ptpCfg.domain ≤ 127) ∧
    holds (exec (.ptpMessage (⟨(28 : Nat), (.udp6 : PtpTransport), up.ptpCfg.domain, .pdelayReq⟩)) up) (fun t => decide ((t = { up with out := .ptpResponse (28 : Nat) (.udp6 : PtpTransport) true :: up.out }))) = true := by decide +kernel

theorem witness_timeBase_ptpMessage3 :
    (ptpPortOf up.ptpCfg (0 : Nat) = some (0 : Nat)) ∧
    (up.ptpCfg.domain ≤ 127) ∧
    (up.tim.ptp = []) ∧
    (127 < up.ptpCfg.clock.cls) ∧
    (betterClock (⟨1, 6, 0x20, 5, 1, 9, 1⟩ : ClockDs) up.ptpCfg.clock = true) ∧
    (betterClock up.ptpCfg.clock (⟨1, 6, 0x20, 5, 1, 9, 1⟩ : ClockDs) = false) ∧
    holds (exec (.ptpMessage (⟨(0 : Nat), (.ieee8023 : PtpTransport), up.ptpCfg.domain, .announce (⟨1, 6, 0x20, 5, 1, 9, 1⟩ : ClockDs) (-37 : Int)⟩)) up) (fun t => decide ((t.rd F.TIM_UTC_OFS = sat32 (-37 : Int)) ∧ (t.tim.ptp = [⟨(0 : Nat), .slave, some (⟨1, 6, 0x20, 5, 1, 9, 1⟩ : ClockDs), none⟩]) ∧ (t.tim.count = up.tim.count))) = true := by decide +kernel

theorem witness_timeBase_ptpMessage4 :
    (ptpPortOf up.ptpCfg (⟨1, .ieee8023, 0, .delayReq⟩ : PtpMsg).mac = none ∨ (⟨1, .ieee8023, 0, .delayReq⟩ : PtpMsg).domain ≠ up.ptpCfg.domain ∨ (⟨1, .ieee8023, 0, .delayReq⟩ : PtpMsg).body = .unsupported) ∧
    holds (exec (.ptpMessage (⟨1, .ieee8023, 0, .delayReq⟩ : PtpMsg)) up) (fun t => decide ((t = up))) = true := by decide +kernel

theorem witness_shots_shotInEdge :
    (({ up.wr F.TIM_SHOT_CFG_PIN_EN 1 with tim := { up.tim with shots := [⟨secU 2000, 2, 1⟩], fired := [4] } }).isSet F.TIM_SHOT_CFG_PIN_EN = true) ∧
    (({ up.wr F.TIM_SHOT_CFG_PIN_EN 1 with tim := { up.tim with shots := [⟨secU 2000, 2, 1⟩], fired := [4] } }).isSet F.TIM_SHOT_STAT_HELD = false) ∧
    (∀ x ∈ ({ up.wr F.TIM_SHOT_CFG_PIN_EN 1 with tim := { up.tim with shots := [⟨secU 2000, 2, 1⟩], fired := [4] } }).tim.shots, x.time + usU 10 ≤ ({ up.wr F.TIM_SHOT_CFG_PIN_EN 1 with tim := { up.tim with shots := [⟨secU 2000, 2, 1⟩], fired := [4] } }).now + ({ up.wr F.TIM_SHOT_CFG_PIN_EN 1 with tim := { up.tim with shots := [⟨secU 2000, 2, 1⟩], fired := [4] } }).lead ∨ ({ up.wr F.TIM_SHOT_CFG_PIN_EN 1 with tim := { up.tim with shots := [⟨secU 2000, 2, 1⟩], fired := [4] } }).now + ({ up.wr F.TIM_SHOT_CFG_PIN_EN 1 with tim := { up.tim with shots := [⟨secU 2000, 2, 1⟩], fired := [4] } }).lead + usU 10 ≤ x.time) ∧
    (∀ f ∈ ({ up.wr F.TIM_SHOT_CFG_PIN_EN 1 with tim := { up.tim with shots := [⟨secU 2000, 2, 1⟩], fired := [4] } }).tim.fired, f + usU 10 ≤ ({ up.wr F.TIM_SHOT_CFG_PIN_EN 1 with tim := { up.tim with shots := [⟨secU 2000, 2, 1⟩], fired := [4] } }).now + ({ up.wr F.TIM_SHOT_CFG_PIN_EN 1 with tim := { up.tim with shots := [⟨secU 2000, 2, 1⟩], fired := [4] } }).lead ∨ ({ up.wr F.TIM_SHOT_CFG_PIN_EN 1 with tim := { up.tim with shots := [⟨secU 2000, 2, 1⟩], fired := [4] } }).now + ({ up.wr F.TIM_SHOT_CFG_PIN_EN 1 with tim := { up.tim with shots := [⟨secU 2000, 2, 1⟩], fired := [4] } }).lead + usU 10 ≤ f ∨ f = ({ up.wr F.TIM_SHOT_CFG_PIN_EN 1 with tim := { up.tim with shots := [⟨secU 2000, 2, 1⟩], fired := [4] } }).now + ({ up.wr F.TIM_SHOT_CFG_PIN_EN 1 with tim := { up.tim with shots := [⟨secU 2000, 2, 1⟩], fired := [4] } }).lead) ∧
    holds (exec .shotInEdge ({ up.wr F.TIM_SHOT_CFG_PIN_EN 1 with tim := { up.tim with shots := [⟨secU 2000, 2, 1⟩], fired := [4] } })) (fun t => decide ((t.tim.shots = ({ up.wr F.TIM_SHOT_CFG_PIN_EN 1 with tim := { up.tim with shots := [⟨secU 2000, 2, 1⟩], fired := [4] } }).tim.shots ++ [⟨({ up.wr F.TIM_SHOT_CFG_PIN_EN 1 with tim := { up.tim with shots := [⟨secU 2000, 2, 1⟩], fired := [4] } }).now + ({ up.wr F.TIM_SHOT_CFG_PIN_EN 1 with tim := { up.tim with shots := [⟨secU 2000, 2, 1⟩], fired := [4] } }).lead, 1, ({ up.wr F.TIM_SHOT_CFG_PIN_EN 1 with tim := { up.tim with shots := [⟨secU 2000, 2, 1⟩], fired := [4] } }).now⟩]) ∧ (t.rd F.TIM_SHOT_STAT_PENDING = (({ up.wr F.TIM_SHOT_CFG_PIN_EN 1 with tim := { up.tim with shots := [⟨secU 2000, 2, 1⟩], fired := [4] } }).tim.shots.filter Shot.scheduled).length % 16) ∧ (t.rd F.TIM_SHOT_STAT_REFUSED = ({ up.wr F.TIM_SHOT_CFG_PIN_EN 1 with tim := { up.tim with shots := [⟨secU 2000, 2, 1⟩], fired := [4] } }).rd F.TIM_SHOT_STAT_REFUSED))) = true := by decide +kernel

theorem witness_shots_shotInEdge2 :
    (up.isSet F.TIM_SHOT_CFG_PIN_EN = false) ∧
    holds (exec .shotInEdge up) (fun t => decide ((t = up))) = true := by decide +kernel

theorem witness_shots_shotFire :
    (({ up with tim := { up.tim with shots := [⟨secU 2000, 2, 1⟩], fired := [4] } }).reloading 2 = false) ∧
    (({ up with tim := { up.tim with shots := [⟨secU 2000, 2, 1⟩], fired := [4] } }).isSet F.TIM_SHOT_STAT_HELD = false) ∧
    (∀ x ∈ ({ up with tim := { up.tim with shots := [⟨secU 2000, 2, 1⟩], fired := [4] } }).tim.shots, x.time + usU 10 ≤ ({ up with tim := { up.tim with shots := [⟨secU 2000, 2, 1⟩], fired := [4] } }).now + ({ up with tim := { up.tim with shots := [⟨secU 2000, 2, 1⟩], fired := [4] } }).lead ∨ ({ up with tim := { up.tim with shots := [⟨secU 2000, 2, 1⟩], fired := [4] } }).now + ({ up with tim := { up.tim with shots := [⟨secU 2000, 2, 1⟩], fired := [4] } }).lead + usU 10 ≤ x.time) ∧
    (∀ f ∈ ({ up with tim := { up.tim with shots := [⟨secU 2000, 2, 1⟩], fired := [4] } }).tim.fired, f + usU 10 ≤ ({ up with tim := { up.tim with shots := [⟨secU 2000, 2, 1⟩], fired := [4] } }).now + ({ up with tim := { up.tim with shots := [⟨secU 2000, 2, 1⟩], fired := [4] } }).lead ∨ ({ up with tim := { up.tim with shots := [⟨secU 2000, 2, 1⟩], fired := [4] } }).now + ({ up with tim := { up.tim with shots := [⟨secU 2000, 2, 1⟩], fired := [4] } }).lead + usU 10 ≤ f ∨ f = ({ up with tim := { up.tim with shots := [⟨secU 2000, 2, 1⟩], fired := [4] } }).now + ({ up with tim := { up.tim with shots := [⟨secU 2000, 2, 1⟩], fired := [4] } }).lead) ∧
    holds (exec .shotFire ({ up with tim := { up.tim with shots := [⟨secU 2000, 2, 1⟩], fired := [4] } })) (fun t => decide ((t.tim.shots = ({ up with tim := { up.tim with shots := [⟨secU 2000, 2, 1⟩], fired := [4] } }).tim.shots ++ [⟨({ up with tim := { up.tim with shots := [⟨secU 2000, 2, 1⟩], fired := [4] } }).now + ({ up with tim := { up.tim with shots := [⟨secU 2000, 2, 1⟩], fired := [4] } }).lead, 8, ({ up with tim := { up.tim with shots := [⟨secU 2000, 2, 1⟩], fired := [4] } }).now⟩]) ∧ (t.rd F.TIM_SHOT_STAT_PENDING = (({ up with tim := { up.tim with shots := [⟨secU 2000, 2, 1⟩], fired := [4] } }).tim.shots.filter Shot.scheduled).length % 16))) = true := by decide +kernel

theorem witness_shots_shotFire2 :
    (({ up with tim := { up.tim with shots := [⟨up.now + up.lead, 2, 1⟩] } }).reloading 2 = false) ∧
    (({ up with tim := { up.tim with shots := [⟨up.now + up.lead, 2, 1⟩] } }).isSet F.TIM_SHOT_STAT_HELD = false) ∧
    (({ up with tim := { up.tim with shots := [⟨up.now + up.lead, 2, 1⟩] } }).tim.shots = [(⟨up.now + up.lead, 2, 1⟩ : Shot)]) ∧
    ((⟨up.now + up.lead, 2, 1⟩ : Shot).time = ({ up with tim := { up.tim with shots := [⟨up.now + up.lead, 2, 1⟩] } }).now + ({ up with tim := { up.tim with shots := [⟨up.now + up.lead, 2, 1⟩] } }).lead) ∧
    holds (exec .shotFire ({ up with tim := { up.tim with shots := [⟨up.now + up.lead, 2, 1⟩] } })) (fun t => decide ((t.tim.shots = [{ (⟨up.now + up.lead, 2, 1⟩ : Shot) with causes := (⟨up.now + up.lead, 2, 1⟩ : Shot).causes ||| 8 }]) ∧ (t.tim.fired = ({ up with tim := { up.tim with shots := [⟨up.now + up.lead, 2, 1⟩] } }).tim.fired))) = true := by decide +kernel

theorem witness_shots_shotFire3 :
    ((up.wr F.TIM_SHOT_STAT_HELD 1).reloading 2 = false) ∧
    ((up.wr F.TIM_SHOT_STAT_HELD 1).isSet F.TIM_SHOT_STAT_HELD = true) ∧
    holds (exec .shotFire (up.wr F.TIM_SHOT_STAT_HELD 1)) (fun t => decide ((t.tim = (up.wr F.TIM_SHOT_STAT_HELD 1).tim) ∧ (t.rd F.TIM_SHOT_STAT_REFUSED = ((up.wr F.TIM_SHOT_STAT_HELD 1).rd F.TIM_SHOT_STAT_REFUSED + 1) % 256))) = true := by decide +kernel

theorem witness_shots_shotSched :
    (({ up.wr F.TIM_SHOT_AT_HI 0x10000000 with tim := { up.tim with shots := [⟨secU 2000, 2, 1⟩], fired := [4] } }).reloading 2 = false) ∧
    (({ up.wr F.TIM_SHOT_AT_HI 0x10000000 with tim := { up.tim with shots := [⟨secU 2000, 2, 1⟩], fired := [4] } }).isSet F.TIM_SHOT_STAT_HELD = false) ∧
    (({ up.wr F.TIM_SHOT_AT_HI 0x10000000 with tim := { up.tim with shots := [⟨secU 2000, 2, 1⟩], fired := [4] } }).now + ({ up.wr F.TIM_SHOT_AT_HI 0x10000000 with tim := { up.tim with shots := [⟨secU 2000, 2, 1⟩], fired := [4] } }).lead ≤ ({ up.wr F.TIM_SHOT_AT_HI 0x10000000 with tim := { up.tim with shots := [⟨secU 2000, 2, 1⟩], fired := [4] } }).shotAt) ∧
    ((({ up.wr F.TIM_SHOT_AT_HI 0x10000000 with tim := { up.tim with shots := [⟨secU 2000, 2, 1⟩], fired := [4] } }).tim.shots.filter Shot.scheduled).length < 8) ∧
    (∀ x ∈ ({ up.wr F.TIM_SHOT_AT_HI 0x10000000 with tim := { up.tim with shots := [⟨secU 2000, 2, 1⟩], fired := [4] } }).tim.shots, x.time + usU 10 ≤ ({ up.wr F.TIM_SHOT_AT_HI 0x10000000 with tim := { up.tim with shots := [⟨secU 2000, 2, 1⟩], fired := [4] } }).shotAt ∨ ({ up.wr F.TIM_SHOT_AT_HI 0x10000000 with tim := { up.tim with shots := [⟨secU 2000, 2, 1⟩], fired := [4] } }).shotAt + usU 10 ≤ x.time) ∧
    (∀ f ∈ ({ up.wr F.TIM_SHOT_AT_HI 0x10000000 with tim := { up.tim with shots := [⟨secU 2000, 2, 1⟩], fired := [4] } }).tim.fired, f + usU 10 ≤ ({ up.wr F.TIM_SHOT_AT_HI 0x10000000 with tim := { up.tim with shots := [⟨secU 2000, 2, 1⟩], fired := [4] } }).shotAt ∨ ({ up.wr F.TIM_SHOT_AT_HI 0x10000000 with tim := { up.tim with shots := [⟨secU 2000, 2, 1⟩], fired := [4] } }).shotAt + usU 10 ≤ f ∨ f = ({ up.wr F.TIM_SHOT_AT_HI 0x10000000 with tim := { up.tim with shots := [⟨secU 2000, 2, 1⟩], fired := [4] } }).shotAt) ∧
    holds (exec .shotSched ({ up.wr F.TIM_SHOT_AT_HI 0x10000000 with tim := { up.tim with shots := [⟨secU 2000, 2, 1⟩], fired := [4] } })) (fun t => decide ((t.tim.shots = ({ up.wr F.TIM_SHOT_AT_HI 0x10000000 with tim := { up.tim with shots := [⟨secU 2000, 2, 1⟩], fired := [4] } }).tim.shots ++ [⟨({ up.wr F.TIM_SHOT_AT_HI 0x10000000 with tim := { up.tim with shots := [⟨secU 2000, 2, 1⟩], fired := [4] } }).shotAt, 2, ({ up.wr F.TIM_SHOT_AT_HI 0x10000000 with tim := { up.tim with shots := [⟨secU 2000, 2, 1⟩], fired := [4] } }).now⟩]) ∧ (t.rd F.TIM_SHOT_STAT_PENDING = ((({ up.wr F.TIM_SHOT_AT_HI 0x10000000 with tim := { up.tim with shots := [⟨secU 2000, 2, 1⟩], fired := [4] } }).tim.shots.filter Shot.scheduled).length + 1) % 16))) = true := by decide +kernel

theorem witness_shots_shotChainIssue :
    (({ up.wr F.TIM_SHOT_AT_HI 0x10000000 with tim := { up.tim with shots := [⟨secU 2000, 2, 1⟩], fired := [4] } }).reloading 2 = false) ∧
    (({ up.wr F.TIM_SHOT_AT_HI 0x10000000 with tim := { up.tim with shots := [⟨secU 2000, 2, 1⟩], fired := [4] } }).isSet F.TIM_SHOT_STAT_HELD = false) ∧
    (({ up.wr F.TIM_SHOT_AT_HI 0x10000000 with tim := { up.tim with shots := [⟨secU 2000, 2, 1⟩], fired := [4] } }).now + usU 100 ≤ ({ up.wr F.TIM_SHOT_AT_HI 0x10000000 with tim := { up.tim with shots := [⟨secU 2000, 2, 1⟩], fired := [4] } }).shotAt) ∧
    ((({ up.wr F.TIM_SHOT_AT_HI 0x10000000 with tim := { up.tim with shots := [⟨secU 2000, 2, 1⟩], fired := [4] } }).tim.shots.filter Shot.scheduled).length < 8) ∧
    (∀ x ∈ ({ up.wr F.TIM_SHOT_AT_HI 0x10000000 with tim := { up.tim with shots := [⟨secU 2000, 2, 1⟩], fired := [4] } }).tim.shots, x.time + usU 10 ≤ ({ up.wr F.TIM_SHOT_AT_HI 0x10000000 with tim := { up.tim with shots := [⟨secU 2000, 2, 1⟩], fired := [4] } }).shotAt ∨ ({ up.wr F.TIM_SHOT_AT_HI 0x10000000 with tim := { up.tim with shots := [⟨secU 2000, 2, 1⟩], fired := [4] } }).shotAt + usU 10 ≤ x.time) ∧
    (∀ f ∈ ({ up.wr F.TIM_SHOT_AT_HI 0x10000000 with tim := { up.tim with shots := [⟨secU 2000, 2, 1⟩], fired := [4] } }).tim.fired, f + usU 10 ≤ ({ up.wr F.TIM_SHOT_AT_HI 0x10000000 with tim := { up.tim with shots := [⟨secU 2000, 2, 1⟩], fired := [4] } }).shotAt ∨ ({ up.wr F.TIM_SHOT_AT_HI 0x10000000 with tim := { up.tim with shots := [⟨secU 2000, 2, 1⟩], fired := [4] } }).shotAt + usU 10 ≤ f ∨ f = ({ up.wr F.TIM_SHOT_AT_HI 0x10000000 with tim := { up.tim with shots := [⟨secU 2000, 2, 1⟩], fired := [4] } }).shotAt) ∧
    holds (exec .shotChainIssue ({ up.wr F.TIM_SHOT_AT_HI 0x10000000 with tim := { up.tim with shots := [⟨secU 2000, 2, 1⟩], fired := [4] } })) (fun t => decide ((t.tim.shots = ({ up.wr F.TIM_SHOT_AT_HI 0x10000000 with tim := { up.tim with shots := [⟨secU 2000, 2, 1⟩], fired := [4] } }).tim.shots ++ [⟨({ up.wr F.TIM_SHOT_AT_HI 0x10000000 with tim := { up.tim with shots := [⟨secU 2000, 2, 1⟩], fired := [4] } }).shotAt, 2, ({ up.wr F.TIM_SHOT_AT_HI 0x10000000 with tim := { up.tim with shots := [⟨secU 2000, 2, 1⟩], fired := [4] } }).now⟩]) ∧ (t.out = .chainShot ({ up.wr F.TIM_SHOT_AT_HI 0x10000000 with tim := { up.tim with shots := [⟨secU 2000, 2, 1⟩], fired := [4] } }).shotAt (({ up.wr F.TIM_SHOT_AT_HI 0x10000000 with tim := { up.tim with shots := [⟨secU 2000, 2, 1⟩], fired := [4] } }).rd F.CHN_CHAIN_STAT_ADDR) :: ({ up.wr F.TIM_SHOT_AT_HI 0x10000000 with tim := { up.tim with shots := [⟨secU 2000, 2, 1⟩], fired := [4] } }).out) ∧ (t.rd F.CHN_TX_FRM = (({ up.wr F.TIM_SHOT_AT_HI 0x10000000 with tim := { up.tim with shots := [⟨secU 2000, 2, 1⟩], fired := [4] } }).rd F.CHN_TX_FRM + 1) % 2 ^ 32))) = true := by decide +kernel

theorem witness_shots_shotCancel :
    (({ up with tim := { up.tim with shots := [⟨5, 2, 1⟩, ⟨8, 25, 1⟩, ⟨9, 1, 1⟩] } }).reloading 2 = false) ∧
    holds (exec .shotCancel ({ up with tim := { up.tim with shots := [⟨5, 2, 1⟩, ⟨8, 25, 1⟩, ⟨9, 1, 1⟩] } })) (fun t => decide ((t.tim.shots.all (fun x => !x.scheduled) = true) ∧ (t.rd F.TIM_SHOT_STAT_PENDING = 0) ∧ (t.tim.fired = ({ up with tim := { up.tim with shots := [⟨5, 2, 1⟩, ⟨8, 25, 1⟩, ⟨9, 1, 1⟩] } }).tim.fired) ∧ (∀ x ∈ ({ up with tim := { up.tim with shots := [⟨5, 2, 1⟩, ⟨8, 25, 1⟩, ⟨9, 1, 1⟩] } }).tim.shots, x.scheduled = false → x.causes ≠ 0 → x ∈ t.tim.shots))) = true := by decide +kernel

theorem witness_shots_shotRelease :
    ((up.wr F.TIM_SHOT_STAT_HELD 1).reloading 2 = false) ∧
    holds (exec .shotRelease (up.wr F.TIM_SHOT_STAT_HELD 1)) (fun t => decide ((t.isSet F.TIM_SHOT_STAT_HELD = false) ∧ (t.tim = (up.wr F.TIM_SHOT_STAT_HELD 1).tim))) = true := by decide +kernel

theorem witness_shots_shotOutPulseEnd :
    (({ up with tim := { up.tim with shotOut := true, shotOutRise := 1 } }).tim.shotOut = true) ∧
    (({ up with tim := { up.tim with shotOut := true, shotOutRise := 1 } }).due (({ up with tim := { up.tim with shotOut := true, shotOutRise := 1 } }).tim.shotOutRise + nsU 100) = true) ∧
    holds (exec .shotOutPulseEnd ({ up with tim := { up.tim with shotOut := true, shotOutRise := 1 } })) (fun t => decide ((t = { ({ up with tim := { up.tim with shotOut := true, shotOutRise := 1 } }) with tim := { ({ up with tim := { up.tim with shotOut := true, shotOutRise := 1 } }).tim with shotOut := false } }))) = true := by decide +kernel

theorem witness_shots_shotTimeReached :
    (({ up with tim := { up.tim with shots := [⟨5, 2, 1⟩] } }).tim.shots = [(⟨5, 2, 1⟩ : Shot)]) ∧
    (({ up with tim := { up.tim with shots := [⟨5, 2, 1⟩] } }).due (⟨5, 2, 1⟩ : Shot).time = true) ∧
    (({ up with tim := { up.tim with shots := [⟨5, 2, 1⟩] } }).isSet F.TIM_SHOT_STAT_HELD = false) ∧
    ((56 : Nat) < 57) ∧
    ((({ up with tim := { up.tim with shots := [⟨5, 2, 1⟩] } }).benchAt (56 : Nat)).inService = true) ∧
    holds (exec .shotTimeReached ({ up with tim := { up.tim with shots := [⟨5, 2, 1⟩] } })) (fun t => decide ((t.tim.shots = []) ∧ (t.tim.fired.head? = some (⟨5, 2, 1⟩ : Shot).time) ∧ (t.tim.shotOut = true) ∧ (t.tim.shotOutRise = (⟨5, 2, 1⟩ : Shot).time) ∧ (t.rd F.TIM_SHOT_SEQ = (if ({ up with tim := { up.tim with shots := [⟨5, 2, 1⟩] } }).rd F.TIM_SHOT_SEQ = 2 ^ 32 - 1 then 1 else ({ up with tim := { up.tim with shots := [⟨5, 2, 1⟩] } }).rd F.TIM_SHOT_SEQ + 1)) ∧ ((t.benchAt (56 : Nat)).snap.seq = t.rd F.TIM_SHOT_SEQ) ∧ ((t.benchAt (56 : Nat)).snap.target = (⟨5, 2, 1⟩ : Shot).time))) = true := by decide +kernel

theorem witness_shots_shotTimeReached2 :
    ((({ up with tim := { up.tim with shots := [⟨5, 2, 1⟩] } } : State).wr F.TIM_SHOT_STAT_HELD 1).tim.shots = [(⟨5, 2, 1⟩ : Shot)]) ∧
    ((({ up with tim := { up.tim with shots := [⟨5, 2, 1⟩] } } : State).wr F.TIM_SHOT_STAT_HELD 1).due (⟨5, 2, 1⟩ : Shot).time = true) ∧
    ((({ up with tim := { up.tim with shots := [⟨5, 2, 1⟩] } } : State).wr F.TIM_SHOT_STAT_HELD 1).isSet F.TIM_SHOT_STAT_HELD = true) ∧
    holds (exec .shotTimeReached (({ up with tim := { up.tim with shots := [⟨5, 2, 1⟩] } } : State).wr F.TIM_SHOT_STAT_HELD 1)) (fun t => decide ((t.tim.shots = []) ∧ (t.tim.fired = (({ up with tim := { up.tim with shots := [⟨5, 2, 1⟩] } } : State).wr F.TIM_SHOT_STAT_HELD 1).tim.fired) ∧ (t.rd F.TIM_SHOT_SEQ = (({ up with tim := { up.tim with shots := [⟨5, 2, 1⟩] } } : State).wr F.TIM_SHOT_STAT_HELD 1).rd F.TIM_SHOT_SEQ))) = true := by decide +kernel

theorem witness_eventLogs_eventRecordDelivery :
    (((up.updBench 4 fun (b : Bench) => { b with evBuf := [⟨5, 64, 0, 1, 0⟩] }).benchAt (4 : Nat)).evBuf = (⟨5, 64, 0, 1, 0⟩ : EvRec) :: ([] : List EvRec)) ∧
    (((up.updBench 4 fun (b : Bench) => { b with evBuf := [⟨5, 64, 0, 1, 0⟩] }).benchAt (4 : Nat)).evStalled = []) ∧
    ((up.updBench 4 fun (b : Bench) => { b with evBuf := [⟨5, 64, 0, 1, 0⟩] }).isSet F.TIM_SHOT_MATCH_ARM = false) ∧
    holds (exec (.eventRecordDelivery (4 : Nat)) (up.updBench 4 fun (b : Bench) => { b with evBuf := [⟨5, 64, 0, 1, 0⟩] })) (fun t => decide ((t.evlog.delivered = (up.updBench 4 fun (b : Bench) => { b with evBuf := [⟨5, 64, 0, 1, 0⟩] }).evlog.delivered ++ [(⟨5, 64, 0, 1, 0⟩ : EvRec)]) ∧ ((t.benchAt (4 : Nat)).evBuf = ([] : List EvRec)) ∧ (t.tim = (up.updBench 4 fun (b : Bench) => { b with evBuf := [⟨5, 64, 0, 1, 0⟩] }).tim))) = true := by decide +kernel

theorem witness_eventLogs_eventLogEntry :
    (earliest ({ (up.wr F.MEM_STAT_READY 1) with bench := List.replicate 57 { Bench.cold with state := .active, watermark := 9 }, evlog := { EvLog.cold with delivered := [⟨5, 64, 0, 1, 0⟩] } }).evlog.delivered = some (⟨5, 64, 0, 1, 0⟩ : EvRec)) ∧
    (({ (up.wr F.MEM_STAT_READY 1) with bench := List.replicate 57 { Bench.cold with state := .active, watermark := 9 }, evlog := { EvLog.cold with delivered := [⟨5, 64, 0, 1, 0⟩] } }).watermarksPass (⟨5, 64, 0, 1, 0⟩ : EvRec).time = true) ∧
    (({ (up.wr F.MEM_STAT_READY 1) with bench := List.replicate 57 { Bench.cold with state := .active, watermark := 9 }, evlog := { EvLog.cold with delivered := [⟨5, 64, 0, 1, 0⟩] } }).evMemOk = true) ∧
    (({ (up.wr F.MEM_STAT_READY 1) with bench := List.replicate 57 { Bench.cold with state := .active, watermark := 9 }, evlog := { EvLog.cold with delivered := [⟨5, 64, 0, 1, 0⟩] } }).evlog.markerOwed = false) ∧
    holds (exec .eventLogEntry ({ (up.wr F.MEM_STAT_READY 1) with bench := List.replicate 57 { Bench.cold with state := .active, watermark := 9 }, evlog := { EvLog.cold with delivered := [⟨5, 64, 0, 1, 0⟩] } })) (fun t => decide ((t.evlog.delivered = ({ (up.wr F.MEM_STAT_READY 1) with bench := List.replicate 57 { Bench.cold with state := .active, watermark := 9 }, evlog := { EvLog.cold with delivered := [⟨5, 64, 0, 1, 0⟩] } }).evlog.delivered.erase (⟨5, 64, 0, 1, 0⟩ : EvRec)) ∧ (t.evlog.onChip = ((⟨5, 64, 0, 1, 0⟩ : EvRec) :: ({ (up.wr F.MEM_STAT_READY 1) with bench := List.replicate 57 { Bench.cold with state := .active, watermark := 9 }, evlog := { EvLog.cold with delivered := [⟨5, 64, 0, 1, 0⟩] } }).evlog.onChip).take 4096) ∧ (t.evlog.copied = ({ (up.wr F.MEM_STAT_READY 1) with bench := List.replicate 57 { Bench.cold with state := .active, watermark := 9 }, evlog := { EvLog.cold with delivered := [⟨5, 64, 0, 1, 0⟩] } }).evlog.copied))) = true := by decide +kernel

theorem witness_eventLogs_evlogCopy :
    (((up.wr F.MEM_STAT_READY 1).wr F.CTL_EVLOG_TOTAL_LO 3).evMemOk = true) ∧
    holds (exec .evlogCopy ((up.wr F.MEM_STAT_READY 1).wr F.CTL_EVLOG_TOTAL_LO 3)) (fun t => decide ((t.evlog.copied = ((up.wr F.MEM_STAT_READY 1).wr F.CTL_EVLOG_TOTAL_LO 3).evTotal) ∧ (t.evlog.memLog = (((up.wr F.MEM_STAT_READY 1).wr F.CTL_EVLOG_TOTAL_LO 3).evlog.onChip.take (min 4096 (((up.wr F.MEM_STAT_READY 1).wr F.CTL_EVLOG_TOTAL_LO 3).evTotal - ((up.wr F.MEM_STAT_READY 1).wr F.CTL_EVLOG_TOTAL_LO 3).evlog.copied)) ++ ((up.wr F.MEM_STAT_READY 1).wr F.CTL_EVLOG_TOTAL_LO 3).evlog.memLog).take 1048576) ∧ (t.evlog.onChip = ((up.wr F.MEM_STAT_READY 1).wr F.CTL_EVLOG_TOTAL_LO 3).evlog.onChip))) = true := by decide +kernel

theorem witness_nativeTransport_nrtDataPacket :
    ((pkt0 : NrtPkt).udpPort = nrtUp.rd F.XPT_NRT_PORT_UDP_PORT) ∧
    (nrtUp.isSet F.XPT_CTX_CFG_NRT_EN = true) ∧
    ((asType (pkt0 : NrtPkt) 1).crc ≠ nrtCrc (asType (pkt0 : NrtPkt) 1).toNrtHdr (pkt0 : NrtPkt).ext (pkt0 : NrtPkt).payload) ∧
    holds (exec (.nrtDataPacket (pkt0 : NrtPkt)) nrtUp) (fun t => decide ((t.rd (F.XPT_DROP_CRC (nrtUp.xptRole ((pkt0 : NrtPkt).dcid % 2 ^ 18))) = (nrtUp.rd (F.XPT_DROP_CRC (nrtUp.xptRole ((pkt0 : NrtPkt).dcid % 2 ^ 18))) + 1) % 2 ^ 32) ∧ (t.conns = nrtUp.conns) ∧ (t.out = nrtUp.out))) = true := by decide +kernel

theorem witness_nativeTransport_nrtDataPacket2 :
    (nrtFrom nrtUp (asType (sealed { pkt0 with typ := 1, kind := 1, psn := 0, msgId := 0, payLen := 1024, payload := 77 } : NrtPkt) 1) (conn0 : Conn) = true) ∧
    ((conn0 : Conn).state = .established) ∧
    ((conn0 : Conn).syncPending = none) ∧
    ((conn0 : Conn).epoch = 0) ∧
    ((conn0 : Conn).reasm = []) ∧
    ((conn0 : Conn).received = []) ∧
    (dist32 (sealed { pkt0 with typ := 1, kind := 1, psn := 0, msgId := 0, payLen := 1024, payload := 77 } : NrtPkt).psn (conn0 : Conn).rcvPsn < 4096) ∧
    (serialLt (sealed { pkt0 with typ := 1, kind := 1, psn := 0, msgId := 0, payLen := 1024, payload := 77 } : NrtPkt).msgId (conn0 : Conn).lowMark = false) ∧
    (serialLt (sealed { pkt0 with typ := 1, kind := 1, psn := 0, msgId := 0, payLen := 1024, payload := 77 } : NrtPkt).msgId (conn0 : Conn).granted = true) ∧
    ((conn0 : Conn).delivered = []) ∧
    ((sealed { pkt0 with typ := 1, kind := 1, psn := 0, msgId := 0, payLen := 1024, payload := 77 } : NrtPkt).kind = 1) ∧
    ((sealed { pkt0 with typ := 1, kind := 1, psn := 0, msgId := 0, payLen := 1024, payload := 77 } : NrtPkt).ext = .none) ∧
    ((sealed { pkt0 with typ := 1, kind := 1, psn := 0, msgId := 0, payLen := 1024, payload := 77 } : NrtPkt).last = false) ∧
    ((sealed { pkt0 with typ := 1, kind := 1, psn := 0, msgId := 0, payLen := 1024, payload := 77 } : NrtPkt).ackv = false) ∧
    ((sealed { pkt0 with typ := 1, kind := 1, psn := 0, msgId := 0, payLen := 1024, payload := 77 } : NrtPkt).ackreq = false) ∧
    ((conn0 : Conn).unacked + 1 < 16) ∧
    ((sealed { pkt0 with typ := 1, kind := 1, psn := 0, msgId := 0, payLen := 1024, payload := 77 } : NrtPkt).psn ≠ (conn0 : Conn).rcvPsn → 4096 < dist32 (conn0 : Conn).rcvPsn (sealed { pkt0 with typ := 1, kind := 1, psn := 0, msgId := 0, payLen := 1024, payload := 77 } : NrtPkt).psn) ∧
    (nrtSizeOk (conn0 : Conn) (asType (sealed { pkt0 with typ := 1, kind := 1, psn := 0, msgId := 0, payLen := 1024, payload := 77 } : NrtPkt) 1) = true) ∧
    (nrtUp.reasmUsed (conn0 : Conn).role < 8192) ∧
    holds (exec (.nrtDataPacket (sealed { pkt0 with typ := 1, kind := 1, psn := 0, msgId := 0, payLen := 1024, payload := 77 } : NrtPkt)) nrtUp) (fun t => decide (((t.conn? (conn0 : Conn).cid).any (fun x => x.received == [((sealed { pkt0 with typ := 1, kind := 1, psn := 0, msgId := 0, payLen := 1024, payload := 77 } : NrtPkt).psn, (sealed { pkt0 with typ := 1, kind := 1, psn := 0, msgId := 0, payLen := 1024, payload := 77 } : NrtPkt).msgId)] && x.unacked == (conn0 : Conn).unacked + 1 && x.reasm.any (fun r => r.msgId == (sealed { pkt0 with typ := 1, kind := 1, psn := 0, msgId := 0, payLen := 1024, payload := 77 } : NrtPkt).msgId && r.pieces == [((sealed { pkt0 with typ := 1, kind := 1, psn := 0, msgId := 0, payLen := 1024, payload := 77 } : NrtPkt).msgOfs, (sealed { pkt0 with typ := 1, kind := 1, psn := 0, msgId := 0, payLen := 1024, payload := 77 } : NrtPkt).payload)])) = true) ∧ (t.rd (F.XPT_RX_PKT (conn0 : Conn).role) = (nrtUp.rd (F.XPT_RX_PKT (conn0 : Conn).role) + 1) % 2 ^ 32) ∧ (t.out = nrtUp.out))) = true := by decide +kernel

theorem witness_nativeTransport_nrtDataPacket3 :
    (nrtFrom ({ nrtUp with conns := [{ conn0 with received := [(3, 1)] }] }) (asType (sealed { pkt0 with psn := 3, msgId := 1, payLen := 1024 } : NrtPkt) 1) ({ conn0 with received := [(3, 1)] } : Conn) = true) ∧
    (({ conn0 with received := [(3, 1)] } : Conn).syncPending = none) ∧
    (dist32 (sealed { pkt0 with psn := 3, msgId := 1, payLen := 1024 } : NrtPkt).psn ({ conn0 with received := [(3, 1)] } : Conn).rcvPsn < 4096) ∧
    (((sealed { pkt0 with psn := 3, msgId := 1, payLen := 1024 } : NrtPkt).psn, (sealed { pkt0 with psn := 3, msgId := 1, payLen := 1024 } : NrtPkt).msgId) ∈ ({ conn0 with received := [(3, 1)] } : Conn).received) ∧
    (({ conn0 with received := [(3, 1)] } : Conn).isDelivered (sealed { pkt0 with psn := 3, msgId := 1, payLen := 1024 } : NrtPkt).msgId = false) ∧
    holds (exec (.nrtDataPacket (sealed { pkt0 with psn := 3, msgId := 1, payLen := 1024 } : NrtPkt)) ({ nrtUp with conns := [{ conn0 with received := [(3, 1)] }] })) (fun t => decide ((t.rd (F.XPT_DUP ({ conn0 with received := [(3, 1)] } : Conn).role) = (({ nrtUp with conns := [{ conn0 with received := [(3, 1)] }] }).rd (F.XPT_DUP ({ conn0 with received := [(3, 1)] } : Conn).role) + 1) % 2 ^ 32) ∧ (t.out.head?.any (isNrt ({ conn0 with received := [(3, 1)] } : Conn) 2 (sealed { pkt0 with psn := 3, msgId := 1, payLen := 1024 } : NrtPkt).path) = true) ∧ ((t.conn? ({ conn0 with received := [(3, 1)] } : Conn).cid).any (fun x => x.received == ({ conn0 with received := [(3, 1)] } : Conn).received && x.reasm == ({ conn0 with received := [(3, 1)] } : Conn).reasm && x.delivered == ({ conn0 with received := [(3, 1)] } : Conn).delivered) = true))) = true := by decide +kernel

theorem witness_nativeTransport_nrtDataPacket4 :
    (nrtFrom nrtUp (asType (sealed { pkt0 with psn := 3, msgId := 8, payLen := 1024 } : NrtPkt) 1) (conn0 : Conn) = true) ∧
    ((conn0 : Conn).received = []) ∧
    ((conn0 : Conn).syncPending = none) ∧
    ((conn0 : Conn).epoch = 0) ∧
    (dist32 (sealed { pkt0 with psn := 3, msgId := 8, payLen := 1024 } : NrtPkt).psn (conn0 : Conn).rcvPsn < 4096) ∧
    ((sealed { pkt0 with psn := 3, msgId := 8, payLen := 1024 } : NrtPkt).psn ≠ (conn0 : Conn).rcvPsn → 4096 < dist32 (conn0 : Conn).rcvPsn (sealed { pkt0 with psn := 3, msgId := 8, payLen := 1024 } : NrtPkt).psn) ∧
    (serialLt (sealed { pkt0 with psn := 3, msgId := 8, payLen := 1024 } : NrtPkt).msgId (conn0 : Conn).lowMark = true ∨ serialLt (sealed { pkt0 with psn := 3, msgId := 8, payLen := 1024 } : NrtPkt).msgId (conn0 : Conn).granted = false) ∧
    holds (exec (.nrtDataPacket (sealed { pkt0 with psn := 3, msgId := 8, payLen := 1024 } : NrtPkt)) nrtUp) (fun t => decide ((t = nrtUp.bump (F.XPT_DROP_CREDIT (conn0 : Conn).role)))) = true := by decide +kernel

theorem witness_nativeTransport_nrtAck :
    (nrtFrom ({ nrtUp with conns := [{ conn0 with una := [tx0] }] }) (asType (sealed { pkt0 with typ := 2, ackv := true, ackPsn := 6 } : NrtPkt) 2) ({ conn0 with una := [tx0] } : Conn) = true) ∧
    (({ conn0 with una := [tx0] } : Conn).state = .established) ∧
    (({ conn0 with una := [tx0] } : Conn).syncPending = none) ∧
    ((({ conn0 with una := [tx0] } : Conn).pathAt (sealed { pkt0 with typ := 2, ackv := true, ackPsn := 6 } : NrtPkt).path).suspect = false) ∧
    (({ conn0 with una := [tx0] } : Conn).waiting = []) ∧
    (({ conn0 with una := [tx0] } : Conn).una = [(tx0 : TxPkt)]) ∧
    ((sealed { pkt0 with typ := 2, ackv := true, ackPsn := 6 } : NrtPkt).ackv = true) ∧
    (serialLt (tx0 : TxPkt).psn (sealed { pkt0 with typ := 2, ackv := true, ackPsn := 6 } : NrtPkt).ackPsn = true) ∧
    (({ nrtUp with conns := [{ conn0 with una := [tx0] }] }).cmds = []) ∧
    (({ nrtUp with conns := [{ conn0 with una := [tx0] }] }).winops = []) ∧
    holds (exec (.nrtAck (sealed { pkt0 with typ := 2, ackv := true, ackPsn := 6 } : NrtPkt)) ({ nrtUp with conns := [{ conn0 with una := [tx0] }] })) (fun t => decide (((t.conn? ({ conn0 with una := [tx0] } : Conn).cid).any (fun x => x.una.isEmpty && x.state == .established && x.backoff == 0) = true) ∧ (t.rd (F.XPT_RX_PKT ({ conn0 with una := [tx0] } : Conn).role) = (({ nrtUp with conns := [{ conn0 with una := [tx0] }] }).rd (F.XPT_RX_PKT ({ conn0 with una := [tx0] } : Conn).role) + 1) % 2 ^ 32))) = true := by decide +kernel

theorem witness_nativeTransport_nrtConnect :
    ((connectPkt setup0 : NrtPkt).udpPort = nrtUp.rd F.XPT_NRT_PORT_UDP_PORT) ∧
    ((connectPkt setup0 : NrtPkt).crc = nrtCrc (connectPkt setup0 : NrtPkt).toNrtHdr (connectPkt setup0 : NrtPkt).ext (connectPkt setup0 : NrtPkt).payload) ∧
    ((connectPkt setup0 : NrtPkt).ver = 1) ∧
    ((connectPkt setup0 : NrtPkt).dcid = 0) ∧
    (nrtUp.isSet F.XPT_CTX_CFG_NRT_EN = true) ∧
    (nrtUp.conns.all (fun c => c.state != .halfOpen) = true) ∧
    (connectOk (connectPkt setup0 : NrtPkt) (parseSetup (connectPkt setup0 : NrtPkt).payload) = true) ∧
    (nrtUp.freeIndex? = some (1 : Nat)) ∧
    (nrtUp.onChip (nrtUp.xptRole (1 : Nat)) < 2048) ∧
    holds (exec (.nrtConnect (connectPkt setup0 : NrtPkt)) nrtUp) (fun t => decide ((t.conns.length = nrtUp.conns.length + 1) ∧ (t.conns.take nrtUp.conns.length = nrtUp.conns) ∧ (t.conns.getLast?.any (fun c => c.index == (1 : Nat) && c.gen == nrtUp.nextGen (1 : Nat) && c.mode == .nrt && c.state == .halfOpen && c.peerAddr == (connectPkt setup0 : NrtPkt).srcAddr && c.peerCid == (parseSetup (connectPkt setup0 : NrtPkt).payload).srcCid && c.peerSport == (parseSetup (connectPkt setup0 : NrtPkt).payload).sportBase && c.rcvPsn == (parseSetup (connectPkt setup0 : NrtPkt).payload).initPsn && c.lowMark == (parseSetup (connectPkt setup0 : NrtPkt).payload).initMsgId && c.payload == 1024 * 2 ^ (parseSetup (connectPkt setup0 : NrtPkt).payload).payload && c.npaths == min (parseSetup (connectPkt setup0 : NrtPkt).payload).npaths (nrtUp.rd F.XPT_CTX_CFG_NPATH_MAX) + 1) = true))) = true := by decide +kernel

theorem witness_nativeTransport_nrtConnect2 :
    ((connectPkt setup0 : NrtPkt).udpPort = (nrtUp.wr F.XPT_CTX_CFG_NRT_EN 0).rd F.XPT_NRT_PORT_UDP_PORT) ∧
    ((connectPkt setup0 : NrtPkt).crc = nrtCrc (connectPkt setup0 : NrtPkt).toNrtHdr (connectPkt setup0 : NrtPkt).ext (connectPkt setup0 : NrtPkt).payload) ∧
    ((connectPkt setup0 : NrtPkt).ver = 1) ∧
    ((connectPkt setup0 : NrtPkt).dcid = 0) ∧
    ((nrtUp.wr F.XPT_CTX_CFG_NRT_EN 0).isSet F.XPT_CTX_CFG_NRT_EN = false) ∧
    holds (exec (.nrtConnect (connectPkt setup0 : NrtPkt)) (nrtUp.wr F.XPT_CTX_CFG_NRT_EN 0)) (fun t => decide ((t.conns = (nrtUp.wr F.XPT_CTX_CFG_NRT_EN 0).conns) ∧ (t.out.head?.any (isRefuse (connectPkt setup0 : NrtPkt) 4) = true) ∧ (t.out.length = (nrtUp.wr F.XPT_CTX_CFG_NRT_EN 0).out.length + 1))) = true := by decide +kernel

theorem witness_nativeTransport_nrtClose :
    (nrtFrom nrtUp (asType (sealed { pkt0 with typ := 6 } : NrtPkt) 6) (conn0 : Conn) = true) ∧
    ((conn0 : Conn).state = .established) ∧
    ((conn0 : Conn).syncPending = none) ∧
    holds (exec (.nrtClose (sealed { pkt0 with typ := 6 } : NrtPkt)) nrtUp) (fun t => decide ((t.conns.all (fun x => x.index != (conn0 : Conn).index) = true) ∧ (t.freed.head? = some ⟨(conn0 : Conn).index, (conn0 : Conn).gen % 63 + 1, nrtUp.now⟩) ∧ ((newOut nrtUp t).any (isNrt (conn0 : Conn) 7 (conn0 : Conn).resendPath) = true))) = true := by decide +kernel

theorem witness_nativeTransport_nrtClosed :
    (nrtFrom ({ nrtUp with conns := [{ conn0 with state := .draining }] }) (asType (sealed { pkt0 with typ := 7 } : NrtPkt) 7) ({ conn0 with state := .draining } : Conn) = true) ∧
    (({ conn0 with state := .draining } : Conn).state = .draining) ∧
    (({ conn0 with state := .draining } : Conn).syncPending = none) ∧
    holds (exec (.nrtClosed (sealed { pkt0 with typ := 7 } : NrtPkt)) ({ nrtUp with conns := [{ conn0 with state := .draining }] })) (fun t => decide ((t.conns.all (fun x => x.index != ({ conn0 with state := .draining } : Conn).index) = true) ∧ (t.freed.head? = some ⟨({ conn0 with state := .draining } : Conn).index, ({ conn0 with state := .draining } : Conn).gen % 63 + 1, ({ nrtUp with conns := [{ conn0 with state := .draining }] }).now⟩))) = true := by decide +kernel

theorem witness_nativeTransport_nrtProbe :
    (nrtFrom nrtUp (asType (sealed { pkt0 with typ := 8 } : NrtPkt) 8) (conn0 : Conn) = true) ∧
    ((conn0 : Conn).state = .established) ∧
    ((conn0 : Conn).syncPending = none) ∧
    ((sealed { pkt0 with typ := 8 } : NrtPkt).ackv = false) ∧
    holds (exec (.nrtProbe (sealed { pkt0 with typ := 8 } : NrtPkt)) nrtUp) (fun t => decide ((t.out.head?.any (isNrt (conn0 : Conn) 2 (sealed { pkt0 with typ := 8 } : NrtPkt).path) = true))) = true := by decide +kernel

theorem witness_nativeTransport_reassemblyTimeout :
    (({ nrtUp with conns := [{ conn0 with reasm := [⟨4, 1, false, .none, [], none, 0⟩], received := [(9, 4)] }] }).running (262144 : Nat) = some ({ conn0 with reasm := [⟨4, 1, false, .none, [], none, 0⟩], received := [(9, 4)] } : Conn)) ∧
    (({ conn0 with reasm := [⟨4, 1, false, .none, [], none, 0⟩], received := [(9, 4)] } : Conn).mode = .nrt) ∧
    (({ conn0 with reasm := [⟨4, 1, false, .none, [], none, 0⟩], received := [(9, 4)] } : Conn).reasm.find? (fun x => x.msgId == (4 : Nat)) = some (⟨4, 1, false, .none, [], none, 0⟩ : Reasm)) ∧
    ((⟨4, 1, false, .none, [], none, 0⟩ : Reasm).complete ({ conn0 with reasm := [⟨4, 1, false, .none, [], none, 0⟩], received := [(9, 4)] } : Conn).payload = false) ∧
    (({ nrtUp with conns := [{ conn0 with reasm := [⟨4, 1, false, .none, [], none, 0⟩], received := [(9, 4)] }] }).due ((⟨4, 1, false, .none, [], none, 0⟩ : Reasm).firstAt + usU 100 * ({ nrtUp with conns := [{ conn0 with reasm := [⟨4, 1, false, .none, [], none, 0⟩], received := [(9, 4)] }] }).rd F.XPT_TIMER_CFG_REASM) = true) ∧
    holds (exec (.reassemblyTimeout (262144 : Nat) (4 : Nat)) ({ nrtUp with conns := [{ conn0 with reasm := [⟨4, 1, false, .none, [], none, 0⟩], received := [(9, 4)] }] })) (fun t => decide (((t.conn? (262144 : Nat)).any (fun x => x.reasm.all (fun y => y.msgId != (4 : Nat)) && x.received.all (fun y => y.2 != (4 : Nat))) = true) ∧ (t.pends.all (fun y => !(y.cid == (262144 : Nat) && y.msg == (4 : Nat))) = true) ∧ (t.rd (F.XPT_REASM_DISCARD ({ conn0 with reasm := [⟨4, 1, false, .none, [], none, 0⟩], received := [(9, 4)] } : Conn).role) = (({ nrtUp with conns := [{ conn0 with reasm := [⟨4, 1, false, .none, [], none, 0⟩], received := [(9, 4)] }] }).rd (F.XPT_REASM_DISCARD ({ conn0 with reasm := [⟨4, 1, false, .none, [], none, 0⟩], received := [(9, 4)] } : Conn).role) + 1) % 2 ^ 32) ∧ ((newOut ({ nrtUp with conns := [{ conn0 with reasm := [⟨4, 1, false, .none, [], none, 0⟩], received := [(9, 4)] }] }) t).any (fun o => isNrt ({ conn0 with reasm := [⟨4, 1, false, .none, [], none, 0⟩], received := [(9, 4)] } : Conn) 2 ({ conn0 with reasm := [⟨4, 1, false, .none, [], none, 0⟩], received := [(9, 4)] } : Conn).ackPath o && match o with | .nrt _ _ _ h _ _ => h.renege | _ => false) = true))) = true := by decide +kernel

theorem witness_nativeTransport_ackDelayExpiry :
    (({ nrtUp with conns := [{ conn0 with ackDue := some 3, unacked := 2 }] }).running (262144 : Nat) = some ({ conn0 with ackDue := some 3, unacked := 2 } : Conn)) ∧
    (({ nrtUp with conns := [{ conn0 with ackDue := some 3, unacked := 2 }] }).dueOpt ({ conn0 with ackDue := some 3, unacked := 2 } : Conn).ackDue = true) ∧
    holds (exec (.ackDelayExpiry (262144 : Nat)) ({ nrtUp with conns := [{ conn0 with ackDue := some 3, unacked := 2 }] })) (fun t => decide ((t.out.head?.any (isNrt ({ conn0 with ackDue := some 3, unacked := 2 } : Conn) 2 ({ conn0 with ackDue := some 3, unacked := 2 } : Conn).ackPath) = true) ∧ ((t.conn? (262144 : Nat)).any (fun x => x.ackDue == none && x.unacked == 0) = true))) = true := by decide +kernel

theorem witness_nativeTransport_rtoExpiry :
    (({ nrtUp with conns := [{ conn0 with una := [tx0] }] }).running (262144 : Nat) = some ({ conn0 with una := [tx0] } : Conn)) ∧
    (({ conn0 with una := [tx0] } : Conn).mode = .nrt) ∧
    (({ conn0 with una := [tx0] } : Conn).state = .established) ∧
    (({ conn0 with una := [tx0] } : Conn).una = [(tx0 : TxPkt)]) ∧
    ((tx0 : TxPkt).acked = false) ∧
    (({ nrtUp with conns := [{ conn0 with una := [tx0] }] }).due ((tx0 : TxPkt).sentAt + ({ nrtUp with conns := [{ conn0 with una := [tx0] }] }).rtoOf ({ conn0 with una := [tx0] } : Conn)) = true) ∧
    ((tx0 : TxPkt).retx < ({ nrtUp with conns := [{ conn0 with una := [tx0] }] }).rd F.XPT_CTX_CFG_RETRY_MAX) ∧
    holds (exec (.rtoExpiry (262144 : Nat)) ({ nrtUp with conns := [{ conn0 with una := [tx0] }] })) (fun t => decide (((t.conn? (262144 : Nat)).any (fun x => x.una.map (fun y => (y.psn, y.retx, y.sentAt)) == [((tx0 : TxPkt).psn, (tx0 : TxPkt).retx + 1, ({ nrtUp with conns := [{ conn0 with una := [tx0] }] }).now)] && x.backoff == min 32 (({ conn0 with una := [tx0] } : Conn).backoff + 1)) = true) ∧ (t.rd (F.XPT_RTO ({ conn0 with una := [tx0] } : Conn).role) = (({ nrtUp with conns := [{ conn0 with una := [tx0] }] }).rd (F.XPT_RTO ({ conn0 with una := [tx0] } : Conn).role) + 1) % 2 ^ 32) ∧ (t.rd (F.XPT_RETX ({ conn0 with una := [tx0] } : Conn).role) = (({ nrtUp with conns := [{ conn0 with una := [tx0] }] }).rd (F.XPT_RETX ({ conn0 with una := [tx0] } : Conn).role) + 1) % 2 ^ 32) ∧ ((newOut ({ nrtUp with conns := [{ conn0 with una := [tx0] }] }) t).any (fun o => match o with | .nrt _ _ _ h _ b => h.typ == 1 && h.psn == (tx0 : TxPkt).psn && b == .message (tx0 : TxPkt).body | _ => false) = true))) = true := by decide +kernel

theorem witness_nativeTransport_pathProbeTimer :
    (({ nrtUp with conns := [{ conn0 with paths := [{ Path.fresh with suspect := true }] }] }).running (262144 : Nat) = some ({ conn0 with paths := [{ Path.fresh with suspect := true }] } : Conn)) ∧
    ((0 : Nat) < ({ conn0 with paths := [{ Path.fresh with suspect := true }] } : Conn).npaths) ∧
    ((0 : Nat) < ({ conn0 with paths := [{ Path.fresh with suspect := true }] } : Conn).paths.length) ∧
    ((({ conn0 with paths := [{ Path.fresh with suspect := true }] } : Conn).pathAt (0 : Nat)).suspect = true) ∧
    (({ nrtUp with conns := [{ conn0 with paths := [{ Path.fresh with suspect := true }] }] }).due (({ conn0 with paths := [{ Path.fresh with suspect := true }] } : Conn).pathAt (0 : Nat)).probeAt = true) ∧
    holds (exec (.pathProbeTimer (262144 : Nat) (0 : Nat)) ({ nrtUp with conns := [{ conn0 with paths := [{ Path.fresh with suspect := true }] }] })) (fun t => decide ((t.out.head?.any (isNrt ({ conn0 with paths := [{ Path.fresh with suspect := true }] } : Conn) 8 (0 : Nat)) = true) ∧ ((t.conn? (262144 : Nat)).any (fun x => (x.pathAt (0 : Nat)).probeAt == ({ nrtUp with conns := [{ conn0 with paths := [{ Path.fresh with suspect := true }] }] }).now + msU 1) = true))) = true := by decide +kernel

theorem witness_nativeTransport_creditProbeTimer :
    (({ nrtUp with conns := [{ conn0 with peerLimit := 0 }] }).running (262144 : Nat) = some ({ conn0 with peerLimit := 0 } : Conn)) ∧
    (({ conn0 with peerLimit := 0 } : Conn).mode = .nrt) ∧
    (({ conn0 with peerLimit := 0 } : Conn).state = .established ∨ ({ conn0 with peerLimit := 0 } : Conn).state = .resync) ∧
    (serialLt ({ conn0 with peerLimit := 0 } : Conn).sndMsg ({ conn0 with peerLimit := 0 } : Conn).peerLimit = false) ∧
    (({ nrtUp with conns := [{ conn0 with peerLimit := 0 }] }).due ({ conn0 with peerLimit := 0 } : Conn).creditProbeAt = true) ∧
    holds (exec (.creditProbeTimer (262144 : Nat)) ({ nrtUp with conns := [{ conn0 with peerLimit := 0 }] })) (fun t => decide ((t.out.head?.any (isNrt ({ conn0 with peerLimit := 0 } : Conn) 8 ({ conn0 with peerLimit := 0 } : Conn).resendPath) = true) ∧ ((t.conn? (262144 : Nat)).any (fun x => x.creditProbeAt == ({ nrtUp with conns := [{ conn0 with peerLimit := 0 }] }).now + ({ nrtUp with conns := [{ conn0 with peerLimit := 0 }] }).rtoOf ({ conn0 with peerLimit := 0 } : Conn)) = true))) = true := by decide +kernel

theorem witness_nativeTransport_halfOpenTimeout :
    (({ nrtUp with conns := [{ conn0 with state := .halfOpen }] }).running (262144 : Nat) = some ({ conn0 with state := .halfOpen } : Conn)) ∧
    (({ conn0 with state := .halfOpen } : Conn).mode = .nrt) ∧
    (({ conn0 with state := .halfOpen } : Conn).state = .halfOpen) ∧
    (({ nrtUp with conns := [{ conn0 with state := .halfOpen }] }).due (({ conn0 with state := .halfOpen } : Conn).since + msU 10) = true) ∧
    holds (exec (.halfOpenTimeout (262144 : Nat)) ({ nrtUp with conns := [{ conn0 with state := .halfOpen }] })) (fun t => decide ((t.conns = ({ nrtUp with conns := [{ conn0 with state := .halfOpen }] }).conns.filter (fun x => x.index != ({ conn0 with state := .halfOpen } : Conn).index)) ∧ (t.freed.head? = some ⟨({ conn0 with state := .halfOpen } : Conn).index, ({ conn0 with state := .halfOpen } : Conn).gen % 63 + 1, ({ nrtUp with conns := [{ conn0 with state := .halfOpen }] }).now⟩))) = true := by decide +kernel

theorem witness_nativeTransport_errorHoldExpiry :
    (({ nrtUp with conns := [{ conn0 with state := .error }] }).running (262144 : Nat) = some ({ conn0 with state := .error } : Conn)) ∧
    (({ conn0 with state := .error } : Conn).mode = .nrt) ∧
    (({ conn0 with state := .error } : Conn).state = .error) ∧
    (({ nrtUp with conns := [{ conn0 with state := .error }] }).due (({ conn0 with state := .error } : Conn).since + msU 1) = true) ∧
    holds (exec (.errorHoldExpiry (262144 : Nat)) ({ nrtUp with conns := [{ conn0 with state := .error }] })) (fun t => decide ((t.conns = ({ nrtUp with conns := [{ conn0 with state := .error }] }).conns.filter (fun x => x.index != ({ conn0 with state := .error } : Conn).index)) ∧ (t.freed.head? = some ⟨({ conn0 with state := .error } : Conn).index, ({ conn0 with state := .error } : Conn).gen % 63 + 1, ({ nrtUp with conns := [{ conn0 with state := .error }] }).now⟩))) = true := by decide +kernel

theorem witness_nativeTransport_closeRetryExpiry :
    (({ nrtUp with conns := [{ conn0 with state := .draining, closeSent := 2 }] }).running (262144 : Nat) = some ({ conn0 with state := .draining, closeSent := 2 } : Conn)) ∧
    (({ conn0 with state := .draining, closeSent := 2 } : Conn).mode = .nrt) ∧
    (({ conn0 with state := .draining, closeSent := 2 } : Conn).state = .draining) ∧
    (({ nrtUp with conns := [{ conn0 with state := .draining, closeSent := 2 }] }).due (({ conn0 with state := .draining, closeSent := 2 } : Conn).closeAt + usU 100 * ({ nrtUp with conns := [{ conn0 with state := .draining, closeSent := 2 }] }).rd F.XPT_TIMER_CFG_RTO_MAX) = true) ∧
    (({ conn0 with state := .draining, closeSent := 2 } : Conn).closeSent < 3) ∧
    holds (exec (.closeRetryExpiry (262144 : Nat)) ({ nrtUp with conns := [{ conn0 with state := .draining, closeSent := 2 }] })) (fun t => decide ((t.out.head?.any (isNrt ({ conn0 with state := .draining, closeSent := 2 } : Conn) 6 ({ conn0 with state := .draining, closeSent := 2 } : Conn).resendPath) = true) ∧ ((t.conn? (262144 : Nat)).any (fun x => x.closeSent == ({ conn0 with state := .draining, closeSent := 2 } : Conn).closeSent + 1 && x.closeAt == ({ nrtUp with conns := [{ conn0 with state := .draining, closeSent := 2 }] }).now) = true))) = true := by decide +kernel

theorem witness_nativeTransport_closeRetryExpiry2 :
    (({ nrtUp with conns := [{ conn0 with state := .draining, closeSent := 3 }] }).running (262144 : Nat) = some ({ conn0 with state := .draining, closeSent := 3 } : Conn)) ∧
    (({ conn0 with state := .draining, closeSent := 3 } : Conn).mode = .nrt) ∧
    (({ conn0 with state := .draining, closeSent := 3 } : Conn).state = .draining) ∧
    (({ nrtUp with conns := [{ conn0 with state := .draining, closeSent := 3 }] }).due (({ conn0 with state := .draining, closeSent := 3 } : Conn).closeAt + usU 100 * ({ nrtUp with conns := [{ conn0 with state := .draining, closeSent := 3 }] }).rd F.XPT_TIMER_CFG_RTO_MAX) = true) ∧
    (3 ≤ ({ conn0 with state := .draining, closeSent := 3 } : Conn).closeSent) ∧
    holds (exec (.closeRetryExpiry (262144 : Nat)) ({ nrtUp with conns := [{ conn0 with state := .draining, closeSent := 3 }] })) (fun t => decide ((t.conns = ({ nrtUp with conns := [{ conn0 with state := .draining, closeSent := 3 }] }).conns.filter (fun x => x.index != ({ conn0 with state := .draining, closeSent := 3 } : Conn).index)) ∧ (t.freed.head? = some ⟨({ conn0 with state := .draining, closeSent := 3 } : Conn).index, ({ conn0 with state := .draining, closeSent := 3 } : Conn).gen % 63 + 1, ({ nrtUp with conns := [{ conn0 with state := .draining, closeSent := 3 }] }).now⟩))) = true := by decide +kernel

theorem witness_nativeTransport_syncDeadline :
    (({ nrtUp with conns := [{ conn0 with state := .resync, syncPending := some 3 }] }).running (262144 : Nat) = some ({ conn0 with state := .resync, syncPending := some 3 } : Conn)) ∧
    (({ conn0 with state := .resync, syncPending := some 3 } : Conn).syncPending = some (3 : Nat)) ∧
    (({ nrtUp with conns := [{ conn0 with state := .resync, syncPending := some 3 }] }).due (3 : Nat) = true) ∧
    holds (exec (.syncDeadline (262144 : Nat)) ({ nrtUp with conns := [{ conn0 with state := .resync, syncPending := some 3 }] })) (fun t => decide ((t.out.head?.any (fun o => isNrt ({ conn0 with state := .resync, syncPending := some 3 } : Conn) 9 ({ conn0 with state := .resync, syncPending := some 3 } : Conn).resendPath o && match o with | .nrt _ _ _ h _ b => h.psn == ({ conn0 with state := .resync, syncPending := some 3 } : Conn).syncPsn && h.renege && h.msgLimit == ({ conn0 with state := .resync, syncPending := some 3 } : Conn).granted && b == .sync (({ conn0 with state := .resync, syncPending := some 3 } : Conn).epoch + 1) | _ => false) = true) ∧ ((t.conn? (262144 : Nat)).any (fun x => x.syncPending == none && x.epoch == ({ conn0 with state := .resync, syncPending := some 3 } : Conn).epoch + 1) = true))) = true := by decide +kernel

theorem witness_compatibleMode_roceSend :
    (roceFrom roceUp ({ rpkt with payload := 5, payLen := 4096 } : RocePkt) (qp1x : Conn) = true) ∧
    ((qp1x : Conn).state = .rts) ∧
    (({ rpkt with payload := 5, payLen := 4096 } : RocePkt).ceMarked = false) ∧
    (({ rpkt with payload := 5, payLen := 4096 } : RocePkt).psn = (qp1x : Conn).rcvPsn) ∧
    (({ rpkt with payload := 5, payLen := 4096 } : RocePkt).psn < 2 ^ 24) ∧
    (({ rpkt with payload := 5, payLen := 4096 } : RocePkt).first = true) ∧
    (({ rpkt with payload := 5, payLen := 4096 } : RocePkt).last = false) ∧
    ((qp1x : Conn).reasm = []) ∧
    (({ rpkt with payload := 5, payLen := 4096 } : RocePkt).payLen = (qp1x : Conn).payload) ∧
    (({ rpkt with payload := 5, payLen := 4096 } : RocePkt).payLen ≤ 16448) ∧
    (roceUp.capsuleSlots (qp1x : Conn) ≠ 0) ∧
    (roceUp.inflightFull = false) ∧
    holds (exec (.roceSend ({ rpkt with payload := 5, payLen := 4096 } : RocePkt)) roceUp) (fun t => decide (((t.conn? (qp1x : Conn).cid).any (fun x => x.rcvPsn == (({ rpkt with payload := 5, payLen := 4096 } : RocePkt).psn + 1) % 2 ^ 24 && x.reasm.map (fun r => r.pieces) == [[(0, ({ rpkt with payload := 5, payLen := 4096 } : RocePkt).payload)]]) = true) ∧ (t.rd (F.XPT_RX_PKT (qp1x : Conn).role) = (roceUp.rd (F.XPT_RX_PKT (qp1x : Conn).role) + 1) % 2 ^ 32) ∧ (t.out = roceUp.out))) = true := by decide +kernel

theorem witness_compatibleMode_roceSend2 :
    (roceFrom ({ roceUp with cmds := List.replicate 64 { fwCmd with nv := io 1 } }) ({ rpkt with payLen := 4096 } : RocePkt) (qp1x : Conn) = true) ∧
    ((qp1x : Conn).state = .rts) ∧
    (({ rpkt with payLen := 4096 } : RocePkt).ceMarked = false) ∧
    (({ rpkt with payLen := 4096 } : RocePkt).psn = (qp1x : Conn).rcvPsn) ∧
    (({ rpkt with payLen := 4096 } : RocePkt).psn < 2 ^ 24) ∧
    (({ rpkt with payLen := 4096 } : RocePkt).first = true) ∧
    (({ roceUp with cmds := List.replicate 64 { fwCmd with nv := io 1 } }).capsuleSlots (qp1x : Conn) = 0) ∧
    (rocePlaceOk (qp1x : Conn) 0 ({ rpkt with payLen := 4096 } : RocePkt) = true) ∧
    ((qp1x : Conn).resp = []) ∧
    holds (exec (.roceSend ({ rpkt with payLen := 4096 } : RocePkt)) ({ roceUp with cmds := List.replicate 64 { fwCmd with nv := io 1 } })) (fun t => decide ((t.out.head?.any (fun o => match o with | .roce a q _ (.rnrNak n _) => a == (qp1x : Conn).peerAddr && q == (qp1x : Conn).peerCid && n == ({ rpkt with payLen := 4096 } : RocePkt).psn | _ => false) = true) ∧ ((t.conn? (qp1x : Conn).cid).any (fun x => x.rcvPsn == (qp1x : Conn).rcvPsn && x.reasm == (qp1x : Conn).reasm) = true))) = true := by decide +kernel

theorem witness_compatibleMode_roceSend3 :
    (roceFrom ({ roceUp with ctrls := [] }) ({ rpkt with first := false } : RocePkt) (qp1x : Conn) = true) ∧
    ((qp1x : Conn).state = .rts) ∧
    (({ rpkt with first := false } : RocePkt).ceMarked = false) ∧
    (({ rpkt with first := false } : RocePkt).psn = (qp1x : Conn).rcvPsn) ∧
    (rocePlaceOk (qp1x : Conn) 0 ({ rpkt with first := false } : RocePkt) = false) ∧
    holds (exec (.roceSend ({ rpkt with first := false } : RocePkt)) ({ roceUp with ctrls := [] })) (fun t => decide (((newOut ({ roceUp with ctrls := [] }) t).any (fun o => match o with | .roce a q _ (.nak n 2) => a == (qp1x : Conn).peerAddr && q == (qp1x : Conn).peerCid && n == ({ rpkt with first := false } : RocePkt).psn | _ => false) = true) ∧ (t.rd (F.XPT_RX_PKT (qp1x : Conn).role) = ({ roceUp with ctrls := [] }).rd (F.XPT_RX_PKT (qp1x : Conn).role)))) = true := by decide +kernel

theorem witness_compatibleMode_roceRdmaWrite :
    (roceFrom roceUp ({ rpkt with key := 1, addr := 4096, len := 8192, payLen := 4096, payload := 5 } : RocePkt) (qp1x : Conn) = true) ∧
    ((qp1x : Conn).state = .rts) ∧
    (({ rpkt with key := 1, addr := 4096, len := 8192, payLen := 4096, payload := 5 } : RocePkt).ceMarked = false) ∧
    (({ rpkt with key := 1, addr := 4096, len := 8192, payLen := 4096, payload := 5 } : RocePkt).psn = (qp1x : Conn).rcvPsn) ∧
    (({ rpkt with key := 1, addr := 4096, len := 8192, payLen := 4096, payload := 5 } : RocePkt).psn < 2 ^ 24) ∧
    (({ rpkt with key := 1, addr := 4096, len := 8192, payLen := 4096, payload := 5 } : RocePkt).first = true) ∧
    (({ rpkt with key := 1, addr := 4096, len := 8192, payLen := 4096, payload := 5 } : RocePkt).last = false) ∧
    (({ rpkt with key := 1, addr := 4096, len := 8192, payLen := 4096, payload := 5 } : RocePkt).len ≠ 0) ∧
    (({ rpkt with key := 1, addr := 4096, len := 8192, payLen := 4096, payload := 5 } : RocePkt).payLen = (qp1x : Conn).payload) ∧
    (1 ≤ ({ rpkt with key := 1, addr := 4096, len := 8192, payLen := 4096, payload := 5 } : RocePkt).payLen) ∧
    (({ rpkt with key := 1, addr := 4096, len := 8192, payLen := 4096, payload := 5 } : RocePkt).payLen < ({ rpkt with key := 1, addr := 4096, len := 8192, payLen := 4096, payload := 5 } : RocePkt).len) ∧
    (({ rpkt with key := 1, addr := 4096, len := 8192, payLen := 4096, payload := 5 } : RocePkt).payLen ≤ 4096) ∧
    (roceUp.window? (({ rpkt with key := 1, addr := 4096, len := 8192, payLen := 4096, payload := 5 } : RocePkt).key / 256) = some (win0 : Window)) ∧
    (roceUp.keyCheck (qp1x : Conn) 1 ({ rpkt with key := 1, addr := 4096, len := 8192, payLen := 4096, payload := 5 } : RocePkt).key ({ rpkt with key := 1, addr := 4096, len := 8192, payLen := 4096, payload := 5 } : RocePkt).addr ({ rpkt with key := 1, addr := 4096, len := 8192, payLen := 4096, payload := 5 } : RocePkt).len = none) ∧
    (roceUp.pends = []) ∧
    ((qp1x : Conn).reasm = []) ∧
    holds (exec (.roceRdmaWrite ({ rpkt with key := 1, addr := 4096, len := 8192, payLen := 4096, payload := 5 } : RocePkt)) roceUp) (fun t => decide (((t.conn? (qp1x : Conn).cid).any (fun x => x.rcvPsn == (({ rpkt with key := 1, addr := 4096, len := 8192, payLen := 4096, payload := 5 } : RocePkt).psn + 1) % 2 ^ 24 && x.reasm.map (fun r => (r.msgId, r.length)) == [(({ rpkt with key := 1, addr := 4096, len := 8192, payLen := 4096, payload := 5 } : RocePkt).psn, some ({ rpkt with key := 1, addr := 4096, len := 8192, payLen := 4096, payload := 5 } : RocePkt).len)]) = true) ∧ (t.pends.any (fun q => q.cid == (qp1x : Conn).cid && q.nsid == (win0 : Window).nsid && q.lba == ((win0 : Window).slba * 4096 + (({ rpkt with key := 1, addr := 4096, len := 8192, payLen := 4096, payload := 5 } : RocePkt).addr - (win0 : Window).base)) / 4096) = true))) = true := by decide +kernel

theorem witness_compatibleMode_roceRdmaReadRequest :
    (roceFrom roceUp ({ rpkt with len := 0 } : RocePkt) (qp1x : Conn) = true) ∧
    ((qp1x : Conn).state = .rts) ∧
    (({ rpkt with len := 0 } : RocePkt).ceMarked = false) ∧
    (({ rpkt with len := 0 } : RocePkt).psn = (qp1x : Conn).rcvPsn) ∧
    (({ rpkt with len := 0 } : RocePkt).psn < 2 ^ 24) ∧
    (({ rpkt with len := 0 } : RocePkt).len = 0) ∧
    (roceUp.roceOpen (qp1x : Conn) < 16) ∧
    ((qp1x : Conn).openMsg = none) ∧
    ((qp1x : Conn).resp = []) ∧
    holds (exec (.roceRdmaReadRequest ({ rpkt with len := 0 } : RocePkt)) roceUp) (fun t => decide ((t.out.head?.any (fun o => match o with | .roce a q _ (.readResp n 0 _ _) => a == (qp1x : Conn).peerAddr && q == (qp1x : Conn).peerCid && n == ({ rpkt with len := 0 } : RocePkt).psn | _ => false) = true) ∧ ((t.conn? (qp1x : Conn).cid).any (fun x => x.rcvPsn == (({ rpkt with len := 0 } : RocePkt).psn + 1) % 2 ^ 24) = true))) = true := by decide +kernel

theorem witness_compatibleMode_roceRdmaReadRequest2 :
    (roceFrom roceUp ({ rpkt with len := 4096 } : RocePkt) (qp1x : Conn) = true) ∧
    ((qp1x : Conn).state = .rts) ∧
    (({ rpkt with len := 4096 } : RocePkt).ceMarked = false) ∧
    (({ rpkt with len := 4096 } : RocePkt).psn = (qp1x : Conn).rcvPsn) ∧
    (({ rpkt with len := 4096 } : RocePkt).psn < 2 ^ 24) ∧
    (1 ≤ ({ rpkt with len := 4096 } : RocePkt).len) ∧
    (roceUp.roceOpen (qp1x : Conn) < 16) ∧
    ((qp1x : Conn).openMsg = none) ∧
    (roceUp.keyCheck (qp1x : Conn) 0 ({ rpkt with len := 4096 } : RocePkt).key ({ rpkt with len := 4096 } : RocePkt).addr ({ rpkt with len := 4096 } : RocePkt).len = none) ∧
    (roceUp.window? (({ rpkt with len := 4096 } : RocePkt).key / 256) = some (win0 : Window)) ∧
    (roceUp.ns? (win0 : Window).nsid = some (ns1 : Namespace)) ∧
    (roceUp.winops.all (fun o => o.id < roceUp.nextOp) = true) ∧
    (roceUp.lines = []) ∧
    (roceUp.sectors = []) ∧
    (roceUp.cmds = []) ∧
    (roceUp.pends = []) ∧
    holds (exec (.roceRdmaReadRequest ({ rpkt with len := 4096 } : RocePkt)) roceUp) (fun t => decide ((t.nextOp = roceUp.nextOp + 1) ∧ (t.winops.any (fun o => o.id == roceUp.nextOp && o.msg == ({ rpkt with len := 4096 } : RocePkt).psn && o.len == ({ rpkt with len := 4096 } : RocePkt).len && o.kind == .read && o.byte == (win0 : Window).slba * 4096 + (({ rpkt with len := 4096 } : RocePkt).addr - (win0 : Window).base)) = true) ∧ (t.lines.any (fun l => l.nsid == (win0 : Window).nsid && l.filling) = true))) = true := by decide +kernel

theorem witness_compatibleMode_roceCompareSwap :
    (roceFrom roceUp ({ rpkt with operand1 := 1, operand2 := 2 } : RocePkt) (qp1x : Conn) = true) ∧
    ((qp1x : Conn).state = .rts) ∧
    (({ rpkt with operand1 := 1, operand2 := 2 } : RocePkt).ceMarked = false) ∧
    (({ rpkt with operand1 := 1, operand2 := 2 } : RocePkt).psn = (qp1x : Conn).rcvPsn) ∧
    (({ rpkt with operand1 := 1, operand2 := 2 } : RocePkt).psn < 2 ^ 24) ∧
    (roceUp.roceOpen (qp1x : Conn) < 16) ∧
    ((qp1x : Conn).openMsg = none) ∧
    (roceUp.keyCheck (qp1x : Conn) 2 ({ rpkt with operand1 := 1, operand2 := 2 } : RocePkt).key ({ rpkt with operand1 := 1, operand2 := 2 } : RocePkt).addr 8 = none) ∧
    (roceUp.window? (({ rpkt with operand1 := 1, operand2 := 2 } : RocePkt).key / 256) = some (win0 : Window)) ∧
    (roceUp.ns? (win0 : Window).nsid = some (ns1 : Namespace)) ∧
    (roceUp.winops.all (fun o => o.id < roceUp.nextOp) = true) ∧
    (roceUp.lines = []) ∧
    holds (exec (.roceCompareSwap ({ rpkt with operand1 := 1, operand2 := 2 } : RocePkt)) roceUp) (fun t => decide ((t.nextOp = roceUp.nextOp + 1) ∧ (t.winops.any (fun o => o.id == roceUp.nextOp && o.msg == ({ rpkt with operand1 := 1, operand2 := 2 } : RocePkt).psn && o.len == 8 && o.kind == .cas ({ rpkt with operand1 := 1, operand2 := 2 } : RocePkt).operand1 ({ rpkt with operand1 := 1, operand2 := 2 } : RocePkt).operand2) = true))) = true := by decide +kernel

theorem witness_compatibleMode_roceFetchAdd :
    (roceFrom roceUp ({ rpkt with operand1 := 3 } : RocePkt) (qp1x : Conn) = true) ∧
    ((qp1x : Conn).state = .rts) ∧
    (({ rpkt with operand1 := 3 } : RocePkt).ceMarked = false) ∧
    (({ rpkt with operand1 := 3 } : RocePkt).psn = (qp1x : Conn).rcvPsn) ∧
    (({ rpkt with operand1 := 3 } : RocePkt).psn < 2 ^ 24) ∧
    (roceUp.roceOpen (qp1x : Conn) < 16) ∧
    ((qp1x : Conn).openMsg = none) ∧
    (roceUp.keyCheck (qp1x : Conn) 2 ({ rpkt with operand1 := 3 } : RocePkt).key ({ rpkt with operand1 := 3 } : RocePkt).addr 8 = none) ∧
    (roceUp.window? (({ rpkt with operand1 := 3 } : RocePkt).key / 256) = some (win0 : Window)) ∧
    (roceUp.ns? (win0 : Window).nsid = some (ns1 : Namespace)) ∧
    (roceUp.winops.all (fun o => o.id < roceUp.nextOp) = true) ∧
    (roceUp.lines = []) ∧
    holds (exec (.roceFetchAdd ({ rpkt with operand1 := 3 } : RocePkt)) roceUp) (fun t => decide ((t.nextOp = roceUp.nextOp + 1) ∧ (t.winops.any (fun o => o.id == roceUp.nextOp && o.msg == ({ rpkt with operand1 := 3 } : RocePkt).psn && o.len == 8 && o.kind == .fadd ({ rpkt with operand1 := 3 } : RocePkt).operand1) = true))) = true := by decide +kernel

theorem witness_compatibleMode_roceReadResponse :
    (roceFrom ({ roceUp with conns := [{ qp1 with asked := [(9, 4, 0)] }] }) ({ rpkt with psn := 9, payload := 5 } : RocePkt) ({ qp1 with asked := [(9, 4, 0)] } : Conn) = true) ∧
    (({ qp1 with asked := [(9, 4, 0)] } : Conn).state = .rts) ∧
    (({ rpkt with psn := 9, payload := 5 } : RocePkt).ceMarked = false) ∧
    (({ qp1 with asked := [(9, 4, 0)] } : Conn).asked = [(({ rpkt with psn := 9, payload := 5 } : RocePkt).psn, (4 : Nat), (0 : Nat))]) ∧
    (({ rpkt with psn := 9, payload := 5 } : RocePkt).psn < 2 ^ 24) ∧
    (({ rpkt with psn := 9, payload := 5 } : RocePkt).last = false) ∧
    (({ qp1 with asked := [(9, 4, 0)] } : Conn).reasm = []) ∧
    holds (exec (.roceReadResponse ({ rpkt with psn := 9, payload := 5 } : RocePkt)) ({ roceUp with conns := [{ qp1 with asked := [(9, 4, 0)] }] })) (fun t => decide (((t.conn? ({ qp1 with asked := [(9, 4, 0)] } : Conn).cid).any (fun x => x.reasm.map (fun r => (r.msgId, r.pieces)) == [(({ rpkt with psn := 9, payload := 5 } : RocePkt).psn, [(0, ({ rpkt with psn := 9, payload := 5 } : RocePkt).payload)])] && x.asked == [(({ rpkt with psn := 9, payload := 5 } : RocePkt).psn, (4 : Nat), (0 : Nat))]) = true) ∧ (t.rd (F.XPT_RX_PKT ({ qp1 with asked := [(9, 4, 0)] } : Conn).role) = (({ roceUp with conns := [{ qp1 with asked := [(9, 4, 0)] }] }).rd (F.XPT_RX_PKT ({ qp1 with asked := [(9, 4, 0)] } : Conn).role) + 1) % 2 ^ 32))) = true := by decide +kernel

theorem witness_compatibleMode_roceAcknowledge :
    (({ roceUp with conns := [{ qp1 with una := [tx0] }] }).isSet F.XPT_CTX_CFG_ROCE_EN = true) ∧
    (({ roceUp with conns := [{ qp1 with una := [tx0] }] }).qp? (262145 : Nat) = some ({ qp1 with una := [tx0] } : Conn)) ∧
    (({ qp1 with una := [tx0] } : Conn).waiting = []) ∧
    (({ qp1 with una := [tx0] } : Conn).asked = []) ∧
    (({ roceUp with conns := [{ qp1 with una := [tx0] }] }).cmds = []) ∧
    (({ roceUp with conns := [{ qp1 with una := [tx0] }] }).winops = []) ∧
    holds (exec (.roceAcknowledge (262145 : Nat) (5 : Nat) (.ack (7 : Nat)) false) ({ roceUp with conns := [{ qp1 with una := [tx0] }] })) (fun t => decide (((t.conn? (262145 : Nat)).any (fun x => x.una == ({ qp1 with una := [tx0] } : Conn).una.filter (fun q => !(dist24 (5 : Nat) q.psn < 2 ^ 23)) && x.hostCredit == (creditOf (7 : Nat)).map (fun n => n - ({ ({ qp1 with una := [tx0] } : Conn) with una := ({ qp1 with una := [tx0] } : Conn).una.filter fun q => !(dist24 (5 : Nat) q.psn < 2 ^ 23) } : Conn).sendsOut) && x.retries == 0) = true))) = true := by decide +kernel

theorem witness_compatibleMode_roceAcknowledge2 :
    (roceUp.isSet F.XPT_CTX_CFG_ROCE_EN = true) ∧
    (roceUp.qp? (262145 : Nat) = some (qp1x : Conn)) ∧
    ((qp1x : Conn).rnrRetries < 7) ∧
    holds (exec (.roceAcknowledge (262145 : Nat) (5 : Nat) (.rnr (40 : Nat)) false) roceUp) (fun t => decide (((t.conn? (262145 : Nat)).any (fun x => x.rnrAt == some (roceUp.now + (40 : Nat)) && x.rnrRetries == (qp1x : Conn).rnrRetries + 1) = true))) = true := by decide +kernel

theorem witness_compatibleMode_roceAcknowledge3 :
    (roceUp.isSet F.XPT_CTX_CFG_ROCE_EN = true) ∧
    (roceUp.qp? (262145 : Nat) = some (qp1x : Conn)) ∧
    ((qp1x : Conn).retries < 7) ∧
    ((qp1x : Conn).una = []) ∧
    holds (exec (.roceAcknowledge (262145 : Nat) (5 : Nat) .nakSeq false) roceUp) (fun t => decide (((t.conn? (262145 : Nat)).any (fun x => x.retries == (qp1x : Conn).retries + 1) = true))) = true := by decide +kernel

theorem witness_compatibleMode_roceAtomicAcknowledge :
    (({ roceUp with conns := [{ qp1 with una := [tx0] }] }).isSet F.XPT_CTX_CFG_ROCE_EN = true) ∧
    (({ roceUp with conns := [{ qp1 with una := [tx0] }] }).qp? (262145 : Nat) = some ({ qp1 with una := [tx0] } : Conn)) ∧
    (({ qp1 with una := [tx0] } : Conn).waiting = []) ∧
    (({ qp1 with una := [tx0] } : Conn).asked = []) ∧
    (({ roceUp with conns := [{ qp1 with una := [tx0] }] }).cmds = []) ∧
    (({ roceUp with conns := [{ qp1 with una := [tx0] }] }).winops = []) ∧
    holds (exec (.roceAtomicAcknowledge (262145 : Nat) (5 : Nat) (0 : Nat) false) ({ roceUp with conns := [{ qp1 with una := [tx0] }] })) (fun t => decide (((t.conn? (262145 : Nat)).any (fun x => x.una == ({ qp1 with una := [tx0] } : Conn).una.filter (fun q => !(dist24 (5 : Nat) q.psn < 2 ^ 23)) && x.rnrRetries == 0) = true))) = true := by decide +kernel

theorem witness_compatibleMode_roceCnp :
    (roceUp.isSet F.XPT_CTX_CFG_ROCE_EN = true) ∧
    (roceUp.qp? (262145 : Nat) = some (qp1x : Conn)) ∧
    holds (exec (.roceCnp (262145 : Nat)) roceUp) (fun t => decide (((t.conn? (262145 : Nat)).any (fun x => x.target == (qp1x : Conn).rate && x.rAlpha == (1 - 1 / 256) * (qp1x : Conn).rAlpha + 1 / 256 && x.rate == max 100 ((qp1x : Conn).rate * (1 - ((1 - 1 / 256) * (qp1x : Conn).rAlpha + 1 / 256) / 2)) && x.recSteps == 0) = true) ∧ (t.rd (F.XPT_CNP_RX (qp1x : Conn).role) = (roceUp.rd (F.XPT_CNP_RX (qp1x : Conn).role) + 1) % 2 ^ 32))) = true := by decide +kernel

theorem witness_compatibleMode_roceAckTimeout :
    (({ roceUp with conns := [{ qp1 with una := [tx0] }] }).qp? (262145 : Nat) = some ({ qp1 with una := [tx0] } : Conn)) ∧
    (({ qp1 with una := [tx0] } : Conn).una = [(tx0 : TxPkt)]) ∧
    (({ qp1 with una := [tx0] } : Conn).rnrAt = none) ∧
    (({ qp1 with una := [tx0] } : Conn).retries < 7) ∧
    (({ roceUp with conns := [{ qp1 with una := [tx0] }] }).due ((tx0 : TxPkt).sentAt + 16384 * 2 ^ max 3 ({ qp1 with una := [tx0] } : Conn).ackExp) = true) ∧
    holds (exec (.roceAckTimeout (262145 : Nat)) ({ roceUp with conns := [{ qp1 with una := [tx0] }] })) (fun t => decide ((t.out = .roce ({ qp1 with una := [tx0] } : Conn).peerAddr ({ qp1 with una := [tx0] } : Conn).peerCid ({ qp1 with una := [tx0] } : Conn).sport (.message (tx0 : TxPkt).psn (tx0 : TxPkt).body) :: ({ roceUp with conns := [{ qp1 with una := [tx0] }] }).out) ∧ ((t.conn? (262145 : Nat)).any (fun x => x.retries == ({ qp1 with una := [tx0] } : Conn).retries + 1 && x.una.map (fun y => (y.psn, y.retx, y.sentAt)) == [((tx0 : TxPkt).psn, (tx0 : TxPkt).retx + 1, ({ roceUp with conns := [{ qp1 with una := [tx0] }] }).now)]) = true) ∧ (t.rd (F.XPT_RTO ({ qp1 with una := [tx0] } : Conn).role) = (({ roceUp with conns := [{ qp1 with una := [tx0] }] }).rd (F.XPT_RTO ({ qp1 with una := [tx0] } : Conn).role) + 1) % 2 ^ 32))) = true := by decide +kernel

theorem witness_compatibleMode_roceRnrTimer :
    (({ roceUp with conns := [{ qp1 with rnrAt := some 4 }] }).qp? (262145 : Nat) = some ({ qp1 with rnrAt := some 4 } : Conn)) ∧
    (({ qp1 with rnrAt := some 4 } : Conn).rnrAt = some (4 : Nat)) ∧
    (({ roceUp with conns := [{ qp1 with rnrAt := some 4 }] }).due (4 : Nat) = true) ∧
    (({ qp1 with rnrAt := some 4 } : Conn).una = []) ∧
    (({ qp1 with rnrAt := some 4 } : Conn).waiting = []) ∧
    holds (exec (.roceRnrTimer (262145 : Nat)) ({ roceUp with conns := [{ qp1 with rnrAt := some 4 }] })) (fun t => decide (((t.conn? (262145 : Nat)).any (fun x => x.rnrAt == none) = true) ∧ (t.out = ({ roceUp with conns := [{ qp1 with rnrAt := some 4 }] }).out))) = true := by decide +kernel

theorem witness_compatibleMode_roceRateTimer :
    (roceUp.qp? (262145 : Nat) = some (qp1x : Conn)) ∧
    (roceUp.due ((qp1x : Conn).cnpRxAt + usU 55) = true) ∧
    holds (exec (.roceRateTimer (262145 : Nat)) roceUp) (fun t => decide (((t.conn? (262145 : Nat)).any (fun x => x.rAlpha == (1 - 1 / 256) * (qp1x : Conn).rAlpha && x.rate == (if (qp1x : Conn).recSteps < 5 then ((qp1x : Conn).rate + (qp1x : Conn).target) / 2 else min lineRate ((qp1x : Conn).rate + 40)) && x.recSteps == (if (qp1x : Conn).recSteps < 5 then (qp1x : Conn).recSteps + 1 else (qp1x : Conn).recSteps)) = true))) = true := by decide +kernel

theorem witness_compatibleMode_cmReq :
    (roceUp.isSet F.XPT_CTX_CFG_ROCE_EN = true) ∧
    ((⟨11, 5, 7, 4096, 14, true⟩ : CmReq).valid = true) ∧
    ((⟨11, 5, 7, 4096, 14, true⟩ : CmReq).mtu = 1024 ∨ (⟨11, 5, 7, 4096, 14, true⟩ : CmReq).mtu = 2048 ∨ (⟨11, 5, 7, 4096, 14, true⟩ : CmReq).mtu = 4096) ∧
    (roceUp.freeIndex? = some (2 : Nat)) ∧
    (roceUp.onChip (roceUp.xptRole (2 : Nat)) < 2048) ∧
    holds (exec (.cmReq (⟨11, 5, 7, 4096, 14, true⟩ : CmReq)) roceUp) (fun t => decide ((t.conns.length = roceUp.conns.length + 1) ∧ (t.conns.getLast?.any (fun c => c.index == (2 : Nat) && c.mode == .roce && c.state == .rtr && c.peerAddr == (⟨11, 5, 7, 4096, 14, true⟩ : CmReq).srcAddr && c.peerCid == (⟨11, 5, 7, 4096, 14, true⟩ : CmReq).srcQp && c.payload == (⟨11, 5, 7, 4096, 14, true⟩ : CmReq).mtu && c.rcvPsn == (⟨11, 5, 7, 4096, 14, true⟩ : CmReq).initPsn % 2 ^ 24) = true) ∧ (t.out.head? = some (.cmRep (roceUp.nextGen (2 : Nat) * 2 ^ 18 + (2 : Nat)))))) = true := by decide +kernel

theorem witness_compatibleMode_cmRtu :
    (({ roceUp with conns := [{ qp1 with state := .rtr }] }).isSet F.XPT_CTX_CFG_ROCE_EN = true) ∧
    (({ roceUp with conns := [{ qp1 with state := .rtr }] }).qp? (262145 : Nat) = some ({ qp1 with state := .rtr } : Conn)) ∧
    (({ qp1 with state := .rtr } : Conn).state = .rtr) ∧
    (({ qp1 with state := .rtr } : Conn).waiting = []) ∧
    holds (exec (.cmRtu (262145 : Nat)) ({ roceUp with conns := [{ qp1 with state := .rtr }] })) (fun t => decide (((t.conn? (262145 : Nat)).any (fun x => x.state == .rts && x.since == ({ roceUp with conns := [{ qp1 with state := .rtr }] }).now) = true))) = true := by decide +kernel

theorem witness_compatibleMode_cmDreq :
    (({ roceUp with ctrls := [] }).isSet F.XPT_CTX_CFG_ROCE_EN = true) ∧
    (({ roceUp with ctrls := [] }).conn? (262145 : Nat) = some (qp1x : Conn)) ∧
    ((qp1x : Conn).mode = .roce) ∧
    holds (exec (.cmDreq (262145 : Nat)) ({ roceUp with ctrls := [] })) (fun t => decide ((t.conns.all (fun x => x.index != (qp1x : Conn).index) = true) ∧ (t.freed.head? = some ⟨(qp1x : Conn).index, (qp1x : Conn).gen % 63 + 1, ({ roceUp with ctrls := [] }).now⟩) ∧ ((newOut ({ roceUp with ctrls := [] }) t).contains (.cmDrep (262145 : Nat)) = true))) = true := by decide +kernel

theorem witness_compatibleMode_cmDrep :
    (({ roceUp with conns := [{ qp1 with state := .error }] }).isSet F.XPT_CTX_CFG_ROCE_EN = true) ∧
    (({ roceUp with conns := [{ qp1 with state := .error }] }).conn? (262145 : Nat) = some ({ qp1 with state := .error } : Conn)) ∧
    (({ qp1 with state := .error } : Conn).mode = .roce) ∧
    (({ qp1 with state := .error } : Conn).state = .error) ∧
    holds (exec (.cmDrep (262145 : Nat)) ({ roceUp with conns := [{ qp1 with state := .error }] })) (fun t => decide ((t.conns = ({ roceUp with conns := [{ qp1 with state := .error }] }).conns.filter (fun x => x.index != ({ qp1 with state := .error } : Conn).index)) ∧ (t.freed.head? = some ⟨({ qp1 with state := .error } : Conn).index, ({ qp1 with state := .error } : Conn).gen % 63 + 1, ({ roceUp with conns := [{ qp1 with state := .error }] }).now⟩))) = true := by decide +kernel

theorem witness_compatibleMode_cmRej :
    (({ roceUp with conns := [{ qp1 with state := .rtr }] }).isSet F.XPT_CTX_CFG_ROCE_EN = true) ∧
    (({ roceUp with conns := [{ qp1 with state := .rtr }] }).conn? (262145 : Nat) = some ({ qp1 with state := .rtr } : Conn)) ∧
    (({ qp1 with state := .rtr } : Conn).mode = .roce) ∧
    (({ qp1 with state := .rtr } : Conn).state = .rtr) ∧
    holds (exec (.cmRej (262145 : Nat)) ({ roceUp with conns := [{ qp1 with state := .rtr }] })) (fun t => decide ((t.conns = ({ roceUp with conns := [{ qp1 with state := .rtr }] }).conns.filter (fun x => x.index != ({ qp1 with state := .rtr } : Conn).index)) ∧ (t.freed.head? = some ⟨({ qp1 with state := .rtr } : Conn).index, ({ qp1 with state := .rtr } : Conn).gen % 63 + 1, ({ roceUp with conns := [{ qp1 with state := .rtr }] }).now⟩))) = true := by decide +kernel

theorem witness_compatibleMode_contextFetchDone :
    (({ nrtUp with conns := [{ conn0 with spilled := true, fetchQueued := true }] }).conn? (262144 : Nat) = some ({ conn0 with spilled := true, fetchQueued := true } : Conn)) ∧
    (({ conn0 with spilled := true, fetchQueued := true } : Conn).spilled = true) ∧
    (({ conn0 with spilled := true, fetchQueued := true } : Conn).fetchQueued = true) ∧
    (({ nrtUp with conns := [{ conn0 with spilled := true, fetchQueued := true }] }).conns.filter (fun x => x.index == ({ conn0 with spilled := true, fetchQueued := true } : Conn).index) = [({ conn0 with spilled := true, fetchQueued := true } : Conn)]) ∧
    (({ nrtUp with conns := [{ conn0 with spilled := true, fetchQueued := true }] }).onChip ({ conn0 with spilled := true, fetchQueued := true } : Conn).role < 2048) ∧
    (({ conn0 with spilled := true, fetchQueued := true } : Conn).held = []) ∧
    (({ conn0 with spilled := true, fetchQueued := true } : Conn).heldRoce = []) ∧
    holds (exec (.contextFetchDone (262144 : Nat)) ({ nrtUp with conns := [{ conn0 with spilled := true, fetchQueued := true }] })) (fun t => decide (((t.conn? (262144 : Nat)).any (fun x => !x.spilled && !x.fetchQueued && x.lastUse == ({ nrtUp with conns := [{ conn0 with spilled := true, fetchQueued := true }] }).now) = true) ∧ (t.onChip ({ conn0 with spilled := true, fetchQueued := true } : Conn).role = ({ nrtUp with conns := [{ conn0 with spilled := true, fetchQueued := true }] }).onChip ({ conn0 with spilled := true, fetchQueued := true } : Conn).role + 1))) = true := by decide +kernel

theorem witness_windowsAndCache_setFeaturesWindowPublish :
    (adminReady hostUp ({ adm 9 with data := 1 * 2 ^ 32 + 4096 * 2 ^ 128 + 1 * 2 ^ 272 } : NvmeCmd) = true) ∧
    ((hostUp.ctrl? ({ adm 9 with data := 1 * 2 ^ 32 + 4096 * 2 ^ 128 + 1 * 2 ^ 272 } : NvmeCmd).ctl).bind (·.ident) = some (0 : Nat)) ∧
    (hasBit ({ adm 9 with data := 1 * 2 ^ 32 + 4096 * 2 ^ 128 + 1 * 2 ^ 272 } : NvmeCmd).cdw10 31 = false) ∧
    ((parseWindow (1 * 2 ^ 32 + 4096 * 2 ^ 128 + 1 * 2 ^ 272) 0 : Window) = parseWindow ({ adm 9 with data := 1 * 2 ^ 32 + 4096 * 2 ^ 128 + 1 * 2 ^ 272 } : NvmeCmd).data (0 : Nat)) ∧
    (hostUp.ns? (parseWindow (1 * 2 ^ 32 + 4096 * 2 ^ 128 + 1 * 2 ^ 272) 0 : Window).nsid = some (ns1 : Namespace)) ∧
    (hostUp.nsAttached ({ adm 9 with data := 1 * 2 ^ 32 + 4096 * 2 ^ 128 + 1 * 2 ^ 272 } : NvmeCmd).ctl (parseWindow (1 * 2 ^ 32 + 4096 * 2 ^ 128 + 1 * 2 ^ 272) 0 : Window).nsid = true) ∧
    (hostUp.publishRefusal (ns1 : Namespace) (parseWindow (1 * 2 ^ 32 + 4096 * 2 ^ 128 + 1 * 2 ^ 272) 0 : Window) (bytesAt ({ adm 9 with data := 1 * 2 ^ 32 + 4096 * 2 ^ 128 + 1 * 2 ^ 272 } : NvmeCmd).data 35 1) (0 : Nat) = none) ∧
    (bytesAt ({ adm 9 with data := 1 * 2 ^ 32 + 4096 * 2 ^ 128 + 1 * 2 ^ 272 } : NvmeCmd).data 36 28 = 0) ∧
    (hostUp.freeWindow? = some (1 : Nat)) ∧
    holds (exec (.setFeaturesWindowPublish ({ adm 9 with data := 1 * 2 ^ 32 + 4096 * 2 ^ 128 + 1 * 2 ^ 272 } : NvmeCmd)) hostUp) (fun t => decide (((t.window? (1 : Nat)).any (fun y => y.valid && y.nsid == (parseWindow (1 * 2 ^ 32 + 4096 * 2 ^ 128 + 1 * 2 ^ 272) 0 : Window).nsid && y.slba == (parseWindow (1 * 2 ^ 32 + 4096 * 2 ^ 128 + 1 * 2 ^ 272) 0 : Window).slba && y.len == (parseWindow (1 * 2 ^ 32 + 4096 * 2 ^ 128 + 1 * 2 ^ 272) 0 : Window).len && y.base == (parseWindow (1 * 2 ^ 32 + 4096 * 2 ^ 128 + 1 * 2 ^ 272) 0 : Window).base && y.rights == (parseWindow (1 * 2 ^ 32 + 4096 * 2 ^ 128 + 1 * 2 ^ 272) 0 : Window).rights && y.publisher == (0 : Nat) && y.tag == (if ((hostUp.window? (1 : Nat)).map (·.tag)).getD 0 = 255 then 1 else ((hostUp.window? (1 : Nat)).map (·.tag)).getD 0 + 1)) = true) ∧ ((t.window? (1 : Nat)).any (fun y => answered hostUp t ({ adm 9 with data := 1 * 2 ^ 32 + 4096 * 2 ^ 128 + 1 * 2 ^ 272 } : NvmeCmd) y.key St.ok) = true) ∧ (t.cmds = hostUp.cmds))) = true := by decide +kernel

theorem witness_windowsAndCache_setFeaturesWindowRevoke :
    (adminReady hostUp ({ adm 9 with cdw11 := 2, data := 1 } : NvmeCmd) = true) ∧
    (hasBit ({ adm 9 with cdw11 := 2, data := 1 } : NvmeCmd).cdw10 31 = false) ∧
    (({ adm 9 with cdw11 := 2, data := 1 } : NvmeCmd).cdw11 % 16 = 2) ∧
    (hostUp.window? (bytesAt ({ adm 9 with cdw11 := 2, data := 1 } : NvmeCmd).data 0 4 / 256) = some (win0 : Window)) ∧
    ((win0 : Window).valid = true) ∧
    ((win0 : Window).key = bytesAt ({ adm 9 with cdw11 := 2, data := 1 } : NvmeCmd).data 0 4) ∧
    ((hostUp.ctrl? ({ adm 9 with cdw11 := 2, data := 1 } : NvmeCmd).ctl).bind (·.ident) = some (win0 : Window).publisher) ∧
    (hostUp.nsAttached ({ adm 9 with cdw11 := 2, data := 1 } : NvmeCmd).ctl (win0 : Window).nsid = true) ∧
    (hostUp.lines = []) ∧
    holds (exec (.setFeaturesWindowRevoke ({ adm 9 with cdw11 := 2, data := 1 } : NvmeCmd)) hostUp) (fun t => decide (((t.window? (win0 : Window).index).any (fun y => !y.valid && y.revoking == some [hostUp.nextCmd]) = true) ∧ ((t.cmd? hostUp.nextCmd).any (fun c => c.nv.cid == ({ adm 9 with cdw11 := 2, data := 1 } : NvmeCmd).cid && c.result.isNone) = true))) = true := by decide +kernel

theorem witness_windowsAndCache_getFeaturesWindow :
    (adminReady hostUp ({ adm 10 with cdw11 := 1 } : NvmeCmd) = true) ∧
    (hostUp.epFuncOf ({ adm 10 with cdw11 := 1 } : NvmeCmd).ctl = none) ∧
    (hostUp.window? (({ adm 10 with cdw11 := 1 } : NvmeCmd).cdw11 / 256) = some (win0 : Window)) ∧
    ((win0 : Window).valid = true) ∧
    ((win0 : Window).key = ({ adm 10 with cdw11 := 1 } : NvmeCmd).cdw11) ∧
    ((hostUp.ctrl? ({ adm 10 with cdw11 := 1 } : NvmeCmd).ctl).bind (·.ident) = some (win0 : Window).publisher) ∧
    holds (exec (.getFeaturesWindow ({ adm 10 with cdw11 := 1 } : NvmeCmd)) hostUp) (fun t => decide ((answered hostUp t ({ adm 10 with cdw11 := 1 } : NvmeCmd) 0 St.ok = true) ∧ ((newOut hostUp t).contains (.hostData ({ adm 10 with cdw11 := 1 } : NvmeCmd).ctl ({ adm 10 with cdw11 := 1 } : NvmeCmd).qid ({ adm 10 with cdw11 := 1 } : NvmeCmd).cid 64 (win0 : Window).bytes) = true))) = true := by decide +kernel

theorem witness_windowsAndCache_windowRevokeComplete :
    (({ hostUp with windows := [{ win0 with valid := false, revoking := some [] }] }).window? (0 : Nat) = some ({ win0 with valid := false, revoking := some [] } : Window)) ∧
    (({ win0 with valid := false, revoking := some [] } : Window).revoking = some []) ∧
    (({ hostUp with windows := [{ win0 with valid := false, revoking := some [] }] }).winops = []) ∧
    holds (exec (.windowRevokeComplete (0 : Nat)) ({ hostUp with windows := [{ win0 with valid := false, revoking := some [] }] })) (fun t => decide (((t.window? (0 : Nat)).any (fun y => y.revoking == none && y.freedAt == some ({ hostUp with windows := [{ win0 with valid := false, revoking := some [] }] }).now) = true))) = true := by decide +kernel

theorem witness_windowsAndCache_windowCommitDone :
    (({ hostUp with winops := [{ op0 with kind := .commit [], len := 4096 }] }).op? (4 : Nat) = some ({ op0 with kind := .commit [], len := 4096 } : WinOp)) ∧
    (({ op0 with kind := .commit [], len := 4096 } : WinOp).kind = .commit ([] : List (Nat × Nat))) ∧
    (({ op0 with kind := .commit [], len := 4096 } : WinOp).needs = []) ∧
    (({ op0 with kind := .commit [], len := 4096 } : WinOp).acked = false) ∧
    (({ hostUp with winops := [{ op0 with kind := .commit [], len := 4096 }] }).due ({ op0 with kind := .commit [], len := 4096 } : WinOp).readyAt = true) ∧
    (({ hostUp with winops := [{ op0 with kind := .commit [], len := 4096 }] }).paired = false) ∧
    (({ hostUp with winops := [{ op0 with kind := .commit [], len := 4096 }] }).pair.resync = none) ∧
    (({ hostUp with winops := [{ op0 with kind := .commit [], len := 4096 }] }).mirrorOut = []) ∧
    (({ hostUp with winops := [{ op0 with kind := .commit [], len := 4096 }] }).pends = []) ∧
    (({ hostUp with winops := [{ op0 with kind := .commit [], len := 4096 }] }).conn? ({ op0 with kind := .commit [], len := 4096 } : WinOp).cid = some ({ conn0 with index := 1, queue := some (3, 1) } : Conn)) ∧
    (({ conn0 with index := 1, queue := some (3, 1) } : Conn).mode = .nrt) ∧
    holds (exec (.windowCommitDone (4 : Nat)) ({ hostUp with winops := [{ op0 with kind := .commit [], len := 4096 }] })) (fun t => decide ((t.winops.all (fun y => y.id != (4 : Nat)) = true) ∧ (sentOrWaiting t ({ op0 with kind := .commit [], len := 4096 } : WinOp).cid (.atomicResp ({ op0 with kind := .commit [], len := 4096 } : WinOp).msg (bit ({ op0 with kind := .commit [], len := 4096 } : WinOp).failed)) = true))) = true := by decide +kernel

theorem witness_windowsAndCache_windowWritebackTimer :
    (({ hostUp with lines := [{ line0 with dirty := true, wbq := true }] }).line? (1 : Nat) (3 : Nat) = some ({ line0 with dirty := true, wbq := true } : Line)) ∧
    (({ hostUp with lines := [{ line0 with dirty := true, wbq := true }] }).ns? (1 : Nat) = some (ns1 : Namespace)) ∧
    (({ line0 with dirty := true, wbq := true } : Line).valid = true) ∧
    (({ line0 with dirty := true, wbq := true } : Line).dirty = true) ∧
    (({ line0 with dirty := true, wbq := true } : Line).wb = none) ∧
    (({ line0 with dirty := true, wbq := true } : Line).wbq = true) ∧
    ((ns1 : Namespace).fixed = false) ∧
    (({ hostUp with lines := [{ line0 with dirty := true, wbq := true }] }).spaceHold ((ns1 : Namespace).moveTo.getD (ns1 : Namespace).group) = false) ∧
    ((({ hostUp with lines := [{ line0 with dirty := true, wbq := true }] }).place ((ns1 : Namespace).moveTo.getD (ns1 : Namespace).group) .host (newBlock (.line (1 : Nat) (3 : Nat)) (1 : Nat) (3 : Nat) (ns1 : Namespace).gen 0 0 (some (.enter ({ line0 with dirty := true, wbq := true } : Line).data (piGen (ns1 : Namespace).lbaf (ns1 : Namespace).pit ({ line0 with dirty := true, wbq := true } : Line).data 0 (3 : Nat)))))).2.isSome = true) ∧
    holds (exec (.windowWritebackTimer (1 : Nat) (3 : Nat)) ({ hostUp with lines := [{ line0 with dirty := true, wbq := true }] })) (fun t => decide (((t.line? (1 : Nat) (3 : Nat)).any (fun x => x.wb == some ({ line0 with dirty := true, wbq := true } : Line).data && x.wbVer == ({ line0 with dirty := true, wbq := true } : Line).ver && !x.wbq) = true))) = true := by decide +kernel

theorem witness_windowsAndCache_windowCeilingEligible :
    (({ hostUp with winops := [op0], lines := [line0] }).op? (4 : Nat) = some (op0 : WinOp)) ∧
    (({ hostUp with winops := [op0], lines := [line0] }).winops = [(op0 : WinOp)]) ∧
    ((op0 : WinOp).kind = .read) ∧
    ((op0 : WinOp).visible = false) ∧
    ((op0 : WinOp).acked = false) ∧
    (({ hostUp with winops := [op0], lines := [line0] }).due (op0 : WinOp).readyAt = true) ∧
    ((op0 : WinOp).blocks = [((1, 3) : Nat × Nat)]) ∧
    (({ hostUp with winops := [op0], lines := [line0] }).line? ((1, 3) : Nat × Nat).1 ((1, 3) : Nat × Nat).2 = some (line0 : Line)) ∧
    ((line0 : Line).valid = true) ∧
    (({ hostUp with winops := [op0], lines := [line0] }).cmds = []) ∧
    (({ hostUp with winops := [op0], lines := [line0] }).sectors = []) ∧
    (({ hostUp with winops := [op0], lines := [line0] }).conn? (op0 : WinOp).cid = some ({ conn0 with index := 1, queue := some (3, 1) } : Conn)) ∧
    (({ conn0 with index := 1, queue := some (3, 1) } : Conn).mode = .nrt) ∧
    holds (exec (.windowCeilingEligible (4 : Nat)) ({ hostUp with winops := [op0], lines := [line0] })) (fun t => decide ((sentOrWaiting t (op0 : WinOp).cid (.windowData (op0 : WinOp).msg (op0 : WinOp).len (bytesAt (putAt 0 4096 (line0 : Line).data) ((op0 : WinOp).byte % 4096) (op0 : WinOp).len)) = true) ∧ (t.rd F.MEM_HIT = (({ hostUp with winops := [op0], lines := [line0] }).rd F.MEM_HIT + 1) % 2 ^ 32))) = true := by decide +kernel

theorem witness_windowsAndCache_lineFillDone :
    (({ hostUp with lines := [{ line0 with valid := false, filling := true }] }).line? (1 : Nat) (3 : Nat) = some ({ line0 with valid := false, filling := true } : Line)) ∧
    (({ hostUp with lines := [{ line0 with valid := false, filling := true }] }).ns? (1 : Nat) = some (ns1 : Namespace)) ∧
    (({ line0 with valid := false, filling := true } : Line).filling = true) ∧
    (({ hostUp with lines := [{ line0 with valid := false, filling := true }] }).missing (ns1 : Namespace) [(3 : Nat)] = []) ∧
    ((({ hostUp with lines := [{ line0 with valid := false, filling := true }] }).lookups (ns1 : Namespace) [(3 : Nat)]).fillContent (ns1 : Namespace) (3 : Nat) = some (.enter 0 (piDealloc 0) : Blk)) ∧
    (({ hostUp with lines := [{ line0 with valid := false, filling := true }] }).winops = []) ∧
    holds (exec (.lineFillDone (1 : Nat) (3 : Nat) ([])) ({ hostUp with lines := [{ line0 with valid := false, filling := true }] })) (fun t => decide (((t.line? (1 : Nat) (3 : Nat)).any (fun x => x.valid && !x.filling && x.data == (.enter 0 (piDealloc 0) : Blk).data) = true))) = true := by decide +kernel

theorem witness_windowsAndCache_lineWritebackDone :
    (({ hostUp with lines := [{ line0 with dirty := true, wb := some 7, wbMet := true }] }).lines = [({ line0 with dirty := true, wb := some 7, wbMet := true } : Line)]) ∧
    (({ line0 with dirty := true, wb := some 7, wbMet := true } : Line).nsid = (1 : Nat)) ∧
    (({ line0 with dirty := true, wb := some 7, wbMet := true } : Line).lba = (3 : Nat)) ∧
    (({ line0 with dirty := true, wb := some 7, wbMet := true } : Line).wb.isSome = true) ∧
    (({ line0 with dirty := true, wb := some 7, wbMet := true } : Line).wbMet = true) ∧
    (({ line0 with dirty := true, wb := some 7, wbMet := true } : Line).redirtied = false) ∧
    (({ hostUp with lines := [{ line0 with dirty := true, wb := some 7, wbMet := true }] }).sectors = []) ∧
    (({ hostUp with lines := [{ line0 with dirty := true, wb := some 7, wbMet := true }] }).winops = []) ∧
    holds (exec (.lineWritebackDone (1 : Nat) (3 : Nat)) ({ hostUp with lines := [{ line0 with dirty := true, wb := some 7, wbMet := true }] })) (fun t => decide ((t.lines = [{ ({ line0 with dirty := true, wb := some 7, wbMet := true } : Line) with wb := none, wbMet := false, dirty := false, redirtied := false }]))) = true := by decide +kernel

theorem witness_windowsAndCache_cacheSetEn :
    ((up.wr F.MEM_CACHE_CTL_INV_DONE 1).reloading 4 = false) ∧
    ((up.wr F.MEM_CACHE_CTL_INV_DONE 1).cacheRole = true) ∧
    ((up.wr F.MEM_CACHE_CTL_INV_DONE 1).isSet F.MEM_CACHE_CTL_DIS_PENDING = false) ∧
    ((up.wr F.MEM_CACHE_CTL_INV_DONE 1).isSet F.MEM_CACHE_CTL_EN = false) ∧
    ((up.wr F.MEM_CACHE_CTL_INV_DONE 1).isSet F.MEM_CACHE_CTL_INV_DONE = true) ∧
    holds (exec .cacheSetEn (up.wr F.MEM_CACHE_CTL_INV_DONE 1)) (fun t => decide ((t.isSet F.MEM_CACHE_CTL_EN = true) ∧ (t.isSet F.MEM_CACHE_CTL_EN_REFUSED = (up.wr F.MEM_CACHE_CTL_INV_DONE 1).isSet F.MEM_CACHE_CTL_EN_REFUSED))) = true := by decide +kernel

theorem witness_windowsAndCache_cacheSetEn2 :
    (up.reloading 4 = false) ∧
    (up.cacheRole = true) ∧
    (up.isSet F.MEM_CACHE_CTL_DIS_PENDING = false) ∧
    (up.isSet F.MEM_CACHE_CTL_EN = false) ∧
    (up.isSet F.MEM_CACHE_CTL_INV_DONE = false) ∧
    holds (exec .cacheSetEn up) (fun t => decide ((t.isSet F.MEM_CACHE_CTL_EN = false) ∧ (t.isSet F.MEM_CACHE_CTL_EN_REFUSED = true))) = true := by decide +kernel

theorem witness_windowsAndCache_cacheClrEn :
    ((up.wr F.MEM_CACHE_CTL_EN 1).reloading 4 = false) ∧
    ((up.wr F.MEM_CACHE_CTL_EN 1).cacheRole = true) ∧
    ((up.wr F.MEM_CACHE_CTL_EN 1).isSet F.MEM_CACHE_CTL_EN = true) ∧
    ((up.wr F.MEM_CACHE_CTL_EN 1).isSet F.MEM_CACHE_CTL_DIS_PENDING = false) ∧
    ((up.wr F.MEM_CACHE_CTL_EN 1).maint = none) ∧
    ((up.wr F.MEM_CACHE_CTL_EN 1).lines = []) ∧
    holds (exec .cacheClrEn (up.wr F.MEM_CACHE_CTL_EN 1)) (fun t => decide ((t.isSet F.MEM_CACHE_CTL_DIS_PENDING = true) ∧ (t.isSet F.MEM_CACHE_CTL_INV_DONE = false) ∧ (t.isSet F.MEM_CACHE_CTL_EN = true))) = true := by decide +kernel

theorem witness_windowsAndCache_cacheDisableComplete :
    (({ (up.wr F.MEM_CACHE_CTL_EN 1).wr F.MEM_CACHE_CTL_DIS_PENDING 1 with lines := [line0] }).isSet F.MEM_CACHE_CTL_DIS_PENDING = true) ∧
    (({ (up.wr F.MEM_CACHE_CTL_EN 1).wr F.MEM_CACHE_CTL_DIS_PENDING 1 with lines := [line0] }).maint = none) ∧
    (({ (up.wr F.MEM_CACHE_CTL_EN 1).wr F.MEM_CACHE_CTL_DIS_PENDING 1 with lines := [line0] }).lines.all (fun l => !l.dirty && !l.busy) = true) ∧
    (({ (up.wr F.MEM_CACHE_CTL_EN 1).wr F.MEM_CACHE_CTL_DIS_PENDING 1 with lines := [line0] }).winops = []) ∧
    holds (exec .cacheDisableComplete ({ (up.wr F.MEM_CACHE_CTL_EN 1).wr F.MEM_CACHE_CTL_DIS_PENDING 1 with lines := [line0] })) (fun t => decide ((t.isSet F.MEM_CACHE_CTL_EN = false) ∧ (t.isSet F.MEM_CACHE_CTL_DIS_PENDING = false) ∧ (t.lines = []) ∧ (t.sectors = []))) = true := by decide +kernel

theorem witness_windowsAndCache_mntClean :
    (up.reloading 4 = false) ∧
    (up.isSet F.MEM_MNT_CMD_BUSY = false) ∧
    (up.isSet F.MEM_CACHE_CTL_DIS_PENDING = false) ∧
    (up.lines = []) ∧
    holds (exec (.mntClean (true : Bool)) up) (fun t => decide ((t.isSet F.MEM_MNT_CMD_BUSY = true) ∧ (t.maint.any (fun m => m.op == 1 && m.all == (true : Bool) && m.nsid == up.rd F.MEM_MNT_NSID_NSID && m.left.isEmpty) = true))) = true := by decide +kernel

theorem witness_windowsAndCache_mntInvalidate :
    (up.reloading 4 = false) ∧
    (up.isSet F.MEM_MNT_CMD_BUSY = false) ∧
    (up.isSet F.MEM_CACHE_CTL_DIS_PENDING = false) ∧
    (up.lines = []) ∧
    holds (exec (.mntInvalidate (false : Bool)) up) (fun t => decide ((t.isSet F.MEM_MNT_CMD_BUSY = true) ∧ (t.maint.any (fun m => m.op == 2 && m.all == (false : Bool) && m.nsid == up.rd F.MEM_MNT_NSID_NSID && m.left.isEmpty) = true))) = true := by decide +kernel

theorem witness_windowsAndCache_mntInvalidate2 :
    ((up.wr F.MEM_MNT_CMD_BUSY 1).reloading 4 = false) ∧
    ((up.wr F.MEM_MNT_CMD_BUSY 1).isSet F.MEM_MNT_CMD_BUSY = true) ∧
    holds (exec (.mntInvalidate (false : Bool)) (up.wr F.MEM_MNT_CMD_BUSY 1)) (fun t => decide ((t.maint = (up.wr F.MEM_MNT_CMD_BUSY 1).maint) ∧ (t.lines = (up.wr F.MEM_MNT_CMD_BUSY 1).lines) ∧ (t.isSet F.MEM_MNT_CMD_REFUSED = true))) = true := by decide +kernel

theorem witness_windowsAndCache_mntComplete :
    (({ up.wr F.MEM_MNT_CMD_BUSY 1 with maint := some ⟨2, true, 0, 0, 0, []⟩, lines := [line0] }).maint = some (⟨2, true, 0, 0, 0, []⟩ : Maint)) ∧
    ((⟨2, true, 0, 0, 0, []⟩ : Maint).left = []) ∧
    ((⟨2, true, 0, 0, 0, []⟩ : Maint).op = 2) ∧
    ((⟨2, true, 0, 0, 0, []⟩ : Maint).all = true) ∧
    (({ up.wr F.MEM_MNT_CMD_BUSY 1 with maint := some ⟨2, true, 0, 0, 0, []⟩, lines := [line0] }).isSet F.MEM_CACHE_CTL_EN = false) ∧
    (({ up.wr F.MEM_MNT_CMD_BUSY 1 with maint := some ⟨2, true, 0, 0, 0, []⟩, lines := [line0] }).isSet F.MEM_CACHE_CTL_DIS_PENDING = false) ∧
    holds (exec .mntComplete ({ up.wr F.MEM_MNT_CMD_BUSY 1 with maint := some ⟨2, true, 0, 0, 0, []⟩, lines := [line0] })) (fun t => decide ((t.maint = none) ∧ (t.lines = []) ∧ (t.isSet F.MEM_MNT_CMD_BUSY = false) ∧ (t.isSet F.MEM_CACHE_CTL_INV_DONE = true))) = true := by decide +kernel

theorem witness_windowsAndCache_memRegionReady :
    ((0 : Nat) < 15) ∧
    (up.boot.memBad = 0) ∧
    ((List.range (0 : Nat)).all (fun i => hasBit (up.rd F.MEM_STAT_READY) i) = true) ∧
    holds (exec (.memRegionReady (0 : Nat)) up) (fun t => decide ((hasBit (t.rd F.MEM_STAT_READY) (0 : Nat) = true))) = true := by decide +kernel

theorem witness_windowsAndCache_memRegionReady2 :
    ((14 : Nat) < 15) ∧
    (up.boot.memBad = 0) ∧
    ((List.range (14 : Nat)).all (fun i => hasBit (up.rd F.MEM_STAT_READY) i) = false) ∧
    holds (exec (.memRegionReady (14 : Nat)) up) (fun t => decide ((t = up))) = true := by decide +kernel

theorem witness_windowsAndCache_dimmTempChange :
    ((7 : Nat) < (match up.part with | .zs => 8 | .zl => 4)) ∧
    holds (exec (.dimmTempChange (7 : Nat) (96 : Nat)) up) (fun t => decide ((t.rd (F.MEM_CHSTAT_TEMP (7 : Nat)) = min 255 (96 : Nat)) ∧ (t.isSet (F.MEM_CHSTAT_HOT (7 : Nat)) = decide (85 < (96 : Nat))) ∧ (t.isSet (F.MEM_CHSTAT_THROTTLED (7 : Nat)) = decide (up.rd F.MEM_CFG_THROTTLE_C < (96 : Nat))))) = true := by decide +kernel

theorem witness_ioCommands_nvmeFlush :
    ((io 0 : NvmeCmd).qid ≠ 0) ∧
    (queueTakes hostUp (io 0 : NvmeCmd) = true) ∧
    holds (exec (.nvmeFlush (io 0 : NvmeCmd)) hostUp) (fun t => decide (((t.cmd? hostUp.nextCmd).any (fun c => c.nv == { (io 0 : NvmeCmd) with opc := 0x00 } && c.phase == .delivered && c.result.isNone && c.at_ == hostUp.now) = true) ∧ (t.nextCmd = hostUp.nextCmd + 1) ∧ (t.cmds.length = hostUp.cmds.length + 1))) = true := by decide +kernel

theorem witness_ioCommands_nvmeWrite :
    ((io 0 : NvmeCmd).qid ≠ 0) ∧
    (queueTakes hostUp (io 0 : NvmeCmd) = true) ∧
    holds (exec (.nvmeWrite (io 0 : NvmeCmd)) hostUp) (fun t => decide (((t.cmd? hostUp.nextCmd).any (fun c => c.nv == { (io 0 : NvmeCmd) with opc := 0x01 } && c.phase == .delivered && c.result.isNone && c.at_ == hostUp.now) = true) ∧ (t.nextCmd = hostUp.nextCmd + 1) ∧ (t.cmds.length = hostUp.cmds.length + 1))) = true := by decide +kernel

theorem witness_ioCommands_nvmeRead :
    ((io 0 : NvmeCmd).qid ≠ 0) ∧
    (queueTakes hostUp (io 0 : NvmeCmd) = true) ∧
    holds (exec (.nvmeRead (io 0 : NvmeCmd)) hostUp) (fun t => decide (((t.cmd? hostUp.nextCmd).any (fun c => c.nv == { (io 0 : NvmeCmd) with opc := 0x02 } && c.phase == .delivered && c.result.isNone && c.at_ == hostUp.now) = true) ∧ (t.nextCmd = hostUp.nextCmd + 1) ∧ (t.cmds.length = hostUp.cmds.length + 1))) = true := by decide +kernel

theorem witness_ioCommands_nvmeCompare :
    ((io 0 : NvmeCmd).qid ≠ 0) ∧
    (queueTakes hostUp (io 0 : NvmeCmd) = true) ∧
    holds (exec (.nvmeCompare (io 0 : NvmeCmd)) hostUp) (fun t => decide (((t.cmd? hostUp.nextCmd).any (fun c => c.nv == { (io 0 : NvmeCmd) with opc := 0x05 } && c.phase == .delivered && c.result.isNone && c.at_ == hostUp.now) = true) ∧ (t.nextCmd = hostUp.nextCmd + 1) ∧ (t.cmds.length = hostUp.cmds.length + 1))) = true := by decide +kernel

theorem witness_ioCommands_nvmeWriteZeroes :
    ((io 0 : NvmeCmd).qid ≠ 0) ∧
    (queueTakes hostUp (io 0 : NvmeCmd) = true) ∧
    holds (exec (.nvmeWriteZeroes (io 0 : NvmeCmd)) hostUp) (fun t => decide (((t.cmd? hostUp.nextCmd).any (fun c => c.nv == { (io 0 : NvmeCmd) with opc := 0x08 } && c.phase == .delivered && c.result.isNone && c.at_ == hostUp.now) = true) ∧ (t.nextCmd = hostUp.nextCmd + 1) ∧ (t.cmds.length = hostUp.cmds.length + 1))) = true := by decide +kernel

theorem witness_ioCommands_nvmeDatasetManagement :
    ((io 0 : NvmeCmd).qid ≠ 0) ∧
    (queueTakes hostUp (io 0 : NvmeCmd) = true) ∧
    holds (exec (.nvmeDatasetManagement (io 0 : NvmeCmd)) hostUp) (fun t => decide (((t.cmd? hostUp.nextCmd).any (fun c => c.nv == { (io 0 : NvmeCmd) with opc := 0x09 } && c.phase == .delivered && c.result.isNone && c.at_ == hostUp.now) = true) ∧ (t.nextCmd = hostUp.nextCmd + 1) ∧ (t.cmds.length = hostUp.cmds.length + 1))) = true := by decide +kernel

theorem witness_ioCommands_nvmeVerify :
    ((io 0 : NvmeCmd).qid ≠ 0) ∧
    (queueTakes hostUp (io 0 : NvmeCmd) = true) ∧
    holds (exec (.nvmeVerify (io 0 : NvmeCmd)) hostUp) (fun t => decide (((t.cmd? hostUp.nextCmd).any (fun c => c.nv == { (io 0 : NvmeCmd) with opc := 0x0C } && c.phase == .delivered && c.result.isNone && c.at_ == hostUp.now) = true) ∧ (t.nextCmd = hostUp.nextCmd + 1) ∧ (t.cmds.length = hostUp.cmds.length + 1))) = true := by decide +kernel

theorem witness_ioCommands_commandAdmission :
    (({ hostUp.wr (F.CMD_QOS_CFG_EN) 0 with cmds := [{ fwCmd with nv := io 2 }] }).halRole ≠ 2) ∧
    (({ hostUp.wr (F.CMD_QOS_CFG_EN) 0 with cmds := [{ fwCmd with nv := io 2 }] }).halRole ≠ 4) ∧
    (({ hostUp.wr (F.CMD_QOS_CFG_EN) 0 with cmds := [{ fwCmd with nv := io 2 }] }).serving_ = true) ∧
    (({ hostUp.wr (F.CMD_QOS_CFG_EN) 0 with cmds := [{ fwCmd with nv := io 2 }] }).cmds = [({ fwCmd with nv := io 2 } : Cmd)]) ∧
    (({ fwCmd with nv := io 2 } : Cmd).nv.qid ≠ 0) ∧
    (({ fwCmd with nv := io 2 } : Cmd).nv.opc = 0x02) ∧
    (({ hostUp.wr (F.CMD_QOS_CFG_EN) 0 with cmds := [{ fwCmd with nv := io 2 }] }).homeRole ({ fwCmd with nv := io 2 } : Cmd).nv = (1 : Nat)) ∧
    (({ fwCmd with nv := io 2 } : Cmd).phase = .delivered) ∧
    (({ fwCmd with nv := io 2 } : Cmd).result = none) ∧
    (({ hostUp.wr (F.CMD_QOS_CFG_EN) 0 with cmds := [{ fwCmd with nv := io 2 }] }).ioCheck ({ fwCmd with nv := io 2 } : Cmd) = none) ∧
    (({ hostUp.wr (F.CMD_QOS_CFG_EN) 0 with cmds := [{ fwCmd with nv := io 2 }] }).pick (1 : Nat) = some ({ fwCmd with nv := io 2 } : Cmd)) ∧
    (({ hostUp.wr (F.CMD_QOS_CFG_EN) 0 with cmds := [{ fwCmd with nv := io 2 }] }).ns? ({ fwCmd with nv := io 2 } : Cmd).nv.nsid = some (ns1 : Namespace)) ∧
    holds (exec (.commandAdmission (1 : Nat)) ({ hostUp.wr (F.CMD_QOS_CFG_EN) 0 with cmds := [{ fwCmd with nv := io 2 }] })) (fun t => decide (((t.cmd? ({ fwCmd with nv := io 2 } : Cmd).id).any (fun x => x.phase == .admitted && x.nv == ({ fwCmd with nv := io 2 } : Cmd).nv) = true))) = true := by decide +kernel

theorem witness_ioCommands_commandAdmission2 :
    (({ hostUp with cmds := [{ fwCmd with nv := { io 2 with cdw10 := 1000 } }] }).halRole ≠ 2) ∧
    (({ hostUp with cmds := [{ fwCmd with nv := { io 2 with cdw10 := 1000 } }] }).halRole ≠ 4) ∧
    (({ hostUp with cmds := [{ fwCmd with nv := { io 2 with cdw10 := 1000 } }] }).paired = false) ∧
    (({ hostUp with cmds := [{ fwCmd with nv := { io 2 with cdw10 := 1000 } }] }).cmds = [({ fwCmd with nv := { io 2 with cdw10 := 1000 } } : Cmd)]) ∧
    (({ fwCmd with nv := { io 2 with cdw10 := 1000 } } : Cmd).nv.qid ≠ 0) ∧
    (({ hostUp with cmds := [{ fwCmd with nv := { io 2 with cdw10 := 1000 } }] }).homeRole ({ fwCmd with nv := { io 2 with cdw10 := 1000 } } : Cmd).nv = (1 : Nat)) ∧
    (({ hostUp with cmds := [{ fwCmd with nv := { io 2 with cdw10 := 1000 } }] }).adminWaits = []) ∧
    (({ fwCmd with nv := { io 2 with cdw10 := 1000 } } : Cmd).phase = .delivered) ∧
    (({ fwCmd with nv := { io 2 with cdw10 := 1000 } } : Cmd).result = none) ∧
    (({ fwCmd with nv := { io 2 with cdw10 := 1000 } } : Cmd).ordered = false) ∧
    (({ hostUp with cmds := [{ fwCmd with nv := { io 2 with cdw10 := 1000 } }] }).ioCheck ({ fwCmd with nv := { io 2 with cdw10 := 1000 } } : Cmd) = some St.lbaRange) ∧
    ((({ hostUp with cmds := [{ fwCmd with nv := { io 2 with cdw10 := 1000 } }] }).queueOf ({ fwCmd with nv := { io 2 with cdw10 := 1000 } } : Cmd).nv).any (fun (q : Queue) => q.conn.any fun (k : Nat) => (({ hostUp with cmds := [{ fwCmd with nv := { io 2 with cdw10 := 1000 } }] }).conn? k).isSome) = true) ∧
    holds (exec (.commandAdmission (1 : Nat)) ({ hostUp with cmds := [{ fwCmd with nv := { io 2 with cdw10 := 1000 } }] })) (fun t => decide ((answered ({ hostUp with cmds := [{ fwCmd with nv := { io 2 with cdw10 := 1000 } }] }) t ({ fwCmd with nv := { io 2 with cdw10 := 1000 } } : Cmd).nv 0 St.lbaRange = true) ∧ (t.cmds = []))) = true := by decide +kernel

theorem witness_ioCommands_commandDispatch :
    (({ hostUp with cmds := [{ fwCmd with nv := io 8, phase := .admitted }] }).cmd? (1 : Nat) = some ({ fwCmd with nv := io 8, phase := .admitted } : Cmd)) ∧
    (({ hostUp with cmds := [{ fwCmd with nv := io 8, phase := .admitted }] }).draining = false) ∧
    (({ hostUp with cmds := [{ fwCmd with nv := io 8, phase := .admitted }] }).ns? ({ fwCmd with nv := io 8, phase := .admitted } : Cmd).nv.nsid = some (ns1 : Namespace)) ∧
    ((ns1 : Namespace).fixed = false) ∧
    (({ fwCmd with nv := io 8, phase := .admitted } : Cmd).phase = .admitted) ∧
    (({ fwCmd with nv := io 8, phase := .admitted } : Cmd).result = none) ∧
    (({ fwCmd with nv := io 8, phase := .admitted } : Cmd).nv.opc = 0x08) ∧
    (({ fwCmd with nv := io 8, phase := .admitted } : Cmd).dirtyWait = []) ∧
    holds (exec (.commandDispatch (1 : Nat) (true : Bool)) ({ hostUp with cmds := [{ fwCmd with nv := io 8, phase := .admitted }] })) (fun t => decide (((t.cmd? (1 : Nat)).any (fun x => x.phase == .dispatched && x.recsLeft.length == 1) = true) ∧ (t.pendings = ({ hostUp with cmds := [{ fwCmd with nv := io 8, phase := .admitted }] }).pendings ++ [⟨({ fwCmd with nv := io 8, phase := .admitted } : Cmd).id, (ns1 : Namespace).nsid, slba ({ fwCmd with nv := io 8, phase := .admitted } : Cmd).nv, nlb ({ fwCmd with nv := io 8, phase := .admitted } : Cmd).nv, some .zero⟩]))) = true := by decide +kernel

theorem witness_ioCommands_commandCompletion :
    (({ hostUp with cmds := [{ fwCmd with nv := io 2, phase := .met, result := some (5, 0, 0, 0) }] }).halRole ≠ 2) ∧
    (({ hostUp with cmds := [{ fwCmd with nv := io 2, phase := .met, result := some (5, 0, 0, 0) }] }).halRole ≠ 4) ∧
    (({ hostUp with cmds := [{ fwCmd with nv := io 2, phase := .met, result := some (5, 0, 0, 0) }] }).paired = false) ∧
    (({ hostUp with cmds := [{ fwCmd with nv := io 2, phase := .met, result := some (5, 0, 0, 0) }] }).cmd? (1 : Nat) = some ({ fwCmd with nv := io 2, phase := .met, result := some (5, 0, 0, 0) } : Cmd)) ∧
    (({ fwCmd with nv := io 2, phase := .met, result := some (5, 0, 0, 0) } : Cmd).phase = .met) ∧
    (({ fwCmd with nv := io 2, phase := .met, result := some (5, 0, 0, 0) } : Cmd).result = some ((5 : Nat), (⟨0, 0, 0⟩ : Status).sct, (⟨0, 0, 0⟩ : Status).sc, (⟨0, 0, 0⟩ : Status).dnr)) ∧
    (({ fwCmd with nv := io 2, phase := .met, result := some (5, 0, 0, 0) } : Cmd).ordered = false) ∧
    (({ hostUp with cmds := [{ fwCmd with nv := io 2, phase := .met, result := some (5, 0, 0, 0) }] }).adminWaits = []) ∧
    (({ hostUp with cmds := [{ fwCmd with nv := io 2, phase := .met, result := some (5, 0, 0, 0) }] }).winops = []) ∧
    ((({ hostUp with cmds := [{ fwCmd with nv := io 2, phase := .met, result := some (5, 0, 0, 0) }] }).queueOf ({ fwCmd with nv := io 2, phase := .met, result := some (5, 0, 0, 0) } : Cmd).nv).any (fun (q : Queue) => q.conn.any fun (k : Nat) => (({ hostUp with cmds := [{ fwCmd with nv := io 2, phase := .met, result := some (5, 0, 0, 0) }] }).conn? k).isSome) = true) ∧
    holds (exec (.commandCompletion (1 : Nat)) ({ hostUp with cmds := [{ fwCmd with nv := io 2, phase := .met, result := some (5, 0, 0, 0) }] })) (fun t => decide ((answered ({ hostUp with cmds := [{ fwCmd with nv := io 2, phase := .met, result := some (5, 0, 0, 0) }] }) t ({ fwCmd with nv := io 2, phase := .met, result := some (5, 0, 0, 0) } : Cmd).nv (5 : Nat) (⟨0, 0, 0⟩ : Status) = true) ∧ (t.cmds = ({ hostUp with cmds := [{ fwCmd with nv := io 2, phase := .met, result := some (5, 0, 0, 0) }] }).cmds.filter (fun x => x.id != ({ fwCmd with nv := io 2, phase := .met, result := some (5, 0, 0, 0) } : Cmd).id)) ∧ (t.rd (F.CMD_DONE (cmdRole ({ fwCmd with nv := io 2, phase := .met, result := some (5, 0, 0, 0) } : Cmd).nv)) = (({ hostUp with cmds := [{ fwCmd with nv := io 2, phase := .met, result := some (5, 0, 0, 0) }] }).rd (F.CMD_DONE (cmdRole ({ fwCmd with nv := io 2, phase := .met, result := some (5, 0, 0, 0) } : Cmd).nv)) + 1) % 2 ^ 32))) = true := by decide +kernel

theorem witness_ioCommands_memberWaitNotice :
    (({ hostUp with cmds := [{ fwCmd with nv := io 2, phase := .dispatched }], jobs := [⟨0, 1, 0, ⟨.log 0 0, 0, 0⟩, [], [], [], 0, false⟩] }).cmd? (1 : Nat) = some ({ fwCmd with nv := io 2, phase := .dispatched } : Cmd)) ∧
    (({ fwCmd with nv := io 2, phase := .dispatched } : Cmd).phase = .dispatched) ∧
    (({ fwCmd with nv := io 2, phase := .dispatched } : Cmd).result = none) ∧
    (({ hostUp with cmds := [{ fwCmd with nv := io 2, phase := .dispatched }], jobs := [⟨0, 1, 0, ⟨.log 0 0, 0, 0⟩, [], [], [], 0, false⟩] }).waitsLong ({ fwCmd with nv := io 2, phase := .dispatched } : Cmd) = true) ∧
    (({ fwCmd with nv := io 2, phase := .dispatched } : Cmd).waited = false) ∧
    holds (exec (.memberWaitNotice (1 : Nat)) ({ hostUp with cmds := [{ fwCmd with nv := io 2, phase := .dispatched }], jobs := [⟨0, 1, 0, ⟨.log 0 0, 0, 0⟩, [], [], [], 0, false⟩] })) (fun t => decide (((t.cmd? (1 : Nat)).any (·.waited) = true) ∧ (t.jobs = ({ hostUp with cmds := [{ fwCmd with nv := io 2, phase := .dispatched }], jobs := [⟨0, 1, 0, ⟨.log 0 0, 0, 0⟩, [], [], [], 0, false⟩] }).jobs))) = true := by decide +kernel

theorem witness_reservations_reservationRegister :
    (resvReady hostUp { ({ io 0x0D with data := 9 * 2 ^ 64 } : NvmeCmd) with opc := 0x0D } = true) ∧
    (hostUp.ns? ({ io 0x0D with data := 9 * 2 ^ 64 } : NvmeCmd).nsid = some (ns1 : Namespace)) ∧
    ((hostUp.ctrl? ({ io 0x0D with data := 9 * 2 ^ 64 } : NvmeCmd).ctl).bind (·.ident) = some (0 : Nat)) ∧
    (bits ({ io 0x0D with data := 9 * 2 ^ 64 } : NvmeCmd).cdw10 2 0 = 0) ∧
    (bits ({ io 0x0D with data := 9 * 2 ^ 64 } : NvmeCmd).cdw10 31 30 ≠ 1) ∧
    ((ns1 : Namespace).resv.key? (0 : Nat) = none) ∧
    ((ns1 : Namespace).resv.regs.length < 64) ∧
    holds (exec (.reservationRegister ({ io 0x0D with data := 9 * 2 ^ 64 } : NvmeCmd)) hostUp) (fun t => decide (((t.ns? ({ io 0x0D with data := 9 * 2 ^ 64 } : NvmeCmd).nsid).any (fun x => x.resv.regs == (ns1 : Namespace).resv.regs ++ [((0 : Nat), bytesAt ({ io 0x0D with data := 9 * 2 ^ 64 } : NvmeCmd).data 8 8)] && x.resv.gen == ((ns1 : Namespace).resv.gen + 1) % 2 ^ 32 && x.resv.rtype == (ns1 : Namespace).resv.rtype) = true) ∧ (answered hostUp t ({ io 0x0D with data := 9 * 2 ^ 64 } : NvmeCmd) 0 St.ok = true))) = true := by decide +kernel

theorem witness_reservations_reservationReport :
    (resvReady hostUp { ({ io 0x0E with cdw11 := 1 } : NvmeCmd) with opc := 0x0E } = true) ∧
    (hostUp.ns? ({ io 0x0E with cdw11 := 1 } : NvmeCmd).nsid = some (ns1 : Namespace)) ∧
    (hasBit ({ io 0x0E with cdw11 := 1 } : NvmeCmd).cdw11 0 = true) ∧
    holds (exec (.reservationReport ({ io 0x0E with cdw11 := 1 } : NvmeCmd)) hostUp) (fun t => decide (((t.ns? ({ io 0x0E with cdw11 := 1 } : NvmeCmd).nsid).map (·.resv) = some (ns1 : Namespace).resv) ∧ (answered hostUp t ({ io 0x0E with cdw11 := 1 } : NvmeCmd) 0 St.ok = true))) = true := by decide +kernel

theorem witness_reservations_reservationAcquire :
    (resvReady ({ hostUp with nss := [{ ns1 with resv := ⟨0, none, [(0, 9)], 0, false⟩ }] }) { ({ io 0x11 with data := 9, cdw10 := 0x100 } : NvmeCmd) with opc := 0x11 } = true) ∧
    (({ hostUp with nss := [{ ns1 with resv := ⟨0, none, [(0, 9)], 0, false⟩ }] }).ns? ({ io 0x11 with data := 9, cdw10 := 0x100 } : NvmeCmd).nsid = some ({ ns1 with resv := ⟨0, none, [(0, 9)], 0, false⟩ } : Namespace)) ∧
    ((({ hostUp with nss := [{ ns1 with resv := ⟨0, none, [(0, 9)], 0, false⟩ }] }).ctrl? ({ io 0x11 with data := 9, cdw10 := 0x100 } : NvmeCmd).ctl).bind (·.ident) = some (0 : Nat)) ∧
    (bits ({ io 0x11 with data := 9, cdw10 := 0x100 } : NvmeCmd).cdw10 3 0 = 0) ∧
    (1 ≤ bits ({ io 0x11 with data := 9, cdw10 := 0x100 } : NvmeCmd).cdw10 15 8) ∧
    (bits ({ io 0x11 with data := 9, cdw10 := 0x100 } : NvmeCmd).cdw10 15 8 ≤ 6) ∧
    (({ ns1 with resv := ⟨0, none, [(0, 9)], 0, false⟩ } : Namespace).resv.key? (0 : Nat) = some (bytesAt ({ io 0x11 with data := 9, cdw10 := 0x100 } : NvmeCmd).data 0 8)) ∧
    (({ ns1 with resv := ⟨0, none, [(0, 9)], 0, false⟩ } : Namespace).resv.rtype = 0) ∧
    holds (exec (.reservationAcquire ({ io 0x11 with data := 9, cdw10 := 0x100 } : NvmeCmd)) ({ hostUp with nss := [{ ns1 with resv := ⟨0, none, [(0, 9)], 0, false⟩ }] })) (fun t => decide (((t.ns? ({ io 0x11 with data := 9, cdw10 := 0x100 } : NvmeCmd).nsid).any (fun x => x.resv.rtype == bits ({ io 0x11 with data := 9, cdw10 := 0x100 } : NvmeCmd).cdw10 15 8 && x.resv.holds (0 : Nat) && x.resv.regs == ({ ns1 with resv := ⟨0, none, [(0, 9)], 0, false⟩ } : Namespace).resv.regs) = true) ∧ (answered ({ hostUp with nss := [{ ns1 with resv := ⟨0, none, [(0, 9)], 0, false⟩ }] }) t ({ io 0x11 with data := 9, cdw10 := 0x100 } : NvmeCmd) 0 St.ok = true))) = true := by decide +kernel

theorem witness_reservations_reservationRelease :
    (resvReady ({ hostUp with nss := [{ ns1 with resv := ⟨1, some 0, [(0, 9)], 0, false⟩ }] }) { ({ io 0x15 with data := 9, cdw10 := 0x100 } : NvmeCmd) with opc := 0x15 } = true) ∧
    (({ hostUp with nss := [{ ns1 with resv := ⟨1, some 0, [(0, 9)], 0, false⟩ }] }).ns? ({ io 0x15 with data := 9, cdw10 := 0x100 } : NvmeCmd).nsid = some ({ ns1 with resv := ⟨1, some 0, [(0, 9)], 0, false⟩ } : Namespace)) ∧
    ((({ hostUp with nss := [{ ns1 with resv := ⟨1, some 0, [(0, 9)], 0, false⟩ }] }).ctrl? ({ io 0x15 with data := 9, cdw10 := 0x100 } : NvmeCmd).ctl).bind (·.ident) = some (0 : Nat)) ∧
    (bits ({ io 0x15 with data := 9, cdw10 := 0x100 } : NvmeCmd).cdw10 3 0 = 0) ∧
    (({ ns1 with resv := ⟨1, some 0, [(0, 9)], 0, false⟩ } : Namespace).resv.key? (0 : Nat) = some (bytesAt ({ io 0x15 with data := 9, cdw10 := 0x100 } : NvmeCmd).data 0 8)) ∧
    (({ ns1 with resv := ⟨1, some 0, [(0, 9)], 0, false⟩ } : Namespace).resv.holds (0 : Nat) = true) ∧
    (({ ns1 with resv := ⟨1, some 0, [(0, 9)], 0, false⟩ } : Namespace).resv.rtype = bits ({ io 0x15 with data := 9, cdw10 := 0x100 } : NvmeCmd).cdw10 15 8) ∧
    (({ ns1 with resv := ⟨1, some 0, [(0, 9)], 0, false⟩ } : Namespace).resv.rtype < 3) ∧
    holds (exec (.reservationRelease ({ io 0x15 with data := 9, cdw10 := 0x100 } : NvmeCmd)) ({ hostUp with nss := [{ ns1 with resv := ⟨1, some 0, [(0, 9)], 0, false⟩ }] })) (fun t => decide (((t.ns? ({ io 0x15 with data := 9, cdw10 := 0x100 } : NvmeCmd).nsid).any (fun x => x.resv.rtype == 0 && x.resv.holder == none && x.resv.regs == ({ ns1 with resv := ⟨1, some 0, [(0, 9)], 0, false⟩ } : Namespace).resv.regs) = true) ∧ (answered ({ hostUp with nss := [{ ns1 with resv := ⟨1, some 0, [(0, 9)], 0, false⟩ }] }) t ({ io 0x15 with data := 9, cdw10 := 0x100 } : NvmeCmd) 0 St.ok = true))) = true := by decide +kernel

theorem witness_fabricsCommands_fabricsConnect :
    (({ hostUp with conns := [{ conn0 with queue := none }], ctrls := [] }).conn? (262144 : Nat) = some ({ conn0 with queue := none } : Conn)) ∧
    (({ hostUp with conns := [{ conn0 with queue := none }], ctrls := [] }).connectRefusal ({ conn0 with queue := none } : Conn) ({ adm 0x7F with sgl := .keyed ⟨1, 0, 1024⟩, data := 22 + 0xFFFF * 2 ^ 128 + 21 * 2 ^ 4096 } : NvmeCmd) = none) ∧
    (bits ({ adm 0x7F with sgl := .keyed ⟨1, 0, 1024⟩, data := 22 + 0xFFFF * 2 ^ 128 + 21 * 2 ^ 4096 } : NvmeCmd).cdw10 31 16 = 0) ∧
    (({ hostUp with conns := [{ conn0 with queue := none }], ctrls := [] }).paired = false) ∧
    (({ hostUp with conns := [{ conn0 with queue := none }], ctrls := [] }).connectIdent ({ adm 0x7F with sgl := .keyed ⟨1, 0, 1024⟩, data := 22 + 0xFFFF * 2 ^ 128 + 21 * 2 ^ 4096 } : NvmeCmd) = some (ident0 : Ident)) ∧
    (({ hostUp with conns := [{ conn0 with queue := none }], ctrls := [] }).freeCtrl? = some (0 : Nat)) ∧
    holds (exec (.fabricsConnect (262144 : Nat) ({ adm 0x7F with sgl := .keyed ⟨1, 0, 1024⟩, data := 22 + 0xFFFF * 2 ^ 128 + 21 * 2 ^ 4096 } : NvmeCmd)) ({ hostUp with conns := [{ conn0 with queue := none }], ctrls := [] })) (fun t => decide (((t.ctrl? (0 : Nat)).any (fun (z : Ctrl) => z.ident == some (ident0 : Ident).index && z.func == none && z.cc == 0 && z.queues.map (fun (q : Queue) => (q.qid, q.conn, q.size)) == [(0, some (262144 : Nat), bits ({ adm 0x7F with sgl := .keyed ⟨1, 0, 1024⟩, data := 22 + 0xFFFF * 2 ^ 128 + 21 * 2 ^ 4096 } : NvmeCmd).cdw11 15 0 + 1)]) = true) ∧ ((t.conn? (262144 : Nat)).any (fun (k : Conn) => k.queue == some ((0 : Nat), 0)) = true) ∧ (sentOrWaiting t (262144 : Nat) (.response ({ adm 0x7F with sgl := .keyed ⟨1, 0, 1024⟩, data := 22 + 0xFFFF * 2 ^ 128 + 21 * 2 ^ 4096 } : NvmeCmd).cid (((0 : Nat) + 1) + 65536 * (if (ident0 : Ident).auth = 0 then 0 else 2)) 0 0 0) = true))) = true := by decide +kernel

theorem witness_fabricsCommands_propertyGet :
    (adminReady hostUp ({ adm 0x7F with cdw11 := 0x14 } : NvmeCmd) = true) ∧
    (hostUp.ctrl? ({ adm 0x7F with cdw11 := 0x14 } : NvmeCmd).ctl = some (ctrl3 : Ctrl)) ∧
    (({ adm 0x7F with cdw11 := 0x14 } : NvmeCmd).cdw11 = 0x14) ∧
    (({ adm 0x7F with cdw11 := 0x14 } : NvmeCmd).cdw10 % 8 ≠ 1) ∧
    holds (exec (.propertyGet ({ adm 0x7F with cdw11 := 0x14 } : NvmeCmd)) hostUp) (fun t => decide ((answered hostUp t ({ adm 0x7F with cdw11 := 0x14 } : NvmeCmd) ((ctrl3 : Ctrl).cc % 2 ^ 32) St.ok = true))) = true := by decide +kernel

theorem witness_fabricsCommands_propertySet :
    (adminReady ({ hostUp with ctrls := [{ ctrl3 with cc := 0, csts := 0 }] }) ({ adm 0x7F with cdw11 := 0x14, cdw12 := 0x460001 } : NvmeCmd) = true) ∧
    (({ adm 0x7F with cdw11 := 0x14, cdw12 := 0x460001 } : NvmeCmd).cdw11 = 0x14) ∧
    (({ adm 0x7F with cdw11 := 0x14, cdw12 := 0x460001 } : NvmeCmd).cdw12 % 2 = 1) ∧
    holds (exec (.propertySet ({ adm 0x7F with cdw11 := 0x14, cdw12 := 0x460001 } : NvmeCmd)) ({ hostUp with ctrls := [{ ctrl3 with cc := 0, csts := 0 }] })) (fun t => decide (((t.ctrl? ({ adm 0x7F with cdw11 := 0x14, cdw12 := 0x460001 } : NvmeCmd).ctl).any (fun (z : Ctrl) => z.cc == (({ adm 0x7F with cdw11 := 0x14, cdw12 := 0x460001 } : NvmeCmd).cdw12 + 2 ^ 32 * ({ adm 0x7F with cdw11 := 0x14, cdw12 := 0x460001 } : NvmeCmd).cdw13) % 2 ^ 32 && hasBit z.csts 0) = true) ∧ (answered ({ hostUp with ctrls := [{ ctrl3 with cc := 0, csts := 0 }] }) t ({ adm 0x7F with cdw11 := 0x14, cdw12 := 0x460001 } : NvmeCmd) 0 St.ok = true))) = true := by decide +kernel

theorem witness_fabricsCommands_propertySetCcEnClear :
    (adminReady hostUp ({ adm 0x7F with cdw11 := 0x14 } : NvmeCmd) = true) ∧
    ((hostUp.ctrl? ({ adm 0x7F with cdw11 := 0x14 } : NvmeCmd).ctl).any (fun (z : Ctrl) => z.func.isNone) = true) ∧
    holds (exec (.propertySetCcEnClear ({ adm 0x7F with cdw11 := 0x14 } : NvmeCmd)) hostUp) (fun t => decide ((t.ctrl? ({ adm 0x7F with cdw11 := 0x14 } : NvmeCmd).ctl = none) ∧ (t.freedCtrls.head? = some (({ adm 0x7F with cdw11 := 0x14 } : NvmeCmd).ctl, hostUp.now)))) = true := by decide +kernel

theorem witness_fabricsCommands_propertySetCcShn :
    (adminReady hostUp ({ adm 0x7F with cdw11 := 0x14, cdw12 := 0x464001 } : NvmeCmd) = true) ∧
    (bits ({ adm 0x7F with cdw11 := 0x14, cdw12 := 0x464001 } : NvmeCmd).cdw12 15 14 = 1) ∧
    holds (exec (.propertySetCcShn ({ adm 0x7F with cdw11 := 0x14, cdw12 := 0x464001 } : NvmeCmd)) hostUp) (fun t => decide (((t.ctrl? ({ adm 0x7F with cdw11 := 0x14, cdw12 := 0x464001 } : NvmeCmd).ctl).any (fun (z : Ctrl) => z.shutdown && bits z.csts 3 2 == 1) = true) ∧ (answered hostUp t ({ adm 0x7F with cdw11 := 0x14, cdw12 := 0x464001 } : NvmeCmd) 0 St.ok = true))) = true := by decide +kernel

theorem witness_fabricsCommands_propertySetNssr :
    (adminReady (hostUp.wr F.CMD_CFG_NSSR_EN 1) ({ adm 0x7F with cdw11 := 0x20, cdw12 := 0x4E564D65 } : NvmeCmd) = true) ∧
    ((hostUp.wr F.CMD_CFG_NSSR_EN 1).isSet F.CMD_CFG_NSSR_EN = true) ∧
    (({ adm 0x7F with cdw11 := 0x20, cdw12 := 0x4E564D65 } : NvmeCmd).cdw12 % 2 ^ 32 = 0x4E564D65) ∧
    ((hostUp.wr F.CMD_CFG_NSSR_EN 1).hasPriv ({ adm 0x7F with cdw11 := 0x20, cdw12 := 0x4E564D65 } : NvmeCmd).ctl 1 = true) ∧
    (((hostUp.wr F.CMD_CFG_NSSR_EN 1).ctrl? ({ adm 0x7F with cdw11 := 0x20, cdw12 := 0x4E564D65 } : NvmeCmd).ctl).any (fun (z : Ctrl) => z.func.isNone) = true) ∧
    holds (exec (.propertySetNssr ({ adm 0x7F with cdw11 := 0x20, cdw12 := 0x4E564D65 } : NvmeCmd)) (hostUp.wr F.CMD_CFG_NSSR_EN 1)) (fun t => decide ((t.nssro = true) ∧ (t.ctrl? ({ adm 0x7F with cdw11 := 0x20, cdw12 := 0x4E564D65 } : NvmeCmd).ctl = none) ∧ (t.ctrls.all (fun (z : Ctrl) => hasBit z.csts 4) = true))) = true := by decide +kernel

theorem witness_fabricsCommands_authenticationSend :
    (adminFits ({ hostUp with idents := [{ ident0 with auth := 1 }], ctrls := [{ ctrl3 with queues := [{ queueOn 0 262144 with authReq := true }] }] }) ({ adm 0x7F with fctype := 5 } : NvmeCmd) = true) ∧
    (([9, 2, 1] : List Nat).find? authHashes.contains = some (2 : Nat)) ∧
    (([0] : List Nat).find? authGroups.contains = some (0 : Nat)) ∧
    ((({ hostUp with idents := [{ ident0 with auth := 1 }], ctrls := [{ ctrl3 with queues := [{ queueOn 0 262144 with authReq := true }] }] }).identOf ({ adm 0x7F with fctype := 5 } : NvmeCmd).ctl).isSome = true) ∧
    holds (exec (.authenticationSend ({ adm 0x7F with fctype := 5 } : NvmeCmd) (.negotiate (4 : Nat) 0 ([9, 2, 1] : List Nat) ([0] : List Nat))) ({ hostUp with idents := [{ ident0 with auth := 1 }], ctrls := [{ ctrl3 with queues := [{ queueOn 0 262144 with authReq := true }] }] })) (fun t => decide (((t.queueOf ({ adm 0x7F with fctype := 5 } : NvmeCmd)).any (fun (q : Queue) => q.authStep == 1 && q.authTid == (4 : Nat) && q.authHash == (2 : Nat) && q.authGroup == (0 : Nat)) = true) ∧ (answered ({ hostUp with idents := [{ ident0 with auth := 1 }], ctrls := [{ ctrl3 with queues := [{ queueOn 0 262144 with authReq := true }] }] }) t ({ adm 0x7F with fctype := 5 } : NvmeCmd) 0 St.ok = true))) = true := by decide +kernel

theorem witness_fabricsCommands_authenticationReceive :
    (adminFits ({ hostUp with idents := [{ ident0 with auth := 1 }], ctrls := [{ ctrl3 with queues := [{ queueOn 0 262144 with authReq := true, authStep := 1 }] }] }) ({ adm 0x7F with fctype := 6 } : NvmeCmd) = true) ∧
    ((({ hostUp with idents := [{ ident0 with auth := 1 }], ctrls := [{ ctrl3 with queues := [{ queueOn 0 262144 with authReq := true, authStep := 1 }] }] }).identOf ({ adm 0x7F with fctype := 6 } : NvmeCmd).ctl).isSome = true) ∧
    ((({ hostUp with idents := [{ ident0 with auth := 1 }], ctrls := [{ ctrl3 with queues := [{ queueOn 0 262144 with authReq := true, authStep := 1 }] }] }).queueOf ({ adm 0x7F with fctype := 6 } : NvmeCmd)).any (fun (q : Queue) => q.authStep == 1) = true) ∧
    holds (exec (.authenticationReceive ({ adm 0x7F with fctype := 6 } : NvmeCmd)) ({ hostUp with idents := [{ ident0 with auth := 1 }], ctrls := [{ ctrl3 with queues := [{ queueOn 0 262144 with authReq := true, authStep := 1 }] }] })) (fun t => decide (((t.queueOf ({ adm 0x7F with fctype := 6 } : NvmeCmd)).any (fun (q : Queue) => q.authStep == 2) = true) ∧ (answered ({ hostUp with idents := [{ ident0 with auth := 1 }], ctrls := [{ ctrl3 with queues := [{ queueOn 0 262144 with authReq := true, authStep := 1 }] }] }) t ({ adm 0x7F with fctype := 6 } : NvmeCmd) 0 St.ok = true))) = true := by decide +kernel

theorem witness_fabricsCommands_authLockoutExpiry :
    (({ hostUp with idents := [{ ident0 with refuseUntil := 5 }] }).ident? (0 : Nat) = some ({ ident0 with refuseUntil := 5 } : Ident)) ∧
    (0 < ({ ident0 with refuseUntil := 5 } : Ident).refuseUntil) ∧
    (({ hostUp with idents := [{ ident0 with refuseUntil := 5 }] }).due ({ ident0 with refuseUntil := 5 } : Ident).refuseUntil = true) ∧
    holds (exec (.authLockoutExpiry (0 : Nat)) ({ hostUp with idents := [{ ident0 with refuseUntil := 5 }] })) (fun t => decide ((t.ident? (0 : Nat) = some { ({ ident0 with refuseUntil := 5 } : Ident) with refuseUntil := 0 }))) = true := by decide +kernel

theorem witness_adminCommands_keepAlive :
    (adminReady hostUp (adm 0x18 : NvmeCmd) = true) ∧
    holds (exec (.keepAlive (adm 0x18 : NvmeCmd)) hostUp) (fun t => decide (((t.ctrl? (adm 0x18 : NvmeCmd).ctl).any (fun (z : Ctrl) => z.lastCmd == hostUp.now) = true) ∧ (answered hostUp t (adm 0x18 : NvmeCmd) 0 St.ok = true))) = true := by decide +kernel

theorem witness_adminCommands_unsupportedOpcode :
    (adminReady hostUp (adm 0x99 : NvmeCmd) = true) ∧
    holds (exec (.unsupportedOpcode (adm 0x99 : NvmeCmd)) hostUp) (fun t => decide ((answered hostUp t (adm 0x99 : NvmeCmd) 0 St.opcode = true))) = true := by decide +kernel

theorem witness_adminCommands_abort :
    (adminReady hostUp (adm 0x08 : NvmeCmd) = true) ∧
    (hostUp.cmds = []) ∧
    holds (exec (.abort (adm 0x08 : NvmeCmd)) hostUp) (fun t => decide ((answered hostUp t (adm 0x08 : NvmeCmd) 1 St.ok = true))) = true := by decide +kernel

theorem witness_adminCommands_abort2 :
    (adminReady ({ hostUp with cmds := [{ fwCmd with nv := io 2 }], nextCmd := 2 }) ({ adm 0x08 with cdw10 := 1 + 65536 * 17 } : NvmeCmd) = true) ∧
    (({ hostUp with cmds := [{ fwCmd with nv := io 2 }], nextCmd := 2 }).cmds = [({ fwCmd with nv := io 2 } : Cmd)]) ∧
    (({ fwCmd with nv := io 2 } : Cmd).nv.ctl = ({ adm 0x08 with cdw10 := 1 + 65536 * 17 } : NvmeCmd).ctl) ∧
    (({ fwCmd with nv := io 2 } : Cmd).nv.qid = bits ({ adm 0x08 with cdw10 := 1 + 65536 * 17 } : NvmeCmd).cdw10 15 0) ∧
    (({ fwCmd with nv := io 2 } : Cmd).nv.cid = bits ({ adm 0x08 with cdw10 := 1 + 65536 * 17 } : NvmeCmd).cdw10 31 16) ∧
    (({ fwCmd with nv := io 2 } : Cmd).nv.qid ≠ 0) ∧
    (({ fwCmd with nv := io 2 } : Cmd).phase = .delivered) ∧
    (({ fwCmd with nv := io 2 } : Cmd).result = none) ∧
    holds (exec (.abort ({ adm 0x08 with cdw10 := 1 + 65536 * 17 } : NvmeCmd)) ({ hostUp with cmds := [{ fwCmd with nv := io 2 }], nextCmd := 2 })) (fun t => decide ((t.cmds = []) ∧ (answered ({ hostUp with cmds := [{ fwCmd with nv := io 2 }], nextCmd := 2 }) t ({ adm 0x08 with cdw10 := 1 + 65536 * 17 } : NvmeCmd) 0 St.ok = true))) = true := by decide +kernel

theorem witness_adminCommands_asyncEventRequest :
    (adminReady hostUp (adm 0x0C : NvmeCmd) = true) ∧
    (hostUp.ctrl? (adm 0x0C : NvmeCmd).ctl = some (ctrl3 : Ctrl)) ∧
    ((ctrl3 : Ctrl).aers.length < 8) ∧
    ((ctrl3 : Ctrl).notices = []) ∧
    holds (exec (.asyncEventRequest (adm 0x0C : NvmeCmd)) hostUp) (fun t => decide (((t.ctrl? (adm 0x0C : NvmeCmd).ctl).map (·.aers) = some ((ctrl3 : Ctrl).aers ++ [hostUp.nextCmd])) ∧ (t.cmds.length = hostUp.cmds.length + 1))) = true := by decide +kernel

theorem witness_adminCommands_setFeatures :
    (adminReady hostUp ({ adm 0x09 with cdw10 := 4, cdw11 := 353 } : NvmeCmd) = true) ∧
    (({ adm 0x09 with cdw10 := 4, cdw11 := 353 } : NvmeCmd).cdw10 % 256 = 4) ∧
    holds (exec (.setFeatures ({ adm 0x09 with cdw10 := 4, cdw11 := 353 } : NvmeCmd)) hostUp) (fun t => decide (((t.ctrl? ({ adm 0x09 with cdw10 := 4, cdw11 := 353 } : NvmeCmd).ctl).any (fun (z : Ctrl) => z.feature 4 == ({ adm 0x09 with cdw10 := 4, cdw11 := 353 } : NvmeCmd).cdw11) = true) ∧ (answered hostUp t ({ adm 0x09 with cdw10 := 4, cdw11 := 353 } : NvmeCmd) 0 St.ok = true))) = true := by decide +kernel

theorem witness_adminCommands_getFeatures :
    (adminReady ({ hostUp with ctrls := [{ ctrl3 with features := [(4, 353)] }] }) ({ adm 0x0A with cdw10 := 4 } : NvmeCmd) = true) ∧
    (({ hostUp with ctrls := [{ ctrl3 with features := [(4, 353)] }] }).ctrl? ({ adm 0x0A with cdw10 := 4 } : NvmeCmd).ctl = some ({ ctrl3 with features := [(4, 353)] } : Ctrl)) ∧
    (({ adm 0x0A with cdw10 := 4 } : NvmeCmd).cdw10 % 256 = 4) ∧
    holds (exec (.getFeatures ({ adm 0x0A with cdw10 := 4 } : NvmeCmd)) ({ hostUp with ctrls := [{ ctrl3 with features := [(4, 353)] }] })) (fun t => decide ((answered ({ hostUp with ctrls := [{ ctrl3 with features := [(4, 353)] }] }) t ({ adm 0x0A with cdw10 := 4 } : NvmeCmd) (({ ctrl3 with features := [(4, 353)] } : Ctrl).feature 4) St.ok = true))) = true := by decide +kernel

theorem witness_adminCommands_setFeaturesQueueOrdering :
    (adminReady hostUp ({ adm 0x09 with cdw10 := 0xC1, cdw11 := 0x20001 } : NvmeCmd) = true) ∧
    (hasBit ({ adm 0x09 with cdw10 := 0xC1, cdw11 := 0x20001 } : NvmeCmd).cdw10 31 = false) ∧
    (({ adm 0x09 with cdw10 := 0xC1, cdw11 := 0x20001 } : NvmeCmd).cdw10 % 256 = 0xC1) ∧
    (hostUp.orderQueue ({ adm 0x09 with cdw10 := 0xC1, cdw11 := 0x20001 } : NvmeCmd) = some (1 : Nat)) ∧
    holds (exec (.setFeaturesQueueOrdering ({ adm 0x09 with cdw10 := 0xC1, cdw11 := 0x20001 } : NvmeCmd)) hostUp) (fun t => decide ((((t.ctrl? ({ adm 0x09 with cdw10 := 0xC1, cdw11 := 0x20001 } : NvmeCmd).ctl).bind (fun (z : Ctrl) => z.queue? (1 : Nat))).any (fun (x : Queue) => x.mode == (if bits ({ adm 0x09 with cdw10 := 0xC1, cdw11 := 0x20001 } : NvmeCmd).cdw11 17 16 = 0 then QMode.free else if bits ({ adm 0x09 with cdw10 := 0xC1, cdw11 := 0x20001 } : NvmeCmd).cdw11 17 16 = 1 then QMode.orderedWrites else QMode.strict)) = true) ∧ (answered hostUp t ({ adm 0x09 with cdw10 := 0xC1, cdw11 := 0x20001 } : NvmeCmd) 0 St.ok = true))) = true := by decide +kernel

theorem witness_adminCommands_getFeaturesQueueOrdering :
    (adminReady ({ hostUp with ctrls := [{ ctrl3 with queues := [queueOn 0 262144, { queueOn 1 262145 with mode := .strict }] }] }) ({ adm 0x0A with cdw10 := 0xC1, cdw11 := 1 } : NvmeCmd) = true) ∧
    (({ hostUp with ctrls := [{ ctrl3 with queues := [queueOn 0 262144, { queueOn 1 262145 with mode := .strict }] }] }).orderQueue ({ adm 0x0A with cdw10 := 0xC1, cdw11 := 1 } : NvmeCmd) = some (1 : Nat)) ∧
    (((({ hostUp with ctrls := [{ ctrl3 with queues := [queueOn 0 262144, { queueOn 1 262145 with mode := .strict }] }] }).ctrl? ({ adm 0x0A with cdw10 := 0xC1, cdw11 := 1 } : NvmeCmd).ctl).bind (fun (z : Ctrl) => z.queue? (1 : Nat))).any (fun (x : Queue) => x.mode == QMode.strict) = true) ∧
    holds (exec (.getFeaturesQueueOrdering ({ adm 0x0A with cdw10 := 0xC1, cdw11 := 1 } : NvmeCmd)) ({ hostUp with ctrls := [{ ctrl3 with queues := [queueOn 0 262144, { queueOn 1 262145 with mode := .strict }] }] })) (fun t => decide ((answered ({ hostUp with ctrls := [{ ctrl3 with queues := [queueOn 0 262144, { queueOn 1 262145 with mode := .strict }] }] }) t ({ adm 0x0A with cdw10 := 0xC1, cdw11 := 1 } : NvmeCmd) 2 St.ok = true))) = true := by decide +kernel

theorem witness_adminCommands_firmwareImageDownload :
    (adminReady ({ hostUp with flash := { hostUp.flash with size := 64 } }) ({ adm 0x11 with cdw10 := 1023 } : NvmeCmd) = true) ∧
    (({ hostUp with flash := { hostUp.flash with size := 64 } }).hasPriv ({ adm 0x11 with cdw10 := 1023 } : NvmeCmd).ctl 2 = true) ∧
    ((({ adm 0x11 with cdw10 := 1023 } : NvmeCmd).cdw10 + 1) * 4 % 4096 = 0) ∧
    (({ adm 0x11 with cdw10 := 1023 } : NvmeCmd).cdw11 * 4 % 4096 = 0) ∧
    (({ adm 0x11 with cdw10 := 1023 } : NvmeCmd).cdw11 * 4 + (({ adm 0x11 with cdw10 := 1023 } : NvmeCmd).cdw10 + 1) * 4 ≤ ({ hostUp with flash := { hostUp.flash with size := 64 } }).flash.bankSize) ∧
    holds (exec (.firmwareImageDownload ({ adm 0x11 with cdw10 := 1023 } : NvmeCmd)) ({ hostUp with flash := { hostUp.flash with size := 64 } })) (fun t => decide ((t.live.pieces.head? = some (({ adm 0x11 with cdw10 := 1023 } : NvmeCmd).cdw11 * 4, (({ adm 0x11 with cdw10 := 1023 } : NvmeCmd).cdw10 + 1) * 4)) ∧ (answered ({ hostUp with flash := { hostUp.flash with size := 64 } }) t ({ adm 0x11 with cdw10 := 1023 } : NvmeCmd) 0 St.ok = true))) = true := by decide +kernel

theorem witness_adminCommands_keepAliveExpiry :
    (({ hostUp with ctrls := [{ ctrl3 with kato := 10 }] }).ctrl? (3 : Nat) = some ({ ctrl3 with kato := 10 } : Ctrl)) ∧
    (({ ctrl3 with kato := 10 } : Ctrl).func = none) ∧
    (0 < ({ ctrl3 with kato := 10 } : Ctrl).kato) ∧
    (({ hostUp with ctrls := [{ ctrl3 with kato := 10 }] }).due (({ ctrl3 with kato := 10 } : Ctrl).lastCmd + msU 100 * ({ ctrl3 with kato := 10 } : Ctrl).kato) = true) ∧
    holds (exec (.keepAliveExpiry (3 : Nat)) ({ hostUp with ctrls := [{ ctrl3 with kato := 10 }] })) (fun t => decide ((t.ctrl? (3 : Nat) = none) ∧ (t.freedCtrls.head? = some ((3 : Nat), ({ hostUp with ctrls := [{ ctrl3 with kato := 10 }] }).now)))) = true := by decide +kernel

theorem witness_adminCommands_shutdownComplete :
    (({ hostUp with ctrls := [{ ctrl3 with shutdown := true, csts := 5 }] }).ctrl? (3 : Nat) = some ({ ctrl3 with shutdown := true, csts := 5 } : Ctrl)) ∧
    (({ ctrl3 with shutdown := true, csts := 5 } : Ctrl).shutdown = true) ∧
    (bits ({ ctrl3 with shutdown := true, csts := 5 } : Ctrl).csts 3 2 ≠ 2) ∧
    (({ hostUp with ctrls := [{ ctrl3 with shutdown := true, csts := 5 }] }).cmds.any (fun (c : Cmd) => c.nv.ctl == (3 : Nat)) = false) ∧
    holds (exec (.shutdownComplete (3 : Nat)) ({ hostUp with ctrls := [{ ctrl3 with shutdown := true, csts := 5 }] })) (fun t => decide (((t.ctrl? (3 : Nat)).any (fun (z : Ctrl) => bits z.csts 3 2 == 2) = true))) = true := by decide +kernel

theorem witness_logPagesAndIdentify_getLogPage :
    (adminReady hostUp ({ adm 0x02 with cdw10 := 0x7F0002 } : NvmeCmd) = true) ∧
    (({ adm 0x02 with cdw10 := 0x7F0002 } : NvmeCmd).cdw10 % 256 = 2) ∧
    holds (exec (.getLogPage ({ adm 0x02 with cdw10 := 0x7F0002 } : NvmeCmd)) hostUp) (fun t => decide ((answered hostUp t ({ adm 0x02 with cdw10 := 0x7F0002 } : NvmeCmd) 0 St.ok = true))) = true := by decide +kernel

theorem witness_logPagesAndIdentify_logPageLostRanges :
    (adminReady ({ hostUp with nss := [{ ns1 with lost := [⟨3, 1, [3], 0, 9⟩], lostSeq := 1 }] }) ({ adm 0x02 with nsid := 1, cdw10 := 0x1700C0 } : NvmeCmd) = true) ∧
    ((({ hostUp with nss := [{ ns1 with lost := [⟨3, 1, [3], 0, 9⟩], lostSeq := 1 }] }).ctrl? ({ adm 0x02 with nsid := 1, cdw10 := 0x1700C0 } : NvmeCmd).ctl).any (fun (z : Ctrl) => z.func.isNone) = true) ∧
    (({ hostUp with nss := [{ ns1 with lost := [⟨3, 1, [3], 0, 9⟩], lostSeq := 1 }] }).ns? ({ adm 0x02 with nsid := 1, cdw10 := 0x1700C0 } : NvmeCmd).nsid = some ({ ns1 with lost := [⟨3, 1, [3], 0, 9⟩], lostSeq := 1 } : Namespace)) ∧
    ((({ hostUp with nss := [{ ns1 with lost := [⟨3, 1, [3], 0, 9⟩], lostSeq := 1 }] }).identOf ({ adm 0x02 with nsid := 1, cdw10 := 0x1700C0 } : NvmeCmd).ctl).any (fun (i : Ident) => ({ ns1 with lost := [⟨3, 1, [3], 0, 9⟩], lostSeq := 1 } : Namespace).attached.contains i.index) = true) ∧
    holds (exec (.logPageLostRanges ({ adm 0x02 with nsid := 1, cdw10 := 0x1700C0 } : NvmeCmd)) ({ hostUp with nss := [{ ns1 with lost := [⟨3, 1, [3], 0, 9⟩], lostSeq := 1 }] })) (fun t => decide (((newOut ({ hostUp with nss := [{ ns1 with lost := [⟨3, 1, [3], 0, 9⟩], lostSeq := 1 }] }) t).contains (.hostData ({ adm 0x02 with nsid := 1, cdw10 := 0x1700C0 } : NvmeCmd).ctl ({ adm 0x02 with nsid := 1, cdw10 := 0x1700C0 } : NvmeCmd).qid ({ adm 0x02 with nsid := 1, cdw10 := 0x1700C0 } : NvmeCmd).cid (logLen ({ adm 0x02 with nsid := 1, cdw10 := 0x1700C0 } : NvmeCmd)) (bytesAt ({ ns1 with lost := [⟨3, 1, [3], 0, 9⟩], lostSeq := 1 } : Namespace).lostPage (logOfs ({ adm 0x02 with nsid := 1, cdw10 := 0x1700C0 } : NvmeCmd)) (logLen ({ adm 0x02 with nsid := 1, cdw10 := 0x1700C0 } : NvmeCmd)))) = true) ∧ (answered ({ hostUp with nss := [{ ns1 with lost := [⟨3, 1, [3], 0, 9⟩], lostSeq := 1 }] }) t ({ adm 0x02 with nsid := 1, cdw10 := 0x1700C0 } : NvmeCmd) 0 St.ok = true))) = true := by decide +kernel

theorem witness_logPagesAndIdentify_logPageMetering :
    (adminReady hostUp ({ adm 0x02 with nsid := 1, cdw10 := 0x2F00C1 } : NvmeCmd) = true) ∧
    ((hostUp.ctrl? ({ adm 0x02 with nsid := 1, cdw10 := 0x2F00C1 } : NvmeCmd).ctl).any (fun (z : Ctrl) => z.func.isNone) = true) ∧
    (logLsp ({ adm 0x02 with nsid := 1, cdw10 := 0x2F00C1 } : NvmeCmd) = 0) ∧
    (hostUp.ns? ({ adm 0x02 with nsid := 1, cdw10 := 0x2F00C1 } : NvmeCmd).nsid = some (ns1 : Namespace)) ∧
    (({ adm 0x02 with nsid := 1, cdw10 := 0x2F00C1 } : NvmeCmd).nsid ≠ 0) ∧
    (({ adm 0x02 with nsid := 1, cdw10 := 0x2F00C1 } : NvmeCmd).nsid ≠ 0xFFFFFFFF) ∧
    (hostUp.nsAttached ({ adm 0x02 with nsid := 1, cdw10 := 0x2F00C1 } : NvmeCmd).ctl ({ adm 0x02 with nsid := 1, cdw10 := 0x2F00C1 } : NvmeCmd).nsid = true) ∧
    holds (exec (.logPageMetering ({ adm 0x02 with nsid := 1, cdw10 := 0x2F00C1 } : NvmeCmd)) hostUp) (fun t => decide (((newOut hostUp t).contains (.hostData ({ adm 0x02 with nsid := 1, cdw10 := 0x2F00C1 } : NvmeCmd).ctl ({ adm 0x02 with nsid := 1, cdw10 := 0x2F00C1 } : NvmeCmd).qid ({ adm 0x02 with nsid := 1, cdw10 := 0x2F00C1 } : NvmeCmd).cid (logLen ({ adm 0x02 with nsid := 1, cdw10 := 0x2F00C1 } : NvmeCmd)) (bytesAt (meterPage hostUp.now 0 0 (2 * bit (ns1 : Namespace).gap) ({ adm 0x02 with nsid := 1, cdw10 := 0x2F00C1 } : NvmeCmd).nsid (ns1 : Namespace).tenant 1 (ns1 : Namespace).meter) (logOfs ({ adm 0x02 with nsid := 1, cdw10 := 0x2F00C1 } : NvmeCmd)) (logLen ({ adm 0x02 with nsid := 1, cdw10 := 0x2F00C1 } : NvmeCmd)))) = true) ∧ (answered hostUp t ({ adm 0x02 with nsid := 1, cdw10 := 0x2F00C1 } : NvmeCmd) 0 St.ok = true))) = true := by decide +kernel

theorem witness_logPagesAndIdentify_logPageLayoutHealth :
    (adminReady hostUp ({ adm 0x02 with nsid := 0xFFFFFFFF, cdw10 := 0x1F00C2 } : NvmeCmd) = true) ∧
    ((hostUp.ctrl? ({ adm 0x02 with nsid := 0xFFFFFFFF, cdw10 := 0x1F00C2 } : NvmeCmd).ctl).any (fun (z : Ctrl) => z.func.isNone) = true) ∧
    (hostUp.hasPriv ({ adm 0x02 with nsid := 0xFFFFFFFF, cdw10 := 0x1F00C2 } : NvmeCmd).ctl 3 = true) ∧
    (({ adm 0x02 with nsid := 0xFFFFFFFF, cdw10 := 0x1F00C2 } : NvmeCmd).nsid = 0xFFFFFFFF) ∧
    holds (exec (.logPageLayoutHealth ({ adm 0x02 with nsid := 0xFFFFFFFF, cdw10 := 0x1F00C2 } : NvmeCmd)) hostUp) (fun t => decide (((newOut hostUp t).contains (.hostData ({ adm 0x02 with nsid := 0xFFFFFFFF, cdw10 := 0x1F00C2 } : NvmeCmd).ctl ({ adm 0x02 with nsid := 0xFFFFFFFF, cdw10 := 0x1F00C2 } : NvmeCmd).qid ({ adm 0x02 with nsid := 0xFFFFFFFF, cdw10 := 0x1F00C2 } : NvmeCmd).cid (logLen ({ adm 0x02 with nsid := 0xFFFFFFFF, cdw10 := 0x1F00C2 } : NvmeCmd)) (bytesAt hostUp.healthPage (logOfs ({ adm 0x02 with nsid := 0xFFFFFFFF, cdw10 := 0x1F00C2 } : NvmeCmd)) (logLen ({ adm 0x02 with nsid := 0xFFFFFFFF, cdw10 := 0x1F00C2 } : NvmeCmd)))) = true) ∧ (answered hostUp t ({ adm 0x02 with nsid := 0xFFFFFFFF, cdw10 := 0x1F00C2 } : NvmeCmd) 0 St.ok = true))) = true := by decide +kernel

theorem witness_logPagesAndIdentify_logPageEventExcerpt :
    (adminReady hostUp ({ adm 0x02 with nsid := 0xFFFFFFFF, cdw10 := 0x1F00C3 } : NvmeCmd) = true) ∧
    ((hostUp.ctrl? ({ adm 0x02 with nsid := 0xFFFFFFFF, cdw10 := 0x1F00C3 } : NvmeCmd).ctl).any (fun (z : Ctrl) => z.func.isNone) = true) ∧
    (hostUp.hasPriv ({ adm 0x02 with nsid := 0xFFFFFFFF, cdw10 := 0x1F00C3 } : NvmeCmd).ctl 3 = true) ∧
    (({ adm 0x02 with nsid := 0xFFFFFFFF, cdw10 := 0x1F00C3 } : NvmeCmd).nsid = 0xFFFFFFFF) ∧
    holds (exec (.logPageEventExcerpt ({ adm 0x02 with nsid := 0xFFFFFFFF, cdw10 := 0x1F00C3 } : NvmeCmd)) hostUp) (fun t => decide ((answered hostUp t ({ adm 0x02 with nsid := 0xFFFFFFFF, cdw10 := 0x1F00C3 } : NvmeCmd) 0 St.ok = true))) = true := by decide +kernel

theorem witness_logPagesAndIdentify_identify :
    (adminReady hostUp ({ adm 0x06 with cdw10 := 1 } : NvmeCmd) = true) ∧
    (hostUp.ctrl? ({ adm 0x06 with cdw10 := 1 } : NvmeCmd).ctl = some (ctrl3 : Ctrl)) ∧
    ((ctrl3 : Ctrl).func = none) ∧
    (({ adm 0x06 with cdw10 := 1 } : NvmeCmd).cdw10 % 256 = 1) ∧
    holds (exec (.identify ({ adm 0x06 with cdw10 := 1 } : NvmeCmd)) hostUp) (fun t => decide (((newOut hostUp t).contains (.hostData ({ adm 0x06 with cdw10 := 1 } : NvmeCmd).ctl ({ adm 0x06 with cdw10 := 1 } : NvmeCmd).qid ({ adm 0x06 with cdw10 := 1 } : NvmeCmd).cid 4096 (hostUp.identCtrl (ctrl3 : Ctrl))) = true) ∧ (answered hostUp t ({ adm 0x06 with cdw10 := 1 } : NvmeCmd) 0 St.ok = true))) = true := by decide +kernel

theorem witness_logPagesAndIdentify_setFeaturesQosProfile :
    (adminReady hostUp ({ adm 0x09 with cdw10 := 0xC0, cdw11 := 0x10001, data := 1000 } : NvmeCmd) = true) ∧
    (profileReserved ({ adm 0x09 with cdw10 := 0xC0, cdw11 := 0x10001, data := 1000 } : NvmeCmd) ({ adm 0x09 with cdw10 := 0xC0, cdw11 := 0x10001, data := 1000 } : NvmeCmd).data = false) ∧
    (({ adm 0x09 with cdw10 := 0xC0, cdw11 := 0x10001, data := 1000 } : NvmeCmd).cdw10 % 256 = 0xC0) ∧
    (({ adm 0x09 with cdw10 := 0xC0, cdw11 := 0x10001, data := 1000 } : NvmeCmd).cdw11 % 4 = 1) ∧
    ((hostUp.scopeQueue ({ adm 0x09 with cdw10 := 0xC0, cdw11 := 0x10001, data := 1000 } : NvmeCmd)).isSome = true) ∧
    (bytesAt ({ adm 0x09 with cdw10 := 0xC0, cdw11 := 0x10001, data := 1000 } : NvmeCmd).data 12 7 = 0) ∧
    (hostUp.profileReason 1 (hostUp.ns? ({ adm 0x09 with cdw10 := 0xC0, cdw11 := 0x10001, data := 1000 } : NvmeCmd).nsid) (parseProfile ({ adm 0x09 with cdw10 := 0xC0, cdw11 := 0x10001, data := 1000 } : NvmeCmd).data) = none) ∧
    holds (exec (.setFeaturesQosProfile ({ adm 0x09 with cdw10 := 0xC0, cdw11 := 0x10001, data := 1000 } : NvmeCmd)) hostUp) (fun t => decide ((((t.ctrl? ({ adm 0x09 with cdw10 := 0xC0, cdw11 := 0x10001, data := 1000 } : NvmeCmd).ctl).bind (fun (z : Ctrl) => z.queue? (bits ({ adm 0x09 with cdw10 := 0xC0, cdw11 := 0x10001, data := 1000 } : NvmeCmd).cdw11 31 16))).any (fun (q : Queue) => q.profile == parseProfile ({ adm 0x09 with cdw10 := 0xC0, cdw11 := 0x10001, data := 1000 } : NvmeCmd).data) = true) ∧ (answered hostUp t ({ adm 0x09 with cdw10 := 0xC0, cdw11 := 0x10001, data := 1000 } : NvmeCmd) 0 St.ok = true))) = true := by decide +kernel

theorem witness_logPagesAndIdentify_setFeaturesQosProfile2 :
    (adminReady hostUp ({ adm 0x09 with nsid := 1, cdw10 := 0xC0, data := 1000 + 2 ^ 128 } : NvmeCmd) = true) ∧
    (profileReserved ({ adm 0x09 with nsid := 1, cdw10 := 0xC0, data := 1000 + 2 ^ 128 } : NvmeCmd) ({ adm 0x09 with nsid := 1, cdw10 := 0xC0, data := 1000 + 2 ^ 128 } : NvmeCmd).data = false) ∧
    (({ adm 0x09 with nsid := 1, cdw10 := 0xC0, data := 1000 + 2 ^ 128 } : NvmeCmd).cdw10 % 256 = 0xC0) ∧
    (({ adm 0x09 with nsid := 1, cdw10 := 0xC0, data := 1000 + 2 ^ 128 } : NvmeCmd).cdw11 % 4 = 0) ∧
    (hostUp.hasPriv ({ adm 0x09 with nsid := 1, cdw10 := 0xC0, data := 1000 + 2 ^ 128 } : NvmeCmd).ctl 0 = true) ∧
    (({ adm 0x09 with nsid := 1, cdw10 := 0xC0, data := 1000 + 2 ^ 128 } : NvmeCmd).nsid ≠ 0xFFFFFFFF) ∧
    (hostUp.nsAttached ({ adm 0x09 with nsid := 1, cdw10 := 0xC0, data := 1000 + 2 ^ 128 } : NvmeCmd).ctl ({ adm 0x09 with nsid := 1, cdw10 := 0xC0, data := 1000 + 2 ^ 128 } : NvmeCmd).nsid = true) ∧
    (hostUp.profileReason 0 (hostUp.ns? ({ adm 0x09 with nsid := 1, cdw10 := 0xC0, data := 1000 + 2 ^ 128 } : NvmeCmd).nsid) (parseProfile ({ adm 0x09 with nsid := 1, cdw10 := 0xC0, data := 1000 + 2 ^ 128 } : NvmeCmd).data) = none) ∧
    holds (exec (.setFeaturesQosProfile ({ adm 0x09 with nsid := 1, cdw10 := 0xC0, data := 1000 + 2 ^ 128 } : NvmeCmd)) hostUp) (fun t => decide (((t.ns? ({ adm 0x09 with nsid := 1, cdw10 := 0xC0, data := 1000 + 2 ^ 128 } : NvmeCmd).nsid).any (fun (n : Namespace) => n.profile == parseProfile ({ adm 0x09 with nsid := 1, cdw10 := 0xC0, data := 1000 + 2 ^ 128 } : NvmeCmd).data) = true) ∧ (answered hostUp t ({ adm 0x09 with nsid := 1, cdw10 := 0xC0, data := 1000 + 2 ^ 128 } : NvmeCmd) 0 St.ok = true))) = true := by decide +kernel

theorem witness_logPagesAndIdentify_getFeaturesQosProfile :
    (adminReady hostUp ({ adm 0x0A with cdw10 := 0xC2, cdw11 := 0x10001 } : NvmeCmd) = true) ∧
    ((hostUp.ctrl? ({ adm 0x0A with cdw10 := 0xC2, cdw11 := 0x10001 } : NvmeCmd).ctl).any (fun (z : Ctrl) => z.func.isNone) = true) ∧
    (profileReserved ({ adm 0x0A with cdw10 := 0xC2, cdw11 := 0x10001 } : NvmeCmd) 0 = false) ∧
    (({ adm 0x0A with cdw10 := 0xC2, cdw11 := 0x10001 } : NvmeCmd).cdw11 % 4 = 1) ∧
    (hostUp.scopeQueue ({ adm 0x0A with cdw10 := 0xC2, cdw11 := 0x10001 } : NvmeCmd) = some (queueOn 1 262145 : Queue)) ∧
    holds (exec (.getFeaturesQosProfile ({ adm 0x0A with cdw10 := 0xC2, cdw11 := 0x10001 } : NvmeCmd)) hostUp) (fun t => decide (((newOut hostUp t).contains (.hostData ({ adm 0x0A with cdw10 := 0xC2, cdw11 := 0x10001 } : NvmeCmd).ctl ({ adm 0x0A with cdw10 := 0xC2, cdw11 := 0x10001 } : NvmeCmd).qid ({ adm 0x0A with cdw10 := 0xC2, cdw11 := 0x10001 } : NvmeCmd).cid 64 (queueOn 1 262145 : Queue).profile.bytes) = true) ∧ (answered hostUp t ({ adm 0x0A with cdw10 := 0xC2, cdw11 := 0x10001 } : NvmeCmd) 0 St.ok = true))) = true := by decide +kernel

theorem witness_namespaces_namespaceCreate :
    (adminReady ({ hostUp.wr (F.LAY_GCFG_ADMIT_LOG 0) 1 with groups := { group0 with rows := 400 } :: List.replicate 7 Group.cold }) ({ adm 0x0D with data := 512 + 2 ^ (8 * 3844) } : NvmeCmd) = true) ∧
    (({ hostUp.wr (F.LAY_GCFG_ADMIT_LOG 0) 1 with groups := { group0 with rows := 400 } :: List.replicate 7 Group.cold }).adminWaits = []) ∧
    (({ hostUp.wr (F.LAY_GCFG_ADMIT_LOG 0) 1 with groups := { group0 with rows := 400 } :: List.replicate 7 Group.cold }).hasPriv ({ adm 0x0D with data := 512 + 2 ^ (8 * 3844) } : NvmeCmd).ctl 0 = true) ∧
    (formatRefusal (bytesAt ({ adm 0x0D with data := 512 + 2 ^ (8 * 3844) } : NvmeCmd).data 26 1 % 16) (hasBit (bytesAt ({ adm 0x0D with data := 512 + 2 ^ (8 * 3844) } : NvmeCmd).data 26 1) 4) (bytesAt ({ adm 0x0D with data := 512 + 2 ^ (8 * 3844) } : NvmeCmd).data 29 1 % 8) = none) ∧
    (bytesAt ({ adm 0x0D with data := 512 + 2 ^ (8 * 3844) } : NvmeCmd).data 0 8 ≠ 0) ∧
    (bytesAt ({ adm 0x0D with data := 512 + 2 ^ (8 * 3844) } : NvmeCmd).data 0 8 % 512 = 0) ∧
    (bytesAt ({ adm 0x0D with data := 512 + 2 ^ (8 * 3844) } : NvmeCmd).data 0 8 ≤ 2 ^ 38) ∧
    (bytesAt ({ adm 0x0D with data := 512 + 2 ^ (8 * 3844) } : NvmeCmd).data 8 8 ≤ bytesAt ({ adm 0x0D with data := 512 + 2 ^ (8 * 3844) } : NvmeCmd).data 0 8) ∧
    (bytesAt ({ adm 0x0D with data := 512 + 2 ^ (8 * 3844) } : NvmeCmd).data 3840 1 = 0) ∧
    (bytesAt ({ adm 0x0D with data := 512 + 2 ^ (8 * 3844) } : NvmeCmd).data 3842 2 = 0) ∧
    (({ hostUp.wr (F.LAY_GCFG_ADMIT_LOG 0) 1 with groups := { group0 with rows := 400 } :: List.replicate 7 Group.cold }).chooseGroup (bytesAt ({ adm 0x0D with data := 512 + 2 ^ (8 * 3844) } : NvmeCmd).data 3841 1) false = some 0) ∧
    (({ hostUp.wr (F.LAY_GCFG_ADMIT_LOG 0) 1 with groups := { group0 with rows := 400 } :: List.replicate 7 Group.cold }).freeNsid? = some 2) ∧
    (({ hostUp.wr (F.LAY_GCFG_ADMIT_LOG 0) 1 with groups := { group0 with rows := 400 } :: List.replicate 7 Group.cold }).canHold 0 false (bytesAt ({ adm 0x0D with data := 512 + 2 ^ (8 * 3844) } : NvmeCmd).data 0 8) (bytesAt ({ adm 0x0D with data := 512 + 2 ^ (8 * 3844) } : NvmeCmd).data 8 8) = true) ∧
    (bytesAt ({ adm 0x0D with data := 512 + 2 ^ (8 * 3844) } : NvmeCmd).data 3844 4 ≠ 0) ∧
    (({ hostUp.wr (F.LAY_GCFG_ADMIT_LOG 0) 1 with groups := { group0 with rows := 400 } :: List.replicate 7 Group.cold }).tenantIds.contains (bytesAt ({ adm 0x0D with data := 512 + 2 ^ (8 * 3844) } : NvmeCmd).data 3844 4) = true) ∧
    holds (exec (.namespaceCreate ({ adm 0x0D with data := 512 + 2 ^ (8 * 3844) } : NvmeCmd)) ({ hostUp.wr (F.LAY_GCFG_ADMIT_LOG 0) 1 with groups := { group0 with rows := 400 } :: List.replicate 7 Group.cold })) (fun t => decide (((t.ns? 2).any (fun (n : Namespace) => !n.fixed && n.group == 0 && n.nsze == bytesAt ({ adm 0x0D with data := 512 + 2 ^ (8 * 3844) } : NvmeCmd).data 0 8 && n.ncap == bytesAt ({ adm 0x0D with data := 512 + 2 ^ (8 * 3844) } : NvmeCmd).data 8 8 && n.lbaf == bytesAt ({ adm 0x0D with data := 512 + 2 ^ (8 * 3844) } : NvmeCmd).data 26 1 % 16 && n.tenant == bytesAt ({ adm 0x0D with data := 512 + 2 ^ (8 * 3844) } : NvmeCmd).data 3844 4 && n.attached == [] && n.profile == Profile.default) = true) ∧ (t.keyTab.any (fun (k : KeyEntry) => k.slot == 2 - 1) = true) ∧ (answered ({ hostUp.wr (F.LAY_GCFG_ADMIT_LOG 0) 1 with groups := { group0 with rows := 400 } :: List.replicate 7 Group.cold }) t ({ adm 0x0D with data := 512 + 2 ^ (8 * 3844) } : NvmeCmd) 2 St.ok = true))) = true := by decide +kernel

theorem witness_namespaces_namespaceDelete :
    (adminReady ({ hostUp with windows := [] }) ({ adm 0x0D with nsid := 1, cdw10 := 1 } : NvmeCmd) = true) ∧
    (({ hostUp with windows := [] }).adminWaits = []) ∧
    (({ hostUp with windows := [] }).hasPriv ({ adm 0x0D with nsid := 1, cdw10 := 1 } : NvmeCmd).ctl 0 = true) ∧
    (({ hostUp with windows := [] }).nss = [(ns1 : Namespace)]) ∧
    ((ns1 : Namespace).nsid = ({ adm 0x0D with nsid := 1, cdw10 := 1 } : NvmeCmd).nsid) ∧
    ((ns1 : Namespace).deleting = false) ∧
    (({ hostUp with windows := [] }).cmds = []) ∧
    (({ hostUp with windows := [] }).windows = []) ∧
    holds (exec (.namespaceDelete ({ adm 0x0D with nsid := 1, cdw10 := 1 } : NvmeCmd)) ({ hostUp with windows := [] })) (fun t => decide (((t.ns? ({ adm 0x0D with nsid := 1, cdw10 := 1 } : NvmeCmd).nsid).any (fun (z : Namespace) => z.deleting && z.attached == []) = true) ∧ (t.adminWaits = ({ hostUp with windows := [] }).adminWaits ++ [.delete ({ hostUp with windows := [] }).nextCmd [({ adm 0x0D with nsid := 1, cdw10 := 1 } : NvmeCmd).nsid]]))) = true := by decide +kernel

theorem witness_namespaces_namespaceAttach :
    (adminReady ({ hostUp with nss := [{ ns1 with attached := [], nmic := 1 }] }) ({ adm 0x15 with nsid := 1, data := 1 + 4 * 65536 } : NvmeCmd) = true) ∧
    (({ hostUp with nss := [{ ns1 with attached := [], nmic := 1 }] }).adminWaits = []) ∧
    (({ hostUp with nss := [{ ns1 with attached := [], nmic := 1 }] }).hasPriv ({ adm 0x15 with nsid := 1, data := 1 + 4 * 65536 } : NvmeCmd).ctl 0 = true) ∧
    (({ hostUp with nss := [{ ns1 with attached := [], nmic := 1 }] }).ns? ({ adm 0x15 with nsid := 1, data := 1 + 4 * 65536 } : NvmeCmd).nsid = some ({ ns1 with attached := [], nmic := 1 } : Namespace)) ∧
    (({ ns1 with attached := [], nmic := 1 } : Namespace).deleting = false) ∧
    (({ hostUp with nss := [{ ns1 with attached := [], nmic := 1 }] }).ctrlList ({ adm 0x15 with nsid := 1, data := 1 + 4 * 65536 } : NvmeCmd) = some ([0] : List Nat)) ∧
    (([0] : List Nat).any ({ ns1 with attached := [], nmic := 1 } : Namespace).attached.contains = false) ∧
    (hasBit ({ ns1 with attached := [], nmic := 1 } : Namespace).nmic 0 = true) ∧
    holds (exec (.namespaceAttach ({ adm 0x15 with nsid := 1, data := 1 + 4 * 65536 } : NvmeCmd)) ({ hostUp with nss := [{ ns1 with attached := [], nmic := 1 }] })) (fun t => decide (((t.ns? ({ adm 0x15 with nsid := 1, data := 1 + 4 * 65536 } : NvmeCmd).nsid).any (fun (x : Namespace) => x.attached == ({ ns1 with attached := [], nmic := 1 } : Namespace).attached ++ ([0] : List Nat)) = true) ∧ (answered ({ hostUp with nss := [{ ns1 with attached := [], nmic := 1 }] }) t ({ adm 0x15 with nsid := 1, data := 1 + 4 * 65536 } : NvmeCmd) 0 St.ok = true))) = true := by decide +kernel

theorem witness_namespaces_namespaceDetach :
    (adminReady hostUp ({ adm 0x15 with nsid := 1, cdw10 := 1, data := 1 + 4 * 65536 } : NvmeCmd) = true) ∧
    (hostUp.adminWaits = []) ∧
    (hostUp.hasPriv ({ adm 0x15 with nsid := 1, cdw10 := 1, data := 1 + 4 * 65536 } : NvmeCmd).ctl 0 = true) ∧
    (hostUp.ns? ({ adm 0x15 with nsid := 1, cdw10 := 1, data := 1 + 4 * 65536 } : NvmeCmd).nsid = some (ns1 : Namespace)) ∧
    ((ns1 : Namespace).deleting = false) ∧
    (hostUp.ctrlList ({ adm 0x15 with nsid := 1, cdw10 := 1, data := 1 + 4 * 65536 } : NvmeCmd) = some ([0] : List Nat)) ∧
    (([0] : List Nat).all (ns1 : Namespace).attached.contains = true) ∧
    holds (exec (.namespaceDetach ({ adm 0x15 with nsid := 1, cdw10 := 1, data := 1 + 4 * 65536 } : NvmeCmd)) hostUp) (fun t => decide (((t.ns? ({ adm 0x15 with nsid := 1, cdw10 := 1, data := 1 + 4 * 65536 } : NvmeCmd).nsid).any (fun (x : Namespace) => x.attached == (ns1 : Namespace).attached.filter (fun (i : Nat) => !([0] : List Nat).contains i)) = true) ∧ (t.adminWaits.getLast? = some (.detach hostUp.nextCmd ({ adm 0x15 with nsid := 1, cdw10 := 1, data := 1 + 4 * 65536 } : NvmeCmd).nsid ([0] : List Nat))))) = true := by decide +kernel

theorem witness_namespaces_detachComplete :
    (({ hostUp with windows := [], adminWaits := [.detach 1 1 [0]], cmds := [{ fwCmd with nv := adm 0x15 }] }).paired = false) ∧
    (({ hostUp with windows := [], adminWaits := [.detach 1 1 [0]], cmds := [{ fwCmd with nv := adm 0x15 }] }).adminWaits = [.detach (1 : Nat) (1 : Nat) ([0] : List Nat)]) ∧
    (({ hostUp with windows := [], adminWaits := [.detach 1 1 [0]], cmds := [{ fwCmd with nv := adm 0x15 }] }).cmds = [({ fwCmd with nv := adm 0x15 } : Cmd)]) ∧
    (({ fwCmd with nv := adm 0x15 } : Cmd).id = (1 : Nat)) ∧
    (({ fwCmd with nv := adm 0x15 } : Cmd).nv.qid = 0) ∧
    (({ fwCmd with nv := adm 0x15 } : Cmd).ordered = false) ∧
    (({ fwCmd with nv := adm 0x15 } : Cmd).phase = .delivered) ∧
    (({ hostUp with windows := [], adminWaits := [.detach 1 1 [0]], cmds := [{ fwCmd with nv := adm 0x15 }] }).windows = []) ∧
    ((({ hostUp with windows := [], adminWaits := [.detach 1 1 [0]], cmds := [{ fwCmd with nv := adm 0x15 }] }).queueOf ({ fwCmd with nv := adm 0x15 } : Cmd).nv).any (fun (q : Queue) => q.conn.any fun (k : Nat) => (({ hostUp with windows := [], adminWaits := [.detach 1 1 [0]], cmds := [{ fwCmd with nv := adm 0x15 }] }).conn? k).isSome) = true) ∧
    holds (exec (.detachComplete (1 : Nat)) ({ hostUp with windows := [], adminWaits := [.detach 1 1 [0]], cmds := [{ fwCmd with nv := adm 0x15 }] })) (fun t => decide ((t.adminWaits = []) ∧ (t.cmds = []) ∧ (answered ({ hostUp with windows := [], adminWaits := [.detach 1 1 [0]], cmds := [{ fwCmd with nv := adm 0x15 }] }) t ({ fwCmd with nv := adm 0x15 } : Cmd).nv 0 St.ok = true))) = true := by decide +kernel

theorem witness_namespaces_formatNvm :
    (adminReady ({ hostUp with windows := [] }) ({ adm 0x80 with nsid := 1, cdw10 := 0x11 } : NvmeCmd) = true) ∧
    (({ hostUp with windows := [] }).adminWaits = []) ∧
    (({ hostUp with windows := [] }).hasPriv ({ adm 0x80 with nsid := 1, cdw10 := 0x11 } : NvmeCmd).ctl 0 = true) ∧
    (({ hostUp with windows := [] }).ns? ({ adm 0x80 with nsid := 1, cdw10 := 0x11 } : NvmeCmd).nsid = some (ns1 : Namespace)) ∧
    ((ns1 : Namespace).deleting = false) ∧
    (bits ({ adm 0x80 with nsid := 1, cdw10 := 0x11 } : NvmeCmd).cdw10 11 9 ≤ 2) ∧
    (formatRefusal (bits ({ adm 0x80 with nsid := 1, cdw10 := 0x11 } : NvmeCmd).cdw10 3 0) (hasBit ({ adm 0x80 with nsid := 1, cdw10 := 0x11 } : NvmeCmd).cdw10 4) (bits ({ adm 0x80 with nsid := 1, cdw10 := 0x11 } : NvmeCmd).cdw10 7 5) = none) ∧
    (({ hostUp with windows := [] }).ctrls.any (fun (z : Ctrl) => z.index != ({ adm 0x80 with nsid := 1, cdw10 := 0x11 } : NvmeCmd).ctl && ({ hostUp with windows := [] }).nsAttached z.index ({ adm 0x80 with nsid := 1, cdw10 := 0x11 } : NvmeCmd).nsid) = false) ∧
    (({ hostUp with windows := [] }).cmds = []) ∧
    (({ hostUp with windows := [] }).windows = []) ∧
    (({ hostUp with windows := [] }).lines = []) ∧
    holds (exec (.formatNvm ({ adm 0x80 with nsid := 1, cdw10 := 0x11 } : NvmeCmd)) ({ hostUp with windows := [] })) (fun t => decide (((t.ns? ({ adm 0x80 with nsid := 1, cdw10 := 0x11 } : NvmeCmd).nsid).any (fun (x : Namespace) => x.gen == ((ns1 : Namespace).gen + 1) % 65536 && x.lbaf == bits ({ adm 0x80 with nsid := 1, cdw10 := 0x11 } : NvmeCmd).cdw10 3 0 && x.pit == bits ({ adm 0x80 with nsid := 1, cdw10 := 0x11 } : NvmeCmd).cdw10 7 5 && x.lost == []) = true) ∧ (t.adminWaits.getLast? = some (.zeroise ({ hostUp with windows := [] }).nextCmd (({ adm 0x80 with nsid := 1, cdw10 := 0x11 } : NvmeCmd).nsid - 1))))) = true := by decide +kernel

theorem witness_namespaces_namespaceSweep :
    (({ hostUp with sweeps := [(1, 0, [])] }).sweeps = [((1 : Nat), (0 : Nat), [])]) ∧
    holds (exec (.namespaceSweep (1 : Nat) (0 : Nat)) ({ hostUp with sweeps := [(1, 0, [])] })) (fun t => decide ((t = { ({ hostUp with sweeps := [(1, 0, [])] }) with sweeps := [] }))) = true := by decide +kernel

theorem witness_namespaces_regionZeroFill :
    (({ hostUp with nss := [{ ns1 with fixed := true, unfilled := [0, 1] }] }).ns? (1 : Nat) = some ({ ns1 with fixed := true, unfilled := [0, 1] } : Namespace)) ∧
    (({ ns1 with fixed := true, unfilled := [0, 1] } : Namespace).unfilled.contains (1 : Nat) = true) ∧
    (({ hostUp with nss := [{ ns1 with fixed := true, unfilled := [0, 1] }] }).rowsClear ({ ns1 with fixed := true, unfilled := [0, 1] } : Namespace).group ({ ns1 with fixed := true, unfilled := [0, 1] } : Namespace).rows = true) ∧
    (({ hostUp with nss := [{ ns1 with fixed := true, unfilled := [0, 1] }] }).taskOk ({ ns1 with fixed := true, unfilled := [0, 1] } : Namespace).group 2 = true) ∧
    holds (exec (.regionZeroFill (1 : Nat) (1 : Nat)) ({ hostUp with nss := [{ ns1 with fixed := true, unfilled := [0, 1] }] })) (fun t => decide (((t.ns? (1 : Nat)).map (·.unfilled) = some (({ ns1 with fixed := true, unfilled := [0, 1] } : Namespace).unfilled.erase (1 : Nat))) ∧ (t.fixblks = ({ hostUp with nss := [{ ns1 with fixed := true, unfilled := [0, 1] }] }).fixblks.filter (fun (b : FixBlk) => !(b.nsid == (1 : Nat) && b.lba / 16384 == (1 : Nat)))))) = true := by decide +kernel

theorem witness_schedulerAndMeters_grantPeriod :
    (hostUp.due (hostUp.periodAt + usU 10) = true) ∧
    holds (exec .grantPeriod hostUp) (fun t => decide ((t.periodAt = hostUp.now) ∧ ((List.range 8).all (fun (g : Nat) => !(hostUp.group g).configured || (t.grants.filter fun (x : Nat × Nat × Rat) => x.2.1 == g).length == 4) = true))) = true := by decide +kernel

theorem witness_schedulerAndMeters_meterSaveTimer :
    (hostUp.due (hostUp.msaveAt + secU 60) = true) ∧
    holds (exec .meterSaveTimer hostUp) (fun t => decide ((t.msaved = hostUp.nss.map (fun (n : Namespace) => (n.nsid, n.meter))) ∧ (t.tsaved = hostUp.tenants.map (fun (x : Tenant) => (x.id, x.retired))) ∧ (t.msaveAt = hostUp.now))) = true := by decide +kernel

theorem witness_schedulerAndMeters_cmdQosCfgWrite :
    ((hostUp.wr F.CMD_QOS_CFG_EN 0).isSet (F.BENCH_CTL_LOCK 22) = false) ∧
    (bits (0x21 : Word).toNat 0 0 = 1) ∧
    (1 ≤ bits (0x21 : Word).toNat 7 4) ∧
    ((hostUp.wr F.CMD_QOS_CFG_EN 0).qosOn = false) ∧
    holds (exec (.cmdQosCfgWrite (0x21 : Word)) (hostUp.wr F.CMD_QOS_CFG_EN 0)) (fun t => decide ((t.qosOn = true) ∧ (t.rd F.CMD_QOS_CFG_WCOST = bits (0x21 : Word).toNat 7 4) ∧ (t.nss.all (fun (n : Namespace) => n.tats == ⟨(hostUp.wr F.CMD_QOS_CFG_EN 0).now * 65536, (hostUp.wr F.CMD_QOS_CFG_EN 0).now * 65536, (hostUp.wr F.CMD_QOS_CFG_EN 0).now * 65536⟩) = true))) = true := by decide +kernel

theorem witness_schedulerAndMeters_cmdQosGcapWrite :
    (hostUp.isSet (F.BENCH_CTL_LOCK 22) = false) ∧
    ((5000 : Word).toNat < 2 ^ 24) ∧
    holds (exec (.cmdQosGcapWrite (0 : Fin 8) (5000 : Word)) hostUp) (fun t => decide ((t.rd (F.CMD_QOS_GCAP_CAP (0 : Fin 8).val) = (5000 : Word).toNat))) = true := by decide +kernel

theorem witness_workingFace_sealTimeExpiry :
    (({ layUp with stripes := [stripe0] }).stripe? (0 : Nat) (0 : Nat) = some (stripe0 : Stripe)) ∧
    ((stripe0 : Stripe).state = .opened) ∧
    ((stripe0 : Stripe).firstAt = some (0 : Nat)) ∧
    (({ layUp with stripes := [stripe0] }).due ((0 : Nat) + ({ layUp with stripes := [stripe0] }).sealTime (stripe0 : Stripe)) = true) ∧
    holds (exec (.sealTimeExpiry (0 : Nat) (0 : Nat)) ({ layUp with stripes := [stripe0] })) (fun t => decide (((t.stripe? (0 : Nat) (0 : Nat)).any (fun (z : Stripe) => z.state == .closed && z.closedAt == ({ layUp with stripes := [stripe0] }).now && z.blocks == (stripe0 : Stripe).blocks) = true))) = true := by decide +kernel

theorem witness_workingFace_stripeSeal :
    ((.ok : ParCheck) ≠ .failed) ∧
    (({ layUp with stripes := [{ stripe0 with state := .closed }] }).stripe? (0 : Nat) (0 : Nat) = some ({ stripe0 with state := .closed } : Stripe)) ∧
    (({ stripe0 with state := .closed } : Stripe).state = .closed) ∧
    (({ stripe0 with state := .closed } : Stripe).full = true) ∧
    (({ layUp with stripes := [{ stripe0 with state := .closed }] }).dqUsed (0 : Nat) + (({ layUp with stripes := [{ stripe0 with state := .closed }] }).newPendings (0 : Nat) (0 : Nat)).length ≤ 65536) ∧
    (({ layUp with stripes := [{ stripe0 with state := .closed }] }).cmds = []) ∧
    holds (exec (.stripeSeal (0 : Nat) (0 : Nat) ([]) (.ok : ParCheck)) ({ layUp with stripes := [{ stripe0 with state := .closed }] })) (fun t => decide (((t.stripe? (0 : Nat) (0 : Nat)).any (fun (z : Stripe) => z.state == .sealed && z.fseq == (({ layUp with stripes := [{ stripe0 with state := .closed }] }).group (0 : Nat)).fseq + 1 && z.kp == max 1 (ceilDiv ({ stripe0 with state := .closed } : Stripe).blocks.length 16)) = true))) = true := by decide +kernel

theorem witness_workingFace_sealWaitExpiry :
    (({ layUp with stripes := [{ stripe0 with state := .closed, blocks := [{ sblock 0 0 .void with content := none }] }] }).stripe? (0 : Nat) (0 : Nat) = some ({ stripe0 with state := .closed, blocks := [{ sblock 0 0 .void with content := none }] } : Stripe)) ∧
    (({ stripe0 with state := .closed, blocks := [{ sblock 0 0 .void with content := none }] } : Stripe).state = .closed) ∧
    (({ stripe0 with state := .closed, blocks := [{ sblock 0 0 .void with content := none }] } : Stripe).full = false) ∧
    (({ layUp with stripes := [{ stripe0 with state := .closed, blocks := [{ sblock 0 0 .void with content := none }] }] }).due (({ stripe0 with state := .closed, blocks := [{ sblock 0 0 .void with content := none }] } : Stripe).closedAt + usU (({ layUp with stripes := [{ stripe0 with state := .closed, blocks := [{ sblock 0 0 .void with content := none }] }] }).rd (F.LAY_GSEAL_SEAL_WAIT_US (0 : Nat)))) = true) ∧
    (({ layUp with stripes := [{ stripe0 with state := .closed, blocks := [{ sblock 0 0 .void with content := none }] }] }).cmds = []) ∧
    holds (exec (.sealWaitExpiry (0 : Nat) (0 : Nat)) ({ layUp with stripes := [{ stripe0 with state := .closed, blocks := [{ sblock 0 0 .void with content := none }] }] })) (fun t => decide (((t.stripe? (0 : Nat) (0 : Nat)).any (fun (z : Stripe) => z.full && z.blocks.length == ({ stripe0 with state := .closed, blocks := [{ sblock 0 0 .void with content := none }] } : Stripe).blocks.length) = true))) = true := by decide +kernel

theorem witness_workingFace_stripeRelease :
    (({ layUp with stripes := [{ stripe0 with state := .freeing, freeDurable := true }] }).stripe? (0 : Nat) (0 : Nat) = some ({ stripe0 with state := .freeing, freeDurable := true } : Stripe)) ∧
    (({ stripe0 with state := .freeing, freeDurable := true } : Stripe).state = .freeing) ∧
    (({ stripe0 with state := .freeing, freeDurable := true } : Stripe).freeDurable = true) ∧
    (({ layUp with stripes := [{ stripe0 with state := .freeing, freeDurable := true }] }).readsIn (0 : Nat) (0 : Nat) = false) ∧
    (({ layUp with stripes := [{ stripe0 with state := .freeing, freeDurable := true }] }).stripes.all (fun (y : Stripe) => y.relocs.isEmpty) = true) ∧
    (({ layUp with stripes := [{ stripe0 with state := .freeing, freeDurable := true }] }).fenceEnd = none) ∧
    (({ layUp with stripes := [{ stripe0 with state := .freeing, freeDurable := true }] }).cmds = []) ∧
    holds (exec (.stripeRelease (0 : Nat) (0 : Nat)) ({ layUp with stripes := [{ stripe0 with state := .freeing, freeDurable := true }] })) (fun t => decide ((t.stripe? (0 : Nat) (0 : Nat) = none))) = true := by decide +kernel

theorem witness_surveyArea_surveyWritebackDone :
    (({ layUp with objs := [obj0] }).svyWrites = true) ∧
    (({ layUp with objs := [obj0] }).draining = true ∨ ({ layUp with objs := [obj0] }).taskOk (0 : Nat) 1 = true) ∧
    (({ layUp with objs := [obj0] }).nextDirty (0 : Nat) = some (obj0 : SvyObj)) ∧
    ((obj0 : SvyObj).kind ≠ 0) ∧
    (({ layUp with objs := [obj0] }).freeObjSlot (0 : Nat) = some ((layUp.svySlots 0).2 : Nat)) ∧
    holds (exec (.surveyWritebackDone (0 : Nat)) ({ layUp with objs := [obj0] })) (fun t => decide ((t.objs.any (fun (z : SvyObj) => z.group == (0 : Nat) && z.kind == (obj0 : SvyObj).kind && z.owner == (obj0 : SvyObj).owner && z.level == (obj0 : SvyObj).level && z.index == (obj0 : SvyObj).index && z.gen == (obj0 : SvyObj).gen && z.slot == some ((layUp.svySlots 0).2 : Nat) && !z.dirty && z.copies == ({ layUp with objs := [obj0] }).slotMembers (0 : Nat) ((layUp.svySlots 0).2 : Nat)) = true))) = true := by decide +kernel

theorem witness_surveyArea_surveyObjectLoaded :
    (({ layUp with objs := [{ obj0 with cached := false, dirty := false, loading := true, slot := some 300 }] }).objs = [({ obj0 with cached := false, dirty := false, loading := true, slot := some 300 } : SvyObj)]) ∧
    (({ obj0 with cached := false, dirty := false, loading := true, slot := some 300 } : SvyObj).group = (0 : Nat)) ∧
    (({ obj0 with cached := false, dirty := false, loading := true, slot := some 300 } : SvyObj).kind = (2 : Nat)) ∧
    (({ obj0 with cached := false, dirty := false, loading := true, slot := some 300 } : SvyObj).level = (0 : Nat)) ∧
    (({ obj0 with cached := false, dirty := false, loading := true, slot := some 300 } : SvyObj).gen = ({ layUp with objs := [{ obj0 with cached := false, dirty := false, loading := true, slot := some 300 }] }).objGen (2 : Nat) (0 : Nat)) ∧
    (({ obj0 with cached := false, dirty := false, loading := true, slot := some 300 } : SvyObj).loading = true) ∧
    (({ obj0 with cached := false, dirty := false, loading := true, slot := some 300 } : SvyObj).copies.any ({ layUp with objs := [{ obj0 with cached := false, dirty := false, loading := true, slot := some 300 }] }).inService = true) ∧
    (({ obj0 with cached := false, dirty := false, loading := true, slot := some 300 } : SvyObj).owner = (0 : Nat)) ∧
    (({ obj0 with cached := false, dirty := false, loading := true, slot := some 300 } : SvyObj).index = (0 : Nat)) ∧
    holds (exec (.surveyObjectLoaded (0 : Nat) (2 : Nat) (0 : Nat) (0 : Nat) (0 : Nat) ([])) ({ layUp with objs := [{ obj0 with cached := false, dirty := false, loading := true, slot := some 300 }] })) (fun t => decide ((t.objs = [{ ({ obj0 with cached := false, dirty := false, loading := true, slot := some 300 } : SvyObj) with cached := true, loading := false }]))) = true := by decide +kernel

theorem witness_surveyArea_deltaLogBlockAcked :
    (({ layUp with tally := { Tally.cold with recs := [rec0], seq := 1 } }).svyWrites = true) ∧
    (({ layUp with tally := { Tally.cold with recs := [rec0], seq := 1 } }).tally.recs = [(rec0 : Rec)]) ∧
    ((rec0 : Rec).group = (0 : Nat)) ∧
    ((rec0 : Rec).body = .seal ([.live 0 1] : List SealItem)) ∧
    ((rec0 : Rec).durable = true) ∧
    ((({ layUp with tally := { Tally.cold with recs := [rec0], seq := 1 } }).svyOf (0 : Nat)).copiedTo < (rec0 : Rec).seq) ∧
    ((0 : Nat) < ({ layUp with tally := { Tally.cold with recs := [rec0], seq := 1 } }).svy.length) ∧
    ((({ layUp with tally := { Tally.cold with recs := [rec0], seq := 1 } }).svyOf (0 : Nat)).head - (({ layUp with tally := { Tally.cold with recs := [rec0], seq := 1 } }).svyOf (0 : Nat)).tail + (packBlocks [((rec0 : Rec).seq, (rec0 : Rec).len)]).length ≤ (({ layUp with tally := { Tally.cold with recs := [rec0], seq := 1 } }).svySlots (0 : Nat)).2) ∧
    holds (exec (.deltaLogBlockAcked (0 : Nat)) ({ layUp with tally := { Tally.cold with recs := [rec0], seq := 1 } })) (fun t => decide (((t.svyOf (0 : Nat)).copiedTo = (rec0 : Rec).seq) ∧ ((t.svyOf (0 : Nat)).head = (({ layUp with tally := { Tally.cold with recs := [rec0], seq := 1 } }).svyOf (0 : Nat)).head + (packBlocks [((rec0 : Rec).seq, (rec0 : Rec).len)]).length))) = true := by decide +kernel

theorem witness_surveyArea_memberRecordTimer :
    (layUp.svyWrites = true) ∧
    ((layUp.group (0 : Nat)).mounted = true) ∧
    (layUp.due ((layUp.svyOf (0 : Nat)).recAt + secU 1) = true) ∧
    ((0 : Nat) < layUp.svy.length) ∧
    holds (exec (.memberRecordTimer (0 : Nat)) layUp) (fun t => decide (((t.svyOf (0 : Nat)).recAt = layUp.now) ∧ ((layUp.svyOf (0 : Nat)).mseq < (t.svyOf (0 : Nat)).mseq))) = true := by decide +kernel

theorem witness_surveyArea_objectRehome :
    (({ slotUp 4 with objs := [obj0] }).svyWrites = true) ∧
    (({ slotUp 4 with objs := [obj0] }).objs = [(obj0 : SvyObj)]) ∧
    ((obj0 : SvyObj).group = (0 : Nat)) ∧
    ((obj0 : SvyObj).copies.any (fun (n : Nat) => !({ slotUp 4 with objs := [obj0] }).inService n) = true) ∧
    (({ slotUp 4 with objs := [obj0] }).taskOk (0 : Nat) 0 = true) ∧
    (({ slotUp 4 with objs := [obj0] }).freeObjSlot (0 : Nat) = some (((slotUp 4).freeObjSlot 0).getD 0 : Nat)) ∧
    holds (exec (.objectRehome (0 : Nat)) ({ slotUp 4 with objs := [obj0] })) (fun t => decide ((t.objs.any (fun (z : SvyObj) => z.group == (0 : Nat) && z.kind == (obj0 : SvyObj).kind && z.owner == (obj0 : SvyObj).owner && z.level == (obj0 : SvyObj).level && z.index == (obj0 : SvyObj).index && z.gen == (obj0 : SvyObj).gen && z.slot == some (((slotUp 4).freeObjSlot 0).getD 0 : Nat) && z.copies == ({ slotUp 4 with objs := [obj0] }).slotMembers (0 : Nat) (((slotUp 4).freeObjSlot 0).getD 0 : Nat)) = true))) = true := by decide +kernel

theorem witness_surveyArea_surveyRebuildScan :
    ((({ layUp with groups := { group0 with scan := true } :: List.replicate 7 Group.cold }).group (0 : Nat)).scan = true) ∧
    holds (exec (.surveyRebuildScan (0 : Nat) ([] : List Nat) ([] : List (Nat × Nat × Nat × Nat × Nat))) ({ layUp with groups := { group0 with scan := true } :: List.replicate 7 Group.cold })) (fun t => decide (((t.group (0 : Nat)).scan = false) ∧ ((t.group (0 : Nat)).objLost = false))) = true := by decide +kernel

theorem witness_members_memberCommandAge :
    (({ layUp with mcmds := [⟨⟨2, 0, 1⟩, .health, 0, false⟩] }).aged (2 : Nat) = true) ∧
    ((({ layUp with mcmds := [⟨⟨2, 0, 1⟩, .health, 0, false⟩] }).slot (2 : Nat)).state = 1) ∧
    holds (exec (.memberCommandAge (2 : Nat)) ({ layUp with mcmds := [⟨⟨2, 0, 1⟩, .health, 0, false⟩] })) (fun t => decide (((t.slot (2 : Nat)).state = 2) ∧ (some (t.slot (2 : Nat)).ref = ({ layUp with mcmds := [⟨⟨2, 0, 1⟩, .health, 0, false⟩] }).oldestCmd (2 : Nat)))) = true := by decide +kernel

theorem witness_members_memberFailTimer :
    (((slotUp 2).slot (2 : Nat)).state = 2) ∧
    ((slotUp 2).due (((slotUp 2).slot (2 : Nat)).ref + msU ((slotUp 2).rd F.LAY_REB_CFG_FAIL_MS)) = true) ∧
    holds (exec (.memberFailTimer (2 : Nat)) (slotUp 2)) (fun t => decide (((t.slot (2 : Nat)).state = 4))) = true := by decide +kernel

theorem witness_members_memberReturnExpiry :
    ((({ layUp with slots := layUp.slots.modify 2 (fun (x : Slot) => { x with state := 4, absent := some (0, 0, 0) }), tim := { up.tim with count := BitVec.ofNat 64 (minU 100000) } }).slot (2 : Nat)).state = 4) ∧
    ((({ layUp with slots := layUp.slots.modify 2 (fun (x : Slot) => { x with state := 4, absent := some (0, 0, 0) }), tim := { up.tim with count := BitVec.ofNat 64 (minU 100000) } }).slot (2 : Nat)).absent = some (0, 0, 0)) ∧
    (({ layUp with slots := layUp.slots.modify 2 (fun (x : Slot) => { x with state := 4, absent := some (0, 0, 0) }), tim := { up.tim with count := BitVec.ofNat 64 (minU 100000) } }).due (0 + minU (({ layUp with slots := layUp.slots.modify 2 (fun (x : Slot) => { x with state := 4, absent := some (0, 0, 0) }), tim := { up.tim with count := BitVec.ofNat 64 (minU 100000) } }).rd F.LAY_REB_CFG_RETURN_MIN)) = true) ∧
    holds (exec (.memberReturnExpiry (2 : Nat)) ({ layUp with slots := layUp.slots.modify 2 (fun (x : Slot) => { x with state := 4, absent := some (0, 0, 0) }), tim := { up.tim with count := BitVec.ofNat 64 (minU 100000) } })) (fun t => decide (((t.slot (2 : Nat)).state = 0) ∧ ((t.slot (2 : Nat)).absent = none) ∧ ((t.slot (2 : Nat)).allDirty = true))) = true := by decide +kernel

theorem witness_members_driveOffer :
    ((((slotUp 0).wr F.LAY_REB_CFG_AUTO_JOIN 1).slot (2 : Nat)).state = 0) ∧
    ((((slotUp 0).wr F.LAY_REB_CFG_AUTO_JOIN 1).group (((slotUp 0).wr F.LAY_REB_CFG_AUTO_JOIN 1).slot (2 : Nat)).group).mounted = true) ∧
    (((slotUp 0).wr F.LAY_REB_CFG_AUTO_JOIN 1).isSet F.LAY_REB_CFG_AUTO_JOIN = true) ∧
    ((((slotUp 0).wr F.LAY_REB_CFG_AUTO_JOIN 1).group (((slotUp 0).wr F.LAY_REB_CFG_AUTO_JOIN 1).slot (2 : Nat)).group).rows ≤ positions (driveOf 2 : DriveRec).capacity) ∧
    holds (exec (.driveOffer (2 : Nat) (driveOf 2 : DriveRec)) ((slotUp 0).wr F.LAY_REB_CFG_AUTO_JOIN 1)) (fun t => decide (((t.slot (2 : Nat)).state = 6) ∧ ((t.slot (2 : Nat)).absent = none) ∧ ((t.slot (2 : Nat)).allDirty = true))) = true := by decide +kernel

theorem witness_members_joinRecordWritten :
    (((slotUp 6).slot (2 : Nat)).state = 6) ∧
    (((slotUp 6).slot (2 : Nat)).group < (slotUp 6).groups.length) ∧
    holds (exec (.joinRecordWritten (2 : Nat)) (slotUp 6)) (fun t => decide (((t.slot (2 : Nat)).state = 1) ∧ ((t.group ((slotUp 6).slot (2 : Nat)).group).epoch = ((slotUp 6).group ((slotUp 6).slot (2 : Nat)).group).epoch + 1))) = true := by decide +kernel

theorem witness_members_reconciliationDone :
    (((slotUp 5).slot (2 : Nat)).state = 5) ∧
    holds (exec (.reconciliationDone (2 : Nat)) (slotUp 5)) (fun t => decide (((t.slot (2 : Nat)).state = 1) ∧ ((t.slot (2 : Nat)).absent = none))) = true := by decide +kernel

theorem witness_members_layMcmdDrain :
    (layUp.orderRefusal (2 : Nat) = none) ∧
    ((layUp.group (layUp.slot (2 : Nat)).group).fixedRows = 0) ∧
    (layUp.wouldStarve (2 : Nat) = false) ∧
    ((layUp.slot (2 : Nat)).state = 1) ∧
    holds (exec (.layMcmdDrain (2 : Nat)) layUp) (fun t => decide (((t.slot (2 : Nat)).state = 3 ∨ (t.slot (2 : Nat)).state = 0))) = true := by decide +kernel

theorem witness_members_layMcmdFail :
    (layUp.orderRefusal (2 : Nat) = none) ∧
    (layUp.wouldStarve (2 : Nat) = false) ∧
    ((layUp.slot (2 : Nat)).state = 1) ∧
    holds (exec (.layMcmdFail (2 : Nat)) layUp) (fun t => decide (((t.slot (2 : Nat)).state = 4))) = true := by decide +kernel

theorem witness_members_layMcmdJoin :
    ((slotUp 4).orderRefusal (2 : Nat) = none) ∧
    (((slotUp 4).slot (2 : Nat)).state = 4) ∧
    ((slotUp 4).fitsGroup (2 : Nat) = true) ∧
    holds (exec (.layMcmdJoin (2 : Nat)) (slotUp 4)) (fun t => decide (((t.slot (2 : Nat)).state = 6) ∧ ((t.slot (2 : Nat)).order = true))) = true := by decide +kernel

theorem witness_members_layMcmdForget :
    ((slotUp 4).orderRefusal (2 : Nat) = none) ∧
    (((slotUp 4).slot (2 : Nat)).state = 4) ∧
    holds (exec (.layMcmdForget (2 : Nat)) (slotUp 4)) (fun t => decide (((t.slot (2 : Nat)).state = 0) ∧ ((t.slot (2 : Nat)).absent = none))) = true := by decide +kernel

theorem witness_backgroundWork_spoilReclaimVictim :
    ((({ layUp with stripes := [{ stripe0 with state := .live, live := 1, blocks := [sblock 0 0 .void, sblock 0 1 .void] }, { stripe0 with num := 1, stream := .reclaim, row := 1 }], survey := [⟨1, 0, .at ⟨0, 0, 0, 0⟩ 1⟩], groups := { group0 with rows := 4, fixedRows := 4 } :: List.replicate 7 Group.cold }).group (0 : Nat)).mounted = true) ∧
    ((({ layUp with stripes := [{ stripe0 with state := .live, live := 1, blocks := [sblock 0 0 .void, sblock 0 1 .void] }, { stripe0 with num := 1, stream := .reclaim, row := 1 }], survey := [⟨1, 0, .at ⟨0, 0, 0, 0⟩ 1⟩], groups := { group0 with rows := 4, fixedRows := 4 } :: List.replicate 7 Group.cold }).group (0 : Nat)).scan = false) ∧
    (({ layUp with stripes := [{ stripe0 with state := .live, live := 1, blocks := [sblock 0 0 .void, sblock 0 1 .void] }, { stripe0 with num := 1, stream := .reclaim, row := 1 }], survey := [⟨1, 0, .at ⟨0, 0, 0, 0⟩ 1⟩], groups := { group0 with rows := 4, fixedRows := 4 } :: List.replicate 7 Group.cold }).reclaimWork (0 : Nat) = true) ∧
    (({ layUp with stripes := [{ stripe0 with state := .live, live := 1, blocks := [sblock 0 0 .void, sblock 0 1 .void] }, { stripe0 with num := 1, stream := .reclaim, row := 1 }], survey := [⟨1, 0, .at ⟨0, 0, 0, 0⟩ 1⟩], groups := { group0 with rows := 4, fixedRows := 4 } :: List.replicate 7 Group.cold }).taskOk (0 : Nat) 1 = true) ∧
    (({ layUp with stripes := [{ stripe0 with state := .live, live := 1, blocks := [sblock 0 0 .void, sblock 0 1 .void] }, { stripe0 with num := 1, stream := .reclaim, row := 1 }], survey := [⟨1, 0, .at ⟨0, 0, 0, 0⟩ 1⟩], groups := { group0 with rows := 4, fixedRows := 4 } :: List.replicate 7 Group.cold }).victim (0 : Nat) = some ({ stripe0 with state := .live, live := 1, blocks := [sblock 0 0 .void, sblock 0 1 .void] })) ∧
    (({ layUp with stripes := [{ stripe0 with state := .live, live := 1, blocks := [sblock 0 0 .void, sblock 0 1 .void] }, { stripe0 with num := 1, stream := .reclaim, row := 1 }], survey := [⟨1, 0, .at ⟨0, 0, 0, 0⟩ 1⟩], groups := { group0 with rows := 4, fixedRows := 4 } :: List.replicate 7 Group.cold }).stripe? (0 : Nat) ({ stripe0 with state := .live, live := 1, blocks := [sblock 0 0 .void, sblock 0 1 .void] }).num = some ({ stripe0 with state := .live, live := 1, blocks := [sblock 0 0 .void, sblock 0 1 .void] })) ∧
    (({ layUp with stripes := [{ stripe0 with state := .live, live := 1, blocks := [sblock 0 0 .void, sblock 0 1 .void] }, { stripe0 with num := 1, stream := .reclaim, row := 1 }], survey := [⟨1, 0, .at ⟨0, 0, 0, 0⟩ 1⟩], groups := { group0 with rows := 4, fixedRows := 4 } :: List.replicate 7 Group.cold }).liveIn (0 : Nat) ({ stripe0 with state := .live, live := 1, blocks := [sblock 0 0 .void, sblock 0 1 .void] }).num = [((⟨0, 0, 0, 0⟩ : Place), 1, 0)]) ∧
    (({ stripe0 with state := .live, live := 1, blocks := [sblock 0 0 .void, sblock 0 1 .void] }).live = 1) ∧
    (({ layUp with stripes := [{ stripe0 with state := .live, live := 1, blocks := [sblock 0 0 .void, sblock 0 1 .void] }, { stripe0 with num := 1, stream := .reclaim, row := 1 }], survey := [⟨1, 0, .at ⟨0, 0, 0, 0⟩ 1⟩], groups := { group0 with rows := 4, fixedRows := 4 } :: List.replicate 7 Group.cold }).moving (0 : Nat) ({ stripe0 with state := .live, live := 1, blocks := [sblock 0 0 .void, sblock 0 1 .void] }).num = []) ∧
    (({ stripe0 with state := .live, live := 1, blocks := [sblock 0 0 .void, sblock 0 1 .void] }).lostMap = []) ∧
    ((({ stripe0 with state := .live, live := 1, blocks := [sblock 0 0 .void, sblock 0 1 .void] }).blocks.find? fun (z : SBlock) => z.slab == (⟨0, 0, 0, 0⟩ : Place).slab && z.blk == (⟨0, 0, 0, 0⟩ : Place).blk) = some (sblock 0 0 .void : SBlock)) ∧
    ((({ layUp with stripes := [{ stripe0 with state := .live, live := 1, blocks := [sblock 0 0 .void, sblock 0 1 .void] }, { stripe0 with num := 1, stream := .reclaim, row := 1 }], survey := [⟨1, 0, .at ⟨0, 0, 0, 0⟩ 1⟩], groups := { group0 with rows := 4, fixedRows := 4 } :: List.replicate 7 Group.cold }).openOf (0 : Nat) .reclaim).find? (fun (z : Stripe) => z.blocks.length < 16 * z.keff) = some ({ stripe0 with num := 1, stream := .reclaim, row := 1 })) ∧
    (({ layUp with stripes := [{ stripe0 with state := .live, live := 1, blocks := [sblock 0 0 .void, sblock 0 1 .void] }, { stripe0 with num := 1, stream := .reclaim, row := 1 }], survey := [⟨1, 0, .at ⟨0, 0, 0, 0⟩ 1⟩], groups := { group0 with rows := 4, fixedRows := 4 } :: List.replicate 7 Group.cold }).stripe? (0 : Nat) ({ stripe0 with num := 1, stream := .reclaim, row := 1 }).num = some ({ stripe0 with num := 1, stream := .reclaim, row := 1 })) ∧
    (({ stripe0 with num := 1, stream := .reclaim, row := 1 }).blocks.length % 16 ≠ 0) ∧
    holds (exec (.spoilReclaimVictim (0 : Nat) ([])) ({ layUp with stripes := [{ stripe0 with state := .live, live := 1, blocks := [sblock 0 0 .void, sblock 0 1 .void] }, { stripe0 with num := 1, stream := .reclaim, row := 1 }], survey := [⟨1, 0, .at ⟨0, 0, 0, 0⟩ 1⟩], groups := { group0 with rows := 4, fixedRows := 4 } :: List.replicate 7 Group.cold })) (fun t => decide (((t.stripe? (0 : Nat) ({ stripe0 with num := 1, stream := .reclaim, row := 1 }).num).any (fun (z : Stripe) => z.blocks.length == ({ stripe0 with num := 1, stream := .reclaim, row := 1 }).blocks.length + 1 && z.blocks.getLast?.any fun (u : SBlock) => u.owner == .move (⟨0, 0, 0, 0⟩ : Place) 1 && u.content == (sblock 0 0 .void : SBlock).content) = true))) = true := by decide +kernel

theorem witness_backgroundWork_rebuildIndexSweep :
    (((slotUp 4).group (0 : Nat)).scan = false) ∧
    ((0 : Nat) < (slotUp 4).groups.length) ∧
    holds (exec (.rebuildIndexSweep (0 : Nat)) (slotUp 4)) (fun t => decide (((t.group (0 : Nat)).indexSwept = true))) = true := by decide +kernel

theorem witness_backgroundWork_rebuildStripe :
    ((({ slotUp 4 with stripes := [{ stripe0 with state := .live, live := 1, blocks := [sblock 0 0 .void, sblock 0 1 .void] }, { stripe0 with num := 1, stream := .rebuild, row := 1, members := [0, 1, 3, 4, 5] }], survey := [⟨1, 0, .at ⟨0, 0, 0, 0⟩ 1⟩], groups := { group0 with work := [(0, 2)], indexSwept := true } :: List.replicate 7 Group.cold }).group (0 : Nat)).scan = false) ∧
    ((({ slotUp 4 with stripes := [{ stripe0 with state := .live, live := 1, blocks := [sblock 0 0 .void, sblock 0 1 .void] }, { stripe0 with num := 1, stream := .rebuild, row := 1, members := [0, 1, 3, 4, 5] }], survey := [⟨1, 0, .at ⟨0, 0, 0, 0⟩ 1⟩], groups := { group0 with work := [(0, 2)], indexSwept := true } :: List.replicate 7 Group.cold }).group (0 : Nat)).priority = false) ∧
    (({ slotUp 4 with stripes := [{ stripe0 with state := .live, live := 1, blocks := [sblock 0 0 .void, sblock 0 1 .void] }, { stripe0 with num := 1, stream := .rebuild, row := 1, members := [0, 1, 3, 4, 5] }], survey := [⟨1, 0, .at ⟨0, 0, 0, 0⟩ 1⟩], groups := { group0 with work := [(0, 2)], indexSwept := true } :: List.replicate 7 Group.cold }).taskOk (0 : Nat) 0 = true) ∧
    (({ slotUp 4 with stripes := [{ stripe0 with state := .live, live := 1, blocks := [sblock 0 0 .void, sblock 0 1 .void] }, { stripe0 with num := 1, stream := .rebuild, row := 1, members := [0, 1, 3, 4, 5] }], survey := [⟨1, 0, .at ⟨0, 0, 0, 0⟩ 1⟩], groups := { group0 with work := [(0, 2)], indexSwept := true } :: List.replicate 7 Group.cold }).rebuildPace = true) ∧
    (({ slotUp 4 with stripes := [{ stripe0 with state := .live, live := 1, blocks := [sblock 0 0 .void, sblock 0 1 .void] }, { stripe0 with num := 1, stream := .rebuild, row := 1, members := [0, 1, 3, 4, 5] }], survey := [⟨1, 0, .at ⟨0, 0, 0, 0⟩ 1⟩], groups := { group0 with work := [(0, 2)], indexSwept := true } :: List.replicate 7 Group.cold }).rehomeWork (0 : Nat) = false) ∧
    (({ slotUp 4 with stripes := [{ stripe0 with state := .live, live := 1, blocks := [sblock 0 0 .void, sblock 0 1 .void] }, { stripe0 with num := 1, stream := .rebuild, row := 1, members := [0, 1, 3, 4, 5] }], survey := [⟨1, 0, .at ⟨0, 0, 0, 0⟩ 1⟩], groups := { group0 with work := [(0, 2)], indexSwept := true } :: List.replicate 7 Group.cold }).nextWork (0 : Nat) = some (({ stripe0 with state := .live, live := 1, blocks := [sblock 0 0 .void, sblock 0 1 .void] }), 2, 1)) ∧
    (({ slotUp 4 with stripes := [{ stripe0 with state := .live, live := 1, blocks := [sblock 0 0 .void, sblock 0 1 .void] }, { stripe0 with num := 1, stream := .rebuild, row := 1, members := [0, 1, 3, 4, 5] }], survey := [⟨1, 0, .at ⟨0, 0, 0, 0⟩ 1⟩], groups := { group0 with work := [(0, 2)], indexSwept := true } :: List.replicate 7 Group.cold }).stripe? (0 : Nat) ({ stripe0 with state := .live, live := 1, blocks := [sblock 0 0 .void, sblock 0 1 .void] }).num = some ({ stripe0 with state := .live, live := 1, blocks := [sblock 0 0 .void, sblock 0 1 .void] })) ∧
    (({ stripe0 with state := .live, live := 1, blocks := [sblock 0 0 .void, sblock 0 1 .void] }).state = .live) ∧
    (({ slotUp 4 with stripes := [{ stripe0 with state := .live, live := 1, blocks := [sblock 0 0 .void, sblock 0 1 .void] }, { stripe0 with num := 1, stream := .rebuild, row := 1, members := [0, 1, 3, 4, 5] }], survey := [⟨1, 0, .at ⟨0, 0, 0, 0⟩ 1⟩], groups := { group0 with work := [(0, 2)], indexSwept := true } :: List.replicate 7 Group.cold }).liveIn (0 : Nat) ({ stripe0 with state := .live, live := 1, blocks := [sblock 0 0 .void, sblock 0 1 .void] }).num = [((⟨0, 0, 0, 0⟩ : Place), 1, 0)]) ∧
    (({ stripe0 with state := .live, live := 1, blocks := [sblock 0 0 .void, sblock 0 1 .void] }).live = 1) ∧
    (({ slotUp 4 with stripes := [{ stripe0 with state := .live, live := 1, blocks := [sblock 0 0 .void, sblock 0 1 .void] }, { stripe0 with num := 1, stream := .rebuild, row := 1, members := [0, 1, 3, 4, 5] }], survey := [⟨1, 0, .at ⟨0, 0, 0, 0⟩ 1⟩], groups := { group0 with work := [(0, 2)], indexSwept := true } :: List.replicate 7 Group.cold }).moving (0 : Nat) ({ stripe0 with state := .live, live := 1, blocks := [sblock 0 0 .void, sblock 0 1 .void] }).num = []) ∧
    (({ stripe0 with state := .live, live := 1, blocks := [sblock 0 0 .void, sblock 0 1 .void] }).lostMap = []) ∧
    ((({ stripe0 with state := .live, live := 1, blocks := [sblock 0 0 .void, sblock 0 1 .void] }).blocks.find? fun (z : SBlock) => z.slab == (⟨0, 0, 0, 0⟩ : Place).slab && z.blk == (⟨0, 0, 0, 0⟩ : Place).blk) = some (sblock 0 0 .void : SBlock)) ∧
    ((({ slotUp 4 with stripes := [{ stripe0 with state := .live, live := 1, blocks := [sblock 0 0 .void, sblock 0 1 .void] }, { stripe0 with num := 1, stream := .rebuild, row := 1, members := [0, 1, 3, 4, 5] }], survey := [⟨1, 0, .at ⟨0, 0, 0, 0⟩ 1⟩], groups := { group0 with work := [(0, 2)], indexSwept := true } :: List.replicate 7 Group.cold }).openOf (0 : Nat) .rebuild).find? (fun (z : Stripe) => z.blocks.length < 16 * z.keff) = some ({ stripe0 with num := 1, stream := .rebuild, row := 1, members := [0, 1, 3, 4, 5] })) ∧
    (({ slotUp 4 with stripes := [{ stripe0 with state := .live, live := 1, blocks := [sblock 0 0 .void, sblock 0 1 .void] }, { stripe0 with num := 1, stream := .rebuild, row := 1, members := [0, 1, 3, 4, 5] }], survey := [⟨1, 0, .at ⟨0, 0, 0, 0⟩ 1⟩], groups := { group0 with work := [(0, 2)], indexSwept := true } :: List.replicate 7 Group.cold }).stripe? (0 : Nat) ({ stripe0 with num := 1, stream := .rebuild, row := 1, members := [0, 1, 3, 4, 5] }).num = some ({ stripe0 with num := 1, stream := .rebuild, row := 1, members := [0, 1, 3, 4, 5] })) ∧
    (({ stripe0 with num := 1, stream := .rebuild, row := 1, members := [0, 1, 3, 4, 5] }).blocks.length % 16 ≠ 0) ∧
    holds (exec (.rebuildStripe (0 : Nat) ([])) ({ slotUp 4 with stripes := [{ stripe0 with state := .live, live := 1, blocks := [sblock 0 0 .void, sblock 0 1 .void] }, { stripe0 with num := 1, stream := .rebuild, row := 1, members := [0, 1, 3, 4, 5] }], survey := [⟨1, 0, .at ⟨0, 0, 0, 0⟩ 1⟩], groups := { group0 with work := [(0, 2)], indexSwept := true } :: List.replicate 7 Group.cold })) (fun t => decide (((t.stripe? (0 : Nat) ({ stripe0 with num := 1, stream := .rebuild, row := 1, members := [0, 1, 3, 4, 5] }).num).any (fun (z : Stripe) => z.blocks.length == ({ stripe0 with num := 1, stream := .rebuild, row := 1, members := [0, 1, 3, 4, 5] }).blocks.length + 1 && z.blocks.getLast?.any fun (u : SBlock) => u.owner == .move (⟨0, 0, 0, 0⟩ : Place) 2 && u.content == (sblock 0 0 .void : SBlock).content) = true))) = true := by decide +kernel

theorem witness_backgroundWork_regionResync :
    (({ layUp with slots := layUp.slots.modify 2 (fun (x : Slot) => { x with dirty := [(1, 0)] }), nss := [{ ns1 with fixed := true, nsze := 16, rows := [(0, 1)] }] }).inService (2 : Nat) = true) ∧
    (({ layUp with slots := layUp.slots.modify 2 (fun (x : Slot) => { x with dirty := [(1, 0)] }), nss := [{ ns1 with fixed := true, nsze := 16, rows := [(0, 1)] }] }).rebuildPace = true) ∧
    (({ layUp with slots := layUp.slots.modify 2 (fun (x : Slot) => { x with dirty := [(1, 0)] }), nss := [{ ns1 with fixed := true, nsze := 16, rows := [(0, 1)] }] }).taskOk (({ layUp with slots := layUp.slots.modify 2 (fun (x : Slot) => { x with dirty := [(1, 0)] }), nss := [{ ns1 with fixed := true, nsze := 16, rows := [(0, 1)] }] }).slot (2 : Nat)).group 0 = true) ∧
    (({ layUp with slots := layUp.slots.modify 2 (fun (x : Slot) => { x with dirty := [(1, 0)] }), nss := [{ ns1 with fixed := true, nsze := 16, rows := [(0, 1)] }] }).dirtyList (2 : Nat) = (1, 0) :: ([] : List (Nat × Nat))) ∧
    (({ layUp with slots := layUp.slots.modify 2 (fun (x : Slot) => { x with dirty := [(1, 0)] }), nss := [{ ns1 with fixed := true, nsze := 16, rows := [(0, 1)] }] }).ns? 1 = some ({ ns1 with fixed := true, nsze := 16, rows := [(0, 1)] } : Namespace)) ∧
    (({ layUp with slots := layUp.slots.modify 2 (fun (x : Slot) => { x with dirty := [(1, 0)] }), nss := [{ ns1 with fixed := true, nsze := 16, rows := [(0, 1)] }] }).cmds = []) ∧
    holds (exec (.regionResync (2 : Nat) ([])) ({ layUp with slots := layUp.slots.modify 2 (fun (x : Slot) => { x with dirty := [(1, 0)] }), nss := [{ ns1 with fixed := true, nsze := 16, rows := [(0, 1)] }] })) (fun t => decide (((t.slot (2 : Nat)).dirty = ([] : List (Nat × Nat))) ∧ ((t.slot (2 : Nat)).allDirty = false))) = true := by decide +kernel

theorem witness_backgroundWork_patrolVisit :
    ((({ layUp.wr F.LAY_PAT_CFG_PAT_EN 1 with stripes := [{ stripe0 with state := .live, live := 1 }] }).group (0 : Nat)).priority = false) ∧
    ((({ layUp.wr F.LAY_PAT_CFG_PAT_EN 1 with stripes := [{ stripe0 with state := .live, live := 1 }] }).group (0 : Nat)).scan = false) ∧
    ((({ layUp.wr F.LAY_PAT_CFG_PAT_EN 1 with stripes := [{ stripe0 with state := .live, live := 1 }] }).group (0 : Nat)).mounted = true) ∧
    (({ layUp.wr F.LAY_PAT_CFG_PAT_EN 1 with stripes := [{ stripe0 with state := .live, live := 1 }] }).isSet F.LAY_PAT_CFG_PAT_EN = true) ∧
    (({ layUp.wr F.LAY_PAT_CFG_PAT_EN 1 with stripes := [{ stripe0 with state := .live, live := 1 }] }).taskOk (0 : Nat) 2 = true) ∧
    ((({ layUp.wr F.LAY_PAT_CFG_PAT_EN 1 with stripes := [{ stripe0 with state := .live, live := 1 }] }).patrolList (0 : Nat))[(({ layUp.wr F.LAY_PAT_CFG_PAT_EN 1 with stripes := [{ stripe0 with state := .live, live := 1 }] }).group (0 : Nat)).patrolAt]? = some (.log 0 0 : SRef)) ∧
    holds (exec (.patrolVisit (0 : Nat) ([])) ({ layUp.wr F.LAY_PAT_CFG_PAT_EN 1 with stripes := [{ stripe0 with state := .live, live := 1 }] })) (fun t => decide (((t.group (0 : Nat)).patrolAt = (({ layUp.wr F.LAY_PAT_CFG_PAT_EN 1 with stripes := [{ stripe0 with state := .live, live := 1 }] }).group (0 : Nat)).patrolAt + 1))) = true := by decide +kernel

theorem witness_backgroundWork_reshapeStart :
    (hasBit (0x80020020 : Word).toNat 31 = true) ∧
    ((({ (((layUp.wr (F.LAY_GCFG_GEOM 1) 1).wr (F.LAY_GCFG_K 1) 4).wr (F.LAY_GMEM_LO_SLOTS 1) 0xFF00).wr F.LAY_RSHP_NSID_NSID 1 with groups := group0 :: { group0 with rows := 400 } :: List.replicate 6 Group.cold }).writeRegW 30 0x1610 (0x80020020 : Word)).reshapeRefusal = none) ∧
    holds (exec (.reshapeStart (0x80020020 : Word)) ({ (((layUp.wr (F.LAY_GCFG_GEOM 1) 1).wr (F.LAY_GCFG_K 1) 4).wr (F.LAY_GMEM_LO_SLOTS 1) 0xFF00).wr F.LAY_RSHP_NSID_NSID 1 with groups := group0 :: { group0 with rows := 400 } :: List.replicate 6 Group.cold })) (fun t => decide ((t.reshape.any (fun (r : Reshape) => r.group == (({ (((layUp.wr (F.LAY_GCFG_GEOM 1) 1).wr (F.LAY_GCFG_K 1) 4).wr (F.LAY_GMEM_LO_SLOTS 1) 0xFF00).wr F.LAY_RSHP_NSID_NSID 1 with groups := group0 :: { group0 with rows := 400 } :: List.replicate 6 Group.cold }).writeRegW 30 0x1610 (0x80020020 : Word)).rd F.LAY_RSHP_CFG_GROUP && r.mode == if (({ (((layUp.wr (F.LAY_GCFG_GEOM 1) 1).wr (F.LAY_GCFG_K 1) 4).wr (F.LAY_GMEM_LO_SLOTS 1) 0xFF00).wr F.LAY_RSHP_NSID_NSID 1 with groups := group0 :: { group0 with rows := 400 } :: List.replicate 6 Group.cold }).writeRegW 30 0x1610 (0x80020020 : Word)).rd F.LAY_RSHP_CFG_MODE = 1 then 1 else 2) = true))) = true := by decide +kernel

theorem witness_backgroundWork_reshapeRelayoutDone :
    (({ layUp with reshape := some ⟨1, 0, 1, 4, [0, 1, 2, 3, 4], 0, 0, 0, 1, 0⟩ }).reshape = some (⟨1, 0, 1, 4, [0, 1, 2, 3, 4], 0, 0, 0, 1, 0⟩ : Reshape)) ∧
    ((⟨1, 0, 1, 4, [0, 1, 2, 3, 4], 0, 0, 0, 1, 0⟩ : Reshape).mode = 1) ∧
    ((⟨1, 0, 1, 4, [0, 1, 2, 3, 4], 0, 0, 0, 1, 0⟩ : Reshape).phase = 1) ∧
    (({ layUp with reshape := some ⟨1, 0, 1, 4, [0, 1, 2, 3, 4], 0, 0, 0, 1, 0⟩ }).svyWrites = true) ∧
    ((({ layUp with reshape := some ⟨1, 0, 1, 4, [0, 1, 2, 3, 4], 0, 0, 0, 1, 0⟩ }).relaySlots (⟨1, 0, 1, 4, [0, 1, 2, 3, 4], 0, 0, 0, 1, 0⟩ : Reshape).group (⟨1, 0, 1, 4, [0, 1, 2, 3, 4], 0, 0, 0, 1, 0⟩ : Reshape).members (({ layUp with reshape := some ⟨1, 0, 1, 4, [0, 1, 2, 3, 4], 0, 0, 0, 1, 0⟩ }).objs.filter fun (o : SvyObj) => o.group == (⟨1, 0, 1, 4, [0, 1, 2, 3, 4], 0, 0, 0, 1, 0⟩ : Reshape).group && o.slot.isSome).length).length = (({ layUp with reshape := some ⟨1, 0, 1, 4, [0, 1, 2, 3, 4], 0, 0, 0, 1, 0⟩ }).objs.filter fun (o : SvyObj) => o.group == (⟨1, 0, 1, 4, [0, 1, 2, 3, 4], 0, 0, 0, 1, 0⟩ : Reshape).group && o.slot.isSome).length) ∧
    holds (exec .reshapeRelayoutDone ({ layUp with reshape := some ⟨1, 0, 1, 4, [0, 1, 2, 3, 4], 0, 0, 0, 1, 0⟩ })) (fun t => decide ((t.reshape = some { (⟨1, 0, 1, 4, [0, 1, 2, 3, 4], 0, 0, 0, 1, 0⟩ : Reshape) with phase := 2 }))) = true := by decide +kernel

theorem witness_backgroundWork_reshapeSwitchover :
    (({ layUp with reshape := some ⟨2, 0, 0, 0, [], 1, 1, 0, 2, 0⟩ }).reshape = some (⟨2, 0, 0, 0, [], 1, 1, 0, 2, 0⟩ : Reshape)) ∧
    ((⟨2, 0, 0, 0, [], 1, 1, 0, 2, 0⟩ : Reshape).mode = 2) ∧
    ((⟨2, 0, 0, 0, [], 1, 1, 0, 2, 0⟩ : Reshape).phase = 2) ∧
    (({ layUp with reshape := some ⟨2, 0, 0, 0, [], 1, 1, 0, 2, 0⟩ }).reshapeLeft (⟨2, 0, 0, 0, [], 1, 1, 0, 2, 0⟩ : Reshape) = 0) ∧
    (({ layUp with reshape := some ⟨2, 0, 0, 0, [], 1, 1, 0, 2, 0⟩ }).pendings = []) ∧
    ((({ layUp with reshape := some ⟨2, 0, 0, 0, [], 1, 1, 0, 2, 0⟩ }).ns? (⟨2, 0, 0, 0, [], 1, 1, 0, 2, 0⟩ : Reshape).nsid).isSome = true) ∧
    holds (exec .reshapeSwitchover ({ layUp with reshape := some ⟨2, 0, 0, 0, [], 1, 1, 0, 2, 0⟩ })) (fun t => decide ((t.reshape = none) ∧ ((t.ns? (⟨2, 0, 0, 0, [], 1, 1, 0, 2, 0⟩ : Reshape).nsid).any (fun (z : Namespace) => z.group == (⟨2, 0, 0, 0, [], 1, 1, 0, 2, 0⟩ : Reshape).target && z.moveTo.isNone) = true))) = true := by decide +kernel

theorem witness_tallyStore_tallyRecordWritten :
    (({ layUp with tally := { Tally.cold with recs := [{ rec0 with body := .checkpoint 0, offset := none, durable := false }], seq := 1 } }).tally.recs = [({ rec0 with body := .checkpoint 0, offset := none, durable := false } : Rec)]) ∧
    (({ rec0 with body := .checkpoint 0, offset := none, durable := false } : Rec).offset = none) ∧
    (({ rec0 with body := .checkpoint 0, offset := none, durable := false } : Rec).body = .checkpoint 0) ∧
    (({ layUp with tally := { Tally.cold with recs := [{ rec0 with body := .checkpoint 0, offset := none, durable := false }], seq := 1 } }).ringPlace ({ rec0 with body := .checkpoint 0, offset := none, durable := false } : Rec).len = some 4096) ∧
    (({ layUp with tally := { Tally.cold with recs := [{ rec0 with body := .checkpoint 0, offset := none, durable := false }], seq := 1 } }).paired = false) ∧
    holds (exec .tallyRecordWritten ({ layUp with tally := { Tally.cold with recs := [{ rec0 with body := .checkpoint 0, offset := none, durable := false }], seq := 1 } })) (fun t => decide ((t.tally.recs.map (fun (z : Rec) => (z.seq, z.offset, z.durable)) = [(({ rec0 with body := .checkpoint 0, offset := none, durable := false } : Rec).seq, some 4096, true)]) ∧ (t.tally.wseq = ({ layUp with tally := { Tally.cold with recs := [{ rec0 with body := .checkpoint 0, offset := none, durable := false }], seq := 1 } }).tally.wseq + 1))) = true := by decide +kernel

theorem witness_tallyStore_tallyRecordDurable :
    (({ layUp with tally := { Tally.cold with recs := [{ rec0 with body := .checkpoint 0, durable := false }], seq := 1 } }).tally.recs = [({ rec0 with body := .checkpoint 0, durable := false } : Rec)]) ∧
    (({ rec0 with body := .checkpoint 0, durable := false } : Rec).seq = (1 : Nat)) ∧
    (({ rec0 with body := .checkpoint 0, durable := false } : Rec).body = .checkpoint (0 : Nat)) ∧
    (({ rec0 with body := .checkpoint 0, durable := false } : Rec).offset.isSome = true) ∧
    (({ rec0 with body := .checkpoint 0, durable := false } : Rec).durable = false) ∧
    holds (exec (.tallyRecordDurable (1 : Nat)) ({ layUp with tally := { Tally.cold with recs := [{ rec0 with body := .checkpoint 0, durable := false }], seq := 1 } })) (fun t => decide ((t.tally.recs.map (fun (z : Rec) => (z.seq, z.durable)) = [((1 : Nat), true)]))) = true := by decide +kernel

theorem witness_tallyStore_tallyControlBlockTimer :
    ((layUp.wr F.JNL_HEAD 8192).ringTail ≠ (layUp.wr F.JNL_HEAD 8192).tally.cbTail) ∧
    ((layUp.wr F.JNL_HEAD 8192).due ((layUp.wr F.JNL_HEAD 8192).tally.cbAt + msU 1) = true) ∧
    holds (exec .tallyControlBlockTimer (layUp.wr F.JNL_HEAD 8192)) (fun t => decide ((t = { (layUp.wr F.JNL_HEAD 8192) with tally := { (layUp.wr F.JNL_HEAD 8192).tally with wcount := (layUp.wr F.JNL_HEAD 8192).tally.wcount + 1, cbTail := (layUp.wr F.JNL_HEAD 8192).ringTail, cbAt := (layUp.wr F.JNL_HEAD 8192).now } }))) = true := by decide +kernel

theorem witness_tallyStore_tailCutDeadline :
    (({ layUp.wr F.LAY_TCUT_CFG_DL0 5 with stripes := [{ stripe0 with state := .live, kp := 4, live := 1 }], cmds := [{ fwCmd with nv := io 2, phase := .dispatched }], jobs := [⟨0, 1, 0, ⟨.log 0 0, 0, 0⟩, [⟨.log 0 0, 0, 0⟩], [], [], 0, false⟩] }).jobs = [(⟨0, 1, 0, ⟨.log 0 0, 0, 0⟩, [⟨.log 0 0, 0, 0⟩], [], [], 0, false⟩ : ReadJob)]) ∧
    ((⟨0, 1, 0, ⟨.log 0 0, 0, 0⟩, [⟨.log 0 0, 0, 0⟩], [], [], 0, false⟩ : ReadJob).id = (0 : Nat)) ∧
    ((({ layUp.wr F.LAY_TCUT_CFG_DL0 5 with stripes := [{ stripe0 with state := .live, kp := 4, live := 1 }], cmds := [{ fwCmd with nv := io 2, phase := .dispatched }], jobs := [⟨0, 1, 0, ⟨.log 0 0, 0, 0⟩, [⟨.log 0 0, 0, 0⟩], [], [], 0, false⟩] }).cmd? (⟨0, 1, 0, ⟨.log 0 0, 0, 0⟩, [⟨.log 0 0, 0, 0⟩], [], [], 0, false⟩ : ReadJob).cmd).bind (fun (c : Cmd) => ({ layUp.wr F.LAY_TCUT_CFG_DL0 5 with stripes := [{ stripe0 with state := .live, kp := 4, live := 1 }], cmds := [{ fwCmd with nv := io 2, phase := .dispatched }], jobs := [⟨0, 1, 0, ⟨.log 0 0, 0, 0⟩, [⟨.log 0 0, 0, 0⟩], [], [], 0, false⟩] }).ns? c.nv.nsid) = some (ns1 : Namespace)) ∧
    (({ layUp.wr F.LAY_TCUT_CFG_DL0 5 with stripes := [{ stripe0 with state := .live, kp := 4, live := 1 }], cmds := [{ fwCmd with nv := io 2, phase := .dispatched }], jobs := [⟨0, 1, 0, ⟨.log 0 0, 0, 0⟩, [⟨.log 0 0, 0, 0⟩], [], [], 0, false⟩] }).tcut (ns1 : Namespace) ≠ 0) ∧
    (({ layUp.wr F.LAY_TCUT_CFG_DL0 5 with stripes := [{ stripe0 with state := .live, kp := 4, live := 1 }], cmds := [{ fwCmd with nv := io 2, phase := .dispatched }], jobs := [⟨0, 1, 0, ⟨.log 0 0, 0, 0⟩, [⟨.log 0 0, 0, 0⟩], [], [], 0, false⟩] }).due ((⟨0, 1, 0, ⟨.log 0 0, 0, 0⟩, [⟨.log 0 0, 0, 0⟩], [], [], 0, false⟩ : ReadJob).issued + ({ layUp.wr F.LAY_TCUT_CFG_DL0 5 with stripes := [{ stripe0 with state := .live, kp := 4, live := 1 }], cmds := [{ fwCmd with nv := io 2, phase := .dispatched }], jobs := [⟨0, 1, 0, ⟨.log 0 0, 0, 0⟩, [⟨.log 0 0, 0, 0⟩], [], [], 0, false⟩] }).tcut (ns1 : Namespace)) = true) ∧
    (({ layUp.wr F.LAY_TCUT_CFG_DL0 5 with stripes := [{ stripe0 with state := .live, kp := 4, live := 1 }], cmds := [{ fwCmd with nv := io 2, phase := .dispatched }], jobs := [⟨0, 1, 0, ⟨.log 0 0, 0, 0⟩, [⟨.log 0 0, 0, 0⟩], [], [], 0, false⟩] }).rd (F.CMD_QOS_GCAP_CAP (ns1 : Namespace).group) = 0) ∧
    ((⟨0, 1, 0, ⟨.log 0 0, 0, 0⟩, [⟨.log 0 0, 0, 0⟩], [], [], 0, false⟩ : ReadJob).cut = false) ∧
    ((⟨0, 1, 0, ⟨.log 0 0, 0, 0⟩, [⟨.log 0 0, 0, 0⟩], [], [], 0, false⟩ : ReadJob).awaiting.contains (⟨0, 1, 0, ⟨.log 0 0, 0, 0⟩, [⟨.log 0 0, 0, 0⟩], [], [], 0, false⟩ : ReadJob).target = true) ∧
    (({ layUp.wr F.LAY_TCUT_CFG_DL0 5 with stripes := [{ stripe0 with state := .live, kp := 4, live := 1 }], cmds := [{ fwCmd with nv := io 2, phase := .dispatched }], jobs := [⟨0, 1, 0, ⟨.log 0 0, 0, 0⟩, [⟨.log 0 0, 0, 0⟩], [], [], 0, false⟩] }).recon ((⟨0, 1, 0, ⟨.log 0 0, 0, 0⟩, [⟨.log 0 0, 0, 0⟩], [], [], 0, false⟩ : ReadJob).target :: (⟨0, 1, 0, ⟨.log 0 0, 0, 0⟩, [⟨.log 0 0, 0, 0⟩], [], [], 0, false⟩ : ReadJob).bad) (⟨0, 1, 0, ⟨.log 0 0, 0, 0⟩, [⟨.log 0 0, 0, 0⟩], [], [], 0, false⟩ : ReadJob).target = some ([⟨.log 0 0, 1, 0⟩, ⟨.log 0 0, 2, 0⟩, ⟨.log 0 0, 3, 0⟩, ⟨.log 0 0, 4, 0⟩] : List BRef)) ∧
    holds (exec (.tailCutDeadline (0 : Nat)) ({ layUp.wr F.LAY_TCUT_CFG_DL0 5 with stripes := [{ stripe0 with state := .live, kp := 4, live := 1 }], cmds := [{ fwCmd with nv := io 2, phase := .dispatched }], jobs := [⟨0, 1, 0, ⟨.log 0 0, 0, 0⟩, [⟨.log 0 0, 0, 0⟩], [], [], 0, false⟩] })) (fun t => decide ((t.jobs.map (fun (z : ReadJob) => (z.cut, z.awaiting)) = [(true, (⟨0, 1, 0, ⟨.log 0 0, 0, 0⟩, [⟨.log 0 0, 0, 0⟩], [], [], 0, false⟩ : ReadJob).awaiting ++ ([⟨.log 0 0, 1, 0⟩, ⟨.log 0 0, 2, 0⟩, ⟨.log 0 0, 3, 0⟩, ⟨.log 0 0, 4, 0⟩] : List BRef))]))) = true := by decide +kernel

theorem witness_memberCommands_memberCompletion :
    ((({ layUp with mcmds := [⟨⟨2, 4, 1⟩, .trim [(2, 0)], 0, false⟩] }).mcmds.find? fun (z : MCmd) => z.tag == (⟨2, 4, 1⟩ : MTag)) = some (⟨⟨2, 4, 1⟩, .trim [(2, 0)], 0, false⟩ : MCmd)) ∧
    ((⟨⟨2, 4, 1⟩, .trim [(2, 0)], 0, false⟩ : MCmd).work = .trim ([(2, 0)] : List (Nat × Nat))) ∧
    ((⟨⟨2, 4, 1⟩, .trim [(2, 0)], 0, false⟩ : MCmd).quarantined = false) ∧
    ((4 : Nat) = (⟨2, 4, 1⟩ : MTag).queue) ∧
    ((({ layUp with mcmds := [⟨⟨2, 4, 1⟩, .trim [(2, 0)], 0, false⟩] }).slot (⟨2, 4, 1⟩ : MTag).slot).state ≠ 2) ∧
    (({ layUp with mcmds := [⟨⟨2, 4, 1⟩, .trim [(2, 0)], 0, false⟩] }).mwaits = []) ∧
    holds (exec (.memberCompletion (⟨2, 4, 1⟩ : MTag) (4 : Nat) (true : Bool) (none : Option (Nat × Nat)) (0 : Nat)) ({ layUp with mcmds := [⟨⟨2, 4, 1⟩, .trim [(2, 0)], 0, false⟩] })) (fun t => decide ((t.mcmds = ({ layUp with mcmds := [⟨⟨2, 4, 1⟩, .trim [(2, 0)], 0, false⟩] }).mcmds.filter (fun (z : MCmd) => z.tag != (⟨2, 4, 1⟩ : MTag))))) = true := by decide +kernel

theorem witness_memberCommands_memberCompletion2 :
    ((({ layUp with stripes := [{ stripe0 with state := .sealed, acked := [1], members := [0, 1] }], mcmds := [⟨⟨0, 2, 1⟩, .slabWrite 0 0 0, 0, false⟩] }).mcmds.find? fun (z : MCmd) => z.tag == (⟨0, 2, 1⟩ : MTag)) = some (⟨⟨0, 2, 1⟩, .slabWrite 0 0 0, 0, false⟩ : MCmd)) ∧
    ((⟨⟨0, 2, 1⟩, .slabWrite 0 0 0, 0, false⟩ : MCmd).work = .slabWrite 0 0 0) ∧
    ((⟨⟨0, 2, 1⟩, .slabWrite 0 0 0, 0, false⟩ : MCmd).quarantined = false) ∧
    ((2 : Nat) = (⟨0, 2, 1⟩ : MTag).queue) ∧
    (({ layUp with stripes := [{ stripe0 with state := .sealed, acked := [1], members := [0, 1] }], mcmds := [⟨⟨0, 2, 1⟩, .slabWrite 0 0 0, 0, false⟩] }).stripe? 0 0 = some ({ stripe0 with state := .sealed, acked := [1], members := [0, 1] } : Stripe)) ∧
    (({ stripe0 with state := .sealed, acked := [1], members := [0, 1] } : Stripe).state = .sealed) ∧
    ((List.range (({ stripe0 with state := .sealed, acked := [1], members := [0, 1] } : Stripe).kp + ({ stripe0 with state := .sealed, acked := [1], members := [0, 1] } : Stripe).m)).all (fun (i : Nat) => i == 0 || ({ stripe0 with state := .sealed, acked := [1], members := [0, 1] } : Stripe).acked.contains i) = true) ∧
    holds (exec (.memberCompletion (⟨0, 2, 1⟩ : MTag) (2 : Nat) true (none : Option (Nat × Nat)) (0 : Nat)) ({ layUp with stripes := [{ stripe0 with state := .sealed, acked := [1], members := [0, 1] }], mcmds := [⟨⟨0, 2, 1⟩, .slabWrite 0 0 0, 0, false⟩] })) (fun t => decide (((t.stripe? 0 0).any Stripe.done = true))) = true := by decide +kernel

theorem witness_memberCommands_memberDmaRequest :
    ((({ layUp with mcmds := [⟨⟨2, 1, 1⟩, .read ⟨.log 0 0, 0, 0⟩ 0, 0, false⟩] }).mcmds.find? fun (z : MCmd) => z.tag.slot == (2 : Nat) && tagCovers z.tag (dataBlocks z.work) (tagData ⟨2, 1, 1⟩ : Nat) (4096 : Nat)) = some (⟨⟨2, 1, 1⟩, .read ⟨.log 0 0, 0, 0⟩ 0, 0, false⟩ : MCmd)) ∧
    ((⟨⟨2, 1, 1⟩, .read ⟨.log 0 0, 0, 0⟩ 0, 0, false⟩ : MCmd).quarantined = false) ∧
    ((⟨⟨2, 1, 1⟩, .read ⟨.log 0 0, 0, 0⟩ 0, 0, false⟩ : MCmd).work.reads = (true : Bool)) ∧
    holds (exec (.memberDmaRequest (2 : Nat) (true : Bool) (tagData ⟨2, 1, 1⟩ : Nat) (4096 : Nat)) ({ layUp with mcmds := [⟨⟨2, 1, 1⟩, .read ⟨.log 0 0, 0, 0⟩ 0, 0, false⟩] })) (fun t => decide ((t = ({ layUp with mcmds := [⟨⟨2, 1, 1⟩, .read ⟨.log 0 0, 0, 0⟩ 0, 0, false⟩] })))) = true := by decide +kernel

theorem witness_memberCommands_memberDmaRequest2 :
    (busStore (queueMemAt 2 : Nat) = 2) ∧
    (within (queueMemAt 2 : Nat) (64 : Nat) (queueMemAt (2 : Nat)) (2 ^ 20) = true) ∧
    holds (exec (.memberDmaRequest (2 : Nat) (false : Bool) (queueMemAt 2 : Nat) (64 : Nat)) layUp) (fun t => decide ((t = layUp))) = true := by decide +kernel

theorem witness_memberCommands_memberDmaRequest3 :
    ((2 : Nat) < 48) ∧
    (¬(busStore (queueMemAt 3 : Nat) = 2 ∧ within (queueMemAt 3 : Nat) (64 : Nat) (queueMemAt (2 : Nat)) (2 ^ 20) = true)) ∧
    ((layUp.mcmds.any fun (z : MCmd) => z.tag.slot == (2 : Nat) && tagCovers z.tag (dataBlocks z.work) (queueMemAt 3 : Nat) (64 : Nat)) = false) ∧
    holds (exec (.memberDmaRequest (2 : Nat) (false : Bool) (queueMemAt 3 : Nat) (64 : Nat)) layUp) (fun t => decide ((t.rdStat F.DRV_PSTAT_CONTAINED (2 : Nat) = 1) ∧ (((false : Bool) || (newOut layUp t).contains (.memberUr (2 : Nat) (queueMemAt 3 : Nat) (64 : Nat))) = true))) = true := by decide +kernel

theorem witness_memberCommands_memberErrorMessage :
    ((2 : Nat) < 48) ∧
    ((layUp.wrStat F.DRV_PSTAT_LINK_UP 2 1).portUp (2 : Nat) = true) ∧
    holds (exec (.memberErrorMessage (2 : Nat) 1) (layUp.wrStat F.DRV_PSTAT_LINK_UP 2 1)) (fun t => decide ((t.rdStat F.DRV_PSTAT_CONTAINED (2 : Nat) = 1) ∧ (t.rdStat F.DRV_PSTAT_LINK_UP (2 : Nat) = 0))) = true := by decide +kernel

theorem witness_memberCommands_healthPoll :
    ((layUp.wrStat F.DRV_PSTAT_READY 2 1).rdStat F.DRV_PSTAT_READY (2 : Nat) = 1) ∧
    ((layUp.wrStat F.DRV_PSTAT_READY 2 1).due (((layUp.wrStat F.DRV_PSTAT_READY 2 1).port (2 : Nat)).polledAt + secU ((layUp.wrStat F.DRV_PSTAT_READY 2 1).rd F.DRV_CFG_HEALTH_S)) = true) ∧
    ((2 : Nat) < (layUp.wrStat F.DRV_PSTAT_READY 2 1).ports.length) ∧
    ((layUp.wrStat F.DRV_PSTAT_READY 2 1).queueLoad (2 : Nat) 0 < 255) ∧
    holds (exec (.healthPoll (2 : Nat)) (layUp.wrStat F.DRV_PSTAT_READY 2 1)) (fun t => decide (((t.port (2 : Nat)).polledAt = (layUp.wrStat F.DRV_PSTAT_READY 2 1).now) ∧ (t.mcmds = (layUp.wrStat F.DRV_PSTAT_READY 2 1).mcmds ++ [⟨⟨(2 : Nat), 0, (layUp.wrStat F.DRV_PSTAT_READY 2 1).freeCid (2 : Nat) 0⟩, .health, (layUp.wrStat F.DRV_PSTAT_READY 2 1).now, false⟩]))) = true := by decide +kernel

theorem witness_memberCommands_trimGatherExpiry :
    (({ layUp with trimGather := [(2, 1, 0)] }).trimGather = [((2 : Nat), 1, 0)]) ∧
    (({ layUp with trimGather := [(2, 1, 0)] }).due (0 + msU 1) = true) ∧
    (({ layUp with trimGather := [(2, 1, 0)] }).readable (2 : Nat) = true) ∧
    (({ layUp with trimGather := [(2, 1, 0)] }).queueLoad (2 : Nat) 4 < 255) ∧
    holds (exec (.trimGatherExpiry (2 : Nat)) ({ layUp with trimGather := [(2, 1, 0)] })) (fun t => decide ((t.trimGather = []) ∧ (t.mcmds = ({ layUp with trimGather := [(2, 1, 0)] }).mcmds ++ [⟨⟨(2 : Nat), 4, ({ layUp with trimGather := [(2, 1, 0)] }).freeCid (2 : Nat) 4⟩, .trim [((2 : Nat), 1)], ({ layUp with trimGather := [(2, 1, 0)] }).now, false⟩]))) = true := by decide +kernel

theorem witness_memberCommands_fenceWriteWindowEnd :
    (({ layUp with fenceEnd := some 0 }).dueOpt ({ layUp with fenceEnd := some 0 }).fenceEnd = true) ∧
    holds (exec .fenceWriteWindowEnd ({ layUp with fenceEnd := some 0 })) (fun t => decide ((t.fenceEnd = none))) = true := by decide +kernel

theorem witness_drivePorts_driveLinkDown :
    ((2 : Nat) < 48) ∧
    ((layUp.wrStat F.DRV_PSTAT_LINK_UP 2 1).portUp (2 : Nat) = true) ∧
    holds (exec (.driveLinkDown (2 : Nat)) (layUp.wrStat F.DRV_PSTAT_LINK_UP 2 1)) (fun t => decide ((t.rdStat F.DRV_PSTAT_CONTAINED (2 : Nat) = 1) ∧ (t.rdStat F.DRV_PSTAT_LINK_UP (2 : Nat) = 0))) = true := by decide +kernel

theorem witness_drivePorts_drvNonpostedTimeout :
    ((2 : Nat) < 48) ∧
    ((layUp.wrStat F.DRV_PSTAT_LINK_UP 2 1).portUp (2 : Nat) = true) ∧
    holds (exec (.drvNonpostedTimeout (2 : Nat)) (layUp.wrStat F.DRV_PSTAT_LINK_UP 2 1)) (fun t => decide ((t.rdStat F.DRV_PSTAT_CONTAINED (2 : Nat) = 1))) = true := by decide +kernel

theorem witness_drivePorts_containmentRecovery :
    ((2 : Nat) < 48) ∧
    (({ layUp with ports := layUp.ports.modify 2 fun (p : Port) => { p with recoverAt := some 0 } }).dueOpt (({ layUp with ports := layUp.ports.modify 2 fun (p : Port) => { p with recoverAt := some 0 } }).port (2 : Nat)).recoverAt = true) ∧
    holds (exec (.containmentRecovery (2 : Nat)) ({ layUp with ports := layUp.ports.modify 2 fun (p : Port) => { p with recoverAt := some 0 } })) (fun t => decide ((t.rdStat F.DRV_PSTAT_CONTAINED (2 : Nat) = 0) ∧ ((t.port (2 : Nat)).perstAt = some (({ layUp with ports := layUp.ports.modify 2 fun (p : Port) => { p with recoverAt := some 0 } }).now + msU 1)) ∧ ((t.port (2 : Nat)).recoverAt = none))) = true := by decide +kernel

theorem witness_drivePorts_perstReleaseTimer :
    ((2 : Nat) < 48) ∧
    (({ layUp with ports := layUp.ports.modify 2 fun (p : Port) => { p with perstAt := some 0 } }).sbcWant.length = 6) ∧
    (({ layUp with ports := layUp.ports.modify 2 fun (p : Port) => { p with perstAt := some 0 } }).dueOpt (({ layUp with ports := layUp.ports.modify 2 fun (p : Port) => { p with perstAt := some 0 } }).port (2 : Nat)).perstAt = true) ∧
    holds (exec (.perstReleaseTimer (2 : Nat)) ({ layUp with ports := layUp.ports.modify 2 fun (p : Port) => { p with perstAt := some 0 } })) (fun t => decide (((t.port (2 : Nat)).trainFrom = some ({ layUp with ports := layUp.ports.modify 2 fun (p : Port) => { p with perstAt := some 0 } }).now) ∧ (t.outSet (2 : Nat) 0 = true))) = true := by decide +kernel

theorem witness_drivePorts_driveEnumerated :
    ((2 : Nat) < 48) ∧
    ((({ layUp with ports := layUp.ports.modify 2 fun (p : Port) => { p with trainFrom := some 0, accepted := 4 } }).port (2 : Nat)).trainFrom.isSome = true) ∧
    (({ layUp with ports := layUp.ports.modify 2 fun (p : Port) => { p with trainFrom := some 0, accepted := 4 } }).driveRefusal (2 : Nat) (⟨0x010802, true, 30, true, true, true, true, true, some 3, false, driveOf 2⟩ : DriveFound) = none) ∧
    holds (exec (.driveEnumerated (2 : Nat) (⟨0x010802, true, 30, true, true, true, true, true, some 3, false, driveOf 2⟩ : DriveFound)) ({ layUp with ports := layUp.ports.modify 2 fun (p : Port) => { p with trainFrom := some 0, accepted := 4 } })) (fun t => decide ((t.rdStat F.DRV_PSTAT_LINK_UP (2 : Nat) = 1) ∧ (t.rdStat F.DRV_PSTAT_READY (2 : Nat) = 1) ∧ ((t.port (2 : Nat)).trainFrom = none))) = true := by decide +kernel

theorem witness_drivePorts_driveLinkTrainingTimeout :
    ((2 : Nat) < 48) ∧
    ((({ layUp with ports := layUp.ports.modify 2 fun (p : Port) => { p with trainFrom := some 0 } }).port (2 : Nat)).trainFrom = some (0 : Nat)) ∧
    (({ layUp with ports := layUp.ports.modify 2 fun (p : Port) => { p with trainFrom := some 0 } }).due ((0 : Nat) + msU 100) = true) ∧
    holds (exec (.driveLinkTrainingTimeout (2 : Nat)) ({ layUp with ports := layUp.ports.modify 2 fun (p : Port) => { p with trainFrom := some 0 } })) (fun t => decide ((t.rdStat F.DRV_PSTAT_REJECT (2 : Nat) = 8) ∧ ((t.slot (2 : Nat)).drive = none))) = true := by decide +kernel

theorem witness_drivePorts_drvPowerOn :
    ((2 : Nat) < 48) ∧
    ((2 : Nat) < ({ (layUp.wr F.DRV_CFG_AUTO_POWER 0).wrStat F.DRV_PSTAT_PRSNT 2 1 with ports := layUp.ports.modify 2 fun (p : Port) => { p with accepted := 4 } }).ports.length) ∧
    (({ (layUp.wr F.DRV_CFG_AUTO_POWER 0).wrStat F.DRV_PSTAT_PRSNT 2 1 with ports := layUp.ports.modify 2 fun (p : Port) => { p with accepted := 4 } }).reloading (drvOf (2 : Nat)) = false) ∧
    (({ (layUp.wr F.DRV_CFG_AUTO_POWER 0).wrStat F.DRV_PSTAT_PRSNT 2 1 with ports := layUp.ports.modify 2 fun (p : Port) => { p with accepted := 4 } }).halRole ≠ 2) ∧
    (({ (layUp.wr F.DRV_CFG_AUTO_POWER 0).wrStat F.DRV_PSTAT_PRSNT 2 1 with ports := layUp.ports.modify 2 fun (p : Port) => { p with accepted := 4 } }).sbcWant.length = 6) ∧
    (({ (layUp.wr F.DRV_CFG_AUTO_POWER 0).wrStat F.DRV_PSTAT_PRSNT 2 1 with ports := layUp.ports.modify 2 fun (p : Port) => { p with accepted := 4 } }).isSet F.DRV_CFG_AUTO_POWER = false) ∧
    (({ (layUp.wr F.DRV_CFG_AUTO_POWER 0).wrStat F.DRV_PSTAT_PRSNT 2 1 with ports := layUp.ports.modify 2 fun (p : Port) => { p with accepted := 4 } }).rdStat F.DRV_PSTAT_PRSNT (2 : Nat) = 1) ∧
    (({ (layUp.wr F.DRV_CFG_AUTO_POWER 0).wrStat F.DRV_PSTAT_PRSNT 2 1 with ports := layUp.ports.modify 2 fun (p : Port) => { p with accepted := 4 } }).rdStat F.DRV_PSTAT_POWERED (2 : Nat) = 0) ∧
    (hasBit (({ (layUp.wr F.DRV_CFG_AUTO_POWER 0).wrStat F.DRV_PSTAT_PRSNT 2 1 with ports := layUp.ports.modify 2 fun (p : Port) => { p with accepted := 4 } }).port (2 : Nat)).accepted 1 = false) ∧
    holds (exec (.drvPowerOn (2 : Nat)) ({ (layUp.wr F.DRV_CFG_AUTO_POWER 0).wrStat F.DRV_PSTAT_PRSNT 2 1 with ports := layUp.ports.modify 2 fun (p : Port) => { p with accepted := 4 } })) (fun t => decide ((t.rdStat F.DRV_PSTAT_POWERED (2 : Nat) = 1) ∧ ((t.port (2 : Nat)).perstAt = some (({ (layUp.wr F.DRV_CFG_AUTO_POWER 0).wrStat F.DRV_PSTAT_PRSNT 2 1 with ports := layUp.ports.modify 2 fun (p : Port) => { p with accepted := 4 } }).now + msU 100)))) = true := by decide +kernel

theorem witness_drivePorts_drvPowerOff :
    ((2 : Nat) < 48) ∧
    (((slotUp 4).wrStat F.DRV_PSTAT_POWERED 2 1).reloading (drvOf (2 : Nat)) = false) ∧
    (((slotUp 4).wrStat F.DRV_PSTAT_POWERED 2 1).halRole ≠ 2) ∧
    (((slotUp 4).wrStat F.DRV_PSTAT_POWERED 2 1).sbcWant.length = 6) ∧
    ((((slotUp 4).wrStat F.DRV_PSTAT_POWERED 2 1).slot (2 : Nat)).state = 4) ∧
    holds (exec (.drvPowerOff (2 : Nat)) ((slotUp 4).wrStat F.DRV_PSTAT_POWERED 2 1)) (fun t => decide ((t.rdStat F.DRV_PSTAT_POWERED (2 : Nat) = 0) ∧ (t.outSet (2 : Nat) 1 = false))) = true := by decide +kernel

theorem witness_drivePorts_driveStageTimer :
    (({ layUp with stage := some (5, 0) }).stage = some (5, 0)) ∧
    (({ layUp with stage := some (5, 0) }).due 0 = true) ∧
    (({ layUp with stage := some (5, 0) }).slotCount ≤ 8 * (5 + 1)) ∧
    holds (exec .driveStageTimer ({ layUp with stage := some (5, 0) })) (fun t => decide ((t.stage = none) ∧ (t.drvPowered = true))) = true := by decide +kernel

theorem witness_drivePorts_sbcFrame :
    holds (exec (.sbcFrame (0 : Nat)) layUp) (fun _ => true) = true := by decide +kernel

theorem witness_cipherRequests_cipXtsEnc :
    (up.cipRoute ({ zeroReq 3 1 with src := 22, op := 1, count := 1 } : CipReq).slot 1 < up.cips.length) ∧
    ((up.cip (up.cipRoute ({ zeroReq 3 1 with src := 22, op := 1, count := 1 } : CipReq).slot 1)).queue.length < 1024) ∧
    ((up.cip (up.cipRoute ({ zeroReq 3 1 with src := 22, op := 1, count := 1 } : CipReq).slot 1)).held = []) ∧
    holds (exec (.cipXtsEnc ({ zeroReq 3 1 with src := 22, op := 1, count := 1 } : CipReq)) up) (fun t => decide (((t.cip (up.cipRoute ({ zeroReq 3 1 with src := 22, op := 1, count := 1 } : CipReq).slot 1)).queue = (up.cip (up.cipRoute ({ zeroReq 3 1 with src := 22, op := 1, count := 1 } : CipReq).slot 1)).queue ++ [⟨{ ({ zeroReq 3 1 with src := 22, op := 1, count := 1 } : CipReq) with op := 1 }, false, up.cipRefusal { ({ zeroReq 3 1 with src := 22, op := 1, count := 1 } : CipReq) with op := 1 }⟩]))) = true := by decide +kernel

theorem witness_cipherRequests_cipXtsDec :
    (up.cipRoute ({ zeroReq 3 1 with src := 22, op := 2, count := 1 } : CipReq).slot 2 < up.cips.length) ∧
    ((up.cip (up.cipRoute ({ zeroReq 3 1 with src := 22, op := 2, count := 1 } : CipReq).slot 2)).queue.length < 1024) ∧
    ((up.cip (up.cipRoute ({ zeroReq 3 1 with src := 22, op := 2, count := 1 } : CipReq).slot 2)).held = []) ∧
    holds (exec (.cipXtsDec ({ zeroReq 3 1 with src := 22, op := 2, count := 1 } : CipReq)) up) (fun t => decide (((t.cip (up.cipRoute ({ zeroReq 3 1 with src := 22, op := 2, count := 1 } : CipReq).slot 2)).queue = (up.cip (up.cipRoute ({ zeroReq 3 1 with src := 22, op := 2, count := 1 } : CipReq).slot 2)).queue ++ [⟨{ ({ zeroReq 3 1 with src := 22, op := 2, count := 1 } : CipReq) with op := 2 }, false, up.cipRefusal { ({ zeroReq 3 1 with src := 22, op := 2, count := 1 } : CipReq) with op := 2 }⟩]))) = true := by decide +kernel

theorem witness_cipherRequests_cipXtsZero :
    (up.cipRoute ({ zeroReq 3 1 with src := 22, op := 3, count := 1 } : CipReq).slot 3 < up.cips.length) ∧
    ((up.cip (up.cipRoute ({ zeroReq 3 1 with src := 22, op := 3, count := 1 } : CipReq).slot 3)).queue.length < 1024) ∧
    ((up.cip (up.cipRoute ({ zeroReq 3 1 with src := 22, op := 3, count := 1 } : CipReq).slot 3)).held = []) ∧
    holds (exec (.cipXtsZero ({ zeroReq 3 1 with src := 22, op := 3, count := 1 } : CipReq)) up) (fun t => decide (((t.cip (up.cipRoute ({ zeroReq 3 1 with src := 22, op := 3, count := 1 } : CipReq).slot 3)).queue = (up.cip (up.cipRoute ({ zeroReq 3 1 with src := 22, op := 3, count := 1 } : CipReq).slot 3)).queue ++ [⟨{ ({ zeroReq 3 1 with src := 22, op := 3, count := 1 } : CipReq) with op := 3 }, false, up.cipRefusal { ({ zeroReq 3 1 with src := 22, op := 3, count := 1 } : CipReq) with op := 3 }⟩]))) = true := by decide +kernel

theorem witness_cipherRequests_cipGcmSeal :
    (up.cipRoute ({ zeroReq 3 1 with src := 22, op := 4, count := 1 } : CipReq).slot 4 < up.cips.length) ∧
    ((up.cip (up.cipRoute ({ zeroReq 3 1 with src := 22, op := 4, count := 1 } : CipReq).slot 4)).queue.length < 1024) ∧
    ((up.cip (up.cipRoute ({ zeroReq 3 1 with src := 22, op := 4, count := 1 } : CipReq).slot 4)).held = []) ∧
    holds (exec (.cipGcmSeal ({ zeroReq 3 1 with src := 22, op := 4, count := 1 } : CipReq)) up) (fun t => decide (((t.cip (up.cipRoute ({ zeroReq 3 1 with src := 22, op := 4, count := 1 } : CipReq).slot 4)).queue = (up.cip (up.cipRoute ({ zeroReq 3 1 with src := 22, op := 4, count := 1 } : CipReq).slot 4)).queue ++ [⟨{ ({ zeroReq 3 1 with src := 22, op := 4, count := 1 } : CipReq) with op := 4 }, false, up.cipRefusal { ({ zeroReq 3 1 with src := 22, op := 4, count := 1 } : CipReq) with op := 4 }⟩]))) = true := by decide +kernel

theorem witness_cipherRequests_cipGcmOpen :
    (up.cipRoute ({ zeroReq 3 1 with src := 22, op := 5, count := 1 } : CipReq).slot 5 < up.cips.length) ∧
    ((up.cip (up.cipRoute ({ zeroReq 3 1 with src := 22, op := 5, count := 1 } : CipReq).slot 5)).queue.length < 1024) ∧
    ((up.cip (up.cipRoute ({ zeroReq 3 1 with src := 22, op := 5, count := 1 } : CipReq).slot 5)).held = []) ∧
    holds (exec (.cipGcmOpen ({ zeroReq 3 1 with src := 22, op := 5, count := 1 } : CipReq)) up) (fun t => decide (((t.cip (up.cipRoute ({ zeroReq 3 1 with src := 22, op := 5, count := 1 } : CipReq).slot 5)).queue = (up.cip (up.cipRoute ({ zeroReq 3 1 with src := 22, op := 5, count := 1 } : CipReq).slot 5)).queue ++ [⟨{ ({ zeroReq 3 1 with src := 22, op := 5, count := 1 } : CipReq) with op := 5 }, false, up.cipRefusal { ({ zeroReq 3 1 with src := 22, op := 5, count := 1 } : CipReq) with op := 5 }⟩]))) = true := by decide +kernel

theorem witness_cipherRequests_cipCtr :
    (up.cipRoute ({ zeroReq 3 1 with src := 22, op := 6, count := 1 } : CipReq).slot 6 < up.cips.length) ∧
    ((up.cip (up.cipRoute ({ zeroReq 3 1 with src := 22, op := 6, count := 1 } : CipReq).slot 6)).queue.length < 1024) ∧
    ((up.cip (up.cipRoute ({ zeroReq 3 1 with src := 22, op := 6, count := 1 } : CipReq).slot 6)).held = []) ∧
    holds (exec (.cipCtr ({ zeroReq 3 1 with src := 22, op := 6, count := 1 } : CipReq)) up) (fun t => decide (((t.cip (up.cipRoute ({ zeroReq 3 1 with src := 22, op := 6, count := 1 } : CipReq).slot 6)).queue = (up.cip (up.cipRoute ({ zeroReq 3 1 with src := 22, op := 6, count := 1 } : CipReq).slot 6)).queue ++ [⟨{ ({ zeroReq 3 1 with src := 22, op := 6, count := 1 } : CipReq) with op := 6 }, false, up.cipRefusal { ({ zeroReq 3 1 with src := 22, op := 6, count := 1 } : CipReq) with op := 6 }⟩]))) = true := by decide +kernel

theorem witness_cipherRequests_cipKeyZero :
    (({ up with keyTab := [⟨3, 1, 1, 5⟩] }).cipRefusal { (zeroReq 3 1 : CipReq) with op := 7 } = none) ∧
    (({ up with keyTab := [⟨3, 1, 1, 5⟩] }).cips.length = 8) ∧
    ((List.range 8).all (fun (i : Nat) => (({ up with keyTab := [⟨3, 1, 1, 5⟩] }).cip i).held.isEmpty && decide ((({ up with keyTab := [⟨3, 1, 1, 5⟩] }).cip i).queue.length < 1024)) = true) ∧
    holds (exec (.cipKeyZero (zeroReq 3 1 : CipReq)) ({ up with keyTab := [⟨3, 1, 1, 5⟩] })) (fun t => decide ((t.keyTab = ({ up with keyTab := [⟨3, 1, 1, 5⟩] }).keyTab.filter (fun (z : KeyEntry) => !(z.slot == (zeroReq 3 1 : CipReq).slot && z.kgen == (zeroReq 3 1 : CipReq).kgen))) ∧ ((List.range 8).all (fun (i : Nat) => (t.cip i).queue == (({ up with keyTab := [⟨3, 1, 1, 5⟩] }).cip i).queue ++ [⟨{ (zeroReq 3 1 : CipReq) with op := 7 }, false, none⟩]) = true))) = true := by decide +kernel

theorem witness_cipherRequests_cipResult :
    (({ up with cips := up.cips.modify 2 fun (x : CipRole) => { x with queue := [⟨{ zeroReq 3 1 with op := 1 }, false, some 2⟩] } }).cipNext (2 : Nat) = some (0, (⟨{ zeroReq 3 1 with op := 1 }, false, some 2⟩ : CipWait))) ∧
    ((⟨{ zeroReq 3 1 with op := 1 }, false, some 2⟩ : CipWait).failed = some 2) ∧
    ((({ up with cips := up.cips.modify 2 fun (x : CipRole) => { x with queue := [⟨{ zeroReq 3 1 with op := 1 }, false, some 2⟩] } }).cip (2 : Nat)).held = []) ∧
    holds (exec (.cipResult (2 : Nat) (⟨true, true, 0, 0⟩ : CipFound) (true : Bool)) ({ up with cips := up.cips.modify 2 fun (x : CipRole) => { x with queue := [⟨{ zeroReq 3 1 with op := 1 }, false, some 2⟩] } })) (fun t => decide (((newOut ({ up with cips := up.cips.modify 2 fun (x : CipRole) => { x with queue := [⟨{ zeroReq 3 1 with op := 1 }, false, some 2⟩] } }) t).contains (.cipResponse (⟨{ zeroReq 3 1 with op := 1 }, false, some 2⟩ : CipWait).req.src (⟨{ zeroReq 3 1 with op := 1 }, false, some 2⟩ : CipWait).req.rtag 2 (2 : Nat) 0) = true) ∧ ((t.cip (2 : Nat)).queue = (({ up with cips := up.cips.modify 2 fun (x : CipRole) => { x with queue := [⟨{ zeroReq 3 1 with op := 1 }, false, some 2⟩] } }).cip (2 : Nat)).queue.eraseIdx 0))) = true := by decide +kernel

theorem witness_cipherRequests_cipResult2 :
    (({ up with cips := up.cips.modify 2 fun (x : CipRole) => { x with cache := [⟨16384, 1, 5, 0, 1, false⟩], queue := [⟨{ zeroReq 16384 1 with op := 6, len := 16 }, false, none⟩] } }).cipNext (2 : Nat) = some ((0 : Nat), (⟨{ zeroReq 16384 1 with op := 6, len := 16 }, false, none⟩ : CipWait))) ∧
    ((⟨{ zeroReq 16384 1 with op := 6, len := 16 }, false, none⟩ : CipWait).failed = none) ∧
    ((⟨{ zeroReq 16384 1 with op := 6, len := 16 }, false, none⟩ : CipWait).req.op ≠ 7) ∧
    ((({ up with cips := up.cips.modify 2 fun (x : CipRole) => { x with cache := [⟨16384, 1, 5, 0, 1, false⟩], queue := [⟨{ zeroReq 16384 1 with op := 6, len := 16 }, false, none⟩] } }).cip (2 : Nat)).key? (⟨{ zeroReq 16384 1 with op := 6, len := 16 }, false, none⟩ : CipWait).req.slot (⟨{ zeroReq 16384 1 with op := 6, len := 16 }, false, none⟩ : CipWait).req.kgen = some (⟨16384, 1, 5, 0, 1, false⟩ : KeyCache)) ∧
    ((⟨{ zeroReq 16384 1 with op := 6, len := 16 }, false, none⟩ : CipWait).req.op ≠ 4 ∨ ((⟨16384, 1, 5, 0, 1, false⟩ : KeyCache).ivLost = false ∧ ({ up with cips := up.cips.modify 2 fun (x : CipRole) => { x with cache := [⟨16384, 1, 5, 0, 1, false⟩], queue := [⟨{ zeroReq 16384 1 with op := 6, len := 16 }, false, none⟩] } }).pair.exchanged = false)) ∧
    ((⟨true, true, 0, 0⟩ : CipFound).srcOk = true) ∧
    ((⟨true, true, 0, 0⟩ : CipFound).checkOk = true) ∧
    ((cipWork (⟨16384, 1, 5, 0, 1, false⟩ : KeyCache).key (if (⟨{ zeroReq 16384 1 with op := 6, len := 16 }, false, none⟩ : CipWait).req.op = 4 then sealIv (2 : Nat) (⟨16384, 1, 5, 0, 1, false⟩ : KeyCache).counter else (⟨{ zeroReq 16384 1 with op := 6, len := 16 }, false, none⟩ : CipWait).req.iv) (⟨{ zeroReq 16384 1 with op := 6, len := 16 }, false, none⟩ : CipWait).req (⟨true, true, 0, 0⟩ : CipFound)).1 = 0) ∧
    ((cipWork (⟨16384, 1, 5, 0, 1, false⟩ : KeyCache).key (if (⟨{ zeroReq 16384 1 with op := 6, len := 16 }, false, none⟩ : CipWait).req.op = 4 then sealIv (2 : Nat) (⟨16384, 1, 5, 0, 1, false⟩ : KeyCache).counter else (⟨{ zeroReq 16384 1 with op := 6, len := 16 }, false, none⟩ : CipWait).req.iv) (⟨{ zeroReq 16384 1 with op := 6, len := 16 }, false, none⟩ : CipWait).req (⟨true, true, 0, 0⟩ : CipFound)).2.1 = true) ∧
    ((({ up with cips := up.cips.modify 2 fun (x : CipRole) => { x with cache := [⟨16384, 1, 5, 0, 1, false⟩], queue := [⟨{ zeroReq 16384 1 with op := 6, len := 16 }, false, none⟩] } }).cip (2 : Nat)).held = []) ∧
    holds (exec (.cipResult (2 : Nat) (⟨true, true, 0, 0⟩ : CipFound) (true : Bool)) ({ up with cips := up.cips.modify 2 fun (x : CipRole) => { x with cache := [⟨16384, 1, 5, 0, 1, false⟩], queue := [⟨{ zeroReq 16384 1 with op := 6, len := 16 }, false, none⟩] } })) (fun t => decide (((newOut ({ up with cips := up.cips.modify 2 fun (x : CipRole) => { x with cache := [⟨16384, 1, 5, 0, 1, false⟩], queue := [⟨{ zeroReq 16384 1 with op := 6, len := 16 }, false, none⟩] } }) t).contains (.cipResponse (⟨{ zeroReq 16384 1 with op := 6, len := 16 }, false, none⟩ : CipWait).req.src (⟨{ zeroReq 16384 1 with op := 6, len := 16 }, false, none⟩ : CipWait).req.rtag 0 (2 : Nat) (if (⟨{ zeroReq 16384 1 with op := 6, len := 16 }, false, none⟩ : CipWait).req.op = 4 then sealIv (2 : Nat) (⟨16384, 1, 5, 0, 1, false⟩ : KeyCache).counter else 0)) = true) ∧ ((cipWork (⟨16384, 1, 5, 0, 1, false⟩ : KeyCache).key (if (⟨{ zeroReq 16384 1 with op := 6, len := 16 }, false, none⟩ : CipWait).req.op = 4 then sealIv (2 : Nat) (⟨16384, 1, 5, 0, 1, false⟩ : KeyCache).counter else (⟨{ zeroReq 16384 1 with op := 6, len := 16 }, false, none⟩ : CipWait).req.iv) (⟨{ zeroReq 16384 1 with op := 6, len := 16 }, false, none⟩ : CipWait).req (⟨true, true, 0, 0⟩ : CipFound)).2.2.all (fun (p : Nat × Nat × Nat) => (newOut ({ up with cips := up.cips.modify 2 fun (x : CipRole) => { x with cache := [⟨16384, 1, 5, 0, 1, false⟩], queue := [⟨{ zeroReq 16384 1 with op := 6, len := 16 }, false, none⟩] } }) t).contains (.cipData p.1 p.2.1 p.2.2)) = true) ∧ ((t.cip (2 : Nat)).queue = (({ up with cips := up.cips.modify 2 fun (x : CipRole) => { x with cache := [⟨16384, 1, 5, 0, 1, false⟩], queue := [⟨{ zeroReq 16384 1 with op := 6, len := 16 }, false, none⟩] } }).cip (2 : Nat)).queue.eraseIdx (0 : Nat)))) = true := by decide +kernel

theorem witness_cipherRequests_keyLoadDone :
    (((({ up.wr (F.MEM_CHSTAT_TRAINED 0) 1 with keyTab := [⟨3, 1, 1, 5⟩], cips := up.cips.modify 2 fun (x : CipRole) => { x with loads := [(3, false, false)] } }).cip (2 : Nat)).loads.find? fun (l : Nat × Bool × Bool) => l.1 == (3 : Nat)) = some ((3 : Nat), false, false)) ∧
    ((({ up.wr (F.MEM_CHSTAT_TRAINED 0) 1 with keyTab := [⟨3, 1, 1, 5⟩], cips := up.cips.modify 2 fun (x : CipRole) => { x with loads := [(3, false, false)] } }).keyTab.find? fun (z : KeyEntry) => z.slot == (3 : Nat)) = some (⟨3, 1, 1, 5⟩ : KeyEntry)) ∧
    ((true : Bool) = true) ∧
    (({ up.wr (F.MEM_CHSTAT_TRAINED 0) 1 with keyTab := [⟨3, 1, 1, 5⟩], cips := up.cips.modify 2 fun (x : CipRole) => { x with loads := [(3, false, false)] } }).keyAtHand (3 : Nat) = true) ∧
    (({ up.wr (F.MEM_CHSTAT_TRAINED 0) 1 with keyTab := [⟨3, 1, 1, 5⟩], cips := up.cips.modify 2 fun (x : CipRole) => { x with loads := [(3, false, false)] } }).tru.blocked = false) ∧
    ((({ up.wr (F.MEM_CHSTAT_TRAINED 0) 1 with keyTab := [⟨3, 1, 1, 5⟩], cips := up.cips.modify 2 fun (x : CipRole) => { x with loads := [(3, false, false)] } }).cip (2 : Nat)).queue = []) ∧
    holds (exec (.keyLoadDone (2 : Nat) (3 : Nat) (true : Bool)) ({ up.wr (F.MEM_CHSTAT_TRAINED 0) 1 with keyTab := [⟨3, 1, 1, 5⟩], cips := up.cips.modify 2 fun (x : CipRole) => { x with loads := [(3, false, false)] } })) (fun t => decide ((((t.cip (2 : Nat)).key? (3 : Nat) (⟨3, 1, 1, 5⟩ : KeyEntry).kgen).isSome = true) ∧ ((t.cip (2 : Nat)).loads.any (fun (l : Nat × Bool × Bool) => l.1 == (3 : Nat)) = false))) = true := by decide +kernel

theorem witness_macsAndLinks_macLinkUp :
    (((ethUp 1).wr (F.PRT_STAT_LINK 8) 0).hasMac (0 : Nat) = true) ∧
    (((ethUp 1).wr (F.PRT_STAT_LINK 8) 0).linkUp (0 : Nat) = false) ∧
    holds (exec (.macLinkUp (0 : Nat) true (false : Bool)) ((ethUp 1).wr (F.PRT_STAT_LINK 8) 0)) (fun t => decide ((t.linkUp (0 : Nat) = true))) = true := by decide +kernel

theorem witness_macsAndLinks_macLinkDown :
    (({ ethUp 1 with swq := [queued] }).linkUp (0 : Nat) = true) ∧
    holds (exec (.macLinkDown (0 : Nat) (1 : Nat)) ({ ethUp 1 with swq := [queued] })) (fun t => decide ((t.linkUp (0 : Nat) = false) ∧ (t.stat (0 : Nat) 13 = (({ ethUp 1 with swq := [queued] }).stat (0 : Nat) 13 + 1) % 2 ^ 64) ∧ (t.swq = ({ ethUp 1 with swq := [queued] }).swq.filter (fun (f : SwFrame) => f.output != (0 : Nat))))) = true := by decide +kernel

theorem witness_macsAndLinks_pauseFrame :
    (((ethUp 1).wr (F.PRT_MACCFG_FC_MODE 8 0) 1).linkUp (0 : Nat) = true) ∧
    (((ethUp 1).wr (F.PRT_MACCFG_FC_MODE 8 0) 1).fcMode (0 : Nat) = 1) ∧
    ((0 : Nat) < ((ethUp 1).wr (F.PRT_MACCFG_FC_MODE 8 0) 1).macs.length) ∧
    ((((ethUp 1).wr (F.PRT_MACCFG_FC_MODE 8 0) 1).mac (0 : Nat)).ignore = []) ∧
    ((100 : Nat) % 65536 ≠ 0) ∧
    holds (exec (.pauseFrame (0 : Nat) (100 : Nat)) ((ethUp 1).wr (F.PRT_MACCFG_FC_MODE 8 0) 1)) (fun t => decide (((t.mac (0 : Nat)).stops.any (fun (p : PauseStop) => p.cls == 8 && p.until_ == ((ethUp 1).wr (F.PRT_MACCFG_FC_MODE 8 0) 1).now + ((ethUp 1).wr (F.PRT_MACCFG_FC_MODE 8 0) 1).quantaTime (0 : Nat) ((100 : Nat) % 65536)) = true) ∧ (t.stat (0 : Nat) 6 = (((ethUp 1).wr (F.PRT_MACCFG_FC_MODE 8 0) 1).stat (0 : Nat) 6 + 1) % 2 ^ 64))) = true := by decide +kernel

theorem witness_macsAndLinks_pfcFrame :
    (([(3, 100)] : List (Nat × Nat)) = [(3, 100)]) ∧
    ((((ethUp 1).wr (F.PRT_MACCFG_FC_MODE 8 0) 2).wr (F.PRT_MACCFG_PFC_EN 8 0) 8).linkUp (0 : Nat) = true) ∧
    ((((ethUp 1).wr (F.PRT_MACCFG_FC_MODE 8 0) 2).wr (F.PRT_MACCFG_PFC_EN 8 0) 8).fcMode (0 : Nat) = 2) ∧
    (3 < 8) ∧
    (hasBit ((((ethUp 1).wr (F.PRT_MACCFG_FC_MODE 8 0) 2).wr (F.PRT_MACCFG_PFC_EN 8 0) 8).rd (F.PRT_MACCFG_PFC_EN (prtOf (0 : Nat)) (subOf (0 : Nat)))) 3 = true) ∧
    ((0 : Nat) < (((ethUp 1).wr (F.PRT_MACCFG_FC_MODE 8 0) 2).wr (F.PRT_MACCFG_PFC_EN 8 0) 8).macs.length) ∧
    (((((ethUp 1).wr (F.PRT_MACCFG_FC_MODE 8 0) 2).wr (F.PRT_MACCFG_PFC_EN 8 0) 8).mac (0 : Nat)).ignore = []) ∧
    (100 % 65536 ≠ 0) ∧
    holds (exec (.pfcFrame (0 : Nat) ([(3, 100)] : List (Nat × Nat))) (((ethUp 1).wr (F.PRT_MACCFG_FC_MODE 8 0) 2).wr (F.PRT_MACCFG_PFC_EN 8 0) 8)) (fun t => decide (((t.mac (0 : Nat)).stops.any (fun (p : PauseStop) => p.cls == 3 && p.until_ == (((ethUp 1).wr (F.PRT_MACCFG_FC_MODE 8 0) 2).wr (F.PRT_MACCFG_PFC_EN 8 0) 8).now + (((ethUp 1).wr (F.PRT_MACCFG_FC_MODE 8 0) 2).wr (F.PRT_MACCFG_PFC_EN 8 0) 8).quantaTime (0 : Nat) (100 % 65536)) = true))) = true := by decide +kernel

theorem witness_macsAndLinks_pauseTimeExpiry :
    holds (exec (.pauseTimeExpiry (0 : Nat) (8 : Nat)) (macUp fun (x : Mac) => { x with stops := [⟨8, 0, 5⟩] })) (fun t => decide (((t.mac (0 : Nat)).stops = ((macUp fun (x : Mac) => { x with stops := [⟨8, 0, 5⟩] }).mac (0 : Nat)).stops.filter (fun (p : PauseStop) => !(p.cls == (8 : Nat) && (macUp fun (x : Mac) => { x with stops := [⟨8, 0, 5⟩] }).due p.until_))))) = true := by decide +kernel

theorem witness_macsAndLinks_pfcWatchdogDetect :
    (((macUp fun (x : Mac) => { x with stops := [⟨3, 0, secU 2000⟩] }).wr (F.PRT_PFC_WD_WD_EN 8) 1).stuck (0 : Nat) (3 : Nat) = true) ∧
    holds (exec (.pfcWatchdogDetect (0 : Nat) (3 : Nat) (0 : Nat)) ((macUp fun (x : Mac) => { x with stops := [⟨3, 0, secU 2000⟩] }).wr (F.PRT_PFC_WD_WD_EN 8) 1)) (fun t => decide (((t.mac (0 : Nat)).ignore.head? = some ((3 : Nat), ((macUp fun (x : Mac) => { x with stops := [⟨3, 0, secU 2000⟩] }).wr (F.PRT_PFC_WD_WD_EN 8) 1).now + msU (((macUp fun (x : Mac) => { x with stops := [⟨3, 0, secU 2000⟩] }).wr (F.PRT_PFC_WD_WD_EN 8) 1).rd (F.PRT_PFC_WD_WD_RESTORE_MS (prtOf (0 : Nat)))))) ∧ ((t.mac (0 : Nat)).stops.any (fun (p : PauseStop) => p.cls == (3 : Nat)) = false))) = true := by decide +kernel

theorem witness_macsAndLinks_pfcWatchdogRestore :
    (((macUp fun (x : Mac) => { x with ignore := [(3, 5)] }).mac (0 : Nat)).ignore.any (fun (p : Nat × Nat) => p.1 == (3 : Nat) && (macUp fun (x : Mac) => { x with ignore := [(3, 5)] }).due p.2) = true) ∧
    holds (exec (.pfcWatchdogRestore (0 : Nat) (3 : Nat)) (macUp fun (x : Mac) => { x with ignore := [(3, 5)] })) (fun t => decide (((t.mac (0 : Nat)).ignore.any (fun (p : Nat × Nat) => p.1 == (3 : Nat)) = false))) = true := by decide +kernel

theorem witness_macsAndLinks_pauseRepeatTimer :
    ((macUp fun (x : Mac) => { x with asks := [⟨8, 0, 0, false⟩] }).linkUp (0 : Nat) = true) ∧
    (((macUp fun (x : Mac) => { x with asks := [⟨8, 0, 0, false⟩] }).mac (0 : Nat)).asks.any (fun (z : PauseAsk) => z.cls == (8 : Nat) && !z.capped && (macUp fun (x : Mac) => { x with asks := [⟨8, 0, 0, false⟩] }).due (z.sentAt + (macUp fun (x : Mac) => { x with asks := [⟨8, 0, 0, false⟩] }).quantaTime (0 : Nat) ((macUp fun (x : Mac) => { x with asks := [⟨8, 0, 0, false⟩] }).txQuanta (0 : Nat)) / 2)) = true) ∧
    holds (exec (.pauseRepeatTimer (0 : Nat) (8 : Nat)) (macUp fun (x : Mac) => { x with asks := [⟨8, 0, 0, false⟩] })) (fun t => decide (((newOut (macUp fun (x : Mac) => { x with asks := [⟨8, 0, 0, false⟩] }) t).contains (.pause (0 : Nat) (8 : Nat) ((macUp fun (x : Mac) => { x with asks := [⟨8, 0, 0, false⟩] }).txQuanta (0 : Nat))) = true) ∧ ((t.mac (0 : Nat)).asks.any (fun (z : PauseAsk) => z.cls == (8 : Nat) && z.sentAt == (macUp fun (x : Mac) => { x with asks := [⟨8, 0, 0, false⟩] }).now) = true))) = true := by decide +kernel

theorem witness_macsAndLinks_pauseSendCap :
    (((macUp fun (x : Mac) => { x with asks := [⟨8, 0, 0, false⟩] }).mac (0 : Nat)).asks.any (fun (z : PauseAsk) => z.cls == (8 : Nat) && !z.capped && (macUp fun (x : Mac) => { x with asks := [⟨8, 0, 0, false⟩] }).due (z.since + msU ((macUp fun (x : Mac) => { x with asks := [⟨8, 0, 0, false⟩] }).rd (F.PRT_FCTX_TX_MAX_MS (prtOf (0 : Nat)) (subOf (0 : Nat)))))) = true) ∧
    holds (exec (.pauseSendCap (0 : Nat) (8 : Nat)) (macUp fun (x : Mac) => { x with asks := [⟨8, 0, 0, false⟩] })) (fun t => decide (((t.mac (0 : Nat)).asks.all (fun (z : PauseAsk) => z.cls != (8 : Nat) || z.capped) = true))) = true := by decide +kernel

theorem witness_macsAndLinks_lldpEeeTlv :
    ((ethUp 4).linkUp (0 : Nat) = true) ∧
    holds (exec (.lldpEeeTlv (0 : Nat) (30 : Nat)) (ethUp 4)) (fun _ => true) = true := by decide +kernel

theorem witness_macsAndLinks_lpiIdleExpiry :
    ((((ethUp 4).wr (F.PRT_LPI_LPI_EN 8) 1).wr (F.PRT_STAT_EEE_AN 8) 1).linkUp (0 : Nat) = true) ∧
    ((((ethUp 4).wr (F.PRT_LPI_LPI_EN 8) 1).wr (F.PRT_STAT_EEE_AN 8) 1).modeOf (0 : Nat) = 4) ∧
    ((((ethUp 4).wr (F.PRT_LPI_LPI_EN 8) 1).wr (F.PRT_STAT_EEE_AN 8) 1).isSet (F.PRT_LPI_LPI_EN (prtOf (0 : Nat))) = true) ∧
    ((((ethUp 4).wr (F.PRT_LPI_LPI_EN 8) 1).wr (F.PRT_STAT_EEE_AN 8) 1).isSet (F.PRT_STAT_EEE_AN (prtOf (0 : Nat))) = true) ∧
    ((((ethUp 4).wr (F.PRT_LPI_LPI_EN 8) 1).wr (F.PRT_STAT_EEE_AN 8) 1).swq.any (fun (f : SwFrame) => f.output == (0 : Nat)) = false) ∧
    (((((ethUp 4).wr (F.PRT_LPI_LPI_EN 8) 1).wr (F.PRT_STAT_EEE_AN 8) 1).mac (0 : Nat)).lpi = none) ∧
    ((0 : Nat) < (((ethUp 4).wr (F.PRT_LPI_LPI_EN 8) 1).wr (F.PRT_STAT_EEE_AN 8) 1).macs.length) ∧
    ((((ethUp 4).wr (F.PRT_LPI_LPI_EN 8) 1).wr (F.PRT_STAT_EEE_AN 8) 1).due (((((ethUp 4).wr (F.PRT_LPI_LPI_EN 8) 1).wr (F.PRT_STAT_EEE_AN 8) 1).mac (0 : Nat)).idleSince + usU ((((ethUp 4).wr (F.PRT_LPI_LPI_EN 8) 1).wr (F.PRT_STAT_EEE_AN 8) 1).rd (F.PRT_LPI_LPI_IDLE_US (prtOf (0 : Nat))))) = true) ∧
    holds (exec (.lpiIdleExpiry (0 : Nat)) (((ethUp 4).wr (F.PRT_LPI_LPI_EN 8) 1).wr (F.PRT_STAT_EEE_AN 8) 1)) (fun t => decide (((t.mac (0 : Nat)).lpi = some (((ethUp 4).wr (F.PRT_LPI_LPI_EN 8) 1).wr (F.PRT_STAT_EEE_AN 8) 1).now) ∧ (t.isSet (F.PRT_STAT_LPI_TX (prtOf (0 : Nat))) = true))) = true := by decide +kernel

theorem witness_macsAndLinks_prtStatRead :
    ((0 : Nat) < 8) ∧
    ((0 : Nat) < 4) ∧
    ((1 : Nat) < 16) ∧
    (({ ethUp 1 with prtStat := [(1, 77)] }).reloading (8 + (0 : Nat)) = false) ∧
    (({ ethUp 1 with prtStat := [(1, 77)] }).hasMac (4 * (0 : Nat) + (0 : Nat)) = true) ∧
    ((({ ethUp 1 with prtStat := [(1, 77)] }).mac (4 * (0 : Nat) + (0 : Nat))).lpi = none) ∧
    holds (exec (.prtStatRead (0 : Nat) (0 : Nat) (0 : Nat) (1 : Nat) false) ({ ethUp 1 with prtStat := [(1, 77)] })) (fun t => decide (((newOut ({ ethUp 1 with prtStat := [(1, 77)] }) t).contains (.value (({ ethUp 1 with prtStat := [(1, 77)] }).stat (4 * (0 : Nat) + (0 : Nat)) (1 : Nat) % 2 ^ 32)) = true) ∧ (t.stat (4 * (0 : Nat) + (0 : Nat)) (1 : Nat) = 0))) = true := by decide +kernel

theorem witness_switchFrames_ethFrameReceive :
    ((ethUp 1).hasMac (0 : Nat) = true) ∧
    ((ethUp 1).linkUp (0 : Nat) = true) ∧
    ((ethUp 1).rxCheck (0 : Nat) (lldp : EthFrame) = none) ∧
    holds (exec (.ethFrameReceive (0 : Nat) (lldp : EthFrame)) (ethUp 1)) (fun t => decide ((t.stat (0 : Nat) 0 = ((ethUp 1).stat (0 : Nat) 0 + (lldp : EthFrame).len) % 2 ^ 64) ∧ (t.stat (0 : Nat) 1 = ((ethUp 1).stat (0 : Nat) 1 + 1) % 2 ^ 64))) = true := by decide +kernel

theorem witness_switchFrames_ethFrameTransmit :
    (({ ethUp 1 with swq := [queued] }).linkUp (0 : Nat) = true) ∧
    (({ ethUp 1 with swq := [queued] }).stopped (0 : Nat) (0 : Nat) = false) ∧
    ((({ ethUp 1 with swq := [queued] }).mac (0 : Nat)).wake ≤ ({ ethUp 1 with swq := [queued] }).now) ∧
    ((({ ethUp 1 with swq := [queued] }).swq.find? fun (z : SwFrame) => z.output == (0 : Nat) && z.cls == (0 : Nat)) = some (queued : SwFrame)) ∧
    holds (exec (.ethFrameTransmit (0 : Nat) (0 : Nat) none) ({ ethUp 1 with swq := [queued] })) (fun t => decide ((t.swq = ({ ethUp 1 with swq := [queued] }).swq.erase (queued : SwFrame)) ∧ ((newOut ({ ethUp 1 with swq := [queued] }) t).contains (.frame (0 : Nat) (queued : SwFrame).cls (max 64 (queued : SwFrame).len) (queued : SwFrame).dst (queued : SwFrame).vid (queued : SwFrame).ce) = true) ∧ (t.stat (0 : Nat) 8 = (({ ethUp 1 with swq := [queued] }).stat (0 : Nat) 8 + 1) % 2 ^ 64))) = true := by decide +kernel

theorem witness_switchFrames_haulForwardFrame :
    ((some 0 : Option Nat) = some (0 : Nat)) ∧
    (((ethUp 1).wr F.HAL_PAIR_STAT_H0_UP 1).haulUp = true) ∧
    (((ethUp 1).wr F.HAL_PAIR_STAT_H0_UP 1).linkUp (0 : Nat) = true) ∧
    ((lldp : EthFrame).tag = none) ∧
    ((((ethUp 1).wr F.HAL_PAIR_STAT_H0_UP 1).dispatchFrame (.port (0 : Nat)) 36 (0 : Nat) 0 (32 + (3 : Nat)) 0 false none (lldp : EthFrame)).1 = .out (0 : Nat) (false : Bool)) ∧
    holds (exec (.haulForwardFrame (3 : Nat) (0 : Nat) (some 0 : Option Nat) (lldp : EthFrame)) ((ethUp 1).wr F.HAL_PAIR_STAT_H0_UP 1)) (fun t => decide ((t.swq.getLast?.any (fun (z : SwFrame) => z.output == (0 : Nat) && z.cls == (0 : Nat) && z.len == (lldp : EthFrame).len && z.ce == (false : Bool)) = true) ∧ (t.swq.length = ((ethUp 1).wr F.HAL_PAIR_STAT_H0_UP 1).swq.length + 1))) = true := by decide +kernel

theorem witness_endpointRegisters_epLinkUp :
    ((epUp.wr F.EPT_STAT_LINK_UP 0).isSet F.EPT_CFG_EN = true) ∧
    ((epUp.wr F.EPT_STAT_LINK_UP 0).isSet F.EPT_STAT_LINK_UP = false) ∧
    holds (exec (.epLinkUp (4 : Nat) (16 : Nat)) (epUp.wr F.EPT_STAT_LINK_UP 0)) (fun t => decide ((t.isSet F.EPT_STAT_LINK_UP = true) ∧ (t.isSet F.EPT_STAT_FROZEN = false) ∧ ((t.ctrl? ((epUp.wr F.EPT_STAT_LINK_UP 0).epIdx 0)).isSome = true))) = true := by decide +kernel

theorem witness_endpointRegisters_epLinkReset :
    (epUp.isSet F.EPT_CFG_EN = true) ∧
    (epUp.isSet F.EPT_STAT_LINK_UP = true) ∧
    holds (exec (.epLinkReset (0 : Nat)) epUp) (fun t => decide ((t.isSet F.EPT_STAT_LINK_UP = false) ∧ (t.isSet F.EPT_STAT_FROZEN = true) ∧ (t.epReads = []) ∧ (t.rd F.EPT_STAT_NUM_VF = 0))) = true := by decide +kernel

theorem witness_endpointRegisters_epFlr :
    (epUp.epExists (0 : Nat) = true) ∧
    (epUp.isSet F.EPT_STAT_LINK_UP = true) ∧
    holds (exec (.epFlr (0 : Nat)) epUp) (fun t => decide ((t.epf (0 : Nat) = { EpFunc.cold with aer := (epUp.epf (0 : Nat)).aer }))) = true := by decide +kernel

theorem witness_endpointRegisters_epVfEnable :
    (epUp.epExists 0 = true) ∧
    (epUp.isSet F.EPT_STAT_LINK_UP = true) ∧
    holds (exec (.epVfEnable (2 : Nat)) epUp) (fun t => decide ((t.rd F.EPT_STAT_NUM_VF = min (2 : Nat) (epUp.rd F.EPT_CFG_TOTAL_VF)))) = true := by decide +kernel

theorem witness_endpointRegisters_epCcEnable :
    (({ epUp with ctrls := [{ epCtrl with cc := 0, csts := 0, queues := [] }] }).epExists (0 : Nat) = true) ∧
    ((({ epUp with ctrls := [{ epCtrl with cc := 0, csts := 0, queues := [] }] }).epf (0 : Nat)).d3 = false) ∧
    (({ epUp with ctrls := [{ epCtrl with cc := 0, csts := 0, queues := [] }] }).isSet F.EPT_STAT_LINK_UP = true) ∧
    (hasBit (0x460001 : Nat) 0 = true) ∧
    (({ epUp with ctrls := [{ epCtrl with cc := 0, csts := 0, queues := [] }] }).ctrl? (({ epUp with ctrls := [{ epCtrl with cc := 0, csts := 0, queues := [] }] }).epIdx (0 : Nat)) = some ({ epCtrl with cc := 0, csts := 0, queues := [] } : Ctrl)) ∧
    (({ epCtrl with cc := 0, csts := 0, queues := [] } : Ctrl).func.isSome = true) ∧
    (({ epCtrl with cc := 0, csts := 0, queues := [] } : Ctrl).cc = 0) ∧
    (({ epCtrl with cc := 0, csts := 0, queues := [] } : Ctrl).csts = 0) ∧
    (bits (0x460001 : Nat) 10 7 = 0) ∧
    (bits (0x460001 : Nat) 13 11 = 0) ∧
    (bits (0x460001 : Nat) 19 16 = 6) ∧
    (bits (0x460001 : Nat) 23 20 = 4) ∧
    (2 ≤ bits (0x1F001F : Nat) 11 0 + 1) ∧
    (bits (0x1F001F : Nat) 11 0 + 1 ≤ 32) ∧
    (2 ≤ bits (0x1F001F : Nat) 27 16 + 1) ∧
    (bits (0x1F001F : Nat) 27 16 + 1 ≤ 32) ∧
    (({ epUp with ctrls := [{ epCtrl with cc := 0, csts := 0, queues := [] }] }).cmds = []) ∧
    holds (exec (.epCcEnable (0 : Nat) (0x460001 : Nat) (0x1F001F : Nat)) ({ epUp with ctrls := [{ epCtrl with cc := 0, csts := 0, queues := [] }] })) (fun t => decide (((t.ctrl? (({ epUp with ctrls := [{ epCtrl with cc := 0, csts := 0, queues := [] }] }).epIdx (0 : Nat))).any (fun (z : Ctrl) => z.cc == (0x460001 : Nat) && hasBit z.csts 0 && z.queues.map (fun (q : Queue) => (q.qid, q.isCq, q.size)) == [(0, false, bits (0x1F001F : Nat) 11 0 + 1), (0, true, bits (0x1F001F : Nat) 27 16 + 1)]) = true))) = true := by decide +kernel

theorem witness_endpointRegisters_epCcEnClear :
    (epUp.epExists (0 : Nat) = true) ∧
    ((epUp.epf (0 : Nat)).d3 = false) ∧
    (epUp.ctrl? (epUp.epIdx (0 : Nat)) = some (epCtrl : Ctrl)) ∧
    ((epCtrl : Ctrl).func.isSome = true) ∧
    (hasBit (epCtrl : Ctrl).cc 0 = true) ∧
    holds (exec (.epCcEnClear (0 : Nat)) epUp) (fun t => decide (((t.ctrl? (epUp.epIdx (0 : Nat))).any (fun (z : Ctrl) => z.cc == 0 && z.csts == 0 && z.queues == (epCtrl : Ctrl).queues.filter (fun (q : Queue) => q.qid == 0)) = true))) = true := by decide +kernel

theorem witness_endpointRegisters_epCcShnWrite :
    (epUp.epExists (0 : Nat) = true) ∧
    ((epUp.epf (0 : Nat)).d3 = false) ∧
    ((epUp.ctrl? (epUp.epIdx (0 : Nat))).isSome = true) ∧
    holds (exec (.epCcShnWrite (0 : Nat) 1) epUp) (fun t => decide (((t.ctrl? (epUp.epIdx (0 : Nat))).any (fun (z : Ctrl) => z.shutdown && bits z.csts 3 2 == 1 && bits z.cc 15 14 == 1) = true))) = true := by decide +kernel

theorem witness_endpointRegisters_epNssrWrite :
    ((epUp.wr F.CMD_CFG_NSSR_EN 1).epExists (0 : Nat) = true) ∧
    (((epUp.wr F.CMD_CFG_NSSR_EN 1).epf (0 : Nat)).d3 = false) ∧
    ((epUp.wr F.CMD_CFG_NSSR_EN 1).isSet F.CMD_CFG_NSSR_EN = true) ∧
    ((0x4E564D65 : Nat) % 2 ^ 32 = 0x4E564D65) ∧
    ((epUp.wr F.CMD_CFG_NSSR_EN 1).hasPriv ((epUp.wr F.CMD_CFG_NSSR_EN 1).epIdx (0 : Nat)) 1 = true) ∧
    holds (exec (.epNssrWrite (0 : Nat) (0x4E564D65 : Nat)) (epUp.wr F.CMD_CFG_NSSR_EN 1)) (fun t => decide ((t.nssro = true) ∧ (t.ctrls.all (fun (z : Ctrl) => hasBit z.csts 4) = true))) = true := by decide +kernel

theorem witness_endpointRegisters_epDoorbell :
    (epUp.epExists (0 : Nat) = true) ∧
    ((epUp.epf (0 : Nat)).d3 = false) ∧
    (epUp.isSet F.EPT_STAT_LINK_UP = true) ∧
    ((epUp.ctrl? (epUp.epIdx (0 : Nat))).bind (fun (z : Ctrl) => z.queues.find? fun (y : Queue) => y.qid == (1 : Nat) && y.isCq == false) = some (epQueue 1 false : Queue)) ∧
    ((3 : Nat) < (epQueue 1 false : Queue).size) ∧
    holds (exec (.epDoorbell (0 : Nat) (1 : Nat) false (3 : Nat)) epUp) (fun t => decide ((((t.ctrl? (epUp.epIdx (0 : Nat))).bind (fun (z : Ctrl) => z.queue? (1 : Nat))).any (fun (y : Queue) => y.tail == (3 : Nat)) = true))) = true := by decide +kernel

theorem witness_endpointRegisters_createIoCq :
    (epReady epUp { ({ epAdm 5 with cdw10 := 2 + 65536 * 31, cdw11 := 3 + 65536 * 2 } : NvmeCmd) with opc := 0x05 } = true) ∧
    ((epUp.epQueueOp { ({ epAdm 5 with cdw10 := 2 + 65536 * 31, cdw11 := 3 + 65536 * 2 } : NvmeCmd) with opc := 0x05 }).1 = St.ok) ∧
    holds (exec (.createIoCq ({ epAdm 5 with cdw10 := 2 + 65536 * 31, cdw11 := 3 + 65536 * 2 } : NvmeCmd)) epUp) (fun t => decide (((t.ctrl? ({ epAdm 5 with cdw10 := 2 + 65536 * 31, cdw11 := 3 + 65536 * 2 } : NvmeCmd).ctl).any (fun (z : Ctrl) => z.queues.any fun (y : Queue) => y.qid == bits ({ epAdm 5 with cdw10 := 2 + 65536 * 31, cdw11 := 3 + 65536 * 2 } : NvmeCmd).cdw10 15 0 && y.isCq && y.vector == bits ({ epAdm 5 with cdw10 := 2 + 65536 * 31, cdw11 := 3 + 65536 * 2 } : NvmeCmd).cdw11 31 16) = true) ∧ (t.cmds = epUp.cmds))) = true := by decide +kernel

theorem witness_endpointRegisters_createIoSq :
    (epReady epUp { ({ epAdm 1 with cdw10 := 2 + 65536 * 31, cdw11 := 1 + 65536 * 1 } : NvmeCmd) with opc := 0x01 } = true) ∧
    ((epUp.epQueueOp { ({ epAdm 1 with cdw10 := 2 + 65536 * 31, cdw11 := 1 + 65536 * 1 } : NvmeCmd) with opc := 0x01 }).1 = St.ok) ∧
    holds (exec (.createIoSq ({ epAdm 1 with cdw10 := 2 + 65536 * 31, cdw11 := 1 + 65536 * 1 } : NvmeCmd)) epUp) (fun t => decide (((t.ctrl? ({ epAdm 1 with cdw10 := 2 + 65536 * 31, cdw11 := 1 + 65536 * 1 } : NvmeCmd).ctl).any (fun (z : Ctrl) => z.queues.any fun (y : Queue) => y.qid == bits ({ epAdm 1 with cdw10 := 2 + 65536 * 31, cdw11 := 1 + 65536 * 1 } : NvmeCmd).cdw10 15 0 && !y.isCq && y.cqid == bits ({ epAdm 1 with cdw10 := 2 + 65536 * 31, cdw11 := 1 + 65536 * 1 } : NvmeCmd).cdw11 31 16) = true) ∧ (t.cmds = epUp.cmds))) = true := by decide +kernel

theorem witness_endpointRegisters_deleteIoSq :
    (epReady epUp { ({ epAdm 0 with cdw10 := 1 } : NvmeCmd) with opc := 0x00 } = true) ∧
    ((epUp.epQueueOp { ({ epAdm 0 with cdw10 := 1 } : NvmeCmd) with opc := 0x00 }).1 = St.ok) ∧
    holds (exec (.deleteIoSq ({ epAdm 0 with cdw10 := 1 } : NvmeCmd)) epUp) (fun t => decide (((t.ctrl? ({ epAdm 0 with cdw10 := 1 } : NvmeCmd).ctl).any (fun (z : Ctrl) => !z.queues.any fun (y : Queue) => y.qid == bits ({ epAdm 0 with cdw10 := 1 } : NvmeCmd).cdw10 15 0 && !y.isCq) = true))) = true := by decide +kernel

theorem witness_endpointRegisters_deleteIoCq :
    (epReady ({ epUp with ctrls := [{ epCtrl with queues := [epQueue 0 false, epQueue 0 true, epQueue 1 true] }] }) { ({ epAdm 4 with cdw10 := 1 } : NvmeCmd) with opc := 0x04 } = true) ∧
    ((({ epUp with ctrls := [{ epCtrl with queues := [epQueue 0 false, epQueue 0 true, epQueue 1 true] }] }).epQueueOp { ({ epAdm 4 with cdw10 := 1 } : NvmeCmd) with opc := 0x04 }).1 = St.ok) ∧
    holds (exec (.deleteIoCq ({ epAdm 4 with cdw10 := 1 } : NvmeCmd)) ({ epUp with ctrls := [{ epCtrl with queues := [epQueue 0 false, epQueue 0 true, epQueue 1 true] }] })) (fun t => decide (((t.ctrl? ({ epAdm 4 with cdw10 := 1 } : NvmeCmd).ctl).any (fun (z : Ctrl) => !z.queues.any fun (y : Queue) => y.qid == bits ({ epAdm 4 with cdw10 := 1 } : NvmeCmd).cdw10 15 0 && y.isCq) = true))) = true := by decide +kernel

theorem witness_endpointRequests_epSqeFetched :
    (([⟨0x02 + 2 ^ 32, true, 0⟩] : List EpEntry) = [(⟨0x02 + 2 ^ 32, true, 0⟩ : EpEntry)]) ∧
    ((({ epUp with epReads := [epRead0 (.sqe 16383 1 0 1)] }).epReads.find? fun (z : EpRead) => z.tag == (7 : Nat)) = some (epRead0 (.sqe 16383 1 0 1) : EpRead)) ∧
    ((epRead0 (.sqe 16383 1 0 1) : EpRead).quarAt = none) ∧
    ((epRead0 (.sqe 16383 1 0 1) : EpRead).what = .sqe 16383 1 0 1) ∧
    (1 ≤ 1) ∧
    ((({ epUp with epReads := [epRead0 (.sqe 16383 1 0 1)] }).epf (epRead0 (.sqe 16383 1 0 1) : EpRead).func).bme = true) ∧
    ((({ epUp with epReads := [epRead0 (.sqe 16383 1 0 1)] }).epf (epRead0 (.sqe 16383 1 0 1) : EpRead).func).d3 = false) ∧
    (({ epUp with epReads := [epRead0 (.sqe 16383 1 0 1)] }).isActive = true) ∧
    ((epCommand 16383 1 (⟨0x02 + 2 ^ 32, true, 0⟩ : EpEntry)).opc = 0x02) ∧
    (1 ≠ 0) ∧
    ((({ epUp with epReads := [epRead0 (.sqe 16383 1 0 1)] }).ctrl? 16383).any (fun (z : Ctrl) => !z.shutdown) = true) ∧
    ((({ epUp with epReads := [epRead0 (.sqe 16383 1 0 1)] }).ctrl? 16383).bind (fun (z : Ctrl) => z.queue? 1) = some (epQueue 1 false : Queue)) ∧
    ((epQueue 1 false : Queue).conn = none) ∧
    ((epQueue 1 false : Queue).authReq = false) ∧
    ((({ epUp with epReads := [epRead0 (.sqe 16383 1 0 1)] }).cmd? ({ epUp with epReads := [epRead0 (.sqe 16383 1 0 1)] }).nextCmd).isNone = true) ∧
    holds (exec (.epSqeFetched (7 : Nat) ([⟨0x02 + 2 ^ 32, true, 0⟩] : List EpEntry)) ({ epUp with epReads := [epRead0 (.sqe 16383 1 0 1)] })) (fun t => decide (((t.cmd? ({ epUp with epReads := [epRead0 (.sqe 16383 1 0 1)] }).nextCmd).any (fun (c : Cmd) => c.nv == epCommand 16383 1 (⟨0x02 + 2 ^ 32, true, 0⟩ : EpEntry) && c.phase == .delivered && c.result.isNone) = true) ∧ (((t.ctrl? 16383).bind (fun (z : Ctrl) => z.queue? 1)).any (fun (y : Queue) => y.head == (0 + 1) % max 1 (epQueue 1 false : Queue).size) = true))) = true := by decide +kernel

theorem witness_endpointRequests_epReadCompletion :
    ((({ epUp with epReads := [epRead0 (.data 1 0 4096)], epFetches := [⟨1, 0, 4096, [], []⟩] }).epReads.find? fun (z : EpRead) => z.tag == (7 : Nat)) = some (epRead0 (.data 1 0 4096) : EpRead)) ∧
    ((epRead0 (.data 1 0 4096) : EpRead).quarAt = none) ∧
    ((epRead0 (.data 1 0 4096) : EpRead).what = .data 1 0 4096) ∧
    ((({ epUp with epReads := [epRead0 (.data 1 0 4096)], epFetches := [⟨1, 0, 4096, [], []⟩] }).epf (epRead0 (.data 1 0 4096) : EpRead).func).bme = true) ∧
    ((({ epUp with epReads := [epRead0 (.data 1 0 4096)], epFetches := [⟨1, 0, 4096, [], []⟩] }).epf (epRead0 (.data 1 0 4096) : EpRead).func).d3 = false) ∧
    (({ epUp with epReads := [epRead0 (.data 1 0 4096)], epFetches := [⟨1, 0, 4096, [], []⟩] }).epFetches = [(⟨1, 0, 4096, [], []⟩ : EpFetch)]) ∧
    ((⟨1, 0, 4096, [], []⟩ : EpFetch).cmd = 1) ∧
    ((⟨1, 0, 4096, [], []⟩ : EpFetch).got = []) ∧
    ((⟨1, 0, 4096, [], []⟩ : EpFetch).len ≤ 4096) ∧
    holds (exec (.epReadCompletion (7 : Nat) 0 (5 : Nat)) ({ epUp with epReads := [epRead0 (.data 1 0 4096)], epFetches := [⟨1, 0, 4096, [], []⟩] })) (fun t => decide ((t.epFetches = []))) = true := by decide +kernel

theorem witness_endpointRequests_epCompletionTimeout :
    ((({ epUp with epReads := [{ epRead0 (.sqe 16383 1 0 1) with second := true }] }).epReads.find? fun (z : EpRead) => z.tag == (7 : Nat)) = some ({ epRead0 (.sqe 16383 1 0 1) with second := true } : EpRead)) ∧
    (({ epRead0 (.sqe 16383 1 0 1) with second := true } : EpRead).quarAt = none) ∧
    (({ epRead0 (.sqe 16383 1 0 1) with second := true } : EpRead).second = true) ∧
    (({ epUp with epReads := [{ epRead0 (.sqe 16383 1 0 1) with second := true }] }).due (({ epRead0 (.sqe 16383 1 0 1) with second := true } : EpRead).issued + usU (50 : Nat)) = true) ∧
    holds (exec (.epCompletionTimeout (7 : Nat) (50 : Nat)) ({ epUp with epReads := [{ epRead0 (.sqe 16383 1 0 1) with second := true }] })) (fun t => decide (((t.epReads.find? fun (z : EpRead) => z.tag == (7 : Nat)).any (fun (z : EpRead) => z.quarAt == some ({ epUp with epReads := [{ epRead0 (.sqe 16383 1 0 1) with second := true }] }).now) = true) ∧ ((t.ctrl? (({ epUp with epReads := [{ epRead0 (.sqe 16383 1 0 1) with second := true }] }).epIdx ({ epRead0 (.sqe 16383 1 0 1) with second := true } : EpRead).func)).all (fun (z : Ctrl) => hasBit z.csts 1) = true))) = true := by decide +kernel

theorem witness_endpointRequests_epQuarantineExpiry :
    (({ epUp with ctrls := [], epReads := [{ epRead0 (.sqe 16383 1 0 1) with quarAt := some 0 }] }).epReads = [({ epRead0 (.sqe 16383 1 0 1) with quarAt := some 0 } : EpRead)]) ∧
    (({ epRead0 (.sqe 16383 1 0 1) with quarAt := some 0 } : EpRead).tag = (7 : Nat)) ∧
    (({ epRead0 (.sqe 16383 1 0 1) with quarAt := some 0 } : EpRead).quarAt = some (0 : Nat)) ∧
    (({ epRead0 (.sqe 16383 1 0 1) with quarAt := some 0 } : EpRead).byReset = false) ∧
    (({ epUp with ctrls := [], epReads := [{ epRead0 (.sqe 16383 1 0 1) with quarAt := some 0 }] }).due ((0 : Nat) + 16 * usU (50 : Nat)) = true) ∧
    (({ epUp with ctrls := [], epReads := [{ epRead0 (.sqe 16383 1 0 1) with quarAt := some 0 }] }).epFetches = []) ∧
    (({ epUp with ctrls := [], epReads := [{ epRead0 (.sqe 16383 1 0 1) with quarAt := some 0 }] }).ctrls = []) ∧
    holds (exec (.epQuarantineExpiry (7 : Nat) (50 : Nat)) ({ epUp with ctrls := [], epReads := [{ epRead0 (.sqe 16383 1 0 1) with quarAt := some 0 }] })) (fun t => decide ((t.epReads = []))) = true := by decide +kernel

theorem witness_endpointRequests_epBmeWrite :
    (epUp.epExists (0 : Nat) = true) ∧
    ((0 : Nat) < epUp.epfs.length) ∧
    holds (exec (.epBmeWrite (0 : Nat) (false : Bool)) epUp) (fun t => decide (((t.epf (0 : Nat)).bme = (false : Bool)))) = true := by decide +kernel

theorem witness_endpointRequests_epPowerState :
    (epUp.epExists (0 : Nat) = true) ∧
    ((0 : Nat) < epUp.epfs.length) ∧
    holds (exec (.epPowerState (0 : Nat) (true : Bool)) epUp) (fun t => decide (((t.epf (0 : Nat)).d3 = (true : Bool)))) = true := by decide +kernel

theorem witness_endpointRequests_epMsixUnmask :
    (({ epUp with epfs := epUp.epfs.modify 0 fun (z : EpFunc) => { z with pba := [3] } }).epExists (0 : Nat) = true) ∧
    ((3 : Nat) ≤ 64) ∧
    ((({ epUp with epfs := epUp.epfs.modify 0 fun (z : EpFunc) => { z with pba := [3] } }).epf (0 : Nat)).d3 = false) ∧
    ((({ epUp with epfs := epUp.epfs.modify 0 fun (z : EpFunc) => { z with pba := [3] } }).epf (0 : Nat)).pba.contains (3 : Nat) = true) ∧
    holds (exec (.epMsixUnmask (0 : Nat) (3 : Nat)) ({ epUp with epfs := epUp.epfs.modify 0 fun (z : EpFunc) => { z with pba := [3] } })) (fun t => decide ((t.out = .msix (0 : Nat) (3 : Nat) :: ({ epUp with epfs := epUp.epfs.modify 0 fun (z : EpFunc) => { z with pba := [3] } }).out) ∧ ((t.epf (0 : Nat)).unmasked.contains (3 : Nat) = true) ∧ ((t.epf (0 : Nat)).pba.contains (3 : Nat) = false))) = true := by decide +kernel

theorem witness_endpointRequests_epL1Idle :
    (epUp.isSet F.EPT_STAT_LINK_UP = true) ∧
    (epUp.isSet F.EPT_STAT_FROZEN = false) ∧
    (epUp.epL1 = false) ∧
    (epUp.epReads = []) ∧
    (epUp.epfs.any (fun (z : EpFunc) => !z.held.isEmpty) = false) ∧
    (epUp.due (epUp.epTlpAt + usU (epUp.rd F.EPT_PM_CFG_L1_IDLE_US)) = true) ∧
    holds (exec (.epL1Idle true) epUp) (fun t => decide ((t.epL1 = true))) = true := by decide +kernel

theorem witness_endpointRequests_epLtrIdle :
    (({ epUp with epLtrActive := true }).epLtrActive = true) ∧
    (({ epUp with epLtrActive := true }).epBusy = false) ∧
    (({ epUp with epLtrActive := true }).due (({ epUp with epLtrActive := true }).epCmdAt + msU 1) = true) ∧
    holds (exec .epLtrIdle ({ epUp with epLtrActive := true })) (fun t => decide ((t.epLtrActive = false) ∧ (t.out = .ltr (10 * ({ epUp with epLtrActive := true }).rd F.EPT_PM_CFG_LTR_IDLE) :: ({ epUp with epLtrActive := true }).out))) = true := by decide +kernel

theorem witness_startUp_resetAssert :
    ((1 : Nat) ≤ 3) ∧
    (hostUp.boot.held ≠ some 4) ∧
    (hostUp.boot.held ≠ some 5) ∧
    holds (exec (.resetAssert (1 : Nat)) hostUp) (fun t => decide ((t.boot.held = some (1 : Nat)) ∧ (t.boot.ended = []) ∧ (t.conns = []) ∧ (t.cmds = []) ∧ (t.lines = []) ∧ (t.ctrls = []) ∧ (t.fuses = hostUp.fuses) ∧ (t.flash = hostUp.flash) ∧ (t.tim.count = 0))) = true := by decide +kernel

theorem witness_startUp_controllerStart :
    (({ up with boot := Boot.cold }).boot.held = some (3 : Nat)) ∧
    ((3 : Nat) ≤ 3) ∧
    (({ up with boot := Boot.cold }).tru.jtag = false) ∧
    (({ up with boot := Boot.cold }).rd F.TRU_STAT_TAMPER_CNT ≠ 3) ∧
    ((2 : Nat) < 4) ∧
    holds (exec (.controllerStart (2 : Nat) (true : Bool) (none : Option Flash)) ({ up with boot := Boot.cold })) (fun t => decide ((t.boot.held = none) ∧ (t.boot.ended = [1]) ∧ (t.boot.stopped = false) ∧ (t.rd F.TRU_STAT_STEP = 1) ∧ (t.rd F.CTL_BOOT_STAT_BOOT_SEL = (2 : Nat)) ∧ (t.rd F.CTL_BOOT_STAT_SLOT_B = (if (true : Bool) = true then 1 else 0)) ∧ (t.flash = (none : Option Flash).getD ({ up with boot := Boot.cold }).flash) ∧ (t.fuses = ({ up with boot := Boot.cold }).fuses))) = true := by decide +kernel

theorem witness_startUp_bootStepEnd :
    ((bootAt [1]).boot.held = none) ∧
    ((bootAt [1]).boot.stopped = false) ∧
    ((bootAt [1]).stepDone 1 = true) ∧
    ((bootAt [1]).stepDone 2 = false) ∧
    (((true : Bool) && (false : Bool)) = false) ∧
    holds (exec (.bootStepEnd (.rom (true : Bool) (false : Bool) (true : Bool))) (bootAt [1])) (fun t => decide ((t.boot.stopped = true) ∧ (t.rd F.TRU_STAT_STOP = 2) ∧ (t.stepDone 2 = false) ∧ (t.tru = (bootAt [1]).tru))) = true := by decide +kernel

theorem witness_startUp_bootStepEnd2 :
    ((bootAt [1]).boot.held = none) ∧
    ((bootAt [1]).boot.stopped = false) ∧
    ((bootAt [1]).stepDone 1 = true) ∧
    ((bootAt [1]).stepDone 2 = false) ∧
    holds (exec (.bootStepEnd (.rom true true false)) (bootAt [1])) (fun t => decide ((t.boot.stopped = true) ∧ (t.rd F.TRU_STAT_STOP = 3) ∧ (t.stepDone 2 = false))) = true := by decide +kernel

theorem witness_startUp_bootStepEnd3 :
    ((bootAt [1]).boot.held = none) ∧
    ((bootAt [1]).boot.stopped = false) ∧
    ((bootAt [1]).stepDone 1 = true) ∧
    ((bootAt [1]).stepDone 2 = false) ∧
    holds (exec (.bootStepEnd (.rom true true true)) (bootAt [1])) (fun t => decide ((t.stepDone 2 = true) ∧ (t.tru.kcw.isSome = true) ∧ (t.tru.memKey.isSome = true) ∧ (t.rd F.TRU_STAT_STEP = 5) ∧ (t.boot.stopped = false))) = true := by decide +kernel

theorem witness_startUp_bootStepEnd4 :
    (({ bootAt [1, 2] with flash := ⟨32, [], []⟩ }).boot.held = none) ∧
    (({ bootAt [1, 2] with flash := ⟨32, [], []⟩ }).boot.stopped = false) ∧
    (({ bootAt [1, 2] with flash := ⟨32, [], []⟩ }).stepDone 1 = true) ∧
    (({ bootAt [1, 2] with flash := ⟨32, [], []⟩ }).stepDone 2 = true) ∧
    (({ bootAt [1, 2] with flash := ⟨32, [], []⟩ }).stepDone 3 = false) ∧
    (({ bootAt [1, 2] with flash := ⟨32, [], []⟩ }).flash.size < 64) ∧
    holds (exec (.bootStepEnd .bank) ({ bootAt [1, 2] with flash := ⟨32, [], []⟩ })) (fun t => decide ((t.boot.stopped = true) ∧ (t.rd F.TRU_STAT_STOP = 1) ∧ (t.stepDone 3 = false))) = true := by decide +kernel

theorem witness_startUp_bootStepEnd5 :
    ((bootAt [1, 2]).boot.held = none) ∧
    ((bootAt [1, 2]).boot.stopped = false) ∧
    ((bootAt [1, 2]).stepDone 1 = true) ∧
    ((bootAt [1, 2]).stepDone 2 = true) ∧
    ((bootAt [1, 2]).stepDone 3 = false) ∧
    (64 ≤ (bootAt [1, 2]).flash.size) ∧
    (tryBanks (bootAt [1, 2]).part (bootAt [1, 2]).fuses (bootAt [1, 2]).flash.bankSize (bootAt [1, 2]).flash.banks ((bootAt [1, 2]).flash.order ((bootAt [1, 2]).rd F.CTL_BOOT_STAT_BOOT_SEL)) = ([], some ((1 : Nat), (img0 : BankImg)))) ∧
    ((1 : Nat) < 4) ∧
    holds (exec (.bootStepEnd .bank) (bootAt [1, 2])) (fun t => decide ((t.stepDone 3 = true) ∧ (t.boot.img = some (img0 : BankImg)) ∧ (t.boot.bank = (1 : Nat)) ∧ (t.rd F.CTL_BOOT_STAT_BANK = (1 : Nat)) ∧ (t.rd F.TRU_STAT_STEP = 6) ∧ (t.rd F.CTL_BOOT_STAT_OWNER = (bootAt [1, 2]).ownerOf (img0 : BankImg)) ∧ (t.rd F.CTL_IMG_SVN = ((img0 : BankImg).fwSvn + 65536 * (img0 : BankImg).ownSvn) % 2 ^ 32))) = true := by decide +kernel

theorem witness_startUp_bootStepEnd6 :
    (((bootAt [1, 2, 3]).wr F.CTL_BOOT_STAT_OWNER 2).boot.held = none) ∧
    (((bootAt [1, 2, 3]).wr F.CTL_BOOT_STAT_OWNER 2).boot.stopped = false) ∧
    (((bootAt [1, 2, 3]).wr F.CTL_BOOT_STAT_OWNER 2).stepDone 1 = true) ∧
    (((bootAt [1, 2, 3]).wr F.CTL_BOOT_STAT_OWNER 2).stepDone 3 = true) ∧
    (((bootAt [1, 2, 3]).wr F.CTL_BOOT_STAT_OWNER 2).stepDone 4 = false) ∧
    (((bootAt [1, 2, 3]).wr F.CTL_BOOT_STAT_OWNER 2).rd F.CTL_BOOT_STAT_OWNER = 2) ∧
    (((bootAt [1, 2, 3]).wr F.CTL_BOOT_STAT_OWNER 2).fuses.vcore < 1024) ∧
    holds (exec (.bootStepEnd (.settings [])) ((bootAt [1, 2, 3]).wr F.CTL_BOOT_STAT_OWNER 2)) (fun t => decide ((t.stepDone 4 = true) ∧ (t.rd F.CTL_AVS_STAT_MV = ((bootAt [1, 2, 3]).wr F.CTL_BOOT_STAT_OWNER 2).fuses.vcore) ∧ (t.boot.step4At = ((bootAt [1, 2, 3]).wr F.CTL_BOOT_STAT_OWNER 2).now) ∧ (t.groups = ((bootAt [1, 2, 3]).wr F.CTL_BOOT_STAT_OWNER 2).groups))) = true := by decide +kernel

theorem witness_startUp_bootStepEnd7 :
    ((bootAt [1, 2, 3]).boot.held = none) ∧
    ((bootAt [1, 2, 3]).boot.stopped = false) ∧
    ((bootAt [1, 2, 3]).stepDone 1 = true) ∧
    ((bootAt [1, 2, 3]).stepDone 3 = true) ∧
    ((bootAt [1, 2, 3]).stepDone 4 = false) ∧
    ((bootAt [1, 2, 3]).rd F.CTL_BOOT_STAT_OWNER ≠ 2) ∧
    ((bootAt [1, 2, 3]).boot.img = some (img0 : BankImg)) ∧
    holds (exec (.bootStepEnd (.settings [])) (bootAt [1, 2, 3])) (fun t => decide ((t.stepDone 4 = true) ∧ (t.subnqn = (img0 : BankImg).subnqn) ∧ (t.boot.step4At = (bootAt [1, 2, 3]).now))) = true := by decide +kernel

theorem witness_startUp_bootStepEnd8 :
    ((bootAt [1, 2, 3, 4]).boot.held = none) ∧
    ((bootAt [1, 2, 3, 4]).boot.stopped = false) ∧
    ((bootAt [1, 2, 3, 4]).stepDone 1 = true) ∧
    ((bootAt [1, 2, 3, 4]).stepDone 4 = true) ∧
    ((bootAt [1, 2, 3, 4]).stepDone 5 = false) ∧
    ((bootAt [1, 2, 3, 4]).rd F.CTL_BOOT_STAT_OWNER ≠ 2) ∧
    holds (exec (.bootStepEnd (.chain false (true : Bool))) (bootAt [1, 2, 3, 4])) (fun t => decide ((t.stepDone 5 = true) ∧ (t.isHead = true) ∧ (t.addressed = true) ∧ (t.addr = 0) ∧ (t.chain.dnDriven = (true : Bool)))) = true := by decide +kernel

theorem witness_startUp_bootStepEnd9 :
    ((bootAt [1, 2, 3, 4]).boot.held = none) ∧
    ((bootAt [1, 2, 3, 4]).boot.stopped = false) ∧
    ((bootAt [1, 2, 3, 4]).stepDone 1 = true) ∧
    ((bootAt [1, 2, 3, 4]).stepDone 4 = true) ∧
    ((bootAt [1, 2, 3, 4]).stepDone 5 = false) ∧
    ((bootAt [1, 2, 3, 4]).rd F.CTL_BOOT_STAT_OWNER ≠ 2) ∧
    holds (exec (.bootStepEnd (.chain true (true : Bool))) (bootAt [1, 2, 3, 4])) (fun t => decide ((t.stepDone 5 = true) ∧ (t.isHead = (bootAt [1, 2, 3, 4]).isHead) ∧ (t.chain.waitFrom = some (bootAt [1, 2, 3, 4]).now))) = true := by decide +kernel

theorem witness_startUp_bootStepEnd10 :
    (((bootAt [1, 2, 3, 4, 5]).wr F.CHN_CHAIN_STAT_ADDRESSED 1).boot.held = none) ∧
    (((bootAt [1, 2, 3, 4, 5]).wr F.CHN_CHAIN_STAT_ADDRESSED 1).boot.stopped = false) ∧
    (((bootAt [1, 2, 3, 4, 5]).wr F.CHN_CHAIN_STAT_ADDRESSED 1).stepDone 1 = true) ∧
    (((bootAt [1, 2, 3, 4, 5]).wr F.CHN_CHAIN_STAT_ADDRESSED 1).stepDone 5 = true) ∧
    (((bootAt [1, 2, 3, 4, 5]).wr F.CHN_CHAIN_STAT_ADDRESSED 1).stepDone 6 = false) ∧
    (((bootAt [1, 2, 3, 4, 5]).wr F.CHN_CHAIN_STAT_ADDRESSED 1).rd F.CTL_BOOT_STAT_OWNER ≠ 2) ∧
    (((bootAt [1, 2, 3, 4, 5]).wr F.CHN_CHAIN_STAT_ADDRESSED 1).addressed = true) ∧
    holds (exec (.bootStepEnd .time) ((bootAt [1, 2, 3, 4, 5]).wr F.CHN_CHAIN_STAT_ADDRESSED 1)) (fun t => decide ((t.stepDone 6 = true) ∧ (t.tim.firstUpdatePending = (((bootAt [1, 2, 3, 4, 5]).wr F.CHN_CHAIN_STAT_ADDRESSED 1).isHead && ((bootAt [1, 2, 3, 4, 5]).wr F.CHN_CHAIN_STAT_ADDRESSED 1).tim.lastUpdate.isNone)))) = true := by decide +kernel

theorem witness_startUp_bootStepEnd11 :
    ((bootAt [1, 2, 3, 4]).boot.held = none) ∧
    ((bootAt [1, 2, 3, 4]).boot.stopped = false) ∧
    ((bootAt [1, 2, 3, 4]).stepDone 1 = true) ∧
    ((bootAt [1, 2, 3, 4]).stepDone 4 = true) ∧
    ((bootAt [1, 2, 3, 4]).stepDone 7 = false) ∧
    ((bootAt [1, 2, 3, 4]).rd F.CTL_BOOT_STAT_OWNER ≠ 2) ∧
    ((bootAt [1, 2, 3, 4]).boot.memBad = 0) ∧
    ((bootAt [1, 2, 3, 4]).badChannels (List.replicate 8 [⟨1, 64, 2, false, true, 2, true⟩] : List (List Dimm)) = []) ∧
    (1024 * (((List.range (bootAt [1, 2, 3, 4]).memChannels).filterMap fun i => ((List.replicate 8 [⟨1, 64, 2, false, true, 2, true⟩] : List (List Dimm)).getD i []).head?).map (·.gib)).sum < 2 ^ 22) ∧
    ((bootAt [1, 2, 3, 4]).regionSizes.sum ≤ 1024 * (((List.range (bootAt [1, 2, 3, 4]).memChannels).filterMap fun i => ((List.replicate 8 [⟨1, 64, 2, false, true, 2, true⟩] : List (List Dimm)).getD i []).head?).map (·.gib)).sum) ∧
    holds (exec (.bootStepEnd (.memory (List.replicate 8 [⟨1, 64, 2, false, true, 2, true⟩] : List (List Dimm)))) (bootAt [1, 2, 3, 4])) (fun t => decide ((t.stepDone 7 = true) ∧ (t.boot.memBad = 0) ∧ ((List.range (bootAt [1, 2, 3, 4]).memChannels).all (fun (i : Nat) => t.rd (F.MEM_CHSTAT_PRESENT i) == 1 && t.rd (F.MEM_CHSTAT_TRAINED i) == 1) = true) ∧ ((List.range 15).all (fun (r : Nat) => t.rd (F.MEM_RGN_SIZEr_MIB r) == (bootAt [1, 2, 3, 4]).regionSizes.getD r 0 && t.rd (F.MEM_RGN_BASEr_MIB r) == ((bootAt [1, 2, 3, 4]).regionSizes.take r).sum) = true))) = true := by decide +kernel

theorem witness_startUp_bootStepEnd12 :
    ((bootAt [1, 2, 3, 4]).boot.held = none) ∧
    ((bootAt [1, 2, 3, 4]).boot.stopped = false) ∧
    ((bootAt [1, 2, 3, 4]).stepDone 1 = true) ∧
    ((bootAt [1, 2, 3, 4]).stepDone 4 = true) ∧
    ((bootAt [1, 2, 3, 4]).stepDone 7 = false) ∧
    ((bootAt [1, 2, 3, 4]).rd F.CTL_BOOT_STAT_OWNER ≠ 2) ∧
    ((bootAt [1, 2, 3, 4]).boot.memBad = 0) ∧
    ((bootAt [1, 2, 3, 4]).badChannels (List.replicate 7 [⟨1, 64, 2, false, true, 2, true⟩] : List (List Dimm)) ≠ []) ∧
    (((bootAt [1, 2, 3, 4]).benchAt 4).state ≠ .off) ∧
    holds (exec (.bootStepEnd (.memory (List.replicate 7 [⟨1, 64, 2, false, true, 2, true⟩] : List (List Dimm)))) (bootAt [1, 2, 3, 4])) (fun t => decide ((t.stepDone 7 = false) ∧ (t.boot.memBad = 1) ∧ (hasBit (t.rd (F.BENCH_EV_STAT 4)) 4 = true))) = true := by decide +kernel

theorem witness_startUp_bootStepEnd13 :
    (((bootAt [1, 2, 3, 4]).wr F.CHN_CHAIN_STAT_ADDR 5).boot.held = none) ∧
    (((bootAt [1, 2, 3, 4]).wr F.CHN_CHAIN_STAT_ADDR 5).boot.stopped = false) ∧
    (((bootAt [1, 2, 3, 4]).wr F.CHN_CHAIN_STAT_ADDR 5).stepDone 1 = true) ∧
    (((bootAt [1, 2, 3, 4]).wr F.CHN_CHAIN_STAT_ADDR 5).stepDone 4 = true) ∧
    (((bootAt [1, 2, 3, 4]).wr F.CHN_CHAIN_STAT_ADDR 5).stepDone 8 = false) ∧
    (((bootAt [1, 2, 3, 4]).wr F.CHN_CHAIN_STAT_ADDR 5).rd F.CTL_BOOT_STAT_OWNER ≠ 2) ∧
    (((bootAt [1, 2, 3, 4]).wr F.CHN_CHAIN_STAT_ADDR 5).role ≠ 0) ∧
    holds (exec (.bootStepEnd .paired) ((bootAt [1, 2, 3, 4]).wr F.CHN_CHAIN_STAT_ADDR 5)) (fun t => decide ((t.stepDone 8 = true) ∧ (t.stage = some (0, ((bootAt [1, 2, 3, 4]).wr F.CHN_CHAIN_STAT_ADDR 5).now + msU (10 * ((bootAt [1, 2, 3, 4]).wr F.CHN_CHAIN_STAT_ADDR 5).rd F.CTL_BOOT_CFG_STAGGER * (((bootAt [1, 2, 3, 4]).wr F.CHN_CHAIN_STAT_ADDR 5).addr / 2)))))) = true := by decide +kernel

theorem witness_startUp_bootStepEnd14 :
    (({ bootAt [1, 2, 3, 4, 8] with drvPowered := true }).boot.held = none) ∧
    (({ bootAt [1, 2, 3, 4, 8] with drvPowered := true }).boot.stopped = false) ∧
    (({ bootAt [1, 2, 3, 4, 8] with drvPowered := true }).stepDone 1 = true) ∧
    (({ bootAt [1, 2, 3, 4, 8] with drvPowered := true }).stepDone 8 = true) ∧
    (({ bootAt [1, 2, 3, 4, 8] with drvPowered := true }).stepDone 9 = false) ∧
    (({ bootAt [1, 2, 3, 4, 8] with drvPowered := true }).rd F.CTL_BOOT_STAT_OWNER ≠ 2) ∧
    (({ bootAt [1, 2, 3, 4, 8] with drvPowered := true }).drvPowered = true) ∧
    holds (exec (.bootStepEnd .drives) ({ bootAt [1, 2, 3, 4, 8] with drvPowered := true })) (fun t => decide ((t = ({ bootAt [1, 2, 3, 4, 8] with drvPowered := true }).noteStep 9) ∧ (t.stepDone 9 = true) ∧ (t.rd F.CTL_BOOT_STAT_STEP = max 9 (({ bootAt [1, 2, 3, 4, 8] with drvPowered := true }).rd F.CTL_BOOT_STAT_STEP)) ∧ (t.rd (F.CTL_BOOT_STEPT 8) = min (2 ^ 32 - 1) ((({ bootAt [1, 2, 3, 4, 8] with drvPowered := true }).now - ({ bootAt [1, 2, 3, 4, 8] with drvPowered := true }).boot.startAt) / 4000)))) = true := by decide +kernel

theorem witness_startUp_bootStepEnd15 :
    ((bootAt [1, 2, 3, 4, 8, 9]).boot.held = none) ∧
    ((bootAt [1, 2, 3, 4, 8, 9]).boot.stopped = false) ∧
    ((bootAt [1, 2, 3, 4, 8, 9]).stepDone 1 = true) ∧
    ((bootAt [1, 2, 3, 4, 8, 9]).stepDone 9 = true) ∧
    ((bootAt [1, 2, 3, 4, 8, 9]).stepDone 10 = false) ∧
    ((bootAt [1, 2, 3, 4, 8, 9]).rd F.CTL_BOOT_STAT_OWNER ≠ 2) ∧
    ((bootAt [1, 2, 3, 4, 8, 9]).ports.all (fun (z : Port) => z.perstAt.isNone) = true) ∧
    holds (exec (.bootStepEnd .perst) (bootAt [1, 2, 3, 4, 8, 9])) (fun t => decide ((t = (bootAt [1, 2, 3, 4, 8, 9]).noteStep 10))) = true := by decide +kernel

theorem witness_startUp_bootStepEnd16 :
    (((bootAt [1, 2, 3, 4, 7]).wr F.MEM_STAT_READY 0x7FFF).boot.held = none) ∧
    (((bootAt [1, 2, 3, 4, 7]).wr F.MEM_STAT_READY 0x7FFF).boot.stopped = false) ∧
    (((bootAt [1, 2, 3, 4, 7]).wr F.MEM_STAT_READY 0x7FFF).stepDone 1 = true) ∧
    (((bootAt [1, 2, 3, 4, 7]).wr F.MEM_STAT_READY 0x7FFF).stepDone 7 = true) ∧
    (((bootAt [1, 2, 3, 4, 7]).wr F.MEM_STAT_READY 0x7FFF).stepDone 11 = false) ∧
    (((bootAt [1, 2, 3, 4, 7]).wr F.MEM_STAT_READY 0x7FFF).rd F.CTL_BOOT_STAT_OWNER ≠ 2) ∧
    (((bootAt [1, 2, 3, 4, 7]).wr F.MEM_STAT_READY 0x7FFF).rd F.MEM_STAT_READY = 0x7FFF) ∧
    holds (exec (.bootStepEnd .regions) ((bootAt [1, 2, 3, 4, 7]).wr F.MEM_STAT_READY 0x7FFF)) (fun t => decide ((t = ((bootAt [1, 2, 3, 4, 7]).wr F.MEM_STAT_READY 0x7FFF).noteStep 11))) = true := by decide +kernel

theorem witness_startUp_bootStepEnd17 :
    (({ (bootAt [1, 2, 3, 4, 8, 9, 10]).wr F.HAL_PAIR_STAT_ROLE 0 with pair := { Pair.cold with alone := true } }).boot.held = none) ∧
    (({ (bootAt [1, 2, 3, 4, 8, 9, 10]).wr F.HAL_PAIR_STAT_ROLE 0 with pair := { Pair.cold with alone := true } }).boot.stopped = false) ∧
    (({ (bootAt [1, 2, 3, 4, 8, 9, 10]).wr F.HAL_PAIR_STAT_ROLE 0 with pair := { Pair.cold with alone := true } }).stepDone 1 = true) ∧
    (({ (bootAt [1, 2, 3, 4, 8, 9, 10]).wr F.HAL_PAIR_STAT_ROLE 0 with pair := { Pair.cold with alone := true } }).stepDone 10 = true) ∧
    (({ (bootAt [1, 2, 3, 4, 8, 9, 10]).wr F.HAL_PAIR_STAT_ROLE 0 with pair := { Pair.cold with alone := true } }).stepDone 12 = false) ∧
    (({ (bootAt [1, 2, 3, 4, 8, 9, 10]).wr F.HAL_PAIR_STAT_ROLE 0 with pair := { Pair.cold with alone := true } }).rd F.CTL_BOOT_STAT_OWNER ≠ 2) ∧
    (({ (bootAt [1, 2, 3, 4, 8, 9, 10]).wr F.HAL_PAIR_STAT_ROLE 0 with pair := { Pair.cold with alone := true } }).role = 0) ∧
    (({ (bootAt [1, 2, 3, 4, 8, 9, 10]).wr F.HAL_PAIR_STAT_ROLE 0 with pair := { Pair.cold with alone := true } }).boot.memBad ≠ 1) ∧
    (({ (bootAt [1, 2, 3, 4, 8, 9, 10]).wr F.HAL_PAIR_STAT_ROLE 0 with pair := { Pair.cold with alone := true } }).pair.alone = true) ∧
    (({ (bootAt [1, 2, 3, 4, 8, 9, 10]).wr F.HAL_PAIR_STAT_ROLE 0 with pair := { Pair.cold with alone := true } }).gen < (1 : Nat)) ∧
    holds (exec (.bootStepEnd (.members (1 : Nat))) ({ (bootAt [1, 2, 3, 4, 8, 9, 10]).wr F.HAL_PAIR_STAT_ROLE 0 with pair := { Pair.cold with alone := true } })) (fun t => decide ((t.role = 5) ∧ (t.boot.genSeen = (1 : Nat)) ∧ (t.stepDone 12 = true))) = true := by decide +kernel

theorem witness_startUp_bootStepEnd18 :
    (({ (bootAt [1, 2, 3, 4, 8, 9, 10]).wr F.HAL_PAIR_STAT_ROLE 0 with pair := { Pair.cold with alone := true } }).boot.held = none) ∧
    (({ (bootAt [1, 2, 3, 4, 8, 9, 10]).wr F.HAL_PAIR_STAT_ROLE 0 with pair := { Pair.cold with alone := true } }).boot.stopped = false) ∧
    (({ (bootAt [1, 2, 3, 4, 8, 9, 10]).wr F.HAL_PAIR_STAT_ROLE 0 with pair := { Pair.cold with alone := true } }).stepDone 1 = true) ∧
    (({ (bootAt [1, 2, 3, 4, 8, 9, 10]).wr F.HAL_PAIR_STAT_ROLE 0 with pair := { Pair.cold with alone := true } }).stepDone 10 = true) ∧
    (({ (bootAt [1, 2, 3, 4, 8, 9, 10]).wr F.HAL_PAIR_STAT_ROLE 0 with pair := { Pair.cold with alone := true } }).stepDone 12 = false) ∧
    (({ (bootAt [1, 2, 3, 4, 8, 9, 10]).wr F.HAL_PAIR_STAT_ROLE 0 with pair := { Pair.cold with alone := true } }).rd F.CTL_BOOT_STAT_OWNER ≠ 2) ∧
    (({ (bootAt [1, 2, 3, 4, 8, 9, 10]).wr F.HAL_PAIR_STAT_ROLE 0 with pair := { Pair.cold with alone := true } }).role = 0) ∧
    (({ (bootAt [1, 2, 3, 4, 8, 9, 10]).wr F.HAL_PAIR_STAT_ROLE 0 with pair := { Pair.cold with alone := true } }).boot.memBad ≠ 1) ∧
    (({ (bootAt [1, 2, 3, 4, 8, 9, 10]).wr F.HAL_PAIR_STAT_ROLE 0 with pair := { Pair.cold with alone := true } }).pair.alone = true) ∧
    ((0 : Nat) ≤ ({ (bootAt [1, 2, 3, 4, 8, 9, 10]).wr F.HAL_PAIR_STAT_ROLE 0 with pair := { Pair.cold with alone := true } }).gen) ∧
    (({ (bootAt [1, 2, 3, 4, 8, 9, 10]).wr F.HAL_PAIR_STAT_ROLE 0 with pair := { Pair.cold with alone := true } }).mirrorOut = []) ∧
    (({ (bootAt [1, 2, 3, 4, 8, 9, 10]).wr F.HAL_PAIR_STAT_ROLE 0 with pair := { Pair.cold with alone := true } }).cmds = []) ∧
    (({ (bootAt [1, 2, 3, 4, 8, 9, 10]).wr F.HAL_PAIR_STAT_ROLE 0 with pair := { Pair.cold with alone := true } }).lines = []) ∧
    holds (exec (.bootStepEnd (.members (0 : Nat))) ({ (bootAt [1, 2, 3, 4, 8, 9, 10]).wr F.HAL_PAIR_STAT_ROLE 0 with pair := { Pair.cold with alone := true } })) (fun t => decide ((t.role = 3) ∧ (t.gen = (({ (bootAt [1, 2, 3, 4, 8, 9, 10]).wr F.HAL_PAIR_STAT_ROLE 0 with pair := { Pair.cold with alone := true } }).gen + 1) % 2 ^ 64) ∧ (t.stepDone 12 = true))) = true := by decide +kernel

theorem witness_startUp_bootStepEnd19 :
    ((bootAt [1, 2, 3, 4, 7, 8, 9, 10, 11, 12]).boot.held = none) ∧
    ((bootAt [1, 2, 3, 4, 7, 8, 9, 10, 11, 12]).boot.stopped = false) ∧
    ((bootAt [1, 2, 3, 4, 7, 8, 9, 10, 11, 12]).stepDone 1 = true) ∧
    ((bootAt [1, 2, 3, 4, 7, 8, 9, 10, 11, 12]).stepDone 11 = true) ∧
    ((bootAt [1, 2, 3, 4, 7, 8, 9, 10, 11, 12]).stepDone 12 = true) ∧
    ((bootAt [1, 2, 3, 4, 7, 8, 9, 10, 11, 12]).stepDone 13 = false) ∧
    ((bootAt [1, 2, 3, 4, 7, 8, 9, 10, 11, 12]).rd F.CTL_BOOT_STAT_OWNER ≠ 2) ∧
    ((bootAt [1, 2, 3, 4, 7, 8, 9, 10, 11, 12]).isActive = true) ∧
    ((bootAt [1, 2, 3, 4, 7, 8, 9, 10, 11, 12]).tally.recs = []) ∧
    ((bootAt [1, 2, 3, 4, 7, 8, 9, 10, 11, 12]).fixupds = []) ∧
    (((bootAt [1, 2, 3, 4, 7, 8, 9, 10, 11, 12]).benchAt 5).state ≠ .off) ∧
    holds (exec (.bootStepEnd (.replay true [])) (bootAt [1, 2, 3, 4, 7, 8, 9, 10, 11, 12])) (fun t => decide ((t.stepDone 13 = true) ∧ (t.tally = (bootAt [1, 2, 3, 4, 7, 8, 9, 10, 11, 12]).tally) ∧ (hasBit (t.rd (F.BENCH_EV_STAT 5)) 6 = true))) = true := by decide +kernel

theorem witness_startUp_bootStepEnd20 :
    ((bootAt [1, 2, 3, 4, 7, 8, 9, 10, 11, 12, 13]).boot.held = none) ∧
    ((bootAt [1, 2, 3, 4, 7, 8, 9, 10, 11, 12, 13]).boot.stopped = false) ∧
    ((bootAt [1, 2, 3, 4, 7, 8, 9, 10, 11, 12, 13]).stepDone 1 = true) ∧
    ((bootAt [1, 2, 3, 4, 7, 8, 9, 10, 11, 12, 13]).stepDone 13 = true) ∧
    ((bootAt [1, 2, 3, 4, 7, 8, 9, 10, 11, 12, 13]).stepDone 14 = false) ∧
    ((bootAt [1, 2, 3, 4, 7, 8, 9, 10, 11, 12, 13]).isActive = true) ∧
    ((bootAt [1, 2, 3, 4, 7, 8, 9, 10, 11, 12, 13]).configuredGroups = []) ∧
    ((List.range 48).any (bootAt [1, 2, 3, 4, 7, 8, 9, 10, 11, 12, 13]).mountWaits = false) ∧
    holds (exec (.bootStepEnd (.mount (true : Bool) none)) (bootAt [1, 2, 3, 4, 7, 8, 9, 10, 11, 12, 13])) (fun t => decide ((t.stepDone 14 = true) ∧ (t.tru.ksr = ((bootAt [1, 2, 3, 4, 7, 8, 9, 10, 11, 12, 13]).tru.ksr || ((true : Bool) && !(bootAt [1, 2, 3, 4, 7, 8, 9, 10, 11, 12, 13]).tru.blocked))) ∧ (t.groups = (bootAt [1, 2, 3, 4, 7, 8, 9, 10, 11, 12, 13]).groups))) = true := by decide +kernel

theorem witness_startUp_bootStepEnd21 :
    (((bootAt [1, 2, 3]).wr F.TRU_STAT_STEP 6).boot.held = none) ∧
    (((bootAt [1, 2, 3]).wr F.TRU_STAT_STEP 6).boot.stopped = false) ∧
    (((bootAt [1, 2, 3]).wr F.TRU_STAT_STEP 6).stepDone 1 = true) ∧
    (((bootAt [1, 2, 3]).wr F.TRU_STAT_STEP 6).stepDone 3 = true) ∧
    (((bootAt [1, 2, 3]).wr F.TRU_STAT_STEP 6).rd F.TRU_STAT_STEP = 6) ∧
    holds (exec (.bootStepEnd (.dik (true : Bool))) ((bootAt [1, 2, 3]).wr F.TRU_STAT_STEP 6)) (fun t => decide ((t.rd F.TRU_STAT_STEP = 7) ∧ (t.isSet F.TRU_STAT_DIK_OK = (true : Bool)) ∧ (t.boot = ((bootAt [1, 2, 3]).wr F.TRU_STAT_STEP 6).boot))) = true := by decide +kernel

theorem witness_startUp_bootStepEnd22 :
    (((bootAt [1, 2, 3]).wr F.TRU_STAT_STEP 7).boot.held = none) ∧
    (((bootAt [1, 2, 3]).wr F.TRU_STAT_STEP 7).boot.stopped = false) ∧
    (((bootAt [1, 2, 3]).wr F.TRU_STAT_STEP 7).stepDone 1 = true) ∧
    (((bootAt [1, 2, 3]).wr F.TRU_STAT_STEP 7).rd F.TRU_STAT_STEP = 7) ∧
    holds (exec (.bootStepEnd .ak) ((bootAt [1, 2, 3]).wr F.TRU_STAT_STEP 7)) (fun t => decide ((t.rd F.TRU_STAT_STEP = 8) ∧ (t.isSet F.TRU_STAT_AK_OK = true) ∧ (t.tru.ak.isSome = true))) = true := by decide +kernel

theorem witness_startUp_bootStepEnd23 :
    (({ up with boot := Boot.cold }).boot.held ≠ none ∨ ({ up with boot := Boot.cold }).boot.stopped = true) ∧
    holds (exec (.bootStepEnd (.bank : BootEnd)) ({ up with boot := Boot.cold })) (fun t => decide ((t = ({ up with boot := Boot.cold })))) = true := by decide +kernel

theorem witness_startUp_memberWaitExpiry :
    (({ (layUp.wr (F.DRV_PSTAT_PRSNT 51 2) 1) with boot := { up.boot with ended := [9] }, slots := (layUp.slots.modify 2 fun (x : Slot) => { x with drive := none }) }).stepDone 9 = true) ∧
    (({ (layUp.wr (F.DRV_PSTAT_PRSNT 51 2) 1) with boot := { up.boot with ended := [9] }, slots := (layUp.slots.modify 2 fun (x : Slot) => { x with drive := none }) }).stepDone 14 = false) ∧
    (({ (layUp.wr (F.DRV_PSTAT_PRSNT 51 2) 1) with boot := { up.boot with ended := [9] }, slots := (layUp.slots.modify 2 fun (x : Slot) => { x with drive := none }) }).mountWaits (2 : Nat) = true) ∧
    (({ (layUp.wr (F.DRV_PSTAT_PRSNT 51 2) 1) with boot := { up.boot with ended := [9] }, slots := (layUp.slots.modify 2 fun (x : Slot) => { x with drive := none }) }).due ((({ (layUp.wr (F.DRV_PSTAT_PRSNT 51 2) 1) with boot := { up.boot with ended := [9] }, slots := (layUp.slots.modify 2 fun (x : Slot) => { x with drive := none }) }).port (2 : Nat)).pwrAt + secU 1 * ({ (layUp.wr (F.DRV_PSTAT_PRSNT 51 2) 1) with boot := { up.boot with ended := [9] }, slots := (layUp.slots.modify 2 fun (x : Slot) => { x with drive := none }) }).rd F.CTL_BOOT_CFG_MEMBER_WAIT_S) = true) ∧
    ((2 : Nat) < ({ (layUp.wr (F.DRV_PSTAT_PRSNT 51 2) 1) with boot := { up.boot with ended := [9] }, slots := (layUp.slots.modify 2 fun (x : Slot) => { x with drive := none }) }).slots.length) ∧
    ((2 : Nat) < 48) ∧
    (({ (layUp.wr (F.DRV_PSTAT_PRSNT 51 2) 1) with boot := { up.boot with ended := [9] }, slots := (layUp.slots.modify 2 fun (x : Slot) => { x with drive := none }) }).mcmds = []) ∧
    (({ (layUp.wr (F.DRV_PSTAT_PRSNT 51 2) 1) with boot := { up.boot with ended := [9] }, slots := (layUp.slots.modify 2 fun (x : Slot) => { x with drive := none }) }).mwaits = []) ∧
    (({ (layUp.wr (F.DRV_PSTAT_PRSNT 51 2) 1) with boot := { up.boot with ended := [9] }, slots := (layUp.slots.modify 2 fun (x : Slot) => { x with drive := none }) }).jobs = []) ∧
    holds (exec (.memberWaitExpiry (2 : Nat)) ({ (layUp.wr (F.DRV_PSTAT_PRSNT 51 2) 1) with boot := { up.boot with ended := [9] }, slots := (layUp.slots.modify 2 fun (x : Slot) => { x with drive := none }) })) (fun t => decide (((t.slot (2 : Nat)).state = 2) ∧ ((t.slot (2 : Nat)).ref = ({ (layUp.wr (F.DRV_PSTAT_PRSNT 51 2) 1) with boot := { up.boot with ended := [9] }, slots := (layUp.slots.modify 2 fun (x : Slot) => { x with drive := none }) }).now))) = true := by decide +kernel

theorem witness_startUp_memberWaitExpiry2 :
    (layUp.stepDone 14 = true) ∧
    holds (exec (.memberWaitExpiry (2 : Nat)) layUp) (fun t => decide ((t = layUp))) = true := by decide +kernel

theorem witness_startUp_timeWaitExpiry :
    (({ bootAt [1, 6] with tim := { up.tim with firstUpdatePending := true } }).tim.firstUpdatePending = true) ∧
    (({ bootAt [1, 6] with tim := { up.tim with firstUpdatePending := true } }).tim.lastUpdate = none) ∧
    (({ bootAt [1, 6] with tim := { up.tim with firstUpdatePending := true } }).stepDone 15 = false) ∧
    (({ bootAt [1, 6] with tim := { up.tim with firstUpdatePending := true } }).due (({ bootAt [1, 6] with tim := { up.tim with firstUpdatePending := true } }).boot.step6At + secU 1 * ({ bootAt [1, 6] with tim := { up.tim with firstUpdatePending := true } }).rd F.CTL_BOOT_CFG_TIME_WAIT_S) = true) ∧
    ((({ bootAt [1, 6] with tim := { up.tim with firstUpdatePending := true } }).benchAt 0).state ≠ .off) ∧
    holds (exec .timeWaitExpiry ({ bootAt [1, 6] with tim := { up.tim with firstUpdatePending := true } })) (fun t => decide ((t.tim.firstUpdatePending = false) ∧ (hasBit (t.rd (F.BENCH_EV_STAT 0)) 6 = true))) = true := by decide +kernel

theorem witness_startUp_serviceStart :
    (((bootAt [1, 6, 14]).wr F.TIM_STAT_SERVING 0).isActive = true) ∧
    (((bootAt [1, 6, 14]).wr F.TIM_STAT_SERVING 0).stepDone 14 = true) ∧
    (((bootAt [1, 6, 14]).wr F.TIM_STAT_SERVING 0).stepDone 6 = true) ∧
    (((bootAt [1, 6, 14]).wr F.TIM_STAT_SERVING 0).stepDone 15 = false) ∧
    (((bootAt [1, 6, 14]).wr F.TIM_STAT_SERVING 0).tim.firstUpdatePending = false) ∧
    holds (exec .serviceStart ((bootAt [1, 6, 14]).wr F.TIM_STAT_SERVING 0)) (fun t => decide ((t.rd F.TIM_STAT_SERVING = 1) ∧ (t.stepDone 15 = true) ∧ (t.rd F.CTL_BOOT_STAT_STEP = 15))) = true := by decide +kernel

theorem witness_startUp_standbyServiceStart :
    ((((bootAt [1, 6, 12, 14]).wr F.TIM_STAT_SERVING 0).wr F.HAL_PAIR_STAT_ROLE 2).role = 2) ∧
    ((((bootAt [1, 6, 12, 14]).wr F.TIM_STAT_SERVING 0).wr F.HAL_PAIR_STAT_ROLE 2).stepDone 12 = true) ∧
    ((((bootAt [1, 6, 12, 14]).wr F.TIM_STAT_SERVING 0).wr F.HAL_PAIR_STAT_ROLE 2).stepDone 14 = true) ∧
    ((((bootAt [1, 6, 12, 14]).wr F.TIM_STAT_SERVING 0).wr F.HAL_PAIR_STAT_ROLE 2).stepDone 15 = false) ∧
    holds (exec .standbyServiceStart (((bootAt [1, 6, 12, 14]).wr F.TIM_STAT_SERVING 0).wr F.HAL_PAIR_STAT_ROLE 2)) (fun t => decide ((t.rd F.TIM_STAT_SERVING = 1) ∧ (t.stepDone 15 = true) ∧ (t.rd F.CTL_BOOT_STAT_STEP = 15))) = true := by decide +kernel

theorem witness_liveService_firmwareCommitWrite :
    (adminReady commitUp { ({ adm 0x10 with cdw10 := 0 } : NvmeCmd) with opc := 0x10, cdw10 := ({ adm 0x10 with cdw10 := 0 } : NvmeCmd).cdw10 % 8 } = true) ∧
    (commitUp.cmds = []) ∧
    ((commitUp.commitCheck { ({ adm 0x10 with cdw10 := 0 } : NvmeCmd) with opc := 0x10, cdw10 := ({ adm 0x10 with cdw10 := 0 } : NvmeCmd).cdw10 % 8 } 0 (commitInfo : CommitInfo)).toOption = some ((2 : Nat), (img0 : BankImg))) ∧
    holds (exec (.firmwareCommitWrite ({ adm 0x10 with cdw10 := 0 } : NvmeCmd) (commitInfo : CommitInfo)) commitUp) (fun t => decide ((t.live.commit = some ⟨commitUp.nextCmd, 0, (2 : Nat), (img0 : BankImg), 1, 0, 0⟩) ∧ (t.out.head? = some (.flashBank (2 : Nat))) ∧ (t.flash = commitUp.flash))) = true := by decide +kernel

theorem witness_liveService_firmwareCommitWrite2 :
    (adminReady commitUp { ({ adm 0x10 with cdw10 := 4 } : NvmeCmd) with opc := 0x10, cdw10 := ({ adm 0x10 with cdw10 := 4 } : NvmeCmd).cdw10 % 8 } = true) ∧
    (commitUp.cmds = []) ∧
    ((match commitUp.commitCheck { ({ adm 0x10 with cdw10 := 4 } : NvmeCmd) with opc := 0x10, cdw10 := ({ adm 0x10 with cdw10 := 4 } : NvmeCmd).cdw10 % 8 } 0 (commitInfo : CommitInfo) with | .error y => some y | .ok _ => none) = some (St.fwSlot : Status)) ∧
    holds (exec (.firmwareCommitWrite ({ adm 0x10 with cdw10 := 4 } : NvmeCmd) (commitInfo : CommitInfo)) commitUp) (fun t => decide ((answered commitUp t ({ adm 0x10 with cdw10 := 4 } : NvmeCmd) 0 (St.fwSlot : Status) = true) ∧ (t.live = commitUp.live))) = true := by decide +kernel

theorem witness_liveService_firmwareCommitWritePrefer :
    (adminReady commitUp { ({ adm 0x10 with cdw10 := 3 } : NvmeCmd) with opc := 0x10, cdw10 := ({ adm 0x10 with cdw10 := 3 } : NvmeCmd).cdw10 % 8 + 8 } = true) ∧
    (commitUp.cmds = []) ∧
    ((commitUp.commitCheck { ({ adm 0x10 with cdw10 := 3 } : NvmeCmd) with opc := 0x10, cdw10 := ({ adm 0x10 with cdw10 := 3 } : NvmeCmd).cdw10 % 8 + 8 } 1 (commitInfo : CommitInfo)).toOption = some ((2 : Nat), (img0 : BankImg))) ∧
    holds (exec (.firmwareCommitWritePrefer ({ adm 0x10 with cdw10 := 3 } : NvmeCmd) (commitInfo : CommitInfo)) commitUp) (fun t => decide ((t.live.commit = some ⟨commitUp.nextCmd, 1, (2 : Nat), (img0 : BankImg), 1, 1, 0⟩) ∧ (t.out.head? = some (.flashBank (2 : Nat))))) = true := by decide +kernel

theorem witness_liveService_firmwareCommitPrefer :
    (adminReady ({ commitUp with flash := ⟨64, [none, none], [img0, img0, img0]⟩ }) { ({ adm 0x10 with cdw10 := 3 } : NvmeCmd) with opc := 0x10, cdw10 := ({ adm 0x10 with cdw10 := 3 } : NvmeCmd).cdw10 % 8 + 16 } = true) ∧
    (({ commitUp with flash := ⟨64, [none, none], [img0, img0, img0]⟩ }).cmds = []) ∧
    ((({ commitUp with flash := ⟨64, [none, none], [img0, img0, img0]⟩ }).commitCheck { ({ adm 0x10 with cdw10 := 3 } : NvmeCmd) with opc := 0x10, cdw10 := ({ adm 0x10 with cdw10 := 3 } : NvmeCmd).cdw10 % 8 + 16 } 2 (commitInfo : CommitInfo)).toOption = some ((2 : Nat), (img0 : BankImg))) ∧
    (({ commitUp with flash := ⟨64, [none, none], [img0, img0, img0]⟩ }).flash.current = none) ∧
    holds (exec (.firmwareCommitPrefer ({ adm 0x10 with cdw10 := 3 } : NvmeCmd) (commitInfo : CommitInfo)) ({ commitUp with flash := ⟨64, [none, none], [img0, img0, img0]⟩ })) (fun t => decide ((t.live.commit = some ⟨({ commitUp with flash := ⟨64, [none, none], [img0, img0, img0]⟩ }).nextCmd, 2, (2 : Nat), (img0 : BankImg), 0, 1, 0⟩) ∧ (t.out.head? = some (.flashDescriptor 0 1 (2 : Nat))))) = true := by decide +kernel

theorem witness_liveService_firmwareCommitActivate :
    (adminReady commitUp { ({ adm 0x10 with cdw10 := 3 } : NvmeCmd) with opc := 0x10, cdw10 := ({ adm 0x10 with cdw10 := 3 } : NvmeCmd).cdw10 % 8 + 24 } = true) ∧
    (commitUp.cmds = []) ∧
    ((match commitUp.commitCheck { ({ adm 0x10 with cdw10 := 3 } : NvmeCmd) with opc := 0x10, cdw10 := ({ adm 0x10 with cdw10 := 3 } : NvmeCmd).cdw10 % 8 + 24 } 3 (commitInfo : CommitInfo) with | .error y => some y | .ok _ => none) = some (St.fwReset : Status)) ∧
    holds (exec (.firmwareCommitActivate ({ adm 0x10 with cdw10 := 3 } : NvmeCmd) (commitInfo : CommitInfo)) commitUp) (fun t => decide ((answered commitUp t ({ adm 0x10 with cdw10 := 3 } : NvmeCmd) 0 (St.fwReset : Status) = true) ∧ (t.live = commitUp.live))) = true := by decide +kernel

theorem witness_liveService_firmwareCommitActivate2 :
    ((({ (commitUp.wr F.HAL_PAIR_STAT_ROLE 1).wr F.HAL_PAIR_STAT_PAIRED 1 with cmds := [fwCmd] }).cmds.find? fun (z : Cmd) => z.nv.ctl == ({ adm 0x10 with cdw10 := 3 } : NvmeCmd).ctl && z.nv.qid == 0 && z.nv.cid == ({ adm 0x10 with cdw10 := 3 } : NvmeCmd).cid && z.nv.opc == 0x10 && z.result.isNone) = some (fwCmd : Cmd)) ∧
    (({ (commitUp.wr F.HAL_PAIR_STAT_ROLE 1).wr F.HAL_PAIR_STAT_PAIRED 1 with cmds := [fwCmd] }).live.commit = none) ∧
    ((({ (commitUp.wr F.HAL_PAIR_STAT_ROLE 1).wr F.HAL_PAIR_STAT_PAIRED 1 with cmds := [fwCmd] }).commitCheck { ({ adm 0x10 with cdw10 := 3 } : NvmeCmd) with opc := 0x10, cdw10 := ({ adm 0x10 with cdw10 := 3 } : NvmeCmd).cdw10 % 8 + 24 } 3 (commitInfo : CommitInfo)).toOption = some ((2 : Nat), (img0 : BankImg))) ∧
    ((({ (commitUp.wr F.HAL_PAIR_STAT_ROLE 1).wr F.HAL_PAIR_STAT_PAIRED 1 with cmds := [fwCmd] }).benchAt 0).state ≠ .off) ∧
    holds (exec (.firmwareCommitActivate ({ adm 0x10 with cdw10 := 3 } : NvmeCmd) (commitInfo : CommitInfo)) ({ (commitUp.wr F.HAL_PAIR_STAT_ROLE 1).wr F.HAL_PAIR_STAT_PAIRED 1 with cmds := [fwCmd] })) (fun t => decide ((t.live.commit = some ⟨(fwCmd : Cmd).id, 3, (2 : Nat), (img0 : BankImg), 0, 2, 2⟩) ∧ (t.rd F.CTL_LIVE_STAT_PHASE = 1) ∧ (hasBit (t.rd (F.BENCH_EV_STAT 0)) 7 = true))) = true := by decide +kernel

theorem witness_liveService_flashWriteDone :
    (({ imgUp with live := { Live.cold with commit := some commit0 } }).live.commit = some (commit0 : FwCommit)) ∧
    (0 < (commit0 : FwCommit).writes) ∧
    (({ imgUp with live := { Live.cold with commit := some commit0 } }).cmds = []) ∧
    holds (exec (.flashWriteDone (.bank (true : Bool) false)) ({ imgUp with live := { Live.cold with commit := some commit0 } })) (fun t => decide ((t.live.commit = none) ∧ (t.flash = ({ imgUp with live := { Live.cold with commit := some commit0 } }).flash))) = true := by decide +kernel

theorem witness_liveService_flashWriteDone2 :
    (({ imgUp with live := { Live.cold with commit := some commit0 } }).live.commit = some (commit0 : FwCommit)) ∧
    ((commit0 : FwCommit).writes = 1) ∧
    ((commit0 : FwCommit).descs = 0) ∧
    (({ imgUp with live := { Live.cold with commit := some commit0 } }).cmds = []) ∧
    holds (exec (.flashWriteDone (.bank false true)) ({ imgUp with live := { Live.cold with commit := some commit0 } })) (fun t => decide ((t.live.commit = none) ∧ (t.flash = { ({ imgUp with live := { Live.cold with commit := some commit0 } }).flash with banks := ({ imgUp with live := { Live.cold with commit := some commit0 } }).flash.banks.set (commit0 : FwCommit).bank (commit0 : FwCommit).img }))) = true := by decide +kernel

theorem witness_liveService_flashWriteDone3 :
    (({ imgUp with live := { Live.cold with commit := some { commit0 with ca := 2, writes := 0, descs := 1 } } }).live.commit = some ({ commit0 with ca := 2, writes := 0, descs := 1 } : FwCommit)) ∧
    (({ commit0 with ca := 2, writes := 0, descs := 1 } : FwCommit).writes = 0) ∧
    (({ commit0 with ca := 2, writes := 0, descs := 1 } : FwCommit).descs = 1) ∧
    (({ commit0 with ca := 2, writes := 0, descs := 1 } : FwCommit).ca ≠ 3) ∧
    (({ imgUp with live := { Live.cold with commit := some { commit0 with ca := 2, writes := 0, descs := 1 } } }).cmds = []) ∧
    (({ imgUp with live := { Live.cold with commit := some { commit0 with ca := 2, writes := 0, descs := 1 } } }).flash.desc.length = 2) ∧
    holds (exec (.flashWriteDone (.descriptor false)) ({ imgUp with live := { Live.cold with commit := some { commit0 with ca := 2, writes := 0, descs := 1 } } })) (fun t => decide ((t.live.commit = none) ∧ (t.flash.preferred = ({ commit0 with ca := 2, writes := 0, descs := 1 } : FwCommit).bank) ∧ (t.flash.banks = ({ imgUp with live := { Live.cold with commit := some { commit0 with ca := 2, writes := 0, descs := 1 } } }).flash.banks))) = true := by decide +kernel

theorem witness_liveService_benchReloadDone :
    (({ up with live := { Live.cold with busy := [(4, up.now, false)] } }).live.busy = [((4 : Nat), ({ up with live := { Live.cold with busy := [(4, up.now, false)] } }).now, false)]) ∧
    (({ up with live := { Live.cold with busy := [(4, up.now, false)] } }).live.waits = []) ∧
    (classInst (4 : Nat) = none) ∧
    (({ up with live := { Live.cold with busy := [(4, up.now, false)] } }).boot.img = none) ∧
    (({ up with live := { Live.cold with busy := [(4, up.now, false)] } }).live.plan = []) ∧
    (({ up with live := { Live.cold with busy := [(4, up.now, false)] } }).phase = 0) ∧
    (({ up with live := { Live.cold with busy := [(4, up.now, false)] } }).haulHalf = none) ∧
    holds (exec (.benchReloadDone false (4 : Nat) (true : Bool) (true : Bool)) ({ up with live := { Live.cold with busy := [(4, up.now, false)] } })) (fun t => decide ((t.live.busy = []) ∧ (t.rd F.CTL_LIVE_STAT_BENCH = 63) ∧ (t.isSet F.CTL_LIVE_STAT_HOLD = false) ∧ (t.pair.hold = none))) = true := by decide +kernel

theorem witness_liveService_benchReloadDone2 :
    (up.live.busy.any (fun (z : Nat × Nat × Bool) => z.1 == (4 : Nat)) = false) ∧
    (up.live.waits = []) ∧
    holds (exec (.benchReloadDone false (4 : Nat) (true : Bool) (true : Bool)) up) (fun t => decide ((t = up))) = true := by decide +kernel

theorem witness_liveService_ctlLiveReload :
    ((up.wr F.HAL_PAIR_STAT_ROLE 2).reloading 0 = false) ∧
    ((up.wr F.HAL_PAIR_STAT_ROLE 2).reloadOk (4 : Nat) = true) ∧
    (classInst (4 : Nat) = none) ∧
    ((up.wr F.HAL_PAIR_STAT_ROLE 2).isSet F.HAL_PAIR_STAT_PAIRED = false) ∧
    holds (exec (.ctlLiveReload (4 : Nat)) (up.wr F.HAL_PAIR_STAT_ROLE 2)) (fun t => decide ((t.live.busy = (up.wr F.HAL_PAIR_STAT_ROLE 2).live.busy ++ [((4 : Nat), (up.wr F.HAL_PAIR_STAT_ROLE 2).now, false)]) ∧ (t.rd F.CTL_LIVE_STAT_BENCH = (4 : Nat)) ∧ (t.pair = (up.wr F.HAL_PAIR_STAT_ROLE 2).pair))) = true := by decide +kernel

theorem witness_liveService_ctlLiveReload2 :
    (up.reloading 0 = false) ∧
    (up.reloadOk (1 : Nat) = false) ∧
    holds (exec (.ctlLiveReload (1 : Nat)) up) (fun t => decide ((t = up.wr F.CTL_LIVE_STAT_REFUSED 1))) = true := by decide +kernel

theorem witness_liveService_ctlLiveRetire :
    ((up.wr F.HAL_PAIR_STAT_ROLE 2).reloading 0 = false) ∧
    ((up.wr F.HAL_PAIR_STAT_ROLE 2).halRole = 2) ∧
    holds (exec .ctlLiveRetire (up.wr F.HAL_PAIR_STAT_ROLE 2)) (fun t => decide ((t.pair.retired = true) ∧ (t.pair.hello = none))) = true := by decide +kernel

theorem witness_liveService_ctlLiveRetire2 :
    (up.reloading 0 = false) ∧
    (up.halRole ≠ 2) ∧
    holds (exec .ctlLiveRetire up) (fun t => decide ((t = up.wr F.CTL_LIVE_STAT_REFUSED 1))) = true := by decide +kernel

theorem witness_liveService_avsTimer :
    ((up.wr F.CTL_AVS_STAT_MV 818).isSet F.CTL_LIVE_CFG_AVS_EN = true) ∧
    ((up.wr F.CTL_AVS_STAT_MV 818).stepDone 4 = true) ∧
    ((up.wr F.CTL_AVS_STAT_MV 818).due ((up.wr F.CTL_AVS_STAT_MV 818).live.avsAt + msU 100) = true) ∧
    ((up.wr F.CTL_AVS_STAT_MV 818).rd F.CTL_AVS_STAT_MV < 820) ∧
    holds (exec (.avsTimer true (false : Bool) true) (up.wr F.CTL_AVS_STAT_MV 818)) (fun t => decide ((t.rd F.CTL_AVS_STAT_MV = min 820 ((up.wr F.CTL_AVS_STAT_MV 818).rd F.CTL_AVS_STAT_MV + 5)) ∧ (t.isSet F.CTL_AVS_STAT_LOW_MARGIN = true) ∧ (t.isSet F.CTL_AVS_STAT_AVS_FAIL = false) ∧ (t.live.avsAt = (up.wr F.CTL_AVS_STAT_MV 818).now) ∧ (t.live.stepUpAt = some (up.wr F.CTL_AVS_STAT_MV 818).now) ∧ (t.out = .avs (min 820 ((up.wr F.CTL_AVS_STAT_MV 818).rd F.CTL_AVS_STAT_MV + 5)) :: (up.wr F.CTL_AVS_STAT_MV 818).out))) = true := by decide +kernel

theorem witness_liveService_avsTimer2 :
    ((up.wr F.CTL_AVS_STAT_MV 683).isSet F.CTL_LIVE_CFG_AVS_EN = true) ∧
    ((up.wr F.CTL_AVS_STAT_MV 683).stepDone 4 = true) ∧
    ((up.wr F.CTL_AVS_STAT_MV 683).due ((up.wr F.CTL_AVS_STAT_MV 683).live.avsAt + msU 100) = true) ∧
    ((up.wr F.CTL_AVS_STAT_MV 683).live.stepUpAt = none) ∧
    (680 < (up.wr F.CTL_AVS_STAT_MV 683).rd F.CTL_AVS_STAT_MV) ∧
    holds (exec (.avsTimer false true true) (up.wr F.CTL_AVS_STAT_MV 683)) (fun t => decide ((t.rd F.CTL_AVS_STAT_MV = max 680 ((up.wr F.CTL_AVS_STAT_MV 683).rd F.CTL_AVS_STAT_MV - 5)) ∧ (t.isSet F.CTL_AVS_STAT_LOW_MARGIN = false))) = true := by decide +kernel

theorem witness_liveService_avsTimer3 :
    ((up.wr F.CTL_LIVE_CFG_AVS_EN 0).isSet F.CTL_LIVE_CFG_AVS_EN = false) ∧
    holds (exec (.avsTimer (true : Bool) (false : Bool) (true : Bool)) (up.wr F.CTL_LIVE_CFG_AVS_EN 0)) (fun t => decide ((t = (up.wr F.CTL_LIVE_CFG_AVS_EN 0)))) = true := by decide +kernel

theorem witness_liveService_haulRecalTimer :
    ((0 : Nat) < 2) ∧
    ((0 : Nat) < ({ (pairAt 1).wr F.HAL_PAIR_STAT_H1_UP 1 with tim := { Tim.cold with count := BitVec.ofNat 64 (hourU 25) } }).pair.halves.length) ∧
    (({ (pairAt 1).wr F.HAL_PAIR_STAT_H1_UP 1 with tim := { Tim.cold with count := BitVec.ofNat 64 (hourU 25) } }).rd F.CTL_LIVE_CFG_HAUL_RECAL_H ≠ 0) ∧
    (({ (pairAt 1).wr F.HAL_PAIR_STAT_H1_UP 1 with tim := { Tim.cold with count := BitVec.ofNat 64 (hourU 25) } }).halfUp (0 : Nat) = true) ∧
    (({ (pairAt 1).wr F.HAL_PAIR_STAT_H1_UP 1 with tim := { Tim.cold with count := BitVec.ofNat 64 (hourU 25) } }).halfUp (1 - (0 : Nat)) = true) ∧
    (({ (pairAt 1).wr F.HAL_PAIR_STAT_H1_UP 1 with tim := { Tim.cold with count := BitVec.ofNat 64 (hourU 25) } }).phase = 0) ∧
    (({ (pairAt 1).wr F.HAL_PAIR_STAT_H1_UP 1 with tim := { Tim.cold with count := BitVec.ofNat 64 (hourU 25) } }).draining = false) ∧
    (({ (pairAt 1).wr F.HAL_PAIR_STAT_H1_UP 1 with tim := { Tim.cold with count := BitVec.ofNat 64 (hourU 25) } }).pair.resync = none) ∧
    (({ (pairAt 1).wr F.HAL_PAIR_STAT_H1_UP 1 with tim := { Tim.cold with count := BitVec.ofNat 64 (hourU 25) } }).halRole ≠ 4) ∧
    (({ (pairAt 1).wr F.HAL_PAIR_STAT_H1_UP 1 with tim := { Tim.cold with count := BitVec.ofNat 64 (hourU 25) } }).due ((({ (pairAt 1).wr F.HAL_PAIR_STAT_H1_UP 1 with tim := { Tim.cold with count := BitVec.ofNat 64 (hourU 25) } }).half (0 : Nat)).recalAt + hourU (({ (pairAt 1).wr F.HAL_PAIR_STAT_H1_UP 1 with tim := { Tim.cold with count := BitVec.ofNat 64 (hourU 25) } }).rd F.CTL_LIVE_CFG_HAUL_RECAL_H)) = true) ∧
    holds (exec (.haulRecalTimer (0 : Nat)) ({ (pairAt 1).wr F.HAL_PAIR_STAT_H1_UP 1 with tim := { Tim.cold with count := BitVec.ofNat 64 (hourU 25) } })) (fun t => decide ((t.halfUp (0 : Nat) = false) ∧ (t.halfUp (1 - (0 : Nat)) = true) ∧ ((t.half (0 : Nat)).kept = []) ∧ ((t.half (0 : Nat)).recalAt = ({ (pairAt 1).wr F.HAL_PAIR_STAT_H1_UP 1 with tim := { Tim.cold with count := BitVec.ofNat 64 (hourU 25) } }).now))) = true := by decide +kernel

theorem witness_liveService_memRetrainTimer :
    (up.stepDone 7 = true) ∧
    ((7 : Nat) < up.memChannels) ∧
    ((3 : Nat) < 4) ∧
    ((up.benchAt 0).state ≠ .off) ∧
    holds (exec (.memRetrainTimer (7 : Nat) (3 : Nat) true) up) (fun t => decide ((t.live.rankAt.head? = some ((7 : Nat), (3 : Nat), up.now)) ∧ (hasBit (t.rd (F.BENCH_EV_STAT 0)) 8 = true))) = true := by decide +kernel

theorem witness_liveService_memRetrainTimer2 :
    ((up.wr F.CTL_LIVE_CFG_MEM_RETRAIN_MIN 0).rd F.CTL_LIVE_CFG_MEM_RETRAIN_MIN = 0) ∧
    holds (exec (.memRetrainTimer (7 : Nat) (3 : Nat) false) (up.wr F.CTL_LIVE_CFG_MEM_RETRAIN_MIN 0)) (fun t => decide ((t = (up.wr F.CTL_LIVE_CFG_MEM_RETRAIN_MIN 0)))) = true := by decide +kernel

theorem witness_liveService_memZqTimer :
    (up.stepDone 7 = true) ∧
    ((7 : Nat) < up.memChannels) ∧
    ((3 : Nat) < 4) ∧
    holds (exec (.memZqTimer (7 : Nat) (3 : Nat)) up) (fun t => decide ((t = { up with live := { up.live with zqAt := up.now } }))) = true := by decide +kernel

theorem witness_liveService_timeAlignTimer :
    (([(5, -9)] : List (Nat × Int)) = [((5 : Nat), (-9 : Int))]) ∧
    ((5 : Nat) < up.bench.length) ∧
    (up.inLock (5 : Nat) = false) ∧
    (up.due (up.live.alignAt + secU 1) = true) ∧
    holds (exec (.timeAlignTimer ([(5, -9)] : List (Nat × Int))) up) (fun t => decide (((t.benchAt (5 : Nat)).deviation = clampDev (-9 : Int)) ∧ ((t.benchAt (5 : Nat)).foundAt = up.now) ∧ ((t.benchAt (5 : Nat)).localMin = up.localTime (5 : Nat)) ∧ ((t.benchAt (5 : Nat)).timeLock = (up.benchAt (5 : Nat)).timeLock) ∧ (t.live.alignAt = up.now) ∧ (t.tim = up.tim))) = true := by decide +kernel

theorem witness_unitChain_chainAddr :
    (({ imgUp with chain := { Chain.cold with dnDriven := true } }).stepDone 5 = true) ∧
    ((63 : Nat) < 64) ∧
    (({ imgUp with chain := { Chain.cold with dnDriven := true } }).addressed = false) ∧
    (({ imgUp with chain := { Chain.cold with dnDriven := true } }).chain.dnDriven = true) ∧
    holds (exec (.chainAddr true (63 : Nat)) ({ imgUp with chain := { Chain.cold with dnDriven := true } })) (fun t => decide ((t.addr = (63 : Nat)) ∧ (t.addressed = true) ∧ (t.isHead = false) ∧ (t.rd F.TIM_SRC_CFG_SRC = 3) ∧ ((newOut ({ imgUp with chain := { Chain.cold with dnDriven := true } }) t).contains (.chainAddr ((63 : Nat) + 1)) = true) ∧ (t.chain.sentAt = some ({ imgUp with chain := { Chain.cold with dnDriven := true } }).now) ∧ (t.chain.waitFrom = none))) = true := by decide +kernel

theorem witness_unitChain_chainAddr2 :
    (imgUp.stepDone 5 = true) ∧
    ((5 : Nat) < 64) ∧
    (imgUp.addressed = false) ∧
    (imgUp.chain.dnDriven = false) ∧
    holds (exec (.chainAddr true (5 : Nat)) imgUp) (fun t => decide ((t.addr = (5 : Nat)) ∧ (t.addressed = true) ∧ ((newOut imgUp t).contains (.chainAddrAck imgUp.now 1) = true) ∧ (t.chain.acked = true))) = true := by decide +kernel

theorem witness_unitChain_chainAddr3 :
    (imgUp.stepDone 5 = true) ∧
    (64 ≤ (64 : Nat)) ∧
    ((imgUp.benchAt 3).state ≠ .off) ∧
    holds (exec (.chainAddr true (64 : Nat)) imgUp) (fun t => decide ((t.addr = imgUp.addr) ∧ (t.addressed = imgUp.addressed) ∧ (hasBit (t.rd (F.BENCH_EV_STAT 3)) 6 = true) ∧ (t.out = imgUp.out))) = true := by decide +kernel

theorem witness_unitChain_chainAddr4 :
    holds (exec (.chainAddr false (5 : Nat)) imgUp) (fun t => decide ((t = imgUp.bump F.CHN_CRC_ERR))) = true := by decide +kernel

theorem witness_unitChain_chainAddrAck :
    (headUp.addressed = true) ∧
    (headUp.isHead = true) ∧
    ((63 : Nat) < 128) ∧
    holds (exec (.chainAddrAck true (5 : Nat) (63 : Nat)) headUp) (fun t => decide ((t.rd F.CHN_CHAIN_STAT_UNITS = (63 : Nat)) ∧ (t.chain.downAck = some ((5 : Nat), (63 : Nat))) ∧ (t.chain.sentAt = none) ∧ (t.out = headUp.out))) = true := by decide +kernel

theorem witness_unitChain_chainAddrAck2 :
    (chainUp.addressed = true) ∧
    (chainUp.isHead = false) ∧
    holds (exec (.chainAddrAck true (5 : Nat) (3 : Nat)) chainUp) (fun t => decide (((newOut chainUp t).contains (.chainAddrAck (max chainUp.now (5 : Nat)) (1 + (3 : Nat))) = true) ∧ (t.chain.downAck = some ((5 : Nat), (3 : Nat))) ∧ (t.chain.acked = true))) = true := by decide +kernel

theorem witness_unitChain_addrRepeatTimer :
    (({ chainUp with chain := { Chain.cold with dnDriven := true, sentAt := some 0 } }).chain.sentAt = some (0 : Nat)) ∧
    (({ chainUp with chain := { Chain.cold with dnDriven := true, sentAt := some 0 } }).addressed = true) ∧
    (({ chainUp with chain := { Chain.cold with dnDriven := true, sentAt := some 0 } }).chain.dnDriven = true) ∧
    (({ chainUp with chain := { Chain.cold with dnDriven := true, sentAt := some 0 } }).due ((0 : Nat) + msU 1) = true) ∧
    holds (exec .addrRepeatTimer ({ chainUp with chain := { Chain.cold with dnDriven := true, sentAt := some 0 } })) (fun t => decide (((newOut ({ chainUp with chain := { Chain.cold with dnDriven := true, sentAt := some 0 } }) t).contains (.chainAddr (({ chainUp with chain := { Chain.cold with dnDriven := true, sentAt := some 0 } }).addr + 1)) = true) ∧ (t.chain.sentAt = some ({ chainUp with chain := { Chain.cold with dnDriven := true, sentAt := some 0 } }).now))) = true := by decide +kernel

theorem witness_unitChain_headWaitExpiry :
    (({ imgUp with chain := { Chain.cold with waitFrom := some 0 } }).chain.waitFrom = some (0 : Nat)) ∧
    (({ imgUp with chain := { Chain.cold with waitFrom := some 0 } }).addressed = false) ∧
    (({ imgUp with chain := { Chain.cold with waitFrom := some 0 } }).due ((0 : Nat) + secU 1 * ({ imgUp with chain := { Chain.cold with waitFrom := some 0 } }).rd F.CHN_CHAIN_CFG_HEAD_WAIT_S) = true) ∧
    holds (exec .headWaitExpiry ({ imgUp with chain := { Chain.cold with waitFrom := some 0 } })) (fun t => decide ((t.isHead = true) ∧ (t.addressed = true) ∧ (t.addr = 0) ∧ (t.chain.waitFrom = none))) = true := by decide +kernel

theorem witness_unitChain_headWaitExpiry2 :
    (imgUp.chain.waitFrom = none) ∧
    holds (exec .headWaitExpiry imgUp) (fun t => decide ((t = imgUp))) = true := by decide +kernel

theorem witness_unitChain_chainDownstreamUndriven :
    (({ chainUp with chain := { Chain.cold with dnDriven := true, sentAt := some 0 } }).chain.sentAt.isSome = true) ∧
    (({ chainUp with chain := { Chain.cold with dnDriven := true, sentAt := some 0 } }).addressed = true) ∧
    (({ chainUp with chain := { Chain.cold with dnDriven := true, sentAt := some 0 } }).isHead = false) ∧
    holds (exec .chainDownstreamUndriven ({ chainUp with chain := { Chain.cold with dnDriven := true, sentAt := some 0 } })) (fun t => decide ((t.chain.dnDriven = false) ∧ (t.chain.sentAt = none) ∧ (t.isSet F.CHN_CHAIN_STAT_DN_LINK = false) ∧ ((newOut ({ chainUp with chain := { Chain.cold with dnDriven := true, sentAt := some 0 } }) t).contains (.chainAddrAck ({ chainUp with chain := { Chain.cold with dnDriven := true, sentAt := some 0 } }).now 1) = true))) = true := by decide +kernel

theorem witness_unitChain_chainReset :
    (({ chainUp with chain := { Chain.cold with dnDriven := true } }).isHead = false) ∧
    (({ chainUp with chain := { Chain.cold with dnDriven := true } }).chain.dnDriven = true) ∧
    (({ chainUp with chain := { Chain.cold with dnDriven := true } }).servo = 0) ∧
    ((({ chainUp with chain := { Chain.cold with dnDriven := true } }).benchAt 3).state ≠ .off) ∧
    holds (exec (.chainReset true (7 : Nat) true) ({ chainUp with chain := { Chain.cold with dnDriven := true } })) (fun t => decide ((t.addressed = false) ∧ (t.addr = 0) ∧ (t.chain.sentAt = none) ∧ (t.chain.waitFrom = some ({ chainUp with chain := { Chain.cold with dnDriven := true } }).now) ∧ (hasBit (t.rd (F.BENCH_EV_STAT 3)) 9 = true) ∧ ((newOut ({ chainUp with chain := { Chain.cold with dnDriven := true } }) t).contains (.chainReset (7 : Nat) false) = true))) = true := by decide +kernel

theorem witness_unitChain_chainReset2 :
    (headUp.isHead = true) ∧
    (headUp.chain.dnDriven = false) ∧
    (headUp.servo = 0) ∧
    holds (exec (.chainReset true (7 : Nat) (false : Bool)) headUp) (fun t => decide ((t.addressed = true) ∧ (t.isHead = true) ∧ (t.addr = 0) ∧ (t.chain.downAck = none) ∧ (t.out = headUp.out))) = true := by decide +kernel

theorem witness_unitChain_chainReset3 :
    (chainUp.isHead = false) ∧
    (chainUp.addressed = true) ∧
    holds (exec (.chainReset true (7 : Nat) false) chainUp) (fun t => decide (((newOut chainUp t).contains (.chainReset (7 : Nat) true) = true) ∧ (t.addr = chainUp.addr) ∧ (t.addressed = true))) = true := by decide +kernel

theorem witness_unitChain_chnChainResetCmd :
    (chainUp.reloading 3 = false) ∧
    (chainUp.isHead = false) ∧
    (chainUp.addressed = true) ∧
    holds (exec .chnChainResetCmd chainUp) (fun t => decide (((newOut chainUp t).contains (.chainReset chainUp.addr true) = true) ∧ (t.addressed = true) ∧ (t.chain = chainUp.chain))) = true := by decide +kernel

theorem witness_unitChain_chnChainResetCmd2 :
    (imgUp.reloading 3 = false) ∧
    (imgUp.isHead = false) ∧
    (imgUp.addressed = false) ∧
    holds (exec .chnChainResetCmd imgUp) (fun t => decide (((newOut imgUp t).contains (.chainReset 0xFF true) = true) ∧ (t.chain = imgUp.chain))) = true := by decide +kernel

theorem witness_unitChain_treqTimer :
    (({ chainUp with chain := { Chain.cold with eseq := 0xFFFFFFFF } }).addressed = true) ∧
    (({ chainUp with chain := { Chain.cold with eseq := 0xFFFFFFFF } }).isHead = false) ∧
    (({ chainUp with chain := { Chain.cold with eseq := 0xFFFFFFFF } }).isSet F.CHN_CHAIN_STAT_UP_LINK = true) ∧
    (({ chainUp with chain := { Chain.cold with eseq := 0xFFFFFFFF } }).due (({ chainUp with chain := { Chain.cold with eseq := 0xFFFFFFFF } }).chain.treqAt + msU 1) = true) ∧
    holds (exec .treqTimer ({ chainUp with chain := { Chain.cold with eseq := 0xFFFFFFFF } })) (fun t => decide (((newOut ({ chainUp with chain := { Chain.cold with eseq := 0xFFFFFFFF } }) t).contains (.chainTreq ((({ chainUp with chain := { Chain.cold with eseq := 0xFFFFFFFF } }).chain.eseq + 1) % 2 ^ 32)) = true) ∧ (t.chain = { ({ chainUp with chain := { Chain.cold with eseq := 0xFFFFFFFF } }).chain with eseq := (({ chainUp with chain := { Chain.cold with eseq := 0xFFFFFFFF } }).chain.eseq + 1) % 2 ^ 32, treqAt := ({ chainUp with chain := { Chain.cold with eseq := 0xFFFFFFFF } }).now, treq := some ((({ chainUp with chain := { Chain.cold with eseq := 0xFFFFFFFF } }).chain.eseq + 1) % 2 ^ 32, ({ chainUp with chain := { Chain.cold with eseq := 0xFFFFFFFF } }).now) }))) = true := by decide +kernel

theorem witness_unitChain_chainTreq :
    (chainUp.stepDone 5 = true) ∧
    holds (exec (.chainTreq true (8 : Nat)) chainUp) (fun t => decide (((newOut chainUp t).contains (.chainTresp (8 : Nat) chainUp.now chainUp.now) = true) ∧ (t.chain = chainUp.chain) ∧ (t.rd F.CHN_RX_FRM = (chainUp.rd F.CHN_RX_FRM + 1) % 2 ^ 32))) = true := by decide +kernel

theorem witness_unitChain_chainTresp :
    (({ chainUp with chain := { Chain.cold with treq := some (8, 1000000) } }).chain.treq = some ((8 : Nat), (1000000 : Nat))) ∧
    (({ chainUp with chain := { Chain.cold with treq := some (8, 1000000) } }).rd F.TIM_SRC_CFG_SRC ≠ 3) ∧
    (({ chainUp with chain := { Chain.cold with treq := some (8, 1000000) } }).isSet F.TIM_STAT_SERVING = true) ∧
    holds (exec (.chainTresp true (8 : Nat) (5 : Nat) (9 : Nat)) ({ chainUp with chain := { Chain.cold with treq := some (8, 1000000) } })) (fun t => decide ((t.chain.treq = none) ∧ (t.chain.stepped = true) ∧ (t.rd F.CHN_HOP_DELAY_DELAY = ((((({ chainUp with chain := { Chain.cold with treq := some (8, 1000000) } }).now : Int) - (1000000 : Nat)) - (((9 : Nat) : Int) - (5 : Nat))) / 2).toNat % 2 ^ 32) ∧ (t.tim = ({ chainUp with chain := { Chain.cold with treq := some (8, 1000000) } }).tim))) = true := by decide +kernel

theorem witness_unitChain_chainTresp2 :
    ((({ chainUp with chain := { Chain.cold with treq := some (8, 1000000) } }).chain.treq.any (fun (z : Nat × Nat) => z.1 == (7 : Nat))) = false) ∧
    holds (exec (.chainTresp true (7 : Nat) (5 : Nat) (9 : Nat)) ({ chainUp with chain := { Chain.cold with treq := some (8, 1000000) } })) (fun t => decide ((t.chain = ({ chainUp with chain := { Chain.cold with treq := some (8, 1000000) } }).chain) ∧ (t.tim = ({ chainUp with chain := { Chain.cold with treq := some (8, 1000000) } }).tim) ∧ (t.rd F.CHN_HOP_DELAY_DELAY = ({ chainUp with chain := { Chain.cold with treq := some (8, 1000000) } }).rd F.CHN_HOP_DELAY_DELAY))) = true := by decide +kernel

theorem witness_unitChain_chainShot :
    (((chainUp.wr F.TIM_SHOT_STAT_HELD 1).wr F.TIM_SHOT_CFG_CHAIN_EN 1).addressed = true) ∧
    (((chainUp.wr F.TIM_SHOT_STAT_HELD 1).wr F.TIM_SHOT_CFG_CHAIN_EN 1).isSet F.TIM_SHOT_CFG_CHAIN_EN = true) ∧
    (((chainUp.wr F.TIM_SHOT_STAT_HELD 1).wr F.TIM_SHOT_CFG_CHAIN_EN 1).isSet F.TIM_SHOT_STAT_HELD = true) ∧
    holds (exec (.chainShot true (99 : Nat) (2 : Nat) (true : Bool)) ((chainUp.wr F.TIM_SHOT_STAT_HELD 1).wr F.TIM_SHOT_CFG_CHAIN_EN 1)) (fun t => decide (((newOut ((chainUp.wr F.TIM_SHOT_STAT_HELD 1).wr F.TIM_SHOT_CFG_CHAIN_EN 1) t).contains (.chainShotRelay (99 : Nat) (2 : Nat) (!(true : Bool))) = true) ∧ (t.tim = ((chainUp.wr F.TIM_SHOT_STAT_HELD 1).wr F.TIM_SHOT_CFG_CHAIN_EN 1).tim) ∧ (t.rd F.TIM_SHOT_STAT_REFUSED = (((chainUp.wr F.TIM_SHOT_STAT_HELD 1).wr F.TIM_SHOT_CFG_CHAIN_EN 1).rd F.TIM_SHOT_STAT_REFUSED + 1) % 256))) = true := by decide +kernel

theorem witness_unitChain_chainShot2 :
    ((chainUp.wr F.TIM_SHOT_CFG_CHAIN_EN 1).addressed = true) ∧
    ((chainUp.wr F.TIM_SHOT_CFG_CHAIN_EN 1).isSet F.TIM_SHOT_CFG_CHAIN_EN = true) ∧
    ((chainUp.wr F.TIM_SHOT_CFG_CHAIN_EN 1).isSet F.TIM_SHOT_STAT_HELD = false) ∧
    ((chainUp.wr F.TIM_SHOT_CFG_CHAIN_EN 1).now + usU 1 ≤ (4000000008000 : Nat)) ∧
    ((chainUp.wr F.TIM_SHOT_CFG_CHAIN_EN 1).tim.shots = []) ∧
    ((chainUp.wr F.TIM_SHOT_CFG_CHAIN_EN 1).tim.fired = []) ∧
    holds (exec (.chainShot true (4000000008000 : Nat) (2 : Nat) (false : Bool)) (chainUp.wr F.TIM_SHOT_CFG_CHAIN_EN 1)) (fun t => decide (((newOut (chainUp.wr F.TIM_SHOT_CFG_CHAIN_EN 1) t).contains (.chainShotRelay (4000000008000 : Nat) (2 : Nat) (!(false : Bool))) = true) ∧ (t.tim.shots = [⟨(4000000008000 : Nat), 16, (chainUp.wr F.TIM_SHOT_CFG_CHAIN_EN 1).now⟩]))) = true := by decide +kernel

theorem witness_unitChain_chainShot3 :
    ((chainUp.wr F.TIM_SHOT_CFG_CHAIN_EN 0).addressed = true) ∧
    ((chainUp.wr F.TIM_SHOT_CFG_CHAIN_EN 0).isSet F.TIM_SHOT_CFG_CHAIN_EN = false) ∧
    holds (exec (.chainShot true (99 : Nat) (2 : Nat) (true : Bool)) (chainUp.wr F.TIM_SHOT_CFG_CHAIN_EN 0)) (fun t => decide (((newOut (chainUp.wr F.TIM_SHOT_CFG_CHAIN_EN 0) t).contains (.chainShotRelay (99 : Nat) (2 : Nat) (!(true : Bool))) = true) ∧ (t.tim = (chainUp.wr F.TIM_SHOT_CFG_CHAIN_EN 0).tim) ∧ (t.rd F.TIM_SHOT_STAT_REFUSED = (chainUp.wr F.TIM_SHOT_CFG_CHAIN_EN 0).rd F.TIM_SHOT_STAT_REFUSED))) = true := by decide +kernel

theorem witness_unitChain_chainUpstreamLost :
    (chainUp.chain.upLost = false) ∧
    (chainUp.servo = 0) ∧
    ((chainUp.benchAt 3).state ≠ .off) ∧
    holds (exec .chainUpstreamLost chainUp) (fun t => decide ((t.chain.upLost = true) ∧ (t.isSet F.CHN_CHAIN_STAT_UP_LINK = false) ∧ (t.addr = chainUp.addr) ∧ (t.addressed = chainUp.addressed) ∧ (hasBit (t.rd (F.BENCH_EV_STAT 3)) 7 = true))) = true := by decide +kernel

theorem witness_unitChain_chainUpstreamLost2 :
    (((chainUp.wr F.TIM_STAT_STATE 2).wr F.TIM_SRC_CFG_SRC 3).chain.upLost = false) ∧
    (((chainUp.wr F.TIM_STAT_STATE 2).wr F.TIM_SRC_CFG_SRC 3).rd F.TIM_SRC_CFG_SRC = 3) ∧
    (((chainUp.wr F.TIM_STAT_STATE 2).wr F.TIM_SRC_CFG_SRC 3).servo = 2) ∧
    holds (exec .chainUpstreamLost ((chainUp.wr F.TIM_STAT_STATE 2).wr F.TIM_SRC_CFG_SRC 3)) (fun t => decide ((t.chain.upLost = true) ∧ (t.servo = 3))) = true := by decide +kernel

theorem witness_unitChain_chainUpstreamRestored :
    (({ chainUp with chain := { Chain.cold with upLost := true } }).chain.upLost = true) ∧
    holds (exec .chainUpstreamRestored ({ chainUp with chain := { Chain.cold with upLost := true } })) (fun t => decide ((t.chain.upLost = false) ∧ (t.isSet F.CHN_CHAIN_STAT_UP_LINK = true) ∧ (t.isSet F.CHN_CHAIN_STAT_UP_DRIVEN = true))) = true := by decide +kernel

theorem witness_unitChain_chainMgmt :
    ((chainUp.wr F.CHN_CHAIN_CFG_MGMT_EN 1).addressed = true) ∧
    ((9 : Nat) ≠ (chainUp.wr F.CHN_CHAIN_CFG_MGMT_EN 1).addr) ∧
    ((9 : Nat) ≠ 0xFF) ∧
    ((chainUp.wr F.CHN_CHAIN_CFG_MGMT_EN 1).isSet F.CHN_CHAIN_CFG_MGMT_EN = true) ∧
    holds (exec (.chainMgmt true (9 : Nat) (1 : Nat) (3 : Nat) (0 : Nat) (1 : Nat) (0 : Nat) (0 : Nat) (req0 [] : VendorReq) (true : Bool)) (chainUp.wr F.CHN_CHAIN_CFG_MGMT_EN 1)) (fun _ => true) = true := by decide +kernel

theorem witness_unitChain_chainMgmt2 :
    (({ chainUp with mgt := { Mgt.cold with relays := [⟨3, 9, 0, 0, 8, 66, 1⟩] } }).addressed = true) ∧
    ((5 : Nat) = ({ chainUp with mgt := { Mgt.cold with relays := [⟨3, 9, 0, 0, 8, 66, 1⟩] } }).addr) ∧
    (({ chainUp with mgt := { Mgt.cold with relays := [⟨3, 9, 0, 0, 8, 66, 1⟩] } }).mgt.relays = [(⟨3, 9, 0, 0, 8, 66, 1⟩ : Relay)]) ∧
    ((⟨3, 9, 0, 0, 8, 66, 1⟩ : Relay).tag = (3 : Nat)) ∧
    ((⟨3, 9, 0, 0, 8, 66, 1⟩ : Relay).unit = (9 : Nat)) ∧
    holds (exec (.chainMgmt true (5 : Nat) 2 (3 : Nat) (9 : Nat) (0x81 : Nat) (0 : Nat) (0 : Nat) (req0 [1, 2] : VendorReq) (true : Bool)) ({ chainUp with mgt := { Mgt.cold with relays := [⟨3, 9, 0, 0, 8, 66, 1⟩] } })) (fun t => decide (((newOut ({ chainUp with mgt := { Mgt.cold with relays := [⟨3, 9, 0, 0, 8, 66, 1⟩] } }) t).contains (.vendor (⟨3, 9, 0, 0, 8, 66, 1⟩ : Relay).path (⟨3, 9, 0, 0, 8, 66, 1⟩ : Relay).eid (⟨3, 9, 0, 0, 8, 66, 1⟩ : Relay).reqTag ((⟨3, 9, 0, 0, 8, 66, 1⟩ : Relay).command + 0x80) (0 : Nat) (0 : Nat) (req0 [1, 2] : VendorReq).body) = true) ∧ (t.mgt.relays = []))) = true := by decide +kernel

theorem witness_haulLink_haulHalfUp :
    ((1 : Nat) < 2) ∧
    ((1 : Nat) < (pairAt 1).pair.halves.length) ∧
    ((pairAt 1).halfUp (1 : Nat) = false) ∧
    ((pairAt 1).halfEnabled (1 : Nat) = true) ∧
    ((pairAt 1).stepDone 4 = true) ∧
    (((pairAt 1).half (1 : Nat)).kept = []) ∧
    ((pairAt 1).pair.exchanged = true) ∧
    (((pairAt 1).benchAt 7).state ≠ .off) ∧
    holds (exec (.haulHalfUp (1 : Nat)) (pairAt 1)) (fun t => decide ((t.halfUp (1 : Nat) = true) ∧ ((t.half (1 : Nat)).recalAt = (pairAt 1).now) ∧ (hasBit (t.rd (F.BENCH_EV_STAT 7)) 9 = true))) = true := by decide +kernel

theorem witness_haulLink_haulHalfDown :
    ((keptUp.wr F.HAL_PAIR_STAT_H1_UP 1).pair.hold = none) ∧
    ((keptUp.wr F.HAL_PAIR_STAT_H1_UP 1).halfUp (0 : Nat) = true) ∧
    ((keptUp.wr F.HAL_PAIR_STAT_H1_UP 1).halfUp (1 - (0 : Nat)) = true) ∧
    (((keptUp.wr F.HAL_PAIR_STAT_H1_UP 1).benchAt 7).state ≠ .off) ∧
    holds (exec (.haulHalfDown (0 : Nat)) (keptUp.wr F.HAL_PAIR_STAT_H1_UP 1)) (fun t => decide ((t.halfUp (0 : Nat) = false) ∧ (t.halfUp (1 - (0 : Nat)) = true) ∧ ((t.half (0 : Nat)).kept = []) ∧ (t.rd F.HAL_RESEND = ((keptUp.wr F.HAL_PAIR_STAT_H1_UP 1).rd F.HAL_RESEND + ((keptUp.wr F.HAL_PAIR_STAT_H1_UP 1).half (0 : Nat)).kept.length) % 2 ^ 32) ∧ (hasBit (t.rd (F.BENCH_EV_STAT 7)) 8 = true))) = true := by decide +kernel

theorem witness_haulLink_haulHalfDown2 :
    (keptUp.pair.hold = none) ∧
    (keptUp.halfUp (0 : Nat) = true) ∧
    (keptUp.halfUp (1 - (0 : Nat)) = false) ∧
    holds (exec (.haulHalfDown (0 : Nat)) keptUp) (fun t => decide ((t.halfUp (0 : Nat) = false) ∧ (t.pair.halves = keptUp.pair.halves) ∧ (t.haulUp = false))) = true := by decide +kernel

theorem witness_haulLink_haulHalfDown3 :
    (({ keptUp with pair := { keptUp.pair with hold := some (7, 0) } }).pair.hold ≠ none) ∧
    holds (exec (.haulHalfDown (0 : Nat)) ({ keptUp with pair := { keptUp.pair with hold := some (7, 0) } })) (fun t => decide ((t = ({ keptUp with pair := { keptUp.pair with hold := some (7, 0) } })))) = true := by decide +kernel

theorem witness_haulLink_haulResendTimer :
    (keptUp.halfUp (0 : Nat) = true) ∧
    (keptUp.pair.hold = none) ∧
    (((keptUp.half (0 : Nat)).kept.head?.any fun (k : HaulKept) => keptUp.due (k.sentAt + usU 2)) = true) ∧
    ((keptUp.half (0 : Nat)).kept.any (fun (k : HaulKept) => 3 ≤ k.resends) = false) ∧
    holds (exec (.haulResendTimer (0 : Nat)) keptUp) (fun t => decide (((t.half (0 : Nat)).kept = (keptUp.half (0 : Nat)).kept.map fun (k : HaulKept) => { k with resends := k.resends + 1, sentAt := keptUp.now }) ∧ (t.out = ((keptUp.half (0 : Nat)).kept.map fun (k : HaulKept) => .haulFrame (0 : Nat) k.chan k.seq true).reverse ++ keptUp.out) ∧ (t.halfUp (0 : Nat) = true))) = true := by decide +kernel

theorem witness_haulLink_haulFrameReceive :
    ((0 : Nat) < keptUp.pair.halves.length) ∧
    (keptUp.halfUp (0 : Nat) = true) ∧
    ((3 : Nat) ≠ 0) ∧
    ((8 : Nat) = (keptUp.half (0 : Nat)).rxSeq + 1) ∧
    holds (exec (.haulFrameReceive (0 : Nat) (3 : Nat) (8 : Nat) none false true .other) keptUp) (fun t => decide (((t.half (0 : Nat)).rxSeq = (8 : Nat)) ∧ (t.out = .haulAck (0 : Nat) false (8 : Nat) :: keptUp.out) ∧ (t.rd F.HAL_RX_FRM = (keptUp.rd F.HAL_RX_FRM + 1) % 2 ^ 32) ∧ ((t.half (0 : Nat)).kept = (keptUp.half (0 : Nat)).kept))) = true := by decide +kernel

theorem witness_haulLink_haulFrameReceive2 :
    (keptUp.halfUp (0 : Nat) = true) ∧
    ((3 : Nat) ≠ 0) ∧
    ((7 : Nat) ≤ (keptUp.half (0 : Nat)).rxSeq) ∧
    holds (exec (.haulFrameReceive (0 : Nat) (3 : Nat) (7 : Nat) none false true (.power 1 true : HaulBody)) keptUp) (fun t => decide ((t.pair = keptUp.pair) ∧ (t.out = .haulAck (0 : Nat) false (keptUp.half (0 : Nat)).rxSeq :: keptUp.out) ∧ (t.rd F.HAL_SEQ_DROP = (keptUp.rd F.HAL_SEQ_DROP + 1) % 2 ^ 32))) = true := by decide +kernel

theorem witness_haulLink_haulFrameReceive3 :
    (keptUp.halfUp (0 : Nat) = true) ∧
    ((keptUp.half (0 : Nat)).authNotice = none) ∧
    ((0 : Nat) < keptUp.pair.halves.length) ∧
    holds (exec (.haulFrameReceive (0 : Nat) (3 : Nat) (8 : Nat) (none : Option Nat) (false : Bool) false (.power 1 true : HaulBody)) keptUp) (fun t => decide ((t.out = .haulAck (0 : Nat) true (keptUp.half (0 : Nat)).rxSeq :: keptUp.out) ∧ (t.rd F.HAL_AUTH_FAIL = (keptUp.rd F.HAL_AUTH_FAIL + 1) % 2 ^ 32) ∧ ((t.half (0 : Nat)).rxSeq = (keptUp.half (0 : Nat)).rxSeq) ∧ ((t.half (0 : Nat)).authNotice = some keptUp.now))) = true := by decide +kernel

theorem witness_haulLink_haulFrameReceive4 :
    (keptUp.halfUp (0 : Nat) = true) ∧
    (keptUp.pair.resync = none) ∧
    ((keptUp.half (0 : Nat)).kept.any (fun (k : HaulKept) => k.seq ≤ (4 : Nat)) = true) ∧
    holds (exec (.haulFrameReceive (0 : Nat) 0 (0 : Nat) (some (4 : Nat)) false true (.other : HaulBody)) keptUp) (fun t => decide (((t.half (0 : Nat)).kept = ((keptUp.half (0 : Nat)).kept.filter fun (k : HaulKept) => (4 : Nat) < k.seq).map fun (k : HaulKept) => { k with sentAt := keptUp.now }) ∧ (t.out = keptUp.out))) = true := by decide +kernel

theorem witness_haulLink_haulFrameReceive5 :
    (keptUp.halfUp (1 : Nat) = false) ∧
    holds (exec (.haulFrameReceive (1 : Nat) (1 : Nat) (8 : Nat) (none : Option Nat) (false : Bool) (true : Bool) (.other : HaulBody)) keptUp) (fun t => decide ((t = keptUp))) = true := by decide +kernel

theorem witness_haulLink_heartbeatTimer :
    (({ pairAt 1 with pair := { (pairAt 1).pair with bseq := 0xFFFFFFFF } }).pair.retired = false) ∧
    (({ pairAt 1 with pair := { (pairAt 1).pair with bseq := 0xFFFFFFFF } }).stepDone 3 = true) ∧
    (({ pairAt 1 with pair := { (pairAt 1).pair with bseq := 0xFFFFFFFF } }).due (({ pairAt 1 with pair := { (pairAt 1).pair with bseq := 0xFFFFFFFF } }).pair.beatAt + usU (({ pairAt 1 with pair := { (pairAt 1).pair with bseq := 0xFFFFFFFF } }).rd F.HAL_PAIR_CFG_HB_PERIOD)) = true) ∧
    holds (exec .heartbeatTimer ({ pairAt 1 with pair := { (pairAt 1).pair with bseq := 0xFFFFFFFF } })) (fun t => decide ((t.out = .beat ({ pairAt 1 with pair := { (pairAt 1).pair with bseq := 0xFFFFFFFF } }).role (({ pairAt 1 with pair := { (pairAt 1).pair with bseq := 0xFFFFFFFF } }).rd F.CTL_BOOT_STAT_SLOT_B + 2 * bit ({ pairAt 1 with pair := { (pairAt 1).pair with bseq := 0xFFFFFFFF } }).haulUp) ((({ pairAt 1 with pair := { (pairAt 1).pair with bseq := 0xFFFFFFFF } }).pair.bseq + 1) % 2 ^ 32) ({ pairAt 1 with pair := { (pairAt 1).pair with bseq := 0xFFFFFFFF } }).gen :: ({ pairAt 1 with pair := { (pairAt 1).pair with bseq := 0xFFFFFFFF } }).out) ∧ (t.pair = { ({ pairAt 1 with pair := { (pairAt 1).pair with bseq := 0xFFFFFFFF } }).pair with bseq := (({ pairAt 1 with pair := { (pairAt 1).pair with bseq := 0xFFFFFFFF } }).pair.bseq + 1) % 2 ^ 32, beatAt := ({ pairAt 1 with pair := { (pairAt 1).pair with bseq := 0xFFFFFFFF } }).now }) ∧ (t.regs = ({ pairAt 1 with pair := { (pairAt 1).pair with bseq := 0xFFFFFFFF } }).regs))) = true := by decide +kernel

theorem witness_haulLink_heartbeatTimer2 :
    (({ pairAt 2 with pair := { (pairAt 2).pair with retired := true } }).pair.retired = true) ∧
    holds (exec .heartbeatTimer ({ pairAt 2 with pair := { (pairAt 2).pair with retired := true } })) (fun t => decide ((t = ({ pairAt 2 with pair := { (pairAt 2).pair with retired := true } })))) = true := by decide +kernel

theorem witness_haulLink_heartbeatBeat :
    ((pairAt 1).role ≠ 0) ∧
    ((pairAt 1).pair.wire.bseq.any (fun (n : Nat) => (6 : Nat) ≤ n) = false) ∧
    ((2 : Nat) < 8) ∧
    holds (exec (.heartbeatBeat false (6 : Nat) (2 : Nat) (44 : Nat)) (pairAt 1)) (fun t => decide ((t.pair.wire = ⟨some (6 : Nat), some (pairAt 1).now, 0, false⟩) ∧ (t.pair.haul = (pairAt 1).pair.haul) ∧ (t.pair.peerGen = (44 : Nat)) ∧ (t.rd F.HAL_PAIR_STAT_PEER_ROLE = (2 : Nat)) ∧ (t.role = (pairAt 1).role))) = true := by decide +kernel

theorem witness_haulLink_heartbeatBeat2 :
    (({ pairAt 1 with pair := { (pairAt 1).pair with wire := ⟨some 6, some 0, 0, false⟩ } }).pair.wire.bseq.any (fun (n : Nat) => (6 : Nat) ≤ n) = true) ∧
    holds (exec (.heartbeatBeat false (6 : Nat) (2 : Nat) (44 : Nat)) ({ pairAt 1 with pair := { (pairAt 1).pair with wire := ⟨some 6, some 0, 0, false⟩ } })) (fun t => decide ((t = ({ pairAt 1 with pair := { (pairAt 1).pair with wire := ⟨some 6, some 0, 0, false⟩ } })))) = true := by decide +kernel

theorem witness_haulLink_heartbeatMiss :
    (({ pairAt 1 with pair := { (pairAt 1).pair with wire := ⟨some 6, some 0, 1, false⟩ } }).pair.wire.expected = some (0 : Nat)) ∧
    (({ pairAt 1 with pair := { (pairAt 1).pair with wire := ⟨some 6, some 0, 1, false⟩ } }).pair.wire.misses < 2) ∧
    (({ pairAt 1 with pair := { (pairAt 1).pair with wire := ⟨some 6, some 0, 1, false⟩ } }).pair.hold = none) ∧
    (({ pairAt 1 with pair := { (pairAt 1).pair with wire := ⟨some 6, some 0, 1, false⟩ } }).due ((0 : Nat) + usU (({ pairAt 1 with pair := { (pairAt 1).pair with wire := ⟨some 6, some 0, 1, false⟩ } }).rd F.HAL_PAIR_CFG_HB_PERIOD) + nsU 200) = true) ∧
    holds (exec (.heartbeatMiss false) ({ pairAt 1 with pair := { (pairAt 1).pair with wire := ⟨some 6, some 0, 1, false⟩ } })) (fun t => decide ((t.pair.wire = { ({ pairAt 1 with pair := { (pairAt 1).pair with wire := ⟨some 6, some 0, 1, false⟩ } }).pair.wire with expected := some ((0 : Nat) + usU (({ pairAt 1 with pair := { (pairAt 1).pair with wire := ⟨some 6, some 0, 1, false⟩ } }).rd F.HAL_PAIR_CFG_HB_PERIOD)), misses := ({ pairAt 1 with pair := { (pairAt 1).pair with wire := ⟨some 6, some 0, 1, false⟩ } }).pair.wire.misses + 1 }) ∧ (t.rd F.CHN_HB_MISS = (({ pairAt 1 with pair := { (pairAt 1).pair with wire := ⟨some 6, some 0, 1, false⟩ } }).rd F.CHN_HB_MISS + 1) % 2 ^ 32) ∧ (t.role = ({ pairAt 1 with pair := { (pairAt 1).pair with wire := ⟨some 6, some 0, 1, false⟩ } }).role))) = true := by decide +kernel

theorem witness_haulLink_heartbeatMiss2 :
    (({ pairAt 1 with pair := { (pairAt 1).pair with haul := ⟨some 6, some 0, 0, false⟩ } }).pair.haul.expected = some (0 : Nat)) ∧
    (({ pairAt 1 with pair := { (pairAt 1).pair with haul := ⟨some 6, some 0, 0, false⟩ } }).pair.haul.misses < 2) ∧
    (({ pairAt 1 with pair := { (pairAt 1).pair with haul := ⟨some 6, some 0, 0, false⟩ } }).pair.hold = none) ∧
    (({ pairAt 1 with pair := { (pairAt 1).pair with haul := ⟨some 6, some 0, 0, false⟩ } }).due ((0 : Nat) + usU (({ pairAt 1 with pair := { (pairAt 1).pair with haul := ⟨some 6, some 0, 0, false⟩ } }).rd F.HAL_PAIR_CFG_HB_PERIOD) + nsU 200) = true) ∧
    holds (exec (.heartbeatMiss true) ({ pairAt 1 with pair := { (pairAt 1).pair with haul := ⟨some 6, some 0, 0, false⟩ } })) (fun t => decide ((t.pair.haul = { ({ pairAt 1 with pair := { (pairAt 1).pair with haul := ⟨some 6, some 0, 0, false⟩ } }).pair.haul with expected := some ((0 : Nat) + usU (({ pairAt 1 with pair := { (pairAt 1).pair with haul := ⟨some 6, some 0, 0, false⟩ } }).rd F.HAL_PAIR_CFG_HB_PERIOD)), misses := ({ pairAt 1 with pair := { (pairAt 1).pair with haul := ⟨some 6, some 0, 0, false⟩ } }).pair.haul.misses + 1 }) ∧ (t.rd F.HAL_HB_MISS = (({ pairAt 1 with pair := { (pairAt 1).pair with haul := ⟨some 6, some 0, 0, false⟩ } }).rd F.HAL_HB_MISS + 1) % 2 ^ 32))) = true := by decide +kernel

theorem witness_pairRoles_goodbye :
    ((pairAt 2).role = 2) ∧
    ((pairAt 2).isSet F.HAL_PAIR_STAT_FENCING = false) ∧
    ((pairAt 2).conns = []) ∧
    ((pairAt 2).cmds = []) ∧
    ((pairAt 2).fixupds = []) ∧
    ((pairAt 2).mirrorOut = []) ∧
    ((pairAt 2).lines = []) ∧
    ((pairAt 2).phase = 0) ∧
    holds (exec .goodbye (pairAt 2)) (fun t => decide ((t.role = 3) ∧ (t.isSet F.HAL_PAIR_STAT_PAIRED = false) ∧ (t.isSet F.HAL_PAIR_STAT_FENCING = true) ∧ (t.rd F.HAL_PAIR_STAT_PEER_ROLE = 7) ∧ (t.gen = ((pairAt 2).gen + 1) % 2 ^ 64) ∧ (t.pair.closed = true))) = true := by decide +kernel

theorem witness_pairRoles_goodbye2 :
    ((pairAt 1).role = 1) ∧
    ((pairAt 1).isSet F.HAL_PAIR_STAT_FENCING = false) ∧
    ((pairAt 1).cmds = []) ∧
    ((pairAt 1).mirrorOut = []) ∧
    ((pairAt 1).lines = []) ∧
    ((pairAt 1).phase = 0) ∧
    holds (exec .goodbye (pairAt 1)) (fun t => decide ((t.role = 3) ∧ (t.isSet F.HAL_PAIR_STAT_FENCING = true) ∧ (t.gen = ((pairAt 1).gen + 1) % 2 ^ 64))) = true := by decide +kernel

theorem witness_pairRoles_activeFenceWait :
    (({ pairAt 1 with pair := { (pairAt 1).pair with actWait := some 0 } }).role = 1) ∧
    (({ pairAt 1 with pair := { (pairAt 1).pair with actWait := some 0 } }).boot.held = none) ∧
    (({ pairAt 1 with pair := { (pairAt 1).pair with actWait := some 0 } }).dueOpt ({ pairAt 1 with pair := { (pairAt 1).pair with actWait := some 0 } }).pair.actWait = true) ∧
    (({ pairAt 1 with pair := { (pairAt 1).pair with actWait := some 0 } }).isSet F.HAL_PAIR_STAT_FENCING = false) ∧
    (({ pairAt 1 with pair := { (pairAt 1).pair with actWait := some 0 } }).cmds = []) ∧
    (({ pairAt 1 with pair := { (pairAt 1).pair with actWait := some 0 } }).mirrorOut = []) ∧
    (({ pairAt 1 with pair := { (pairAt 1).pair with actWait := some 0 } }).lines = []) ∧
    holds (exec .activeFenceWait ({ pairAt 1 with pair := { (pairAt 1).pair with actWait := some 0 } })) (fun t => decide ((t.role = 3) ∧ (t.isSet F.HAL_PAIR_STAT_FENCING = true) ∧ (t.gen = (({ pairAt 1 with pair := { (pairAt 1).pair with actWait := some 0 } }).gen + 1) % 2 ^ 64) ∧ (t.pair.actWait = none))) = true := by decide +kernel

theorem witness_pairRoles_fenceHoldExpiry :
    (({ (pairAt 3).wr F.HAL_PAIR_STAT_FENCING 1 with pair := { (pairAt 3).pair with fenceAt := some 0 } }).pair.fenceAt = some (0 : Nat)) ∧
    (({ (pairAt 3).wr F.HAL_PAIR_STAT_FENCING 1 with pair := { (pairAt 3).pair with fenceAt := some 0 } }).isSet F.HAL_PAIR_STAT_FENCING = true) ∧
    (({ (pairAt 3).wr F.HAL_PAIR_STAT_FENCING 1 with pair := { (pairAt 3).pair with fenceAt := some 0 } }).isSet F.HAL_PAIR_STAT_FENCE_HELD = false) ∧
    (({ (pairAt 3).wr F.HAL_PAIR_STAT_FENCING 1 with pair := { (pairAt 3).pair with fenceAt := some 0 } }).due ((0 : Nat) + msU 1 * ({ (pairAt 3).wr F.HAL_PAIR_STAT_FENCING 1 with pair := { (pairAt 3).pair with fenceAt := some 0 } }).rd F.HAL_PAIR_CFG_FENCE_MS) = true) ∧
    holds (exec .fenceHoldExpiry ({ (pairAt 3).wr F.HAL_PAIR_STAT_FENCING 1 with pair := { (pairAt 3).pair with fenceAt := some 0 } })) (fun t => decide ((t.isSet F.HAL_PAIR_STAT_FENCING = false) ∧ (t.pair.fenceAt = none) ∧ (t.pair.released = some ({ (pairAt 3).wr F.HAL_PAIR_STAT_FENCING 1 with pair := { (pairAt 3).pair with fenceAt := some 0 } }).now))) = true := by decide +kernel

theorem witness_pairRoles_fenceHoldExpiry2 :
    (({ (pairAt 3).wr F.HAL_PAIR_STAT_FENCE_HELD 1 with pair := { (pairAt 3).pair with fenceAt := some 0 } }).isSet F.HAL_PAIR_STAT_FENCE_HELD = true) ∧
    holds (exec .fenceHoldExpiry ({ (pairAt 3).wr F.HAL_PAIR_STAT_FENCE_HELD 1 with pair := { (pairAt 3).pair with fenceAt := some 0 } })) (fun t => decide ((t = ({ (pairAt 3).wr F.HAL_PAIR_STAT_FENCE_HELD 1 with pair := { (pairAt 3).pair with fenceAt := some 0 } })))) = true := by decide +kernel

theorem witness_pairRoles_halUnfenceCmd :
    ((((pairAt 3).wr F.HAL_PAIR_STAT_FENCE_HELD 1).wr F.HAL_PAIR_STAT_FENCING 1).reloading 7 = false) ∧
    ((((pairAt 3).wr F.HAL_PAIR_STAT_FENCE_HELD 1).wr F.HAL_PAIR_STAT_FENCING 1).isSet F.HAL_PAIR_STAT_FENCE_HELD = true) ∧
    holds (exec .halUnfenceCmd (((pairAt 3).wr F.HAL_PAIR_STAT_FENCE_HELD 1).wr F.HAL_PAIR_STAT_FENCING 1)) (fun t => decide ((t.isSet F.HAL_PAIR_STAT_FENCE_HELD = false) ∧ (t.isSet F.HAL_PAIR_STAT_FENCING = false) ∧ (t.pair.released = some (((pairAt 3).wr F.HAL_PAIR_STAT_FENCE_HELD 1).wr F.HAL_PAIR_STAT_FENCING 1).now))) = true := by decide +kernel

theorem witness_pairRoles_halUnfenceCmd2 :
    (((pairAt 3).wr F.HAL_PAIR_STAT_FENCING 1).reloading 7 = false) ∧
    (((pairAt 3).wr F.HAL_PAIR_STAT_FENCING 1).isSet F.HAL_PAIR_STAT_FENCE_HELD = false) ∧
    holds (exec .halUnfenceCmd ((pairAt 3).wr F.HAL_PAIR_STAT_FENCING 1)) (fun t => decide ((t = ((pairAt 3).wr F.HAL_PAIR_STAT_FENCING 1)))) = true := by decide +kernel

theorem witness_pairRoles_fenceStartDelayExpiry :
    (({ pairAt 0 with pair := { Pair.cold with alone := true, startDelay := some 0 } }).pair.alone = true) ∧
    (({ pairAt 0 with pair := { Pair.cold with alone := true, startDelay := some 0 } }).dueOpt ({ pairAt 0 with pair := { Pair.cold with alone := true, startDelay := some 0 } }).pair.startDelay = true) ∧
    (({ pairAt 0 with pair := { Pair.cold with alone := true, startDelay := some 0 } }).isSet F.HAL_PAIR_STAT_FENCING = false) ∧
    ((({ pairAt 0 with pair := { Pair.cold with alone := true, startDelay := some 0 } }).benchAt 3).state ≠ .off) ∧
    holds (exec .fenceStartDelayExpiry ({ pairAt 0 with pair := { Pair.cold with alone := true, startDelay := some 0 } })) (fun t => decide ((t.isSet F.HAL_PAIR_STAT_FENCING = true) ∧ (t.isSet F.HAL_PAIR_STAT_FENCE_HELD = false) ∧ (t.pair.startDelay = none) ∧ (hasBit (t.rd (F.BENCH_EV_STAT 3)) 12 = true))) = true := by decide +kernel

theorem witness_pairRoles_pairWaitExpiry :
    (({ pairAt 0 with pair := Pair.cold }).stepDone 4 = true) ∧
    (({ pairAt 0 with pair := Pair.cold }).role = 0) ∧
    (({ pairAt 0 with pair := Pair.cold }).boot.memBad ≠ 1) ∧
    (({ pairAt 0 with pair := Pair.cold }).pair.alone = false) ∧
    (({ pairAt 0 with pair := Pair.cold }).due (({ pairAt 0 with pair := Pair.cold }).boot.step4At + secU 1 * ({ pairAt 0 with pair := Pair.cold }).rd F.HAL_PAIR_CFG_PAIR_WAIT_S) = true) ∧
    (({ pairAt 0 with pair := Pair.cold }).pair.wire.expected = none) ∧
    (({ pairAt 0 with pair := Pair.cold }).pair.haul.expected = none) ∧
    (({ pairAt 0 with pair := Pair.cold }).rd F.CTL_BOOT_STAT_SLOT_B = 0) ∧
    holds (exec .pairWaitExpiry ({ pairAt 0 with pair := Pair.cold })) (fun t => decide ((t.pair.alone = true) ∧ (t.isSet F.HAL_PAIR_STAT_FENCING = true) ∧ (t.role = 0))) = true := by decide +kernel

theorem witness_pairRoles_pairWaitExpiry2 :
    ((pairAt 1).role ≠ 0) ∧
    holds (exec .pairWaitExpiry (pairAt 1)) (fun t => decide ((t = (pairAt 1)))) = true := by decide +kernel

theorem witness_pairRoles_hello :
    ((pairAt 0).haulUp = true) ∧
    ((pairAt 0).pair.exchanged = true) ∧
    ((pairAt 0).role = 0) ∧
    ((pairAt 0).boot.memBad ≠ 1) ∧
    ((pairAt 0).pair.alone = false) ∧
    (((pairAt 0).boot.img.any fun (i : BankImg) => i.ownDigest == (hello0 : Hello).digest) = true) ∧
    ((hello0 : Hello).formatOk = true) ∧
    ((hello0 : Hello).gen = (pairAt 0).gen) ∧
    ((hello0 : Hello).role < 8) := ⟨by decide +kernel, by decide +kernel, by decide +kernel, by decide +kernel, by decide +kernel, beq_self_eq_true img0.ownDigest, by decide +kernel, by decide +kernel, by decide +kernel⟩

theorem witness_pairRoles_hello2 :
    (((pairAt 3).wr F.HAL_PAIR_GEN_LO 4).haulUp = true) ∧
    (((pairAt 3).wr F.HAL_PAIR_GEN_LO 4).pair.exchanged = true) ∧
    (((pairAt 3).wr F.HAL_PAIR_GEN_LO 4).role = 3) ∧
    ((((pairAt 3).wr F.HAL_PAIR_GEN_LO 4).boot.img.any fun (i : BankImg) => i.ownDigest == (hello0 : Hello).digest) = true) ∧
    ((hello0 : Hello).formatOk = true) ∧
    ((hello0 : Hello).gen < ((pairAt 3).wr F.HAL_PAIR_GEN_LO 4).gen) ∧
    (((pairAt 3).wr F.HAL_PAIR_GEN_LO 4).pair.resync = none) := ⟨by decide +kernel, by decide +kernel, by decide +kernel, beq_self_eq_true img0.ownDigest, by decide +kernel, by decide +kernel, by decide +kernel⟩

theorem witness_pairRoles_hello3 :
    ((pairAt 5).haulUp = true) ∧
    ((pairAt 5).pair.exchanged = true) ∧
    ((pairAt 5).role = 5) ∧
    (({ hello0 with role := 3, gen := 8 } : Hello).role = 3 ∨ ({ hello0 with role := 3, gen := 8 } : Hello).role = 1) ∧
    ((pairAt 5).gen < ({ hello0 with role := 3, gen := 8 } : Hello).gen) ∧
    (((pairAt 5).boot.img.any fun (i : BankImg) => i.ownDigest == ({ hello0 with role := 3, gen := 8 } : Hello).digest) = true) := ⟨by decide +kernel, by decide +kernel, by decide +kernel, by decide +kernel, by decide +kernel, beq_self_eq_true img0.ownDigest⟩

theorem witness_pairRoles_hello4 :
    (({ pairAt 0 with pair := Pair.cold }).pair.exchanged = false) ∧
    holds (exec (.hello (hello0 : Hello)) ({ pairAt 0 with pair := Pair.cold })) (fun t => decide ((t = ({ pairAt 0 with pair := Pair.cold })))) = true := by decide +kernel

theorem witness_pairRoles_halHandoverCmd :
    ((pairAt 1).reloading 7 = false) ∧
    ((pairAt 1).role = 1) ∧
    ((pairAt 1).pair.handover = none) ∧
    ((pairAt 1).stripes.all (fun (z : Stripe) => z.state != .opened) = true) ∧
    holds (exec .halHandoverCmd (pairAt 1)) (fun t => decide ((t = { (pairAt 1) with pair := { (pairAt 1).pair with handover := some ⟨1, (pairAt 1).now, false⟩ } }))) = true := by decide +kernel

theorem witness_pairRoles_halHandoverCmd2 :
    ((pairAt 2).reloading 7 = false) ∧
    ((pairAt 2).role ≠ 1) ∧
    holds (exec .halHandoverCmd (pairAt 2)) (fun t => decide ((t = (pairAt 2)))) = true := by decide +kernel

theorem witness_pairRoles_handoverDrainEnd :
    (({ pairAt 1 with pair := { (pairAt 1).pair with handover := some ⟨1, 0, false⟩ }, mirrorOut := [⟨1, .note⟩] }).pair.handover = some (⟨1, 0, false⟩ : Handover)) ∧
    ((⟨1, 0, false⟩ : Handover).phase = 1) ∧
    (({ pairAt 1 with pair := { (pairAt 1).pair with handover := some ⟨1, 0, false⟩ }, mirrorOut := [⟨1, .note⟩] }).drained = true) ∧
    (({ pairAt 1 with pair := { (pairAt 1).pair with handover := some ⟨1, 0, false⟩ }, mirrorOut := [⟨1, .note⟩] }).mirrorOut ≠ []) ∧
    holds (exec .handoverDrainEnd ({ pairAt 1 with pair := { (pairAt 1).pair with handover := some ⟨1, 0, false⟩ }, mirrorOut := [⟨1, .note⟩] })) (fun t => decide ((t.pair.handover = some { (⟨1, 0, false⟩ : Handover) with phase := 2, since := ({ pairAt 1 with pair := { (pairAt 1).pair with handover := some ⟨1, 0, false⟩ }, mirrorOut := [⟨1, .note⟩] }).now }) ∧ (t.role = ({ pairAt 1 with pair := { (pairAt 1).pair with handover := some ⟨1, 0, false⟩ }, mirrorOut := [⟨1, .note⟩] }).role))) = true := by decide +kernel

theorem witness_pairRoles_handoverDrainEnd2 :
    (({ pairAt 1 with pair := { (pairAt 1).pair with handover := some ⟨1, 0, false⟩ } }).pair.handover = some (⟨1, 0, false⟩ : Handover)) ∧
    ((⟨1, 0, false⟩ : Handover).phase = 1) ∧
    ((⟨1, 0, false⟩ : Handover).live = false) ∧
    (({ pairAt 1 with pair := { (pairAt 1).pair with handover := some ⟨1, 0, false⟩ } }).drained = true) ∧
    (({ pairAt 1 with pair := { (pairAt 1).pair with handover := some ⟨1, 0, false⟩ } }).mirrorOut = []) ∧
    holds (exec .handoverDrainEnd ({ pairAt 1 with pair := { (pairAt 1).pair with handover := some ⟨1, 0, false⟩ } })) (fun t => decide ((t.pair.handover = none) ∧ (t.role = 2) ∧ (t.gen = (({ pairAt 1 with pair := { (pairAt 1).pair with handover := some ⟨1, 0, false⟩ } }).gen + 1) % 2 ^ 64) ∧ (t.out.contains (.handoverItem ({ pairAt 1 with pair := { (pairAt 1).pair with handover := some ⟨1, 0, false⟩ } }).mseq) = true) ∧ (t.rd F.HAL_PAIR_STAT_PEER_ROLE = 1))) = true := by decide +kernel

theorem witness_pairRoles_handoverItem :
    (({ pairAt 2 with pair := { (pairAt 2).pair with mack := some 6 } }).role = 2) ∧
    ((6 : Nat) ≤ ({ pairAt 2 with pair := { (pairAt 2).pair with mack := some 6 } }).pair.mack.getD 0) ∧
    (({ pairAt 2 with pair := { (pairAt 2).pair with mack := some 6 } }).cmds = []) ∧
    (({ pairAt 2 with pair := { (pairAt 2).pair with mack := some 6 } }).conns = []) ∧
    holds (exec (.handoverItem (6 : Nat)) ({ pairAt 2 with pair := { (pairAt 2).pair with mack := some 6 } })) (fun t => decide ((t.role = 1) ∧ (t.gen = (({ pairAt 2 with pair := { (pairAt 2).pair with mack := some 6 } }).gen + 1) % 2 ^ 64) ∧ (t.rd F.HAL_PAIR_STAT_PEER_ROLE = 2) ∧ (t.isSet F.HAL_PAIR_STAT_PAIRED = true))) = true := by decide +kernel

theorem witness_pairRoles_handoverItem2 :
    (({ pairAt 2 with pair := { (pairAt 2).pair with mack := some 6 } }).role = 2) ∧
    (({ pairAt 2 with pair := { (pairAt 2).pair with mack := some 6 } }).pair.mack.getD 0 < (7 : Nat)) ∧
    holds (exec (.handoverItem (7 : Nat)) ({ pairAt 2 with pair := { (pairAt 2).pair with mack := some 6 } })) (fun t => decide ((t = ({ pairAt 2 with pair := { (pairAt 2).pair with mack := some 6 } })))) = true := by decide +kernel

theorem witness_pairRoles_handoverTimeout :
    (({ pairAt 1 with pair := { (pairAt 1).pair with handover := some ⟨1, 0, false⟩ } }).pair.handover = some (⟨1, 0, false⟩ : Handover)) ∧
    ((⟨1, 0, false⟩ : Handover).phase = 1) ∧
    ((⟨1, 0, false⟩ : Handover).live = false) ∧
    (({ pairAt 1 with pair := { (pairAt 1).pair with handover := some ⟨1, 0, false⟩ } }).due ((⟨1, 0, false⟩ : Handover).since + msU 10) = true) ∧
    (({ pairAt 1 with pair := { (pairAt 1).pair with handover := some ⟨1, 0, false⟩ } }).cmds = []) ∧
    ((({ pairAt 1 with pair := { (pairAt 1).pair with handover := some ⟨1, 0, false⟩ } }).benchAt 7).state ≠ .off) ∧
    holds (exec .handoverTimeout ({ pairAt 1 with pair := { (pairAt 1).pair with handover := some ⟨1, 0, false⟩ } })) (fun t => decide ((t.pair.handover = none) ∧ (t.role = ({ pairAt 1 with pair := { (pairAt 1).pair with handover := some ⟨1, 0, false⟩ } }).role) ∧ (hasBit (t.rd (F.BENCH_EV_STAT 7)) 7 = true))) = true := by decide +kernel

theorem witness_pairRoles_holdMessage :
    ((pairAt 1).role = 1) ∧
    holds (exec (.holdMessage (7 : Nat)) (pairAt 1)) (fun t => decide ((t.pair.hold = some ((7 : Nat), (pairAt 1).now)) ∧ (t.isSet F.CTL_LIVE_STAT_HOLD = true) ∧ (t.out.head? = some (.holdAck (7 : Nat))))) = true := by decide +kernel

theorem witness_pairRoles_holdMessage2 :
    ((pairAt 2).role ≠ 1) ∧
    holds (exec (.holdMessage (7 : Nat)) (pairAt 2)) (fun t => decide ((t = (pairAt 2)))) = true := by decide +kernel

theorem witness_pairRoles_holdTimeout :
    (({ (pairAt 1).wr F.CTL_LIVE_STAT_HOLD 1 with pair := { (pairAt 1).pair with hold := some (7, 0) } }).pair.hold = some ((7 : Nat), (0 : Nat))) ∧
    (({ (pairAt 1).wr F.CTL_LIVE_STAT_HOLD 1 with pair := { (pairAt 1).pair with hold := some (7, 0) } }).due ((0 : Nat) + usU 250) = true) ∧
    holds (exec .holdTimeout ({ (pairAt 1).wr F.CTL_LIVE_STAT_HOLD 1 with pair := { (pairAt 1).pair with hold := some (7, 0) } })) (fun t => decide ((t.pair.hold = none) ∧ (t.isSet F.CTL_LIVE_STAT_HOLD = false) ∧ (t.halfUp 0 = ({ (pairAt 1).wr F.CTL_LIVE_STAT_HOLD 1 with pair := { (pairAt 1).pair with hold := some (7, 0) } }).halfUp 0) ∧ (t.halfUp 1 = ({ (pairAt 1).wr F.CTL_LIVE_STAT_HOLD 1 with pair := { (pairAt 1).pair with hold := some (7, 0) } }).halfUp 1))) = true := by decide +kernel

theorem witness_pairRoles_retireMessage :
    ((pairAt 1).role = 1) ∧
    ((pairAt 1).cmds = []) ∧
    ((pairAt 1).mirrorOut = []) ∧
    ((pairAt 1).lines = []) ∧
    ((pairAt 1).phase = 0) ∧
    holds (exec .retireMessage (pairAt 1)) (fun t => decide ((t.role = 3) ∧ (t.isSet F.HAL_PAIR_STAT_FENCING = (pairAt 1).isSet F.HAL_PAIR_STAT_FENCING) ∧ (t.rd F.HAL_PAIR_STAT_PEER_ROLE = 7) ∧ (t.gen = ((pairAt 1).gen + 1) % 2 ^ 64))) = true := by decide +kernel

theorem witness_mirror_mirrorItem :
    (({ pairAt 2 with windows := [win0] }).role = 2) ∧
    (({ pairAt 2 with windows := [win0] }).pair.closed = false) ∧
    (({ pairAt 2 with windows := [win0] }).pair.mack = some (0 : Nat)) ∧
    ((1 : Nat) = (0 : Nat) + 1) ∧
    (({ pairAt 2 with windows := [win0] }).pair.early = []) ∧
    (({ pairAt 2 with windows := [win0] }).pair.copies = []) ∧
    holds (exec (.mirrorItem (1 : Nat) (.window ({ win0 with tag := 9 } : Window))) ({ pairAt 2 with windows := [win0] })) (fun t => decide ((t.windows = ({ win0 with tag := 9 } : Window) :: ({ pairAt 2 with windows := [win0] }).windows.filter fun (z : Window) => z.index != ({ win0 with tag := 9 } : Window).index) ∧ (t.pair.mack = some (1 : Nat)) ∧ (t.pair.early = []) ∧ (t.out.head? = some (.mack (1 : Nat))) ∧ (t.rd F.HAL_MIRROR_ITEMS = (({ pairAt 2 with windows := [win0] }).rd F.HAL_MIRROR_ITEMS + 1) % 2 ^ 32))) = true := by decide +kernel

theorem witness_mirror_mirrorItem2 :
    (({ pairAt 2 with idents := [ident0] }).role = 2) ∧
    (({ pairAt 2 with idents := [ident0] }).pair.closed = false) ∧
    (({ pairAt 2 with idents := [ident0] }).pair.mack = some (0 : Nat)) ∧
    ((1 : Nat) = (0 : Nat) + 1) ∧
    (({ pairAt 2 with idents := [ident0] }).pair.early = []) ∧
    (({ pairAt 2 with idents := [ident0] }).pair.copies = []) ∧
    holds (exec (.mirrorItem (1 : Nat) (.ident ({ ident0 with tenant := 9 } : Ident))) ({ pairAt 2 with idents := [ident0] })) (fun t => decide ((t.idents = ({ pairAt 2 with idents := [ident0] }).idents.filter (fun (z : Ident) => z.index != ({ ident0 with tenant := 9 } : Ident).index) ++ [({ ident0 with tenant := 9 } : Ident)]) ∧ (t.pair.mack = some (1 : Nat)) ∧ (t.out.head? = some (.mack (1 : Nat))))) = true := by decide +kernel

theorem witness_mirror_mirrorItem3 :
    (({ pairAt 2 with pair := { (pairAt 2).pair with mack := some 6 } }).role = 2) ∧
    (({ pairAt 2 with pair := { (pairAt 2).pair with mack := some 6 } }).pair.closed = false) ∧
    (({ pairAt 2 with pair := { (pairAt 2).pair with mack := some 6 } }).pair.mack = some (6 : Nat)) ∧
    ((6 : Nat) ≤ (6 : Nat)) ∧
    (({ pairAt 2 with pair := { (pairAt 2).pair with mack := some 6 } }).pair.early = []) ∧
    holds (exec (.mirrorItem (6 : Nat) (.window win0 : MirrorBody)) ({ pairAt 2 with pair := { (pairAt 2).pair with mack := some 6 } })) (fun t => decide ((t.pair.mack = some (6 : Nat)) ∧ (t.out.head? = some (.mack (6 : Nat))) ∧ (t.windows = ({ pairAt 2 with pair := { (pairAt 2).pair with mack := some 6 } }).windows) ∧ (t.conns = ({ pairAt 2 with pair := { (pairAt 2).pair with mack := some 6 } }).conns) ∧ (t.cmds = ({ pairAt 2 with pair := { (pairAt 2).pair with mack := some 6 } }).cmds))) = true := by decide +kernel

theorem witness_mirror_mirrorItem4 :
    ((pairAt 1).role ≠ 2) ∧
    ((pairAt 1).role ≠ 4) ∧
    holds (exec (.mirrorItem (1 : Nat) (.window win0 : MirrorBody)) (pairAt 1)) (fun t => decide ((t = (pairAt 1)))) = true := by decide +kernel

theorem witness_mirror_mirrorMack :
    (({ pairAt 1 with mirrorOut := [⟨1, .note⟩, ⟨2, .note⟩] }).pair.handover = none) ∧
    (({ pairAt 1 with mirrorOut := [⟨1, .note⟩, ⟨2, .note⟩] }).pair.resync = none) ∧
    (({ pairAt 1 with mirrorOut := [⟨1, .note⟩, ⟨2, .note⟩] }).mirrorOut.all (fun (i : MirrorItem) => i.what matches .note) = true) ∧
    holds (exec (.mirrorMack (1 : Nat)) ({ pairAt 1 with mirrorOut := [⟨1, .note⟩, ⟨2, .note⟩] })) (fun t => decide ((t.mirrorOut = ({ pairAt 1 with mirrorOut := [⟨1, .note⟩, ⟨2, .note⟩] }).mirrorOut.filter fun (i : MirrorItem) => (1 : Nat) < i.seq) ∧ (t.mseq = ({ pairAt 1 with mirrorOut := [⟨1, .note⟩, ⟨2, .note⟩] }).mseq) ∧ (t.conns = ({ pairAt 1 with mirrorOut := [⟨1, .note⟩, ⟨2, .note⟩] }).conns))) = true := by decide +kernel

theorem witness_mirror_resyncCopy :
    ((pairAt 4).role = 4) ∧
    ((pairAt 4).pair.copies = []) ∧
    holds (exec (.resyncCopy (5 : Nat) (.window (win0 : Window))) (pairAt 4)) (fun t => decide ((t.windows = (win0 : Window) :: (pairAt 4).windows.filter fun (z : Window) => z.index != (win0 : Window).index) ∧ (t.pair.copies = [((7, (win0 : Window).index), (5 : Nat))]))) = true := by decide +kernel

theorem witness_mirror_resyncCopy2 :
    (({ pairAt 4 with pair := { (pairAt 4).pair with copies := [((7, 0), 6)] } }).role = 4) ∧
    ((.window win0 : MirrorBody).part (fun (k : Nat × Nat) => k.1 == 5 || ({ pairAt 4 with pair := { (pairAt 4).pair with copies := [((7, 0), 6)] } }).freshAt (5 : Nat) (fun q c => q < c) k) = none) ∧
    holds (exec (.resyncCopy (5 : Nat) (.window win0 : MirrorBody)) ({ pairAt 4 with pair := { (pairAt 4).pair with copies := [((7, 0), 6)] } })) (fun t => decide (({ t with pair := ({ pairAt 4 with pair := { (pairAt 4).pair with copies := [((7, 0), 6)] } }).pair } = ({ pairAt 4 with pair := { (pairAt 4).pair with copies := [((7, 0), 6)] } })))) = true := by decide +kernel

theorem witness_tokens_truSvnCommit :
    (imgUp.truRuns = true) ∧
    (imgUp.boot.img = some (img0 : BankImg)) ∧
    (imgUp.stepDone 15 = true) ∧
    (imgUp.boot.bank = imgUp.flash.preferred) ∧
    (imgUp.phase = 0) ∧
    (imgUp.rd F.CTL_BOOT_STAT_OWNER ≠ 2) ∧
    ((imgUp.benchAt 1).state ≠ .off) ∧
    holds (exec .truSvnCommit imgUp) (fun t => decide ((t.fuses = { imgUp.fuses with fwSvn := max imgUp.fuses.fwSvn (min 64 (img0 : BankImg).fwSvn), ownSvn := max imgUp.fuses.ownSvn (min 64 (img0 : BankImg).ownSvn) }) ∧ (hasBit (t.rd (F.BENCH_EV_STAT 1)) 6 = true) ∧ (t.isSet F.TRU_STAT_CMD_REFUSED = imgUp.isSet F.TRU_STAT_CMD_REFUSED))) = true := by decide +kernel

theorem witness_tokens_truSvnCommit2 :
    ((bootAt [1, 2]).truRuns = true) ∧
    ((bootAt [1, 2]).boot.img = none ∨ (bootAt [1, 2]).stepDone 15 = false ∨ (bootAt [1, 2]).boot.bank ≠ (bootAt [1, 2]).flash.preferred ∨ (bootAt [1, 2]).phase ≠ 0 ∨ (bootAt [1, 2]).rd F.CTL_BOOT_STAT_OWNER = 2) ∧
    holds (exec .truSvnCommit (bootAt [1, 2])) (fun t => decide ((t = (bootAt [1, 2]).wr F.TRU_STAT_CMD_REFUSED 1) ∧ (t.fuses = (bootAt [1, 2]).fuses))) = true := by decide +kernel

theorem witness_tokens_tokenRevoke :
    (truUp.truRuns = true) ∧
    (truUp.tokenResult (spliceAt (0x4B54545B : Nat) 4 1 1) = (1 : Nat)) ∧
    holds (exec (.tokenRevoke (0x4B54545B : Nat)) truUp) (fun t => decide ((t.rd F.TRU_TOKEN_CMD_RESULT = (1 : Nat)) ∧ (t.fuses = (if (1 : Nat) = 0 then { truUp.fuses with frevoke := truUp.fuses.frevoke ||| 2 ^ bytesAt (spliceAt (0x4B54545B : Nat) 4 1 1) 5 1 } else truUp.fuses)) ∧ (t.tru.nonce = none) ∧ (t.rd F.TRU_STAT_DEBUG = truUp.rd F.TRU_STAT_DEBUG))) = true := by decide +kernel

theorem witness_tokens_tokenDebugUnlock :
    (truUp.truRuns = true) ∧
    (truUp.tokenResult (spliceAt (0x4B54545A : Nat) 4 1 2) = (1 : Nat)) ∧
    holds (exec (.tokenDebugUnlock (0x4B54545A : Nat)) truUp) (fun t => decide ((t.rd F.TRU_TOKEN_CMD_RESULT = (1 : Nat)) ∧ (t.fuses = truUp.fuses) ∧ (t.rd F.TRU_STAT_DEBUG = (if (1 : Nat) = 0 ∧ bytesAt (spliceAt (0x4B54545A : Nat) 4 1 2) 5 1 = 1 then max 1 (truUp.rd F.TRU_STAT_DEBUG) else if (1 : Nat) = 0 ∧ truUp.tru.level2 = true then max 2 (truUp.rd F.TRU_STAT_DEBUG) else truUp.rd F.TRU_STAT_DEBUG)) ∧ (t.tru.level2 = decide ((1 : Nat) = 0 ∧ bytesAt (spliceAt (0x4B54545A : Nat) 4 1 2) 5 1 = 2 ∧ truUp.tru.level2 = false)))) = true := by decide +kernel

theorem witness_tokens_tokenOwnerSeed :
    (truUp.truRuns = true) ∧
    (truUp.tokenResult (spliceAt (0x1014B54545A : Nat) 4 1 3) = (1 : Nat)) ∧
    holds (exec (.tokenOwnerSeed (0x1014B54545A : Nat)) truUp) (fun t => decide ((t.rd F.TRU_TOKEN_CMD_RESULT = (1 : Nat)) ∧ (t.fuses.life = (if (1 : Nat) = 0 then truUp.fuses.life ||| 8 else truUp.fuses.life)) ∧ (t.fuses.fwSvn = truUp.fuses.fwSvn) ∧ (t.fuses.frevoke = truUp.fuses.frevoke) ∧ (t.tru.nonce = none))) = true := by decide +kernel

theorem witness_tokens_tokenDebugDisable :
    (truUp.truRuns = true) ∧
    (truUp.tokenResult (spliceAt (0x1004B54545A : Nat) 4 1 4) = (1 : Nat)) ∧
    holds (exec (.tokenDebugDisable (0x1004B54545A : Nat)) truUp) (fun t => decide ((t.rd F.TRU_TOKEN_CMD_RESULT = (1 : Nat)) ∧ (t.fuses = (if (1 : Nat) = 0 then { truUp.fuses with life := truUp.fuses.life ||| bytesAt (spliceAt (0x1004B54545A : Nat) 4 1 4) 5 1 } else truUp.fuses)) ∧ (t.tru.nonce = none))) = true := by decide +kernel

theorem witness_tokens_truNonceRead :
    (truUp.tru.nonce = some (77 : Nat)) ∧
    holds (exec .truNonceRead truUp) (fun t => decide ((t = { truUp with out := .value ((77 : Nat) % 2 ^ 32) :: truUp.out }))) = true := by decide +kernel

theorem witness_tokens_truNonceRead2 :
    (imgUp.tru.nonce = none) ∧
    (imgUp.truRuns = true) ∧
    holds (exec .truNonceRead imgUp) (fun t => decide ((t.tru.nonce.isSome = true) ∧ (t.freeCount = imgUp.freeCount + 1) ∧ (t.out.length = imgUp.out.length + 1) ∧ (t.regs = imgUp.regs))) = true := by decide +kernel

theorem witness_tamperAndHolds_tamperTrip :
    (1 ≤ (5 : Nat)) ∧
    ((5 : Nat) ≤ 5) ∧
    (({ truUp with faultDeclared := true }).boot.held = none) ∧
    (({ truUp with faultDeclared := true }).faultDeclared = true) ∧
    holds (exec (.tamperTrip (5 : Nat)) ({ truUp with faultDeclared := true })) (fun t => decide ((t.boot.held = some 4) ∧ (t.tru.ksr = false) ∧ (t.tru.kcw = none) ∧ (t.tru.memKey = none) ∧ (t.tru.ak = none) ∧ (t.rd F.TRU_STAT_TAMPER_CAUSE = (5 : Nat)) ∧ (t.rd F.TRU_STAT_TAMPER_CNT = min 3 (({ truUp with faultDeclared := true }).rd F.TRU_STAT_TAMPER_CNT + 1)) ∧ (t.rd F.TRU_STAT_STOP = 4) ∧ (t.fuses = ({ truUp with faultDeclared := true }).fuses))) = true := by decide +kernel

theorem witness_tamperAndHolds_trngHealthFail :
    (imgUp.boot.held = none) ∧
    (imgUp.stepDone 1 = true) ∧
    (imgUp.stepDone 3 = true) ∧
    ((imgUp.benchAt 1).state ≠ .off) ∧
    holds (exec .trngHealthFail imgUp) (fun t => decide ((t.rd F.TRU_STAT_STOP = 3) ∧ (hasBit (t.rd (F.BENCH_EV_STAT 1)) 5 = true) ∧ (t.boot.stopped = imgUp.boot.stopped) ∧ (t.faultDeclared = true))) = true := by decide +kernel

theorem witness_tamperAndHolds_trngHealthFail2 :
    ((bootAt [1, 2]).boot.held = none) ∧
    ((bootAt [1, 2]).stepDone 1 = true) ∧
    ((bootAt [1, 2]).stepDone 3 = false) ∧
    holds (exec .trngHealthFail (bootAt [1, 2])) (fun t => decide ((t.rd F.TRU_STAT_STOP = 3) ∧ (t.boot.stopped = true) ∧ (t.faultDeclared = (bootAt [1, 2]).faultDeclared))) = true := by decide +kernel

theorem witness_tamperAndHolds_thermtrip :
    (({ truUp with faultDeclared := true }).faultDeclared = true) ∧
    holds (exec .thermtrip ({ truUp with faultDeclared := true })) (fun t => decide ((t.boot.held = some 5) ∧ (t.tru.trip = true) ∧ (t.conns = []) ∧ (t.fuses = ({ truUp with faultDeclared := true }).fuses))) = true := by decide +kernel

theorem witness_tamperAndHolds_jtagInstructionLoad :
    (hostUp.boot.held = none) ∧
    holds (exec (.jtagInstructionLoad .extest) hostUp) (fun t => decide ((t.boot.held = some 1) ∧ (t.tru.jtag = true) ∧ (t.conns = []) ∧ (t.fuses = hostUp.fuses))) = true := by decide +kernel

theorem witness_tamperAndHolds_jtagInstructionLoad2 :
    (hostUp.boot.held = none) ∧
    holds (exec (.jtagInstructionLoad .intest) hostUp) (fun t => decide ((t.boot.held = some 1) ∧ (t.tru.jtag = true))) = true := by decide +kernel

theorem witness_tamperAndHolds_jtagInstructionLoad3 :
    ((.sample : JtagIns) ≠ .extest) ∧
    ((.sample : JtagIns) ≠ .intest) ∧
    holds (exec (.jtagInstructionLoad (.sample : JtagIns)) ({ up with tru := { up.tru with jtag := true } })) (fun t => decide ((t = { ({ up with tru := { up.tru with jtag := true } }) with tru := { ({ up with tru := { up.tru with jtag := true } }).tru with jtag := false } }))) = true := by decide +kernel

theorem witness_attestation_pairingMessage :
    (truUp.rd F.TRU_STAT_STEP = 8) ∧
    ((⟨0, 4, 5, 6, 9, true, true⟩ : PairMsg).slotB = truUp.rd F.CTL_BOOT_STAT_SLOT_B) ∧
    ((truUp.benchAt 1).state ≠ .off) ∧
    holds (exec (.pairingMessage (⟨0, 4, 5, 6, 9, true, true⟩ : PairMsg)) truUp) (fun t => decide ((t.role = 5) ∧ (t.isSet F.HAL_PAIR_STAT_PAIRED = false) ∧ (hasBit (t.rd (F.BENCH_EV_STAT 1)) 10 = true) ∧ (t.pair = truUp.pair))) = true := by decide +kernel

theorem witness_attestation_pairingMessage2 :
    (truUp.rd F.TRU_STAT_STEP = 8) ∧
    ((⟨1, 4, 5, 6, 9, true, true⟩ : PairMsg).slotB ≠ truUp.rd F.CTL_BOOT_STAT_SLOT_B) ∧
    ((⟨1, 4, 5, 6, 9, true, true⟩ : PairMsg).certsOk = true) ∧
    ((⟨1, 4, 5, 6, 9, true, true⟩ : PairMsg).ownerKey = truUp.fuses.ownerKey) ∧
    (truUp.haulHalf = none) ∧
    holds (exec (.pairingMessage (⟨1, 4, 5, 6, 9, true, true⟩ : PairMsg)) truUp) (fun t => decide ((t.pair.exchanged = true) ∧ (t.tru.pairNonce = none) ∧ (t.tru.ksr = (truUp.tru.ksr || ((⟨1, 4, 5, 6, 9, true, true⟩ : PairMsg).ksr && !truUp.tru.blocked))))) = true := by decide +kernel

theorem witness_attestation_pairingMessage3 :
    (imgUp.rd F.TRU_STAT_STEP ≠ 8) ∧
    holds (exec (.pairingMessage (⟨1, 4, 5, 6, 9, true, true⟩ : PairMsg)) imgUp) (fun t => decide ((t = imgUp))) = true := by decide +kernel

theorem witness_attestation_spdmGetVersion :
    (spdmTakes truUp (0 : Nat) 0 = true) ∧
    holds (exec (.spdmGetVersion (0 : Nat)) truUp) (fun t => decide ((t.out = .spdm (0 : Nat) 0x04 [0x12] :: truUp.out) ∧ (t.spdmAt (0 : Nat) = 1) ∧ (t.regs = truUp.regs))) = true := by decide +kernel

theorem witness_attestation_spdmGetVersion2 :
    ((truUp.wr F.TRU_STAT_STEP 7).pathUp (1 : Nat) = true) ∧
    ((truUp.wr F.TRU_STAT_STEP 7).eid (1 : Nat) ≠ 0) ∧
    ((truUp.wr F.TRU_STAT_STEP 7).isSet (F.CTL_MGT_PATH_SPDM (1 : Nat)) = true) ∧
    ((truUp.wr F.TRU_STAT_STEP 7).rd F.TRU_STAT_STEP ≠ 8) ∧
    holds (exec (.spdmGetVersion (1 : Nat)) (truUp.wr F.TRU_STAT_STEP 7)) (fun t => decide ((t = { (truUp.wr F.TRU_STAT_STEP 7) with out := .spdm (1 : Nat) 0x7F [0x42] :: (truUp.wr F.TRU_STAT_STEP 7).out }))) = true := by decide +kernel

theorem witness_attestation_spdmGetCapabilities :
    (spdmTakes (spdmUp 1) (0 : Nat) 1 = true) ∧
    holds (exec (.spdmGetCapabilities (0 : Nat)) (spdmUp 1)) (fun t => decide ((t.out = .spdm (0 : Nat) 0x61 [0x36] :: (spdmUp 1).out) ∧ (t.spdmAt (0 : Nat) = 2))) = true := by decide +kernel

theorem witness_attestation_spdmNegotiateAlgorithms :
    (spdmTakes (spdmUp 2) (0 : Nat) 2 = true) ∧
    ((true : Bool) = true) ∧
    holds (exec (.spdmNegotiateAlgorithms (0 : Nat) (true : Bool)) (spdmUp 2)) (fun t => decide ((t.out = .spdm (0 : Nat) 0x63 [0x40, 4, 8, 1] :: (spdmUp 2).out) ∧ (t.spdmAt (0 : Nat) = 3))) = true := by decide +kernel

theorem witness_attestation_spdmGetDigests :
    (spdmTakes (spdmUp 3) (0 : Nat) 3 = true) ∧
    ((spdmUp 3).isSet F.TRU_STAT_DIK_OK = false) ∧
    holds (exec (.spdmGetDigests (0 : Nat)) (spdmUp 3)) (fun t => decide ((t = { (spdmUp 3) with out := .spdm (0 : Nat) 0x01 [0] :: (spdmUp 3).out }))) = true := by decide +kernel

theorem witness_attestation_spdmGetDigests2 :
    (spdmTakes ((spdmUp 3).wr F.TRU_STAT_DIK_OK 1) (0 : Nat) 3 = true) ∧
    (((spdmUp 3).wr F.TRU_STAT_DIK_OK 1).isSet F.TRU_STAT_DIK_OK = true) ∧
    holds (exec (.spdmGetDigests (0 : Nat)) ((spdmUp 3).wr F.TRU_STAT_DIK_OK 1)) (fun t => decide ((t.out.length = ((spdmUp 3).wr F.TRU_STAT_DIK_OK 1).out.length + 1) ∧ (t.out.tail = ((spdmUp 3).wr F.TRU_STAT_DIK_OK 1).out))) = true := by decide +kernel

theorem witness_attestation_spdmGetCertificate :
    (spdmTakes (spdmUp 3) (0 : Nat) 3 = true) ∧
    ((spdmUp 3).isSet F.TRU_STAT_DIK_OK = false) ∧
    holds (exec (.spdmGetCertificate (0 : Nat) (0 : Nat) (0 : Nat) (1024 : Nat)) (spdmUp 3)) (fun t => decide ((t = { (spdmUp 3) with out := .spdm (0 : Nat) 0x7F [1] :: (spdmUp 3).out }))) = true := by decide +kernel

theorem witness_attestation_spdmGetCertificate2 :
    (spdmTakes ((spdmUp 3).wr F.TRU_STAT_DIK_OK 1) (0 : Nat) 3 = true) ∧
    (((spdmUp 3).wr F.TRU_STAT_DIK_OK 1).isSet F.TRU_STAT_DIK_OK = true) ∧
    holds (exec (.spdmGetCertificate (0 : Nat) (0 : Nat) (0 : Nat) (1024 : Nat)) ((spdmUp 3).wr F.TRU_STAT_DIK_OK 1)) (fun _ => true) = true := by decide +kernel

theorem witness_attestation_spdmChallenge :
    (spdmTakes ((spdmUp 3).wr F.TRU_STAT_DIK_OK 1) (0 : Nat) 3 = true) ∧
    (((spdmUp 3).wr F.TRU_STAT_DIK_OK 1).isSet F.TRU_STAT_DIK_OK = true) ∧
    ((0 : Nat) = 0) ∧
    (((spdmUp 3).wr F.TRU_STAT_DIK_OK 1).tru.sigs = []) ∧
    holds (exec (.spdmChallenge (0 : Nat) (0 : Nat) (5 : Nat)) ((spdmUp 3).wr F.TRU_STAT_DIK_OK 1)) (fun t => decide ((t.tru.sigs = [((spdmUp 3).wr F.TRU_STAT_DIK_OK 1).now + msU 45]) ∧ (t.out.tail = ((spdmUp 3).wr F.TRU_STAT_DIK_OK 1).out) ∧ (t.regs = ((spdmUp 3).wr F.TRU_STAT_DIK_OK 1).regs))) = true := by decide +kernel

theorem witness_attestation_spdmGetMeasurements :
    (spdmTakes (spdmUp 3) (0 : Nat) 3 = true) ∧
    holds (exec (.spdmGetMeasurements (0 : Nat) 0 (5 : Nat) false) (spdmUp 3)) (fun t => decide ((t = { (spdmUp 3) with out := .spdm (0 : Nat) 0x60 [(spdmUp 3).measurements.length] :: (spdmUp 3).out }))) = true := by decide +kernel

theorem witness_attestation_spdmGetMeasurements2 :
    (spdmTakes (spdmUp 3) (0 : Nat) 3 = true) ∧
    ((spdmUp 3).boot.img = some (img0 : BankImg)) ∧
    holds (exec (.spdmGetMeasurements (0 : Nat) 6 (5 : Nat) false) (spdmUp 3)) (fun t => decide ((t = { (spdmUp 3) with out := .spdm (0 : Nat) 0x60 [6, (img0 : BankImg).fwSvn + 65536 * (img0 : BankImg).ownSvn + 2 ^ 32 * (spdmUp 3).fuses.fwSvn + 2 ^ 48 * (spdmUp 3).fuses.ownSvn] :: (spdmUp 3).out }))) = true := by decide +kernel

theorem witness_attestation_spdmGetMeasurements3 :
    (spdmTakes ({ spdmUp 3 with tru := { (spdmUp 3).tru with sigs := [up.now + msU 45] } }) (0 : Nat) 3 = true) ∧
    ((({ spdmUp 3 with tru := { (spdmUp 3).tru with sigs := [up.now + msU 45] } }).measurement (4 : Nat)).isSome = true) ∧
    ((4 : Nat) ≠ 0) ∧
    ((4 : Nat) ≠ 255) ∧
    (({ spdmUp 3 with tru := { (spdmUp 3).tru with sigs := [up.now + msU 45] } }).tru.sigs = [({ spdmUp 3 with tru := { (spdmUp 3).tru with sigs := [up.now + msU 45] } }).now + msU 45]) ∧
    holds (exec (.spdmGetMeasurements (0 : Nat) (4 : Nat) (5 : Nat) true) ({ spdmUp 3 with tru := { (spdmUp 3).tru with sigs := [up.now + msU 45] } })) (fun t => decide ((t.tru.sigs = [({ spdmUp 3 with tru := { (spdmUp 3).tru with sigs := [up.now + msU 45] } }).now + msU 45, ({ spdmUp 3 with tru := { (spdmUp 3).tru with sigs := [up.now + msU 45] } }).now + msU 90]) ∧ (t.out.tail = ({ spdmUp 3 with tru := { (spdmUp 3).tru with sigs := [up.now + msU 45] } }).out))) = true := by decide +kernel

theorem witness_vendorRequests_mgtRegRead :
    (mgtTakes truUp (0 : Nat) 1 (req0 [0, 0x30, 0x10, 0x0C, 1, 0, 0, 0] : VendorReq) = true) ∧
    (reqField (req0 [0, 0x30, 0x10, 0x0C, 1, 0, 0, 0] : VendorReq).body 4 1 = 1) ∧
    holds (exec (.mgtRegRead (0 : Nat) (req0 [0, 0x30, 0x10, 0x0C, 1, 0, 0, 0] : VendorReq)) truUp) (fun t => decide ((t = (truUp.regRead (0 : Nat) (reqField (req0 [0, 0x30, 0x10, 0x0C, 1, 0, 0, 0] : VendorReq).body 0 4)).1.send (.vendor (0 : Nat) (req0 [0, 0x30, 0x10, 0x0C, 1, 0, 0, 0] : VendorReq).eid (req0 [0, 0x30, 0x10, 0x0C, 1, 0, 0, 0] : VendorReq).tag 0x81 0 0 (beBytes (truUp.regRead (0 : Nat) (reqField (req0 [0, 0x30, 0x10, 0x0C, 1, 0, 0, 0] : VendorReq).body 0 4)).2 4))))) = true := by decide +kernel

theorem witness_vendorRequests_mgtRegRead2 :
    ((truUp.wr (F.CTL_MGT_PATH_REG_READ 0) 0).truOnly = false) ∧
    (2 ≤ (0 : Nat) ∨ (req0 [0, 0x30, 0x10, 0x0C, 1, 0, 0, 0] : VendorReq).pec = true) ∧
    ((req0 [0, 0x30, 0x10, 0x0C, 1, 0, 0, 0] : VendorReq).body.length ≤ 1016) ∧
    ((truUp.wr (F.CTL_MGT_PATH_REG_READ 0) 0).mctpOpen (0 : Nat) = true) ∧
    ((truUp.wr (F.CTL_MGT_PATH_REG_READ 0) 0).unanswered (0 : Nat) < 4) ∧
    ((req0 [0, 0x30, 0x10, 0x0C, 1, 0, 0, 0] : VendorReq).zero = true) ∧
    ((req0 [0, 0x30, 0x10, 0x0C, 1, 0, 0, 0] : VendorReq).unit = 255) ∧
    (bodyCode 1 (req0 [0, 0x30, 0x10, 0x0C, 1, 0, 0, 0] : VendorReq).body = 0) ∧
    ((truUp.wr (F.CTL_MGT_PATH_REG_READ 0) 0).permits (0 : Nat) 0 = false) ∧
    holds (exec (.mgtRegRead (0 : Nat) (req0 [0, 0x30, 0x10, 0x0C, 1, 0, 0, 0] : VendorReq)) (truUp.wr (F.CTL_MGT_PATH_REG_READ 0) 0)) (fun t => decide ((t = { (truUp.wr (F.CTL_MGT_PATH_REG_READ 0) 0) with out := .vendor (0 : Nat) (req0 [0, 0x30, 0x10, 0x0C, 1, 0, 0, 0] : VendorReq).eid (req0 [0, 0x30, 0x10, 0x0C, 1, 0, 0, 0] : VendorReq).tag 0x81 4 0 [] :: (truUp.wr (F.CTL_MGT_PATH_REG_READ 0) 0).out }))) = true := by decide +kernel

theorem witness_vendorRequests_mgtRegRead3 :
    (({ truUp with mgt := { truUp.mgt with busy := [4, 0, 0, 0, 0] } }).truOnly = false) ∧
    (2 ≤ (0 : Nat) ∨ (req0 [] : VendorReq).pec = true) ∧
    ((req0 [] : VendorReq).body.length ≤ 1016) ∧
    (({ truUp with mgt := { truUp.mgt with busy := [4, 0, 0, 0, 0] } }).mctpOpen (0 : Nat) = true) ∧
    (4 ≤ ({ truUp with mgt := { truUp.mgt with busy := [4, 0, 0, 0, 0] } }).unanswered (0 : Nat)) ∧
    holds (exec (.mgtRegRead (0 : Nat) (req0 [] : VendorReq)) ({ truUp with mgt := { truUp.mgt with busy := [4, 0, 0, 0, 0] } })) (fun t => decide ((t = { ({ truUp with mgt := { truUp.mgt with busy := [4, 0, 0, 0, 0] } }) with out := .vendor (0 : Nat) (req0 [] : VendorReq).eid (req0 [] : VendorReq).tag 0x81 0x0C 0 [] :: ({ truUp with mgt := { truUp.mgt with busy := [4, 0, 0, 0, 0] } }).out }))) = true := by decide +kernel

theorem witness_vendorRequests_mgtRegWrite :
    (mgtTakes truUp (0 : Nat) 2 (req0 [0, 0x20, 0x10, 0x24, 1, 0, 0, 0, 0, 0, 0, 9] : VendorReq) = true) ∧
    (reqField (req0 [0, 0x20, 0x10, 0x24, 1, 0, 0, 0, 0, 0, 0, 9] : VendorReq).body 4 1 = 1) ∧
    holds (exec (.mgtRegWrite (0 : Nat) (req0 [0, 0x20, 0x10, 0x24, 1, 0, 0, 0, 0, 0, 0, 9] : VendorReq)) truUp) (fun t => decide ((t = (truUp.regWrite (reqField (req0 [0, 0x20, 0x10, 0x24, 1, 0, 0, 0, 0, 0, 0, 9] : VendorReq).body 0 4) (reqField (req0 [0, 0x20, 0x10, 0x24, 1, 0, 0, 0, 0, 0, 0, 9] : VendorReq).body 8 4) 0xFFFFFFFF).1.send (.vendor (0 : Nat) (req0 [0, 0x20, 0x10, 0x24, 1, 0, 0, 0, 0, 0, 0, 9] : VendorReq).eid (req0 [0, 0x20, 0x10, 0x24, 1, 0, 0, 0, 0, 0, 0, 9] : VendorReq).tag 0x82 (truUp.regWrite (reqField (req0 [0, 0x20, 0x10, 0x24, 1, 0, 0, 0, 0, 0, 0, 9] : VendorReq).body 0 4) (reqField (req0 [0, 0x20, 0x10, 0x24, 1, 0, 0, 0, 0, 0, 0, 9] : VendorReq).body 8 4) 0xFFFFFFFF).2 0 [])))) = true := by decide +kernel

theorem witness_vendorRequests_mgtRegModify :
    (mgtTakes truUp (0 : Nat) 3 (req0 [0, 0x20, 0x10, 0x24, 0, 0, 0, 0xFF, 0, 0, 0, 9] : VendorReq) = true) ∧
    holds (exec (.mgtRegModify (0 : Nat) (req0 [0, 0x20, 0x10, 0x24, 0, 0, 0, 0xFF, 0, 0, 0, 9] : VendorReq)) truUp) (fun t => decide ((t = ((truUp.regRead (0 : Nat) (reqField (req0 [0, 0x20, 0x10, 0x24, 0, 0, 0, 0xFF, 0, 0, 0, 9] : VendorReq).body 0 4)).1.regWrite (reqField (req0 [0, 0x20, 0x10, 0x24, 0, 0, 0, 0xFF, 0, 0, 0, 9] : VendorReq).body 0 4) (reqField (req0 [0, 0x20, 0x10, 0x24, 0, 0, 0, 0xFF, 0, 0, 0, 9] : VendorReq).body 8 4) (reqField (req0 [0, 0x20, 0x10, 0x24, 0, 0, 0, 0xFF, 0, 0, 0, 9] : VendorReq).body 4 4)).1.send (.vendor (0 : Nat) (req0 [0, 0x20, 0x10, 0x24, 0, 0, 0, 0xFF, 0, 0, 0, 9] : VendorReq).eid (req0 [0, 0x20, 0x10, 0x24, 0, 0, 0, 0xFF, 0, 0, 0, 9] : VendorReq).tag 0x83 ((truUp.regRead (0 : Nat) (reqField (req0 [0, 0x20, 0x10, 0x24, 0, 0, 0, 0xFF, 0, 0, 0, 9] : VendorReq).body 0 4)).1.regWrite (reqField (req0 [0, 0x20, 0x10, 0x24, 0, 0, 0, 0xFF, 0, 0, 0, 9] : VendorReq).body 0 4) (reqField (req0 [0, 0x20, 0x10, 0x24, 0, 0, 0, 0xFF, 0, 0, 0, 9] : VendorReq).body 8 4) (reqField (req0 [0, 0x20, 0x10, 0x24, 0, 0, 0, 0xFF, 0, 0, 0, 9] : VendorReq).body 4 4)).2 0 (beBytes (truUp.regRead (0 : Nat) (reqField (req0 [0, 0x20, 0x10, 0x24, 0, 0, 0, 0xFF, 0, 0, 0, 9] : VendorReq).body 0 4)).2 4))))) = true := by decide +kernel

theorem witness_vendorRequests_mgtEvSubscribe :
    (mgtTakes truUp (1 : Nat) 16 (req0 [2, 1, 0, 0] : VendorReq) = true) ∧
    (reqField (req0 [2, 1, 0, 0] : VendorReq).body 1 1 = 1) ∧
    (truUp.subs.length < 4) ∧
    (truUp.subs.any (fun (z : Subscriber) => z.is (1 : Nat) (req0 [2, 1, 0, 0] : VendorReq).eid) = false) ∧
    holds (exec (.mgtEvSubscribe (1 : Nat) (req0 [2, 1, 0, 0] : VendorReq)) truUp) (fun t => decide ((t.subs = truUp.subs ++ [⟨(1 : Nat), (req0 [2, 1, 0, 0] : VendorReq).eid, reqField (req0 [2, 1, 0, 0] : VendorReq).body 0 1, [], 0, none, 0, none⟩]) ∧ (t.out = .vendor (1 : Nat) (req0 [2, 1, 0, 0] : VendorReq).eid (req0 [2, 1, 0, 0] : VendorReq).tag 0x90 0 0 [] :: truUp.out) ∧ (t.regs = truUp.regs))) = true := by decide +kernel

theorem witness_vendorRequests_mgtEvSubscribe2 :
    (mgtTakes ({ truUp with subs := [⟨1, 8, 0, [], 0, none, 0, none⟩] }) (1 : Nat) 16 (req0 [2, 0, 0, 0] : VendorReq) = true) ∧
    (reqField (req0 [2, 0, 0, 0] : VendorReq).body 1 1 = 0) ∧
    holds (exec (.mgtEvSubscribe (1 : Nat) (req0 [2, 0, 0, 0] : VendorReq)) ({ truUp with subs := [⟨1, 8, 0, [], 0, none, 0, none⟩] })) (fun t => decide ((t = { ({ truUp with subs := [⟨1, 8, 0, [], 0, none, 0, none⟩] }) with subs := ({ truUp with subs := [⟨1, 8, 0, [], 0, none, 0, none⟩] }).subs.filter (fun (z : Subscriber) => !z.is (1 : Nat) (req0 [2, 0, 0, 0] : VendorReq).eid), out := .vendor (1 : Nat) (req0 [2, 0, 0, 0] : VendorReq).eid (req0 [2, 0, 0, 0] : VendorReq).tag 0x90 0 0 [] :: ({ truUp with subs := [⟨1, 8, 0, [], 0, none, 0, none⟩] }).out }))) = true := by decide +kernel

theorem witness_vendorRequests_mgtLogRead :
    (mgtTakes truUp (1 : Nat) 18 (req0 [0, 0, 0, 0, 0, 0, 0, 0, 8, 0, 0, 0] : VendorReq) = true) ∧
    holds (exec (.mgtLogRead (1 : Nat) (req0 [0, 0, 0, 0, 0, 0, 0, 0, 8, 0, 0, 0] : VendorReq)) truUp) (fun t => decide ((t = { truUp with out := .vendor (1 : Nat) (req0 [0, 0, 0, 0, 0, 0, 0, 0, 8, 0, 0, 0] : VendorReq).eid (req0 [0, 0, 0, 0, 0, 0, 0, 0, 8, 0, 0, 0] : VendorReq).tag 0x92 0 0 (truUp.logBody (reqField (req0 [0, 0, 0, 0, 0, 0, 0, 0, 8, 0, 0, 0] : VendorReq).body 0 8) (reqField (req0 [0, 0, 0, 0, 0, 0, 0, 0, 8, 0, 0, 0] : VendorReq).body 8 1)) :: truUp.out }))) = true := by decide +kernel

theorem witness_vendorRequests_mgtIdentSet :
    (mgtTakes ({ truUp with fuses := { truUp.fuses with life := 10 } }) (0 : Nat) 32 (req0 ([0, 5, 0, 0] ++ [7] ++ List.replicate 222 0 ++ [9] ++ List.replicate 15 0 ++ [3, 0, 0, 0] ++ List.replicate 146 0 ++ [127] ++ List.replicate 122 0) : VendorReq) = true) ∧
    (({ truUp with fuses := { truUp.fuses with life := 10 } }).isActive = true) ∧
    (({ truUp with fuses := { truUp.fuses with life := 10 } }).paired = false) ∧
    (({ truUp with fuses := { truUp.fuses with life := 10 } }).pair.resync = none) ∧
    (({ truUp with fuses := { truUp.fuses with life := 10 } }).stepDone 14 = true) ∧
    (({ truUp with fuses := { truUp.fuses with life := 10 } }).identRefusal (beNat ((req0 ([0, 5, 0, 0] ++ [7] ++ List.replicate 222 0 ++ [9] ++ List.replicate 15 0 ++ [3, 0, 0, 0] ++ List.replicate 146 0 ++ [127] ++ List.replicate 122 0) : VendorReq).body.take 2)) (leNat ((req0 ([0, 5, 0, 0] ++ [7] ++ List.replicate 222 0 ++ [9] ++ List.replicate 15 0 ++ [3, 0, 0, 0] ++ List.replicate 146 0 ++ [127] ++ List.replicate 122 0) : VendorReq).body.drop 4)) (true : Bool) = none) ∧
    holds (exec (.mgtIdentSet (0 : Nat) (req0 ([0, 5, 0, 0] ++ [7] ++ List.replicate 222 0 ++ [9] ++ List.replicate 15 0 ++ [3, 0, 0, 0] ++ List.replicate 146 0 ++ [127] ++ List.replicate 122 0) : VendorReq) (true : Bool)) ({ truUp with fuses := { truUp.fuses with life := 10 } })) (fun t => decide (((t.idents.find? fun (z : Ident) => z.index == beNat ((req0 ([0, 5, 0, 0] ++ [7] ++ List.replicate 222 0 ++ [9] ++ List.replicate 15 0 ++ [3, 0, 0, 0] ++ List.replicate 146 0 ++ [127] ++ List.replicate 122 0) : VendorReq).body.take 2)).any (fun (z : Ident) => z.nqn == bytesAt (leNat ((req0 ([0, 5, 0, 0] ++ [7] ++ List.replicate 222 0 ++ [9] ++ List.replicate 15 0 ++ [3, 0, 0, 0] ++ List.replicate 146 0 ++ [127] ++ List.replicate 122 0) : VendorReq).body.drop 4)) 0 223 && z.tenant == bytesAt (leNat ((req0 ([0, 5, 0, 0] ++ [7] ++ List.replicate 222 0 ++ [9] ++ List.replicate 15 0 ++ [3, 0, 0, 0] ++ List.replicate 146 0 ++ [127] ++ List.replicate 122 0) : VendorReq).body.drop 4)) 239 4) = true) ∧ (t.out.head? = some (.vendor (0 : Nat) (req0 ([0, 5, 0, 0] ++ [7] ++ List.replicate 222 0 ++ [9] ++ List.replicate 15 0 ++ [3, 0, 0, 0] ++ List.replicate 146 0 ++ [127] ++ List.replicate 122 0) : VendorReq).eid (req0 ([0, 5, 0, 0] ++ [7] ++ List.replicate 222 0 ++ [9] ++ List.replicate 15 0 ++ [3, 0, 0, 0] ++ List.replicate 146 0 ++ [127] ++ List.replicate 122 0) : VendorReq).tag 0xA0 0 0 [])))) = true := by decide +kernel

theorem witness_vendorRequests_mgtIdentSet2 :
    (mgtTakes truUp (0 : Nat) 32 (req0 ([0, 5, 0, 0] ++ List.replicate 512 0) : VendorReq) = true) ∧
    (truUp.isActive = true) ∧
    (truUp.stepDone 14 = true) ∧
    (truUp.identRefusal (beNat ((req0 ([0, 5, 0, 0] ++ List.replicate 512 0) : VendorReq).body.take 2)) (leNat ((req0 ([0, 5, 0, 0] ++ List.replicate 512 0) : VendorReq).body.drop 4)) (true : Bool) = some (4 : Nat)) ∧
    holds (exec (.mgtIdentSet (0 : Nat) (req0 ([0, 5, 0, 0] ++ List.replicate 512 0) : VendorReq) (true : Bool)) truUp) (fun t => decide ((t = { truUp with out := .vendor (0 : Nat) (req0 ([0, 5, 0, 0] ++ List.replicate 512 0) : VendorReq).eid (req0 ([0, 5, 0, 0] ++ List.replicate 512 0) : VendorReq).tag 0xA0 0x0B (4 : Nat) [] :: truUp.out }))) = true := by decide +kernel

theorem witness_vendorRequests_mgtIdentDereg :
    (mgtTakes ({ truUp with idents := [{ ident0 with index := 5 }] }) (0 : Nat) 33 (req0 [0, 5, 0, 0] : VendorReq) = true) ∧
    (({ truUp with idents := [{ ident0 with index := 5 }] }).isActive = true) ∧
    (({ truUp with idents := [{ ident0 with index := 5 }] }).paired = false) ∧
    (({ truUp with idents := [{ ident0 with index := 5 }] }).pair.resync = none) ∧
    (({ truUp with idents := [{ ident0 with index := 5 }] }).stepDone 14 = true) ∧
    (beNat ((req0 [0, 5, 0, 0] : VendorReq).body.take 2) ≤ 16383) ∧
    (({ truUp with idents := [{ ident0 with index := 5 }] }).idents.any (fun (z : Ident) => z.index == beNat ((req0 [0, 5, 0, 0] : VendorReq).body.take 2)) = true) ∧
    (({ truUp with idents := [{ ident0 with index := 5 }] }).ctrls = []) ∧
    (({ truUp with idents := [{ ident0 with index := 5 }] }).nss = []) ∧
    (({ truUp with idents := [{ ident0 with index := 5 }] }).windows = []) ∧
    holds (exec (.mgtIdentDereg (0 : Nat) (req0 [0, 5, 0, 0] : VendorReq)) ({ truUp with idents := [{ ident0 with index := 5 }] })) (fun t => decide ((t.idents = ({ truUp with idents := [{ ident0 with index := 5 }] }).idents.filter fun (z : Ident) => z.index != beNat ((req0 [0, 5, 0, 0] : VendorReq).body.take 2)) ∧ (t.out.head? = some (.vendor (0 : Nat) (req0 [0, 5, 0, 0] : VendorReq).eid (req0 [0, 5, 0, 0] : VendorReq).tag 0xA1 0 0 [])))) = true := by decide +kernel

theorem witness_vendorRequests_mgtIdentGet :
    (mgtTakes ({ truUp with idents := [{ ident0 with index := 5 }] }) (0 : Nat) 34 (req0 [0, 5, 0, 0] : VendorReq) = true) ∧
    (({ truUp with idents := [{ ident0 with index := 5 }] }).isActive = true) ∧
    (({ truUp with idents := [{ ident0 with index := 5 }] }).stepDone 14 = true) ∧
    (beNat ((req0 [0, 5, 0, 0] : VendorReq).body.take 2) ≤ 16383) ∧
    holds (exec (.mgtIdentGet (0 : Nat) (req0 [0, 5, 0, 0] : VendorReq)) ({ truUp with idents := [{ ident0 with index := 5 }] })) (fun t => decide ((t = { ({ truUp with idents := [{ ident0 with index := 5 }] }) with out := .vendor (0 : Nat) (req0 [0, 5, 0, 0] : VendorReq).eid (req0 [0, 5, 0, 0] : VendorReq).tag 0xA2 0 0 (toBytes (((({ truUp with idents := [{ ident0 with index := 5 }] }).idents.find? fun (z : Ident) => z.index == beNat ((req0 [0, 5, 0, 0] : VendorReq).body.take 2)).map identBytes).getD 0) 512) :: ({ truUp with idents := [{ ident0 with index := 5 }] }).out }))) = true := by decide +kernel

theorem witness_vendorRequests_mgtQosSet :
    (mgtTakes ({ truUp with nss := [ns1] }) (0 : Nat) 40 (req0 ([0, 0, 0, 0, 0, 0, 0, 1] ++ List.replicate 16 0 ++ [5] ++ List.replicate 47 0) : VendorReq) = true) ∧
    ((req0 ([0, 0, 0, 0, 0, 0, 0, 1] ++ List.replicate 16 0 ++ [5] ++ List.replicate 47 0) : VendorReq).body.getD 0 0 = 0) ∧
    (({ truUp with nss := [ns1] }).isActive = true) ∧
    (({ truUp with nss := [ns1] }).paired = false) ∧
    (({ truUp with nss := [ns1] }).pair.resync = none) ∧
    (({ truUp with nss := [ns1] }).qosRefusal true 0 (beNat (((req0 ([0, 0, 0, 0, 0, 0, 0, 1] ++ List.replicate 16 0 ++ [5] ++ List.replicate 47 0) : VendorReq).body.drop 4).take 4)) (leNat ((req0 ([0, 0, 0, 0, 0, 0, 0, 1] ++ List.replicate 16 0 ++ [5] ++ List.replicate 47 0) : VendorReq).body.drop 8)) = none) ∧
    holds (exec (.mgtQosSet (0 : Nat) (req0 ([0, 0, 0, 0, 0, 0, 0, 1] ++ List.replicate 16 0 ++ [5] ++ List.replicate 47 0) : VendorReq)) ({ truUp with nss := [ns1] })) (fun t => decide (((t.ns? (beNat (((req0 ([0, 0, 0, 0, 0, 0, 0, 1] ++ List.replicate 16 0 ++ [5] ++ List.replicate 47 0) : VendorReq).body.drop 4).take 4))).any (fun (z : Namespace) => z.profile == parseProfile (leNat ((req0 ([0, 0, 0, 0, 0, 0, 0, 1] ++ List.replicate 16 0 ++ [5] ++ List.replicate 47 0) : VendorReq).body.drop 8))) = true) ∧ (t.out.head? = some (.vendor (0 : Nat) (req0 ([0, 0, 0, 0, 0, 0, 0, 1] ++ List.replicate 16 0 ++ [5] ++ List.replicate 47 0) : VendorReq).eid (req0 ([0, 0, 0, 0, 0, 0, 0, 1] ++ List.replicate 16 0 ++ [5] ++ List.replicate 47 0) : VendorReq).tag 0xA8 0 0 [])))) = true := by decide +kernel

theorem witness_vendorRequests_mgtQosGet :
    (mgtTakes ({ truUp with nss := [{ ns1 with profile := { Profile.zero with weight := 5 } }] }) (0 : Nat) 41 (req0 [0, 0, 0, 0, 0, 0, 0, 1] : VendorReq) = true) ∧
    (({ truUp with nss := [{ ns1 with profile := { Profile.zero with weight := 5 } }] }).isActive = true) ∧
    (({ truUp with nss := [{ ns1 with profile := { Profile.zero with weight := 5 } }] }).qosRefusal false ((req0 [0, 0, 0, 0, 0, 0, 0, 1] : VendorReq).body.getD 0 0) (beNat (((req0 [0, 0, 0, 0, 0, 0, 0, 1] : VendorReq).body.drop 4).take 4)) 0 = none) ∧
    holds (exec (.mgtQosGet (0 : Nat) (req0 [0, 0, 0, 0, 0, 0, 0, 1] : VendorReq)) ({ truUp with nss := [{ ns1 with profile := { Profile.zero with weight := 5 } }] })) (fun t => decide ((t = { ({ truUp with nss := [{ ns1 with profile := { Profile.zero with weight := 5 } }] }) with out := .vendor (0 : Nat) (req0 [0, 0, 0, 0, 0, 0, 0, 1] : VendorReq).eid (req0 [0, 0, 0, 0, 0, 0, 0, 1] : VendorReq).tag 0xA9 0 0 (toBytes (({ truUp with nss := [{ ns1 with profile := { Profile.zero with weight := 5 } }] }).qosGet ((req0 [0, 0, 0, 0, 0, 0, 0, 1] : VendorReq).body.getD 0 0) (beNat (((req0 [0, 0, 0, 0, 0, 0, 0, 1] : VendorReq).body.drop 4).take 4))) 64) :: ({ truUp with nss := [{ ns1 with profile := { Profile.zero with weight := 5 } }] }).out }))) = true := by decide +kernel

theorem witness_vendorRequests_evNotifyResponse :
    (({ truUp with subs := [⟨1, 8, 0, [], 0, some 0, 2, none⟩] }).subs = [(⟨1, 8, 0, [], 0, some 0, 2, none⟩ : Subscriber)]) ∧
    ((⟨1, 8, 0, [], 0, some 0, 2, none⟩ : Subscriber).is (1 : Nat) (8 : Nat) = true) ∧
    holds (exec (.evNotifyResponse (1 : Nat) (8 : Nat)) ({ truUp with subs := [⟨1, 8, 0, [], 0, some 0, 2, none⟩] })) (fun t => decide ((t = { ({ truUp with subs := [⟨1, 8, 0, [], 0, some 0, 2, none⟩] }) with subs := [{ (⟨1, 8, 0, [], 0, some 0, 2, none⟩ : Subscriber) with sentAt := none, missed := 0 }] }))) = true := by decide +kernel

theorem witness_vendorRequests_evNotifyTimer :
    (({ truUp with subs := [⟨1, 8, 0, [⟨5, 64, 0, 1, 0⟩], 3, none, 2, none⟩] }).subs = [(⟨1, 8, 0, [⟨5, 64, 0, 1, 0⟩], 3, none, 2, none⟩ : Subscriber)]) ∧
    ((⟨1, 8, 0, [⟨5, 64, 0, 1, 0⟩], 3, none, 2, none⟩ : Subscriber).is (1 : Nat) (8 : Nat) = true) ∧
    ((⟨1, 8, 0, [⟨5, 64, 0, 1, 0⟩], 3, none, 2, none⟩ : Subscriber).sentAt = none) ∧
    ((⟨1, 8, 0, [⟨5, 64, 0, 1, 0⟩], 3, none, 2, none⟩ : Subscriber).queue ≠ []) ∧
    (({ truUp with subs := [⟨1, 8, 0, [⟨5, 64, 0, 1, 0⟩], 3, none, 2, none⟩] }).mctpOpen (1 : Nat) = true) ∧
    holds (exec (.evNotifyTimer (1 : Nat) (8 : Nat)) ({ truUp with subs := [⟨1, 8, 0, [⟨5, 64, 0, 1, 0⟩], 3, none, 2, none⟩] })) (fun t => decide ((t = { ({ truUp with subs := [⟨1, 8, 0, [⟨5, 64, 0, 1, 0⟩], 3, none, 2, none⟩] }) with out := .evNotify (1 : Nat) (8 : Nat) (⟨1, 8, 0, [⟨5, 64, 0, 1, 0⟩], 3, none, 2, none⟩ : Subscriber).lost ((⟨1, 8, 0, [⟨5, 64, 0, 1, 0⟩], 3, none, 2, none⟩ : Subscriber).queue.take 8) :: ({ truUp with subs := [⟨1, 8, 0, [⟨5, 64, 0, 1, 0⟩], 3, none, 2, none⟩] }).out, subs := [{ (⟨1, 8, 0, [⟨5, 64, 0, 1, 0⟩], 3, none, 2, none⟩ : Subscriber) with queue := (⟨1, 8, 0, [⟨5, 64, 0, 1, 0⟩], 3, none, 2, none⟩ : Subscriber).queue.drop 8, lost := 0, sentAt := some ({ truUp with subs := [⟨1, 8, 0, [⟨5, 64, 0, 1, 0⟩], 3, none, 2, none⟩] }).now }] }))) = true := by decide +kernel

theorem witness_vendorRequests_evNotifyTimer2 :
    (({ truUp with subs := [⟨1, 8, 0, [], 3, some 0, 2, none⟩] }).subs = [(⟨1, 8, 0, [], 3, some 0, 2, none⟩ : Subscriber)]) ∧
    ((⟨1, 8, 0, [], 3, some 0, 2, none⟩ : Subscriber).is (1 : Nat) (8 : Nat) = true) ∧
    ((⟨1, 8, 0, [], 3, some 0, 2, none⟩ : Subscriber).sentAt = some (0 : Nat)) ∧
    (2 ≤ (⟨1, 8, 0, [], 3, some 0, 2, none⟩ : Subscriber).missed) ∧
    (({ truUp with subs := [⟨1, 8, 0, [], 3, some 0, 2, none⟩] }).due ((0 : Nat) + msU 10) = true) ∧
    ((({ truUp with subs := [⟨1, 8, 0, [], 3, some 0, 2, none⟩] }).benchAt 0).state ≠ .off) ∧
    holds (exec (.evNotifyTimer (1 : Nat) (8 : Nat)) ({ truUp with subs := [⟨1, 8, 0, [], 3, some 0, 2, none⟩] })) (fun t => decide ((t.subs = []) ∧ (t.out = ({ truUp with subs := [⟨1, 8, 0, [], 3, some 0, 2, none⟩] }).out) ∧ (hasBit (t.rd (F.BENCH_EV_STAT 0)) 10 = true))) = true := by decide +kernel

theorem witness_vendorRequests_relayTimeout :
    (({ chainUp with mgt := { Mgt.cold with relays := [⟨3, 9, 0, 0, 8, 66, 1⟩] } }).mgt.relays = [(⟨3, 9, 0, 0, 8, 66, 1⟩ : Relay)]) ∧
    ((⟨3, 9, 0, 0, 8, 66, 1⟩ : Relay).tag = (3 : Nat)) ∧
    (({ chainUp with mgt := { Mgt.cold with relays := [⟨3, 9, 0, 0, 8, 66, 1⟩] } }).due ((⟨3, 9, 0, 0, 8, 66, 1⟩ : Relay).sentAt + msU 20) = true) ∧
    holds (exec (.relayTimeout (3 : Nat)) ({ chainUp with mgt := { Mgt.cold with relays := [⟨3, 9, 0, 0, 8, 66, 1⟩] } })) (fun t => decide ((t = { ({ chainUp with mgt := { Mgt.cold with relays := [⟨3, 9, 0, 0, 8, 66, 1⟩] } }) with mgt := { ({ chainUp with mgt := { Mgt.cold with relays := [⟨3, 9, 0, 0, 8, 66, 1⟩] } }).mgt with relays := [] }, out := .vendor (⟨3, 9, 0, 0, 8, 66, 1⟩ : Relay).path (⟨3, 9, 0, 0, 8, 66, 1⟩ : Relay).eid (⟨3, 9, 0, 0, 8, 66, 1⟩ : Relay).reqTag ((⟨3, 9, 0, 0, 8, 66, 1⟩ : Relay).command + 0x80) 9 0 [] :: ({ chainUp with mgt := { Mgt.cold with relays := [⟨3, 9, 0, 0, 8, 66, 1⟩] } }).out }))) = true := by decide +kernel

theorem witness_vendorRequests_relayTimeout2 :
    (chainUp.mgt.relays = []) ∧
    holds (exec (.relayTimeout (3 : Nat)) chainUp) (fun t => decide ((t = chainUp))) = true := by decide +kernel

theorem witness_mctp_mctpSetEndpointId :
    (truUp.pathUp (1 : Nat) = true) ∧
    ((1 : Nat) < truUp.mgt.eids.length) ∧
    ((0 : Nat) ≤ 1) ∧
    (0 < (254 : Nat)) ∧
    ((254 : Nat) < 255) ∧
    holds (exec (.mctpSetEndpointId (1 : Nat) (0 : Nat) (254 : Nat)) truUp) (fun t => decide ((t.eid (1 : Nat) = (254 : Nat)) ∧ (t.out.head? = some (.mctp (1 : Nat) 1 0 [0, (254 : Nat), 0])))) = true := by decide +kernel

theorem witness_mctp_mctpSetEndpointId2 :
    (truUp.pathUp (0 : Nat) = true) ∧
    ((1 : Nat) ≤ 1) ∧
    ((255 : Nat) = 0 ∨ (255 : Nat) = 255) ∧
    holds (exec (.mctpSetEndpointId (0 : Nat) (1 : Nat) (255 : Nat)) truUp) (fun t => decide ((t = { truUp with out := .mctp (0 : Nat) 1 2 [] :: truUp.out }))) = true := by decide +kernel

theorem witness_mctp_mctpSetEndpointId3 :
    (truUp.pathUp (3 : Nat) = false) ∧
    holds (exec (.mctpSetEndpointId (3 : Nat) (1 : Nat) (25 : Nat)) truUp) (fun t => decide ((t = truUp))) = true := by decide +kernel

theorem witness_mctp_mctpGetEndpointId :
    (truUp.pathUp (0 : Nat) = true) ∧
    (truUp.rd (F.CTL_MGT_PATH_STATIC_EID (0 : Nat)) = 0) ∧
    holds (exec (.mctpGetEndpointId (0 : Nat)) truUp) (fun t => decide ((t = { truUp with out := .mctp (0 : Nat) 2 0 [truUp.eid (0 : Nat), 0, 0] :: truUp.out }))) = true := by decide +kernel

theorem witness_mctp_mctpGetEndpointUuid :
    (truUp.pathUp (0 : Nat) = true) ∧
    holds (exec (.mctpGetEndpointUuid (0 : Nat)) truUp) (fun t => decide ((t.regs = truUp.regs) ∧ (t.out.tail = truUp.out))) = true := by decide +kernel

theorem witness_mctp_mctpGetVersionSupport :
    (truUp.pathUp (0 : Nat) = true) ∧
    ((255 : Nat) = 0 ∨ (255 : Nat) = 0xFF) ∧
    holds (exec (.mctpGetVersionSupport (0 : Nat) (255 : Nat)) truUp) (fun t => decide ((t = { truUp with out := .mctp (0 : Nat) 4 0 [1, 0xF1, 0xF3, 0xFF, 0] :: truUp.out }))) = true := by decide +kernel

theorem witness_mctp_mctpGetMessageTypeSupport :
    (truUp.pathUp (0 : Nat) = true) ∧
    holds (exec (.mctpGetMessageTypeSupport (0 : Nat)) truUp) (fun t => decide ((t = { truUp with out := .mctp (0 : Nat) 5 0 [3, 0x04, 0x05, 0x7E] :: truUp.out }))) = true := by decide +kernel

theorem witness_mctp_mctpGetVendorSupport :
    (truUp.pathUp (1 : Nat) = true) ∧
    ((0 : Nat) = 0) ∧
    holds (exec (.mctpGetVendorSupport (1 : Nat) (0 : Nat)) truUp) (fun t => decide ((t = { truUp with out := .mctp (1 : Nat) 6 0 [0xFF, 0, 0x1F, 0x6B, 0, 1] :: truUp.out }))) = true := by decide +kernel

theorem witness_mctp_nvmeMiBasicManagement :
    ((1 : Nat) < 2) ∧
    ((truUp.wr (F.CHN_SMB_CFG_EN 1) 1).pathUp (1 : Nat) = true) ∧
    ((truUp.wr (F.CHN_SMB_CFG_EN 1) 1).isSet (F.CHN_SMB_CFG_EN (1 : Nat)) = true) ∧
    ((truUp.wr (F.CHN_SMB_CFG_EN 1) 1).permits (1 : Nat) 5 = true) ∧
    holds (exec (.nvmeMiBasicManagement (1 : Nat) (sens0 : Sensors)) (truUp.wr (F.CHN_SMB_CFG_EN 1) 1)) (fun t => decide ((t = { (truUp.wr (F.CHN_SMB_CFG_EN 1) 1) with out := .nvmeMi (1 : Nat) 0 0 [6, 0x83 + 64 * bit (!(truUp.wr (F.CHN_SMB_CFG_EN 1) 1).stepDone 15) + (truUp.wr (F.CHN_SMB_CFG_EN 1) 1).healthBits, (truUp.wr (F.CHN_SMB_CFG_EN 1) 1).smartWarnings (sens0 : Sensors), tempByte (sens0 : Sensors).die, lifeByte (sens0 : Sensors), 0, 0] :: (truUp.wr (F.CHN_SMB_CFG_EN 1) 1).out }))) = true := by decide +kernel

theorem witness_mctp_nvmeMiReadDataStructure :
    (truUp.mctpOpen (0 : Nat) = true) ∧
    (truUp.permits (0 : Nat) 5 = true) ∧
    ((0 : Nat) = 0) ∧
    holds (exec (.nvmeMiReadDataStructure (0 : Nat) (0 : Nat) (0 : Nat) (0 : Nat)) truUp) (fun t => decide ((t = { truUp with out := .nvmeMi (0 : Nat) 0 0 [2, 1, 2] :: truUp.out }))) = true := by decide +kernel

theorem witness_mctp_nvmeMiReadDataStructure2 :
    (({ truUp with ctrls := [epCtrl] }).mctpOpen (0 : Nat) = true) ∧
    (({ truUp with ctrls := [epCtrl] }).permits (0 : Nat) 5 = true) ∧
    ((2 : Nat) = 2) ∧
    holds (exec (.nvmeMiReadDataStructure (0 : Nat) (2 : Nat) (0 : Nat) (0 : Nat)) ({ truUp with ctrls := [epCtrl] })) (fun t => decide ((t = { ({ truUp with ctrls := [epCtrl] }) with out := .nvmeMi (0 : Nat) 0 0 ((({ truUp with ctrls := [epCtrl] }).epControllers (0 : Nat)).length :: (({ truUp with ctrls := [epCtrl] }).epControllers (0 : Nat)).map fun (k : Ctrl) => k.index) :: ({ truUp with ctrls := [epCtrl] }).out }))) = true := by decide +kernel

theorem witness_mctp_nvmeMiSubsystemHealthPoll :
    (truUp.mctpOpen (0 : Nat) = true) ∧
    (truUp.permits (0 : Nat) 5 = true) ∧
    holds (exec (.nvmeMiSubsystemHealthPoll (0 : Nat) (sens0 : Sensors)) truUp) (fun t => decide ((t.freeCount = truUp.freeCount + 1) ∧ (t.out.length = truUp.out.length + 1) ∧ (t.regs = truUp.regs))) = true := by decide +kernel

theorem witness_mctp_nvmeMiControllerHealthPoll :
    (truUp.mctpOpen (0 : Nat) = true) ∧
    (truUp.permits (0 : Nat) 5 = true) ∧
    (truUp.epControllers (0 : Nat) = []) ∧
    holds (exec (.nvmeMiControllerHealthPoll (0 : Nat) (0 : Nat) (sens0 : Sensors)) truUp) (fun t => decide ((t.freeCount = truUp.freeCount + 1) ∧ (t.out = .nvmeMi (0 : Nat) 2 0 [0] :: truUp.out))) = true := by decide +kernel

theorem witness_mctp_nvmeMiConfigurationGet :
    (truUp.mctpOpen (0 : Nat) = true) ∧
    (truUp.permits (0 : Nat) 5 = true) ∧
    ((3 : Nat) = 3) ∧
    ((2 : Nat) < 3) ∧
    holds (exec (.nvmeMiConfigurationGet (0 : Nat) (3 : Nat) (2 : Nat)) truUp) (fun t => decide ((t = { truUp with out := .nvmeMi (0 : Nat) 4 0 [64] :: truUp.out }))) = true := by decide +kernel

theorem witness_mctp_nvmeMiConfigurationSet :
    (truUp.mctpOpen (0 : Nat) = true) ∧
    (truUp.permits (0 : Nat) 5 = true) ∧
    ((1 : Nat) = 1) ∧
    ((1 : Nat) < 2) ∧
    ((1 : Nat) < truUp.mgt.freq.length) ∧
    (1 ≤ (3 : Nat)) ∧
    ((3 : Nat) ≤ 3) ∧
    holds (exec (.nvmeMiConfigurationSet (0 : Nat) (1 : Nat) (1 : Nat) (3 : Nat)) truUp) (fun t => decide ((t.smbFreq (1 : Nat) = (3 : Nat)) ∧ (t.out = .nvmeMi (0 : Nat) 3 0 [] :: truUp.out))) = true := by decide +kernel

theorem witness_mctp_nvmeMiConfigurationSet2 :
    (truUp.mctpOpen (0 : Nat) = true) ∧
    (truUp.permits (0 : Nat) 5 = true) ∧
    ((3 : Nat) = 3) ∧
    ((128 : Nat) ≠ 64) ∧
    holds (exec (.nvmeMiConfigurationSet (0 : Nat) (3 : Nat) (1 : Nat) (128 : Nat)) truUp) (fun t => decide ((t = { truUp with out := .nvmeMi (0 : Nat) 3 4 [] :: truUp.out }))) = true := by decide +kernel

theorem witness_mctp_smbusTimeout :
    ((1 : Nat) < 2) ∧
    ((truUp.wr (F.CHN_SMB_CFG_EN 1) 1).isSet (F.CHN_SMB_CFG_EN (1 : Nat)) = true) ∧
    (((truUp.wr (F.CHN_SMB_CFG_EN 1) 1).benchAt 0).state ≠ .off) ∧
    holds (exec (.smbusTimeout (1 : Nat)) (truUp.wr (F.CHN_SMB_CFG_EN 1) 1)) (fun t => decide ((t.rd (F.CHN_SMB_TO (1 : Nat)) = ((truUp.wr (F.CHN_SMB_CFG_EN 1) 1).rd (F.CHN_SMB_TO (1 : Nat)) + 1) % 2 ^ 32) ∧ (hasBit (t.rd (F.BENCH_EV_STAT 0)) 13 = true))) = true := by decide +kernel

theorem witness_registerAccess_halfLatchRead :
    (truUp.reloading ((0x3F00008 : Nat) / 0x100000) = false) ∧
    (truUp.permits (0 : Nat) 0 = true) ∧
    (wordAddr (0x3F00008 : Nat) = true) ∧
    (truUp.windowOff ((0x3F00008 : Nat) / 0x100000) = true) ∧
    holds (exec (.halfLatchRead (0 : Nat) (0x3F00008 : Nat)) truUp) (fun t => decide ((t = { truUp with out := .value (truUp.regView ((0x3F00008 : Nat) / 0x100000) ((0x3F00008 : Nat) % 0x100000)) :: truUp.out }))) = true := by decide +kernel

theorem witness_registerAccess_halfLatchRead2 :
    (truUp.reloading ((0x201000 : Nat) / 0x100000) = false) ∧
    (truUp.permits (5 : Nat) 0 = true) ∧
    ((0x201000 : Nat) = 0x201000) ∧
    (truUp.windowOff 2 = false) ∧
    holds (exec (.halfLatchRead (5 : Nat) (0x201000 : Nat)) truUp) (fun t => decide ((t.out = .value (truUp.now % 2 ^ 32) :: truUp.out) ∧ (t.latched (5 : Nat) (truUp.latchKey 2 0x1004) = truUp.now / 2 ^ 32 % 2 ^ 32) ∧ (t.regs = truUp.regs))) = true := by decide +kernel

theorem witness_registerAccess_halfLatchRead3 :
    (truUp.reloading ((0x201004 : Nat) / 0x100000) = false) ∧
    (truUp.permits (1 : Nat) 0 = true) ∧
    ((0x201004 : Nat) = 0x201004) ∧
    (truUp.windowOff 2 = false) ∧
    holds (exec (.halfLatchRead (1 : Nat) (0x201004 : Nat)) truUp) (fun t => decide ((t = { truUp with out := .value (truUp.latched (1 : Nat) (truUp.latchKey 2 0x1004)) :: truUp.out }))) = true := by decide +kernel

theorem witness_registerAccess_halfLatchRead4 :
    (truUp.permits (7 : Nat) 0 = false) ∧
    holds (exec (.halfLatchRead (7 : Nat) (0x201004 : Nat)) truUp) (fun t => decide ((t = truUp))) = true := by decide +kernel

theorem witness_registerAccess_registerWrite :
    (truUp.reloading ((0x200010 : Nat) / 0x100000) = false) ∧
    (truUp.permits (0 : Nat) 1 = true) ∧
    ((2 : Nat) < 57) ∧
    ((0x200010 : Nat) = (2 : Nat) * 0x100000 + 0x10) ∧
    (truUp.windowOff (2 : Nat) = false) ∧
    holds (exec (.registerWrite (0 : Nat) (0x200010 : Nat) (0xFFFF1234 : Word)) truUp) (fun t => decide ((t.rd (F.BENCH_EV_EN (2 : Nat)) = (0xFFFF1234 : Word).toNat % 65536) ∧ (t.bench = truUp.bench))) = true := by decide +kernel

theorem witness_registerAccess_registerWrite2 :
    ((truUp.wr (F.BENCH_EV_STAT 2) 0x70).reloading ((0x200014 : Nat) / 0x100000) = false) ∧
    ((truUp.wr (F.BENCH_EV_STAT 2) 0x70).permits (0 : Nat) 1 = true) ∧
    ((2 : Nat) < 57) ∧
    ((0x200014 : Nat) = (2 : Nat) * 0x100000 + 0x14) ∧
    ((truUp.wr (F.BENCH_EV_STAT 2) 0x70).windowOff (2 : Nat) = false) ∧
    holds (exec (.registerWrite (0 : Nat) (0x200014 : Nat) (0x30 : Word)) (truUp.wr (F.BENCH_EV_STAT 2) 0x70)) (fun t => decide ((t.rd (F.BENCH_EV_STAT (2 : Nat)) = (truUp.wr (F.BENCH_EV_STAT 2) 0x70).rd (F.BENCH_EV_STAT (2 : Nat)) - ((truUp.wr (F.BENCH_EV_STAT 2) 0x70).rd (F.BENCH_EV_STAT (2 : Nat)) &&& (0x30 : Word).toNat % 65536)) ∧ (t.rd (F.BENCH_EV_EN (2 : Nat)) = (truUp.wr (F.BENCH_EV_STAT 2) 0x70).rd (F.BENCH_EV_EN (2 : Nat))))) = true := by decide +kernel

theorem witness_registerAccess_registerWrite3 :
    (truUp.reloading ((0x3F00010 : Nat) / 0x100000) = false) ∧
    (truUp.permits (0 : Nat) 1 = true) ∧
    ((63 : Nat) < 64) ∧
    ((0x3F00010 : Nat) = (63 : Nat) * 0x100000 + 0x10) ∧
    (truUp.windowOff (63 : Nat) = true) ∧
    holds (exec (.registerWrite (0 : Nat) (0x3F00010 : Nat) (1 : Word)) truUp) (fun t => decide ((t = truUp.wr F.CTL_MGT_IGN (truUp.rd F.CTL_MGT_IGN + 1)))) = true := by decide +kernel

theorem witness_registerAccess_registerWrite4 :
    ((truUp.wr (F.BENCH_CTL_LOCK 0) 1).reloading ((0x4008 : Nat) / 0x100000) = false) ∧
    ((truUp.wr (F.BENCH_CTL_LOCK 0) 1).permits (0 : Nat) 1 = true) ∧
    ((0x4008 : Nat) = 0x4008) ∧
    ((truUp.wr (F.BENCH_CTL_LOCK 0) 1).windowOff 0 = false) ∧
    ((truUp.wr (F.BENCH_CTL_LOCK 0) 1).isSet (F.BENCH_CTL_LOCK 0) = true) ∧
    ((0 : Word).toNat % 2 ^ 25 ≠ ((truUp.wr (F.BENCH_CTL_LOCK 0) 1).word 0x4008).toNat % 2 ^ 25) ∧
    holds (exec (.registerWrite (0 : Nat) (0x4008 : Nat) (0 : Word)) (truUp.wr (F.BENCH_CTL_LOCK 0) 1)) (fun t => decide ((t.word 0x4008 = (truUp.wr (F.BENCH_CTL_LOCK 0) 1).word 0x4008) ∧ (t.rd (F.BENCH_LOCK_IGN 0) = ((truUp.wr (F.BENCH_CTL_LOCK 0) 1).rd (F.BENCH_LOCK_IGN 0) + 1) % 2 ^ 32))) = true := by decide +kernel

theorem witness_registerAccess_registerWrite5 :
    (truUp.permits (2 : Nat) 1 = false) ∧
    holds (exec (.registerWrite (2 : Nat) (0x4008 : Nat) (0 : Word)) truUp) (fun t => decide ((t = truUp))) = true := by decide +kernel

theorem witness_registerAccess_registerWrite6 :
    (({ truUp with live := { truUp.live with busy := [(4, truUp.now, false)] } }).permits (0 : Nat) 1 = true) ∧
    (wordAddr (0x401050 : Nat) = true) ∧
    (({ truUp with live := { truUp.live with busy := [(4, truUp.now, false)] } }).reloading ((0x401050 : Nat) / 0x100000) = true) ∧
    holds (exec (.registerWrite (0 : Nat) (0x401050 : Nat) (0 : Word)) ({ truUp with live := { truUp.live with busy := [(4, truUp.now, false)] } })) (fun t => decide ((t = ({ truUp with live := { truUp.live with busy := [(4, truUp.now, false)] } }).holdAccess (.write (0x401050 : Nat) (0 : Word).toNat 0xFFFFFFFF)))) = true := by decide +kernel

theorem witness_registerAccess_halfLatchRead5 :
    (({ truUp with live := { truUp.live with busy := [(4, truUp.now, false)] } }).permits (0 : Nat) 0 = true) ∧
    (wordAddr (0x401050 : Nat) = true) ∧
    (({ truUp with live := { truUp.live with busy := [(4, truUp.now, false)] } }).reloading ((0x401050 : Nat) / 0x100000) = true) ∧
    holds (exec (.halfLatchRead (0 : Nat) (0x401050 : Nat)) ({ truUp with live := { truUp.live with busy := [(4, truUp.now, false)] } })) (fun t => decide ((t = ({ truUp with live := { truUp.live with busy := [(4, truUp.now, false)] } }).holdAccess (.read (0 : Nat) (0x401050 : Nat))))) = true := by decide +kernel

theorem witness_registerAccess_benchLockSet :
    (truUp.reloading (2 : Nat) = false) ∧
    ((2 : Nat) < 57) ∧
    (truUp.windowOff (2 : Nat) = false) ∧
    holds (exec (.benchLockSet (2 : Nat)) truUp) (fun t => decide ((t.isSet (F.BENCH_CTL_LOCK (2 : Nat)) = true) ∧ (t.bench = truUp.bench) ∧ (t.tim = truUp.tim))) = true := by decide +kernel

theorem witness_registerAccess_bar2Access :
    (((truUp.wr F.EPT_CFG_BAR2_EN 1).wr F.EPT_STAT_LINK_UP 1).isSet F.EPT_CFG_BAR2_EN = true) ∧
    (((truUp.wr F.EPT_CFG_BAR2_EN 1).wr F.EPT_STAT_LINK_UP 1).isSet F.EPT_STAT_LINK_UP = true) ∧
    (((truUp.wr F.EPT_CFG_BAR2_EN 1).wr F.EPT_STAT_LINK_UP 1).permits 4 0 = true) ∧
    (wordAddr (0x201000 : Nat) = true) ∧
    (((truUp.wr F.EPT_CFG_BAR2_EN 1).wr F.EPT_STAT_LINK_UP 1).live.waits = []) ∧
    (((truUp.wr F.EPT_CFG_BAR2_EN 1).wr F.EPT_STAT_LINK_UP 1).reloading ((0x201000 : Nat) / 0x100000) = false) ∧
    (([(0, true)] : List (Nat × Bool)).length = 1) ∧
    holds (exec (.bar2Access false (0x201000 : Nat) ([(0, true)] : List (Nat × Bool))) ((truUp.wr F.EPT_CFG_BAR2_EN 1).wr F.EPT_STAT_LINK_UP 1)) (fun t => decide ((t = (((truUp.wr F.EPT_CFG_BAR2_EN 1).wr F.EPT_STAT_LINK_UP 1).regRead 4 (0x201000 : Nat)).1.send (.value (((truUp.wr F.EPT_CFG_BAR2_EN 1).wr F.EPT_STAT_LINK_UP 1).regRead 4 (0x201000 : Nat)).2)))) = true := by decide +kernel

theorem witness_registerAccess_bar2Access2 :
    (((truUp.wr F.EPT_CFG_BAR2_EN 1).wr F.EPT_STAT_LINK_UP 1).isSet F.EPT_CFG_BAR2_EN = true) ∧
    (((truUp.wr F.EPT_CFG_BAR2_EN 1).wr F.EPT_STAT_LINK_UP 1).isSet F.EPT_STAT_LINK_UP = true) ∧
    (((truUp.wr F.EPT_CFG_BAR2_EN 1).wr F.EPT_STAT_LINK_UP 1).permits 4 1 = true) ∧
    (wordAddr (0x201018 : Nat) = true) ∧
    (((truUp.wr F.EPT_CFG_BAR2_EN 1).wr F.EPT_STAT_LINK_UP 1).live.waits = []) ∧
    (((truUp.wr F.EPT_CFG_BAR2_EN 1).wr F.EPT_STAT_LINK_UP 1).reloading ((0x201018 : Nat) / 0x100000) = false) ∧
    (([(5, false)] : List (Nat × Bool)) = [((5 : Nat), false)]) ∧
    holds (exec (.bar2Access true (0x201018 : Nat) ([(5, false)] : List (Nat × Bool))) ((truUp.wr F.EPT_CFG_BAR2_EN 1).wr F.EPT_STAT_LINK_UP 1)) (fun t => decide ((t = ((truUp.wr F.EPT_CFG_BAR2_EN 1).wr F.EPT_STAT_LINK_UP 1).ignWrite))) = true := by decide +kernel

theorem witness_registerAccess_bar2Access3 :
    (((truUp.wr F.EPT_CFG_BAR2_EN 1).wr F.EPT_STAT_LINK_UP 1).isSet F.EPT_CFG_BAR2_EN = true) ∧
    (((truUp.wr F.EPT_CFG_BAR2_EN 1).wr F.EPT_STAT_LINK_UP 1).isSet F.EPT_STAT_LINK_UP = true) ∧
    (((truUp.wr F.EPT_CFG_BAR2_EN 1).wr F.EPT_STAT_LINK_UP 1).permits 4 1 = true) ∧
    (wordAddr (0x201018 : Nat) = true) ∧
    (((truUp.wr F.EPT_CFG_BAR2_EN 1).wr F.EPT_STAT_LINK_UP 1).live.waits = []) ∧
    (((truUp.wr F.EPT_CFG_BAR2_EN 1).wr F.EPT_STAT_LINK_UP 1).reloading ((0x201018 : Nat) / 0x100000) = false) ∧
    (([(5, true)] : List (Nat × Bool)) = [((5 : Nat), true)]) ∧
    holds (exec (.bar2Access true (0x201018 : Nat) ([(5, true)] : List (Nat × Bool))) ((truUp.wr F.EPT_CFG_BAR2_EN 1).wr F.EPT_STAT_LINK_UP 1)) (fun t => decide ((t = (((truUp.wr F.EPT_CFG_BAR2_EN 1).wr F.EPT_STAT_LINK_UP 1).regWrite (0x201018 : Nat) (5 : Nat) 0xFFFFFFFF).1))) = true := by decide +kernel

theorem witness_registerAccess_bar2Access4 :
    (truUp.isSet F.EPT_CFG_BAR2_EN = false) ∧
    holds (exec (.bar2Access (true : Bool) (0x201018 : Nat) ([(5, true)] : List (Nat × Bool))) truUp) (fun t => decide ((t = truUp))) = true := by decide +kernel

end Sys2Proof.Tests
end

section
/-!
Register accesses (R9, R10, R609 to R616, R632): what a read answers and what a write does to a register whose one copy belongs to its
bench, then O48.
-/

namespace Sys2Proof.Machine

/-! ### Fields and counts -/

/-- Writing back what a field holds changes nothing. -/
theorem fieldPut_fieldGet_self (w : Word) (hi lo : Nat) : fieldPut w hi lo (fieldGet w hi lo) = w := by
  have hle : w.toNat / 2 ^ lo % 2 ^ (hi + 1 - lo) * 2 ^ lo ≤ w.toNat :=
    (Nat.mul_le_mul_right _ (Nat.mod_le _ _)).trans (Nat.div_mul_le_self _ _)
  simp only [fieldPut, fieldGet, Nat.mod_mod, Nat.sub_add_cancel hle, BitVec.ofNat_toNat, BitVec.setWidth_eq]

/-- The full mask keeps every bit of a word. -/
theorem toNat_and_full (w : Word) : w.toNat &&& 0xFFFFFFFF = w.toNat := by
  rw [Nat.and_two_pow_sub_one_eq_mod _ 32]; exact Nat.mod_eq_of_lt w.isLt

/-- The low 16 bits keep every bit of a number of 16 bits. -/
theorem mod_and_low16 (v : Nat) : v % 65536 &&& 65535 = v % 65536 := by
  rw [Nat.and_two_pow_sub_one_eq_mod _ 16]; exact Nat.mod_mod _ _

/-- The read of a field after its word is written. -/
theorem State.rd_setWord_of_key (s : State) (f : Fld) (k : Nat) (w : Word) (h : f.key = k) :
    (s.setWord k w).rd f = fieldGet w f.hi f.lo := by
  simp only [State.rd, h, State.word_setWord_same]

/-- A write of a word leaves the fields of every other word alone. -/
theorem State.rd_setWord_other (s : State) (f : Fld) (k : Nat) (w : Word) (h : f.key ≠ k) : (s.setWord k w).rd f = s.rd f := by
  simp only [State.rd, State.word_setWord_other _ _ _ _ h]

/-- A count leaves every other word alone. -/
theorem State.word_bump_other (s : State) (f : Fld) (j : Nat) (h : j ≠ f.key) : (s.bump f).word j = s.word j :=
  State.word_setWord_other _ _ _ _ h

/-- A 32-bit counter wraps at its width. -/
theorem State.rd_bump_same (s : State) (k : Nat) : (s.bump (fullWord k)).rd (fullWord k) = (s.rd (fullWord k) + 1) % 2 ^ 32 :=
  State.rd_wr_same _ _ _ (by decide : 0 ≤ 31) (by decide : 31 < 32)

/-! ### Addresses -/

/-- The bench and the offset of an address. -/
theorem windowAddr_split (b off : Nat) (h : off < 0x100000) :
    (b * 0x100000 + off) / 0x100000 = b ∧ (b * 0x100000 + off) % 0x100000 = off := by omega

/-- The addresses of a bench's window are words of the register space. -/
theorem wordAddr_window (b off : Nat) (hb : b < 64) (hoff : off < 0x100000) (h4 : off % 4 = 0) :
    wordAddr (b * 0x100000 + off) = true := by
  have hmod : (b * 0x100000 + off) % 4 = 0 := by omega
  have hlt : b * 0x100000 + off < 0x4000000 := by omega
  simp only [wordAddr, hmod, hlt, beq_self_eq_true, decide_true, Bool.and_self]

/-! ### Home keys of the common block -/

theorem F.key_BENCH_CTL_LOCK (b : Nat) : (F.BENCH_CTL_LOCK b).key = b * 0x100000 + 0xC := rfl
theorem F.key_BENCH_EV_EN (b : Nat) : (F.BENCH_EV_EN b).key = b * 0x100000 + 0x10 := rfl
theorem F.key_BENCH_EV_STAT (b : Nat) : (F.BENCH_EV_STAT b).key = b * 0x100000 + 0x14 := rfl
theorem F.key_BENCH_LOCK_IGN (b : Nat) : (F.BENCH_LOCK_IGN b).key = b * 0x100000 + 0x2C := rfl

/-! ### The register lines of the common block and of CTL_BOOT_CFG -/

/-- The line of BENCH_CTL (Table MGT-1). -/
def benchCtlLine : RegDef := ⟨0, 56, 0xc, 0, 1, 0, 1, .inst, [⟨0, 0, .w1s, [0], .any⟩]⟩

/-- The line of BENCH_EV_EN (Table MGT-1). -/
def benchEvEnLine : RegDef := ⟨0, 56, 0x10, 0, 1, 0, 1, .inst, [⟨15, 0, .rw, [0xffff], .any⟩]⟩

/-- The line of BENCH_EV_STAT (Table MGT-1). -/
def benchEvStatLine : RegDef := ⟨0, 56, 0x14, 0, 1, 0, 1, .inst, [⟨15, 0, .w1c, [0], .any⟩]⟩

/-- The line of CTL_BOOT_CFG (Table BOOT-15): every field is locked by BENCH_CTL.LOCK. -/
def bootCfgLine : RegDef :=
  ⟨0, 0, 0x4008, 0, 1, 0, 1, .inst,
    [⟨7, 0, .rwl, [0x14], .rng 1 255⟩, ⟨15, 8, .rwl, [0x14], .rng 1 120⟩, ⟨23, 16, .rwl, [0x1e], .any⟩, ⟨24, 24, .rwl, [0], .any⟩]⟩

/-- The common block has the same lines at every bench. -/
theorem findReg_common (b off : Nat) (hb : b < 57) (hoff : off < 0x1000) : findReg b off = findReg 0 off := by
  have hspan : ∀ d ∈ regsBENCHA, d.firstBench = 0 ∧ d.lastBench = 56 := by decide
  have hle : b ≤ 56 := by omega
  simp only [findReg, regTable, hoff, if_true]
  generalize regsBENCHA = l at hspan
  induction l with
  | nil => rfl
  | cons d l ih =>
    obtain ⟨hfirst, hlast⟩ := hspan d List.mem_cons_self
    rw [List.findSome?_cons, List.findSome?_cons, ih fun e he => hspan e (List.mem_cons_of_mem _ he)]
    simp [hfirst, hlast, hle]

theorem findReg_benchCtl (b : Nat) (hb : b < 57) : findReg b 0xC = some (benchCtlLine, 0) :=
  (findReg_common b _ hb (by decide)).trans (by decide)

theorem findReg_benchEvEn (b : Nat) (hb : b < 57) : findReg b 0x10 = some (benchEvEnLine, 0) :=
  (findReg_common b _ hb (by decide)).trans (by decide)

theorem findReg_benchEvStat (b : Nat) (hb : b < 57) : findReg b 0x14 = some (benchEvStatLine, 0) :=
  (findReg_common b _ hb (by decide)).trans (by decide)

theorem findReg_bootCfg : findReg 0 0x4008 = some (bootCfgLine, 0) := by decide

/-! ### A write of one word -/

/-- No check between fields binds a word of the common block. -/
theorem crossCheck_common (p : Variant) (b off : Nat) (w : Word) (h : off < 0x1000) : crossCheck p b off w = 0 := by
  have h1 : ¬0x1200 ≤ off := by omega
  have h2 : ¬0x1240 ≤ off := by omega
  have h3 : ¬0x1000 ≤ off := by omega
  have h4 : off ≠ 0x1004 ∧ off ≠ 0x3000 ∧ off ≠ 0x600C ∧ off ≠ 0x6010 := by omega
  obtain ⟨n1, n2, n3, n4⟩ := h4
  simp [crossCheck, h1, h2, h3, n1, n2, n3, n4]

/-- No check across registers binds a word of the common block. -/
theorem State.writeAllowed_common (s t : State) (b off : Nat) (h : off < 0x1000) : s.writeAllowed t b off = true := by
  have h1 : ¬0x1230 ≤ off := by omega
  have h2 : ¬0x1200 ≤ off := by omega
  have h3 : ¬0x1500 ≤ off := by omega
  simp [State.writeAllowed, h1, h2, h3]

/-- A write changes no word but its own and the count of ignored writes to locked fields. -/
theorem State.word_writeWord_other (s : State) (b off : Nat) (d : RegDef) (k v m j : Nat) (hk : j ≠ k)
    (hign : j ≠ (F.BENCH_LOCK_IGN b).key) : (s.writeWord b off d k v m).1.word j = s.word j := by
  unfold State.writeWord
  extract_lets _ _ _ _ _ s1 s2
  have h2 : s2.word j = s.word j := by
    simp only [s2]
    split
    · exact State.word_setWord_other _ _ _ _ hk
    · rfl
  split
  · rw [← h2]; exact State.word_bump_other _ _ _ hign
  · exact h2

/-- A line without lockable fields counts no ignored write. -/
theorem wouldChangeLocked_of_no_rwl (d : RegDef) (old v m : Nat) (h : ∀ f ∈ d.fields, f.type ≠ .rwl) :
    wouldChangeLocked d old v m = false := by
  simp only [wouldChangeLocked, List.any_eq_false]
  intro f hf
  simp [h f hf]

/-- The fields locked, a line of lockable fields keeps its word. -/
theorem wordAfter_locked (d : RegDef) (old v m : Nat) (h : ∀ f ∈ d.fields, f.type = .rwl) :
    wordAfter d true old v m = BitVec.ofNat 32 old := by
  unfold wordAfter
  generalize d.fields = l at h
  induction l with
  | nil => rfl
  | cons f l ih =>
    have hf : fieldAfter f true (fieldGet (BitVec.ofNat 32 old) f.hi f.lo) v m = fieldGet (BitVec.ofNat 32 old) f.hi f.lo := by
      simp [fieldAfter, h f List.mem_cons_self]
    rw [List.foldl_cons, hf, fieldPut_fieldGet_self]
    exact ih fun g hg => h g (List.mem_cons_of_mem _ hg)

/-- A write of a word of the common block, none of whose registers is lockable: the fields take the write by their types. -/
theorem State.writeWord_common (s : State) (b off : Nat) (d : RegDef) (k v m : Nat) (hoff : off < 0x1000)
    (hd : ∀ f ∈ d.fields, f.type ≠ .rwl) :
    s.writeWord b off d k v m = (s.setWord k (wordAfter d (s.isSet (F.BENCH_CTL_LOCK b)) (s.word k).toNat v m), false) := by
  simp [State.writeWord, crossCheck_common _ _ _ _ hoff, s.writeAllowed_common _ _ _ hoff, wouldChangeLocked_of_no_rwl _ _ _ _ hd,
    toNat_and_full]

/-! ### A write at a window -/

/-- A change that leaves the settings of PPS as they were restarts nothing (R43). -/
theorem State.ppsCfgChanged_of_rd_eq (s t : State) (hin : t.rd F.TIM_PPS_CFG_IN_EN = s.rd F.TIM_PPS_CFG_IN_EN)
    (hout : t.rd F.TIM_PPS_CFG_OUT_EN = s.rd F.TIM_PPS_CFG_OUT_EN) (hofs : t.rd F.TIM_PPS_OFS = s.rd F.TIM_PPS_OFS) :
    t.ppsCfgChanged (s.isSet F.TIM_PPS_CFG_IN_EN) (s.isSet F.TIM_PPS_CFG_OUT_EN) (s.rd F.TIM_PPS_OFS) = t := by
  simp [State.ppsCfgChanged, State.isSet, hin, hout, hofs]

/-- A register of the common block carries no order of a class. -/
theorem State.classCmd_common (s : State) (c b off m : Nat) (h : off < 0x1000) : s.classCmd c b off m = s := by
  have h1 : off ≠ 0x1600 ∧ off ≠ 0x1610 ∧ ¬0x1400 ≤ off := by omega
  obtain ⟨n1, n2, n3⟩ := h1
  simp [State.classCmd, n1, n2, n3]

/-- A register of the common block carries no order of a singleton. -/
theorem State.singletonCmd_common (s : State) (b off m : Nat) (h : off < 0x1000) : s.singletonCmd b off m = s := by
  unfold State.singletonCmd
  split
  all_goals try omega
  rfl

/-- A write to a register whose one copy belongs to its bench, which sets neither PPS nor QoS and orders nothing, is the write of
its word. -/
theorem State.writeBits_inst (s : State) (b off v m : Nat) (d : RegDef) (i : Nat) (hreg : findReg b off = some (d, i))
    (hhome : d.home = .inst) (htok : b ≠ 1 ∨ off < 0x2000)
    (hset : ∀ j ∈ [0x201020, 0x201024, 0x4101200], j ≠ b * 0x100000 + off ∧ j ≠ (F.BENCH_LOCK_IGN b).key)
    (hcls : ∀ (t : State) c, t.classCmd c b off (v &&& m) = t) (hone : ∀ t : State, t.singletonCmd b off (v &&& m) = t) :
    s.writeBits b off v m = s.writeWord b off d (b * 0x100000 + off) v m := by
  have hw : s.writeReg b off v m = s.writeWord b off d (b * 0x100000 + off) v m := by
    simp [State.writeReg, hreg, hhome, State.homeKey]
  have hrd (f : Fld) (hf : f.key ∈ [0x201020, 0x201024, 0x4101200]) :
      (s.writeWord b off d (b * 0x100000 + off) v m).1.rd f = s.rd f := by
    simp only [State.rd, s.word_writeWord_other b off d _ v m f.key (hset _ hf).1 (hset _ hf).2]
  have hpps := s.ppsCfgChanged_of_rd_eq _ (hrd F.TIM_PPS_CFG_IN_EN (by decide)) (hrd F.TIM_PPS_CFG_OUT_EN (by decide))
    (hrd F.TIM_PPS_OFS (by decide))
  have hqos : (!s.qosOn && (s.writeWord b off d (b * 0x100000 + off) v m).1.qosOn) = false := by
    simp [State.qosOn, State.isSet, hrd F.CMD_QOS_CFG_EN (by decide)]
  have htok' : (decide (b = 1) && decide (0x2000 ≤ off) && decide (off < 0x2A00)) = false := by
    simp; omega
  simp only [State.writeBits, htok', hw, hpps, hqos, hcls, hone]
  cases classOf b <;> rfl

/-- A write to the window of an OFF bench counts as ignored (R610). -/
theorem State.regWrite_off (s : State) (addr v m : Nat) (h : s.windowOff (addr / 0x100000) = true) :
    (s.regWrite addr v m).1 = s.ignWrite := by
  simp [State.regWrite, h]

/-- A write of a register at a window that answers and that no FAULTED bench holds (R611). -/
theorem State.regWrite_of_open (s : State) (addr v m : Nat) (hon : s.windowOff (addr / 0x100000) = false)
    (hok : s.faultedWindow (addr / 0x100000) (addr % 0x100000) = false) :
    (s.regWrite addr v m).1 = (s.writeBits (addr / 0x100000) (addr % 0x100000) v m).1 := by
  simp [State.regWrite, hon, hok]

/-- A write of a register in the common block of a bench that answers, none of whose fields is lockable. -/
theorem State.regWrite_common (s : State) (b off v m : Nat) (d : RegDef) (i : Nat) (hoff : off < 0x1000)
    (hreg : findReg b off = some (d, i)) (hhome : d.home = .inst) (hd : ∀ f ∈ d.fields, f.type ≠ .rwl)
    (hon : s.windowOff b = false) :
    (s.regWrite (b * 0x100000 + off) v m).1 =
      s.setWord (b * 0x100000 + off)
        (wordAfter d (s.isSet (F.BENCH_CTL_LOCK b)) (s.word (b * 0x100000 + off)).toNat v m) := by
  have hok : s.faultedWindow b off = false := by
    have : ¬0x1000 ≤ off := by omega
    simp [State.faultedWindow, this]
  have hset : ∀ j ∈ [0x201020, 0x201024, 0x4101200], j ≠ b * 0x100000 + off ∧ j ≠ (F.BENCH_LOCK_IGN b).key := by
    intro j hj
    simp only [List.mem_cons, List.not_mem_nil, or_false] at hj
    rw [F.key_BENCH_LOCK_IGN]
    omega
  obtain ⟨hbench, hoffset⟩ := windowAddr_split b off (by omega)
  rw [s.regWrite_of_open _ v m (by rwa [hbench]) (by rwa [hbench, hoffset]), hbench, hoffset,
    s.writeBits_inst b off v m d i hreg hhome (.inr (by omega)) hset (fun t c => t.classCmd_common c b off _ hoff)
      (fun t => t.singletonCmd_common b off _ hoff),
    s.writeWord_common b off d _ v m hoff hd]

/-- The field of a line of one field after a write. -/
theorem fieldGet_wordAfter_single (d : RegDef) (f : FieldDef) (locked : Bool) (w : Word) (v m : Nat) (hd : d.fields = [f])
    (hf : f.lo ≤ f.hi) (h32 : f.hi < 32) :
    fieldGet (wordAfter d locked w.toNat v m) f.hi f.lo =
      fieldAfter f locked (fieldGet w f.hi f.lo) v m % 2 ^ (f.hi + 1 - f.lo) := by
  simp only [wordAfter, hd, List.foldl_cons, List.foldl_nil, BitVec.ofNat_toNat, BitVec.setWidth_eq]
  exact fieldGet_fieldPut_same _ _ _ _ hf h32

/-- A whole write of an unchecked RW field of the low half sets it. -/
theorem fieldAfter_rw_low16 (cold : List Nat) (locked : Bool) (old v : Nat) :
    fieldAfter ⟨15, 0, .rw, cold, .any⟩ locked old v 0xFFFFFFFF = v % 65536 := by
  simp [fieldAfter, checkOk, mod_and_low16]

/-- A whole write of a W1C field of the low half clears the bits written as 1. -/
theorem fieldAfter_w1c_low16 (cold : List Nat) (locked : Bool) (old v : Nat) :
    fieldAfter ⟨15, 0, .w1c, cold, .any⟩ locked old v 0xFFFFFFFF = old - (old &&& v % 65536) := by
  simp [fieldAfter, mod_and_low16]

/-- A write of BENCH_EV_EN sets the mask whole. -/
theorem State.regWrite_benchEvEn (s : State) (b v : Nat) (hb : b < 57) (hon : s.windowOff b = false) :
    ((s.regWrite (b * 0x100000 + 0x10) v 0xFFFFFFFF).1.rd (F.BENCH_EV_EN b) = v % 65536) ∧
      (s.regWrite (b * 0x100000 + 0x10) v 0xFFFFFFFF).1.bench = s.bench := by
  rw [s.regWrite_common b 0x10 v _ benchEvEnLine 0 (by decide) (findReg_benchEvEn b hb) rfl (by decide) hon]
  refine ⟨?_, s.setWord_bench _ _⟩
  rw [s.rd_setWord_of_key _ _ _ (F.key_BENCH_EV_EN b)]
  refine (fieldGet_wordAfter_single benchEvEnLine _ _ _ v _ rfl (by decide) (by decide)).trans ?_
  rw [fieldAfter_rw_low16]
  exact Nat.mod_mod v 65536

/-- A write of BENCH_EV_STAT clears the bits written as 1 and leaves BENCH_EV_EN. -/
theorem State.regWrite_benchEvStat (s : State) (b v : Nat) (hb : b < 57) (hon : s.windowOff b = false) :
    ((s.regWrite (b * 0x100000 + 0x14) v 0xFFFFFFFF).1.rd (F.BENCH_EV_STAT b) =
        s.rd (F.BENCH_EV_STAT b) - (s.rd (F.BENCH_EV_STAT b) &&& v % 65536)) ∧
      (s.regWrite (b * 0x100000 + 0x14) v 0xFFFFFFFF).1.rd (F.BENCH_EV_EN b) = s.rd (F.BENCH_EV_EN b) := by
  rw [s.regWrite_common b 0x14 v _ benchEvStatLine 0 (by decide) (findReg_benchEvStat b hb) rfl (by decide) hon]
  constructor
  · have hlt : s.rd (F.BENCH_EV_STAT b) < 65536 := Nat.mod_lt _ (Nat.two_pow_pos 16)
    rw [s.rd_setWord_of_key _ _ _ (F.key_BENCH_EV_STAT b)]
    refine (fieldGet_wordAfter_single benchEvStatLine _ _ _ v _ rfl (by decide) (by decide)).trans ?_
    rw [fieldAfter_w1c_low16]
    exact Nat.mod_eq_of_lt ((Nat.sub_le _ _).trans_lt hlt)
  · exact s.rd_setWord_other _ _ _ (by rw [F.key_BENCH_EV_EN]; omega)

/-- A write of 1 to BENCH_CTL sets LOCK. -/
theorem State.regWrite_benchLock (s : State) (b : Nat) (hb : b < 57) (hon : s.windowOff b = false) :
    ((s.regWrite (b * 0x100000 + 0xC) 1 0xFFFFFFFF).1.isSet (F.BENCH_CTL_LOCK b) = true) ∧
      ((s.regWrite (b * 0x100000 + 0xC) 1 0xFFFFFFFF).1.bench = s.bench) ∧
      (s.regWrite (b * 0x100000 + 0xC) 1 0xFFFFFFFF).1.tim = s.tim := by
  rw [s.regWrite_common b 0xC 1 _ benchCtlLine 0 (by decide) (findReg_benchCtl b hb) rfl (by decide) hon]
  refine ⟨?_, s.setWord_bench _ _, s.setWord_tim _ _⟩
  rw [State.isSet, beq_iff_eq, s.rd_setWord_of_key _ _ _ (F.key_BENCH_CTL_LOCK b)]
  refine (fieldGet_wordAfter_single benchCtlLine _ _ _ 1 _ rfl (by decide) (by decide)).trans ?_
  simp [fieldAfter, Nat.or_mod_two_eq_one]

/-! ### A locked word (R615) -/

/-- A write that differs from CTL_BOOT_CFG in its fields would change a locked one. -/
theorem wouldChangeLocked_bootCfg (old v : Nat) (h : v % 2 ^ 25 ≠ old % 2 ^ 25) :
    wouldChangeLocked bootCfgLine old v 0xFFFFFFFF = true := by
  by_contra hno
  rw [wouldChangeLocked, Nat.and_two_pow_sub_one_eq_mod _ 32] at hno
  simp [bootCfgLine] at hno
  have hx : (old ^^^ v) % 2 ^ 25 = 0 := by omega
  rw [Nat.xor_mod_two_pow, Nat.xor_eq_zero_iff] at hx
  exact h hx.symm

/-- A write of CTL_BOOT_CFG under the lock keeps the word and counts. -/
theorem State.regWrite_bootCfg_locked (s : State) (v : Nat) (hon : s.windowOff 0 = false)
    (hlock : s.isSet (F.BENCH_CTL_LOCK 0) = true) (hv : v % 2 ^ 25 ≠ (s.word 0x4008).toNat % 2 ^ 25) :
    (s.regWrite 0x4008 v 0xFFFFFFFF).1 = (s.setWord 0x4008 (s.word 0x4008)).bump (F.BENCH_LOCK_IGN 0) := by
  have hcmd (t : State) (c : Nat) : t.classCmd c 0 0x4008 (v &&& 0xFFFFFFFF) = t := by simp [State.classCmd]
  rw [s.regWrite_of_open 0x4008 v _ hon rfl]
  change (s.writeBits 0 0x4008 v 0xFFFFFFFF).1 = _
  rw [s.writeBits_inst 0 0x4008 v _ bootCfgLine 0 findReg_bootCfg rfl (.inl (by decide)) (by decide) hcmd fun _ => rfl]
  have hafter : wordAfter bootCfgLine true (s.word 0x4008).toNat v 0xFFFFFFFF = s.word 0x4008 := by
    rw [wordAfter_locked _ _ _ _ (by decide), BitVec.ofNat_toNat, BitVec.setWidth_eq]
  simp [State.writeWord, hlock, hafter, crossCheck, State.writeAllowed, wouldChangeLocked_bootCfg _ _ hv, toNat_and_full]

/-! ### Reads (R609, R610) -/

/-- A half latched reads back on its path. -/
@[simp] theorem State.latched_latch_same (s : State) (path key v : Nat) : (s.latch path key v).latched path key = v := by
  simp [State.latch, State.latched]

/-- The common block and the snapshot area lie below a bench's own registers. -/
theorem State.commonWord_none (s : State) (b off : Nat) (h : 0x1000 ≤ off) : s.commonWord b off = none := by
  have hne : ∀ k, k < 0x1000 → off ≠ k := by omega
  have hlt : ¬off < 0x1000 := by omega
  simp [State.commonWord, hne, hlt]

/-- The window of an OFF bench answers with no effect. -/
theorem State.regRead_off (s : State) (path addr : Nat) (h : s.windowOff (addr / 0x100000) = true) :
    s.regRead path addr = (s, s.regView (addr / 0x100000) (addr % 0x100000)) := by
  simp [State.regRead, h]

/-- The low half of the count (R34). -/
theorem State.regView_timNowLo (s : State) (h : s.windowOff 2 = false) : s.regView 2 0x1000 = s.now % 2 ^ 32 := by
  simp [State.regView, h, s.commonWord_none 2 0x1000 (by decide), State.timWord]

/-- The high half of the count (R34). -/
theorem State.regView_timNowHi (s : State) (h : s.windowOff 2 = false) : s.regView 2 0x1004 = s.now / 2 ^ 32 % 2 ^ 32 := by
  simp [State.regView, h, s.commonWord_none 2 0x1004 (by decide), State.timWord]

/-- A read of TIM_NOW_LO answers the low half and latches the high half for the path. -/
theorem State.regRead_timNowLo (s : State) (path : Nat) (h : s.windowOff 2 = false) :
    s.regRead path 0x201000 = (s.latch path (s.latchKey 2 0x1004) (s.now / 2 ^ 32 % 2 ^ 32), s.now % 2 ^ 32) := by
  simp [State.regRead, h, isLo, classOf, s.regView_timNowLo h, s.regView_timNowHi h]

/-- A read of TIM_NOW_HI answers the half that the path latched. -/
theorem State.regRead_timNowHi (s : State) (path : Nat) (h : s.windowOff 2 = false) :
    s.regRead path 0x201004 = (s, s.latched path (s.latchKey 2 0x1004)) := by
  simp [State.regRead, h, isLo]

/-! ### The commands that access registers (R609, R612, R616, R632) -/

/-- A permitted read of a bench that does not reload answers on its path. -/
theorem exec_halfLatchRead_open (s : State) (path addr : Nat) (hperm : s.permits path 0 = true) (hword : wordAddr addr = true)
    (hload : s.reloading (addr / 0x100000) = false) :
    exec (.halfLatchRead path addr) s = .next ((s.regRead path addr).1.send (.value (s.regRead path addr).2)) := by
  change execHalfLatchRead path addr s = _
  simp [execHalfLatchRead, hperm, hword, State.readAccess, hload]

/-- A permitted read of a bench that reloads in place waits. -/
theorem exec_halfLatchRead_held (s : State) (path addr : Nat) (hperm : s.permits path 0 = true) (hword : wordAddr addr = true)
    (hload : s.reloading (addr / 0x100000) = true) :
    exec (.halfLatchRead path addr) s = .next (s.holdAccess (.read path addr)) := by
  change execHalfLatchRead path addr s = _
  simp [execHalfLatchRead, hperm, hword, State.readAccess, hload]

/-- A read that its path does not permit does nothing. -/
theorem exec_halfLatchRead_denied (s : State) (path addr : Nat) (hperm : s.permits path 0 = false) :
    exec (.halfLatchRead path addr) s = .next s := by
  change execHalfLatchRead path addr s = _
  simp [execHalfLatchRead, hperm]

/-- A permitted write of a bench that does not reload is the write of its register. -/
theorem exec_registerWrite_open (s : State) (path addr : Nat) (v : Word) (hperm : s.permits path 1 = true)
    (hword : wordAddr addr = true) (hload : s.reloading (addr / 0x100000) = false) :
    exec (.registerWrite path addr v) s = .next (s.regWrite addr v.toNat 0xFFFFFFFF).1 := by
  change execRegisterWrite path addr v s = _
  simp [execRegisterWrite, hperm, hword, State.writeAccess, hload]

/-- A permitted write of a bench that reloads in place waits. -/
theorem exec_registerWrite_held (s : State) (path addr : Nat) (v : Word) (hperm : s.permits path 1 = true)
    (hword : wordAddr addr = true) (hload : s.reloading (addr / 0x100000) = true) :
    exec (.registerWrite path addr v) s = .next (s.holdAccess (.write addr v.toNat 0xFFFFFFFF)) := by
  change execRegisterWrite path addr v s = _
  simp [execRegisterWrite, hperm, hword, State.writeAccess, hload]

/-- A write that its path does not permit does nothing. -/
theorem exec_registerWrite_denied (s : State) (path addr : Nat) (v : Word) (hperm : s.permits path 1 = false) :
    exec (.registerWrite path addr v) s = .next s := by
  change execRegisterWrite path addr v s = _
  simp [execRegisterWrite, hperm]

/-- Setting the lock of a bench that does not reload is a write of 1 to its BENCH_CTL. -/
theorem exec_benchLockSet_open (s : State) (b : Nat) (hb : b < 64) (hload : s.reloading b = false) :
    exec (.benchLockSet b) s = .next (s.regWrite (b * 0x100000 + 0xC) 1 0xFFFFFFFF).1 := by
  obtain ⟨hbench, -⟩ := windowAddr_split b 0xC (by decide)
  change execBenchLockSet b s = _
  simp only [execBenchLockSet, hb, if_true, State.writeAccess, hbench, hload, Bool.false_eq_true, if_false]

/-- A permitted BAR2 request of one DWORD is that DWORD's access. -/
theorem exec_bar2Access_single (s : State) (write : Bool) (addr x : Nat) (all : Bool) (hen : s.isSet F.EPT_CFG_BAR2_EN = true)
    (hup : s.isSet F.EPT_STAT_LINK_UP = true) (hperm : s.permits 4 (bit write) = true) :
    exec (.bar2Access write addr [(x, all)]) s = .next (s.bar2Word write addr x all) := by
  change execBar2Access write addr [(x, all)] s = _
  simp [execBar2Access, hen, hup, hperm]

/-- A DWORD of BAR2 that need not wait is the access of its register; a write without all its byte enables is ignored. -/
theorem State.bar2Word_open (s : State) (write : Bool) (addr x : Nat) (all : Bool) (hword : wordAddr addr = true)
    (hwaits : s.live.waits = []) (hload : s.reloading (addr / 0x100000) = false) :
    s.bar2Word write addr x all =
      if write then (if all then (s.regWrite addr x 0xFFFFFFFF).1 else s.ignWrite)
      else (s.regRead 4 addr).1.send (.value (s.regRead 4 addr).2) := by
  simp [State.bar2Word, hword, hwaits, hload]

/-- BAR2 does nothing while it is disabled. -/
theorem exec_bar2Access_disabled (s : State) (write : Bool) (addr : Nat) (words : List (Nat × Bool))
    (hen : s.isSet F.EPT_CFG_BAR2_EN = false) : exec (.bar2Access write addr words) s = .next s := by
  change execBar2Access write addr words s = _
  simp [execBar2Access, hen]

end Sys2Proof.Machine

namespace Sys2Proof

open Machine

/-- A command completes with the state that it is known to answer. -/
theorem Completes.of_exec {c : Instr} {s t : State} {P : State → Prop} (h : exec c s = .next t) (hP : P t) : Completes c s P :=
  ⟨t, h, hP⟩

/-- Settles O48: each access is reduced to its register's read or write, and that to what the register's fields do. -/
theorem registerAccess : Obligations.RegisterAccess := by
  unfold Obligations.RegisterAccess
  refine ⟨?readOff, ?readLo, ?readHi, ?readDenied, ?writeEvEn, ?writeEvStat, ?writeOff, ?writeLocked, ?writeDenied, ?writeHeld,
    ?readHeld, ?lockSet, ?bar2Read, ?bar2Partial, ?bar2Write, ?bar2Disabled⟩
  case readOff =>
    intro s path addr hload hperm hword hoff
    refine .of_exec (exec_halfLatchRead_open s path addr hperm hword hload) ?_
    rw [s.regRead_off path addr hoff]
    rfl
  case readLo =>
    rintro s path _ hload hperm rfl hon
    refine .of_exec (exec_halfLatchRead_open s path _ hperm (by decide) hload) ?_
    rw [s.regRead_timNowLo path hon]
    exact ⟨rfl, s.latched_latch_same path _ _, rfl⟩
  case readHi =>
    rintro s path _ hload hperm rfl hon
    refine .of_exec (exec_halfLatchRead_open s path _ hperm (by decide) hload) ?_
    rw [s.regRead_timNowHi path hon]
    rfl
  case readDenied =>
    intro s path addr hperm
    exact .of_exec (exec_halfLatchRead_denied s path addr hperm) rfl
  case writeEvEn =>
    rintro s path _ v b hload hperm hb rfl hon
    exact .of_exec (exec_registerWrite_open s path _ v hperm (wordAddr_window b 0x10 (by omega) (by decide) (by decide)) hload)
      (s.regWrite_benchEvEn b v.toNat hb hon)
  case writeEvStat =>
    rintro s path _ v b hload hperm hb rfl hon
    exact .of_exec (exec_registerWrite_open s path _ v hperm (wordAddr_window b 0x14 (by omega) (by decide) (by decide)) hload)
      (s.regWrite_benchEvStat b v.toNat hb hon)
  case writeOff =>
    rintro s path _ v b hload hperm hb rfl hoff
    refine .of_exec (exec_registerWrite_open s path _ v hperm (wordAddr_window b 0x10 hb (by decide) (by decide)) hload) ?_
    rw [s.regWrite_off _ _ _ (by rwa [(windowAddr_split b 0x10 (by decide)).1])]
    rfl
  case writeLocked =>
    rintro s path _ v hload hperm rfl hon hlock hv
    refine .of_exec (exec_registerWrite_open s path _ v hperm (by decide) hload) ?_
    rw [s.regWrite_bootCfg_locked v.toNat hon hlock hv]
    constructor
    · rw [State.word_bump_other _ _ _ (by decide), State.word_setWord_same]
    · refine (State.rd_bump_same _ 0x2C).trans ?_
      rw [s.rd_setWord_other _ _ _ (by decide)]
      rfl
  case writeDenied =>
    intro s path addr v hperm
    exact .of_exec (exec_registerWrite_denied s path addr v hperm) rfl
  case writeHeld =>
    intro s path addr v hperm hword hload
    exact .of_exec (exec_registerWrite_held s path addr v hperm hword hload) rfl
  case readHeld =>
    intro s path addr hperm hword hload
    exact .of_exec (exec_halfLatchRead_held s path addr hperm hword hload) rfl
  case lockSet =>
    intro s b hload hb hon
    exact .of_exec (exec_benchLockSet_open s b (by omega) hload) (s.regWrite_benchLock b hb hon)
  case bar2Read =>
    intro s addr words hen hup hperm hword hwaits hload hlen
    obtain ⟨⟨x, all⟩, rfl⟩ := List.length_eq_one_iff.1 hlen
    exact .of_exec (exec_bar2Access_single s false addr x all hen hup hperm)
      (s.bar2Word_open false addr x all hword hwaits hload)
  case bar2Partial =>
    rintro s addr _ x hen hup hperm hword hwaits hload rfl
    exact .of_exec (exec_bar2Access_single s true addr x false hen hup hperm)
      (s.bar2Word_open true addr x false hword hwaits hload)
  case bar2Write =>
    rintro s addr _ x hen hup hperm hword hwaits hload rfl
    exact .of_exec (exec_bar2Access_single s true addr x true hen hup hperm)
      (s.bar2Word_open true addr x true hword hwaits hload)
  case bar2Disabled =>
    intro s write addr words hen
    exact .of_exec (exec_bar2Access_disabled s write addr words hen) rfl

end Sys2Proof
end

section
/-!
The cold power-on (R26, R35, R496, R551), O5, and the numbers of a channel (R28), O11. The numbers have 16 bits; one that a channel left
out stays among those still to be accepted until a flit brings it, and it stays there when the numbers come round to it.
-/

namespace Sys2Proof.Machine

/-! ### The cold power-on -/

/-- A list of copies of its default reads as the default everywhere. -/
theorem getD_replicate_self {α : Type} (d : α) (n i : Nat) : (List.replicate n d).getD i d = d := by
  rw [List.getD_eq_getElem?_getD, List.getElem?_replicate]
  split <;> rfl

/-- After reset every bench is as a cold power-on leaves it, a reserved ID included. -/
@[simp] theorem State.benchAt_reset (b : Nat) : State.reset.benchAt b = Bench.cold :=
  getD_replicate_self Bench.cold 57 b

/-- After reset every slot is as a cold power-on leaves it. -/
@[simp] theorem State.slot_reset (n : Nat) : State.reset.slot n = Slot.cold :=
  getD_replicate_self Slot.cold 48 n

/-- After reset every register word has its cold value. -/
theorem State.word_reset (k : Nat) : State.reset.word k = coldWord k := rfl

/-- The window that the home key of a bench's own register stands for. -/
theorem homeWindow_inst (b off : Nat) (hb : b < 64) (hoff : off < 0x100000) : homeWindow (b * 0x100000 + off) = (b, off) := by
  have hlt : b * 0x100000 + off < 0x4000000 := by omega
  obtain ⟨hbench, hoffset⟩ := windowAddr_split b off hoff
  rw [homeWindow, if_pos hlt, hbench, hoffset]

/-- Every event source of a bench is enabled at a cold power-on (Table MGT-1). -/
theorem State.rd_benchEvEn_reset (b : Nat) (hb : b < 57) : State.reset.rd (F.BENCH_EV_EN b) = 0xFFFF := by
  have hcold : coldWord (F.BENCH_EV_EN b).key = regColdWord benchEvEnLine 0 := by
    rw [F.key_BENCH_EV_EN, coldWord, homeWindow_inst b 0x10 (by omega) (by decide), findReg_benchEvEn b hb]
  rw [State.rd, State.word_reset, hcold]
  exact (by decide : fieldGet (regColdWord benchEvEnLine 0) 15 0 = 0xFFFF)

/-! ### The numbers of a channel -/

/-- The number expected next is accepted without a look at the missing ones: one that stands among them stays there, and its flit still
counts as new. -/
theorem State.repeated_acceptNumber_of_missing (s : State) (src : FlitDest) (f : Flit) (e : ChanEnd)
    (hend : s.chanEnd src f = some e) (hnext : e.next = f.seq % 65536) (hmiss : f.seq % 65536 ∈ e.missing) :
    (s.acceptNumber src f).repeated src f = false := by
  have hkey : e.src = src ∧ e.chan = f.chan ∧ e.dest = f.dest := by
    simpa [and_assoc] using List.find?_some (p := fun x : ChanEnd => x.src == src && x.chan == f.chan && x.dest == f.dest) hend
  have hafter : (s.acceptNumber src f).chanEnd src f = some { e with next := (f.seq % 65536 + 1) % 65536 } := by
    simp only [State.acceptNumber, hend]
    simp [State.chanEnd, hkey, hnext]
  simp [State.repeated, hafter, ChanEnd.accepted, hmiss]

/-- Whether a number was accepted on a channel rests on the channel records alone. -/
theorem State.repeated_eq_of_chans_eq (s t : State) (src : FlitDest) (f : Flit) (h : t.chans = s.chans) :
    t.repeated src f = s.repeated src f := by
  simp only [State.repeated, State.chanEnd, h]

/-! ### A channel whose numbers have come round to one left out -/

/-- The lane from PRT0 to SWC (Table ARC-2). -/
def prtLane : Lane := ⟨8, 16, 0⟩

/-- An intact flit with number 5 on channel 1 of that lane. -/
def flitFive : Flit := ⟨.request, .bench 16, 1, 5, 0, 0, true⟩

/-- The record of that channel when number 5 was left out and the numbers 6 to 65,535 and 0 to 4 were accepted after it. -/
def wrappedChannel : ChanEnd := ⟨.bench 8, 1, .bench 16, 5, [5]⟩

/-- A unit with every bench ACTIVE and that one channel record. -/
def wrappedState : State :=
  { State.reset with bench := List.replicate 57 { Bench.cold with state := .active }, chans := [wrappedChannel] }

end Sys2Proof.Machine

namespace Sys2Proof

open Machine

/-- Settles O5: each value is the table's cold value or that of the empty state; the event enables are those of the common block. -/
theorem resetLeaves : Obligations.ResetLeaves := by
  unfold Obligations.ResetLeaves
  refine ⟨rfl, rfl, rfl, ?role, ?serving, ?benches, State.rd_benchEvEn_reset, ?period, ?liveBench, ?supply, rfl, rfl, rfl, ?drives⟩
  case benches => intro b; rw [State.benchAt_reset]; rfl
  case drives => intro n; rw [State.slot_reset]; rfl
  case role | serving | period | liveBench | supply => decide

/-- Refutes O11: where the numbers of a channel have come round to 5, which it left out before, an intact flit with number 5 enters its
FIFO, but 5 stays missing, so the flit does not count as a repeated one afterwards. -/
theorem not_flitsAndBenches : ¬ Obligations.FlitsAndBenches := by
  rintro ⟨hintact, -⟩
  obtain ⟨t, hrun, -, hrep, -⟩ :=
    hintact wrappedState prtLane 0 flitFive prtLane (by decide) rfl rfl rfl rfl rfl rfl (by decide) rfl (by decide)
  have hchans : t.chans = (wrappedState.acceptNumber (.bench 8) flitFive).chans := by cases hrun; rfl
  have hnew : t.repeated (.bench 8) flitFive = false :=
    (State.repeated_eq_of_chans_eq _ _ _ _ hchans).trans
      (wrappedState.repeated_acceptNumber_of_missing (.bench 8) flitFive wrappedChannel rfl rfl (by decide))
  exact absurd (hrep.symm.trans hnew) (by decide)

end Sys2Proof
end

section
/-!
Fields of a register word, the tick of an empty queue, and what the occurrence of an event source does (R36, R45 to R48), then O2 and O9.
-/

namespace Sys2Proof.Machine

/-! ### Fields of one word -/

/-- A word with a field replaced, in its three parts: above the field, the field, below it. -/
theorem toNat_fieldPut (w : Word) (hi lo v : Nat) (h : lo ≤ hi) (h32 : hi < 32) :
    (fieldPut w hi lo v).toNat = 2 ^ lo * (2 ^ (hi + 1 - lo) * (w.toNat / 2 ^ (hi + 1)) + v % 2 ^ (hi + 1 - lo)) + w.toNat % 2 ^ lo := by
  have hpow : 2 ^ (hi + 1) = 2 ^ lo * 2 ^ (hi + 1 - lo) := by rw [← Nat.pow_add]; congr 1; omega
  have htop : w.toNat / 2 ^ (hi + 1) < 2 ^ (31 - hi) := by
    rw [Nat.div_lt_iff_lt_mul (Nat.two_pow_pos _), ← Nat.pow_add]
    exact w.isLt.trans_le (Nat.pow_le_pow_right (by decide) (by omega))
  have hword : 2 ^ lo * (2 ^ (hi + 1 - lo) * 2 ^ (31 - hi)) = 2 ^ 32 := by
    rw [← Nat.pow_add, ← Nat.pow_add]; congr 1; omega
  simp only [fieldPut, fieldGet, BitVec.toNat_ofNat]
  rw [hpow, ← Nat.div_div_eq_div_mul] at htop ⊢
  have hlow := Nat.mod_lt w.toNat (Nat.two_pow_pos lo)
  have hy := Nat.mod_lt v (Nat.two_pow_pos (hi + 1 - lo))
  have hw : w.toNat = 2 ^ lo * (2 ^ (hi + 1 - lo) * (w.toNat / 2 ^ lo / 2 ^ (hi + 1 - lo)) + w.toNat / 2 ^ lo % 2 ^ (hi + 1 - lo)) +
      w.toNat % 2 ^ lo := by rw [Nat.div_add_mod, Nat.div_add_mod]
  generalize w.toNat / 2 ^ lo % 2 ^ (hi + 1 - lo) = g at *
  generalize w.toNat / 2 ^ lo / 2 ^ (hi + 1 - lo) = top at *
  generalize w.toNat % 2 ^ lo = low at *
  generalize v % 2 ^ (hi + 1 - lo) = y at *
  have hput : w.toNat - g * 2 ^ lo + y * 2 ^ lo = 2 ^ lo * (2 ^ (hi + 1 - lo) * top + y) + low := by
    rw [hw, Nat.mul_comm g, Nat.mul_comm y]; simp only [Nat.mul_add]; omega
  rw [hput, Nat.mod_eq_of_lt]
  calc 2 ^ lo * (2 ^ (hi + 1 - lo) * top + y) + low
      < 2 ^ lo * (2 ^ (hi + 1 - lo) * top + y + 1) := by rw [Nat.mul_succ]; omega
    _ ≤ 2 ^ lo * (2 ^ (hi + 1 - lo) * (top + 1)) := Nat.mul_le_mul_left _ (by rw [Nat.mul_succ]; omega)
    _ ≤ 2 ^ lo * (2 ^ (hi + 1 - lo) * 2 ^ (31 - hi)) := Nat.mul_le_mul_left _ (Nat.mul_le_mul_left _ htop)
    _ = 2 ^ 32 := hword

/-- The bits of a word with a field replaced. -/
theorem testBit_fieldPut (w : Word) (hi lo v i : Nat) (h : lo ≤ hi) (h32 : hi < 32) :
    (fieldPut w hi lo v).toNat.testBit i = if lo ≤ i ∧ i ≤ hi then v.testBit (i - lo) else w.toNat.testBit i := by
  rw [toNat_fieldPut w hi lo v h h32, Nat.testBit_two_pow_mul_add _ (Nat.mod_lt _ (Nat.two_pow_pos lo)),
    Nat.testBit_two_pow_mul_add _ (Nat.mod_lt _ (Nat.two_pow_pos _)), Nat.testBit_mod_two_pow, Nat.testBit_mod_two_pow,
    Nat.testBit_div_two_pow]
  by_cases hlo : i < lo
  · have : ¬lo ≤ i := by omega
    simp [hlo, this]
  · by_cases hhi : i ≤ hi
    · have : i - lo < hi + 1 - lo := by omega
      simp [hlo, hhi, this, Nat.not_lt.1 hlo]
    · have : ¬i - lo < hi + 1 - lo := by omega
      have hi' : i - lo - (hi + 1 - lo) + (hi + 1) = i := by omega
      simp [hlo, hhi, this, hi']

/-- The bits of a field are those of its word. -/
theorem testBit_fieldGet (w : Word) (hi lo i : Nat) :
    (fieldGet w hi lo).testBit i = (decide (i < hi + 1 - lo) && w.toNat.testBit (i + lo)) := by
  rw [fieldGet, Nat.testBit_mod_two_pow, Nat.testBit_div_two_pow]

/-- A field keeps its value when a field beside it is written. -/
theorem fieldGet_fieldPut_beside (w : Word) (hi lo v hi' lo' : Nat) (h : lo ≤ hi) (h32 : hi < 32) (hd : hi' < lo ∨ hi < lo') :
    fieldGet (fieldPut w hi lo v) hi' lo' = fieldGet w hi' lo' := by
  apply Nat.eq_of_testBit_eq
  intro i
  rw [testBit_fieldGet, testBit_fieldGet, testBit_fieldPut _ _ _ _ _ h h32]
  by_cases hin : i < hi' + 1 - lo'
  · have : ¬(lo ≤ i + lo' ∧ i + lo' ≤ hi) := by omega
    rw [if_neg this]
  · simp [hin]

/-- Whether a write of field f leaves field g alone: another word, or bits beside g of the same word. -/
def sparedBy (g f : Fld) : Bool :=
  g.key != f.key || (decide (f.lo ≤ f.hi) && decide (f.hi < 32) && (decide (g.hi < f.lo) || decide (f.hi < g.lo)))

/-- What the block writes to a field leaves every field that it spares. -/
theorem State.rd_wr_spared (s : State) (f g : Fld) (v : Nat) (h : sparedBy g f = true) : (s.wr f v).rd g = s.rd g := by
  by_cases hkey : g.key = f.key
  · simp [sparedBy, hkey] at h
    obtain ⟨⟨hle, h32⟩, hd⟩ := h
    rw [State.rd, State.wr, hkey, State.word_setWord_same, fieldGet_fieldPut_beside _ _ _ _ _ _ hle h32 hd, State.rd, hkey]
  · exact s.rd_wr_other f g v hkey

/-- A field of at most 32 bits is below its bound. -/
theorem State.rd_lt (s : State) (f : Fld) : s.rd f < 2 ^ (f.hi + 1 - f.lo) := Nat.mod_lt _ (Nat.two_pow_pos _)

/-- A bit of a number, as the library has it. -/
theorem hasBit_eq_testBit (n i : Nat) : hasBit n i = n.testBit i := by
  rw [Nat.testBit_eq_decide_div_mod_eq]; rfl

/-- A number with one bit replaced, as `setBit` computes it: the field of one bit of a word. -/
theorem hasBit_replaceBit (n i j : Nat) (b : Bool) (hn : n < 2 ^ 31) (hi : i < 31) :
    hasBit (n - bit (hasBit n i) * 2 ^ i + bit b * 2 ^ i) j = if j = i then b else hasBit n j := by
  have hval : (fieldPut (BitVec.ofNat 32 n) i i (bit b)).toNat = n - bit (hasBit n i) * 2 ^ i + bit b * 2 ^ i := by
    have hbit : fieldGet (BitVec.ofNat 32 n) i i = bit (hasBit n i) := by
      rw [fieldGet, BitVec.toNat_ofNat, Nat.mod_eq_of_lt (by omega : n < 2 ^ 32), Nat.add_sub_cancel_left, bit, hasBit]
      rcases Nat.mod_two_eq_zero_or_one (n / 2 ^ i) with h | h <;> simp [h]
    have hb : bit b % 2 ^ (i + 1 - i) = bit b := by rw [Nat.add_sub_cancel_left]; cases b <;> rfl
    have hpow : 2 ^ i ≤ 2 ^ 30 := Nat.pow_le_pow_right (by decide) (by omega)
    have hle : bit b * 2 ^ i ≤ 2 ^ 30 := by cases b with | false => simp [bit] | true => simpa [bit] using hpow
    rw [fieldPut, hbit, hb, BitVec.toNat_ofNat, BitVec.toNat_ofNat, Nat.mod_eq_of_lt (by omega : n < 2 ^ 32), Nat.mod_eq_of_lt (by omega)]
  rw [hasBit_eq_testBit, ← hval, testBit_fieldPut _ _ _ _ _ (le_refl i) (by omega), BitVec.toNat_ofNat, Nat.mod_eq_of_lt (by omega)]
  by_cases h : j = i
  · subst h; cases b <;> simp [bit]
  · have : ¬(i ≤ j ∧ j ≤ i) := by omega
    rw [if_neg this, if_neg h, hasBit_eq_testBit]

/-- Setting a bit of a field sets that bit and no other. -/
theorem State.hasBit_setBit (s : State) (f : Fld) (i j : Nat) (b : Bool) (hle : f.lo ≤ f.hi) (hw : f.hi < f.lo + 16) (h32 : f.hi < 32)
    (hi : i < f.hi + 1 - f.lo) : hasBit ((s.setBit f i b).rd f) j = if j = i then b else hasBit (s.rd f) j := by
  have hlt : s.rd f < 2 ^ 16 := (s.rd_lt f).trans_le (Nat.pow_le_pow_right (by decide) (by omega))
  rw [State.setBit, State.rd_wr_same _ _ _ hle h32, hasBit_eq_testBit, Nat.testBit_mod_two_pow, ← hasBit_eq_testBit,
    hasBit_replaceBit _ _ _ _ (by omega) (by omega)]
  by_cases hj : j < f.hi + 1 - f.lo
  · simp [hj]
  · have hne : j ≠ i := by omega
    have h0 : hasBit (s.rd f) j = false := by
      rw [hasBit_eq_testBit]
      exact Nat.testBit_lt_two_pow ((s.rd_lt f).trans_le (Nat.pow_le_pow_right (by decide) (by omega)))
    simp [hj, hne, h0]

/-! ### Benches -/

/-- A bench in another state than OFF is one of the benches of the unit. -/
theorem State.lt_length_of_benchAt_ne (s : State) (b : Nat) (h : s.benchAt b ≠ Bench.cold) : b < s.bench.length := by
  by_contra hb
  exact h (List.getD_eq_default _ _ (Nat.le_of_not_lt hb))

/-- The bench that is changed. -/
theorem State.benchAt_updBench_same (s : State) (b : Nat) (f : Bench → Bench) (h : b < s.bench.length) :
    (s.updBench b f).benchAt b = f (s.benchAt b) := by
  simp [State.benchAt, State.updBench, List.getD_eq_getElem?_getD, h]

/-- A change of one bench leaves the others alone. -/
theorem State.benchAt_updBench_other (s : State) (b k : Nat) (f : Bench → Bench) (h : k ≠ b) : (s.updBench b f).benchAt k = s.benchAt k := by
  simp [State.benchAt, State.updBench, List.getD_eq_getElem?_getD, Ne.symm h]

/-- A bench without its event buffer, its stamps and the count of its records: what an occurrence leaves alone. -/
def Bench.withoutEvents (x : Bench) : Bench := { x with stamps := [], evBuf := [], evStalled := [], emitted := 0 }

/-- A record offered to the buffer changes the buffer and what stalls with it. -/
theorem Bench.offer_fst (x : Bench) (r : EvRec) : ∃ buf stalled, (x.offer r).1 = { x with evBuf := buf, evStalled := stalled } := by
  unfold Bench.offer
  split
  · exact ⟨_, _, rfl⟩
  · split
    · exact ⟨_, _, rfl⟩
    · split
      · exact ⟨_, _, rfl⟩
      · exact ⟨_, _, rfl⟩

/-! ### The occurrence of an event source (R47, R48) -/

/-- An occurrence as it is before any record: its status bit, the common counters, and the controller fault of a FATAL one. -/
def State.noteEvent (s : State) (b loc sev : Nat) : State :=
  let s := s.setBit (F.BENCH_EV_STAT b) loc true
  let s := if loc = 2 then s.bump (F.BENCH_ERR_DET b) else if loc = 3 then s.bump (F.BENCH_ERR_UNREC b) else s
  if sev = 3 then s.controllerFault else s

/-- A controller fault changes the benches and the registers in nothing. -/
@[simp] theorem State.controllerFault_bench (s : State) : s.controllerFault.bench = s.bench := by
  obtain ⟨o, h⟩ := s.controllerFault_eq; rw [h]

@[simp] theorem State.controllerFault_regs (s : State) : s.controllerFault.regs = s.regs := by
  obtain ⟨o, h⟩ := s.controllerFault_eq; rw [h]

/-- The note of an occurrence changes no bench. -/
@[simp] theorem State.noteEvent_bench (s : State) (b loc sev : Nat) : (s.noteEvent b loc sev).bench = s.bench := by
  unfold State.noteEvent
  extract_lets s1 s2
  have h2 : s2.bench = s.bench := by
    unfold s2
    split
    · rw [State.bump, State.bumpBy_bench, State.setBit_bench]
    · split
      · rw [State.bump, State.bumpBy_bench, State.setBit_bench]
      · rw [State.setBit_bench]
  split
  · rw [State.controllerFault_bench, h2]
  · exact h2

/-- A bench that is OFF raises nothing (R45). -/
theorem State.raise_of_off (s : State) (b loc sev code data : Nat) (h : (s.benchAt b).state = .off) : s.raise b loc sev code data = s := by
  rw [State.raise, if_pos h]

/-- An occurrence of a source that is not enabled leaves no record. -/
theorem State.raise_of_disabled (s : State) (b loc sev code data : Nat) (h : (s.benchAt b).state ≠ .off)
    (hen : hasBit ((s.noteEvent b loc sev).rd (F.BENCH_EV_EN b)) loc = false) :
    s.raise b loc sev code data = s.noteEvent b loc sev := by
  rw [State.raise, if_neg h]
  exact if_neg (by rw [Bool.not_eq_true]; exact hen)

/-- An occurrence of an enabled source leaves a record at its bench: one emitted more, and what was lost counted. -/
theorem State.raise_of_enabled (s : State) (b loc sev code data : Nat) (h : (s.benchAt b).state ≠ .off)
    (hen : hasBit ((s.noteEvent b loc sev).rd (F.BENCH_EV_EN b)) loc = true) :
    ∃ bn lost, bn.emitted = (s.benchAt b).emitted + 1 ∧ bn.withoutEvents = (s.benchAt b).withoutEvents ∧
      s.raise b loc sev code data = ((s.noteEvent b loc sev).updBench b fun _ => bn).bumpBy (F.BENCH_EV_OVF b) lost := by
  have hat : (s.noteEvent b loc sev).benchAt b = s.benchAt b := by rw [State.benchAt, State.noteEvent_bench]; rfl
  rw [State.raise, if_neg h]
  refine ⟨_, _, ?emitted, ?rest, if_pos hen⟩
  case emitted =>
    obtain ⟨buf, stalled, hoff⟩ := Bench.offer_fst (s.benchAt b) _
    change ((Bench.offer ((s.noteEvent b loc sev).benchAt b) _).1).emitted + 1 = _
    rw [hat, hoff]
  case rest =>
    change Bench.withoutEvents { (Bench.offer ((s.noteEvent b loc sev).benchAt b) _).1 with stamps := _, emitted := _ } = _
    rw [hat]
    obtain ⟨buf, stalled, hoff⟩ := Bench.offer_fst (s.benchAt b) _
    rw [hoff]; rfl

theorem F.key_BENCH_EV_OVF (b : Nat) : (F.BENCH_EV_OVF b).key = b * 0x100000 + 0x1C := rfl
theorem F.key_BENCH_ERR_DET (b : Nat) : (F.BENCH_ERR_DET b).key = b * 0x100000 + 0x20 := rfl
theorem F.key_BENCH_ERR_UNREC (b : Nat) : (F.BENCH_ERR_UNREC b).key = b * 0x100000 + 0x24 := rfl

/-- Registers read alike where the register file is the same. -/
theorem State.rd_eq_of_regs_eq {s t : State} (h : t.regs = s.regs) (f : Fld) : t.rd f = s.rd f := by
  rw [State.rd, State.word, h]; rfl

@[simp] theorem State.rd_updBench (s : State) (b : Nat) (g : Bench → Bench) (f : Fld) : (s.updBench b g).rd f = s.rd f := rfl

/-- A count leaves the fields of every other word alone. -/
theorem State.rd_bumpBy_other (s : State) (f g : Fld) (n : Nat) (h : g.key ≠ f.key) : (s.bumpBy f n).rd g = s.rd g :=
  s.rd_wr_other f g _ h

/-- A bit set leaves the fields of every other word alone. -/
theorem State.rd_setBit_other (s : State) (f g : Fld) (i : Nat) (b : Bool) (h : g.key ≠ f.key) : (s.setBit f i b).rd g = s.rd g :=
  s.rd_wr_other f g _ h

/-- A field is what the note of an occurrence wrote, whatever the severity. -/
theorem State.rd_noteEvent (s : State) (b loc sev : Nat) (g : Fld) :
    (s.noteEvent b loc sev).rd g =
      (if loc = 2 then (s.setBit (F.BENCH_EV_STAT b) loc true).bump (F.BENCH_ERR_DET b)
        else if loc = 3 then (s.setBit (F.BENCH_EV_STAT b) loc true).bump (F.BENCH_ERR_UNREC b)
        else s.setBit (F.BENCH_EV_STAT b) loc true).rd g := by
  unfold State.noteEvent
  extract_lets s1 s2
  split
  · exact State.rd_eq_of_regs_eq s2.controllerFault_regs g
  · rfl

/-- The note of an occurrence changes no word but the status bits and the two common counters of its bench. -/
theorem State.rd_noteEvent_other (s : State) (b loc sev : Nat) (g : Fld) (hstat : g.key ≠ (F.BENCH_EV_STAT b).key)
    (hdet : g.key ≠ (F.BENCH_ERR_DET b).key) (hunrec : g.key ≠ (F.BENCH_ERR_UNREC b).key) :
    (s.noteEvent b loc sev).rd g = s.rd g := by
  rw [State.rd_noteEvent]
  split
  · rw [State.bump, State.rd_bumpBy_other _ _ _ _ hdet, State.rd_setBit_other _ _ _ _ _ hstat]
  · split
    · rw [State.bump, State.rd_bumpBy_other _ _ _ _ hunrec, State.rd_setBit_other _ _ _ _ _ hstat]
    · rw [State.rd_setBit_other _ _ _ _ _ hstat]

/-- The note of an occurrence sets its status bit and no other. -/
theorem State.hasBit_noteEvent (s : State) (b loc sev i : Nat) (hloc : loc < 16) :
    hasBit ((s.noteEvent b loc sev).rd (F.BENCH_EV_STAT b)) i = if i = loc then true else hasBit (s.rd (F.BENCH_EV_STAT b)) i := by
  have hdet : (F.BENCH_EV_STAT b).key ≠ (F.BENCH_ERR_DET b).key := by rw [F.key_BENCH_EV_STAT, F.key_BENCH_ERR_DET]; omega
  have hunrec : (F.BENCH_EV_STAT b).key ≠ (F.BENCH_ERR_UNREC b).key := by rw [F.key_BENCH_EV_STAT, F.key_BENCH_ERR_UNREC]; omega
  rw [← s.hasBit_setBit (F.BENCH_EV_STAT b) loc i true (by decide : 0 ≤ 15) (by decide : 15 < 0 + 16) (by decide : 15 < 32) hloc,
    State.rd_noteEvent]
  split
  · rw [State.bump, State.rd_bumpBy_other _ _ _ _ hdet]
  · split
    · rw [State.bump, State.rd_bumpBy_other _ _ _ _ hunrec]
    · rfl

/-- The note of an occurrence of local 2 counts in ERR_DET. -/
theorem State.rd_noteEvent_errDet (s : State) (b loc sev : Nat) :
    (s.noteEvent b loc sev).rd (F.BENCH_ERR_DET b) = (s.rd (F.BENCH_ERR_DET b) + (if loc = 2 then 1 else 0)) % 2 ^ 32 := by
  have hstat : (F.BENCH_ERR_DET b).key ≠ (F.BENCH_EV_STAT b).key := by rw [F.key_BENCH_EV_STAT, F.key_BENCH_ERR_DET]; omega
  have hunrec : (F.BENCH_ERR_DET b).key ≠ (F.BENCH_ERR_UNREC b).key := by rw [F.key_BENCH_ERR_DET, F.key_BENCH_ERR_UNREC]; omega
  rw [State.rd_noteEvent]
  by_cases h2 : loc = 2
  · rw [if_pos h2, if_pos h2]
    exact (State.rd_bump_same _ _).trans (congrArg (fun n => (n + 1) % 2 ^ 32) (s.rd_setBit_other _ _ _ _ hstat))
  · rw [if_neg h2, if_neg h2, Nat.add_zero, Nat.mod_eq_of_lt (show s.rd (F.BENCH_ERR_DET b) < 2 ^ 32 from s.rd_lt _)]
    split
    · rw [State.bump, State.rd_bumpBy_other _ _ _ _ hunrec, State.rd_setBit_other _ _ _ _ _ hstat]
    · rw [State.rd_setBit_other _ _ _ _ _ hstat]

/-- The note of an occurrence of local 3 counts in ERR_UNREC. -/
theorem State.rd_noteEvent_errUnrec (s : State) (b loc sev : Nat) :
    (s.noteEvent b loc sev).rd (F.BENCH_ERR_UNREC b) = (s.rd (F.BENCH_ERR_UNREC b) + (if loc = 3 then 1 else 0)) % 2 ^ 32 := by
  have hstat : (F.BENCH_ERR_UNREC b).key ≠ (F.BENCH_EV_STAT b).key := by rw [F.key_BENCH_EV_STAT, F.key_BENCH_ERR_UNREC]; omega
  have hdet : (F.BENCH_ERR_UNREC b).key ≠ (F.BENCH_ERR_DET b).key := by rw [F.key_BENCH_ERR_DET, F.key_BENCH_ERR_UNREC]; omega
  rw [State.rd_noteEvent]
  by_cases h3 : loc = 3
  · have h2 : ¬loc = 2 := by omega
    rw [if_neg h2, if_pos h3, if_pos h3]
    exact (State.rd_bump_same _ _).trans (congrArg (fun n => (n + 1) % 2 ^ 32) (s.rd_setBit_other _ _ _ _ hstat))
  · rw [if_neg h3, if_neg h3, Nat.add_zero, Nat.mod_eq_of_lt (show s.rd (F.BENCH_ERR_UNREC b) < 2 ^ 32 from s.rd_lt _)]
    split
    · rw [State.bump, State.rd_bumpBy_other _ _ _ _ hdet, State.rd_setBit_other _ _ _ _ _ hstat]
    · rw [State.rd_setBit_other _ _ _ _ _ hstat]

/-- The note of an occurrence leaves the enable bits of its bench alone. -/
theorem State.rd_noteEvent_evEn (s : State) (b loc sev : Nat) :
    (s.noteEvent b loc sev).rd (F.BENCH_EV_EN b) = s.rd (F.BENCH_EV_EN b) := by
  refine s.rd_noteEvent_other b loc sev _ ?_ ?_ ?_
  · rw [F.key_BENCH_EV_EN, F.key_BENCH_EV_STAT]; omega
  · rw [F.key_BENCH_EV_EN, F.key_BENCH_ERR_DET]; omega
  · rw [F.key_BENCH_EV_EN, F.key_BENCH_ERR_UNREC]; omega

/-- A FATAL occurrence, and no other, declares a controller fault. -/
theorem State.noteEvent_faultDeclared (s : State) (b loc sev : Nat) :
    (s.noteEvent b loc sev).faultDeclared = (s.faultDeclared || decide (sev = 3)) := by
  unfold State.noteEvent
  extract_lets s1 s2
  have h2 : s2.faultDeclared = s.faultDeclared := by
    unfold s2
    split
    · rw [State.bump, State.bumpBy, State.wr, State.setWord_faultDeclared]; exact State.setWord_faultDeclared _ _ _
    · split
      · rw [State.bump, State.bumpBy, State.wr, State.setWord_faultDeclared]; exact State.setWord_faultDeclared _ _ _
      · exact State.setWord_faultDeclared _ _ _
  by_cases hsev : sev = 3
  · rw [if_pos hsev, State.controllerFault_declared, decide_eq_true hsev, Bool.or_true]
  · rw [if_neg hsev, h2, decide_eq_false hsev, Bool.or_false]

/-- An occurrence that is not FATAL sends nothing. -/
theorem State.noteEvent_out (s : State) (b loc sev : Nat) (h : sev ≠ 3) : (s.noteEvent b loc sev).out = s.out := by
  unfold State.noteEvent
  extract_lets s1 s2
  rw [if_neg h]
  unfold s2
  split
  · rw [State.bump, State.bumpBy_out]; exact State.setWord_out _ _ _
  · split
    · rw [State.bump, State.bumpBy_out]; exact State.setWord_out _ _ _
    · exact State.setWord_out _ _ _

/-- What an occurrence leaves is its note, and where its source is enabled a record at its bench besides. -/
theorem State.raise_cases (s : State) (b loc sev code data : Nat) (h : (s.benchAt b).state ≠ .off) :
    (hasBit (s.rd (F.BENCH_EV_EN b)) loc = false ∧ s.raise b loc sev code data = s.noteEvent b loc sev) ∨
      (hasBit (s.rd (F.BENCH_EV_EN b)) loc = true ∧ ∃ bn lost, bn.emitted = (s.benchAt b).emitted + 1 ∧
        bn.withoutEvents = (s.benchAt b).withoutEvents ∧
        s.raise b loc sev code data = ((s.noteEvent b loc sev).updBench b fun _ => bn).bumpBy (F.BENCH_EV_OVF b) lost) := by
  cases hen : hasBit (s.rd (F.BENCH_EV_EN b)) loc with
  | false => exact .inl ⟨rfl, s.raise_of_disabled b loc sev code data h (by rw [s.rd_noteEvent_evEn, hen])⟩
  | true => exact .inr ⟨rfl, s.raise_of_enabled b loc sev code data h (by rw [s.rd_noteEvent_evEn, hen])⟩

/-- The registers of a bench but BENCH_EV_OVF are after an occurrence what its note left. -/
theorem State.rd_raise_eq_noteEvent (s : State) (b loc sev code data : Nat) (h : (s.benchAt b).state ≠ .off) (g : Fld)
    (hg : g.key ≠ (F.BENCH_EV_OVF b).key) : (s.raise b loc sev code data).rd g = (s.noteEvent b loc sev).rd g := by
  obtain ⟨-, hr⟩ | ⟨-, bn, lost, -, -, hr⟩ := s.raise_cases b loc sev code data h
  · rw [hr]
  · rw [hr, State.rd_bumpBy_other _ _ _ _ hg, State.rd_updBench]
/-! ### The tick of an empty queue -/

/-- A unit whose first port holds one transmit stamp that CTL has not read. -/
def stampedState : State :=
  { State.reset with eports := { EthPort.cold with stamps := [(0, 0, 0)] } :: List.replicate 7 EthPort.cold }

end Sys2Proof.Machine

namespace Sys2Proof

open Machine

/-- Refutes O2: where a port holds a transmit stamp that CTL has not read, the tick reads it out (R444), so it changes more than the
count. -/
theorem not_emptyQueueTicks : ¬Obligations.EmptyQueueTicks := by
  intro h
  have htick : step stampedState = .next stampedState.tick := rfl
  have hnext := Host.Outcome.next.inj (htick.symm.trans (h stampedState rfl (by decide) (by decide)))
  have hports := congrArg State.eports hnext
  exact absurd hports (by decide)

/-- Settles O9: an occurrence is its note (the status bit, the counters, the controller fault) and, where the source is enabled, a record
at the bench. -/
theorem raisedEvents : Obligations.RaisedEvents := by
  intro s t b loc sev code data _ hloc ht
  subst ht
  refine ⟨s.raise_of_off b loc sev code data, fun hon => ⟨?status, ?others, ?det, ?unrec, ?fault, ?out, ?disabled, ?enabled⟩⟩
  case status =>
    rw [s.rd_raise_eq_noteEvent b loc sev code data hon _ (by rw [F.key_BENCH_EV_STAT, F.key_BENCH_EV_OVF]; omega),
      s.hasBit_noteEvent b loc sev loc hloc, if_pos rfl]
  case others =>
    intro i _ hi
    rw [s.rd_raise_eq_noteEvent b loc sev code data hon _ (by rw [F.key_BENCH_EV_STAT, F.key_BENCH_EV_OVF]; omega),
      s.hasBit_noteEvent b loc sev i hloc, if_neg hi]
  case det =>
    rw [s.rd_raise_eq_noteEvent b loc sev code data hon _ (by rw [F.key_BENCH_ERR_DET, F.key_BENCH_EV_OVF]; omega),
      s.rd_noteEvent_errDet]
  case unrec =>
    rw [s.rd_raise_eq_noteEvent b loc sev code data hon _ (by rw [F.key_BENCH_ERR_UNREC, F.key_BENCH_EV_OVF]; omega),
      s.rd_noteEvent_errUnrec]
  case fault =>
    rw [← s.noteEvent_faultDeclared b loc sev]
    obtain ⟨-, hr⟩ | ⟨-, bn, lost, -, -, hr⟩ := s.raise_cases b loc sev code data hon
    · rw [hr]
    · rw [hr, State.bumpBy, State.wr, State.setWord_faultDeclared, State.updBench_faultDeclared]
  case out =>
    intro hsev
    rw [← s.noteEvent_out b loc sev hsev]
    obtain ⟨-, hr⟩ | ⟨-, bn, lost, -, -, hr⟩ := s.raise_cases b loc sev code data hon
    · rw [hr]
    · rw [hr, State.bumpBy_out, State.updBench_out]
  case disabled =>
    intro hen
    obtain ⟨-, hr⟩ | ⟨hen', -⟩ := s.raise_cases b loc sev code data hon
    · rw [hr, State.noteEvent_bench]
    · exact absurd (hen.symm.trans hen') (by decide)
  case enabled =>
    intro hen
    obtain ⟨hen', -⟩ | ⟨-, bn, lost, hemit, -, hr⟩ := s.raise_cases b loc sev code data hon
    · exact absurd (hen'.symm.trans hen) (by decide)
    · have hb : b < (s.noteEvent b loc sev).bench.length := by
        rw [State.noteEvent_bench]
        exact s.lt_length_of_benchAt_ne b fun hcold => hon (by rw [hcold]; rfl)
      rw [hr, State.benchAt, State.bumpBy_bench, ← State.benchAt, State.benchAt_updBench_same _ _ _ hb, hemit]

end Sys2Proof
end

section
/-!
The event logs (R49 to R53): delivery to CTL, the entry of a record and the copy into attached memory, then O14.
-/

namespace Sys2Proof.Machine

/-- What a function gives of each branch it gives of the choice. -/
theorem map_ite {α β : Type} {f : α → β} {p : Prop} [Decidable p] {a b : α} {x : β} (ha : f a = x) (hb : f b = x) :
    f (if p then a else b) = x := by
  split
  · exact ha
  · exact hb

/-- What each step of a fold keeps, the fold keeps. -/
theorem foldl_keeps {α β γ : Type} {f : α → β} {g : α → γ → α} (h : ∀ a x, f (g a x) = f a) (l : List γ) (a : α) :
    f (l.foldl g a) = f a := by
  induction l generalizing a with
  | nil => rfl
  | cons x xs ih => exact (ih (g a x)).trans (h a x)

/-- A delivered record meets no shot match while the match is not armed (R55). -/
theorem State.matchShot_of_not_armed (s : State) (r : EvRec) (h : s.isSet F.TIM_SHOT_MATCH_ARM = false) : s.matchShot r = s := by
  rw [State.matchShot, h, Bool.false_and, Bool.false_and, if_neg Bool.false_ne_true]

/-- Queueing a record for the subscribers leaves the logs alone. -/
theorem State.notifySubs_evlog (s : State) (r : EvRec) : (s.notifySubs r).evlog = s.evlog := by
  unfold State.notifySubs
  split
  · rfl
  · refine foldl_keeps (f := State.evlog) (fun a u => map_ite (f := State.evlog) rfl ?_) s.subs s
    exact map_ite (f := State.evlog) (State.raise_evlog ..) rfl

/-- An entered record goes in front of the on-chip log, which keeps the newest 4,096; the rest of the logs stays. -/
theorem State.enterRecord_evlog (s : State) (r : EvRec) :
    (s.enterRecord r).evlog = { s.evlog with onChip := (r :: s.evlog.onChip).take 4096 } := by
  rw [State.enterRecord, State.notifySubs_evlog]
  exact congrArg (fun e : EvLog => { e with onChip := (r :: e.onChip).take 4096 }) (State.setWord_evlog ..)

/-- While attached memory is available and no marker is owed, a record is entered as it stands. -/
theorem State.logRecord_of_memOk (s : State) (r : EvRec) (hmem : s.evMemOk = true) (howed : s.evlog.markerOwed = false) :
    s.logRecord r = s.enterRecord r := by
  have hopen : s.logOpen = true := by rw [State.logOpen, hmem, Bool.true_or]
  have hmarker : s.logMarker = s := by rw [State.logMarker, howed]; rfl
  rw [State.logRecord, if_pos hopen, hmarker]

end Sys2Proof.Machine

namespace Sys2Proof

open Machine

/-- Settles O14: the three commands in turn, each by what its function does under the hypotheses of the clause. -/
theorem eventLogs : Obligations.EventLogs := by
  refine ⟨?delivery, ?entry, ?copy⟩
  case delivery =>
    intro s bench r rest hbuf hstalled harm
    have hlen : bench < s.bench.length :=
      s.lt_length_of_benchAt_ne bench fun hcold => by rw [hcold] at hbuf; exact absurd hbuf (List.cons_ne_nil r rest).symm
    let taken := s.updBench bench fun b => { b with evBuf := rest ++ b.evStalled.take 1, evStalled := b.evStalled.drop 1 }
    let t := taken.updEv fun e => { e with delivered := e.delivered ++ [r] }
    have hexec : exec (.eventRecordDelivery bench) s = .next t := by
      show execEventRecordDelivery bench s = _
      unfold execEventRecordDelivery
      rw [hbuf]
      exact congrArg Host.Outcome.next (t.matchShot_of_not_armed r harm)
    refine .of_exec hexec ⟨rfl, ?_, rfl⟩
    show (taken.benchAt bench).evBuf = rest
    rw [State.benchAt_updBench_same _ _ _ hlen]
    show rest ++ List.take 1 (s.benchAt bench).evStalled = rest
    rw [hstalled, List.take_nil, List.append_nil]
  case entry =>
    intro s r hfirst hpass hmem howed
    let taken := s.updEv fun e => { e with delivered := e.delivered.erase r }
    have hexec : exec .eventLogEntry s = .next (taken.enterRecord r) := by
      show execEventLogEntry s = _
      unfold execEventLogEntry
      rw [hfirst]
      show Host.Outcome.next (if s.watermarksPass r.time = true then taken.logRecord r else s) = _
      rw [if_pos hpass, taken.logRecord_of_memOk r hmem howed]
    refine .of_exec hexec ?_
    rw [State.enterRecord_evlog]
    exact ⟨rfl, rfl, rfl⟩
  case copy =>
    intro s hmem
    have hexec : exec .evlogCopy s = .next s.evCopy := rfl
    refine .of_exec hexec ?_
    rw [State.evCopy, if_pos hmem]
    exact ⟨rfl, rfl, rfl⟩

end Sys2Proof
end

section
/-!
The time base (R35 to R44): what an occurrence leaves alone, a forward step, the servo, the markers and a write of TIM_SRC_CFG, then O12.
-/

namespace Sys2Proof.Machine

/-! ### What an occurrence leaves alone -/

/-- An occurrence changes no register but those of the events of its bench, which stand below offset 28h. -/
theorem State.rd_raise_beyond (s : State) (b loc sev code data : Nat) (g : Fld) (hg : 0x28 ≤ g.key % 0x100000) :
    (s.raise b loc sev code data).rd g = s.rd g := by
  by_cases hoff : (s.benchAt b).state = .off
  · rw [s.raise_of_off b loc sev code data hoff]
  · rw [s.rd_raise_eq_noteEvent b loc sev code data hoff _ (by rw [F.key_BENCH_EV_OVF]; omega)]
    exact s.rd_noteEvent_other b loc sev g (by rw [F.key_BENCH_EV_STAT]; omega) (by rw [F.key_BENCH_ERR_DET]; omega)
      (by rw [F.key_BENCH_ERR_UNREC]; omega)

/-- An occurrence at a bench that is not OFF sets its status bit. -/
theorem State.hasBit_raise (s : State) (b loc sev code data : Nat) (hloc : loc < 16) (hon : (s.benchAt b).state ≠ .off) :
    hasBit ((s.raise b loc sev code data).rd (F.BENCH_EV_STAT b)) loc = true := by
  rw [s.rd_raise_eq_noteEvent b loc sev code data hon _ (by rw [F.key_BENCH_EV_STAT, F.key_BENCH_EV_OVF]; omega),
    s.hasBit_noteEvent b loc sev loc hloc, if_pos rfl]

/-- An occurrence changes of the benches only the records of its own. -/
theorem State.benchAt_raise_withoutEvents (s : State) (b loc sev code data k : Nat) :
    ((s.raise b loc sev code data).benchAt k).withoutEvents = (s.benchAt k).withoutEvents := by
  by_cases hoff : (s.benchAt b).state = .off
  · rw [s.raise_of_off b loc sev code data hoff]
  have hlen : b < s.bench.length := s.lt_length_of_benchAt_ne b fun hcold => hoff (by rw [hcold]; rfl)
  have hnote : ∀ j, (s.noteEvent b loc sev).benchAt j = s.benchAt j := fun j => by
    rw [State.benchAt, State.noteEvent_bench]; rfl
  obtain ⟨-, hr⟩ | ⟨-, bn, lost, -, hbn, hr⟩ := s.raise_cases b loc sev code data hoff
  · rw [hr, hnote]
  · rw [hr, State.benchAt, State.bumpBy_bench, ← State.benchAt]
    by_cases hk : k = b
    · subst hk
      rw [State.benchAt_updBench_same _ _ _ (by rw [State.noteEvent_bench]; exact hlen), hbn]
    · rw [State.benchAt_updBench_other _ _ _ _ hk, hnote]

/-! ### The count's step and the rate -/

theorem sat32_lt (i : Int) : sat32 i < 2 ^ 32 := by
  simp only [sat32]; omega

/-- What is written to a 32-bit register reads back, taken to 32 bits. -/
theorem State.rd_wr_sat32 (s : State) (k : Nat) (i : Int) : (s.wr ⟨k, 31, 0⟩ (sat32 i)).rd ⟨k, 31, 0⟩ = sat32 i :=
  (s.rd_wr_same ⟨k, 31, 0⟩ _ (Nat.zero_le 31) (Nat.lt_succ_self 31)).trans (Nat.mod_eq_of_lt (sat32_lt i))

/-- A new rate is a write of TIM_RATE, and one more free value taken. -/
theorem State.slew_eq (s : State) : ∃ v, s.slew = ({ s with freeCount := s.freeCount + 1 } : State).wr F.TIM_RATE v := ⟨_, rfl⟩

theorem State.slew_tim (s : State) : s.slew.tim = s.tim := by
  obtain ⟨v, h⟩ := s.slew_eq; rw [h, State.wr_tim]

theorem State.rd_slew (s : State) (g : Fld) (h : g.key ≠ F.TIM_RATE.key) : s.slew.rd g = s.rd g := by
  obtain ⟨v, hv⟩ := s.slew_eq
  rw [hv, State.rd_wr_other _ _ _ _ h]
  exact State.rd_eq_of_regs_eq rfl g

/-- A forward step moves the count and the times that run over it (log entry 107). -/
theorem State.stepForward_tim (s : State) (n : Nat) :
    (s.stepForward n).tim = { s.tim with
      count := s.tim.count + BitVec.ofNat 64 n, lastUpdate := s.tim.lastUpdate.map (· + n), lastMarker := s.tim.lastMarker.map (· + n),
      ppsInLast := s.tim.ppsInLast.map (· + n), ppsInFrom := s.tim.ppsInFrom + n, ppsOutFrom := s.tim.ppsOutFrom + n } :=
  State.raise_tim ..

/-- A forward step changes no register but those of TIM's events. -/
theorem State.rd_stepForward (s : State) (n : Nat) (g : Fld) (hg : 0x28 ≤ g.key % 0x100000) : (s.stepForward n).rd g = s.rd g :=
  (State.rd_raise_beyond _ _ _ _ _ _ g hg).trans (State.rd_eq_of_regs_eq rfl g)

/-- The count after a forward step that does not pass 2^64. -/
theorem State.stepForward_now (s : State) (n : Nat) (h : s.now + n < 2 ^ 64) : (s.stepForward n).now = s.now + n := by
  rw [State.now, State.stepForward_tim, BitVec.toNat_add, BitVec.toNat_ofNat, ← State.now, Nat.mod_eq_of_lt (by omega : n < 2 ^ 64),
    Nat.mod_eq_of_lt h]

/-! ### The servo (R42) -/

/-- The first update in FREERUN either steps the count or sets the rate, and begins LOCKING. -/
theorem State.servoUpdate_of_freerun (s : State) (offset : Int) (h : s.servo = 0) :
    ∃ u : State, s.servoUpdate offset = (u.wr F.TIM_STAT_STATE 1).updTim (fun t => { t with lockRun := 0 }) ∧
      u.rd F.TIM_OFFSET = sat32 offset ∧
      (s.now + offset.natAbs < 2 ^ 64 → u.tim.lastUpdate = some u.now) := by
  let s1 := (s.wr F.TIM_OFFSET (sat32 offset)).updTim fun t => { t with lastUpdate := some s.now }
  have hservo : s1.servo = 0 := (s.rd_wr_spared F.TIM_OFFSET F.TIM_STAT_STATE _ (by decide)).trans h
  have hoffset : s1.rd F.TIM_OFFSET = sat32 offset := s.rd_wr_sat32 _ _
  have hupdate : s.servoUpdate offset =
      (((if s1.stepAllowed && 0 < offset then s1.stepForward offset.natAbs else s1.slew).wr F.TIM_STAT_STATE 1).updTim
        fun t => { t with lockRun := 0 }) := by
    unfold State.servoUpdate
    change (match s1.servo with | 0 => _ | 1 => _ | 2 => _ | _ => _) = _
    rw [hservo]
    rfl
  refine ⟨_, hupdate, ?_, fun hlt => ?_⟩
  · split
    · rw [State.rd_stepForward _ _ _ (by decide), hoffset]
    · rw [State.rd_slew _ _ (by decide), hoffset]
  · split
    · rw [s1.stepForward_now _ hlt, State.stepForward_tim]; rfl
    · rw [State.now, State.slew_tim]; rfl

/-! ### A write of TIM_SRC_CFG -/

/-- The line of TIM_SRC_CFG. -/
def timSrcCfgLine : RegDef := ⟨2, 2, 0x1008, 0, 1, 0, 1, .inst, [⟨1, 0, .rw, [0], .any⟩, ⟨31, 31, .wo, [0], .any⟩]⟩

theorem findReg_timSrcCfg : findReg 2 0x1008 = some (timSrcCfgLine, 0) := by decide

/-- A write of TIM_SRC_CFG sets its word; nothing of it is lockable and no check binds it. -/
theorem State.writeRegW_timSrcCfg (s : State) (v : Word) :
    s.writeRegW 2 0x1008 v =
      s.setWord 0x201008 (wordAfter timSrcCfgLine (s.isSet (F.BENCH_CTL_LOCK 2)) (s.word 0x201008).toNat v.toNat 0xFFFFFFFF) := by
  have hcheck : ∀ w, crossCheck s.part 2 0x1008 w = 0 := fun w => by simp [crossCheck, classOf]
  have hallow : ∀ t : State, s.writeAllowed t 2 0x1008 = true := fun t => by simp [State.writeAllowed, classOf]
  rw [State.writeRegW, State.writeReg, findReg_timSrcCfg]
  simp [State.homeKey, timSrcCfgLine, State.writeWord, hcheck, hallow, toNat_and_full, wouldChangeLocked]

/-- SRC after a write of TIM_SRC_CFG. -/
theorem State.rd_writeRegW_timSrcCfg (s : State) (v : Word) : (s.writeRegW 2 0x1008 v).rd F.TIM_SRC_CFG_SRC = v.toNat % 4 := by
  rw [s.writeRegW_timSrcCfg, s.rd_setWord_of_key _ _ _ (show F.TIM_SRC_CFG_SRC.key = 0x201008 from rfl)]
  simp only [wordAfter, timSrcCfgLine, List.foldl_cons, List.foldl_nil]
  rw [show F.TIM_SRC_CFG_SRC.hi = 1 from rfl, show F.TIM_SRC_CFG_SRC.lo = 0 from rfl,
    fieldGet_fieldPut_beside _ _ _ _ _ _ (by decide) (by decide) (by decide),
    fieldGet_fieldPut_same _ _ _ _ (by decide) (by decide)]
  have hand : v.toNat % 4 &&& 3 = v.toNat % 4 := by
    rw [show 3 = 2 ^ 2 - 1 from rfl, Nat.and_two_pow_sub_one_eq_mod]; omega
  simp [fieldAfter, checkOk, hand]

/-- A write of TIM_SRC_CFG changes no other word. -/
theorem State.rd_writeRegW_timSrcCfg_other (s : State) (v : Word) (g : Fld) (h : g.key ≠ 0x201008) :
    (s.writeRegW 2 0x1008 v).rd g = s.rd g := by
  rw [s.writeRegW_timSrcCfg, s.rd_setWord_other _ _ _ h]

theorem State.writeRegW_timSrcCfg_tim (s : State) (v : Word) : (s.writeRegW 2 0x1008 v).tim = s.tim := by
  rw [s.writeRegW_timSrcCfg, State.setWord_tim]

/-- What follows a change of SRC writes at most TIM_STAT.STATE. -/
theorem State.srcChanged_tim (s : State) : s.srcChanged.tim = s.tim := map_ite (f := State.tim) rfl rfl

theorem State.rd_srcChanged (s : State) (g : Fld) (h : sparedBy g F.TIM_STAT_STATE = true) : s.srcChanged.rd g = s.rd g :=
  map_ite (f := fun t : State => t.rd g) (s.rd_wr_spared _ _ _ h) rfl

/-- A write of TIM_SRC_CFG where TIM is not held, with SET or without. -/
theorem exec_timSrcCfgWrite_open (s : State) (v : Word) (h : s.reloading 2 = false) :
    exec (.timSrcCfgWrite v) s = .next (s.writeSrcCfg v) := by
  show Host.Outcome.next (s.atWindow 2 0x1008 v.toNat 0xFFFFFFFF fun s => s.writeSrcCfg v) = _
  rw [State.atWindow, h]; rfl

theorem exec_timSetStep_open (s : State) (v : Word) (h : s.reloading 2 = false) :
    exec (.timSetStep v) s = .next (s.writeSrcCfg (v ||| 0x80000000#32)) := by
  show Host.Outcome.next (s.atWindow 2 0x1008 _ 0xFFFFFFFF fun s => s.writeSrcCfg (v ||| 0x80000000#32)) = _
  rw [State.atWindow, h]; rfl

theorem hasBit_or_set (v : Word) : hasBit (v ||| 0x80000000#32).toNat 31 = true := by
  rw [hasBit_eq_testBit, BitVec.toNat_or, Nat.testBit_or]
  exact Bool.or_eq_true_iff.mpr (.inr (by decide))

/-- A write of TIM_SRC_CFG with SET steps the state that the rest of the write leaves. -/
theorem State.writeSrcCfg_of_set (s : State) (v : Word) (h : hasBit v.toNat 31 = true) :
    ∃ u : State, s.writeSrcCfg v = u.setStep ∧ u.tim = s.tim ∧
      ∀ g : Fld, g.key ≠ 0x201008 → sparedBy g F.TIM_STAT_STATE = true → u.rd g = s.rd g := by
  refine ⟨(s.writeRegW 2 0x1008 v).srcChanged, if_pos h, ?_, fun g hkey hspare => ?_⟩
  · rw [State.srcChanged_tim, s.writeRegW_timSrcCfg_tim]
  · rw [State.rd_srcChanged _ _ hspare, s.rd_writeRegW_timSrcCfg_other v g hkey]

/-! ### The marker (R37, R38) -/

/-- What a marker does at one bench. -/
def State.markBench (dev : List (Nat × Int)) (s : State) (b : Nat) : State :=
  if (s.benchAt b).state = .off then s else
  let d := clampDev (((dev.find? fun p => p.1 == b).map (·.2)).getD 0)
  let ok := d.natAbs ≤ nsU 1
  let s := if ok then s else s.raise 2 6 NOTICE 3 b
  let t := s.localTime b
  s.updBench b fun x =>
    let lim := ((listMin ((x.evBuf ++ x.evStalled).map (·.time))).getD t)
    { x with timeLock := ok, deviation := if ok then 0 else d, foundAt := s.now, localMin := t,
             watermark := max x.watermark (min t lim) }

/-- TIM after a marker: the last marker on the grid of 4,096 units. -/
def Tim.marked (now : Nat) (t : Tim) : Tim :=
  { t with lastMarker := some (match t.lastMarker with | some m => m + (now - m) / 4096 * 4096 | none => now) }

/-- The marker is the work at every bench in turn. -/
theorem exec_timeMarker_due (s : State) (dev : List (Nat × Int)) (h : ∀ m, s.tim.lastMarker = some m → m + 4096 ≤ s.now) :
    exec (.timeMarker dev) s = .next ((List.range 57).foldl (State.markBench dev) (s.updTim (Tim.marked s.now))) := by
  have hdue : ¬s.tim.lastMarker.any (fun t => s.now < t + 4096) = true := by
    cases hm : s.tim.lastMarker with
    | none => exact Bool.false_ne_true
    | some m => have := h m hm; simp; omega
  have hexec : exec (.timeMarker dev) s =
      .next (if s.tim.lastMarker.any (fun t => s.now < t + 4096) = true then s
        else (List.range 57).foldl (State.markBench dev) (s.updTim (Tim.marked s.now))) := rfl
  rw [hexec, if_neg hdue]

/-- A bench that is not OFF, at a time. -/
def State.OnAt (b n : Nat) (s : State) : Prop := s.now = n ∧ (s.benchAt b).state ≠ .off

/-- A bench that a marker found off by d at a time. -/
def State.MarkedAt (b n : Nat) (d : Int) (s : State) : Prop :=
  s.OnAt b n ∧ (s.benchAt b).timeLock = decide (d.natAbs ≤ nsU 1) ∧
    (s.benchAt b).deviation = (if d.natAbs ≤ nsU 1 then 0 else d) ∧ (s.benchAt b).foundAt = n

/-- A bench that keeps all but its records stays on, and stays marked. -/
theorem State.OnAt.of_withoutEvents {b n : Nat} {s t : State} (h : s.OnAt b n) (htim : t.tim = s.tim)
    (hat : (t.benchAt b).withoutEvents = (s.benchAt b).withoutEvents) : t.OnAt b n :=
  ⟨(congrArg (fun x : Tim => x.count.toNat) htim).trans h.1, fun hoff => h.2 ((congrArg Bench.state hat).symm.trans hoff)⟩

theorem State.MarkedAt.of_withoutEvents {b n : Nat} {d : Int} {s t : State} (h : s.MarkedAt b n d) (htim : t.tim = s.tim)
    (hat : (t.benchAt b).withoutEvents = (s.benchAt b).withoutEvents) : t.MarkedAt b n d := by
  obtain ⟨hon, hlock, hdev, hfound⟩ := h
  exact ⟨hon.of_withoutEvents htim hat, (congrArg Bench.timeLock hat).trans hlock, (congrArg Bench.deviation hat).trans hdev,
    (congrArg Bench.foundAt hat).trans hfound⟩

/-- The work at another bench leaves a bench as it was, but for its records. -/
theorem State.markBench_other (dev : List (Nat × Int)) (s : State) (b k : Nat) (h : b ≠ k) :
    (s.markBench dev k).tim = s.tim ∧ ((s.markBench dev k).benchAt b).withoutEvents = (s.benchAt b).withoutEvents := by
  unfold State.markBench
  split
  · exact ⟨rfl, rfl⟩
  · extract_lets d ok s1 t
    have h1 : s1.tim = s.tim ∧ (s1.benchAt b).withoutEvents = (s.benchAt b).withoutEvents := by
      unfold s1
      split
      · exact ⟨rfl, rfl⟩
      · exact ⟨State.raise_tim .., s.benchAt_raise_withoutEvents ..⟩
    rw [State.benchAt_updBench_other _ _ _ _ h]
    exact h1

/-- The work at a bench that is on marks it with its deviation. -/
theorem State.OnAt.markBench_same {b n : Nat} {s : State} (dev : List (Nat × Int)) (h : s.OnAt b n) :
    (s.markBench dev b).MarkedAt b n (clampDev (((dev.find? fun p => p.1 == b).map (·.2)).getD 0)) := by
  obtain ⟨hnow, hon⟩ := h
  unfold State.markBench
  rw [if_neg hon]
  extract_lets d ok s1 t
  have h1 : s1.OnAt b n := by
    unfold s1
    split
    · exact ⟨hnow, hon⟩
    · exact State.OnAt.of_withoutEvents ⟨hnow, hon⟩ (State.raise_tim ..) (s.benchAt_raise_withoutEvents ..)
  have hlen : b < s1.bench.length := s1.lt_length_of_benchAt_ne b fun hcold => h1.2 (by rw [hcold]; rfl)
  rw [State.MarkedAt, State.OnAt, State.benchAt_updBench_same _ _ _ hlen]
  exact ⟨h1, rfl, rfl, h1.1⟩

/-- The work at any bench keeps a bench on. -/
theorem State.OnAt.markBench {b n : Nat} {s : State} (dev : List (Nat × Int)) (k : Nat) (h : s.OnAt b n) : (s.markBench dev k).OnAt b n := by
  by_cases hk : b = k
  · subst hk; exact (h.markBench_same dev).1
  · obtain ⟨htim, hat⟩ := s.markBench_other dev b k hk
    exact h.of_withoutEvents htim hat

/-- What one step of a fold establishes and every step keeps holds after the fold. -/
theorem foldl_establishes {α γ : Type} {Q P : α → Prop} {g : α → γ → α} {x : γ} (hQ : ∀ a y, Q a → Q (g a y))
    (hP : ∀ a y, P a → P (g a y)) (hx : ∀ a, Q a → P (g a x)) (l : List γ) (hmem : x ∈ l) (a : α) (ha : Q a) : P (l.foldl g a) := by
  obtain ⟨l1, l2, rfl⟩ := List.append_of_mem hmem
  rw [List.foldl_append, List.foldl_cons]
  have h1 : Q (l1.foldl g a) := List.foldlRecOn l1 g ha fun c hc y _ => hQ c y hc
  exact List.foldlRecOn l2 g (hx _ h1) fun c hc y _ => hP c y hc

/-- The work at every bench marks each that is on. -/
theorem State.OnAt.foldl_markBench {b n : Nat} {s : State} (dev : List (Nat × Int)) (l : List Nat) (h : s.OnAt b n) (hb : b ∈ l) :
    (l.foldl (State.markBench dev) s).MarkedAt b n (clampDev (((dev.find? fun p => p.1 == b).map (·.2)).getD 0)) := by
  refine foldl_establishes (Q := State.OnAt b n) (fun t k ht => ht.markBench dev k) (fun t k ht => ?_)
    (fun t ht => ht.markBench_same dev) l hb s h
  by_cases hk : b = k
  · subst hk; exact ht.1.markBench_same dev
  · obtain ⟨htim, hat⟩ := t.markBench_other dev b k hk
    exact ht.of_withoutEvents htim hat

/-! ### PTP (R41) -/

/-- A message of the image's domain, on a domain that R41 allows. -/
theorem ptpDomain_taken (d : Nat) (h : d ≤ 127) : ¬(d != d || decide (d > 127)) = true := by
  simpa using h

/-- A delay request is answered by a port that is master. -/
theorem exec_ptpMessage_delayReq (s : State) (port mac : Nat) (tr : PtpTransport) (hport : ptpPortOf s.ptpCfg mac = some port)
    (hmax : s.ptpCfg.domain ≤ 127) (hmaster : ∀ y, s.tim.ptp.find? (fun p => p.port == port) = some y → y.state = .master) :
    exec (.ptpMessage ⟨mac, tr, s.ptpCfg.domain, .delayReq⟩) s = .next (s.send (.ptpResponse mac tr false)) := by
  have hstate : (((s.tim.ptp.find? fun p => p.port == port).getD ⟨port, .master, none, none⟩).state == .master) = true := by
    cases hp : s.tim.ptp.find? fun p => p.port == port with
    | none => rfl
    | some y => rw [Option.getD_some, hmaster y hp]; rfl
  show execPtpMessage _ s = _
  unfold execPtpMessage
  rw [hport]
  exact congrArg Host.Outcome.next ((if_neg (ptpDomain_taken _ hmax)).trans (if_pos hstate))

/-- A peer delay request is answered by every port. -/
theorem exec_ptpMessage_pdelayReq (s : State) (port mac : Nat) (tr : PtpTransport) (hport : ptpPortOf s.ptpCfg mac = some port)
    (hmax : s.ptpCfg.domain ≤ 127) :
    exec (.ptpMessage ⟨mac, tr, s.ptpCfg.domain, .pdelayReq⟩) s = .next (s.send (.ptpResponse mac tr true)) := by
  show execPtpMessage _ s = _
  unfold execPtpMessage
  rw [hport]
  exact congrArg Host.Outcome.next (if_neg (ptpDomain_taken _ hmax))

/-- The port of the only foreign clock, which is better than the own one, is slave. -/
theorem decidePtp_better (own ds : ClockDs) (port : Nat) (hcls : 127 < own.cls) (hworse : betterClock own ds = false) :
    decidePtp own [⟨port, .master, some ds, none⟩] = [⟨port, .slave, some ds, none⟩] := by
  have hcls' : ¬own.cls ≤ 127 := by omega
  simp [decidePtp, bestForeign, hcls', hworse]

/-- The first Announce, of a better clock, makes its port slave and gives the UTC offset. -/
theorem exec_ptpMessage_announce (s : State) (port mac : Nat) (tr : PtpTransport) (ds : ClockDs) (utc : Int)
    (hport : ptpPortOf s.ptpCfg mac = some port) (hmax : s.ptpCfg.domain ≤ 127) (hptp : s.tim.ptp = [])
    (hcls : 127 < s.ptpCfg.clock.cls) (hworse : betterClock s.ptpCfg.clock ds = false) :
    exec (.ptpMessage ⟨mac, tr, s.ptpCfg.domain, .announce ds utc⟩) s =
      .next ((s.updTim fun t => { t with ptp := [⟨port, .slave, some ds, none⟩] }).wr F.TIM_UTC_OFS (sat32 utc)) := by
  show execPtpMessage _ s = _
  unfold execPtpMessage
  rw [hport]
  refine congrArg Host.Outcome.next ((if_neg (ptpDomain_taken _ hmax)).trans ?_)
  have hput : (s.updTim fun t => { t with
        ptp := decidePtp s.ptpCfg.clock ({ (s.tim.ptp.find? fun p => p.port == port).getD ⟨port, .master, none, none⟩ with
          foreign := some ds } :: t.ptp.filter fun x => x.port != port) }) =
      s.updTim fun t => { t with ptp := [⟨port, .slave, some ds, none⟩] } := by
    rw [State.updTim, hptp]
    simp [State.updTim, decidePtp_better _ ds port hcls hworse]
  have hslave : (s.updTim fun t => { t with ptp := [⟨port, .slave, some ds, none⟩] }).tim.ptp.any
      (fun x => x.port == port && x.state == .slave) = true := by
    simp [State.updTim]
  rw [← hput] at hslave ⊢
  exact if_pos hslave

/-- A message that R41 excludes is ignored. -/
theorem exec_ptpMessage_excluded (s : State) (m : PtpMsg)
    (h : ptpPortOf s.ptpCfg m.mac = none ∨ m.domain ≠ s.ptpCfg.domain ∨ m.body = .unsupported) : exec (.ptpMessage m) s = .next s := by
  show execPtpMessage m s = _
  unfold execPtpMessage
  refine congrArg Host.Outcome.next ?_
  obtain hnone | hdom | hbody := h
  · rw [hnone]
  · split
    · rfl
    · exact if_pos (by rw [bne_iff_ne.mpr hdom]; rfl)
  · split
    · rfl
    · rw [hbody]
      exact map_ite (f := id) rfl rfl

end Sys2Proof.Machine

namespace Sys2Proof

open Machine

/-- Settles O12: the commands of the time base in turn, each by what its function does under the hypotheses of the clause. -/
theorem timeBase : Obligations.TimeBase := by
  refine ⟨?marker, ?servo, ?timeout, ?holdover, ?source, ?step, ?ignored, ?edge, ?missing, ?rise, ?fall, ?delay, ?peer, ?announce, ?excluded⟩
  case marker =>
    intro s dev b d hb hon hdev hdue
    refine .of_exec (exec_timeMarker_due s dev hdue) ?_
    have hmark := State.OnAt.foldl_markBench (s := s.updTim (Tim.marked s.now)) dev (List.range 57) ⟨rfl, hon⟩ (List.mem_range.mpr hb)
    obtain ⟨-, hlock, hdeviation, hfound⟩ := hmark
    have hd : ((dev.find? fun p => p.1 == b).map (·.2)).getD 0 = d := by rw [hdev]; rfl
    rw [hd] at hlock hdeviation
    have hclamp : (clampDev d).natAbs ≤ nsU 1 ↔ d.natAbs ≤ 4 := by
      rw [clampDev, show nsU 1 = 4 from rfl]; omega
    simp only [hclamp] at hlock hdeviation
    exact ⟨hlock, hdeviation, hfound⟩
  case servo =>
    intro s src offset hsrc hsel hservo hlt
    have hexec : exec (.servoUpdate src offset) s = .next (s.servoUpdate offset) := by
      refine congrArg Host.Outcome.next (if_pos ?_)
      simp [hsrc, hsel]
    obtain ⟨u, hu, hoffset, hlast⟩ := s.servoUpdate_of_freerun offset hservo
    rw [hu] at hexec
    refine .of_exec hexec ⟨?_, ?_, rfl, hlast hlt⟩
    · exact (u.rd_wr_spared F.TIM_STAT_STATE F.TIM_OFFSET 1 (by decide)).trans hoffset
    · exact u.rd_wr_same F.TIM_STAT_STATE 1 (by decide) (by decide)
  case timeout =>
    intro s hservo hdue
    let u := s.raise 2 4 NOTICE 1 (s.rd F.TIM_SRC_CFG_SRC)
    have hexec : exec .servoUpdateTimeout s = .next (u.wr F.TIM_STAT_STATE 3) := by
      refine congrArg Host.Outcome.next (if_pos ?_)
      rw [hdue, Bool.and_true, Bool.or_eq_true, beq_iff_eq, beq_iff_eq]
      exact hservo
    refine .of_exec hexec ⟨u.rd_wr_same F.TIM_STAT_STATE 3 (by decide) (by decide), ?_, State.raise_tim ..⟩
    rw [u.rd_wr_spared F.TIM_STAT_STATE F.TIM_RATE 3 (by decide), State.rd_raise_beyond _ _ _ _ _ _ _ (by decide)]
  case holdover =>
    intro s hservo hdue
    let u := s.raise 2 7 ERROR 4 0
    have hexec : exec .holdoverExpiry s = .next (u.wr F.TIM_STAT_STATE 0) := by
      refine congrArg Host.Outcome.next (if_pos ?_)
      rw [hdue, hservo]; rfl
    refine .of_exec hexec ⟨u.rd_wr_same F.TIM_STAT_STATE 0 (by decide) (by decide), ?_⟩
    rw [u.rd_wr_spared F.TIM_STAT_STATE F.TIM_RATE 0 (by decide), State.rd_raise_beyond _ _ _ _ _ _ _ (by decide)]
  case source =>
    intro s v hload hset
    let u := s.writeRegW 2 0x1008 v
    have hexec : exec (.timSrcCfgWrite v) s = .next u.srcChanged := by
      rw [exec_timSrcCfgWrite_open s v hload]
      exact congrArg Host.Outcome.next (if_neg (by rw [hset]; exact Bool.false_ne_true))
    have hsrc : u.rd F.TIM_SRC_CFG_SRC = v.toNat % 4 := s.rd_writeRegW_timSrcCfg v
    refine .of_exec hexec ⟨?_, ?_, ?_⟩
    · rw [State.rd_srcChanged _ _ (by decide), hsrc]
    · rw [State.srcChanged, hsrc]
      split
      · exact u.rd_wr_same F.TIM_STAT_STATE 0 (by decide) (by decide)
      · exact s.rd_writeRegW_timSrcCfg_other v _ (by decide)
    · rw [State.srcChanged_tim, s.writeRegW_timSrcCfg_tim]
  case step =>
    intro s v hload hserv hlater
    obtain ⟨u, hu, htim, hrd⟩ := s.writeSrcCfg_of_set _ (hasBit_or_set v)
    have hset : u.rd64 F.TIM_SET_LO F.TIM_SET_HI = s.rd64 F.TIM_SET_LO F.TIM_SET_HI := by
      rw [State.rd64, hrd F.TIM_SET_LO (by decide) (by decide), hrd F.TIM_SET_HI (by decide) (by decide)]; rfl
    have hnow : u.now = s.now := congrArg (fun t : Tim => t.count.toNat) htim
    have hallow : u.stepAllowed = true := by
      rw [State.stepAllowed, State.isSet, hrd F.TIM_STAT_SERVING (by decide) (by decide), ← State.isSet, hserv]; rfl
    have hexec : exec (.timSetStep v) s = .next (u.stepForward (s.rd64 F.TIM_SET_LO F.TIM_SET_HI - s.now)) := by
      rw [exec_timSetStep_open s v hload, hu, State.setStep, hset, hnow, hallow, Bool.true_and, if_pos (decide_eq_true hlater)]
    refine .of_exec hexec ⟨?_, ?_⟩
    · have hbound : s.rd64 F.TIM_SET_LO F.TIM_SET_HI < 2 ^ 64 := by
        have hlo : s.rd F.TIM_SET_LO < 2 ^ 32 := s.rd_lt _
        have hhi : s.rd F.TIM_SET_HI < 2 ^ 32 := s.rd_lt _
        rw [State.rd64]; omega
      have hsum := u.stepForward_now (s.rd64 F.TIM_SET_LO F.TIM_SET_HI - s.now) (by omega)
      rw [State.now] at hsum
      omega
    · rw [State.rd_stepForward _ _ _ (by decide), hrd _ (by decide) (by decide)]
  case ignored =>
    intro s v hload hserv
    obtain ⟨u, hu, htim, hrd⟩ := s.writeSrcCfg_of_set _ (hasBit_or_set v)
    have hallow : u.stepAllowed = false := by
      rw [State.stepAllowed, State.isSet, hrd F.TIM_STAT_SERVING (by decide) (by decide), ← State.isSet, hserv]; rfl
    have hexec : exec (.timSetStep v) s = .next (u.bump F.TIM_STAT_SET_IGN) := by
      rw [exec_timSetStep_open s v hload, hu, State.setStep, hallow, Bool.false_and, if_neg Bool.false_ne_true]
    refine .of_exec hexec ⟨htim, ?_⟩
    rw [State.bump, State.bumpBy, u.rd_wr_same F.TIM_STAT_SET_IGN _ (by decide) (by decide),
      hrd F.TIM_STAT_SET_IGN (by decide) (by decide)]
    rfl
  case edge =>
    intro s hen hsrc
    let u := s.updTim fun t => { t with ppsInLast := some s.now, ppsInFrom := s.now, ppsMissRaised := false }
    let w := if u.servo == 2 && s.ppsOffset.natAbs > usU 1 then u.raise 2 10 NOTICE 7 0 else u
    have hw : w.tim = u.tim := map_ite (f := State.tim) (State.raise_tim ..) rfl
    have hwsrc : w.rd F.TIM_SRC_CFG_SRC = s.rd F.TIM_SRC_CFG_SRC :=
      map_ite (f := fun t : State => t.rd F.TIM_SRC_CFG_SRC) (u.rd_raise_beyond _ _ _ _ _ _ (by decide)) rfl
    have hexec : exec .ppsInEdge s = .next w := by
      have hon : ¬(!s.isSet F.TIM_PPS_CFG_IN_EN) = true := by rw [hen]; exact Bool.false_ne_true
      have hother : (w.rd F.TIM_SRC_CFG_SRC != 2) = true := by rw [hwsrc]; exact bne_iff_ne.mpr hsrc
      exact congrArg Host.Outcome.next ((if_neg hon).trans (if_pos hother))
    refine .of_exec hexec ?_
    rw [hw]
    exact ⟨rfl, rfl, rfl, rfl⟩
  case missing =>
    intro s hen hraised hdue hon
    have hexec : exec .ppsInMissing s = .next ((s.raise 2 10 NOTICE 7 0).updTim fun t => { t with ppsMissRaised := true }) := by
      refine congrArg Host.Outcome.next (if_pos ?_)
      rw [hen, hdue, hraised]; rfl
    exact .of_exec hexec ⟨rfl, s.hasBit_raise 2 10 NOTICE 7 0 (by decide) hon⟩
  case rise =>
    intro s hen hpos hfrom hrise
    have hexec : exec .ppsOutSecond s =
        .next (s.updTim fun x => { x with ppsOut := true, ppsOutRise := some s.lastPpsOut.toNat }) := by
      refine congrArg Host.Outcome.next (if_pos ?_)
      rw [hen, decide_eq_true hpos, decide_eq_true hfrom, decide_eq_true hrise]; rfl
    exact .of_exec hexec ⟨rfl, rfl⟩
  case fall =>
    intro s r hout hrise hdue
    refine .of_exec (t := s.updTim fun x => { x with ppsOut := false }) ?_ rfl
    show execPpsOutWidthEnd s = _
    unfold execPpsOutWidthEnd
    rw [hout, hrise]
    exact congrArg Host.Outcome.next (if_pos hdue)
  case delay =>
    intro s port mac tr hport hmax hmaster
    exact .of_exec (exec_ptpMessage_delayReq s port mac tr hport hmax hmaster) rfl
  case peer =>
    intro s port mac tr hport hmax
    exact .of_exec (exec_ptpMessage_pdelayReq s port mac tr hport hmax) rfl
  case announce =>
    intro s port mac tr ds utc hport hmax hptp hcls _ hworse
    exact .of_exec (exec_ptpMessage_announce s port mac tr ds utc hport hmax hptp hcls hworse) ⟨State.rd_wr_sat32 .., rfl, rfl⟩
  case excluded =>
    intro s m h
    exact .of_exec (exec_ptpMessage_excluded s m h) rfl

end Sys2Proof
end

section
/-!
What the rebindings after a shot, and the copies it orders, leave alone: TIM, its registers and the snapshot areas (R62, R66).
-/

namespace Sys2Proof.Machine

/-- A property of TIM, of the registers of its window from 1000h to 1FFFh and of the snapshot areas: it holds on when anything
else changes. -/
structure AboutTim (P : State → Prop) : Prop where
  congr : ∀ {s t : State}, P s → t.regs = s.regs → t.tim = s.tim → (∀ k, (t.benchAt k).snap = (s.benchAt k).snap) → P t
  setWord : ∀ {s : State} {k : Nat} (w : Word), P s → k / 0x1000 ≠ 0x201 → P (s.setWord k w)

/-- What holds after each step of a fold holds after the fold. -/
theorem foldl_keeps_of {α γ : Type} {P : α → Prop} {g : α → γ → α} (l : List γ) (h : ∀ a, P a → ∀ x ∈ l, P (g a x)) (a : α) (ha : P a) :
    P (l.foldl g a) := List.foldlRecOn l g ha h

namespace AboutTim

variable {P : State → Prop} {s : State}

theorem wr (hP : AboutTim P) (f : Fld) (v : Nat) (hf : f.key / 0x1000 ≠ 0x201) (h : P s) : P (s.wr f v) := hP.setWord _ h hf

theorem bumpBy (hP : AboutTim P) (f : Fld) (n : Nat) (hf : f.key / 0x1000 ≠ 0x201) (h : P s) : P (s.bumpBy f n) := hP.wr f _ hf h

theorem bump (hP : AboutTim P) (f : Fld) (hf : f.key / 0x1000 ≠ 0x201) (h : P s) : P (s.bump f) := hP.bumpBy f 1 hf h

theorem setBit (hP : AboutTim P) (f : Fld) (i : Nat) (b : Bool) (hf : f.key / 0x1000 ≠ 0x201) (h : P s) : P (s.setBit f i b) :=
  hP.wr f _ hf h

theorem wr64 (hP : AboutTim P) (lo hi : Fld) (v : Nat) (hlo : lo.key / 0x1000 ≠ 0x201) (hhi : hi.key / 0x1000 ≠ 0x201) (h : P s) :
    P (s.wr64 lo hi v) := hP.wr hi _ hhi (hP.wr lo _ hlo h)

theorem send (hP : AboutTim P) (o : Out) (h : P s) : P (s.send o) := hP.congr h rfl rfl fun _ => rfl

theorem sendAll (hP : AboutTim P) (os : List Out) (h : P s) : P (s.sendAll os) := hP.congr h rfl rfl fun _ => rfl

theorem updRot (hP : AboutTim P) (c : Nat) (f : Rotation → Rotation) (h : P s) : P (s.updRot c f) := hP.congr h rfl rfl fun _ => rfl

theorem updMac (hP : AboutTim P) (m : Nat) (f : Mac → Mac) (h : P s) : P (s.updMac m f) := hP.congr h rfl rfl fun _ => rfl

theorem addStat (hP : AboutTim P) (m i n : Nat) (h : P s) : P (s.addStat m i n) := hP.congr h rfl rfl fun _ => rfl

theorem setLane (hP : AboutTim P) (x : LaneState) (h : P s) : P (s.setLane x) := hP.congr h rfl rfl fun _ => rfl

/-- A change of a bench that leaves its snapshot area. -/
theorem updBench (hP : AboutTim P) (b : Nat) (f : Bench → Bench) (hf : ∀ x, (f x).snap = x.snap) (h : P s) : P (s.updBench b f) := by
  refine hP.congr h rfl rfl fun k => ?_
  by_cases hk : k = b
  · subst hk
    by_cases hlen : k < s.bench.length
    · rw [State.benchAt_updBench_same _ _ _ hlen, hf]
    · have hcold : (s.updBench k f).benchAt k = Bench.cold :=
        List.getD_eq_default _ _ (by rw [State.updBench, List.length_modify]; exact Nat.le_of_not_lt hlen)
      rw [hcold, State.benchAt, List.getD_eq_default _ _ (Nat.le_of_not_lt hlen)]
  · rw [State.benchAt_updBench_other _ _ _ _ hk]

theorem controllerFault (hP : AboutTim P) (h : P s) : P s.controllerFault := by
  obtain ⟨o, ho⟩ := s.controllerFault_eq
  rw [ho]
  exact hP.congr h rfl rfl fun _ => rfl

theorem noteEvent (hP : AboutTim P) (b loc sev : Nat) (h : P s) : P (s.noteEvent b loc sev) := by
  have hstat : P (s.setBit (F.BENCH_EV_STAT b) loc true) := hP.setBit _ _ _ (by rw [F.key_BENCH_EV_STAT]; omega) h
  unfold State.noteEvent
  extract_lets s1 s2
  have h2 : P s2 := by
    unfold s2
    split
    · exact hP.bump _ (by rw [F.key_BENCH_ERR_DET]; omega) hstat
    · split
      · exact hP.bump _ (by rw [F.key_BENCH_ERR_UNREC]; omega) hstat
      · exact hstat
  split
  · exact hP.controllerFault h2
  · exact h2

theorem raise (hP : AboutTim P) (b loc sev code data : Nat) (h : P s) : P (s.raise b loc sev code data) := by
  by_cases hoff : (s.benchAt b).state = .off
  · rw [s.raise_of_off b loc sev code data hoff]; exact h
  have hlen : b < s.bench.length := s.lt_length_of_benchAt_ne b fun hcold => hoff (by rw [hcold]; rfl)
  have hnote : P (s.noteEvent b loc sev) := hP.noteEvent b loc sev h
  obtain ⟨-, hr⟩ | ⟨-, bn, lost, -, hbn, hr⟩ := s.raise_cases b loc sev code data hoff
  · rw [hr]; exact hnote
  · rw [hr]
    refine hP.bumpBy _ _ (by rw [F.key_BENCH_EV_OVF]; omega) ?_
    refine hP.congr hnote rfl rfl fun k => ?_
    by_cases hk : k = b
    · subst hk
      rw [State.benchAt_updBench_same _ _ _ (by rw [State.noteEvent_bench]; exact hlen), State.benchAt, State.noteEvent_bench]
      have hsnap := congrArg Bench.snap hbn
      exact hsnap
    · rw [State.benchAt_updBench_other _ _ _ _ hk]

theorem setBenchState (hP : AboutTim P) (b : Nat) (st : BenchState) (h : P s) : P (s.setBenchState b st) :=
  hP.raise _ _ _ _ _ (hP.updBench b _ (fun _ => rfl) h)

/-! ### Lanes and flits -/

theorem acceptNumber (hP : AboutTim P) (src : FlitDest) (f : Flit) (h : P s) : P (s.acceptNumber src f) := hP.congr h rfl rfl fun _ => rfl

theorem ackFlit (hP : AboutTim P) (src : FlitDest) (f : Flit) (h : P s) : P (s.ackFlit src f) := hP.congr h rfl rfl fun _ => rfl

theorem retain (hP : AboutTim P) (src : FlitDest) (l : Lane) (f : Flit) (h : P s) : P (s.retain src l f) := by
  unfold State.retain
  split
  · exact h
  · exact hP.congr h rfl rfl fun _ => rfl

theorem fillFifo (hP : AboutTim P) (l : Lane) (v : Vc) (h : P s) : P (s.fillFifo l v) := by
  unfold State.fillFifo
  refine foldl_keeps_of (P := fun p : State × Bool => P p.1) _ (fun p hp f _ => ?_) _ h
  dsimp only
  split
  · exact hp
  · exact hP.ackFlit _ _ (hP.acceptNumber _ _ (hP.setLane _ hp))

theorem deliverFlit (hP : AboutTim P) (l : Lane) (f : Flit) (h : P s) : P (s.deliverFlit l f) := by
  unfold State.deliverFlit
  dsimp only
  split
  · exact hP.ackFlit _ _ h
  · exact hP.fillFifo _ _ (hP.setLane _ (hP.retain _ _ _ h))

theorem releaseHeld (hP : AboutTim P) (c : Nat) (h : P s) : P (s.releaseHeld c) := by
  unfold State.releaseHeld
  refine foldl_keeps_of _ (fun t ht p _ => ?_) _ (hP.updRot _ _ h)
  split
  · exact hP.deliverFlit _ _ ht
  · exact hP.updRot _ _ ht

theorem moveInbound (hP : AboutTim P) (c r old new : Nat) (h : P s) : P (s.moveInbound c r old new) :=
  foldl_keeps_of _ (fun _ ht _ _ => hP.setLane _ (hP.setLane _ ht)) _ h

theorem moveOutbound (hP : AboutTim P) (c r old new : Nat) (again : Bool) (h : P s) : P (s.moveOutbound c r old new again) := by
  unfold State.moveOutbound
  split
  · exact hP.sendAll _ (hP.congr h rfl rfl fun _ => rfl)
  · exact hP.congr h rfl rfl fun _ => rfl

/-! ### The frames of the switch core -/

theorem lpiAccrue (hP : AboutTim P) (m : Nat) (h : P s) : P (s.lpiAccrue m) := by
  unfold State.lpiAccrue
  split
  · exact h
  · exact hP.updMac _ _ (hP.addStat _ _ _ h)

theorem leaveLpi (hP : AboutTim P) (m : Nat) (h : P s) : P (s.leaveLpi m) := by
  unfold State.leaveLpi
  split
  · exact h
  · exact hP.wr _ _ (by show ((8 + m / 4) * 0x100000 + 0x1004) / 0x1000 ≠ 0x201; omega) (hP.updMac _ _ (hP.updMac _ _ (hP.lpiAccrue m h)))

theorem sendPause (hP : AboutTim P) (m c q : Nat) (h : P s) : P (s.sendPause m c q) := by
  unfold State.sendPause
  split
  · exact h
  · exact hP.send _ (hP.addStat _ _ _ (hP.updMac _ _ (hP.leaveLpi m h)))

theorem syncAsks (hP : AboutTim P) (m : Nat) (h : P s) : P (s.syncAsks m) := by
  unfold State.syncAsks
  refine foldl_keeps_of _ (fun t ht c _ => hP.sendPause _ _ _ (hP.updMac _ _ ht)) _ ?_
  exact foldl_keeps_of _ (fun t ht a _ => hP.sendPause _ _ _ ht) _ (hP.updMac _ _ h)

theorem syncXoff (hP : AboutTim P) (m : Nat) (h : P s) : P (s.syncXoff m) := by
  unfold State.syncXoff
  split
  · exact h
  · dsimp only
    split
    · exact h
    · exact hP.syncAsks _ (hP.updMac _ _ h)

theorem freeFrames (hP : AboutTim P) (p : SwFrame → Bool) (h : P s) : P (s.freeFrames p) := by
  unfold State.freeFrames
  refine foldl_keeps_of _ (fun t ht m _ => hP.syncXoff m ht) _ ?_
  exact hP.wr _ _ (by decide) (hP.congr h rfl rfl fun _ => rfl)

theorem police (hP : AboutTim P) (q : Nat) (h : P s) : P (s.police q).2 := by
  unfold State.police
  dsimp only
  split
  · exact hP.congr h rfl rfl fun _ => rfl
  · exact hP.congr h rfl rfl fun _ => rfl

theorem setSamples (hP : AboutTim P) (l : List Sample) (h : P s) : P { s with samples := l } := hP.congr h rfl rfl fun _ => rfl

theorem sampleAt (hP : AboutTim P) (n : Nat) (r : Sample) (h : P s) : P (s.sampleAt n r) := by
  have hdraw : P (s.draw .random n).2 := hP.congr h rfl rfl fun _ => rfl
  have hpol := hP.police 3 hdraw
  unfold State.sampleAt
  split
  · exact h
  · dsimp only
    split
    · exact hdraw
    · split
      · exact hP.bump _ (by decide) (hP.setSamples _ (hP.wr64 _ _ _ (by decide) (by decide) hpol))
      · exact hP.bump _ (by decide) hpol

theorem releaseFrames (hP : AboutTim P) (r : Nat) (h : P s) : P (s.releaseFrames r) := by
  unfold State.releaseFrames
  split
  · exact h
  · exact hP.sendAll _ (foldl_keeps_of _ (fun t ht f _ => hP.sampleAt _ _ ht) _ (hP.freeFrames _ h))

/-! ### Rebinding -/

/-- The maps of a class are words of CTL for the seven classes there are. -/
theorem refreshMaps (hP : AboutTim P) (c : Nat) (hc : c < 7) (h : P s) : P (s.refreshMaps c) := by
  unfold State.refreshMaps
  refine hP.setBit _ _ _ (by decide) (hP.wr _ _ (by show 0x2008 / 0x1000 ≠ 0x201; decide) ?_)
  refine foldl_keeps_of _ (fun t ht r _ => hP.wr _ _ ?_ ht) _ h
  show (0x2010 + 4 * c) / 0x1000 ≠ 0x201
  omega

theorem rebind (hP : AboutTim P) (c out spare r : Nat) (hmaps : ∀ t : State, P t → P (t.refreshMaps c)) (h : P s) :
    P (s.rebind c out spare r) := by
  unfold State.rebind
  extract_lets bo bs fault s1 s2 s3 s4 s5 s6 s7 s8 s9
  have h1 : P s1 := hP.updBench _ _ (fun _ => rfl) h
  have h2 : P s2 := by
    unfold s2
    split
    · exact h1
    · exact hP.setBenchState _ _ h1
  have h5 : P s5 := hP.updRot _ _ (hP.setBenchState _ _ (hP.updBench _ _ (fun _ => rfl) h2))
  have h7 : P s7 := hP.setBit _ _ _ (by decide) (hP.bump _ (by decide) h5)
  have h8 : P s8 := hP.moveOutbound _ _ _ _ _ (hP.moveInbound _ _ _ _ h7)
  have h9 : P s9 := by
    unfold s9
    split
    · exact hP.releaseFrames _ h8
    · exact h8
  exact hP.releaseHeld _ (hmaps _ h9)

theorem runDeferred (hP : AboutTim P) (h : P s) : P s.runDeferred := by
  unfold State.runDeferred
  refine foldl_keeps_of _ (fun t ht c hc => ?_) _ h
  split
  · exact hP.rebind _ _ _ _ (fun _ => hP.refreshMaps c (by have := List.mem_range.mp hc; omega)) ht
  · exact ht

end AboutTim

end Sys2Proof.Machine
end

section
/-!
Shots (R55 to R60, R64 to R66): the outcome of a request, a cancel, and what a shot at its time leaves, then O13.
-/

namespace Sys2Proof.Machine

/-! ### Requests -/

/-- A time that keeps 10 µs from another, or is that time, is not too close to it. -/
theorem tooClose_eq_false {a b : Nat} (h : a + usU 10 ≤ b ∨ b + usU 10 ≤ a ∨ a = b) : tooClose a b = false := by
  have hten : usU 10 = 40000 := rfl
  rw [hten] at h
  simp only [tooClose, hten, Bool.and_eq_false_iff, bne_eq_false_iff_eq, decide_eq_false_iff_not]
  omega

/-- The ground that a held unit refuses on (R58). -/
theorem State.shotRequest_of_held (s : State) (cause time trigger earliest : Nat) (h : s.isSet F.TIM_SHOT_STAT_HELD = true) :
    s.shotRequest cause time trigger earliest = (s.refuseShot 3, false) := by
  rw [State.shotRequest, h]; rfl

/-- TIM with one more shot pending. -/
def Tim.withShot (x : Shot) (t : Tim) : Tim := { t with shots := t.shots ++ [x] }

/-- A request that meets no ground of refusal is pending beside every other shot (R56). -/
theorem State.shotRequest_accepted (s : State) (cause time trigger earliest : Nat) (hheld : s.isSet F.TIM_SHOT_STAT_HELD = false)
    (hcause : cause ≠ 4) (hearly : cause = 1 → earliest ≤ time) (hroom : cause = 1 → (s.tim.shots.filter Shot.scheduled).length < 8)
    (hshots : ∀ x ∈ s.tim.shots, x.time + usU 10 ≤ time ∨ time + usU 10 ≤ x.time)
    (hfired : ∀ f ∈ s.tim.fired, f + usU 10 ≤ time ∨ time + usU 10 ≤ f ∨ f = time) :
    s.shotRequest cause time trigger earliest = ((s.updTim (Tim.withShot ⟨time, 2 ^ cause, trigger⟩)).syncPending, true) := by
  have hlate : ¬(cause == 4 && decide (time < s.now + usU 1)) = true := by simp [hcause]
  have hlead : ¬(cause == 1 && decide (time < earliest)) = true := by simpa using hearly
  have hnone : s.tim.shots.find? (fun x => x.time == time) = none := by
    rw [List.find?_eq_none]
    intro x hx
    have := hshots x hx
    have hten : usU 10 = 40000 := rfl
    simp only [beq_iff_eq]; omega
  have hfree : ¬(s.tim.shots.any (fun x => tooClose x.time time) || s.tim.fired.any (fun f => tooClose f time)) = true := by
    have h1 : s.tim.shots.any (fun x => tooClose x.time time) = false :=
      List.any_eq_false.mpr fun x hx => by
        rw [tooClose_eq_false ((hshots x hx).imp_right .inl)]; exact Bool.false_ne_true
    have h2 : s.tim.fired.any (fun f => tooClose f time) = false :=
      List.any_eq_false.mpr fun f hf => by
        rw [tooClose_eq_false (hfired f hf)]; exact Bool.false_ne_true
    rw [h1, h2]; exact Bool.false_ne_true
  have hfull : ¬((cause == 1 || cause == 4) && decide (s.pendingShots ≥ 8)) = true := by
    rw [State.pendingShots]; simpa [hcause] using hroom
  unfold State.shotRequest
  rw [hheld, if_neg Bool.false_ne_true, if_neg hlate, if_neg hlead, hnone]
  exact (if_neg hfree).trans (if_neg hfull)

/-- A request at the time of the only pending shot joins it (R56); only a scheduled request could meet the bound of eight. -/
theorem State.shotRequest_joined (s : State) (cause time trigger earliest : Nat) (x : Shot) (hheld : s.isSet F.TIM_SHOT_STAT_HELD = false)
    (hcause : cause ≠ 4 ∧ cause ≠ 1) (hshots : s.tim.shots = [x]) (hx : x.time = time) :
    s.shotRequest cause time trigger earliest =
      ((s.updTim fun t => { t with shots := [{ x with causes := x.causes ||| 2 ^ cause }] }).syncPending, true) := by
  obtain ⟨h4, h1⟩ := hcause
  have hfind : s.tim.shots.find? (fun y => y.time == time) = some x := by rw [hshots]; simp [hx]
  have hlate : ¬(cause == 4 && decide (time < s.now + usU 1)) = true := by simp [h4]
  have hlead : ¬(cause == 1 && decide (time < earliest)) = true := by simp [h1]
  have hroom : ¬((cause == 1 || cause == 4) && !x.scheduled && decide (s.pendingShots ≥ 8)) = true := by simp [h4, h1]
  unfold State.shotRequest
  rw [hheld, if_neg Bool.false_ne_true, if_neg hlate, if_neg hlead, hfind]
  refine (if_neg hroom).trans ?_
  simp [State.updTim, hshots, hx]

/-- PENDING after it is brought in line. -/
theorem State.rd_syncPending (s : State) : s.syncPending.rd F.TIM_SHOT_STAT_PENDING = (s.tim.shots.filter Shot.scheduled).length % 16 :=
  s.rd_wr_same F.TIM_SHOT_STAT_PENDING _ (by decide) (by decide)

/-- Bringing PENDING in line leaves the other fields alone. -/
theorem State.rd_syncPending_other (s : State) (g : Fld) (h : sparedBy g F.TIM_SHOT_STAT_PENDING = true) : s.syncPending.rd g = s.rd g :=
  s.rd_wr_spared _ _ _ h

theorem State.isSet_syncPending (s : State) (g : Fld) (h : sparedBy g F.TIM_SHOT_STAT_PENDING = true) : s.syncPending.isSet g = s.isSet g := by
  rw [State.isSet, s.rd_syncPending_other g h, State.isSet]

theorem Shot.scheduled_mk (time causes trigger : Nat) :
    (⟨time, causes, trigger⟩ : Shot).scheduled = (hasBit causes 1 || hasBit causes 4) := rfl

/-- The scheduled shots with one more shot that is scheduled, or that is not. -/
theorem Tim.scheduled_withShot (t : Tim) (x : Shot) (h : x.scheduled = true) :
    ((t.withShot x).shots.filter Shot.scheduled).length = (t.shots.filter Shot.scheduled).length + 1 := by
  simp [Tim.withShot, h]

theorem Tim.scheduled_withShot_other (t : Tim) (x : Shot) (h : x.scheduled = false) :
    ((t.withShot x).shots.filter Shot.scheduled).length = (t.shots.filter Shot.scheduled).length := by
  simp [Tim.withShot, h]

/-- A refusal counts in REFUSED. -/
theorem State.rd_refuseShot (s : State) (reason : Nat) :
    (s.refuseShot reason).rd F.TIM_SHOT_STAT_REFUSED = (s.rd F.TIM_SHOT_STAT_REFUSED + 1) % 256 := by
  rw [State.refuseShot, State.rd_raise_beyond _ _ _ _ _ _ _ (by decide)]
  exact s.rd_wr_same F.TIM_SHOT_STAT_REFUSED _ (by decide) (by decide)

theorem State.refuseShot_tim (s : State) (reason : Nat) : (s.refuseShot reason).tim = s.tim := State.raise_tim ..

/-- A refusal changes in TIM's window from 1000h on the count of refusals only. -/
theorem State.rd_refuseShot_other (s : State) (reason : Nat) (g : Fld) (hg : 0x28 ≤ g.key % 0x100000)
    (h : sparedBy g F.TIM_SHOT_STAT_REFUSED = true) : (s.refuseShot reason).rd g = s.rd g := by
  rw [State.refuseShot, State.rd_raise_beyond _ _ _ _ _ _ _ hg]
  exact s.rd_wr_spared _ _ _ h

/-- What a write of TIM_SHOT_CMD does where TIM is not held. -/
theorem State.atWindow_open (s : State) (b off v mask : Nat) (f : State → State) (h : s.reloading b = false) :
    s.atWindow b off v mask f = f s := by
  rw [State.atWindow, h]; rfl

/-! ### Cancel (R59) -/

/-- A shot without its scheduled causes. -/
def Shot.cancelled (x : Shot) : Shot := { x with causes := x.causes - bit (hasBit x.causes 1) * 2 - bit (hasBit x.causes 4) * 16 }

theorem Shot.scheduled_cancelled (x : Shot) : x.cancelled.scheduled = false := by
  have hbit : ∀ i, bit (hasBit x.causes i) = x.causes / 2 ^ i % 2 := fun i => by
    rw [hasBit, bit]
    split
    · next h => exact (beq_iff_eq.mp h).symm
    · next h => have := beq_iff_eq.not.mp h; omega
  rw [Shot.scheduled, Shot.cancelled]
  simp only [hbit]
  simp only [hasBit, Bool.or_eq_false_iff, beq_eq_false_iff_ne]
  omega

theorem Shot.cancelled_of_not_scheduled (x : Shot) (h : x.scheduled = false) : x.cancelled = x := by
  rw [Shot.scheduled, Bool.or_eq_false_iff] at h
  obtain ⟨h1, h4⟩ := h
  simp [Shot.cancelled, h1, h4, bit]

theorem State.shotCancel_eq (s : State) :
    s.shotCancel = (s.updTim fun t => { t with shots := (t.shots.map Shot.cancelled).filter fun x => x.causes != 0 }).syncPending := rfl

/-- No shot that a cancel leaves is scheduled. -/
theorem not_scheduled_of_cancelled (l : List Shot) : ∀ x ∈ (l.map Shot.cancelled).filter (fun x => x.causes != 0), x.scheduled = false := by
  intro x hx
  obtain ⟨y, -, rfl⟩ := List.mem_map.mp (List.mem_filter.mp hx).1
  exact y.scheduled_cancelled

/-! ### A shot at its time (R60, R64) -/

/-- What a shot leaves to be seen: TIM, the sequence number and the snapshot area of a bench. -/
def State.Shown (τ : Tim) (q : Nat) (b : Nat) (g : Snap) (s : State) : Prop :=
  s.tim = τ ∧ s.rd F.TIM_SHOT_SEQ = q ∧ (s.benchAt b).snap = g

theorem State.aboutTim_shown (τ : Tim) (q b : Nat) (g : Snap) : AboutTim (State.Shown τ q b g) where
  congr := by
    rintro s t ⟨htim, hseq, hsnap⟩ hregs ht hsnaps
    exact ⟨ht.trans htim, (State.rd_eq_of_regs_eq hregs _).trans hseq, (hsnaps b).trans hsnap⟩
  setWord := by
    rintro s k w ⟨htim, hseq, hsnap⟩ hk
    refine ⟨htim, (s.rd_setWord_other _ _ _ ?_).trans hseq, hsnap⟩
    rintro rfl
    exact hk (by decide)

/-- A bench in service latches the shot's number and its time (R60); the latch takes one free value. -/
theorem State.latchBench_eq (s : State) (b seq time causes : Nat) (h : (s.benchAt b).inService = true) :
    ∃ (t : State) (f : Bench → Bench), s.latchBench b seq time causes = t.updBench b f ∧ t.tim = s.tim ∧ t.regs = s.regs ∧
      t.bench = s.bench ∧ ∀ x, (f x).state = x.state ∧ (f x).snap.seq = seq ∧ (f x).snap.target = time := by
  have hserve : ¬(!(s.benchAt b).inService) = true := by rw [h]; exact Bool.false_ne_true
  have heq : s.latchBench b seq time causes = _ := if_neg hserve
  exact ⟨_, _, heq, rfl, rfl, rfl, fun _ => ⟨rfl, rfl, rfl⟩⟩

/-- A bench out of service latches nothing. -/
theorem State.latchBench_out (s : State) (b seq time causes : Nat) (h : (s.benchAt b).inService = false) :
    s.latchBench b seq time causes = s := by
  have hout : (!(s.benchAt b).inService) = true := by rw [h]; rfl
  exact if_pos hout

/-- A bench in service is one of the benches of the unit. -/
theorem State.lt_length_of_inService (s : State) (b : Nat) (h : (s.benchAt b).inService = true) : b < s.bench.length :=
  s.lt_length_of_benchAt_ne b fun hcold => by rw [hcold] at h; exact absurd h (by decide)

theorem State.latchBench_same (s : State) (b seq time causes : Nat) (h : (s.benchAt b).inService = true) :
    ((s.latchBench b seq time causes).benchAt b).snap.seq = seq ∧ ((s.latchBench b seq time causes).benchAt b).snap.target = time := by
  obtain ⟨t, f, heq, -, -, hbench, hf⟩ := s.latchBench_eq b seq time causes h
  have hlen : b < t.bench.length := by rw [hbench]; exact s.lt_length_of_inService b h
  rw [heq, State.benchAt_updBench_same _ _ _ hlen]
  exact (hf _).2

/-- A latch changes of the benches the snapshot area of its own. -/
theorem State.latchBench_keeps (s : State) (b k seq time causes : Nat) :
    (s.latchBench k seq time causes).tim = s.tim ∧ (s.latchBench k seq time causes).regs = s.regs ∧
      ((s.latchBench k seq time causes).benchAt b).state = (s.benchAt b).state ∧
      (b ≠ k → (s.latchBench k seq time causes).benchAt b = s.benchAt b) := by
  cases hserve : (s.benchAt k).inService with
  | false => rw [s.latchBench_out k seq time causes hserve]; exact ⟨rfl, rfl, rfl, fun _ => rfl⟩
  | true =>
    obtain ⟨t, f, heq, htim, hregs, hbench, hf⟩ := s.latchBench_eq k seq time causes hserve
    have hat : t.benchAt b = s.benchAt b := by rw [State.benchAt, hbench]; rfl
    have hlen : k < t.bench.length := by rw [hbench]; exact s.lt_length_of_inService k hserve
    rw [heq]
    refine ⟨htim, hregs, ?_, fun hb => (State.benchAt_updBench_other _ _ _ _ hb).trans hat⟩
    by_cases hb : b = k
    · subst hb
      rw [State.benchAt_updBench_same _ _ _ hlen, (hf _).1, hat]
    · rw [State.benchAt_updBench_other _ _ _ _ hb, hat]

/-- TIM, the registers and whether a bench is in service. -/
def State.ReadyAt (τ : Tim) (ρ : RegFile) (b : Nat) (s : State) : Prop := s.tim = τ ∧ s.regs = ρ ∧ (s.benchAt b).inService = true

theorem State.ReadyAt.latchBench {τ : Tim} {ρ : RegFile} {b : Nat} {s : State} (h : s.ReadyAt τ ρ b) (k seq time causes : Nat) :
    (s.latchBench k seq time causes).ReadyAt τ ρ b := by
  obtain ⟨htim, hregs, hserve⟩ := h
  obtain ⟨h1, h2, h3, -⟩ := s.latchBench_keeps b k seq time causes
  refine ⟨h1.trans htim, h2.trans hregs, ?_⟩
  rw [Bench.inService, h3]
  exact hserve

/-- Every bench in service latches the shot, and the latches change nothing else of TIM and the registers. -/
theorem State.ReadyAt.latchAll {τ : Tim} {ρ : RegFile} {b : Nat} {s t : State} (h : s.ReadyAt τ ρ b) (hb : b < 57)
    {seq time causes : Nat} (ht : (List.range 57).foldl (fun (s : State) k => s.latchBench k seq time causes) s = t) :
    t.ReadyAt τ ρ b ∧ (t.benchAt b).snap.seq = seq ∧ (t.benchAt b).snap.target = time := by
  rw [← ht]
  refine foldl_establishes (Q := State.ReadyAt τ ρ b)
    (P := fun t => t.ReadyAt τ ρ b ∧ (t.benchAt b).snap.seq = seq ∧ (t.benchAt b).snap.target = time)
    (fun t k ht => ht.latchBench k seq time causes) (fun t k ht => ?_)
    (fun t ht => ⟨ht.latchBench b seq time causes, t.latchBench_same b seq time causes ht.2.2⟩) _ (List.mem_range.mpr hb) s h
  obtain ⟨hready, hseq, htarget⟩ := ht
  refine ⟨hready.latchBench k seq time causes, ?_⟩
  by_cases hk : b = k
  · subst hk; exact t.latchBench_same b seq time causes hready.2.2
  · rw [(t.latchBench_keeps b k seq time causes).2.2.2 hk]
    exact ⟨hseq, htarget⟩

/-- The low-power time that the ports accrue changes neither TIM, the registers nor a bench. -/
theorem State.ReadyAt.lpiAccrue {τ : Tim} {ρ : RegFile} {b : Nat} {s : State} (h : s.ReadyAt τ ρ b) (m : Nat) :
    (s.lpiAccrue m).ReadyAt τ ρ b := by
  unfold State.lpiAccrue
  split
  · exact h
  · exact h

/-- The number of the next shot (R60). -/
def nextShotSeq (old : Nat) : Nat := if old = 2 ^ 32 - 1 then 1 else old + 1

/-- The number of a shot reads back after its trigger time is written. -/
theorem State.rd_shotSeq_of_wr (s : State) (q v : Nat) (h : q < 2 ^ 32) :
    ((s.wr F.TIM_SHOT_SEQ q).wr64 F.TIM_SHOT_TRIG_LO F.TIM_SHOT_TRIG_HI v).rd F.TIM_SHOT_SEQ = q := by
  have hq : (s.wr F.TIM_SHOT_SEQ q).rd F.TIM_SHOT_SEQ = q % 2 ^ 32 := s.rd_wr_same F.TIM_SHOT_SEQ q (by decide) (by decide)
  rw [State.wr64, State.rd_wr_spared _ _ _ _ (by decide), State.rd_wr_spared _ _ _ _ (by decide), hq]
  exact Nat.mod_eq_of_lt h

/-- TIM after a shot. -/
def Tim.afterShot (now time : Nat) (t : Tim) : Tim :=
  { t with fired := time :: t.fired.filter fun f => now < f + usU 10, shotOut := true, shotOutRise := time }

theorem nextShotSeq_lt (s : State) : nextShotSeq (s.rd F.TIM_SHOT_SEQ) < 2 ^ 32 := by
  have hlt : s.rd F.TIM_SHOT_SEQ < 2 ^ 32 := s.rd_lt _
  rw [nextShotSeq]
  split <;> omega

/-- A shot that fires is numbered, latched and shown on SHOT_OUT. -/
theorem State.fireShot_shown (s : State) (x : Shot) (b : Nat) (hb : b < 57) (hserve : (s.benchAt b).inService = true) :
    ∃ g : Snap, g.seq = nextShotSeq (s.rd F.TIM_SHOT_SEQ) ∧ g.target = x.time ∧
      (s.fireShot x).Shown (s.tim.afterShot s.now x.time) (nextShotSeq (s.rd F.TIM_SHOT_SEQ)) b g := by
  unfold State.fireShot
  extract_lets old seq s1 s2 s3 s4 s5 s6
  have hready : s1.ReadyAt s.tim s.regs b :=
    foldl_keeps_of (P := State.ReadyAt s.tim s.regs b) _ (fun t ht m _ => ht.lpiAccrue m) s ⟨rfl, rfl, hserve⟩
  have hlatched : s2.ReadyAt s.tim s.regs b ∧ (s2.benchAt b).snap.seq = seq ∧ (s2.benchAt b).snap.target = x.time :=
    hready.latchAll hb rfl
  have hnum : seq = nextShotSeq (s.rd F.TIM_SHOT_SEQ) := rfl
  clear_value s2 seq
  obtain ⟨⟨htim, hregs, -⟩, hseq, htarget⟩ := hlatched
  rw [← hnum]
  let g := (s2.benchAt b).snap
  refine ⟨g, hseq, htarget, ?_⟩
  have hP := State.aboutTim_shown (s.tim.afterShot s.now x.time) seq b g
  have h3 : s3.rd F.TIM_SHOT_SEQ = seq := s2.rd_shotSeq_of_wr seq _ (hnum ▸ nextShotSeq_lt s)
  have hnow : s3.now = s.now := congrArg (fun t : Tim => t.count.toNat) htim
  have h4 : s4.Shown (s.tim.afterShot s.now x.time) seq b g := by
    refine ⟨?_, h3, rfl⟩
    show Tim.afterShot s3.now x.time s2.tim = _
    rw [hnow]
    exact congrArg (Tim.afterShot s.now x.time) htim
  have h5 : s5.Shown (s.tim.afterShot s.now x.time) seq b g := by
    unfold s5
    split
    · exact ⟨h4.1, (s4.rd_wr_spared _ _ _ (by decide)).trans h4.2.1, h4.2.2⟩
    · exact h4
  have h6 : s6.Shown (s.tim.afterShot s.now x.time) seq b g := hP.raise _ _ _ _ _ h5
  have hcopy : (s6.meterCopy x.time seq).Shown (s.tim.afterShot s.now x.time) seq b g := by
    unfold State.meterCopy
    split
    · exact h6
    · exact hP.congr h6 rfl rfl fun _ => rfl
  exact hP.congr hcopy rfl rfl fun _ => rfl

/-- What TIM does at the time of the only pending shot: the shot is pending no longer, and it fires unless TIM is held. -/
theorem exec_shotTimeReached_single (s : State) (x : Shot) (hshots : s.tim.shots = [x]) (hdue : s.due x.time = true) :
    let u := (s.updTim fun y => { y with shots := [] }).syncPending
    exec .shotTimeReached s = .next (if u.isSet F.TIM_SHOT_STAT_HELD then u.refuseShot 3 else u.fireShot x).runDeferred := by
  have hmin : listMin ((s.tim.shots.filter fun x => s.due x.time).map (·.time)) = some x.time := by
    rw [hshots]; simp [hdue, listMin]
  have hfind : s.tim.shots.find? (fun y => y.time == x.time) = some x := by rw [hshots]; simp
  have hrest : s.tim.shots.filter (fun z => z.time != x.time) = [] := by rw [hshots]; simp
  intro u
  have hu : (s.updTim fun y => { y with shots := y.shots.filter fun z => z.time != x.time }).syncPending = u := by
    unfold u
    rw [State.updTim, hrest]; rfl
  show execShotTimeReached s = _
  unfold execShotTimeReached
  rw [hmin]
  dsimp only
  rw [hfind]
  dsimp only
  rw [hu]

end Sys2Proof.Machine

namespace Sys2Proof

open Machine

/-- Settles O13: the shot commands in turn, each by the outcome of the request or by what the shot leaves. -/
theorem shots : Obligations.Shots := by
  refine ⟨?pin, ?pinOff, ?fire, ?join, ?held, ?sched, ?chain, ?cancel, ?release, ?pulseEnd, ?reached, ?reachedHeld⟩
  case pin =>
    intro s hen hheld hshots hfired
    have hreq := s.shotRequest_accepted 0 (s.now + s.lead) s.now 0 hheld (by decide) (fun _ => Nat.zero_le _) (fun h => absurd h (by decide)) hshots hfired
    have hexec : exec .shotInEdge s = .next (s.shotRequest 0 (s.now + s.lead) s.now 0).1 := congrArg Host.Outcome.next (if_pos hen)
    rw [hreq] at hexec
    refine .of_exec hexec ⟨rfl, ?_, State.rd_syncPending_other _ _ (by decide)⟩
    rw [State.rd_syncPending]
    exact congrArg (· % 16) (s.tim.scheduled_withShot_other ⟨s.now + s.lead, 1, s.now⟩ ((Shot.scheduled_mk ..).trans (by decide)))
  case pinOff =>
    intro s hen
    exact .of_exec (congrArg Host.Outcome.next (if_neg (by rw [hen]; exact Bool.false_ne_true))) rfl
  case fire =>
    intro s hload hheld hshots hfired
    have hreq := s.shotRequest_accepted 3 (s.now + s.lead) s.now 0 hheld (by decide) (fun _ => Nat.zero_le _) (fun h => absurd h (by decide)) hshots hfired
    have hexec : exec .shotFire s = .next s.shotFire := congrArg Host.Outcome.next (s.atWindow_open 2 0x1034 1 1 _ hload)
    rw [State.shotFire, hreq] at hexec
    refine .of_exec hexec ⟨rfl, ?_⟩
    rw [State.rd_syncPending]
    exact congrArg (· % 16) (s.tim.scheduled_withShot_other ⟨s.now + s.lead, 8, s.now⟩ ((Shot.scheduled_mk ..).trans (by decide)))
  case join =>
    intro s x hload hheld hshots htime
    have hreq := s.shotRequest_joined 3 (s.now + s.lead) s.now 0 x hheld (by decide) hshots htime
    have hexec : exec .shotFire s = .next s.shotFire := congrArg Host.Outcome.next (s.atWindow_open 2 0x1034 1 1 _ hload)
    rw [State.shotFire, hreq] at hexec
    exact .of_exec hexec ⟨rfl, rfl⟩
  case held =>
    intro s hload hheld
    have hexec : exec .shotFire s = .next s.shotFire := congrArg Host.Outcome.next (s.atWindow_open 2 0x1034 1 1 _ hload)
    rw [State.shotFire, s.shotRequest_of_held _ _ _ _ hheld] at hexec
    exact .of_exec hexec ⟨s.refuseShot_tim 3, s.rd_refuseShot 3⟩
  case sched =>
    intro s hload hheld hlead hroom hshots hfired
    have hreq := s.shotRequest_accepted 1 s.shotAt s.now (s.now + s.lead) hheld (by decide) (fun _ => hlead) (fun _ => hroom) hshots hfired
    have hexec : exec .shotSched s = .next s.shotSched := congrArg Host.Outcome.next (s.atWindow_open 2 0x1034 2 2 _ hload)
    rw [State.shotSched, hreq] at hexec
    refine .of_exec hexec ⟨rfl, ?_⟩
    rw [State.rd_syncPending]
    exact congrArg (· % 16) (s.tim.scheduled_withShot ⟨s.shotAt, 2, s.now⟩ ((Shot.scheduled_mk ..).trans (by decide)))
  case chain =>
    intro s hload hheld hlead hroom hshots hfired
    have hreq := s.shotRequest_accepted 1 s.shotAt s.now (s.now + usU 100) hheld (by decide) (fun _ => hlead) (fun _ => hroom) hshots hfired
    have hexec : exec .shotChainIssue s = .next s.shotChainIssue := congrArg Host.Outcome.next (s.atWindow_open 2 0x1034 6 6 _ hload)
    let u := (s.updTim (Tim.withShot ⟨s.shotAt, 2, s.now⟩)).syncPending
    have hu : s.shotChainIssue = (u.send (.chainShot s.shotAt (s.rd F.CHN_CHAIN_STAT_ADDR))).bump F.CHN_TX_FRM := by
      rw [State.shotChainIssue, hreq]; rfl
    rw [hu] at hexec
    refine .of_exec hexec ⟨rfl, rfl, ?_⟩
    have hcount : u.rd F.CHN_TX_FRM = s.rd F.CHN_TX_FRM := State.rd_syncPending_other _ _ (by decide)
    rw [← hcount]
    exact (u.send _).rd_bump_same F.CHN_TX_FRM.key
  case cancel =>
    intro s hload
    have hexec : exec .shotCancel s = .next s.shotCancel := congrArg Host.Outcome.next (s.atWindow_open 2 0x1034 8 8 _ hload)
    rw [s.shotCancel_eq] at hexec
    have hnone := not_scheduled_of_cancelled s.tim.shots
    refine .of_exec hexec ⟨?_, ?_, rfl, fun x hx hsched hcauses => ?_⟩
    · exact List.all_eq_true.mpr fun x hx => by rw [hnone x hx]; rfl
    · rw [State.rd_syncPending]
      have hempty : ((s.tim.shots.map Shot.cancelled).filter fun x => x.causes != 0).filter Shot.scheduled = [] :=
        List.filter_eq_nil_iff.mpr fun x hx => by rw [hnone x hx]; exact Bool.false_ne_true
      exact congrArg (fun l : List Shot => l.length % 16) hempty
    · refine List.mem_filter.mpr ⟨List.mem_map.mpr ⟨x, hx, x.cancelled_of_not_scheduled hsched⟩, ?_⟩
      exact bne_iff_ne.mpr hcauses
  case release =>
    intro s hload
    have hexec : exec .shotRelease s = .next s.shotRelease := congrArg Host.Outcome.next (s.atWindow_open 2 0x1034 16 16 _ hload)
    refine .of_exec hexec ⟨?_, rfl⟩
    rw [State.isSet, State.shotRelease, s.rd_wr_same F.TIM_SHOT_STAT_HELD 0 (by decide) (by decide)]
    rfl
  case pulseEnd =>
    intro s hout hdue
    have hend : (s.tim.shotOut && s.due (s.tim.shotOutRise + nsU 100)) = true := by rw [hout, hdue]; rfl
    exact .of_exec (t := s.updTim fun t => { t with shotOut := false }) (congrArg Host.Outcome.next (if_pos hend)) rfl
  case reached =>
    intro s x b hshots hdue hheld hb hserve
    have hexec := exec_shotTimeReached_single s x hshots hdue
    extract_lets u at hexec
    have huheld : u.isSet F.TIM_SHOT_STAT_HELD = false := (State.isSet_syncPending _ _ (by decide)).trans hheld
    have huseq : u.rd F.TIM_SHOT_SEQ = s.rd F.TIM_SHOT_SEQ := State.rd_syncPending_other _ _ (by decide)
    rw [huheld, if_neg Bool.false_ne_true] at hexec
    obtain ⟨g, hseq, htarget, hshown⟩ := u.fireShot_shown x b hb hserve
    obtain ⟨htim, hnum, hsnap⟩ := (State.aboutTim_shown _ _ _ _).runDeferred hshown
    rw [huseq] at hseq hnum
    refine .of_exec hexec ?_
    rw [htim, hnum, hsnap]
    exact ⟨rfl, rfl, rfl, rfl, rfl, hseq, htarget⟩
  case reachedHeld =>
    intro s x hshots hdue hheld
    have hexec := exec_shotTimeReached_single s x hshots hdue
    extract_lets u at hexec
    have huheld : u.isSet F.TIM_SHOT_STAT_HELD = true := (State.isSet_syncPending _ _ (by decide)).trans hheld
    have huseq : u.rd F.TIM_SHOT_SEQ = s.rd F.TIM_SHOT_SEQ := State.rd_syncPending_other _ _ (by decide)
    rw [huheld, if_pos rfl] at hexec
    have hshown : (u.refuseShot 3).Shown u.tim (s.rd F.TIM_SHOT_SEQ) 0 ((u.refuseShot 3).benchAt 0).snap :=
      ⟨u.refuseShot_tim 3, (u.rd_refuseShot_other 3 _ (by decide) (by decide)).trans huseq, rfl⟩
    obtain ⟨htim, hnum, -⟩ := (State.aboutTim_shown _ _ _ _).runDeferred hshown
    refine .of_exec hexec ?_
    rw [htim, hnum]
    exact ⟨rfl, rfl, rfl⟩

end Sys2Proof
end

section
/-!
Live service (R564 to R577): a Firmware Commit that fails a row of Table LIVE-2 at a unit whose connection table holds an index twice,
then O38.
-/

namespace Sys2Proof.Machine

/-- A connection of index 5 with credit to send and none granted. -/
def connOfGen (gen : Nat) : Conn := { Conn.fresh 5 gen .nrt .established 0 with peerLimit := 100, queue := some (3, 0) }

/-- An admin queue on the connection of index 5 and generation 2. -/
def adminQueue : Queue :=
  { qid := 0, size := 64, conn := some (connOfGen 2).cid, mode := .free, profile := Profile.zero, tats := Tats.zero, authReq := false,
    authed := false, authStep := 0, authNonce := 0, authTid := 0, authHash := 0, authGroup := 0, authPub := 0, authFail := 0,
    sqBase := 0, cqid := 0, isCq := false, vector := 0, ien := false, head := 0, tail := 0, phase := true }

/-- A controller with that queue whose host identity is not in the table of identities, so that it has no privilege. -/
def strangerCtrl : Ctrl :=
  { index := 3, ident := some 0, func := none, cc := 0, csts := 1, kato := 0, lastCmd := 0, maxIoq := 128, queues := [adminQueue],
    aers := [], notices := [], unread := [], features := [], changed := [], resvLog := [], resvCount := 0, shutdown := false, mem := 0 }

/-- A unit that stalled before and does so no longer, with two connections of one index. -/
def doubledState : State :=
  { State.reset with conns := [connOfGen 2, connOfGen 1], ctrls := [strangerCtrl], stalled := true }

/-- A Firmware Commit on that queue. -/
def commitOrder : NvmeCmd :=
  { ctl := 3, qid := 0, cid := 17, opc := 0x10, fuse := 0, psdt := 2, nsid := 0, cdw2 := 0, cdw3 := 0, cdw10 := 0, cdw11 := 0,
    cdw12 := 0, cdw13 := 0, cdw14 := 0, cdw15 := 0, sgl := .none, data := 0, dataLen := 0, fctype := 0, ord := false, msg := none }

/-- The outcome of the commit leaves its completion with no connection. -/
def unanswered (o : Host.Outcome State Fault Refusal) : Bool :=
  match o with
  | .next t => !answered doubledState t commitOrder 0 St.denied
  | _ => false

/-- An image without sections. -/
def bareImage : BankImg :=
  { hdr := ⟨0, 1, 0, 0, 0, 0, [], 0, 0, 0, 0, 0⟩, fwSig := ⟨0, 0, 0, 0, []⟩, ownSig := none, sections := [], chainRoot := 0,
    chainOk := true, ssvid := 0, ssid := 0, sn := 0, subnqn := 0, settings := [], idents := [],
    ptp := { domain := 0, macs := [], clock := ⟨128, 248, 0xFE, 0xFFFF, 128, 0, 0⟩ } }

/-- What the commit finds besides: no partner that objects. -/
def bareInfo : CommitInfo := { img := bareImage, peerBooted := 0, peerPasses := true, peerSvnOk := true, peerSame := true, peerLive := true }

end Sys2Proof.Machine

namespace Sys2Proof

open Machine

/-- Refutes O38: where the connection table holds one index twice, the acknowledgements that a stall's end sends (R92) put the other
connection in the place of the commit's, so that the completion of a commit that fails a row of Table LIVE-2 finds no connection. -/
theorem not_liveService : ¬Obligations.LiveService := by
  rintro ⟨-, hfails, -⟩
  obtain ⟨t, hexec, hanswered, -⟩ := hfails doubledState commitOrder bareInfo St.denied (by decide +kernel) rfl (by decide +kernel)
  have hlost : unanswered (exec (.firmwareCommitWrite commitOrder bareInfo) doubledState) = true := by decide +kernel
  rw [hexec, unanswered, hanswered] at hlost
  exact Bool.false_ne_true hlost

end Sys2Proof
end

section
/-!
The count of a serving unit (R35): what every shared operation keeps. `State.ServesAt s n` says that the count of s is n and that
TIM_STAT.SERVING is 1; a function of the model keeps it, as no step of the count is allowed while it holds.
-/

namespace Sys2Proof.Machine

/-- The controller has begun serving, and the count is n. -/
def State.ServesAt (s : State) (n : BitVec 64) : Prop := s.tim.count = n ∧ s.isSet F.TIM_STAT_SERVING = true

/-- An outcome keeps the count of a serving unit: so does its next state, if it has one. -/
def KeepsServing (n : BitVec 64) (o : Host.Outcome State Fault Refusal) : Prop := ∀ t, o = .next t → t.ServesAt n

theorem State.ServesAt.next {s : State} {n : BitVec 64} (h : s.ServesAt n) : KeepsServing n (.next s) := by
  rintro t ⟨⟩; exact h

theorem keepsServing_fault (n : BitVec 64) (x : Fault) : KeepsServing n (.fault x) := fun _ h => nomatch h

theorem keepsServing_refused (n : BitVec 64) (x : Refusal) : KeepsServing n (.refused x) := fun _ h => nomatch h

/-- No register of a role is TIM_STAT. -/
theorem roleKey_ne (c r off : Nat) : roleKey c r off ≠ 0x20100C := by rw [roleKey]; omega

/-- No register of a class is TIM_STAT. -/
theorem clsKey_ne (c off : Nat) : clsKey c off ≠ 0x20100C := by rw [clsKey]; omega

/-! ### The line of TIM_STAT -/

/-- A line of read-only fields keeps its word. -/
theorem wordAfter_ro (d : RegDef) (locked : Bool) (old v m : Nat) (h : ∀ f ∈ d.fields, f.type = .ro) :
    wordAfter d locked old v m = BitVec.ofNat 32 old := by
  unfold wordAfter
  generalize d.fields = l at h
  induction l with
  | nil => rfl
  | cons f l ih =>
    have hf : fieldAfter f locked (fieldGet (BitVec.ofNat 32 old) f.hi f.lo) v m = fieldGet (BitVec.ofNat 32 old) f.hi f.lo := by
      simp [fieldAfter, h f List.mem_cons_self]
    rw [List.foldl_cons, hf, fieldPut_fieldGet_self]
    exact ih fun g hg => h g (List.mem_cons_of_mem _ hg)

/-- The register map's line of TIM_STAT: no field of it takes a write. -/
def timStatLine : RegDef :=
  ⟨2, 2, 0x100c, 0, 1, 0, 1, .inst, [⟨1, 0, .ro, [0], .any⟩, ⟨2, 2, .ro, [0], .any⟩, ⟨3, 3, .ro, [0], .any⟩, ⟨15, 8, .ro, [0], .any⟩]⟩

theorem findReg_timStat : findReg 2 0x100C = some (timStatLine, 0) := by decide +kernel

/-- No window of CTL or TRU reaches the word of TIM_STAT. -/
theorem findReg_beyond : findReg 0 0x20100C = none ∧ findReg 1 0x10100C = none := by decide +kernel

/-- The register whose home is the word of TIM_STAT is TIM_STAT. -/
theorem line_of_homeKey_timStat {s : State} {b off i : Nat} {d : RegDef} (hd : findReg b off = some (d, i))
    (hk : s.homeKey b off d.home = some 0x20100C) : b = 2 ∧ d = timStatLine := by
  unfold State.homeKey at hk
  split at hk
  · have hkey : b * 0x100000 + off = 0x20100C := Option.some.inj hk
    have hb : b = 0 ∨ b = 1 ∨ b = 2 := by omega
    obtain rfl | rfl | rfl := hb
    · obtain rfl : off = 0x20100C := by omega
      rw [findReg_beyond.1] at hd; cases hd
    · obtain rfl : off = 0x10100C := by omega
      rw [findReg_beyond.2] at hd; cases hd
    · obtain rfl : off = 0x100C := by omega
      rw [findReg_timStat] at hd; cases hd; exact ⟨rfl, rfl⟩
  · obtain ⟨c, -, hc⟩ := Option.map_eq_some_iff.mp hk
    exact absurd hc (clsKey_ne c off)
  · split at hk
    · exact absurd (Option.some.inj hk) (roleKey_ne _ _ _)
    · cases hk

theorem halfUpFld_key (q : Nat) : (halfUpFld q).key ≠ 0x20100C := by
  unfold halfUpFld
  split
  all_goals decide

namespace State.ServesAt

variable {s : State} {n : BitVec 64}

/-- A serving unit allows no step (R35). -/
theorem not_stepAllowed (h : s.ServesAt n) : s.stepAllowed = false := by rw [State.stepAllowed, h.2]; rfl

/-- What has the same registers and the same count serves as well. -/
theorem of_eq (h : s.ServesAt n) {t : State} (hregs : t.regs = s.regs := by rfl)
    (hcount : t.tim.count = s.tim.count := by rfl) : t.ServesAt n :=
  ⟨hcount.trans h.1, by rw [State.isSet, State.rd_eq_of_regs_eq hregs]; exact h.2⟩

theorem ite {t : State} {p : Prop} [Decidable p] (h : s.ServesAt n) (ht : t.ServesAt n) : (if p then s else t).ServesAt n := by
  split
  · exact h
  · exact ht

theorem foldl {γ : Type} {g : State → γ → State} {l : List γ} (h : s.ServesAt n) (hg : ∀ a x, a.ServesAt n → (g a x).ServesAt n) :
    (l.foldl g s).ServesAt n := foldl_keeps_of l (fun a ha x _ => hg a x ha) s h

theorem foldl_fst {β γ : Type} {g : State × β → γ → State × β} {l : List γ} {p : State × β} (h : p.1.ServesAt n)
    (hg : ∀ q x, q.1.ServesAt n → (g q x).1.ServesAt n) : (l.foldl g p).1.ServesAt n :=
  foldl_keeps_of (P := fun q : State × β => q.1.ServesAt n) l (fun q hq x _ => hg q x hq) p h

theorem of_fst {α : Type} {p : State × α} {t : State} {a : α} (h : p.1.ServesAt n) (hp : p = (t, a)) : t.ServesAt n := by
  rw [hp] at h; exact h

theorem of_snd {α : Type} {p : α × State} {t : State} {a : α} (h : p.2.ServesAt n) (hp : p = (a, t)) : t.ServesAt n := by
  rw [hp] at h; exact h

/-! ### The registers -/

theorem setWord {k : Nat} {w : Word} (h : s.ServesAt n) (hk : k ≠ 0x20100C) : (s.setWord k w).ServesAt n :=
  ⟨h.1, by rw [State.isSet, s.rd_setWord_other _ _ _ hk.symm]; exact h.2⟩

theorem wr {f : Fld} {v : Nat} (h : s.ServesAt n) (hf : f.key ≠ 0x20100C := by decide) : (s.wr f v).ServesAt n := h.setWord hf

/-- A write to a field of TIM_STAT beside SERVING. -/
theorem wr_spared {f : Fld} {v : Nat} (h : s.ServesAt n) (hf : sparedBy F.TIM_STAT_SERVING f = true := by decide) :
    (s.wr f v).ServesAt n :=
  ⟨h.1, by rw [State.isSet, s.rd_wr_spared _ _ _ hf]; exact h.2⟩

/-- A map of roles written all ones at the word of TIM_STAT. -/
theorem wr_map {r : Nat} (h : s.ServesAt n) (hr : r < 8) : (s.wr (roleMapFld 0x7FBFF r) 0xF).ServesAt n := by
  by_cases h0 : r = 0
  · subst h0
    refine ⟨h.1, ?_⟩
    have hset := h.2
    have hkey : (roleMapFld 0x7FBFF 0).key = F.TIM_STAT_SERVING.key := rfl
    have hput := toNat_fieldPut (s.word F.TIM_STAT_SERVING.key) 3 0 0xF (by decide) (by decide)
    simp only [State.isSet, beq_iff_eq, State.rd, State.wr, hkey, State.word_setWord_same, fieldGet] at hset ⊢
    have hf : fieldPut (s.word F.TIM_STAT_SERVING.key) (roleMapFld 0x7FBFF 0).hi (roleMapFld 0x7FBFF 0).lo 0xF =
      fieldPut (s.word F.TIM_STAT_SERVING.key) 3 0 0xF := rfl
    rw [hf, hput]
    show _ / 4 % 2 = 1
    omega
  · refine h.wr_spared ?_
    simp only [sparedBy, roleMapFld, F.TIM_STAT_SERVING]
    have h1 : 2 < 4 * r := by omega
    have h2 : 4 * r + 3 < 32 := by omega
    simp [h1, h2]

theorem bumpBy {f : Fld} {k : Nat} (h : s.ServesAt n) (hf : f.key ≠ 0x20100C := by decide) : (s.bumpBy f k).ServesAt n := h.wr hf

theorem bump {f : Fld} (h : s.ServesAt n) (hf : f.key ≠ 0x20100C := by decide) : (s.bump f).ServesAt n := h.wr hf

theorem setBit {f : Fld} {i : Nat} {b : Bool} (h : s.ServesAt n) (hf : f.key ≠ 0x20100C := by decide) : (s.setBit f i b).ServesAt n := h.wr hf

theorem wrB {f : Fld} {b : Bool} (h : s.ServesAt n) (hf : f.key ≠ 0x20100C := by decide) : (s.wrB f b).ServesAt n := h.wr hf

theorem wr64 {lo hi : Fld} {v : Nat} (h : s.ServesAt n) (hlo : lo.key ≠ 0x20100C := by decide)
    (hhi : hi.key ≠ 0x20100C := by decide) :
    (s.wr64 lo hi v).ServesAt n := (h.wr hlo).wr hhi

/-! ### TIM -/

/-- A change of TIM that leaves the count. -/
theorem updTim {f : Tim → Tim} (h : s.ServesAt n) (hf : ∀ t, (f t).count = t.count := by intro; rfl) : (s.updTim f).ServesAt n :=
  h.of_eq rfl (hf s.tim)

theorem draw {k : FreeKind} {bound : Nat} (h : s.ServesAt n) : (s.draw k bound).2.ServesAt n := h.of_eq

theorem slew (h : s.ServesAt n) : s.slew.ServesAt n := by
  obtain ⟨v, hv⟩ := s.slew_eq
  rw [hv]
  exact (h.of_eq (t := { s with freeCount := s.freeCount + 1 }) rfl rfl).wr (by decide)

/-- Whether a unit serves is said of TIM and its registers alone. -/
theorem aboutTim (n : BitVec 64) : AboutTim fun s => s.ServesAt n where
  congr h hregs htim _ := h.of_eq hregs (congrArg Tim.count htim)
  setWord _ h hk := h.setWord fun heq => hk (by rw [heq])

end State.ServesAt

end Sys2Proof.Machine
end

section
/-!
The count of a serving unit (R35): each operation and each command of the model keeps it, in the order of the model's text. A lemma
has the name of the function it speaks of, so that the lemmas compose as the functions do.
-/

namespace Sys2Proof.Machine.State.ServesAt

-- One lemma at a time: elaborated side by side, so many of them wait for one another in more threads than there is memory for.
set_option Elab.async false

variable {s : State} {n : BitVec 64}

/-! ### State, its queues and its tables -/

theorem send {o : Out} (h : s.ServesAt n) : (s.send o).ServesAt n := h.of_eq

theorem sendAll {os : List Out} (h : s.ServesAt n) : (s.sendAll os).ServesAt n := h.of_eq

theorem updBench {b : Nat} {f : Bench → Bench} (h : s.ServesAt n) : (s.updBench b f).ServesAt n := h.of_eq

theorem controllerFault (h : s.ServesAt n) : s.controllerFault.ServesAt n := (aboutTim n).controllerFault h

theorem raise {b loc sev code data : Nat} (h : s.ServesAt n) : (s.raise b loc sev code data).ServesAt n :=
  (aboutTim n).raise _ _ _ _ _ h

/-! ### Registers -/

/-- A write of a register: where it is TIM_STAT, whose fields are read-only, the word stays. -/
theorem writeWord {b off key v mask : Nat} {d : RegDef} (h : s.ServesAt n) (hk : key = 0x20100C → b = 2 ∧ d = timStatLine) :
    (s.writeWord b off d key v mask).1.ServesAt n := by
  unfold State.writeWord
  extract_lets +onlyGivenNames old locked w keep w' s1 s2
  have h1 : s1.ServesAt n := by
    by_cases heq : key = 0x20100C
    · obtain ⟨rfl, rfl⟩ := hk heq
      have hw : w = old := by
        unfold w
        rw [wordAfter_ro _ _ _ _ _ (by decide), BitVec.toNat_ofNat, Nat.mod_eq_of_lt (s.word key).isLt]
      have hkeep : keep = 0 := by simp [keep, crossCheck, classOf]
      have hw' : BitVec.ofNat 32 w' = s.word key := by
        have hfull : w' = old := by
          unfold w'
          rw [hkeep, hw, Nat.and_zero, Nat.or_zero]
          exact toNat_and_full _
        rw [hfull, BitVec.ofNat_toNat, BitVec.setWidth_eq]
      refine ⟨h.1, ?_⟩
      have hrd : s1.rd F.TIM_STAT_SERVING = s.rd F.TIM_STAT_SERVING := by
        have hkey : F.TIM_STAT_SERVING.key = key := heq.symm
        rw [State.rd, hkey, State.word_setWord_same, hw', State.rd, hkey]
      rw [State.isSet, hrd]
      exact h.2
    · exact h.setWord heq
  have h2 : s2.ServesAt n := h1.ite h
  split
  · exact h2.bump (by simp only [F.BENCH_LOCK_IGN]; omega)
  · exact h2

theorem writeReg {b off v mask : Nat} (h : s.ServesAt n) : (s.writeReg b off v mask).1.ServesAt n := by
  unfold State.writeReg
  split
  · next hd =>
    split
    · next hk => exact h.writeWord fun heq => line_of_homeKey_timStat hd (heq ▸ hk)
    · exact h
  · exact h

theorem latch {path key v : Nat} (h : s.ServesAt n) : (s.latch path key v).ServesAt n := h.of_eq

theorem holdAccess {a : RegAccess} (h : s.ServesAt n) : (s.holdAccess a).ServesAt n := h.of_eq

theorem atWindow {b off v mask : Nat} {f : State → State} (h : s.ServesAt n) (hf : ∀ (a : State), a.ServesAt n → (f a).ServesAt n) :
    (s.atWindow b off v mask f).ServesAt n := by
  unfold State.atWindow
  exact h.holdAccess.ite (hf _ h)

theorem writeRegW {bench off : Nat} {v : Word} (h : s.ServesAt n) : (s.writeRegW bench off v).ServesAt n := h.writeReg

/-! ### Ethernet ports -/

theorem updMac {m : Nat} {f : Mac → Mac} (h : s.ServesAt n) : (s.updMac m f).ServesAt n := h.of_eq

theorem updEth {k : Nat} {f : EthPort → EthPort} (h : s.ServesAt n) : (s.updEth k f).ServesAt n := h.of_eq

theorem loadMode {b : Nat} (h : s.ServesAt n) : (s.loadMode b).ServesAt n := by
  unfold State.loadMode
  extract_lets +onlyGivenNames v s1
  have h1 : s1.ServesAt n := h.updEth
  exact h1.ite h1.raise

theorem setStat {m i v : Nat} (h : s.ServesAt n) : (s.setStat m i v).ServesAt n := by
  unfold State.setStat
  extract_lets +onlyGivenNames rest
  exact h.of_eq

theorem addStat {m i k : Nat} (h : s.ServesAt n) : (s.addStat m i k).ServesAt n := h.setStat

theorem lpiAccrue {m : Nat} (h : s.ServesAt n) : (s.lpiAccrue m).ServesAt n := (aboutTim n).lpiAccrue _ h

theorem statRead {path m i : Nat} {hi : Bool} (h : s.ServesAt n) : (s.statRead path m i hi).1.ServesAt n := by
  unfold State.statRead
  extract_lets +onlyGivenNames key
  split
  · exact h
  · split
    · exact h
    · extract_lets +onlyGivenNames s1 v
      have h1 : s1.ServesAt n := h.lpiAccrue
      exact h1.latch.setStat

theorem execPrtStatRead {path port sub i : Nat} {hi : Bool} (h : s.ServesAt n) :
    KeepsServing n (execPrtStatRead path port sub i hi s) := by
  unfold Machine.execPrtStatRead
  refine State.ServesAt.next ?_
  split
  · exact h
  · split
    · exact h.holdAccess
    · dsimp -zeta only
      exact h.statRead.send

theorem takePause {m c q : Nat} (h : s.ServesAt n) : (s.takePause m c q).ServesAt n := by
  unfold State.takePause
  split
  · exact h
  · extract_lets +onlyGivenNames old
    exact h.updMac

theorem execPauseFrame {mac quanta : Nat} (h : s.ServesAt n) : KeepsServing n (execPauseFrame mac quanta s) := by
  unfold Machine.execPauseFrame
  refine State.ServesAt.next ?_
  split
  · exact h
  · extract_lets +onlyGivenNames s1
    have h1 : s1.ServesAt n := h.addStat
    exact h1.takePause.ite h1

theorem execPfcFrame {mac : Nat} {quanta : List (Nat × Nat)} (h : s.ServesAt n) : KeepsServing n (execPfcFrame mac quanta s) := by
  unfold Machine.execPfcFrame
  refine State.ServesAt.next ?_
  split
  · exact h
  · extract_lets +onlyGivenNames s1
    have h1 : s1.ServesAt n := h.addStat
    exact (h1.foldl fun _ _ ht => ht.takePause.ite ht).ite h1

theorem execPauseTimeExpiry {mac cls : Nat} (h : s.ServesAt n) : KeepsServing n (execPauseTimeExpiry mac cls s) := h.updMac.next

theorem execPfcWatchdogRestore {mac cls : Nat} (h : s.ServesAt n) : KeepsServing n (execPfcWatchdogRestore mac cls s) := by
  unfold Machine.execPfcWatchdogRestore
  exact (h.updMac.raise.ite h).next

theorem leaveLpi {m : Nat} (h : s.ServesAt n) : (s.leaveLpi m).ServesAt n := (aboutTim n).leaveLpi _ h

theorem execLldpEeeTlv {mac rxTw : Nat} (h : s.ServesAt n) : KeepsServing n (execLldpEeeTlv mac rxTw s) := by
  unfold Machine.execLldpEeeTlv
  refine State.ServesAt.next ?_
  split
  · exact h
  · extract_lets +onlyGivenNames s1 tw cur
    have h1 : s1.ServesAt n := h.send
    exact h1.updMac.ite h1.updMac.raise

theorem sendPause {m c q : Nat} (h : s.ServesAt n) : (s.sendPause m c q).ServesAt n := (aboutTim n).sendPause _ _ _ h

theorem execPauseRepeatTimer {mac cls : Nat} (h : s.ServesAt n) : KeepsServing n (execPauseRepeatTimer mac cls s) := by
  unfold Machine.execPauseRepeatTimer
  exact (h.updMac.sendPause.ite h).next

theorem execPauseSendCap {mac cls : Nat} (h : s.ServesAt n) : KeepsServing n (execPauseSendCap mac cls s) := by
  unfold Machine.execPauseSendCap
  refine State.ServesAt.next ?_
  extract_lets +onlyGivenNames cap
  exact h.updMac.raise.ite h

theorem stampTx {m : Nat} {p : PtpTx} (h : s.ServesAt n) : (s.stampTx m p).ServesAt n := by
  unfold State.stampTx
  extract_lets +onlyGivenNames t
  split
  · extract_lets +onlyGivenNames e
    exact h.updEth.ite (h.updEth.raise.ite h)
  · exact h.send

/-! ### Buffers -/

theorem syncCells (h : s.ServesAt n) : s.syncCells.ServesAt n := h.wr

theorem syncXoff {m : Nat} (h : s.ServesAt n) : (s.syncXoff m).ServesAt n := (aboutTim n).syncXoff _ h

theorem freeFrames {p : SwFrame → Bool} (h : s.ServesAt n) : (s.freeFrames p).ServesAt n := (aboutTim n).freeFrames _ h

theorem police {q : Nat} (h : s.ServesAt n) : (s.police q).2.ServesAt n := (aboutTim n).police _ h

theorem sampleAt {k : Nat} {r : Sample} (h : s.ServesAt n) : (s.sampleAt k r).ServesAt n := (aboutTim n).sampleAt _ _ h

theorem sampleSent {f : SwFrame} (h : s.ServesAt n) : (s.sampleSent f).ServesAt n := h.sampleAt

/-! ### Benches and the rotation -/

theorem setBenchState {b : Nat} {st : BenchState} (h : s.ServesAt n) : (s.setBenchState b st).ServesAt n :=
  (aboutTim n).setBenchState _ _ h

/-- A map of no class may be the word of TIM_STAT: the benches it holds are all 1111b, which leaves SERVING set. -/
theorem refreshMaps {c : Nat} (h : s.ServesAt n) : (s.refreshMaps c).ServesAt n := by
  unfold State.refreshMaps
  refine State.ServesAt.setBit (State.ServesAt.wr (foldl_keeps_of (P := fun t : State => t.ServesAt n) _ (fun t ht r hr => ?_) _ h)
    (by show 0x2008 ≠ 0x20100C; decide))
  by_cases hkey : (roleMapFld c r).key = 0x20100C
  · have hc : 0x2010 + 4 * c = 0x20100C := hkey
    obtain rfl : c = 0x7FBFF := by omega
    have hroles : t.roleCount 0x7FBFF = 0 := rfl
    rw [hroles, if_neg (Nat.not_lt_zero r)]
    exact ht.wr_map (List.mem_range.mp hr)
  · exact ht.wr hkey

theorem updRot {c : Nat} {f : Rotation → Rotation} (h : s.ServesAt n) : (s.updRot c f).ServesAt n := h.of_eq

theorem setLane {x : LaneState} (h : s.ServesAt n) : (s.setLane x).ServesAt n := h.of_eq

theorem ackFlit {src : FlitDest} {f : Flit} (h : s.ServesAt n) : (s.ackFlit src f).ServesAt n := (aboutTim n).ackFlit _ _ h

theorem retain {src : FlitDest} {l : Lane} {f : Flit} (h : s.ServesAt n) : (s.retain src l f).ServesAt n := (aboutTim n).retain _ _ _ h

theorem fillFifo {l : Lane} {v : Vc} (h : s.ServesAt n) : (s.fillFifo l v).ServesAt n := (aboutTim n).fillFifo _ _ h

theorem deliverFlit {l : Lane} {f : Flit} (h : s.ServesAt n) : (s.deliverFlit l f).ServesAt n := (aboutTim n).deliverFlit _ _ h

theorem takeFlits {l : Lane} {v : Vc} {k : Nat} (h : s.ServesAt n) : (s.takeFlits l v k).ServesAt n := by
  unfold State.takeFlits
  extract_lets +onlyGivenNames x
  exact h.setLane.fillFifo

theorem releaseFrames {r : Nat} (h : s.ServesAt n) : (s.releaseFrames r).ServesAt n := (aboutTim n).releaseFrames _ h

theorem releaseHeld {c : Nat} (h : s.ServesAt n) : (s.releaseHeld c).ServesAt n := (aboutTim n).releaseHeld _ h

theorem rebind {c out spare r : Nat} (h : s.ServesAt n) : (s.rebind c out spare r).ServesAt n :=
  (aboutTim n).rebind _ _ _ _ (fun _ ht => ht.refreshMaps) h

theorem rebindOrDefer {c out spare r : Nat} (h : s.ServesAt n) : (s.rebindOrDefer c out spare r).ServesAt n := by
  unfold State.rebindOrDefer
  exact h.updRot.setBit.ite h.rebind

theorem runDeferred (h : s.ServesAt n) : s.runDeferred.ServesAt n := (aboutTim n).runDeferred h

theorem abandonRotation {c : Nat} (h : s.ServesAt n) : (s.abandonRotation c).ServesAt n := by
  unfold State.abandonRotation
  extract_lets +onlyGivenNames s1
  have h1 : s1.ServesAt n := by
    unfold s1
    split
    · exact h.releaseFrames.ite h
    · exact h
  exact h1.updRot.setBit.releaseHeld

theorem beginRotation {c : Nat} (h : s.ServesAt n) : (s.beginRotation c).ServesAt n := by
  unfold State.beginRotation
  split
  · exact h.updRot.setBit
  · exact h

theorem payOwed {c : Nat} (h : s.ServesAt n) : (s.payOwed c).ServesAt n := by
  unfold State.payOwed
  exact h.beginRotation.ite h

theorem rotateOrOwe {c : Nat} (h : s.ServesAt n) : (s.rotateOrOwe c).ServesAt n := h.updRot.payOwed

theorem updLive {f : Live → Live} (h : s.ServesAt n) : (s.updLive f).ServesAt n := h.of_eq

theorem startReload {b : Nat} {act : Bool} (h : s.ServesAt n) : (s.startReload b act).ServesAt n := by
  unfold State.startReload
  extract_lets +onlyGivenNames s1
  have h1 : s1.ServesAt n := by
    unfold s1
    split
    · exact h.setBenchState.refreshMaps
    · exact h
  exact h1.updLive.wr

theorem liveClass {c : Nat} (h : s.ServesAt n) : (s.liveClass c).ServesAt n := by
  unfold State.liveClass
  split
  · exact h
  · split
    · exact h.updRot.payOwed
    · split
      · exact h
      · split
        · extract_lets +onlyGivenNames b
          exact (h.ite h.startReload).ite h.beginRotation
        · split
          · exact h.startReload
          · exact h

theorem takeover {c out r : Nat} {hdrOk : Bool} (h : s.ServesAt n) : (s.takeover c out r hdrOk).ServesAt n := by
  unfold State.takeover
  extract_lets +onlyGivenNames bind
  have hbind : ∀ s sp, s.ServesAt n → (bind s sp).ServesAt n := by
    intro s sp ht
    exact ht.rebindOrDefer.ite ht.controllerFault
  split
  · split
    · exact hbind _ _ h
    · split
      · split
        · exact hbind _ _ h
        · exact h.controllerFault
      · extract_lets +onlyGivenNames s1
        have h1 : s1.ServesAt n := h.abandonRotation
        split
        · exact hbind _ _ h1
        · exact h1.controllerFault
  · split
    · exact hbind _ _ h
    · exact h.controllerFault

theorem spareLost {c i : Nat} {hdrOk : Bool} (h : s.ServesAt n) : (s.spareLost c i hdrOk).ServesAt n := by
  unfold State.spareLost
  split
  · exact h.ite (h.updRot.setBit.takeover.ite h.abandonRotation)
  · exact h

theorem faultBench {b : Nat} {hdrOk : Bool} (h : s.ServesAt n) : (s.faultBench b hdrOk).ServesAt n := by
  unfold State.faultBench
  extract_lets +onlyGivenNames st
  split
  · exact h
  · extract_lets +onlyGivenNames s1
    have h1 : s1.ServesAt n := h.updBench
    split
    · exact h1.setBenchState.controllerFault
    · extract_lets +onlyGivenNames s2
      have h2 : s2.ServesAt n := h1.setBenchState
      split
      · exact h2.takeover.refreshMaps
      · exact h2.spareLost.refreshMaps.liveClass

theorem execFlitReceive {l : Lane} {taken : Nat} {f : Flit} (h : s.ServesAt n) : KeepsServing n (execFlitReceive l taken f s) := by
  unfold Machine.execFlitReceive
  extract_lets +onlyGivenNames src route dest
  refine State.ServesAt.next ?_
  split
  · exact h
  · extract_lets +onlyGivenNames s1
    have h1 : s1.ServesAt n := h.takeFlits.ite h
    split
    · extract_lets +onlyGivenNames s2
      have h2 : s2.ServesAt n := h1.ite h1.retain.setLane
      exact h2.send
    · split
      · exact h1.ackFlit.ite h1.retain.updRot
      · exact h1.deliverFlit

theorem execFlitNak {l : Lane} {chan seq : Nat} {hdrOk : Bool} (h : s.ServesAt n) : KeepsServing n (execFlitNak l chan seq hdrOk s) := by
  unfold Machine.execFlitNak
  extract_lets +onlyGivenNames x src data
  refine State.ServesAt.next ?_
  split
  · split
    · extract_lets +onlyGivenNames s1
      have h1 : s1.ServesAt n := h.of_eq
      exact h1.send.raise.bump (by simp only [F.BENCH_ERR_CHAN]; omega)
    · extract_lets +onlyGivenNames s1
      have h1 : s1.ServesAt n := h.setLane.raise
      split
      · exact h1
      · split
        · exact h1.controllerFault
        · exact h1.faultBench
  · exact h

theorem execLivenessTimeout {bench : Nat} {hdrOk : Bool} (h : s.ServesAt n) : KeepsServing n (execLivenessTimeout bench hdrOk s) :=
  h.faultBench.next

theorem selftestEnd {bench : Nat} {pass : Bool} (h : s.ServesAt n) : (s.selftestEnd bench pass).ServesAt n := by
  unfold State.selftestEnd
  split
  · exact h
  · split
    · extract_lets +onlyGivenNames s1 s2
      have h1 : s1.ServesAt n := h.raise.updBench
      have h2 : s2.ServesAt n := h1.setBenchState
      split
      · exact h2.controllerFault
      · split
        · exact h2.rebind
        · exact h2.refreshMaps
    · split
      · exact h.updBench.setBenchState
      · extract_lets +onlyGivenNames unbound free pick
        clear_value pick
        split
        · exact h.updBench.setBenchState.refreshMaps
        · extract_lets +onlyGivenNames s1 s2
          have h1 : s1.ServesAt n := h.setBenchState.refreshMaps
          have h2 : s2.ServesAt n := h1.updRot
          exact h2.liveClass.payOwed

theorem execSelftestComplete {bench : Nat} {pass : Bool} (h : s.ServesAt n) : KeepsServing n (execSelftestComplete bench pass s) :=
  h.selftestEnd.next

theorem execFaultedRetestTimer {bench : Nat} (h : s.ServesAt n) : KeepsServing n (execFaultedRetestTimer bench s) := by
  unfold Machine.execFaultedRetestTimer
  extract_lets +onlyGivenNames x
  refine State.ServesAt.next ?_
  split
  · extract_lets +onlyGivenNames first
    exact h.setBenchState.ite h
  · exact h

theorem execRotationPeriodExpiry {cls : Nat} (h : s.ServesAt n) : KeepsServing n (execRotationPeriodExpiry cls s) := by
  unfold Machine.execRotationPeriodExpiry
  exact (h.rotateOrOwe.ite h).next

theorem rotNow {v : Nat} (h : s.ServesAt n) : (s.rotNow v).ServesAt n := by
  unfold State.rotNow
  exact h.foldl fun _ _ ht => ht.beginRotation.ite ht

theorem execCtlRotNow {v : Word} (h : s.ServesAt n) : KeepsServing n (execCtlRotNow v s) := by
  unfold Machine.execCtlRotNow
  exact (h.atWindow fun _ ht => ht.rotNow).next

theorem rotCfgChanged (h : s.ServesAt n) : s.rotCfgChanged.ServesAt n := by
  unfold State.rotCfgChanged
  exact h.foldl fun _ _ ht => ht.rotateOrOwe.ite ht.payOwed

theorem execCtlRotCfgWrite {v : Word} (h : s.ServesAt n) : KeepsServing n (execCtlRotCfgWrite v s) := by
  unfold Machine.execCtlRotCfgWrite
  exact (h.atWindow fun _ ht => ht.writeRegW.rotCfgChanged).next

theorem execRotationDrained {cls : Nat} (h : s.ServesAt n) : KeepsServing n (execRotationDrained cls s) := by
  unfold Machine.execRotationDrained
  refine State.ServesAt.next ?_
  split
  · exact h.ite h.rebindOrDefer
  · exact h

/-! ### Time base and PPS -/

theorem servoUpdate {offset : ℤ} (h : s.ServesAt n) : (s.servoUpdate offset).ServesAt n := by
  unfold State.servoUpdate
  extract_lets +onlyGivenNames s1
  have h1 : s1.ServesAt n := h.wr.updTim
  split
  · rw [h1.not_stepAllowed, Bool.false_and, if_neg Bool.false_ne_true]
    exact h1.slew.wr_spared.updTim
  · extract_lets +onlyGivenNames run s2
    have h2 : s2.ServesAt n := h1.slew
    exact h2.raise.wr_spared.updTim.ite h2.updTim
  · extract_lets +onlyGivenNames s2
    have h2 : s2.ServesAt n := h1.slew
    exact h2.raise.wr_spared.updTim.ite h2
  · exact h1.slew.wr_spared.updTim

theorem enterHoldover (h : s.ServesAt n) : s.enterHoldover.ServesAt n := h.raise.wr_spared

theorem srcChanged (h : s.ServesAt n) : s.srcChanged.ServesAt n := by
  unfold State.srcChanged
  exact h.wr_spared.ite h

/-- A serving unit counts the write of a step as ignored (R35). -/
theorem setStep (h : s.ServesAt n) : s.setStep.ServesAt n := by
  unfold State.setStep
  rw [h.not_stepAllowed]
  exact h.wr_spared

theorem writeSrcCfg {v : Word} (h : s.ServesAt n) : (s.writeSrcCfg v).ServesAt n := by
  unfold State.writeSrcCfg
  extract_lets +onlyGivenNames s1
  have h1 : s1.ServesAt n := h.writeRegW.srcChanged
  exact h1.setStep.ite h1

theorem execTimeMarker {dev : List (Nat × ℤ)} (h : s.ServesAt n) : KeepsServing n (execTimeMarker dev s) := by
  unfold Machine.execTimeMarker
  refine State.ServesAt.next ?_
  split
  · exact h
  · extract_lets +onlyGivenNames s1
    have h1 : s1.ServesAt n := h.updTim
    refine h1.foldl fun a x ha => ?_
    split
    · exact ha
    · extract_lets +onlyGivenNames d ok s2 t
      have h2 : s2.ServesAt n := ha.ite ha.raise
      exact h2.updBench

theorem execServoUpdate {src : Nat} {offset : ℤ} (h : s.ServesAt n) : KeepsServing n (execServoUpdate src offset s) := by
  unfold Machine.execServoUpdate
  exact (h.servoUpdate.ite h).next

theorem execServoUpdateTimeout (h : s.ServesAt n) : KeepsServing n (execServoUpdateTimeout s) := by
  unfold Machine.execServoUpdateTimeout
  exact (h.enterHoldover.ite h).next

theorem execHoldoverExpiry (h : s.ServesAt n) : KeepsServing n (execHoldoverExpiry s) := by
  unfold Machine.execHoldoverExpiry
  exact (h.raise.wr_spared.ite h).next

theorem execTimSrcCfgWrite {v : Word} (h : s.ServesAt n) : KeepsServing n (execTimSrcCfgWrite v s) := by
  unfold Machine.execTimSrcCfgWrite
  exact (h.atWindow fun _ ht => ht.writeSrcCfg).next

theorem execTimSetStep {v : Word} (h : s.ServesAt n) : KeepsServing n (execTimSetStep v s) := by
  unfold Machine.execTimSetStep
  exact (h.atWindow fun _ ht => ht.writeSrcCfg).next

theorem ppsCfgChanged {inWas outWas : Bool} {ofsWas : Nat} (h : s.ServesAt n) : (s.ppsCfgChanged inWas outWas ofsWas).ServesAt n := by
  unfold State.ppsCfgChanged
  extract_lets +onlyGivenNames s1
  have h1 : s1.ServesAt n := h.updTim.ite h
  exact h1.updTim.ite h1

theorem execPpsInEdge (h : s.ServesAt n) : KeepsServing n (execPpsInEdge s) := by
  unfold Machine.execPpsInEdge
  refine State.ServesAt.next ?_
  split
  · exact h
  · extract_lets +onlyGivenNames off s1 s2 secs
    have h1 : s1.ServesAt n := h.updTim
    have h2 : s2.ServesAt n := h1.raise.ite h1
    split
    · exact h2
    · extract_lets +onlyGivenNames s3
      have h3 : s3.ServesAt n := h2.servoUpdate
      exact h3.updTim.ite h3

theorem execPpsInMissing (h : s.ServesAt n) : KeepsServing n (execPpsInMissing s) := by
  unfold Machine.execPpsInMissing
  exact (h.raise.updTim.ite h).next

theorem execPpsOutSecond (h : s.ServesAt n) : KeepsServing n (execPpsOutSecond s) := by
  unfold Machine.execPpsOutSecond
  refine State.ServesAt.next ?_
  extract_lets +onlyGivenNames t
  exact h.updTim.ite h

theorem execPpsOutWidthEnd (h : s.ServesAt n) : KeepsServing n (execPpsOutWidthEnd s) := by
  unfold Machine.execPpsOutWidthEnd
  refine State.ServesAt.next ?_
  split
  · exact h.updTim.ite h
  · exact h

theorem ptpOffset {offset : ℤ} (h : s.ServesAt n) : (s.ptpOffset offset).ServesAt n := by
  unfold State.ptpOffset
  exact h.servoUpdate.ite (h.updTim.ite h)

theorem execPtpMessage {m : PtpMsg} (h : s.ServesAt n) : KeepsServing n (execPtpMessage m s) := by
  unfold Machine.execPtpMessage
  refine State.ServesAt.next ?_
  split
  · exact h
  · split
    · exact h
    · extract_lets +onlyGivenNames p put slave
      have hput : ∀ s p, s.ServesAt n → (put s p).ServesAt n := by
        intro s p ht
        exact ht.updTim
      split
      · extract_lets +onlyGivenNames s1 s2
        have h1 : s1.ServesAt n := hput _ _ h
        have h2 : s2.ServesAt n := h1.updTim
        exact h2.wr.ite h2
      · exact h.ptpOffset.ite h
      · exact hput _ _ h
      · split
        · extract_lets +onlyGivenNames s1
          have h1 : s1.ServesAt n := hput _ _ h
          exact h1.ptpOffset.ite h1
        · exact h
      · exact h.send.ite h
      · exact h.send
      · exact h

/-! ### Shots and the shot pins -/

theorem syncPending (h : s.ServesAt n) : s.syncPending.ServesAt n := h.wr

theorem refuseShot {reason : Nat} (h : s.ServesAt n) : (s.refuseShot reason).ServesAt n := h.bump.raise

theorem shotRequest {cause time trigger earliest : Nat} (h : s.ServesAt n) :
    (s.shotRequest cause time trigger earliest).1.ServesAt n := by
  unfold State.shotRequest
  extract_lets +onlyGivenNames sched
  split
  · exact h.refuseShot
  · split
    · exact h.refuseShot
    · split
      · exact h.refuseShot
      · split
        · split
          · exact h.refuseShot
          · extract_lets +onlyGivenNames join
            exact h.updTim.syncPending
        · split
          · exact h.refuseShot
          · split
            · exact h.refuseShot
            · exact h.updTim.syncPending

theorem shotFire (h : s.ServesAt n) : s.shotFire.ServesAt n := h.shotRequest

theorem shotSched (h : s.ServesAt n) : s.shotSched.ServesAt n := h.shotRequest

theorem shotChainIssue (h : s.ServesAt n) : s.shotChainIssue.ServesAt n := by
  unfold State.shotChainIssue
  dsimp -zeta only
  exact h.shotRequest.send.bump.ite h.shotRequest

theorem shotCancel (h : s.ServesAt n) : s.shotCancel.ServesAt n := h.updTim.syncPending

theorem shotRelease (h : s.ServesAt n) : s.shotRelease.ServesAt n := h.wr

theorem shotCmd {v : Nat} (h : s.ServesAt n) : (s.shotCmd v).ServesAt n := by
  unfold State.shotCmd
  extract_lets +onlyGivenNames s1 s2 s3
  have h1 : s1.ServesAt n := h.shotCancel.ite h
  have h2 : s2.ServesAt n := h1.shotRelease.ite h1
  have h3 : s3.ServesAt n := h2.shotFire.ite h2
  exact (h3.shotChainIssue.ite h3.shotSched).ite h3

theorem matchShot {r : EvRec} (h : s.ServesAt n) : (s.matchShot r).ServesAt n := by
  unfold State.matchShot
  split
  · dsimp -zeta only
    exact h.shotRequest.wr.ite h.shotRequest
  · exact h

theorem execShotInEdge (h : s.ServesAt n) : KeepsServing n (execShotInEdge s) := by
  unfold Machine.execShotInEdge
  exact (h.shotRequest.ite h).next

theorem execShotFire (h : s.ServesAt n) : KeepsServing n (execShotFire s) := by
  unfold Machine.execShotFire
  exact (h.atWindow fun _ ht => ht.shotFire).next

theorem execShotSched (h : s.ServesAt n) : KeepsServing n (execShotSched s) := by
  unfold Machine.execShotSched
  exact (h.atWindow fun _ ht => ht.shotSched).next

theorem execShotChainIssue (h : s.ServesAt n) : KeepsServing n (execShotChainIssue s) := by
  unfold Machine.execShotChainIssue
  exact (h.atWindow fun _ ht => ht.shotChainIssue).next

theorem execShotCancel (h : s.ServesAt n) : KeepsServing n (execShotCancel s) := by
  unfold Machine.execShotCancel
  exact (h.atWindow fun _ ht => ht.shotCancel).next

theorem execShotRelease (h : s.ServesAt n) : KeepsServing n (execShotRelease s) := by
  unfold Machine.execShotRelease
  exact (h.atWindow fun _ ht => ht.shotRelease).next

theorem execShotOutPulseEnd (h : s.ServesAt n) : KeepsServing n (execShotOutPulseEnd s) := by
  unfold Machine.execShotOutPulseEnd
  exact (h.updTim.ite h).next

theorem latchBench {b seq time causes : Nat} (h : s.ServesAt n) : (s.latchBench b seq time causes).ServesAt n := by
  unfold State.latchBench
  extract_lets +onlyGivenNames x
  split
  · exact h
  · dsimp -zeta only
    extract_lets +onlyGivenNames role
    exact h.draw.updBench

/-! ### Event logs -/

theorem raiseOnce {period b loc sev code data : Nat} (h : s.ServesAt n) : (s.raiseOnce period b loc sev code data).ServesAt n := by
  unfold State.raiseOnce
  extract_lets +onlyGivenNames key quiet
  exact h.ite h.of_eq.raise

theorem updEv {f : EvLog → EvLog} (h : s.ServesAt n) : (s.updEv f).ServesAt n := h.of_eq

theorem notifySubs {r : EvRec} (h : s.ServesAt n) : (s.notifySubs r).ServesAt n := by
  unfold State.notifySubs
  split
  · exact h
  · refine h.foldl fun a x ha => ?_
    split
    · exact ha
    · dsimp -zeta only
      extract_lets +onlyGivenNames say u' s1
      have h1 : s1.ServesAt n := ha.of_eq
      exact h1.raise.ite h1

theorem enterRecord {r : EvRec} (h : s.ServesAt n) : (s.enterRecord r).ServesAt n := by
  unfold State.enterRecord
  extract_lets +onlyGivenNames s1
  have h1 : s1.ServesAt n := h.wr64
  exact h1.updEv.notifySubs

theorem countDrop (h : s.ServesAt n) : s.countDrop.ServesAt n := h.bump.updEv

theorem logMarker (h : s.ServesAt n) : s.logMarker.ServesAt n := by
  unfold State.logMarker
  split
  · exact h
  · extract_lets +onlyGivenNames s1
    have h1 : s1.ServesAt n := (h.setBit (by simp only [F.BENCH_EV_STAT]; omega)).updEv
    split
    · extract_lets +onlyGivenNames m
      exact h1.updEv.updBench.enterRecord
    · exact h1

theorem logRecord {r : EvRec} (h : s.ServesAt n) : (s.logRecord r).ServesAt n := by
  unfold State.logRecord
  split
  · exact h.logMarker.enterRecord
  · exact h.countDrop.ite (h.updEv.countDrop.notifySubs.ite h.countDrop)

theorem execEventRecordDelivery {bench : Nat} (h : s.ServesAt n) : KeepsServing n (execEventRecordDelivery bench s) := by
  unfold Machine.execEventRecordDelivery
  refine State.ServesAt.next ?_
  split
  · exact h
  · extract_lets +onlyGivenNames s1
    have h1 : s1.ServesAt n := h.updBench
    exact h1.updEv.matchShot

theorem execEventLogEntry (h : s.ServesAt n) : KeepsServing n (execEventLogEntry s) := by
  unfold Machine.execEventLogEntry
  refine State.ServesAt.next ?_
  split
  · exact h
  · exact h.updEv.logRecord.ite h

theorem evCopy (h : s.ServesAt n) : s.evCopy.ServesAt n := by
  unfold State.evCopy
  split
  · extract_lets +onlyGivenNames n1
    exact h.updEv
  · exact h

theorem execEvlogCopy (h : s.ServesAt n) : KeepsServing n (execEvlogCopy s) := h.evCopy.next

theorem countRepair {b row : Nat} {hdrOk : Bool} (h : s.ServesAt n) : (s.countRepair b row hdrOk).ServesAt n := by
  unfold State.countRepair
  extract_lets +onlyGivenNames s1 old s2
  have h1 : s1.ServesAt n := h.raise
  have h2 : s2.ServesAt n := h1.updBench
  exact h2.ite (h2.faultBench.ite (h2.raise.ite h2))

/-! ### Connections -/

theorem updPair {f : Pair → Pair} (h : s.ServesAt n) : (s.updPair f).ServesAt n := h.of_eq

theorem updHalf {q : Nat} {f : Half → Half} (h : s.ServesAt n) : (s.updHalf q f).ServesAt n := h.updPair

theorem haulSend {chan : Nat} (h : s.ServesAt n) : (s.haulSend chan).ServesAt n := by
  unfold State.haulSend
  split
  · exact h
  · extract_lets +onlyGivenNames x k
    exact h.send.bump.updHalf

theorem chainSend {o : Out} (h : s.ServesAt n) : (s.chainSend o).ServesAt n := h.send.bump

theorem sendPairing (h : s.ServesAt n) : s.sendPairing.ServesAt n := by
  unfold State.sendPairing
  split
  · exact h
  · dsimp -zeta only
    extract_lets +onlyGivenNames s1
    extract_lets +onlyGivenNames s2
    have h2 : s2.ServesAt n := by
      unfold s2
      have hb : (s.draw FreeKind.nonce (2 ^ 256)).2.ServesAt n := h.draw
      exact hb.of_eq
    exact h2.haulSend.send

theorem mirror {w : MirrorWhat} {b : MirrorBody} (h : s.ServesAt n) : (s.mirror w b).ServesAt n := by
  unfold State.mirror
  extract_lets +onlyGivenNames n1
  refine State.ServesAt.haulSend ?_
  extract_lets +onlyGivenNames s1
  have h1 : s1.ServesAt n := h.send
  exact h1.of_eq

theorem mirrorAlso {b : MirrorBody} (h : s.ServesAt n) : (s.mirrorAlso b).ServesAt n := by
  unfold State.mirrorAlso
  exact h.mirror.ite h

theorem mirrorNote {b : MirrorBody} (h : s.ServesAt n) : (s.mirrorNote b).ServesAt n := by
  unfold State.mirrorNote
  exact h.mirror.ite h

theorem haulNote (h : s.ServesAt n) : s.haulNote.ServesAt n := by
  unfold State.haulNote
  exact h.haulSend.ite h

theorem setConn {c : Conn} (h : s.ServesAt n) : (s.setConn c).ServesAt n := h.of_eq

theorem bumpX {f : Nat → Fld} {c : Conn} (h : s.ServesAt n) (hf : ∀ r, (f r).key ≠ 0x20100C := by intro r; exact roleKey_ne _ _ _) :
    (s.bumpX f c).ServesAt n := h.bump (hf _)

theorem raiseX {c : Conn} {loc sev code data : Nat} (h : s.ServesAt n) : (s.raiseX c loc sev code data).ServesAt n := h.raise

theorem makeRoom {t : State} {r : Nat} (h : s.ServesAt n) (ht : s.makeRoom r = some t) : t.ServesAt n := by
  unfold State.makeRoom at ht
  split at ht
  · cases ht; exact h
  · split at ht
    · cases ht
    · obtain ⟨v, -, rfl⟩ := Option.map_eq_some_iff.mp ht
      exact h.setConn

theorem mirrorConn {cid : Nat} (h : s.ServesAt n) : (s.mirrorConn cid).ServesAt n := by
  unfold State.mirrorConn
  split
  · exact h.mirrorNote
  · exact h

theorem freeConn {c : Conn} (h : s.ServesAt n) : (s.freeConn c).ServesAt n := by
  unfold State.freeConn
  extract_lets +onlyGivenNames s1
  have h1 : s1.ServesAt n := h.mirrorNote
  exact h1.of_eq

theorem nrtOut {c : Conn} {q : NrtHdr} {e : NrtExt} {b : NrtBody} (h : s.ServesAt n) : (s.nrtOut c q e b).1.ServesAt n := by
  unfold State.nrtOut
  extract_lets +onlyGivenNames h1
  exact h.send.bumpX

theorem sendSync {c : Conn} (h : s.ServesAt n) : (s.sendSync c).1.ServesAt n := by
  unfold State.sendSync
  split
  · exact h
  · extract_lets +onlyGivenNames e
    dsimp -zeta only
    exact h.nrtOut

theorem nrtSend {c : Conn} {q : NrtHdr} {e : NrtExt} {b : NrtBody} (h : s.ServesAt n) : (s.nrtSend c q e b).1.ServesAt n := by
  unfold State.nrtSend
  dsimp -zeta only
  exact h.sendSync.nrtOut

theorem nrtBare {c : Conn} {typ : Nat} (h : s.ServesAt n) : (s.nrtBare c typ).ServesAt n := h.nrtSend

theorem settleMsg {cid m : Nat} (h : s.ServesAt n) : (s.settleMsg cid m).ServesAt n := by
  unfold State.settleMsg
  split
  · exact h
  · exact h.mirror.ite h.setConn

theorem sendAck {c : Conn} {path : Nat} (h : s.ServesAt n) : (s.sendAck c path).ServesAt n := by
  unfold State.sendAck
  dsimp -zeta only
  exact h.nrtSend.setConn

theorem restoreCredits (h : s.ServesAt n) : s.restoreCredits.ServesAt n := by
  unfold State.restoreCredits
  exact h.foldl fun _ _ ht => ht.sendAck

theorem sendData {c : Conn} {p : TxPkt} (h : s.ServesAt n) : (s.sendData c p).1.ServesAt n := h.nrtSend

theorem sendNext {c : Conn} {m : OutMsg} (h : s.ServesAt n) : (s.sendNext c m).1.ServesAt n := h.sendData

theorem pumpN {c : Conn} {y : Nat} (h : s.ServesAt n) : (s.pumpN c y).1.ServesAt n := by
  induction y generalizing s c with
  | zero => exact h
  | succ y ih =>
    unfold State.pumpN
    split
    · exact h
    · exact ih h.sendNext

theorem pump {c : Conn} (h : s.ServesAt n) : (s.pump c).1.ServesAt n := h.pumpN

theorem roceSend {c : Conn} {m : RoceOut} {k : Nat} (h : s.ServesAt n) : (s.roceSend c m k).ServesAt n := h.send.bumpBy (roleKey_ne _ _ _)

theorem roceAnsOut {c : Conn} {psn : Nat} {a : RoceAns} (h : s.ServesAt n) : (s.roceAnsOut c psn a).ServesAt n := by
  cases a
  all_goals exact h.roceSend

theorem roceFlush {c : Conn} {l : List RoceReq} (h : s.ServesAt n) : (s.roceFlush c l).ServesAt n := by
  induction l generalizing s with
  | nil => exact h.setConn
  | cons r rest ih =>
    unfold State.roceFlush
    split
    · exact h.setConn
    · exact ih h.roceAnsOut

theorem roceAnswer {cid psn : Nat} {a : RoceAns} (h : s.ServesAt n) : (s.roceAnswer cid psn a).ServesAt n := by
  unfold State.roceAnswer
  split
  · exact h
  · extract_lets +onlyGivenNames set
    exact h.roceFlush

theorem roceMessage {c : Conn} {m : OutMsg} (h : s.ServesAt n) : (s.roceMessage c m).ServesAt n := h.roceSend.setConn

theorem rocePumpN {index y : Nat} (h : s.ServesAt n) : (s.rocePumpN index y).ServesAt n := by
  induction y generalizing s with
  | zero => exact h
  | succ y ih =>
    unfold State.rocePumpN
    split
    · split
      · split
        · exact ih h.roceMessage
        · exact h
      · exact h
    · exact h

theorem rocePump {c : Conn} (h : s.ServesAt n) : (s.rocePump c).ServesAt n := h.rocePumpN

theorem raiseCeiling {c : Conn} (h : s.ServesAt n) : (s.raiseCeiling c).ServesAt n := by
  unfold State.raiseCeiling
  extract_lets +onlyGivenNames asked
  exact h.mirror.ite h

theorem goOn {c : Conn} (h : s.ServesAt n) : (s.goOn c).ServesAt n := by
  unfold State.goOn
  split
  · dsimp -zeta only
    exact h.pump.setConn.raiseCeiling
  · exact h.setConn.rocePump

theorem transmitAs {cid msg : Nat} {b : OutBody} (h : s.ServesAt n) : (s.transmitAs cid msg b).ServesAt n := by
  unfold State.transmitAs
  split
  · exact h
  · exact h.goOn

theorem commitMsg {cid : Nat} {b : OutBody} (h : s.ServesAt n) : (s.commitMsg cid b).2.ServesAt n := by
  unfold State.commitMsg
  split
  · exact h
  · extract_lets +onlyGivenNames s1
    have h1 : s1.ServesAt n := h.setConn
    exact h1.mirrorConn

theorem transmit {cid : Nat} {b : OutBody} (h : s.ServesAt n) : (s.transmit cid b).ServesAt n := by
  unfold State.transmit
  split
  · exact h
  · extract_lets +onlyGivenNames c
    split
    · extract_lets +onlyGivenNames c1
      exact h.goOn
    · extract_lets +onlyGivenNames psn c1 c2
      exact h.setConn.mirror.ite h.mirrorAlso.goOn

theorem resend {c : Conn} {order : Nat} (h : s.ServesAt n) : (s.resend c order).1.ServesAt n := by
  unfold State.resend
  split
  · exact h
  · extract_lets +onlyGivenNames path q
    dsimp -zeta only
    exact h.sendData.bumpX

theorem resendAll {c : Conn} {orders : List Nat} (h : s.ServesAt n) : (s.resendAll c orders).1.ServesAt n := by
  unfold State.resendAll
  refine State.ServesAt.foldl_fst h fun q x hq => ?_
  exact hq.resend

theorem restorePath {c : Conn} {p : Nat} (h : s.ServesAt n) : (s.restorePath c p).1.ServesAt n := by
  unfold State.restorePath
  split
  · exact h.raiseX
  · exact h

/-! ### Hosts, controllers and the endpoint -/

theorem updIdent {i : Nat} {f : Ident → Ident} (h : s.ServesAt n) : (s.updIdent i f).ServesAt n := h.of_eq

theorem updCtrl {i : Nat} {f : Ctrl → Ctrl} (h : s.ServesAt n) : (s.updCtrl i f).ServesAt n := h.of_eq

theorem updNs {k : Nat} {f : Namespace → Namespace} (h : s.ServesAt n) : (s.updNs k f).ServesAt n := h.of_eq

theorem updCmd {id : Nat} {f : Cmd → Cmd} (h : s.ServesAt n) : (s.updCmd id f).ServesAt n := h.of_eq

theorem updQueue {ctl q : Nat} {f : Queue → Queue} (h : s.ServesAt n) : (s.updQueue ctl q f).ServesAt n := h.updCtrl

theorem bumpCmd {f : Nat → Fld} {v : NvmeCmd} (h : s.ServesAt n) (hf : ∀ r, (f r).key ≠ 0x20100C := by intro r; exact roleKey_ne _ _ _) :
    (s.bumpCmd f v).ServesAt n := h.foldl fun _ _ ht => ht.bump (hf _)

theorem raiseCmd {r loc sev code data : Nat} (h : s.ServesAt n) : (s.raiseCmd r loc sev code data).ServesAt n := h.raise

theorem raiseLay {g loc sev code data : Nat} (h : s.ServesAt n) : (s.raiseLay g loc sev code data).ServesAt n := h.raise

theorem raiseSvy {g loc sev code data : Nat} (h : s.ServesAt n) : (s.raiseSvy g loc sev code data).ServesAt n := h.raise

theorem updEpf {f : Nat} {g : EpFunc → EpFunc} (h : s.ServesAt n) : (s.updEpf f g).ServesAt n := h.of_eq

theorem epTlp (h : s.ServesAt n) : s.epTlp.ServesAt n := h.of_eq

theorem epRead {t : State} {f : Nat} {w : EpWhat} {second : Bool} (h : s.ServesAt n) (ht : s.epRead f w second = some t) :
    t.ServesAt n := by
  unfold State.epRead at ht
  split at ht
  · cases ht
  · next tag _ =>
    obtain rfl := Option.some.inj ht
    exact (State.ServesAt.send h.of_eq).bump.epTlp

theorem epFetchSq {f qid : Nat} (h : s.ServesAt n) : (s.epFetchSq f qid).ServesAt n := by
  unfold State.epFetchSq
  extract_lets +onlyGivenNames idx
  split
  · exact h
  · split
    · exact h
    · extract_lets +onlyGivenNames busy avail
      split
      · exact h
      · split
        · rename_i t heq
          have ht : t.ServesAt n := h.epRead heq
          exact ht
        · exact h

theorem epFetchAll {f : Nat} (h : s.ServesAt n) : (s.epFetchAll f).ServesAt n := by
  unfold State.epFetchAll
  split
  · exact h
  · exact h.foldl fun _ _ ht => ht.epFetchSq

theorem syncReady (h : s.ServesAt n) : s.syncReady.ServesAt n := h.of_eq

theorem syncCmds (h : s.ServesAt n) : s.syncCmds.ServesAt n := by
  unfold State.syncCmds
  extract_lets +onlyGivenNames s1 full s2
  have h1 : s1.ServesAt n := h.syncReady
  have h2 : s2.ServesAt n := h1.wr
  extract_lets +onlyGivenNames s3
  have h3 : s3.ServesAt n := h2.of_eq
  exact (h3.restoreCredits.foldl fun _ _ ht => ht.epFetchAll).ite h3

theorem epInterrupt {f vector : Nat} (h : s.ServesAt n) : (s.epInterrupt f vector).ServesAt n := by
  unfold State.epInterrupt
  exact h.send.ite h.updEpf

theorem epEntry {t : State} {f ctl qid : Nat} {o : Out} (h : s.ServesAt n) (ht : s.epEntry f ctl qid o = some t) : t.ServesAt n := by
  unfold State.epEntry at ht
  split at ht
  · cases ht; exact h
  · split at ht
    · cases ht
    · obtain rfl := Option.some.inj ht
      refine State.ServesAt.ite ?_ ?_
      · exact h.updCtrl.send.bump.bump.epTlp.epInterrupt
      · exact h.updCtrl.send.bump.bump.epTlp

theorem epFlush {f : Nat} (h : s.ServesAt n) : (s.epFlush f).ServesAt n := by
  unfold State.epFlush
  extract_lets +onlyGivenNames l
  split
  · exact h
  · refine State.ServesAt.foldl ?_ fun a x ha => ?_
    · extract_lets +onlyGivenNames s1
      have h1 : s1.ServesAt n := h.updEpf
      exact h1.of_eq
    · split
      · exact ha.updEpf
      · split
        · split
          · rename_i t heq
            have ht : t.ServesAt n := ha.epEntry heq
            exact ht
          · exact ha.updEpf
        · exact ha.send.bump.epTlp

theorem toHost {ctl : Nat} {o : Out} (h : s.ServesAt n) : (s.toHost ctl o).ServesAt n := by
  unfold State.toHost
  split
  · exact h.updEpf.epFlush
  · exact h.send

theorem syncEpQuar (h : s.ServesAt n) : s.syncEpQuar.ServesAt n := by
  unfold State.syncEpQuar
  extract_lets +onlyGivenNames n1 s1
  have h1 : s1.ServesAt n := h.wr
  split
  · split
    · exact h1
    · extract_lets +onlyGivenNames s2
      have h2 : s2.ServesAt n := h1.raise
      exact h2.of_eq
  · exact h1.of_eq

theorem epIssue {f : Nat} (h : s.ServesAt n) : (s.epIssue f).ServesAt n := by
  unfold State.epIssue
  extract_lets +onlyGivenNames fatal
  split
  · exact h
  · refine h.foldl fun a x ha => ?_
    refine ha.foldl fun a1 x1 ha1 => ?_
    split
    · rename_i t heq
      have ht : t.ServesAt n := ha1.epRead heq
      exact ht.of_eq
    · exact ha1

theorem epStartFetch {ctl cmd len : Nat} (h : s.ServesAt n) : (s.epStartFetch ctl cmd len).ServesAt n := by
  unfold State.epStartFetch
  split
  · extract_lets +onlyGivenNames x
    exact h.of_eq.epIssue
  · exact h.send

theorem epDropFetch {cmd : Nat} (h : s.ServesAt n) : (s.epDropFetch cmd).ServesAt n := h.of_eq

theorem respond {k : NvmeCmd} {dw0 : Nat} {st : Status} {msg : Option Nat} (h : s.ServesAt n) : (s.respond k dw0 st msg).ServesAt n := by
  unfold State.respond
  extract_lets +onlyGivenNames body
  split
  · exact h
  · split
    · exact h.ite h.transmitAs
    · exact h.transmit
    · exact h.toHost

theorem mirrorNs {nsid : Nat} (h : s.ServesAt n) : (s.mirrorNs nsid).ServesAt n := h.mirrorNote

theorem mirrorEffect {nsid cmd dw0 : Nat} (h : s.ServesAt n) : (s.mirrorEffect nsid cmd dw0).ServesAt n := h.mirrorNote

theorem setAtPost {v : NvmeCmd} (h : s.ServesAt n) : (s.setAtPost v).ServesAt n := by
  unfold State.setAtPost
  extract_lets +onlyGivenNames m onQueue
  have honQueue : ∀ q f, (onQueue q f).ServesAt n := by
    intro q f
    unfold onQueue
    extract_lets +onlyGivenNames s1
    have h1 : s1.ServesAt n := h.updQueue
    split
    · exact h1.mirrorConn
    · exact h1
  exact h.ite ((honQueue _ _).ite (h.ite (h.updNs.ite (honQueue _ _))))

theorem post {c : Cmd} (h : s.ServesAt n) : (s.post c).ServesAt n := by
  unfold State.post
  split
  · exact h
  · extract_lets +onlyGivenNames s1 s2 s3
    have h1 : s1.ServesAt n := h.of_eq
    have h2 : s2.ServesAt n := h1.setAtPost.ite h1
    have h3 : s3.ServesAt n := h2.bumpCmd.respond.ite h2
    exact h3.mirrorNote.syncCmds

theorem reserveResponse {c : Cmd} (h : s.ServesAt n) : (s.reserveResponse c).ServesAt n := by
  unfold State.reserveResponse
  split
  · split
    · dsimp -zeta only
      exact h.commitMsg.updCmd
    · exact h
  · exact h

theorem tryPost {id : Nat} (h : s.ServesAt n) : (s.tryPost id).ServesAt n := by
  unfold State.tryPost
  split
  · exact h
  · split
    · exact h
    · split
      · extract_lets +onlyGivenNames s1
        have h1 : s1.ServesAt n := h.reserveResponse.updCmd
        split
        · exact h1.mirror
        · exact h1
      · exact h.post

theorem setMet {id dw0 : Nat} {st : Status} (h : s.ServesAt n) : (s.setMet id dw0 st).ServesAt n := h.updCmd

theorem finish {id dw0 : Nat} {st : Status} (h : s.ServesAt n) : (s.finish id dw0 st).ServesAt n := h.setMet.tryPost

theorem sendNotices {ctl y : Nat} (h : s.ServesAt n) : (s.sendNotices ctl y).ServesAt n := by
  induction y generalizing s with
  | zero => exact h
  | succ y ih =>
    unfold State.sendNotices
    split
    · exact h
    · split
      · exact ih h.updCtrl.finish
      · exact h

theorem notice {ctl typ info page : Nat} (h : s.ServesAt n) : (s.notice ctl typ info page).ServesAt n := by
  unfold State.notice
  split
  · exact h
  · extract_lets +onlyGivenNames enabled
    exact h.ite h.updCtrl.sendNotices

theorem noticeAll {p : Nat → Bool} {typ info page : Nat} (h : s.ServesAt n) : (s.noticeAll p typ info page).ServesAt n := by
  unfold State.noticeAll
  refine h.foldl fun a x ha => ?_
  split
  · exact ha.notice.ite ha
  · exact ha

theorem nsChanged {nsid : Nat} {p : Nat → Bool} (h : s.ServesAt n) : (s.nsChanged nsid p).ServesAt n := h.of_eq.noticeAll

theorem resvNotice {nsid typ : Nat} {p : Nat → Bool} (h : s.ServesAt n) : (s.resvNotice nsid typ p).ServesAt n := by
  unfold State.resvNotice
  exact h.foldl fun _ _ ht => ht.updCtrl.notice

theorem recordLost {nsid slba nlb cause : Nat} (h : s.ServesAt n) : (s.recordLost nsid slba nlb cause).ServesAt n := by
  unfold State.recordLost
  split
  · exact h
  · extract_lets +onlyGivenNames blocks full lost s1 s2
    have h1 : s1.ServesAt n := h.updNs
    have h2 : s2.ServesAt n := h1.raiseCmd
    exact h2.noticeAll.mirrorNs

theorem clearLost {nsid lba : Nat} (h : s.ServesAt n) : (s.clearLost nsid lba).ServesAt n := h.updNs

theorem markAttached {nsid : Nat} (h : s.ServesAt n) : (s.markAttached nsid).ServesAt n := h.updNs.mirrorNs

/-! ### Groups -/

theorem updGroup {g : Nat} {f : Group → Group} (h : s.ServesAt n) : (s.updGroup g f).ServesAt n := h.of_eq

theorem updSlot {k : Nat} {f : Slot → Slot} (h : s.ServesAt n) : (s.updSlot k f).ServesAt n := h.of_eq

theorem setOut {k bitNo : Nat} {v : Bool} (h : s.ServesAt n) : (s.setOut k bitNo v).ServesAt n := h.of_eq

theorem mirrorSlot {k : Nat} (h : s.ServesAt n) : (s.mirrorSlot k).ServesAt n := h.mirrorNote

theorem changeSlot {k st : Nat} {f : Slot → Slot} (h : s.ServesAt n) : (s.changeSlot k st f).ServesAt n :=
  (h.updSlot.wr (by simp only [F.LAY_MSTAT_STATE]; omega)).mirrorSlot

theorem updStripe {g k : Nat} {f : Stripe → Stripe} (h : s.ServesAt n) : (s.updStripe g k f).ServesAt n := h.of_eq

theorem syncHold {g : Nat} (h : s.ServesAt n) : (s.syncHold g).ServesAt n := by
  unfold State.syncHold
  extract_lets +onlyGivenNames f
  split
  · split
    · extract_lets +onlyGivenNames s1
      have h1 : s1.ServesAt n := h.updGroup
      exact (h1.wr (by simp only [F.LAY_GSTAT_SPACE_HOLD]; omega)).raiseLay
    · exact h
  · extract_lets +onlyGivenNames us s1
    have h1 : s1.ServesAt n := (h.bumpBy (by simp only [F.LAY_HOLD_US]; omega)).updGroup
    split
    · extract_lets +onlyGivenNames s2
      have h2 : s2.ServesAt n := h1.updGroup
      exact (h2.wr (by simp only [F.LAY_GSTAT_SPACE_HOLD]; omega)).raiseLay
    · exact h1

theorem setEntryNotice {l : List Nat} (h : s.ServesAt n) : { s with entryNotice := l }.ServesAt n := h.of_eq

theorem syncEntries {g : Nat} (h : s.ServesAt n) : (s.syncEntries g).ServesAt n := by
  unfold State.syncEntries
  extract_lets +onlyGivenNames e free
  have hw : ∀ v, (s.wr (F.LAY_GSTAT_ENTRY_HOLD g) v).ServesAt n := fun v => h.wr (by simp only [F.LAY_GSTAT_ENTRY_HOLD]; omega)
  split
  · exact (hw 0).setEntryNotice.ite h
  · exact (hw 1).raiseLay.setEntryNotice.ite h

theorem syncGroup {g : Nat} (h : s.ServesAt n) : (s.syncGroup g).ServesAt n := by
  unfold State.syncGroup
  split
  · exact h
  · extract_lets +onlyGivenNames s1 s2 s3
    have h1 : s1.ServesAt n := h.wr (by simp only [F.LAY_GSTAT_OPEN]; omega)
    have h2 : s2.ServesAt n := h1.wr (by simp only [F.LAY_GSTAT_SERVICE]; omega)
    have h3 : s3.ServesAt n := h2.wr (by simp only [F.LAY_GSTAT_FREE_PCT]; omega)
    exact h3.syncHold.syncEntries.ite h3

/-! ### Member commands -/

theorem syncQuar {slot : Nat} (h : s.ServesAt n) : (s.syncQuar slot).ServesAt n := h.wr (by simp only [F.DRV_PSTAT_QUAR]; omega)

theorem issueM {slot q : Nat} {w : MWork} (h : s.ServesAt n) : (s.issueM slot q w).ServesAt n := by
  unfold State.issueM
  split
  · extract_lets +onlyGivenNames tag
    exact h.of_eq.send.bump (by simp only [F.DRV_CMD]; omega)
  · exact h.of_eq

theorem issueWaiting (h : s.ServesAt n) : s.issueWaiting.ServesAt n := by
  unfold State.issueWaiting
  extract_lets +onlyGivenNames l
  exact h.of_eq.foldl fun _ _ ht => ht.issueM

theorem abandonM {p : MWork → Bool} (h : s.ServesAt n) : (s.abandonM p).ServesAt n := by
  unfold State.abandonM
  extract_lets +onlyGivenNames slots
  exact h.of_eq.foldl fun _ _ ht => ht.syncQuar

theorem bgIo {l : List Nat} (h : s.ServesAt n) : (s.bgIo l).ServesAt n := by
  unfold State.bgIo
  exact h.foldl fun _ _ ht => ht.bump (by simp only [F.DRV_CMD]; omega)

theorem issueRec {g : Nat} {b : RecBody} (h : s.ServesAt n) : (s.issueRec g b).2.ServesAt n := by
  unfold State.issueRec
  extract_lets +onlyGivenNames q r s1
  extract_lets +onlyGivenNames s2
  have h2 : s2.ServesAt n := h.of_eq
  exact h2.wr64

theorem emitRec {g : Nat} {b : RecBody} (h : s.ServesAt n) : (s.emitRec g b).ServesAt n := h.issueRec

theorem updRec {q : Nat} {f : Rec → Rec} (h : s.ServesAt n) : (s.updRec q f).ServesAt n := h.of_eq

/-! ### Layout -/

theorem closeStripe {g k : Nat} (h : s.ServesAt n) : (s.closeStripe g k).ServesAt n := h.updStripe

theorem openStripe {t : State} {g k : Nat} {st : Stream} (h : s.ServesAt n) (ht : s.openStripe g st = some (k, t)) : t.ServesAt n := by
  unfold State.openStripe at ht
  split at ht
  · cases ht
  · dsimp only at ht
    split at ht
    · split at ht
      · cases ht
      · obtain ⟨-, rfl⟩ := Prod.mk.inj (Option.some.inj ht)
        exact State.ServesAt.syncGroup (State.ServesAt.updGroup h.of_eq)
    · cases ht

theorem stripeFor {t : State} {g k : Nat} {st : Stream} (h : s.ServesAt n) (ht : s.stripeFor g st = some (k, t)) : t.ServesAt n := by
  unfold State.stripeFor at ht
  split at ht
  · cases ht; exact h
  · split at ht
    · exact h.openStripe ht
    · cases ht

theorem placeIn {g k : Nat} {b : SBlock} (h : s.ServesAt n) : (s.placeIn g k b).ServesAt n := by
  unfold State.placeIn
  split
  · exact h
  · extract_lets +onlyGivenNames i keep b1 s1
    have h1 : s1.ServesAt n := h.updStripe
    exact h1.closeStripe.ite h1

theorem place {g : Nat} {st : Stream} {b : SBlock} (h : s.ServesAt n) : (s.place g st b).1.ServesAt n := by
  unfold State.place
  split
  · exact h
  · rename_i t heq
    have ht : t.ServesAt n := h.stripeFor heq
    extract_lets +onlyGivenNames starts
    split
    · split
      · exact h.closeStripe
      · exact h
    · extract_lets +onlyGivenNames s1
      have h1 : s1.ServesAt n := ht.placeIn
      exact h1.updGroup.ite h1

theorem startFetch {c : Cmd} {len : Nat} (h : s.ServesAt n) : (s.startFetch c len).ServesAt n := by
  unfold State.startFetch
  extract_lets +onlyGivenNames s1
  have h1 : s1.ServesAt n := h.updCmd
  split
  · exact h1.foldl fun _ _ ht => ht.transmit
  · exact h1.epStartFetch

theorem placeCmd {id : Nat} (h : s.ServesAt n) : (s.placeCmd id).ServesAt n := by
  unfold State.placeCmd
  split
  · exact h
  · split
    · exact h
    · extract_lets +onlyGivenNames slba
      split
      · exact h
      · refine h.foldl fun a x ha => ?_
        split
        · split
          · exact ha
          · split
            · rename_i t x1 heq
              have ht : t.ServesAt n := ha.place.of_fst heq
              exact ht.updCmd
            · rename_i t heq
              have ht : t.ServesAt n := ha.place.of_fst heq
              exact ht
        · exact ha

theorem placeWaiting {g : Nat} (h : s.ServesAt n) : (s.placeWaiting g).ServesAt n := by
  unfold State.placeWaiting
  exact h.foldl fun _ _ ht => ht.placeCmd

theorem stageCmd {id : Nat} (h : s.ServesAt n) : (s.stageCmd id).ServesAt n := by
  unfold State.stageCmd
  split
  · exact h
  · exact h.of_eq

theorem voidCmd {id : Nat} (h : s.ServesAt n) : (s.voidCmd id).ServesAt n := h.of_eq

theorem dqFull {g : Nat} (h : s.ServesAt n) : (s.dqFull g).ServesAt n := (h.bump (roleKey_ne _ _ _)).raiseOnce

theorem sealStripe {g k : Nat} (h : s.ServesAt n) : (s.sealStripe g k).ServesAt n := by
  unfold State.sealStripe
  split
  · exact h
  · extract_lets +onlyGivenNames q len kp voids s1 s2 s3 s4 s5 add s6 s7
    have h1 : s1.ServesAt n := h.updGroup
    have h2 : s2.ServesAt n := h1.wr64 (by simp only [F.LAY_GFSEQ_LO]; omega) (by simp only [F.LAY_GFSEQ_HI]; omega)
    have h3 : s3.ServesAt n := h2.bump (by split <;> simp only [F.LAY_SEAL_FULL, F.LAY_SEAL_EARLY] <;> omega)
    have h4 : s4.ServesAt n := h3.bumpBy (by simp only [F.LAY_VOID]; omega)
    have h5 : s5.ServesAt n := h4.updStripe
    have h6 : s6.ServesAt n := h5.of_eq
    have h7 : s7.ServesAt n := by
      unfold s7
      refine h6.foldl fun a x ha => ?_
      split
      · exact ha.issueM
      · exact ha
    exact h7.syncGroup

theorem trySeal {g k : Nat} (h : s.ServesAt n) : (s.trySeal g k).ServesAt n := by
  unfold State.trySeal
  split
  · exact h.ite (h.dqFull.ite h.sealStripe)
  · exact h

theorem execSealTimeExpiry {group stripe : Nat} (h : s.ServesAt n) : KeepsServing n (execSealTimeExpiry group stripe s) := by
  unfold Machine.execSealTimeExpiry
  refine State.ServesAt.next ?_
  split
  · split
    · exact h.closeStripe.syncGroup.ite h
    · exact h
  · exact h

theorem execSealWaitExpiry {group stripe : Nat} (h : s.ServesAt n) : KeepsServing n (execSealWaitExpiry group stripe s) := by
  unfold Machine.execSealWaitExpiry
  refine State.ServesAt.next ?_
  split
  · split
    · extract_lets +onlyGivenNames late s1 ids
      have h1 : s1.ServesAt n := h.updStripe
      refine h1.foldl fun a x ha => ?_
      extract_lets +onlyGivenNames mine other s2 s3
      have h2 : s2.ServesAt n := ha.updCmd
      have h3 : s3.ServesAt n := by
        unfold s3
        split
        · exact h2.startFetch
        · exact h2
      exact h3.placeCmd
    · exact h
  · exact h

/-! ### Survey -/

theorem setEntry {nsid lba : Nat} {e : Option Entry} (h : s.ServesAt n) : (s.setEntry nsid lba e).ServesAt n := h.of_eq

theorem updObjs {p : SvyObj → Bool} {f : SvyObj → SvyObj} (h : s.ServesAt n) : (s.updObjs p f).ServesAt n := h.of_eq

theorem evictObj {r : Nat} (h : s.ServesAt n) : (s.evictObj r).ServesAt n := by
  unfold State.evictObj
  refine h.foldl fun a x ha => ?_
  extract_lets +onlyGivenNames mine
  split
  · exact ha
  · extract_lets +onlyGivenNames free
    split
    · exact ha.updObjs
    · split
      · exact ha.updObjs
      · exact ha

theorem useObjs {r : Nat} {p : SvyObj → Bool} (h : s.ServesAt n) : (s.useObjs r p).ServesAt n := by
  unfold State.useObjs
  extract_lets +onlyGivenNames s1 bank
  have h1 : s1.ServesAt n := h.of_eq
  split
  · exact h1.updObjs.ite h1
  · exact h1

theorem touch {g kind owner index seq : Nat} (h : s.ServesAt n) : (s.touch g kind owner index seq).ServesAt n := by
  unfold State.touch
  extract_lets +onlyGivenNames hit r
  split
  · extract_lets +onlyGivenNames miss wait s1
    have h1 : s1.ServesAt n := (h.bumpBy (roleKey_ne _ _ _)).bgIo
    extract_lets +onlyGivenNames s2
    have h2 : s2.ServesAt n := h.updObjs.ite h1.updObjs.useObjs
    exact h2.updObjs.evictObj
  · exact h.of_eq.useObjs.evictObj

theorem loadObjs {l : List SvyObj} (h : s.ServesAt n) : (s.loadObjs l).ServesAt n := h.updObjs

theorem lookups {k : Namespace} {lbas : List Nat} (h : s.ServesAt n) : (s.lookups k lbas).ServesAt n := by
  unfold State.lookups
  split
  · exact h
  · extract_lets +onlyGivenNames r pages
    refine (h.bumpBy (roleKey_ne _ _ _)).foldl fun a x ha => ?_
    extract_lets +onlyGivenNames s1
    have h1 : s1.ServesAt n := (ha.bump (roleKey_ne _ _ _)).ite ha
    exact h1.useObjs

theorem liveBy {p : Place} {up : Bool} {seq : Nat} (h : s.ServesAt n) : (s.liveBy p up seq).ServesAt n := h.updStripe.touch

theorem mappedBy {nsid g : Nat} {up : Bool} (h : s.ServesAt n) : (s.mappedBy nsid g up).ServesAt n := by
  unfold State.mappedBy
  extract_lets +onlyGivenNames f
  exact h.updNs.updGroup

theorem applyEntry {nsid lba seq : Nat} {new : Option Entry} (h : s.ServesAt n) : (s.applyEntry nsid lba seq new).ServesAt n := by
  unfold State.applyEntry
  extract_lets +onlyGivenNames old s1 s2 s3 home
  have h1 : s1.ServesAt n := h.setEntry
  have h2 : s2.ServesAt n := by
    unfold s2
    clear_value old
    split
    · exact h1.liveBy.mappedBy
    · exact h1
  have h3 : s3.ServesAt n := by
    unfold s3
    split
    · exact h2.liveBy.mappedBy
    · exact h2
  exact h3.touch

theorem applyRun {kind seq : Nat} {r : MapRun} (h : s.ServesAt n) : (s.applyRun kind seq r).ServesAt n := by
  unfold State.applyRun
  refine h.foldl fun a x ha => ?_
  extract_lets +onlyGivenNames lba
  split
  · exact ha.applyEntry.clearLost
  · split
    · extract_lets +onlyGivenNames s1
      have h1 : s1.ServesAt n := ha.applyEntry
      split
      · exact (h1.bump (by simp only [F.LAY_RECL_MOVED]; omega)).ite h1
      · exact h1
    · exact ha.bump (roleKey_ne _ _ _)

theorem leaveWork {g : Nat} {p : Nat × Nat → Bool} (h : s.ServesAt n) : (s.leaveWork g p).ServesAt n := by
  unfold State.leaveWork
  extract_lets +onlyGivenNames n1
  exact h.updGroup.bumpBy (by simp only [F.LAY_GREB_DONE_DONE]; omega)

theorem drainEnd {g : Nat} (h : s.ServesAt n) : (s.drainEnd g).ServesAt n := by
  unfold State.drainEnd
  exact h.ite (h.foldl fun _ _ ht => ht.changeSlot.raiseLay)

theorem syncHealth {g : Nat} (h : s.ServesAt n) : (s.syncHealth g).ServesAt n := by
  unfold State.syncHealth
  split
  · exact h
  · extract_lets +onlyGivenNames s1 st old s2
    have h1 : s1.ServesAt n := h.drainEnd
    have h2 : s2.ServesAt n := h1.syncGroup
    split
    · exact h2
    · extract_lets +onlyGivenNames s3 s4
      have h3 : s3.ServesAt n := h2.updGroup
      have h4 : s4.ServesAt n := h3.raiseLay.ite h3
      exact h4.noticeAll

theorem freeIfEmpty {g k : Nat} (h : s.ServesAt n) : (s.freeIfEmpty g k).ServesAt n := by
  unfold State.freeIfEmpty
  split
  · split
    · extract_lets +onlyGivenNames s1 s2
      have h1 : s1.ServesAt n := h.updStripe
      have h2 : s2.ServesAt n := h1.emitRec
      exact h2.leaveWork.syncHealth
    · exact h
  · exact h

theorem discardToFree {g k : Nat} (h : s.ServesAt n) : (s.discardToFree g k).ServesAt n := h.updStripe.emitRec

theorem emitCmdDelta {g id : Nat} (h : s.ServesAt n) : (s.emitCmdDelta g id).ServesAt n := by
  unfold State.emitCmdDelta
  split
  · exact h
  · extract_lets +onlyGivenNames mineStripes
    split
    · extract_lets +onlyGivenNames runs
      dsimp -zeta only
      exact h.issueRec.updCmd
    · exact h

theorem ackStripe {g k : Nat} (h : s.ServesAt n) : (s.ackStripe g k).ServesAt n := by
  unfold State.ackStripe
  split
  · exact h
  · extract_lets +onlyGivenNames s1 s2 line s3 moves s4 rel keep s5 s6
    have h1 : s1.ServesAt n := h.updStripe
    have h2 : s2.ServesAt n := h1.foldl fun _ _ ht => ht.emitCmdDelta
    have h3 : s3.ServesAt n := h2.ite h2.emitRec
    have h4 : s4.ServesAt n := by
      unfold s4
      clear_value moves
      split
      · exact h3
      · exact h3.emitRec
    have h5 : s5.ServesAt n := h4.foldl fun _ _ ht => ht.leaveWork
    have h6 : s6.ServesAt n := h5.emitRec
    exact h6.freeIfEmpty.syncGroup

theorem execStripeRelease {group stripe : Nat} (h : s.ServesAt n) : KeepsServing n (execStripeRelease group stripe s) := by
  unfold Machine.execStripeRelease
  refine State.ServesAt.next ?_
  split
  · extract_lets +onlyGivenNames named held
    split
    · extract_lets +onlyGivenNames s1
      have h1 : s1.ServesAt n := h.of_eq
      exact h1.syncGroup.placeWaiting.syncHealth
    · exact h
  · exact h

theorem applyDelta {g seq kind : Nat} {cmd : Option Nat} {runs : List MapRun} {stripes : List Nat} (h : s.ServesAt n) :
    (s.applyDelta g seq kind cmd runs stripes).ServesAt n := by
  unfold State.applyDelta
  extract_lets +onlyGivenNames s1 s2 s3 touched
  have h1 : s1.ServesAt n := h.foldl fun _ _ ht => ht.applyRun
  have h2 : s2.ServesAt n := h1.of_eq
  have h3 : s3.ServesAt n := h2.foldl fun _ _ ht => ht.updStripe
  exact h3.foldl fun _ _ ht => ht.freeIfEmpty

theorem applySeal {g seq : Nat} {i : SealItem} (h : s.ServesAt n) : (s.applySeal g seq i).ServesAt n := by
  unfold State.applySeal
  split
  · exact h.touch
  · exact h.updStripe.touch
  · exact h.touch
  · split
    · split
      · extract_lets +onlyGivenNames slot s1 s2
        have h1 : s1.ServesAt n := h.updStripe
        have h2 : s2.ServesAt n := h1.bump (by simp only [F.LAY_REB_SLABS]; omega)
        exact h2.leaveWork.syncHealth
      · exact h
    · exact h
  · exact h.updStripe

theorem voidFree {id : Nat} (h : s.ServesAt n) : (s.voidFree id).ServesAt n := by
  unfold State.voidFree
  extract_lets +onlyGivenNames hit
  exact h.voidCmd.foldl fun _ _ ht => ht.freeIfEmpty

theorem failWrite {id : Nat} {st : Status} (h : s.ServesAt n) : (s.failWrite id st).ServesAt n := h.voidFree.updCmd.setMet

theorem unstage {id : Nat} (h : s.ServesAt n) : (s.unstage id).ServesAt n := by
  unfold State.unstage
  extract_lets +onlyGivenNames mine
  exact h.of_eq

theorem stageFails {id : Nat} (h : s.ServesAt n) : (s.stageFails id).ServesAt n := by
  unfold State.stageFails
  split
  · exact h
  · split
    · exact h
    · split
      · exact h.ite (((h.bump (roleKey_ne _ _ _)).raiseCmd).failWrite)
      · exact h.unstage.updCmd.startFetch

theorem sealChecked {g k : Nat} {check : ParCheck} (h : s.ServesAt n) : (s.sealChecked g k check).ServesAt n := by
  unfold State.sealChecked
  split
  · exact h.trySeal
  · extract_lets +onlyGivenNames r
    split
    · exact h.trySeal.bump (roleKey_ne _ _ _)
    · exact ((h.trySeal.bump (roleKey_ne _ _ _)).bump (roleKey_ne _ _ _)).countRepair
    · exact ((h.bump (roleKey_ne _ _ _)).bump (roleKey_ne _ _ _)).raise

theorem execStripeSeal {group stripe : Nat} {bad : List Nat} {check : ParCheck} (h : s.ServesAt n) :
    KeepsServing n (execStripeSeal group stripe bad check s) := by
  unfold Machine.execStripeSeal
  refine State.ServesAt.next ?_
  extract_lets +onlyGivenNames mine
  exact ((h.foldl fun _ _ ht => ht.stageFails).sealChecked).placeWaiting

/-! ### Reads -/

theorem regenInPlace {b : BRef} (h : s.ServesAt n) : (s.regenInPlace b).ServesAt n := by
  unfold State.regenInPlace
  split
  · exact h
  · split
    · exact h.updStripe
    · split
      · exact h
      · exact h.of_eq

theorem readsAcked {cid : Nat} (h : s.ServesAt n) : (s.readsAcked cid).ServesAt n := by
  unfold State.readsAcked
  split
  · exact h
  · extract_lets +onlyGivenNames open_ busy
    exact h.foldl fun _ _ ht => ht.setMet

theorem placeRead {c : Cmd} {k : Namespace} (h : s.ServesAt n) : (s.placeRead c k).ServesAt n := by
  unfold State.placeRead
  extract_lets +onlyGivenNames pib data
  split
  · extract_lets +onlyGivenNames s1
    have h1 : s1.ServesAt n := h.updCmd
    exact (h1.foldl fun _ _ ht => ht.transmit).readsAcked
  · exact h.toHost.setMet

theorem readEnd {id : Nat} (h : s.ServesAt n) : (s.readEnd id).ServesAt n := by
  unfold State.readEnd
  split
  · exact h
  · split
    · exact h
    · split
      · exact h
      · split
        · exact (h.bump (roleKey_ne _ _ _)).setMet
        · split
          · exact h.placeRead
          · split
            · extract_lets +onlyGivenNames same
              exact h.setMet
            · exact h.setMet

theorem gotBlock {id i : Nat} {b : Blk} (h : s.ServesAt n) : (s.gotBlock id i b).ServesAt n := h.updCmd.readEnd

theorem lostEvent {g slot : Nat} (h : s.ServesAt n) : (s.lostEvent g slot).ServesAt n := h.raiseOnce

theorem loseBlock {g k slab blk : Nat} (h : s.ServesAt n) : (s.loseBlock g k slab blk).ServesAt n := by
  unfold State.loseBlock
  split
  · exact h
  · split
    · exact h
    · extract_lets +onlyGivenNames first slot s1
      have h1 : s1.ServesAt n := h.updStripe
      exact h1.updGroup.emitRec.lostEvent.ite h1

theorem meetLost {id nsid lba : Nat} {b : Option BRef} (h : s.ServesAt n) : (s.meetLost id nsid lba b).ServesAt n := by
  unfold State.meetLost
  extract_lets +onlyGivenNames s1 s2
  have h1 : s1.ServesAt n := by
    unfold s1
    split
    · exact h.loseBlock
    · exact h.lostEvent
    · exact h
  have h2 : s2.ServesAt n := by
    unfold s2
    split
    · exact h1.ite h1.recordLost
    · exact h1
  split
  · exact h2.setMet.ite h2
  · exact h2

theorem updJob {id : Nat} {f : ReadJob → ReadJob} (h : s.ServesAt n) : (s.updJob id f).ServesAt n := h.of_eq

theorem countRecon {sr : SRef} {k : Nat} (h : s.ServesAt n) : (s.countRecon sr k).ServesAt n := by
  unfold State.countRecon
  exact h.ite (h.bumpBy (roleKey_ne _ _ _))

theorem rewriteBlk {bad : List BRef} {b : BRef} {kind : Nat} (h : s.ServesAt n) : (s.rewriteBlk bad b kind).ServesAt n := by
  unfold State.rewriteBlk
  split
  · exact h.countRecon.regenInPlace.issueM.ite h
  · exact h

theorem repairs {j : ReadJob} {kind : Nat} (h : s.ServesAt n) : (s.repairs j kind).ServesAt n := by
  unfold State.repairs
  exact h.foldl fun _ _ ht => ht.rewriteBlk

theorem endJob {j : ReadJob} (h : s.ServesAt n) : (s.endJob j).ServesAt n := by
  unfold State.endJob
  extract_lets +onlyGivenNames s1 s2 s3
  have h1 : s1.ServesAt n := h.of_eq
  have h2 : s2.ServesAt n := h1.ite h1.countRecon
  have h3 : s3.ServesAt n := h2.abandonM.repairs
  split
  · exact h3
  · split
    · exact h3.gotBlock
    · exact h3

theorem pursue {id : Nat} (h : s.ServesAt n) : (s.pursue id).ServesAt n := by
  unfold State.pursue
  split
  · exact h
  · split
    · exact h.endJob
    · split
      · exact h
      · split
        · extract_lets +onlyGivenNames more s1
          have h1 : s1.ServesAt n := h.updJob
          refine h1.foldl fun a x ha => ?_
          split
          · exact ha.issueM
          · exact ha
        · split
          · exact h
          · extract_lets +onlyGivenNames s1
            have h1 : s1.ServesAt n := h.of_eq
            split
            · exact h1.meetLost
            · exact h1

theorem startRead {id i : Nat} {b : BRef} (h : s.ServesAt n) : (s.startRead id i b).ServesAt n := by
  unfold State.startRead
  extract_lets +onlyGivenNames j job
  exact h.of_eq.pursue

theorem startReads {id : Nat} (h : s.ServesAt n) : (s.startReads id).ServesAt n := by
  unfold State.startReads
  split
  · exact h
  · split
    · exact h
    · extract_lets +onlyGivenNames lbas miss
      split
      · exact h.loadObjs.updCmd
      · extract_lets +onlyGivenNames s1 s2 src
        have h1 : s1.ServesAt n := h.updCmd.lookups
        have h2 : s2.ServesAt n := h1.bumpBy
        refine h2.foldl fun a x ha => ?_
        split
        · exact ha.gotBlock
        · exact ha.meetLost
        · exact ha.startRead

theorem readReturned {id : Nat} {b : BRef} {good : Bool} (h : s.ServesAt n) : (s.readReturned id b good).ServesAt n := by
  unfold State.readReturned
  extract_lets +onlyGivenNames good1 s1
  have h1 : s1.ServesAt n := h.updJob
  exact h1.pursue

theorem rereadFrom {slot : Nat} (h : s.ServesAt n) : (s.rereadFrom slot).ServesAt n := by
  unfold State.rereadFrom
  extract_lets +onlyGivenNames hit s1
  have h1 : s1.ServesAt n := h.foldl fun _ _ ht => ht.updJob
  exact h1.foldl fun _ _ ht => ht.pursue.ite ht

theorem execTailCutDeadline {job : Nat} (h : s.ServesAt n) : KeepsServing n (execTailCutDeadline job s) := by
  unfold Machine.execTailCutDeadline
  refine State.ServesAt.next ?_
  split
  · exact h
  · split
    · exact h
    · extract_lets +onlyGivenNames g spent room late
      split
      · split
        · extract_lets +onlyGivenNames s1 s2
          have h1 : s1.ServesAt n := h.of_eq
          have h2 : s2.ServesAt n := (h1.bump (by simp only [F.LAY_TCUT]; omega)).updJob
          refine h2.foldl fun a x ha => ?_
          split
          · exact ha.issueM
          · exact ha
        · exact h
      · exact h

/-! ### Fixed placement -/

theorem syncRing (h : s.ServesAt n) : s.syncRing.ServesAt n := by
  unfold State.syncRing
  extract_lets +onlyGivenNames s1 fill s2 say
  have hfill : fill.ServesAt n := h.of_eq
  have hay : say.ServesAt n := hfill.wr.wr
  extract_lets +onlyGivenNames say1
  split
  · extract_lets +onlyGivenNames s3
    have h3 : s3.ServesAt n := hay.raise
    exact h3.of_eq
  · exact hay

theorem putRec {r : Rec} {ofs : Nat} (h : s.ServesAt n) : (s.putRec r ofs).ServesAt n := by
  unfold State.putRec
  extract_lets +onlyGivenNames w r' others
  dsimp -zeta only
  extract_lets +onlyGivenNames s1 h1 s2
  have hh1 : h1.ServesAt n := h.of_eq
  extract_lets +onlyGivenNames s3
  have h3 : s3.ServesAt n := hh1.wr
  exact h3.bump.bumpBy

theorem endStall (h : s.ServesAt n) : s.endStall.ServesAt n := by
  unfold State.endStall
  split
  · refine State.ServesAt.bumpBy ?_
    extract_lets +onlyGivenNames s1
    have h1 : s1.ServesAt n := h.wr
    exact h1.of_eq
  · exact h

theorem stall (h : s.ServesAt n) : s.stall.ServesAt n := by
  unfold State.stall
  extract_lets +onlyGivenNames say s1
  have h1 : s1.ServesAt n := h.wr
  extract_lets +onlyGivenNames s2
  extract_lets +onlyGivenNames s3
  have h3 : s3.ServesAt n := h1.of_eq
  split
  · extract_lets +onlyGivenNames s4
    have h4 : s4.ServesAt n := h3.raise
    exact h4.of_eq
  · exact h3

theorem releaseRecs (h : s.ServesAt n) : s.releaseRecs.ServesAt n := by
  unfold State.releaseRecs
  extract_lets +onlyGivenNames pass
  have hpass : ∀ s, s.ServesAt n → (pass s).ServesAt n := by
    intro s ht
    exact ht.of_eq
  exact (hpass _ (hpass _ h)).syncRing

theorem moveTail (h : s.ServesAt n) : s.moveTail.ServesAt n := by
  unfold State.moveTail
  split
  · extract_lets +onlyGivenNames may
    split
    · split
      · extract_lets +onlyGivenNames s1
        have h1 : s1.ServesAt n := h.putRec.bump.syncRing
        split
        · exact h1.mirrorNote
        · exact h1
      · exact h
    · exact h
  · exact h

theorem updFix {id : Nat} {f : FixUpd → FixUpd} (h : s.ServesAt n) : (s.updFix id f).ServesAt n := h.of_eq

theorem addDirty {slot nsid region : Nat} (h : s.ServesAt n) : (s.addDirty slot nsid region).ServesAt n := by
  unfold State.addDirty
  extract_lets +onlyGivenNames s1
  have h1 : s1.ServesAt n := h.updSlot
  exact h1.wr (by simp only [F.LAY_MSTAT_DIRTY]; omega)

theorem sendFixWrite {id : Nat} {b : BRef} (h : s.ServesAt n) : (s.sendFixWrite id b).ServesAt n := by
  unfold State.sendFixWrite
  split
  · exact h.issueM
  · exact h

theorem applyFix {u : FixUpd} (h : s.ServesAt n) : (s.applyFix u).ServesAt n := by
  unfold State.applyFix
  refine h.foldl fun a x ha => ?_
  extract_lets +onlyGivenNames lba
  exact ha.of_eq.clearLost

theorem fixDoneIf {id : Nat} (h : s.ServesAt n) : (s.fixDoneIf id).ServesAt n := by
  unfold State.fixDoneIf
  split
  · exact h
  · split
    · exact h
    · extract_lets +onlyGivenNames s1 s2
      have h1 : s1.ServesAt n := h.applyFix.updFix
      have h2 : s2.ServesAt n := h1.emitRec
      split
      · extract_lets +onlyGivenNames s3
        have h3 : s3.ServesAt n := h2.updCmd
        split
        · exact h3.setMet.ite h3
        · exact h3
      · exact h2.of_eq

theorem fixGo {id : Nat} (h : s.ServesAt n) : (s.fixGo id).ServesAt n := by
  unfold State.fixGo
  split
  · exact h
  · split
    · exact h
    · extract_lets +onlyGivenNames all skip go wait s1 s2
      have h1 : s1.ServesAt n := by
        unfold s1
        refine h.foldl fun a x ha => ?_
        split
        · exact ha.addDirty
        · exact ha
      have h2 : s2.ServesAt n := h1.updFix
      exact (h2.foldl fun _ _ ht => ht.sendFixWrite).fixDoneIf

theorem redoFix {id : Nat} (h : s.ServesAt n) : (s.redoFix id).ServesAt n := by
  unfold State.redoFix
  split
  · exact h
  · split
    · exact h
    · extract_lets +onlyGivenNames t w chk reads s1
      have h1 : s1.ServesAt n := h.updFix.bump
      refine State.ServesAt.fixGo ?_
      refine h1.foldl fun a x ha => ?_
      split
      · exact ha.issueM
      · exact ha

theorem redoInOrder (h : s.ServesAt n) : s.redoInOrder.ServesAt n := by
  unfold State.redoInOrder
  exact h.foldl fun _ _ ht => ht.redoFix

theorem issueIntent {id : Nat} (h : s.ServesAt n) : (s.issueIntent id).ServesAt n := by
  unfold State.issueIntent
  split
  · exact h
  · split
    · exact h
    · extract_lets +onlyGivenNames t absent deg nchk
      dsimp -zeta only
      extract_lets +onlyGivenNames s1 rmw
      have h1 : s1.ServesAt n := by
        unfold s1
        split
        · exact h.issueRec.updCmd
        · exact h.issueRec
      exact h1.updFix.bump.bumpBy (roleKey_ne _ _ _)

theorem beginFix {cmd : Option Nat} {k : Namespace} {slba : Nat} {blocks : List Blk} {zero : Bool} (h : s.ServesAt n) :
    (s.beginFix cmd k slba blocks zero).ServesAt n := by
  unfold State.beginFix
  extract_lets +onlyGivenNames id t srs mineOf reads writes deg u s1 s2 s3
  have h1 : s1.ServesAt n := h.of_eq
  have h2 : s2.ServesAt n := by
    unfold s2
    split
    · exact h1.updCmd
    · exact h1
  have h3 : s3.ServesAt n := by
    unfold s3
    refine h2.foldl fun a x ha => ?_
    split
    · exact ha.issueM
    · exact ha
  exact h3.ite h3.issueIntent

theorem fixReadEnd {id : Nat} {b : BRef} {good : Bool} (h : s.ServesAt n) : (s.fixReadEnd id b good).ServesAt n := by
  unfold State.fixReadEnd
  split
  · exact h
  · extract_lets +onlyGivenNames more s1 s2 s3
    have h1 : s1.ServesAt n := h.ite h.countRecon
    have h2 : s2.ServesAt n := h1.updFix
    have h3 : s3.ServesAt n := by
      unfold s3
      refine h2.foldl fun a x ha => ?_
      split
      · exact ha.issueM
      · exact ha
    split
    · exact h3.issueIntent.ite h3.fixGo
    · exact h3

theorem fixWriteEnd {id : Nat} {b : BRef} (h : s.ServesAt n) : (s.fixWriteEnd id b).ServesAt n := by
  unfold State.fixWriteEnd
  extract_lets +onlyGivenNames seq s1 waiting s2
  have h1 : s1.ServesAt n := h.of_eq
  extract_lets +onlyGivenNames s3
  have h3 : s3.ServesAt n := h1.of_eq
  extract_lets +onlyGivenNames s4
  have h4 : s4.ServesAt n := by
    unfold s4
    split
    · exact h3.sendFixWrite
    · exact h1
  exact h4.foldl fun _ _ ht => ht.fixDoneIf

theorem fixWriteMissed {id slot : Nat} {b : BRef} (h : s.ServesAt n) : (s.fixWriteMissed id slot b).ServesAt n := by
  unfold State.fixWriteMissed
  split
  · exact h.addDirty.updFix.fixWriteEnd
  · exact h

theorem chargeFixRate {nlb : Nat} (h : s.ServesAt n) : (s.chargeFixRate nlb).ServesAt n := h.of_eq

theorem syncDur (h : s.ServesAt n) : s.syncDur.ServesAt n := by
  unfold State.syncDur
  extract_lets +onlyGivenNames open_
  exact h.wr64

theorem recDurable {r : Rec} (h : s.ServesAt n) : (s.recDurable r).ServesAt n := by
  unfold State.recDurable
  extract_lets +onlyGivenNames s1 s2
  have h1 : s1.ServesAt n := h.updRec
  extract_lets +onlyGivenNames s3
  have h3 : s3.ServesAt n := by
    unfold s3
    split
    · extract_lets +onlyGivenNames s4 s5
      have h4 : s4.ServesAt n := h1.applyDelta
      have h5 : s5.ServesAt n := h4.of_eq.ite h4
      split
      · extract_lets +onlyGivenNames s6
        have h6 : s6.ServesAt n := h5.updCmd
        split
        · exact h6.setMet.ite h6
        · exact h6
      · exact h5
    · exact h1.foldl fun _ _ ht => ht.updFix.fixGo
    · exact h1.of_eq
    · exact h1.foldl fun _ _ ht => ht.applySeal
    · exact h1
  exact h3.releaseRecs.syncDur

theorem execTallyRecordWritten (h : s.ServesAt n) : KeepsServing n (execTallyRecordWritten s) := by
  unfold Machine.execTallyRecordWritten
  refine State.ServesAt.next ?_
  extract_lets +onlyGivenNames s1
  have h1 : s1.ServesAt n := h.moveTail
  split
  · exact h1
  · split
    · exact h1.stall
    · extract_lets +onlyGivenNames s2
      have h2 : s2.ServesAt n := h1.endStall.putRec.syncRing
      split
      · extract_lets +onlyGivenNames body
        exact h2.mirror.ite h2.recDurable.mirrorAlso
      · exact h2

theorem execTallyRecordDurable {seq : Nat} (h : s.ServesAt n) : KeepsServing n (execTallyRecordDurable seq s) := by
  unfold Machine.execTallyRecordDurable
  refine State.ServesAt.next ?_
  split
  · exact h.recDurable.ite h
  · exact h

theorem execTallyControlBlockTimer (h : s.ServesAt n) : KeepsServing n (execTallyControlBlockTimer s) := by
  unfold Machine.execTallyControlBlockTimer
  exact (h.of_eq.ite h).next

/-! ### QoS and tallies -/

theorem chargeConn {ctl qid : Nat} {c : Charge} (h : s.ServesAt n) : (s.chargeConn ctl qid c).2.ServesAt n := by
  unfold State.chargeConn
  split
  · split
    · exact h
    · exact h.updQueue
  · exact h

theorem retire {k : Namespace} (h : s.ServesAt n) : (s.retire k).ServesAt n := by
  unfold State.retire
  extract_lets +onlyGivenNames more old
  exact h.of_eq

theorem takeGrant {r g : Nat} {cost : ℚ} (h : s.ServesAt n) : (s.takeGrant r g cost).ServesAt n := h.of_eq

theorem chargeNs {k : Namespace} {r : Nat} {c : Charge} {f : Meter → Meter} (h : s.ServesAt n) : (s.chargeNs k r c f).ServesAt n := by
  unfold State.chargeNs
  extract_lets +onlyGivenNames cost g s1
  have h1 : s1.ServesAt n := h.updNs
  split
  · exact h1
  · extract_lets +onlyGivenNames now s2
    have h2 : s2.ServesAt n := h1.updNs
    exact h2.of_eq.takeGrant

theorem grantGroup {g : Nat} (h : s.ServesAt n) : (s.grantGroup g).ServesAt n := by
  unfold State.grantGroup
  extract_lets +onlyGivenNames cap pct reb recl pat paced floors floorOf given left bl want miss mins rest shares spare deficit gs ts s1
      s2
  have h1 : s1.ServesAt n := h.of_eq
  have h2 : s2.ServesAt n := (h1.bump (by simp only [F.CMD_QOS_GSTAT_MISS]; omega)).ite h1
  exact h2.updGroup

theorem chargeTask {g t cost : Nat} (h : s.ServesAt n) : (s.chargeTask g t cost).ServesAt n := h.of_eq

theorem meterHeld {dt : Nat} (h : s.ServesAt n) : (s.meterHeld dt).ServesAt n := h.of_eq

theorem execGrantPeriod (h : s.ServesAt n) : KeepsServing n (execGrantPeriod s) := by
  unfold Machine.execGrantPeriod
  refine State.ServesAt.next ?_
  split
  · exact h
  · extract_lets +onlyGivenNames s1 s2
    have h1 : s1.ServesAt n := h.meterHeld
    have h2 : s2.ServesAt n := h1.of_eq
    exact h2.foldl fun _ _ ht => ht.grantGroup.syncGroup

theorem saveMeters (h : s.ServesAt n) : s.saveMeters.ServesAt n := h.of_eq

theorem execMeterSaveTimer (h : s.ServesAt n) : KeepsServing n (execMeterSaveTimer s) := by
  unfold Machine.execMeterSaveTimer
  refine State.ServesAt.next ?_
  split
  · extract_lets +onlyGivenNames s1
    have h1 : s1.ServesAt n := h.saveMeters
    exact h1.of_eq
  · exact h

theorem qosRestart (h : s.ServesAt n) : s.qosRestart.ServesAt n := by
  unfold State.qosRestart
  extract_lets +onlyGivenNames t tats
  exact h.of_eq

theorem writeQosCfg {bench : Nat} {v : Word} (h : s.ServesAt n) : (s.writeQosCfg bench v).ServesAt n := by
  unfold State.writeQosCfg
  extract_lets +onlyGivenNames was s1
  have h1 : s1.ServesAt n := h.writeRegW
  exact h1.qosRestart.ite h1

theorem execCmdQosCfgWrite {v : Word} (h : s.ServesAt n) : KeepsServing n (execCmdQosCfgWrite v s) := h.writeQosCfg.next

theorem execCmdQosGcapWrite {g : Fin 8} {v : Word} (h : s.ServesAt n) : KeepsServing n (execCmdQosGcapWrite g v s) := h.writeRegW.next

/-! ### Cache -/

theorem updLine {nsid lba : Nat} {f : Line → Line} (h : s.ServesAt n) : (s.updLine nsid lba f).ServesAt n := h.of_eq

theorem memNotice {loc sev code data : Nat} (h : s.ServesAt n) : (s.memNotice loc sev code data).ServesAt n := h.raiseOnce

theorem syncCache (h : s.ServesAt n) : s.syncCache.ServesAt n := by
  unfold State.syncCache
  extract_lets +onlyGivenNames lim s1 s2
  have h1 : s1.ServesAt n := h.wr
  have h2 : s2.ServesAt n := h1.wr
  exact h2.wr.ite h2

theorem dropLine {nsid lba : Nat} (h : s.ServesAt n) : (s.dropLine nsid lba).ServesAt n := by
  unfold State.dropLine
  extract_lets +onlyGivenNames s1
  have h1 : s1.ServesAt n := h.of_eq
  exact h1.ite h1.of_eq

theorem mapNeeds {f : List Need → List Need} (h : s.ServesAt n) : (s.mapNeeds f).ServesAt n := h.of_eq

theorem needsMet {nsid lba ver : Nat} (h : s.ServesAt n) : (s.needsMet nsid lba ver).ServesAt n := h.mapNeeds

theorem needsMerged {nsid lba op ver : Nat} (h : s.ServesAt n) : (s.needsMerged nsid lba op ver).ServesAt n := h.mapNeeds

theorem loseLine {nsid lba : Nat} (h : s.ServesAt n) : (s.loseLine nsid lba).ServesAt n := by
  unfold State.loseLine
  extract_lets +onlyGivenNames mine s1 s2
  have h1 : s1.ServesAt n := h.recordLost.dropLine
  have h2 : s2.ServesAt n := h1.of_eq
  exact h2.mapNeeds

theorem writeBack {nsid lba : Nat} (h : s.ServesAt n) : (s.writeBack nsid lba).ServesAt n := by
  unfold State.writeBack
  split
  · split
    · exact h
    · extract_lets +onlyGivenNames b took queue
      have htook : ∀ s, s.ServesAt n → (took s).ServesAt n := by
        intro s ht
        exact ht.bump.updLine
      have hqueue : ∀ s, s.ServesAt n → (queue s).ServesAt n := by
        intro s ht
        exact ht.updLine
      split
      · split
        · exact h.loseLine
        · exact (htook _ h.chargeFixRate.beginFix).ite (hqueue _ h)
      · extract_lets +onlyGivenNames g
        split
        · exact hqueue _ h
        · split
          · rename_i t x heq
            have ht : t.ServesAt n := h.place.of_fst heq
            exact htook _ ht
          · rename_i t heq
            have ht : t.ServesAt n := h.place.of_fst heq
            exact hqueue _ ht
  · exact h

theorem drainDirty (h : s.ServesAt n) : s.drainDirty.ServesAt n := by
  unfold State.drainDirty
  extract_lets +onlyGivenNames over90
  exact (h.foldl fun _ _ ht => ht.writeBack).ite h

theorem ageSet {nsid sec : Nat} (h : s.ServesAt n) : (s.ageSet nsid sec).ServesAt n := by
  unfold State.ageSet
  extract_lets +onlyGivenNames k
  exact h.of_eq

theorem freeEvicted (h : s.ServesAt n) : s.freeEvicted.ServesAt n := by
  unfold State.freeEvicted
  exact h.foldl fun _ _ ht => ht.of_eq.ite ht

theorem allocLine {nsid lba : Nat} (h : s.ServesAt n) : (s.allocLine nsid lba).1.ServesAt n := by
  unfold State.allocLine
  extract_lets +onlyGivenNames sec fresh addLine addSec
  have haddLine : ∀ s, s.ServesAt n → (addLine s).ServesAt n := by
    intro s ht
    exact ht.ite ht.of_eq
  have haddSec : ∀ s, s.ServesAt n → (addSec s).ServesAt n := by
    intro s ht
    exact haddLine _ ht.of_eq
  split
  · split
    · exact h
    · exact (haddLine _ h).ageSet
  · extract_lets +onlyGivenNames k inSet
    split
    · exact (haddSec _ h).ageSet
    · extract_lets +onlyGivenNames clean
      split
      · extract_lets +onlyGivenNames s1
        have h1 : s1.ServesAt n := h.of_eq
        exact (haddSec _ h1.bump).ageSet
      · split
        · extract_lets +onlyGivenNames s1 dirty
          have h1 : s1.ServesAt n := h.bump
          have hdirty : dirty.ServesAt n := h1.of_eq
          extract_lets +onlyGivenNames dirty1
          exact (hdirty.foldl fun _ _ ht => ht.writeBack).freeEvicted
        · exact h

theorem startFill {nsid lba : Nat} (h : s.ServesAt n) : (s.startFill nsid lba).ServesAt n := by
  unfold State.startFill
  split
  · exact h.ite h.bump.updLine
  · split
    · rename_i t heq
      have ht : t.ServesAt n := h.allocLine.of_fst heq
      exact ht.bump.updLine
    · rename_i t heq
      have ht : t.ServesAt n := h.allocLine.of_fst heq
      exact ht

theorem updOp {id : Nat} {f : WinOp → WinOp} (h : s.ServesAt n) : (s.updOp id f).ServesAt n := h.of_eq

theorem dirtyLine {nsid lba data dur : Nat} (h : s.ServesAt n) : (s.dirtyLine nsid lba data dur).ServesAt n := by
  unfold State.dirtyLine
  extract_lets +onlyGivenNames now_ v s1 s2 s3
  have h1 : s1.ServesAt n := h.of_eq
  have h2 : s2.ServesAt n := h1.updLine
  have h3 : s3.ServesAt n := h2.syncCache.drainDirty
  exact h3.writeBack.ite h3

theorem takeMsg {cid : Nat} (h : s.ServesAt n) : (s.takeMsg cid).2.ServesAt n := by
  unfold State.takeMsg
  split
  · exact h.setConn
  · exact h

theorem storeAtomic {cid msg v resp : Nat} (h : s.ServesAt n) : (s.storeAtomic cid msg v resp).ServesAt n := by
  unfold State.storeAtomic
  split
  · exact h.setConn
  · exact h

theorem replyAtomic {id : Nat} (h : s.ServesAt n) : (s.replyAtomic id).ServesAt n := by
  unfold State.replyAtomic
  split
  · exact h
  · split
    · exact h
    · extract_lets +onlyGivenNames v
      split
      · dsimp -zeta only
        extract_lets +onlyGivenNames s1
        have h1 : s1.ServesAt n := by
          unfold s1
          refine State.ServesAt.transmitAs ?_
          refine State.ServesAt.storeAtomic ?_
          split
          · exact h
          · exact h.takeMsg
        split
        · exact h1.settleMsg
        · exact h1
      · exact h.storeAtomic.roceAnswer

theorem commitReply {o : WinOp} (h : s.ServesAt n) : (s.commitReply o).ServesAt n := by
  unfold State.commitReply
  split
  · dsimp -zeta only
    extract_lets +onlyGivenNames s1
    have h1 : s1.ServesAt n := h.commitMsg.storeAtomic.updOp
    split
    · exact h1.mirror
    · exact h1
  · exact h.replyAtomic

theorem answerOp {o : WinOp} {data : Nat} (h : s.ServesAt n) : (s.answerOp o data).ServesAt n := by
  unfold State.answerOp
  extract_lets +onlyGivenNames s1
  have h1 : s1.ServesAt n := h.updOp
  split
  · exact h1
  · split
    · exact h1.transmit
    · exact h1.roceAnswer
    · exact h1.settleMsg
    · exact h1.roceAnswer
    · exact h1.commitReply
    · exact h1.settleMsg
    · exact h1.replyAtomic

theorem retireOp {id : Nat} (h : s.ServesAt n) : (s.retireOp id).ServesAt n := by
  unfold State.retireOp
  split
  · extract_lets +onlyGivenNames waits
    exact h.of_eq.ite h
  · exact h

theorem tryAckOp {id : Nat} (h : s.ServesAt n) : (s.tryAckOp id).ServesAt n := by
  unfold State.tryAckOp
  split
  · exact (h.answerOp.ite h).retireOp
  · exact h

theorem mergeOp {id : Nat} (h : s.ServesAt n) : (s.mergeOp id).ServesAt n := by
  unfold State.mergeOp
  split
  · exact h
  · refine h.foldl fun a x ha => ?_
    extract_lets +onlyGivenNames earlier
    split
    · exact ha
    · extract_lets +onlyGivenNames full ready sr s1
      have hsr : sr.1.ServesAt n := by
        unfold sr
        split
        · exact ha
        · split
          · split
            · exact ha
            · exact ha.allocLine
          · exact ha.startFill
      have h1 : s1.ServesAt n := hsr
      split
      · exact h1
      · extract_lets +onlyGivenNames old s2 v s3
        have h2 : s2.ServesAt n := h1.of_eq
        have h3 : s3.ServesAt n := h2.needsMerged.updOp
        exact h3.dirtyLine

theorem dirtyRoom {bs : List (Nat × Nat)} (h : s.ServesAt n) : (s.dirtyRoom bs).1.ServesAt n := by
  unfold State.dirtyRoom
  extract_lets +onlyGivenNames new
  split
  · exact h
  · exact h.wr.memNotice

theorem applyAtomic {o : WinOp} {l : Line} (h : s.ServesAt n) : (s.applyAtomic o l).ServesAt n := by
  unfold State.applyAtomic
  extract_lets +onlyGivenNames old new s1 s2 s3
  have h1 : s1.ServesAt n := h.bumpBy.updOp
  have h2 : s2.ServesAt n := h1.updOp
  have h3 : s3.ServesAt n := h1.ite h2.dirtyLine
  extract_lets +onlyGivenNames s4
  have h4 : s4.ServesAt n := by
    unfold s4
    split
    · exact h3.replyAtomic.ite h3
    · exact h3
  exact h4.tryAckOp

theorem claimAtomic {o : WinOp} {l : Line} (h : s.ServesAt n) : (s.claimAtomic o l).ServesAt n := by
  unfold State.claimAtomic
  extract_lets +onlyGivenNames old new ofs nrt
  dsimp -zeta only
  extract_lets +onlyGivenNames s1 s2 s3 p
  have h1 : s1.ServesAt n := by
    unfold s1
    refine State.ServesAt.storeAtomic ?_
    split
    · exact h.takeMsg
    · exact h
  have h2 : s2.ServesAt n := by
    unfold s2
    split
    · exact h1.setConn
    · exact h1
  have h3 : s3.ServesAt n := h2.mirrorConn.updOp
  exact h3.mirror

theorem stepWrite {o : WinOp} (h : s.ServesAt n) : (s.stepWrite o).ServesAt n := by
  unfold State.stepWrite
  split
  · exact h.mergeOp.tryAckOp
  · split
    · exact h
    · split
      · rename_i t heq
        have ht : t.ServesAt n := h.dirtyRoom.of_fst heq
        exact ht
      · rename_i t heq
        have ht : t.ServesAt n := h.dirtyRoom.of_fst heq
        extract_lets +onlyGivenNames mine s1
        have h1 : s1.ServesAt n := ht.of_eq
        exact h1.updOp.mergeOp.tryAckOp

theorem stepRead {o : WinOp} (h : s.ServesAt n) : (s.stepRead o).ServesAt n := by
  unfold State.stepRead
  extract_lets +onlyGivenNames bs
  split
  · exact h
  · extract_lets +onlyGivenNames miss
    split
    · exact (h.foldl fun _ _ ht => ht.startFill).updOp
    · split
      · exact h
      · extract_lets +onlyGivenNames all data
        exact h.bumpBy.answerOp.retireOp

theorem stepAtomic {o : WinOp} (h : s.ServesAt n) : (s.stepAtomic o).ServesAt n := by
  unfold State.stepAtomic
  split
  · exact h.tryAckOp
  · split
    · exact h
    · extract_lets +onlyGivenNames waits
      split
      · exact h
      · split
        · exact h.startFill.updOp
        · split
          · exact h.applyAtomic
          · split
            · rename_i t heq
              have ht : t.ServesAt n := h.dirtyRoom.of_fst heq
              exact ht
            · rename_i t heq
              have ht : t.ServesAt n := h.dirtyRoom.of_fst heq
              exact ht.claimAtomic.ite ht.applyAtomic

theorem stepOp {id : Nat} (h : s.ServesAt n) : (s.stepOp id).ServesAt n := by
  unfold State.stepOp
  split
  · exact h
  · split
    · exact h
    · exact h.stepWrite
    · exact h.stepRead
    · exact h.stepAtomic
    · exact h.stepAtomic

theorem winProgress (h : s.ServesAt n) : s.winProgress.ServesAt n := by
  unfold State.winProgress
  exact h.syncCache.foldl fun _ _ ht => ht.stepOp

/-! ### I/O commands -/

theorem inflightCheck {v : NvmeCmd} {was : Bool} (h : s.ServesAt n) : (s.inflightCheck v was).ServesAt n := by
  unfold State.inflightCheck
  exact h.bumpCmd.raiseOnce.ite h

theorem accept {v : NvmeCmd} (h : s.ServesAt n) : (s.accept v).2.ServesAt n := by
  unfold State.accept
  split
  · extract_lets +onlyGivenNames s1
    have h1 : s1.ServesAt n := h.bumpCmd.updCtrl
    split
    · exact h1.bumpCmd
    · extract_lets +onlyGivenNames id inCap c s2 was s3 s4
      have h2 : s2.ServesAt n := h1.of_eq
      have h3 : s3.ServesAt n := h2.syncCmds.inflightCheck
      have h4 : s4.ServesAt n := h3.bumpCmd.ite h3
      exact h4
  · exact h

theorem stampCmd {id : Nat} (h : s.ServesAt n) : (s.stampCmd id).ServesAt n := by
  unfold State.stampCmd
  split
  · exact h
  · split
    · exact h
    · dsimp -zeta only
      exact h.chargeConn.updCmd

theorem reportLost {nsid i : Nat} (h : s.ServesAt n) : (s.reportLost nsid i).ServesAt n := h.updNs.mirrorNs

theorem refuseIo {c : Cmd} {st : Status} (h : s.ServesAt n) : (s.refuseIo c st).ServesAt n := by
  unfold State.refuseIo
  extract_lets +onlyGivenNames i s1
  have h1 : s1.ServesAt n := by
    unfold s1
    split
    · exact (h.foldl fun _ _ ht => ht.reportLost).bumpCmd
    · split
      · exact h.bumpCmd
      · split
        · split
          · exact h.raiseOnce.ite h
          · exact h
        · exact h
  exact h1.finish

theorem deliverIo {v : NvmeCmd} (h : s.ServesAt n) : (s.deliverIo v).ServesAt n := by
  unfold State.deliverIo
  extract_lets +onlyGivenNames full
  split
  · rename_i t heq
    have ht : t.ServesAt n := h.accept.of_snd heq
    exact ht
  · rename_i t heq
    have ht : t.ServesAt n := h.accept.of_snd heq
    split
    · exact ht.finish
    · split
      · exact ht.finish
      · split
        · split
          · exact ht.refuseIo
          · exact ht
        · exact ht.stampCmd

theorem dataArrived {id data : Nat} (h : s.ServesAt n) : (s.dataArrived id data).ServesAt n := by
  unfold State.dataArrived
  split
  · exact h
  · split
    · exact h
    · extract_lets +onlyGivenNames pib raw gen blks s1
      have h1 : s1.ServesAt n := h.updCmd
      split
      · exact h1.readEnd
      · split
        · exact ((h1.bump (roleKey_ne _ _ _)).raiseCmd).failWrite
        · exact h1.ite h1.stageCmd

theorem pieceArrived {id ofs len data : Nat} (h : s.ServesAt n) : (s.pieceArrived id ofs len data).ServesAt n := by
  unfold State.pieceArrived
  split
  · exact h
  · split
    · exact h
    · extract_lets +onlyGivenNames pieces
      exact h.updCmd.ite h.dataArrived

theorem beginCmd {c : Cmd} (h : s.ServesAt n) : (s.beginCmd c).ServesAt n := by
  unfold State.beginCmd
  extract_lets +onlyGivenNames v s1
  have h1 : s1.ServesAt n := h.updCmd
  split
  · extract_lets +onlyGivenNames nss mine ls s2
    have h2 : s2.ServesAt n := h1.updCmd
    exact (h2.foldl fun _ _ ht => ht.writeBack).syncCmds
  · extract_lets +onlyGivenNames s2
    extract_lets +onlyGivenNames s3
    extract_lets +onlyGivenNames s4
    have h4 : s4.ServesAt n := h1.updCmd
    extract_lets +onlyGivenNames s5
    extract_lets +onlyGivenNames s6
    have h6 : s6.ServesAt n := h1.updCmd
    extract_lets +onlyGivenNames s7
    have h7 : s7.ServesAt n := h6.foldl fun _ _ ht => ht.writeBack
    extract_lets +onlyGivenNames s8
    have h8 : s8.ServesAt n := h7.ite h7.updCmd.placeCmd
    extract_lets +onlyGivenNames s9
    have h9 : s9.ServesAt n := by
      unfold s9
      split
      · exact h4.foldl fun _ _ ht => ht.writeBack
      · split
        · exact h1.setMet
        · split
          · exact h1.setMet
          · split
            · split
              · split
                · exact h8.dataArrived
                · exact h8.startFetch
              · exact h7
            · split
              · split
                · exact h1.dataArrived
                · exact h1.startFetch
              · exact h1
    exact h9.syncCmds

theorem mirrorAdmission {id : Nat} (h : s.ServesAt n) : (s.mirrorAdmission id).ServesAt n := by
  unfold State.mirrorAdmission
  split
  · exact h
  · split
    · exact h.mirrorNote
    · exact h

theorem admitCmd {c : Cmd} (h : s.ServesAt n) : (s.admitCmd c).ServesAt n := by
  unfold State.admitCmd
  split
  · exact h.beginCmd
  · extract_lets +onlyGivenNames ch
    exact h.chargeNs.beginCmd.mirrorAdmission

theorem invalidate {nsid : Nat} {rs : List (Nat × Nat)} (h : s.ServesAt n) : (s.invalidate nsid rs).ServesAt n := by
  unfold State.invalidate
  exact h.foldl fun _ _ ht => ht.dropLine

theorem surveyUpdate {c : Cmd} {k : Namespace} {e : Option Entry} (h : s.ServesAt n) : (s.surveyUpdate c k e).ServesAt n := by
  unfold State.surveyUpdate
  extract_lets +onlyGivenNames rs runs g s1
  have h1 : s1.ServesAt n := h.of_eq
  dsimp -zeta only
  exact h1.issueRec.updCmd

theorem dispatchFixed {c : Cmd} {k : Namespace} {blks : List Blk} {zero : Bool} (h : s.ServesAt n) :
    (s.dispatchFixed c k blks zero).ServesAt n := by
  unfold State.dispatchFixed
  split
  · exact h
  · split
    · exact h.setMet
    · split
      · exact h
      · extract_lets +onlyGivenNames s1
        have h1 : s1.ServesAt n := h.chargeFixRate.invalidate
        exact h1.foldl fun _ _ ht => ht.beginFix

theorem dispatchLog {c : Cmd} (h : s.ServesAt n) : (s.dispatchLog c).ServesAt n := by
  unfold State.dispatchLog
  extract_lets +onlyGivenNames s1
  have h1 : s1.ServesAt n := h.placeCmd
  exact h1.invalidate.stageCmd.updCmd.ite h1

theorem dispatch {c : Cmd} {k : Namespace} {dataOk : Bool} (h : s.ServesAt n) : (s.dispatch c k dataOk).ServesAt n := by
  unfold State.dispatch
  extract_lets +onlyGivenNames v rs
  split
  · exact h
  · split
    · exact h
    · split
      · split
        · exact h
        · exact h.stageFails.ite ((h.ite h.dispatchFixed).ite h.dispatchLog)
      · split
        · exact (h.ite h.dispatchFixed).ite h.invalidate.surveyUpdate
        · split
          · exact h.invalidate.surveyUpdate
          · exact (h.bump.ite (h.ite h.updCmd.startReads)).ite h

theorem execCommandDispatch {id : Nat} {dataOk : Bool} (h : s.ServesAt n) : KeepsServing n (execCommandDispatch id dataOk s) := by
  unfold Machine.execCommandDispatch
  refine State.ServesAt.next ?_
  split
  · exact h
  · split
    · exact h
    · split
      · exact h.dispatch
      · exact h

theorem flushMet {id : Nat} (h : s.ServesAt n) : (s.flushMet id).ServesAt n := by
  unfold State.flushMet
  split
  · exact h
  · extract_lets +onlyGivenNames open_
    exact h.setMet.ite h

theorem execMemberWaitNotice {id : Nat} (h : s.ServesAt n) : KeepsServing n (execMemberWaitNotice id s) := by
  unfold Machine.execMemberWaitNotice
  refine State.ServesAt.next ?_
  split
  · exact h.updCmd.raiseCmd.ite h
  · exact h

theorem dropCmd {c : Cmd} (h : s.ServesAt n) : (s.dropCmd c).ServesAt n := by
  unfold State.dropCmd
  extract_lets +onlyGivenNames admitted bytes s1 jobs upds s2 s3
  have h1 : s1.ServesAt n := h.updNs.ite h
  have h2 : s2.ServesAt n := h1.of_eq.ite h1
  have h3 : s3.ServesAt n := h2.mirrorNote.voidFree.epDropFetch.abandonM
  exact h3.of_eq.syncCmds

theorem discard {c : Cmd} (h : s.ServesAt n) : (s.discard c).ServesAt n := h.bumpCmd.dropCmd

theorem applyReset {p : Cmd → Bool} (h : s.ServesAt n) : (s.applyReset p).2.ServesAt n := by
  unfold State.applyReset
  extract_lets +onlyGivenNames hit gone s1
  have h1 : s1.ServesAt n := h.foldl fun _ _ ht => ht.discard
  exact h1.of_eq

theorem loseCmd {c : Cmd} (h : s.ServesAt n) : (s.loseCmd c).ServesAt n := h.applyReset

theorem dropWindowOps {cid : Nat} (h : s.ServesAt n) : (s.dropWindowOps cid).ServesAt n := by
  unfold State.dropWindowOps
  extract_lets +onlyGivenNames keep
  exact h.of_eq

theorem closeConn {cid : Nat} (h : s.ServesAt n) : (s.closeConn cid).ServesAt n := by
  unfold State.closeConn
  split
  · exact h
  · extract_lets +onlyGivenNames s1 off
    have h1 : s1.ServesAt n := h.dropWindowOps
    split
    · exact h1.ite h1.nrtBare.setConn
    · exact h1.send.setConn

theorem resetCtrl {idx : Nat} (h : s.ServesAt n) : (s.resetCtrl idx).ServesAt n := by
  unfold State.resetCtrl
  split
  · exact h
  · dsimp -zeta only
    extract_lets +onlyGivenNames s1 s2
    have h1 : s1.ServesAt n := h.applyReset.raiseCmd
    have h2 : s2.ServesAt n := h1.foldl fun _ _ ht => ht.closeConn
    split
    · extract_lets +onlyGivenNames s3
      have h3 : s3.ServesAt n := by
        unfold s3
        split
        · exact h2.updEpf
        · exact h2
      exact h3.updCtrl
    · extract_lets +onlyGivenNames s3
      have h3 : s3.ServesAt n := h2.mirrorNote
      exact h3.of_eq

theorem queueDown {ctl qid : Nat} (h : s.ServesAt n) : (s.queueDown ctl qid).ServesAt n := by
  unfold State.queueDown
  split
  · exact h.resetCtrl
  · dsimp -zeta only
    exact h.applyReset.updCtrl

theorem connDown {c : Conn} (h : s.ServesAt n) : (s.connDown c).ServesAt n := by
  unfold State.connDown
  extract_lets +onlyGivenNames s1
  have h1 : s1.ServesAt n := h.dropWindowOps
  split
  · exact h1.queueDown
  · exact h1

theorem execKeepAliveExpiry {ctl : Nat} (h : s.ServesAt n) : KeepsServing n (execKeepAliveExpiry ctl s) := by
  unfold Machine.execKeepAliveExpiry
  refine State.ServesAt.next ?_
  split
  · exact h.resetCtrl.ite h
  · exact h

theorem execShutdownComplete {ctl : Nat} (h : s.ServesAt n) : KeepsServing n (execShutdownComplete ctl s) := by
  unfold Machine.execShutdownComplete
  refine State.ServesAt.next ?_
  split
  · exact h.updCtrl.raiseCmd.ite h
  · exact h

theorem execNvmeFlush {v : NvmeCmd} (h : s.ServesAt n) : KeepsServing n (execNvmeFlush v s) := h.deliverIo.next

theorem execNvmeWrite {v : NvmeCmd} (h : s.ServesAt n) : KeepsServing n (execNvmeWrite v s) := h.deliverIo.next

theorem execNvmeRead {v : NvmeCmd} (h : s.ServesAt n) : KeepsServing n (execNvmeRead v s) := h.deliverIo.next

theorem execNvmeCompare {v : NvmeCmd} (h : s.ServesAt n) : KeepsServing n (execNvmeCompare v s) := h.deliverIo.next

theorem execNvmeWriteZeroes {v : NvmeCmd} (h : s.ServesAt n) : KeepsServing n (execNvmeWriteZeroes v s) := h.deliverIo.next

theorem execNvmeDatasetManagement {v : NvmeCmd} (h : s.ServesAt n) : KeepsServing n (execNvmeDatasetManagement v s) := h.deliverIo.next

theorem execNvmeVerify {v : NvmeCmd} (h : s.ServesAt n) : KeepsServing n (execNvmeVerify v s) := h.deliverIo.next

/-! ### Windows and memory -/

theorem adminIf {v : NvmeCmd} {known : Bool} {k : Cmd → State → State} (h : s.ServesAt n)
    (hk : ∀ (a : Cmd) (a_1 : State), a_1.ServesAt n → (k a a_1).ServesAt n) : (s.adminIf v known k).ServesAt n := by
  unfold State.adminIf
  extract_lets +onlyGivenNames full
  split
  · rename_i t heq
    have ht : t.ServesAt n := h.accept.of_snd heq
    exact ht
  · rename_i t heq
    have ht : t.ServesAt n := h.accept.of_snd heq
    split
    · exact ht
    · split
      · exact ht.finish
      · split
        · exact ht.finish
        · split
          · exact ht.finish
          · split
            · exact ht.finish
            · split
              · exact ht.finish
              · exact ht.finish.ite (hk _ _ ht)

theorem admin {v : NvmeCmd} {k : Cmd → State → State} (h : s.ServesAt n)
    (hk : ∀ (a : Cmd) (a_1 : State), a_1.ServesAt n → (k a a_1).ServesAt n) : (s.admin v k).ServesAt n := by
  unfold State.admin
  exact h.adminIf fun _ _ ht => hk _ _ ht

theorem hostBuf {c : Cmd} {len data : Nat} (h : s.ServesAt n) : (s.hostBuf c len data).ServesAt n := h.toHost

theorem updWindow {i : Nat} {f : Window → Window} (h : s.ServesAt n) : (s.updWindow i f).ServesAt n := h.of_eq

theorem keyFail {c : Conn} {key check : Nat} (h : s.ServesAt n) : (s.keyFail c key check).ServesAt n := by
  unfold State.keyFail
  extract_lets +onlyGivenNames r f
  have hf : (f r).key ≠ 0x20100C := by
    unfold f
    split
    all_goals exact roleKey_ne _ _ _
  exact ((((h.bump hf).wr (roleKey_ne _ _ _)).wr (roleKey_ne _ _ _)).wr (roleKey_ne _ _ _)).wr (roleKey_ne _ _ _)

theorem deliverWindow {c : Conn} {msg key addr len : Nat} {k : WinKind} {ord : Bool} (h : s.ServesAt n) :
    (s.deliverWindow c msg key addr len k ord).ServesAt n := by
  unfold State.deliverWindow
  split
  · exact h
  · split
    · exact h
    · extract_lets +onlyGivenNames byte ch
      dsimp -zeta only
      extract_lets +onlyGivenNames tn s1 id waits op s2 s3 s4
      have h1 : s1.ServesAt n := by
        unfold s1
        refine State.ServesAt.chargeNs ?_
        split
        · exact h.chargeConn
        · exact h
      have h2 : s2.ServesAt n := h1.of_eq
      have h4 : s4.ServesAt n := by
        unfold s4
        split
        · exact h2.mirror.ite h2.mirrorAlso
        · exact h2
      extract_lets +onlyGivenNames s5
      have h5 : s5.ServesAt n := h4.bump.ite h4
      split
      · extract_lets +onlyGivenNames ls s6
        have h6 : s6.ServesAt n := h5.updOp
        exact h6.foldl fun _ _ ht => ht.writeBack
      · exact h5.stepOp

theorem execWindowCeilingEligible {op : Nat} (h : s.ServesAt n) : KeepsServing n (execWindowCeilingEligible op s) := by
  unfold Machine.execWindowCeilingEligible
  refine State.ServesAt.next ?_
  split
  · exact h.stepOp.ite h
  · exact h

theorem execWindowCommitDone {op : Nat} (h : s.ServesAt n) : KeepsServing n (execWindowCommitDone op s) := by
  unfold Machine.execWindowCommitDone
  refine State.ServesAt.next ?_
  split
  · split
    · exact h.answerOp.retireOp.ite h
    · exact h
  · exact h

theorem execWindowWritebackTimer {nsid lba : Nat} (h : s.ServesAt n) : KeepsServing n (execWindowWritebackTimer nsid lba s) := by
  unfold Machine.execWindowWritebackTimer
  refine State.ServesAt.next ?_
  split
  · exact h.writeBack.ite h
  · exact h

theorem revokeNow {i : Nat} {cmd : Option Nat} (h : s.ServesAt n) : (s.revokeNow i cmd).ServesAt n := by
  unfold State.revokeNow
  split
  · exact h
  · split
    · split
      · exact h.updWindow
      · exact h
      · exact h.finish
      · exact h.updWindow.ite h
    · extract_lets +onlyGivenNames s1 cut s2 commit dirty s3
      have h1 : s1.ServesAt n := h.updWindow
      have h2 : s2.ServesAt n := h1.of_eq
      have h3 : s3.ServesAt n := by
        unfold s3
        split
        · exact h2.updCmd
        · exact h2
      exact (h3.foldl fun _ _ ht => ht.writeBack).syncCache

theorem revoke {i : Nat} {cmd : Option Nat} (h : s.ServesAt n) : (s.revoke i cmd).ServesAt n := by
  unfold State.revoke
  split
  · exact h
  · extract_lets +onlyGivenNames body
    exact h.mirror.ite h.revokeNow.mirrorAlso

theorem revokeWhere {p : Window → Bool} (h : s.ServesAt n) : (s.revokeWhere p).ServesAt n := by
  unfold State.revokeWhere
  exact h.foldl fun _ _ ht => ht.revoke

theorem execSetFeaturesWindowPublish {v : NvmeCmd} (h : s.ServesAt n) : KeepsServing n (execSetFeaturesWindowPublish v s) := by
  unfold Machine.execSetFeaturesWindowPublish
  refine State.ServesAt.next ?_
  refine h.admin fun c1 t ht => ?_
  extract_lets +onlyGivenNames i w
  split
  · exact ht.finish
  · split
    · exact ht.finish
    · extract_lets +onlyGivenNames rest
      split
      · exact ht.finish
      · split
        · exact ht.finish
        · split
          · exact ht.finish
          · extract_lets +onlyGivenNames x old tag w1 s1 body
            have h1 : s1.ServesAt n := ht.of_eq
            exact h1.mirror.ite h1.finish.mirrorAlso

theorem execSetFeaturesWindowRevoke {v : NvmeCmd} (h : s.ServesAt n) : KeepsServing n (execSetFeaturesWindowRevoke v s) := by
  unfold Machine.execSetFeaturesWindowRevoke
  refine State.ServesAt.next ?_
  refine h.admin fun c1 t ht => ?_
  extract_lets +onlyGivenNames key
  split
  · exact ht.finish
  · split
    · exact ht.finish
    · split
      · exact (ht.revoke.ite ht.finish).ite ht.finish
      · exact ht.finish

theorem execGetFeaturesWindow {v : NvmeCmd} (h : s.ServesAt n) : KeepsServing n (execGetFeaturesWindow v s) := by
  unfold Machine.execGetFeaturesWindow
  refine State.ServesAt.next ?_
  refine h.admin fun c1 t ht => ?_
  split
  · exact ht.hostBuf.finish.ite ht.finish
  · exact ht.finish

theorem execWindowRevokeComplete {index : Nat} (h : s.ServesAt n) : KeepsServing n (execWindowRevokeComplete index s) := by
  unfold Machine.execWindowRevokeComplete
  refine State.ServesAt.next ?_
  split
  · exact h
  · split
    · exact h
    · extract_lets +onlyGivenNames reading writing
      split
      · exact h
      · extract_lets +onlyGivenNames s1
        have h1 : s1.ServesAt n := h.updWindow
        exact h1.foldl fun _ _ ht => ht.finish

theorem failReads {nsid lba : Nat} (h : s.ServesAt n) : (s.failReads nsid lba).ServesAt n := by
  unfold State.failReads
  extract_lets +onlyGivenNames hit
  refine h.foldl fun a x ha => ?_
  split
  · exact ha
  · extract_lets +onlyGivenNames s1
    have h1 : s1.ServesAt n := ha.of_eq
    split
    · split
      · exact h1.closeConn.queueDown
      · exact h1.closeConn
    · exact h1.roceSend.setConn.connDown

theorem lineLost {nsid lba : Nat} (h : s.ServesAt n) : (s.lineLost nsid lba).ServesAt n := by
  unfold State.lineLost
  exact h.loseLine.raise.failReads.ite h

theorem frameFail {pa : Nat} {twice : Bool} (h : s.ServesAt n) : (s.frameFail pa twice).ServesAt n := by
  unfold State.frameFail
  extract_lets +onlyGivenNames fr ch s1 again s2 recent
  have h1 : s1.ServesAt n := h.of_eq
  have h2 : s2.ServesAt n := (h1.of_eq.bump.raise.ite h1.memNotice).ite h1
  exact h2.raise.controllerFault.ite h2

theorem recoverBurst {b : BurstFail} (h : s.ServesAt n) : (s.recoverBurst b).ServesAt n := by
  generalize hg : @State.recoverBurst = g
  delta State.recoverBurst at hg
  subst hg
  beta_reduce
  split
  · extract_lets +onlyGivenNames first zero
    exact h.of_eq.bumpBy
  · exact h.ite (h.foldl fun _ _ ht => ht.revoke)
  · refine h.ite (h.foldl fun a x ha => ?_)
    split
    · exact ha.closeConn.connDown
    · exact ha
  · refine h.ite (h.foldl fun a x ha => ?_)
    split
    · exact ha.loseCmd
    · exact ha
  · exact h.ite h.of_eq
  · refine h.foldl fun a x ha => ?_
    extract_lets +onlyGivenNames s1
    have h1 : s1.ServesAt n := ha.of_eq
    split
    · exact h1.setConn
    · exact h1
  · split
    · exact h
    · split
      · exact h
      · exact h.updLine.startFill.ite (h.ite h.lineLost)
  · exact h.of_eq.ite h
  · exact h

theorem burstFail {b : BurstFail} (h : s.ServesAt n) : (s.burstFail b).ServesAt n := by
  unfold State.burstFail
  split
  · exact h
  · extract_lets +onlyGivenNames s1 again s2
    have h1 : s1.ServesAt n := h.bump (by split <;> decide)
    have h2 : s2.ServesAt n := h1.bump.ite h1.bump.recoverBurst
    exact h2.frameFail

theorem execLineFillDone {nsid lba : Nat} {fails : List BurstFail} (h : s.ServesAt n) :
    KeepsServing n (execLineFillDone nsid lba fails s) := by
  unfold Machine.execLineFillDone
  refine State.ServesAt.next ?_
  extract_lets +onlyGivenNames s1
  have h1 : s1.ServesAt n := h.foldl fun _ _ ht => ht.burstFail
  split
  · split
    · exact h1
    · extract_lets +onlyGivenNames miss
      split
      · exact h1.loadObjs
      · extract_lets +onlyGivenNames s2
        have h2 : s2.ServesAt n := h1.lookups
        split
        · exact h2.updLine.winProgress
        · exact h2.dropLine.failReads.winProgress
  · exact h1

theorem execLineWritebackDone {nsid lba : Nat} (h : s.ServesAt n) : KeepsServing n (execLineWritebackDone nsid lba s) := by
  unfold Machine.execLineWritebackDone
  refine State.ServesAt.next ?_
  split
  · exact h
  · split
    · exact h
    · extract_lets +onlyGivenNames s1 s2 again s3
      have h1 : s1.ServesAt n := h.updLine
      have h2 : s2.ServesAt n := h1.needsMet
      have h3 : s3.ServesAt n := h2.foldl fun _ _ ht => ht.writeBack
      exact h3.freeEvicted.winProgress

theorem refuseEnable (h : s.ServesAt n) : s.refuseEnable.ServesAt n := h.wr.raise

theorem cacheSetEn (h : s.ServesAt n) : s.cacheSetEn.ServesAt n := by
  unfold State.cacheSetEn
  split
  · exact h.refuseEnable
  · split
    · exact h
    · split
      · extract_lets +onlyGivenNames s1
        have h1 : s1.ServesAt n := h.wr
        exact h1.mirrorNote
      · exact h.refuseEnable

theorem flushAll (h : s.ServesAt n) : s.flushAll.ServesAt n := by
  unfold State.flushAll
  exact h.foldl fun _ _ ht => ht.writeBack

theorem cacheClrEn (h : s.ServesAt n) : s.cacheClrEn.ServesAt n := by
  unfold State.cacheClrEn
  split
  · exact h.refuseEnable
  · extract_lets +onlyGivenNames s1
    have h1 : s1.ServesAt n := h.wr
    split
    · extract_lets +onlyGivenNames s2
      have h2 : s2.ServesAt n := h1.wr
      exact h2.flushAll.ite h2
    · exact h1

theorem execCacheSetEn (h : s.ServesAt n) : KeepsServing n (execCacheSetEn s) := by
  unfold Machine.execCacheSetEn
  exact (h.atWindow fun _ ht => ht.cacheSetEn).next

theorem execCacheClrEn (h : s.ServesAt n) : KeepsServing n (execCacheClrEn s) := by
  unfold Machine.execCacheClrEn
  exact (h.atWindow fun _ ht => ht.cacheClrEn).next

theorem execCacheDisableComplete (h : s.ServesAt n) : KeepsServing n (execCacheDisableComplete s) := by
  unfold Machine.execCacheDisableComplete
  refine State.ServesAt.next ?_
  extract_lets +onlyGivenNames busy
  split
  · extract_lets +onlyGivenNames s1 s2
    have h1 : s1.ServesAt n := h.of_eq
    have h2 : s2.ServesAt n := h1.wr.wr.raise.syncCache
    exact h2.mirrorNote
  · exact h

theorem setMaint {m : Option Maint} (h : s.ServesAt n) : { s with maint := m }.ServesAt n := h.of_eq

theorem maintStart {op : Nat} {all : Bool} (h : s.ServesAt n) : (s.maintStart op all).ServesAt n := by
  unfold State.maintStart
  split
  · exact h.wr
  · extract_lets +onlyGivenNames m dirty s1
    have hbusy : (s.wr F.MEM_MNT_CMD_BUSY 1).ServesAt n := h.wr
    exact hbusy.setMaint.foldl fun _ _ ht => ht.writeBack

theorem execMntClean {all : Bool} (h : s.ServesAt n) : KeepsServing n (execMntClean all s) := by
  unfold Machine.execMntClean
  exact (h.atWindow fun _ ht => ht.maintStart).next

theorem execMntInvalidate {all : Bool} (h : s.ServesAt n) : KeepsServing n (execMntInvalidate all s) := by
  unfold Machine.execMntInvalidate
  exact (h.atWindow fun _ ht => ht.maintStart).next

theorem execMntComplete (h : s.ServesAt n) : KeepsServing n (execMntComplete s) := by
  unfold Machine.execMntComplete
  refine State.ServesAt.next ?_
  split
  · exact h
  · split
    · exact h
    · extract_lets +onlyGivenNames en s1 s2 s3 s4
      have h1 : s1.ServesAt n := h.of_eq
      have h2 : s2.ServesAt n := (h1.foldl fun _ _ ht => ht.dropLine).ite h1
      have h3 : s3.ServesAt n := h2.wr.ite h2
      have h4 : s4.ServesAt n := h3.wr.raise.syncCache
      exact h4.flushAll.ite h4

theorem execMemRegionReady {r : Nat} (h : s.ServesAt n) : KeepsServing n (execMemRegionReady r s) := by
  unfold Machine.execMemRegionReady
  refine State.ServesAt.next ?_
  split
  · extract_lets +onlyGivenNames s1
    have h1 : s1.ServesAt n := h.setBit
    exact h1.logMarker.evCopy.ite h1
  · exact h

theorem execDimmTempChange {channel celsius : Nat} (h : s.ServesAt n) : KeepsServing n (execDimmTempChange channel celsius s) := by
  unfold Machine.execDimmTempChange
  refine State.ServesAt.next ?_
  split
  · split
    · exact h
    · extract_lets +onlyGivenNames lim was s1
      have h1 : s1.ServesAt n := ((h.wr (by simp only [F.MEM_CHSTAT_TEMP]; omega)).wrB (by simp only [F.MEM_CHSTAT_HOT]; omega)).wrB
          (by simp only [F.MEM_CHSTAT_THROTTLED]; omega)
      exact h1.raise.ite h1
  · split
    · exact h
    · extract_lets +onlyGivenNames lim was s1
      have h1 : s1.ServesAt n := ((h.wr (by simp only [F.MEM_CHSTAT_TEMP]; omega)).wrB (by simp only [F.MEM_CHSTAT_HOT]; omega)).wrB
          (by simp only [F.MEM_CHSTAT_THROTTLED]; omega)
      exact h1.raise.ite h1

/-! ### Admin commands -/

theorem connectAnswer {cid role : Nat} {v : NvmeCmd} {dw0 : Nat} {st : Status} (h : s.ServesAt n) :
    (s.connectAnswer cid role v dw0 st).ServesAt n := by
  unfold State.connectAnswer
  extract_lets +onlyGivenNames s1 body
  have h1 : s1.ServesAt n := (h.bump (roleKey_ne _ _ _)).bump (roleKey_ne _ _ _)
  split
  · dsimp -zeta only
    split
    · exact h1.commitMsg.mirror
    · exact h1.commitMsg
  · exact h1.transmit

theorem connectAdmin {cid : Nat} {v : NvmeCmd} {i : Ident} (h : s.ServesAt n) : (s.connectAdmin cid v i).ServesAt n := by
  unfold State.connectAdmin
  split
  · exact h.connectAnswer
  · extract_lets +onlyGivenNames auth k s1 s2
    have h1 : s1.ServesAt n := h.of_eq
    have h2 : s2.ServesAt n := h1.of_eq
    exact h2.connectAnswer

theorem connectIo {cid : Nat} {v : NvmeCmd} {i : Ident} (h : s.ServesAt n) : (s.connectIo cid v i).ServesAt n := by
  unfold State.connectIo
  extract_lets +onlyGivenNames qid size cntl
  split
  · exact h.connectAnswer
  · split
    · exact h.connectAnswer
    · extract_lets +onlyGivenNames auth s1 s2
      have h1 : s1.ServesAt n := h.updCtrl
      have h2 : s2.ServesAt n := h1.of_eq
      exact h2.connectAnswer

theorem connect {cid : Nat} {v : NvmeCmd} (h : s.ServesAt n) : (s.connect cid v).ServesAt n := by
  unfold State.connect
  split
  · exact h
  · split
    · exact h.connectAnswer
    · split
      · exact h.connectAnswer
      · exact h.connectAdmin.ite h.connectIo

theorem execFabricsConnect {cid : Nat} {v : NvmeCmd} (h : s.ServesAt n) : KeepsServing n (execFabricsConnect cid v s) := h.connect.next

theorem execPropertyGet {v : NvmeCmd} (h : s.ServesAt n) : KeepsServing n (execPropertyGet v s) := by
  unfold Machine.execPropertyGet
  refine State.ServesAt.next ?_
  refine h.admin fun c1 t ht => ?_
  split
  · exact ht.finish
  · exact ht.finish

theorem writeProperty {c : Cmd} {ofs val : Nat} (h : s.ServesAt n) : (s.writeProperty c ofs val).ServesAt n := by
  unfold State.writeProperty
  split
  · extract_lets +onlyGivenNames s1
    have h1 : s1.ServesAt n := h.updCtrl
    exact h1.finish
  · exact h.updCtrl.finish.ite h.finish

theorem execPropertySet {v : NvmeCmd} (h : s.ServesAt n) : KeepsServing n (execPropertySet v s) := by
  unfold Machine.execPropertySet
  exact (h.admin fun _ _ ht => ht.writeProperty).next

theorem execPropertySetCcEnClear {v : NvmeCmd} (h : s.ServesAt n) : KeepsServing n (execPropertySetCcEnClear v s) := by
  unfold Machine.execPropertySetCcEnClear
  exact (h.admin fun _ _ ht => ht.resetCtrl.finish).next

theorem shutdownCtrl {ctl shn : Nat} {self : Option Nat} (h : s.ServesAt n) : (s.shutdownCtrl ctl shn self).ServesAt n := by
  unfold State.shutdownCtrl
  extract_lets +onlyGivenNames s1
  have h1 : s1.ServesAt n := h.updCtrl
  exact h1.applyReset.ite h1

theorem execPropertySetCcShn {v : NvmeCmd} (h : s.ServesAt n) : KeepsServing n (execPropertySetCcShn v s) := by
  unfold Machine.execPropertySetCcShn
  refine State.ServesAt.next ?_
  refine h.admin fun c1 t ht => ?_
  extract_lets +onlyGivenNames shn
  exact ht.shutdownCtrl.finish.ite ht.writeProperty

theorem nssReset {ident role : Nat} (h : s.ServesAt n) : (s.nssReset ident role).ServesAt n := by
  unfold State.nssReset
  extract_lets +onlyGivenNames s1 s2
  have h1 : s1.ServesAt n := h.raiseCmd
  have h2 : s2.ServesAt n := h1.foldl fun _ _ ht => ht.resetCtrl
  exact h2.of_eq

theorem execPropertySetNssr {v : NvmeCmd} (h : s.ServesAt n) : KeepsServing n (execPropertySetNssr v s) := by
  unfold Machine.execPropertySetNssr
  exact (h.admin fun _ _ ht => ht.finish.ite (ht.finish.ite ht.nssReset.finish)).next

theorem setAuth {v : NvmeCmd} {f : Queue → Queue} (h : s.ServesAt n) : (s.setAuth v f).ServesAt n := h.updQueue

theorem authFailed {i : Nat} (h : s.ServesAt n) : (s.authFailed i).ServesAt n := h.updIdent

theorem authEnds {c : Cmd} {i why : Nat} (h : s.ServesAt n) : (s.authEnds c i why).ServesAt n := h.setAuth.authFailed.finish

theorem authTeardown {v : NvmeCmd} (h : s.ServesAt n) : (s.authTeardown v).ServesAt n := by
  unfold State.authTeardown
  split
  · exact h.closeConn.queueDown
  · exact h

theorem authNegotiate {c : Cmd} {i tid scc : Nat} {hashes groups : List Nat} (h : s.ServesAt n) :
    (s.authNegotiate c i tid scc hashes groups).ServesAt n := by
  unfold State.authNegotiate
  extract_lets +onlyGivenNames s1
  have h1 : s1.ServesAt n := h.setAuth
  split
  · exact h1.authEnds
  · split
    · exact h1.authEnds
    · exact h1.authEnds
    · exact h1.setAuth.finish

theorem execAuthenticationSend {v : NvmeCmd} {m : AuthMsg} (h : s.ServesAt n) : KeepsServing n (execAuthenticationSend v m s) := by
  unfold Machine.execAuthenticationSend
  refine State.ServesAt.next ?_
  refine h.admin fun c1 t ht => ?_
  split
  · split
    · exact ht.authNegotiate
    · exact ht.setAuth.finish.ite ht.authEnds
    · exact ht.setAuth.finish.ite ht.authEnds
    · exact ht.finish.authTeardown
  · exact ht.finish

theorem execAuthenticationReceive {v : NvmeCmd} (h : s.ServesAt n) : KeepsServing n (execAuthenticationReceive v s) := by
  unfold Machine.execAuthenticationReceive
  refine State.ServesAt.next ?_
  refine h.admin fun c1 t ht => ?_
  split
  · split
    · dsimp -zeta only
      extract_lets +onlyGivenNames q
      exact ht.draw.draw.setAuth.hostBuf.finish
    · split
      · extract_lets +onlyGivenNames two msg
        exact ht.setAuth.hostBuf.finish
      · exact ht.setAuth.hostBuf.finish.authTeardown.ite ht.finish
  · exact ht.finish

theorem execAuthLockoutExpiry {ident : Nat} (h : s.ServesAt n) : KeepsServing n (execAuthLockoutExpiry ident s) := h.updIdent.next

theorem execKeepAlive {v : NvmeCmd} (h : s.ServesAt n) : KeepsServing n (execKeepAlive v s) := by
  unfold Machine.execKeepAlive
  exact (h.admin fun _ _ ht => ht.finish).next

theorem execUnsupportedOpcode {v : NvmeCmd} (h : s.ServesAt n) : KeepsServing n (execUnsupportedOpcode v s) := by
  unfold Machine.execUnsupportedOpcode
  exact (h.adminIf fun _ _ ht => ht.finish).next

theorem execAbort {v : NvmeCmd} (h : s.ServesAt n) : KeepsServing n (execAbort v s) := by
  unfold Machine.execAbort
  refine State.ServesAt.next ?_
  refine h.admin fun c1 t ht => ?_
  extract_lets +onlyGivenNames sqid cid aborts
  split
  · exact ht.finish
  · split
    · split
      · extract_lets +onlyGivenNames s1
        have h1 : s1.ServesAt n := ((ht.bump (roleKey_ne _ _ _)).raiseCmd).dropCmd
        exact h1.finish
      · exact ht.finish
    · exact ht.finish

theorem execAsyncEventRequest {v : NvmeCmd} (h : s.ServesAt n) : KeepsServing n (execAsyncEventRequest v s) := by
  unfold Machine.execAsyncEventRequest
  refine State.ServesAt.next ?_
  refine h.admin fun c1 t ht => ?_
  split
  · exact ht.finish.ite ht.updCtrl.sendNotices
  · exact ht

theorem setFeature {ctl fid val : Nat} (h : s.ServesAt n) : (s.setFeature ctl fid val).ServesAt n := h.updCtrl

theorem execSetFeatures {v : NvmeCmd} (h : s.ServesAt n) : KeepsServing n (execSetFeatures v s) := by
  unfold Machine.execSetFeatures
  refine State.ServesAt.next ?_
  refine h.admin fun c1 t ht => ?_
  extract_lets +onlyGivenNames fid ok
  have hok : ∀ s, s.ServesAt n → (ok s).ServesAt n := by
    intro s ht
    exact ht.finish
  split
  · exact ht.finish.ite ((hok _ ht.setFeature).sendNotices)
  · split
    · exact hok _ ht.updCtrl.setFeature
    · split
      · extract_lets +onlyGivenNames n1
        exact ht.setFeature.finish
      · split
        · extract_lets +onlyGivenNames own
          exact (hok _ ht).ite ht.finish
        · split
          · exact (hok _ ht.updNs).ite ht.finish
          · split
            · split
              · exact hok _ (ht.foldl fun _ _ ht1 => ht1.setFeature)
              · exact (hok _ ht.setFeature).ite ht.finish
            · exact (hok _ ht.setFeature).ite ht.finish

theorem execGetFeatures {v : NvmeCmd} (h : s.ServesAt n) : KeepsServing n (execGetFeatures v s) := by
  unfold Machine.execGetFeatures
  refine State.ServesAt.next ?_
  refine h.admin fun c1 t ht => ?_
  extract_lets +onlyGivenNames fid
  split
  · exact ht
  · split
    · extract_lets +onlyGivenNames h1
      exact ht.hostBuf.finish
    · split
      · exact ht.finish.ite ht.finish
      · split
        · exact ht.finish
        · exact (ht.finish.ite ht.finish).ite (ht.finish.ite ht.finish)

theorem execSetFeaturesQueueOrdering {v : NvmeCmd} (h : s.ServesAt n) : KeepsServing n (execSetFeaturesQueueOrdering v s) := by
  unfold Machine.execSetFeaturesQueueOrdering
  exact (h.admin fun _ _ ht => ht.finish.ite ht.finish).next

theorem execGetFeaturesQueueOrdering {v : NvmeCmd} (h : s.ServesAt n) : KeepsServing n (execGetFeaturesQueueOrdering v s) := by
  unfold Machine.execGetFeaturesQueueOrdering
  refine State.ServesAt.next ?_
  refine h.admin fun c1 t ht => ?_
  split
  · exact ht.finish
  · extract_lets +onlyGivenNames m
    exact ht.finish

theorem execSetFeaturesQosProfile {v : NvmeCmd} (h : s.ServesAt n) : KeepsServing n (execSetFeaturesQosProfile v s) := by
  unfold Machine.execSetFeaturesQosProfile
  refine State.ServesAt.next ?_
  refine h.admin fun c1 t ht => ?_
  extract_lets +onlyGivenNames scope p n1
  split
  · exact ht.finish
  · split
    · exact ht.finish
    · split
      · exact ht.finish
      · split
        · exact ht.finish
        · split
          · exact ht.finish
          · split
            · exact ht.finish
            · split
              · exact ht.finish
              · extract_lets +onlyGivenNames s1
                have h1 : s1.ServesAt n := by
                  unfold s1
                  clear_value scope n1
                  split
                  · exact ht.mirrorNote
                  · exact ht
                exact h1.finish

theorem execGetFeaturesQosProfile {v : NvmeCmd} (h : s.ServesAt n) : KeepsServing n (execGetFeaturesQosProfile v s) := by
  unfold Machine.execGetFeaturesQosProfile
  refine State.ServesAt.next ?_
  refine h.admin fun c1 t ht => ?_
  extract_lets +onlyGivenNames scope
  split
  · exact ht.finish
  · split
    · exact ht.finish
    · split
      · exact ht.finish
      · extract_lets +onlyGivenNames p
        clear_value p
        split
        · exact ht.hostBuf.finish
        · exact ht.finish

theorem pageRead {v : NvmeCmd} {page : Nat} (h : s.ServesAt n) : (s.pageRead v page).ServesAt n := by
  unfold State.pageRead
  exact h.ite h.updCtrl

theorem returnPage {c : Cmd} {page data : Nat} (h : s.ServesAt n) : (s.returnPage c page data).ServesAt n := h.hostBuf.pageRead.finish

theorem execGetLogPage {v : NvmeCmd} (h : s.ServesAt n) : KeepsServing n (execGetLogPage v s) := by
  unfold Machine.execGetLogPage
  refine State.ServesAt.next ?_
  refine h.admin fun c1 t ht => ?_
  extract_lets +onlyGivenNames page mine read
  have hread : ∀ s f, s.ServesAt n → (read s f).ServesAt n := by
    intro s f ht
    exact ht.ite ht.updCtrl
  split
  · exact ht.returnPage
  · split
    · exact (hread _ _ ht).returnPage
    · split
      · exact (hread _ _ ht).returnPage
      · split
        · dsimp -zeta only
          exact ht.draw.hostBuf.pageRead.finish
        · exact ht.finish

theorem execLogPageLostRanges {v : NvmeCmd} (h : s.ServesAt n) : KeepsServing n (execLogPageLostRanges v s) := by
  unfold Machine.execLogPageLostRanges
  refine State.ServesAt.next ?_
  refine h.admin fun c1 t ht => ?_
  split
  · split
    · exact ht.finish
    · extract_lets +onlyGivenNames full s1
      have h1 : s1.ServesAt n := ht.updNs.ite ht
      exact h1.returnPage
  · exact ht.finish

theorem execLogPageMetering {v : NvmeCmd} (h : s.ServesAt n) : KeepsServing n (execLogPageMetering v s) := by
  unfold Machine.execLogPageMetering
  refine State.ServesAt.next ?_
  refine h.admin fun c1 t ht => ?_
  extract_lets +onlyGivenNames lsp snap ten
  split
  · exact ht.finish
  · split
    · split
      · exact ht.finish
      · extract_lets +onlyGivenNames t1
        split
        · split
          · exact ht.finish
          · dsimp -zeta only
            extract_lets +onlyGivenNames row
            exact ht.returnPage
        · extract_lets +onlyGivenNames k gap
          exact ht.returnPage
    · split
      · exact ht.finish
      · split
        · exact ht.finish
        · split
          · exact ht.finish
          · split
            · split
              · exact ht.finish
              · dsimp -zeta only
                extract_lets +onlyGivenNames row
                exact ht.returnPage
            · exact ht.returnPage

theorem execLogPageLayoutHealth {v : NvmeCmd} (h : s.ServesAt n) : KeepsServing n (execLogPageLayoutHealth v s) := by
  unfold Machine.execLogPageLayoutHealth
  exact (h.admin fun _ _ ht => ht.finish.ite (ht.finish.ite ht.returnPage)).next

theorem execLogPageEventExcerpt {v : NvmeCmd} (h : s.ServesAt n) : KeepsServing n (execLogPageEventExcerpt v s) := by
  unfold Machine.execLogPageEventExcerpt
  exact (h.admin fun _ _ ht => ht.finish.ite (ht.finish.ite ht.hostBuf.pageRead.finish)).next

theorem execIdentify {v : NvmeCmd} (h : s.ServesAt n) : KeepsServing n (execIdentify v s) := by
  unfold Machine.execIdentify
  refine State.ServesAt.next ?_
  refine h.admin fun c1 t ht => ?_
  extract_lets +onlyGivenNames cns give
  have hgive : ∀ d, (give d).ServesAt n := by
    intro d
    exact ht.hostBuf.finish
  split
  · exact ht
  · clear_value cns
    split
    · split
      · split
        · exact hgive _
        · exact ht.finish
      · exact ht.finish
    · exact hgive _
    · exact hgive _
    · exact (hgive _).ite ht.finish
    · exact hgive _
    · split
      · exact hgive _
      · exact ht.finish
    · extract_lets +onlyGivenNames l l1
      exact hgive _
    · extract_lets +onlyGivenNames l l1
      exact hgive _
    · exact ht.finish

/-! ### Repair -/

theorem updCip {r : Nat} {f : CipRole → CipRole} (h : s.ServesAt n) : (s.updCip r f).ServesAt n := h.of_eq

theorem cipEntryLost {b slot : Nat} {recovered : Bool} (h : s.ServesAt n) : (s.cipEntryLost b slot recovered).ServesAt n := by
  unfold State.cipEntryLost
  split
  · exact h
  · exact h.updCip.ite ((h.updCip.wr (roleKey_ne _ _ _)).raise)

theorem entryLost {o : Repair} (h : s.ServesAt n) : (s.entryLost o).ServesAt n := by
  unfold State.entryLost
  extract_lets +onlyGivenNames s1
  have h1 : s1.ServesAt n := by
    unfold s1
    split
    · exact h.connDown.closeConn
    · exact h
  split
  · exact h1.loseCmd
  · exact h1

theorem cleanEntryFails {nsid lba : Nat} (h : s.ServesAt n) : (s.cleanEntryFails nsid lba).ServesAt n := by
  unfold State.cleanEntryFails
  exact h.dropLine.ite h

theorem execDetectionRepairDone {bench : Nat} {o : Repair} {hdrOk : Bool} (h : s.ServesAt n) :
    KeepsServing n (execDetectionRepairDone bench o hdrOk s) := by
  unfold Machine.execDetectionRepairDone
  refine State.ServesAt.next ?_
  split
  · exact h
  · extract_lets +onlyGivenNames cip
    split
    · extract_lets +onlyGivenNames s1
      have h1 : s1.ServesAt n := by
        unfold s1
        split
        · exact h.cipEntryLost
        · split
          · exact h.cleanEntryFails
          · exact h
        · exact h
      exact h1.countRepair
    · extract_lets +onlyGivenNames s1
      have h1 : s1.ServesAt n := h.raise
      split
      · exact h1.cipEntryLost
      · exact h1.entryLost
      · split
        · exact h1.lineLost
        · exact h1
      · exact h1

/-! ### Member states -/

theorem updPort {k : Nat} {f : Port → Port} (h : s.ServesAt n) : (s.updPort k f).ServesAt n := h.of_eq

theorem wrStat {f : Nat → Nat → Fld} {k v : Nat} (h : s.ServesAt n) (hf : (f (drvOf k) (k % 8)).key ≠ 0x20100C) :
    (s.wrStat f k v).ServesAt n := h.wr hf

theorem raiseDrv {k loc sev code extra : Nat} (h : s.ServesAt n) : (s.raiseDrv k loc sev code extra).ServesAt n := h.raise

theorem syncLed {k : Nat} (h : s.ServesAt n) : (s.syncLed k).ServesAt n := by
  unfold State.syncLed
  extract_lets +onlyGivenNames fault locate
  exact h.setOut.setOut

theorem linkOff {k : Nat} (h : s.ServesAt n) : (s.linkOff k).ServesAt n :=
  (((h.wrStat (by simp only [F.DRV_PSTAT_LINK_UP, drvOf]; omega)).wrStat (by simp only [F.DRV_PSTAT_READY, drvOf]; omega)).wrStat
      (by simp only [F.DRV_PSTAT_GEN, drvOf]; omega)).wrStat (by simp only [F.DRV_PSTAT_X1, drvOf]; omega)

theorem holdPerst {k : Nat} (h : s.ServesAt n) : (s.holdPerst k).ServesAt n := h.setOut.linkOff.updPort

theorem putSlot {k st : Nat} (h : s.ServesAt n) : (s.putSlot k st).ServesAt n := h.changeSlot

theorem syncDirty {k : Nat} (h : s.ServesAt n) : (s.syncDirty k).ServesAt n := h.wrB (by simp only [F.LAY_MSTAT_DIRTY]; omega)

theorem updSvy {g : Nat} {f : SvyGroup → SvyGroup} (h : s.ServesAt n) : (s.updSvy g f).ServesAt n := h.of_eq

theorem writeMember {g : Nat} (h : s.ServesAt n) : (s.writeMember g).ServesAt n := by
  unfold State.writeMember
  split
  · exact h
  · extract_lets +onlyGivenNames mem gr w s1 bits gen
    have h1 : s1.ServesAt n := h.updSvy
    exact (h1.foldl fun _ _ ht => ht.updSlot).bgIo

theorem leaveService {k : Nat} (h : s.ServesAt n) : (s.leaveService k).ServesAt n := by
  unfold State.leaveService
  split
  · exact h
  · extract_lets +onlyGivenNames g gr
    exact h.updSlot.updGroup.mirrorSlot

theorem settle {k : Nat} (h : s.ServesAt n) : (s.settle k).ServesAt n := by
  unfold State.settle
  extract_lets +onlyGivenNames g s1
  have h1 : s1.ServesAt n := h.syncDirty.syncLed
  exact h1.syncGroup.syncHealth.placeWaiting.ite h1

theorem rewriteStripe {g k : Nat} (h : s.ServesAt n) : (s.rewriteStripe g k).ServesAt n := by
  unfold State.rewriteStripe
  split
  · exact h
  · split
    · exact h
    · extract_lets +onlyGivenNames hit s1 s2 idx s3 s4
      have h1 : s1.ServesAt n := h.of_eq
      have h2 : s2.ServesAt n := h1.discardToFree.abandonM
      have h3 : s3.ServesAt n := h2.foldl fun _ _ ht => ht.updCmd
      have h4 : s4.ServesAt n := by
        unfold s4
        refine h3.foldl fun a x ha => ?_
        split
        · split
          · rename_i t x1 heq
            have ht : t.ServesAt n := ha.place.of_fst heq
            exact ht
          · rename_i t heq
            have ht : t.ServesAt n := ha.place.of_fst heq
            exact ht.of_eq
        · exact ha.place
        · exact ha
      exact h4.placeWaiting

theorem endMWork {slot : Nat} {w : MWork} (h : s.ServesAt n) : (s.endMWork slot w).ServesAt n := by
  unfold State.endMWork
  split
  · exact h.rewriteStripe
  · exact h.fixWriteMissed
  · exact h.fixReadEnd
  · exact h

theorem endCommands {k : Nat} (h : s.ServesAt n) : (s.endCommands k).ServesAt n := by
  unfold State.endCommands
  extract_lets +onlyGivenNames mine wait s1 s2
  have h1 : s1.ServesAt n := h.of_eq
  have h2 : s2.ServesAt n := h1.foldl fun _ _ ht => ht.endMWork
  exact h2.rereadFrom.syncQuar.issueWaiting

theorem loseAt {bad : List BRef} {sr : SRef} {offs : List Nat} (h : s.ServesAt n) : (s.loseAt bad sr offs).ServesAt n := by
  unfold State.loseAt
  dsimp -zeta only
  refine h.foldl fun a x ha => ?_
  split
  · exact ha
  · split
    · exact ha.loseBlock
    · split
      · exact ha.ite ha.recordLost.lostEvent
      · exact ha

theorem lossScan {g : Nat} (h : s.ServesAt n) : (s.lossScan g).ServesAt n := by
  unfold State.lossScan
  extract_lets +onlyGivenNames offs logs s1
  have h1 : s1.ServesAt n := h.foldl fun _ _ ht => ht.loseAt
  exact (h1.foldl fun _ _ ht => ht.loseAt).ite h1

theorem enterWork {g k : Nat} (h : s.ServesAt n) : (s.enterWork g k).ServesAt n := by
  unfold State.enterWork
  extract_lets +onlyGivenNames s1 old new
  have h1 : s1.ServesAt n := h.foldl fun _ _ ht => ht.rewriteStripe
  split
  · exact h1
  · extract_lets +onlyGivenNames s2
    have h2 : s2.ServesAt n := by
      unfold s2
      split
      · exact (h1.wr (by simp only [F.LAY_GREB_DONE_DONE]; omega)).wr (by simp only [F.LAY_GREB_TOTAL_TOTAL]; omega)
      · exact h1
    exact h2.updGroup.bumpBy (by simp only [F.LAY_GREB_TOTAL_TOTAL]; omega)

theorem failSlot {k cause : Nat} (h : s.ServesAt n) : (s.failSlot k cause).ServesAt n := by
  unfold State.failSlot
  extract_lets +onlyGivenNames g s1 s2 s3 s4
  have h1 : s1.ServesAt n := h.leaveService.putSlot.writeMember
  have h2 : s2.ServesAt n := h1.raiseLay
  have h3 : s3.ServesAt n := h2.endCommands.enterWork.lossScan
  have h4 : s4.ServesAt n := h3.holdPerst.updPort.ite h3
  exact h4.settle

theorem suspectSlot {k cause ref : Nat} (h : s.ServesAt n) : (s.suspectSlot k cause ref).ServesAt n := by
  unfold State.suspectSlot
  extract_lets +onlyGivenNames g s1 s2
  have h1 : s1.ServesAt n := h.leaveService.putSlot.writeMember
  have h2 : s2.ServesAt n := h1.updSlot.raiseLay
  exact h2.rereadFrom.settle

theorem drainSlot {k : Nat} (h : s.ServesAt n) : (s.drainSlot k).ServesAt n := by
  unfold State.drainSlot
  extract_lets +onlyGivenNames g s1
  have h1 : s1.ServesAt n := h.leaveService.putSlot.writeMember
  exact h1.enterWork.settle

theorem memberStalled {k cause ref : Nat} (h : s.ServesAt n) : (s.memberStalled k cause ref).ServesAt n := by
  unfold State.memberStalled
  extract_lets +onlyGivenNames st
  exact h.failSlot.ite (h.suspectSlot.ite h)

theorem memberGone {k cause : Nat} (h : s.ServesAt n) : (s.memberGone k cause).ServesAt n := by
  unfold State.memberGone
  extract_lets +onlyGivenNames st
  exact h.failSlot.ite h

theorem readError {k : Nat} {status : Bool} (h : s.ServesAt n) : (s.readError k status).ServesAt n := by
  unfold State.readError
  extract_lets +onlyGivenNames s1 k1 s2
  have h1 : s1.ServesAt n := h.updSlot
  have h2 : s2.ServesAt n := h1.wr (by simp only [F.LAY_MSTAT_RD_ERR]; omega)
  exact h2.drainSlot.ite (h2.failSlot.ite h2)

theorem execMemberCommandAge {slot : Nat} (h : s.ServesAt n) : KeepsServing n (execMemberCommandAge slot s) := by
  unfold Machine.execMemberCommandAge
  exact (h.memberStalled.ite h).next

theorem execMemberFailTimer {slot : Nat} (h : s.ServesAt n) : KeepsServing n (execMemberFailTimer slot s) := by
  unfold Machine.execMemberFailTimer
  exact (h.failSlot.ite h).next

theorem forgetSlot {k : Nat} (h : s.ServesAt n) : (s.forgetSlot k).ServesAt n := h.changeSlot.settle

theorem execMemberReturnExpiry {slot : Nat} (h : s.ServesAt n) : KeepsServing n (execMemberReturnExpiry slot s) := by
  unfold Machine.execMemberReturnExpiry
  refine State.ServesAt.next ?_
  split
  · exact h.forgetSlot.ite h
  · exact h

theorem returnSlot {k : Nat} (h : s.ServesAt n) : (s.returnSlot k).ServesAt n := h.putSlot.settle

theorem joinSlot {k : Nat} {order : Bool} (h : s.ServesAt n) : (s.joinSlot k order).ServesAt n := by
  unfold State.joinSlot
  extract_lets +onlyGivenNames s1
  have h1 : s1.ServesAt n := h.changeSlot
  exact h1.settle

theorem suspectReturns {k : Nat} (h : s.ServesAt n) : (s.suspectReturns k).ServesAt n := by
  unfold State.suspectReturns
  exact h.returnSlot.ite h

theorem offer {k : Nat} {r : DriveRec} (h : s.ServesAt n) : (s.offer k r).ServesAt n := by
  unfold State.offer
  extract_lets +onlyGivenNames s1 st
  have h1 : s1.ServesAt n := h.updSlot
  split
  · exact h1
  · split
    · exact h1.suspectReturns
    · exact h1.returnSlot.ite ((h1.joinSlot.ite h1.raiseLay).ite h1)

theorem execDriveOffer {slot : Nat} {r : DriveRec} (h : s.ServesAt n) : KeepsServing n (execDriveOffer slot r s) := h.offer.next

theorem enterService {k code : Nat} (h : s.ServesAt n) : (s.enterService k code).ServesAt n := by
  unfold State.enterService
  extract_lets +onlyGivenNames g s1
  have h1 : s1.ServesAt n := h.putSlot.updGroup.writeMember
  exact h1.raiseLay.settle

theorem execJoinRecordWritten {slot : Nat} (h : s.ServesAt n) : KeepsServing n (execJoinRecordWritten slot s) := by
  unfold Machine.execJoinRecordWritten
  exact (h.enterService.ite h).next

theorem regained {g : Nat} (h : s.ServesAt n) : (s.regained g).ServesAt n := by
  unfold State.regained
  extract_lets +onlyGivenNames s1
  have h1 : s1.ServesAt n := by
    unfold s1
    refine h.foldl fun a x ha => ?_
    refine ha.foldl fun a1 x1 ha1 => ?_
    extract_lets +onlyGivenNames s2
    have h2 : s2.ServesAt n := ha1.updStripe
    split
    · exact h2.clearLost
    · exact h2
  refine h1.foldl fun a x ha => ?_
  refine ha.foldl fun a1 x1 ha1 => ?_
  extract_lets +onlyGivenNames b
  exact ha1.clearLost.ite ha1

theorem execReconciliationDone {slot : Nat} (h : s.ServesAt n) : KeepsServing n (execReconciliationDone slot s) := by
  unfold Machine.execReconciliationDone
  refine State.ServesAt.next ?_
  split
  · exact h
  · extract_lets +onlyGivenNames g s1 s2 s3
    have h1 : s1.ServesAt n := h.leaveWork
    have h2 : s2.ServesAt n := h1.updSlot.mirrorSlot
    have h3 : s3.ServesAt n := h2.enterService
    exact h3.regained

theorem refuseOrder {g : Option Nat} {reason : Nat} (h : s.ServesAt n) : (s.refuseOrder g reason).ServesAt n := h.wr.raise

theorem mcmd {k : Nat} {own : Option Nat} {f : State → State} (h : s.ServesAt n) (hf : ∀ (a : State), a.ServesAt n → (f a).ServesAt n) :
    (s.mcmd k own f).ServesAt n := by
  unfold State.mcmd
  split
  · exact h.refuseOrder
  · exact hf _ h

theorem orderDrain {slot : Nat} (h : s.ServesAt n) : (s.orderDrain slot).ServesAt n := by
  unfold State.orderDrain
  exact h.mcmd fun _ ht => ht.drainSlot.updSlot.mirrorSlot

theorem orderFail {slot : Nat} (h : s.ServesAt n) : (s.orderFail slot).ServesAt n := by
  unfold State.orderFail
  exact h.mcmd fun _ ht => ht.memberGone

theorem orderJoin {slot : Nat} (h : s.ServesAt n) : (s.orderJoin slot).ServesAt n := by
  unfold State.orderJoin
  exact h.mcmd fun _ ht => ht.joinSlot

theorem orderForget {slot : Nat} (h : s.ServesAt n) : (s.orderForget slot).ServesAt n := by
  unfold State.orderForget
  exact h.mcmd fun _ ht => ht.forgetSlot

theorem execLayMcmdDrain {slot : Nat} (h : s.ServesAt n) : KeepsServing n (execLayMcmdDrain slot s) := h.orderDrain.next

theorem execLayMcmdFail {slot : Nat} (h : s.ServesAt n) : KeepsServing n (execLayMcmdFail slot s) := h.orderFail.next

theorem execLayMcmdJoin {slot : Nat} (h : s.ServesAt n) : KeepsServing n (execLayMcmdJoin slot s) := h.orderJoin.next

theorem execLayMcmdForget {slot : Nat} (h : s.ServesAt n) : KeepsServing n (execLayMcmdForget slot s) := h.orderForget.next

/-! ### Drives -/

theorem contain {k code : Nat} (h : s.ServesAt n) : (s.contain k code).ServesAt n := by
  unfold State.contain
  split
  · exact h
  · extract_lets +onlyGivenNames s1 s2 s3
    have h1 : s1.ServesAt n := ((h.wrStat (by simp only [F.DRV_PSTAT_CONTAINED, drvOf]; omega)).bump
        (by simp only [F.DRV_CONTAIN]; omega)).raiseDrv
    have h2 : s2.ServesAt n := h1.linkOff.updPort
    have h3 : s3.ServesAt n := by
      unfold s3
      split
      · exact ((h2.wrStat (by simp only [F.DRV_PSTAT_HELD, drvOf]; omega)).updPort).raiseDrv
      · exact h2.updPort
    exact h3.memberStalled.endCommands.settle

theorem execMemberErrorMessage {slot kind : Nat} (h : s.ServesAt n) : KeepsServing n (execMemberErrorMessage slot kind s) := by
  unfold Machine.execMemberErrorMessage
  exact ((h.contain.ite h).ite (h.bump (by simp only [F.DRV_AER_COR]; omega))).next

theorem execDriveLinkDown {slot : Nat} (h : s.ServesAt n) : KeepsServing n (execDriveLinkDown slot s) := by
  unfold Machine.execDriveLinkDown
  exact (h.raiseDrv.contain.ite h).next

theorem execDrvNonpostedTimeout {slot : Nat} (h : s.ServesAt n) : KeepsServing n (execDrvNonpostedTimeout slot s) := by
  unfold Machine.execDrvNonpostedTimeout
  exact (h.contain.ite h).next

theorem execContainmentRecovery {slot : Nat} (h : s.ServesAt n) : KeepsServing n (execContainmentRecovery slot s) := by
  unfold Machine.execContainmentRecovery
  refine State.ServesAt.next ?_
  split
  · extract_lets +onlyGivenNames s1
    have h1 : s1.ServesAt n := ((h.wrStat (by simp only [F.DRV_PSTAT_CONTAINED, drvOf]; omega)).holdPerst).bump
        (by simp only [F.DRV_RETRAIN]; omega)
    exact h1.updPort
  · exact h

theorem execPerstReleaseTimer {slot : Nat} (h : s.ServesAt n) : KeepsServing n (execPerstReleaseTimer slot s) := by
  unfold Machine.execPerstReleaseTimer
  exact (h.setOut.updPort.ite h).next

theorem rejectDrive {k reason : Nat} (h : s.ServesAt n) : (s.rejectDrive k reason).ServesAt n := by
  unfold State.rejectDrive
  extract_lets +onlyGivenNames s1
  have h1 : s1.ServesAt n := ((h.wrStat (by simp only [F.DRV_PSTAT_REJECT, drvOf]; omega)).raiseDrv).holdPerst
  exact h1.updSlot.syncLed

theorem execDriveEnumerated {slot : Nat} {f : DriveFound} (h : s.ServesAt n) : KeepsServing n (execDriveEnumerated slot f s) := by
  unfold Machine.execDriveEnumerated
  refine State.ServesAt.next ?_
  split
  · exact h
  · split
    · exact h.rejectDrive
    · extract_lets +onlyGivenNames g s1 s2 s3
      have h1 : s1.ServesAt n := h.updPort
      have h2 : s2.ServesAt n := (((h1.wrStat (by simp only [F.DRV_PSTAT_GEN, drvOf]; omega)).wrStat
          (by simp only [F.DRV_PSTAT_X1, drvOf]; omega)).wrStat (by simp only [F.DRV_PSTAT_LINK_UP, drvOf]; omega)).wrStat
          (by simp only [F.DRV_PSTAT_READY, drvOf]; omega)
      have h3 : s3.ServesAt n := h2.raiseDrv.ite h2
      exact h3.offer.issueWaiting

theorem execDriveLinkTrainingTimeout {slot : Nat} (h : s.ServesAt n) : KeepsServing n (execDriveLinkTrainingTimeout slot s) := by
  unfold Machine.execDriveLinkTrainingTimeout
  refine State.ServesAt.next ?_
  split
  · exact h.rejectDrive.ite h
  · exact h

theorem slabAcked {g k slab : Nat} (h : s.ServesAt n) : (s.slabAcked g k slab).ServesAt n := by
  unfold State.slabAcked
  split
  · split
    · exact h
    · extract_lets +onlyGivenNames s1
      have h1 : s1.ServesAt n := h.updStripe
      exact h1.ackStripe.placeWaiting.ite h1
  · exact h

theorem healthRead {k warn : Nat} (h : s.ServesAt n) : (s.healthRead k warn).ServesAt n := by
  unfold State.healthRead
  extract_lets +onlyGivenNames new s1 s2
  have h1 : s1.ServesAt n := h.updPort
  have h2 : s2.ServesAt n := h1.raiseDrv.ite h1
  exact h2.drainSlot.ite h2

theorem memberDone {k : Nat} {w : MWork} {ok sound : Bool} {warn : Nat} (h : s.ServesAt n) :
    (s.memberDone k w ok sound warn).ServesAt n := by
  unfold State.memberDone
  extract_lets +onlyGivenNames s1 s2 s3 s4
  have h1 : s1.ServesAt n := h.ite (h.bump (by simp only [F.DRV_ERR_CQE]; omega))
  have h2 : s2.ServesAt n := h1.raiseLay.ite h1
  have h3 : s3.ServesAt n := h2.readError.ite h2
  have h4 : s4.ServesAt n := h3.memberGone.ite h3
  split
  · exact h4.readReturned
  · exact h4.fixReadEnd
  · exact h4.slabAcked.ite h4.rewriteStripe
  · exact h4.fixWriteEnd.ite h4.fixWriteMissed
  · exact h4.of_eq.raiseOnce.ite h4
  · exact h4.placeWaiting
  · exact h4.healthRead.ite h4

theorem lateDone {k : Nat} {w : MWork} {ok : Bool} (h : s.ServesAt n) : (s.lateDone k w ok).ServesAt n := by
  unfold State.lateDone
  extract_lets +onlyGivenNames s1
  have h1 : s1.ServesAt n := (h.bump (by simp only [F.DRV_LATE]; omega)).raiseOnce
  split
  · exact h1
  · extract_lets +onlyGivenNames s2
    have h2 : s2.ServesAt n := h1.bump (by simp only [F.DRV_ERR_CQE]; omega)
    split
    · exact h2.readError.rewriteBlk
    · exact h2.memberGone.ite h2

theorem execMemberCompletion {tag : MTag} {cq : Nat} {ok : Bool} {got : Option (Nat × Nat)} {warn : Nat} (h : s.ServesAt n) :
    KeepsServing n (execMemberCompletion tag cq ok got warn s) := by
  unfold Machine.execMemberCompletion
  refine State.ServesAt.next ?_
  split
  · exact h.contain.ite h
  · split
    · exact h.contain
    · extract_lets +onlyGivenNames sound s1 s2
      have h1 : s1.ServesAt n := h.of_eq
      have h2 : s2.ServesAt n := h1.lateDone.ite h1.memberDone
      exact h2.syncQuar.suspectReturns.issueWaiting

theorem execMemberDmaRequest {slot : Nat} {write : Bool} {addr len : Nat} (h : s.ServesAt n) :
    KeepsServing n (execMemberDmaRequest slot write addr len s) := by
  unfold Machine.execMemberDmaRequest
  refine State.ServesAt.next ?_
  extract_lets +onlyGivenNames s1 s2
  have h1 : s1.ServesAt n := h.ite h.send
  have h2 : s2.ServesAt n := (h1.bump (by simp only [F.DRV_DMA_REJ]; omega)).contain
  split
  · exact h
  · split
    · exact h2
    · split
      · exact (h.bump (by simp only [F.DRV_LATE_DMA]; omega)).ite h2
      · exact h.ite h2

theorem execHealthPoll {slot : Nat} (h : s.ServesAt n) : KeepsServing n (execHealthPoll slot s) := by
  unfold Machine.execHealthPoll
  exact (h.updPort.issueM.ite h).next

theorem execTrimGatherExpiry {slot : Nat} (h : s.ServesAt n) : KeepsServing n (execTrimGatherExpiry slot s) := by
  unfold Machine.execTrimGatherExpiry
  refine State.ServesAt.next ?_
  extract_lets +onlyGivenNames mine
  split
  · exact h
  · split
    · exact h
    · extract_lets +onlyGivenNames rows s1
      have h1 : s1.ServesAt n := h.of_eq
      exact h1.issueM.ite h1.placeWaiting

theorem execFenceWriteWindowEnd (h : s.ServesAt n) : KeepsServing n (execFenceWriteWindowEnd s) := by
  unfold Machine.execFenceWriteWindowEnd
  refine State.ServesAt.next ?_
  split
  · extract_lets +onlyGivenNames s1
    have h1 : s1.ServesAt n := h.of_eq
    exact h1.issueWaiting.foldl fun _ _ ht => ht.placeWaiting
  · exact h

theorem setEn {k : Nat} {on : Bool} (h : s.ServesAt n) : (s.setEn k on).ServesAt n := by
  unfold State.setEn
  extract_lets +onlyGivenNames s1
  have h1 : s1.ServesAt n := h.updPort.ite h
  exact h1.setOut

theorem setPower {k : Nat} {on : Bool} (h : s.ServesAt n) : (s.setPower k on).ServesAt n := by
  unfold State.setPower
  exact h.ite h.setEn.mirrorSlot.haulNote

theorem poweredUp {k : Nat} (h : s.ServesAt n) : (s.poweredUp k).ServesAt n := by
  unfold State.poweredUp
  extract_lets +onlyGivenNames s1
  have h1 : s1.ServesAt n := (h.wrStat (by simp only [F.DRV_PSTAT_POWERED, drvOf]; omega)).wrStat
      (by simp only [F.DRV_PSTAT_REJECT, drvOf]; omega)
  exact h1.updPort.syncLed

theorem powerOn {k : Nat} (h : s.ServesAt n) : (s.powerOn k).ServesAt n := by
  unfold State.powerOn
  extract_lets +onlyGivenNames s1
  have h1 : s1.ServesAt n := h.setPower
  exact h1.poweredUp.ite h1

theorem powerNvme {k : Nat} (h : s.ServesAt n) : (s.powerNvme k).ServesAt n := by
  unfold State.powerNvme
  exact h.rejectDrive.ite h.powerOn

theorem powerOff {k : Nat} (h : s.ServesAt n) : (s.powerOff k).ServesAt n := by
  unfold State.powerOff
  extract_lets +onlyGivenNames s1 s2
  have h1 : s1.ServesAt n := h.setPower
  have h2 : s2.ServesAt n := ((h1.wrStat (by simp only [F.DRV_PSTAT_POWERED, drvOf]; omega)).wrStat
      (by simp only [F.DRV_PSTAT_CONTAINED, drvOf]; omega)).wrStat (by simp only [F.DRV_PSTAT_HELD, drvOf]; omega)
  exact h2.holdPerst.updPort.endCommands

theorem followPower {k : Nat} {on : Bool} (h : s.ServesAt n) : (s.followPower k on).ServesAt n := by
  unfold State.followPower
  split
  · exact h
  · extract_lets +onlyGivenNames s1
    have h1 : s1.ServesAt n := h.setEn
    split
    · split
      · exact h1.poweredUp
      · exact h1.wrStat (by simp only [F.DRV_PSTAT_POWERED, drvOf]; omega)
    · exact h1.powerOff

theorem driveLost {k : Nat} (h : s.ServesAt n) : (s.driveLost k).ServesAt n := by
  unfold State.driveLost
  extract_lets +onlyGivenNames s1
  have h1 : s1.ServesAt n := h.memberGone
  exact h1.powerOff.updSlot.settle

theorem powerOnOrder {k : Nat} (h : s.ServesAt n) : (s.powerOnOrder k).ServesAt n := by
  unfold State.powerOnOrder
  exact h.powerNvme.ite h

theorem powerOffOrder {k : Nat} (h : s.ServesAt n) : (s.powerOffOrder k).ServesAt n := by
  unfold State.powerOffOrder
  extract_lets +onlyGivenNames st
  split
  · exact h.powerOff.settle
  · exact h.wr (by simp only [F.DRV_PCTL_REFUSED]; omega)

theorem execDrvPowerOn {slot : Nat} (h : s.ServesAt n) : KeepsServing n (execDrvPowerOn slot s) := by
  unfold Machine.execDrvPowerOn
  exact (h.atWindow fun _ ht => ht.powerOnOrder).next

theorem execDrvPowerOff {slot : Nat} (h : s.ServesAt n) : KeepsServing n (execDrvPowerOff slot s) := by
  unfold Machine.execDrvPowerOff
  exact (h.atWindow fun _ ht => ht.powerOffOrder).next

theorem execDriveStageTimer (h : s.ServesAt n) : KeepsServing n (execDriveStageTimer s) := by
  unfold Machine.execDriveStageTimer
  refine State.ServesAt.next ?_
  split
  · split
    · exact h
    · extract_lets +onlyGivenNames go s1
      have h1 : s1.ServesAt n := h.foldl fun _ _ ht => ht.powerOn
      exact h1.of_eq.ite h1.of_eq
  · exact h

theorem driveSeen {k : Nat} (h : s.ServesAt n) : (s.driveSeen k).ServesAt n := by
  unfold State.driveSeen
  extract_lets +onlyGivenNames s1
  have h1 : s1.ServesAt n := (h.wrStat (by simp only [F.DRV_PSTAT_PRSNT, drvOf]; omega)).raiseDrv
  exact h1.ite (h1.powerNvme.ite h1.updPort)

theorem driveRemoved {k : Nat} (h : s.ServesAt n) : (s.driveRemoved k).ServesAt n := by
  unfold State.driveRemoved
  extract_lets +onlyGivenNames s1
  have h1 : s1.ServesAt n := (h.wrStat (by simp only [F.DRV_PSTAT_PRSNT, drvOf]; omega)).driveLost
  exact ((h1.wrStat (by simp only [F.DRV_PSTAT_REJECT, drvOf]; omega)).syncLed).raiseDrv

theorem inputAccepted {k i : Nat} {v : Bool} (h : s.ServesAt n) : (s.inputAccepted k i v).ServesAt n := by
  unfold State.inputAccepted
  split
  · exact h.driveRemoved.ite h.driveSeen
  · exact h.driveLost.raiseDrv.ite (h.raiseDrv.ite h)

theorem sampleInput {k i : Nat} {v : Bool} (h : s.ServesAt n) : (s.sampleInput k i v).ServesAt n := by
  unfold State.sampleInput
  extract_lets +onlyGivenNames p
  split
  · exact h
  · extract_lets +onlyGivenNames since s1
    have h1 : s1.ServesAt n := h.updPort
    exact h1.updPort.inputAccepted.ite h1

theorem sbcLoad (h : s.ServesAt n) : s.sbcLoad.ServesAt n := by
  unfold State.sbcLoad
  extract_lets +onlyGivenNames s1
  have h1 : s1.ServesAt n := h.foldl fun _ _ ht => ht.wr (by simp only [F.CHN_SBC_OUT_OUT]; omega)
  exact h1.of_eq

theorem execSbcFrame {inputs : Nat} (h : s.ServesAt n) : KeepsServing n (execSbcFrame inputs s) := by
  unfold Machine.execSbcFrame
  refine State.ServesAt.next ?_
  extract_lets +onlyGivenNames s1 s2
  have h1 : s1.ServesAt n := h.sbcLoad
  have h2 : s2.ServesAt n := h1.foldl fun _ _ ht => ht.wr (by simp only [F.CHN_SBC_IN_IN]; omega)
  refine h2.foldl fun a x ha => ?_
  extract_lets +onlyGivenNames nib s3
  have h3 : s3.ServesAt n := ha.foldl fun _ _ ht => ht.sampleInput
  exact h3.updPort

/-! ### Cipher and keys -/

theorem syncCip {r : Nat} (h : s.ServesAt n) : (s.syncCip r).ServesAt n := by
  unfold State.syncCip
  extract_lets +onlyGivenNames x
  exact (((h.wr (roleKey_ne _ _ _)).wr (roleKey_ne _ _ _)).wr (roleKey_ne _ _ _)).wrB (roleKey_ne _ _ _)

theorem cipLoads {r : Nat} (h : s.ServesAt n) : (s.cipLoads r).ServesAt n := by
  unfold State.cipLoads
  refine h.foldl fun a x ha => ?_
  extract_lets +onlyGivenNames x1 q
  exact ha.ite ((ha.bump (roleKey_ne _ _ _)).updCip)

theorem cipEnqueue {r : Nat} {w : CipWait} (h : s.ServesAt n) : (s.cipEnqueue r w).ServesAt n := by
  unfold State.cipEnqueue
  extract_lets +onlyGivenNames x hit keyed s1 s2
  have h1 : s1.ServesAt n := (h.bump (roleKey_ne _ _ _)).ite h
  have h2 : s2.ServesAt n := ((h1.bump (roleKey_ne _ _ _)).raiseOnce).ite h1
  exact h2.updCip.cipLoads.syncCip

theorem cipArrive {r : Nat} {w : CipWait} (h : s.ServesAt n) : (s.cipArrive r w).ServesAt n := by
  unfold State.cipArrive
  extract_lets +onlyGivenNames x
  exact h.cipEnqueue.ite h.updCip

theorem cipRefill {r : Nat} (h : s.ServesAt n) : (s.cipRefill r).ServesAt n := by
  unfold State.cipRefill
  extract_lets +onlyGivenNames x
  split
  · exact h.updCip.cipEnqueue.ite h
  · exact h

theorem cipRequest {q : CipReq} (h : s.ServesAt n) : (s.cipRequest q).ServesAt n := h.cipArrive

theorem cipAnswer {r i : Nat} {q : CipReq} {status tail : Nat} (h : s.ServesAt n) : (s.cipAnswer r i q status tail).ServesAt n := by
  unfold State.cipAnswer
  extract_lets +onlyGivenNames s1 s2 s3
  have h1 : s1.ServesAt n := h.updCip
  have h2 : s2.ServesAt n := h1.of_eq
  have h3 : s3.ServesAt n := h2.bump (roleKey_ne _ _ _)
  extract_lets +onlyGivenNames s4
  have h4 : s4.ServesAt n := by
    unfold s4
    split
    · exact h3.bump (roleKey_ne _ _ _)
    · exact h3.bump (roleKey_ne _ _ _)
    · exact h3.bump (roleKey_ne _ _ _)
    · exact (h3.bump (roleKey_ne _ _ _)).raiseOnce
    · exact (h3.bump (roleKey_ne _ _ _)).raise
    · exact h3
  exact h4.cipLoads.cipRefill.syncCip

theorem cipCount {r : Nat} {q : CipReq} (h : s.ServesAt n) : (s.cipCount r q).ServesAt n := by
  unfold State.cipCount
  split
  · exact h.bumpBy (roleKey_ne _ _ _)
  · extract_lets +onlyGivenNames n1
    exact (h.bumpBy (roleKey_ne _ _ _)).updCip

theorem rekeyHaul {q : CipReq} {k : KeyCache} (h : s.ServesAt n) : (s.rekeyHaul q k).ServesAt n := by
  unfold State.rekeyHaul
  exact h.sendPairing.ite h

theorem execCipResult {role : Nat} {f : CipFound} {hdrOk : Bool} (h : s.ServesAt n) : KeepsServing n (execCipResult role f hdrOk s) := by
  unfold Machine.execCipResult
  refine State.ServesAt.next ?_
  split
  · exact h
  · extract_lets +onlyGivenNames q
    split
    · exact h.cipAnswer
    · split
      · extract_lets +onlyGivenNames s1
        have h1 : s1.ServesAt n := h.updCip
        exact h1.cipAnswer.raise
      · split
        · exact h.cipLoads.syncCip
        · extract_lets +onlyGivenNames s1 s2 iv work
          have h1 : s1.ServesAt n := h.updCip
          have h2 : s2.ServesAt n := h1.rekeyHaul
          split
          · exact h2.cipAnswer
          · split
            · exact h2.cipAnswer
            · split
              · exact h2.cipAnswer
              · split
                · extract_lets +onlyGivenNames s3
                  have h3 : s3.ServesAt n := h2.countRepair
                  split
                  · exact h3.cipAnswer
                  · split
                    · exact h3
                    · extract_lets +onlyGivenNames s4
                      have h4 : s4.ServesAt n := h3.updCip.cipRefill.syncCip
                      exact (h4.bump (roleKey_ne _ _ _)).cipArrive
                · extract_lets +onlyGivenNames s3
                  have h3 : s3.ServesAt n := h2.cipCount.foldl fun _ _ ht => ht.send
                  exact h3.cipAnswer

theorem execCipXtsEnc {r : CipReq} (h : s.ServesAt n) : KeepsServing n (execCipXtsEnc r s) := h.cipRequest.next

theorem execCipXtsDec {r : CipReq} (h : s.ServesAt n) : KeepsServing n (execCipXtsDec r s) := h.cipRequest.next

theorem execCipXtsZero {r : CipReq} (h : s.ServesAt n) : KeepsServing n (execCipXtsZero r s) := h.cipRequest.next

theorem execCipGcmSeal {r : CipReq} (h : s.ServesAt n) : KeepsServing n (execCipGcmSeal r s) := h.cipRequest.next

theorem execCipGcmOpen {r : CipReq} (h : s.ServesAt n) : KeepsServing n (execCipGcmOpen r s) := h.cipRequest.next

theorem execCipCtr {r : CipReq} (h : s.ServesAt n) : KeepsServing n (execCipCtr r s) := h.cipRequest.next

theorem zeroAll {q : CipReq} (h : s.ServesAt n) : (s.zeroAll q).ServesAt n := by
  unfold State.zeroAll
  exact h.foldl fun _ _ ht => ht.cipArrive

theorem zeroise {slot kgen : Nat} {new : Option KeyEntry} (h : s.ServesAt n) : (s.zeroise slot kgen new).ServesAt n := by
  unfold State.zeroise
  extract_lets +onlyGivenNames s1
  have h1 : s1.ServesAt n := h.of_eq
  exact h1.zeroAll

theorem setHaulKey {slot kgen key : Nat} (h : s.ServesAt n) : (s.setHaulKey slot kgen key).ServesAt n := by
  unfold State.setHaulKey
  extract_lets +onlyGivenNames old
  exact h.zeroise

theorem haulZero (h : s.ServesAt n) : s.haulZero.ServesAt n := by
  unfold State.haulZero
  exact h.foldl fun _ _ ht => ht.setHaulKey

theorem execCipKeyZero {r : CipReq} (h : s.ServesAt n) : KeepsServing n (execCipKeyZero r s) := by
  unfold Machine.execCipKeyZero
  refine State.ServesAt.next ?_
  extract_lets +onlyGivenNames q
  exact h.cipRequest.ite h.of_eq.zeroAll

theorem execKeyLoadDone {role slot : Nat} {intact : Bool} (h : s.ServesAt n) : KeepsServing n (execKeyLoadDone role slot intact s) := by
  unfold Machine.execKeyLoadDone
  refine State.ServesAt.next ?_
  split
  · exact h
  · split
    · exact h
    · extract_lets +onlyGivenNames drop reload s1
      have h1 : s1.ServesAt n := by
        unfold s1
        split
        · exact h.updCip
        · split
          · exact h.updCip.raise.ite ((h.bump (roleKey_ne _ _ _)).updCip)
          · extract_lets +onlyGivenNames stale
            exact ((h.bump (roleKey_ne _ _ _)).updCip).ite h.updCip
      exact h1.cipLoads.syncCip

/-! ### Namespaces -/

theorem updResv {nsid : Nat} {f : Resv → Resv} (h : s.ServesAt n) : (s.updResv nsid f).ServesAt n := h.updNs

theorem resvLeave {k : Namespace} {i : Nat} {f : Resv → Resv} (h : s.ServesAt n) : (s.resvLeave k i f).ServesAt n := by
  unfold State.resvLeave
  extract_lets +onlyGivenNames left s1
  have h1 : s1.ServesAt n := h.resvNotice.ite h
  exact h1.updResv

theorem unregister {nsid i : Nat} (h : s.ServesAt n) : (s.unregister nsid i).ServesAt n := by
  unfold State.unregister
  split
  · exact h.resvLeave.mirrorNs.ite h
  · exact h

theorem resvEnd {c : Cmd} {k : Namespace} (h : s.ServesAt n) : (s.resvEnd c k).ServesAt n := h.mirrorEffect.finish

theorem resvRegister {c : Cmd} {k : Namespace} {i : Nat} (h : s.ServesAt n) : (s.resvRegister c k i).ServesAt n := by
  unfold State.resvRegister
  extract_lets +onlyGivenNames v crkey nrkey iekey cptpl mine ptpl keep
  split
  · exact h.finish
  · split
    · exact h.finish.ite h.finish
    · exact h.finish.ite h.updResv.resvEnd
    · exact h.finish.ite h.resvLeave.resvEnd
    · exact h.finish.ite h.updResv.resvEnd
    · exact h.finish

theorem preempt {c : Cmd} {k : Namespace} {i rtype : Nat} {gone : Nat → Bool} {abort take : Bool} (h : s.ServesAt n) :
    (s.preempt c k i rtype gone abort take).ServesAt n := by
  unfold State.preempt
  extract_lets +onlyGivenNames out s1 s2
  have h1 : s1.ServesAt n := h.updResv
  have h2 : s2.ServesAt n := h1.resvNotice.mirrorEffect
  split
  · exact h2.finish
  · extract_lets +onlyGivenNames hit s3
    have h3 : s3.ServesAt n := h2.foldl fun _ _ ht => ht.voidFree.finish
    exact h3.finish.ite h3.of_eq

theorem resvAcquire {c : Cmd} {k : Namespace} {i : Nat} (h : s.ServesAt n) : (s.resvAcquire c k i).ServesAt n := by
  unfold State.resvAcquire
  extract_lets +onlyGivenNames v prkey rtype act r
  split
  · exact h.finish
  · split
    · exact h.finish
    · split
      · exact h.updResv.resvEnd.ite h.finish
      · extract_lets +onlyGivenNames abort keyed
        split
        · exact h.preempt
        · exact h.preempt.ite (h.finish.ite (h.preempt.ite h.finish))

theorem resvRelease {c : Cmd} {k : Namespace} {i : Nat} (h : s.ServesAt n) : (s.resvRelease c k i).ServesAt n := by
  unfold State.resvRelease
  extract_lets +onlyGivenNames v act r
  split
  · exact h.finish
  · split
    · exact h.finish
    · split
      · exact h.updResv.resvNotice.resvEnd
      · split
        · exact h.finish
        · split
          · exact h.finish
          · extract_lets +onlyGivenNames s1
            have h1 : s1.ServesAt n := h.updResv
            exact (h1.resvNotice.ite h1).resvEnd

theorem resvReport {c : Cmd} {k : Namespace} (h : s.ServesAt n) : (s.resvReport c k).ServesAt n := by
  unfold State.resvReport
  extract_lets +onlyGivenNames v r entry rows head all
  split
  · exact h.finish
  · extract_lets +onlyGivenNames len
    exact h.hostBuf.finish

theorem resvRun {c : Cmd} (h : s.ServesAt n) : (s.resvRun c).ServesAt n := by
  unfold State.resvRun
  split
  · split
    · exact h.resvRegister
    · exact h.resvReport.ite (h.resvAcquire.ite h.resvRelease)
  · exact h

theorem inTurn {c : Cmd} {op : NsOp} {k : State → State} (h : s.ServesAt n) (hk : ∀ (a : State), a.ServesAt n → (k a).ServesAt n) :
    (s.inTurn c op k).ServesAt n := by
  unfold State.inTurn
  exact h.of_eq.ite (hk _ h)

theorem resvTurn {c : Cmd} (h : s.ServesAt n) : (s.resvTurn c).ServesAt n := by
  unfold State.resvTurn
  exact h.resvRun.ite (h.inTurn fun _ ht => ht.resvRun)

theorem resvCmd {v : NvmeCmd} (h : s.ServesAt n) : (s.resvCmd v).ServesAt n := by
  unfold State.resvCmd
  extract_lets +onlyGivenNames id s1
  have h1 : s1.ServesAt n := h.deliverIo
  split
  · exact h1
  · split
    · exact h1
    · split
      · exact h1.refuseIo
      · exact h1.resvTurn.ite h1

theorem execReservationRegister {v : NvmeCmd} (h : s.ServesAt n) : KeepsServing n (execReservationRegister v s) := h.resvCmd.next

theorem execReservationReport {v : NvmeCmd} (h : s.ServesAt n) : KeepsServing n (execReservationReport v s) := h.resvCmd.next

theorem execReservationAcquire {v : NvmeCmd} (h : s.ServesAt n) : KeepsServing n (execReservationAcquire v s) := h.resvCmd.next

theorem execReservationRelease {v : NvmeCmd} (h : s.ServesAt n) : KeepsServing n (execReservationRelease v s) := h.resvCmd.next

theorem execCommandAdmission {role : Nat} (h : s.ServesAt n) : KeepsServing n (execCommandAdmission role s) := by
  unfold Machine.execCommandAdmission
  refine State.ServesAt.next ?_
  split
  · exact h
  · extract_lets +onlyGivenNames waiting mine
    split
    · exact h.refuseIo
    · split
      · exact h
      · split
        · exact h.resvTurn
        · split
          · exact h.admitCmd
          · exact h

theorem drawKey {nsid gen : Nat} (h : s.ServesAt n) : (s.drawKey nsid gen).2.ServesAt n := by
  unfold State.drawKey
  dsimp -zeta only
  exact h.draw

theorem nsCreate {c : Cmd} (h : s.ServesAt n) : (s.nsCreate c).ServesAt n := by
  unfold State.nsCreate
  extract_lets +onlyGivenNames v d nsze ncap flbas pit cls fixed unit tenant g? g
  refine h.finish.ite ?_
  split
  · exact h.finish
  · refine State.ServesAt.ite h.finish (State.ServesAt.ite h.finish ?_)
    split
    · exact h.finish
    · next nsid _ =>
      refine h.finish.ite (h.finish.ite (h.finish.ite ?_))
      extract_lets +onlyGivenNames gen
      dsimp -zeta only
      extract_lets +onlyGivenNames n1 inRun s1 s2 s3
      have hkey : (s.drawKey nsid gen).2.ServesAt n := h.drawKey
      have h1 : s1.ServesAt n := hkey.of_eq
      have h3 : s3.ServesAt n := h1.updGroup.syncGroup.mirrorEffect
      exact h3.finish.ite h3.of_eq

theorem abandonTree {k : Namespace} (h : s.ServesAt n) : (s.abandonTree k).ServesAt n := by
  unfold State.abandonTree
  extract_lets +onlyGivenNames places s1
  have h1 : s1.ServesAt n := h.of_eq
  exact h1.updGroup.updNs

theorem dropContents {nsid : Nat} (h : s.ServesAt n) : (s.dropContents nsid).ServesAt n := by
  unfold State.dropContents
  extract_lets +onlyGivenNames s1
  have h1 : s1.ServesAt n := h.foldl fun _ _ ht => ht.dropLine
  exact h1.of_eq

theorem lowerFixed {g y : Nat} (h : s.ServesAt n) : (s.lowerFixed g y).ServesAt n := by
  induction y generalizing s with
  | zero => exact h
  | succ y ih =>
    unfold State.lowerFixed
    extract_lets +onlyGivenNames x
    split
    · exact ih h.updGroup
    · exact h

theorem nsGone {nsid : Nat} {done : Option (Nat × Nat)} (h : s.ServesAt n) : (s.nsGone nsid done).ServesAt n := by
  unfold State.nsGone
  split
  · exact h
  · extract_lets +onlyGivenNames s1 s2 s3
    have h1 : s1.ServesAt n := h.retire.abandonTree.dropContents
    have h2 : s2.ServesAt n := h1.of_eq
    extract_lets +onlyGivenNames s4
    have h4 : s4.ServesAt n := h2.updGroup.lowerFixed.ite h2
    exact h4.syncGroup.mirrorNote

theorem detach {nsid : Nat} {out : List Nat} (h : s.ServesAt n) : (s.detach nsid out).ServesAt n := by
  unfold State.detach
  extract_lets +onlyGivenNames s1 s2
  have h1 : s1.ServesAt n := h.updNs
  have h2 : s2.ServesAt n := h1.nsChanged
  exact h2.revokeWhere

theorem nsDelete {c : Cmd} (h : s.ServesAt n) : (s.nsDelete c).ServesAt n := by
  unfold State.nsDelete
  extract_lets +onlyGivenNames v nss
  split
  · exact h.finish
  · split
    · exact h.finish
    · extract_lets +onlyGivenNames s1
      have h1 : s1.ServesAt n := by
        unfold s1
        refine h.foldl fun a x ha => ?_
        extract_lets +onlyGivenNames who s2 s3
        have h2 : s2.ServesAt n := ha.updNs
        have h3 : s3.ServesAt n := h2.foldl fun _ _ ht => ht.discard
        exact h3.revokeWhere.detach.mirrorNs
      exact h1.of_eq

theorem nsAttach {c : Cmd} (h : s.ServesAt n) : (s.nsAttach c).ServesAt n := by
  unfold State.nsAttach
  extract_lets +onlyGivenNames v
  split
  · exact h.finish
  · split
    · exact h.finish
    · split
      · exact h.finish
      · split
        · exact h.finish
        · split
          · exact h.finish
          · split
            · exact h.finish
            · extract_lets +onlyGivenNames s1
              have h1 : s1.ServesAt n := h.updNs.nsChanged
              exact h1.mirrorEffect.finish

theorem nsDetach {c : Cmd} (h : s.ServesAt n) : (s.nsDetach c).ServesAt n := by
  unfold State.nsDetach
  extract_lets +onlyGivenNames v
  split
  · exact h.finish
  · split
    · exact h.finish
    · split
      · exact h.finish
      · split
        · exact h.finish
        · split
          · exact h.finish
          · extract_lets +onlyGivenNames s1
            have h1 : s1.ServesAt n := h.detach.mirrorEffect
            exact h1.of_eq

theorem applyFormat {k : Namespace} {cmd lbaf pit : Nat} (h : s.ServesAt n) : (s.applyFormat k cmd lbaf pit).ServesAt n := by
  unfold State.applyFormat
  dsimp -zeta only
  extract_lets +onlyGivenNames s1 s2
  have h1 : s1.ServesAt n := h.drawKey.abandonTree.dropContents.updNs
  have h2 : s2.ServesAt n := h1.zeroise
  exact h2.nsChanged.syncGroup.mirrorEffect

theorem nsFormat {c : Cmd} (h : s.ServesAt n) : (s.nsFormat c).ServesAt n := by
  unfold State.nsFormat
  extract_lets +onlyGivenNames v
  split
  · exact h.finish
  · split
    · exact h.finish
    · extract_lets +onlyGivenNames lbaf pit others busy
      split
      · exact h.finish
      · split
        · exact h.finish
        · split
          · exact h.finish
          · split
            · exact h.finish
            · split
              · extract_lets +onlyGivenNames s1
                have h1 : s1.ServesAt n := h.applyFormat
                exact h1.of_eq
              · exact h.of_eq

theorem setWait {id : Nat} {w : Option AdminWait} (h : s.ServesAt n) : (s.setWait id w).ServesAt n := h.of_eq

theorem runOp {c : Cmd} {y : NsOp} (h : s.ServesAt n) : (s.runOp c y).ServesAt n := by
  unfold State.runOp
  split
  · exact h.nsCreate
  · exact h.nsDelete
  · exact h.nsAttach
  · exact h.nsDetach
  · exact h.nsFormat
  · split
    · exact h.refuseIo
    · exact h.resvRun

theorem adminGo {id : Nat} (h : s.ServesAt n) : (s.adminGo id).ServesAt n := by
  unfold State.adminGo
  split
  · exact h
  · split
    · exact h.setWait.runOp.ite h
    · exact h.setWait
  · split
    · exact h.setWait.finish.ite h
    · exact h.setWait
  · split
    · exact h
    · split
      · exact h.foldl fun _ _ ht => ht.zeroise
      · exact (((h.foldl fun _ _ ht => ht.nsGone).setWait).finish).ite h
  · extract_lets +onlyGivenNames mine
    exact h.ite h.setWait.finish
  · exact h.ite h.setWait.finish
  · split
    · exact h.applyFormat.setWait.ite h
    · exact h.setWait
  · exact h.setWait.finish.ite h

theorem execNamespaceCreate {v : NvmeCmd} (h : s.ServesAt n) : KeepsServing n (execNamespaceCreate v s) := by
  unfold Machine.execNamespaceCreate
  exact (h.admin fun _ _ ht => ht.inTurn fun _ ht1 => ht1.nsCreate).next

theorem execNamespaceDelete {v : NvmeCmd} (h : s.ServesAt n) : KeepsServing n (execNamespaceDelete v s) := by
  unfold Machine.execNamespaceDelete
  exact (h.admin fun _ _ ht => ht.inTurn fun _ ht1 => ht1.nsDelete).next

theorem execNamespaceAttach {v : NvmeCmd} (h : s.ServesAt n) : KeepsServing n (execNamespaceAttach v s) := by
  unfold Machine.execNamespaceAttach
  exact (h.admin fun _ _ ht => ht.inTurn fun _ ht1 => ht1.nsAttach).next

theorem execNamespaceDetach {v : NvmeCmd} (h : s.ServesAt n) : KeepsServing n (execNamespaceDetach v s) := by
  unfold Machine.execNamespaceDetach
  exact (h.admin fun _ _ ht => ht.inTurn fun _ ht1 => ht1.nsDetach).next

theorem execFormatNvm {v : NvmeCmd} (h : s.ServesAt n) : KeepsServing n (execFormatNvm v s) := by
  unfold Machine.execFormatNvm
  exact (h.admin fun _ _ ht => ht.inTurn fun _ ht1 => ht1.nsFormat).next

theorem execDetachComplete {cmd : Nat} (h : s.ServesAt n) : KeepsServing n (execDetachComplete cmd s) := h.adminGo.next

theorem execCommandCompletion {id : Nat} (h : s.ServesAt n) : KeepsServing n (execCommandCompletion id s) := by
  unfold Machine.execCommandCompletion
  exact (h.ite h.flushMet.adminGo.tryPost.winProgress).next

theorem execNamespaceSweep {nsid gen : Nat} (h : s.ServesAt n) : KeepsServing n (execNamespaceSweep nsid gen s) := by
  unfold Machine.execNamespaceSweep
  refine State.ServesAt.next ?_
  split
  · exact h
  · extract_lets +onlyGivenNames s1
    have h1 : s1.ServesAt n := h.of_eq
    exact h1.foldl fun _ _ ht => ht.liveBy.freeIfEmpty

theorem execRegionZeroFill {nsid region : Nat} (h : s.ServesAt n) : KeepsServing n (execRegionZeroFill nsid region s) := by
  unfold Machine.execRegionZeroFill
  refine State.ServesAt.next ?_
  split
  · exact h
  · split
    · extract_lets +onlyGivenNames s1 s2
      have h1 : s1.ServesAt n := h.chargeTask
      have h2 : s2.ServesAt n := h1.updNs
      exact h2.of_eq
    · exact h

/-! ### Capsules -/

theorem after_ {o : Host.Outcome State Fault Refusal} (h : s.ServesAt n) (ho : KeepsServing n o) : (after_ s o).ServesAt n := by
  cases o with
  | next t => exact ho t rfl
  | fault x => exact h
  | refused x => exact h

theorem propertySetRun {v : NvmeCmd} (h : s.ServesAt n) : (s.propertySetRun v).ServesAt n := by
  unfold State.propertySetRun
  exact (h.after_ h.execPropertySetNssr).ite <| (h.after_ h.execPropertySetCcEnClear).ite <|
    (h.after_ h.execPropertySetCcShn).ite (h.after_ h.execPropertySet)

theorem featureRun {v : NvmeCmd} (h : s.ServesAt n) : (s.featureRun v).ServesAt n := by
  unfold State.featureRun
  split
  · exact h.after_ h.execSetFeaturesQosProfile
  · exact h.after_ h.execSetFeaturesQueueOrdering
  · exact (h.after_ h.execSetFeaturesWindowPublish).ite (h.after_ h.execSetFeaturesWindowRevoke)
  · exact h.after_ h.execSetFeatures
  · exact h.after_ h.execGetFeaturesQosProfile
  · exact h.after_ h.execGetFeaturesQueueOrdering
  · exact h.after_ h.execGetFeaturesWindow
  · exact h.after_ h.execGetFeatures

theorem logPageRun {v : NvmeCmd} (h : s.ServesAt n) : (s.logPageRun v).ServesAt n := by
  unfold State.logPageRun
  split
  · exact h.after_ h.execLogPageLostRanges
  · exact h.after_ h.execLogPageMetering
  · exact h.after_ h.execLogPageLayoutHealth
  · exact h.after_ h.execLogPageEventExcerpt
  · exact h.after_ h.execGetLogPage

theorem fabricsRun {cid : Nat} {v : NvmeCmd} (h : s.ServesAt n) : (s.fabricsRun cid v).ServesAt n := by
  unfold State.fabricsRun
  split
  · exact h.propertySetRun
  · exact h.connect
  · exact h.after_ h.execPropertyGet
  · exact h.after_ h.execAuthenticationSend
  · exact h.after_ h.execAuthenticationReceive
  · exact h.after_ h.execUnsupportedOpcode

theorem execFirmwareImageDownload {v : NvmeCmd} (h : s.ServesAt n) : KeepsServing n (execFirmwareImageDownload v s) := by
  unfold Machine.execFirmwareImageDownload
  refine State.ServesAt.next ?_
  refine h.admin fun c1 t ht => ?_
  extract_lets +onlyGivenNames len ofs
  split
  · exact ht.finish
  · split
    · exact ht.finish
    · extract_lets +onlyGivenNames s1 s2 s3
      have h1 : s1.ServesAt n := ht.updLive
      have h2 : s2.ServesAt n := h1.of_eq.ite h1
      have h3 : s3.ServesAt n := h2.haulSend.send.ite h2
      exact h3.finish

theorem commitArrives {v : NvmeCmd} (h : s.ServesAt n) : (s.commitArrives v).ServesAt n := by
  unfold State.commitArrives
  exact h.admin fun _ _ ht => ht.finish.ite (ht.finish.ite ht)

theorem badSel {v : NvmeCmd} (h : s.ServesAt n) : (s.badSel v).ServesAt n := by
  unfold State.badSel
  exact h.admin fun _ _ ht => ht.finish

theorem adminRun {v : NvmeCmd} (h : s.ServesAt n) : (s.adminRun v).ServesAt n := by
  unfold State.adminRun
  extract_lets +onlyGivenNames sel
  split
  · exact h.logPageRun
  · exact h.after_ h.execIdentify
  · exact h.after_ h.execAbort
  · exact h.featureRun
  · exact h.featureRun
  · exact h.after_ h.execAsyncEventRequest
  · exact (h.after_ h.execNamespaceCreate).ite ((h.after_ h.execNamespaceDelete).ite h.badSel)
  · exact h.commitArrives
  · exact h.after_ h.execFirmwareImageDownload
  · exact (h.after_ h.execNamespaceAttach).ite ((h.after_ h.execNamespaceDetach).ite h.badSel)
  · exact h.after_ h.execKeepAlive
  · exact h.after_ h.execFormatNvm
  · exact h.after_ h.execUnsupportedOpcode

theorem commandRun {cid : Nat} {v : NvmeCmd} (h : s.ServesAt n) : (s.commandRun cid v).ServesAt n := by
  unfold State.commandRun
  exact h.fabricsRun.ite (h.adminRun.ite (h.resvCmd.ite h.deliverIo))

theorem capsule {c : Conn} {ord : Bool} {msg cap len buf : Nat} (h : s.ServesAt n) : (s.capsule c ord msg cap len buf).ServesAt n := by
  unfold State.capsule
  extract_lets +onlyGivenNames at_
  split
  · exact h.commandRun
  · extract_lets +onlyGivenNames v
    exact h.connect.ite h.connectAnswer

theorem placeBytes {cid msg key addr k v : Nat} (h : s.ServesAt n) : (s.placeBytes cid msg key addr k v).1.ServesAt n := by
  unfold State.placeBytes
  split
  · exact h
  · extract_lets +onlyGivenNames spans has fresh
    split
    · exact h.bump.memNotice
    · extract_lets +onlyGivenNames put
      exact h.of_eq

/-! ### Switch core -/

theorem syncFwd (h : s.ServesAt n) : s.syncFwd.ServesAt n := by
  unfold State.syncFwd
  extract_lets +onlyGivenNames old on s1
  have h1 : s1.ServesAt n := h.wrB.wrB
  exact h1.ite h1.raise

theorem groupDown {t : Nat} (h : s.ServesAt n) : (s.groupDown t).ServesAt n := by
  unfold State.groupDown
  exact h.foldl fun _ _ ht => ht.raise.ite ht

theorem swcNotice {loc code data : Nat} (h : s.ServesAt n) : (s.swcNotice loc code data).ServesAt n := by
  unfold State.swcNotice
  extract_lets +onlyGivenNames recent
  split
  · exact h
  · extract_lets +onlyGivenNames s1
    have h1 : s1.ServesAt n := h.of_eq
    exact h1.raise

theorem colour {p c len : Nat} (h : s.ServesAt n) : (s.colour p c len).2.ServesAt n := by
  unfold State.colour
  extract_lets +onlyGivenNames j pir
  split
  · exact h
  · dsimp -zeta only
    extract_lets +onlyGivenNames dt tc tp b cbs pbs
    exact h.of_eq

theorem redMarks {o c col q : Nat} (h : s.ServesAt n) : (s.redMarks o c col q).2.ServesAt n := by
  unfold State.redMarks
  extract_lets +onlyGivenNames k mn mx
  split
  · exact h
  · split
    · exact h
    · dsimp -zeta only
      exact h.draw

theorem admitFrame {i c o need : Nat} (h : s.ServesAt n) : (s.admitFrame i c o need).2.ServesAt n := by
  unfold State.admitFrame
  extract_lets +onlyGivenNames pe pi q
  split
  · exact h.bump
  · split
    · exact h
    · split
      · split
        · exact h
        · exact h.bump
      · split
        · exact h
        · exact h.bump.swcNotice

theorem enqueue {i c o col dst vid : Nat} {ip : Option IpHdr} {storage : Bool} {len hdr head : Nat} {cellOk : Bool} {ptp : Option PtpTx}
    (h : s.ServesAt n) : (s.enqueue i c o col dst vid ip storage len hdr head cellOk ptp).2.ServesAt n := by
  unfold State.enqueue
  extract_lets +onlyGivenNames q
  split
  · rename_i t heq
    have ht : t.ServesAt n := h.admitFrame.of_snd heq
    exact ht
  · rename_i t heq
    have ht : t.ServesAt n := h.admitFrame.of_snd heq
    dsimp -zeta only
    extract_lets +onlyGivenNames ecn
    split
    · exact ht.redMarks.bump
    · split
      · exact ht.redMarks.bump.countRepair
      · extract_lets +onlyGivenNames ce s1 f s2
        have h1 : s1.ServesAt n := ht.redMarks.bump.ite ht.redMarks
        have h2 : s2.ServesAt n := h1.of_eq
        exact h2.syncCells.syncXoff.leaveLpi

theorem transitTarget {f : EthFrame} {vid : Nat} (h : s.ServesAt n) : (s.transitTarget f vid).2.ServesAt n := by
  generalize hg : @State.transitTarget = g
  delta State.transitTarget at hg
  generalize hp : g s f vid = p
  subst hg
  beta_reduce at hp
  split at hp
  · subst hp; exact h.bump (f := F.SWC_FWD_MISS)
  · extract_lets +onlyGivenNames dest at hp
    clear_value dest
    split at hp
    · split at hp
      · subst hp; exact h
      · subst hp; exact h.bump (f := F.SWC_LINK_DROP)
    · subst hp; exact h.bump (f := F.SWC_LINK_DROP)

theorem classify {m vid : Nat} {f : EthFrame} (h : s.ServesAt n) : (s.classify m vid f).2.ServesAt n := by
  unfold State.classify
  split
  · exact h.transitTarget
  · split
    · split
      · exact h
      · split
        · exact h
        · exact h.bump.swcNotice
    · exact h

theorem noteArrival {f : EthFrame} {mac vid cls : Nat} (h : s.ServesAt n) : (s.noteArrival f mac vid cls).ServesAt n := by
  unfold State.noteArrival
  extract_lets +onlyGivenNames sport
  exact h.of_eq

theorem dispatchFrame {t : Target} {i c col mac vid : Nat} {storage : Bool} {haulTo : Option Nat} {f : EthFrame} (h : s.ServesAt n) :
    (s.dispatchFrame t i c col mac vid storage haulTo f).2.ServesAt n := by
  unfold State.dispatchFrame
  extract_lets +onlyGivenNames go
  have hgo : ∀ s o, s.ServesAt n → (go s o).2.ServesAt n := fun s o ht => ht.enqueue
  split
  · exact h
  · split
    · next heq => exact (hgo _ _ h).of_snd heq
    · next s1 heq =>
      have h1 : s1.ServesAt n := (hgo _ _ h).of_snd heq
      extract_lets +onlyGivenNames w s2 s3
      have h3 : s3.ServesAt n := (State.ServesAt.syncCells h1.of_eq).syncXoff
      dsimp -zeta only
      split
      · refine State.ServesAt.send ?_
        cases w with
        | none => exact h3.police
        | some x => exact h3.police.sampleSent
      · exact h3.police.bump.swcNotice
  · split
    · exact h.bump (roleKey_ne _ _ _)
    · split
      · next heq => exact (hgo _ _ h).of_snd heq
      · next s1 heq =>
        have h1 : s1.ServesAt n := (hgo _ _ h).of_snd heq
        extract_lets +onlyGivenNames w handle leave
        have hleave : ∀ t, t.ServesAt n → (leave t).ServesAt n := by
          intro t ht
          have hsync := (State.ServesAt.syncCells (ht.of_eq (t := { t with swq := t.swq.dropLast }))).syncXoff (m := i)
          unfold leave
          cases w with
          | none => exact hsync
          | some x => exact hsync.sampleSent
        split
        · exact h1
        · split
          · have h2 := hleave _ h1
            exact (h2.bump.ite h2).haulSend.send
          · extract_lets +onlyGivenNames s2
            have h2 : s2.ServesAt n := h1.noteArrival
            split
            · exact h2
            · exact (hleave _ h2).send

theorem execEthFrameReceive {mac : Nat} {f : EthFrame} (h : s.ServesAt n) : KeepsServing n (execEthFrameReceive mac f s) := by
  unfold Machine.execEthFrameReceive
  refine State.ServesAt.next ?_
  split
  · exact h
  · extract_lets +onlyGivenNames s1
    have h1 : s1.ServesAt n := h.addStat.addStat
    split
    · exact h1.addStat
    · extract_lets +onlyGivenNames vid c s2 s3 transit storage haulTo
      have h2 : s2.ServesAt n := h1.addStat.addStat
      have h3 : s3.ServesAt n := h2.send.ite h2
      dsimp -zeta only
      extract_lets +onlyGivenNames s4
      have h4 : s4.ServesAt n := by
        unfold s4
        split
        · exact h3.colour.classify.dispatchFrame.bump
        · exact h3.colour.classify.dispatchFrame
      exact h4.sampleAt

theorem haulFrame {t : Target} {fromMac cls vid : Nat} {storage : Bool} {f : EthFrame} (h : s.ServesAt n) :
    (s.haulFrame t fromMac cls vid storage f).ServesAt n := by
  unfold State.haulFrame
  dsimp -zeta only
  exact h.colour.dispatchFrame.sampleAt

theorem execHaulForwardFrame {fromMac cls : Nat} {toMac : Option Nat} {f : EthFrame} (h : s.ServesAt n) :
    KeepsServing n (execHaulForwardFrame fromMac cls toMac f s) := by
  unfold Machine.execHaulForwardFrame
  refine State.ServesAt.next ?_
  split
  · exact h
  · extract_lets +onlyGivenNames vid
    split
    · extract_lets +onlyGivenNames t s1
      have h1 : s1.ServesAt n := h.ite h.bump
      exact h1.haulFrame
    · split
      · exact h
      · split
        · exact h
        · exact h.haulFrame

theorem sendFrame {m : Nat} {f : SwFrame} (h : s.ServesAt n) : (s.sendFrame m f).ServesAt n := by
  unfold State.sendFrame
  extract_lets +onlyGivenNames s1 s2 s3 s4 s5 s6
  have h1 : s1.ServesAt n := h.of_eq
  have h2 : s2.ServesAt n := h1.syncCells.syncXoff
  have h3 : s3.ServesAt n := h2.addStat.addStat
  have h4 : s4.ServesAt n := h3.updMac
  have h5 : s5.ServesAt n := by
    unfold s5
    split
    · exact h4.stampTx
    · exact h4
  have h6 : s6.ServesAt n := h5.send
  exact h6.sampleSent

theorem transmitNext {m c : Nat} (h : s.ServesAt n) : (s.transmitNext m c).ServesAt n := by
  unfold State.transmitNext
  split
  · exact h
  · split
    · exact h.sendFrame
    · exact h

theorem originate {w : OwnFrame} {m c dst vid : Nat} (h : s.ServesAt n) : (s.originate w m c dst vid).ServesAt n := by
  unfold State.originate
  extract_lets +onlyGivenNames up
  dsimp -zeta only
  extract_lets +onlyGivenNames s1
  have h1 : s1.ServesAt n := by
    unfold s1
    have hb : (if (!up) = true then (Fate.drop 8, s.bump F.SWC_LINK_DROP) else s.enqueue w.port c (if m < 32 then m else 36) 0 dst vid
        none (w.port != 37) w.len w.hdr w.head true w.ptp).2.ServesAt n := by
      split
      · exact h.bump
      · exact h.enqueue
    exact hb.of_eq
  extract_lets +onlyGivenNames s2
  have h2 : s2.ServesAt n := by
    unfold s2
    split
    · exact h1.syncCells.sampleSent.haulSend.send
    · split
      · exact h.bump
      · exact h.enqueue
  exact h2.sampleAt

theorem execEthFrameTransmit {mac cls : Nat} {own : Option OwnFrame} (h : s.ServesAt n) :
    KeepsServing n (execEthFrameTransmit mac cls own s) := by
  unfold Machine.execEthFrameTransmit
  refine State.ServesAt.next ?_
  split
  · exact h.transmitNext
  · extract_lets +onlyGivenNames at_ m c dst vid s1
    have h1 : s1.ServesAt n := h.originate
    exact h1.transmitNext.ite h1

theorem execMacLinkUp {mac : Nat} {common eee : Bool} (h : s.ServesAt n) : KeepsServing n (execMacLinkUp mac common eee s) := by
  unfold Machine.execMacLinkUp
  refine State.ServesAt.next ?_
  extract_lets +onlyGivenNames b c2m
  split
  · exact h
  · extract_lets +onlyGivenNames s1 s2 s3
    have h1 : s1.ServesAt n := (h.setBit (by simp only [F.PRT_STAT_LINK]; omega)).setBit (by simp only [F.PRT_STAT_FEC_LOCK]; omega)
    have h3 : s3.ServesAt n := h1.updMac
    extract_lets +onlyGivenNames s4
    have h4 : s4.ServesAt n := (h3.wrB (by simp only [F.PRT_STAT_EEE_AN]; omega)).ite h3
    exact h4.raise

theorem linkDown {mac atPort : Nat} (h : s.ServesAt n) : (s.linkDown mac atPort).ServesAt n := by
  unfold State.linkDown
  split
  · exact h
  · extract_lets +onlyGivenNames b n1 s1 s2 s3 s4 s5 s6
    have h1 : s1.ServesAt n := h.addStat.addStat
    have h2 : s2.ServesAt n := h1.bumpBy
    have h3 : s3.ServesAt n := (h2.setBit (by simp only [F.PRT_STAT_LINK]; omega)).setBit (by simp only [F.PRT_STAT_FEC_LOCK]; omega)
    have h4 : s4.ServesAt n := h3.lpiAccrue
    have h5 : s5.ServesAt n := by
      unfold s5
      split
      · exact (h4.wr (by simp only [F.PRT_STAT_LPI_TX]; omega)).wr (by simp only [F.PRT_STAT_EEE_AN]; omega)
      · exact h4
    extract_lets +onlyGivenNames s7
    have h7 : s7.ServesAt n := h5.updMac
    exact h7.freeFrames.raise.groupDown

theorem execMacLinkDown {mac atPort : Nat} (h : s.ServesAt n) : KeepsServing n (execMacLinkDown mac atPort s) := h.linkDown.next

theorem execPfcWatchdogDetect {mac cls atPort : Nat} (h : s.ServesAt n) : KeepsServing n (execPfcWatchdogDetect mac cls atPort s) := by
  unfold Machine.execPfcWatchdogDetect
  refine State.ServesAt.next ?_
  split
  · exact h
  · extract_lets +onlyGivenNames there s1 s2 until_ s3
    have h1 : s1.ServesAt n := h.addStat
    have h2 : s2.ServesAt n := h1.foldl fun _ _ ht => ht.of_eq.syncCells.syncXoff
    have h3 : s3.ServesAt n := h2.updMac
    exact h3.raise

theorem execLpiIdleExpiry {mac : Nat} (h : s.ServesAt n) : KeepsServing n (execLpiIdleExpiry mac s) := by
  unfold Machine.execLpiIdleExpiry
  refine State.ServesAt.next ?_
  extract_lets +onlyGivenNames b idle
  exact (h.updMac.wr (by simp only [F.PRT_STAT_LPI_TX]; omega)).ite h

/-! ### Endpoint -/

theorem epEnsure {idx f : Nat} (h : s.ServesAt n) : (s.epEnsure idx f).ServesAt n := by
  unfold State.epEnsure
  split
  · exact h
  · extract_lets +onlyGivenNames k
    exact h.of_eq

theorem epRemove {f : Nat} (h : s.ServesAt n) : (s.epRemove f).ServesAt n := h.of_eq

theorem syncRelay (h : s.ServesAt n) : s.syncRelay.ServesAt n := h.wrB

theorem epResume {f : Nat} (h : s.ServesAt n) : (s.epResume f).ServesAt n := by
  unfold State.epResume
  extract_lets +onlyGivenNames s1
  have h1 : s1.ServesAt n := h.epFlush
  exact h1.epIssue.epFetchAll

theorem epResumeAll (h : s.ServesAt n) : s.epResumeAll.ServesAt n := by
  unfold State.epResumeAll
  exact h.syncEpQuar.foldl fun _ _ ht => ht.epResume

theorem execEpDoorbell {f qid : Nat} {cq : Bool} {val : Nat} (h : s.ServesAt n) : KeepsServing n (execEpDoorbell f qid cq val s) := by
  unfold Machine.execEpDoorbell
  refine State.ServesAt.next ?_
  extract_lets +onlyGivenNames idx
  split
  · exact h
  · extract_lets +onlyGivenNames s1
    have h1 : s1.ServesAt n := h.epTlp
    split
    · exact h1
    · exact h1.ite (h1.updCtrl.epFlush.ite h1.updQueue.epFetchSq)

theorem epQueueOp {v : NvmeCmd} (h : s.ServesAt n) : (s.epQueueOp v).2.ServesAt n := by
  unfold State.epQueueOp
  extract_lets +onlyGivenNames qid size
  split
  · exact h
  · extract_lets +onlyGivenNames has badId badSize new
    split
    · split
      · exact h
      · split
        · exact h
        · split
          · exact h
          · split
            · exact h
            · extract_lets +onlyGivenNames q
              exact h.updCtrl
    · split
      · exact h
      · split
        · exact h
        · split
          · exact h
          · split
            · exact h
            · extract_lets +onlyGivenNames q
              exact h.updCtrl
    · split
      · exact h
      · dsimp -zeta only
        exact h.applyReset.updCtrl
    · split
      · exact h
      · split
        · exact h
        · exact h.updCtrl

theorem queueCmd {v : NvmeCmd} (h : s.ServesAt n) : (s.queueCmd v).ServesAt n := by
  unfold State.queueCmd
  refine h.admin fun c1 t ht => ?_
  split
  · exact ht.finish
  · dsimp -zeta only
    exact ht.epQueueOp.finish

theorem execCreateIoSq {v : NvmeCmd} (h : s.ServesAt n) : KeepsServing n (execCreateIoSq v s) := h.queueCmd.next

theorem execCreateIoCq {v : NvmeCmd} (h : s.ServesAt n) : KeepsServing n (execCreateIoCq v s) := h.queueCmd.next

theorem execDeleteIoSq {v : NvmeCmd} (h : s.ServesAt n) : KeepsServing n (execDeleteIoSq v s) := h.queueCmd.next

theorem execDeleteIoCq {v : NvmeCmd} (h : s.ServesAt n) : KeepsServing n (execDeleteIoCq v s) := h.queueCmd.next

theorem epRun {v : NvmeCmd} (h : s.ServesAt n) : (s.epRun v).ServesAt n := by
  unfold State.epRun
  extract_lets +onlyGivenNames s1 s2 id s3
  have h1 : s1.ServesAt n := h.of_eq
  have h2 : s2.ServesAt n := h1.ite h1.of_eq.send
  have h3 : s3.ServesAt n := by
    unfold s3
    split
    · exact h2.queueCmd
    · exact (h2.admin fun _ _ ht => ht.finish).ite h2.commandRun
  split
  · exact h3.mirrorNote
  · exact h3

theorem epRelayOne {v : NvmeCmd} {entry : Nat} (h : s.ServesAt n) : (s.epRelayOne v entry).ServesAt n := by
  unfold State.epRelayOne
  extract_lets +onlyGivenNames s1
  have h1 : s1.ServesAt n := h.haulSend.send.bump
  exact h1.epQueueOp.ite h1

theorem epFree {tag : Nat} (h : s.ServesAt n) : (s.epFree tag).ServesAt n := h.of_eq

theorem epDiscard {r : EpRead} (h : s.ServesAt n) : (s.epDiscard r).ServesAt n := by
  unfold State.epDiscard
  extract_lets +onlyGivenNames s1
  have h1 : s1.ServesAt n := h.epFree.bump
  split
  · exact h1
  · exact h1.of_eq

theorem epNotice {loc code f : Nat} (h : s.ServesAt n) : (s.epNotice loc code f).ServesAt n := h.raiseOnce

theorem epLate {r : EpRead} (h : s.ServesAt n) : (s.epLate r).ServesAt n := h.epFree.bump.epNotice.epResumeAll

theorem execEpSqeFetched {tag : Nat} {es : List EpEntry} (h : s.ServesAt n) : KeepsServing n (execEpSqeFetched tag es s) := by
  unfold Machine.execEpSqeFetched
  refine State.ServesAt.next ?_
  split
  · exact h
  · extract_lets +onlyGivenNames s1
    have h1 : s1.ServesAt n := h.epTlp
    split
    · exact h1.epLate
    · split
      · exact h1
      · split
        · exact h1.epDiscard
        · extract_lets +onlyGivenNames s2 s3 s4
          have h2 : s2.ServesAt n := h1.epFree.bumpBy
          have h3 : s3.ServesAt n := h2.updQueue
          have h4 : s4.ServesAt n := by
            unfold s4
            refine h3.foldl fun a x ha => ?_
            extract_lets +onlyGivenNames v
            exact ha.epRun.ite ha.epRelayOne
          exact h4.epFetchSq

theorem epFatal {f cause : Nat} (h : s.ServesAt n) : (s.epFatal f cause).ServesAt n := by
  unfold State.epFatal
  extract_lets +onlyGivenNames s1
  have h1 : s1.ServesAt n := h.updCtrl
  exact h1.raise

theorem execEpReadCompletion {tag status data : Nat} (h : s.ServesAt n) : KeepsServing n (execEpReadCompletion tag status data s) := by
  unfold Machine.execEpReadCompletion
  refine State.ServesAt.next ?_
  split
  · exact h
  · extract_lets +onlyGivenNames s1 s2
    have h1 : s1.ServesAt n := h.epTlp
    have h2 : s2.ServesAt n := h1.bump.raise.ite h1
    split
    · exact h2.epLate
    · split
      · exact h2.epDiscard.epResumeAll
      · split
        · extract_lets +onlyGivenNames bitNo
          exact h2.epFree.updEpf.epFatal
        · split
          · exact h2
          · extract_lets +onlyGivenNames s3
            have h3 : s3.ServesAt n := h2.epFree
            split
            · exact h3.epResumeAll
            · extract_lets +onlyGivenNames got
              exact h3.epDropFetch.dataArrived.epResumeAll.ite h3.of_eq.epResumeAll

theorem execEpCompletionTimeout {tag ctoUs : Nat} (h : s.ServesAt n) : KeepsServing n (execEpCompletionTimeout tag ctoUs s) := by
  unfold Machine.execEpCompletionTimeout
  refine State.ServesAt.next ?_
  split
  · exact h
  · split
    · exact h
    · extract_lets +onlyGivenNames s1 s2 s3 s4
      have h1 : s1.ServesAt n := h.bump.epNotice
      have h2 : s2.ServesAt n := h1.updEpf
      have h3 : s3.ServesAt n := h2.of_eq
      have h4 : s4.ServesAt n := h3.syncEpQuar
      split
      · exact h4.epFatal
      · split
        · split
          · exact h4
          · exact h4.of_eq
        · split
          · rename_i t heq
            have ht : t.ServesAt n := h4.epRead heq
            exact ht
          · split
            · exact h4
            · exact h4.of_eq

theorem execEpQuarantineExpiry {tag ctoUs : Nat} (h : s.ServesAt n) : KeepsServing n (execEpQuarantineExpiry tag ctoUs s) := by
  unfold Machine.execEpQuarantineExpiry
  refine State.ServesAt.next ?_
  extract_lets +onlyGivenNames free
  exact h.epFree.epResumeAll.ite h

theorem execEpBmeWrite {f : Nat} {on : Bool} (h : s.ServesAt n) : KeepsServing n (execEpBmeWrite f on s) := by
  unfold Machine.execEpBmeWrite
  refine State.ServesAt.next ?_
  split
  · exact h
  · extract_lets +onlyGivenNames s1
    have h1 : s1.ServesAt n := h.epTlp.updEpf
    exact h1.epResume.ite h1

theorem execEpPowerState {f : Nat} {d3 : Bool} (h : s.ServesAt n) : KeepsServing n (execEpPowerState f d3 s) := by
  unfold Machine.execEpPowerState
  refine State.ServesAt.next ?_
  split
  · exact h
  · extract_lets +onlyGivenNames s1
    have h1 : s1.ServesAt n := h.epTlp.updEpf
    exact h1.ite h1.epResume

theorem execEpMsixUnmask {f vector : Nat} (h : s.ServesAt n) : KeepsServing n (execEpMsixUnmask f vector s) := by
  unfold Machine.execEpMsixUnmask
  refine State.ServesAt.next ?_
  split
  · exact h
  · extract_lets +onlyGivenNames s1 pending s2
    have h1 : s1.ServesAt n := h.epTlp
    have h2 : s2.ServesAt n := h1.updEpf
    exact h2.send.ite h2

theorem execEpL1Idle {aspm : Bool} (h : s.ServesAt n) : KeepsServing n (execEpL1Idle aspm s) := by
  unfold Machine.execEpL1Idle
  refine State.ServesAt.next ?_
  extract_lets +onlyGivenNames outstanding waits
  split
  · extract_lets +onlyGivenNames s1
    have h1 : s1.ServesAt n := h.bump
    exact h1.of_eq
  · exact h

theorem execEpLtrIdle (h : s.ServesAt n) : KeepsServing n (execEpLtrIdle s) := by
  unfold Machine.execEpLtrIdle
  exact (h.of_eq.send.ite h).next

theorem execEpCcEnable {f cc aqa : Nat} (h : s.ServesAt n) : KeepsServing n (execEpCcEnable f cc aqa s) := by
  unfold Machine.execEpCcEnable
  refine State.ServesAt.next ?_
  split
  · exact h
  · extract_lets +onlyGivenNames idx s1
    have h1 : s1.ServesAt n := h.epEnsure.epTlp
    split
    · exact h1
    · split
      · exact h1
      · extract_lets +onlyGivenNames asq acq okay
        split
        · exact h1.updCtrl
        · extract_lets +onlyGivenNames sq cq
          extract_lets +onlyGivenNames cq1
          exact h1.updCtrl.syncReady

theorem execEpCcEnClear {f : Nat} (h : s.ServesAt n) : KeepsServing n (execEpCcEnClear f s) := by
  unfold Machine.execEpCcEnClear
  exact (h.epTlp.resetCtrl.ite h).next

theorem execEpCcShnWrite {f shn : Nat} (h : s.ServesAt n) : KeepsServing n (execEpCcShnWrite f shn s) := by
  unfold Machine.execEpCcShnWrite
  exact (h.epTlp.shutdownCtrl.ite h).next

theorem execEpNssrWrite {f val : Nat} (h : s.ServesAt n) : KeepsServing n (execEpNssrWrite f val s) := by
  unfold Machine.execEpNssrWrite
  refine State.ServesAt.next ?_
  extract_lets +onlyGivenNames idx
  exact h.epTlp.nssReset.ite h

theorem epReset {f : Nat} {link : Bool} (h : s.ServesAt n) : (s.epReset f link).ServesAt n := by
  unfold State.epReset
  extract_lets +onlyGivenNames s1 s2 s3 s4
  have h1 : s1.ServesAt n := h.resetCtrl
  have h2 : s2.ServesAt n := h1.updCtrl
  have h4 : s4.ServesAt n := h2.updEpf
  extract_lets +onlyGivenNames s5
  have h5 : s5.ServesAt n := h4.of_eq
  exact h5.syncEpQuar

theorem epSetVf {num : Nat} {link : Bool} (h : s.ServesAt n) : (s.epSetVf num link).ServesAt n := by
  unfold State.epSetVf
  extract_lets +onlyGivenNames old
  split
  · exact h
  · extract_lets +onlyGivenNames s1 s2 s3
    have h1 : s1.ServesAt n := h.foldl fun _ _ ht => ht.epReset.epRemove
    have h2 : s2.ServesAt n := h1.wr
    have h3 : s3.ServesAt n := h2.foldl fun _ _ ht => ht.epEnsure
    exact h3.raise

theorem execEpVfEnable {num : Nat} (h : s.ServesAt n) : KeepsServing n (execEpVfEnable num s) := by
  unfold Machine.execEpVfEnable
  exact (h.ite h.epTlp.epSetVf).next

theorem execEpFlr {f : Nat} (h : s.ServesAt n) : KeepsServing n (execEpFlr f s) := by
  unfold Machine.execEpFlr
  refine State.ServesAt.next ?_
  split
  · exact h
  · extract_lets +onlyGivenNames s1 s2
    have h1 : s1.ServesAt n := h.epTlp.bump.raise
    have h2 : s2.ServesAt n := h1.epReset
    exact h2.epSetVf.ite h2

theorem epLinkReset (h : s.ServesAt n) : s.epLinkReset.ServesAt n := by
  unfold State.epLinkReset
  extract_lets +onlyGivenNames s1 s2 s3
  have h1 : s1.ServesAt n := h.epReset.epSetVf
  have h2 : s2.ServesAt n := h1.of_eq
  have h3 : s3.ServesAt n := h2.wr.wr.wr.wr
  exact h3.syncEpQuar.syncRelay.bump.raise

theorem execEpLinkReset {kind : Nat} (h : s.ServesAt n) : KeepsServing n (execEpLinkReset kind s) := by
  unfold Machine.execEpLinkReset
  exact (h.epLinkReset.ite h).next

theorem execEpLinkUp {speed width : Nat} (h : s.ServesAt n) : KeepsServing n (execEpLinkUp speed width s) := by
  unfold Machine.execEpLinkUp
  refine State.ServesAt.next ?_
  split
  · exact h
  · extract_lets +onlyGivenNames best sp w s1 s2
    have h1 : s1.ServesAt n := h.wr.wr.wr.wr
    have h2 : s2.ServesAt n := h1.epEnsure.epTlp.syncRelay.raise
    exact h2.raise.ite h2

/-! ### Bank images and reloads -/

theorem putSetting {e : SetEntry} (h : s.ServesAt n) : (s.putSetting e).1.ServesAt n := by
  unfold State.putSetting
  split
  · next hd hk =>
    rw [State.settingKey, hd] at hk
    exact (h.writeWord fun heq => line_of_homeKey_timStat hd (heq ▸ hk)).ppsCfgChanged
  · exact h

theorem windowSettings {b : Nat} {img : BankImg} (h : s.ServesAt n) : (s.windowSettings b img).ServesAt n := by
  unfold State.windowSettings
  extract_lets +onlyGivenNames s1 s2
  have h1 : s1.ServesAt n := h.wr (by simp only [F.BENCH_CTL_LOCK]; omega)
  have h2 : s2.ServesAt n := h1.foldl fun _ _ ht => ht.putSetting
  exact h2.wr (by simp only [F.BENCH_CTL_LOCK]; omega)

theorem halfOut {q : Nat} (h : s.ServesAt n) : (s.halfOut q).ServesAt n := by
  unfold State.halfOut
  extract_lets +onlyGivenNames kept s1 s2
  have h1 : s1.ServesAt n := h.wr (halfUpFld_key q)
  have h2 : s2.ServesAt n := (h1.updHalf.foldl fun _ _ ht => ht.bump.haulSend).ite h1
  exact h2.syncFwd.syncRelay

theorem retrainHalves (h : s.ServesAt n) : s.retrainHalves.ServesAt n := by
  unfold State.retrainHalves
  split
  · exact h.updLive
  · exact h.updLive.halfOut

theorem loadSerdes {b : Nat} {img : BankImg} (h : s.ServesAt n) : (s.loadSerdes b img).ServesAt n := by
  unfold State.loadSerdes
  extract_lets +onlyGivenNames runs
  split
  · exact h
  · extract_lets +onlyGivenNames s1
    have h1 : s1.ServesAt n := h.updLive
    split
    · exact h1.updLive.retrainHalves
    · split
      · exact h1.foldl fun _ _ ht => ht.linkOff.updPort.endCommands.ite ht
      · exact h1

theorem loadBench {b : Nat} {img : BankImg} (h : s.ServesAt n) : (s.loadBench b img).ServesAt n := by
  unfold State.loadBench
  extract_lets +onlyGivenNames s1 s2 s3 s4
  have h2 : s2.ServesAt n := h.windowSettings.wr (by dsimp only; omega)
  have h4 : s4.ServesAt n := h2.updLive.loadSerdes
  exact (h4.foldl fun _ _ ht => ht.linkDown).loadMode.ite h4

theorem reloadSingleton {b : Nat} {act : Bool} (h : s.ServesAt n) : (s.reloadSingleton b act).ServesAt n := by
  unfold State.reloadSingleton
  extract_lets +onlyGivenNames s1
  have h1 : s1.ServesAt n := h.updPair.wr.haulSend.send.ite h
  exact h1.startReload

theorem liveNext (h : s.ServesAt n) : s.liveNext.ServesAt n := by
  unfold State.liveNext
  extract_lets +onlyGivenNames here
  split
  · exact h
  · split
    · exact h
    · dsimp -zeta only
      split
      · exact h.reloadSingleton
      · split
        · exact h.wr
        · split
          · exact h.wr.haulSend
          · split
            · exact h.wr.haulSend.send
            · exact h

theorem liveStart (h : s.ServesAt n) : s.liveStart.ServesAt n := by
  unfold State.liveStart
  split
  · exact h
  · extract_lets +onlyGivenNames plan s1 s2
    have h1 : s1.ServesAt n := h.updLive
    have h2 : s2.ServesAt n := h1.foldl fun _ _ ht => ht.updRot.liveClass.ite ht
    exact h2.liveNext

theorem abandonLive {reason : Nat} (h : s.ServesAt n) : (s.abandonLive reason).ServesAt n := by
  unfold State.abandonLive
  split
  · exact h
  · extract_lets +onlyGivenNames back cmd s1 s2 s3 s4
    have h1 : s1.ServesAt n := h.wr.raise
    have h2 : s2.ServesAt n := h1.updLive
    have h3 : s3.ServesAt n := h2.wr
    have h4 : s4.ServesAt n := h3.foldl fun _ _ ht => ht.updRot.liveClass.payOwed
    clear_value cmd
    split
    · exact h4.finish.ite h4
    · exact h4

theorem reloadEnd {b : Nat} {ok : Bool} (h : s.ServesAt n) : (s.reloadEnd b ok).ServesAt n := by
  unfold State.reloadEnd
  split
  · exact h
  · extract_lets +onlyGivenNames img keep s1 s2 s3 s4
    have h1 : s1.ServesAt n := h.updLive
    have h2 : s2.ServesAt n := h1.wr
    have h3 : s3.ServesAt n := by
      unfold s3
      clear_value img
      split
      · exact h2.loadBench.raise
      · exact h2
    have h4 : s4.ServesAt n := h3.updPair.wr.haulSend.send
    extract_lets +onlyGivenNames s5
    have h5 : s5.ServesAt n := by
      unfold s5
      split
      · exact (h3.setBenchState.ite h3).selftestEnd
      · exact h4.ite h4.faultBench
    exact h5.abandonLive.ite h5.liveNext

/-! ### Operator commands -/

theorem answer {d : ReplyTo} {tag command cc detail : Nat} {body : List Nat} (h : s.ServesAt n) :
    (s.answer d tag command cc detail body).ServesAt n := by
  unfold State.answer
  exact h.haulSend.send.ite (h.chainSend.ite h.send)

theorem oweReply {d : ReplyTo} (h : s.ServesAt n) : (s.oweReply d).ServesAt n := by
  unfold State.oweReply
  exact h.ite h.of_eq

theorem answerOwed {d : ReplyTo} {tag command cc detail : Nat} {body : List Nat} (h : s.ServesAt n) :
    (s.answerOwed d tag command cc detail body).ServesAt n := by
  unfold State.answerOwed
  extract_lets +onlyGivenNames s1
  extract_lets +onlyGivenNames s2
  have h2 : s2.ServesAt n := h.ite h.of_eq
  exact h2.answer

theorem bindFunctions (h : s.ServesAt n) : s.bindFunctions.ServesAt n := h.of_eq

theorem putIdent {i : Ident} (h : s.ServesAt n) : (s.putIdent i).ServesAt n := by
  unfold State.putIdent
  extract_lets +onlyGivenNames old i1
  exact h.of_eq.bindFunctions.raise

theorem deregister {i : Nat} (h : s.ServesAt n) : (s.deregister i).ServesAt n := by
  unfold State.deregister
  extract_lets +onlyGivenNames s1 s2 s3
  have h1 : s1.ServesAt n := h.foldl fun _ _ ht => ht.resetCtrl
  have h2 : s2.ServesAt n := h1.foldl fun _ _ ht => ht.updNs.unregister
  have h3 : s3.ServesAt n := h2.revokeWhere
  exact h3.of_eq.bindFunctions.raise

theorem qosSet {scope id d : Nat} (h : s.ServesAt n) : (s.qosSet scope id d).ServesAt n := by
  unfold State.qosSet
  split
  · exact h.updNs
  · split
    · exact h.updQueue
    · exact h

theorem adminResult {command : Nat} {unwraps : Bool} {b : List Nat} (h : s.ServesAt n) :
    (s.adminResult command unwraps b).1.ServesAt n := by
  unfold State.adminResult
  extract_lets +onlyGivenNames refuse index scope id d
  split
  · exact h
  · split
    · extract_lets +onlyGivenNames e
      split
      · exact h
      · exact h.putIdent
    · split
      · exact h
      · split
        · exact h.deregister
        · exact h
    · split
      · exact h
      · exact h
    · split
      · exact h
      · exact h.qosSet
    · split
      · exact h
      · exact h

theorem adminRequest {d : ReplyTo} {tag command : Nat} {unwraps : Bool} {body : List Nat} (h : s.ServesAt n) :
    (s.adminRequest d tag command unwraps body).ServesAt n := by
  unfold State.adminRequest
  dsimp -zeta only
  extract_lets +onlyGivenNames change
  split
  · exact h.adminResult.mirror.oweReply
  · exact h.adminResult.mirrorAlso.answer.ite h.adminResult.answer

theorem adminByRole {d : ReplyTo} {tag command : Nat} {unwraps : Bool} {body : List Nat} (h : s.ServesAt n) :
    (s.adminByRole d tag command unwraps body).ServesAt n := by
  unfold State.adminByRole
  extract_lets +onlyGivenNames r
  exact h.adminRequest.ite (h.haulSend.send.oweReply.ite h.answer)

/-! ### NRT -/

theorem nrtError {c : Conn} (h : s.ServesAt n) : (s.nrtError c).ServesAt n := by
  unfold State.nrtError
  extract_lets +onlyGivenNames c1 s1
  have h1 : s1.ServesAt n := h.setConn.nrtBare.raiseX
  exact h1.connDown.setConn

theorem nrtAcked {c : Conn} {p : NrtPkt} {bm : List Nat} (h : s.ServesAt n) : (s.nrtAcked c p bm).ServesAt n := by
  unfold State.nrtAcked
  dsimp -zeta only
  extract_lets +onlyGivenNames d d1
  split
  · split
    · exact h.nrtError
    · extract_lets +onlyGivenNames s1
      have h1 : s1.ServesAt n := h.resendAll.goOn.foldl fun _ _ ht => ht.settleMsg
      exact h1.readsAcked.winProgress
  · split
    · exact h.nrtError
    · extract_lets +onlyGivenNames s1
      have h1 : s1.ServesAt n := h.resendAll.goOn.foldl fun _ _ ht => ht.settleMsg
      exact h1.readsAcked.winProgress

theorem deliverMsg {cid buf : Nat} {r : Reasm} (h : s.ServesAt n) : (s.deliverMsg cid r buf).ServesAt n := by
  unfold State.deliverMsg
  split
  · exact h
  · extract_lets +onlyGivenNames len data c settled
    split
    · extract_lets +onlyGivenNames id s1 body
      have h1 : s1.ServesAt n := h.setConn.capsule
      exact h1.mirror.ite h1.mirrorAlso
    · exact h.setConn.deliverWindow
    · exact h.setConn.deliverWindow
    · split
      · exact h.setConn.pieceArrived
      · exact h.setConn
    · exact h.setConn.deliverWindow.ite h.setConn.deliverWindow
    · exact h.setConn

theorem deliverReady {cid buf y : Nat} (h : s.ServesAt n) : (s.deliverReady cid buf y).ServesAt n := by
  induction y generalizing s with
  | zero => exact h
  | succ y ih =>
    unfold State.deliverReady
    split
    · exact h
    · split
      · exact ih h.deliverMsg
      · exact h

theorem ackPolicy {cid path : Nat} {now_ : Bool} (h : s.ServesAt n) : (s.ackPolicy cid path now_).ServesAt n := by
  unfold State.ackPolicy
  split
  · exact h
  · extract_lets +onlyGivenNames c
    exact h.sendAck.ite h.setConn

theorem settleAgain {c : Conn} {p : NrtPkt} (h : s.ServesAt n) : (s.settleAgain c p).ServesAt n := by
  unfold State.settleAgain
  extract_lets +onlyGivenNames c1
  exact h.setConn.ite h.setConn.settleMsg

theorem nrtTake {c : Conn} {p : NrtPkt} (h : s.ServesAt n) : (s.nrtTake c p).ServesAt n := by
  unfold State.nrtTake
  extract_lets +onlyGivenNames old
  split
  · exact h.settleAgain.ackPolicy
  · split
    · exact h.bumpX.raiseOnce
    · dsimp -zeta only
      split
      · split
        · exact h.placeBytes
        · extract_lets +onlyGivenNames r r1 c1 s1 s2
          have h1 : s1.ServesAt n := h.placeBytes.setConn.deliverReady
          have h2 : s2.ServesAt n := by
            unfold s2
            split
            · exact h1.setConn
            · exact h1
          exact h2.ackPolicy
      · split
        · exact h
        · extract_lets +onlyGivenNames r r1 c1 s1 s2
          have h1 : s1.ServesAt n := h.setConn.deliverReady
          have h2 : s2.ServesAt n := by
            unfold s2
            split
            · exact h1.setConn
            · exact h1
          exact h2.ackPolicy

theorem answerAgain {c : Conn} {p : NrtPkt} (h : s.ServesAt n) : (s.answerAgain c p).ServesAt n := by
  unfold State.answerAgain
  split
  · exact h
  · split
    · exact h.deliverWindow.ite h
    · split
      · exact h.ite h.transmitAs
      · exact h.deliverWindow.ite h
    · exact h

theorem nrtDup {c : Conn} {p : NrtPkt} (h : s.ServesAt n) : (s.nrtDup c p).ServesAt n := h.bumpX.sendAck.answerAgain

theorem nrtNoted {c : Conn} {p : NrtPkt} (h : s.ServesAt n) : (s.nrtNoted c p).1.ServesAt n := by
  unfold State.nrtNoted
  extract_lets +onlyGivenNames s1
  have h1 : s1.ServesAt n := h.bumpX
  dsimp -zeta only
  refine State.ServesAt.setConn ?_
  split
  · exact h1.sendSync.raiseX
  · exact h1.sendSync

theorem nrtAckedNow {cid : Nat} {p : NrtPkt} {bm : List Nat} (h : s.ServesAt n) : (s.nrtAckedNow cid p bm).ServesAt n := by
  unfold State.nrtAckedNow
  split
  · exact h.nrtAcked.ite h
  · exact h

theorem ackNow {cid path : Nat} (h : s.ServesAt n) : (s.ackNow cid path).ServesAt n := by
  unfold State.ackNow
  split
  · exact h.sendAck.ite h
  · exact h

theorem nrtData {c : Conn} {p : NrtPkt} (h : s.ServesAt n) : (s.nrtData c p).ServesAt n := by
  generalize hg : @State.nrtData = g
  delta State.nrtData at hg
  subst hg
  beta_reduce
  split
  · exact h.nrtDup
  · dsimp -zeta only
    exact h.bumpX.nrtSend.setConn
  · exact h.bumpX.settleAgain.ackNow.answerAgain
  · exact h.bumpX
  · exact h.bumpX
  · exact h.keyFail
  · dsimp -zeta only
    split
    · extract_lets +onlyGivenNames s1
      have h1 : s1.ServesAt n := h.nrtNoted.nrtTake
      exact h1.nrtAckedNow.ite h1
    · exact h.nrtNoted

theorem nrtOn {c : Conn} {p : NrtPkt} (h : s.ServesAt n) : (s.nrtOn c p).ServesAt n := by
  unfold State.nrtOn
  split
  · exact h.nrtData
  · dsimp -zeta only
    split
    · exact h.nrtNoted.connDown.nrtBare.freeConn.ite h.nrtNoted
    · split
      · exact h.nrtNoted.raiseX.freeConn.ite h.nrtNoted
      · extract_lets +onlyGivenNames s1 s2
        have h1 : s1.ServesAt n := by
          unfold s1
          refine State.ServesAt.setConn ?_
          split
          · exact h.nrtNoted.restorePath
          · exact h.nrtNoted
        have h2 : s2.ServesAt n := h1.nrtAckedNow.ite (h1.nrtAckedNow.ite h1)
        exact h2.ackNow.ite h2

theorem nrtPacket {p : NrtPkt} (h : s.ServesAt n) : (s.nrtPacket p).ServesAt n := by
  unfold State.nrtPacket
  extract_lets +onlyGivenNames r
  split
  · exact h
  · split
    · exact h.bump (roleKey_ne _ _ _)
    · split
      · exact h.bump (roleKey_ne _ _ _)
      · split
        · exact h.bump (roleKey_ne _ _ _)
        · exact ((h.bump (roleKey_ne _ _ _)).ite h.setConn).ite h.nrtOn

theorem execNrtDataPacket {p : NrtPkt} (h : s.ServesAt n) : KeepsServing n (execNrtDataPacket p s) := h.nrtPacket.next

theorem execNrtAck {p : NrtPkt} (h : s.ServesAt n) : KeepsServing n (execNrtAck p s) := h.nrtPacket.next

theorem execNrtClose {p : NrtPkt} (h : s.ServesAt n) : KeepsServing n (execNrtClose p s) := h.nrtPacket.next

theorem execNrtClosed {p : NrtPkt} (h : s.ServesAt n) : KeepsServing n (execNrtClosed p s) := h.nrtPacket.next

theorem execNrtProbe {p : NrtPkt} (h : s.ServesAt n) : KeepsServing n (execNrtProbe p s) := h.nrtPacket.next

theorem sendAccept {c : Conn} {srcPort : Nat} (h : s.ServesAt n) : (s.sendAccept c srcPort).ServesAt n := by
  unfold State.sendAccept
  extract_lets +onlyGivenNames r
  exact h.send.bumpX

theorem sendRefuse {p : NrtPkt} {r : ConnectReq} {why : Nat} (h : s.ServesAt n) : (s.sendRefuse p r why).ServesAt n := by
  unfold State.sendRefuse
  extract_lets +onlyGivenNames h1 x
  exact h.send.bump (roleKey_ne _ _ _)

theorem execNrtConnect {p : NrtPkt} (h : s.ServesAt n) : KeepsServing n (execNrtConnect p s) := by
  unfold Machine.execNrtConnect
  refine State.ServesAt.next ?_
  extract_lets +onlyGivenNames r mine
  split
  · exact h.nrtPacket
  · split
    · exact h
    · split
      · exact h.bump (roleKey_ne _ _ _)
      · split
        · exact h.bump (roleKey_ne _ _ _)
        · split
          · exact h.sendRefuse
          · extract_lets +onlyGivenNames s1
            have h1 : s1.ServesAt n := h.bump (roleKey_ne _ _ _)
            split
            · exact h1.sendAccept
            · split
              · exact h1.sendRefuse
              · split
                · exact h1.sendRefuse.raiseOnce
                · split
                  · exact h1.sendRefuse
                  · split
                    · exact h1.sendRefuse
                    · rename_i t heq
                      have ht : t.ServesAt n := h1.makeRoom heq
                      dsimp -zeta only
                      extract_lets +onlyGivenNames n1 c s2
                      extract_lets +onlyGivenNames s3
                      have h3 : s3.ServesAt n := by
                        unfold s3
                        have hb : (((t.draw FreeKind.unstated (2 ^ 32)).2.draw FreeKind.unstated (2 ^ 32)).2.draw FreeKind.unstated
                            4096).2.ServesAt n := ht.draw.draw.draw
                        exact hb.of_eq
                      exact h3.sendAccept.raiseCeiling

theorem execReassemblyTimeout {cid msgId : Nat} (h : s.ServesAt n) : KeepsServing n (execReassemblyTimeout cid msgId s) := by
  unfold Machine.execReassemblyTimeout
  refine State.ServesAt.next ?_
  split
  · exact h
  · split
    · exact h
    · split
      · exact h
      · extract_lets +onlyGivenNames c s1 s2
        have h2 : s2.ServesAt n := h.of_eq
        extract_lets +onlyGivenNames s3
        have h3 : s3.ServesAt n := h2.setConn.bumpX.raiseX
        exact h3.sendAck

theorem execAckDelayExpiry {cid : Nat} (h : s.ServesAt n) : KeepsServing n (execAckDelayExpiry cid s) := by
  unfold Machine.execAckDelayExpiry
  refine State.ServesAt.next ?_
  split
  · exact h.sendAck.ite h
  · exact h

theorem pathTimeout {c : Conn} {p : Nat} (h : s.ServesAt n) : (s.pathTimeout c p).1.ServesAt n := by
  unfold State.pathTimeout
  extract_lets +onlyGivenNames x
  split
  · exact h.raiseX
  · exact h

theorem execRtoExpiry {cid : Nat} (h : s.ServesAt n) : KeepsServing n (execRtoExpiry cid s) := by
  unfold Machine.execRtoExpiry
  refine State.ServesAt.next ?_
  split
  · exact h
  · extract_lets +onlyGivenNames old orders
    split
    · exact h
    · extract_lets +onlyGivenNames s1
      have h1 : s1.ServesAt n := h.bumpX
      split
      · exact h1.nrtError
      · dsimp -zeta only
        extract_lets +onlyGivenNames c
        refine State.ServesAt.setConn ?_
        refine State.ServesAt.resendAll ?_
        refine State.ServesAt.foldl_fst h1 fun q x hq => ?_
        exact hq.pathTimeout

theorem execPathProbeTimer {cid path : Nat} (h : s.ServesAt n) : KeepsServing n (execPathProbeTimer cid path s) := by
  unfold Machine.execPathProbeTimer
  refine State.ServesAt.next ?_
  split
  · split
    · dsimp -zeta only
      exact h.nrtSend.setConn
    · exact h
  · exact h

theorem execCreditProbeTimer {cid : Nat} (h : s.ServesAt n) : KeepsServing n (execCreditProbeTimer cid s) := by
  unfold Machine.execCreditProbeTimer
  refine State.ServesAt.next ?_
  split
  · split
    · dsimp -zeta only
      exact h.nrtSend.setConn
    · exact h
  · exact h

theorem execHalfOpenTimeout {cid : Nat} (h : s.ServesAt n) : KeepsServing n (execHalfOpenTimeout cid s) := by
  unfold Machine.execHalfOpenTimeout
  refine State.ServesAt.next ?_
  split
  · exact h.freeConn.ite h
  · exact h

theorem execErrorHoldExpiry {cid : Nat} (h : s.ServesAt n) : KeepsServing n (execErrorHoldExpiry cid s) := by
  unfold Machine.execErrorHoldExpiry
  refine State.ServesAt.next ?_
  split
  · exact h.freeConn.ite h
  · exact h

theorem execCloseRetryExpiry {cid : Nat} (h : s.ServesAt n) : KeepsServing n (execCloseRetryExpiry cid s) := by
  unfold Machine.execCloseRetryExpiry
  refine State.ServesAt.next ?_
  split
  · exact (h.raiseX.freeConn.ite h.nrtBare.setConn).ite h
  · exact h

theorem execSyncDeadline {cid : Nat} (h : s.ServesAt n) : KeepsServing n (execSyncDeadline cid s) := by
  unfold Machine.execSyncDeadline
  refine State.ServesAt.next ?_
  split
  · split
    · exact h
    · split
      · exact h.setConn
      · dsimp -zeta only
        exact h.sendSync.setConn
  · exact h

/-! ### RoCE -/

theorem roceError {c : Conn} (h : s.ServesAt n) : (s.roceError c).ServesAt n := h.raiseX.connDown.closeConn

theorem cnpFor {c : Conn} {marked : Bool} (h : s.ServesAt n) : (s.cnpFor c marked).1.ServesAt n := by
  unfold State.cnpFor
  extract_lets +onlyGivenNames quiet
  split
  · exact h.roceSend.bumpX
  · exact h

theorem roceReject {c : Conn} {psn kind : Nat} (h : s.ServesAt n) : (s.roceReject c psn kind).ServesAt n := h.roceSend.roceError

theorem roceKeyNak {c : Conn} {psn key check kind addr len : Nat} (h : s.ServesAt n) :
    (s.roceKeyNak c psn key check kind addr len).ServesAt n := by
  unfold State.roceKeyNak
  extract_lets +onlyGivenNames invalid
  exact h.keyFail.roceReject

theorem roceTakeSend {c : Conn} {p : RocePkt} (h : s.ServesAt n) : (s.roceTakeSend c p).ServesAt n := by
  unfold State.roceTakeSend
  extract_lets +onlyGivenNames adv r ofs
  split
  · exact h.roceFlush
  · split
    · exact h.roceReject
    · extract_lets +onlyGivenNames s1 r1 rest
      have h1 : s1.ServesAt n := h.bumpX
      split
      · extract_lets +onlyGivenNames c1 s2 s3 id s4 body
        have h2 : s2.ServesAt n := h1.setConn
        have h3 : s3.ServesAt n := h2.ite h2.roceAnswer
        have h4 : s4.ServesAt n := h3.capsule
        exact h4.mirror.ite h4.mirrorAlso
      · exact h1.setConn

theorem roceTakeWrite {c : Conn} {p : RocePkt} (h : s.ServesAt n) : (s.roceTakeWrite c p).ServesAt n := by
  unfold State.roceTakeWrite
  extract_lets +onlyGivenNames adv
  dsimp -zeta only
  split
  · exact h.roceKeyNak
  · extract_lets +onlyGivenNames ofs msg
    split
    · split
      · split
        · split
          · exact h.roceReject
          · split
            · split
              · exact h
              · extract_lets +onlyGivenNames s1 rest c1 s2
                have h1 : s1.ServesAt n := h.bumpX
                have h2 : s2.ServesAt n := h1.setConn
                exact h2.roceAnswer
            · split
              · exact h.placeBytes
              · extract_lets +onlyGivenNames s1 rest c1 s2
                have h1 : s1.ServesAt n := h.placeBytes.bumpX
                have h2 : s2.ServesAt n := h1.setConn
                exact h2.deliverWindow
        · split
          · exact h.roceReject
          · split
            · split
              · exact h
              · extract_lets +onlyGivenNames s1 rest c1 s2
                have h1 : s1.ServesAt n := h.bumpX
                have h2 : s2.ServesAt n := h1.setConn
                exact h2.roceAnswer
            · split
              · exact h.placeBytes
              · extract_lets +onlyGivenNames s1 rest c1 s2
                have h1 : s1.ServesAt n := h.placeBytes.bumpX
                have h2 : s2.ServesAt n := h1.setConn
                exact h2.deliverWindow
      · split
        · exact h.roceReject
        · split
          · split
            · exact h
            · extract_lets +onlyGivenNames s1 rest c1 s2
              have h1 : s1.ServesAt n := h.bumpX
              have h2 : s2.ServesAt n := h1.setConn
              exact h2.roceAnswer
          · split
            · exact h.placeBytes
            · extract_lets +onlyGivenNames s1 rest c1 s2
              have h1 : s1.ServesAt n := h.placeBytes.bumpX
              have h2 : s2.ServesAt n := h1.setConn
              exact h2.deliverWindow
    · split
      · split
        · exact h.roceReject
        · split
          · split
            · split
              · exact h
              · extract_lets +onlyGivenNames s1 rest r
                have h1 : s1.ServesAt n := h.bumpX
                exact h1.setConn
            · split
              · exact h.placeBytes
              · extract_lets +onlyGivenNames s1 rest r
                have h1 : s1.ServesAt n := h.placeBytes.bumpX
                exact h1.setConn
          · split
            · split
              · exact h
              · extract_lets +onlyGivenNames s1 rest r
                have h1 : s1.ServesAt n := h.bumpX
                exact h1.setConn
            · split
              · exact h.placeBytes
              · extract_lets +onlyGivenNames s1 rest r
                have h1 : s1.ServesAt n := h.placeBytes.bumpX
                exact h1.setConn
      · split
        · exact h.roceReject
        · split
          · split
            · exact h
            · extract_lets +onlyGivenNames s1 rest r
              have h1 : s1.ServesAt n := h.bumpX
              exact h1.setConn
          · split
            · exact h.placeBytes
            · extract_lets +onlyGivenNames s1 rest r
              have h1 : s1.ServesAt n := h.placeBytes.bumpX
              exact h1.setConn

theorem roceWindow {c : Conn} {kind : Nat} {p : RocePkt} (h : s.ServesAt n) : (s.roceWindow c kind p).ServesAt n := by
  unfold State.roceWindow
  exact (h.roceAnswer.ite h.deliverWindow).ite h.deliverWindow

theorem roceTakeRead {c : Conn} {kind : Nat} {p : RocePkt} (h : s.ServesAt n) : (s.roceTakeRead c kind p).ServesAt n := by
  unfold State.roceTakeRead
  extract_lets +onlyGivenNames k len
  split
  · exact h.roceReject
  · split
    · exact h.roceKeyNak
    · extract_lets +onlyGivenNames c1
      exact h.bumpX.setConn.roceWindow

theorem roceTake {c : Conn} {kind : Nat} {p : RocePkt} (h : s.ServesAt n) : (s.roceTake c kind p).ServesAt n := by
  unfold State.roceTake
  split
  · exact h.roceReject
  · split
    · exact h.roceTakeSend
    · exact h.roceTakeWrite
    · exact h.roceTakeRead

theorem roceAckAgain {c : Conn} (h : s.ServesAt n) : (s.roceAckAgain c).ServesAt n := h.roceSend

theorem roceDup {c : Conn} {kind : Nat} {p : RocePkt} (h : s.ServesAt n) : (s.roceDup c kind p).ServesAt n := by
  unfold State.roceDup
  extract_lets +onlyGivenNames s1
  have h1 : s1.ServesAt n := h.bumpX
  split
  · exact h1.roceAckAgain
  · split
    · exact h1
    · split
      · split
        · exact h1.roceKeyNak
        · extract_lets +onlyGivenNames c1
          exact h1.setConn.roceWindow
      · split
        · exact h1.roceFlush
        · exact h1

theorem roceResponse {c : Conn} {p : RocePkt} (h : s.ServesAt n) : (s.roceResponse c p).ServesAt n := by
  unfold State.roceResponse
  extract_lets +onlyGivenNames s1
  have h1 : s1.ServesAt n := h.bumpX
  split
  · exact h1
  · extract_lets +onlyGivenNames r
    split
    · exact h1
    · extract_lets +onlyGivenNames ofs r1 rest una
      split
      · extract_lets +onlyGivenNames c1
        exact h1.setConn.pieceArrived.rocePump
      · exact h1.setConn

theorem roceOn {c : Conn} {kind : Nat} {p : RocePkt} (h : s.ServesAt n) : (s.roceOn c kind p).ServesAt n := by
  unfold State.roceOn
  split
  · exact h.roceResponse
  · extract_lets +onlyGivenNames d
    split
    · exact h.roceTake
    · exact (h.ite h.roceFlush).ite (h.roceDup.ite h.bumpX.roceAckAgain)

theorem goBack {c : Conn} {psn : Nat} (h : s.ServesAt n) : (s.goBack c psn).ServesAt n := by
  unfold State.goBack
  extract_lets +onlyGivenNames again s1
  have h1 : s1.ServesAt n := h.foldl fun _ _ ht => ht.roceSend
  exact (h1.bumpBy (roleKey_ne _ _ _)).setConn

theorem roceAcked {c : Conn} {psn : Nat} {credit : Option Nat} (h : s.ServesAt n) : (s.roceAcked c psn credit).ServesAt n := by
  unfold State.roceAcked
  extract_lets +onlyGivenNames c1 c2
  exact h.bumpX.setConn.rocePump.readsAcked.winProgress

theorem roceAck {c : Conn} {psn : Nat} {a : Aeth} (h : s.ServesAt n) : (s.roceAck c psn a).ServesAt n := by
  unfold State.roceAck
  split
  · exact h.roceAcked
  · exact h.roceError.ite h.setConn
  · exact h.roceError.ite h.goBack
  · exact h.roceError

theorem roceCut {c : Conn} (h : s.ServesAt n) : (s.roceCut c).ServesAt n := by
  unfold State.roceCut
  extract_lets +onlyGivenNames a
  exact h.bumpX.bumpX.setConn

theorem roceDo {c : Conn} {x : RoceIn} (h : s.ServesAt n) : (s.roceDo c x).ServesAt n := by
  unfold State.roceDo
  extract_lets +onlyGivenNames marked
  dsimp -zeta only
  extract_lets +onlyGivenNames s1
  have h1 : s1.ServesAt n := h.cnpFor.setConn
  split
  · exact h1
  · split
    · exact h1.roceOn
    · exact h1.roceAck
    · exact h1.roceAcked
    · exact h1.roceCut
    · split
      · extract_lets +onlyGivenNames c1
        exact h1.raiseX.setConn.rocePump
      · exact h1

theorem roceIn {qp : Nat} {x : RoceIn} (h : s.ServesAt n) : (s.roceIn qp x).ServesAt n := by
  unfold State.roceIn
  extract_lets +onlyGivenNames r
  split
  · exact h
  · split
    · exact h.bump (roleKey_ne _ _ _)
    · exact ((h.bump (roleKey_ne _ _ _)).ite h.setConn).ite h.roceDo

theorem roceRx {kind : Nat} {p : RocePkt} (h : s.ServesAt n) : (s.roceRx kind p).ServesAt n := by
  unfold State.roceRx
  extract_lets +onlyGivenNames r
  split
  · exact h
  · split
    · exact h.bump (roleKey_ne _ _ _)
    · exact (h.bump (roleKey_ne _ _ _)).ite h.roceIn

theorem execRoceSend {p : RocePkt} (h : s.ServesAt n) : KeepsServing n (execRoceSend p s) := h.roceRx.next

theorem execRoceRdmaWrite {p : RocePkt} (h : s.ServesAt n) : KeepsServing n (execRoceRdmaWrite p s) := h.roceRx.next

theorem execRoceRdmaReadRequest {p : RocePkt} (h : s.ServesAt n) : KeepsServing n (execRoceRdmaReadRequest p s) := h.roceRx.next

theorem execRoceCompareSwap {p : RocePkt} (h : s.ServesAt n) : KeepsServing n (execRoceCompareSwap p s) := h.roceRx.next

theorem execRoceFetchAdd {p : RocePkt} (h : s.ServesAt n) : KeepsServing n (execRoceFetchAdd p s) := h.roceRx.next

theorem execRoceReadResponse {p : RocePkt} (h : s.ServesAt n) : KeepsServing n (execRoceReadResponse p s) := h.roceRx.next

theorem execRoceAcknowledge {qp psn : Nat} {a : Aeth} {ce : Bool} (h : s.ServesAt n) :
    KeepsServing n (execRoceAcknowledge qp psn a ce s) :=
  h.roceIn.next

theorem execRoceAtomicAcknowledge {qp psn original : Nat} {ce : Bool} (h : s.ServesAt n) :
    KeepsServing n (execRoceAtomicAcknowledge qp psn original ce s) :=
  h.roceIn.next

theorem execRoceCnp {qp : Nat} (h : s.ServesAt n) : KeepsServing n (execRoceCnp qp s) := h.roceIn.next

theorem execRoceRateTimer {qp : Nat} (h : s.ServesAt n) : KeepsServing n (execRoceRateTimer qp s) := by
  unfold Machine.execRoceRateTimer
  refine State.ServesAt.next ?_
  split
  · exact h
  · split
    · exact h.rocePump
    · extract_lets +onlyGivenNames c c1
      exact h.setConn.rocePump

theorem execRoceAckTimeout {qp : Nat} (h : s.ServesAt n) : KeepsServing n (execRoceAckTimeout qp s) := by
  unfold Machine.execRoceAckTimeout
  refine State.ServesAt.next ?_
  split
  · exact h
  · split
    · exact h
    · split
      · exact h
      · extract_lets +onlyGivenNames s1
        have h1 : s1.ServesAt n := h.bumpX
        exact h1.roceError.ite h1.goBack

theorem execRoceRnrTimer {qp : Nat} (h : s.ServesAt n) : KeepsServing n (execRoceRnrTimer qp s) := by
  unfold Machine.execRoceRnrTimer
  refine State.ServesAt.next ?_
  split
  · exact h
  · split
    · exact h
    · extract_lets +onlyGivenNames c s1
      have h1 : s1.ServesAt n := by
        unfold s1
        split
        · exact h.goBack
        · exact h.setConn
      exact h1.rocePump

theorem execCmReq {r : CmReq} (h : s.ServesAt n) : KeepsServing n (execCmReq r s) := by
  unfold Machine.execCmReq
  refine State.ServesAt.next ?_
  split
  · exact h
  · split
    · exact h.send
    · split
      · exact h.send
      · split
        · exact h.send
        · rename_i t heq
          have ht : t.ServesAt n := h.makeRoom heq
          dsimp -zeta only
          extract_lets +onlyGivenNames c c1
          extract_lets +onlyGivenNames c2
          refine State.ServesAt.send ?_
          have hb : (t.draw FreeKind.unstated (2 ^ 24)).2.ServesAt n := ht.draw
          exact hb.of_eq

theorem execCmRtu {qp : Nat} (h : s.ServesAt n) : KeepsServing n (execCmRtu qp s) := h.roceIn.next

theorem execCmDreq {qp : Nat} (h : s.ServesAt n) : KeepsServing n (execCmDreq qp s) := by
  unfold Machine.execCmDreq
  refine State.ServesAt.next ?_
  split
  · exact h.connDown.send.raiseX.freeConn
  · exact h

theorem execCmDrep {qp : Nat} (h : s.ServesAt n) : KeepsServing n (execCmDrep qp s) := by
  unfold Machine.execCmDrep
  refine State.ServesAt.next ?_
  split
  · exact h.raiseX.freeConn.ite h
  · exact h

theorem execCmRej {qp : Nat} (h : s.ServesAt n) : KeepsServing n (execCmRej qp s) := by
  unfold Machine.execCmRej
  refine State.ServesAt.next ?_
  split
  · exact h.freeConn.ite h
  · exact h

theorem execContextFetchDone {cid : Nat} (h : s.ServesAt n) : KeepsServing n (execContextFetchDone cid s) := by
  unfold Machine.execContextFetchDone
  refine State.ServesAt.next ?_
  split
  · exact h
  · split
    · exact h
    · split
      · exact h
      · rename_i t heq
        have ht : t.ServesAt n := h.makeRoom heq
        extract_lets +onlyGivenNames d
        dsimp -zeta only
        extract_lets +onlyGivenNames s1
        have h1 : s1.ServesAt n := by
          unfold s1
          refine State.ServesAt.foldl ?_ fun a x ha => ?_
          · refine State.ServesAt.setConn ?_
            split
            · exact ht.sendSync
            · exact ht
          · exact ha.nrtPacket
        exact h1.foldl fun _ _ ht1 => ht1.roceIn

/-! ### Pair and mirror -/

theorem noteStep {k : Nat} (h : s.ServesAt n) (hk : k ≤ 16 := by decide) : (s.noteStep k).ServesAt n := by
  unfold State.noteStep
  extract_lets +onlyGivenNames us b s1 s2
  have h1 : s1.ServesAt n := h.of_eq
  have h2 : s2.ServesAt n := h1.wr (by simp only [F.CTL_BOOT_STEPT]; omega)
  exact h2.wr.ite h2

theorem takeStep15 (h : s.ServesAt n) : s.takeStep15.ServesAt n := by
  unfold State.takeStep15
  have hw : (s.wr F.TIM_STAT_SERVING 1).ServesAt n := ⟨h.1, by rw [State.isSet, State.rd_wr_same _ _ _ (by decide) (by decide)]; rfl⟩
  extract_lets +onlyGivenNames s1 s2 s3
  have h2 : s2.ServesAt n := hw.noteStep.raise
  have h3 : s3.ServesAt n := h2.send.ite h2
  exact h3.syncReady

theorem setGen {g : Nat} (h : s.ServesAt n) : (s.setGen g).ServesAt n := by
  unfold State.setGen
  extract_lets +onlyGivenNames s1
  have h1 : s1.ServesAt n := h.wr64
  exact h1.of_eq

theorem setRole {r : Nat} (h : s.ServesAt n) : (s.setRole r).ServesAt n := by
  unfold State.setRole
  extract_lets +onlyGivenNames was s1
  have h1 : s1.ServesAt n := h.wr.syncFwd.syncRelay
  exact h1.ite (h1.foldl fun _ _ ht => ht.syncLed)

theorem sendHello (h : s.ServesAt n) : s.sendHello.ServesAt n := h.haulSend.send

theorem enterPaired {r : Nat} (h : s.ServesAt n) : (s.enterPaired r).ServesAt n := h.setRole.wr.raise

theorem enterHeld {reason : Nat} (h : s.ServesAt n) : (s.enterHeld reason).ServesAt n := h.setRole.wr.raise

theorem mirrored {w : MirrorWhat} (h : s.ServesAt n) : (s.mirrored w).ServesAt n := by
  unfold State.mirrored
  split
  · split
    · exact h.post.ite h
    · exact h
  · exact h.transmitAs
  · split
    · split
      · exact h.setConn
      · exact h.roceAnswer
    · exact h
  · exact h.updOp.stepOp.winProgress
  · exact h.replyAtomic.retireOp
  · split
    · exact h.revokeNow
    · split
      · extract_lets +onlyGivenNames s1
        have h1 : s1.ServesAt n := h.updWindow
        split
        · exact h1.finish
        · exact h1
      · exact h
  · split
    · exact h.goOn
    · exact h
  · split
    · exact h.goOn
    · exact h
  · split
    · exact h.ite h.recDurable
    · exact h
  · exact h.answerOwed
  · exact h

theorem mackUpTo {m : Nat} (h : s.ServesAt n) : (s.mackUpTo m).ServesAt n := by
  unfold State.mackUpTo
  extract_lets +onlyGivenNames done s1
  have h1 : s1.ServesAt n := h.of_eq
  exact (h1.foldl fun _ _ ht => ht.mirrored).syncCmds

theorem gapFrames (h : s.ServesAt n) : s.gapFrames.ServesAt n := by
  unfold State.gapFrames
  exact h.foldl fun _ _ ht => ht.ite ht.releaseFrames

theorem unpair (h : s.ServesAt n) : s.unpair.ServesAt n := by
  unfold State.unpair
  extract_lets +onlyGivenNames s1 s2 s3
  have h1 : s1.ServesAt n := h.wr
  have h2 : s2.ServesAt n := h1.mackUpTo
  have h3 : s3.ServesAt n := h2.updPair.gapFrames
  exact h3.flushAll.syncCache

theorem enterLone {cause : Nat} (h : s.ServesAt n) : (s.enterLone cause).ServesAt n := by
  unfold State.enterLone
  extract_lets +onlyGivenNames old s1 s2
  have h1 : s1.ServesAt n := h.setGen.setRole
  have h2 : s2.ServesAt n := h1.bump.ite h1
  exact h2.raise.unpair

theorem dropPeerEndpoint (h : s.ServesAt n) : s.dropPeerEndpoint.ServesAt n := by
  unfold State.dropPeerEndpoint
  extract_lets +onlyGivenNames top
  exact h.foldl fun _ _ ht => ht.applyReset.updCtrl

theorem fence {failed : Bool} (h : s.ServesAt n) : (s.fence failed).ServesAt n := by
  unfold State.fence
  split
  · exact h
  · extract_lets +onlyGivenNames held s1
    have h1 : s1.ServesAt n := h.wr.wrB
    exact h1.updPair.raise

theorem releaseFence (h : s.ServesAt n) : s.releaseFence.ServesAt n := by
  unfold State.releaseFence
  extract_lets +onlyGivenNames s1
  have h1 : s1.ServesAt n := h.wr.wr
  exact h1.updPair.raise

theorem execFenceHoldExpiry (h : s.ServesAt n) : KeepsServing n (execFenceHoldExpiry s) := by
  unfold Machine.execFenceHoldExpiry
  refine State.ServesAt.next ?_
  split
  · exact h.releaseFence.ite h
  · exact h

theorem unfence (h : s.ServesAt n) : s.unfence.ServesAt n := by
  unfold State.unfence
  exact h.releaseFence.ite h

theorem execHalUnfenceCmd (h : s.ServesAt n) : KeepsServing n (execHalUnfenceCmd s) := by
  unfold Machine.execHalUnfenceCmd
  exact (h.atWindow fun _ ht => ht.unfence).next

theorem goAlone {atOnce : Bool} (h : s.ServesAt n) : (s.goAlone atOnce).ServesAt n := by
  unfold State.goAlone
  extract_lets +onlyGivenNames s1
  have h1 : s1.ServesAt n := h.updPair
  exact h1.fence.ite h1.updPair

theorem execFenceStartDelayExpiry (h : s.ServesAt n) : KeepsServing n (execFenceStartDelayExpiry s) := by
  unfold Machine.execFenceStartDelayExpiry
  exact (h.updPair.fence.ite h).next

theorem execPairWaitExpiry (h : s.ServesAt n) : KeepsServing n (execPairWaitExpiry s) := by
  unfold Machine.execPairWaitExpiry
  refine State.ServesAt.next ?_
  extract_lets +onlyGivenNames due
  exact h.ite (h.goAlone.ite (h.goAlone.ite h))

theorem resyncConn {c : Conn} (h : s.ServesAt n) : (s.resyncConn c).ServesAt n := by
  unfold State.resyncConn
  split
  · exact h.ite h.setConn
  · extract_lets +onlyGivenNames c1
    split
    · exact h.goBack
    · exact h.setConn

theorem runAgain {c : Cmd} (h : s.ServesAt n) : (s.runAgain c).ServesAt n := by
  unfold State.runAgain
  extract_lets +onlyGivenNames s1 s2
  have h1 : s1.ServesAt n := h.of_eq
  have h2 : s2.ServesAt n := h1.updCtrl
  split
  · exact h2.epRun
  · split
    · exact h2.commandRun
    · exact h2

theorem recover {id : Nat} (h : s.ServesAt n) : (s.recover id).ServesAt n := by
  unfold State.recover
  split
  · exact h
  · extract_lets +onlyGivenNames redo
    split
    · exact h.of_eq.ite (h.post.ite h.tryPost)
    · split
      · exact h.runAgain
      · split
        · exact h
        · split
          · exact h.updCmd
          · extract_lets +onlyGivenNames s1 c
            have h1 : s1.ServesAt n := h.of_eq
            exact h1.updCmd.beginCmd

theorem serveMirrored (h : s.ServesAt n) : s.serveMirrored.ServesAt n := by
  unfold State.serveMirrored
  extract_lets +onlyGivenNames s1 s2 s3 s4 s5
  have h1 : s1.ServesAt n := h.of_eq
  have h2 : s2.ServesAt n := h1.foldl fun _ _ ht => ht.recover
  have h3 : s3.ServesAt n := h2.foldl fun _ _ ht => ht.freeIfEmpty
  have h4 : s4.ServesAt n := h3.winProgress
  have h5 : s5.ServesAt n := by
    unfold s5
    refine h4.foldl fun a x ha => ?_
    split
    · exact ha.goOn
    · exact ha
  exact h5.syncReady.syncCmds

theorem redoAll (h : s.ServesAt n) : s.redoAll.ServesAt n := by
  unfold State.redoAll
  extract_lets +onlyGivenNames s1
  have h1 : s1.ServesAt n := h.of_eq
  exact h1.redoInOrder

theorem failOver (h : s.ServesAt n) : s.failOver.ServesAt n := by
  unfold State.failOver
  extract_lets +onlyGivenNames s1 s2 s3 s4
  have h1 : s1.ServesAt n := h.fence.enterLone.dropPeerEndpoint
  have h2 : s2.ServesAt n := h1.updPair
  have h3 : s3.ServesAt n := h2.of_eq
  have h4 : s4.ServesAt n := h3.foldl fun _ _ ht => ht.resyncConn
  exact h4.redoAll.serveMirrored

theorem dropMirrored (h : s.ServesAt n) : s.dropMirrored.ServesAt n := h.of_eq

theorem setTru {x : Tru} (h : s.ServesAt n) : { s with tru := x }.ServesAt n := h.of_eq

theorem partnerFailed {cause : Nat} (h : s.ServesAt n) : (s.partnerFailed cause).ServesAt n := by
  unfold State.partnerFailed
  extract_lets +onlyGivenNames s1 s2 s3 tr s4 s5 r
  have h3 : s3.ServesAt n := h.raise.wr.wr.wr.updPair.wr.haulZero
  have h4 : s4.ServesAt n := h3.setTru
  have h5 : s5.ServesAt n := h4.abandonLive.syncFwd
  split
  · exact h5.fence.enterLone.dropPeerEndpoint.ite h5.updPair
  · split
    · exact h5.failOver
    · exact h5.updPair.wr.ite (h5.dropMirrored.updPair.enterHeld.ite h5)

theorem execActiveFenceWait (h : s.ServesAt n) : KeepsServing n (execActiveFenceWait s) := by
  unfold Machine.execActiveFenceWait
  exact (h.updPair.fence.enterLone.dropPeerEndpoint.ite h).next

theorem execGoodbye (h : s.ServesAt n) : KeepsServing n (execGoodbye s) := h.partnerFailed.next

theorem execHeartbeatTimer (h : s.ServesAt n) : KeepsServing n (execHeartbeatTimer s) := by
  unfold Machine.execHeartbeatTimer
  refine State.ServesAt.next ?_
  split
  · exact h
  · extract_lets +onlyGivenNames n1 flags
    exact h.updPair.send

theorem updPath {haul : Bool} {f : BeatPath → BeatPath} (h : s.ServesAt n) : (s.updPath haul f).ServesAt n := h.updPair

theorem pathState {haul ok : Bool} (h : s.ServesAt n) : (s.pathState haul ok).ServesAt n := by
  unfold State.pathState
  exact h.wrB.raise.ite (h.wr.raise.ite h.wr.raise)

theorem execHeartbeatBeat {haul : Bool} {bseq role gen : Nat} (h : s.ServesAt n) :
    KeepsServing n (execHeartbeatBeat haul bseq role gen s) := by
  unfold Machine.execHeartbeatBeat
  refine State.ServesAt.next ?_
  extract_lets +onlyGivenNames x
  split
  · exact h
  · extract_lets +onlyGivenNames s1 s2 s3 s4
    have h1 : s1.ServesAt n := h.pathState.ite (h.wr.ite h.wr)
    have h2 : s2.ServesAt n := h1.updPath
    have h3 : s3.ServesAt n := h2.updPair.wr
    have h4 : s4.ServesAt n := h3.syncFwd.syncRelay
    exact (h4.enterHeld.ite (h4.enterLone.ite h4)).ite h4

theorem execHeartbeatMiss {haul : Bool} (h : s.ServesAt n) : KeepsServing n (execHeartbeatMiss haul s) := by
  unfold Machine.execHeartbeatMiss
  refine State.ServesAt.next ?_
  extract_lets +onlyGivenNames x held
  split
  · exact h
  · extract_lets +onlyGivenNames period
    split
    · exact h
    · extract_lets +onlyGivenNames n1 s1 y alone
      have h1 : s1.ServesAt n := h.updPath.bump (by split <;> decide)
      exact h1.ite (h1.partnerFailed.ite (h1.ite h1.updPath.pathState))

theorem startResync (h : s.ServesAt n) : s.startResync.ServesAt n := by
  unfold State.startResync
  extract_lets +onlyGivenNames l s1 s2
  have h1 : s1.ServesAt n := h.updPair
  have h2 : s2.ServesAt n := h1.foldl fun _ _ ht => ht.haulSend.send
  exact h2.wr.raise

theorem resyncGo (h : s.ServesAt n) : s.resyncGo.ServesAt n := by
  unfold State.resyncGo
  split
  · exact h
  · extract_lets +onlyGivenNames s1
    have h1 : s1.ServesAt n := h.wr
    split
    · extract_lets +onlyGivenNames s2
      have h2 : s2.ServesAt n := h1.updPair.setGen
      exact h2.raise.enterPaired.sendHello
    · exact h1

theorem digestDiffers {q : Hello} {reason : Nat} (h : s.ServesAt n) : (s.digestDiffers q reason).ServesAt n := by
  unfold State.digestDiffers
  exact h.goAlone.ite h.enterHeld

theorem enterResync (h : s.ServesAt n) : s.enterResync.ServesAt n := h.dropMirrored.updPair.setRole

theorem dropUncopied (h : s.ServesAt n) : s.dropUncopied.ServesAt n := by
  unfold State.dropUncopied
  extract_lets +onlyGivenNames reached s1
  have h1 : s1.ServesAt n := h.foldl fun _ _ ht => ht.zeroise.nsGone
  exact h1.of_eq.bindFunctions

theorem execHello {q : Hello} (h : s.ServesAt n) : KeepsServing n (execHello q s) := by
  unfold Machine.execHello
  refine State.ServesAt.next ?_
  split
  · exact h
  · extract_lets +onlyGivenNames s1 s2 same r
    have h1 : s1.ServesAt n := h.updPair.wr
    have h2 : s2.ServesAt n := h1.syncFwd.syncRelay
    split
    · split
      · exact h2
      · split
        · exact h2.digestDiffers
        · split
          · exact h2.digestDiffers
          · exact h2.enterPaired.ite (h2.enterResync.ite (h2.enterLone.ite h2))
    · split
      · exact h2.startResync.ite h2
      · split
        · split
          · extract_lets +onlyGivenNames s3
            have h3 : s3.ServesAt n := h2.dropUncopied.setGen.updPair.enterPaired
            exact h3.takeStep15.ite h3
          · exact h2
        · exact (h2.enterResync.ite h2).ite h2

theorem standbyRetire (h : s.ServesAt n) : s.standbyRetire.ServesAt n := h.of_eq

theorem standbyMerge {o : WinOp} {p : PendCopy} (h : s.ServesAt n) : (s.standbyMerge o p).ServesAt n := by
  unfold State.standbyMerge
  extract_lets +onlyGivenNames l data fresh s1
  have h1 : s1.ServesAt n := h.of_eq
  exact h1.updOp

theorem standbyLines {l : List PendCopy} {dur cid msg : Nat} (h : s.ServesAt n) : (s.standbyLines l dur cid msg).ServesAt n := by
  unfold State.standbyLines
  split
  · exact h
  · extract_lets +onlyGivenNames o s1
    have h1 : s1.ServesAt n := h.of_eq
    split
    · exact h1
    · extract_lets +onlyGivenNames s2
      have h2 : s2.ServesAt n := h1.updOp
      refine State.ServesAt.syncCache ?_
      refine h2.foldl fun a x ha => ?_
      extract_lets +onlyGivenNames earlier
      exact ha.standbyMerge.ite ha

theorem standbyWritten {nsid lba content : Nat} (h : s.ServesAt n) : (s.standbyWritten nsid lba content).ServesAt n := by
  unfold State.standbyWritten
  extract_lets +onlyGivenNames held
  split
  · exact h
  · extract_lets +onlyGivenNames s1 gone
    have h1 : s1.ServesAt n := by
      unfold s1
      clear_value held
      split
      · exact h.needsMet.dropLine
      · exact h
    exact h1.of_eq

theorem standbyOver {nsid slba k mark : Nat} (h : s.ServesAt n) : (s.standbyOver nsid slba k mark).ServesAt n := by
  unfold State.standbyOver
  extract_lets +onlyGivenNames hit old s1
  have h1 : s1.ServesAt n := h.of_eq
  exact h1.foldl fun _ _ ht => ht.needsMet.dropLine

theorem standbyRecord {r : Rec} {fix : Option FixUpd} (h : s.ServesAt n) : (s.standbyRecord r fix).ServesAt n := by
  unfold State.standbyRecord
  extract_lets +onlyGivenNames s1
  have h1 : s1.ServesAt n := by
    unfold s1
    split
    · exact h.foldl fun _ _ ht => ht.standbyOver
    · refine h.foldl fun a x ha => ?_
      split
      · exact ha.standbyWritten
      · exact ha
    · exact (h.foldl fun _ _ ht => ht.standbyWritten).ite h.standbyOver
    · exact h
  exact h1.standbyRetire.syncCache

theorem enterRec {r : Rec} {fix : Option FixUpd} (h : s.ServesAt n) : (s.enterRec r fix).ServesAt n := by
  unfold State.enterRec
  extract_lets +onlyGivenNames missed
  have hmissed : ∀ s u, s.ServesAt n → (missed s u).ServesAt n := by
    intro s u ht
    refine ht.foldl fun a x ha => ?_
    split
    · exact ha.addDirty
    · exact ha
  split
  · extract_lets +onlyGivenNames s1 s2
    have h1 : s1.ServesAt n := h.foldl fun _ _ ht => ht.addDirty
    have h2 : s2.ServesAt n := h1.updRec.releaseRecs.syncDur
    split
    · exact h2.of_eq
    · exact h2
  · extract_lets +onlyGivenNames mine s1 s2
    have h1 : s1.ServesAt n := h.foldl fun _ _ ht => ((hmissed _ _ ht).ite ht).applyFix
    have h2 : s2.ServesAt n := by
      unfold s2
      refine h1.foldl fun a x ha => ?_
      split
      · exact ha.updCmd
      · exact ha
    exact h2.of_eq.recDurable
  · exact h.recDurable

theorem putMirrorRec {r : Rec} {stripes : List Stripe} {fix : Option FixUpd} (h : s.ServesAt n) :
    (s.putMirrorRec r stripes fix).ServesAt n := by
  unfold State.putMirrorRec
  extract_lets +onlyGivenNames named s1 s2 q s3 s4 s5
  have h1 : s1.ServesAt n := h.of_eq
  have h2 : s2.ServesAt n := h1.putRec.updRec
  have h4 : s4.ServesAt n := h2.of_eq
  have h5 : s5.ServesAt n := h4.wr64
  extract_lets +onlyGivenNames s6
  have h6 : s6.ServesAt n := by
    unfold s6
    refine h5.foldl fun a x ha => ?_
    extract_lets +onlyGivenNames f
    exact ha.updGroup.wr64 (by simp only [F.LAY_GFSEQ_LO]; omega) (by simp only [F.LAY_GFSEQ_HI]; omega)
  exact h6.standbyRecord.enterRec

theorem takeStore {t : Tally} {m : Medium} (h : s.ServesAt n) : (s.takeStore t m).ServesAt n := by
  unfold State.takeStore
  extract_lets +onlyGivenNames later isNew mine keep s1 s2
  have h1 : s1.ServesAt n := h.of_eq
  have h2 : s2.ServesAt n := h1.of_eq
  exact (h2.foldl fun _ _ ht => ht.enterRec).releaseRecs

theorem putCmd {c : Cmd} (h : s.ServesAt n) : (s.putCmd c).ServesAt n := h.of_eq

theorem putConn {c : Conn} (h : s.ServesAt n) : (s.putConn c).ServesAt n := h.of_eq

theorem takeRows {k : Namespace} (h : s.ServesAt n) : (s.takeRows k).ServesAt n := by
  unfold State.takeRows
  extract_lets +onlyGivenNames rows
  exact h.updGroup

theorem putNs {k : Namespace} {key : Option KeyEntry} (h : s.ServesAt n) : (s.putNs k key).ServesAt n := by
  unfold State.putNs
  extract_lets +onlyGivenNames s1 s2
  have h1 : s1.ServesAt n := h.of_eq
  have h2 : s2.ServesAt n := by
    unfold s2
    split
    · exact h.updNs.ite h.abandonTree.dropContents.updNs.zeroise
    · exact h1.takeRows.ite h1
  extract_lets +onlyGivenNames s3
  have h3 : s3.ServesAt n := h2.of_eq
  exact h3.syncGroup

theorem effectDone {done : Option (Nat × Nat)} (h : s.ServesAt n) : (s.effectDone done).ServesAt n := by
  unfold State.effectDone
  split
  · exact h.updCmd
  · exact h

theorem putMember {k : Nat} {x : Slot} {power : Bool} (h : s.ServesAt n) : (s.putMember k x power).ServesAt n := by
  unfold State.putMember
  extract_lets +onlyGivenNames o moved s1 s2
  have h1 : s1.ServesAt n := h.updSlot.updGroup
  have h2 : s2.ServesAt n := ((h1.wr (by simp only [F.LAY_MSTAT_STATE]; omega)).wr (by simp only [F.LAY_MSTAT_GROUP]; omega)).wrB
      (by simp only [F.LAY_MSTAT_DIRTY]; omega)
  exact h2.followPower

theorem applyMirror {b : MirrorBody} (h : s.ServesAt n) : (s.applyMirror b).ServesAt n := by
  unfold State.applyMirror
  split
  · extract_lets +onlyGivenNames s1
    have h1 : s1.ServesAt n := h.putConn
    split
    · exact h1.of_eq
    · exact h1
  · split
    · exact h.freeConn
    · exact h
  · split
    · exact h.putCmd.putConn
    · exact h.putCmd
  · exact h.of_eq
  · exact h.putCmd.updNs
  · exact h.putCmd
  · exact h.putMirrorRec
  · extract_lets +onlyGivenNames s1
    have h1 : s1.ServesAt n := by
      unfold s1
      split
      · exact h.ite h.setConn
      · exact h
    exact h1.standbyLines
  · exact h.of_eq
  · exact h.putNs.effectDone
  · extract_lets +onlyGivenNames gen
    exact h.zeroise.nsGone.effectDone
  · exact h.of_eq.bindFunctions
  · exact h.of_eq.bindFunctions
  · exact h.of_eq
  · extract_lets +onlyGivenNames s1
    have h1 : s1.ServesAt n := h.ite h.of_eq
    exact h1.wrB.syncCache
  · exact h.putMember
  · exact h.takeStore

theorem applyEarly {y : Nat} (h : s.ServesAt n) : (s.applyEarly y).ServesAt n := by
  induction y generalizing s with
  | zero => exact h
  | succ y ih =>
    unfold State.applyEarly
    split
    · exact h
    · split
      · exact h
      · extract_lets +onlyGivenNames s1 s2
        have h1 : s1.ServesAt n := by
          unfold s1
          split
          · exact h.applyMirror
          · exact h
        exact ih h1.updPair.bump

theorem execMirrorItem {mseq : Nat} {body : MirrorBody} (h : s.ServesAt n) : KeepsServing n (execMirrorItem mseq body s) := by
  unfold Machine.execMirrorItem
  refine State.ServesAt.next ?_
  split
  · exact h
  · extract_lets +onlyGivenNames s1 s2
    have h1 : s1.ServesAt n := h.updPair
    have h2 : s2.ServesAt n := h1.applyEarly
    exact h2.haulSend.send

theorem execResyncCopy {tag : Nat} {body : MirrorBody} (h : s.ServesAt n) : KeepsServing n (execResyncCopy tag body s) := by
  unfold Machine.execResyncCopy
  refine State.ServesAt.next ?_
  split
  · exact h
  · extract_lets +onlyGivenNames fresh s1
    have h1 : s1.ServesAt n := by
      unfold s1
      split
      · exact h.applyMirror
      · exact h
    exact h1.updPair

theorem forwardHeld (h : s.ServesAt n) : s.forwardHeld.ServesAt n := by
  unfold State.forwardHeld
  extract_lets +onlyGivenNames held s1
  have h1 : s1.ServesAt n := h.freeFrames
  exact h1.foldl fun _ _ ht => ht.bump.sampleSent.haulSend.send.ite ht.bump.swcNotice

theorem setConns {l : List Conn} (h : s.ServesAt n) : { s with conns := l }.ServesAt n := h.of_eq

theorem setOpsAndJobs {l : List WinOp} {js : List ReadJob} (h : s.ServesAt n) : { s with winops := l, jobs := js }.ServesAt n := h.of_eq

theorem gapGo (h : s.ServesAt n) : s.gapGo.ServesAt n := by
  unfold State.gapGo
  split
  · exact h
  · extract_lets +onlyGivenNames live s1 s2 s3 s4 s5 s6
    have h4 : s4.ServesAt n := h.haulSend.send.setGen.bump.updPair.wr.enterPaired.forwardHeld
    have h5 : s5.ServesAt n := h4.raise
    have h6 : s6.ServesAt n := h5.setOpsAndJobs
    exact h6.wr.liveStart.ite h6

theorem leaveMirrored (h : s.ServesAt n) : s.leaveMirrored.ServesAt n := by
  unfold State.leaveMirrored
  extract_lets +onlyGivenNames s1
  have h1 : s1.ServesAt n := h.foldl fun _ _ ht => ht.mirrorNote
  exact h1.foldl fun _ _ ht => ht.mirrorNote

theorem startHandover {live : Bool} (h : s.ServesAt n) : (s.startHandover live).ServesAt n := by
  unfold State.startHandover
  split
  · exact h
  · extract_lets +onlyGivenNames s1
    have h1 : s1.ServesAt n := h.foldl fun _ _ ht => ht.closeStripe
    exact h1.updPair

theorem execHalHandoverCmd (h : s.ServesAt n) : KeepsServing n (execHalHandoverCmd s) := by
  unfold Machine.execHalHandoverCmd
  exact (h.atWindow fun _ ht => ht.startHandover).next

theorem execHandoverDrainEnd (h : s.ServesAt n) : KeepsServing n (execHandoverDrainEnd s) := by
  unfold Machine.execHandoverDrainEnd
  refine State.ServesAt.next ?_
  split
  · exact h.updPair.leaveMirrored.gapGo.ite h
  · exact h

theorem execHandoverTimeout (h : s.ServesAt n) : KeepsServing n (execHandoverTimeout s) := by
  unfold Machine.execHandoverTimeout
  refine State.ServesAt.next ?_
  split
  · split
    · extract_lets +onlyGivenNames s1 s2
      have h1 : s1.ServesAt n := h.updPair.raise
      have h2 : s2.ServesAt n := h1.abandonLive.ite h1
      exact h2.foldl fun _ _ ht => ht.placeWaiting
    · exact h
  · exact h

theorem execHandoverItem {mseq : Nat} (h : s.ServesAt n) : KeepsServing n (execHandoverItem mseq s) := by
  unfold Machine.execHandoverItem
  refine State.ServesAt.next ?_
  split
  · exact h
  · extract_lets +onlyGivenNames s1 s2 s3 s4
    have h3 : s3.ServesAt n := h.setGen.bump.wr.enterPaired.raise
    have h4 : s4.ServesAt n := h3.ite h3.wr
    exact h4.setConns.serveMirrored

theorem execMirrorMack {mseq : Nat} (h : s.ServesAt n) : KeepsServing n (execMirrorMack mseq s) := h.mackUpTo.gapGo.resyncGo.next

theorem halfDown {q : Nat} (h : s.ServesAt n) : (s.halfDown q).ServesAt n := by
  unfold State.halfDown
  exact h.ite h.raise.halfOut

theorem resendHalf {q : Nat} (h : s.ServesAt n) : (s.resendHalf q).ServesAt n := by
  unfold State.resendHalf
  extract_lets +onlyGivenNames x
  split
  · exact h.halfDown
  · extract_lets +onlyGivenNames s1
    have h1 : s1.ServesAt n := h.foldl fun _ _ ht => ht.bump.bump.send
    exact h1.updHalf

theorem haulAcked {q a : Nat} (h : s.ServesAt n) : (s.haulAcked q a).ServesAt n := by
  unfold State.haulAcked
  extract_lets +onlyGivenNames done
  split
  · exact h
  · extract_lets +onlyGivenNames copies s1
    have h1 : s1.ServesAt n := h.updHalf
    exact h1.updPair.resyncGo

theorem haulBody {b : HaulBody} (h : s.ServesAt n) : (s.haulBody b).ServesAt n := by
  unfold State.haulBody
  split
  · exact h
  · exact h.followPower.ite h
  · exact h.epRun.ite h
  · exact h.dataArrived.ite h
  · exact h.ite h.epStartFetch
  · exact h.ite h.toHost
  · exact h.ite h.toHost
  · extract_lets +onlyGivenNames d
    exact h.adminRequest.ite h.answer
  · exact h.answerOwed
  · exact h.updLive.ite h

theorem execHaulFrameReceive {half chan seq : Nat} {ack : Option Nat} {nak tagOk : Bool} {body : HaulBody} (h : s.ServesAt n) :
    KeepsServing n (execHaulFrameReceive half chan seq ack nak tagOk body s) := by
  unfold Machine.execHaulFrameReceive
  refine State.ServesAt.next ?_
  extract_lets +onlyGivenNames x
  split
  · exact h
  · split
    · extract_lets +onlyGivenNames s1
      have h1 : s1.ServesAt n := h.bump.send
      exact h1.ite h1.raise.updHalf
    · extract_lets +onlyGivenNames s1 s2
      have h1 : s1.ServesAt n := by
        unfold s1
        split
        · exact h.haulAcked
        · exact h
      have h2 : s2.ServesAt n := h1.resendHalf.ite h1
      split
      · exact h2.bump
      · exact h2.bump.send.ite (h2.send.ite h2.bump.updHalf.send.haulBody)

theorem execHaulResendTimer {half : Nat} (h : s.ServesAt n) : KeepsServing n (execHaulResendTimer half s) := by
  unfold Machine.execHaulResendTimer
  refine State.ServesAt.next ?_
  extract_lets +onlyGivenNames x
  exact h.resendHalf.ite h

theorem execHaulHalfDown {half : Nat} (h : s.ServesAt n) : KeepsServing n (execHaulHalfDown half s) := by
  unfold Machine.execHaulHalfDown
  exact (h.ite h.halfDown).next

theorem execHaulHalfUp {half : Nat} (h : s.ServesAt n) : KeepsServing n (execHaulHalfUp half s) := by
  unfold Machine.execHaulHalfUp
  refine State.ServesAt.next ?_
  split
  · exact h
  · extract_lets +onlyGivenNames s1 s2 s3
    have h1 : s1.ServesAt n := (h.wr (halfUpFld_key half)).raise.updHalf
    have h2 : s2.ServesAt n := h1.ite h1.updHalf.resendHalf
    have h3 : s3.ServesAt n := h2.ite h2.sendPairing
    exact h3.syncFwd.syncRelay.retrainHalves

theorem endHold (h : s.ServesAt n) : s.endHold.ServesAt n := by
  unfold State.endHold
  split
  · exact h
  · extract_lets +onlyGivenNames s1
    have h1 : s1.ServesAt n := h.updPair.wr
    exact h1.foldl fun _ _ ht => ht.updHalf.resendHalf.ite ht

theorem execHoldMessage {bench : Nat} (h : s.ServesAt n) : KeepsServing n (execHoldMessage bench s) := by
  unfold Machine.execHoldMessage
  refine State.ServesAt.next ?_
  split
  · exact h
  · extract_lets +onlyGivenNames s1
    have h1 : s1.ServesAt n := h.updPair.wr
    exact h1.haulSend.send

theorem execHoldTimeout (h : s.ServesAt n) : KeepsServing n (execHoldTimeout s) := by
  unfold Machine.execHoldTimeout
  exact (h.endHold.ite h).next

theorem execRetireMessage (h : s.ServesAt n) : KeepsServing n (execRetireMessage s) := by
  unfold Machine.execRetireMessage
  refine State.ServesAt.next ?_
  split
  · exact h
  · extract_lets +onlyGivenNames s1 s2 s3 tr s4
    have h3 : s3.ServesAt n := h.haulSend.send.abandonLive.wr.updPair.haulZero
    have h4 : s4.ServesAt n := h3.setTru
    exact h4.enterLone

/-! ### Chain -/

theorem updChain {f : Chain → Chain} (h : s.ServesAt n) : (s.updChain f).ServesAt n := h.of_eq

theorem chainRx {crcOk : Bool} {f : State → State} (h : s.ServesAt n) (hf : ∀ (a : State), a.ServesAt n → (f a).ServesAt n) :
    (s.chainRx crcOk f).ServesAt n := by
  unfold State.chainRx
  exact (hf _ h.bump).ite h.bump

theorem ackUp (h : s.ServesAt n) : s.ackUp.ServesAt n := by
  unfold State.ackUp
  split
  · exact h
  · dsimp -zeta only
    exact h.chainSend.updChain

theorem offerDown (h : s.ServesAt n) : s.offerDown.ServesAt n := by
  unfold State.offerDown
  exact h.chainSend.updChain.ite h.updChain.ackUp

theorem becomeHead {cause : Nat} (h : s.ServesAt n) : (s.becomeHead cause).ServesAt n := by
  unfold State.becomeHead
  extract_lets +onlyGivenNames s1 s2
  have h1 : s1.ServesAt n := h.wr.wr.wr
  have h2 : s2.ServesAt n := h1.updChain.raise
  exact h2.offerDown

theorem chainStart {up dn : Bool} (h : s.ServesAt n) : (s.chainStart up dn).ServesAt n := by
  unfold State.chainStart
  extract_lets +onlyGivenNames s1 s2
  have h1 : s1.ServesAt n := h.wrB.wrB.wrB
  have h2 : s2.ServesAt n := h1.updChain
  exact h2.updChain.ite h2.becomeHead

theorem execHeadWaitExpiry (h : s.ServesAt n) : KeepsServing n (execHeadWaitExpiry s) := by
  unfold Machine.execHeadWaitExpiry
  refine State.ServesAt.next ?_
  split
  · exact h.becomeHead.ite h
  · exact h

theorem takeAddress {a : Nat} (h : s.ServesAt n) : (s.takeAddress a).ServesAt n := by
  unfold State.takeAddress
  extract_lets +onlyGivenNames s1 s2 s3
  have h1 : s1.ServesAt n := h.wr.wr.wr
  have h2 : s2.ServesAt n := h1.wr
  have h3 : s3.ServesAt n := h2.wr.updChain.raise
  exact h3.offerDown

theorem execChainAddr {crcOk : Bool} {a : Nat} (h : s.ServesAt n) : KeepsServing n (execChainAddr crcOk a s) := by
  unfold Machine.execChainAddr
  refine State.ServesAt.next ?_
  refine h.chainRx fun t ht => ?_
  split
  · exact ht
  · split
    · exact ht.raise
    · split
      · exact ht.takeAddress
      · exact (ht.ackUp.ite ht).ite (ht.raise.ite ht.takeAddress)

theorem execChainAddrAck {crcOk : Bool} {maxCount units : Nat} (h : s.ServesAt n) :
    KeepsServing n (execChainAddrAck crcOk maxCount units s) := by
  unfold Machine.execChainAddrAck
  refine State.ServesAt.next ?_
  refine h.chainRx fun t ht => ?_
  split
  · exact ht
  · extract_lets +onlyGivenNames s1
    have h1 : s1.ServesAt n := ht.updChain
    exact h1.wr.ite h1.ackUp

theorem execAddrRepeatTimer (h : s.ServesAt n) : KeepsServing n (execAddrRepeatTimer s) := by
  unfold Machine.execAddrRepeatTimer
  refine State.ServesAt.next ?_
  split
  · exact h.offerDown.ite h
  · exact h

theorem execChainDownstreamUndriven (h : s.ServesAt n) : KeepsServing n (execChainDownstreamUndriven s) := by
  unfold Machine.execChainDownstreamUndriven
  refine State.ServesAt.next ?_
  extract_lets +onlyGivenNames waiting s1
  have h1 : s1.ServesAt n := h.wr.updChain
  exact h1.ackUp.ite h1

theorem chainReset {src : Nat} (h : s.ServesAt n) : (s.chainReset src).ServesAt n := by
  unfold State.chainReset
  extract_lets +onlyGivenNames head s1 s2 s3 s4 s5
  have h1 : s1.ServesAt n := h.raise
  have h2 : s2.ServesAt n := h1.wr.wrB
  have h3 : s3.ServesAt n := h2.updChain
  have h4 : s4.ServesAt n := h3.chainSend.ite h3
  have h5 : s5.ServesAt n := h4.enterHoldover.ite h4
  exact h5.offerDown.ite h5

theorem execChainReset {crcOk : Bool} {src : Nat} {fromUp : Bool} (h : s.ServesAt n) :
    KeepsServing n (execChainReset crcOk src fromUp s) := by
  unfold Machine.execChainReset
  exact (h.chainRx fun _ ht => ht.chainReset.ite (ht.chainSend.ite ht)).next

theorem orderChainReset (h : s.ServesAt n) : s.orderChainReset.ServesAt n := by
  unfold State.orderChainReset
  exact h.chainReset.ite h.chainSend

theorem execChnChainResetCmd (h : s.ServesAt n) : KeepsServing n (execChnChainResetCmd s) := by
  unfold Machine.execChnChainResetCmd
  exact (h.atWindow fun _ ht => ht.orderChainReset).next

theorem execTreqTimer (h : s.ServesAt n) : KeepsServing n (execTreqTimer s) := by
  unfold Machine.execTreqTimer
  refine State.ServesAt.next ?_
  split
  · extract_lets +onlyGivenNames e
    exact h.chainSend.updChain
  · exact h

theorem execChainTreq {crcOk : Bool} {eseq : Nat} (h : s.ServesAt n) : KeepsServing n (execChainTreq crcOk eseq s) := by
  unfold Machine.execChainTreq
  exact (h.chainRx fun _ ht => ht.chainSend.ite ht).next

theorem execChainTresp {crcOk : Bool} {eseq t2 t3 : Nat} (h : s.ServesAt n) : KeepsServing n (execChainTresp crcOk eseq t2 t3 s) := by
  refine State.ServesAt.next (h.chainRx fun t ht => ?_)
  split
  · exact ht
  · split
    · exact ht
    · extract_lets +onlyGivenNames t4 offset delay first s1 s2
      have h1 : s1.ServesAt n := ht.wr.updChain
      have h2 : s2.ServesAt n := by
        unfold s2
        rw [h1.not_stepAllowed, Bool.and_false]
        exact h1
      exact h2.ite h2.servoUpdate

theorem execChainUpstreamLost (h : s.ServesAt n) : KeepsServing n (execChainUpstreamLost s) := by
  unfold Machine.execChainUpstreamLost
  refine State.ServesAt.next ?_
  split
  · exact h
  · extract_lets +onlyGivenNames s1
    have h1 : s1.ServesAt n := h.wr.updChain.raise
    exact h1.enterHoldover.ite h1

theorem execChainUpstreamRestored (h : s.ServesAt n) : KeepsServing n (execChainUpstreamRestored s) := by
  unfold Machine.execChainUpstreamRestored
  exact (h.ite h.wr.wr.updChain.raise).next

theorem execChainShot {crcOk : Bool} {t issuer : Nat} {fromUp : Bool} (h : s.ServesAt n) :
    KeepsServing n (execChainShot crcOk t issuer fromUp s) := by
  unfold Machine.execChainShot
  refine State.ServesAt.next ?_
  refine h.chainRx fun t1 ht => ?_
  extract_lets +onlyGivenNames s1
  have h1 : s1.ServesAt n := ht.chainSend.ite ht
  exact h1.shotRequest.ite h1

/-! ### Rebuild -/

theorem foundBad {sr : SRef} {bad : List (Nat × Nat)} (h : s.ServesAt n) : (s.foundBad sr bad).ServesAt n := by
  unfold State.foundBad
  extract_lets +onlyGivenNames bs s1
  have h1 : s1.ServesAt n := by
    unfold s1
    refine h.foldl fun a x ha => ?_
    split
    · exact ha
    · extract_lets +onlyGivenNames s2
      have h2 : s2.ServesAt n := ha.readError
      exact h2.rewriteBlk
  exact h1.loseAt

theorem rebuildRate {blocks : Nat} (h : s.ServesAt n) : (s.rebuildRate blocks).ServesAt n := h.of_eq

theorem moveBlocks {g k to_ : Nat} {st : Stream} {kind : Nat} (h : s.ServesAt n) : (s.moveBlocks g k to_ st kind).1.ServesAt n := by
  unfold State.moveBlocks
  split
  · exact h
  · extract_lets +onlyGivenNames busy want s1 lost s2
    have h1 : s1.ServesAt n := h.bgIo
    have h2 : s2.ServesAt n := h1.countRecon.rebuildRate
    refine State.ServesAt.foldl_fst h2 fun q x hq => ?_
    split
    · exact hq
    · extract_lets +onlyGivenNames c
      split
      · rename_i t x1 heq
        have ht : t.ServesAt n := hq.place.of_fst heq
        exact ht
      · rename_i t heq
        have ht : t.ServesAt n := hq.place.of_fst heq
        exact ht

theorem execSpoilReclaimVictim {group : Nat} {bad : List (Nat × Nat)} (h : s.ServesAt n) :
    KeepsServing n (execSpoilReclaimVictim group bad s) := by
  unfold Machine.execSpoilReclaimVictim
  refine State.ServesAt.next ?_
  split
  · exact h
  · split
    · exact h
    · extract_lets +onlyGivenNames s1 s2
      have h1 : s1.ServesAt n := h.foundBad
      have h2 : s2.ServesAt n := h1.chargeTask
      exact h2.moveBlocks.syncGroup.freeIfEmpty

theorem sweepLost {g : Nat} (h : s.ServesAt n) : (s.sweepLost g).ServesAt n := by
  unfold State.sweepLost
  refine h.foldl fun a x ha => ?_
  split
  · exact ha
  · extract_lets +onlyGivenNames s1
    have h1 : s1.ServesAt n := ha.foldl fun _ _ ht => ht.recordLost.ite ht
    exact h1.updStripe

theorem execRebuildIndexSweep {group : Nat} (h : s.ServesAt n) : KeepsServing n (execRebuildIndexSweep group s) := by
  unfold Machine.execRebuildIndexSweep
  refine State.ServesAt.next ?_
  split
  · exact h
  · extract_lets +onlyGivenNames out found s1 away s2
    have h1 : s1.ServesAt n := h.of_eq
    have h2 : s2.ServesAt n := h1.chargeTask.bgIo
    exact h2.updGroup.sweepLost

theorem rebuildWaits {g : Nat} (h : s.ServesAt n) : (s.rebuildWaits g).ServesAt n := by
  unfold State.rebuildWaits
  exact h.ite h.updGroup.raiseLay

theorem evacuate {g k : Nat} (h : s.ServesAt n) : (s.evacuate g k).ServesAt n := by
  unfold State.evacuate
  extract_lets +onlyGivenNames live
  dsimp -zeta only
  split
  · exact ((h.chargeTask.moveBlocks.bump (by simp only [F.LAY_REB_SLABS]; omega)).updGroup).freeIfEmpty
  · exact h.chargeTask.moveBlocks.rebuildWaits

theorem placeAll {g : Nat} {l : List SBlock} (h : s.ServesAt n) : (s.placeAll g l).1.ServesAt n := by
  unfold State.placeAll
  refine State.ServesAt.foldl_fst h fun q x hq => ?_
  split
  · exact hq
  · split
    · rename_i t x1 heq
      have ht : t.ServesAt n := hq.place.of_fst heq
      exact ht
    · rename_i t heq
      have ht : t.ServesAt n := hq.place.of_fst heq
      exact ht

theorem relocate {g : Nat} {x : Stripe} {slab : Nat} (h : s.ServesAt n) : (s.relocate g x slab).ServesAt n := by
  unfold State.relocate
  extract_lets +onlyGivenNames used pad src copy slots reads here
  split
  · rename_i t heq
    have ht : t.ServesAt n := h.placeAll.of_fst heq
    exact ht.countRecon.rebuildRate.bgIo.chargeTask.updGroup
  · rename_i t heq
    have ht : t.ServesAt n := h.placeAll.of_fst heq
    exact ht.rebuildWaits

theorem rebuildOne {g : Nat} {x : Stripe} {slab : Nat} (h : s.ServesAt n) : (s.rebuildOne g x slab).ServesAt n := by
  unfold State.rebuildOne
  extract_lets +onlyGivenNames chain
  split
  · exact h.evacuate
  · split
    · extract_lets +onlyGivenNames s1
      have h1 : s1.ServesAt n := h.evacuate
      split
      · exact h1.evacuate
      · exact h1
    · exact h.relocate

theorem syncReshape (h : s.ServesAt n) : s.syncReshape.ServesAt n := by
  unfold State.syncReshape
  split
  · exact h.wr.wr
  · extract_lets +onlyGivenNames left
    exact h.wr.wr

theorem reshapeStep {r : Reshape} (h : s.ServesAt n) : (s.reshapeStep r).ServesAt n := by
  unfold State.reshapeStep
  split
  · exact h
  · split
    · split
      · exact h.chargeTask.moveBlocks.freeIfEmpty
      · exact h
    · split
      · exact h
      · split
        · exact h
        · extract_lets +onlyGivenNames b lost s1
          have h1 : s1.ServesAt n := h.countRecon.rebuildRate
          exact h1.chargeTask.bgIo.place

theorem execRebuildStripe {group : Nat} {bad : List (Nat × Nat)} (h : s.ServesAt n) : KeepsServing n (execRebuildStripe group bad s) := by
  unfold Machine.execRebuildStripe
  refine State.ServesAt.next ?_
  split
  · exact h
  · extract_lets +onlyGivenNames s1
    have h1 : s1.ServesAt n := by
      unfold s1
      split
      · extract_lets +onlyGivenNames s2
        have h2 : s2.ServesAt n := h.foundBad
        split
        · exact h2.rebuildOne.ite h2
        · exact h2
      · split
        · exact h
        · split
          · exact h.reshapeStep
          · split
            · exact h.chargeTask.moveBlocks.freeIfEmpty
            · exact h
    exact h1.syncReshape.syncGroup.syncHealth

theorem execRegionResync {slot : Nat} {bad : List (Nat × Nat × Nat × Nat)} (h : s.ServesAt n) :
    KeepsServing n (execRegionResync slot bad s) := by
  unfold Machine.execRegionResync
  refine State.ServesAt.next ?_
  extract_lets +onlyGivenNames g
  split
  · exact h
  · split
    · exact h.updSlot.syncDirty.syncHealth
    · split
      · exact h.updSlot.syncDirty
      · extract_lets +onlyGivenNames held
        split
        · exact h
        · extract_lets +onlyGivenNames lbas srs bs
          dsimp -zeta only
          extract_lets +onlyGivenNames s1 s2 s3
          have h1 : s1.ServesAt n := by
            unfold s1
            refine h.foldl fun a x ha => ?_
            extract_lets +onlyGivenNames mine s4 s5
            have h4 : s4.ServesAt n := ha.loseAt.countRecon.rebuildRate
            have h5 : s5.ServesAt n := h4.foldl fun _ _ ht => ht.foldl fun _ _ ht1 => ht1.ite ht1.regenInPlace
            exact h5.bgIo
          have h2 : s2.ServesAt n := h1.chargeTask
          have h3 : s3.ServesAt n := h2.updSlot
          exact h3.syncDirty.syncHealth

theorem startReshape (h : s.ServesAt n) : s.startReshape.ServesAt n := by
  unfold State.startReshape
  extract_lets +onlyGivenNames g x
  split
  · extract_lets +onlyGivenNames moved phase r added s1 s2
    have h1 : s1.ServesAt n := h.of_eq
    have h2 : s2.ServesAt n := h1.foldl fun _ _ ht => (ht.changeSlot.wr (by simp only [F.LAY_MSTAT_GROUP]; omega)).syncDirty
    exact h2.syncReshape.syncGroup
  · extract_lets +onlyGivenNames tgt ns r s1
    have h1 : s1.ServesAt n := h.of_eq
    exact h1.updNs.syncReshape

theorem reshapeOrder (h : s.ServesAt n) : s.reshapeOrder.ServesAt n := by
  unfold State.reshapeOrder
  extract_lets +onlyGivenNames g
  split
  · exact h.refuseOrder
  · exact h.startReshape

theorem execReshapeStart {v : Word} (h : s.ServesAt n) : KeepsServing n (execReshapeStart v s) := by
  unfold Machine.execReshapeStart
  refine State.ServesAt.next ?_
  extract_lets +onlyGivenNames s1
  have h1 : s1.ServesAt n := h.writeRegW
  exact h1.reshapeOrder.ite h1

theorem execReshapeSwitchover (h : s.ServesAt n) : KeepsServing n (execReshapeSwitchover s) := by
  unfold Machine.execReshapeSwitchover
  refine State.ServesAt.next ?_
  split
  · exact h
  · extract_lets +onlyGivenNames g ready
    split
    · exact h
    · extract_lets +onlyGivenNames s1 s2 s3 s4 s5
      have h1 : s1.ServesAt n := h.of_eq
      have h5 : s5.ServesAt n := (h1.wr (by simp only [F.LAY_GCFG_GEOM]; omega)).wr (by simp only [F.LAY_GCFG_K]; omega)
      extract_lets +onlyGivenNames s6 s7 s8 s9
      have h6 : s6.ServesAt n := (h5.wr (by simp only [F.LAY_GMEM_LO_SLOTS]; omega)).wr (by simp only [F.LAY_GMEM_HI_SLOTS]; omega)
      have h8 : s8.ServesAt n := h1.updSvy
      have h9 : s9.ServesAt n := h8.of_eq
      extract_lets +onlyGivenNames s10 s11 s12 s13
      have h10 : s10.ServesAt n := by
        unfold s10
        split
        · exact h6.foldl fun _ _ ht => (ht.changeSlot.wr (by simp only [F.LAY_MSTAT_GROUP]; omega)).syncDirty
        · exact h9.updNs
      have h11 : s11.ServesAt n := h10.updSvy.updGroup.writeMember
      have h12 : s12.ServesAt n := h11.syncReshape.raiseLay.syncGroup
      have h13 : s13.ServesAt n := h12.syncGroup.ite h12
      exact h13.syncHealth

/-! ### Survey scan -/

theorem syncSvy {g : Nat} (h : s.ServesAt n) : (s.syncSvy g).ServesAt n := by
  unfold State.syncSvy
  dsimp -zeta only
  extract_lets +onlyGivenNames x mine s1 s2
  have h1 : s1.ServesAt n := h.wr (by simp only [F.SVY_GSTAT_DLOG_USED]; omega)
  have h2 : s2.ServesAt n := h1.wr (by simp only [F.SVY_GSTAT_SLOT_USED]; omega)
  exact (h2.wrB (by simp only [F.SVY_GSTAT_TWO_COPY]; omega)).wrB (by simp only [F.SVY_GSTAT_SCAN]; omega)

theorem writeObj {g : Nat} {o : SvyObj} (h : s.ServesAt n) : (s.writeObj g o).ServesAt n := by
  unfold State.writeObj
  extract_lets +onlyGivenNames hit
  split
  · extract_lets +onlyGivenNames m s1 s2
    have h1 : s1.ServesAt n := h.updSvy
    have h2 : s2.ServesAt n := h1.updObjs.bgIo
    exact h2.bump (roleKey_ne _ _ _)
  · exact h.updObjs.raiseSvy

theorem writeAt {g kind owner level index : Nat} (h : s.ServesAt n) : (s.writeAt g kind owner level index).ServesAt n := by
  unfold State.writeAt
  split
  · exact h.writeObj
  · extract_lets +onlyGivenNames o
    exact h.of_eq.writeObj

theorem writeAbove {g kind owner index level : Nat} (h : s.ServesAt n) : (s.writeAbove g kind owner index level).ServesAt n := by
  unfold State.writeAbove
  extract_lets +onlyGivenNames s1 s2
  have h1 : s1.ServesAt n := (h.foldl fun _ _ ht => ht.writeAt).ite h
  have h2 : s2.ServesAt n := h1.writeAt.ite h1
  exact h2.writeAt

theorem writeTree {g : Nat} {o : SvyObj} (h : s.ServesAt n) : (s.writeTree g o).ServesAt n := by
  unfold State.writeTree
  extract_lets +onlyGivenNames s1
  have h1 : s1.ServesAt n := h.writeObj
  exact h1.ite h1.writeAbove

theorem advanceTail {g : Nat} (h : s.ServesAt n) : (s.advanceTail g).ServesAt n := by
  unfold State.advanceTail
  extract_lets +onlyGivenNames open_ x gone
  exact h.updSvy

theorem execSurveyWritebackDone {group : Nat} (h : s.ServesAt n) : KeepsServing n (execSurveyWritebackDone group s) := by
  unfold Machine.execSurveyWritebackDone
  refine State.ServesAt.next ?_
  split
  · exact h
  · split
    · exact h
    · extract_lets +onlyGivenNames was empty s1 s2
      have h1 : s1.ServesAt n := h.of_eq.updSvy.writeAbove.ite h.writeTree
      have h2 : s2.ServesAt n := h1.chargeTask
      exact h2.advanceTail.writeMember.syncSvy

theorem startScan {g : Nat} (h : s.ServesAt n) : (s.startScan g).ServesAt n := by
  unfold State.startScan
  exact h.ite h.updGroup.raiseSvy.syncSvy

theorem pageReads (h : s.ServesAt n) : s.pageReads.ServesAt n := by
  unfold State.pageReads
  exact h.foldl fun _ _ ht => ht.startReads

theorem execSurveyObjectLoaded {group kind level owner index : Nat} {bad : List Nat} (h : s.ServesAt n) :
    KeepsServing n (execSurveyObjectLoaded group kind level owner index bad s) := by
  unfold Machine.execSurveyObjectLoaded
  refine State.ServesAt.next ?_
  extract_lets +onlyGivenNames hit above
  split
  · exact h
  · split
    · exact h
    · extract_lets +onlyGivenNames copies failed s1 s2
      have h1 : s1.ServesAt n := (h.bump (roleKey_ne _ _ _)).bgIo
      have h2 : s2.ServesAt n := h1.foldl fun _ _ ht => (ht.bump (roleKey_ne _ _ _)).raiseSvy
      split
      · extract_lets +onlyGivenNames s3
        have h3 : s3.ServesAt n := h2.updGroup.raiseSvy
        exact h3.startScan
      · extract_lets +onlyGivenNames s3 s4
        have h3 : s3.ServesAt n := h2.updObjs.useObjs.pageReads
        have h4 : s4.ServesAt n := h3.ite h3.writeTree.writeMember
        exact h4.evictObj.syncSvy

theorem execDeltaLogBlockAcked {group : Nat} (h : s.ServesAt n) : KeepsServing n (execDeltaLogBlockAcked group s) := by
  unfold Machine.execDeltaLogBlockAcked
  refine State.ServesAt.next ?_
  split
  · exact h
  · extract_lets +onlyGivenNames x mine ready
    dsimp -zeta only
    extract_lets +onlyGivenNames blocks
    split
    · exact h
    · extract_lets +onlyGivenNames last new s1 s2 s3 full say
      have h1 : s1.ServesAt n := h.updSvy
      have h2 : s2.ServesAt n := (h1.bumpBy (roleKey_ne _ _ _)).emitRec
      have h3 : s3.ServesAt n := h2.advanceTail.syncSvy
      exact h3.updSvy.raiseSvy.ite h3

theorem execMemberRecordTimer {group : Nat} (h : s.ServesAt n) : KeepsServing n (execMemberRecordTimer group s) := by
  unfold Machine.execMemberRecordTimer
  exact (h.writeMember.ite h).next

theorem execObjectRehome {group : Nat} (h : s.ServesAt n) : KeepsServing n (execObjectRehome group s) := by
  unfold Machine.execObjectRehome
  refine State.ServesAt.next ?_
  extract_lets +onlyGivenNames lost
  exact h.ite (((h.foldl fun _ _ ht => ht.writeTree).writeMember).syncSvy)

theorem recount {g : Nat} (h : s.ServesAt n) : (s.recount g).ServesAt n := by
  unfold State.recount
  extract_lets +onlyGivenNames at_ total s1
  have h1 : s1.ServesAt n := h.of_eq
  exact h1.updGroup

theorem execSurveyRebuildScan {group : Nat} {freed : List Nat} {found : List (Nat × Nat × Nat × Nat × Nat)} (h : s.ServesAt n) :
    KeepsServing n (execSurveyRebuildScan group freed found s) := by
  unfold Machine.execSurveyRebuildScan
  refine State.ServesAt.next ?_
  split
  · exact h
  · extract_lets +onlyGivenNames s1 s2 s3 s4 s5 s6 s7 s8 s9
    have h1 : s1.ServesAt n := h.of_eq
    have h2 : s2.ServesAt n := by
      unfold s2
      refine h1.foldl fun a x ha => ?_
      extract_lets +onlyGivenNames p
      split
      · exact ha.setEntry.ite ha
      · exact ha
    have h3 : s3.ServesAt n := h2.recount
    have h4 : s4.ServesAt n := h3.updObjs
    have h5 : s5.ServesAt n := ((h4.foldl fun _ _ ht => ht.writeObj).writeAt).ite h4
    have h6 : s6.ServesAt n := h5.writeMember
    have h7 : s7.ServesAt n := h6.foldl fun _ _ ht => ht.markAttached
    have h8 : s8.ServesAt n := h7.updGroup
    have h9 : s9.ServesAt n := h8.pageReads.evictObj
    exact h9.raiseSvy.raiseSvy.syncSvy.syncGroup

/-! ### Start -/

theorem updBoot {f : Boot → Boot} (h : s.ServesAt n) : (s.updBoot f).ServesAt n := h.of_eq

theorem execControllerStart {bootSel : Nat} {slotB : Bool} {flash : Option Flash} (h : s.ServesAt n) :
    KeepsServing n (execControllerStart bootSel slotB flash s) := by
  unfold Machine.execControllerStart
  refine State.ServesAt.next ?_
  split
  · exact h
  · split
    · exact h
    · extract_lets +onlyGivenNames s1 s2 s3
      have h2 : s2.ServesAt n := h.updBoot
      have h3 : s3.ServesAt n := by
        unfold s3
        split
        · exact h2.of_eq
        · exact h2
      extract_lets +onlyGivenNames s4
      have h4 : s4.ServesAt n := h3.wr.wrB
      exact h4.setBenchState.noteStep.wr

theorem stopStart {why : Nat} (h : s.ServesAt n) : (s.stopStart why).ServesAt n := h.wr.updBoot

theorem stepRom {romOk fusesOk trngOk : Bool} (h : s.ServesAt n) : (s.stepRom romOk fusesOk trngOk).ServesAt n := by
  unfold State.stepRom
  split
  · exact h.stopStart
  · split
    · exact h.stopStart
    · dsimp -zeta only
      extract_lets +onlyGivenNames s1 s2
      have h2 : s2.ServesAt n := by
        unfold s2
        have hb : ((s.draw FreeKind.keyMaterial (2 ^ 256)).2.draw FreeKind.keyMaterial (2 ^ 512)).2.ServesAt n := h.draw.draw
        exact hb.of_eq
      extract_lets +onlyGivenNames s3
      have h3 : s3.ServesAt n := h2.updBench.setBenchState
      exact h3.wr.noteStep

theorem nameBank {k : Nat} {b : BankImg} (h : s.ServesAt n) : (s.nameBank k b).ServesAt n := by
  unfold State.nameBank
  extract_lets +onlyGivenNames s1 v s2
  have h1 : s1.ServesAt n := h.wr.updBoot
  have h2 : s2.ServesAt n := h1.wr.wr
  exact h2.wr.wr

theorem loadBank {k : Nat} {b : BankImg} (h : s.ServesAt n) : (s.loadBank k b).ServesAt n :=
  h.nameBank.updLive.foldl fun _ _ ht => ht.wr (by dsimp only; omega)

theorem stepBank (h : s.ServesAt n) : s.stepBank.ServesAt n := by
  unfold State.stepBank
  extract_lets +onlyGivenNames f
  dsimp -zeta only
  extract_lets +onlyGivenNames s1
  have h1 : s1.ServesAt n := h.foldl fun _ _ ht => ht.wr (by show (0x4004 : Nat) ≠ 0x20100C; decide)
  split
  · exact h1.stopStart
  · extract_lets +onlyGivenNames s2 s3 s4 o s5 fu s6
    have h2 : s2.ServesAt n := h1.foldl fun _ _ ht => ht.setBenchState
    have h3 : s3.ServesAt n := h2.foldl fun _ _ ht => ht.raise
    have h5 : s5.ServesAt n := (h3.raise.ite h3).wr
    have h6 : s6.ServesAt n := State.ServesAt.ite (State.ServesAt.raise h5.of_eq) h5
    exact h6.loadBank.wr.noteStep

theorem applySettings {l : List SetEntry} (h : s.ServesAt n) : (s.applySettings l).ServesAt n := by
  unfold State.applySettings
  extract_lets +onlyGivenNames s1
  have h1 : s1.ServesAt n := by
    unfold s1
    refine h.foldl fun a x ha => ?_
    dsimp -zeta only
    exact ha.putSetting.wr.raise.ite ha.putSetting
  exact h1.foldl fun _ _ ht => ht.wr (by simp only [F.BENCH_CTL_LOCK]; omega)

theorem configureGroups (h : s.ServesAt n) : s.configureGroups.ServesAt n := by
  unfold State.configureGroups
  refine h.foldl fun a x ha => ?_
  split
  · exact ha
  · extract_lets +onlyGivenNames x1 taken
    split
    · exact ha.updGroup.foldl fun _ _ ht => (ht.updSlot.wr (by simp only [F.LAY_MSTAT_GROUP]; omega)).wr
          (by simp only [F.LAY_MSTAT_STATE]; omega)
    · exact ha.raiseLay

theorem assignEid {p eid : Nat} (h : s.ServesAt n) : (s.assignEid p eid).ServesAt n := h.of_eq.raise

theorem stepSettings {failed : List Nat} (h : s.ServesAt n) : (s.stepSettings failed).ServesAt n := by
  unfold State.stepSettings
  extract_lets +onlyGivenNames s1 s2 s3
  have h1 : s1.ServesAt n := h.foldl fun _ _ ht => ht.selftestEnd
  have h2 : s2.ServesAt n := h1.wr.send
  have h3 : s3.ServesAt n := h2.updBoot
  split
  · exact h3.noteStep.raise
  · split
    · exact h3
    · extract_lets +onlyGivenNames s4 s5 s6
      have h4 : s4.ServesAt n := h3.applySettings
      have h5 : s5.ServesAt n := h4.foldl fun _ _ ht => ht.loadMode
      have h6 : s6.ServesAt n := by
        unfold s6
        refine h5.foldl fun a x ha => ?_
        extract_lets +onlyGivenNames e
        exact ha.ite ha.assignEid
      exact h6.of_eq.configureGroups.noteStep

theorem headStep (h : s.ServesAt n) : s.headStep.ServesAt n := by
  unfold State.headStep
  split
  · rw [h.not_stepAllowed, Bool.and_false]
    exact h
  · exact h

theorem stepTime (h : s.ServesAt n) : s.stepTime.ServesAt n := by
  unfold State.stepTime
  extract_lets +onlyGivenNames s1 s2
  have h1 : s1.ServesAt n := h.headStep
  have h2 : s2.ServesAt n := h1.updTim
  exact h2.updBoot.noteStep

theorem layRegions (h : s.ServesAt n) : s.layRegions.ServesAt n := by
  unfold State.layRegions
  extract_lets +onlyGivenNames z
  exact h.foldl fun _ _ ht => (ht.wr (by simp only [F.MEM_RGN_BASEr_MIB]; omega)).wr (by simp only [F.MEM_RGN_SIZEr_MIB]; omega)

theorem applyRetired {l : List (Nat × Dimm)} (h : s.ServesAt n) : (s.applyRetired l).ServesAt n := by
  unfold State.applyRetired
  extract_lets +onlyGivenNames same
  exact h.of_eq

theorem stepMemory {ch : List (List Dimm)} (h : s.ServesAt n) : (s.stepMemory ch).ServesAt n := by
  unfold State.stepMemory
  extract_lets +onlyGivenNames l bad s1 s2
  have h1 : s1.ServesAt n := h.foldl fun _ _ ht => (((ht.wr (by simp only [F.MEM_CHSTAT_PRESENT]; omega)).wrB
      (by simp only [F.MEM_CHSTAT_TRAINED]; omega)).wr (by simp only [F.MEM_CHSTAT_GIB]; omega)).wr
      (by simp only [F.MEM_CHSTAT_RANKS]; omega)
  have h2 : s2.ServesAt n := h1.applyRetired
  split
  · extract_lets +onlyGivenNames s3
    have h3 : s3.ServesAt n := h2.setRole.wr.ite h2
    exact h3.updBoot.raise
  · extract_lets +onlyGivenNames s3 total s4
    have h3 : s3.ServesAt n := h2.wr.layRegions
    have h4 : s4.ServesAt n := h3.updBoot.raise.ite h3
    exact h4.noteStep

theorem stepPaired (h : s.ServesAt n) : s.stepPaired.ServesAt n := by
  unfold State.stepPaired
  extract_lets +onlyGivenNames s1
  have h1 : s1.ServesAt n := h.goAlone.ite h
  split
  · exact h1
  · extract_lets +onlyGivenNames s2
    have h2 : s2.ServesAt n := h1.noteStep
    exact h2.of_eq

theorem stepMembers {gen : Nat} (h : s.ServesAt n) : (s.stepMembers gen).ServesAt n := by
  unfold State.stepMembers
  extract_lets +onlyGivenNames s1
  have h1 : s1.ServesAt n := h.updBoot.noteStep
  exact (h1.enterHeld.ite h1.enterLone).ite h1

theorem tallyLost {l : List Nat} (h : s.ServesAt n) : (s.tallyLost l).ServesAt n := by
  unfold State.tallyLost
  split
  · exact h
  · extract_lets +onlyGivenNames s1
    have h1 : s1.ServesAt n := h.wr.raise
    refine h1.foldl fun a x ha => ?_
    extract_lets +onlyGivenNames s2
    have h2 : s2.ServesAt n := ha.updGroup.ite ha
    exact h2.startScan.ite h2

theorem dropTally (h : s.ServesAt n) : s.dropTally.ServesAt n := h.of_eq

theorem stepReplay {valid : Bool} {lost : List Nat} (h : s.ServesAt n) : (s.stepReplay valid lost).ServesAt n := by
  unfold State.stepReplay
  extract_lets +onlyGivenNames cfg s1 todo s2 s3
  have htodo : todo.ServesAt n := by
    unfold todo
    split
    · dsimp -zeta only
      extract_lets +onlyGivenNames kgen
      have hb : (s.draw FreeKind.keyMaterial (2 ^ 256)).2.ServesAt n := h.draw
      exact hb.of_eq
    · exact h.tallyLost.ite h.dropTally.tallyLost
  have h3 : s3.ServesAt n := by
    unfold s3
    refine htodo.foldl fun a x ha => ?_
    split
    · exact ha.updRec
    · exact ha.recDurable
  extract_lets +onlyGivenNames s4
  have h4 : s4.ServesAt n := h3.redoInOrder
  exact h4.raise.noteStep

theorem mountSlot {g k : Nat} (h : s.ServesAt n) : (s.mountSlot g k).ServesAt n := by
  unfold State.mountSlot
  extract_lets +onlyGivenNames x gone away
  have haway : ∀ s, s.ServesAt n → (away s).ServesAt n := by
    intro s ht
    exact ht.enterWork.ite ht.failSlot.updSlot
  split
  · exact h.settle.ite (haway _ h)
  · split
    · exact h.putSlot.settle.ite (h.enterWork.settle.ite h.offer)
    · extract_lets +onlyGivenNames s1
      have h1 : s1.ServesAt n := h.ite h.leaveService.putSlot.enterWork.lossScan
      exact h1.settle.offer

theorem adoptGroup {g : Nat} {blank : Bool} (h : s.ServesAt n) : (s.adoptGroup g blank).ServesAt n := by
  unfold State.adoptGroup
  extract_lets +onlyGivenNames ds mine small s1
  have h1 : s1.ServesAt n := h.updSvy
  exact h1.updGroup

theorem drawKsr (h : s.ServesAt n) : s.drawKsr.ServesAt n := h.of_eq

theorem initBlank {g : Nat} (h : s.ServesAt n) : (s.initBlank g).ServesAt n := by
  unfold State.initBlank
  extract_lets +onlyGivenNames s1 s2 s3 s4 s5 s6 s7
  have h1 : s1.ServesAt n := h.adoptGroup
  have h2 : s2.ServesAt n := h1.foldl fun _ _ ht => ht.putSlot
  have h3 : s3.ServesAt n := h2.foldl fun _ _ ht => ht.failSlot
  have h4 : s4.ServesAt n := h3.writeAt.writeAt.ite h3
  have h5 : s5.ServesAt n := h4.writeMember
  have h6 : s6.ServesAt n := h5.wr.raise.ite h5
  have h7 : s7.ServesAt n := h6.ite h6.drawKsr
  exact h7.syncGroup.syncHealth.syncSvy

theorem mountGroup {g : Nat} (h : s.ServesAt n) : (s.mountGroup g).ServesAt n := by
  unfold State.mountGroup
  extract_lets +onlyGivenNames s1 s2 s3 s4
  have h1 : s1.ServesAt n := h.adoptGroup
  have h2 : s2.ServesAt n := h1.updObjs
  have h3 : s3.ServesAt n := h2.foldl fun _ _ ht => ht.mountSlot
  have h4 : s4.ServesAt n := h3.startScan.ite h3
  exact h4.syncGroup.syncHealth.syncSvy

theorem tryMount {g : Nat} (h : s.ServesAt n) : (s.tryMount g).ServesAt n := by
  unfold State.tryMount
  extract_lets +onlyGivenNames x lacking held
  have hheld : ∀ s, s.ServesAt n → (held s).ServesAt n := by
    intro s ht
    exact ht.raise
  split
  · exact h
  · split
    · exact h.initBlank.ite (hheld _ h)
    · exact (hheld _ h).ite (h.mountGroup.ite h)

theorem adoptFound {m : Mount} (h : s.ServesAt n) : (s.adoptFound m).ServesAt n := by
  unfold State.adoptFound
  extract_lets +onlyGivenNames s1
  have h1 : s1.ServesAt n := h.of_eq
  refine h1.foldl fun a x ha => ?_
  extract_lets +onlyGivenNames s2 used
  have h2 : s2.ServesAt n := ha.recount
  split
  · exact h2
  · exact h2.updGroup

theorem firstIdents (h : s.ServesAt n) : s.firstIdents.ServesAt n := by
  unfold State.firstIdents
  split
  · exact h
  · exact h.ite (h.of_eq.ite h.raise)

theorem startCache (h : s.ServesAt n) : s.startCache.ServesAt n := by
  unfold State.startCache
  split
  · exact h
  · extract_lets +onlyGivenNames s1
    have h1 : s1.ServesAt n := h.of_eq
    exact h1.raise.wr.wr

theorem issueAk {k : Nat} (h : s.ServesAt n) : (s.issueAk k).ServesAt n := by
  unfold State.issueAk
  dsimp -zeta only
  extract_lets +onlyGivenNames d c
  have hb : (s.draw FreeKind.nonce (2 ^ 128)).2.ServesAt n := h.draw
  exact hb.of_eq

theorem stepMount {envelope : Bool} {found : Option Mount} (h : s.ServesAt n) : (s.stepMount envelope found).ServesAt n := by
  unfold State.stepMount
  extract_lets +onlyGivenNames s1 fresh s2 s3 s4
  have h1 : s1.ServesAt n := by
    unfold s1
    split
    · exact (h.foldl fun _ _ ht => ht.adoptGroup.updGroup.ite ht).adoptFound
    · exact h
  have h3 : s3.ServesAt n := h1.of_eq.ite h1
  have h4 : s4.ServesAt n := h3.raise.ite h3
  extract_lets +onlyGivenNames s5
  have h5 : s5.ServesAt n := h4.foldl fun _ _ ht => ht.tryMount
  split
  · exact h5
  · extract_lets +onlyGivenNames s6
    have h6 : s6.ServesAt n := h5.firstIdents.ite h5
    exact h6.startCache.noteStep

theorem execBootStepEnd {e : BootEnd} (h : s.ServesAt n) : KeepsServing n (execBootStepEnd e s) := by
  unfold Machine.execBootStepEnd
  refine State.ServesAt.next ?_
  split
  · exact h
  · extract_lets +onlyGivenNames first
    split
    · exact h.stepRom.ite h
    · exact h.stepBank.ite h
    · exact h.stepSettings.ite h
    · exact h.noteStep.chainStart.ite h
    · exact h.stepTime.ite h
    · exact h.stepMemory.ite h
    · exact h.stepPaired.ite h
    · exact h.noteStep.ite h
    · exact h.noteStep.ite h
    · exact h.noteStep.ite h
    · exact h.stepMembers.ite h
    · exact h.stepReplay.ite h
    · extract_lets +onlyGivenNames ready
      exact h.stepMount.ite h
    · split
      · extract_lets +onlyGivenNames s1
        have h1 : s1.ServesAt n := h.wr.wrB
        exact h1.ite h1.raise
      · exact h
    · split
      · dsimp -zeta only
        extract_lets +onlyGivenNames s1
        have h1 : s1.ServesAt n := h.draw.issueAk
        exact h1.wr.wr.sendPairing
      · exact h

theorem execMemberWaitExpiry {slot : Nat} (h : s.ServesAt n) : KeepsServing n (execMemberWaitExpiry slot s) := by
  unfold Machine.execMemberWaitExpiry
  exact (h.suspectSlot.ite h).next

theorem execTimeWaitExpiry (h : s.ServesAt n) : KeepsServing n (execTimeWaitExpiry s) := by
  unfold Machine.execTimeWaitExpiry
  exact (h.raise.updTim.ite h).next

theorem execServiceStart (h : s.ServesAt n) : KeepsServing n (execServiceStart s) := by
  unfold Machine.execServiceStart
  exact (h.headStep.takeStep15.ite h).next

theorem execStandbyServiceStart (h : s.ServesAt n) : KeepsServing n (execStandbyServiceStart s) := by
  unfold Machine.execStandbyServiceStart
  exact (h.takeStep15.ite h).next

/-! ### Live service -/

theorem writeDesc {bank : Nat} (h : s.ServesAt n) : (s.writeDesc bank).ServesAt n := by
  unfold State.writeDesc
  split
  · exact h.send
  · exact h.send

theorem commitGo {id : Nat} {v : NvmeCmd} {ca : Nat} {x : CommitInfo} (h : s.ServesAt n) : (s.commitGo id v ca x).ServesAt n := by
  unfold State.commitGo
  split
  · exact h.finish
  · extract_lets +onlyGivenNames n1 s1
    have h1 : s1.ServesAt n := h.updLive
    exact h1.send.ite (h1.writeDesc.ite h1.wr.noticeAll.raise)

theorem commitCmd {v : NvmeCmd} {ca : Nat} {x : CommitInfo} (h : s.ServesAt n) : (s.commitCmd v ca x).ServesAt n := by
  unfold State.commitCmd
  extract_lets +onlyGivenNames v1
  split
  · exact h.ite h.commitGo
  · exact h.admin fun _ _ ht => ht.commitGo

theorem execFirmwareCommitWrite {v : NvmeCmd} {x : CommitInfo} (h : s.ServesAt n) : KeepsServing n (execFirmwareCommitWrite v x s) :=
  h.commitCmd.next

theorem execFirmwareCommitWritePrefer {v : NvmeCmd} {x : CommitInfo} (h : s.ServesAt n) :
    KeepsServing n (execFirmwareCommitWritePrefer v x s) :=
  h.commitCmd.next

theorem execFirmwareCommitPrefer {v : NvmeCmd} {x : CommitInfo} (h : s.ServesAt n) : KeepsServing n (execFirmwareCommitPrefer v x s) :=
  h.commitCmd.next

theorem execFirmwareCommitActivate {v : NvmeCmd} {x : CommitInfo} (h : s.ServesAt n) :
    KeepsServing n (execFirmwareCommitActivate v x s) :=
  h.commitCmd.next

theorem updCommit {f : FwCommit → FwCommit} (h : s.ServesAt n) : (s.updCommit f).ServesAt n := h.updLive

theorem commitEnd {st : Status} (h : s.ServesAt n) : (s.commitEnd st).ServesAt n := by
  unfold State.commitEnd
  split
  · exact h
  · extract_lets +onlyGivenNames s1
    have h1 : s1.ServesAt n := h.updLive
    exact h1.finish.ite h1

theorem liveEnd {c : FwCommit} (h : s.ServesAt n) : (s.liveEnd c).ServesAt n := by
  unfold State.liveEnd
  extract_lets +onlyGivenNames s1 s2 s3
  have h1 : s1.ServesAt n := h.nameBank.wr
  have h2 : s2.ServesAt n := h1.updLive
  have h3 : s3.ServesAt n := h2.raise.ite h2
  exact h3.commitEnd

theorem bankWritten {partner ok : Bool} (h : s.ServesAt n) : (s.bankWritten partner ok).ServesAt n := by
  unfold State.bankWritten
  split
  · exact h
  · split
    · exact h
    · split
      · exact h.commitEnd
      · extract_lets +onlyGivenNames s1 s2
        have h2 : s2.ServesAt n := h.ite h.of_eq
        extract_lets +onlyGivenNames s3
        have h3 : s3.ServesAt n := h2.updCommit
        exact h3.ite (h3.commitEnd.ite h3.writeDesc)

theorem putDesc {bank : Nat} (h : s.ServesAt n) : (s.putDesc bank).ServesAt n := by
  unfold State.putDesc
  dsimp -zeta only
  exact h.of_eq

theorem descWritten {partner : Bool} (h : s.ServesAt n) : (s.descWritten partner).ServesAt n := by
  unfold State.descWritten
  split
  · exact h
  · split
    · exact h
    · extract_lets +onlyGivenNames s1 s2
      have h1 : s1.ServesAt n := h.ite h.putDesc
      have h2 : s2.ServesAt n := h1.updCommit
      exact (h2.ite h2.liveEnd).ite (h2.ite h2.commitEnd)

theorem bankRead {partner ok : Bool} {bank : Nat} (h : s.ServesAt n) : (s.bankRead partner ok bank).ServesAt n := by
  unfold State.bankRead
  split
  · split
    · exact h
    · split
      · exact h.abandonLive
      · extract_lets +onlyGivenNames s1
        have h1 : s1.ServesAt n := h.updCommit
        exact h1.wr.ite h1
  · split
    · exact h
    · split
      · exact h
      · extract_lets +onlyGivenNames id s1
        have h1 : s1.ServesAt n := h.updLive
        exact h1.wr.liveStart

theorem execFlashWriteDone {e : FlashEnd} (h : s.ServesAt n) : KeepsServing n (execFlashWriteDone e s) := by
  unfold Machine.execFlashWriteDone
  refine State.ServesAt.next ?_
  split
  · exact h.bankWritten
  · exact h.descWritten
  · exact h.bankRead

theorem partnerReloaded {ok last : Bool} (h : s.ServesAt n) : (s.partnerReloaded ok last).ServesAt n := by
  unfold State.partnerReloaded
  extract_lets +onlyGivenNames s1
  have h1 : s1.ServesAt n := h.endHold
  split
  · exact h1
  · split
    · exact h1.abandonLive
    · split
      · exact h1
      · split
        · exact h1.wr.startHandover
        · split
          · split
            · exact h1.wr.writeDesc
            · exact h1
          · exact h1

theorem refuseLive (h : s.ServesAt n) : s.refuseLive.ServesAt n := h.wr

theorem reloadOrder {b : Nat} (h : s.ServesAt n) : (s.reloadOrder b).ServesAt n := by
  unfold State.reloadOrder
  split
  · exact h.refuseLive
  · split
    · extract_lets +onlyGivenNames s1
      have h1 : s1.ServesAt n := h.abandonRotation.ite h
      exact h1.startReload
    · exact h.reloadSingleton

theorem execCtlLiveReload {bench : Nat} (h : s.ServesAt n) : KeepsServing n (execCtlLiveReload bench s) := by
  unfold Machine.execCtlLiveReload
  exact (h.atWindow fun _ ht => ht.reloadOrder).next

theorem retireOrder (h : s.ServesAt n) : s.retireOrder.ServesAt n := by
  unfold State.retireOrder
  split
  · exact h.refuseLive
  · extract_lets +onlyGivenNames s1 s2 s3
    have h1 : s1.ServesAt n := h.haulSend.send
    have h2 : s2.ServesAt n := h1.updPair
    have h3 : s3.ServesAt n := h2.foldl fun _ _ ht => ht.holdPerst.setOut
    exact h3.epLinkReset.wr.raise

theorem execCtlLiveRetire (h : s.ServesAt n) : KeepsServing n (execCtlLiveRetire s) := by
  unfold Machine.execCtlLiveRetire
  exact (h.atWindow fun _ ht => ht.retireOrder).next

theorem setAvs {mv : Nat} (h : s.ServesAt n) : (s.setAvs mv).ServesAt n := h.wr.send

theorem execAvsTimer {low above answers : Bool} (h : s.ServesAt n) : KeepsServing n (execAvsTimer low above answers s) := by
  unfold Machine.execAvsTimer
  refine State.ServesAt.next ?_
  split
  · exact h
  · extract_lets +onlyGivenNames mv s1
    have h1 : s1.ServesAt n := h.updLive.wrB
    split
    · exact h1.wr.raise
    · extract_lets +onlyGivenNames s2
      have h2 : s2.ServesAt n := h1.wr.wrB
      split
      · exact h2.ite h2.raise.updLive
      · exact h2.setAvs.updLive.ite (h2.setAvs.ite h2)

theorem execHaulRecalTimer {half : Nat} (h : s.ServesAt n) : KeepsServing n (execHaulRecalTimer half s) := by
  unfold Machine.execHaulRecalTimer
  refine State.ServesAt.next ?_
  extract_lets +onlyGivenNames h1
  exact h.updHalf.halfOut.raise.ite h

theorem execMemRetrainTimer {channel rank : Nat} {drift : Bool} (h : s.ServesAt n) :
    KeepsServing n (execMemRetrainTimer channel rank drift s) := by
  unfold Machine.execMemRetrainTimer
  refine State.ServesAt.next ?_
  extract_lets +onlyGivenNames m last
  exact h.updLive.raise.ite h

theorem execMemZqTimer {channel rank : Nat} (h : s.ServesAt n) : KeepsServing n (execMemZqTimer channel rank s) := by
  unfold Machine.execMemZqTimer
  exact (h.updLive.ite h).next

theorem execTimeAlignTimer {dev : List (Nat × ℤ)} (h : s.ServesAt n) : KeepsServing n (execTimeAlignTimer dev s) := by
  unfold Machine.execTimeAlignTimer
  refine State.ServesAt.next ?_
  split
  · exact h
  · refine h.updLive.foldl fun a x ha => ?_
    split
    · exact ha
    · extract_lets +onlyGivenNames t
      exact ha.updBench

/-! ### Latches and held accesses -/

theorem meterCopy {time seq : Nat} (h : s.ServesAt n) : (s.meterCopy time seq).ServesAt n := by
  unfold State.meterCopy
  exact h.ite h.of_eq

theorem releaseTenants {time : Nat} (h : s.ServesAt n) : (s.releaseTenants time).ServesAt n := h.of_eq

theorem fireShot {x : Shot} (h : s.ServesAt n) : (s.fireShot x).ServesAt n := by
  unfold State.fireShot
  extract_lets +onlyGivenNames old seq s1 s2 s3 s4 s5 s6
  have h1 : s1.ServesAt n := h.foldl fun _ _ ht => ht.lpiAccrue
  have h2 : s2.ServesAt n := h1.foldl fun _ _ ht => ht.latchBench
  have h3 : s3.ServesAt n := h2.wr.wr64
  have h4 : s4.ServesAt n := h3.updTim
  have h5 : s5.ServesAt n := h4.wr.ite h4
  have h6 : s6.ServesAt n := h5.raise
  exact h6.meterCopy.saveMeters.releaseTenants

theorem execShotTimeReached (h : s.ServesAt n) : KeepsServing n (execShotTimeReached s) := by
  unfold Machine.execShotTimeReached
  refine State.ServesAt.next ?_
  split
  · exact h
  · split
    · exact h
    · extract_lets +onlyGivenNames s1
      have h1 : s1.ServesAt n := h.updTim.syncPending
      exact (h1.refuseShot.ite h1.fireShot).runDeferred

/-! ### TRU -/

theorem updTru {f : Tru → Tru} (h : s.ServesAt n) : (s.updTru f).ServesAt n := h.of_eq

theorem svnCommit (h : s.ServesAt n) : s.svnCommit.ServesAt n := by
  unfold State.svnCommit
  split
  · exact h
  · split
    · exact h.wr
    · split
      · exact h.wr
      · extract_lets +onlyGivenNames fw own
        exact h.of_eq.raise

theorem execTruSvnCommit (h : s.ServesAt n) : KeepsServing n (execTruSvnCommit s) := h.svnCommit.next

theorem zeroiseKeys (h : s.ServesAt n) : s.zeroiseKeys.ServesAt n := h.of_eq

theorem enterDebug {level : Nat} (h : s.ServesAt n) : (s.enterDebug level).ServesAt n := by
  unfold State.enterDebug
  extract_lets +onlyGivenNames s1
  have h1 : s1.ServesAt n := h.zeroiseKeys.controllerFault.updTru.ite h
  exact h1.wr.raise

theorem tokenDo {a : Nat} (h : s.ServesAt n) : (s.tokenDo a).ServesAt n := by
  unfold State.tokenDo
  extract_lets +onlyGivenNames p burn
  extract_lets +onlyGivenNames burn1
  split
  · exact h.of_eq
  · exact h.enterDebug.ite (h.enterDebug.ite h)
  · exact h.of_eq
  · exact h.of_eq
  · exact h

theorem tokenGo (h : s.ServesAt n) : s.tokenGo.ServesAt n := by
  unfold State.tokenGo
  split
  · exact h
  · extract_lets +onlyGivenNames a r first s1 s2
    have h1 : s1.ServesAt n := h.tokenDo.ite h
    have h2 : s2.ServesAt n := h1.updTru
    exact h2.wr.raise

theorem tokenOf {kind area : Nat} (h : s.ServesAt n) : (s.tokenOf kind area).ServesAt n := h.updTru.tokenGo

theorem execTokenRevoke {area : Nat} (h : s.ServesAt n) : KeepsServing n (execTokenRevoke area s) := h.tokenOf.next

theorem execTokenDebugUnlock {area : Nat} (h : s.ServesAt n) : KeepsServing n (execTokenDebugUnlock area s) := h.tokenOf.next

theorem execTokenOwnerSeed {area : Nat} (h : s.ServesAt n) : KeepsServing n (execTokenOwnerSeed area s) := h.tokenOf.next

theorem execTokenDebugDisable {area : Nat} (h : s.ServesAt n) : KeepsServing n (execTokenDebugDisable area s) := h.tokenOf.next

theorem nonceDraw (h : s.ServesAt n) : s.nonceDraw.ServesAt n := by
  unfold State.nonceDraw
  split
  · exact h
  · dsimp -zeta only
    exact h.draw.updTru

theorem execTruNonceRead (h : s.ServesAt n) : KeepsServing n (execTruNonceRead s) := by
  unfold Machine.execTruNonceRead
  refine State.ServesAt.next ?_
  extract_lets +onlyGivenNames s1
  have h1 : s1.ServesAt n := h.nonceDraw
  exact h1.send

theorem execTrngHealthFail (h : s.ServesAt n) : KeepsServing n (execTrngHealthFail s) := by
  unfold Machine.execTrngHealthFail
  exact (h.ite (h.stopStart.ite h.wr.raise)).next

theorem pairingDone {m : PairMsg} (h : s.ServesAt n) : (s.pairingDone m).ServesAt n := by
  unfold State.pairingDone
  extract_lets +onlyGivenNames s1 own isB keys s2 again s3 s4
  have h1 : s1.ServesAt n := h.sendPairing
  have h2 : s2.ServesAt n := by
    unfold s2
    refine h1.foldl fun a x ha => ?_
    extract_lets +onlyGivenNames kgen
    exact ha.setHaulKey
  have h3 : s3.ServesAt n := h2.updPair.updTru
  have h4 : s4.ServesAt n := h3.haulSend.send.updTru.ite (h3.updTru.ite h3)
  exact h4.ite h4.sendHello

theorem execPairingMessage {m : PairMsg} (h : s.ServesAt n) : KeepsServing n (execPairingMessage m s) := by
  unfold Machine.execPairingMessage
  refine State.ServesAt.next ?_
  split
  · exact h
  · split
    · exact h.raise.enterHeld
    · split
      · extract_lets +onlyGivenNames s1
        have h1 : s1.ServesAt n := h.raise
        exact h1.digestDiffers.ite h1
      · exact h.pairingDone

theorem spdmSay {p code : Nat} {data : List Nat} (h : s.ServesAt n) : (s.spdmSay p code data).ServesAt n := h.send

theorem spdmError {p code : Nat} (h : s.ServesAt n) : (s.spdmError p code).ServesAt n := h.spdmSay

theorem spdmTo {p k : Nat} (h : s.ServesAt n) : (s.spdmTo p k).ServesAt n := h.updTru

theorem spdmAsk {p least : Nat} {f : State → State} (h : s.ServesAt n) (hf : ∀ (a : State), a.ServesAt n → (f a).ServesAt n) :
    (s.spdmAsk p least f).ServesAt n := by
  unfold State.spdmAsk
  split
  · exact h
  · exact h.spdmError.ite (h.spdmError.ite (h.spdmError.ite (hf _ h)))

theorem spdmSign {p code : Nat} {data : List Nat} (h : s.ServesAt n) : (s.spdmSign p code data).ServesAt n := by
  unfold State.spdmSign
  extract_lets +onlyGivenNames q
  split
  · exact h.spdmError
  · extract_lets +onlyGivenNames t
    exact h.updTru.spdmSay

theorem execSpdmGetVersion {path : Nat} (h : s.ServesAt n) : KeepsServing n (execSpdmGetVersion path s) := by
  unfold Machine.execSpdmGetVersion
  exact (h.spdmAsk fun _ ht => ht.spdmTo.spdmSay).next

theorem execSpdmGetCapabilities {path : Nat} (h : s.ServesAt n) : KeepsServing n (execSpdmGetCapabilities path s) := by
  unfold Machine.execSpdmGetCapabilities
  exact (h.spdmAsk fun _ ht => ht.spdmTo.spdmSay).next

theorem execSpdmNegotiateAlgorithms {path : Nat} {offered : Bool} (h : s.ServesAt n) :
    KeepsServing n (execSpdmNegotiateAlgorithms path offered s) := by
  unfold Machine.execSpdmNegotiateAlgorithms
  exact (h.spdmAsk fun _ ht => ht.spdmTo.spdmSay.ite ht.spdmError).next

theorem execSpdmGetDigests {path : Nat} (h : s.ServesAt n) : KeepsServing n (execSpdmGetDigests path s) := by
  unfold Machine.execSpdmGetDigests
  refine State.ServesAt.next ?_
  refine h.spdmAsk fun t ht => ?_
  split
  · exact ht.spdmSay
  · exact ht.spdmSay

theorem execSpdmGetCertificate {path slot ofs len : Nat} (h : s.ServesAt n) :
    KeepsServing n (execSpdmGetCertificate path slot ofs len s) := by
  unfold Machine.execSpdmGetCertificate
  refine State.ServesAt.next ?_
  refine h.spdmAsk fun t ht => ?_
  split
  · exact ht.spdmError.ite ht.spdmSay
  · exact ht.spdmError

theorem execSpdmChallenge {path slot nonce : Nat} (h : s.ServesAt n) : KeepsServing n (execSpdmChallenge path slot nonce s) := by
  unfold Machine.execSpdmChallenge
  refine State.ServesAt.next ?_
  refine h.spdmAsk fun t ht => ?_
  split
  · exact ht.spdmError.ite ht.spdmSign
  · exact ht.spdmError

theorem execSpdmGetMeasurements {path index nonce : Nat} {sign : Bool} (h : s.ServesAt n) :
    KeepsServing n (execSpdmGetMeasurements path index nonce sign s) := by
  unfold Machine.execSpdmGetMeasurements
  refine State.ServesAt.next ?_
  refine h.spdmAsk fun t ht => ?_
  extract_lets +onlyGivenNames all data?
  clear_value data?
  split
  · exact ht.spdmError
  · exact ht.spdmSign.ite ht.spdmSay

/-! ### Register writes -/

theorem regRead {path addr : Nat} (h : s.ServesAt n) : (s.regRead path addr).1.ServesAt n := by
  unfold State.regRead
  extract_lets +onlyGivenNames b off
  split
  · exact h
  · split
    · exact h.statRead
    · split
      · exact h
      · extract_lets +onlyGivenNames s1 v
        have h1 : s1.ServesAt n := h.nonceDraw.ite h
        exact h1.latch.ite h1

theorem ignWrite (h : s.ServesAt n) : s.ignWrite.ServesAt n := h.bump

theorem singletonCmd {b off m : Nat} (h : s.ServesAt n) : (s.singletonCmd b off m).ServesAt n := by
  unfold State.singletonCmd
  split
  · exact h.rotCfgChanged
  · exact h.rotNow
  · extract_lets +onlyGivenNames s1
    have h1 : s1.ServesAt n := h.reloadOrder.ite h
    exact h1.retireOrder.ite h1
  · exact h.svnCommit.ite h
  · exact h.tokenGo.ite h
  · extract_lets +onlyGivenNames s1
    have h1 : s1.ServesAt n := h.srcChanged
    exact h1.setStep.ite h1
  · exact h.shotCmd
  · exact h.orderChainReset.ite h
  · extract_lets +onlyGivenNames s1
    have h1 : s1.ServesAt n := h.cacheSetEn.ite h
    exact h1.cacheClrEn.ite h1
  · exact h.maintStart.ite h
  · exact h.foldl fun _ _ ht => ht.halfDown.ite ht
  · extract_lets +onlyGivenNames s1
    have h1 : s1.ServesAt n := h.startHandover.ite h
    exact h1.unfence.ite h1
  · exact h.syncFwd
  · exact h

theorem memberOrder {m : Nat} (h : s.ServesAt n) : (s.memberOrder m).ServesAt n := by
  unfold State.memberOrder
  extract_lets +onlyGivenNames slot
  split
  · exact h.orderDrain
  · exact h.orderFail
  · exact h.orderJoin
  · exact h.orderForget
  · exact h

theorem classCmd {c b off m : Nat} (h : s.ServesAt n) : (s.classCmd c b off m).ServesAt n := by
  unfold State.classCmd
  split
  · exact h.memberOrder.ite (h.reshapeOrder.ite h)
  · split
    · split
      · extract_lets +onlyGivenNames n1 s1 s2
        have h1 : s1.ServesAt n := h.syncLed
        have h2 : s2.ServesAt n := h1.powerOnOrder.ite h1
        exact h2.powerOffOrder.ite h2
      · exact h
    · exact h

theorem writeBits {b off v mask : Nat} (h : s.ServesAt n) : (s.writeBits b off v mask).1.ServesAt n := by
  unfold State.writeBits
  extract_lets +onlyGivenNames m
  split
  · extract_lets +onlyGivenNames o old
    exact h.updTru
  · extract_lets +onlyGivenNames was
    dsimp -zeta only
    extract_lets +onlyGivenNames s1 s2
    have h1 : s1.ServesAt n := h.writeReg.ppsCfgChanged
    have h2 : s2.ServesAt n := h1.qosRestart.ite h1
    dsimp -zeta only
    split
    · exact h2.classCmd
    · exact h2.singletonCmd

theorem regWrite {addr v mask : Nat} (h : s.ServesAt n) : (s.regWrite addr v mask).1.ServesAt n := by
  unfold State.regWrite
  extract_lets +onlyGivenNames b off
  split
  · exact h.ignWrite
  · split
    · exact h.ignWrite
    · dsimp -zeta only
      exact h.writeBits

theorem readAccess {path addr : Nat} (h : s.ServesAt n) : (s.readAccess path addr).ServesAt n := by
  unfold State.readAccess
  split
  · exact h.holdAccess
  · dsimp -zeta only
    exact h.regRead.send

theorem writeAccess {addr v mask : Nat} (h : s.ServesAt n) : (s.writeAccess addr v mask).ServesAt n := by
  unfold State.writeAccess
  exact h.holdAccess.ite h.regWrite

theorem execHalfLatchRead {path addr : Nat} (h : s.ServesAt n) : KeepsServing n (execHalfLatchRead path addr s) := by
  unfold Machine.execHalfLatchRead
  exact (h.readAccess.ite h).next

theorem execRegisterWrite {path addr : Nat} {v : Word} (h : s.ServesAt n) : KeepsServing n (execRegisterWrite path addr v s) := by
  unfold Machine.execRegisterWrite
  exact (h.writeAccess.ite h).next

theorem execBenchLockSet {bench : Nat} (h : s.ServesAt n) : KeepsServing n (execBenchLockSet bench s) := by
  unfold Machine.execBenchLockSet
  exact (h.writeAccess.ite h).next

theorem bar2Word {write : Bool} {addr v : Nat} {all : Bool} (h : s.ServesAt n) : (s.bar2Word write addr v all).ServesAt n := by
  unfold State.bar2Word
  extract_lets +onlyGivenNames behind
  split
  · exact h
  · split
    · exact h.holdAccess
    · split
      · exact h.regWrite.ite h.ignWrite
      · dsimp -zeta only
        exact h.regRead.send

theorem execBar2Access {write : Bool} {addr : Nat} {words : List (Nat × Bool)} (h : s.ServesAt n) :
    KeepsServing n (execBar2Access write addr words s) := by
  unfold Machine.execBar2Access
  refine State.ServesAt.next ?_
  split
  · exact h
  · split
    · extract_lets +onlyGivenNames s1
      have h1 : s1.ServesAt n := h.ignWrite
      exact h1.ite h1.sendAll
    · exact h.foldl fun _ _ ht => ht.bar2Word

/-! ### Management -/

theorem updMgt {f : Mgt → Mgt} (h : s.ServesAt n) : (s.updMgt f).ServesAt n := h.of_eq

theorem readWords {path addr k : Nat} (h : s.ServesAt n) : (s.readWords path addr k).1.ServesAt n := by
  unfold State.readWords
  refine State.ServesAt.foldl_fst h fun q x hq => ?_
  dsimp -zeta only
  exact hq.regRead

theorem writeWords {addr : Nat} {vs : List Nat} (h : s.ServesAt n) : (s.writeWords addr vs).1.ServesAt n := by
  unfold State.writeWords
  refine State.ServesAt.foldl_fst h fun q x hq => ?_
  dsimp -zeta only
  exact hq.regWrite

theorem subscribe {path eid minSev : Nat} {on : Bool} (h : s.ServesAt n) : (s.subscribe path eid minSev on).1.ServesAt n := by
  unfold State.subscribe
  extract_lets +onlyGivenNames held
  split
  · exact h.of_eq
  · split
    · exact h.of_eq
    · split
      · exact h
      · extract_lets +onlyGivenNames u
        exact h.of_eq

theorem regRequest {path command : Nat} {b : List Nat} (h : s.ServesAt n) : (s.regRequest path command b).1.ServesAt n := by
  unfold State.regRequest
  extract_lets +onlyGivenNames a
  split
  · dsimp -zeta only
    exact h.readWords
  · dsimp -zeta only
    exact h.writeWords
  · dsimp -zeta only
    exact h.regRead.regWrite

theorem runRequest {d : ReplyTo} {tag command : Nat} {unwraps : Bool} {b : List Nat} (h : s.ServesAt n) :
    (s.runRequest d tag command unwraps b).ServesAt n := by
  unfold State.runRequest
  split
  · dsimp -zeta only
    exact h.regRequest.answer
  · split
    · dsimp -zeta only
      exact h.subscribe.answer
    · exact h.answer.ite h.adminByRole

theorem doRequest {d : ReplyTo} {tag command : Nat} {unwraps : Bool} {b : List Nat} (h : s.ServesAt n) :
    (s.doRequest d tag command unwraps b).ServesAt n := by
  unfold State.doRequest
  exact h.holdAccess.ite h.runRequest

theorem runWaits (h : s.ServesAt n) : s.runWaits.ServesAt n := by
  unfold State.runWaits
  refine h.updLive.foldl fun a x ha => ?_
  split
  · exact ha.readAccess
  · exact ha.writeAccess
  · exact ha.bar2Word
  · exact ha.doRequest

theorem execBenchReloadDone {partner : Bool} {bench : Nat} {ok last : Bool} (h : s.ServesAt n) :
    KeepsServing n (execBenchReloadDone partner bench ok last s) := by
  unfold Machine.execBenchReloadDone
  exact (h.partnerReloaded.ite h.reloadEnd.runWaits).next

theorem ownRequest {d : ReplyTo} {tag command : Nat} {unwraps : Bool} {b : List Nat} (h : s.ServesAt n) :
    (s.ownRequest d tag command unwraps b).ServesAt n := by
  unfold State.ownRequest
  extract_lets +onlyGivenNames code
  exact h.answer.ite (h.answer.ite h.doRequest)

theorem relayOut {path command : Nat} {r : VendorReq} (h : s.ServesAt n) : (s.relayOut path command r).ServesAt n := by
  unfold State.relayOut
  extract_lets +onlyGivenNames t s1
  have h1 : s1.ServesAt n := h.chainSend
  exact h1.updMgt

theorem vendor {path command : Nat} {r : VendorReq} {unwraps : Bool} (h : s.ServesAt n) :
    (s.vendor path command r unwraps).ServesAt n := by
  unfold State.vendor
  extract_lets +onlyGivenNames d
  split
  · exact (h.bump (by simp only [F.CHN_SMB_PEC]; omega)).ite h
  · split
    · exact h
    · split
      · split
        · dsimp -zeta only
          exact h.regRequest.answer
        · exact h
      · split
        · exact h
        · split
          · exact h.answer
          · split
            · exact h.answer
            · split
              · exact h.ownRequest
              · exact h.answer.ite (h.answer.ite (h.answer.ite h.relayOut))

theorem execMgtRegRead {path : Nat} {r : VendorReq} (h : s.ServesAt n) : KeepsServing n (execMgtRegRead path r s) := h.vendor.next

theorem execMgtRegWrite {path : Nat} {r : VendorReq} (h : s.ServesAt n) : KeepsServing n (execMgtRegWrite path r s) := h.vendor.next

theorem execMgtRegModify {path : Nat} {r : VendorReq} (h : s.ServesAt n) : KeepsServing n (execMgtRegModify path r s) := h.vendor.next

theorem execMgtEvSubscribe {path : Nat} {r : VendorReq} (h : s.ServesAt n) : KeepsServing n (execMgtEvSubscribe path r s) := h.vendor.next

theorem execMgtLogRead {path : Nat} {r : VendorReq} (h : s.ServesAt n) : KeepsServing n (execMgtLogRead path r s) := h.vendor.next

theorem execMgtIdentSet {path : Nat} {r : VendorReq} {unwraps : Bool} (h : s.ServesAt n) :
    KeepsServing n (execMgtIdentSet path r unwraps s) :=
  h.vendor.next

theorem execMgtIdentDereg {path : Nat} {r : VendorReq} (h : s.ServesAt n) : KeepsServing n (execMgtIdentDereg path r s) := h.vendor.next

theorem execMgtIdentGet {path : Nat} {r : VendorReq} (h : s.ServesAt n) : KeepsServing n (execMgtIdentGet path r s) := h.vendor.next

theorem execMgtQosSet {path : Nat} {r : VendorReq} (h : s.ServesAt n) : KeepsServing n (execMgtQosSet path r s) := h.vendor.next

theorem execMgtQosGet {path : Nat} {r : VendorReq} (h : s.ServesAt n) : KeepsServing n (execMgtQosGet path r s) := h.vendor.next

theorem relayIn {src relay command : Nat} {r : VendorReq} (h : s.ServesAt n) : (s.relayIn src relay command r).ServesAt n := by
  unfold State.relayIn
  extract_lets +onlyGivenNames d
  exact h.answer.ite (h.answer.ite h.ownRequest)

theorem relayBack {src relay cc detail : Nat} {body : List Nat} (h : s.ServesAt n) :
    (s.relayBack src relay cc detail body).ServesAt n := by
  unfold State.relayBack
  split
  · exact h
  · exact h.updMgt.send

theorem relayMgmt {o : Out} (h : s.ServesAt n) : (s.relayMgmt o).ServesAt n := by
  unfold State.relayMgmt
  split
  · exact h
  · dsimp -zeta only
    exact h.draw.bump.ite h.draw.chainSend

theorem execChainMgmt {crcOk : Bool} {dst kind relay src command cc detail : Nat} {r : VendorReq} {fromUp : Bool} (h : s.ServesAt n) :
    KeepsServing n (execChainMgmt crcOk dst kind relay src command cc detail r fromUp s) := by
  unfold Machine.execChainMgmt
  refine State.ServesAt.next ?_
  refine h.chainRx fun t ht => ?_
  split
  · exact ht
  · extract_lets +onlyGivenNames up s1
    have h1 : s1.ServesAt n := ht.relayMgmt.ite ht
    exact h1.ite (h1.relayIn.ite (h1.relayBack.ite h1))

theorem execRelayTimeout {tag : Nat} (h : s.ServesAt n) : KeepsServing n (execRelayTimeout tag s) := by
  unfold Machine.execRelayTimeout
  refine State.ServesAt.next ?_
  split
  · exact h
  · exact h.updMgt.send.ite h

theorem execEvNotifyResponse {path eid : Nat} (h : s.ServesAt n) : KeepsServing n (execEvNotifyResponse path eid s) := h.of_eq.next

theorem notify {u : Subscriber} (h : s.ServesAt n) : (s.notify u).ServesAt n := by
  unfold State.notify
  split
  · exact h
  · extract_lets +onlyGivenNames s1
    have h1 : s1.ServesAt n := h.send
    exact h1.of_eq

theorem execEvNotifyTimer {path eid : Nat} (h : s.ServesAt n) : KeepsServing n (execEvNotifyTimer path eid s) := by
  unfold Machine.execEvNotifyTimer
  refine State.ServesAt.next ?_
  split
  · exact h
  · split
    · exact h.notify
    · split
      · exact h
      · split
        · exact h.of_eq.raise
        · extract_lets +onlyGivenNames s1
          have h1 : s1.ServesAt n := h.of_eq
          exact h1.notify

theorem control {path command cc : Nat} {data : List Nat} (h : s.ServesAt n) : (s.control path command cc data).ServesAt n := by
  unfold State.control
  exact h.send.ite h

theorem execMctpSetEndpointId {path op eid : Nat} (h : s.ServesAt n) : KeepsServing n (execMctpSetEndpointId path op eid s) := by
  unfold Machine.execMctpSetEndpointId
  refine State.ServesAt.next ?_
  split
  · exact h
  · split
    · exact h.control.ite h.assignEid.control
    · split
      · extract_lets +onlyGivenNames e
        exact h.control.ite h.assignEid.control
      · exact h.control.ite h.control

theorem execMctpGetEndpointId {path : Nat} (h : s.ServesAt n) : KeepsServing n (execMctpGetEndpointId path s) := by
  unfold Machine.execMctpGetEndpointId
  refine State.ServesAt.next ?_
  extract_lets +onlyGivenNames e
  exact h.control

theorem execMctpGetEndpointUuid {path : Nat} (h : s.ServesAt n) : KeepsServing n (execMctpGetEndpointUuid path s) := h.control.next

theorem execMctpGetVersionSupport {path typ : Nat} (h : s.ServesAt n) : KeepsServing n (execMctpGetVersionSupport path typ s) := by
  unfold Machine.execMctpGetVersionSupport
  exact (h.control.ite (h.control.ite h.control)).next

theorem execMctpGetMessageTypeSupport {path : Nat} (h : s.ServesAt n) : KeepsServing n (execMctpGetMessageTypeSupport path s) :=
  h.control.next

theorem execMctpGetVendorSupport {path selector : Nat} (h : s.ServesAt n) :
    KeepsServing n (execMctpGetVendorSupport path selector s) := by
  unfold Machine.execMctpGetVendorSupport
  exact (h.control.ite h.control).next

theorem execNvmeMiBasicManagement {port : Nat} {x : Sensors} (h : s.ServesAt n) :
    KeepsServing n (execNvmeMiBasicManagement port x s) := by
  unfold Machine.execNvmeMiBasicManagement
  exact (h.send.ite h).next

theorem mi {path opcode : Nat} {f : State → State} (h : s.ServesAt n) (hf : ∀ (a : State), a.ServesAt n → (f a).ServesAt n) :
    (s.mi path opcode f).ServesAt n := by
  unfold State.mi
  exact h.ite (h.send.ite (hf _ h))

theorem miOk {path opcode : Nat} {data : List Nat} (h : s.ServesAt n) : (s.miOk path opcode data).ServesAt n := h.send

theorem miBad {path opcode : Nat} (h : s.ServesAt n) : (s.miBad path opcode).ServesAt n := h.send

theorem execNvmeMiReadDataStructure {path typ port ctl : Nat} (h : s.ServesAt n) :
    KeepsServing n (execNvmeMiReadDataStructure path typ port ctl s) := by
  unfold Machine.execNvmeMiReadDataStructure
  refine State.ServesAt.next ?_
  refine h.mi fun t ht => ?_
  split
  · exact ht.miOk
  · split
    · exact ht.miOk
    · split
      · extract_lets +onlyGivenNames l
        exact ht.miOk
      · split
        · split
          · extract_lets +onlyGivenNames f
            exact ht.miOk
          · exact ht.miBad
        · exact ht.miBad

theorem execNvmeMiSubsystemHealthPoll {path : Nat} {x : Sensors} (h : s.ServesAt n) :
    KeepsServing n (execNvmeMiSubsystemHealthPoll path x s) := by
  unfold Machine.execNvmeMiSubsystemHealthPoll
  refine State.ServesAt.next ?_
  refine h.mi fun t ht => ?_
  dsimp -zeta only
  exact ht.draw.miOk

theorem execNvmeMiControllerHealthPoll {path first : Nat} {x : Sensors} (h : s.ServesAt n) :
    KeepsServing n (execNvmeMiControllerHealthPoll path first x s) := by
  unfold Machine.execNvmeMiControllerHealthPoll
  refine State.ServesAt.next ?_
  refine h.mi fun t ht => ?_
  dsimp -zeta only
  extract_lets +onlyGivenNames l
  exact ht.draw.miOk

theorem execNvmeMiConfigurationGet {path id port : Nat} (h : s.ServesAt n) :
    KeepsServing n (execNvmeMiConfigurationGet path id port s) := by
  unfold Machine.execNvmeMiConfigurationGet
  exact (h.mi fun _ ht => ht.miOk.ite (ht.miOk.ite ht.miBad)).next

theorem execNvmeMiConfigurationSet {path id port val : Nat} (h : s.ServesAt n) :
    KeepsServing n (execNvmeMiConfigurationSet path id port val s) := by
  unfold Machine.execNvmeMiConfigurationSet
  exact (h.mi fun _ ht => ht.updMgt.miOk.ite (ht.miOk.ite ht.miBad)).next

theorem execSmbusTimeout {port : Nat} (h : s.ServesAt n) : KeepsServing n (execSmbusTimeout port s) := by
  unfold Machine.execSmbusTimeout
  exact (((h.bump (by simp only [F.CHN_SMB_TO]; omega)).raise).ite h).next

/-! ### Patrol -/

theorem patrolLost {b : BRef} (h : s.ServesAt n) : (s.patrolLost b).ServesAt n := by
  unfold State.patrolLost
  dsimp -zeta only
  split
  · exact h
  · split
    · extract_lets +onlyGivenNames s1
      have h1 : s1.ServesAt n := h.loseBlock
      split
      · exact h1.recordLost.raiseLay
      · exact h1
    · split
      · exact h.recordLost.raiseLay
      · exact h

theorem patrolFind {g : Nat} {all : List BRef} {b : BRef} {kind : Nat} (h : s.ServesAt n) : (s.patrolFind g all b kind).ServesAt n := by
  unfold State.patrolFind
  extract_lets +onlyGivenNames s1
  have h1 : s1.ServesAt n := h.bump (by simp only [F.LAY_PAT_FIX]; omega)
  split
  · exact h1.patrolLost
  · split
    · exact h1
    · extract_lets +onlyGivenNames s2
      have h2 : s2.ServesAt n := h1.readError.ite h1
      exact h2.loseAt.ite (h2.rewriteBlk.ite (h2.issueM.ite h2))

theorem patrolPriority {sr : SRef} {differs : Bool} (h : s.ServesAt n) : (s.patrolPriority sr differs).ServesAt n := by
  unfold State.patrolPriority
  dsimp -zeta only
  extract_lets +onlyGivenNames out owner g
  split
  · split
    · exact h
    · extract_lets +onlyGivenNames s1
      have h1 : s1.ServesAt n := h.bump.bump (by simp only [F.LAY_PAT_FIX]; omega)
      clear_value owner
      split
      · exact h1.markAttached.raise
      · exact h1
  · split
    · exact h
    · refine h.foldl fun a x ha => ?_
      split
      · exact ha.recordLost.raise
      · exact ha

theorem endPriority {g : Nat} (h : s.ServesAt n) : (s.endPriority g).ServesAt n := by
  unfold State.endPriority
  extract_lets +onlyGivenNames s1
  have h1 : s1.ServesAt n := h.updGroup.raise
  exact h1.ite h1.wr

theorem patrolStripe {g : Nat} {sr : SRef} {prio : Bool} {finds : List PatrolFind} (h : s.ServesAt n) :
    (s.patrolStripe g sr prio finds).ServesAt n := by
  unfold State.patrolStripe
  dsimp -zeta only
  extract_lets +onlyGivenNames s1 s2
  have h1 : s1.ServesAt n := h.bgIo
  have h2 : s2.ServesAt n := h1.chargeTask
  split
  · extract_lets +onlyGivenNames s3
    have h3 : s3.ServesAt n := h2.patrolPriority.updGroup
    exact h3.foldl fun _ _ ht => ht.pursue
  · extract_lets +onlyGivenNames all
    exact h2.foldl fun _ _ ht => ht.patrolFind.ite ht

theorem patrolObj {g : Nat} {o : SvyObj} {bad : List Nat} (h : s.ServesAt n) : (s.patrolObj g o bad).ServesAt n := by
  unfold State.patrolObj
  extract_lets +onlyGivenNames s1 failed
  have h1 : s1.ServesAt n := h.chargeTask.bgIo
  split
  · exact h1
  · extract_lets +onlyGivenNames s2
    have h2 : s2.ServesAt n := h1.foldl fun _ _ ht => (ht.bump (roleKey_ne _ _ _)).raiseSvy
    split
    · exact h2.updGroup.raiseSvy.startScan
    · exact h2.writeTree.writeMember.syncSvy.ite h2

theorem execPatrolVisit {group : Nat} {finds : List PatrolFind} (h : s.ServesAt n) : KeepsServing n (execPatrolVisit group finds s) := by
  unfold Machine.execPatrolVisit
  refine State.ServesAt.next ?_
  extract_lets +onlyGivenNames gr prio
  split
  · split
    · exact h
    · extract_lets +onlyGivenNames onward
      have honward : ∀ s, s.ServesAt n → (onward s).ServesAt n := by
        intro s ht
        exact ht.updGroup
      split
      · exact h.endPriority
      · exact h.ite h.patrolStripe.syncHealth
  · split
    · exact h
    · extract_lets +onlyGivenNames onward l
      have honward : ∀ s, s.ServesAt n → (onward s).ServesAt n := by
        intro s ht
        exact ht.updGroup
      split
      · exact h.ite ((honward _ h.patrolStripe).syncHealth)
      · split
        · exact honward _ h.patrolObj
        · exact h.updGroup

theorem relayout {g : Nat} {mem slots : List Nat} (h : s.ServesAt n) : (s.relayout g mem slots).ServesAt n := by
  unfold State.relayout
  extract_lets +onlyGivenNames objs place s1
  have h1 : s1.ServesAt n := h.of_eq
  exact h1.updSvy.bgIo

theorem execReshapeRelayoutDone (h : s.ServesAt n) : KeepsServing n (execReshapeRelayoutDone s) := by
  unfold Machine.execReshapeRelayoutDone
  refine State.ServesAt.next ?_
  split
  · split
    · extract_lets +onlyGivenNames g count slots
      split
      · exact h.raiseSvy
      · extract_lets +onlyGivenNames s1
        have h1 : s1.ServesAt n := h.relayout
        extract_lets +onlyGivenNames s2
        have h2 : s2.ServesAt n := h1.of_eq
        exact h2.writeMember.syncReshape.syncSvy
    · exact h
  · exact h

end Sys2Proof.Machine.State.ServesAt
end

section
/-!
The count over every command (R35): kept while the unit serves, and begun again at 0 by the commands that hold it in reset. Then O8.
-/

namespace Sys2Proof.Machine

/-! ### The commands that hold the unit in reset -/

/-- The commands that may hold the unit in reset. -/
def holdsReset : Instr → Bool
  | .resetAssert _ | .tamperTrip _ | .thermtrip | .jtagInstructionLoad _ => true
  | _ => false

/-- The count begins again at 0 in reset: TIM is as at power-up. -/
theorem State.count_afterReset (s : State) (kind : Nat) : (s.afterReset kind).tim.count = 0 := by
  unfold State.afterReset
  split
  · split
    · rfl
    · rfl
  · split
    · rfl
    · rfl

theorem State.count_holdReset (s : State) (kind : Nat) : (s.holdReset kind).tim.count = 0 := by
  have hafter := s.count_afterReset
  unfold State.holdReset
  extract_lets +onlyGivenNames q s1
  have h1 : s1.tim.count = 0 := hafter _
  split
  · split
    · exact h1
    · exact h1
  · split
    · exact h1
    · exact h1

/-! ### Every command -/

/-- No command beside those that hold the unit in reset moves the count of a serving unit (R35). -/
theorem State.ServesAt.exec {s : State} {n : BitVec 64} {c : Instr} (h : s.ServesAt n) (hreset : holdsReset c = false) :
    KeepsServing n (exec c s) := by
  cases c with
  | flitReceive => exact h.execFlitReceive
  | flitNak => exact h.execFlitNak
  | detectionRepairDone => exact h.execDetectionRepairDone
  | livenessTimeout => exact h.execLivenessTimeout
  | selftestComplete => exact h.execSelftestComplete
  | faultedRetestTimer => exact h.execFaultedRetestTimer
  | rotationPeriodExpiry => exact h.execRotationPeriodExpiry
  | ctlRotNow => exact h.execCtlRotNow
  | ctlRotCfgWrite => exact h.execCtlRotCfgWrite
  | rotationDrained => exact h.execRotationDrained
  | timeMarker => exact h.execTimeMarker
  | servoUpdate => exact h.execServoUpdate
  | servoUpdateTimeout => exact h.execServoUpdateTimeout
  | holdoverExpiry => exact h.execHoldoverExpiry
  | timSrcCfgWrite => exact h.execTimSrcCfgWrite
  | timSetStep => exact h.execTimSetStep
  | ppsInEdge => exact h.execPpsInEdge
  | ppsInMissing => exact h.execPpsInMissing
  | ppsOutSecond => exact h.execPpsOutSecond
  | ppsOutWidthEnd => exact h.execPpsOutWidthEnd
  | shotInEdge => exact h.execShotInEdge
  | shotFire => exact h.execShotFire
  | shotSched => exact h.execShotSched
  | shotChainIssue => exact h.execShotChainIssue
  | shotCancel => exact h.execShotCancel
  | shotRelease => exact h.execShotRelease
  | shotTimeReached => exact h.execShotTimeReached
  | eventRecordDelivery => exact h.execEventRecordDelivery
  | eventLogEntry => exact h.execEventLogEntry
  | evlogCopy => exact h.execEvlogCopy
  | nrtDataPacket => exact h.execNrtDataPacket
  | nrtAck => exact h.execNrtAck
  | nrtConnect => exact h.execNrtConnect
  | nrtClose => exact h.execNrtClose
  | nrtClosed => exact h.execNrtClosed
  | nrtProbe => exact h.execNrtProbe
  | reassemblyTimeout => exact h.execReassemblyTimeout
  | ackDelayExpiry => exact h.execAckDelayExpiry
  | rtoExpiry => exact h.execRtoExpiry
  | pathProbeTimer => exact h.execPathProbeTimer
  | creditProbeTimer => exact h.execCreditProbeTimer
  | halfOpenTimeout => exact h.execHalfOpenTimeout
  | errorHoldExpiry => exact h.execErrorHoldExpiry
  | closeRetryExpiry => exact h.execCloseRetryExpiry
  | syncDeadline => exact h.execSyncDeadline
  | contextFetchDone => exact h.execContextFetchDone
  | roceSend => exact h.execRoceSend
  | roceRdmaWrite => exact h.execRoceRdmaWrite
  | roceRdmaReadRequest => exact h.execRoceRdmaReadRequest
  | roceReadResponse => exact h.execRoceReadResponse
  | roceAcknowledge => exact h.execRoceAcknowledge
  | roceAtomicAcknowledge => exact h.execRoceAtomicAcknowledge
  | roceCompareSwap => exact h.execRoceCompareSwap
  | roceFetchAdd => exact h.execRoceFetchAdd
  | roceCnp => exact h.execRoceCnp
  | roceAckTimeout => exact h.execRoceAckTimeout
  | roceRnrTimer => exact h.execRoceRnrTimer
  | roceRateTimer => exact h.execRoceRateTimer
  | cmReq => exact h.execCmReq
  | cmRtu => exact h.execCmRtu
  | cmDreq => exact h.execCmDreq
  | cmDrep => exact h.execCmDrep
  | cmRej => exact h.execCmRej
  | windowCommitDone => exact h.execWindowCommitDone
  | windowWritebackTimer => exact h.execWindowWritebackTimer
  | setFeaturesWindowPublish => exact h.execSetFeaturesWindowPublish
  | setFeaturesWindowRevoke => exact h.execSetFeaturesWindowRevoke
  | getFeaturesWindow => exact h.execGetFeaturesWindow
  | windowRevokeComplete => exact h.execWindowRevokeComplete
  | nvmeFlush => exact h.execNvmeFlush
  | nvmeWrite => exact h.execNvmeWrite
  | nvmeRead => exact h.execNvmeRead
  | nvmeCompare => exact h.execNvmeCompare
  | nvmeWriteZeroes => exact h.execNvmeWriteZeroes
  | nvmeDatasetManagement => exact h.execNvmeDatasetManagement
  | nvmeVerify => exact h.execNvmeVerify
  | unsupportedOpcode => exact h.execUnsupportedOpcode
  | reservationRegister => exact h.execReservationRegister
  | reservationReport => exact h.execReservationReport
  | reservationAcquire => exact h.execReservationAcquire
  | reservationRelease => exact h.execReservationRelease
  | commandAdmission => exact h.execCommandAdmission
  | commandDispatch => exact h.execCommandDispatch
  | commandCompletion => exact h.execCommandCompletion
  | getLogPage => exact h.execGetLogPage
  | logPageLostRanges => exact h.execLogPageLostRanges
  | logPageMetering => exact h.execLogPageMetering
  | logPageLayoutHealth => exact h.execLogPageLayoutHealth
  | logPageEventExcerpt => exact h.execLogPageEventExcerpt
  | identify => exact h.execIdentify
  | abort => exact h.execAbort
  | setFeatures => exact h.execSetFeatures
  | getFeatures => exact h.execGetFeatures
  | setFeaturesQosProfile => exact h.execSetFeaturesQosProfile
  | getFeaturesQosProfile => exact h.execGetFeaturesQosProfile
  | setFeaturesQueueOrdering => exact h.execSetFeaturesQueueOrdering
  | getFeaturesQueueOrdering => exact h.execGetFeaturesQueueOrdering
  | asyncEventRequest => exact h.execAsyncEventRequest
  | namespaceCreate => exact h.execNamespaceCreate
  | namespaceDelete => exact h.execNamespaceDelete
  | namespaceSweep => exact h.execNamespaceSweep
  | namespaceAttach => exact h.execNamespaceAttach
  | namespaceDetach => exact h.execNamespaceDetach
  | detachComplete => exact h.execDetachComplete
  | formatNvm => exact h.execFormatNvm
  | firmwareImageDownload => exact h.execFirmwareImageDownload
  | firmwareCommitWrite => exact h.execFirmwareCommitWrite
  | firmwareCommitWritePrefer => exact h.execFirmwareCommitWritePrefer
  | firmwareCommitPrefer => exact h.execFirmwareCommitPrefer
  | firmwareCommitActivate => exact h.execFirmwareCommitActivate
  | keepAlive => exact h.execKeepAlive
  | createIoSq => exact h.execCreateIoSq
  | createIoCq => exact h.execCreateIoCq
  | deleteIoSq => exact h.execDeleteIoSq
  | deleteIoCq => exact h.execDeleteIoCq
  | fabricsConnect => exact h.execFabricsConnect
  | propertyGet => exact h.execPropertyGet
  | propertySet => exact h.execPropertySet
  | propertySetCcEnClear => exact h.execPropertySetCcEnClear
  | propertySetCcShn => exact h.execPropertySetCcShn
  | propertySetNssr => exact h.execPropertySetNssr
  | authenticationSend => exact h.execAuthenticationSend
  | authenticationReceive => exact h.execAuthenticationReceive
  | keepAliveExpiry => exact h.execKeepAliveExpiry
  | shutdownComplete => exact h.execShutdownComplete
  | memberWaitNotice => exact h.execMemberWaitNotice
  | authLockoutExpiry => exact h.execAuthLockoutExpiry
  | grantPeriod => exact h.execGrantPeriod
  | cmdQosCfgWrite => exact h.execCmdQosCfgWrite
  | cmdQosGcapWrite => exact h.execCmdQosGcapWrite
  | meterSaveTimer => exact h.execMeterSaveTimer
  | sealTimeExpiry => exact h.execSealTimeExpiry
  | stripeSeal => exact h.execStripeSeal
  | sealWaitExpiry => exact h.execSealWaitExpiry
  | stripeRelease => exact h.execStripeRelease
  | spoilReclaimVictim => exact h.execSpoilReclaimVictim
  | tallyRecordWritten => exact h.execTallyRecordWritten
  | tallyRecordDurable => exact h.execTallyRecordDurable
  | tallyControlBlockTimer => exact h.execTallyControlBlockTimer
  | surveyObjectLoaded => exact h.execSurveyObjectLoaded
  | surveyWritebackDone => exact h.execSurveyWritebackDone
  | deltaLogBlockAcked => exact h.execDeltaLogBlockAcked
  | memberRecordTimer => exact h.execMemberRecordTimer
  | surveyRebuildScan => exact h.execSurveyRebuildScan
  | objectRehome => exact h.execObjectRehome
  | memberCommandAge => exact h.execMemberCommandAge
  | memberFailTimer => exact h.execMemberFailTimer
  | memberReturnExpiry => exact h.execMemberReturnExpiry
  | driveOffer => exact h.execDriveOffer
  | layMcmdDrain => exact h.execLayMcmdDrain
  | layMcmdFail => exact h.execLayMcmdFail
  | layMcmdJoin => exact h.execLayMcmdJoin
  | layMcmdForget => exact h.execLayMcmdForget
  | reconciliationDone => exact h.execReconciliationDone
  | joinRecordWritten => exact h.execJoinRecordWritten
  | rebuildIndexSweep => exact h.execRebuildIndexSweep
  | rebuildStripe => exact h.execRebuildStripe
  | tailCutDeadline => exact h.execTailCutDeadline
  | regionResync => exact h.execRegionResync
  | patrolVisit => exact h.execPatrolVisit
  | reshapeStart => exact h.execReshapeStart
  | reshapeSwitchover => exact h.execReshapeSwitchover
  | cipXtsEnc => exact h.execCipXtsEnc
  | cipXtsDec => exact h.execCipXtsDec
  | cipXtsZero => exact h.execCipXtsZero
  | cipGcmSeal => exact h.execCipGcmSeal
  | cipGcmOpen => exact h.execCipGcmOpen
  | cipCtr => exact h.execCipCtr
  | cipKeyZero => exact h.execCipKeyZero
  | cipResult => exact h.execCipResult
  | keyLoadDone => exact h.execKeyLoadDone
  | memRegionReady => exact h.execMemRegionReady
  | dimmTempChange => exact h.execDimmTempChange
  | lineFillDone => exact h.execLineFillDone
  | lineWritebackDone => exact h.execLineWritebackDone
  | cacheSetEn => exact h.execCacheSetEn
  | cacheClrEn => exact h.execCacheClrEn
  | cacheDisableComplete => exact h.execCacheDisableComplete
  | mntClean => exact h.execMntClean
  | mntInvalidate => exact h.execMntInvalidate
  | mntComplete => exact h.execMntComplete
  | memberCompletion => exact h.execMemberCompletion
  | memberDmaRequest => exact h.execMemberDmaRequest
  | memberErrorMessage => exact h.execMemberErrorMessage
  | driveLinkDown => exact h.execDriveLinkDown
  | drvNonpostedTimeout => exact h.execDrvNonpostedTimeout
  | containmentRecovery => exact h.execContainmentRecovery
  | driveEnumerated => exact h.execDriveEnumerated
  | healthPoll => exact h.execHealthPoll
  | trimGatherExpiry => exact h.execTrimGatherExpiry
  | sbcFrame => exact h.execSbcFrame
  | drvPowerOn => exact h.execDrvPowerOn
  | drvPowerOff => exact h.execDrvPowerOff
  | driveStageTimer => exact h.execDriveStageTimer
  | perstReleaseTimer => exact h.execPerstReleaseTimer
  | fenceWriteWindowEnd => exact h.execFenceWriteWindowEnd
  | macLinkUp => exact h.execMacLinkUp
  | macLinkDown => exact h.execMacLinkDown
  | ethFrameReceive => exact h.execEthFrameReceive
  | ethFrameTransmit => exact h.execEthFrameTransmit
  | pauseFrame => exact h.execPauseFrame
  | pfcFrame => exact h.execPfcFrame
  | pauseTimeExpiry => exact h.execPauseTimeExpiry
  | pauseRepeatTimer => exact h.execPauseRepeatTimer
  | pauseSendCap => exact h.execPauseSendCap
  | pfcWatchdogDetect => exact h.execPfcWatchdogDetect
  | pfcWatchdogRestore => exact h.execPfcWatchdogRestore
  | lpiIdleExpiry => exact h.execLpiIdleExpiry
  | lldpEeeTlv => exact h.execLldpEeeTlv
  | ptpMessage => exact h.execPtpMessage
  | prtStatRead => exact h.execPrtStatRead
  | haulForwardFrame => exact h.execHaulForwardFrame
  | epLinkUp => exact h.execEpLinkUp
  | epLinkReset => exact h.execEpLinkReset
  | epFlr => exact h.execEpFlr
  | epBmeWrite => exact h.execEpBmeWrite
  | epPowerState => exact h.execEpPowerState
  | epVfEnable => exact h.execEpVfEnable
  | epDoorbell => exact h.execEpDoorbell
  | epCcEnable => exact h.execEpCcEnable
  | epSqeFetched => exact h.execEpSqeFetched
  | epReadCompletion => exact h.execEpReadCompletion
  | epCompletionTimeout => exact h.execEpCompletionTimeout
  | epQuarantineExpiry => exact h.execEpQuarantineExpiry
  | epL1Idle => exact h.execEpL1Idle
  | epLtrIdle => exact h.execEpLtrIdle
  | epMsixUnmask => exact h.execEpMsixUnmask
  | controllerStart => exact h.execControllerStart
  | resetAssert => cases hreset
  | bootStepEnd => exact h.execBootStepEnd
  | memberWaitExpiry => exact h.execMemberWaitExpiry
  | timeWaitExpiry => exact h.execTimeWaitExpiry
  | serviceStart => exact h.execServiceStart
  | standbyServiceStart => exact h.execStandbyServiceStart
  | chainAddr => exact h.execChainAddr
  | chainAddrAck => exact h.execChainAddrAck
  | addrRepeatTimer => exact h.execAddrRepeatTimer
  | headWaitExpiry => exact h.execHeadWaitExpiry
  | treqTimer => exact h.execTreqTimer
  | chainTreq => exact h.execChainTreq
  | chainTresp => exact h.execChainTresp
  | chainShot => exact h.execChainShot
  | chainReset => exact h.execChainReset
  | chnChainResetCmd => exact h.execChnChainResetCmd
  | chainMgmt => exact h.execChainMgmt
  | chainUpstreamLost => exact h.execChainUpstreamLost
  | chainUpstreamRestored => exact h.execChainUpstreamRestored
  | haulFrameReceive => exact h.execHaulFrameReceive
  | haulResendTimer => exact h.execHaulResendTimer
  | haulHalfDown => exact h.execHaulHalfDown
  | haulHalfUp => exact h.execHaulHalfUp
  | heartbeatTimer => exact h.execHeartbeatTimer
  | heartbeatBeat => exact h.execHeartbeatBeat
  | goodbye => exact h.execGoodbye
  | heartbeatMiss => exact h.execHeartbeatMiss
  | activeFenceWait => exact h.execActiveFenceWait
  | fenceHoldExpiry => exact h.execFenceHoldExpiry
  | pairWaitExpiry => exact h.execPairWaitExpiry
  | mirrorItem => exact h.execMirrorItem
  | mirrorMack => exact h.execMirrorMack
  | hello => exact h.execHello
  | resyncCopy => exact h.execResyncCopy
  | halHandoverCmd => exact h.execHalHandoverCmd
  | halUnfenceCmd => exact h.execHalUnfenceCmd
  | handoverDrainEnd => exact h.execHandoverDrainEnd
  | handoverItem => exact h.execHandoverItem
  | handoverTimeout => exact h.execHandoverTimeout
  | benchReloadDone => exact h.execBenchReloadDone
  | holdMessage => exact h.execHoldMessage
  | holdTimeout => exact h.execHoldTimeout
  | ctlLiveReload => exact h.execCtlLiveReload
  | ctlLiveRetire => exact h.execCtlLiveRetire
  | retireMessage => exact h.execRetireMessage
  | avsTimer => exact h.execAvsTimer
  | haulRecalTimer => exact h.execHaulRecalTimer
  | memRetrainTimer => exact h.execMemRetrainTimer
  | memZqTimer => exact h.execMemZqTimer
  | timeAlignTimer => exact h.execTimeAlignTimer
  | truSvnCommit => exact h.execTruSvnCommit
  | tokenRevoke => exact h.execTokenRevoke
  | tokenDebugUnlock => exact h.execTokenDebugUnlock
  | tokenOwnerSeed => exact h.execTokenOwnerSeed
  | tokenDebugDisable => exact h.execTokenDebugDisable
  | truNonceRead => exact h.execTruNonceRead
  | tamperTrip => cases hreset
  | trngHealthFail => exact h.execTrngHealthFail
  | thermtrip => cases hreset
  | pairingMessage => exact h.execPairingMessage
  | spdmGetVersion => exact h.execSpdmGetVersion
  | spdmGetCapabilities => exact h.execSpdmGetCapabilities
  | spdmNegotiateAlgorithms => exact h.execSpdmNegotiateAlgorithms
  | spdmGetDigests => exact h.execSpdmGetDigests
  | spdmGetCertificate => exact h.execSpdmGetCertificate
  | spdmChallenge => exact h.execSpdmChallenge
  | spdmGetMeasurements => exact h.execSpdmGetMeasurements
  | mgtRegRead => exact h.execMgtRegRead
  | mgtRegWrite => exact h.execMgtRegWrite
  | mgtRegModify => exact h.execMgtRegModify
  | mgtEvSubscribe => exact h.execMgtEvSubscribe
  | mgtLogRead => exact h.execMgtLogRead
  | mgtIdentSet => exact h.execMgtIdentSet
  | mgtIdentDereg => exact h.execMgtIdentDereg
  | mgtIdentGet => exact h.execMgtIdentGet
  | mgtQosSet => exact h.execMgtQosSet
  | mgtQosGet => exact h.execMgtQosGet
  | evNotifyResponse => exact h.execEvNotifyResponse
  | evNotifyTimer => exact h.execEvNotifyTimer
  | relayTimeout => exact h.execRelayTimeout
  | mctpSetEndpointId => exact h.execMctpSetEndpointId
  | mctpGetEndpointId => exact h.execMctpGetEndpointId
  | mctpGetEndpointUuid => exact h.execMctpGetEndpointUuid
  | mctpGetVersionSupport => exact h.execMctpGetVersionSupport
  | mctpGetMessageTypeSupport => exact h.execMctpGetMessageTypeSupport
  | mctpGetVendorSupport => exact h.execMctpGetVendorSupport
  | nvmeMiBasicManagement => exact h.execNvmeMiBasicManagement
  | nvmeMiReadDataStructure => exact h.execNvmeMiReadDataStructure
  | nvmeMiSubsystemHealthPoll => exact h.execNvmeMiSubsystemHealthPoll
  | nvmeMiControllerHealthPoll => exact h.execNvmeMiControllerHealthPoll
  | nvmeMiConfigurationGet => exact h.execNvmeMiConfigurationGet
  | nvmeMiConfigurationSet => exact h.execNvmeMiConfigurationSet
  | bar2Access => exact h.execBar2Access
  | smbusTimeout => exact h.execSmbusTimeout
  | benchLockSet => exact h.execBenchLockSet
  | halfLatchRead => exact h.execHalfLatchRead
  | registerWrite => exact h.execRegisterWrite
  | chainDownstreamUndriven => exact h.execChainDownstreamUndriven
  | windowCeilingEligible => exact h.execWindowCeilingEligible
  | fenceStartDelayExpiry => exact h.execFenceStartDelayExpiry
  | reshapeRelayoutDone => exact h.execReshapeRelayoutDone
  | epCcEnClear => exact h.execEpCcEnClear
  | epCcShnWrite => exact h.execEpCcShnWrite
  | epNssrWrite => exact h.execEpNssrWrite
  | flashWriteDone => exact h.execFlashWriteDone
  | jtagInstructionLoad => cases hreset
  | regionZeroFill => exact h.execRegionZeroFill
  | driveLinkTrainingTimeout => exact h.execDriveLinkTrainingTimeout
  | shotOutPulseEnd => exact h.execShotOutPulseEnd

/-- What a command that holds the unit in reset may do to the count: none at all, or a start at 0. -/
theorem count_of_holdsReset {c : Instr} {s t : State} (hreset : holdsReset c = true) (hexec : exec c s = .next t) :
    t.tim.count = s.tim.count ∨ t.tim.count = 0 := by
  unfold holdsReset at hreset
  split at hreset
  · next kind =>
    obtain rfl : (if kind ≤ 3 then s.holdReset kind else s) = t := Host.Outcome.next.inj hexec
    split
    · exact .inr (s.count_holdReset kind)
    · exact .inl rfl
  · next cause =>
    replace hexec := Host.Outcome.next.inj hexec
    by_cases hcause : cause < 1 || 5 < cause
    · rw [if_pos hcause] at hexec
      rw [← hexec]
      exact .inl rfl
    · rw [if_neg hcause] at hexec
      rw [← hexec]
      exact .inr (State.count_holdReset _ 4)
  · obtain rfl := Host.Outcome.next.inj hexec
    exact .inr (State.count_holdReset _ 5)
  · next i =>
    replace hexec := Host.Outcome.next.inj hexec
    by_cases hi : i = .extest || i = .intest
    · rw [if_pos hi] at hexec
      rw [← hexec]
      exact .inr (State.count_holdReset _ 1)
    · rw [if_neg hi] at hexec
      rw [← hexec]
      exact .inl rfl
  · cases hreset

/-- Settles O8: while the controller serves, every command keeps the count, or holds the unit in reset, where it begins at 0. -/
theorem countSteppedBeforeServing : Obligations.CountSteppedBeforeServing := by
  unfold Obligations.CountSteppedBeforeServing
  intro c s t hexec
  cases hreset : holdsReset c with
  | true =>
    have hcount := count_of_holdsReset hreset hexec
    split
    · exact hcount
    · exact hcount
    · exact hcount
    · exact hcount
    · exact fun _ => hcount.resolve_right fun _ => by simp_all [holdsReset]
  | false =>
    split
    · cases hreset
    · cases hreset
    · cases hreset
    · cases hreset
    · intro hserves
      exact (State.ServesAt.exec ⟨rfl, hserves⟩ hreset t hexec).1

end Sys2Proof.Machine
end

section
/-!
Compatible mode (R93 to R96): an RDMA READ behind a Fetch and Add of its queue pair that is not visible yet (R118), then O16.
-/

namespace Sys2Proof.Machine

/-- A controller of an identified host. -/
def hostCtrl : Ctrl :=
  { index := 3, ident := some 0, func := none, cc := 0x460001, csts := 1, kato := 0, lastCmd := 0, maxIoq := 128, queues := [], aers := [],
    notices := [], unread := [], features := [], changed := [], resvLog := [], resvCount := 0, shutdown := false, mem := 0 }

/-- A namespace that is ready, without a reservation. -/
def readyNamespace : Namespace :=
  { nsid := 1, fixed := false, group := 0, nsze := 1000, ncap := 1000, lbaf := 0, pit := 0, nmic := 0, tenant := 1, gen := 1, ready := true,
    deleting := false, attached := [0], mapped := 0, rows := [], unfilled := [], profile := Profile.zero, tats := Tats.zero, minTag := 0,
    startTag := 0, meter := Meter.zero, gap := false, lastSat := none, resv := { rtype := 0, holder := none, regs := [], gen := 0, ptpl := false },
    lostSeq := 0, overflow := false, lost := [], marks := [], reported := [], moveTo := none }

/-- A window over its first 10 blocks with every right. -/
def tenBlockWindow : Window :=
  { index := 0, tag := 1, valid := true, nsid := 1, slba := 0, len := 40960, base := 0, host := 0, rights := 7, dur := 0, excl := false,
    publisher := 0, revoking := none, freedAt := none }

/-- A queue pair in RTS that has taken a Fetch and Add at PSN 0 and not answered it. -/
def addingQp : Conn :=
  { Conn.fresh 1 1 .roce .rts 0 with
    peerAddr := 11, peerCid := 5, payload := 4096, queue := some (3, 1), rcvPsn := 1, resp := [{ first := 0, psn := 0, ans := none }] }

/-- That Fetch and Add, not visible: its line was clean, the dirty limit held it back, and the line has been invalidated since (R384, R393). -/
def heldAdd : WinOp :=
  { id := 0, cid := addingQp.cid, msg := 0, key := 1, nsid := 1, dur := 0, byte := 0, len := 8, kind := .fadd 1, ord := true, readyAt := 0,
    sent := false, mirrored := true, visible := false, needs := [], original := 0, respMsg := none, failed := false, acked := false,
    filled := [(1, 0)] }

/-- A serving unit with that queue pair, its window and its Fetch and Add, whose cache is on and empty. -/
def addingState : State :=
  let s : State := { State.reset with
    conns := [addingQp], ctrls := [hostCtrl], nss := [readyNamespace], windows := [tenBlockWindow], winops := [heldAdd], nextOp := 1,
    groups := { Group.cold with configured := true, mounted := true, rows := 4 } :: List.replicate 7 Group.cold }
  ((s.wr F.TIM_STAT_SERVING 1).wr F.XPT_CTX_CFG_ROCE_EN 1).wr F.MEM_CACHE_CTL_EN 1

/-- An RDMA READ of the window's first block at the PSN expected. -/
def blockRead : RocePkt :=
  { qp := addingQp.cid, service := .rc, imm := false, inv := false, psn := 1, crcOk := true, ceMarked := false, first := true, last := true,
    ackReq := false, key := 1, addr := 0, len := 4096, operand1 := 0, operand2 := 0, payload := 0, payLen := 0, buf := 0 }

/-- The outcome leaves no line in the cache. -/
def leavesNoLine (o : Host.Outcome State Fault Refusal) : Bool :=
  match o with
  | .next t => t.lines.isEmpty
  | _ => false

end Sys2Proof.Machine

namespace Sys2Proof

open Machine

/-- Refutes O16: an RDMA READ behind an earlier Fetch and Add of its queue pair at the same block, not visible yet, waits for it (R118)
and starts no fill. -/
theorem not_compatibleMode : ¬Obligations.CompatibleMode := by
  rintro ⟨-, -, -, -, -, hread, -⟩
  obtain ⟨t, hexec, -, -, hfill⟩ := hread addingState blockRead addingQp tenBlockWindow readyNamespace (by decide +kernel) rfl rfl rfl
    (by decide) (by decide) (by decide +kernel) rfl (by decide +kernel) rfl rfl (by decide) rfl rfl rfl rfl
  have hempty : leavesNoLine (exec (.roceRdmaReadRequest blockRead) addingState) = true := by decide +kernel
  rw [hexec, leavesNoLine, List.isEmpty_iff] at hempty
  rw [hempty] at hfill
  exact Bool.false_ne_true hfill

end Sys2Proof
end

section
/-!
Time and the outputs (R35; log entry 8): what the transports, the command path and the layout do leaves the time base alone and only
adds to what was sent.
-/

namespace Sys2Proof.Machine

/-- A state comes after another of the same time: the time base is the same, and everything sent before still stands behind what was
sent since. -/
def State.After (t s : State) : Prop := t.tim = s.tim ∧ s.out <:+ t.out

theorem State.After.refl (s : State) : s.After s := ⟨rfl, List.suffix_refl _⟩

theorem State.After.trans {s t u : State} (h : t.After s) (hu : u.After t) : u.After s := ⟨hu.1.trans h.1, h.2.trans hu.2⟩

theorem State.After.now {s t : State} (h : t.After s) : t.now = s.now := congrArg (fun x : Tim => x.count.toNat) h.1

/-- What is sent on the way from s to t is among what is new in t. -/
theorem any_newOut_of_sent {s u t : State} {o : Out} {p : Out → Bool} (hu : u.After s) (ht : o :: u.out <:+ t.out) (hp : p o = true) :
    (newOut s t).any p = true := by
  obtain ⟨a, ha⟩ := ht
  obtain ⟨b, hb⟩ := hu.2
  have hout : t.out = (a ++ o :: b) ++ s.out := by rw [← ha, ← hb]; simp
  have hnew : newOut s t = a ++ o :: b := by
    rw [newOut, hout, List.length_append, Nat.add_sub_cancel, List.take_left' rfl]
  rw [hnew]
  exact List.any_of_mem (List.mem_append_right _ List.mem_cons_self) hp

/-- The newest output is among what is new. -/
theorem any_newOut_of_newest {s u t : State} {o : Out} {p : Out → Bool} (hu : u.After s) (ht : t.out = o :: u.out) (hp : p o = true) :
    (newOut s t).any p = true := any_newOut_of_sent hu (ht ▸ List.suffix_refl _) hp

end Sys2Proof.Machine

namespace Sys2Proof.Machine.State.After

-- One lemma at a time, as with the lemmas about a serving unit.
set_option Elab.async false

variable {s s0 : State}

theorem of_eq (h : s.After s0) {t : State} (htim : t.tim = s.tim := by rfl) (hout : t.out = s.out := by rfl) : t.After s0 :=
  ⟨htim.trans h.1, hout.symm ▸ h.2⟩

theorem ite {t : State} {p : Prop} [Decidable p] (h : s.After s0) (ht : t.After s0) : (if p then s else t).After s0 := by
  split
  · exact h
  · exact ht

theorem foldl {γ : Type} {g : State → γ → State} {l : List γ} (h : s.After s0) (hg : ∀ a x, a.After s0 → (g a x).After s0) :
    (l.foldl g s).After s0 := foldl_keeps_of l (fun a ha x _ => hg a x ha) s h

/-! ### Registers, outputs and events -/

theorem wr {f : Fld} {v : Nat} (h : s.After s0) : (s.wr f v).After s0 := h.of_eq

theorem bumpBy {f : Fld} {k : Nat} (h : s.After s0) : (s.bumpBy f k).After s0 := h.wr

theorem bump {f : Fld} (h : s.After s0) : (s.bump f).After s0 := h.wr

theorem setBit {f : Fld} {i : Nat} {b : Bool} (h : s.After s0) : (s.setBit f i b).After s0 := h.wr

theorem wr64 {lo hi : Fld} {v : Nat} (h : s.After s0) : (s.wr64 lo hi v).After s0 := h.wr.wr

theorem send {o : Out} (h : s.After s0) : (s.send o).After s0 := ⟨h.1, h.2.trans (List.suffix_cons o s.out)⟩

theorem controllerFault (h : s.After s0) : s.controllerFault.After s0 := by
  have hsent : (s.send .goodbye).After s0 := h.send
  exact h.ite hsent.of_eq

theorem noteEvent {b loc sev : Nat} (h : s.After s0) : (s.noteEvent b loc sev).After s0 := by
  unfold State.noteEvent
  extract_lets +onlyGivenNames s1 s2
  have h1 : s1.After s0 := h.setBit
  have h2 : s2.After s0 := h1.bump.ite (h1.bump.ite h1)
  exact h2.controllerFault.ite h2

theorem raise {b loc sev code data : Nat} (h : s.After s0) : (s.raise b loc sev code data).After s0 := by
  by_cases hoff : (s.benchAt b).state = .off
  · rw [s.raise_of_off b loc sev code data hoff]; exact h
  · obtain ⟨-, hr⟩ | ⟨-, bn, lost, -, -, hr⟩ := s.raise_cases b loc sev code data hoff
    · rw [hr]; exact h.noteEvent
    · have hnote : ((s.noteEvent b loc sev).updBench b fun _ => bn).After s0 := h.noteEvent.of_eq
      rw [hr]; exact hnote.bumpBy

theorem raiseX {c : Conn} {loc sev code data : Nat} (h : s.After s0) : (s.raiseX c loc sev code data).After s0 := h.raise

theorem updPair {f : Pair → Pair} (h : s.After s0) : (s.updPair f).After s0 := h.of_eq

theorem updHalf {q : Nat} {f : Half → Half} (h : s.After s0) : (s.updHalf q f).After s0 := h.updPair

theorem haulSend {chan : Nat} (h : s.After s0) : (s.haulSend chan).After s0 := by
  unfold State.haulSend
  split
  · exact h
  · extract_lets +onlyGivenNames x k
    exact h.send.bump.updHalf

theorem mirror {w : MirrorWhat} {b : MirrorBody} (h : s.After s0) : (s.mirror w b).After s0 := by
  unfold State.mirror
  extract_lets +onlyGivenNames n1
  refine State.After.haulSend ?_
  extract_lets +onlyGivenNames s1
  have h1 : s1.After s0 := h.send
  exact h1.of_eq

theorem mirrorAlso {b : MirrorBody} (h : s.After s0) : (s.mirrorAlso b).After s0 := by
  unfold State.mirrorAlso
  exact h.mirror.ite h

theorem mirrorNote {b : MirrorBody} (h : s.After s0) : (s.mirrorNote b).After s0 := by
  unfold State.mirrorNote
  exact h.mirror.ite h

theorem setConn {c : Conn} (h : s.After s0) : (s.setConn c).After s0 := h.of_eq

theorem bumpX {f : Nat → Fld} {c : Conn} (h : s.After s0) :
    (s.bumpX f c).After s0 := h.bump

theorem mirrorConn {cid : Nat} (h : s.After s0) : (s.mirrorConn cid).After s0 := by
  unfold State.mirrorConn
  split
  · exact h.mirrorNote
  · exact h

theorem freeConn {c : Conn} (h : s.After s0) : (s.freeConn c).After s0 := by
  unfold State.freeConn
  extract_lets +onlyGivenNames s1
  have h1 : s1.After s0 := h.mirrorNote
  exact h1.of_eq

theorem nrtOut {c : Conn} {q : NrtHdr} {e : NrtExt} {b : NrtBody} (h : s.After s0) : (s.nrtOut c q e b).1.After s0 := by
  unfold State.nrtOut
  extract_lets +onlyGivenNames h1
  exact h.send.bumpX

theorem sendSync {c : Conn} (h : s.After s0) : (s.sendSync c).1.After s0 := by
  unfold State.sendSync
  split
  · exact h
  · extract_lets +onlyGivenNames e
    dsimp -zeta only
    exact h.nrtOut

theorem nrtSend {c : Conn} {q : NrtHdr} {e : NrtExt} {b : NrtBody} (h : s.After s0) : (s.nrtSend c q e b).1.After s0 := by
  unfold State.nrtSend
  dsimp -zeta only
  exact h.sendSync.nrtOut

theorem nrtBare {c : Conn} {typ : Nat} (h : s.After s0) : (s.nrtBare c typ).After s0 := h.nrtSend

theorem sendAck {c : Conn} {path : Nat} (h : s.After s0) : (s.sendAck c path).After s0 := by
  unfold State.sendAck
  dsimp -zeta only
  exact h.nrtSend.setConn

theorem restoreCredits (h : s.After s0) : s.restoreCredits.After s0 := by
  unfold State.restoreCredits
  exact h.foldl fun _ _ ht => ht.sendAck

theorem sendData {c : Conn} {p : TxPkt} (h : s.After s0) : (s.sendData c p).1.After s0 := h.nrtSend

theorem sendNext {c : Conn} {m : OutMsg} (h : s.After s0) : (s.sendNext c m).1.After s0 := h.sendData

theorem pumpN {c : Conn} {y : Nat} (h : s.After s0) : (s.pumpN c y).1.After s0 := by
  induction y generalizing s c with
  | zero => exact h
  | succ y ih =>
    unfold State.pumpN
    split
    · exact h
    · exact ih h.sendNext

theorem pump {c : Conn} (h : s.After s0) : (s.pump c).1.After s0 := h.pumpN

theorem roceSend {c : Conn} {m : RoceOut} {k : Nat} (h : s.After s0) : (s.roceSend c m k).After s0 := h.send.bumpBy

theorem roceMessage {c : Conn} {m : OutMsg} (h : s.After s0) : (s.roceMessage c m).After s0 := h.roceSend.setConn

theorem rocePumpN {index y : Nat} (h : s.After s0) : (s.rocePumpN index y).After s0 := by
  induction y generalizing s with
  | zero => exact h
  | succ y ih =>
    unfold State.rocePumpN
    split
    · split
      · split
        · exact ih h.roceMessage
        · exact h
      · exact h
    · exact h

theorem rocePump {c : Conn} (h : s.After s0) : (s.rocePump c).After s0 := h.rocePumpN

theorem raiseCeiling {c : Conn} (h : s.After s0) : (s.raiseCeiling c).After s0 := by
  unfold State.raiseCeiling
  extract_lets +onlyGivenNames asked
  exact h.mirror.ite h

theorem goOn {c : Conn} (h : s.After s0) : (s.goOn c).After s0 := by
  unfold State.goOn
  split
  · dsimp -zeta only
    exact h.pump.setConn.raiseCeiling
  · exact h.setConn.rocePump

theorem transmitAs {cid msg : Nat} {b : OutBody} (h : s.After s0) : (s.transmitAs cid msg b).After s0 := by
  unfold State.transmitAs
  split
  · exact h
  · exact h.goOn

theorem commitMsg {cid : Nat} {b : OutBody} (h : s.After s0) : (s.commitMsg cid b).2.After s0 := by
  unfold State.commitMsg
  split
  · exact h
  · extract_lets +onlyGivenNames s1
    have h1 : s1.After s0 := h.setConn
    exact h1.mirrorConn

theorem transmit {cid : Nat} {b : OutBody} (h : s.After s0) : (s.transmit cid b).After s0 := by
  unfold State.transmit
  split
  · exact h
  · extract_lets +onlyGivenNames c
    split
    · extract_lets +onlyGivenNames c1
      exact h.goOn
    · extract_lets +onlyGivenNames psn c1 c2
      exact h.setConn.mirror.ite h.mirrorAlso.goOn

theorem updCtrl {i : Nat} {f : Ctrl → Ctrl} (h : s.After s0) : (s.updCtrl i f).After s0 := h.of_eq

theorem updNs {k : Nat} {f : Namespace → Namespace} (h : s.After s0) : (s.updNs k f).After s0 := h.of_eq

theorem updCmd {id : Nat} {f : Cmd → Cmd} (h : s.After s0) : (s.updCmd id f).After s0 := h.of_eq

theorem updQueue {ctl q : Nat} {f : Queue → Queue} (h : s.After s0) : (s.updQueue ctl q f).After s0 := h.updCtrl

theorem bumpCmd {f : Nat → Fld} {v : NvmeCmd} (h : s.After s0) :
    (s.bumpCmd f v).After s0 := h.foldl fun _ _ ht => ht.bump

theorem raiseCmd {r loc sev code data : Nat} (h : s.After s0) : (s.raiseCmd r loc sev code data).After s0 := h.raise

theorem raiseLay {g loc sev code data : Nat} (h : s.After s0) : (s.raiseLay g loc sev code data).After s0 := h.raise

theorem updEpf {f : Nat} {g : EpFunc → EpFunc} (h : s.After s0) : (s.updEpf f g).After s0 := h.of_eq

theorem epTlp (h : s.After s0) : s.epTlp.After s0 := h.of_eq

theorem epRead {t : State} {f : Nat} {w : EpWhat} {second : Bool} (h : s.After s0) (ht : s.epRead f w second = some t) :
    t.After s0 := by
  unfold State.epRead at ht
  split at ht
  · cases ht
  · next tag _ =>
    obtain rfl := Option.some.inj ht
    exact (State.After.send h.of_eq).bump.epTlp

theorem epFetchSq {f qid : Nat} (h : s.After s0) : (s.epFetchSq f qid).After s0 := by
  unfold State.epFetchSq
  extract_lets +onlyGivenNames idx
  split
  · exact h
  · split
    · exact h
    · extract_lets +onlyGivenNames busy avail
      split
      · exact h
      · split
        · rename_i t heq
          have ht : t.After s0 := h.epRead heq
          exact ht
        · exact h

theorem epFetchAll {f : Nat} (h : s.After s0) : (s.epFetchAll f).After s0 := by
  unfold State.epFetchAll
  split
  · exact h
  · exact h.foldl fun _ _ ht => ht.epFetchSq

theorem syncReady (h : s.After s0) : s.syncReady.After s0 := h.of_eq

theorem syncCmds (h : s.After s0) : s.syncCmds.After s0 := by
  unfold State.syncCmds
  extract_lets +onlyGivenNames s1 full s2
  have h1 : s1.After s0 := h.syncReady
  have h2 : s2.After s0 := h1.wr
  extract_lets +onlyGivenNames s3
  have h3 : s3.After s0 := h2.of_eq
  exact (h3.restoreCredits.foldl fun _ _ ht => ht.epFetchAll).ite h3

theorem epInterrupt {f vector : Nat} (h : s.After s0) : (s.epInterrupt f vector).After s0 := by
  unfold State.epInterrupt
  exact h.send.ite h.updEpf

theorem epEntry {t : State} {f ctl qid : Nat} {o : Out} (h : s.After s0) (ht : s.epEntry f ctl qid o = some t) : t.After s0 := by
  unfold State.epEntry at ht
  split at ht
  · cases ht; exact h
  · split at ht
    · cases ht
    · obtain rfl := Option.some.inj ht
      refine State.After.ite ?_ ?_
      · exact h.updCtrl.send.bump.bump.epTlp.epInterrupt
      · exact h.updCtrl.send.bump.bump.epTlp

theorem epFlush {f : Nat} (h : s.After s0) : (s.epFlush f).After s0 := by
  unfold State.epFlush
  extract_lets +onlyGivenNames l
  split
  · exact h
  · refine State.After.foldl ?_ fun a x ha => ?_
    · extract_lets +onlyGivenNames s1
      have h1 : s1.After s0 := h.updEpf
      exact h1.of_eq
    · split
      · exact ha.updEpf
      · split
        · split
          · rename_i t heq
            have ht : t.After s0 := ha.epEntry heq
            exact ht
          · exact ha.updEpf
        · exact ha.send.bump.epTlp

theorem toHost {ctl : Nat} {o : Out} (h : s.After s0) : (s.toHost ctl o).After s0 := by
  unfold State.toHost
  split
  · exact h.updEpf.epFlush
  · exact h.send

theorem epDropFetch {cmd : Nat} (h : s.After s0) : (s.epDropFetch cmd).After s0 := h.of_eq

theorem respond {k : NvmeCmd} {dw0 : Nat} {st : Status} {msg : Option Nat} (h : s.After s0) : (s.respond k dw0 st msg).After s0 := by
  unfold State.respond
  extract_lets +onlyGivenNames body
  split
  · exact h
  · split
    · exact h.ite h.transmitAs
    · exact h.transmit
    · exact h.toHost

theorem setAtPost {v : NvmeCmd} (h : s.After s0) : (s.setAtPost v).After s0 := by
  unfold State.setAtPost
  extract_lets +onlyGivenNames m onQueue
  have honQueue : ∀ q f, (onQueue q f).After s0 := by
    intro q f
    unfold onQueue
    extract_lets +onlyGivenNames s1
    have h1 : s1.After s0 := h.updQueue
    split
    · exact h1.mirrorConn
    · exact h1
  exact h.ite ((honQueue _ _).ite (h.ite (h.updNs.ite (honQueue _ _))))

theorem post {c : Cmd} (h : s.After s0) : (s.post c).After s0 := by
  unfold State.post
  split
  · exact h
  · extract_lets +onlyGivenNames s1 s2 s3
    have h1 : s1.After s0 := h.of_eq
    have h2 : s2.After s0 := h1.setAtPost.ite h1
    have h3 : s3.After s0 := h2.bumpCmd.respond.ite h2
    exact h3.mirrorNote.syncCmds

theorem reserveResponse {c : Cmd} (h : s.After s0) : (s.reserveResponse c).After s0 := by
  unfold State.reserveResponse
  split
  · split
    · dsimp -zeta only
      exact h.commitMsg.updCmd
    · exact h
  · exact h

theorem tryPost {id : Nat} (h : s.After s0) : (s.tryPost id).After s0 := by
  unfold State.tryPost
  split
  · exact h
  · split
    · exact h
    · split
      · extract_lets +onlyGivenNames s1
        have h1 : s1.After s0 := h.reserveResponse.updCmd
        split
        · exact h1.mirror
        · exact h1
      · exact h.post

theorem setMet {id dw0 : Nat} {st : Status} (h : s.After s0) : (s.setMet id dw0 st).After s0 := h.updCmd

theorem finish {id dw0 : Nat} {st : Status} (h : s.After s0) : (s.finish id dw0 st).After s0 := h.setMet.tryPost

theorem sendNotices {ctl y : Nat} (h : s.After s0) : (s.sendNotices ctl y).After s0 := by
  induction y generalizing s with
  | zero => exact h
  | succ y ih =>
    unfold State.sendNotices
    split
    · exact h
    · split
      · exact ih h.updCtrl.finish
      · exact h

theorem notice {ctl typ info page : Nat} (h : s.After s0) : (s.notice ctl typ info page).After s0 := by
  unfold State.notice
  split
  · exact h
  · extract_lets +onlyGivenNames enabled
    exact h.ite h.updCtrl.sendNotices

theorem noticeAll {p : Nat → Bool} {typ info page : Nat} (h : s.After s0) : (s.noticeAll p typ info page).After s0 := by
  unfold State.noticeAll
  refine h.foldl fun a x ha => ?_
  split
  · exact ha.notice.ite ha
  · exact ha

theorem updGroup {g : Nat} {f : Group → Group} (h : s.After s0) : (s.updGroup g f).After s0 := h.of_eq

theorem updSlot {k : Nat} {f : Slot → Slot} (h : s.After s0) : (s.updSlot k f).After s0 := h.of_eq

theorem mirrorSlot {k : Nat} (h : s.After s0) : (s.mirrorSlot k).After s0 := h.mirrorNote

theorem changeSlot {k st : Nat} {f : Slot → Slot} (h : s.After s0) : (s.changeSlot k st f).After s0 :=
  (h.updSlot.wr).mirrorSlot

theorem updStripe {g k : Nat} {f : Stripe → Stripe} (h : s.After s0) : (s.updStripe g k f).After s0 := h.of_eq

theorem syncHold {g : Nat} (h : s.After s0) : (s.syncHold g).After s0 := by
  unfold State.syncHold
  extract_lets +onlyGivenNames f
  split
  · split
    · extract_lets +onlyGivenNames s1
      have h1 : s1.After s0 := h.updGroup
      exact (h1.wr).raiseLay
    · exact h
  · extract_lets +onlyGivenNames us s1
    have h1 : s1.After s0 := (h.bumpBy).updGroup
    split
    · extract_lets +onlyGivenNames s2
      have h2 : s2.After s0 := h1.updGroup
      exact (h2.wr).raiseLay
    · exact h1

theorem setEntryNotice {l : List Nat} (h : s.After s0) : { s with entryNotice := l }.After s0 := h.of_eq

theorem syncEntries {g : Nat} (h : s.After s0) : (s.syncEntries g).After s0 := by
  unfold State.syncEntries
  extract_lets +onlyGivenNames e free
  have hw : ∀ v, (s.wr (F.LAY_GSTAT_ENTRY_HOLD g) v).After s0 := fun v => h.wr
  split
  · exact (hw 0).setEntryNotice.ite h
  · exact (hw 1).raiseLay.setEntryNotice.ite h

theorem syncGroup {g : Nat} (h : s.After s0) : (s.syncGroup g).After s0 := by
  unfold State.syncGroup
  split
  · exact h
  · extract_lets +onlyGivenNames s1 s2 s3
    have h1 : s1.After s0 := h.wr
    have h2 : s2.After s0 := h1.wr
    have h3 : s3.After s0 := h2.wr
    exact h3.syncHold.syncEntries.ite h3

theorem syncQuar {slot : Nat} (h : s.After s0) : (s.syncQuar slot).After s0 := h.wr

theorem abandonM {p : MWork → Bool} (h : s.After s0) : (s.abandonM p).After s0 := by
  unfold State.abandonM
  extract_lets +onlyGivenNames slots
  exact h.of_eq.foldl fun _ _ ht => ht.syncQuar

theorem issueRec {g : Nat} {b : RecBody} (h : s.After s0) : (s.issueRec g b).2.After s0 := by
  unfold State.issueRec
  extract_lets +onlyGivenNames q r s1
  extract_lets +onlyGivenNames s2
  have h2 : s2.After s0 := h.of_eq
  exact h2.wr64

theorem emitRec {g : Nat} {b : RecBody} (h : s.After s0) : (s.emitRec g b).After s0 := h.issueRec

theorem voidCmd {id : Nat} (h : s.After s0) : (s.voidCmd id).After s0 := h.of_eq

theorem leaveWork {g : Nat} {p : Nat × Nat → Bool} (h : s.After s0) : (s.leaveWork g p).After s0 := by
  unfold State.leaveWork
  extract_lets +onlyGivenNames n1
  exact h.updGroup.bumpBy

theorem drainEnd {g : Nat} (h : s.After s0) : (s.drainEnd g).After s0 := by
  unfold State.drainEnd
  exact h.ite (h.foldl fun _ _ ht => ht.changeSlot.raiseLay)

theorem syncHealth {g : Nat} (h : s.After s0) : (s.syncHealth g).After s0 := by
  unfold State.syncHealth
  split
  · exact h
  · extract_lets +onlyGivenNames s1 st old s2
    have h1 : s1.After s0 := h.drainEnd
    have h2 : s2.After s0 := h1.syncGroup
    split
    · exact h2
    · extract_lets +onlyGivenNames s3 s4
      have h3 : s3.After s0 := h2.updGroup
      have h4 : s4.After s0 := h3.raiseLay.ite h3
      exact h4.noticeAll

theorem freeIfEmpty {g k : Nat} (h : s.After s0) : (s.freeIfEmpty g k).After s0 := by
  unfold State.freeIfEmpty
  split
  · split
    · extract_lets +onlyGivenNames s1 s2
      have h1 : s1.After s0 := h.updStripe
      have h2 : s2.After s0 := h1.emitRec
      exact h2.leaveWork.syncHealth
    · exact h
  · exact h

theorem voidFree {id : Nat} (h : s.After s0) : (s.voidFree id).After s0 := by
  unfold State.voidFree
  extract_lets +onlyGivenNames hit
  exact h.voidCmd.foldl fun _ _ ht => ht.freeIfEmpty

theorem dropCmd {c : Cmd} (h : s.After s0) : (s.dropCmd c).After s0 := by
  unfold State.dropCmd
  extract_lets +onlyGivenNames admitted bytes s1 jobs upds s2 s3
  have h1 : s1.After s0 := h.updNs.ite h
  have h2 : s2.After s0 := h1.of_eq.ite h1
  have h3 : s3.After s0 := h2.mirrorNote.voidFree.epDropFetch.abandonM
  exact h3.of_eq.syncCmds

theorem discard {c : Cmd} (h : s.After s0) : (s.discard c).After s0 := h.bumpCmd.dropCmd

theorem applyReset {p : Cmd → Bool} (h : s.After s0) : (s.applyReset p).2.After s0 := by
  unfold State.applyReset
  extract_lets +onlyGivenNames hit gone s1
  have h1 : s1.After s0 := h.foldl fun _ _ ht => ht.discard
  exact h1.of_eq

theorem dropWindowOps {cid : Nat} (h : s.After s0) : (s.dropWindowOps cid).After s0 := by
  unfold State.dropWindowOps
  extract_lets +onlyGivenNames keep
  exact h.of_eq

theorem closeConn {cid : Nat} (h : s.After s0) : (s.closeConn cid).After s0 := by
  unfold State.closeConn
  split
  · exact h
  · extract_lets +onlyGivenNames s1 off
    have h1 : s1.After s0 := h.dropWindowOps
    split
    · exact h1.ite h1.nrtBare.setConn
    · exact h1.send.setConn

theorem resetCtrl {idx : Nat} (h : s.After s0) : (s.resetCtrl idx).After s0 := by
  unfold State.resetCtrl
  split
  · exact h
  · dsimp -zeta only
    extract_lets +onlyGivenNames s1 s2
    have h1 : s1.After s0 := h.applyReset.raiseCmd
    have h2 : s2.After s0 := h1.foldl fun _ _ ht => ht.closeConn
    split
    · extract_lets +onlyGivenNames s3
      have h3 : s3.After s0 := by
        unfold s3
        split
        · exact h2.updEpf
        · exact h2
      exact h3.updCtrl
    · extract_lets +onlyGivenNames s3
      have h3 : s3.After s0 := h2.mirrorNote
      exact h3.of_eq

theorem queueDown {ctl qid : Nat} (h : s.After s0) : (s.queueDown ctl qid).After s0 := by
  unfold State.queueDown
  split
  · exact h.resetCtrl
  · dsimp -zeta only
    exact h.applyReset.updCtrl

theorem connDown {c : Conn} (h : s.After s0) : (s.connDown c).After s0 := by
  unfold State.connDown
  extract_lets +onlyGivenNames s1
  have h1 : s1.After s0 := h.dropWindowOps
  split
  · exact h1.queueDown
  · exact h1

end Sys2Proof.Machine.State.After
end

section
/-!
The transport's state operations (R69 to R101): the connection table, what a packet sent leaves, what a packet received notes, and
the counters of a role.
-/

namespace Sys2Proof.Machine

/-! ### Counters of a role -/

/-- Registers at different offsets in the roles' windows have different homes. -/
theorem roleKey_ne_roleKey {c c' r r' off off' : Nat} (h : off % 0x100000 ≠ off' % 0x100000) :
    roleKey c r off ≠ roleKey c' r' off' := by
  rw [roleKey, roleKey]; omega

/-- A register of a bench or of a class has no role's home. -/
theorem roleKey_ne_of_lt {c r off k : Nat} (h : k < 0x5000000) : roleKey c r off ≠ k := by rw [roleKey]; omega

/-- The registers that an event changes are below those of the transport's roles in their windows. -/
theorem State.rd_raise_roleKey (s : State) (b loc sev code data : Nat) {c r off hi lo : Nat} (hlow : 0x28 ≤ off) (hoff : off < 0x100000) :
    (s.raise b loc sev code data).rd ⟨roleKey c r off, hi, lo⟩ = s.rd ⟨roleKey c r off, hi, lo⟩ :=
  s.rd_raise_beyond b loc sev code data _ (by show 0x28 ≤ roleKey c r off % 0x100000; rw [roleKey]; omega)

theorem State.rd_bump_other (s : State) (f g : Fld) (h : g.key ≠ f.key) : (s.bump f).rd g = s.rd g := s.rd_bumpBy_other f g 1 h

@[simp] theorem State.bumpX_conns (s : State) (f : Nat → Fld) (c : Conn) : (s.bumpX f c).conns = s.conns := by
  rw [State.bumpX, State.bump, State.bumpBy, State.wr_conns]

@[simp] theorem State.bumpX_out (s : State) (f : Nat → Fld) (c : Conn) : (s.bumpX f c).out = s.out := by
  rw [State.bumpX, State.bump, State.bumpBy, State.wr_out]

@[simp] theorem State.bumpX_now (s : State) (f : Nat → Fld) (c : Conn) : (s.bumpX f c).now = s.now :=
  congrArg (fun x : Tim => x.count.toNat) (State.wr_tim _ _ _)

@[simp] theorem State.bumpX_cmds (s : State) (f : Nat → Fld) (c : Conn) : (s.bumpX f c).cmds = s.cmds := by
  rw [State.bumpX, State.bump, State.bumpBy, State.wr_cmds]

@[simp] theorem State.bumpX_winops (s : State) (f : Nat → Fld) (c : Conn) : (s.bumpX f c).winops = s.winops := by
  rw [State.bumpX, State.bump, State.bumpBy, State.wr_winops]

theorem State.bumpX_pends (s : State) (f : Nat → Fld) (c : Conn) : (s.bumpX f c).pends = s.pends := by
  rw [State.bumpX, State.bump, State.bumpBy, State.wr_pends]

theorem State.bump_conns (s : State) (f : Fld) : (s.bump f).conns = s.conns := by rw [State.bump, State.bumpBy, State.wr_conns]

@[simp] theorem State.setConn_cmds (s : State) (c : Conn) : (s.setConn c).cmds = s.cmds := rfl

@[simp] theorem State.setConn_winops (s : State) (c : Conn) : (s.setConn c).winops = s.winops := rfl

@[simp] theorem State.setConn_pends (s : State) (c : Conn) : (s.setConn c).pends = s.pends := rfl

@[simp] theorem State.setConn_out (s : State) (c : Conn) : (s.setConn c).out = s.out := rfl

@[simp] theorem State.setConn_now (s : State) (c : Conn) : (s.setConn c).now = s.now := rfl

@[simp] theorem State.rd_setConn (s : State) (c : Conn) (f : Fld) : (s.setConn c).rd f = s.rd f := rfl

/-! ### The connection table -/

theorem State.conn?_eq_of_conns_eq {s t : State} (h : t.conns = s.conns) (cid : Nat) : t.conn? cid = s.conn? cid := by
  rw [State.conn?, State.conn?, h]

theorem State.cid_of_conn? {s : State} {cid : Nat} {c : Conn} (h : s.conn? cid = some c) : c.cid = cid := by
  have hp := List.find?_some h
  simp only [Bool.and_eq_true, beq_iff_eq] at hp
  exact hp.1

/-- A connection put back under its index and generation is the one found. -/
theorem State.conn?_setConn {s : State} {cid : Nat} {c d : Conn} (h : s.conn? cid = some c) (hi : d.index = c.index := by rfl)
    (hg : d.gen = c.gen := by rfl) : (s.setConn d).conn? cid = some d := by
  have hp : (d.cid == cid && d.gen != 0) = true := by
    have hc := List.find?_some h
    rw [Conn.cid, hi, hg]; exact hc
  simp only [State.conn?, State.setConn] at h ⊢
  generalize s.conns = l at h
  induction l with
  | nil => cases h
  | cons x l ih =>
    rw [List.map_cons]
    by_cases hx : x.index = d.index
    · rw [if_pos hx]; exact List.find?_cons_of_pos hp
    · rw [if_neg hx]
      cases hfit : (x.cid == cid && x.gen != 0) with
      | true =>
        have hxc : some x = some c := by rw [← h, List.find?_cons, hfit]
        exact absurd ((congrArg Conn.index (Option.some.inj hxc)).trans hi.symm) hx
      | false =>
        rw [List.find?_cons, hfit] at h ⊢
        exact ih h

/-- Putting back a connection with nothing in reassembly adds to no role's entries. -/
theorem State.reasmUsed_setConn_le (s : State) (d : Conn) (r : Nat) (h : d.reasm = []) : (s.setConn d).reasmUsed r ≤ s.reasmUsed r := by
  simp only [State.reasmUsed, State.setConn]
  generalize s.conns = l
  induction l with
  | nil => exact Nat.le_refl _
  | cons x l ih =>
    rw [List.map_cons]
    by_cases hx : x.index = d.index
    · rw [if_pos hx]
      cases hd : d.role == r <;> cases hr : x.role == r <;> simp [hd, hr, h] <;> omega
    · rw [if_neg hx]
      cases hr : x.role == r <;> simp [hr] <;> omega

/-- A connection released is gone from the table, and its index rests from now on (R70). -/
theorem State.freeConn_conns (s : State) (c : Conn) : (s.freeConn c).conns = s.conns.filter fun x => x.index != c.index := rfl

theorem State.freeConn_freed_head (s : State) (c : Conn) : (s.freeConn c).freed.head? = some ⟨c.index, c.gen % 63 + 1, s.now⟩ := rfl

theorem State.freeConn_conns_all (s : State) (c : Conn) : ((s.freeConn c).conns.all fun x => x.index != c.index) = true := by
  rw [State.freeConn_conns, List.all_filter]
  simp

/-! ### Items for the partner (R546) -/

/-- A frame for the haul goes out where a half is in service, and nothing happens where none is. -/
theorem State.haulSend_cases (s : State) (chan : Nat) :
    s.haulSend chan = s ∨ ∃ o h f, s.haulSend chan = ((s.send o).bump F.HAL_TX_FRM).updHalf h f := by
  unfold State.haulSend
  split
  · exact .inl rfl
  · exact .inr ⟨_, _, _, rfl⟩

/-- What sending an item to the partner leaves alone. -/
theorem State.mirror_keeps (s : State) (w : MirrorWhat) (b : MirrorBody) :
    (s.mirror w b).conns = s.conns ∧ (s.mirror w b).cmds = s.cmds ∧ (s.mirror w b).winops = s.winops ∧
      ∀ f : Fld, f.key ≠ F.HAL_TX_FRM.key → (s.mirror w b).rd f = s.rd f := by
  unfold State.mirror
  extract_lets n
  generalize hs : ({ s.send (.mirror n b) with mseq := n, mirrorOut := s.mirrorOut ++ [⟨n, w⟩] } : State) = u
  have hu : u.conns = s.conns ∧ u.cmds = s.cmds ∧ u.winops = s.winops ∧ u.regs = s.regs := by
    rw [← hs]; exact ⟨rfl, rfl, rfl, rfl⟩
  obtain ⟨hconns, hcmds, hops, hregs⟩ := hu
  obtain h | ⟨o, q, f, h⟩ := u.haulSend_cases 1
  · rw [h]; exact ⟨hconns, hcmds, hops, fun f _ => State.rd_eq_of_regs_eq hregs f⟩
  · rw [h]; exact ⟨hconns, hcmds, hops, fun f hf => (State.rd_bump_other _ _ _ hf).trans (State.rd_eq_of_regs_eq hregs f)⟩

theorem State.raiseCeiling_cases (s : State) (c : Conn) : s.raiseCeiling c = s ∨ ∃ w b, s.raiseCeiling c = s.mirror w b := by
  unfold State.raiseCeiling
  extract_lets asked
  split
  · exact .inr ⟨_, _, rfl⟩
  · exact .inl rfl

theorem State.raiseCeiling_conns (s : State) (c : Conn) : (s.raiseCeiling c).conns = s.conns := by
  obtain h | ⟨w, b, h⟩ := s.raiseCeiling_cases c
  · rw [h]
  · rw [h, (s.mirror_keeps w b).1]

/-! ### Sending a packet (R71, R83, R101) -/

theorem State.sendSync_of_none (s : State) (c : Conn) (h : c.syncPending = none) : s.sendSync c = (s, c) := by
  rw [State.sendSync, h]

/-- What a packet sent can change of its connection: the echoes of its paths and the SYNC owed. -/
def Conn.sentOn (c : Conn) (ps : List Path) (e : Nat) (y : Option Nat) : Conn := { c with paths := ps, epoch := e, syncPending := y }

/-- What the SYNC of a connection leaves of it. -/
theorem State.sendSync_snd (s : State) (c : Conn) :
    ∃ ps e y, ps.length = c.paths.length ∧ (s.sendSync c).2 = c.sentOn ps e y := by
  unfold State.sendSync
  split
  · exact ⟨c.paths, c.epoch, c.syncPending, rfl, rfl⟩
  · exact ⟨_, _, _, List.length_modify .., rfl⟩

theorem State.nrtSend_eq (s : State) (c : Conn) (h : NrtHdr) (e : NrtExt) (b : NrtBody) :
    s.nrtSend c h e b = (s.sendSync c).1.nrtOut (s.sendSync c).2 h e b := rfl

theorem State.nrtSend_snd (s : State) (c : Conn) (h : NrtHdr) (e : NrtExt) (b : NrtBody) :
    ∃ ps n y, ps.length = c.paths.length ∧ (s.nrtSend c h e b).2 = c.sentOn ps n y := by
  obtain ⟨ps, n, y, hlen, hs⟩ := s.sendSync_snd c
  rw [State.nrtSend_eq, hs]
  exact ⟨_, n, y, (List.length_modify ..).trans hlen, rfl⟩

/-- A SYNC owed goes out with RENEGE under the epoch to come, and is owed no more (R101). -/
theorem State.sendSync_out (s : State) {c : Conn} {d : Nat} (h : c.syncPending = some d) :
    ∃ u n, (s.sendSync c).1.out = .nrt c.peerAddr (c.sport + c.resendPath) u
      { c.header 9 c.resendPath with psn := c.syncPsn, renege := true, payLen := n } .none (.sync (c.epoch + 1)) :: s.out := by
  rw [State.sendSync, h]
  exact ⟨_, _, rfl⟩

theorem State.sendSync_snd_of_owed (s : State) {c : Conn} {d : Nat} (h : c.syncPending = some d) :
    ∃ ps, (s.sendSync c).2 = c.sentOn ps (c.epoch + 1) none := by
  rw [State.sendSync, h]
  exact ⟨_, rfl⟩

/-- What an output of the native transport leaves alone. -/
theorem State.nrtOut_keeps (s : State) (c : Conn) (h : NrtHdr) (e : NrtExt) (b : NrtBody) :
    (s.nrtOut c h e b).1.conns = s.conns ∧ (s.nrtOut c h e b).1.pends = s.pends ∧
      ∀ f : Fld, f.key ≠ (F.XPT_TX_PKT c.role).key → (s.nrtOut c h e b).1.rd f = s.rd f :=
  ⟨(State.wr_conns _ _ _).trans (State.send_conns _ _), (State.wr_pends _ _ _).trans (State.send_pends _ _),
    fun f hf => State.rd_bump_other (s.send _) _ f hf⟩

/-- What the SYNC of a connection leaves alone. -/
theorem State.sendSync_keeps (s : State) (c : Conn) :
    (s.sendSync c).1.conns = s.conns ∧ (s.sendSync c).1.pends = s.pends ∧
      ∀ f : Fld, f.key ≠ (F.XPT_TX_PKT c.role).key → (s.sendSync c).1.rd f = s.rd f := by
  cases hsync : c.syncPending with
  | none => rw [s.sendSync_of_none c hsync]; exact ⟨rfl, rfl, fun _ _ => rfl⟩
  | some d =>
    rw [State.sendSync, hsync]
    exact s.nrtOut_keeps c _ _ _

/-- What a packet sent leaves alone. -/
theorem State.nrtSend_keeps (s : State) (c : Conn) (h : NrtHdr) (e : NrtExt) (b : NrtBody) :
    (s.nrtSend c h e b).1.conns = s.conns ∧ (s.nrtSend c h e b).1.pends = s.pends ∧
      ∀ f : Fld, f.key ≠ (F.XPT_TX_PKT c.role).key → (s.nrtSend c h e b).1.rd f = s.rd f := by
  obtain ⟨ps, n, y, -, hs⟩ := s.sendSync_snd c
  obtain ⟨hconns, hpends, hrd⟩ := s.sendSync_keeps c
  obtain ⟨hconns', hpends', hrd'⟩ := (s.sendSync c).1.nrtOut_keeps (c.sentOn ps n y) h e b
  rw [State.nrtSend_eq, hs]
  exact ⟨hconns'.trans hconns, hpends'.trans hpends, fun f hf => (hrd' f hf).trans (hrd f hf)⟩

theorem State.conn?_nrtSend {s : State} {cid : Nat} {x : Conn} (c : Conn) (h : NrtHdr) (e : NrtExt) (b : NrtBody)
    (hx : s.conn? cid = some x) : (s.nrtSend c h e b).1.conn? cid = some x :=
  (State.conn?_eq_of_conns_eq (s.nrtSend_keeps c h e b).1 cid).trans hx

/-- A packet goes out last: after the SYNC owed, to the peer, from the port of its path. -/
theorem State.nrtSend_out (s : State) (c : Conn) (h : NrtHdr) (e : NrtExt) (b : NrtBody) :
    ∃ d, (s.nrtSend c h e b).1.out =
      .nrt c.peerAddr (c.sport + h.path) d { h with payLen := b.len h } e b :: (s.sendSync c).1.out := by
  obtain ⟨ps, n, y, -, hs⟩ := s.sendSync_snd c
  rw [State.nrtSend_eq, hs]
  exact ⟨_, rfl⟩

/-- The connection that an ACK leaves: nothing counted toward the next, no timer, RENEGE spent (R83, R85). -/
def Conn.ackSent (c : Conn) (ps : List Path) (e : Nat) (y : Option Nat) : Conn :=
  { c.sentOn ps e y with unacked := 0, ackDue := none, renege := false }

/-- The header of a connection's ACK. -/
def Conn.ackHeader (c : Conn) (path : Nat) : NrtHdr := { c.header 2 path with renege := c.renege }

theorem State.sendAck_eq (s : State) (c : Conn) (path : Nat) :
    s.sendAck c path = (s.nrtSend c (c.ackHeader path) .none (.bitmap c.sackBits)).1.setConn
      { (s.nrtSend c (c.ackHeader path) .none (.bitmap c.sackBits)).2 with unacked := 0, ackDue := none, renege := false } := rfl

theorem State.conn?_sendAck {s : State} {cid : Nat} {x c : Conn} (path : Nat) (h : s.conn? cid = some x) (hi : c.index = x.index := by rfl)
    (hg : c.gen = x.gen := by rfl) : ∃ ps e y, (s.sendAck c path).conn? cid = some (c.ackSent ps e y) := by
  obtain ⟨ps, e, y, -, hs⟩ := s.nrtSend_snd c (c.ackHeader path) .none (.bitmap c.sackBits)
  have hx := State.conn?_nrtSend c (c.ackHeader path) .none (.bitmap c.sackBits) h
  rw [State.sendAck_eq, hs]
  exact ⟨ps, e, y, State.conn?_setConn hx hi hg⟩

theorem State.sendAck_out (s : State) (c : Conn) (path : Nat) :
    ∃ d n, (s.sendAck c path).out =
      .nrt c.peerAddr (c.sport + path) d { c.ackHeader path with payLen := n } .none (.bitmap c.sackBits) :: (s.sendSync c).1.out := by
  obtain ⟨d, hd⟩ := s.nrtSend_out c (c.ackHeader path) .none (.bitmap c.sackBits)
  rw [State.sendAck_eq]
  exact ⟨d, _, hd⟩

theorem State.rd_sendAck (s : State) (c : Conn) (path : Nat) (f : Fld) (h : f.key ≠ (F.XPT_TX_PKT c.role).key) :
    (s.sendAck c path).rd f = s.rd f := by
  rw [State.sendAck_eq, State.rd_setConn, (s.nrtSend_keeps c _ _ _).2.2 f h]

/-- An ACK sent is among what was sent since. -/
theorem State.any_newOut_sendAck {s u : State} (hu : u.After s) (c : Conn) (path : Nat) {f : Out → Bool}
    (hf : ∀ d n, f (.nrt c.peerAddr (c.sport + path) d { c.ackHeader path with payLen := n } .none (.bitmap c.sackBits)) = true) :
    (newOut s (u.sendAck c path)).any f = true := by
  obtain ⟨d, n, hout⟩ := u.sendAck_out c path
  exact any_newOut_of_newest hu.sendSync hout (hf d n)

theorem State.sendAck_pends (s : State) (c : Conn) (path : Nat) : (s.sendAck c path).pends = s.pends := by
  rw [State.sendAck_eq, State.setConn_pends, (s.nrtSend_keeps c _ _ _).2.1]

/-- What is read as a packet of a type on a path: the connection's header under any RENEGE and length. -/
theorem isNrt_header (c : Conn) (typ path d n : Nat) (r : Bool) (e : NrtExt) (b : NrtBody) :
    isNrt c typ path (.nrt c.peerAddr (c.sport + path) d { c.header typ path with renege := r, payLen := n } e b) = true := by
  simp [isNrt, Conn.header]

/-- A packet of a connection's header is the newest output. -/
theorem State.isNrt_nrtSend (s : State) (c : Conn) (typ path : Nat) (e : NrtExt) (b : NrtBody) :
    (s.nrtSend c (c.header typ path) e b).1.out.head?.any (isNrt c typ path) = true := by
  obtain ⟨d, hout⟩ := s.nrtSend_out c (c.header typ path) e b
  rw [hout]
  exact isNrt_header c typ path d _ false e b

/-- An ACK sent is the newest output. -/
theorem State.isNrt_sendAck (s : State) {c d : Conn} (path : Nat) (ha : d.peerAddr = c.peerAddr := by rfl)
    (hs : d.sport = c.sport := by rfl) (hp : d.peerCid = c.peerCid := by rfl) (hr : d.rcvPsn = c.rcvPsn := by rfl) :
    (s.sendAck d path).out.head?.any (isNrt c 2 path) = true := by
  obtain ⟨p, n, hout⟩ := s.sendAck_out d path
  rw [hout]
  simp [isNrt, Conn.ackHeader, Conn.header, ha, hs, hp, hr]

/-- Room for a credit changes the credit granted and nothing else (R92). -/
theorem State.grantCredit_eq (s : State) (c : Conn) : ∃ g, s.grantCredit c = { c with granted := g } := by
  unfold State.grantCredit
  extract_lets unused
  split
  · exact ⟨c.granted, rfl⟩
  · split
    · exact ⟨_, rfl⟩
    · split
      · exact ⟨_, rfl⟩
      · exact ⟨c.granted, rfl⟩

/-! ### A packet received (R72) -/

/-- What hearing a packet leaves of its connection. -/
def Conn.heardOn (c : Conn) (now : Nat) (ps : List Path) : Conn := { c with lastRx := now, lastUse := now, paths := ps }

/-- Hearing a packet notes the time, and its mark at its path: no path becomes suspect by it. -/
theorem Conn.heard_eq (c : Conn) (p : NrtPkt) (now : Nat) :
    ∃ ps, c.heard p now = c.heardOn now ps ∧ ∀ i, ((c.heardOn now ps).pathAt i).suspect = (c.pathAt i).suspect := by
  unfold Conn.heard
  extract_lets x
  split
  · refine ⟨_, rfl, fun i => ?_⟩
    simp only [Conn.pathAt, Conn.heardOn, List.getD_eq_getElem?_getD, List.getElem?_modify, x]
    cases c.paths[i]? with
    | none => rfl
    | some q => simp only [Option.map_eq_map, Option.map_some, Option.getD_some]; split <;> rfl
  · exact ⟨c.paths, rfl, fun _ => rfl⟩

/-- The next path in rotation rests on the paths' number, their order and which are suspect. -/
theorem Conn.resendPath_heardOn (c : Conn) (now : Nat) (ps : List Path)
    (h : ∀ i, ((c.heardOn now ps).pathAt i).suspect = (c.pathAt i).suspect) : (c.heardOn now ps).resendPath = c.resendPath := by
  have hsuspect : (fun p => !((c.heardOn now ps).pathAt p).suspect) = fun p => !(c.pathAt p).suspect := funext fun i => by rw [h]
  rw [Conn.resendPath, hsuspect]; rfl

/-- A packet on a connection that is past HALF-OPEN and owes no SYNC is counted and heard. -/
theorem State.nrtNoted_eq (s : State) (c : Conn) (p : NrtPkt) (hsync : c.syncPending = none) (hstate : c.state ≠ .halfOpen) :
    s.nrtNoted c p = ((s.bumpX F.XPT_RX_PKT c).setConn (c.heard p s.now), c.heard p s.now) := by
  obtain ⟨ps, hps, -⟩ := c.heard_eq p s.now
  unfold State.nrtNoted
  dsimp only
  rw [State.bumpX_now, hps, State.sendSync_of_none _ (c.heardOn s.now ps) hsync]
  have hopen : (c.heardOn s.now ps).state ≠ .halfOpen := hstate
  simp [hopen]

theorem asType_udpPort (p : NrtPkt) (t : Nat) : (asType p t).udpPort = p.udpPort := by unfold asType; split <;> rfl

theorem asType_ext (p : NrtPkt) (t : Nat) : (asType p t).ext = p.ext := by unfold asType; split <;> rfl

theorem asType_payload (p : NrtPkt) (t : Nat) : (asType p t).payload = p.payload := by unfold asType; split <;> rfl

theorem asType_dcid (p : NrtPkt) (t : Nat) : (asType p t).dcid = p.dcid := by unfold asType; split <;> rfl

/-- The checks that a packet passes (Table XPT-6): it has the row's type, its connection is in the table, of the native transport
and in the bank. -/
theorem nrtFrom_facts {s : State} {p : NrtPkt} {t : Nat} {c : Conn} (h : nrtFrom s (asType p t) c = true) :
    asType p t = { p with typ := t } ∧ s.nrtPacket (asType p t) = s.nrtOn c { p with typ := t } ∧ s.conn? c.cid = some c ∧
      c.mode = .nrt := by
  simp only [nrtFrom, Bool.and_eq_true, beq_iff_eq, Bool.not_eq_true'] at h
  obtain ⟨⟨⟨⟨⟨hport, hen⟩, hcrc⟩, hdef⟩, hconn⟩, hbank⟩ := h
  have htype : asType p t = { p with typ := t } := by
    by_cases hrange : (decide (1 ≤ p.typ) && decide (p.typ ≤ 9)) = true
    · rw [asType, if_pos hrange]
    · rw [asType, if_neg hrange] at hdef
      simp only [nrtDefined, Bool.and_eq_true] at hdef
      exact absurd (Bool.and_eq_true_iff.mpr ⟨hdef.1.1.2, hdef.1.2⟩) hrange
  have hpkt : s.nrtPacket (asType p t) = s.nrtOn c { p with typ := t } := by
    rw [← htype]
    unfold State.nrtPacket
    simp [hport, hen, hcrc, hdef, hconn, hbank]
  obtain ⟨x, hx, hcheck⟩ := Option.bind_eq_some_iff.mp hconn
  split at hcheck
  · rename_i hchecks
    obtain rfl := Option.some.inj hcheck
    simp only [Bool.and_eq_true, beq_iff_eq] at hchecks
    refine ⟨htype, hpkt, ?_, hchecks.1.1.1.1⟩
    rw [State.cid_of_conn? hx, hx]
  · cases hcheck

/-- A connection whose timers run is in the table (R98). -/
theorem State.conn?_of_running {s : State} {cid : Nat} {c : Conn} (h : s.running cid = some c) :
    s.conn? cid = some c ∧ c.spilled = false := by
  obtain ⟨x, hx, hbank⟩ := Option.bind_eq_some_iff.mp h
  split at hbank
  · cases hbank
  · rename_i hs
    obtain rfl := Option.some.inj hbank
    exact ⟨hx, Bool.eq_false_iff.mpr hs⟩

end Sys2Proof.Machine
end

section
/-!
The native transport's receive stream and acknowledgments (R78 to R92): a DATA packet in order, one beyond the credit, a duplicate, and
an ACK of the last packet sent.
-/

namespace Sys2Proof.Machine

/-! ### DATA packets (R78 to R86) -/

section NewPacket

variable {s : State} {c : Conn} {p : NrtPkt} (hnone : c.received = []) (hahead : dist32 p.psn c.rcvPsn < 4096)
  (hnew : p.psn ≠ c.rcvPsn → 4096 < dist32 c.rcvPsn p.psn) (hepoch : c.epoch = 0) (hsync : c.syncPending = none)

include hnew

/-- A packet ahead of the window's recent ones is no duplicate. -/
theorem not_recent : (dist32 p.psn c.rcvPsn != 0 && decide (dist32 c.rcvPsn p.psn ≤ 4096)) = false := by
  by_cases hnext : p.psn = c.rcvPsn
  · have hzero : dist32 p.psn c.rcvPsn = 0 := by rw [hnext, dist32]; omega
    rw [hzero]; rfl
  · rw [decide_eq_false (Nat.not_le.mpr (hnew hnext)), Bool.and_false]

include hnone hahead hepoch hsync

/-- A new packet whose message is below the low mark or not granted has no credit (R91). -/
theorem State.nrtCheck_of_no_credit (hcredit : serialLt p.msgId c.lowMark = true ∨ serialLt p.msgId c.granted = false) :
    s.nrtCheck c p = .credit := by
  have hno : (serialLt p.msgId c.lowMark || !serialLt p.msgId c.granted) = true := by
    obtain h | h := hcredit
    · rw [h, Bool.true_or]
    · rw [h, Bool.not_false, Bool.or_true]
  simp [State.nrtCheck, hnone, not_recent hnew, Nat.not_le.mpr hahead, hepoch, hsync, hno]

/-- A new packet of a SEND with credit and of a fitting size passes (Table XPT-6). -/
theorem State.nrtCheck_of_send (hlow : serialLt p.msgId c.lowMark = false) (hgrant : serialLt p.msgId c.granted = true)
    (hsize : nrtSizeOk c p = true) (hkind : p.kind = 1) : s.nrtCheck c p = .pass := by
  have hkey : keyAccess p = none := by simp [keyAccess, hkind]
  simp [State.nrtCheck, hnone, not_recent hnew, Nat.not_le.mpr hahead, hepoch, hsync, hlow, hgrant, hsize, hkey]

end NewPacket

/-- A packet whose PSN is among those received is a duplicate. -/
theorem State.nrtCheck_of_received (s : State) (c : Conn) (p : NrtPkt) (hahead : dist32 p.psn c.rcvPsn < 4096)
    (hmem : (p.psn, p.msgId) ∈ c.received) : s.nrtCheck c p = .dup := by
  have hany : (c.received.any fun q => q.1 == p.psn) = true := List.any_of_mem hmem (beq_self_eq_true _)
  simp only [State.nrtCheck, decide_eq_true hahead, hany, Bool.and_self, Bool.true_or, if_true]

/-- A connection whose messages in reassembly are all incomplete delivers nothing. -/
theorem State.deliverReady_of_incomplete {s : State} {cid : Nat} {c : Conn} (buf fuel : Nat) (hc : s.conn? cid = some c)
    (hopen : ∀ r ∈ c.reasm, r.complete c.payload = false) : s.deliverReady cid buf fuel = s := by
  have hnone : (c.reasm.find? fun r => r.complete c.payload && !c.isDelivered r.msgId && (!r.ord || r.msgId == c.lowMark)) = none :=
    List.find?_eq_none.mpr fun r hr => by simp [hopen r hr]
  cases fuel with
  | zero => rfl
  | succ n => rw [State.deliverReady, hc]; simp only [hnone]

theorem Conn.live_of_established {c : Conn} (h : c.state = .established) : c.live = true := by rw [Conn.live, h]; rfl

/-- What a packet counted toward the next ACK leaves of its connection (R85). -/
def Conn.counted (c : Conn) (path : Nat) (d : Option Nat) : Conn := { c with unacked := c.unacked + 1, ackPath := path, ackDue := d }

/-- Fewer than 16 packets are counted toward the next ACK (R85). -/
theorem State.ackPolicy_counted {s : State} {cid : Nat} {c : Conn} (path : Nat) (hc : s.conn? cid = some c) (hfew : c.unacked + 1 < 16) :
    ∃ d, s.ackPolicy cid path false = s.setConn (c.counted path d) := by
  refine ⟨some (c.ackDue.getD (s.now + nsU 100 * s.rd F.XPT_TIMER_CFG_ACK_DELAY)), ?_⟩
  unfold State.ackPolicy
  rw [hc]
  simp only [Bool.false_or]
  rw [decide_eq_false (Nat.not_le.mpr hfew), if_neg Bool.false_ne_true]
  rfl

/-- The reassembly entry that the first packet of a SEND begins (R79). -/
def firstPiece (p : NrtPkt) (now : Nat) : Reasm :=
  { msgId := p.msgId, kind := 1, ord := p.ord, ext := p.ext, pieces := [(p.msgOfs, p.payload)], length := none, firstAt := now }

/-- What the first packet of a SEND leaves of a connection with nothing in reassembly, under a credit. -/
def Conn.begun (c : Conn) (p : NrtPkt) (now granted : Nat) : Conn :=
  { c with received := (p.psn, p.msgId) :: c.received, reasm := [firstPiece p now], granted := granted }

/-- The first packet of a SEND that is not its last begins the message's reassembly; it is counted toward the next ACK. -/
theorem State.nrtTake_first {s : State} {c : Conn} {p : NrtPkt} (hc : s.conn? c.cid = some c) (hreasm : c.reasm = [])
    (hfresh : c.isDelivered p.msgId = false) (hkind : p.kind = 1) (hlast : p.last = false) (hackreq : p.ackreq = false)
    (hfew : c.unacked + 1 < 16) (hroom : s.reasmUsed c.role < 8192) :
    ∃ g d, (s.nrtTake c p).conn? c.cid = some ((c.begun p s.now g).counted p.path d) ∧
      (s.nrtTake c p).out = s.out ∧ (s.nrtTake c p).regs = s.regs := by
  have hopen : ∀ r ∈ [firstPiece p s.now], r.complete c.payload = false := by
    intro r hr; rw [List.mem_singleton.mp hr]; rfl
  have hbegun : (s.setConn (c.begun p s.now c.granted)).conn? c.cid = some (c.begun p s.now c.granted) := State.conn?_setConn hc
  obtain ⟨g, hg⟩ := (s.setConn (c.begun p s.now c.granted)).grantCredit_eq (c.begun p s.now c.granted)
  have hgranted : ((s.setConn (c.begun p s.now c.granted)).setConn (c.begun p s.now g)).conn? c.cid = some (c.begun p s.now g) :=
    State.conn?_setConn hbegun
  obtain ⟨d, hd⟩ := State.ackPolicy_counted p.path hgranted hfew
  have htake : s.nrtTake c p =
      ((s.setConn (c.begun p s.now c.granted)).setConn (c.begun p s.now g)).ackPolicy c.cid p.path false := by
    have hdeliver := State.deliverReady_of_incomplete p.buf 1 hbegun hopen
    have hbegin : { c with received := (p.psn, p.msgId) :: c.received, reasm := [firstPiece p s.now] } = c.begun p s.now c.granted := rfl
    rw [firstPiece] at hbegin
    have hcid : (c.begun p s.now c.granted).cid = c.cid := rfl
    unfold State.nrtTake
    simp [hreasm, hfresh, hkind, hlast, hackreq, Nat.not_le.mpr hroom, Reasm.complete, hbegin, hcid, hdeliver, hbegun]
    rw [hg]
    rfl
  rw [htake, hd]
  exact ⟨g, d, State.conn?_setConn hgranted, rfl, rfl⟩

/-- A counter of a role after it counted one more. -/
theorem State.rd_bump_counter (s : State) (k : Nat) : (s.bump ⟨k, 31, 0⟩).rd ⟨k, 31, 0⟩ = (s.rd ⟨k, 31, 0⟩ + 1) % 2 ^ 32 :=
  s.rd_bump_same k

/-- A packet on a connection past HALF-OPEN that owes no SYNC is counted and heard; no path becomes suspect by it. -/
theorem State.exists_nrtNoted {s : State} {c : Conn} (p : NrtPkt) (hc : s.conn? c.cid = some c) (hsync : c.syncPending = none)
    (hstate : c.state ≠ .halfOpen) :
    ∃ ps, s.nrtNoted c p = ((s.bumpX F.XPT_RX_PKT c).setConn (c.heardOn s.now ps), c.heardOn s.now ps) ∧
      ((s.bumpX F.XPT_RX_PKT c).setConn (c.heardOn s.now ps)).conn? c.cid = some (c.heardOn s.now ps) ∧
      ∀ i, ((c.heardOn s.now ps).pathAt i).suspect = (c.pathAt i).suspect := by
  obtain ⟨ps, hps, hsuspect⟩ := c.heard_eq p s.now
  have hnoted := s.nrtNoted_eq c p hsync hstate
  rw [hps] at hnoted
  exact ⟨ps, hnoted, State.conn?_setConn ((State.conn?_eq_of_conns_eq (s.bumpX_conns _ c) c.cid).trans hc), hsuspect⟩

/-- The first packet of a SEND on an established connection: it is noted, and begins the message's reassembly (R79). -/
theorem State.nrtData_first {s : State} {c : Conn} {p : NrtPkt} (hc : s.conn? c.cid = some c) (hstate : c.state = .established)
    (hsync : c.syncPending = none) (hpass : s.nrtCheck c p = .pass) (hreasm : c.reasm = []) (hfresh : c.isDelivered p.msgId = false)
    (hkind : p.kind = 1) (hlast : p.last = false) (hackv : p.ackv = false) (hackreq : p.ackreq = false) (hfew : c.unacked + 1 < 16)
    (hroom : s.reasmUsed c.role < 8192) :
    ∃ ps g d, (s.nrtData c p).conn? c.cid = some (((c.heardOn s.now ps).begun p s.now g).counted p.path d) ∧
      (s.nrtData c p).out = s.out ∧ (s.nrtData c p).rd (F.XPT_RX_PKT c.role) = (s.rd (F.XPT_RX_PKT c.role) + 1) % 2 ^ 32 := by
  obtain ⟨ps, hnoted, hheard, -⟩ := State.exists_nrtNoted p hc hsync (by rw [hstate]; decide)
  have hroom' : ((s.bumpX F.XPT_RX_PKT c).setConn (c.heardOn s.now ps)).reasmUsed c.role < 8192 := by
    refine Nat.lt_of_le_of_lt (State.reasmUsed_setConn_le _ _ _ hreasm) ?_
    rw [State.reasmUsed, State.bumpX_conns]; exact hroom
  obtain ⟨g, d, hconn, hout, hregs⟩ :=
    State.nrtTake_first (c := c.heardOn s.now ps) hheard hreasm hfresh hkind hlast hackreq hfew hroom'
  have hdata : s.nrtData c p = ((s.bumpX F.XPT_RX_PKT c).setConn (c.heardOn s.now ps)).nrtTake (c.heardOn s.now ps) p := by
    have hlive : (c.heardOn s.now ps).live = true := Conn.live_of_established hstate
    generalize hg : @State.nrtData = g
    delta State.nrtData at hg
    subst hg
    beta_reduce
    rw [hpass]
    dsimp only
    rw [hnoted]
    dsimp only
    rw [hlive, hackv, if_pos rfl, if_neg Bool.false_ne_true]
  rw [hdata]
  refine ⟨ps, g, d, ?_, ?_, ?_⟩
  · rw [State.setConn_now, State.bumpX_now] at hconn; exact hconn
  · rw [hout, State.setConn_out, State.bumpX_out]
  · rw [State.rd_eq_of_regs_eq hregs, State.rd_setConn]; exact s.rd_bump_counter _

/-- A duplicate of a message not delivered is counted and acknowledged on its path, and nothing else follows (R86). -/
theorem State.nrtData_dup {s : State} {c : Conn} {p : NrtPkt} (hdup : s.nrtCheck c p = .dup) (hfresh : c.isDelivered p.msgId = false) :
    s.nrtData c p = (s.bumpX F.XPT_DUP c).sendAck c p.path := by
  have hquiet : ∀ u : State, u.answerAgain c p = u := fun u => by
    rw [State.answerAgain, hfresh, Bool.not_false, Bool.true_or, if_pos rfl]
  generalize hg : @State.nrtData = g
  delta State.nrtData at hg
  subst hg
  beta_reduce
  rw [hdup]
  dsimp only
  rw [State.nrtDup, hquiet]

/-- A packet without credit is counted and dropped (R91). -/
theorem State.nrtData_credit {s : State} {c : Conn} {p : NrtPkt} (h : s.nrtCheck c p = .credit) :
    s.nrtData c p = s.bump (F.XPT_DROP_CREDIT c.role) := by
  generalize hg : @State.nrtData = g
  delta State.nrtData at hg
  subst hg
  beta_reduce
  rw [h]
  dsimp only
  rw [State.bumpX]

/-- A packet with a wrong CRC is counted and dropped, before anything else of it is looked at (R72). -/
theorem State.nrtPacket_bad_crc {s : State} {p : NrtPkt} (hport : p.udpPort = s.rd F.XPT_NRT_PORT_UDP_PORT)
    (hen : s.isSet F.XPT_CTX_CFG_NRT_EN = true) (hcrc : p.crc ≠ nrtCrc p.toNrtHdr p.ext p.payload) :
    s.nrtPacket p = s.bump (F.XPT_DROP_CRC (s.xptRole (p.dcid % 2 ^ 18))) := by
  unfold State.nrtPacket
  simp [hport, hen, hcrc]

end Sys2Proof.Machine
end

section
/-!
An ACK of the last packet sent (R83, R84, R87): nothing is unacknowledged any more, and what the acknowledgment settles and lets go on
leaves that so.
-/

namespace Sys2Proof.Machine

/-! ### Cumulative acknowledgment of one packet (R83) -/

/-- What the acknowledgment of all packets sent leaves of a connection. -/
def Conn.allAcked (c : Conn) (cm : List (Nat × OutBody)) (sr : Option Rat) (rv : Rat) (ps : List Path) (limit : Nat) : Conn :=
  { c with una := [], committed := cm, srtt := sr, rttvar := rv, backoff := 0, paths := ps, peerLimit := limit }

/-- A round-trip time sampled changes the estimates and nothing else. -/
theorem Conn.sample_eq (c : Conn) (rtt : Nat) : ∃ sr rv, c.sample rtt = { c with srtt := sr, rttvar := rv } := by
  unfold Conn.sample
  dsimp only
  split <;> exact ⟨_, _, rfl⟩

/-- Windows that grow or are cut change a connection's paths and nothing else. -/
theorem Conn.ackPathWindows_eq (c : Conn) (n : Nat) (acked topOrder marked : Nat → Nat) :
    ∃ ps, (List.range n).foldl (fun c p => c.ackPathWindow p (acked p) (topOrder p) (marked p)) c = { c with paths := ps } :=
  foldl_keeps_of (P := fun x : Conn => ∃ ps, x = { c with paths := ps }) (List.range n)
    (fun _ hx _ _ => by obtain ⟨ps, rfl⟩ := hx; exact ⟨_, rfl⟩) c ⟨c.paths, rfl⟩

/-- Round-trip times sampled change the estimates and nothing else. -/
theorem Conn.samples_eq (c : Conn) (l : List TxPkt) (rtt : TxPkt → Nat) :
    ∃ sr rv, l.foldl (fun (c : Conn) p => c.sample (rtt p)) c = { c with srtt := sr, rttvar := rv } :=
  foldl_keeps_of (P := fun x : Conn => ∃ sr rv, x = { c with srtt := sr, rttvar := rv }) l
    (fun _ hx p _ => by
      obtain ⟨sr, rv, rfl⟩ := hx
      obtain ⟨sr', rv', h⟩ := Conn.sample_eq { c with srtt := sr, rttvar := rv } (rtt p)
      exact ⟨sr', rv', h⟩) c ⟨c.srtt, c.rttvar, rfl⟩

/-- A cumulative point past the only packet unacknowledged leaves none, and none is lost. -/
theorem State.applyAck_all (s : State) {c : Conn} {q : TxPkt} {ackPsn : Nat} (bits : List Nat) (renege : Bool) (echo : Nat × Nat)
    (huna : c.una = [q]) (hq : serialLt q.psn ackPsn = true) :
    ∃ cm sr rv ps, s.applyAck c ackPsn bits renege echo = (c.allAcked cm sr rv ps c.peerLimit, []) := by
  unfold State.applyAck
  extract_lets isAcked newly advanced una open_ gone c1 c2 c3 c4
  have hnone : una = [] := by simp [una, huna, hq]
  have hadv : advanced = true := by simp [advanced, huna, hq]
  obtain ⟨sr, rv, h2⟩ := c1.samples_eq (newly.filter fun p => p.retx == 0) fun p => s.now - p.sentAt
  have h3 : c3 = { c2 with backoff := 0 } := if_pos hadv
  obtain ⟨ps, h4⟩ := c3.ackPathWindows_eq c3.npaths (fun p => (newly.filter fun q => q.path == p).length)
    (fun p => listMax ((newly.filter fun q => q.path == p).map (·.order))) (fun p => if p = echo.1 then echo.2 else 0)
  refine ⟨c1.committed, sr, rv, ps, Prod.ext ?_ ?_⟩
  · show c4 = _
    rw [show c4 = _ from h4, h3, show c2 = _ from h2, Conn.allAcked, ← hnone]
  · show (una.filter _).map _ = []
    rw [hnone]; rfl

/-! ### What an acknowledgment settles (R84) -/

/-- Settling a message changes what is received and settled, and the cumulative point, and nothing else. -/
theorem Conn.advanceAck_eq (n : Nat) (c : Conn) :
    ∃ rc st psn, c.advanceAck n = { c with received := rc, settled := st, rcvPsn := psn } := by
  induction n generalizing c with
  | zero => exact ⟨_, _, _, rfl⟩
  | succ n ih =>
    rw [Conn.advanceAck]
    split
    · next p m _ =>
      split
      · extract_lets rest c1 c2
        have hc2 : ∃ st, c2 = { c1 with settled := st } := by
          unfold c2
          split
          · exact ⟨_, rfl⟩
          · exact ⟨_, rfl⟩
        obtain ⟨st, h2⟩ := hc2
        obtain ⟨rc, st', psn, h⟩ := ih c2
        exact ⟨rc, st', psn, by rw [h, h2]⟩
      · exact ⟨_, _, _, rfl⟩
    · exact ⟨_, _, _, rfl⟩

theorem Conn.settle_eq (c : Conn) (m : Nat) : ∃ rc st psn, c.settle m = { c with received := rc, settled := st, rcvPsn := psn } := by
  unfold Conn.settle
  split
  · exact Conn.advanceAck_eq _ _
  · exact ⟨_, _, _, rfl⟩

/-- All that an established connection sent is acknowledged; no command and no window operation waits; and its role has counted `v`
packets received. -/
def State.AllAcked (cid r v : Nat) (s : State) : Prop :=
  (∃ x, s.conn? cid = some x ∧ x.una = [] ∧ x.state = .established ∧ x.backoff = 0) ∧ s.cmds = [] ∧ s.winops = [] ∧
    s.rd (F.XPT_RX_PKT r) = v

namespace State.AllAcked

variable {s : State} {cid r v : Nat}

theorem of_eq (h : s.AllAcked cid r v) {t : State} (hconns : t.conns = s.conns) (hcmds : t.cmds = s.cmds) (hops : t.winops = s.winops)
    (hrd : t.rd (F.XPT_RX_PKT r) = s.rd (F.XPT_RX_PKT r)) : t.AllAcked cid r v := by
  obtain ⟨hx, hc, ho, hv⟩ := h
  exact ⟨by rw [State.conn?_eq_of_conns_eq hconns]; exact hx, hcmds.trans hc, hops.trans ho, hrd.trans hv⟩

theorem mirror (h : s.AllAcked cid r v) (w : MirrorWhat) (b : MirrorBody) : (s.mirror w b).AllAcked cid r v := by
  obtain ⟨hconns, hcmds, hops, hrd⟩ := s.mirror_keeps w b
  exact h.of_eq hconns hcmds hops (hrd _ (roleKey_ne_of_lt (by decide)))

theorem raiseCeiling (h : s.AllAcked cid r v) (c : Conn) : (s.raiseCeiling c).AllAcked cid r v := by
  obtain hkeep | ⟨w, b, hsent⟩ := s.raiseCeiling_cases c
  · rw [hkeep]; exact h
  · rw [hsent]; exact h.mirror w b

theorem settleMsg (h : s.AllAcked cid r v) (m : Nat) : (s.settleMsg cid m).AllAcked cid r v := by
  obtain ⟨⟨x, hx, huna, hstate, hback⟩, hcmds, hops, hv⟩ := h
  obtain ⟨rc, st, psn, hsettle⟩ := x.settle_eq m
  unfold State.settleMsg
  rw [hx]
  dsimp only
  split
  · exact mirror ⟨⟨x, hx, huna, hstate, hback⟩, hcmds, hops, hv⟩ _ _
  · rw [hsettle]
    exact ⟨⟨_, State.conn?_setConn hx, huna, hstate, hback⟩, hcmds, hops, hv⟩

theorem settleMsgs (h : s.AllAcked cid r v) (l : List Nat) :
    (l.foldl (fun (s : State) m => s.settleMsg cid m) s).AllAcked cid r v :=
  foldl_keeps_of l (fun _ ht m _ => ht.settleMsg m) s h

/-- With no command waiting, no Read meets its condition. -/
theorem readsAcked (h : s.AllAcked cid r v) (cid' : Nat) : (s.readsAcked cid').AllAcked cid r v := by
  have hkeep : s.readsAcked cid' = s := by
    obtain ⟨-, hcmds, -⟩ := h
    unfold State.readsAcked
    split
    · rfl
    · rw [hcmds]; rfl
  rw [hkeep]; exact h

theorem wr {f : Fld} {n : Nat} (h : s.AllAcked cid r v) (hf : f.key < 0x5000000) : (s.wr f n).AllAcked cid r v :=
  h.of_eq (State.wr_conns _ _ _) (State.wr_cmds _ _ _) (State.wr_winops _ _ _) (s.rd_wr_other f _ n (roleKey_ne_of_lt hf))

theorem syncCache (h : s.AllAcked cid r v) : s.syncCache.AllAcked cid r v := by
  unfold State.syncCache
  extract_lets lim s1 s2
  have h2 : s2.AllAcked cid r v := (h.wr (by decide)).wr (by decide)
  split
  · exact h2.wr (by decide)
  · exact h2

/-- With no window operation, only the cache's status is brought in line. -/
theorem winProgress (h : s.AllAcked cid r v) : s.winProgress.AllAcked cid r v := by
  have hops := h.2.2.1
  rw [State.winProgress, hops]
  exact h.syncCache

/-- An ACK at once leaves all that was sent acknowledged. -/
theorem ackNow (h : s.AllAcked cid r v) (path : Nat) :
    ∃ x, (s.ackNow cid path).conn? cid = some x ∧ x.una = [] ∧ x.state = .established ∧ x.backoff = 0 ∧
      (s.ackNow cid path).rd (F.XPT_RX_PKT r) = v := by
  obtain ⟨⟨x, hx, huna, hstate, hback⟩, hcmds, hops, hv⟩ := h
  obtain ⟨g, hg⟩ := s.grantCredit_eq x
  obtain ⟨ps, e, y, hsent⟩ := State.conn?_sendAck (c := { x with granted := g }) path hx
  unfold State.ackNow
  rw [hx]
  dsimp only
  rw [Conn.live_of_established hstate, if_pos rfl, hg]
  refine ⟨_, hsent, huna, hstate, hback, ?_⟩
  exact (State.rd_sendAck _ _ _ _ (roleKey_ne_roleKey (off := 0x1100) (off' := 0x1104) (by decide))).trans hv

end State.AllAcked

/-- Nothing waits, so nothing is sent on. -/
theorem State.goOn_of_idle (s : State) (c : Conn) (hmode : c.mode = .nrt) (hwait : c.waiting = []) :
    s.goOn c = (s.setConn c).raiseCeiling c := by
  have hpump : s.pump c = (s, c) := by rw [State.pump, hwait]; rfl
  unfold State.goOn
  rw [hmode]
  dsimp only
  rw [hpump]

/-- The ACK of the only packet unacknowledged, on an established connection with nothing waiting, leaves all acknowledged. -/
theorem State.nrtAcked_all {s : State} {c : Conn} {p : NrtPkt} {q : TxPkt} (bm : List Nat) (hc : s.conn? c.cid = some c)
    (hmode : c.mode = .nrt) (hstate : c.state = .established) (hwait : c.waiting = []) (huna : c.una = [q]) (hackv : p.ackv = true)
    (hq : serialLt q.psn p.ackPsn = true) (hcmds : s.cmds = []) (hops : s.winops = []) (r : Nat) :
    (s.nrtAcked c p bm).AllAcked c.cid r (s.rd (F.XPT_RX_PKT r)) := by
  obtain ⟨cm, sr, rv, ps, happly⟩ :=
    s.applyAck_all (ackPsn := p.ackPsn) bm (p.renege && (p.typ == 2 || p.typ == 9)) (p.echoPath, p.echoCe) huna hq
  generalize hd : c.allAcked cm sr rv ps (if serialLt c.peerLimit p.msgLimit then p.msgLimit else c.peerLimit) = d
  have hset : ((s.setConn d).raiseCeiling d).AllAcked c.cid r (s.rd (F.XPT_RX_PKT r)) := by
    refine State.AllAcked.raiseCeiling ⟨⟨d, State.conn?_setConn hc ?_ ?_, ?_, ?_, ?_⟩, hcmds, hops, rfl⟩ d <;> subst hd
    · rfl
    · rfl
    · rfl
    · exact hstate
    · rfl
  have hacked : s.nrtAcked c p bm =
      (((c.readsDone d).foldl (fun (s : State) req => s.settleMsg c.cid req) (s.goOn d)).readsAcked c.cid).winProgress := by
    unfold State.nrtAcked
    rw [hackv, if_pos rfl, happly]
    dsimp only
    have hopen : (c.state == .resync) = false := by rw [hstate]; rfl
    simp only [Conn.allAcked, hopen, Bool.false_and, Bool.false_eq_true, if_false]
    rw [if_neg (by simp [State.retriesSpent])]
    subst hd
    rfl
  rw [hacked, s.goOn_of_idle d (by subst hd; exact hmode) (by subst hd; exact hwait)]
  exact ((hset.settleMsgs _).readsAcked _).winProgress

end Sys2Proof.Machine
end

section
/-!
ACK, CLOSE, CLOSED and PROBE on a connection (R75, R83, R85), and the answers to a CONNECT (R72 to R75, R97).
-/

namespace Sys2Proof.Machine

/-- A DATA packet goes by checks 6 to 9. -/
theorem State.nrtOn_data (s : State) (c : Conn) {p : NrtPkt} (htyp : p.typ = 1) : s.nrtOn c p = s.nrtData c p := by
  unfold State.nrtOn
  rw [if_pos htyp]

section Packet

variable {s s1 : State} {c c1 : Conn} {p : NrtPkt} (hnoted : s.nrtNoted c p = (s1, c1))

include hnoted

/-- The CLOSE of a connection that carries messages tears it down, answers CLOSED and frees the index (R75). -/
theorem State.nrtOn_close (htyp : p.typ = 6) (hlive : c1.live = true) :
    s.nrtOn c p = ((s1.connDown c1).nrtBare c1 7).freeConn c1 := by
  unfold State.nrtOn
  rw [htyp, if_neg (by decide), hnoted]
  dsimp only
  rw [if_pos rfl, hlive, Bool.true_or, if_pos rfl]

/-- The CLOSED of a draining connection frees the index (R75). -/
theorem State.nrtOn_closed (htyp : p.typ = 7) (hstate : c1.state = .draining) :
    s.nrtOn c p = (s1.raiseX c1 6 INFO 3 c1.cid).freeConn c1 := by
  unfold State.nrtOn
  rw [htyp, if_neg (by decide), hnoted]
  dsimp only
  rw [if_neg (by decide), if_pos rfl, hstate, if_pos (beq_self_eq_true _)]

/-- A PROBE without an acknowledgment is answered with an ACK (R85). -/
theorem State.nrtOn_probe (htyp : p.typ = 8) (hackv : p.ackv = false) :
    s.nrtOn c p = (s1.setConn c1).ackNow c1.cid p.path := by
  unfold State.nrtOn
  rw [htyp, if_neg (by decide), hnoted, hackv]
  simp

/-- An ACK on a path that is not suspect is applied, and answered when that is asked for (R83, R85). -/
theorem State.nrtOn_ack (htyp : p.typ = 2) (hsuspect : (c1.pathAt p.path).suspect = false) :
    s.nrtOn c p = if p.ackreq then
        ((s1.setConn c1).nrtAckedNow c1.cid p (bitmapBits p.payload (min 512 p.payLen))).ackNow c1.cid p.path
      else (s1.setConn c1).nrtAckedNow c1.cid p (bitmapBits p.payload (min 512 p.payLen)) := by
  have hpath : s1.restorePath c1 p.path = (s1, c1) := by
    rw [State.restorePath, hsuspect, Bool.false_and, if_neg Bool.false_ne_true]
  unfold State.nrtOn
  rw [htyp, if_neg (by decide), hnoted]
  simp [hpath]

/-- The ACK of the only packet unacknowledged, with nothing waiting, leaves all acknowledged (R83). -/
theorem State.nrtOn_ack_all {q : TxPkt} (hc : s1.conn? c1.cid = some c1) (hmode : c1.mode = .nrt) (htyp : p.typ = 2)
    (hstate : c1.state = .established) (hsuspect : (c1.pathAt p.path).suspect = false) (hwait : c1.waiting = []) (huna : c1.una = [q])
    (hackv : p.ackv = true) (hq : serialLt q.psn p.ackPsn = true) (hcmds : s1.cmds = []) (hops : s1.winops = []) (r : Nat) :
    ∃ x, (s.nrtOn c p).conn? c1.cid = some x ∧ x.una = [] ∧ x.state = .established ∧ x.backoff = 0 ∧
      (s.nrtOn c p).rd (F.XPT_RX_PKT r) = s1.rd (F.XPT_RX_PKT r) := by
  have hheard : (s1.setConn c1).conn? c1.cid = some c1 := State.conn?_setConn hc
  have hacked := State.nrtAcked_all (bitmapBits p.payload (min 512 p.payLen)) hheard hmode hstate hwait huna hackv hq
    ((s1.setConn_cmds c1).trans hcmds) ((s1.setConn_winops c1).trans hops) r
  rw [State.rd_setConn] at hacked
  have hnow : ∀ bm, (s1.setConn c1).nrtAckedNow c1.cid p bm = (s1.setConn c1).nrtAcked c1 p bm := fun bm => by
    unfold State.nrtAckedNow
    rw [hheard]
    dsimp only
    rw [Conn.live_of_established hstate, if_pos rfl]
  rw [State.nrtOn_ack hnoted htyp hsuspect, hnow]
  split
  · exact hacked.ackNow p.path
  · obtain ⟨⟨x, hx, huna', hstate', hback⟩, -, -, hv⟩ := hacked
    exact ⟨x, hx, huna', hstate', hback, hv⟩

end Packet

/-! ### Connection management (R72 to R75) -/

/-- A packet without payload goes out last, on the next path. -/
theorem State.nrtBare_out (s : State) (c : Conn) (typ : Nat) :
    ∃ o, (s.nrtBare c typ).out = o :: (s.sendSync c).1.out ∧ isNrt c typ c.resendPath o = true := by
  obtain ⟨d, hd⟩ := s.nrtSend_out c (c.header typ c.resendPath) .none .none
  exact ⟨_, hd, isNrt_header c typ c.resendPath d _ false .none .none⟩

/-- An ACK at once of a connection that carries messages is the newest output. -/
theorem State.isNrt_ackNow {s : State} {cid : Nat} {x c : Conn} (path : Nat) (hx : s.conn? cid = some x) (hlive : x.live = true)
    (ha : x.peerAddr = c.peerAddr := by rfl) (hs : x.sport = c.sport := by rfl) (hp : x.peerCid = c.peerCid := by rfl)
    (hr : x.rcvPsn = c.rcvPsn := by rfl) : (s.ackNow cid path).out.head?.any (isNrt c 2 path) = true := by
  obtain ⟨g, hg⟩ := s.grantCredit_eq x
  unfold State.ackNow
  rw [hx]
  dsimp only
  rw [hlive, if_pos rfl, hg]
  exact State.isNrt_sendAck s path ha hs hp hr

/-- A connection torn down with a CLOSED: its index is freed now, and the CLOSED is among what was sent since. -/
theorem State.tornDown_facts {s s1 : State} (c1 : Conn) (h : s1.After s) :
    (((s1.connDown c1).nrtBare c1 7).freeConn c1).freed.head? = some ⟨c1.index, c1.gen % 63 + 1, s.now⟩ ∧
      (newOut s (((s1.connDown c1).nrtBare c1 7).freeConn c1)).any (isNrt c1 7 c1.resendPath) = true := by
  obtain ⟨o, hout, hclosed⟩ := (s1.connDown c1).nrtBare_out c1 7
  have hdown : (s1.connDown c1).After s := h.connDown
  constructor
  · rw [State.freeConn_freed_head, hdown.nrtBare.now]
  · refine any_newOut_of_sent (hdown.sendSync (c := c1)) ?_ hclosed
    rw [← hout]
    exact (State.After.refl _).freeConn.2

/-- A REFUSE changes no connection and is the newest output. -/
theorem State.sendRefuse_facts (s : State) (p : NrtPkt) (why : Nat) :
    (s.sendRefuse p (parseSetup p.payload) why).conns = s.conns ∧
      ∃ o, (s.sendRefuse p (parseSetup p.payload) why).out = o :: s.out ∧ isRefuse p why o = true := by
  rw [State.sendRefuse, State.bump, State.bumpBy, State.wr_conns, State.wr_out, State.send_conns]
  exact ⟨rfl, _, rfl, by simp [isRefuse]⟩

/-- The `k`-th value drawn next below a bound. -/
def State.drawn (s : State) (k bound : Nat) : Nat := Config.freeValue .unstated (s.freeCount + k) % bound

/-- The connection that a CONNECT makes (R73, R74). -/
def State.accepted (s : State) (p : NrtPkt) (i : Nat) : Conn :=
  { Conn.fresh i (s.nextGen i) .nrt .halfOpen s.now with
    role := s.xptRole i, peerAddr := p.srcAddr, peerCid := (parseSetup p.payload).srcCid, peerSport := (parseSetup p.payload).sportBase,
    sport := 16 * s.drawn 2 4096, npaths := min (parseSetup p.payload).npaths (s.rd F.XPT_CTX_CFG_NPATH_MAX) + 1,
    paths := List.replicate (min (parseSetup p.payload).npaths (s.rd F.XPT_CTX_CFG_NPATH_MAX) + 1) Path.fresh,
    payload := 1024 * 2 ^ (parseSetup p.payload).payload, nonce := (parseSetup p.payload).nonce, rcvPsn := (parseSetup p.payload).initPsn,
    lowMark := (parseSetup p.payload).initMsgId,
    granted := ((parseSetup p.payload).initMsgId + s.rd F.XPT_CTX_CFG_CREDIT_INIT) % 2 ^ 32,
    peerLimit := (parseSetup p.payload).msgLimit, sndPsn := s.drawn 0 (2 ^ 32), sndMsg := s.drawn 1 (2 ^ 32),
    ceiling := s.drawn 0 (2 ^ 32) }

/-- The table with that connection, after the draws for it. -/
def State.joined (s : State) (p : NrtPkt) (i : Nat) : State :=
  { s with freeCount := s.freeCount + 3, conns := s.conns ++ [s.accepted p i] }

@[simp] theorem State.joined_conns (s : State) (p : NrtPkt) (i : Nat) : (s.joined p i).conns = s.conns ++ [s.accepted p i] := rfl

theorem State.After.joined {s b : State} (h : b.After s) (p : NrtPkt) (i : Nat) : (b.joined p i).After s := ⟨h.1, h.2⟩

theorem State.rd_bump_config (s : State) (r off : Nat) (g : Fld) (hg : g.key < 0x5000000) :
    (s.bump ⟨roleKey 0 r off, 31, 0⟩).rd g = s.rd g :=
  s.rd_bump_other _ g (roleKey_ne_of_lt hg).symm

theorem State.onChip_bump (s : State) (f : Fld) (r : Nat) : (s.bump f).onChip r = s.onChip r := by
  rw [State.onChip, State.onChip, State.bump, State.bumpBy, State.wr_conns]

theorem State.xptRole_bump (s : State) (f : Fld) (i : Nat) : (s.bump f).xptRole i = s.xptRole i := by
  rw [State.xptRole, State.xptRole, State.roleCount, State.roleCount, State.bump, State.bumpBy, State.wr_part]

theorem State.nextGen_bump (s : State) (f : Fld) (i : Nat) : (s.bump f).nextGen i = s.nextGen i := by
  rw [State.nextGen, State.nextGen, State.bump, State.bumpBy, State.wr_freed]

theorem State.freeIndex?_bump (s : State) (f : Fld) : (s.bump f).freeIndex? = s.freeIndex? := by
  have hfree : (s.bump f).indexFree = s.indexFree := funext fun i => by
    rw [State.indexFree, State.indexFree, State.now, State.now, State.bump, State.bumpBy, State.wr_conns, State.wr_freed, State.wr_tim]
  rw [State.freeIndex?, State.freeIndex?, hfree, State.bump, State.bumpBy, State.wr_conns, State.wr_freed]

section Connect

variable {s : State} {p : NrtPkt} (hport : p.udpPort = s.rd F.XPT_NRT_PORT_UDP_PORT) (hcrc : p.crc = nrtCrc p.toNrtHdr p.ext p.payload)
  (hver : p.ver = 1) (hdcid : p.dcid = 0)

include hport hcrc hver hdcid

/-- While NRT is off a CONNECT is refused with reason 4 (log entry 43). -/
theorem execNrtConnect_disabled (hen : s.isSet F.XPT_CTX_CFG_NRT_EN = false) :
    execNrtConnect p s = .next (s.sendRefuse p (parseSetup p.payload) 4) := by
  unfold execNrtConnect
  simp [hdcid, hport, hcrc, hver, hen]

/-- A CONNECT in order, with no connection in HALF-OPEN and an index and a place in the bank free, is accepted (R73). -/
theorem execNrtConnect_accepted {i : Nat} (hen : s.isSet F.XPT_CTX_CFG_NRT_EN = true)
    (hquiet : (s.conns.all fun c => c.state != .halfOpen) = true) (hok : connectOk p (parseSetup p.payload) = true)
    (hindex : s.freeIndex? = some i) (hbank : s.onChip (s.xptRole i) < 2048) :
    execNrtConnect p s = .next
      ((((s.bump (F.XPT_RX_PKT 0)).joined p i).sendAccept ((s.bump (F.XPT_RX_PKT 0)).accepted p i) p.srcPort).raiseCeiling
        ((s.bump (F.XPT_RX_PKT 0)).accepted p i)) := by
  have hmine : (s.conns.filter fun c => c.mode == .nrt && c.state == .halfOpen && c.peerAddr == p.srcAddr) = [] := by
    rw [List.filter_eq_nil_iff]
    intro c hc
    have := List.all_eq_true.mp hquiet c hc
    simp_all
  have hindex' : (s.bump (F.XPT_RX_PKT 0)).freeIndex? = some i := (s.freeIndex?_bump _).trans hindex
  have hroom : (s.bump (F.XPT_RX_PKT 0)).makeRoom ((s.bump (F.XPT_RX_PKT 0)).xptRole i) = some (s.bump (F.XPT_RX_PKT 0)) := by
    rw [State.makeRoom, State.onChip_bump, State.xptRole_bump, if_pos hbank]
  unfold execNrtConnect
  simp [hdcid, hport, hcrc, hver, hen, hmine, hok, hindex', hroom]
  rfl

end Connect

/-- The ACCEPT of a connection. -/
def Conn.acceptOut (c : Conn) (srcPort : Nat) : Out :=
  .nrt c.peerAddr c.sport srcPort { c.header 4 0 with ackv := false, psn := 0, payLen := 32 } .none (.setup
    { srcCid := c.cid, initPsn := c.sndPsn, initMsgId := c.sndMsg, msgLimit := c.granted, sportBase := c.sport, npaths := c.npaths - 1,
      payload := if c.payload = 1024 then 0 else if c.payload = 2048 then 1 else 2, nonce := c.nonce, reason := 0, zero := 0 })

theorem State.sendAccept_eq (s : State) (c : Conn) (srcPort : Nat) :
    s.sendAccept c srcPort = (s.send (c.acceptOut srcPort)).bumpX F.XPT_TX_PKT c := rfl

theorem State.sendAccept_conns (s : State) (c : Conn) (srcPort : Nat) : (s.sendAccept c srcPort).conns = s.conns := by
  rw [State.sendAccept_eq, State.bumpX_conns, State.send_conns]

/-- The ACCEPT of a connection is among what was sent since. -/
theorem State.any_newOut_sendAccept {s b : State} (c d : Conn) (srcPort : Nat) {f : Out → Bool} (hb : b.After s)
    (hf : f (c.acceptOut srcPort) = true) : (newOut s ((b.sendAccept c srcPort).raiseCeiling d)).any f = true := by
  refine any_newOut_of_sent hb ?_ hf
  have hout : (b.sendAccept c srcPort).out = c.acceptOut srcPort :: b.out := by
    rw [State.sendAccept_eq, State.bumpX_out]; rfl
  rw [← hout]
  exact (State.After.refl _).raiseCeiling.2

end Sys2Proof.Machine
end

section
/-!
The timers of a connection (R75, R82, R85, R87, R90, R91, R101).
-/

namespace Sys2Proof.Machine

/-- Asking for a round-trip timeout reads the estimates, the backoff and two timer fields. -/
theorem State.rtoOf_sentOn {s t : State} (c : Conn) (ps : List Path) (e : Nat) (y : Option Nat)
    (hmin : t.rd F.XPT_TIMER_CFG_RTO_MIN = s.rd F.XPT_TIMER_CFG_RTO_MIN)
    (hmax : t.rd F.XPT_TIMER_CFG_RTO_MAX = s.rd F.XPT_TIMER_CFG_RTO_MAX) :
    t.rtoOf (c.sentOn ps e y) = s.rtoOf c := by
  rw [State.rtoOf, State.rtoOf, hmin, hmax]; rfl

/-- A path changed is read back changed. -/
theorem Conn.pathAt_updPath {c : Conn} {i : Nat} (f : Path → Path) (h : i < c.paths.length) :
    (c.updPath i f).pathAt i = f (c.pathAt i) := by
  simp [Conn.pathAt, Conn.updPath, List.getD_eq_getElem?_getD, h]

/-- A timeout on a path changes the paths, and raises at most an event. -/
theorem State.pathTimeout_cases (s : State) (c : Conn) (p : Nat) :
    ∃ t ps, s.pathTimeout c p = (t, { c with paths := ps }) ∧ t.After s ∧ t.conns = s.conns ∧
      ∀ r off, 0x28 ≤ off → off < 0x100000 → t.rd ⟨roleKey 0 r off, 31, 0⟩ = s.rd ⟨roleKey 0 r off, 31, 0⟩ := by
  unfold State.pathTimeout
  extract_lets x
  split
  · exact ⟨_, _, rfl, (State.After.refl s).raiseX, State.raise_conns _ _ _ _ _ _,
      fun r off hlow hoff => s.rd_raise_roleKey _ _ _ _ _ hlow hoff⟩
  · exact ⟨_, _, rfl, State.After.refl s, rfl, fun _ _ _ _ => rfl⟩

/-- A packet as it is sent again (R87). -/
def resent (q : TxPkt) (path order now : Nat) : TxPkt :=
  { q with path := path, order := order, sentAt := now, retx := q.retx + 1, laterAcked := 0 }

/-- What sending a packet again leaves of a connection that has only this one unacknowledged. -/
def Conn.resentOn (c : Conn) (q : TxPkt) (ps : List Path) (e : Nat) (y : Option Nat) : Conn :=
  { c.sentOn ps e y with una := [q], order := c.order + 1, nextPath := (c.resendPath + 1) % max 1 c.npaths }

/-- A packet of a message goes out last. -/
theorem State.sendData_out (s : State) (c : Conn) (q : TxPkt) :
    ∃ d h, (s.sendData c q).1.out = .nrt c.peerAddr (c.sport + q.path) d h q.body.ext (.message q.body) :: (s.sendSync c).1.out ∧
      h.typ = 1 ∧ h.psn = q.psn := by
  obtain ⟨d, hd⟩ := s.nrtSend_out c { c.header 1 q.path with
    last := q.last, kind := q.body.kind, psn := q.psn, msgId := q.msgId, msgOfs := q.ofs, payLen := min c.payload (q.body.bytes - q.ofs) }
    q.body.ext (.message q.body)
  exact ⟨d, _, hd, rfl, rfl⟩

/-- The only packet unacknowledged is sent again on the next path and counted (R87). -/
theorem State.resendAll_one (s : State) {c : Conn} {q : TxPkt} (huna : c.una = [q]) :
    ∃ ps e y, s.resendAll c [q.order] =
      ((s.sendData c (resent q c.resendPath c.order s.now)).1.bumpX F.XPT_RETX c,
        c.resentOn (resent q c.resendPath c.order s.now) ps e y) := by
  obtain ⟨ps, e, y, -, hsnd⟩ := s.nrtSend_snd c { c.header 1 c.resendPath with
      last := q.last, kind := q.body.kind, psn := q.psn, msgId := q.msgId, msgOfs := q.ofs, payLen := min c.payload (q.body.bytes - q.ofs) }
    q.body.ext (.message q.body)
  have hdata : (s.sendData c (resent q c.resendPath c.order s.now)).2 = c.sentOn ps e y := hsnd
  refine ⟨ps, e, y, ?_⟩
  rw [State.resendAll, List.foldl_cons, List.foldl_nil]
  have hfind : c.una.find? (fun p => p.order == q.order) = some q := by
    rw [huna]; exact List.find?_cons_of_pos (beq_self_eq_true q.order)
  unfold State.resend
  dsimp only
  rw [hfind]
  dsimp only
  rw [show ({ q with path := c.resendPath, order := c.order, sentAt := s.now, retx := q.retx + 1, laterAcked := 0 } : TxPkt) =
    resent q c.resendPath c.order s.now from rfl, hdata]
  have hone : mapIf (fun x => x.order == q.order) (fun _ => resent q c.resendPath c.order s.now) (c.sentOn ps e y).una =
      [resent q c.resendPath c.order s.now] := by
    rw [show (c.sentOn ps e y).una = [q] from huna]
    simp [mapIf]
  rw [hone]
  rfl

/-- What a first timeout of the only packet unacknowledged does: the backoff doubles, its path counts it, and it is sent again. -/
theorem execRtoExpiry_one {s : State} {cid : Nat} {c : Conn} {q : TxPkt} (hrun : s.running cid = some c) (hmode : c.mode = .nrt)
    (hstate : c.state = .established) (huna : c.una = [q]) (hq : q.acked = false) (hdue : s.due (q.sentAt + s.rtoOf c) = true)
    (hretx : q.retx < s.rd F.XPT_CTX_CFG_RETRY_MAX) :
    ∃ (t : State) (ps : List Path), t.After s ∧ t.conns = s.conns ∧
      (∀ r off, 0x28 ≤ off → off < 0x100000 →
        t.rd ⟨roleKey 0 r off, 31, 0⟩ = (s.bumpX F.XPT_RTO c).rd ⟨roleKey 0 r off, 31, 0⟩) ∧
      execRtoExpiry cid s = .next
        ((t.resendAll { c with paths := ps, backoff := min 32 (c.backoff + 1) } [q.order]).1.setConn
          (t.resendAll { c with paths := ps, backoff := min 32 (c.backoff + 1) } [q.order]).2) := by
  obtain ⟨t, ps, ht, hafter, hconns, hrd⟩ := (s.bumpX F.XPT_RTO c).pathTimeout_cases c q.path
  have hspent : (s.bumpX F.XPT_RTO c).retriesSpent c [q.order] = false := by
    have hmax : (s.bumpX F.XPT_RTO c).rd F.XPT_CTX_CFG_RETRY_MAX = s.rd F.XPT_CTX_CFG_RETRY_MAX :=
      s.rd_bump_other _ _ (roleKey_ne_of_lt (by decide)).symm
    simp [State.retriesSpent, huna, hmax, hretx]
  refine ⟨t, ps, (State.After.refl s).bumpX.trans hafter, hconns.trans (State.bumpX_conns _ _ _), hrd, ?_⟩
  unfold execRtoExpiry
  rw [hrun]
  simp [huna, hq, hdue, hmode, hstate, hspent, ht]

/-! ### A timer that has expired -/

/-- A connection that has forgotten an undelivered message and owes RENEGE (R82). -/
def Conn.reneging (c : Conn) (msgId : Nat) : Conn := { c.forget msgId with renege := true }

/-- The state without the pending writes of a message. -/
def State.dropPends (s : State) (cid msgId : Nat) : State := { s with pends := s.pends.filter fun p => !(p.cid == cid && p.msg == msgId) }

/-- What sending a packet of a message leaves alone. -/
theorem State.sendData_keeps (s : State) (c : Conn) (q : TxPkt) :
    (s.sendData c q).1.conns = s.conns ∧ (s.sendData c q).1.pends = s.pends ∧
      ∀ f : Fld, f.key ≠ (F.XPT_TX_PKT c.role).key → (s.sendData c q).1.rd f = s.rd f :=
  s.nrtSend_keeps c _ _ _

section Expired

variable {s : State} {cid : Nat} {c : Conn} (hrun : s.running cid = some c)

include hrun

/-- A message whose reassembly takes too long is forgotten (R82). -/
theorem execReassemblyTimeout_due {msgId : Nat} {r : Reasm} (hmode : c.mode = .nrt)
    (hfind : c.reasm.find? (fun x => x.msgId == msgId) = some r)
    (hopen : r.complete c.payload = false) (hdue : s.due (r.firstAt + usU 100 * s.rd F.XPT_TIMER_CFG_REASM) = true) :
    execReassemblyTimeout cid msgId s = .next
      (((((s.dropPends cid msgId).setConn (c.reneging msgId)).bumpX F.XPT_REASM_DISCARD (c.reneging msgId)).raiseX (c.reneging msgId)
        7 NOTICE 4 cid).sendAck (c.reneging msgId) (c.reneging msgId).ackPath) := by
  unfold execReassemblyTimeout
  rw [hrun]
  dsimp only
  rw [hfind]
  dsimp only
  rw [hmode, hopen, hdue, if_neg (by decide), State.dropPends, Conn.reneging]

theorem execAckDelayExpiry_due (hdue : s.dueOpt c.ackDue = true) : execAckDelayExpiry cid s = .next (s.sendAck c c.ackPath) := by
  unfold execAckDelayExpiry
  rw [hrun]
  simp [hdue]

/-- A suspect path whose probe is due is probed, and again in 1 ms (R90). -/
theorem execPathProbeTimer_due {path : Nat} (hlt : path < c.npaths) (hsuspect : (c.pathAt path).suspect = true)
    (hdue : s.due (c.pathAt path).probeAt = true) :
    execPathProbeTimer cid path s = .next ((s.nrtSend c (c.header 8 path) .none .none).1.setConn
      ((s.nrtSend c (c.header 8 path) .none .none).2.updPath path fun x => { x with probeAt := s.now + msU 1, probeOut := true })) := by
  have hnow : (s.nrtSend c (c.header 8 path) .none .none).1.now = s.now := (State.After.refl s).nrtSend.now
  unfold execPathProbeTimer
  rw [hrun]
  simp [hlt, hsuspect, hdue, hnow]

/-- A sender without credit probes when its probe is due (R91). -/
theorem execCreditProbeTimer_due (hmode : c.mode = .nrt) (hstate : c.state = .established ∨ c.state = .resync)
    (hspent : serialLt c.sndMsg c.peerLimit = false) (hdue : s.due c.creditProbeAt = true) :
    execCreditProbeTimer cid s = .next ((s.nrtSend c (c.header 8 c.resendPath) .none .none).1.setConn
      { (s.nrtSend c (c.header 8 c.resendPath) .none .none).2 with creditProbeAt := s.now + s.rtoOf c }) := by
  have hnow : (s.nrtSend c (c.header 8 c.resendPath) .none .none).1.now = s.now := (State.After.refl s).nrtSend.now
  have hlive : c.live = true := by
    obtain h | h := hstate
    · exact Conn.live_of_established h
    · rw [Conn.live, h]; rfl
  have hrto : (s.nrtSend c (c.header 8 c.resendPath) .none .none).1.rtoOf (s.nrtSend c (c.header 8 c.resendPath) .none .none).2 =
      s.rtoOf c := by
    obtain ⟨ps, e, y, -, hsnd⟩ := s.nrtSend_snd c (c.header 8 c.resendPath) .none .none
    obtain ⟨-, -, hrd⟩ := s.nrtSend_keeps c (c.header 8 c.resendPath) .none .none
    rw [hsnd]
    exact State.rtoOf_sentOn c ps e y (hrd _ (roleKey_ne_of_lt (by decide)).symm) (hrd _ (roleKey_ne_of_lt (by decide)).symm)
  unfold execCreditProbeTimer
  rw [hrun]
  simp [hmode, hlive, hspent, hdue, hnow, hrto]

theorem execHalfOpenTimeout_due (hmode : c.mode = .nrt) (hstate : c.state = .halfOpen) (hdue : s.due (c.since + msU 10) = true) :
    execHalfOpenTimeout cid s = .next (s.freeConn c) := by
  unfold execHalfOpenTimeout
  rw [hrun]
  simp [hmode, hstate, hdue]

theorem execErrorHoldExpiry_due (hmode : c.mode = .nrt) (hstate : c.state = .error) (hdue : s.due (c.since + msU 1) = true) :
    execErrorHoldExpiry cid s = .next (s.freeConn c) := by
  unfold execErrorHoldExpiry
  rw [hrun]
  simp [hmode, hstate, hdue]

/-- CLOSE is sent 3 times; then the index is freed (R75). -/
theorem execCloseRetryExpiry_due (hmode : c.mode = .nrt) (hstate : c.state = .draining)
    (hdue : s.due (c.closeAt + usU 100 * s.rd F.XPT_TIMER_CFG_RTO_MAX) = true) :
    execCloseRetryExpiry cid s = .next (if 3 ≤ c.closeSent then (s.raiseX c 6 INFO 3 cid).freeConn c
      else (s.nrtBare c 6).setConn { c with closeSent := c.closeSent + 1, closeAt := s.now }) := by
  unfold execCloseRetryExpiry
  rw [hrun]
  simp [hmode, hstate, hdue]

/-- The connection that has forgotten a message is in the table while the discard is counted and raised. -/
theorem State.conn?_discarded (msgId : Nat) :
    ((((s.dropPends cid msgId).setConn (c.reneging msgId)).bumpX F.XPT_REASM_DISCARD (c.reneging msgId)).raiseX (c.reneging msgId)
      7 NOTICE 4 cid).conn? cid = some (c.reneging msgId) := by
  obtain ⟨hc, -⟩ := State.conn?_of_running hrun
  have hdropped : (s.dropPends cid msgId).conn? cid = some c := hc
  have hconns : ((((s.dropPends cid msgId).setConn (c.reneging msgId)).bumpX F.XPT_REASM_DISCARD (c.reneging msgId)).raiseX
      (c.reneging msgId) 7 NOTICE 4 cid).conns = ((s.dropPends cid msgId).setConn (c.reneging msgId)).conns := by
    rw [State.raiseX, State.raise_conns, State.bumpX_conns]
  exact (State.conn?_eq_of_conns_eq hconns cid).trans (State.conn?_setConn hdropped)

end Expired

/-- The SYNC that a connection in the bank owes goes out at its deadline (R101). -/
theorem execSyncDeadline_due {s : State} {cid d : Nat} {c : Conn} (hrun : s.running cid = some c) (hsync : c.syncPending = some d)
    (hdue : s.due d = true) : execSyncDeadline cid s = .next ((s.sendSync c).1.setConn (s.sendSync c).2) := by
  obtain ⟨hc, hbank⟩ := State.conn?_of_running hrun
  have hcome : s.dueOpt c.syncPending = true := by rw [hsync]; exact hdue
  unfold execSyncDeadline
  rw [hc]
  simp [hcome, hbank]

end Sys2Proof.Machine
end

section
/-! O15: the native transport, each packet and timer by its lemma. -/

namespace Sys2Proof

open Machine

/-- Settles O15: a packet that passes its checks is reduced to what its type does on the connection, an expired timer to what it does,
and each effect is read from the state operations that make it. -/
theorem nativeTransport : Obligations.NativeTransport := by
  unfold Obligations.NativeTransport
  refine ⟨?badCrc, ?firstData, ?duplicate, ?noCredit, ?ack, ?connect, ?refused, ?close, ?closed, ?probe, ?reassembly, ?ackDelay, ?rto,
    ?pathProbe, ?creditProbe, ?halfOpen, ?errorHold, ?closeRetry, ?closeSpent, ?sync⟩
  case badCrc =>
    intro s p hport hen hcrc
    rw [← asType_udpPort p 1] at hport
    refine .of_exec (congrArg Host.Outcome.next (State.nrtPacket_bad_crc hport hen (by rw [asType_ext, asType_payload]; exact hcrc))) ?_
    rw [asType_dcid]
    exact ⟨s.rd_bump_counter _, State.wr_conns _ _ _, State.wr_out _ _ _⟩
  case firstData =>
    intro s p c hfrom hstate hsync hepoch hreasm hrecv hahead hlow hgrant hdeliv hkind hext hlast hackv hackreq hfew hnew hsize hroom
    obtain ⟨htype, hpacket, hc, -⟩ := nrtFrom_facts hfrom
    have hfresh : c.isDelivered p.msgId = false := by rw [Conn.isDelivered, hlow, hdeliv]; rfl
    rw [htype] at hsize
    rw [State.nrtOn_data s c rfl] at hpacket
    obtain ⟨ps, g, d, hconn, hout, hrd⟩ := State.nrtData_first (p := { p with typ := 1 }) hc hstate hsync
      (State.nrtCheck_of_send hrecv hahead hnew hepoch hsync hlow hgrant hsize hkind) hreasm hfresh hkind hlast hackv hackreq hfew hroom
    refine .of_exec (congrArg Host.Outcome.next hpacket) ⟨?_, hrd, hout⟩
    rw [hconn]
    simp [Conn.counted, Conn.begun, Conn.heardOn, firstPiece, hrecv]
  case duplicate =>
    intro s p c hfrom hsync hahead hmem hfresh
    obtain ⟨-, hpacket, hc, -⟩ := nrtFrom_facts hfrom
    rw [State.nrtOn_data s c rfl] at hpacket
    have hdup : s.nrtData c { p with typ := 1 } = (s.bumpX F.XPT_DUP c).sendAck c p.path :=
      State.nrtData_dup (State.nrtCheck_of_received s c { p with typ := 1 } hahead hmem) hfresh
    obtain ⟨ps, e, y, hconn⟩ :=
      State.conn?_sendAck p.path ((State.conn?_eq_of_conns_eq (s.bumpX_conns F.XPT_DUP c) c.cid).trans hc)
    refine .of_exec (congrArg Host.Outcome.next (hpacket.trans hdup)) ⟨?_, ?_, ?_⟩
    · rw [State.rd_sendAck _ _ _ _ (roleKey_ne_roleKey (off := 0x1118) (off' := 0x1104) (by decide))]
      exact s.rd_bump_counter _
    · exact State.isNrt_sendAck _ p.path
    · rw [hconn]
      simp [Conn.ackSent, Conn.sentOn]
  case noCredit =>
    intro s p c hfrom hrecv hsync hepoch hahead hnew hcredit
    obtain ⟨-, hpacket, -, -⟩ := nrtFrom_facts hfrom
    rw [State.nrtOn_data s c rfl] at hpacket
    have hdrop : s.nrtData c { p with typ := 1 } = s.bump (F.XPT_DROP_CREDIT c.role) :=
      State.nrtData_credit (State.nrtCheck_of_no_credit (p := { p with typ := 1 }) hrecv hahead hnew hepoch hsync hcredit)
    exact .of_exec (congrArg Host.Outcome.next (hpacket.trans hdrop)) rfl
  case ack =>
    intro s p c q hfrom hstate hsync hsuspect hwait huna hackv hq hcmds hops
    obtain ⟨-, hpacket, hc, hmode⟩ := nrtFrom_facts hfrom
    obtain ⟨ps, hnoted, hheard, hsame⟩ := State.exists_nrtNoted { p with typ := 2 } hc hsync (by rw [hstate]; decide)
    have hcid : (c.heardOn s.now ps).cid = c.cid := rfl
    obtain ⟨x, hx, hnone, hest, hback, hrd⟩ := State.nrtOn_ack_all hnoted (by rw [hcid]; exact hheard) hmode rfl hstate
      ((hsame _).trans hsuspect) hwait huna hackv hq ((State.setConn_cmds _ _).trans ((State.bumpX_cmds _ _ _).trans hcmds))
      ((State.setConn_winops _ _).trans ((State.bumpX_winops _ _ _).trans hops)) c.role
    rw [hcid] at hx
    refine .of_exec (congrArg Host.Outcome.next hpacket) ⟨?_, ?_⟩
    · rw [hx]
      simp [hnone, hest, hback]
    · rw [hrd, State.rd_setConn]
      exact s.rd_bump_counter _
  case connect =>
    intro s p i hport hcrc hver hdcid hen hquiet hok hindex hbank
    have hexec := execNrtConnect_accepted hport hcrc hver hdcid hen hquiet hok hindex hbank
    have hgen := s.nextGen_bump (F.XPT_RX_PKT 0) i
    have hpaths : (s.bump (F.XPT_RX_PKT 0)).rd F.XPT_CTX_CFG_NPATH_MAX = s.rd F.XPT_CTX_CFG_NPATH_MAX :=
      s.rd_bump_config 0 0x1100 _ (by decide)
    have hsame := s.bump_conns (F.XPT_RX_PKT 0)
    have hafter : (s.bump (F.XPT_RX_PKT 0)).After s := (State.After.refl s).bump
    generalize s.bump (F.XPT_RX_PKT 0) = b at hexec hgen hpaths hsame hafter
    have hconns : (((b.joined p i).sendAccept (b.accepted p i) p.srcPort).raiseCeiling (b.accepted p i)).conns =
        s.conns ++ [b.accepted p i] := by
      rw [State.raiseCeiling_conns, State.sendAccept_conns, State.joined_conns, hsame]
    refine .of_exec hexec ?_
    rw [hconns, List.getLast?_concat, Option.any_some, Option.any_some]
    refine ⟨by simp, List.take_left' rfl, ?_, State.any_newOut_sendAccept _ _ _ (hafter.joined p i) ?_⟩
    · simp [State.accepted, Conn.fresh, hgen, hpaths]
    · simp [Conn.acceptOut, Conn.header, State.accepted, Conn.fresh]
  case refused =>
    intro s p hport hcrc hver hdcid hen
    obtain ⟨hconns, o, hout, hrefuse⟩ := s.sendRefuse_facts p 4
    refine .of_exec (execNrtConnect_disabled hport hcrc hver hdcid hen) ⟨hconns, ?_, ?_⟩
    · rw [hout]; exact hrefuse
    · rw [hout, List.length_cons]
  case close =>
    intro s p c hfrom hstate hsync
    obtain ⟨-, hpacket, hc, -⟩ := nrtFrom_facts hfrom
    obtain ⟨ps, hnoted, -, hsame⟩ := State.exists_nrtNoted { p with typ := 6 } hc hsync (by rw [hstate]; decide)
    have hclose := State.nrtOn_close hnoted rfl (Conn.live_of_established hstate)
    have hafter : ((s.bumpX F.XPT_RX_PKT c).setConn (c.heardOn s.now ps)).After s := (State.After.refl s).bumpX.setConn
    obtain ⟨hfreed, hsent⟩ := State.tornDown_facts (c.heardOn s.now ps) hafter
    refine .of_exec (congrArg Host.Outcome.next (hpacket.trans hclose)) ⟨?_, hfreed, ?_⟩
    · exact State.freeConn_conns_all _ (c.heardOn s.now ps)
    · rw [c.resendPath_heardOn s.now ps hsame] at hsent
      exact hsent
  case closed =>
    intro s p c hfrom hstate hsync
    obtain ⟨-, hpacket, hc, -⟩ := nrtFrom_facts hfrom
    obtain ⟨ps, hnoted, -, -⟩ := State.exists_nrtNoted { p with typ := 7 } hc hsync (by rw [hstate]; decide)
    have hclosed := State.nrtOn_closed hnoted rfl hstate
    have hafter : (((s.bumpX F.XPT_RX_PKT c).setConn (c.heardOn s.now ps)).raiseX (c.heardOn s.now ps) 6 INFO 3
        (c.heardOn s.now ps).cid).After s :=
      (State.After.refl s).bumpX.setConn.raiseX
    refine .of_exec (congrArg Host.Outcome.next (hpacket.trans hclosed)) ⟨?_, ?_⟩
    · exact State.freeConn_conns_all _ (c.heardOn s.now ps)
    · rw [State.freeConn_freed_head, hafter.now]
      rfl
  case probe =>
    intro s p c hfrom hstate hsync hackv
    obtain ⟨-, hpacket, hc, -⟩ := nrtFrom_facts hfrom
    obtain ⟨ps, hnoted, hheard, -⟩ := State.exists_nrtNoted { p with typ := 8 } hc hsync (by rw [hstate]; decide)
    have hprobe := State.nrtOn_probe hnoted rfl hackv
    refine .of_exec (congrArg Host.Outcome.next (hpacket.trans hprobe)) ?_
    exact State.isNrt_ackNow p.path (State.conn?_setConn hheard) (Conn.live_of_established hstate)
  case reassembly =>
    intro s cid msgId c r hrun hmode hfind hopen hdue
    have hafter : (((s.dropPends cid msgId).setConn (c.reneging msgId)).bumpX F.XPT_REASM_DISCARD (c.reneging msgId)).raiseX
        (c.reneging msgId) 7 NOTICE 4 cid |>.After s := (State.After.refl s).of_eq.setConn.bumpX.raiseX
    have hconn := State.conn?_discarded hrun msgId
    refine .of_exec (execReassemblyTimeout_due hrun hmode hfind hopen hdue) ⟨?_, ?_, ?_, ?_⟩
    · obtain ⟨ps, e, y, hsent⟩ := State.conn?_sendAck (c.reneging msgId).ackPath hconn
      rw [hsent]
      simp [Conn.ackSent, Conn.sentOn, Conn.reneging, Conn.forget]
    · rw [State.sendAck_pends, State.raiseX, State.raise_pends, State.bumpX_pends, State.setConn_pends, State.dropPends]
      exact List.all_eq_true.mpr fun y hy => (List.mem_filter.mp hy).2
    · rw [State.rd_sendAck _ _ _ _ (roleKey_ne_roleKey (off := 0x1124) (off' := 0x1104) (by decide))]
      exact (State.rd_raise_roleKey _ _ _ _ _ _ (by decide) (by decide)).trans (State.rd_bump_counter _ _)
    · refine State.any_newOut_sendAck hafter (c.reneging msgId) _ fun d n => ?_
      simp [isNrt, Conn.ackHeader, Conn.header, Conn.reneging, Conn.forget]
  case ackDelay =>
    intro s cid c hrun hdue
    obtain ⟨ps, e, y, hconn⟩ := State.conn?_sendAck c.ackPath (State.conn?_of_running hrun).1
    refine .of_exec (execAckDelayExpiry_due hrun hdue) ⟨s.isNrt_sendAck c.ackPath, ?_⟩
    rw [hconn]
    simp [Conn.ackSent]
  case rto =>
    intro s cid c q hrun hmode hstate huna hq hdue hretx
    obtain ⟨t, ps, hafter, hconns, hrd, hexec⟩ := execRtoExpiry_one hrun hmode hstate huna hq hdue hretx
    obtain ⟨ps', e, y, hresend⟩ := t.resendAll_one (c := { c with paths := ps, backoff := min 32 (c.backoff + 1) }) huna
    rw [hresend] at hexec
    generalize hd : ({ c with paths := ps, backoff := min 32 (c.backoff + 1) } : Conn) = d at hexec
    obtain ⟨hsentConns, -, hsentRd⟩ := State.sendData_keeps t d (resent q d.resendPath d.order t.now)
    have hnow : t.now = s.now := hafter.now
    have hconn : ((t.sendData d (resent q d.resendPath d.order t.now)).1.bumpX F.XPT_RETX d).conn? cid = some c := by
      rw [State.conn?_eq_of_conns_eq ((State.bumpX_conns _ _ _).trans (hsentConns.trans hconns))]
      exact (State.conn?_of_running hrun).1
    have hrole : d.role = c.role := by rw [← hd]
    refine .of_exec hexec ⟨?_, ?_, ?_, ?_⟩
    · rw [State.conn?_setConn hconn (by rw [← hd]; rfl) (by rw [← hd]; rfl), ← hd]
      simp [Conn.resentOn, Conn.sentOn, resent, hnow]
    · rw [State.rd_setConn, State.bumpX, State.rd_bump_other _ _ _ (roleKey_ne_roleKey (off := 0x112c) (off' := 0x1128) (by decide)),
        hsentRd _ (roleKey_ne_roleKey (off := 0x112c) (off' := 0x1104) (by decide))]
      exact (hrd c.role 0x112c (by decide) (by decide)).trans (s.rd_bump_counter _)
    · rw [State.rd_setConn, State.bumpX, hrole]
      refine (State.rd_bump_counter _ _).trans ?_
      rw [hsentRd _ (roleKey_ne_roleKey (off := 0x1128) (off' := 0x1104) (by decide)), hrd c.role 0x1128 (by decide) (by decide),
        State.bumpX, State.rd_bump_other _ _ _ (roleKey_ne_roleKey (off := 0x1128) (off' := 0x112c) (by decide))]
      rfl
    · obtain ⟨u, h, hout, htyp, hpsn⟩ := t.sendData_out d (resent q d.resendPath d.order t.now)
      refine any_newOut_of_newest (hafter.sendSync (c := d)) hout ?_
      simp [htyp, hpsn, resent]
  case pathProbe =>
    intro s cid path c hrun hlt hlen hsuspect hdue
    refine .of_exec (execPathProbeTimer_due hrun hlt hsuspect hdue) ⟨?_, ?_⟩
    · rw [State.setConn_out]
      exact s.isNrt_nrtSend c 8 path .none .none
    · obtain ⟨ps, e, y, hps, hsnd⟩ := s.nrtSend_snd c (c.header 8 path) .none .none
      have hconn := State.conn?_nrtSend c (c.header 8 path) .none .none (State.conn?_of_running hrun).1
      rw [hsnd, State.conn?_setConn hconn, Option.any_some, Conn.pathAt_updPath]
      · simp
      · rw [show (c.sentOn ps e y).paths = ps from rfl, hps]
        exact hlen
  case creditProbe =>
    intro s cid c hrun hmode hstate hspent hdue
    refine .of_exec (execCreditProbeTimer_due hrun hmode hstate hspent hdue) ⟨?_, ?_⟩
    · rw [State.setConn_out]
      exact s.isNrt_nrtSend c 8 c.resendPath .none .none
    · obtain ⟨ps, e, y, -, hsnd⟩ := s.nrtSend_snd c (c.header 8 c.resendPath) .none .none
      have hconn := State.conn?_nrtSend c (c.header 8 c.resendPath) .none .none (State.conn?_of_running hrun).1
      rw [hsnd, State.conn?_setConn hconn]
      simp
  case halfOpen =>
    intro s cid c hrun hmode hstate hdue
    exact .of_exec (execHalfOpenTimeout_due hrun hmode hstate hdue) ⟨s.freeConn_conns c, s.freeConn_freed_head c⟩
  case errorHold =>
    intro s cid c hrun hmode hstate hdue
    exact .of_exec (execErrorHoldExpiry_due hrun hmode hstate hdue) ⟨s.freeConn_conns c, s.freeConn_freed_head c⟩
  case closeRetry =>
    intro s cid c hrun hmode hstate hdue hfew
    have hexec := execCloseRetryExpiry_due hrun hmode hstate hdue
    rw [if_neg (Nat.not_le.mpr hfew)] at hexec
    refine .of_exec hexec ⟨?_, ?_⟩
    · rw [State.setConn_out]
      exact s.isNrt_nrtSend c 6 c.resendPath .none .none
    · have hconn := State.conn?_nrtSend c (c.header 6 c.resendPath) .none .none (State.conn?_of_running hrun).1
      rw [State.nrtBare, State.conn?_setConn hconn]
      simp
  case closeSpent =>
    intro s cid c hrun hmode hstate hdue hspent
    have hexec := execCloseRetryExpiry_due hrun hmode hstate hdue
    rw [if_pos hspent] at hexec
    refine .of_exec hexec ⟨?_, ?_⟩
    · rw [State.freeConn_conns, State.raiseX, State.raise_conns]
    · rw [State.freeConn_freed_head, (State.After.refl s).raiseX.now]
  case sync =>
    intro s cid c d hrun hsync hdue
    refine .of_exec (execSyncDeadline_due hrun hsync hdue) ⟨?_, ?_⟩
    · obtain ⟨u, n, hout⟩ := s.sendSync_out hsync
      rw [State.setConn_out, hout]
      simp [isNrt, Conn.header]
    · obtain ⟨ps, hsnd⟩ := s.sendSync_snd_of_owed hsync
      obtain ⟨hconns, -⟩ := s.sendSync_keeps c
      have hconn := (State.conn?_eq_of_conns_eq hconns cid).trans (State.conn?_of_running hrun).1
      rw [hsnd, State.conn?_setConn hconn]
      simp [Conn.sentOn]

end Sys2Proof
end

section
/-!
Window reads and the cache's counters (R116, R206, R381; Table MEM-10): a read that missed, whose line was filled for it before its
ceilings permitted it, then O17.
-/

namespace Sys2Proof.Machine

/-- An established connection of a host's I/O queue. -/
def readingConn : Conn :=
  { Conn.fresh 1 1 .nrt .established 0 with peerAddr := 11, peerCid := 5, peerLimit := 100, queue := some (3, 1) }

/-- The first block's line as its fill left it: valid and clean. -/
def filledLine : Line :=
  { nsid := 1, lba := 0, valid := true, data := 7, dirty := false, dirtyAt := 0, dur := 0, filling := false, ver := 0, wb := none, wbVer := 0,
    redirtied := false, wbMet := false, wbq := false }

/-- The read that started that fill, of the block's first 8 bytes, which its ceilings withhold until 4000 (R206). -/
def missedRead : WinOp :=
  { id := 0, cid := readingConn.cid, msg := 9, key := 1, nsid := 1, dur := 0, byte := 0, len := 8, kind := .read, ord := false,
    readyAt := 4000, sent := false, mirrored := true, visible := false, needs := [], original := 0, respMsg := none, failed := false,
    acked := false, filled := [(1, 0)] }

/-- A serving unit at the time 4000 with that connection, its window, the read and the line, whose cache is on. -/
def missedState : State :=
  let s : State := { State.reset with
    tim := { Tim.cold with count := 4000 }, conns := [readingConn], ctrls := [hostCtrl], nss := [readyNamespace],
    windows := [tenBlockWindow], lines := [filledLine], winops := [missedRead], nextOp := 1 }
  ((s.wr F.TIM_STAT_SERVING 1).wr F.MEM_CACHE_CTL_EN 1).wr F.MEM_MISS 1

/-- The outcome has counted no hit. -/
def countsNoHit (o : Host.Outcome State Fault Refusal) : Bool :=
  match o with
  | .next t => t.rd F.MEM_HIT == 0
  | _ => false

end Sys2Proof.Machine

namespace Sys2Proof

open Machine

/-- Refutes O17: a window read whose line had to be filled for it was a miss (R381), so it is answered when its ceilings permit it and
does not count in MEM_HIT (Table MEM-10; log entry 146). -/
theorem not_windowsAndCache : ¬Obligations.WindowsAndCache := by
  rintro ⟨-, -, -, -, -, -, hread, -⟩
  obtain ⟨t, hexec, -, hcounted⟩ := hread missedState missedRead.id missedRead readingConn filledLine (1, 0) rfl rfl rfl rfl rfl
    (by decide) rfl rfl rfl rfl rfl (by decide) rfl
  have hno : countsNoHit (exec (.windowCeilingEligible missedRead.id) missedState) = true := by decide +kernel
  have hbefore : missedState.rd F.MEM_HIT = 0 := by decide
  rw [hexec, countsNoHit, hcounted, hbefore] at hno
  exact absurd hno (by decide)

end Sys2Proof
end

section
/-!
I/O commands (R130, R146, R154): a Flush of every namespace whose conditions are met and that covers one namespace only, then O18.
-/

namespace Sys2Proof.Machine

/-- A controller of an identified host with an I/O queue on the connection `readingConn`. -/
def ioCtrl : Ctrl := { hostCtrl with queues := [Queue.fresh 1 64 (some readingConn.cid) false] }

/-- A Flush of every namespace on that queue (R154). -/
def flushAll : NvmeCmd := { commitOrder with qid := 1, opc := 0x00, nsid := 0xFFFFFFFF }

/-- That Flush in flight, its conditions met. -/
def metFlush : Cmd :=
  { id := 1, nv := flushAll, ident := some 0, at_ := 0, readyAt := 0, ordered := false, phase := .met, toFetch := 0, pieces := [],
    blocks := [], unplaced := [], stripes := [], dirtyWait := [], got := [], placing := false, paging := false, waited := false, bytes := 0,
    result := some (0, 0, 0, 0), respMsg := none, flushFor := [], recsLeft := [], opMark := 0 }

/-- A serving unit with that command, where namespace 1 alone is attached to its controller. -/
def flushingState : State :=
  let s : State := { State.reset with
    conns := [readingConn], ctrls := [ioCtrl], nss := [readyNamespace], cmds := [metFlush], nextCmd := 2 }
  (s.wr F.TIM_STAT_SERVING 1).wr F.HAL_PAIR_STAT_ROLE 1

/-- The Flush has the role of namespace 1 (R130), and its NSID gives another. -/
theorem cmdRoles_flushAll : flushingState.cmdRoles flushAll = [1] ∧ cmdRole flushAll = 3 := by decide +kernel

/-- The outcome has counted as many completions at two CMD roles as given. -/
def countsDone (r m r' n : Nat) (o : Host.Outcome State Fault Refusal) : Bool :=
  match o with
  | .next t => t.rd (F.CMD_DONE r) == m && t.rd (F.CMD_DONE r') == n
  | _ => false

end Sys2Proof.Machine

namespace Sys2Proof

open Machine

/-- Refutes O18: a Flush of every namespace belongs to the roles of the namespaces it covers (R130) and its completion is counted there,
here at role 1; role 3, that of its NSID FFFFFFFFh, counts nothing. -/
theorem not_ioCommands : ¬Obligations.IoCommands := by
  rintro ⟨-, -, -, -, -, -, -, -, -, -, hcompletion, -⟩
  obtain ⟨t, hexec, -, -, hcounted⟩ := hcompletion flushingState metFlush.id metFlush 0 St.ok (by decide +kernel) (by decide +kernel)
    (by decide +kernel) rfl rfl rfl rfl rfl rfl (by decide +kernel)
  have hdone : countsDone 1 1 3 0 (exec (.commandCompletion metFlush.id) flushingState) = true := by decide +kernel
  have hbefore : flushingState.rd (F.CMD_DONE 3) = 0 := by decide +kernel
  rw [hexec, countsDone, Bool.and_eq_true, beq_iff_eq, beq_iff_eq] at hdone
  obtain ⟨-, hnone⟩ := hdone
  obtain ⟨-, hrole : cmdRole metFlush.nv = 3⟩ := cmdRoles_flushAll
  rw [hrole, hnone, hbefore] at hcounted
  exact absurd hcounted (by decide)

end Sys2Proof
end

section
/-!
Shutdown (R155, R158, Table CMD-7): a Write that runs on after an earlier reset of its controller is in flight when the controller that now
has the index is shut down, then O21.
-/

namespace Sys2Proof.Machine

/-- While a command runs on that an earlier reset left to a controller, its shutdown does not complete. -/
theorem exec_shutdownComplete_runningOn (s : State) (ctl : Nat) (h : s.cmds.any (fun c => c.nv.ctl == 4294967296 + ctl) = true) :
    exec (.shutdownComplete ctl) s = .next s := by
  obtain ⟨c, hc, hctl⟩ := List.any_eq_true.1 h
  have hbusy : (s.cmds.any fun c => c.nv.ctl == ctl || c.nv.ctl == 4294967296 + ctl) = true :=
    List.any_eq_true.2 ⟨c, hc, by rw [hctl, Bool.or_true]⟩
  change execShutdownComplete ctl s = _
  cases hk : s.ctrl? ctl <;> simp [execShutdownComplete, hk, hbusy]

/-- A dispatched Write that ran on when its controller was reset: it belongs to no controller any more (Table CMD-7). -/
def ranOnWrite : Cmd :=
  { metFlush with nv := { flushAll with ctl := 4294967296 + 3, opc := 0x01, nsid := 1 }, phase := .dispatched, result := none }

/-- The controller that has the index now, with a normal shutdown begun (CSTS.SHST is 01b). -/
def closingCtrl : Ctrl := { hostCtrl with shutdown := true, csts := 5 }

/-- A unit with that controller and that Write. -/
def closingState : State := { State.reset with ctrls := [closingCtrl], nss := [readyNamespace], cmds := [ranOnWrite], nextCmd := 2 }

end Sys2Proof.Machine

namespace Sys2Proof

open Machine

/-- Refutes O21: a Write that runs on after a reset of controller 3 is in flight still, so the shutdown of the controller 3 made after
it does not complete (R158), although no command bears the controller's own index. -/
theorem not_adminCommands : ¬Obligations.AdminCommands := by
  rintro ⟨-, -, -, -, -, -, -, -, -, -, -, hshutdown⟩
  obtain ⟨t, hexec, hcomplete⟩ := hshutdown closingState 3 closingCtrl rfl rfl (by decide) (by decide)
  rw [exec_shutdownComplete_runningOn closingState 3 (by decide)] at hexec
  cases hexec
  exact absurd hcomplete (by decide)

end Sys2Proof
end

section
/-!
The direction of an admin command's data (R139; log entry 123): `adminFits` and `adminReady` test the data description for the opcode that
the capsule carries, the rows of Authentication Receive and Get Log Page for their own, whose data go to the host and cannot lie in the
capsule. Then O20 and O22.
-/

namespace Sys2Proof.Machine

/-- A host identity that authenticates (R179). -/
def authIdent : Ident :=
  { index := 0, nqn := 21, hostId := 22, tenant := 1, priv := 255, auth := 1, hostSecret := 0, ctrlSecret := 0, func := 65535, failTimes := [],
    refuseUntil := 0 }

/-- The connection of the host's admin queue. -/
def adminConn : Conn := { readingConn with queue := some (3, 0) }

/-- A unit with a controller of that host, whose admin queue is as given. -/
def adminState (q : Queue) : State :=
  { State.reset with conns := [adminConn], idents := [authIdent], ctrls := [{ hostCtrl with queues := [q] }], nextCmd := 1 }

/-- An admin queue that asks for authentication and owes the host its challenge. -/
def challengeQueue : Queue := { Queue.fresh 0 32 (some adminConn.cid) true with authStep := 1 }

/-- An admin queue whose host is authenticated. -/
def openQueue : Queue := Queue.fresh 0 32 (some adminConn.cid) false

/-- A capsule of Authentication Send that holds its data. -/
def sendInCapsule : NvmeCmd := { commitOrder with opc := 0x7F, fctype := 5, sgl := .inCapsule 0 }

/-- A capsule of Set Features that holds its data, with 02h in the place of a log page's number. -/
def setInCapsule : NvmeCmd := { commitOrder with opc := 0x09, cdw10 := 2, sgl := .inCapsule 0 }

/-- The outcome answers a command with SGL Descriptor Type Invalid and not with success. -/
def refusesSgl (s : State) (v : NvmeCmd) (o : Host.Outcome State Fault Refusal) : Bool :=
  match o with
  | .next t => answered s t v 0 St.sglType && !answered s t v 0 St.ok
  | _ => false

/-- A command so refused is not answered with success. -/
theorem not_answered_of_refusesSgl {s t : State} {v : NvmeCmd} {o : Host.Outcome State Fault Refusal} (h : refusesSgl s v o = true)
    (ho : o = .next t) : ¬answered s t v 0 St.ok = true := by
  subst ho
  obtain ⟨-, hnot⟩ := Bool.and_eq_true_iff.1 h
  rwa [Bool.not_eq_true', ← Bool.not_eq_true] at hnot

end Sys2Proof.Machine

namespace Sys2Proof

open Machine

/-- Refutes O20: the row of Authentication Receive refuses a capsule that holds its data with SGL Descriptor Type Invalid, where the
capsule's own type is one whose data go to the controller. -/
theorem not_fabricsCommands : ¬Obligations.FabricsCommands := by
  rintro ⟨-, -, -, -, -, -, -, hreceive, -⟩
  obtain ⟨t, hexec, -, hanswered⟩ := hreceive (adminState challengeQueue) sendInCapsule (by decide +kernel) (by decide +kernel) (by decide +kernel)
  have hrefused : refusesSgl (adminState challengeQueue) sendInCapsule
      (exec (.authenticationReceive sendInCapsule) (adminState challengeQueue)) = true := by decide +kernel
  exact not_answered_of_refusesSgl hrefused hexec hanswered

/-- Refutes O22: the row of Get Log Page refuses a capsule that holds its data with SGL Descriptor Type Invalid, where the capsule's own
opcode is one whose data go to the controller. -/
theorem not_logPagesAndIdentify : ¬Obligations.LogPagesAndIdentify := by
  rintro ⟨hpage, -⟩
  obtain ⟨t, hexec, hanswered⟩ := hpage (adminState openQueue) setInCapsule (by decide +kernel) rfl
  have hrefused : refusesSgl (adminState openQueue) setInCapsule (exec (.getLogPage setInCapsule) (adminState openQueue)) = true := by
    decide +kernel
  exact not_answered_of_refusesSgl hrefused hexec hanswered

end Sys2Proof
end

section
/-!
Reservations (R174, R189): a reservation command whose checks pass waits for its turn while a deletion is under way, then O19.
-/

namespace Sys2Proof.Machine

/-- A reservation command that its queue takes and whose checks pass comes to its turn. -/
theorem State.resvCmd_of_ready {s : State} {v : NvmeCmd} {c : Cmd} (hready : resvReady s v = true)
    (hc : (s.deliverIo v).cmd? s.nextCmd = some c) : s.resvCmd v = (s.deliverIo v).resvTurn c := by
  unfold resvReady at hready
  simp only [hc, Option.any_some, Bool.and_eq_true, Bool.not_eq_true', Option.isNone_iff_eq_none] at hready
  obtain ⟨⟨-, hserving⟩, ⟨⟨⟨⟨hresult, -⟩, horder⟩, hdue⟩, hcheck⟩, -⟩ := hready
  simp [State.resvCmd, hc, hresult, horder, hdue, hcheck, hserving]

/-- A reservation command other than a Report waits for its turn while a deletion or a format is under way or another command
waits for its own (R174). -/
theorem State.resvTurn_of_mustWait {s : State} {c : Cmd} (hopc : c.nv.opc ≠ 0x0E) (hwait : s.mustWait = true) :
    s.resvTurn c = { s with adminWaits := s.adminWaits ++ [.turn c.id .reservation] } := by
  rw [State.resvTurn, if_neg hopc, State.inTurn, if_pos hwait]

/-- A Register that waits for its turn changes no namespace: it is delivered, and nothing else. -/
theorem ns?_of_reservationRegister_waits {s t : State} {v : NvmeCmd} {c : Cmd} (hready : resvReady s { v with opc := 0x0D } = true)
    (hc : (s.deliverIo { v with opc := 0x0D }).cmd? s.nextCmd = some c) (hopc : c.nv.opc ≠ 0x0E)
    (hwait : (s.deliverIo { v with opc := 0x0D }).mustWait = true) (hexec : exec (.reservationRegister v) s = .next t) (n : Nat) :
    t.ns? n = (s.deliverIo { v with opc := 0x0D }).ns? n := by
  change Host.Outcome.next (s.resvCmd { v with opc := 0x0D }) = _ at hexec
  rw [State.resvCmd_of_ready hready hc, State.resvTurn_of_mustWait hopc hwait] at hexec
  cases hexec
  rfl

/-- A deletion of namespace 2, received on the controller's admin queue and under way. -/
def deletion : Cmd :=
  { metFlush with nv := { commitOrder with opc := 0x0D, nsid := 2, cdw10 := 1 }, phase := .delivered, result := none }

/-- A Register for namespace 1 with the key 9. -/
def registerNine : NvmeCmd := { flushAll with opc := 0x0D, nsid := 1, data := 9 * 2 ^ 64 }

/-- A serving unit with that deletion, whose namespace 1 is attached to the host and has no registrant. -/
def deletingState : State :=
  let s : State := { State.reset with
    conns := [readingConn], ctrls := [ioCtrl], nss := [readyNamespace, { readyNamespace with nsid := 2, deleting := true, attached := [] }],
    cmds := [deletion], nextCmd := 2, adminWaits := [.delete deletion.id [2]],
    groups := { Group.cold with configured := true, mounted := true, rows := 4 } :: List.replicate 7 Group.cold }
  (s.wr F.TIM_STAT_SERVING 1).wr F.HAL_PAIR_STAT_ROLE 3

/-- The state once the Register is delivered. -/
def registering : State := deletingState.deliverIo { registerNine with opc := 0x0D }

/-- The Register is in flight then, the deletion goes on, and namespace 1 has no registrant. -/
theorem registering_waits :
    ((registering.cmd? deletingState.nextCmd).any fun c => c.nv.opc != 0x0E) = true ∧ registering.mustWait = true ∧
      ((registering.ns? registerNine.nsid).any fun n => n.resv.regs.isEmpty) = true := by decide +kernel

end Sys2Proof.Machine

namespace Sys2Proof

open Machine

/-- Refutes O19: a Register received while a deletion is under way waits for its turn (R174), although every check of it passes, so it
adds no registration yet. -/
theorem not_reservations : ¬Obligations.Reservations := by
  rintro ⟨hregister, -⟩
  have hready : resvReady deletingState { registerNine with opc := 0x0D } = true := by decide +kernel
  obtain ⟨t, hexec, hregs, -⟩ := hregister deletingState registerNine readyNamespace 0 hready (by decide +kernel)
    (by decide +kernel) (by decide) (by decide) (by decide) (by decide)
  obtain ⟨hany, hwait, hempty⟩ := registering_waits
  obtain ⟨c, hc, hopc⟩ := (Option.any_eq_true _ _).1 hany
  obtain ⟨n, hn, hnone⟩ := (Option.any_eq_true _ _).1 hempty
  have hkept : t.ns? registerNine.nsid = some n :=
    (ns?_of_reservationRegister_waits hready hc (bne_iff_ne.1 hopc) hwait hexec _).trans hn
  simp [hkept, List.isEmpty_iff.1 hnone, readyNamespace] at hregs

end Sys2Proof
end

section
/-!
The sweep of a deleted namespace's survey tree (R185), then O23.
-/

namespace Sys2Proof.Machine

/-- The sweep of a tree without places frees the tree's object slots and nothing else (R185). -/
theorem exec_namespaceSweep_empty {s : State} {nsid gen : Nat} (h : s.sweeps = [(nsid, gen, [])]) :
    exec (.namespaceSweep nsid gen) s =
      .next { s with sweeps := [], objs := s.objs.filter fun o => !(o.kind ≤ 1 && o.owner == nsid && o.gen == gen) } := by
  change execNamespaceSweep nsid gen s = _
  simp [execNamespaceSweep, h]

/-- A page of the tree of namespace 1's first generation, in slot 0 of its group's survey area (R262). -/
def leftPage : SvyObj :=
  { group := 0, kind := 0, owner := 1, index := 0, gen := 0, slot := some 0, copies := [0, 1], applied := 0, dirty := false, oldest := 0,
    cached := false, loading := false, level := 0, ext := false, inBank := false, evicting := false, indexed := 0 }

/-- A unit with that page, whose tree a deletion left to the sweep. -/
def sweepingState : State := { State.reset with objs := [leftPage], sweeps := [(1, 0, [])] }

end Sys2Proof.Machine

namespace Sys2Proof

open Machine

/-- Refutes O23: the sweep of a left tree also frees the tree's object slots (R185), so it changes more than the list of sweeps. -/
theorem not_namespaces : ¬Obligations.Namespaces := by
  rintro ⟨-, -, -, -, -, -, hsweep, -⟩
  obtain ⟨t, hexec, hsame⟩ := hsweep sweepingState 1 0 rfl
  rw [exec_namespaceSweep_empty rfl, hsame] at hexec
  have hobjs : [] = [leftPage] := congrArg State.objs (Host.Outcome.next.inj hexec)
  exact List.cons_ne_nil _ _ hobjs.symm

end Sys2Proof
end

section
/-!
Grants, metering saves and the QoS registers (R205, R208, R210, R220): the grant table after a period, the words a write of the CMD
class leaves, then O24.
-/

namespace Sys2Proof.Machine

/-! ### What bringing a group's figures in line leaves alone -/

@[simp] theorem State.raiseLay_grants (s : State) (g loc sev code data : Nat) : (s.raiseLay g loc sev code data).grants = s.grants :=
  State.raise_grants ..

@[simp] theorem State.raiseLay_periodAt (s : State) (g loc sev code data : Nat) :
    (s.raiseLay g loc sev code data).periodAt = s.periodAt := State.raise_periodAt ..

@[simp] theorem State.updGroup_grants (s : State) (g : Nat) (f : Group → Group) : (s.updGroup g f).grants = s.grants := rfl

@[simp] theorem State.updGroup_periodAt (s : State) (g : Nat) (f : Group → Group) : (s.updGroup g f).periodAt = s.periodAt := rfl

theorem State.syncHold_grants_periodAt (s : State) (g : Nat) :
    (s.syncHold g).grants = s.grants ∧ (s.syncHold g).periodAt = s.periodAt := by
  unfold State.syncHold
  extract_lets +onlyGivenNames f
  split
  · split
    · simp
    · exact ⟨rfl, rfl⟩
  · extract_lets +onlyGivenNames us s1
    have hgrants : s1.grants = s.grants := rfl
    have hperiod : s1.periodAt = s.periodAt := rfl
    split
    · simp [hgrants, hperiod]
    · exact ⟨hgrants, hperiod⟩

theorem State.syncEntries_grants_periodAt (s : State) (g : Nat) :
    (s.syncEntries g).grants = s.grants ∧ (s.syncEntries g).periodAt = s.periodAt := by
  unfold State.syncEntries
  extract_lets +onlyGivenNames e free
  split
  · split
    · simp
    · exact ⟨rfl, rfl⟩
  · split
    · simp
    · exact ⟨rfl, rfl⟩

/-- Bringing a group's figures in line grants nothing and begins no period. -/
theorem State.syncGroup_grants_periodAt (s : State) (g : Nat) :
    (s.syncGroup g).grants = s.grants ∧ (s.syncGroup g).periodAt = s.periodAt := by
  unfold State.syncGroup
  split
  · exact ⟨rfl, rfl⟩
  · extract_lets s1 s2 s3
    split
    · obtain ⟨hgrants, hperiod⟩ := (s3.syncHold g).syncEntries_grants_periodAt g
      obtain ⟨hgrants', hperiod'⟩ := s3.syncHold_grants_periodAt g
      exact ⟨hgrants.trans hgrants', hperiod.trans hperiod'⟩
    · exact ⟨rfl, rfl⟩

/-! ### The grant table (R208) -/

/-- The grants of the CMD roles for a group. -/
def State.grantsOf (s : State) (g : Nat) : List (Nat × Nat × Rat) := s.grants.filter fun x => x.2.1 == g

/-- A grant of a group's capacity gives each of the four CMD roles one grant in place of what the group's grants were, leaves the other
groups' grants and begins no period. -/
theorem State.grantGroup_grants (s : State) (g : Nat) : ∃ amount : Nat → Rat,
    (s.grantGroup g).grants = ((List.range 4).map fun r => (r, g, amount r)) ++ s.grants.filter (fun x => x.2.1 != g) ∧
      (s.grantGroup g).periodAt = s.periodAt := by
  unfold State.grantGroup
  extract_lets cap pct reb recl pat paced floors floorOf given left bl want miss mins rest shares spare deficit gs ts s1 s2
  have hgrants : s2.grants = s1.grants := map_ite (f := State.grants) rfl rfl
  have hperiod : s2.periodAt = s1.periodAt := map_ite (f := State.periodAt) rfl rfl
  exact ⟨_, hgrants, hperiod⟩

theorem State.length_grantsOf_grantGroup_same (s : State) (g : Nat) : ((s.grantGroup g).grantsOf g).length = 4 := by
  obtain ⟨amount, hgrants, -⟩ := s.grantGroup_grants g
  have hold : (s.grants.filter fun x => x.2.1 != g).filter (fun x => x.2.1 == g) = [] := by
    simp [List.filter_filter]
  have hnew : ((List.range 4).map fun r => (r, g, amount r)).filter (fun x => x.2.1 == g) =
      (List.range 4).map fun r => (r, g, amount r) := by
    simp [List.filter_map, Function.comp_def]
  rw [State.grantsOf, hgrants, List.filter_append, hold, hnew]
  simp

theorem State.grantsOf_grantGroup_other (s : State) {g k : Nat} (h : k ≠ g) : (s.grantGroup g).grantsOf k = s.grantsOf k := by
  obtain ⟨amount, hgrants, -⟩ := s.grantGroup_grants g
  have hnew : ((List.range 4).map fun r => (r, g, amount r)).filter (fun x => x.2.1 == k) = [] := by
    simp [List.filter_map, Function.comp_def, h.symm]
  have hold : (s.grants.filter fun x => x.2.1 != g).filter (fun x => x.2.1 == k) = s.grants.filter fun x => x.2.1 == k := by
    rw [List.filter_filter]
    refine List.filter_congr fun x _ => ?_
    by_cases hx : x.2.1 = k
    · simp [hx, h]
    · simp [hx]
  rw [State.grantsOf, hgrants, List.filter_append, hnew, hold, List.nil_append, State.grantsOf]

/-- One group's turn of a grant period: its capacity is granted and its figures brought in line. -/
def State.periodTurn (s : State) (g : Nat) : State := (s.grantGroup g).syncGroup g

theorem State.periodTurn_periodAt (s : State) (g : Nat) : (s.periodTurn g).periodAt = s.periodAt := by
  obtain ⟨_, -, hperiod⟩ := s.grantGroup_grants g
  exact ((s.grantGroup g).syncGroup_grants_periodAt g).2.trans hperiod

theorem State.grantsOf_periodTurn (s : State) (g k : Nat) : (s.periodTurn g).grantsOf k = (s.grantGroup g).grantsOf k :=
  congrArg (List.filter fun x : Nat × Nat × Rat => x.2.1 == k) ((s.grantGroup g).syncGroup_grants_periodAt g).1

/-- The turns of a list of groups begin no period. -/
theorem State.foldl_periodTurn_periodAt (s : State) (l : List Nat) : (l.foldl State.periodTurn s).periodAt = s.periodAt :=
  foldl_keeps_of (P := fun t => t.periodAt = s.periodAt) l (fun t ht g _ => (t.periodTurn_periodAt g).trans ht) s rfl

/-- A turn of any group leaves a group that has its four grants with four. -/
theorem State.length_grantsOf_periodTurn {s : State} {k : Nat} (g : Nat) (h : g = k ∨ (s.grantsOf k).length = 4) :
    ((s.periodTurn g).grantsOf k).length = 4 := by
  rw [State.grantsOf_periodTurn]
  by_cases hgk : k = g
  · rw [hgk]; exact s.length_grantsOf_grantGroup_same g
  · rw [s.grantsOf_grantGroup_other hgk]; exact h.resolve_left (Ne.symm hgk)

/-- After the turns of a list of groups each of them has its four grants. -/
theorem State.length_grantsOf_foldl_periodTurn (l : List Nat) (s : State) {k : Nat} (h : k ∈ l ∨ (s.grantsOf k).length = 4) :
    ((l.foldl State.periodTurn s).grantsOf k).length = 4 := by
  induction l generalizing s with
  | nil => exact h.resolve_left List.not_mem_nil
  | cons g l ih =>
    rw [List.foldl_cons]
    refine ih _ ?_
    obtain hmem | hfour := h
    · obtain rfl | hmem := List.mem_cons.1 hmem
      · exact .inr (State.length_grantsOf_periodTurn _ (.inl rfl))
      · exact .inl hmem
    · exact .inr (State.length_grantsOf_periodTurn _ (.inr hfour))

/-- The groups whose capacity a grant period grants. -/
def State.grantedGroups (s : State) : List Nat := (List.range 8).filter fun g => (s.group g).configured

/-- A grant period that is due counts the time held, begins the next period now and gives each configured group its turn. -/
theorem exec_grantPeriod_due {s : State} (h : s.due (s.periodAt + usU 10) = true) :
    exec .grantPeriod s =
      .next (s.grantedGroups.foldl State.periodTurn { s.meterHeld (s.now - s.periodAt) with periodAt := s.now }) := by
  refine congrArg Host.Outcome.next (if_neg ?_)
  rw [h]; exact Bool.false_ne_true

/-! ### Registers of the CMD class -/

/-- The line of CMD_QOS_CFG (Table QOS-9). -/
def qosCfgLine : RegDef := ⟨22, 26, 0x1200, 0, 1, 0, 1, .cls, [⟨0, 0, .rw, [1], .any⟩, ⟨7, 4, .rw, [3], .rng 1 15⟩]⟩

/-- The line of CMD_QOS_GCAP (Table QOS-10). -/
def qosGcapLine : RegDef := ⟨22, 26, 0x1210, 4, 8, 0, 1, .cls, [⟨31, 0, .rw, [0], .any⟩]⟩

theorem findReg_qosCfg : findReg 22 0x1200 = some (qosCfgLine, 0) := by decide

theorem findReg_qosGcap : ∀ g : Fin 8, findReg 22 (0x1210 + 4 * g.val) = some (qosGcapLine, g.val) := by decide

/-- The full mask covers every field of a word. -/
theorem fullMask_field {hi lo : Nat} (hle : lo ≤ hi) (h32 : hi < 32) :
    0xFFFFFFFF / 2 ^ lo % 2 ^ (hi + 1 - lo) = 2 ^ (hi + 1 - lo) - 1 := by
  refine Nat.eq_of_testBit_eq fun i => ?_
  rw [show 0xFFFFFFFF = 2 ^ 32 - 1 from rfl, Nat.testBit_mod_two_pow, Nat.testBit_div_two_pow, Nat.testBit_two_pow_sub_one,
    Nat.testBit_two_pow_sub_one, ← Bool.decide_and]
  exact decide_eq_decide.2 (by omega)

/-- A whole write of an RW field sets it to the bits written, where the field takes them. -/
theorem fieldAfter_rw_full (hi lo : Nat) (cold : List Nat) (c : FieldCheck) (locked : Bool) (old v : Nat) (hle : lo ≤ hi) (h32 : hi < 32)
    (hcheck : checkOk c (bits v hi lo) = true) : fieldAfter ⟨hi, lo, .rw, cold, c⟩ locked old v 0xFFFFFFFF = bits v hi lo := by
  simp only [fieldAfter, fullMask_field hle h32, Nat.sub_self, Nat.and_zero, Nat.zero_or, Nat.and_two_pow_sub_one_eq_mod, Nat.mod_mod]
  exact if_pos hcheck

/-- A whole write to a register of the CMD class, none of whose fields is lockable and which no check across registers binds. -/
theorem State.writeRegW_cmdClass (s : State) (off : Nat) (v : Word) (d : RegDef) (i : Nat) (hreg : findReg 22 off = some (d, i))
    (hhome : d.home = .cls) (hoff : off < 0x1230) (hd : ∀ f ∈ d.fields, f.type ≠ .rwl) :
    s.writeRegW 22 off v =
      s.setWord (clsKey 1 off) (wordAfter d (s.isSet (F.BENCH_CTL_LOCK 22)) (s.word (clsKey 1 off)).toNat v.toNat 0xFFFFFFFF) := by
  have hcheck : ∀ w, crossCheck s.part 22 off w = 0 := fun w => by simp [crossCheck, classOf]
  have hallow : ∀ t : State, s.writeAllowed t 22 off = true := fun t => by
    simp [State.writeAllowed, classOf, Nat.not_le.2 hoff]
  rw [State.writeRegW, State.writeReg, hreg]
  simp [hhome, State.homeKey, classOf, State.writeWord, hcheck, hallow, toNat_and_full, wouldChangeLocked_of_no_rwl _ _ _ _ hd]

/-- A write of CMD_QOS_CFG sets its word, and nothing else. -/
theorem State.writeRegW_qosCfg (s : State) (v : Word) :
    s.writeRegW 22 0x1200 v =
      s.setWord 0x4101200 (wordAfter qosCfgLine (s.isSet (F.BENCH_CTL_LOCK 22)) (s.word 0x4101200).toNat v.toNat 0xFFFFFFFF) :=
  s.writeRegW_cmdClass 0x1200 v qosCfgLine 0 findReg_qosCfg rfl (by decide) (by decide)

/-- EN after a write of CMD_QOS_CFG. -/
theorem State.rd_qosCfgEn_writeRegW (s : State) (v : Word) : (s.writeRegW 22 0x1200 v).rd F.CMD_QOS_CFG_EN = bits v.toNat 0 0 := by
  rw [s.writeRegW_qosCfg, s.rd_setWord_of_key F.CMD_QOS_CFG_EN 0x4101200 _ rfl]
  simp only [wordAfter, qosCfgLine, List.foldl_cons, List.foldl_nil, F.CMD_QOS_CFG_EN]
  rw [fieldGet_fieldPut_beside _ _ _ _ _ _ (by decide) (by decide) (by decide), fieldGet_fieldPut_same _ _ _ _ (by decide) (by decide),
    fieldAfter_rw_full 0 0 _ _ _ _ _ (by decide) (by decide) rfl]
  exact Nat.mod_mod _ _

/-- WCOST after a write of CMD_QOS_CFG with a value that it takes. -/
theorem State.rd_qosCfgWcost_writeRegW (s : State) (v : Word) (h : 1 ≤ bits v.toNat 7 4) :
    (s.writeRegW 22 0x1200 v).rd F.CMD_QOS_CFG_WCOST = bits v.toNat 7 4 := by
  have hlt : bits v.toNat 7 4 < 16 := Nat.mod_lt _ (by decide)
  have hcheck : checkOk (.rng 1 15) (bits v.toNat 7 4) = true := by
    rw [checkOk, Bool.and_eq_true, decide_eq_true_iff, decide_eq_true_iff]; omega
  rw [s.writeRegW_qosCfg, s.rd_setWord_of_key F.CMD_QOS_CFG_WCOST 0x4101200 _ rfl]
  simp only [wordAfter, qosCfgLine, List.foldl_cons, List.foldl_nil, F.CMD_QOS_CFG_WCOST]
  rw [fieldGet_fieldPut_same _ _ _ _ (by decide) (by decide), fieldAfter_rw_full 7 4 _ _ _ _ _ (by decide) (by decide) hcheck]
  exact Nat.mod_mod _ _

/-- CAP after a write of CMD_QOS_GCAP. -/
theorem State.rd_qosGcapCap_writeRegW (s : State) (g : Fin 8) (v : Word) :
    (s.writeRegW 22 (0x1210 + 4 * g.val) v).rd (F.CMD_QOS_GCAP_CAP g.val) = v.toNat := by
  have hkey : (F.CMD_QOS_GCAP_CAP g.val).key = clsKey 1 (0x1210 + 4 * g.val) := by
    simp only [F.CMD_QOS_GCAP_CAP, clsKey]; omega
  have hbits : bits v.toNat 31 0 = v.toNat := by
    rw [bits, pow_zero, Nat.div_one]; exact Nat.mod_eq_of_lt v.isLt
  rw [s.writeRegW_cmdClass _ v qosGcapLine g.val (findReg_qosGcap g) rfl (by omega) (by decide), s.rd_setWord_of_key _ _ _ hkey]
  refine (fieldGet_wordAfter_single qosGcapLine _ _ _ _ _ rfl (by decide) (by decide)).trans ?_
  rw [fieldAfter_rw_full 31 0 _ _ _ _ _ (by decide) (by decide) rfl, hbits]
  exact Nat.mod_eq_of_lt v.isLt

/-- A write of CMD_QOS_CFG that sets EN from 0 to 1 restarts every ceiling and minimum (R205). -/
theorem State.writeQosCfg_of_armed {s : State} {v : Word} (hen : bits v.toNat 0 0 = 1) (hoff : s.qosOn = false) :
    s.writeQosCfg 22 v = (s.writeRegW 22 0x1200 v).qosRestart := by
  have hon : (s.writeRegW 22 0x1200 v).qosOn = true := by
    rw [State.qosOn, State.isSet, s.rd_qosCfgEn_writeRegW, hen]; rfl
  exact if_pos (by rw [hoff, hon]; rfl)

@[simp] theorem State.rd_qosRestart (s : State) (f : Fld) : s.qosRestart.rd f = s.rd f := rfl

/-- After a restart the ceilings of every namespace count from now. -/
theorem State.qosRestart_tats (s : State) :
    s.qosRestart.nss.all (fun n => n.tats == ⟨s.now * 65536, s.now * 65536, s.now * 65536⟩) = true := by
  rw [State.qosRestart, List.all_map]
  exact List.all_eq_true.2 fun n _ => beq_self_eq_true _

end Sys2Proof.Machine

namespace Sys2Proof

open Machine

/-- Settles O24: a grant period is the fold of the configured groups' turns, each of which leaves its group four grants; a write of a
QoS register is the write of its word. -/
theorem schedulerAndMeters : Obligations.SchedulerAndMeters := by
  refine ⟨?grant, ?save, ?config, ?capacity⟩
  case grant =>
    intro s hdue
    refine .of_exec (exec_grantPeriod_due hdue) ⟨State.foldl_periodTurn_periodAt _ _, List.all_eq_true.2 fun g hg => ?_⟩
    by_cases hconf : (s.group g).configured = true
    · have hfour := State.length_grantsOf_foldl_periodTurn s.grantedGroups { s.meterHeld (s.now - s.periodAt) with periodAt := s.now }
        (.inl (List.mem_filter.2 ⟨hg, hconf⟩))
      exact Bool.or_eq_true_iff.2 (.inr (beq_iff_eq.2 hfour))
    · rw [Bool.eq_false_iff.2 hconf]; rfl
  case save =>
    intro s hdue
    exact .of_exec (t := { s.saveMeters with msaveAt := s.now }) (congrArg Host.Outcome.next (if_pos hdue)) ⟨rfl, rfl, rfl⟩
  case config =>
    intro s v _ hen hcost hoff
    refine .of_exec (congrArg Host.Outcome.next (State.writeQosCfg_of_armed hen hoff)) ⟨?_, ?_, ?_⟩
    · rw [State.qosOn, State.isSet, State.rd_qosRestart, s.rd_qosCfgEn_writeRegW, hen]; rfl
    · rw [State.rd_qosRestart, s.rd_qosCfgWcost_writeRegW v hcost]
    · have hnow : (s.writeRegW 22 0x1200 v).now = s.now := by
        rw [s.writeRegW_qosCfg]; rfl
      rw [← hnow]
      exact State.qosRestart_tats _
  case capacity =>
    intro s g v _ _
    exact .of_exec rfl (s.rd_qosGcapCap_writeRegW g v)

end Sys2Proof
end

section
/-!
The log and the commands in flight (R239): raising events, taking a bench out as faulted and bringing a group's figures in line leave both
alone.
-/

namespace Sys2Proof.Machine

/-- A state has the stripes and the commands in flight of another. -/
def State.SameLog (t s : State) : Prop := t.stripes = s.stripes ∧ t.cmds = s.cmds

theorem State.SameLog.refl (s : State) : s.SameLog s := ⟨rfl, rfl⟩

theorem State.SameLog.stripe? {s t : State} (h : t.SameLog s) (g n : Nat) : t.stripe? g n = s.stripe? g n :=
  congrArg (List.find? fun x : Stripe => x.group == g && x.num == n) h.1

theorem State.SameLog.idle {s t : State} (h : t.SameLog s) (hidle : s.cmds = []) : t.cmds = [] := h.2.trans hidle

/-- With no command in flight there is nothing to complete. -/
theorem State.tryPost_of_idle {s : State} (h : s.cmds = []) (id : Nat) : s.tryPost id = s := by
  rw [State.tryPost, State.cmd?, h, List.find?_nil]

/-- With no command in flight none has blocks to be placed. -/
theorem State.placeCmd_of_idle {s : State} (h : s.cmds = []) (id : Nat) : s.placeCmd id = s := by
  rw [State.placeCmd, State.cmd?, h, List.find?_nil]

/-- With no command in flight none waits for a place. -/
theorem State.placeWaiting_of_idle {s : State} (h : s.cmds = []) (g : Nat) : s.placeWaiting g = s := by
  rw [State.placeWaiting, h]; rfl

end Sys2Proof.Machine

namespace Sys2Proof.Machine.State.SameLog

-- One lemma at a time, as with the lemmas about a serving unit.
set_option Elab.async false

variable {s s0 : State}

theorem of_eq (h : s.SameLog s0) {t : State} (hstripes : t.stripes = s.stripes := by rfl) (hcmds : t.cmds = s.cmds := by rfl) :
    t.SameLog s0 := ⟨hstripes.trans h.1, hcmds.trans h.2⟩

theorem ite {t : State} {p : Prop} [Decidable p] (h : s.SameLog s0) (ht : t.SameLog s0) : (if p then s else t).SameLog s0 := by
  split
  · exact h
  · exact ht

theorem foldl {γ : Type} {g : State → γ → State} {l : List γ} (h : s.SameLog s0) (hg : ∀ a x, a.SameLog s0 → (g a x).SameLog s0) :
    (l.foldl g s).SameLog s0 := foldl_keeps_of l (fun a ha x _ => hg a x ha) s h

/-! ### Registers and events -/

theorem wr {f : Fld} {v : Nat} (h : s.SameLog s0) : (s.wr f v).SameLog s0 := h.of_eq

theorem wr64 {lo hi : Fld} {v : Nat} (h : s.SameLog s0) : (s.wr64 lo hi v).SameLog s0 := h.wr.wr

theorem bumpBy {f : Fld} {k : Nat} (h : s.SameLog s0) : (s.bumpBy f k).SameLog s0 := h.wr

theorem bump {f : Fld} (h : s.SameLog s0) : (s.bump f).SameLog s0 := h.wr

theorem setBit {f : Fld} {i : Nat} {b : Bool} (h : s.SameLog s0) : (s.setBit f i b).SameLog s0 := h.wr

theorem send {o : Out} (h : s.SameLog s0) : (s.send o).SameLog s0 := h.of_eq

theorem sendAll {l : List Out} (h : s.SameLog s0) : (s.sendAll l).SameLog s0 := h.of_eq

theorem controllerFault (h : s.SameLog s0) : s.controllerFault.SameLog s0 := by
  obtain ⟨o, hfault⟩ := s.controllerFault_eq
  rw [hfault]
  exact h.of_eq

theorem raise {b loc sev code data : Nat} (h : s.SameLog s0) : (s.raise b loc sev code data).SameLog s0 :=
  h.of_eq (s.raise_stripes ..) (s.raise_cmds ..)

theorem raiseLay {g loc sev code data : Nat} (h : s.SameLog s0) : (s.raiseLay g loc sev code data).SameLog s0 := h.raise

theorem updBench {b : Nat} {f : Bench → Bench} (h : s.SameLog s0) : (s.updBench b f).SameLog s0 := h.of_eq

theorem setBenchState {b : Nat} {st : BenchState} (h : s.SameLog s0) : (s.setBenchState b st).SameLog s0 := h.updBench.raise

/-! ### Flits -/

theorem updRot {c : Nat} {f : Rotation → Rotation} (h : s.SameLog s0) : (s.updRot c f).SameLog s0 := h.of_eq

theorem setLane {x : LaneState} (h : s.SameLog s0) : (s.setLane x).SameLog s0 := h.of_eq

theorem acceptNumber {src : FlitDest} {f : Flit} (h : s.SameLog s0) : (s.acceptNumber src f).SameLog s0 := h.of_eq

theorem ackFlit {src : FlitDest} {f : Flit} (h : s.SameLog s0) : (s.ackFlit src f).SameLog s0 := h.of_eq

theorem retain {src : FlitDest} {l : Lane} {f : Flit} (h : s.SameLog s0) : (s.retain src l f).SameLog s0 := h.ite h.of_eq

theorem fillFifo {l : Lane} {v : Vc} (h : s.SameLog s0) : (s.fillFifo l v).SameLog s0 := by
  unfold State.fillFifo
  refine foldl_keeps_of (P := fun p : State × Bool => p.1.SameLog s0) _ (fun p hp f _ => ?_) _ h
  extract_lets +onlyGivenNames x
  split
  · exact hp
  · exact hp.setLane.acceptNumber.ackFlit

theorem deliverFlit {l : Lane} {f : Flit} (h : s.SameLog s0) : (s.deliverFlit l f).SameLog s0 := h.ackFlit.ite h.retain.setLane.fillFifo

theorem releaseHeld {c : Nat} (h : s.SameLog s0) : (s.releaseHeld c).SameLog s0 := by
  unfold State.releaseHeld
  refine h.updRot.foldl fun t p ht => ?_
  split
  · exact ht.deliverFlit
  · exact ht.updRot

theorem moveInbound {c r old new : Nat} (h : s.SameLog s0) : (s.moveInbound c r old new).SameLog s0 :=
  h.foldl fun _ _ ht => ht.setLane.setLane

theorem moveOutbound {c r old new : Nat} {again : Bool} (h : s.SameLog s0) : (s.moveOutbound c r old new again).SameLog s0 := by
  unfold State.moveOutbound
  extract_lets +onlyGivenNames mine s1
  have h1 : s1.SameLog s0 := h.of_eq
  exact h1.sendAll.ite h1

/-! ### Frames of the switch core -/

theorem updMac {m : Nat} {f : Mac → Mac} (h : s.SameLog s0) : (s.updMac m f).SameLog s0 := h.of_eq

theorem addStat {m i k : Nat} (h : s.SameLog s0) : (s.addStat m i k).SameLog s0 := h.of_eq

theorem lpiAccrue {m : Nat} (h : s.SameLog s0) : (s.lpiAccrue m).SameLog s0 := by
  unfold State.lpiAccrue
  split
  · exact h
  · exact h.addStat.updMac

theorem leaveLpi {m : Nat} (h : s.SameLog s0) : (s.leaveLpi m).SameLog s0 := by
  unfold State.leaveLpi
  split
  · exact h
  · exact h.lpiAccrue.updMac.updMac.wr

theorem sendPause {m c q : Nat} (h : s.SameLog s0) : (s.sendPause m c q).SameLog s0 := h.ite h.leaveLpi.updMac.addStat.send

theorem syncAsks {m : Nat} (h : s.SameLog s0) : (s.syncAsks m).SameLog s0 := by
  have hreleased : ∀ f (l : List PauseAsk), (l.foldl (fun t a => t.sendPause m a.cls 0) (s.updMac m f)).SameLog s0 :=
    fun _ _ => h.updMac.foldl fun _ _ ht => ht.sendPause
  exact (hreleased _ _).foldl fun _ _ ht => ht.updMac.sendPause

theorem syncXoff {m : Nat} (h : s.SameLog s0) : (s.syncXoff m).SameLog s0 := h.ite (h.ite h.updMac.syncAsks)

theorem freeFrames {p : SwFrame → Bool} (h : s.SameLog s0) : (s.freeFrames p).SameLog s0 := by
  unfold State.freeFrames
  extract_lets +onlyGivenNames inputs s1
  have h1 : s1.syncCells.SameLog s0 := h.of_eq
  exact h1.foldl fun _ _ ht => ht.syncXoff

theorem police {q : Nat} (h : s.SameLog s0) : (s.police q).2.SameLog s0 := by
  unfold State.police
  extract_lets +onlyGivenNames l n
  split
  · exact h.of_eq
  · exact h.of_eq

theorem draw {k : FreeKind} {bound : Nat} (h : s.SameLog s0) : (s.draw k bound).2.SameLog s0 := h.of_eq

theorem setSamples {l : List Sample} (h : s.SameLog s0) : { s with samples := l }.SameLog s0 := h.of_eq

theorem sampleAt {k : Nat} {r : Sample} (h : s.SameLog s0) : (s.sampleAt k r).SameLog s0 := by
  unfold State.sampleAt
  dsimp only
  exact h.ite (h.draw.ite (h.draw.police.wr64.setSamples.bump.ite h.draw.police.bump))

theorem releaseFrames {r : Nat} (h : s.SameLog s0) : (s.releaseFrames r).SameLog s0 := by
  unfold State.releaseFrames
  split
  · exact h
  · extract_lets +onlyGivenNames held s1
    have h1 : s1.SameLog s0 := h.freeFrames.foldl fun _ _ ht => ht.sampleAt
    exact h1.sendAll

/-! ### Rotation, takeover and faults -/

theorem refreshMaps {c : Nat} (h : s.SameLog s0) : (s.refreshMaps c).SameLog s0 := by
  unfold State.refreshMaps
  extract_lets +onlyGivenNames s1 s2
  have h1 : s1.SameLog s0 := h.foldl fun _ _ ht => ht.wr
  exact h1.wr.setBit

theorem rebind {c out spare r : Nat} (h : s.SameLog s0) : (s.rebind c out spare r).SameLog s0 := by
  unfold State.rebind
  extract_lets +onlyGivenNames bo bs fault s1 s2 s3 s4 s5 s6 s7 s8 s9
  have h1 : s1.SameLog s0 := h.updBench
  have h2 : s2.SameLog s0 := h1.ite h1.setBenchState
  have h5 : s5.SameLog s0 := h2.updBench.setBenchState.updRot
  have h8 : s8.SameLog s0 := h5.bump.setBit.moveInbound.moveOutbound
  have h9 : s9.SameLog s0 := h8.releaseFrames.ite h8
  exact h9.refreshMaps.releaseHeld

theorem rebindOrDefer {c out spare r : Nat} (h : s.SameLog s0) : (s.rebindOrDefer c out spare r).SameLog s0 := h.updRot.setBit.ite h.rebind

theorem abandonRotation {c : Nat} (h : s.SameLog s0) : (s.abandonRotation c).SameLog s0 := by
  unfold State.abandonRotation
  extract_lets +onlyGivenNames s1
  have h1 : s1.SameLog s0 := by
    unfold s1
    split
    · exact h.releaseFrames.ite h
    · exact h
  exact h1.updRot.setBit.releaseHeld

theorem beginRotation {c : Nat} (h : s.SameLog s0) : (s.beginRotation c).SameLog s0 := by
  unfold State.beginRotation
  split
  · exact h.updRot.setBit
  · exact h

theorem payOwed {c : Nat} (h : s.SameLog s0) : (s.payOwed c).SameLog s0 := h.beginRotation.ite h

theorem startReload {b : Nat} {act : Bool} (h : s.SameLog s0) : (s.startReload b act).SameLog s0 := by
  unfold State.startReload
  extract_lets +onlyGivenNames s1
  have h1 : s1.SameLog s0 := by
    unfold s1
    split
    · exact h.setBenchState.refreshMaps
    · exact h
  exact h1.of_eq.wr

theorem liveClass {c : Nat} (h : s.SameLog s0) : (s.liveClass c).SameLog s0 := by
  unfold State.liveClass
  refine h.ite (h.updRot.payOwed.ite (h.ite ?_))
  split
  · exact (h.ite h.startReload).ite h.beginRotation
  · split
    · exact h.startReload
    · exact h

theorem takeover {c out r : Nat} {hdrOk : Bool} (h : s.SameLog s0) : (s.takeover c out r hdrOk).SameLog s0 := by
  unfold State.takeover
  extract_lets +onlyGivenNames bind
  have hbind : ∀ t sp, t.SameLog s0 → (bind t sp).SameLog s0 := fun _ _ ht => ht.rebindOrDefer.ite ht.controllerFault
  split
  · refine (hbind _ _ h).ite (State.SameLog.ite ?_ ?_)
    · split
      · exact hbind _ _ h
      · exact h.controllerFault
    · extract_lets +onlyGivenNames s1
      have h1 : s1.SameLog s0 := h.abandonRotation
      split
      · exact hbind _ _ h1
      · exact h1.controllerFault
  · split
    · exact hbind _ _ h
    · exact h.controllerFault

theorem spareLost {c i : Nat} {hdrOk : Bool} (h : s.SameLog s0) : (s.spareLost c i hdrOk).SameLog s0 := by
  unfold State.spareLost
  split
  · exact h.ite (h.updRot.setBit.takeover.ite h.abandonRotation)
  · exact h

theorem faultBench {b : Nat} {hdrOk : Bool} (h : s.SameLog s0) : (s.faultBench b hdrOk).SameLog s0 := by
  unfold State.faultBench
  extract_lets +onlyGivenNames st s1
  have h1 : s1.SameLog s0 := h.updBench
  refine h.ite ?_
  split
  · exact h1.setBenchState.controllerFault
  · extract_lets +onlyGivenNames s2
    have h2 : s2.SameLog s0 := h1.setBenchState
    split
    · exact h2.takeover.refreshMaps
    · exact h2.spareLost.refreshMaps.liveClass

theorem countRepair {b row : Nat} {hdrOk : Bool} (h : s.SameLog s0) : (s.countRepair b row hdrOk).SameLog s0 := by
  unfold State.countRepair
  extract_lets +onlyGivenNames s1 old s2
  have h2 : s2.SameLog s0 := h.raise.updBench
  exact h2.ite (h2.faultBench.ite (h2.raise.ite h2))

/-! ### Items for the partner and notices -/

theorem haulSend {chan : Nat} (h : s.SameLog s0) : (s.haulSend chan).SameLog s0 := by
  unfold State.haulSend
  split
  · exact h
  · exact h.of_eq

theorem mirror {w : MirrorWhat} {b : MirrorBody} (h : s.SameLog s0) : (s.mirror w b).SameLog s0 := haulSend h.of_eq

theorem mirrorNote {b : MirrorBody} (h : s.SameLog s0) : (s.mirrorNote b).SameLog s0 := h.mirror.ite h

theorem updCtrl {i : Nat} {f : Ctrl → Ctrl} (h : s.SameLog s0) : (s.updCtrl i f).SameLog s0 := h.of_eq

/-- Where no command is in flight there is none to change. -/
theorem updCmd (hidle : s0.cmds = []) {id : Nat} {f : Cmd → Cmd} (h : s.SameLog s0) : (s.updCmd id f).SameLog s0 := by
  refine h.of_eq rfl ?_
  rw [State.updCmd, h.idle hidle]; rfl

theorem finish (hidle : s0.cmds = []) {id dw0 : Nat} {st : Status} (h : s.SameLog s0) : (s.finish id dw0 st).SameLog s0 := by
  have hmet : (s.setMet id dw0 st).SameLog s0 := h.updCmd hidle
  rw [State.finish, State.tryPost_of_idle (hmet.idle hidle)]
  exact hmet

theorem sendNotices (hidle : s0.cmds = []) {ctl y : Nat} (h : s.SameLog s0) : (s.sendNotices ctl y).SameLog s0 := by
  induction y generalizing s with
  | zero => exact h
  | succ y ih =>
    unfold State.sendNotices
    split
    · exact h
    · split
      · exact ih (h.updCtrl.finish hidle)
      · exact h

theorem notice (hidle : s0.cmds = []) {ctl typ info page : Nat} (h : s.SameLog s0) : (s.notice ctl typ info page).SameLog s0 := by
  unfold State.notice
  split
  · exact h
  · exact h.ite (h.updCtrl.sendNotices hidle)

theorem noticeAll (hidle : s0.cmds = []) {p : Nat → Bool} {typ info page : Nat} (h : s.SameLog s0) :
    (s.noticeAll p typ info page).SameLog s0 := by
  unfold State.noticeAll
  refine h.foldl fun a x ha => ?_
  split
  · exact (ha.notice hidle).ite ha
  · exact ha

/-! ### A group's figures -/

theorem updGroup {g : Nat} {f : Group → Group} (h : s.SameLog s0) : (s.updGroup g f).SameLog s0 := h.of_eq

theorem changeSlot {k st : Nat} {f : Slot → Slot} (h : s.SameLog s0) : (s.changeSlot k st f).SameLog s0 := mirrorNote h.of_eq

theorem syncHold {g : Nat} (h : s.SameLog s0) : (s.syncHold g).SameLog s0 := by
  unfold State.syncHold
  extract_lets +onlyGivenNames f
  split
  · exact h.updGroup.wr.raiseLay.ite h
  · extract_lets +onlyGivenNames us s1
    have h1 : s1.SameLog s0 := h.bumpBy.updGroup
    exact h1.updGroup.wr.raiseLay.ite h1

theorem setEntryNotice {l : List Nat} (h : s.SameLog s0) : { s with entryNotice := l }.SameLog s0 := h.of_eq

theorem syncEntries {g : Nat} (h : s.SameLog s0) : (s.syncEntries g).SameLog s0 := by
  unfold State.syncEntries
  extract_lets +onlyGivenNames e free
  exact (h.wr.setEntryNotice.ite h).ite (h.wr.raiseLay.setEntryNotice.ite h)

theorem syncGroup {g : Nat} (h : s.SameLog s0) : (s.syncGroup g).SameLog s0 := by
  unfold State.syncGroup
  extract_lets +onlyGivenNames s1 s2 s3
  have h3 : s3.SameLog s0 := h.wr.wr.wr
  exact h.ite (h3.syncHold.syncEntries.ite h3)

theorem drainEnd {g : Nat} (h : s.SameLog s0) : (s.drainEnd g).SameLog s0 := h.ite (h.foldl fun _ _ ht => ht.changeSlot.raiseLay)

theorem syncHealth (hidle : s0.cmds = []) {g : Nat} (h : s.SameLog s0) : (s.syncHealth g).SameLog s0 := by
  unfold State.syncHealth
  extract_lets +onlyGivenNames s1 st old s2 s3 s4
  have h2 : s2.SameLog s0 := h.drainEnd.syncGroup
  have h4 : s4.SameLog s0 := h2.updGroup.raiseLay.ite h2.updGroup
  exact h.ite (h2.ite (h4.noticeAll hidle))

theorem issueM {slot q : Nat} {w : MWork} (h : s.SameLog s0) : (s.issueM slot q w).SameLog s0 := State.SameLog.ite (bump h.of_eq) h.of_eq

end Sys2Proof.Machine.State.SameLog
end

section
/-!
Stripes and their seal (R239, R240): a change of one stripe, what a seal leaves, then O25.
-/

namespace Sys2Proof.Machine

/-! ### A change of one stripe -/

/-- An element found by a test that a change keeps is found changed. -/
theorem find?_mapIf {α : Type} {p : α → Bool} {f : α → α} (hf : ∀ a, p a = true → p (f a) = true) (l : List α) :
    (mapIf p f l).find? p = (l.find? p).map f := by
  induction l with
  | nil => rfl
  | cons a l ih =>
    rw [mapIf, List.map_cons]
    by_cases ha : p a = true
    · rw [if_pos ha, List.find?_cons_of_pos (hf a ha), List.find?_cons_of_pos ha]; rfl
    · rw [if_neg ha, List.find?_cons_of_neg ha, List.find?_cons_of_neg ha]; exact ih

/-- A stripe changed in what does not name it is found changed. -/
theorem State.stripe?_updStripe {s : State} {g n : Nat} {x : Stripe} (hx : s.stripe? g n = some x) (f : Stripe → Stripe)
    (hf : ∀ y : Stripe, (y.group == g && y.num == n) = true → ((f y).group == g && (f y).num == n) = true := by
      exact fun _ h => h) :
    (s.updStripe g n f).stripe? g n = some (f x) := by
  refine (find?_mapIf hf s.stripes).trans ?_
  rw [← State.stripe?, hx]; rfl

theorem State.stripe?_closeStripe {s : State} {g n : Nat} {x : Stripe} (hx : s.stripe? g n = some x) :
    (s.closeStripe g n).stripe? g n = some { x with state := .closed, closedAt := s.now } := State.stripe?_updStripe hx _

/-- The void of the places that hold no data (R239). -/
def State.voidLate (s : State) (g n : Nat) : State :=
  s.updStripe g n fun y => { y with blocks := mapIf (fun b => b.content.isNone) SBlock.toVoid y.blocks }

theorem State.stripe?_voidLate {s : State} {g n : Nat} {x : Stripe} (hx : s.stripe? g n = some x) :
    (s.voidLate g n).stripe? g n = some { x with blocks := mapIf (fun b => b.content.isNone) SBlock.toVoid x.blocks } :=
  State.stripe?_updStripe hx _

/-- Once the blocks without data are void every place holds its data. -/
theorem all_isSome_mapIf_toVoid (l : List SBlock) :
    (mapIf (fun b => b.content.isNone) SBlock.toVoid l).all (fun b => b.content.isSome) = true := by
  refine List.all_eq_true.2 fun b hb => ?_
  obtain ⟨a, -, rfl⟩ := List.mem_map.1 hb
  by_cases ha : a.content.isNone = true
  · rw [if_pos ha]; rfl
  · rw [if_neg ha, ← Option.not_isNone, Bool.not_eq_true', ← Bool.not_eq_true]; exact ha

/-! ### The seal -/

/-- A seal leaves the commands in flight, and the stripe sealed with the next face sequence and its k′. -/
theorem State.sealStripe_sealed {s : State} {g n : Nat} {x : Stripe} (hx : s.stripe? g n = some x) :
    (s.sealStripe g n).cmds = s.cmds ∧ ∃ z, (s.sealStripe g n).stripe? g n = some z ∧ z.state = .sealed ∧
      z.fseq = (s.group g).fseq + 1 ∧ z.kp = max 1 (ceilDiv x.blocks.length 16) := by
  unfold State.sealStripe
  rw [hx]
  dsimp -zeta only
  extract_lets +onlyGivenNames q len kp voids s1 s2 s3 s4 s5 add s6 s7
  have h4 : s4.SameLog s := (State.SameLog.refl s).updGroup.wr64.bump.bumpBy
  have h6 : s6.SameLog s5 := (State.SameLog.refl s5).of_eq
  have h7 : s7.SameLog s5 := by
    refine h6.foldl fun t i ht => ?_
    split
    · exact ht.issueM
    · exact ht
  have hend : (s7.syncGroup g).SameLog s5 := h7.syncGroup
  have hx4 : s4.stripe? g n = some x := (h4.stripe? g n).trans hx
  exact ⟨hend.2.trans h4.2, _, (hend.stripe? g n).trans (State.stripe?_updStripe hx4 _), rfl, rfl, rfl⟩

/-- With no command in flight a closed stripe that holds its data can seal when the delta queue has room (R272). -/
theorem State.canSeal_of_idle {s : State} {g n : Nat} {x : Stripe} (hx : s.stripe? g n = some x) (hclosed : x.state = .closed)
    (hfull : x.full = true) (hroom : s.dqUsed g + (s.newPendings g n).length ≤ 65536) (hidle : s.cmds = []) : s.canSeal g n = true := by
  have hnone : ∀ i, s.cmd? i = none := fun i => by rw [State.cmd?, hidle, List.find?_nil]
  simp [State.canSeal, State.stripeDispatched, hx, hclosed, hfull, hroom, hnone]

/-- A stripe that can seal seals. -/
theorem State.trySeal_of_canSeal {s : State} {g n : Nat} (h : s.canSeal g n = true) : s.trySeal g n = s.sealStripe g n := by
  obtain ⟨x, hx, hcan⟩ := (Option.any_eq_true _ _).1 h
  simp only [Bool.and_eq_true, beq_iff_eq, decide_eq_true_eq] at hcan
  obtain ⟨⟨⟨hclosed, hfull⟩, hdispatched⟩, hroom⟩ := hcan
  simp [State.trySeal, hx, hclosed, hfull, hdispatched, Nat.not_lt.2 hroom]

/-- A check that passes, at once or replayed, counts itself beside the seal and leaves the log as the seal does (R232). -/
theorem State.sealChecked_sameLog {s : State} {g n : Nat} {check : ParCheck} (h : s.canSeal g n = true) (hcheck : check ≠ .failed) :
    (s.sealChecked g n check).SameLog (s.sealStripe g n) := by
  have hsame : (s.trySeal g n).SameLog (s.sealStripe g n) := by
    rw [State.trySeal_of_canSeal h]; exact .refl _
  rw [State.sealChecked, if_neg (by simp [h])]
  cases check with
  | ok => exact hsame.bump
  | replayed hdrOk => exact hsame.bump.bump.countRepair
  | failed => exact absurd rfl hcheck

/-- With no staged data found bad a seal is the checked seal, and the places it gives to commands that wait. -/
theorem exec_stripeSeal_good (s : State) (g n : Nat) (check : ParCheck) :
    exec (.stripeSeal g n [] check) s = .next ((s.sealChecked g n check).placeWaiting g) := by
  change execStripeSeal g n [] check s = _
  cases hx : s.stripe? g n <;> simp [execStripeSeal, hx]

/-! ### The expiry of the two times and the release (R239, R249) -/

theorem exec_sealTimeExpiry_due {s : State} {g n t : Nat} {x : Stripe} (hx : s.stripe? g n = some x) (hopen : x.state = .opened)
    (hfirst : x.firstAt = some t) (hdue : s.due (t + s.sealTime x) = true) :
    exec (.sealTimeExpiry g n) s = .next ((s.closeStripe g n).syncGroup g) := by
  change execSealTimeExpiry g n s = _
  simp [execSealTimeExpiry, hx, hopen, hfirst, hdue]

/-- With no command in flight the wait's expiry makes the places without data void and leaves the rest of the log. -/
theorem exec_sealWaitExpiry_due {s : State} {g n : Nat} {x : Stripe} (hx : s.stripe? g n = some x) (hclosed : x.state = .closed)
    (hlate : x.full = false) (hdue : s.due (x.closedAt + usU (s.rd (F.LAY_GSEAL_SEAL_WAIT_US g))) = true) (hidle : s.cmds = []) :
    ∃ t, exec (.sealWaitExpiry g n) s = .next t ∧ t.SameLog (s.voidLate g n) := by
  refine ⟨_, rfl, ?_⟩
  rw [hx]
  dsimp -zeta only
  rw [if_pos (by simp [hclosed, hlate, hdue])]
  extract_lets +onlyGivenNames late s1 ids
  have hvoid : (s.voidLate g n).cmds = [] := hidle
  have h1 : s1.SameLog (s.voidLate g n) := .refl _
  refine h1.foldl fun a i ha => ?_
  extract_lets +onlyGivenNames mine other s2 s3
  have h2 : s2.SameLog (s.voidLate g n) := ha.updCmd hvoid
  have h3 : s3 = s2 := by
    unfold s3
    rw [State.cmd?, h2.idle hvoid, List.find?_nil]
  rw [h3, State.placeCmd_of_idle (h2.idle hvoid)]
  exact h2

/-- With no command in flight a FREEING stripe that nothing holds leaves the list of stripes, and no other enters it. -/
theorem exec_stripeRelease_free {s : State} {g n : Nat} {x : Stripe} (hx : s.stripe? g n = some x) (hfreeing : x.state = .freeing)
    (hdurable : x.freeDurable = true) (hreads : s.readsIn g n = false) (hrelocs : s.stripes.all (fun y => y.relocs.isEmpty) = true)
    (hfence : s.fenceEnd = none) (hidle : s.cmds = []) :
    ∃ t, exec (.stripeRelease g n) s = .next t ∧ t.stripes = s.stripes.filter fun y => !(y.group == g && y.num == n) := by
  have hnamed : ((s.stripesOf g).any fun y => y.relocs.any fun r => r.newStripe == n) = false := by
    refine List.any_eq_false.2 fun y hy => ?_
    have hempty : y.relocs = [] := List.isEmpty_iff.1 (List.all_eq_true.1 hrelocs y (List.mem_filter.1 hy).1)
    simp [hempty]
  refine ⟨_, rfl, ?_⟩
  rw [hx]
  dsimp -zeta only
  extract_lets +onlyGivenNames named held
  have hheld : held = false := by
    unfold held
    rw [hfence]
  rw [if_pos (by simp [hfreeing, hdurable, hreads, hheld, named, hnamed])]
  extract_lets +onlyGivenNames s1
  have hidle1 : s1.cmds = [] := hidle
  have h1 : (s1.syncGroup g).SameLog s1 := (State.SameLog.refl s1).syncGroup
  rw [State.placeWaiting_of_idle (h1.idle hidle1)]
  exact (h1.syncHealth hidle1).1

end Sys2Proof.Machine

namespace Sys2Proof

open Machine

/-- Settles O25: a stripe is changed by its clause alone, for what follows, the group's figures and events, leaves the log as it is, and
no command in flight has places to be given. -/
theorem workingFace : Obligations.WorkingFace := by
  refine ⟨?close, ?sealed, ?void, ?release⟩
  case close =>
    intro s group stripe x t0 hx hopen hfirst hdue
    have hsame : ((s.closeStripe group stripe).syncGroup group).SameLog (s.closeStripe group stripe) := (State.SameLog.refl _).syncGroup
    refine .of_exec (exec_sealTimeExpiry_due hx hopen hfirst hdue) ?_
    rw [hsame.stripe?, State.stripe?_closeStripe hx]
    simp
  case sealed =>
    intro s group stripe check x hcheck hx hclosed hfull hroom hidle
    have hcan := State.canSeal_of_idle hx hclosed hfull hroom hidle
    have hsame := State.sealChecked_sameLog hcan hcheck
    obtain ⟨hcmds, z, hz, hstate, hseq, hkp⟩ := State.sealStripe_sealed hx
    refine .of_exec (exec_stripeSeal_good s group stripe check) ?_
    rw [State.placeWaiting_of_idle (hsame.idle (hcmds.trans hidle)), hsame.stripe?, hz]
    simp [hstate, hseq, hkp]
  case void =>
    intro s group stripe x hx hclosed hlate hdue hidle
    obtain ⟨t, hexec, hsame⟩ := exec_sealWaitExpiry_due hx hclosed hlate hdue hidle
    refine .of_exec hexec ?_
    rw [hsame.stripe?, State.stripe?_voidLate hx, Option.any_some, Stripe.full, all_isSome_mapIf_toVoid]
    simp [mapIf]
  case release =>
    intro s group stripe x hx hfreeing hdurable hreads hrelocs hfence hidle
    obtain ⟨t, hexec, hstripes⟩ := exec_stripeRelease_free hx hfreeing hdurable hreads hrelocs hfence hidle
    refine .of_exec hexec ?_
    rw [State.stripe?, hstripes, List.find?_eq_none]
    intro y hy
    have hother := (List.mem_filter.1 hy).2
    rwa [Bool.not_eq_true', ← Bool.not_eq_true] at hother

end Sys2Proof
end

section
/-!
Patrol (R331, R332): a visit waits for the commands that lock the stripe's data blocks, then O28.
-/

namespace Sys2Proof.Machine

/-- A patrol visit of a stripe whose data blocks a command holds locked does nothing yet (R332). -/
theorem exec_patrolVisit_fixLocked {s : State} {g : Nat} {sr : SRef} (finds : List PatrolFind) (hprio : (s.group g).priority = false)
    (hnext : (s.patrolList g)[(s.group g).patrolAt]? = some sr) (hlocked : s.fixLocked sr = true) :
    exec (.patrolVisit g finds) s = .next s := by
  change execPatrolVisit g finds s = _
  simp [execPatrolVisit, hprio, hnext, hlocked]

/-- Namespace 1 in the fixed layout, on row 0 of its group. -/
def fixedNamespace : Namespace := { readyNamespace with fixed := true, nsze := 64, ncap := 64, rows := [(0, 1)] }

/-- A dispatched Write of its block 0. -/
def lockingWrite : Cmd := { metFlush with nv := { flushAll with opc := 0x01, nsid := 1 }, phase := .dispatched, result := none }

/-- A unit with that namespace and that Write, in whose group of five members, 4 + 1, patrol is to visit the fixed stripe. -/
def patrolWaits : State :=
  let s : State := { State.reset with
    nss := [fixedNamespace], cmds := [lockingWrite], nextCmd := 2
    groups := { Group.cold with configured := true, mounted := true, rows := 4, fixedRows := 1 } :: List.replicate 7 Group.cold }
  (((s.wr (F.LAY_GCFG_GEOM 0) 1).wr (F.LAY_GCFG_K 0) 4).wr (F.LAY_GMEM_LO_SLOTS 0) 31).wr F.LAY_PAT_CFG_PAT_EN 1

end Sys2Proof.Machine

namespace Sys2Proof

open Machine

/-- Refutes O28: while a Write holds the lock of a fixed stripe's data blocks the visit of that stripe waits (R332), so the pass does not
go on to the next. -/
theorem not_backgroundWork : ¬Obligations.BackgroundWork := by
  rintro ⟨-, -, -, -, hpatrol, -⟩
  have hnext : (patrolWaits.patrolList 0)[(patrolWaits.group 0).patrolAt]? = some (.fix 0 0 0) := by decide +kernel
  obtain ⟨t, hexec, hon⟩ := hpatrol patrolWaits 0 (.fix 0 0 0) rfl rfl rfl (by decide +kernel) (by decide +kernel) hnext
  rw [exec_patrolVisit_fixLocked [] rfl hnext (by decide +kernel)] at hexec
  cases hexec
  exact absurd hon (by decide +kernel)

end Sys2Proof
end

section
/-!
The survey area (R263 to R271): a page that is read for a lookup comes into its role's bank, then O26.
-/

namespace Sys2Proof.Machine

/-- Page 0 of namespace 1, in object slot 0 of its group, being read for a lookup that missed it (R270). -/
def loadingPage : SvyObj := { leftPage with gen := readyNamespace.gen, copies := [0, 1, 2], loading := true }

/-- A unit with that page, whose group of five members is in service. -/
def loadingState : State :=
  let s : State := { State.reset with
    nss := [readyNamespace], objs := [loadingPage]
    slots := List.replicate 5 { Slot.cold with state := 1 } ++ List.replicate 43 Slot.cold
    groups := { Group.cold with configured := true, mounted := true, rows := 4 } :: List.replicate 7 Group.cold }
  ((s.wr (F.LAY_GCFG_GEOM 0) 1).wr (F.LAY_GCFG_K 0) 4).wr (F.LAY_GMEM_LO_SLOTS 0) 31

/-- The outcome holds an object in the bank of its role. -/
def leavesInBank (o : Host.Outcome State Fault Refusal) : Bool :=
  match o with
  | .next t => t.objs.any (·.inBank)
  | _ => false

end Sys2Proof.Machine

namespace Sys2Proof

open Machine

/-- Refutes O26: a page loaded without a failed copy is used by the lookup that missed it, so it also comes into the bank of its role
(R269), where the clause leaves its place in the bank as it was. -/
theorem not_surveyArea : ¬Obligations.SurveyArea := by
  rintro ⟨-, hload, -⟩
  obtain ⟨t, hexec, hobjs⟩ :=
    hload loadingState 0 0 0 1 0 loadingPage rfl rfl rfl rfl (by decide) rfl (by decide +kernel) rfl rfl
  have hbank : leavesInBank (exec (.surveyObjectLoaded 0 0 0 1 0 []) loadingState) = true := by decide +kernel
  have houtside : leavesInBank (.next t) = false := by rw [leavesInBank, hobjs]; rfl
  rw [hexec, houtside] at hbank
  exact absurd hbank Bool.false_ne_true

end Sys2Proof
end

section
/-!
Tail cutting during the priority patrol that follows tally loss (R303, R313): a read that has passed its deadline waits for the visit of its
stripe, then O29.
-/

namespace Sys2Proof.Machine

/-- A late read of a block whose stripe the priority patrol has still to visit is not reconstructed yet (R303). -/
theorem exec_tailCutDeadline_patrolFirst {s : State} {job : Nat} {j : ReadJob} (hjob : s.jobs.find? (fun j => j.id == job) = some j)
    (hfirst : s.patrolFirst j.target = true) : exec (.tailCutDeadline job) s = .next s := by
  change execTailCutDeadline job s = _
  simp only [execTailCutDeadline, hjob, hfirst, Bool.not_true, Bool.and_false, Bool.false_and, Bool.false_eq_true, if_false]
  cases (s.cmd? j.cmd).bind fun c => s.ns? c.nv.nsid with
  | none => rfl
  | some n => cases s.recon (j.target :: j.bad) j.target <;> rfl

/-- A dispatched Read of block 0 of the fixed namespace. -/
def dispatchedRead : Cmd := { lockingWrite with nv := { flushAll with opc := 0x02, nsid := 1 } }

/-- The block that a slab of the first fixed stripe holds at offset 0. -/
def firstStripeBlock (slab : Nat) : BRef := { stripe := .fix 0 0 0, slab := slab, blk := 0 }

/-- The read of its block, issued at 0 and not completed. -/
def lateRead : ReadJob :=
  { id := 0, cmd := dispatchedRead.id, idx := 0, target := firstStripeBlock 0, awaiting := [firstStripeBlock 0], have_ := [], bad := [],
    issued := 0, cut := false }

/-- A unit 50 µs later, at the deadline of the namespace's class, whose tally was lost and whose priority patrol has visited no stripe of the
group of five members in service, 4 + 1. -/
def tallyLostState : State :=
  let s : State := { State.reset with
    tim := { Tim.cold with count := usU 50 }
    nss := [fixedNamespace], cmds := [dispatchedRead], nextCmd := 2, jobs := [lateRead], nextJob := 1
    mcmds := [{ tag := ⟨0, 1, 0⟩, work := .read (firstStripeBlock 0) lateRead.id, issued := 0, quarantined := false }]
    slots := List.replicate 5 { Slot.cold with state := 1 } ++ List.replicate 43 Slot.cold
    groups := { Group.cold with configured := true, mounted := true, rows := 4, fixedRows := 1, priority := true, patrolled := [] } ::
      List.replicate 7 Group.cold }
  ((((s.wr (F.LAY_GCFG_GEOM 0) 1).wr (F.LAY_GCFG_K 0) 4).wr (F.LAY_GMEM_LO_SLOTS 0) 31).wr F.JNL_STAT_LOST 1).wr F.LAY_TCUT_CFG_DL0 5

end Sys2Proof.Machine

namespace Sys2Proof

open Machine

/-- Refutes O29: after tally loss a read that needs reconstruction from a stripe not yet patrolled waits for the visit of that stripe (R303),
so the late read of the first block is not tail-cut, although the four other slabs determine the block. -/
theorem not_tallyStore : ¬Obligations.TallyStore := by
  rintro ⟨-, -, -, htailCut⟩
  have hnamespace :
      ((tallyLostState.cmd? lateRead.cmd).bind fun c => tallyLostState.ns? c.nv.nsid) = some fixedNamespace := by decide +kernel
  have hothers : tallyLostState.recon (lateRead.target :: lateRead.bad) lateRead.target = some ([1, 2, 3, 4].map firstStripeBlock) := by
    decide +kernel
  obtain ⟨t, hexec, hcut⟩ := htailCut tallyLostState lateRead.id lateRead fixedNamespace _ rfl rfl hnamespace (by decide +kernel)
    (by decide +kernel) (by decide +kernel) rfl (by decide) hothers
  rw [exec_tailCutDeadline_patrolFirst rfl (by decide +kernel)] at hexec
  cases hexec
  exact absurd hcut (by decide +kernel)

end Sys2Proof
end

section
/-!
The command queue and the state after reset: O1 and O4.
-/

-- One declaration at a time, as with the lemmas about a serving unit.
set_option Elab.async false

namespace Sys2Proof

open Machine

/-- Settles O1: a step takes the front of the queue off and runs it. -/
theorem stepRunsTheFront : Obligations.StepRunsTheFront := by
  unfold Obligations.StepRunsTheFront
  intro c s
  rfl

/-- Settles O4: the register file after reset is empty, the fuses are those made, and the benches are 57 cold ones. -/
theorem resetIsSound : Obligations.ResetIsSound := by
  unfold Obligations.ResetIsSound
  refine ⟨rfl, ⟨?_, ?_, ?_, ?_⟩, List.length_replicate⟩
  all_goals decide

end Sys2Proof
end

section
/-!
Security versions (R587): a commit that waits for the end of a reload in place (R612), then O7.
-/

-- One declaration at a time, as with the lemmas about a serving unit.
set_option Elab.async false

namespace Sys2Proof.Machine

/-- An image with security versions 5 and 6. -/
def raisedImage : BankImg := { bareImage with hdr := { bareImage.hdr with fwSvn := 5, ownSvn := 6 } }

/-- A unit that serves from its preferred bank, whose bench 8 reloads in place, where a write of TRU_CTL.SVN_COMMIT waits for the end of
the reload. -/
def heldCommitState : State :=
  { State.reset with
    bench := State.reset.bench.set 1 { Bench.cold with state := .active }
    boot := { Boot.cold with held := none, ended := [2, 15], img := some raisedImage, bank := 1 }
    live := { Live.cold with busy := [(8, 0, false)], waits := [.write 0x101004 1 1] } }

/-- The outcome is a next state with another firmware version fused. -/
def changesVersion (s : State) (o : Host.Outcome State Fault Refusal) : Bool :=
  match o with
  | .next t => t.fuses.fwSvn != s.fuses.fwSvn
  | _ => false

end Sys2Proof.Machine

namespace Sys2Proof

open Machine

/-- Refutes O7: an accepted write of SVN_COMMIT that had to wait for a reload (R612) is carried out by the command that ends the reload,
which writes no register itself. -/
theorem not_securityVersions : ¬Obligations.SecurityVersions := by
  rintro ⟨hall, -⟩
  have hchanged : changesVersion heldCommitState (exec (.benchReloadDone false 8 true true) heldCommitState) = true := by decide +kernel
  obtain ⟨t, hexec⟩ : ∃ t, exec (.benchReloadDone false 8 true true) heldCommitState = .next t := ⟨_, rfl⟩
  rw [hexec, changesVersion, bne_iff_ne] at hchanged
  obtain ⟨-, honly⟩ := hall _ _ _ hexec
  exact (honly (.inl hchanged)).elim nofun id

end Sys2Proof
end

section
/-!
Frames held for a role that is re-bound (R452): they leave the packet buffer, and SWC asks the MAC they came from for no pause any more
(R462), so that the MAC's record changes. Then O49, O52, O55 and O60.
-/

-- One declaration at a time, as with the lemmas about a serving unit.
set_option Elab.async false

namespace Sys2Proof.Machine

/-- A frame of class 3 from MAC 0 that the switch core holds for XPT role 0. -/
def roleFrame : SwFrame :=
  { handle := 0, dst := 0, vid := 0, input := 0, output := 32, cls := 3, cells := 1, pool := .shared, len := 64, colour := 0, ce := false,
    head := 0, time := 0, ptp := none }

/-- A unit that rotates XPT role 0 from bench 17, which 16 repairs of the last second have reached, to the spare 21; the switch core holds
a frame for that role and asks MAC 0, from which it came, to pause its class. -/
def rotatingState : State :=
  { State.reset with
    bench := ((State.reset.bench.set 0 { Bench.cold with state := .active }).set 17
      { Bench.cold with state := .active, role := some 0, repairs := List.replicate 16 0 }).set 21 { Bench.cold with state := .spare }
    rot := State.reset.rot.set 0 { Rotation.cold with busy := some (0, 4, 0) }
    swq := [roleFrame]
    macs := State.reset.macs.set 0 { Mac.cold with asked := [3] } }

/-- The outcome is a next state in which SWC asks MAC 0 for no pause. -/
def endsPause (o : Host.Outcome State Fault Refusal) : Bool :=
  match o with
  | .next t => (t.mac 0).asked == []
  | _ => false

/-- Where SWC asks for no pause any more, the MACs have changed. -/
theorem macs_ne_of_endsPause {t : State} {o : Host.Outcome State Fault Refusal} (h : endsPause o = true) (ho : o = .next t) :
    t.macs ≠ rotatingState.macs := by
  subst ho
  intro heq
  have hasked : (t.mac 0).asked = (rotatingState.mac 0).asked := by rw [State.mac, heq]; rfl
  rw [endsPause, hasked] at h
  exact absurd h (by decide)

end Sys2Proof.Machine

namespace Sys2Proof

open Machine

/-- Refutes O49: the rebinding that ends a rotation releases the held frame, and MAC 0 is asked for no pause any more. -/
theorem not_benchAndTimeFrames : ¬Obligations.BenchAndTimeFrames := by
  rintro ⟨-, -, -, -, -, -, -, hdrained, -⟩
  obtain ⟨t, hexec, hframe, -⟩ := hdrained 0 rotatingState (by decide +kernel)
  exact macs_ne_of_endsPause (by decide +kernel) hexec (congrArg State.macs hframe).symm

/-- Refutes O52: the reload of the spare gives up the rotation onto it, which releases the held frame to the outgoing instance. -/
theorem not_etherAndEndpointFrames : ¬Obligations.EtherAndEndpointFrames := by
  rintro ⟨-, -, -, -, -, -, -, -, -, -, -, -, -, -, -, -, -, -, -, -, -, -, -, -, -, -, hreload, -⟩
  obtain ⟨t, hexec, hframe, -⟩ := hreload 21 rotatingState (by decide +kernel)
  exact macs_ne_of_endsPause (by decide +kernel) hexec (congrArg State.macs hframe).symm

/-- Refutes O55: a seventeenth repair in 1 s faults bench 17 (R24), and its role's takeover releases the held frame. -/
theorem not_benchAndTransportFields : ¬Obligations.BenchAndTransportFields := by
  rintro ⟨hrepair, -⟩
  obtain ⟨t, hexec, hframe⟩ := hrepair 17 ⟨1, true, none, none, none⟩ true rotatingState
  exact macs_ne_of_endsPause (by decide +kernel) hexec (congrArg State.macs hframe).symm

/-- Refutes O60: the reload of the spare ordered by a write of CTL_LIVE_CMD releases the held frame as well. -/
theorem not_pairAndManagementFields : ¬Obligations.PairAndManagementFields := by
  rintro ⟨-, -, -, -, -, -, -, -, -, -, -, -, -, -, -, -, -, -, hwrite, -⟩
  obtain ⟨t, hexec, hkept⟩ := hwrite 5 0x5008 (BitVec.ofNat 32 (256 + 21)) rotatingState
  have hmacs : t.macs = rotatingState.macs := by simp only [hkept]
  exact macs_ne_of_endsPause (by decide +kernel) hexec hmacs

end Sys2Proof
end

section
/-!
Markers (R463): a frame that the haul brings is coloured by the marker of the haul port and its class, then O59.
-/

-- One declaration at a time, as with the lemmas about a serving unit.
set_option Elab.async false

namespace Sys2Proof.Machine

/-- A frame of 64 bytes without a tag. -/
def plainFrame : EthFrame :=
  { len := 64, corr := 0, uncorr := 0, fcsOk := true, stag := false, tag := none, tag2 := false, dst := 2, src := 4, etype := 0x88B5,
    ip := none, key := 0, hdr := 14, head := 0, cellOk := true }

/-- A unit whose haul is up and that colours the frames of class 0 of the haul port by marker 0. -/
def colouringState : State :=
  ((((State.reset.wr F.HAL_PAIR_STAT_H0_UP 1).wr (F.SWC_PCLS_LO_POL0 36) 1).wr (F.SWC_POL_A_CBS 0) 1).wr (F.SWC_POL_B_PIR 0) 1).wr
    (F.SWC_POL_B_PBS 0) 1

/-- The outcome is a next state in which 64 bytes, in 1/32,000 byte, are missing in both buckets of marker 0. -/
def chargesMarker (o : Host.Outcome State Fault Refusal) : Bool :=
  match o with
  | .next t => t.markers.head? == some (64 * 32000, 64 * 32000, 0)
  | _ => false

end Sys2Proof.Machine

namespace Sys2Proof

open Machine

/-- Refutes O59: a frame from the haul charges the marker that its port and class name. -/
theorem not_etherAndStartFields : ¬Obligations.EtherAndStartFields := by
  rintro ⟨-, -, hforward, -⟩
  obtain ⟨t, hexec, hframe⟩ := hforward 0 0 (some 0) plainFrame colouringState
  have hcharged : chargesMarker (exec (.haulForwardFrame 0 0 (some 0) plainFrame) colouringState) = true := by decide +kernel
  have hmarkers : t.markers = colouringState.markers := (congrArg State.markers hframe).symm
  rw [hexec, chargesMarker, hmarkers] at hcharged
  exact absurd hcharged (by decide)

end Sys2Proof
end

section
/-!
What a function of the model leaves as it was. A mask is a number whose bit i stands for the i-th piece of the state, in the order of
State; the bits from 120 on stand for register words. `t.Keeps m s` says that t has every piece of s that m does not name, and that going
from s to t kept the waiting commands, the form of the register file, the ranges of the fuses and the 57 benches.
-/

-- One declaration at a time, as with the lemmas about a serving unit.
set_option Elab.async false

namespace Sys2Proof.Machine

/-- Every piece that m names is taken from t, every other one from s. -/
def State.blend (m : Nat) (s t : State) : State where
  pending := s.pending
  part := bif m.testBit 0 then t.part else s.part
  regs := bif m.testBit 1 then t.regs else s.regs
  bench := bif m.testBit 2 then t.bench else s.bench
  lanes := bif m.testBit 3 then t.lanes else s.lanes
  chans := bif m.testBit 4 then t.chans else s.chans
  unacked := bif m.testBit 5 then t.unacked else s.unacked
  rot := bif m.testBit 6 then t.rot else s.rot
  faultDeclared := bif m.testBit 7 then t.faultDeclared else s.faultDeclared
  tim := bif m.testBit 8 then t.tim else s.tim
  evlog := bif m.testBit 9 then t.evlog else s.evlog
  out := bif m.testBit 10 then t.out else s.out
  freeCount := bif m.testBit 11 then t.freeCount else s.freeCount
  subs := bif m.testBit 12 then t.subs else s.subs
  conns := bif m.testBit 13 then t.conns else s.conns
  freed := bif m.testBit 14 then t.freed else s.freed
  idents := bif m.testBit 15 then t.idents else s.idents
  nss := bif m.testBit 16 then t.nss else s.nss
  freedNsids := bif m.testBit 17 then t.freedNsids else s.freedNsids
  tenants := bif m.testBit 18 then t.tenants else s.tenants
  msnap := bif m.testBit 19 then t.msnap else s.msnap
  msaved := bif m.testBit 20 then t.msaved else s.msaved
  tsaved := bif m.testBit 21 then t.tsaved else s.tsaved
  msaveAt := bif m.testBit 22 then t.msaveAt else s.msaveAt
  ctrls := bif m.testBit 23 then t.ctrls else s.ctrls
  freedCtrls := bif m.testBit 24 then t.freedCtrls else s.freedCtrls
  subnqn := bif m.testBit 25 then t.subnqn else s.subnqn
  cmds := bif m.testBit 26 then t.cmds else s.cmds
  stalled := bif m.testBit 27 then t.stalled else s.stalled
  sbcWant := bif m.testBit 28 then t.sbcWant else s.sbcWant
  sbcShift := bif m.testBit 29 then t.sbcShift else s.sbcShift
  nextCmd := bif m.testBit 30 then t.nextCmd else s.nextCmd
  roleV := bif m.testBit 31 then t.roleV else s.roleV
  grants := bif m.testBit 32 then t.grants else s.grants
  taskGrants := bif m.testBit 33 then t.taskGrants else s.taskGrants
  periodAt := bif m.testBit 34 then t.periodAt else s.periodAt
  rebAt := bif m.testBit 35 then t.rebAt else s.rebAt
  groups := bif m.testBit 36 then t.groups else s.groups
  stripes := bif m.testBit 37 then t.stripes else s.stripes
  entryNotice := bif m.testBit 38 then t.entryNotice else s.entryNotice
  survey := bif m.testBit 39 then t.survey else s.survey
  pendings := bif m.testBit 40 then t.pendings else s.pendings
  objs := bif m.testBit 41 then t.objs else s.objs
  svy := bif m.testBit 42 then t.svy else s.svy
  sweeps := bif m.testBit 43 then t.sweeps else s.sweeps
  tally := bif m.testBit 44 then t.tally else s.tally
  fixupds := bif m.testBit 45 then t.fixupds else s.fixupds
  fixblks := bif m.testBit 46 then t.fixblks else s.fixblks
  slots := bif m.testBit 47 then t.slots else s.slots
  badBlks := bif m.testBit 48 then t.badBlks else s.badBlks
  mcmds := bif m.testBit 49 then t.mcmds else s.mcmds
  mwaits := bif m.testBit 50 then t.mwaits else s.mwaits
  jobs := bif m.testBit 51 then t.jobs else s.jobs
  nextJob := bif m.testBit 52 then t.nextJob else s.nextJob
  tcutSpent := bif m.testBit 53 then t.tcutSpent else s.tcutSpent
  rindex := bif m.testBit 54 then t.rindex else s.rindex
  reshape := bif m.testBit 55 then t.reshape else s.reshape
  windows := bif m.testBit 56 then t.windows else s.windows
  winops := bif m.testBit 57 then t.winops else s.winops
  nextOp := bif m.testBit 58 then t.nextOp else s.nextOp
  nextVer := bif m.testBit 59 then t.nextVer else s.nextVer
  pends := bif m.testBit 60 then t.pends else s.pends
  lines := bif m.testBit 61 then t.lines else s.lines
  sectors := bif m.testBit 62 then t.sectors else s.sectors
  maint := bif m.testBit 63 then t.maint else s.maint
  notices := bif m.testBit 64 then t.notices else s.notices
  frames := bif m.testBit 65 then t.frames else s.frames
  serials := bif m.testBit 66 then t.serials else s.serials
  dimms := bif m.testBit 67 then t.dimms else s.dimms
  frameFails := bif m.testBit 68 then t.frameFails else s.frameFails
  mirrorOut := bif m.testBit 69 then t.mirrorOut else s.mirrorOut
  mseq := bif m.testBit 70 then t.mseq else s.mseq
  fenceEnd := bif m.testBit 71 then t.fenceEnd else s.fenceEnd
  trimGather := bif m.testBit 72 then t.trimGather else s.trimGather
  msnapBad := bif m.testBit 73 then t.msnapBad else s.msnapBad
  imgDamaged := bif m.testBit 74 then t.imgDamaged else s.imgDamaged
  keyTab := bif m.testBit 75 then t.keyTab else s.keyTab
  cips := bif m.testBit 76 then t.cips else s.cips
  adminWaits := bif m.testBit 77 then t.adminWaits else s.adminWaits
  nssro := bif m.testBit 78 then t.nssro else s.nssro
  ports := bif m.testBit 79 then t.ports else s.ports
  stage := bif m.testBit 80 then t.stage else s.stage
  drvPowered := bif m.testBit 81 then t.drvPowered else s.drvPowered
  macs := bif m.testBit 82 then t.macs else s.macs
  eports := bif m.testBit 83 then t.eports else s.eports
  prtStat := bif m.testBit 84 then t.prtStat else s.prtStat
  swq := bif m.testBit 85 then t.swq else s.swq
  markers := bif m.testBit 86 then t.markers else s.markers
  policed := bif m.testBit 87 then t.policed else s.policed
  swcNotices := bif m.testBit 88 then t.swcNotices else s.swcNotices
  samples := bif m.testBit 89 then t.samples else s.samples
  arrivals := bif m.testBit 90 then t.arrivals else s.arrivals
  epfs := bif m.testBit 91 then t.epfs else s.epfs
  epReads := bif m.testBit 92 then t.epReads else s.epReads
  epFetches := bif m.testBit 93 then t.epFetches else s.epFetches
  epTlpAt := bif m.testBit 94 then t.epTlpAt else s.epTlpAt
  epL1 := bif m.testBit 95 then t.epL1 else s.epL1
  epCmdAt := bif m.testBit 96 then t.epCmdAt else s.epCmdAt
  epLtrActive := bif m.testBit 97 then t.epLtrActive else s.epLtrActive
  epQuarNotice := bif m.testBit 98 then t.epQuarNotice else s.epQuarNotice
  fuses := bif m.testBit 99 then t.fuses else s.fuses
  flash := bif m.testBit 100 then t.flash else s.flash
  boot := bif m.testBit 101 then t.boot else s.boot
  tru := bif m.testBit 102 then t.tru else s.tru
  chain := bif m.testBit 103 then t.chain else s.chain
  pair := bif m.testBit 104 then t.pair else s.pair
  live := bif m.testBit 105 then t.live else s.live
  mgt := bif m.testBit 106 then t.mgt else s.mgt

/-- The register words that the frames tell apart, each by a field of it, with its indices. -/
inductive Family where
  | CHN_CHAIN_STAT_ADDR | CHN_CRC_ERR | CHN_HOP_DELAY_DELAY | CHN_RX_FRM | CHN_SMB_PEC | CHN_SMB_TO | CHN_TX_FRM | CIP_KC_HIT | CIP_KC_MISS
  | CIP_KC_WAIT | CIP_STAT_IV_LOST | CMD_DONE | CMD_RX | CTL_EVLOG_TOTAL_HI | CTL_EVLOG_TOTAL_LO | CTL_LIVE_STAT_HOLD | DRV_CMD |
  DRV_PSTAT_CONTAINED | DRV_RETRAIN | EPT_STAT_RELAY | HAL_CFG_H0_EN | HAL_PAIR_STAT_FENCE_HELD | HAL_RESEND | HAL_TX_FRM | JNL_SEQ_HI |
  JNL_SEQ_LO | LAY_GSTAT_ENTRY_HOLD | LAY_HOLD_US | LAY_ORDER_STAT_PCT | LAY_TCUT | LAY_TCUT_CFG_DL0 | MEM_CACHE_CTL_DIS_PENDING |
  MEM_CACHE_STAT_AT_LIMIT | MEM_CHSTAT_HOT | MEM_STAT_READY | SVY_DLOG_BLK | SVY_GSTAT_DLOG_USED | SVY_WB | SWC_STAT_FORWARDING | TIM_OFFSET
  | TIM_RATE | TIM_SHOT_STAT_PENDING | TIM_SRC_CFG_SRC | TIM_STAT_STATE | TRU_STAT_CMD_REFUSED | TRU_TOKEN_CMD_RESULT | XPT_REASM_DISCARD |
  XPT_RETX | XPT_TX_PKT

/-- The home key of a word of the family. -/
def Family.key : Family → Nat → Nat → Nat
  | .CHN_CHAIN_STAT_ADDR, _, _ => F.CHN_CHAIN_STAT_ADDR.key
  | .CHN_CRC_ERR, _, _ => F.CHN_CRC_ERR.key
  | .CHN_HOP_DELAY_DELAY, _, _ => F.CHN_HOP_DELAY_DELAY.key
  | .CHN_RX_FRM, _, _ => F.CHN_RX_FRM.key
  | .CHN_SMB_PEC, i, _ => (F.CHN_SMB_PEC i).key
  | .CHN_SMB_TO, i, _ => (F.CHN_SMB_TO i).key
  | .CHN_TX_FRM, _, _ => F.CHN_TX_FRM.key
  | .CIP_KC_HIT, i, _ => (F.CIP_KC_HIT i).key
  | .CIP_KC_MISS, i, _ => (F.CIP_KC_MISS i).key
  | .CIP_KC_WAIT, i, _ => (F.CIP_KC_WAIT i).key
  | .CIP_STAT_IV_LOST, i, _ => (F.CIP_STAT_IV_LOST i).key
  | .CMD_DONE, i, _ => (F.CMD_DONE i).key
  | .CMD_RX, i, _ => (F.CMD_RX i).key
  | .CTL_EVLOG_TOTAL_HI, _, _ => F.CTL_EVLOG_TOTAL_HI.key
  | .CTL_EVLOG_TOTAL_LO, _, _ => F.CTL_EVLOG_TOTAL_LO.key
  | .CTL_LIVE_STAT_HOLD, _, _ => F.CTL_LIVE_STAT_HOLD.key
  | .DRV_CMD, b, i => (F.DRV_CMD b i).key
  | .DRV_PSTAT_CONTAINED, b, i => (F.DRV_PSTAT_CONTAINED b i).key
  | .DRV_RETRAIN, b, i => (F.DRV_RETRAIN b i).key
  | .EPT_STAT_RELAY, _, _ => F.EPT_STAT_RELAY.key
  | .HAL_CFG_H0_EN, _, _ => F.HAL_CFG_H0_EN.key
  | .HAL_PAIR_STAT_FENCE_HELD, _, _ => F.HAL_PAIR_STAT_FENCE_HELD.key
  | .HAL_RESEND, _, _ => F.HAL_RESEND.key
  | .HAL_TX_FRM, _, _ => F.HAL_TX_FRM.key
  | .JNL_SEQ_HI, _, _ => F.JNL_SEQ_HI.key
  | .JNL_SEQ_LO, _, _ => F.JNL_SEQ_LO.key
  | .LAY_GSTAT_ENTRY_HOLD, i, _ => (F.LAY_GSTAT_ENTRY_HOLD i).key
  | .LAY_HOLD_US, i, _ => (F.LAY_HOLD_US i).key
  | .LAY_ORDER_STAT_PCT, _, _ => F.LAY_ORDER_STAT_PCT.key
  | .LAY_TCUT, i, _ => (F.LAY_TCUT i).key
  | .LAY_TCUT_CFG_DL0, _, _ => F.LAY_TCUT_CFG_DL0.key
  | .MEM_CACHE_CTL_DIS_PENDING, _, _ => F.MEM_CACHE_CTL_DIS_PENDING.key
  | .MEM_CACHE_STAT_AT_LIMIT, _, _ => F.MEM_CACHE_STAT_AT_LIMIT.key
  | .MEM_CHSTAT_HOT, i, _ => (F.MEM_CHSTAT_HOT i).key
  | .MEM_STAT_READY, _, _ => F.MEM_STAT_READY.key
  | .SVY_DLOG_BLK, i, _ => (F.SVY_DLOG_BLK i).key
  | .SVY_GSTAT_DLOG_USED, i, _ => (F.SVY_GSTAT_DLOG_USED i).key
  | .SVY_WB, i, _ => (F.SVY_WB i).key
  | .SWC_STAT_FORWARDING, _, _ => F.SWC_STAT_FORWARDING.key
  | .TIM_OFFSET, _, _ => F.TIM_OFFSET.key
  | .TIM_RATE, _, _ => F.TIM_RATE.key
  | .TIM_SHOT_STAT_PENDING, _, _ => F.TIM_SHOT_STAT_PENDING.key
  | .TIM_SRC_CFG_SRC, _, _ => F.TIM_SRC_CFG_SRC.key
  | .TIM_STAT_STATE, _, _ => F.TIM_STAT_STATE.key
  | .TRU_STAT_CMD_REFUSED, _, _ => F.TRU_STAT_CMD_REFUSED.key
  | .TRU_TOKEN_CMD_RESULT, _, _ => F.TRU_TOKEN_CMD_RESULT.key
  | .XPT_REASM_DISCARD, i, _ => (F.XPT_REASM_DISCARD i).key
  | .XPT_RETX, i, _ => (F.XPT_RETX i).key
  | .XPT_TX_PKT, i, _ => (F.XPT_TX_PKT i).key

/-- The bit of a family in a mask. -/
def Family.bit (f : Family) : Nat := 128 + f.ctorIdx

/-- A mask names the register word at a key: it names all words (bit 121) or a family that the key is of. -/
def Writable (m k : Nat) : Prop :=
  m.testBit 1 = true ∧ (m.testBit 121 = true ∨ ∃ (f : Family) (i j : Nat), m.testBit f.bit = true ∧ k = f.key i j)

/-- The mask names the words that raising an event changes. -/
def Raises (m : Nat) : Prop := m.testBit 1 = true ∧ m.testBit 120 = true

/-- What s keeps of s₀ outside the pieces that m names. -/
structure State.Keeps (s : State) (m : Nat) (s₀ : State) : Prop where
  pieces : s₀.blend m s = s
  sound : (RegFile.wf s₀.regs = true → RegFile.wf s.regs = true) ∧ (FusesSound s₀.fuses → FusesSound s.fuses) ∧
    (s₀.bench.length = 57 → s.bench.length = 57)
  words : ∀ k, ¬Writable m k → (Raises m → s₀.bench.length = 57 ∧ eventKey k = false) → s.word k = s₀.word k

/-- The outcome is a next state that keeps of s₀ what μ does not name. -/
def Answers (μ : Nat) (s₀ : State) (o : Host.Outcome State Fault Refusal) : Prop := ∃ t, o = .next t ∧ t.Keeps μ s₀

theorem State.Keeps.next {s s₀ : State} {μ : Nat} (h : s.Keeps μ s₀) : Answers μ s₀ (.next s) := ⟨s, rfl, h⟩

/-- The mask m names every piece that K names. -/
structure Covers (K m : Nat) : Prop where
  land_eq : Nat.land K m = K

theorem Covers.mono {K K' m : Nat} (h : Covers K' m) (hK : Nat.land K K' = K := by decide) : Covers K m := by
  have hassoc : (K &&& K') &&& m = K &&& (K' &&& m) := Nat.land_assoc K K' m
  have hK' : K &&& K' = K := hK
  have hm : K' &&& m = K' := h.land_eq
  rw [hm, hK'] at hassoc
  exact ⟨hassoc⟩

theorem Covers.refl (m : Nat) : Covers m m := ⟨Nat.and_self m⟩

theorem Covers.testBit {K m i : Nat} (h : Covers K m) (hi : K.testBit i = true) : m.testBit i = true := by
  have hbit : (K &&& m).testBit i = true := (congrArg (Nat.testBit · i) h.land_eq).trans hi
  rw [Nat.testBit_and, hi, Bool.true_and] at hbit
  exact hbit

theorem Covers.writable {K m k : Nat} (h : Covers K m) (hk : Writable K k) : Writable m k := by
  obtain ⟨hregs, hany | ⟨f, i, j, hf, heq⟩⟩ := hk
  · exact ⟨h.testBit hregs, .inl (h.testBit hany)⟩
  · exact ⟨h.testBit hregs, .inr ⟨f, i, j, h.testBit hf, heq⟩⟩

theorem Covers.raises {K m : Nat} (h : Covers K m) (hK : Raises K) : Raises m := ⟨h.testBit hK.1, h.testBit hK.2⟩

/-- A mask that names every register word names the word at any key. -/
theorem Writable.anyWord {m k : Nat} (h : Covers 0x2000000000000000000000000000002 m) : Writable m k := ⟨h.testBit (by decide), .inl (h.testBit (by
    decide))⟩

/-- A mask that names a family names its words. -/
theorem Covers.writes {K m : Nat} (h : Covers K m) (f : Family) (i : Nat) (j : Nat := 0)
    (hf : K.testBit 1 = true ∧ K.testBit f.bit = true := by decide) : Writable m (f.key i j) :=
  ⟨h.testBit hf.1, .inr ⟨f, i, j, h.testBit hf.2, rfl⟩⟩

theorem covers_two {m : Nat} (h : m.testBit 1 = true) : Covers 2 m := by
  refine ⟨Nat.eq_of_testBit_eq fun i => (Nat.testBit_and 2 m i).trans ?_⟩
  cases hi : Nat.testBit 2 i
  · rfl
  · obtain rfl : i = 1 := by simpa using (Nat.testBit_two_pow (n := 1) (m := i)).symm.trans hi |> of_decide_eq_true |> Eq.symm
    exact h

theorem cond_comm {α : Type} {p q : Bool} (h : q = true → p = true) (a b c : α) :
    (bif p then (bif q then c else b) else a) = bif q then c else bif p then b else a := by
  cases p <;> cases q <;> simp_all

theorem State.blend_blend {K m : Nat} (h : Covers K m) (s₀ s t : State) : s₀.blend m (s.blend K t) = (s₀.blend m s).blend K t := by
  have hfield : ∀ {α : Type} (i : Nat) (a b c : α), (bif m.testBit i then (bif K.testBit i then c else b) else a) =
      bif K.testBit i then c else bif m.testBit i then b else a := fun i => cond_comm h.testBit
  unfold State.blend
  simp only [hfield]

theorem State.blend_zero (s t : State) : s.blend 0 t = s := by
  simp only [State.blend, Nat.zero_testBit, cond_false]

namespace State.Keeps

theorem refl (m : Nat) (s : State) : s.Keeps m s where
  pieces := by simp only [State.blend, Bool.cond_self]
  sound := ⟨id, id, id⟩
  words _ _ _ := rfl

variable {s t s₀ : State} {K m : Nat}

theorem trans (h : s.Keeps m s₀) (ht : t.Keeps K s) (hK : Covers K m) : t.Keeps m s₀ where
  pieces := by rw [← ht.pieces, State.blend_blend hK, h.pieces]
  sound := ⟨ht.sound.1 ∘ h.sound.1, ht.sound.2.1 ∘ h.sound.2.1, ht.sound.2.2 ∘ h.sound.2.2⟩
  words k hk hev :=
    (ht.words k (hk ∘ hK.writable) fun hr => ⟨h.sound.2.2 (hev (hK.raises hr)).1, (hev (hK.raises hr)).2⟩).trans (h.words k hk hev)

theorem mono (h : s.Keeps K s₀) (hK : Covers K m) : s.Keeps m s₀ := (refl m s₀).trans h hK

/-- What differs in the named pieces alone, and neither in the registers nor in the number of benches, and keeps
the fuses sound. -/
theorem of_eq (h : s.Keeps m s₀) (hm : Covers K m := by assumption) (hpieces : s.blend K t = t := by rfl)
    (hregs : t.regs = s.regs := by rfl) (hfuses : FusesSound s.fuses → FusesSound t.fuses := by exact fun hf => hf)
    (hbench : t.bench.length = s.bench.length := by rfl) : t.Keeps m s₀ :=
  h.trans ⟨hpieces, ⟨fun hw => hregs ▸ hw, hfuses, fun hb => hbench.trans hb⟩, fun k _ _ => congrArg (RegFile.get · k) hregs⟩
    hm

theorem ite {p : Prop} [Decidable p] (h : s.Keeps m s₀) (ht : t.Keeps m s₀) : (if p then s else t).Keeps m s₀ := by
  split
  · exact h
  · exact ht

theorem foldl {γ : Type} {g : State → γ → State} {l : List γ} (h : s.Keeps m s₀) (hg : ∀ a x, a.Keeps m s₀ → (g a x).Keeps m s₀) :
    (l.foldl g s).Keeps m s₀ := foldl_keeps_of l (fun a ha x _ => hg a x ha) s h

theorem foldl_fst {β γ : Type} {g : State × β → γ → State × β} {l : List γ} {p : State × β} (h : p.1.Keeps m s₀)
    (hg : ∀ q x, q.1.Keeps m s₀ → (g q x).1.Keeps m s₀) : (l.foldl g p).1.Keeps m s₀ :=
  foldl_keeps_of (P := fun q : State × β => q.1.Keeps m s₀) l (fun q hq x _ => hg q x hq) p h

theorem of_fst {α : Type} {p : State × α} {a : α} (h : p.1.Keeps m s₀) (hp : p = (t, a)) : t.Keeps m s₀ := by
  rw [hp] at h; exact h

theorem of_snd {α : Type} {p : α × State} {a : α} (h : p.2.Keeps m s₀) (hp : p = (a, t)) : t.Keeps m s₀ := by
  rw [hp] at h; exact h

/-! ### The registers -/

/-- A register word changes whose key the mask names, or one that raising an event may change. -/
theorem setWord_of {k : Nat} {w : Word} (h : s.Keeps m s₀) (hregs : m.testBit 1 = true)
    (hk : ∀ k', ¬Writable m k' → (Raises m → s₀.bench.length = 57 ∧ eventKey k' = false) → k' ≠ k) : (s.setWord k w).Keeps m s₀ where
  pieces := by
    have hset : s.blend 2 (s.setWord k w) = s.setWord k w := rfl
    rw [← hset, State.blend_blend (covers_two hregs), h.pieces]
  sound := ⟨fun hw => RegFile.wf_set _ _ _ (h.sound.1 hw), h.sound.2.1, h.sound.2.2⟩
  words k' hk' hev := (State.word_setWord_other _ _ _ _ (hk k' hk' hev)).trans (h.words k' hk' hev)

theorem setWord {k : Nat} {w : Word} (h : s.Keeps m s₀) (hk : Writable m k) : (s.setWord k w).Keeps m s₀ :=
  h.setWord_of hk.1 fun _ hk' _ heq => hk' (heq ▸ hk)

theorem wr {f : Fld} {v : Nat} (h : s.Keeps m s₀) (hf : Writable m f.key := by exact .anyWord (.mono (by assumption))) :
    (s.wr f v).Keeps m s₀ := h.setWord hf

theorem bumpBy {f : Fld} {k : Nat} (h : s.Keeps m s₀) (hf : Writable m f.key := by exact .anyWord (.mono (by assumption))) :
    (s.bumpBy f k).Keeps m s₀ := h.wr hf

theorem bump {f : Fld} (h : s.Keeps m s₀) (hf : Writable m f.key := by exact .anyWord (.mono (by assumption))) :
    (s.bump f).Keeps m s₀ := h.wr hf

theorem setBit {f : Fld} {i : Nat} {b : Bool} (h : s.Keeps m s₀) (hf : Writable m f.key := by exact .anyWord (.mono (by assumption))) :
    (s.setBit f i b).Keeps m s₀ := h.wr hf

theorem wrB {f : Fld} {b : Bool} (h : s.Keeps m s₀) (hf : Writable m f.key := by exact .anyWord (.mono (by assumption))) :
    (s.wrB f b).Keeps m s₀ := h.wr hf

theorem wr64 {lo hi : Fld} {v : Nat} (h : s.Keeps m s₀) (hlo : Writable m lo.key := by exact .anyWord (.mono (by assumption)))
    (hhi : Writable m hi.key := by exact .anyWord (.mono (by assumption))) : (s.wr64 lo hi v).Keeps m s₀ := (h.wr hlo).wr hhi

/-! ### Benches, what is sent, and events -/

theorem send {o : Out} (h : s.Keeps m s₀) (hm : Covers 0x400 m := by exact .mono (by assumption)) : (s.send o).Keeps m s₀ := h.of_eq

theorem updBench {b : Nat} {f : Bench → Bench} (h : s.Keeps m s₀) (hm : Covers 0x4 m := by exact .mono (by assumption)) :
    (s.updBench b f).Keeps m s₀ := h.of_eq (hbench := List.length_modify _ _ _)

theorem controllerFault (h : s.Keeps m s₀) (hm : Covers 0x480 m := by exact .mono (by assumption)) : s.controllerFault.Keeps m s₀ := by
  unfold State.controllerFault
  refine h.ite ?_
  exact (h.send (o := .goodbye)).of_eq

theorem eventKey_of {b off : Nat} (hb : b < 57) (hoff : off ∈ [0x14, 0x1c, 0x20, 0x24]) : eventKey (b * 0x100000 + off) = true := by
  simp only [List.mem_cons, List.not_mem_nil, or_false] at hoff
  simp only [eventKey, Bool.and_eq_true, Bool.or_eq_true, decide_eq_true_eq, beq_iff_eq]
  omega

/-- A register of a bench below 57 that raising an event changes. -/
theorem wrEvent {f : Fld} {v b : Nat} (h : s.Keeps m s₀) (hm : Raises m) (hb : s₀.bench.length = 57 → b < 57)
    (hf : b < 57 → eventKey f.key = true) : (s.wr f v).Keeps m s₀ := by
  refine h.setWord_of hm.1 fun k hk hev heq => ?_
  obtain ⟨hlen, hkey⟩ := hev hm
  rw [heq, hf (hb hlen)] at hkey
  cases hkey

/-- An event bit of a bench below 57. -/
theorem setEvent {b i : Nat} {v : Bool} (h : s.Keeps m s₀) (hb : b < 57)
    (hm : Covers 0x1000000000000000000000000000002 m := by exact .mono (by assumption)) : (s.setBit (F.BENCH_EV_STAT b) i v).Keeps m s₀ := by
  refine h.wrEvent ⟨hm.testBit (by decide), hm.testBit (by decide)⟩ (fun _ => hb) fun hlt => ?_
  exact eventKey_of hlt (by decide)

theorem raise {b loc sev code data : Nat} (h : s.Keeps m s₀) (hm : Covers 0x1000000000000000000000000000486 m := by exact .mono (by assumption)) :
    (s.raise b loc sev code data).Keeps m s₀ := by
  have hr : Raises m := ⟨hm.testBit (by decide), hm.testBit (by decide)⟩
  unfold State.raise
  split
  · exact h
  next hon =>
    have hb : s₀.bench.length = 57 → b < 57 := by
      intro hlen
      by_contra hge
      have hcold : s.benchAt b = Bench.cold := List.getD_eq_default _ _ (by have := h.sound.2.2 hlen; omega)
      exact hon (by rw [hcold]; rfl)
    extract_lets +onlyGivenNames s1 s2 s3
    have h1 : s1.Keeps m s₀ := h.wrEvent hr hb (eventKey_of · (by decide))
    have h2 : s2.Keeps m s₀ := by
      refine ite (h1.wrEvent hr hb (eventKey_of · (by decide))) (ite (h1.wrEvent hr hb (eventKey_of · (by decide))) h1)
    have h3 : s3.Keeps m s₀ := h2.controllerFault.ite h2
    split
    · exact h3.updBench.wrEvent hr hb (eventKey_of · (by decide))
    · exact h3

end State.Keeps
end Sys2Proof.Machine
end

section
/-!
What each function and each command of the model keeps (part 1): the registers, the Ethernet ports, the benches and their rotation, TIM and shots.
    A lemma has the name of the function it speaks of,
so that the lemmas compose as the functions do; its mask names the pieces that the function may change.
-/

namespace Sys2Proof.Machine.State.Keeps

-- One lemma at a time: elaborated side by side, so many of them wait for one another in more threads than there is memory for.
set_option Elab.async false

variable {s : State} {μ : Nat} {s₀ : State}

/-! ### State, its queues and its tables -/

theorem sendAll {os : List Out} (h : s.Keeps μ s₀) (hm : Covers 0x400 μ := by exact .mono (by assumption)) : (s.sendAll os).Keeps μ s₀ := h.of_eq

theorem draw {k : FreeKind} {bound : Nat} (h : s.Keeps μ s₀) (hm : Covers 0x800 μ := by exact .mono (by assumption)) :
    (s.draw k bound).2.Keeps μ s₀ := h.of_eq

theorem updTim {f : Tim → Tim} (h : s.Keeps μ s₀) (hm : Covers 0x100 μ := by exact .mono (by assumption)) : (s.updTim f).Keeps μ s₀ := h.of_eq

theorem slew (h : s.Keeps μ s₀) (hm : Covers 0x1000000000000000000000000000000000000000802 μ := by exact .mono (by assumption)) : s.slew.Keeps μ s₀ :=
  ((h.draw (k := .servoRate) (bound := 2 * maxRate + 1)).wr (hm.writes .TIM_RATE 0))

/-! ### Registers -/

theorem writeWord {b off key v mask : Nat} {d : RegDef} (h : s.Keeps μ s₀)
    (hm : Covers 0x1ffffffffffff03000000000000000000000000000002 μ := by exact .mono (by assumption)) :
    (s.writeWord b off d key v mask).1.Keeps μ s₀ := by
  unfold State.writeWord
  extract_lets +onlyGivenNames old locked w keep w' s1 s2
  have h1 : s1.Keeps μ s₀ := h.setWord (.anyWord (.mono hm))
  have h2 : s2.Keeps μ s₀ := h1.ite h
  split
  · exact h2.bump
  · exact h2

theorem writeReg {b off v mask : Nat} (h : s.Keeps μ s₀)
    (hm : Covers 0x1ffffffffffff03000000000000000000000000000002 μ := by exact .mono (by assumption)) :
    (s.writeReg b off v mask).1.Keeps μ s₀ := by
  unfold State.writeReg
  split
  · split
    · exact h.writeWord
    · exact h
  · exact h

theorem latch {path key v : Nat} (h : s.Keeps μ s₀)
    (hm : Covers 0x400000000000000000000000000 μ := by exact .mono (by assumption)) : (s.latch path key v).Keeps μ s₀ := h.of_eq

theorem holdAccess {a : RegAccess} (h : s.Keeps μ s₀)
    (hm : Covers 0x200000000000000000000000000 μ := by exact .mono (by assumption)) : (s.holdAccess a).Keeps μ s₀ := h.of_eq

theorem atWindow {b off v mask : Nat} {f : State → State} (h : s.Keeps μ s₀) (hf : ∀ (a : State), a.Keeps μ s₀ → (f a).Keeps μ s₀)
    (hm : Covers 0x200000000000000000000000000 μ := by exact .mono (by assumption)) :
    (s.atWindow b off v mask f).Keeps μ s₀ := by
  unfold State.atWindow
  exact h.holdAccess.ite (hf _ h)

theorem writeRegW {bench off : Nat} {v : Word} (h : s.Keeps μ s₀)
    (hm : Covers 0x1ffffffffffff03000000000000000000000000000002 μ := by exact .mono (by assumption)) :
    (s.writeRegW bench off v).Keeps μ s₀ := h.writeReg

/-! ### Ethernet ports -/

theorem updMac {m : Nat} {f : Mac → Mac} (h : s.Keeps μ s₀)
    (hm : Covers 0x400000000000000000000 μ := by exact .mono (by assumption)) : (s.updMac m f).Keeps μ s₀ := h.of_eq

theorem updEth {k : Nat} {f : EthPort → EthPort} (h : s.Keeps μ s₀)
    (hm : Covers 0x800000000000000000000 μ := by exact .mono (by assumption)) : (s.updEth k f).Keeps μ s₀ := h.of_eq

theorem loadMode {b : Nat} (h : s.Keeps μ s₀)
    (hm : Covers 0x1000000000800000000000000000486 μ := by exact .mono (by assumption)) : (s.loadMode b).Keeps μ s₀ := by
  unfold State.loadMode
  extract_lets +onlyGivenNames v s1
  have h1 : s1.Keeps μ s₀ := h.updEth
  exact h1.ite h1.raise

theorem setStat {m i v : Nat} (h : s.Keeps μ s₀)
    (hm : Covers 0x1000000000000000000000 μ := by exact .mono (by assumption)) : (s.setStat m i v).Keeps μ s₀ := by
  unfold State.setStat
  extract_lets +onlyGivenNames rest
  exact h.of_eq

theorem addStat {m i k : Nat} (h : s.Keeps μ s₀)
    (hm : Covers 0x1000000000000000000000 μ := by exact .mono (by assumption)) : (s.addStat m i k).Keeps μ s₀ := h.setStat

theorem lpiAccrue {m : Nat} (h : s.Keeps μ s₀)
    (hm : Covers 0x1400000000000000000000 μ := by exact .mono (by assumption)) : (s.lpiAccrue m).Keeps μ s₀ := by
  unfold State.lpiAccrue
  split
  · exact h
  · exact h.addStat.updMac

theorem statRead {path m i : Nat} {hi : Bool} (h : s.Keeps μ s₀)
    (hm : Covers 0x400001400000000000000000000 μ := by exact .mono (by assumption)) : (s.statRead path m i hi).1.Keeps μ s₀ := by
  unfold State.statRead
  extract_lets +onlyGivenNames key
  split
  · exact h
  · split
    · exact h
    · extract_lets +onlyGivenNames s1 v
      have h1 : s1.Keeps μ s₀ := h.lpiAccrue
      exact h1.latch.setStat

theorem execPrtStatRead {path port sub i : Nat} {hi : Bool} (h : s.Keeps μ s₀)
    (hm : Covers 0x600001400000000000000000400 μ := by exact .mono (by assumption)) :
    Answers μ s₀ (execPrtStatRead path port sub i hi s) := by
  unfold Machine.execPrtStatRead
  refine State.Keeps.next ?_
  split
  · exact h
  · split
    · exact h.holdAccess
    · dsimp -zeta only
      exact h.statRead.send

theorem takePause {m c q : Nat} (h : s.Keeps μ s₀)
    (hm : Covers 0x400000000000000000000 μ := by exact .mono (by assumption)) : (s.takePause m c q).Keeps μ s₀ := by
  unfold State.takePause
  split
  · exact h
  · extract_lets +onlyGivenNames old
    exact h.updMac

theorem execPauseFrame {mac quanta : Nat} (h : s.Keeps μ s₀)
    (hm : Covers 0x1400000000000000000000 μ := by exact .mono (by assumption)) : Answers μ s₀ (execPauseFrame mac quanta s) := by
  unfold Machine.execPauseFrame
  refine State.Keeps.next ?_
  split
  · exact h
  · extract_lets +onlyGivenNames s1
    have h1 : s1.Keeps μ s₀ := h.addStat
    exact h1.takePause.ite h1

theorem execPfcFrame {mac : Nat} {quanta : List (Nat × Nat)} (h : s.Keeps μ s₀)
    (hm : Covers 0x1400000000000000000000 μ := by exact .mono (by assumption)) : Answers μ s₀ (execPfcFrame mac quanta s) := by
  unfold Machine.execPfcFrame
  refine State.Keeps.next ?_
  split
  · exact h
  · extract_lets +onlyGivenNames s1
    have h1 : s1.Keeps μ s₀ := h.addStat
    exact (h1.foldl fun _ _ ht => ht.takePause.ite ht).ite h1

theorem execPauseTimeExpiry {mac cls : Nat} (h : s.Keeps μ s₀)
    (hm : Covers 0x400000000000000000000 μ := by exact .mono (by assumption)) : Answers μ s₀ (execPauseTimeExpiry mac cls s) := h.updMac.next

theorem execPfcWatchdogRestore {mac cls : Nat} (h : s.Keeps μ s₀)
    (hm : Covers 0x1000000000400000000000000000486 μ := by exact .mono (by assumption)) : Answers μ s₀ (execPfcWatchdogRestore mac cls s) := by
  unfold Machine.execPfcWatchdogRestore
  exact (h.updMac.raise.ite h).next

theorem leaveLpi {m : Nat} (h : s.Keeps μ s₀)
    (hm : Covers 0x1ffffffffffff03000000001400000000000000000002 μ := by exact .mono (by assumption)) : (s.leaveLpi m).Keeps μ s₀ := by
  unfold State.leaveLpi
  split
  · exact h
  · exact h.lpiAccrue.updMac.updMac.wr

theorem execLldpEeeTlv {mac rxTw : Nat} (h : s.Keeps μ s₀)
    (hm : Covers 0x1000000000400000000000000000486 μ := by exact .mono (by assumption)) : Answers μ s₀ (execLldpEeeTlv mac rxTw s) := by
  unfold Machine.execLldpEeeTlv
  refine State.Keeps.next ?_
  split
  · exact h
  · extract_lets +onlyGivenNames s1 tw cur
    have h1 : s1.Keeps μ s₀ := h.send
    exact h1.updMac.ite h1.updMac.raise

theorem sendPause {m c q : Nat} (h : s.Keeps μ s₀)
    (hm : Covers 0x1ffffffffffff03000000001400000000000000000402 μ := by exact .mono (by assumption)) : (s.sendPause m c q).Keeps μ s₀ := by
  unfold State.sendPause
  split
  · exact h
  · exact h.leaveLpi.updMac.addStat.send

theorem execPauseRepeatTimer {mac cls : Nat} (h : s.Keeps μ s₀)
    (hm : Covers 0x1ffffffffffff03000000001400000000000000000402 μ := by exact .mono (by assumption)) :
    Answers μ s₀ (execPauseRepeatTimer mac cls s) := by
  unfold Machine.execPauseRepeatTimer
  exact (h.updMac.sendPause.ite h).next

theorem execPauseSendCap {mac cls : Nat} (h : s.Keeps μ s₀)
    (hm : Covers 0x1000000000400000000000000000486 μ := by exact .mono (by assumption)) : Answers μ s₀ (execPauseSendCap mac cls s) := by
  unfold Machine.execPauseSendCap
  refine State.Keeps.next ?_
  extract_lets +onlyGivenNames cap
  exact h.updMac.raise.ite h

theorem stampTx {m : Nat} {p : PtpTx} (h : s.Keeps μ s₀)
    (hm : Covers 0x1000000000800000000000000000486 μ := by exact .mono (by assumption)) : (s.stampTx m p).Keeps μ s₀ := by
  unfold State.stampTx
  extract_lets +onlyGivenNames t
  split
  · extract_lets +onlyGivenNames e
    exact h.updEth.ite (h.updEth.raise.ite h)
  · exact h.send

/-! ### Buffers -/

theorem syncCells (h : s.Keeps μ s₀)
    (hm : Covers 0x400000000000000000000000000000000000000002 μ := by exact .mono (by assumption)) :
    s.syncCells.Keeps μ s₀ := (h.wr (f := F.SWC_STAT_CELLS_USED) (hm.writes .SWC_STAT_FORWARDING 0))

theorem syncAsks {m : Nat} (h : s.Keeps μ s₀)
    (hm : Covers 0x1ffffffffffff03000000001400000000000000000402 μ := by exact .mono (by assumption)) : (s.syncAsks m).Keeps μ s₀ := by
  unfold State.syncAsks
  exact (h.updMac.foldl fun _ _ ht => ht.sendPause).foldl fun _ _ ht => ht.updMac.sendPause

theorem syncXoff {m : Nat} (h : s.Keeps μ s₀)
    (hm : Covers 0x1ffffffffffff03000000001400000000000000000402 μ := by exact .mono (by assumption)) : (s.syncXoff m).Keeps μ s₀ := by
  unfold State.syncXoff
  split
  · exact h
  · dsimp only
    exact h.ite h.updMac.syncAsks

theorem freeFrames {p : SwFrame → Bool} (h : s.Keeps μ s₀)
    (hm : Covers 0x1ffffffffffff03000000003400000000000000000402 μ := by exact .mono (by assumption)) : (s.freeFrames p).Keeps μ s₀ := by
  unfold State.freeFrames
  extract_lets +onlyGivenNames gone s1
  have h1 : s1.Keeps μ s₀ := h.of_eq
  exact h1.syncCells.foldl fun _ _ ht => ht.syncXoff

theorem police {q : Nat} (h : s.Keeps μ s₀)
    (hm : Covers 0x8000000000000000000000 μ := by exact .mono (by assumption)) : (s.police q).2.Keeps μ s₀ := by
  unfold State.police
  dsimp only
  split
  · exact h.of_eq
  · exact h.of_eq

theorem sampleAt {k : Nat} {r : Sample} (h : s.Keeps μ s₀)
    (hm : Covers 0x1ffffffffffff03000000028000000000000000000802 μ := by exact .mono (by assumption)) : (s.sampleAt k r).Keeps μ s₀ := by
  have hdraw : (s.draw .random k).2.Keeps μ s₀ := h.draw
  have hpol := hdraw.police (q := 3)
  unfold State.sampleAt
  split
  · exact h
  · dsimp only
    split
    · exact hdraw
    · split
      · have hset : ∀ {t : State} {l : List Sample}, t.Keeps μ s₀ → ({ t with samples := l } : State).Keeps μ s₀ := fun ht => ht.of_eq
        exact (hset hpol.wr64).bump
      · exact hpol.bump

theorem sampleSent {f : SwFrame} (h : s.Keeps μ s₀)
    (hm : Covers 0x1ffffffffffff03000000028000000000000000000802 μ := by exact .mono (by assumption)) : (s.sampleSent f).Keeps μ s₀ := h.sampleAt

/-! ### Benches and the rotation -/

theorem setBenchState {b : Nat} {st : BenchState} (h : s.Keeps μ s₀)
    (hm : Covers 0x1000000000000000000000000000486 μ := by exact .mono (by assumption)) :
    (s.setBenchState b st).Keeps μ s₀ := h.updBench.raise

theorem refreshMaps {c : Nat} (h : s.Keeps μ s₀)
    (hm : Covers 0x1ffffffffffff03000000000000000000000000000002 μ := by exact .mono (by assumption)) : (s.refreshMaps c).Keeps μ s₀ := by
  unfold State.refreshMaps
  exact (foldl h fun _ _ ht => ht.wr).wr.setBit

theorem updRot {c : Nat} {f : Rotation → Rotation} (h : s.Keeps μ s₀)
    (hm : Covers 0x40 μ := by exact .mono (by assumption)) : (s.updRot c f).Keeps μ s₀ := h.of_eq

theorem setLane {x : LaneState} (h : s.Keeps μ s₀) (hm : Covers 0x8 μ := by exact .mono (by assumption)) : (s.setLane x).Keeps μ s₀ := h.of_eq

theorem acceptNumber {src : FlitDest} {f : Flit} (h : s.Keeps μ s₀) (hm : Covers 0x10 μ := by exact .mono (by assumption)) :
    (s.acceptNumber src f).Keeps μ s₀ := h.of_eq

theorem ackFlit {src : FlitDest} {f : Flit} (h : s.Keeps μ s₀) (hm : Covers 0x20 μ := by exact .mono (by assumption)) :
    (s.ackFlit src f).Keeps μ s₀ := h.of_eq

theorem retain {src : FlitDest} {l : Lane} {f : Flit} (h : s.Keeps μ s₀) (hm : Covers 0x20 μ := by exact .mono (by assumption)) :
    (s.retain src l f).Keeps μ s₀ := by
  unfold State.retain
  split
  · exact h
  · exact h.of_eq

theorem fillFifo {l : Lane} {v : Vc} (h : s.Keeps μ s₀) (hm : Covers 0x38 μ := by exact .mono (by assumption)) : (s.fillFifo l v).Keeps μ s₀ := by
  unfold State.fillFifo
  refine foldl_fst h fun p f hp => ?_
  dsimp only
  split
  · exact hp
  · exact hp.setLane.acceptNumber.ackFlit

theorem deliverFlit {l : Lane} {f : Flit} (h : s.Keeps μ s₀) (hm : Covers 0x38 μ := by exact .mono (by assumption)) :
    (s.deliverFlit l f).Keeps μ s₀ := by
  unfold State.deliverFlit
  dsimp only
  split
  · exact h.ackFlit
  · exact h.retain.setLane.fillFifo

theorem takeFlits {l : Lane} {v : Vc} {k : Nat} (h : s.Keeps μ s₀)
    (hm : Covers 0x38 μ := by exact .mono (by assumption)) : (s.takeFlits l v k).Keeps μ s₀ := by
  unfold State.takeFlits
  extract_lets +onlyGivenNames x
  exact h.setLane.fillFifo

theorem releaseFrames {r : Nat} (h : s.Keeps μ s₀)
    (hm : Covers 0x1ffffffffffff0300000002b400000000000000000c02 μ := by exact .mono (by assumption)) : (s.releaseFrames r).Keeps μ s₀ := by
  unfold State.releaseFrames
  split
  · exact h
  · exact (h.freeFrames.foldl fun _ _ ht => ht.sampleAt).sendAll

theorem releaseHeld {c : Nat} (h : s.Keeps μ s₀) (hm : Covers 0x78 μ := by exact .mono (by assumption)) : (s.releaseHeld c).Keeps μ s₀ := by
  unfold State.releaseHeld
  refine h.updRot.foldl fun t p ht => ?_
  split
  · exact ht.deliverFlit
  · exact ht.updRot

theorem moveInbound {c r old new : Nat} (h : s.Keeps μ s₀) (hm : Covers 0x8 μ := by exact .mono (by assumption)) :
    (s.moveInbound c r old new).Keeps μ s₀ := foldl h fun _ _ ht => ht.setLane.setLane

theorem moveOutbound {c r old new : Nat} {again : Bool} (h : s.Keeps μ s₀) (hm : Covers 0x428 μ := by exact .mono (by assumption)) :
    (s.moveOutbound c r old new again).Keeps μ s₀ := by
  unfold State.moveOutbound
  extract_lets +onlyGivenNames mine s1
  have h1 : s1.Keeps μ s₀ := h.of_eq
  exact h1.sendAll.ite h1

theorem rebind {c out spare r : Nat} (h : s.Keeps μ s₀)
    (hm : Covers 0x1ffffffffffff0300000002b400000000000000000cfe μ := by exact .mono (by assumption)) :
    (s.rebind c out spare r).Keeps μ s₀ := by
  unfold State.rebind
  extract_lets +onlyGivenNames bo bs fault s1 s2 s3 s4 s5 s6 s7 s8 s9
  have h1 : s1.Keeps μ s₀ := h.updBench
  have h2 : s2.Keeps μ s₀ := h1.ite h1.setBenchState
  have h5 : s5.Keeps μ s₀ := h2.updBench.setBenchState.updRot
  have h7 : s7.Keeps μ s₀ := h5.bump.setBit
  have h8 : s8.Keeps μ s₀ := h7.moveInbound.moveOutbound
  have h9 : s9.Keeps μ s₀ := h8.releaseFrames.ite h8
  exact h9.refreshMaps.releaseHeld

theorem rebindOrDefer {c out spare r : Nat} (h : s.Keeps μ s₀)
    (hm : Covers 0x1ffffffffffff0300000002b400000000000000000cfe μ := by exact .mono (by assumption)) :
    (s.rebindOrDefer c out spare r).Keeps μ s₀ := by
  unfold State.rebindOrDefer
  exact h.updRot.setBit.ite h.rebind

theorem runDeferred (h : s.Keeps μ s₀)
    (hm : Covers 0x1ffffffffffff0300000002b400000000000000000cfe μ := by exact .mono (by assumption)) : s.runDeferred.Keeps μ s₀ := by
  unfold State.runDeferred
  refine h.foldl fun t c ht => ?_
  split
  · exact ht.rebind
  · exact ht

theorem abandonRotation {c : Nat} (h : s.Keeps μ s₀)
    (hm : Covers 0x1ffffffffffff0300000002b400000000000000000c7a μ := by exact .mono (by assumption)) : (s.abandonRotation c).Keeps μ s₀ := by
  unfold State.abandonRotation
  extract_lets +onlyGivenNames s1
  have h1 : s1.Keeps μ s₀ := by
    unfold s1
    split
    · exact h.releaseFrames.ite h
    · exact h
  exact h1.updRot.setBit.releaseHeld

theorem beginRotation {c : Nat} (h : s.Keeps μ s₀)
    (hm : Covers 0x1ffffffffffff03000000000000000000000000000042 μ := by exact .mono (by assumption)) : (s.beginRotation c).Keeps μ s₀ := by
  unfold State.beginRotation
  split
  · exact h.updRot.setBit
  · exact h

theorem payOwed {c : Nat} (h : s.Keeps μ s₀)
    (hm : Covers 0x1ffffffffffff03000000000000000000000000000042 μ := by exact .mono (by assumption)) : (s.payOwed c).Keeps μ s₀ := by
  unfold State.payOwed
  exact h.beginRotation.ite h

theorem rotateOrOwe {c : Nat} (h : s.Keeps μ s₀)
    (hm : Covers 0x1ffffffffffff03000000000000000000000000000042 μ := by exact .mono (by assumption)) :
    (s.rotateOrOwe c).Keeps μ s₀ := h.updRot.payOwed

theorem updLive {f : Live → Live} (h : s.Keeps μ s₀)
    (hm : Covers 0x200000000000000000000000000 μ := by exact .mono (by assumption)) : (s.updLive f).Keeps μ s₀ := h.of_eq

theorem startReload {b : Nat} {act : Bool} (h : s.Keeps μ s₀)
    (hm : Covers 0x1ffffffffffff03000200000000000000000000000486 μ := by exact .mono (by assumption)) : (s.startReload b act).Keeps μ s₀ := by
  unfold State.startReload
  extract_lets +onlyGivenNames s1
  have h1 : s1.Keeps μ s₀ := by
    unfold s1
    split
    · exact h.setBenchState.refreshMaps
    · exact h
  exact h1.updLive.wr

theorem liveClass {c : Nat} (h : s.Keeps μ s₀)
    (hm : Covers 0x1ffffffffffff030002000000000000000000000004c6 μ := by exact .mono (by assumption)) : (s.liveClass c).Keeps μ s₀ := by
  unfold State.liveClass
  split
  · exact h
  · split
    · exact h.updRot.payOwed
    · split
      · exact h
      · split
        · extract_lets +onlyGivenNames b
          exact (h.ite h.startReload).ite h.beginRotation
        · split
          · exact h.startReload
          · exact h

theorem takeover {c out r : Nat} {hdrOk : Bool} (h : s.Keeps μ s₀)
    (hm : Covers 0x1ffffffffffff0300000002b400000000000000000cfe μ := by exact .mono (by assumption)) : (s.takeover c out r hdrOk).Keeps μ s₀ := by
  unfold State.takeover
  extract_lets +onlyGivenNames bind
  have hbind : ∀ s sp, s.Keeps μ s₀ → (bind s sp).Keeps μ s₀ := by
    intro s sp ht
    exact ht.rebindOrDefer.ite ht.controllerFault
  split
  · split
    · exact hbind _ _ h
    · split
      · split
        · exact hbind _ _ h
        · exact h.controllerFault
      · extract_lets +onlyGivenNames s1
        have h1 : s1.Keeps μ s₀ := h.abandonRotation
        split
        · exact hbind _ _ h1
        · exact h1.controllerFault
  · split
    · exact hbind _ _ h
    · exact h.controllerFault

theorem spareLost {c i : Nat} {hdrOk : Bool} (h : s.Keeps μ s₀)
    (hm : Covers 0x1ffffffffffff0300000002b400000000000000000cfe μ := by exact .mono (by assumption)) : (s.spareLost c i hdrOk).Keeps μ s₀ := by
  unfold State.spareLost
  split
  · exact h.ite (h.updRot.setBit.takeover.ite h.abandonRotation)
  · exact h

theorem faultBench {b : Nat} {hdrOk : Bool} (h : s.Keeps μ s₀)
    (hm : Covers 0x1ffffffffffff0300020002b400000000000000000cfe μ := by exact .mono (by assumption)) : (s.faultBench b hdrOk).Keeps μ s₀ := by
  unfold State.faultBench
  extract_lets +onlyGivenNames st
  split
  · exact h
  · extract_lets +onlyGivenNames s1
    have h1 : s1.Keeps μ s₀ := h.updBench
    split
    · exact h1.setBenchState.controllerFault
    · extract_lets +onlyGivenNames s2
      have h2 : s2.Keeps μ s₀ := h1.setBenchState
      split
      · exact h2.takeover.refreshMaps
      · exact h2.spareLost.refreshMaps.liveClass

theorem execFlitReceive {l : Lane} {taken : Nat} {f : Flit} (h : s.Keeps μ s₀)
    (hm : Covers 0x478 μ := by exact .mono (by assumption)) : Answers μ s₀ (execFlitReceive l taken f s) := by
  unfold Machine.execFlitReceive
  extract_lets +onlyGivenNames src route dest
  refine State.Keeps.next ?_
  split
  · exact h
  · extract_lets +onlyGivenNames s1
    have h1 : s1.Keeps μ s₀ := h.takeFlits.ite h
    split
    · extract_lets +onlyGivenNames s2
      have h2 : s2.Keeps μ s₀ := h1.ite h1.retain.setLane
      exact h2.send
    · split
      · exact h1.ackFlit.ite h1.retain.updRot
      · exact h1.deliverFlit

theorem execFlitNak {l : Lane} {chan seq : Nat} {hdrOk : Bool} (h : s.Keeps μ s₀)
    (hm : Covers 0x1ffffffffffff0300020002b400000000000000000cfe μ := by exact .mono (by assumption)) :
    Answers μ s₀ (execFlitNak l chan seq hdrOk s) := by
  unfold Machine.execFlitNak
  extract_lets +onlyGivenNames x src data
  refine State.Keeps.next ?_
  split
  · split
    · extract_lets +onlyGivenNames s1
      have h1 : s1.Keeps μ s₀ := h.of_eq
      exact h1.send.raise.bump 
    · extract_lets +onlyGivenNames s1
      have h1 : s1.Keeps μ s₀ := h.setLane.raise
      split
      · exact h1
      · split
        · exact h1.controllerFault
        · exact h1.faultBench
  · exact h

theorem execLivenessTimeout {bench : Nat} {hdrOk : Bool} (h : s.Keeps μ s₀)
    (hm : Covers 0x1ffffffffffff0300020002b400000000000000000cfe μ := by exact .mono (by assumption)) :
    Answers μ s₀ (execLivenessTimeout bench hdrOk s) :=
  h.faultBench.next

theorem selftestEnd {bench : Nat} {pass : Bool} (h : s.Keeps μ s₀)
    (hm : Covers 0x1ffffffffffff0300020002b400000000000000000cfe μ := by exact .mono (by assumption)) : (s.selftestEnd bench pass).Keeps μ s₀ := by
  unfold State.selftestEnd
  split
  · exact h
  · split
    · extract_lets +onlyGivenNames s1 s2
      have h1 : s1.Keeps μ s₀ := h.raise.updBench
      have h2 : s2.Keeps μ s₀ := h1.setBenchState
      split
      · exact h2.controllerFault
      · split
        · exact h2.rebind
        · exact h2.refreshMaps
    · split
      · exact h.updBench.setBenchState
      · extract_lets +onlyGivenNames unbound free pick
        clear_value pick
        split
        · exact h.updBench.setBenchState.refreshMaps
        · extract_lets +onlyGivenNames s1 s2
          have h1 : s1.Keeps μ s₀ := h.setBenchState.refreshMaps
          have h2 : s2.Keeps μ s₀ := h1.updRot
          exact h2.liveClass.payOwed

theorem execSelftestComplete {bench : Nat} {pass : Bool} (h : s.Keeps μ s₀)
    (hm : Covers 0x1ffffffffffff0300020002b400000000000000000cfe μ := by exact .mono (by assumption)) :
    Answers μ s₀ (execSelftestComplete bench pass s) :=
  h.selftestEnd.next

theorem execFaultedRetestTimer {bench : Nat} (h : s.Keeps μ s₀)
    (hm : Covers 0x1000000000000000000000000000486 μ := by exact .mono (by assumption)) : Answers μ s₀ (execFaultedRetestTimer bench s) := by
  unfold Machine.execFaultedRetestTimer
  extract_lets +onlyGivenNames x
  refine State.Keeps.next ?_
  split
  · extract_lets +onlyGivenNames first
    exact h.setBenchState.ite h
  · exact h

theorem execRotationPeriodExpiry {cls : Nat} (h : s.Keeps μ s₀)
    (hm : Covers 0x1ffffffffffff03000000000000000000000000000042 μ := by exact .mono (by assumption)) :
    Answers μ s₀ (execRotationPeriodExpiry cls s) := by
  unfold Machine.execRotationPeriodExpiry
  exact (h.rotateOrOwe.ite h).next

theorem rotNow {v : Nat} (h : s.Keeps μ s₀)
    (hm : Covers 0x1ffffffffffff03000000000000000000000000000042 μ := by exact .mono (by assumption)) : (s.rotNow v).Keeps μ s₀ := by
  unfold State.rotNow
  exact h.foldl fun _ _ ht => ht.beginRotation.ite ht

theorem execCtlRotNow {v : Word} (h : s.Keeps μ s₀)
    (hm : Covers 0x1ffffffffffff03000200000000000000000000000042 μ := by exact .mono (by assumption)) : Answers μ s₀ (execCtlRotNow v s) := by
  unfold Machine.execCtlRotNow
  exact (h.atWindow fun _ ht => ht.rotNow).next

theorem rotCfgChanged (h : s.Keeps μ s₀)
    (hm : Covers 0x1ffffffffffff03000000000000000000000000000042 μ := by exact .mono (by assumption)) : s.rotCfgChanged.Keeps μ s₀ := by
  unfold State.rotCfgChanged
  exact h.foldl fun _ _ ht => ht.rotateOrOwe.ite ht.payOwed

theorem execCtlRotCfgWrite {v : Word} (h : s.Keeps μ s₀)
    (hm : Covers 0x1ffffffffffff03000200000000000000000000000042 μ := by exact .mono (by assumption)) : Answers μ s₀ (execCtlRotCfgWrite v s) := by
  unfold Machine.execCtlRotCfgWrite
  exact (h.atWindow fun _ ht => ht.writeRegW.rotCfgChanged).next

theorem execRotationDrained {cls : Nat} (h : s.Keeps μ s₀)
    (hm : Covers 0x1ffffffffffff0300000002b400000000000000000cfe μ := by exact .mono (by assumption)) : Answers μ s₀ (execRotationDrained cls s) := by
  unfold Machine.execRotationDrained
  refine State.Keeps.next ?_
  split
  · exact h.ite h.rebindOrDefer
  · exact h

/-! ### Time base and PPS -/

theorem stepForward {k : Nat} (h : s.Keeps μ s₀)
    (hm : Covers 0x10000000000000000000000000005c6 μ := by exact .mono (by assumption)) : (s.stepForward k).Keeps μ s₀ := by
  unfold State.stepForward
  extract_lets +onlyGivenNames s1 s2
  have h2 : s2.Keeps μ s₀ := h.updTim.of_eq (hbench := List.length_map _)
  exact h2.raise

theorem servoUpdate {offset : ℤ} (h : s.Keeps μ s₀)
    (hm : Covers 0x9800000000001000000000000000000000000000dc6 μ := by exact .mono (by assumption)) : (s.servoUpdate offset).Keeps μ s₀ := by
  unfold State.servoUpdate
  extract_lets +onlyGivenNames s1
  have h1 : s1.Keeps μ s₀ := (h.wr (hm.writes .TIM_OFFSET 0)).updTim
  split
  · extract_lets +onlyGivenNames s2
    have h2 : s2.Keeps μ s₀ := h1.stepForward.ite h1.slew
    exact (h2.wr (hm.writes .TIM_STAT_STATE 0)).updTim
  · extract_lets +onlyGivenNames run s2
    have h2 : s2.Keeps μ s₀ := h1.slew
    exact (h2.raise.wr (hm.writes .TIM_STAT_STATE 0)).updTim.ite h2.updTim
  · extract_lets +onlyGivenNames s2
    have h2 : s2.Keeps μ s₀ := h1.slew
    exact (h2.raise.wr (hm.writes .TIM_STAT_STATE 0)).updTim.ite h2
  · exact (h1.slew.wr (hm.writes .TIM_STAT_STATE 0)).updTim

theorem enterHoldover (h : s.Keeps μ s₀)
    (hm : Covers 0x8000000000001000000000000000000000000000486 μ := by exact .mono (by assumption)) :
    s.enterHoldover.Keeps μ s₀ := (h.raise.wr (hm.writes .TIM_STAT_STATE 0))

theorem srcChanged (h : s.Keeps μ s₀)
    (hm : Covers 0x8000000000000000000000000000000000000000002 μ := by exact .mono (by assumption)) : s.srcChanged.Keeps μ s₀ := by
  unfold State.srcChanged
  exact (h.wr (hm.writes .TIM_STAT_STATE 0)).ite h

theorem setStep (h : s.Keeps μ s₀)
    (hm : Covers 0x80000000000010000000000000000000000000005c6 μ := by exact .mono (by assumption)) : s.setStep.Keeps μ s₀ := by
  unfold State.setStep
  exact h.stepForward.ite (h.bump (f := F.TIM_STAT_SET_IGN) (hm.writes .TIM_STAT_STATE 0))

theorem writeSrcCfg {v : Word} (h : s.Keeps μ s₀)
    (hm : Covers 0x1ffffffffffff030000000000000000000000000005c6 μ := by exact .mono (by assumption)) : (s.writeSrcCfg v).Keeps μ s₀ := by
  unfold State.writeSrcCfg
  extract_lets +onlyGivenNames s1
  have h1 : s1.Keeps μ s₀ := h.writeRegW.srcChanged
  exact h1.setStep.ite h1

theorem execTimeMarker {dev : List (Nat × ℤ)} (h : s.Keeps μ s₀)
    (hm : Covers 0x1000000000000000000000000000586 μ := by exact .mono (by assumption)) : Answers μ s₀ (execTimeMarker dev s) := by
  unfold Machine.execTimeMarker
  refine State.Keeps.next ?_
  split
  · exact h
  · extract_lets +onlyGivenNames s1
    have h1 : s1.Keeps μ s₀ := h.updTim
    refine h1.foldl fun a x ha => ?_
    split
    · exact ha
    · extract_lets +onlyGivenNames d ok s2 t
      have h2 : s2.Keeps μ s₀ := ha.ite ha.raise
      exact h2.updBench

theorem execServoUpdate {src : Nat} {offset : ℤ} (h : s.Keeps μ s₀)
    (hm : Covers 0x9800000000001000000000000000000000000000dc6 μ := by exact .mono (by assumption)) :
    Answers μ s₀ (execServoUpdate src offset s) := by
  unfold Machine.execServoUpdate
  exact (h.servoUpdate.ite h).next

theorem execServoUpdateTimeout (h : s.Keeps μ s₀)
    (hm : Covers 0x8000000000001000000000000000000000000000486 μ := by exact .mono (by assumption)) : Answers μ s₀ (execServoUpdateTimeout s) := by
  unfold Machine.execServoUpdateTimeout
  exact (h.enterHoldover.ite h).next

theorem execHoldoverExpiry (h : s.Keeps μ s₀)
    (hm : Covers 0x8000000000001000000000000000000000000000486 μ := by exact .mono (by assumption)) : Answers μ s₀ (execHoldoverExpiry s) := by
  unfold Machine.execHoldoverExpiry
  exact ((h.raise.wr (hm.writes .TIM_STAT_STATE 0)).ite h).next

theorem execTimSrcCfgWrite {v : Word} (h : s.Keeps μ s₀)
    (hm : Covers 0x1ffffffffffff030002000000000000000000000005c6 μ := by exact .mono (by assumption)) : Answers μ s₀ (execTimSrcCfgWrite v s) := by
  unfold Machine.execTimSrcCfgWrite
  exact (h.atWindow fun _ ht => ht.writeSrcCfg).next

theorem execTimSetStep {v : Word} (h : s.Keeps μ s₀)
    (hm : Covers 0x1ffffffffffff030002000000000000000000000005c6 μ := by exact .mono (by assumption)) : Answers μ s₀ (execTimSetStep v s) := by
  unfold Machine.execTimSetStep
  exact (h.atWindow fun _ ht => ht.writeSrcCfg).next

theorem ppsCfgChanged {inWas outWas : Bool} {ofsWas : Nat} (h : s.Keeps μ s₀)
    (hm : Covers 0x100 μ := by exact .mono (by assumption)) : (s.ppsCfgChanged inWas outWas ofsWas).Keeps μ s₀ := by
  unfold State.ppsCfgChanged
  extract_lets +onlyGivenNames s1
  have h1 : s1.Keeps μ s₀ := h.updTim.ite h
  exact h1.updTim.ite h1

theorem execPpsInEdge (h : s.Keeps μ s₀)
    (hm : Covers 0x9800000000001000000000000000000000000000dc6 μ := by exact .mono (by assumption)) : Answers μ s₀ (execPpsInEdge s) := by
  unfold Machine.execPpsInEdge
  refine State.Keeps.next ?_
  split
  · exact h
  · extract_lets +onlyGivenNames off s1 s2 secs
    have h1 : s1.Keeps μ s₀ := h.updTim
    have h2 : s2.Keeps μ s₀ := h1.raise.ite h1
    split
    · exact h2
    · extract_lets +onlyGivenNames s3
      have h3 : s3.Keeps μ s₀ := h2.servoUpdate
      exact h3.updTim.ite h3

theorem execPpsInMissing (h : s.Keeps μ s₀)
    (hm : Covers 0x1000000000000000000000000000586 μ := by exact .mono (by assumption)) : Answers μ s₀ (execPpsInMissing s) := by
  unfold Machine.execPpsInMissing
  exact (h.raise.updTim.ite h).next

theorem execPpsOutSecond (h : s.Keeps μ s₀) (hm : Covers 0x100 μ := by exact .mono (by assumption)) : Answers μ s₀ (execPpsOutSecond s) := by
  unfold Machine.execPpsOutSecond
  refine State.Keeps.next ?_
  extract_lets +onlyGivenNames t
  exact h.updTim.ite h

theorem execPpsOutWidthEnd (h : s.Keeps μ s₀) (hm : Covers 0x100 μ := by exact .mono (by assumption)) : Answers μ s₀ (execPpsOutWidthEnd s) := by
  unfold Machine.execPpsOutWidthEnd
  refine State.Keeps.next ?_
  split
  · exact h.updTim.ite h
  · exact h

theorem ptpOffset {offset : ℤ} (h : s.Keeps μ s₀)
    (hm : Covers 0x9800000000001000000000000000000000000000dc6 μ := by exact .mono (by assumption)) : (s.ptpOffset offset).Keeps μ s₀ := by
  unfold State.ptpOffset
  exact h.servoUpdate.ite (h.updTim.ite h)

theorem execPtpMessage {m : PtpMsg} (h : s.Keeps μ s₀)
    (hm : Covers 0x1ffffffffffff03000000000000000000000000000dc6 μ := by exact .mono (by assumption)) : Answers μ s₀ (execPtpMessage m s) := by
  unfold Machine.execPtpMessage
  refine State.Keeps.next ?_
  split
  · exact h
  · split
    · exact h
    · extract_lets +onlyGivenNames p put slave
      have hput : ∀ s p, s.Keeps μ s₀ → (put s p).Keeps μ s₀ := by
        intro s p ht
        exact ht.updTim
      split
      · extract_lets +onlyGivenNames s1 s2
        have h1 : s1.Keeps μ s₀ := hput _ _ h
        have h2 : s2.Keeps μ s₀ := h1.updTim
        exact h2.wr.ite h2
      · exact h.ptpOffset.ite h
      · exact hput _ _ h
      · split
        · extract_lets +onlyGivenNames s1
          have h1 : s1.Keeps μ s₀ := hput _ _ h
          exact h1.ptpOffset.ite h1
        · exact h
      · exact h.send.ite h
      · exact h.send
      · exact h

/-! ### Shots and the shot pins -/

theorem syncPending (h : s.Keeps μ s₀)
    (hm : Covers 0x2000000000000000000000000000000000000000002 μ := by exact .mono (by assumption)) :
    s.syncPending.Keeps μ s₀ := (h.wr (hm.writes .TIM_SHOT_STAT_PENDING 0))

theorem refuseShot {reason : Nat} (h : s.Keeps μ s₀)
    (hm : Covers 0x2000000000001000000000000000000000000000486 μ := by exact .mono (by assumption)) :
    (s.refuseShot reason).Keeps μ s₀ := (h.bump (f := F.TIM_SHOT_STAT_REFUSED) (hm.writes .TIM_SHOT_STAT_PENDING 0)).raise

theorem shotRequest {cause time trigger earliest : Nat} (h : s.Keeps μ s₀)
    (hm : Covers 0x2000000000001000000000000000000000000000586 μ := by exact .mono (by assumption)) :
    (s.shotRequest cause time trigger earliest).1.Keeps μ s₀ := by
  unfold State.shotRequest
  extract_lets +onlyGivenNames sched
  split
  · exact h.refuseShot
  · split
    · exact h.refuseShot
    · split
      · exact h.refuseShot
      · split
        · split
          · exact h.refuseShot
          · extract_lets +onlyGivenNames join
            exact h.updTim.syncPending
        · split
          · exact h.refuseShot
          · split
            · exact h.refuseShot
            · exact h.updTim.syncPending

theorem shotFire (h : s.Keeps μ s₀)
    (hm : Covers 0x2000000000001000000000000000000000000000586 μ := by exact .mono (by assumption)) : s.shotFire.Keeps μ s₀ := h.shotRequest

theorem shotSched (h : s.Keeps μ s₀)
    (hm : Covers 0x2000000000001000000000000000000000000000586 μ := by exact .mono (by assumption)) : s.shotSched.Keeps μ s₀ := h.shotRequest

theorem shotChainIssue (h : s.Keeps μ s₀)
    (hm : Covers 0x2000000004001000000000000000000000000000586 μ := by exact .mono (by assumption)) : s.shotChainIssue.Keeps μ s₀ := by
  unfold State.shotChainIssue
  dsimp -zeta only
  exact (h.shotRequest.send.bump (hm.writes .CHN_TX_FRM 0)).ite h.shotRequest

theorem shotCancel (h : s.Keeps μ s₀)
    (hm : Covers 0x2000000000000000000000000000000000000000102 μ := by exact .mono (by assumption)) : s.shotCancel.Keeps μ s₀ := h.updTim.syncPending

theorem shotRelease (h : s.Keeps μ s₀)
    (hm : Covers 0x2000000000000000000000000000000000000000002 μ := by exact .mono (by assumption)) :
    s.shotRelease.Keeps μ s₀ := (h.wr (f := F.TIM_SHOT_STAT_HELD) (hm.writes .TIM_SHOT_STAT_PENDING 0))

theorem shotCmd {v : Nat} (h : s.Keeps μ s₀)
    (hm : Covers 0x2000000004001000000000000000000000000000586 μ := by exact .mono (by assumption)) : (s.shotCmd v).Keeps μ s₀ := by
  unfold State.shotCmd
  extract_lets +onlyGivenNames s1 s2 s3
  have h1 : s1.Keeps μ s₀ := h.shotCancel.ite h
  have h2 : s2.Keeps μ s₀ := h1.shotRelease.ite h1
  have h3 : s3.Keeps μ s₀ := h2.shotFire.ite h2
  exact (h3.shotChainIssue.ite h3.shotSched).ite h3

theorem matchShot {r : EvRec} (h : s.Keeps μ s₀)
    (hm : Covers 0x1ffffffffffff03000000000000000000000000000586 μ := by exact .mono (by assumption)) : (s.matchShot r).Keeps μ s₀ := by
  unfold State.matchShot
  split
  · dsimp -zeta only
    exact h.shotRequest.wr.ite h.shotRequest
  · exact h

theorem execShotInEdge (h : s.Keeps μ s₀)
    (hm : Covers 0x2000000000001000000000000000000000000000586 μ := by exact .mono (by assumption)) : Answers μ s₀ (execShotInEdge s) := by
  unfold Machine.execShotInEdge
  exact (h.shotRequest.ite h).next

theorem execShotFire (h : s.Keeps μ s₀)
    (hm : Covers 0x2000000000001000200000000000000000000000586 μ := by exact .mono (by assumption)) : Answers μ s₀ (execShotFire s) := by
  unfold Machine.execShotFire
  exact (h.atWindow fun _ ht => ht.shotFire).next

theorem execShotSched (h : s.Keeps μ s₀)
    (hm : Covers 0x2000000000001000200000000000000000000000586 μ := by exact .mono (by assumption)) : Answers μ s₀ (execShotSched s) := by
  unfold Machine.execShotSched
  exact (h.atWindow fun _ ht => ht.shotSched).next

theorem execShotChainIssue (h : s.Keeps μ s₀)
    (hm : Covers 0x2000000004001000200000000000000000000000586 μ := by exact .mono (by assumption)) : Answers μ s₀ (execShotChainIssue s) := by
  unfold Machine.execShotChainIssue
  exact (h.atWindow fun _ ht => ht.shotChainIssue).next

theorem execShotCancel (h : s.Keeps μ s₀)
    (hm : Covers 0x2000000000000000200000000000000000000000102 μ := by exact .mono (by assumption)) : Answers μ s₀ (execShotCancel s) := by
  unfold Machine.execShotCancel
  exact (h.atWindow fun _ ht => ht.shotCancel).next

theorem execShotRelease (h : s.Keeps μ s₀)
    (hm : Covers 0x2000000000000000200000000000000000000000002 μ := by exact .mono (by assumption)) : Answers μ s₀ (execShotRelease s) := by
  unfold Machine.execShotRelease
  exact (h.atWindow fun _ ht => ht.shotRelease).next

theorem execShotOutPulseEnd (h : s.Keeps μ s₀) (hm : Covers 0x100 μ := by exact .mono (by assumption)) : Answers μ s₀ (execShotOutPulseEnd s) := by
  unfold Machine.execShotOutPulseEnd
  exact (h.updTim.ite h).next

theorem latchBench {b seq time causes : Nat} (h : s.Keeps μ s₀)
    (hm : Covers 0x804 μ := by exact .mono (by assumption)) : (s.latchBench b seq time causes).Keeps μ s₀ := by
  unfold State.latchBench
  extract_lets +onlyGivenNames x
  split
  · exact h
  · dsimp -zeta only
    extract_lets +onlyGivenNames role
    exact h.draw.updBench

/-! ### Event logs -/

theorem raiseOnce {period b loc sev code data : Nat} (h : s.Keeps μ s₀)
    (hm : Covers 0x1000000000000010000000000000486 μ := by exact .mono (by assumption)) : (s.raiseOnce period b loc sev code data).Keeps μ s₀ := by
  unfold State.raiseOnce
  extract_lets +onlyGivenNames key quiet
  exact h.ite h.of_eq.raise

theorem updEv {f : EvLog → EvLog} (h : s.Keeps μ s₀) (hm : Covers 0x200 μ := by exact .mono (by assumption)) : (s.updEv f).Keeps μ s₀ := h.of_eq

theorem notifySubs {r : EvRec} (h : s.Keeps μ s₀)
    (hm : Covers 0x1000000000000000000000000001486 μ := by exact .mono (by assumption)) : (s.notifySubs r).Keeps μ s₀ := by
  unfold State.notifySubs
  split
  · exact h
  · refine h.foldl fun a x ha => ?_
    split
    · exact ha
    · dsimp -zeta only
      extract_lets +onlyGivenNames say u' s1
      have h1 : s1.Keeps μ s₀ := ha.of_eq
      exact h1.raise.ite h1

theorem enterRecord {r : EvRec} (h : s.Keeps μ s₀)
    (hm : Covers 0x600001000000000000000000000000001686 μ := by exact .mono (by assumption)) : (s.enterRecord r).Keeps μ s₀ := by
  unfold State.enterRecord
  extract_lets +onlyGivenNames s1
  have h1 : s1.Keeps μ s₀ := (h.wr64 (hm.writes .CTL_EVLOG_TOTAL_LO 0) (hm.writes .CTL_EVLOG_TOTAL_HI 0))
  exact h1.updEv.notifySubs

end Sys2Proof.Machine.State.Keeps
end

section
/-!
What each function and each command of the model keeps (part 2): the event logs, the transports and queues, the log layout. A lemma has the name of
    the function it speaks of,
so that the lemmas compose as the functions do; its mask names the pieces that the function may change.
-/

namespace Sys2Proof.Machine.State.Keeps

-- One lemma at a time: elaborated side by side, so many of them wait for one another in more threads than there is memory for.
set_option Elab.async false

variable {s : State} {μ : Nat} {s₀ : State}

theorem countDrop (h : s.Keeps μ s₀)
    (hm : Covers 0x1ffffffffffff03000000000000000000000000000202 μ := by exact .mono (by assumption)) : s.countDrop.Keeps μ s₀ := h.bump.updEv

theorem logMarker (h : s.Keeps μ s₀)
    (hm : Covers 0x600001000000000000000000000000001686 μ := by exact .mono (by assumption)) : s.logMarker.Keeps μ s₀ := by
  unfold State.logMarker
  split
  · exact h
  · extract_lets +onlyGivenNames s1
    have h1 : s1.Keeps μ s₀ := (h.setEvent (by decide)).updEv
    split
    · extract_lets +onlyGivenNames m
      exact h1.updEv.updBench.enterRecord
    · exact h1

theorem logRecord {r : EvRec} (h : s.Keeps μ s₀)
    (hm : Covers 0x1ffffffffffff03000000000000000000000000001686 μ := by exact .mono (by assumption)) : (s.logRecord r).Keeps μ s₀ := by
  unfold State.logRecord
  split
  · exact h.logMarker.enterRecord
  · exact h.countDrop.ite (h.updEv.countDrop.notifySubs.ite h.countDrop)

theorem execEventRecordDelivery {bench : Nat} (h : s.Keeps μ s₀)
    (hm : Covers 0x1ffffffffffff03000000000000000000000000000786 μ := by exact .mono (by assumption)) :
    Answers μ s₀ (execEventRecordDelivery bench s) := by
  unfold Machine.execEventRecordDelivery
  refine State.Keeps.next ?_
  split
  · exact h
  · extract_lets +onlyGivenNames s1
    have h1 : s1.Keeps μ s₀ := h.updBench
    exact h1.updEv.matchShot

theorem execEventLogEntry (h : s.Keeps μ s₀)
    (hm : Covers 0x1ffffffffffff03000000000000000000000000001686 μ := by exact .mono (by assumption)) : Answers μ s₀ (execEventLogEntry s) := by
  unfold Machine.execEventLogEntry
  refine State.Keeps.next ?_
  split
  · exact h
  · exact h.updEv.logRecord.ite h

theorem evCopy (h : s.Keeps μ s₀) (hm : Covers 0x200 μ := by exact .mono (by assumption)) : s.evCopy.Keeps μ s₀ := by
  unfold State.evCopy
  split
  · extract_lets +onlyGivenNames n1
    exact h.updEv
  · exact h

theorem execEvlogCopy (h : s.Keeps μ s₀) (hm : Covers 0x200 μ := by exact .mono (by assumption)) : Answers μ s₀ (execEvlogCopy s) := h.evCopy.next

theorem countRepair {b row : Nat} {hdrOk : Bool} (h : s.Keeps μ s₀)
    (hm : Covers 0x1ffffffffffff0300020002b400000000000000000cfe μ := by exact .mono (by assumption)) : (s.countRepair b row hdrOk).Keeps μ s₀ := by
  unfold State.countRepair
  extract_lets +onlyGivenNames s1 old s2
  have h1 : s1.Keeps μ s₀ := h.raise
  have h2 : s2.Keeps μ s₀ := h1.updBench
  exact h2.ite (h2.faultBench.ite (h2.raise.ite h2))

/-! ### Connections -/

theorem updPair {f : Pair → Pair} (h : s.Keeps μ s₀)
    (hm : Covers 0x100000000000000000000000000 μ := by exact .mono (by assumption)) : (s.updPair f).Keeps μ s₀ := h.of_eq

theorem updHalf {q : Nat} {f : Half → Half} (h : s.Keeps μ s₀)
    (hm : Covers 0x100000000000000000000000000 μ := by exact .mono (by assumption)) : (s.updHalf q f).Keeps μ s₀ := h.updPair

theorem haulSend {chan : Nat} (h : s.Keeps μ s₀)
    (hm : Covers 0x80000000000100000000000000000000000402 μ := by exact .mono (by assumption)) : (s.haulSend chan).Keeps μ s₀ := by
  unfold State.haulSend
  split
  · exact h
  · extract_lets +onlyGivenNames x k
    exact (h.send.bump (hm.writes .HAL_TX_FRM 0)).updHalf

theorem chainSend {o : Out} (h : s.Keeps μ s₀)
    (hm : Covers 0x4000000000000000000000000000000402 μ := by exact .mono (by assumption)) :
    (s.chainSend o).Keeps μ s₀ := (h.send.bump (hm.writes .CHN_TX_FRM 0))

theorem sendPairing (h : s.Keeps μ s₀)
    (hm : Covers 0x80000000000140000000000000000000000c02 μ := by exact .mono (by assumption)) : s.sendPairing.Keeps μ s₀ := by
  unfold State.sendPairing
  split
  · exact h
  · dsimp -zeta only
    extract_lets +onlyGivenNames s1
    extract_lets +onlyGivenNames s2
    have h2 : s2.Keeps μ s₀ := by
      unfold s2
      have hb : (s.draw FreeKind.nonce (2 ^ 256)).2.Keeps μ s₀ := h.draw
      exact hb.of_eq
    exact h2.haulSend.send

theorem mirror {w : MirrorWhat} {b : MirrorBody} (h : s.Keeps μ s₀)
    (hm : Covers 0x80000000000100000000600000000000000402 μ := by exact .mono (by assumption)) : (s.mirror w b).Keeps μ s₀ := by
  unfold State.mirror
  extract_lets +onlyGivenNames n1
  refine State.Keeps.haulSend ?_
  extract_lets +onlyGivenNames s1
  have h1 : s1.Keeps μ s₀ := h.send
  exact h1.of_eq

theorem mirrorAlso {b : MirrorBody} (h : s.Keeps μ s₀)
    (hm : Covers 0x80000000000100000000600000000000000402 μ := by exact .mono (by assumption)) : (s.mirrorAlso b).Keeps μ s₀ := by
  unfold State.mirrorAlso
  exact h.mirror.ite h

theorem mirrorNote {b : MirrorBody} (h : s.Keeps μ s₀)
    (hm : Covers 0x80000000000100000000600000000000000402 μ := by exact .mono (by assumption)) : (s.mirrorNote b).Keeps μ s₀ := by
  unfold State.mirrorNote
  exact h.mirror.ite h

theorem haulNote (h : s.Keeps μ s₀)
    (hm : Covers 0x80000000000100000000000000000000000402 μ := by exact .mono (by assumption)) : s.haulNote.Keeps μ s₀ := by
  unfold State.haulNote
  exact h.haulSend.ite h

theorem setConn {c : Conn} (h : s.Keeps μ s₀) (hm : Covers 0x2000 μ := by exact .mono (by assumption)) : (s.setConn c).Keeps μ s₀ := h.of_eq

theorem bumpX {f : Nat → Fld} {c : Conn} (h : s.Keeps μ s₀) (hf : ∀ r, Writable μ (f r).key := by exact fun _ => .anyWord (.mono (by assumption))) :
    (s.bumpX f c).Keeps μ s₀ := h.bump (hf _)

theorem raiseX {c : Conn} {loc sev code data : Nat} (h : s.Keeps μ s₀)
    (hm : Covers 0x1000000000000000000000000000486 μ := by exact .mono (by assumption)) : (s.raiseX c loc sev code data).Keeps μ s₀ := h.raise

theorem makeRoom {t : State} {r : Nat} (h : s.Keeps μ s₀) (ht : s.makeRoom r = some t)
    (hm : Covers 0x2000 μ := by exact .mono (by assumption)) : t.Keeps μ s₀ := by
  unfold State.makeRoom at ht
  split at ht
  · cases ht; exact h
  · split at ht
    · cases ht
    · obtain ⟨v, -, rfl⟩ := Option.map_eq_some_iff.mp ht
      exact h.setConn

theorem mirrorConn {cid : Nat} (h : s.Keeps μ s₀)
    (hm : Covers 0x80000000000100000000600000000000000402 μ := by exact .mono (by assumption)) : (s.mirrorConn cid).Keeps μ s₀ := by
  unfold State.mirrorConn
  split
  · exact h.mirrorNote
  · exact h

theorem freeConn {c : Conn} (h : s.Keeps μ s₀)
    (hm : Covers 0x80000000000100000000600000000000006402 μ := by exact .mono (by assumption)) : (s.freeConn c).Keeps μ s₀ := by
  unfold State.freeConn
  extract_lets +onlyGivenNames s1
  have h1 : s1.Keeps μ s₀ := h.mirrorNote
  exact h1.of_eq

theorem nrtOut {c : Conn} {q : NrtHdr} {e : NrtExt} {b : NrtBody} (h : s.Keeps μ s₀)
    (hm : Covers 0x100000000000000000000000000000000000000000402 μ := by exact .mono (by assumption)) : (s.nrtOut c q e b).1.Keeps μ s₀ := by
  unfold State.nrtOut
  extract_lets +onlyGivenNames h1
  exact (h.send.bumpX (fun _ => hm.writes .XPT_TX_PKT _))

theorem sendSync {c : Conn} (h : s.Keeps μ s₀)
    (hm : Covers 0x100000000000000000000000000000000000000000402 μ := by exact .mono (by assumption)) : (s.sendSync c).1.Keeps μ s₀ := by
  unfold State.sendSync
  split
  · exact h
  · extract_lets +onlyGivenNames e
    dsimp -zeta only
    exact h.nrtOut

theorem nrtSend {c : Conn} {q : NrtHdr} {e : NrtExt} {b : NrtBody} (h : s.Keeps μ s₀)
    (hm : Covers 0x100000000000000000000000000000000000000000402 μ := by exact .mono (by assumption)) : (s.nrtSend c q e b).1.Keeps μ s₀ := by
  unfold State.nrtSend
  dsimp -zeta only
  exact h.sendSync.nrtOut

theorem nrtBare {c : Conn} {typ : Nat} (h : s.Keeps μ s₀)
    (hm : Covers 0x100000000000000000000000000000000000000000402 μ := by exact .mono (by assumption)) : (s.nrtBare c typ).Keeps μ s₀ := h.nrtSend

theorem settleMsg {cid m : Nat} (h : s.Keeps μ s₀)
    (hm : Covers 0x80000000000100000000600000000000002402 μ := by exact .mono (by assumption)) : (s.settleMsg cid m).Keeps μ s₀ := by
  unfold State.settleMsg
  split
  · exact h
  · exact h.mirror.ite h.setConn

theorem sendAck {c : Conn} {path : Nat} (h : s.Keeps μ s₀)
    (hm : Covers 0x100000000000000000000000000000000000000002402 μ := by exact .mono (by assumption)) : (s.sendAck c path).Keeps μ s₀ := by
  unfold State.sendAck
  dsimp -zeta only
  exact h.nrtSend.setConn

theorem restoreCredits (h : s.Keeps μ s₀)
    (hm : Covers 0x100000000000000000000000000000000000000002402 μ := by exact .mono (by assumption)) : s.restoreCredits.Keeps μ s₀ := by
  unfold State.restoreCredits
  exact h.foldl fun _ _ ht => ht.sendAck

theorem sendData {c : Conn} {p : TxPkt} (h : s.Keeps μ s₀)
    (hm : Covers 0x100000000000000000000000000000000000000000402 μ := by exact .mono (by assumption)) : (s.sendData c p).1.Keeps μ s₀ := h.nrtSend

theorem sendNext {c : Conn} {m : OutMsg} (h : s.Keeps μ s₀)
    (hm : Covers 0x100000000000000000000000000000000000000000402 μ := by exact .mono (by assumption)) : (s.sendNext c m).1.Keeps μ s₀ := h.sendData

theorem pumpN {c : Conn} {y : Nat} (h : s.Keeps μ s₀)
    (hm : Covers 0x100000000000000000000000000000000000000000402 μ := by exact .mono (by assumption)) : (s.pumpN c y).1.Keeps μ s₀ := by
  induction y generalizing s c with
  | zero => exact h
  | succ y ih =>
    unfold State.pumpN
    split
    · exact h
    · exact ih h.sendNext

theorem pump {c : Conn} (h : s.Keeps μ s₀)
    (hm : Covers 0x100000000000000000000000000000000000000000402 μ := by exact .mono (by assumption)) : (s.pump c).1.Keeps μ s₀ := h.pumpN

theorem roceSend {c : Conn} {m : RoceOut} {k : Nat} (h : s.Keeps μ s₀)
    (hm : Covers 0x100000000000000000000000000000000000000000402 μ := by exact .mono (by assumption)) :
    (s.roceSend c m k).Keeps μ s₀ := (h.send.bumpBy (hm.writes .XPT_TX_PKT _))

theorem roceAnsOut {c : Conn} {psn : Nat} {a : RoceAns} (h : s.Keeps μ s₀)
    (hm : Covers 0x100000000000000000000000000000000000000000402 μ := by exact .mono (by assumption)) : (s.roceAnsOut c psn a).Keeps μ s₀ := by
  cases a
  all_goals exact h.roceSend

theorem roceFlush {c : Conn} {l : List RoceReq} (h : s.Keeps μ s₀)
    (hm : Covers 0x100000000000000000000000000000000000000002402 μ := by exact .mono (by assumption)) : (s.roceFlush c l).Keeps μ s₀ := by
  induction l generalizing s with
  | nil => exact h.setConn
  | cons r rest ih =>
    unfold State.roceFlush
    split
    · exact h.setConn
    · exact ih h.roceAnsOut

theorem roceAnswer {cid psn : Nat} {a : RoceAns} (h : s.Keeps μ s₀)
    (hm : Covers 0x100000000000000000000000000000000000000002402 μ := by exact .mono (by assumption)) : (s.roceAnswer cid psn a).Keeps μ s₀ := by
  unfold State.roceAnswer
  split
  · exact h
  · extract_lets +onlyGivenNames set
    exact h.roceFlush

theorem roceMessage {c : Conn} {m : OutMsg} (h : s.Keeps μ s₀)
    (hm : Covers 0x100000000000000000000000000000000000000002402 μ := by exact .mono (by assumption)) :
    (s.roceMessage c m).Keeps μ s₀ := h.roceSend.setConn

theorem rocePumpN {index y : Nat} (h : s.Keeps μ s₀)
    (hm : Covers 0x100000000000000000000000000000000000000002402 μ := by exact .mono (by assumption)) : (s.rocePumpN index y).Keeps μ s₀ := by
  induction y generalizing s with
  | zero => exact h
  | succ y ih =>
    unfold State.rocePumpN
    split
    · split
      · split
        · exact ih h.roceMessage
        · exact h
      · exact h
    · exact h

theorem rocePump {c : Conn} (h : s.Keeps μ s₀)
    (hm : Covers 0x100000000000000000000000000000000000000002402 μ := by exact .mono (by assumption)) : (s.rocePump c).Keeps μ s₀ := h.rocePumpN

theorem raiseCeiling {c : Conn} (h : s.Keeps μ s₀)
    (hm : Covers 0x80000000000100000000600000000000000402 μ := by exact .mono (by assumption)) : (s.raiseCeiling c).Keeps μ s₀ := by
  unfold State.raiseCeiling
  extract_lets +onlyGivenNames asked
  exact h.mirror.ite h

theorem goOn {c : Conn} (h : s.Keeps μ s₀)
    (hm : Covers 0x100000080000000000100000000600000000000002402 μ := by exact .mono (by assumption)) : (s.goOn c).Keeps μ s₀ := by
  unfold State.goOn
  split
  · dsimp -zeta only
    exact h.pump.setConn.raiseCeiling
  · exact h.setConn.rocePump

theorem transmitAs {cid msg : Nat} {b : OutBody} (h : s.Keeps μ s₀)
    (hm : Covers 0x100000080000000000100000000600000000000002402 μ := by exact .mono (by assumption)) : (s.transmitAs cid msg b).Keeps μ s₀ := by
  unfold State.transmitAs
  split
  · exact h
  · exact h.goOn

theorem commitMsg {cid : Nat} {b : OutBody} (h : s.Keeps μ s₀)
    (hm : Covers 0x80000000000100000000600000000000002402 μ := by exact .mono (by assumption)) : (s.commitMsg cid b).2.Keeps μ s₀ := by
  unfold State.commitMsg
  split
  · exact h
  · extract_lets +onlyGivenNames s1
    have h1 : s1.Keeps μ s₀ := h.setConn
    exact h1.mirrorConn

theorem transmit {cid : Nat} {b : OutBody} (h : s.Keeps μ s₀)
    (hm : Covers 0x100000080000000000100000000600000000000002402 μ := by exact .mono (by assumption)) : (s.transmit cid b).Keeps μ s₀ := by
  unfold State.transmit
  split
  · exact h
  · extract_lets +onlyGivenNames c
    split
    · extract_lets +onlyGivenNames c1
      exact h.goOn
    · extract_lets +onlyGivenNames psn c1 c2
      exact h.setConn.mirror.ite h.mirrorAlso.goOn

theorem resend {c : Conn} {order : Nat} (h : s.Keeps μ s₀)
    (hm : Covers 0x180000000000000000000000000000000000000000402 μ := by exact .mono (by assumption)) : (s.resend c order).1.Keeps μ s₀ := by
  unfold State.resend
  split
  · exact h
  · extract_lets +onlyGivenNames path q
    dsimp -zeta only
    exact (h.sendData.bumpX (fun _ => hm.writes .XPT_RETX _))

theorem resendAll {c : Conn} {orders : List Nat} (h : s.Keeps μ s₀)
    (hm : Covers 0x180000000000000000000000000000000000000000402 μ := by exact .mono (by assumption)) : (s.resendAll c orders).1.Keeps μ s₀ := by
  unfold State.resendAll
  refine State.Keeps.foldl_fst h fun q x hq => ?_
  exact hq.resend

theorem restorePath {c : Conn} {p : Nat} (h : s.Keeps μ s₀)
    (hm : Covers 0x1000000000000000000000000000486 μ := by exact .mono (by assumption)) : (s.restorePath c p).1.Keeps μ s₀ := by
  unfold State.restorePath
  split
  · exact h.raiseX
  · exact h

/-! ### Hosts, controllers and the endpoint -/

theorem updIdent {i : Nat} {f : Ident → Ident} (h : s.Keeps μ s₀)
    (hm : Covers 0x8000 μ := by exact .mono (by assumption)) : (s.updIdent i f).Keeps μ s₀ := h.of_eq

theorem updCtrl {i : Nat} {f : Ctrl → Ctrl} (h : s.Keeps μ s₀)
    (hm : Covers 0x800000 μ := by exact .mono (by assumption)) : (s.updCtrl i f).Keeps μ s₀ := h.of_eq

theorem updNs {k : Nat} {f : Namespace → Namespace} (h : s.Keeps μ s₀)
    (hm : Covers 0x10000 μ := by exact .mono (by assumption)) : (s.updNs k f).Keeps μ s₀ := h.of_eq

theorem updCmd {id : Nat} {f : Cmd → Cmd} (h : s.Keeps μ s₀)
    (hm : Covers 0x4000000 μ := by exact .mono (by assumption)) : (s.updCmd id f).Keeps μ s₀ := h.of_eq

theorem updQueue {ctl q : Nat} {f : Queue → Queue} (h : s.Keeps μ s₀)
    (hm : Covers 0x800000 μ := by exact .mono (by assumption)) : (s.updQueue ctl q f).Keeps μ s₀ := h.updCtrl

theorem bumpCmd {f : Nat → Fld} {v : NvmeCmd} (h : s.Keeps μ s₀) (hf : ∀ r, Writable μ (f r).key := by exact fun _ => .anyWord (.mono (by
    assumption))) :
    (s.bumpCmd f v).Keeps μ s₀ := h.foldl fun _ _ ht => ht.bump (hf _)

theorem raiseCmd {r loc sev code data : Nat} (h : s.Keeps μ s₀)
    (hm : Covers 0x1000000000000000000000000000486 μ := by exact .mono (by assumption)) : (s.raiseCmd r loc sev code data).Keeps μ s₀ := h.raise

theorem raiseLay {g loc sev code data : Nat} (h : s.Keeps μ s₀)
    (hm : Covers 0x1000000000000000000000000000486 μ := by exact .mono (by assumption)) : (s.raiseLay g loc sev code data).Keeps μ s₀ := h.raise

theorem raiseSvy {g loc sev code data : Nat} (h : s.Keeps μ s₀)
    (hm : Covers 0x1000000000000000000000000000486 μ := by exact .mono (by assumption)) : (s.raiseSvy g loc sev code data).Keeps μ s₀ := h.raise

theorem updEpf {f : Nat} {g : EpFunc → EpFunc} (h : s.Keeps μ s₀)
    (hm : Covers 0x80000000000000000000000 μ := by exact .mono (by assumption)) : (s.updEpf f g).Keeps μ s₀ := h.of_eq

theorem epTlp (h : s.Keeps μ s₀) (hm : Covers 0xc00000000000000000000000 μ := by exact .mono (by assumption)) : s.epTlp.Keeps μ s₀ := h.of_eq

theorem epRead {t : State} {f : Nat} {w : EpWhat} {second : Bool} (h : s.Keeps μ s₀) (ht : s.epRead f w second = some t)
    (hm : Covers 0x1ffffffffffff03000000d00000000000000000000402 μ := by exact .mono (by assumption)) :
    t.Keeps μ s₀ := by
  unfold State.epRead at ht
  split at ht
  · cases ht
  · next tag _ =>
    obtain rfl := Option.some.inj ht
    exact (State.Keeps.send h.of_eq).bump.epTlp

theorem epFetchSq {f qid : Nat} (h : s.Keeps μ s₀)
    (hm : Covers 0x1ffffffffffff03000000d00000000000000000000402 μ := by exact .mono (by assumption)) : (s.epFetchSq f qid).Keeps μ s₀ := by
  unfold State.epFetchSq
  extract_lets +onlyGivenNames idx
  split
  · exact h
  · split
    · exact h
    · extract_lets +onlyGivenNames busy avail
      split
      · exact h
      · split
        · rename_i t heq
          have ht : t.Keeps μ s₀ := h.epRead heq
          exact ht
        · exact h

theorem epFetchAll {f : Nat} (h : s.Keeps μ s₀)
    (hm : Covers 0x1ffffffffffff03000000d00000000000000000000402 μ := by exact .mono (by assumption)) : (s.epFetchAll f).Keeps μ s₀ := by
  unfold State.epFetchAll
  split
  · exact h
  · exact h.foldl fun _ _ ht => ht.epFetchSq

theorem syncReady (h : s.Keeps μ s₀) (hm : Covers 0x800000 μ := by exact .mono (by assumption)) : s.syncReady.Keeps μ s₀ := h.of_eq

theorem syncCmds (h : s.Keeps μ s₀)
    (hm : Covers 0x1ffffffffffff03000000d00000000000000008802402 μ := by exact .mono (by assumption)) : s.syncCmds.Keeps μ s₀ := by
  unfold State.syncCmds
  extract_lets +onlyGivenNames s1 full s2
  have h1 : s1.Keeps μ s₀ := h.syncReady
  have h2 : s2.Keeps μ s₀ := h1.wr
  extract_lets +onlyGivenNames s3
  have h3 : s3.Keeps μ s₀ := h2.of_eq
  exact (h3.restoreCredits.foldl fun _ _ ht => ht.epFetchAll).ite h3

theorem epInterrupt {f vector : Nat} (h : s.Keeps μ s₀)
    (hm : Covers 0x80000000000000000000400 μ := by exact .mono (by assumption)) : (s.epInterrupt f vector).Keeps μ s₀ := by
  unfold State.epInterrupt
  exact h.send.ite h.updEpf

theorem epEntry {t : State} {f ctl qid : Nat} {o : Out} (h : s.Keeps μ s₀) (ht : s.epEntry f ctl qid o = some t)
    (hm : Covers 0x1ffffffffffff03000000c80000000000000000800402 μ := by exact .mono (by assumption)) : t.Keeps μ s₀ := by
  unfold State.epEntry at ht
  split at ht
  · cases ht; exact h
  · split at ht
    · cases ht
    · obtain rfl := Option.some.inj ht
      refine State.Keeps.ite ?_ ?_
      · exact h.updCtrl.send.bump.bump.epTlp.epInterrupt
      · exact h.updCtrl.send.bump.bump.epTlp

theorem epFlush {f : Nat} (h : s.Keeps μ s₀)
    (hm : Covers 0x1ffffffffffff03000001c80000000000000000800402 μ := by exact .mono (by assumption)) : (s.epFlush f).Keeps μ s₀ := by
  unfold State.epFlush
  extract_lets +onlyGivenNames l
  split
  · exact h
  · refine State.Keeps.foldl ?_ fun a x ha => ?_
    · extract_lets +onlyGivenNames s1
      have h1 : s1.Keeps μ s₀ := h.updEpf
      exact h1.of_eq
    · split
      · exact ha.updEpf
      · split
        · split
          · rename_i t heq
            have ht : t.Keeps μ s₀ := ha.epEntry heq
            exact ht
          · exact ha.updEpf
        · exact ha.send.bump.epTlp

theorem toHost {ctl : Nat} {o : Out} (h : s.Keeps μ s₀)
    (hm : Covers 0x1ffffffffffff03000001c80000000000000000800402 μ := by exact .mono (by assumption)) : (s.toHost ctl o).Keeps μ s₀ := by
  unfold State.toHost
  split
  · exact h.updEpf.epFlush
  · exact h.send

theorem syncEpQuar (h : s.Keeps μ s₀)
    (hm : Covers 0x8000001000004000000000000000000000486 μ := by exact .mono (by assumption)) : s.syncEpQuar.Keeps μ s₀ := by
  unfold State.syncEpQuar
  extract_lets +onlyGivenNames n1 s1
  have h1 : s1.Keeps μ s₀ := (h.wr (f := F.EPT_STAT_QUAR) (hm.writes .EPT_STAT_RELAY 0))
  split
  · split
    · exact h1
    · extract_lets +onlyGivenNames s2
      have h2 : s2.Keeps μ s₀ := h1.raise
      exact h2.of_eq
  · exact h1.of_eq

theorem epIssue {f : Nat} (h : s.Keeps μ s₀)
    (hm : Covers 0x1ffffffffffff03000000f00000000000000000000402 μ := by exact .mono (by assumption)) : (s.epIssue f).Keeps μ s₀ := by
  unfold State.epIssue
  extract_lets +onlyGivenNames fatal
  split
  · exact h
  · refine h.foldl fun a x ha => ?_
    refine ha.foldl fun a1 x1 ha1 => ?_
    split
    · rename_i t heq
      have ht : t.Keeps μ s₀ := ha1.epRead heq
      exact ht.of_eq
    · exact ha1

theorem epStartFetch {ctl cmd len : Nat} (h : s.Keeps μ s₀)
    (hm : Covers 0x1ffffffffffff03000000f00000000000000000000402 μ := by exact .mono (by assumption)) : (s.epStartFetch ctl cmd len).Keeps μ s₀ := by
  unfold State.epStartFetch
  split
  · extract_lets +onlyGivenNames x
    exact h.of_eq.epIssue
  · exact h.send

theorem epDropFetch {cmd : Nat} (h : s.Keeps μ s₀)
    (hm : Covers 0x200000000000000000000000 μ := by exact .mono (by assumption)) : (s.epDropFetch cmd).Keeps μ s₀ := h.of_eq

theorem respond {k : NvmeCmd} {dw0 : Nat} {st : Status} {msg : Option Nat} (h : s.Keeps μ s₀)
    (hm : Covers 0x1ffffffffffff03000101c80000600000000000802402 μ := by exact .mono (by assumption)) : (s.respond k dw0 st msg).Keeps μ s₀ := by
  unfold State.respond
  extract_lets +onlyGivenNames body
  split
  · exact h
  · split
    · exact h.ite h.transmitAs
    · exact h.transmit
    · exact h.toHost

theorem mirrorNs {nsid : Nat} (h : s.Keeps μ s₀)
    (hm : Covers 0x80000000000100000000600000000000000402 μ := by exact .mono (by assumption)) : (s.mirrorNs nsid).Keeps μ s₀ := h.mirrorNote

theorem mirrorEffect {nsid cmd dw0 : Nat} (h : s.Keeps μ s₀)
    (hm : Covers 0x80000000000100000000600000000000000402 μ := by exact .mono (by assumption)) :
    (s.mirrorEffect nsid cmd dw0).Keeps μ s₀ := h.mirrorNote

theorem setAtPost {v : NvmeCmd} (h : s.Keeps μ s₀)
    (hm : Covers 0x80000000000100000000600000000000810402 μ := by exact .mono (by assumption)) : (s.setAtPost v).Keeps μ s₀ := by
  unfold State.setAtPost
  extract_lets +onlyGivenNames m onQueue
  have honQueue : ∀ q f, (onQueue q f).Keeps μ s₀ := by
    intro q f
    unfold onQueue
    extract_lets +onlyGivenNames s1
    have h1 : s1.Keeps μ s₀ := h.updQueue
    split
    · exact h1.mirrorConn
    · exact h1
  exact h.ite ((honQueue _ _).ite (h.ite (h.updNs.ite (honQueue _ _))))

theorem post {c : Cmd} (h : s.Keeps μ s₀)
    (hm : Covers 0x1ffffffffffff03000101d8000060000000000c812402 μ := by exact .mono (by assumption)) : (s.post c).Keeps μ s₀ := by
  unfold State.post
  split
  · exact h
  · extract_lets +onlyGivenNames s1 s2 s3
    have h1 : s1.Keeps μ s₀ := h.of_eq
    have h2 : s2.Keeps μ s₀ := h1.setAtPost.ite h1
    have h3 : s3.Keeps μ s₀ := h2.bumpCmd.respond.ite h2
    exact h3.mirrorNote.syncCmds

theorem reserveResponse {c : Cmd} (h : s.Keeps μ s₀)
    (hm : Covers 0x80000000000100000000600000000004002402 μ := by exact .mono (by assumption)) : (s.reserveResponse c).Keeps μ s₀ := by
  unfold State.reserveResponse
  split
  · split
    · dsimp -zeta only
      exact h.commitMsg.updCmd
    · exact h
  · exact h

theorem tryPost {id : Nat} (h : s.Keeps μ s₀)
    (hm : Covers 0x1ffffffffffff03000101d8000060000000000c812402 μ := by exact .mono (by assumption)) : (s.tryPost id).Keeps μ s₀ := by
  unfold State.tryPost
  split
  · exact h
  · split
    · exact h
    · split
      · extract_lets +onlyGivenNames s1
        have h1 : s1.Keeps μ s₀ := h.reserveResponse.updCmd
        split
        · exact h1.mirror
        · exact h1
      · exact h.post

theorem setMet {id dw0 : Nat} {st : Status} (h : s.Keeps μ s₀)
    (hm : Covers 0x4000000 μ := by exact .mono (by assumption)) : (s.setMet id dw0 st).Keeps μ s₀ := h.updCmd

theorem finish {id dw0 : Nat} {st : Status} (h : s.Keeps μ s₀)
    (hm : Covers 0x1ffffffffffff03000101d8000060000000000c812402 μ := by exact .mono (by assumption)) :
    (s.finish id dw0 st).Keeps μ s₀ := h.setMet.tryPost

theorem sendNotices {ctl y : Nat} (h : s.Keeps μ s₀)
    (hm : Covers 0x1ffffffffffff03000101d8000060000000000c812402 μ := by exact .mono (by assumption)) : (s.sendNotices ctl y).Keeps μ s₀ := by
  induction y generalizing s with
  | zero => exact h
  | succ y ih =>
    unfold State.sendNotices
    split
    · exact h
    · split
      · exact ih h.updCtrl.finish
      · exact h

theorem notice {ctl typ info page : Nat} (h : s.Keeps μ s₀)
    (hm : Covers 0x1ffffffffffff03000101d8000060000000000c812402 μ := by exact .mono (by assumption)) : (s.notice ctl typ info page).Keeps μ s₀ := by
  unfold State.notice
  split
  · exact h
  · extract_lets +onlyGivenNames enabled
    exact h.ite h.updCtrl.sendNotices

theorem noticeAll {p : Nat → Bool} {typ info page : Nat} (h : s.Keeps μ s₀)
    (hm : Covers 0x1ffffffffffff03000101d8000060000000000c812402 μ := by exact .mono (by assumption)) : (s.noticeAll p typ info page).Keeps μ s₀ := by
  unfold State.noticeAll
  refine h.foldl fun a x ha => ?_
  split
  · exact ha.notice.ite ha
  · exact ha

theorem nsChanged {nsid : Nat} {p : Nat → Bool} (h : s.Keeps μ s₀)
    (hm : Covers 0x1ffffffffffff03000101d8000060000000000c812402 μ := by exact .mono (by assumption)) :
    (s.nsChanged nsid p).Keeps μ s₀ := h.of_eq.noticeAll

theorem resvNotice {nsid typ : Nat} {p : Nat → Bool} (h : s.Keeps μ s₀)
    (hm : Covers 0x1ffffffffffff03000101d8000060000000000c812402 μ := by exact .mono (by assumption)) : (s.resvNotice nsid typ p).Keeps μ s₀ := by
  unfold State.resvNotice
  exact h.foldl fun _ _ ht => ht.updCtrl.notice

theorem recordLost {nsid slba nlb cause : Nat} (h : s.Keeps μ s₀)
    (hm : Covers 0x1ffffffffffff03000101d8000060000000000c812486 μ := by exact .mono (by assumption)) :
    (s.recordLost nsid slba nlb cause).Keeps μ s₀ := by
  unfold State.recordLost
  split
  · exact h
  · extract_lets +onlyGivenNames blocks full lost s1 s2
    have h1 : s1.Keeps μ s₀ := h.updNs
    have h2 : s2.Keeps μ s₀ := h1.raiseCmd
    exact h2.noticeAll.mirrorNs

theorem clearLost {nsid lba : Nat} (h : s.Keeps μ s₀)
    (hm : Covers 0x10000 μ := by exact .mono (by assumption)) : (s.clearLost nsid lba).Keeps μ s₀ := h.updNs

theorem markAttached {nsid : Nat} (h : s.Keeps μ s₀)
    (hm : Covers 0x80000000000100000000600000000000010402 μ := by exact .mono (by assumption)) : (s.markAttached nsid).Keeps μ s₀ := h.updNs.mirrorNs

/-! ### Groups -/

theorem updGroup {g : Nat} {f : Group → Group} (h : s.Keeps μ s₀)
    (hm : Covers 0x1000000000 μ := by exact .mono (by assumption)) : (s.updGroup g f).Keeps μ s₀ := h.of_eq

theorem updSlot {k : Nat} {f : Slot → Slot} (h : s.Keeps μ s₀)
    (hm : Covers 0x800000000000 μ := by exact .mono (by assumption)) : (s.updSlot k f).Keeps μ s₀ := h.of_eq

theorem setOut {k bitNo : Nat} {v : Bool} (h : s.Keeps μ s₀)
    (hm : Covers 0x10000000 μ := by exact .mono (by assumption)) : (s.setOut k bitNo v).Keeps μ s₀ := h.of_eq

theorem mirrorSlot {k : Nat} (h : s.Keeps μ s₀)
    (hm : Covers 0x80000000000100000000600000000000000402 μ := by exact .mono (by assumption)) : (s.mirrorSlot k).Keeps μ s₀ := h.mirrorNote

theorem changeSlot {k st : Nat} {f : Slot → Slot} (h : s.Keeps μ s₀)
    (hm : Covers 0x1ffffffffffff03000100000000600000800000000402 μ := by exact .mono (by assumption)) : (s.changeSlot k st f).Keeps μ s₀ :=
  (h.updSlot.wr).mirrorSlot

theorem updStripe {g k : Nat} {f : Stripe → Stripe} (h : s.Keeps μ s₀)
    (hm : Covers 0x2000000000 μ := by exact .mono (by assumption)) : (s.updStripe g k f).Keeps μ s₀ := h.of_eq

theorem syncHold {g : Nat} (h : s.Keeps μ s₀)
    (hm : Covers 0xc00000001000000000000000000001000000486 μ := by exact .mono (by assumption)) : (s.syncHold g).Keeps μ s₀ := by
  unfold State.syncHold
  extract_lets +onlyGivenNames f
  split
  · split
    · extract_lets +onlyGivenNames s1
      have h1 : s1.Keeps μ s₀ := h.updGroup
      exact ((h1.wr (f := F.LAY_GSTAT_SPACE_HOLD _) (hm.writes .LAY_GSTAT_ENTRY_HOLD _))).raiseLay
    · exact h
  · extract_lets +onlyGivenNames us s1
    have h1 : s1.Keeps μ s₀ := ((h.bumpBy (hm.writes .LAY_HOLD_US _))).updGroup
    split
    · extract_lets +onlyGivenNames s2
      have h2 : s2.Keeps μ s₀ := h1.updGroup
      exact ((h2.wr (f := F.LAY_GSTAT_SPACE_HOLD _) (hm.writes .LAY_GSTAT_ENTRY_HOLD _))).raiseLay
    · exact h1

theorem setEntryNotice {l : List Nat} (h : s.Keeps μ s₀)
    (hm : Covers 0x4000000000 μ := by exact .mono (by assumption)) : { s with entryNotice := l }.Keeps μ s₀ := h.of_eq

theorem syncEntries {g : Nat} (h : s.Keeps μ s₀)
    (hm : Covers 0x400000001000000000000000000004000000486 μ := by exact .mono (by assumption)) : (s.syncEntries g).Keeps μ s₀ := by
  unfold State.syncEntries
  extract_lets +onlyGivenNames e free
  have hw : ∀ v, (s.wr (F.LAY_GSTAT_ENTRY_HOLD g) v).Keeps μ s₀ := fun v => (h.wr (hm.writes .LAY_GSTAT_ENTRY_HOLD _))
  split
  · exact (hw 0).setEntryNotice.ite h
  · exact (hw 1).raiseLay.setEntryNotice.ite h

theorem syncGroup {g : Nat} (h : s.Keeps μ s₀)
    (hm : Covers 0xc00000001000000000000000000005000000486 μ := by exact .mono (by assumption)) : (s.syncGroup g).Keeps μ s₀ := by
  unfold State.syncGroup
  split
  · exact h
  · extract_lets +onlyGivenNames s1 s2 s3
    have h1 : s1.Keeps μ s₀ := (h.wr (f := F.LAY_GSTAT_OPEN _) (hm.writes .LAY_GSTAT_ENTRY_HOLD _))
    have h2 : s2.Keeps μ s₀ := (h1.wr (f := F.LAY_GSTAT_SERVICE _) (hm.writes .LAY_GSTAT_ENTRY_HOLD _))
    have h3 : s3.Keeps μ s₀ := (h2.wr (f := F.LAY_GSTAT_FREE_PCT _) (hm.writes .LAY_GSTAT_ENTRY_HOLD _))
    exact h3.syncHold.syncEntries.ite h3

/-! ### Member commands -/

theorem syncQuar {slot : Nat} (h : s.Keeps μ s₀)
    (hm : Covers 0x2000000000000000000000000000000000002 μ := by exact .mono (by assumption)) :
    (s.syncQuar slot).Keeps μ s₀ := (h.wr (f := F.DRV_PSTAT_QUAR _ _) (hm.writes .DRV_PSTAT_CONTAINED _ _))

theorem issueM {slot q : Nat} {w : MWork} (h : s.Keeps μ s₀)
    (hm : Covers 0x1000000000000000000000006000000000402 μ := by exact .mono (by assumption)) : (s.issueM slot q w).Keeps μ s₀ := by
  unfold State.issueM
  split
  · extract_lets +onlyGivenNames tag
    exact (h.of_eq.send.bump (hm.writes .DRV_CMD _ _))
  · exact h.of_eq

theorem issueWaiting (h : s.Keeps μ s₀)
    (hm : Covers 0x1000000000000000000000006000000000402 μ := by exact .mono (by assumption)) : s.issueWaiting.Keeps μ s₀ := by
  unfold State.issueWaiting
  extract_lets +onlyGivenNames l
  exact h.of_eq.foldl fun _ _ ht => ht.issueM

theorem abandonM {p : MWork → Bool} (h : s.Keeps μ s₀)
    (hm : Covers 0x2000000000000000000000006000000000002 μ := by exact .mono (by assumption)) : (s.abandonM p).Keeps μ s₀ := by
  unfold State.abandonM
  extract_lets +onlyGivenNames slots
  exact h.of_eq.foldl fun _ _ ht => ht.syncQuar

theorem bgIo {l : List Nat} (h : s.Keeps μ s₀)
    (hm : Covers 0x1000000000000000000000000000000000002 μ := by exact .mono (by assumption)) : (s.bgIo l).Keeps μ s₀ := by
  unfold State.bgIo
  exact h.foldl fun _ _ ht => (ht.bump (hm.writes .DRV_CMD _ _))

theorem issueRec {g : Nat} {b : RecBody} (h : s.Keeps μ s₀)
    (hm : Covers 0x300000000000000000000000000100000000002 μ := by exact .mono (by assumption)) : (s.issueRec g b).2.Keeps μ s₀ := by
  unfold State.issueRec
  extract_lets +onlyGivenNames q r s1
  extract_lets +onlyGivenNames s2
  have h2 : s2.Keeps μ s₀ := h.of_eq
  exact (h2.wr64 (hm.writes .JNL_SEQ_LO 0) (hm.writes .JNL_SEQ_HI 0))

theorem emitRec {g : Nat} {b : RecBody} (h : s.Keeps μ s₀)
    (hm : Covers 0x300000000000000000000000000100000000002 μ := by exact .mono (by assumption)) : (s.emitRec g b).Keeps μ s₀ := h.issueRec

theorem updRec {q : Nat} {f : Rec → Rec} (h : s.Keeps μ s₀)
    (hm : Covers 0x100000000000 μ := by exact .mono (by assumption)) : (s.updRec q f).Keeps μ s₀ := h.of_eq

/-! ### Layout -/

theorem closeStripe {g k : Nat} (h : s.Keeps μ s₀)
    (hm : Covers 0x2000000000 μ := by exact .mono (by assumption)) : (s.closeStripe g k).Keeps μ s₀ := h.updStripe

theorem openStripe {t : State} {g k : Nat} {st : Stream} (h : s.Keeps μ s₀) (ht : s.openStripe g st = some (k, t))
    (hm : Covers 0xc00000001000000000000000000007000000486 μ := by exact .mono (by assumption)) : t.Keeps μ s₀ := by
  unfold State.openStripe at ht
  split at ht
  · cases ht
  · dsimp only at ht
    split at ht
    · split at ht
      · cases ht
      · obtain ⟨-, rfl⟩ := Prod.mk.inj (Option.some.inj ht)
        exact State.Keeps.syncGroup (State.Keeps.updGroup h.of_eq)
    · cases ht

theorem stripeFor {t : State} {g k : Nat} {st : Stream} (h : s.Keeps μ s₀) (ht : s.stripeFor g st = some (k, t))
    (hm : Covers 0xc00000001000000000000000000007000000486 μ := by exact .mono (by assumption)) : t.Keeps μ s₀ := by
  unfold State.stripeFor at ht
  split at ht
  · cases ht; exact h
  · split at ht
    · exact h.openStripe ht
    · cases ht

theorem placeIn {g k : Nat} {b : SBlock} (h : s.Keeps μ s₀)
    (hm : Covers 0x2000000000 μ := by exact .mono (by assumption)) : (s.placeIn g k b).Keeps μ s₀ := by
  unfold State.placeIn
  split
  · exact h
  · extract_lets +onlyGivenNames i keep b1 s1
    have h1 : s1.Keeps μ s₀ := h.updStripe
    exact h1.closeStripe.ite h1

theorem place {g : Nat} {st : Stream} {b : SBlock} (h : s.Keeps μ s₀)
    (hm : Covers 0xc00000001000000000000000000007000000486 μ := by exact .mono (by assumption)) : (s.place g st b).1.Keeps μ s₀ := by
  unfold State.place
  split
  · exact h
  · rename_i t heq
    have ht : t.Keeps μ s₀ := h.stripeFor heq
    extract_lets +onlyGivenNames starts
    split
    · split
      · exact h.closeStripe
      · exact h
    · extract_lets +onlyGivenNames s1
      have h1 : s1.Keeps μ s₀ := ht.placeIn
      exact h1.updGroup.ite h1

theorem startFetch {c : Cmd} {len : Nat} (h : s.Keeps μ s₀)
    (hm : Covers 0x1ffffffffffff03000100f00000600000000004002402 μ := by exact .mono (by assumption)) : (s.startFetch c len).Keeps μ s₀ := by
  unfold State.startFetch
  extract_lets +onlyGivenNames s1
  have h1 : s1.Keeps μ s₀ := h.updCmd
  split
  · exact h1.foldl fun _ _ ht => ht.transmit
  · exact h1.epStartFetch

theorem placeCmd {id : Nat} (h : s.Keeps μ s₀)
    (hm : Covers 0xc00000001000000000000000000007004000486 μ := by exact .mono (by assumption)) : (s.placeCmd id).Keeps μ s₀ := by
  unfold State.placeCmd
  split
  · exact h
  · split
    · exact h
    · extract_lets +onlyGivenNames slba
      split
      · exact h
      · refine h.foldl fun a x ha => ?_
        split
        · split
          · exact ha
          · split
            · rename_i t x1 heq
              have ht : t.Keeps μ s₀ := ha.place.of_fst heq
              exact ht.updCmd
            · rename_i t heq
              have ht : t.Keeps μ s₀ := ha.place.of_fst heq
              exact ht
        · exact ha

theorem placeWaiting {g : Nat} (h : s.Keeps μ s₀)
    (hm : Covers 0xc00000001000000000000000000007004000486 μ := by exact .mono (by assumption)) : (s.placeWaiting g).Keeps μ s₀ := by
  unfold State.placeWaiting
  exact h.foldl fun _ _ ht => ht.placeCmd

theorem stageCmd {id : Nat} (h : s.Keeps μ s₀) (hm : Covers 0x2000000000 μ := by exact .mono (by assumption)) : (s.stageCmd id).Keeps μ s₀ := by
  unfold State.stageCmd
  split
  · exact h
  · exact h.of_eq

theorem voidCmd {id : Nat} (h : s.Keeps μ s₀) (hm : Covers 0x2000000000 μ := by exact .mono (by assumption)) : (s.voidCmd id).Keeps μ s₀ := h.of_eq

theorem dqFull {g : Nat} (h : s.Keeps μ s₀)
    (hm : Covers 0x1ffffffffffff03000000000000010000000000000486 μ := by exact .mono (by assumption)) : (s.dqFull g).Keeps μ s₀ := (h.bump).raiseOnce

theorem sealStripe {g k : Nat} (h : s.Keeps μ s₀)
    (hm : Covers 0x1ffffffffffff03000000000000000006017000000486 μ := by exact .mono (by assumption)) : (s.sealStripe g k).Keeps μ s₀ := by
  unfold State.sealStripe
  split
  · exact h
  · extract_lets +onlyGivenNames q len kp voids s1 s2 s3 s4 s5 add s6 s7
    have h1 : s1.Keeps μ s₀ := h.updGroup
    have h2 : s2.Keeps μ s₀ := h1.wr64
    have h3 : s3.Keeps μ s₀ := h2.bump
    have h4 : s4.Keeps μ s₀ := h3.bumpBy
    have h5 : s5.Keeps μ s₀ := h4.updStripe
    have h6 : s6.Keeps μ s₀ := h5.of_eq
    have h7 : s7.Keeps μ s₀ := by
      unfold s7
      refine h6.foldl fun a x ha => ?_
      split
      · exact ha.issueM
      · exact ha
    exact h7.syncGroup

theorem trySeal {g k : Nat} (h : s.Keeps μ s₀)
    (hm : Covers 0x1ffffffffffff03000000000000010006017000000486 μ := by exact .mono (by assumption)) : (s.trySeal g k).Keeps μ s₀ := by
  unfold State.trySeal
  split
  · exact h.ite (h.dqFull.ite h.sealStripe)
  · exact h

theorem execSealTimeExpiry {group stripe : Nat} (h : s.Keeps μ s₀)
    (hm : Covers 0xc00000001000000000000000000007000000486 μ := by exact .mono (by assumption)) :
    Answers μ s₀ (execSealTimeExpiry group stripe s) := by
  unfold Machine.execSealTimeExpiry
  refine State.Keeps.next ?_
  split
  · split
    · exact h.closeStripe.syncGroup.ite h
    · exact h
  · exact h

theorem execSealWaitExpiry {group stripe : Nat} (h : s.Keeps μ s₀)
    (hm : Covers 0x1ffffffffffff03000100f00000600000007004002486 μ := by exact .mono (by assumption)) :
    Answers μ s₀ (execSealWaitExpiry group stripe s) := by
  unfold Machine.execSealWaitExpiry
  refine State.Keeps.next ?_
  split
  · split
    · extract_lets +onlyGivenNames late s1 ids
      have h1 : s1.Keeps μ s₀ := h.updStripe
      refine h1.foldl fun a x ha => ?_
      extract_lets +onlyGivenNames mine other s2 s3
      have h2 : s2.Keeps μ s₀ := ha.updCmd
      have h3 : s3.Keeps μ s₀ := by
        unfold s3
        split
        · exact h2.startFetch
        · exact h2
      exact h3.placeCmd
    · exact h
  · exact h

/-! ### Survey -/

theorem setEntry {nsid lba : Nat} {e : Option Entry} (h : s.Keeps μ s₀)
    (hm : Covers 0x8000000000 μ := by exact .mono (by assumption)) : (s.setEntry nsid lba e).Keeps μ s₀ := h.of_eq

theorem updObjs {p : SvyObj → Bool} {f : SvyObj → SvyObj} (h : s.Keeps μ s₀)
    (hm : Covers 0x20000000000 μ := by exact .mono (by assumption)) : (s.updObjs p f).Keeps μ s₀ := h.of_eq

theorem evictObj {r : Nat} (h : s.Keeps μ s₀) (hm : Covers 0x20000000000 μ := by exact .mono (by assumption)) : (s.evictObj r).Keeps μ s₀ := by
  unfold State.evictObj
  refine h.foldl fun a x ha => ?_
  extract_lets +onlyGivenNames mine
  split
  · exact ha
  · extract_lets +onlyGivenNames free
    split
    · exact ha.updObjs
    · split
      · exact ha.updObjs
      · exact ha

theorem useObjs {r : Nat} {p : SvyObj → Bool} (h : s.Keeps μ s₀)
    (hm : Covers 0x20000000000 μ := by exact .mono (by assumption)) : (s.useObjs r p).Keeps μ s₀ := by
  unfold State.useObjs
  extract_lets +onlyGivenNames s1 bank
  have h1 : s1.Keeps μ s₀ := h.of_eq
  split
  · exact h1.updObjs.ite h1
  · exact h1

theorem touch {g kind owner index seq : Nat} (h : s.Keeps μ s₀)
    (hm : Covers 0x1ffffffffffff03000000000000000000020000000002 μ := by exact .mono (by assumption)) :
    (s.touch g kind owner index seq).Keeps μ s₀ := by
  unfold State.touch
  extract_lets +onlyGivenNames hit r
  split
  · extract_lets +onlyGivenNames miss wait s1
    have h1 : s1.Keeps μ s₀ := (h.bumpBy).bgIo
    extract_lets +onlyGivenNames s2
    have h2 : s2.Keeps μ s₀ := h.updObjs.ite h1.updObjs.useObjs
    exact h2.updObjs.evictObj
  · exact h.of_eq.useObjs.evictObj

theorem loadObjs {l : List SvyObj} (h : s.Keeps μ s₀)
    (hm : Covers 0x20000000000 μ := by exact .mono (by assumption)) : (s.loadObjs l).Keeps μ s₀ := h.updObjs

theorem lookups {k : Namespace} {lbas : List Nat} (h : s.Keeps μ s₀)
    (hm : Covers 0x1ffffffffffff03000000000000000000020000000002 μ := by exact .mono (by assumption)) : (s.lookups k lbas).Keeps μ s₀ := by
  unfold State.lookups
  split
  · exact h
  · extract_lets +onlyGivenNames r pages
    refine (h.bumpBy).foldl fun a x ha => ?_
    extract_lets +onlyGivenNames s1
    have h1 : s1.Keeps μ s₀ := (ha.bump).ite ha
    exact h1.useObjs

theorem liveBy {p : Place} {up : Bool} {seq : Nat} (h : s.Keeps μ s₀)
    (hm : Covers 0x1ffffffffffff03000000000000000000022000000002 μ := by exact .mono (by assumption)) :
    (s.liveBy p up seq).Keeps μ s₀ := h.updStripe.touch

theorem mappedBy {nsid g : Nat} {up : Bool} (h : s.Keeps μ s₀)
    (hm : Covers 0x1000010000 μ := by exact .mono (by assumption)) : (s.mappedBy nsid g up).Keeps μ s₀ := by
  unfold State.mappedBy
  extract_lets +onlyGivenNames f
  exact h.updNs.updGroup

theorem applyEntry {nsid lba seq : Nat} {new : Option Entry} (h : s.Keeps μ s₀)
    (hm : Covers 0x1ffffffffffff0300000000000000000002b000010002 μ := by exact .mono (by assumption)) :
    (s.applyEntry nsid lba seq new).Keeps μ s₀ := by
  unfold State.applyEntry
  extract_lets +onlyGivenNames old s1 s2 s3 home
  have h1 : s1.Keeps μ s₀ := h.setEntry
  have h2 : s2.Keeps μ s₀ := by
    unfold s2
    clear_value old
    split
    · exact h1.liveBy.mappedBy
    · exact h1
  have h3 : s3.Keeps μ s₀ := by
    unfold s3
    split
    · exact h2.liveBy.mappedBy
    · exact h2
  exact h3.touch

theorem applyRun {kind seq : Nat} {r : MapRun} (h : s.Keeps μ s₀)
    (hm : Covers 0x1ffffffffffff0300000000000000000002b000010002 μ := by exact .mono (by assumption)) : (s.applyRun kind seq r).Keeps μ s₀ := by
  unfold State.applyRun
  refine h.foldl fun a x ha => ?_
  extract_lets +onlyGivenNames lba
  split
  · exact ha.applyEntry.clearLost
  · split
    · extract_lets +onlyGivenNames s1
      have h1 : s1.Keeps μ s₀ := ha.applyEntry
      split
      · exact (h1.bump).ite h1
      · exact h1
    · exact ha.bump

theorem leaveWork {g : Nat} {p : Nat × Nat → Bool} (h : s.Keeps μ s₀)
    (hm : Covers 0x1ffffffffffff03000000000000000000001000000002 μ := by exact .mono (by assumption)) : (s.leaveWork g p).Keeps μ s₀ := by
  unfold State.leaveWork
  extract_lets +onlyGivenNames n1
  exact h.updGroup.bumpBy

theorem drainEnd {g : Nat} (h : s.Keeps μ s₀)
    (hm : Covers 0x1ffffffffffff03000100000000600000800000000486 μ := by exact .mono (by assumption)) : (s.drainEnd g).Keeps μ s₀ := by
  unfold State.drainEnd
  exact h.ite (h.foldl fun _ _ ht => ht.changeSlot.raiseLay)

theorem syncHealth {g : Nat} (h : s.Keeps μ s₀)
    (hm : Covers 0x1ffffffffffff03000101d8000060000080500c812486 μ := by exact .mono (by assumption)) : (s.syncHealth g).Keeps μ s₀ := by
  unfold State.syncHealth
  split
  · exact h
  · extract_lets +onlyGivenNames s1 st old s2
    have h1 : s1.Keeps μ s₀ := h.drainEnd
    have h2 : s2.Keeps μ s₀ := h1.syncGroup
    split
    · exact h2
    · extract_lets +onlyGivenNames s3 s4
      have h3 : s3.Keeps μ s₀ := h2.updGroup
      have h4 : s4.Keeps μ s₀ := h3.raiseLay.ite h3
      exact h4.noticeAll

theorem freeIfEmpty {g k : Nat} (h : s.Keeps μ s₀)
    (hm : Covers 0x1ffffffffffff03000101d8000060000090700c812486 μ := by exact .mono (by assumption)) : (s.freeIfEmpty g k).Keeps μ s₀ := by
  unfold State.freeIfEmpty
  split
  · split
    · extract_lets +onlyGivenNames s1 s2
      have h1 : s1.Keeps μ s₀ := h.updStripe
      have h2 : s2.Keeps μ s₀ := h1.emitRec
      exact h2.leaveWork.syncHealth
    · exact h
  · exact h

theorem discardToFree {g k : Nat} (h : s.Keeps μ s₀)
    (hm : Covers 0x300000000000000000000000000102000000002 μ := by exact .mono (by assumption)) :
    (s.discardToFree g k).Keeps μ s₀ := h.updStripe.emitRec

theorem emitCmdDelta {g id : Nat} (h : s.Keeps μ s₀)
    (hm : Covers 0x300000000000000000000000000100004000002 μ := by exact .mono (by assumption)) : (s.emitCmdDelta g id).Keeps μ s₀ := by
  unfold State.emitCmdDelta
  split
  · exact h
  · extract_lets +onlyGivenNames mineStripes
    split
    · extract_lets +onlyGivenNames runs
      dsimp -zeta only
      exact h.issueRec.updCmd
    · exact h

theorem ackStripe {g k : Nat} (h : s.Keeps μ s₀)
    (hm : Covers 0x1ffffffffffff03000101d8000060000090700c812486 μ := by exact .mono (by assumption)) : (s.ackStripe g k).Keeps μ s₀ := by
  unfold State.ackStripe
  split
  · exact h
  · extract_lets +onlyGivenNames s1 s2 line s3 moves s4 rel keep s5 s6
    have h1 : s1.Keeps μ s₀ := h.updStripe
    have h2 : s2.Keeps μ s₀ := h1.foldl fun _ _ ht => ht.emitCmdDelta
    have h3 : s3.Keeps μ s₀ := h2.ite h2.emitRec
    have h4 : s4.Keeps μ s₀ := by
      unfold s4
      clear_value moves
      split
      · exact h3
      · exact h3.emitRec
    have h5 : s5.Keeps μ s₀ := h4.foldl fun _ _ ht => ht.leaveWork
    have h6 : s6.Keeps μ s₀ := h5.emitRec
    exact h6.freeIfEmpty.syncGroup

theorem execStripeRelease {group stripe : Nat} (h : s.Keeps μ s₀)
    (hm : Covers 0x1ffffffffffff03000101d8000160000080700c812486 μ := by exact .mono (by assumption)) :
    Answers μ s₀ (execStripeRelease group stripe s) := by
  unfold Machine.execStripeRelease
  refine State.Keeps.next ?_
  split
  · extract_lets +onlyGivenNames named held
    split
    · extract_lets +onlyGivenNames s1
      have h1 : s1.Keeps μ s₀ := h.of_eq
      exact h1.syncGroup.placeWaiting.syncHealth
    · exact h
  · exact h

theorem applyDelta {g seq kind : Nat} {cmd : Option Nat} {runs : List MapRun} {stripes : List Nat} (h : s.Keeps μ s₀)
    (hm : Covers 0x1ffffffffffff03000101d8000060000093f00c812486 μ := by exact .mono (by assumption)) :
    (s.applyDelta g seq kind cmd runs stripes).Keeps μ s₀ := by
  unfold State.applyDelta
  extract_lets +onlyGivenNames s1 s2 s3 touched
  have h1 : s1.Keeps μ s₀ := h.foldl fun _ _ ht => ht.applyRun
  have h2 : s2.Keeps μ s₀ := h1.of_eq
  have h3 : s3.Keeps μ s₀ := h2.foldl fun _ _ ht => ht.updStripe
  exact h3.foldl fun _ _ ht => ht.freeIfEmpty

theorem applySeal {g seq : Nat} {i : SealItem} (h : s.Keeps μ s₀)
    (hm : Covers 0x1ffffffffffff03000101d8000060000082700c812486 μ := by exact .mono (by assumption)) : (s.applySeal g seq i).Keeps μ s₀ := by
  unfold State.applySeal
  split
  · exact h.touch
  · exact h.updStripe.touch
  · exact h.touch
  · split
    · split
      · extract_lets +onlyGivenNames slot s1 s2
        have h1 : s1.Keeps μ s₀ := h.updStripe
        have h2 : s2.Keeps μ s₀ := h1.bump
        exact h2.leaveWork.syncHealth
      · exact h
    · exact h
  · exact h.updStripe

theorem voidFree {id : Nat} (h : s.Keeps μ s₀)
    (hm : Covers 0x1ffffffffffff03000101d8000060000090700c812486 μ := by exact .mono (by assumption)) : (s.voidFree id).Keeps μ s₀ := by
  unfold State.voidFree
  extract_lets +onlyGivenNames hit
  exact h.voidCmd.foldl fun _ _ ht => ht.freeIfEmpty

theorem failWrite {id : Nat} {st : Status} (h : s.Keeps μ s₀)
    (hm : Covers 0x1ffffffffffff03000101d8000060000090700c812486 μ := by exact .mono (by assumption)) :
    (s.failWrite id st).Keeps μ s₀ := h.voidFree.updCmd.setMet

theorem unstage {id : Nat} (h : s.Keeps μ s₀) (hm : Covers 0x2000000000 μ := by exact .mono (by assumption)) : (s.unstage id).Keeps μ s₀ := by
  unfold State.unstage
  extract_lets +onlyGivenNames mine
  exact h.of_eq

theorem stageFails {id : Nat} (h : s.Keeps μ s₀)
    (hm : Covers 0x1ffffffffffff03000101f8000060000090700c812486 μ := by exact .mono (by assumption)) : (s.stageFails id).Keeps μ s₀ := by
  unfold State.stageFails
  split
  · exact h
  · split
    · exact h
    · split
      · exact h.ite (((h.bump).raiseCmd).failWrite)
      · exact h.unstage.updCmd.startFetch

theorem sealChecked {g k : Nat} {check : ParCheck} (h : s.Keeps μ s₀)
    (hm : Covers 0x1ffffffffffff0300020002b400010006017000000cfe μ := by exact .mono (by assumption)) : (s.sealChecked g k check).Keeps μ s₀ := by
  unfold State.sealChecked
  split
  · exact h.trySeal
  · extract_lets +onlyGivenNames r
    split
    · exact h.trySeal.bump
    · exact ((h.trySeal.bump).bump).countRepair
    · exact ((h.bump).bump).raise

theorem execStripeSeal {group stripe : Nat} {bad : List Nat} {check : ParCheck} (h : s.Keeps μ s₀)
    (hm : Covers 0x1ffffffffffff03000301fab40061000691700c812cfe μ := by exact .mono (by assumption)) :
    Answers μ s₀ (execStripeSeal group stripe bad check s) := by
  unfold Machine.execStripeSeal
  refine State.Keeps.next ?_
  extract_lets +onlyGivenNames mine
  exact ((h.foldl fun _ _ ht => ht.stageFails).sealChecked).placeWaiting

/-! ### Reads -/

theorem regenInPlace {b : BRef} (h : s.Keeps μ s₀)
    (hm : Covers 0x402000000000 μ := by exact .mono (by assumption)) : (s.regenInPlace b).Keeps μ s₀ := by
  unfold State.regenInPlace
  split
  · exact h
  · split
    · exact h.updStripe
    · split
      · exact h
      · exact h.of_eq

theorem readsAcked {cid : Nat} (h : s.Keeps μ s₀) (hm : Covers 0x4000000 μ := by exact .mono (by assumption)) : (s.readsAcked cid).Keeps μ s₀ := by
  unfold State.readsAcked
  split
  · exact h
  · extract_lets +onlyGivenNames open_ busy
    exact h.foldl fun _ _ ht => ht.setMet

theorem placeRead {c : Cmd} {k : Namespace} (h : s.Keeps μ s₀)
    (hm : Covers 0x1ffffffffffff03000101c80000600000000004802402 μ := by exact .mono (by assumption)) : (s.placeRead c k).Keeps μ s₀ := by
  unfold State.placeRead
  extract_lets +onlyGivenNames pib data
  split
  · extract_lets +onlyGivenNames s1
    have h1 : s1.Keeps μ s₀ := h.updCmd
    exact (h1.foldl fun _ _ ht => ht.transmit).readsAcked
  · exact h.toHost.setMet

theorem readEnd {id : Nat} (h : s.Keeps μ s₀)
    (hm : Covers 0x1ffffffffffff03000101c80000600000000004802402 μ := by exact .mono (by assumption)) : (s.readEnd id).Keeps μ s₀ := by
  unfold State.readEnd
  split
  · exact h
  · split
    · exact h
    · split
      · exact h
      · split
        · exact (h.bump).setMet
        · split
          · exact h.placeRead
          · split
            · extract_lets +onlyGivenNames same
              exact h.setMet
            · exact h.setMet

theorem gotBlock {id i : Nat} {b : Blk} (h : s.Keeps μ s₀)
    (hm : Covers 0x1ffffffffffff03000101c80000600000000004802402 μ := by exact .mono (by assumption)) :
    (s.gotBlock id i b).Keeps μ s₀ := h.updCmd.readEnd

theorem lostEvent {g slot : Nat} (h : s.Keeps μ s₀)
    (hm : Covers 0x1000000000000010000000000000486 μ := by exact .mono (by assumption)) : (s.lostEvent g slot).Keeps μ s₀ := h.raiseOnce

theorem loseBlock {g k slab blk : Nat} (h : s.Keeps μ s₀)
    (hm : Covers 0x300000001000000000000010000103000000486 μ := by exact .mono (by assumption)) : (s.loseBlock g k slab blk).Keeps μ s₀ := by
  unfold State.loseBlock
  split
  · exact h
  · split
    · exact h
    · extract_lets +onlyGivenNames first slot s1
      have h1 : s1.Keeps μ s₀ := h.updStripe
      exact h1.updGroup.emitRec.lostEvent.ite h1

theorem meetLost {id nsid lba : Nat} {b : Option BRef} (h : s.Keeps μ s₀)
    (hm : Covers 0x1ffffffffffff03000101d8000061000010300c812486 μ := by exact .mono (by assumption)) : (s.meetLost id nsid lba b).Keeps μ s₀ := by
  unfold State.meetLost
  extract_lets +onlyGivenNames s1 s2
  have h1 : s1.Keeps μ s₀ := by
    unfold s1
    split
    · exact h.loseBlock
    · exact h.lostEvent
    · exact h
  have h2 : s2.Keeps μ s₀ := by
    unfold s2
    split
    · exact h1.ite h1.recordLost
    · exact h1
  split
  · exact h2.setMet.ite h2
  · exact h2

theorem updJob {id : Nat} {f : ReadJob → ReadJob} (h : s.Keeps μ s₀)
    (hm : Covers 0x8000000000000 μ := by exact .mono (by assumption)) : (s.updJob id f).Keeps μ s₀ := h.of_eq

theorem countRecon {sr : SRef} {k : Nat} (h : s.Keeps μ s₀)
    (hm : Covers 0x1ffffffffffff03000000000000000000000000000002 μ := by exact .mono (by assumption)) : (s.countRecon sr k).Keeps μ s₀ := by
  unfold State.countRecon
  exact h.ite (h.bumpBy)

theorem rewriteBlk {bad : List BRef} {b : BRef} {kind : Nat} (h : s.Keeps μ s₀)
    (hm : Covers 0x1ffffffffffff03000000000000000006402000000402 μ := by exact .mono (by assumption)) : (s.rewriteBlk bad b kind).Keeps μ s₀ := by
  unfold State.rewriteBlk
  split
  · exact h.countRecon.regenInPlace.issueM.ite h
  · exact h

theorem repairs {j : ReadJob} {kind : Nat} (h : s.Keeps μ s₀)
    (hm : Covers 0x1ffffffffffff03000000000000000006402000000402 μ := by exact .mono (by assumption)) : (s.repairs j kind).Keeps μ s₀ := by
  unfold State.repairs
  exact h.foldl fun _ _ ht => ht.rewriteBlk

theorem endJob {j : ReadJob} (h : s.Keeps μ s₀)
    (hm : Covers 0x1ffffffffffff03000101c8000060000e402004802402 μ := by exact .mono (by assumption)) : (s.endJob j).Keeps μ s₀ := by
  unfold State.endJob
  extract_lets +onlyGivenNames s1 s2 s3
  have h1 : s1.Keeps μ s₀ := h.of_eq
  have h2 : s2.Keeps μ s₀ := h1.ite h1.countRecon
  have h3 : s3.Keeps μ s₀ := h2.abandonM.repairs
  split
  · exact h3
  · split
    · exact h3.gotBlock
    · exact h3

theorem pursue {id : Nat} (h : s.Keeps μ s₀)
    (hm : Covers 0x1ffffffffffff03000101d8000061000e50300c812486 μ := by exact .mono (by assumption)) : (s.pursue id).Keeps μ s₀ := by
  unfold State.pursue
  split
  · exact h
  · split
    · exact h.endJob
    · split
      · exact h
      · split
        · extract_lets +onlyGivenNames more s1
          have h1 : s1.Keeps μ s₀ := h.updJob
          refine h1.foldl fun a x ha => ?_
          split
          · exact ha.issueM
          · exact ha
        · split
          · exact h
          · extract_lets +onlyGivenNames s1
            have h1 : s1.Keeps μ s₀ := h.of_eq
            split
            · exact h1.meetLost
            · exact h1

theorem startRead {id i : Nat} {b : BRef} (h : s.Keeps μ s₀)
    (hm : Covers 0x1ffffffffffff03000101d8000061001e50300c812486 μ := by exact .mono (by assumption)) : (s.startRead id i b).Keeps μ s₀ := by
  unfold State.startRead
  extract_lets +onlyGivenNames j job
  exact h.of_eq.pursue

theorem startReads {id : Nat} (h : s.Keeps μ s₀)
    (hm : Covers 0x1ffffffffffff03000101d8000061001e52300c812486 μ := by exact .mono (by assumption)) : (s.startReads id).Keeps μ s₀ := by
  unfold State.startReads
  split
  · exact h
  · split
    · exact h
    · extract_lets +onlyGivenNames lbas miss
      split
      · exact h.loadObjs.updCmd
      · extract_lets +onlyGivenNames s1 s2 src
        have h1 : s1.Keeps μ s₀ := h.updCmd.lookups
        have h2 : s2.Keeps μ s₀ := h1.bumpBy
        refine h2.foldl fun a x ha => ?_
        split
        · exact ha.gotBlock
        · exact ha.meetLost
        · exact ha.startRead

theorem readReturned {id : Nat} {b : BRef} {good : Bool} (h : s.Keeps μ s₀)
    (hm : Covers 0x1ffffffffffff03000101d8000061000e50300c812486 μ := by exact .mono (by assumption)) : (s.readReturned id b good).Keeps μ s₀ := by
  unfold State.readReturned
  extract_lets +onlyGivenNames good1 s1
  have h1 : s1.Keeps μ s₀ := h.updJob
  exact h1.pursue

theorem rereadFrom {slot : Nat} (h : s.Keeps μ s₀)
    (hm : Covers 0x1ffffffffffff03000101d8000061000e50300c812486 μ := by exact .mono (by assumption)) : (s.rereadFrom slot).Keeps μ s₀ := by
  unfold State.rereadFrom
  extract_lets +onlyGivenNames hit s1
  have h1 : s1.Keeps μ s₀ := h.foldl fun _ _ ht => ht.updJob
  exact h1.foldl fun _ _ ht => ht.pursue.ite ht

theorem execTailCutDeadline {job : Nat} (h : s.Keeps μ s₀)
    (hm : Covers 0x200100000000000000000000002e000000000402 μ := by exact .mono (by assumption)) : Answers μ s₀ (execTailCutDeadline job s) := by
  unfold Machine.execTailCutDeadline
  refine State.Keeps.next ?_
  split
  · exact h
  · split
    · exact h
    · extract_lets +onlyGivenNames g spent room late
      split
      · split
        · extract_lets +onlyGivenNames s1 s2
          have h1 : s1.Keeps μ s₀ := h.of_eq
          have h2 : s2.Keeps μ s₀ := ((h1.bump (hm.writes .LAY_TCUT _))).updJob
          refine h2.foldl fun a x ha => ?_
          split
          · exact ha.issueM
          · exact ha
        · exact h
      · exact h

/-! ### Fixed placement -/

theorem syncRing (h : s.Keeps μ s₀)
    (hm : Covers 0x1ffffffffffff03000000000000000000100000000486 μ := by exact .mono (by assumption)) : s.syncRing.Keeps μ s₀ := by
  unfold State.syncRing
  extract_lets +onlyGivenNames s1 fill s2 say
  have hfill : fill.Keeps μ s₀ := h.of_eq
  have hay : say.Keeps μ s₀ := hfill.wr.wr
  extract_lets +onlyGivenNames say1
  split
  · extract_lets +onlyGivenNames s3
    have h3 : s3.Keeps μ s₀ := hay.raise
    exact h3.of_eq
  · exact hay

theorem putRec {r : Rec} {ofs : Nat} (h : s.Keeps μ s₀)
    (hm : Covers 0x1ffffffffffff03000000000000000000100000000002 μ := by exact .mono (by assumption)) : (s.putRec r ofs).Keeps μ s₀ := by
  unfold State.putRec
  extract_lets +onlyGivenNames w r' others
  dsimp -zeta only
  extract_lets +onlyGivenNames s1 h1 s2
  have hh1 : h1.Keeps μ s₀ := h.of_eq
  extract_lets +onlyGivenNames s3
  have h3 : s3.Keeps μ s₀ := hh1.wr
  exact h3.bump.bumpBy

theorem endStall (h : s.Keeps μ s₀)
    (hm : Covers 0x1ffffffffffff03000000000000000000100000000002 μ := by exact .mono (by assumption)) : s.endStall.Keeps μ s₀ := by
  unfold State.endStall
  split
  · refine State.Keeps.bumpBy ?_
    extract_lets +onlyGivenNames s1
    have h1 : s1.Keeps μ s₀ := h.wr
    exact h1.of_eq
  · exact h

end Sys2Proof.Machine.State.Keeps
end

section
/-!
What each function and each command of the model keeps (part 3): storage updates, the survey, the tally, windows, the cache and memory. A lemma has
    the name of the function it speaks of,
so that the lemmas compose as the functions do; its mask names the pieces that the function may change.
-/

namespace Sys2Proof.Machine.State.Keeps

-- One lemma at a time: elaborated side by side, so many of them wait for one another in more threads than there is memory for.
set_option Elab.async false

variable {s : State} {μ : Nat} {s₀ : State}

theorem stall (h : s.Keeps μ s₀)
    (hm : Covers 0x1ffffffffffff03000000000000000000100000000486 μ := by exact .mono (by assumption)) : s.stall.Keeps μ s₀ := by
  unfold State.stall
  extract_lets +onlyGivenNames say s1
  have h1 : s1.Keeps μ s₀ := h.wr
  extract_lets +onlyGivenNames s2
  extract_lets +onlyGivenNames s3
  have h3 : s3.Keeps μ s₀ := h1.of_eq
  split
  · extract_lets +onlyGivenNames s4
    have h4 : s4.Keeps μ s₀ := h3.raise
    exact h4.of_eq
  · exact h3

theorem releaseRecs (h : s.Keeps μ s₀)
    (hm : Covers 0x1ffffffffffff03000000000000000000100000000486 μ := by exact .mono (by assumption)) : s.releaseRecs.Keeps μ s₀ := by
  unfold State.releaseRecs
  extract_lets +onlyGivenNames pass
  have hpass : ∀ s, s.Keeps μ s₀ → (pass s).Keeps μ s₀ := by
    intro s ht
    exact ht.of_eq
  exact (hpass _ (hpass _ h)).syncRing

theorem moveTail (h : s.Keeps μ s₀)
    (hm : Covers 0x1ffffffffffff03000100000000600000100000000486 μ := by exact .mono (by assumption)) : s.moveTail.Keeps μ s₀ := by
  unfold State.moveTail
  split
  · extract_lets +onlyGivenNames may
    split
    · split
      · extract_lets +onlyGivenNames s1
        have h1 : s1.Keeps μ s₀ := h.putRec.bump.syncRing
        split
        · exact h1.mirrorNote
        · exact h1
      · exact h
    · exact h
  · exact h

theorem updFix {id : Nat} {f : FixUpd → FixUpd} (h : s.Keeps μ s₀)
    (hm : Covers 0x200000000000 μ := by exact .mono (by assumption)) : (s.updFix id f).Keeps μ s₀ := h.of_eq

theorem addDirty {slot nsid region : Nat} (h : s.Keeps μ s₀)
    (hm : Covers 0x1ffffffffffff03000000000000000000800000000002 μ := by exact .mono (by assumption)) : (s.addDirty slot nsid region).Keeps μ s₀ := by
  unfold State.addDirty
  extract_lets +onlyGivenNames s1
  have h1 : s1.Keeps μ s₀ := h.updSlot
  exact h1.wr

theorem sendFixWrite {id : Nat} {b : BRef} (h : s.Keeps μ s₀)
    (hm : Covers 0x1000000000000000000000006000000000402 μ := by exact .mono (by assumption)) : (s.sendFixWrite id b).Keeps μ s₀ := by
  unfold State.sendFixWrite
  split
  · exact h.issueM
  · exact h

theorem applyFix {u : FixUpd} (h : s.Keeps μ s₀) (hm : Covers 0x400000010000 μ := by exact .mono (by assumption)) : (s.applyFix u).Keeps μ s₀ := by
  unfold State.applyFix
  refine h.foldl fun a x ha => ?_
  extract_lets +onlyGivenNames lba
  exact ha.of_eq.clearLost

theorem fixDoneIf {id : Nat} (h : s.Keeps μ s₀)
    (hm : Covers 0x300000000000000000000002000700004010002 μ := by exact .mono (by assumption)) : (s.fixDoneIf id).Keeps μ s₀ := by
  unfold State.fixDoneIf
  split
  · exact h
  · split
    · exact h
    · extract_lets +onlyGivenNames s1 s2
      have h1 : s1.Keeps μ s₀ := h.applyFix.updFix
      have h2 : s2.Keeps μ s₀ := h1.emitRec
      split
      · extract_lets +onlyGivenNames s3
        have h3 : s3.Keeps μ s₀ := h2.updCmd
        split
        · exact h3.setMet.ite h3
        · exact h3
      · exact h2.of_eq

theorem fixGo {id : Nat} (h : s.Keeps μ s₀)
    (hm : Covers 0x1ffffffffffff03000000000000002006f00004010402 μ := by exact .mono (by assumption)) : (s.fixGo id).Keeps μ s₀ := by
  unfold State.fixGo
  split
  · exact h
  · split
    · exact h
    · extract_lets +onlyGivenNames all skip go wait s1 s2
      have h1 : s1.Keeps μ s₀ := by
        unfold s1
        refine h.foldl fun a x ha => ?_
        split
        · exact ha.addDirty
        · exact ha
      have h2 : s2.Keeps μ s₀ := h1.updFix
      exact (h2.foldl fun _ _ ht => ht.sendFixWrite).fixDoneIf

theorem redoFix {id : Nat} (h : s.Keeps μ s₀)
    (hm : Covers 0x1ffffffffffff03000000000000002006f00004010402 μ := by exact .mono (by assumption)) : (s.redoFix id).Keeps μ s₀ := by
  unfold State.redoFix
  split
  · exact h
  · split
    · exact h
    · extract_lets +onlyGivenNames t w chk reads s1
      have h1 : s1.Keeps μ s₀ := h.updFix.bump
      refine State.Keeps.fixGo ?_
      refine h1.foldl fun a x ha => ?_
      split
      · exact ha.issueM
      · exact ha

theorem redoInOrder (h : s.Keeps μ s₀)
    (hm : Covers 0x1ffffffffffff03000000000000002006f00004010402 μ := by exact .mono (by assumption)) : s.redoInOrder.Keeps μ s₀ := by
  unfold State.redoInOrder
  exact h.foldl fun _ _ ht => ht.redoFix

theorem issueIntent {id : Nat} (h : s.Keeps μ s₀)
    (hm : Covers 0x1ffffffffffff03000000000000000000300004000002 μ := by exact .mono (by assumption)) : (s.issueIntent id).Keeps μ s₀ := by
  unfold State.issueIntent
  split
  · exact h
  · split
    · exact h
    · extract_lets +onlyGivenNames t absent deg nchk
      dsimp -zeta only
      extract_lets +onlyGivenNames s1 rmw
      have h1 : s1.Keeps μ s₀ := by
        unfold s1
        split
        · exact h.issueRec.updCmd
        · exact h.issueRec
      exact h1.updFix.bump.bumpBy

theorem beginFix {cmd : Option Nat} {k : Namespace} {slba : Nat} {blocks : List Blk} {zero : Bool} (h : s.Keeps μ s₀)
    (hm : Covers 0x1ffffffffffff03000000000000000016300004000402 μ := by exact .mono (by assumption)) :
    (s.beginFix cmd k slba blocks zero).Keeps μ s₀ := by
  unfold State.beginFix
  extract_lets +onlyGivenNames id t srs mineOf reads writes deg u s1 s2 s3
  have h1 : s1.Keeps μ s₀ := h.of_eq
  have h2 : s2.Keeps μ s₀ := by
    unfold s2
    split
    · exact h1.updCmd
    · exact h1
  have h3 : s3.Keeps μ s₀ := by
    unfold s3
    refine h2.foldl fun a x ha => ?_
    split
    · exact ha.issueM
    · exact ha
  exact h3.ite h3.issueIntent

theorem fixReadEnd {id : Nat} {b : BRef} {good : Bool} (h : s.Keeps μ s₀)
    (hm : Covers 0x1ffffffffffff03000000000000002006f00004010402 μ := by exact .mono (by assumption)) : (s.fixReadEnd id b good).Keeps μ s₀ := by
  unfold State.fixReadEnd
  split
  · exact h
  · extract_lets +onlyGivenNames more s1 s2 s3
    have h1 : s1.Keeps μ s₀ := h.ite h.countRecon
    have h2 : s2.Keeps μ s₀ := h1.updFix
    have h3 : s3.Keeps μ s₀ := by
      unfold s3
      refine h2.foldl fun a x ha => ?_
      split
      · exact ha.issueM
      · exact ha
    split
    · exact h3.issueIntent.ite h3.fixGo
    · exact h3

theorem fixWriteEnd {id : Nat} {b : BRef} (h : s.Keeps μ s₀)
    (hm : Covers 0x301000000000000000000002006700004010402 μ := by exact .mono (by assumption)) : (s.fixWriteEnd id b).Keeps μ s₀ := by
  unfold State.fixWriteEnd
  extract_lets +onlyGivenNames seq s1 waiting s2
  have h1 : s1.Keeps μ s₀ := h.of_eq
  extract_lets +onlyGivenNames s3
  have h3 : s3.Keeps μ s₀ := h1.of_eq
  extract_lets +onlyGivenNames s4
  have h4 : s4.Keeps μ s₀ := by
    unfold s4
    split
    · exact h3.sendFixWrite
    · exact h1
  exact h4.foldl fun _ _ ht => ht.fixDoneIf

theorem fixWriteMissed {id slot : Nat} {b : BRef} (h : s.Keeps μ s₀)
    (hm : Covers 0x1ffffffffffff03000000000000002006f00004010402 μ := by exact .mono (by assumption)) : (s.fixWriteMissed id slot b).Keeps μ s₀ := by
  unfold State.fixWriteMissed
  split
  · exact h.addDirty.updFix.fixWriteEnd
  · exact h

theorem chargeFixRate {nlb : Nat} (h : s.Keeps μ s₀)
    (hm : Covers 0x100000000000 μ := by exact .mono (by assumption)) : (s.chargeFixRate nlb).Keeps μ s₀ := h.of_eq

theorem syncDur (h : s.Keeps μ s₀)
    (hm : Covers 0x1ffffffffffff03000000000000000000000000000002 μ := by exact .mono (by assumption)) : s.syncDur.Keeps μ s₀ := by
  unfold State.syncDur
  extract_lets +onlyGivenNames open_
  exact h.wr64

theorem recDurable {r : Rec} (h : s.Keeps μ s₀)
    (hm : Covers 0x1ffffffffffff03000101d80000602006f3f00c812486 μ := by exact .mono (by assumption)) : (s.recDurable r).Keeps μ s₀ := by
  unfold State.recDurable
  extract_lets +onlyGivenNames s1 s2
  have h1 : s1.Keeps μ s₀ := h.updRec
  extract_lets +onlyGivenNames s3
  have h3 : s3.Keeps μ s₀ := by
    unfold s3
    split
    · extract_lets +onlyGivenNames s4 s5
      have h4 : s4.Keeps μ s₀ := h1.applyDelta
      have h5 : s5.Keeps μ s₀ := h4.of_eq.ite h4
      split
      · extract_lets +onlyGivenNames s6
        have h6 : s6.Keeps μ s₀ := h5.updCmd
        split
        · exact h6.setMet.ite h6
        · exact h6
      · exact h5
    · exact h1.foldl fun _ _ ht => ht.updFix.fixGo
    · exact h1.of_eq
    · exact h1.foldl fun _ _ ht => ht.applySeal
    · exact h1
  exact h3.releaseRecs.syncDur

theorem execTallyRecordWritten (h : s.Keeps μ s₀)
    (hm : Covers 0x1ffffffffffff03000101d80000602006f3f00c812486 μ := by exact .mono (by assumption)) : Answers μ s₀ (execTallyRecordWritten s) := by
  unfold Machine.execTallyRecordWritten
  refine State.Keeps.next ?_
  extract_lets +onlyGivenNames s1
  have h1 : s1.Keeps μ s₀ := h.moveTail
  split
  · exact h1
  · split
    · exact h1.stall
    · extract_lets +onlyGivenNames s2
      have h2 : s2.Keeps μ s₀ := h1.endStall.putRec.syncRing
      split
      · extract_lets +onlyGivenNames body
        exact h2.mirror.ite h2.recDurable.mirrorAlso
      · exact h2

theorem execTallyRecordDurable {seq : Nat} (h : s.Keeps μ s₀)
    (hm : Covers 0x1ffffffffffff03000101d80000602006f3f00c812486 μ := by exact .mono (by assumption)) :
    Answers μ s₀ (execTallyRecordDurable seq s) := by
  unfold Machine.execTallyRecordDurable
  refine State.Keeps.next ?_
  split
  · exact h.recDurable.ite h
  · exact h

theorem execTallyControlBlockTimer (h : s.Keeps μ s₀)
    (hm : Covers 0x100000000000 μ := by exact .mono (by assumption)) : Answers μ s₀ (execTallyControlBlockTimer s) := by
  unfold Machine.execTallyControlBlockTimer
  exact (h.of_eq.ite h).next

/-! ### QoS and tallies -/

theorem chargeConn {ctl qid : Nat} {c : Charge} (h : s.Keeps μ s₀)
    (hm : Covers 0x800000 μ := by exact .mono (by assumption)) : (s.chargeConn ctl qid c).2.Keeps μ s₀ := by
  unfold State.chargeConn
  split
  · split
    · exact h
    · exact h.updQueue
  · exact h

theorem retire {k : Namespace} (h : s.Keeps μ s₀) (hm : Covers 0x40000 μ := by exact .mono (by assumption)) : (s.retire k).Keeps μ s₀ := by
  unfold State.retire
  extract_lets +onlyGivenNames more old
  exact h.of_eq

theorem takeGrant {r g : Nat} {cost : ℚ} (h : s.Keeps μ s₀)
    (hm : Covers 0x100000000 μ := by exact .mono (by assumption)) : (s.takeGrant r g cost).Keeps μ s₀ := h.of_eq

theorem chargeNs {k : Namespace} {r : Nat} {c : Charge} {f : Meter → Meter} (h : s.Keeps μ s₀)
    (hm : Covers 0x180010000 μ := by exact .mono (by assumption)) : (s.chargeNs k r c f).Keeps μ s₀ := by
  unfold State.chargeNs
  extract_lets +onlyGivenNames cost g s1
  have h1 : s1.Keeps μ s₀ := h.updNs
  split
  · exact h1
  · extract_lets +onlyGivenNames now s2
    have h2 : s2.Keeps μ s₀ := h1.updNs
    exact h2.of_eq.takeGrant

theorem grantGroup {g : Nat} (h : s.Keeps μ s₀)
    (hm : Covers 0x1ffffffffffff03000000000000000020001300000002 μ := by exact .mono (by assumption)) : (s.grantGroup g).Keeps μ s₀ := by
  unfold State.grantGroup
  extract_lets +onlyGivenNames cap pct reb recl pat paced floors floorOf given left bl want miss mins rest shares spare deficit gs ts s1
      s2
  have h1 : s1.Keeps μ s₀ := h.of_eq
  have h2 : s2.Keeps μ s₀ := (h1.bump).ite h1
  exact h2.updGroup

theorem chargeTask {g t cost : Nat} (h : s.Keeps μ s₀)
    (hm : Covers 0x200000000 μ := by exact .mono (by assumption)) : (s.chargeTask g t cost).Keeps μ s₀ := h.of_eq

theorem meterHeld {dt : Nat} (h : s.Keeps μ s₀) (hm : Covers 0x10000 μ := by exact .mono (by assumption)) : (s.meterHeld dt).Keeps μ s₀ := h.of_eq

theorem execGrantPeriod (h : s.Keeps μ s₀)
    (hm : Covers 0x1ffffffffffff03000000000000000020005700010486 μ := by exact .mono (by assumption)) : Answers μ s₀ (execGrantPeriod s) := by
  unfold Machine.execGrantPeriod
  refine State.Keeps.next ?_
  split
  · exact h
  · extract_lets +onlyGivenNames s1 s2
    have h1 : s1.Keeps μ s₀ := h.meterHeld
    have h2 : s2.Keeps μ s₀ := h1.of_eq
    exact h2.foldl fun _ _ ht => ht.grantGroup.syncGroup

theorem saveMeters (h : s.Keeps μ s₀) (hm : Covers 0x300000 μ := by exact .mono (by assumption)) : s.saveMeters.Keeps μ s₀ := h.of_eq

theorem execMeterSaveTimer (h : s.Keeps μ s₀) (hm : Covers 0x700000 μ := by exact .mono (by assumption)) : Answers μ s₀ (execMeterSaveTimer s) := by
  unfold Machine.execMeterSaveTimer
  refine State.Keeps.next ?_
  split
  · extract_lets +onlyGivenNames s1
    have h1 : s1.Keeps μ s₀ := h.saveMeters
    exact h1.of_eq
  · exact h

theorem qosRestart (h : s.Keeps μ s₀) (hm : Covers 0x810000 μ := by exact .mono (by assumption)) : s.qosRestart.Keeps μ s₀ := by
  unfold State.qosRestart
  extract_lets +onlyGivenNames t tats
  exact h.of_eq

theorem writeQosCfg {bench : Nat} {v : Word} (h : s.Keeps μ s₀)
    (hm : Covers 0x1ffffffffffff03000000000000000000000000810002 μ := by exact .mono (by assumption)) : (s.writeQosCfg bench v).Keeps μ s₀ := by
  unfold State.writeQosCfg
  extract_lets +onlyGivenNames was s1
  have h1 : s1.Keeps μ s₀ := h.writeRegW
  exact h1.qosRestart.ite h1

theorem execCmdQosCfgWrite {v : Word} (h : s.Keeps μ s₀)
    (hm : Covers 0x1ffffffffffff03000000000000000000000000810002 μ := by exact .mono (by assumption)) :
    Answers μ s₀ (execCmdQosCfgWrite v s) := h.writeQosCfg.next

theorem execCmdQosGcapWrite {g : Fin 8} {v : Word} (h : s.Keeps μ s₀)
    (hm : Covers 0x1ffffffffffff03000000000000000000000000000002 μ := by exact .mono (by assumption)) :
    Answers μ s₀ (execCmdQosGcapWrite g v s) := h.writeRegW.next

/-! ### Cache -/

theorem updLine {nsid lba : Nat} {f : Line → Line} (h : s.Keeps μ s₀)
    (hm : Covers 0x2000000000000000 μ := by exact .mono (by assumption)) : (s.updLine nsid lba f).Keeps μ s₀ := h.of_eq

theorem memNotice {loc sev code data : Nat} (h : s.Keeps μ s₀)
    (hm : Covers 0x1000000000000010000000000000486 μ := by exact .mono (by assumption)) : (s.memNotice loc sev code data).Keeps μ s₀ := h.raiseOnce

theorem syncCache (h : s.Keeps μ s₀)
    (hm : Covers 0x10000000000000000000000000000000000000002 μ := by exact .mono (by assumption)) : s.syncCache.Keeps μ s₀ := by
  unfold State.syncCache
  extract_lets +onlyGivenNames lim s1 s2
  have h1 : s1.Keeps μ s₀ := (h.wr (f := F.MEM_CACHE_STAT_DIRTY_PCT) (hm.writes .MEM_CACHE_STAT_AT_LIMIT 0))
  have h2 : s2.Keeps μ s₀ := (h1.wr (f := F.MEM_CACHE_STAT_PEND_PCT) (hm.writes .MEM_CACHE_STAT_AT_LIMIT 0))
  exact (h2.wr (hm.writes .MEM_CACHE_STAT_AT_LIMIT 0)).ite h2

theorem dropLine {nsid lba : Nat} (h : s.Keeps μ s₀)
    (hm : Covers 0x6000000000000000 μ := by exact .mono (by assumption)) : (s.dropLine nsid lba).Keeps μ s₀ := by
  unfold State.dropLine
  extract_lets +onlyGivenNames s1
  have h1 : s1.Keeps μ s₀ := h.of_eq
  exact h1.ite h1.of_eq

theorem mapNeeds {f : List Need → List Need} (h : s.Keeps μ s₀)
    (hm : Covers 0x8200000004000000 μ := by exact .mono (by assumption)) : (s.mapNeeds f).Keeps μ s₀ := h.of_eq

theorem needsMet {nsid lba ver : Nat} (h : s.Keeps μ s₀)
    (hm : Covers 0x8200000004000000 μ := by exact .mono (by assumption)) : (s.needsMet nsid lba ver).Keeps μ s₀ := h.mapNeeds

theorem needsMerged {nsid lba op ver : Nat} (h : s.Keeps μ s₀)
    (hm : Covers 0x8200000004000000 μ := by exact .mono (by assumption)) : (s.needsMerged nsid lba op ver).Keeps μ s₀ := h.mapNeeds

theorem loseLine {nsid lba : Nat} (h : s.Keeps μ s₀)
    (hm : Covers 0x1ffffffffffff03000101d8000060e20000000c812486 μ := by exact .mono (by assumption)) : (s.loseLine nsid lba).Keeps μ s₀ := by
  unfold State.loseLine
  extract_lets +onlyGivenNames mine s1 s2
  have h1 : s1.Keeps μ s₀ := h.recordLost.dropLine
  have h2 : s2.Keeps μ s₀ := h1.of_eq
  exact h2.mapNeeds

theorem writeBack {nsid lba : Nat} (h : s.Keeps μ s₀)
    (hm : Covers 0x1ffffffffffff03000101d8000060e21630700c812486 μ := by exact .mono (by assumption)) : (s.writeBack nsid lba).Keeps μ s₀ := by
  unfold State.writeBack
  split
  · split
    · exact h
    · extract_lets +onlyGivenNames b took queue
      have htook : ∀ s, s.Keeps μ s₀ → (took s).Keeps μ s₀ := by
        intro s ht
        exact ht.bump.updLine
      have hqueue : ∀ s, s.Keeps μ s₀ → (queue s).Keeps μ s₀ := by
        intro s ht
        exact ht.updLine
      split
      · split
        · exact h.loseLine
        · exact (htook _ h.chargeFixRate.beginFix).ite (hqueue _ h)
      · extract_lets +onlyGivenNames g
        split
        · exact hqueue _ h
        · split
          · rename_i t x heq
            have ht : t.Keeps μ s₀ := h.place.of_fst heq
            exact htook _ ht
          · rename_i t heq
            have ht : t.Keeps μ s₀ := h.place.of_fst heq
            exact hqueue _ ht
  · exact h

theorem drainDirty (h : s.Keeps μ s₀)
    (hm : Covers 0x1ffffffffffff03000101d8000060e21630700c812486 μ := by exact .mono (by assumption)) : s.drainDirty.Keeps μ s₀ := by
  unfold State.drainDirty
  extract_lets +onlyGivenNames over90
  exact (h.foldl fun _ _ ht => ht.writeBack).ite h

theorem ageSet {nsid sec : Nat} (h : s.Keeps μ s₀)
    (hm : Covers 0x4000000000000000 μ := by exact .mono (by assumption)) : (s.ageSet nsid sec).Keeps μ s₀ := by
  unfold State.ageSet
  extract_lets +onlyGivenNames k
  exact h.of_eq

theorem freeEvicted (h : s.Keeps μ s₀) (hm : Covers 0x6000000000000000 μ := by exact .mono (by assumption)) : s.freeEvicted.Keeps μ s₀ := by
  unfold State.freeEvicted
  exact h.foldl fun _ _ ht => ht.of_eq.ite ht

theorem allocLine {nsid lba : Nat} (h : s.Keeps μ s₀)
    (hm : Covers 0x1ffffffffffff03000101d8000060e21630700c812486 μ := by exact .mono (by assumption)) : (s.allocLine nsid lba).1.Keeps μ s₀ := by
  unfold State.allocLine
  extract_lets +onlyGivenNames sec fresh addLine addSec
  have haddLine : ∀ s, s.Keeps μ s₀ → (addLine s).Keeps μ s₀ := by
    intro s ht
    exact ht.ite ht.of_eq
  have haddSec : ∀ s, s.Keeps μ s₀ → (addSec s).Keeps μ s₀ := by
    intro s ht
    exact haddLine _ ht.of_eq
  split
  · split
    · exact h
    · exact (haddLine _ h).ageSet
  · extract_lets +onlyGivenNames k inSet
    split
    · exact (haddSec _ h).ageSet
    · extract_lets +onlyGivenNames clean
      split
      · extract_lets +onlyGivenNames s1
        have h1 : s1.Keeps μ s₀ := h.of_eq
        exact (haddSec _ h1.bump).ageSet
      · split
        · extract_lets +onlyGivenNames s1 dirty
          have h1 : s1.Keeps μ s₀ := h.bump
          have hdirty : dirty.Keeps μ s₀ := h1.of_eq
          extract_lets +onlyGivenNames dirty1
          exact (hdirty.foldl fun _ _ ht => ht.writeBack).freeEvicted
        · exact h

theorem startFill {nsid lba : Nat} (h : s.Keeps μ s₀)
    (hm : Covers 0x1ffffffffffff03000101d8000060e21630700c812486 μ := by exact .mono (by assumption)) : (s.startFill nsid lba).Keeps μ s₀ := by
  unfold State.startFill
  split
  · exact h.ite h.bump.updLine
  · split
    · rename_i t heq
      have ht : t.Keeps μ s₀ := h.allocLine.of_fst heq
      exact ht.bump.updLine
    · rename_i t heq
      have ht : t.Keeps μ s₀ := h.allocLine.of_fst heq
      exact ht

theorem updOp {id : Nat} {f : WinOp → WinOp} (h : s.Keeps μ s₀)
    (hm : Covers 0x200000000000000 μ := by exact .mono (by assumption)) : (s.updOp id f).Keeps μ s₀ := h.of_eq

theorem dirtyLine {nsid lba data dur : Nat} (h : s.Keeps μ s₀)
    (hm : Covers 0x1ffffffffffff03000101d8000060ea1630700c812486 μ := by exact .mono (by assumption)) :
    (s.dirtyLine nsid lba data dur).Keeps μ s₀ := by
  unfold State.dirtyLine
  extract_lets +onlyGivenNames now_ v s1 s2 s3
  have h1 : s1.Keeps μ s₀ := h.of_eq
  have h2 : s2.Keeps μ s₀ := h1.updLine
  have h3 : s3.Keeps μ s₀ := h2.syncCache.drainDirty
  exact h3.writeBack.ite h3

theorem takeMsg {cid : Nat} (h : s.Keeps μ s₀) (hm : Covers 0x2000 μ := by exact .mono (by assumption)) : (s.takeMsg cid).2.Keeps μ s₀ := by
  unfold State.takeMsg
  split
  · exact h.setConn
  · exact h

theorem storeAtomic {cid msg v resp : Nat} (h : s.Keeps μ s₀)
    (hm : Covers 0x2000 μ := by exact .mono (by assumption)) : (s.storeAtomic cid msg v resp).Keeps μ s₀ := by
  unfold State.storeAtomic
  split
  · exact h.setConn
  · exact h

theorem replyAtomic {id : Nat} (h : s.Keeps μ s₀)
    (hm : Covers 0x100000080000000000100000000600000000000002402 μ := by exact .mono (by assumption)) : (s.replyAtomic id).Keeps μ s₀ := by
  unfold State.replyAtomic
  split
  · exact h
  · split
    · exact h
    · extract_lets +onlyGivenNames v
      split
      · dsimp -zeta only
        extract_lets +onlyGivenNames s1
        have h1 : s1.Keeps μ s₀ := by
          unfold s1
          refine State.Keeps.transmitAs ?_
          refine State.Keeps.storeAtomic ?_
          split
          · exact h
          · exact h.takeMsg
        split
        · exact h1.settleMsg
        · exact h1
      · exact h.storeAtomic.roceAnswer

theorem commitReply {o : WinOp} (h : s.Keeps μ s₀)
    (hm : Covers 0x100000080000000000100000000600200000000002402 μ := by exact .mono (by assumption)) : (s.commitReply o).Keeps μ s₀ := by
  unfold State.commitReply
  split
  · dsimp -zeta only
    extract_lets +onlyGivenNames s1
    have h1 : s1.Keeps μ s₀ := h.commitMsg.storeAtomic.updOp
    split
    · exact h1.mirror
    · exact h1
  · exact h.replyAtomic

theorem answerOp {o : WinOp} {data : Nat} (h : s.Keeps μ s₀)
    (hm : Covers 0x100000080000000000100000000600200000000002402 μ := by exact .mono (by assumption)) : (s.answerOp o data).Keeps μ s₀ := by
  unfold State.answerOp
  extract_lets +onlyGivenNames s1
  have h1 : s1.Keeps μ s₀ := h.updOp
  split
  · exact h1
  · split
    · exact h1.transmit
    · exact h1.roceAnswer
    · exact h1.settleMsg
    · exact h1.roceAnswer
    · exact h1.commitReply
    · exact h1.settleMsg
    · exact h1.replyAtomic

theorem retireOp {id : Nat} (h : s.Keeps μ s₀) (hm : Covers 0x200000000000000 μ := by exact .mono (by assumption)) : (s.retireOp id).Keeps μ s₀ := by
  unfold State.retireOp
  split
  · extract_lets +onlyGivenNames waits
    exact h.of_eq.ite h
  · exact h

theorem tryAckOp {id : Nat} (h : s.Keeps μ s₀)
    (hm : Covers 0x100000080000000000100000000600200000000002402 μ := by exact .mono (by assumption)) : (s.tryAckOp id).Keeps μ s₀ := by
  unfold State.tryAckOp
  split
  · exact (h.answerOp.ite h).retireOp
  · exact h

theorem mergeOp {id : Nat} (h : s.Keeps μ s₀)
    (hm : Covers 0x1ffffffffffff03000101d8000060fa1630700c812486 μ := by exact .mono (by assumption)) : (s.mergeOp id).Keeps μ s₀ := by
  unfold State.mergeOp
  split
  · exact h
  · refine h.foldl fun a x ha => ?_
    extract_lets +onlyGivenNames earlier
    split
    · exact ha
    · extract_lets +onlyGivenNames full ready sr s1
      have hsr : sr.1.Keeps μ s₀ := by
        unfold sr
        split
        · exact ha
        · split
          · split
            · exact ha
            · exact ha.allocLine
          · exact ha.startFill
      have h1 : s1.Keeps μ s₀ := hsr
      split
      · exact h1
      · extract_lets +onlyGivenNames old s2 v s3
        have h2 : s2.Keeps μ s₀ := h1.of_eq
        have h3 : s3.Keeps μ s₀ := h2.needsMerged.updOp
        exact h3.dirtyLine

theorem dirtyRoom {bs : List (Nat × Nat)} (h : s.Keeps μ s₀)
    (hm : Covers 0x10000000001000000000000010000000000000486 μ := by exact .mono (by assumption)) : (s.dirtyRoom bs).1.Keeps μ s₀ := by
  unfold State.dirtyRoom
  extract_lets +onlyGivenNames new
  split
  · exact h
  · exact (h.wr (hm.writes .MEM_CACHE_STAT_AT_LIMIT 0)).memNotice

theorem applyAtomic {o : WinOp} {l : Line} (h : s.Keeps μ s₀)
    (hm : Covers 0x1ffffffffffff03000101d8000060ea1630700c812486 μ := by exact .mono (by assumption)) : (s.applyAtomic o l).Keeps μ s₀ := by
  unfold State.applyAtomic
  extract_lets +onlyGivenNames old new s1 s2 s3
  have h1 : s1.Keeps μ s₀ := h.bumpBy.updOp
  have h2 : s2.Keeps μ s₀ := h1.updOp
  have h3 : s3.Keeps μ s₀ := h1.ite h2.dirtyLine
  extract_lets +onlyGivenNames s4
  have h4 : s4.Keeps μ s₀ := by
    unfold s4
    split
    · exact h3.replyAtomic.ite h3
    · exact h3
  exact h4.tryAckOp

theorem claimAtomic {o : WinOp} {l : Line} (h : s.Keeps μ s₀)
    (hm : Covers 0x80000000000100000000600200000000002402 μ := by exact .mono (by assumption)) : (s.claimAtomic o l).Keeps μ s₀ := by
  unfold State.claimAtomic
  extract_lets +onlyGivenNames old new ofs nrt
  dsimp -zeta only
  extract_lets +onlyGivenNames s1 s2 s3 p
  have h1 : s1.Keeps μ s₀ := by
    unfold s1
    refine State.Keeps.storeAtomic ?_
    split
    · exact h.takeMsg
    · exact h
  have h2 : s2.Keeps μ s₀ := by
    unfold s2
    split
    · exact h1.setConn
    · exact h1
  have h3 : s3.Keeps μ s₀ := h2.mirrorConn.updOp
  exact h3.mirror

theorem stepWrite {o : WinOp} (h : s.Keeps μ s₀)
    (hm : Covers 0x1ffffffffffff03000101d8000061fa1630700c812486 μ := by exact .mono (by assumption)) : (s.stepWrite o).Keeps μ s₀ := by
  unfold State.stepWrite
  split
  · exact h.mergeOp.tryAckOp
  · split
    · exact h
    · split
      · rename_i t heq
        have ht : t.Keeps μ s₀ := h.dirtyRoom.of_fst heq
        exact ht
      · rename_i t heq
        have ht : t.Keeps μ s₀ := h.dirtyRoom.of_fst heq
        extract_lets +onlyGivenNames mine s1
        have h1 : s1.Keeps μ s₀ := ht.of_eq
        exact h1.updOp.mergeOp.tryAckOp

theorem stepRead {o : WinOp} (h : s.Keeps μ s₀)
    (hm : Covers 0x1ffffffffffff03000101d8000060e21630700c812486 μ := by exact .mono (by assumption)) : (s.stepRead o).Keeps μ s₀ := by
  unfold State.stepRead
  extract_lets +onlyGivenNames bs
  split
  · exact h
  · extract_lets +onlyGivenNames miss
    split
    · exact (h.foldl fun _ _ ht => ht.startFill).updOp
    · split
      · exact h
      · extract_lets +onlyGivenNames all data
        exact h.bumpBy.answerOp.retireOp

theorem stepAtomic {o : WinOp} (h : s.Keeps μ s₀)
    (hm : Covers 0x1ffffffffffff03000101d8000061ea1630700c812486 μ := by exact .mono (by assumption)) : (s.stepAtomic o).Keeps μ s₀ := by
  unfold State.stepAtomic
  split
  · exact h.tryAckOp
  · split
    · exact h
    · extract_lets +onlyGivenNames waits
      split
      · exact h
      · split
        · exact h.startFill.updOp
        · split
          · exact h.applyAtomic
          · split
            · rename_i t heq
              have ht : t.Keeps μ s₀ := h.dirtyRoom.of_fst heq
              exact ht
            · rename_i t heq
              have ht : t.Keeps μ s₀ := h.dirtyRoom.of_fst heq
              exact ht.claimAtomic.ite ht.applyAtomic

theorem stepOp {id : Nat} (h : s.Keeps μ s₀)
    (hm : Covers 0x1ffffffffffff03000101d8000061fa1630700c812486 μ := by exact .mono (by assumption)) : (s.stepOp id).Keeps μ s₀ := by
  unfold State.stepOp
  split
  · exact h
  · split
    · exact h
    · exact h.stepWrite
    · exact h.stepRead
    · exact h.stepAtomic
    · exact h.stepAtomic

theorem winProgress (h : s.Keeps μ s₀)
    (hm : Covers 0x1ffffffffffff03000101d8000061fa1630700c812486 μ := by exact .mono (by assumption)) : s.winProgress.Keeps μ s₀ := by
  unfold State.winProgress
  exact h.syncCache.foldl fun _ _ ht => ht.stepOp

/-! ### I/O commands -/

theorem inflightCheck {v : NvmeCmd} {was : Bool} (h : s.Keeps μ s₀)
    (hm : Covers 0x1ffffffffffff03000000000000010000000000000486 μ := by exact .mono (by assumption)) : (s.inflightCheck v was).Keeps μ s₀ := by
  unfold State.inflightCheck
  exact h.bumpCmd.raiseOnce.ite h

theorem accept {v : NvmeCmd} (h : s.Keeps μ s₀)
    (hm : Covers 0x1ffffffffffff03000000d0000001000000004c802486 μ := by exact .mono (by assumption)) : (s.accept v).2.Keeps μ s₀ := by
  unfold State.accept
  split
  · extract_lets +onlyGivenNames s1
    have h1 : s1.Keeps μ s₀ := h.bumpCmd.updCtrl
    split
    · exact h1.bumpCmd
    · extract_lets +onlyGivenNames id inCap c s2 was s3 s4
      have h2 : s2.Keeps μ s₀ := h1.of_eq
      have h3 : s3.Keeps μ s₀ := h2.syncCmds.inflightCheck
      have h4 : s4.Keeps μ s₀ := h3.bumpCmd.ite h3
      exact h4
  · exact h

theorem stampCmd {id : Nat} (h : s.Keeps μ s₀) (hm : Covers 0x4800000 μ := by exact .mono (by assumption)) : (s.stampCmd id).Keeps μ s₀ := by
  unfold State.stampCmd
  split
  · exact h
  · split
    · exact h
    · dsimp -zeta only
      exact h.chargeConn.updCmd

theorem reportLost {nsid i : Nat} (h : s.Keeps μ s₀)
    (hm : Covers 0x80000000000100000000600000000000010402 μ := by exact .mono (by assumption)) : (s.reportLost nsid i).Keeps μ s₀ := h.updNs.mirrorNs

theorem refuseIo {c : Cmd} {st : Status} (h : s.Keeps μ s₀)
    (hm : Covers 0x1ffffffffffff03000101d8000061000000000c812486 μ := by exact .mono (by assumption)) : (s.refuseIo c st).Keeps μ s₀ := by
  unfold State.refuseIo
  extract_lets +onlyGivenNames i s1
  have h1 : s1.Keeps μ s₀ := by
    unfold s1
    split
    · exact (h.foldl fun _ _ ht => ht.reportLost).bumpCmd
    · split
      · exact h.bumpCmd
      · split
        · split
          · exact h.raiseOnce.ite h
          · exact h
        · exact h
  exact h1.finish

theorem deliverIo {v : NvmeCmd} (h : s.Keeps μ s₀)
    (hm : Covers 0x1ffffffffffff03000101d8000061000000004c812486 μ := by exact .mono (by assumption)) : (s.deliverIo v).Keeps μ s₀ := by
  unfold State.deliverIo
  extract_lets +onlyGivenNames full
  split
  · rename_i t heq
    have ht : t.Keeps μ s₀ := h.accept.of_snd heq
    exact ht
  · rename_i t heq
    have ht : t.Keeps μ s₀ := h.accept.of_snd heq
    split
    · exact ht.finish
    · split
      · exact ht.finish
      · split
        · split
          · exact ht.refuseIo
          · exact ht
        · exact ht.stampCmd

theorem dataArrived {id data : Nat} (h : s.Keeps μ s₀)
    (hm : Covers 0x1ffffffffffff03000101d8000060000090700c812486 μ := by exact .mono (by assumption)) : (s.dataArrived id data).Keeps μ s₀ := by
  unfold State.dataArrived
  split
  · exact h
  · split
    · exact h
    · extract_lets +onlyGivenNames pib raw gen blks s1
      have h1 : s1.Keeps μ s₀ := h.updCmd
      split
      · exact h1.readEnd
      · split
        · exact ((h1.bump).raiseCmd).failWrite
        · exact h1.ite h1.stageCmd

theorem pieceArrived {id ofs len data : Nat} (h : s.Keeps μ s₀)
    (hm : Covers 0x1ffffffffffff03000101d8000060000090700c812486 μ := by exact .mono (by assumption)) :
    (s.pieceArrived id ofs len data).Keeps μ s₀ := by
  unfold State.pieceArrived
  split
  · exact h
  · split
    · exact h
    · extract_lets +onlyGivenNames pieces
      exact h.updCmd.ite h.dataArrived

theorem beginCmd {c : Cmd} (h : s.Keeps μ s₀)
    (hm : Covers 0x1ffffffffffff03000101f8000060e216b0700c812486 μ := by exact .mono (by assumption)) : (s.beginCmd c).Keeps μ s₀ := by
  unfold State.beginCmd
  extract_lets +onlyGivenNames v s1
  have h1 : s1.Keeps μ s₀ := h.updCmd
  split
  · extract_lets +onlyGivenNames nss mine ls s2
    have h2 : s2.Keeps μ s₀ := h1.updCmd
    exact (h2.foldl fun _ _ ht => ht.writeBack).syncCmds
  · extract_lets +onlyGivenNames s2
    extract_lets +onlyGivenNames s3
    extract_lets +onlyGivenNames s4
    have h4 : s4.Keeps μ s₀ := h1.updCmd
    extract_lets +onlyGivenNames s5
    extract_lets +onlyGivenNames s6
    have h6 : s6.Keeps μ s₀ := h1.updCmd
    extract_lets +onlyGivenNames s7
    have h7 : s7.Keeps μ s₀ := h6.foldl fun _ _ ht => ht.writeBack
    extract_lets +onlyGivenNames s8
    have h8 : s8.Keeps μ s₀ := h7.ite h7.updCmd.placeCmd
    extract_lets +onlyGivenNames s9
    have h9 : s9.Keeps μ s₀ := by
      unfold s9
      split
      · exact h4.foldl fun _ _ ht => ht.writeBack
      · split
        · exact h1.setMet
        · split
          · exact h1.setMet
          · split
            · split
              · split
                · exact h8.dataArrived
                · exact h8.startFetch
              · exact h7
            · split
              · split
                · exact h1.dataArrived
                · exact h1.startFetch
              · exact h1
    exact h9.syncCmds

theorem mirrorAdmission {id : Nat} (h : s.Keeps μ s₀)
    (hm : Covers 0x80000000000100000000600000000000000402 μ := by exact .mono (by assumption)) : (s.mirrorAdmission id).Keeps μ s₀ := by
  unfold State.mirrorAdmission
  split
  · exact h
  · split
    · exact h.mirrorNote
    · exact h

theorem admitCmd {c : Cmd} (h : s.Keeps μ s₀)
    (hm : Covers 0x1ffffffffffff03000101f8000060e216b0718c812486 μ := by exact .mono (by assumption)) : (s.admitCmd c).Keeps μ s₀ := by
  unfold State.admitCmd
  split
  · exact h.beginCmd
  · extract_lets +onlyGivenNames ch
    exact h.chargeNs.beginCmd.mirrorAdmission

theorem invalidate {nsid : Nat} {rs : List (Nat × Nat)} (h : s.Keeps μ s₀)
    (hm : Covers 0x6000000000000000 μ := by exact .mono (by assumption)) : (s.invalidate nsid rs).Keeps μ s₀ := by
  unfold State.invalidate
  exact h.foldl fun _ _ ht => ht.dropLine

theorem surveyUpdate {c : Cmd} {k : Namespace} {e : Option Entry} (h : s.Keeps μ s₀)
    (hm : Covers 0x300000000000000000000000000110004000002 μ := by exact .mono (by assumption)) : (s.surveyUpdate c k e).Keeps μ s₀ := by
  unfold State.surveyUpdate
  extract_lets +onlyGivenNames rs runs g s1
  have h1 : s1.Keeps μ s₀ := h.of_eq
  dsimp -zeta only
  exact h1.issueRec.updCmd

theorem dispatchFixed {c : Cmd} {k : Namespace} {blks : List Blk} {zero : Bool} (h : s.Keeps μ s₀)
    (hm : Covers 0x1ffffffffffff03000000000000006016300004000402 μ := by exact .mono (by assumption)) :
    (s.dispatchFixed c k blks zero).Keeps μ s₀ := by
  unfold State.dispatchFixed
  split
  · exact h
  · split
    · exact h.setMet
    · split
      · exact h
      · extract_lets +onlyGivenNames s1
        have h1 : s1.Keeps μ s₀ := h.chargeFixRate.invalidate
        exact h1.foldl fun _ _ ht => ht.beginFix

theorem dispatchLog {c : Cmd} (h : s.Keeps μ s₀)
    (hm : Covers 0xc00000001000000000000006000007004000486 μ := by exact .mono (by assumption)) : (s.dispatchLog c).Keeps μ s₀ := by
  unfold State.dispatchLog
  extract_lets +onlyGivenNames s1
  have h1 : s1.Keeps μ s₀ := h.placeCmd
  exact h1.invalidate.stageCmd.updCmd.ite h1

theorem dispatch {c : Cmd} {k : Namespace} {dataOk : Bool} (h : s.Keeps μ s₀)
    (hm : Covers 0x1ffffffffffff03000101f8000061601ef3700c812486 μ := by exact .mono (by assumption)) : (s.dispatch c k dataOk).Keeps μ s₀ := by
  unfold State.dispatch
  extract_lets +onlyGivenNames v rs
  split
  · exact h
  · split
    · exact h
    · split
      · split
        · exact h
        · exact h.stageFails.ite ((h.ite h.dispatchFixed).ite h.dispatchLog)
      · split
        · exact (h.ite h.dispatchFixed).ite h.invalidate.surveyUpdate
        · split
          · exact h.invalidate.surveyUpdate
          · exact (h.bump.ite (h.ite h.updCmd.startReads)).ite h

theorem execCommandDispatch {id : Nat} {dataOk : Bool} (h : s.Keeps μ s₀)
    (hm : Covers 0x1ffffffffffff03000101f8000061601ef3700c812486 μ := by exact .mono (by assumption)) :
    Answers μ s₀ (execCommandDispatch id dataOk s) := by
  unfold Machine.execCommandDispatch
  refine State.Keeps.next ?_
  split
  · exact h
  · split
    · exact h
    · split
      · exact h.dispatch
      · exact h

theorem flushMet {id : Nat} (h : s.Keeps μ s₀) (hm : Covers 0x4000000 μ := by exact .mono (by assumption)) : (s.flushMet id).Keeps μ s₀ := by
  unfold State.flushMet
  split
  · exact h
  · extract_lets +onlyGivenNames open_
    exact h.setMet.ite h

theorem execMemberWaitNotice {id : Nat} (h : s.Keeps μ s₀)
    (hm : Covers 0x1000000000000000000000004000486 μ := by exact .mono (by assumption)) : Answers μ s₀ (execMemberWaitNotice id s) := by
  unfold Machine.execMemberWaitNotice
  refine State.Keeps.next ?_
  split
  · exact h.updCmd.raiseCmd.ite h
  · exact h

theorem dropCmd {c : Cmd} (h : s.Keeps μ s₀)
    (hm : Covers 0x1ffffffffffff03000101f8002060000eb0700c812486 μ := by exact .mono (by assumption)) : (s.dropCmd c).Keeps μ s₀ := by
  unfold State.dropCmd
  extract_lets +onlyGivenNames admitted bytes s1 jobs upds s2 s3
  have h1 : s1.Keeps μ s₀ := h.updNs.ite h
  have h2 : s2.Keeps μ s₀ := h1.of_eq.ite h1
  have h3 : s3.Keeps μ s₀ := h2.mirrorNote.voidFree.epDropFetch.abandonM
  exact h3.of_eq.syncCmds

theorem discard {c : Cmd} (h : s.Keeps μ s₀)
    (hm : Covers 0x1ffffffffffff03000101f8002060000eb0700c812486 μ := by exact .mono (by assumption)) : (s.discard c).Keeps μ s₀ := h.bumpCmd.dropCmd

theorem applyReset {p : Cmd → Bool} (h : s.Keeps μ s₀)
    (hm : Covers 0x1ffffffffffff03000101f8002060000eb0700c812486 μ := by exact .mono (by assumption)) : (s.applyReset p).2.Keeps μ s₀ := by
  unfold State.applyReset
  extract_lets +onlyGivenNames hit gone s1
  have h1 : s1.Keeps μ s₀ := h.foldl fun _ _ ht => ht.discard
  exact h1.of_eq

theorem loseCmd {c : Cmd} (h : s.Keeps μ s₀)
    (hm : Covers 0x1ffffffffffff03000101f8002060000eb0700c812486 μ := by exact .mono (by assumption)) : (s.loseCmd c).Keeps μ s₀ := h.applyReset

theorem dropWindowOps {cid : Nat} (h : s.Keeps μ s₀)
    (hm : Covers 0x1200000000000000 μ := by exact .mono (by assumption)) : (s.dropWindowOps cid).Keeps μ s₀ := by
  unfold State.dropWindowOps
  extract_lets +onlyGivenNames keep
  exact h.of_eq

theorem closeConn {cid : Nat} (h : s.Keeps μ s₀)
    (hm : Covers 0x100000000000000000000000000001200000000002402 μ := by exact .mono (by assumption)) : (s.closeConn cid).Keeps μ s₀ := by
  unfold State.closeConn
  split
  · exact h
  · extract_lets +onlyGivenNames s1 off
    have h1 : s1.Keeps μ s₀ := h.dropWindowOps
    split
    · exact h1.ite h1.nrtBare.setConn
    · exact h1.send.setConn

theorem resetCtrl {idx : Nat} (h : s.Keeps μ s₀)
    (hm : Covers 0x1ffffffffffff03000101f8002060120eb0700d812486 μ := by exact .mono (by assumption)) : (s.resetCtrl idx).Keeps μ s₀ := by
  unfold State.resetCtrl
  split
  · exact h
  · dsimp -zeta only
    extract_lets +onlyGivenNames s1 s2
    have h1 : s1.Keeps μ s₀ := h.applyReset.raiseCmd
    have h2 : s2.Keeps μ s₀ := h1.foldl fun _ _ ht => ht.closeConn
    split
    · extract_lets +onlyGivenNames s3
      have h3 : s3.Keeps μ s₀ := by
        unfold s3
        split
        · exact h2.updEpf
        · exact h2
      exact h3.updCtrl
    · extract_lets +onlyGivenNames s3
      have h3 : s3.Keeps μ s₀ := h2.mirrorNote
      exact h3.of_eq

theorem queueDown {ctl qid : Nat} (h : s.Keeps μ s₀)
    (hm : Covers 0x1ffffffffffff03000101f8002060120eb0700d812486 μ := by exact .mono (by assumption)) : (s.queueDown ctl qid).Keeps μ s₀ := by
  unfold State.queueDown
  split
  · exact h.resetCtrl
  · dsimp -zeta only
    exact h.applyReset.updCtrl

theorem connDown {c : Conn} (h : s.Keeps μ s₀)
    (hm : Covers 0x1ffffffffffff03000101f8002060120eb0700d812486 μ := by exact .mono (by assumption)) : (s.connDown c).Keeps μ s₀ := by
  unfold State.connDown
  extract_lets +onlyGivenNames s1
  have h1 : s1.Keeps μ s₀ := h.dropWindowOps
  split
  · exact h1.queueDown
  · exact h1

theorem execKeepAliveExpiry {ctl : Nat} (h : s.Keeps μ s₀)
    (hm : Covers 0x1ffffffffffff03000101f8002060120eb0700d812486 μ := by exact .mono (by assumption)) : Answers μ s₀ (execKeepAliveExpiry ctl s) := by
  unfold Machine.execKeepAliveExpiry
  refine State.Keeps.next ?_
  split
  · exact h.resetCtrl.ite h
  · exact h

theorem execShutdownComplete {ctl : Nat} (h : s.Keeps μ s₀)
    (hm : Covers 0x1000000000000000000000000800486 μ := by exact .mono (by assumption)) : Answers μ s₀ (execShutdownComplete ctl s) := by
  unfold Machine.execShutdownComplete
  refine State.Keeps.next ?_
  split
  · exact h.updCtrl.raiseCmd.ite h
  · exact h

theorem execNvmeFlush {v : NvmeCmd} (h : s.Keeps μ s₀)
    (hm : Covers 0x1ffffffffffff03000101d8000061000000004c812486 μ := by exact .mono (by assumption)) :
    Answers μ s₀ (execNvmeFlush v s) := h.deliverIo.next

theorem execNvmeWrite {v : NvmeCmd} (h : s.Keeps μ s₀)
    (hm : Covers 0x1ffffffffffff03000101d8000061000000004c812486 μ := by exact .mono (by assumption)) :
    Answers μ s₀ (execNvmeWrite v s) := h.deliverIo.next

theorem execNvmeRead {v : NvmeCmd} (h : s.Keeps μ s₀)
    (hm : Covers 0x1ffffffffffff03000101d8000061000000004c812486 μ := by exact .mono (by assumption)) :
    Answers μ s₀ (execNvmeRead v s) := h.deliverIo.next

theorem execNvmeCompare {v : NvmeCmd} (h : s.Keeps μ s₀)
    (hm : Covers 0x1ffffffffffff03000101d8000061000000004c812486 μ := by exact .mono (by assumption)) :
    Answers μ s₀ (execNvmeCompare v s) := h.deliverIo.next

theorem execNvmeWriteZeroes {v : NvmeCmd} (h : s.Keeps μ s₀)
    (hm : Covers 0x1ffffffffffff03000101d8000061000000004c812486 μ := by exact .mono (by assumption)) :
    Answers μ s₀ (execNvmeWriteZeroes v s) := h.deliverIo.next

theorem execNvmeDatasetManagement {v : NvmeCmd} (h : s.Keeps μ s₀)
    (hm : Covers 0x1ffffffffffff03000101d8000061000000004c812486 μ := by exact .mono (by assumption)) :
    Answers μ s₀ (execNvmeDatasetManagement v s) := h.deliverIo.next

theorem execNvmeVerify {v : NvmeCmd} (h : s.Keeps μ s₀)
    (hm : Covers 0x1ffffffffffff03000101d8000061000000004c812486 μ := by exact .mono (by assumption)) :
    Answers μ s₀ (execNvmeVerify v s) := h.deliverIo.next

/-! ### Windows and memory -/

theorem adminIf {v : NvmeCmd} {known : Bool} {k : Cmd → State → State} (h : s.Keeps μ s₀)
    (hk : ∀ (a : Cmd) (a_1 : State), a_1.Keeps μ s₀ → (k a a_1).Keeps μ s₀) (hm : Covers 0x1ffffffffffff03000101d8000061000000004c812486 μ := by
        exact .mono (by assumption)) : (s.adminIf v known k).Keeps μ s₀ := by
  unfold State.adminIf
  extract_lets +onlyGivenNames full
  split
  · rename_i t heq
    have ht : t.Keeps μ s₀ := h.accept.of_snd heq
    exact ht
  · rename_i t heq
    have ht : t.Keeps μ s₀ := h.accept.of_snd heq
    split
    · exact ht
    · split
      · exact ht.finish
      · split
        · exact ht.finish
        · split
          · exact ht.finish
          · split
            · exact ht.finish
            · split
              · exact ht.finish
              · exact ht.finish.ite (hk _ _ ht)

theorem admin {v : NvmeCmd} {k : Cmd → State → State} (h : s.Keeps μ s₀)
    (hk : ∀ (a : Cmd) (a_1 : State), a_1.Keeps μ s₀ → (k a a_1).Keeps μ s₀) (hm : Covers 0x1ffffffffffff03000101d8000061000000004c812486 μ := by
        exact .mono (by assumption)) : (s.admin v k).Keeps μ s₀ := by
  unfold State.admin
  exact h.adminIf fun _ _ ht => hk _ _ ht

theorem hostBuf {c : Cmd} {len data : Nat} (h : s.Keeps μ s₀)
    (hm : Covers 0x1ffffffffffff03000001c80000000000000000800402 μ := by exact .mono (by assumption)) : (s.hostBuf c len data).Keeps μ s₀ := h.toHost

theorem updWindow {i : Nat} {f : Window → Window} (h : s.Keeps μ s₀)
    (hm : Covers 0x100000000000000 μ := by exact .mono (by assumption)) : (s.updWindow i f).Keeps μ s₀ := h.of_eq

theorem keyFail {c : Conn} {key check : Nat} (h : s.Keeps μ s₀)
    (hm : Covers 0x1ffffffffffff03000000000000000000000000000002 μ := by exact .mono (by assumption)) : (s.keyFail c key check).Keeps μ s₀ := by
  unfold State.keyFail
  extract_lets +onlyGivenNames r f
  exact ((((h.bump).wr).wr).wr).wr

theorem deliverWindow {c : Conn} {msg key addr len : Nat} {k : WinKind} {ord : Bool} (h : s.Keeps μ s₀)
    (hm : Covers 0x1ffffffffffff03000101d8000061fe1630718c812486 μ := by exact .mono (by assumption)) :
    (s.deliverWindow c msg key addr len k ord).Keeps μ s₀ := by
  unfold State.deliverWindow
  split
  · exact h
  · split
    · exact h
    · extract_lets +onlyGivenNames byte ch
      dsimp -zeta only
      extract_lets +onlyGivenNames tn s1 id waits op s2 s3 s4
      have h1 : s1.Keeps μ s₀ := by
        unfold s1
        refine State.Keeps.chargeNs ?_
        split
        · exact h.chargeConn
        · exact h
      have h2 : s2.Keeps μ s₀ := h1.of_eq
      have h4 : s4.Keeps μ s₀ := by
        unfold s4
        split
        · exact h2.mirror.ite h2.mirrorAlso
        · exact h2
      extract_lets +onlyGivenNames s5
      have h5 : s5.Keeps μ s₀ := h4.bump.ite h4
      split
      · extract_lets +onlyGivenNames ls s6
        have h6 : s6.Keeps μ s₀ := h5.updOp
        exact h6.foldl fun _ _ ht => ht.writeBack
      · exact h5.stepOp

theorem execWindowCeilingEligible {op : Nat} (h : s.Keeps μ s₀)
    (hm : Covers 0x1ffffffffffff03000101d8000061fa1630700c812486 μ := by exact .mono (by assumption)) :
    Answers μ s₀ (execWindowCeilingEligible op s) := by
  unfold Machine.execWindowCeilingEligible
  refine State.Keeps.next ?_
  split
  · exact h.stepOp.ite h
  · exact h

theorem execWindowCommitDone {op : Nat} (h : s.Keeps μ s₀)
    (hm : Covers 0x100000080000000000100000000600200000000002402 μ := by exact .mono (by assumption)) : Answers μ s₀ (execWindowCommitDone op s) := by
  unfold Machine.execWindowCommitDone
  refine State.Keeps.next ?_
  split
  · split
    · exact h.answerOp.retireOp.ite h
    · exact h
  · exact h

theorem execWindowWritebackTimer {nsid lba : Nat} (h : s.Keeps μ s₀)
    (hm : Covers 0x1ffffffffffff03000101d8000060e21630700c812486 μ := by exact .mono (by assumption)) :
    Answers μ s₀ (execWindowWritebackTimer nsid lba s) := by
  unfold Machine.execWindowWritebackTimer
  refine State.Keeps.next ?_
  split
  · exact h.writeBack.ite h
  · exact h

theorem revokeNow {i : Nat} {cmd : Option Nat} (h : s.Keeps μ s₀)
    (hm : Covers 0x1ffffffffffff03000101d8000060f31630700c812486 μ := by exact .mono (by assumption)) : (s.revokeNow i cmd).Keeps μ s₀ := by
  unfold State.revokeNow
  split
  · exact h
  · split
    · split
      · exact h.updWindow
      · exact h
      · exact h.finish
      · exact h.updWindow.ite h
    · extract_lets +onlyGivenNames s1 cut s2 commit dirty s3
      have h1 : s1.Keeps μ s₀ := h.updWindow
      have h2 : s2.Keeps μ s₀ := h1.of_eq
      have h3 : s3.Keeps μ s₀ := by
        unfold s3
        split
        · exact h2.updCmd
        · exact h2
      exact (h3.foldl fun _ _ ht => ht.writeBack).syncCache

theorem revoke {i : Nat} {cmd : Option Nat} (h : s.Keeps μ s₀)
    (hm : Covers 0x1ffffffffffff03000101d8000060f31630700c812486 μ := by exact .mono (by assumption)) : (s.revoke i cmd).Keeps μ s₀ := by
  unfold State.revoke
  split
  · exact h
  · extract_lets +onlyGivenNames body
    exact h.mirror.ite h.revokeNow.mirrorAlso

theorem revokeWhere {p : Window → Bool} (h : s.Keeps μ s₀)
    (hm : Covers 0x1ffffffffffff03000101d8000060f31630700c812486 μ := by exact .mono (by assumption)) : (s.revokeWhere p).Keeps μ s₀ := by
  unfold State.revokeWhere
  exact h.foldl fun _ _ ht => ht.revoke

theorem execSetFeaturesWindowPublish {v : NvmeCmd} (h : s.Keeps μ s₀)
    (hm : Covers 0x1ffffffffffff03000101d8000061010000004c812486 μ := by exact .mono (by assumption)) :
    Answers μ s₀ (execSetFeaturesWindowPublish v s) := by
  unfold Machine.execSetFeaturesWindowPublish
  refine State.Keeps.next ?_
  refine h.admin fun c1 t ht => ?_
  extract_lets +onlyGivenNames i w
  split
  · exact ht.finish
  · split
    · exact ht.finish
    · extract_lets +onlyGivenNames rest
      split
      · exact ht.finish
      · split
        · exact ht.finish
        · split
          · exact ht.finish
          · extract_lets +onlyGivenNames x old tag w1 s1 body
            have h1 : s1.Keeps μ s₀ := ht.of_eq
            exact h1.mirror.ite h1.finish.mirrorAlso

theorem execSetFeaturesWindowRevoke {v : NvmeCmd} (h : s.Keeps μ s₀)
    (hm : Covers 0x1ffffffffffff03000101d8000061f31630704c812486 μ := by exact .mono (by assumption)) :
    Answers μ s₀ (execSetFeaturesWindowRevoke v s) := by
  unfold Machine.execSetFeaturesWindowRevoke
  refine State.Keeps.next ?_
  refine h.admin fun c1 t ht => ?_
  extract_lets +onlyGivenNames key
  split
  · exact ht.finish
  · split
    · exact ht.finish
    · split
      · exact (ht.revoke.ite ht.finish).ite ht.finish
      · exact ht.finish

theorem execGetFeaturesWindow {v : NvmeCmd} (h : s.Keeps μ s₀)
    (hm : Covers 0x1ffffffffffff03000101d8000061000000004c812486 μ := by exact .mono (by assumption)) : Answers μ s₀ (execGetFeaturesWindow v s) := by
  unfold Machine.execGetFeaturesWindow
  refine State.Keeps.next ?_
  refine h.admin fun c1 t ht => ?_
  split
  · exact ht.hostBuf.finish.ite ht.finish
  · exact ht.finish

theorem execWindowRevokeComplete {index : Nat} (h : s.Keeps μ s₀)
    (hm : Covers 0x1ffffffffffff03000101d8000060010000000c812402 μ := by exact .mono (by assumption)) :
    Answers μ s₀ (execWindowRevokeComplete index s) := by
  unfold Machine.execWindowRevokeComplete
  refine State.Keeps.next ?_
  split
  · exact h
  · split
    · exact h
    · extract_lets +onlyGivenNames reading writing
      split
      · exact h
      · extract_lets +onlyGivenNames s1
        have h1 : s1.Keeps μ s₀ := h.updWindow
        exact h1.foldl fun _ _ ht => ht.finish

theorem failReads {nsid lba : Nat} (h : s.Keeps μ s₀)
    (hm : Covers 0x1ffffffffffff03000101f8002060120eb0700d812486 μ := by exact .mono (by assumption)) : (s.failReads nsid lba).Keeps μ s₀ := by
  unfold State.failReads
  extract_lets +onlyGivenNames hit
  refine h.foldl fun a x ha => ?_
  split
  · exact ha
  · extract_lets +onlyGivenNames s1
    have h1 : s1.Keeps μ s₀ := ha.of_eq
    split
    · split
      · exact h1.closeConn.queueDown
      · exact h1.closeConn
    · exact h1.roceSend.setConn.connDown

theorem lineLost {nsid lba : Nat} (h : s.Keeps μ s₀)
    (hm : Covers 0x1ffffffffffff03000101f8002060f20eb0700d812486 μ := by exact .mono (by assumption)) : (s.lineLost nsid lba).Keeps μ s₀ := by
  unfold State.lineLost
  exact h.loseLine.raise.failReads.ite h

theorem frameFail {pa : Nat} {twice : Bool} (h : s.Keeps μ s₀)
    (hm : Covers 0x1ffffffffffff03000000000000130000000000000486 μ := by exact .mono (by assumption)) : (s.frameFail pa twice).Keeps μ s₀ := by
  unfold State.frameFail
  extract_lets +onlyGivenNames fr ch s1 again s2 recent
  have h1 : s1.Keeps μ s₀ := h.of_eq
  have h2 : s2.Keeps μ s₀ := (h1.of_eq.bump.raise.ite h1.memNotice).ite h1
  exact h2.raise.controllerFault.ite h2

theorem recoverBurst {b : BurstFail} (h : s.Keeps μ s₀)
    (hm : Covers 0x1ffffffffffff03000101f8002660f31eb0700d812686 μ := by exact .mono (by assumption)) : (s.recoverBurst b).Keeps μ s₀ := by
  generalize hg : @State.recoverBurst = g
  delta State.recoverBurst at hg
  subst hg
  beta_reduce
  split
  · extract_lets +onlyGivenNames first zero
    exact h.of_eq.bumpBy
  · exact h.ite (h.foldl fun _ _ ht => ht.revoke)
  · refine h.ite (h.foldl fun a x ha => ?_)
    split
    · exact ha.closeConn.connDown
    · exact ha
  · refine h.ite (h.foldl fun a x ha => ?_)
    split
    · exact ha.loseCmd
    · exact ha
  · exact h.ite h.of_eq
  · refine h.foldl fun a x ha => ?_
    extract_lets +onlyGivenNames s1
    have h1 : s1.Keeps μ s₀ := ha.of_eq
    split
    · exact h1.setConn
    · exact h1
  · split
    · exact h
    · split
      · exact h
      · exact h.updLine.startFill.ite (h.ite h.lineLost)
  · exact h.of_eq.ite h
  · exact h

theorem burstFail {b : BurstFail} (h : s.Keeps μ s₀)
    (hm : Covers 0x1ffffffffffff03000101f8002673f31eb0700d812686 μ := by exact .mono (by assumption)) : (s.burstFail b).Keeps μ s₀ := by
  unfold State.burstFail
  split
  · exact h
  · extract_lets +onlyGivenNames s1 again s2
    have h1 : s1.Keeps μ s₀ := h.bump
    have h2 : s2.Keeps μ s₀ := h1.bump.ite h1.bump.recoverBurst
    exact h2.frameFail

theorem execLineFillDone {nsid lba : Nat} {fails : List BurstFail} (h : s.Keeps μ s₀)
    (hm : Covers 0x1ffffffffffff03000101f8002673fb1eb2700d812686 μ := by exact .mono (by assumption)) :
    Answers μ s₀ (execLineFillDone nsid lba fails s) := by
  unfold Machine.execLineFillDone
  refine State.Keeps.next ?_
  extract_lets +onlyGivenNames s1
  have h1 : s1.Keeps μ s₀ := h.foldl fun _ _ ht => ht.burstFail
  split
  · split
    · exact h1
    · extract_lets +onlyGivenNames miss
      split
      · exact h1.loadObjs
      · extract_lets +onlyGivenNames s2
        have h2 : s2.Keeps μ s₀ := h1.lookups
        split
        · exact h2.updLine.winProgress
        · exact h2.dropLine.failReads.winProgress
  · exact h1

theorem execLineWritebackDone {nsid lba : Nat} (h : s.Keeps μ s₀)
    (hm : Covers 0x1ffffffffffff03000101d8000061fa1630700c812486 μ := by exact .mono (by assumption)) :
    Answers μ s₀ (execLineWritebackDone nsid lba s) := by
  unfold Machine.execLineWritebackDone
  refine State.Keeps.next ?_
  split
  · exact h
  · split
    · exact h
    · extract_lets +onlyGivenNames s1 s2 again s3
      have h1 : s1.Keeps μ s₀ := h.updLine
      have h2 : s2.Keeps μ s₀ := h1.needsMet
      have h3 : s3.Keeps μ s₀ := h2.foldl fun _ _ ht => ht.writeBack
      exact h3.freeEvicted.winProgress

theorem refuseEnable (h : s.Keeps μ s₀)
    (hm : Covers 0x8000000001000000000000000000000000000486 μ := by exact .mono (by assumption)) :
    s.refuseEnable.Keeps μ s₀ := (h.wr (f := F.MEM_CACHE_CTL_EN_REFUSED) (hm.writes .MEM_CACHE_CTL_DIS_PENDING 0)).raise

theorem cacheSetEn (h : s.Keeps μ s₀)
    (hm : Covers 0x8080000001000100000000600000000000000486 μ := by exact .mono (by assumption)) : s.cacheSetEn.Keeps μ s₀ := by
  unfold State.cacheSetEn
  split
  · exact h.refuseEnable
  · split
    · exact h
    · split
      · extract_lets +onlyGivenNames s1
        have h1 : s1.Keeps μ s₀ := (h.wr (f := F.MEM_CACHE_CTL_EN) (hm.writes .MEM_CACHE_CTL_DIS_PENDING 0))
        exact h1.mirrorNote
      · exact h.refuseEnable

theorem flushAll (h : s.Keeps μ s₀)
    (hm : Covers 0x1ffffffffffff03000101d8000060e21630700c812486 μ := by exact .mono (by assumption)) : s.flushAll.Keeps μ s₀ := by
  unfold State.flushAll
  exact h.foldl fun _ _ ht => ht.writeBack

theorem cacheClrEn (h : s.Keeps μ s₀)
    (hm : Covers 0x1ffffffffffff03000101d8000060e21630700c812486 μ := by exact .mono (by assumption)) : s.cacheClrEn.Keeps μ s₀ := by
  unfold State.cacheClrEn
  split
  · exact h.refuseEnable
  · extract_lets +onlyGivenNames s1
    have h1 : s1.Keeps μ s₀ := h.wr
    split
    · extract_lets +onlyGivenNames s2
      have h2 : s2.Keeps μ s₀ := h1.wr
      exact h2.flushAll.ite h2
    · exact h1

theorem execCacheSetEn (h : s.Keeps μ s₀)
    (hm : Covers 0x8080000001000300000000600000000000000486 μ := by exact .mono (by assumption)) : Answers μ s₀ (execCacheSetEn s) := by
  unfold Machine.execCacheSetEn
  exact (h.atWindow fun _ ht => ht.cacheSetEn).next

theorem execCacheClrEn (h : s.Keeps μ s₀)
    (hm : Covers 0x1ffffffffffff03000301d8000060e21630700c812486 μ := by exact .mono (by assumption)) : Answers μ s₀ (execCacheClrEn s) := by
  unfold Machine.execCacheClrEn
  exact (h.atWindow fun _ ht => ht.cacheClrEn).next

theorem execCacheDisableComplete (h : s.Keeps μ s₀)
    (hm : Covers 0x18080000001000100000000606000000000000486 μ := by exact .mono (by assumption)) : Answers μ s₀ (execCacheDisableComplete s) := by
  unfold Machine.execCacheDisableComplete
  refine State.Keeps.next ?_
  extract_lets +onlyGivenNames busy
  split
  · extract_lets +onlyGivenNames s1 s2
    have h1 : s1.Keeps μ s₀ := h.of_eq
    have h2 : s2.Keeps μ s₀ := ((h1.wr (f := F.MEM_CACHE_CTL_EN) (hm.writes .MEM_CACHE_CTL_DIS_PENDING 0)).wr (hm.writes .MEM_CACHE_CTL_DIS_PENDING
        0)).raise.syncCache
    exact h2.mirrorNote
  · exact h

theorem setMaint {m : Option Maint} (h : s.Keeps μ s₀)
    (hm : Covers 0x8000000000000000 μ := by exact .mono (by assumption)) : { s with maint := m }.Keeps μ s₀ := h.of_eq

theorem maintStart {op : Nat} {all : Bool} (h : s.Keeps μ s₀)
    (hm : Covers 0x1ffffffffffff03000101d8000060e21630700c812486 μ := by exact .mono (by assumption)) : (s.maintStart op all).Keeps μ s₀ := by
  unfold State.maintStart
  split
  · exact h.wr
  · extract_lets +onlyGivenNames m dirty s1
    have hbusy : (s.wr F.MEM_MNT_CMD_BUSY 1).Keeps μ s₀ := h.wr
    exact hbusy.setMaint.foldl fun _ _ ht => ht.writeBack

theorem execMntClean {all : Bool} (h : s.Keeps μ s₀)
    (hm : Covers 0x1ffffffffffff03000301d8000060e21630700c812486 μ := by exact .mono (by assumption)) : Answers μ s₀ (execMntClean all s) := by
  unfold Machine.execMntClean
  exact (h.atWindow fun _ ht => ht.maintStart).next

theorem execMntInvalidate {all : Bool} (h : s.Keeps μ s₀)
    (hm : Covers 0x1ffffffffffff03000301d8000060e21630700c812486 μ := by exact .mono (by assumption)) : Answers μ s₀ (execMntInvalidate all s) := by
  unfold Machine.execMntInvalidate
  exact (h.atWindow fun _ ht => ht.maintStart).next

theorem execMntComplete (h : s.Keeps μ s₀)
    (hm : Covers 0x1ffffffffffff03000101d8000060e21630700c812486 μ := by exact .mono (by assumption)) : Answers μ s₀ (execMntComplete s) := by
  unfold Machine.execMntComplete
  refine State.Keeps.next ?_
  split
  · exact h
  · split
    · exact h
    · extract_lets +onlyGivenNames en s1 s2 s3 s4
      have h1 : s1.Keeps μ s₀ := h.of_eq
      have h2 : s2.Keeps μ s₀ := (h1.foldl fun _ _ ht => ht.dropLine).ite h1
      have h3 : s3.Keeps μ s₀ := h2.wr.ite h2
      have h4 : s4.Keeps μ s₀ := h3.wr.raise.syncCache
      exact h4.flushAll.ite h4

theorem execMemRegionReady {r : Nat} (h : s.Keeps μ s₀)
    (hm : Covers 0x40000600001000000000000000000000000001686 μ := by exact .mono (by assumption)) : Answers μ s₀ (execMemRegionReady r s) := by
  unfold Machine.execMemRegionReady
  refine State.Keeps.next ?_
  split
  · extract_lets +onlyGivenNames s1
    have h1 : s1.Keeps μ s₀ := (h.setBit (hm.writes .MEM_STAT_READY 0))
    exact h1.logMarker.evCopy.ite h1
  · exact h

theorem execDimmTempChange {channel celsius : Nat} (h : s.Keeps μ s₀)
    (hm : Covers 0x20000000001000000000000000000000000000486 μ := by exact .mono (by assumption)) :
    Answers μ s₀ (execDimmTempChange channel celsius s) := by
  unfold Machine.execDimmTempChange
  refine State.Keeps.next ?_
  split
  · split
    · exact h
    · extract_lets +onlyGivenNames lim was s1
      have h1 : s1.Keeps μ s₀ := (((((h.wr (f := F.MEM_CHSTAT_TEMP _) (hm.writes .MEM_CHSTAT_HOT _))).wrB (hm.writes .MEM_CHSTAT_HOT _))).wrB (f :=
          F.MEM_CHSTAT_THROTTLED _) (hm.writes .MEM_CHSTAT_HOT _))
      exact h1.raise.ite h1
  · split
    · exact h
    · extract_lets +onlyGivenNames lim was s1
      have h1 : s1.Keeps μ s₀ := (((((h.wr (f := F.MEM_CHSTAT_TEMP _) (hm.writes .MEM_CHSTAT_HOT _))).wrB (hm.writes .MEM_CHSTAT_HOT _))).wrB (f :=
          F.MEM_CHSTAT_THROTTLED _) (hm.writes .MEM_CHSTAT_HOT _))
      exact h1.raise.ite h1

/-! ### Admin commands -/

theorem connectAnswer {cid role : Nat} {v : NvmeCmd} {dw0 : Nat} {st : Status} (h : s.Keeps μ s₀)
    (hm : Covers 0x100000080180000000100000000600000000000002402 μ := by exact .mono (by assumption)) :
    (s.connectAnswer cid role v dw0 st).Keeps μ s₀ := by
  unfold State.connectAnswer
  extract_lets +onlyGivenNames s1 body
  have h1 : s1.Keeps μ s₀ := ((h.bump (hm.writes .CMD_RX _)).bump (hm.writes .CMD_DONE _))
  split
  · dsimp -zeta only
    split
    · exact h1.commitMsg.mirror
    · exact h1.commitMsg
  · exact h1.transmit

theorem connectAdmin {cid : Nat} {v : NvmeCmd} {i : Ident} (h : s.Keeps μ s₀)
    (hm : Covers 0x100000080180000000100000000600000000000802402 μ := by exact .mono (by assumption)) : (s.connectAdmin cid v i).Keeps μ s₀ := by
  unfold State.connectAdmin
  split
  · exact h.connectAnswer
  · extract_lets +onlyGivenNames auth k s1 s2
    have h1 : s1.Keeps μ s₀ := h.of_eq
    have h2 : s2.Keeps μ s₀ := h1.of_eq
    exact h2.connectAnswer

theorem connectIo {cid : Nat} {v : NvmeCmd} {i : Ident} (h : s.Keeps μ s₀)
    (hm : Covers 0x100000080180000000100000000600000000000802402 μ := by exact .mono (by assumption)) : (s.connectIo cid v i).Keeps μ s₀ := by
  unfold State.connectIo
  extract_lets +onlyGivenNames qid size cntl
  split
  · exact h.connectAnswer
  · split
    · exact h.connectAnswer
    · extract_lets +onlyGivenNames auth s1 s2
      have h1 : s1.Keeps μ s₀ := h.updCtrl
      have h2 : s2.Keeps μ s₀ := h1.of_eq
      exact h2.connectAnswer

theorem connect {cid : Nat} {v : NvmeCmd} (h : s.Keeps μ s₀)
    (hm : Covers 0x100000080180000000100000000600000000000802402 μ := by exact .mono (by assumption)) : (s.connect cid v).Keeps μ s₀ := by
  unfold State.connect
  split
  · exact h
  · split
    · exact h.connectAnswer
    · split
      · exact h.connectAnswer
      · exact h.connectAdmin.ite h.connectIo

theorem execFabricsConnect {cid : Nat} {v : NvmeCmd} (h : s.Keeps μ s₀)
    (hm : Covers 0x100000080180000000100000000600000000000802402 μ := by exact .mono (by assumption)) :
    Answers μ s₀ (execFabricsConnect cid v s) := h.connect.next

theorem execPropertyGet {v : NvmeCmd} (h : s.Keeps μ s₀)
    (hm : Covers 0x1ffffffffffff03000101d8000061000000004c812486 μ := by exact .mono (by assumption)) : Answers μ s₀ (execPropertyGet v s) := by
  unfold Machine.execPropertyGet
  refine State.Keeps.next ?_
  refine h.admin fun c1 t ht => ?_
  split
  · exact ht.finish
  · exact ht.finish

theorem writeProperty {c : Cmd} {ofs val : Nat} (h : s.Keeps μ s₀)
    (hm : Covers 0x1ffffffffffff03000101d8000060000000000c812402 μ := by exact .mono (by assumption)) : (s.writeProperty c ofs val).Keeps μ s₀ := by
  unfold State.writeProperty
  split
  · extract_lets +onlyGivenNames s1
    have h1 : s1.Keeps μ s₀ := h.updCtrl
    exact h1.finish
  · exact h.updCtrl.finish.ite h.finish

theorem execPropertySet {v : NvmeCmd} (h : s.Keeps μ s₀)
    (hm : Covers 0x1ffffffffffff03000101d8000061000000004c812486 μ := by exact .mono (by assumption)) : Answers μ s₀ (execPropertySet v s) := by
  unfold Machine.execPropertySet
  exact (h.admin fun _ _ ht => ht.writeProperty).next

theorem execPropertySetCcEnClear {v : NvmeCmd} (h : s.Keeps μ s₀)
    (hm : Covers 0x1ffffffffffff03000101f8002061120eb0704d812486 μ := by exact .mono (by assumption)) :
    Answers μ s₀ (execPropertySetCcEnClear v s) := by
  unfold Machine.execPropertySetCcEnClear
  exact (h.admin fun _ _ ht => ht.resetCtrl.finish).next

theorem shutdownCtrl {ctl shn : Nat} {self : Option Nat} (h : s.Keeps μ s₀)
    (hm : Covers 0x1ffffffffffff03000101f8002060000eb0700c812486 μ := by exact .mono (by assumption)) : (s.shutdownCtrl ctl shn self).Keeps μ s₀ := by
  unfold State.shutdownCtrl
  extract_lets +onlyGivenNames s1
  have h1 : s1.Keeps μ s₀ := h.updCtrl
  exact h1.applyReset.ite h1

theorem execPropertySetCcShn {v : NvmeCmd} (h : s.Keeps μ s₀)
    (hm : Covers 0x1ffffffffffff03000101f8002061000eb0704c812486 μ := by exact .mono (by assumption)) : Answers μ s₀ (execPropertySetCcShn v s) := by
  unfold Machine.execPropertySetCcShn
  refine State.Keeps.next ?_
  refine h.admin fun c1 t ht => ?_
  extract_lets +onlyGivenNames shn
  exact ht.shutdownCtrl.finish.ite ht.writeProperty

theorem nssReset {ident role : Nat} (h : s.Keeps μ s₀)
    (hm : Covers 0x1ffffffffffff03000101f8006060120eb0700d812486 μ := by exact .mono (by assumption)) : (s.nssReset ident role).Keeps μ s₀ := by
  unfold State.nssReset
  extract_lets +onlyGivenNames s1 s2
  have h1 : s1.Keeps μ s₀ := h.raiseCmd
  have h2 : s2.Keeps μ s₀ := h1.foldl fun _ _ ht => ht.resetCtrl
  exact h2.of_eq

theorem execPropertySetNssr {v : NvmeCmd} (h : s.Keeps μ s₀)
    (hm : Covers 0x1ffffffffffff03000101f8006061120eb0704d812486 μ := by exact .mono (by assumption)) : Answers μ s₀ (execPropertySetNssr v s) := by
  unfold Machine.execPropertySetNssr
  exact (h.admin fun _ _ ht => ht.finish.ite (ht.finish.ite ht.nssReset.finish)).next

theorem setAuth {v : NvmeCmd} {f : Queue → Queue} (h : s.Keeps μ s₀)
    (hm : Covers 0x800000 μ := by exact .mono (by assumption)) : (s.setAuth v f).Keeps μ s₀ := h.updQueue

theorem authFailed {i : Nat} (h : s.Keeps μ s₀) (hm : Covers 0x8000 μ := by exact .mono (by assumption)) : (s.authFailed i).Keeps μ s₀ := h.updIdent

theorem authEnds {c : Cmd} {i why : Nat} (h : s.Keeps μ s₀)
    (hm : Covers 0x1ffffffffffff03000101d8000060000000000c81a402 μ := by exact .mono (by assumption)) :
    (s.authEnds c i why).Keeps μ s₀ := h.setAuth.authFailed.finish

theorem authTeardown {v : NvmeCmd} (h : s.Keeps μ s₀)
    (hm : Covers 0x1ffffffffffff03000101f8002060120eb0700d812486 μ := by exact .mono (by assumption)) : (s.authTeardown v).Keeps μ s₀ := by
  unfold State.authTeardown
  split
  · exact h.closeConn.queueDown
  · exact h

theorem authNegotiate {c : Cmd} {i tid scc : Nat} {hashes groups : List Nat} (h : s.Keeps μ s₀)
    (hm : Covers 0x1ffffffffffff03000101d8000060000000000c81a402 μ := by exact .mono (by assumption)) :
    (s.authNegotiate c i tid scc hashes groups).Keeps μ s₀ := by
  unfold State.authNegotiate
  extract_lets +onlyGivenNames s1
  have h1 : s1.Keeps μ s₀ := h.setAuth
  split
  · exact h1.authEnds
  · split
    · exact h1.authEnds
    · exact h1.authEnds
    · exact h1.setAuth.finish

theorem execAuthenticationSend {v : NvmeCmd} {m : AuthMsg} (h : s.Keeps μ s₀)
    (hm : Covers 0x1ffffffffffff03000101f8002061120eb0704d81a486 μ := by exact .mono (by assumption)) :
    Answers μ s₀ (execAuthenticationSend v m s) := by
  unfold Machine.execAuthenticationSend
  refine State.Keeps.next ?_
  refine h.admin fun c1 t ht => ?_
  split
  · split
    · exact ht.authNegotiate
    · exact ht.setAuth.finish.ite ht.authEnds
    · exact ht.setAuth.finish.ite ht.authEnds
    · exact ht.finish.authTeardown
  · exact ht.finish

theorem execAuthenticationReceive {v : NvmeCmd} (h : s.Keeps μ s₀)
    (hm : Covers 0x1ffffffffffff03000101f8002061120eb0704d812c86 μ := by exact .mono (by assumption)) :
    Answers μ s₀ (execAuthenticationReceive v s) := by
  unfold Machine.execAuthenticationReceive
  refine State.Keeps.next ?_
  refine h.admin fun c1 t ht => ?_
  split
  · split
    · dsimp -zeta only
      extract_lets +onlyGivenNames q
      exact ht.draw.draw.setAuth.hostBuf.finish
    · split
      · extract_lets +onlyGivenNames two msg
        exact ht.setAuth.hostBuf.finish
      · exact ht.setAuth.hostBuf.finish.authTeardown.ite ht.finish
  · exact ht.finish

theorem execAuthLockoutExpiry {ident : Nat} (h : s.Keeps μ s₀)
    (hm : Covers 0x8000 μ := by exact .mono (by assumption)) : Answers μ s₀ (execAuthLockoutExpiry ident s) := h.updIdent.next

theorem execKeepAlive {v : NvmeCmd} (h : s.Keeps μ s₀)
    (hm : Covers 0x1ffffffffffff03000101d8000061000000004c812486 μ := by exact .mono (by assumption)) : Answers μ s₀ (execKeepAlive v s) := by
  unfold Machine.execKeepAlive
  exact (h.admin fun _ _ ht => ht.finish).next

theorem execUnsupportedOpcode {v : NvmeCmd} (h : s.Keeps μ s₀)
    (hm : Covers 0x1ffffffffffff03000101d8000061000000004c812486 μ := by exact .mono (by assumption)) : Answers μ s₀ (execUnsupportedOpcode v s) := by
  unfold Machine.execUnsupportedOpcode
  exact (h.adminIf fun _ _ ht => ht.finish).next

theorem execAbort {v : NvmeCmd} (h : s.Keeps μ s₀)
    (hm : Covers 0x1ffffffffffff03000101f8002061000eb0704c812486 μ := by exact .mono (by assumption)) : Answers μ s₀ (execAbort v s) := by
  unfold Machine.execAbort
  refine State.Keeps.next ?_
  refine h.admin fun c1 t ht => ?_
  extract_lets +onlyGivenNames sqid cid aborts
  split
  · exact ht.finish
  · split
    · split
      · extract_lets +onlyGivenNames s1
        have h1 : s1.Keeps μ s₀ := ((ht.bump).raiseCmd).dropCmd
        exact h1.finish
      · exact ht.finish
    · exact ht.finish

theorem execAsyncEventRequest {v : NvmeCmd} (h : s.Keeps μ s₀)
    (hm : Covers 0x1ffffffffffff03000101d8000061000000004c812486 μ := by exact .mono (by assumption)) : Answers μ s₀ (execAsyncEventRequest v s) := by
  unfold Machine.execAsyncEventRequest
  refine State.Keeps.next ?_
  refine h.admin fun c1 t ht => ?_
  split
  · exact ht.finish.ite ht.updCtrl.sendNotices
  · exact ht

theorem setFeature {ctl fid val : Nat} (h : s.Keeps μ s₀)
    (hm : Covers 0x800000 μ := by exact .mono (by assumption)) : (s.setFeature ctl fid val).Keeps μ s₀ := h.updCtrl

theorem execSetFeatures {v : NvmeCmd} (h : s.Keeps μ s₀)
    (hm : Covers 0x1ffffffffffff03000101d8000061000000004c812486 μ := by exact .mono (by assumption)) : Answers μ s₀ (execSetFeatures v s) := by
  unfold Machine.execSetFeatures
  refine State.Keeps.next ?_
  refine h.admin fun c1 t ht => ?_
  extract_lets +onlyGivenNames fid ok
  have hok : ∀ s, s.Keeps μ s₀ → (ok s).Keeps μ s₀ := by
    intro s ht
    exact ht.finish
  split
  · exact ht.finish.ite ((hok _ ht.setFeature).sendNotices)
  · split
    · exact hok _ ht.updCtrl.setFeature
    · split
      · extract_lets +onlyGivenNames n1
        exact ht.setFeature.finish
      · split
        · extract_lets +onlyGivenNames own
          exact (hok _ ht).ite ht.finish
        · split
          · exact (hok _ ht.updNs).ite ht.finish
          · split
            · split
              · exact hok _ (ht.foldl fun _ _ ht1 => ht1.setFeature)
              · exact (hok _ ht.setFeature).ite ht.finish
            · exact (hok _ ht.setFeature).ite ht.finish

theorem execGetFeatures {v : NvmeCmd} (h : s.Keeps μ s₀)
    (hm : Covers 0x1ffffffffffff03000101d8000061000000004c812486 μ := by exact .mono (by assumption)) : Answers μ s₀ (execGetFeatures v s) := by
  unfold Machine.execGetFeatures
  refine State.Keeps.next ?_
  refine h.admin fun c1 t ht => ?_
  extract_lets +onlyGivenNames fid
  split
  · exact ht
  · split
    · extract_lets +onlyGivenNames h1
      exact ht.hostBuf.finish
    · split
      · exact ht.finish.ite ht.finish
      · split
        · exact ht.finish
        · exact (ht.finish.ite ht.finish).ite (ht.finish.ite ht.finish)

theorem execSetFeaturesQueueOrdering {v : NvmeCmd} (h : s.Keeps μ s₀)
    (hm : Covers 0x1ffffffffffff03000101d8000061000000004c812486 μ := by exact .mono (by assumption)) :
    Answers μ s₀ (execSetFeaturesQueueOrdering v s) := by
  unfold Machine.execSetFeaturesQueueOrdering
  exact (h.admin fun _ _ ht => ht.finish.ite ht.finish).next

theorem execGetFeaturesQueueOrdering {v : NvmeCmd} (h : s.Keeps μ s₀)
    (hm : Covers 0x1ffffffffffff03000101d8000061000000004c812486 μ := by exact .mono (by assumption)) :
    Answers μ s₀ (execGetFeaturesQueueOrdering v s) := by
  unfold Machine.execGetFeaturesQueueOrdering
  refine State.Keeps.next ?_
  refine h.admin fun c1 t ht => ?_
  split
  · exact ht.finish
  · extract_lets +onlyGivenNames m
    exact ht.finish

theorem execSetFeaturesQosProfile {v : NvmeCmd} (h : s.Keeps μ s₀)
    (hm : Covers 0x1ffffffffffff03000101d8000061000000004c812486 μ := by exact .mono (by assumption)) :
    Answers μ s₀ (execSetFeaturesQosProfile v s) := by
  unfold Machine.execSetFeaturesQosProfile
  refine State.Keeps.next ?_
  refine h.admin fun c1 t ht => ?_
  extract_lets +onlyGivenNames scope p n1
  split
  · exact ht.finish
  · split
    · exact ht.finish
    · split
      · exact ht.finish
      · split
        · exact ht.finish
        · split
          · exact ht.finish
          · split
            · exact ht.finish
            · split
              · exact ht.finish
              · extract_lets +onlyGivenNames s1
                have h1 : s1.Keeps μ s₀ := by
                  unfold s1
                  clear_value scope n1
                  split
                  · exact ht.mirrorNote
                  · exact ht
                exact h1.finish

theorem execGetFeaturesQosProfile {v : NvmeCmd} (h : s.Keeps μ s₀)
    (hm : Covers 0x1ffffffffffff03000101d8000061000000004c812486 μ := by exact .mono (by assumption)) :
    Answers μ s₀ (execGetFeaturesQosProfile v s) := by
  unfold Machine.execGetFeaturesQosProfile
  refine State.Keeps.next ?_
  refine h.admin fun c1 t ht => ?_
  extract_lets +onlyGivenNames scope
  split
  · exact ht.finish
  · split
    · exact ht.finish
    · split
      · exact ht.finish
      · extract_lets +onlyGivenNames p
        clear_value p
        split
        · exact ht.hostBuf.finish
        · exact ht.finish

theorem pageRead {v : NvmeCmd} {page : Nat} (h : s.Keeps μ s₀)
    (hm : Covers 0x800000 μ := by exact .mono (by assumption)) : (s.pageRead v page).Keeps μ s₀ := by
  unfold State.pageRead
  exact h.ite h.updCtrl

theorem returnPage {c : Cmd} {page data : Nat} (h : s.Keeps μ s₀)
    (hm : Covers 0x1ffffffffffff03000101d8000060000000000c812402 μ := by exact .mono (by assumption)) :
    (s.returnPage c page data).Keeps μ s₀ := h.hostBuf.pageRead.finish

theorem execGetLogPage {v : NvmeCmd} (h : s.Keeps μ s₀)
    (hm : Covers 0x1ffffffffffff03000101d8000061000000004c812c86 μ := by exact .mono (by assumption)) : Answers μ s₀ (execGetLogPage v s) := by
  unfold Machine.execGetLogPage
  refine State.Keeps.next ?_
  refine h.admin fun c1 t ht => ?_
  extract_lets +onlyGivenNames page mine read
  have hread : ∀ s f, s.Keeps μ s₀ → (read s f).Keeps μ s₀ := by
    intro s f ht
    exact ht.ite ht.updCtrl
  split
  · exact ht.returnPage
  · split
    · exact (hread _ _ ht).returnPage
    · split
      · exact (hread _ _ ht).returnPage
      · split
        · dsimp -zeta only
          exact ht.draw.hostBuf.pageRead.finish
        · exact ht.finish

theorem execLogPageLostRanges {v : NvmeCmd} (h : s.Keeps μ s₀)
    (hm : Covers 0x1ffffffffffff03000101d8000061000000004c812486 μ := by exact .mono (by assumption)) : Answers μ s₀ (execLogPageLostRanges v s) := by
  unfold Machine.execLogPageLostRanges
  refine State.Keeps.next ?_
  refine h.admin fun c1 t ht => ?_
  split
  · split
    · exact ht.finish
    · extract_lets +onlyGivenNames full s1
      have h1 : s1.Keeps μ s₀ := ht.updNs.ite ht
      exact h1.returnPage
  · exact ht.finish

theorem execLogPageMetering {v : NvmeCmd} (h : s.Keeps μ s₀)
    (hm : Covers 0x1ffffffffffff03000101d8000061000000004c812486 μ := by exact .mono (by assumption)) : Answers μ s₀ (execLogPageMetering v s) := by
  unfold Machine.execLogPageMetering
  refine State.Keeps.next ?_
  refine h.admin fun c1 t ht => ?_
  extract_lets +onlyGivenNames lsp snap ten
  split
  · exact ht.finish
  · split
    · split
      · exact ht.finish
      · extract_lets +onlyGivenNames t1
        split
        · split
          · exact ht.finish
          · dsimp -zeta only
            extract_lets +onlyGivenNames row
            exact ht.returnPage
        · extract_lets +onlyGivenNames k gap
          exact ht.returnPage
    · split
      · exact ht.finish
      · split
        · exact ht.finish
        · split
          · exact ht.finish
          · split
            · split
              · exact ht.finish
              · dsimp -zeta only
                extract_lets +onlyGivenNames row
                exact ht.returnPage
            · exact ht.returnPage

theorem execLogPageLayoutHealth {v : NvmeCmd} (h : s.Keeps μ s₀)
    (hm : Covers 0x1ffffffffffff03000101d8000061000000004c812486 μ := by exact .mono (by assumption)) :
    Answers μ s₀ (execLogPageLayoutHealth v s) := by
  unfold Machine.execLogPageLayoutHealth
  exact (h.admin fun _ _ ht => ht.finish.ite (ht.finish.ite ht.returnPage)).next

theorem execLogPageEventExcerpt {v : NvmeCmd} (h : s.Keeps μ s₀)
    (hm : Covers 0x1ffffffffffff03000101d8000061000000004c812486 μ := by exact .mono (by assumption)) :
    Answers μ s₀ (execLogPageEventExcerpt v s) := by
  unfold Machine.execLogPageEventExcerpt
  exact (h.admin fun _ _ ht => ht.finish.ite (ht.finish.ite ht.hostBuf.pageRead.finish)).next

theorem execIdentify {v : NvmeCmd} (h : s.Keeps μ s₀)
    (hm : Covers 0x1ffffffffffff03000101d8000061000000004c812486 μ := by exact .mono (by assumption)) : Answers μ s₀ (execIdentify v s) := by
  unfold Machine.execIdentify
  refine State.Keeps.next ?_
  refine h.admin fun c1 t ht => ?_
  extract_lets +onlyGivenNames cns give
  have hgive : ∀ d, (give d).Keeps μ s₀ := by
    intro d
    exact ht.hostBuf.finish
  split
  · exact ht
  · clear_value cns
    split
    · split
      · split
        · exact hgive _
        · exact ht.finish
      · exact ht.finish
    · exact hgive _
    · exact hgive _
    · exact (hgive _).ite ht.finish
    · exact hgive _
    · split
      · exact hgive _
      · exact ht.finish
    · extract_lets +onlyGivenNames l l1
      exact hgive _
    · extract_lets +onlyGivenNames l l1
      exact hgive _
    · exact ht.finish

/-! ### Repair -/

theorem updCip {r : Nat} {f : CipRole → CipRole} (h : s.Keeps μ s₀)
    (hm : Covers 0x10000000000000000000 μ := by exact .mono (by assumption)) : (s.updCip r f).Keeps μ s₀ := h.of_eq

theorem cipEntryLost {b slot : Nat} {recovered : Bool} (h : s.Keeps μ s₀)
    (hm : Covers 0x40001000000000010000000000000000486 μ := by exact .mono (by assumption)) : (s.cipEntryLost b slot recovered).Keeps μ s₀ := by
  unfold State.cipEntryLost
  split
  · exact h
  · exact h.updCip.ite (((h.updCip.wr (hm.writes .CIP_STAT_IV_LOST _))).raise)

theorem entryLost {o : Repair} (h : s.Keeps μ s₀)
    (hm : Covers 0x1ffffffffffff03000101f8002060120eb0700d812486 μ := by exact .mono (by assumption)) : (s.entryLost o).Keeps μ s₀ := by
  unfold State.entryLost
  extract_lets +onlyGivenNames s1
  have h1 : s1.Keeps μ s₀ := by
    unfold s1
    split
    · exact h.connDown.closeConn
    · exact h
  split
  · exact h1.loseCmd
  · exact h1

theorem cleanEntryFails {nsid lba : Nat} (h : s.Keeps μ s₀)
    (hm : Covers 0x6000000000000000 μ := by exact .mono (by assumption)) : (s.cleanEntryFails nsid lba).Keeps μ s₀ := by
  unfold State.cleanEntryFails
  exact h.dropLine.ite h

theorem execDetectionRepairDone {bench : Nat} {o : Repair} {hdrOk : Bool} (h : s.Keeps μ s₀)
    (hm : Covers 0x1ffffffffffff03000301fab43060f20eb0700d812cfe μ := by exact .mono (by assumption)) :
    Answers μ s₀ (execDetectionRepairDone bench o hdrOk s) := by
  unfold Machine.execDetectionRepairDone
  refine State.Keeps.next ?_
  split
  · exact h
  · extract_lets +onlyGivenNames cip
    split
    · extract_lets +onlyGivenNames s1
      have h1 : s1.Keeps μ s₀ := by
        unfold s1
        split
        · exact h.cipEntryLost
        · split
          · exact h.cleanEntryFails
          · exact h
        · exact h
      exact h1.countRepair
    · extract_lets +onlyGivenNames s1
      have h1 : s1.Keeps μ s₀ := h.raise
      split
      · exact h1.cipEntryLost
      · exact h1.entryLost
      · split
        · exact h1.lineLost
        · exact h1
      · exact h1

/-! ### Member states -/

theorem updPort {k : Nat} {f : Port → Port} (h : s.Keeps μ s₀)
    (hm : Covers 0x80000000000000000000 μ := by exact .mono (by assumption)) : (s.updPort k f).Keeps μ s₀ := h.of_eq

theorem wrStat {f : Nat → Nat → Fld} {k v : Nat} (h : s.Keeps μ s₀)
    (hf : Writable μ (f (drvOf k) (k % 8)).key := by exact .anyWord (.mono (by assumption))) : (s.wrStat f k v).Keeps μ s₀ := h.wr hf

theorem raiseDrv {k loc sev code extra : Nat} (h : s.Keeps μ s₀)
    (hm : Covers 0x1000000000000000000000000000486 μ := by exact .mono (by assumption)) : (s.raiseDrv k loc sev code extra).Keeps μ s₀ := h.raise

theorem syncLed {k : Nat} (h : s.Keeps μ s₀) (hm : Covers 0x10000000 μ := by exact .mono (by assumption)) : (s.syncLed k).Keeps μ s₀ := by
  unfold State.syncLed
  extract_lets +onlyGivenNames fault locate
  exact h.setOut.setOut

theorem linkOff {k : Nat} (h : s.Keeps μ s₀)
    (hm : Covers 0x2000000000000000000000000000000000002 μ := by exact .mono (by assumption)) : (s.linkOff k).Keeps μ s₀ :=
  (((((((h.wrStat (f := F.DRV_PSTAT_LINK_UP) (hm.writes .DRV_PSTAT_CONTAINED _ _))).wrStat (f := F.DRV_PSTAT_READY) (hm.writes .DRV_PSTAT_CONTAINED
      _ _))).wrStat (f := F.DRV_PSTAT_GEN) (hm.writes .DRV_PSTAT_CONTAINED _ _))).wrStat (f := F.DRV_PSTAT_X1) (hm.writes .DRV_PSTAT_CONTAINED _ _))

theorem holdPerst {k : Nat} (h : s.Keeps μ s₀)
    (hm : Covers 0x2000000000000000080000000000010000002 μ := by exact .mono (by assumption)) : (s.holdPerst k).Keeps μ s₀ := h.setOut.linkOff.updPort

theorem putSlot {k st : Nat} (h : s.Keeps μ s₀)
    (hm : Covers 0x1ffffffffffff03000100000000600000800000000402 μ := by exact .mono (by assumption)) : (s.putSlot k st).Keeps μ s₀ := h.changeSlot

theorem syncDirty {k : Nat} (h : s.Keeps μ s₀)
    (hm : Covers 0x1ffffffffffff03000000000000000000000000000002 μ := by exact .mono (by assumption)) : (s.syncDirty k).Keeps μ s₀ := h.wrB

theorem updSvy {g : Nat} {f : SvyGroup → SvyGroup} (h : s.Keeps μ s₀)
    (hm : Covers 0x40000000000 μ := by exact .mono (by assumption)) : (s.updSvy g f).Keeps μ s₀ := h.of_eq

theorem writeMember {g : Nat} (h : s.Keeps μ s₀)
    (hm : Covers 0x1000000000000000000000000840000000002 μ := by exact .mono (by assumption)) : (s.writeMember g).Keeps μ s₀ := by
  unfold State.writeMember
  split
  · exact h
  · extract_lets +onlyGivenNames mem gr w s1 bits gen
    have h1 : s1.Keeps μ s₀ := h.updSvy
    exact (h1.foldl fun _ _ ht => ht.updSlot).bgIo

theorem leaveService {k : Nat} (h : s.Keeps μ s₀)
    (hm : Covers 0x80000000000100000000600000801000000402 μ := by exact .mono (by assumption)) : (s.leaveService k).Keeps μ s₀ := by
  unfold State.leaveService
  split
  · exact h
  · extract_lets +onlyGivenNames g gr
    exact h.updSlot.updGroup.mirrorSlot

theorem settle {k : Nat} (h : s.Keeps μ s₀)
    (hm : Covers 0x1ffffffffffff03000101d8000060000080701c812486 μ := by exact .mono (by assumption)) : (s.settle k).Keeps μ s₀ := by
  unfold State.settle
  extract_lets +onlyGivenNames g s1
  have h1 : s1.Keeps μ s₀ := h.syncDirty.syncLed
  exact h1.syncGroup.syncHealth.placeWaiting.ite h1

theorem rewriteStripe {g k : Nat} (h : s.Keeps μ s₀)
    (hm : Covers 0xf02000001000000000000002006117004000486 μ := by exact .mono (by assumption)) : (s.rewriteStripe g k).Keeps μ s₀ := by
  unfold State.rewriteStripe
  split
  · exact h
  · split
    · exact h
    · extract_lets +onlyGivenNames hit s1 s2 idx s3 s4
      have h1 : s1.Keeps μ s₀ := h.of_eq
      have h2 : s2.Keeps μ s₀ := h1.discardToFree.abandonM
      have h3 : s3.Keeps μ s₀ := h2.foldl fun _ _ ht => ht.updCmd
      have h4 : s4.Keeps μ s₀ := by
        unfold s4
        refine h3.foldl fun a x ha => ?_
        split
        · split
          · rename_i t x1 heq
            have ht : t.Keeps μ s₀ := ha.place.of_fst heq
            exact ht
          · rename_i t heq
            have ht : t.Keeps μ s₀ := ha.place.of_fst heq
            exact ht.of_eq
        · exact ha.place
        · exact ha
      exact h4.placeWaiting

theorem endMWork {slot : Nat} {w : MWork} (h : s.Keeps μ s₀)
    (hm : Covers 0x1ffffffffffff03000000000000002006f17004010486 μ := by exact .mono (by assumption)) : (s.endMWork slot w).Keeps μ s₀ := by
  unfold State.endMWork
  split
  · exact h.rewriteStripe
  · exact h.fixWriteMissed
  · exact h.fixReadEnd
  · exact h

theorem endCommands {k : Nat} (h : s.Keeps μ s₀)
    (hm : Covers 0x1ffffffffffff03000101d8000061200ef1700c812486 μ := by exact .mono (by assumption)) : (s.endCommands k).Keeps μ s₀ := by
  unfold State.endCommands
  extract_lets +onlyGivenNames mine wait s1 s2
  have h1 : s1.Keeps μ s₀ := h.of_eq
  have h2 : s2.Keeps μ s₀ := h1.foldl fun _ _ ht => ht.endMWork
  exact h2.rereadFrom.syncQuar.issueWaiting

theorem loseAt {bad : List BRef} {sr : SRef} {offs : List Nat} (h : s.Keeps μ s₀)
    (hm : Covers 0x1ffffffffffff03000101d8000061000010300c812486 μ := by exact .mono (by assumption)) : (s.loseAt bad sr offs).Keeps μ s₀ := by
  unfold State.loseAt
  dsimp -zeta only
  refine h.foldl fun a x ha => ?_
  split
  · exact ha
  · split
    · exact ha.loseBlock
    · split
      · exact ha.ite ha.recordLost.lostEvent
      · exact ha

theorem lossScan {g : Nat} (h : s.Keeps μ s₀)
    (hm : Covers 0x1ffffffffffff03000101d8000061000010300c812486 μ := by exact .mono (by assumption)) : (s.lossScan g).Keeps μ s₀ := by
  unfold State.lossScan
  extract_lets +onlyGivenNames offs logs s1
  have h1 : s1.Keeps μ s₀ := h.foldl fun _ _ ht => ht.loseAt
  exact (h1.foldl fun _ _ ht => ht.loseAt).ite h1

theorem enterWork {g k : Nat} (h : s.Keeps μ s₀)
    (hm : Covers 0x1ffffffffffff03000000000000002006117004000486 μ := by exact .mono (by assumption)) : (s.enterWork g k).Keeps μ s₀ := by
  unfold State.enterWork
  extract_lets +onlyGivenNames s1 old new
  have h1 : s1.Keeps μ s₀ := h.foldl fun _ _ ht => ht.rewriteStripe
  split
  · exact h1
  · extract_lets +onlyGivenNames s2
    have h2 : s2.Keeps μ s₀ := by
      unfold s2
      split
      · exact (h1.wr).wr
      · exact h1
    exact h2.updGroup.bumpBy

theorem failSlot {k cause : Nat} (h : s.Keeps μ s₀)
    (hm : Covers 0x1ffffffffffff03000101d8008061200ef5701c812486 μ := by exact .mono (by assumption)) : (s.failSlot k cause).Keeps μ s₀ := by
  unfold State.failSlot
  extract_lets +onlyGivenNames g s1 s2 s3 s4
  have h1 : s1.Keeps μ s₀ := h.leaveService.putSlot.writeMember
  have h2 : s2.Keeps μ s₀ := h1.raiseLay
  have h3 : s3.Keeps μ s₀ := h2.endCommands.enterWork.lossScan
  have h4 : s4.Keeps μ s₀ := h3.holdPerst.updPort.ite h3
  exact h4.settle

theorem suspectSlot {k cause ref : Nat} (h : s.Keeps μ s₀)
    (hm : Covers 0x1ffffffffffff03000101d8000061000ed4701c812486 μ := by exact .mono (by assumption)) : (s.suspectSlot k cause ref).Keeps μ s₀ := by
  unfold State.suspectSlot
  extract_lets +onlyGivenNames g s1 s2
  have h1 : s1.Keeps μ s₀ := h.leaveService.putSlot.writeMember
  have h2 : s2.Keeps μ s₀ := h1.updSlot.raiseLay
  exact h2.rereadFrom.settle

theorem drainSlot {k : Nat} (h : s.Keeps μ s₀)
    (hm : Covers 0x1ffffffffffff03000101d8000060200695701c812486 μ := by exact .mono (by assumption)) : (s.drainSlot k).Keeps μ s₀ := by
  unfold State.drainSlot
  extract_lets +onlyGivenNames g s1
  have h1 : s1.Keeps μ s₀ := h.leaveService.putSlot.writeMember
  exact h1.enterWork.settle

theorem memberStalled {k cause ref : Nat} (h : s.Keeps μ s₀)
    (hm : Covers 0x1ffffffffffff03000101d8008061200ef5701c812486 μ := by exact .mono (by assumption)) : (s.memberStalled k cause ref).Keeps μ s₀ := by
  unfold State.memberStalled
  extract_lets +onlyGivenNames st
  exact h.failSlot.ite (h.suspectSlot.ite h)

theorem memberGone {k cause : Nat} (h : s.Keeps μ s₀)
    (hm : Covers 0x1ffffffffffff03000101d8008061200ef5701c812486 μ := by exact .mono (by assumption)) : (s.memberGone k cause).Keeps μ s₀ := by
  unfold State.memberGone
  extract_lets +onlyGivenNames st
  exact h.failSlot.ite h

theorem readError {k : Nat} {status : Bool} (h : s.Keeps μ s₀)
    (hm : Covers 0x1ffffffffffff03000101d8008061200ef5701c812486 μ := by exact .mono (by assumption)) : (s.readError k status).Keeps μ s₀ := by
  unfold State.readError
  extract_lets +onlyGivenNames s1 k1 s2
  have h1 : s1.Keeps μ s₀ := h.updSlot
  have h2 : s2.Keeps μ s₀ := h1.wr
  exact h2.drainSlot.ite (h2.failSlot.ite h2)

theorem execMemberCommandAge {slot : Nat} (h : s.Keeps μ s₀)
    (hm : Covers 0x1ffffffffffff03000101d8008061200ef5701c812486 μ := by exact .mono (by assumption)) :
    Answers μ s₀ (execMemberCommandAge slot s) := by
  unfold Machine.execMemberCommandAge
  exact (h.memberStalled.ite h).next

theorem execMemberFailTimer {slot : Nat} (h : s.Keeps μ s₀)
    (hm : Covers 0x1ffffffffffff03000101d8008061200ef5701c812486 μ := by exact .mono (by assumption)) :
    Answers μ s₀ (execMemberFailTimer slot s) := by
  unfold Machine.execMemberFailTimer
  exact (h.failSlot.ite h).next

end Sys2Proof.Machine.State.Keeps
end

section
/-!
What each function and each command of the model keeps (part 4): members and drives, the cipher, the switch core, the endpoint, ADMIN requests. A
    lemma has the name of the function it speaks of,
so that the lemmas compose as the functions do; its mask names the pieces that the function may change.
-/

namespace Sys2Proof.Machine.State.Keeps

-- One lemma at a time: elaborated side by side, so many of them wait for one another in more threads than there is memory for.
set_option Elab.async false

variable {s : State} {μ : Nat} {s₀ : State}

theorem forgetSlot {k : Nat} (h : s.Keeps μ s₀)
    (hm : Covers 0x1ffffffffffff03000101d8000060000080701c812486 μ := by exact .mono (by assumption)) :
    (s.forgetSlot k).Keeps μ s₀ := h.changeSlot.settle

theorem execMemberReturnExpiry {slot : Nat} (h : s.Keeps μ s₀)
    (hm : Covers 0x1ffffffffffff03000101d8000060000080701c812486 μ := by exact .mono (by assumption)) :
    Answers μ s₀ (execMemberReturnExpiry slot s) := by
  unfold Machine.execMemberReturnExpiry
  refine State.Keeps.next ?_
  split
  · exact h.forgetSlot.ite h
  · exact h

theorem returnSlot {k : Nat} (h : s.Keeps μ s₀)
    (hm : Covers 0x1ffffffffffff03000101d8000060000080701c812486 μ := by exact .mono (by assumption)) :
    (s.returnSlot k).Keeps μ s₀ := h.putSlot.settle

theorem joinSlot {k : Nat} {order : Bool} (h : s.Keeps μ s₀)
    (hm : Covers 0x1ffffffffffff03000101d8000060000080701c812486 μ := by exact .mono (by assumption)) : (s.joinSlot k order).Keeps μ s₀ := by
  unfold State.joinSlot
  extract_lets +onlyGivenNames s1
  have h1 : s1.Keeps μ s₀ := h.changeSlot
  exact h1.settle

theorem suspectReturns {k : Nat} (h : s.Keeps μ s₀)
    (hm : Covers 0x1ffffffffffff03000101d8000060000080701c812486 μ := by exact .mono (by assumption)) : (s.suspectReturns k).Keeps μ s₀ := by
  unfold State.suspectReturns
  exact h.returnSlot.ite h

theorem offer {k : Nat} {r : DriveRec} (h : s.Keeps μ s₀)
    (hm : Covers 0x1ffffffffffff03000101d8000060000080701c812486 μ := by exact .mono (by assumption)) : (s.offer k r).Keeps μ s₀ := by
  unfold State.offer
  extract_lets +onlyGivenNames s1 st
  have h1 : s1.Keeps μ s₀ := h.updSlot
  split
  · exact h1
  · split
    · exact h1.suspectReturns
    · exact h1.returnSlot.ite ((h1.joinSlot.ite h1.raiseLay).ite h1)

theorem execDriveOffer {slot : Nat} {r : DriveRec} (h : s.Keeps μ s₀)
    (hm : Covers 0x1ffffffffffff03000101d8000060000080701c812486 μ := by exact .mono (by assumption)) :
    Answers μ s₀ (execDriveOffer slot r s) := h.offer.next

theorem enterService {k code : Nat} (h : s.Keeps μ s₀)
    (hm : Covers 0x1ffffffffffff03000101d8000060000084701c812486 μ := by exact .mono (by assumption)) : (s.enterService k code).Keeps μ s₀ := by
  unfold State.enterService
  extract_lets +onlyGivenNames g s1
  have h1 : s1.Keeps μ s₀ := h.putSlot.updGroup.writeMember
  exact h1.raiseLay.settle

theorem execJoinRecordWritten {slot : Nat} (h : s.Keeps μ s₀)
    (hm : Covers 0x1ffffffffffff03000101d8000060000084701c812486 μ := by exact .mono (by assumption)) :
    Answers μ s₀ (execJoinRecordWritten slot s) := by
  unfold Machine.execJoinRecordWritten
  exact (h.enterService.ite h).next

theorem regained {g : Nat} (h : s.Keeps μ s₀) (hm : Covers 0x2000010000 μ := by exact .mono (by assumption)) : (s.regained g).Keeps μ s₀ := by
  unfold State.regained
  extract_lets +onlyGivenNames s1
  have h1 : s1.Keeps μ s₀ := by
    unfold s1
    refine h.foldl fun a x ha => ?_
    refine ha.foldl fun a1 x1 ha1 => ?_
    extract_lets +onlyGivenNames s2
    have h2 : s2.Keeps μ s₀ := ha1.updStripe
    split
    · exact h2.clearLost
    · exact h2
  refine h1.foldl fun a x ha => ?_
  refine ha.foldl fun a1 x1 ha1 => ?_
  extract_lets +onlyGivenNames b
  exact ha1.clearLost.ite ha1

theorem execReconciliationDone {slot : Nat} (h : s.Keeps μ s₀)
    (hm : Covers 0x1ffffffffffff03000101d8000060000084701c812486 μ := by exact .mono (by assumption)) :
    Answers μ s₀ (execReconciliationDone slot s) := by
  unfold Machine.execReconciliationDone
  refine State.Keeps.next ?_
  split
  · exact h
  · extract_lets +onlyGivenNames g s1 s2 s3
    have h1 : s1.Keeps μ s₀ := h.leaveWork
    have h2 : s2.Keeps μ s₀ := h1.updSlot.mirrorSlot
    have h3 : s3.Keeps μ s₀ := h2.enterService
    exact h3.regained

theorem refuseOrder {g : Option Nat} {reason : Nat} (h : s.Keeps μ s₀)
    (hm : Covers 0x1000000001000000000000000000000000000486 μ := by exact .mono (by assumption)) :
    (s.refuseOrder g reason).Keeps μ s₀ := (h.wr (f := F.LAY_ORDER_STAT_REASON) (hm.writes .LAY_ORDER_STAT_PCT 0)).raise

theorem mcmd {k : Nat} {own : Option Nat} {f : State → State} (h : s.Keeps μ s₀) (hf : ∀ (a : State), a.Keeps μ s₀ → (f a).Keeps μ s₀)
    (hm : Covers 0x1000000001000000000000000000000000000486 μ := by exact .mono (by assumption)) :
    (s.mcmd k own f).Keeps μ s₀ := by
  unfold State.mcmd
  split
  · exact h.refuseOrder
  · exact hf _ h

theorem orderDrain {slot : Nat} (h : s.Keeps μ s₀)
    (hm : Covers 0x1ffffffffffff03000101d8000060200695701c812486 μ := by exact .mono (by assumption)) : (s.orderDrain slot).Keeps μ s₀ := by
  unfold State.orderDrain
  exact h.mcmd fun _ ht => ht.drainSlot.updSlot.mirrorSlot

theorem orderFail {slot : Nat} (h : s.Keeps μ s₀)
    (hm : Covers 0x1ffffffffffff03000101d8008061200ef5701c812486 μ := by exact .mono (by assumption)) : (s.orderFail slot).Keeps μ s₀ := by
  unfold State.orderFail
  exact h.mcmd fun _ ht => ht.memberGone

theorem orderJoin {slot : Nat} (h : s.Keeps μ s₀)
    (hm : Covers 0x1ffffffffffff03000101d8000060000080701c812486 μ := by exact .mono (by assumption)) : (s.orderJoin slot).Keeps μ s₀ := by
  unfold State.orderJoin
  exact h.mcmd fun _ ht => ht.joinSlot

theorem orderForget {slot : Nat} (h : s.Keeps μ s₀)
    (hm : Covers 0x1ffffffffffff03000101d8000060000080701c812486 μ := by exact .mono (by assumption)) : (s.orderForget slot).Keeps μ s₀ := by
  unfold State.orderForget
  exact h.mcmd fun _ ht => ht.forgetSlot

theorem execLayMcmdDrain {slot : Nat} (h : s.Keeps μ s₀)
    (hm : Covers 0x1ffffffffffff03000101d8000060200695701c812486 μ := by exact .mono (by assumption)) :
    Answers μ s₀ (execLayMcmdDrain slot s) := h.orderDrain.next

theorem execLayMcmdFail {slot : Nat} (h : s.Keeps μ s₀)
    (hm : Covers 0x1ffffffffffff03000101d8008061200ef5701c812486 μ := by exact .mono (by assumption)) :
    Answers μ s₀ (execLayMcmdFail slot s) := h.orderFail.next

theorem execLayMcmdJoin {slot : Nat} (h : s.Keeps μ s₀)
    (hm : Covers 0x1ffffffffffff03000101d8000060000080701c812486 μ := by exact .mono (by assumption)) :
    Answers μ s₀ (execLayMcmdJoin slot s) := h.orderJoin.next

theorem execLayMcmdForget {slot : Nat} (h : s.Keeps μ s₀)
    (hm : Covers 0x1ffffffffffff03000101d8000060000080701c812486 μ := by exact .mono (by assumption)) :
    Answers μ s₀ (execLayMcmdForget slot s) := h.orderForget.next

/-! ### Drives -/

theorem contain {k code : Nat} (h : s.Keeps μ s₀)
    (hm : Covers 0x1ffffffffffff03000101d8008061200ef5701c812486 μ := by exact .mono (by assumption)) : (s.contain k code).Keeps μ s₀ := by
  unfold State.contain
  split
  · exact h
  · extract_lets +onlyGivenNames s1 s2 s3
    have h1 : s1.Keeps μ s₀ := ((h.wrStat).bump).raiseDrv
    have h2 : s2.Keeps μ s₀ := h1.linkOff.updPort
    have h3 : s3.Keeps μ s₀ := by
      unfold s3
      split
      · exact ((h2.wrStat).updPort).raiseDrv
      · exact h2.updPort
    exact h3.memberStalled.endCommands.settle

theorem execMemberErrorMessage {slot kind : Nat} (h : s.Keeps μ s₀)
    (hm : Covers 0x1ffffffffffff03000101d8008061200ef5701c812486 μ := by exact .mono (by assumption)) :
    Answers μ s₀ (execMemberErrorMessage slot kind s) := by
  unfold Machine.execMemberErrorMessage
  exact ((h.contain.ite h).ite (h.bump)).next

theorem execDriveLinkDown {slot : Nat} (h : s.Keeps μ s₀)
    (hm : Covers 0x1ffffffffffff03000101d8008061200ef5701c812486 μ := by exact .mono (by assumption)) : Answers μ s₀ (execDriveLinkDown slot s) := by
  unfold Machine.execDriveLinkDown
  exact (h.raiseDrv.contain.ite h).next

theorem execDrvNonpostedTimeout {slot : Nat} (h : s.Keeps μ s₀)
    (hm : Covers 0x1ffffffffffff03000101d8008061200ef5701c812486 μ := by exact .mono (by assumption)) :
    Answers μ s₀ (execDrvNonpostedTimeout slot s) := by
  unfold Machine.execDrvNonpostedTimeout
  exact (h.contain.ite h).next

theorem execContainmentRecovery {slot : Nat} (h : s.Keeps μ s₀)
    (hm : Covers 0x6000000000000000080000000000010000002 μ := by exact .mono (by assumption)) : Answers μ s₀ (execContainmentRecovery slot s) := by
  unfold Machine.execContainmentRecovery
  refine State.Keeps.next ?_
  split
  · extract_lets +onlyGivenNames s1
    have h1 : s1.Keeps μ s₀ := ((((h.wrStat (hm.writes .DRV_PSTAT_CONTAINED _ _))).holdPerst).bump (hm.writes .DRV_RETRAIN _ _))
    exact h1.updPort
  · exact h

theorem execPerstReleaseTimer {slot : Nat} (h : s.Keeps μ s₀)
    (hm : Covers 0x80000000000010000000 μ := by exact .mono (by assumption)) : Answers μ s₀ (execPerstReleaseTimer slot s) := by
  unfold Machine.execPerstReleaseTimer
  exact (h.setOut.updPort.ite h).next

theorem rejectDrive {k reason : Nat} (h : s.Keeps μ s₀)
    (hm : Covers 0x2000001000000000080000000800010000486 μ := by exact .mono (by assumption)) : (s.rejectDrive k reason).Keeps μ s₀ := by
  unfold State.rejectDrive
  extract_lets +onlyGivenNames s1
  have h1 : s1.Keeps μ s₀ := (((h.wrStat (f := F.DRV_PSTAT_REJECT) (hm.writes .DRV_PSTAT_CONTAINED _ _))).raiseDrv).holdPerst
  exact h1.updSlot.syncLed

theorem execDriveEnumerated {slot : Nat} {f : DriveFound} (h : s.Keeps μ s₀)
    (hm : Covers 0x1ffffffffffff03000101d8008060000680701c812486 μ := by exact .mono (by assumption)) :
    Answers μ s₀ (execDriveEnumerated slot f s) := by
  unfold Machine.execDriveEnumerated
  refine State.Keeps.next ?_
  split
  · exact h
  · split
    · exact h.rejectDrive
    · extract_lets +onlyGivenNames g s1 s2 s3
      have h1 : s1.Keeps μ s₀ := h.updPort
      have h2 : s2.Keeps μ s₀ := (((h1.wrStat).wrStat).wrStat).wrStat
      have h3 : s3.Keeps μ s₀ := h2.raiseDrv.ite h2
      exact h3.offer.issueWaiting

theorem execDriveLinkTrainingTimeout {slot : Nat} (h : s.Keeps μ s₀)
    (hm : Covers 0x2000001000000000080000000800010000486 μ := by exact .mono (by assumption)) :
    Answers μ s₀ (execDriveLinkTrainingTimeout slot s) := by
  unfold Machine.execDriveLinkTrainingTimeout
  refine State.Keeps.next ?_
  split
  · exact h.rejectDrive.ite h
  · exact h

theorem slabAcked {g k slab : Nat} (h : s.Keeps μ s₀)
    (hm : Covers 0x1ffffffffffff03000101d8000060000090700c812486 μ := by exact .mono (by assumption)) : (s.slabAcked g k slab).Keeps μ s₀ := by
  unfold State.slabAcked
  split
  · split
    · exact h
    · extract_lets +onlyGivenNames s1
      have h1 : s1.Keeps μ s₀ := h.updStripe
      exact h1.ackStripe.placeWaiting.ite h1
  · exact h

theorem healthRead {k warn : Nat} (h : s.Keeps μ s₀)
    (hm : Covers 0x1ffffffffffff03000101d8008060200695701c812486 μ := by exact .mono (by assumption)) : (s.healthRead k warn).Keeps μ s₀ := by
  unfold State.healthRead
  extract_lets +onlyGivenNames new s1 s2
  have h1 : s1.Keeps μ s₀ := h.updPort
  have h2 : s2.Keeps μ s₀ := h1.raiseDrv.ite h1
  exact h2.drainSlot.ite h2

theorem memberDone {k : Nat} {w : MWork} {ok sound : Bool} {warn : Nat} (h : s.Keeps μ s₀)
    (hm : Covers 0x1ffffffffffff03000101d8008061200ff5701c812486 μ := by exact .mono (by assumption)) :
    (s.memberDone k w ok sound warn).Keeps μ s₀ := by
  unfold State.memberDone
  extract_lets +onlyGivenNames s1 s2 s3 s4
  have h1 : s1.Keeps μ s₀ := h.ite (h.bump)
  have h2 : s2.Keeps μ s₀ := h1.raiseLay.ite h1
  have h3 : s3.Keeps μ s₀ := h2.readError.ite h2
  have h4 : s4.Keeps μ s₀ := h3.memberGone.ite h3
  split
  · exact h4.readReturned
  · exact h4.fixReadEnd
  · exact h4.slabAcked.ite h4.rewriteStripe
  · exact h4.fixWriteEnd.ite h4.fixWriteMissed
  · exact h4.of_eq.raiseOnce.ite h4
  · exact h4.placeWaiting
  · exact h4.healthRead.ite h4

theorem lateDone {k : Nat} {w : MWork} {ok : Bool} (h : s.Keeps μ s₀)
    (hm : Covers 0x1ffffffffffff03000101d8008061200ef5701c812486 μ := by exact .mono (by assumption)) : (s.lateDone k w ok).Keeps μ s₀ := by
  unfold State.lateDone
  extract_lets +onlyGivenNames s1
  have h1 : s1.Keeps μ s₀ := (h.bump).raiseOnce
  split
  · exact h1
  · extract_lets +onlyGivenNames s2
    have h2 : s2.Keeps μ s₀ := h1.bump
    split
    · exact h2.readError.rewriteBlk
    · exact h2.memberGone.ite h2

theorem execMemberCompletion {tag : MTag} {cq : Nat} {ok : Bool} {got : Option (Nat × Nat)} {warn : Nat} (h : s.Keeps μ s₀)
    (hm : Covers 0x1ffffffffffff03000101d8008061200ff5701c812486 μ := by exact .mono (by assumption)) :
    Answers μ s₀ (execMemberCompletion tag cq ok got warn s) := by
  unfold Machine.execMemberCompletion
  refine State.Keeps.next ?_
  split
  · exact h.contain.ite h
  · split
    · exact h.contain
    · extract_lets +onlyGivenNames sound s1 s2
      have h1 : s1.Keeps μ s₀ := h.of_eq
      have h2 : s2.Keeps μ s₀ := h1.lateDone.ite h1.memberDone
      exact h2.syncQuar.suspectReturns.issueWaiting

theorem execMemberDmaRequest {slot : Nat} {write : Bool} {addr len : Nat} (h : s.Keeps μ s₀)
    (hm : Covers 0x1ffffffffffff03000101d8008061200ef5701c812486 μ := by exact .mono (by assumption)) :
    Answers μ s₀ (execMemberDmaRequest slot write addr len s) := by
  unfold Machine.execMemberDmaRequest
  refine State.Keeps.next ?_
  extract_lets +onlyGivenNames s1 s2
  have h1 : s1.Keeps μ s₀ := h.ite h.send
  have h2 : s2.Keeps μ s₀ := (h1.bump).contain
  split
  · exact h
  · split
    · exact h2
    · split
      · exact (h.bump).ite h2
      · exact h.ite h2

theorem execHealthPoll {slot : Nat} (h : s.Keeps μ s₀)
    (hm : Covers 0x1000000000000000080000006000000000402 μ := by exact .mono (by assumption)) : Answers μ s₀ (execHealthPoll slot s) := by
  unfold Machine.execHealthPoll
  exact (h.updPort.issueM.ite h).next

theorem execTrimGatherExpiry {slot : Nat} (h : s.Keeps μ s₀)
    (hm : Covers 0xc01000001000000000001000006007004000486 μ := by exact .mono (by assumption)) : Answers μ s₀ (execTrimGatherExpiry slot s) := by
  unfold Machine.execTrimGatherExpiry
  refine State.Keeps.next ?_
  extract_lets +onlyGivenNames mine
  split
  · exact h
  · split
    · exact h
    · extract_lets +onlyGivenNames rows s1
      have h1 : s1.Keeps μ s₀ := h.of_eq
      exact h1.issueM.ite h1.placeWaiting

theorem execFenceWriteWindowEnd (h : s.Keeps μ s₀)
    (hm : Covers 0xc01000001000000000000800006007004000486 μ := by exact .mono (by assumption)) : Answers μ s₀ (execFenceWriteWindowEnd s) := by
  unfold Machine.execFenceWriteWindowEnd
  refine State.Keeps.next ?_
  split
  · extract_lets +onlyGivenNames s1
    have h1 : s1.Keeps μ s₀ := h.of_eq
    exact h1.issueWaiting.foldl fun _ _ ht => ht.placeWaiting
  · exact h

theorem setEn {k : Nat} {on : Bool} (h : s.Keeps μ s₀)
    (hm : Covers 0x80000000000010000000 μ := by exact .mono (by assumption)) : (s.setEn k on).Keeps μ s₀ := by
  unfold State.setEn
  extract_lets +onlyGivenNames s1
  have h1 : s1.Keeps μ s₀ := h.updPort.ite h
  exact h1.setOut

theorem setPower {k : Nat} {on : Bool} (h : s.Keeps μ s₀)
    (hm : Covers 0x80000000000100000080600000000010000402 μ := by exact .mono (by assumption)) : (s.setPower k on).Keeps μ s₀ := by
  unfold State.setPower
  exact h.ite h.setEn.mirrorSlot.haulNote

theorem poweredUp {k : Nat} (h : s.Keeps μ s₀)
    (hm : Covers 0x2000000000000000080000000000010000002 μ := by exact .mono (by assumption)) : (s.poweredUp k).Keeps μ s₀ := by
  unfold State.poweredUp
  extract_lets +onlyGivenNames s1
  have h1 : s1.Keeps μ s₀ := (((h.wrStat (f := F.DRV_PSTAT_POWERED) (hm.writes .DRV_PSTAT_CONTAINED _ _))).wrStat (f := F.DRV_PSTAT_REJECT)
      (hm.writes .DRV_PSTAT_CONTAINED _ _))
  exact h1.updPort.syncLed

theorem powerOn {k : Nat} (h : s.Keeps μ s₀)
    (hm : Covers 0x82000000000100000080600000000010000402 μ := by exact .mono (by assumption)) : (s.powerOn k).Keeps μ s₀ := by
  unfold State.powerOn
  extract_lets +onlyGivenNames s1
  have h1 : s1.Keeps μ s₀ := h.setPower
  exact h1.poweredUp.ite h1

theorem powerNvme {k : Nat} (h : s.Keeps μ s₀)
    (hm : Covers 0x82000001000100000080600000800010000486 μ := by exact .mono (by assumption)) : (s.powerNvme k).Keeps μ s₀ := by
  unfold State.powerNvme
  exact h.rejectDrive.ite h.powerOn

theorem powerOff {k : Nat} (h : s.Keeps μ s₀)
    (hm : Covers 0x1ffffffffffff03000101d8008061200ef1701c812486 μ := by exact .mono (by assumption)) : (s.powerOff k).Keeps μ s₀ := by
  unfold State.powerOff
  extract_lets +onlyGivenNames s1 s2
  have h1 : s1.Keeps μ s₀ := h.setPower
  have h2 : s2.Keeps μ s₀ := ((h1.wrStat).wrStat).wrStat
  exact h2.holdPerst.updPort.endCommands

theorem followPower {k : Nat} {on : Bool} (h : s.Keeps μ s₀)
    (hm : Covers 0x1ffffffffffff03000101d8008061200ef1701c812486 μ := by exact .mono (by assumption)) : (s.followPower k on).Keeps μ s₀ := by
  unfold State.followPower
  split
  · exact h
  · extract_lets +onlyGivenNames s1
    have h1 : s1.Keeps μ s₀ := h.setEn
    split
    · split
      · exact h1.poweredUp
      · exact h1.wrStat
    · exact h1.powerOff

theorem driveLost {k : Nat} (h : s.Keeps μ s₀)
    (hm : Covers 0x1ffffffffffff03000101d8008061200ef5701c812486 μ := by exact .mono (by assumption)) : (s.driveLost k).Keeps μ s₀ := by
  unfold State.driveLost
  extract_lets +onlyGivenNames s1
  have h1 : s1.Keeps μ s₀ := h.memberGone
  exact h1.powerOff.updSlot.settle

theorem powerOnOrder {k : Nat} (h : s.Keeps μ s₀)
    (hm : Covers 0x82000001000100000080600000800010000486 μ := by exact .mono (by assumption)) : (s.powerOnOrder k).Keeps μ s₀ := by
  unfold State.powerOnOrder
  exact h.powerNvme.ite h

theorem powerOffOrder {k : Nat} (h : s.Keeps μ s₀)
    (hm : Covers 0x1ffffffffffff03000101d8008061200ef1701c812486 μ := by exact .mono (by assumption)) : (s.powerOffOrder k).Keeps μ s₀ := by
  unfold State.powerOffOrder
  extract_lets +onlyGivenNames st
  split
  · exact h.powerOff.settle
  · exact h.wr

theorem execDrvPowerOn {slot : Nat} (h : s.Keeps μ s₀)
    (hm : Covers 0x82000001000300000080600000800010000486 μ := by exact .mono (by assumption)) : Answers μ s₀ (execDrvPowerOn slot s) := by
  unfold Machine.execDrvPowerOn
  exact (h.atWindow fun _ ht => ht.powerOnOrder).next

theorem execDrvPowerOff {slot : Nat} (h : s.Keeps μ s₀)
    (hm : Covers 0x1ffffffffffff03000301d8008061200ef1701c812486 μ := by exact .mono (by assumption)) : Answers μ s₀ (execDrvPowerOff slot s) := by
  unfold Machine.execDrvPowerOff
  exact (h.atWindow fun _ ht => ht.powerOffOrder).next

theorem execDriveStageTimer (h : s.Keeps μ s₀)
    (hm : Covers 0x82000000000100000380600000000010000402 μ := by exact .mono (by assumption)) : Answers μ s₀ (execDriveStageTimer s) := by
  unfold Machine.execDriveStageTimer
  refine State.Keeps.next ?_
  split
  · split
    · exact h
    · extract_lets +onlyGivenNames go s1
      have h1 : s1.Keeps μ s₀ := h.foldl fun _ _ ht => ht.powerOn
      exact h1.of_eq.ite h1.of_eq
  · exact h

theorem driveSeen {k : Nat} (h : s.Keeps μ s₀)
    (hm : Covers 0x82000001000100000080600000800010000486 μ := by exact .mono (by assumption)) : (s.driveSeen k).Keeps μ s₀ := by
  unfold State.driveSeen
  extract_lets +onlyGivenNames s1
  have h1 : s1.Keeps μ s₀ := ((h.wrStat (f := F.DRV_PSTAT_PRSNT) (hm.writes .DRV_PSTAT_CONTAINED _ _))).raiseDrv
  exact h1.ite (h1.powerNvme.ite h1.updPort)

theorem driveRemoved {k : Nat} (h : s.Keeps μ s₀)
    (hm : Covers 0x1ffffffffffff03000101d8008061200ef5701c812486 μ := by exact .mono (by assumption)) : (s.driveRemoved k).Keeps μ s₀ := by
  unfold State.driveRemoved
  extract_lets +onlyGivenNames s1
  have h1 : s1.Keeps μ s₀ := (h.wrStat).driveLost
  exact ((h1.wrStat).syncLed).raiseDrv

theorem inputAccepted {k i : Nat} {v : Bool} (h : s.Keeps μ s₀)
    (hm : Covers 0x1ffffffffffff03000101d8008061200ef5701c812486 μ := by exact .mono (by assumption)) : (s.inputAccepted k i v).Keeps μ s₀ := by
  unfold State.inputAccepted
  split
  · exact h.driveRemoved.ite h.driveSeen
  · exact h.driveLost.raiseDrv.ite (h.raiseDrv.ite h)

theorem sampleInput {k i : Nat} {v : Bool} (h : s.Keeps μ s₀)
    (hm : Covers 0x1ffffffffffff03000101d8008061200ef5701c812486 μ := by exact .mono (by assumption)) : (s.sampleInput k i v).Keeps μ s₀ := by
  unfold State.sampleInput
  extract_lets +onlyGivenNames p
  split
  · exact h
  · extract_lets +onlyGivenNames since s1
    have h1 : s1.Keeps μ s₀ := h.updPort
    exact h1.updPort.inputAccepted.ite h1

theorem sbcLoad (h : s.Keeps μ s₀)
    (hm : Covers 0x1ffffffffffff03000000000000000000000020000002 μ := by exact .mono (by assumption)) : s.sbcLoad.Keeps μ s₀ := by
  unfold State.sbcLoad
  extract_lets +onlyGivenNames s1
  have h1 : s1.Keeps μ s₀ := h.foldl fun _ _ ht => ht.wr
  exact h1.of_eq

theorem execSbcFrame {inputs : Nat} (h : s.Keeps μ s₀)
    (hm : Covers 0x1ffffffffffff03000101d8008061200ef5703c812486 μ := by exact .mono (by assumption)) : Answers μ s₀ (execSbcFrame inputs s) := by
  unfold Machine.execSbcFrame
  refine State.Keeps.next ?_
  extract_lets +onlyGivenNames s1 s2
  have h1 : s1.Keeps μ s₀ := h.sbcLoad
  have h2 : s2.Keeps μ s₀ := h1.foldl fun _ _ ht => ht.wr
  refine h2.foldl fun a x ha => ?_
  extract_lets +onlyGivenNames nib s3
  have h3 : s3.Keeps μ s₀ := ha.foldl fun _ _ ht => ht.sampleInput
  exact h3.updPort

/-! ### Cipher and keys -/

theorem syncCip {r : Nat} (h : s.Keeps μ s₀)
    (hm : Covers 0x40000000000000000000000000000000002 μ := by exact .mono (by assumption)) : (s.syncCip r).Keeps μ s₀ := by
  unfold State.syncCip
  extract_lets +onlyGivenNames x
  exact (((((((h.wr (f := F.CIP_STAT_KC_USED _) (hm.writes .CIP_STAT_IV_LOST _))).wr (f := F.CIP_STAT_KC_PINNED _) (hm.writes .CIP_STAT_IV_LOST
      _))).wr (f := F.CIP_STAT_QDEPTH _) (hm.writes .CIP_STAT_IV_LOST _))).wrB (hm.writes .CIP_STAT_IV_LOST _))

theorem cipLoads {r : Nat} (h : s.Keeps μ s₀)
    (hm : Covers 0x10000000000000010000000000000000002 μ := by exact .mono (by assumption)) : (s.cipLoads r).Keeps μ s₀ := by
  unfold State.cipLoads
  refine h.foldl fun a x ha => ?_
  extract_lets +onlyGivenNames x1 q
  exact ha.ite (((ha.bump (hm.writes .CIP_KC_MISS _))).updCip)

theorem cipEnqueue {r : Nat} {w : CipWait} (h : s.Keeps μ s₀)
    (hm : Covers 0x78001000000000010010000000000000486 μ := by exact .mono (by assumption)) : (s.cipEnqueue r w).Keeps μ s₀ := by
  unfold State.cipEnqueue
  extract_lets +onlyGivenNames x hit keyed s1 s2
  have h1 : s1.Keeps μ s₀ := ((h.bump (hm.writes .CIP_KC_HIT _))).ite h
  have h2 : s2.Keeps μ s₀ := (((h1.bump (hm.writes .CIP_KC_WAIT _))).raiseOnce).ite h1
  exact h2.updCip.cipLoads.syncCip

theorem cipArrive {r : Nat} {w : CipWait} (h : s.Keeps μ s₀)
    (hm : Covers 0x78001000000000010010000000000000486 μ := by exact .mono (by assumption)) : (s.cipArrive r w).Keeps μ s₀ := by
  unfold State.cipArrive
  extract_lets +onlyGivenNames x
  exact h.cipEnqueue.ite h.updCip

theorem cipRefill {r : Nat} (h : s.Keeps μ s₀)
    (hm : Covers 0x78001000000000010010000000000000486 μ := by exact .mono (by assumption)) : (s.cipRefill r).Keeps μ s₀ := by
  unfold State.cipRefill
  extract_lets +onlyGivenNames x
  split
  · exact h.updCip.cipEnqueue.ite h
  · exact h

theorem cipRequest {q : CipReq} (h : s.Keeps μ s₀)
    (hm : Covers 0x78001000000000010010000000000000486 μ := by exact .mono (by assumption)) : (s.cipRequest q).Keeps μ s₀ := h.cipArrive

theorem cipAnswer {r i : Nat} {q : CipReq} {status tail : Nat} (h : s.Keeps μ s₀)
    (hm : Covers 0x1ffffffffffff03000000000010010000000000000486 μ := by exact .mono (by assumption)) :
    (s.cipAnswer r i q status tail).Keeps μ s₀ := by
  unfold State.cipAnswer
  extract_lets +onlyGivenNames s1 s2 s3
  have h1 : s1.Keeps μ s₀ := h.updCip
  have h2 : s2.Keeps μ s₀ := h1.of_eq
  have h3 : s3.Keeps μ s₀ := h2.bump
  extract_lets +onlyGivenNames s4
  have h4 : s4.Keeps μ s₀ := by
    unfold s4
    split
    · exact h3.bump
    · exact h3.bump
    · exact h3.bump
    · exact (h3.bump).raiseOnce
    · exact (h3.bump).raise
    · exact h3
  exact h4.cipLoads.cipRefill.syncCip

theorem cipCount {r : Nat} {q : CipReq} (h : s.Keeps μ s₀)
    (hm : Covers 0x1ffffffffffff03000000000010000000000000000002 μ := by exact .mono (by assumption)) : (s.cipCount r q).Keeps μ s₀ := by
  unfold State.cipCount
  split
  · exact h.bumpBy
  · extract_lets +onlyGivenNames n1
    exact (h.bumpBy).updCip

theorem rekeyHaul {q : CipReq} {k : KeyCache} (h : s.Keeps μ s₀)
    (hm : Covers 0x80000000000140000000000000000000000c02 μ := by exact .mono (by assumption)) : (s.rekeyHaul q k).Keeps μ s₀ := by
  unfold State.rekeyHaul
  exact h.sendPairing.ite h

theorem execCipResult {role : Nat} {f : CipFound} {hdrOk : Bool} (h : s.Keeps μ s₀)
    (hm : Covers 0x1ffffffffffff0300034002b410010000000000000cfe μ := by exact .mono (by assumption)) :
    Answers μ s₀ (execCipResult role f hdrOk s) := by
  unfold Machine.execCipResult
  refine State.Keeps.next ?_
  split
  · exact h
  · extract_lets +onlyGivenNames q
    split
    · exact h.cipAnswer
    · split
      · extract_lets +onlyGivenNames s1
        have h1 : s1.Keeps μ s₀ := h.updCip
        exact h1.cipAnswer.raise
      · split
        · exact h.cipLoads.syncCip
        · extract_lets +onlyGivenNames s1 s2 iv work
          have h1 : s1.Keeps μ s₀ := h.updCip
          have h2 : s2.Keeps μ s₀ := h1.rekeyHaul
          split
          · exact h2.cipAnswer
          · split
            · exact h2.cipAnswer
            · split
              · exact h2.cipAnswer
              · split
                · extract_lets +onlyGivenNames s3
                  have h3 : s3.Keeps μ s₀ := h2.countRepair
                  split
                  · exact h3.cipAnswer
                  · split
                    · exact h3
                    · extract_lets +onlyGivenNames s4
                      have h4 : s4.Keeps μ s₀ := h3.updCip.cipRefill.syncCip
                      exact (h4.bump).cipArrive
                · extract_lets +onlyGivenNames s3
                  have h3 : s3.Keeps μ s₀ := h2.cipCount.foldl fun _ _ ht => ht.send
                  exact h3.cipAnswer

theorem execCipXtsEnc {r : CipReq} (h : s.Keeps μ s₀)
    (hm : Covers 0x78001000000000010010000000000000486 μ := by exact .mono (by assumption)) : Answers μ s₀ (execCipXtsEnc r s) := h.cipRequest.next

theorem execCipXtsDec {r : CipReq} (h : s.Keeps μ s₀)
    (hm : Covers 0x78001000000000010010000000000000486 μ := by exact .mono (by assumption)) : Answers μ s₀ (execCipXtsDec r s) := h.cipRequest.next

theorem execCipXtsZero {r : CipReq} (h : s.Keeps μ s₀)
    (hm : Covers 0x78001000000000010010000000000000486 μ := by exact .mono (by assumption)) : Answers μ s₀ (execCipXtsZero r s) := h.cipRequest.next

theorem execCipGcmSeal {r : CipReq} (h : s.Keeps μ s₀)
    (hm : Covers 0x78001000000000010010000000000000486 μ := by exact .mono (by assumption)) : Answers μ s₀ (execCipGcmSeal r s) := h.cipRequest.next

theorem execCipGcmOpen {r : CipReq} (h : s.Keeps μ s₀)
    (hm : Covers 0x78001000000000010010000000000000486 μ := by exact .mono (by assumption)) : Answers μ s₀ (execCipGcmOpen r s) := h.cipRequest.next

theorem execCipCtr {r : CipReq} (h : s.Keeps μ s₀)
    (hm : Covers 0x78001000000000010010000000000000486 μ := by exact .mono (by assumption)) : Answers μ s₀ (execCipCtr r s) := h.cipRequest.next

theorem zeroAll {q : CipReq} (h : s.Keeps μ s₀)
    (hm : Covers 0x78001000000000010010000000000000486 μ := by exact .mono (by assumption)) : (s.zeroAll q).Keeps μ s₀ := by
  unfold State.zeroAll
  exact h.foldl fun _ _ ht => ht.cipArrive

theorem zeroise {slot kgen : Nat} {new : Option KeyEntry} (h : s.Keeps μ s₀)
    (hm : Covers 0x78001000000000018010000000000000486 μ := by exact .mono (by assumption)) : (s.zeroise slot kgen new).Keeps μ s₀ := by
  unfold State.zeroise
  extract_lets +onlyGivenNames s1
  have h1 : s1.Keeps μ s₀ := h.of_eq
  exact h1.zeroAll

theorem setHaulKey {slot kgen key : Nat} (h : s.Keeps μ s₀)
    (hm : Covers 0x78001000000000018010000000000000486 μ := by exact .mono (by assumption)) : (s.setHaulKey slot kgen key).Keeps μ s₀ := by
  unfold State.setHaulKey
  extract_lets +onlyGivenNames old
  exact h.zeroise

theorem haulZero (h : s.Keeps μ s₀)
    (hm : Covers 0x78001000000000018010000000000000486 μ := by exact .mono (by assumption)) : s.haulZero.Keeps μ s₀ := by
  unfold State.haulZero
  exact h.foldl fun _ _ ht => ht.setHaulKey

theorem execCipKeyZero {r : CipReq} (h : s.Keeps μ s₀)
    (hm : Covers 0x78001000000000018010000000000000486 μ := by exact .mono (by assumption)) : Answers μ s₀ (execCipKeyZero r s) := by
  unfold Machine.execCipKeyZero
  refine State.Keeps.next ?_
  extract_lets +onlyGivenNames q
  exact h.cipRequest.ite h.of_eq.zeroAll

theorem execKeyLoadDone {role slot : Nat} {intact : Bool} (h : s.Keeps μ s₀)
    (hm : Covers 0x50001000000000010000000000000000486 μ := by exact .mono (by assumption)) : Answers μ s₀ (execKeyLoadDone role slot intact s) := by
  unfold Machine.execKeyLoadDone
  refine State.Keeps.next ?_
  split
  · exact h
  · split
    · exact h
    · extract_lets +onlyGivenNames drop reload s1
      have h1 : s1.Keeps μ s₀ := by
        unfold s1
        split
        · exact h.updCip
        · split
          · exact h.updCip.raise.ite (((h.bump (hm.writes .CIP_KC_MISS _))).updCip)
          · extract_lets +onlyGivenNames stale
            exact (((h.bump (hm.writes .CIP_KC_MISS _))).updCip).ite h.updCip
      exact h1.cipLoads.syncCip

/-! ### Namespaces -/

theorem updResv {nsid : Nat} {f : Resv → Resv} (h : s.Keeps μ s₀)
    (hm : Covers 0x10000 μ := by exact .mono (by assumption)) : (s.updResv nsid f).Keeps μ s₀ := h.updNs

theorem resvLeave {k : Namespace} {i : Nat} {f : Resv → Resv} (h : s.Keeps μ s₀)
    (hm : Covers 0x1ffffffffffff03000101d8000060000000000c812402 μ := by exact .mono (by assumption)) : (s.resvLeave k i f).Keeps μ s₀ := by
  unfold State.resvLeave
  extract_lets +onlyGivenNames left s1
  have h1 : s1.Keeps μ s₀ := h.resvNotice.ite h
  exact h1.updResv

theorem unregister {nsid i : Nat} (h : s.Keeps μ s₀)
    (hm : Covers 0x1ffffffffffff03000101d8000060000000000c812402 μ := by exact .mono (by assumption)) : (s.unregister nsid i).Keeps μ s₀ := by
  unfold State.unregister
  split
  · exact h.resvLeave.mirrorNs.ite h
  · exact h

theorem resvEnd {c : Cmd} {k : Namespace} (h : s.Keeps μ s₀)
    (hm : Covers 0x1ffffffffffff03000101d8000060000000000c812402 μ := by exact .mono (by assumption)) :
    (s.resvEnd c k).Keeps μ s₀ := h.mirrorEffect.finish

theorem resvRegister {c : Cmd} {k : Namespace} {i : Nat} (h : s.Keeps μ s₀)
    (hm : Covers 0x1ffffffffffff03000101d8000060000000000c812402 μ := by exact .mono (by assumption)) : (s.resvRegister c k i).Keeps μ s₀ := by
  unfold State.resvRegister
  extract_lets +onlyGivenNames v crkey nrkey iekey cptpl mine ptpl keep
  split
  · exact h.finish
  · split
    · exact h.finish.ite h.finish
    · exact h.finish.ite h.updResv.resvEnd
    · exact h.finish.ite h.resvLeave.resvEnd
    · exact h.finish.ite h.updResv.resvEnd
    · exact h.finish

theorem preempt {c : Cmd} {k : Namespace} {i rtype : Nat} {gone : Nat → Bool} {abort take : Bool} (h : s.Keeps μ s₀)
    (hm : Covers 0x1ffffffffffff03000101d8002060000090700c812486 μ := by exact .mono (by assumption)) :
    (s.preempt c k i rtype gone abort take).Keeps μ s₀ := by
  unfold State.preempt
  extract_lets +onlyGivenNames out s1 s2
  have h1 : s1.Keeps μ s₀ := h.updResv
  have h2 : s2.Keeps μ s₀ := h1.resvNotice.mirrorEffect
  split
  · exact h2.finish
  · extract_lets +onlyGivenNames hit s3
    have h3 : s3.Keeps μ s₀ := h2.foldl fun _ _ ht => ht.voidFree.finish
    exact h3.finish.ite h3.of_eq

theorem resvAcquire {c : Cmd} {k : Namespace} {i : Nat} (h : s.Keeps μ s₀)
    (hm : Covers 0x1ffffffffffff03000101d8002060000090700c812486 μ := by exact .mono (by assumption)) : (s.resvAcquire c k i).Keeps μ s₀ := by
  unfold State.resvAcquire
  extract_lets +onlyGivenNames v prkey rtype act r
  split
  · exact h.finish
  · split
    · exact h.finish
    · split
      · exact h.updResv.resvEnd.ite h.finish
      · extract_lets +onlyGivenNames abort keyed
        split
        · exact h.preempt
        · exact h.preempt.ite (h.finish.ite (h.preempt.ite h.finish))

theorem resvRelease {c : Cmd} {k : Namespace} {i : Nat} (h : s.Keeps μ s₀)
    (hm : Covers 0x1ffffffffffff03000101d8000060000000000c812402 μ := by exact .mono (by assumption)) : (s.resvRelease c k i).Keeps μ s₀ := by
  unfold State.resvRelease
  extract_lets +onlyGivenNames v act r
  split
  · exact h.finish
  · split
    · exact h.finish
    · split
      · exact h.updResv.resvNotice.resvEnd
      · split
        · exact h.finish
        · split
          · exact h.finish
          · extract_lets +onlyGivenNames s1
            have h1 : s1.Keeps μ s₀ := h.updResv
            exact (h1.resvNotice.ite h1).resvEnd

theorem resvReport {c : Cmd} {k : Namespace} (h : s.Keeps μ s₀)
    (hm : Covers 0x1ffffffffffff03000101d8000060000000000c812402 μ := by exact .mono (by assumption)) : (s.resvReport c k).Keeps μ s₀ := by
  unfold State.resvReport
  extract_lets +onlyGivenNames v r entry rows head all
  split
  · exact h.finish
  · extract_lets +onlyGivenNames len
    exact h.hostBuf.finish

theorem resvRun {c : Cmd} (h : s.Keeps μ s₀)
    (hm : Covers 0x1ffffffffffff03000101d8002060000090700c812486 μ := by exact .mono (by assumption)) : (s.resvRun c).Keeps μ s₀ := by
  unfold State.resvRun
  split
  · split
    · exact h.resvRegister
    · exact h.resvReport.ite (h.resvAcquire.ite h.resvRelease)
  · exact h

theorem inTurn {c : Cmd} {op : NsOp} {k : State → State} (h : s.Keeps μ s₀) (hk : ∀ (a : State), a.Keeps μ s₀ → (k a).Keeps μ s₀)
    (hm : Covers 0x20000000000000000000 μ := by exact .mono (by assumption)) :
    (s.inTurn c op k).Keeps μ s₀ := by
  unfold State.inTurn
  exact h.of_eq.ite (hk _ h)

theorem resvTurn {c : Cmd} (h : s.Keeps μ s₀)
    (hm : Covers 0x1ffffffffffff03000101d8002060000090700c812486 μ := by exact .mono (by assumption)) : (s.resvTurn c).Keeps μ s₀ := by
  unfold State.resvTurn
  exact h.resvRun.ite (h.inTurn fun _ ht => ht.resvRun)

theorem resvCmd {v : NvmeCmd} (h : s.Keeps μ s₀)
    (hm : Covers 0x1ffffffffffff03000101d8002061000090704c812486 μ := by exact .mono (by assumption)) : (s.resvCmd v).Keeps μ s₀ := by
  unfold State.resvCmd
  extract_lets +onlyGivenNames id s1
  have h1 : s1.Keeps μ s₀ := h.deliverIo
  split
  · exact h1
  · split
    · exact h1
    · split
      · exact h1.refuseIo
      · exact h1.resvTurn.ite h1

theorem execReservationRegister {v : NvmeCmd} (h : s.Keeps μ s₀)
    (hm : Covers 0x1ffffffffffff03000101d8002061000090704c812486 μ := by exact .mono (by assumption)) :
    Answers μ s₀ (execReservationRegister v s) := h.resvCmd.next

theorem execReservationReport {v : NvmeCmd} (h : s.Keeps μ s₀)
    (hm : Covers 0x1ffffffffffff03000101d8002061000090704c812486 μ := by exact .mono (by assumption)) :
    Answers μ s₀ (execReservationReport v s) := h.resvCmd.next

theorem execReservationAcquire {v : NvmeCmd} (h : s.Keeps μ s₀)
    (hm : Covers 0x1ffffffffffff03000101d8002061000090704c812486 μ := by exact .mono (by assumption)) :
    Answers μ s₀ (execReservationAcquire v s) := h.resvCmd.next

theorem execReservationRelease {v : NvmeCmd} (h : s.Keeps μ s₀)
    (hm : Covers 0x1ffffffffffff03000101d8002061000090704c812486 μ := by exact .mono (by assumption)) :
    Answers μ s₀ (execReservationRelease v s) := h.resvCmd.next

theorem execCommandAdmission {role : Nat} (h : s.Keeps μ s₀)
    (hm : Covers 0x1ffffffffffff03000101f8002061e216b0718c812486 μ := by exact .mono (by assumption)) :
    Answers μ s₀ (execCommandAdmission role s) := by
  unfold Machine.execCommandAdmission
  refine State.Keeps.next ?_
  split
  · exact h
  · extract_lets +onlyGivenNames waiting mine
    split
    · exact h.refuseIo
    · split
      · exact h
      · split
        · exact h.resvTurn
        · split
          · exact h.admitCmd
          · exact h

theorem drawKey {nsid gen : Nat} (h : s.Keeps μ s₀) (hm : Covers 0x800 μ := by exact .mono (by assumption)) : (s.drawKey nsid gen).2.Keeps μ s₀ := by
  unfold State.drawKey
  dsimp -zeta only
  exact h.draw

theorem nsCreate {c : Cmd} (h : s.Keeps μ s₀)
    (hm : Covers 0x1ffffffffffff03000101d8002860000000500c852c86 μ := by exact .mono (by assumption)) : (s.nsCreate c).Keeps μ s₀ := by
  unfold State.nsCreate
  extract_lets +onlyGivenNames v d nsze ncap flbas pit cls fixed unit tenant g? g
  refine h.finish.ite ?_
  split
  · exact h.finish
  · refine State.Keeps.ite h.finish (State.Keeps.ite h.finish ?_)
    split
    · exact h.finish
    · next nsid _ =>
      refine h.finish.ite (h.finish.ite (h.finish.ite ?_))
      extract_lets +onlyGivenNames gen
      dsimp -zeta only
      extract_lets +onlyGivenNames n1 inRun s1 s2 s3
      have hkey : (s.drawKey nsid gen).2.Keeps μ s₀ := h.drawKey
      have h1 : s1.Keeps μ s₀ := hkey.of_eq
      have h3 : s3.Keeps μ s₀ := h1.updGroup.syncGroup.mirrorEffect
      exact h3.finish.ite h3.of_eq

theorem abandonTree {k : Namespace} (h : s.Keeps μ s₀)
    (hm : Covers 0xb9000010000 μ := by exact .mono (by assumption)) : (s.abandonTree k).Keeps μ s₀ := by
  unfold State.abandonTree
  extract_lets +onlyGivenNames places s1
  have h1 : s1.Keeps μ s₀ := h.of_eq
  exact h1.updGroup.updNs

theorem dropContents {nsid : Nat} (h : s.Keeps μ s₀)
    (hm : Covers 0x6000600000000000 μ := by exact .mono (by assumption)) : (s.dropContents nsid).Keeps μ s₀ := by
  unfold State.dropContents
  extract_lets +onlyGivenNames s1
  have h1 : s1.Keeps μ s₀ := h.foldl fun _ _ ht => ht.dropLine
  exact h1.of_eq

theorem lowerFixed {g y : Nat} (h : s.Keeps μ s₀) (hm : Covers 0x1000000000 μ := by exact .mono (by assumption)) : (s.lowerFixed g y).Keeps μ s₀ := by
  induction y generalizing s with
  | zero => exact h
  | succ y ih =>
    unfold State.lowerFixed
    extract_lets +onlyGivenNames x
    split
    · exact ih h.updGroup
    · exact h

theorem nsGone {nsid : Nat} {done : Option (Nat × Nat)} (h : s.Keeps μ s₀)
    (hm : Covers 0xc800000010001000000006060006bd000170486 μ := by exact .mono (by assumption)) : (s.nsGone nsid done).Keeps μ s₀ := by
  unfold State.nsGone
  split
  · exact h
  · extract_lets +onlyGivenNames s1 s2 s3
    have h1 : s1.Keeps μ s₀ := h.retire.abandonTree.dropContents
    have h2 : s2.Keeps μ s₀ := h1.of_eq
    extract_lets +onlyGivenNames s4
    have h4 : s4.Keeps μ s₀ := h2.updGroup.lowerFixed.ite h2
    exact h4.syncGroup.mirrorNote

theorem detach {nsid : Nat} {out : List Nat} (h : s.Keeps μ s₀)
    (hm : Covers 0x1ffffffffffff03000101d8000060f31630700c812486 μ := by exact .mono (by assumption)) : (s.detach nsid out).Keeps μ s₀ := by
  unfold State.detach
  extract_lets +onlyGivenNames s1 s2
  have h1 : s1.Keeps μ s₀ := h.updNs
  have h2 : s2.Keeps μ s₀ := h1.nsChanged
  exact h2.revokeWhere

theorem nsDelete {c : Cmd} (h : s.Keeps μ s₀)
    (hm : Covers 0x1ffffffffffff03000101f8002060f31eb0700c812486 μ := by exact .mono (by assumption)) : (s.nsDelete c).Keeps μ s₀ := by
  unfold State.nsDelete
  extract_lets +onlyGivenNames v nss
  split
  · exact h.finish
  · split
    · exact h.finish
    · extract_lets +onlyGivenNames s1
      have h1 : s1.Keeps μ s₀ := by
        unfold s1
        refine h.foldl fun a x ha => ?_
        extract_lets +onlyGivenNames who s2 s3
        have h2 : s2.Keeps μ s₀ := ha.updNs
        have h3 : s3.Keeps μ s₀ := h2.foldl fun _ _ ht => ht.discard
        exact h3.revokeWhere.detach.mirrorNs
      exact h1.of_eq

theorem nsAttach {c : Cmd} (h : s.Keeps μ s₀)
    (hm : Covers 0x1ffffffffffff03000101d8000060000000000c812402 μ := by exact .mono (by assumption)) : (s.nsAttach c).Keeps μ s₀ := by
  unfold State.nsAttach
  extract_lets +onlyGivenNames v
  split
  · exact h.finish
  · split
    · exact h.finish
    · split
      · exact h.finish
      · split
        · exact h.finish
        · split
          · exact h.finish
          · split
            · exact h.finish
            · extract_lets +onlyGivenNames s1
              have h1 : s1.Keeps μ s₀ := h.updNs.nsChanged
              exact h1.mirrorEffect.finish

theorem nsDetach {c : Cmd} (h : s.Keeps μ s₀)
    (hm : Covers 0x1ffffffffffff03000101d8002060f31630700c812486 μ := by exact .mono (by assumption)) : (s.nsDetach c).Keeps μ s₀ := by
  unfold State.nsDetach
  extract_lets +onlyGivenNames v
  split
  · exact h.finish
  · split
    · exact h.finish
    · split
      · exact h.finish
      · split
        · exact h.finish
        · split
          · exact h.finish
          · extract_lets +onlyGivenNames s1
            have h1 : s1.Keeps μ s₀ := h.detach.mirrorEffect
            exact h1.of_eq

theorem applyFormat {k : Namespace} {cmd lbaf pit : Nat} (h : s.Keeps μ s₀)
    (hm : Covers 0x1ffffffffffff03000101d800186160006bd00c812c86 μ := by exact .mono (by assumption)) :
    (s.applyFormat k cmd lbaf pit).Keeps μ s₀ := by
  unfold State.applyFormat
  dsimp -zeta only
  extract_lets +onlyGivenNames s1 s2
  have h1 : s1.Keeps μ s₀ := h.drawKey.abandonTree.dropContents.updNs
  have h2 : s2.Keeps μ s₀ := h1.zeroise
  exact h2.nsChanged.syncGroup.mirrorEffect

theorem nsFormat {c : Cmd} (h : s.Keeps μ s₀)
    (hm : Covers 0x1ffffffffffff03000101d800386160006bd00c812c86 μ := by exact .mono (by assumption)) : (s.nsFormat c).Keeps μ s₀ := by
  unfold State.nsFormat
  extract_lets +onlyGivenNames v
  split
  · exact h.finish
  · split
    · exact h.finish
    · extract_lets +onlyGivenNames lbaf pit others busy
      split
      · exact h.finish
      · split
        · exact h.finish
        · split
          · exact h.finish
          · split
            · exact h.finish
            · split
              · extract_lets +onlyGivenNames s1
                have h1 : s1.Keeps μ s₀ := h.applyFormat
                exact h1.of_eq
              · exact h.of_eq

theorem setWait {id : Nat} {w : Option AdminWait} (h : s.Keeps μ s₀)
    (hm : Covers 0x20000000000000000000 μ := by exact .mono (by assumption)) : (s.setWait id w).Keeps μ s₀ := h.of_eq

theorem runOp {c : Cmd} {y : NsOp} (h : s.Keeps μ s₀)
    (hm : Covers 0x1ffffffffffff03000101f8003861f31efbf00c852c86 μ := by exact .mono (by assumption)) : (s.runOp c y).Keeps μ s₀ := by
  unfold State.runOp
  split
  · exact h.nsCreate
  · exact h.nsDelete
  · exact h.nsAttach
  · exact h.nsDetach
  · exact h.nsFormat
  · split
    · exact h.refuseIo
    · exact h.resvRun

theorem adminGo {id : Nat} (h : s.Keeps μ s₀)
    (hm : Covers 0x1ffffffffffff03000101f8003861f31efbf00c972c86 μ := by exact .mono (by assumption)) : (s.adminGo id).Keeps μ s₀ := by
  unfold State.adminGo
  split
  · exact h
  · split
    · exact h.setWait.runOp.ite h
    · exact h.setWait
  · split
    · exact h.setWait.finish.ite h
    · exact h.setWait
  · split
    · exact h
    · split
      · exact h.foldl fun _ _ ht => ht.zeroise
      · exact (((h.foldl fun _ _ ht => ht.nsGone).setWait).finish).ite h
  · extract_lets +onlyGivenNames mine
    exact h.ite h.setWait.finish
  · exact h.ite h.setWait.finish
  · split
    · exact h.applyFormat.setWait.ite h
    · exact h.setWait
  · exact h.setWait.finish.ite h

theorem execNamespaceCreate {v : NvmeCmd} (h : s.Keeps μ s₀)
    (hm : Covers 0x1ffffffffffff03000101d8002861000000504c852c86 μ := by exact .mono (by assumption)) : Answers μ s₀ (execNamespaceCreate v s) := by
  unfold Machine.execNamespaceCreate
  exact (h.admin fun _ _ ht => ht.inTurn fun _ ht1 => ht1.nsCreate).next

theorem execNamespaceDelete {v : NvmeCmd} (h : s.Keeps μ s₀)
    (hm : Covers 0x1ffffffffffff03000101f8002061f31eb0704c812486 μ := by exact .mono (by assumption)) : Answers μ s₀ (execNamespaceDelete v s) := by
  unfold Machine.execNamespaceDelete
  exact (h.admin fun _ _ ht => ht.inTurn fun _ ht1 => ht1.nsDelete).next

theorem execNamespaceAttach {v : NvmeCmd} (h : s.Keeps μ s₀)
    (hm : Covers 0x1ffffffffffff03000101d8002061000000004c812486 μ := by exact .mono (by assumption)) : Answers μ s₀ (execNamespaceAttach v s) := by
  unfold Machine.execNamespaceAttach
  exact (h.admin fun _ _ ht => ht.inTurn fun _ ht1 => ht1.nsAttach).next

theorem execNamespaceDetach {v : NvmeCmd} (h : s.Keeps μ s₀)
    (hm : Covers 0x1ffffffffffff03000101d8002061f31630704c812486 μ := by exact .mono (by assumption)) : Answers μ s₀ (execNamespaceDetach v s) := by
  unfold Machine.execNamespaceDetach
  exact (h.admin fun _ _ ht => ht.inTurn fun _ ht1 => ht1.nsDetach).next

theorem execFormatNvm {v : NvmeCmd} (h : s.Keeps μ s₀)
    (hm : Covers 0x1ffffffffffff03000101d800386160006bd04c812c86 μ := by exact .mono (by assumption)) : Answers μ s₀ (execFormatNvm v s) := by
  unfold Machine.execFormatNvm
  exact (h.admin fun _ _ ht => ht.inTurn fun _ ht1 => ht1.nsFormat).next

theorem execDetachComplete {cmd : Nat} (h : s.Keeps μ s₀)
    (hm : Covers 0x1ffffffffffff03000101f8003861f31efbf00c972c86 μ := by exact .mono (by assumption)) :
    Answers μ s₀ (execDetachComplete cmd s) := h.adminGo.next

theorem execCommandCompletion {id : Nat} (h : s.Keeps μ s₀)
    (hm : Covers 0x1ffffffffffff03000101f8003861fb1efbf00c972c86 μ := by exact .mono (by assumption)) :
    Answers μ s₀ (execCommandCompletion id s) := by
  unfold Machine.execCommandCompletion
  exact (h.ite h.flushMet.adminGo.tryPost.winProgress).next

theorem execNamespaceSweep {nsid gen : Nat} (h : s.Keeps μ s₀)
    (hm : Covers 0x1ffffffffffff03000101d800006000009a700c812486 μ := by exact .mono (by assumption)) :
    Answers μ s₀ (execNamespaceSweep nsid gen s) := by
  unfold Machine.execNamespaceSweep
  refine State.Keeps.next ?_
  split
  · exact h
  · extract_lets +onlyGivenNames s1
    have h1 : s1.Keeps μ s₀ := h.of_eq
    exact h1.foldl fun _ _ ht => ht.liveBy.freeIfEmpty

theorem execRegionZeroFill {nsid region : Nat} (h : s.Keeps μ s₀)
    (hm : Covers 0x400200010000 μ := by exact .mono (by assumption)) : Answers μ s₀ (execRegionZeroFill nsid region s) := by
  unfold Machine.execRegionZeroFill
  refine State.Keeps.next ?_
  split
  · exact h
  · split
    · extract_lets +onlyGivenNames s1 s2
      have h1 : s1.Keeps μ s₀ := h.chargeTask
      have h2 : s2.Keeps μ s₀ := h1.updNs
      exact h2.of_eq
    · exact h

/-! ### Capsules -/

theorem after_ {o : Host.Outcome State Fault Refusal} (h : s.Keeps μ s₀) (ho : Answers μ s₀ o) : (after_ s o).Keeps μ s₀ := by
  obtain ⟨t, rfl, ht⟩ := ho
  exact ht

theorem propertySetRun {v : NvmeCmd} (h : s.Keeps μ s₀)
    (hm : Covers 0x1ffffffffffff03000101f8006061120eb0704d812486 μ := by exact .mono (by assumption)) : (s.propertySetRun v).Keeps μ s₀ := by
  unfold State.propertySetRun
  exact (h.after_ h.execPropertySetNssr).ite <| (h.after_ h.execPropertySetCcEnClear).ite <|
    (h.after_ h.execPropertySetCcShn).ite (h.after_ h.execPropertySet)

theorem featureRun {v : NvmeCmd} (h : s.Keeps μ s₀)
    (hm : Covers 0x1ffffffffffff03000101d8000061f31630704c812486 μ := by exact .mono (by assumption)) : (s.featureRun v).Keeps μ s₀ := by
  unfold State.featureRun
  split
  · exact h.after_ h.execSetFeaturesQosProfile
  · exact h.after_ h.execSetFeaturesQueueOrdering
  · exact (h.after_ h.execSetFeaturesWindowPublish).ite (h.after_ h.execSetFeaturesWindowRevoke)
  · exact h.after_ h.execSetFeatures
  · exact h.after_ h.execGetFeaturesQosProfile
  · exact h.after_ h.execGetFeaturesQueueOrdering
  · exact h.after_ h.execGetFeaturesWindow
  · exact h.after_ h.execGetFeatures

theorem logPageRun {v : NvmeCmd} (h : s.Keeps μ s₀)
    (hm : Covers 0x1ffffffffffff03000101d8000061000000004c812c86 μ := by exact .mono (by assumption)) : (s.logPageRun v).Keeps μ s₀ := by
  unfold State.logPageRun
  split
  · exact h.after_ h.execLogPageLostRanges
  · exact h.after_ h.execLogPageMetering
  · exact h.after_ h.execLogPageLayoutHealth
  · exact h.after_ h.execLogPageEventExcerpt
  · exact h.after_ h.execGetLogPage

theorem fabricsRun {cid : Nat} {v : NvmeCmd} (h : s.Keeps μ s₀)
    (hm : Covers 0x1ffffffffffff03000101f8006061120eb0704d81ac86 μ := by exact .mono (by assumption)) : (s.fabricsRun cid v).Keeps μ s₀ := by
  unfold State.fabricsRun
  split
  · exact h.propertySetRun
  · exact h.connect
  · exact h.after_ h.execPropertyGet
  · exact h.after_ h.execAuthenticationSend
  · exact h.after_ h.execAuthenticationReceive
  · exact h.after_ h.execUnsupportedOpcode

theorem execFirmwareImageDownload {v : NvmeCmd} (h : s.Keeps μ s₀)
    (hm : Covers 0x1ffffffffffff03000301d8000461000000004c812486 μ := by exact .mono (by assumption)) :
    Answers μ s₀ (execFirmwareImageDownload v s) := by
  unfold Machine.execFirmwareImageDownload
  refine State.Keeps.next ?_
  refine h.admin fun c1 t ht => ?_
  extract_lets +onlyGivenNames len ofs
  split
  · exact ht.finish
  · split
    · exact ht.finish
    · extract_lets +onlyGivenNames s1 s2 s3
      have h1 : s1.Keeps μ s₀ := ht.updLive
      have h2 : s2.Keeps μ s₀ := h1.of_eq.ite h1
      have h3 : s3.Keeps μ s₀ := h2.haulSend.send.ite h2
      exact h3.finish

theorem commitArrives {v : NvmeCmd} (h : s.Keeps μ s₀)
    (hm : Covers 0x1ffffffffffff03000101d8000061000000004c812486 μ := by exact .mono (by assumption)) : (s.commitArrives v).Keeps μ s₀ := by
  unfold State.commitArrives
  exact h.admin fun _ _ ht => ht.finish.ite (ht.finish.ite ht)

theorem badSel {v : NvmeCmd} (h : s.Keeps μ s₀)
    (hm : Covers 0x1ffffffffffff03000101d8000061000000004c812486 μ := by exact .mono (by assumption)) : (s.badSel v).Keeps μ s₀ := by
  unfold State.badSel
  exact h.admin fun _ _ ht => ht.finish

theorem adminRun {v : NvmeCmd} (h : s.Keeps μ s₀)
    (hm : Covers 0x1ffffffffffff03000301f8003c61f31efbf04c852c86 μ := by exact .mono (by assumption)) : (s.adminRun v).Keeps μ s₀ := by
  unfold State.adminRun
  extract_lets +onlyGivenNames sel
  split
  · exact h.logPageRun
  · exact h.after_ h.execIdentify
  · exact h.after_ h.execAbort
  · exact h.featureRun
  · exact h.featureRun
  · exact h.after_ h.execAsyncEventRequest
  · exact (h.after_ h.execNamespaceCreate).ite ((h.after_ h.execNamespaceDelete).ite h.badSel)
  · exact h.commitArrives
  · exact h.after_ h.execFirmwareImageDownload
  · exact (h.after_ h.execNamespaceAttach).ite ((h.after_ h.execNamespaceDetach).ite h.badSel)
  · exact h.after_ h.execKeepAlive
  · exact h.after_ h.execFormatNvm
  · exact h.after_ h.execUnsupportedOpcode

theorem commandRun {cid : Nat} {v : NvmeCmd} (h : s.Keeps μ s₀)
    (hm : Covers 0x1ffffffffffff03000301f8007c61f31efbf04d85ac86 μ := by exact .mono (by assumption)) : (s.commandRun cid v).Keeps μ s₀ := by
  unfold State.commandRun
  exact h.fabricsRun.ite (h.adminRun.ite (h.resvCmd.ite h.deliverIo))

theorem capsule {c : Conn} {ord : Bool} {msg cap len buf : Nat} (h : s.Keeps μ s₀)
    (hm : Covers 0x1ffffffffffff03000301f8007c61f31efbf04d85ac86 μ := by exact .mono (by assumption)) :
    (s.capsule c ord msg cap len buf).Keeps μ s₀ := by
  unfold State.capsule
  extract_lets +onlyGivenNames at_
  split
  · exact h.commandRun
  · extract_lets +onlyGivenNames v
    exact h.connect.ite h.connectAnswer

theorem placeBytes {cid msg key addr k v : Nat} (h : s.Keeps μ s₀)
    (hm : Covers 0x1ffffffffffff03000000000000011000000000000486 μ := by exact .mono (by assumption)) :
    (s.placeBytes cid msg key addr k v).1.Keeps μ s₀ := by
  unfold State.placeBytes
  split
  · exact h
  · extract_lets +onlyGivenNames spans has fresh
    split
    · exact h.bump.memNotice
    · extract_lets +onlyGivenNames put
      exact h.of_eq

/-! ### Switch core -/

theorem syncFwd (h : s.Keeps μ s₀)
    (hm : Covers 0x400000000001000000000000000000000000000486 μ := by exact .mono (by assumption)) : s.syncFwd.Keeps μ s₀ := by
  unfold State.syncFwd
  extract_lets +onlyGivenNames old on s1
  have h1 : s1.Keeps μ s₀ := ((h.wrB (f := F.SWC_STAT_HAUL_UP) (hm.writes .SWC_STAT_FORWARDING 0)).wrB (hm.writes .SWC_STAT_FORWARDING 0))
  exact h1.ite h1.raise

theorem groupDown {t : Nat} (h : s.Keeps μ s₀)
    (hm : Covers 0x1000000000000000000000000000486 μ := by exact .mono (by assumption)) : (s.groupDown t).Keeps μ s₀ := by
  unfold State.groupDown
  exact h.foldl fun _ _ ht => ht.raise.ite ht

theorem swcNotice {loc code data : Nat} (h : s.Keeps μ s₀)
    (hm : Covers 0x1000000010000000000000000000486 μ := by exact .mono (by assumption)) : (s.swcNotice loc code data).Keeps μ s₀ := by
  unfold State.swcNotice
  extract_lets +onlyGivenNames recent
  split
  · exact h
  · extract_lets +onlyGivenNames s1
    have h1 : s1.Keeps μ s₀ := h.of_eq
    exact h1.raise

theorem colour {p c len : Nat} (h : s.Keeps μ s₀)
    (hm : Covers 0x4000000000000000000000 μ := by exact .mono (by assumption)) : (s.colour p c len).2.Keeps μ s₀ := by
  unfold State.colour
  extract_lets +onlyGivenNames j pir
  split
  · exact h
  · dsimp -zeta only
    extract_lets +onlyGivenNames dt tc tp b cbs pbs
    exact h.of_eq

theorem redMarks {o c col q : Nat} (h : s.Keeps μ s₀)
    (hm : Covers 0x800 μ := by exact .mono (by assumption)) : (s.redMarks o c col q).2.Keeps μ s₀ := by
  unfold State.redMarks
  extract_lets +onlyGivenNames k mn mx
  split
  · exact h
  · split
    · exact h
    · dsimp -zeta only
      exact h.draw

theorem admitFrame {i c o need : Nat} (h : s.Keeps μ s₀)
    (hm : Covers 0x1ffffffffffff03000000010000000000000000000486 μ := by exact .mono (by assumption)) : (s.admitFrame i c o need).2.Keeps μ s₀ := by
  unfold State.admitFrame
  extract_lets +onlyGivenNames pe pi q
  split
  · exact h.bump
  · split
    · exact h
    · split
      · split
        · exact h
        · exact h.bump
      · split
        · exact h
        · exact h.bump.swcNotice

theorem enqueue {i c o col dst vid : Nat} {ip : Option IpHdr} {storage : Bool} {len hdr head : Nat} {cellOk : Bool} {ptp : Option PtpTx}
    (h : s.Keeps μ s₀) (hm : Covers 0x1ffffffffffff0300020003b400000000000000000cfe μ := by exact .mono (by assumption)) : (s.enqueue i c o col dst
        vid ip storage len hdr head cellOk ptp).2.Keeps μ s₀ := by
  unfold State.enqueue
  extract_lets +onlyGivenNames q
  split
  · rename_i t heq
    have ht : t.Keeps μ s₀ := h.admitFrame.of_snd heq
    exact ht
  · rename_i t heq
    have ht : t.Keeps μ s₀ := h.admitFrame.of_snd heq
    dsimp -zeta only
    extract_lets +onlyGivenNames ecn
    split
    · exact ht.redMarks.bump
    · split
      · exact ht.redMarks.bump.countRepair
      · extract_lets +onlyGivenNames ce s1 f s2
        have h1 : s1.Keeps μ s₀ := ht.redMarks.bump.ite ht.redMarks
        have h2 : s2.Keeps μ s₀ := h1.of_eq
        exact h2.syncCells.syncXoff.leaveLpi

theorem transitTarget {f : EthFrame} {vid : Nat} (h : s.Keeps μ s₀)
    (hm : Covers 0x1ffffffffffff03000000000000000000000000000002 μ := by exact .mono (by assumption)) : (s.transitTarget f vid).2.Keeps μ s₀ := by
  generalize hg : @State.transitTarget = g
  delta State.transitTarget at hg
  generalize hp : g s f vid = p
  subst hg
  beta_reduce at hp
  split at hp
  · subst hp; exact h.bump (f := F.SWC_FWD_MISS)
  · extract_lets +onlyGivenNames dest at hp
    clear_value dest
    split at hp
    · split at hp
      · subst hp; exact h
      · subst hp; exact h.bump (f := F.SWC_LINK_DROP)
    · subst hp; exact h.bump (f := F.SWC_LINK_DROP)

theorem classify {m vid : Nat} {f : EthFrame} (h : s.Keeps μ s₀)
    (hm : Covers 0x1ffffffffffff03000000010000000000000000000486 μ := by exact .mono (by assumption)) : (s.classify m vid f).2.Keeps μ s₀ := by
  unfold State.classify
  split
  · exact h.transitTarget
  · split
    · split
      · exact h
      · split
        · exact h
        · exact h.bump.swcNotice
    · exact h

theorem noteArrival {f : EthFrame} {mac vid cls : Nat} (h : s.Keeps μ s₀)
    (hm : Covers 0x40000000000000000000000 μ := by exact .mono (by assumption)) : (s.noteArrival f mac vid cls).Keeps μ s₀ := by
  unfold State.noteArrival
  extract_lets +onlyGivenNames sport
  exact h.of_eq

theorem dispatchFrame {t : Target} {i c col mac vid : Nat} {storage : Bool} {haulTo : Option Nat} {f : EthFrame} (h : s.Keeps μ s₀)
    (hm : Covers 0x1ffffffffffff0300030007b400000000000000000cfe μ := by exact .mono (by assumption)) :
    (s.dispatchFrame t i c col mac vid storage haulTo f).2.Keeps μ s₀ := by
  unfold State.dispatchFrame
  extract_lets +onlyGivenNames go
  have hgo : ∀ s o, s.Keeps μ s₀ → (go s o).2.Keeps μ s₀ := fun s o ht => ht.enqueue
  split
  · exact h
  · split
    · next heq => exact (hgo _ _ h).of_snd heq
    · next s1 heq =>
      have h1 : s1.Keeps μ s₀ := (hgo _ _ h).of_snd heq
      extract_lets +onlyGivenNames w s2 s3
      have h3 : s3.Keeps μ s₀ := (State.Keeps.syncCells h1.of_eq).syncXoff
      dsimp -zeta only
      split
      · refine State.Keeps.send ?_
        cases w with
        | none => exact h3.police
        | some x => exact h3.police.sampleSent
      · exact h3.police.bump.swcNotice
  · split
    · exact h.bump
    · split
      · next heq => exact (hgo _ _ h).of_snd heq
      · next s1 heq =>
        have h1 : s1.Keeps μ s₀ := (hgo _ _ h).of_snd heq
        extract_lets +onlyGivenNames w handle leave
        have hleave : ∀ t, t.Keeps μ s₀ → (leave t).Keeps μ s₀ := by
          intro t ht
          have hsync := (State.Keeps.syncCells (ht.of_eq (t := { t with swq := t.swq.dropLast }))).syncXoff (m := i)
          unfold leave
          cases w with
          | none => exact hsync
          | some x => exact hsync.sampleSent
        split
        · exact h1
        · split
          · have h2 := hleave _ h1
            exact (h2.bump.ite h2).haulSend.send
          · extract_lets +onlyGivenNames s2
            have h2 : s2.Keeps μ s₀ := h1.noteArrival
            split
            · exact h2
            · exact (hleave _ h2).send

theorem execEthFrameReceive {mac : Nat} {f : EthFrame} (h : s.Keeps μ s₀)
    (hm : Covers 0x1ffffffffffff0300030007f400000000000000000cfe μ := by exact .mono (by assumption)) :
    Answers μ s₀ (execEthFrameReceive mac f s) := by
  unfold Machine.execEthFrameReceive
  refine State.Keeps.next ?_
  split
  · exact h
  · extract_lets +onlyGivenNames s1
    have h1 : s1.Keeps μ s₀ := h.addStat.addStat
    split
    · exact h1.addStat
    · extract_lets +onlyGivenNames vid c s2 s3 transit storage haulTo
      have h2 : s2.Keeps μ s₀ := h1.addStat.addStat
      have h3 : s3.Keeps μ s₀ := h2.send.ite h2
      dsimp -zeta only
      extract_lets +onlyGivenNames s4
      have h4 : s4.Keeps μ s₀ := by
        unfold s4
        split
        · exact h3.colour.classify.dispatchFrame.bump
        · exact h3.colour.classify.dispatchFrame
      exact h4.sampleAt

theorem haulFrame {t : Target} {fromMac cls vid : Nat} {storage : Bool} {f : EthFrame} (h : s.Keeps μ s₀)
    (hm : Covers 0x1ffffffffffff0300030007f400000000000000000cfe μ := by exact .mono (by assumption)) :
    (s.haulFrame t fromMac cls vid storage f).Keeps μ s₀ := by
  unfold State.haulFrame
  dsimp -zeta only
  exact h.colour.dispatchFrame.sampleAt

theorem execHaulForwardFrame {fromMac cls : Nat} {toMac : Option Nat} {f : EthFrame} (h : s.Keeps μ s₀)
    (hm : Covers 0x1ffffffffffff0300030007f400000000000000000cfe μ := by exact .mono (by assumption)) :
    Answers μ s₀ (execHaulForwardFrame fromMac cls toMac f s) := by
  unfold Machine.execHaulForwardFrame
  refine State.Keeps.next ?_
  split
  · exact h
  · extract_lets +onlyGivenNames vid
    split
    · extract_lets +onlyGivenNames t s1
      have h1 : s1.Keeps μ s₀ := h.ite h.bump
      exact h1.haulFrame
    · split
      · exact h
      · split
        · exact h
        · exact h.haulFrame

theorem sendFrame {m : Nat} {f : SwFrame} (h : s.Keeps μ s₀)
    (hm : Covers 0x1ffffffffffff0300000002bc00000000000000000c86 μ := by exact .mono (by assumption)) : (s.sendFrame m f).Keeps μ s₀ := by
  unfold State.sendFrame
  extract_lets +onlyGivenNames s1 s2 s3 s4 s5 s6
  have h1 : s1.Keeps μ s₀ := h.of_eq
  have h2 : s2.Keeps μ s₀ := h1.syncCells.syncXoff
  have h3 : s3.Keeps μ s₀ := h2.addStat.addStat
  have h4 : s4.Keeps μ s₀ := h3.updMac
  have h5 : s5.Keeps μ s₀ := by
    unfold s5
    split
    · exact h4.stampTx
    · exact h4
  have h6 : s6.Keeps μ s₀ := h5.send
  exact h6.sampleSent

theorem transmitNext {m c : Nat} (h : s.Keeps μ s₀)
    (hm : Covers 0x1ffffffffffff0300000002bc00000000000000000c86 μ := by exact .mono (by assumption)) : (s.transmitNext m c).Keeps μ s₀ := by
  unfold State.transmitNext
  split
  · exact h
  · split
    · exact h.sendFrame
    · exact h

theorem originate {w : OwnFrame} {m c dst vid : Nat} (h : s.Keeps μ s₀)
    (hm : Covers 0x1ffffffffffff0300030003b400000000000000000cfe μ := by exact .mono (by assumption)) : (s.originate w m c dst vid).Keeps μ s₀ := by
  unfold State.originate
  extract_lets +onlyGivenNames up
  dsimp -zeta only
  extract_lets +onlyGivenNames s1
  have h1 : s1.Keeps μ s₀ := by
    unfold s1
    have hb : (if (!up) = true then (Fate.drop 8, s.bump F.SWC_LINK_DROP) else s.enqueue w.port c (if m < 32 then m else 36) 0 dst vid
        none (w.port != 37) w.len w.hdr w.head true w.ptp).2.Keeps μ s₀ := by
      split
      · exact h.bump
      · exact h.enqueue
    exact hb.of_eq
  extract_lets +onlyGivenNames s2
  have h2 : s2.Keeps μ s₀ := by
    unfold s2
    split
    · exact h1.syncCells.sampleSent.haulSend.send
    · split
      · exact h.bump
      · exact h.enqueue
  exact h2.sampleAt

theorem execEthFrameTransmit {mac cls : Nat} {own : Option OwnFrame} (h : s.Keeps μ s₀)
    (hm : Covers 0x1ffffffffffff0300030003bc00000000000000000cfe μ := by exact .mono (by assumption)) :
    Answers μ s₀ (execEthFrameTransmit mac cls own s) := by
  unfold Machine.execEthFrameTransmit
  refine State.Keeps.next ?_
  split
  · exact h.transmitNext
  · extract_lets +onlyGivenNames at_ m c dst vid s1
    have h1 : s1.Keeps μ s₀ := h.originate
    exact h1.transmitNext.ite h1

theorem execMacLinkUp {mac : Nat} {common eee : Bool} (h : s.Keeps μ s₀)
    (hm : Covers 0x1ffffffffffff03000000000400000000000000000486 μ := by exact .mono (by assumption)) :
    Answers μ s₀ (execMacLinkUp mac common eee s) := by
  unfold Machine.execMacLinkUp
  refine State.Keeps.next ?_
  extract_lets +onlyGivenNames b c2m
  split
  · exact h
  · extract_lets +onlyGivenNames s1 s2 s3
    have h1 : s1.Keeps μ s₀ := (h.setBit).setBit
    have h3 : s3.Keeps μ s₀ := h1.updMac
    extract_lets +onlyGivenNames s4
    have h4 : s4.Keeps μ s₀ := (h3.wrB).ite h3
    exact h4.raise

theorem linkDown {mac atPort : Nat} (h : s.Keeps μ s₀)
    (hm : Covers 0x1ffffffffffff03000000003400000000000000000486 μ := by exact .mono (by assumption)) : (s.linkDown mac atPort).Keeps μ s₀ := by
  unfold State.linkDown
  split
  · exact h
  · extract_lets +onlyGivenNames b n1 s1 s2 s3 s4 s5 s6
    have h1 : s1.Keeps μ s₀ := h.addStat.addStat
    have h2 : s2.Keeps μ s₀ := h1.bumpBy
    have h3 : s3.Keeps μ s₀ := (h2.setBit).setBit
    have h4 : s4.Keeps μ s₀ := h3.lpiAccrue
    have h5 : s5.Keeps μ s₀ := by
      unfold s5
      split
      · exact (h4.wr).wr
      · exact h4
    extract_lets +onlyGivenNames s7
    have h7 : s7.Keeps μ s₀ := h5.updMac
    exact h7.freeFrames.raise.groupDown

theorem execMacLinkDown {mac atPort : Nat} (h : s.Keeps μ s₀)
    (hm : Covers 0x1ffffffffffff03000000003400000000000000000486 μ := by exact .mono (by assumption)) :
    Answers μ s₀ (execMacLinkDown mac atPort s) := h.linkDown.next

theorem execPfcWatchdogDetect {mac cls atPort : Nat} (h : s.Keeps μ s₀)
    (hm : Covers 0x1ffffffffffff03000000003400000000000000000486 μ := by exact .mono (by assumption)) :
    Answers μ s₀ (execPfcWatchdogDetect mac cls atPort s) := by
  unfold Machine.execPfcWatchdogDetect
  refine State.Keeps.next ?_
  split
  · exact h
  · extract_lets +onlyGivenNames there s1 s2 until_ s3
    have h1 : s1.Keeps μ s₀ := h.addStat
    have h2 : s2.Keeps μ s₀ := h1.foldl fun _ _ ht => ht.of_eq.syncCells.syncXoff
    have h3 : s3.Keeps μ s₀ := h2.updMac
    exact h3.raise

theorem execLpiIdleExpiry {mac : Nat} (h : s.Keeps μ s₀)
    (hm : Covers 0x1ffffffffffff03000000000400000000000000000002 μ := by exact .mono (by assumption)) : Answers μ s₀ (execLpiIdleExpiry mac s) := by
  unfold Machine.execLpiIdleExpiry
  refine State.Keeps.next ?_
  extract_lets +onlyGivenNames b idle
  exact (h.updMac.wr).ite h

/-! ### Endpoint -/

theorem epEnsure {idx f : Nat} (h : s.Keeps μ s₀) (hm : Covers 0x800000 μ := by exact .mono (by assumption)) : (s.epEnsure idx f).Keeps μ s₀ := by
  unfold State.epEnsure
  split
  · exact h
  · extract_lets +onlyGivenNames k
    exact h.of_eq

theorem epRemove {f : Nat} (h : s.Keeps μ s₀) (hm : Covers 0x800000 μ := by exact .mono (by assumption)) : (s.epRemove f).Keeps μ s₀ := h.of_eq

theorem syncRelay (h : s.Keeps μ s₀)
    (hm : Covers 0x8000000000000000000000000000000000002 μ := by exact .mono (by assumption)) :
    s.syncRelay.Keeps μ s₀ := (h.wrB (hm.writes .EPT_STAT_RELAY 0))

theorem epResume {f : Nat} (h : s.Keeps μ s₀)
    (hm : Covers 0x1ffffffffffff03000001f80000000000000000800402 μ := by exact .mono (by assumption)) : (s.epResume f).Keeps μ s₀ := by
  unfold State.epResume
  extract_lets +onlyGivenNames s1
  have h1 : s1.Keeps μ s₀ := h.epFlush
  exact h1.epIssue.epFetchAll

theorem epResumeAll (h : s.Keeps μ s₀)
    (hm : Covers 0x1ffffffffffff03000005f80000000000000000800486 μ := by exact .mono (by assumption)) : s.epResumeAll.Keeps μ s₀ := by
  unfold State.epResumeAll
  exact h.syncEpQuar.foldl fun _ _ ht => ht.epResume

theorem execEpDoorbell {f qid : Nat} {cq : Bool} {val : Nat} (h : s.Keeps μ s₀)
    (hm : Covers 0x1ffffffffffff03000001d80000000000000000800402 μ := by exact .mono (by assumption)) :
    Answers μ s₀ (execEpDoorbell f qid cq val s) := by
  unfold Machine.execEpDoorbell
  refine State.Keeps.next ?_
  extract_lets +onlyGivenNames idx
  split
  · exact h
  · extract_lets +onlyGivenNames s1
    have h1 : s1.Keeps μ s₀ := h.epTlp
    split
    · exact h1
    · exact h1.ite (h1.updCtrl.epFlush.ite h1.updQueue.epFetchSq)

theorem epQueueOp {v : NvmeCmd} (h : s.Keeps μ s₀)
    (hm : Covers 0x1ffffffffffff03000101f8002060000eb0700c812486 μ := by exact .mono (by assumption)) : (s.epQueueOp v).2.Keeps μ s₀ := by
  unfold State.epQueueOp
  extract_lets +onlyGivenNames qid size
  split
  · exact h
  · extract_lets +onlyGivenNames has badId badSize new
    split
    · split
      · exact h
      · split
        · exact h
        · split
          · exact h
          · split
            · exact h
            · extract_lets +onlyGivenNames q
              exact h.updCtrl
    · split
      · exact h
      · split
        · exact h
        · split
          · exact h
          · split
            · exact h
            · extract_lets +onlyGivenNames q
              exact h.updCtrl
    · split
      · exact h
      · dsimp -zeta only
        exact h.applyReset.updCtrl
    · split
      · exact h
      · split
        · exact h
        · exact h.updCtrl

theorem queueCmd {v : NvmeCmd} (h : s.Keeps μ s₀)
    (hm : Covers 0x1ffffffffffff03000101f8002061000eb0704c812486 μ := by exact .mono (by assumption)) : (s.queueCmd v).Keeps μ s₀ := by
  unfold State.queueCmd
  refine h.admin fun c1 t ht => ?_
  split
  · exact ht.finish
  · dsimp -zeta only
    exact ht.epQueueOp.finish

theorem execCreateIoSq {v : NvmeCmd} (h : s.Keeps μ s₀)
    (hm : Covers 0x1ffffffffffff03000101f8002061000eb0704c812486 μ := by exact .mono (by assumption)) :
    Answers μ s₀ (execCreateIoSq v s) := h.queueCmd.next

theorem execCreateIoCq {v : NvmeCmd} (h : s.Keeps μ s₀)
    (hm : Covers 0x1ffffffffffff03000101f8002061000eb0704c812486 μ := by exact .mono (by assumption)) :
    Answers μ s₀ (execCreateIoCq v s) := h.queueCmd.next

theorem execDeleteIoSq {v : NvmeCmd} (h : s.Keeps μ s₀)
    (hm : Covers 0x1ffffffffffff03000101f8002061000eb0704c812486 μ := by exact .mono (by assumption)) :
    Answers μ s₀ (execDeleteIoSq v s) := h.queueCmd.next

theorem execDeleteIoCq {v : NvmeCmd} (h : s.Keeps μ s₀)
    (hm : Covers 0x1ffffffffffff03000101f8002061000eb0704c812486 μ := by exact .mono (by assumption)) :
    Answers μ s₀ (execDeleteIoCq v s) := h.queueCmd.next

theorem epRun {v : NvmeCmd} (h : s.Keeps μ s₀)
    (hm : Covers 0x1ffffffffffff03000303f8007c61f31efbf04d85ac86 μ := by exact .mono (by assumption)) : (s.epRun v).Keeps μ s₀ := by
  unfold State.epRun
  extract_lets +onlyGivenNames s1 s2 id s3
  have h1 : s1.Keeps μ s₀ := h.of_eq
  have h2 : s2.Keeps μ s₀ := h1.ite h1.of_eq.send
  have h3 : s3.Keeps μ s₀ := by
    unfold s3
    split
    · exact h2.queueCmd
    · exact (h2.admin fun _ _ ht => ht.finish).ite h2.commandRun
  split
  · exact h3.mirrorNote
  · exact h3

theorem epRelayOne {v : NvmeCmd} {entry : Nat} (h : s.Keeps μ s₀)
    (hm : Covers 0x1ffffffffffff03000101f8002060000eb0700c812486 μ := by exact .mono (by assumption)) : (s.epRelayOne v entry).Keeps μ s₀ := by
  unfold State.epRelayOne
  extract_lets +onlyGivenNames s1
  have h1 : s1.Keeps μ s₀ := h.haulSend.send.bump
  exact h1.epQueueOp.ite h1

theorem epFree {tag : Nat} (h : s.Keeps μ s₀)
    (hm : Covers 0x100000000000000000000000 μ := by exact .mono (by assumption)) : (s.epFree tag).Keeps μ s₀ := h.of_eq

theorem epDiscard {r : EpRead} (h : s.Keeps μ s₀)
    (hm : Covers 0x1ffffffffffff03000000300000000000000000000002 μ := by exact .mono (by assumption)) : (s.epDiscard r).Keeps μ s₀ := by
  unfold State.epDiscard
  extract_lets +onlyGivenNames s1
  have h1 : s1.Keeps μ s₀ := h.epFree.bump
  split
  · exact h1
  · exact h1.of_eq

theorem epNotice {loc code f : Nat} (h : s.Keeps μ s₀)
    (hm : Covers 0x1000000000000010000000000000486 μ := by exact .mono (by assumption)) : (s.epNotice loc code f).Keeps μ s₀ := h.raiseOnce

theorem epLate {r : EpRead} (h : s.Keeps μ s₀)
    (hm : Covers 0x1ffffffffffff03000005f80000010000000000800486 μ := by exact .mono (by assumption)) :
    (s.epLate r).Keeps μ s₀ := h.epFree.bump.epNotice.epResumeAll

theorem execEpSqeFetched {tag : Nat} {es : List EpEntry} (h : s.Keeps μ s₀)
    (hm : Covers 0x1ffffffffffff03000307f8007c61f31efbf04d85ac86 μ := by exact .mono (by assumption)) : Answers μ s₀ (execEpSqeFetched tag es s) := by
  unfold Machine.execEpSqeFetched
  refine State.Keeps.next ?_
  split
  · exact h
  · extract_lets +onlyGivenNames s1
    have h1 : s1.Keeps μ s₀ := h.epTlp
    split
    · exact h1.epLate
    · split
      · exact h1
      · split
        · exact h1.epDiscard
        · extract_lets +onlyGivenNames s2 s3 s4
          have h2 : s2.Keeps μ s₀ := h1.epFree.bumpBy
          have h3 : s3.Keeps μ s₀ := h2.updQueue
          have h4 : s4.Keeps μ s₀ := by
            unfold s4
            refine h3.foldl fun a x ha => ?_
            extract_lets +onlyGivenNames v
            exact ha.epRun.ite ha.epRelayOne
          exact h4.epFetchSq

theorem epFatal {f cause : Nat} (h : s.Keeps μ s₀)
    (hm : Covers 0x1000000000000000000000000800486 μ := by exact .mono (by assumption)) : (s.epFatal f cause).Keeps μ s₀ := by
  unfold State.epFatal
  extract_lets +onlyGivenNames s1
  have h1 : s1.Keeps μ s₀ := h.updCtrl
  exact h1.raise

theorem execEpReadCompletion {tag status data : Nat} (h : s.Keeps μ s₀)
    (hm : Covers 0x1ffffffffffff03000105f8000061000090700c812486 μ := by exact .mono (by assumption)) :
    Answers μ s₀ (execEpReadCompletion tag status data s) := by
  unfold Machine.execEpReadCompletion
  refine State.Keeps.next ?_
  split
  · exact h
  · extract_lets +onlyGivenNames s1 s2
    have h1 : s1.Keeps μ s₀ := h.epTlp
    have h2 : s2.Keeps μ s₀ := h1.bump.raise.ite h1
    split
    · exact h2.epLate
    · split
      · exact h2.epDiscard.epResumeAll
      · split
        · extract_lets +onlyGivenNames bitNo
          exact h2.epFree.updEpf.epFatal
        · split
          · exact h2
          · extract_lets +onlyGivenNames s3
            have h3 : s3.Keeps μ s₀ := h2.epFree
            split
            · exact h3.epResumeAll
            · extract_lets +onlyGivenNames got
              exact h3.epDropFetch.dataArrived.epResumeAll.ite h3.of_eq.epResumeAll

theorem execEpCompletionTimeout {tag ctoUs : Nat} (h : s.Keeps μ s₀)
    (hm : Covers 0x1ffffffffffff03000004f80000010000000000800486 μ := by exact .mono (by assumption)) :
    Answers μ s₀ (execEpCompletionTimeout tag ctoUs s) := by
  unfold Machine.execEpCompletionTimeout
  refine State.Keeps.next ?_
  split
  · exact h
  · split
    · exact h
    · extract_lets +onlyGivenNames s1 s2 s3 s4
      have h1 : s1.Keeps μ s₀ := h.bump.epNotice
      have h2 : s2.Keeps μ s₀ := h1.updEpf
      have h3 : s3.Keeps μ s₀ := h2.of_eq
      have h4 : s4.Keeps μ s₀ := h3.syncEpQuar
      split
      · exact h4.epFatal
      · split
        · split
          · exact h4
          · exact h4.of_eq
        · split
          · rename_i t heq
            have ht : t.Keeps μ s₀ := h4.epRead heq
            exact ht
          · split
            · exact h4
            · exact h4.of_eq

theorem execEpQuarantineExpiry {tag ctoUs : Nat} (h : s.Keeps μ s₀)
    (hm : Covers 0x1ffffffffffff03000005f80000000000000000800486 μ := by exact .mono (by assumption)) :
    Answers μ s₀ (execEpQuarantineExpiry tag ctoUs s) := by
  unfold Machine.execEpQuarantineExpiry
  refine State.Keeps.next ?_
  extract_lets +onlyGivenNames free
  exact h.epFree.epResumeAll.ite h

theorem execEpBmeWrite {f : Nat} {on : Bool} (h : s.Keeps μ s₀)
    (hm : Covers 0x1ffffffffffff03000001f80000000000000000800402 μ := by exact .mono (by assumption)) : Answers μ s₀ (execEpBmeWrite f on s) := by
  unfold Machine.execEpBmeWrite
  refine State.Keeps.next ?_
  split
  · exact h
  · extract_lets +onlyGivenNames s1
    have h1 : s1.Keeps μ s₀ := h.epTlp.updEpf
    exact h1.epResume.ite h1

theorem execEpPowerState {f : Nat} {d3 : Bool} (h : s.Keeps μ s₀)
    (hm : Covers 0x1ffffffffffff03000001f80000000000000000800402 μ := by exact .mono (by assumption)) : Answers μ s₀ (execEpPowerState f d3 s) := by
  unfold Machine.execEpPowerState
  refine State.Keeps.next ?_
  split
  · exact h
  · extract_lets +onlyGivenNames s1
    have h1 : s1.Keeps μ s₀ := h.epTlp.updEpf
    exact h1.ite h1.epResume

theorem execEpMsixUnmask {f vector : Nat} (h : s.Keeps μ s₀)
    (hm : Covers 0xc80000000000000000000400 μ := by exact .mono (by assumption)) : Answers μ s₀ (execEpMsixUnmask f vector s) := by
  unfold Machine.execEpMsixUnmask
  refine State.Keeps.next ?_
  split
  · exact h
  · extract_lets +onlyGivenNames s1 pending s2
    have h1 : s1.Keeps μ s₀ := h.epTlp
    have h2 : s2.Keeps μ s₀ := h1.updEpf
    exact h2.send.ite h2

theorem execEpL1Idle {aspm : Bool} (h : s.Keeps μ s₀)
    (hm : Covers 0x1ffffffffffff03000000800000000000000000000002 μ := by exact .mono (by assumption)) : Answers μ s₀ (execEpL1Idle aspm s) := by
  unfold Machine.execEpL1Idle
  refine State.Keeps.next ?_
  extract_lets +onlyGivenNames outstanding waits
  split
  · extract_lets +onlyGivenNames s1
    have h1 : s1.Keeps μ s₀ := h.bump
    exact h1.of_eq
  · exact h

theorem execEpLtrIdle (h : s.Keeps μ s₀)
    (hm : Covers 0x2000000000000000000000400 μ := by exact .mono (by assumption)) : Answers μ s₀ (execEpLtrIdle s) := by
  unfold Machine.execEpLtrIdle
  exact (h.of_eq.send.ite h).next

theorem execEpCcEnable {f cc aqa : Nat} (h : s.Keeps μ s₀)
    (hm : Covers 0xc00000000000000000800000 μ := by exact .mono (by assumption)) : Answers μ s₀ (execEpCcEnable f cc aqa s) := by
  unfold Machine.execEpCcEnable
  refine State.Keeps.next ?_
  split
  · exact h
  · extract_lets +onlyGivenNames idx s1
    have h1 : s1.Keeps μ s₀ := h.epEnsure.epTlp
    split
    · exact h1
    · split
      · exact h1
      · extract_lets +onlyGivenNames asq acq okay
        split
        · exact h1.updCtrl
        · extract_lets +onlyGivenNames sq cq
          extract_lets +onlyGivenNames cq1
          exact h1.updCtrl.syncReady

theorem execEpCcEnClear {f : Nat} (h : s.Keeps μ s₀)
    (hm : Covers 0x1ffffffffffff03000101f8002060120eb0700d812486 μ := by exact .mono (by assumption)) : Answers μ s₀ (execEpCcEnClear f s) := by
  unfold Machine.execEpCcEnClear
  exact (h.epTlp.resetCtrl.ite h).next

theorem execEpCcShnWrite {f shn : Nat} (h : s.Keeps μ s₀)
    (hm : Covers 0x1ffffffffffff03000101f8002060000eb0700c812486 μ := by exact .mono (by assumption)) : Answers μ s₀ (execEpCcShnWrite f shn s) := by
  unfold Machine.execEpCcShnWrite
  exact (h.epTlp.shutdownCtrl.ite h).next

theorem execEpNssrWrite {f val : Nat} (h : s.Keeps μ s₀)
    (hm : Covers 0x1ffffffffffff03000101f8006060120eb0700d812486 μ := by exact .mono (by assumption)) : Answers μ s₀ (execEpNssrWrite f val s) := by
  unfold Machine.execEpNssrWrite
  refine State.Keeps.next ?_
  extract_lets +onlyGivenNames idx
  exact h.epTlp.nssReset.ite h

theorem epReset {f : Nat} {link : Bool} (h : s.Keeps μ s₀)
    (hm : Covers 0x1ffffffffffff03000105f8002060120eb0700d812486 μ := by exact .mono (by assumption)) : (s.epReset f link).Keeps μ s₀ := by
  unfold State.epReset
  extract_lets +onlyGivenNames s1 s2 s3 s4
  have h1 : s1.Keeps μ s₀ := h.resetCtrl
  have h2 : s2.Keeps μ s₀ := h1.updCtrl
  have h4 : s4.Keeps μ s₀ := h2.updEpf
  extract_lets +onlyGivenNames s5
  have h5 : s5.Keeps μ s₀ := h4.of_eq
  exact h5.syncEpQuar

theorem epSetVf {num : Nat} {link : Bool} (h : s.Keeps μ s₀)
    (hm : Covers 0x1ffffffffffff03000105f8002060120eb0700d812486 μ := by exact .mono (by assumption)) : (s.epSetVf num link).Keeps μ s₀ := by
  unfold State.epSetVf
  extract_lets +onlyGivenNames old
  split
  · exact h
  · extract_lets +onlyGivenNames s1 s2 s3
    have h1 : s1.Keeps μ s₀ := h.foldl fun _ _ ht => ht.epReset.epRemove
    have h2 : s2.Keeps μ s₀ := h1.wr
    have h3 : s3.Keeps μ s₀ := h2.foldl fun _ _ ht => ht.epEnsure
    exact h3.raise

theorem execEpVfEnable {num : Nat} (h : s.Keeps μ s₀)
    (hm : Covers 0x1ffffffffffff03000105f8002060120eb0700d812486 μ := by exact .mono (by assumption)) : Answers μ s₀ (execEpVfEnable num s) := by
  unfold Machine.execEpVfEnable
  exact (h.ite h.epTlp.epSetVf).next

theorem execEpFlr {f : Nat} (h : s.Keeps μ s₀)
    (hm : Covers 0x1ffffffffffff03000105f8002060120eb0700d812486 μ := by exact .mono (by assumption)) : Answers μ s₀ (execEpFlr f s) := by
  unfold Machine.execEpFlr
  refine State.Keeps.next ?_
  split
  · exact h
  · extract_lets +onlyGivenNames s1 s2
    have h1 : s1.Keeps μ s₀ := h.epTlp.bump.raise
    have h2 : s2.Keeps μ s₀ := h1.epReset
    exact h2.epSetVf.ite h2

theorem epLinkReset (h : s.Keeps μ s₀)
    (hm : Covers 0x1ffffffffffff03000105f8002060120eb0700d812486 μ := by exact .mono (by assumption)) : s.epLinkReset.Keeps μ s₀ := by
  unfold State.epLinkReset
  extract_lets +onlyGivenNames s1 s2 s3
  have h1 : s1.Keeps μ s₀ := h.epReset.epSetVf
  have h2 : s2.Keeps μ s₀ := h1.of_eq
  have h3 : s3.Keeps μ s₀ := h2.wr.wr.wr.wr
  exact h3.syncEpQuar.syncRelay.bump.raise

theorem execEpLinkReset {kind : Nat} (h : s.Keeps μ s₀)
    (hm : Covers 0x1ffffffffffff03000105f8002060120eb0700d812486 μ := by exact .mono (by assumption)) : Answers μ s₀ (execEpLinkReset kind s) := by
  unfold Machine.execEpLinkReset
  exact (h.epLinkReset.ite h).next

theorem execEpLinkUp {speed width : Nat} (h : s.Keeps μ s₀)
    (hm : Covers 0x8000001000000c00000000000000000800486 μ := by exact .mono (by assumption)) : Answers μ s₀ (execEpLinkUp speed width s) := by
  unfold Machine.execEpLinkUp
  refine State.Keeps.next ?_
  split
  · exact h
  · extract_lets +onlyGivenNames best sp w s1 s2
    have h1 : s1.Keeps μ s₀ := ((((h.wr (f := F.EPT_STAT_LINK_UP) (hm.writes .EPT_STAT_RELAY 0)).wr (f := F.EPT_STAT_FROZEN) (hm.writes
        .EPT_STAT_RELAY 0)).wr (f := F.EPT_STAT_SPEED) (hm.writes .EPT_STAT_RELAY 0)).wr (f := F.EPT_STAT_WIDTH) (hm.writes .EPT_STAT_RELAY 0))
    have h2 : s2.Keeps μ s₀ := h1.epEnsure.epTlp.syncRelay.raise
    exact h2.raise.ite h2

/-! ### Bank images and reloads -/

theorem putSetting {e : SetEntry} (h : s.Keeps μ s₀)
    (hm : Covers 0x1ffffffffffff03000000000000000000000000000102 μ := by exact .mono (by assumption)) : (s.putSetting e).1.Keeps μ s₀ := by
  unfold State.putSetting
  split
  · next hd hk =>
    rw [State.settingKey, hd] at hk
    exact h.writeWord.ppsCfgChanged
  · exact h

theorem windowSettings {b : Nat} {img : BankImg} (h : s.Keeps μ s₀)
    (hm : Covers 0x1ffffffffffff03000000000000000000000000000102 μ := by exact .mono (by assumption)) : (s.windowSettings b img).Keeps μ s₀ := by
  unfold State.windowSettings
  extract_lets +onlyGivenNames s1 s2
  have h1 : s1.Keeps μ s₀ := h.wr
  have h2 : s2.Keeps μ s₀ := h1.foldl fun _ _ ht => ht.putSetting
  exact h2.wr

theorem halfUpFld_writable {K q : Nat} (hm : Covers K μ) (hK : K.testBit 1 = true ∧ K.testBit (Family.bit .HAL_PAIR_STAT_FENCE_HELD) = true := by
    decide) :
    Writable μ (halfUpFld q).key := by
  have hkey : (halfUpFld q).key = Family.key .HAL_PAIR_STAT_FENCE_HELD 0 0 := by
    unfold halfUpFld
    split
    · rfl
    · rfl
  rw [hkey]
  exact hm.writes _ _ _ hK

theorem halfOut {q : Nat} (h : s.Keeps μ s₀)
    (hm : Covers 0x4000e8000001000100000000000000000000000486 μ := by exact .mono (by assumption)) : (s.halfOut q).Keeps μ s₀ := by
  unfold State.halfOut
  extract_lets +onlyGivenNames kept s1 s2
  have h1 : s1.Keeps μ s₀ := h.wr (halfUpFld_writable hm)
  have h2 : s2.Keeps μ s₀ := (h1.updHalf.foldl fun _ _ ht => (ht.bump (hm.writes .HAL_RESEND 0)).haulSend).ite h1
  exact h2.syncFwd.syncRelay

theorem retrainHalves (h : s.Keeps μ s₀)
    (hm : Covers 0x4000e8000001000300000000000000000000000486 μ := by exact .mono (by assumption)) : s.retrainHalves.Keeps μ s₀ := by
  unfold State.retrainHalves
  split
  · exact h.updLive
  · exact h.updLive.halfOut

theorem loadSerdes {b : Nat} {img : BankImg} (h : s.Keeps μ s₀)
    (hm : Covers 0x1ffffffffffff03000301d8008061200ef1700c812486 μ := by exact .mono (by assumption)) : (s.loadSerdes b img).Keeps μ s₀ := by
  unfold State.loadSerdes
  extract_lets +onlyGivenNames runs
  split
  · exact h
  · extract_lets +onlyGivenNames s1
    have h1 : s1.Keeps μ s₀ := h.updLive
    split
    · exact h1.updLive.retrainHalves
    · split
      · exact h1.foldl fun _ _ ht => ht.linkOff.updPort.endCommands.ite ht
      · exact h1

theorem loadBench {b : Nat} {img : BankImg} (h : s.Keeps μ s₀)
    (hm : Covers 0x1ffffffffffff03000301d83c8061200ef1700c812586 μ := by exact .mono (by assumption)) : (s.loadBench b img).Keeps μ s₀ := by
  unfold State.loadBench
  extract_lets +onlyGivenNames s1 s2 s3 s4
  have h2 : s2.Keeps μ s₀ := h.windowSettings.wr
  have h4 : s4.Keeps μ s₀ := h2.updLive.loadSerdes
  exact (h4.foldl fun _ _ ht => ht.linkDown).loadMode.ite h4

theorem reloadSingleton {b : Nat} {act : Bool} (h : s.Keeps μ s₀)
    (hm : Covers 0x1ffffffffffff03000300000000000000000000000486 μ := by exact .mono (by assumption)) : (s.reloadSingleton b act).Keeps μ s₀ := by
  unfold State.reloadSingleton
  extract_lets +onlyGivenNames s1
  have h1 : s1.Keeps μ s₀ := h.updPair.wr.haulSend.send.ite h
  exact h1.startReload

theorem liveNext (h : s.Keeps μ s₀)
    (hm : Covers 0x1ffffffffffff03000300000000000000000000000486 μ := by exact .mono (by assumption)) : s.liveNext.Keeps μ s₀ := by
  unfold State.liveNext
  extract_lets +onlyGivenNames here
  split
  · exact h
  · split
    · exact h
    · dsimp -zeta only
      split
      · exact h.reloadSingleton
      · split
        · exact h.wr
        · split
          · exact h.wr.haulSend
          · split
            · exact h.wr.haulSend.send
            · exact h

theorem liveStart (h : s.Keeps μ s₀)
    (hm : Covers 0x1ffffffffffff030003000000000000000000000004c6 μ := by exact .mono (by assumption)) : s.liveStart.Keeps μ s₀ := by
  unfold State.liveStart
  split
  · exact h
  · extract_lets +onlyGivenNames plan s1 s2
    have h1 : s1.Keeps μ s₀ := h.updLive
    have h2 : s2.Keeps μ s₀ := h1.foldl fun _ _ ht => ht.updRot.liveClass.ite ht
    exact h2.liveNext

theorem abandonLive {reason : Nat} (h : s.Keeps μ s₀)
    (hm : Covers 0x1ffffffffffff03000301d8000060000000000c8124c6 μ := by exact .mono (by assumption)) : (s.abandonLive reason).Keeps μ s₀ := by
  unfold State.abandonLive
  split
  · exact h
  · extract_lets +onlyGivenNames back cmd s1 s2 s3 s4
    have h1 : s1.Keeps μ s₀ := h.wr.raise
    have h2 : s2.Keeps μ s₀ := h1.updLive
    have h3 : s3.Keeps μ s₀ := h2.wr
    have h4 : s4.Keeps μ s₀ := h3.foldl fun _ _ ht => ht.updRot.liveClass.payOwed
    clear_value cmd
    split
    · exact h4.finish.ite h4
    · exact h4

theorem reloadEnd {b : Nat} {ok : Bool} (h : s.Keeps μ s₀)
    (hm : Covers 0x1ffffffffffff03000301dabc8061200ef1700c812dfe μ := by exact .mono (by assumption)) : (s.reloadEnd b ok).Keeps μ s₀ := by
  unfold State.reloadEnd
  split
  · exact h
  · extract_lets +onlyGivenNames img keep s1 s2 s3 s4
    have h1 : s1.Keeps μ s₀ := h.updLive
    have h2 : s2.Keeps μ s₀ := h1.wr
    have h3 : s3.Keeps μ s₀ := by
      unfold s3
      clear_value img
      split
      · exact h2.loadBench.raise
      · exact h2
    have h4 : s4.Keeps μ s₀ := h3.updPair.wr.haulSend.send
    extract_lets +onlyGivenNames s5
    have h5 : s5.Keeps μ s₀ := by
      unfold s5
      split
      · exact (h3.setBenchState.ite h3).selftestEnd
      · exact h4.ite h4.faultBench
    exact h5.abandonLive.ite h5.liveNext

/-! ### Operator commands -/

theorem answer {d : ReplyTo} {tag command cc detail : Nat} {body : List Nat} (h : s.Keeps μ s₀)
    (hm : Covers 0x80004000000100000000000000000000000402 μ := by exact .mono (by assumption)) :
    (s.answer d tag command cc detail body).Keeps μ s₀ := by
  unfold State.answer
  exact h.haulSend.send.ite (h.chainSend.ite h.send)

theorem oweReply {d : ReplyTo} (h : s.Keeps μ s₀)
    (hm : Covers 0x400000000000000000000000000 μ := by exact .mono (by assumption)) : (s.oweReply d).Keeps μ s₀ := by
  unfold State.oweReply
  exact h.ite h.of_eq

theorem answerOwed {d : ReplyTo} {tag command cc detail : Nat} {body : List Nat} (h : s.Keeps μ s₀)
    (hm : Covers 0x80004000000500000000000000000000000402 μ := by exact .mono (by assumption)) :
    (s.answerOwed d tag command cc detail body).Keeps μ s₀ := by
  unfold State.answerOwed
  extract_lets +onlyGivenNames s1
  extract_lets +onlyGivenNames s2
  have h2 : s2.Keeps μ s₀ := h.ite h.of_eq
  exact h2.answer

theorem bindFunctions (h : s.Keeps μ s₀) (hm : Covers 0x800000 μ := by exact .mono (by assumption)) : s.bindFunctions.Keeps μ s₀ := h.of_eq

theorem putIdent {i : Ident} (h : s.Keeps μ s₀)
    (hm : Covers 0x1000000000000000000000000808486 μ := by exact .mono (by assumption)) : (s.putIdent i).Keeps μ s₀ := by
  unfold State.putIdent
  extract_lets +onlyGivenNames old i1
  exact h.of_eq.bindFunctions.raise

theorem deregister {i : Nat} (h : s.Keeps μ s₀)
    (hm : Covers 0x1ffffffffffff03000101f8002060f31eb0700d81a486 μ := by exact .mono (by assumption)) : (s.deregister i).Keeps μ s₀ := by
  unfold State.deregister
  extract_lets +onlyGivenNames s1 s2 s3
  have h1 : s1.Keeps μ s₀ := h.foldl fun _ _ ht => ht.resetCtrl
  have h2 : s2.Keeps μ s₀ := h1.foldl fun _ _ ht => ht.updNs.unregister
  have h3 : s3.Keeps μ s₀ := h2.revokeWhere
  exact h3.of_eq.bindFunctions.raise

theorem qosSet {scope id d : Nat} (h : s.Keeps μ s₀)
    (hm : Covers 0x810000 μ := by exact .mono (by assumption)) : (s.qosSet scope id d).Keeps μ s₀ := by
  unfold State.qosSet
  split
  · exact h.updNs
  · split
    · exact h.updQueue
    · exact h

theorem adminResult {command : Nat} {unwraps : Bool} {b : List Nat} (h : s.Keeps μ s₀)
    (hm : Covers 0x1ffffffffffff03000101f8002060f31eb0700d81a486 μ := by exact .mono (by assumption)) :
    (s.adminResult command unwraps b).1.Keeps μ s₀ := by
  unfold State.adminResult
  extract_lets +onlyGivenNames refuse index scope id d
  split
  · exact h
  · split
    · extract_lets +onlyGivenNames e
      split
      · exact h
      · exact h.putIdent
    · split
      · exact h
      · split
        · exact h.deregister
        · exact h
    · split
      · exact h
      · exact h
    · split
      · exact h
      · exact h.qosSet
    · split
      · exact h
      · exact h

theorem adminRequest {d : ReplyTo} {tag command : Nat} {unwraps : Bool} {body : List Nat} (h : s.Keeps μ s₀)
    (hm : Covers 0x1ffffffffffff03000501f8002060f31eb0700d81a486 μ := by exact .mono (by assumption)) :
    (s.adminRequest d tag command unwraps body).Keeps μ s₀ := by
  unfold State.adminRequest
  dsimp -zeta only
  extract_lets +onlyGivenNames change
  split
  · exact h.adminResult.mirror.oweReply
  · exact h.adminResult.mirrorAlso.answer.ite h.adminResult.answer

theorem adminByRole {d : ReplyTo} {tag command : Nat} {unwraps : Bool} {body : List Nat} (h : s.Keeps μ s₀)
    (hm : Covers 0x1ffffffffffff03000501f8002060f31eb0700d81a486 μ := by exact .mono (by assumption)) :
    (s.adminByRole d tag command unwraps body).Keeps μ s₀ := by
  unfold State.adminByRole
  extract_lets +onlyGivenNames r
  exact h.adminRequest.ite (h.haulSend.send.oweReply.ite h.answer)

/-! ### NRT -/

theorem nrtError {c : Conn} (h : s.Keeps μ s₀)
    (hm : Covers 0x1ffffffffffff03000101f8002060120eb0700d812486 μ := by exact .mono (by assumption)) : (s.nrtError c).Keeps μ s₀ := by
  unfold State.nrtError
  extract_lets +onlyGivenNames c1 s1
  have h1 : s1.Keeps μ s₀ := h.setConn.nrtBare.raiseX
  exact h1.connDown.setConn

theorem nrtAcked {c : Conn} {p : NrtPkt} {bm : List Nat} (h : s.Keeps μ s₀)
    (hm : Covers 0x1ffffffffffff03000101f8002061fa1eb0700d812486 μ := by exact .mono (by assumption)) : (s.nrtAcked c p bm).Keeps μ s₀ := by
  unfold State.nrtAcked
  dsimp -zeta only
  extract_lets +onlyGivenNames d d1
  split
  · split
    · exact h.nrtError
    · extract_lets +onlyGivenNames s1
      have h1 : s1.Keeps μ s₀ := h.resendAll.goOn.foldl fun _ _ ht => ht.settleMsg
      exact h1.readsAcked.winProgress
  · split
    · exact h.nrtError
    · extract_lets +onlyGivenNames s1
      have h1 : s1.Keeps μ s₀ := h.resendAll.goOn.foldl fun _ _ ht => ht.settleMsg
      exact h1.readsAcked.winProgress

theorem deliverMsg {cid buf : Nat} {r : Reasm} (h : s.Keeps μ s₀)
    (hm : Covers 0x1ffffffffffff03000301f8007c61ff1efbf1cd85ac86 μ := by exact .mono (by assumption)) : (s.deliverMsg cid r buf).Keeps μ s₀ := by
  unfold State.deliverMsg
  split
  · exact h
  · extract_lets +onlyGivenNames len data c settled
    split
    · extract_lets +onlyGivenNames id s1 body
      have h1 : s1.Keeps μ s₀ := h.setConn.capsule
      exact h1.mirror.ite h1.mirrorAlso
    · exact h.setConn.deliverWindow
    · exact h.setConn.deliverWindow
    · split
      · exact h.setConn.pieceArrived
      · exact h.setConn
    · exact h.setConn.deliverWindow.ite h.setConn.deliverWindow
    · exact h.setConn

theorem deliverReady {cid buf y : Nat} (h : s.Keeps μ s₀)
    (hm : Covers 0x1ffffffffffff03000301f8007c61ff1efbf1cd85ac86 μ := by exact .mono (by assumption)) : (s.deliverReady cid buf y).Keeps μ s₀ := by
  induction y generalizing s with
  | zero => exact h
  | succ y ih =>
    unfold State.deliverReady
    split
    · exact h
    · split
      · exact ih h.deliverMsg
      · exact h

theorem ackPolicy {cid path : Nat} {now_ : Bool} (h : s.Keeps μ s₀)
    (hm : Covers 0x100000000000000000000000000000000000000002402 μ := by exact .mono (by assumption)) : (s.ackPolicy cid path now_).Keeps μ s₀ := by
  unfold State.ackPolicy
  split
  · exact h
  · extract_lets +onlyGivenNames c
    exact h.sendAck.ite h.setConn

theorem settleAgain {c : Conn} {p : NrtPkt} (h : s.Keeps μ s₀)
    (hm : Covers 0x80000000000100000000600000000000002402 μ := by exact .mono (by assumption)) : (s.settleAgain c p).Keeps μ s₀ := by
  unfold State.settleAgain
  extract_lets +onlyGivenNames c1
  exact h.setConn.ite h.setConn.settleMsg

theorem nrtTake {c : Conn} {p : NrtPkt} (h : s.Keeps μ s₀)
    (hm : Covers 0x1ffffffffffff03000301f8007c61ff1efbf1cd85ac86 μ := by exact .mono (by assumption)) : (s.nrtTake c p).Keeps μ s₀ := by
  unfold State.nrtTake
  extract_lets +onlyGivenNames old
  split
  · exact h.settleAgain.ackPolicy
  · split
    · exact h.bumpX.raiseOnce
    · dsimp -zeta only
      split
      · split
        · exact h.placeBytes
        · extract_lets +onlyGivenNames r r1 c1 s1 s2
          have h1 : s1.Keeps μ s₀ := h.placeBytes.setConn.deliverReady
          have h2 : s2.Keeps μ s₀ := by
            unfold s2
            split
            · exact h1.setConn
            · exact h1
          exact h2.ackPolicy
      · split
        · exact h
        · extract_lets +onlyGivenNames r r1 c1 s1 s2
          have h1 : s1.Keeps μ s₀ := h.setConn.deliverReady
          have h2 : s2.Keeps μ s₀ := by
            unfold s2
            split
            · exact h1.setConn
            · exact h1
          exact h2.ackPolicy

theorem answerAgain {c : Conn} {p : NrtPkt} (h : s.Keeps μ s₀)
    (hm : Covers 0x1ffffffffffff03000101d8000061fe1630718c812486 μ := by exact .mono (by assumption)) : (s.answerAgain c p).Keeps μ s₀ := by
  unfold State.answerAgain
  split
  · exact h
  · split
    · exact h.deliverWindow.ite h
    · split
      · exact h.ite h.transmitAs
      · exact h.deliverWindow.ite h
    · exact h

theorem nrtDup {c : Conn} {p : NrtPkt} (h : s.Keeps μ s₀)
    (hm : Covers 0x1ffffffffffff03000101d8000061fe1630718c812486 μ := by exact .mono (by assumption)) :
    (s.nrtDup c p).Keeps μ s₀ := h.bumpX.sendAck.answerAgain

theorem nrtNoted {c : Conn} {p : NrtPkt} (h : s.Keeps μ s₀)
    (hm : Covers 0x1ffffffffffff03000000000000000000000000002486 μ := by exact .mono (by assumption)) : (s.nrtNoted c p).1.Keeps μ s₀ := by
  unfold State.nrtNoted
  extract_lets +onlyGivenNames s1
  have h1 : s1.Keeps μ s₀ := h.bumpX
  dsimp -zeta only
  refine State.Keeps.setConn ?_
  split
  · exact h1.sendSync.raiseX
  · exact h1.sendSync

theorem nrtAckedNow {cid : Nat} {p : NrtPkt} {bm : List Nat} (h : s.Keeps μ s₀)
    (hm : Covers 0x1ffffffffffff03000101f8002061fa1eb0700d812486 μ := by exact .mono (by assumption)) : (s.nrtAckedNow cid p bm).Keeps μ s₀ := by
  unfold State.nrtAckedNow
  split
  · exact h.nrtAcked.ite h
  · exact h

theorem ackNow {cid path : Nat} (h : s.Keeps μ s₀)
    (hm : Covers 0x100000000000000000000000000000000000000002402 μ := by exact .mono (by assumption)) : (s.ackNow cid path).Keeps μ s₀ := by
  unfold State.ackNow
  split
  · exact h.sendAck.ite h
  · exact h

theorem nrtData {c : Conn} {p : NrtPkt} (h : s.Keeps μ s₀)
    (hm : Covers 0x1ffffffffffff03000301f8007c61ff1efbf1cd85ac86 μ := by exact .mono (by assumption)) : (s.nrtData c p).Keeps μ s₀ := by
  generalize hg : @State.nrtData = g
  delta State.nrtData at hg
  subst hg
  beta_reduce
  split
  · exact h.nrtDup
  · dsimp -zeta only
    exact h.bumpX.nrtSend.setConn
  · exact h.bumpX.settleAgain.ackNow.answerAgain
  · exact h.bumpX
  · exact h.bumpX
  · exact h.keyFail
  · dsimp -zeta only
    split
    · extract_lets +onlyGivenNames s1
      have h1 : s1.Keeps μ s₀ := h.nrtNoted.nrtTake
      exact h1.nrtAckedNow.ite h1
    · exact h.nrtNoted

theorem nrtOn {c : Conn} {p : NrtPkt} (h : s.Keeps μ s₀)
    (hm : Covers 0x1ffffffffffff03000301f8007c61ff1efbf1cd85ec86 μ := by exact .mono (by assumption)) : (s.nrtOn c p).Keeps μ s₀ := by
  unfold State.nrtOn
  split
  · exact h.nrtData
  · dsimp -zeta only
    split
    · exact h.nrtNoted.connDown.nrtBare.freeConn.ite h.nrtNoted
    · split
      · exact h.nrtNoted.raiseX.freeConn.ite h.nrtNoted
      · extract_lets +onlyGivenNames s1 s2
        have h1 : s1.Keeps μ s₀ := by
          unfold s1
          refine State.Keeps.setConn ?_
          split
          · exact h.nrtNoted.restorePath
          · exact h.nrtNoted
        have h2 : s2.Keeps μ s₀ := h1.nrtAckedNow.ite (h1.nrtAckedNow.ite h1)
        exact h2.ackNow.ite h2

end Sys2Proof.Machine.State.Keeps
end

section
/-!
What each function and each command of the model keeps (part 5): the start, live service, the pair, the chain and reshape. A lemma has the name of
    the function it speaks of,
so that the lemmas compose as the functions do; its mask names the pieces that the function may change.
-/

namespace Sys2Proof.Machine.State.Keeps

-- One lemma at a time: elaborated side by side, so many of them wait for one another in more threads than there is memory for.
set_option Elab.async false

variable {s : State} {μ : Nat} {s₀ : State}

theorem nrtPacket {p : NrtPkt} (h : s.Keeps μ s₀)
    (hm : Covers 0x1ffffffffffff03000301f8007c61ff1efbf1cd85ec86 μ := by exact .mono (by assumption)) : (s.nrtPacket p).Keeps μ s₀ := by
  unfold State.nrtPacket
  extract_lets +onlyGivenNames r
  split
  · exact h
  · split
    · exact h.bump
    · split
      · exact h.bump
      · split
        · exact h.bump
        · exact ((h.bump).ite h.setConn).ite h.nrtOn

theorem execNrtDataPacket {p : NrtPkt} (h : s.Keeps μ s₀)
    (hm : Covers 0x1ffffffffffff03000301f8007c61ff1efbf1cd85ec86 μ := by exact .mono (by assumption)) :
    Answers μ s₀ (execNrtDataPacket p s) := h.nrtPacket.next

theorem execNrtAck {p : NrtPkt} (h : s.Keeps μ s₀)
    (hm : Covers 0x1ffffffffffff03000301f8007c61ff1efbf1cd85ec86 μ := by exact .mono (by assumption)) :
    Answers μ s₀ (execNrtAck p s) := h.nrtPacket.next

theorem execNrtClose {p : NrtPkt} (h : s.Keeps μ s₀)
    (hm : Covers 0x1ffffffffffff03000301f8007c61ff1efbf1cd85ec86 μ := by exact .mono (by assumption)) :
    Answers μ s₀ (execNrtClose p s) := h.nrtPacket.next

theorem execNrtClosed {p : NrtPkt} (h : s.Keeps μ s₀)
    (hm : Covers 0x1ffffffffffff03000301f8007c61ff1efbf1cd85ec86 μ := by exact .mono (by assumption)) :
    Answers μ s₀ (execNrtClosed p s) := h.nrtPacket.next

theorem execNrtProbe {p : NrtPkt} (h : s.Keeps μ s₀)
    (hm : Covers 0x1ffffffffffff03000301f8007c61ff1efbf1cd85ec86 μ := by exact .mono (by assumption)) :
    Answers μ s₀ (execNrtProbe p s) := h.nrtPacket.next

theorem sendAccept {c : Conn} {srcPort : Nat} (h : s.Keeps μ s₀)
    (hm : Covers 0x100000000000000000000000000000000000000000402 μ := by exact .mono (by assumption)) : (s.sendAccept c srcPort).Keeps μ s₀ := by
  unfold State.sendAccept
  extract_lets +onlyGivenNames r
  exact (h.send.bumpX (fun _ => hm.writes .XPT_TX_PKT _))

theorem sendRefuse {p : NrtPkt} {r : ConnectReq} {why : Nat} (h : s.Keeps μ s₀)
    (hm : Covers 0x100000000000000000000000000000000000000000402 μ := by exact .mono (by assumption)) : (s.sendRefuse p r why).Keeps μ s₀ := by
  unfold State.sendRefuse
  extract_lets +onlyGivenNames h1 x
  exact (h.send.bump (hm.writes .XPT_TX_PKT _))

theorem execNrtConnect {p : NrtPkt} (h : s.Keeps μ s₀)
    (hm : Covers 0x1ffffffffffff03000301f8007c61ff1efbf1cd85ec86 μ := by exact .mono (by assumption)) : Answers μ s₀ (execNrtConnect p s) := by
  unfold Machine.execNrtConnect
  refine State.Keeps.next ?_
  extract_lets +onlyGivenNames r mine
  split
  · exact h.nrtPacket
  · split
    · exact h
    · split
      · exact h.bump
      · split
        · exact h.bump
        · split
          · exact h.sendRefuse
          · extract_lets +onlyGivenNames s1
            have h1 : s1.Keeps μ s₀ := h.bump
            split
            · exact h1.sendAccept
            · split
              · exact h1.sendRefuse
              · split
                · exact h1.sendRefuse.raiseOnce
                · split
                  · exact h1.sendRefuse
                  · split
                    · exact h1.sendRefuse
                    · rename_i t heq
                      have ht : t.Keeps μ s₀ := h1.makeRoom heq
                      dsimp -zeta only
                      extract_lets +onlyGivenNames n1 c s2
                      extract_lets +onlyGivenNames s3
                      have h3 : s3.Keeps μ s₀ := by
                        unfold s3
                        have hb : (((t.draw FreeKind.unstated (2 ^ 32)).2.draw FreeKind.unstated (2 ^ 32)).2.draw FreeKind.unstated
                            4096).2.Keeps μ s₀ := ht.draw.draw.draw
                        exact hb.of_eq
                      exact h3.sendAccept.raiseCeiling

theorem execReassemblyTimeout {cid msgId : Nat} (h : s.Keeps μ s₀)
    (hm : Covers 0x140000000000001000000000000001000000000002486 μ := by exact .mono (by assumption)) :
    Answers μ s₀ (execReassemblyTimeout cid msgId s) := by
  unfold Machine.execReassemblyTimeout
  refine State.Keeps.next ?_
  split
  · exact h
  · split
    · exact h
    · split
      · exact h
      · extract_lets +onlyGivenNames c s1 s2
        have h2 : s2.Keeps μ s₀ := h.of_eq
        extract_lets +onlyGivenNames s3
        have h3 : s3.Keeps μ s₀ := (h2.setConn.bumpX (fun _ => hm.writes .XPT_REASM_DISCARD _)).raiseX
        exact h3.sendAck

theorem execAckDelayExpiry {cid : Nat} (h : s.Keeps μ s₀)
    (hm : Covers 0x100000000000000000000000000000000000000002402 μ := by exact .mono (by assumption)) : Answers μ s₀ (execAckDelayExpiry cid s) := by
  unfold Machine.execAckDelayExpiry
  refine State.Keeps.next ?_
  split
  · exact h.sendAck.ite h
  · exact h

theorem pathTimeout {c : Conn} {p : Nat} (h : s.Keeps μ s₀)
    (hm : Covers 0x1000000000000000000000000000486 μ := by exact .mono (by assumption)) : (s.pathTimeout c p).1.Keeps μ s₀ := by
  unfold State.pathTimeout
  extract_lets +onlyGivenNames x
  split
  · exact h.raiseX
  · exact h

theorem execRtoExpiry {cid : Nat} (h : s.Keeps μ s₀)
    (hm : Covers 0x1ffffffffffff03000101f8002060120eb0700d812486 μ := by exact .mono (by assumption)) : Answers μ s₀ (execRtoExpiry cid s) := by
  unfold Machine.execRtoExpiry
  refine State.Keeps.next ?_
  split
  · exact h
  · extract_lets +onlyGivenNames old orders
    split
    · exact h
    · extract_lets +onlyGivenNames s1
      have h1 : s1.Keeps μ s₀ := h.bumpX
      split
      · exact h1.nrtError
      · dsimp -zeta only
        extract_lets +onlyGivenNames c
        refine State.Keeps.setConn ?_
        refine State.Keeps.resendAll ?_
        refine State.Keeps.foldl_fst h1 fun q x hq => ?_
        exact hq.pathTimeout

theorem execPathProbeTimer {cid path : Nat} (h : s.Keeps μ s₀)
    (hm : Covers 0x100000000000000000000000000000000000000002402 μ := by exact .mono (by assumption)) :
    Answers μ s₀ (execPathProbeTimer cid path s) := by
  unfold Machine.execPathProbeTimer
  refine State.Keeps.next ?_
  split
  · split
    · dsimp -zeta only
      exact h.nrtSend.setConn
    · exact h
  · exact h

theorem execCreditProbeTimer {cid : Nat} (h : s.Keeps μ s₀)
    (hm : Covers 0x100000000000000000000000000000000000000002402 μ := by exact .mono (by assumption)) :
    Answers μ s₀ (execCreditProbeTimer cid s) := by
  unfold Machine.execCreditProbeTimer
  refine State.Keeps.next ?_
  split
  · split
    · dsimp -zeta only
      exact h.nrtSend.setConn
    · exact h
  · exact h

theorem execHalfOpenTimeout {cid : Nat} (h : s.Keeps μ s₀)
    (hm : Covers 0x80000000000100000000600000000000006402 μ := by exact .mono (by assumption)) : Answers μ s₀ (execHalfOpenTimeout cid s) := by
  unfold Machine.execHalfOpenTimeout
  refine State.Keeps.next ?_
  split
  · exact h.freeConn.ite h
  · exact h

theorem execErrorHoldExpiry {cid : Nat} (h : s.Keeps μ s₀)
    (hm : Covers 0x80000000000100000000600000000000006402 μ := by exact .mono (by assumption)) : Answers μ s₀ (execErrorHoldExpiry cid s) := by
  unfold Machine.execErrorHoldExpiry
  refine State.Keeps.next ?_
  split
  · exact h.freeConn.ite h
  · exact h

theorem execCloseRetryExpiry {cid : Nat} (h : s.Keeps μ s₀)
    (hm : Covers 0x100000080000001000100000000600000000000006486 μ := by exact .mono (by assumption)) :
    Answers μ s₀ (execCloseRetryExpiry cid s) := by
  unfold Machine.execCloseRetryExpiry
  refine State.Keeps.next ?_
  split
  · exact (h.raiseX.freeConn.ite h.nrtBare.setConn).ite h
  · exact h

theorem execSyncDeadline {cid : Nat} (h : s.Keeps μ s₀)
    (hm : Covers 0x100000000000000000000000000000000000000002402 μ := by exact .mono (by assumption)) : Answers μ s₀ (execSyncDeadline cid s) := by
  unfold Machine.execSyncDeadline
  refine State.Keeps.next ?_
  split
  · split
    · exact h
    · split
      · exact h.setConn
      · dsimp -zeta only
        exact h.sendSync.setConn
  · exact h

/-! ### RoCE -/

theorem roceError {c : Conn} (h : s.Keeps μ s₀)
    (hm : Covers 0x1ffffffffffff03000101f8002060120eb0700d812486 μ := by exact .mono (by assumption)) :
    (s.roceError c).Keeps μ s₀ := h.raiseX.connDown.closeConn

theorem cnpFor {c : Conn} {marked : Bool} (h : s.Keeps μ s₀)
    (hm : Covers 0x1ffffffffffff03000000000000000000000000000402 μ := by exact .mono (by assumption)) : (s.cnpFor c marked).1.Keeps μ s₀ := by
  unfold State.cnpFor
  extract_lets +onlyGivenNames quiet
  split
  · exact h.roceSend.bumpX
  · exact h

theorem roceReject {c : Conn} {psn kind : Nat} (h : s.Keeps μ s₀)
    (hm : Covers 0x1ffffffffffff03000101f8002060120eb0700d812486 μ := by exact .mono (by assumption)) :
    (s.roceReject c psn kind).Keeps μ s₀ := h.roceSend.roceError

theorem roceKeyNak {c : Conn} {psn key check kind addr len : Nat} (h : s.Keeps μ s₀)
    (hm : Covers 0x1ffffffffffff03000101f8002060120eb0700d812486 μ := by exact .mono (by assumption)) :
    (s.roceKeyNak c psn key check kind addr len).Keeps μ s₀ := by
  unfold State.roceKeyNak
  extract_lets +onlyGivenNames invalid
  exact h.keyFail.roceReject

theorem roceTakeSend {c : Conn} {p : RocePkt} (h : s.Keeps μ s₀)
    (hm : Covers 0x1ffffffffffff03000301f8007c61f31efbf04d85ac86 μ := by exact .mono (by assumption)) : (s.roceTakeSend c p).Keeps μ s₀ := by
  unfold State.roceTakeSend
  extract_lets +onlyGivenNames adv r ofs
  split
  · exact h.roceFlush
  · split
    · exact h.roceReject
    · extract_lets +onlyGivenNames s1 r1 rest
      have h1 : s1.Keeps μ s₀ := h.bumpX
      split
      · extract_lets +onlyGivenNames c1 s2 s3 id s4 body
        have h2 : s2.Keeps μ s₀ := h1.setConn
        have h3 : s3.Keeps μ s₀ := h2.ite h2.roceAnswer
        have h4 : s4.Keeps μ s₀ := h3.capsule
        exact h4.mirror.ite h4.mirrorAlso
      · exact h1.setConn

theorem roceTakeWrite {c : Conn} {p : RocePkt} (h : s.Keeps μ s₀)
    (hm : Covers 0x1ffffffffffff03000101f8002061fe1eb0718d812486 μ := by exact .mono (by assumption)) : (s.roceTakeWrite c p).Keeps μ s₀ := by
  unfold State.roceTakeWrite
  extract_lets +onlyGivenNames adv
  dsimp -zeta only
  split
  · exact h.roceKeyNak
  · extract_lets +onlyGivenNames ofs msg
    split
    · split
      · split
        · split
          · exact h.roceReject
          · split
            · split
              · exact h
              · extract_lets +onlyGivenNames s1 rest c1 s2
                have h1 : s1.Keeps μ s₀ := h.bumpX
                have h2 : s2.Keeps μ s₀ := h1.setConn
                exact h2.roceAnswer
            · split
              · exact h.placeBytes
              · extract_lets +onlyGivenNames s1 rest c1 s2
                have h1 : s1.Keeps μ s₀ := h.placeBytes.bumpX
                have h2 : s2.Keeps μ s₀ := h1.setConn
                exact h2.deliverWindow
        · split
          · exact h.roceReject
          · split
            · split
              · exact h
              · extract_lets +onlyGivenNames s1 rest c1 s2
                have h1 : s1.Keeps μ s₀ := h.bumpX
                have h2 : s2.Keeps μ s₀ := h1.setConn
                exact h2.roceAnswer
            · split
              · exact h.placeBytes
              · extract_lets +onlyGivenNames s1 rest c1 s2
                have h1 : s1.Keeps μ s₀ := h.placeBytes.bumpX
                have h2 : s2.Keeps μ s₀ := h1.setConn
                exact h2.deliverWindow
      · split
        · exact h.roceReject
        · split
          · split
            · exact h
            · extract_lets +onlyGivenNames s1 rest c1 s2
              have h1 : s1.Keeps μ s₀ := h.bumpX
              have h2 : s2.Keeps μ s₀ := h1.setConn
              exact h2.roceAnswer
          · split
            · exact h.placeBytes
            · extract_lets +onlyGivenNames s1 rest c1 s2
              have h1 : s1.Keeps μ s₀ := h.placeBytes.bumpX
              have h2 : s2.Keeps μ s₀ := h1.setConn
              exact h2.deliverWindow
    · split
      · split
        · exact h.roceReject
        · split
          · split
            · split
              · exact h
              · extract_lets +onlyGivenNames s1 rest r
                have h1 : s1.Keeps μ s₀ := h.bumpX
                exact h1.setConn
            · split
              · exact h.placeBytes
              · extract_lets +onlyGivenNames s1 rest r
                have h1 : s1.Keeps μ s₀ := h.placeBytes.bumpX
                exact h1.setConn
          · split
            · split
              · exact h
              · extract_lets +onlyGivenNames s1 rest r
                have h1 : s1.Keeps μ s₀ := h.bumpX
                exact h1.setConn
            · split
              · exact h.placeBytes
              · extract_lets +onlyGivenNames s1 rest r
                have h1 : s1.Keeps μ s₀ := h.placeBytes.bumpX
                exact h1.setConn
      · split
        · exact h.roceReject
        · split
          · split
            · exact h
            · extract_lets +onlyGivenNames s1 rest r
              have h1 : s1.Keeps μ s₀ := h.bumpX
              exact h1.setConn
          · split
            · exact h.placeBytes
            · extract_lets +onlyGivenNames s1 rest r
              have h1 : s1.Keeps μ s₀ := h.placeBytes.bumpX
              exact h1.setConn

theorem roceWindow {c : Conn} {kind : Nat} {p : RocePkt} (h : s.Keeps μ s₀)
    (hm : Covers 0x1ffffffffffff03000101d8000061fe1630718c812486 μ := by exact .mono (by assumption)) : (s.roceWindow c kind p).Keeps μ s₀ := by
  unfold State.roceWindow
  exact (h.roceAnswer.ite h.deliverWindow).ite h.deliverWindow

theorem roceTakeRead {c : Conn} {kind : Nat} {p : RocePkt} (h : s.Keeps μ s₀)
    (hm : Covers 0x1ffffffffffff03000101f8002061fe1eb0718d812486 μ := by exact .mono (by assumption)) : (s.roceTakeRead c kind p).Keeps μ s₀ := by
  unfold State.roceTakeRead
  extract_lets +onlyGivenNames k len
  split
  · exact h.roceReject
  · split
    · exact h.roceKeyNak
    · extract_lets +onlyGivenNames c1
      exact h.bumpX.setConn.roceWindow

theorem roceTake {c : Conn} {kind : Nat} {p : RocePkt} (h : s.Keeps μ s₀)
    (hm : Covers 0x1ffffffffffff03000301f8007c61ff1efbf1cd85ac86 μ := by exact .mono (by assumption)) : (s.roceTake c kind p).Keeps μ s₀ := by
  unfold State.roceTake
  split
  · exact h.roceReject
  · split
    · exact h.roceTakeSend
    · exact h.roceTakeWrite
    · exact h.roceTakeRead

theorem roceAckAgain {c : Conn} (h : s.Keeps μ s₀)
    (hm : Covers 0x100000000000000000000000000000000000000000402 μ := by exact .mono (by assumption)) : (s.roceAckAgain c).Keeps μ s₀ := h.roceSend

theorem roceDup {c : Conn} {kind : Nat} {p : RocePkt} (h : s.Keeps μ s₀)
    (hm : Covers 0x1ffffffffffff03000101f8002061fe1eb0718d812486 μ := by exact .mono (by assumption)) : (s.roceDup c kind p).Keeps μ s₀ := by
  unfold State.roceDup
  extract_lets +onlyGivenNames s1
  have h1 : s1.Keeps μ s₀ := h.bumpX
  split
  · exact h1.roceAckAgain
  · split
    · exact h1
    · split
      · split
        · exact h1.roceKeyNak
        · extract_lets +onlyGivenNames c1
          exact h1.setConn.roceWindow
      · split
        · exact h1.roceFlush
        · exact h1

theorem roceResponse {c : Conn} {p : RocePkt} (h : s.Keeps μ s₀)
    (hm : Covers 0x1ffffffffffff03000101d8000060000090700c812486 μ := by exact .mono (by assumption)) : (s.roceResponse c p).Keeps μ s₀ := by
  unfold State.roceResponse
  extract_lets +onlyGivenNames s1
  have h1 : s1.Keeps μ s₀ := h.bumpX
  split
  · exact h1
  · extract_lets +onlyGivenNames r
    split
    · exact h1
    · extract_lets +onlyGivenNames ofs r1 rest una
      split
      · extract_lets +onlyGivenNames c1
        exact h1.setConn.pieceArrived.rocePump
      · exact h1.setConn

theorem roceOn {c : Conn} {kind : Nat} {p : RocePkt} (h : s.Keeps μ s₀)
    (hm : Covers 0x1ffffffffffff03000301f8007c61ff1efbf1cd85ac86 μ := by exact .mono (by assumption)) : (s.roceOn c kind p).Keeps μ s₀ := by
  unfold State.roceOn
  split
  · exact h.roceResponse
  · extract_lets +onlyGivenNames d
    split
    · exact h.roceTake
    · exact (h.ite h.roceFlush).ite (h.roceDup.ite h.bumpX.roceAckAgain)

theorem goBack {c : Conn} {psn : Nat} (h : s.Keeps μ s₀)
    (hm : Covers 0x180000000000000000000000000000000000000002402 μ := by exact .mono (by assumption)) : (s.goBack c psn).Keeps μ s₀ := by
  unfold State.goBack
  extract_lets +onlyGivenNames again s1
  have h1 : s1.Keeps μ s₀ := h.foldl fun _ _ ht => ht.roceSend
  exact ((h1.bumpBy (hm.writes .XPT_RETX _))).setConn

theorem roceAcked {c : Conn} {psn : Nat} {credit : Option Nat} (h : s.Keeps μ s₀)
    (hm : Covers 0x1ffffffffffff03000101d8000061fa1630700c812486 μ := by exact .mono (by assumption)) : (s.roceAcked c psn credit).Keeps μ s₀ := by
  unfold State.roceAcked
  extract_lets +onlyGivenNames c1 c2
  exact h.bumpX.setConn.rocePump.readsAcked.winProgress

theorem roceAck {c : Conn} {psn : Nat} {a : Aeth} (h : s.Keeps μ s₀)
    (hm : Covers 0x1ffffffffffff03000101f8002061fa1eb0700d812486 μ := by exact .mono (by assumption)) : (s.roceAck c psn a).Keeps μ s₀ := by
  unfold State.roceAck
  split
  · exact h.roceAcked
  · exact h.roceError.ite h.setConn
  · exact h.roceError.ite h.goBack
  · exact h.roceError

theorem roceCut {c : Conn} (h : s.Keeps μ s₀)
    (hm : Covers 0x1ffffffffffff03000000000000000000000000002002 μ := by exact .mono (by assumption)) : (s.roceCut c).Keeps μ s₀ := by
  unfold State.roceCut
  extract_lets +onlyGivenNames a
  exact h.bumpX.bumpX.setConn

theorem roceDo {c : Conn} {x : RoceIn} (h : s.Keeps μ s₀)
    (hm : Covers 0x1ffffffffffff03000301f8007c61ff1efbf1cd85ac86 μ := by exact .mono (by assumption)) : (s.roceDo c x).Keeps μ s₀ := by
  unfold State.roceDo
  extract_lets +onlyGivenNames marked
  dsimp -zeta only
  extract_lets +onlyGivenNames s1
  have h1 : s1.Keeps μ s₀ := h.cnpFor.setConn
  split
  · exact h1
  · split
    · exact h1.roceOn
    · exact h1.roceAck
    · exact h1.roceAcked
    · exact h1.roceCut
    · split
      · extract_lets +onlyGivenNames c1
        exact h1.raiseX.setConn.rocePump
      · exact h1

theorem roceIn {qp : Nat} {x : RoceIn} (h : s.Keeps μ s₀)
    (hm : Covers 0x1ffffffffffff03000301f8007c61ff1efbf1cd85ac86 μ := by exact .mono (by assumption)) : (s.roceIn qp x).Keeps μ s₀ := by
  unfold State.roceIn
  extract_lets +onlyGivenNames r
  split
  · exact h
  · split
    · exact h.bump
    · exact ((h.bump).ite h.setConn).ite h.roceDo

theorem roceRx {kind : Nat} {p : RocePkt} (h : s.Keeps μ s₀)
    (hm : Covers 0x1ffffffffffff03000301f8007c61ff1efbf1cd85ac86 μ := by exact .mono (by assumption)) : (s.roceRx kind p).Keeps μ s₀ := by
  unfold State.roceRx
  extract_lets +onlyGivenNames r
  split
  · exact h
  · split
    · exact h.bump
    · exact (h.bump).ite h.roceIn

theorem execRoceSend {p : RocePkt} (h : s.Keeps μ s₀)
    (hm : Covers 0x1ffffffffffff03000301f8007c61ff1efbf1cd85ac86 μ := by exact .mono (by assumption)) :
    Answers μ s₀ (execRoceSend p s) := h.roceRx.next

theorem execRoceRdmaWrite {p : RocePkt} (h : s.Keeps μ s₀)
    (hm : Covers 0x1ffffffffffff03000301f8007c61ff1efbf1cd85ac86 μ := by exact .mono (by assumption)) :
    Answers μ s₀ (execRoceRdmaWrite p s) := h.roceRx.next

theorem execRoceRdmaReadRequest {p : RocePkt} (h : s.Keeps μ s₀)
    (hm : Covers 0x1ffffffffffff03000301f8007c61ff1efbf1cd85ac86 μ := by exact .mono (by assumption)) :
    Answers μ s₀ (execRoceRdmaReadRequest p s) := h.roceRx.next

theorem execRoceCompareSwap {p : RocePkt} (h : s.Keeps μ s₀)
    (hm : Covers 0x1ffffffffffff03000301f8007c61ff1efbf1cd85ac86 μ := by exact .mono (by assumption)) :
    Answers μ s₀ (execRoceCompareSwap p s) := h.roceRx.next

theorem execRoceFetchAdd {p : RocePkt} (h : s.Keeps μ s₀)
    (hm : Covers 0x1ffffffffffff03000301f8007c61ff1efbf1cd85ac86 μ := by exact .mono (by assumption)) :
    Answers μ s₀ (execRoceFetchAdd p s) := h.roceRx.next

theorem execRoceReadResponse {p : RocePkt} (h : s.Keeps μ s₀)
    (hm : Covers 0x1ffffffffffff03000301f8007c61ff1efbf1cd85ac86 μ := by exact .mono (by assumption)) :
    Answers μ s₀ (execRoceReadResponse p s) := h.roceRx.next

theorem execRoceAcknowledge {qp psn : Nat} {a : Aeth} {ce : Bool} (h : s.Keeps μ s₀)
    (hm : Covers 0x1ffffffffffff03000301f8007c61ff1efbf1cd85ac86 μ := by exact .mono (by assumption)) :
    Answers μ s₀ (execRoceAcknowledge qp psn a ce s) :=
  h.roceIn.next

theorem execRoceAtomicAcknowledge {qp psn original : Nat} {ce : Bool} (h : s.Keeps μ s₀)
    (hm : Covers 0x1ffffffffffff03000301f8007c61ff1efbf1cd85ac86 μ := by exact .mono (by assumption)) :
    Answers μ s₀ (execRoceAtomicAcknowledge qp psn original ce s) :=
  h.roceIn.next

theorem execRoceCnp {qp : Nat} (h : s.Keeps μ s₀)
    (hm : Covers 0x1ffffffffffff03000301f8007c61ff1efbf1cd85ac86 μ := by exact .mono (by assumption)) :
    Answers μ s₀ (execRoceCnp qp s) := h.roceIn.next

theorem execRoceRateTimer {qp : Nat} (h : s.Keeps μ s₀)
    (hm : Covers 0x100000000000000000000000000000000000000002402 μ := by exact .mono (by assumption)) : Answers μ s₀ (execRoceRateTimer qp s) := by
  unfold Machine.execRoceRateTimer
  refine State.Keeps.next ?_
  split
  · exact h
  · split
    · exact h.rocePump
    · extract_lets +onlyGivenNames c c1
      exact h.setConn.rocePump

theorem execRoceAckTimeout {qp : Nat} (h : s.Keeps μ s₀)
    (hm : Covers 0x1ffffffffffff03000101f8002060120eb0700d812486 μ := by exact .mono (by assumption)) : Answers μ s₀ (execRoceAckTimeout qp s) := by
  unfold Machine.execRoceAckTimeout
  refine State.Keeps.next ?_
  split
  · exact h
  · split
    · exact h
    · split
      · exact h
      · extract_lets +onlyGivenNames s1
        have h1 : s1.Keeps μ s₀ := h.bumpX
        exact h1.roceError.ite h1.goBack

theorem execRoceRnrTimer {qp : Nat} (h : s.Keeps μ s₀)
    (hm : Covers 0x180000000000000000000000000000000000000002402 μ := by exact .mono (by assumption)) : Answers μ s₀ (execRoceRnrTimer qp s) := by
  unfold Machine.execRoceRnrTimer
  refine State.Keeps.next ?_
  split
  · exact h
  · split
    · exact h
    · extract_lets +onlyGivenNames c s1
      have h1 : s1.Keeps μ s₀ := by
        unfold s1
        split
        · exact h.goBack
        · exact h.setConn
      exact h1.rocePump

theorem execCmReq {r : CmReq} (h : s.Keeps μ s₀) (hm : Covers 0x2c00 μ := by exact .mono (by assumption)) : Answers μ s₀ (execCmReq r s) := by
  unfold Machine.execCmReq
  refine State.Keeps.next ?_
  split
  · exact h
  · split
    · exact h.send
    · split
      · exact h.send
      · split
        · exact h.send
        · rename_i t heq
          have ht : t.Keeps μ s₀ := h.makeRoom heq
          dsimp -zeta only
          extract_lets +onlyGivenNames c c1
          extract_lets +onlyGivenNames c2
          refine State.Keeps.send ?_
          have hb : (t.draw FreeKind.unstated (2 ^ 24)).2.Keeps μ s₀ := ht.draw
          exact hb.of_eq

theorem execCmRtu {qp : Nat} (h : s.Keeps μ s₀)
    (hm : Covers 0x1ffffffffffff03000301f8007c61ff1efbf1cd85ac86 μ := by exact .mono (by assumption)) : Answers μ s₀ (execCmRtu qp s) := h.roceIn.next

theorem execCmDreq {qp : Nat} (h : s.Keeps μ s₀)
    (hm : Covers 0x1ffffffffffff03000101f8002060120eb0700d816486 μ := by exact .mono (by assumption)) : Answers μ s₀ (execCmDreq qp s) := by
  unfold Machine.execCmDreq
  refine State.Keeps.next ?_
  split
  · exact h.connDown.send.raiseX.freeConn
  · exact h

theorem execCmDrep {qp : Nat} (h : s.Keeps μ s₀)
    (hm : Covers 0x80000001000100000000600000000000006486 μ := by exact .mono (by assumption)) : Answers μ s₀ (execCmDrep qp s) := by
  unfold Machine.execCmDrep
  refine State.Keeps.next ?_
  split
  · exact h.raiseX.freeConn.ite h
  · exact h

theorem execCmRej {qp : Nat} (h : s.Keeps μ s₀)
    (hm : Covers 0x80000000000100000000600000000000006402 μ := by exact .mono (by assumption)) : Answers μ s₀ (execCmRej qp s) := by
  unfold Machine.execCmRej
  refine State.Keeps.next ?_
  split
  · exact h.freeConn.ite h
  · exact h

theorem execContextFetchDone {cid : Nat} (h : s.Keeps μ s₀)
    (hm : Covers 0x1ffffffffffff03000301f8007c61ff1efbf1cd85ec86 μ := by exact .mono (by assumption)) :
    Answers μ s₀ (execContextFetchDone cid s) := by
  unfold Machine.execContextFetchDone
  refine State.Keeps.next ?_
  split
  · exact h
  · split
    · exact h
    · split
      · exact h
      · rename_i t heq
        have ht : t.Keeps μ s₀ := h.makeRoom heq
        extract_lets +onlyGivenNames d
        dsimp -zeta only
        extract_lets +onlyGivenNames s1
        have h1 : s1.Keeps μ s₀ := by
          unfold s1
          refine State.Keeps.foldl ?_ fun a x ha => ?_
          · refine State.Keeps.setConn ?_
            split
            · exact ht.sendSync
            · exact ht
          · exact ha.nrtPacket
        exact h1.foldl fun _ _ ht1 => ht1.roceIn

/-! ### Pair and mirror -/

theorem noteStep {k : Nat} (h : s.Keeps μ s₀) (hk : k ≤ 16 := by decide)
    (hm : Covers 0x1ffffffffffff03000020000000000000000000000002 μ := by exact .mono (by assumption)) : (s.noteStep k).Keeps μ s₀ := by
  unfold State.noteStep
  extract_lets +onlyGivenNames us b s1 s2
  have h1 : s1.Keeps μ s₀ := h.of_eq
  have h2 : s2.Keeps μ s₀ := h1.wr
  exact h2.wr.ite h2

theorem takeStep15 (h : s.Keeps μ s₀)
    (hm : Covers 0x1ffffffffffff03000020000000000000000000800486 μ := by exact .mono (by assumption)) : s.takeStep15.Keeps μ s₀ := by
  unfold State.takeStep15
  have hw : (s.wr F.TIM_STAT_SERVING 1).Keeps μ s₀ := h.wr
  extract_lets +onlyGivenNames s1 s2 s3
  have h2 : s2.Keeps μ s₀ := hw.noteStep.raise
  have h3 : s3.Keeps μ s₀ := h2.send.ite h2
  exact h3.syncReady

theorem setGen {g : Nat} (h : s.Keeps μ s₀)
    (hm : Covers 0x1ffffffffffff03000000000000000000100000000002 μ := by exact .mono (by assumption)) : (s.setGen g).Keeps μ s₀ := by
  unfold State.setGen
  extract_lets +onlyGivenNames s1
  have h1 : s1.Keeps μ s₀ := h.wr64
  exact h1.of_eq

theorem setRole {r : Nat} (h : s.Keeps μ s₀)
    (hm : Covers 0x400028000001000000000000000000000010000486 μ := by exact .mono (by assumption)) : (s.setRole r).Keeps μ s₀ := by
  unfold State.setRole
  extract_lets +onlyGivenNames was s1
  have h1 : s1.Keeps μ s₀ := (h.wr (f := F.HAL_PAIR_STAT_ROLE) (hm.writes .HAL_PAIR_STAT_FENCE_HELD 0)).syncFwd.syncRelay
  exact h1.ite (h1.foldl fun _ _ ht => ht.syncLed)

theorem sendHello (h : s.Keeps μ s₀)
    (hm : Covers 0x80000000000100000000000000000000000402 μ := by exact .mono (by assumption)) : s.sendHello.Keeps μ s₀ := h.haulSend.send

theorem enterPaired {r : Nat} (h : s.Keeps μ s₀)
    (hm : Covers 0x400028000001000000000000000000000010000486 μ := by exact .mono (by assumption)) :
    (s.enterPaired r).Keeps μ s₀ := (h.setRole.wr (f := F.HAL_PAIR_STAT_PAIRED) (hm.writes .HAL_PAIR_STAT_FENCE_HELD 0)).raise

theorem enterHeld {reason : Nat} (h : s.Keeps μ s₀)
    (hm : Covers 0x400028000001000000000000000000000010000486 μ := by exact .mono (by assumption)) :
    (s.enterHeld reason).Keeps μ s₀ := (h.setRole.wr (f := F.HAL_PAIR_STAT_PAIRED) (hm.writes .HAL_PAIR_STAT_FENCE_HELD 0)).raise

theorem mirrored {w : MirrorWhat} (h : s.Keeps μ s₀)
    (hm : Covers 0x1ffffffffffff03000501d8000061fb16f3f00c812486 μ := by exact .mono (by assumption)) : (s.mirrored w).Keeps μ s₀ := by
  unfold State.mirrored
  split
  · split
    · exact h.post.ite h
    · exact h
  · exact h.transmitAs
  · split
    · split
      · exact h.setConn
      · exact h.roceAnswer
    · exact h
  · exact h.updOp.stepOp.winProgress
  · exact h.replyAtomic.retireOp
  · split
    · exact h.revokeNow
    · split
      · extract_lets +onlyGivenNames s1
        have h1 : s1.Keeps μ s₀ := h.updWindow
        split
        · exact h1.finish
        · exact h1
      · exact h
  · split
    · exact h.goOn
    · exact h
  · split
    · exact h.goOn
    · exact h
  · split
    · exact h.ite h.recDurable
    · exact h
  · exact h.answerOwed
  · exact h

theorem mackUpTo {m : Nat} (h : s.Keeps μ s₀)
    (hm : Covers 0x1ffffffffffff03000501d8000061fb16f3f00c812486 μ := by exact .mono (by assumption)) : (s.mackUpTo m).Keeps μ s₀ := by
  unfold State.mackUpTo
  extract_lets +onlyGivenNames done s1
  have h1 : s1.Keeps μ s₀ := h.of_eq
  exact (h1.foldl fun _ _ ht => ht.mirrored).syncCmds

theorem gapFrames (h : s.Keeps μ s₀)
    (hm : Covers 0x1ffffffffffff0300000002b400000000000000000c02 μ := by exact .mono (by assumption)) : s.gapFrames.Keeps μ s₀ := by
  unfold State.gapFrames
  exact h.foldl fun _ _ ht => ht.ite ht.releaseFrames

theorem unpair (h : s.Keeps μ s₀)
    (hm : Covers 0x1ffffffffffff03000501dab40061fb16f3f00c812c86 μ := by exact .mono (by assumption)) : s.unpair.Keeps μ s₀ := by
  unfold State.unpair
  extract_lets +onlyGivenNames s1 s2 s3
  have h1 : s1.Keeps μ s₀ := h.wr
  have h2 : s2.Keeps μ s₀ := h1.mackUpTo
  have h3 : s3.Keeps μ s₀ := h2.updPair.gapFrames
  exact h3.flushAll.syncCache

theorem enterLone {cause : Nat} (h : s.Keeps μ s₀)
    (hm : Covers 0x1ffffffffffff03000501dab40061fb16f3f01c812c86 μ := by exact .mono (by assumption)) : (s.enterLone cause).Keeps μ s₀ := by
  unfold State.enterLone
  extract_lets +onlyGivenNames old s1 s2
  have h1 : s1.Keeps μ s₀ := h.setGen.setRole
  have h2 : s2.Keeps μ s₀ := h1.bump.ite h1
  exact h2.raise.unpair

theorem dropPeerEndpoint (h : s.Keeps μ s₀)
    (hm : Covers 0x1ffffffffffff03000101f8002060000eb0700c812486 μ := by exact .mono (by assumption)) : s.dropPeerEndpoint.Keeps μ s₀ := by
  unfold State.dropPeerEndpoint
  extract_lets +onlyGivenNames top
  exact h.foldl fun _ _ ht => ht.applyReset.updCtrl

theorem fence {failed : Bool} (h : s.Keeps μ s₀)
    (hm : Covers 0x20000001000100000000000000000000000486 μ := by exact .mono (by assumption)) : (s.fence failed).Keeps μ s₀ := by
  unfold State.fence
  split
  · exact h
  · extract_lets +onlyGivenNames held s1
    have h1 : s1.Keeps μ s₀ := ((h.wr (f := F.HAL_PAIR_STAT_FENCING) (hm.writes .HAL_PAIR_STAT_FENCE_HELD 0)).wrB (hm.writes
        .HAL_PAIR_STAT_FENCE_HELD 0))
    exact h1.updPair.raise

theorem releaseFence (h : s.Keeps μ s₀)
    (hm : Covers 0x20000001000100000000000000000000000486 μ := by exact .mono (by assumption)) : s.releaseFence.Keeps μ s₀ := by
  unfold State.releaseFence
  extract_lets +onlyGivenNames s1
  have h1 : s1.Keeps μ s₀ := ((h.wr (f := F.HAL_PAIR_STAT_FENCING) (hm.writes .HAL_PAIR_STAT_FENCE_HELD 0)).wr (hm.writes .HAL_PAIR_STAT_FENCE_HELD
      0))
  exact h1.updPair.raise

theorem execFenceHoldExpiry (h : s.Keeps μ s₀)
    (hm : Covers 0x20000001000100000000000000000000000486 μ := by exact .mono (by assumption)) : Answers μ s₀ (execFenceHoldExpiry s) := by
  unfold Machine.execFenceHoldExpiry
  refine State.Keeps.next ?_
  split
  · exact h.releaseFence.ite h
  · exact h

theorem unfence (h : s.Keeps μ s₀)
    (hm : Covers 0x20000001000100000000000000000000000486 μ := by exact .mono (by assumption)) : s.unfence.Keeps μ s₀ := by
  unfold State.unfence
  exact h.releaseFence.ite h

theorem execHalUnfenceCmd (h : s.Keeps μ s₀)
    (hm : Covers 0x20000001000300000000000000000000000486 μ := by exact .mono (by assumption)) : Answers μ s₀ (execHalUnfenceCmd s) := by
  unfold Machine.execHalUnfenceCmd
  exact (h.atWindow fun _ ht => ht.unfence).next

theorem goAlone {atOnce : Bool} (h : s.Keeps μ s₀)
    (hm : Covers 0x20000001000100000000000000000000000486 μ := by exact .mono (by assumption)) : (s.goAlone atOnce).Keeps μ s₀ := by
  unfold State.goAlone
  extract_lets +onlyGivenNames s1
  have h1 : s1.Keeps μ s₀ := h.updPair
  exact h1.fence.ite h1.updPair

theorem execFenceStartDelayExpiry (h : s.Keeps μ s₀)
    (hm : Covers 0x20000001000100000000000000000000000486 μ := by exact .mono (by assumption)) : Answers μ s₀ (execFenceStartDelayExpiry s) := by
  unfold Machine.execFenceStartDelayExpiry
  exact (h.updPair.fence.ite h).next

theorem execPairWaitExpiry (h : s.Keeps μ s₀)
    (hm : Covers 0x20000001000100000000000000000000000486 μ := by exact .mono (by assumption)) : Answers μ s₀ (execPairWaitExpiry s) := by
  unfold Machine.execPairWaitExpiry
  refine State.Keeps.next ?_
  extract_lets +onlyGivenNames due
  exact h.ite (h.goAlone.ite (h.goAlone.ite h))

theorem resyncConn {c : Conn} (h : s.Keeps μ s₀)
    (hm : Covers 0x180000000000000000000000000000000000000002402 μ := by exact .mono (by assumption)) : (s.resyncConn c).Keeps μ s₀ := by
  unfold State.resyncConn
  split
  · exact h.ite h.setConn
  · extract_lets +onlyGivenNames c1
    split
    · exact h.goBack
    · exact h.setConn

theorem runAgain {c : Cmd} (h : s.Keeps μ s₀)
    (hm : Covers 0x1ffffffffffff03000303f8007c61f31efbf04d85ac86 μ := by exact .mono (by assumption)) : (s.runAgain c).Keeps μ s₀ := by
  unfold State.runAgain
  extract_lets +onlyGivenNames s1 s2
  have h1 : s1.Keeps μ s₀ := h.of_eq
  have h2 : s2.Keeps μ s₀ := h1.updCtrl
  split
  · exact h2.epRun
  · split
    · exact h2.commandRun
    · exact h2

theorem recover {id : Nat} (h : s.Keeps μ s₀)
    (hm : Covers 0x1ffffffffffff03000303f8007c61f31efbf04d85ac86 μ := by exact .mono (by assumption)) : (s.recover id).Keeps μ s₀ := by
  unfold State.recover
  split
  · exact h
  · extract_lets +onlyGivenNames redo
    split
    · exact h.of_eq.ite (h.post.ite h.tryPost)
    · split
      · exact h.runAgain
      · split
        · exact h
        · split
          · exact h.updCmd
          · extract_lets +onlyGivenNames s1 c
            have h1 : s1.Keeps μ s₀ := h.of_eq
            exact h1.updCmd.beginCmd

theorem serveMirrored (h : s.Keeps μ s₀)
    (hm : Covers 0x1ffffffffffff03000303f8007c61fb1efbf04d85ac86 μ := by exact .mono (by assumption)) : s.serveMirrored.Keeps μ s₀ := by
  unfold State.serveMirrored
  extract_lets +onlyGivenNames s1 s2 s3 s4 s5
  have h1 : s1.Keeps μ s₀ := h.of_eq
  have h2 : s2.Keeps μ s₀ := h1.foldl fun _ _ ht => ht.recover
  have h3 : s3.Keeps μ s₀ := h2.foldl fun _ _ ht => ht.freeIfEmpty
  have h4 : s4.Keeps μ s₀ := h3.winProgress
  have h5 : s5.Keeps μ s₀ := by
    unfold s5
    refine h4.foldl fun a x ha => ?_
    split
    · exact ha.goOn
    · exact ha
  exact h5.syncReady.syncCmds

theorem redoAll (h : s.Keeps μ s₀)
    (hm : Covers 0x1ffffffffffff03000000000000002006f00004010402 μ := by exact .mono (by assumption)) : s.redoAll.Keeps μ s₀ := by
  unfold State.redoAll
  extract_lets +onlyGivenNames s1
  have h1 : s1.Keeps μ s₀ := h.of_eq
  exact h1.redoInOrder

theorem failOver (h : s.Keeps μ s₀)
    (hm : Covers 0x1ffffffffffff03000703fab47ce1fb1efbf05d85ac86 μ := by exact .mono (by assumption)) : s.failOver.Keeps μ s₀ := by
  unfold State.failOver
  extract_lets +onlyGivenNames s1 s2 s3 s4
  have h1 : s1.Keeps μ s₀ := h.fence.enterLone.dropPeerEndpoint
  have h2 : s2.Keeps μ s₀ := h1.updPair
  have h3 : s3.Keeps μ s₀ := h2.of_eq
  have h4 : s4.Keeps μ s₀ := h3.foldl fun _ _ ht => ht.resyncConn
  exact h4.redoAll.serveMirrored

theorem dropMirrored (h : s.Keeps μ s₀) (hm : Covers 0x7300000004002000 μ := by exact .mono (by assumption)) : s.dropMirrored.Keeps μ s₀ := h.of_eq

theorem setTru {x : Tru} (h : s.Keeps μ s₀)
    (hm : Covers 0x40000000000000000000000000 μ := by exact .mono (by assumption)) : { s with tru := x }.Keeps μ s₀ := h.of_eq

theorem partnerFailed {cause : Nat} (h : s.Keeps μ s₀)
    (hm : Covers 0x1ffffffffffff03000743fab47ce1fb1efbf05d85acc6 μ := by exact .mono (by assumption)) : (s.partnerFailed cause).Keeps μ s₀ := by
  unfold State.partnerFailed
  extract_lets +onlyGivenNames s1 s2 s3 tr s4 s5 r
  have h3 : s3.Keeps μ s₀ := h.raise.wr.wr.wr.updPair.wr.haulZero
  have h4 : s4.Keeps μ s₀ := h3.setTru
  have h5 : s5.Keeps μ s₀ := h4.abandonLive.syncFwd
  split
  · exact h5.fence.enterLone.dropPeerEndpoint.ite h5.updPair
  · split
    · exact h5.failOver
    · exact h5.updPair.wr.ite (h5.dropMirrored.updPair.enterHeld.ite h5)

theorem execActiveFenceWait (h : s.Keeps μ s₀)
    (hm : Covers 0x1ffffffffffff03000501fab42061fb1ef3f01c812c86 μ := by exact .mono (by assumption)) : Answers μ s₀ (execActiveFenceWait s) := by
  unfold Machine.execActiveFenceWait
  exact (h.updPair.fence.enterLone.dropPeerEndpoint.ite h).next

theorem execGoodbye (h : s.Keeps μ s₀)
    (hm : Covers 0x1ffffffffffff03000743fab47ce1fb1efbf05d85acc6 μ := by exact .mono (by assumption)) :
    Answers μ s₀ (execGoodbye s) := h.partnerFailed.next

theorem execHeartbeatTimer (h : s.Keeps μ s₀)
    (hm : Covers 0x100000000000000000000000400 μ := by exact .mono (by assumption)) : Answers μ s₀ (execHeartbeatTimer s) := by
  unfold Machine.execHeartbeatTimer
  refine State.Keeps.next ?_
  split
  · exact h
  · extract_lets +onlyGivenNames n1 flags
    exact h.updPair.send

theorem updPath {haul : Bool} {f : BeatPath → BeatPath} (h : s.Keeps μ s₀)
    (hm : Covers 0x100000000000000000000000000 μ := by exact .mono (by assumption)) : (s.updPath haul f).Keeps μ s₀ := h.updPair

theorem pathState {haul ok : Bool} (h : s.Keeps μ s₀)
    (hm : Covers 0x20000001000000000000000000000000000486 μ := by exact .mono (by assumption)) : (s.pathState haul ok).Keeps μ s₀ := by
  unfold State.pathState
  exact (h.wrB (f := F.HAL_PAIR_STAT_HAUL_HB_OK) (hm.writes .HAL_PAIR_STAT_FENCE_HELD 0)).raise.ite ((h.wr (f := F.HAL_PAIR_STAT_HBP_OK) (hm.writes
      .HAL_PAIR_STAT_FENCE_HELD 0)).raise.ite (h.wr (f := F.HAL_PAIR_STAT_HBP_OK) (hm.writes .HAL_PAIR_STAT_FENCE_HELD 0)).raise)

theorem execHeartbeatBeat {haul : Bool} {bseq role gen : Nat} (h : s.Keeps μ s₀)
    (hm : Covers 0x1ffffffffffff03000501dab40061fb16f3f01c812c86 μ := by exact .mono (by assumption)) :
    Answers μ s₀ (execHeartbeatBeat haul bseq role gen s) := by
  unfold Machine.execHeartbeatBeat
  refine State.Keeps.next ?_
  extract_lets +onlyGivenNames x
  split
  · exact h
  · extract_lets +onlyGivenNames s1 s2 s3 s4
    have h1 : s1.Keeps μ s₀ := h.pathState.ite (h.wr.ite h.wr)
    have h2 : s2.Keeps μ s₀ := h1.updPath
    have h3 : s3.Keeps μ s₀ := h2.updPair.wr
    have h4 : s4.Keeps μ s₀ := h3.syncFwd.syncRelay
    exact (h4.enterHeld.ite (h4.enterLone.ite h4)).ite h4

theorem execHeartbeatMiss {haul : Bool} (h : s.Keeps μ s₀)
    (hm : Covers 0x1ffffffffffff03000743fab47ce1fb1efbf05d85acc6 μ := by exact .mono (by assumption)) : Answers μ s₀ (execHeartbeatMiss haul s) := by
  unfold Machine.execHeartbeatMiss
  refine State.Keeps.next ?_
  extract_lets +onlyGivenNames x held
  split
  · exact h
  · extract_lets +onlyGivenNames period
    split
    · exact h
    · extract_lets +onlyGivenNames n1 s1 y alone
      have h1 : s1.Keeps μ s₀ := h.updPath.bump
      exact h1.ite (h1.partnerFailed.ite (h1.ite h1.updPath.pathState))

theorem startResync (h : s.Keeps μ s₀)
    (hm : Covers 0xa0000001000100000000000000000000000486 μ := by exact .mono (by assumption)) : s.startResync.Keeps μ s₀ := by
  unfold State.startResync
  extract_lets +onlyGivenNames l s1 s2
  have h1 : s1.Keeps μ s₀ := h.updPair
  have h2 : s2.Keeps μ s₀ := h1.foldl fun _ _ ht => ht.haulSend.send
  exact (h2.wr (f := F.HAL_PAIR_STAT_RSYNC_PROG) (hm.writes .HAL_PAIR_STAT_FENCE_HELD 0)).raise

theorem resyncGo (h : s.Keeps μ s₀)
    (hm : Covers 0x1ffffffffffff03000100000000000000100010000486 μ := by exact .mono (by assumption)) : s.resyncGo.Keeps μ s₀ := by
  unfold State.resyncGo
  split
  · exact h
  · extract_lets +onlyGivenNames s1
    have h1 : s1.Keeps μ s₀ := h.wr
    split
    · extract_lets +onlyGivenNames s2
      have h2 : s2.Keeps μ s₀ := h1.updPair.setGen
      exact h2.raise.enterPaired.sendHello
    · exact h1

theorem digestDiffers {q : Hello} {reason : Nat} (h : s.Keeps μ s₀)
    (hm : Covers 0x400028000001000100000000000000000010000486 μ := by exact .mono (by assumption)) : (s.digestDiffers q reason).Keeps μ s₀ := by
  unfold State.digestDiffers
  exact h.goAlone.ite h.enterHeld

theorem enterResync (h : s.Keeps μ s₀)
    (hm : Covers 0x400028000001000100000000007300000014002486 μ := by exact .mono (by assumption)) :
    s.enterResync.Keeps μ s₀ := h.dropMirrored.updPair.setRole

theorem dropUncopied (h : s.Keeps μ s₀)
    (hm : Covers 0xc800780010001000000186160006bd000978486 μ := by exact .mono (by assumption)) : s.dropUncopied.Keeps μ s₀ := by
  unfold State.dropUncopied
  extract_lets +onlyGivenNames reached s1
  have h1 : s1.Keeps μ s₀ := h.foldl fun _ _ ht => ht.zeroise.nsGone
  exact h1.of_eq.bindFunctions

theorem execHello {q : Hello} (h : s.Keeps μ s₀)
    (hm : Covers 0x1ffffffffffff03000521dab41861fb16fbf01c97ac86 μ := by exact .mono (by assumption)) : Answers μ s₀ (execHello q s) := by
  unfold Machine.execHello
  refine State.Keeps.next ?_
  split
  · exact h
  · extract_lets +onlyGivenNames s1 s2 same r
    have h1 : s1.Keeps μ s₀ := h.updPair.wr
    have h2 : s2.Keeps μ s₀ := h1.syncFwd.syncRelay
    split
    · split
      · exact h2
      · split
        · exact h2.digestDiffers
        · split
          · exact h2.digestDiffers
          · exact h2.enterPaired.ite (h2.enterResync.ite (h2.enterLone.ite h2))
    · split
      · exact h2.startResync.ite h2
      · split
        · split
          · extract_lets +onlyGivenNames s3
            have h3 : s3.Keeps μ s₀ := h2.dropUncopied.setGen.updPair.enterPaired
            exact h3.takeStep15.ite h3
          · exact h2
        · exact (h2.enterResync.ite h2).ite h2

theorem standbyRetire (h : s.Keeps μ s₀) (hm : Covers 0x200000000000000 μ := by exact .mono (by assumption)) : s.standbyRetire.Keeps μ s₀ := h.of_eq

theorem standbyMerge {o : WinOp} {p : PendCopy} (h : s.Keeps μ s₀)
    (hm : Covers 0x7200000000000000 μ := by exact .mono (by assumption)) : (s.standbyMerge o p).Keeps μ s₀ := by
  unfold State.standbyMerge
  extract_lets +onlyGivenNames l data fresh s1
  have h1 : s1.Keeps μ s₀ := h.of_eq
  exact h1.updOp

theorem standbyLines {l : List PendCopy} {dur cid msg : Nat} (h : s.Keeps μ s₀)
    (hm : Covers 0x10000000000000000000000007600000000000002 μ := by exact .mono (by assumption)) : (s.standbyLines l dur cid msg).Keeps μ s₀ := by
  unfold State.standbyLines
  split
  · exact h
  · extract_lets +onlyGivenNames o s1
    have h1 : s1.Keeps μ s₀ := h.of_eq
    split
    · exact h1
    · extract_lets +onlyGivenNames s2
      have h2 : s2.Keeps μ s₀ := h1.updOp
      refine State.Keeps.syncCache ?_
      refine h2.foldl fun a x ha => ?_
      extract_lets +onlyGivenNames earlier
      exact ha.standbyMerge.ite ha

theorem standbyWritten {nsid lba content : Nat} (h : s.Keeps μ s₀)
    (hm : Covers 0xf200000004000000 μ := by exact .mono (by assumption)) : (s.standbyWritten nsid lba content).Keeps μ s₀ := by
  unfold State.standbyWritten
  extract_lets +onlyGivenNames held
  split
  · exact h
  · extract_lets +onlyGivenNames s1 gone
    have h1 : s1.Keeps μ s₀ := by
      unfold s1
      clear_value held
      split
      · exact h.needsMet.dropLine
      · exact h
    exact h1.of_eq

theorem standbyOver {nsid slba k mark : Nat} (h : s.Keeps μ s₀)
    (hm : Covers 0xf200000004000000 μ := by exact .mono (by assumption)) : (s.standbyOver nsid slba k mark).Keeps μ s₀ := by
  unfold State.standbyOver
  extract_lets +onlyGivenNames hit old s1
  have h1 : s1.Keeps μ s₀ := h.of_eq
  exact h1.foldl fun _ _ ht => ht.needsMet.dropLine

theorem standbyRecord {r : Rec} {fix : Option FixUpd} (h : s.Keeps μ s₀)
    (hm : Covers 0x1000000000000000000000000f200000004000002 μ := by exact .mono (by assumption)) : (s.standbyRecord r fix).Keeps μ s₀ := by
  unfold State.standbyRecord
  extract_lets +onlyGivenNames s1
  have h1 : s1.Keeps μ s₀ := by
    unfold s1
    split
    · exact h.foldl fun _ _ ht => ht.standbyOver
    · refine h.foldl fun a x ha => ?_
      split
      · exact ha.standbyWritten
      · exact ha
    · exact (h.foldl fun _ _ ht => ht.standbyWritten).ite h.standbyOver
    · exact h
  exact h1.standbyRetire.syncCache

theorem enterRec {r : Rec} {fix : Option FixUpd} (h : s.Keeps μ s₀)
    (hm : Covers 0x1ffffffffffff03000101d80000602016f3f00c812486 μ := by exact .mono (by assumption)) : (s.enterRec r fix).Keeps μ s₀ := by
  unfold State.enterRec
  extract_lets +onlyGivenNames missed
  have hmissed : ∀ s u, s.Keeps μ s₀ → (missed s u).Keeps μ s₀ := by
    intro s u ht
    refine ht.foldl fun a x ha => ?_
    split
    · exact ha.addDirty
    · exact ha
  split
  · extract_lets +onlyGivenNames s1 s2
    have h1 : s1.Keeps μ s₀ := h.foldl fun _ _ ht => ht.addDirty
    have h2 : s2.Keeps μ s₀ := h1.updRec.releaseRecs.syncDur
    split
    · exact h2.of_eq
    · exact h2
  · extract_lets +onlyGivenNames mine s1 s2
    have h1 : s1.Keeps μ s₀ := h.foldl fun _ _ ht => ((hmissed _ _ ht).ite ht).applyFix
    have h2 : s2.Keeps μ s₀ := by
      unfold s2
      refine h1.foldl fun a x ha => ?_
      split
      · exact ha.updCmd
      · exact ha
    exact h2.of_eq.recDurable
  · exact h.recDurable

theorem putMirrorRec {r : Rec} {stripes : List Stripe} {fix : Option FixUpd} (h : s.Keeps μ s₀)
    (hm : Covers 0x1ffffffffffff03000101d8000060f216f3f00c812486 μ := by exact .mono (by assumption)) :
    (s.putMirrorRec r stripes fix).Keeps μ s₀ := by
  unfold State.putMirrorRec
  extract_lets +onlyGivenNames named s1 s2 q s3 s4 s5
  have h1 : s1.Keeps μ s₀ := h.of_eq
  have h2 : s2.Keeps μ s₀ := h1.putRec.updRec
  have h4 : s4.Keeps μ s₀ := h2.of_eq
  have h5 : s5.Keeps μ s₀ := h4.wr64
  extract_lets +onlyGivenNames s6
  have h6 : s6.Keeps μ s₀ := by
    unfold s6
    refine h5.foldl fun a x ha => ?_
    extract_lets +onlyGivenNames f
    exact ha.updGroup.wr64
  exact h6.standbyRecord.enterRec

theorem takeStore {t : Tally} {m : Medium} (h : s.Keeps μ s₀)
    (hm : Covers 0x1ffffffffffff03000101d80000602016f3f00c812486 μ := by exact .mono (by assumption)) : (s.takeStore t m).Keeps μ s₀ := by
  unfold State.takeStore
  extract_lets +onlyGivenNames later isNew mine keep s1 s2
  have h1 : s1.Keeps μ s₀ := h.of_eq
  have h2 : s2.Keeps μ s₀ := h1.of_eq
  exact (h2.foldl fun _ _ ht => ht.enterRec).releaseRecs

theorem putCmd {c : Cmd} (h : s.Keeps μ s₀) (hm : Covers 0x44000000 μ := by exact .mono (by assumption)) : (s.putCmd c).Keeps μ s₀ := h.of_eq

theorem putConn {c : Conn} (h : s.Keeps μ s₀) (hm : Covers 0x2000 μ := by exact .mono (by assumption)) : (s.putConn c).Keeps μ s₀ := h.of_eq

theorem takeRows {k : Namespace} (h : s.Keeps μ s₀) (hm : Covers 0x1000000000 μ := by exact .mono (by assumption)) : (s.takeRows k).Keeps μ s₀ := by
  unfold State.takeRows
  extract_lets +onlyGivenNames rows
  exact h.updGroup

theorem putNs {k : Namespace} {key : Option KeyEntry} (h : s.Keeps μ s₀)
    (hm : Covers 0xc000780010000000000180160006bd000050486 μ := by exact .mono (by assumption)) : (s.putNs k key).Keeps μ s₀ := by
  unfold State.putNs
  extract_lets +onlyGivenNames s1 s2
  have h1 : s1.Keeps μ s₀ := h.of_eq
  have h2 : s2.Keeps μ s₀ := by
    unfold s2
    split
    · exact h.updNs.ite h.abandonTree.dropContents.updNs.zeroise
    · exact h1.takeRows.ite h1
  extract_lets +onlyGivenNames s3
  have h3 : s3.Keeps μ s₀ := h2.of_eq
  exact h3.syncGroup

theorem effectDone {done : Option (Nat × Nat)} (h : s.Keeps μ s₀)
    (hm : Covers 0x4000000 μ := by exact .mono (by assumption)) : (s.effectDone done).Keeps μ s₀ := by
  unfold State.effectDone
  split
  · exact h.updCmd
  · exact h

theorem putMember {k : Nat} {x : Slot} {power : Bool} (h : s.Keeps μ s₀)
    (hm : Covers 0x1ffffffffffff03000101d8008061200ef1701c812486 μ := by exact .mono (by assumption)) : (s.putMember k x power).Keeps μ s₀ := by
  unfold State.putMember
  extract_lets +onlyGivenNames o moved s1 s2
  have h1 : s1.Keeps μ s₀ := h.updSlot.updGroup
  have h2 : s2.Keeps μ s₀ := ((h1.wr).wr).wrB
  exact h2.followPower

theorem applyMirror {b : MirrorBody} (h : s.Keeps μ s₀)
    (hm : Covers 0x1ffffffffffff03000101d8009861f71efbf05c97e486 μ := by exact .mono (by assumption)) : (s.applyMirror b).Keeps μ s₀ := by
  unfold State.applyMirror
  split
  · extract_lets +onlyGivenNames s1
    have h1 : s1.Keeps μ s₀ := h.putConn
    split
    · exact h1.of_eq
    · exact h1
  · split
    · exact h.freeConn
    · exact h
  · split
    · exact h.putCmd.putConn
    · exact h.putCmd
  · exact h.of_eq
  · exact h.putCmd.updNs
  · exact h.putCmd
  · exact h.putMirrorRec
  · extract_lets +onlyGivenNames s1
    have h1 : s1.Keeps μ s₀ := by
      unfold s1
      split
      · exact h.ite h.setConn
      · exact h
    exact h1.standbyLines
  · exact h.of_eq
  · exact h.putNs.effectDone
  · extract_lets +onlyGivenNames gen
    exact h.zeroise.nsGone.effectDone
  · exact h.of_eq.bindFunctions
  · exact h.of_eq.bindFunctions
  · exact h.of_eq
  · extract_lets +onlyGivenNames s1
    have h1 : s1.Keeps μ s₀ := h.ite h.of_eq
    exact h1.wrB.syncCache
  · exact h.putMember
  · exact h.takeStore

theorem applyEarly {y : Nat} (h : s.Keeps μ s₀)
    (hm : Covers 0x1ffffffffffff03000101d8009861f71efbf05c97e486 μ := by exact .mono (by assumption)) : (s.applyEarly y).Keeps μ s₀ := by
  induction y generalizing s with
  | zero => exact h
  | succ y ih =>
    unfold State.applyEarly
    split
    · exact h
    · split
      · exact h
      · extract_lets +onlyGivenNames s1 s2
        have h1 : s1.Keeps μ s₀ := by
          unfold s1
          split
          · exact h.applyMirror
          · exact h
        exact ih h1.updPair.bump

theorem execMirrorItem {mseq : Nat} {body : MirrorBody} (h : s.Keeps μ s₀)
    (hm : Covers 0x1ffffffffffff03000101d8009861f71efbf05c97e486 μ := by exact .mono (by assumption)) :
    Answers μ s₀ (execMirrorItem mseq body s) := by
  unfold Machine.execMirrorItem
  refine State.Keeps.next ?_
  split
  · exact h
  · extract_lets +onlyGivenNames s1 s2
    have h1 : s1.Keeps μ s₀ := h.updPair
    have h2 : s2.Keeps μ s₀ := h1.applyEarly
    exact h2.haulSend.send

theorem execResyncCopy {tag : Nat} {body : MirrorBody} (h : s.Keeps μ s₀)
    (hm : Covers 0x1ffffffffffff03000101d8009861f71efbf05c97e486 μ := by exact .mono (by assumption)) : Answers μ s₀ (execResyncCopy tag body s) := by
  unfold Machine.execResyncCopy
  refine State.Keeps.next ?_
  split
  · exact h
  · extract_lets +onlyGivenNames fresh s1
    have h1 : s1.Keeps μ s₀ := by
      unfold s1
      split
      · exact h.applyMirror
      · exact h
    exact h1.updPair

theorem forwardHeld (h : s.Keeps μ s₀)
    (hm : Covers 0x1ffffffffffff0300010003b400000000000000000c86 μ := by exact .mono (by assumption)) : s.forwardHeld.Keeps μ s₀ := by
  unfold State.forwardHeld
  extract_lets +onlyGivenNames held s1
  have h1 : s1.Keeps μ s₀ := h.freeFrames
  exact h1.foldl fun _ _ ht => ht.bump.sampleSent.haulSend.send.ite ht.bump.swcNotice

theorem setConns {l : List Conn} (h : s.Keeps μ s₀)
    (hm : Covers 0x2000 μ := by exact .mono (by assumption)) : { s with conns := l }.Keeps μ s₀ := h.of_eq

theorem setOpsAndJobs {l : List WinOp} {js : List ReadJob} (h : s.Keeps μ s₀)
    (hm : Covers 0x208000000000000 μ := by exact .mono (by assumption)) : { s with winops := l, jobs := js }.Keeps μ s₀ := h.of_eq

theorem gapGo (h : s.Keeps μ s₀)
    (hm : Covers 0x1ffffffffffff0300030003b400000208100010000cc6 μ := by exact .mono (by assumption)) : s.gapGo.Keeps μ s₀ := by
  unfold State.gapGo
  split
  · exact h
  · extract_lets +onlyGivenNames live s1 s2 s3 s4 s5 s6
    have h4 : s4.Keeps μ s₀ := h.haulSend.send.setGen.bump.updPair.wr.enterPaired.forwardHeld
    have h5 : s5.Keeps μ s₀ := h4.raise
    have h6 : s6.Keeps μ s₀ := h5.setOpsAndJobs
    exact h6.wr.liveStart.ite h6

theorem leaveMirrored (h : s.Keeps μ s₀)
    (hm : Covers 0x80000000000100000000600000000000000402 μ := by exact .mono (by assumption)) : s.leaveMirrored.Keeps μ s₀ := by
  unfold State.leaveMirrored
  extract_lets +onlyGivenNames s1
  have h1 : s1.Keeps μ s₀ := h.foldl fun _ _ ht => ht.mirrorNote
  exact h1.foldl fun _ _ ht => ht.mirrorNote

theorem startHandover {live : Bool} (h : s.Keeps μ s₀)
    (hm : Covers 0x100000000000000002000000000 μ := by exact .mono (by assumption)) : (s.startHandover live).Keeps μ s₀ := by
  unfold State.startHandover
  split
  · exact h
  · extract_lets +onlyGivenNames s1
    have h1 : s1.Keeps μ s₀ := h.foldl fun _ _ ht => ht.closeStripe
    exact h1.updPair

theorem execHalHandoverCmd (h : s.Keeps μ s₀)
    (hm : Covers 0x300000000000000002000000000 μ := by exact .mono (by assumption)) : Answers μ s₀ (execHalHandoverCmd s) := by
  unfold Machine.execHalHandoverCmd
  exact (h.atWindow fun _ ht => ht.startHandover).next

theorem execHandoverDrainEnd (h : s.Keeps μ s₀)
    (hm : Covers 0x1ffffffffffff0300030003b400600208100010000cc6 μ := by exact .mono (by assumption)) : Answers μ s₀ (execHandoverDrainEnd s) := by
  unfold Machine.execHandoverDrainEnd
  refine State.Keeps.next ?_
  split
  · exact h.updPair.leaveMirrored.gapGo.ite h
  · exact h

theorem execHandoverTimeout (h : s.Keeps μ s₀)
    (hm : Covers 0x1ffffffffffff03000301d8000060000000700c8124c6 μ := by exact .mono (by assumption)) : Answers μ s₀ (execHandoverTimeout s) := by
  unfold Machine.execHandoverTimeout
  refine State.Keeps.next ?_
  split
  · split
    · extract_lets +onlyGivenNames s1 s2
      have h1 : s1.Keeps μ s₀ := h.updPair.raise
      have h2 : s2.Keeps μ s₀ := h1.abandonLive.ite h1
      exact h2.foldl fun _ _ ht => ht.placeWaiting
    · exact h
  · exact h

theorem execHandoverItem {mseq : Nat} (h : s.Keeps μ s₀)
    (hm : Covers 0x1ffffffffffff03000303f8007c61fb1efbf05d85ac86 μ := by exact .mono (by assumption)) : Answers μ s₀ (execHandoverItem mseq s) := by
  unfold Machine.execHandoverItem
  refine State.Keeps.next ?_
  split
  · exact h
  · extract_lets +onlyGivenNames s1 s2 s3 s4
    have h3 : s3.Keeps μ s₀ := h.setGen.bump.wr.enterPaired.raise
    have h4 : s4.Keeps μ s₀ := h3.ite h3.wr
    exact h4.setConns.serveMirrored

theorem execMirrorMack {mseq : Nat} (h : s.Keeps μ s₀)
    (hm : Covers 0x1ffffffffffff03000701dbb40061fb1ef3f01c812cc6 μ := by exact .mono (by assumption)) :
    Answers μ s₀ (execMirrorMack mseq s) := h.mackUpTo.gapGo.resyncGo.next

theorem halfDown {q : Nat} (h : s.Keeps μ s₀)
    (hm : Covers 0x4000e8000001000100000000000000000000000486 μ := by exact .mono (by assumption)) : (s.halfDown q).Keeps μ s₀ := by
  unfold State.halfDown
  exact h.ite h.raise.halfOut

theorem resendHalf {q : Nat} (h : s.Keeps μ s₀)
    (hm : Covers 0x4000e8000001000100000000000000000000000486 μ := by exact .mono (by assumption)) : (s.resendHalf q).Keeps μ s₀ := by
  unfold State.resendHalf
  extract_lets +onlyGivenNames x
  split
  · exact h.halfDown
  · extract_lets +onlyGivenNames s1
    have h1 : s1.Keeps μ s₀ := h.foldl fun _ _ ht => ((ht.bump (hm.writes .HAL_RESEND 0)).bump (hm.writes .HAL_TX_FRM 0)).send
    exact h1.updHalf

theorem haulAcked {q a : Nat} (h : s.Keeps μ s₀)
    (hm : Covers 0x1ffffffffffff03000100000000000000100010000486 μ := by exact .mono (by assumption)) : (s.haulAcked q a).Keeps μ s₀ := by
  unfold State.haulAcked
  extract_lets +onlyGivenNames done
  split
  · exact h
  · extract_lets +onlyGivenNames copies s1
    have h1 : s1.Keeps μ s₀ := h.updHalf
    exact h1.updPair.resyncGo

theorem haulBody {b : HaulBody} (h : s.Keeps μ s₀)
    (hm : Covers 0x1ffffffffffff03000703f800fc61f31efbf05d85ac86 μ := by exact .mono (by assumption)) : (s.haulBody b).Keeps μ s₀ := by
  unfold State.haulBody
  split
  · exact h
  · exact h.followPower.ite h
  · exact h.epRun.ite h
  · exact h.dataArrived.ite h
  · exact h.ite h.epStartFetch
  · exact h.ite h.toHost
  · exact h.ite h.toHost
  · extract_lets +onlyGivenNames d
    exact h.adminRequest.ite h.answer
  · exact h.answerOwed
  · exact h.updLive.ite h

theorem execHaulFrameReceive {half chan seq : Nat} {ack : Option Nat} {nak tagOk : Bool} {body : HaulBody} (h : s.Keeps μ s₀)
    (hm : Covers 0x1ffffffffffff03000703f800fc61f31efbf05d85ac86 μ := by exact .mono (by assumption)) :
    Answers μ s₀ (execHaulFrameReceive half chan seq ack nak tagOk body s) := by
  unfold Machine.execHaulFrameReceive
  refine State.Keeps.next ?_
  extract_lets +onlyGivenNames x
  split
  · exact h
  · split
    · extract_lets +onlyGivenNames s1
      have h1 : s1.Keeps μ s₀ := h.bump.send
      exact h1.ite h1.raise.updHalf
    · extract_lets +onlyGivenNames s1 s2
      have h1 : s1.Keeps μ s₀ := by
        unfold s1
        split
        · exact h.haulAcked
        · exact h
      have h2 : s2.Keeps μ s₀ := h1.resendHalf.ite h1
      split
      · exact h2.bump
      · exact h2.bump.send.ite (h2.send.ite h2.bump.updHalf.send.haulBody)

theorem execHaulResendTimer {half : Nat} (h : s.Keeps μ s₀)
    (hm : Covers 0x4000e8000001000100000000000000000000000486 μ := by exact .mono (by assumption)) : Answers μ s₀ (execHaulResendTimer half s) := by
  unfold Machine.execHaulResendTimer
  refine State.Keeps.next ?_
  extract_lets +onlyGivenNames x
  exact h.resendHalf.ite h

theorem execHaulHalfDown {half : Nat} (h : s.Keeps μ s₀)
    (hm : Covers 0x4000e8000001000100000000000000000000000486 μ := by exact .mono (by assumption)) : Answers μ s₀ (execHaulHalfDown half s) := by
  unfold Machine.execHaulHalfDown
  exact (h.ite h.halfDown).next

theorem execHaulHalfUp {half : Nat} (h : s.Keeps μ s₀)
    (hm : Covers 0x4000e8000001000340000000000000000000000c86 μ := by exact .mono (by assumption)) : Answers μ s₀ (execHaulHalfUp half s) := by
  unfold Machine.execHaulHalfUp
  refine State.Keeps.next ?_
  split
  · exact h
  · extract_lets +onlyGivenNames s1 s2 s3
    have h1 : s1.Keeps μ s₀ := (h.wr (halfUpFld_writable hm)).raise.updHalf
    have h2 : s2.Keeps μ s₀ := h1.ite h1.updHalf.resendHalf
    have h3 : s3.Keeps μ s₀ := h2.ite h2.sendPairing
    exact h3.syncFwd.syncRelay.retrainHalves

theorem endHold (h : s.Keeps μ s₀)
    (hm : Covers 0x4000e8800001000100000000000000000000000486 μ := by exact .mono (by assumption)) : s.endHold.Keeps μ s₀ := by
  unfold State.endHold
  split
  · exact h
  · extract_lets +onlyGivenNames s1
    have h1 : s1.Keeps μ s₀ := (h.updPair.wr (hm.writes .CTL_LIVE_STAT_HOLD 0))
    exact h1.foldl fun _ _ ht => ht.updHalf.resendHalf.ite ht

theorem execHoldMessage {bench : Nat} (h : s.Keeps μ s₀)
    (hm : Covers 0x80800000000100000000000000000000000402 μ := by exact .mono (by assumption)) : Answers μ s₀ (execHoldMessage bench s) := by
  unfold Machine.execHoldMessage
  refine State.Keeps.next ?_
  split
  · exact h
  · extract_lets +onlyGivenNames s1
    have h1 : s1.Keeps μ s₀ := (h.updPair.wr (hm.writes .CTL_LIVE_STAT_HOLD 0))
    exact h1.haulSend.send

theorem execHoldTimeout (h : s.Keeps μ s₀)
    (hm : Covers 0x4000e8800001000100000000000000000000000486 μ := by exact .mono (by assumption)) : Answers μ s₀ (execHoldTimeout s) := by
  unfold Machine.execHoldTimeout
  exact (h.endHold.ite h).next

theorem execRetireMessage (h : s.Keeps μ s₀)
    (hm : Covers 0x1ffffffffffff03000741dab41861fb16f3f01c812cc6 μ := by exact .mono (by assumption)) : Answers μ s₀ (execRetireMessage s) := by
  unfold Machine.execRetireMessage
  refine State.Keeps.next ?_
  split
  · exact h
  · extract_lets +onlyGivenNames s1 s2 s3 tr s4
    have h3 : s3.Keeps μ s₀ := h.haulSend.send.abandonLive.wr.updPair.haulZero
    have h4 : s4.Keeps μ s₀ := h3.setTru
    exact h4.enterLone

/-! ### Chain -/

theorem updChain {f : Chain → Chain} (h : s.Keeps μ s₀)
    (hm : Covers 0x80000000000000000000000000 μ := by exact .mono (by assumption)) : (s.updChain f).Keeps μ s₀ := h.of_eq

theorem chainRx {crcOk : Bool} {f : State → State} (h : s.Keeps μ s₀) (hf : ∀ (a : State), a.Keeps μ s₀ → (f a).Keeps μ s₀)
    (hm : Covers 0xa00000000000000000000000000000002 μ := by exact .mono (by assumption)) :
    (s.chainRx crcOk f).Keeps μ s₀ := by
  unfold State.chainRx
  exact (hf _ (h.bump (hm.writes .CHN_RX_FRM 0))).ite (h.bump (hm.writes .CHN_CRC_ERR 0))

theorem ackUp (h : s.Keeps μ s₀) (hm : Covers 0x4000000080000000000000000000000402 μ := by exact .mono (by assumption)) : s.ackUp.Keeps μ s₀ := by
  unfold State.ackUp
  split
  · exact h
  · dsimp -zeta only
    exact h.chainSend.updChain

theorem offerDown (h : s.Keeps μ s₀)
    (hm : Covers 0x4000000080000000000000000000000402 μ := by exact .mono (by assumption)) : s.offerDown.Keeps μ s₀ := by
  unfold State.offerDown
  exact h.chainSend.updChain.ite h.updChain.ackUp

theorem becomeHead {cause : Nat} (h : s.Keeps μ s₀)
    (hm : Covers 0x4101000080000000000000000000000486 μ := by exact .mono (by assumption)) : (s.becomeHead cause).Keeps μ s₀ := by
  unfold State.becomeHead
  extract_lets +onlyGivenNames s1 s2
  have h1 : s1.Keeps μ s₀ := (((h.wr (hm.writes .CHN_CHAIN_STAT_ADDR 0)).wr (f := F.CHN_CHAIN_STAT_ADDRESSED) (hm.writes .CHN_CHAIN_STAT_ADDR
      0)).wr (f := F.CHN_CHAIN_STAT_HEAD) (hm.writes .CHN_CHAIN_STAT_ADDR 0))
  have h2 : s2.Keeps μ s₀ := h1.updChain.raise
  exact h2.offerDown

theorem chainStart {up dn : Bool} (h : s.Keeps μ s₀)
    (hm : Covers 0x4101000080000000000000000000000486 μ := by exact .mono (by assumption)) : (s.chainStart up dn).Keeps μ s₀ := by
  unfold State.chainStart
  extract_lets +onlyGivenNames s1 s2
  have h1 : s1.Keeps μ s₀ := (((h.wrB (f := F.CHN_CHAIN_STAT_UP_DRIVEN) (hm.writes .CHN_CHAIN_STAT_ADDR 0)).wrB (f := F.CHN_CHAIN_STAT_UP_LINK)
      (hm.writes .CHN_CHAIN_STAT_ADDR 0)).wrB (f := F.CHN_CHAIN_STAT_DN_LINK) (hm.writes .CHN_CHAIN_STAT_ADDR 0))
  have h2 : s2.Keeps μ s₀ := h1.updChain
  exact h2.updChain.ite h2.becomeHead

theorem execHeadWaitExpiry (h : s.Keeps μ s₀)
    (hm : Covers 0x4101000080000000000000000000000486 μ := by exact .mono (by assumption)) : Answers μ s₀ (execHeadWaitExpiry s) := by
  unfold Machine.execHeadWaitExpiry
  refine State.Keeps.next ?_
  split
  · exact h.becomeHead.ite h
  · exact h

theorem takeAddress {a : Nat} (h : s.Keeps μ s₀)
    (hm : Covers 0x4000000004101000080000000000000000000000486 μ := by exact .mono (by assumption)) : (s.takeAddress a).Keeps μ s₀ := by
  unfold State.takeAddress
  extract_lets +onlyGivenNames s1 s2 s3
  have h1 : s1.Keeps μ s₀ := (((h.wr (hm.writes .CHN_CHAIN_STAT_ADDR 0)).wr (f := F.CHN_CHAIN_STAT_ADDRESSED) (hm.writes .CHN_CHAIN_STAT_ADDR
      0)).wr (f := F.CHN_CHAIN_STAT_HEAD) (hm.writes .CHN_CHAIN_STAT_ADDR 0))
  have h2 : s2.Keeps μ s₀ := (h1.wr (f := F.CHN_CHAIN_STAT_UNITS) (hm.writes .CHN_CHAIN_STAT_ADDR 0))
  have h3 : s3.Keeps μ s₀ := (h2.wr (hm.writes .TIM_SRC_CFG_SRC 0)).updChain.raise
  exact h3.offerDown

theorem execChainAddr {crcOk : Bool} {a : Nat} (h : s.Keeps μ s₀)
    (hm : Covers 0x4000000004b01000080000000000000000000000486 μ := by exact .mono (by assumption)) : Answers μ s₀ (execChainAddr crcOk a s) := by
  unfold Machine.execChainAddr
  refine State.Keeps.next ?_
  refine h.chainRx fun t ht => ?_
  split
  · exact ht
  · split
    · exact ht.raise
    · split
      · exact ht.takeAddress
      · exact (ht.ackUp.ite ht).ite (ht.raise.ite ht.takeAddress)

theorem execChainAddrAck {crcOk : Bool} {maxCount units : Nat} (h : s.Keeps μ s₀)
    (hm : Covers 0x4b00000080000000000000000000000402 μ := by exact .mono (by assumption)) :
    Answers μ s₀ (execChainAddrAck crcOk maxCount units s) := by
  unfold Machine.execChainAddrAck
  refine State.Keeps.next ?_
  refine h.chainRx fun t ht => ?_
  split
  · exact ht
  · extract_lets +onlyGivenNames s1
    have h1 : s1.Keeps μ s₀ := ht.updChain
    exact (h1.wr (f := F.CHN_CHAIN_STAT_UNITS) (hm.writes .CHN_CHAIN_STAT_ADDR 0)).ite h1.ackUp

theorem execAddrRepeatTimer (h : s.Keeps μ s₀)
    (hm : Covers 0x4000000080000000000000000000000402 μ := by exact .mono (by assumption)) : Answers μ s₀ (execAddrRepeatTimer s) := by
  unfold Machine.execAddrRepeatTimer
  refine State.Keeps.next ?_
  split
  · exact h.offerDown.ite h
  · exact h

theorem execChainDownstreamUndriven (h : s.Keeps μ s₀)
    (hm : Covers 0x4100000080000000000000000000000402 μ := by exact .mono (by assumption)) : Answers μ s₀ (execChainDownstreamUndriven s) := by
  unfold Machine.execChainDownstreamUndriven
  refine State.Keeps.next ?_
  extract_lets +onlyGivenNames waiting s1
  have h1 : s1.Keeps μ s₀ := (h.wr (f := F.CHN_CHAIN_STAT_DN_LINK) (hm.writes .CHN_CHAIN_STAT_ADDR 0)).updChain
  exact h1.ackUp.ite h1

theorem chainReset {src : Nat} (h : s.Keeps μ s₀)
    (hm : Covers 0x8000000004101000080000000000000000000000486 μ := by exact .mono (by assumption)) : (s.chainReset src).Keeps μ s₀ := by
  unfold State.chainReset
  extract_lets +onlyGivenNames head s1 s2 s3 s4 s5
  have h1 : s1.Keeps μ s₀ := h.raise
  have h2 : s2.Keeps μ s₀ := ((h1.wr (hm.writes .CHN_CHAIN_STAT_ADDR 0)).wrB (f := F.CHN_CHAIN_STAT_ADDRESSED) (hm.writes .CHN_CHAIN_STAT_ADDR 0))
  have h3 : s3.Keeps μ s₀ := h2.updChain
  have h4 : s4.Keeps μ s₀ := h3.chainSend.ite h3
  have h5 : s5.Keeps μ s₀ := h4.enterHoldover.ite h4
  exact h5.offerDown.ite h5

theorem execChainReset {crcOk : Bool} {src : Nat} {fromUp : Bool} (h : s.Keeps μ s₀)
    (hm : Covers 0x8000000004b01000080000000000000000000000486 μ := by exact .mono (by assumption)) :
    Answers μ s₀ (execChainReset crcOk src fromUp s) := by
  unfold Machine.execChainReset
  exact (h.chainRx fun _ ht => ht.chainReset.ite (ht.chainSend.ite ht)).next

theorem orderChainReset (h : s.Keeps μ s₀)
    (hm : Covers 0x8000000004101000080000000000000000000000486 μ := by exact .mono (by assumption)) : s.orderChainReset.Keeps μ s₀ := by
  unfold State.orderChainReset
  exact h.chainReset.ite h.chainSend

theorem execChnChainResetCmd (h : s.Keeps μ s₀)
    (hm : Covers 0x8000000004101000280000000000000000000000486 μ := by exact .mono (by assumption)) : Answers μ s₀ (execChnChainResetCmd s) := by
  unfold Machine.execChnChainResetCmd
  exact (h.atWindow fun _ ht => ht.orderChainReset).next

theorem execTreqTimer (h : s.Keeps μ s₀)
    (hm : Covers 0x4000000080000000000000000000000402 μ := by exact .mono (by assumption)) : Answers μ s₀ (execTreqTimer s) := by
  unfold Machine.execTreqTimer
  refine State.Keeps.next ?_
  split
  · extract_lets +onlyGivenNames e
    exact h.chainSend.updChain
  · exact h

theorem execChainTreq {crcOk : Bool} {eseq : Nat} (h : s.Keeps μ s₀)
    (hm : Covers 0x4a00000000000000000000000000000402 μ := by exact .mono (by assumption)) : Answers μ s₀ (execChainTreq crcOk eseq s) := by
  unfold Machine.execChainTreq
  exact (h.chainRx fun _ ht => ht.chainSend.ite ht).next

theorem execChainTresp {crcOk : Bool} {eseq t2 t3 : Nat} (h : s.Keeps μ s₀)
    (hm : Covers 0x9800000000e01000080000000000000000000000dc6 μ := by exact .mono (by assumption)) :
    Answers μ s₀ (execChainTresp crcOk eseq t2 t3 s) := by
  refine State.Keeps.next (h.chainRx fun t ht => ?_)
  split
  · exact ht
  · split
    · exact ht
    · extract_lets +onlyGivenNames t4 offset delay first s1 s2
      have h1 : s1.Keeps μ s₀ := (ht.wr (hm.writes .CHN_HOP_DELAY_DELAY 0)).updChain
      have h2 : s2.Keeps μ s₀ := h1.stepForward.ite h1
      exact h2.ite h2.servoUpdate

theorem execChainUpstreamLost (h : s.Keeps μ s₀)
    (hm : Covers 0x8000000000101000080000000000000000000000486 μ := by exact .mono (by assumption)) : Answers μ s₀ (execChainUpstreamLost s) := by
  unfold Machine.execChainUpstreamLost
  refine State.Keeps.next ?_
  split
  · exact h
  · extract_lets +onlyGivenNames s1
    have h1 : s1.Keeps μ s₀ := (h.wr (f := F.CHN_CHAIN_STAT_UP_LINK) (hm.writes .CHN_CHAIN_STAT_ADDR 0)).updChain.raise
    exact h1.enterHoldover.ite h1

theorem execChainUpstreamRestored (h : s.Keeps μ s₀)
    (hm : Covers 0x101000080000000000000000000000486 μ := by exact .mono (by assumption)) : Answers μ s₀ (execChainUpstreamRestored s) := by
  unfold Machine.execChainUpstreamRestored
  exact (h.ite ((h.wr (f := F.CHN_CHAIN_STAT_UP_DRIVEN) (hm.writes .CHN_CHAIN_STAT_ADDR 0)).wr (f := F.CHN_CHAIN_STAT_UP_LINK) (hm.writes
      .CHN_CHAIN_STAT_ADDR 0)).updChain.raise).next

theorem execChainShot {crcOk : Bool} {t issuer : Nat} {fromUp : Bool} (h : s.Keeps μ s₀)
    (hm : Covers 0x2000000004a01000000000000000000000000000586 μ := by exact .mono (by assumption)) :
    Answers μ s₀ (execChainShot crcOk t issuer fromUp s) := by
  unfold Machine.execChainShot
  refine State.Keeps.next ?_
  refine h.chainRx fun t1 ht => ?_
  extract_lets +onlyGivenNames s1
  have h1 : s1.Keeps μ s₀ := ht.chainSend.ite ht
  exact h1.shotRequest.ite h1

/-! ### Rebuild -/

theorem foundBad {sr : SRef} {bad : List (Nat × Nat)} (h : s.Keeps μ s₀)
    (hm : Covers 0x1ffffffffffff03000101d8008061200ef5701c812486 μ := by exact .mono (by assumption)) : (s.foundBad sr bad).Keeps μ s₀ := by
  unfold State.foundBad
  extract_lets +onlyGivenNames bs s1
  have h1 : s1.Keeps μ s₀ := by
    unfold s1
    refine h.foldl fun a x ha => ?_
    split
    · exact ha
    · extract_lets +onlyGivenNames s2
      have h2 : s2.Keeps μ s₀ := ha.readError
      exact h2.rewriteBlk
  exact h1.loseAt

theorem rebuildRate {blocks : Nat} (h : s.Keeps μ s₀)
    (hm : Covers 0x800000000 μ := by exact .mono (by assumption)) : (s.rebuildRate blocks).Keeps μ s₀ := h.of_eq

theorem moveBlocks {g k to_ : Nat} {st : Stream} {kind : Nat} (h : s.Keeps μ s₀)
    (hm : Covers 0x1ffffffffffff03000000000000000000007800000486 μ := by exact .mono (by assumption)) :
    (s.moveBlocks g k to_ st kind).1.Keeps μ s₀ := by
  unfold State.moveBlocks
  split
  · exact h
  · extract_lets +onlyGivenNames busy want s1 lost s2
    have h1 : s1.Keeps μ s₀ := h.bgIo
    have h2 : s2.Keeps μ s₀ := h1.countRecon.rebuildRate
    refine State.Keeps.foldl_fst h2 fun q x hq => ?_
    split
    · exact hq
    · extract_lets +onlyGivenNames c
      split
      · rename_i t x1 heq
        have ht : t.Keeps μ s₀ := hq.place.of_fst heq
        exact ht
      · rename_i t heq
        have ht : t.Keeps μ s₀ := hq.place.of_fst heq
        exact ht

theorem execSpoilReclaimVictim {group : Nat} {bad : List (Nat × Nat)} (h : s.Keeps μ s₀)
    (hm : Covers 0x1ffffffffffff03000101d8008061200ef57a1c812486 μ := by exact .mono (by assumption)) :
    Answers μ s₀ (execSpoilReclaimVictim group bad s) := by
  unfold Machine.execSpoilReclaimVictim
  refine State.Keeps.next ?_
  split
  · exact h
  · split
    · exact h
    · extract_lets +onlyGivenNames s1 s2
      have h1 : s1.Keeps μ s₀ := h.foundBad
      have h2 : s2.Keeps μ s₀ := h1.chargeTask
      exact h2.moveBlocks.syncGroup.freeIfEmpty

theorem sweepLost {g : Nat} (h : s.Keeps μ s₀)
    (hm : Covers 0x1ffffffffffff03000101d8000060000000200c812486 μ := by exact .mono (by assumption)) : (s.sweepLost g).Keeps μ s₀ := by
  unfold State.sweepLost
  refine h.foldl fun a x ha => ?_
  split
  · exact ha
  · extract_lets +onlyGivenNames s1
    have h1 : s1.Keeps μ s₀ := ha.foldl fun _ _ ht => ht.recordLost.ite ht
    exact h1.updStripe

theorem execRebuildIndexSweep {group : Nat} (h : s.Keeps μ s₀)
    (hm : Covers 0x1ffffffffffff03000101d8000060004000320c812486 μ := by exact .mono (by assumption)) :
    Answers μ s₀ (execRebuildIndexSweep group s) := by
  unfold Machine.execRebuildIndexSweep
  refine State.Keeps.next ?_
  split
  · exact h
  · extract_lets +onlyGivenNames out found s1 away s2
    have h1 : s1.Keeps μ s₀ := h.of_eq
    have h2 : s2.Keeps μ s₀ := h1.chargeTask.bgIo
    exact h2.updGroup.sweepLost

theorem rebuildWaits {g : Nat} (h : s.Keeps μ s₀)
    (hm : Covers 0x1000000000000000000001000000486 μ := by exact .mono (by assumption)) : (s.rebuildWaits g).Keeps μ s₀ := by
  unfold State.rebuildWaits
  exact h.ite h.updGroup.raiseLay

theorem evacuate {g k : Nat} (h : s.Keeps μ s₀)
    (hm : Covers 0x1ffffffffffff03000101d80000600000907a0c812486 μ := by exact .mono (by assumption)) : (s.evacuate g k).Keeps μ s₀ := by
  unfold State.evacuate
  extract_lets +onlyGivenNames live
  dsimp -zeta only
  split
  · exact ((h.chargeTask.moveBlocks.bump).updGroup).freeIfEmpty
  · exact h.chargeTask.moveBlocks.rebuildWaits

theorem placeAll {g : Nat} {l : List SBlock} (h : s.Keeps μ s₀)
    (hm : Covers 0xc00000001000000000000000000007000000486 μ := by exact .mono (by assumption)) : (s.placeAll g l).1.Keeps μ s₀ := by
  unfold State.placeAll
  refine State.Keeps.foldl_fst h fun q x hq => ?_
  split
  · exact hq
  · split
    · rename_i t x1 heq
      have ht : t.Keeps μ s₀ := hq.place.of_fst heq
      exact ht
    · rename_i t heq
      have ht : t.Keeps μ s₀ := hq.place.of_fst heq
      exact ht

theorem relocate {g : Nat} {x : Stripe} {slab : Nat} (h : s.Keeps μ s₀)
    (hm : Covers 0x1ffffffffffff03000000000000000000007a00000486 μ := by exact .mono (by assumption)) : (s.relocate g x slab).Keeps μ s₀ := by
  unfold State.relocate
  extract_lets +onlyGivenNames used pad src copy slots reads here
  split
  · rename_i t heq
    have ht : t.Keeps μ s₀ := h.placeAll.of_fst heq
    exact ht.countRecon.rebuildRate.bgIo.chargeTask.updGroup
  · rename_i t heq
    have ht : t.Keeps μ s₀ := h.placeAll.of_fst heq
    exact ht.rebuildWaits

theorem rebuildOne {g : Nat} {x : Stripe} {slab : Nat} (h : s.Keeps μ s₀)
    (hm : Covers 0x1ffffffffffff03000101d80000600000907a0c812486 μ := by exact .mono (by assumption)) : (s.rebuildOne g x slab).Keeps μ s₀ := by
  unfold State.rebuildOne
  extract_lets +onlyGivenNames chain
  split
  · exact h.evacuate
  · split
    · extract_lets +onlyGivenNames s1
      have h1 : s1.Keeps μ s₀ := h.evacuate
      split
      · exact h1.evacuate
      · exact h1
    · exact h.relocate

theorem syncReshape (h : s.Keeps μ s₀)
    (hm : Covers 0x1000000000000000000000000000000000000002 μ := by exact .mono (by assumption)) : s.syncReshape.Keeps μ s₀ := by
  unfold State.syncReshape
  split
  · exact ((h.wr (f := F.LAY_ORDER_STAT_PHASE) (hm.writes .LAY_ORDER_STAT_PCT 0)).wr (hm.writes .LAY_ORDER_STAT_PCT 0))
  · extract_lets +onlyGivenNames left
    exact ((h.wr (f := F.LAY_ORDER_STAT_PHASE) (hm.writes .LAY_ORDER_STAT_PCT 0)).wr (hm.writes .LAY_ORDER_STAT_PCT 0))

theorem reshapeStep {r : Reshape} (h : s.Keeps μ s₀)
    (hm : Covers 0x1ffffffffffff03000101d80000600000907a0c812486 μ := by exact .mono (by assumption)) : (s.reshapeStep r).Keeps μ s₀ := by
  unfold State.reshapeStep
  split
  · exact h
  · split
    · split
      · exact h.chargeTask.moveBlocks.freeIfEmpty
      · exact h
    · split
      · exact h
      · split
        · exact h
        · extract_lets +onlyGivenNames b lost s1
          have h1 : s1.Keeps μ s₀ := h.countRecon.rebuildRate
          exact h1.chargeTask.bgIo.place

theorem execRebuildStripe {group : Nat} {bad : List (Nat × Nat)} (h : s.Keeps μ s₀)
    (hm : Covers 0x1ffffffffffff03000101d8008061200ef57a1c812486 μ := by exact .mono (by assumption)) :
    Answers μ s₀ (execRebuildStripe group bad s) := by
  unfold Machine.execRebuildStripe
  refine State.Keeps.next ?_
  split
  · exact h
  · extract_lets +onlyGivenNames s1
    have h1 : s1.Keeps μ s₀ := by
      unfold s1
      split
      · extract_lets +onlyGivenNames s2
        have h2 : s2.Keeps μ s₀ := h.foundBad
        split
        · exact h2.rebuildOne.ite h2
        · exact h2
      · split
        · exact h
        · split
          · exact h.reshapeStep
          · split
            · exact h.chargeTask.moveBlocks.freeIfEmpty
            · exact h
    exact h1.syncReshape.syncGroup.syncHealth

theorem execRegionResync {slot : Nat} {bad : List (Nat × Nat × Nat × Nat)} (h : s.Keeps μ s₀)
    (hm : Covers 0x1ffffffffffff03000101d80000610000d07a0c812486 μ := by exact .mono (by assumption)) :
    Answers μ s₀ (execRegionResync slot bad s) := by
  unfold Machine.execRegionResync
  refine State.Keeps.next ?_
  extract_lets +onlyGivenNames g
  split
  · exact h
  · split
    · exact h.updSlot.syncDirty.syncHealth
    · split
      · exact h.updSlot.syncDirty
      · extract_lets +onlyGivenNames held
        split
        · exact h
        · extract_lets +onlyGivenNames lbas srs bs
          dsimp -zeta only
          extract_lets +onlyGivenNames s1 s2 s3
          have h1 : s1.Keeps μ s₀ := by
            unfold s1
            refine h.foldl fun a x ha => ?_
            extract_lets +onlyGivenNames mine s4 s5
            have h4 : s4.Keeps μ s₀ := ha.loseAt.countRecon.rebuildRate
            have h5 : s5.Keeps μ s₀ := h4.foldl fun _ _ ht => ht.foldl fun _ _ ht1 => ht1.ite ht1.regenInPlace
            exact h5.bgIo
          have h2 : s2.Keeps μ s₀ := h1.chargeTask
          have h3 : s3.Keeps μ s₀ := h2.updSlot
          exact h3.syncDirty.syncHealth

theorem startReshape (h : s.Keeps μ s₀)
    (hm : Covers 0x1ffffffffffff03000100000000600080805000010486 μ := by exact .mono (by assumption)) : s.startReshape.Keeps μ s₀ := by
  unfold State.startReshape
  extract_lets +onlyGivenNames g x
  split
  · extract_lets +onlyGivenNames moved phase r added s1 s2
    have h1 : s1.Keeps μ s₀ := h.of_eq
    have h2 : s2.Keeps μ s₀ := h1.foldl fun _ _ ht => (ht.changeSlot.wr).syncDirty
    exact h2.syncReshape.syncGroup
  · extract_lets +onlyGivenNames tgt ns r s1
    have h1 : s1.Keeps μ s₀ := h.of_eq
    exact h1.updNs.syncReshape

theorem reshapeOrder (h : s.Keeps μ s₀)
    (hm : Covers 0x1ffffffffffff03000100000000600080805000010486 μ := by exact .mono (by assumption)) : s.reshapeOrder.Keeps μ s₀ := by
  unfold State.reshapeOrder
  extract_lets +onlyGivenNames g
  split
  · exact h.refuseOrder
  · exact h.startReshape

theorem execReshapeStart {v : Word} (h : s.Keeps μ s₀)
    (hm : Covers 0x1ffffffffffff03000100000000600080805000010486 μ := by exact .mono (by assumption)) : Answers μ s₀ (execReshapeStart v s) := by
  unfold Machine.execReshapeStart
  refine State.Keeps.next ?_
  extract_lets +onlyGivenNames s1
  have h1 : s1.Keeps μ s₀ := h.writeRegW
  exact h1.reshapeOrder.ite h1

theorem execReshapeSwitchover (h : s.Keeps μ s₀)
    (hm : Covers 0x1ffffffffffff03000101d8000060008086500c812486 μ := by exact .mono (by assumption)) : Answers μ s₀ (execReshapeSwitchover s) := by
  unfold Machine.execReshapeSwitchover
  refine State.Keeps.next ?_
  split
  · exact h
  · extract_lets +onlyGivenNames g ready
    split
    · exact h
    · extract_lets +onlyGivenNames s1 s2 s3 s4 s5
      have h1 : s1.Keeps μ s₀ := h.of_eq
      have h5 : s5.Keeps μ s₀ := (h1.wr).wr
      extract_lets +onlyGivenNames s6 s7 s8 s9
      have h6 : s6.Keeps μ s₀ := (h5.wr).wr
      have h8 : s8.Keeps μ s₀ := h1.updSvy
      have h9 : s9.Keeps μ s₀ := h8.of_eq
      extract_lets +onlyGivenNames s10 s11 s12 s13
      have h10 : s10.Keeps μ s₀ := by
        unfold s10
        split
        · exact h6.foldl fun _ _ ht => (ht.changeSlot.wr).syncDirty
        · exact h9.updNs
      have h11 : s11.Keeps μ s₀ := h10.updSvy.updGroup.writeMember
      have h12 : s12.Keeps μ s₀ := h11.syncReshape.raiseLay.syncGroup
      have h13 : s13.Keeps μ s₀ := h12.syncGroup.ite h12
      exact h13.syncHealth

/-! ### Survey scan -/

theorem syncSvy {g : Nat} (h : s.Keeps μ s₀)
    (hm : Covers 0x100000000000000000000000000000000000000002 μ := by exact .mono (by assumption)) : (s.syncSvy g).Keeps μ s₀ := by
  unfold State.syncSvy
  dsimp -zeta only
  extract_lets +onlyGivenNames x mine s1 s2
  have h1 : s1.Keeps μ s₀ := (h.wr (hm.writes .SVY_GSTAT_DLOG_USED _))
  have h2 : s2.Keeps μ s₀ := (h1.wr (f := F.SVY_GSTAT_SLOT_USED _) (hm.writes .SVY_GSTAT_DLOG_USED _))
  exact (((h2.wrB (f := F.SVY_GSTAT_TWO_COPY _) (hm.writes .SVY_GSTAT_DLOG_USED _))).wrB (f := F.SVY_GSTAT_SCAN _) (hm.writes .SVY_GSTAT_DLOG_USED _))

theorem writeObj {g : Nat} {o : SvyObj} (h : s.Keeps μ s₀)
    (hm : Covers 0x200001000001000000000000000000060000000486 μ := by exact .mono (by assumption)) : (s.writeObj g o).Keeps μ s₀ := by
  unfold State.writeObj
  extract_lets +onlyGivenNames hit
  split
  · extract_lets +onlyGivenNames m s1 s2
    have h1 : s1.Keeps μ s₀ := h.updSvy
    have h2 : s2.Keeps μ s₀ := h1.updObjs.bgIo
    exact (h2.bump (hm.writes .SVY_WB _))
  · exact h.updObjs.raiseSvy

theorem writeAt {g kind owner level index : Nat} (h : s.Keeps μ s₀)
    (hm : Covers 0x200001000001000000000000000000060000000486 μ := by exact .mono (by assumption)) :
    (s.writeAt g kind owner level index).Keeps μ s₀ := by
  unfold State.writeAt
  split
  · exact h.writeObj
  · extract_lets +onlyGivenNames o
    exact h.of_eq.writeObj

theorem writeAbove {g kind owner index level : Nat} (h : s.Keeps μ s₀)
    (hm : Covers 0x200001000001000000000000000000060000000486 μ := by exact .mono (by assumption)) :
    (s.writeAbove g kind owner index level).Keeps μ s₀ := by
  unfold State.writeAbove
  extract_lets +onlyGivenNames s1 s2
  have h1 : s1.Keeps μ s₀ := (h.foldl fun _ _ ht => ht.writeAt).ite h
  have h2 : s2.Keeps μ s₀ := h1.writeAt.ite h1
  exact h2.writeAt

theorem writeTree {g : Nat} {o : SvyObj} (h : s.Keeps μ s₀)
    (hm : Covers 0x200001000001000000000000000000060000000486 μ := by exact .mono (by assumption)) : (s.writeTree g o).Keeps μ s₀ := by
  unfold State.writeTree
  extract_lets +onlyGivenNames s1
  have h1 : s1.Keeps μ s₀ := h.writeObj
  exact h1.ite h1.writeAbove

theorem advanceTail {g : Nat} (h : s.Keeps μ s₀) (hm : Covers 0x40000000000 μ := by exact .mono (by assumption)) : (s.advanceTail g).Keeps μ s₀ := by
  unfold State.advanceTail
  extract_lets +onlyGivenNames open_ x gone
  exact h.updSvy

theorem execSurveyWritebackDone {group : Nat} (h : s.Keeps μ s₀)
    (hm : Covers 0x300001000001000000000000000000860200000486 μ := by exact .mono (by assumption)) :
    Answers μ s₀ (execSurveyWritebackDone group s) := by
  unfold Machine.execSurveyWritebackDone
  refine State.Keeps.next ?_
  split
  · exact h
  · split
    · exact h
    · extract_lets +onlyGivenNames was empty s1 s2
      have h1 : s1.Keeps μ s₀ := h.of_eq.updSvy.writeAbove.ite h.writeTree
      have h2 : s2.Keeps μ s₀ := h1.chargeTask
      exact h2.advanceTail.writeMember.syncSvy

theorem startScan {g : Nat} (h : s.Keeps μ s₀)
    (hm : Covers 0x100000000001000000000000000000001000000486 μ := by exact .mono (by assumption)) : (s.startScan g).Keeps μ s₀ := by
  unfold State.startScan
  exact h.ite h.updGroup.raiseSvy.syncSvy

theorem pageReads (h : s.Keeps μ s₀)
    (hm : Covers 0x1ffffffffffff03000101d8000061001e52300c812486 μ := by exact .mono (by assumption)) : s.pageReads.Keeps μ s₀ := by
  unfold State.pageReads
  exact h.foldl fun _ _ ht => ht.startReads

theorem execSurveyObjectLoaded {group kind level owner index : Nat} {bad : List Nat} (h : s.Keeps μ s₀)
    (hm : Covers 0x1ffffffffffff03000101d8000061001ed6300c812486 μ := by exact .mono (by assumption)) :
    Answers μ s₀ (execSurveyObjectLoaded group kind level owner index bad s) := by
  unfold Machine.execSurveyObjectLoaded
  refine State.Keeps.next ?_
  extract_lets +onlyGivenNames hit above
  split
  · exact h
  · split
    · exact h
    · extract_lets +onlyGivenNames copies failed s1 s2
      have h1 : s1.Keeps μ s₀ := (h.bump).bgIo
      have h2 : s2.Keeps μ s₀ := h1.foldl fun _ _ ht => (ht.bump).raiseSvy
      split
      · extract_lets +onlyGivenNames s3
        have h3 : s3.Keeps μ s₀ := h2.updGroup.raiseSvy
        exact h3.startScan
      · extract_lets +onlyGivenNames s3 s4
        have h3 : s3.Keeps μ s₀ := h2.updObjs.useObjs.pageReads
        have h4 : s4.Keeps μ s₀ := h3.ite h3.writeTree.writeMember
        exact h4.evictObj.syncSvy

theorem execDeltaLogBlockAcked {group : Nat} (h : s.Keeps μ s₀)
    (hm : Covers 0x180300000001000000000000000000140000000486 μ := by exact .mono (by assumption)) :
    Answers μ s₀ (execDeltaLogBlockAcked group s) := by
  unfold Machine.execDeltaLogBlockAcked
  refine State.Keeps.next ?_
  split
  · exact h
  · extract_lets +onlyGivenNames x mine ready
    dsimp -zeta only
    extract_lets +onlyGivenNames blocks
    split
    · exact h
    · extract_lets +onlyGivenNames last new s1 s2 s3 full say
      have h1 : s1.Keeps μ s₀ := h.updSvy
      have h2 : s2.Keeps μ s₀ := ((h1.bumpBy (hm.writes .SVY_DLOG_BLK _))).emitRec
      have h3 : s3.Keeps μ s₀ := h2.advanceTail.syncSvy
      exact h3.updSvy.raiseSvy.ite h3

theorem execMemberRecordTimer {group : Nat} (h : s.Keeps μ s₀)
    (hm : Covers 0x1000000000000000000000000840000000002 μ := by exact .mono (by assumption)) : Answers μ s₀ (execMemberRecordTimer group s) := by
  unfold Machine.execMemberRecordTimer
  exact (h.writeMember.ite h).next

end Sys2Proof.Machine.State.Keeps
end

section
/-!
What each function and each command of the model keeps (part 6): the trunk of a start, trust, management and the background. A lemma has the name
    of the function it speaks of,
so that the lemmas compose as the functions do; its mask names the pieces that the function may change.
-/

namespace Sys2Proof.Machine.State.Keeps

-- One lemma at a time: elaborated side by side, so many of them wait for one another in more threads than there is memory for.
set_option Elab.async false

variable {s : State} {μ : Nat} {s₀ : State}

theorem execObjectRehome {group : Nat} (h : s.Keeps μ s₀)
    (hm : Covers 0x300001000001000000000000000000860000000486 μ := by exact .mono (by assumption)) : Answers μ s₀ (execObjectRehome group s) := by
  unfold Machine.execObjectRehome
  refine State.Keeps.next ?_
  extract_lets +onlyGivenNames lost
  exact h.ite (((h.foldl fun _ _ ht => ht.writeTree).writeMember).syncSvy)

theorem recount {g : Nat} (h : s.Keeps μ s₀) (hm : Covers 0x3000010000 μ := by exact .mono (by assumption)) : (s.recount g).Keeps μ s₀ := by
  unfold State.recount
  extract_lets +onlyGivenNames at_ total s1
  have h1 : s1.Keeps μ s₀ := h.of_eq
  exact h1.updGroup

theorem execSurveyRebuildScan {group : Nat} {freed : List Nat} {found : List (Nat × Nat × Nat × Nat × Nat)} (h : s.Keeps μ s₀)
    (hm : Covers 0x1ffffffffffff03000101d8000061001ed6f00c812486 μ := by exact .mono (by assumption)) :
    Answers μ s₀ (execSurveyRebuildScan group freed found s) := by
  unfold Machine.execSurveyRebuildScan
  refine State.Keeps.next ?_
  split
  · exact h
  · extract_lets +onlyGivenNames s1 s2 s3 s4 s5 s6 s7 s8 s9
    have h1 : s1.Keeps μ s₀ := h.of_eq
    have h2 : s2.Keeps μ s₀ := by
      unfold s2
      refine h1.foldl fun a x ha => ?_
      extract_lets +onlyGivenNames p
      split
      · exact ha.setEntry.ite ha
      · exact ha
    have h3 : s3.Keeps μ s₀ := h2.recount
    have h4 : s4.Keeps μ s₀ := h3.updObjs
    have h5 : s5.Keeps μ s₀ := ((h4.foldl fun _ _ ht => ht.writeObj).writeAt).ite h4
    have h6 : s6.Keeps μ s₀ := h5.writeMember
    have h7 : s7.Keeps μ s₀ := h6.foldl fun _ _ ht => ht.markAttached
    have h8 : s8.Keeps μ s₀ := h7.updGroup
    have h9 : s9.Keeps μ s₀ := h8.pageReads.evictObj
    exact h9.raiseSvy.raiseSvy.syncSvy.syncGroup

/-! ### Start -/

theorem updBoot {f : Boot → Boot} (h : s.Keeps μ s₀)
    (hm : Covers 0x20000000000000000000000000 μ := by exact .mono (by assumption)) : (s.updBoot f).Keeps μ s₀ := h.of_eq

theorem execControllerStart {bootSel : Nat} {slotB : Bool} {flash : Option Flash} (h : s.Keeps μ s₀)
    (hm : Covers 0x1ffffffffffff03000030000000000000000000000486 μ := by exact .mono (by assumption)) :
    Answers μ s₀ (execControllerStart bootSel slotB flash s) := by
  unfold Machine.execControllerStart
  refine State.Keeps.next ?_
  split
  · exact h
  · split
    · exact h
    · extract_lets +onlyGivenNames s1 s2 s3
      have h2 : s2.Keeps μ s₀ := h.updBoot
      have h3 : s3.Keeps μ s₀ := by
        unfold s3
        split
        · exact h2.of_eq
        · exact h2
      extract_lets +onlyGivenNames s4
      have h4 : s4.Keeps μ s₀ := h3.wr.wrB
      exact h4.setBenchState.noteStep.wr

theorem stopStart {why : Nat} (h : s.Keeps μ s₀)
    (hm : Covers 0x10000000000000000020000000000000000000000002 μ := by exact .mono (by assumption)) :
    (s.stopStart why).Keeps μ s₀ := (h.wr (f := F.TRU_STAT_STOP) (hm.writes .TRU_STAT_CMD_REFUSED 0)).updBoot

theorem stepRom {romOk fusesOk trngOk : Bool} (h : s.Keeps μ s₀)
    (hm : Covers 0x1ffffffffffff03000060000008000000000000000c86 μ := by exact .mono (by assumption)) :
    (s.stepRom romOk fusesOk trngOk).Keeps μ s₀ := by
  unfold State.stepRom
  split
  · exact h.stopStart
  · split
    · exact h.stopStart
    · dsimp -zeta only
      extract_lets +onlyGivenNames s1 s2
      have h2 : s2.Keeps μ s₀ := by
        unfold s2
        have hb : ((s.draw FreeKind.keyMaterial (2 ^ 256)).2.draw FreeKind.keyMaterial (2 ^ 512)).2.Keeps μ s₀ := h.draw.draw
        exact hb.of_eq
      extract_lets +onlyGivenNames s3
      have h3 : s3.Keeps μ s₀ := h2.updBench.setBenchState
      exact h3.wr.noteStep

theorem nameBank {k : Nat} {b : BankImg} (h : s.Keeps μ s₀)
    (hm : Covers 0x1ffffffffffff03000020000000000000000000000002 μ := by exact .mono (by assumption)) : (s.nameBank k b).Keeps μ s₀ := by
  unfold State.nameBank
  extract_lets +onlyGivenNames s1 v s2
  have h1 : s1.Keeps μ s₀ := h.wr.updBoot
  have h2 : s2.Keeps μ s₀ := h1.wr.wr
  exact h2.wr.wr

theorem loadBank {k : Nat} {b : BankImg} (h : s.Keeps μ s₀)
    (hm : Covers 0x1ffffffffffff03000220000000000000000000000002 μ := by exact .mono (by assumption)) : (s.loadBank k b).Keeps μ s₀ :=
  h.nameBank.updLive.foldl fun _ _ ht => ht.wr

theorem stepBank (h : s.Keeps μ s₀)
    (hm : Covers 0x1ffffffffffff03000228000000000000000000000486 μ := by exact .mono (by assumption)) : s.stepBank.Keeps μ s₀ := by
  unfold State.stepBank
  extract_lets +onlyGivenNames f
  dsimp -zeta only
  extract_lets +onlyGivenNames s1
  have h1 : s1.Keeps μ s₀ := h.foldl fun _ _ ht => ht.wr
  split
  · exact h1.stopStart
  · extract_lets +onlyGivenNames s2 s3 s4 o s5 fu s6
    have h2 : s2.Keeps μ s₀ := h1.foldl fun _ _ ht => ht.setBenchState
    have h3 : s3.Keeps μ s₀ := h2.foldl fun _ _ ht => ht.raise
    have h5 : s5.Keeps μ s₀ := (h3.raise.ite h3).wr
    have h6 : s6.Keeps μ s₀ := State.Keeps.ite (State.Keeps.raise h5.of_eq) h5
    exact h6.loadBank.wr.noteStep

theorem applySettings {l : List SetEntry} (h : s.Keeps μ s₀)
    (hm : Covers 0x1ffffffffffff03000000000000000000000000000586 μ := by exact .mono (by assumption)) : (s.applySettings l).Keeps μ s₀ := by
  unfold State.applySettings
  extract_lets +onlyGivenNames s1
  have h1 : s1.Keeps μ s₀ := by
    unfold s1
    refine h.foldl fun a x ha => ?_
    dsimp -zeta only
    exact ha.putSetting.wr.raise.ite ha.putSetting
  exact h1.foldl fun _ _ ht => ht.wr

theorem configureGroups (h : s.Keeps μ s₀)
    (hm : Covers 0x1ffffffffffff03000000000000000000801000000486 μ := by exact .mono (by assumption)) : s.configureGroups.Keeps μ s₀ := by
  unfold State.configureGroups
  refine h.foldl fun a x ha => ?_
  split
  · exact ha
  · extract_lets +onlyGivenNames x1 taken
    split
    · exact ha.updGroup.foldl fun _ _ ht => (ht.updSlot.wr).wr
    · exact ha.raiseLay

theorem assignEid {p eid : Nat} (h : s.Keeps μ s₀)
    (hm : Covers 0x1000400000000000000000000000486 μ := by exact .mono (by assumption)) : (s.assignEid p eid).Keeps μ s₀ := h.of_eq.raise

theorem stepSettings {failed : List Nat} (h : s.Keeps μ s₀)
    (hm : Covers 0x1ffffffffffff0300062002bc00000000801002000dfe μ := by exact .mono (by assumption)) : (s.stepSettings failed).Keeps μ s₀ := by
  unfold State.stepSettings
  extract_lets +onlyGivenNames s1 s2 s3
  have h1 : s1.Keeps μ s₀ := h.foldl fun _ _ ht => ht.selftestEnd
  have h2 : s2.Keeps μ s₀ := h1.wr.send
  have h3 : s3.Keeps μ s₀ := h2.updBoot
  split
  · exact h3.noteStep.raise
  · split
    · exact h3
    · extract_lets +onlyGivenNames s4 s5 s6
      have h4 : s4.Keeps μ s₀ := h3.applySettings
      have h5 : s5.Keeps μ s₀ := h4.foldl fun _ _ ht => ht.loadMode
      have h6 : s6.Keeps μ s₀ := by
        unfold s6
        refine h5.foldl fun a x ha => ?_
        extract_lets +onlyGivenNames e
        exact ha.ite ha.assignEid
      exact h6.of_eq.configureGroups.noteStep

theorem headStep (h : s.Keeps μ s₀) (hm : Covers 0x10000000000000000000000000005c6 μ := by exact .mono (by assumption)) : s.headStep.Keeps μ s₀ := by
  unfold State.headStep
  split
  · exact h.stepForward.ite h
  · exact h

theorem stepTime (h : s.Keeps μ s₀)
    (hm : Covers 0x1ffffffffffff030000200000000000000000000005c6 μ := by exact .mono (by assumption)) : s.stepTime.Keeps μ s₀ := by
  unfold State.stepTime
  extract_lets +onlyGivenNames s1 s2
  have h1 : s1.Keeps μ s₀ := h.headStep
  have h2 : s2.Keeps μ s₀ := h1.updTim
  exact h2.updBoot.noteStep

theorem layRegions (h : s.Keeps μ s₀)
    (hm : Covers 0x1ffffffffffff03000000000000000000000000000002 μ := by exact .mono (by assumption)) : s.layRegions.Keeps μ s₀ := by
  unfold State.layRegions
  extract_lets +onlyGivenNames z
  exact h.foldl fun _ _ ht => (ht.wr).wr

theorem applyRetired {l : List (Nat × Dimm)} (h : s.Keeps μ s₀)
    (hm : Covers 0xe0000000000000000 μ := by exact .mono (by assumption)) : (s.applyRetired l).Keeps μ s₀ := by
  unfold State.applyRetired
  extract_lets +onlyGivenNames same
  exact h.of_eq

theorem stepMemory {ch : List (List Dimm)} (h : s.Keeps μ s₀)
    (hm : Covers 0x1ffffffffffff030000200000000e0000000010000486 μ := by exact .mono (by assumption)) : (s.stepMemory ch).Keeps μ s₀ := by
  unfold State.stepMemory
  extract_lets +onlyGivenNames l bad s1 s2
  have h1 : s1.Keeps μ s₀ := h.foldl fun _ _ ht => (((ht.wr).wrB).wr).wr
  have h2 : s2.Keeps μ s₀ := h1.applyRetired
  split
  · extract_lets +onlyGivenNames s3
    have h3 : s3.Keeps μ s₀ := h2.setRole.wr.ite h2
    exact h3.updBoot.raise
  · extract_lets +onlyGivenNames s3 total s4
    have h3 : s3.Keeps μ s₀ := h2.wr.layRegions
    have h4 : s4.Keeps μ s₀ := h3.updBoot.raise.ite h3
    exact h4.noteStep

theorem stepPaired (h : s.Keeps μ s₀)
    (hm : Covers 0x1ffffffffffff03000120000100000000000000000486 μ := by exact .mono (by assumption)) : s.stepPaired.Keeps μ s₀ := by
  unfold State.stepPaired
  extract_lets +onlyGivenNames s1
  have h1 : s1.Keeps μ s₀ := h.goAlone.ite h
  split
  · exact h1
  · extract_lets +onlyGivenNames s2
    have h2 : s2.Keeps μ s₀ := h1.noteStep
    exact h2.of_eq

theorem stepMembers {gen : Nat} (h : s.Keeps μ s₀)
    (hm : Covers 0x1ffffffffffff03000521dab40061fb16f3f01c812c86 μ := by exact .mono (by assumption)) : (s.stepMembers gen).Keeps μ s₀ := by
  unfold State.stepMembers
  extract_lets +onlyGivenNames s1
  have h1 : s1.Keeps μ s₀ := h.updBoot.noteStep
  exact (h1.enterHeld.ite h1.enterLone).ite h1

theorem tallyLost {l : List Nat} (h : s.Keeps μ s₀)
    (hm : Covers 0x1ffffffffffff03000000000000000000001000000486 μ := by exact .mono (by assumption)) : (s.tallyLost l).Keeps μ s₀ := by
  unfold State.tallyLost
  split
  · exact h
  · extract_lets +onlyGivenNames s1
    have h1 : s1.Keeps μ s₀ := h.wr.raise
    refine h1.foldl fun a x ha => ?_
    extract_lets +onlyGivenNames s2
    have h2 : s2.Keeps μ s₀ := ha.updGroup.ite ha
    exact h2.startScan.ite h2

theorem dropTally (h : s.Keeps μ s₀) (hm : Covers 0x302000000000 μ := by exact .mono (by assumption)) : s.dropTally.Keeps μ s₀ := h.of_eq

theorem stepReplay {valid : Bool} {lost : List Nat} (h : s.Keeps μ s₀)
    (hm : Covers 0x1ffffffffffff03000121d80008602006f3f00c812c86 μ := by exact .mono (by assumption)) : (s.stepReplay valid lost).Keeps μ s₀ := by
  unfold State.stepReplay
  extract_lets +onlyGivenNames cfg s1 todo s2 s3
  have htodo : todo.Keeps μ s₀ := by
    unfold todo
    split
    · dsimp -zeta only
      extract_lets +onlyGivenNames kgen
      have hb : (s.draw FreeKind.keyMaterial (2 ^ 256)).2.Keeps μ s₀ := h.draw
      exact hb.of_eq
    · exact h.tallyLost.ite h.dropTally.tallyLost
  have h3 : s3.Keeps μ s₀ := by
    unfold s3
    refine htodo.foldl fun a x ha => ?_
    split
    · exact ha.updRec
    · exact ha.recDurable
  extract_lets +onlyGivenNames s4
  have h4 : s4.Keeps μ s₀ := h3.redoInOrder
  exact h4.raise.noteStep

theorem mountSlot {g k : Nat} (h : s.Keeps μ s₀)
    (hm : Covers 0x1ffffffffffff03000101d8008061200ef5701c812486 μ := by exact .mono (by assumption)) : (s.mountSlot g k).Keeps μ s₀ := by
  unfold State.mountSlot
  extract_lets +onlyGivenNames x gone away
  have haway : ∀ s, s.Keeps μ s₀ → (away s).Keeps μ s₀ := by
    intro s ht
    exact ht.enterWork.ite ht.failSlot.updSlot
  split
  · exact h.settle.ite (haway _ h)
  · split
    · exact h.putSlot.settle.ite (h.enterWork.settle.ite h.offer)
    · extract_lets +onlyGivenNames s1
      have h1 : s1.Keeps μ s₀ := h.ite h.leaveService.putSlot.enterWork.lossScan
      exact h1.settle.offer

theorem adoptGroup {g : Nat} {blank : Bool} (h : s.Keeps μ s₀)
    (hm : Covers 0x41000000000 μ := by exact .mono (by assumption)) : (s.adoptGroup g blank).Keeps μ s₀ := by
  unfold State.adoptGroup
  extract_lets +onlyGivenNames ds mine small s1
  have h1 : s1.Keeps μ s₀ := h.updSvy
  exact h1.updGroup

theorem drawKsr (h : s.Keeps μ s₀) (hm : Covers 0x40000000000000000000000000 μ := by exact .mono (by assumption)) : s.drawKsr.Keeps μ s₀ := h.of_eq

theorem initBlank {g : Nat} (h : s.Keeps μ s₀)
    (hm : Covers 0x1ffffffffffff03000141d8008061200ef7701c812486 μ := by exact .mono (by assumption)) : (s.initBlank g).Keeps μ s₀ := by
  unfold State.initBlank
  extract_lets +onlyGivenNames s1 s2 s3 s4 s5 s6 s7
  have h1 : s1.Keeps μ s₀ := h.adoptGroup
  have h2 : s2.Keeps μ s₀ := h1.foldl fun _ _ ht => ht.putSlot
  have h3 : s3.Keeps μ s₀ := h2.foldl fun _ _ ht => ht.failSlot
  have h4 : s4.Keeps μ s₀ := h3.writeAt.writeAt.ite h3
  have h5 : s5.Keeps μ s₀ := h4.writeMember
  have h6 : s6.Keeps μ s₀ := h5.wr.raise.ite h5
  have h7 : s7.Keeps μ s₀ := h6.ite h6.drawKsr
  exact h7.syncGroup.syncHealth.syncSvy

theorem mountGroup {g : Nat} (h : s.Keeps μ s₀)
    (hm : Covers 0x1ffffffffffff03000101d8008061200ef7701c812486 μ := by exact .mono (by assumption)) : (s.mountGroup g).Keeps μ s₀ := by
  unfold State.mountGroup
  extract_lets +onlyGivenNames s1 s2 s3 s4
  have h1 : s1.Keeps μ s₀ := h.adoptGroup
  have h2 : s2.Keeps μ s₀ := h1.updObjs
  have h3 : s3.Keeps μ s₀ := h2.foldl fun _ _ ht => ht.mountSlot
  have h4 : s4.Keeps μ s₀ := h3.startScan.ite h3
  exact h4.syncGroup.syncHealth.syncSvy

theorem tryMount {g : Nat} (h : s.Keeps μ s₀)
    (hm : Covers 0x1ffffffffffff03000141d8008061200ef7701c812486 μ := by exact .mono (by assumption)) : (s.tryMount g).Keeps μ s₀ := by
  unfold State.tryMount
  extract_lets +onlyGivenNames x lacking held
  have hheld : ∀ s, s.Keeps μ s₀ → (held s).Keeps μ s₀ := by
    intro s ht
    exact ht.raise
  split
  · exact h
  · split
    · exact h.initBlank.ite (hheld _ h)
    · exact (hheld _ h).ite (h.mountGroup.ite h)

theorem adoptFound {m : Mount} (h : s.Keeps μ s₀)
    (hm : Covers 0x800000040b000058000 μ := by exact .mono (by assumption)) : (s.adoptFound m).Keeps μ s₀ := by
  unfold State.adoptFound
  extract_lets +onlyGivenNames s1
  have h1 : s1.Keeps μ s₀ := h.of_eq
  refine h1.foldl fun a x ha => ?_
  extract_lets +onlyGivenNames s2 used
  have h2 : s2.Keeps μ s₀ := ha.recount
  split
  · exact h2
  · exact h2.updGroup

theorem firstIdents (h : s.Keeps μ s₀)
    (hm : Covers 0x1000000000000000000000000008486 μ := by exact .mono (by assumption)) : s.firstIdents.Keeps μ s₀ := by
  unfold State.firstIdents
  split
  · exact h
  · exact h.ite (h.of_eq.ite h.raise)

theorem startCache (h : s.Keeps μ s₀)
    (hm : Covers 0x8000000001000000000000006000000000000486 μ := by exact .mono (by assumption)) : s.startCache.Keeps μ s₀ := by
  unfold State.startCache
  split
  · exact h
  · extract_lets +onlyGivenNames s1
    have h1 : s1.Keeps μ s₀ := h.of_eq
    exact ((h1.raise.wr (f := F.MEM_CACHE_CTL_INV_DONE) (hm.writes .MEM_CACHE_CTL_DIS_PENDING 0)).wr (f := F.MEM_CACHE_CTL_EN) (hm.writes
        .MEM_CACHE_CTL_DIS_PENDING 0))

theorem issueAk {k : Nat} (h : s.Keeps μ s₀)
    (hm : Covers 0x40000000000000000000000800 μ := by exact .mono (by assumption)) : (s.issueAk k).Keeps μ s₀ := by
  unfold State.issueAk
  dsimp -zeta only
  extract_lets +onlyGivenNames d c
  have hb : (s.draw FreeKind.nonce (2 ^ 128)).2.Keeps μ s₀ := h.draw
  exact hb.of_eq

theorem stepMount {envelope : Bool} {found : Option Mount} (h : s.Keeps μ s₀)
    (hm : Covers 0x1ffffffffffff03000161d8008861600ef7f01c85a486 μ := by exact .mono (by assumption)) : (s.stepMount envelope found).Keeps μ s₀ := by
  unfold State.stepMount
  extract_lets +onlyGivenNames s1 fresh s2 s3 s4
  have h1 : s1.Keeps μ s₀ := by
    unfold s1
    split
    · exact (h.foldl fun _ _ ht => ht.adoptGroup.updGroup.ite ht).adoptFound
    · exact h
  have h3 : s3.Keeps μ s₀ := h1.of_eq.ite h1
  have h4 : s4.Keeps μ s₀ := h3.raise.ite h3
  extract_lets +onlyGivenNames s5
  have h5 : s5.Keeps μ s₀ := h4.foldl fun _ _ ht => ht.tryMount
  split
  · exact h5
  · extract_lets +onlyGivenNames s6
    have h6 : s6.Keeps μ s₀ := h5.firstIdents.ite h5
    exact h6.startCache.noteStep

theorem execBootStepEnd {e : BootEnd} (h : s.Keeps μ s₀)
    (hm : Covers 0x1ffffffffffff030007e9dabd886ffb1ef7f01e85adfe μ := by exact .mono (by assumption)) : Answers μ s₀ (execBootStepEnd e s) := by
  unfold Machine.execBootStepEnd
  refine State.Keeps.next ?_
  split
  · exact h
  · extract_lets +onlyGivenNames first
    split
    · exact h.stepRom.ite h
    · exact h.stepBank.ite h
    · exact h.stepSettings.ite h
    · exact h.noteStep.chainStart.ite h
    · exact h.stepTime.ite h
    · exact h.stepMemory.ite h
    · exact h.stepPaired.ite h
    · exact h.noteStep.ite h
    · exact h.noteStep.ite h
    · exact h.noteStep.ite h
    · exact h.stepMembers.ite h
    · exact h.stepReplay.ite h
    · extract_lets +onlyGivenNames ready
      exact h.stepMount.ite h
    · split
      · extract_lets +onlyGivenNames s1
        have h1 : s1.Keeps μ s₀ := h.wr.wrB
        exact h1.ite h1.raise
      · exact h
    · split
      · dsimp -zeta only
        extract_lets +onlyGivenNames s1
        have h1 : s1.Keeps μ s₀ := h.draw.issueAk
        exact h1.wr.wr.sendPairing
      · exact h

theorem execMemberWaitExpiry {slot : Nat} (h : s.Keeps μ s₀)
    (hm : Covers 0x1ffffffffffff03000101d8000061000ed4701c812486 μ := by exact .mono (by assumption)) :
    Answers μ s₀ (execMemberWaitExpiry slot s) := by
  unfold Machine.execMemberWaitExpiry
  exact (h.suspectSlot.ite h).next

theorem execTimeWaitExpiry (h : s.Keeps μ s₀)
    (hm : Covers 0x1000000000000000000000000000586 μ := by exact .mono (by assumption)) : Answers μ s₀ (execTimeWaitExpiry s) := by
  unfold Machine.execTimeWaitExpiry
  exact (h.raise.updTim.ite h).next

theorem execServiceStart (h : s.Keeps μ s₀)
    (hm : Covers 0x1ffffffffffff030000200000000000000000008005c6 μ := by exact .mono (by assumption)) : Answers μ s₀ (execServiceStart s) := by
  unfold Machine.execServiceStart
  exact (h.headStep.takeStep15.ite h).next

theorem execStandbyServiceStart (h : s.Keeps μ s₀)
    (hm : Covers 0x1ffffffffffff03000020000000000000000000800486 μ := by exact .mono (by assumption)) : Answers μ s₀ (execStandbyServiceStart s) := by
  unfold Machine.execStandbyServiceStart
  exact (h.takeStep15.ite h).next

/-! ### Live service -/

theorem writeDesc {bank : Nat} (h : s.Keeps μ s₀) (hm : Covers 0x400 μ := by exact .mono (by assumption)) : (s.writeDesc bank).Keeps μ s₀ := by
  unfold State.writeDesc
  split
  · exact h.send
  · exact h.send

theorem commitGo {id : Nat} {v : NvmeCmd} {ca : Nat} {x : CommitInfo} (h : s.Keeps μ s₀)
    (hm : Covers 0x1ffffffffffff03000301d8000060000000000c812486 μ := by exact .mono (by assumption)) : (s.commitGo id v ca x).Keeps μ s₀ := by
  unfold State.commitGo
  split
  · exact h.finish
  · extract_lets +onlyGivenNames n1 s1
    have h1 : s1.Keeps μ s₀ := h.updLive
    exact h1.send.ite (h1.writeDesc.ite h1.wr.noticeAll.raise)

theorem commitCmd {v : NvmeCmd} {ca : Nat} {x : CommitInfo} (h : s.Keeps μ s₀)
    (hm : Covers 0x1ffffffffffff03000301d8000061000000004c812486 μ := by exact .mono (by assumption)) : (s.commitCmd v ca x).Keeps μ s₀ := by
  unfold State.commitCmd
  extract_lets +onlyGivenNames v1
  split
  · exact h.ite h.commitGo
  · exact h.admin fun _ _ ht => ht.commitGo

theorem execFirmwareCommitWrite {v : NvmeCmd} {x : CommitInfo} (h : s.Keeps μ s₀)
    (hm : Covers 0x1ffffffffffff03000301d8000061000000004c812486 μ := by exact .mono (by assumption)) :
    Answers μ s₀ (execFirmwareCommitWrite v x s) :=
  h.commitCmd.next

theorem execFirmwareCommitWritePrefer {v : NvmeCmd} {x : CommitInfo} (h : s.Keeps μ s₀)
    (hm : Covers 0x1ffffffffffff03000301d8000061000000004c812486 μ := by exact .mono (by assumption)) :
    Answers μ s₀ (execFirmwareCommitWritePrefer v x s) :=
  h.commitCmd.next

theorem execFirmwareCommitPrefer {v : NvmeCmd} {x : CommitInfo} (h : s.Keeps μ s₀)
    (hm : Covers 0x1ffffffffffff03000301d8000061000000004c812486 μ := by exact .mono (by assumption)) :
    Answers μ s₀ (execFirmwareCommitPrefer v x s) :=
  h.commitCmd.next

theorem execFirmwareCommitActivate {v : NvmeCmd} {x : CommitInfo} (h : s.Keeps μ s₀)
    (hm : Covers 0x1ffffffffffff03000301d8000061000000004c812486 μ := by exact .mono (by assumption)) :
    Answers μ s₀ (execFirmwareCommitActivate v x s) :=
  h.commitCmd.next

theorem updCommit {f : FwCommit → FwCommit} (h : s.Keeps μ s₀)
    (hm : Covers 0x200000000000000000000000000 μ := by exact .mono (by assumption)) : (s.updCommit f).Keeps μ s₀ := h.updLive

theorem commitEnd {st : Status} (h : s.Keeps μ s₀)
    (hm : Covers 0x1ffffffffffff03000301d8000060000000000c812402 μ := by exact .mono (by assumption)) : (s.commitEnd st).Keeps μ s₀ := by
  unfold State.commitEnd
  split
  · exact h
  · extract_lets +onlyGivenNames s1
    have h1 : s1.Keeps μ s₀ := h.updLive
    exact h1.finish.ite h1

theorem liveEnd {c : FwCommit} (h : s.Keeps μ s₀)
    (hm : Covers 0x1ffffffffffff03000321d8000060000000000c812486 μ := by exact .mono (by assumption)) : (s.liveEnd c).Keeps μ s₀ := by
  unfold State.liveEnd
  extract_lets +onlyGivenNames s1 s2 s3
  have h1 : s1.Keeps μ s₀ := h.nameBank.wr
  have h2 : s2.Keeps μ s₀ := h1.updLive
  have h3 : s3.Keeps μ s₀ := h2.raise.ite h2
  exact h3.commitEnd

theorem bankWritten {partner ok : Bool} (h : s.Keeps μ s₀)
    (hm : Covers 0x1ffffffffffff03000311d8000060000000000c812402 μ := by exact .mono (by assumption)) : (s.bankWritten partner ok).Keeps μ s₀ := by
  unfold State.bankWritten
  split
  · exact h
  · split
    · exact h
    · split
      · exact h.commitEnd
      · extract_lets +onlyGivenNames s1 s2
        have h2 : s2.Keeps μ s₀ := h.ite h.of_eq
        extract_lets +onlyGivenNames s3
        have h3 : s3.Keeps μ s₀ := h2.updCommit
        exact h3.ite (h3.commitEnd.ite h3.writeDesc)

theorem putDesc {bank : Nat} (h : s.Keeps μ s₀)
    (hm : Covers 0x10000000000000000000000000 μ := by exact .mono (by assumption)) : (s.putDesc bank).Keeps μ s₀ := by
  unfold State.putDesc
  dsimp -zeta only
  exact h.of_eq

theorem descWritten {partner : Bool} (h : s.Keeps μ s₀)
    (hm : Covers 0x1ffffffffffff03000331d8000060000000000c812486 μ := by exact .mono (by assumption)) : (s.descWritten partner).Keeps μ s₀ := by
  unfold State.descWritten
  split
  · exact h
  · split
    · exact h
    · extract_lets +onlyGivenNames s1 s2
      have h1 : s1.Keeps μ s₀ := h.ite h.putDesc
      have h2 : s2.Keeps μ s₀ := h1.updCommit
      exact (h2.ite h2.liveEnd).ite (h2.ite h2.commitEnd)

theorem bankRead {partner ok : Bool} {bank : Nat} (h : s.Keeps μ s₀)
    (hm : Covers 0x1ffffffffffff03000301d8000060000000000c8124c6 μ := by exact .mono (by assumption)) : (s.bankRead partner ok bank).Keeps μ s₀ := by
  unfold State.bankRead
  split
  · split
    · exact h
    · split
      · exact h.abandonLive
      · extract_lets +onlyGivenNames s1
        have h1 : s1.Keeps μ s₀ := h.updCommit
        exact h1.wr.ite h1
  · split
    · exact h
    · split
      · exact h
      · extract_lets +onlyGivenNames id s1
        have h1 : s1.Keeps μ s₀ := h.updLive
        exact h1.wr.liveStart

theorem execFlashWriteDone {e : FlashEnd} (h : s.Keeps μ s₀)
    (hm : Covers 0x1ffffffffffff03000331d8000060000000000c8124c6 μ := by exact .mono (by assumption)) : Answers μ s₀ (execFlashWriteDone e s) := by
  unfold Machine.execFlashWriteDone
  refine State.Keeps.next ?_
  split
  · exact h.bankWritten
  · exact h.descWritten
  · exact h.bankRead

theorem partnerReloaded {ok last : Bool} (h : s.Keeps μ s₀)
    (hm : Covers 0x1ffffffffffff03000301d8000060000000200c8124c6 μ := by exact .mono (by assumption)) : (s.partnerReloaded ok last).Keeps μ s₀ := by
  unfold State.partnerReloaded
  extract_lets +onlyGivenNames s1
  have h1 : s1.Keeps μ s₀ := h.endHold
  split
  · exact h1
  · split
    · exact h1.abandonLive
    · split
      · exact h1
      · split
        · exact h1.wr.startHandover
        · split
          · split
            · exact h1.wr.writeDesc
            · exact h1
          · exact h1

theorem refuseLive (h : s.Keeps μ s₀)
    (hm : Covers 0x800000000000000000000000000000000002 μ := by exact .mono (by assumption)) :
    s.refuseLive.Keeps μ s₀ := (h.wr (f := F.CTL_LIVE_STAT_REFUSED) (hm.writes .CTL_LIVE_STAT_HOLD 0))

theorem reloadOrder {b : Nat} (h : s.Keeps μ s₀)
    (hm : Covers 0x1ffffffffffff0300030002b400000000000000000cfe μ := by exact .mono (by assumption)) : (s.reloadOrder b).Keeps μ s₀ := by
  unfold State.reloadOrder
  split
  · exact h.refuseLive
  · split
    · extract_lets +onlyGivenNames s1
      have h1 : s1.Keeps μ s₀ := h.abandonRotation.ite h
      exact h1.startReload
    · exact h.reloadSingleton

theorem execCtlLiveReload {bench : Nat} (h : s.Keeps μ s₀)
    (hm : Covers 0x1ffffffffffff0300030002b400000000000000000cfe μ := by exact .mono (by assumption)) : Answers μ s₀ (execCtlLiveReload bench s) := by
  unfold Machine.execCtlLiveReload
  exact (h.atWindow fun _ ht => ht.reloadOrder).next

theorem retireOrder (h : s.Keeps μ s₀)
    (hm : Covers 0x1ffffffffffff03000105f800a060120eb0701d812486 μ := by exact .mono (by assumption)) : s.retireOrder.Keeps μ s₀ := by
  unfold State.retireOrder
  split
  · exact h.refuseLive
  · extract_lets +onlyGivenNames s1 s2 s3
    have h1 : s1.Keeps μ s₀ := h.haulSend.send
    have h2 : s2.Keeps μ s₀ := h1.updPair
    have h3 : s3.Keeps μ s₀ := h2.foldl fun _ _ ht => ht.holdPerst.setOut
    exact h3.epLinkReset.wr.raise

theorem execCtlLiveRetire (h : s.Keeps μ s₀)
    (hm : Covers 0x1ffffffffffff03000305f800a060120eb0701d812486 μ := by exact .mono (by assumption)) : Answers μ s₀ (execCtlLiveRetire s) := by
  unfold Machine.execCtlLiveRetire
  exact (h.atWindow fun _ ht => ht.retireOrder).next

theorem setAvs {mv : Nat} (h : s.Keeps μ s₀)
    (hm : Covers 0x1ffffffffffff03000000000000000000000000000402 μ := by exact .mono (by assumption)) : (s.setAvs mv).Keeps μ s₀ := h.wr.send

theorem execAvsTimer {low above answers : Bool} (h : s.Keeps μ s₀)
    (hm : Covers 0x1ffffffffffff03000200000000000000000000000486 μ := by exact .mono (by assumption)) :
    Answers μ s₀ (execAvsTimer low above answers s) := by
  unfold Machine.execAvsTimer
  refine State.Keeps.next ?_
  split
  · exact h
  · extract_lets +onlyGivenNames mv s1
    have h1 : s1.Keeps μ s₀ := h.updLive.wrB
    split
    · exact h1.wr.raise
    · extract_lets +onlyGivenNames s2
      have h2 : s2.Keeps μ s₀ := h1.wr.wrB
      split
      · exact h2.ite h2.raise.updLive
      · exact h2.setAvs.updLive.ite (h2.setAvs.ite h2)

theorem execHaulRecalTimer {half : Nat} (h : s.Keeps μ s₀)
    (hm : Covers 0x4000e8000001000100000000000000000000000486 μ := by exact .mono (by assumption)) : Answers μ s₀ (execHaulRecalTimer half s) := by
  unfold Machine.execHaulRecalTimer
  refine State.Keeps.next ?_
  extract_lets +onlyGivenNames h1
  exact h.updHalf.halfOut.raise.ite h

theorem execMemRetrainTimer {channel rank : Nat} {drift : Bool} (h : s.Keeps μ s₀)
    (hm : Covers 0x1000200000000000000000000000486 μ := by exact .mono (by assumption)) :
    Answers μ s₀ (execMemRetrainTimer channel rank drift s) := by
  unfold Machine.execMemRetrainTimer
  refine State.Keeps.next ?_
  extract_lets +onlyGivenNames m last
  exact h.updLive.raise.ite h

theorem execMemZqTimer {channel rank : Nat} (h : s.Keeps μ s₀)
    (hm : Covers 0x200000000000000000000000000 μ := by exact .mono (by assumption)) : Answers μ s₀ (execMemZqTimer channel rank s) := by
  unfold Machine.execMemZqTimer
  exact (h.updLive.ite h).next

theorem execTimeAlignTimer {dev : List (Nat × ℤ)} (h : s.Keeps μ s₀)
    (hm : Covers 0x200000000000000000000000004 μ := by exact .mono (by assumption)) : Answers μ s₀ (execTimeAlignTimer dev s) := by
  unfold Machine.execTimeAlignTimer
  refine State.Keeps.next ?_
  split
  · exact h
  · refine h.updLive.foldl fun a x ha => ?_
    split
    · exact ha
    · extract_lets +onlyGivenNames t
      exact ha.updBench

/-! ### Latches and held accesses -/

theorem meterCopy {time seq : Nat} (h : s.Keeps μ s₀)
    (hm : Covers 0x2000000000000080000 μ := by exact .mono (by assumption)) : (s.meterCopy time seq).Keeps μ s₀ := by
  unfold State.meterCopy
  exact h.ite h.of_eq

theorem releaseTenants {time : Nat} (h : s.Keeps μ s₀)
    (hm : Covers 0x40000 μ := by exact .mono (by assumption)) : (s.releaseTenants time).Keeps μ s₀ := h.of_eq

theorem fireShot {x : Shot} (h : s.Keeps μ s₀)
    (hm : Covers 0x1ffffffffffff030000000014020000000000003c0d86 μ := by exact .mono (by assumption)) : (s.fireShot x).Keeps μ s₀ := by
  unfold State.fireShot
  extract_lets +onlyGivenNames old seq s1 s2 s3 s4 s5 s6
  have h1 : s1.Keeps μ s₀ := h.foldl fun _ _ ht => ht.lpiAccrue
  have h2 : s2.Keeps μ s₀ := h1.foldl fun _ _ ht => ht.latchBench
  have h3 : s3.Keeps μ s₀ := h2.wr.wr64
  have h4 : s4.Keeps μ s₀ := h3.updTim
  have h5 : s5.Keeps μ s₀ := h4.wr.ite h4
  have h6 : s6.Keeps μ s₀ := h5.raise
  exact h6.meterCopy.saveMeters.releaseTenants

theorem execShotTimeReached (h : s.Keeps μ s₀)
    (hm : Covers 0x1ffffffffffff0300000002b4020000000000003c0dfe μ := by exact .mono (by assumption)) : Answers μ s₀ (execShotTimeReached s) := by
  unfold Machine.execShotTimeReached
  refine State.Keeps.next ?_
  split
  · exact h
  · split
    · exact h
    · extract_lets +onlyGivenNames s1
      have h1 : s1.Keeps μ s₀ := h.updTim.syncPending
      exact (h1.refuseShot.ite h1.fireShot).runDeferred

/-! ### TRU -/

theorem updTru {f : Tru → Tru} (h : s.Keeps μ s₀)
    (hm : Covers 0x40000000000000000000000000 μ := by exact .mono (by assumption)) : (s.updTru f).Keeps μ s₀ := h.of_eq

theorem svnCommit (h : s.Keeps μ s₀)
    (hm : Covers 0x10000000000001000008000000000000000000000486 μ := by exact .mono (by assumption)) : s.svnCommit.Keeps μ s₀ := by
  unfold State.svnCommit
  split
  · exact h
  · split
    · exact (h.wr (hm.writes .TRU_STAT_CMD_REFUSED 0))
    · split
      · exact (h.wr (hm.writes .TRU_STAT_CMD_REFUSED 0))
      · next b _ _ =>
        refine raise (h.of_eq (hfuses := ?_))
        rintro ⟨hfw, hown, hlife, hrevoke⟩
        exact ⟨by dsimp only; omega, by dsimp only; omega, hlife, hrevoke⟩

theorem execTruSvnCommit (h : s.Keeps μ s₀)
    (hm : Covers 0x10000000000001000008000000000000000000000486 μ := by exact .mono (by assumption)) :
    Answers μ s₀ (execTruSvnCommit s) := h.svnCommit.next

theorem zeroiseKeys (h : s.Keeps μ s₀)
    (hm : Covers 0x40000018000000000000000000 μ := by exact .mono (by assumption)) : s.zeroiseKeys.Keeps μ s₀ := h.of_eq

theorem enterDebug {level : Nat} (h : s.Keeps μ s₀)
    (hm : Covers 0x10000000000001000040000018000000000000000486 μ := by exact .mono (by assumption)) : (s.enterDebug level).Keeps μ s₀ := by
  unfold State.enterDebug
  extract_lets +onlyGivenNames s1
  have h1 : s1.Keeps μ s₀ := h.zeroiseKeys.controllerFault.updTru.ite h
  exact (h1.wr (f := F.TRU_STAT_DEBUG) (hm.writes .TRU_STAT_CMD_REFUSED 0)).raise

/-- What the parameter of a revocation and of a debug disable can be (Table TRU-3). -/
theorem tokenLayoutOk_param {a : Nat} (ha : tokenLayoutOk a = true) :
    (bytesAt a 4 1 = 1 → bytesAt a 5 1 < 4) ∧ (bytesAt a 4 1 = 4 → bytesAt a 5 1 ≤ 6) := by
  simp only [tokenLayoutOk, Bool.and_eq_true] at ha
  obtain ⟨⟨⟨⟨⟨⟨⟨-, hparam⟩, -⟩, -⟩, -⟩, -⟩, -⟩, -⟩ := ha
  refine ⟨fun hk => ?_, fun hk => ?_⟩
  · rw [hk] at hparam
    exact of_decide_eq_true hparam
  · rw [hk] at hparam
    have hand : bytesAt a 5 1 &&& 6 = bytesAt a 5 1 := by simpa using hparam
    rw [← hand]
    exact Nat.and_le_right

/-- A revocation (KIND 1). -/
theorem tokenDo_revoke {a : Nat} (h : s.Keeps μ s₀) (ha : tokenLayoutOk a = true) (hk : bytesAt a 4 1 = 1)
    (hm : Covers 0x8000000000000000000000000 μ := by exact .mono (by assumption)) : (s.tokenDo a).Keeps μ s₀ := by
  simp only [State.tokenDo, hk]
  refine h.of_eq (hfuses := ?_)
  rintro ⟨hfw, hown, hlife, hrevoke⟩
  exact ⟨hfw, hown, hlife, Nat.or_lt_two_pow (n := 4) hrevoke (Nat.pow_lt_pow_right (by decide) ((tokenLayoutOk_param ha).1 hk))⟩

/-- An owner seed (KIND 3). -/
theorem tokenDo_seed {a : Nat} (h : s.Keeps μ s₀) (hk : bytesAt a 4 1 = 3)
    (hm : Covers 0x8000000000000000000000000 μ := by exact .mono (by assumption)) :
    (s.tokenDo a).Keeps μ s₀ := by
  simp only [State.tokenDo, hk]
  refine h.of_eq (hfuses := ?_)
  rintro ⟨hfw, hown, hlife, hrevoke⟩
  exact ⟨hfw, hown, Nat.or_lt_two_pow (n := 4) hlife (by decide), hrevoke⟩

/-- A debug disable (KIND 4). -/
theorem tokenDo_disable {a : Nat} (h : s.Keeps μ s₀) (ha : tokenLayoutOk a = true) (hk : bytesAt a 4 1 = 4)
    (hm : Covers 0x8000000000000000000000000 μ := by exact .mono (by assumption)) : (s.tokenDo a).Keeps μ s₀ := by
  simp only [State.tokenDo, hk]
  refine h.of_eq (hfuses := ?_)
  rintro ⟨hfw, hown, hlife, hrevoke⟩
  exact ⟨hfw, hown, Nat.or_lt_two_pow (n := 4) hlife (Nat.lt_of_le_of_lt ((tokenLayoutOk_param ha).2 hk) (by decide)), hrevoke⟩

theorem tokenDo {a : Nat} (h : s.Keeps μ s₀) (ha : tokenLayoutOk a = true)
    (hm : Covers 0x10000000000001000048000018000000000000000486 μ := by exact .mono (by assumption)) :
    (s.tokenDo a).Keeps μ s₀ := by
  by_cases h1 : bytesAt a 4 1 = 1
  · exact h.tokenDo_revoke ha h1
  by_cases h3 : bytesAt a 4 1 = 3
  · exact h.tokenDo_seed h3
  by_cases h4 : bytesAt a 4 1 = 4
  · exact h.tokenDo_disable ha h4
  unfold State.tokenDo
  extract_lets +onlyGivenNames p burn
  split
  · contradiction
  · exact h.enterDebug.ite (h.enterDebug.ite h)
  · contradiction
  · contradiction
  · exact h

theorem tokenLayoutOk_of_result {a : Nat} (h : s.tokenResult a = 0) : tokenLayoutOk a = true := by
  by_contra hbad
  rw [State.tokenResult, if_pos (by simpa using hbad)] at h
  exact absurd h (by decide)

/-- The evaluation of a token whose action is known. -/
theorem tokenGo_of (h : s.Keeps μ s₀) (hdo : s.tokenResult s.tru.token = 0 → (s.tokenDo s.tru.token).Keeps μ s₀)
    (hm : Covers 0x20000000000001000040000000000000000000000486 μ := by exact .mono (by assumption)) : s.tokenGo.Keeps μ s₀ := by
  unfold State.tokenGo
  split
  · exact h
  · extract_lets +onlyGivenNames a r first s1 s2
    have h1 : s1.Keeps μ s₀ := by
      unfold s1
      split
      · next hr => exact hdo hr
      · exact h
    have h2 : s2.Keeps μ s₀ := h1.updTru
    exact (h2.wr (hm.writes .TRU_TOKEN_CMD_RESULT 0)).raise

theorem tokenGo (h : s.Keeps μ s₀)
    (hm : Covers 0x30000000000001000048000018000000000000000486 μ := by exact .mono (by assumption)) : s.tokenGo.Keeps μ s₀ :=
  h.tokenGo_of fun hr => h.tokenDo (tokenLayoutOk_of_result hr)

theorem tokenOf {kind area : Nat} (h : s.Keeps μ s₀)
    (hm : Covers 0x30000000000001000048000018000000000000000486 μ := by exact .mono (by assumption)) :
    (s.tokenOf kind area).Keeps μ s₀ := h.updTru.tokenGo

theorem execTokenRevoke {area : Nat} (h : s.Keeps μ s₀)
    (hm : Covers 0x30000000000001000048000018000000000000000486 μ := by exact .mono (by assumption)) :
    Answers μ s₀ (execTokenRevoke area s) := h.tokenOf.next

theorem execTokenDebugUnlock {area : Nat} (h : s.Keeps μ s₀)
    (hm : Covers 0x30000000000001000048000018000000000000000486 μ := by exact .mono (by assumption)) :
    Answers μ s₀ (execTokenDebugUnlock area s) := h.tokenOf.next

theorem execTokenOwnerSeed {area : Nat} (h : s.Keeps μ s₀)
    (hm : Covers 0x30000000000001000048000018000000000000000486 μ := by exact .mono (by assumption)) :
    Answers μ s₀ (execTokenOwnerSeed area s) := h.tokenOf.next

theorem execTokenDebugDisable {area : Nat} (h : s.Keeps μ s₀)
    (hm : Covers 0x30000000000001000048000018000000000000000486 μ := by exact .mono (by assumption)) :
    Answers μ s₀ (execTokenDebugDisable area s) := h.tokenOf.next

theorem nonceDraw (h : s.Keeps μ s₀) (hm : Covers 0x40000000000000000000000800 μ := by exact .mono (by assumption)) : s.nonceDraw.Keeps μ s₀ := by
  unfold State.nonceDraw
  split
  · exact h
  · dsimp -zeta only
    exact h.draw.updTru

theorem execTruNonceRead (h : s.Keeps μ s₀)
    (hm : Covers 0x40000000000000000000000c00 μ := by exact .mono (by assumption)) : Answers μ s₀ (execTruNonceRead s) := by
  unfold Machine.execTruNonceRead
  refine State.Keeps.next ?_
  extract_lets +onlyGivenNames s1
  have h1 : s1.Keeps μ s₀ := h.nonceDraw
  exact h1.send

theorem execTrngHealthFail (h : s.Keeps μ s₀)
    (hm : Covers 0x10000000000001000020000000000000000000000486 μ := by exact .mono (by assumption)) : Answers μ s₀ (execTrngHealthFail s) := by
  unfold Machine.execTrngHealthFail
  exact (h.ite (h.stopStart.ite (h.wr (f := F.TRU_STAT_STOP) (hm.writes .TRU_STAT_CMD_REFUSED 0)).raise)).next

theorem pairingDone {m : PairMsg} (h : s.Keeps μ s₀)
    (hm : Covers 0x80078001000140000018010000000000000c86 μ := by exact .mono (by assumption)) : (s.pairingDone m).Keeps μ s₀ := by
  unfold State.pairingDone
  extract_lets +onlyGivenNames s1 own isB keys s2 again s3 s4
  have h1 : s1.Keeps μ s₀ := h.sendPairing
  have h2 : s2.Keeps μ s₀ := by
    unfold s2
    refine h1.foldl fun a x ha => ?_
    extract_lets +onlyGivenNames kgen
    exact ha.setHaulKey
  have h3 : s3.Keeps μ s₀ := h2.updPair.updTru
  have h4 : s4.Keeps μ s₀ := h3.haulSend.send.updTru.ite (h3.updTru.ite h3)
  exact h4.ite h4.sendHello

theorem execPairingMessage {m : PairMsg} (h : s.Keeps μ s₀)
    (hm : Covers 0x4000a8078001000140000018010000000010000c86 μ := by exact .mono (by assumption)) : Answers μ s₀ (execPairingMessage m s) := by
  unfold Machine.execPairingMessage
  refine State.Keeps.next ?_
  split
  · exact h
  · split
    · exact h.raise.enterHeld
    · split
      · extract_lets +onlyGivenNames s1
        have h1 : s1.Keeps μ s₀ := h.raise
        exact h1.digestDiffers.ite h1
      · exact h.pairingDone

theorem spdmSay {p code : Nat} {data : List Nat} (h : s.Keeps μ s₀)
    (hm : Covers 0x400 μ := by exact .mono (by assumption)) : (s.spdmSay p code data).Keeps μ s₀ := h.send

theorem spdmError {p code : Nat} (h : s.Keeps μ s₀)
    (hm : Covers 0x400 μ := by exact .mono (by assumption)) : (s.spdmError p code).Keeps μ s₀ := h.spdmSay

theorem spdmTo {p k : Nat} (h : s.Keeps μ s₀)
    (hm : Covers 0x40000000000000000000000000 μ := by exact .mono (by assumption)) : (s.spdmTo p k).Keeps μ s₀ := h.updTru

theorem spdmAsk {p least : Nat} {f : State → State} (h : s.Keeps μ s₀) (hf : ∀ (a : State), a.Keeps μ s₀ → (f a).Keeps μ s₀)
    (hm : Covers 0x400 μ := by exact .mono (by assumption)) :
    (s.spdmAsk p least f).Keeps μ s₀ := by
  unfold State.spdmAsk
  split
  · exact h
  · exact h.spdmError.ite (h.spdmError.ite (h.spdmError.ite (hf _ h)))

theorem spdmSign {p code : Nat} {data : List Nat} (h : s.Keeps μ s₀)
    (hm : Covers 0x40000000000000000000000400 μ := by exact .mono (by assumption)) : (s.spdmSign p code data).Keeps μ s₀ := by
  unfold State.spdmSign
  extract_lets +onlyGivenNames q
  split
  · exact h.spdmError
  · extract_lets +onlyGivenNames t
    exact h.updTru.spdmSay

theorem execSpdmGetVersion {path : Nat} (h : s.Keeps μ s₀)
    (hm : Covers 0x40000000000000000000000400 μ := by exact .mono (by assumption)) : Answers μ s₀ (execSpdmGetVersion path s) := by
  unfold Machine.execSpdmGetVersion
  exact (h.spdmAsk fun _ ht => ht.spdmTo.spdmSay).next

theorem execSpdmGetCapabilities {path : Nat} (h : s.Keeps μ s₀)
    (hm : Covers 0x40000000000000000000000400 μ := by exact .mono (by assumption)) : Answers μ s₀ (execSpdmGetCapabilities path s) := by
  unfold Machine.execSpdmGetCapabilities
  exact (h.spdmAsk fun _ ht => ht.spdmTo.spdmSay).next

theorem execSpdmNegotiateAlgorithms {path : Nat} {offered : Bool} (h : s.Keeps μ s₀)
    (hm : Covers 0x40000000000000000000000400 μ := by exact .mono (by assumption)) :
    Answers μ s₀ (execSpdmNegotiateAlgorithms path offered s) := by
  unfold Machine.execSpdmNegotiateAlgorithms
  exact (h.spdmAsk fun _ ht => ht.spdmTo.spdmSay.ite ht.spdmError).next

theorem execSpdmGetDigests {path : Nat} (h : s.Keeps μ s₀)
    (hm : Covers 0x400 μ := by exact .mono (by assumption)) : Answers μ s₀ (execSpdmGetDigests path s) := by
  unfold Machine.execSpdmGetDigests
  refine State.Keeps.next ?_
  refine h.spdmAsk fun t ht => ?_
  split
  · exact ht.spdmSay
  · exact ht.spdmSay

theorem execSpdmGetCertificate {path slot ofs len : Nat} (h : s.Keeps μ s₀) (hm : Covers 0x400 μ := by exact .mono (by assumption)) :
    Answers μ s₀ (execSpdmGetCertificate path slot ofs len s) := by
  unfold Machine.execSpdmGetCertificate
  refine State.Keeps.next ?_
  refine h.spdmAsk fun t ht => ?_
  split
  · exact ht.spdmError.ite ht.spdmSay
  · exact ht.spdmError

theorem execSpdmChallenge {path slot nonce : Nat} (h : s.Keeps μ s₀)
    (hm : Covers 0x40000000000000000000000400 μ := by exact .mono (by assumption)) : Answers μ s₀ (execSpdmChallenge path slot nonce s) := by
  unfold Machine.execSpdmChallenge
  refine State.Keeps.next ?_
  refine h.spdmAsk fun t ht => ?_
  split
  · exact ht.spdmError.ite ht.spdmSign
  · exact ht.spdmError

theorem execSpdmGetMeasurements {path index nonce : Nat} {sign : Bool} (h : s.Keeps μ s₀)
    (hm : Covers 0x40000000000000000000000400 μ := by exact .mono (by assumption)) :
    Answers μ s₀ (execSpdmGetMeasurements path index nonce sign s) := by
  unfold Machine.execSpdmGetMeasurements
  refine State.Keeps.next ?_
  refine h.spdmAsk fun t ht => ?_
  extract_lets +onlyGivenNames all data?
  clear_value data?
  split
  · exact ht.spdmError
  · exact ht.spdmSign.ite ht.spdmSay

/-! ### Register writes -/

theorem regRead {path addr : Nat} (h : s.Keeps μ s₀)
    (hm : Covers 0x440001400000000000000000800 μ := by exact .mono (by assumption)) : (s.regRead path addr).1.Keeps μ s₀ := by
  unfold State.regRead
  extract_lets +onlyGivenNames b off
  split
  · exact h
  · split
    · exact h.statRead
    · split
      · exact h
      · extract_lets +onlyGivenNames s1 v
        have h1 : s1.Keeps μ s₀ := h.nonceDraw.ite h
        exact h1.latch.ite h1

theorem ignWrite (h : s.Keeps μ s₀)
    (hm : Covers 0x1ffffffffffff03000000000000000000000000000002 μ := by exact .mono (by assumption)) : s.ignWrite.Keeps μ s₀ := h.bump

theorem singletonCmd {b off m : Nat} (h : s.Keeps μ s₀)
    (hm : Covers 0x1ffffffffffff030003cdfab4b860f21eb0701d812dfe μ := by exact .mono (by assumption)) : (s.singletonCmd b off m).Keeps μ s₀ := by
  unfold State.singletonCmd
  split
  · exact h.rotCfgChanged
  · exact h.rotNow
  · extract_lets +onlyGivenNames s1
    have h1 : s1.Keeps μ s₀ := h.reloadOrder.ite h
    exact h1.retireOrder.ite h1
  · exact h.svnCommit.ite h
  · exact h.tokenGo.ite h
  · extract_lets +onlyGivenNames s1
    have h1 : s1.Keeps μ s₀ := h.srcChanged
    exact h1.setStep.ite h1
  · exact h.shotCmd
  · exact h.orderChainReset.ite h
  · extract_lets +onlyGivenNames s1
    have h1 : s1.Keeps μ s₀ := h.cacheSetEn.ite h
    exact h1.cacheClrEn.ite h1
  · exact h.maintStart.ite h
  · exact h.foldl fun _ _ ht => ht.halfDown.ite ht
  · extract_lets +onlyGivenNames s1
    have h1 : s1.Keeps μ s₀ := h.startHandover.ite h
    exact h1.unfence.ite h1
  · exact h.syncFwd
  · exact h

theorem memberOrder {m : Nat} (h : s.Keeps μ s₀)
    (hm : Covers 0x1ffffffffffff03000101d8008061200ef5701c812486 μ := by exact .mono (by assumption)) : (s.memberOrder m).Keeps μ s₀ := by
  unfold State.memberOrder
  extract_lets +onlyGivenNames slot
  split
  · exact h.orderDrain
  · exact h.orderFail
  · exact h.orderJoin
  · exact h.orderForget
  · exact h

theorem classCmd {c b off m : Nat} (h : s.Keeps μ s₀)
    (hm : Covers 0x1ffffffffffff03000101d8008061208ef5701c812486 μ := by exact .mono (by assumption)) : (s.classCmd c b off m).Keeps μ s₀ := by
  unfold State.classCmd
  split
  · exact h.memberOrder.ite (h.reshapeOrder.ite h)
  · split
    · split
      · extract_lets +onlyGivenNames n1 s1 s2
        have h1 : s1.Keeps μ s₀ := h.syncLed
        have h2 : s2.Keeps μ s₀ := h1.powerOnOrder.ite h1
        exact h2.powerOffOrder.ite h2
      · exact h
    · exact h

theorem writeBits {b off v mask : Nat} (h : s.Keeps μ s₀)
    (hm : Covers 0x1ffffffffffff030003cdfab4b861f29ef5701d812dfe μ := by exact .mono (by assumption)) : (s.writeBits b off v mask).1.Keeps μ s₀ := by
  unfold State.writeBits
  extract_lets +onlyGivenNames w
  split
  · extract_lets +onlyGivenNames o old
    dsimp only
    exact h.updTru
  · extract_lets +onlyGivenNames was
    dsimp -zeta only
    extract_lets +onlyGivenNames s1 s2
    have h1 : s1.Keeps μ s₀ := h.writeReg.ppsCfgChanged
    have h2 : s2.Keeps μ s₀ := h1.qosRestart.ite h1
    dsimp -zeta only
    split
    · exact h2.classCmd
    · exact h2.singletonCmd

theorem regWrite {addr v mask : Nat} (h : s.Keeps μ s₀)
    (hm : Covers 0x1ffffffffffff030003cdfab4b861f29ef5701d812dfe μ := by exact .mono (by assumption)) : (s.regWrite addr v mask).1.Keeps μ s₀ := by
  unfold State.regWrite
  extract_lets +onlyGivenNames b off
  split
  · exact h.ignWrite
  · split
    · exact h.ignWrite
    · dsimp -zeta only
      exact h.writeBits

theorem readAccess {path addr : Nat} (h : s.Keeps μ s₀)
    (hm : Covers 0x640001400000000000000000c00 μ := by exact .mono (by assumption)) : (s.readAccess path addr).Keeps μ s₀ := by
  unfold State.readAccess
  split
  · exact h.holdAccess
  · dsimp -zeta only
    exact h.regRead.send

theorem writeAccess {addr v mask : Nat} (h : s.Keeps μ s₀)
    (hm : Covers 0x1ffffffffffff030003cdfab4b861f29ef5701d812dfe μ := by exact .mono (by assumption)) : (s.writeAccess addr v mask).Keeps μ s₀ := by
  unfold State.writeAccess
  exact h.holdAccess.ite h.regWrite

theorem execHalfLatchRead {path addr : Nat} (h : s.Keeps μ s₀)
    (hm : Covers 0x640001400000000000000000c00 μ := by exact .mono (by assumption)) : Answers μ s₀ (execHalfLatchRead path addr s) := by
  unfold Machine.execHalfLatchRead
  exact (h.readAccess.ite h).next

theorem execRegisterWrite {path addr : Nat} {v : Word} (h : s.Keeps μ s₀)
    (hm : Covers 0x1ffffffffffff030003cdfab4b861f29ef5701d812dfe μ := by exact .mono (by assumption)) :
    Answers μ s₀ (execRegisterWrite path addr v s) := by
  unfold Machine.execRegisterWrite
  exact (h.writeAccess.ite h).next

theorem execBenchLockSet {bench : Nat} (h : s.Keeps μ s₀)
    (hm : Covers 0x1ffffffffffff030003cdfab4b861f29ef5701d812dfe μ := by exact .mono (by assumption)) : Answers μ s₀ (execBenchLockSet bench s) := by
  unfold Machine.execBenchLockSet
  exact (h.writeAccess.ite h).next

theorem bar2Word {write : Bool} {addr v : Nat} {all : Bool} (h : s.Keeps μ s₀)
    (hm : Covers 0x1ffffffffffff030007cdfab4b861f29ef5701d812dfe μ := by exact .mono (by assumption)) : (s.bar2Word write addr v all).Keeps μ s₀ := by
  unfold State.bar2Word
  extract_lets +onlyGivenNames behind
  split
  · exact h
  · split
    · exact h.holdAccess
    · split
      · exact h.regWrite.ite h.ignWrite
      · dsimp -zeta only
        exact h.regRead.send

theorem execBar2Access {write : Bool} {addr : Nat} {words : List (Nat × Bool)} (h : s.Keeps μ s₀)
    (hm : Covers 0x1ffffffffffff030007cdfab4b861f29ef5701d812dfe μ := by exact .mono (by assumption)) :
    Answers μ s₀ (execBar2Access write addr words s) := by
  unfold Machine.execBar2Access
  refine State.Keeps.next ?_
  split
  · exact h
  · split
    · extract_lets +onlyGivenNames s1
      have h1 : s1.Keeps μ s₀ := h.ignWrite
      exact h1.ite h1.sendAll
    · exact h.foldl fun _ _ ht => ht.bar2Word

/-! ### Management -/

theorem updMgt {f : Mgt → Mgt} (h : s.Keeps μ s₀)
    (hm : Covers 0x400000000000000000000000000 μ := by exact .mono (by assumption)) : (s.updMgt f).Keeps μ s₀ := h.of_eq

theorem readWords {path addr k : Nat} (h : s.Keeps μ s₀)
    (hm : Covers 0x440001400000000000000000800 μ := by exact .mono (by assumption)) : (s.readWords path addr k).1.Keeps μ s₀ := by
  unfold State.readWords
  refine State.Keeps.foldl_fst h fun q x hq => ?_
  dsimp -zeta only
  exact hq.regRead

theorem writeWords {addr : Nat} {vs : List Nat} (h : s.Keeps μ s₀)
    (hm : Covers 0x1ffffffffffff030003cdfab4b861f29ef5701d812dfe μ := by exact .mono (by assumption)) : (s.writeWords addr vs).1.Keeps μ s₀ := by
  unfold State.writeWords
  refine State.Keeps.foldl_fst h fun q x hq => ?_
  dsimp -zeta only
  exact hq.regWrite

theorem subscribe {path eid minSev : Nat} {on : Bool} (h : s.Keeps μ s₀)
    (hm : Covers 0x1000 μ := by exact .mono (by assumption)) : (s.subscribe path eid minSev on).1.Keeps μ s₀ := by
  unfold State.subscribe
  extract_lets +onlyGivenNames held
  split
  · exact h.of_eq
  · split
    · exact h.of_eq
    · split
      · exact h
      · extract_lets +onlyGivenNames u
        exact h.of_eq

theorem regRequest {path command : Nat} {b : List Nat} (h : s.Keeps μ s₀)
    (hm : Covers 0x1ffffffffffff030007cdfab4b861f29ef5701d812dfe μ := by exact .mono (by assumption)) :
    (s.regRequest path command b).1.Keeps μ s₀ := by
  unfold State.regRequest
  extract_lets +onlyGivenNames a
  split
  · dsimp -zeta only
    exact h.readWords
  · dsimp -zeta only
    exact h.writeWords
  · dsimp -zeta only
    exact h.regRead.regWrite

theorem runRequest {d : ReplyTo} {tag command : Nat} {unwraps : Bool} {b : List Nat} (h : s.Keeps μ s₀)
    (hm : Covers 0x1ffffffffffff030007cdfab4b861f39ef5701d81bdfe μ := by exact .mono (by assumption)) :
    (s.runRequest d tag command unwraps b).Keeps μ s₀ := by
  unfold State.runRequest
  split
  · dsimp -zeta only
    exact h.regRequest.answer
  · split
    · dsimp -zeta only
      exact h.subscribe.answer
    · exact h.answer.ite h.adminByRole

theorem doRequest {d : ReplyTo} {tag command : Nat} {unwraps : Bool} {b : List Nat} (h : s.Keeps μ s₀)
    (hm : Covers 0x1ffffffffffff030007cdfab4b861f39ef5701d81bdfe μ := by exact .mono (by assumption)) :
    (s.doRequest d tag command unwraps b).Keeps μ s₀ := by
  unfold State.doRequest
  exact h.holdAccess.ite h.runRequest

theorem runWaits (h : s.Keeps μ s₀)
    (hm : Covers 0x1ffffffffffff030007cdfab4b861f39ef5701d81bdfe μ := by exact .mono (by assumption)) : s.runWaits.Keeps μ s₀ := by
  unfold State.runWaits
  refine h.updLive.foldl fun a x ha => ?_
  split
  · exact ha.readAccess
  · exact ha.writeAccess
  · exact ha.bar2Word
  · exact ha.doRequest

theorem execBenchReloadDone {partner : Bool} {bench : Nat} {ok last : Bool} (h : s.Keeps μ s₀)
    (hm : Covers 0x1ffffffffffff030007cdfabcb861f39ef5701d81bdfe μ := by exact .mono (by assumption)) :
    Answers μ s₀ (execBenchReloadDone partner bench ok last s) := by
  unfold Machine.execBenchReloadDone
  exact (h.partnerReloaded.ite h.reloadEnd.runWaits).next

theorem ownRequest {d : ReplyTo} {tag command : Nat} {unwraps : Bool} {b : List Nat} (h : s.Keeps μ s₀)
    (hm : Covers 0x1ffffffffffff030007cdfab4b861f39ef5701d81bdfe μ := by exact .mono (by assumption)) :
    (s.ownRequest d tag command unwraps b).Keeps μ s₀ := by
  unfold State.ownRequest
  extract_lets +onlyGivenNames code
  exact h.answer.ite (h.answer.ite h.doRequest)

theorem relayOut {path command : Nat} {r : VendorReq} (h : s.Keeps μ s₀)
    (hm : Covers 0x4000000400000000000000000000000402 μ := by exact .mono (by assumption)) : (s.relayOut path command r).Keeps μ s₀ := by
  unfold State.relayOut
  extract_lets +onlyGivenNames t s1
  have h1 : s1.Keeps μ s₀ := h.chainSend
  exact h1.updMgt

theorem vendor {path command : Nat} {r : VendorReq} {unwraps : Bool} (h : s.Keeps μ s₀)
    (hm : Covers 0x1ffffffffffff030007cdfab4b861f39ef5701d81bdfe μ := by exact .mono (by assumption)) :
    (s.vendor path command r unwraps).Keeps μ s₀ := by
  unfold State.vendor
  extract_lets +onlyGivenNames d
  split
  · exact (h.bump).ite h
  · split
    · exact h
    · split
      · split
        · dsimp -zeta only
          exact h.regRequest.answer
        · exact h
      · split
        · exact h
        · split
          · exact h.answer
          · split
            · exact h.answer
            · split
              · exact h.ownRequest
              · exact h.answer.ite (h.answer.ite (h.answer.ite h.relayOut))

theorem execMgtRegRead {path : Nat} {r : VendorReq} (h : s.Keeps μ s₀)
    (hm : Covers 0x1ffffffffffff030007cdfab4b861f39ef5701d81bdfe μ := by exact .mono (by assumption)) :
    Answers μ s₀ (execMgtRegRead path r s) := h.vendor.next

theorem execMgtRegWrite {path : Nat} {r : VendorReq} (h : s.Keeps μ s₀)
    (hm : Covers 0x1ffffffffffff030007cdfab4b861f39ef5701d81bdfe μ := by exact .mono (by assumption)) :
    Answers μ s₀ (execMgtRegWrite path r s) := h.vendor.next

theorem execMgtRegModify {path : Nat} {r : VendorReq} (h : s.Keeps μ s₀)
    (hm : Covers 0x1ffffffffffff030007cdfab4b861f39ef5701d81bdfe μ := by exact .mono (by assumption)) :
    Answers μ s₀ (execMgtRegModify path r s) := h.vendor.next

theorem execMgtEvSubscribe {path : Nat} {r : VendorReq} (h : s.Keeps μ s₀)
    (hm : Covers 0x1ffffffffffff030007cdfab4b861f39ef5701d81bdfe μ := by exact .mono (by assumption)) :
    Answers μ s₀ (execMgtEvSubscribe path r s) := h.vendor.next

theorem execMgtLogRead {path : Nat} {r : VendorReq} (h : s.Keeps μ s₀)
    (hm : Covers 0x1ffffffffffff030007cdfab4b861f39ef5701d81bdfe μ := by exact .mono (by assumption)) :
    Answers μ s₀ (execMgtLogRead path r s) := h.vendor.next

theorem execMgtIdentSet {path : Nat} {r : VendorReq} {unwraps : Bool} (h : s.Keeps μ s₀)
    (hm : Covers 0x1ffffffffffff030007cdfab4b861f39ef5701d81bdfe μ := by exact .mono (by assumption)) :
    Answers μ s₀ (execMgtIdentSet path r unwraps s) :=
  h.vendor.next

theorem execMgtIdentDereg {path : Nat} {r : VendorReq} (h : s.Keeps μ s₀)
    (hm : Covers 0x1ffffffffffff030007cdfab4b861f39ef5701d81bdfe μ := by exact .mono (by assumption)) :
    Answers μ s₀ (execMgtIdentDereg path r s) := h.vendor.next

theorem execMgtIdentGet {path : Nat} {r : VendorReq} (h : s.Keeps μ s₀)
    (hm : Covers 0x1ffffffffffff030007cdfab4b861f39ef5701d81bdfe μ := by exact .mono (by assumption)) :
    Answers μ s₀ (execMgtIdentGet path r s) := h.vendor.next

theorem execMgtQosSet {path : Nat} {r : VendorReq} (h : s.Keeps μ s₀)
    (hm : Covers 0x1ffffffffffff030007cdfab4b861f39ef5701d81bdfe μ := by exact .mono (by assumption)) :
    Answers μ s₀ (execMgtQosSet path r s) := h.vendor.next

theorem execMgtQosGet {path : Nat} {r : VendorReq} (h : s.Keeps μ s₀)
    (hm : Covers 0x1ffffffffffff030007cdfab4b861f39ef5701d81bdfe μ := by exact .mono (by assumption)) :
    Answers μ s₀ (execMgtQosGet path r s) := h.vendor.next

theorem relayIn {src relay command : Nat} {r : VendorReq} (h : s.Keeps μ s₀)
    (hm : Covers 0x1ffffffffffff030007cdfab4b861f39ef5701d81bdfe μ := by exact .mono (by assumption)) :
    (s.relayIn src relay command r).Keeps μ s₀ := by
  unfold State.relayIn
  extract_lets +onlyGivenNames d
  exact h.answer.ite (h.answer.ite h.ownRequest)

theorem relayBack {src relay cc detail : Nat} {body : List Nat} (h : s.Keeps μ s₀)
    (hm : Covers 0x400000000000000000000000400 μ := by exact .mono (by assumption)) :
    (s.relayBack src relay cc detail body).Keeps μ s₀ := by
  unfold State.relayBack
  split
  · exact h
  · exact h.updMgt.send

theorem relayMgmt {o : Out} (h : s.Keeps μ s₀)
    (hm : Covers 0x1ffffffffffff03000000000000000000000000000c02 μ := by exact .mono (by assumption)) : (s.relayMgmt o).Keeps μ s₀ := by
  unfold State.relayMgmt
  split
  · exact h
  · dsimp -zeta only
    exact h.draw.bump.ite h.draw.chainSend

theorem execChainMgmt {crcOk : Bool} {dst kind relay src command cc detail : Nat} {r : VendorReq} {fromUp : Bool} (h : s.Keeps μ s₀)
    (hm : Covers 0x1ffffffffffff030007cdfab4b861f39ef5701d81bdfe μ := by exact .mono (by assumption)) :
    Answers μ s₀ (execChainMgmt crcOk dst kind relay src command cc detail r fromUp s) := by
  unfold Machine.execChainMgmt
  refine State.Keeps.next ?_
  refine h.chainRx fun t ht => ?_
  split
  · exact ht
  · extract_lets +onlyGivenNames up s1
    have h1 : s1.Keeps μ s₀ := ht.relayMgmt.ite ht
    exact h1.ite (h1.relayIn.ite (h1.relayBack.ite h1))

theorem execRelayTimeout {tag : Nat} (h : s.Keeps μ s₀)
    (hm : Covers 0x400000000000000000000000400 μ := by exact .mono (by assumption)) : Answers μ s₀ (execRelayTimeout tag s) := by
  unfold Machine.execRelayTimeout
  refine State.Keeps.next ?_
  split
  · exact h
  · exact h.updMgt.send.ite h

theorem execEvNotifyResponse {path eid : Nat} (h : s.Keeps μ s₀)
    (hm : Covers 0x1000 μ := by exact .mono (by assumption)) : Answers μ s₀ (execEvNotifyResponse path eid s) := h.of_eq.next

theorem notify {u : Subscriber} (h : s.Keeps μ s₀) (hm : Covers 0x1400 μ := by exact .mono (by assumption)) : (s.notify u).Keeps μ s₀ := by
  unfold State.notify
  split
  · exact h
  · extract_lets +onlyGivenNames s1
    have h1 : s1.Keeps μ s₀ := h.send
    exact h1.of_eq

theorem execEvNotifyTimer {path eid : Nat} (h : s.Keeps μ s₀)
    (hm : Covers 0x1000000000000000000000000001486 μ := by exact .mono (by assumption)) : Answers μ s₀ (execEvNotifyTimer path eid s) := by
  unfold Machine.execEvNotifyTimer
  refine State.Keeps.next ?_
  split
  · exact h
  · split
    · exact h.notify
    · split
      · exact h
      · split
        · exact h.of_eq.raise
        · extract_lets +onlyGivenNames s1
          have h1 : s1.Keeps μ s₀ := h.of_eq
          exact h1.notify

theorem control {path command cc : Nat} {data : List Nat} (h : s.Keeps μ s₀)
    (hm : Covers 0x400 μ := by exact .mono (by assumption)) : (s.control path command cc data).Keeps μ s₀ := by
  unfold State.control
  exact h.send.ite h

theorem execMctpSetEndpointId {path op eid : Nat} (h : s.Keeps μ s₀)
    (hm : Covers 0x1000400000000000000000000000486 μ := by exact .mono (by assumption)) : Answers μ s₀ (execMctpSetEndpointId path op eid s) := by
  unfold Machine.execMctpSetEndpointId
  refine State.Keeps.next ?_
  split
  · exact h
  · split
    · exact h.control.ite h.assignEid.control
    · split
      · extract_lets +onlyGivenNames e
        exact h.control.ite h.assignEid.control
      · exact h.control.ite h.control

theorem execMctpGetEndpointId {path : Nat} (h : s.Keeps μ s₀)
    (hm : Covers 0x400 μ := by exact .mono (by assumption)) : Answers μ s₀ (execMctpGetEndpointId path s) := by
  unfold Machine.execMctpGetEndpointId
  refine State.Keeps.next ?_
  extract_lets +onlyGivenNames e
  exact h.control

theorem execMctpGetEndpointUuid {path : Nat} (h : s.Keeps μ s₀)
    (hm : Covers 0x400 μ := by exact .mono (by assumption)) : Answers μ s₀ (execMctpGetEndpointUuid path s) := h.control.next

theorem execMctpGetVersionSupport {path typ : Nat} (h : s.Keeps μ s₀)
    (hm : Covers 0x400 μ := by exact .mono (by assumption)) : Answers μ s₀ (execMctpGetVersionSupport path typ s) := by
  unfold Machine.execMctpGetVersionSupport
  exact (h.control.ite (h.control.ite h.control)).next

theorem execMctpGetMessageTypeSupport {path : Nat} (h : s.Keeps μ s₀)
    (hm : Covers 0x400 μ := by exact .mono (by assumption)) : Answers μ s₀ (execMctpGetMessageTypeSupport path s) :=
  h.control.next

theorem execMctpGetVendorSupport {path selector : Nat} (h : s.Keeps μ s₀) (hm : Covers 0x400 μ := by exact .mono (by assumption)) :
    Answers μ s₀ (execMctpGetVendorSupport path selector s) := by
  unfold Machine.execMctpGetVendorSupport
  exact (h.control.ite h.control).next

theorem execNvmeMiBasicManagement {port : Nat} {x : Sensors} (h : s.Keeps μ s₀) (hm : Covers 0x400 μ := by exact .mono (by assumption)) :
    Answers μ s₀ (execNvmeMiBasicManagement port x s) := by
  unfold Machine.execNvmeMiBasicManagement
  exact (h.send.ite h).next

theorem mi {path opcode : Nat} {f : State → State} (h : s.Keeps μ s₀) (hf : ∀ (a : State), a.Keeps μ s₀ → (f a).Keeps μ s₀)
    (hm : Covers 0x400 μ := by exact .mono (by assumption)) :
    (s.mi path opcode f).Keeps μ s₀ := by
  unfold State.mi
  exact h.ite (h.send.ite (hf _ h))

theorem miOk {path opcode : Nat} {data : List Nat} (h : s.Keeps μ s₀)
    (hm : Covers 0x400 μ := by exact .mono (by assumption)) : (s.miOk path opcode data).Keeps μ s₀ := h.send

theorem miBad {path opcode : Nat} (h : s.Keeps μ s₀)
    (hm : Covers 0x400 μ := by exact .mono (by assumption)) : (s.miBad path opcode).Keeps μ s₀ := h.send

theorem execNvmeMiReadDataStructure {path typ port ctl : Nat} (h : s.Keeps μ s₀) (hm : Covers 0x400 μ := by exact .mono (by assumption)) :
    Answers μ s₀ (execNvmeMiReadDataStructure path typ port ctl s) := by
  unfold Machine.execNvmeMiReadDataStructure
  refine State.Keeps.next ?_
  refine h.mi fun t ht => ?_
  split
  · exact ht.miOk
  · split
    · exact ht.miOk
    · split
      · extract_lets +onlyGivenNames l
        exact ht.miOk
      · split
        · split
          · extract_lets +onlyGivenNames f
            exact ht.miOk
          · exact ht.miBad
        · exact ht.miBad

theorem execNvmeMiSubsystemHealthPoll {path : Nat} {x : Sensors} (h : s.Keeps μ s₀) (hm : Covers 0xc00 μ := by exact .mono (by assumption)) :
    Answers μ s₀ (execNvmeMiSubsystemHealthPoll path x s) := by
  unfold Machine.execNvmeMiSubsystemHealthPoll
  refine State.Keeps.next ?_
  refine h.mi fun t ht => ?_
  dsimp -zeta only
  exact ht.draw.miOk

theorem execNvmeMiControllerHealthPoll {path first : Nat} {x : Sensors} (h : s.Keeps μ s₀) (hm : Covers 0xc00 μ := by exact .mono (by assumption)) :
    Answers μ s₀ (execNvmeMiControllerHealthPoll path first x s) := by
  unfold Machine.execNvmeMiControllerHealthPoll
  refine State.Keeps.next ?_
  refine h.mi fun t ht => ?_
  dsimp -zeta only
  extract_lets +onlyGivenNames l
  exact ht.draw.miOk

theorem execNvmeMiConfigurationGet {path id port : Nat} (h : s.Keeps μ s₀) (hm : Covers 0x400 μ := by exact .mono (by assumption)) :
    Answers μ s₀ (execNvmeMiConfigurationGet path id port s) := by
  unfold Machine.execNvmeMiConfigurationGet
  exact (h.mi fun _ ht => ht.miOk.ite (ht.miOk.ite ht.miBad)).next

theorem execNvmeMiConfigurationSet {path id port val : Nat} (h : s.Keeps μ s₀)
    (hm : Covers 0x400000000000000000000000400 μ := by exact .mono (by assumption)) :
    Answers μ s₀ (execNvmeMiConfigurationSet path id port val s) := by
  unfold Machine.execNvmeMiConfigurationSet
  exact (h.mi fun _ ht => ht.updMgt.miOk.ite (ht.miOk.ite ht.miBad)).next

theorem execSmbusTimeout {port : Nat} (h : s.Keeps μ s₀)
    (hm : Covers 0x2001000000000000000000000000000486 μ := by exact .mono (by assumption)) : Answers μ s₀ (execSmbusTimeout port s) := by
  unfold Machine.execSmbusTimeout
  exact ((((h.bump (hm.writes .CHN_SMB_TO _))).raise).ite h).next

/-! ### Patrol -/

theorem patrolLost {b : BRef} (h : s.Keeps μ s₀)
    (hm : Covers 0x1ffffffffffff03000101d8000061000010300c812486 μ := by exact .mono (by assumption)) : (s.patrolLost b).Keeps μ s₀ := by
  unfold State.patrolLost
  dsimp -zeta only
  split
  · exact h
  · split
    · extract_lets +onlyGivenNames s1
      have h1 : s1.Keeps μ s₀ := h.loseBlock
      split
      · exact h1.recordLost.raiseLay
      · exact h1
    · split
      · exact h.recordLost.raiseLay
      · exact h

theorem patrolFind {g : Nat} {all : List BRef} {b : BRef} {kind : Nat} (h : s.Keeps μ s₀)
    (hm : Covers 0x1ffffffffffff03000101d8008061200ef5701c812486 μ := by exact .mono (by assumption)) : (s.patrolFind g all b kind).Keeps μ s₀ := by
  unfold State.patrolFind
  extract_lets +onlyGivenNames s1
  have h1 : s1.Keeps μ s₀ := h.bump
  split
  · exact h1.patrolLost
  · split
    · exact h1
    · extract_lets +onlyGivenNames s2
      have h2 : s2.Keeps μ s₀ := h1.readError.ite h1
      exact h2.loseAt.ite (h2.rewriteBlk.ite (h2.issueM.ite h2))

theorem patrolPriority {sr : SRef} {differs : Bool} (h : s.Keeps μ s₀)
    (hm : Covers 0x1ffffffffffff03000101d8000060000000000c812486 μ := by exact .mono (by assumption)) : (s.patrolPriority sr differs).Keeps μ s₀ := by
  unfold State.patrolPriority
  dsimp -zeta only
  extract_lets +onlyGivenNames out owner g
  split
  · split
    · exact h
    · extract_lets +onlyGivenNames s1
      have h1 : s1.Keeps μ s₀ := h.bump.bump
      clear_value owner
      split
      · exact h1.markAttached.raise
      · exact h1
  · split
    · exact h
    · refine h.foldl fun a x ha => ?_
      split
      · exact ha.recordLost.raise
      · exact ha

theorem endPriority {g : Nat} (h : s.Keeps μ s₀)
    (hm : Covers 0x1ffffffffffff03000000000000000000001000000486 μ := by exact .mono (by assumption)) : (s.endPriority g).Keeps μ s₀ := by
  unfold State.endPriority
  extract_lets +onlyGivenNames s1
  have h1 : s1.Keeps μ s₀ := h.updGroup.raise
  exact h1.ite h1.wr

theorem patrolStripe {g : Nat} {sr : SRef} {prio : Bool} {finds : List PatrolFind} (h : s.Keeps μ s₀)
    (hm : Covers 0x1ffffffffffff03000101d8008061200ef5721c812486 μ := by exact .mono (by assumption)) :
    (s.patrolStripe g sr prio finds).Keeps μ s₀ := by
  unfold State.patrolStripe
  dsimp -zeta only
  extract_lets +onlyGivenNames s1 s2
  have h1 : s1.Keeps μ s₀ := h.bgIo
  have h2 : s2.Keeps μ s₀ := h1.chargeTask
  split
  · extract_lets +onlyGivenNames s3
    have h3 : s3.Keeps μ s₀ := h2.patrolPriority.updGroup
    exact h3.foldl fun _ _ ht => ht.pursue
  · extract_lets +onlyGivenNames all
    exact h2.foldl fun _ _ ht => ht.patrolFind.ite ht

theorem patrolObj {g : Nat} {o : SvyObj} {bad : List Nat} (h : s.Keeps μ s₀)
    (hm : Covers 0x1ffffffffffff03000000000000000000861200000486 μ := by exact .mono (by assumption)) : (s.patrolObj g o bad).Keeps μ s₀ := by
  unfold State.patrolObj
  extract_lets +onlyGivenNames s1 failed
  have h1 : s1.Keeps μ s₀ := h.chargeTask.bgIo
  split
  · exact h1
  · extract_lets +onlyGivenNames s2
    have h2 : s2.Keeps μ s₀ := h1.foldl fun _ _ ht => (ht.bump).raiseSvy
    split
    · exact h2.updGroup.raiseSvy.startScan
    · exact h2.writeTree.writeMember.syncSvy.ite h2

theorem execPatrolVisit {group : Nat} {finds : List PatrolFind} (h : s.Keeps μ s₀)
    (hm : Covers 0x1ffffffffffff03000101d8008061200ef7721c812486 μ := by exact .mono (by assumption)) :
    Answers μ s₀ (execPatrolVisit group finds s) := by
  unfold Machine.execPatrolVisit
  refine State.Keeps.next ?_
  extract_lets +onlyGivenNames gr prio
  split
  · split
    · exact h
    · extract_lets +onlyGivenNames onward
      have honward : ∀ s, s.Keeps μ s₀ → (onward s).Keeps μ s₀ := by
        intro s ht
        exact ht.updGroup
      split
      · exact h.endPriority
      · exact h.ite h.patrolStripe.syncHealth
  · split
    · exact h
    · extract_lets +onlyGivenNames onward l
      have honward : ∀ s, s.Keeps μ s₀ → (onward s).Keeps μ s₀ := by
        intro s ht
        exact ht.updGroup
      split
      · exact h.ite ((honward _ h.patrolStripe).syncHealth)
      · split
        · exact honward _ h.patrolObj
        · exact h.updGroup

theorem relayout {g : Nat} {mem slots : List Nat} (h : s.Keeps μ s₀)
    (hm : Covers 0x1000000000000000000000000060000000002 μ := by exact .mono (by assumption)) : (s.relayout g mem slots).Keeps μ s₀ := by
  unfold State.relayout
  extract_lets +onlyGivenNames objs place s1
  have h1 : s1.Keeps μ s₀ := h.of_eq
  exact h1.updSvy.bgIo

theorem execReshapeRelayoutDone (h : s.Keeps μ s₀)
    (hm : Covers 0x101001000001000000000000000080860000000486 μ := by exact .mono (by assumption)) : Answers μ s₀ (execReshapeRelayoutDone s) := by
  unfold Machine.execReshapeRelayoutDone
  refine State.Keeps.next ?_
  split
  · split
    · extract_lets +onlyGivenNames g count slots
      split
      · exact h.raiseSvy
      · extract_lets +onlyGivenNames s1
        have h1 : s1.Keeps μ s₀ := h.relayout
        extract_lets +onlyGivenNames s2
        have h2 : s2.Keeps μ s₀ := h1.of_eq
        exact h2.writeMember.syncReshape.syncSvy
    · exact h
  · exact h

end Sys2Proof.Machine.State.Keeps
end

section
/-!
The holds in reset, the tick of an empty queue, and every command.
-/

namespace Sys2Proof.Machine.State.Keeps

-- One lemma at a time: elaborated side by side, so many of them wait for one another in more threads than there is memory for.
set_option Elab.async false

variable {s : State} {μ : Nat} {s₀ : State}

/-! ### The holds in reset -/

theorem goodbyeNow (h : s.Keeps μ s₀)
    (hm : Covers 0x480 μ := by exact .mono (by assumption)) : s.goodbyeNow.Keeps μ s₀ := h.send.ite h.controllerFault

theorem flushTruEvents (h : s.Keeps μ s₀)
    (hm : Covers 0x1ffffffffffff03000000000000000000000000001686 μ := by exact .mono (by assumption)) : s.flushTruEvents.Keeps μ s₀ :=
  h.updBench.foldl fun _ _ ht => ht.logRecord

/-- What differs in any register word: the form of the register file is all that is left to show of it. -/
theorem of_anyWord {t : State} {K : Nat} (h : s.Keeps μ s₀) (hm : Covers K μ) (hany : Nat.land 0x2000000000000000000000000000002 K =
    0x2000000000000000000000000000002)
    (hpieces : s.blend K t = t) (hregs : RegFile.wf t.regs = true) (hfuses : t.fuses = s.fuses) (hbench : t.bench.length = 57) : t.Keeps μ s₀ := by
  refine h.trans (K := K) ⟨hpieces, ⟨fun _ => hregs, fun hf => hfuses ▸ hf, fun _ => hbench⟩, fun k hk _ => ?_⟩ hm
  exact absurd (Writable.anyWord ⟨hany⟩) hk

theorem afterReset {kind : Nat} (h : s.Keeps μ s₀)
    (hm : Covers 0x1ffffffffffff030007ffffffffffffffffffffffffff μ := by exact .mono (by assumption)) : (s.afterReset kind).Keeps μ s₀ := by
  unfold State.afterReset
  extract_lets +onlyGivenNames recs cold log group tally tru t1 t2 t3
  have h1 : t1.Keeps μ s₀ := h.of_anyWord hm (by decide) rfl rfl rfl List.length_replicate
  have h2 : t2.Keeps μ s₀ := h1.wr64
  have h3 : t3.Keeps μ s₀ := h2.ite h2.wr.wr
  exact h3.wr64.wr.ite h3

theorem holdReset {kind : Nat} (h : s.Keeps μ s₀)
    (hm : Covers 0x1ffffffffffff030007ffffffffffffffffffffffffff μ := by exact .mono (by assumption)) : (s.holdReset kind).Keeps μ s₀ := by
  unfold State.holdReset
  extract_lets +onlyGivenNames q s1 tru s2 s3
  have h1 : s1.Keeps μ s₀ := h.afterReset
  have h2 : s2.Keeps μ s₀ := ite h1.of_eq h1
  have h3 : s3.Keeps μ s₀ := h2.wr.ite h2
  exact h3.of_eq

theorem execResetAssert {kind : Nat} (h : s.Keeps μ s₀)
    (hm : Covers 0x1ffffffffffff030007ffffffffffffffffffffffffff μ := by exact .mono (by assumption)) :
    Answers μ s₀ (execResetAssert kind s) := (h.holdReset.ite h).next

theorem execTamperTrip {cause : Nat} (h : s.Keeps μ s₀)
    (hm : Covers 0x1ffffffffffff030007ffffffffffffffffffffffffff μ := by exact .mono (by assumption)) : Answers μ s₀ (execTamperTrip cause s) := by
  unfold Machine.execTamperTrip
  refine next ?_
  extract_lets +onlyGivenNames s1 s2
  have h1 : s1.Keeps μ s₀ := h.goodbyeNow.zeroiseKeys.raise
  have h2 : s2.Keeps μ s₀ := h1.wr.wr
  exact h.ite h2.flushTruEvents.holdReset

theorem execThermtrip (h : s.Keeps μ s₀)
    (hm : Covers 0x1ffffffffffff030007ffffffffffffffffffffffffff μ := by exact .mono (by assumption)) :
    Answers μ s₀ (execThermtrip s) := h.updTru.goodbyeNow.holdReset.next

theorem execJtagInstructionLoad {i : JtagIns} (h : s.Keeps μ s₀)
    (hm : Covers 0x1ffffffffffff030007ffffffffffffffffffffffffff μ := by exact .mono (by assumption)) :
    Answers μ s₀ (execJtagInstructionLoad i s) := (h.updTru.holdReset.ite h.updTru).next

/-! ### Every command and every step -/

theorem readStamps (h : s.Keeps μ s₀) (hm : Covers 0x800000000000000000400 μ := by exact .mono (by assumption)) : s.readStamps.Keeps μ s₀ := by
  unfold State.readStamps
  exact h.ite h.of_eq

theorem tick (h : s.Keeps μ s₀) (hm : Covers 0x800000000000000000500 μ := by exact .mono (by assumption)) : s.tick.Keeps μ s₀ := by
  unfold State.tick
  extract_lets +onlyGivenNames t total
  exact h.readStamps.updTim

/-- Every command answers a next state that is made of the named pieces: its queue, its fuses and its benches are as they must be. -/
theorem exec {c : Instr} (h : s.Keeps μ s₀)
    (hm : Covers 0x1ffffffffffff030007ffffffffffffffffffffffffff μ := by exact .mono (by assumption)) : Answers μ s₀ (Machine.exec c s) := by
  cases c with
  | flitReceive => exact h.execFlitReceive
  | flitNak => exact h.execFlitNak
  | detectionRepairDone => exact h.execDetectionRepairDone
  | livenessTimeout => exact h.execLivenessTimeout
  | selftestComplete => exact h.execSelftestComplete
  | faultedRetestTimer => exact h.execFaultedRetestTimer
  | rotationPeriodExpiry => exact h.execRotationPeriodExpiry
  | ctlRotNow => exact h.execCtlRotNow
  | ctlRotCfgWrite => exact h.execCtlRotCfgWrite
  | rotationDrained => exact h.execRotationDrained
  | timeMarker => exact h.execTimeMarker
  | servoUpdate => exact h.execServoUpdate
  | servoUpdateTimeout => exact h.execServoUpdateTimeout
  | holdoverExpiry => exact h.execHoldoverExpiry
  | timSrcCfgWrite => exact h.execTimSrcCfgWrite
  | timSetStep => exact h.execTimSetStep
  | ppsInEdge => exact h.execPpsInEdge
  | ppsInMissing => exact h.execPpsInMissing
  | ppsOutSecond => exact h.execPpsOutSecond
  | ppsOutWidthEnd => exact h.execPpsOutWidthEnd
  | shotInEdge => exact h.execShotInEdge
  | shotFire => exact h.execShotFire
  | shotSched => exact h.execShotSched
  | shotChainIssue => exact h.execShotChainIssue
  | shotCancel => exact h.execShotCancel
  | shotRelease => exact h.execShotRelease
  | shotTimeReached => exact h.execShotTimeReached
  | eventRecordDelivery => exact h.execEventRecordDelivery
  | eventLogEntry => exact h.execEventLogEntry
  | evlogCopy => exact h.execEvlogCopy
  | nrtDataPacket => exact h.execNrtDataPacket
  | nrtAck => exact h.execNrtAck
  | nrtConnect => exact h.execNrtConnect
  | nrtClose => exact h.execNrtClose
  | nrtClosed => exact h.execNrtClosed
  | nrtProbe => exact h.execNrtProbe
  | reassemblyTimeout => exact h.execReassemblyTimeout
  | ackDelayExpiry => exact h.execAckDelayExpiry
  | rtoExpiry => exact h.execRtoExpiry
  | pathProbeTimer => exact h.execPathProbeTimer
  | creditProbeTimer => exact h.execCreditProbeTimer
  | halfOpenTimeout => exact h.execHalfOpenTimeout
  | errorHoldExpiry => exact h.execErrorHoldExpiry
  | closeRetryExpiry => exact h.execCloseRetryExpiry
  | syncDeadline => exact h.execSyncDeadline
  | contextFetchDone => exact h.execContextFetchDone
  | roceSend => exact h.execRoceSend
  | roceRdmaWrite => exact h.execRoceRdmaWrite
  | roceRdmaReadRequest => exact h.execRoceRdmaReadRequest
  | roceReadResponse => exact h.execRoceReadResponse
  | roceAcknowledge => exact h.execRoceAcknowledge
  | roceAtomicAcknowledge => exact h.execRoceAtomicAcknowledge
  | roceCompareSwap => exact h.execRoceCompareSwap
  | roceFetchAdd => exact h.execRoceFetchAdd
  | roceCnp => exact h.execRoceCnp
  | roceAckTimeout => exact h.execRoceAckTimeout
  | roceRnrTimer => exact h.execRoceRnrTimer
  | roceRateTimer => exact h.execRoceRateTimer
  | cmReq => exact h.execCmReq
  | cmRtu => exact h.execCmRtu
  | cmDreq => exact h.execCmDreq
  | cmDrep => exact h.execCmDrep
  | cmRej => exact h.execCmRej
  | windowCommitDone => exact h.execWindowCommitDone
  | windowWritebackTimer => exact h.execWindowWritebackTimer
  | setFeaturesWindowPublish => exact h.execSetFeaturesWindowPublish
  | setFeaturesWindowRevoke => exact h.execSetFeaturesWindowRevoke
  | getFeaturesWindow => exact h.execGetFeaturesWindow
  | windowRevokeComplete => exact h.execWindowRevokeComplete
  | nvmeFlush => exact h.execNvmeFlush
  | nvmeWrite => exact h.execNvmeWrite
  | nvmeRead => exact h.execNvmeRead
  | nvmeCompare => exact h.execNvmeCompare
  | nvmeWriteZeroes => exact h.execNvmeWriteZeroes
  | nvmeDatasetManagement => exact h.execNvmeDatasetManagement
  | nvmeVerify => exact h.execNvmeVerify
  | unsupportedOpcode => exact h.execUnsupportedOpcode
  | reservationRegister => exact h.execReservationRegister
  | reservationReport => exact h.execReservationReport
  | reservationAcquire => exact h.execReservationAcquire
  | reservationRelease => exact h.execReservationRelease
  | commandAdmission => exact h.execCommandAdmission
  | commandDispatch => exact h.execCommandDispatch
  | commandCompletion => exact h.execCommandCompletion
  | getLogPage => exact h.execGetLogPage
  | logPageLostRanges => exact h.execLogPageLostRanges
  | logPageMetering => exact h.execLogPageMetering
  | logPageLayoutHealth => exact h.execLogPageLayoutHealth
  | logPageEventExcerpt => exact h.execLogPageEventExcerpt
  | identify => exact h.execIdentify
  | abort => exact h.execAbort
  | setFeatures => exact h.execSetFeatures
  | getFeatures => exact h.execGetFeatures
  | setFeaturesQosProfile => exact h.execSetFeaturesQosProfile
  | getFeaturesQosProfile => exact h.execGetFeaturesQosProfile
  | setFeaturesQueueOrdering => exact h.execSetFeaturesQueueOrdering
  | getFeaturesQueueOrdering => exact h.execGetFeaturesQueueOrdering
  | asyncEventRequest => exact h.execAsyncEventRequest
  | namespaceCreate => exact h.execNamespaceCreate
  | namespaceDelete => exact h.execNamespaceDelete
  | namespaceSweep => exact h.execNamespaceSweep
  | namespaceAttach => exact h.execNamespaceAttach
  | namespaceDetach => exact h.execNamespaceDetach
  | detachComplete => exact h.execDetachComplete
  | formatNvm => exact h.execFormatNvm
  | firmwareImageDownload => exact h.execFirmwareImageDownload
  | firmwareCommitWrite => exact h.execFirmwareCommitWrite
  | firmwareCommitWritePrefer => exact h.execFirmwareCommitWritePrefer
  | firmwareCommitPrefer => exact h.execFirmwareCommitPrefer
  | firmwareCommitActivate => exact h.execFirmwareCommitActivate
  | keepAlive => exact h.execKeepAlive
  | createIoSq => exact h.execCreateIoSq
  | createIoCq => exact h.execCreateIoCq
  | deleteIoSq => exact h.execDeleteIoSq
  | deleteIoCq => exact h.execDeleteIoCq
  | fabricsConnect => exact h.execFabricsConnect
  | propertyGet => exact h.execPropertyGet
  | propertySet => exact h.execPropertySet
  | propertySetCcEnClear => exact h.execPropertySetCcEnClear
  | propertySetCcShn => exact h.execPropertySetCcShn
  | propertySetNssr => exact h.execPropertySetNssr
  | authenticationSend => exact h.execAuthenticationSend
  | authenticationReceive => exact h.execAuthenticationReceive
  | keepAliveExpiry => exact h.execKeepAliveExpiry
  | shutdownComplete => exact h.execShutdownComplete
  | memberWaitNotice => exact h.execMemberWaitNotice
  | authLockoutExpiry => exact h.execAuthLockoutExpiry
  | grantPeriod => exact h.execGrantPeriod
  | cmdQosCfgWrite => exact h.execCmdQosCfgWrite
  | cmdQosGcapWrite => exact h.execCmdQosGcapWrite
  | meterSaveTimer => exact h.execMeterSaveTimer
  | sealTimeExpiry => exact h.execSealTimeExpiry
  | stripeSeal => exact h.execStripeSeal
  | sealWaitExpiry => exact h.execSealWaitExpiry
  | stripeRelease => exact h.execStripeRelease
  | spoilReclaimVictim => exact h.execSpoilReclaimVictim
  | tallyRecordWritten => exact h.execTallyRecordWritten
  | tallyRecordDurable => exact h.execTallyRecordDurable
  | tallyControlBlockTimer => exact h.execTallyControlBlockTimer
  | surveyObjectLoaded => exact h.execSurveyObjectLoaded
  | surveyWritebackDone => exact h.execSurveyWritebackDone
  | deltaLogBlockAcked => exact h.execDeltaLogBlockAcked
  | memberRecordTimer => exact h.execMemberRecordTimer
  | surveyRebuildScan => exact h.execSurveyRebuildScan
  | objectRehome => exact h.execObjectRehome
  | memberCommandAge => exact h.execMemberCommandAge
  | memberFailTimer => exact h.execMemberFailTimer
  | memberReturnExpiry => exact h.execMemberReturnExpiry
  | driveOffer => exact h.execDriveOffer
  | layMcmdDrain => exact h.execLayMcmdDrain
  | layMcmdFail => exact h.execLayMcmdFail
  | layMcmdJoin => exact h.execLayMcmdJoin
  | layMcmdForget => exact h.execLayMcmdForget
  | reconciliationDone => exact h.execReconciliationDone
  | joinRecordWritten => exact h.execJoinRecordWritten
  | rebuildIndexSweep => exact h.execRebuildIndexSweep
  | rebuildStripe => exact h.execRebuildStripe
  | tailCutDeadline => exact h.execTailCutDeadline
  | regionResync => exact h.execRegionResync
  | patrolVisit => exact h.execPatrolVisit
  | reshapeStart => exact h.execReshapeStart
  | reshapeSwitchover => exact h.execReshapeSwitchover
  | cipXtsEnc => exact h.execCipXtsEnc
  | cipXtsDec => exact h.execCipXtsDec
  | cipXtsZero => exact h.execCipXtsZero
  | cipGcmSeal => exact h.execCipGcmSeal
  | cipGcmOpen => exact h.execCipGcmOpen
  | cipCtr => exact h.execCipCtr
  | cipKeyZero => exact h.execCipKeyZero
  | cipResult => exact h.execCipResult
  | keyLoadDone => exact h.execKeyLoadDone
  | memRegionReady => exact h.execMemRegionReady
  | dimmTempChange => exact h.execDimmTempChange
  | lineFillDone => exact h.execLineFillDone
  | lineWritebackDone => exact h.execLineWritebackDone
  | cacheSetEn => exact h.execCacheSetEn
  | cacheClrEn => exact h.execCacheClrEn
  | cacheDisableComplete => exact h.execCacheDisableComplete
  | mntClean => exact h.execMntClean
  | mntInvalidate => exact h.execMntInvalidate
  | mntComplete => exact h.execMntComplete
  | memberCompletion => exact h.execMemberCompletion
  | memberDmaRequest => exact h.execMemberDmaRequest
  | memberErrorMessage => exact h.execMemberErrorMessage
  | driveLinkDown => exact h.execDriveLinkDown
  | drvNonpostedTimeout => exact h.execDrvNonpostedTimeout
  | containmentRecovery => exact h.execContainmentRecovery
  | driveEnumerated => exact h.execDriveEnumerated
  | healthPoll => exact h.execHealthPoll
  | trimGatherExpiry => exact h.execTrimGatherExpiry
  | sbcFrame => exact h.execSbcFrame
  | drvPowerOn => exact h.execDrvPowerOn
  | drvPowerOff => exact h.execDrvPowerOff
  | driveStageTimer => exact h.execDriveStageTimer
  | perstReleaseTimer => exact h.execPerstReleaseTimer
  | fenceWriteWindowEnd => exact h.execFenceWriteWindowEnd
  | macLinkUp => exact h.execMacLinkUp
  | macLinkDown => exact h.execMacLinkDown
  | ethFrameReceive => exact h.execEthFrameReceive
  | ethFrameTransmit => exact h.execEthFrameTransmit
  | pauseFrame => exact h.execPauseFrame
  | pfcFrame => exact h.execPfcFrame
  | pauseTimeExpiry => exact h.execPauseTimeExpiry
  | pauseRepeatTimer => exact h.execPauseRepeatTimer
  | pauseSendCap => exact h.execPauseSendCap
  | pfcWatchdogDetect => exact h.execPfcWatchdogDetect
  | pfcWatchdogRestore => exact h.execPfcWatchdogRestore
  | lpiIdleExpiry => exact h.execLpiIdleExpiry
  | lldpEeeTlv => exact h.execLldpEeeTlv
  | ptpMessage => exact h.execPtpMessage
  | prtStatRead => exact h.execPrtStatRead
  | haulForwardFrame => exact h.execHaulForwardFrame
  | epLinkUp => exact h.execEpLinkUp
  | epLinkReset => exact h.execEpLinkReset
  | epFlr => exact h.execEpFlr
  | epBmeWrite => exact h.execEpBmeWrite
  | epPowerState => exact h.execEpPowerState
  | epVfEnable => exact h.execEpVfEnable
  | epDoorbell => exact h.execEpDoorbell
  | epCcEnable => exact h.execEpCcEnable
  | epSqeFetched => exact h.execEpSqeFetched
  | epReadCompletion => exact h.execEpReadCompletion
  | epCompletionTimeout => exact h.execEpCompletionTimeout
  | epQuarantineExpiry => exact h.execEpQuarantineExpiry
  | epL1Idle => exact h.execEpL1Idle
  | epLtrIdle => exact h.execEpLtrIdle
  | epMsixUnmask => exact h.execEpMsixUnmask
  | controllerStart => exact h.execControllerStart
  | resetAssert => exact h.execResetAssert
  | bootStepEnd => exact h.execBootStepEnd
  | memberWaitExpiry => exact h.execMemberWaitExpiry
  | timeWaitExpiry => exact h.execTimeWaitExpiry
  | serviceStart => exact h.execServiceStart
  | standbyServiceStart => exact h.execStandbyServiceStart
  | chainAddr => exact h.execChainAddr
  | chainAddrAck => exact h.execChainAddrAck
  | addrRepeatTimer => exact h.execAddrRepeatTimer
  | headWaitExpiry => exact h.execHeadWaitExpiry
  | treqTimer => exact h.execTreqTimer
  | chainTreq => exact h.execChainTreq
  | chainTresp => exact h.execChainTresp
  | chainShot => exact h.execChainShot
  | chainReset => exact h.execChainReset
  | chnChainResetCmd => exact h.execChnChainResetCmd
  | chainMgmt => exact h.execChainMgmt
  | chainUpstreamLost => exact h.execChainUpstreamLost
  | chainUpstreamRestored => exact h.execChainUpstreamRestored
  | haulFrameReceive => exact h.execHaulFrameReceive
  | haulResendTimer => exact h.execHaulResendTimer
  | haulHalfDown => exact h.execHaulHalfDown
  | haulHalfUp => exact h.execHaulHalfUp
  | heartbeatTimer => exact h.execHeartbeatTimer
  | heartbeatBeat => exact h.execHeartbeatBeat
  | goodbye => exact h.execGoodbye
  | heartbeatMiss => exact h.execHeartbeatMiss
  | activeFenceWait => exact h.execActiveFenceWait
  | fenceHoldExpiry => exact h.execFenceHoldExpiry
  | pairWaitExpiry => exact h.execPairWaitExpiry
  | mirrorItem => exact h.execMirrorItem
  | mirrorMack => exact h.execMirrorMack
  | hello => exact h.execHello
  | resyncCopy => exact h.execResyncCopy
  | halHandoverCmd => exact h.execHalHandoverCmd
  | halUnfenceCmd => exact h.execHalUnfenceCmd
  | handoverDrainEnd => exact h.execHandoverDrainEnd
  | handoverItem => exact h.execHandoverItem
  | handoverTimeout => exact h.execHandoverTimeout
  | benchReloadDone => exact h.execBenchReloadDone
  | holdMessage => exact h.execHoldMessage
  | holdTimeout => exact h.execHoldTimeout
  | ctlLiveReload => exact h.execCtlLiveReload
  | ctlLiveRetire => exact h.execCtlLiveRetire
  | retireMessage => exact h.execRetireMessage
  | avsTimer => exact h.execAvsTimer
  | haulRecalTimer => exact h.execHaulRecalTimer
  | memRetrainTimer => exact h.execMemRetrainTimer
  | memZqTimer => exact h.execMemZqTimer
  | timeAlignTimer => exact h.execTimeAlignTimer
  | truSvnCommit => exact h.execTruSvnCommit
  | tokenRevoke => exact h.execTokenRevoke
  | tokenDebugUnlock => exact h.execTokenDebugUnlock
  | tokenOwnerSeed => exact h.execTokenOwnerSeed
  | tokenDebugDisable => exact h.execTokenDebugDisable
  | truNonceRead => exact h.execTruNonceRead
  | tamperTrip => exact h.execTamperTrip
  | trngHealthFail => exact h.execTrngHealthFail
  | thermtrip => exact h.execThermtrip
  | pairingMessage => exact h.execPairingMessage
  | spdmGetVersion => exact h.execSpdmGetVersion
  | spdmGetCapabilities => exact h.execSpdmGetCapabilities
  | spdmNegotiateAlgorithms => exact h.execSpdmNegotiateAlgorithms
  | spdmGetDigests => exact h.execSpdmGetDigests
  | spdmGetCertificate => exact h.execSpdmGetCertificate
  | spdmChallenge => exact h.execSpdmChallenge
  | spdmGetMeasurements => exact h.execSpdmGetMeasurements
  | mgtRegRead => exact h.execMgtRegRead
  | mgtRegWrite => exact h.execMgtRegWrite
  | mgtRegModify => exact h.execMgtRegModify
  | mgtEvSubscribe => exact h.execMgtEvSubscribe
  | mgtLogRead => exact h.execMgtLogRead
  | mgtIdentSet => exact h.execMgtIdentSet
  | mgtIdentDereg => exact h.execMgtIdentDereg
  | mgtIdentGet => exact h.execMgtIdentGet
  | mgtQosSet => exact h.execMgtQosSet
  | mgtQosGet => exact h.execMgtQosGet
  | evNotifyResponse => exact h.execEvNotifyResponse
  | evNotifyTimer => exact h.execEvNotifyTimer
  | relayTimeout => exact h.execRelayTimeout
  | mctpSetEndpointId => exact h.execMctpSetEndpointId
  | mctpGetEndpointId => exact h.execMctpGetEndpointId
  | mctpGetEndpointUuid => exact h.execMctpGetEndpointUuid
  | mctpGetVersionSupport => exact h.execMctpGetVersionSupport
  | mctpGetMessageTypeSupport => exact h.execMctpGetMessageTypeSupport
  | mctpGetVendorSupport => exact h.execMctpGetVendorSupport
  | nvmeMiBasicManagement => exact h.execNvmeMiBasicManagement
  | nvmeMiReadDataStructure => exact h.execNvmeMiReadDataStructure
  | nvmeMiSubsystemHealthPoll => exact h.execNvmeMiSubsystemHealthPoll
  | nvmeMiControllerHealthPoll => exact h.execNvmeMiControllerHealthPoll
  | nvmeMiConfigurationGet => exact h.execNvmeMiConfigurationGet
  | nvmeMiConfigurationSet => exact h.execNvmeMiConfigurationSet
  | bar2Access => exact h.execBar2Access
  | smbusTimeout => exact h.execSmbusTimeout
  | benchLockSet => exact h.execBenchLockSet
  | halfLatchRead => exact h.execHalfLatchRead
  | registerWrite => exact h.execRegisterWrite
  | chainDownstreamUndriven => exact h.execChainDownstreamUndriven
  | windowCeilingEligible => exact h.execWindowCeilingEligible
  | fenceStartDelayExpiry => exact h.execFenceStartDelayExpiry
  | reshapeRelayoutDone => exact h.execReshapeRelayoutDone
  | epCcEnClear => exact h.execEpCcEnClear
  | epCcShnWrite => exact h.execEpCcShnWrite
  | epNssrWrite => exact h.execEpNssrWrite
  | flashWriteDone => exact h.execFlashWriteDone
  | jtagInstructionLoad => exact h.execJtagInstructionLoad
  | regionZeroFill => exact h.execRegionZeroFill
  | driveLinkTrainingTimeout => exact h.execDriveLinkTrainingTimeout
  | shotOutPulseEnd => exact h.execShotOutPulseEnd

end Sys2Proof.Machine.State.Keeps
end

section
/-!
Every command answers (O3), every step keeps the state sound (O6), and how a frame is read off a mask.
-/

-- One declaration at a time, as with the lemmas about a serving unit.
set_option Elab.async false

namespace Sys2Proof.Machine

/-- What every next state that keeps the named pieces has is had by the next state of the outcome. -/
theorem Answers.completes {μ : Nat} {s : State} {o : Host.Outcome State Fault Refusal} {P : State → Prop} (h : Answers μ s o)
    (hP : ∀ t, t.Keeps μ s → P t) : ∃ t, o = .next t ∧ P t := by
  obtain ⟨t, ho, ht⟩ := h
  exact ⟨t, ho, hP t ht⟩

/-- Every family of the list has all its words touched. -/
def Touches (touched : Nat → Prop) (fs : List Family) : Prop := ∀ f ∈ fs, ∀ i j, touched (f.key i j)

theorem Touches.nil (touched : Nat → Prop) : Touches touched [] := fun _ hf => nomatch hf

theorem Touches.cons {touched : Nat → Prop} (f : Family) {fs : List Family} (hf : ∀ i j, touched (f.key i j)) (hfs : Touches touched fs) :
    Touches touched (f :: fs) := by
  intro g hg
  obtain rfl | hg := List.mem_cons.mp hg
  · exact hf
  · exact hfs g hg

/-- The families of register words. -/
def Family.all : List Family :=
  [.CHN_CHAIN_STAT_ADDR, .CHN_CRC_ERR, .CHN_HOP_DELAY_DELAY, .CHN_RX_FRM, .CHN_SMB_PEC, .CHN_SMB_TO, .CHN_TX_FRM, .CIP_KC_HIT, .CIP_KC_MISS,
   .CIP_KC_WAIT, .CIP_STAT_IV_LOST, .CMD_DONE, .CMD_RX, .CTL_EVLOG_TOTAL_HI, .CTL_EVLOG_TOTAL_LO, .CTL_LIVE_STAT_HOLD, .DRV_CMD,
   .DRV_PSTAT_CONTAINED, .DRV_RETRAIN, .EPT_STAT_RELAY, .HAL_CFG_H0_EN, .HAL_PAIR_STAT_FENCE_HELD, .HAL_RESEND, .HAL_TX_FRM, .JNL_SEQ_HI,
   .JNL_SEQ_LO, .LAY_GSTAT_ENTRY_HOLD, .LAY_HOLD_US, .LAY_ORDER_STAT_PCT, .LAY_TCUT, .LAY_TCUT_CFG_DL0, .MEM_CACHE_CTL_DIS_PENDING,
   .MEM_CACHE_STAT_AT_LIMIT, .MEM_CHSTAT_HOT, .MEM_STAT_READY, .SVY_DLOG_BLK, .SVY_GSTAT_DLOG_USED, .SVY_WB, .SWC_STAT_FORWARDING,
   .TIM_OFFSET, .TIM_RATE, .TIM_SHOT_STAT_PENDING, .TIM_SRC_CFG_SRC, .TIM_STAT_STATE, .TRU_STAT_CMD_REFUSED, .TRU_TOKEN_CMD_RESULT,
   .XPT_REASM_DISCARD, .XPT_RETX, .XPT_TX_PKT]

theorem Family.mem_all (f : Family) : f ∈ Family.all := by
  cases f
  all_goals simp [Family.all]

/-- The families that a mask names. -/
def Family.named (μ : Nat) : List Family := Family.all.filter fun f => μ.testBit f.bit

/-- The words that a mask names are those of its families, where it does not name all words. -/
theorem State.Keeps.wordsKept {s t : State} {μ : Nat} {touched : Nat → Prop} {fs : List Family} (h : t.Keeps μ s)
    (hev : Raises μ → s.bench.length = 57) (hw : Touches touched fs) (hfs : Family.named μ = fs := by rfl)
    (hany : μ.testBit 121 = false := by rfl) : WordsKept touched s t := by
  intro k hkey hk
  refine h.words k ?_ fun hr => ⟨hev hr, hkey⟩
  rintro ⟨-, hall | ⟨f, i, j, hf, rfl⟩⟩
  · rw [hany] at hall; cases hall
  · have hmem : f ∈ fs := hfs ▸ List.mem_filter.mpr ⟨f.mem_all, hf⟩
    exact hk (hw f hmem i j)

end Sys2Proof.Machine

namespace Sys2Proof

open Machine

/-- Settles O3: every command's lemma says that it answers a next state, in which the waiting commands are as before. -/
theorem everyCommandAnswers : Obligations.EveryCommandAnswers := by
  unfold Obligations.EveryCommandAnswers
  intro c s
  exact (State.Keeps.exec (c := c) (.refl _ s) (.refl _)).completes fun t ht => (congrArg State.pending ht.pieces).symm

/-- Settles O6: each command, and the tick of an empty queue, keeps the form of the register file, the ranges of the fuses and the
57 benches. -/
theorem soundIsKept : Obligations.SoundIsKept := by
  unfold Obligations.SoundIsKept
  rintro s t ⟨hwf, hfuses, hbench⟩ hstep
  have hsound : ∀ {μ : Nat}, t.Keeps μ s → Sound t := fun ht => ⟨ht.sound.1 hwf, ht.sound.2.1 hfuses, ht.sound.2.2 hbench⟩
  unfold step at hstep
  split at hstep
  · obtain rfl := Host.Outcome.next.inj hstep
    exact hsound (State.Keeps.tick (.refl _ s) (.refl _))
  · next c rest _ =>
    obtain ⟨u, hu, hkept⟩ := State.Keeps.exec (c := c) (.refl _ { s with pending := rest }) (.refl _)
    obtain rfl : u = t := Host.Outcome.next.inj (hu.symm.trans hstep)
    exact ⟨hkept.sound.1 hwf, hkept.sound.2.1 hfuses, hkept.sound.2.2 hbench⟩

end Sys2Proof
end

section
/-!
The frames of the families whose commands keep what their obligations say.
-/

-- One declaration at a time, as with the lemmas about a serving unit.
set_option Elab.async false

namespace Sys2Proof

open Machine

/-- Settles O50, command by command. -/
theorem transportFrames : Obligations.TransportFrames := by
  unfold Obligations.TransportFrames
  refine ⟨
    fun _ _ s hlen => (State.Keeps.execReassemblyTimeout (.refl _ s) (.refl _)).completes fun _ ht => ⟨ht.pieces, ht.wordsKept (fun _ => hlen) <|
      .cons .XPT_REASM_DISCARD (fun i _ => .inl ⟨i, rfl⟩) <| .cons .XPT_TX_PKT (fun i _ => .inr ⟨i, rfl⟩) <| .nil _⟩,
    fun _ s => (State.Keeps.execAckDelayExpiry (.refl _ s) (.refl _)).completes fun _ ht => ⟨ht.pieces, ht.wordsKept (fun hr => absurd hr.2 (by
      decide)) <| .cons .XPT_TX_PKT (fun i _ => ⟨i, rfl⟩) <| .nil _⟩,
    fun _ _ s => (State.Keeps.execPathProbeTimer (.refl _ s) (.refl _)).completes fun _ ht => ⟨ht.pieces, ht.wordsKept (fun hr => absurd hr.2 (by
      decide)) <| .cons .XPT_TX_PKT (fun i _ => ⟨i, rfl⟩) <| .nil _⟩,
    fun _ s => (State.Keeps.execCreditProbeTimer (.refl _ s) (.refl _)).completes fun _ ht => ⟨ht.pieces, ht.wordsKept (fun hr => absurd hr.2 (by
      decide)) <| .cons .XPT_TX_PKT (fun i _ => ⟨i, rfl⟩) <| .nil _⟩,
    fun _ s => (State.Keeps.execHalfOpenTimeout (.refl _ s) (.refl _)).completes fun _ ht => ⟨ht.pieces, ht.wordsKept (fun hr => absurd hr.2 (by
      decide)) <| .cons .HAL_TX_FRM (fun _ _ => rfl) <| .nil _⟩,
    fun _ s => (State.Keeps.execErrorHoldExpiry (.refl _ s) (.refl _)).completes fun _ ht => ⟨ht.pieces, ht.wordsKept (fun hr => absurd hr.2 (by
      decide)) <| .cons .HAL_TX_FRM (fun _ _ => rfl) <| .nil _⟩,
    fun _ s hlen => (State.Keeps.execCloseRetryExpiry (.refl _ s) (.refl _)).completes fun _ ht => ⟨ht.pieces, ht.wordsKept (fun _ => hlen) <|
      .cons .HAL_TX_FRM (fun _ _ => .inl rfl) <| .cons .XPT_TX_PKT (fun i _ => .inr ⟨i, rfl⟩) <| .nil _⟩,
    fun _ s => (State.Keeps.execSyncDeadline (.refl _ s) (.refl _)).completes fun _ ht => ⟨ht.pieces, ht.wordsKept (fun hr => absurd hr.2 (by
      decide)) <| .cons .XPT_TX_PKT (fun i _ => ⟨i, rfl⟩) <| .nil _⟩,
    fun _ s => (State.Keeps.execRoceRnrTimer (.refl _ s) (.refl _)).completes fun _ ht => ⟨ht.pieces, ht.wordsKept (fun hr => absurd hr.2 (by
      decide)) <| .cons .XPT_RETX (fun i _ => .inl ⟨i, rfl⟩) <| .cons .XPT_TX_PKT (fun i _ => .inr ⟨i, rfl⟩) <| .nil _⟩,
    fun _ s => (State.Keeps.execRoceRateTimer (.refl _ s) (.refl _)).completes fun _ ht => ⟨ht.pieces, ht.wordsKept (fun hr => absurd hr.2 (by
      decide)) <| .cons .XPT_TX_PKT (fun i _ => ⟨i, rfl⟩) <| .nil _⟩,
    fun _ s => (State.Keeps.execCmReq (.refl _ s) (.refl _)).completes fun _ ht => ht.pieces,
    fun _ s hlen => (State.Keeps.execCmDrep (.refl _ s) (.refl _)).completes fun _ ht => ⟨ht.pieces, ht.wordsKept (fun _ => hlen) <| .cons
      .HAL_TX_FRM (fun _ _ => rfl) <| .nil _⟩,
    fun _ s => (State.Keeps.execCmRej (.refl _ s) (.refl _)).completes fun _ ht => ⟨ht.pieces, ht.wordsKept (fun hr => absurd hr.2 (by decide)) <|
      .cons .HAL_TX_FRM (fun _ _ => rfl) <| .nil _⟩,
    fun _ s => (State.Keeps.execWindowCommitDone (.refl _ s) (.refl _)).completes fun _ ht => ⟨ht.pieces, ht.wordsKept (fun hr => absurd hr.2 (by
      decide)) <| .cons .HAL_TX_FRM (fun _ _ => .inl rfl) <| .cons .XPT_TX_PKT (fun i _ => .inr ⟨i, rfl⟩) <| .nil _⟩,
    fun s hlen => (State.Keeps.execCacheSetEn (.refl _ s) (.refl _)).completes fun _ ht => ⟨ht.pieces, ht.wordsKept (fun _ => hlen) <| .cons
      .HAL_TX_FRM (fun _ _ => .inl rfl) <| .cons .MEM_CACHE_CTL_DIS_PENDING (fun _ _ => .inr (.inl rfl)) <| .nil _⟩,
    fun s hlen => (State.Keeps.execCacheDisableComplete (.refl _ s) (.refl _)).completes fun _ ht => ⟨ht.pieces, ht.wordsKept (fun _ => hlen) <|
      .cons .HAL_TX_FRM (fun _ _ => .inl rfl) <| .cons .MEM_CACHE_CTL_DIS_PENDING (fun _ _ => .inr (.inl rfl)) <| .cons .MEM_CACHE_STAT_AT_LIMIT
      (fun _ _ => .inr (.inr (.inr (.inl rfl)))) <| .nil _⟩,
    fun _ s hlen => (State.Keeps.execMemRegionReady (.refl _ s) (.refl _)).completes fun _ ht => ⟨ht.pieces, ht.wordsKept (fun _ => hlen) <| .cons
      .CTL_EVLOG_TOTAL_HI (fun _ _ => .inl rfl) <| .cons .CTL_EVLOG_TOTAL_LO (fun _ _ => .inr (.inl rfl)) <| .cons .MEM_STAT_READY (fun _ _ => .inr
      (.inr rfl)) <| .nil _⟩,
    fun _ _ s hlen => (State.Keeps.execDimmTempChange (.refl _ s) (.refl _)).completes fun _ ht => ⟨ht.pieces, ht.wordsKept (fun _ => hlen) <|
      .cons .MEM_CHSTAT_HOT (fun i _ => .inl ⟨i, rfl⟩) <| .nil _⟩,
    fun _ s hlen => (State.Keeps.execMemberWaitNotice (.refl _ s) (.refl _)).completes fun _ ht => ⟨ht.pieces, ht.wordsKept (fun _ => hlen) <| .nil
      _⟩⟩

/-- Settles O51, command by command. -/
theorem storageFrames : Obligations.StorageFrames := by
  unfold Obligations.StorageFrames
  refine ⟨
    fun _ _ s => (State.Keeps.execFabricsConnect (.refl _ s) (.refl _)).completes fun _ ht => ⟨ht.pieces, ht.wordsKept (fun hr => absurd hr.2 (by
      decide)) <| .cons .CMD_DONE (fun i _ => .inl ⟨i, rfl⟩) <| .cons .CMD_RX (fun i _ => .inr (.inl ⟨i, rfl⟩)) <| .cons .HAL_TX_FRM (fun _ _ =>
      .inr (.inr (.inl rfl))) <| .cons .XPT_TX_PKT (fun i _ => .inr (.inr (.inr ⟨i, rfl⟩))) <| .nil _⟩,
    fun _ s => (State.Keeps.execAuthLockoutExpiry (.refl _ s) (.refl _)).completes fun _ ht => ht.pieces,
    fun _ s hlen => (State.Keeps.execShutdownComplete (.refl _ s) (.refl _)).completes fun _ ht => ⟨ht.pieces, ht.wordsKept (fun _ => hlen) <| .nil
      _⟩,
    fun _ _ s => (State.Keeps.execRegionZeroFill (.refl _ s) (.refl _)).completes fun _ ht => ht.pieces,
    fun s => (State.Keeps.execMeterSaveTimer (.refl _ s) (.refl _)).completes fun _ ht => ht.pieces,
    fun _ _ s hlen => (State.Keeps.execSealTimeExpiry (.refl _ s) (.refl _)).completes fun _ ht => ⟨ht.pieces, ht.wordsKept (fun _ => hlen) <|
      .cons .LAY_GSTAT_ENTRY_HOLD (fun i _ => .inl ⟨i, rfl⟩) <| .cons .LAY_HOLD_US (fun i _ => .inr (.inr (.inr (.inr (.inr ⟨i, rfl⟩))))) <| .nil
      _⟩,
    fun _ s hlen => (State.Keeps.execSurveyWritebackDone (.refl _ s) (.refl _)).completes fun _ ht => ⟨ht.pieces, ht.wordsKept (fun _ => hlen) <|
      .cons .DRV_CMD (fun i j => .inl ⟨i, j, rfl⟩) <| .cons .SVY_GSTAT_DLOG_USED (fun i _ => .inr (.inl ⟨i, rfl⟩)) <| .cons .SVY_WB (fun i _ =>
      .inr (.inr (.inr (.inr (.inr ⟨i, rfl⟩))))) <| .nil _⟩,
    fun _ s hlen => (State.Keeps.execDeltaLogBlockAcked (.refl _ s) (.refl _)).completes fun _ ht => ⟨ht.pieces, ht.wordsKept (fun _ => hlen) <|
      .cons .JNL_SEQ_HI (fun _ _ => .inl rfl) <| .cons .JNL_SEQ_LO (fun _ _ => .inr (.inl rfl)) <| .cons .SVY_DLOG_BLK (fun i _ => .inr (.inr (.inl
      ⟨i, rfl⟩))) <| .cons .SVY_GSTAT_DLOG_USED (fun i _ => .inr (.inr (.inr (.inl ⟨i, rfl⟩)))) <| .nil _⟩,
    fun _ s => (State.Keeps.execMemberRecordTimer (.refl _ s) (.refl _)).completes fun _ ht => ⟨ht.pieces, ht.wordsKept (fun hr => absurd hr.2 (by
      decide)) <| .cons .DRV_CMD (fun i j => ⟨i, j, rfl⟩) <| .nil _⟩,
    fun _ s hlen => (State.Keeps.execObjectRehome (.refl _ s) (.refl _)).completes fun _ ht => ⟨ht.pieces, ht.wordsKept (fun _ => hlen) <| .cons
      .DRV_CMD (fun i j => .inl ⟨i, j, rfl⟩) <| .cons .SVY_GSTAT_DLOG_USED (fun i _ => .inr (.inl ⟨i, rfl⟩)) <| .cons .SVY_WB (fun i _ => .inr
      (.inr (.inr (.inr (.inr ⟨i, rfl⟩))))) <| .nil _⟩,
    fun s hlen => (State.Keeps.execReshapeRelayoutDone (.refl _ s) (.refl _)).completes fun _ ht => ⟨ht.pieces, ht.wordsKept (fun _ => hlen) <|
      .cons .DRV_CMD (fun i j => .inl ⟨i, j, rfl⟩) <| .cons .LAY_ORDER_STAT_PCT (fun _ _ => .inr (.inl rfl)) <| .cons .SVY_GSTAT_DLOG_USED (fun i _
      => .inr (.inr (.inr (.inl ⟨i, rfl⟩)))) <| .nil _⟩,
    fun s => (State.Keeps.execTallyControlBlockTimer (.refl _ s) (.refl _)).completes fun _ ht => ht.pieces,
    fun _ s => (State.Keeps.execTailCutDeadline (.refl _ s) (.refl _)).completes fun _ ht => ⟨ht.pieces, ht.wordsKept (fun hr => absurd hr.2 (by
      decide)) <| .cons .DRV_CMD (fun i j => .inl ⟨i, j, rfl⟩) <| .cons .LAY_TCUT (fun i _ => .inr (.inl ⟨i, rfl⟩)) <| .nil _⟩,
    fun _ s => (State.Keeps.execHealthPoll (.refl _ s) (.refl _)).completes fun _ ht => ⟨ht.pieces, ht.wordsKept (fun hr => absurd hr.2 (by
      decide)) <| .cons .DRV_CMD (fun i j => ⟨i, j, rfl⟩) <| .nil _⟩,
    fun _ s hlen => (State.Keeps.execTrimGatherExpiry (.refl _ s) (.refl _)).completes fun _ ht => ⟨ht.pieces, ht.wordsKept (fun _ => hlen) <|
      .cons .DRV_CMD (fun i j => .inl ⟨i, j, rfl⟩) <| .cons .LAY_GSTAT_ENTRY_HOLD (fun i _ => .inr (.inl ⟨i, rfl⟩)) <| .cons .LAY_HOLD_US (fun i _
      => .inr (.inr (.inr (.inr (.inr (.inr ⟨i, rfl⟩)))))) <| .nil _⟩,
    fun s hlen => (State.Keeps.execFenceWriteWindowEnd (.refl _ s) (.refl _)).completes fun _ ht => ⟨ht.pieces, ht.wordsKept (fun _ => hlen) <|
      .cons .DRV_CMD (fun i j => .inl ⟨i, j, rfl⟩) <| .cons .LAY_GSTAT_ENTRY_HOLD (fun i _ => .inr (.inl ⟨i, rfl⟩)) <| .cons .LAY_HOLD_US (fun i _
      => .inr (.inr (.inr (.inr (.inr (.inr ⟨i, rfl⟩)))))) <| .nil _⟩,
    fun _ s => (State.Keeps.execContainmentRecovery (.refl _ s) (.refl _)).completes fun _ ht => ⟨ht.pieces, ht.wordsKept (fun hr => absurd hr.2
      (by decide)) <| .cons .DRV_PSTAT_CONTAINED (fun i j => .inl ⟨i, j, rfl⟩) <| .cons .DRV_RETRAIN (fun i j => .inr (.inr (.inr ⟨i, j, rfl⟩))) <|
      .nil _⟩,
    fun _ s => (State.Keeps.execPerstReleaseTimer (.refl _ s) (.refl _)).completes fun _ ht => ht.pieces,
    fun _ s hlen => (State.Keeps.execDriveLinkTrainingTimeout (.refl _ s) (.refl _)).completes fun _ ht => ⟨ht.pieces, ht.wordsKept (fun _ => hlen)
      <| .cons .DRV_PSTAT_CONTAINED (fun i j => .inl ⟨i, j, rfl⟩) <| .nil _⟩,
    fun _ s hlen => (State.Keeps.execDrvPowerOn (.refl _ s) (.refl _)).completes fun _ ht => ⟨ht.pieces, ht.wordsKept (fun _ => hlen) <| .cons
      .DRV_PSTAT_CONTAINED (fun i j => .inl ⟨i, j, rfl⟩) <| .cons .HAL_TX_FRM (fun _ _ => .inr (.inr (.inr (.inr rfl)))) <| .nil _⟩,
    fun s => (State.Keeps.execDriveStageTimer (.refl _ s) (.refl _)).completes fun _ ht => ⟨ht.pieces, ht.wordsKept (fun hr => absurd hr.2 (by
      decide)) <| .cons .DRV_PSTAT_CONTAINED (fun i j => .inl ⟨i, j, rfl⟩) <| .cons .HAL_TX_FRM (fun _ _ => .inr (.inr rfl)) <| .nil _⟩,
    fun _ s hlen => (State.Keeps.execCipXtsEnc (.refl _ s) (.refl _)).completes fun _ ht => ⟨ht.pieces, ht.wordsKept (fun _ => hlen) <| .cons
      .CIP_KC_HIT (fun i _ => .inl ⟨i, rfl⟩) <| .cons .CIP_KC_MISS (fun i _ => .inr (.inl ⟨i, rfl⟩)) <| .cons .CIP_KC_WAIT (fun i _ => .inr (.inr
      (.inl ⟨i, rfl⟩))) <| .cons .CIP_STAT_IV_LOST (fun i _ => .inr (.inr (.inr (.inl ⟨i, rfl⟩)))) <| .nil _⟩,
    fun _ s hlen => (State.Keeps.execCipXtsDec (.refl _ s) (.refl _)).completes fun _ ht => ⟨ht.pieces, ht.wordsKept (fun _ => hlen) <| .cons
      .CIP_KC_HIT (fun i _ => .inl ⟨i, rfl⟩) <| .cons .CIP_KC_MISS (fun i _ => .inr (.inl ⟨i, rfl⟩)) <| .cons .CIP_KC_WAIT (fun i _ => .inr (.inr
      (.inl ⟨i, rfl⟩))) <| .cons .CIP_STAT_IV_LOST (fun i _ => .inr (.inr (.inr (.inl ⟨i, rfl⟩)))) <| .nil _⟩,
    fun _ s hlen => (State.Keeps.execCipXtsZero (.refl _ s) (.refl _)).completes fun _ ht => ⟨ht.pieces, ht.wordsKept (fun _ => hlen) <| .cons
      .CIP_KC_HIT (fun i _ => .inl ⟨i, rfl⟩) <| .cons .CIP_KC_MISS (fun i _ => .inr (.inl ⟨i, rfl⟩)) <| .cons .CIP_KC_WAIT (fun i _ => .inr (.inr
      (.inl ⟨i, rfl⟩))) <| .cons .CIP_STAT_IV_LOST (fun i _ => .inr (.inr (.inr (.inl ⟨i, rfl⟩)))) <| .nil _⟩,
    fun _ s hlen => (State.Keeps.execCipGcmSeal (.refl _ s) (.refl _)).completes fun _ ht => ⟨ht.pieces, ht.wordsKept (fun _ => hlen) <| .cons
      .CIP_KC_HIT (fun i _ => .inl ⟨i, rfl⟩) <| .cons .CIP_KC_MISS (fun i _ => .inr (.inl ⟨i, rfl⟩)) <| .cons .CIP_KC_WAIT (fun i _ => .inr (.inr
      (.inl ⟨i, rfl⟩))) <| .cons .CIP_STAT_IV_LOST (fun i _ => .inr (.inr (.inr (.inl ⟨i, rfl⟩)))) <| .nil _⟩,
    fun _ s hlen => (State.Keeps.execCipGcmOpen (.refl _ s) (.refl _)).completes fun _ ht => ⟨ht.pieces, ht.wordsKept (fun _ => hlen) <| .cons
      .CIP_KC_HIT (fun i _ => .inl ⟨i, rfl⟩) <| .cons .CIP_KC_MISS (fun i _ => .inr (.inl ⟨i, rfl⟩)) <| .cons .CIP_KC_WAIT (fun i _ => .inr (.inr
      (.inl ⟨i, rfl⟩))) <| .cons .CIP_STAT_IV_LOST (fun i _ => .inr (.inr (.inr (.inl ⟨i, rfl⟩)))) <| .nil _⟩,
    fun _ s hlen => (State.Keeps.execCipCtr (.refl _ s) (.refl _)).completes fun _ ht => ⟨ht.pieces, ht.wordsKept (fun _ => hlen) <| .cons
      .CIP_KC_HIT (fun i _ => .inl ⟨i, rfl⟩) <| .cons .CIP_KC_MISS (fun i _ => .inr (.inl ⟨i, rfl⟩)) <| .cons .CIP_KC_WAIT (fun i _ => .inr (.inr
      (.inl ⟨i, rfl⟩))) <| .cons .CIP_STAT_IV_LOST (fun i _ => .inr (.inr (.inr (.inl ⟨i, rfl⟩)))) <| .nil _⟩,
    fun _ s hlen => (State.Keeps.execCipKeyZero (.refl _ s) (.refl _)).completes fun _ ht => ⟨ht.pieces, ht.wordsKept (fun _ => hlen) <| .cons
      .CIP_KC_HIT (fun i _ => .inl ⟨i, rfl⟩) <| .cons .CIP_KC_MISS (fun i _ => .inr (.inl ⟨i, rfl⟩)) <| .cons .CIP_KC_WAIT (fun i _ => .inr (.inr
      (.inl ⟨i, rfl⟩))) <| .cons .CIP_STAT_IV_LOST (fun i _ => .inr (.inr (.inr (.inl ⟨i, rfl⟩)))) <| .nil _⟩,
    fun _ _ _ s hlen => (State.Keeps.execKeyLoadDone (.refl _ s) (.refl _)).completes fun _ ht => ⟨ht.pieces, ht.wordsKept (fun _ => hlen) <| .cons
      .CIP_KC_MISS (fun i _ => .inl ⟨i, rfl⟩) <| .cons .CIP_STAT_IV_LOST (fun i _ => .inr (.inl ⟨i, rfl⟩)) <| .nil _⟩⟩

/-- Settles O53, command by command. -/
theorem chainAndPairFrames : Obligations.ChainAndPairFrames := by
  unfold Obligations.ChainAndPairFrames
  refine ⟨
    fun _ _ s hlen => (State.Keeps.execChainAddr (.refl _ s) (.refl _)).completes fun _ ht => ⟨ht.pieces, ht.wordsKept (fun _ => hlen) <| .cons
      .CHN_CHAIN_STAT_ADDR (fun _ _ => .inl rfl) <| .cons .CHN_CRC_ERR (fun _ _ => .inr (.inr (.inr (.inr (.inl rfl))))) <| .cons .CHN_RX_FRM (fun
      _ _ => .inr (.inr (.inr (.inr (.inr (.inl rfl)))))) <| .cons .CHN_TX_FRM (fun _ _ => .inr (.inr (.inr (.inr (.inr (.inr (.inl rfl))))))) <|
      .cons .TIM_SRC_CFG_SRC (fun _ _ => .inr (.inr (.inr (.inr (.inr (.inr (.inr rfl))))))) <| .nil _⟩,
    fun _ _ _ s => (State.Keeps.execChainAddrAck (.refl _ s) (.refl _)).completes fun _ ht => ⟨ht.pieces, ht.wordsKept (fun hr => absurd hr.2 (by
      decide)) <| .cons .CHN_CHAIN_STAT_ADDR (fun _ _ => .inl rfl) <| .cons .CHN_CRC_ERR (fun _ _ => .inr (.inl rfl)) <| .cons .CHN_RX_FRM (fun _ _
      => .inr (.inr (.inl rfl))) <| .cons .CHN_TX_FRM (fun _ _ => .inr (.inr (.inr rfl))) <| .nil _⟩,
    fun s => (State.Keeps.execAddrRepeatTimer (.refl _ s) (.refl _)).completes fun _ ht => ⟨ht.pieces, ht.wordsKept (fun hr => absurd hr.2 (by
      decide)) <| .cons .CHN_TX_FRM (fun _ _ => rfl) <| .nil _⟩,
    fun s hlen => (State.Keeps.execHeadWaitExpiry (.refl _ s) (.refl _)).completes fun _ ht => ⟨ht.pieces, ht.wordsKept (fun _ => hlen) <| .cons
      .CHN_CHAIN_STAT_ADDR (fun _ _ => .inl rfl) <| .cons .CHN_TX_FRM (fun _ _ => .inr (.inr (.inr rfl))) <| .nil _⟩,
    fun s => (State.Keeps.execChainDownstreamUndriven (.refl _ s) (.refl _)).completes fun _ ht => ⟨ht.pieces, ht.wordsKept (fun hr => absurd hr.2
      (by decide)) <| .cons .CHN_CHAIN_STAT_ADDR (fun _ _ => .inl rfl) <| .cons .CHN_TX_FRM (fun _ _ => .inr rfl) <| .nil _⟩,
    fun _ _ _ s hlen => (State.Keeps.execChainReset (.refl _ s) (.refl _)).completes fun _ ht => ⟨ht.pieces, ht.wordsKept (fun _ => hlen) <| .cons
      .CHN_CHAIN_STAT_ADDR (fun _ _ => .inl rfl) <| .cons .CHN_CRC_ERR (fun _ _ => .inr (.inr (.inl rfl))) <| .cons .CHN_RX_FRM (fun _ _ => .inr
      (.inr (.inr (.inl rfl)))) <| .cons .CHN_TX_FRM (fun _ _ => .inr (.inr (.inr (.inr (.inl rfl))))) <| .cons .TIM_STAT_STATE (fun _ _ => .inr
      (.inr (.inr (.inr (.inr rfl))))) <| .nil _⟩,
    fun s hlen => (State.Keeps.execChnChainResetCmd (.refl _ s) (.refl _)).completes fun _ ht => ⟨ht.pieces, ht.wordsKept (fun _ => hlen) <| .cons
      .CHN_CHAIN_STAT_ADDR (fun _ _ => .inl rfl) <| .cons .CHN_TX_FRM (fun _ _ => .inr (.inr (.inl rfl))) <| .cons .TIM_STAT_STATE (fun _ _ => .inr
      (.inr (.inr rfl))) <| .nil _⟩,
    fun s => (State.Keeps.execTreqTimer (.refl _ s) (.refl _)).completes fun _ ht => ⟨ht.pieces, ht.wordsKept (fun hr => absurd hr.2 (by decide))
      <| .cons .CHN_TX_FRM (fun _ _ => rfl) <| .nil _⟩,
    fun _ _ s => (State.Keeps.execChainTreq (.refl _ s) (.refl _)).completes fun _ ht => ⟨ht.pieces, ht.wordsKept (fun hr => absurd hr.2 (by
      decide)) <| .cons .CHN_CRC_ERR (fun _ _ => .inl rfl) <| .cons .CHN_RX_FRM (fun _ _ => .inr (.inl rfl)) <| .cons .CHN_TX_FRM (fun _ _ => .inr
      (.inr rfl)) <| .nil _⟩,
    fun _ _ _ _ s hlen => (State.Keeps.execChainTresp (.refl _ s) (.refl _)).completes fun _ ht => ⟨ht.pieces, ht.wordsKept (fun _ => hlen) <|
      .cons .CHN_CRC_ERR (fun _ _ => .inl rfl) <| .cons .CHN_HOP_DELAY_DELAY (fun _ _ => .inr (.inl rfl)) <| .cons .CHN_RX_FRM (fun _ _ => .inr
      (.inr (.inl rfl))) <| .cons .TIM_OFFSET (fun _ _ => .inr (.inr (.inr (.inl rfl)))) <| .cons .TIM_RATE (fun _ _ => .inr (.inr (.inr (.inr
      (.inl rfl))))) <| .cons .TIM_STAT_STATE (fun _ _ => .inr (.inr (.inr (.inr (.inr rfl))))) <| .nil _⟩,
    fun _ _ _ _ s hlen => (State.Keeps.execChainShot (.refl _ s) (.refl _)).completes fun _ ht => ⟨ht.pieces, ht.wordsKept (fun _ => hlen) <| .cons
      .CHN_CRC_ERR (fun _ _ => .inl rfl) <| .cons .CHN_RX_FRM (fun _ _ => .inr (.inl rfl)) <| .cons .CHN_TX_FRM (fun _ _ => .inr (.inr (.inl rfl)))
      <| .cons .TIM_SHOT_STAT_PENDING (fun _ _ => .inr (.inr (.inr (.inl rfl)))) <| .nil _⟩,
    fun s hlen => (State.Keeps.execChainUpstreamLost (.refl _ s) (.refl _)).completes fun _ ht => ⟨ht.pieces, ht.wordsKept (fun _ => hlen) <| .cons
      .CHN_CHAIN_STAT_ADDR (fun _ _ => .inl rfl) <| .cons .TIM_STAT_STATE (fun _ _ => .inr rfl) <| .nil _⟩,
    fun s hlen => (State.Keeps.execChainUpstreamRestored (.refl _ s) (.refl _)).completes fun _ ht => ⟨ht.pieces, ht.wordsKept (fun _ => hlen) <|
      .cons .CHN_CHAIN_STAT_ADDR (fun _ _ => .inl rfl) <| .nil _⟩,
    fun _ s hlen => (State.Keeps.execHaulHalfUp (.refl _ s) (.refl _)).completes fun _ ht => ⟨ht.pieces, ht.wordsKept (fun _ => hlen) <| .cons
      .EPT_STAT_RELAY (fun _ _ => .inl rfl) <| .cons .HAL_PAIR_STAT_FENCE_HELD (fun _ _ => .inr (.inr (.inr (.inl rfl)))) <| .cons .HAL_RESEND (fun
      _ _ => .inr (.inr (.inr (.inr (.inr (.inl rfl)))))) <| .cons .HAL_TX_FRM (fun _ _ => .inr (.inr (.inr (.inr (.inr (.inr (.inl rfl))))))) <|
      .cons .SWC_STAT_FORWARDING (fun _ _ => .inr (.inr (.inr (.inr (.inr (.inr (.inr (.inl rfl)))))))) <| .nil _⟩,
    fun _ s hlen => (State.Keeps.execHaulHalfDown (.refl _ s) (.refl _)).completes fun _ ht => ⟨ht.pieces, ht.wordsKept (fun _ => hlen) <| .cons
      .EPT_STAT_RELAY (fun _ _ => .inl rfl) <| .cons .HAL_PAIR_STAT_FENCE_HELD (fun _ _ => .inr (.inl rfl)) <| .cons .HAL_RESEND (fun _ _ => .inr
      (.inr (.inr (.inl rfl)))) <| .cons .HAL_TX_FRM (fun _ _ => .inr (.inr (.inr (.inr (.inl rfl))))) <| .cons .SWC_STAT_FORWARDING (fun _ _ =>
      .inr (.inr (.inr (.inr (.inr (.inl rfl)))))) <| .nil _⟩,
    fun _ s hlen => (State.Keeps.execHaulResendTimer (.refl _ s) (.refl _)).completes fun _ ht => ⟨ht.pieces, ht.wordsKept (fun _ => hlen) <| .cons
      .EPT_STAT_RELAY (fun _ _ => .inl rfl) <| .cons .HAL_PAIR_STAT_FENCE_HELD (fun _ _ => .inr (.inl rfl)) <| .cons .HAL_RESEND (fun _ _ => .inr
      (.inr (.inr (.inl rfl)))) <| .cons .HAL_TX_FRM (fun _ _ => .inr (.inr (.inr (.inr (.inl rfl))))) <| .cons .SWC_STAT_FORWARDING (fun _ _ =>
      .inr (.inr (.inr (.inr (.inr (.inl rfl)))))) <| .nil _⟩,
    fun s => (State.Keeps.execHeartbeatTimer (.refl _ s) (.refl _)).completes fun _ ht => ht.pieces,
    fun s hlen => (State.Keeps.execFenceHoldExpiry (.refl _ s) (.refl _)).completes fun _ ht => ⟨ht.pieces, ht.wordsKept (fun _ => hlen) <| .cons
      .HAL_PAIR_STAT_FENCE_HELD (fun _ _ => .inl rfl) <| .nil _⟩,
    fun s hlen => (State.Keeps.execHalUnfenceCmd (.refl _ s) (.refl _)).completes fun _ ht => ⟨ht.pieces, ht.wordsKept (fun _ => hlen) <| .cons
      .HAL_PAIR_STAT_FENCE_HELD (fun _ _ => .inl rfl) <| .nil _⟩,
    fun s hlen => (State.Keeps.execFenceStartDelayExpiry (.refl _ s) (.refl _)).completes fun _ ht => ⟨ht.pieces, ht.wordsKept (fun _ => hlen) <|
      .cons .HAL_PAIR_STAT_FENCE_HELD (fun _ _ => .inl rfl) <| .nil _⟩,
    fun s hlen => (State.Keeps.execPairWaitExpiry (.refl _ s) (.refl _)).completes fun _ ht => ⟨ht.pieces, ht.wordsKept (fun _ => hlen) <| .cons
      .HAL_PAIR_STAT_FENCE_HELD (fun _ _ => .inl rfl) <| .nil _⟩,
    fun s => (State.Keeps.execHalHandoverCmd (.refl _ s) (.refl _)).completes fun _ ht => ht.pieces,
    fun _ s => (State.Keeps.execHoldMessage (.refl _ s) (.refl _)).completes fun _ ht => ⟨ht.pieces, ht.wordsKept (fun hr => absurd hr.2 (by
      decide)) <| .cons .CTL_LIVE_STAT_HOLD (fun _ _ => .inl rfl) <| .cons .HAL_TX_FRM (fun _ _ => .inr rfl) <| .nil _⟩,
    fun s hlen => (State.Keeps.execHoldTimeout (.refl _ s) (.refl _)).completes fun _ ht => ⟨ht.pieces, ht.wordsKept (fun _ => hlen) <| .cons
      .CTL_LIVE_STAT_HOLD (fun _ _ => .inl rfl) <| .cons .EPT_STAT_RELAY (fun _ _ => .inr (.inl rfl)) <| .cons .HAL_PAIR_STAT_FENCE_HELD (fun _ _
      => .inr (.inr (.inl rfl))) <| .cons .HAL_RESEND (fun _ _ => .inr (.inr (.inr (.inr (.inl rfl))))) <| .cons .HAL_TX_FRM (fun _ _ => .inr (.inr
      (.inr (.inr (.inr (.inl rfl)))))) <| .cons .SWC_STAT_FORWARDING (fun _ _ => .inr (.inr (.inr (.inr (.inr (.inr (.inl rfl))))))) <| .nil _⟩⟩

/-- Settles O56, command by command. -/
theorem windowAndIoFields : Obligations.WindowAndIoFields := by
  unfold Obligations.WindowAndIoFields
  refine ⟨
    fun _ s => (State.Keeps.execSetFeaturesWindowPublish (.refl _ s) (.refl _)).completes fun _ ht => ht.pieces,
    fun _ s => (State.Keeps.execSetFeaturesWindowRevoke (.refl _ s) (.refl _)).completes fun _ ht => ht.pieces,
    fun _ s => (State.Keeps.execGetFeaturesWindow (.refl _ s) (.refl _)).completes fun _ ht => ht.pieces,
    fun _ s => (State.Keeps.execWindowRevokeComplete (.refl _ s) (.refl _)).completes fun _ ht => ht.pieces,
    fun _ _ s => (State.Keeps.execWindowWritebackTimer (.refl _ s) (.refl _)).completes fun _ ht => ht.pieces,
    fun _ s => (State.Keeps.execWindowCeilingEligible (.refl _ s) (.refl _)).completes fun _ ht => ht.pieces,
    fun _ _ _ s => (State.Keeps.execLineFillDone (.refl _ s) (.refl _)).completes fun _ ht => ht.pieces,
    fun _ _ s => (State.Keeps.execLineWritebackDone (.refl _ s) (.refl _)).completes fun _ ht => ht.pieces,
    fun s => (State.Keeps.execCacheClrEn (.refl _ s) (.refl _)).completes fun _ ht => ht.pieces,
    fun _ s => (State.Keeps.execMntClean (.refl _ s) (.refl _)).completes fun _ ht => ht.pieces,
    fun _ s => (State.Keeps.execMntInvalidate (.refl _ s) (.refl _)).completes fun _ ht => ht.pieces,
    fun s => (State.Keeps.execMntComplete (.refl _ s) (.refl _)).completes fun _ ht => ht.pieces,
    fun _ s => (State.Keeps.execNvmeFlush (.refl _ s) (.refl _)).completes fun _ ht => ht.pieces,
    fun _ s => (State.Keeps.execNvmeWrite (.refl _ s) (.refl _)).completes fun _ ht => ht.pieces,
    fun _ s => (State.Keeps.execNvmeRead (.refl _ s) (.refl _)).completes fun _ ht => ht.pieces,
    fun _ s => (State.Keeps.execNvmeCompare (.refl _ s) (.refl _)).completes fun _ ht => ht.pieces,
    fun _ s => (State.Keeps.execNvmeWriteZeroes (.refl _ s) (.refl _)).completes fun _ ht => ht.pieces,
    fun _ s => (State.Keeps.execNvmeDatasetManagement (.refl _ s) (.refl _)).completes fun _ ht => ht.pieces,
    fun _ s => (State.Keeps.execNvmeVerify (.refl _ s) (.refl _)).completes fun _ ht => ht.pieces,
    fun _ s => (State.Keeps.execCommandAdmission (.refl _ s) (.refl _)).completes fun _ ht => ht.pieces,
    fun _ _ s => (State.Keeps.execCommandDispatch (.refl _ s) (.refl _)).completes fun _ ht => ht.pieces,
    fun _ s => (State.Keeps.execCommandCompletion (.refl _ s) (.refl _)).completes fun _ ht => ht.pieces,
    fun _ s => (State.Keeps.execReservationRegister (.refl _ s) (.refl _)).completes fun _ ht => ht.pieces,
    fun _ s => (State.Keeps.execReservationReport (.refl _ s) (.refl _)).completes fun _ ht => ht.pieces,
    fun _ s => (State.Keeps.execReservationAcquire (.refl _ s) (.refl _)).completes fun _ ht => ht.pieces,
    fun _ s => (State.Keeps.execReservationRelease (.refl _ s) (.refl _)).completes fun _ ht => ht.pieces⟩

/-- Settles O57, command by command. -/
theorem adminFields : Obligations.AdminFields := by
  unfold Obligations.AdminFields
  refine ⟨
    fun _ s => (State.Keeps.execPropertyGet (.refl _ s) (.refl _)).completes fun _ ht => ht.pieces,
    fun _ s => (State.Keeps.execPropertySet (.refl _ s) (.refl _)).completes fun _ ht => ht.pieces,
    fun _ s => (State.Keeps.execPropertySetCcEnClear (.refl _ s) (.refl _)).completes fun _ ht => ht.pieces,
    fun _ s => (State.Keeps.execPropertySetCcShn (.refl _ s) (.refl _)).completes fun _ ht => ht.pieces,
    fun _ s => (State.Keeps.execPropertySetNssr (.refl _ s) (.refl _)).completes fun _ ht => ht.pieces,
    fun _ _ s => (State.Keeps.execAuthenticationSend (.refl _ s) (.refl _)).completes fun _ ht => ht.pieces,
    fun _ s => (State.Keeps.execAuthenticationReceive (.refl _ s) (.refl _)).completes fun _ ht => ht.pieces,
    fun _ s => (State.Keeps.execKeepAlive (.refl _ s) (.refl _)).completes fun _ ht => ht.pieces,
    fun _ s => (State.Keeps.execUnsupportedOpcode (.refl _ s) (.refl _)).completes fun _ ht => ht.pieces,
    fun _ s => (State.Keeps.execAbort (.refl _ s) (.refl _)).completes fun _ ht => ht.pieces,
    fun _ s => (State.Keeps.execAsyncEventRequest (.refl _ s) (.refl _)).completes fun _ ht => ht.pieces,
    fun _ s => (State.Keeps.execSetFeatures (.refl _ s) (.refl _)).completes fun _ ht => ht.pieces,
    fun _ s => (State.Keeps.execGetFeatures (.refl _ s) (.refl _)).completes fun _ ht => ht.pieces,
    fun _ s => (State.Keeps.execSetFeaturesQueueOrdering (.refl _ s) (.refl _)).completes fun _ ht => ht.pieces,
    fun _ s => (State.Keeps.execGetFeaturesQueueOrdering (.refl _ s) (.refl _)).completes fun _ ht => ht.pieces,
    fun _ s => (State.Keeps.execFirmwareImageDownload (.refl _ s) (.refl _)).completes fun _ ht => ht.pieces,
    fun _ s => (State.Keeps.execKeepAliveExpiry (.refl _ s) (.refl _)).completes fun _ ht => ht.pieces,
    fun _ s => (State.Keeps.execGetLogPage (.refl _ s) (.refl _)).completes fun _ ht => ht.pieces,
    fun _ s => (State.Keeps.execLogPageLostRanges (.refl _ s) (.refl _)).completes fun _ ht => ht.pieces,
    fun _ s => (State.Keeps.execLogPageMetering (.refl _ s) (.refl _)).completes fun _ ht => ht.pieces,
    fun _ s => (State.Keeps.execLogPageLayoutHealth (.refl _ s) (.refl _)).completes fun _ ht => ht.pieces,
    fun _ s => (State.Keeps.execLogPageEventExcerpt (.refl _ s) (.refl _)).completes fun _ ht => ht.pieces,
    fun _ s => (State.Keeps.execIdentify (.refl _ s) (.refl _)).completes fun _ ht => ht.pieces,
    fun _ s => (State.Keeps.execSetFeaturesQosProfile (.refl _ s) (.refl _)).completes fun _ ht => ht.pieces,
    fun _ s => (State.Keeps.execGetFeaturesQosProfile (.refl _ s) (.refl _)).completes fun _ ht => ht.pieces,
    fun _ s => (State.Keeps.execNamespaceCreate (.refl _ s) (.refl _)).completes fun _ ht => ht.pieces,
    fun _ s => (State.Keeps.execNamespaceDelete (.refl _ s) (.refl _)).completes fun _ ht => ht.pieces,
    fun _ s => (State.Keeps.execNamespaceAttach (.refl _ s) (.refl _)).completes fun _ ht => ht.pieces,
    fun _ s => (State.Keeps.execNamespaceDetach (.refl _ s) (.refl _)).completes fun _ ht => ht.pieces,
    fun _ s => (State.Keeps.execDetachComplete (.refl _ s) (.refl _)).completes fun _ ht => ht.pieces,
    fun _ s => (State.Keeps.execFormatNvm (.refl _ s) (.refl _)).completes fun _ ht => ht.pieces,
    fun _ _ s => (State.Keeps.execNamespaceSweep (.refl _ s) (.refl _)).completes fun _ ht => ht.pieces⟩

end Sys2Proof
end

section
/-!
Requests whose effect is narrower than that of the function that carries them out: a token of one KIND, and a vendor request of one
COMMAND. Then O54.
-/

-- One declaration at a time, as with the lemmas about a serving unit.
set_option Elab.async false

namespace Sys2Proof.Machine

/-- The byte written into the token area is the one that is read there. -/
theorem bytesAt_spliceAt_four (area kind : Nat) (h : kind < 256) : bytesAt (spliceAt area 4 1 kind) 4 1 = kind := by
  simp only [bytesAt, spliceAt, putAt]
  omega

namespace State.Keeps

variable {s : State} {μ : Nat} {s₀ : State}

/-! ### Tokens of one KIND -/

theorem tokenOf_revoke {area : Nat} (h : s.Keeps μ s₀)
    (hm : Covers 0x20000000000001000048000000000000000000000486 μ := by exact .mono (by assumption)) :
    (s.tokenOf 1 area).Keeps μ s₀ :=
  h.updTru.tokenGo_of fun hr => h.updTru.tokenDo_revoke (tokenLayoutOk_of_result hr) (bytesAt_spliceAt_four area 1 (by decide))

theorem tokenOf_seed {area : Nat} (h : s.Keeps μ s₀)
    (hm : Covers 0x20000000000001000048000000000000000000000486 μ := by exact .mono (by assumption)) :
    (s.tokenOf 3 area).Keeps μ s₀ :=
  h.updTru.tokenGo_of fun _ => h.updTru.tokenDo_seed (bytesAt_spliceAt_four area 3 (by decide))

theorem tokenOf_disable {area : Nat} (h : s.Keeps μ s₀)
    (hm : Covers 0x20000000000001000048000000000000000000000486 μ := by exact .mono (by assumption)) :
    (s.tokenOf 4 area).Keeps μ s₀ :=
  h.updTru.tokenGo_of fun hr => h.updTru.tokenDo_disable (tokenLayoutOk_of_result hr) (bytesAt_spliceAt_four area 4 (by decide))

/-! ### Vendor requests of one COMMAND -/

/-- A vendor request whose effect is known: beside it, a request is counted, answered, kept for later or relayed. -/
theorem vendor_of {path command : Nat} {r : VendorReq} {unwraps : Bool} (h : s.Keeps μ s₀)
    (hrun : ∀ d, (s.runRequest d r.tag command unwraps r.body).Keeps μ s₀)
    (htru : truRead path command r = true → (s.regRequest 0 1 r.body).1.Keeps μ s₀)
    (hm : Covers 0x80005000000700000000000000000000000402 μ := by exact .mono (by assumption)) :
    (s.vendor path command r unwraps).Keeps μ s₀ := by
  unfold State.vendor
  extract_lets +onlyGivenNames d
  have hown : (s.ownRequest d r.tag command unwraps r.body).Keeps μ s₀ := by
    unfold State.ownRequest State.doRequest
    exact h.answer.ite (h.answer.ite (h.holdAccess.ite (hrun d)))
  split
  · exact (h.bump (hm.writes .CHN_SMB_PEC _)).ite h
  · refine h.ite ?_
    split
    · split
      · next hread => exact (htru hread).answer
      · exact h
    · exact h.ite (h.answer.ite (h.answer.ite (hown.ite (h.answer.ite (h.answer.ite (h.answer.ite h.relayOut))))))

/-- A stopped start reads registers alone (R604). -/
theorem not_truRead {path command : Nat} {r : VendorReq} {P : Prop} (hc : command ≠ 1) (h : truRead path command r = true) : P := by
  simp [truRead, hc] at h

theorem vendor_regRead {path : Nat} {r : VendorReq} (h : s.Keeps μ s₀)
    (hm : Covers 0x80005000000740001400000000000000000c02 μ := by exact .mono (by assumption)) :
    (s.vendor path 0x01 r false).Keeps μ s₀ :=
  h.vendor_of (fun _ => h.readWords.answer) fun _ => h.readWords

theorem vendor_evSubscribe {path : Nat} {r : VendorReq} (h : s.Keeps μ s₀)
    (hm : Covers 0x80005000000700000000000000000000001402 μ := by exact .mono (by assumption)) :
    (s.vendor path 0x10 r false).Keeps μ s₀ :=
  h.vendor_of (fun _ => h.subscribe.answer) (not_truRead (by decide))

theorem vendor_logRead {path : Nat} {r : VendorReq} (h : s.Keeps μ s₀)
    (hm : Covers 0x80005000000700000000000000000000000402 μ := by exact .mono (by assumption)) :
    (s.vendor path 0x12 r false).Keeps μ s₀ :=
  h.vendor_of (fun _ => h.answer) (not_truRead (by decide))

/-- An ADMIN request that may change a table: the change is mirrored. -/
theorem adminByRole_of {d : ReplyTo} {tag command : Nat} {unwraps : Bool} {body : List Nat} (h : s.Keeps μ s₀)
    (hres : (s.adminResult command unwraps body).1.Keeps μ s₀)
    (hm : Covers 0x80004000000500000000600000000000000402 μ := by exact .mono (by assumption)) :
    (s.adminByRole d tag command unwraps body).Keeps μ s₀ := by
  unfold State.adminByRole State.adminRequest
  extract_lets +onlyGivenNames r
  refine ite ?_ (h.haulSend.send.oweReply.ite h.answer)
  dsimp -zeta only
  exact hres.mirror.oweReply.ite (hres.mirrorAlso.answer.ite hres.answer)

/-- An ADMIN request that asks alone: nothing is mirrored. -/
theorem adminByRole_query {d : ReplyTo} {tag command : Nat} {unwraps : Bool} {body : List Nat} (h : s.Keeps μ s₀)
    (hres : (s.adminResult command unwraps body).1.Keeps μ s₀) (hc : command = 0x22 ∨ command = 0x29)
    (hm : Covers 0x80004000000500000000000000000000000402 μ := by exact .mono (by assumption)) :
    (s.adminByRole d tag command unwraps body).Keeps μ s₀ := by
  have hchange : (command = 0x20 || command = 0x21 || command = 0x28) = false := by
    obtain rfl | rfl := hc
    all_goals rfl
  unfold State.adminByRole State.adminRequest
  extract_lets +onlyGivenNames r
  refine ite ?_ (h.haulSend.send.oweReply.ite h.answer)
  simp only [hchange, Bool.and_false, Bool.false_and, Bool.false_eq_true, if_false]
  exact hres.answer

theorem adminResult_identSet {unwraps : Bool} {b : List Nat} (h : s.Keeps μ s₀)
    (hm : Covers 0x1000000000000000000000000808486 μ := by exact .mono (by assumption)) :
    (s.adminResult 0x20 unwraps b).1.Keeps μ s₀ := by
  simp only [State.adminResult]
  split
  · exact h
  · split
    · exact h
    · exact h.putIdent

theorem adminResult_identGet {unwraps : Bool} {b : List Nat} (h : s.Keeps μ s₀) : (s.adminResult 0x22 unwraps b).1.Keeps μ s₀ := by
  simp only [State.adminResult]
  split
  · exact h
  · split
    · exact h
    · exact h

theorem adminResult_qosSet {unwraps : Bool} {b : List Nat} (h : s.Keeps μ s₀) (hm : Covers 0x810000 μ := by exact .mono (by assumption)) :
    (s.adminResult 0x28 unwraps b).1.Keeps μ s₀ := by
  simp only [State.adminResult]
  split
  · exact h
  · split
    · exact h
    · exact h.qosSet

theorem adminResult_qosGet {unwraps : Bool} {b : List Nat} (h : s.Keeps μ s₀) : (s.adminResult 0x29 unwraps b).1.Keeps μ s₀ := by
  simp only [State.adminResult]
  split
  · exact h
  · split
    · exact h
    · exact h

theorem vendor_identSet {path : Nat} {r : VendorReq} {unwraps : Bool} (h : s.Keeps μ s₀)
    (hm : Covers 0x80005001000700000000600000000000808486 μ := by
      exact .mono (by assumption)) : (s.vendor path 0x20 r unwraps).Keeps μ s₀ :=
  h.vendor_of (fun _ => h.adminByRole_of h.adminResult_identSet) (not_truRead (by decide))

theorem vendor_identGet {path : Nat} {r : VendorReq} (h : s.Keeps μ s₀)
    (hm : Covers 0x80005000000700000000000000000000000402 μ := by exact .mono (by assumption)) :
    (s.vendor path 0x22 r false).Keeps μ s₀ :=
  h.vendor_of (fun _ => h.adminByRole_query h.adminResult_identGet (.inl rfl)) (not_truRead (by decide))

theorem vendor_qosSet {path : Nat} {r : VendorReq} (h : s.Keeps μ s₀)
    (hm : Covers 0x80005000000700000000600000000000810402 μ := by exact .mono (by assumption)) :
    (s.vendor path 0x28 r false).Keeps μ s₀ :=
  h.vendor_of (fun _ => h.adminByRole_of h.adminResult_qosSet) (not_truRead (by decide))

theorem vendor_qosGet {path : Nat} {r : VendorReq} (h : s.Keeps μ s₀)
    (hm : Covers 0x80005000000700000000000000000000000402 μ := by exact .mono (by assumption)) :
    (s.vendor path 0x29 r false).Keeps μ s₀ :=
  h.vendor_of (fun _ => h.adminByRole_query h.adminResult_qosGet (.inr rfl)) (not_truRead (by decide))

end State.Keeps
end Sys2Proof.Machine

namespace Sys2Proof

open Machine

/-- Settles O54, command by command. -/
theorem trustAndManagementFrames : Obligations.TrustAndManagementFrames := by
  unfold Obligations.TrustAndManagementFrames
  refine ⟨
    fun s hlen => (State.Keeps.execTruSvnCommit (.refl _ s) (.refl _)).completes fun _ ht => ⟨ht.pieces, ht.wordsKept (fun _ => hlen) <| .cons
      .TRU_STAT_CMD_REFUSED (fun _ _ => rfl) <| .nil _⟩,
    fun _ s hlen => (State.Keeps.tokenOf_revoke (.refl _ s) (.refl _)).next.completes fun _ ht => ⟨ht.pieces, ht.wordsKept (fun _ => hlen) <| .cons
      .TRU_TOKEN_CMD_RESULT (fun _ _ => rfl) <| .nil _⟩,
    fun _ s hlen => (State.Keeps.execTokenDebugUnlock (.refl _ s) (.refl _)).completes fun _ ht => ⟨ht.pieces, ht.wordsKept (fun _ => hlen) <|
      .cons .TRU_STAT_CMD_REFUSED (fun _ _ => .inl rfl) <| .cons .TRU_TOKEN_CMD_RESULT (fun _ _ => .inr rfl) <| .nil _⟩,
    fun _ s hlen => (State.Keeps.tokenOf_seed (.refl _ s) (.refl _)).next.completes fun _ ht => ⟨ht.pieces, ht.wordsKept (fun _ => hlen) <| .cons
      .TRU_TOKEN_CMD_RESULT (fun _ _ => rfl) <| .nil _⟩,
    fun _ s hlen => (State.Keeps.tokenOf_disable (.refl _ s) (.refl _)).next.completes fun _ ht => ⟨ht.pieces, ht.wordsKept (fun _ => hlen) <|
      .cons .TRU_TOKEN_CMD_RESULT (fun _ _ => rfl) <| .nil _⟩,
    fun s => (State.Keeps.execTruNonceRead (.refl _ s) (.refl _)).completes fun _ ht => ht.pieces,
    fun s hlen => (State.Keeps.execTrngHealthFail (.refl _ s) (.refl _)).completes fun _ ht => ⟨ht.pieces, ht.wordsKept (fun _ => hlen) <| .cons
      .TRU_STAT_CMD_REFUSED (fun _ _ => rfl) <| .nil _⟩,
    fun _ s => (State.Keeps.execSpdmGetVersion (.refl _ s) (.refl _)).completes fun _ ht => ht.pieces,
    fun _ s => (State.Keeps.execSpdmGetCapabilities (.refl _ s) (.refl _)).completes fun _ ht => ht.pieces,
    fun _ _ s => (State.Keeps.execSpdmNegotiateAlgorithms (.refl _ s) (.refl _)).completes fun _ ht => ht.pieces,
    fun _ s => (State.Keeps.execSpdmGetDigests (.refl _ s) (.refl _)).completes fun _ ht => ht.pieces,
    fun _ _ _ _ s => (State.Keeps.execSpdmGetCertificate (.refl _ s) (.refl _)).completes fun _ ht => ht.pieces,
    fun _ _ _ s => (State.Keeps.execSpdmChallenge (.refl _ s) (.refl _)).completes fun _ ht => ht.pieces,
    fun _ _ _ _ s => (State.Keeps.execSpdmGetMeasurements (.refl _ s) (.refl _)).completes fun _ ht => ht.pieces,
    fun _ _ s => (State.Keeps.vendor_regRead (.refl _ s) (.refl _)).next.completes fun _ ht => ⟨ht.pieces, ht.wordsKept (fun hr => absurd hr.2 (by
      decide)) <| .cons .CHN_SMB_PEC (fun i _ => .inl ⟨i, rfl⟩) <| .cons .CHN_TX_FRM (fun _ _ => .inr (.inl rfl)) <| .cons .HAL_TX_FRM (fun _ _ =>
      .inr (.inr rfl)) <| .nil _⟩,
    fun _ _ s => (State.Keeps.vendor_evSubscribe (.refl _ s) (.refl _)).next.completes fun _ ht => ⟨ht.pieces, ht.wordsKept (fun hr => absurd hr.2 (by
      decide)) <| .cons .CHN_SMB_PEC (fun i _ => .inl ⟨i, rfl⟩) <| .cons .CHN_TX_FRM (fun _ _ => .inr (.inl rfl)) <| .cons .HAL_TX_FRM (fun _ _ =>
      .inr (.inr rfl)) <| .nil _⟩,
    fun _ _ s => (State.Keeps.vendor_logRead (.refl _ s) (.refl _)).next.completes fun _ ht => ⟨ht.pieces, ht.wordsKept (fun hr => absurd hr.2 (by
      decide)) <| .cons .CHN_SMB_PEC (fun i _ => .inl ⟨i, rfl⟩) <| .cons .CHN_TX_FRM (fun _ _ => .inr (.inl rfl)) <| .cons .HAL_TX_FRM (fun _ _ =>
      .inr (.inr rfl)) <| .nil _⟩,
    fun _ _ _ s hlen => (State.Keeps.vendor_identSet (.refl _ s) (.refl _)).next.completes fun _ ht => ⟨ht.pieces, ht.wordsKept (fun _ => hlen) <|
        .cons
      .CHN_SMB_PEC (fun i _ => .inl ⟨i, rfl⟩) <| .cons .CHN_TX_FRM (fun _ _ => .inr (.inl rfl)) <| .cons .HAL_TX_FRM (fun _ _ => .inr (.inr rfl))
      <| .nil _⟩,
    fun _ _ s => (State.Keeps.vendor_identGet (.refl _ s) (.refl _)).next.completes fun _ ht => ⟨ht.pieces, ht.wordsKept (fun hr => absurd hr.2 (by
      decide)) <| .cons .CHN_SMB_PEC (fun i _ => .inl ⟨i, rfl⟩) <| .cons .CHN_TX_FRM (fun _ _ => .inr (.inl rfl)) <| .cons .HAL_TX_FRM (fun _ _ =>
      .inr (.inr rfl)) <| .nil _⟩,
    fun _ _ s => (State.Keeps.vendor_qosSet (.refl _ s) (.refl _)).next.completes fun _ ht => ⟨ht.pieces, ht.wordsKept (fun hr => absurd hr.2 (by
      decide)) <| .cons .CHN_SMB_PEC (fun i _ => .inl ⟨i, rfl⟩) <| .cons .CHN_TX_FRM (fun _ _ => .inr (.inl rfl)) <| .cons .HAL_TX_FRM (fun _ _ =>
      .inr (.inr rfl)) <| .nil _⟩,
    fun _ _ s => (State.Keeps.vendor_qosGet (.refl _ s) (.refl _)).next.completes fun _ ht => ⟨ht.pieces, ht.wordsKept (fun hr => absurd hr.2 (by
      decide)) <| .cons .CHN_SMB_PEC (fun i _ => .inl ⟨i, rfl⟩) <| .cons .CHN_TX_FRM (fun _ _ => .inr (.inl rfl)) <| .cons .HAL_TX_FRM (fun _ _ =>
      .inr (.inr rfl)) <| .nil _⟩,
    fun _ _ s => (State.Keeps.execEvNotifyResponse (.refl _ s) (.refl _)).completes fun _ ht => ht.pieces,
    fun _ _ s hlen => (State.Keeps.execEvNotifyTimer (.refl _ s) (.refl _)).completes fun _ ht => ⟨ht.pieces, ht.wordsKept (fun _ => hlen) <| .nil
      _⟩,
    fun _ s => (State.Keeps.execRelayTimeout (.refl _ s) (.refl _)).completes fun _ ht => ht.pieces,
    fun _ _ _ s hlen => (State.Keeps.execMctpSetEndpointId (.refl _ s) (.refl _)).completes fun _ ht => ⟨ht.pieces, ht.wordsKept (fun _ => hlen) <|
      .nil _⟩,
    fun _ s => (State.Keeps.execMctpGetEndpointId (.refl _ s) (.refl _)).completes fun _ ht => ht.pieces,
    fun _ s => (State.Keeps.execMctpGetEndpointUuid (.refl _ s) (.refl _)).completes fun _ ht => ht.pieces,
    fun _ _ s => (State.Keeps.execMctpGetVersionSupport (.refl _ s) (.refl _)).completes fun _ ht => ht.pieces,
    fun _ s => (State.Keeps.execMctpGetMessageTypeSupport (.refl _ s) (.refl _)).completes fun _ ht => ht.pieces,
    fun _ _ s => (State.Keeps.execMctpGetVendorSupport (.refl _ s) (.refl _)).completes fun _ ht => ht.pieces,
    fun _ _ s => (State.Keeps.execNvmeMiBasicManagement (.refl _ s) (.refl _)).completes fun _ ht => ht.pieces,
    fun _ _ _ _ s => (State.Keeps.execNvmeMiReadDataStructure (.refl _ s) (.refl _)).completes fun _ ht => ht.pieces,
    fun _ _ s => (State.Keeps.execNvmeMiSubsystemHealthPoll (.refl _ s) (.refl _)).completes fun _ ht => ht.pieces,
    fun _ _ _ s => (State.Keeps.execNvmeMiControllerHealthPoll (.refl _ s) (.refl _)).completes fun _ ht => ht.pieces,
    fun _ _ _ s => (State.Keeps.execNvmeMiConfigurationGet (.refl _ s) (.refl _)).completes fun _ ht => ht.pieces,
    fun _ _ _ _ s => (State.Keeps.execNvmeMiConfigurationSet (.refl _ s) (.refl _)).completes fun _ ht => ht.pieces,
    fun _ s hlen => (State.Keeps.execSmbusTimeout (.refl _ s) (.refl _)).completes fun _ ht => ⟨ht.pieces, ht.wordsKept (fun _ => hlen) <| .cons
      .CHN_SMB_TO (fun i _ => ⟨i, rfl⟩) <| .nil _⟩,
    fun _ _ s => (State.Keeps.execHalfLatchRead (.refl _ s) (.refl _)).completes fun _ ht => ht.pieces⟩

end Sys2Proof
end

section
/-!
The fault of a bench that is not of the transport class: no frame of the switch core is released, for only the transport roles hold any
(R452). Then O58.
-/

-- One declaration at a time, as with the lemmas about a serving unit.
set_option Elab.async false

namespace Sys2Proof.Machine

namespace State.Keeps

variable {s : State} {μ : Nat} {s₀ : State}

theorem abandonRotation_of_ne {c : Nat} (h : s.Keeps μ s₀) (hc : c ≠ 0)
    (hm : Covers 0x1ffffffffffff0300000000000000000000000000007a μ := by exact .mono (by assumption)) :
    (s.abandonRotation c).Keeps μ s₀ := by
  unfold State.abandonRotation
  extract_lets +onlyGivenNames s1
  have h1 : s1.Keeps μ s₀ := by
    unfold s1
    split
    · contradiction
    · exact h
  exact h1.updRot.setBit.releaseHeld

theorem rebind_of_ne {c out spare r : Nat} (h : s.Keeps μ s₀) (hc : c ≠ 0)
    (hm : Covers 0x1ffffffffffff030000000000000000000000000004fe μ := by exact .mono (by assumption)) :
    (s.rebind c out spare r).Keeps μ s₀ := by
  unfold State.rebind
  extract_lets +onlyGivenNames bo bs fault s1 s2 s3 s4 s5 s6 s7 s8 s9
  have h1 : s1.Keeps μ s₀ := h.updBench
  have h2 : s2.Keeps μ s₀ := h1.ite h1.setBenchState
  have h5 : s5.Keeps μ s₀ := h2.updBench.setBenchState.updRot
  have h7 : s7.Keeps μ s₀ := h5.bump.setBit
  have h8 : s8.Keeps μ s₀ := h7.moveInbound.moveOutbound
  have h9 : s9 = s8 := if_neg hc
  rw [h9]
  exact h8.refreshMaps.releaseHeld

theorem rebindOrDefer_of_ne {c out spare r : Nat} (h : s.Keeps μ s₀) (hc : c ≠ 0)
    (hm : Covers 0x1ffffffffffff030000000000000000000000000004fe μ := by exact .mono (by assumption)) :
    (s.rebindOrDefer c out spare r).Keeps μ s₀ := by
  unfold State.rebindOrDefer
  exact h.updRot.setBit.ite (h.rebind_of_ne hc)

theorem takeover_of_ne {c out r : Nat} {hdrOk : Bool} (h : s.Keeps μ s₀) (hc : c ≠ 0)
    (hm : Covers 0x1ffffffffffff030000000000000000000000000004fe μ := by exact .mono (by assumption)) :
    (s.takeover c out r hdrOk).Keeps μ s₀ := by
  unfold State.takeover
  extract_lets +onlyGivenNames bind
  have hbind : ∀ s sp, s.Keeps μ s₀ → (bind s sp).Keeps μ s₀ := by
    intro s sp ht
    exact (ht.rebindOrDefer_of_ne hc).ite ht.controllerFault
  split
  · split
    · exact hbind _ _ h
    · split
      · split
        · exact hbind _ _ h
        · exact h.controllerFault
      · extract_lets +onlyGivenNames s1
        have h1 : s1.Keeps μ s₀ := h.abandonRotation_of_ne hc
        split
        · exact hbind _ _ h1
        · exact h1.controllerFault
  · split
    · exact hbind _ _ h
    · exact h.controllerFault

theorem spareLost_of_ne {c i : Nat} {hdrOk : Bool} (h : s.Keeps μ s₀) (hc : c ≠ 0)
    (hm : Covers 0x1ffffffffffff030000000000000000000000000004fe μ := by exact .mono (by assumption)) :
    (s.spareLost c i hdrOk).Keeps μ s₀ := by
  unfold State.spareLost
  split
  · exact h.ite ((h.updRot.setBit.takeover_of_ne hc).ite (h.abandonRotation_of_ne hc))
  · exact h

/-- A bench of the transport class is one of 17 to 21. -/
theorem class_ne_zero {b c i : Nat} (hb : 22 ≤ b) (h : classInst b = some (c, i)) : c ≠ 0 := by
  rintro rfl
  unfold classInst at h
  split at h
  · next c hc =>
    split at h
    · obtain rfl : c = 0 := congrArg Prod.fst (Option.some.inj h)
      unfold classOf at hc
      rw [if_neg (by omega), if_neg (by omega)] at hc
      split_ifs at hc
      all_goals exact absurd (Option.some.inj hc) (by decide)
    · cases h
  · cases h

theorem faultBench_of_le {b : Nat} {hdrOk : Bool} (h : s.Keeps μ s₀) (hb : 22 ≤ b)
    (hm : Covers 0x1ffffffffffff030002000000000000000000000004fe μ := by exact .mono (by assumption)) :
    (s.faultBench b hdrOk).Keeps μ s₀ := by
  unfold State.faultBench
  extract_lets +onlyGivenNames st
  split
  · exact h
  · extract_lets +onlyGivenNames s1
    have h1 : s1.Keeps μ s₀ := h.updBench
    split
    · exact h1.setBenchState.controllerFault
    · next c i hci =>
      have hc : c ≠ 0 := class_ne_zero hb hci
      extract_lets +onlyGivenNames s2
      have h2 : s2.Keeps μ s₀ := h1.setBenchState
      split
      · exact (h2.takeover_of_ne hc).refreshMaps
      · exact (h2.spareLost_of_ne hc).refreshMaps.liveClass

theorem countRepair_of_le {b row : Nat} {hdrOk : Bool} (h : s.Keeps μ s₀) (hb : 22 ≤ b)
    (hm : Covers 0x1ffffffffffff030002000000000000000000000004fe μ := by exact .mono (by assumption)) :
    (s.countRepair b row hdrOk).Keeps μ s₀ := by
  unfold State.countRepair
  extract_lets +onlyGivenNames s1 old s2
  have h1 : s1.Keeps μ s₀ := h.raise
  have h2 : s2.Keeps μ s₀ := h1.updBench
  exact h2.ite ((h2.faultBench_of_le hb).ite (h2.raise.ite h2))

/-- The benches of the classes 1 to 5 and those above them are not of the transport class. -/
theorem le_roleBench {t : State} {c r : Nat} (hc : 1 ≤ c ∧ c ≤ 5) : 22 ≤ t.roleBench c r := by
  have hinst : ∀ i, 22 ≤ instBench c i := by
    intro i
    obtain ⟨h1, h5⟩ := hc
    unfold instBench
    interval_cases c
    all_goals exact Nat.le_trans (by decide) (Nat.le_add_right _ i)
  unfold State.roleBench State.boundBench
  cases hfind : List.find? _ _ with
  | none => exact hinst r
  | some b =>
    obtain ⟨i, -, rfl⟩ := List.mem_map.mp (List.mem_of_find?_eq_some hfind)
    exact hinst i

theorem sealChecked_par {g k : Nat} {check : ParCheck} (h : s.Keeps μ s₀)
    (hm : Covers 0x1ffffffffffff030002000000000100060170000004fe μ := by exact .mono (by assumption)) :
    (s.sealChecked g k check).Keeps μ s₀ := by
  unfold State.sealChecked
  split
  · exact h.trySeal
  · extract_lets +onlyGivenNames r
    split
    · exact h.trySeal.bump
    · exact ((h.trySeal.bump).bump).countRepair_of_le (le_roleBench (by decide))
    · exact ((h.bump).bump).raise

theorem execStripeSeal_par {group stripe : Nat} {bad : List Nat} {check : ParCheck} (h : s.Keeps μ s₀)
    (hm : Covers 0x1ffffffffffff03000301f8200061000691700c8124fe μ := by exact .mono (by assumption)) : Answers μ s₀ (Machine.execStripeSeal group
        stripe bad check s) := by
  unfold Machine.execStripeSeal
  refine State.Keeps.next ?_
  extract_lets +onlyGivenNames mine
  exact ((h.foldl fun _ _ ht => ht.stageFails).sealChecked_par).placeWaiting

theorem execCipResult_cip {role : Nat} {f : CipFound} {hdrOk : Bool} (h : s.Keeps μ s₀)
    (hm : Covers 0x1ffffffffffff03000340002010010000000000000cfe μ := by exact .mono (by assumption)) :
    Answers μ s₀ (Machine.execCipResult role f hdrOk s) := by
  unfold Machine.execCipResult
  refine State.Keeps.next ?_
  split
  · exact h
  · extract_lets +onlyGivenNames q
    split
    · exact h.cipAnswer
    · split
      · extract_lets +onlyGivenNames s1
        have h1 : s1.Keeps μ s₀ := h.updCip
        exact h1.cipAnswer.raise
      · split
        · exact h.cipLoads.syncCip
        · extract_lets +onlyGivenNames s1 s2 iv work
          have h1 : s1.Keeps μ s₀ := h.updCip
          have h2 : s2.Keeps μ s₀ := h1.rekeyHaul
          refine h2.cipAnswer.ite (h2.cipAnswer.ite (h2.cipAnswer.ite (ite ?_ ?_)))
          · extract_lets +onlyGivenNames s3
            have h3 : s3.Keeps μ s₀ := h2.countRepair_of_le (le_roleBench (by decide))
            split
            · exact h3.cipAnswer
            · split
              · exact h3
              · extract_lets +onlyGivenNames s4
                have h4 : s4.Keeps μ s₀ := h3.updCip.cipRefill.syncCip
                exact (h4.bump).cipArrive
          · extract_lets +onlyGivenNames s3
            have h3 : s3.Keeps μ s₀ := h2.cipCount.foldl fun _ _ ht => ht.send
            exact h3.cipAnswer

end State.Keeps
end Sys2Proof.Machine

namespace Sys2Proof

open Machine

/-- Settles O58, command by command. -/
theorem storageFields : Obligations.StorageFields := by
  unfold Obligations.StorageFields
  refine ⟨
    fun s => (State.Keeps.execGrantPeriod (.refl _ s) (.refl _)).completes fun _ ht => ht.pieces,
    fun _ s => (State.Keeps.execCmdQosCfgWrite (.refl _ s) (.refl _)).completes fun _ ht => ht.pieces,
    fun _ _ s => (State.Keeps.execCmdQosGcapWrite (.refl _ s) (.refl _)).completes fun _ ht => ht.pieces,
    fun _ _ _ _ s => (State.Keeps.execStripeSeal_par (.refl _ s) (.refl _)).completes fun _ ht => ht.pieces,
    fun _ _ s => (State.Keeps.execSealWaitExpiry (.refl _ s) (.refl _)).completes fun _ ht => ht.pieces,
    fun _ _ s => (State.Keeps.execStripeRelease (.refl _ s) (.refl _)).completes fun _ ht => ht.pieces,
    fun _ _ _ _ _ _ s => (State.Keeps.execSurveyObjectLoaded (.refl _ s) (.refl _)).completes fun _ ht => ht.pieces,
    fun _ _ _ s => (State.Keeps.execSurveyRebuildScan (.refl _ s) (.refl _)).completes fun _ ht => ht.pieces,
    fun _ s => (State.Keeps.execMemberCommandAge (.refl _ s) (.refl _)).completes fun _ ht => ht.pieces,
    fun _ s => (State.Keeps.execMemberFailTimer (.refl _ s) (.refl _)).completes fun _ ht => ht.pieces,
    fun _ s => (State.Keeps.execMemberReturnExpiry (.refl _ s) (.refl _)).completes fun _ ht => ht.pieces,
    fun _ _ s => (State.Keeps.execDriveOffer (.refl _ s) (.refl _)).completes fun _ ht => ht.pieces,
    fun _ s => (State.Keeps.execJoinRecordWritten (.refl _ s) (.refl _)).completes fun _ ht => ht.pieces,
    fun _ s => (State.Keeps.execReconciliationDone (.refl _ s) (.refl _)).completes fun _ ht => ht.pieces,
    fun _ s => (State.Keeps.execLayMcmdDrain (.refl _ s) (.refl _)).completes fun _ ht => ht.pieces,
    fun _ s => (State.Keeps.execLayMcmdFail (.refl _ s) (.refl _)).completes fun _ ht => ht.pieces,
    fun _ s => (State.Keeps.execLayMcmdJoin (.refl _ s) (.refl _)).completes fun _ ht => ht.pieces,
    fun _ s => (State.Keeps.execLayMcmdForget (.refl _ s) (.refl _)).completes fun _ ht => ht.pieces,
    fun _ _ s => (State.Keeps.execSpoilReclaimVictim (.refl _ s) (.refl _)).completes fun _ ht => ht.pieces,
    fun _ s => (State.Keeps.execRebuildIndexSweep (.refl _ s) (.refl _)).completes fun _ ht => ht.pieces,
    fun _ _ s => (State.Keeps.execRebuildStripe (.refl _ s) (.refl _)).completes fun _ ht => ht.pieces,
    fun _ _ s => (State.Keeps.execRegionResync (.refl _ s) (.refl _)).completes fun _ ht => ht.pieces,
    fun _ _ s => (State.Keeps.execPatrolVisit (.refl _ s) (.refl _)).completes fun _ ht => ht.pieces,
    fun _ s => (State.Keeps.execReshapeStart (.refl _ s) (.refl _)).completes fun _ ht => ht.pieces,
    fun s => (State.Keeps.execReshapeSwitchover (.refl _ s) (.refl _)).completes fun _ ht => ht.pieces,
    fun s => (State.Keeps.execTallyRecordWritten (.refl _ s) (.refl _)).completes fun _ ht => ht.pieces,
    fun _ s => (State.Keeps.execTallyRecordDurable (.refl _ s) (.refl _)).completes fun _ ht => ht.pieces,
    fun _ _ _ _ _ s => (State.Keeps.execMemberCompletion (.refl _ s) (.refl _)).completes fun _ ht => ht.pieces,
    fun _ _ _ _ s => (State.Keeps.execMemberDmaRequest (.refl _ s) (.refl _)).completes fun _ ht => ht.pieces,
    fun _ _ s => (State.Keeps.execMemberErrorMessage (.refl _ s) (.refl _)).completes fun _ ht => ht.pieces,
    fun _ s => (State.Keeps.execDriveLinkDown (.refl _ s) (.refl _)).completes fun _ ht => ht.pieces,
    fun _ s => (State.Keeps.execDrvNonpostedTimeout (.refl _ s) (.refl _)).completes fun _ ht => ht.pieces,
    fun _ _ s => (State.Keeps.execDriveEnumerated (.refl _ s) (.refl _)).completes fun _ ht => ht.pieces,
    fun _ s => (State.Keeps.execDrvPowerOff (.refl _ s) (.refl _)).completes fun _ ht => ht.pieces,
    fun _ s => (State.Keeps.execSbcFrame (.refl _ s) (.refl _)).completes fun _ ht => ht.pieces,
    fun _ _ _ s => (State.Keeps.execCipResult_cip (.refl _ s) (.refl _)).completes fun _ ht => ht.pieces⟩

end Sys2Proof
end

section
/-!
The window of an OFF bench (O10), and the pieces and fields that stay as they were, read off a mask.
-/

-- One declaration at a time, as with the lemmas about a serving unit.
set_option Elab.async false

namespace Sys2Proof.Machine

namespace State.Keeps

variable {s t : State} {K : Nat}

/-- Between states of which one keeps the registers of the other, every field reads the same. -/
theorem rd_eq (h : t.Keeps K s) (f : Fld) (hK : K.testBit 1 = false := by decide) : t.rd f = s.rd f :=
  State.rd_eq_of_regs_eq ((congrArg State.regs h.pieces).symm.trans (by simp only [State.blend, hK, cond_false])) f

theorem fuses_eq (h : t.Keeps K s) (hK : K.testBit 99 = false := by decide) : t.fuses = s.fuses :=
  (congrArg State.fuses h.pieces).symm.trans (by simp only [State.blend, hK, cond_false])

theorem boot_eq (h : t.Keeps K s) (hK : K.testBit 101 = false := by decide) : t.boot = s.boot :=
  (congrArg State.boot h.pieces).symm.trans (by simp only [State.blend, hK, cond_false])

theorem tru_eq (h : t.Keeps K s) (hK : K.testBit 102 = false := by decide) : t.tru = s.tru :=
  (congrArg State.tru h.pieces).symm.trans (by simp only [State.blend, hK, cond_false])

theorem pair_eq (h : t.Keeps K s) (hK : K.testBit 104 = false := by decide) : t.pair = s.pair :=
  (congrArg State.pair h.pieces).symm.trans (by simp only [State.blend, hK, cond_false])

end State.Keeps

/-- A unit that still reloads bench 5, which is OFF, so that an access to its window waits (R612). -/
def offReloadState : State := { State.reset with live := { Live.cold with busy := [(5, 0, false)] } }

end Sys2Proof.Machine

namespace Sys2Proof

open Machine

/-- Refutes O10: a read of the window of an OFF bench that reloads in place waits and returns nothing yet (R612). -/
theorem not_offWindow : ¬Obligations.OffWindow := by
  intro h
  obtain ⟨hread, -⟩ := h offReloadState 5 5 0 (by decide) (by decide) (by decide) (.inr rfl) (by decide)
  obtain ⟨t, hexec, ht⟩ := hread rfl
  have hheld : exec (.halfLatchRead 5 (5 * 0x100000 + 0)) offReloadState = .next (offReloadState.holdAccess (.read 5 (5 * 0x100000 + 0))) := rfl
  cases hheld.symm.trans hexec
  exact absurd (congrArg (fun t : State => t.out.length) ht) (by decide)

end Sys2Proof
end

section
/-!
Security versions, tokens and the nonce: what the commands of TRU leave, then O43.
-/

-- One declaration at a time, as with the lemmas about a serving unit.
set_option Elab.async false

namespace Sys2Proof.Machine

/-! ### Security versions -/

/-- The state with other fuses. -/
def State.withFuses (s : State) (f : Fuses) : State := { s with fuses := f }

theorem State.benchAt_withFuses (s : State) (f : Fuses) (b : Nat) : (s.withFuses f).benchAt b = s.benchAt b := rfl

theorem State.isSet_withFuses (s : State) (f : Fuses) (x : Fld) : (s.withFuses f).isSet x = s.isSet x := rfl

/-- The fuses raised to the security versions of an image (R587). -/
def Fuses.raisedTo (f : Fuses) (b : BankImg) : Fuses := { f with fwSvn := max f.fwSvn (min 64 b.fwSvn), ownSvn := max f.ownSvn (min 64 b.ownSvn) }

theorem State.svnCommit_of_accepted {s : State} {b : BankImg} (hruns : s.truRuns = true) (himg : s.boot.img = some b)
    (hstep : s.stepDone 15 = true) (hbank : s.boot.bank = s.flash.preferred) (hphase : s.phase = 0)
    (howner : s.rd F.CTL_BOOT_STAT_OWNER ≠ 2) : s.svnCommit = (s.withFuses (s.fuses.raisedTo b)).raise 1 6 NOTICE 3
      (max s.fuses.fwSvn (min 64 b.fwSvn) + 65536 * max s.fuses.ownSvn (min 64 b.ownSvn)) := by
  simp [State.svnCommit, State.withFuses, Fuses.raisedTo, hruns, himg, hstep, hbank, hphase, howner]

/-- An accepted commit raises the fuses and notes it (R587). -/
theorem exec_truSvnCommit_accepted {s : State} {b : BankImg} (hruns : s.truRuns = true) (himg : s.boot.img = some b)
    (hstep : s.stepDone 15 = true) (hbank : s.boot.bank = s.flash.preferred) (hphase : s.phase = 0)
    (howner : s.rd F.CTL_BOOT_STAT_OWNER ≠ 2) : exec .truSvnCommit s = .next ((s.withFuses (s.fuses.raisedTo b)).raise 1 6 NOTICE 3
      (max s.fuses.fwSvn (min 64 b.fwSvn) + 65536 * max s.fuses.ownSvn (min 64 b.ownSvn))) := by
  rw [← State.svnCommit_of_accepted hruns himg hstep hbank hphase howner]
  rfl

theorem State.svnCommit_of_refused {s : State} (hruns : s.truRuns = true) (hbad : s.boot.img = none ∨ s.stepDone 15 = false ∨
    s.boot.bank ≠ s.flash.preferred ∨ s.phase ≠ 0 ∨ s.rd F.CTL_BOOT_STAT_OWNER = 2) : s.svnCommit = s.wr F.TRU_STAT_CMD_REFUSED 1 := by
  unfold State.svnCommit
  rw [hruns]
  cases himg : s.boot.img with
  | none => rfl
  | some b =>
    have hbad' : (!s.stepDone 15 || s.boot.bank != s.flash.preferred || s.phase != 0 || s.rd F.CTL_BOOT_STAT_OWNER = 2) = true := by
      simpa [himg, or_assoc] using hbad
    exact if_pos hbad'

/-! ### Keys, debug levels and tokens -/

@[simp] theorem State.rd_send (s : State) (o : Out) (f : Fld) : (s.send o).rd f = s.rd f := rfl

@[simp] theorem State.rd_updTru (s : State) (g : Tru → Tru) (f : Fld) : (s.updTru g).rd f = s.rd f := rfl

@[simp] theorem State.rd_controllerFault (s : State) (f : Fld) : s.controllerFault.rd f = s.rd f :=
  State.rd_eq_of_regs_eq s.controllerFault_regs f

theorem State.tokenResult_lt (s : State) (a : Nat) : s.tokenResult a < 8 := by
  simp only [State.tokenResult]
  repeat' split
  all_goals omega

/-- An accepted token is well laid out. -/
theorem tokenLayoutOk_of_accepted {s : State} {a : Nat} (h : s.tokenResult a = 0) : tokenLayoutOk a = true := by
  cases hok : tokenLayoutOk a with
  | true => rfl
  | false => simp [State.tokenResult, hok] at h

theorem State.enterDebug_fuses (s : State) (level : Nat) : (s.enterDebug level).fuses = s.fuses :=
  (State.Keeps.enterDebug (.refl _ s) (.refl _)).fuses_eq

theorem State.rd_enterDebug (s : State) (level : Nat) (hlevel : level ≤ 2) :
    (s.enterDebug level).rd F.TRU_STAT_DEBUG = max level (s.rd F.TRU_STAT_DEBUG) := by
  have hlt : s.rd F.TRU_STAT_DEBUG < 4 := s.rd_lt F.TRU_STAT_DEBUG
  unfold State.enterDebug
  extract_lets t
  have ht : t.rd F.TRU_STAT_DEBUG = s.rd F.TRU_STAT_DEBUG := by
    simp only [t]; split
    · rw [State.rd_updTru, State.rd_controllerFault]; rfl
    · rfl
  rw [State.rd_raise_beyond _ _ _ _ _ _ _ (by decide), State.rd_wr_same _ _ _ (by decide) (by decide), ht]
  exact Nat.mod_eq_of_lt (by change _ < 4; omega)

/-- The state in which a token's result is set: what an accepted token does is done, and the nonce is consumed but for the first of
two tokens of level 2 (R589). -/
def State.tokenDone (s : State) : State :=
  let a := s.tru.token
  let t : State := if s.tokenResult a = 0 then s.tokenDo a else s
  t.updTru fun x => if s.tokenResult a = 0 && bytesAt a 4 1 = 2 && bytesAt a 5 1 = 2 && !s.tru.level2 then { x with level2 := true }
    else { x with level2 := false, nonce := none }

theorem State.tokenGo_of_runs {s : State} (h : s.truRuns = true) : s.tokenGo =
    (s.tokenDone.wr F.TRU_TOKEN_CMD_RESULT (s.tokenResult s.tru.token)).raise 1 7 NOTICE 4
      (bytesAt s.tru.token 4 1 + 256 * s.tokenResult s.tru.token) := by
  unfold State.tokenGo
  rw [h]
  rfl

theorem State.rd_tokenResult_tokenGo {s : State} (h : s.truRuns = true) :
    s.tokenGo.rd F.TRU_TOKEN_CMD_RESULT = s.tokenResult s.tru.token := by
  rw [State.tokenGo_of_runs h, State.rd_raise_beyond _ _ _ _ _ _ _ (by decide), State.rd_wr_same _ _ _ (by decide) (by decide)]
  exact Nat.mod_eq_of_lt (s.tokenResult_lt s.tru.token)

theorem State.rd_debug_tokenGo {s : State} (h : s.truRuns = true) : s.tokenGo.rd F.TRU_STAT_DEBUG =
    (if s.tokenResult s.tru.token = 0 then s.tokenDo s.tru.token else s).rd F.TRU_STAT_DEBUG := by
  rw [State.tokenGo_of_runs h, State.rd_raise_beyond _ _ _ _ _ _ _ (by decide), State.rd_wr_other _ _ _ _ (by decide)]
  rfl

theorem State.tokenGo_fuses {s : State} (h : s.truRuns = true) :
    s.tokenGo.fuses = (if s.tokenResult s.tru.token = 0 then s.tokenDo s.tru.token else s).fuses := by
  rw [State.tokenGo_of_runs h, State.raise_fuses]
  rfl

theorem State.tokenGo_tru {s : State} (h : s.truRuns = true) : s.tokenGo.tru = s.tokenDone.tru := by
  rw [State.tokenGo_of_runs h, State.raise_tru]
  rfl


/-- The state with a token in the token area. -/
def State.withToken (s : State) (a : Nat) : State := s.updTru fun t => { t with token := a }

theorem State.tokenOf_eq (s : State) (kind area : Nat) : s.tokenOf kind area = (s.withToken (spliceAt area 4 1 kind)).tokenGo := rfl

theorem State.truRuns_withToken (s : State) (a : Nat) : (s.withToken a).truRuns = s.truRuns := rfl

theorem State.token_withToken (s : State) (a : Nat) : (s.withToken a).tru.token = a := rfl

theorem State.level2_withToken (s : State) (a : Nat) : (s.withToken a).tru.level2 = s.tru.level2 := rfl

theorem State.fuses_withToken (s : State) (a : Nat) : (s.withToken a).fuses = s.fuses := rfl

theorem State.rd_withToken (s : State) (a : Nat) (f : Fld) : (s.withToken a).rd f = s.rd f := rfl

/-- The result of a token does not depend on what stands in the token area. -/
theorem State.tokenResult_withToken (s : State) (a x : Nat) : (s.withToken a).tokenResult x = s.tokenResult x := rfl

theorem State.rd_result_tokenOf {s : State} {kind area : Nat} (h : s.truRuns = true) :
    (s.tokenOf kind area).rd F.TRU_TOKEN_CMD_RESULT = s.tokenResult (spliceAt area 4 1 kind) := by
  rw [s.tokenOf_eq, State.rd_tokenResult_tokenGo ((s.truRuns_withToken _).trans h), s.token_withToken, s.tokenResult_withToken]

theorem State.tokenOf_fuses {s : State} {kind area : Nat} (h : s.truRuns = true) : (s.tokenOf kind area).fuses =
    if s.tokenResult (spliceAt area 4 1 kind) = 0 then ((s.withToken (spliceAt area 4 1 kind)).tokenDo (spliceAt area 4 1 kind)).fuses else s.fuses := by
  rw [s.tokenOf_eq, State.tokenGo_fuses ((s.truRuns_withToken _).trans h), s.token_withToken, s.tokenResult_withToken,
    apply_ite State.fuses, s.fuses_withToken]

theorem State.rd_debug_tokenOf {s : State} {kind area : Nat} (h : s.truRuns = true) : (s.tokenOf kind area).rd F.TRU_STAT_DEBUG =
    if s.tokenResult (spliceAt area 4 1 kind) = 0 then ((s.withToken (spliceAt area 4 1 kind)).tokenDo (spliceAt area 4 1 kind)).rd F.TRU_STAT_DEBUG
    else s.rd F.TRU_STAT_DEBUG := by
  rw [s.tokenOf_eq, State.rd_debug_tokenGo ((s.truRuns_withToken _).trans h), s.token_withToken, s.tokenResult_withToken,
    apply_ite fun t : State => t.rd F.TRU_STAT_DEBUG, s.rd_withToken]

/-- Every token but one of debug unlock consumes the nonce. -/
theorem State.tokenOf_nonce {s : State} {kind area : Nat} (h : s.truRuns = true) (hk : kind < 256) (hkind : kind ≠ 2) :
    (s.tokenOf kind area).tru.nonce = none := by
  rw [s.tokenOf_eq, State.tokenGo_tru ((s.truRuns_withToken _).trans h), State.tokenDone, s.token_withToken,
    bytesAt_spliceAt_four area kind hk]
  simp [State.updTru, hkind]

/-- The first of two tokens of level 2 leaves the second awaited. -/
theorem State.tokenOf_level2 {s : State} {area : Nat} (h : s.truRuns = true) : (s.tokenOf 2 area).tru.level2 =
    decide (s.tokenResult (spliceAt area 4 1 2) = 0 ∧ bytesAt (spliceAt area 4 1 2) 5 1 = 2 ∧ s.tru.level2 = false) := by
  rw [s.tokenOf_eq, State.tokenGo_tru ((s.truRuns_withToken _).trans h), State.tokenDone, s.token_withToken, s.tokenResult_withToken,
    s.level2_withToken, bytesAt_spliceAt_four area 2 (by decide)]
  generalize s.tokenResult (spliceAt area 4 1 2) = r
  generalize bytesAt (spliceAt area 4 1 2) 5 1 = p
  simp only [State.updTru, decide_true, Bool.and_true, Bool.and_eq_true, decide_eq_true_eq, Bool.not_eq_true', and_assoc]
  split
  · next hfirst => simp only [hfirst, and_self, decide_true]
  · next hfirst => simp only [hfirst, decide_false]

/-- What an accepted token of each KIND burns. -/
theorem State.tokenDo_fuses_revoke (s : State) {a : Nat} (h : bytesAt a 4 1 = 1) :
    (s.tokenDo a).fuses = { s.fuses with frevoke := s.fuses.frevoke ||| 2 ^ bytesAt a 5 1 } := by simp only [State.tokenDo, h]

theorem State.tokenDo_fuses_debug (s : State) {a : Nat} (h : bytesAt a 4 1 = 2) : (s.tokenDo a).fuses = s.fuses := by
  simp only [State.tokenDo, h]
  split
  · exact s.enterDebug_fuses 1
  · rw [apply_ite State.fuses, s.enterDebug_fuses 2, ite_self]

theorem State.tokenDo_fuses_seed (s : State) {a : Nat} (h : bytesAt a 4 1 = 3) :
    (s.tokenDo a).fuses = { s.fuses with life := s.fuses.life ||| 8, ownerSeed := (s.tokenSeed a).getD 0 } := by simp only [State.tokenDo, h]

theorem State.tokenDo_fuses_disable (s : State) {a : Nat} (h : bytesAt a 4 1 = 4) :
    (s.tokenDo a).fuses = { s.fuses with life := s.fuses.life ||| bytesAt a 5 1 } := by simp only [State.tokenDo, h]

theorem State.rd_debug_tokenDo_revoke (s : State) {a : Nat} (h : bytesAt a 4 1 = 1) :
    (s.tokenDo a).rd F.TRU_STAT_DEBUG = s.rd F.TRU_STAT_DEBUG := by
  simp only [State.tokenDo, h]
  rfl

theorem State.rd_debug_tokenDo_debug (s : State) {a : Nat} (h : bytesAt a 4 1 = 2) : (s.tokenDo a).rd F.TRU_STAT_DEBUG =
    if bytesAt a 5 1 = 1 then max 1 (s.rd F.TRU_STAT_DEBUG) else if s.tru.level2 = true then max 2 (s.rd F.TRU_STAT_DEBUG)
    else s.rd F.TRU_STAT_DEBUG := by
  simp only [State.tokenDo, h, apply_ite (fun t : State => t.rd F.TRU_STAT_DEBUG), s.rd_enterDebug 1 (by decide), s.rd_enterDebug 2 (by decide)]

/-! ### The nonce -/

/-- A current nonce is returned as it is. -/
theorem exec_truNonceRead_current {s : State} {n : Nat} (h : s.tru.nonce = some n) :
    exec .truNonceRead s = .next (s.send (.value (n % 2 ^ 32))) := by
  have hdraw : s.nonceDraw = s := by simp [State.nonceDraw, h]
  simp only [exec, execTruNonceRead, hdraw, h, Option.getD_some]

theorem State.nonceDraw_of_none {s : State} (hruns : s.truRuns = true) (h : s.tru.nonce = none) :
    s.nonceDraw = (s.draw .nonce (2 ^ 256)).2.updTru fun t => { t with nonce := some (s.draw .nonce (2 ^ 256)).1 } := by
  simp [State.nonceDraw, hruns, h]

end Sys2Proof.Machine

namespace Sys2Proof
open Machine

/-- Settles O43: each command of TRU by the lemma about it. -/
theorem tokens : Obligations.Tokens := by
  refine ⟨fun s b hruns himg hstep hbank hphase howner hon => ?_, fun s hruns hbad => ?_, fun s area r hruns hr => ?_,
    fun s area r hruns hr => ?_, fun s area r hruns hr => ?_, fun s area r hruns hr => ?_, fun s n hn => ?_, fun s hn hruns => ?_⟩
  · have hon' : ((s.withFuses (s.fuses.raisedTo b)).benchAt 1).state ≠ .off := by rwa [State.benchAt_withFuses]
    refine .of_exec (exec_truSvnCommit_accepted hruns himg hstep hbank hphase howner)
      ⟨State.raise_fuses .., State.hasBit_raise _ _ _ _ _ _ (by decide) hon', ?_⟩
    rw [State.isSet, State.rd_raise_beyond _ _ _ _ _ _ _ (by decide)]
    exact s.isSet_withFuses _ _
  · exact .of_exec (t := s.wr F.TRU_STAT_CMD_REFUSED 1) (congrArg Host.Outcome.next (State.svnCommit_of_refused hruns hbad))
      ⟨rfl, State.wr_fuses ..⟩
  · subst hr
    have hkind := bytesAt_spliceAt_four area 1 (by decide)
    refine .of_exec (t := s.tokenOf 1 area) rfl ⟨State.rd_result_tokenOf hruns, ?_, State.tokenOf_nonce hruns (by decide) (by decide), ?_⟩
    · rw [State.tokenOf_fuses hruns, State.tokenDo_fuses_revoke _ hkind, State.fuses_withToken]
    · rw [State.rd_debug_tokenOf hruns, State.rd_debug_tokenDo_revoke _ hkind, State.rd_withToken, ite_self]
  · subst hr
    have hkind := bytesAt_spliceAt_four area 2 (by decide)
    refine .of_exec (t := s.tokenOf 2 area) rfl ⟨State.rd_result_tokenOf hruns, ?_, ?_, State.tokenOf_level2 hruns⟩
    · rw [State.tokenOf_fuses hruns, State.tokenDo_fuses_debug _ hkind, State.fuses_withToken, ite_self]
    · rw [State.rd_debug_tokenOf hruns, State.rd_debug_tokenDo_debug _ hkind, State.rd_withToken, State.level2_withToken]
      by_cases hr : s.tokenResult (spliceAt area 4 1 2) = 0
      · simp only [hr, if_true, true_and]
      · simp only [hr, if_false, false_and]
  · subst hr
    have hkind := bytesAt_spliceAt_four area 3 (by decide)
    have hfuses := State.tokenOf_fuses (kind := 3) (area := area) hruns
    rw [State.tokenDo_fuses_seed _ hkind, State.fuses_withToken] at hfuses
    refine .of_exec (t := s.tokenOf 3 area) rfl ⟨State.rd_result_tokenOf hruns, ?_, ?_, ?_, State.tokenOf_nonce hruns (by decide) (by decide)⟩
    · rw [hfuses, apply_ite Fuses.life]
    · rw [hfuses, apply_ite Fuses.fwSvn, ite_self]
    · rw [hfuses, apply_ite Fuses.frevoke, ite_self]
  · subst hr
    have hkind := bytesAt_spliceAt_four area 4 (by decide)
    refine .of_exec (t := s.tokenOf 4 area) rfl ⟨State.rd_result_tokenOf hruns, ?_, State.tokenOf_nonce hruns (by decide) (by decide)⟩
    rw [State.tokenOf_fuses hruns, State.tokenDo_fuses_disable _ hkind, State.fuses_withToken]
  · exact .of_exec (exec_truNonceRead_current hn) rfl
  · refine .of_exec (t := s.nonceDraw.send (.value (s.nonceDraw.tru.nonce.getD 0 % 2 ^ 32))) rfl ?_
    rw [State.nonceDraw_of_none hruns hn]
    exact ⟨rfl, rfl, rfl, rfl⟩

end Sys2Proof
end

section
/-!
Holds in reset: what a reset leaves of TRU, the tamper fields through it, then O44.
-/

-- One declaration at a time, as with the lemmas about a serving unit.
set_option Elab.async false

namespace Sys2Proof.Machine

/-! ### A hold in reset -/

/-- A piece of the state that the registers are not part of is after a reset what the reset itself sets. -/
theorem State.afterReset_piece {α : Type} (f : State → α) (s : State) (kind : Nat) {x : α} (hf : ∀ t k w, f (State.setWord t k w) = f t)
    (hx : ∀ t : State, t.fuses = s.fuses → t.conns = [] → t.tru = { Tru.cold with
      trip := s.tru.trip && (kind = 1 || kind = 2), wraps := s.tru.wraps, jtag := s.tru.jtag && kind != 3,
      blocked := s.tru.blocked && kind = 2 } → f t = x) : f (s.afterReset kind) = x := by
  unfold State.afterReset
  extract_lets +onlyGivenNames recs cold log group tally tru t1 t2 t3
  have h1 : f t1 = x := hx t1 rfl rfl rfl
  have h2 : f t2 = x := (hf _ _ _).trans ((hf _ _ _).trans h1)
  have h3 : f t3 = x := map_ite h2 ((hf _ _ _).trans ((hf _ _ _).trans h2))
  exact map_ite ((hf _ _ _).trans ((hf _ _ _).trans ((hf _ _ _).trans h3))) h3

theorem State.afterReset_fuses (s : State) (kind : Nat) : (s.afterReset kind).fuses = s.fuses :=
  s.afterReset_piece State.fuses kind (fun _ _ _ => rfl) fun _ hfuses _ _ => hfuses

theorem State.afterReset_conns (s : State) (kind : Nat) : (s.afterReset kind).conns = [] :=
  s.afterReset_piece State.conns kind (fun _ _ _ => rfl) fun _ _ hconns _ => hconns

/-- What TRU holds after a reset. -/
theorem State.afterReset_tru (s : State) (kind : Nat) : (s.afterReset kind).tru =
    { Tru.cold with
      trip := s.tru.trip && (kind = 1 || kind = 2), wraps := s.tru.wraps, jtag := s.tru.jtag && kind != 3,
      blocked := s.tru.blocked && kind = 2 } :=
  s.afterReset_piece State.tru kind (fun _ _ _ => rfl) fun _ _ _ htru => htru

/-- The tamper fields stand through a reset by RESET_N or FENCE_IN_N (R603). -/
theorem State.rd_afterReset_tamper (s : State) {f : Fld} (hf : f = F.TRU_STAT_TAMPER_CAUSE ∨ f = F.TRU_STAT_TAMPER_CNT) :
    (s.afterReset 2).rd f = s.rd f := by
  unfold State.afterReset
  extract_lets +onlyGivenNames recs cold log group tally tru t1 t2 t3
  have h3 : t3.rd f = s.rd f := by
    refine (congrArg (State.rd · f) (if_neg (by decide))).trans ?_
    rcases hf with rfl | rfl
    · rw [State.rd_wr_spared _ _ _ _ (by decide), State.rd_wr_same _ _ _ (by decide) (by decide)]
      exact Nat.mod_eq_of_lt (s.rd_lt F.TRU_STAT_TAMPER_CAUSE)
    · rw [State.rd_wr_same _ _ _ (by decide) (by decide)]
      exact Nat.mod_eq_of_lt (s.rd_lt F.TRU_STAT_TAMPER_CNT)
  refine (congrArg (State.rd · f) (if_pos (by decide))).trans ?_
  rw [State.rd_wr_other _ _ _ _ (by rcases hf with rfl | rfl <;> decide), State.wr64, State.rd_wr_other _ _ _ _ (by rcases hf with rfl | rfl <;> decide),
    State.rd_wr_other _ _ _ _ (by rcases hf with rfl | rfl <;> decide), h3]

section
variable {s t : State} {kind held : Nat}

/-- What a unit of which the reset left t is, once it is held. -/
structure State.HeldFrom (s t : State) (held : Nat) : Prop where
  held_eq : s.boot.held = some held
  fuses_eq : s.fuses = t.fuses
  conns_eq : s.conns = t.conns
  tru_eq : s.tru = { t.tru with trip := t.tru.trip || held = 5 }

/-- A hold other than a tamper hold, of a unit that nothing holds. -/
theorem State.holdReset_of_free (hheld : s.boot.held = none) (hkind : kind ≤ 3) : (s.holdReset kind).HeldFrom (s.afterReset kind) kind := by
  have h5 : kind ≠ 5 := by omega
  have h4 : kind ≠ 4 := by omega
  simp only [State.holdReset, hheld, if_pos hkind, if_neg h5, if_neg h4]
  generalize s.afterReset kind = t
  exact ⟨rfl, rfl, rfl, by simp only [h5, decide_false, Bool.or_false]⟩

/-- The state under a hold by code h. -/
def State.underHold (s : State) (h : Nat) : State := { s with boot := { s.boot with held := some h } }

theorem State.underHold_fuses (s : State) (h : Nat) : (s.underHold h).fuses = s.fuses := rfl

theorem State.underHold_conns (s : State) (h : Nat) : (s.underHold h).conns = s.conns := rfl

theorem State.underHold_tru (s : State) (h : Nat) : (s.underHold h).tru = s.tru := rfl

theorem State.rd_underHold (s : State) (h : Nat) (f : Fld) : (s.underHold h).rd f = s.rd f := rfl

theorem State.holdReset_tamper_eq (hheld : s.boot.held = none) : s.holdReset 4 = ((s.afterReset 2).wr F.TRU_STAT_STOP 4).underHold 4 := by
  simp only [State.holdReset, hheld, if_neg (by decide : ¬4 ≤ 3), if_neg (by decide : ¬4 = 5), if_pos]
  rfl

/-- A tamper hold of a unit that nothing holds. -/
theorem State.holdReset_tamper (hheld : s.boot.held = none) : (s.holdReset 4).HeldFrom (s.afterReset 2) 4 := by
  rw [State.holdReset_tamper_eq hheld]
  exact ⟨rfl, by rw [State.underHold_fuses, State.wr_fuses], by rw [State.underHold_conns, State.wr_conns],
    by rw [State.underHold_tru, State.wr_tru]; simp⟩

theorem State.rd_holdReset_tamper (hheld : s.boot.held = none) (f : Fld) :
    (s.holdReset 4).rd f = ((s.afterReset 2).wr F.TRU_STAT_STOP 4).rd f := by
  rw [State.holdReset_tamper_eq hheld, State.rd_underHold]

/-- A thermal hold, whatever held the unit before. -/
theorem State.holdReset_thermal : (s.holdReset 5).HeldFrom (s.afterReset 2) 5 := by
  unfold State.holdReset
  rw [show (if 5 ≤ 3 then 5 else 2) = 2 from rfl]
  generalize s.afterReset 2 = t
  extract_lets +onlyGivenNames h t1 tru t2 t3
  have hh : h = 5 := by unfold h; split <;> rfl
  have h3 : t3 = { t with tru := { t.tru with trip := true } } := by simp only [t3, t2, t1, tru, hh]; rfl
  rw [h3, hh]
  exact ⟨rfl, rfl, rfl, by simp⟩

end

/-! ### Tamper, TRNG and thermal holds -/

theorem State.goodbyeNow_of_declared {s : State} (h : s.faultDeclared = true) : s.goodbyeNow = s.send .goodbye := if_pos h

/-- The tamper fields set by a trip, before the hold. -/
def State.tamperNoted (s : State) (cause : Nat) : State :=
  let t := (s.send .goodbye).zeroiseKeys.raise 1 4 FATAL 1 cause
  (t.wr F.TRU_STAT_TAMPER_CAUSE cause).wr F.TRU_STAT_TAMPER_CNT (min 3 (t.rd F.TRU_STAT_TAMPER_CNT + 1))

theorem exec_tamperTrip_declared {s : State} {cause : Nat} (h1 : 1 ≤ cause) (h5 : cause ≤ 5) (hdecl : s.faultDeclared = true) :
    exec (.tamperTrip cause) s = .next ((s.tamperNoted cause).flushTruEvents.holdReset 4) := by
  have hcause : (decide (cause < 1) || decide (5 < cause)) = false := by simp; omega
  simp only [exec, execTamperTrip, hcause, s.goodbyeNow_of_declared hdecl, State.tamperNoted]
  rfl

theorem State.flushTruEvents_boot (s : State) : s.flushTruEvents.boot = s.boot := (State.Keeps.flushTruEvents (.refl _ s) (.refl _)).boot_eq

theorem State.flushTruEvents_fuses (s : State) : s.flushTruEvents.fuses = s.fuses := (State.Keeps.flushTruEvents (.refl _ s) (.refl _)).fuses_eq

theorem State.benchAt_wr (s : State) (f : Fld) (v b : Nat) : (s.wr f v).benchAt b = s.benchAt b := rfl

theorem State.rd_updBoot (s : State) (f : Boot → Boot) (g : Fld) : (s.updBoot f).rd g = s.rd g := rfl

theorem State.rd_updEv (s : State) (f : EvLog → EvLog) (g : Fld) : (s.updEv f).rd g = s.rd g := rfl

section
variable {g : Fld} (hg : g.key = 0x101000)
include hg

/-! Entering records in the logs leaves TRU_STAT alone. -/

theorem State.rd_raise_truStat (s : State) (b loc sev code data : Nat) : (s.raise b loc sev code data).rd g = s.rd g :=
  s.rd_raise_beyond _ _ _ _ _ _ (by rw [hg]; decide)

theorem State.rd_notifySubs_truStat (s : State) (r : EvRec) : (s.notifySubs r).rd g = s.rd g := by
  unfold State.notifySubs
  refine map_ite (f := fun t : State => t.rd g) rfl (foldl_keeps (f := fun t : State => t.rd g) (fun t u => ?_) s.subs s)
  refine map_ite (f := fun t : State => t.rd g) rfl ?_
  simp only
  exact map_ite (f := fun t : State => t.rd g) (State.rd_raise_truStat hg ..) rfl

theorem State.rd_enterRecord_truStat (s : State) (r : EvRec) : (s.enterRecord r).rd g = s.rd g := by
  rw [State.enterRecord, State.rd_notifySubs_truStat hg, State.rd_updEv, State.wr64, State.rd_wr_other _ _ _ _ (by rw [hg]; decide),
    State.rd_wr_other _ _ _ _ (by rw [hg]; decide)]

theorem State.rd_logMarker_truStat (s : State) : s.logMarker.rd g = s.rd g := by
  unfold State.logMarker
  refine map_ite (f := fun t : State => t.rd g) rfl ?_
  have hset : (s.setBit (F.BENCH_EV_STAT 0) 4 true).rd g = s.rd g := s.rd_setBit_other _ g _ _ (by rw [hg]; decide)
  exact map_ite (f := fun t : State => t.rd g) ((State.rd_enterRecord_truStat hg ..).trans hset) hset

theorem State.rd_countDrop_truStat (s : State) : s.countDrop.rd g = s.rd g := s.rd_bumpBy_other _ g _ (by rw [hg]; decide)

theorem State.rd_logRecord_truStat (s : State) (r : EvRec) : (s.logRecord r).rd g = s.rd g := by
  have hdrop := State.rd_countDrop_truStat hg
  unfold State.logRecord
  split_ifs
  · exact (State.rd_enterRecord_truStat hg ..).trans (State.rd_logMarker_truStat hg s)
  · exact hdrop s
  · exact (State.rd_notifySubs_truStat hg ..).trans (hdrop _)
  · exact hdrop s

theorem State.rd_flushTruEvents_truStat (s : State) : s.flushTruEvents.rd g = s.rd g :=
  foldl_keeps (f := fun t : State => t.rd g) (fun t r => State.rd_logRecord_truStat hg t r) _ _

end

theorem State.rd_tamperNoted_cause (s : State) {cause : Nat} (h : cause < 16) : (s.tamperNoted cause).rd F.TRU_STAT_TAMPER_CAUSE = cause := by
  rw [State.tamperNoted, State.rd_wr_spared _ _ _ _ (by decide), State.rd_wr_same _ _ _ (by decide) (by decide)]
  exact Nat.mod_eq_of_lt h

theorem State.rd_tamperNoted_cnt (s : State) (cause : Nat) :
    (s.tamperNoted cause).rd F.TRU_STAT_TAMPER_CNT = min 3 (s.rd F.TRU_STAT_TAMPER_CNT + 1) := by
  rw [State.tamperNoted, State.rd_wr_same _ _ _ (by decide) (by decide), State.rd_raise_truStat (by rfl)]
  exact Nat.mod_eq_of_lt (by change min 3 _ < 4; omega)

theorem State.tamperNoted_boot (s : State) (cause : Nat) : (s.tamperNoted cause).boot = s.boot := by
  rw [State.tamperNoted, State.wr_boot, State.wr_boot, State.raise_boot]
  rfl

theorem State.tamperNoted_fuses (s : State) (cause : Nat) : (s.tamperNoted cause).fuses = s.fuses := by
  rw [State.tamperNoted, State.wr_fuses, State.wr_fuses, State.raise_fuses]
  rfl

theorem exec_thermtrip_declared {s : State} (h : s.faultDeclared = true) :
    exec .thermtrip s = .next (((s.updTru fun t => { t with trip := true }).send .goodbye).holdReset 5) := by
  have hbye : (s.updTru fun t => { t with trip := true }).goodbyeNow = (s.updTru fun t => { t with trip := true }).send .goodbye :=
    State.goodbyeNow_of_declared h
  rw [← hbye]
  rfl

/-- The state that an EXTEST or INTEST leaves (R600). -/
def State.jtagHeld (s : State) : State := (s.updTru fun t => { t with jtag := true }).holdReset 1

theorem exec_jtag_holding {s : State} {i : JtagIns} (h : i = .extest ∨ i = .intest) : exec (.jtagInstructionLoad i) s = .next s.jtagHeld :=
  congrArg Host.Outcome.next (if_pos (by simpa using h))

theorem held_of_jtag {s : State} (hheld : s.boot.held = none) :
    s.jtagHeld.boot.held = some 1 ∧ s.jtagHeld.tru.jtag = true ∧ s.jtagHeld.conns = [] ∧ s.jtagHeld.fuses = s.fuses := by
  unfold State.jtagHeld
  have hfree : (s.updTru fun t => { t with jtag := true }).boot.held = none := hheld
  have hfuses : (s.updTru fun t => { t with jtag := true }).fuses = s.fuses := rfl
  have hjtag : (s.updTru fun t => { t with jtag := true }).tru.jtag = true := rfl
  generalize (s.updTru fun t => { t with jtag := true }) = t at *
  obtain ⟨hb, hf, hc, htru⟩ := State.holdReset_of_free hfree (by decide : 1 ≤ 3)
  refine ⟨hb, ?_, hc.trans (t.afterReset_conns 1), hf.trans ((t.afterReset_fuses 1).trans hfuses)⟩
  rw [htru, t.afterReset_tru, hjtag]
  rfl

/-- A FATAL occurrence of a bench that is not OFF declares a controller fault (R47). -/
theorem State.raise_fatal_declared (s : State) (b loc code data : Nat) (hon : (s.benchAt b).state ≠ .off) :
    (s.raise b loc FATAL code data).faultDeclared = true := by
  have hdecl : (s.noteEvent b loc FATAL).faultDeclared = true := by rw [s.noteEvent_faultDeclared]; exact Bool.or_true _
  rcases s.raise_cases b loc FATAL code data hon with ⟨-, h⟩ | ⟨-, bn, lost, -, -, h⟩
  · rw [h, hdecl]
  · rw [h, State.bumpBy, State.wr_faultDeclared, State.updBench_faultDeclared, hdecl]

end Sys2Proof.Machine

namespace Sys2Proof
open Machine

/-- Settles O44: each hold by what a reset leaves. -/
theorem tamperAndHolds : Obligations.TamperAndHolds := by
  refine ⟨fun s cause h1 h5 hheld hdecl => ?_, fun s hheld h1 h3 hon => ?_, fun s hheld h1 h3 => ?_, fun s hdecl => ?_, fun s hheld => ?_,
    fun s hheld => ?_, fun s ins hext hint => ?_⟩
  · refine .of_exec (exec_tamperTrip_declared h1 h5 hdecl) ?_
    have hfree : (s.tamperNoted cause).flushTruEvents.boot.held = none := by rw [State.flushTruEvents_boot, State.tamperNoted_boot, hheld]
    have hcause := State.rd_flushTruEvents_truStat (g := F.TRU_STAT_TAMPER_CAUSE) rfl (s.tamperNoted cause)
    have hcnt := State.rd_flushTruEvents_truStat (g := F.TRU_STAT_TAMPER_CNT) rfl (s.tamperNoted cause)
    have hfuses := (State.flushTruEvents_fuses _).trans (s.tamperNoted_fuses cause)
    rw [s.rd_tamperNoted_cause (by omega)] at hcause
    rw [s.rd_tamperNoted_cnt] at hcnt
    generalize (s.tamperNoted cause).flushTruEvents = t at *
    obtain ⟨hb, hf, -, htru⟩ := State.holdReset_tamper hfree
    rw [t.afterReset_tru] at htru
    refine ⟨hb, by rw [htru]; rfl, by rw [htru]; rfl, by rw [htru]; rfl, by rw [htru]; rfl, ?_, ?_, ?_, ?_⟩
    · rw [State.rd_holdReset_tamper hfree, State.rd_wr_spared _ _ _ _ (by decide), t.rd_afterReset_tamper (.inl rfl), hcause]
    · rw [State.rd_holdReset_tamper hfree, State.rd_wr_spared _ _ _ _ (by decide), t.rd_afterReset_tamper (.inr rfl), hcnt]
    · rw [State.rd_holdReset_tamper hfree, State.rd_wr_same _ _ _ (by decide) (by decide)]
      rfl
    · rw [hf, t.afterReset_fuses, hfuses]
  · have hon' : ((s.wr F.TRU_STAT_STOP 3).benchAt 1).state ≠ .off := by rwa [State.benchAt_wr]
    refine .of_exec (t := (s.wr F.TRU_STAT_STOP 3).raise 1 5 FATAL 2 0) ?_ ⟨?_, State.hasBit_raise _ _ _ _ _ _ (by decide) hon', ?_,
      State.raise_fatal_declared _ _ _ _ _ hon'⟩
    · simp [exec, execTrngHealthFail, hheld, h1, h3]
    · rw [State.rd_raise_truStat rfl, State.rd_wr_same _ _ _ (by decide) (by decide)]
      rfl
    · rw [State.raise_boot, State.wr_boot]
  · refine .of_exec (t := s.stopStart 3) ?_ ⟨?_, rfl, by rw [State.stopStart, State.updBoot, State.wr_faultDeclared]⟩
    rotate_left
    · rw [State.stopStart, State.rd_updBoot, State.rd_wr_same _ _ _ (by decide) (by decide)]
      rfl
    simp [exec, execTrngHealthFail, hheld, h1, h3]
  · refine .of_exec (exec_thermtrip_declared hdecl) ?_
    have hfuses : ((s.updTru fun t => { t with trip := true }).send .goodbye).fuses = s.fuses := rfl
    generalize (s.updTru fun t => { t with trip := true }).send .goodbye = t at *
    obtain ⟨hb, hf, hc, htru⟩ := t.holdReset_thermal
    exact ⟨hb, by rw [htru]; exact Bool.or_true _, hc.trans (t.afterReset_conns 2), hf.trans ((t.afterReset_fuses 2).trans hfuses)⟩
  · exact .of_exec (exec_jtag_holding (.inl rfl)) (held_of_jtag hheld)
  · obtain ⟨hb, hjtag, -⟩ := held_of_jtag hheld
    exact .of_exec (exec_jtag_holding (.inr rfl)) ⟨hb, hjtag⟩
  · exact .of_exec (congrArg Host.Outcome.next (if_neg (by simpa using ⟨hext, hint⟩))) rfl

end Sys2Proof
end

section
/-!
The pairing exchange and SPDM: entering HELD, the exchange completed, the answers on a path, then O45.
-/

-- One declaration at a time, as with the lemmas about a serving unit.
set_option Elab.async false

namespace Sys2Proof.Machine

/-! ### Entering a role of the pair -/

/-- An occurrence of another bench leaves a bench's window alone. -/
theorem State.rd_raise_elsewhere (s : State) (b loc sev code data : Nat) (g : Fld) (hg : g.key / 0x100000 ≠ b) :
    (s.raise b loc sev code data).rd g = s.rd g := by
  by_cases hoff : (s.benchAt b).state = .off
  · rw [s.raise_of_off b loc sev code data hoff]
  · rw [s.rd_raise_eq_noteEvent b loc sev code data hoff _ (by rw [F.key_BENCH_EV_OVF]; omega)]
    exact s.rd_noteEvent_other b loc sev g (by rw [F.key_BENCH_EV_STAT]; omega) (by rw [F.key_BENCH_ERR_DET]; omega)
      (by rw [F.key_BENCH_ERR_UNREC]; omega)

section
variable (s : State) {g : Fld} (hswc : g.key / 0x100000 ≠ 16)
include hswc

theorem State.rd_syncFwd : s.syncFwd.rd g = s.rd g := by
  have hwr : ((s.wrB F.SWC_STAT_HAUL_UP s.haulUp).wrB F.SWC_STAT_FORWARDING s.forwards).rd g = s.rd g :=
    (State.rd_wr_other _ _ _ _ fun h => hswc (by rw [h]; decide)).trans (State.rd_wr_other _ _ _ _ fun h => hswc (by rw [h]; decide))
  exact map_ite (f := fun t : State => t.rd g) hwr ((State.rd_raise_elsewhere _ _ _ _ _ _ _ hswc).trans hwr)

theorem State.rd_setRole_other (r : Nat) (hpair : sparedBy g F.HAL_PAIR_STAT_ROLE = true) (hept : g.key ≠ F.EPT_STAT_RELAY.key) :
    (s.setRole r).rd g = s.rd g := by
  have hrelay : (((s.wr F.HAL_PAIR_STAT_ROLE r).syncFwd).syncRelay).rd g = s.rd g := by
    rw [State.syncRelay, State.wrB, State.rd_wr_other _ _ _ _ hept, State.rd_syncFwd _ hswc, State.rd_wr_spared _ _ _ _ hpair]
  refine map_ite (f := fun t : State => t.rd g) hrelay ?_
  exact (foldl_keeps (f := fun t : State => t.rd g) (fun t n => (State.Keeps.syncLed (.refl _ t) (.refl _)).rd_eq g) _ _).trans hrelay

end

theorem State.role_setRole (s : State) {r : Nat} (hr : r < 8) : (s.setRole r).role = r := by
  have hrelay : (((s.wr F.HAL_PAIR_STAT_ROLE r).syncFwd).syncRelay).role = r := by
    rw [State.role, State.syncRelay, State.wrB, State.rd_wr_other _ _ _ _ (by decide), State.rd_syncFwd _ (by decide),
      State.rd_wr_same _ _ _ (by decide) (by decide)]
    exact Nat.mod_eq_of_lt hr
  refine map_ite (f := State.role) hrelay ?_
  exact (foldl_keeps (f := State.role) (fun t n => (State.Keeps.syncLed (.refl _ t) (.refl _)).rd_eq _) _ _).trans hrelay

theorem State.setRole_pair (s : State) (r : Nat) : (s.setRole r).pair = s.pair := (State.Keeps.setRole (.refl _ s) (.refl _)).pair_eq

theorem State.enterHeld_pair (s : State) (reason : Nat) : (s.enterHeld reason).pair = s.pair :=
  (State.Keeps.enterHeld (.refl _ s) (.refl _)).pair_eq

theorem State.role_enterHeld (s : State) (reason : Nat) : (s.enterHeld reason).role = 5 := by
  rw [State.enterHeld, State.role, State.rd_raise_beyond _ _ _ _ _ _ _ (by decide), State.rd_wr_spared _ _ _ _ (by decide)]
  exact s.role_setRole (by decide)

theorem State.isSet_paired_enterHeld (s : State) (reason : Nat) : (s.enterHeld reason).isSet F.HAL_PAIR_STAT_PAIRED = false := by
  rw [State.enterHeld, State.isSet, State.rd_raise_beyond _ _ _ _ _ _ _ (by decide), State.rd_wr_same _ _ _ (by decide) (by decide)]
  rfl

/-- Entering HELD leaves alone the registers of the benches but SWC, EPT and HAL. -/
theorem State.rd_enterHeld_other (s : State) (reason : Nat) {g : Fld} (hswc : g.key / 0x100000 ≠ 16) (hhal : g.key / 0x100000 ≠ 7)
    (hept : g.key / 0x100000 ≠ 6) : (s.enterHeld reason).rd g = s.rd g := by
  have hpair : g.key ≠ F.HAL_PAIR_STAT_ROLE.key := fun h => hhal (by rw [h]; decide)
  rw [State.enterHeld, State.rd_raise_elsewhere _ _ _ _ _ _ _ hhal, State.rd_wr_other _ _ _ _ fun h => hhal (by rw [h]; decide)]
  refine s.rd_setRole_other hswc 5 (by simp [sparedBy, hpair]) fun h => hept (by rw [h]; decide)

/-! ### The pairing exchange -/

theorem State.haulSend_exchanged (s : State) (chan : Nat) : (s.haulSend chan).pair.exchanged = s.pair.exchanged := by
  unfold State.haulSend
  split <;> rfl

theorem State.haulSend_tru (s : State) (chan : Nat) : (s.haulSend chan).tru = s.tru := (State.Keeps.haulSend (.refl _ s) (.refl _)).tru_eq

theorem State.sendHello_exchanged (s : State) : s.sendHello.pair.exchanged = s.pair.exchanged := s.haulSend_exchanged 3

theorem State.sendHello_tru (s : State) : s.sendHello.tru = s.tru := (State.Keeps.sendHello (.refl _ s) (.refl _)).tru_eq

theorem State.sendPairing_of_noHaul {s : State} (h : s.haulHalf = none) : s.sendPairing = s := by
  simp [State.sendPairing, h]

/-- A checked message while no half of the haul is up: the exchange is complete, its nonce consumed, and KSR passed on. -/
theorem State.pairingDone_of_noHaul {s : State} (m : PairMsg) (hhaul : s.haulHalf = none) :
    (s.pairingDone m).pair.exchanged = true ∧ (s.pairingDone m).tru.pairNonce = none ∧
      (s.pairingDone m).tru.ksr = (s.tru.ksr || (m.ksr && !s.tru.blocked)) := by
  have hsend : s.sendPairing = s := State.sendPairing_of_noHaul hhaul
  unfold State.pairingDone
  rw [hsend]
  extract_lets +onlyGivenNames u own isB keys t again v w
  clear_value keys
  have htru : t.tru = s.tru :=
    foldl_keeps (f := State.tru) (fun u _ => (State.Keeps.setHaulKey (.refl _ u) (.refl _)).tru_eq) keys.zipIdx s
  clear_value t
  have hexch : v.pair.exchanged = true := rfl
  have hnonce : v.tru.pairNonce = none := rfl
  have hksr : v.tru.ksr = s.tru.ksr := by rw [← htru]; rfl
  have hblocked : v.tru.blocked = s.tru.blocked := by rw [← htru]; rfl
  clear_value v
  have hw : w.pair.exchanged = true ∧ w.tru.pairNonce = none ∧ w.tru.ksr = (s.tru.ksr || (m.ksr && !s.tru.blocked)) := by
    unfold w
    rw [← hksr, ← hblocked]
    by_cases hgone : (v.tru.ksr && !m.ksr) = true
    · rw [if_pos hgone]
      simp only [Bool.and_eq_true, Bool.not_eq_true'] at hgone
      refine ⟨(v.haulSend_exchanged 3).trans hexch, (congrArg Tru.pairNonce (v.haulSend_tru 3)).trans hnonce, ?_⟩
      rw [hgone.1]
      exact (congrArg Tru.ksr (v.haulSend_tru 3)).trans hgone.1
    rw [if_neg hgone]
    by_cases hgain : (!v.tru.ksr && m.ksr && !v.tru.blocked) = true
    · rw [if_pos hgain]
      simp only [Bool.and_eq_true, Bool.not_eq_true'] at hgain
      exact ⟨hexch, hnonce, by simp [hgain, State.updTru]⟩
    · rw [if_neg hgain]
      refine ⟨hexch, hnonce, ?_⟩
      cases hold : v.tru.ksr with
      | true => rfl
      | false => simpa [hold] using hgain
  split
  · exact hw
  · rw [w.sendHello_exchanged, w.sendHello_tru]
    exact hw

/-! ### SPDM -/

/-- A request that TRU answers is answered. -/
theorem State.spdmAsk_of_takes {s : State} {path least : Nat} (h : spdmTakes s path least = true) (f : State → State) :
    s.spdmAsk path least f = f s := by
  simp only [spdmTakes, Bool.and_eq_true, bne_iff_ne, beq_iff_eq, decide_eq_true_eq] at h
  obtain ⟨⟨⟨⟨hup, heid⟩, hspdm⟩, hstep⟩, hleast⟩ := h
  simp [State.spdmAsk, hup, heid, hspdm, hstep, hleast]

/-- Before step 8 of TRU the answer to a request on a path that permits SPDM is that TRU is not ready. -/
theorem State.spdmAsk_not_ready {s : State} {path : Nat} (hup : s.pathUp path = true) (heid : s.eid path ≠ 0)
    (hspdm : s.isSet (F.CTL_MGT_PATH_SPDM path) = true) (hstep : s.rd F.TRU_STAT_STEP ≠ 8) (least : Nat) (f : State → State) :
    s.spdmAsk path least f = s.spdmError path 0x42 := by
  simp [State.spdmAsk, hup, heid, hspdm, hstep]

@[simp] theorem State.spdmAt_spdmTo (s : State) (path n : Nat) : (s.spdmTo path n).spdmAt path = n := by
  simp [State.spdmAt, State.spdmTo, State.updTru]

theorem State.certChain_isSome_iff (s : State) : s.certChain.isSome = s.isSet F.TRU_STAT_DIK_OK := by
  unfold State.certChain
  split <;> simp [*]

theorem State.certChain_of_ok {s : State} (h : s.isSet F.TRU_STAT_DIK_OK = true) : ∃ n c, s.certChain = some (n, c) := by
  obtain ⟨⟨n, c⟩, hc⟩ := Option.isSome_iff_exists.1 ((s.certChain_isSome_iff).trans h)
  exact ⟨n, c, hc⟩

theorem State.certChain_of_not_ok {s : State} (h : s.isSet F.TRU_STAT_DIK_OK = false) : s.certChain = none :=
  Option.not_isSome_iff_eq_none.1 (by rw [s.certChain_isSome_iff, h]; decide)

/-- Measurement 6 holds the versions of the booted bank and the fused ones (R594). -/
theorem State.measurement_versions {s : State} {b : BankImg} (h : s.boot.img = some b) :
    s.measurement 6 = some (b.fwSvn + 65536 * b.ownSvn + 2 ^ 32 * s.fuses.fwSvn + 2 ^ 48 * s.fuses.ownSvn) := by
  rw [State.measurement.eq_6, h]
  rfl

/-- What is queued now ends as long after the one in the queue as that one takes from now. -/
theorem max_listMax_single (n d : Nat) : max n (listMax [n + d]) + d = n + (d + d) := by
  have hlast : listMax [n + d] = n + d := Nat.zero_max _
  rw [hlast, Nat.max_eq_right (Nat.le_add_right _ _), Nat.add_assoc]

theorem msU_ninety : msU 90 = msU 45 + msU 45 := rfl

/-- A signature with room in the queue is queued 45 ms after the last (R584, R593). -/
theorem State.spdmSign_of_room {s : State} {q q' : List Nat} (hq : s.tru.sigs.filter (fun t => s.now < t) = q) (hroom : q.length < 4)
    (hq' : q ++ [max s.now (listMax q) + msU 45] = q') (path code : Nat) (data : List Nat) : s.spdmSign path code data =
      (s.updTru fun x => { x with sigs := q' }).spdmSay path code (data ++ [Config.keyed .signature (s.tru.ak.getD 0 :: data)]) := by
  simp [State.spdmSign, hq, Nat.not_le.2 hroom, ← hq']

end Sys2Proof.Machine

namespace Sys2Proof

open Machine

/-- Settles O45: the exchange by what a checked message leaves, SPDM by how a request that TRU takes is answered. -/
theorem attestation : Obligations.Attestation := by
  refine ⟨fun s m hstep hslot hon => ?_, fun s m hstep hslot hcerts howner hhaul => ?_, fun s m hstep => ?_, fun s path htakes => ?_,
    fun s path hup heid hspdm hstep => ?_, fun s path htakes => ?_, fun s path offered htakes hoff => ?_, fun s path htakes hok => ?_,
    fun s path htakes hok => ?_, fun s path slot ofs len htakes hok => ?_, fun s path slot ofs len htakes hok => ?_,
    fun s path slot nonce htakes hok hslot hsigs => ?_, fun s path nonce htakes => ?_, fun s path nonce b htakes himg => ?_,
    fun s path index nonce htakes hsome h0 h255 hsigs => ?_⟩
  · refine .of_exec (t := (s.raise 1 10 ERROR 7 m.slotB).enterHeld 0) (by simp [exec, execPairingMessage, hstep, hslot])
      ⟨State.role_enterHeld _ 0, State.isSet_paired_enterHeld _ 0, ?_, ?_⟩
    · rw [State.rd_enterHeld_other _ _ (by decide) (by decide) (by decide)]
      exact State.hasBit_raise _ _ _ _ _ _ (by decide) hon
    · rw [State.enterHeld_pair, State.raise_pair]
  · exact .of_exec (t := s.pairingDone m) (by simp [exec, execPairingMessage, hstep, hslot, hcerts, howner]) (State.pairingDone_of_noHaul m hhaul)
  · exact .of_exec (t := s) (by simp [exec, execPairingMessage, hstep]) rfl
  · refine .of_exec (congrArg Host.Outcome.next (State.spdmAsk_of_takes htakes _)) ⟨rfl, s.spdmAt_spdmTo path 1, rfl⟩
  · exact .of_exec (congrArg Host.Outcome.next (State.spdmAsk_not_ready hup heid hspdm hstep _ _)) rfl
  · exact .of_exec (congrArg Host.Outcome.next (State.spdmAsk_of_takes htakes _)) ⟨rfl, s.spdmAt_spdmTo path 2⟩
  · subst hoff
    exact .of_exec (congrArg Host.Outcome.next (State.spdmAsk_of_takes htakes _)) ⟨rfl, s.spdmAt_spdmTo path 3⟩
  · refine .of_exec (t := s.spdmSay path 0x01 [0]) (congrArg Host.Outcome.next ((State.spdmAsk_of_takes htakes _).trans ?_)) rfl
    rw [State.certChain_of_not_ok hok]
  · obtain ⟨n, c, hc⟩ := State.certChain_of_ok hok
    refine .of_exec (t := s.spdmSay path 0x01 [1, Config.keyed .digest [c]])
      (congrArg Host.Outcome.next ((State.spdmAsk_of_takes htakes _).trans (by rw [hc]))) ⟨rfl, rfl, ?_⟩
    rw [hc]
    exact beq_self_eq_true _
  · refine .of_exec (t := s.spdmError path 1) (congrArg Host.Outcome.next ((State.spdmAsk_of_takes htakes _).trans ?_)) rfl
    rw [State.certChain_of_not_ok hok]
  · obtain ⟨n, c, hc⟩ := State.certChain_of_ok hok
    by_cases hbad : slot ≠ 0 ∨ n ≤ ofs
    · refine .of_exec (t := s.spdmError path 1) (congrArg Host.Outcome.next ((State.spdmAsk_of_takes htakes _).trans ?_)) ⟨rfl, ?_⟩
      · simp only [hc]
        exact if_pos (by simpa using hbad)
      · rw [hc, Option.any_some, if_pos hbad]
        exact beq_self_eq_true _
    · refine .of_exec (t := s.spdmSay path 0x02 [min len (n - ofs), n - ofs - min len (n - ofs), bytesAt c ofs (min len (n - ofs))])
        (congrArg Host.Outcome.next ((State.spdmAsk_of_takes htakes _).trans ?_)) ⟨rfl, ?_⟩
      · simp only [hc]
        exact if_neg (by simpa using hbad)
      · rw [hc, Option.any_some, if_neg hbad]
        exact beq_self_eq_true _
  · obtain ⟨n, c, hc⟩ := State.certChain_of_ok hok
    subst hslot
    have hsign := State.spdmSign_of_room (s := s) (q := []) (q' := [s.now + msU 45]) (by rw [hsigs]; rfl) (by decide) (by simp [listMax]) path 0x03
    refine .of_exec (congrArg Host.Outcome.next ((State.spdmAsk_of_takes htakes _).trans (Eq.trans ?_ (hsign [Config.keyed .digest [c],
      Config.keyed .digest (s.measurements.map (·.2)), nonce])))) ⟨rfl, rfl, rfl⟩
    simp only [hc]
    rfl
  · exact .of_exec (congrArg Host.Outcome.next (State.spdmAsk_of_takes htakes _)) rfl
  · refine .of_exec (congrArg Host.Outcome.next ((State.spdmAsk_of_takes htakes _).trans (?_ : _ = s.spdmSay path 0x60 _))) rfl
    rw [State.measurement_versions himg]
    rfl
  · obtain ⟨v, hv⟩ := Option.isSome_iff_exists.1 hsome
    have hsign := State.spdmSign_of_room (s := s) (q := [s.now + msU 45]) (by rw [hsigs]; simp [msU]) (by simp)
      (q' := [s.now + msU 45, s.now + msU 90]) (by rw [max_listMax_single, msU_ninety]; rfl) path 0x60 [index, v, nonce]
    refine .of_exec (congrArg Host.Outcome.next ((State.spdmAsk_of_takes htakes _).trans (Eq.trans ?_ hsign))) ⟨rfl, rfl⟩
    simp only [if_neg h0, if_neg h255, hv, Option.map_some, if_true, List.cons_append, List.nil_append]

end Sys2Proof
end

section
/-!
Bounds and guards that the commands of the member drives, the switch core and the pair have beside those their statements name: O30, O34,
O40, O41 and O42.
-/

-- One declaration at a time, as with the lemmas about a serving unit.
set_option Elab.async false

namespace Sys2Proof.Machine

/-! ### A health poll whose queue is full -/

/-- A unit with a drive in slot 0 whose queue 0 holds 31 commands, as many as it has room for (Table DRP-3), at a time when its health log
is to be read. -/
def fullPollState : State :=
  { State.reset.wr (F.DRV_PSTAT_READY 51 0) 1 with
    tim := { State.reset.tim with count := 2 ^ 62 }
    mcmds := (List.range 31).map fun i => ⟨⟨0, 0, i⟩, .health, 0, false⟩ }

/-- The outcome is a next state with 31 member commands. -/
def keepsCommands (o : Host.Outcome State Fault Refusal) : Bool :=
  match o with
  | .next t => t.mcmds.length == 31
  | _ => false

/-! ### A red frame from the haul -/

/-- A frame of 64 cells that waits for MAC 0. -/
def longFrame : SwFrame :=
  { handle := 0, dst := 0, vid := 0, input := 32, output := 0, cls := 0, cells := 64, pool := .shared, len := 16384, colour := 0, ce := false,
    head := 0, time := 0, ptp := none }

/-- A unit whose haul and whose MAC 0 are up, where marker 0 makes every frame of class 0 of the haul port red and early drop takes every
red frame that finds 64 cells at its egress. -/
def redState : State :=
  { ((((colouringState.wr (F.SWC_POL_B_PBS 0) 0).wr (F.PRT_STAT_LINK 8) 1).wr (F.SWC_BPROF_A_MAX 0) 64).wr (F.SWC_RED_MAX 0 2) 1) with
    swq := [longFrame] }

/-- The outcome is a next state in which one frame waits. -/
def queuesOne (o : Host.Outcome State Fault Refusal) : Bool :=
  match o with
  | .next t => t.swq.length == 1
  | _ => false

/-! ### A half that trains while a changed SerDes section is loaded -/

/-- A unit that has still to retrain half 0 of its haul, which is enabled and out of service. -/
def retrainingState : State :=
  { State.reset.wr F.HAL_CFG_H0_EN 1 with
    bench := State.reset.bench.set 7 { Bench.cold with state := .active }
    boot := { State.reset.boot with ended := [4] }
    live := { Live.cold with halves := [0] }
    pair := { State.reset.pair with exchanged := true } }

/-- The outcome is a next state in which half 0 is out of service. -/
def leavesHalfDown (o : Host.Outcome State Fault Refusal) : Bool :=
  match o with
  | .next t => !t.halfUp 0
  | _ => false

/-! ### A drain that ends at an active with a connection -/

/-- An active with a standby and one connection, whose drain for a handover has ended. -/
def drainedState : State :=
  { (State.reset.wr F.HAL_PAIR_STAT_PAIRED 1).wr F.HAL_PAIR_STAT_ROLE 1 with
    conns := [Conn.fresh 0 1 .nrt .established 0]
    pair := { State.reset.pair with handover := some ⟨1, 0, false⟩ } }

/-- The outcome is a next state in which the handover goes on. -/
def staysInGap (o : Host.Outcome State Fault Refusal) : Bool :=
  match o with
  | .next t => t.pair.handover.isSome
  | _ => false

/-! ### An acknowledgment at a unit that had stalled -/

/-- A unit that had reached the limit of commands in flight before the overflow region was enlarged, with a connection that lacks its
minimum grant. -/
def belowLimitState : State :=
  ({ State.reset with stalled := true, conns := [Conn.fresh 0 1 .nrt .established 0] }).wr F.MEM_RGN_CFGB_OVF_GIB 1

/-- The outcome is a next state in which a first message is granted. -/
def grantsFirst (o : Host.Outcome State Fault Refusal) : Bool :=
  match o with
  | .next t => t.conns.any fun c => c.granted == 1
  | _ => false

end Sys2Proof.Machine

namespace Sys2Proof

open Machine

/-- Refutes O30: the admin queue of a member has room for 31 commands and not for 255, so that a poll waits (R405). -/
theorem not_memberCommands : ¬Obligations.MemberCommands := by
  rintro ⟨-, -, -, -, -, -, hpoll, -⟩
  obtain ⟨t, hexec, -, hmcmds⟩ := hpoll fullPollState 0 (by decide +kernel) (by decide +kernel) (by decide +kernel) (by decide +kernel)
  have hkept : keepsCommands (exec (.healthPoll 0) fullPollState) = true := by decide +kernel
  rw [hexec, keepsCommands, hmcmds] at hkept
  exact absurd hkept (by decide +kernel)

/-- Refutes O34: the frame is coloured first (R463), and a red one is dropped where the same frame in green is queued (R464). -/
theorem not_switchFrames : ¬Obligations.SwitchFrames := by
  rintro ⟨-, -, hforward⟩
  obtain ⟨t, hexec, -, hlength⟩ := hforward redState 0 0 (some 0) plainFrame 0 false rfl (by decide +kernel) (by decide +kernel) rfl (by decide +kernel)
  have hdropped : queuesOne (exec (.haulForwardFrame 0 0 (some 0) plainFrame) redState) = true := by decide +kernel
  rw [hexec, queuesOne, hlength] at hdropped
  exact absurd hdropped (by decide)

/-- Refutes O40: a half that trains is taken out of service again while it is the next to retrain with a changed SerDes section (R568). -/
theorem not_haulLink : ¬Obligations.HaulLink := by
  rintro ⟨hup, -⟩
  obtain ⟨t, hexec, hhalf, -⟩ := hup retrainingState 0 (by decide) (by decide +kernel) (by decide +kernel) (by decide +kernel) (by decide +kernel)
    rfl rfl (by decide +kernel)
  have hdown : leavesHalfDown (exec (.haulHalfUp 0) retrainingState) = true := by decide +kernel
  rw [hexec, leavesHalfDown, hhalf] at hdown
  exact absurd hdown (by decide)

/-- Refutes O41: at the end of the drain the contexts go to the partner once more, and the role is handed over only when they are
acknowledged (R557). -/
theorem not_pairRoles : ¬Obligations.PairRoles := by
  rintro ⟨-, -, -, -, -, -, -, -, -, -, -, -, -, -, -, -, -, hdrain, -⟩
  obtain ⟨t, hexec, hnone, -⟩ := hdrain drainedState ⟨1, 0, false⟩ rfl rfl rfl (by decide +kernel) rfl
  have hgap : staysInGap (exec .handoverDrainEnd drainedState) = true := by decide +kernel
  rw [hexec, staysInGap, hnone] at hgap
  exact absurd hgap (by decide)

/-- Refutes O42: an acknowledgment finds fewer commands in flight than the limit, so the connection gets its minimum grant (R92). -/
theorem not_mirror : ¬Obligations.Mirror := by
  rintro ⟨-, -, -, -, hmack, -⟩
  obtain ⟨t, hexec, -, -, hconns⟩ := hmack belowLimitState 0 rfl rfl rfl
  have hgrants : grantsFirst (exec (.mirrorMack 0) belowLimitState) = true := by decide +kernel
  rw [hexec, grantsFirst, hconns] at hgrants
  exact absurd hgrants (by decide)

end Sys2Proof
end

section
/-!
The cipher roles: what a request, its answer and a load leave in the queues, then O32.
-/

-- One declaration at a time, as with the lemmas about a serving unit.
set_option Elab.async false

namespace Sys2Proof.Machine

/-- What was sent between two states stays among what is new. -/
theorem contains_newOut_of_sent {s u t : State} {o : Out} (hu : u.After s) (ht : o :: u.out <:+ t.out) : (newOut s t).contains o = true := by
  rw [List.contains_eq_any_beq]
  exact any_newOut_of_sent hu ht (beq_self_eq_true o)

/-- Each of a list of outputs sent in turn stays among what is new. -/
theorem all_newOut_of_foldl_send {α : Type} {s t : State} (g : α → Out) (l : List α) {u : State} (hu : u.After s)
    (ht : (l.foldl (fun s p => s.send (g p)) u).out <:+ t.out) : (l.all fun p => (newOut s t).contains (g p)) = true := by
  induction l generalizing u with
  | nil => rfl
  | cons p l ih =>
    have hrest : (l.foldl (fun s p => s.send (g p)) (u.send (g p))).After (u.send (g p)) := .foldl (.refl _) fun _ _ ha => ha.send
    rw [List.all_cons, ih hu.send ht, Bool.and_true]
    exact contains_newOut_of_sent hu (hrest.2.trans ht)

/-! ### The roles' banks -/

theorem State.cip_updCip_same {s : State} {r : Nat} (h : r < s.cips.length) (f : CipRole → CipRole) : (s.updCip r f).cip r = f (s.cip r) := by
  simp only [State.cip, State.updCip, List.getD_eq_getElem?_getD, List.getElem?_modify, List.getElem?_eq_getElem h, if_true,
    Option.map_eq_map, Option.map_some, Option.getD_some]

theorem State.cip_updCip_other (s : State) {r q : Nat} (h : r ≠ q) (f : CipRole → CipRole) : (s.updCip r f).cip q = s.cip q := by
  simp only [State.cip, State.updCip, List.getD_eq_getElem?_getD, List.getElem?_modify, if_neg h, id_map']

theorem State.cip_send (s : State) (o : Out) (r : Nat) : (s.send o).cip r = s.cip r := rfl

/-- What a change leaves in every bank stays so after a change of one bank that leaves it. -/
theorem State.cip_updCip_of {α : Type} (s : State) (r q : Nat) {f : CipRole → CipRole} {g : CipRole → α} (h : ∀ x, g (f x) = g x) :
    g ((s.updCip r f).cip q) = g (s.cip q) := by
  by_cases hr : r = q
  · subst hr
    by_cases hlen : r < s.cips.length
    · rw [State.cip_updCip_same hlen, h]
    · have hold : s.cips.modify r f = s.cips := List.modify_eq_self (Nat.le_of_not_lt hlen)
      rw [State.cip, State.updCip, hold, State.cip]
  · rw [State.cip_updCip_other s hr]

/-- A role that has a request or a load is one of the banks. -/
theorem State.lt_cips_of_ne {s : State} {r : Nat} (h : s.cip r ≠ CipRole.cold) : r < s.cips.length := by
  by_contra hge
  exact h (List.getD_eq_default _ _ (Nat.le_of_not_lt hge))

/-- What the role of a request keeps beside its loads and its count of bytes. -/
def CipRole.kept (x : CipRole) : List KeyCache × List CipWait × List CipWait := (x.cache, x.queue, x.held)

/-- The state comes after another of the same time and keeps the requests and keys of every cipher role, and the key table. -/
structure State.SameRequests (t s : State) : Prop where
  after : t.After s
  length : t.cips.length = s.cips.length
  kept : ∀ r, (t.cip r).kept = (s.cip r).kept
  table : t.keyTab = s.keyTab

namespace State.SameRequests

variable {s s₀ : State}

theorem refl (s : State) : s.SameRequests s := ⟨.refl s, rfl, fun _ => rfl, rfl⟩

theorem queue (h : s.SameRequests s₀) (r : Nat) : (s.cip r).queue = (s₀.cip r).queue := congrArg (·.2.1) (h.kept r)

theorem held (h : s.SameRequests s₀) (r : Nat) : (s.cip r).held = (s₀.cip r).held := congrArg (·.2.2) (h.kept r)

theorem cache (h : s.SameRequests s₀) (r : Nat) : (s.cip r).cache = (s₀.cip r).cache := congrArg (·.1) (h.kept r)

theorem trans {t : State} (h : s.SameRequests s₀) (ht : t.SameRequests s) : t.SameRequests s₀ :=
  ⟨h.after.trans ht.after, ht.length.trans h.length, fun r => (ht.kept r).trans (h.kept r), ht.table.trans h.table⟩

theorem of_cips {t : State} (h : s.SameRequests s₀) (ht : t.After s) (hcips : t.cips = s.cips) (htab : t.keyTab = s.keyTab) :
    t.SameRequests s₀ :=
  h.trans ⟨ht, congrArg List.length hcips, fun r => by rw [State.cip, hcips, State.cip], htab⟩

theorem wr {f : Fld} {v : Nat} (h : s.SameRequests s₀) : (s.wr f v).SameRequests s₀ := h.of_cips (.wr (.refl s)) rfl rfl

theorem bump {f : Fld} (h : s.SameRequests s₀) : (s.bump f).SameRequests s₀ := h.wr

theorem send {o : Out} (h : s.SameRequests s₀) : (s.send o).SameRequests s₀ := h.of_cips (.send (.refl s)) rfl rfl

theorem raise {b loc sev code data : Nat} (h : s.SameRequests s₀) : (s.raise b loc sev code data).SameRequests s₀ :=
  h.of_cips (.raise (.refl s)) (s.raise_cips ..) (s.raise_keyTab ..)

theorem raiseOnce {period b loc sev code data : Nat} (h : s.SameRequests s₀) : (s.raiseOnce period b loc sev code data).SameRequests s₀ := by
  unfold State.raiseOnce
  extract_lets key quiet
  split
  · exact h
  · exact SameRequests.raise (h.of_cips ⟨rfl, List.suffix_refl _⟩ rfl rfl)

theorem ite {t : State} {p : Prop} [Decidable p] (h : s.SameRequests s₀) (ht : t.SameRequests s₀) : (if p then s else t).SameRequests s₀ := by
  split
  · exact h
  · exact ht

theorem foldl {γ : Type} {g : State → γ → State} {l : List γ} (h : s.SameRequests s₀)
    (hg : ∀ a x, a.SameRequests s₀ → (g a x).SameRequests s₀) : (l.foldl g s).SameRequests s₀ := foldl_keeps_of l (fun a ha x _ => hg a x ha) s h

/-- A change of a bank that leaves its requests and keys. -/
theorem updCip {r : Nat} {f : CipRole → CipRole} (h : s.SameRequests s₀) (hf : ∀ x, (f x).kept = x.kept) : (s.updCip r f).SameRequests s₀ :=
  h.trans ⟨⟨rfl, List.suffix_refl _⟩, List.length_modify .., fun q => s.cip_updCip_of r q hf, rfl⟩

/-! ### The steps of the cipher class -/

theorem syncCip {r : Nat} (h : s.SameRequests s₀) : (s.syncCip r).SameRequests s₀ := h.wr.wr.wr.wr

theorem cipLoads {r : Nat} (h : s.SameRequests s₀) : (s.cipLoads r).SameRequests s₀ := by
  unfold State.cipLoads
  refine h.foldl fun a w ha => ?_
  exact ha.ite (ha.bump.updCip fun _ => rfl)

theorem cipCount {r : Nat} {q : CipReq} (h : s.SameRequests s₀) : (s.cipCount r q).SameRequests s₀ := by
  unfold State.cipCount
  extract_lets n
  exact h.wr.ite (h.wr.updCip fun _ => rfl)

/-- A role without stalled requests takes none in. -/
theorem cipRefill {r : Nat} (h : s.SameRequests s₀) (hheld : (s₀.cip r).held = []) : (s.cipRefill r).SameRequests s₀ := by
  have hnone : (s.cip r).held = [] := (h.held r).trans hheld
  unfold State.cipRefill
  simp only [hnone]
  exact h

end State.SameRequests

/-! ### A request arrives -/

/-- A request is put at the end of the queue of its role; beside it only counters, notices and loads change. -/
theorem State.sameRequests_cipEnqueue (s : State) (r : Nat) (w : CipWait) : ∃ u : State, u.SameRequests s ∧
    (s.cipEnqueue r w).SameRequests (u.updCip r fun x => { x with queue := x.queue ++ [w] }) := by
  unfold State.cipEnqueue
  extract_lets x hit keyed s1 s2
  have h1 : s1.SameRequests s := .ite (.bump (.refl s)) (.refl s)
  have h2 : s2.SameRequests s := .ite h1.bump.raiseOnce h1
  exact ⟨s2, h2, .syncCip (.cipLoads (.refl _))⟩

/-- A role with room for a request, which it takes at once (R354). -/
def CipRole.takes (x : CipRole) : Prop := x.queue.length < 1024 ∧ x.held = []

theorem State.cipArrive_of_takes {s : State} {r : Nat} (h : (s.cip r).takes) (w : CipWait) : s.cipArrive r w = s.cipEnqueue r w := by
  obtain ⟨hroom, hheld⟩ := h
  unfold State.cipArrive
  simp only [hheld, List.isEmpty_nil, hroom, decide_true, Bool.and_self, if_true]

/-- A request that its role takes is the last of the role's queue. -/
theorem State.queue_cipArrive {s : State} {r : Nat} (hr : r < s.cips.length) (h : (s.cip r).takes) (w : CipWait) :
    ((s.cipArrive r w).cip r).queue = (s.cip r).queue ++ [w] := by
  obtain ⟨u, hu, ht⟩ := s.sameRequests_cipEnqueue r w
  rw [State.cipArrive_of_takes h, ht.queue, State.cip_updCip_same (hu.length.symm ▸ hr), hu.queue]

/-- A request that a role takes leaves the other roles' requests. -/
theorem State.kept_cipArrive_other {s : State} {r q : Nat} (hq : r ≠ q) (h : (s.cip r).takes) (w : CipWait) :
    ((s.cipArrive r w).cip q).kept = (s.cip q).kept := by
  obtain ⟨u, hu, ht⟩ := s.sameRequests_cipEnqueue r w
  rw [State.cipArrive_of_takes h, ht.kept, State.cip_updCip_other u hq, hu.kept]

theorem State.length_cipArrive {s : State} {r : Nat} (h : (s.cip r).takes) (w : CipWait) : (s.cipArrive r w).cips.length = s.cips.length := by
  obtain ⟨u, hu, ht⟩ := s.sameRequests_cipEnqueue r w
  rw [State.cipArrive_of_takes h, ht.length, State.updCip, List.length_modify, hu.length]

theorem State.keyTab_cipArrive {s : State} {r : Nat} (h : (s.cip r).takes) (w : CipWait) : (s.cipArrive r w).keyTab = s.keyTab := by
  obtain ⟨u, hu, ht⟩ := s.sameRequests_cipEnqueue r w
  rw [State.cipArrive_of_takes h, ht.table]
  exact hu.table

/-- The first n roles of the class have each a request more, the others what they had. -/
theorem State.cip_foldl_cipArrive (s : State) (w : CipWait) (n : Nat) (hn : n ≤ s.cips.length) (htakes : ∀ r, r < n → (s.cip r).takes) :
    let t := (List.range n).foldl (fun s r => s.cipArrive r w) s
    t.cips.length = s.cips.length ∧ t.keyTab = s.keyTab ∧ (∀ r, r < n → (t.cip r).queue = (s.cip r).queue ++ [w]) ∧
      ∀ r, n ≤ r → (t.cip r).kept = (s.cip r).kept := by
  induction n with
  | zero => exact ⟨rfl, rfl, fun r hr => absurd hr (Nat.not_lt_zero r), fun _ _ => rfl⟩
  | succ n ih =>
    obtain ⟨hlen, htab, hdone, hrest⟩ := ih (Nat.le_of_succ_le hn) fun r hr => htakes r (Nat.lt_succ_of_lt hr)
    simp only [List.range_succ, List.foldl_append, List.foldl_cons, List.foldl_nil]
    generalize (List.range n).foldl (fun s r => s.cipArrive r w) s = t at *
    have hkept := hrest n (Nat.le_refl n)
    have hqueue : (t.cip n).queue = (s.cip n).queue := congrArg (·.2.1) hkept
    have hheld : (t.cip n).held = (s.cip n).held := congrArg (·.2.2) hkept
    have htake : (t.cip n).takes := ⟨hqueue.symm ▸ (htakes n n.lt_succ_self).1, hheld.trans (htakes n n.lt_succ_self).2⟩
    refine ⟨(State.length_cipArrive htake w).trans hlen, (State.keyTab_cipArrive htake w).trans htab, fun r hr => ?_, fun r hr => ?_⟩
    · obtain hlt | rfl := Nat.lt_succ_iff_lt_or_eq.1 hr
      · have hsame := State.kept_cipArrive_other (Nat.ne_of_gt hlt) htake w
        exact (congrArg (·.2.1) hsame).trans (hdone r hlt)
      · rw [State.queue_cipArrive (hlen.symm ▸ hn) htake, hqueue]
    · exact (State.kept_cipArrive_other (Nat.ne_of_lt hr) htake w).trans (hrest r (Nat.le_of_succ_le hr))

/-! ### A request is answered -/

/-- A role's bank with one request taken out, and its response sent. -/
def State.answeredCip (s : State) (r i : Nat) (q : CipReq) (status tail : Nat) : State :=
  (s.updCip r fun x => { x with queue := x.queue.eraseIdx i }).send (.cipResponse q.src q.rtag status r tail)

/-- With no request stalled, an answer takes the request out and sends the response; beside it only counters, events and loads change. -/
theorem State.sameRequests_cipAnswer (s : State) (r i : Nat) (q : CipReq) (status tail : Nat) (hheld : (s.cip r).held = []) :
    (s.cipAnswer r i q status tail).SameRequests (s.answeredCip r i q status tail) := by
  have hnone : ((s.answeredCip r i q status tail).cip r).held = [] := by
    rw [State.answeredCip, State.cip_send]
    exact (s.cip_updCip_of (f := fun x => { x with queue := x.queue.eraseIdx i }) (g := CipRole.held) r r fun _ => rfl).trans hheld
  unfold State.cipAnswer
  extract_lets s1 s2 s3 s4
  have h3 : s3.SameRequests (s.answeredCip r i q status tail) := .bump (.refl _)
  have h4 : s4.SameRequests (s.answeredCip r i q status tail) := by
    simp only [s4]
    split
    · exact h3.bump
    · exact h3.bump
    · exact h3.bump
    · exact h3.bump.raiseOnce
    · exact h3.bump.raise
    · exact h3
  exact (h4.cipLoads.cipRefill hnone).syncCip

theorem State.queue_answeredCip (s : State) {r : Nat} (hr : r < s.cips.length) (i : Nat) (q : CipReq) (status tail : Nat) :
    ((s.answeredCip r i q status tail).cip r).queue = (s.cip r).queue.eraseIdx i := by
  rw [State.answeredCip, State.cip_send, State.cip_updCip_same hr]

/-- The answer of a role is new and the request has left its queue. -/
theorem State.answered_cipAnswer {s u : State} (hu : u.SameRequests s) {r i : Nat} (hr : r < s.cips.length) (q : CipReq) (status tail : Nat)
    (hheld : (s.cip r).held = []) :
    (newOut s (u.cipAnswer r i q status tail)).contains (.cipResponse q.src q.rtag status r tail) = true ∧
      ((u.cipAnswer r i q status tail).cip r).queue = (s.cip r).queue.eraseIdx i := by
  have h := u.sameRequests_cipAnswer r i q status tail ((hu.held r).trans hheld)
  refine ⟨contains_newOut_of_sent hu.after h.after.2, ?_⟩
  rw [h.queue, State.queue_answeredCip u (hu.length.symm ▸ hr), hu.queue]

/-- The request that a role serves next is in its queue, so that the role is one of the banks. -/
theorem State.lt_cips_of_cipNext {s : State} {r i : Nat} {w : CipWait} (h : s.cipNext r = some (i, w)) : r < s.cips.length := by
  refine State.lt_cips_of_ne fun hcold => ?_
  simp only [State.cipNext, hcold, CipRole.cold] at h
  revert h
  simp

/-! ### A load ends -/

/-- A key that enters the cache is found there under its slot and generation. -/
theorem CipRole.key?_enter (x : CipRole) (e : KeyEntry) (now : Nat) : ((x.enter e now).key? e.slot e.kgen).isSome = true := by
  unfold CipRole.enter CipRole.key?
  extract_lets cache cache'
  simp only [List.find?_cons, beq_self_eq_true, Bool.and_self, Option.isSome_some]

theorem CipRole.loads_enter (x : CipRole) (e : KeyEntry) (now : Nat) : (x.enter e now).loads = x.loads := rfl

theorem CipRole.queue_enter (x : CipRole) (e : KeyEntry) (now : Nat) : (x.enter e now).queue = x.queue := rfl

/-- With no request queued there is nothing to load. -/
theorem State.cipLoads_of_nil {s : State} {r : Nat} (h : (s.cip r).queue = []) : s.cipLoads r = s := by
  rw [State.cipLoads, h, List.foldl_nil]

theorem State.cips_syncCip (s : State) (r : Nat) : (s.syncCip r).cips = s.cips := by
  unfold State.syncCip
  extract_lets x
  rw [State.wrB, State.wr_cips, State.wr_cips, State.wr_cips, State.wr_cips]

theorem State.cip_syncCip (s : State) (r q : Nat) : (s.syncCip r).cip q = s.cip q := by
  rw [State.cip, State.cips_syncCip, State.cip]

/-- A role as an intact load of a slot leaves it: the load over, requests of another generation stale, the key in the cache. -/
def CipRole.loaded (x : CipRole) (slot : Nat) (e : KeyEntry) (now : Nat) : CipRole :=
  (({ x with loads := x.loads.filter fun l => l.1 != slot }).failKey (fun q => q.slot == slot && q.kgen != e.kgen) 7).enter e now

theorem CipRole.key?_loaded (x : CipRole) {slot : Nat} {e : KeyEntry} (he : e.slot = slot) (now : Nat) :
    ((x.loaded slot e now).key? slot e.kgen).isSome = true := by
  rw [← he]
  exact CipRole.key?_enter _ e now

theorem CipRole.loads_loaded (x : CipRole) (slot : Nat) (e : KeyEntry) (now : Nat) :
    (x.loaded slot e now).loads.any (fun l => l.1 == slot) = false := by
  have h : (x.loaded slot e now).loads = x.loads.filter fun l => l.1 != slot := rfl
  simp [h]

theorem CipRole.queue_loaded (x : CipRole) (slot : Nat) (e : KeyEntry) (now : Nat) (h : x.queue = []) : (x.loaded slot e now).queue = [] := by
  have hmap : (x.loaded slot e now).queue = x.queue.map fun w =>
    if w.req.op != 7 && w.failed.isNone && (w.req.slot == slot && w.req.kgen != e.kgen) then { w with failed := some 7 } else w := rfl
  rw [hmap, h, List.map_nil]

/-- Without a queued request an intact load of a key enters the key and is over. -/
theorem State.cipLoadEnds {s : State} {role slot : Nat} {e : KeyEntry} {bad again : Bool}
    (hload : (s.cip role).loads.find? (fun l => l.1 == slot) = some (slot, bad, again)) (hkey : s.keyTab.find? (fun z => z.slot == slot) = some e)
    (hhand : s.keyAtHand slot = true) (hblocked : s.tru.blocked = false) (hqueue : (s.cip role).queue = []) :
    ∃ t, exec (.keyLoadDone role slot true) s = .next t ∧ t.cip role = (s.cip role).loaded slot e s.now := by
  have hrole : role < s.cips.length := State.lt_cips_of_ne fun hcold => by simp [hcold, CipRole.cold] at hload
  have hcip : (s.updCip role fun x => x.loaded slot e s.now).cip role = (s.cip role).loaded slot e s.now := State.cip_updCip_same hrole _
  have hempty : ((s.updCip role fun x => x.loaded slot e s.now).cip role).queue = [] := hcip ▸ CipRole.queue_loaded _ _ _ _ hqueue
  refine ⟨((s.updCip role fun x => x.loaded slot e s.now).cipLoads role).syncCip role, ?_, ?_⟩
  · simp only [exec, execKeyLoadDone, hload, hhand, hkey, hblocked, hqueue, Bool.not_true, Bool.false_or, List.any_nil, Bool.false_and,
      Bool.false_eq_true, if_false, CipRole.loaded]
  · rw [State.cipLoads_of_nil hempty, State.cip_syncCip, hcip]

/-! ### A request succeeds -/

/-- A bank whose key of a slot is used. -/
def CipRole.useKey (x : CipRole) (slot op now : Nat) : CipRole :=
  { x with cache := mapIf (fun (e : KeyCache) => e.slot == slot) (fun e => { e with
    used := now, counter := if op = 4 then e.counter + 1 else e.counter }) x.cache }

theorem State.after_updCip (s : State) (r : Nat) (f : CipRole → CipRole) : (s.updCip r f).After s := ⟨rfl, List.suffix_refl _⟩

/-- What a request that succeeds leaves of its role's bank, before the answer. -/
def State.cipServed (s : State) (role : Nat) (q : CipReq) (l : List (Nat × Nat × Nat)) : State :=
  l.foldl (fun s p => s.send (.cipData p.1 p.2.1 p.2.2)) ((s.updCip role fun x => x.useKey q.slot q.op s.now).cipCount role q)

theorem State.sameRequests_cipServed (s : State) (role : Nat) (q : CipReq) (l : List (Nat × Nat × Nat)) :
    (s.cipServed role q l).SameRequests (s.updCip role fun x => x.useKey q.slot q.op s.now) :=
  .foldl (.cipCount (.refl _)) fun _ _ ha => ha.send

/-- A request that succeeds is answered, the data it gives go out, and it leaves its queue. -/
theorem State.answered_cipServed {s : State} {role : Nat} (hr : role < s.cips.length) (hheld : (s.cip role).held = []) (i : Nat) (q : CipReq)
    (l : List (Nat × Nat × Nat)) (tail : Nat) : let t := (s.cipServed role q l).cipAnswer role i q 0 tail
    (newOut s t).contains (.cipResponse q.src q.rtag 0 role tail) = true ∧
      (l.all fun p => (newOut s t).contains (.cipData p.1 p.2.1 p.2.2)) = true ∧ (t.cip role).queue = (s.cip role).queue.eraseIdx i := by
  have hserved := s.sameRequests_cipServed role q l
  have hlen : (s.updCip role fun x => x.useKey q.slot q.op s.now).cips.length = s.cips.length := List.length_modify ..
  have hcip : (s.updCip role fun x => x.useKey q.slot q.op s.now).cip role = (s.cip role).useKey q.slot q.op s.now := State.cip_updCip_same hr _
  have hnone : ((s.updCip role fun x => x.useKey q.slot q.op s.now).cip role).held = [] := by rw [hcip]; exact hheld
  have hcount : ((s.updCip role fun x => x.useKey q.slot q.op s.now).cipCount role q).After s :=
    State.After.trans (s.after_updCip role _) (State.SameRequests.after (.cipCount (.refl _)))
  obtain ⟨hanswer, hqueue⟩ := State.answered_cipAnswer hserved (hlen.symm ▸ hr) (i := i) q 0 tail hnone
  refine ⟨hanswer, all_newOut_of_foldl_send (fun p => .cipData p.1 p.2.1 p.2.2) l hcount ?_, ?_⟩
  · have h := State.sameRequests_cipAnswer (s.cipServed role q l) role i q 0 tail ((hserved.held role).trans hnone)
    exact (List.suffix_cons _ _).trans h.after.2
  · rw [hqueue, hcip]
    rfl

end Sys2Proof.Machine

namespace Sys2Proof

open Machine

/-- Settles O32: a request goes to the end of its role's queue, and an answer takes it out. -/
theorem cipherRequests : Obligations.CipherRequests := by
  unfold Obligations.CipherRequests
  refine ⟨?_, ?_, ?_, ?_, ?_, ?_, ?_, ?_, ?_, ?_⟩
  iterate 6
    intro s r hr hroom hheld
    exact .of_exec rfl (State.queue_cipArrive hr ⟨hroom, hheld⟩ _)
  · intro s r hok hlen hall
    have htakes : ∀ i, i < 8 → (s.cip i).takes := by
      intro i hi
      have hthis := List.all_eq_true.1 hall i (List.mem_range.2 hi)
      simp only [Bool.and_eq_true, List.isEmpty_iff, decide_eq_true_eq] at hthis
      exact ⟨hthis.2, hthis.1⟩
    obtain ⟨-, htab, hqueues, -⟩ := State.cip_foldl_cipArrive { s with keyTab := s.keyTab.filter fun e => !(e.slot == r.slot && e.kgen == r.kgen) }
      ⟨{ r with op := 7 }, false, none⟩ 8 (Nat.le_of_eq hlen.symm) htakes
    refine .of_exec ?_ ⟨htab, List.all_eq_true.2 fun i hi => beq_iff_eq.2 (hqueues i (List.mem_range.1 hi))⟩
    simp only [exec, execCipKeyZero, hok, Option.isSome_none, Bool.false_eq_true, if_false, State.zeroAll]
  · intro s role f hdrOk i st z hnext hfailed hheld
    refine .of_exec (t := s.cipAnswer role i z.req st 0) ?_ ?_
    · simp only [exec, execCipResult, hnext, hfailed]
    · exact State.answered_cipAnswer (.refl s) (State.lt_cips_of_cipNext hnext) z.req st 0 hheld
  · intro s role f hdrOk i z k hnext hfailed hop hkey hseal hsrc hcheck hmap htag hheld
    have hrekey : ∀ g, (s.updCip role g).rekeyHaul z.req k = s.updCip role g := by
      intro g
      unfold State.rekeyHaul
      obtain hop4 | ⟨-, hex⟩ := hseal
      · simp [hop4]
      · simp [State.updCip, hex]
    have hlost : (decide (z.req.op = 4) && k.ivLost) = false := by
      obtain hop4 | ⟨hlost, -⟩ := hseal
      · simp [hop4]
      · simp [hlost]
    refine .of_exec (t := (s.cipServed role z.req (cipWork k.key (if z.req.op = 4 then sealIv role k.counter else z.req.iv) z.req f).2.2).cipAnswer role i
      z.req 0 (if z.req.op = 4 then sealIv role k.counter else 0)) ?_ ?_
    · simp only [exec, execCipResult, hnext, hfailed, hop, hkey, if_false]
      simp only [hrekey, hlost, hsrc, hcheck, hmap, htag, Bool.not_true, Bool.false_and, Bool.false_eq_true, if_false, if_true,
        State.cipServed, CipRole.useKey]
      split <;> rfl
    · exact State.answered_cipServed (State.lt_cips_of_cipNext hnext) hheld i z.req _ _
  · intro s role slot intact e bad again hload hkey hintact hhand hblocked hqueue
    obtain ⟨t, hexec, hcip⟩ := State.cipLoadEnds hload hkey hhand hblocked hqueue
    have hslot : e.slot = slot := by simpa using List.find?_some hkey
    rw [hintact]
    refine .of_exec hexec ⟨?_, ?_⟩
    · rw [hcip]
      exact CipRole.key?_loaded _ hslot s.now
    · rw [hcip]
      exact CipRole.loads_loaded _ slot e s.now

end Sys2Proof
end

section
/-!
The MACs: statistics, what sending pause leaves alone, links, then O33.
-/

-- One declaration at a time, as with the lemmas about a serving unit.
set_option Elab.async false

namespace Sys2Proof.Machine

/-! ### Statistics -/

theorem State.prtStat_setStat (s : State) (m i v : Nat) : (s.setStat m i v).prtStat =
    if v % 2 ^ 64 = 0 then s.prtStat.filter fun p => p.1 != 16 * m + i
    else (16 * m + i, v % 2 ^ 64) :: s.prtStat.filter fun p => p.1 != 16 * m + i := rfl

theorem State.stat_setStat_same (s : State) (m i v : Nat) : (s.setStat m i v).stat m i = v % 2 ^ 64 := by
  rw [State.stat, State.prtStat_setStat]
  by_cases h : v % 2 ^ 64 = 0
  · have hnone : (s.prtStat.filter fun p => p.1 != 16 * m + i).find? (fun p => p.1 == 16 * m + i) = none := by simp
    rw [if_pos h, hnone, h]
  · simp only [if_neg h, List.find?_cons, beq_self_eq_true]

theorem State.stat_setStat_other (s : State) {m i n j : Nat} (h : 16 * n + j ≠ 16 * m + i) (v : Nat) :
    (s.setStat m i v).stat n j = s.stat n j := by
  have hrest : (s.prtStat.filter fun p => p.1 != 16 * m + i).find? (fun p => p.1 == 16 * n + j) = s.prtStat.find? fun p => p.1 == 16 * n + j := by
    rw [List.find?_filter]
    congr 1
    funext p
    by_cases hp : p.1 = 16 * n + j
    · simp [hp, h]
    · simp [hp]
  rw [State.stat, State.prtStat_setStat, State.stat]
  by_cases h0 : v % 2 ^ 64 = 0
  · rw [if_pos h0, hrest]
  · rw [if_neg h0, List.find?_cons, beq_eq_false_iff_ne.2 h.symm]
    simp only [hrest]

theorem State.stat_of_prtStat {s t : State} (h : t.prtStat = s.prtStat) (m i : Nat) : t.stat m i = s.stat m i := by
  rw [State.stat, h, State.stat]

theorem State.stat_send (s : State) (o : Out) (m i : Nat) : (s.send o).stat m i = s.stat m i := rfl

theorem State.stat_wr (s : State) (f : Fld) (v m i : Nat) : (s.wr f v).stat m i = s.stat m i := State.stat_of_prtStat (s.wr_prtStat f v) m i

theorem State.stat_addStat_same (s : State) (m i n : Nat) : (s.addStat m i n).stat m i = (s.stat m i + n) % 2 ^ 64 := s.stat_setStat_same ..

/-! ### The MACs -/

theorem State.mac_updMac_same {s : State} {m : Nat} (h : m < s.macs.length) (f : Mac → Mac) : (s.updMac m f).mac m = f (s.mac m) := by
  simp only [State.mac, State.updMac, List.getD_eq_getElem?_getD, List.getElem?_modify, List.getElem?_eq_getElem h, if_true,
    Option.map_eq_map, Option.map_some, Option.getD_some]

/-- What a change leaves in every MAC stays so after a change of one that leaves it. -/
theorem State.mac_updMac_of {α : Type} (s : State) (m n : Nat) {f : Mac → Mac} {g : Mac → α} (h : ∀ x, g (f x) = g x) :
    g ((s.updMac m f).mac n) = g (s.mac n) := by
  by_cases hr : m = n
  · subst hr
    by_cases hlen : m < s.macs.length
    · rw [State.mac_updMac_same hlen, h]
    · have hold : s.macs.modify m f = s.macs := List.modify_eq_self (Nat.le_of_not_lt hlen)
      rw [State.mac, State.updMac, hold, State.mac]
  · simp only [State.mac, State.updMac, List.getD_eq_getElem?_getD, List.getElem?_modify, if_neg hr, id_map']

/-- A MAC that differs from that of a cold power-on is one of the unit's. -/
theorem State.lt_macs_of_ne {s : State} {m : Nat} (h : s.mac m ≠ Mac.cold) : m < s.macs.length := by
  by_contra hge
  exact h (List.getD_eq_default _ _ (Nat.le_of_not_lt hge))

/-- The fields that sending pause and counting cells leave alone. -/
def asidePause (g : Fld) : Prop := (∀ b, sparedBy g (F.PRT_STAT_LPI_TX b) = true) ∧ g.key ≠ F.SWC_STAT_CELLS_USED.key ∧ 0x28 ≤ g.key % 0x100000

/-- A field of another word is spared. -/
theorem sparedBy_of_key_ne {g f : Fld} (h : g.key ≠ f.key) : sparedBy g f = true := by
  rw [sparedBy, bne_iff_ne.2 h, Bool.true_or]

/-- A field above another of its word is written beside it. -/
theorem sparedBy_of_lt {g f : Fld} (hle : f.lo ≤ f.hi) (h32 : f.hi < 32) (h : g.hi < f.lo) : sparedBy g f = true := by
  rw [sparedBy, decide_eq_true hle, decide_eq_true h32, decide_eq_true h]
  exact Bool.or_true _

theorem F.key_PRT_STAT_LPI_TX (b : Nat) : (F.PRT_STAT_LPI_TX b).key = b * 0x100000 + 0x1004 := rfl
theorem F.key_PRT_STAT_LINK (b : Nat) : (F.PRT_STAT_LINK b).key = b * 0x100000 + 0x1004 := rfl
theorem F.key_PRT_PFC_WD_WD_RESTORE_MS (b : Nat) : (F.PRT_PFC_WD_WD_RESTORE_MS b).key = b * 0x100000 + 0x1380 := rfl
theorem F.key_SWC_STAT_CELLS_USED : F.SWC_STAT_CELLS_USED.key = 0x1001004 := rfl

theorem asidePause_link {m : Nat} (h : m < 32) : asidePause (F.PRT_STAT_LINK (prtOf m)) := by
  refine ⟨fun c => ?_, ?_, ?_⟩
  · exact sparedBy_of_lt (Nat.le_refl 8) (by decide : 8 < 32) (by decide : 3 < 8)
  · rw [F.key_PRT_STAT_LINK, F.key_SWC_STAT_CELLS_USED, prtOf]
    omega
  · rw [F.key_PRT_STAT_LINK]
    omega

theorem asidePause_restore (b : Nat) : asidePause (F.PRT_PFC_WD_WD_RESTORE_MS b) := by
  refine ⟨fun c => sparedBy_of_key_ne ?_, ?_, ?_⟩
  · rw [F.key_PRT_PFC_WD_WD_RESTORE_MS, F.key_PRT_STAT_LPI_TX]
    omega
  · rw [F.key_PRT_PFC_WD_WD_RESTORE_MS, F.key_SWC_STAT_CELLS_USED]
    omega
  · rw [F.key_PRT_PFC_WD_WD_RESTORE_MS]
    omega

/-- A state comes after another by nothing but pause frames, transmit LPI and counts of cells, as far as received pause, frames queued and
the other statistics tell. -/
structure State.OnlyPauses (t s : State) : Prop where
  after : t.After s
  swq : t.swq = s.swq
  stat : ∀ m i, i < 16 → i ≠ 9 → i ≠ 14 → t.stat m i = s.stat m i
  flow : ∀ m, ((t.mac m).stops, (t.mac m).ignore) = ((s.mac m).stops, (s.mac m).ignore)
  length : t.macs.length = s.macs.length
  words : ∀ g, asidePause g → t.rd g = s.rd g

namespace State.OnlyPauses

variable {s s₀ : State}

theorem refl (s : State) : s.OnlyPauses s := ⟨.refl s, rfl, fun _ _ _ _ _ => rfl, fun _ => rfl, rfl, fun _ _ => rfl⟩

theorem stops (h : s.OnlyPauses s₀) (m : Nat) : (s.mac m).stops = (s₀.mac m).stops := congrArg (·.1) (h.flow m)

theorem ignore (h : s.OnlyPauses s₀) (m : Nat) : (s.mac m).ignore = (s₀.mac m).ignore := congrArg (·.2) (h.flow m)

theorem linkUp (h : s.OnlyPauses s₀) (m : Nat) : s.linkUp m = s₀.linkUp m := by
  by_cases hm : m < 32
  · rw [State.linkUp, State.linkUp, h.words _ (asidePause_link hm)]
  · simp [State.linkUp, hm]

/-- A write of a field that what is kept stands aside of. -/
theorem wr {f : Fld} {v : Nat} (h : s.OnlyPauses s₀) (hf : ∀ g, asidePause g → sparedBy g f = true) : (s.wr f v).OnlyPauses s₀ where
  after := h.after.wr
  swq := (s.wr_swq f v).trans h.swq
  stat m i hi h9 h14 := (State.stat_of_prtStat (s.wr_prtStat f v) m i).trans (h.stat m i hi h9 h14)
  flow m := by rw [State.mac, s.wr_macs f v]; exact h.flow m
  length := (congrArg List.length (s.wr_macs f v)).trans h.length
  words g hg := (s.rd_wr_spared f g v (hf g hg)).trans (h.words g hg)

theorem wrLpi {b v : Nat} (h : s.OnlyPauses s₀) : (s.wr (F.PRT_STAT_LPI_TX b) v).OnlyPauses s₀ := h.wr fun _ hg => hg.1 b

theorem syncCells (h : s.OnlyPauses s₀) : s.syncCells.OnlyPauses s₀ := h.wr fun _ hg => sparedBy_of_key_ne hg.2.1

theorem send {o : Out} (h : s.OnlyPauses s₀) : (s.send o).OnlyPauses s₀ :=
  ⟨h.after.send, h.swq, h.stat, h.flow, h.length, h.words⟩

theorem updMac {m : Nat} {f : Mac → Mac} (h : s.OnlyPauses s₀) (hf : ∀ x, ((f x).stops, (f x).ignore) = (x.stops, x.ignore)) :
    (s.updMac m f).OnlyPauses s₀ where
  after := h.after.of_eq
  swq := h.swq
  stat := h.stat
  flow n := (s.mac_updMac_of (g := fun x => (x.stops, x.ignore)) m n hf).trans (h.flow n)
  length := (List.length_modify ..).trans h.length
  words := h.words

theorem setStat {m i v : Nat} (h : s.OnlyPauses s₀) (hi : i = 9 ∨ i = 14) : (s.setStat m i v).OnlyPauses s₀ where
  after := h.after.of_eq
  swq := h.swq
  stat n j hj h9 h14 := (s.stat_setStat_other (by omega) v).trans (h.stat n j hj h9 h14)
  flow := h.flow
  length := h.length
  words := h.words

theorem raise {b loc sev code data : Nat} (h : s.OnlyPauses s₀) : (s.raise b loc sev code data).OnlyPauses s₀ where
  after := h.after.raise
  swq := (s.raise_swq ..).trans h.swq
  stat m i hi h9 h14 := (State.stat_of_prtStat (s.raise_prtStat ..) m i).trans (h.stat m i hi h9 h14)
  flow m := by rw [State.mac, s.raise_macs]; exact h.flow m
  length := (congrArg List.length (s.raise_macs ..)).trans h.length
  words g hg := (s.rd_raise_beyond _ _ _ _ _ g hg.2.2).trans (h.words g hg)

theorem groupDown {m : Nat} (h : s.OnlyPauses s₀) : (s.groupDown m).OnlyPauses s₀ :=
  foldl_keeps_of (P := fun a : State => a.OnlyPauses s₀) _ (fun a ha j _ => by
    split
    · exact ha.raise
    · exact ha) s h

theorem ite {t : State} {p : Prop} [Decidable p] (h : s.OnlyPauses s₀) (ht : t.OnlyPauses s₀) : (if p then s else t).OnlyPauses s₀ := by
  split
  · exact h
  · exact ht

theorem foldl {γ : Type} {g : State → γ → State} {l : List γ} (h : s.OnlyPauses s₀)
    (hg : ∀ a x, a.OnlyPauses s₀ → (g a x).OnlyPauses s₀) : (l.foldl g s).OnlyPauses s₀ := foldl_keeps_of l (fun a ha x _ => hg a x ha) s h

theorem lpiAccrue {m : Nat} (h : s.OnlyPauses s₀) : (s.lpiAccrue m).OnlyPauses s₀ := by
  unfold State.lpiAccrue
  split
  · exact h
  · exact (h.setStat (.inr rfl)).updMac fun _ => rfl

theorem leaveLpi {m : Nat} (h : s.OnlyPauses s₀) : (s.leaveLpi m).OnlyPauses s₀ := by
  unfold State.leaveLpi
  split
  · exact h
  · extract_lets s1 s2 s3
    have h1 : s1.OnlyPauses s₀ := h.lpiAccrue
    have h2 : s2.OnlyPauses s₀ := h1.updMac fun _ => rfl
    have h3 : s3.OnlyPauses s₀ := h2.updMac fun _ => rfl
    exact h3.wrLpi

theorem sendPause {m c q : Nat} (h : s.OnlyPauses s₀) : (s.sendPause m c q).OnlyPauses s₀ := by
  have h1 : ((s.leaveLpi m).updMac m fun x => { x with idleSince := s.now }).OnlyPauses s₀ := h.leaveLpi.updMac fun _ => rfl
  have h2 : (((s.leaveLpi m).updMac m fun x => { x with idleSince := s.now }).addStat m 9 1).OnlyPauses s₀ := h1.setStat (.inl rfl)
  unfold State.sendPause
  exact h.ite h2.send

theorem syncAsks {m : Nat} (h : s.OnlyPauses s₀) : (s.syncAsks m).OnlyPauses s₀ := by
  unfold State.syncAsks
  extract_lets want old s1 s2
  have h1 : s1.OnlyPauses s₀ := h.updMac fun _ => rfl
  have h2 : s2.OnlyPauses s₀ := h1.foldl fun _ _ ha => ha.sendPause
  refine h2.foldl fun a c ha => ?_
  have hask : (a.updMac m fun x => { x with asks := PauseAsk.mk c a.now a.now false :: x.asks }).OnlyPauses s₀ := ha.updMac fun _ => rfl
  exact hask.sendPause

theorem syncXoff {m : Nat} (h : s.OnlyPauses s₀) : (s.syncXoff m).OnlyPauses s₀ := by
  unfold State.syncXoff
  extract_lets asked
  have h1 : (s.updMac m fun x => { x with asked := asked }).OnlyPauses s₀ := h.updMac fun _ => rfl
  exact h.ite (h.ite h1.syncAsks)

end State.OnlyPauses

/-- The state with other frames queued. -/
def State.withSwq (s : State) (l : List SwFrame) : State := { s with swq := l }

/-- Frames taken out of the buffer: beside them only pauses change. -/
theorem State.onlyPauses_freeFrames (s : State) (p : SwFrame → Bool) :
    (s.freeFrames p).OnlyPauses (s.withSwq (s.swq.filter fun f => !p f)) := by
  unfold State.freeFrames
  exact (State.OnlyPauses.refl _).syncCells.foldl fun _ _ ha => ha.syncXoff

theorem State.mac_of_macs {s t : State} (h : t.macs = s.macs) (m : Nat) : t.mac m = s.mac m := by rw [State.mac, h, State.mac]

theorem State.mac_wr (s : State) (f : Fld) (v m : Nat) : (s.wr f v).mac m = s.mac m := State.mac_of_macs (s.wr_macs f v) m

theorem State.mac_raise (s : State) (b loc sev code data m : Nat) : (s.raise b loc sev code data).mac m = s.mac m :=
  State.mac_of_macs (s.raise_macs ..) m

/-! ### What a pause frame leaves of the pauses that are sent -/

theorem State.asks_lpiAccrue (s : State) (m n : Nat) : ((s.lpiAccrue m).mac n).asks = (s.mac n).asks := by
  unfold State.lpiAccrue
  split
  · rfl
  · exact State.mac_updMac_of (g := Mac.asks) _ m n fun _ => rfl

theorem State.asks_leaveLpi (s : State) (m n : Nat) : ((s.leaveLpi m).mac n).asks = (s.mac n).asks := by
  unfold State.leaveLpi
  split
  · rfl
  · extract_lets s1 s2 s3
    have h2 : (s2.mac n).asks = (s1.mac n).asks := State.mac_updMac_of (g := Mac.asks) _ m n fun _ => rfl
    have h3 : (s3.mac n).asks = (s2.mac n).asks := State.mac_updMac_of (g := Mac.asks) _ m n fun _ => rfl
    rw [State.mac_wr, h3, h2]
    exact s.asks_lpiAccrue m n

theorem State.asks_sendPause (s : State) (m c q n : Nat) : ((s.sendPause m c q).mac n).asks = (s.mac n).asks := by
  unfold State.sendPause
  split
  · rfl
  · have hidle := State.mac_updMac_of (s.leaveLpi m) m n (f := fun x => { x with idleSince := s.now }) (g := Mac.asks) fun _ => rfl
    have hsent : ∀ u : State, ((u.addStat m 9 1).send (.pause m c q)).mac n = u.mac n := fun u => State.mac_of_macs rfl n
    rw [hsent, hidle, s.asks_leaveLpi m n]

/-- A MAC whose link is up sends the pause frame. -/
theorem State.out_sendPause {s : State} {m : Nat} (h : s.linkUp m = true) (c q : Nat) :
    ∃ u : State, u.After s ∧ (s.sendPause m c q).out = .pause m c q :: u.out := by
  have h1 : ((s.leaveLpi m).updMac m fun x => { x with idleSince := s.now }).OnlyPauses s := (State.OnlyPauses.refl s).leaveLpi.updMac fun _ => rfl
  refine ⟨_, h1.after, ?_⟩
  unfold State.sendPause
  rw [h]
  rfl

/-! ### Links -/

/-- The word of a port's link state, which every MAC's link stands in. -/
theorem State.linkUp_of_rd {s t : State} {m : Nat} (h : t.rd (F.PRT_STAT_LINK (prtOf m)) = s.rd (F.PRT_STAT_LINK (prtOf m))) :
    t.linkUp m = s.linkUp m := by
  rw [State.linkUp, h, State.linkUp]

theorem State.linkUp_raise (s : State) (b loc sev code data m : Nat) : (s.raise b loc sev code data).linkUp m = s.linkUp m :=
  State.linkUp_of_rd (s.rd_raise_beyond _ _ _ _ _ _ (by rw [F.key_PRT_STAT_LINK]; omega))

theorem State.linkUp_wr (s : State) (f : Fld) (v : Nat) {m : Nat} (h : sparedBy (F.PRT_STAT_LINK (prtOf m)) f = true) :
    (s.wr f v).linkUp m = s.linkUp m := State.linkUp_of_rd (s.rd_wr_spared f _ v h)

theorem State.linkUp_updMac (s : State) (n : Nat) (f : Mac → Mac) (m : Nat) : (s.updMac n f).linkUp m = s.linkUp m := rfl

theorem State.linkUp_withSwq (s : State) (l : List SwFrame) (m : Nat) : (s.withSwq l).linkUp m = s.linkUp m := rfl

theorem State.stat_withSwq (s : State) (l : List SwFrame) (m i : Nat) : (s.withSwq l).stat m i = s.stat m i := rfl

theorem State.stat_updMac (s : State) (n : Nat) (f : Mac → Mac) (m i : Nat) : (s.updMac n f).stat m i = s.stat m i := rfl

theorem State.swq_updMac (s : State) (n : Nat) (f : Mac → Mac) : (s.updMac n f).swq = s.swq := rfl

/-- The bit of a MAC's link. -/
theorem State.linkUp_setBit (s : State) {m : Nat} (hm : m < 32) (up : Bool) :
    (s.setBit (F.PRT_STAT_LINK (prtOf m)) (subOf m) up).linkUp m = up := by
  have hsub : subOf m < 4 := Nat.mod_lt _ (by decide)
  rw [State.linkUp, State.hasBit_setBit s (F.PRT_STAT_LINK (prtOf m)) (subOf m) (subOf m) up (Nat.zero_le 3) (by decide : 3 < 16)
    (by decide : 3 < 32) hsub, if_pos rfl, decide_eq_true hm, Bool.true_and]

theorem State.lt_of_linkUp {s : State} {m : Nat} (h : s.linkUp m = true) : m < 32 := by
  rw [State.linkUp, Bool.and_eq_true] at h
  exact of_decide_eq_true h.1

/-- The fields of a port's status word above LINK. -/
theorem sparedBy_link {b c hi lo : Nat} (hlo : 4 ≤ lo) (hle : lo ≤ hi) (h32 : hi < 32) :
    sparedBy (F.PRT_STAT_LINK b) ⟨c * 0x100000 + 0x1004, hi, lo⟩ = true := sparedBy_of_lt hle h32 hlo

theorem link_sparedBy_fecLock (b c : Nat) : sparedBy (F.PRT_STAT_LINK b) (F.PRT_STAT_FEC_LOCK c) = true :=
  sparedBy_of_lt (by decide : 4 ≤ 7) (by decide : 7 < 32) (by decide : 3 < 4)

theorem link_sparedBy_lpiTx (b c : Nat) : sparedBy (F.PRT_STAT_LINK b) (F.PRT_STAT_LPI_TX c) = true :=
  sparedBy_of_lt (Nat.le_refl 8) (by decide : 8 < 32) (by decide : 3 < 8)

theorem link_sparedBy_eeeAn (b c : Nat) : sparedBy (F.PRT_STAT_LINK b) (F.PRT_STAT_EEE_AN c) = true :=
  sparedBy_of_lt (Nat.le_refl 10) (by decide : 10 < 32) (by decide : 3 < 10)

/-- The link of a MAC comes up (R429). -/
theorem State.linkUp_macLinkUp {s : State} {mac : Nat} (hmac : s.hasMac mac = true) (hlink : s.linkUp mac = false) (eee : Bool) :
    Completes (.macLinkUp mac true eee) s fun t => t.linkUp mac = true := by
  have hm : mac < 32 := by
    rw [State.hasMac, Bool.and_eq_true, Bool.and_eq_true] at hmac
    exact of_decide_eq_true hmac.1.1
  refine .of_exec (by rw [exec, execMacLinkUp]) ?_
  rw [hmac, hlink]
  extract_lets b c2m s1 src s2 s3
  rw [Bool.or_true, if_neg (by decide)]
  have h1 : s1.linkUp mac = true := (State.linkUp_wr _ _ _ (link_sparedBy_fecLock _ _)).trans (s.linkUp_setBit hm true)
  have h2 : s2.linkUp mac = true := (s1.linkUp_updMac ..).trans h1
  have h3 : s3.linkUp mac = true := by
    simp only [s3, State.wrB]
    split
    · exact (State.linkUp_wr _ _ _ (link_sparedBy_eeeAn _ _)).trans h2
    · exact h2
  exact (s3.linkUp_raise ..).trans h3

theorem State.stops_pauseTimeExpiry (s : State) (mac cls : Nat) :
    ((s.updMac mac fun x => { x with stops := x.stops.filter fun p => !(p.cls == cls && s.due p.until_) }).mac mac).stops =
      (s.mac mac).stops.filter fun p => !(p.cls == cls && s.due p.until_) := by
  by_cases h : mac < s.macs.length
  · rw [State.mac_updMac_same h]
  · have hold : s.macs.modify mac (fun x => { x with stops := x.stops.filter fun p => !(p.cls == cls && s.due p.until_) }) = s.macs :=
      List.modify_eq_self (Nat.le_of_not_lt h)
    have hcold : s.mac mac = Mac.cold := List.getD_eq_default _ _ (Nat.le_of_not_lt h)
    rw [State.mac, State.updMac, hold, ← State.mac, hcold]
    rfl

/-! ### Received pause -/

/-- A pause of some quanta, not ignored, stops its class for their time. -/
theorem State.stops_takePause {s : State} {m : Nat} (hlen : m < s.macs.length) (hign : (s.mac m).ignore = []) (c : Nat) {q : Nat}
    (hq : q % 65536 ≠ 0) :
    ((s.takePause m c q).mac m).stops.any (fun p => p.cls == c && p.until_ == s.now + s.quantaTime m (q % 65536)) = true := by
  unfold State.takePause
  rw [hign, List.any_nil, if_neg Bool.false_ne_true]
  extract_lets old
  rw [State.mac_updMac_same hlen, if_neg hq, List.any_cons, beq_self_eq_true, beq_self_eq_true]
  rfl

theorem State.prtStat_takePause (s : State) (m c q : Nat) : (s.takePause m c q).prtStat = s.prtStat := by
  unfold State.takePause
  split <;> rfl

/-- A pause frame stops the class of mode 1 and is counted (R436, R437). -/
theorem State.stops_pauseFrame {s : State} {mac quanta : Nat} (hlink : s.linkUp mac = true) (hmode : s.fcMode mac = 1)
    (hlen : mac < s.macs.length) (hign : (s.mac mac).ignore = []) (hq : quanta % 65536 ≠ 0) :
    Completes (.pauseFrame mac quanta) s fun t =>
      (t.mac mac).stops.any (fun p => p.cls == 8 && p.until_ == s.now + s.quantaTime mac (quanta % 65536)) = true ∧
        t.stat mac 6 = (s.stat mac 6 + 1) % 2 ^ 64 := by
  have hmode' : (s.addStat mac 6 1).fcMode mac = 1 := hmode
  refine .of_exec (t := (s.addStat mac 6 1).takePause mac 8 quanta) ?_ ⟨?_, ?_⟩
  · rw [exec, execPauseFrame, hlink, if_neg (by decide)]
    simp only [hmode', if_true]
  · exact State.stops_takePause (s := s.addStat mac 6 1) hlen hign 8 hq
  · rw [State.stat_of_prtStat (State.prtStat_takePause ..), State.stat_addStat_same]

/-- A PFC frame stops a class that is enabled (R436, R437). -/
theorem State.stops_pfcFrame {s : State} {mac c q : Nat} (hlink : s.linkUp mac = true) (hmode : s.fcMode mac = 2) (hc : c < 8)
    (hbit : hasBit (s.rd (F.PRT_MACCFG_PFC_EN (prtOf mac) (subOf mac))) c = true) (hlen : mac < s.macs.length)
    (hign : (s.mac mac).ignore = []) (hq : q % 65536 ≠ 0) :
    Completes (.pfcFrame mac [(c, q)]) s fun t =>
      (t.mac mac).stops.any (fun p => p.cls == c && p.until_ == s.now + s.quantaTime mac (q % 65536)) = true := by
  have hmode' : (s.addStat mac 6 1).fcMode mac = 2 := hmode
  have hbit' : hasBit ((s.addStat mac 6 1).rd (F.PRT_MACCFG_PFC_EN (prtOf mac) (subOf mac))) c = true := hbit
  refine .of_exec (t := (s.addStat mac 6 1).takePause mac c q) ?_ ?_
  · rw [exec, execPfcFrame, hlink, if_neg (by decide)]
    simp only [hmode', if_true, List.foldl_cons, List.foldl_nil, hbit', Bool.and_true, decide_eq_true hc]
  · exact State.stops_takePause (s := s.addStat mac 6 1) hlen hign c hq

/-- A class that is stuck is stopped at its MAC. -/
theorem State.lt_macs_of_stuck {s : State} {m c : Nat} (h : s.stuck m c = true) : m < s.macs.length := by
  refine State.lt_macs_of_ne fun hcold => ?_
  rw [State.stuck, hcold, Mac.cold, List.any_nil, Bool.and_false] at h
  exact Bool.false_ne_true h

/-- A state that differs by pauses does so with other frames queued, too. -/
theorem State.OnlyPauses.withSwq {t s : State} (h : t.OnlyPauses s) (l : List SwFrame) : (t.withSwq l).OnlyPauses (s.withSwq l) :=
  ⟨h.after, rfl, h.stat, h.flow, h.length, h.words⟩

/-- A frame discarded by the watchdog, and what its cells bring about. -/
def State.watchdogDrop (s : State) (f : SwFrame) : State := ((s.withSwq (s.swq.erase f)).syncCells).syncXoff f.input

/-- The watchdog's discards: beside the frames queued only pauses change. -/
theorem State.onlyPauses_watchdogDrop (s : State) (l : List SwFrame) : ∃ q, (l.foldl State.watchdogDrop s).OnlyPauses (s.withSwq q) := by
  refine foldl_keeps_of (P := fun a : State => ∃ q, a.OnlyPauses (s.withSwq q)) l (fun a ⟨q, ha⟩ f _ => ?_) s ⟨s.swq, .refl s⟩
  have h : (a.withSwq (a.swq.erase f)).OnlyPauses (s.withSwq (a.swq.erase f)) := ha.withSwq _
  exact ⟨_, h.syncCells.syncXoff⟩

/-- The watchdog ignores a stuck class from now and forgets its pause (R439). -/
theorem State.ignore_pfcWatchdogDetect {s : State} {mac cls : Nat} (atPort : Nat) (h : s.stuck mac cls = true) :
    Completes (.pfcWatchdogDetect mac cls atPort) s fun t =>
      (t.mac mac).ignore.head? = some (cls, s.now + msU (s.rd (F.PRT_PFC_WD_WD_RESTORE_MS (prtOf mac)))) ∧
        (t.mac mac).stops.any (fun p => p.cls == cls) = false := by
  have hlen := State.lt_macs_of_stuck h
  refine .of_exec (by rw [exec, execPfcWatchdogDetect]) ?_
  rw [h]
  extract_lets there s1 s2 until_ s3
  rw [if_neg (by decide)]
  obtain ⟨q, h2⟩ : ∃ q, s2.OnlyPauses (s1.withSwq q) := s1.onlyPauses_watchdogDrop there
  have hmac : s3.mac mac = _ := State.mac_updMac_same (h2.length.symm ▸ hlen) _
  have huntil : until_ = s.now + msU (s.rd (F.PRT_PFC_WD_WD_RESTORE_MS (prtOf mac))) := by
    have hnow : s2.now = s.now := h2.after.now
    have hrd : s2.rd (F.PRT_PFC_WD_WD_RESTORE_MS (prtOf mac)) = s.rd (F.PRT_PFC_WD_WD_RESTORE_MS (prtOf mac)) :=
      h2.words _ (asidePause_restore _)
    simp only [until_, hnow, hrd]
  rw [State.mac_raise, hmac, ← huntil]
  exact ⟨rfl, by simp⟩

/-- A restored class is ignored no more. -/
theorem State.ignore_pfcWatchdogRestore {s : State} {mac cls : Nat} (h : (s.mac mac).ignore.any (fun p => p.1 == cls && s.due p.2) = true) :
    Completes (.pfcWatchdogRestore mac cls) s fun t => (t.mac mac).ignore.any (fun p => p.1 == cls) = false := by
  have hlen : mac < s.macs.length := State.lt_macs_of_ne fun hcold => by rw [hcold, Mac.cold, List.any_nil] at h; exact Bool.false_ne_true h
  refine .of_exec (by rw [exec, execPfcWatchdogRestore, h, if_pos rfl]) ?_
  rw [State.mac_raise, State.mac_updMac_same hlen]
  simp

/-! ### Sent pause -/

/-- A pause is sent again and its time noted (R438). -/
theorem State.sent_pauseRepeatTimer {s : State} {mac cls : Nat} (hlink : s.linkUp mac = true)
    (h : (s.mac mac).asks.any (fun z => z.cls == cls && !z.capped && s.due (z.sentAt + s.quantaTime mac (s.txQuanta mac) / 2)) = true) :
    Completes (.pauseRepeatTimer mac cls) s fun t => (newOut s t).contains (.pause mac cls (s.txQuanta mac)) = true ∧
      (t.mac mac).asks.any (fun z => z.cls == cls && z.sentAt == s.now) = true := by
  have hlen : mac < s.macs.length := State.lt_macs_of_ne fun hcold => by rw [hcold, Mac.cold, List.any_nil] at h; exact Bool.false_ne_true h
  refine .of_exec (by rw [exec, execPauseRepeatTimer, h, if_pos rfl]) ⟨?_, ?_⟩
  · obtain ⟨u, hu, hout⟩ := State.out_sendPause (s := s.updMac mac fun x =>
      { x with asks := mapIf (fun a => a.cls == cls) (fun a => { a with sentAt := s.now }) x.asks }) (m := mac) hlink cls (s.txQuanta mac)
    exact contains_newOut_of_sent hu (hout ▸ List.suffix_refl _)
  · rw [State.asks_sendPause, State.mac_updMac_same hlen, List.any_eq_true]
    obtain ⟨z, hz, hcls⟩ := List.any_eq_true.1 h
    simp only [Bool.and_eq_true] at hcls
    refine ⟨{ z with sentAt := s.now }, List.mem_map.2 ⟨z, hz, ?_⟩, ?_⟩
    · simp only [hcls.1.1, if_true]
    · rw [hcls.1.1, beq_self_eq_true]
      rfl

/-- A pause sent for long is capped (R438). -/
theorem State.capped_pauseSendCap {s : State} {mac cls : Nat}
    (h : (s.mac mac).asks.any (fun z => z.cls == cls && !z.capped && s.due (z.since + msU (s.rd (F.PRT_FCTX_TX_MAX_MS (prtOf mac) (subOf mac))))) = true) :
    Completes (.pauseSendCap mac cls) s fun t => (t.mac mac).asks.all (fun z => z.cls != cls || z.capped) = true := by
  have hlen : mac < s.macs.length := State.lt_macs_of_ne fun hcold => by rw [hcold, Mac.cold, List.any_nil] at h; exact Bool.false_ne_true h
  refine .of_exec (t := (s.updMac mac fun x => { x with asks := mapIf (fun a => a.cls == cls) (fun a => { a with capped := true }) x.asks }).raise
    (prtOf mac) 9 NOTICE 6 (macClass mac cls)) (by simp only [exec, execPauseSendCap, h, if_true]) ?_
  rw [State.mac_raise, State.mac_updMac_same hlen, List.all_eq_true]
  intro z hz
  obtain ⟨a, -, rfl⟩ := List.mem_map.1 hz
  by_cases hcls : a.cls = cls <;> simp [hcls]

/-! ### Low Power Idle -/

/-- The wake time of this unit's receiver goes out. -/
theorem State.sent_lldpEeeTlv {s : State} {mac : Nat} (rxTw : Nat) (hlink : s.linkUp mac = true) :
    Completes (.lldpEeeTlv mac rxTw) s fun t => (newOut s t).contains (.lldpWake mac (s.rd (F.PRT_LPI_LPI_RX_TW (prtOf mac)))) = true := by
  refine .of_exec (by rw [exec, execLldpEeeTlv]) ?_
  rw [hlink]
  extract_lets s1 tw cur
  rw [if_neg (by decide)]
  have h1 : s1.After s1 := .refl s1
  refine contains_newOut_of_sent (u := s) (.refl s) ?_
  show s1.out <:+ _
  split
  · exact (h1.of_eq (t := s1.updMac mac _)).2
  · exact (State.After.raise (h1.of_eq (t := s1.updMac mac _))).2


/-! ### Links that go down -/

/-- A link goes down: it and the frames lost are counted, and its bits are 0. -/
def State.linkCounted (s : State) (mac atPort n : Nat) : State :=
  (((((s.addStat mac 13 1).addStat mac 15 (min atPort n)).bumpBy F.SWC_LINK_DROP (n - min atPort n)).setBit (F.PRT_STAT_LINK (prtOf mac))
    (subOf mac) false).setBit (F.PRT_STAT_FEC_LOCK (prtOf mac)) (subOf mac) false)

theorem State.linkUp_linkCounted (s : State) {mac : Nat} (hm : mac < 32) (atPort n : Nat) : (s.linkCounted mac atPort n).linkUp mac = false :=
  (State.linkUp_wr _ _ _ (link_sparedBy_fecLock _ _)).trans (State.linkUp_setBit _ hm false)

theorem State.stat_linkCounted (s : State) (mac atPort n : Nat) :
    (s.linkCounted mac atPort n).stat mac 13 = (s.stat mac 13 + 1) % 2 ^ 64 := by
  simp only [State.linkCounted, State.setBit, State.bumpBy, State.stat_wr]
  rw [State.addStat, State.stat_setStat_other _ (by omega), State.stat_addStat_same]

theorem State.swq_setStat (s : State) (m i v : Nat) : (s.setStat m i v).swq = s.swq := rfl

theorem State.swq_linkCounted (s : State) (mac atPort n : Nat) : (s.linkCounted mac atPort n).swq = s.swq := by
  rw [State.linkCounted, State.setBit, State.wr_swq, State.setBit, State.wr_swq, State.bumpBy, State.wr_swq, State.addStat, State.swq_setStat,
    State.addStat, State.swq_setStat]

/-- The bits of Low Power Idle of a port in mode 4 are 0. -/
def State.idleCleared (s : State) (mac : Nat) : State :=
  if s.modeOf mac = 4 then (s.wr (F.PRT_STAT_LPI_TX (prtOf mac)) 0).wr (F.PRT_STAT_EEE_AN (prtOf mac)) 0 else s

theorem State.idleCleared_kept (s : State) (mac : Nat) : (s.idleCleared mac).linkUp mac = s.linkUp mac ∧
    (s.idleCleared mac).stat mac 13 = s.stat mac 13 ∧ (s.idleCleared mac).swq = s.swq := by
  unfold State.idleCleared
  split
  · exact ⟨(State.linkUp_wr _ _ _ (link_sparedBy_eeeAn _ _)).trans (State.linkUp_wr _ _ _ (link_sparedBy_lpiTx _ _)),
      (State.stat_wr ..).trans (State.stat_wr ..), (State.wr_swq ..).trans (State.wr_swq ..)⟩
  · exact ⟨rfl, rfl, rfl⟩

/-- A MAC as a lost link leaves it. -/
def State.macReset (s : State) (mac : Nat) : State :=
  s.updMac mac fun _ => { Mac.cold with idleSince := s.now, asked := (s.mac mac).asked }

theorem State.linkDown_eq {s : State} {mac : Nat} (hlink : s.linkUp mac = true) (atPort : Nat) : s.linkDown mac atPort =
    ((((((s.linkCounted mac atPort (s.swq.filter fun f => f.output == mac).length).lpiAccrue mac).idleCleared mac).macReset mac).freeFrames
      fun f => f.output == mac).raise (prtOf mac) 5 NOTICE 2 mac).groupDown mac := by
  unfold State.linkDown
  rw [hlink, if_neg (by decide)]
  rfl

/-- A link that goes down is counted, and the frames queued for it leave the buffer (R431). -/
theorem State.down_macLinkDown {s : State} {mac : Nat} (atPort : Nat) (hlink : s.linkUp mac = true) :
    Completes (.macLinkDown mac atPort) s fun t => t.linkUp mac = false ∧ t.stat mac 13 = (s.stat mac 13 + 1) % 2 ^ 64 ∧
      t.swq = s.swq.filter fun f => f.output != mac := by
  have hm := State.lt_of_linkUp hlink
  refine .of_exec (by rw [exec, execMacLinkDown]) ?_
  rw [State.linkDown_eq hlink]
  generalize (s.swq.filter fun f => f.output == mac).length = n
  have hcount := s.linkUp_linkCounted hm atPort n
  have hstat := s.stat_linkCounted mac atPort n
  have hswq := s.swq_linkCounted mac atPort n
  generalize s.linkCounted mac atPort n = s1 at *
  have hidle := (State.OnlyPauses.refl s1).lpiAccrue (m := mac)
  obtain ⟨hlink2, hstat2, hswq2⟩ := (s1.lpiAccrue mac).idleCleared_kept mac
  have hend := ((((((s1.lpiAccrue mac).idleCleared mac).macReset mac).onlyPauses_freeFrames fun f => f.output == mac).raise (b := prtOf mac)
    (loc := 5) (sev := NOTICE) (code := 2) (data := mac)).groupDown (m := mac))
  refine ⟨?_, ?_, ?_⟩
  · rw [hend.linkUp mac, State.linkUp_withSwq, State.macReset, State.linkUp_updMac, hlink2, hidle.linkUp mac, hcount]
  · rw [hend.stat mac 13 (by decide) (by decide) (by decide), State.stat_withSwq, State.macReset, State.stat_updMac, hstat2,
      hidle.stat mac 13 (by decide) (by decide) (by decide), hstat]
  · rw [hend.swq, State.withSwq, State.macReset, State.swq_updMac, hswq2, hidle.swq, hswq]
    rfl

/-! ### Reads of a statistic -/

theorem State.statRead_lo {s : State} {m : Nat} (hmac : s.hasMac m = true) (hlpi : (s.mac m).lpi = none) (path i : Nat) :
    s.statRead path m i false =
      ((s.latch path (prtOf m * 0x100000 + 0x1404 + 0x100 * subOf m + 8 * i) (s.stat m i / 2 ^ 32)).setStat m i 0, s.stat m i % 2 ^ 32) := by
  have haccrue : s.lpiAccrue m = s := by rw [State.lpiAccrue, hlpi]
  unfold State.statRead
  simp only [hmac, haccrue, Bool.not_true, Bool.false_eq_true, if_false]

/-- A read of the low half gives the count and clears it (R445). -/
theorem State.value_prtStatRead {s : State} {port sub idx : Nat} (path : Nat) (hport : port < 8) (hsub : sub < 4) (hidx : idx < 16)
    (hreload : s.reloading (8 + port) = false) (hmac : s.hasMac (4 * port + sub) = true) (hlpi : (s.mac (4 * port + sub)).lpi = none) :
    Completes (.prtStatRead path port sub idx false) s fun t => (newOut s t).contains (.value (s.stat (4 * port + sub) idx % 2 ^ 32)) = true ∧
      t.stat (4 * port + sub) idx = 0 := by
  have hargs : (decide (port < 8) && decide (sub < 4) && decide (idx < 16)) = true := by simp [hport, hsub, hidx]
  refine .of_exec (t := ((s.latch path (prtOf (4 * port + sub) * 0x100000 + 0x1404 + 0x100 * subOf (4 * port + sub) + 8 * idx)
    (s.stat (4 * port + sub) idx / 2 ^ 32)).setStat (4 * port + sub) idx 0).send (.value (s.stat (4 * port + sub) idx % 2 ^ 32))) ?_ ⟨?_, ?_⟩
  · simp only [exec, execPrtStatRead, hargs, hreload, State.statRead_lo hmac hlpi, Bool.not_true, Bool.false_eq_true, if_false]
  · exact contains_newOut_of_sent (u := s) (.refl s) (List.suffix_refl _)
  · rw [State.stat_send, State.stat_setStat_same, Nat.zero_mod]

end Sys2Proof.Machine

namespace Sys2Proof

open Machine

/-- Settles O33: each clause from what its command does to the MAC, and from what pause frames leave alone. -/
theorem macsAndLinks : Obligations.MacsAndLinks := by
  unfold Obligations.MacsAndLinks
  refine ⟨?_, ?_, ?_, ?_, ?_, ?_, ?_, ?_, ?_, ?_, ?_, ?_⟩
  · intro s mac eee hmac hlink
    exact State.linkUp_macLinkUp hmac hlink eee
  · intro s mac atPort hlink
    exact State.down_macLinkDown atPort hlink
  · intro s mac quanta hlink hmode hlen hign hq
    exact State.stops_pauseFrame hlink hmode hlen hign hq
  · intro s mac quanta c q hlist hlink hmode hc hbit hlen hign hq
    rw [hlist]
    exact State.stops_pfcFrame hlink hmode hc hbit hlen hign hq
  · intro s mac cls
    exact .of_exec rfl (State.stops_pauseTimeExpiry s mac cls)
  · intro s mac cls atPort hstuck
    exact State.ignore_pfcWatchdogDetect atPort hstuck
  · intro s mac cls hdue
    exact State.ignore_pfcWatchdogRestore hdue
  · intro s mac cls hlink hdue
    exact State.sent_pauseRepeatTimer hlink hdue
  · intro s mac cls hdue
    exact State.capped_pauseSendCap hdue
  · intro s mac rxTw hlink
    exact State.sent_lldpEeeTlv rxTw hlink
  · intro s mac hlink hmode hen heee hq hlpi hlen hdue
    refine .of_exec (t := (s.updMac mac fun x => { x with lpi := some s.now }).wr (F.PRT_STAT_LPI_TX (prtOf mac)) 1) ?_ ⟨?_, ?_⟩
    · simp only [exec, execLpiIdleExpiry, hlink, hmode, hen, heee, hq, hlpi, hdue, beq_self_eq_true, Bool.and_self, Bool.not_false,
        Option.isNone_none, if_true]
    · rw [State.mac_wr, State.mac_updMac_same hlen]
    · rw [State.isSet, State.rd_wr_same _ _ _ (Nat.le_refl 8) (by decide : 8 < 32)]
      rfl
  · intro s path port sub idx hport hsub hidx hreload hmac hlpi
    exact State.value_prtStatRead path hport hsub hidx hreload hmac hlpi

end Sys2Proof
end

section
/-!
The management paths: MCTP control, NVMe-MI and SMBus, then O47.
-/

-- One declaration at a time, as with the lemmas about a serving unit.
set_option Elab.async false

namespace Sys2Proof.Machine

/-- An occurrence below ERROR sends nothing. -/
theorem State.out_raise_of_ne (s : State) (b loc : Nat) {sev : Nat} (code data : Nat) (h : sev ≠ 3) :
    (s.raise b loc sev code data).out = s.out := by
  by_cases hoff : (s.benchAt b).state = .off
  · rw [s.raise_of_off b loc sev code data hoff]
  · obtain ⟨-, hr⟩ | ⟨-, bn, lost, -, -, hr⟩ := s.raise_cases b loc sev code data hoff
    · rw [hr, s.noteEvent_out b loc sev h]
    · rw [hr, State.bumpBy, State.wr_out, ← s.noteEvent_out b loc sev h]
      rfl

/-! ### Paths -/

/-- Whether a path is up depends on the start and on three bits. -/
theorem State.pathUp_of_eq {s t : State} (hboot : t.boot = s.boot) (hrd : ∀ g : Fld, 0x28 ≤ g.key % 0x100000 → t.rd g = s.rd g) (p : Nat) :
    t.pathUp p = s.pathUp p := by
  have hstep : ∀ n, t.stepDone n = s.stepDone n := fun n => by rw [State.stepDone, hboot, State.stepDone]
  have hset : ∀ g : Fld, 0x28 ≤ g.key % 0x100000 → t.isSet g = s.isSet g := fun g hg => by rw [State.isSet, hrd g hg, State.isSet]
  unfold State.pathUp
  rw [hboot, hstep, hstep, hset _ (by decide), hset _ (by decide), hset _ (by decide)]

theorem State.pathUp_raise (s : State) (b loc sev code data p : Nat) : (s.raise b loc sev code data).pathUp p = s.pathUp p :=
  State.pathUp_of_eq (s.raise_boot ..) (fun g hg => s.rd_raise_beyond _ _ _ _ _ g hg) p

/-- An MCTP control message is answered on a path that is up. -/
theorem State.control_of_pathUp {s : State} {path : Nat} (h : s.pathUp path = true) (command cc : Nat) (data : List Nat) :
    s.control path command cc data = s.send (.mctp path command cc data) := by
  rw [State.control, if_pos h]

theorem State.pathUp_assignEid (s : State) (p eid q : Nat) : (s.assignEid p eid).pathUp q = s.pathUp q := by
  rw [State.assignEid, State.pathUp_raise]
  rfl

theorem State.eid_assignEid {s : State} {p : Nat} (h : p < s.mgt.eids.length) (eid : Nat) : (s.assignEid p eid).eid p = eid := by
  rw [State.eid, State.assignEid, State.raise_mgt]
  simp [h]

/-- An NVMe-MI command on an open path that permits it is carried out. -/
theorem State.mi_of_permits {s : State} {path : Nat} (hopen : s.mctpOpen path = true) (hperm : s.permits path 5 = true) (opcode : Nat)
    (f : State → State) : s.mi path opcode f = f s := by
  rw [State.mi, hopen, hperm]
  rfl

/-- A frequency that is set is the port's. -/
theorem State.smbFreq_set {s : State} {port val : Nat} (hlen : port < s.mgt.freq.length) (hval : 1 ≤ val) (path opcode : Nat) (data : List Nat) :
    ((s.updMgt fun m => { m with freq := m.freq.set port val }).miOk path opcode data).smbFreq port = val := by
  have hget : (s.mgt.freq.set port val).getD port 0 = val := by simp [hlen]
  have hfreq : ((s.updMgt fun m => { m with freq := m.freq.set port val }).miOk path opcode data).mgt.freq = s.mgt.freq.set port val := rfl
  rw [State.smbFreq, hfreq, hget, if_neg (by omega)]

theorem F.key_CHN_SMB_TO (i : Nat) : (F.CHN_SMB_TO i).key = 0x304014 + 8 * i := rfl

end Sys2Proof.Machine

namespace Sys2Proof

open Machine

/-- Settles O47: a message on a path that is up, or open and permitted, is answered as its command says. -/
theorem mctp : Obligations.Mctp := by
  unfold Obligations.Mctp
  refine ⟨?_, ?_, ?_, ?_, ?_, ?_, ?_, ?_, ?_, ?_, ?_, ?_, ?_, ?_, ?_, ?_, ?_⟩
  · intro s path op eid hup hlen hop h0 h255
    have hans := State.control_of_pathUp ((s.pathUp_assignEid path eid path).trans hup) 1 0 [0, eid, 0]
    refine .of_exec (t := (s.assignEid path eid).send (.mctp path 1 0 [0, eid, 0])) ?_ ⟨?_, rfl⟩
    · simp only [exec, execMctpSetEndpointId, hup, hop, Nat.ne_of_gt h0, Nat.not_le.2 h255, Bool.not_true, Bool.false_eq_true, if_false, if_true,
        decide_false, Bool.or_self, hans]
    · exact State.eid_assignEid hlen eid
  · intro s path op eid hup hop hbad
    have hrefused : (decide (eid = 0) || decide (255 ≤ eid)) = true := by
      obtain rfl | rfl := hbad <;> decide
    refine .of_exec ?_ rfl
    simp only [exec, execMctpSetEndpointId, hup, hop, hrefused, Bool.not_true, Bool.false_eq_true, if_false, if_true,
      State.control_of_pathUp hup, State.send]
  · intro s path op eid hdown
    exact .of_exec (by simp only [exec, execMctpSetEndpointId, hdown, Bool.not_false, if_true]) rfl
  · intro s path hup hstatic
    exact .of_exec (by simp only [exec, execMctpGetEndpointId, hstatic, if_true, State.control_of_pathUp hup, State.send]) rfl
  · intro s path hup
    exact .of_exec (t := s.send (.mctp path 3 0 s.uuid)) (by rw [exec, execMctpGetEndpointUuid, State.control_of_pathUp hup]) ⟨rfl, rfl, rfl⟩
  · intro s path typ hup htyp
    have hbase : (decide (typ = 0xFF) || decide (typ = 0)) = true := by
      obtain rfl | rfl := htyp <;> decide
    exact .of_exec (by simp only [exec, execMctpGetVersionSupport, hbase, if_true, State.control_of_pathUp hup, State.send]) rfl
  · intro s path hup
    exact .of_exec (by rw [exec, execMctpGetMessageTypeSupport, State.control_of_pathUp hup, State.send]) rfl
  · intro s path selector hup hsel
    exact .of_exec (by rw [exec, execMctpGetVendorSupport, if_pos hsel, State.control_of_pathUp hup, State.send]) rfl
  · intro s port x hport hup hen hperm
    exact .of_exec (by simp only [exec, execNvmeMiBasicManagement, hport, hup, hen, hperm, decide_true, Bool.and_self, if_true, State.send]) rfl
  · intro s path typ port ctl hopen hperm htyp
    exact .of_exec (by rw [exec, execNvmeMiReadDataStructure, State.mi_of_permits hopen hperm, if_pos htyp, State.miOk, State.send]) rfl
  · intro s path typ port ctl hopen hperm htyp
    subst htyp
    exact .of_exec (by rw [exec, execNvmeMiReadDataStructure, State.mi_of_permits hopen hperm]; rfl) rfl
  · intro s path x hopen hperm
    exact .of_exec (t := (s.draw .unstated 65536).2.miOk path 1
        [s.healthBits, s.smartWarnings x, tempByte x.die, lifeByte x, (s.draw .unstated 65536).1])
      (by rw [exec, execNvmeMiSubsystemHealthPoll, State.mi_of_permits hopen hperm]; rfl) ⟨rfl, rfl, rfl, _, rfl⟩
  · intro s path first x hopen hperm hnone
    have hnone' : ∀ n, ({ s with freeCount := n } : State).epControllers first = [] := fun _ => hnone
    refine .of_exec (by rw [exec, execNvmeMiControllerHealthPoll, State.mi_of_permits hopen hperm]) ⟨rfl, ?_⟩
    simp only [State.draw, hnone']
    rfl
  · intro s path id port hopen hperm hid hport
    subst hid
    exact .of_exec (by
      simp only [exec, execNvmeMiConfigurationGet, State.mi_of_permits hopen hperm, hport, State.miOk, State.send, decide_true, Bool.and_self,
        if_true]
      rfl) rfl
  · intro s path id port val hopen hperm hid hport hlen hmin hmax
    have hvalid : (decide (id = 1) && decide (port < 2) && decide (1 ≤ val) && decide (val ≤ 3)) = true := by simp [hid, hport, hmin, hmax]
    refine .of_exec (t := (s.updMgt fun m => { m with freq := m.freq.set port val }).miOk path 3 []) ?_ ⟨?_, rfl⟩
    · rw [exec, execNvmeMiConfigurationSet, State.mi_of_permits hopen hperm, if_pos hvalid]
    · exact State.smbFreq_set hlen hmin path 3 []
  · intro s path id port val hopen hperm hid hval
    subst hid
    refine .of_exec (by
      simp only [exec, execNvmeMiConfigurationSet, State.mi_of_permits hopen hperm, hval, decide_false, Bool.and_false, Bool.false_eq_true,
        if_false, State.miBad, State.send]
      rfl) rfl
  · intro s port hport hen hon
    refine .of_exec (t := (s.bump (F.CHN_SMB_TO port)).raise 0 13 NOTICE 0x34 port) ?_ ⟨?_, ?_⟩
    · simp only [exec, execSmbusTimeout, hport, hen, decide_true, Bool.and_self, if_true]
    · rw [State.rd_raise_beyond _ _ _ _ _ _ _ (by rw [F.key_CHN_SMB_TO]; omega), State.bump, State.bumpBy,
        State.rd_wr_same _ _ _ (Nat.zero_le 31) (by decide : 31 < 32)]
      rfl
    · refine State.hasBit_raise _ 0 13 NOTICE 0x34 port (by decide) ?_
      rw [State.benchAt, State.bump, State.bumpBy_bench, ← State.benchAt]
      exact hon

end Sys2Proof
end

section
/-!
Vendor requests: how a request that its path takes is carried out and answered, then O46.
-/

-- One declaration at a time, as with the lemmas about a serving unit.
set_option Elab.async false

namespace Sys2Proof.Machine

/-! ### Taking and answering -/

/-- Where a vendor request of a path is answered. -/
def replyOn (path : Nat) (r : VendorReq) : ReplyTo := { partner := false, path := path, eid := r.eid, relay := 0 }

/-- Only the paths 0 to 2 carry MCTP. -/
theorem State.lt_three_of_mctpOpen {s : State} {path : Nat} (h : s.mctpOpen path = true) : path < 3 := by
  by_contra hge
  obtain ⟨p, rfl⟩ : ∃ p, path = p + 3 := ⟨path - 3, by omega⟩
  have hdown : s.pathUp (p + 3) = false := Bool.and_false _
  rw [State.mctpOpen, hdown, Bool.false_and] at h
  exact Bool.false_ne_true h

/-- The answer of a request on a path of this unit is a message on that path. -/
theorem State.answer_replyOn {s : State} {path : Nat} (h : path < 3) (r : VendorReq) (tag command cc detail : Nat) (body : List Nat) :
    s.answer (replyOn path r) tag command cc detail body = s.send (.vendor path r.eid tag (command + 0x80) cc detail body) := by
  have hown : (replyOn path r).partner = false := rfl
  have hpath : (replyOn path r).path ≠ 3 := Nat.ne_of_lt h
  rw [State.answer, hown, if_neg Bool.false_ne_true, if_neg hpath]
  rfl

/-- A path's packets with a good PEC pass; SMBus paths are 0 and 1. -/
theorem pecPasses {path : Nat} {pec : Bool} (h : 2 ≤ path ∨ pec = true) : (decide (path < 2) && !pec) = false := by
  obtain h | h := h
  · rw [decide_eq_false (Nat.not_lt.2 h), Bool.false_and]
  · rw [h, Bool.not_true, Bool.and_false]

/-- What `mgtTakes` says, taken apart. -/
structure Takes (s : State) (path command : Nat) (r : VendorReq) : Prop where
  serves : s.truOnly = false
  opened : s.mctpOpen path = true
  room : s.unanswered path < 4
  pec : 2 ≤ path ∨ r.pec = true
  whole : r.body.length ≤ 1016
  zero : r.zero = true
  own : r.unit = 0xFF
  formed : bodyCode command r.body = 0
  permitted : s.permits path (kindOf command) = true
  free : s.requestWaits (replyOn path r) command r.body = false

theorem takes_of_mgtTakes {s : State} {path command : Nat} {r : VendorReq} (h : mgtTakes s path command r = true) : Takes s path command r := by
  simp only [mgtTakes, Bool.and_eq_true, Bool.not_eq_true', Bool.or_eq_true, decide_eq_true_eq, beq_iff_eq] at h
  obtain ⟨⟨⟨⟨⟨⟨⟨⟨⟨h1, h2⟩, h3⟩, h4⟩, h5⟩, h6⟩, h7⟩, h8⟩, h9⟩, h10⟩ := h
  exact ⟨h1, h2, h3, h4, h5, h6, h7, h8, h9, h10⟩

/-- A request that its path takes is carried out at once. -/
theorem Takes.vendor {s : State} {path command : Nat} {r : VendorReq} (h : Takes s path command r) (unwraps : Bool) :
    s.vendor path command r unwraps = s.runRequest (replyOn path r) r.tag command unwraps r.body := by
  have hown : s.ownRequest (replyOn path r) r.tag command unwraps r.body = s.runRequest (replyOn path r) r.tag command unwraps r.body := by
    have hpermitted : s.permits (replyOn path r).path (kindOf command) = true := h.permitted
    simp only [State.ownRequest, h.formed, hpermitted, State.doRequest, h.free, bne_self_eq_false, Bool.not_true, Bool.false_eq_true, if_false]
  rw [← hown]
  simp only [State.vendor, pecPasses h.pec, Nat.not_lt.2 h.whole, h.serves, h.opened, Nat.not_le.2 h.room, h.zero, h.own, Bool.not_true,
    Bool.false_eq_true, if_false, decide_true, Bool.true_or, if_true, replyOn]

theorem Takes.lt_three {s : State} {path command : Nat} {r : VendorReq} (h : Takes s path command r) : path < 3 :=
  State.lt_three_of_mctpOpen h.opened

/-- A request is answered on its path. -/
theorem Takes.answer {s : State} {path command : Nat} {r : VendorReq} (h : Takes s path command r) (t : State) (tag cc detail : Nat)
    (body : List Nat) : t.answer (replyOn path r) tag command cc detail body = t.send (.vendor path r.eid tag (command + 0x80) cc detail body) :=
  State.answer_replyOn h.lt_three ..

/-! ### The ADMIN requests at the active -/

/-- A change at an active that neither mirrors nor copies is answered at once. -/
theorem Takes.adminChange {s : State} {path command : Nat} {r : VendorReq} (h : Takes s path command r) {u : State} {unwraps : Bool}
    {out : List Nat} (hactive : s.isActive = true) (hadmin : 0x12 < command)
    (hchange : (decide (command = 0x20) || decide (command = 0x21) || decide (command = 0x28)) = true)
    (hu : s.adminResult command unwraps r.body = (u, 0, 0, out)) (hpaired : u.paired = false) (hresync : u.pair.resync = none) :
    s.vendor path command r unwraps = u.send (.vendor path r.eid r.tag (command + 0x80) 0 0 out) := by
  have halso : ∀ b, u.mirrorAlso b = u := fun b => by rw [State.mirrorAlso, hresync]; rfl
  rw [h.vendor, State.runRequest, if_neg (by omega), if_neg (by omega), if_neg (by omega), State.adminByRole, hactive, State.adminRequest, hu]
  simp only [hchange, hpaired, halso, h.answer, decide_true, Bool.true_and, Bool.and_false, Bool.false_eq_true, if_false, if_true]

/-- An ADMIN request at the active that changes nothing is answered at once. -/
theorem Takes.adminAnswer {s : State} {path command : Nat} {r : VendorReq} (h : Takes s path command r) {unwraps : Bool} {cc detail : Nat}
    {out : List Nat} (hactive : s.isActive = true) (hadmin : 0x12 < command) (hu : s.adminResult command unwraps r.body = (s, cc, detail, out))
    (hkeeps : cc ≠ 0 ∨ (decide (command = 0x20) || decide (command = 0x21) || decide (command = 0x28)) = false) :
    s.vendor path command r unwraps = s.send (.vendor path r.eid r.tag (command + 0x80) cc detail out) := by
  have hno : (decide (cc = 0) && (decide (command = 0x20) || decide (command = 0x21) || decide (command = 0x28))) = false := by
    obtain hcc | hcommand := hkeeps
    · simp [hcc]
    · simp [hcommand]
  rw [h.vendor, State.runRequest, if_neg (by omega), if_neg (by omega), if_neg (by omega), State.adminByRole, hactive, State.adminRequest, hu]
  simp only [hno, h.answer, Bool.false_and, Bool.false_eq_true, if_false, if_true]

/-! ### Identities and profiles -/

theorem State.bindFunctions_idents (s : State) : s.bindFunctions.idents = s.idents := rfl

/-- An identity that is put is found under its index with what its entry says. -/
theorem State.ident_putIdent (s : State) (index e : Nat) :
    ((s.putIdent (parseIdent index e)).idents.find? fun z => z.index == index).any
      (fun z => z.nqn == bytesAt e 0 223 && z.tenant == bytesAt e 239 4) = true := by
  unfold State.putIdent
  extract_lets old i
  have hfields : i.index = index ∧ i.nqn = bytesAt e 0 223 ∧ i.tenant = bytesAt e 239 4 := by
    simp only [i]
    generalize old = o
    cases o <;> exact ⟨rfl, rfl, rfl⟩
  obtain ⟨hindex, hnqn, htenant⟩ := hfields
  have hgone : (s.idents.filter fun x => x.index != i.index).find? (fun z => z.index == index) = none := by
    rw [List.find?_eq_none]
    intro z hz
    rw [hindex, List.mem_filter] at hz
    simpa using hz.2
  rw [State.raise_idents, State.bindFunctions_idents]
  show ((s.idents.filter (fun x => x.index != i.index) ++ [i]).find? _).any _ = true
  rw [List.find?_append, hgone, Option.none_or, List.find?_cons, hindex, beq_self_eq_true, Option.any_some, hnqn, htenant, beq_self_eq_true,
    beq_self_eq_true, Bool.and_self]

/-- The pair's state and its bits are those from before an occurrence. -/
theorem State.paired_raise (s : State) (b loc sev code data : Nat) : (s.raise b loc sev code data).paired = s.paired := by
  rw [State.paired, State.isSet, State.rd_raise_beyond _ _ _ _ _ _ _ (by decide), State.rd_raise_beyond _ _ _ _ _ _ _ (by decide), State.paired,
    State.isSet]

theorem State.paired_putIdent (s : State) (i : Ident) : (s.putIdent i).paired = s.paired := State.paired_raise ..

theorem State.pair_putIdent (s : State) (i : Ident) : (s.putIdent i).pair = s.pair := State.raise_pair ..

/-- With no controller, namespace or window, an identity that is deregistered is only taken out. -/
theorem State.deregister_alone {s : State} (hctrls : s.ctrls = []) (hnss : s.nss = []) (hwindows : s.windows = []) (i : Nat) :
    s.deregister i = ({ s with idents := s.idents.filter fun x => x.index != i } : State).bindFunctions.raise 0 11 INFO 0x32 i := by
  have hrevoke : ∀ p, s.revokeWhere p = s := fun p => by rw [State.revokeWhere, hwindows, List.filter_nil, List.foldl_nil]
  unfold State.deregister
  simp only [hctrls, hnss, List.filter_nil, List.map_nil, List.foldl_nil, hrevoke]

/-- A profile that QOS_SET may set names a namespace. -/
theorem State.ns_of_qosRefusal {s : State} {id d : Nat} (h : s.qosRefusal true 0 id d = none) : ∃ n, s.ns? id = some n := by
  by_contra hnone
  have hnone' : s.ns? id = none := by
    cases hns : s.ns? id with
    | none => rfl
    | some n => exact absurd ⟨n, hns⟩ hnone
  unfold State.qosRefusal at h
  extract_lets n at h
  have hn : n = none := hnone'
  rw [hn] at h
  split at h
  · exact Option.some_ne_none _ h
  · split at h
    · exact Option.some_ne_none _ h
    · exact Option.some_ne_none _ h

/-- A namespace that is found has the profile that is set. -/
theorem State.profile_updNs {s : State} {id : Nat} (h : ∃ n, s.ns? id = some n) (p : Profile) {o : Out} :
    ((((s.updNs id fun n => { n with profile := p }).send o).ns? id).any fun z => z.profile == p) = true := by
  obtain ⟨n, hn⟩ := h
  have hfound : ((s.updNs id fun n => { n with profile := p }).send o).ns? id = (s.ns? id).map fun n => { n with profile := p } :=
    find?_mapIf (α := Namespace) (p := fun x => x.nsid == id) (f := fun n => { n with profile := p }) (fun _ ha => ha) s.nss
  rw [hfound, hn, Option.map_some, Option.any_some, beq_self_eq_true]

/-- One word read, as a read of several. -/
theorem State.readWords_one (s : State) (path addr : Nat) : s.readWords path addr 1 = ((s.regRead path addr).1, [(s.regRead path addr).2]) := rfl

/-- One word written, as a write of several. -/
theorem State.writeWords_one (s : State) (addr v : Nat) :
    s.writeWords addr [v] = ((s.regWrite addr v 0xFFFFFFFF).1, (s.regWrite addr v 0xFFFFFFFF).2) := by
  have hcode : ∀ c : Nat, (if (decide (0 = 5) || decide (c = 5)) = true then 5 else max 0 c) = c := fun c => by
    by_cases hc : c = 5 <;> simp [hc]
  simp only [State.writeWords, List.zipIdx_cons, List.zipIdx_nil, List.foldl_cons, List.foldl_nil, Nat.mul_zero, Nat.add_zero, hcode]

end Sys2Proof.Machine

namespace Sys2Proof

open Machine

/-- Settles O46: a request that its path takes is carried out and answered there; the others by the first test that fails. -/
theorem vendorRequests : Obligations.VendorRequests := by
  unfold Obligations.VendorRequests
  refine ⟨?_, ?_, ?_, ?_, ?_, ?_, ?_, ?_, ?_, ?_, ?_, ?_, ?_, ?_, ?_, ?_, ?_, ?_, ?_⟩
  · intro s path r htakes hcount
    have h := takes_of_mgtTakes htakes
    refine .of_exec ?_ rfl
    rw [exec, execMgtRegRead, h.vendor, State.runRequest, if_pos (by decide)]
    simp only [State.regRequest, hcount, State.readWords_one, h.answer, List.flatMap_cons, List.flatMap_nil, List.append_nil]
    rfl
  · intro s path r hserves hpec hwhole hopen hroom hzero hunit hformed hperm
    refine .of_exec ?_ rfl
    have hperm' : s.permits (replyOn path r).path (kindOf 1) = false := hperm
    have hanswer := State.answer_replyOn (s := s) (State.lt_three_of_mctpOpen hopen) r r.tag 1 4 0 []
    rw [exec, execMgtRegRead, State.vendor]
    simp only [pecPasses hpec, Nat.not_lt.2 hwhole, hserves, hopen, Nat.not_le.2 hroom, hzero, hunit, Bool.not_true, Bool.false_eq_true, if_false,
      decide_true, Bool.true_or, if_true]
    rw [← replyOn, State.ownRequest, hformed, bne_self_eq_false, if_neg Bool.false_ne_true, hperm', Bool.not_false, if_pos rfl, hanswer]
    rfl
  · intro s path r hserves hpec hwhole hopen hfull
    refine .of_exec ?_ rfl
    have hanswer := State.answer_replyOn (s := s) (State.lt_three_of_mctpOpen hopen) r r.tag 1 0x0C 0 []
    rw [exec, execMgtRegRead, State.vendor]
    simp only [pecPasses hpec, Nat.not_lt.2 hwhole, hserves, hopen, hfull, Bool.not_true, Bool.false_eq_true, if_false, if_true]
    exact congrArg _ hanswer
  · intro s path r htakes hcount
    have h := takes_of_mgtTakes htakes
    refine .of_exec ?_ rfl
    rw [exec, execMgtRegWrite, h.vendor, State.runRequest, if_pos (by decide)]
    have hwords : beWords (r.body.drop 8) 1 = [reqField r.body 8 4] := rfl
    simp only [State.regRequest, hcount, hwords, State.writeWords_one, h.answer]
  · intro s path r htakes
    have h := takes_of_mgtTakes htakes
    refine .of_exec ?_ rfl
    rw [exec, execMgtRegModify, h.vendor, State.runRequest, if_pos (by decide)]
    simp only [State.regRequest, h.answer]
    rfl
  · intro s path r htakes hon hroom hnew
    have h := takes_of_mgtTakes htakes
    refine .of_exec (t := ({ s with subs := s.subs ++ [⟨path, r.eid, reqField r.body 0 1, [], 0, none, 0, none⟩] } : State).send
      (.vendor path r.eid r.tag 0x90 0 0 [])) ?_ ⟨rfl, rfl, rfl⟩
    have hnew' : s.subs.any (fun x => x.is (replyOn path r).path (replyOn path r).eid) = false := hnew
    rw [exec, execMgtEvSubscribe, h.vendor, State.runRequest, if_neg (by decide), if_pos rfl]
    simp only [State.subscribe, hon, hnew', Nat.not_le.2 hroom, h.answer, beq_self_eq_true, Bool.not_true, Bool.false_eq_true, if_false]
    rfl
  · intro s path r htakes hoff
    have h := takes_of_mgtTakes htakes
    refine .of_exec ?_ rfl
    have hno : ((0 : Nat) == 1) = false := rfl
    rw [exec, execMgtEvSubscribe, h.vendor, State.runRequest, if_neg (by decide), if_pos rfl]
    simp only [State.subscribe, hoff, hno, h.answer, Bool.not_false, if_true]
    rfl
  · intro s path r htakes
    have h := takes_of_mgtTakes htakes
    refine .of_exec ?_ rfl
    rw [exec, execMgtLogRead, h.vendor, State.runRequest, if_neg (by decide), if_neg (by decide), if_pos rfl, h.answer]
    rfl
  · intro s path r unwraps htakes hactive hpaired hresync hstep hok
    have h := takes_of_mgtTakes htakes
    have hresult : s.adminResult 32 unwraps r.body = (s.putIdent (parseIdent (beNat (r.body.take 2)) (leNat (r.body.drop 4))), 0, 0, []) := by
      simp only [State.adminResult, hstep, hok, Bool.not_true, Bool.and_false, Bool.false_eq_true, if_false]
    refine .of_exec (t := (s.putIdent (parseIdent (beNat (r.body.take 2)) (leNat (r.body.drop 4)))).send (.vendor path r.eid r.tag 0xA0 0 0 []))
      ?_ ⟨?_, rfl⟩
    · rw [exec, execMgtIdentSet, h.adminChange hactive (by decide) (by decide) hresult (by rw [State.paired_putIdent, hpaired])
        (by rw [State.pair_putIdent, hresync])]
    · rw [State.send_idents]
      exact s.ident_putIdent (beNat (r.body.take 2)) (leNat (r.body.drop 4))
  · intro s path r unwraps x htakes hactive hstep hrefused
    have h := takes_of_mgtTakes htakes
    have hresult : s.adminResult 32 unwraps r.body = (s, 0x0B, x, []) := by
      simp only [State.adminResult, hstep, hrefused, Bool.not_true, Bool.and_false, Bool.false_eq_true, if_false]
    exact .of_exec (by rw [exec, execMgtIdentSet, h.adminAnswer hactive (by decide) hresult (.inl (by decide))]; rfl) rfl
  · intro s path r htakes hactive hpaired hresync hstep hindex hheld hctrls hnss hwindows
    have h := takes_of_mgtTakes htakes
    have hresult : s.adminResult 33 false r.body = (s.deregister (beNat (r.body.take 2)), 0, 0, []) := by
      simp only [State.adminResult, hstep, hheld, Nat.not_lt.2 hindex, Bool.not_true, Bool.and_false, Bool.false_eq_true, if_false, if_true]
    have hgone := State.deregister_alone hctrls hnss hwindows (beNat (r.body.take 2))
    refine .of_exec (t := (s.deregister (beNat (r.body.take 2))).send (.vendor path r.eid r.tag 0xA1 0 0 [])) ?_ ⟨?_, rfl⟩
    · rw [exec, execMgtIdentDereg, h.adminChange hactive (by decide) (by decide) hresult (by rw [hgone, State.paired_raise]; exact hpaired)
        (by rw [hgone, State.raise_pair]; exact hresync)]
    · rw [hgone, State.send_idents, State.raise_idents, State.bindFunctions_idents]
  · intro s path r htakes hactive hstep hindex
    have h := takes_of_mgtTakes htakes
    have hresult : s.adminResult 34 false r.body =
        (s, 0, 0, toBytes (((s.idents.find? fun x => x.index == beNat (r.body.take 2)).map identBytes).getD 0) 512) := by
      simp only [State.adminResult, hstep, Nat.not_lt.2 hindex, Bool.not_true, Bool.and_false, Bool.false_eq_true, if_false]
    exact .of_exec (by rw [exec, execMgtIdentGet, h.adminAnswer hactive (by decide) hresult (.inr (by decide))]; rfl) rfl
  · intro s path r htakes hscope hactive hpaired hresync hok
    have h := takes_of_mgtTakes htakes
    have hresult : s.adminResult 40 false r.body = (s.updNs (beNat ((r.body.drop 4).take 4)) fun n =>
        { n with profile := parseProfile (leNat (r.body.drop 8)) }, 0, 0, []) := by
      simp only [State.adminResult, hscope, hok, State.qosSet, if_true]
      rfl
    refine .of_exec (t := (s.updNs (beNat ((r.body.drop 4).take 4)) fun n =>
      { n with profile := parseProfile (leNat (r.body.drop 8)) }).send (.vendor path r.eid r.tag 0xA8 0 0 [])) ?_ ⟨?_, rfl⟩
    · rw [exec, execMgtQosSet, h.adminChange hactive (by decide) (by decide) hresult hpaired hresync]
    · exact State.profile_updNs (State.ns_of_qosRefusal hok) _
  · intro s path r htakes hactive hok
    have h := takes_of_mgtTakes htakes
    have hresult : s.adminResult 41 false r.body = (s, 0, 0, toBytes (s.qosGet (r.body.getD 0 0) (beNat ((r.body.drop 4).take 4))) 64) := by
      simp only [State.adminResult, hok]
      rfl
    exact .of_exec (by rw [exec, execMgtQosGet, h.adminAnswer hactive (by decide) hresult (.inr (by decide))]; rfl) rfl
  · intro s path eid x hsubs hx
    refine .of_exec ?_ rfl
    simp only [exec, execEvNotifyResponse, hsubs, mapIf, List.map_cons, List.map_nil, hx, if_true]
  · intro s path eid x hsubs hx hidle hqueue hopen
    have hfind : s.subs.find? (fun x => x.is path eid) = some x := by rw [hsubs, List.find?_cons, hx]
    obtain ⟨hpath, heid⟩ : x.path = path ∧ x.eid = eid := by simpa [Subscriber.is] using hx
    have hself : x.is x.path x.eid = true := by rw [hpath, heid, hx]
    have hnonempty : x.queue.isEmpty = false := by simpa using hqueue
    refine .of_exec ?_ rfl
    rw [exec, execEvNotifyTimer, hfind]
    simp only [hidle, State.notify, hnonempty, hpath, heid, hopen, Bool.not_true, Bool.or_self, Bool.false_eq_true, if_false, State.send, hsubs,
      mapIf, List.map_cons, List.map_nil, hx, if_true]
    rfl
  · intro s path eid x y hsubs hx hsent hmissed hdue hon
    have hnone : ({ s with subs := s.subs.filter fun x => !x.is path eid } : State).subs = [] := by
      show s.subs.filter _ = []
      rw [hsubs, List.filter_cons, hx]
      rfl
    refine .of_exec (t := ({ s with subs := s.subs.filter fun x => !x.is path eid } : State).raise 0 10 NOTICE 0x31 (subData path eid)) ?_
      ⟨(State.raise_subs ..).trans hnone, State.out_raise_of_ne _ _ _ _ _ (by decide), State.hasBit_raise _ 0 10 NOTICE 0x31 _ (by decide) hon⟩
    have hfind : s.subs.find? (fun x => x.is path eid) = some x := by rw [hsubs, List.find?_cons, hx]
    simp only [exec, execEvNotifyTimer, hfind, hsent, hdue, hmissed, Bool.not_true, Bool.false_eq_true, if_false, if_true]
  · intro s tag x hrelays htag hdue
    have hfind : s.mgt.relays.find? (fun r => r.tag == tag) = some x := by rw [hrelays, List.find?_cons, htag, beq_self_eq_true]
    have hdrop : s.mgt.relays.filter (fun r => r.tag != tag) = [] := by simp [hrelays, htag]
    refine .of_exec ?_ rfl
    simp only [exec, execRelayTimeout, hfind, hdue, if_true, State.updMgt, State.send, hdrop]
  · intro s tag hrelays
    exact .of_exec (by simp only [exec, execRelayTimeout, hrelays, List.find?_nil]) rfl

end Sys2Proof
end

section
/-!
Refutation of O35: a reset of a function's controller tells hosts of a group's health on the way.
-/

-- One declaration at a time, as with the lemmas about a serving unit.
set_option Elab.async false

namespace Sys2Proof.Machine

/-- A write of function 0 whose one block stands in a stripe that holds nothing else. -/
def lastWrite : Cmd := { Tests.fwCmd with nv := { Tests.epAdm 0x01 with qid := 1, nsid := 1 } }

/-- An Asynchronous Event Request of function 0 that waits. -/
def waitingAer : Cmd := { Tests.fwCmd with id := 2, nv := Tests.epAdm 0x0C }

/-- A unit whose endpoint's function 0 has the write and the request in flight, and has asked for notices of a group's health, which group 0
has still to report. -/
def noticeState : State :=
  { Tests.epUp with
    ctrls := [{ Tests.epCtrl with aers := [2], features := [(0x0B, 2 ^ 17)] }]
    cmds := [lastWrite, waitingAer]
    stripes := [{ Tests.stripe0 with state := .live, blocks := [Tests.sblock 0 0 (.cmd 1 0)] }]
    groups := { Tests.group0 with c2state := 9 } :: List.replicate 7 Group.cold }

/-- The outcome is a next state in which a completion has been written to the admin completion queue of function 0. -/
def movesAdminTail (o : Host.Outcome State Fault Refusal) : Bool :=
  match o with
  | .next t => (t.ctrl? 16383).all fun k => k.queues.any fun q => q.qid == 0 && q.tail == 1
  | _ => false

end Sys2Proof.Machine

namespace Sys2Proof

open Machine

/-- Refutes O35: the reset discards a write, so that its stripe is free and the group's state is brought in line (R321); the notice of it
(R197) completes the function's event request, which moves the tail of the admin completion queue that the reset keeps. -/
theorem not_endpointRegisters : ¬Obligations.EndpointRegisters := by
  rintro ⟨-, -, -, -, -, hclear, -⟩
  obtain ⟨t, hexec, hkept⟩ := hclear noticeState 0 { Tests.epCtrl with aers := [2], features := [(0x0B, 2 ^ 17)] } (by decide +kernel)
    (by decide +kernel) (by decide +kernel) rfl (by decide +kernel)
  have hmoved : movesAdminTail (exec (.epCcEnClear 0) noticeState) = true := by decide +kernel
  have hidx : noticeState.epIdx 0 = 16383 := by decide +kernel
  rw [hexec, movesAdminTail] at hmoved
  rw [hidx] at hkept
  cases hctrl : t.ctrl? 16383 with
  | none => rw [hctrl] at hkept; exact absurd hkept (by decide)
  | some k =>
    rw [hctrl, Option.any_some, Bool.and_eq_true, beq_iff_eq] at hkept
    rw [hctrl, Option.all_some, hkept.2] at hmoved
    exact absurd hmoved (by decide +kernel)

end Sys2Proof
end

section
/-!
Requests of the endpoint: what its functions, queues and reads keep, then O36.
-/

-- One declaration at a time, as with the lemmas about a serving unit.
set_option Elab.async false

namespace Sys2Proof.Machine

namespace State.Keeps

variable {s t : State} {K : Nat}

theorem cmds_eq (h : t.Keeps K s) (hK : K.testBit 26 = false := by decide) : t.cmds = s.cmds :=
  (congrArg State.cmds h.pieces).symm.trans (by simp only [State.blend, hK, cond_false])

theorem ctrls_eq (h : t.Keeps K s) (hK : K.testBit 23 = false := by decide) : t.ctrls = s.ctrls :=
  (congrArg State.ctrls h.pieces).symm.trans (by simp only [State.blend, hK, cond_false])

theorem nextCmd_eq (h : t.Keeps K s) (hK : K.testBit 30 = false := by decide) : t.nextCmd = s.nextCmd :=
  (congrArg State.nextCmd h.pieces).symm.trans (by simp only [State.blend, hK, cond_false])

theorem epfs_eq (h : t.Keeps K s) (hK : K.testBit 91 = false := by decide) : t.epfs = s.epfs :=
  (congrArg State.epfs h.pieces).symm.trans (by simp only [State.blend, hK, cond_false])

theorem epReads_eq (h : t.Keeps K s) (hK : K.testBit 92 = false := by decide) : t.epReads = s.epReads :=
  (congrArg State.epReads h.pieces).symm.trans (by simp only [State.blend, hK, cond_false])

theorem epFetches_eq (h : t.Keeps K s) (hK : K.testBit 93 = false := by decide) : t.epFetches = s.epFetches :=
  (congrArg State.epFetches h.pieces).symm.trans (by simp only [State.blend, hK, cond_false])

theorem tim_eq (h : t.Keeps K s) (hK : K.testBit 8 = false := by decide) : t.tim = s.tim :=
  (congrArg State.tim h.pieces).symm.trans (by simp only [State.blend, hK, cond_false])

end State.Keeps

/-! ### Submission queues -/

/-- Head of a submission queue, and whether it asks for authentication first. -/
def Queue.front (q : Queue) : Nat × Bool := (q.head, q.authReq)

/-- The front of a submission queue of a controller. -/
def State.sqFront (s : State) (ctl qid : Nat) : Option (Nat × Bool) := ((s.ctrl? ctl).bind fun k => k.queue? qid).map Queue.front

theorem State.sqFront_of_ctrls {s t : State} (h : t.ctrls = s.ctrls) (ctl qid : Nat) : t.sqFront ctl qid = s.sqFront ctl qid := by
  rw [State.sqFront, State.ctrl?, h]
  rfl

/-- A change of the controllers that leaves their numbers and the fronts of their queues. -/
theorem State.sqFront_of_map {s t : State} {g : Ctrl → Ctrl} (h : t.ctrls = s.ctrls.map g) (hindex : ∀ k, (g k).index = k.index)
    (hfront : ∀ k qid, ((g k).queue? qid).map Queue.front = (k.queue? qid).map Queue.front) (ctl qid : Nat) :
    t.sqFront ctl qid = s.sqFront ctl qid := by
  have hsame : ((fun x : Ctrl => x.index == ctl) ∘ g) = fun x => x.index == ctl := funext fun k => by rw [Function.comp, hindex]
  rw [State.sqFront, State.sqFront, State.ctrl?, State.ctrl?, h, List.find?_map, hsame]
  cases s.ctrls.find? fun x => x.index == ctl with
  | none => rfl
  | some k => exact hfront k qid

theorem mapIf_eq_map {α : Type} (p : α → Bool) (f : α → α) (l : List α) : mapIf p f l = l.map fun a => if p a then f a else a := rfl

/-- A change of one controller that leaves its number and its queues' fronts. -/
theorem State.sqFront_updCtrl (s : State) (i : Nat) {f : Ctrl → Ctrl} (hindex : ∀ k, (f k).index = k.index)
    (hfront : ∀ k qid, ((f k).queue? qid).map Queue.front = (k.queue? qid).map Queue.front) (ctl qid : Nat) :
    (s.updCtrl i f).sqFront ctl qid = s.sqFront ctl qid := by
  refine State.sqFront_of_map (g := fun k => if k.index == i then f k else k) rfl (fun k => ?_) (fun k q => ?_) ctl qid
  · by_cases hk : k.index == i <;> simp only [hk, if_true, if_false, Bool.false_eq_true, hindex]
  · by_cases hk : k.index == i <;> simp only [hk, if_true, if_false, Bool.false_eq_true, hfront]

/-- A change of a submission queue that leaves its number and its front. -/
theorem State.sqFront_updQueue (s : State) (i j : Nat) {f : Queue → Queue} (hf : ∀ q, (f q).qid = q.qid ∧ (f q).isCq = q.isCq ∧ (f q).front = q.front)
    (ctl qid : Nat) : (s.updQueue i j f).sqFront ctl qid = s.sqFront ctl qid := by
  refine State.sqFront_updCtrl s i (f := fun c => { c with queues := mapIf (fun x => x.qid == j && !x.isCq) f c.queues }) (fun _ => rfl)
    (fun k q => ?_) ctl qid
  have hsame : ((fun x : Queue => x.qid == q && !x.isCq) ∘ fun a => if a.qid == j && !a.isCq then f a else a) = fun x => x.qid == q && !x.isCq := by
    funext a
    obtain ⟨hqid, hcq, -⟩ := hf a
    simp only [Function.comp]
    split
    · rw [hqid, hcq]
    · rfl
  simp only [Ctrl.queue?, mapIf_eq_map, List.find?_map, hsame, Option.map_map]
  congr 1
  funext a
  simp only [Function.comp]
  split
  · exact (hf a).2.2
  · rfl

theorem State.sqFront_syncReady (s : State) (ctl qid : Nat) : s.syncReady.sqFront ctl qid = s.sqFront ctl qid :=
  State.sqFront_of_map (g := fun k =>
    if k.func.isSome && hasBit k.cc 0 && bits k.csts 1 0 == 0 && !s.cmds.any (fun c => c.nv.ctl == 4294967296 + k.index)
    then { k with csts := k.csts + 1 } else k) rfl (fun k => by split <;> rfl) (fun k q => by split <;> rfl) ctl qid

theorem State.sqFront_syncCmds (s : State) (ctl qid : Nat) : s.syncCmds.sqFront ctl qid = s.sqFront ctl qid := by
  unfold State.syncCmds
  extract_lets s1 full s2 s3
  have h2 : s2.sqFront ctl qid = s.sqFront ctl qid := (State.sqFront_of_ctrls (s1.wr_ctrls _ _) ctl qid).trans (s.sqFront_syncReady ctl qid)
  split
  · refine (State.sqFront_of_ctrls ?_ ctl qid).trans h2
    have h := State.Keeps.foldl (m := 0x1ffffffffffff03000000d00000000000000000002402) (l := List.range (s3.rd F.EPT_STAT_NUM_VF + 1))
      (g := fun s f => s.epFetchAll f) (State.Keeps.restoreCredits (.refl _ s3) (Covers.mono (.refl _))) fun a x ha => ha.epFetchAll (Covers.mono (.refl _))
    exact h.ctrls_eq
  · exact h2

/-! ### A command is accepted -/

/-- A command capsule on a queue of a controller that is not shut down is in flight under the next number. -/
theorem State.accept_of {s : State} {v : NvmeCmd} {k : Ctrl} {q : Queue} (hk : s.ctrl? v.ctl = some k) (hq : s.queueOf v = some q)
    (hshut : k.shutdown = false) : ∃ (c : Cmd) (t : State), s.accept v = (some s.nextCmd, t) ∧ t.cmds = s.cmds ++ [c] ∧ c.id = s.nextCmd ∧
      c.nv = v ∧ c.phase = .delivered ∧ c.result = none ∧ ∀ ctl qid, t.sqFront ctl qid = s.sqFront ctl qid := by
  have hrx : (s.bumpCmd F.CMD_RX v).Keeps 0x2000000000000000000000000000002 s := (State.Keeps.refl _ s).bumpCmd fun _ => .anyWord (.refl _)
  unfold State.accept
  simp -zeta only [hk, hq]
  extract_lets s1 id inCap c s2 was s3 s4
  have hnext : s1.nextCmd = s.nextCmd := hrx.nextCmd_eq
  have hcmds1 : s1.cmds = s.cmds := hrx.cmds_eq
  have hfront1 : ∀ ctl qid, s1.sqFront ctl qid = s.sqFront ctl qid := fun ctl qid =>
    (State.sqFront_updCtrl _ _ (f := fun x => { x with lastCmd := s.now }) (fun _ => rfl) (fun _ _ => rfl) ctl qid).trans
      (State.sqFront_of_ctrls hrx.ctrls_eq ctl qid)
  have h3 : s3.Keeps 0x1ffffffffffff03000000000000010000000000000486 s2.syncCmds := (State.Keeps.refl _ s2.syncCmds).inflightCheck (.refl _)
  have h4 : s4.Keeps 0x1ffffffffffff03000000000000010000000000000486 s2.syncCmds :=
    .ite (h3.bumpCmd fun _ => .anyWord (.mono (.refl _))) h3
  have hsync : s2.syncCmds.cmds = s2.cmds := (State.Keeps.syncCmds (.refl _ s2) (.refl _)).cmds_eq
  refine ⟨c, s4, ?_, ?_, hnext, rfl, rfl, rfl, fun ctl qid => ?_⟩
  · rw [hshut, if_neg Bool.false_ne_true, ← hnext]
  · rw [h4.cmds_eq, hsync, ← hcmds1]
  · have h2 : s2.sqFront ctl qid = s1.sqFront ctl qid := State.sqFront_of_ctrls rfl ctl qid
    rw [State.sqFront_of_ctrls h4.ctrls_eq, State.sqFront_syncCmds, h2, hfront1]


/-! ### An entry becomes a command -/

theorem State.sqFront_chargeConn (s : State) (i j : Nat) (x : Charge) (ctl qid : Nat) :
    (s.chargeConn i j x).2.sqFront ctl qid = s.sqFront ctl qid := by
  unfold State.chargeConn
  split
  · split
    · rfl
    · exact s.sqFront_updQueue i j (f := fun y => { y with tats := y.tats.push y.profile x s.now }) (fun _ => ⟨rfl, rfl, rfl⟩) ctl qid
  · rfl

theorem State.sqFront_stampCmd (s : State) (id ctl qid : Nat) : (s.stampCmd id).sqFront ctl qid = s.sqFront ctl qid := by
  unfold State.stampCmd
  split
  · rfl
  · split
    · rfl
    · exact s.sqFront_chargeConn ..

/-- A command is in flight as it was delivered. -/
def State.delivered (s : State) (id : Nat) (v : NvmeCmd) : Prop :=
  (s.cmd? id).any (fun c => c.nv == v && c.phase == .delivered && c.result.isNone) = true

theorem State.delivered_of_cmds {s t : State} (h : t.cmds = s.cmds) {id : Nat} {v : NvmeCmd} (hs : s.delivered id v) : t.delivered id v := by
  rw [State.delivered, State.cmd?, h]
  exact hs

/-- A change of a command that leaves what it asks for, its phase and its result. -/
theorem State.delivered_updCmd {s : State} {id : Nat} {v : NvmeCmd} (hs : s.delivered id v) {f : Cmd → Cmd}
    (hf : ∀ c, (f c).id = c.id ∧ (f c).nv = c.nv ∧ (f c).phase = c.phase ∧ (f c).result = c.result) : (s.updCmd id f).delivered id v := by
  have hfound : (s.updCmd id f).cmd? id = (s.cmd? id).map f := find?_mapIf (α := Cmd) (p := fun x => x.id == id)
    (fun a ha => by rw [(hf a).1]; exact ha) s.cmds
  rw [State.delivered] at hs ⊢
  rw [hfound]
  cases hc : s.cmd? id with
  | none => rw [hc] at hs; exact hs
  | some c =>
    obtain ⟨-, hnv, hphase, hresult⟩ := hf c
    rw [hc] at hs
    rw [Option.map_some, Option.any_some, hnv, hphase, hresult]
    exact hs

theorem State.delivered_stampCmd {s : State} {id : Nat} {v : NvmeCmd} (hs : s.delivered id v) : (s.stampCmd id).delivered id v := by
  unfold State.stampCmd
  split
  · exact hs
  · split
    · exact hs
    · exact State.delivered_updCmd (State.delivered_of_cmds (State.Keeps.chargeConn (.refl _ s) (.refl _)).cmds_eq hs) fun _ => ⟨rfl, rfl, rfl, rfl⟩

/-- A read that an endpoint queue delivers is in flight, and the fronts of the queues stay. -/
theorem State.deliverIo_endpoint {s : State} {v : NvmeCmd} {k : Ctrl} {q : Queue} (hk : s.ctrl? v.ctl = some k) (hq : s.queueOf v = some q)
    (hshut : k.shutdown = false) (hconn : q.conn = none) (hauth : q.authReq = false) (hopc : v.opc = 2) (hnew : (s.cmd? s.nextCmd).isNone = true) :
    (s.deliverIo v).delivered s.nextCmd v ∧ ∀ ctl qid, (s.deliverIo v).sqFront ctl qid = s.sqFront ctl qid := by
  obtain ⟨c, t, haccept, hcmds, hid, hnv, hphase, hresult, hfront⟩ := State.accept_of hk hq hshut
  have hfull : s.overQueue v = false := by rw [State.overQueue, hq]; simp [hconn]
  have hdelivered : t.delivered s.nextCmd v := by
    have hnone : s.cmds.find? (fun x => x.id == s.nextCmd) = none := by simpa [State.cmd?] using hnew
    rw [State.delivered, State.cmd?, hcmds, List.find?_append, hnone, Option.none_or, List.find?_cons, hid, beq_self_eq_true, Option.any_some, hnv,
      hphase, hresult]
    simp
  have hauth' : t.needsAuth v = false := by
    have h := hfront v.ctl v.qid
    have hs : s.sqFront v.ctl v.qid = some q.front := by rw [State.sqFront, ← State.queueOf, hq]; rfl
    rw [hs, State.sqFront, ← State.queueOf] at h
    rw [State.needsAuth]
    cases hqt : t.queueOf v with
    | none => rfl
    | some y =>
      rw [hqt, Option.map_some] at h
      have hy : y.authReq = q.authReq := congrArg Prod.snd (Option.some.inj h)
      simp only [hy, hauth, Bool.false_and]
  have hdeliver : s.deliverIo v = t.stampCmd s.nextCmd := by
    unfold State.deliverIo
    rw [haccept]
    simp only [hfull, hopc, hauth']
    rfl
  rw [hdeliver]
  exact ⟨State.delivered_stampCmd hdelivered, fun ctl qid => (t.sqFront_stampCmd ..).trans (hfront ctl qid)⟩

theorem State.mirrorNote_cmds (s : State) (b : MirrorBody) : (s.mirrorNote b).cmds = s.cmds := (State.Keeps.mirrorNote (.refl _ s) (.refl _)).cmds_eq

theorem State.mirrorNote_ctrls (s : State) (b : MirrorBody) : (s.mirrorNote b).ctrls = s.ctrls := (State.Keeps.mirrorNote (.refl _ s) (.refl _)).ctrls_eq

/-- The endpoint notes that a command came. -/
def State.epNoted (s : State) : State :=
  let s : State := { s with epCmdAt := s.now }
  if s.epLtrActive then s else State.send { s with epLtrActive := true } (.ltr (s.rd F.EPT_PM_CFG_LTR_ACT_US))

theorem State.epNoted_kept (s : State) : s.epNoted.cmds = s.cmds ∧ s.epNoted.ctrls = s.ctrls ∧ s.epNoted.nextCmd = s.nextCmd := by
  unfold State.epNoted
  extract_lets s1
  split <;> exact ⟨rfl, rfl, rfl⟩

/-- An entry that is a read of an I/O queue is in flight as it was fetched. -/
theorem State.epRun_read {s : State} {v : NvmeCmd} {k : Ctrl} {q : Queue} (hk : s.ctrl? v.ctl = some k) (hq : s.queueOf v = some q)
    (hshut : k.shutdown = false) (hconn : q.conn = none) (hauth : q.authReq = false) (hopc : v.opc = 2) (hqid : v.qid ≠ 0)
    (hnew : (s.cmd? s.nextCmd).isNone = true) :
    (s.epRun v).delivered s.nextCmd v ∧ ∀ ctl qid, (s.epRun v).sqFront ctl qid = s.sqFront ctl qid := by
  obtain ⟨hcmds, hctrls, hnext⟩ := s.epNoted_kept
  have hk' : s.epNoted.ctrl? v.ctl = some k := by rw [State.ctrl?, hctrls]; exact hk
  have hq' : s.epNoted.queueOf v = some q := by rw [State.queueOf, State.ctrl?, hctrls]; exact hq
  have hnew' : (s.epNoted.cmd? s.epNoted.nextCmd).isNone = true := by rw [State.cmd?, hcmds, hnext]; exact hnew
  obtain ⟨hdelivered, hfront⟩ := State.deliverIo_endpoint hk' hq' hshut hconn hauth hopc hnew'
  have hrun : (if v.qid = 0 && (v.opc = 0x00 || v.opc = 0x01 || v.opc = 0x04 || v.opc = 0x05) then s.epNoted.queueCmd v
      else if v.opc = 0x7F then s.epNoted.admin v fun c s => s.finish c.id 0 St.opcode
      else s.epNoted.commandRun 0 v) = s.epNoted.deliverIo v := by
    rw [State.commandRun, hopc]
    simp [hqid, resvOpcode]
  have hnote : s.epRun v = match (s.epNoted.deliverIo v).cmd? s.nextCmd with
      | some c => (s.epNoted.deliverIo v).mirrorNote (.slot c none)
      | none => s.epNoted.deliverIo v := by
    rw [← hrun, ← hnext]
    rfl
  rw [hnext] at hdelivered
  have hfront' : ∀ ctl qid, (s.epNoted.deliverIo v).sqFront ctl qid = s.sqFront ctl qid := fun ctl qid =>
    (hfront ctl qid).trans (State.sqFront_of_ctrls hctrls ctl qid)
  rw [hnote]
  split
  · exact ⟨State.delivered_of_cmds (State.mirrorNote_cmds ..) hdelivered, fun ctl qid =>
      (State.sqFront_of_ctrls (State.mirrorNote_ctrls ..) ctl qid).trans (hfront' ctl qid)⟩
  · exact ⟨hdelivered, hfront'⟩

theorem State.epFetchSq_kept (s : State) (f qid : Nat) : (s.epFetchSq f qid).cmds = s.cmds ∧ (s.epFetchSq f qid).ctrls = s.ctrls :=
  have h : (s.epFetchSq f qid).Keeps _ s := State.Keeps.epFetchSq (.refl _ s) (.refl _)
  ⟨h.cmds_eq, h.ctrls_eq⟩

/-! ### Functions, reads and fetches -/

/-- Whether a function masters the bus and whether it is in D3hot. -/
def EpFunc.mode (x : EpFunc) : Bool × Bool := (x.bme, x.d3)

theorem State.epf_updEpf_same (s : State) {f : Nat} {g : EpFunc → EpFunc} (hf : f < s.epfs.length) : (s.updEpf f g).epf f = g (s.epf f) := by
  simp [State.epf, State.updEpf, List.getD_eq_getElem?_getD, hf]

/-- A change of a function that leaves its mode. -/
theorem State.mode_updEpf (s : State) (i : Nat) {g : EpFunc → EpFunc} (hg : ∀ x, (g x).mode = x.mode) (f : Nat) :
    ((s.updEpf i g).epf f).mode = (s.epf f).mode := by
  simp only [State.epf, State.updEpf, List.getD_eq_getElem?_getD, List.getElem?_modify]
  split
  · cases s.epfs[f]? with
    | none => rfl
    | some x => exact hg x
  · cases s.epfs[f]? <;> rfl

theorem State.mode_hold (s : State) (i : Nat) (l : EpFunc → List Out) (f : Nat) :
    ((s.updEpf i fun x => { x with held := l x }).epf f).mode = (s.epf f).mode := s.mode_updEpf i (g := fun x => { x with held := l x }) (fun _ => rfl) f

theorem State.epf_of_epfs {s t : State} (h : t.epfs = s.epfs) (f : Nat) : t.epf f = s.epf f := by rw [State.epf, h, State.epf]

theorem State.mode_epInterrupt (s : State) (i v f : Nat) : ((s.epInterrupt i v).epf f).mode = (s.epf f).mode := by
  unfold State.epInterrupt
  split
  · rfl
  · exact s.mode_updEpf i (g := fun x => { x with pba := (v :: x.pba).dedup }) (fun _ => rfl) f

theorem State.mode_epEntry {s t : State} {i ctl qid : Nat} {o : Out} (h : s.epEntry i ctl qid o = some t) (f : Nat) :
    (t.epf f).mode = (s.epf f).mode := by
  unfold State.epEntry at h
  split at h
  · cases h
    rfl
  · split at h
    · cases h
    · cases h
      split
      · exact (State.mode_epInterrupt ..).trans (congrArg EpFunc.mode (State.epf_of_epfs (by rfl) f))
      · exact congrArg EpFunc.mode (State.epf_of_epfs (by rfl) f)

theorem State.mode_epFlush (s : State) (i f : Nat) : ((s.epFlush i).epf f).mode = (s.epf f).mode := by
  unfold State.epFlush
  extract_lets l
  split
  · rfl
  · refine List.foldlRecOn (motive := fun t : State => (t.epf f).mode = (s.epf f).mode) l _ (s.mode_hold i _ f) fun t ht o _ => ?_
    split
    · exact (t.mode_hold i _ f).trans ht
    · split
      · split
        · exact (State.mode_epEntry ‹_› f).trans ht
        · exact (t.mode_hold i _ f).trans ht
      · exact ht

theorem State.mode_epResume (s : State) (i f : Nat) : ((s.epResume i).epf f).mode = (s.epf f).mode := by
  have hissue : (((s.epFlush i).epIssue i).epFetchAll i).Keeps 0x1ffffffffffff03000000f00000000000000000000402 (s.epFlush i) :=
    ((State.Keeps.refl _ _).epIssue (.refl _)).epFetchAll (Covers.mono (.refl _))
  exact (congrArg EpFunc.mode (State.epf_of_epfs hissue.epfs_eq f)).trans (s.mode_epFlush i f)

/-- With no fetch in progress none begins. -/
theorem State.epFetches_epResume {s : State} (hs : s.epFetches = []) (f : Nat) : (s.epResume f).epFetches = [] := by
  have hflush : (s.epFlush f).epFetches = s.epFetches := (State.Keeps.epFlush (.refl _ s) (.refl _)).epFetches_eq
  have hissue : ((s.epFlush f).epIssue f) = s.epFlush f := by
    rw [State.epIssue, hflush, hs]
    simp
  have hfetch : ((s.epFlush f).epFetchAll f).epFetches = (s.epFlush f).epFetches := (State.Keeps.epFetchAll (.refl _ _) (.refl _)).epFetches_eq
  rw [State.epResume, hissue, hfetch, hflush, hs]

theorem State.epFetches_epResumeAll {s : State} (hs : s.epFetches = []) : s.epResumeAll.epFetches = [] := by
  refine List.foldlRecOn (motive := fun t : State => t.epFetches = []) _ _ ?_ fun t ht f _ => State.epFetches_epResume ht f
  rw [(State.Keeps.syncEpQuar (.refl _ s) (.refl _)).epFetches_eq, hs]

/-- A table of controllers without an entry has none after the outgoing completions. -/
theorem State.ctrls_epFlush {s : State} (hs : s.ctrls = []) (f : Nat) : (s.epFlush f).ctrls = [] := by
  unfold State.epFlush
  extract_lets l
  split
  · exact hs
  · refine List.foldlRecOn (motive := fun t : State => t.ctrls = []) l _ hs fun t ht o _ => ?_
    split
    · exact ht
    · split
      · split
        · rename_i h
          rw [State.epEntry, State.ctrl?, ht] at h
          cases h
          exact ht
        · exact ht
      · exact ht

/-- With no controller and no fetch there is nothing to read. -/
theorem State.idle_epResume {s : State} (hctrls : s.ctrls = []) (hfetches : s.epFetches = []) (f : Nat) :
    (s.epResume f).ctrls = [] ∧ (s.epResume f).epFetches = [] ∧ (s.epResume f).epReads = s.epReads := by
  have hctl : ∀ (t : State) (i : Nat), t.ctrls = [] → t.ctrl? i = none := fun t i ht => by rw [State.ctrl?, ht]; rfl
  have hflush := State.Keeps.epFlush (f := f) (.refl _ s) (.refl _)
  have hctrls' : (s.epFlush f).ctrls = [] := State.ctrls_epFlush hctrls f
  have hissue : ((s.epFlush f).epIssue f) = s.epFlush f := by
    rw [State.epIssue, hflush.epFetches_eq, hfetches]
    simp
  have hfetch : (s.epFlush f).epFetchAll f = s.epFlush f := by rw [State.epFetchAll, hctl _ _ hctrls']
  rw [State.epResume, hissue, hfetch, hflush.epFetches_eq, hflush.epReads_eq]
  exact ⟨hctrls', hfetches, rfl⟩

theorem State.idle_epResumeAll {s : State} (hctrls : s.ctrls = []) (hfetches : s.epFetches = []) : s.epResumeAll.epReads = s.epReads := by
  have hquar := State.Keeps.syncEpQuar (.refl _ s) (.refl _)
  refine (List.foldlRecOn (motive := fun t : State => t.ctrls = [] ∧ t.epFetches = [] ∧ t.epReads = s.epReads) _ _
    ⟨hquar.ctrls_eq.trans hctrls, hquar.epFetches_eq.trans hfetches, hquar.epReads_eq⟩ fun t ⟨hc, hf, hr⟩ f _ => ?_).2.2
  obtain ⟨hc', hf', hr'⟩ := State.idle_epResume hc hf f
  exact ⟨hc', hf', hr'.trans hr⟩

/-! ### What a fetched entry and a second timeout do -/

theorem F.key_halRole_ne_sqeFetch : F.HAL_PAIR_STAT_ROLE.key ≠ F.EPT_SQE_FETCH.key := by decide

theorem State.queueOf_epCommand (s : State) (ctl qid : Nat) {e : EpEntry} :
    s.queueOf (epCommand ctl qid e) = (s.ctrl? ctl).bind fun k => k.queue? qid := rfl

theorem State.ctrl?_updQueue {s : State} {i j : Nat} {f : Queue → Queue} {k : Ctrl} (hk : s.ctrl? i = some k) :
    (s.updQueue i j f).ctrl? i = some { k with queues := mapIf (fun x => x.qid == j && !x.isCq) f k.queues } := by
  have h := find?_mapIf (α := Ctrl) (p := fun x => x.index == i) (f := fun c => { c with queues := mapIf (fun x => x.qid == j && !x.isCq) f c.queues })
    (fun _ h => h) s.ctrls
  rw [State.ctrl?] at hk
  rw [hk] at h
  exact h

theorem Ctrl.queue?_mapIf {k : Ctrl} {j n : Nat} {q : Queue} (hq : k.queue? j = some q) :
    Ctrl.queue? { k with queues := mapIf (fun x => x.qid == j && !x.isCq) (fun x => { x with head := n % max 1 x.size }) k.queues } j =
      some { q with head := n % max 1 q.size } := by
  have h := find?_mapIf (α := Queue) (p := fun x => x.qid == j && !x.isCq) (f := fun x => { x with head := n % max 1 x.size }) (fun _ h => h) k.queues
  rw [Ctrl.queue?] at hq
  rw [hq] at h
  exact h

/-- A fetched read moves the queue's head past it and is in flight. -/
theorem State.fetched_read {s : State} {e : EpEntry} {ctl qid first tag f : Nat} {q : Queue} (hactive : s.isActive = true)
    (hopc : (epCommand ctl qid e).opc = 0x02) (hqid : qid ≠ 0) (hctl : (s.ctrl? ctl).any (fun z => !z.shutdown) = true)
    (hqueue : (s.ctrl? ctl).bind (fun z => z.queue? qid) = some q) (hconn : q.conn = none) (hauth : q.authReq = false)
    (hnew : (s.cmd? s.nextCmd).isNone = true) {t : State} (ht : t = [e].foldl (fun (s : State) e =>
      if s.isActive then s.epRun (epCommand ctl qid e) else s.epRelayOne (epCommand ctl qid e) e.entry)
        (((s.epTlp.epFree tag).bumpBy F.EPT_SQE_FETCH 1).updQueue ctl qid fun q => { q with head := (first + 1) % max 1 q.size })) :
    (t.epFetchSq f qid).delivered s.nextCmd (epCommand ctl qid e) ∧
      ((t.epFetchSq f qid).sqFront ctl qid).map Prod.fst = some ((first + 1) % max 1 q.size) := by
  obtain ⟨k, hk, hshut⟩ : ∃ k, s.ctrl? ctl = some k ∧ k.shutdown = false := by
    cases h : s.ctrl? ctl with
    | none => rw [h] at hctl; cases hctl
    | some k => exact ⟨k, rfl, by simpa [h] using hctl⟩
  have hq : k.queue? qid = some q := by simpa [hk] using hqueue
  rw [List.foldl_cons, List.foldl_nil] at ht
  generalize hu : ((s.epTlp.epFree tag).bumpBy F.EPT_SQE_FETCH 1).updQueue ctl qid (fun q => { q with head := (first + 1) % max 1 q.size }) = u at ht
  have hactive' : u.isActive = true := by
    rw [← hu]
    have hrole := State.rd_bumpBy_other (s.epTlp.epFree tag) F.EPT_SQE_FETCH _ 1 F.key_halRole_ne_sqeFetch
    rw [State.isActive] at hactive ⊢
    exact (congrArg (fun n => n == 1 || n == 3) hrole).trans hactive
  obtain ⟨k', hk', hshut', hq'⟩ : ∃ k', u.ctrl? (epCommand ctl qid e).ctl = some k' ∧ k'.shutdown = false ∧
      k'.queue? (epCommand ctl qid e).qid = some { q with head := (first + 1) % max 1 q.size } := by
    rw [← hu]
    refine ⟨_, State.ctrl?_updQueue (s := (s.epTlp.epFree tag).bumpBy F.EPT_SQE_FETCH 1) hk, hshut, ?_⟩
    exact Ctrl.queue?_mapIf hq
  have hqueue' : u.queueOf (epCommand ctl qid e) = some { q with head := (first + 1) % max 1 q.size } := by
    rw [State.queueOf, hk']
    exact hq'
  have hcmds : u.cmds = s.cmds := by rw [← hu]; rfl
  have hnext : u.nextCmd = s.nextCmd := by rw [← hu]; rfl
  have hrun := State.epRun_read hk' hqueue' hshut' hconn hauth hopc hqid (by rw [State.cmd?, hcmds, hnext]; exact hnew)
  rw [if_pos hactive'] at ht
  obtain ⟨hfcmds, hfctrls⟩ := t.epFetchSq_kept f qid
  refine ⟨State.delivered_of_cmds hfcmds ?_, ?_⟩
  · rw [ht, ← hnext]
    exact hrun.1
  · rw [State.sqFront_of_ctrls hfctrls, ht, hrun.2, State.sqFront, ← State.queueOf_epCommand (e := e), hqueue']
    rfl

theorem State.any_head_of_sqFront {s : State} {ctl qid n : Nat} (h : (s.sqFront ctl qid).map Prod.fst = some n) :
    ((s.ctrl? ctl).bind fun k => k.queue? qid).any (fun y => y.head == n) = true := by
  rw [State.sqFront] at h
  cases hq : (s.ctrl? ctl).bind fun k => k.queue? qid with
  | none => rw [hq] at h; cases h
  | some y =>
    rw [hq] at h
    exact beq_iff_eq.mpr (Option.some.inj h)

theorem State.rd_syncEpQuar (s : State) (g : Fld) (hquar : g.key ≠ F.EPT_STAT_QUAR.key) (hlow : 0x28 ≤ g.key % 0x100000) :
    s.syncEpQuar.rd g = s.rd g := by
  unfold State.syncEpQuar
  extract_lets n s1
  have h1 : s1.rd g = s.rd g := s.rd_wr_other _ g _ hquar
  split
  · split
    · exact h1
    · exact (State.rd_raise_beyond s1 _ _ _ _ _ g hlow).trans h1
  · exact h1

theorem State.rd_raiseOnce_beyond (s : State) (period b loc sev code data : Nat) (g : Fld) (hlow : 0x28 ≤ g.key % 0x100000) :
    (s.raiseOnce period b loc sev code data).rd g = s.rd g := by
  unfold State.raiseOnce
  extract_lets key quiet
  split
  · rfl
  · exact State.rd_raise_beyond _ _ _ _ _ _ g hlow

/-- A fatal error stops the function's controller. -/
theorem State.stopped_epFatal (s : State) (f cause : Nat) : ((s.epFatal f cause).ctrl? (s.epIdx f)).all (fun z => hasBit z.csts 1) = true := by
  have hstop : ∀ k : Ctrl, hasBit (if hasBit k.csts 1 then k else { k with csts := k.csts + 2 }).csts 1 = true := by
    intro k
    split
    · assumption
    · rename_i h
      simp only [hasBit, pow_one, beq_iff_eq] at h ⊢
      omega
  rw [State.epFatal, State.ctrl?, State.raise_ctrls]
  cases h : (s.updCtrl (s.epIdx f) fun k => if hasBit k.csts 1 then k else { k with csts := k.csts + 2 }).ctrls.find? fun x => x.index == s.epIdx f with
  | none => rfl
  | some k =>
    obtain ⟨k0, -, hk0⟩ := List.mem_map.mp (List.mem_of_find?_eq_some h)
    have hindex := List.find?_some h
    rw [Option.all_some, ← hk0]
    by_cases hp : k0.index == s.epIdx f
    · rw [if_pos hp]
      exact hstop k0
    · rw [if_neg hp] at hk0
      rw [← hk0] at hindex
      exact absurd hindex hp

/-- A read that times out a second time is quarantined and its controller stops. -/
theorem State.timed_out {s u : State} {tag f : Nat} {r : EpRead} (hread : (s.epReads.find? fun z => z.tag == tag) = some r) (hreads : u.epReads = s.epReads)
    (hnow : u.now = s.now) (hslot : u.rd F.CTL_BOOT_STAT_SLOT_B = s.rd F.CTL_BOOT_STAT_SLOT_B) {t : State}
    (ht : t = (State.syncEpQuar { u with epReads := mapIf (fun x => x.tag == tag) (fun x => { x with quarAt := some u.now }) u.epReads }).epFatal f 1) :
    (t.epReads.find? fun z => z.tag == tag).any (fun z => z.quarAt == some s.now) = true ∧
      (t.ctrl? (s.epIdx f)).all (fun z => hasBit z.csts 1) = true := by
  generalize hv : ({ u with epReads := mapIf (fun x => x.tag == tag) (fun x => { x with quarAt := some u.now }) u.epReads } : State) = v at ht
  have hidx : v.syncEpQuar.epIdx f = s.epIdx f := by
    rw [State.epIdx, State.rd_syncEpQuar v _ (by decide) (by decide), ← hv]
    exact congrArg (epIndex · f) hslot
  have hkept : t.epReads = v.epReads := by
    rw [ht]
    exact (State.Keeps.epFatal (μ := 0x8000001000004000000000000000000800486) (State.Keeps.syncEpQuar (.refl _ v) (Covers.mono (.refl _)))
      (Covers.mono (.refl _))).epReads_eq
  have hfound : t.epReads.find? (fun z => z.tag == tag) = (s.epReads.find? fun z => z.tag == tag).map fun x => { x with quarAt := some u.now } := by
    rw [hkept, ← hv, ← hreads]
    exact find?_mapIf (α := EpRead) (p := fun x => x.tag == tag) (f := fun x => { x with quarAt := some u.now }) (fun _ h => h) u.epReads
  constructor
  · rw [hfound, hread, hnow]
    simp
  · rw [ht, ← hidx]
    exact State.stopped_epFatal ..

end Sys2Proof.Machine

namespace Sys2Proof

open Machine

/-- Settles O36: a fetched read is the next command and the queue's front moves past it; with no fetch, or no controller, left nothing is read again; what
is held back and sent later changes no function's mode. -/
theorem endpointRequests : Obligations.EndpointRequests := by
  unfold Obligations.EndpointRequests
  refine ⟨?_, ?_, ?_, ?_, ?_, ?_, ?_, ?_, ?_⟩
  · intro s tag es r e ctl qid first n q hes hread hquar hwhat hn hbme hd3 hactive hopc hqid hctl hqueue hconn hauth hnew
    refine .of_exec (by rw [exec, execEpSqeFetched]) ?_
    have htakes : s.epTlp.epTakes r.func = true := by simpa [State.epTakes] using ⟨hbme, hd3⟩
    have hone : min n es.length = 1 := by rw [hes, List.length_singleton]; omega
    have htake : es.take n = [e] := by rw [hes, List.take_of_length_le (by simpa using hn)]
    simp only [hread, hquar, hwhat, htakes, hone, htake, Option.isSome_none, Bool.not_true, Bool.false_eq_true, if_false]
    obtain ⟨hdelivered, hfront⟩ := State.fetched_read (tag := tag) (first := first) (f := r.func) hactive hopc hqid hctl hqueue hconn hauth hnew rfl
    exact ⟨hdelivered, State.any_head_of_sqFront hfront⟩
  · intro s tag data r x cmd ofs len hread hquar hwhat hbme hd3 hfetches hcmd hgot hlen
    refine .of_exec (by rw [exec, execEpReadCompletion]) ?_
    have htakes : s.epTlp.epTakes r.func = true := by simpa [State.epTakes] using ⟨hbme, hd3⟩
    have hfound : ((s.epTlp.epFree tag).epFetches.find? fun y => y.cmd == cmd) = some x := by
      rw [show (s.epTlp.epFree tag).epFetches = [x] from hfetches, List.find?_cons, hcmd, beq_self_eq_true]
    have hwhole : x.len ≤ (((ofs, len, data % 2 ^ (8 * len)) :: x.got.filter fun p => p.1 != ofs).map fun p => p.2.1).sum := by simpa [hgot] using hlen
    have hdropped : ((s.epTlp.epFree tag).epDropFetch cmd).epFetches = [] := by
      rw [State.epDropFetch, show (s.epTlp.epFree tag).epFetches = [x] from hfetches, List.filter_cons, hcmd]
      simp
    simp only [hread, hquar, hwhat, htakes, hfound, if_pos hwhole, Option.isSome_none, Bool.not_true, Bool.false_eq_true, if_false, Nat.zero_ne_one,
      bne_self_eq_false]
    exact State.epFetches_epResumeAll ((State.Keeps.dataArrived (.refl _ _) (.refl _)).epFetches_eq.trans hdropped)
  · intro s tag ctoUs r hread hquar hsecond hdue
    refine .of_exec (by rw [exec, execEpCompletionTimeout]) ?_
    simp only [hread, hquar, hsecond, hdue, Option.isSome_none, Bool.not_true, Bool.false_or, Bool.false_eq_true, if_false, if_true]
    have hnoticed : (((s.bump F.EPT_CPL_TO).epNotice 8 5 r.func).updEpf r.func fun x => { x with aer := x.aer ||| 2 ^ 14 }).Keeps
        0x3000000080000010000000000000486 s :=
      (((State.Keeps.refl _ s).bump (.anyWord (.mono (.refl _)))).epNotice (Covers.mono (.refl _))).updEpf (Covers.mono (.refl _))
    refine State.timed_out hread hnoticed.epReads_eq ?_ ?_ rfl
    · rw [State.now, hnoticed.tim_eq, State.now]
    · exact (State.rd_raiseOnce_beyond _ _ _ _ _ _ _ _ (by decide)).trans (State.rd_bump_other _ _ _ (by decide))
  · intro s tag ctoUs r t0 hreads htag hquar hreset hdue hfetches hctrls
    have hfree : (s.epReads.any fun r => r.tag == tag && (match r.quarAt with
        | some t => if r.byReset then s.due (r.issued + usU ctoUs) else s.due (t + 16 * usU ctoUs)
        | none => false)) = true := by simp [hreads, htag, hquar, hreset, hdue]
    refine .of_exec (t := (s.epFree tag).epResumeAll) (congrArg Host.Outcome.next (if_pos hfree)) ?_
    rw [State.idle_epResumeAll (s := s.epFree tag) hctrls hfetches]
    simp [State.epFree, hreads, htag]
  · intro s f on hexists hlen
    refine .of_exec (by rw [exec, execEpBmeWrite]) ?_
    have hmode : ((s.epTlp.updEpf f fun x => { x with bme := on }).epf f).mode = (on, (s.epf f).d3) :=
      congrArg EpFunc.mode (s.epTlp.epf_updEpf_same (g := fun x => { x with bme := on }) hlen)
    rw [hexists, Bool.not_true, if_neg Bool.false_ne_true]
    refine congrArg Prod.fst ((?_ : _ = EpFunc.mode _).symm.trans hmode)
    split
    · exact (State.mode_epResume ..).symm
    · rfl
  · intro s f d3 hexists hlen
    refine .of_exec (by rw [exec, execEpPowerState]) ?_
    have hmode : ((s.epTlp.updEpf f fun x => { x with d3 := d3 }).epf f).mode = ((s.epf f).bme, d3) :=
      congrArg EpFunc.mode (s.epTlp.epf_updEpf_same (g := fun x => { x with d3 := d3 }) hlen)
    rw [hexists, Bool.not_true, if_neg Bool.false_ne_true]
    refine congrArg Prod.snd ((?_ : _ = EpFunc.mode _).symm.trans hmode)
    split
    · rfl
    · exact (State.mode_epResume ..).symm
  · intro s f vector hexists hvector hd3 hpending
    refine .of_exec (by rw [exec, execEpMsixUnmask]) ?_
    have hopen : (!s.epExists f || decide (64 < vector) || (s.epf f).d3) = false := by simp [hexists, hd3, hvector]
    have hlen : f < s.epfs.length := by
      by_contra h
      rw [State.epf, List.getD_eq_getElem?_getD, List.getElem?_eq_none (Nat.le_of_not_lt h)] at hpending
      simp [EpFunc.cold] at hpending
    have hepf := s.epTlp.epf_updEpf_same (g := fun x => { x with unmasked := (vector :: x.unmasked).dedup, pba := x.pba.filter (· != vector) }) hlen
    simp only [hopen, Bool.false_eq_true, if_false]
    rw [if_pos (show (s.epTlp.epf f).pba.contains vector = true from hpending)]
    refine ⟨rfl, ?_, ?_⟩
    · rw [State.epf_of_epfs (State.send_epfs ..), hepf]
      simp
    · rw [State.epf_of_epfs (State.send_epfs ..), hepf]
      simp
  · intro s hlink hfrozen hl1 hreads hheld hdue
    refine .of_exec (by rw [exec, execEpL1Idle]) ?_
    simp only [hlink, hfrozen, hl1, hreads, hheld, hdue]
    rfl
  · intro s hactive hbusy hdue
    refine .of_exec (by rw [exec, execEpLtrIdle]) ?_
    simp only [hactive, hbusy, hdue]
    exact ⟨rfl, rfl⟩

end Sys2Proof
end

section
/-!
The unit chain: what its operations do to the chain's state, the frames sent and the registers, then O39.
-/

-- One declaration at a time, as with the lemmas about a serving unit.
set_option Elab.async false

namespace Sys2Proof.Machine

/-! ### Registers, frames and state after each operation -/

theorem contains_newOut_of_cons {s t : State} {o : Out} (h : t.out = o :: s.out) : (newOut s t).contains o = true := by
  rw [newOut, h, List.length_cons, Nat.add_sub_cancel_left, List.take_succ_cons, List.contains_cons, beq_self_eq_true, Bool.true_or]

theorem State.rd_wr_fits (s : State) (f : Fld) {v : Nat} (h : f.lo ≤ f.hi ∧ f.hi < 32) (hv : v < 2 ^ (f.hi + 1 - f.lo)) : (s.wr f v).rd f = v :=
  (s.rd_wr_same f v h.1 h.2).trans (Nat.mod_eq_of_lt hv)

theorem State.isSet_of_rd {s t : State} {f : Fld} (h : t.rd f = s.rd f) : t.isSet f = s.isSet f := by rw [State.isSet, h, State.isSet]

@[simp] theorem State.updChain_rd (s : State) (f : Chain → Chain) (g : Fld) : (s.updChain f).rd g = s.rd g := rfl
@[simp] theorem State.updChain_out (s : State) (f : Chain → Chain) : (s.updChain f).out = s.out := rfl
@[simp] theorem State.updChain_chain (s : State) (f : Chain → Chain) : (s.updChain f).chain = f s.chain := rfl
@[simp] theorem State.updChain_tim (s : State) (f : Chain → Chain) : (s.updChain f).tim = s.tim := rfl
@[simp] theorem State.updChain_bench (s : State) (f : Chain → Chain) : (s.updChain f).bench = s.bench := rfl

@[simp] theorem State.chainSend_out (s : State) (o : Out) : (s.chainSend o).out = o :: s.out := rfl
@[simp] theorem State.chainSend_chain (s : State) (o : Out) : (s.chainSend o).chain = s.chain := rfl
@[simp] theorem State.chainSend_tim (s : State) (o : Out) : (s.chainSend o).tim = s.tim := rfl
@[simp] theorem State.chainSend_mgt (s : State) (o : Out) : (s.chainSend o).mgt = s.mgt := rfl

theorem State.rd_chainSend (s : State) (o : Out) (g : Fld) (h : g.key ≠ F.CHN_TX_FRM.key) : (s.chainSend o).rd g = s.rd g :=
  (s.send o).rd_bump_other _ _ h

/-! #### ADDR_ACK and ADDR -/

theorem State.ackUp_head {s : State} (h : s.isHead = true) : s.ackUp = s := by rw [State.ackUp, if_pos h]

theorem State.rd_ackUp (s : State) (g : Fld) (h : g.key ≠ F.CHN_TX_FRM.key) : s.ackUp.rd g = s.rd g := by
  unfold State.ackUp
  split
  · rfl
  · exact s.rd_chainSend _ g h

theorem State.out_ackUp {s : State} (h : s.isHead = false) {m u : Nat} (hdown : s.chain.downAck.getD (0, 0) = (m, u)) :
    s.ackUp.out = .chainAddrAck (max s.now m) (1 + u) :: s.out := by
  rw [State.ackUp, h, if_neg Bool.false_ne_true, hdown]
  rfl

theorem State.chain_ackUp {s : State} (h : s.isHead = false) : s.ackUp.chain = { s.chain with acked := true } := by
  rw [State.ackUp, h, if_neg Bool.false_ne_true]
  rfl

theorem State.rd_offerDown (s : State) (g : Fld) (h : g.key ≠ F.CHN_TX_FRM.key) : s.offerDown.rd g = s.rd g := by
  unfold State.offerDown
  split
  · exact s.rd_chainSend _ g h
  · exact State.rd_ackUp _ g h

theorem State.offerDown_driven {s : State} (h : s.chain.dnDriven = true) : s.offerDown.out = .chainAddr (s.addr + 1) :: s.out ∧
    s.offerDown.chain = { s.chain with sentAt := some s.now, downAck := none, acked := false } := by
  rw [State.offerDown, if_pos h]
  exact ⟨rfl, rfl⟩

theorem State.offerDown_undriven {s : State} (h : s.chain.dnDriven = false) :
    s.offerDown = (s.updChain fun c => { c with sentAt := none, downAck := none }).ackUp := by
  rw [State.offerDown, h, if_neg Bool.false_ne_true]

/-- The state in which an address is taken, before the next one is offered. -/
def State.withAddress (s : State) (a : Nat) : State :=
  ((((((s.wr F.CHN_CHAIN_STAT_ADDR a).wr F.CHN_CHAIN_STAT_ADDRESSED 1).wr F.CHN_CHAIN_STAT_HEAD 0).wr F.CHN_CHAIN_STAT_UNITS 0).wr
    F.TIM_SRC_CFG_SRC 3).updChain fun c => { c with waitFrom := none }).raise 3 4 INFO 1 a

theorem State.takeAddress_eq (s : State) (a : Nat) : s.takeAddress a = (s.withAddress a).offerDown := rfl

theorem State.rd_withAddress (s : State) {a : Nat} (ha : a < 64) : (s.withAddress a).rd F.CHN_CHAIN_STAT_ADDR = a ∧
    (s.withAddress a).rd F.CHN_CHAIN_STAT_ADDRESSED = 1 ∧ (s.withAddress a).rd F.CHN_CHAIN_STAT_HEAD = 0 ∧
    (s.withAddress a).rd F.TIM_SRC_CFG_SRC = 3 := by
  rw [State.withAddress]
  refine ⟨?_, ?_, ?_, ?_⟩
  all_goals rw [State.rd_raise_beyond _ _ _ _ _ _ _ (by decide), State.updChain_rd]
  · rw [State.rd_wr_spared _ _ _ _ (by decide), State.rd_wr_spared _ _ _ _ (by decide), State.rd_wr_spared _ _ _ _ (by decide),
      State.rd_wr_spared _ _ _ _ (by decide)]
    exact State.rd_wr_fits _ _ (by decide) ha
  · rw [State.rd_wr_spared _ _ _ _ (by decide), State.rd_wr_spared _ _ _ _ (by decide), State.rd_wr_spared _ _ _ _ (by decide)]
    exact State.rd_wr_fits _ _ (by decide) (by decide)
  · rw [State.rd_wr_spared _ _ _ _ (by decide), State.rd_wr_spared _ _ _ _ (by decide)]
    exact State.rd_wr_fits _ _ (by decide) (by decide)
  · exact State.rd_wr_fits _ _ (by decide) (by decide)

theorem State.withAddress_fields (s : State) (a : Nat) : (s.withAddress a).out = s.out ∧ (s.withAddress a).tim = s.tim ∧
    (s.withAddress a).chain = { s.chain with waitFrom := none } := by
  rw [State.withAddress, State.out_raise_of_ne _ _ _ _ _ (by decide), State.raise_tim, State.raise_chain]
  simp only [State.updChain_out, State.updChain_tim, State.updChain_chain, State.wr_out, State.wr_tim, State.wr_chain, true_and]

theorem State.now_of_tim {s t : State} (h : t.tim = s.tim) : t.now = s.now := by rw [State.now, h, State.now]

/-- A taken address is held, the unit is no head and follows the chain's time. -/
theorem State.rd_takeAddress (s : State) {a : Nat} (ha : a < 64) : (s.takeAddress a).addr = a ∧ (s.takeAddress a).addressed = true ∧
    (s.takeAddress a).isHead = false ∧ (s.takeAddress a).rd F.TIM_SRC_CFG_SRC = 3 := by
  obtain ⟨haddr, haddressed, hhead, hsrc⟩ := s.rd_withAddress ha
  rw [State.takeAddress_eq, State.addr, State.addressed, State.isHead, State.isSet, State.isSet]
  rw [State.rd_offerDown _ _ (by decide), State.rd_offerDown _ _ (by decide), State.rd_offerDown _ _ (by decide), State.rd_offerDown _ _ (by decide),
    haddr, haddressed, hhead, hsrc]
  exact ⟨rfl, rfl, rfl, rfl⟩

theorem State.takeAddress_driven {s : State} {a : Nat} (ha : a < 64) (hdn : s.chain.dnDriven = true) :
    (s.takeAddress a).out = .chainAddr (a + 1) :: s.out ∧ (s.takeAddress a).chain.sentAt = some s.now ∧ (s.takeAddress a).chain.waitFrom = none := by
  obtain ⟨hout, htim, hchain⟩ := s.withAddress_fields a
  obtain ⟨hout', hchain'⟩ := State.offerDown_driven (s := s.withAddress a) (by rw [hchain]; exact hdn)
  rw [State.takeAddress_eq, hout', hchain', hout, State.now_of_tim htim, State.addr, (s.rd_withAddress ha).1, hchain]
  exact ⟨rfl, rfl, rfl⟩

theorem State.takeAddress_undriven {s : State} {a : Nat} (ha : a < 64) (hdn : s.chain.dnDriven = false) :
    (s.takeAddress a).out = .chainAddrAck s.now 1 :: s.out ∧ (s.takeAddress a).chain.acked = true := by
  obtain ⟨hout, htim, hchain⟩ := s.withAddress_fields a
  generalize hu : ((s.withAddress a).updChain fun c => { c with sentAt := none, downAck := none }) = u
  have hhead : u.isHead = false := by rw [← hu, State.isHead, State.isSet, State.updChain_rd, (s.rd_withAddress ha).2.2.1]; rfl
  have hdown : u.chain.downAck.getD (0, 0) = (0, 0) := by rw [← hu]; rfl
  have hnow : u.now = s.now := State.now_of_tim (by rw [← hu, State.updChain_tim, htim])
  rw [State.takeAddress_eq, State.offerDown_undriven (by rw [hchain]; exact hdn), hu, State.out_ackUp hhead hdown, State.chain_ackUp hhead, hnow,
    ← hu, State.updChain_out, hout, Nat.max_zero]
  exact ⟨rfl, rfl⟩

/-! #### Heads -/

/-- The state of a unit that has become a head, before it offers an address. -/
def State.withHead (s : State) (cause : Nat) : State :=
  ((((s.wr F.CHN_CHAIN_STAT_ADDR 0).wr F.CHN_CHAIN_STAT_ADDRESSED 1).wr F.CHN_CHAIN_STAT_HEAD 1).updChain fun c => { c with waitFrom := none }).raise
    3 5 NOTICE 2 cause

theorem State.becomeHead_eq (s : State) (cause : Nat) : s.becomeHead cause = (s.withHead cause).offerDown := rfl

theorem State.rd_becomeHead (s : State) (cause : Nat) : (s.becomeHead cause).isHead = true ∧ (s.becomeHead cause).addressed = true ∧
    (s.becomeHead cause).addr = 0 := by
  rw [State.becomeHead_eq, State.addr, State.addressed, State.isHead, State.isSet, State.isSet]
  rw [State.rd_offerDown _ _ (by decide), State.rd_offerDown _ _ (by decide), State.rd_offerDown _ _ (by decide), State.withHead,
    State.rd_raise_beyond _ _ _ _ _ _ _ (by decide), State.rd_raise_beyond _ _ _ _ _ _ _ (by decide),
    State.rd_raise_beyond _ _ _ _ _ _ _ (by decide), State.updChain_rd, State.updChain_rd, State.updChain_rd]
  refine ⟨?_, ?_, ?_⟩
  · rw [State.rd_wr_fits _ _ (by decide) (by decide)]
    rfl
  · rw [State.rd_wr_spared _ _ _ _ (by decide), State.rd_wr_fits _ _ (by decide) (by decide)]
    rfl
  · rw [State.rd_wr_spared _ _ _ _ (by decide), State.rd_wr_spared _ _ _ _ (by decide), State.rd_wr_fits _ _ (by decide) (by decide)]

theorem State.waitFrom_ackUp (s : State) : s.ackUp.chain.waitFrom = s.chain.waitFrom := by
  unfold State.ackUp
  split
  · rfl
  · rfl

theorem State.waitFrom_offerDown (s : State) : s.offerDown.chain.waitFrom = s.chain.waitFrom := by
  unfold State.offerDown
  split
  · rfl
  · exact State.waitFrom_ackUp _

theorem State.waitFrom_becomeHead (s : State) (cause : Nat) : (s.becomeHead cause).chain.waitFrom = none := by
  rw [State.becomeHead_eq, State.waitFrom_offerDown, State.withHead, State.raise_chain]
  rfl

/-! #### Chain reset -/

/-- The state after a unit's own reset, before the reset is passed on. -/
def State.resetHere (s : State) (src : Nat) : State :=
  (((s.raise 3 9 INFO 6 src).wr F.CHN_CHAIN_STAT_ADDR 0).wrB F.CHN_CHAIN_STAT_ADDRESSED s.isHead).updChain fun c =>
    { c with sentAt := none, downAck := none, acked := false, treq := none, waitFrom := if s.isHead then none else some (s.raise 3 9 INFO 6 src).now }

theorem State.rd_resetHere (s : State) (src : Nat) : (s.resetHere src).rd F.CHN_CHAIN_STAT_ADDR = 0 ∧
    (s.resetHere src).rd F.CHN_CHAIN_STAT_ADDRESSED = bit s.isHead ∧
    (s.resetHere src).rd F.CHN_CHAIN_STAT_HEAD = s.rd F.CHN_CHAIN_STAT_HEAD ∧ (s.resetHere src).servo = s.servo := by
  rw [State.servo, State.servo, State.resetHere, State.updChain_rd, State.updChain_rd, State.updChain_rd, State.updChain_rd, State.wrB]
  refine ⟨?_, ?_, ?_, ?_⟩
  · rw [State.rd_wr_spared _ _ _ _ (by decide), State.rd_wr_fits _ _ (by decide) (by decide)]
  · exact State.rd_wr_fits _ _ (by decide) (by cases s.isHead <;> decide)
  · rw [State.rd_wr_spared _ _ _ _ (by decide), State.rd_wr_spared _ _ _ _ (by decide), State.rd_raise_beyond _ _ _ _ _ _ _ (by decide)]
  · rw [State.rd_wr_spared _ _ _ _ (by decide), State.rd_wr_spared _ _ _ _ (by decide), State.rd_raise_beyond _ _ _ _ _ _ _ (by decide)]

theorem State.resetHere_fields (s : State) (src : Nat) : (s.resetHere src).out = s.out ∧ (s.resetHere src).chain =
    { s.chain with sentAt := none, downAck := none, acked := false, treq := none, waitFrom := if s.isHead then none else some s.now } := by
  rw [State.resetHere, State.updChain_out, State.updChain_chain, State.wrB, State.wr_out, State.wr_out, State.wr_chain, State.wr_chain,
    State.raise_chain, State.out_raise_of_ne _ _ _ _ _ (by decide), State.now_of_tim (State.raise_tim ..)]
  exact ⟨rfl, rfl⟩

theorem State.hasBit_resetHere {s : State} (src : Nat) (hon : (s.benchAt 3).state ≠ .off) :
    hasBit ((s.resetHere src).rd (F.BENCH_EV_STAT 3)) 9 = true := by
  rw [State.resetHere, State.updChain_rd, State.wrB, State.rd_wr_spared _ _ _ _ (by decide), State.rd_wr_spared _ _ _ _ (by decide)]
  exact State.hasBit_raise _ _ _ _ _ _ (by decide) hon

/-- With the servo free a unit below the head only passes the reset on. -/
theorem State.chainReset_unit {s : State} (src : Nat) (hhead : s.isHead = false) (hdn : s.chain.dnDriven = true) (hservo : s.servo = 0) :
    s.chainReset src = (s.resetHere src).chainSend (.chainReset src false) := by
  have hdriven : (s.resetHere src).chain.dnDriven = true := by rw [(s.resetHere_fields src).2]; exact hdn
  have hfree : ((s.resetHere src).chainSend (.chainReset src false)).servo = 0 := by
    rw [State.servo, State.rd_chainSend _ _ _ (by decide), ← State.servo, (s.rd_resetHere src).2.2.2, hservo]
  have heq : s.chainReset src =
      (let u := if (s.resetHere src).chain.dnDriven then (s.resetHere src).chainSend (.chainReset src false) else s.resetHere src
       let v := if u.servo == 1 || u.servo == 2 then u.enterHoldover else u
       if s.isHead then v.offerDown else v) := rfl
  rw [heq, if_pos hdriven, hhead]
  simp only [hfree, Bool.false_eq_true, if_false]
  rfl

theorem State.chainReset_head {s : State} (src : Nat) (hhead : s.isHead = true) (hdn : s.chain.dnDriven = false) (hservo : s.servo = 0) :
    s.chainReset src = (s.resetHere src).updChain fun c => { c with sentAt := none, downAck := none } := by
  have hdriven : (s.resetHere src).chain.dnDriven = false := by rw [(s.resetHere_fields src).2]; exact hdn
  have hfree : (s.resetHere src).servo = 0 := by rw [(s.rd_resetHere src).2.2.2, hservo]
  have heq : s.chainReset src =
      (let u := if (s.resetHere src).chain.dnDriven then (s.resetHere src).chainSend (.chainReset src false) else s.resetHere src
       let v := if u.servo == 1 || u.servo == 2 then u.enterHoldover else u
       if s.isHead then v.offerDown else v) := rfl
  have hstill : ((s.resetHere src).updChain fun c => { c with sentAt := none, downAck := none }).isHead = true :=
    (State.isSet_of_rd (s.rd_resetHere src).2.2.1).trans hhead
  rw [heq, hhead]
  simp only [hdriven, hfree, Bool.false_eq_true, if_false, if_true]
  exact (State.offerDown_undriven hdriven).trans (State.ackUp_head hstill)

/-! #### Frames received -/

theorem State.rd_received (s : State) (g : Fld) (h : g.key ≠ F.CHN_RX_FRM.key) : (s.bump F.CHN_RX_FRM).rd g = s.rd g := s.rd_bump_other _ _ h

theorem State.isSet_received (s : State) (g : Fld) (h : g.key ≠ F.CHN_RX_FRM.key) : (s.bump F.CHN_RX_FRM).isSet g = s.isSet g :=
  State.isSet_of_rd (s.rd_received g h)

/-- What a chain frame that arrives intact does is what its own rule does to the state in which it is counted. -/
theorem State.chainRx_ok (s : State) (f : State → State) : s.chainRx true f = f (s.bump F.CHN_RX_FRM) := rfl

theorem State.addressed_received (s : State) : (s.bump F.CHN_RX_FRM).addressed = s.addressed := s.isSet_received _ (by decide)

theorem State.isHead_received (s : State) : (s.bump F.CHN_RX_FRM).isHead = s.isHead := s.isSet_received _ (by decide)

theorem State.addr_received (s : State) : (s.bump F.CHN_RX_FRM).addr = s.addr := s.rd_received _ (by decide)

/-- An acknowledgment of the head's whole chain, or one passed upward by another unit. -/
theorem State.downAck_passed {s : State} {maxCount units : Nat} (hhead : s.isHead = false) :
    let t := (s.updChain fun c => { c with downAck := some (maxCount, units), sentAt := none }).ackUp
    t.out = .chainAddrAck (max s.now maxCount) (1 + units) :: s.out ∧ t.chain.downAck = some (maxCount, units) ∧ t.chain.acked = true := by
  have hhead' : (s.updChain fun c => { c with downAck := some (maxCount, units), sentAt := none }).isHead = false := hhead
  intro t
  rw [show t = (s.updChain fun c => { c with downAck := some (maxCount, units), sentAt := none }).ackUp from rfl, State.out_ackUp hhead' rfl,
    State.chain_ackUp hhead']
  exact ⟨rfl, rfl, rfl⟩

/-- The downstream pair is noted as undriven. -/
def State.downUndriven (s : State) : State :=
  (s.wr F.CHN_CHAIN_STAT_DN_LINK 0).updChain fun c => { c with dnDriven := false, sentAt := none, downAck := none }

theorem State.rd_downUndriven (s : State) (g : Fld) (h : sparedBy g F.CHN_CHAIN_STAT_DN_LINK = true) : s.downUndriven.rd g = s.rd g :=
  s.rd_wr_spared _ g 0 h

theorem State.downUndriven_fields (s : State) : s.downUndriven.out = s.out ∧ s.downUndriven.now = s.now ∧
    s.downUndriven.chain = { s.chain with dnDriven := false, sentAt := none, downAck := none } := by
  rw [State.downUndriven]
  exact ⟨rfl, rfl, rfl⟩

/-- The loss of the upstream pair is noted. -/
def State.upstreamLost (s : State) : State :=
  ((s.wr F.CHN_CHAIN_STAT_UP_LINK 0).updChain fun c => { c with upLost := true, treq := none }).raise 3 7 NOTICE 4 0

theorem State.upstreamLost_fields (s : State) : s.upstreamLost.chain = { s.chain with upLost := true, treq := none } ∧
    (∀ g, sparedBy g F.CHN_CHAIN_STAT_UP_LINK = true → 0x28 ≤ g.key % 0x100000 → s.upstreamLost.rd g = s.rd g) ∧
    ((s.benchAt 3).state ≠ .off → hasBit (s.upstreamLost.rd (F.BENCH_EV_STAT 3)) 7 = true) := by
  refine ⟨?_, fun g hg hlow => ?_, fun hon => State.hasBit_raise _ _ _ _ _ _ (by decide) hon⟩
  · rw [State.upstreamLost, State.raise_chain]
    rfl
  · rw [State.upstreamLost, State.rd_raise_beyond _ _ _ _ _ _ _ hlow, State.updChain_rd, State.rd_wr_spared _ _ _ _ hg]

theorem State.rd_upLink_upstreamLost (s : State) : s.upstreamLost.rd F.CHN_CHAIN_STAT_UP_LINK = 0 := by
  rw [State.upstreamLost, State.rd_raise_beyond _ _ _ _ _ _ _ (by decide), State.updChain_rd]
  exact State.rd_wr_fits _ _ (by decide) (by decide)

theorem State.chainUpstreamLost_eq {s : State} (h : s.chain.upLost = false) : exec .chainUpstreamLost s =
    .next (if s.upstreamLost.rd F.TIM_SRC_CFG_SRC = 3 && (s.upstreamLost.servo == 1 || s.upstreamLost.servo == 2) then s.upstreamLost.enterHoldover
      else s.upstreamLost) := by
  rw [exec, execChainUpstreamLost, h, if_neg Bool.false_ne_true]
  rfl

theorem State.rd_relayMgmt (s : State) (o : Out) (g : Fld) (htx : g.key ≠ F.CHN_TX_FRM.key) (hdrop : g.key ≠ F.CHN_MGMT_DROP.key) :
    (s.relayMgmt o).rd g = s.rd g := by
  have heq : s.relayMgmt o = if !s.isSet F.CHN_CHAIN_CFG_MGMT_EN then s else
    if (s.draw .progress 2).1 = 0 then (s.draw .progress 2).2.bump F.CHN_MGMT_DROP else (s.draw .progress 2).2.chainSend o := rfl
  rw [heq]
  split
  · rfl
  · split
    · exact State.rd_bump_other _ _ _ hdrop
    · exact State.rd_chainSend _ _ _ htx

/-- A MGMT frame for another unit is sent on, or dropped for want of space and counted. -/
theorem State.relayMgmt_enabled {s : State} (h : s.isSet F.CHN_CHAIN_CFG_MGMT_EN = true) (o : Out) :
    (((s.relayMgmt o).out = o :: s.out ∧ (s.relayMgmt o).rd F.CHN_MGMT_DROP = s.rd F.CHN_MGMT_DROP) ∨
      ((s.relayMgmt o).out = s.out ∧ (s.relayMgmt o).rd F.CHN_MGMT_DROP = (s.rd F.CHN_MGMT_DROP + 1) % 2 ^ 32)) ∧ (s.relayMgmt o).mgt = s.mgt := by
  have heq : s.relayMgmt o = if (s.draw .progress 2).1 = 0 then (s.draw .progress 2).2.bump F.CHN_MGMT_DROP else (s.draw .progress 2).2.chainSend o := by
    rw [State.relayMgmt, h, Bool.not_true, if_neg Bool.false_ne_true]
  rw [heq]
  split
  · exact ⟨.inr ⟨rfl, State.rd_bump_counter ..⟩, rfl⟩
  · exact ⟨.inl ⟨rfl, State.rd_chainSend _ _ _ (by decide)⟩, rfl⟩

/-! #### Time and shots -/

/-- The state after a TRESP that shows a hop delay, before time is adjusted. -/
def State.measured (s : State) (delay : Nat) : State :=
  ((s.bump F.CHN_RX_FRM).wr F.CHN_HOP_DELAY_DELAY delay).updChain fun c => { c with treq := none, stepped := true }

theorem State.rd_measured (s : State) (delay : Nat) (g : Fld) (hrx : g.key ≠ F.CHN_RX_FRM.key) (hhop : g.key ≠ F.CHN_HOP_DELAY_DELAY.key) :
    (s.measured delay).rd g = s.rd g := (State.rd_wr_other _ _ g _ hhop).trans (s.rd_received g hrx)

theorem State.measured_fields (s : State) (delay : Nat) : (s.measured delay).chain.treq = none ∧ (s.measured delay).chain.stepped = true ∧
    (s.measured delay).rd F.CHN_HOP_DELAY_DELAY = delay % 2 ^ 32 ∧ (s.measured delay).tim = s.tim := by
  have hdelay : (s.measured delay).rd F.CHN_HOP_DELAY_DELAY = delay % 2 ^ 32 :=
    (s.bump F.CHN_RX_FRM).rd_wr_same F.CHN_HOP_DELAY_DELAY delay (by decide) (by decide)
  rw [hdelay, State.measured]
  exact ⟨rfl, rfl, rfl, rfl⟩

/-- The exchange of a TRESP that answers the outstanding TREQ, while serving and with another source of time. -/
theorem State.chainTresp_eq {s : State} {eseq t2 t3 t1 : Nat} (htreq : s.chain.treq = some (eseq, t1)) (hsrc : s.rd F.TIM_SRC_CFG_SRC ≠ 3)
    (hserving : s.isSet F.TIM_STAT_SERVING = true) :
    exec (.chainTresp true eseq t2 t3) s = .next (s.measured ((((s.now : Int) - t1) - ((t3 : Int) - t2)) / 2).toNat) := by
  have htreq' : (s.bump F.CHN_RX_FRM).chain.treq = some (eseq, t1) := htreq
  rw [exec, execChainTresp, State.chainRx_ok, htreq']
  simp only [bne_self_eq_false, Bool.false_eq_true, if_false]
  generalize hu : State.updChain (State.wr (s.bump F.CHN_RX_FRM) _ _) _ = u
  have hu' : s.measured ((((s.now : Int) - t1) - ((t3 : Int) - t2)) / 2).toNat = u := hu
  have hserving' : u.stepAllowed = false := by
    rw [← hu', State.stepAllowed, State.isSet, State.rd_measured _ _ _ (by decide) (by decide), ← State.isSet, hserving]
    rfl
  have hsrc' : (u.rd F.TIM_SRC_CFG_SRC != 3) = true := by
    rw [← hu', State.rd_measured _ _ _ (by decide) (by decide)]
    exact bne_iff_ne.mpr hsrc
  simp only [hserving', Bool.and_false, Bool.false_and, Bool.false_eq_true, if_false]
  rw [if_pos hsrc', hu']

theorem State.refuseShot_fields (s : State) (n : Nat) : (s.refuseShot n).out = s.out ∧ (s.refuseShot n).tim = s.tim ∧
    (s.refuseShot n).rd F.TIM_SHOT_STAT_REFUSED = (s.rd F.TIM_SHOT_STAT_REFUSED + 1) % 256 := by
  rw [State.refuseShot, State.out_raise_of_ne _ _ _ _ _ (by decide), State.raise_tim, State.rd_raise_beyond _ _ _ _ _ _ _ (by decide)]
  exact ⟨rfl, rfl, State.rd_wr_same _ _ _ (by decide) (by decide)⟩

/-- A chain shot at a unit that has an address, relayed before it is judged. -/
theorem State.chainShot_eq {s : State} {issuer t0 : Nat} {fromUp : Bool} (haddressed : s.addressed = true) :
    exec (.chainShot true t0 issuer fromUp) s =
      let u := (s.bump F.CHN_RX_FRM).chainSend (.chainShotRelay t0 issuer (!fromUp))
      .next (if s.isSet F.TIM_SHOT_CFG_CHAIN_EN then (u.shotRequest 4 t0 s.now 0).1 else u) := by
  have haddressed' := s.addressed_received.trans haddressed
  have hen : ((s.bump F.CHN_RX_FRM).chainSend (.chainShotRelay t0 issuer (!fromUp))).isSet F.TIM_SHOT_CFG_CHAIN_EN = s.isSet F.TIM_SHOT_CFG_CHAIN_EN :=
    (State.isSet_of_rd (State.rd_chainSend _ _ _ (by decide))).trans (s.isSet_received _ (by decide))
  rw [exec, execChainShot, State.chainRx_ok, haddressed', if_pos rfl]
  simp only [hen]
  rfl

theorem State.relayed_rd (s : State) (o : Out) (g : Fld) (hrx : g.key ≠ F.CHN_RX_FRM.key) (htx : g.key ≠ F.CHN_TX_FRM.key) :
    ((s.bump F.CHN_RX_FRM).chainSend o).rd g = s.rd g := (State.rd_chainSend _ _ _ htx).trans (s.rd_received _ hrx)

/-- A chain shot that nothing refuses, with no other shot pending or fired. -/
theorem State.shotRequest_first {s : State} {t0 : Nat} (hheld : s.isSet F.TIM_SHOT_STAT_HELD = false) (hlead : s.now + usU 1 ≤ t0) (hshots : s.tim.shots = [])
    (hfired : s.tim.fired = []) : (s.shotRequest 4 t0 s.now 0).1 = (s.updTim fun t => { t with shots := t.shots ++ [⟨t0, 2 ^ 4, s.now⟩] }).syncPending := by
  have hpending : s.pendingShots = 0 := by rw [State.pendingShots, hshots]; rfl
  have hearly : ¬ t0 < s.now + usU 1 := Nat.not_lt.mpr hlead
  simp only [State.shotRequest, hheld, hearly, hshots, hfired, hpending]
  rfl

end Sys2Proof.Machine

namespace Sys2Proof

open Machine

theorem chainAddr_offers : ∀ (s : State) (a : Nat),
    (s.stepDone 5 = true) →
    (a < 64) →
    s.addressed = false →
    s.chain.dnDriven = true →
    Completes (.chainAddr true a) s (fun t =>
      (t.addr = a) ∧
      (t.addressed = true) ∧
      (t.isHead = false) ∧
      (t.rd F.TIM_SRC_CFG_SRC = 3) ∧
      ((newOut s t).contains (.chainAddr (a + 1)) = true) ∧
      (t.chain.sentAt = some s.now) ∧
      (t.chain.waitFrom = none)) := by
  intro s a hstep ha hfree hdn
  refine .of_exec (t := (s.bump F.CHN_RX_FRM).takeAddress a) ?_ ?_
  · have hnew : (s.bump F.CHN_RX_FRM).addressed = false := s.addressed_received.trans hfree
    have hstep' : (s.bump F.CHN_RX_FRM).stepDone 5 = true := hstep
    rw [exec, execChainAddr, State.chainRx_ok, hstep', Bool.not_true, if_neg Bool.false_ne_true, if_neg (by omega), hnew, Bool.not_false, if_pos rfl]
  · obtain ⟨haddr, haddressed, hhead, hsrc⟩ := (s.bump F.CHN_RX_FRM).rd_takeAddress ha
    obtain ⟨hout, hsent, hwait⟩ := State.takeAddress_driven (s := s.bump F.CHN_RX_FRM) ha hdn
    exact ⟨haddr, haddressed, hhead, hsrc, contains_newOut_of_cons hout, hsent, hwait⟩

theorem chainAddr_acknowledges : ∀ (s : State) (a : Nat),
    (s.stepDone 5 = true) →
    (a < 64) →
    s.addressed = false →
    s.chain.dnDriven = false →
    Completes (.chainAddr true a) s (fun t =>
      (t.addr = a) ∧
      (t.addressed = true) ∧
      ((newOut s t).contains (.chainAddrAck s.now 1) = true) ∧
      (t.chain.acked = true)) := by
  intro s a hstep ha hfree hdn
  refine .of_exec (t := (s.bump F.CHN_RX_FRM).takeAddress a) ?_ ?_
  · have hnew : (s.bump F.CHN_RX_FRM).addressed = false := s.addressed_received.trans hfree
    have hstep' : (s.bump F.CHN_RX_FRM).stepDone 5 = true := hstep
    rw [exec, execChainAddr, State.chainRx_ok, hstep', Bool.not_true, if_neg Bool.false_ne_true, if_neg (by omega), hnew, Bool.not_false, if_pos rfl]
  · obtain ⟨haddr, haddressed, -, -⟩ := (s.bump F.CHN_RX_FRM).rd_takeAddress ha
    obtain ⟨hout, hacked⟩ := State.takeAddress_undriven (s := s.bump F.CHN_RX_FRM) ha hdn
    exact ⟨haddr, haddressed, contains_newOut_of_cons hout, hacked⟩

theorem chainAddr_refused : ∀ (s : State) (a : Nat),
    (s.stepDone 5 = true) →
    (64 ≤ a) →
    ((s.benchAt 3).state ≠ .off) →
    Completes (.chainAddr true a) s (fun t =>
      (t.addr = s.addr) ∧
      (t.addressed = s.addressed) ∧
      (hasBit (t.rd (F.BENCH_EV_STAT 3)) 6 = true) ∧
      (t.out = s.out)) := by
  intro s a hstep ha hon
  refine .of_exec (t := (s.bump F.CHN_RX_FRM).raise 3 6 ERROR 3 (a % 256)) ?_ ?_
  · have hstep' : (s.bump F.CHN_RX_FRM).stepDone 5 = true := hstep
    rw [exec, execChainAddr, State.chainRx_ok, hstep', Bool.not_true, if_neg Bool.false_ne_true, if_pos ha]
  · refine ⟨?_, ?_, State.hasBit_raise _ _ _ _ _ _ (by decide) hon, State.out_raise_of_ne _ _ _ _ _ (by decide)⟩
    · exact (State.rd_raise_beyond _ _ _ _ _ _ _ (by decide)).trans s.addr_received
    · exact (State.isSet_of_rd (State.rd_raise_beyond _ _ _ _ _ _ _ (by decide))).trans s.addressed_received

theorem chainAddr_corrupt : ∀ (s : State) (a : Nat),
    Completes (.chainAddr false a) s (fun t =>
      (t = s.bump F.CHN_CRC_ERR)) := by
  intro s a
  exact .of_exec (t := s.bump F.CHN_CRC_ERR) (by rw [exec, execChainAddr, State.chainRx, if_neg Bool.false_ne_true]) rfl

theorem chainAddrAck_atHead : ∀ (s : State) (maxCount : Nat) (units : Nat),
    s.addressed = true →
    s.isHead = true →
    (units < 128) →
    Completes (.chainAddrAck true maxCount units) s (fun t =>
      (t.rd F.CHN_CHAIN_STAT_UNITS = units) ∧
      (t.chain.downAck = some (maxCount, units)) ∧
      (t.chain.sentAt = none) ∧
      (t.out = s.out)) := by
  intro s maxCount units haddressed hhead hunits
  refine .of_exec (t := ((s.bump F.CHN_RX_FRM).updChain fun c => { c with downAck := some (maxCount, units), sentAt := none }).wr
    F.CHN_CHAIN_STAT_UNITS units) ?_ ?_
  · have haddressed' := s.addressed_received.trans haddressed
    have hhead' : ((s.bump F.CHN_RX_FRM).updChain fun c => { c with downAck := some (maxCount, units), sentAt := none }).isHead = true :=
      s.isHead_received.trans hhead
    rw [exec, execChainAddrAck, State.chainRx_ok, haddressed', Bool.not_true, if_neg Bool.false_ne_true]
    exact congrArg Host.Outcome.next (if_pos hhead')
  · exact ⟨State.rd_wr_fits _ _ (by decide) hunits, rfl, rfl, rfl⟩

theorem chainAddrAck_passed : ∀ (s : State) (maxCount : Nat) (units : Nat),
    s.addressed = true →
    s.isHead = false →
    Completes (.chainAddrAck true maxCount units) s (fun t =>
      ((newOut s t).contains (.chainAddrAck (max s.now maxCount) (1 + units)) = true) ∧
      (t.chain.downAck = some (maxCount, units)) ∧
      (t.chain.acked = true)) := by
  intro s maxCount units haddressed hhead
  refine .of_exec (t := ((s.bump F.CHN_RX_FRM).updChain fun c => { c with downAck := some (maxCount, units), sentAt := none }).ackUp) ?_ ?_
  · have haddressed' := s.addressed_received.trans haddressed
    have hhead' : ((s.bump F.CHN_RX_FRM).updChain fun c => { c with downAck := some (maxCount, units), sentAt := none }).isHead = false :=
      s.isHead_received.trans hhead
    rw [exec, execChainAddrAck, State.chainRx_ok, haddressed', Bool.not_true, if_neg Bool.false_ne_true]
    exact congrArg Host.Outcome.next (if_neg (by rw [hhead']; exact Bool.false_ne_true))
  · obtain ⟨hout, hdown, hacked⟩ := State.downAck_passed (s := s.bump F.CHN_RX_FRM) (maxCount := maxCount) (units := units) (s.isHead_received.trans hhead)
    exact ⟨contains_newOut_of_cons hout, hdown, hacked⟩

theorem addrRepeatTimer_repeats : ∀ (s : State) (t0 : Nat),
    (s.chain.sentAt = some t0) →
    s.addressed = true →
    s.chain.dnDriven = true →
    (s.due (t0 + msU 1) = true) →
    Completes .addrRepeatTimer s (fun t =>
      ((newOut s t).contains (.chainAddr (s.addr + 1)) = true) ∧
      (t.chain.sentAt = some s.now)) := by
  intro s t0 hsent haddressed hdn hdue
  refine .of_exec (t := s.offerDown) ?_ ?_
  · rw [exec, execAddrRepeatTimer, hsent]
    simp only [haddressed, hdn, hdue, Bool.and_self, if_true]
  · obtain ⟨hout, hchain⟩ := State.offerDown_driven hdn
    exact ⟨contains_newOut_of_cons hout, by rw [hchain]⟩

theorem headWaitExpiry_makesHead : ∀ (s : State) (t0 : Nat),
    (s.chain.waitFrom = some t0) →
    s.addressed = false →
    (s.due (t0 + secU 1 * s.rd F.CHN_CHAIN_CFG_HEAD_WAIT_S) = true) →
    Completes .headWaitExpiry s (fun t =>
      (t.isHead = true) ∧
      (t.addressed = true) ∧
      (t.addr = 0) ∧
      (t.chain.waitFrom = none)) := by
  intro s t0 hwait hfree hdue
  refine .of_exec (t := s.becomeHead 2) ?_ ?_
  · rw [exec, execHeadWaitExpiry, hwait]
    simp only [hfree, hdue, Bool.not_false, Bool.and_self, if_true]
  · obtain ⟨hhead, haddressed, haddr⟩ := s.rd_becomeHead 2
    exact ⟨hhead, haddressed, haddr, s.waitFrom_becomeHead 2⟩

theorem headWaitExpiry_idle : ∀ (s : State),
    s.chain.waitFrom = none →
    Completes .headWaitExpiry s (fun t =>
      (t = s)) := by
  intro s hwait
  exact .of_exec (t := s) (by rw [exec, execHeadWaitExpiry, hwait]) rfl

theorem chainDownstreamUndriven_acknowledges : ∀ (s : State),
    s.chain.sentAt.isSome = true →
    s.addressed = true →
    s.isHead = false →
    Completes .chainDownstreamUndriven s (fun t =>
      (t.chain.dnDriven = false) ∧
      (t.chain.sentAt = none) ∧
      (t.isSet F.CHN_CHAIN_STAT_DN_LINK = false) ∧
      ((newOut s t).contains (.chainAddrAck s.now 1) = true)) := by
  intro s hsent haddressed hhead
  have hhead' : s.downUndriven.isHead = false := (State.isSet_of_rd (s.rd_downUndriven _ (by decide))).trans hhead
  have haddressed' : s.downUndriven.addressed = true := (State.isSet_of_rd (s.rd_downUndriven _ (by decide))).trans haddressed
  obtain ⟨hout, hnow, hchain⟩ := s.downUndriven_fields
  refine .of_exec (t := s.downUndriven.ackUp) ?_ ?_
  · rw [exec, execChainDownstreamUndriven]
    exact congrArg Host.Outcome.next (if_pos (by rw [hsent]; exact haddressed'))
  · have hlink : s.downUndriven.rd F.CHN_CHAIN_STAT_DN_LINK = 0 := s.rd_wr_fits F.CHN_CHAIN_STAT_DN_LINK (by decide) (by decide)
    have hdown : s.downUndriven.chain.downAck.getD (0, 0) = (0, 0) := by rw [hchain]; rfl
    rw [State.chain_ackUp hhead', State.isSet, State.rd_ackUp _ _ (by decide), hlink, hchain]
    refine ⟨rfl, rfl, rfl, contains_newOut_of_cons ?_⟩
    rw [State.out_ackUp hhead' hdown, hnow, hout, Nat.max_zero]

theorem chainReset_passedDown : ∀ (s : State) (src : Nat),
    s.isHead = false →
    s.chain.dnDriven = true →
    s.servo = 0 →
    ((s.benchAt 3).state ≠ .off) →
    Completes (.chainReset true src true) s (fun t =>
      (t.addressed = false) ∧
      (t.addr = 0) ∧
      (t.chain.sentAt = none) ∧
      (t.chain.waitFrom = some s.now) ∧
      (hasBit (t.rd (F.BENCH_EV_STAT 3)) 9 = true) ∧
      ((newOut s t).contains (.chainReset src false) = true)) := by
  intro s src hhead hdn hservo hon
  generalize hu : s.bump F.CHN_RX_FRM = u
  have hhead' : u.isHead = false := hu ▸ s.isHead_received.trans hhead
  have hservo' : u.servo = 0 := hu ▸ (s.rd_received _ (by decide)).trans hservo
  have hdn' : u.chain.dnDriven = true := by rw [← hu]; exact hdn
  have hon' : (u.benchAt 3).state ≠ .off := by rw [← hu]; exact hon
  have hnow : u.now = s.now := by rw [← hu]; rfl
  have hout : u.out = s.out := by rw [← hu]; rfl
  refine .of_exec (t := u.chainReset src) ?_ ?_
  · rw [exec, execChainReset, State.chainRx_ok, Bool.true_or, if_pos rfl, hu]
  · obtain ⟨haddr, haddressed, -, -⟩ := u.rd_resetHere src
    obtain ⟨hkept, hchain⟩ := u.resetHere_fields src
    rw [State.chainReset_unit src hhead' hdn' hservo', State.addressed, State.addr, State.isSet, State.rd_chainSend _ _ _ (by decide),
      State.rd_chainSend _ _ _ (by decide), State.rd_chainSend _ _ _ (by decide), State.chainSend_chain, haddr, haddressed, hchain, hhead', hnow]
    exact ⟨rfl, rfl, rfl, rfl, State.hasBit_resetHere src hon', contains_newOut_of_cons (by rw [State.chainSend_out, hkept, hout])⟩

theorem chainReset_atHead : ∀ (s : State) (src : Nat) (fromUp : Bool),
    s.isHead = true →
    s.chain.dnDriven = false →
    s.servo = 0 →
    Completes (.chainReset true src fromUp) s (fun t =>
      (t.addressed = true) ∧
      (t.isHead = true) ∧
      (t.addr = 0) ∧
      (t.chain.downAck = none) ∧
      (t.out = s.out)) := by
  intro s src fromUp hhead hdn hservo
  generalize hu : s.bump F.CHN_RX_FRM = u
  have hhead' : u.isHead = true := hu ▸ s.isHead_received.trans hhead
  have hservo' : u.servo = 0 := hu ▸ (s.rd_received _ (by decide)).trans hservo
  have hdn' : u.chain.dnDriven = false := by rw [← hu]; exact hdn
  have hout : u.out = s.out := by rw [← hu]; rfl
  refine .of_exec (t := u.chainReset src) ?_ ?_
  · rw [exec, execChainReset, State.chainRx_ok, hu, hhead', Bool.or_true, if_pos rfl]
  · obtain ⟨haddr, haddressed, hstill, -⟩ := u.rd_resetHere src
    rw [State.chainReset_head src hhead' hdn' hservo', State.addressed, State.addr, State.isSet, State.updChain_rd, State.updChain_rd,
      State.updChain_out, (u.resetHere_fields src).1, haddr, haddressed, hhead']
    exact ⟨rfl, (State.isSet_of_rd hstill).trans hhead', rfl, rfl, hout⟩

theorem chainReset_passedUp : ∀ (s : State) (src : Nat),
    s.isHead = false →
    s.addressed = true →
    Completes (.chainReset true src false) s (fun t =>
      ((newOut s t).contains (.chainReset src true) = true) ∧
      (t.addr = s.addr) ∧
      (t.addressed = true)) := by
  intro s src hhead haddressed
  refine .of_exec (t := (s.bump F.CHN_RX_FRM).chainSend (.chainReset src true)) ?_ ?_
  · rw [exec, execChainReset, State.chainRx_ok, s.isHead_received, hhead, Bool.or_self, if_neg Bool.false_ne_true, s.addressed_received, haddressed,
      if_pos rfl]
  · exact ⟨contains_newOut_of_cons rfl, s.relayed_rd _ _ (by decide) (by decide),
      (State.isSet_of_rd (s.relayed_rd _ _ (by decide) (by decide))).trans haddressed⟩

theorem chnChainResetCmd_addressed : ∀ (s : State),
    (s.reloading 3 = false) →
    s.isHead = false →
    s.addressed = true →
    Completes .chnChainResetCmd s (fun t =>
      ((newOut s t).contains (.chainReset s.addr true) = true) ∧
      (t.addressed = true) ∧
      (t.chain = s.chain)) := by
  intro s hready hhead haddressed
  refine .of_exec (t := s.chainSend (.chainReset s.addr true)) ?_ ?_
  · rw [exec, execChnChainResetCmd, State.atWindow, hready, if_neg Bool.false_ne_true, State.orderChainReset, hhead, if_neg Bool.false_ne_true,
      haddressed, if_pos rfl]
  · exact ⟨contains_newOut_of_cons rfl, (State.isSet_of_rd (s.rd_chainSend _ _ (by decide))).trans haddressed, rfl⟩

theorem chnChainResetCmd_unaddressed : ∀ (s : State),
    (s.reloading 3 = false) →
    s.isHead = false →
    s.addressed = false →
    Completes .chnChainResetCmd s (fun t =>
      ((newOut s t).contains (.chainReset 0xFF true) = true) ∧
      (t.chain = s.chain)) := by
  intro s hready hhead haddressed
  refine .of_exec (t := s.chainSend (.chainReset 0xFF true)) ?_ ⟨contains_newOut_of_cons rfl, rfl⟩
  rw [exec, execChnChainResetCmd, State.atWindow, hready, if_neg Bool.false_ne_true, State.orderChainReset, hhead, if_neg Bool.false_ne_true,
    haddressed, if_neg Bool.false_ne_true]

theorem treqTimer_asks : ∀ (s : State),
    s.addressed = true →
    s.isHead = false →
    (s.isSet F.CHN_CHAIN_STAT_UP_LINK = true) →
    (s.due (s.chain.treqAt + msU 1) = true) →
    Completes .treqTimer s (fun t =>
      ((newOut s t).contains (.chainTreq ((s.chain.eseq + 1) % 2 ^ 32)) = true) ∧
      (t.chain = { s.chain with eseq := (s.chain.eseq + 1) % 2 ^ 32, treqAt := s.now, treq := some ((s.chain.eseq + 1) % 2 ^ 32, s.now) })) := by
  intro s haddressed hhead hlink hdue
  refine .of_exec (t := (s.chainSend (.chainTreq ((s.chain.eseq + 1) % 2 ^ 32))).updChain fun c =>
    { c with eseq := (s.chain.eseq + 1) % 2 ^ 32, treqAt := s.now, treq := some ((s.chain.eseq + 1) % 2 ^ 32, s.now) }) ?_
    ⟨contains_newOut_of_cons rfl, rfl⟩
  rw [exec, execTreqTimer, haddressed, hhead, hlink, hdue, Bool.not_false, Bool.and_self, Bool.and_self, Bool.and_self, if_pos rfl]

theorem chainTreq_answered : ∀ (s : State) (eseq : Nat),
    (s.stepDone 5 = true) →
    Completes (.chainTreq true eseq) s (fun t =>
      ((newOut s t).contains (.chainTresp eseq s.now s.now) = true) ∧
      (t.chain = s.chain) ∧
      (t.rd F.CHN_RX_FRM = (s.rd F.CHN_RX_FRM + 1) % 2 ^ 32)) := by
  intro s eseq hstep
  refine .of_exec (t := (s.bump F.CHN_RX_FRM).chainSend (.chainTresp eseq s.now s.now)) ?_ ⟨contains_newOut_of_cons rfl, rfl, ?_⟩
  · exact congrArg Host.Outcome.next (if_pos hstep)
  · exact (State.rd_chainSend _ _ _ (by decide)).trans (s.rd_bump_counter _)

theorem chainTresp_measures : ∀ (s : State) (eseq : Nat) (t2 : Nat) (t3 : Nat) (t1 : Nat),
    (s.chain.treq = some (eseq, t1)) →
    (s.rd F.TIM_SRC_CFG_SRC ≠ 3) →
    (s.isSet F.TIM_STAT_SERVING = true) →
    Completes (.chainTresp true eseq t2 t3) s (fun t =>
      (t.chain.treq = none) ∧
      (t.chain.stepped = true) ∧
      (t.rd F.CHN_HOP_DELAY_DELAY = ((((s.now : Int) - t1) - ((t3 : Int) - t2)) / 2).toNat % 2 ^ 32) ∧
      (t.tim = s.tim)) := by
  intro s eseq t2 t3 t1 htreq hsrc hserving
  exact .of_exec (State.chainTresp_eq htreq hsrc hserving) (s.measured_fields _)

theorem chainTresp_other : ∀ (s : State) (eseq : Nat) (t2 : Nat) (t3 : Nat),
    ((s.chain.treq.any (fun (z : Nat × Nat) => z.1 == eseq)) = false) →
    Completes (.chainTresp true eseq t2 t3) s (fun t =>
      (t.chain = s.chain) ∧
      (t.tim = s.tim) ∧
      (t.rd F.CHN_HOP_DELAY_DELAY = s.rd F.CHN_HOP_DELAY_DELAY)) := by
  intro s eseq t2 t3 hother
  refine .of_exec (t := s.bump F.CHN_RX_FRM) ?_ ⟨rfl, rfl, s.rd_received _ (by decide)⟩
  have htreq : (s.bump F.CHN_RX_FRM).chain.treq = s.chain.treq := rfl
  rw [exec, execChainTresp, State.chainRx_ok, htreq]
  cases h : s.chain.treq with
  | none => rfl
  | some z =>
    rw [h] at hother
    exact congrArg Host.Outcome.next (if_pos (by rw [bne, show (z.1 == eseq) = false from hother]; rfl))

theorem chainShot_held : ∀ (s : State) (issuer : Nat) (fromUp : Bool) (t0 : Nat),
    s.addressed = true →
    (s.isSet F.TIM_SHOT_CFG_CHAIN_EN = true) →
    (s.isSet F.TIM_SHOT_STAT_HELD = true) →
    Completes (.chainShot true t0 issuer fromUp) s (fun t =>
      ((newOut s t).contains (.chainShotRelay t0 issuer (!fromUp)) = true) ∧
      (t.tim = s.tim) ∧
      (t.rd F.TIM_SHOT_STAT_REFUSED = (s.rd F.TIM_SHOT_STAT_REFUSED + 1) % 256)) := by
  intro s issuer fromUp t0 haddressed hen hheld
  generalize hu : (s.bump F.CHN_RX_FRM).chainSend (.chainShotRelay t0 issuer (!fromUp)) = u
  have hheld' : u.isSet F.TIM_SHOT_STAT_HELD = true := hu ▸ (State.isSet_of_rd (s.relayed_rd _ _ (by decide) (by decide))).trans hheld
  refine .of_exec (t := u.refuseShot 3) ?_ ?_
  · rw [State.chainShot_eq haddressed, hen, hu]
    simp only [if_true, State.shotRequest, hheld']
  · obtain ⟨hout, htim, hrefused⟩ := u.refuseShot_fields 3
    rw [htim, hrefused, ← hu, s.relayed_rd _ _ (by decide) (by decide)]
    rw [← hu] at hout
    exact ⟨contains_newOut_of_cons hout, rfl, rfl⟩

theorem chainShot_accepted : ∀ (s : State) (issuer : Nat) (fromUp : Bool) (t0 : Nat),
    s.addressed = true →
    (s.isSet F.TIM_SHOT_CFG_CHAIN_EN = true) →
    (s.isSet F.TIM_SHOT_STAT_HELD = false) →
    (s.now + usU 1 ≤ t0) →
    (s.tim.shots = []) →
    (s.tim.fired = []) →
    Completes (.chainShot true t0 issuer fromUp) s (fun t =>
      ((newOut s t).contains (.chainShotRelay t0 issuer (!fromUp)) = true) ∧
      (t.tim.shots = [⟨t0, 16, s.now⟩])) := by
  intro s issuer fromUp t0 haddressed hen hheld hlead hshots hfired
  generalize hu : (s.bump F.CHN_RX_FRM).chainSend (.chainShotRelay t0 issuer (!fromUp)) = u
  have hheld' : u.isSet F.TIM_SHOT_STAT_HELD = false := hu ▸ (State.isSet_of_rd (s.relayed_rd _ _ (by decide) (by decide))).trans hheld
  have htim : u.tim = s.tim := by rw [← hu]; rfl
  have hnow : u.now = s.now := State.now_of_tim htim
  have hout : u.out = .chainShotRelay t0 issuer (!fromUp) :: s.out := by rw [← hu]; rfl
  have hfirst := State.shotRequest_first (s := u) (t0 := t0) hheld' (by rw [hnow]; exact hlead) (by rw [htim]; exact hshots) (by rw [htim]; exact hfired)
  rw [hnow] at hfirst
  refine .of_exec (t := (u.shotRequest 4 t0 s.now 0).1) ?_ ?_
  · rw [State.chainShot_eq haddressed, hen, hu]
    simp only [if_true]
  · rw [hfirst]
    refine ⟨contains_newOut_of_cons hout, ?_⟩
    have hlist : (u.updTim fun t => { t with shots := t.shots ++ [⟨t0, 2 ^ 4, s.now⟩] }).syncPending.tim.shots =
        u.tim.shots ++ [⟨t0, 2 ^ 4, s.now⟩] := rfl
    rw [hlist, htim, hshots, List.nil_append]
    rfl

theorem chainShot_notJudged : ∀ (s : State) (issuer : Nat) (fromUp : Bool) (t0 : Nat),
    s.addressed = true →
    (s.isSet F.TIM_SHOT_CFG_CHAIN_EN = false) →
    Completes (.chainShot true t0 issuer fromUp) s (fun t =>
      ((newOut s t).contains (.chainShotRelay t0 issuer (!fromUp)) = true) ∧
      (t.tim = s.tim) ∧
      (t.rd F.TIM_SHOT_STAT_REFUSED = s.rd F.TIM_SHOT_STAT_REFUSED)) := by
  intro s issuer fromUp t0 haddressed hen
  refine .of_exec (t := (s.bump F.CHN_RX_FRM).chainSend (.chainShotRelay t0 issuer (!fromUp))) ?_
    ⟨contains_newOut_of_cons rfl, rfl, s.relayed_rd _ _ (by decide) (by decide)⟩
  rw [State.chainShot_eq haddressed, hen]
  rfl

theorem chainUpstreamLost_noted : ∀ (s : State),
    s.chain.upLost = false →
    s.servo = 0 →
    ((s.benchAt 3).state ≠ .off) →
    Completes .chainUpstreamLost s (fun t =>
      (t.chain.upLost = true) ∧
      (t.isSet F.CHN_CHAIN_STAT_UP_LINK = false) ∧
      (t.addr = s.addr) ∧
      (t.addressed = s.addressed) ∧
      (hasBit (t.rd (F.BENCH_EV_STAT 3)) 7 = true)) := by
  intro s hkept hservo hon
  obtain ⟨hchain, hrd, hbit⟩ := s.upstreamLost_fields
  have hfree : (s.upstreamLost.servo == 1 || s.upstreamLost.servo == 2) = false := by
    rw [State.servo, hrd _ (by decide) (by decide), ← State.servo, hservo]
    rfl
  refine .of_exec (t := s.upstreamLost) ?_ ?_
  · rw [State.chainUpstreamLost_eq hkept, hfree, Bool.and_false, if_neg Bool.false_ne_true]
  · rw [hchain, State.isSet, s.rd_upLink_upstreamLost]
    exact ⟨rfl, rfl, hrd _ (by decide) (by decide), State.isSet_of_rd (hrd _ (by decide) (by decide)), hbit hon⟩

theorem chainUpstreamLost_holdover : ∀ (s : State),
    s.chain.upLost = false →
    (s.rd F.TIM_SRC_CFG_SRC = 3) →
    s.servo = 2 →
    Completes .chainUpstreamLost s (fun t =>
      (t.chain.upLost = true) ∧
      (t.servo = 3)) := by
  intro s hkept hsrc hservo
  obtain ⟨hchain, hrd, -⟩ := s.upstreamLost_fields
  have hlocked : (s.upstreamLost.servo == 1 || s.upstreamLost.servo == 2) = true := by
    rw [State.servo, hrd _ (by decide) (by decide), ← State.servo, hservo]
    rfl
  have hsrc' : s.upstreamLost.rd F.TIM_SRC_CFG_SRC = 3 := (hrd _ (by decide) (by decide)).trans hsrc
  refine .of_exec (t := s.upstreamLost.enterHoldover) ?_ ?_
  · rw [State.chainUpstreamLost_eq hkept, hlocked, Bool.and_true, if_pos (decide_eq_true hsrc')]
  · rw [State.enterHoldover, State.wr_chain, State.raise_chain, hchain]
    exact ⟨rfl, State.rd_wr_fits _ _ (by decide) (by decide)⟩

theorem chainUpstreamRestored_noted : ∀ (s : State),
    s.chain.upLost = true →
    Completes .chainUpstreamRestored s (fun t =>
      (t.chain.upLost = false) ∧
      (t.isSet F.CHN_CHAIN_STAT_UP_LINK = true) ∧
      (t.isSet F.CHN_CHAIN_STAT_UP_DRIVEN = true)) := by
  intro s hlost
  refine .of_exec (by rw [exec, execChainUpstreamRestored, hlost, Bool.not_true, if_neg Bool.false_ne_true]) ?_
  rw [State.raise_chain, State.isSet, State.isSet, State.rd_raise_beyond _ _ _ _ _ _ _ (by decide), State.rd_raise_beyond _ _ _ _ _ _ _ (by decide),
    State.updChain_rd, State.updChain_rd, State.rd_wr_fits _ _ (by decide) (by decide), State.rd_wr_spared _ _ _ _ (by decide),
    State.rd_wr_fits _ _ (by decide) (by decide)]
  exact ⟨rfl, rfl, rfl⟩

theorem chainMgmt_relayed : ∀ (s : State) (dst : Nat) (kind : Nat) (relay : Nat) (src : Nat) (command : Nat) (cc : Nat) (detail : Nat)
    (r : VendorReq) (fromUp : Bool),
    s.addressed = true →
    (dst ≠ s.addr) →
    (dst ≠ 0xFF) →
    (s.isSet F.CHN_CHAIN_CFG_MGMT_EN = true) →
    Completes (.chainMgmt true dst kind relay src command cc detail r fromUp) s (fun t =>
      ((t.out = .chainMgmt dst kind relay src command (r.tag :: r.unit :: cc :: detail :: r.body) (decide (dst < s.addr)) :: s.out ∧
        t.rd F.CHN_MGMT_DROP = s.rd F.CHN_MGMT_DROP) ∨
        (t.out = s.out ∧ t.rd F.CHN_MGMT_DROP = (s.rd F.CHN_MGMT_DROP + 1) % 2 ^ 32)) ∧
      (t.mgt = s.mgt)) := by
  intro s dst kind relay src command cc detail r fromUp haddressed hdst hall hen
  refine .of_exec (t := (s.bump F.CHN_RX_FRM).relayMgmt
    (.chainMgmt dst kind relay src command (r.tag :: r.unit :: cc :: detail :: r.body) (decide (dst < s.addr)))) ?_ ?_
  · have hother : (dst != s.addr) = true := bne_iff_ne.mpr hdst
    have hone : (dst != 0xFF) = true := bne_iff_ne.mpr hall
    have haddr : ∀ o, ((s.bump F.CHN_RX_FRM).relayMgmt o).addr = s.addr := fun o =>
      (State.rd_relayMgmt _ o _ (by decide) (by decide)).trans s.addr_received
    rw [exec, execChainMgmt, State.chainRx_ok, s.addressed_received, haddressed, Bool.not_true, if_neg Bool.false_ne_true]
    simp only [s.addr_received, hother, if_true, if_neg hall, haddr, hone, Bool.and_self]
  · obtain ⟨hkept, hmgt⟩ := State.relayMgmt_enabled (s := s.bump F.CHN_RX_FRM) ((s.isSet_received _ (by decide)).trans hen)
      (.chainMgmt dst kind relay src command (r.tag :: r.unit :: cc :: detail :: r.body) (decide (dst < s.addr)))
    rw [s.rd_received _ (by decide)] at hkept
    exact ⟨hkept, hmgt⟩

theorem chainMgmt_answered : ∀ (s : State) (dst : Nat) (relay : Nat) (src : Nat) (command : Nat) (cc : Nat) (detail : Nat)
    (r : VendorReq) (fromUp : Bool) (x : Relay),
    s.addressed = true →
    (dst = s.addr) →
    (s.mgt.relays = [x]) →
    x.tag = relay →
    x.unit = src →
    Completes (.chainMgmt true dst 2 relay src command cc detail r fromUp) s (fun t =>
      ((newOut s t).contains (.vendor x.path x.eid x.reqTag (x.command + 0x80) cc detail r.body) = true) ∧
      (t.mgt.relays = [])) := by
  intro s dst relay src command cc detail r fromUp x haddressed hdst hrelays htag hunit
  have hfound : ((s.bump F.CHN_RX_FRM).mgt.relays.find? fun z => z.tag == relay && z.unit == src) = some x := by
    rw [show (s.bump F.CHN_RX_FRM).mgt.relays = [x] from hrelays, List.find?_cons, htag, hunit, beq_self_eq_true, beq_self_eq_true, Bool.and_self]
  refine .of_exec (t := (s.bump F.CHN_RX_FRM).relayBack src relay cc detail r.body) ?_ ?_
  · have hhere : (dst != (s.bump F.CHN_RX_FRM).addr) = false := by rw [s.addr_received, hdst, bne_self_eq_false]
    rw [exec, execChainMgmt, State.chainRx_ok, s.addressed_received, haddressed, Bool.not_true, if_neg Bool.false_ne_true]
    simp only [hhere, Bool.false_and, Bool.false_eq_true, if_false]
    rfl
  · rw [State.relayBack, hfound]
    refine ⟨contains_newOut_of_cons rfl, ?_⟩
    have hleft : ((s.bump F.CHN_RX_FRM).mgt.relays.filter fun z => z.tag != relay) = [] := by
      rw [show (s.bump F.CHN_RX_FRM).mgt.relays = [x] from hrelays, List.filter_cons, htag, bne_self_eq_false]
      rfl
    exact hleft

/-- Settles O39: a clause for each frame and timer of the chain, each from what its rule leaves of the chain, the frames sent and the registers. -/
theorem unitChain : Obligations.UnitChain :=
    ⟨chainAddr_offers, chainAddr_acknowledges, chainAddr_refused, chainAddr_corrupt, chainAddrAck_atHead, chainAddrAck_passed,
    addrRepeatTimer_repeats, headWaitExpiry_makesHead, headWaitExpiry_idle, chainDownstreamUndriven_acknowledges, chainReset_passedDown,
    chainReset_atHead, chainReset_passedUp, chnChainResetCmd_addressed, chnChainResetCmd_unaddressed, treqTimer_asks, chainTreq_answered,
    chainTresp_measures, chainTresp_other, chainShot_held, chainShot_accepted, chainShot_notJudged, chainUpstreamLost_noted,
    chainUpstreamLost_holdover, chainUpstreamRestored_noted, chainMgmt_relayed, chainMgmt_answered⟩

end Sys2Proof
end

section
/-!
Member states: what each operation leaves of a slot and of a group's epoch, then O27.
-/

-- One declaration at a time, as with the lemmas about a serving unit.
set_option Elab.async false

namespace Sys2Proof.Machine

theorem State.Keeps.slots_eq {s t : State} {K : Nat} (h : t.Keeps K s) (hK : K.testBit 47 = false := by decide) : t.slots = s.slots :=
  (congrArg State.slots h.pieces).symm.trans (by simp only [State.blend, hK, cond_false])

theorem State.Keeps.groups_eq {s t : State} {K : Nat} (h : t.Keeps K s) (hK : K.testBit 36 = false := by decide) : t.groups = s.groups :=
  (congrArg State.groups h.pieces).symm.trans (by simp only [State.blend, hK, cond_false])

/-! ### A slot -/

/-- What a slot's state rests on: all of it but its read errors, its dirty regions and its drive. -/
def Slot.standing (x : Slot) : Nat × Nat × Nat × Option (Nat × Nat × Nat) × Bool × Bool := (x.state, x.group, x.ref, x.absent, x.order, x.allDirty)

theorem State.slot_of_slots {s t : State} (h : t.slots = s.slots) (n : Nat) : t.slot n = s.slot n := by rw [State.slot, h, State.slot]

theorem State.slot_lt {s : State} {n : Nat} (h : (s.slot n).state ≠ 7) : n < s.slots.length := by
  by_contra hn
  rw [State.slot, List.getD_eq_getElem?_getD, List.getElem?_eq_none (Nat.le_of_not_lt hn)] at h
  exact h rfl

theorem State.slot_updSlot_same (s : State) {n : Nat} {f : Slot → Slot} (h : n < s.slots.length) : (s.updSlot n f).slot n = f (s.slot n) := by
  simp [State.slot, State.updSlot, List.getD_eq_getElem?_getD, h]

theorem State.slot_updSlot_other (s : State) {m n : Nat} {f : Slot → Slot} (h : m ≠ n) : (s.updSlot m f).slot n = s.slot n := by
  simp [State.slot, State.updSlot, List.getD_eq_getElem?_getD, h]

/-- A change of a slot that leaves its standing. -/
theorem State.standing_updSlot (s : State) (m : Nat) {f : Slot → Slot} (hf : ∀ x, (f x).standing = x.standing) (n : Nat) :
    ((s.updSlot m f).slot n).standing = (s.slot n).standing := by
  simp only [State.slot, State.updSlot, List.getD_eq_getElem?_getD, List.getElem?_modify]
  split
  · cases s.slots[n]? with
    | none => rfl
    | some x => exact hf x
  · cases s.slots[n]? <;> rfl

theorem State.standing_setDrive (s : State) (m : Nat) (d : Slot → Option DriveRec) (n : Nat) :
    ((s.updSlot m fun x => { x with drive := d x }).slot n).standing = (s.slot n).standing :=
  s.standing_updSlot m (f := fun x => { x with drive := d x }) (fun _ => rfl) n

theorem State.standing_setDirty (s : State) (m : Nat) (d : Slot → List (Nat × Nat)) (n : Nat) :
    ((s.updSlot m fun x => { x with dirty := d x }).slot n).standing = (s.slot n).standing :=
  s.standing_updSlot m (f := fun x => { x with dirty := d x }) (fun _ => rfl) n

theorem State.slot_changeSlot_same (s : State) {n : Nat} (st : Nat) {f : Slot → Slot} (h : n < s.slots.length) :
    (s.changeSlot n st f).slot n = f { s.slot n with state := st, order := false } := by
  have hkept : (s.changeSlot n st f).slots = (s.updSlot n fun x => f { x with state := st, order := false }).slots :=
    (State.Keeps.mirrorSlot (.refl _ _) (.refl _)).slots_eq
  rw [State.slot_of_slots hkept, State.slot_updSlot_same s h]

theorem State.slot_changeSlot_other (s : State) {m n : Nat} (st : Nat) {f : Slot → Slot} (h : m ≠ n) : (s.changeSlot m st f).slot n = s.slot n := by
  have hkept : (s.changeSlot m st f).slots = (s.updSlot m fun x => f { x with state := st, order := false }).slots :=
    (State.Keeps.mirrorSlot (.refl _ _) (.refl _)).slots_eq
  rw [State.slot_of_slots hkept, State.slot_updSlot_other s h]

/-- Slot `n` keeps its standing, but for a drain that ends. -/
def State.KeepsSlot (n : Nat) (t s : State) : Prop :=
  (t.slot n).standing = (s.slot n).standing ∨ ((s.slot n).state = 3 ∧ (t.slot n).state = 0)

namespace State.KeepsSlot

variable {n : Nat} {r s t : State}

theorem refl (s : State) : State.KeepsSlot n s s := .inl rfl

theorem of_standing (h : (t.slot n).standing = (s.slot n).standing) : State.KeepsSlot n t s := .inl h

theorem of_slots (h : t.slots = s.slots) : State.KeepsSlot n t s := .inl (by rw [State.slot_of_slots h])

theorem trans (h : State.KeepsSlot n t s) (hs : State.KeepsSlot n s r) : State.KeepsSlot n t r := by
  obtain hs | ⟨h3, h0⟩ := hs
  · obtain h | ⟨h3', h0'⟩ := h
    · exact .inl (h.trans hs)
    · exact .inr ⟨(congrArg Prod.fst hs).symm.trans h3', h0'⟩
  · obtain h | ⟨h3', -⟩ := h
    · exact .inr ⟨h3, (congrArg Prod.fst h).trans h0⟩
    · exact absurd (h3'.symm.trans h0) (by decide)

/-- A slot that is not draining keeps its standing. -/
theorem standing_eq (h : State.KeepsSlot n t s) (h3 : (s.slot n).state ≠ 3) : (t.slot n).standing = (s.slot n).standing :=
  h.resolve_right fun h' => h3 h'.1

theorem addDirty (h : State.KeepsSlot n s r) (m nsid region : Nat) : State.KeepsSlot n (s.addDirty m nsid region) r := by
  unfold State.addDirty
  exact (of_slots (State.wr_slots ..)).trans ((of_standing (s.standing_setDirty m _ n)).trans h)

theorem fixGo (h : State.KeepsSlot n s r) (id : Nat) : State.KeepsSlot n (s.fixGo id) r := by
  unfold State.fixGo
  split
  · exact h
  · split
    · exact h
    · extract_lets all skip go wait s1 s2
      have h1 : State.KeepsSlot n s1 r := by
        refine foldl_keeps_of (P := fun t => State.KeepsSlot n t r) _ (fun t ht b _ => ?_) _ h
        split
        · exact ht.addDirty ..
        · exact ht
      have hlast : ((go.foldl (fun s b => s.sendFixWrite id b) s2).fixDoneIf id).Keeps 0x301000000000000000000002006700004010402 s2 :=
        State.Keeps.fixDoneIf ((State.Keeps.refl _ s2).foldl fun _ _ ht => ht.sendFixWrite (Covers.mono (.refl _))) (Covers.mono (.refl _))
      exact (of_slots hlast.slots_eq).trans ((of_slots rfl).trans h1)

theorem fixReadEnd (h : State.KeepsSlot n s r) (id : Nat) (b : BRef) (good : Bool) : State.KeepsSlot n (s.fixReadEnd id b good) r := by
  unfold State.fixReadEnd
  split
  · exact h
  · extract_lets more s1 s2 s3
    have h2 : s2.Keeps 0x1ffffffffffff03000000000000002006700004010402 s :=
      .updFix (.ite (.refl _ _) (.countRecon (.refl _ _) (Covers.mono (.refl _)))) (Covers.mono (.refl _))
    have h3 : s3.Keeps 0x1ffffffffffff03000000000000002006700004010402 s := by
      refine h2.foldl fun a x ha => ?_
      split
      · exact ha.issueM (Covers.mono (.refl _))
      · exact ha
    have hs3 : State.KeepsSlot n s3 r := (of_slots h3.slots_eq).trans h
    split
    · split
      · exact (of_slots (State.Keeps.issueIntent (.refl _ s3) (.refl _)).slots_eq).trans hs3
      · exact hs3.fixGo id
    · exact hs3

theorem fixWriteMissed (h : State.KeepsSlot n s r) (id m : Nat) (b : BRef) : State.KeepsSlot n (s.fixWriteMissed id m b) r := by
  unfold State.fixWriteMissed
  split
  · rename_i u _
    have hend := ((State.Keeps.refl _ (s.addDirty m u.nsid (u.slba / 16384))).updFix (id := id) (f := fun x => { x with missed := true })
      (Covers.mono (.refl _))).fixWriteEnd (id := id) (b := b) (.refl _)
    exact (of_slots hend.slots_eq).trans (h.addDirty ..)
  · exact h

theorem endMWork (h : State.KeepsSlot n s r) (m : Nat) (w : MWork) : State.KeepsSlot n (s.endMWork m w) r := by
  unfold State.endMWork
  split
  · exact (of_slots (State.Keeps.rewriteStripe (.refl _ s) (.refl _)).slots_eq).trans h
  · exact h.fixWriteMissed ..
  · exact h.fixReadEnd ..
  · exact h

theorem endCommands (h : State.KeepsSlot n s r) (m : Nat) : State.KeepsSlot n (s.endCommands m) r := by
  unfold State.endCommands
  extract_lets mine wait s1 s2
  have h2 : State.KeepsSlot n s2 r :=
    foldl_keeps_of (P := fun t => State.KeepsSlot n t r) _ (fun t ht w _ => ht.endMWork m w) _ ((of_slots rfl).trans h)
  have hread : (s2.rereadFrom m).slots = s2.slots := (State.Keeps.rereadFrom (.refl _ s2) (.refl _)).slots_eq
  have hquar : ((s2.rereadFrom m).syncQuar m).slots = (s2.rereadFrom m).slots := (State.Keeps.syncQuar (.refl _ _) (.refl _)).slots_eq
  exact (of_slots (((State.Keeps.issueWaiting (.refl _ _) (.refl _)).slots_eq.trans hquar).trans hread)).trans h2

/-- The end of a drain is a slot that becomes ABSENT. -/
theorem drainEnd (h : State.KeepsSlot n s r) (g : Nat) : State.KeepsSlot n (s.drainEnd g) r := by
  refine trans ?_ h
  unfold State.drainEnd
  split
  · exact .refl s
  · refine foldl_keeps_of (P := fun t => State.KeepsSlot n t s) _ (fun t ht m hm => ?_) _ (.refl s)
    refine trans (.of_slots (State.raise_slots ..)) ?_
    by_cases hmn : m = n
    · have h3 : (s.slot n).state = 3 := by
        have := (List.mem_filter.mp hm).2
        simp only [Bool.and_eq_true, beq_iff_eq] at this
        rw [← hmn]
        exact this.1.1
      have h7 : (t.slot n).state ≠ 7 := by
        obtain ht | ⟨-, ht⟩ := ht
        · rw [show (t.slot n).state = (s.slot n).state from congrArg Prod.fst ht, h3]
          decide
        · rw [ht]
          decide
      exact .inr ⟨h3, by rw [hmn, State.slot_changeSlot_same t 0 (State.slot_lt h7)]⟩
    · exact trans (.of_standing (by rw [State.slot_changeSlot_other t 0 hmn])) ht

theorem syncHealth (h : State.KeepsSlot n s r) (g : Nat) : State.KeepsSlot n (s.syncHealth g) r := by
  unfold State.syncHealth
  split
  · exact h
  · extract_lets s1 st old s2 s3 s4
    have h2 : State.KeepsSlot n s2 r := (of_slots (State.Keeps.syncGroup (.refl _ s1) (.refl _)).slots_eq).trans (h.drainEnd g)
    split
    · exact h2
    · have h4 : s4.slots = s2.slots := by
        unfold s4
        split
        · exact State.raise_slots ..
        · rfl
      exact (of_slots ((State.Keeps.noticeAll (.refl _ s4) (.refl _)).slots_eq.trans h4)).trans h2

theorem settle (h : State.KeepsSlot n s r) (m : Nat) : State.KeepsSlot n (s.settle m) r := by
  unfold State.settle
  extract_lets g s1
  have h1 : State.KeepsSlot n s1 r :=
    (of_slots ((State.Keeps.syncLed (.refl _ _) (.refl _)).slots_eq.trans (State.Keeps.syncDirty (.refl _ s) (.refl _)).slots_eq)).trans h
  split
  · have h2 : State.KeepsSlot n ((s1.syncGroup g).syncHealth g) r :=
      ((of_slots (State.Keeps.syncGroup (.refl _ s1) (.refl _)).slots_eq).trans h1).syncHealth g
    exact (of_slots (State.Keeps.placeWaiting (.refl _ _) (.refl _)).slots_eq).trans h2
  · exact h1

theorem writeMember (h : State.KeepsSlot n s r) (g : Nat) : State.KeepsSlot n (s.writeMember g) r := by
  unfold State.writeMember
  split
  · exact h
  · extract_lets mem gr w s1 bits gen
    refine (of_slots (State.Keeps.bgIo (.refl _ _) (.refl _)).slots_eq).trans ?_
    exact foldl_keeps_of (P := fun t => State.KeepsSlot n t r) _ (fun t ht m _ => (of_standing (t.standing_setDrive m _ n)).trans ht) _
      ((of_slots rfl).trans h)

end State.KeepsSlot

/-! ### Transitions -/

theorem State.slot_leaveService (s : State) (n : Nat) (hs : n < s.slots.length) : n < (s.leaveService n).slots.length := by
  unfold State.leaveService
  split
  · exact hs
  · extract_lets g gr
    have hkept := (State.Keeps.refl _ (s.updSlot n fun x => { x with absent := some (gr.epoch, gr.fseq, s.now) })).updGroup (g := g)
      (f := fun x => { x with epoch := x.epoch + 1 }) (Covers.mono (.refl _)) |>.mirrorSlot (k := n)
      (μ := 0x80000000000100000000600000001000000402) (Covers.mono (.refl _))
    rw [hkept.slots_eq]
    exact (List.length_modify ..).symm ▸ hs

/-- A member that leaves service for another state. -/
theorem State.slot_leftFor (s : State) (n st g : Nat) (hs : n < s.slots.length) :
    ((((s.leaveService n).putSlot n st).writeMember g).slot n).state = st ∨
      st = 3 ∧ ((((s.leaveService n).putSlot n st).writeMember g).slot n).state = 0 := by
  have hput : (((s.leaveService n).putSlot n st).slot n).state = st := by
    rw [State.putSlot, State.slot_changeSlot_same _ _ (s.slot_leaveService n hs)]
    rfl
  obtain h | ⟨h3, h0⟩ := (State.KeepsSlot.refl (n := n) ((s.leaveService n).putSlot n st)).writeMember g
  · exact .inl ((congrArg Prod.fst h).trans hput)
  · exact .inr ⟨hput.symm.trans h3, h0⟩

theorem State.state_of_standing {s t : State} {n : Nat} (h : (t.slot n).standing = (s.slot n).standing) : (t.slot n).state = (s.slot n).state :=
  congrArg Prod.fst h

theorem State.absent_of_standing {s t : State} {n : Nat} (h : (t.slot n).standing = (s.slot n).standing) : (t.slot n).absent = (s.slot n).absent :=
  congrArg (fun x => x.2.2.2.1) h

theorem State.ref_of_standing {s t : State} {n : Nat} (h : (t.slot n).standing = (s.slot n).standing) : (t.slot n).ref = (s.slot n).ref :=
  congrArg (fun x => x.2.2.1) h

theorem State.order_of_standing {s t : State} {n : Nat} (h : (t.slot n).standing = (s.slot n).standing) : (t.slot n).order = (s.slot n).order :=
  congrArg (fun x => x.2.2.2.2.1) h

theorem State.allDirty_of_standing {s t : State} {n : Nat} (h : (t.slot n).standing = (s.slot n).standing) : (t.slot n).allDirty = (s.slot n).allDirty :=
  congrArg (fun x => x.2.2.2.2.2) h

/-- A change of a slot's state to one that is not draining stands after its group is brought in line. -/
theorem State.standing_changed (s : State) {n st : Nat} {f : Slot → Slot} (hs : n < s.slots.length)
    (hf : (f { s.slot n with state := st, order := false }).state ≠ 3) :
    (((s.changeSlot n st f).settle n).slot n).standing = (f { s.slot n with state := st, order := false }).standing := by
  have hslot := s.slot_changeSlot_same (n := n) st (f := f) hs
  have hsettle := (State.KeepsSlot.refl (n := n) (s.changeSlot n st f)).settle n
  rw [hsettle.standing_eq (by rw [hslot]; exact hf), hslot]

theorem State.standing_forget {s : State} {n : Nat} (hs : n < s.slots.length) : ((s.forgetSlot n).slot n).standing =
    (0, (s.slot n).group, (s.slot n).ref, none, false, true) :=
  s.standing_changed (f := fun x => { x with absent := none, allDirty := true, dirty := [] }) hs (by decide : (0 : Nat) ≠ 3)

theorem State.standing_join {s : State} {n : Nat} (order : Bool) (hs : n < s.slots.length) : ((s.joinSlot n order).slot n).standing =
    (6, (s.slot n).group, (s.slot n).ref, none, order, true) :=
  s.standing_changed (f := fun x => { x with
    absent := none, allDirty := true, dirty := [], order := order, drive := x.drive.map fun d => { d with valid := false } }) hs (by decide : (6 : Nat) ≠ 3)

theorem State.suspectSlot_slot (s : State) {n : Nat} (cause ref : Nat) (hs : n < s.slots.length) :
    ((s.suspectSlot n cause ref).slot n).state = 2 ∧ ((s.suspectSlot n cause ref).slot n).ref = ref := by
  have hleft := (s.slot_leftFor n 2 (s.slot n).group hs).resolve_right fun h => absurd h.1 (by decide)
  generalize hu : ((s.leaveService n).putSlot n 2).writeMember (s.slot n).group = u at hleft
  have hsame : s.suspectSlot n cause ref = (((u.updSlot n fun x => { x with ref := ref }).raiseLay (s.slot n).group 10 NOTICE 7
      (u.slotData n + 65536 * cause)).rereadFrom n).settle n := by
    rw [State.suspectSlot, hu]
  rw [hsame]
  generalize hv : (u.updSlot n fun x => { x with ref := ref }).raiseLay (s.slot n).group 10 NOTICE 7 (u.slotData n + 65536 * cause) = v
  have hslot : v.slot n = { u.slot n with ref := ref } := by
    rw [← hv, State.raiseLay, State.slot_of_slots (State.raise_slots ..), State.slot_updSlot_same u (State.slot_lt (by rw [hleft]; decide))]
  have hkept : State.KeepsSlot n ((v.rereadFrom n).settle n) v :=
    (State.KeepsSlot.of_slots (State.Keeps.rereadFrom (.refl _ v) (.refl _)).slots_eq).settle n
  have hstanding := hkept.standing_eq (by rw [hslot, hleft]; decide)
  rw [State.state_of_standing hstanding, State.ref_of_standing hstanding, hslot]
  exact ⟨hleft, rfl⟩

theorem State.failSlot_slot (s : State) {n : Nat} (cause : Nat) (hs : n < s.slots.length) : ((s.failSlot n cause).slot n).state = 4 := by
  have hleft := (s.slot_leftFor n 4 (s.slot n).group hs).resolve_right fun h => absurd h.1 (by decide)
  unfold State.failSlot
  extract_lets g s1 s2 s3 s4
  have h2 : State.KeepsSlot n s2 s1 := .of_slots (State.raise_slots ..)
  have hwork : ((s2.endCommands n).enterWork g n).slots = (s2.endCommands n).slots := (State.Keeps.enterWork (.refl _ _) (.refl _)).slots_eq
  have hscan : s3.slots = ((s2.endCommands n).enterWork g n).slots := (State.Keeps.lossScan (.refl _ _) (.refl _)).slots_eq
  have h3 : State.KeepsSlot n s3 s1 := (State.KeepsSlot.of_slots (hscan.trans hwork)).trans (h2.endCommands n)
  have h4 : State.KeepsSlot n s4 s3 := by
    unfold s4
    split
    · have hport := ((State.Keeps.refl _ s3).holdPerst (k := n) (Covers.refl _)).updPort (k := n)
        (f := fun p => { p with recoverAt := some (s3.now + msU 100) })
        (Covers.mono (.refl _))
      exact .of_slots hport.slots_eq
    · exact .refl s3
  have hall : State.KeepsSlot n (s4.settle n) s1 := (h4.trans h3).settle n
  exact (State.state_of_standing (hall.standing_eq (by rw [show (s1.slot n).state = 4 from hleft]; decide))).trans hleft

theorem State.drainSlot_slot (s : State) {n : Nat} (hs : n < s.slots.length) :
    ((s.drainSlot n).slot n).state = 3 ∨ ((s.drainSlot n).slot n).state = 0 := by
  have hleft := s.slot_leftFor n 3 (s.slot n).group hs
  unfold State.drainSlot
  extract_lets g s1
  have hwork : State.KeepsSlot n (s1.enterWork g n) s1 := .of_slots (State.Keeps.enterWork (.refl _ s1) (.refl _)).slots_eq
  obtain h | ⟨-, h0⟩ := hwork.settle n
  · rw [State.state_of_standing h]
    exact hleft.imp id fun h => h.2
  · exact .inr h0

theorem State.enterService_slot (s : State) {n : Nat} (code : Nat) (hs : n < s.slots.length) :
    ((s.enterService n code).slot n).standing = { s.slot n with state := 1, order := false }.standing := by
  unfold State.enterService
  extract_lets g s1
  have hput : ((s.putSlot n 1).slot n) = { s.slot n with state := 1, order := false } := s.slot_changeSlot_same 1 hs
  have h1 : State.KeepsSlot n s1 (s.putSlot n 1) := (State.KeepsSlot.of_slots rfl).writeMember g
  have hall : State.KeepsSlot n ((s1.raiseLay g 12 INFO code (s1.slotData n)).settle n) (s.putSlot n 1) :=
    ((State.KeepsSlot.of_slots (State.raise_slots ..)).trans h1).settle n
  rw [hall.standing_eq (by rw [hput]; exact (by decide : (1 : Nat) ≠ 3)), hput]


/-! ### Epochs -/

theorem State.group_of_groups {s t : State} (h : t.groups = s.groups) (g : Nat) : t.group g = s.group g := by rw [State.group, h, State.group]

theorem State.group_updGroup_same (s : State) {g : Nat} {f : Group → Group} (h : g < s.groups.length) : (s.updGroup g f).group g = f (s.group g) := by
  simp [State.group, State.updGroup, List.getD_eq_getElem?_getD, h]

/-- The epoch of a group stays. -/
def State.KeepsEpoch (i : Nat) (t s : State) : Prop := (t.group i).epoch = (s.group i).epoch

namespace State.KeepsEpoch

variable {i : Nat} {r s t : State}

theorem refl (s : State) : State.KeepsEpoch i s s := rfl

theorem of_groups (h : t.groups = s.groups) : State.KeepsEpoch i t s := congrArg Group.epoch (State.group_of_groups h i)

theorem trans (h : State.KeepsEpoch i t s) (hs : State.KeepsEpoch i s r) : State.KeepsEpoch i t r := Eq.trans h hs

/-- A change of a group that leaves its epoch. -/
theorem updGroup (h : State.KeepsEpoch i s r) (g : Nat) {f : Group → Group} (hf : ∀ x, (f x).epoch = x.epoch) :
    State.KeepsEpoch i (s.updGroup g f) r := by
  refine trans ?_ h
  simp only [State.KeepsEpoch, State.group, State.updGroup, List.getD_eq_getElem?_getD, List.getElem?_modify]
  split
  · cases s.groups[i]? with
    | none => rfl
    | some x => exact hf x
  · cases s.groups[i]? <;> rfl

theorem setHold (h : State.KeepsEpoch i s r) (g : Nat) (v : Option Nat) :
    State.KeepsEpoch i (s.updGroup g fun x => { x with holdSince := v }) r := h.updGroup g (f := fun x => { x with holdSince := v }) fun _ => rfl

theorem setCursor (h : State.KeepsEpoch i s r) (g : Nat) (c l : Group → Nat) :
    State.KeepsEpoch i (s.updGroup g fun x => { x with cursor := c x, lastSlot := l x }) r :=
  h.updGroup g (f := fun x => { x with cursor := c x, lastSlot := l x }) fun _ => rfl

theorem withStripes (h : State.KeepsEpoch i s r) (l : List Stripe) : State.KeepsEpoch i { s with stripes := l } r := h

theorem updCmd (h : State.KeepsEpoch i s r) (id : Nat) (f : Cmd → Cmd) : State.KeepsEpoch i (s.updCmd id f) r := h

theorem syncHold (h : State.KeepsEpoch i s r) (g : Nat) : State.KeepsEpoch i (s.syncHold g) r := by
  unfold State.syncHold
  extract_lets +onlyGivenNames f
  split
  · split
    · extract_lets s1
      exact (of_groups ((State.raise_groups ..).trans (State.wr_groups ..))).trans (h.setHold g _)
    · exact h
  · extract_lets +onlyGivenNames us s1
    have h1 : State.KeepsEpoch i s1 r := ((of_groups (State.wr_groups ..)).trans h).setHold g _
    split
    · extract_lets s2
      exact (of_groups ((State.raise_groups ..).trans (State.wr_groups ..))).trans (h1.setHold g _)
    · exact h1

theorem syncGroup (h : State.KeepsEpoch i s r) (g : Nat) : State.KeepsEpoch i (s.syncGroup g) r := by
  unfold State.syncGroup
  split
  · exact h
  · extract_lets s1 s2 s3
    have h3 : State.KeepsEpoch i s3 r :=
      (of_groups (((State.wr_groups ..).trans (State.wr_groups ..)).trans (State.wr_groups ..))).trans h
    split
    · exact (of_groups (State.Keeps.syncEntries (.refl _ _) (.refl _)).groups_eq).trans (h3.syncHold g)
    · exact h3

theorem openStripe {g k : Nat} {st : Stream} (h : State.KeepsEpoch i s r) (ht : s.openStripe g st = some (k, t)) : State.KeepsEpoch i t r := by
  unfold State.openStripe at ht
  split at ht
  · cases ht
  · dsimp only at ht
    split at ht
    · split at ht
      · cases ht
      · obtain ⟨-, rfl⟩ := Prod.mk.inj (Option.some.inj ht)
        exact syncGroup (setCursor (h.withStripes _) g _ _) g
    · cases ht

theorem stripeFor {g k : Nat} {st : Stream} (h : State.KeepsEpoch i s r) (ht : s.stripeFor g st = some (k, t)) : State.KeepsEpoch i t r := by
  unfold State.stripeFor at ht
  split at ht
  · cases ht
    exact h
  · split at ht
    · exact h.openStripe ht
    · cases ht

theorem place (h : State.KeepsEpoch i s r) (g : Nat) (st : Stream) (b : SBlock) : State.KeepsEpoch i (s.place g st b).1 r := by
  unfold State.place
  split
  · exact h
  · rename_i u heq
    extract_lets +onlyGivenNames starts
    split
    · split
      · exact (of_groups (State.Keeps.closeStripe (.refl _ s) (.refl _)).groups_eq).trans h
      · exact h
    · extract_lets +onlyGivenNames s1
      have h1 : State.KeepsEpoch i s1 r := (of_groups (State.Keeps.placeIn (.refl _ u) (.refl _)).groups_eq).trans (h.stripeFor heq)
      split
      · exact h1.updGroup g (f := fun x => { x with placedInPeriod := x.placedInPeriod + 1 }) fun _ => rfl
      · exact h1

theorem of_fst {p : State × Option Nat} {q : Option Nat} (h : State.KeepsEpoch i p.1 r) (hp : p = (t, q)) : State.KeepsEpoch i t r := by
  rw [hp] at h
  exact h

theorem placeCmd (h : State.KeepsEpoch i s r) (id : Nat) : State.KeepsEpoch i (s.placeCmd id) r := by
  unfold State.placeCmd
  split
  · exact h
  · split
    · exact h
    · extract_lets slba
      split
      · exact h
      · refine foldl_keeps_of (P := fun t => State.KeepsEpoch i t r) _ (fun t ht x _ => ?_) _ h
        split
        · split
          · exact ht
          · split
            · rename_i heq
              exact ((ht.place ..).of_fst heq).updCmd ..
            · rename_i heq
              exact (ht.place ..).of_fst heq
        · exact ht

theorem placeWaiting (h : State.KeepsEpoch i s r) (g : Nat) : State.KeepsEpoch i (s.placeWaiting g) r := by
  unfold State.placeWaiting
  exact foldl_keeps_of (P := fun t => State.KeepsEpoch i t r) _ (fun t ht x _ => ht.placeCmd x.id) _ h

theorem syncHealth (h : State.KeepsEpoch i s r) (g : Nat) : State.KeepsEpoch i (s.syncHealth g) r := by
  unfold State.syncHealth
  split
  · exact h
  · extract_lets s1 st old s2 s3 s4
    have h2 : State.KeepsEpoch i s2 r := ((of_groups (State.Keeps.drainEnd (.refl _ s) (.refl _)).groups_eq).trans h).syncGroup g
    split
    · exact h2
    · have h3 : State.KeepsEpoch i s3 r := h2.updGroup g (f := fun x => { x with c2state := st }) fun _ => rfl
      have h4 : State.KeepsEpoch i s4 r := by
        unfold s4
        split
        · exact (of_groups (State.raise_groups ..)).trans h3
        · exact h3
      exact (of_groups (State.Keeps.noticeAll (.refl _ s4) (.refl _)).groups_eq).trans h4

theorem settle (h : State.KeepsEpoch i s r) (m : Nat) : State.KeepsEpoch i (s.settle m) r := by
  unfold State.settle
  extract_lets g s1
  have h1 : State.KeepsEpoch i s1 r :=
    (of_groups ((State.Keeps.syncLed (.refl _ _) (.refl _)).groups_eq.trans (State.Keeps.syncDirty (.refl _ s) (.refl _)).groups_eq)).trans h
  split
  · exact ((h1.syncGroup g).syncHealth g).placeWaiting g
  · exact h1

end State.KeepsEpoch

theorem State.epoch_enterService (s : State) {n : Nat} (code : Nat) (hg : (s.slot n).group < s.groups.length) :
    ((s.enterService n code).group (s.slot n).group).epoch = (s.group (s.slot n).group).epoch + 1 := by
  unfold State.enterService
  extract_lets g s1
  have hput : (s.putSlot n 1).groups = s.groups := (State.Keeps.putSlot (.refl _ s) (.refl _)).groups_eq
  have hraised : (((s.putSlot n 1).updGroup g fun x => { x with epoch := x.epoch + 1 }).group g).epoch = (s.group g).epoch + 1 := by
    rw [State.group_updGroup_same _ (by rw [hput]; exact hg), State.group_of_groups hput]
  have h1 : State.KeepsEpoch g s1 ((s.putSlot n 1).updGroup g fun x => { x with epoch := x.epoch + 1 }) :=
    .of_groups (State.Keeps.writeMember (.refl _ _) (.refl _)).groups_eq
  have hall : State.KeepsEpoch g ((s1.raiseLay g 12 INFO code (s1.slotData n)).settle n) s1 := (State.KeepsEpoch.of_groups (State.raise_groups ..)).settle n
  exact Eq.trans (hall.trans h1) hraised

end Sys2Proof.Machine

namespace Sys2Proof

open Machine

theorem memberCommandAge_suspects : ∀ (s : State) (slot : Nat),
    (s.aged slot = true) →
    ((s.slot slot).state = 1) →
    Completes (.memberCommandAge slot) s (fun t =>
      ((t.slot slot).state = 2) ∧
      (some (t.slot slot).ref = s.oldestCmd slot)) := by
  intro s slot haged hstate
  obtain ⟨t0, hold⟩ : ∃ t0, s.oldestCmd slot = some t0 := by
    cases h : s.oldestCmd slot with
    | none => rw [State.aged, h] at haged; cases haged
    | some t0 => exact ⟨t0, rfl⟩
  refine .of_exec (t := s.suspectSlot slot 1 t0) ?_ ?_
  · rw [exec, execMemberCommandAge, if_pos haged, State.memberStalled]
    simp [hstate, hold]
  · obtain ⟨hst, href⟩ := s.suspectSlot_slot 1 t0 (n := slot) (State.slot_lt (by rw [hstate]; decide))
    exact ⟨hst, by rw [href, hold]⟩

theorem memberFailTimer_fails : ∀ (s : State) (slot : Nat),
    ((s.slot slot).state = 2) →
    (s.due ((s.slot slot).ref + msU (s.rd F.LAY_REB_CFG_FAIL_MS)) = true) →
    Completes (.memberFailTimer slot) s (fun t =>
      ((t.slot slot).state = 4)) := by
  intro s slot hstate hdue
  refine .of_exec (t := s.failSlot slot 1) ?_ (s.failSlot_slot 1 (State.slot_lt (by rw [hstate]; decide)))
  rw [exec, execMemberFailTimer]
  simp only [hstate, hdue, decide_true, Bool.and_self, if_true]

theorem memberReturnExpiry_forgets : ∀ (s : State) (slot : Nat) (e q at_ : Nat),
    ((s.slot slot).state = 4) →
    ((s.slot slot).absent = some (e, q, at_)) →
    (s.due (at_ + minU (s.rd F.LAY_REB_CFG_RETURN_MIN)) = true) →
    Completes (.memberReturnExpiry slot) s (fun t =>
      ((t.slot slot).state = 0) ∧
      ((t.slot slot).absent = none) ∧
      ((t.slot slot).allDirty = true)) := by
  intro s slot e q at_ hstate habsent hdue
  refine .of_exec (t := s.forgetSlot slot) ?_ ?_
  · rw [exec, execMemberReturnExpiry]
    simp only [hstate, habsent, hdue, if_true]
  · have hstanding := State.standing_forget (s := s) (n := slot) (State.slot_lt (by rw [hstate]; decide))
    exact ⟨congrArg Prod.fst hstanding, congrArg (fun x => x.2.2.2.1) hstanding, congrArg (fun x => x.2.2.2.2.2) hstanding⟩

theorem driveOffer_joins : ∀ (s : State) (slot : Nat) (r : DriveRec),
    ((s.slot slot).state = 0) →
    ((s.group (s.slot slot).group).mounted = true) →
    (s.isSet F.LAY_REB_CFG_AUTO_JOIN = true) →
    ((s.group (s.slot slot).group).rows ≤ positions r.capacity) →
    Completes (.driveOffer slot r) s (fun t =>
      ((t.slot slot).state = 6) ∧
      ((t.slot slot).absent = none) ∧
      ((t.slot slot).allDirty = true)) := by
  intro s slot r hstate hmounted hauto hrows
  have hlen : slot < s.slots.length := State.slot_lt (by rw [hstate]; decide)
  have hslot : (s.updSlot slot fun x => { x with drive := some r }).slot slot = { s.slot slot with drive := some r } := s.slot_updSlot_same hlen
  have hfits : (s.updSlot slot fun x => { x with drive := some r }).fitsGroup slot = true := by
    rw [State.fitsGroup, hslot]
    exact decide_eq_true hrows
  refine .of_exec (t := (s.updSlot slot fun x => { x with drive := some r }).joinSlot slot false) ?_ ?_
  · have hmounted' : ((s.updSlot slot fun x => { x with drive := some r }).group (s.slot slot).group).mounted = true := hmounted
    have hauto' : (s.updSlot slot fun x => { x with drive := some r }).isSet F.LAY_REB_CFG_AUTO_JOIN = true := hauto
    rw [exec, execDriveOffer, State.offer]
    simp [hslot, hmounted', hstate, hauto', hfits]
  · have hstanding := State.standing_join (s := s.updSlot slot fun x => { x with drive := some r }) (n := slot) false
      (State.slot_lt (by rw [hslot]; exact hstate ▸ (by decide)))
    exact ⟨congrArg Prod.fst hstanding, congrArg (fun x => x.2.2.2.1) hstanding, congrArg (fun x => x.2.2.2.2.2) hstanding⟩

theorem joinRecordWritten_serves : ∀ (s : State) (slot : Nat),
    ((s.slot slot).state = 6) →
    ((s.slot slot).group < s.groups.length) →
    Completes (.joinRecordWritten slot) s (fun t =>
      ((t.slot slot).state = 1) ∧
      ((t.group (s.slot slot).group).epoch = (s.group (s.slot slot).group).epoch + 1)) := by
  intro s slot hstate hgroup
  refine .of_exec (t := s.enterService slot 0xB) ?_ ⟨?_, s.epoch_enterService 0xB hgroup⟩
  · rw [exec, execJoinRecordWritten, if_pos hstate]
  · exact congrArg Prod.fst (s.enterService_slot 0xB (State.slot_lt (by rw [hstate]; decide)))

theorem reconciliationDone_serves : ∀ (s : State) (slot : Nat),
    ((s.slot slot).state = 5) →
    Completes (.reconciliationDone slot) s (fun t =>
      ((t.slot slot).state = 1) ∧
      ((t.slot slot).absent = none)) := by
  intro s slot hstate
  have hleft : (s.leaveWork (s.slot slot).group fun w => w.2 == slot).slots = s.slots := (State.Keeps.leaveWork (.refl _ s) (.refl _)).slots_eq
  generalize hu : s.leaveWork (s.slot slot).group (fun w => w.2 == slot) = u at hleft
  have hlen : slot < u.slots.length := by rw [hleft]; exact State.slot_lt (by rw [hstate]; decide)
  generalize hv : (u.updSlot slot fun x => { x with absent := none }).mirrorSlot slot = v
  have hslot : v.slot slot = { s.slot slot with absent := none } := by
    rw [← hv, State.slot_of_slots (State.Keeps.mirrorSlot (.refl _ _) (.refl _)).slots_eq, State.slot_updSlot_same u hlen, State.slot_of_slots hleft]
  refine .of_exec (t := (v.enterService slot 0xA).regained (s.slot slot).group) ?_ ?_
  · rw [exec, execReconciliationDone]
    simp only [hstate, bne_self_eq_false, Bool.false_eq_true, if_false, hu, hv]
  · have hstanding := v.enterService_slot (n := slot) 0xA (State.slot_lt (by rw [hslot]; exact hstate ▸ (by decide)))
    rw [State.slot_of_slots (State.Keeps.regained (.refl _ _) (.refl _)).slots_eq]
    exact ⟨congrArg Prod.fst hstanding, (congrArg (fun x => x.2.2.2.1) hstanding).trans (by rw [hslot]; rfl)⟩

theorem layMcmdDrain_drains : ∀ (s : State) (slot : Nat),
    (s.orderRefusal slot = none) →
    ((s.group (s.slot slot).group).fixedRows = 0) →
    (s.wouldStarve slot = false) →
    ((s.slot slot).state = 1) →
    Completes (.layMcmdDrain slot) s (fun t =>
      ((t.slot slot).state = 3 ∨ (t.slot slot).state = 0)) := by
  intro s slot hfree hfixed hstarve hstate
  refine .of_exec (t := ((s.drainSlot slot).updSlot slot fun x => { x with order := x.state == 3 }).mirrorSlot slot) ?_ ?_
  · rw [exec, execLayMcmdDrain, State.orderDrain, State.mcmd, hfree]
    simp [hfixed, hstarve, hstate]
  · have hdrained := s.drainSlot_slot (n := slot) (State.slot_lt (by rw [hstate]; decide))
    have hlen : slot < (s.drainSlot slot).slots.length := State.slot_lt (by rcases hdrained with h | h <;> rw [h] <;> decide)
    rw [State.slot_of_slots (State.Keeps.mirrorSlot (.refl _ _) (.refl _)).slots_eq, State.slot_updSlot_same _ hlen]
    exact hdrained

theorem layMcmdFail_fails : ∀ (s : State) (slot : Nat),
    (s.orderRefusal slot = none) →
    (s.wouldStarve slot = false) →
    ((s.slot slot).state = 1) →
    Completes (.layMcmdFail slot) s (fun t =>
      ((t.slot slot).state = 4)) := by
  intro s slot hfree hstarve hstate
  refine .of_exec (t := s.failSlot slot 4) ?_ (s.failSlot_slot 4 (State.slot_lt (by rw [hstate]; decide)))
  rw [exec, execLayMcmdFail, State.orderFail, State.mcmd, hfree]
  simp [hstarve, State.memberGone, hstate]

theorem layMcmdJoin_joins : ∀ (s : State) (slot : Nat),
    (s.orderRefusal slot = none) →
    ((s.slot slot).state = 4) →
    (s.fitsGroup slot = true) →
    Completes (.layMcmdJoin slot) s (fun t =>
      ((t.slot slot).state = 6) ∧
      ((t.slot slot).order = true)) := by
  intro s slot hfree hstate hfits
  refine .of_exec (t := s.joinSlot slot true) ?_ ?_
  · rw [exec, execLayMcmdJoin, State.orderJoin, State.mcmd, hfree]
    simp [hfits, hstate]
  · have hstanding := State.standing_join (s := s) (n := slot) true (State.slot_lt (by rw [hstate]; decide))
    exact ⟨congrArg Prod.fst hstanding, congrArg (fun x => x.2.2.2.2.1) hstanding⟩

theorem layMcmdForget_forgets : ∀ (s : State) (slot : Nat),
    (s.orderRefusal slot = none) →
    ((s.slot slot).state = 4) →
    Completes (.layMcmdForget slot) s (fun t =>
      ((t.slot slot).state = 0) ∧
      ((t.slot slot).absent = none)) := by
  intro s slot hfree hstate
  refine .of_exec (t := s.forgetSlot slot) ?_ ?_
  · rw [exec, execLayMcmdForget, State.orderForget, State.mcmd, hfree]
    simp [hstate]
  · have hstanding := State.standing_forget (s := s) (n := slot) (State.slot_lt (by rw [hstate]; decide))
    exact ⟨congrArg Prod.fst hstanding, congrArg (fun x => x.2.2.2.1) hstanding⟩

/-- Settles O27: a slot keeps its standing while its group is brought in line, but for a drain that ends, and so does its group's epoch. -/
theorem members : Obligations.Members :=
    ⟨memberCommandAge_suspects, memberFailTimer_fails, memberReturnExpiry_forgets, driveOffer_joins, joinRecordWritten_serves,
    reconciliationDone_serves, layMcmdDrain_drains, layMcmdFail_fails, layMcmdJoin_joins, layMcmdForget_forgets⟩

end Sys2Proof
end

section
/-!
The start: what the steps of Table BOOT-12 leave of the start, the registers and the unit, then O37.
-/

-- One declaration at a time, as with the lemmas about a serving unit.
set_option Elab.async false

namespace Sys2Proof.Machine

/-! ### Noting a step -/

/-- The state in which a step has been noted with its time, before CTL_BOOT_STAT.STEP. -/
def State.timedStep (s : State) (n : Nat) : State :=
  State.wr { s with boot := { s.boot with ended := n :: s.boot.ended } } (F.CTL_BOOT_STEPT (n - 1)) (min (2 ^ 32 - 1) ((s.now - s.boot.startAt) / 4000))

theorem State.noteStep_eq (s : State) (n : Nat) : s.noteStep n =
    if 3 ≤ n && (s.timedStep n).rd F.CTL_BOOT_STAT_STEP < n then (s.timedStep n).wr F.CTL_BOOT_STAT_STEP n else s.timedStep n := rfl

theorem F.key_CTL_BOOT_STEPT (i : Nat) : (F.CTL_BOOT_STEPT i).key = 0x4040 + 4 * i := rfl

/-- A piece of the state that neither the start nor a register belongs to is as before a noted step. -/
theorem State.noteStep_of {α : Type} {p : State → α} (hwr : ∀ (s : State) f v, p (s.wr f v) = p s) (hboot : ∀ (s : State) b, p { s with boot := b } = p s)
    (s : State) (n : Nat) : p (s.noteStep n) = p s := by
  have htimed : p (s.timedStep n) = p s := (hwr _ _ _).trans (hboot s _)
  rw [State.noteStep_eq]
  split
  · exact (hwr _ _ _).trans htimed
  · exact htimed

theorem State.boot_noteStep (s : State) (n : Nat) : (s.noteStep n).boot = { s.boot with ended := n :: s.boot.ended } := by
  rw [State.noteStep_eq]
  split <;> rfl

theorem State.stepDone_noteStep (s : State) (n : Nat) : (s.noteStep n).stepDone n = true := by
  rw [State.stepDone, s.boot_noteStep, List.contains_cons, beq_self_eq_true, Bool.true_or]

theorem State.rd_timedStep (s : State) (n : Nat) (g : Fld) (h : g.key < 0x4040 ∨ 0x4080 ≤ g.key) (hn : n < 16) : (s.timedStep n).rd g = s.rd g :=
  State.rd_wr_other _ _ g _ (by rw [F.key_CTL_BOOT_STEPT]; omega)

theorem State.rd_noteStep (s : State) {n : Nat} (g : Fld) (h : g.key < 0x4040 ∨ 0x4080 ≤ g.key) (hstep : sparedBy g F.CTL_BOOT_STAT_STEP = true)
    (hn : n < 16) : (s.noteStep n).rd g = s.rd g := by
  rw [State.noteStep_eq]
  split
  · rw [State.rd_wr_spared _ _ _ _ hstep, s.rd_timedStep n g h hn]
  · exact s.rd_timedStep n g h hn

theorem State.rd_step_noteStep (s : State) {n : Nat} (h3 : 3 ≤ n) (hn : n < 16) :
    (s.noteStep n).rd F.CTL_BOOT_STAT_STEP = max n (s.rd F.CTL_BOOT_STAT_STEP) := by
  have htimed := s.rd_timedStep n F.CTL_BOOT_STAT_STEP (by decide) hn
  rw [State.noteStep_eq, htimed]
  split
  · rename_i h
    simp only [Bool.and_eq_true, decide_eq_true_eq] at h
    rw [State.rd_wr_fits _ _ (by decide) hn, Nat.max_eq_left (Nat.le_of_lt h.2)]
  · rename_i h
    simp only [Bool.and_eq_true, decide_eq_true_eq, not_and, Nat.not_lt] at h
    rw [htimed, Nat.max_eq_right (h h3)]

theorem State.rd_time_noteStep (s : State) (n : Nat) :
    (s.noteStep n).rd (F.CTL_BOOT_STEPT (n - 1)) = min (2 ^ 32 - 1) ((s.now - s.boot.startAt) / 4000) := by
  have htimed : (s.timedStep n).rd (F.CTL_BOOT_STEPT (n - 1)) = min (2 ^ 32 - 1) ((s.now - s.boot.startAt) / 4000) := by
    refine State.rd_wr_fits _ _ (show (0 : Nat) ≤ 31 ∧ 31 < 32 by decide) (show _ < 2 ^ 32 by omega)
  rw [State.noteStep_eq]
  split
  · rw [State.rd_wr_other _ _ _ _ (by rw [F.key_CTL_BOOT_STEPT]; exact ne_of_gt (by rw [show F.CTL_BOOT_STAT_STEP.key = 0x4000 from rfl]; omega)), htimed]
  · exact htimed

/-! ### Steps -/

/-- A start that runs: neither held nor stopped. -/
theorem State.start_runs {s : State} (hheld : s.boot.held = none) (hrun : s.boot.stopped = false) (h1 : s.stepDone 1 = true) :
    (s.boot.held.isSome || s.boot.stopped || !s.stepDone 1) = false := by
  rw [hheld, hrun, h1]
  rfl

theorem State.stopStart_fields (s : State) {why : Nat} (hwhy : why < 8) : (s.stopStart why).boot = { s.boot with stopped := true } ∧
    (s.stopStart why).rd F.TRU_STAT_STOP = why ∧ (s.stopStart why).tru = s.tru :=
  ⟨rfl, (s.rd_wr_fits F.TRU_STAT_STOP (by decide) hwhy :), rfl⟩

theorem State.setBenchState_fields (s : State) (b : Nat) (st : BenchState) : (s.setBenchState b st).boot = s.boot ∧ (s.setBenchState b st).tru = s.tru ∧
    (s.setBenchState b st).tim = s.tim := by
  rw [State.setBenchState, State.raise_boot, State.raise_tru, State.raise_tim]
  exact ⟨rfl, rfl, rfl⟩

theorem State.setBenchState_fuses (s : State) (b : Nat) (st : BenchState) : (s.setBenchState b st).fuses = s.fuses := by
  rw [State.setBenchState, State.raise_fuses]
  rfl

theorem State.rd_setBenchState (s : State) (b : Nat) (st : BenchState) (g : Fld) (hlow : 0x28 ≤ g.key % 0x100000) : (s.setBenchState b st).rd g = s.rd g :=
  (State.rd_raise_beyond _ _ _ _ _ _ g hlow).trans rfl

/-- The pairs of the chain as step 5 finds them. -/
def State.pairsFound (s : State) (up dn : Bool) : State :=
  (((s.wrB F.CHN_CHAIN_STAT_UP_DRIVEN up).wrB F.CHN_CHAIN_STAT_UP_LINK up).wrB F.CHN_CHAIN_STAT_DN_LINK dn).updChain fun c => { c with dnDriven := dn }

theorem State.chainStart_eq (s : State) (up dn : Bool) : s.chainStart up dn =
    if up then (s.pairsFound up dn).updChain fun c => { c with waitFrom := some (s.pairsFound up dn).now } else (s.pairsFound up dn).becomeHead 1 := rfl

theorem State.rd_pairsFound (s : State) (up dn : Bool) (g : Fld) (hdriven : sparedBy g F.CHN_CHAIN_STAT_UP_DRIVEN = true)
    (hup : sparedBy g F.CHN_CHAIN_STAT_UP_LINK = true) (hdn : sparedBy g F.CHN_CHAIN_STAT_DN_LINK = true) : (s.pairsFound up dn).rd g = s.rd g := by
  rw [State.pairsFound, State.updChain_rd, State.wrB, State.wrB, State.wrB, State.rd_wr_spared _ _ _ _ hdn, State.rd_wr_spared _ _ _ _ hup,
    State.rd_wr_spared _ _ _ _ hdriven]

theorem State.pairsFound_fields (s : State) (up dn : Bool) : (s.pairsFound up dn).boot = s.boot ∧ (s.pairsFound up dn).now = s.now ∧
    (s.pairsFound up dn).chain = { s.chain with dnDriven := dn } := ⟨rfl, rfl, rfl⟩

theorem State.dnDriven_offerDown (s : State) : s.offerDown.chain.dnDriven = s.chain.dnDriven := by
  unfold State.offerDown
  split
  · rfl
  · unfold State.ackUp
    split <;> rfl

theorem State.dnDriven_becomeHead (s : State) (cause : Nat) : (s.becomeHead cause).chain.dnDriven = s.chain.dnDriven := by
  rw [State.becomeHead_eq, State.dnDriven_offerDown, State.withHead, State.raise_chain]
  rfl

theorem State.boot_becomeHead (s : State) (cause : Nat) : (s.becomeHead cause).boot = s.boot :=
  (State.Keeps.becomeHead (.refl _ s) (.refl _)).boot_eq

@[simp] theorem State.updChain_boot (s : State) (f : Chain → Chain) : (s.updChain f).boot = s.boot := rfl

/-- KCW and the memory key are drawn. -/
def State.keysDrawn (s : State) : State :=
  let (k, s) := s.draw .keyMaterial (2 ^ 256)
  let (m, s) := s.draw .keyMaterial (2 ^ 512)
  { s with
    tru := { s.tru with kcw := some k, memKey := some m }
    keyTab := ((List.range 4).map fun i => ⟨16385 + i, 0, 2, 0⟩) ++ s.keyTab }

theorem State.keysDrawn_fields (s : State) : s.keysDrawn.tru.kcw.isSome = true ∧ s.keysDrawn.tru.memKey.isSome = true ∧ s.keysDrawn.boot = s.boot :=
  ⟨rfl, rfl, rfl⟩

/-- TRU itself is in service. -/
def State.truActive (s : State) : State := (s.updBench 1 fun x => { x with role := some 0, activeSince := s.now }).setBenchState 1 .active

theorem State.truActive_fields (s : State) : s.truActive.tru = s.tru ∧ s.truActive.boot = s.boot := by
  obtain ⟨hboot, htru, -⟩ := (s.updBench 1 fun x => { x with role := some 0, activeSince := s.now }).setBenchState_fields 1 .active
  exact ⟨htru, hboot⟩

theorem State.stepRom_passed (s : State) : s.stepRom true true true = (s.keysDrawn.truActive.wr F.TRU_STAT_STEP 5).noteStep 2 := rfl

theorem State.rd_headStep (s : State) (g : Fld) (h : 0x28 ≤ g.key % 0x100000) : s.headStep.rd g = s.rd g := by
  unfold State.headStep
  split
  · split
    · exact s.rd_stepForward _ g h
    · rfl
  · rfl

theorem State.isNone_headStep (s : State) : s.headStep.tim.lastUpdate.isNone = s.tim.lastUpdate.isNone := by
  unfold State.headStep
  split
  · split
    · rw [State.stepForward_tim]
      exact Option.isNone_map ..
    · rfl
  · rfl

/-! ### Booting a bank -/

theorem State.rd_buildWords (s : State) (l : List Nat) (v : Nat) (g : Fld) (h : g.key % 0x100000 ≠ 4) :
    (l.foldl (fun (s : State) x => s.wr ⟨x * 0x100000 + 4, 31, 16⟩ v) s).rd g = s.rd g :=
  foldl_keeps (f := fun t : State => t.rd g) (fun t x => t.rd_wr_other ⟨x * 0x100000 + 4, 31, 16⟩ g v (by show g.key ≠ x * 0x100000 + 4; omega)) l s

theorem State.nameBank_boot (s : State) (n : Nat) (b : BankImg) : (s.nameBank n b).boot = { s.boot with img := some b, bank := n } := rfl

theorem State.rd_nameBank (s : State) (n : Nat) (b : BankImg) (g : Fld) (hbank : sparedBy g F.CTL_BOOT_STAT_BANK = true)
    (h : g.key < 0x400c ∨ 0x4018 < g.key) : (s.nameBank n b).rd g = s.rd g := by
  unfold State.nameBank
  extract_lets s1 v s2
  have h2 : s2.rd g = s.rd g := by
    rw [State.rd_wr_other _ _ _ _ (by show g.key ≠ 0x4010; omega), State.rd_wr_other _ _ _ _ (by show g.key ≠ 0x400c; omega)]
    exact s.rd_wr_spared _ g n hbank
  rw [State.rd_wr_other _ _ _ _ (by show g.key ≠ 0x4018; omega), State.rd_wr_other _ _ _ _ (by show g.key ≠ 0x4014; omega), h2]

theorem State.rd_named (s : State) {n : Nat} (hn : n < 4) (b : BankImg) : (s.nameBank n b).rd F.CTL_BOOT_STAT_BANK = n ∧
    (s.nameBank n b).rd F.CTL_IMG_SVN = (b.fwSvn + 65536 * b.ownSvn) % 2 ^ 32 := by
  unfold State.nameBank
  extract_lets s1 v s2
  have h2 : s2.rd F.CTL_BOOT_STAT_BANK = n := by
    rw [State.rd_wr_other _ _ _ _ (by decide), State.rd_wr_other _ _ _ _ (by decide)]
    exact s.rd_wr_fits _ (by decide) hn
  rw [State.rd_wr_other _ _ _ _ (by decide), State.rd_wr_other _ _ _ _ (by decide), h2, State.rd_wr_other _ _ _ _ (by decide)]
  exact ⟨rfl, State.rd_wr_same _ _ _ (by decide) (by decide)⟩

theorem State.loadBank_boot (s : State) (n : Nat) (b : BankImg) : (s.loadBank n b).boot = { s.boot with img := some b, bank := n } := by
  unfold State.loadBank
  extract_lets s1
  have hname : s1.boot = { s.boot with img := some b, bank := n } := s.nameBank_boot n b
  rw [← hname]
  exact foldl_keeps (f := fun t : State => t.boot) (g := fun (s : State) x => s.wr ⟨x * 0x100000 + 4, 31, 16⟩ b.build) (fun t x => State.wr_boot t _ _) _ s1

theorem State.rd_loadBank (s : State) (n : Nat) (b : BankImg) (g : Fld) (h : g.key % 0x100000 ≠ 4) : (s.loadBank n b).rd g = (s.nameBank n b).rd g := by
  unfold State.loadBank
  extract_lets s1
  exact State.rd_buildWords s1 _ _ g h

/-- The benches but TRU begin their self-tests, and BOOT_SEL 3 is noted. -/
def State.benchesTested (s : State) : State :=
  let u := (s.partBenches.filter fun x => x != 1).foldl (fun (s : State) x => s.setBenchState x .selftest) s
  if u.rd F.CTL_BOOT_STAT_BOOT_SEL = 3 then u.raise 0 5 NOTICE 0x12 0 else u

theorem State.benchesTested_fields (s : State) : s.benchesTested.boot = s.boot ∧ s.benchesTested.fuses = s.fuses ∧
    ∀ g, 0x28 ≤ g.key % 0x100000 → s.benchesTested.rd g = s.rd g := by
  unfold State.benchesTested
  extract_lets u
  have hboot : u.boot = s.boot := foldl_keeps (f := fun t : State => t.boot) (fun t x => (t.setBenchState_fields x _).1) _ s
  have hfuses : u.fuses = s.fuses :=
    foldl_keeps (f := fun t : State => t.fuses) (fun t x => t.setBenchState_fuses x _) _ s
  have hrd : ∀ g, 0x28 ≤ g.key % 0x100000 → u.rd g = s.rd g := fun g hg =>
    foldl_keeps (f := fun t : State => t.rd g) (fun t x => t.rd_setBenchState x _ g hg) _ s
  split
  · exact ⟨(State.raise_boot ..).trans hboot, (State.raise_fuses ..).trans hfuses, fun g hg => (State.rd_raise_beyond _ _ _ _ _ _ g hg).trans (hrd g hg)⟩
  · exact ⟨hboot, hfuses, hrd⟩

/-- The owner domain is judged; a claim burns the owner's key. -/
def State.judged (s : State) (b : BankImg) : State :=
  let u := s.wr F.CTL_BOOT_STAT_OWNER (s.ownerOf b)
  if s.ownerOf b = 1 then
    State.raise { u with fuses := { u.fuses with ownerKey := (b.ownSig.map fun (g : SigBlock) => g.keyHash).getD 0 } } 0 5 INFO 0x13 0
  else u

theorem State.ownerOf_lt (s : State) (b : BankImg) : s.ownerOf b < 4 := by
  unfold State.ownerOf
  split
  · decide
  · split
    · decide
    · split <;> decide

theorem State.judged_fields (s : State) (b : BankImg) : (s.judged b).boot = s.boot ∧ (s.judged b).rd F.CTL_BOOT_STAT_OWNER = s.ownerOf b := by
  have howner : (s.wr F.CTL_BOOT_STAT_OWNER (s.ownerOf b)).rd F.CTL_BOOT_STAT_OWNER = s.ownerOf b := s.rd_wr_fits _ (by decide) (s.ownerOf_lt b)
  unfold State.judged
  extract_lets u
  split
  · exact ⟨State.raise_boot .., (State.rd_raise_beyond _ _ _ _ _ _ _ (by decide)).trans howner⟩
  · exact ⟨rfl, howner⟩

/-- The first bank in the order of R507 passes: it is named, its owner judged and its code loaded. -/
theorem State.stepBank_first {s : State} {n : Nat} {b : BankImg} (hsize : 64 ≤ s.flash.size)
    (hpick : tryBanks s.part s.fuses s.flash.bankSize s.flash.banks (s.flash.order (s.rd F.CTL_BOOT_STAT_BOOT_SEL)) = ([], some (n, b))) :
    s.stepBank = (((s.benchesTested.judged b).loadBank n b).wr F.TRU_STAT_STEP 6).noteStep 3 := by
  unfold State.stepBank
  extract_lets f
  have hfirst : (if f.size < 64 then ([], none) else tryBanks s.part s.fuses f.bankSize f.banks (f.order (s.rd F.CTL_BOOT_STAT_BOOT_SEL))) =
      ([], some (n, b)) := (if_neg (Nat.not_lt.mpr hsize)).trans hpick
  rw [hfirst]
  rfl

/-! ### The AK, the tally, the mount and step 15 -/

/-- The AK is drawn and certified. -/
def State.akIssued (s : State) : State := (s.draw .keyMaterial (2 ^ 4096)).2.issueAk (s.draw .keyMaterial (2 ^ 4096)).1

theorem State.updHalf_rd (s : State) (h : Nat) (f : Half → Half) (g : Fld) : (s.updHalf h f).rd g = s.rd g := rfl

theorem State.rd_haulSend (s : State) (chan : Nat) (g : Fld) (h : g.key ≠ F.HAL_TX_FRM.key) : (s.haulSend chan).rd g = s.rd g := by
  unfold State.haulSend
  split
  · rfl
  · extract_lets x k
    rw [State.updHalf_rd, State.rd_bump_other _ _ _ h, State.rd_send]

/-- The nonce of the pairing exchange is drawn. -/
def State.pairNonceDrawn (s : State) : State :=
  { (s.draw .nonce (2 ^ 256)).2 with tru := { s.tru with pairNonce := some (s.draw .nonce (2 ^ 256)).1 } }

theorem State.sendPairing_eq (s : State) : s.sendPairing = if s.rd F.TRU_STAT_STEP != 8 || s.haulHalf.isNone || s.tru.pairNonce.isSome then s
    else (s.pairNonceDrawn.haulSend 3).send (.pairingMessage (s.draw .nonce (2 ^ 256)).1) := rfl

theorem State.rd_sendPairing (s : State) (g : Fld) (h : g.key ≠ F.HAL_TX_FRM.key) : s.sendPairing.rd g = s.rd g := by
  rw [State.sendPairing_eq]
  split
  · rfl
  · rw [State.rd_send, State.rd_haulSend _ 3 g h]
    rfl

theorem State.ak_sendPairing (s : State) : s.sendPairing.tru.ak = s.tru.ak := by
  rw [State.sendPairing_eq]
  split
  · rfl
  · show (s.pairNonceDrawn.haulSend 3).tru.ak = s.tru.ak
    rw [State.haulSend_tru]
    rfl

/-- Without records and fixed-layout updates a replay with a valid control block finds nothing to do. -/
theorem State.stepReplay_empty {s : State} (hrecs : s.tally.recs = []) (hfix : s.fixupds = []) :
    s.stepReplay true [] = (s.raise 5 6 INFO 3 0).noteStep 13 := by
  have hredo : s.redoInOrder = s := by rw [State.redoInOrder, hfix]; rfl
  unfold State.stepReplay
  simp only [Bool.not_true, Bool.false_and, Bool.false_eq_true, if_false, if_true, List.filter_nil, State.tallyLost, List.isEmpty_nil, hrecs, List.foldl_nil,
    hredo, List.length_nil]
  rfl

theorem State.startCache_tru (s : State) : s.startCache.tru = s.tru := by
  unfold State.startCache
  split
  · rfl
  · rw [State.wr_tru, State.wr_tru, State.raise_tru]

theorem State.startCache_groups (s : State) : s.startCache.groups = s.groups := by
  unfold State.startCache
  split
  · rfl
  · rw [State.wr_groups, State.wr_groups, State.raise_groups]

/-- The envelope gives KSR unless TRU is blocked. -/
def State.unwrapped (s : State) (env : Bool) : State := if env && !s.tru.blocked then { s with tru := { s.tru with ksr := true } } else s

theorem State.ksr_unwrapped (s : State) (env : Bool) : (s.unwrapped env).tru.ksr = (s.tru.ksr || (env && !s.tru.blocked)) := by
  rw [State.unwrapped]
  split
  · rename_i h
    rw [h, Bool.or_true]
  · rename_i h
    rw [Bool.eq_false_iff.mpr h, Bool.or_false]

theorem State.unwrapped_groups (s : State) (env : Bool) : (s.unwrapped env).groups = s.groups := by
  rw [State.unwrapped]
  split <;> rfl

theorem State.stepMount_noGroups {s : State} (env : Bool) (hgroups : s.configuredGroups = []) (h14 : s.stepDone 14 = false) :
    s.stepMount env none = (s.unwrapped env).startCache.noteStep 14 := by
  have hsame : (s.unwrapped env).configuredGroups = [] := by
    rw [State.unwrapped]
    split <;> exact hgroups
  have h14' : (s.unwrapped env).stepDone 14 = false := by
    rw [State.unwrapped]
    split <;> exact h14
  unfold State.stepMount
  simp only [hgroups, List.isEmpty_nil, Bool.not_true, Bool.and_false, Bool.false_and, Bool.false_eq_true, if_false]
  rw [← State.unwrapped]
  simp only [hsame, h14', List.all_nil, Bool.not_true, Bool.and_false, Bool.false_eq_true, if_false, List.foldl_nil]

theorem State.takeStep15_fields (s : State) : s.takeStep15.rd F.TIM_STAT_SERVING = 1 ∧ s.takeStep15.stepDone 15 = true ∧
    s.takeStep15.rd F.CTL_BOOT_STAT_STEP = 15 := by
  generalize hu : (s.wr F.TIM_STAT_SERVING 1).noteStep 15 = u
  have hserving : u.rd F.TIM_STAT_SERVING = 1 := by
    rw [← hu, State.rd_noteStep _ _ (by decide) (by decide) (by decide), State.rd_wr_fits _ _ (by decide) (by decide)]
  have hstep : u.rd F.CTL_BOOT_STAT_STEP = 15 := by
    rw [← hu, State.rd_step_noteStep _ (by decide) (by decide)]
    exact Nat.max_eq_left (Nat.le_of_lt_succ (State.rd_lt ..))
  have hdone : u.stepDone 15 = true := hu ▸ State.stepDone_noteStep _ 15
  generalize hv : u.raise 0 6 INFO 0x16 ((u.now - u.boot.startAt) / 4000000) = v
  have hvrd : ∀ g, 0x28 ≤ g.key % 0x100000 → v.rd g = u.rd g := fun g hg => hv ▸ State.rd_raise_beyond _ _ _ _ _ _ g hg
  have hvboot : v.boot = u.boot := hv ▸ State.raise_boot ..
  have heq : s.takeStep15 = (if v.isActive then v.send .serving else v).syncReady := by rw [State.takeStep15, hu, hv]
  have hall : (s.takeStep15.rd F.TIM_STAT_SERVING = v.rd F.TIM_STAT_SERVING) ∧ s.takeStep15.boot = v.boot ∧
      s.takeStep15.rd F.CTL_BOOT_STAT_STEP = v.rd F.CTL_BOOT_STAT_STEP := by
    rw [heq]
    split <;> exact ⟨rfl, rfl, rfl⟩
  obtain ⟨hserves, hboot, hsteps⟩ := hall
  rw [hserves, hsteps, State.stepDone, hboot, hvboot, hvrd _ (by decide), hvrd _ (by decide)]
  exact ⟨hserving, hdone, hstep⟩

/-! ### Reset and the first step -/

/-- A reset leaves of the pieces without registers what one state gives, the cold one with what Table LIVE-6 keeps. -/
theorem State.afterReset_pieces (s : State) (kind : Nat) : ∃ t : State,
    (∀ {α : Type} (p : State → α), (∀ (s : State) f v, p (s.wr f v) = p s) → p (s.afterReset kind) = p t) ∧
      t.conns = [] ∧ t.cmds = [] ∧ t.lines = [] ∧ t.ctrls = [] ∧ t.boot = Boot.cold ∧ t.fuses = s.fuses ∧ t.flash = s.flash ∧ t.tim = Tim.cold := by
  unfold State.afterReset
  extract_lets recs c1 c2 c3 c4 c5 t t1 t2
  refine ⟨t, fun p hwr => ?_, rfl, rfl, rfl, rfl, rfl, rfl, rfl, rfl⟩
  have h1 : p t1 = p t := (hwr _ _ _).trans (hwr _ _ _)
  have h2 : p t2 = p t := by
    unfold t2
    split
    · exact h1
    · exact ((hwr _ _ _).trans (hwr _ _ _)).trans h1
  split
  · exact ((hwr _ _ _).trans ((hwr _ _ _).trans (hwr _ _ _))).trans h2
  · exact h2

/-- The hold that a reset of a kind leaves over one in force: a tamper hold outlasts all but a power cycle, a thermal one a warm reset. -/
def State.holdLeft (s : State) (kind : Nat) : Nat := match s.boot.held with
  | some 5 => if kind = 0 || kind = 3 then kind else 5
  | some 4 => if kind = 2 then 4 else kind
  | _ => kind

/-- What a tamper and a thermal hold show of themselves. -/
def State.showTrip (s : State) (h : Nat) : State := if h = 5 then { s with tru := { s.tru with trip := true } } else s

def State.showStop (s : State) (h : Nat) : State := if h = 4 then s.wr F.TRU_STAT_STOP 4 else s

/-- The unit held. -/
def State.heldAs (s : State) (h : Nat) : State := { s with boot := { s.boot with held := some h } }

theorem State.holdReset_eq_heldAs (s : State) (kind : Nat) : s.holdReset kind = (((s.afterReset (if kind ≤ 3 then kind else 2)).showTrip (s.holdLeft
    kind)).showStop
    (s.holdLeft kind)).heldAs (s.holdLeft kind) := rfl

theorem State.holdLeft_of {s : State} (kind : Nat) (h4 : s.boot.held ≠ some 4) (h5 : s.boot.held ≠ some 5) : s.holdLeft kind = kind := by
  unfold State.holdLeft
  split
  · exact absurd ‹_› h5
  · exact absurd ‹_› h4
  · rfl

/-- A reset that neither a thermal nor a tamper hold outlasts. -/
theorem State.holdReset_eq {s : State} {kind : Nat} (hkind : kind ≤ 3) (h4 : s.boot.held ≠ some 4) (h5 : s.boot.held ≠ some 5) :
    s.holdReset kind = (s.afterReset kind).heldAs kind := by
  rw [s.holdReset_eq_heldAs, if_pos hkind, State.holdLeft_of kind h4 h5, State.showTrip, if_neg (by omega), State.showStop, if_neg (by omega)]

/-- The state of a unit whose start begins, before the first step is noted. -/
def State.startBegun (s : State) (bootSel : Nat) (slotB : Bool) (flash : Option Flash) : State :=
  let s := s.updBoot fun _ => { Boot.cold with held := none, startAt := s.now }
  let s : State := match flash with
    | some f => { s with flash := f }
    | none => s
  ((s.wr F.CTL_BOOT_STAT_BOOT_SEL bootSel).wrB F.CTL_BOOT_STAT_SLOT_B slotB).setBenchState 1 .selftest

theorem State.startBegun_fields (s : State) (bootSel : Nat) (slotB : Bool) (flash : Option Flash) :
    (s.startBegun bootSel slotB flash).boot = { Boot.cold with held := none, startAt := s.now } ∧
      (s.startBegun bootSel slotB flash).flash = flash.getD s.flash ∧ (s.startBegun bootSel slotB flash).fuses = s.fuses := by
  unfold State.startBegun
  extract_lets s1 s2
  rw [(State.setBenchState_fields _ _ _).1, State.setBenchState_fuses, State.setBenchState, State.raise_flash]
  cases flash <;> exact ⟨rfl, rfl, rfl⟩

theorem State.rd_startBegun (s : State) {bootSel : Nat} (slotB : Bool) (flash : Option Flash) (hsel : bootSel < 4) :
    (s.startBegun bootSel slotB flash).rd F.CTL_BOOT_STAT_BOOT_SEL = bootSel ∧
      (s.startBegun bootSel slotB flash).rd F.CTL_BOOT_STAT_SLOT_B = if slotB = true then 1 else 0 := by
  unfold State.startBegun
  extract_lets s1 s2
  rw [State.rd_setBenchState _ _ _ _ (by decide), State.rd_setBenchState _ _ _ _ (by decide), State.wrB, State.rd_wr_spared _ _ _ _ (by decide),
    State.rd_wr_fits _ _ (by decide) hsel, State.rd_wr_fits _ _ (by decide) (by cases slotB <;> decide)]
  cases slotB <;> exact ⟨rfl, rfl⟩

/-! ### The self-tests of step 4 -/

theorem classInst_lt {b c i : Nat} (h : classInst b = some (c, i)) : c < 6 := by
  unfold classInst at h
  split at h
  · split at h
    · simp only [Option.some.injEq, Prod.mk.injEq] at h
      omega
    · contradiction
  · contradiction

theorem State.rd_updRot (s : State) (c : Nat) (f : Rotation → Rotation) (g : Fld) : (s.updRot c f).rd g = s.rd g := rfl

section AboutSelftest

variable {g : Fld} (hg : g.key = F.CTL_BOOT_STAT_OWNER.key) (s : State)

include hg

theorem State.rd_setBenchState_bootStat (b : Nat) (st : BenchState) : (s.setBenchState b st).rd g = s.rd g :=
  s.rd_setBenchState b st g (by rw [hg]; decide)

theorem State.rd_refreshMaps_bootStat {c : Nat} (hc : c < 6) : (s.refreshMaps c).rd g = s.rd g := by
  unfold State.refreshMaps
  extract_lets s1 s2
  have h1 : s1.rd g = s.rd g := foldl_keeps (f := fun t : State => t.rd g)
    (g := fun (s : State) r => s.wr (roleMapFld c r)
      (match if r < s.roleCount c then s.boundBench c r else none with | some b => b - classFirst.getD c 63 | none => 0xF))
    (fun t r => t.rd_wr_other (roleMapFld c r) g _ (by rw [hg]; show 0x4000 ≠ 0x2010 + 4 * c; omega)) _ s
  rw [State.rd_setBit_other _ _ _ _ _ (by rw [hg]; decide), State.rd_wr_other _ _ _ _ (by rw [hg]; exact (by decide : (0x4000 : Nat) ≠ 0x2008)), h1]

theorem State.rd_beginRotation_bootStat (c : Nat) : (s.beginRotation c).rd g = s.rd g := by
  unfold State.beginRotation
  split
  · exact State.rd_setBit_other _ _ _ _ _ (by rw [hg]; decide)
  · rfl

theorem State.rd_payOwed_bootStat (c : Nat) : (s.payOwed c).rd g = s.rd g := by
  unfold State.payOwed
  split
  · exact s.rd_beginRotation_bootStat hg c
  · rfl

theorem State.rd_startReload_bootStat (b : Nat) (act : Bool) : (s.startReload b act).rd g = s.rd g := by
  unfold State.startReload
  extract_lets u
  have hu : u.rd g = s.rd g := by
    unfold u
    split
    · rename_i h
      rw [State.rd_refreshMaps_bootStat hg _ (classInst_lt h), s.rd_setBenchState_bootStat hg]
    · rfl
  exact (State.rd_wr_other _ _ _ _ (by rw [hg]; decide)).trans hu

theorem State.rd_liveClass_bootStat (c : Nat) : (s.liveClass c).rd g = s.rd g := by
  unfold State.liveClass
  split
  · rfl
  split
  · exact State.rd_payOwed_bootStat hg _ c
  split
  · rfl
  split
  · extract_lets b
    split
    · split
      · rfl
      · exact s.rd_startReload_bootStat hg _ true
    · exact s.rd_beginRotation_bootStat hg c
  · split
    · exact s.rd_startReload_bootStat hg _ true
    · rfl

/-- A self-test that passes leaves CTL_BOOT_STAT. -/
theorem State.rd_selftestEnd_bootStat (b : Nat) : (s.selftestEnd b true).rd g = s.rd g := by
  unfold State.selftestEnd
  split
  · rfl
  rw [if_neg (by decide)]
  split
  · exact State.rd_setBenchState_bootStat hg _ _ _
  · rename_i c i hclass
    have hc := classInst_lt hclass
    extract_lets unbound free pick u u1
    clear_value pick
    cases pick with
    | some r =>
      dsimp only
      rw [State.rd_refreshMaps_bootStat hg _ hc, State.rd_setBenchState_bootStat hg, State.rd_updBench]
    | none =>
      have hu : u.rd g = s.rd g := ((s.setBenchState b .spare).rd_refreshMaps_bootStat hg hc).trans (s.rd_setBenchState_bootStat hg b .spare)
      have hu1 : u1.rd g = u.rd g := u.rd_updRot c _ g
      exact ((u1.liveClass c).rd_payOwed_bootStat hg c).trans ((u1.rd_liveClass_bootStat hg c).trans (hu1.trans hu))

end AboutSelftest

/-- The benches of the unit have ended their self-tests with success. -/
def State.selftested (s : State) : State := s.partBenches.foldl (fun (s : State) b => s.selftestEnd b (!([] : List Nat).contains b)) s

theorem State.selftested_keeps (s : State) : s.selftested.Keeps 0x1ffffffffffff0300020002b400000000000000000cfe s :=
  .foldl (.refl _ s) fun _ _ h => h.selftestEnd (.refl _)

theorem State.rd_selftested_bootStat (s : State) {g : Fld} (hg : g.key = F.CTL_BOOT_STAT_OWNER.key) : s.selftested.rd g = s.rd g :=
  foldl_keeps (f := fun t : State => t.rd g) (fun t b => t.rd_selftestEnd_bootStat hg b) _ s

/-- The core voltage is set and its time noted. -/
def State.voltageSet (s : State) : State :=
  ((s.wr F.CTL_AVS_STAT_MV s.fuses.vcore).send (.avs s.fuses.vcore)).updBoot fun b => { b with step4At := s.now }

theorem State.voltageSet_fields (s : State) : s.voltageSet.boot = { s.boot with step4At := s.now } ∧ s.voltageSet.groups = s.groups ∧
    s.voltageSet.rd F.CTL_BOOT_STAT_OWNER = s.rd F.CTL_BOOT_STAT_OWNER :=
  ⟨rfl, rfl, (s.rd_wr_other F.CTL_AVS_STAT_MV F.CTL_BOOT_STAT_OWNER s.fuses.vcore (by decide) :)⟩

theorem State.rd_voltageSet (s : State) (h : s.fuses.vcore < 1024) : s.voltageSet.rd F.CTL_AVS_STAT_MV = s.fuses.vcore :=
  (s.rd_wr_fits F.CTL_AVS_STAT_MV (by decide) h :)

/-- The settings of the bank, the modes of the ports, the endpoint IDs and the groups take effect. -/
def State.settingsTaken (s : State) (b : BankImg) : State :=
  let s := s.applySettings b.settings
  let s := (List.range 8).foldl (fun (s : State) p => s.loadMode (8 + p)) s
  let s := (List.range 3).foldl (fun (s : State) p =>
    let e := s.rd (F.CTL_MGT_PATH_STATIC_EID p)
    if e = 0 then s else s.assignEid p e) s
  ({ s with subnqn := b.subnqn }).configureGroups

theorem State.stepSettings_eq (s : State) : s.stepSettings [] =
    if s.selftested.voltageSet.rd F.CTL_BOOT_STAT_OWNER = 2 then (s.selftested.voltageSet.noteStep 4).raise 0 6 ERROR 0x17 0 else
    match s.selftested.voltageSet.boot.img with
    | none => s.selftested.voltageSet
    | some b => (s.selftested.voltageSet.settingsTaken b).noteStep 4 := rfl

/-- An event writes the status and the counts of its bench alone. -/
theorem State.rd_raise_below (s : State) (b loc sev code data : Nat) (g : Fld) (hg : g.key % 0x100000 < 0x14) :
    (s.raise b loc sev code data).rd g = s.rd g := by
  by_cases hoff : (s.benchAt b).state = .off
  · rw [s.raise_of_off b loc sev code data hoff]
  · rw [s.rd_raise_eq_noteEvent b loc sev code data hoff _ (by rw [F.key_BENCH_EV_OVF]; omega)]
    exact s.rd_noteEvent_other b loc sev g (by rw [F.key_BENCH_EV_STAT]; omega) (by rw [F.key_BENCH_ERR_DET]; omega)
      (by rw [F.key_BENCH_ERR_UNREC]; omega)

/-- Writing a field to 1 in every bench of a list sets it in each of them and nowhere else. -/
theorem State.rd_lockAll (l : List Nat) (s : State) (h : 0 ∈ l ∨ s.rd (F.BENCH_CTL_LOCK 0) = 1) :
    (l.foldl (fun (s : State) b => s.wr (F.BENCH_CTL_LOCK b) 1) s).rd (F.BENCH_CTL_LOCK 0) = 1 := by
  induction l generalizing s with
  | nil => exact h.resolve_left List.not_mem_nil
  | cons b l ih =>
    refine ih (s.wr (F.BENCH_CTL_LOCK b) 1) ?_
    by_cases hb : b = 0
    · rw [hb]
      exact .inr (s.rd_wr_fits _ (by decide) (by decide))
    · refine h.imp (fun hmem => (List.mem_cons.mp hmem).resolve_left fun h => hb h.symm) fun hset => ?_
      rw [s.rd_wr_other _ _ _ (by show 0 * 0x100000 + 0xc ≠ b * 0x100000 + 0xc; omega), hset]

theorem zero_mem_partBenches (p : Variant) : 0 ∈ partBenches p := by cases p <;> decide

theorem State.rd_lock_applySettings (s : State) (l : List SetEntry) : (s.applySettings l).rd (F.BENCH_CTL_LOCK 0) = 1 :=
  State.rd_lockAll _ _ (.inl (zero_mem_partBenches _))

theorem State.rd_loadMode (s : State) (b : Nat) : (s.loadMode b).rd (F.BENCH_CTL_LOCK 0) = s.rd (F.BENCH_CTL_LOCK 0) := by
  unfold State.loadMode
  extract_lets v u
  split
  · rfl
  · exact State.rd_raise_below _ _ _ _ _ _ _ (by decide)

theorem State.rd_assignEid (s : State) (p eid : Nat) : (s.assignEid p eid).rd (F.BENCH_CTL_LOCK 0) = s.rd (F.BENCH_CTL_LOCK 0) :=
  State.rd_raise_below _ _ _ _ _ _ _ (by decide)

theorem State.rd_configureGroups (s : State) : s.configureGroups.rd (F.BENCH_CTL_LOCK 0) = s.rd (F.BENCH_CTL_LOCK 0) := by
  refine foldl_keeps (f := fun t : State => t.rd (F.BENCH_CTL_LOCK 0)) (fun t n => ?_) _ s
  dsimp only
  split
  · rfl
  · split
    · refine foldl_keeps (f := fun t : State => t.rd (F.BENCH_CTL_LOCK 0)) (fun u i => ?_) _ _
      rw [State.rd_wr_other _ _ _ _ (by show 0 * 0x100000 + 0xc ≠ 0x4301500 + 4 * i; omega),
        State.rd_wr_other _ _ _ _ (by show 0 * 0x100000 + 0xc ≠ 0x4301500 + 4 * i; omega)]
      rfl
    · exact State.rd_raise_below _ _ _ _ _ _ _ (by decide)

theorem State.Keeps.subnqn_eq {s t : State} {K : Nat} (h : t.Keeps K s) (hK : K.testBit 25 = false := by decide) : t.subnqn = s.subnqn :=
  (congrArg State.subnqn h.pieces).symm.trans (by simp only [State.blend, hK, cond_false])

theorem State.subnqn_configureGroups (s : State) : s.configureGroups.subnqn = s.subnqn :=
  (State.Keeps.configureGroups (.refl _ s) (.refl _)).subnqn_eq

theorem State.settingsTaken_fields (s : State) (b : BankImg) : (s.settingsTaken b).subnqn = b.subnqn ∧ (s.settingsTaken b).boot = s.boot ∧
    (s.settingsTaken b).rd (F.BENCH_CTL_LOCK 0) = 1 := by
  unfold State.settingsTaken
  extract_lets s1 s2 s3
  have h1 : s1.boot = s.boot ∧ s1.rd (F.BENCH_CTL_LOCK 0) = 1 := ⟨(State.Keeps.applySettings (.refl _ s) (.refl _)).boot_eq, s.rd_lock_applySettings _⟩
  have h2 : s2.boot = s1.boot ∧ s2.rd (F.BENCH_CTL_LOCK 0) = s1.rd (F.BENCH_CTL_LOCK 0) :=
    ⟨foldl_keeps (f := fun t : State => t.boot) (fun t _ => (State.Keeps.loadMode (.refl _ t) (.refl _)).boot_eq) _ s1,
      foldl_keeps (f := fun t : State => t.rd (F.BENCH_CTL_LOCK 0)) (fun t _ => t.rd_loadMode _) _ s1⟩
  have h3 : s3.boot = s2.boot ∧ s3.rd (F.BENCH_CTL_LOCK 0) = s2.rd (F.BENCH_CTL_LOCK 0) := by
    refine ⟨foldl_keeps (f := fun t : State => t.boot) (fun t p => ?_) _ s2,
      foldl_keeps (f := fun t : State => t.rd (F.BENCH_CTL_LOCK 0)) (fun t p => ?_) _ s2⟩ <;> dsimp only <;> split
    · rfl
    · exact (State.Keeps.assignEid (.refl _ t) (.refl _)).boot_eq
    · rfl
    · exact t.rd_assignEid _ _
  refine ⟨State.subnqn_configureGroups _, (State.Keeps.configureGroups (.refl _ _) (.refl _)).boot_eq.trans (h3.1.trans (h2.1.trans h1.1)), ?_⟩
  exact (State.rd_configureGroups _).trans (h3.2.trans (h2.2.trans h1.2))

/-! ### Step 7 -/

/-- The channels that have a DIMM, with it. -/
def State.fitted (s : State) (ch : List (List Dimm)) : List (Nat × Dimm) :=
  (List.range s.memChannels).filterMap fun i => ((ch.getD i []).head?).map fun (d : Dimm) => (i, d)

/-- CHSTAT of a channel with a DIMM. -/
def State.channelNoted (s : State) (bad : List Nat) (d : Nat × Dimm) : State :=
  (((s.wr (F.MEM_CHSTAT_PRESENT d.1) 1).wrB (F.MEM_CHSTAT_TRAINED d.1) (d.2.trains && !bad.contains d.1)).wr
    (F.MEM_CHSTAT_GIB d.1) d.2.gib).wr (F.MEM_CHSTAT_RANKS d.1) d.2.ranks

/-- A unit in a role of a pair leaves it when its memory fails. -/
def State.roleLeft (s : State) : State := if s.role = 1 || s.role = 2 then (s.setRole 0).wr F.HAL_PAIR_STAT_PAIRED 0 else s

/-- The DIMMs are noted as step 7 notes them: the channels judged before. -/
def State.dimmsJudged (s : State) (ch : List (List Dimm)) (bad : List Nat) : State :=
  ((s.fitted ch).foldl (fun (s : State) d => s.channelNoted bad d) s).applyRetired (s.fitted ch)

/-- The memory is laid out: the speed of its slowest DIMM and the regions. -/
def State.memoryLaid (s : State) (l : List (Nat × Dimm)) : State :=
  (s.wr F.MEM_STAT_SPEED ((l.map fun d => d.2.speed).foldl min (s.rd F.MEM_CFG_MAX_SPEED))).layRegions

theorem State.stepMemory_eq (s : State) (ch : List (List Dimm)) : s.stepMemory ch =
    if !(s.badChannels ch).isEmpty then
      ((s.dimmsJudged ch (s.badChannels ch)).roleLeft.updBoot fun b => { b with memBad := 1 }).raise 4 4 FATAL 1 ((s.badChannels ch).map fun c => 2 ^ c).sum
    else
      State.noteStep (if 1024 * ((s.fitted ch).map fun d => d.2.gib).sum < ((s.dimmsJudged ch (s.badChannels ch)).memoryLaid (s.fitted
        ch)).regionSizes.sum then
        (((s.dimmsJudged ch (s.badChannels ch)).memoryLaid (s.fitted ch)).updBoot fun b => { b with memBad := 2 }).raise 4 4 FATAL 3 0
      else (s.dimmsJudged ch (s.badChannels ch)).memoryLaid (s.fitted ch)) 7 := rfl

theorem State.memChannels_le (s : State) : s.memChannels ≤ 8 := by
  unfold State.memChannels
  split <;> decide

theorem State.mem_fitted_lt {s : State} {ch : List (List Dimm)} {d : Nat × Dimm} (h : d ∈ s.fitted ch) : d.1 < 8 := by
  obtain ⟨i, hi, hd⟩ := List.mem_filterMap.mp h
  obtain ⟨x, -, rfl⟩ := Option.map_eq_some_iff.mp hd
  exact Nat.lt_of_lt_of_le (List.mem_range.mp hi) s.memChannels_le

/-- A channel that is not bad has one DIMM, which trains. -/
theorem State.one_of_not_bad {s : State} {ch : List (List Dimm)} (hbad : s.badChannels ch = []) {i : Nat} (hi : i < s.memChannels) :
    ∃ d : Dimm, ch.getD i [] = [d] ∧ d.trains = true := by
  have hnot := List.filter_eq_nil_iff.mp hbad i (List.mem_range.mpr hi)
  have hreq : (((List.range s.memChannels).map fun i => ch.getD i []).getD i []) = ch.getD i [] := by
    simp [List.getD_eq_getElem?_getD, hi]
  rw [hreq] at hnot
  split at hnot
  · rename_i d hone
    simp only [Bool.not_eq_true, Bool.not_eq_false', Bool.and_eq_true] at hnot
    exact ⟨d, hone, hnot.1.2⟩
  · exact absurd rfl hnot

/-- A field outside the CHSTAT words is as before a channel is noted. -/
theorem State.rd_channelNoted_other (s : State) (bad : List Nat) (d : Nat × Dimm) (g : Fld) (h : g.key ≠ 0x401010 + 4 * d.1) :
    (s.channelNoted bad d).rd g = s.rd g := by
  rw [State.channelNoted, State.wrB, State.rd_wr_other _ _ _ _ h, State.rd_wr_other _ _ _ _ h, State.rd_wr_other _ _ _ _ h, State.rd_wr_other _ _ _ _ h]

theorem State.rd_channelNoted_same (s : State) (bad : List Nat) (d : Nat × Dimm) : (s.channelNoted bad d).rd (F.MEM_CHSTAT_PRESENT d.1) = 1 ∧
    (s.channelNoted bad d).rd (F.MEM_CHSTAT_TRAINED d.1) = bit (d.2.trains && !bad.contains d.1) := by
  unfold State.channelNoted State.wrB
  constructor
  · rw [State.rd_wr_spared _ (F.MEM_CHSTAT_RANKS d.1) (F.MEM_CHSTAT_PRESENT d.1) _ (by simp [sparedBy, F.MEM_CHSTAT_RANKS, F.MEM_CHSTAT_PRESENT]),
      State.rd_wr_spared _ (F.MEM_CHSTAT_GIB d.1) (F.MEM_CHSTAT_PRESENT d.1) _ (by simp [sparedBy, F.MEM_CHSTAT_GIB, F.MEM_CHSTAT_PRESENT]),
      State.rd_wr_spared _ (F.MEM_CHSTAT_TRAINED d.1) (F.MEM_CHSTAT_PRESENT d.1) _ (by simp [sparedBy, F.MEM_CHSTAT_TRAINED, F.MEM_CHSTAT_PRESENT])]
    exact State.rd_wr_fits _ _ (show (0 : Nat) ≤ 0 ∧ 0 < 32 by decide) (show 1 < 2 ^ 1 by decide)
  · rw [State.rd_wr_spared _ (F.MEM_CHSTAT_RANKS d.1) (F.MEM_CHSTAT_TRAINED d.1) _ (by simp [sparedBy, F.MEM_CHSTAT_RANKS, F.MEM_CHSTAT_TRAINED]),
      State.rd_wr_spared _ (F.MEM_CHSTAT_GIB d.1) (F.MEM_CHSTAT_TRAINED d.1) _ (by simp [sparedBy, F.MEM_CHSTAT_GIB, F.MEM_CHSTAT_TRAINED])]
    refine State.rd_wr_fits _ _ (show (1 : Nat) ≤ 1 ∧ 1 < 32 by decide) (show bit _ < 2 ^ 1 from ?_)
    cases d.2.trains && !bad.contains d.1 <;> decide

/-- A channel that is in a list of trained DIMMs, or is noted before, is noted after it. -/
theorem State.rd_fold_channelNoted (l : List (Nat × Dimm)) (i : Nat) (htrains : ∀ d ∈ l, d.2.trains = true) (s : State)
    (h : i ∈ l.map Prod.fst ∨ s.rd (F.MEM_CHSTAT_PRESENT i) = 1 ∧ s.rd (F.MEM_CHSTAT_TRAINED i) = 1) :
    (l.foldl (fun (s : State) d => s.channelNoted [] d) s).rd (F.MEM_CHSTAT_PRESENT i) = 1 ∧
      (l.foldl (fun (s : State) d => s.channelNoted [] d) s).rd (F.MEM_CHSTAT_TRAINED i) = 1 := by
  induction l generalizing s with
  | nil => exact h.resolve_left List.not_mem_nil
  | cons d l ih =>
    refine ih (fun x hx => htrains x (List.mem_cons_of_mem d hx)) (s.channelNoted [] d) ?_
    by_cases hd : d.1 = i
    · obtain ⟨hpresent, htrained⟩ := s.rd_channelNoted_same [] d
      rw [htrains d List.mem_cons_self] at htrained
      exact .inr ⟨hd ▸ hpresent, hd ▸ htrained⟩
    · refine h.imp (fun hmem => (List.mem_cons.mp hmem).resolve_left fun h => hd h.symm) fun hset => ?_
      rw [s.rd_channelNoted_other [] d _ (by show 0x401010 + 4 * i ≠ _; omega), s.rd_channelNoted_other [] d _ (by show 0x401010 + 4 * i ≠ _; omega)]
      exact hset

/-- A field of a word outside CHSTAT is as before step 7 notes the DIMMs. -/
theorem State.rd_dimmsJudged (s : State) (ch : List (List Dimm)) (bad : List Nat) (g : Fld) (h : g.key < 0x401010 ∨ 0x401030 ≤ g.key) :
    (s.dimmsJudged ch bad).rd g = s.rd g := by
  have hfold : ((s.fitted ch).foldl (fun (s : State) d => s.channelNoted bad d) s).rd g = s.rd g :=
    foldl_keeps_of (P := fun t : State => t.rd g = s.rd g) (s.fitted ch) (fun t ht d hd => (t.rd_channelNoted_other bad d g (by
      have := State.mem_fitted_lt hd; omega)).trans ht) s rfl
  exact hfold

theorem State.dimmsJudged_of {α : Type} {p : State → α} (hwr : ∀ (s : State) f v, p (s.wr f v) = p s) (hret : ∀ (s : State) l, p (s.applyRetired l) = p s)
    (s : State) (ch : List (List Dimm)) (bad : List Nat) : p (s.dimmsJudged ch bad) = p s :=
  (hret _ _).trans (foldl_keeps (f := p) (g := fun s d => s.channelNoted bad d)
    (fun t _ => (hwr _ _ _).trans ((hwr _ _ _).trans ((hwr _ _ _).trans (hwr t _ _)))) _ s)

theorem State.regionSizes_of_rd {s t : State} (h : ∀ g : Fld, g.key = 0x401040 ∨ g.key = 0x401044 ∨ g.key = 0x4201004 → t.rd g = s.rd g) :
    t.regionSizes = s.regionSizes := by
  unfold State.regionSizes
  simp only [h F.MEM_RGN_CFGB_OVF_GIB (.inr (.inl rfl)), h F.MEM_RGN_CFGA_STT_GIB (.inl rfl), h F.SVY_CACHE_CFG_GIB (.inr (.inr rfl)),
    h F.MEM_RGN_CFGA_DIDX_GIB (.inl rfl), h F.MEM_RGN_CFGA_RIDX_GIB (.inl rfl), h F.MEM_RGN_CFGB_DIRTY_GIB (.inr (.inl rfl)),
    h F.MEM_RGN_CFGB_CACHE_GIB (.inr (.inl rfl))]

/-- The base and the size of a region are written. -/
def State.layRegion (z : List Nat) (s : State) (r : Nat) : State :=
  (s.wr (F.MEM_RGN_BASEr_MIB r) (z.take r).sum).wr (F.MEM_RGN_SIZEr_MIB r) (z.getD r 0)

theorem State.layRegions_eq (s : State) : s.layRegions = (List.range 15).foldl (State.layRegion s.regionSizes) s := rfl

theorem State.rd_layRegion_other (z : List Nat) (s : State) (r : Nat) (g : Fld) (hbase : g.key ≠ 0x401200 + 8 * r) (hsize : g.key ≠ 0x401204 + 8 * r) :
    (State.layRegion z s r).rd g = s.rd g := by
  rw [State.layRegion, State.rd_wr_other _ _ _ _ hsize, State.rd_wr_other _ _ _ _ hbase]

theorem State.rd_layRegions_beside (s : State) (g : Fld) (h : g.key < 0x401200 ∨ 0x401300 ≤ g.key) : s.layRegions.rd g = s.rd g := by
  rw [s.layRegions_eq]
  exact foldl_keeps_of (P := fun t : State => t.rd g = s.rd g) (List.range 15) (fun t ht r hr => (State.rd_layRegion_other _ t r g
    (by have := List.mem_range.mp hr; omega) (by have := List.mem_range.mp hr; omega)).trans ht) s rfl

theorem getD_le_sum (l : List Nat) (i : Nat) : l.getD i 0 ≤ l.sum := by
  rw [List.getD_eq_getElem?_getD]
  cases h : l[i]? with
  | none => exact Nat.zero_le _
  | some x => exact List.le_sum_of_mem (List.mem_of_getElem? h)

theorem take_sum_le (l : List Nat) (i : Nat) : (l.take i).sum ≤ l.sum := by
  have h := congrArg List.sum (List.take_append_drop i l)
  rw [List.sum_append] at h
  omega

/-- The regions laid are the words of their bases and sizes, while the sizes fit. -/
theorem State.rd_layRegion_fold {z : List Nat} (hz : z.sum < 2 ^ 32) (s : State) (n : Nat) {r : Nat} (hr : r < n) :
    ((List.range n).foldl (State.layRegion z) s).rd (F.MEM_RGN_SIZEr_MIB r) = z.getD r 0 ∧
      ((List.range n).foldl (State.layRegion z) s).rd (F.MEM_RGN_BASEr_MIB r) = (z.take r).sum := by
  induction n with
  | zero => contradiction
  | succ n ih =>
    rw [List.range_succ, List.foldl_append, List.foldl_cons, List.foldl_nil]
    by_cases h : r = n
    · rw [h, State.layRegion]
      refine ⟨State.rd_wr_fits _ _ (show (0 : Nat) ≤ 31 ∧ 31 < 32 by decide) (Nat.lt_of_le_of_lt (getD_le_sum z n) hz), ?_⟩
      rw [State.rd_wr_other _ _ _ _ (by show 0x401200 + 8 * n ≠ 0x401204 + 8 * n; omega)]
      exact State.rd_wr_fits _ _ (show (0 : Nat) ≤ 31 ∧ 31 < 32 by decide) (Nat.lt_of_le_of_lt (take_sum_le z n) hz)
    · rw [State.rd_layRegion_other _ _ _ _ (by show 0x401204 + 8 * r ≠ _; omega) (by show 0x401204 + 8 * r ≠ _; omega),
        State.rd_layRegion_other _ _ _ _ (by show 0x401200 + 8 * r ≠ _; omega) (by show 0x401200 + 8 * r ≠ _; omega)]
      exact ih (by omega)

theorem foldl_min_le (l : List Nat) (x : Nat) : l.foldl min x ≤ x :=
  foldl_keeps_of (P := fun y => y ≤ x) l (fun _ hy _ _ => (Nat.min_le_left _ _).trans hy) x (Nat.le_refl x)

theorem State.rd_memoryLaid (s : State) (l : List (Nat × Dimm)) (g : Fld) (h : g.key < 0x401004 ∨ (0x401008 ≤ g.key ∧ g.key < 0x401200) ∨ 0x401300 ≤ g.key) :
    (s.memoryLaid l).rd g = s.rd g :=
  (State.rd_layRegions_beside _ g (by omega)).trans (s.rd_wr_other _ g _ (by show g.key ≠ 0x401004; omega))

theorem State.regionSizes_memoryLaid (s : State) (l : List (Nat × Dimm)) : (s.memoryLaid l).regionSizes = s.regionSizes :=
  State.regionSizes_of_rd fun g hg => s.rd_memoryLaid l g (by omega)

theorem State.rd_speed_memoryLaid (s : State) (l : List (Nat × Dimm)) : (s.memoryLaid l).rd F.MEM_STAT_SPEED ≤ s.rd F.MEM_CFG_MAX_SPEED := by
  have hle : (l.map fun d => d.2.speed).foldl min (s.rd F.MEM_CFG_MAX_SPEED) ≤ s.rd F.MEM_CFG_MAX_SPEED := foldl_min_le _ _
  rw [State.memoryLaid, State.rd_layRegions_beside _ _ (by decide), State.rd_wr_fits _ F.MEM_STAT_SPEED (by decide) (Nat.lt_of_le_of_lt hle (s.rd_lt
    F.MEM_CFG_MAX_SPEED))]
  exact hle

theorem State.rd_region_memoryLaid (s : State) (l : List (Nat × Dimm)) (hz : s.regionSizes.sum < 2 ^ 32) {r : Nat} (hr : r < 15) :
    (s.memoryLaid l).rd (F.MEM_RGN_SIZEr_MIB r) = s.regionSizes.getD r 0 ∧ (s.memoryLaid l).rd (F.MEM_RGN_BASEr_MIB r) = (s.regionSizes.take r).sum := by
  rw [State.memoryLaid]
  generalize hu : s.wr F.MEM_STAT_SPEED ((l.map fun d => d.2.speed).foldl min (s.rd F.MEM_CFG_MAX_SPEED)) = u
  have hsizes : u.regionSizes = s.regionSizes :=
    State.regionSizes_of_rd fun g hg => hu ▸ s.rd_wr_other _ g _ (by show g.key ≠ 0x401004; omega)
  rw [u.layRegions_eq, hsizes]
  exact State.rd_layRegion_fold hz u 15 hr

theorem State.boot_memoryLaid (s : State) (l : List (Nat × Dimm)) : (s.memoryLaid l).boot = s.boot :=
  foldl_keeps (f := fun t : State => t.boot) (g := State.layRegion _) (fun _ _ => rfl) _ _

theorem State.Keeps.bench_eq {s t : State} {K : Nat} (h : t.Keeps K s) (hK : K.testBit 2 = false := by decide) : t.bench = s.bench :=
  (congrArg State.bench h.pieces).symm.trans (by simp only [State.blend, hK, cond_false])

theorem State.benchAt_of_bench {s t : State} (h : t.bench = s.bench) (k : Nat) : t.benchAt k = s.benchAt k := by
  rw [State.benchAt, h, State.benchAt]

/-- A role change leaves of each bench all but its event records. -/
theorem State.benchAt_setRole (s : State) (r k : Nat) : ((s.setRole r).benchAt k).withoutEvents = (s.benchAt k).withoutEvents := by
  have hfwd : ∀ t : State, (t.syncFwd.benchAt k).withoutEvents = (t.benchAt k).withoutEvents := fun t => by
    have hwr : ((t.wrB F.SWC_STAT_HAUL_UP t.haulUp).wrB F.SWC_STAT_FORWARDING t.forwards).benchAt k = t.benchAt k := by
      rw [State.wrB, State.wrB, State.benchAt_wr, State.benchAt_wr]
    exact map_ite (f := fun t : State => (t.benchAt k).withoutEvents) (congrArg _ hwr) ((State.benchAt_raise_withoutEvents ..).trans (congrArg _ hwr))
  have hrelay : ((((s.wr F.HAL_PAIR_STAT_ROLE r).syncFwd).syncRelay).benchAt k).withoutEvents = (s.benchAt k).withoutEvents := by
    rw [State.syncRelay, State.wrB, State.benchAt_wr, hfwd, State.benchAt_wr]
  refine map_ite (f := fun t : State => (t.benchAt k).withoutEvents) hrelay ?_
  exact (foldl_keeps (f := fun t : State => (t.benchAt k).withoutEvents)
    (fun t n => by rw [State.benchAt_of_bench (State.Keeps.syncLed (.refl _ t) (.refl _)).bench_eq]) _ _).trans hrelay

theorem State.boot_setRole (s : State) (r : Nat) : (s.setRole r).boot = s.boot := (State.Keeps.setRole (.refl _ s) (.refl _)).boot_eq

theorem State.roleLeft_fields (s : State) (k : Nat) : s.roleLeft.boot = s.boot ∧ (s.roleLeft.benchAt k).state = (s.benchAt k).state := by
  unfold State.roleLeft
  split
  · refine ⟨s.boot_setRole 0, ?_⟩
    show ((s.setRole 0).benchAt k).withoutEvents.state = (s.benchAt k).withoutEvents.state
    rw [s.benchAt_setRole 0 k]
  · exact ⟨rfl, rfl⟩

/-! ### Entering LONE with nothing to give up -/

theorem State.Keeps.lines_eq {s t : State} {K : Nat} (h : t.Keeps K s) (hK : K.testBit 61 = false := by decide) : t.lines = s.lines :=
  (congrArg State.lines h.pieces).symm.trans (by simp only [State.blend, hK, cond_false])

theorem State.Keeps.mirrorOut_eq {s t : State} {K : Nat} (h : t.Keeps K s) (hK : K.testBit 69 = false := by decide) : t.mirrorOut = s.mirrorOut :=
  (congrArg State.mirrorOut h.pieces).symm.trans (by simp only [State.blend, hK, cond_false])

/-- The words of HAL that hold the role and the generation. -/
abbrev pairWord (g : Fld) : Prop := 0x70100c ≤ g.key ∧ g.key ≤ 0x701014

theorem asidePause_of_pairWord {g : Fld} (hg : pairWord g) : asidePause g := by
  obtain ⟨hlo, hhi⟩ := hg
  refine ⟨fun b => sparedBy_of_key_ne ?_, ?_, by omega⟩
  · rw [F.key_PRT_STAT_LPI_TX]
    omega
  · rw [F.key_SWC_STAT_CELLS_USED]
    omega

theorem State.rd_epTlp (s : State) (g : Fld) : s.epTlp.rd g = s.rd g := rfl

theorem State.rd_police (s : State) (q : Nat) (g : Fld) : (s.police q).2.rd g = s.rd g := by
  unfold State.police
  extract_lets l n
  split <;> rfl

theorem State.rd_draw (s : State) (k : FreeKind) (bound : Nat) (g : Fld) : (s.draw k bound).2.rd g = s.rd g := rfl

/-- The state with other samples kept. -/
def State.withSamples (s : State) (l : List Sample) : State := { s with samples := l }

theorem State.rd_withSamples (s : State) (l : List Sample) (g : Fld) : (s.withSamples l).rd g = s.rd g := rfl

/-- A sample is counted and kept. -/
def State.sampleKept (s : State) (r : Sample) : State :=
  (s.wr64 F.CTL_SAMP_TOTAL_LO F.CTL_SAMP_TOTAL_HI ((s.rd64 F.CTL_SAMP_TOTAL_LO F.CTL_SAMP_TOTAL_HI + 1) % 2 ^ 64)).withSamples ((r :: s.samples).take 1024)

theorem State.sampleAt_eq (s : State) (n : Nat) (r : Sample) : s.sampleAt n r = if n = 0 then s else
    if (s.draw .random n).1 != 0 then (s.draw .random n).2 else
    if ((s.draw .random n).2.police 3).1 then (((s.draw .random n).2.police 3).2.sampleKept r).bump F.SWC_SAMPLES
    else ((s.draw .random n).2.police 3).2.bump F.SWC_SAMP_DROP := rfl

section AboutPairWords

variable {g : Fld} (hg : pairWord g) (s : State)

include hg

theorem State.rd_wr_pairWord (f : Fld) (v : Nat) (h : f.key < 0x70100c ∨ 0x701014 < f.key) : (s.wr f v).rd g = s.rd g := by
  obtain ⟨hlo, hhi⟩ := hg
  exact s.rd_wr_other f g v (by omega)

theorem State.rd_bump_pairWord (f : Fld) (h : f.key < 0x70100c ∨ 0x701014 < f.key) : (s.bump f).rd g = s.rd g := by
  obtain ⟨hlo, hhi⟩ := hg
  exact s.rd_bump_other f g (by omega)

theorem State.rd_nrtOut_pairWord (c : Conn) (h : NrtHdr) (e : NrtExt) (b : NrtBody) : (s.nrtOut c h e b).1.rd g = s.rd g :=
  State.rd_bump_pairWord hg _ (F.XPT_TX_PKT c.role) (by show roleKey 0 c.role 0x1104 < _ ∨ _ < roleKey 0 c.role 0x1104; rw [roleKey]; omega)

theorem State.rd_sendSync_pairWord (c : Conn) : (s.sendSync c).1.rd g = s.rd g := by
  unfold State.sendSync
  split
  · rfl
  · exact s.rd_nrtOut_pairWord hg _ _ _ _

theorem State.rd_nrtSend_pairWord (c : Conn) (h : NrtHdr) (e : NrtExt) (b : NrtBody) : (s.nrtSend c h e b).1.rd g = s.rd g := by
  have hsync := s.rd_sendSync_pairWord hg c
  unfold State.nrtSend
  generalize s.sendSync c = p at hsync ⊢
  exact (p.1.rd_nrtOut_pairWord hg p.2 h e b).trans hsync

theorem State.rd_sendAck_pairWord (c : Conn) (path : Nat) : (s.sendAck c path).rd g = s.rd g := by
  unfold State.sendAck
  have hsent := s.rd_nrtSend_pairWord hg c { c.header 2 path with renege := c.renege } .none (.bitmap c.sackBits)
  generalize s.nrtSend c { c.header 2 path with renege := c.renege } .none (.bitmap c.sackBits) = p at hsent ⊢
  exact hsent

theorem State.rd_restoreCredits_pairWord : s.restoreCredits.rd g = s.rd g :=
  foldl_keeps (f := fun t : State => t.rd g) (fun t _ => t.rd_sendAck_pairWord hg _ _) _ s

theorem State.rd_epFetchSq_pairWord (f qid : Nat) : (s.epFetchSq f qid).rd g = s.rd g := by
  unfold State.epFetchSq
  extract_lets idx
  split
  · rfl
  split
  · rfl
  extract_lets busy
  split
  · rfl
  split
  · rename_i t hread
    unfold State.epRead at hread
    split at hread
    · cases hread
    · obtain rfl := Option.some.inj hread
      rw [State.rd_epTlp]
      exact State.rd_bump_pairWord hg _ F.EPT_RD_REQ (by decide)
  · rfl

theorem State.rd_epFetchAll_pairWord (f : Nat) : (s.epFetchAll f).rd g = s.rd g := by
  unfold State.epFetchAll
  split
  · rfl
  · exact foldl_keeps (f := fun t : State => t.rd g) (fun t q => t.rd_epFetchSq_pairWord hg f q) _ s

theorem State.rd_syncCmds_pairWord : s.syncCmds.rd g = s.rd g := by
  unfold State.syncCmds
  extract_lets s1 full src s2
  have h2 : s2.rd g = s.rd g := s1.rd_wr_pairWord hg F.CMD_INFLIGHT_TOTAL _ (by decide)
  split
  · exact (foldl_keeps (f := fun t : State => t.rd g) (fun t f => t.rd_epFetchAll_pairWord hg f) _ _).trans ((s2.rd_restoreCredits_pairWord hg).trans h2)
  · exact h2

theorem State.rd_sampTotal_pairWord (v : Nat) : (s.wr64 F.CTL_SAMP_TOTAL_LO F.CTL_SAMP_TOTAL_HI v).rd g = s.rd g :=
  (State.rd_wr_pairWord hg _ F.CTL_SAMP_TOTAL_HI _ (by decide)).trans (s.rd_wr_pairWord hg F.CTL_SAMP_TOTAL_LO _ (by decide))

theorem State.rd_sampleAt_pairWord (n : Nat) (r : Sample) : (s.sampleAt n r).rd g = s.rd g := by
  have hdrawn : ((s.draw .random n).2.police 3).2.rd g = s.rd g := State.rd_police _ 3 g
  rw [State.sampleAt_eq]
  generalize ((s.draw .random n).2.police 3) = p at hdrawn ⊢
  split
  · rfl
  split
  · rfl
  split
  · rw [State.rd_bump_pairWord hg _ _ (by decide), State.sampleKept, State.rd_withSamples, State.rd_sampTotal_pairWord hg, hdrawn]
  · rw [State.rd_bump_pairWord hg _ _ (by decide), hdrawn]

theorem State.rd_gapFrames_pairWord : s.gapFrames.rd g = s.rd g := by
  refine foldl_keeps (f := fun t : State => t.rd g) (fun t r => ?_) _ s
  split
  · rfl
  unfold State.releaseFrames
  split
  · rfl
  extract_lets held u
  exact (foldl_keeps (f := fun t : State => t.rd g) (fun t f => t.rd_sampleAt_pairWord hg _ _) _ _).trans
    ((t.onlyPauses_freeFrames _).words g (asidePause_of_pairWord hg))

theorem State.rd_syncCache_pairWord : s.syncCache.rd g = s.rd g := by
  unfold State.syncCache
  extract_lets lim s1 s2
  have h2 : s2.rd g = s.rd g := (s1.rd_wr_pairWord hg F.MEM_CACHE_STAT_PEND_PCT _ (by decide)).trans (s.rd_wr_pairWord hg F.MEM_CACHE_STAT_DIRTY_PCT
    _ (by decide))
  split
  · exact (s2.rd_wr_pairWord hg F.MEM_CACHE_STAT_AT_LIMIT _ (by decide)).trans h2
  · exact h2

end AboutPairWords

theorem State.flushAll_empty {s : State} (h : s.lines = []) : s.flushAll = s := by
  rw [State.flushAll, State.oldestDirty, h]
  rfl

/-- The state in which the mirror holds nothing. -/
def State.unmirrored (s : State) : State := { s with mirrorOut := s.mirrorOut.filter fun i => s.mseq < i.seq }

theorem State.mackUpTo_empty {s : State} (h : s.mirrorOut = []) : s.mackUpTo s.mseq = s.unmirrored.syncCmds := by
  rw [State.mackUpTo, h, State.unmirrored, h]
  rfl

/-- The state that no longer resynchronises nor hands over. -/
def State.unhanded (s : State) : State := s.updPair fun p => { p with resync := none, handover := none }

theorem State.unpair_eq (s : State) : s.unpair =
    ((((s.wr F.HAL_PAIR_STAT_PAIRED 0).mackUpTo (s.wr F.HAL_PAIR_STAT_PAIRED 0).mseq).unhanded.gapFrames).flushAll).syncCache := rfl

/-- Leaving the pair with no mirrored item and no line cached leaves the role and the generation. -/
theorem State.rd_unpair_pairWord {s : State} (hmirror : s.mirrorOut = []) (hlines : s.lines = []) {g : Fld} (hg : pairWord g)
    (hpaired : sparedBy g F.HAL_PAIR_STAT_PAIRED = true) : s.unpair.rd g = s.rd g := by
  generalize hu : s.wr F.HAL_PAIR_STAT_PAIRED 0 = u
  have hrd : u.rd g = s.rd g := hu ▸ s.rd_wr_spared _ g 0 hpaired
  have humirror : u.mirrorOut = [] := by rw [← hu, State.wr_mirrorOut, hmirror]
  have hulines : u.lines = [] := by rw [← hu, State.wr_lines, hlines]
  have hsync : u.unmirrored.syncCmds.lines = u.lines := (State.Keeps.syncCmds (.refl _ u.unmirrored) (.refl _)).lines_eq
  have hgap : u.unmirrored.syncCmds.unhanded.gapFrames.lines = u.unmirrored.syncCmds.lines := (State.Keeps.gapFrames (.refl _ _) (.refl _)).lines_eq
  rw [s.unpair_eq, hu, State.mackUpTo_empty humirror, State.flushAll_empty (hgap.trans (hsync.trans hulines)), State.rd_syncCache_pairWord hg,
    State.rd_gapFrames_pairWord hg]
  exact (State.rd_syncCmds_pairWord hg u.unmirrored).trans hrd

theorem State.gen_wr64 (s : State) (v : Nat) (h : v < 2 ^ 64) : (s.wr64 F.HAL_PAIR_GEN_LO F.HAL_PAIR_GEN_HI v).gen = v := by
  rw [State.gen, State.rd64, State.wr64, State.rd_wr_other _ _ _ _ (by decide), State.rd_wr_fits _ _ (by decide) (show v % 2 ^ 32 < 2 ^ 32 by omega),
    State.rd_wr_fits _ _ (by decide) (show v / 2 ^ 32 < 2 ^ 32 by omega)]
  omega

theorem State.gen_of_rd {s t : State} (h : ∀ g, pairWord g → g.key ≠ 0x70100c → t.rd g = s.rd g) : t.gen = s.gen := by
  rw [State.gen, State.rd64, h F.HAL_PAIR_GEN_LO (by decide) (by decide), h F.HAL_PAIR_GEN_HI (by decide) (by decide), State.gen, State.rd64]

theorem State.gen_setGen (s : State) (n : Nat) : (s.setGen n).gen = n % 2 ^ 64 :=
  (s.gen_wr64 (n % 2 ^ 64) (Nat.mod_lt _ (by decide)) :)

/-- The state that has entered LONE, before the pair is left. -/
def State.loneRole (s : State) (cause : Nat) : State :=
  ((if s.role == 1 || s.role == 2 then ((s.setGen (s.gen + 1)).setRole 3).bump F.HAL_TAKEOVER else (s.setGen (s.gen + 1)).setRole 3)).raise 7 10
    NOTICE 7 cause

theorem State.enterLone_eq (s : State) (cause : Nat) : s.enterLone cause = (s.loneRole cause).unpair := rfl

theorem State.loneRole_fields (s : State) (cause : Nat) : (s.loneRole cause).role = 3 ∧ (s.loneRole cause).gen = (s.gen + 1) % 2 ^ 64 ∧
    (s.loneRole cause).mirrorOut = s.mirrorOut ∧ (s.loneRole cause).lines = s.lines := by
  generalize hu : (s.setGen (s.gen + 1)).setRole 3 = u
  have hrole : u.role = 3 := hu ▸ State.role_setRole _ (by decide)
  have hgen : u.gen = (s.gen + 1) % 2 ^ 64 := by
    rw [← s.gen_setGen (s.gen + 1), ← hu]
    exact State.gen_of_rd fun g hg hrole => State.rd_setRole_other _ (by have := hg.1; have := hg.2; omega) 3 (sparedBy_of_key_ne hrole)
      (ne_of_gt (Nat.lt_of_lt_of_le (by decide : F.EPT_STAT_RELAY.key < 0x70100c) hg.1))
  have hkeeps := State.Keeps.setRole (r := 3) (.refl _ (s.setGen (s.gen + 1))) (.refl _)
  rw [hu] at hkeeps
  generalize hv : (if s.role == 1 || s.role == 2 then u.bump F.HAL_TAKEOVER else u) = v
  have hvrd : ∀ g, pairWord g → v.rd g = u.rd g := fun g hg => by
    rw [← hv]
    split
    · exact u.rd_bump_pairWord hg _ (by decide)
    · rfl
  have hvkept : v.mirrorOut = s.mirrorOut ∧ v.lines = s.lines := by
    rw [← hv]
    split
    · exact ⟨hkeeps.mirrorOut_eq, hkeeps.lines_eq⟩
    · exact ⟨hkeeps.mirrorOut_eq, hkeeps.lines_eq⟩
  have heq : s.loneRole cause = v.raise 7 10 NOTICE 7 cause := by rw [State.loneRole, hu, hv]
  have hrd : ∀ g, pairWord g → (s.loneRole cause).rd g = u.rd g := fun g hg => by
    rw [heq, State.rd_raise_beyond _ _ _ _ _ _ _ (by have := hg.1; have := hg.2; omega), hvrd g hg]
  refine ⟨(hrd _ (by decide)).trans hrole, (State.gen_of_rd fun g hg _ => hrd g hg).trans hgen, ?_, ?_⟩
  · rw [heq, State.raise_mirrorOut, hvkept.1]
  · rw [heq, State.raise_lines, hvkept.2]

theorem State.enterLone_fields {s : State} (cause : Nat) (hmirror : s.mirrorOut = []) (hlines : s.lines = []) :
    (s.enterLone cause).role = 3 ∧ (s.enterLone cause).gen = (s.gen + 1) % 2 ^ 64 := by
  obtain ⟨hrole, hgen, hmirror', hlines'⟩ := s.loneRole_fields cause
  have hrd : ∀ g, pairWord g → sparedBy g F.HAL_PAIR_STAT_PAIRED = true → (s.enterLone cause).rd g = (s.loneRole cause).rd g := fun g hg hp =>
    State.rd_unpair_pairWord (hmirror'.trans hmirror) (hlines'.trans hlines) hg hp
  exact ⟨(hrd _ (by decide) (by decide)).trans hrole,
    (State.gen_of_rd fun g hg hne => hrd g hg (sparedBy_of_key_ne hne)).trans hgen⟩

end Sys2Proof.Machine


namespace Sys2Proof

open Machine

theorem resetAssert_holds : ∀ (s : State) (kind : Nat),
    (kind ≤ 3) →
    (s.boot.held ≠ some 4) →
    (s.boot.held ≠ some 5) →
    Completes (.resetAssert kind) s (fun t =>
      (t.boot.held = some kind) ∧
      (t.boot.ended = []) ∧
      (t.conns = []) ∧
      (t.cmds = []) ∧
      (t.lines = []) ∧
      (t.ctrls = []) ∧
      (t.fuses = s.fuses) ∧
      (t.flash = s.flash) ∧
      (t.tim.count = 0)) := by
  intro s kind hkind h4 h5
  obtain ⟨t, hpiece, hconns, hcmds, hlines, hctrls, hboot, hfuses, hflash, htim⟩ := s.afterReset_pieces kind
  refine .of_exec (t := s.holdReset kind) (by rw [exec, execResetAssert, if_pos hkind]) ?_
  have hended : (s.afterReset kind).boot = Boot.cold := (hpiece (fun s => s.boot) fun _ _ _ => rfl).trans hboot
  have hcount : (s.afterReset kind).tim = Tim.cold := (hpiece (fun s => s.tim) fun _ _ _ => rfl).trans htim
  rw [State.holdReset_eq hkind h4 h5]
  exact ⟨rfl, congrArg Boot.ended hended, (hpiece (fun s => s.conns) fun _ _ _ => rfl).trans hconns, (hpiece (fun s => s.cmds) fun _ _ _ => rfl).trans hcmds,
    (hpiece (fun s => s.lines) fun _ _ _ => rfl).trans hlines, (hpiece (fun s => s.ctrls) fun _ _ _ => rfl).trans hctrls,
    (hpiece (fun s => s.fuses) fun _ _ _ => rfl).trans hfuses, (hpiece (fun s => s.flash) fun _ _ _ => rfl).trans hflash, congrArg Tim.count hcount⟩

theorem controllerStart_begins : ∀ (s : State) (bootSel : Nat) (slotB : Bool) (flash : Option Flash) (h0 : Nat),
    (s.boot.held = some h0) →
    (h0 ≤ 3) →
    s.tru.jtag = false →
    (s.rd F.TRU_STAT_TAMPER_CNT ≠ 3) →
    (bootSel < 4) →
    Completes (.controllerStart bootSel slotB flash) s (fun t =>
      (t.boot.held = none) ∧
      (t.boot.ended = [1]) ∧
      (t.boot.stopped = false) ∧
      (t.rd F.TRU_STAT_STEP = 1) ∧
      (t.rd F.CTL_BOOT_STAT_BOOT_SEL = bootSel) ∧
      (t.rd F.CTL_BOOT_STAT_SLOT_B = (if slotB = true then 1 else 0)) ∧
      (t.flash = flash.getD s.flash) ∧
      (t.fuses = s.fuses)) := by
  intro s bootSel slotB flash h0 hheld hh0 hjtag hcnt hsel
  obtain ⟨hboot, hflash, hfuses⟩ := s.startBegun_fields bootSel slotB flash
  obtain ⟨hrdsel, hrdslot⟩ := s.rd_startBegun slotB flash hsel
  generalize hu : s.startBegun bootSel slotB flash = u at *
  refine .of_exec (t := (u.noteStep 1).wr F.TRU_STAT_STEP 1) ?_ ?_
  · rw [exec, execControllerStart, hheld]
    simp only [hjtag, hcnt, decide_false, Bool.or_false, decide_eq_true_eq, if_neg (Nat.not_lt.mpr hh0)]
    rw [← hu]
    rfl
  · rw [State.wr_boot, u.boot_noteStep, hboot, State.rd_wr_fits _ _ (by decide) (by decide), State.rd_wr_other _ _ _ _ (by decide),
      State.rd_wr_other _ _ _ _ (by decide), u.rd_noteStep _ (by decide) (by decide) (by decide), u.rd_noteStep _ (by decide) (by decide) (by decide),
      hrdsel, hrdslot, State.wr_flash, State.wr_fuses, State.noteStep_of (p := State.flash) (fun _ _ _ => rfl) (fun _ _ => rfl),
      State.noteStep_of (p := State.fuses) (fun _ _ _ => rfl) (fun _ _ => rfl), hflash, hfuses]
    exact ⟨rfl, rfl, rfl, rfl, rfl, rfl, rfl, rfl⟩

theorem bootRom_mismatch : ∀ (s : State) (romOk : Bool) (fusesOk : Bool) (trngOk : Bool),
    s.boot.held = none →
    s.boot.stopped = false →
    (s.stepDone 1 = true) →
    (s.stepDone 2 = false) →
    ((romOk && fusesOk) = false) →
    Completes (.bootStepEnd (.rom romOk fusesOk trngOk)) s (fun t =>
      (t.boot.stopped = true) ∧
      (t.rd F.TRU_STAT_STOP = 2) ∧
      (t.stepDone 2 = false) ∧
      (t.tru = s.tru)) := by
  intro s romOk fusesOk trngOk hheld hrun h1 h2 hbad
  refine .of_exec (t := s.stopStart 2) ?_ ?_
  · have hbad' : (!romOk || !fusesOk) = true := by rw [← Bool.not_and, hbad]; rfl
    rw [exec, execBootStepEnd, State.start_runs hheld hrun h1, if_neg Bool.false_ne_true]
    simp [h2, State.stepRom, hbad']
  · obtain ⟨hboot, hstop, htru⟩ := s.stopStart_fields (why := 2) (by decide)
    rw [State.stepDone, hboot]
    exact ⟨rfl, hstop, h2, htru⟩

theorem bootRom_trngFailed : ∀ (s : State),
    s.boot.held = none →
    s.boot.stopped = false →
    (s.stepDone 1 = true) →
    (s.stepDone 2 = false) →
    Completes (.bootStepEnd (.rom true true false)) s (fun t =>
      (t.boot.stopped = true) ∧
      (t.rd F.TRU_STAT_STOP = 3) ∧
      (t.stepDone 2 = false)) := by
  intro s hheld hrun h1 h2
  refine .of_exec (t := s.stopStart 3) ?_ ?_
  · rw [exec, execBootStepEnd, State.start_runs hheld hrun h1, if_neg Bool.false_ne_true]
    simp [h2, State.stepRom]
  · obtain ⟨hboot, hstop, -⟩ := s.stopStart_fields (why := 3) (by decide)
    rw [State.stepDone, hboot]
    exact ⟨rfl, hstop, h2⟩

theorem bootRom_passed : ∀ (s : State),
    s.boot.held = none →
    s.boot.stopped = false →
    (s.stepDone 1 = true) →
    (s.stepDone 2 = false) →
    Completes (.bootStepEnd (.rom true true true)) s (fun t =>
      (t.stepDone 2 = true) ∧
      (t.tru.kcw.isSome = true) ∧
      (t.tru.memKey.isSome = true) ∧
      (t.rd F.TRU_STAT_STEP = 5) ∧
      (t.boot.stopped = false)) := by
  intro s hheld hrun h1 h2
  refine .of_exec (t := s.stepRom true true true) ?_ ?_
  · rw [exec, execBootStepEnd, State.start_runs hheld hrun h1, if_neg Bool.false_ne_true]
    simp [h2]
  · obtain ⟨hkcw, hmem, hkboot⟩ := s.keysDrawn_fields
    obtain ⟨htru, hboot⟩ := s.keysDrawn.truActive_fields
    rw [s.stepRom_passed, State.stepDone_noteStep, State.noteStep_of (p := State.tru) (fun _ _ _ => rfl) (fun _ _ => rfl) _ 2, State.boot_noteStep,
      State.rd_noteStep _ _ (by decide) (by decide) (by decide), State.wr_boot, State.wr_tru, htru, hboot, hkboot,
      State.rd_wr_fits _ _ (by decide) (by decide)]
    exact ⟨rfl, hkcw, hmem, rfl, hrun⟩

theorem bootBank_none : ∀ (s : State),
    s.boot.held = none →
    s.boot.stopped = false →
    (s.stepDone 1 = true) →
    (s.stepDone 2 = true) →
    (s.stepDone 3 = false) →
    (s.flash.size < 64) →
    Completes (.bootStepEnd .bank) s (fun t =>
      (t.boot.stopped = true) ∧
      (t.rd F.TRU_STAT_STOP = 1) ∧
      (t.stepDone 3 = false)) := by
  intro s hheld hrun h1 h2 h3 hsize
  refine .of_exec (t := s.stopStart 1) ?_ ?_
  · rw [exec, execBootStepEnd, State.start_runs hheld hrun h1, if_neg Bool.false_ne_true]
    simp [h2, h3, State.stepBank, hsize]
  · obtain ⟨hboot, hstop, -⟩ := s.stopStart_fields (why := 1) (by decide)
    rw [State.stepDone, hboot]
    exact ⟨rfl, hstop, h3⟩

theorem bootBank_first : ∀ (s : State) (n : Nat) (b : BankImg),
    s.boot.held = none →
    s.boot.stopped = false →
    (s.stepDone 1 = true) →
    (s.stepDone 2 = true) →
    (s.stepDone 3 = false) →
    (64 ≤ s.flash.size) →
    (tryBanks s.part s.fuses s.flash.bankSize s.flash.banks (s.flash.order (s.rd F.CTL_BOOT_STAT_BOOT_SEL)) = ([], some (n, b))) →
    (n < 4) →
    Completes (.bootStepEnd .bank) s (fun t =>
      (t.stepDone 3 = true) ∧
      (t.boot.img = some b) ∧
      (t.boot.bank = n) ∧
      (t.rd F.CTL_BOOT_STAT_BANK = n) ∧
      (t.rd F.TRU_STAT_STEP = 6) ∧
      (t.rd F.CTL_BOOT_STAT_OWNER = s.ownerOf b) ∧
      (t.rd F.CTL_IMG_SVN = (b.fwSvn + 65536 * b.ownSvn) % 2 ^ 32)) := by
  intro s n b hheld hrun h1 h2 h3 hsize hpick hn
  obtain ⟨hboot, hfuses, hrd⟩ := s.benchesTested_fields
  obtain ⟨hjboot, howner⟩ := s.benchesTested.judged_fields b
  obtain ⟨hbank, hsvn⟩ := (s.benchesTested.judged b).rd_named hn b
  refine .of_exec (t := s.stepBank) ?_ ?_
  · rw [exec, execBootStepEnd, State.start_runs hheld hrun h1, if_neg Bool.false_ne_true]
    simp [h2, h3]
  · have hsame : s.benchesTested.ownerOf b = s.ownerOf b := by
      rw [State.ownerOf, State.ownerOf, hfuses, hrd F.CTL_BOOT_STAT_BOOT_SEL (by decide)]
    rw [State.stepBank_first hsize hpick]
    generalize hu : ((s.benchesTested.judged b).loadBank n b).wr F.TRU_STAT_STEP 6 = u
    have huboot : u.boot = { (s.benchesTested.judged b).boot with img := some b, bank := n } := by rw [← hu, State.wr_boot, State.loadBank_boot]
    have hurd : ∀ g, g.key ≠ F.TRU_STAT_STEP.key → g.key % 0x100000 ≠ 4 → u.rd g = ((s.benchesTested.judged b).nameBank n b).rd g := by
      intro g hg h4
      rw [← hu, State.rd_wr_other _ _ _ _ hg, State.rd_loadBank _ _ _ _ h4]
    refine ⟨u.stepDone_noteStep 3, ?_, ?_, ?_, ?_, ?_, ?_⟩
    · rw [u.boot_noteStep, huboot]
    · rw [u.boot_noteStep, huboot]
    · rw [u.rd_noteStep _ (by decide) (by decide) (by decide), hurd _ (by decide) (by decide), hbank]
    · rw [u.rd_noteStep _ (by decide) (by decide) (by decide), ← hu, State.rd_wr_fits _ _ (by decide) (by decide)]
    · rw [u.rd_noteStep _ (by decide) (by decide) (by decide), hurd _ (by decide) (by decide), State.rd_nameBank _ _ _ _ (by decide) (by decide), howner,
        hsame]
    · rw [u.rd_noteStep _ (by decide) (by decide) (by decide), hurd _ (by decide) (by decide), hsvn]

theorem bootSettings_unowned : ∀ (s : State),
    s.boot.held = none →
    s.boot.stopped = false →
    (s.stepDone 1 = true) →
    (s.stepDone 3 = true) →
    (s.stepDone 4 = false) →
    (s.rd F.CTL_BOOT_STAT_OWNER = 2) →
    (s.fuses.vcore < 1024) →
    Completes (.bootStepEnd (.settings [])) s (fun t =>
      (t.stepDone 4 = true) ∧
      (t.rd F.CTL_AVS_STAT_MV = s.fuses.vcore) ∧
      (t.boot.step4At = s.now) ∧
      (t.groups = s.groups)) := by
  intro s hheld hrun h1 h3 h4 howner hvcore
  have hkeeps := s.selftested_keeps
  have hvolt := s.selftested.voltageSet_fields
  obtain ⟨hboot, hgroups, hrd⟩ := hvolt
  have hown : s.selftested.voltageSet.rd F.CTL_BOOT_STAT_OWNER = 2 := by rw [hrd, s.rd_selftested_bootStat rfl, howner]
  have hmv := s.selftested.rd_voltageSet (hkeeps.fuses_eq ▸ hvcore)
  generalize hu : s.selftested.voltageSet = u at *
  refine .of_exec (t := (u.noteStep 4).raise 0 6 ERROR 0x17 0) ?_ ⟨?_, ?_, ?_, ?_⟩
  · rw [exec, execBootStepEnd, State.start_runs hheld hrun h1, if_neg Bool.false_ne_true]
    simp only [h3, h4, List.all_cons, List.all_nil, Bool.not_false, Bool.and_self, Nat.le_refl, decide_true, Bool.true_or, if_true]
    rw [State.stepSettings_eq, hu, if_pos hown]
  · rw [State.stepDone, State.raise_boot, ← State.stepDone, State.stepDone_noteStep]
  · rw [State.rd_raise_beyond _ _ _ _ _ _ _ (by decide), State.rd_noteStep _ _ (by decide) (by decide) (by decide), hmv, hkeeps.fuses_eq]
  · rw [State.raise_boot, State.boot_noteStep, hboot]
    exact State.now_of_tim hkeeps.tim_eq
  · rw [State.raise_groups, State.noteStep_of (p := State.groups) (fun _ _ _ => rfl) (fun _ _ => rfl), hgroups, hkeeps.groups_eq]

theorem bootSettings_applied : ∀ (s : State) (b : BankImg),
    s.boot.held = none →
    s.boot.stopped = false →
    (s.stepDone 1 = true) →
    (s.stepDone 3 = true) →
    (s.stepDone 4 = false) →
    (s.rd F.CTL_BOOT_STAT_OWNER ≠ 2) →
    (s.boot.img = some b) →
    Completes (.bootStepEnd (.settings [])) s (fun t =>
      (t.stepDone 4 = true) ∧
      (t.subnqn = b.subnqn) ∧
      (t.boot.step4At = s.now) ∧
      (t.isSet (F.BENCH_CTL_LOCK 0) = true)) := by
  intro s b hheld hrun h1 h3 h4 howner himg
  have hkeeps := s.selftested_keeps
  obtain ⟨hboot, -, hrd⟩ := s.selftested.voltageSet_fields
  have hown : s.selftested.voltageSet.rd F.CTL_BOOT_STAT_OWNER ≠ 2 := by rwa [hrd, s.rd_selftested_bootStat rfl]
  have himg' : s.selftested.voltageSet.boot.img = some b := by rw [hboot, hkeeps.boot_eq, himg]
  generalize hu : s.selftested.voltageSet = u at *
  obtain ⟨hsub, hboot', hlock⟩ := u.settingsTaken_fields b
  refine .of_exec (t := (u.settingsTaken b).noteStep 4) ?_ ⟨State.stepDone_noteStep _ 4, ?_, ?_, ?_⟩
  · rw [exec, execBootStepEnd, State.start_runs hheld hrun h1, if_neg Bool.false_ne_true]
    simp only [h3, h4, List.all_cons, List.all_nil, Bool.not_false, Bool.and_self, Nat.le_refl, decide_true, Bool.true_or, if_true]
    rw [State.stepSettings_eq, hu, if_neg hown, himg']
  · rw [State.noteStep_of (p := State.subnqn) (fun _ _ _ => rfl) (fun _ _ => rfl), hsub]
  · rw [State.boot_noteStep, hboot', hboot]
    exact State.now_of_tim hkeeps.tim_eq
  · rw [State.isSet, State.rd_noteStep _ _ (by decide) (by decide) (by decide), hlock]
    rfl

theorem bootChain_head : ∀ (s : State) (dn : Bool),
    s.boot.held = none →
    s.boot.stopped = false →
    (s.stepDone 1 = true) →
    (s.stepDone 4 = true) →
    (s.stepDone 5 = false) →
    (s.rd F.CTL_BOOT_STAT_OWNER ≠ 2) →
    Completes (.bootStepEnd (.chain false dn)) s (fun t =>
      (t.stepDone 5 = true) ∧
      (t.isHead = true) ∧
      (t.addressed = true) ∧
      (t.addr = 0) ∧
      (t.chain.dnDriven = dn)) := by
  intro s dn hheld hrun h1 h4 h5 howner
  obtain ⟨hboot, -, hchain⟩ := (s.noteStep 5).pairsFound_fields false dn
  refine .of_exec (t := ((s.noteStep 5).pairsFound false dn).becomeHead 1) ?_ ?_
  · rw [exec, execBootStepEnd, State.start_runs hheld hrun h1, if_neg Bool.false_ne_true]
    simp [h4, h5, howner, State.chainStart_eq]
  · obtain ⟨hhead, haddressed, haddr⟩ := ((s.noteStep 5).pairsFound false dn).rd_becomeHead 1
    rw [State.stepDone, State.boot_becomeHead, State.dnDriven_becomeHead, hboot, hchain]
    exact ⟨s.stepDone_noteStep 5, hhead, haddressed, haddr, rfl⟩

theorem bootChain_waits : ∀ (s : State) (dn : Bool),
    s.boot.held = none →
    s.boot.stopped = false →
    (s.stepDone 1 = true) →
    (s.stepDone 4 = true) →
    (s.stepDone 5 = false) →
    (s.rd F.CTL_BOOT_STAT_OWNER ≠ 2) →
    Completes (.bootStepEnd (.chain true dn)) s (fun t =>
      (t.stepDone 5 = true) ∧
      (t.isHead = s.isHead) ∧
      (t.chain.waitFrom = some s.now)) := by
  intro s dn hheld hrun h1 h4 h5 howner
  obtain ⟨hboot, hnow, -⟩ := (s.noteStep 5).pairsFound_fields true dn
  refine .of_exec (t := ((s.noteStep 5).pairsFound true dn).updChain fun c => { c with waitFrom := some ((s.noteStep 5).pairsFound true dn).now }) ?_ ?_
  · rw [exec, execBootStepEnd, State.start_runs hheld hrun h1, if_neg Bool.false_ne_true]
    simp [h4, h5, howner, State.chainStart_eq]
  · have hhead : ((s.noteStep 5).pairsFound true dn).rd F.CHN_CHAIN_STAT_HEAD = s.rd F.CHN_CHAIN_STAT_HEAD :=
      (State.rd_pairsFound _ _ _ _ (by decide) (by decide) (by decide)).trans (s.rd_noteStep _ (by decide) (by decide) (by decide))
    rw [State.stepDone, State.updChain_boot, hboot, State.updChain_chain, hnow]
    refine ⟨s.stepDone_noteStep 5, State.isSet_of_rd ((State.updChain_rd ..).trans hhead), ?_⟩
    exact congrArg some (State.noteStep_of (p := State.now) (fun _ _ _ => rfl) (fun _ _ => rfl) s 5)

theorem bootTime_ended : ∀ (s : State),
    s.boot.held = none →
    s.boot.stopped = false →
    (s.stepDone 1 = true) →
    (s.stepDone 5 = true) →
    (s.stepDone 6 = false) →
    (s.rd F.CTL_BOOT_STAT_OWNER ≠ 2) →
    s.addressed = true →
    Completes (.bootStepEnd .time) s (fun t =>
      (t.stepDone 6 = true) ∧
      (t.tim.firstUpdatePending = (s.isHead && s.tim.lastUpdate.isNone))) := by
  intro s hheld hrun h1 h5 h6 howner haddressed
  refine .of_exec (t := s.stepTime) ?_ ?_
  · rw [exec, execBootStepEnd, State.start_runs hheld hrun h1, if_neg Bool.false_ne_true]
    simp [h5, h6, howner, haddressed]
  · refine ⟨State.stepDone_noteStep _ 6, ?_⟩
    rw [State.stepTime, State.noteStep_of (p := State.tim) (fun _ _ _ => rfl) (fun _ _ => rfl)]
    show (s.headStep.isHead && s.headStep.tim.lastUpdate.isNone) = _
    rw [State.isHead, State.isSet_of_rd (s.rd_headStep _ (by decide)), s.isNone_headStep]
    rfl

theorem bootMemory_laid : ∀ (s : State) (ch : List (List Dimm)),
    s.boot.held = none →
    s.boot.stopped = false →
    (s.stepDone 1 = true) →
    (s.stepDone 4 = true) →
    (s.stepDone 7 = false) →
    (s.rd F.CTL_BOOT_STAT_OWNER ≠ 2) →
    s.boot.memBad = 0 →
    (s.badChannels ch = []) →
    (1024 * (((List.range s.memChannels).filterMap fun i => (ch.getD i []).head?).map (·.gib)).sum < 2 ^ 22) →
    (s.regionSizes.sum ≤ 1024 * (((List.range s.memChannels).filterMap fun i => (ch.getD i []).head?).map (·.gib)).sum) →
    Completes (.bootStepEnd (.memory ch)) s (fun t =>
      (t.stepDone 7 = true) ∧
      (t.boot.memBad = 0) ∧
      ((List.range s.memChannels).all (fun (i : Nat) => t.rd (F.MEM_CHSTAT_PRESENT i) == 1 && t.rd (F.MEM_CHSTAT_TRAINED i) == 1) = true) ∧
      ((List.range 15).all (fun (r : Nat) => t.rd (F.MEM_RGN_SIZEr_MIB r) == s.regionSizes.getD r 0 && t.rd (F.MEM_RGN_BASEr_MIB r) == (s.regionSizes.take r).sum) = true) ∧
      (t.rd F.MEM_STAT_SPEED ≤ s.rd F.MEM_CFG_MAX_SPEED)) := by
  intro s ch hheld hrun h1 h4 h7 howner hmem hbad htotal hsum
  have hfit : ((s.fitted ch).map fun d => d.2.gib) = ((List.range s.memChannels).filterMap fun i => (ch.getD i []).head?).map (·.gib) := by
    simp only [State.fitted, List.map_filterMap, Option.map_map, Function.comp_def]
  generalize hu : s.dimmsJudged ch [] = u
  have hsizes : u.regionSizes = s.regionSizes := State.regionSizes_of_rd fun g hg => hu ▸ s.rd_dimmsJudged ch [] g (by omega)
  generalize hv : u.memoryLaid (s.fitted ch) = v
  have hvsizes : v.regionSizes = s.regionSizes := by rw [← hv, u.regionSizes_memoryLaid, hsizes]
  have hboot : v.boot = s.boot := by
    rw [← hv, u.boot_memoryLaid, ← hu]
    exact State.dimmsJudged_of (p := fun t : State => t.boot) (fun _ _ _ => rfl) (fun _ _ => rfl) s ch []
  have hnote : ∀ g : Fld, 0x400000 ≤ g.key → (v.noteStep 7).rd g = v.rd g := fun g hg =>
    v.rd_noteStep g (by omega) (by simp [sparedBy, ne_of_gt (show F.CTL_BOOT_STAT_STEP.key < g.key from Nat.lt_of_lt_of_le (by decide) hg)]) (by decide)
  refine .of_exec (t := v.noteStep 7) ?_ ⟨State.stepDone_noteStep _ 7, ?_, ?_, ?_, ?_⟩
  · rw [exec, execBootStepEnd, State.start_runs hheld hrun h1, if_neg Bool.false_ne_true]
    simp only [h4, h7, bne_iff_ne.mpr howner, hmem, List.all_cons, List.all_nil, Bool.not_false, Bool.and_self, decide_true, Bool.or_true, if_true]
    rw [s.stepMemory_eq ch, hbad, hu, hv, hvsizes, hfit, if_neg (by decide), if_neg (Nat.not_lt.mpr hsum)]
  · rw [State.boot_noteStep, hboot]
    exact hmem
  · refine List.all_eq_true.mpr fun i hi => ?_
    have hi' := List.mem_range.mp hi
    have hi8 := Nat.lt_of_lt_of_le hi' s.memChannels_le
    have htrains : ∀ d ∈ s.fitted ch, d.2.trains = true := fun d hd => by
      obtain ⟨j, hj, hd⟩ := List.mem_filterMap.mp hd
      obtain ⟨x, hone, htrains⟩ := State.one_of_not_bad hbad (List.mem_range.mp hj)
      rw [hone] at hd
      exact Option.some.inj hd ▸ htrains
    have hin : i ∈ (s.fitted ch).map Prod.fst := by
      obtain ⟨x, hone, -⟩ := State.one_of_not_bad hbad hi'
      exact List.mem_map.mpr ⟨(i, x), List.mem_filterMap.mpr ⟨i, hi, by rw [hone]; rfl⟩, rfl⟩
    obtain ⟨hpresent, htrained⟩ := State.rd_fold_channelNoted (s.fitted ch) i htrains s (.inl hin)
    have hlaid : ∀ g : Fld, g.key = 0x401010 + 4 * i → (v.noteStep 7).rd g = u.rd g := fun g hg => by
      rw [hnote g (by omega), ← hv, u.rd_memoryLaid _ g (by omega)]
    rw [hlaid _ rfl, hlaid _ rfl, ← hu]
    exact Bool.and_eq_true_iff.mpr ⟨beq_iff_eq.mpr hpresent, beq_iff_eq.mpr htrained⟩
  · refine List.all_eq_true.mpr fun r hr => ?_
    have hr' := List.mem_range.mp hr
    obtain ⟨hsize, hbase⟩ := u.rd_region_memoryLaid (s.fitted ch) (by rw [hsizes]; omega) hr'
    rw [hnote _ (by show 0x400000 ≤ 0x401204 + 8 * r; omega), hnote _ (by show 0x400000 ≤ 0x401200 + 8 * r; omega), ← hv, hsize, hbase, hsizes,
      beq_self_eq_true,
      beq_self_eq_true]
    rfl
  · rw [hnote _ (by decide), ← hv, ← s.rd_dimmsJudged ch [] F.MEM_CFG_MAX_SPEED (by decide), hu]
    exact u.rd_speed_memoryLaid _

theorem bootMemory_bad : ∀ (s : State) (ch : List (List Dimm)),
    s.boot.held = none →
    s.boot.stopped = false →
    (s.stepDone 1 = true) →
    (s.stepDone 4 = true) →
    (s.stepDone 7 = false) →
    (s.rd F.CTL_BOOT_STAT_OWNER ≠ 2) →
    s.boot.memBad = 0 →
    (s.badChannels ch ≠ []) →
    ((s.benchAt 4).state ≠ .off) →
    Completes (.bootStepEnd (.memory ch)) s (fun t =>
      (t.stepDone 7 = false) ∧
      (t.boot.memBad = 1) ∧
      (hasBit (t.rd (F.BENCH_EV_STAT 4)) 4 = true)) := by
  intro s ch hheld hrun h1 h4 h7 howner hmem hbad hon
  generalize hu : s.dimmsJudged ch (s.badChannels ch) = u
  have huboot : u.boot = s.boot := hu ▸ State.dimmsJudged_of (p := fun t : State => t.boot) (fun _ _ _ => rfl) (fun _ _ => rfl) s ch _
  have hubench : u.benchAt 4 = s.benchAt 4 := hu ▸ State.dimmsJudged_of (p := fun t : State => t.benchAt 4) (fun _ _ _ => rfl) (fun _ _ => rfl) s ch _
  obtain ⟨hboot, hbench⟩ := u.roleLeft_fields 4
  rw [huboot] at hboot
  rw [hubench] at hbench
  generalize hw : (u.roleLeft.updBoot fun b => { b with memBad := 1 }) = w
  have hwboot : w.boot = { s.boot with memBad := 1 } := by rw [← hw, ← hboot]; rfl
  have hwbench : (w.benchAt 4).state = (s.benchAt 4).state := by rw [← hw, ← hbench]; rfl
  refine .of_exec (t := w.raise 4 4 FATAL 1 ((s.badChannels ch).map fun c => 2 ^ c).sum) ?_ ⟨?_, ?_, ?_⟩
  · rw [exec, execBootStepEnd, State.start_runs hheld hrun h1, if_neg Bool.false_ne_true]
    simp only [h4, h7, bne_iff_ne.mpr howner, hmem, List.all_cons, List.all_nil, Bool.not_false, Bool.and_self, decide_true, Bool.or_true, if_true]
    rw [s.stepMemory_eq ch, hu, hw, if_pos (by simpa using hbad)]
  · rw [State.stepDone, State.raise_boot, hwboot]
    exact h7
  · rw [State.raise_boot, hwboot]
  · exact w.hasBit_raise _ _ _ _ _ (by decide) (hwbench ▸ hon)

theorem bootPaired_staggers : ∀ (s : State),
    s.boot.held = none →
    s.boot.stopped = false →
    (s.stepDone 1 = true) →
    (s.stepDone 4 = true) →
    (s.stepDone 8 = false) →
    (s.rd F.CTL_BOOT_STAT_OWNER ≠ 2) →
    (s.role ≠ 0) →
    Completes (.bootStepEnd .paired) s (fun t =>
      (t.stepDone 8 = true) ∧
      (t.stage = some (0, s.now + msU (10 * s.rd F.CTL_BOOT_CFG_STAGGER * (s.addr / 2))))) := by
  intro s hheld hrun h1 h4 h8 howner hrole
  refine .of_exec (t := { s.noteStep 8 with
    stage := some (0, (s.noteStep 8).now + msU (10 * (s.noteStep 8).rd F.CTL_BOOT_CFG_STAGGER * ((s.noteStep 8).addr / 2))) }) ?_ ⟨s.stepDone_noteStep 8, ?_⟩
  · rw [exec, execBootStepEnd, State.start_runs hheld hrun h1, if_neg Bool.false_ne_true]
    simp [h4, h8, howner, State.stepPaired, hrole]
  · have hnow : (s.noteStep 8).now = s.now := State.noteStep_of (p := State.now) (fun _ _ _ => rfl) (fun _ _ => rfl) s 8
    have haddr : (s.noteStep 8).addr = s.addr := s.rd_noteStep _ (by decide) (by decide) (by decide)
    rw [hnow, haddr, s.rd_noteStep F.CTL_BOOT_CFG_STAGGER (by decide) (by decide) (by decide)]

theorem bootDrives_ended : ∀ (s : State),
    s.boot.held = none →
    s.boot.stopped = false →
    (s.stepDone 1 = true) →
    (s.stepDone 8 = true) →
    (s.stepDone 9 = false) →
    (s.rd F.CTL_BOOT_STAT_OWNER ≠ 2) →
    s.drvPowered = true →
    Completes (.bootStepEnd .drives) s (fun t =>
      (t = s.noteStep 9) ∧
      (t.stepDone 9 = true) ∧
      (t.rd F.CTL_BOOT_STAT_STEP = max 9 (s.rd F.CTL_BOOT_STAT_STEP)) ∧
      (t.rd (F.CTL_BOOT_STEPT 8) = min (2 ^ 32 - 1) ((s.now - s.boot.startAt) / 4000))) := by
  intro s hheld hrun h1 h8 h9 howner hpowered
  refine .of_exec (t := s.noteStep 9) ?_ ⟨rfl, s.stepDone_noteStep 9, s.rd_step_noteStep (by decide) (by decide), s.rd_time_noteStep 9⟩
  rw [exec, execBootStepEnd, State.start_runs hheld hrun h1, if_neg Bool.false_ne_true]
  simp [h8, h9, howner, hpowered]

theorem bootPerst_ended : ∀ (s : State),
    s.boot.held = none →
    s.boot.stopped = false →
    (s.stepDone 1 = true) →
    (s.stepDone 9 = true) →
    (s.stepDone 10 = false) →
    (s.rd F.CTL_BOOT_STAT_OWNER ≠ 2) →
    (s.ports.all (fun (z : Port) => z.perstAt.isNone) = true) →
    Completes (.bootStepEnd .perst) s (fun t =>
      (t = s.noteStep 10)) := by
  intro s hheld hrun h1 h9 h10 howner hports
  refine .of_exec (t := s.noteStep 10) ?_ rfl
  rw [exec, execBootStepEnd, State.start_runs hheld hrun h1, if_neg Bool.false_ne_true]
  simp only [h9, h10, hports, List.all_cons, List.all_nil]
  simp [howner]

theorem bootRegions_ended : ∀ (s : State),
    s.boot.held = none →
    s.boot.stopped = false →
    (s.stepDone 1 = true) →
    (s.stepDone 7 = true) →
    (s.stepDone 11 = false) →
    (s.rd F.CTL_BOOT_STAT_OWNER ≠ 2) →
    (s.rd F.MEM_STAT_READY = 0x7FFF) →
    Completes (.bootStepEnd .regions) s (fun t =>
      (t = s.noteStep 11)) := by
  intro s hheld hrun h1 h7 h11 howner hready
  refine .of_exec (t := s.noteStep 11) ?_ rfl
  rw [exec, execBootStepEnd, State.start_runs hheld hrun h1, if_neg Bool.false_ne_true]
  simp [h7, h11, howner, hready]

theorem bootMembers_held : ∀ (s : State) (gen : Nat),
    s.boot.held = none →
    s.boot.stopped = false →
    (s.stepDone 1 = true) →
    (s.stepDone 10 = true) →
    (s.stepDone 12 = false) →
    (s.rd F.CTL_BOOT_STAT_OWNER ≠ 2) →
    s.role = 0 →
    (s.boot.memBad ≠ 1) →
    s.pair.alone = true →
    (s.gen < gen) →
    Completes (.bootStepEnd (.members gen)) s (fun t =>
      (t.role = 5) ∧
      (t.boot.genSeen = gen) ∧
      (t.stepDone 12 = true)) := by
  intro s gen hheld hrun h1 h10 h12 howner hrole hmem halone hgen
  generalize hu : (s.updBoot fun b => { b with genSeen := gen }).noteStep 12 = u
  have hboot : u.boot = { s.boot with genSeen := gen, ended := 12 :: s.boot.ended } := by rw [← hu, State.boot_noteStep]; rfl
  have hrd : ∀ g, g.key < 0x4040 ∨ 0x4080 ≤ g.key → sparedBy g F.CTL_BOOT_STAT_STEP = true → u.rd g = s.rd g := by
    intro g hg hstep
    rw [← hu, State.rd_noteStep _ g hg hstep (by decide)]
    rfl
  have hurole : u.role = 0 := (hrd _ (by decide) (by decide)).trans hrole
  have hugen : u.gen = s.gen := by rw [State.gen, State.rd64, hrd _ (by decide) (by decide), hrd _ (by decide) (by decide)]; rfl
  have hpair : u.pair = s.pair := by rw [← hu, State.noteStep_of (p := State.pair) (fun _ _ _ => rfl) (fun _ _ => rfl)]; rfl
  refine .of_exec (t := u.enterHeld 3) ?_ ?_
  · rw [exec, execBootStepEnd, State.start_runs hheld hrun h1, if_neg Bool.false_ne_true]
    simp [h10, h12, howner, State.stepMembers, hu, hurole, hpair, halone, hugen, hboot, hmem, hgen]
  · have hkept : (u.enterHeld 3).boot = u.boot := (State.Keeps.enterHeld (.refl _ u) (.refl _)).boot_eq
    rw [State.stepDone, hkept, hboot]
    exact ⟨u.role_enterHeld 3, rfl, by rw [List.contains_cons, beq_self_eq_true, Bool.true_or]⟩

theorem bootMembers_lone : ∀ (s : State) (gen : Nat),
    s.boot.held = none →
    s.boot.stopped = false →
    (s.stepDone 1 = true) →
    (s.stepDone 10 = true) →
    (s.stepDone 12 = false) →
    (s.rd F.CTL_BOOT_STAT_OWNER ≠ 2) →
    s.role = 0 →
    (s.boot.memBad ≠ 1) →
    s.pair.alone = true →
    (gen ≤ s.gen) →
    (s.mirrorOut = []) →
    (s.cmds = []) →
    (s.lines = []) →
    Completes (.bootStepEnd (.members gen)) s (fun t =>
      (t.role = 3) ∧
      (t.gen = (s.gen + 1) % 2 ^ 64) ∧
      (t.stepDone 12 = true)) := by
  intro s gen hheld hrun h1 h10 h12 howner hrole hmem halone hgen hmirror _ hlines
  generalize hu : (s.updBoot fun b => { b with genSeen := gen }).noteStep 12 = u
  have hboot : u.boot = { s.boot with genSeen := gen, ended := 12 :: s.boot.ended } := by rw [← hu, State.boot_noteStep]; rfl
  have hrd : ∀ g, 0x100000 ≤ g.key → u.rd g = s.rd g := by
    intro g hg
    rw [← hu, State.rd_noteStep _ g (by omega)
      (sparedBy_of_key_ne (ne_of_gt (Nat.lt_of_lt_of_le (by decide : F.CTL_BOOT_STAT_STEP.key < 0x100000) hg))) (by decide)]
    rfl
  have hurole : u.role = 0 := (hrd _ (by decide)).trans hrole
  have hugen : u.gen = s.gen := State.gen_of_rd fun g hg _ => hrd g (by omega)
  have hkept : ∀ {α : Type} {p : State → α}, (∀ (s : State) f v, p (s.wr f v) = p s) → (∀ (s : State) b, p { s with boot := b } = p s) → p u = p s :=
    fun hwr hboot => hu ▸ (State.noteStep_of hwr hboot _ 12).trans (hboot _ _)
  have hpair : u.pair = s.pair := hkept (p := State.pair) (fun _ _ _ => rfl) fun _ _ => rfl
  have humirror : u.mirrorOut = [] := (hkept (p := State.mirrorOut) (fun _ _ _ => rfl) fun _ _ => rfl).trans hmirror
  have hulines : u.lines = [] := (hkept (p := State.lines) (fun _ _ _ => rfl) fun _ _ => rfl).trans hlines
  obtain ⟨hlone, hgenUp⟩ := State.enterLone_fields 3 humirror hulines
  refine .of_exec (t := u.enterLone 3) ?_ ⟨hlone, hgenUp.trans (by rw [hugen]), ?_⟩
  · rw [exec, execBootStepEnd, State.start_runs hheld hrun h1, if_neg Bool.false_ne_true]
    simp [h10, h12, howner, State.stepMembers, hu, hurole, hpair, halone, hugen, hboot, hmem, Nat.not_lt.mpr hgen]
  · rw [State.stepDone, (State.Keeps.enterLone (.refl _ u) (.refl _)).boot_eq, hboot, List.contains_cons, beq_self_eq_true, Bool.true_or]

theorem bootReplay_empty : ∀ (s : State),
    s.boot.held = none →
    s.boot.stopped = false →
    (s.stepDone 1 = true) →
    (s.stepDone 11 = true) →
    (s.stepDone 12 = true) →
    (s.stepDone 13 = false) →
    (s.rd F.CTL_BOOT_STAT_OWNER ≠ 2) →
    s.isActive = true →
    (s.tally.recs = []) →
    (s.fixupds = []) →
    ((s.benchAt 5).state ≠ .off) →
    Completes (.bootStepEnd (.replay true [])) s (fun t =>
      (t.stepDone 13 = true) ∧
      (t.tally = s.tally) ∧
      (hasBit (t.rd (F.BENCH_EV_STAT 5)) 6 = true)) := by
  intro s hheld hrun h1 h11 h12 h13 howner hactive hrecs hfix hon
  refine .of_exec (t := (s.raise 5 6 INFO 3 0).noteStep 13) ?_ ?_
  · rw [exec, execBootStepEnd, State.start_runs hheld hrun h1, if_neg Bool.false_ne_true]
    simp [h11, h12, h13, howner, hactive, s.stepReplay_empty hrecs hfix]
  · refine ⟨State.stepDone_noteStep _ 13, ?_, ?_⟩
    · rw [State.noteStep_of (p := State.tally) (fun _ _ _ => rfl) (fun _ _ => rfl), State.raise_tally]
    · rw [State.rd_noteStep _ _ (by decide) (by decide) (by decide)]
      exact State.hasBit_raise _ _ _ _ _ _ (by decide) hon

theorem bootMount_noGroups : ∀ (s : State) (env : Bool),
    s.boot.held = none →
    s.boot.stopped = false →
    (s.stepDone 1 = true) →
    (s.stepDone 13 = true) →
    (s.stepDone 14 = false) →
    s.isActive = true →
    (s.configuredGroups = []) →
    ((List.range 48).any s.mountWaits = false) →
    Completes (.bootStepEnd (.mount env none)) s (fun t =>
      (t.stepDone 14 = true) ∧
      (t.tru.ksr = (s.tru.ksr || (env && !s.tru.blocked))) ∧
      (t.groups = s.groups)) := by
  intro s env hheld hrun h1 h13 h14 hactive hgroups hwaits
  refine .of_exec (t := s.stepMount env none) ?_ ?_
  · rw [exec, execBootStepEnd, State.start_runs hheld hrun h1, if_neg Bool.false_ne_true]
    simp only [hactive, h13, hwaits, Bool.not_false, Bool.or_true, Bool.and_self, if_true]
  · rw [s.stepMount_noGroups env hgroups h14]
    refine ⟨State.stepDone_noteStep _ 14, ?_, ?_⟩
    · rw [State.noteStep_of (p := State.tru) (fun _ _ _ => rfl) (fun _ _ => rfl), State.startCache_tru, State.ksr_unwrapped]
    · rw [State.noteStep_of (p := State.groups) (fun _ _ _ => rfl) (fun _ _ => rfl), State.startCache_groups,
        State.unwrapped_groups]

theorem bootDik_ended : ∀ (s : State) (ok : Bool),
    s.boot.held = none →
    s.boot.stopped = false →
    (s.stepDone 1 = true) →
    (s.stepDone 3 = true) →
    (s.rd F.TRU_STAT_STEP = 6) →
    Completes (.bootStepEnd (.dik ok)) s (fun t =>
      (t.rd F.TRU_STAT_STEP = 7) ∧
      (t.isSet F.TRU_STAT_DIK_OK = ok) ∧
      (t.boot = s.boot)) := by
  intro s ok hheld hrun h1 h3 hstep
  refine .of_exec (t := if ok then (s.wr F.TRU_STAT_STEP 7).wrB F.TRU_STAT_DIK_OK ok else ((s.wr F.TRU_STAT_STEP 7).wrB F.TRU_STAT_DIK_OK ok).raise 1
    8 ERROR 5 0) ?_ ?_
  · rw [exec, execBootStepEnd, State.start_runs hheld hrun h1, if_neg Bool.false_ne_true]
    simp [h3, hstep]
  · have hrdstep : ((s.wr F.TRU_STAT_STEP 7).wrB F.TRU_STAT_DIK_OK ok).rd F.TRU_STAT_STEP = 7 := by
      rw [State.wrB, State.rd_wr_spared _ _ _ _ (by decide), State.rd_wr_fits _ _ (by decide) (by decide)]
    have hok : ((s.wr F.TRU_STAT_STEP 7).wrB F.TRU_STAT_DIK_OK ok).isSet F.TRU_STAT_DIK_OK = ok := by
      rw [State.isSet, State.wrB, State.rd_wr_fits _ _ (by decide) (by cases ok <;> decide)]
      cases ok <;> rfl
    split
    · exact ⟨hrdstep, hok, rfl⟩
    · exact ⟨(State.rd_raise_beyond _ _ _ _ _ _ _ (by decide)).trans hrdstep, (State.isSet_of_rd (State.rd_raise_beyond _ _ _ _ _ _ _ (by decide))).trans hok,
        State.raise_boot ..⟩

theorem bootAk_ended : ∀ (s : State),
    s.boot.held = none →
    s.boot.stopped = false →
    (s.stepDone 1 = true) →
    (s.rd F.TRU_STAT_STEP = 7) →
    Completes (.bootStepEnd .ak) s (fun t =>
      (t.rd F.TRU_STAT_STEP = 8) ∧
      (t.isSet F.TRU_STAT_AK_OK = true) ∧
      (t.tru.ak.isSome = true)) := by
  intro s hheld hrun h1 hstep
  refine .of_exec (t := ((s.akIssued.wr F.TRU_STAT_STEP 8).wr F.TRU_STAT_AK_OK 1).sendPairing) ?_ ?_
  · rw [exec, execBootStepEnd, State.start_runs hheld hrun h1, if_neg Bool.false_ne_true]
    exact congrArg Host.Outcome.next (if_pos hstep)
  · have hdone : ((s.akIssued.wr F.TRU_STAT_STEP 8).wr F.TRU_STAT_AK_OK 1).rd F.TRU_STAT_STEP = 8 := by
      rw [State.rd_wr_spared _ _ _ _ (by decide), State.rd_wr_fits _ _ (by decide) (by decide)]
    have hok : ((s.akIssued.wr F.TRU_STAT_STEP 8).wr F.TRU_STAT_AK_OK 1).rd F.TRU_STAT_AK_OK = 1 := State.rd_wr_fits _ _ (by decide) (by decide)
    have hak : ((s.akIssued.wr F.TRU_STAT_STEP 8).wr F.TRU_STAT_AK_OK 1).tru.ak.isSome = true := rfl
    rw [State.isSet, State.rd_sendPairing _ _ (by decide), State.rd_sendPairing _ _ (by decide), hdone, hok, State.ak_sendPairing, hak]
    exact ⟨rfl, rfl, rfl⟩

theorem bootStepEnd_idle : ∀ (s : State) (e : BootEnd),
    (s.boot.held ≠ none ∨ s.boot.stopped = true) →
    Completes (.bootStepEnd e) s (fun t =>
      (t = s)) := by
  intro s e hidle
  refine .of_exec (t := s) ?_ rfl
  have hclosed : (s.boot.held.isSome || s.boot.stopped || !s.stepDone 1) = true := by
    rcases hidle with h | h
    · rw [Option.isSome_iff_ne_none.mpr h]
      rfl
    · rw [h, Bool.or_true, Bool.true_or]
  rw [exec, execBootStepEnd, hclosed, if_pos rfl]

theorem memberWaitExpiry_suspects : ∀ (s : State) (slot : Nat),
    (s.stepDone 9 = true) →
    (s.stepDone 14 = false) →
    (s.mountWaits slot = true) →
    (s.due ((s.port slot).pwrAt + secU 1 * s.rd F.CTL_BOOT_CFG_MEMBER_WAIT_S) = true) →
    (slot < s.slots.length) →
    (slot < 48) →
    (s.mcmds = []) →
    (s.mwaits = []) →
    (s.jobs = []) →
    Completes (.memberWaitExpiry slot) s (fun t =>
      ((t.slot slot).state = 2) ∧
      ((t.slot slot).ref = s.now)) := by
  intro s slot h9 h14 hwaits hdue hlen hslot hmcmds hmwaits hjobs
  refine .of_exec (t := s.suspectSlot slot 2 s.now) ?_ (s.suspectSlot_slot 2 s.now hlen)
  rw [exec, execMemberWaitExpiry]
  simp only [h9, h14, hwaits, hdue, Bool.not_false, Bool.and_self, if_true]

theorem memberWaitExpiry_mounted : ∀ (s : State) (slot : Nat),
    (s.stepDone 14 = true) →
    Completes (.memberWaitExpiry slot) s (fun t =>
      (t = s)) := by
  intro s slot h14
  refine .of_exec (t := s) ?_ rfl
  rw [exec, execMemberWaitExpiry]
  simp only [h14, Bool.not_true, Bool.and_false, Bool.false_and, Bool.false_eq_true, if_false]

theorem timeWaitExpiry_noted : ∀ (s : State),
    s.tim.firstUpdatePending = true →
    s.tim.lastUpdate = none →
    (s.stepDone 15 = false) →
    (s.due (s.boot.step6At + secU 1 * s.rd F.CTL_BOOT_CFG_TIME_WAIT_S) = true) →
    ((s.benchAt 0).state ≠ .off) →
    Completes .timeWaitExpiry s (fun t =>
      (t.tim.firstUpdatePending = false) ∧
      (hasBit (t.rd (F.BENCH_EV_STAT 0)) 6 = true)) := by
  intro s hpending hupdate h15 hdue hon
  refine .of_exec (t := (s.raise 0 6 NOTICE 0x15 (s.rd F.TIM_SRC_CFG_SRC)).updTim fun t => { t with firstUpdatePending := false }) ?_
    ⟨rfl, State.hasBit_raise s _ _ _ _ _ (by decide) hon⟩
  rw [exec, execTimeWaitExpiry]
  simp only [hpending, hupdate, h15, hdue, Option.isNone_none, Bool.not_false, Bool.and_self, if_true]

theorem serviceStart_serves : ∀ (s : State),
    s.isActive = true →
    (s.stepDone 14 = true) →
    (s.stepDone 6 = true) →
    (s.stepDone 15 = false) →
    s.tim.firstUpdatePending = false →
    Completes .serviceStart s (fun t =>
      (t.rd F.TIM_STAT_SERVING = 1) ∧
      (t.stepDone 15 = true) ∧
      (t.rd F.CTL_BOOT_STAT_STEP = 15)) := by
  intro s hactive h14 h6 h15 hpending
  refine .of_exec (t := s.headStep.takeStep15) ?_ ?_
  · rw [exec, execServiceStart]
    simp only [hactive, h14, h6, h15, hpending, Bool.not_false, Bool.true_or, Bool.and_self, if_true]
  · exact s.headStep.takeStep15_fields

theorem standbyServiceStart_serves : ∀ (s : State),
    s.role = 2 →
    (s.stepDone 12 = true) →
    (s.stepDone 14 = true) →
    (s.stepDone 15 = false) →
    Completes .standbyServiceStart s (fun t =>
      (t.rd F.TIM_STAT_SERVING = 1) ∧
      (t.stepDone 15 = true) ∧
      (t.rd F.CTL_BOOT_STAT_STEP = 15)) := by
  intro s hrole h12 h14 h15
  refine .of_exec (t := s.takeStep15) ?_ s.takeStep15_fields
  rw [exec, execStandbyServiceStart]
  simp only [hrole, h12, h14, h15, decide_true, Bool.not_false, Bool.and_self, if_true]

/-- Settles O37: each step that ends is recorded and leaves what Table BOOT-12 gives; words of the start and of the pair outlast the self-tests,
the settings and the leaving of the pair. -/
theorem startUp : Obligations.StartUp :=
  ⟨resetAssert_holds, controllerStart_begins, bootRom_mismatch, bootRom_trngFailed, bootRom_passed, bootBank_none, bootBank_first,
    bootSettings_unowned, bootSettings_applied, bootChain_head, bootChain_waits, bootTime_ended, bootMemory_laid, bootMemory_bad, bootPaired_staggers,
    bootDrives_ended, bootPerst_ended, bootRegions_ended, bootMembers_held, bootMembers_lone, bootReplay_empty, bootMount_noGroups, bootDik_ended,
    bootAk_ended, bootStepEnd_idle, memberWaitExpiry_suspects, memberWaitExpiry_mounted, timeWaitExpiry_noted, serviceStart_serves,
    standbyServiceStart_serves⟩

end Sys2Proof
end

section
/-!
The status words of the drive ports: what the storage work beside them leaves of PSTAT. A lemma has the name of the function it speaks of.
-/

-- One declaration at a time, as with the lemmas about a serving unit.
set_option Elab.async false

namespace Sys2Proof.Machine

/-! ### PSTAT and the fields beside it -/

/-- The fields of DRV_PSTAT but the count of quarantined tags. -/
def statusBit (g : Fld) : Prop := 51 ≤ g.key / 0x100000 ∧ g.key / 0x100000 < 57 ∧ g.key % 128 = 0 ∧ 0x1400 ≤ g.key % 0x100000 ∧ g.hi < 16

/-- A field whose writes leave the status of the drive ports. -/
def DrivesAside (f : Fld) : Prop := ∀ g, statusBit g → sparedBy g f = true

theorem DrivesAside.of_key {f : Fld} (h : f.key < 0x3300000 ∨ 0x3900000 ≤ f.key ∨ f.key % 128 ≠ 0) : DrivesAside f := by
  intro g hg
  obtain ⟨hlo, hhi, hword, -, -⟩ := hg
  exact sparedBy_of_key_ne (by omega)

@[simp] theorem DrivesAside.EPT_CQE_POST : DrivesAside F.EPT_CQE_POST := .of_key (by decide)

@[simp] theorem DrivesAside.EPT_WR_REQ : DrivesAside F.EPT_WR_REQ := .of_key (by decide)

@[simp] theorem DrivesAside.EPT_RD_REQ : DrivesAside F.EPT_RD_REQ := .of_key (by decide)

@[simp] theorem DrivesAside.HAL_TX_FRM : DrivesAside F.HAL_TX_FRM := .of_key (by decide)

@[simp] theorem DrivesAside.JNL_FIX : DrivesAside F.JNL_FIX := .of_key (by decide)

@[simp] theorem DrivesAside.JNL_SEQ_LO : DrivesAside F.JNL_SEQ_LO := .of_key (by decide)

@[simp] theorem DrivesAside.JNL_SEQ_HI : DrivesAside F.JNL_SEQ_HI := .of_key (by decide)

@[simp] theorem DrivesAside.CMD_INFLIGHT_TOTAL : DrivesAside F.CMD_INFLIGHT_TOTAL := .of_key (by decide)

theorem DrivesAside.of_le {f : Fld} (h : 0x3900000 ≤ f.key) : DrivesAside f := .of_key (.inr (.inl h))

theorem le_roleKey (c r off : Nat) : 0x3900000 ≤ roleKey c r off := by
  rw [roleKey]
  omega

@[simp] theorem DrivesAside.LAY_MSTAT_DIRTY (i : Nat) : DrivesAside (F.LAY_MSTAT_DIRTY i) :=
  .of_le (show 0x3900000 ≤ 0x4301500 + 4 * i by omega)

@[simp] theorem DrivesAside.LAY_MSTAT_STATE (i : Nat) : DrivesAside (F.LAY_MSTAT_STATE i) :=
  .of_le (show 0x3900000 ≤ 0x4301500 + 4 * i by omega)

@[simp] theorem DrivesAside.LAY_GREB_DONE_DONE (i : Nat) : DrivesAside (F.LAY_GREB_DONE_DONE i) :=
  .of_le (show 0x3900000 ≤ 0x4301300 + 8 * i by omega)

@[simp] theorem DrivesAside.LAY_GREB_TOTAL_TOTAL (i : Nat) : DrivesAside (F.LAY_GREB_TOTAL_TOTAL i) :=
  .of_le (show 0x3900000 ≤ 0x4301304 + 8 * i by omega)

@[simp] theorem DrivesAside.LAY_GSTAT_ENTRY_HOLD (i : Nat) : DrivesAside (F.LAY_GSTAT_ENTRY_HOLD i) :=
  .of_le (show 0x3900000 ≤ 0x4301014 + 32 * i by omega)

@[simp] theorem DrivesAside.LAY_GSTAT_OPEN (i : Nat) : DrivesAside (F.LAY_GSTAT_OPEN i) :=
  .of_le (show 0x3900000 ≤ 0x4301014 + 32 * i by omega)

@[simp] theorem DrivesAside.LAY_GSTAT_SERVICE (i : Nat) : DrivesAside (F.LAY_GSTAT_SERVICE i) :=
  .of_le (show 0x3900000 ≤ 0x4301014 + 32 * i by omega)

@[simp] theorem DrivesAside.LAY_GSTAT_FREE_PCT (i : Nat) : DrivesAside (F.LAY_GSTAT_FREE_PCT i) :=
  .of_le (show 0x3900000 ≤ 0x4301014 + 32 * i by omega)

@[simp] theorem DrivesAside.LAY_GSTAT_SPACE_HOLD (i : Nat) : DrivesAside (F.LAY_GSTAT_SPACE_HOLD i) :=
  .of_le (show 0x3900000 ≤ 0x4301014 + 32 * i by omega)

@[simp] theorem DrivesAside.LAY_HOLD_US (i : Nat) : DrivesAside (F.LAY_HOLD_US i) :=
  .of_le (show 0x3900000 ≤ 0x4301210 + 32 * i by omega)

@[simp] theorem DrivesAside.PAR_RECON (r : Nat) : DrivesAside (F.PAR_RECON r) := .of_le (le_roleKey _ r _)

@[simp] theorem DrivesAside.PAR_RMW (r : Nat) : DrivesAside (F.PAR_RMW r) := .of_le (le_roleKey _ r _)

@[simp] theorem DrivesAside.XPT_TX_PKT (r : Nat) : DrivesAside (F.XPT_TX_PKT r) := .of_le (le_roleKey _ r _)

@[simp] theorem DrivesAside.CMD_PI_ERR (r : Nat) : DrivesAside (F.CMD_PI_ERR r) := .of_le (le_roleKey _ r _)

@[simp] theorem DrivesAside.CMD_DONE (r : Nat) : DrivesAside (F.CMD_DONE r) := .of_le (le_roleKey _ r _)

@[simp] theorem DrivesAside.DRV_CMD (b i : Nat) : DrivesAside (F.DRV_CMD b i) :=
  .of_key (.inr (.inr (show (b * 0x100000 + 0x1440 + 128 * i) % 128 ≠ 0 by omega)))

@[simp] theorem DrivesAside.DRV_PSTAT_QUAR (b i : Nat) : DrivesAside (F.DRV_PSTAT_QUAR b i) := fun _ ⟨_, _, _, _, hhi⟩ =>
  sparedBy_of_lt (show (16 : Nat) ≤ 26 by decide) (show 26 < 32 by decide) hhi

/-- PSTAT is as in another state, but for the count of quarantined tags. -/
def State.KeepsDrives (s s₀ : State) : Prop := ∀ g, statusBit g → s.rd g = s₀.rd g

namespace State.KeepsDrives

variable {s t s₀ : State}

theorem refl (s : State) : s.KeepsDrives s := fun _ _ => rfl

theorem of_eq (h : s.KeepsDrives s₀) (hregs : t.regs = s.regs := by rfl) : t.KeepsDrives s₀ := fun g hg =>
  (State.rd_eq_of_regs_eq hregs g).trans (h g hg)

theorem ite {p : Prop} [Decidable p] (h : s.KeepsDrives s₀) (ht : t.KeepsDrives s₀) : (if p then s else t).KeepsDrives s₀ := by
  split <;> assumption

theorem foldl {γ : Type} {g : State → γ → State} {l : List γ} (h : s.KeepsDrives s₀) (hg : ∀ a x, a.KeepsDrives s₀ → (g a x).KeepsDrives s₀) :
    (l.foldl g s).KeepsDrives s₀ := foldl_keeps_of l (fun a ha x _ => hg a x ha) s h

theorem of_fst {α : Type} {p : State × α} {a : α} (h : p.1.KeepsDrives s₀) (hp : p = (t, a)) : t.KeepsDrives s₀ := by
  subst hp
  exact h

theorem wr {f : Fld} {v : Nat} (h : s.KeepsDrives s₀) (hf : DrivesAside f := by simp) : (s.wr f v).KeepsDrives s₀ := fun g hg =>
  (s.rd_wr_spared f g v (hf g hg)).trans (h g hg)

theorem wrB {f : Fld} {b : Bool} (h : s.KeepsDrives s₀) (hf : DrivesAside f := by simp) : (s.wrB f b).KeepsDrives s₀ := h.wr hf

theorem wr64 {lo hi : Fld} {v : Nat} (h : s.KeepsDrives s₀) (hlo : DrivesAside lo := by simp) (hhi : DrivesAside hi := by simp) :
    (s.wr64 lo hi v).KeepsDrives s₀ := (h.wr hlo).wr hhi

theorem bumpBy {f : Fld} {k : Nat} (h : s.KeepsDrives s₀) (hf : DrivesAside f := by simp) : (s.bumpBy f k).KeepsDrives s₀ := h.wr hf

theorem bump {f : Fld} (h : s.KeepsDrives s₀) (hf : DrivesAside f := by simp) : (s.bump f).KeepsDrives s₀ := h.bumpBy hf

theorem send {o : Out} (h : s.KeepsDrives s₀) : (s.send o).KeepsDrives s₀ := h.of_eq

theorem raise {b loc sev code data : Nat} (h : s.KeepsDrives s₀) : (s.raise b loc sev code data).KeepsDrives s₀ := fun g hg =>
  (s.rd_raise_beyond b loc sev code data g (Nat.le_trans (by decide) hg.2.2.2.1)).trans (h g hg)

theorem updHalf {q : Nat} {f : Half → Half} (h : s.KeepsDrives s₀) : (s.updHalf q f).KeepsDrives s₀ := h.of_eq

theorem setConn {c : Conn} (h : s.KeepsDrives s₀) : (s.setConn c).KeepsDrives s₀ := h.of_eq

theorem bumpX {f : Nat → Fld} {c : Conn} (h : s.KeepsDrives s₀) (hf : ∀ r, DrivesAside (f r) := by simp) :
    (s.bumpX f c).KeepsDrives s₀ := h.bump (hf _)

theorem updCtrl {i : Nat} {f : Ctrl → Ctrl} (h : s.KeepsDrives s₀) : (s.updCtrl i f).KeepsDrives s₀ := h.of_eq

theorem updNs {k : Nat} {f : Namespace → Namespace} (h : s.KeepsDrives s₀) : (s.updNs k f).KeepsDrives s₀ := h.of_eq

theorem updCmd {id : Nat} {f : Cmd → Cmd} (h : s.KeepsDrives s₀) : (s.updCmd id f).KeepsDrives s₀ := h.of_eq

theorem updQueue {ctl q : Nat} {f : Queue → Queue} (h : s.KeepsDrives s₀) : (s.updQueue ctl q f).KeepsDrives s₀ := h.updCtrl

theorem bumpCmd {f : Nat → Fld} {v : NvmeCmd} (h : s.KeepsDrives s₀) (hf : ∀ r, DrivesAside (f r) := by simp) :
    (s.bumpCmd f v).KeepsDrives s₀ := h.foldl fun _ _ ht => ht.bump (hf _)

theorem updEpf {f : Nat} {g : EpFunc → EpFunc} (h : s.KeepsDrives s₀) : (s.updEpf f g).KeepsDrives s₀ := h.of_eq

theorem epTlp (h : s.KeepsDrives s₀) : s.epTlp.KeepsDrives s₀ := h.of_eq

theorem syncReady (h : s.KeepsDrives s₀) : s.syncReady.KeepsDrives s₀ := h.of_eq

theorem epInterrupt {f vector : Nat} (h : s.KeepsDrives s₀) : (s.epInterrupt f vector).KeepsDrives s₀ := by
  unfold State.epInterrupt
  exact h.send.ite h.updEpf

theorem setMet {id dw0 : Nat} {st : Status} (h : s.KeepsDrives s₀) : (s.setMet id dw0 st).KeepsDrives s₀ := h.updCmd

theorem updGroup {g : Nat} {f : Group → Group} (h : s.KeepsDrives s₀) : (s.updGroup g f).KeepsDrives s₀ := h.of_eq

theorem updSlot {k : Nat} {f : Slot → Slot} (h : s.KeepsDrives s₀) : (s.updSlot k f).KeepsDrives s₀ := h.of_eq

theorem updStripe {g k : Nat} {f : Stripe → Stripe} (h : s.KeepsDrives s₀) : (s.updStripe g k f).KeepsDrives s₀ := h.of_eq

theorem setEntryNotice {l : List Nat} (h : s.KeepsDrives s₀) : { s with entryNotice := l }.KeepsDrives s₀ := h.of_eq

theorem closeStripe {g k : Nat} (h : s.KeepsDrives s₀) : (s.closeStripe g k).KeepsDrives s₀ := h.updStripe

theorem placeIn {g k : Nat} {b : SBlock} (h : s.KeepsDrives s₀) : (s.placeIn g k b).KeepsDrives s₀ := by
  unfold State.placeIn
  split
  · exact h
  · extract_lets +onlyGivenNames i keep b1 s1
    have h1 : s1.KeepsDrives s₀ := h.updStripe
    exact h1.closeStripe.ite h1

theorem regenInPlace {b : BRef} (h : s.KeepsDrives s₀) : (s.regenInPlace b).KeepsDrives s₀ := by
  unfold State.regenInPlace
  split
  · exact h
  · split
    · exact h.updStripe
    · split
      · exact h
      · exact h.of_eq

theorem readsAcked {cid : Nat} (h : s.KeepsDrives s₀) : (s.readsAcked cid).KeepsDrives s₀ := by
  unfold State.readsAcked
  split
  · exact h
  · extract_lets +onlyGivenNames open_ busy
    exact h.foldl fun _ _ ht => ht.setMet

theorem updJob {id : Nat} {f : ReadJob → ReadJob} (h : s.KeepsDrives s₀) : (s.updJob id f).KeepsDrives s₀ := h.of_eq

theorem updFix {id : Nat} {f : FixUpd → FixUpd} (h : s.KeepsDrives s₀) : (s.updFix id f).KeepsDrives s₀ := h.of_eq

theorem applyFix {u : FixUpd} (h : s.KeepsDrives s₀) : (s.applyFix u).KeepsDrives s₀ :=
  fun g hg => ((State.Keeps.applyFix (.refl _ s) (.refl _)).rd_eq g).trans (h g hg)

theorem setOut {k b : Nat} {v : Bool} (h : s.KeepsDrives s₀) : (s.setOut k b v).KeepsDrives s₀ := h.of_eq

theorem syncLed {k : Nat} (h : s.KeepsDrives s₀) : (s.syncLed k).KeepsDrives s₀ := by
  unfold State.syncLed
  extract_lets +onlyGivenNames fault locate
  exact h.setOut.setOut

theorem updSvy {g : Nat} {f : SvyGroup → SvyGroup} (h : s.KeepsDrives s₀) : (s.updSvy g f).KeepsDrives s₀ := h.of_eq

/-! ### The storage work -/

theorem raiseOnce {period b loc sev code data : Nat} (h : s.KeepsDrives s₀) : (s.raiseOnce period b loc sev code data).KeepsDrives s₀ := by
  unfold State.raiseOnce
  extract_lets +onlyGivenNames key quiet
  exact h.ite h.of_eq.raise

theorem haulSend {chan : Nat} (h : s.KeepsDrives s₀) : (s.haulSend chan).KeepsDrives s₀ := by
  unfold State.haulSend
  split
  · exact h
  · extract_lets +onlyGivenNames x k
    exact (h.send.bump).updHalf

theorem mirror {w : MirrorWhat} {b : MirrorBody} (h : s.KeepsDrives s₀) : (s.mirror w b).KeepsDrives s₀ := by
  unfold State.mirror
  extract_lets +onlyGivenNames n1
  refine State.KeepsDrives.haulSend ?_
  extract_lets +onlyGivenNames s1
  have h1 : s1.KeepsDrives s₀ := h.send
  exact h1.of_eq

theorem mirrorAlso {b : MirrorBody} (h : s.KeepsDrives s₀) : (s.mirrorAlso b).KeepsDrives s₀ := by
  unfold State.mirrorAlso
  exact h.mirror.ite h

theorem mirrorNote {b : MirrorBody} (h : s.KeepsDrives s₀) : (s.mirrorNote b).KeepsDrives s₀ := by
  unfold State.mirrorNote
  exact h.mirror.ite h

theorem mirrorConn {cid : Nat} (h : s.KeepsDrives s₀) : (s.mirrorConn cid).KeepsDrives s₀ := by
  unfold State.mirrorConn
  split
  · exact h.mirrorNote
  · exact h

theorem nrtOut {c : Conn} {q : NrtHdr} {e : NrtExt} {b : NrtBody} (h : s.KeepsDrives s₀) : (s.nrtOut c q e b).1.KeepsDrives s₀ := by
  unfold State.nrtOut
  extract_lets +onlyGivenNames h1
  exact (h.send.bumpX)

theorem sendSync {c : Conn} (h : s.KeepsDrives s₀) : (s.sendSync c).1.KeepsDrives s₀ := by
  unfold State.sendSync
  split
  · exact h
  · extract_lets +onlyGivenNames e
    dsimp -zeta only
    exact h.nrtOut

theorem nrtSend {c : Conn} {q : NrtHdr} {e : NrtExt} {b : NrtBody} (h : s.KeepsDrives s₀) : (s.nrtSend c q e b).1.KeepsDrives s₀ := by
  unfold State.nrtSend
  dsimp -zeta only
  exact h.sendSync.nrtOut

theorem sendAck {c : Conn} {path : Nat} (h : s.KeepsDrives s₀) : (s.sendAck c path).KeepsDrives s₀ := by
  unfold State.sendAck
  dsimp -zeta only
  exact h.nrtSend.setConn

theorem restoreCredits (h : s.KeepsDrives s₀) : s.restoreCredits.KeepsDrives s₀ := by
  unfold State.restoreCredits
  exact h.foldl fun _ _ ht => ht.sendAck

theorem sendData {c : Conn} {p : TxPkt} (h : s.KeepsDrives s₀) : (s.sendData c p).1.KeepsDrives s₀ := h.nrtSend

theorem sendNext {c : Conn} {m : OutMsg} (h : s.KeepsDrives s₀) : (s.sendNext c m).1.KeepsDrives s₀ := h.sendData

theorem pumpN {c : Conn} {y : Nat} (h : s.KeepsDrives s₀) : (s.pumpN c y).1.KeepsDrives s₀ := by
  induction y generalizing s c with
  | zero => exact h
  | succ y ih =>
    unfold State.pumpN
    split
    · exact h
    · exact ih h.sendNext

theorem pump {c : Conn} (h : s.KeepsDrives s₀) : (s.pump c).1.KeepsDrives s₀ := h.pumpN

theorem roceSend {c : Conn} {m : RoceOut} {k : Nat} (h : s.KeepsDrives s₀) :
    (s.roceSend c m k).KeepsDrives s₀ := (h.send.bumpBy)

theorem roceMessage {c : Conn} {m : OutMsg} (h : s.KeepsDrives s₀) :
    (s.roceMessage c m).KeepsDrives s₀ := h.roceSend.setConn

theorem rocePumpN {index y : Nat} (h : s.KeepsDrives s₀) : (s.rocePumpN index y).KeepsDrives s₀ := by
  induction y generalizing s with
  | zero => exact h
  | succ y ih =>
    unfold State.rocePumpN
    split
    · split
      · split
        · exact ih h.roceMessage
        · exact h
      · exact h
    · exact h

theorem rocePump {c : Conn} (h : s.KeepsDrives s₀) : (s.rocePump c).KeepsDrives s₀ := h.rocePumpN

theorem raiseCeiling {c : Conn} (h : s.KeepsDrives s₀) : (s.raiseCeiling c).KeepsDrives s₀ := by
  unfold State.raiseCeiling
  extract_lets +onlyGivenNames asked
  exact h.mirror.ite h

theorem goOn {c : Conn} (h : s.KeepsDrives s₀) : (s.goOn c).KeepsDrives s₀ := by
  unfold State.goOn
  split
  · dsimp -zeta only
    exact h.pump.setConn.raiseCeiling
  · exact h.setConn.rocePump

theorem transmitAs {cid msg : Nat} {b : OutBody} (h : s.KeepsDrives s₀) : (s.transmitAs cid msg b).KeepsDrives s₀ := by
  unfold State.transmitAs
  split
  · exact h
  · exact h.goOn

theorem commitMsg {cid : Nat} {b : OutBody} (h : s.KeepsDrives s₀) : (s.commitMsg cid b).2.KeepsDrives s₀ := by
  unfold State.commitMsg
  split
  · exact h
  · extract_lets +onlyGivenNames s1
    have h1 : s1.KeepsDrives s₀ := h.setConn
    exact h1.mirrorConn

theorem transmit {cid : Nat} {b : OutBody} (h : s.KeepsDrives s₀) : (s.transmit cid b).KeepsDrives s₀ := by
  unfold State.transmit
  split
  · exact h
  · extract_lets +onlyGivenNames c
    split
    · extract_lets +onlyGivenNames c1
      exact h.goOn
    · extract_lets +onlyGivenNames psn c1 c2
      exact h.setConn.mirror.ite h.mirrorAlso.goOn

theorem raiseCmd {r loc sev code data : Nat} (h : s.KeepsDrives s₀) : (s.raiseCmd r loc sev code data).KeepsDrives s₀ := h.raise

theorem raiseLay {g loc sev code data : Nat} (h : s.KeepsDrives s₀) : (s.raiseLay g loc sev code data).KeepsDrives s₀ := h.raise

theorem epRead {t : State} {f : Nat} {w : EpWhat} {second : Bool} (h : s.KeepsDrives s₀) (ht : s.epRead f w second = some t) :
    t.KeepsDrives s₀ := by
  unfold State.epRead at ht
  split at ht
  · cases ht
  · next tag _ =>
    obtain rfl := Option.some.inj ht
    exact (State.KeepsDrives.send h.of_eq).bump.epTlp

theorem epFetchSq {f qid : Nat} (h : s.KeepsDrives s₀) : (s.epFetchSq f qid).KeepsDrives s₀ := by
  unfold State.epFetchSq
  extract_lets +onlyGivenNames idx
  split
  · exact h
  · split
    · exact h
    · extract_lets +onlyGivenNames busy avail
      split
      · exact h
      · split
        · rename_i t heq
          have ht : t.KeepsDrives s₀ := h.epRead heq
          exact ht
        · exact h

theorem epFetchAll {f : Nat} (h : s.KeepsDrives s₀) : (s.epFetchAll f).KeepsDrives s₀ := by
  unfold State.epFetchAll
  split
  · exact h
  · exact h.foldl fun _ _ ht => ht.epFetchSq

theorem syncCmds (h : s.KeepsDrives s₀) : s.syncCmds.KeepsDrives s₀ := by
  unfold State.syncCmds
  extract_lets +onlyGivenNames s1 full s2
  have h1 : s1.KeepsDrives s₀ := h.syncReady
  have h2 : s2.KeepsDrives s₀ := h1.wr
  extract_lets +onlyGivenNames s3
  have h3 : s3.KeepsDrives s₀ := h2.of_eq
  exact (h3.restoreCredits.foldl fun _ _ ht => ht.epFetchAll).ite h3

theorem epEntry {t : State} {f ctl qid : Nat} {o : Out} (h : s.KeepsDrives s₀) (ht : s.epEntry f ctl qid o = some t) : t.KeepsDrives s₀ := by
  unfold State.epEntry at ht
  split at ht
  · cases ht; exact h
  · split at ht
    · cases ht
    · obtain rfl := Option.some.inj ht
      refine State.KeepsDrives.ite ?_ ?_
      · exact h.updCtrl.send.bump.bump.epTlp.epInterrupt
      · exact h.updCtrl.send.bump.bump.epTlp

theorem epFlush {f : Nat} (h : s.KeepsDrives s₀) : (s.epFlush f).KeepsDrives s₀ := by
  unfold State.epFlush
  extract_lets +onlyGivenNames l
  split
  · exact h
  · refine State.KeepsDrives.foldl ?_ fun a x ha => ?_
    · extract_lets +onlyGivenNames s1
      have h1 : s1.KeepsDrives s₀ := h.updEpf
      exact h1.of_eq
    · split
      · exact ha.updEpf
      · split
        · split
          · rename_i t heq
            have ht : t.KeepsDrives s₀ := ha.epEntry heq
            exact ht
          · exact ha.updEpf
        · exact ha.send.bump.epTlp

theorem toHost {ctl : Nat} {o : Out} (h : s.KeepsDrives s₀) : (s.toHost ctl o).KeepsDrives s₀ := by
  unfold State.toHost
  split
  · exact h.updEpf.epFlush
  · exact h.send

theorem respond {k : NvmeCmd} {dw0 : Nat} {st : Status} {msg : Option Nat} (h : s.KeepsDrives s₀) : (s.respond k dw0 st msg).KeepsDrives s₀ := by
  unfold State.respond
  extract_lets +onlyGivenNames body
  split
  · exact h
  · split
    · exact h.ite h.transmitAs
    · exact h.transmit
    · exact h.toHost

theorem mirrorNs {nsid : Nat} (h : s.KeepsDrives s₀) : (s.mirrorNs nsid).KeepsDrives s₀ := h.mirrorNote

theorem setAtPost {v : NvmeCmd} (h : s.KeepsDrives s₀) : (s.setAtPost v).KeepsDrives s₀ := by
  unfold State.setAtPost
  extract_lets +onlyGivenNames m onQueue
  have honQueue : ∀ q f, (onQueue q f).KeepsDrives s₀ := by
    intro q f
    unfold onQueue
    extract_lets +onlyGivenNames s1
    have h1 : s1.KeepsDrives s₀ := h.updQueue
    split
    · exact h1.mirrorConn
    · exact h1
  exact h.ite ((honQueue _ _).ite (h.ite (h.updNs.ite (honQueue _ _))))

theorem post {c : Cmd} (h : s.KeepsDrives s₀) : (s.post c).KeepsDrives s₀ := by
  unfold State.post
  split
  · exact h
  · extract_lets +onlyGivenNames s1 s2 s3
    have h1 : s1.KeepsDrives s₀ := h.of_eq
    have h2 : s2.KeepsDrives s₀ := h1.setAtPost.ite h1
    have h3 : s3.KeepsDrives s₀ := h2.bumpCmd.respond.ite h2
    exact h3.mirrorNote.syncCmds

theorem reserveResponse {c : Cmd} (h : s.KeepsDrives s₀) : (s.reserveResponse c).KeepsDrives s₀ := by
  unfold State.reserveResponse
  split
  · split
    · dsimp -zeta only
      exact h.commitMsg.updCmd
    · exact h
  · exact h

theorem tryPost {id : Nat} (h : s.KeepsDrives s₀) : (s.tryPost id).KeepsDrives s₀ := by
  unfold State.tryPost
  split
  · exact h
  · split
    · exact h
    · split
      · extract_lets +onlyGivenNames s1
        have h1 : s1.KeepsDrives s₀ := h.reserveResponse.updCmd
        split
        · exact h1.mirror
        · exact h1
      · exact h.post

theorem finish {id dw0 : Nat} {st : Status} (h : s.KeepsDrives s₀) :
    (s.finish id dw0 st).KeepsDrives s₀ := h.setMet.tryPost

theorem sendNotices {ctl y : Nat} (h : s.KeepsDrives s₀) : (s.sendNotices ctl y).KeepsDrives s₀ := by
  induction y generalizing s with
  | zero => exact h
  | succ y ih =>
    unfold State.sendNotices
    split
    · exact h
    · split
      · exact ih h.updCtrl.finish
      · exact h

theorem notice {ctl typ info page : Nat} (h : s.KeepsDrives s₀) : (s.notice ctl typ info page).KeepsDrives s₀ := by
  unfold State.notice
  split
  · exact h
  · extract_lets +onlyGivenNames enabled
    exact h.ite h.updCtrl.sendNotices

theorem noticeAll {p : Nat → Bool} {typ info page : Nat} (h : s.KeepsDrives s₀) : (s.noticeAll p typ info page).KeepsDrives s₀ := by
  unfold State.noticeAll
  refine h.foldl fun a x ha => ?_
  split
  · exact ha.notice.ite ha
  · exact ha

theorem recordLost {nsid slba nlb cause : Nat} (h : s.KeepsDrives s₀) :
    (s.recordLost nsid slba nlb cause).KeepsDrives s₀ := by
  unfold State.recordLost
  split
  · exact h
  · extract_lets +onlyGivenNames blocks full lost s1 s2
    have h1 : s1.KeepsDrives s₀ := h.updNs
    have h2 : s2.KeepsDrives s₀ := h1.raiseCmd
    exact h2.noticeAll.mirrorNs

theorem mirrorSlot {k : Nat} (h : s.KeepsDrives s₀) : (s.mirrorSlot k).KeepsDrives s₀ := h.mirrorNote

theorem changeSlot {k st : Nat} {f : Slot → Slot} (h : s.KeepsDrives s₀) : (s.changeSlot k st f).KeepsDrives s₀ :=
  (h.updSlot.wr).mirrorSlot

theorem syncHold {g : Nat} (h : s.KeepsDrives s₀) : (s.syncHold g).KeepsDrives s₀ := by
  unfold State.syncHold
  extract_lets +onlyGivenNames f
  split
  · split
    · extract_lets +onlyGivenNames s1
      have h1 : s1.KeepsDrives s₀ := h.updGroup
      exact ((h1.wr (f := F.LAY_GSTAT_SPACE_HOLD _))).raiseLay
    · exact h
  · extract_lets +onlyGivenNames us s1
    have h1 : s1.KeepsDrives s₀ := ((h.bumpBy)).updGroup
    split
    · extract_lets +onlyGivenNames s2
      have h2 : s2.KeepsDrives s₀ := h1.updGroup
      exact ((h2.wr (f := F.LAY_GSTAT_SPACE_HOLD _))).raiseLay
    · exact h1

theorem syncEntries {g : Nat} (h : s.KeepsDrives s₀) : (s.syncEntries g).KeepsDrives s₀ := by
  unfold State.syncEntries
  extract_lets +onlyGivenNames e free
  have hw : ∀ v, (s.wr (F.LAY_GSTAT_ENTRY_HOLD g) v).KeepsDrives s₀ := fun v => (h.wr)
  split
  · exact (hw 0).setEntryNotice.ite h
  · exact (hw 1).raiseLay.setEntryNotice.ite h

theorem syncGroup {g : Nat} (h : s.KeepsDrives s₀) : (s.syncGroup g).KeepsDrives s₀ := by
  unfold State.syncGroup
  split
  · exact h
  · extract_lets +onlyGivenNames s1 s2 s3
    have h1 : s1.KeepsDrives s₀ := (h.wr (f := F.LAY_GSTAT_OPEN _))
    have h2 : s2.KeepsDrives s₀ := (h1.wr (f := F.LAY_GSTAT_SERVICE _))
    have h3 : s3.KeepsDrives s₀ := (h2.wr (f := F.LAY_GSTAT_FREE_PCT _))
    exact h3.syncHold.syncEntries.ite h3

theorem syncQuar {slot : Nat} (h : s.KeepsDrives s₀) :
    (s.syncQuar slot).KeepsDrives s₀ := (h.wr (f := F.DRV_PSTAT_QUAR _ _))

theorem issueM {slot q : Nat} {w : MWork} (h : s.KeepsDrives s₀) : (s.issueM slot q w).KeepsDrives s₀ := by
  unfold State.issueM
  split
  · extract_lets +onlyGivenNames tag
    exact (h.of_eq.send.bump)
  · exact h.of_eq

theorem issueWaiting (h : s.KeepsDrives s₀) : s.issueWaiting.KeepsDrives s₀ := by
  unfold State.issueWaiting
  extract_lets +onlyGivenNames l
  exact h.of_eq.foldl fun _ _ ht => ht.issueM

theorem abandonM {p : MWork → Bool} (h : s.KeepsDrives s₀) : (s.abandonM p).KeepsDrives s₀ := by
  unfold State.abandonM
  extract_lets +onlyGivenNames slots
  exact h.of_eq.foldl fun _ _ ht => ht.syncQuar

theorem bgIo {l : List Nat} (h : s.KeepsDrives s₀) : (s.bgIo l).KeepsDrives s₀ := by
  unfold State.bgIo
  exact h.foldl fun _ _ ht => (ht.bump)

theorem issueRec {g : Nat} {b : RecBody} (h : s.KeepsDrives s₀) : (s.issueRec g b).2.KeepsDrives s₀ := by
  unfold State.issueRec
  extract_lets +onlyGivenNames q r s1
  extract_lets +onlyGivenNames s2
  have h2 : s2.KeepsDrives s₀ := h.of_eq
  exact (h2.wr64)

theorem emitRec {g : Nat} {b : RecBody} (h : s.KeepsDrives s₀) : (s.emitRec g b).KeepsDrives s₀ := h.issueRec

theorem openStripe {t : State} {g k : Nat} {st : Stream} (h : s.KeepsDrives s₀) (ht : s.openStripe g st = some (k, t)) : t.KeepsDrives s₀ := by
  unfold State.openStripe at ht
  split at ht
  · cases ht
  · dsimp only at ht
    split at ht
    · split at ht
      · cases ht
      · obtain ⟨-, rfl⟩ := Prod.mk.inj (Option.some.inj ht)
        exact State.KeepsDrives.syncGroup (State.KeepsDrives.updGroup h.of_eq)
    · cases ht

theorem stripeFor {t : State} {g k : Nat} {st : Stream} (h : s.KeepsDrives s₀) (ht : s.stripeFor g st = some (k, t)) : t.KeepsDrives s₀ := by
  unfold State.stripeFor at ht
  split at ht
  · cases ht; exact h
  · split at ht
    · exact h.openStripe ht
    · cases ht

theorem place {g : Nat} {st : Stream} {b : SBlock} (h : s.KeepsDrives s₀) : (s.place g st b).1.KeepsDrives s₀ := by
  unfold State.place
  split
  · exact h
  · rename_i t heq
    have ht : t.KeepsDrives s₀ := h.stripeFor heq
    extract_lets +onlyGivenNames starts
    split
    · split
      · exact h.closeStripe
      · exact h
    · extract_lets +onlyGivenNames s1
      have h1 : s1.KeepsDrives s₀ := ht.placeIn
      exact h1.updGroup.ite h1

theorem placeCmd {id : Nat} (h : s.KeepsDrives s₀) : (s.placeCmd id).KeepsDrives s₀ := by
  unfold State.placeCmd
  split
  · exact h
  · split
    · exact h
    · extract_lets +onlyGivenNames slba
      split
      · exact h
      · refine h.foldl fun a x ha => ?_
        split
        · split
          · exact ha
          · split
            · rename_i t x1 heq
              have ht : t.KeepsDrives s₀ := ha.place.of_fst heq
              exact ht.updCmd
            · rename_i t heq
              have ht : t.KeepsDrives s₀ := ha.place.of_fst heq
              exact ht
        · exact ha

theorem placeWaiting {g : Nat} (h : s.KeepsDrives s₀) : (s.placeWaiting g).KeepsDrives s₀ := by
  unfold State.placeWaiting
  exact h.foldl fun _ _ ht => ht.placeCmd

theorem drainEnd {g : Nat} (h : s.KeepsDrives s₀) : (s.drainEnd g).KeepsDrives s₀ := by
  unfold State.drainEnd
  exact h.ite (h.foldl fun _ _ ht => ht.changeSlot.raiseLay)

theorem syncHealth {g : Nat} (h : s.KeepsDrives s₀) : (s.syncHealth g).KeepsDrives s₀ := by
  unfold State.syncHealth
  split
  · exact h
  · extract_lets +onlyGivenNames s1 st old s2
    have h1 : s1.KeepsDrives s₀ := h.drainEnd
    have h2 : s2.KeepsDrives s₀ := h1.syncGroup
    split
    · exact h2
    · extract_lets +onlyGivenNames s3 s4
      have h3 : s3.KeepsDrives s₀ := h2.updGroup
      have h4 : s4.KeepsDrives s₀ := h3.raiseLay.ite h3
      exact h4.noticeAll

theorem discardToFree {g k : Nat} (h : s.KeepsDrives s₀) :
    (s.discardToFree g k).KeepsDrives s₀ := h.updStripe.emitRec

theorem placeRead {c : Cmd} {k : Namespace} (h : s.KeepsDrives s₀) : (s.placeRead c k).KeepsDrives s₀ := by
  unfold State.placeRead
  extract_lets +onlyGivenNames pib data
  split
  · extract_lets +onlyGivenNames s1
    have h1 : s1.KeepsDrives s₀ := h.updCmd
    exact (h1.foldl fun _ _ ht => ht.transmit).readsAcked
  · exact h.toHost.setMet

theorem readEnd {id : Nat} (h : s.KeepsDrives s₀) : (s.readEnd id).KeepsDrives s₀ := by
  unfold State.readEnd
  split
  · exact h
  · split
    · exact h
    · split
      · exact h
      · split
        · exact (h.bump).setMet
        · split
          · exact h.placeRead
          · split
            · extract_lets +onlyGivenNames same
              exact h.setMet
            · exact h.setMet

theorem gotBlock {id i : Nat} {b : Blk} (h : s.KeepsDrives s₀) :
    (s.gotBlock id i b).KeepsDrives s₀ := h.updCmd.readEnd

theorem lostEvent {g slot : Nat} (h : s.KeepsDrives s₀) : (s.lostEvent g slot).KeepsDrives s₀ := h.raiseOnce

theorem loseBlock {g k slab blk : Nat} (h : s.KeepsDrives s₀) : (s.loseBlock g k slab blk).KeepsDrives s₀ := by
  unfold State.loseBlock
  split
  · exact h
  · split
    · exact h
    · extract_lets +onlyGivenNames first slot s1
      have h1 : s1.KeepsDrives s₀ := h.updStripe
      exact h1.updGroup.emitRec.lostEvent.ite h1

theorem meetLost {id nsid lba : Nat} {b : Option BRef} (h : s.KeepsDrives s₀) : (s.meetLost id nsid lba b).KeepsDrives s₀ := by
  unfold State.meetLost
  extract_lets +onlyGivenNames s1 s2
  have h1 : s1.KeepsDrives s₀ := by
    unfold s1
    split
    · exact h.loseBlock
    · exact h.lostEvent
    · exact h
  have h2 : s2.KeepsDrives s₀ := by
    unfold s2
    split
    · exact h1.ite h1.recordLost
    · exact h1
  split
  · exact h2.setMet.ite h2
  · exact h2

theorem countRecon {sr : SRef} {k : Nat} (h : s.KeepsDrives s₀) : (s.countRecon sr k).KeepsDrives s₀ := by
  unfold State.countRecon
  exact h.ite (h.bumpBy)

theorem rewriteBlk {bad : List BRef} {b : BRef} {kind : Nat} (h : s.KeepsDrives s₀) : (s.rewriteBlk bad b kind).KeepsDrives s₀ := by
  unfold State.rewriteBlk
  split
  · exact h.countRecon.regenInPlace.issueM.ite h
  · exact h

theorem repairs {j : ReadJob} {kind : Nat} (h : s.KeepsDrives s₀) : (s.repairs j kind).KeepsDrives s₀ := by
  unfold State.repairs
  exact h.foldl fun _ _ ht => ht.rewriteBlk

theorem endJob {j : ReadJob} (h : s.KeepsDrives s₀) : (s.endJob j).KeepsDrives s₀ := by
  unfold State.endJob
  extract_lets +onlyGivenNames s1 s2 s3
  have h1 : s1.KeepsDrives s₀ := h.of_eq
  have h2 : s2.KeepsDrives s₀ := h1.ite h1.countRecon
  have h3 : s3.KeepsDrives s₀ := h2.abandonM.repairs
  split
  · exact h3
  · split
    · exact h3.gotBlock
    · exact h3

theorem pursue {id : Nat} (h : s.KeepsDrives s₀) : (s.pursue id).KeepsDrives s₀ := by
  unfold State.pursue
  split
  · exact h
  · split
    · exact h.endJob
    · split
      · exact h
      · split
        · extract_lets +onlyGivenNames more s1
          have h1 : s1.KeepsDrives s₀ := h.updJob
          refine h1.foldl fun a x ha => ?_
          split
          · exact ha.issueM
          · exact ha
        · split
          · exact h
          · extract_lets +onlyGivenNames s1
            have h1 : s1.KeepsDrives s₀ := h.of_eq
            split
            · exact h1.meetLost
            · exact h1

theorem rereadFrom {slot : Nat} (h : s.KeepsDrives s₀) : (s.rereadFrom slot).KeepsDrives s₀ := by
  unfold State.rereadFrom
  extract_lets +onlyGivenNames hit s1
  have h1 : s1.KeepsDrives s₀ := h.foldl fun _ _ ht => ht.updJob
  exact h1.foldl fun _ _ ht => ht.pursue.ite ht

theorem addDirty {slot nsid region : Nat} (h : s.KeepsDrives s₀) : (s.addDirty slot nsid region).KeepsDrives s₀ := by
  unfold State.addDirty
  extract_lets +onlyGivenNames s1
  have h1 : s1.KeepsDrives s₀ := h.updSlot
  exact h1.wr

theorem sendFixWrite {id : Nat} {b : BRef} (h : s.KeepsDrives s₀) : (s.sendFixWrite id b).KeepsDrives s₀ := by
  unfold State.sendFixWrite
  split
  · exact h.issueM
  · exact h

theorem fixDoneIf {id : Nat} (h : s.KeepsDrives s₀) : (s.fixDoneIf id).KeepsDrives s₀ := by
  unfold State.fixDoneIf
  split
  · exact h
  · split
    · exact h
    · extract_lets +onlyGivenNames s1 s2
      have h1 : s1.KeepsDrives s₀ := h.applyFix.updFix
      have h2 : s2.KeepsDrives s₀ := h1.emitRec
      split
      · extract_lets +onlyGivenNames s3
        have h3 : s3.KeepsDrives s₀ := h2.updCmd
        split
        · exact h3.setMet.ite h3
        · exact h3
      · exact h2.of_eq

theorem fixGo {id : Nat} (h : s.KeepsDrives s₀) : (s.fixGo id).KeepsDrives s₀ := by
  unfold State.fixGo
  split
  · exact h
  · split
    · exact h
    · extract_lets +onlyGivenNames all skip go wait s1 s2
      have h1 : s1.KeepsDrives s₀ := by
        unfold s1
        refine h.foldl fun a x ha => ?_
        split
        · exact ha.addDirty
        · exact ha
      have h2 : s2.KeepsDrives s₀ := h1.updFix
      exact (h2.foldl fun _ _ ht => ht.sendFixWrite).fixDoneIf

theorem issueIntent {id : Nat} (h : s.KeepsDrives s₀) : (s.issueIntent id).KeepsDrives s₀ := by
  unfold State.issueIntent
  split
  · exact h
  · split
    · exact h
    · extract_lets +onlyGivenNames t absent deg nchk
      dsimp -zeta only
      extract_lets +onlyGivenNames s1 rmw
      have h1 : s1.KeepsDrives s₀ := by
        unfold s1
        split
        · exact h.issueRec.updCmd
        · exact h.issueRec
      exact h1.updFix.bump.bumpBy

theorem fixReadEnd {id : Nat} {b : BRef} {good : Bool} (h : s.KeepsDrives s₀) : (s.fixReadEnd id b good).KeepsDrives s₀ := by
  unfold State.fixReadEnd
  split
  · exact h
  · extract_lets +onlyGivenNames more s1 s2 s3
    have h1 : s1.KeepsDrives s₀ := h.ite h.countRecon
    have h2 : s2.KeepsDrives s₀ := h1.updFix
    have h3 : s3.KeepsDrives s₀ := by
      unfold s3
      refine h2.foldl fun a x ha => ?_
      split
      · exact ha.issueM
      · exact ha
    split
    · exact h3.issueIntent.ite h3.fixGo
    · exact h3

theorem fixWriteEnd {id : Nat} {b : BRef} (h : s.KeepsDrives s₀) : (s.fixWriteEnd id b).KeepsDrives s₀ := by
  unfold State.fixWriteEnd
  extract_lets +onlyGivenNames seq s1 waiting s2
  have h1 : s1.KeepsDrives s₀ := h.of_eq
  extract_lets +onlyGivenNames s3
  have h3 : s3.KeepsDrives s₀ := h1.of_eq
  extract_lets +onlyGivenNames s4
  have h4 : s4.KeepsDrives s₀ := by
    unfold s4
    split
    · exact h3.sendFixWrite
    · exact h1
  exact h4.foldl fun _ _ ht => ht.fixDoneIf

theorem fixWriteMissed {id slot : Nat} {b : BRef} (h : s.KeepsDrives s₀) : (s.fixWriteMissed id slot b).KeepsDrives s₀ := by
  unfold State.fixWriteMissed
  split
  · exact h.addDirty.updFix.fixWriteEnd
  · exact h

theorem putSlot {k st : Nat} (h : s.KeepsDrives s₀) : (s.putSlot k st).KeepsDrives s₀ := h.changeSlot

theorem syncDirty {k : Nat} (h : s.KeepsDrives s₀) : (s.syncDirty k).KeepsDrives s₀ := h.wrB

theorem writeMember {g : Nat} (h : s.KeepsDrives s₀) : (s.writeMember g).KeepsDrives s₀ := by
  unfold State.writeMember
  split
  · exact h
  · extract_lets +onlyGivenNames mem gr w s1 bits gen
    have h1 : s1.KeepsDrives s₀ := h.updSvy
    exact (h1.foldl fun _ _ ht => ht.updSlot).bgIo

theorem leaveService {k : Nat} (h : s.KeepsDrives s₀) : (s.leaveService k).KeepsDrives s₀ := by
  unfold State.leaveService
  split
  · exact h
  · extract_lets +onlyGivenNames g gr
    exact h.updSlot.updGroup.mirrorSlot

theorem settle {k : Nat} (h : s.KeepsDrives s₀) : (s.settle k).KeepsDrives s₀ := by
  unfold State.settle
  extract_lets +onlyGivenNames g s1
  have h1 : s1.KeepsDrives s₀ := h.syncDirty.syncLed
  exact h1.syncGroup.syncHealth.placeWaiting.ite h1

theorem rewriteStripe {g k : Nat} (h : s.KeepsDrives s₀) : (s.rewriteStripe g k).KeepsDrives s₀ := by
  unfold State.rewriteStripe
  split
  · exact h
  · split
    · exact h
    · extract_lets +onlyGivenNames hit s1 s2 idx s3 s4
      have h1 : s1.KeepsDrives s₀ := h.of_eq
      have h2 : s2.KeepsDrives s₀ := h1.discardToFree.abandonM
      have h3 : s3.KeepsDrives s₀ := h2.foldl fun _ _ ht => ht.updCmd
      have h4 : s4.KeepsDrives s₀ := by
        unfold s4
        refine h3.foldl fun a x ha => ?_
        split
        · split
          · rename_i t x1 heq
            have ht : t.KeepsDrives s₀ := ha.place.of_fst heq
            exact ht
          · rename_i t heq
            have ht : t.KeepsDrives s₀ := ha.place.of_fst heq
            exact ht.of_eq
        · exact ha.place
        · exact ha
      exact h4.placeWaiting

theorem endMWork {slot : Nat} {w : MWork} (h : s.KeepsDrives s₀) : (s.endMWork slot w).KeepsDrives s₀ := by
  unfold State.endMWork
  split
  · exact h.rewriteStripe
  · exact h.fixWriteMissed
  · exact h.fixReadEnd
  · exact h

theorem endCommands {k : Nat} (h : s.KeepsDrives s₀) : (s.endCommands k).KeepsDrives s₀ := by
  unfold State.endCommands
  extract_lets +onlyGivenNames mine wait s1 s2
  have h1 : s1.KeepsDrives s₀ := h.of_eq
  have h2 : s2.KeepsDrives s₀ := h1.foldl fun _ _ ht => ht.endMWork
  exact h2.rereadFrom.syncQuar.issueWaiting

theorem loseAt {bad : List BRef} {sr : SRef} {offs : List Nat} (h : s.KeepsDrives s₀) : (s.loseAt bad sr offs).KeepsDrives s₀ := by
  unfold State.loseAt
  dsimp -zeta only
  refine h.foldl fun a x ha => ?_
  split
  · exact ha
  · split
    · exact ha.loseBlock
    · split
      · exact ha.ite ha.recordLost.lostEvent
      · exact ha

theorem lossScan {g : Nat} (h : s.KeepsDrives s₀) : (s.lossScan g).KeepsDrives s₀ := by
  unfold State.lossScan
  extract_lets +onlyGivenNames offs logs s1
  have h1 : s1.KeepsDrives s₀ := h.foldl fun _ _ ht => ht.loseAt
  exact (h1.foldl fun _ _ ht => ht.loseAt).ite h1

theorem enterWork {g k : Nat} (h : s.KeepsDrives s₀) : (s.enterWork g k).KeepsDrives s₀ := by
  unfold State.enterWork
  extract_lets +onlyGivenNames s1 old new
  have h1 : s1.KeepsDrives s₀ := h.foldl fun _ _ ht => ht.rewriteStripe
  split
  · exact h1
  · extract_lets +onlyGivenNames s2
    have h2 : s2.KeepsDrives s₀ := by
      unfold s2
      split
      · exact (h1.wr).wr
      · exact h1
    exact h2.updGroup.bumpBy

theorem suspectSlot {k cause ref : Nat} (h : s.KeepsDrives s₀) : (s.suspectSlot k cause ref).KeepsDrives s₀ := by
  unfold State.suspectSlot
  extract_lets +onlyGivenNames g s1 s2
  have h1 : s1.KeepsDrives s₀ := h.leaveService.putSlot.writeMember
  have h2 : s2.KeepsDrives s₀ := h1.updSlot.raiseLay
  exact h2.rereadFrom.settle

theorem returnSlot {k : Nat} (h : s.KeepsDrives s₀) :
    (s.returnSlot k).KeepsDrives s₀ := h.putSlot.settle

theorem joinSlot {k : Nat} {order : Bool} (h : s.KeepsDrives s₀) : (s.joinSlot k order).KeepsDrives s₀ := by
  unfold State.joinSlot
  extract_lets +onlyGivenNames s1
  have h1 : s1.KeepsDrives s₀ := h.changeSlot
  exact h1.settle

theorem suspectReturns {k : Nat} (h : s.KeepsDrives s₀) : (s.suspectReturns k).KeepsDrives s₀ := by
  unfold State.suspectReturns
  exact h.returnSlot.ite h

theorem offer {k : Nat} {r : DriveRec} (h : s.KeepsDrives s₀) : (s.offer k r).KeepsDrives s₀ := by
  unfold State.offer
  extract_lets +onlyGivenNames s1 st
  have h1 : s1.KeepsDrives s₀ := h.updSlot
  split
  · exact h1
  · split
    · exact h1.suspectReturns
    · exact h1.returnSlot.ite ((h1.joinSlot.ite h1.raiseLay).ite h1)

end State.KeepsDrives

/-! ### The outputs of the sideband chain -/

/-- A number with one bit replaced, as `setOut` computes it. -/
theorem hasBit_replaced (w i j : Nat) (v : Bool) : hasBit (w - bit (hasBit w i) * 2 ^ i + bit v * 2 ^ i) j = if j = i then v else hasBit w j := by
  have hpos : 0 < 2 ^ i := Nat.two_pow_pos i
  have hw : 2 ^ i * (w / 2 ^ i) + w % 2 ^ i = w := Nat.div_add_mod ..
  have hq : bit (hasBit w i) = w / 2 ^ i % 2 := by
    rcases Nat.mod_two_eq_zero_or_one (w / 2 ^ i) with h | h <;> simp [hasBit, h, bit]
  have hsplit : w - bit (hasBit w i) * 2 ^ i + bit v * 2 ^ i = 2 ^ i * (2 * (w / 2 ^ i / 2) + bit v) + w % 2 ^ i := by
    have hhalf : 2 ^ i * (w / 2 ^ i) = 2 ^ i * (2 * (w / 2 ^ i / 2)) + (w / 2 ^ i % 2) * 2 ^ i := by
      rw [Nat.mul_comm (w / 2 ^ i % 2), ← Nat.mul_add, Nat.div_add_mod]
    rw [hq, Nat.mul_add, Nat.mul_comm (bit v)]
    omega
  rw [hasBit_eq_testBit, hsplit, Nat.testBit_two_pow_mul_add _ (Nat.mod_lt _ hpos), hasBit_eq_testBit]
  have hold : w.testBit j = if j < i then (w % 2 ^ i).testBit j else (w / 2 ^ i).testBit (j - i) := by
    conv_lhs => rw [← hw]
    exact Nat.testBit_two_pow_mul_add _ (Nat.mod_lt _ hpos) j
  rw [hold]
  by_cases hlt : j < i
  · rw [if_pos hlt, if_pos hlt, if_neg (Nat.ne_of_lt hlt)]
  rw [if_neg hlt, if_neg hlt]
  by_cases heq : j = i
  · rw [if_pos heq, heq, Nat.sub_self, Nat.testBit_zero]
    cases v <;> simp [bit]
  · obtain ⟨k, hk⟩ : ∃ k, j - i = k + 1 := ⟨j - i - 1, by omega⟩
    have hb : bit v < 2 := by cases v <;> decide
    rw [if_neg heq, hk, Nat.testBit_succ, Nat.testBit_succ, show (2 * (w / 2 ^ i / 2) + bit v) / 2 = w / 2 ^ i / 2 by omega]

/-- An output is what was set last. -/
theorem State.outSet_setOut_same {s : State} {n : Nat} (hlen : s.sbcWant.length = 6) (hn : n < 48) (b : Nat) (v : Bool) :
    (s.setOut n b v).outSet n b = v := by
  have hlt : n / 8 < s.sbcWant.length := by omega
  simp [State.outSet, State.setOut, List.getD_eq_getElem?_getD, hlt, hasBit_replaced]

/-- The other outputs of the slots are as before. -/
theorem State.outSet_setOut_other (s : State) (n m : Nat) {b c : Nat} (hb : b < 4) (hc : c < 4) (h : b ≠ c) (v : Bool) :
    (s.setOut m b v).outSet n c = s.outSet n c := by
  unfold State.outSet State.setOut
  dsimp only
  by_cases hword : m / 8 = n / 8
  · rw [hword, List.getD_eq_getElem?_getD, List.getD_eq_getElem?_getD, List.getElem?_modify]
    cases s.sbcWant[n / 8]? with
    | none => rfl
    | some w =>
      simp only [Option.map_eq_map, Option.map_some, if_true, Option.getD_some]
      exact (hasBit_replaced w _ _ v).trans (if_neg (by omega))
  · rw [List.getD_eq_getElem?_getD, List.getElem?_modify, List.getD_eq_getElem?_getD]
    cases s.sbcWant[n / 8]? with
    | none => rfl
    | some w => simp only [Option.map_eq_map, Option.map_some, if_neg hword]

theorem State.outSet_of_want {s t : State} (h : t.sbcWant = s.sbcWant) (n b : Nat) : t.outSet n b = s.outSet n b := by rw [State.outSet, h, State.outSet]

theorem State.outSet_syncLed (s : State) (m n : Nat) {b : Nat} (hb : b < 2) : (s.syncLed m).outSet n b = s.outSet n b := by
  unfold State.syncLed
  extract_lets fault locate
  rw [State.outSet_setOut_other _ _ _ (by decide) (by omega) (by omega), State.outSet_setOut_other _ _ _ (by decide) (by omega) (by omega)]

theorem State.Keeps.sbcWant_eq {s t : State} {K : Nat} (h : t.Keeps K s) (hK : K.testBit 28 = false := by decide) : t.sbcWant = s.sbcWant :=
  (congrArg State.sbcWant h.pieces).symm.trans (by simp only [State.blend, hK, cond_false])

theorem State.Keeps.ports_eq {s t : State} {K : Nat} (h : t.Keeps K s) (hK : K.testBit 79 = false := by decide) : t.ports = s.ports :=
  (congrArg State.ports h.pieces).symm.trans (by simp only [State.blend, hK, cond_false])

theorem State.Keeps.part_eq {s t : State} {K : Nat} (h : t.Keeps K s) (hK : K.testBit 0 = false := by decide) : t.part = s.part :=
  (congrArg State.part h.pieces).symm.trans (by simp only [State.blend, hK, cond_false])

theorem State.outSet_settle (s : State) (m n : Nat) {b : Nat} (hb : b < 2) : (s.settle m).outSet n b = s.outSet n b := by
  have hled : ((s.syncDirty m).syncLed m).outSet n b = s.outSet n b := ((s.syncDirty m).outSet_syncLed m n hb).trans rfl
  unfold State.settle
  extract_lets g u
  refine map_ite (f := fun t : State => t.outSet n b) ?_ hled
  have hgroup : (u.syncGroup g).sbcWant = u.sbcWant := (State.Keeps.syncGroup (.refl _ u) (.refl _)).sbcWant_eq
  have hhealth : ((u.syncGroup g).syncHealth g).sbcWant = (u.syncGroup g).sbcWant := (State.Keeps.syncHealth (.refl _ _) (.refl _)).sbcWant_eq
  have hplace : (((u.syncGroup g).syncHealth g).placeWaiting g).sbcWant = ((u.syncGroup g).syncHealth g).sbcWant :=
    (State.Keeps.placeWaiting (.refl _ _) (.refl _)).sbcWant_eq
  exact (State.outSet_of_want (hplace.trans (hhealth.trans hgroup)) n b).trans hled

/-! ### A port and its status -/

theorem State.port_updPort_same {s : State} {n : Nat} (h : n < s.ports.length) (f : Port → Port) : (s.updPort n f).port n = f (s.port n) := by
  simp [State.port, State.updPort, List.getD_eq_getElem?_getD, h]

theorem State.port_of_ports {s t : State} (h : t.ports = s.ports) (n : Nat) : t.port n = s.port n := by rw [State.port, h, State.port]

/-- A slot whose port is not as after reset is one of the unit. -/
theorem State.lt_ports_of_ne {s : State} {n : Nat} (h : s.port n ≠ Port.cold) : n < s.ports.length := by
  by_contra hn
  exact h (List.getD_eq_default _ _ (Nat.le_of_not_lt hn))

theorem State.lt_ports_of_due {s : State} {n : Nat} {f : Port → Option Nat} (hcold : f Port.cold = none) (h : s.dueOpt (f (s.port n)) = true) :
    n < s.ports.length :=
  State.lt_ports_of_ne fun hport => by
    rw [hport, hcold] at h
    exact Bool.false_ne_true h

/-- The word of PSTAT of a slot. -/
theorem key_status {n : Nat} (h : n < 48) : 51 ≤ (drvOf n * 0x100000 + 0x1400 + 128 * (n % 8)) / 0x100000 ∧
    (drvOf n * 0x100000 + 0x1400 + 128 * (n % 8)) / 0x100000 < 57 ∧ (drvOf n * 0x100000 + 0x1400 + 128 * (n % 8)) % 128 = 0 ∧
    0x1400 ≤ (drvOf n * 0x100000 + 0x1400 + 128 * (n % 8)) % 0x100000 := by
  rw [drvOf]
  omega

theorem statusBit_of {n hi lo : Nat} (h : n < 48) (hhi : hi < 16) : statusBit ⟨drvOf n * 0x100000 + 0x1400 + 128 * (n % 8), hi, lo⟩ := by
  obtain ⟨h1, h2, h3, h4⟩ := key_status h
  exact ⟨h1, h2, h3, h4, hhi⟩

/-- Two fields of the status words that share no bit. -/
theorem sparedBy_status (hi' lo' : Nat) {k k' hi lo : Nat} (hle : lo' ≤ hi') (h32 : hi' < 32) (h : hi < lo' ∨ hi' < lo) : sparedBy ⟨k, hi, lo⟩ ⟨k',
    hi', lo'⟩ = true := by
  simp [sparedBy, hle, h32, h]

@[simp] theorem State.rd_updPort (s : State) (n : Nat) (f : Port → Port) (g : Fld) : (s.updPort n f).rd g = s.rd g := rfl

@[simp] theorem State.rd_updSlot (s : State) (n : Nat) (f : Slot → Slot) (g : Fld) : (s.updSlot n f).rd g = s.rd g := rfl

@[simp] theorem State.rd_setOut (s : State) (n b : Nat) (v : Bool) (g : Fld) : (s.setOut n b v).rd g = s.rd g := rfl

@[simp] theorem DrivesAside.DRV_CONTAIN (b i : Nat) : DrivesAside (F.DRV_CONTAIN b i) :=
  .of_key (.inr (.inr (show (b * 0x100000 + 0x1454 + 128 * i) % 128 ≠ 0 by omega)))

@[simp] theorem DrivesAside.DRV_RETRAIN (b i : Nat) : DrivesAside (F.DRV_RETRAIN b i) :=
  .of_key (.inr (.inr (show (b * 0x100000 + _ + 128 * i) % 128 ≠ 0 by omega)))

theorem State.rd_wrStat (s : State) (f : Nat → Nat → Fld) (n v : Nat) {g : Fld} (h : sparedBy g (f (drvOf n) (n % 8)) = true) :
    (s.wrStat f n v).rd g = s.rd g := s.rd_wr_spared _ g v h

/-- The link of a slot off: the bits beside its link are as before. -/
theorem State.rd_linkOff (s : State) (n : Nat) {k hi lo : Nat} (h : hi < 2 ∨ 5 < lo ∧ hi < 8 ∨ 8 < lo) :
    (s.linkOff n).rd ⟨k, hi, lo⟩ = s.rd ⟨k, hi, lo⟩ := by
  unfold State.linkOff
  rw [State.rd_wrStat _ F.DRV_PSTAT_X1 _ _ (sparedBy_status 5 5 (by decide) (by decide) (by omega)),
    State.rd_wrStat _ F.DRV_PSTAT_GEN _ _ (sparedBy_status 4 3 (by decide) (by decide) (by omega)),
    State.rd_wrStat _ F.DRV_PSTAT_READY _ _ (sparedBy_status 8 8 (by decide) (by decide) (by omega)),
    State.rd_wrStat _ F.DRV_PSTAT_LINK_UP _ _ (sparedBy_status 2 2 (by decide) (by decide) (by omega))]

theorem State.contained_linkOff (s : State) (n : Nat) : (s.linkOff n).rd (F.DRV_PSTAT_CONTAINED (drvOf n) (n % 8)) =
    s.rd (F.DRV_PSTAT_CONTAINED (drvOf n) (n % 8)) := s.rd_linkOff n (.inr (.inl (by decide)))

theorem State.powered_linkOff (s : State) (n : Nat) : (s.linkOff n).rd (F.DRV_PSTAT_POWERED (drvOf n) (n % 8)) =
    s.rd (F.DRV_PSTAT_POWERED (drvOf n) (n % 8)) := s.rd_linkOff n (.inl (by decide))

theorem State.reject_linkOff (s : State) (n : Nat) : (s.linkOff n).rd (F.DRV_PSTAT_REJECT (drvOf n) (n % 8)) =
    s.rd (F.DRV_PSTAT_REJECT (drvOf n) (n % 8)) := s.rd_linkOff n (.inr (.inr (by decide)))

theorem State.linkUp_linkOff (s : State) (n : Nat) : (s.linkOff n).rdStat F.DRV_PSTAT_LINK_UP n = 0 := by
  unfold State.linkOff State.rdStat
  change State.rd _ ⟨drvOf n * 0x100000 + 0x1400 + 128 * (n % 8), 2, 2⟩ = 0
  rw [State.rd_wrStat _ F.DRV_PSTAT_X1 _ _ (sparedBy_status 5 5 (by decide) (by decide) (by decide)),
    State.rd_wrStat _ F.DRV_PSTAT_GEN _ _ (sparedBy_status 4 3 (by decide) (by decide) (by decide)),
    State.rd_wrStat _ F.DRV_PSTAT_READY _ _ (sparedBy_status 8 8 (by decide) (by decide) (by decide))]
  exact State.rd_wr_fits _ _ (show (2 : Nat) ≤ 2 ∧ 2 < 32 by decide) (show 0 < 2 ^ 1 by decide)

theorem State.rd_bump_aside (s : State) {f g : Fld} (hf : DrivesAside f) (hg : statusBit g) : (s.bump f).rd g = s.rd g :=
  (State.KeepsDrives.refl s).bump hf g hg

theorem State.KeepsDrives.updPort {s s₀ : State} {n : Nat} {f : Port → Port} (h : s.KeepsDrives s₀) : (s.updPort n f).KeepsDrives s₀ := h.of_eq

/-! ### Containment -/

/-- A failed member: PSTAT as before, but for the link of a port that is recovered. -/
theorem State.failSlot_drives (s : State) (n cause : Nat) : (s.failSlot n cause).KeepsDrives s ∨
    ∃ u : State, u.KeepsDrives s ∧ (s.failSlot n cause).KeepsDrives (u.linkOff n) := by
  unfold State.failSlot
  extract_lets g s1 s2 s3 s4
  have h1 : s1.KeepsDrives s := (State.KeepsDrives.refl s).leaveService.putSlot.writeMember
  have h3 : s3.KeepsDrives s := h1.raiseLay.endCommands.enterWork.lossScan
  by_cases hrecover : (s3.rdStat F.DRV_PSTAT_PRSNT n = 1 && s3.rdStat F.DRV_PSTAT_REJECT n = 0 && s3.rdStat F.DRV_PSTAT_HELD n = 0) = true
  · right
    have h4 : s4 = (s3.holdPerst n).updPort n fun p => { p with recoverAt := some (s3.now + msU 100) } := if_pos hrecover
    refine ⟨s3.setOut n 0 false, h3.setOut, ?_⟩
    rw [h4, State.holdPerst]
    exact ((State.KeepsDrives.refl _).updPort.updPort).settle
  · left
    rw [show s4 = s3 from if_neg hrecover]
    exact h3.settle

theorem State.memberStalled_drives (s : State) (n cause ref : Nat) : (s.memberStalled n cause ref).KeepsDrives s ∨
    ∃ u : State, u.KeepsDrives s ∧ (s.memberStalled n cause ref).KeepsDrives (u.linkOff n) := by
  unfold State.memberStalled
  extract_lets st
  split
  · exact s.failSlot_drives n 6
  · exact .inl ((State.KeepsDrives.refl s).suspectSlot.ite (.refl s))

/-- The port contained, before its member is told. -/
def State.portContained (s : State) (n code : Nat) : State :=
  let s := ((s.wrStat F.DRV_PSTAT_CONTAINED n 1).bump (F.DRV_CONTAIN (drvOf n) (n % 8))).raiseDrv n 6 ERROR 3 (256 * code)
  let s := (s.linkOff n).updPort n fun p =>
    { p with contains := s.now :: p.contains.filter fun t => s.now < t + hourU 1, perstAt := none, trainFrom := none }
  if s.rd F.DRV_CFG_CONT_MAX < (s.port n).contains.length then
    ((s.wrStat F.DRV_PSTAT_HELD n 1).updPort n fun p => { p with recoverAt := none }).raiseDrv n 7 ERROR 4 0
  else s.updPort n fun p => { p with recoverAt := some (s.now + msU 100) }

theorem State.contain_eq {s : State} {n : Nat} (h : s.rdStat F.DRV_PSTAT_CONTAINED n = 0) (code : Nat) : s.contain n code =
    (((s.portContained n code).memberStalled n 2 (min (s.portContained n code).now
      (((s.portContained n code).oldestCmd n).getD (s.portContained n code).now))).endCommands n).settle n := by
  unfold State.contain
  exact if_neg (by rw [h]; decide)

theorem State.rd_raiseDrv (s : State) (n loc sev code extra : Nat) {g : Fld} (hg : statusBit g) : (s.raiseDrv n loc sev code extra).rd g = s.rd g :=
  (State.KeepsDrives.refl s).raise g hg

theorem State.portContained_status (s : State) {n : Nat} (hn : n < 48) (code : Nat) :
    (s.portContained n code).rdStat F.DRV_PSTAT_CONTAINED n = 1 ∧ (s.portContained n code).rdStat F.DRV_PSTAT_LINK_UP n = 0 := by
  have hcont : statusBit (F.DRV_PSTAT_CONTAINED (drvOf n) (n % 8)) := statusBit_of hn (by decide)
  have hlink : statusBit (F.DRV_PSTAT_LINK_UP (drvOf n) (n % 8)) := statusBit_of hn (by decide)
  unfold State.portContained
  extract_lets s1 s2
  have h1 : s1.rdStat F.DRV_PSTAT_CONTAINED n = 1 := by
    unfold s1 State.rdStat
    rw [State.rd_raiseDrv _ _ _ _ _ _ hcont, State.rd_bump_aside _ (.DRV_CONTAIN _ _) hcont]
    exact State.rd_wr_fits _ _ (show (6 : Nat) ≤ 6 ∧ 6 < 32 by decide) (show 1 < 2 ^ 1 by decide)
  have h2 : s2.rdStat F.DRV_PSTAT_CONTAINED n = 1 := by
    unfold s2 State.rdStat
    rw [State.rd_updPort]
    exact (s1.contained_linkOff n).trans h1
  have h2' : s2.rdStat F.DRV_PSTAT_LINK_UP n = 0 := by
    unfold s2 State.rdStat
    rw [State.rd_updPort]
    exact s1.linkUp_linkOff n
  clear_value s2
  unfold State.rdStat at h2 h2' ⊢
  split
  · rw [State.rd_raiseDrv _ _ _ _ _ _ hcont, State.rd_raiseDrv _ _ _ _ _ _ hlink, State.rd_updPort, State.rd_updPort]
    exact ⟨(s2.rd_wrStat F.DRV_PSTAT_HELD n 1 (sparedBy_status 7 7 (by decide) (by decide) (.inl (show 6 < 7 by decide)))).trans h2,
      (s2.rd_wrStat F.DRV_PSTAT_HELD n 1 (sparedBy_status 7 7 (by decide) (by decide) (.inl (show 2 < 7 by decide)))).trans h2'⟩
  · rw [State.rd_updPort, State.rd_updPort]
    exact ⟨h2, h2'⟩

/-- A contained port keeps CONTAINED and has no link. -/
theorem State.contain_status {s : State} {n : Nat} (hn : n < 48) (hup : s.portUp n = true) (code : Nat) :
    (s.contain n code).rdStat F.DRV_PSTAT_CONTAINED n = 1 ∧ (s.contain n code).rdStat F.DRV_PSTAT_LINK_UP n = 0 := by
  have hcont : statusBit (F.DRV_PSTAT_CONTAINED (drvOf n) (n % 8)) := statusBit_of hn (by decide)
  have hlink : statusBit (F.DRV_PSTAT_LINK_UP (drvOf n) (n % 8)) := statusBit_of hn (by decide)
  have hzero : s.rdStat F.DRV_PSTAT_CONTAINED n = 0 := beq_iff_eq.mp (Bool.and_eq_true_iff.mp hup).2
  obtain ⟨hc, hl⟩ := s.portContained_status hn code
  rw [State.contain_eq hzero]
  generalize s.portContained n code = u at hc hl ⊢
  generalize hv : u.memberStalled n 2 (min u.now ((u.oldestCmd n).getD u.now)) = v
  have hrest : ((v.endCommands n).settle n).KeepsDrives v := (State.KeepsDrives.refl v).endCommands.settle
  have hv2 : v.rdStat F.DRV_PSTAT_CONTAINED n = 1 ∧ v.rdStat F.DRV_PSTAT_LINK_UP n = 0 := by
    obtain h | ⟨x, hx, h⟩ := hv ▸ u.memberStalled_drives n 2 (min u.now ((u.oldestCmd n).getD u.now))
    · exact ⟨(h _ hcont).trans hc, (h _ hlink).trans hl⟩
    · exact ⟨(h _ hcont).trans ((x.contained_linkOff n).trans ((hx _ hcont).trans hc)), (h _ hlink).trans (x.linkUp_linkOff n)⟩
  exact ⟨(hrest _ hcont).trans hv2.1, (hrest _ hlink).trans hv2.2⟩

/-! ### Power -/

theorem State.wrStat_ports (s : State) (f : Nat → Nat → Fld) (n v : Nat) : (s.wrStat f n v).ports = s.ports := s.wr_ports _ v

theorem State.wrStat_want (s : State) (f : Nat → Nat → Fld) (n v : Nat) : (s.wrStat f n v).sbcWant = s.sbcWant := s.wr_sbcWant _ v

theorem State.wrStat_tim (s : State) (f : Nat → Nat → Fld) (n v : Nat) : (s.wrStat f n v).tim = s.tim := s.wr_tim _ v

theorem State.linkOff_ports (s : State) (n : Nat) : (s.linkOff n).ports = s.ports := by
  rw [State.linkOff, State.wrStat_ports, State.wrStat_ports, State.wrStat_ports, State.wrStat_ports]

theorem State.linkOff_want (s : State) (n : Nat) : (s.linkOff n).sbcWant = s.sbcWant := by
  rw [State.linkOff, State.wrStat_want, State.wrStat_want, State.wrStat_want, State.wrStat_want]

theorem State.updPort_want (s : State) (n : Nat) (f : Port → Port) : (s.updPort n f).sbcWant = s.sbcWant := rfl

theorem State.pairStandby_of {s : State} (h : s.halRole ≠ 2) : s.pairStandby = false := by
  rw [State.pairStandby, beq_eq_false_iff_ne]
  exact h

theorem State.setEn_want (s : State) (n : Nat) (on : Bool) : (s.setEn n on).sbcWant = (s.setOut n 1 on).sbcWant := by
  unfold State.setEn
  extract_lets u
  have hu : u.sbcWant = s.sbcWant := by
    unfold u
    split <;> rfl
  unfold State.setOut
  rw [hu]

theorem State.length_setEn (s : State) (n : Nat) (on : Bool) : (s.setEn n on).ports.length = s.ports.length := by
  unfold State.setEn
  extract_lets u
  show u.ports.length = s.ports.length
  unfold u
  split
  · exact List.length_modify ..
  · rfl

/-- The enable of a slot's supply on a unit that is not the standby. -/
theorem State.setPower_kept {s : State} (hrole : s.halRole ≠ 2) (n : Nat) (on : Bool) : (s.setPower n on).sbcWant = (s.setOut n 1 on).sbcWant ∧
    (s.setPower n on).ports.length = s.ports.length ∧ (s.setPower n on).now = s.now := by
  have hset : s.setPower n on = ((s.setEn n on).mirrorSlot n).haulNote := if_neg (by rw [State.pairStandby_of hrole]; decide)
  have hmirror : ((s.setEn n on).mirrorSlot n).Keeps _ (s.setEn n on) := State.Keeps.mirrorSlot (.refl _ _) (.refl _)
  have hnote : (((s.setEn n on).mirrorSlot n).haulNote).Keeps _ ((s.setEn n on).mirrorSlot n) := State.Keeps.haulNote (.refl _ _) (.refl _)
  refine ⟨?_, ?_, State.now_of_tim (State.Keeps.setPower (.refl _ s) (.refl _)).tim_eq⟩
  · rw [hset, hnote.sbcWant_eq, hmirror.sbcWant_eq, s.setEn_want]
  · rw [hset, hnote.ports_eq, hmirror.ports_eq, s.length_setEn]

theorem State.outSet_setPower {s : State} {n : Nat} (hrole : s.halRole ≠ 2) (hlen : s.sbcWant.length = 6) (hn : n < 48) (on : Bool) :
    (s.setPower n on).outSet n 1 = on :=
  (State.outSet_of_want (State.setPower_kept hrole n on).1 n 1).trans (State.outSet_setOut_same hlen hn 1 on)

/-- A slot whose supply comes up is POWERED and holds PERST_N for 100 ms. -/
theorem State.poweredUp_fields {s : State} {n : Nat} (hlen : n < s.ports.length) : (s.poweredUp n).rdStat F.DRV_PSTAT_POWERED n = 1 ∧
    ((s.poweredUp n).port n).perstAt = some (s.now + msU 100) := by
  unfold State.poweredUp
  extract_lets u
  have hpowered : u.rdStat F.DRV_PSTAT_POWERED n = 1 := by
    unfold u State.rdStat
    exact (State.rd_wrStat _ F.DRV_PSTAT_REJECT n 0 (sparedBy_status 12 9 (by decide) (by decide) (.inl (show 1 < 9 by decide)))).trans
      (State.rd_wr_fits _ _ (show (1 : Nat) ≤ 1 ∧ 1 < 32 by decide) (show 1 < 2 ^ 1 by decide))
  have hports : u.ports = s.ports := by
    unfold u
    rw [State.wrStat_ports, State.wrStat_ports]
  have hnow : u.now = s.now := State.now_of_tim (by unfold u; rw [State.wrStat_tim, State.wrStat_tim])
  clear_value u
  generalize hw : (u.updPort n fun p => { p with perstAt := some (u.now + msU 100), waitPower := false }) = w
  have hled := State.Keeps.syncLed (k := n) (.refl _ w) (.refl _)
  refine ⟨?_, ?_⟩
  · rw [State.rdStat, hled.rd_eq, ← hw, State.rd_updPort]
    exact hpowered
  · rw [State.port_of_ports hled.ports_eq, ← hw, State.port_updPort_same (by rw [hports]; exact hlen), hnow]

theorem State.powerOn_fields {s : State} {n : Nat} (hrole : s.halRole ≠ 2) (hwant : s.sbcWant.length = 6) (hn : n < 48) (hlen : n < s.ports.length) :
    (s.powerOn n).rdStat F.DRV_PSTAT_POWERED n = 1 ∧ ((s.powerOn n).port n).perstAt = some (s.now + msU 100) := by
  obtain ⟨-, hports, hnow⟩ := State.setPower_kept hrole n true
  have hon : s.powerOn n = (s.setPower n true).poweredUp n := if_pos (State.outSet_setPower hrole hwant hn true)
  rw [hon, ← hnow]
  exact State.poweredUp_fields (hports ▸ hlen)

/-- The link of a slot off and its drive held in reset. -/
theorem State.rd_holdPerst (s : State) (n : Nat) (g : Fld) : (s.holdPerst n).rd g = ((s.setOut n 0 false).linkOff n).rd g := by
  rw [State.holdPerst, State.rd_updPort]

theorem State.outSet_holdPerst (s : State) (n : Nat) : (s.holdPerst n).outSet n 1 = s.outSet n 1 := by
  rw [State.holdPerst, State.outSet_of_want (State.updPort_want _ _ _), State.outSet_of_want (State.linkOff_want _ _)]
  exact s.outSet_setOut_other n n (by decide) (by decide) (by decide) false

theorem State.length_holdPerst (s : State) (n : Nat) : (s.holdPerst n).ports.length = s.ports.length := by
  rw [State.holdPerst]
  exact (List.length_modify ..).trans (congrArg List.length (State.linkOff_ports _ n))

/-- PSTAT of a slot whose supply goes off. -/
def State.supplyOff (s : State) (n : Nat) : State :=
  ((s.wrStat F.DRV_PSTAT_POWERED n (bit (s.outSet n 1))).wrStat F.DRV_PSTAT_CONTAINED n 0).wrStat F.DRV_PSTAT_HELD n 0

theorem State.supplyOff_want (s : State) (n : Nat) : (s.supplyOff n).sbcWant = s.sbcWant := by
  rw [State.supplyOff, State.wrStat_want, State.wrStat_want, State.wrStat_want]

theorem State.supplyOff_ports (s : State) (n : Nat) : (s.supplyOff n).ports = s.ports := by
  rw [State.supplyOff, State.wrStat_ports, State.wrStat_ports, State.wrStat_ports]

theorem State.powerOff_eq (s : State) (n : Nat) : s.powerOff n =
    ((((s.setPower n false).supplyOff n).holdPerst n).updPort n fun p => { p with recoverAt := none, waitPower := false }).endCommands n := rfl

theorem State.powered_supplyOff {s : State} {n : Nat} (h : s.outSet n 1 = false) : (s.supplyOff n).rdStat F.DRV_PSTAT_POWERED n = 0 := by
  unfold State.supplyOff State.rdStat
  rw [h]
  exact (State.rd_wrStat _ F.DRV_PSTAT_HELD n 0 (sparedBy_status 7 7 (by decide) (by decide) (.inl (show 1 < 7 by decide)))).trans
    ((State.rd_wrStat _ F.DRV_PSTAT_CONTAINED n 0 (sparedBy_status 6 6 (by decide) (by decide) (.inl (show 1 < 6 by decide)))).trans
      (State.rd_wr_fits _ _ (show (1 : Nat) ≤ 1 ∧ 1 < 32 by decide) (show 0 < 2 ^ 1 by decide)))

theorem State.powerOff_fields {s : State} {n : Nat} (hrole : s.halRole ≠ 2) (hwant : s.sbcWant.length = 6) (hn : n < 48) :
    (s.powerOff n).rdStat F.DRV_PSTAT_POWERED n = 0 ∧ (s.powerOff n).outSet n 1 = false := by
  have hpowered : statusBit (F.DRV_PSTAT_POWERED (drvOf n) (n % 8)) := statusBit_of hn (by decide)
  have hout := State.outSet_setPower hrole hwant hn false
  rw [s.powerOff_eq]
  generalize s.setPower n false = u at hout ⊢
  have hoff := State.powered_supplyOff hout
  have hheld : ((u.supplyOff n).holdPerst n).outSet n 1 = false := ((u.supplyOff n).outSet_holdPerst n).trans ((State.outSet_of_want
    (u.supplyOff_want n) n 1).trans hout)
  generalize u.supplyOff n = v at hoff hheld ⊢
  have hlink : (v.holdPerst n).rdStat F.DRV_PSTAT_POWERED n = 0 := by
    rw [State.rdStat, State.rd_holdPerst, State.powered_linkOff, State.rd_setOut]
    exact hoff
  generalize v.holdPerst n = w at hlink hheld ⊢
  refine ⟨?_, ?_⟩
  · rw [State.rdStat, (State.KeepsDrives.refl _).endCommands _ hpowered, State.rd_updPort]
    exact hlink
  · rw [State.outSet_of_want (State.Keeps.endCommands (.refl _ _) (.refl _)).sbcWant_eq, State.outSet_of_want (State.updPort_want _ _ _)]
    exact hheld

/-! ### What the sideband chain captures -/

/-- The inputs captured last, slot by slot. -/
def State.captures (s : State) : List Nat := s.ports.map (·.captured)

theorem State.captures_of_ports {s t : State} (h : t.ports = s.ports) : t.captures = s.captures := by rw [State.captures, h, State.captures]

theorem State.captures_updPort (s : State) (n : Nat) {f : Port → Port} (hf : ∀ p, (f p).captured = p.captured := by intro p; rfl) :
    (s.updPort n f).captures = s.captures := by
  refine List.ext_getElem? fun i => ?_
  simp only [State.captures, State.updPort, List.getElem?_map, List.getElem?_modify]
  cases s.ports[i]? with
  | none => rfl
  | some p => by_cases h : n = i <;> simp [h, hf]

theorem State.captures_setCaptured (s : State) (n v : Nat) : (s.updPort n fun p => { p with captured := v }).captures = s.captures.set n v := by
  refine List.ext_getElem? fun i => ?_
  simp only [State.captures, State.updPort, List.getElem?_map, List.getElem?_modify, List.getElem?_set, List.length_map]
  by_cases h : n = i
  · subst h
    by_cases hn : n < s.ports.length
    · simp [hn]
    · simp [hn]
  · cases s.ports[i]? <;> simp [h]

theorem State.captures_holdPerst (s : State) (n : Nat) : (s.holdPerst n).captures = s.captures :=
  (State.captures_updPort _ n).trans (State.captures_of_ports (State.linkOff_ports _ n))

theorem State.captures_raiseDrv (s : State) (n loc sev code extra : Nat) : (s.raiseDrv n loc sev code extra).captures = s.captures :=
  State.captures_of_ports (State.Keeps.raiseDrv (.refl _ _) (.refl _)).ports_eq

theorem State.captures_failSlot (s : State) (n cause : Nat) : (s.failSlot n cause).captures = s.captures := by
  unfold State.failSlot
  extract_lets g s1 s2 s3 s4
  have hleave : ((s.leaveService n).putSlot n 4).ports = s.ports :=
    (State.Keeps.putSlot (.refl _ _) (.refl _)).ports_eq.trans (State.Keeps.leaveService (.refl _ s) (.refl _)).ports_eq
  have h1 : s1.ports = s.ports := (State.Keeps.writeMember (.refl _ _) (.refl _)).ports_eq.trans hleave
  have h2 : s2.ports = s.ports := (State.Keeps.raiseLay (.refl _ s1) (.refl _)).ports_eq.trans h1
  have hend : ((s2.endCommands n).enterWork g n).ports = s2.ports :=
    (State.Keeps.enterWork (.refl _ _) (.refl _)).ports_eq.trans (State.Keeps.endCommands (.refl _ s2) (.refl _)).ports_eq
  have h3 : s3.ports = s.ports := (State.Keeps.lossScan (.refl _ _) (.refl _)).ports_eq.trans (hend.trans h2)
  have h4 : s4.captures = s3.captures := by
    unfold s4
    split
    · exact (State.captures_updPort _ n).trans (s3.captures_holdPerst n)
    · rfl
  rw [State.captures_of_ports (State.Keeps.settle (.refl _ s4) (.refl _)).ports_eq, h4, State.captures_of_ports h3]

theorem State.captures_setPower (s : State) (n : Nat) (on : Bool) : (s.setPower n on).captures = s.captures := by
  unfold State.setPower
  split
  · rfl
  have hen : (s.setEn n on).captures = s.captures := by
    unfold State.setEn
    extract_lets u
    have hu : u.captures = s.captures := by
      unfold u
      split
      · exact State.captures_updPort _ n
      · rfl
    exact (State.captures_of_ports rfl).trans hu
  rw [State.captures_of_ports (State.Keeps.haulNote (.refl _ _) (.refl _)).ports_eq,
    State.captures_of_ports (State.Keeps.mirrorSlot (.refl _ _) (.refl _)).ports_eq, hen]

theorem State.captures_powerOff (s : State) (n : Nat) : (s.powerOff n).captures = s.captures := by
  rw [s.powerOff_eq, State.captures_of_ports (State.Keeps.endCommands (.refl _ _) (.refl _)).ports_eq, State.captures_updPort,
    State.captures_holdPerst, State.captures_of_ports (State.supplyOff_ports _ n),
    s.captures_setPower]

theorem State.captures_powerOn (s : State) (n : Nat) : (s.powerOn n).captures = s.captures := by
  unfold State.powerOn
  extract_lets u
  have hu : u.captures = s.captures := s.captures_setPower n true
  split
  · unfold State.poweredUp
    extract_lets v
    rw [State.captures_of_ports (State.Keeps.syncLed (.refl _ _) (.refl _)).ports_eq, State.captures_updPort]
    exact (State.captures_of_ports ((State.wrStat_ports ..).trans (State.wrStat_ports ..))).trans hu
  · exact hu

theorem State.captures_updSlot (s : State) (n : Nat) (f : Slot → Slot) : (s.updSlot n f).captures = s.captures := rfl

theorem State.captures_rejectDrive (s : State) (n reason : Nat) : (s.rejectDrive n reason).captures = s.captures := by
  unfold State.rejectDrive
  extract_lets u
  have hu : u.captures = s.captures := (State.captures_holdPerst _ n).trans
    ((State.captures_raiseDrv ..).trans (State.captures_of_ports (State.wrStat_ports ..)))
  exact (State.captures_of_ports (State.Keeps.syncLed (.refl _ _) (.refl _)).ports_eq).trans ((State.captures_updSlot ..).trans hu)

theorem State.captures_driveLost (s : State) (n : Nat) : (s.driveLost n).captures = s.captures := by
  unfold State.driveLost
  extract_lets u
  have hu : u.captures = s.captures := by
    unfold u State.memberGone
    extract_lets st
    split
    · exact s.captures_failSlot n 2
    · rfl
  rw [State.captures_of_ports (State.Keeps.settle (.refl _ _) (.refl _)).ports_eq]
  exact (State.captures_updSlot ..).trans ((u.captures_powerOff n).trans hu)

theorem State.captures_driveSeen (s : State) (n : Nat) : (s.driveSeen n).captures = s.captures := by
  unfold State.driveSeen
  extract_lets u
  have hu : u.captures = s.captures := (State.captures_raiseDrv ..).trans (State.captures_of_ports (State.wrStat_ports ..))
  split
  · exact hu
  split
  · unfold State.powerNvme
    split
    · exact (u.captures_rejectDrive n 1).trans hu
    · exact (u.captures_powerOn n).trans hu
  · exact (State.captures_updPort _ n).trans hu

theorem State.captures_driveRemoved (s : State) (n : Nat) : (s.driveRemoved n).captures = s.captures := by
  unfold State.driveRemoved
  extract_lets u
  have hu : u.captures = s.captures := (State.captures_driveLost ..).trans (State.captures_of_ports (State.wrStat_ports ..))
  rw [State.captures_raiseDrv, State.captures_of_ports (State.Keeps.syncLed (.refl _ _) (.refl _)).ports_eq]
  exact (State.captures_of_ports (State.wrStat_ports ..)).trans hu

/-- An input that is accepted leaves what was captured. -/
theorem State.captures_inputAccepted (s : State) (n i : Nat) (v : Bool) : (s.inputAccepted n i v).captures = s.captures := by
  unfold State.inputAccepted
  split
  · split
    · exact s.captures_driveRemoved n
    · exact s.captures_driveSeen n
  · split
    · exact (State.captures_raiseDrv ..).trans (s.captures_driveLost n)
    · split
      · exact State.captures_raiseDrv ..
      · rfl

theorem State.captures_sampleInput (s : State) (n i : Nat) (v : Bool) : (s.sampleInput n i v).captures = s.captures := by
  unfold State.sampleInput
  extract_lets p since u
  split
  · rfl
  have hu : u.captures = s.captures := State.captures_updPort _ n
  split
  · exact (State.captures_inputAccepted ..).trans ((State.captures_updPort _ n).trans hu)
  · exact hu

/-- The inputs of a slot are sampled and captured. -/
def State.sampleSlot (inputs : Nat) (s : State) (n : Nat) : State :=
  ([1, 0, 2, 3].foldl (fun s i => s.sampleInput n i (hasBit (inputs / 16 ^ n % 16) i)) s).updPort n fun p => { p with captured := inputs / 16 ^ n % 16 }

theorem State.captures_sampleSlot (inputs : Nat) (s : State) (n : Nat) :
    (State.sampleSlot inputs s n).captures = s.captures.set n (inputs / 16 ^ n % 16) :=
  (State.captures_setCaptured ..).trans (congrArg (List.set · n (inputs / 16 ^ n % 16))
    (foldl_keeps (f := State.captures) (fun t i => t.captures_sampleInput n i _) _ s))

theorem State.captures_sampled (inputs : Nat) (s : State) (k : Nat) {n : Nat} (hk : n < k) (hn : n < s.ports.length) :
    ((List.range k).foldl (State.sampleSlot inputs) s).captures[n]? = some (inputs / 16 ^ n % 16) := by
  have hlength : ∀ k, ((List.range k).foldl (State.sampleSlot inputs) s).captures.length = s.ports.length := fun k => by
    rw [foldl_keeps (f := fun t : State => t.captures.length) (fun t i => by rw [State.captures_sampleSlot, List.length_set]), State.captures,
      List.length_map]
  induction k with
  | zero => contradiction
  | succ k ih =>
    rw [List.range_succ, List.foldl_append, List.foldl_cons, List.foldl_nil, State.captures_sampleSlot, List.getElem?_set, hlength]
    by_cases h : k = n
    · subst h
      simp [hn]
    · rw [if_neg h]
      exact ih (by omega)

/-- The chain loaded and its input words written. -/
def State.sbcShifted (s : State) (inputs : Nat) : State := (List.range 6).foldl (fun s i => s.wr (F.CHN_SBC_IN_IN i) (inputs / 2 ^ (32 * i))) s.sbcLoad

theorem State.slotCount_of_part {s t : State} (h : t.part = s.part) : t.slotCount = s.slotCount := by rw [State.slotCount, h, State.slotCount]

theorem State.sbcShifted_kept (s : State) (inputs : Nat) : (s.sbcShifted inputs).ports = s.ports ∧ (s.sbcShifted inputs).slotCount = s.slotCount := by
  have hload : s.sbcLoad.Keeps _ s := State.Keeps.sbcLoad (.refl _ s) (.refl _)
  have hports : (s.sbcShifted inputs).ports = s.sbcLoad.ports := foldl_keeps (f := State.ports) (fun t _ => t.wr_ports _ _) _ _
  have hpart : (s.sbcShifted inputs).part = s.sbcLoad.part := foldl_keeps (f := State.part) (fun t _ => t.wr_part _ _) _ _
  exact ⟨hports.trans hload.ports_eq, State.slotCount_of_part (hpart.trans hload.part_eq)⟩

/-! ### Rejection, recovery and enumeration -/

/-- A drive that is rejected: the reason is in PSTAT and the slot has no drive. -/
theorem State.rejectDrive_fields (s : State) {n reason : Nat} (hn : n < 48) (hreason : reason < 16) :
    (s.rejectDrive n reason).rdStat F.DRV_PSTAT_REJECT n = reason ∧ ((s.rejectDrive n reason).slot n).drive = none := by
  have hreject : statusBit (F.DRV_PSTAT_REJECT (drvOf n) (n % 8)) := statusBit_of hn (by decide)
  unfold State.rejectDrive
  extract_lets u
  have hu : u.rdStat F.DRV_PSTAT_REJECT n = reason := by
    unfold u State.rdStat
    rw [State.rd_holdPerst, State.reject_linkOff, State.rd_setOut, State.rd_raiseDrv _ _ _ _ _ _ hreject]
    exact State.rd_wr_fits _ _ (show (9 : Nat) ≤ 12 ∧ 12 < 32 by decide) (show reason < 2 ^ 4 from hreason)
  clear_value u
  generalize hw : (u.updSlot n fun x => { x with drive := none }) = w
  have hled := State.Keeps.syncLed (k := n) (.refl _ w) (.refl _)
  refine ⟨?_, ?_⟩
  · rw [State.rdStat, hled.rd_eq, ← hw, State.rd_updSlot]
    exact hu
  · rw [State.slot_of_slots hled.slots_eq, ← hw]
    by_cases h : n < u.slots.length
    · rw [State.slot_updSlot_same _ h]
    · simp [State.slot, State.updSlot, List.getD_eq_getElem?_getD, h, Slot.cold]

/-- The state of an enumerated drive, before its slot is offered. -/
def State.enumerated (s : State) (n g : Nat) (x1 : Bool) : State :=
  (((((s.updPort n fun p => { p with trainFrom := none }).wrStat F.DRV_PSTAT_GEN n g).wrStat F.DRV_PSTAT_X1 n (bit x1)).wrStat F.DRV_PSTAT_LINK_UP n
    1)).wrStat
    F.DRV_PSTAT_READY n 1

theorem State.enumerated_fields {s : State} {n : Nat} (hlen : n < s.ports.length) (g : Nat) (x1 : Bool) :
    (s.enumerated n g x1).rdStat F.DRV_PSTAT_LINK_UP n = 1 ∧ (s.enumerated n g x1).rdStat F.DRV_PSTAT_READY n = 1 ∧
      ((s.enumerated n g x1).port n).trainFrom = none := by
  unfold State.enumerated State.rdStat
  refine ⟨?_, State.rd_wr_fits _ _ (show (8 : Nat) ≤ 8 ∧ 8 < 32 by decide) (show 1 < 2 ^ 1 by decide), ?_⟩
  · exact (State.rd_wrStat _ F.DRV_PSTAT_READY n 1 (sparedBy_status 8 8 (by decide) (by decide) (.inl (show 2 < 8 by decide)))).trans
      (State.rd_wr_fits _ _ (show (2 : Nat) ≤ 2 ∧ 2 < 32 by decide) (show 1 < 2 ^ 1 by decide))
  · rw [State.port_of_ports (State.wrStat_ports ..), State.port_of_ports (State.wrStat_ports ..), State.port_of_ports (State.wrStat_ports ..),
      State.port_of_ports (State.wrStat_ports ..), State.port_updPort_same hlen]

/-- The event of a drive with a lesser link. -/
def State.linkNoted (s : State) (n g : Nat) (x1 : Bool) : State :=
  if x1 || g < s.rd F.DRV_CFG_MAX_GEN then s.raiseDrv n 5 NOTICE 2 (256 * g + 1024 * bit x1) else s

theorem State.linkNoted_kept (s : State) (n g : Nat) (x1 : Bool) : (s.linkNoted n g x1).KeepsDrives s ∧ (s.linkNoted n g x1).ports = s.ports := by
  unfold State.linkNoted
  split
  · exact ⟨(State.KeepsDrives.refl s).raise, (State.Keeps.raiseDrv (.refl _ s) (.refl _)).ports_eq⟩
  · exact ⟨.refl s, rfl⟩

end Sys2Proof.Machine

namespace Sys2Proof

open Machine

theorem driveLinkDown_contains : ∀ (s : State) (slot : Nat),
    (slot < 48) →
    (s.portUp slot = true) →
    Completes (.driveLinkDown slot) s (fun t =>
      (t.rdStat F.DRV_PSTAT_CONTAINED slot = 1) ∧
      (t.rdStat F.DRV_PSTAT_LINK_UP slot = 0)) := by
  intro s slot hn hup
  generalize hu : s.raiseDrv slot 4 NOTICE 1 0 = u
  have hkept : u.KeepsDrives s := hu ▸ (State.KeepsDrives.refl s).raise
  have huup : u.portUp slot = true := by
    have hlink : statusBit (F.DRV_PSTAT_LINK_UP (drvOf slot) (slot % 8)) := statusBit_of hn (by decide)
    have hcont : statusBit (F.DRV_PSTAT_CONTAINED (drvOf slot) (slot % 8)) := statusBit_of hn (by decide)
    rw [State.portUp, State.rdStat, State.rdStat, hkept _ hlink, hkept _ hcont]
    exact hup
  refine .of_exec (t := u.contain slot 3) ?_ (State.contain_status hn huup 3)
  rw [exec, execDriveLinkDown, if_pos hup, hu]

theorem drvNonpostedTimeout_contains : ∀ (s : State) (slot : Nat),
    (slot < 48) →
    (s.portUp slot = true) →
    Completes (.drvNonpostedTimeout slot) s (fun t =>
      (t.rdStat F.DRV_PSTAT_CONTAINED slot = 1)) := by
  intro s slot hn hup
  refine .of_exec (t := s.contain slot 6) ?_ (State.contain_status hn hup 6).1
  rw [exec, execDrvNonpostedTimeout, if_pos hup]

theorem containmentRecovery_resets : ∀ (s : State) (slot : Nat),
    (slot < 48) →
    (s.dueOpt (s.port slot).recoverAt = true) →
    Completes (.containmentRecovery slot) s (fun t =>
      (t.rdStat F.DRV_PSTAT_CONTAINED slot = 0) ∧
      ((t.port slot).perstAt = some (s.now + msU 1)) ∧
      ((t.port slot).recoverAt = none)) := by
  intro s slot hn hdue
  have hcont : statusBit (F.DRV_PSTAT_CONTAINED (drvOf slot) (slot % 8)) := statusBit_of hn (by decide)
  have hlen : slot < s.ports.length := State.lt_ports_of_due (f := Port.recoverAt) rfl hdue
  generalize hu : ((s.wrStat F.DRV_PSTAT_CONTAINED slot 0).holdPerst slot).bump (F.DRV_RETRAIN (drvOf slot) (slot % 8)) = u
  have hstat : u.rdStat F.DRV_PSTAT_CONTAINED slot = 0 := by
    rw [← hu, State.rdStat, State.rd_bump_aside _ (.DRV_RETRAIN _ _) hcont, State.rd_holdPerst, State.contained_linkOff, State.rd_setOut]
    exact State.rd_wr_fits _ _ (show (6 : Nat) ≤ 6 ∧ 6 < 32 by decide) (show 0 < 2 ^ 1 by decide)
  have hkept : u.now = s.now ∧ u.ports.length = s.ports.length := by
    rw [← hu]
    have hheld : ((s.wrStat F.DRV_PSTAT_CONTAINED slot 0).holdPerst slot).tim = s.tim :=
      (State.Keeps.holdPerst (.refl _ _) (.refl _)).tim_eq.trans (State.wrStat_tim ..)
    refine ⟨State.now_of_tim ?_, ?_⟩
    · rw [State.bump, State.bumpBy, State.wr_tim, hheld]
    · rw [State.bump, State.bumpBy, State.wr_ports, State.length_holdPerst, State.wrStat_ports]
  refine .of_exec (t := u.updPort slot fun p => { p with recoverAt := none, perstAt := some (u.now + msU 1) }) ?_ ⟨?_, ?_, ?_⟩
  · rw [exec, execContainmentRecovery, if_pos hdue]
    rw [← hu]
  · rw [State.rdStat, State.rd_updPort]
    exact hstat
  · rw [State.port_updPort_same (hkept.2 ▸ hlen), hkept.1]
  · rw [State.port_updPort_same (hkept.2 ▸ hlen)]

theorem perstReleaseTimer_trains : ∀ (s : State) (slot : Nat),
    (slot < 48) →
    s.sbcWant.length = 6 →
    (s.dueOpt (s.port slot).perstAt = true) →
    Completes (.perstReleaseTimer slot) s (fun t =>
      ((t.port slot).trainFrom = some s.now) ∧
      (t.outSet slot 0 = true)) := by
  intro s slot hn hwant hdue
  have hlen : slot < s.ports.length := State.lt_ports_of_due (f := Port.perstAt) rfl hdue
  refine .of_exec (t := (s.setOut slot 0 true).updPort slot fun p => { p with perstAt := none, trainFrom := some s.now }) ?_ ⟨?_, ?_⟩
  · rw [exec, execPerstReleaseTimer, if_pos hdue]
  · rw [State.port_updPort_same (s := s.setOut slot 0 true) (show slot < s.ports.length from hlen)]
  · rw [State.outSet_of_want (State.updPort_want _ _ _), State.outSet_setOut_same hwant hn]

theorem driveEnumerated_serves : ∀ (s : State) (slot : Nat) (f : DriveFound),
    (slot < 48) →
    ((s.port slot).trainFrom.isSome = true) →
    (s.driveRefusal slot f = none) →
    Completes (.driveEnumerated slot f) s (fun t =>
      (t.rdStat F.DRV_PSTAT_LINK_UP slot = 1) ∧
      (t.rdStat F.DRV_PSTAT_READY slot = 1) ∧
      ((t.port slot).trainFrom = none)) := by
  intro s slot f hn htrain hrefuse
  have hlen : slot < s.ports.length := State.lt_ports_of_ne fun h => by rw [h] at htrain; exact absurd htrain (by decide)
  obtain ⟨hlink, hready, hfrom⟩ := State.enumerated_fields hlen (f.gen.getD 0) f.x1
  generalize hu : s.enumerated slot (f.gen.getD 0) f.x1 = u at hlink hready hfrom
  obtain ⟨hnoted, hports⟩ := u.linkNoted_kept slot (f.gen.getD 0) f.x1
  generalize hv : u.linkNoted slot (f.gen.getD 0) f.x1 = v at hnoted hports
  have hend : ((v.offer slot f.record).issueWaiting).KeepsDrives u := hnoted.offer.issueWaiting
  have hends : ((v.offer slot f.record).issueWaiting).ports = u.ports :=
    (State.Keeps.issueWaiting (.refl _ _) (.refl _)).ports_eq.trans ((State.Keeps.offer (.refl _ v) (.refl _)).ports_eq.trans hports)
  refine .of_exec (t := (v.offer slot f.record).issueWaiting) ?_
    ⟨(hend _ (statusBit_of hn (by decide))).trans hlink, (hend _ (statusBit_of hn (by decide))).trans hready, ?_⟩
  · rw [exec, execDriveEnumerated, if_neg (by rw [Option.isNone_eq_false_iff.mpr htrain]; decide), hrefuse, ← hv, ← hu]
    rfl
  · rw [State.port_of_ports hends, hfrom]

theorem driveLinkTrainingTimeout_rejects : ∀ (s : State) (slot : Nat) (t0 : Nat),
    (slot < 48) →
    ((s.port slot).trainFrom = some t0) →
    (s.due (t0 + msU 100) = true) →
    Completes (.driveLinkTrainingTimeout slot) s (fun t =>
      (t.rdStat F.DRV_PSTAT_REJECT slot = 8) ∧
      ((t.slot slot).drive = none)) := by
  intro s slot t0 hn htrain hdue
  refine .of_exec (t := s.rejectDrive slot 8) ?_ (s.rejectDrive_fields hn (by decide))
  rw [exec, execDriveLinkTrainingTimeout, htrain]
  exact congrArg Host.Outcome.next (if_pos hdue)

theorem drvPowerOn_powers : ∀ (s : State) (slot : Nat),
    (slot < 48) →
    (slot < s.ports.length) →
    (s.reloading (drvOf slot) = false) →
    (s.halRole ≠ 2) →
    s.sbcWant.length = 6 →
    (s.isSet F.DRV_CFG_AUTO_POWER = false) →
    (s.rdStat F.DRV_PSTAT_PRSNT slot = 1) →
    (s.rdStat F.DRV_PSTAT_POWERED slot = 0) →
    (hasBit (s.port slot).accepted 1 = false) →
    Completes (.drvPowerOn slot) s (fun t =>
      (t.rdStat F.DRV_PSTAT_POWERED slot = 1) ∧
      ((t.port slot).perstAt = some (s.now + msU 100))) := by
  intro s slot hn hlen hreload hrole hwant hauto hpresent hoff hmated
  refine .of_exec (t := s.powerOn slot) ?_ (State.powerOn_fields hrole hwant hn hlen)
  rw [exec, execDrvPowerOn, State.atWindow, hreload, if_neg (by decide), State.powerOnOrder, hauto, hpresent, hoff, if_pos (by decide), State.powerNvme,
    hmated, if_neg (by decide)]

theorem drvPowerOff_ends : ∀ (s : State) (slot : Nat),
    (slot < 48) →
    (s.reloading (drvOf slot) = false) →
    (s.halRole ≠ 2) →
    s.sbcWant.length = 6 →
    ((s.slot slot).state = 4) →
    Completes (.drvPowerOff slot) s (fun t =>
      (t.rdStat F.DRV_PSTAT_POWERED slot = 0) ∧
      (t.outSet slot 1 = false)) := by
  intro s slot hn hreload hrole hwant hfailed
  obtain ⟨hstat, hout⟩ := State.powerOff_fields hrole hwant hn
  refine .of_exec (t := (s.powerOff slot).settle slot) ?_ ⟨?_, ?_⟩
  · rw [exec, execDrvPowerOff, State.atWindow, hreload, if_neg (by decide), State.powerOffOrder, hfailed]
    exact congrArg Host.Outcome.next (if_pos (by simp))
  · have hpowered : statusBit (F.DRV_PSTAT_POWERED (drvOf slot) (slot % 8)) := statusBit_of hn (by decide)
    rw [State.rdStat, (State.KeepsDrives.refl _).settle _ hpowered]
    exact hstat
  · rw [State.outSet_settle _ _ _ (by decide), hout]

theorem driveStageTimer_ends : ∀ (s : State) (i t0 : Nat),
    (s.stage = some (i, t0)) →
    (s.due t0 = true) →
    (s.slotCount ≤ 8 * (i + 1)) →
    Completes .driveStageTimer s (fun t =>
      (t.stage = none) ∧
      (t.drvPowered = true)) := by
  intro s i t0 hstage hdue hlast
  generalize hu : (((List.range 8).map fun j => 8 * i + j).filter fun n => n < s.slotCount && (s.port n).accepted % 4 = 0).foldl (fun s n =>
    s.powerOn n) s = u
  have hcount : u.slotCount = s.slotCount := hu ▸ foldl_keeps (f := State.slotCount)
    (fun t n => State.slotCount_of_part (State.Keeps.powerOn (.refl _ t) (.refl _)).part_eq) _ s
  refine .of_exec (t := { u with stage := none, drvPowered := true }) ?_ ⟨rfl, rfl⟩
  rw [exec, execDriveStageTimer, hstage]
  simp only [hdue, Bool.not_true, Bool.false_eq_true, if_false, hu, hcount, if_pos hlast]

theorem sbcFrame_captures : ∀ (s : State) (inputs : Nat),
    Completes (.sbcFrame inputs) s (fun t =>
      ((List.range (min s.slotCount s.ports.length)).all (fun (n : Nat) => (t.port n).captured == inputs / 16 ^ n % 16) = true)) := by
  intro s inputs
  obtain ⟨hports, hcount⟩ := s.sbcShifted_kept inputs
  have hexec : execSbcFrame inputs s = .next ((List.range (s.sbcShifted inputs).slotCount).foldl (State.sampleSlot inputs) (s.sbcShifted inputs)) := by
    rw [execSbcFrame]
    rfl
  rw [hcount] at hexec
  generalize s.sbcShifted inputs = u at hexec hports
  have hcaptured : ∀ n, n < s.slotCount → n < s.ports.length →
      ((List.range s.slotCount).foldl (State.sampleSlot inputs) u).captures[n]? = some (inputs / 16 ^ n % 16) := fun n hslot hport =>
    State.captures_sampled inputs u s.slotCount hslot (by rw [hports]; exact hport)
  generalize (List.range s.slotCount).foldl (State.sampleSlot inputs) u = t at hexec hcaptured
  refine .of_exec (t := t) (by rw [exec, hexec]) (List.all_eq_true.mpr fun n hn => beq_iff_eq.mpr ?_)
  obtain ⟨hslot, hport⟩ := Nat.lt_min.mp (List.mem_range.mp hn)
  have hmap := hcaptured n hslot hport
  rw [State.captures, List.getElem?_map] at hmap
  obtain ⟨p, hp, hval⟩ := Option.map_eq_some_iff.mp hmap
  rw [State.port, List.getD_eq_getElem?_getD, hp, Option.getD_some]
  exact hval

/-- Settles O31: the storage work beside a port leaves its status but the count of quarantined tags, and leaves what the chain captured. -/
theorem drivePorts : Obligations.DrivePorts :=
  ⟨driveLinkDown_contains, drvNonpostedTimeout_contains, containmentRecovery_resets, perstReleaseTimer_trains, driveEnumerated_serves,
    driveLinkTrainingTimeout_rejects, drvPowerOn_powers, drvPowerOff_ends, driveStageTimer_ends, sbcFrame_captures⟩

end Sys2Proof
end
